-- ==== Sys2Proof/Word.lean ====
section
/-! DEFINITION. The word types of the TP2416 model. -/

namespace Sys2Proof

/-- One byte of a payload, a packet or a memory. -/
abbrev Byte := BitVec 8

/-- One word of the BAR0 register space (R8). -/
abbrev Word := BitVec 32

/-- One 64-bit word of engine registers, data memory and state memory (R515). -/
abbrev DWord := BitVec 64

end Sys2Proof
end

