-- ==== Sys2Proof/Syntax.lean ====
section
/-! DEFINITION. The commands of the TP2416: one constructor for each row of the table of operations and events, with its operands. An
operand is what the sender, the board or the line supplies: a host interface and what it writes, a mailbox, the outcome of an
analogue measurement. -/

namespace Sys2Proof

/-- A host interface, in the order in which accesses of one control cycle are taken (R652, R653). -/
inductive Iface where
  | pcie | spi | mdio | i2c
  deriving DecidableEq, Repr

/-- The place of an interface in the order of R653. -/
def Iface.idx : Iface → Nat
  | .pcie => 0
  | .spi => 1
  | .mdio => 2
  | .i2c => 3

/-- The corrections of one ADC slice (R103): comparator, delay trim in 25 fs, offset in 1/256 LSB, gain in 2⁻¹⁴, the 8 FIR taps at
offsets −3 to +4 in 2⁻¹², and the device time in ns of the last passing calibration. -/
structure SliceCal where
  comparator : Nat := 0
  trim : Int := 0
  offset : Int := 0
  gain : Nat := 0x4000
  fir : List Int := [0, 0, 0, 4096, 0, 0, 0, 0]
  passedAt : Nat := 0
  deriving DecidableEq, Repr

/-- The residuals of a slice against its reference (R111), magnitudes: offset in 1/1000 LSB, gain in ppm, sampling instant in fs, magnitude of the
corrected response at 70 GHz in ppm. -/
structure Residual where
  offset : Nat := 0
  gain : Nat := 0
  timing : Nat := 0
  bandwidth : Nat := 0
  deriving DecidableEq, Repr

/-- What a foreground calibration found on one ADC (R118): for each of the 65 slices in order its corrections and residuals, and the 64 tap trims. -/
structure FgAdc where
  slices : List (SliceCal × Residual)
  taps : List Int
  deriving DecidableEq, Repr

/-- What a foreground calibration found on one DAC (R127, R128): for each of the 4 sub-DACs in order the phase trim in 25 fs steps, and how far from its
place the phase settled, in fs. -/
structure FgDac where
  trims : List Int
  settled : List Nat
  deriving DecidableEq, Repr

/-- What a host or media lane measured since the last report (R576, R595, R612, R614): slicer SNR in 0.01 dB and the eye heights in mV where an update
fell due, the pattern bits compared and in error, inner codewords, the bits that the inner decoder changed, the codewords whose parity failed, α
in 1/64; the bits received in the local frame on a lane of the module path, after the inner decoder, and how many its transmitter sends. -/
structure LaneMeas where
  lane : Nat
  snr : Option Nat := none
  eyes : Nat × Nat × Nat := (0, 0, 0)
  patBits : Nat := 0
  patErrs : Nat := 0
  innerCw : Nat := 0
  innerBits : Nat := 0
  innerUncorr : Nat := 0
  alpha : Option Nat := none
  bits : List Bool := []
  due : Nat := 0
  deriving DecidableEq, Repr

/-- What an Ethernet port shows at its first lane (R581, R585): Local Fault and Remote Fault received, skew in 0.1 ns. -/
structure PortMeas where
  lane : Nat
  lf : Bool
  rf : Bool
  skew : Nat
  deriving DecidableEq, Repr

/-- The 257-bit transcoded blocks that an Ethernet client has due on the line in the frame that starts, in order; none where nothing is due (R389, R390). -/
structure ClientFrame where
  turnout : Nat
  items : List (Option Nat)
  deriving DecidableEq, Repr

/-- The slots of a turnout's members in the frame received, in member order: 6,250 bits each, and whether one of them has the uncorrectable mark
(R392). -/
structure RillFrame where
  turnout : Nat
  slots : List (Nat × Bool)
  deriving DecidableEq, Repr

/-- What an Ethernet client's egress has in the local frame that ends: the 66-bit blocks of its stream from the line, and how many its lanes send (R390). -/
structure EthFrame where
  turnout : Nat
  blocks : List (BitVec 66)
  due : Nat
  deriving DecidableEq, Repr

/-- What the line side measured in the local frame that ends at a boundary: for each ADC the clipped samples, the dsp-cycles with one
and the RMS of the corrected samples (LSB); for each DAC the largest sub-DAC timing error (25 fs) and the samples that the furrow filters gave it, in 2⁻²⁰
of the amplitude of a symbol of energy 1, XI, XQ, YI, YQ; 257-bit blocks with a marked bit that no lost slot touches; the TSI waits of turnouts as (turnout, least, greatest);
what lanes and ports show; what clients have due in the frame that starts; what Ethernet clients and rill-link lanes got in the one that
ends. -/
structure FrameMeas where
  clipped : List Nat := []
  clipCycles : List Nat := []
  rms : List Nat := []
  muxErr : List Nat := []
  wave : List (List Int) := []
  ethMarked : Nat := 0
  waits : List (Nat × Nat × Nat) := []
  lanes : List LaneMeas := []
  ports : List PortMeas := []
  clients : List ClientFrame := []
  ethernet : List EthFrame := []
  rills : List RillFrame := []
  deriving DecidableEq, Repr

/-- One codeword. Of a Terrace codeword the LLRs of its bits in the order sent, each before the demapper limits it, with whether the equaliser window of its
symbol holds a clipped sample (R156, R157). Of a frame of the specifications of R326: whether residual errors are detected, the bits corrected (R327). -/
inductive CwResult where
  | terrace (llrs : List (Int × Bool))
  | interop (residual : Bool) (corrected : Nat)
  deriving DecidableEq, Repr


/-- What the receive DSP measured on one furrow in an update period (R171): SNR and the SNR of each polarisation in 0.01 dB, dispersion in
ps/nm, DGD in 0.1 ps, PDL in 0.1 dB, frequency offset in MHz, and the noise floor in 0.1 dB where symbols without signal allowed it. -/
structure Figures where
  snr : Nat
  snrX : Nat
  snrY : Nat
  cd : Int
  dgd : Nat
  pdl : Nat
  freq : Int
  nf : Option Int := none
  deriving DecidableEq, Repr

/-- The bytes that an access covers: its address and how many (R8). -/
structure Span where
  addr : Nat
  size : Nat
  deriving DecidableEq, Repr

/-- What the detector makes of a burst's preamble: its power (0.1 dB) and its AFC estimate (MHz) (R216, R218). -/
structure Preamble where
  power : Int
  afc : Int
  deriving DecidableEq, Repr

/-- How far the burst in the main path has come when another captures it: its RSSI where its sync word has ended and its header is not judged yet, and its
codewords that were received whole (R223, R224). -/
structure Cut where
  latched : Option Int
  complete : Nat
  deriving DecidableEq, Repr

/-- What the equaliser has at the end of a burst: its final taps, and the means of the amplitudes 1 and 3 on XI, XQ, YI and YQ (R221, R270). -/
structure Equalised where
  taps : List Byte
  levels : List (Fin 65536 × Fin 65536)
  deriving DecidableEq, Repr

/-- A group's multiframe stream as it comes in, a marked byte as none, and the elapsed time at which the first symbol of its multiframe reached the ADC
inputs (R202, R349). -/
structure StreamRx where
  bytes : List (Option Byte)
  started : Nat
  deriving DecidableEq, Repr

/-- The ten bits of a character on a timing lane, and whether a comma in it stands at the alignment held (R601, R605). -/
structure LineCode where
  code : BitVec 10
  same : Bool
  deriving DecidableEq, Repr

/-- The commands, one for each row of the table. -/
inductive Instr where
  /-- COLD_RESET (R749): POR_N low, or VDD_AON below 0.70 V for 10 µs, resets everything including the always-on domain and reloads OTP. -/
  | coldReset (aon : Bool)
  /-- WARM_RESET (R749): RST_N low for at least 1 µs, or the delayed SYS_RESET, resets everything except the always-on domain and returns the access level to 0. -/
  | warmReset (pin perst : Bool)
  /-- PCIE_RESET (R749): PERST_N low resets only the PCIe endpoint; mailbox commands in progress complete. -/
  | pcieReset
  /-- RAIL_UNDERVOLTAGE (R763): A core rail stays below its undervoltage level for 10 µs and causes a warm reset with RST_CAUSE 5. -/
  | railUndervoltage (rail : Fin 4)
  /-- POWER_LOSS (R748): Power is removed from the rails and all state except OTP and the boot flash is lost. -/
  | powerLoss
  /-- RESET_RELEASE (R752): Release of POR_N samples the straps and starts the boot loader from the source BOOT_SEL selects. -/
  | resetRelease (bootSel : Fin 4) (mdioAd : Fin 32) (i2cAd : Fin 4) (io2High : Bool)
  /-- PCIE_LINK_UP (R750): The PCIe endpoint finishes link training and BAR0 becomes readable. -/
  | pcieLinkUp
  /-- FIRMWARE_READY (R755): A verified firmware image starts; FW_STATUS becomes READY, ALARM_N is released and pending mailbox rings are taken. -/
  | firmwareReady (hottest : Int)
  /-- BOOT_FAILED (R754): No flash slot passes verification; FW_STATUS becomes FAILED and the loader waits for a host download. -/
  | bootFailed
  /-- LINE_PLL_FIRST_LOCK (R639): The line PLL first locks after reset release, starting the local frame and multiframe timing with MFN 0. -/
  | linePllFirstLock
  /-- LOCAL_FRAME_BOUNDARY (R106): Every 5.000 µs a local frame boundary paces the framer, converter changes, overload checks and squelch release. -/
  | localFrameBoundary (m : FrameMeas)
  /-- MULTIFRAME_BOUNDARY (R639): Every 125 µs a local multiframe boundary advances MFN and drives per-multiframe actions. -/
  | multiframeBoundary (figs : List Figures)
  /-- COMMIT_BOUNDARY (R671): At the first multiframe boundary at least 250 µs after an accepted commit, every domain swaps in its shadow configuration. -/
  | commitBoundary
  /-- TXN_COMMIT_DONE (R672): Once the boundary has passed in every domain, the 16-byte commit response is written and the locks are released. -/
  | txnCommitDone (mb : Fin 8)
  /-- TIME_SECOND_BOUNDARY (R641): Device time reaches a whole second, driving marks, TIME_SET and telemetry. -/
  | timeSecondBoundary
  /-- MAILBOX_RING (R658): A write of RING to a mailbox doorbell sets PENDING and hands the command to Omrek. -/
  | mailboxRing (via : Iface) (mb : Fin 8)
  /-- MAILBOX_WINDOW_WRITE (R658): A write to a mailbox window is stored, or is discarded and counted in MB_WRITES_IGNORED while PENDING is 1. -/
  | mailboxWindowWrite (via : Iface) (mb : Fin 8) (off : Nat) (v : Word)
  /-- TX_FIELD_WRITE (R14): A direct write covering a TX field leaves it unchanged and increments TX_WRITE_IGNORED. -/
  | txFieldWrite (via : Iface) (addr : Nat) (v : Word)
  /-- W1C_WRITE (R12): A write of 1 to a W1C bit clears it unless an event sets it in the same cycle. -/
  | w1cWrite (via : Iface) (addr : Nat) (v : Word) (racing : Word)
  /-- STATS_SNAP (R17): Writing 1 to STATS_SNAP copies every counter of the block into its read shadow. -/
  | statsSnap (via : Iface) (addr : Nat) (v : Word)
  /-- SNAP_DONE (R17): The snapshot copy is made and its completion crosses back, so STATS_SNAP reads 0. -/
  | snapDone (addr : Nat)
  /-- RC_READ (R13): A read of an RC counter returns its value and clears it to 0. -/
  | rcRead (via : Iface) (span : Span) (racing : Nat)
  /-- LO_WORD_READ (R654): A read of the LO word of a pair replaces the interface's capture of its HI word. -/
  | loWordRead (via : Iface) (span : Span)
  /-- TIME_LO_READ (R791): A read of TIME_LO samples device time and captures TIME_HI and TIME_FRAC for that interface. -/
  | timeLoRead (via : Iface)
  /-- LOG_POP (R700): A write to LOG_POP removes the oldest drain-log record, subject to CHECK and EMPTY. -/
  | logPop (via : Iface) (v : Word)
  /-- LOG_THRESH (R701): A write of LOG_THRESH sets the threshold and may set or arm LOG_EVENTS.THRESH. -/
  | logThresh (via : Iface) (v : Word)
  /-- INT_MASK_WRITE (R796): A write of INT_MASK masks or unmasks groups and may send MSI-X messages for newly unmasked pending groups. -/
  | intMaskWrite (via : Iface) (hi : Bool) (v : Word)
  /-- MSIX_UNMASK (R796): Clearing the MSI-X vector or function mask sends the held messages whose PBA bits are set. -/
  | msixUnmask (vector : Option (Fin 32))
  /-- BAR2_READ (R487): A host read through BAR2 returns Reservoir parcel bytes at lowest priority, or zeros. -/
  | bar2Read (addr : Nat) (size : Nat)
  /-- REGISTER_WRITE (R11): A direct write to a register field with no behaviour of its own stores or discards the value by type. -/
  | registerWrite (via : Iface) (addr : Nat) (size : Nat) (vs : List Word)
  /-- QUENCH_DRAINED (R55): A stopping object becomes empty before its timeout and enters QUIESCED with a discard count of 0. -/
  | quenchDrained (kind : Fin 7) (idx : Fin 1024)
  /-- QUENCH_TIMEOUT (R51): The quench timeout expires; remaining work is discarded and counted and the object enters QUIESCED. -/
  | quenchTimeout (kind : Fin 7) (idx : Fin 1024) (left : Nat)
  /-- XQ_RECENTRE (R37): A phase-tracked crossing queue found a block or more off centre is re-centred and XQ_SLIP increments. -/
  | xqRecentre (lane : Fin 24) (shift : Option Int)
  /-- MODE_CHANGE_GATE (R81): After all quenches end, unused resources are gated and needed ones ungated, discarding packets in gated banks. -/
  | modeChangeGate
  /-- MODE_CHANGE_DONE (R81): Line acquisition or lane adaptation ends or its time runs out; STATE reads STABLE and a MODE_CHANGE record is written. -/
  | modeChangeDone
  /-- CLAMP_EPISODE_END (R88): A loop's target has stayed within bounds for 1 ms and the clamp episode ends. -/
  | clampEpisodeEnd (loop : Fin 6) (inst : Fin 33)
  /-- CAL_STEP_START (R108): The periodic timer starts a background calibration step that connects the spare to position Pk. -/
  | calStepStart (adc : Fin 4)
  /-- CAL_STEP_MEASURE_END (R111): The final measurement of a calibration step ends and the residuals are checked for pass or failure. -/
  | calStepMeasureEnd (adc : Fin 4) (res : Residual) (cal : SliceCal)
  /-- REQ_ROTATION_STEP (R116): The 1 ms cadence of a requested rotation starts its next calibration step. -/
  | reqRotationStep (adc : Fin 4)
  /-- FG_CAL_DONE (R119): A 40 ms foreground calibration ends and sets the new slice map or keeps the previous one. -/
  | fgCalDone (adcs : List FgAdc) (dacs : List FgDac)
  /-- ACQ_STEP_COMPLETE (R161): An acquisition step reaches its goal and the next step begins. -/
  | acqStepComplete (furrow : Option (Fin 32)) (freq cd : Int)
  /-- ACQ_STEP_TIMEOUT (R162): Step 3, 4 or 5 of a furrow misses its lock bit in time and steps 3 to 5 repeat once. -/
  | acqStepTimeout (furrow : Fin 32)
  /-- ACQ_TIMEOUT (R164): A full acquisition misses step 7 within ACQ_TIMEOUT_MS, writes ACQ_FAIL and restarts. -/
  | acqTimeout (furrow : Option (Fin 32))
  /-- FURROW_LOS_SET (R166): A furrow's in-band power stays below FLOS_THR over 10 µs and it enters LOS. -/
  | furrowLosSet (furrow : Fin 32)
  /-- FURROW_LOS_CLEAR (R166): A furrow's power stays above the level for 20 µs and it leaves LOS. -/
  | furrowLosClear (furrow : Fin 32)
  /-- LOCK_LOST (R167): A lock-loss condition holds for 100 µs; lock bits clear and a LOCK_LOST record is written. -/
  | lockLost (furrow : Fin 32) (condition : Fin 5)
  /-- FAST_REACQ_TIMEOUT (R168): Frame lock is not regained within 20 ms of the loss and a full acquisition starts. -/
  | fastReacqTimeout (furrow : Fin 32)
  /-- CYCLE_SLIP (R155): Carrier recovery detects a cycle slip at a pilot, corrects the phase and increments CYCLE_SLIPS. -/
  | cycleSlip (furrow : Fin 32)
  /-- AGC_STEP (R175): The per-furrow or burst AGC moves its gain by one 0.1 dB step within its bounds. -/
  | agcStep (inst : Fin 33) (target : Int)
  /-- ADAPT_TIMEOUT (R179): The far end does not confirm a request within 8 multiframes and the request is withdrawn. -/
  | adaptTimeout (furrow : Fin 32)
  /-- BURST_DETECT (R216): The burst main path detects a preamble, freezes AGC and starts AFC. -/
  | burstDetect (furrow : Fin 32) (mf : Nat) (pos power afc : Int)
  /-- BURST_SYNC_TIMEOUT (R219): No sync word within 96 symbols of detection; FALSE_DETECTS increments and the path re-arms or takes the shadow's detection. -/
  | burstSyncTimeout (furrow : Fin 32)
  /-- BURST_CAPTURE (R223): The shadow detector finds a preamble CAPTURE_DB stronger and the main path takes it over. -/
  | burstCapture (furrow : Fin 32) (mf : Nat) (pos : Int) (seen : Preamble) (cut : Cut)
  /-- BURST_HEADER (R220): A burst header is checked and the burst is accepted or discarded against the grant. -/
  | burstHeader (furrow : Fin 32) (header : BitVec 128) (arrival rssi : Int)
  /-- BURST_END (R216): At the end of the postamble the main path re-arms, writes back the seed and corrects EQD and FREQ_CORR. -/
  | burstEnd (furrow : Fin 32) (resid cd : Int) (snr : Fin 65536) (final : Equalised)
  /-- GRANT_MISSED (R233): A grant passes with no accepted burst from its leaf; MISS_RUN advances and the leaf may go SILENT, EVICTED or fail ranging. -/
  | grantMissed (leaf : Fin 1024)
  /-- GRANT_MAP_BUILD (R213): A firmware task builds the grant map of each group for the multiframe. -/
  | grantMapBuild (starts : List (Fin 4194304))
  /-- GMAP_LATE (R537): A grant map is not ready when the framer needs it and the previous map's grants are reused. -/
  | gmapLate
  /-- SURVEY_RETRY_WAIT (R231): A surveying leaf hears no LEAF_ASSIGN within 4 multiframes and lets 1 to 8 survey windows pass. -/
  | surveyRetryWait
  /-- LEAF_GRANT_TIMEOUT (R238): A ranging or joined leaf sees no grant naming it for 256 multiframes and returns to SURVEYING. -/
  | leafGrantTimeout
  /-- LEAF_BURST_TX (R275): The leaf sends a burst at the instant its grant and EQD set, driving TX_GATE. -/
  | leafBurstTx (furrow : Fin 32)
  /-- CODEWORD_DECODED (R318): The decoder finishes a codeword, delivers it corrected or marked uncorrectable and updates its counters. -/
  | codewordDecoded (furrow : Fin 32) (burst : Bool) (r : CwResult)
  /-- FRAME_HUNT_WORD (R355): In HUNT the deframer processes a 512-bit word, tracking FAW candidates and entering SYNC. -/
  | frameHuntWord (furrow : Fin 32) (bits : BitVec 575)
  /-- FRAME_RECEIVED (R356): In SYNC the deframer checks the FAW at the expected position and takes J. -/
  | frameReceived (furrow : Fin 32) (faws : List (BitVec 64)) (pq : Option (Byte × Byte))
  /-- LOF_SET (R357): OOF has held for LOF_FRAMES frame periods and LOF is set. -/
  | lofSet (furrow : Fin 32)
  /-- LOF_CLEAR (R357): SYNC has held for LOF_CLR_FRAMES frame periods and LOF clears. -/
  | lofClear (furrow : Fin 32)
  /-- MULTIFRAME_STREAM_RX (R349): The group multiframe stream is assembled and its MFN, STATUS, MODREQ and grants are taken. -/
  | multiframeStreamRx (group : Fin 8) (stream : StreamRx)
  /-- MGMT_MESSAGE_RX (R353): A management message is taken from the stream and acted on, skipped or dropped. -/
  | mgmtMessageRx (group : Fin 8)
  /-- PQ_UNSTABLE_CHECK (R363): Every 200 frames, 100 or more changes with no acceptance set PQ_UNSTABLE. -/
  | pqUnstableCheck
  /-- HOLDOFF_EXPIRE (R366): A hold-off of SF or SD ends and the request is raised if the defect persists. -/
  | holdoffExpire (defect : Fin 4)
  /-- WTR_EXPIRE (R367): The wait-to-restore timer ends and gives way to NR. -/
  | wtrExpire
  /-- SETTLING_END (R361): 200 ms after a switch SETTLING clears. -/
  | settlingEnd
  /-- RL_BLOCK_RX (R588): A 66-bit rill-link block is received and block lock is hunted or kept. -/
  | rlBlockRx (lane : Fin 16) (header : BitVec 2) (payload : BitVec 64)
  /-- RILLLINK_FRAME_RX (R393): A rill-link frame's headers are checked, positions fed to the TSI and lateness judged. -/
  | rilllinkFrameRx (lane : Fin 16) (early late : List Nat) (offset : Int)
  /-- RL_ALIGN_LOSS (R393): 4 consecutive frames lack a valid POS 0 header and the lane loses alignment. -/
  | rlAlignLoss (lane : Fin 16)
  /-- SLIP_FRAME_WRITE (R403): A tributary frame completes at a slip buffer's write side, dropping the oldest when 3 are held. -/
  | slipFrameWrite (turnout : Fin 256) (outbound dark : Bool)
  /-- SLIP_READ (R403): At a read boundary the slip buffer sends a frame, repeats the last or sends all ones. -/
  | slipRead (turnout : Fin 256) (outbound : Bool)
  /-- CIPHER_UNIT_TX (R428): A protected unit is sent with the next TX_CTR, or as key-exhausted idle. -/
  | cipherUnitTx (turnout : Fin 256) (plain : List Byte)
  /-- CIPHER_UNIT_RX (R435): At a received unit's header the cipher classifies it as idle, damaged, no context or replay. -/
  | cipherUnitRx (turnout : Fin 256) (header : BitVec 64) (marked : Bool)
  /-- CIPHER_UNIT_END (R435): At a unit's end the tag is verified and the unit is delivered, dropped, stomped or blocks the turnout. -/
  | cipherUnitEnd (turnout : Fin 256) (ciphertext : List Byte) (tag : BitVec 128) (pad : BitVec 7) (marked failed : Bool)
  /-- HOST_PORT_WORD_RX (R457): A word enters a host packet port's queue, or its packet is dropped whole when the queue is full. -/
  | hostPortWordRx (turnout : Fin 256) (taken : Nat) (last : Bool)
  /-- PACKET_ARRIVAL (R453): A frame's last byte reaches the intake and it is checked and given an arrival order number. -/
  | packetArrival (turnout : Fin 256) (arrived : List (BitVec 66)) (last : BitVec 66) (marked : Bool)
  /-- PARSE_START (R456): A packet takes a parse pipeline start in the fixed source order. -/
  | parseStart
  /-- PACKET_CLASSIFIED (R473): Parsing and lookups finish and the packet's action is chosen. -/
  | packetClassified (turnout : Fin 256)
  /-- ACTION_STAGE (R530): A packet leaves the action stage in its domain's order toward storage or a task. -/
  | actionStage (turnout : Fin 256)
  /-- BACKWATER_REENTRY (R477): A packet re-enters the intake for a further pass with BW_PASS increased. -/
  | backwaterReentry
  /-- HEADGATE_SELECT (R500): A turnout's egress has room and the selector picks its next packet. -/
  | headgateSelect (turnout : Fin 256)
  /-- PACKET_EGRESS (R503): A packet's last parcel is read at egress; TX counters rise and its parcels and descriptor return. -/
  | packetEgress (turnout : Fin 256)
  /-- OMREK_RESTART (R556): An uncorrectable Omrek SRAM read restarts the firmware and rolls back every open transaction. -/
  | omrekRestart (word : Nat)
  /-- SCRUB_WORD (R561): The background sweep reads a word and rewrites it corrected or stores its poison flag. -/
  | scrubWord (mem : Fin 14) (requested : Bool) (met : Bool)
  /-- SCRUB_LATE (R561): A sweep period ends before the sweep completes and SCRUB_LATE increments. -/
  | scrubLate (mem : Fin 14)
  /-- SCRUB_PASS_END (R563): A requested scrub pass ends and MEM_SCRUB is answered with its summary. -/
  | scrubPassEnd (mem : Fin 14)
  /-- TASK_DISPATCH (R518): The dispatcher starts a queued task on a free thread of an ACTION lateral. -/
  | taskDispatch
  /-- ORDER_GATE_ACQUIRE (R529): A waiting ordered atomic's task gets the gate once every earlier task has released it. -/
  | orderGateAcquire (engine : Fin 512) (thread : Fin 8)
  /-- TASK_COMMIT (R530): An ended task's emits are committed once every earlier packet of the domain has left. -/
  | taskCommit (turnout : Fin 256)
  /-- LATERAL_CONVERT (R540): A lateral whose old tasks have ended loads the new image and takes new tasks. -/
  | lateralConvert
  /-- ADD (R525): rd = ra + rb. -/
  | iAdd (engine : Fin 512) (thread : Fin 8)
  /-- SUB (R525): rd = ra − rb. -/
  | iSub (engine : Fin 512) (thread : Fin 8)
  /-- AND (R525): rd = ra and rb. -/
  | iAnd (engine : Fin 512) (thread : Fin 8)
  /-- OR (R525): rd = ra or rb. -/
  | iOr (engine : Fin 512) (thread : Fin 8)
  /-- XOR (R525): rd = ra xor rb. -/
  | iXor (engine : Fin 512) (thread : Fin 8)
  /-- SHL (R525): rd = ra shifted left by rb[5:0]. -/
  | iShl (engine : Fin 512) (thread : Fin 8)
  /-- SHR (R525): rd = ra shifted right logically by rb[5:0]. -/
  | iShr (engine : Fin 512) (thread : Fin 8)
  /-- SAR (R525): rd = ra shifted right arithmetically by rb[5:0]. -/
  | iSar (engine : Fin 512) (thread : Fin 8)
  /-- MUL (R525): rd = low 64 bits of ra × rb. -/
  | iMul (engine : Fin 512) (thread : Fin 8)
  /-- SLT (R525): rd = 1 when ra < rb signed, else 0. -/
  | iSlt (engine : Fin 512) (thread : Fin 8)
  /-- SLTU (R525): rd = 1 when ra < rb unsigned, else 0. -/
  | iSltu (engine : Fin 512) (thread : Fin 8)
  /-- ADDI (R525): rd = ra + sign-extended imm. -/
  | iAddi (engine : Fin 512) (thread : Fin 8)
  /-- ANDI (R525): rd = ra and zero-extended imm. -/
  | iAndi (engine : Fin 512) (thread : Fin 8)
  /-- ORI (R525): rd = ra or zero-extended imm. -/
  | iOri (engine : Fin 512) (thread : Fin 8)
  /-- XORI (R525): rd = ra xor zero-extended imm. -/
  | iXori (engine : Fin 512) (thread : Fin 8)
  /-- SHLI (R525): rd = ra shifted left by imm[5:0]. -/
  | iShli (engine : Fin 512) (thread : Fin 8)
  /-- SHRI (R525): rd = ra shifted right logically by imm[5:0]. -/
  | iShri (engine : Fin 512) (thread : Fin 8)
  /-- SARI (R525): rd = ra shifted right arithmetically by imm[5:0]. -/
  | iSari (engine : Fin 512) (thread : Fin 8)
  /-- LUI (R525): rd = sign-extended imm shifted left by 16. -/
  | iLui (engine : Fin 512) (thread : Fin 8)
  /-- BEQ (R525): Branch when ra equals rb. -/
  | iBeq (engine : Fin 512) (thread : Fin 8)
  /-- BNE (R525): Branch when ra differs from rb. -/
  | iBne (engine : Fin 512) (thread : Fin 8)
  /-- BLT (R525): Branch when ra < rb signed. -/
  | iBlt (engine : Fin 512) (thread : Fin 8)
  /-- BLTU (R525): Branch when ra < rb unsigned. -/
  | iBltu (engine : Fin 512) (thread : Fin 8)
  /-- BGE (R525): Branch when ra ≥ rb signed. -/
  | iBge (engine : Fin 512) (thread : Fin 8)
  /-- BGEU (R525): Branch when ra ≥ rb unsigned. -/
  | iBgeu (engine : Fin 512) (thread : Fin 8)
  /-- JAL (R525): rd = pc + 1 and jump by imm. -/
  | iJal (engine : Fin 512) (thread : Fin 8)
  /-- JR (R525): Jump to the pc in ra. -/
  | iJr (engine : Fin 512) (thread : Fin 8)
  /-- LDB (R526): Load 1 byte of data memory into rd. -/
  | iLdb (engine : Fin 512) (thread : Fin 8)
  /-- LDH (R526): Load 2 bytes of data memory into rd. -/
  | iLdh (engine : Fin 512) (thread : Fin 8)
  /-- LDW (R526): Load 4 bytes of data memory into rd. -/
  | iLdw (engine : Fin 512) (thread : Fin 8)
  /-- LDD (R526): Load 8 bytes of data memory into rd. -/
  | iLdd (engine : Fin 512) (thread : Fin 8)
  /-- STB (R551): Store 1 byte into data memory, merging the word. -/
  | iStb (engine : Fin 512) (thread : Fin 8)
  /-- STH (R551): Store 2 bytes into data memory, merging the word. -/
  | iSth (engine : Fin 512) (thread : Fin 8)
  /-- STW (R551): Store 4 bytes into data memory, merging the word. -/
  | iStw (engine : Fin 512) (thread : Fin 8)
  /-- STD (R526): Store 8 bytes into data memory. -/
  | iStd (engine : Fin 512) (thread : Fin 8)
  /-- PLB (R525): Load 1 packet byte into rd. -/
  | iPlb (engine : Fin 512) (thread : Fin 8)
  /-- PLH (R525): Load 2 packet bytes into rd. -/
  | iPlh (engine : Fin 512) (thread : Fin 8)
  /-- PLW (R525): Load 4 packet bytes into rd. -/
  | iPlw (engine : Fin 512) (thread : Fin 8)
  /-- PLD (R525): Load 8 packet bytes into rd. -/
  | iPld (engine : Fin 512) (thread : Fin 8)
  /-- PSB (R525): Store 1 byte into the packet. -/
  | iPsb (engine : Fin 512) (thread : Fin 8)
  /-- PSH (R525): Store 2 bytes into the packet. -/
  | iPsh (engine : Fin 512) (thread : Fin 8)
  /-- PSW (R525): Store 4 bytes into the packet. -/
  | iPsw (engine : Fin 512) (thread : Fin 8)
  /-- PSD (R525): Store 8 bytes into the packet. -/
  | iPsd (engine : Fin 512) (thread : Fin 8)
  /-- PADJ (R521): Remove or add bytes at the front of the packet. -/
  | iPadj (engine : Fin 512) (thread : Fin 8)
  /-- CRC (R525): Continue a CRC over bytes of data memory into rd. -/
  | iCrc (engine : Fin 512) (thread : Fin 8)
  /-- CSUM (R525): Ones'-complement sum of packet bytes into rd. -/
  | iCsum (engine : Fin 512) (thread : Fin 8)
  /-- OREAD (R529): Ordered atomic read of a state word under the order gate. -/
  | iOread (engine : Fin 512) (thread : Fin 8)
  /-- OADD (R529): Ordered atomic add to a state word under the order gate. -/
  | iOadd (engine : Fin 512) (thread : Fin 8)
  /-- OSWP (R529): Ordered atomic swap of a state word under the order gate. -/
  | iOswp (engine : Fin 512) (thread : Fin 8)
  /-- OCAS (R529): Ordered atomic compare-and-swap of a state word under the order gate. -/
  | iOcas (engine : Fin 512) (thread : Fin 8)
  /-- UREAD (R532): Unordered atomic read of a state word. -/
  | iUread (engine : Fin 512) (thread : Fin 8)
  /-- UADD (R532): Unordered atomic add to a state word. -/
  | iUadd (engine : Fin 512) (thread : Fin 8)
  /-- USWP (R532): Unordered atomic swap of a state word. -/
  | iUswp (engine : Fin 512) (thread : Fin 8)
  /-- UCAS (R532): Unordered atomic compare-and-swap of a state word. -/
  | iUcas (engine : Fin 512) (thread : Fin 8)
  /-- CSRR (R527): Read a CSR into rd. -/
  | iCsrr (engine : Fin 512) (thread : Fin 8)
  /-- CSRW (R527): Write ra into a CSR. -/
  | iCsrw (engine : Fin 512) (thread : Fin 8)
  /-- EMIT (R522): Emit a copy of the packet with the action word in ra. -/
  | iEmit (engine : Fin 512) (thread : Fin 8)
  /-- END (R520): The task ends and its emits await ordered commit. -/
  | iEnd (engine : Fin 512) (thread : Fin 8)
  /-- ORDREL (R529): The task releases its domain's order gate. -/
  | iOrdrel (engine : Fin 512) (thread : Fin 8)
  /-- LANE_SIGNAL_DETECT (R577): Lane amplitude stays above 80 mV for 10 µs and the receiver starts ADAPTING. -/
  | laneSignalDetect (lane : Fin 24)
  /-- LANE_SIGNAL_LOSS (R577): Lane amplitude stays below 60 mV for 10 µs and the receiver goes to NO_SIGNAL. -/
  | laneSignalLoss (lane : Fin 24)
  /-- LANE_ADAPT_LOCK (R577): The adapting receiver reaches its SNR threshold and enters LOCKED. -/
  | laneAdaptLock (lane : Fin 24) (snr : Fin 65536) (low : Fin 1024) (mid : Fin 1024) (high : Fin 1024)
  /-- LANE_ADAPT_FAIL (R577): 23 ms pass without the SNR threshold; adaptation restarts and ADAPT_FAILS increments. -/
  | laneAdaptFail (lane : Fin 24)
  /-- LANE_LOCK_LOSS (R803): A locked lane's SNR or clock recovery fails for 10 µs and it returns to ADAPTING. -/
  | laneLockLoss (lane : Fin 24)
  /-- CTLE_STEP (R578): Loop 3 moves the CTLE one step toward the best SNR within its bounds. -/
  | ctleStep (lane : Fin 24) (best : Fin 256)
  /-- PORT_ALIGN (R581): Every FEC lane gains marker lock with skew within 25 ns and the port becomes ALIGNED. -/
  | portAlign (lane : Fin 16) (skew : Fin 256)
  /-- PORT_ALIGN_LOSS (R581): A port leaves ALIGNED; ALIGN_LOST and ALIGN_LOSSES are recorded. -/
  | portAlignLoss (lane : Fin 16) (markers : BitVec 8) (skew : Fin 256)
  /-- RS_CODEWORD_RX (R582): An RS(544,514) codeword is decoded and counted. -/
  | rsCodewordRx (lane : Fin 16) (fixed : Option (Fin 16))
  /-- HI_SER_WINDOW (R583): A window of 8,192 codewords ends and HI_SER is set or cleared. -/
  | hiSerWindow (lane : Fin 16)
  /-- LANE_PSTATE_DONE (R591): A lane reaches its new power state and LANE_PSTATE is answered. -/
  | lanePstateDone (lane : Fin 24)
  /-- LANE_EXIT_TIMEOUT (R592): A lane leaving L1 or L2 does not reach LOCKED in time and LANE_PSTATE answers TIMEOUT. -/
  | laneExitTimeout (lane : Fin 24)
  /-- PAT_LOCK (R595): The pattern checker gains or loses PAT_LOCK. -/
  | patLock (lane : Fin 24) (gained : Bool)
  /-- TL_SYNC_GAIN (R601): A timing lane sees 3 commas at one alignment and gains SYNC. -/
  | tlSyncGain (tl : Fin 2)
  /-- TL_SYNC_LOSS (R601): 8 invalid characters in 256 lose SYNC. -/
  | tlSyncLoss (tl : Fin 2) (sig : Bool)
  /-- TL_REALIGN (R601): A comma at another alignment realigns the receiver in SYNC. -/
  | tlRealign (tl : Fin 2)
  /-- TL_MARK_RX (R602): A received /M/ latches the mark time and may correct device time. -/
  | tlMarkRx (tl : Fin 2) (err : Fin 401)
  /-- TOD_MESSAGE_RX (R602): A received time-of-day message is held or discarded. -/
  | todMessageRx (tl : Fin 2) (data : List Byte) (closed : Bool)
  /-- TOD_MESSAGE_TX (R600): 500 ms after a mark a timing lane sends the time-of-day message. -/
  | todMessageTx (tl : Fin 2)
  /-- MARK_SEEN_TIMEOUT (R602): 1.1 s after the last mark MARK_SEEN clears. -/
  | markSeenTimeout (tl : Fin 2)
  /-- MODULE_FALLBACK (R611): A pair's source fails and within 1 µs the partner transmitter falls back to SREF and idle or PRBS31Q. -/
  | moduleFallback (media : Fin 8) (host : Bool)
  /-- MODULE_FALLBACK_END (R611): The source has not failed for 10 µs and the transmitter carries the stream again. -/
  | moduleFallbackEnd (media : Fin 8) (host : Bool)
  /-- INNER_LOCK_LOSS (R614): The inner code loses lock on a RATE 9 media lane. -/
  | innerLockLoss (media : Fin 8)
  /-- MOD_MEASURE_DONE (R616): A module level measurement ends and returns ρ. -/
  | modMeasureDone (means : Fin 65536 × Fin 65536)
  /-- LEAF_MEASURE_DONE (R270): A hub leaf level measurement ends after N bursts or times out. -/
  | leafMeasureDone (leaf : Fin 1024)
  /-- REF_ACTIVITY_LOSS (R629): No edge arrives in time and ACTIVE clears for a reference. -/
  | refActivityLoss (ref : Fin 4)
  /-- REF_ACTIVITY_RETURN (R629): 16 consecutive periods with edges set ACTIVE again. -/
  | refActivityReturn (ref : Fin 4)
  /-- FREQ_GATE_END (R630): A frequency monitor gate ends and REF_OFS is updated, possibly disqualifying the reference. -/
  | freqGateEnd (ref : Fin 7) (ofs : Int)
  /-- REF_QUALIFY (R631): A reference has held within ACCEPT for QUAL_S seconds and qualifies. -/
  | refQualify (ref : Fin 7)
  /-- DPLL_LOCK (R635): The phase error stays within ±50 ns for 2 s and the DPLL enters LOCKED, completing the switch. -/
  | dpllLock
  /-- HISTORY_OK (R636): 60 s of LOCKED time gather and holdover history becomes valid. -/
  | historyOk
  /-- HOLDOVER_EXPIRE (R637): The holdover timer expires and the DPLL enters LOST. -/
  | holdoverExpire
  /-- FPI_EDGE (R644): An FPI edge is timestamped and accepted, ignored or realigns the flywheel. -/
  | fpiEdge (input : Fin 2)
  /-- FPI_MISS (R644): An expected FPI edge does not arrive and after 3 misses PRESENT clears. -/
  | fpiMiss (input : Fin 2)
  /-- TXN_IDLE_TIMEOUT (R667): An open transaction sees no command for 10 s and is rolled back. -/
  | txnIdleTimeout (mb : Fin 8)
  /-- GPIO_EDGE (R676): A selected edge on a GPIO pin sets its GPIO_EVENTS bit and may trigger Gauge or the tap. -/
  | gpioEdge (pin : Fin 16) (level : Bool)
  /-- GAUGE_TIMER_TRIGGER (R684): The Gauge timer or multiframe boundary triggers a sequence, or holds it pending. -/
  | gaugeTimerTrigger
  /-- GAUGE_CONVERSION_END (R687): A 1 µs conversion ends and its code goes into the channel's accumulator and tracker. -/
  | gaugeConversionEnd (code : Fin 4096) (beyond : Option Bool)
  /-- GAUGE_SEQUENCE_END (R685): A sequence ends and a pending trigger starts the next. -/
  | gaugeSequenceEnd
  /-- TAP_CAPTURE_START (R695): An armed tap capture starts on its trigger. -/
  | tapCaptureStart
  /-- TAP_CAPTURE_DONE (R695): The capture fills 16,384 samples per channel; DONE is set and TAP_T0 valid. -/
  | tapCaptureDone (runIn words : List (BitVec 64))
  /-- LOG_RECORD_WRITE (R696): The log writer takes a complete record from a writer queue and writes it, overwriting the oldest when full. -/
  | logRecordWrite (block : Fin 30)
  /-- SAMPLE_TAG (R716): A lateral's sampling interval ends and the next instruction is tagged. -/
  | sampleTag (lateral : Fin 32)
  /-- SAMPLE_RECORD_WRITE (R719): A tagged instruction reaches DONE or ends and its record enters the sample buffer. -/
  | sampleRecordWrite (lateral : Fin 32)
  /-- CHALLENGE_EXPIRE (R727): A test challenge nonce ends its 60 s validity. -/
  | challengeExpire
  /-- FI_TIMEOUT (R741): An injector's TIMEOUT_S expires and it stops. -/
  | fiTimeout (injector : Fin 8)
  /-- FI_REORDER_IDLE (R740): A REORDER scope is idle for 10 µs and the held unit is sent. -/
  | fiReorderIdle (injector : Fin 8)
  /-- SELFTEST_DONE (R738): A self-test ends and SELFTEST_RUN is answered with its result. -/
  | selftestDone (failed : Bool) (words : Nat) (mem : Fin 14) (inst : Fin 512) (first : BitVec 32)
  /-- OTP_WRITE_DONE (R732): An OTP write and its read-back end and OTP_PROGRAM is answered. -/
  | otpWriteDone (verified : Bool)
  /-- AVS_STEP (R758): Loop 4 sends VOUT_COMMAND to move a rail by 5 mV. -/
  | avsStep (rail : Fin 2) (target : Fin 1024) (acked : Bool)
  /-- PMBUS_RETRY (R759): 1 ms after a PMBus fault the transfer is retried; after 8 faults PMB_OK clears. -/
  | pmbusRetry (acked : Bool)
  /-- PMBUS_STATUS_POLL (R759): Every 10 ms STATUS_WORD is read from each regulator and faults are reported. -/
  | pmbusStatusPoll (oc uv : Bool)
  /-- THERMAL_SAMPLE (R761): Every 100 µs the power block compares the die sensors with the thresholds. -/
  | thermalSample (temps : List Int)
  /-- THROTTLE_STEP (R761): Every 1 ms loop 5 moves the enabled fabric clock fraction by 1/64. -/
  | throttleStep
  /-- THERMAL_SHUTDOWN (R762): The hottest sensor reaches SHUT_C for 1 ms; the line squelches and the data plane is held in reset. -/
  | thermalShutdown
  /-- SHUTDOWN_QUIESCED (R764): The quenches of an orderly shutdown end and the data plane is gated. -/
  | shutdownQuiesced
  /-- SHUTDOWN_SAFE_OFF (R764): SAFE_OFF is set, FW_STATUS becomes SHUTDOWN and SYS_SHUTDOWN is answered. -/
  | shutdownSafeOff
  /-- SYS_LATENCY_SET (R61): Stage fixed-latency EN and CD_TIER. -/
  | sysLatencySet (mb : Fin 8)
  /-- SYS_LATENCY_GET (R61): Return the fixed path totals, depth and EN. -/
  | sysLatencyGet (mb : Fin 8)
  /-- SYS_QUENCH_TIMEOUT_SET (R61): Stage the quench timeout. -/
  | sysQuenchTimeoutSet (mb : Fin 8)
  /-- SYS_MODE_SET (R98): Stage a mode and profile change and take the mode lock. -/
  | sysModeSet (mb : Fin 8)
  /-- SYS_MODE_GET (R98): Return MODE_STATUS. -/
  | sysModeGet (mb : Fin 8)
  /-- SYS_LOOP_BOUNDS_SET (R98): Stage the bounds of a loop instance. -/
  | sysLoopBoundsSet (mb : Fin 8)
  /-- SYS_LOOP_BOUNDS_GET (R98): Return a loop's committed bounds and current value. -/
  | sysLoopBoundsGet (mb : Fin 8)
  /-- GPIO_CFG_SET (R680): Stage a GPIO pin's configuration. -/
  | gpioCfgSet (mb : Fin 8)
  /-- GPIO_WRITE (R680): Drive levels on MODE 1 GPIO pins at once. -/
  | gpioWrite (mb : Fin 8)
  /-- GPIO_GET (R680): Return GPIO_IN, GPIO_OUT and GPIO_EVENTS. -/
  | gpioGet (mb : Fin 8)
  /-- OPT_BUS_CFG_SET (R680): Stage the optics SPI and I²C bus configuration. -/
  | optBusCfgSet (mb : Fin 8)
  /-- OPT_SPI_XFER (R677): Run a full-duplex transfer on the optics SPI bus. -/
  | optSpiXfer (mb : Fin 8)
  /-- OPT_I2C_XFER (R678): Run a write and optional read on the optics I²C bus. -/
  | optI2cXfer (mb : Fin 8)
  /-- GAUGE_CFG_SET (R707): Stage GAUGE_CFG and SCAN_MASK. -/
  | gaugeCfgSet (mb : Fin 8)
  /-- GAUGE_LIMIT_SET (R707): Stage a Gauge channel's limits. -/
  | gaugeLimitSet (mb : Fin 8)
  /-- GAUGE_TRIGGER (R685): Trigger a Gauge sequence, starting it or holding it pending. -/
  | gaugeTrigger (mb : Fin 8)
  /-- GAUGE_URGENT (R686): Convert one channel at once when the converter is idle. -/
  | gaugeUrgent (mb : Fin 8)
  /-- GAUGE_READ (R688): Read and optionally restart channel accumulators and trackers. -/
  | gaugeRead (mb : Fin 8)
  /-- TAP_CFG_SET (R707): Stage the monitor tap configuration. -/
  | tapCfgSet (mb : Fin 8)
  /-- TAP_ARM (R695): Arm a monitor tap capture. -/
  | tapArm (mb : Fin 8)
  /-- TAP_READ (R707): Return captured tap samples. -/
  | tapRead (mb : Fin 8)
  /-- LOG_TELEM_SET (R707): Stage the telemetry period. -/
  | logTelemSet (mb : Fin 8)
  /-- LOG_STATUS_GET (R707): Return the drain log status and counters. -/
  | logStatusGet (mb : Fin 8)
  /-- PERF_CFG_SET (R724): Stage sampling settings and device counter events. -/
  | perfCfgSet (mb : Fin 8)
  /-- PERF_LAT_CFG_SET (R724): Stage a lateral's counter events. -/
  | perfLatCfgSet (mb : Fin 8)
  /-- PERF_CLEAR (R710): Clear named performance counters and their saturated flags. -/
  | perfClear (mb : Fin 8)
  /-- PERF_SAMPLE_READ (R721): Remove and return up to 31 oldest sample records. -/
  | perfSampleRead (mb : Fin 8)
  /-- PERF_COUNTERS_GET (R724): Return device or lateral performance counters. -/
  | perfCountersGet (mb : Fin 8)
  /-- SYS_RESET (R767): Answer and perform a warm reset 1 ms later. -/
  | sysReset (mb : Fin 8)
  /-- SYS_SHUTDOWN (R764): Start an orderly shutdown. -/
  | sysShutdown (mb : Fin 8)
  /-- PWR_CFG_SET (R767): Stage the power configuration. -/
  | pwrCfgSet (mb : Fin 8)
  /-- PWR_STATUS_GET (R767): Return the power status, events and counters. -/
  | pwrStatusGet (mb : Fin 8)
  /-- INT_ROUTE_SET (R799): Stage an interrupt group's route. -/
  | intRouteSet (mb : Fin 8)
  /-- INT_STATUS_GET (R799): Return INT_STATUS and INT_MASK. -/
  | intStatusGet (mb : Fin 8)
  /-- TXN_BEGIN (R663): Open a transaction on the issuing mailbox. -/
  | txnBegin (mb : Fin 8)
  /-- TXN_COMMIT (R670): Accept and validate a commit, or refuse or roll it back. -/
  | txnCommit (mb : Fin 8)
  /-- TXN_ROLLBACK (R668): Discard the open transaction and release its locks. -/
  | txnRollback (mb : Fin 8)
  /-- TXN_STATUS (R680): Return a mailbox's transaction status. -/
  | txnStatus (mb : Fin 8)
  /-- LINE_RX_CFG_SET (R197): Stage the receive line configuration. -/
  | lineRxCfgSet (mb : Fin 8)
  /-- LINE_RX_STATUS_GET (R197): Return the receive line status. -/
  | lineRxStatusGet (mb : Fin 8)
  /-- LINE_REACQUIRE (R197): Start a full acquisition of the line at once. -/
  | lineReacquire (mb : Fin 8)
  /-- LINE_TX_CFG_SET (R295): Stage the transmit line configuration. -/
  | lineTxCfgSet (mb : Fin 8)
  /-- LINE_TX_SQUELCH (R280): Set or release the host squelch reason at once. -/
  | lineTxSquelch (mb : Fin 8)
  /-- LINE_TX_STATUS_GET (R295): Return the transmit status and furrow masks. -/
  | lineTxStatusGet (mb : Fin 8)
  /-- DAC_CORR_SET (R295): Stage a DAC's corrections. -/
  | dacCorrSet (mb : Fin 8)
  /-- TX_MASK_SET (R295): Stage the spectral mask. -/
  | txMaskSet (mb : Fin 8)
  /-- DPD_CURVE_SET (R295): Stage DAC pre-distortion curves. -/
  | dpdCurveSet (mb : Fin 8)
  /-- DPD_UPDATE (R271): Compute and stage new leaf pre-distortion curves from ρ. -/
  | dpdUpdate (mb : Fin 8)
  /-- FEC_CFG_SET (R337): Stage the FEC configuration. -/
  | fecCfgSet (mb : Fin 8)
  /-- FEC_STATUS_GET (R337): Return a furrow's FEC status and counters. -/
  | fecStatusGet (mb : Fin 8)
  /-- FEC_HUNT (R314): Drop a furrow's codeword lock and restart the hunt. -/
  | fecHunt (mb : Fin 8)
  /-- FEC_BURST_STATUS_GET (R337): Return the burst FEC counters. -/
  | fecBurstStatusGet (mb : Fin 8)
  /-- FRM_CFG_SET (R383): Stage the framer configuration and FORCE_BDI. -/
  | frmCfgSet (mb : Fin 8)
  /-- FRM_STATUS_GET (R383): Return a furrow's framer status and counters. -/
  | frmStatusGet (mb : Fin 8)
  /-- PROT_CFG_SET (R383): Stage the protection configuration and timers. -/
  | protCfgSet (mb : Fin 8)
  /-- PROT_CMD (R368): Raise or clear a host protection request for the line or a dual-homed leaf. -/
  | protCmd (mb : Fin 8)
  /-- PROT_STATUS_GET (R383): Return the protection status. -/
  | protStatusGet (mb : Fin 8)
  /-- TSI_MAP_SET (R410): Stage connection memory entries on the standby page. -/
  | tsiMapSet (mb : Fin 8)
  /-- TSI_MAP_CLEAR (R410): Stage the clearing of connection memory entries. -/
  | tsiMapClear (mb : Fin 8)
  /-- TSI_STATUS_GET (R410): Return the TSI status and counters. -/
  | tsiStatusGet (mb : Fin 8)
  /-- RILLLINK_LANE_SET (R410): Stage a rill-link lane configuration. -/
  | rilllinkLaneSet (mb : Fin 8)
  /-- RILLLINK_STATUS_GET (R410): Return a rill-link lane's status and offset. -/
  | rilllinkStatusGet (mb : Fin 8)
  /-- SLIP_STATUS_GET (R410): Return a timed tributary's slip-buffer status. -/
  | slipStatusGet (mb : Fin 8)
  /-- LANE_CFG_SET (R606): Stage a lane's configuration, taps and port settings. -/
  | laneCfgSet (mb : Fin 8)
  /-- LANE_TEST_SET (R606): Stage a lane's patterns and loopback. -/
  | laneTestSet (mb : Fin 8)
  /-- LANE_PSTATE (R591): Move the named lanes to a power state. -/
  | lanePstate (mb : Fin 8)
  /-- LANE_ERR_INJECT (R596): Invert pattern generator bits once or continuously. -/
  | laneErrInject (mb : Fin 8)
  /-- LANE_STATUS_GET (R606): Return a lane's status and counters. -/
  | laneStatusGet (mb : Fin 8)
  /-- TLANE_CFG_SET (R606): Stage a timing lane configuration. -/
  | tlaneCfgSet (mb : Fin 8)
  /-- TLANE_STATUS_GET (R606): Return a timing lane's status, marks, message and counters. -/
  | tlaneStatusGet (mb : Fin 8)
  /-- MOD_LANE_SET (R625): Stage a media lane's module configuration. -/
  | modLaneSet (mb : Fin 8)
  /-- MOD_DPD_CURVE_SET (R625): Stage media lane pre-distortion curves. -/
  | modDpdCurveSet (mb : Fin 8)
  /-- MOD_LEVEL_MEASURE (R616): Start a level measurement on a media receive lane. -/
  | modLevelMeasure (mb : Fin 8)
  /-- MOD_DPD_UPDATE (R617): Compute and stage new media lane curves from ρ. -/
  | modDpdUpdate (mb : Fin 8)
  /-- MOD_STATUS_GET (R625): Return a media lane's module status and counters. -/
  | modStatusGet (mb : Fin 8)
  /-- FURROW_RX_SET (R197): Stage a furrow's receive enable, adaptation, entropy and rate. -/
  | furrowRxSet (mb : Fin 8)
  /-- FURROW_ADAPT_SET (R197): Stage a furrow's adaptation margins and hold. -/
  | furrowAdaptSet (mb : Fin 8)
  /-- FURROW_RX_STATUS_GET (R197): Return a furrow's receive status and figures. -/
  | furrowRxStatusGet (mb : Fin 8)
  /-- FURROW_REACQUIRE (R197): Start a fast re-acquisition of a locked furrow. -/
  | furrowReacquire (mb : Fin 8)
  /-- FURROW_TX_SET (R295): Stage a furrow's transmit settings. -/
  | furrowTxSet (mb : Fin 8)
  /-- FURROW_TX_STATUS_GET (R295): Return a furrow's transmit status. -/
  | furrowTxStatusGet (mb : Fin 8)
  /-- LEAF_PROVISION (R250): Stage provisioning or clearing of a leaf serial. -/
  | leafProvision (mb : Fin 8)
  /-- LEAF_ADMIT (R251): Stage a leaf's profile and turnout binding. -/
  | leafAdmit (mb : Fin 8)
  /-- LEAF_EVICT (R234): Evict a leaf at once, optionally sending TX_DISABLE. -/
  | leafEvict (mb : Fin 8)
  /-- LEAF_RELEASE (R250): Stage the release of an evicted leaf entry. -/
  | leafRelease (mb : Fin 8)
  /-- LEAF_STATUS_GET (R250): Return a leaf table entry. -/
  | leafStatusGet (mb : Fin 8)
  /-- LEAF_SEED_GET (R250): Return a leaf's equaliser seed. -/
  | leafSeedGet (mb : Fin 8)
  /-- BURST_CFG_SET (R250): Stage the burst receiver configuration. -/
  | burstCfgSet (mb : Fin 8)
  /-- LEAF_LIST_GET (R250): Return the leaves in a state. -/
  | leafListGet (mb : Fin 8)
  /-- LEAF_SELF_SET (R250): Stage the leaf's own JOIN_EN and serial. -/
  | leafSelfSet (mb : Fin 8)
  /-- LEAF_SELF_STATUS_GET (R250): Return the leaf's own join status. -/
  | leafSelfStatusGet (mb : Fin 8)
  /-- LEAF_LEVEL_MEASURE (R270): Start measuring a leaf's received levels on the hub. -/
  | leafLevelMeasure (mb : Fin 8)
  /-- TURNOUT_CLIENT_SET (R410): Stage a turnout's client kind, rate, lane and rills. -/
  | turnoutClientSet (mb : Fin 8)
  /-- TURNOUT_PKT_SET (R483): Stage a turnout's packet settings and default action. -/
  | turnoutPktSet (mb : Fin 8)
  /-- INTAKE_CFG_SET (R483): Stage the intake configuration. -/
  | intakeCfgSet (mb : Fin 8)
  /-- DEEPLOOK_SET (R483): Stage a deep-look pattern. -/
  | deeplookSet (mb : Fin 8)
  /-- TERN_SET (R483): Stage a ternary rule. -/
  | ternSet (mb : Fin 8)
  /-- TERN_GET (R483): Return a ternary rule. -/
  | ternGet (mb : Fin 8)
  /-- FLOW_ADD (R470): Insert or replace an exact-match flow entry at once. -/
  | flowAdd (mb : Fin 8)
  /-- FLOW_DEL (R471): Delete an exact-match flow entry at once. -/
  | flowDel (mb : Fin 8)
  /-- FLOW_GET (R484): Return a flow entry and optionally clear its HIT bit. -/
  | flowGet (mb : Fin 8)
  /-- TURNOUT_PKT_STATUS_GET (R483): Return a turnout's intake status and counters. -/
  | turnoutPktStatusGet (mb : Fin 8)
  /-- INTAKE_STATUS_GET (R483): Return the intake status and counters. -/
  | intakeStatusGet (mb : Fin 8)
  /-- HG_CFG_SET (R513): Stage the control pool size. -/
  | hgCfgSet (mb : Fin 8)
  /-- HG_TURNOUT_SET (R513): Stage a turnout's Headgate reserve, cap, weights and limits. -/
  | hgTurnoutSet (mb : Fin 8)
  /-- HG_CQ_SET (R513): Stage a control queue's owner and limit. -/
  | hgCqSet (mb : Fin 8)
  /-- POLICER_SET (R513): Stage a policer's rates and bursts. -/
  | policerSet (mb : Fin 8)
  /-- POLICER_STATUS_GET (R513): Return a policer's configuration and counters. -/
  | policerStatusGet (mb : Fin 8)
  /-- HG_QUEUE_STATUS_GET (R513): Return a queue's words. -/
  | hgQueueStatusGet (mb : Fin 8)
  /-- HG_STATUS_GET (R513): Return the Headgate status and counters. -/
  | hgStatusGet (mb : Fin 8)
  /-- CQ_RECEIVE (R506): Return the head packet of a host-owned control queue. -/
  | cqReceive (mb : Fin 8)
  /-- CQ_RELEASE (R507): Release a packet handle returned by CQ_RECEIVE. -/
  | cqRelease (mb : Fin 8)
  /-- ENG_IMAGE_LOAD (R539): Load a chunk of an action program image and verify it on LAST. -/
  | engImageLoad (mb : Fin 8)
  /-- ENG_IMAGE_SELECT (R540): Stage the switch to the staged image. -/
  | engImageSelect (mb : Fin 8)
  /-- ENG_CFG_SET (R547): Stage the default instruction budget. -/
  | engCfgSet (mb : Fin 8)
  /-- ENG_LATERAL_SET (R547): Stage a lateral's enable and role. -/
  | engLateralSet (mb : Fin 8)
  /-- ENG_TURNOUT_SET (R547): Stage a turnout's ordered mode. -/
  | engTurnoutSet (mb : Fin 8)
  /-- ENG_LAT_HOLD (R541): Take a lateral out of dispatch or return it. -/
  | engLatHold (mb : Fin 8)
  /-- ENG_LAT_HOLD_DONE (R541): A held lateral reaches QUIESCED and ENG_LAT_HOLD is answered. -/
  | engLatHoldDone
  /-- ENG_STATE_READ (R549): Read state memory words with their poison map. -/
  | engStateRead (mb : Fin 8)
  /-- ENG_STATE_WRITE (R549): Write state memory words, clearing their poison. -/
  | engStateWrite (mb : Fin 8)
  /-- ENG_STATUS_GET (R547): Return a lateral's status and counters. -/
  | engStatusGet (mb : Fin 8)
  /-- ENG_PROG_GET (R547): Return a program table entry of the image in force. -/
  | engProgGet (mb : Fin 8)
  /-- KEY_IMPORT (R423): Unwrap a key blob into an EMPTY slot. -/
  | keyImport (mb : Fin 8)
  /-- KEY_ERASE (R425): Erase a key slot. -/
  | keyErase (mb : Fin 8)
  /-- KEY_STATUS_GET (R449): Return a key slot's status and check value. -/
  | keyStatusGet (mb : Fin 8)
  /-- CTX_WRITE (R449): Stage a context record's key, salt and counters. -/
  | ctxWrite (mb : Fin 8)
  /-- CTX_CLEAR (R449): Stage the clearing of a context record. -/
  | ctxClear (mb : Fin 8)
  /-- CTX_SAVE (R433): Return a context record in clear or wrapped form. -/
  | ctxSave (mb : Fin 8)
  /-- CTX_RESTORE (R434): Stage the restoring of a saved context record. -/
  | ctxRestore (mb : Fin 8)
  /-- CIPHER_TURNOUT_SET (R449): Stage a turnout's protection settings. -/
  | cipherTurnoutSet (mb : Fin 8)
  /-- CIPHER_ROLL (R440): Stage arming or switching of a successor context. -/
  | cipherRoll (mb : Fin 8)
  /-- CIPHER_UNBLOCK (R439): Resume delivery on a blocked turnout. -/
  | cipherUnblock (mb : Fin 8)
  /-- CIPHER_VERIFY (R441): Check a unit's tag under a context without releasing anything. -/
  | cipherVerify (mb : Fin 8)
  /-- CIPHER_STATUS_GET (R449): Return a turnout's cipher status and counters. -/
  | cipherStatusGet (mb : Fin 8)
  /-- CTX_STATUS_GET (R449): Return a context record's words. -/
  | ctxStatusGet (mb : Fin 8)
  /-- TIMING_CFG_SET (R650): Stage the DPLL and time configuration. -/
  | timingCfgSet (mb : Fin 8)
  /-- REF_CFG_SET (R650): Stage a reference's priority, QL and qualification. -/
  | refCfgSet (mb : Fin 8)
  /-- TIMING_OUT_SET (R650): Stage a TCLK, FPO or FPI configuration. -/
  | timingOutSet (mb : Fin 8)
  /-- TIMING_STATUS_GET (R650): Return the DPLL status. -/
  | timingStatusGet (mb : Fin 8)
  /-- REF_STATUS_GET (R650): Return a reference's status. -/
  | refStatusGet (mb : Fin 8)
  /-- TIME_GET (R650): Return device time and DPLL state. -/
  | timeGet (mb : Fin 8)
  /-- TIME_STEP (R643): Add a signed step to device time at once. -/
  | timeStep (mb : Fin 8)
  /-- TIME_SET (R643): Request the seconds of device time to be replaced at the next second boundary. -/
  | timeSet (mb : Fin 8)
  /-- MEM_SCRUB (R563): Start a requested scrub pass over a memory range. -/
  | memScrub (mb : Fin 8)
  /-- MEM_CFG_SET (R569): Stage a memory's scrub period and CE logging. -/
  | memCfgSet (mb : Fin 8)
  /-- MEM_STATUS_GET (R568): Return a memory's status and counters. -/
  | memStatusGet (mb : Fin 8)
  /-- MEM_FLIP_ARM (R564): Arm or disarm a bit flip on the next write to a memory instance. -/
  | memFlipArm (mb : Fin 8)
  /-- TEST_CHALLENGE (R727): Return a fresh nonce and DEVICE_UID. -/
  | testChallenge (mb : Fin 8)
  /-- TEST_UNLOCK (R727): Raise the access level by password or vendor signature. -/
  | testUnlock (mb : Fin 8)
  /-- TEST_LOCK (R731): Return to level 0, stopping injectors and disarming flips. -/
  | testLock (mb : Fin 8)
  /-- TEST_STATUS_GET (R745): Return the test status and counters. -/
  | testStatusGet (mb : Fin 8)
  /-- OTP_PROGRAM (R732): Write an OTP field. -/
  | otpProgram (mb : Fin 8)
  /-- SELFTEST_RUN (R734): Start a self-test of a lateral, a memory or the data plane. -/
  | selftestRun (mb : Fin 8)
  /-- FI_START (R742): Start a fault injector. -/
  | fiStart (mb : Fin 8)
  /-- FI_STOP (R741): Stop one or all fault injectors. -/
  | fiStop (mb : Fin 8)
  /-- FI_STATUS_GET (R745): Return an injector's state and hits. -/
  | fiStatusGet (mb : Fin 8)
  /-- CAL_RUN (R115): Request one immediate calibration rotation on named ADCs. -/
  | calRun (mb : Fin 8)
  /-- CAL_FOREGROUND (R117): Start foreground calibration of converters in MAINTENANCE. -/
  | calForeground (mb : Fin 8)
  /-- CAL_MAINT_SET (R142): Stage entry to or exit from converter MAINTENANCE. -/
  | calMaintSet (mb : Fin 8)
  /-- CAL_CFG_SET (R142): Stage ADC calibration and overload settings. -/
  | calCfgSet (mb : Fin 8)
  /-- CONV_CTRL_SET (R142): Stage a converter's full scale or swing and polarity. -/
  | convCtrlSet (mb : Fin 8)
  /-- CAL_STATUS_GET (R142): Return an ADC's calibration status. -/
  | calStatusGet (mb : Fin 8)
  /-- CAL_SLICE_GET (R143): Return a slice's map byte and corrections. -/
  | calSliceGet (mb : Fin 8)
  /-- FW_DOWNLOAD (R756): Load a chunk of firmware over a host interface and verify it on LAST. -/
  | fwDownload (mb : Fin 8)
  /-- FW_STATUS_GET (R767): Return the firmware status, version and reset cause. -/
  | fwStatusGet (mb : Fin 8)
  /-- FW_FLASH_WRITE (R768): Write a chunk of a new firmware image to the slot not booted. -/
  | fwFlashWrite (mb : Fin 8)
  /-- FW_FLASH_WRITE_DONE (R767): The last flash chunk is written and verified and FW_FLASH_WRITE is answered. -/
  | fwFlashWriteDone
  /-- LINE_PLL_LOCK_LOSS (R280): The line PLL that clocks the dsp domain goes out of lock and squelch reason 4 (PLL) arises. -/
  | linePllLockLoss
  /-- LINE_PLL_RELOCK (R280): The line PLL regains lock and squelch reason 4 (PLL) clears. -/
  | linePllRelock
  /-- INNER_LOCK_GAIN (R614): The inner code of a RATE 9 media lane gains lock and INNER_LOCK becomes 1. -/
  | innerLockGain (media : Fin 8)
  /-- HUNT_SCREEN (R311): In each codeword period of a hunt the decoder screens the next 16 candidate offsets against the parity checks. -/
  | huntScreen (furrow : Fin 32) (llrs : List (Int × Bool))
  /-- TL_CHARACTER_RX (R601): A timing lane receives an 8b/10b character, counting it in CODE_ERRS or DISP_ERRS when it is invalid. -/
  | tlCharacterRx (tl : Fin 2) (char : LineCode)
  /-- RST_N_RELEASE (R750): RST_N rises after a warm reset and the core PLLs lock and the firmware boots again. -/
  | rstNRelease
  /-- OPT_SPI_XFER_DONE (R677): An optics SPI transfer of up to 960 bytes ends, SPI_BUSY clears and OPT_SPI_XFER is answered with the bytes read. -/
  | optSpiXferDone (inBytes : List Byte)
  /-- OPT_I2C_XFER_DONE (R678): An optics I2C transfer ends, by completion, NACK, SDA fault or stretch timeout, I2C_BUSY clears and OPT_I2C_XFER is answered with its status. -/
  | optI2cXferDone (status : Fin 5) (inBytes : List Byte)
  /-- KEY_TRANSFER_DONE (R39): A key transfer on the key bus ends, releasing a waiting context activation or letting a waiting KEY_IMPORT complete and be answered. -/
  | keyTransferDone
  deriving DecidableEq, Repr

end Sys2Proof
end

