-- ==== Sys2Proof/Decode.lean ====
section
/-! DEFINITION. The words of the table: no row of it gives its command any bits, so no word spells a command. -/

namespace Sys2Proof

/-- The command that a word of `nbits` bits spells by the table's bits: the table gives no row any. -/
def decodeTableWord (_nbits _w : Nat) : Option Instr := none

end Sys2Proof
end

