-- ==== Sys2Proof/Config.lean ====
section
/-! DEFINITION. What one part or one build of the TP2416 fixes, and the free values: constants without a body, so that a
statement about them holds whatever they are. Each is named in the assumption log. -/

namespace Sys2Proof.Config

/-- A free natural number: `tag` names what it stands for, `n` is the count of free values taken so far. -/
opaque freeNat (tag n : Nat) : Nat

/-- The 128-bit DEVICE_UID words of the part (R744: Reset "factory"). -/
opaque deviceUid (w : Nat) : BitVec 32

/-- The grade of the part (R4): 0 commercial, 1 industrial. -/
opaque grade : BitVec 1

/-- Verification of Norrapo's ECDSA signature (R727, R753): the key is Norrapo's and no rule gives it. -/
opaque vendorVerify (msg sig : List Byte) : Bool

/-- Verification of a firmware image's signature (R753): Norrapo's firmware key is in the ROM and no rule gives it. -/
opaque fwVerify (body sig : List Byte) : Bool

/-- The 400G symbol rate in MBd, rounded, of the specification that LINE_FEC names: 1 400ZR, 2 oFEC (R326: no rule gives it). -/
opaque interopRate (lineFec : Nat) : Nat

/-- What the specification that LINE_FEC names makes of a frame's 257-bit client blocks (none: no block due): from what its coding has kept, what it keeps, and the
symbols, each as its four levels of a plain 16-point mapping, pilots in their places (R261, R326: no rule gives them). -/
opaque interopSymbols (lineFec : Nat) (kept : List Bool) (items : List (Option Nat)) : List Bool × List (List Int)

/-- The samples that the fractional delay of a DAC gives, by its SKEW in 0.1 ps (R273: no rule gives the interpolator). -/
opaque skewed (skew : Int) (xs : List Int) : List Int

/-- The bits that IEEE 802.3 gives RS(544,514) for transcoded bits of a port of an ETH_RATE over so many lanes: with alignment markers, scrambled (R580, R584:
no rule gives them). -/
opaque auiStream (rate lanes : Nat) (bits : List Bool) : List Bool

/-- Coefficients of the tap's half-band filter in 2⁻¹⁶ (R693: no rule gives them): those 3, 5, 7, 9 and 11 places from its middle. -/
opaque halfBand (k : Nat) : Int

/-- Bit `k` of the SSPRQ pattern of IEEE 802.3 (R594: no rule gives it). -/
opaque ssprq (k : Nat) : Bool

/-- The inner code of the IEEE 802.3 200 Gb/s-per-lane optical PMDs (R613: no rule gives it). -/
opaque innerCode (bits : List Bool) : List Bool

end Sys2Proof.Config
end

