-- ==== Sys2Proof/Machine/Crypto.lean ====
section
/-! DEFINITION. The standard algorithms that the manual names: SHA-256 and HMAC (R424, R729), AES-256, GCM (R416) and the key wrap of RFC 3394
(R423, R433). PRESUMED: the manual gives the names, the standards the algorithms (log entry 87). -/

namespace Sys2Proof.Machine

/-! ### SHA-256 and HMAC -/

/-- The 64 constants K, K_0 lowest, eight to a number. -/
def shaK : List Nat := [
  0xAB1C5ED5923F82A459F111F13956C25BE9B5DBA5B5C0FBCF71374491428A2F98, 0xC19BF1749BDC06A780DEB1FE72BE5D74550C7DC3243185BE12835B01D807AA98,
  0x76F988DA5CB0A9DC4A7484AA2DE92C6F240CA1CC0FC19DC6EFBE4786E49B69C1, 0x1429296706CA6351D5A79147C6E00BF3BF597FC7B00327C8A831C66D983E5152,
  0x92722C8581C2C92E766A0ABB650A735453380D134D2C6DFC2E1B213827B70A85, 0x106AA070F40E3585D6990624D192E819C76C51A3C24B8B70A81A664BA2BFE8A1,
  0x682E6FF35B9CCA4F4ED8AA4A391C0CB334B0BCB52748774C1E376C0819A4C116, 0xC67178F2BEF9A3F7A4506CEB90BEFFFA8CC7020884C8781478A5636F748F82EE]

/-- The initial hash value, H_0 lowest. -/
def shaH : Nat := 0x5BE0CD191F83D9AB9B05688C510E527FA54FF53A3C6EF372BB67AE856A09E667

/-- Word `i` of eight 32-bit words held in a number, the lowest first. -/
def word32 (v i : Nat) : Nat := v / 2 ^ (32 * i) % 2 ^ 32

/-- A 32-bit word rotated right. -/
def ror32 (x n : Nat) : Nat := x / 2 ^ n + x % 2 ^ n * 2 ^ (32 - n)

/-- The next message word from the sixteen before it, newest first. -/
def shaNext (ws : List Nat) : Nat :=
  let w (k : Nat) : Nat := ws.getD (k - 1) 0
  let s0 := ror32 (w 15) 7 ^^^ ror32 (w 15) 18 ^^^ (w 15 / 8)
  let s1 := ror32 (w 2) 17 ^^^ ror32 (w 2) 19 ^^^ (w 2 / 1024)
  (w 16 + s0 + w 7 + s1) % 2 ^ 32

/-- The message schedule, newest word first. -/
def shaSchedule : Nat → List Nat → List Nat
  | 0, ws => ws
  | n + 1, ws => shaSchedule n (shaNext ws :: ws)

/-- The eight working variables. -/
structure ShaVars where
  a : Nat
  b : Nat
  c : Nat
  d : Nat
  e : Nat
  f : Nat
  g : Nat
  h : Nat
  deriving DecidableEq, Repr

/-- One of the 64 rounds. -/
def shaRound (v : ShaVars) (kw : Nat) : ShaVars :=
  let s1 := ror32 v.e 6 ^^^ ror32 v.e 11 ^^^ ror32 v.e 25
  let ch := (v.e &&& v.f) ^^^ ((2 ^ 32 - 1 - v.e) &&& v.g)
  let t1 := v.h + s1 + ch + kw
  let s0 := ror32 v.a 2 ^^^ ror32 v.a 13 ^^^ ror32 v.a 22
  let maj := (v.a &&& v.b) ^^^ (v.a &&& v.c) ^^^ (v.b &&& v.c)
  ⟨(t1 + s0 + maj) % 2 ^ 32, v.a, v.b, v.c, (v.d + t1) % 2 ^ 32, v.e, v.f, v.g⟩

/-- One 64-byte block. -/
def shaBlock (hash : Nat) (blk : List Byte) : Nat :=
  let m := (List.range 16).map (fun i => ((blk.drop (4 * i)).take 4).foldl (fun v b => v * 256 + b.toNat) 0)
  let w := (shaSchedule 48 m.reverse).reverse
  let h := word32 hash
  let v := w.zipIdx.foldl (fun v x => shaRound v (x.1 + word32 (shaK.getD (x.2 / 8) 0) (x.2 % 8))) ⟨h 0, h 1, h 2, h 3, h 4, h 5, h 6, h 7⟩
  [v.h, v.g, v.f, v.e, v.d, v.c, v.b, v.a].zipIdx.foldl (fun acc x => acc * 2 ^ 32 + (x.1 + h (7 - x.2)) % 2 ^ 32) 0

/-- The whole blocks of a padded message. -/
def shaBlocks : Nat → Nat → List Byte → Nat
  | 0, hash, _ => hash
  | n + 1, hash, m => shaBlocks n (shaBlock hash (m.take 64)) (m.drop 64)

/-- The `n` bytes of a number, most significant first. -/
def natBytesBe (n v : Nat) : List Byte := (List.range n).map (fun i => BitVec.ofNat 8 (v / 256 ^ (n - 1 - i)))

/-- The padding of a message of `len` bytes. -/
def shaPad (len : Nat) : List Byte := 0x80 :: List.replicate ((119 - len % 64) % 64) 0 ++ natBytesBe 8 (8 * len)

/-- SHA-256 (R424, R729, R732). -/
def sha256 (m : List Byte) : List Byte :=
  let p := m ++ shaPad m.length
  let h := shaBlocks (p.length / 64) shaH p
  (List.range 8).flatMap (fun i => natBytesBe 4 (word32 h i))

/-- HMAC with SHA-256 (R424, R729). -/
def hmacSha256 (key m : List Byte) : List Byte :=
  let k0 := if 64 < key.length then sha256 key else key
  let k := k0 ++ List.replicate (64 - k0.length) 0
  sha256 (k.map (· ^^^ 0x5C) ++ sha256 (k.map (· ^^^ 0x36) ++ m))

/-! ### AES-256 -/

/-- The S-box, value 0 lowest, 32 to a number. -/
def aesSbox : List Nat := [
  0xC072A49CAFA2D4ADF04759FA7DC982CA76ABD7FE2B670130C56F6BF27B777C63, 0x75B227EBE28012079A059618C323C7041531D871F1E5A534CCF73F362693FDB7,
  0xCF584C4A39BECB6A5BB1FC20ED00D153842FE329B3D63B52A05A6E1B1A2C8309, 0xD2F3FF1021DAB6BCF5389D928F40A351A89F3C507F02F94585334D43FBAAEFD0,
  0xDB0B5EDE14B8EE4688902A22DC4F816073195D643D7EA7C41744975FEC130CCD, 0x08AE7A65EAF4566CA94ED58D6D37C8E779E4959162ACD3C25C2406490A3A32E0,
  0x9E1DC186B95735610EF6034866B53E708A8BBD4B1F74DDE8C6B4A61C2E2578BA, 0x16BB54B00F2D99416842E6BF0D89A18CDF2855CEE9871E9B948ED9691198F8E1]

/-- The inverse S-box. -/
def aesInvSbox : List Nat := [
  0xCBE9DEC444438E3487FF2F9B8239E37CFBD7F3819EA340BF38A53630D56A0952, 0x25D18B6D49A25B76B224D92866A12E084EC3FA420B954CEE3D23C2A632947B54,
  0x849D8DA75746155EDAB9EDFD5048706C92B6655DCC5CA4D41698688664F6F872, 0x6B8A130103BDAFC1020F3FCA8F1E2CD00645B3B80558E4F70AD3BC8C00ABD890,
  0x6EDF751CE837F9E28535ADE72274AC9673E6B4F0CECFF297EADC674F4111913A, 0xF45ACD78FEC0DB9A2079D2C64B3E56FC1BBE18AA0E62B76F89C5291D711AF147,
  0xEF9CC9939F7AE52D0D4AB519A97F51605FEC8027591012B131C7078833A8DD1F, 0x7D0C2155631469E126D677BA7E042B17619953833CBBEBC8B0F52AAE4D3BE0A0]

/-- Entry `x` of a box. -/
def boxAt (t : List Nat) (x : Nat) : Nat := t.getD (x / 32) 0 / 2 ^ (8 * (x % 32)) % 256

/-- Multiplication by x in the field of AES. -/
def xtime (a : Nat) : Nat := if a < 128 then 2 * a else (2 * a % 256) ^^^ 0x1B

/-- `a` times a constant below 16 in the field of AES. -/
def gmul (a k : Nat) : Nat :=
  let a2 := xtime a
  let a4 := xtime a2
  let a8 := xtime a4
  (if k % 2 = 1 then a else 0) ^^^ (if k / 2 % 2 = 1 then a2 else 0) ^^^ (if k / 4 % 2 = 1 then a4 else 0) ^^^ (if k / 8 % 2 = 1 then a8 else 0)

/-- A four-byte word with the S-box applied. -/
def subWord (w : List Nat) : List Nat := w.map (boxAt aesSbox)

def xorBytes (a b : List Nat) : List Nat := List.zipWith (· ^^^ ·) a b

/-- Key expansion: words newest first, until `n` more are made; `i` is the number of the next word, `rc` the next round constant. -/
def keyWords : Nat → Nat → Nat → List (List Nat) → List (List Nat)
  | 0, _, _, ws => ws
  | n + 1, i, rc, ws =>
    let t := ws.headD []
    let t1 := if i % 8 = 0 then xorBytes (subWord (t.drop 1 ++ t.take 1)) [rc, 0, 0, 0] else if i % 8 = 4 then subWord t else t
    keyWords n (i + 1) (if i % 8 = 0 then xtime rc else rc) (xorBytes (ws.getD 7 []) t1 :: ws)

/-- The 15 round keys of 16 bytes. -/
def roundKeys (key : List Nat) : List (List Nat) :=
  let ws := (keyWords 52 8 1 ((List.range 8).map (fun i => (key.drop (4 * i)).take 4)).reverse).reverse
  (List.range 15).map (fun r => ((ws.drop (4 * r)).take 4).flatten)

/-- Byte `i` of the state after ShiftRows, from byte `4 · ((i / 4 + i % 4) % 4) + i % 4`. -/
def shiftRows (b : List Nat) : List Nat := (List.range 16).map (fun i => b.getD (4 * ((i / 4 + i % 4) % 4) + i % 4) 0)
def invShiftRows (b : List Nat) : List Nat := (List.range 16).map (fun i => b.getD (4 * ((i / 4 + 4 - i % 4) % 4) + i % 4) 0)

/-- Each column times the circulant of `k`, `l`, `m`, `n`. -/
def mixCols (k l m n : Nat) (b : List Nat) : List Nat :=
  (List.range 16).map (fun i =>
    let c := 4 * (i / 4)
    let at_ (j : Nat) : Nat := b.getD (c + (i + j) % 4) 0
    gmul (at_ 0) k ^^^ gmul (at_ 1) l ^^^ gmul (at_ 2) m ^^^ gmul (at_ 3) n)

/-- AES-256 encryption of a block under expanded keys. -/
def aesEnc (rk : List (List Nat)) (b : List Nat) : List Nat :=
  let s0 := xorBytes b (rk.headD [])
  let s1 := ((rk.drop 1).take 13).foldl (fun s k => xorBytes (mixCols 2 3 1 1 (shiftRows (s.map (boxAt aesSbox)))) k) s0
  xorBytes (shiftRows (s1.map (boxAt aesSbox))) (rk.getD 14 [])

/-- AES-256 decryption of a block under expanded keys. -/
def aesDec (rk : List (List Nat)) (b : List Nat) : List Nat :=
  let s0 := xorBytes b (rk.getD 14 [])
  let s1 := ((rk.drop 1).take 13).reverse.foldl
    (fun s k => mixCols 14 11 13 9 (xorBytes ((invShiftRows s).map (boxAt aesInvSbox)) k)) s0
  xorBytes ((invShiftRows s1).map (boxAt aesInvSbox)) (rk.headD [])

/-- The `n` bytes of a number as numbers, most significant first. -/
def natBytes (n v : Nat) : List Nat := (List.range n).map (fun i => v / 256 ^ (n - 1 - i) % 256)

/-- The number of bytes given as numbers, most significant first. -/
def ofNatBytes (l : List Nat) : Nat := l.foldl (fun v b => v * 256 + b) 0

/-- The round keys of a 256-bit key. -/
def keySchedule (key : BitVec 256) : List (List Nat) := roundKeys (natBytes 32 key.toNat)

/-- The block cipher on 128-bit numbers. -/
def aesBlock (rk : List (List Nat)) (v : Nat) : Nat := ofNatBytes (aesEnc rk (natBytes 16 v))
def aesUnblock (rk : List (List Nat)) (v : Nat) : Nat := ofNatBytes (aesDec rk (natBytes 16 v))

/-! ### GCM (R416) -/

/-- Counter-mode bytes from counter block `c` on, over 16-byte pieces. -/
def ctrMode (rk : List (List Nat)) : Nat → Nat → List Byte → List Byte
  | 0, _, _ => []
  | n + 1, c, p =>
    List.zipWith (fun (x : Byte) (k : Nat) => x ^^^ BitVec.ofNat 8 k) (p.take 16) (natBytes 16 (aesBlock rk c)) ++
      ctrMode rk n (c / 2 ^ 32 * 2 ^ 32 + (c + 1) % 2 ^ 32) (p.drop 16)

/-- What the plaintext becomes under a key and a 96-bit IV, and back (R416). -/
def gctr (key : BitVec 256) (iv : BitVec 96) (plain : List Byte) : List Byte :=
  ctrMode (keySchedule key) ((plain.length + 15) / 16) (iv.toNat * 2 ^ 32 + 2) plain

/-- The product of the field of GHASH, bit 127 of a block being the constant term: over the bits of `x` from the highest down. -/
def ghashMul : Nat → Nat → Nat → Nat → Nat
  | 0, _, _, z => z
  | n + 1, x, v, z =>
    let z1 := if x / 2 ^ n % 2 = 1 then z ^^^ v else z
    ghashMul n x (if v % 2 = 1 then (v / 2) ^^^ 0xE1000000000000000000000000000000 else v / 2) z1

/-- Blocks of 16 bytes, the last one filled with zeros. -/
def ghashBytes (h : Nat) : Nat → Nat → List Byte → Nat
  | 0, y, _ => y
  | n + 1, y, d =>
    let b := (d.take 16 ++ List.replicate (16 - (d.take 16).length) 0).foldl (fun v (x : Byte) => v * 256 + x.toNat) 0
    ghashBytes h n (ghashMul 128 (y ^^^ b) h 0) (d.drop 16)

/-- The tag of a unit: key, 96-bit IV, additional data and ciphertext (R416). -/
def gcmTag (key : BitVec 256) (iv : BitVec 96) (aad ct : List Byte) : BitVec 128 :=
  let rk := keySchedule key
  let h := aesBlock rk 0
  let y1 := ghashBytes h ((aad.length + 15) / 16) 0 aad
  let y2 := ghashBytes h ((ct.length + 15) / 16) y1 ct
  let y3 := ghashMul 128 (y2 ^^^ (8 * aad.length * 2 ^ 64 + 8 * ct.length)) h 0
  BitVec.ofNat 128 (y3 ^^^ aesBlock rk (iv.toNat * 2 ^ 32 + 1))

/-! ### Key wrap (R423, R433) -/

/-- Eight bytes of a list as a number. -/
def part64 (b : List Byte) (i : Nat) : Nat := ((b.drop (8 * i)).take 8).foldl (fun v (x : Byte) => v * 256 + x.toNat) 0

/-- One pass of the wrap over the parts: the register, the parts so far newest first. -/
def wrapPass (rk : List (List Nat)) : Nat → List Nat → Nat → List Nat → Nat × List Nat
  | _, [], a, out => (a, out.reverse)
  | t, r :: rest, a, out =>
    let b := aesBlock rk (a * 2 ^ 64 + r)
    wrapPass rk (t + 1) rest ((b / 2 ^ 64) ^^^ t) (b % 2 ^ 64 :: out)

/-- AES-256 key wrap of RFC 3394 with its default initial value (R433). -/
def keyWrap (kek : BitVec 256) (plain : List Byte) : List Byte :=
  let n := plain.length / 8
  let rk := keySchedule kek
  let x := (List.range 6).foldl (fun x j => wrapPass rk (n * j + 1) x.2 x.1 []) (0xA6A6A6A6A6A6A6A6, (List.range n).map (part64 plain))
  (x.1 :: x.2).flatMap (natBytesBe 8)

/-- One pass of the unwrap over the parts, the last part first. -/
def unwrapPass (rk : List (List Nat)) : Nat → List Nat → Nat → List Nat → Nat × List Nat
  | _, [], a, out => (a, out)
  | t, r :: rest, a, out =>
    let b := aesUnblock rk ((a ^^^ t) * 2 ^ 64 + r)
    unwrapPass rk (t - 1) rest (b / 2 ^ 64) (b % 2 ^ 64 :: out)

/-- AES-256 key unwrap of RFC 3394: none where the integrity check fails (R423, R434). -/
def keyUnwrap (kek : BitVec 256) (blob : List Byte) : Option (List Byte) :=
  let n := blob.length / 8 - 1
  let rk := keySchedule kek
  let x := (List.range 6).foldl (fun x j => unwrapPass rk (n * (6 - j)) x.2.reverse x.1 []) (part64 blob 0, (List.range n).map (fun i => part64 blob (i + 1)))
  if x.1 = 0xA6A6A6A6A6A6A6A6 then some (x.2.flatMap (natBytesBe 8)) else none

end Sys2Proof.Machine
end

