-- ==== Sys2Proof/Machine/RegMap.lean ====
section
/-! DEFINITION. The register map of BAR0 (R788, R789 and the register tables of every chapter): one descriptor for each
register word with the access type of its bits (R11) and its reset value, one named field for each field of a table, and
one descriptor for each counter with the place of its read shadow (R17) and the STATS_SNAP that copies it. -/

namespace Sys2Proof.Machine

/-- The words of one register name: `n` instances `stride` bytes apart, each holding `m` words `sub` bytes apart. The masks
give the bits of each access type of R11; bits in no mask are reserved or RO. -/
structure RegDesc where
  name : String
  rule : Nat
  base : Nat
  stride : Nat
  n : Nat
  sub : Nat
  m : Nat
  rw : Nat
  w1c : Nat
  sc : Nat
  tx : Nat
  wo : Nat
  reset : Nat
  deriving DecidableEq, Repr

/-- One field of a register word; instance `i`, word `j` of it lies at `base + stride * i + sub * j`, bits `[lo + width - 1 : lo]`. -/
structure Field where
  base : Nat
  stride : Nat
  sub : Nat
  lo : Nat
  width : Nat
  deriving DecidableEq, Repr

/-- One counter (R16): `words` is 1 for a 32-bit RC counter, 2 for a 64-bit traffic counter, 3 for a 48-bit performance counter;
its shadow lies `shadow` bytes above it, and the STATS_SNAP at `snap + snapStride * i` copies instance `i`. -/
structure Ctr where
  base : Nat
  stride : Nat
  n : Nat
  sub : Nat
  m : Nat
  words : Nat
  shadow : Nat
  snap : Nat
  snapStride : Nat
  deriving DecidableEq, Repr

/-- R790 -/ def Reg.DEVICE_ID_ID : Field := ⟨0x0, 0x0, 0, 0, 32⟩
/-- R790 -/ def Reg.DEVICE_INFO_GRADE : Field := ⟨0x4, 0x0, 0, 0, 1⟩
/-- R790 -/ def Reg.TIME_LO_NS_LO : Field := ⟨0x10, 0x0, 0, 0, 32⟩
/-- R790 -/ def Reg.TIME_HI_NS_HI : Field := ⟨0x14, 0x0, 0, 0, 32⟩
/-- R790 -/ def Reg.TIME_FRAC_FRAC : Field := ⟨0x18, 0x0, 0, 0, 16⟩
/-- R790 -/ def Reg.GLB_SNAP_SNAP : Field := ⟨0x1c, 0x0, 0, 0, 1⟩
/-- R56 -/ def Reg.FIXLAT_CTRL_EN : Field := ⟨0x100, 0x0, 0, 0, 1⟩
/-- R56 -/ def Reg.FIXLAT_CTRL_CD_TIER : Field := ⟨0x100, 0x0, 0, 1, 2⟩
/-- R57 -/ def Reg.LAT_TX_CYCLES : Field := ⟨0x104, 0x0, 0, 0, 16⟩
/-- R57 -/ def Reg.LAT_RX_CYCLES : Field := ⟨0x108, 0x0, 0, 0, 16⟩
/-- R57 -/ def Reg.LAT_BURST_CYCLES : Field := ⟨0x10c, 0x0, 0, 0, 16⟩
/-- R58 -/ def Reg.XQ_STATUS_HOST_LOCK : Field := ⟨0x110, 0x0, 0, 0, 16⟩
/-- R58 -/ def Reg.XQ_STATUS_MEDIA_LOCK : Field := ⟨0x110, 0x0, 0, 16, 8⟩
/-- R58 -/ def Reg.XQ_STATUS_DEPTH : Field := ⟨0x110, 0x0, 0, 24, 5⟩
/-- R59 -/ def Reg.QUENCH_CFG_TIMEOUT_US : Field := ⟨0x114, 0x0, 0, 0, 14⟩
/-- R93 -/ def Reg.MODE_CTRL_MODE : Field := ⟨0x120, 0x0, 0, 0, 2⟩
/-- R93 -/ def Reg.MODE_CTRL_PROFILE : Field := ⟨0x120, 0x0, 0, 2, 3⟩
/-- R94 -/ def Reg.MODE_STATUS_MODE : Field := ⟨0x124, 0x0, 0, 0, 2⟩
/-- R94 -/ def Reg.MODE_STATUS_PROFILE : Field := ⟨0x124, 0x0, 0, 2, 3⟩
/-- R94 -/ def Reg.MODE_STATUS_STATE : Field := ⟨0x124, 0x0, 0, 5, 1⟩
/-- R94 -/ def Reg.MODE_STATUS_CAL_OK : Field := ⟨0x124, 0x0, 0, 6, 1⟩
/-- R94 -/ def Reg.MODE_STATUS_LOCKED : Field := ⟨0x124, 0x0, 0, 7, 1⟩
/-- R95 -/ def Reg.CLAMP_STATUS_CLAMP : Field := ⟨0x128, 0x0, 0, 0, 5⟩
/-- R790 -/ def Reg.INT_STATUS_PENDING : Field := ⟨0x200, 0x4, 0, 0, 32⟩
/-- R790 -/ def Reg.INT_MASK_MASK : Field := ⟨0x208, 0x4, 0, 0, 32⟩
/-- R790 -/ def Reg.INT_PINS_INT_ASSERTED : Field := ⟨0x210, 0x0, 0, 0, 1⟩
/-- R790 -/ def Reg.INT_PINS_ALARM_ASSERTED : Field := ⟨0x210, 0x0, 0, 1, 1⟩
/-- R790 -/ def Reg.INT_PINS_ALARM_WHY : Field := ⟨0x210, 0x0, 0, 2, 3⟩
/-- R790 -/ def Reg.INT_ROUTE_VECTOR : Field := ⟨0x300, 0x4, 0, 0, 5⟩
/-- R790 -/ def Reg.INT_ROUTE_MSIX_EN : Field := ⟨0x300, 0x4, 0, 5, 1⟩
/-- R790 -/ def Reg.INT_ROUTE_PIN_INT : Field := ⟨0x300, 0x4, 0, 6, 1⟩
/-- R790 -/ def Reg.INT_ROUTE_PIN_ALARM : Field := ⟨0x300, 0x4, 0, 7, 1⟩
/-- R675 -/ def Reg.MB_STATUS_PENDING : Field := ⟨0x12010, 0x0, 0, 0, 8⟩
/-- R675 -/ def Reg.MB_STATUS_TXN_OPEN : Field := ⟨0x12010, 0x0, 0, 8, 8⟩
/-- R675 -/ def Reg.MB_STATUS_COMMITTING : Field := ⟨0x12010, 0x0, 0, 16, 8⟩
/-- R675 -/ def Reg.MB_EVENTS_DONE : Field := ⟨0x12014, 0x0, 0, 0, 8⟩
/-- R675 -/ def Reg.MB_EVENTS_TXN_END : Field := ⟨0x12014, 0x0, 0, 8, 8⟩
/-- R675 -/ def Reg.MB_INT_EN_EN : Field := ⟨0x12018, 0x0, 0, 0, 16⟩
/-- R675 -/ def Reg.MBC_SNAP_SNAP : Field := ⟨0x1201c, 0x0, 0, 0, 1⟩
/-- R679 -/ def Reg.GPIO_IN_IN : Field := ⟨0x12040, 0x0, 0, 0, 16⟩
/-- R679 -/ def Reg.GPIO_EVENTS_EDGE : Field := ⟨0x12044, 0x0, 0, 0, 16⟩
/-- R679 -/ def Reg.GPIO_INT_EN_EN : Field := ⟨0x12048, 0x0, 0, 0, 16⟩
/-- R679 -/ def Reg.GPIO_OUT_OUT : Field := ⟨0x1204c, 0x0, 0, 0, 16⟩
/-- R679 -/ def Reg.OPT_STATUS_SPI_BUSY : Field := ⟨0x12050, 0x0, 0, 0, 1⟩
/-- R679 -/ def Reg.OPT_STATUS_I2C_BUSY : Field := ⟨0x12050, 0x0, 0, 1, 1⟩
/-- R679 -/ def Reg.OPT_SPI_CFG_CLK0 : Field := ⟨0x12060, 0x0, 0, 0, 5⟩
/-- R679 -/ def Reg.OPT_SPI_CFG_MODE0 : Field := ⟨0x12060, 0x0, 0, 5, 2⟩
/-- R679 -/ def Reg.OPT_SPI_CFG_CLK1 : Field := ⟨0x12060, 0x0, 0, 8, 5⟩
/-- R679 -/ def Reg.OPT_SPI_CFG_MODE1 : Field := ⟨0x12060, 0x0, 0, 13, 2⟩
/-- R679 -/ def Reg.OPT_SPI_CFG_CLK2 : Field := ⟨0x12060, 0x0, 0, 16, 5⟩
/-- R679 -/ def Reg.OPT_SPI_CFG_MODE2 : Field := ⟨0x12060, 0x0, 0, 21, 2⟩
/-- R679 -/ def Reg.OPT_SPI_CFG_CLK3 : Field := ⟨0x12060, 0x0, 0, 24, 5⟩
/-- R679 -/ def Reg.OPT_SPI_CFG_MODE3 : Field := ⟨0x12060, 0x0, 0, 29, 2⟩
/-- R679 -/ def Reg.OPT_I2C_CFG_SPEED : Field := ⟨0x12064, 0x0, 0, 0, 2⟩
/-- R679 -/ def Reg.GPIO_CFG_MODE : Field := ⟨0x12080, 0x4, 0, 0, 2⟩
/-- R679 -/ def Reg.GPIO_CFG_OPEN_DRAIN : Field := ⟨0x12080, 0x4, 0, 2, 1⟩
/-- R679 -/ def Reg.GPIO_CFG_EDGE : Field := ⟨0x12080, 0x4, 0, 3, 2⟩
/-- R679 -/ def Reg.GPIO_CFG_INIT : Field := ⟨0x12080, 0x4, 0, 5, 1⟩
/-- R130 -/ def Reg.ADC_CTRL_FS_SEL : Field := ⟨0x100000, 0x1000, 0, 0, 2⟩
/-- R130 -/ def Reg.ADC_CTRL_INVERT : Field := ⟨0x100000, 0x1000, 0, 2, 1⟩
/-- R131 -/ def Reg.ADC_CAL_CFG_BG_EN : Field := ⟨0x100004, 0x1000, 0, 0, 1⟩
/-- R131 -/ def Reg.ADC_CAL_CFG_MIN_RMS : Field := ⟨0x100004, 0x1000, 0, 8, 8⟩
/-- R131 -/ def Reg.ADC_CAL_CFG_INTERVAL_MS : Field := ⟨0x100004, 0x1000, 0, 16, 10⟩
/-- R132 -/ def Reg.ADC_OVL_CFG_OVL_PPM : Field := ⟨0x100008, 0x1000, 0, 0, 14⟩
/-- R133 -/ def Reg.ADC_STATUS_STATE : Field := ⟨0x100010, 0x1000, 0, 0, 3⟩
/-- R133 -/ def Reg.ADC_STATUS_SPARE_LOST : Field := ⟨0x100010, 0x1000, 0, 3, 1⟩
/-- R133 -/ def Reg.ADC_STATUS_STEP_PHASE : Field := ⟨0x100010, 0x1000, 0, 4, 2⟩
/-- R133 -/ def Reg.ADC_STATUS_REQ_RUNNING : Field := ⟨0x100010, 0x1000, 0, 6, 1⟩
/-- R133 -/ def Reg.ADC_STATUS_REQ_QUEUED : Field := ⟨0x100010, 0x1000, 0, 7, 1⟩
/-- R133 -/ def Reg.ADC_STATUS_POS : Field := ⟨0x100010, 0x1000, 0, 8, 6⟩
/-- R133 -/ def Reg.ADC_STATUS_OVL : Field := ⟨0x100010, 0x1000, 0, 14, 1⟩
/-- R133 -/ def Reg.ADC_STATUS_SPARE : Field := ⟨0x100010, 0x1000, 0, 16, 7⟩
/-- R133 -/ def Reg.ADC_STATUS_FAULTY : Field := ⟨0x100010, 0x1000, 0, 24, 7⟩
/-- R134 -/ def Reg.ADC_EVENTS_OVL : Field := ⟨0x100014, 0x1000, 0, 0, 1⟩
/-- R134 -/ def Reg.ADC_EVENTS_CAL_FAIL : Field := ⟨0x100014, 0x1000, 0, 1, 1⟩
/-- R134 -/ def Reg.ADC_EVENTS_SLICE_FAULTY : Field := ⟨0x100014, 0x1000, 0, 2, 1⟩
/-- R134 -/ def Reg.ADC_EVENTS_SPARE_LOST : Field := ⟨0x100014, 0x1000, 0, 3, 1⟩
/-- R134 -/ def Reg.ADC_EVENTS_FG_DONE : Field := ⟨0x100014, 0x1000, 0, 4, 1⟩
/-- R134 -/ def Reg.ADC_EVENTS_FG_FAIL : Field := ⟨0x100014, 0x1000, 0, 5, 1⟩
/-- R134 -/ def Reg.ADC_INT_EN_EN : Field := ⟨0x100018, 0x1000, 0, 0, 6⟩
/-- R135 -/ def Reg.ADC_SNAP_SNAP : Field := ⟨0x10001c, 0x1000, 0, 0, 1⟩
/-- R137 -/ def Reg.CAL_TIME_T : Field := ⟨0x100040, 0x1000, 4, 0, 32⟩
/-- R138 -/ def Reg.SLICE_MAP_BYTES : Field := ⟨0x100080, 0x1000, 4, 0, 32⟩
/-- R139 -/ def Reg.DAC_CTRL_SWING : Field := ⟨0x104000, 0x1000, 0, 0, 6⟩
/-- R139 -/ def Reg.DAC_CTRL_INVERT : Field := ⟨0x104000, 0x1000, 0, 6, 1⟩
/-- R140 -/ def Reg.DAC_STATUS_STATE : Field := ⟨0x104010, 0x1000, 0, 0, 3⟩
/-- R140 -/ def Reg.DAC_STATUS_TIMING_OK : Field := ⟨0x104010, 0x1000, 0, 3, 1⟩
/-- R140 -/ def Reg.DAC_STATUS_MUX_ERR : Field := ⟨0x104010, 0x1000, 0, 8, 8⟩
/-- R141 -/ def Reg.DAC_EVENTS_DRIFT : Field := ⟨0x104014, 0x1000, 0, 0, 1⟩
/-- R141 -/ def Reg.DAC_EVENTS_FG_DONE : Field := ⟨0x104014, 0x1000, 0, 1, 1⟩
/-- R141 -/ def Reg.DAC_EVENTS_FG_FAIL : Field := ⟨0x104014, 0x1000, 0, 2, 1⟩
/-- R141 -/ def Reg.DAC_INT_EN_EN : Field := ⟨0x104018, 0x1000, 0, 0, 3⟩
/-- R135 -/ def Reg.DAC_SNAP_SNAP : Field := ⟨0x10401c, 0x1000, 0, 0, 1⟩
/-- R185 -/ def Reg.RX_CTRL_CD_MIN : Field := ⟨0x110000, 0x0, 0, 0, 16⟩
/-- R185 -/ def Reg.RX_CTRL_CD_MAX : Field := ⟨0x110000, 0x0, 0, 16, 16⟩
/-- R186 -/ def Reg.RX_ACQ_CFG_ACQ_TIMEOUT_MS : Field := ⟨0x110004, 0x0, 0, 0, 10⟩
/-- R186 -/ def Reg.RX_ACQ_CFG_LOS_THR : Field := ⟨0x110004, 0x0, 0, 16, 6⟩
/-- R187 -/ def Reg.RX_OSNR_CFG_TRX_SNR : Field := ⟨0x110008, 0x0, 0, 0, 12⟩
/-- R187 -/ def Reg.RX_OSNR_CFG_FLOS_THR : Field := ⟨0x110008, 0x0, 0, 16, 6⟩
/-- R187 -/ def Reg.RX_OSNR_CFG_CLK_REF_FURROW : Field := ⟨0x110008, 0x0, 0, 24, 5⟩
/-- R188 -/ def Reg.RX_CFG_RATE_MBD : Field := ⟨0x11000c, 0x0, 0, 0, 19⟩
/-- R188 -/ def Reg.RX_CFG_NFURROW : Field := ⟨0x11000c, 0x0, 0, 19, 3⟩
/-- R188 -/ def Reg.RX_CFG_LEAF_GROUP : Field := ⟨0x11000c, 0x0, 0, 22, 3⟩
/-- R189 -/ def Reg.RX_STATUS_ACQ_STATE : Field := ⟨0x110010, 0x0, 0, 0, 3⟩
/-- R189 -/ def Reg.RX_STATUS_CD_TIER : Field := ⟨0x110010, 0x0, 0, 3, 2⟩
/-- R189 -/ def Reg.RX_STATUS_LINE_LOS : Field := ⟨0x110010, 0x0, 0, 5, 1⟩
/-- R189 -/ def Reg.RX_STATUS_CD_RANGE : Field := ⟨0x110010, 0x0, 0, 6, 1⟩
/-- R189 -/ def Reg.RX_STATUS_LINE_LOCK : Field := ⟨0x110010, 0x0, 0, 7, 1⟩
/-- R190 -/ def Reg.RX_EVENTS_LINE_LOS : Field := ⟨0x110014, 0x0, 0, 0, 1⟩
/-- R190 -/ def Reg.RX_EVENTS_ACQ_DONE : Field := ⟨0x110014, 0x0, 0, 1, 1⟩
/-- R190 -/ def Reg.RX_EVENTS_ACQ_FAIL : Field := ⟨0x110014, 0x0, 0, 2, 1⟩
/-- R190 -/ def Reg.RX_EVENTS_CD_RANGE : Field := ⟨0x110014, 0x0, 0, 3, 1⟩
/-- R190 -/ def Reg.RX_INT_EN_EN : Field := ⟨0x110018, 0x0, 0, 0, 4⟩
/-- R190 -/ def Reg.RX_SNAP_SNAP : Field := ⟨0x11001c, 0x0, 0, 0, 1⟩
/-- R191 -/ def Reg.LINE_CD_EST_CD : Field := ⟨0x110040, 0x0, 0, 0, 32⟩
/-- R191 -/ def Reg.LINE_FREQ_OFS_F : Field := ⟨0x110044, 0x0, 0, 0, 32⟩
/-- R191 -/ def Reg.LINE_OSNR_OSNR : Field := ⟨0x110048, 0x0, 0, 0, 16⟩
/-- R191 -/ def Reg.ACQ_TIME_T : Field := ⟨0x11004c, 0x0, 0, 0, 16⟩
/-- R192 -/ def Reg.FR_RX_CTRL_EN : Field := ⟨0x120000, 0x800, 0, 0, 1⟩
/-- R192 -/ def Reg.FR_RX_CTRL_ADAPT_EN : Field := ⟨0x120000, 0x800, 0, 1, 1⟩
/-- R192 -/ def Reg.FR_RX_CTRL_ENTROPY : Field := ⟨0x120000, 0x800, 0, 2, 7⟩
/-- R192 -/ def Reg.FR_RX_CTRL_RATE_SEL : Field := ⟨0x120000, 0x800, 0, 9, 3⟩
/-- R193 -/ def Reg.FR_ADAPT_CFG_MARGIN : Field := ⟨0x120004, 0x800, 0, 0, 8⟩
/-- R193 -/ def Reg.FR_ADAPT_CFG_HYST : Field := ⟨0x120004, 0x800, 0, 8, 8⟩
/-- R193 -/ def Reg.FR_ADAPT_CFG_UP_HOLD_MS : Field := ⟨0x120004, 0x800, 0, 16, 16⟩
/-- R194 -/ def Reg.FR_STATUS_LOS : Field := ⟨0x120010, 0x800, 0, 0, 1⟩
/-- R194 -/ def Reg.FR_STATUS_CLK_LOCK : Field := ⟨0x120010, 0x800, 0, 1, 1⟩
/-- R194 -/ def Reg.FR_STATUS_EQ_LOCK : Field := ⟨0x120010, 0x800, 0, 2, 1⟩
/-- R194 -/ def Reg.FR_STATUS_CAR_LOCK : Field := ⟨0x120010, 0x800, 0, 3, 1⟩
/-- R194 -/ def Reg.FR_STATUS_ACQ : Field := ⟨0x120010, 0x800, 0, 4, 1⟩
/-- R194 -/ def Reg.FR_STATUS_H_NOW : Field := ⟨0x120010, 0x800, 0, 5, 7⟩
/-- R194 -/ def Reg.FR_STATUS_ADAPT_PENDING : Field := ⟨0x120010, 0x800, 0, 12, 1⟩
/-- R194 -/ def Reg.FR_STATUS_Q_STATE : Field := ⟨0x120010, 0x800, 0, 13, 2⟩
/-- R194 -/ def Reg.FR_STATUS_RILLS_CARRIED : Field := ⟨0x120010, 0x800, 0, 16, 11⟩
/-- R195 -/ def Reg.FR_EVENTS_LOS : Field := ⟨0x120014, 0x800, 0, 0, 1⟩
/-- R195 -/ def Reg.FR_EVENTS_LOCK_LOST : Field := ⟨0x120014, 0x800, 0, 1, 1⟩
/-- R195 -/ def Reg.FR_EVENTS_CYCLE_SLIP : Field := ⟨0x120014, 0x800, 0, 2, 1⟩
/-- R195 -/ def Reg.FR_EVENTS_ADAPT_CHANGE : Field := ⟨0x120014, 0x800, 0, 3, 1⟩
/-- R195 -/ def Reg.FR_EVENTS_RILL_SHED : Field := ⟨0x120014, 0x800, 0, 4, 1⟩
/-- R195 -/ def Reg.FR_EVENTS_ADAPT_TIMEOUT : Field := ⟨0x120014, 0x800, 0, 5, 1⟩
/-- R195 -/ def Reg.FR_INT_EN_EN : Field := ⟨0x120018, 0x800, 0, 0, 6⟩
/-- R195 -/ def Reg.FR_SNAP_SNAP : Field := ⟨0x12001c, 0x800, 0, 0, 1⟩
/-- R196 -/ def Reg.FR_SNR_SNR : Field := ⟨0x120040, 0x800, 0, 0, 16⟩
/-- R196 -/ def Reg.FR_SNR_OSNR : Field := ⟨0x120040, 0x800, 0, 16, 16⟩
/-- R196 -/ def Reg.FR_SNR_XY_X : Field := ⟨0x120044, 0x800, 0, 0, 16⟩
/-- R196 -/ def Reg.FR_SNR_XY_Y : Field := ⟨0x120044, 0x800, 0, 16, 16⟩
/-- R196 -/ def Reg.FR_CD_EST_CD : Field := ⟨0x120048, 0x800, 0, 0, 32⟩
/-- R196 -/ def Reg.FR_DGD_DGD : Field := ⟨0x12004c, 0x800, 0, 0, 16⟩
/-- R196 -/ def Reg.FR_DGD_PDL : Field := ⟨0x12004c, 0x800, 0, 16, 16⟩
/-- R196 -/ def Reg.FR_FREQ_OFS_F : Field := ⟨0x120050, 0x800, 0, 0, 32⟩
/-- R196 -/ def Reg.FR_PREFEC_BER_BER : Field := ⟨0x120054, 0x800, 0, 0, 32⟩
/-- R196 -/ def Reg.FR_NOISE_FLOOR_NF : Field := ⟨0x120058, 0x800, 0, 0, 16⟩
/-- R196 -/ def Reg.FR_NOISE_FLOOR_AGC_GAIN : Field := ⟨0x120058, 0x800, 0, 16, 16⟩
/-- R240 -/ def Reg.BR_CFG_GUARD_NS : Field := ⟨0x140000, 0x0, 0, 0, 8⟩
/-- R240 -/ def Reg.BR_CFG_ARRIVE_TOL : Field := ⟨0x140000, 0x0, 0, 8, 8⟩
/-- R240 -/ def Reg.BR_CFG_CAPTURE_DB : Field := ⟨0x140000, 0x0, 0, 16, 4⟩
/-- R240 -/ def Reg.BR_CFG_DET_THR : Field := ⟨0x140000, 0x0, 0, 20, 4⟩
/-- R241 -/ def Reg.BR_SHARED_MASK : Field := ⟨0x140004, 0x0, 0, 0, 32⟩
/-- R242 -/ def Reg.BR_TIMING_EQD_TOTAL_US : Field := ⟨0x140008, 0x0, 0, 0, 11⟩
/-- R242 -/ def Reg.BR_TIMING_RTD_MIN_US : Field := ⟨0x140008, 0x0, 0, 16, 11⟩
/-- R243 -/ def Reg.LEAF_CFG_EVICT_MISSES : Field := ⟨0x14000c, 0x0, 0, 0, 8⟩
/-- R243 -/ def Reg.LEAF_CFG_SILENT_MISSES : Field := ⟨0x14000c, 0x0, 0, 8, 4⟩
/-- R243 -/ def Reg.LEAF_CFG_AUTO_ALLOC : Field := ⟨0x14000c, 0x0, 0, 12, 1⟩
/-- R243 -/ def Reg.LEAF_CFG_RANGE_TRIES : Field := ⟨0x14000c, 0x0, 0, 16, 4⟩
/-- R243 -/ def Reg.LEAF_CFG_ROGUE_LIMIT : Field := ⟨0x14000c, 0x0, 0, 20, 4⟩
/-- R245 -/ def Reg.BR_STATUS_ARMED : Field := ⟨0x140010, 0x0, 0, 0, 1⟩
/-- R245 -/ def Reg.BR_STATUS_ADMITTED : Field := ⟨0x140010, 0x0, 0, 1, 9⟩
/-- R245 -/ def Reg.BR_STATUS_REGISTERED : Field := ⟨0x140010, 0x0, 0, 10, 11⟩
/-- R246 -/ def Reg.BR_EVENTS_LEAF_STATE : Field := ⟨0x140014, 0x0, 0, 0, 1⟩
/-- R246 -/ def Reg.BR_EVENTS_COLLISION : Field := ⟨0x140014, 0x0, 0, 1, 1⟩
/-- R246 -/ def Reg.BR_EVENTS_ROGUE : Field := ⟨0x140014, 0x0, 0, 2, 1⟩
/-- R246 -/ def Reg.BR_EVENTS_UNKNOWN_SERIAL : Field := ⟨0x140014, 0x0, 0, 3, 1⟩
/-- R246 -/ def Reg.BR_EVENTS_EVICTION : Field := ⟨0x140014, 0x0, 0, 4, 1⟩
/-- R246 -/ def Reg.BR_EVENTS_RANGE_FAIL : Field := ⟨0x140014, 0x0, 0, 5, 1⟩
/-- R246 -/ def Reg.BR_INT_EN_EN : Field := ⟨0x140018, 0x0, 0, 0, 6⟩
/-- R246 -/ def Reg.BR_SNAP_SNAP : Field := ⟨0x14001c, 0x0, 0, 0, 1⟩
/-- R244 -/ def Reg.SURVEY_CFG_SURVEY_PERIOD_MF : Field := ⟨0x140040, 0x0, 0, 0, 8⟩
/-- R244 -/ def Reg.SURVEY_CFG_BACKOFF_SLOTS : Field := ⟨0x140040, 0x0, 0, 8, 9⟩
/-- R241 -/ def Reg.SURVEY_MASK_MASK : Field := ⟨0x140044, 0x0, 0, 0, 32⟩
/-- R249 -/ def Reg.SELF_CTRL_JOIN_EN : Field := ⟨0x140080, 0x0, 0, 0, 1⟩
/-- R249 -/ def Reg.SELF_SERIAL_SERIAL : Field := ⟨0x140084, 0x4, 0, 0, 32⟩
/-- R249 -/ def Reg.SELF_STATUS_STATE : Field := ⟨0x14008c, 0x0, 0, 0, 3⟩
/-- R249 -/ def Reg.SELF_STATUS_LEAF : Field := ⟨0x14008c, 0x0, 0, 3, 10⟩
/-- R249 -/ def Reg.SELF_STATUS_LEAF_VALID : Field := ⟨0x14008c, 0x0, 0, 13, 1⟩
/-- R249 -/ def Reg.SELF_EQD_EQD : Field := ⟨0x140094, 0x0, 0, 0, 24⟩
/-- R249 -/ def Reg.SELF_FREQ_CORR_F : Field := ⟨0x140098, 0x0, 0, 0, 16⟩
/-- R247 -/ def Reg.LF_STATUS_STATE : Field := ⟨0x480000, 0x40, 0, 0, 3⟩
/-- R247 -/ def Reg.LF_STATUS_STANDBY : Field := ⟨0x480000, 0x40, 0, 3, 1⟩
/-- R247 -/ def Reg.LF_STATUS_BLOCKED : Field := ⟨0x480000, 0x40, 0, 4, 1⟩
/-- R247 -/ def Reg.LF_STATUS_PROFILE_SET : Field := ⟨0x480000, 0x40, 0, 5, 1⟩
/-- R247 -/ def Reg.LF_STATUS_Q_STATE : Field := ⟨0x480000, 0x40, 0, 6, 2⟩
/-- R247 -/ def Reg.LF_STATUS_MISS_RUN : Field := ⟨0x480000, 0x40, 0, 8, 8⟩
/-- R247 -/ def Reg.LF_PROFILE_TURNOUT : Field := ⟨0x480004, 0x40, 0, 0, 8⟩
/-- R247 -/ def Reg.LF_PROFILE_HOME_FURROW : Field := ⟨0x480004, 0x40, 0, 8, 5⟩
/-- R247 -/ def Reg.LF_PROFILE_CW_PER_MF : Field := ⟨0x480004, 0x40, 0, 13, 8⟩
/-- R247 -/ def Reg.LF_PROFILE_BURST_MOD : Field := ⟨0x480004, 0x40, 0, 21, 1⟩
/-- R247 -/ def Reg.LF_PROFILE_RATE_SEL : Field := ⟨0x480004, 0x40, 0, 22, 3⟩
/-- R247 -/ def Reg.LF_PROFILE_DEDICATED : Field := ⟨0x480004, 0x40, 0, 25, 4⟩
/-- R247 -/ def Reg.LF_PROFILE_DUAL_HOME : Field := ⟨0x480004, 0x40, 0, 29, 1⟩
/-- R248 -/ def Reg.LF_SERIAL_SERIAL : Field := ⟨0x480008, 0x40, 4, 0, 32⟩
/-- R248 -/ def Reg.LF_EQD_EQD : Field := ⟨0x480010, 0x40, 0, 0, 24⟩
/-- R248 -/ def Reg.LF_RTD_RTD : Field := ⟨0x480014, 0x40, 0, 0, 24⟩
/-- R248 -/ def Reg.LF_FREQ_FREQ_CORR : Field := ⟨0x480018, 0x40, 0, 0, 16⟩
/-- R248 -/ def Reg.LF_FREQ_RESID : Field := ⟨0x480018, 0x40, 0, 16, 16⟩
/-- R248 -/ def Reg.LF_LEVEL_RSSI : Field := ⟨0x48001c, 0x40, 0, 0, 16⟩
/-- R248 -/ def Reg.LF_LEVEL_CD : Field := ⟨0x48001c, 0x40, 0, 16, 16⟩
/-- R248 -/ def Reg.LF_LAST_SNR : Field := ⟨0x480020, 0x40, 0, 0, 16⟩
/-- R248 -/ def Reg.LF_LAST_E : Field := ⟨0x480020, 0x40, 0, 16, 16⟩
/-- R285 -/ def Reg.TXS_CTRL_ROLLOFF : Field := ⟨0x150000, 0x0, 0, 0, 5⟩
/-- R285 -/ def Reg.TXS_CTRL_SQ_ON_RX_LOS : Field := ⟨0x150000, 0x0, 0, 5, 1⟩
/-- R286 -/ def Reg.TXS_LEVEL_RMS_TARGET : Field := ⟨0x150004, 0x0, 0, 0, 6⟩
/-- R287 -/ def Reg.TXS_LEAF_CFG_GATE_GPIO : Field := ⟨0x150008, 0x0, 0, 0, 4⟩
/-- R287 -/ def Reg.TXS_LEAF_CFG_GATE_EN : Field := ⟨0x150008, 0x0, 0, 4, 1⟩
/-- R287 -/ def Reg.TXS_LEAF_CFG_GATE_POL : Field := ⟨0x150008, 0x0, 0, 5, 1⟩
/-- R287 -/ def Reg.TXS_LEAF_CFG_LEAD_NS : Field := ⟨0x150008, 0x0, 0, 6, 8⟩
/-- R287 -/ def Reg.TXS_LEAF_CFG_LAG_NS : Field := ⟨0x150008, 0x0, 0, 14, 8⟩
/-- R287 -/ def Reg.TXS_LEAF_CFG_BURST_MOD : Field := ⟨0x150008, 0x0, 0, 22, 1⟩
/-- R287 -/ def Reg.TXS_LEAF_CFG_BURST_RATE_SEL : Field := ⟨0x150008, 0x0, 0, 23, 3⟩
/-- R288 -/ def Reg.TXS_STATUS_SQUELCHED : Field := ⟨0x150010, 0x0, 0, 0, 1⟩
/-- R288 -/ def Reg.TXS_STATUS_SQ_REASON : Field := ⟨0x150010, 0x0, 0, 1, 8⟩
/-- R288 -/ def Reg.TXS_STATUS_GATE : Field := ⟨0x150010, 0x0, 0, 9, 1⟩
/-- R289 -/ def Reg.TXS_EVENTS_SQUELCH : Field := ⟨0x150014, 0x0, 0, 0, 1⟩
/-- R289 -/ def Reg.TXS_EVENTS_CLIP : Field := ⟨0x150014, 0x0, 0, 1, 1⟩
/-- R289 -/ def Reg.TXS_EVENTS_ADAPT_CHANGE : Field := ⟨0x150014, 0x0, 0, 2, 1⟩
/-- R289 -/ def Reg.TXS_EVENTS_ADAPT_REFUSED : Field := ⟨0x150014, 0x0, 0, 3, 1⟩
/-- R289 -/ def Reg.TXS_EVENTS_GRANT_OVERLAP : Field := ⟨0x150014, 0x0, 0, 4, 1⟩
/-- R289 -/ def Reg.TXS_EVENTS_GATE_CLAMP : Field := ⟨0x150014, 0x0, 0, 5, 1⟩
/-- R289 -/ def Reg.TXS_INT_EN_EN : Field := ⟨0x150018, 0x0, 0, 0, 6⟩
/-- R289 -/ def Reg.TXS_SNAP_SNAP : Field := ⟨0x15001c, 0x0, 0, 0, 1⟩
/-- R290 -/ def Reg.DAC_SKEW_SKEW : Field := ⟨0x150200, 0x20, 0, 0, 9⟩
/-- R290 -/ def Reg.DAC_IMB_GAIN : Field := ⟨0x150204, 0x20, 0, 0, 8⟩
/-- R290 -/ def Reg.DAC_IMB_OFFSET : Field := ⟨0x150204, 0x20, 0, 8, 8⟩
/-- R290 -/ def Reg.DAC_IMB_QPHASE : Field := ⟨0x150204, 0x20, 0, 16, 8⟩
/-- R290 -/ def Reg.DAC_TAPA_M3 : Field := ⟨0x150208, 0x20, 0, 0, 12⟩
/-- R290 -/ def Reg.DAC_TAPA_M2 : Field := ⟨0x150208, 0x20, 0, 16, 12⟩
/-- R290 -/ def Reg.DAC_TAPB_M1 : Field := ⟨0x15020c, 0x20, 0, 0, 12⟩
/-- R290 -/ def Reg.DAC_TAPB_T0 : Field := ⟨0x15020c, 0x20, 0, 16, 12⟩
/-- R290 -/ def Reg.DAC_TAPC_P1 : Field := ⟨0x150210, 0x20, 0, 0, 12⟩
/-- R290 -/ def Reg.DAC_TAPC_P2 : Field := ⟨0x150210, 0x20, 0, 16, 12⟩
/-- R290 -/ def Reg.DAC_TAPD_P3 : Field := ⟨0x150214, 0x20, 0, 0, 12⟩
/-- R291 -/ def Reg.TX_MASK_BINS : Field := ⟨0x150300, 0x4, 0, 0, 32⟩
/-- R292 -/ def Reg.TXF_CTRL_EN : Field := ⟨0x150400, 0x10, 0, 0, 1⟩
/-- R292 -/ def Reg.TXF_CTRL_FOLLOW : Field := ⟨0x150400, 0x10, 0, 1, 1⟩
/-- R292 -/ def Reg.TXF_CTRL_ENTROPY : Field := ⟨0x150400, 0x10, 0, 2, 7⟩
/-- R292 -/ def Reg.TXF_CTRL_RATE_SEL : Field := ⟨0x150400, 0x10, 0, 9, 3⟩
/-- R292 -/ def Reg.TXF_CTRL_POWER : Field := ⟨0x150400, 0x10, 0, 12, 8⟩
/-- R293 -/ def Reg.TXF_STATUS_H_TX_NOW : Field := ⟨0x150404, 0x10, 0, 0, 7⟩
/-- R293 -/ def Reg.TXF_STATUS_SWITCH_PENDING : Field := ⟨0x150404, 0x10, 0, 7, 1⟩
/-- R293 -/ def Reg.TXF_STATUS_Q_STATE : Field := ⟨0x150404, 0x10, 0, 8, 2⟩
/-- R330 -/ def Reg.FEC_CTRL_ITER : Field := ⟨0x160000, 0x0, 0, 0, 4⟩
/-- R330 -/ def Reg.FEC_CTRL_BURST_ITER : Field := ⟨0x160000, 0x0, 0, 4, 4⟩
/-- R330 -/ def Reg.FEC_CTRL_LINE_FEC : Field := ⟨0x160000, 0x0, 0, 8, 2⟩
/-- R331 -/ def Reg.FEC_DEF_CFG_FAIL_THR : Field := ⟨0x160004, 0x0, 0, 0, 8⟩
/-- R331 -/ def Reg.FEC_DEF_CFG_FAIL_CLR_MF : Field := ⟨0x160004, 0x0, 0, 8, 4⟩
/-- R331 -/ def Reg.FEC_DEF_CFG_DEG_SET : Field := ⟨0x160004, 0x0, 0, 12, 4⟩
/-- R331 -/ def Reg.FEC_DEF_CFG_DEG_CLR : Field := ⟨0x160004, 0x0, 0, 16, 4⟩
/-- R332 -/ def Reg.FEC_DEG_THR_THR : Field := ⟨0x160008, 0x0, 0, 0, 32⟩
/-- R332 -/ def Reg.CW_LOCK_MASK_MASK : Field := ⟨0x160010, 0x0, 0, 0, 32⟩
/-- R332 -/ def Reg.FAIL_MASK_MASK : Field := ⟨0x160014, 0x0, 0, 0, 32⟩
/-- R332 -/ def Reg.DEG_MASK_MASK : Field := ⟨0x160018, 0x0, 0, 0, 32⟩
/-- R332 -/ def Reg.FEC_SNAP_SNAP : Field := ⟨0x16001c, 0x0, 0, 0, 1⟩
/-- R334 -/ def Reg.FEC_FR_STATUS_CW_LOCK : Field := ⟨0x161000, 0x200, 0, 0, 1⟩
/-- R334 -/ def Reg.FEC_FR_STATUS_HUNT : Field := ⟨0x161000, 0x200, 0, 1, 1⟩
/-- R334 -/ def Reg.FEC_FR_STATUS_FEC_FAIL : Field := ⟨0x161000, 0x200, 0, 2, 1⟩
/-- R334 -/ def Reg.FEC_FR_STATUS_FEC_DEG : Field := ⟨0x161000, 0x200, 0, 3, 1⟩
/-- R334 -/ def Reg.FEC_FR_STATUS_RATE_NOW : Field := ⟨0x161000, 0x200, 0, 4, 3⟩
/-- R334 -/ def Reg.FEC_FR_STATUS_CYCLE : Field := ⟨0x161000, 0x200, 0, 7, 3⟩
/-- R335 -/ def Reg.FEC_FR_EVENTS_CW_LOCK_LOST : Field := ⟨0x161004, 0x200, 0, 0, 1⟩
/-- R335 -/ def Reg.FEC_FR_EVENTS_CW_LOCK_GAINED : Field := ⟨0x161004, 0x200, 0, 1, 1⟩
/-- R335 -/ def Reg.FEC_FR_EVENTS_FEC_FAIL : Field := ⟨0x161004, 0x200, 0, 2, 1⟩
/-- R335 -/ def Reg.FEC_FR_EVENTS_FEC_DEG : Field := ⟨0x161004, 0x200, 0, 3, 1⟩
/-- R335 -/ def Reg.FEC_FR_EVENTS_UNCORR : Field := ⟨0x161004, 0x200, 0, 4, 1⟩
/-- R335 -/ def Reg.FEC_FR_INT_EN_EN : Field := ⟨0x161008, 0x200, 0, 0, 5⟩
/-- R375 -/ def Reg.FRM_CFG_OOF_THR : Field := ⟨0x170000, 0x0, 0, 0, 4⟩
/-- R375 -/ def Reg.FRM_CFG_LOF_FRAMES : Field := ⟨0x170000, 0x0, 0, 4, 10⟩
/-- R375 -/ def Reg.FRM_CFG_LOF_CLR_FRAMES : Field := ⟨0x170000, 0x0, 0, 14, 10⟩
/-- R376 -/ def Reg.FORCE_BDI_MASK : Field := ⟨0x170004, 0x0, 0, 0, 32⟩
/-- R377 -/ def Reg.PROT_CFG_EN : Field := ⟨0x170008, 0x0, 0, 0, 1⟩
/-- R377 -/ def Reg.PROT_CFG_BIDIR : Field := ⟨0x170008, 0x0, 0, 1, 1⟩
/-- R377 -/ def Reg.PROT_CFG_REVERT : Field := ⟨0x170008, 0x0, 0, 2, 1⟩
/-- R377 -/ def Reg.PROT_CFG_SD_EN : Field := ⟨0x170008, 0x0, 0, 3, 1⟩
/-- R377 -/ def Reg.PROT_CFG_SEL_GPIO : Field := ⟨0x170008, 0x0, 0, 4, 4⟩
/-- R377 -/ def Reg.PROT_CFG_SEL_POL : Field := ⟨0x170008, 0x0, 0, 8, 1⟩
/-- R377 -/ def Reg.PROT_CFG_SF_A_GPIO : Field := ⟨0x170008, 0x0, 0, 9, 4⟩
/-- R377 -/ def Reg.PROT_CFG_SF_B_GPIO : Field := ⟨0x170008, 0x0, 0, 13, 4⟩
/-- R377 -/ def Reg.PROT_CFG_SF_POL : Field := ⟨0x170008, 0x0, 0, 17, 1⟩
/-- R377 -/ def Reg.PROT_CFG_PERSIST : Field := ⟨0x170008, 0x0, 0, 18, 3⟩
/-- R378 -/ def Reg.PROT_TIMERS_HOLDOFF : Field := ⟨0x17000c, 0x0, 0, 0, 7⟩
/-- R378 -/ def Reg.PROT_TIMERS_WTR_S : Field := ⟨0x17000c, 0x0, 0, 8, 10⟩
/-- R379 -/ def Reg.PROT_STATUS_SEL : Field := ⟨0x170010, 0x0, 0, 0, 1⟩
/-- R379 -/ def Reg.PROT_STATUS_REQ : Field := ⟨0x170010, 0x0, 0, 1, 4⟩
/-- R379 -/ def Reg.PROT_STATUS_HOLDOFF_RUN : Field := ⟨0x170010, 0x0, 0, 7, 1⟩
/-- R379 -/ def Reg.PROT_STATUS_WTR_RUN : Field := ⟨0x170010, 0x0, 0, 8, 1⟩
/-- R379 -/ def Reg.PROT_STATUS_SF_A : Field := ⟨0x170010, 0x0, 0, 9, 1⟩
/-- R379 -/ def Reg.PROT_STATUS_SF_B : Field := ⟨0x170010, 0x0, 0, 10, 1⟩
/-- R379 -/ def Reg.PROT_STATUS_SD_A : Field := ⟨0x170010, 0x0, 0, 11, 1⟩
/-- R379 -/ def Reg.PROT_STATUS_SD_B : Field := ⟨0x170010, 0x0, 0, 12, 1⟩
/-- R379 -/ def Reg.PROT_STATUS_PQ_UNSTABLE : Field := ⟨0x170010, 0x0, 0, 13, 1⟩
/-- R379 -/ def Reg.PROT_STATUS_SETTLING : Field := ⟨0x170010, 0x0, 0, 14, 1⟩
/-- R379 -/ def Reg.PROT_STATUS_SRC : Field := ⟨0x170010, 0x0, 0, 15, 3⟩
/-- R380 -/ def Reg.PROT_EVENTS_SWITCH : Field := ⟨0x170014, 0x0, 0, 0, 1⟩
/-- R380 -/ def Reg.PROT_EVENTS_PQ_UNSTABLE : Field := ⟨0x170014, 0x0, 0, 1, 1⟩
/-- R380 -/ def Reg.PROT_EVENTS_PQ_CHANGE : Field := ⟨0x170014, 0x0, 0, 2, 1⟩
/-- R380 -/ def Reg.PROT_EVENTS_HOLDOFF_CANCEL : Field := ⟨0x170014, 0x0, 0, 3, 1⟩
/-- R380 -/ def Reg.PROT_EVENTS_WTR_END : Field := ⟨0x170014, 0x0, 0, 4, 1⟩
/-- R380 -/ def Reg.PROT_EVENTS_GRANT_DEFER : Field := ⟨0x170014, 0x0, 0, 5, 1⟩
/-- R380 -/ def Reg.PROT_INT_EN_EN : Field := ⟨0x170018, 0x0, 0, 0, 6⟩
/-- R374 -/ def Reg.FRM_SNAP_SNAP : Field := ⟨0x17001c, 0x0, 0, 0, 1⟩
/-- R380 -/ def Reg.PQ_STATUS_TX_PQA : Field := ⟨0x170040, 0x0, 0, 0, 8⟩
/-- R380 -/ def Reg.PQ_STATUS_TX_PQB : Field := ⟨0x170040, 0x0, 0, 8, 8⟩
/-- R380 -/ def Reg.PQ_STATUS_RX_PQA : Field := ⟨0x170040, 0x0, 0, 16, 8⟩
/-- R380 -/ def Reg.PQ_STATUS_RX_PQB : Field := ⟨0x170040, 0x0, 0, 24, 8⟩
/-- R380 -/ def Reg.PROT_LEFT_WTR : Field := ⟨0x170044, 0x0, 0, 0, 10⟩
/-- R380 -/ def Reg.PROT_LEFT_HOLDOFF : Field := ⟨0x170044, 0x0, 0, 16, 7⟩
/-- R381 -/ def Reg.FRM_FR_STATUS_SYNC : Field := ⟨0x171000, 0x200, 0, 0, 1⟩
/-- R381 -/ def Reg.FRM_FR_STATUS_OOF : Field := ⟨0x171000, 0x200, 0, 1, 1⟩
/-- R381 -/ def Reg.FRM_FR_STATUS_LOF : Field := ⟨0x171000, 0x200, 0, 2, 1⟩
/-- R381 -/ def Reg.FRM_FR_STATUS_LOM : Field := ⟨0x171000, 0x200, 0, 3, 1⟩
/-- R381 -/ def Reg.FRM_FR_STATUS_SF : Field := ⟨0x171000, 0x200, 0, 4, 1⟩
/-- R381 -/ def Reg.FRM_FR_STATUS_SD : Field := ⟨0x171000, 0x200, 0, 5, 1⟩
/-- R381 -/ def Reg.FRM_FR_STATUS_BDI_RX : Field := ⟨0x171000, 0x200, 0, 6, 1⟩
/-- R381 -/ def Reg.FRM_FR_STATUS_CANDS : Field := ⟨0x171000, 0x200, 0, 7, 3⟩
/-- R381 -/ def Reg.FRM_FR_STATUS_FN : Field := ⟨0x171000, 0x200, 0, 10, 5⟩
/-- R381 -/ def Reg.FRM_FR_STATUS_J : Field := ⟨0x171000, 0x200, 0, 15, 2⟩
/-- R382 -/ def Reg.FRM_FR_EVENTS_LOF_SET : Field := ⟨0x171004, 0x200, 0, 0, 1⟩
/-- R382 -/ def Reg.FRM_FR_EVENTS_LOF_CLR : Field := ⟨0x171004, 0x200, 0, 1, 1⟩
/-- R382 -/ def Reg.FRM_FR_EVENTS_OOF : Field := ⟨0x171004, 0x200, 0, 2, 1⟩
/-- R382 -/ def Reg.FRM_FR_EVENTS_LOM : Field := ⟨0x171004, 0x200, 0, 3, 1⟩
/-- R382 -/ def Reg.FRM_FR_EVENTS_BDI_RX : Field := ⟨0x171004, 0x200, 0, 4, 1⟩
/-- R382 -/ def Reg.FRM_FR_INT_EN_EN : Field := ⟨0x171008, 0x200, 0, 0, 5⟩
/-- R382 -/ def Reg.FRM_FR_LEN_LEN : Field := ⟨0x171010, 0x200, 0, 0, 24⟩
/-- R382 -/ def Reg.MFN_RX_MFN : Field := ⟨0x171014, 0x200, 0, 0, 32⟩
/-- R406 -/ def Reg.TSI_STATUS_ACTIVE : Field := ⟨0x180010, 0x0, 0, 0, 1⟩
/-- R406 -/ def Reg.TSI_STATUS_STAGED : Field := ⟨0x180010, 0x0, 0, 1, 1⟩
/-- R406 -/ def Reg.TSI_EVENTS_SWAP : Field := ⟨0x180014, 0x0, 0, 0, 1⟩
/-- R406 -/ def Reg.TSI_EVENTS_SLIP : Field := ⟨0x180014, 0x0, 0, 1, 1⟩
/-- R406 -/ def Reg.TSI_EVENTS_LATE : Field := ⟨0x180014, 0x0, 0, 2, 1⟩
/-- R406 -/ def Reg.TSI_EVENTS_RL_ALIGN : Field := ⟨0x180014, 0x0, 0, 3, 1⟩
/-- R406 -/ def Reg.TSI_INT_EN_EN : Field := ⟨0x180018, 0x0, 0, 0, 4⟩
/-- R406 -/ def Reg.TSI_SNAP_SNAP : Field := ⟨0x18001c, 0x0, 0, 0, 1⟩
/-- R407 -/ def Reg.RL_CFG_EN : Field := ⟨0x180200, 0x10, 0, 0, 1⟩
/-- R407 -/ def Reg.RL_CFG_FREE : Field := ⟨0x180200, 0x10, 0, 1, 1⟩
/-- R407 -/ def Reg.RL_CFG_RILLS : Field := ⟨0x180200, 0x10, 0, 2, 8⟩
/-- R407 -/ def Reg.RL_CFG_RL_TX_DELAY : Field := ⟨0x180200, 0x10, 0, 10, 13⟩
/-- R407 -/ def Reg.RL_STATUS_ALIGNED : Field := ⟨0x180204, 0x10, 0, 0, 1⟩
/-- R407 -/ def Reg.RL_STATUS_IN_WINDOW : Field := ⟨0x180204, 0x10, 0, 1, 1⟩
/-- R407 -/ def Reg.RL_OFFSET_OFFSET : Field := ⟨0x180208, 0x10, 0, 0, 32⟩
/-- R408 -/ def Reg.SB_STATUS_TURNOUT : Field := ⟨0x180600, 0x20, 0, 0, 8⟩
/-- R408 -/ def Reg.SB_STATUS_STARTED_IN : Field := ⟨0x180600, 0x20, 0, 8, 1⟩
/-- R408 -/ def Reg.SB_STATUS_STARTED_OUT : Field := ⟨0x180600, 0x20, 0, 9, 1⟩
/-- R408 -/ def Reg.SB_STATUS_FILL_IN : Field := ⟨0x180600, 0x20, 0, 10, 4⟩
/-- R408 -/ def Reg.SB_STATUS_FILL_OUT : Field := ⟨0x180600, 0x20, 0, 14, 4⟩
/-- R406 -/ def Reg.TSI_PAGE_A_ENTRY : Field := ⟨0x188000, 0x4, 0, 0, 32⟩
/-- R406 -/ def Reg.TSI_PAGE_B_ENTRY : Field := ⟨0x18c000, 0x4, 0, 0, 32⟩
/-- R409 -/ def Reg.TN_CLIENT_KIND : Field := ⟨0x400000, 0x400, 0, 0, 3⟩
/-- R409 -/ def Reg.TN_CLIENT_ETH_RATE : Field := ⟨0x400000, 0x400, 0, 3, 3⟩
/-- R409 -/ def Reg.TN_CLIENT_LANE : Field := ⟨0x400000, 0x400, 0, 6, 4⟩
/-- R409 -/ def Reg.TN_CLIENT_RILLS : Field := ⟨0x400000, 0x400, 0, 10, 11⟩
/-- R409 -/ def Reg.TN_STATUS_RILLS_LIVE : Field := ⟨0x400004, 0x400, 0, 0, 11⟩
/-- R409 -/ def Reg.TN_WAIT_WAIT_MIN : Field := ⟨0x400008, 0x400, 0, 0, 16⟩
/-- R409 -/ def Reg.TN_WAIT_WAIT_MAX : Field := ⟨0x400008, 0x400, 0, 16, 16⟩
/-- R445 -/ def Reg.CIPH_STATUS_ROOT : Field := ⟨0x1a0010, 0x0, 0, 0, 1⟩
/-- R445 -/ def Reg.CIPH_STATUS_SLOTS_USED : Field := ⟨0x1a0010, 0x0, 0, 1, 10⟩
/-- R445 -/ def Reg.CIPH_EVENTS_WARN : Field := ⟨0x1a0014, 0x0, 0, 0, 1⟩
/-- R445 -/ def Reg.CIPH_EVENTS_EXHAUSTED : Field := ⟨0x1a0014, 0x0, 0, 1, 1⟩
/-- R445 -/ def Reg.CIPH_EVENTS_AUTH_FAIL : Field := ⟨0x1a0014, 0x0, 0, 2, 1⟩
/-- R445 -/ def Reg.CIPH_EVENTS_REPLAY : Field := ⟨0x1a0014, 0x0, 0, 3, 1⟩
/-- R445 -/ def Reg.CIPH_EVENTS_BLOCKED : Field := ⟨0x1a0014, 0x0, 0, 4, 1⟩
/-- R445 -/ def Reg.CIPH_EVENTS_ROLL_DONE : Field := ⟨0x1a0014, 0x0, 0, 5, 1⟩
/-- R445 -/ def Reg.CIPH_EVENTS_UNWRAP_FAIL : Field := ⟨0x1a0014, 0x0, 0, 6, 1⟩
/-- R445 -/ def Reg.CIPH_EVENTS_DAMAGED : Field := ⟨0x1a0014, 0x0, 0, 7, 1⟩
/-- R445 -/ def Reg.CIPH_INT_EN_EN : Field := ⟨0x1a0018, 0x0, 0, 0, 8⟩
/-- R445 -/ def Reg.CIPH_SNAP_SNAP : Field := ⟨0x1a001c, 0x0, 0, 0, 1⟩
/-- R445 -/ def Reg.PIPE_USE_ACTIVE : Field := ⟨0x1a0040, 0x4, 0, 0, 7⟩
/-- R445 -/ def Reg.PIPE_USE_SUCCESSORS : Field := ⟨0x1a0040, 0x4, 0, 8, 4⟩
/-- R445 -/ def Reg.PIPE_USE_RILLS : Field := ⟨0x1a0040, 0x4, 0, 12, 10⟩
/-- R446 -/ def Reg.KS_STATUS_STATE : Field := ⟨0x1a1000, 0x8, 0, 0, 2⟩
/-- R446 -/ def Reg.KS_STATUS_REFS : Field := ⟨0x1a1000, 0x8, 0, 2, 11⟩
/-- R446 -/ def Reg.KS_KCV_KCV : Field := ⟨0x1a1004, 0x8, 0, 0, 32⟩
/-- R447 -/ def Reg.TN_CIPHER_PROTECT : Field := ⟨0x1a2000, 0x40, 0, 0, 1⟩
/-- R447 -/ def Reg.TN_CIPHER_RELEASE : Field := ⟨0x1a2000, 0x40, 0, 1, 1⟩
/-- R447 -/ def Reg.TN_CIPHER_ON_FAIL : Field := ⟨0x1a2000, 0x40, 0, 2, 1⟩
/-- R447 -/ def Reg.TN_CIPHER_PIPE : Field := ⟨0x1a2000, 0x40, 0, 3, 4⟩
/-- R447 -/ def Reg.TN_CIPHER_CTX : Field := ⟨0x1a2000, 0x40, 0, 8, 10⟩
/-- R447 -/ def Reg.TN_CIPH_STATUS_CUR_CTX : Field := ⟨0x1a2004, 0x40, 0, 0, 10⟩
/-- R447 -/ def Reg.TN_CIPH_STATUS_NEXT_CTX : Field := ⟨0x1a2004, 0x40, 0, 10, 10⟩
/-- R447 -/ def Reg.TN_CIPH_STATUS_NEXT_VALID : Field := ⟨0x1a2004, 0x40, 0, 20, 1⟩
/-- R447 -/ def Reg.TN_CIPH_STATUS_TX_PHASE : Field := ⟨0x1a2004, 0x40, 0, 21, 1⟩
/-- R447 -/ def Reg.TN_CIPH_STATUS_TX_SWITCHED : Field := ⟨0x1a2004, 0x40, 0, 22, 1⟩
/-- R447 -/ def Reg.TN_CIPH_STATUS_BLOCKED : Field := ⟨0x1a2004, 0x40, 0, 23, 1⟩
/-- R447 -/ def Reg.TN_CIPH_STATUS_EXH_TX : Field := ⟨0x1a2004, 0x40, 0, 24, 1⟩
/-- R448 -/ def Reg.CTX_STATUS_STATE : Field := ⟨0x1b0000, 0x20, 0, 0, 3⟩
/-- R448 -/ def Reg.CTX_STATUS_KEY_VALID : Field := ⟨0x1b0000, 0x20, 0, 3, 1⟩
/-- R448 -/ def Reg.CTX_STATUS_TX_DIR : Field := ⟨0x1b0000, 0x20, 0, 4, 1⟩
/-- R448 -/ def Reg.CTX_STATUS_SUCCESSOR : Field := ⟨0x1b0000, 0x20, 0, 5, 1⟩
/-- R448 -/ def Reg.CTX_STATUS_PHASE : Field := ⟨0x1b0000, 0x20, 0, 6, 1⟩
/-- R448 -/ def Reg.CTX_STATUS_HW_RAISED : Field := ⟨0x1b0000, 0x20, 0, 7, 1⟩
/-- R448 -/ def Reg.CTX_STATUS_TURNOUT : Field := ⟨0x1b0000, 0x20, 0, 8, 8⟩
/-- R448 -/ def Reg.CTX_STATUS_KEY : Field := ⟨0x1b0000, 0x20, 0, 16, 9⟩
/-- R448 -/ def Reg.CTX_STATUS_Q_STATE : Field := ⟨0x1b0000, 0x20, 0, 25, 2⟩
/-- R448 -/ def Reg.CTX_TX_LO_TX_CTR_LO : Field := ⟨0x1b0004, 0x20, 0, 0, 32⟩
/-- R448 -/ def Reg.CTX_HI_TX_CTR_HI : Field := ⟨0x1b0008, 0x20, 0, 0, 8⟩
/-- R448 -/ def Reg.CTX_HI_RX_LAST_HI : Field := ⟨0x1b0008, 0x20, 0, 8, 8⟩
/-- R448 -/ def Reg.CTX_HI_WARN_LEFT : Field := ⟨0x1b0008, 0x20, 0, 16, 16⟩
/-- R448 -/ def Reg.CTX_RX_LO_RX_LAST_LO : Field := ⟨0x1b000c, 0x20, 0, 0, 32⟩
/-- R480 -/ def Reg.IN_CFG_MAX_FRAME : Field := ⟨0x200000, 0x0, 0, 0, 14⟩
/-- R480 -/ def Reg.IN_CFG_TPID_USER : Field := ⟨0x200000, 0x0, 0, 16, 16⟩
/-- R480 -/ def Reg.IN_PORTS_VXLAN_PORT : Field := ⟨0x200004, 0x0, 0, 0, 16⟩
/-- R480 -/ def Reg.IN_PORTS_GENEVE_PORT : Field := ⟨0x200004, 0x0, 0, 16, 16⟩
/-- R480 -/ def Reg.HASH_SEED_SEED : Field := ⟨0x200008, 0x0, 0, 0, 32⟩
/-- R480 -/ def Reg.BW_CFG_BW_POOL_PARCELS : Field := ⟨0x20000c, 0x0, 0, 0, 18⟩
/-- R480 -/ def Reg.IN_STATUS_FLOW_USED : Field := ⟨0x200010, 0x0, 0, 0, 19⟩
/-- R480 -/ def Reg.IN_EVENTS_FLOW_FULL : Field := ⟨0x200014, 0x0, 0, 0, 1⟩
/-- R480 -/ def Reg.IN_EVENTS_OVERLOAD : Field := ⟨0x200014, 0x0, 0, 1, 1⟩
/-- R480 -/ def Reg.IN_EVENTS_BW_LIMIT : Field := ⟨0x200014, 0x0, 0, 2, 1⟩
/-- R480 -/ def Reg.IN_INT_EN_EN : Field := ⟨0x200018, 0x0, 0, 0, 3⟩
/-- R480 -/ def Reg.IN_SNAP_SNAP : Field := ⟨0x20001c, 0x0, 0, 0, 1⟩
/-- R480 -/ def Reg.TERN_STATUS_TERN_USED : Field := ⟨0x200040, 0x0, 0, 0, 15⟩
/-- R481 -/ def Reg.DL_CFG_EN : Field := ⟨0x200200, 0x40, 0, 0, 1⟩
/-- R481 -/ def Reg.DL_CFG_ANCHOR : Field := ⟨0x200200, 0x40, 0, 1, 1⟩
/-- R481 -/ def Reg.DL_CFG_FLOAT : Field := ⟨0x200200, 0x40, 0, 2, 1⟩
/-- R481 -/ def Reg.DL_CFG_LEN : Field := ⟨0x200200, 0x40, 0, 3, 4⟩
/-- R481 -/ def Reg.DL_CFG_OFFSET : Field := ⟨0x200200, 0x40, 0, 8, 9⟩
/-- R481 -/ def Reg.DL_VALUE_VALUE : Field := ⟨0x200210, 0x40, 4, 0, 32⟩
/-- R481 -/ def Reg.DL_MASK_MASK : Field := ⟨0x200220, 0x40, 4, 0, 32⟩
/-- R482 -/ def Reg.TN_PKT_HOST_PORT : Field := ⟨0x400040, 0x400, 0, 0, 1⟩
/-- R482 -/ def Reg.TN_PKT_LANE : Field := ⟨0x400040, 0x400, 0, 1, 4⟩
/-- R482 -/ def Reg.TN_PKT_ETH_RATE : Field := ⟨0x400040, 0x400, 0, 5, 3⟩
/-- R482 -/ def Reg.TN_PKT_DEEP_LOOK : Field := ⟨0x400040, 0x400, 0, 8, 1⟩
/-- R482 -/ def Reg.TN_PKT_PARSE_HDRS : Field := ⟨0x400040, 0x400, 0, 9, 5⟩
/-- R482 -/ def Reg.TN_PKT_PARSE_BYTES : Field := ⟨0x400040, 0x400, 0, 14, 9⟩
/-- R482 -/ def Reg.TN_PKT_KEY_LAYER : Field := ⟨0x400040, 0x400, 0, 23, 1⟩
/-- R482 -/ def Reg.TN_PKT_LEN_POLICY : Field := ⟨0x400040, 0x400, 0, 24, 1⟩
/-- R482 -/ def Reg.TN_PKT_KEY_TYPE : Field := ⟨0x400040, 0x400, 0, 25, 3⟩
/-- R482 -/ def Reg.TN_DEFAULT_LO_ACTION : Field := ⟨0x400044, 0x400, 0, 0, 32⟩
/-- R482 -/ def Reg.TN_DEFAULT_HI_ACTION : Field := ⟨0x400048, 0x400, 0, 0, 32⟩
/-- R482 -/ def Reg.TN_KEY_KEY_DOMAIN : Field := ⟨0x40004c, 0x400, 0, 0, 8⟩
/-- R482 -/ def Reg.TN_KEY_LEN_PROG : Field := ⟨0x40004c, 0x400, 0, 8, 12⟩
/-- R482 -/ def Reg.TN_IN_STATUS_Q_STATE : Field := ⟨0x400050, 0x400, 0, 0, 2⟩
/-- R510 -/ def Reg.HG_CFG_CQ_POOL_PARCELS : Field := ⟨0x240000, 0x0, 0, 0, 18⟩
/-- R510 -/ def Reg.HG_DESC_DESC_USED : Field := ⟨0x240004, 0x0, 0, 0, 17⟩
/-- R510 -/ def Reg.HG_PARCELS_TOTAL_TOTAL : Field := ⟨0x240008, 0x0, 0, 0, 21⟩
/-- R510 -/ def Reg.HG_SHARED_FREE_SHARED : Field := ⟨0x24000c, 0x0, 0, 0, 21⟩
/-- R510 -/ def Reg.HG_EVENTS_SHARED_EMPTY : Field := ⟨0x240014, 0x0, 0, 0, 1⟩
/-- R510 -/ def Reg.HG_EVENTS_DESC_EMPTY : Field := ⟨0x240014, 0x0, 0, 1, 1⟩
/-- R510 -/ def Reg.HG_EVENTS_CQ_FULL : Field := ⟨0x240014, 0x0, 0, 2, 1⟩
/-- R510 -/ def Reg.HG_INT_EN_EN : Field := ⟨0x240018, 0x0, 0, 0, 3⟩
/-- R509 -/ def Reg.HG_SNAP_SNAP : Field := ⟨0x24001c, 0x0, 0, 0, 1⟩
/-- R511 -/ def Reg.Q_CFG_WEIGHT : Field := ⟨0x248000, 0x10, 0, 0, 8⟩
/-- R511 -/ def Reg.Q_CFG_Q_LIMIT : Field := ⟨0x248000, 0x10, 0, 8, 21⟩
/-- R511 -/ def Reg.Q_PARCELS_N : Field := ⟨0x248004, 0x10, 0, 0, 21⟩
/-- R511 -/ def Reg.Q_PKTS_N : Field := ⟨0x248008, 0x10, 0, 0, 17⟩
/-- R511 -/ def Reg.CQ_CFG_CQ_LIMIT : Field := ⟨0x241000, 0x10, 0, 0, 21⟩
/-- R511 -/ def Reg.CQ_CFG_OWNER : Field := ⟨0x241000, 0x10, 0, 21, 1⟩
/-- R511 -/ def Reg.CQ_PARCELS_N : Field := ⟨0x241004, 0x10, 0, 0, 21⟩
/-- R511 -/ def Reg.CQ_PKTS_N : Field := ⟨0x241008, 0x10, 0, 0, 17⟩
/-- R512 -/ def Reg.TN_HG_MIN_MIN : Field := ⟨0x4000c0, 0x400, 0, 0, 21⟩
/-- R512 -/ def Reg.TN_HG_MAX_MAX : Field := ⟨0x4000c4, 0x400, 0, 0, 21⟩
/-- R512 -/ def Reg.TN_HG_STRICT_STRICT : Field := ⟨0x4000c8, 0x400, 0, 0, 8⟩
/-- R512 -/ def Reg.TN_HG_STATUS_CHARGED : Field := ⟨0x4000cc, 0x400, 0, 0, 21⟩
/-- R544 -/ def Reg.ENG_CFG_MAX_INSNS : Field := ⟨0x580000, 0x0, 0, 0, 13⟩
/-- R544 -/ def Reg.ENG_IMAGE_ACTIVE_ID : Field := ⟨0x580004, 0x0, 0, 0, 32⟩
/-- R544 -/ def Reg.ENG_STAGED_STAGED_ID : Field := ⟨0x580008, 0x0, 0, 0, 32⟩
/-- R544 -/ def Reg.ENG_STATUS_SWITCHING : Field := ⟨0x580010, 0x0, 0, 0, 1⟩
/-- R544 -/ def Reg.ENG_STATUS_ACTION_IN : Field := ⟨0x580010, 0x0, 0, 1, 6⟩
/-- R544 -/ def Reg.ENG_STATUS_FW_IN : Field := ⟨0x580010, 0x0, 0, 7, 6⟩
/-- R544 -/ def Reg.ENG_EVENTS_IMAGE_DONE : Field := ⟨0x580014, 0x0, 0, 0, 1⟩
/-- R544 -/ def Reg.ENG_EVENTS_GMAP_LATE : Field := ⟨0x580014, 0x0, 0, 1, 1⟩
/-- R544 -/ def Reg.ENG_INT_EN_EN : Field := ⟨0x580018, 0x0, 0, 0, 2⟩
/-- R543 -/ def Reg.ENG_SNAP_SNAP : Field := ⟨0x58001c, 0x0, 0, 0, 1⟩
/-- R545 -/ def Reg.LAT_CTRL_EN : Field := ⟨0x500000, 0x1000, 0, 0, 1⟩
/-- R545 -/ def Reg.LAT_CTRL_ROLE : Field := ⟨0x500000, 0x1000, 0, 1, 1⟩
/-- R545 -/ def Reg.LAT_STATUS_Q_STATE : Field := ⟨0x500010, 0x1000, 0, 0, 2⟩
/-- R545 -/ def Reg.LAT_STATUS_HELD : Field := ⟨0x500010, 0x1000, 0, 2, 1⟩
/-- R545 -/ def Reg.LAT_STATUS_POWERED : Field := ⟨0x500010, 0x1000, 0, 3, 1⟩
/-- R545 -/ def Reg.LAT_STATUS_THREADS_BUSY : Field := ⟨0x500010, 0x1000, 0, 4, 8⟩
/-- R545 -/ def Reg.LAT_EVENTS_EXC : Field := ⟨0x500014, 0x1000, 0, 0, 1⟩
/-- R545 -/ def Reg.LAT_INT_EN_EXC : Field := ⟨0x500018, 0x1000, 0, 0, 1⟩
/-- R546 -/ def Reg.TN_ENG_ORDERED : Field := ⟨0x400200, 0x400, 0, 0, 1⟩
/-- R566 -/ def Reg.FLIP_STATUS_ARMED : Field := ⟨0x280010, 0x0, 0, 0, 1⟩
/-- R566 -/ def Reg.FLIP_STATUS_MEM : Field := ⟨0x280010, 0x0, 0, 1, 4⟩
/-- R566 -/ def Reg.FLIP_STATUS_INSTANCE : Field := ⟨0x280010, 0x0, 0, 5, 10⟩
/-- R566 -/ def Reg.MEM_EVENTS_CE : Field := ⟨0x280014, 0x0, 0, 0, 1⟩
/-- R566 -/ def Reg.MEM_EVENTS_UE : Field := ⟨0x280014, 0x0, 0, 1, 1⟩
/-- R566 -/ def Reg.MEM_EVENTS_POISON_BITE : Field := ⟨0x280014, 0x0, 0, 2, 1⟩
/-- R566 -/ def Reg.MEM_EVENTS_SCRUB_DONE : Field := ⟨0x280014, 0x0, 0, 3, 1⟩
/-- R566 -/ def Reg.MEM_EVENTS_FLIP_FIRED : Field := ⟨0x280014, 0x0, 0, 4, 1⟩
/-- R566 -/ def Reg.MEM_EVENTS_LEAK : Field := ⟨0x280014, 0x0, 0, 5, 1⟩
/-- R566 -/ def Reg.MEM_EVENTS_SCRUB_LATE : Field := ⟨0x280014, 0x0, 0, 6, 1⟩
/-- R566 -/ def Reg.MEM_INT_EN_EN : Field := ⟨0x280018, 0x0, 0, 0, 7⟩
/-- R566 -/ def Reg.MEM_SNAP_SNAP : Field := ⟨0x28001c, 0x0, 0, 0, 1⟩
/-- R566 -/ def Reg.FLIP_ADDR_WORD : Field := ⟨0x280040, 0x0, 0, 0, 23⟩
/-- R566 -/ def Reg.FLIP_ADDR_INSTANCE : Field := ⟨0x280040, 0x0, 0, 23, 9⟩
/-- R566 -/ def Reg.LEAKED_PARCELS_PARCELS : Field := ⟨0x280044, 0x0, 0, 0, 21⟩
/-- R566 -/ def Reg.LEAKED_DESC_DESC : Field := ⟨0x280048, 0x0, 0, 0, 17⟩
/-- R567 -/ def Reg.MEM_CFG_SCRUB_PERIOD_MS : Field := ⟨0x281000, 0x40, 0, 0, 16⟩
/-- R567 -/ def Reg.MEM_CFG_CE_LOG : Field := ⟨0x281000, 0x40, 0, 16, 1⟩
/-- R567 -/ def Reg.MEM_MSTATUS_SCRUB_RUN : Field := ⟨0x281004, 0x40, 0, 0, 1⟩
/-- R567 -/ def Reg.MEM_MSTATUS_SWEEP_RUN : Field := ⟨0x281004, 0x40, 0, 1, 1⟩
/-- R567 -/ def Reg.LAST_ERR_WORD : Field := ⟨0x281008, 0x40, 0, 0, 23⟩
/-- R567 -/ def Reg.LAST_ERR_INSTANCE : Field := ⟨0x281008, 0x40, 0, 23, 9⟩
/-- R567 -/ def Reg.LAST_KIND_KIND : Field := ⟨0x28100c, 0x40, 0, 0, 2⟩
/-- R604 -/ def Reg.LN_CFG_RATE : Field := ⟨0x300000, 0x1000, 0, 0, 4⟩
/-- R604 -/ def Reg.LN_CFG_FORMAT : Field := ⟨0x300000, 0x1000, 0, 4, 3⟩
/-- R604 -/ def Reg.LN_CFG_COPPER : Field := ⟨0x300000, 0x1000, 0, 7, 1⟩
/-- R604 -/ def Reg.LN_CFG_RX_INV : Field := ⟨0x300000, 0x1000, 0, 8, 1⟩
/-- R604 -/ def Reg.LN_CFG_TX_INV : Field := ⟨0x300000, 0x1000, 0, 9, 1⟩
/-- R604 -/ def Reg.LN_CFG_PRECODE_RX : Field := ⟨0x300000, 0x1000, 0, 10, 1⟩
/-- R604 -/ def Reg.LN_CFG_PRECODE_TX : Field := ⟨0x300000, 0x1000, 0, 11, 1⟩
/-- R604 -/ def Reg.LN_CFG_CUSTOM_MBD : Field := ⟨0x300000, 0x1000, 0, 12, 15⟩
/-- R604 -/ def Reg.LN_TXEQ_C_M3 : Field := ⟨0x300004, 0x1000, 0, 0, 5⟩
/-- R604 -/ def Reg.LN_TXEQ_C_M2 : Field := ⟨0x300004, 0x1000, 0, 5, 5⟩
/-- R604 -/ def Reg.LN_TXEQ_C_M1 : Field := ⟨0x300004, 0x1000, 0, 10, 6⟩
/-- R604 -/ def Reg.LN_TXEQ_C_0 : Field := ⟨0x300004, 0x1000, 0, 16, 6⟩
/-- R604 -/ def Reg.LN_TXEQ_C_P1 : Field := ⟨0x300004, 0x1000, 0, 22, 5⟩
/-- R604 -/ def Reg.LN_TXEQ_SWING : Field := ⟨0x300004, 0x1000, 0, 27, 5⟩
/-- R604 -/ def Reg.LN_TEST_GEN_PAT : Field := ⟨0x300008, 0x1000, 0, 0, 4⟩
/-- R604 -/ def Reg.LN_TEST_CHK_PAT : Field := ⟨0x300008, 0x1000, 0, 4, 4⟩
/-- R604 -/ def Reg.LN_TEST_LOOPBACK : Field := ⟨0x300008, 0x1000, 0, 8, 3⟩
/-- R604 -/ def Reg.LN_STATUS_RX_STATE : Field := ⟨0x300010, 0x1000, 0, 0, 3⟩
/-- R604 -/ def Reg.LN_STATUS_PSTATE : Field := ⟨0x300010, 0x1000, 0, 3, 2⟩
/-- R604 -/ def Reg.LN_STATUS_Q_STATE : Field := ⟨0x300010, 0x1000, 0, 5, 2⟩
/-- R604 -/ def Reg.LN_STATUS_SIG_DET : Field := ⟨0x300010, 0x1000, 0, 7, 1⟩
/-- R604 -/ def Reg.LN_STATUS_BLOCK_LOCK : Field := ⟨0x300010, 0x1000, 0, 8, 1⟩
/-- R604 -/ def Reg.LN_STATUS_PAT_LOCK : Field := ⟨0x300010, 0x1000, 0, 9, 1⟩
/-- R604 -/ def Reg.LN_STATUS_INJECTING : Field := ⟨0x300010, 0x1000, 0, 10, 1⟩
/-- R604 -/ def Reg.LN_EVENTS_LOCK_LOST : Field := ⟨0x300014, 0x1000, 0, 0, 1⟩
/-- R604 -/ def Reg.LN_EVENTS_LOCK_GAINED : Field := ⟨0x300014, 0x1000, 0, 1, 1⟩
/-- R604 -/ def Reg.LN_EVENTS_BLOCK_LOCK_LOST : Field := ⟨0x300014, 0x1000, 0, 2, 1⟩
/-- R604 -/ def Reg.LN_EVENTS_PAT_LOCK_LOST : Field := ⟨0x300014, 0x1000, 0, 3, 1⟩
/-- R604 -/ def Reg.LN_EVENTS_ALIGN_LOST : Field := ⟨0x300014, 0x1000, 0, 4, 1⟩
/-- R604 -/ def Reg.LN_EVENTS_HI_SER : Field := ⟨0x300014, 0x1000, 0, 5, 1⟩
/-- R604 -/ def Reg.LN_EVENTS_PSTATE_DONE : Field := ⟨0x300014, 0x1000, 0, 6, 1⟩
/-- R604 -/ def Reg.LN_INT_EN_EN : Field := ⟨0x300018, 0x1000, 0, 0, 7⟩
/-- R604 -/ def Reg.LN_SNAP_SNAP : Field := ⟨0x30001c, 0x1000, 0, 0, 1⟩
/-- R604 -/ def Reg.PORT_STATUS_ALIGNED : Field := ⟨0x300040, 0x1000, 0, 0, 1⟩
/-- R604 -/ def Reg.PORT_STATUS_HI_SER : Field := ⟨0x300040, 0x1000, 0, 1, 1⟩
/-- R604 -/ def Reg.PORT_STATUS_LF_RX : Field := ⟨0x300040, 0x1000, 0, 2, 1⟩
/-- R604 -/ def Reg.PORT_STATUS_RF_RX : Field := ⟨0x300040, 0x1000, 0, 3, 1⟩
/-- R604 -/ def Reg.PORT_STATUS_AM_LOCK : Field := ⟨0x300040, 0x1000, 0, 4, 8⟩
/-- R604 -/ def Reg.PORT_STATUS_SKEW : Field := ⟨0x300040, 0x1000, 0, 12, 8⟩
/-- R604 -/ def Reg.PORT_CFG_SER_THR : Field := ⟨0x300044, 0x1000, 0, 0, 16⟩
/-- R604 -/ def Reg.LN_FOM_SNR : Field := ⟨0x300080, 0x1000, 0, 0, 16⟩
/-- R604 -/ def Reg.LN_FOM_CTLE : Field := ⟨0x300080, 0x1000, 0, 16, 8⟩
/-- R604 -/ def Reg.LN_EYE_EYE_LO : Field := ⟨0x300084, 0x1000, 0, 0, 10⟩
/-- R604 -/ def Reg.LN_EYE_EYE_MID : Field := ⟨0x300084, 0x1000, 0, 10, 10⟩
/-- R604 -/ def Reg.LN_EYE_EYE_HI : Field := ⟨0x300084, 0x1000, 0, 20, 10⟩
/-- R604 -/ def Reg.USER_PAT_PAT : Field := ⟨0x3000c0, 0x1000, 4, 0, 32⟩
/-- R623 -/ def Reg.MOD_CFG_HOST : Field := ⟨0x300200, 0x1000, 0, 0, 3⟩
/-- R623 -/ def Reg.MOD_CFG_SD_MODE : Field := ⟨0x300200, 0x1000, 0, 3, 2⟩
/-- R623 -/ def Reg.MOD_CFG_ALPHA_FIX : Field := ⟨0x300200, 0x1000, 0, 5, 1⟩
/-- R623 -/ def Reg.MOD_CFG_ALPHA : Field := ⟨0x300200, 0x1000, 0, 6, 6⟩
/-- R623 -/ def Reg.MOD_CFG_ON_LOS_MEDIA : Field := ⟨0x300200, 0x1000, 0, 12, 1⟩
/-- R623 -/ def Reg.MOD_CFG_ON_LOS_HOST : Field := ⟨0x300200, 0x1000, 0, 13, 1⟩
/-- R623 -/ def Reg.MOD_CFG_INNER : Field := ⟨0x300200, 0x1000, 0, 14, 9⟩
/-- R623 -/ def Reg.MOD_STATUS_INNER_LOCK : Field := ⟨0x300210, 0x1000, 0, 0, 1⟩
/-- R623 -/ def Reg.MOD_STATUS_TX_FALLBACK_M : Field := ⟨0x300210, 0x1000, 0, 1, 1⟩
/-- R623 -/ def Reg.MOD_STATUS_TX_FALLBACK_H : Field := ⟨0x300210, 0x1000, 0, 2, 1⟩
/-- R623 -/ def Reg.MOD_STATUS_ALPHA_NOW : Field := ⟨0x300210, 0x1000, 0, 3, 6⟩
/-- R623 -/ def Reg.MOD_EVENTS_INNER_LOCK_LOST : Field := ⟨0x300214, 0x1000, 0, 0, 1⟩
/-- R623 -/ def Reg.MOD_EVENTS_FALLBACK : Field := ⟨0x300214, 0x1000, 0, 1, 1⟩
/-- R623 -/ def Reg.MOD_EVENTS_MEASURE_DONE : Field := ⟨0x300214, 0x1000, 0, 2, 1⟩
/-- R623 -/ def Reg.MOD_INT_EN_EN : Field := ⟨0x300218, 0x1000, 0, 0, 3⟩
/-- R605 -/ def Reg.TL_CFG_TX_EN : Field := ⟨0x320000, 0x1000, 0, 0, 1⟩
/-- R605 -/ def Reg.TL_CFG_RX_EN : Field := ⟨0x320000, 0x1000, 0, 1, 1⟩
/-- R605 -/ def Reg.TL_CFG_TOD_TX_EN : Field := ⟨0x320000, 0x1000, 0, 2, 1⟩
/-- R605 -/ def Reg.TL_CFG_RX_INV : Field := ⟨0x320000, 0x1000, 0, 3, 1⟩
/-- R605 -/ def Reg.TL_CFG_TX_INV : Field := ⟨0x320000, 0x1000, 0, 4, 1⟩
/-- R605 -/ def Reg.TL_STATUS_SIG_DET : Field := ⟨0x320010, 0x1000, 0, 0, 1⟩
/-- R605 -/ def Reg.TL_STATUS_CDR_LOCK : Field := ⟨0x320010, 0x1000, 0, 1, 1⟩
/-- R605 -/ def Reg.TL_STATUS_SYNC : Field := ⟨0x320010, 0x1000, 0, 2, 1⟩
/-- R605 -/ def Reg.TL_STATUS_MARK_SEEN : Field := ⟨0x320010, 0x1000, 0, 3, 1⟩
/-- R605 -/ def Reg.TL_STATUS_TOD_VALID : Field := ⟨0x320010, 0x1000, 0, 4, 1⟩
/-- R605 -/ def Reg.TL_EVENTS_SYNC_LOST : Field := ⟨0x320014, 0x1000, 0, 0, 1⟩
/-- R605 -/ def Reg.TL_EVENTS_MARK : Field := ⟨0x320014, 0x1000, 0, 1, 1⟩
/-- R605 -/ def Reg.TL_EVENTS_TOD_RX : Field := ⟨0x320014, 0x1000, 0, 2, 1⟩
/-- R605 -/ def Reg.TL_EVENTS_TOD_ERR : Field := ⟨0x320014, 0x1000, 0, 3, 1⟩
/-- R605 -/ def Reg.TL_EVENTS_REALIGN : Field := ⟨0x320014, 0x1000, 0, 4, 1⟩
/-- R605 -/ def Reg.TL_INT_EN_EN : Field := ⟨0x320018, 0x1000, 0, 0, 5⟩
/-- R605 -/ def Reg.TL_SNAP_SNAP : Field := ⟨0x32001c, 0x1000, 0, 0, 1⟩
/-- R605 -/ def Reg.TL_MARK_TIME_T : Field := ⟨0x320040, 0x1000, 4, 0, 32⟩
/-- R605 -/ def Reg.TL_MARK_FRAC_FRAC : Field := ⟨0x320048, 0x1000, 0, 0, 16⟩
/-- R605 -/ def Reg.TOD_RX_BYTES : Field := ⟨0x320050, 0x1000, 4, 0, 32⟩
/-- R648 -/ def Reg.DPLL_CFG_SEL_MODE : Field := ⟨0x20000, 0x0, 0, 0, 1⟩
/-- R648 -/ def Reg.DPLL_CFG_MANUAL_REF : Field := ⟨0x20000, 0x0, 0, 1, 3⟩
/-- R648 -/ def Reg.DPLL_CFG_BW : Field := ⟨0x20000, 0x0, 0, 4, 2⟩
/-- R648 -/ def Reg.DPLL_LIMITS_ACCEPT : Field := ⟨0x20004, 0x0, 0, 0, 8⟩
/-- R648 -/ def Reg.DPLL_LIMITS_REJECT : Field := ⟨0x20004, 0x0, 0, 8, 8⟩
/-- R648 -/ def Reg.HO_CFG_HO_SPEC_S : Field := ⟨0x20008, 0x0, 0, 0, 24⟩
/-- R648 -/ def Reg.HO_CFG_HO_QL : Field := ⟨0x20008, 0x0, 0, 24, 4⟩
/-- R648 -/ def Reg.HO_CFG_FREERUN_QL : Field := ⟨0x20008, 0x0, 0, 28, 4⟩
/-- R648 -/ def Reg.TIME_CFG_TIME_SRC : Field := ⟨0x2000c, 0x0, 0, 0, 3⟩
/-- R648 -/ def Reg.TIME_CFG_STEP_THR_NS : Field := ⟨0x2000c, 0x0, 0, 3, 17⟩
/-- R648 -/ def Reg.DPLL_STATUS_STATE : Field := ⟨0x20010, 0x0, 0, 0, 3⟩
/-- R648 -/ def Reg.DPLL_STATUS_REF : Field := ⟨0x20010, 0x0, 0, 3, 3⟩
/-- R648 -/ def Reg.DPLL_STATUS_SWITCHING : Field := ⟨0x20010, 0x0, 0, 6, 1⟩
/-- R648 -/ def Reg.DPLL_STATUS_HISTORY_OK : Field := ⟨0x20010, 0x0, 0, 7, 1⟩
/-- R648 -/ def Reg.DPLL_STATUS_QL_OUT : Field := ⟨0x20010, 0x0, 0, 8, 4⟩
/-- R648 -/ def Reg.TIM_EVENTS_STATE_CHANGE : Field := ⟨0x20014, 0x0, 0, 0, 1⟩
/-- R648 -/ def Reg.TIM_EVENTS_REF_SWITCH : Field := ⟨0x20014, 0x0, 0, 1, 1⟩
/-- R648 -/ def Reg.TIM_EVENTS_DISQUAL : Field := ⟨0x20014, 0x0, 0, 2, 1⟩
/-- R648 -/ def Reg.TIM_EVENTS_LOST : Field := ⟨0x20014, 0x0, 0, 3, 1⟩
/-- R648 -/ def Reg.TIM_EVENTS_TIME_STEP : Field := ⟨0x20014, 0x0, 0, 4, 1⟩
/-- R648 -/ def Reg.TIM_EVENTS_FPI_LOSS : Field := ⟨0x20014, 0x0, 0, 5, 1⟩
/-- R648 -/ def Reg.TIM_INT_EN_EN : Field := ⟨0x20018, 0x0, 0, 0, 6⟩
/-- R648 -/ def Reg.TIM_SNAP_SNAP : Field := ⟨0x2001c, 0x0, 0, 0, 1⟩
/-- R648 -/ def Reg.LAST_STEP_PS_STEP : Field := ⟨0x20040, 0x0, 0, 0, 32⟩
/-- R648 -/ def Reg.DPLL_OFS_OFS : Field := ⟨0x20044, 0x0, 0, 0, 32⟩
/-- R648 -/ def Reg.HO_OFS_OFS : Field := ⟨0x20048, 0x0, 0, 0, 32⟩
/-- R648 -/ def Reg.HO_ELAPSED_SECONDS : Field := ⟨0x2004c, 0x0, 0, 0, 24⟩
/-- R648 -/ def Reg.MF_PHASE_NS : Field := ⟨0x20050, 0x0, 0, 0, 17⟩
/-- R648 -/ def Reg.XTAL_TRIM_PPB : Field := ⟨0x20054, 0x0, 0, 0, 16⟩
/-- R648 -/ def Reg.TIME_DELAY_DELAY_NS : Field := ⟨0x20058, 0x0, 0, 0, 16⟩
/-- R648 -/ def Reg.LAST_TIME_ERR_E : Field := ⟨0x2005c, 0x0, 0, 0, 32⟩
/-- R649 -/ def Reg.REF_CFG_PRIO : Field := ⟨0x20100, 0x20, 0, 0, 3⟩
/-- R649 -/ def Reg.REF_CFG_QL : Field := ⟨0x20100, 0x20, 0, 3, 4⟩
/-- R649 -/ def Reg.REF_CFG_QUAL_S : Field := ⟨0x20100, 0x20, 0, 7, 8⟩
/-- R649 -/ def Reg.REF_FREQ_FREQ_HZ : Field := ⟨0x20104, 0x20, 0, 0, 30⟩
/-- R649 -/ def Reg.REF_STATUS_ACTIVE : Field := ⟨0x20108, 0x20, 0, 0, 1⟩
/-- R649 -/ def Reg.REF_STATUS_QUALIFIED : Field := ⟨0x20108, 0x20, 0, 1, 1⟩
/-- R649 -/ def Reg.REF_STATUS_SELECTED : Field := ⟨0x20108, 0x20, 0, 2, 1⟩
/-- R649 -/ def Reg.REF_STATUS_QUAL_LEFT : Field := ⟨0x20108, 0x20, 0, 3, 8⟩
/-- R649 -/ def Reg.REF_OFS_OFS : Field := ⟨0x2010c, 0x20, 0, 0, 32⟩
/-- R649 -/ def Reg.FPI_CFG_EN : Field := ⟨0x20200, 0x10, 0, 0, 1⟩
/-- R649 -/ def Reg.FPI_CFG_PERIOD : Field := ⟨0x20200, 0x10, 0, 1, 2⟩
/-- R649 -/ def Reg.FPI_CFG_EDGE : Field := ⟨0x20200, 0x10, 0, 3, 1⟩
/-- R649 -/ def Reg.FPI_STATUS_PRESENT : Field := ⟨0x20204, 0x10, 0, 0, 1⟩
/-- R649 -/ def Reg.TCLK_CFG_EN : Field := ⟨0x20240, 0x10, 0, 0, 1⟩
/-- R649 -/ def Reg.TCLK_CFG_SQ : Field := ⟨0x20240, 0x10, 0, 1, 2⟩
/-- R649 -/ def Reg.TCLK_FREQ_FREQ_HZ : Field := ⟨0x20244, 0x10, 0, 0, 30⟩
/-- R649 -/ def Reg.TCLK_STATUS_SQUELCHED : Field := ⟨0x20248, 0x10, 0, 0, 1⟩
/-- R649 -/ def Reg.FPO_CFG_EN : Field := ⟨0x20280, 0x10, 0, 0, 1⟩
/-- R649 -/ def Reg.FPO_CFG_PERIOD : Field := ⟨0x20280, 0x10, 0, 1, 2⟩
/-- R649 -/ def Reg.FPO_CFG_ALIGN : Field := ⟨0x20280, 0x10, 0, 3, 2⟩
/-- R649 -/ def Reg.FPO_CFG_WIDTH : Field := ⟨0x20280, 0x10, 0, 5, 8⟩
/-- R649 -/ def Reg.FPO_OFFSET_OFFSET_NS : Field := ⟨0x20284, 0x10, 0, 0, 32⟩
/-- R704 -/ def Reg.GAUGE_CFG_EN : Field := ⟨0x30000, 0x0, 0, 0, 1⟩
/-- R704 -/ def Reg.GAUGE_CFG_TRIG_SRC : Field := ⟨0x30000, 0x0, 0, 1, 2⟩
/-- R704 -/ def Reg.GAUGE_CFG_TRIG_GPIO : Field := ⟨0x30000, 0x0, 0, 3, 4⟩
/-- R704 -/ def Reg.GAUGE_CFG_TRIG_EDGE : Field := ⟨0x30000, 0x0, 0, 7, 1⟩
/-- R704 -/ def Reg.GAUGE_CFG_SEQ_PERIOD_US : Field := ⟨0x30000, 0x0, 0, 8, 16⟩
/-- R704 -/ def Reg.SCAN_MASK_MASK : Field := ⟨0x30004, 0x0, 0, 0, 32⟩
/-- R704 -/ def Reg.GAUGE_STATUS_RUNNING : Field := ⟨0x30010, 0x0, 0, 0, 1⟩
/-- R704 -/ def Reg.GAUGE_STATUS_PENDING : Field := ⟨0x30010, 0x0, 0, 1, 1⟩
/-- R704 -/ def Reg.GAUGE_STATUS_CHANNEL : Field := ⟨0x30010, 0x0, 0, 2, 5⟩
/-- R704 -/ def Reg.GAUGE_EVENTS_RANGE : Field := ⟨0x30014, 0x0, 0, 0, 1⟩
/-- R704 -/ def Reg.GAUGE_EVENTS_LIMIT : Field := ⟨0x30014, 0x0, 0, 1, 1⟩
/-- R704 -/ def Reg.GAUGE_EVENTS_TRIG_DROP : Field := ⟨0x30014, 0x0, 0, 2, 1⟩
/-- R704 -/ def Reg.GAUGE_EVENTS_URGENT_DROP : Field := ⟨0x30014, 0x0, 0, 3, 1⟩
/-- R704 -/ def Reg.GAUGE_EVENTS_SEQ_DONE : Field := ⟨0x30014, 0x0, 0, 4, 1⟩
/-- R704 -/ def Reg.GAUGE_INT_EN_EN : Field := ⟨0x30018, 0x0, 0, 0, 5⟩
/-- R704 -/ def Reg.GAU_SNAP_SNAP : Field := ⟨0x3001c, 0x0, 0, 0, 1⟩
/-- R704 -/ def Reg.RANGE_FLAGS_RANGE : Field := ⟨0x30040, 0x0, 0, 0, 32⟩
/-- R704 -/ def Reg.CH_LIMIT_LO : Field := ⟨0x30400, 0x10, 0, 0, 12⟩
/-- R704 -/ def Reg.CH_LIMIT_HI : Field := ⟨0x30400, 0x10, 0, 16, 12⟩
/-- R704 -/ def Reg.CH_LIMIT_LIMIT_EN : Field := ⟨0x30400, 0x10, 0, 28, 1⟩
/-- R704 -/ def Reg.ACC_SUM_SUM : Field := ⟨0x30404, 0x10, 0, 0, 32⟩
/-- R704 -/ def Reg.ACC_STATUS_N : Field := ⟨0x30408, 0x10, 0, 0, 20⟩
/-- R704 -/ def Reg.ACC_STATUS_TAINTED : Field := ⟨0x30408, 0x10, 0, 20, 1⟩
/-- R704 -/ def Reg.ACC_STATUS_FULL : Field := ⟨0x30408, 0x10, 0, 21, 1⟩
/-- R704 -/ def Reg.MINMAX_MIN : Field := ⟨0x3040c, 0x10, 0, 0, 12⟩
/-- R704 -/ def Reg.MINMAX_MAX : Field := ⟨0x3040c, 0x10, 0, 16, 12⟩
/-- R704 -/ def Reg.TAP_CFG_SRC : Field := ⟨0x38000, 0x0, 0, 0, 2⟩
/-- R704 -/ def Reg.TAP_CFG_FURROW : Field := ⟨0x38000, 0x0, 0, 2, 5⟩
/-- R704 -/ def Reg.TAP_CFG_STAGES : Field := ⟨0x38000, 0x0, 0, 7, 4⟩
/-- R704 -/ def Reg.TAP_CFG_TRIG : Field := ⟨0x38000, 0x0, 0, 11, 2⟩
/-- R704 -/ def Reg.TAP_CFG_TRIG_GPIO : Field := ⟨0x38000, 0x0, 0, 13, 4⟩
/-- R704 -/ def Reg.TAP_CFG_TRIG_EDGE : Field := ⟨0x38000, 0x0, 0, 17, 1⟩
/-- R704 -/ def Reg.TAP_SHIFT_SHIFT : Field := ⟨0x38004, 0x0, 0, 0, 24⟩
/-- R704 -/ def Reg.TAP_STATUS_ARMED : Field := ⟨0x38010, 0x0, 0, 0, 1⟩
/-- R704 -/ def Reg.TAP_STATUS_CAPTURING : Field := ⟨0x38010, 0x0, 0, 1, 1⟩
/-- R704 -/ def Reg.TAP_STATUS_DONE : Field := ⟨0x38010, 0x0, 0, 2, 1⟩
/-- R704 -/ def Reg.TAP_STATUS_FILL : Field := ⟨0x38010, 0x0, 0, 3, 15⟩
/-- R704 -/ def Reg.TAP_EVENTS_DONE : Field := ⟨0x38014, 0x0, 0, 0, 1⟩
/-- R704 -/ def Reg.TAP_EVENTS_SAT : Field := ⟨0x38014, 0x0, 0, 1, 1⟩
/-- R704 -/ def Reg.TAP_INT_EN_EN : Field := ⟨0x38018, 0x0, 0, 0, 2⟩
/-- R704 -/ def Reg.TAP_SNAP_SNAP : Field := ⟨0x3801c, 0x0, 0, 0, 1⟩
/-- R704 -/ def Reg.TAP_T0_T : Field := ⟨0x38040, 0x4, 0, 0, 32⟩
/-- R704 -/ def Reg.TAP_RATE_KSPS : Field := ⟨0x38048, 0x0, 0, 0, 21⟩
/-- R704 -/ def Reg.LOG_THRESH_THRESH : Field := ⟨0x40000, 0x0, 0, 0, 13⟩
/-- R704 -/ def Reg.LOG_POP_SEQ : Field := ⟨0x40004, 0x0, 0, 0, 16⟩
/-- R704 -/ def Reg.LOG_POP_CHECK : Field := ⟨0x40004, 0x0, 0, 16, 1⟩
/-- R704 -/ def Reg.LOG_STATUS_EMPTY : Field := ⟨0x40010, 0x0, 0, 0, 1⟩
/-- R704 -/ def Reg.LOG_STATUS_FILL : Field := ⟨0x40010, 0x0, 0, 1, 14⟩
/-- R704 -/ def Reg.LOG_STATUS_RECORDS : Field := ⟨0x40010, 0x0, 0, 15, 13⟩
/-- R704 -/ def Reg.LOG_EVENTS_THRESH : Field := ⟨0x40014, 0x0, 0, 0, 1⟩
/-- R704 -/ def Reg.LOG_EVENTS_UNDERRUN : Field := ⟨0x40014, 0x0, 0, 1, 1⟩
/-- R704 -/ def Reg.LOG_EVENTS_LOST : Field := ⟨0x40014, 0x0, 0, 2, 1⟩
/-- R704 -/ def Reg.LOG_INT_EN_EN : Field := ⟨0x40018, 0x0, 0, 0, 3⟩
/-- R704 -/ def Reg.LOG_SNAP_SNAP : Field := ⟨0x4001c, 0x0, 0, 0, 1⟩
/-- R704 -/ def Reg.LOG_TELEM_PERIOD_S : Field := ⟨0x40040, 0x0, 0, 0, 8⟩
/-- R723 -/ def Reg.PERF_SAMPLE_CFG_SAMPLE_EN : Field := ⟨0x600000, 0x0, 0, 0, 1⟩
/-- R723 -/ def Reg.PERF_SAMPLE_CFG_WRAP : Field := ⟨0x600000, 0x0, 0, 1, 1⟩
/-- R723 -/ def Reg.PERF_SAMPLE_CFG_PERIOD_LOG2 : Field := ⟨0x600000, 0x0, 0, 2, 5⟩
/-- R723 -/ def Reg.LAT_MASK_MASK : Field := ⟨0x600004, 0x0, 0, 0, 32⟩
/-- R723 -/ def Reg.SAMPLE_SEED_SEED : Field := ⟨0x600008, 0x0, 0, 0, 32⟩
/-- R723 -/ def Reg.SAMPLE_THRESH_THRESH : Field := ⟨0x60000c, 0x0, 0, 0, 11⟩
/-- R723 -/ def Reg.PERF_STATUS_FILL : Field := ⟨0x600010, 0x0, 0, 0, 11⟩
/-- R723 -/ def Reg.PERF_STATUS_SAMPLING : Field := ⟨0x600010, 0x0, 0, 11, 1⟩
/-- R723 -/ def Reg.PERF_EVENTS_SAMPLE_THRESH : Field := ⟨0x600014, 0x0, 0, 0, 1⟩
/-- R723 -/ def Reg.PERF_EVENTS_SAMPLE_LOST : Field := ⟨0x600014, 0x0, 0, 1, 1⟩
/-- R723 -/ def Reg.PERF_EVENTS_SATURATED : Field := ⟨0x600014, 0x0, 0, 2, 1⟩
/-- R723 -/ def Reg.PERF_INT_EN_EN : Field := ⟨0x600018, 0x0, 0, 0, 3⟩
/-- R723 -/ def Reg.PERF_SNAP_SNAP : Field := ⟨0x60001c, 0x0, 0, 0, 1⟩
/-- R723 -/ def Reg.DC_SEL_EVENT : Field := ⟨0x600040, 0x4, 0, 0, 5⟩
/-- R723 -/ def Reg.LC_SEL_E0 : Field := ⟨0x601000, 0x40, 0, 0, 5⟩
/-- R723 -/ def Reg.LC_SEL_E1 : Field := ⟨0x601000, 0x40, 0, 8, 5⟩
/-- R723 -/ def Reg.LC_SEL_E2 : Field := ⟨0x601000, 0x40, 0, 16, 5⟩
/-- R723 -/ def Reg.LC_SEL_E3 : Field := ⟨0x601000, 0x40, 0, 24, 5⟩
/-- R744 -/ def Reg.TEST_STATUS_LEVEL : Field := ⟨0x50010, 0x0, 0, 0, 2⟩
/-- R744 -/ def Reg.TEST_STATUS_FI_ACTIVE : Field := ⟨0x50010, 0x0, 0, 2, 1⟩
/-- R744 -/ def Reg.TEST_STATUS_UNLOCK_BLOCKED : Field := ⟨0x50010, 0x0, 0, 3, 1⟩
/-- R744 -/ def Reg.TEST_STATUS_ST_RUN : Field := ⟨0x50010, 0x0, 0, 4, 1⟩
/-- R744 -/ def Reg.TEST_STATUS_CHAL_VALID : Field := ⟨0x50010, 0x0, 0, 5, 1⟩
/-- R744 -/ def Reg.TEST_STATUS_OTP_ROOT : Field := ⟨0x50010, 0x0, 0, 6, 1⟩
/-- R744 -/ def Reg.TEST_STATUS_OTP_PW : Field := ⟨0x50010, 0x0, 0, 7, 1⟩
/-- R744 -/ def Reg.TEST_STATUS_DEBUG_DISABLE : Field := ⟨0x50010, 0x0, 0, 8, 1⟩
/-- R744 -/ def Reg.TEST_STATUS_VENDOR_DISABLE : Field := ⟨0x50010, 0x0, 0, 9, 1⟩
/-- R744 -/ def Reg.TEST_STATUS_FI_MASK : Field := ⟨0x50010, 0x0, 0, 10, 8⟩
/-- R744 -/ def Reg.TEST_EVENTS_LEVEL_CHANGE : Field := ⟨0x50014, 0x0, 0, 0, 1⟩
/-- R744 -/ def Reg.TEST_EVENTS_UNLOCK_FAIL : Field := ⟨0x50014, 0x0, 0, 1, 1⟩
/-- R744 -/ def Reg.TEST_EVENTS_ST_DONE : Field := ⟨0x50014, 0x0, 0, 2, 1⟩
/-- R744 -/ def Reg.TEST_EVENTS_ST_FAIL : Field := ⟨0x50014, 0x0, 0, 3, 1⟩
/-- R744 -/ def Reg.TEST_EVENTS_FI_END : Field := ⟨0x50014, 0x0, 0, 4, 1⟩
/-- R744 -/ def Reg.TEST_INT_EN_EN : Field := ⟨0x50018, 0x0, 0, 0, 5⟩
/-- R744 -/ def Reg.TST_SNAP_SNAP : Field := ⟨0x5001c, 0x0, 0, 0, 1⟩
/-- R744 -/ def Reg.DEVICE_UID_UID : Field := ⟨0x50040, 0x4, 0, 0, 32⟩
/-- R744 -/ def Reg.ROOT_KCV_KCV : Field := ⟨0x50050, 0x0, 0, 0, 32⟩
/-- R744 -/ def Reg.ST_RESULT_KIND : Field := ⟨0x50060, 0x0, 0, 0, 2⟩
/-- R744 -/ def Reg.ST_RESULT_FAIL : Field := ⟨0x50060, 0x0, 0, 2, 1⟩
/-- R744 -/ def Reg.ST_RESULT_TARGET : Field := ⟨0x50060, 0x0, 0, 8, 8⟩
/-- R744 -/ def Reg.ST_RESULT_FAIL_WORDS : Field := ⟨0x50060, 0x0, 0, 16, 16⟩
/-- R744 -/ def Reg.FI_STATE_POINT : Field := ⟨0x50200, 0x20, 0, 0, 2⟩
/-- R744 -/ def Reg.FI_STATE_TARGET : Field := ⟨0x50200, 0x20, 0, 2, 8⟩
/-- R744 -/ def Reg.FI_STATE_ACTION : Field := ⟨0x50200, 0x20, 0, 10, 2⟩
/-- R744 -/ def Reg.FI_STATE_N : Field := ⟨0x50200, 0x20, 0, 12, 5⟩
/-- R744 -/ def Reg.FI_STATE_LEFT : Field := ⟨0x50200, 0x20, 0, 17, 12⟩
/-- R766 -/ def Reg.PWR_CFG_AVS_EN : Field := ⟨0x60000, 0x0, 0, 0, 1⟩
/-- R766 -/ def Reg.PWR_CFG_PMB_ADDR_DSP : Field := ⟨0x60000, 0x0, 0, 1, 7⟩
/-- R766 -/ def Reg.PWR_CFG_PMB_ADDR_FAB : Field := ⟨0x60000, 0x0, 0, 8, 7⟩
/-- R766 -/ def Reg.PWR_CFG_PMB_SPEED : Field := ⟨0x60000, 0x0, 0, 15, 1⟩
/-- R766 -/ def Reg.PWR_CFG_THROTTLE_C : Field := ⟨0x60000, 0x0, 0, 16, 7⟩
/-- R766 -/ def Reg.PWR_CFG_SHUT_C : Field := ⟨0x60000, 0x0, 0, 23, 7⟩
/-- R766 -/ def Reg.PWR_STATUS_VDSP_MV : Field := ⟨0x60010, 0x0, 0, 0, 10⟩
/-- R766 -/ def Reg.PWR_STATUS_VFAB_MV : Field := ⟨0x60010, 0x0, 0, 10, 10⟩
/-- R766 -/ def Reg.PWR_STATUS_FRACTION : Field := ⟨0x60010, 0x0, 0, 20, 7⟩
/-- R766 -/ def Reg.PWR_STATUS_THROTTLING : Field := ⟨0x60010, 0x0, 0, 27, 1⟩
/-- R766 -/ def Reg.PWR_STATUS_SHUTDOWN : Field := ⟨0x60010, 0x0, 0, 28, 1⟩
/-- R766 -/ def Reg.PWR_STATUS_SAFE_OFF : Field := ⟨0x60010, 0x0, 0, 29, 1⟩
/-- R766 -/ def Reg.PWR_STATUS_PMB_OK : Field := ⟨0x60010, 0x0, 0, 30, 1⟩
/-- R766 -/ def Reg.PWR_EVENTS_THROTTLE : Field := ⟨0x60014, 0x0, 0, 0, 1⟩
/-- R766 -/ def Reg.PWR_EVENTS_SHUTDOWN : Field := ⟨0x60014, 0x0, 0, 1, 1⟩
/-- R766 -/ def Reg.PWR_EVENTS_PMB_FAULT : Field := ⟨0x60014, 0x0, 0, 2, 1⟩
/-- R766 -/ def Reg.PWR_EVENTS_OC : Field := ⟨0x60014, 0x0, 0, 3, 1⟩
/-- R766 -/ def Reg.PWR_EVENTS_SAFE_OFF : Field := ⟨0x60014, 0x0, 0, 4, 1⟩
/-- R766 -/ def Reg.PWR_INT_EN_EN : Field := ⟨0x60018, 0x0, 0, 0, 5⟩
/-- R766 -/ def Reg.PWR_SNAP_SNAP : Field := ⟨0x6001c, 0x0, 0, 0, 1⟩
/-- R766 -/ def Reg.RST_CAUSE_CAUSE : Field := ⟨0x60040, 0x0, 0, 0, 3⟩
/-- R766 -/ def Reg.RST_CAUSE_RAIL : Field := ⟨0x60040, 0x0, 0, 3, 2⟩
/-- R766 -/ def Reg.FW_STATUS_STATE : Field := ⟨0x60044, 0x0, 0, 0, 3⟩
/-- R766 -/ def Reg.FW_STATUS_SLOT : Field := ⟨0x60044, 0x0, 0, 3, 1⟩
/-- R766 -/ def Reg.FW_STATUS_FALLBACK : Field := ⟨0x60044, 0x0, 0, 4, 1⟩
/-- R766 -/ def Reg.FW_STATUS_BOOT_SEL : Field := ⟨0x60044, 0x0, 0, 5, 2⟩
/-- R766 -/ def Reg.FW_VERSION_VERSION : Field := ⟨0x60048, 0x0, 0, 0, 32⟩
/-- R766 -/ def Reg.FW_READY_MS_MS : Field := ⟨0x6004c, 0x0, 0, 0, 16⟩
/-- R294 -/ def Reg.DPD_CURVE_Y1 : Field := ⟨0x150800, 0x100, 4, 0, 13⟩
/-- R294 -/ def Reg.DPD_CURVE_Y2 : Field := ⟨0x150800, 0x100, 4, 16, 13⟩
/-- R624 -/ def Reg.MOD_CURVE_Y1 : Field := ⟨0x300400, 0x1000, 4, 0, 13⟩
/-- R624 -/ def Reg.MOD_CURVE_Y2 : Field := ⟨0x300400, 0x1000, 4, 16, 13⟩

/-- R790 -/ def Cnt.TX_WRITE_IGNORED : Ctr := ⟨0x20, 0x0, 1, 0, 1, 1, 0x800, 0x1c, 0x0⟩
/-- R60 -/ def Cnt.XQ_SLIP : Ctr := ⟨0x118, 0x0, 1, 0, 1, 1, 0x800, 0x1c, 0x0⟩
/-- R96 -/ def Cnt.POLICY_CLAMPS : Ctr := ⟨0x12c, 0x4, 5, 0, 1, 1, 0x800, 0x1c, 0x0⟩
/-- R675 -/ def Cnt.COMMITS : Ctr := ⟨0x12020, 0x0, 1, 0, 1, 1, 0x100, 0x1201c, 0x0⟩
/-- R675 -/ def Cnt.ROLLBACKS : Ctr := ⟨0x12024, 0x0, 1, 0, 1, 1, 0x100, 0x1201c, 0x0⟩
/-- R675 -/ def Cnt.TXN_TIMEOUTS : Ctr := ⟨0x12028, 0x0, 1, 0, 1, 1, 0x100, 0x1201c, 0x0⟩
/-- R675 -/ def Cnt.CONFLICTS : Ctr := ⟨0x1202c, 0x0, 1, 0, 1, 1, 0x100, 0x1201c, 0x0⟩
/-- R675 -/ def Cnt.VALIDATION_FAILS : Ctr := ⟨0x12030, 0x0, 1, 0, 1, 1, 0x100, 0x1201c, 0x0⟩
/-- R675 -/ def Cnt.MB_WRITES_IGNORED : Ctr := ⟨0x12034, 0x0, 1, 0, 1, 1, 0x100, 0x1201c, 0x0⟩
/-- R679 -/ def Cnt.OPT_I2C_NACKS : Ctr := ⟨0x12038, 0x0, 1, 0, 1, 1, 0x100, 0x1201c, 0x0⟩
/-- R679 -/ def Cnt.OPT_I2C_FAULTS : Ctr := ⟨0x1203c, 0x0, 1, 0, 1, 1, 0x100, 0x1201c, 0x0⟩
/-- R136 -/ def Cnt.CAL_COUNT : Ctr := ⟨0x100020, 0x1000, 4, 0, 1, 1, 0x100, 0x10001c, 0x1000⟩
/-- R136 -/ def Cnt.CAL_FAILS : Ctr := ⟨0x100024, 0x1000, 4, 0, 1, 1, 0x100, 0x10001c, 0x1000⟩
/-- R136 -/ def Cnt.CAL_DEFERRALS : Ctr := ⟨0x100028, 0x1000, 4, 0, 1, 1, 0x100, 0x10001c, 0x1000⟩
/-- R136 -/ def Cnt.CLIP_CYCLES : Ctr := ⟨0x10002c, 0x1000, 4, 0, 1, 1, 0x100, 0x10001c, 0x1000⟩
/-- R136 -/ def Cnt.OVL_FRAMES : Ctr := ⟨0x100030, 0x1000, 4, 0, 1, 1, 0x100, 0x10001c, 0x1000⟩
/-- R136 -/ def Cnt.FG_FAILS : Ctr := ⟨0x100034, 0x1000, 4, 0, 1, 1, 0x100, 0x10001c, 0x1000⟩
/-- R141 -/ def Cnt.DAC_FG_FAILS : Ctr := ⟨0x104020, 0x1000, 4, 0, 1, 1, 0x100, 0x10401c, 0x1000⟩
/-- R141 -/ def Cnt.DAC_DRIFTS : Ctr := ⟨0x104024, 0x1000, 4, 0, 1, 1, 0x100, 0x10401c, 0x1000⟩
/-- R190 -/ def Cnt.ACQ_COUNT : Ctr := ⟨0x110020, 0x0, 1, 0, 1, 1, 0x100, 0x11001c, 0x0⟩
/-- R190 -/ def Cnt.ACQ_FAILS : Ctr := ⟨0x110024, 0x0, 1, 0, 1, 1, 0x100, 0x11001c, 0x0⟩
/-- R190 -/ def Cnt.FAST_REACQS : Ctr := ⟨0x110028, 0x0, 1, 0, 1, 1, 0x100, 0x11001c, 0x0⟩
/-- R190 -/ def Cnt.LINE_LOS_EVENTS : Ctr := ⟨0x11002c, 0x0, 1, 0, 1, 1, 0x100, 0x11001c, 0x0⟩
/-- R195 -/ def Cnt.LOCK_LOSSES : Ctr := ⟨0x120020, 0x800, 32, 0, 1, 1, 0x100, 0x12001c, 0x800⟩
/-- R195 -/ def Cnt.CYCLE_SLIPS : Ctr := ⟨0x120024, 0x800, 32, 0, 1, 1, 0x100, 0x12001c, 0x800⟩
/-- R195 -/ def Cnt.ADAPT_CHANGES : Ctr := ⟨0x120028, 0x800, 32, 0, 1, 1, 0x100, 0x12001c, 0x800⟩
/-- R195 -/ def Cnt.ADAPT_TIMEOUTS : Ctr := ⟨0x12002c, 0x800, 32, 0, 1, 1, 0x100, 0x12001c, 0x800⟩
/-- R195 -/ def Cnt.RILL_SHEDS : Ctr := ⟨0x120030, 0x800, 32, 0, 1, 1, 0x100, 0x12001c, 0x800⟩
/-- R195 -/ def Cnt.FR_QUENCH_DISCARDS : Ctr := ⟨0x120034, 0x800, 32, 0, 1, 1, 0x100, 0x12001c, 0x800⟩
/-- R246 -/ def Cnt.FALSE_DETECTS : Ctr := ⟨0x140020, 0x0, 1, 0, 1, 1, 0x100, 0x14001c, 0x0⟩
/-- R246 -/ def Cnt.CAPTURES : Ctr := ⟨0x140024, 0x0, 1, 0, 1, 1, 0x100, 0x14001c, 0x0⟩
/-- R246 -/ def Cnt.COLLISIONS : Ctr := ⟨0x140028, 0x0, 1, 0, 1, 1, 0x100, 0x14001c, 0x0⟩
/-- R246 -/ def Cnt.TRUNCATED : Ctr := ⟨0x14002c, 0x0, 1, 0, 1, 1, 0x100, 0x14001c, 0x0⟩
/-- R246 -/ def Cnt.ROGUE_BURSTS : Ctr := ⟨0x140030, 0x0, 1, 0, 1, 1, 0x100, 0x14001c, 0x0⟩
/-- R246 -/ def Cnt.HDR_CRC_FAILS : Ctr := ⟨0x140034, 0x0, 1, 0, 1, 1, 0x100, 0x14001c, 0x0⟩
/-- R246 -/ def Cnt.SURVEY_BURSTS : Ctr := ⟨0x140038, 0x0, 1, 0, 1, 1, 0x100, 0x14001c, 0x0⟩
/-- R246 -/ def Cnt.UNKNOWN_SERIALS : Ctr := ⟨0x14003c, 0x0, 1, 0, 1, 1, 0x100, 0x14001c, 0x0⟩
/-- R246 -/ def Cnt.RANGE_FAILS : Ctr := ⟨0x140048, 0x0, 1, 0, 1, 1, 0x100, 0x14001c, 0x0⟩
/-- R246 -/ def Cnt.EVICTIONS : Ctr := ⟨0x14004c, 0x0, 1, 0, 1, 1, 0x100, 0x14001c, 0x0⟩
/-- R246 -/ def Cnt.DUP_SERIALS : Ctr := ⟨0x140050, 0x0, 1, 0, 1, 1, 0x100, 0x14001c, 0x0⟩
/-- R249 -/ def Cnt.SURVEY_TRIES : Ctr := ⟨0x140090, 0x0, 1, 0, 1, 1, 0x100, 0x14001c, 0x0⟩
/-- R248 -/ def Cnt.LF_QUENCH_DISCARDS : Ctr := ⟨0x480024, 0x40, 1024, 0, 1, 1, 0x10000, 0x14001c, 0x0⟩
/-- R248 -/ def Cnt.BURSTS_OK : Ctr := ⟨0x480028, 0x40, 1024, 0, 1, 2, 0x10000, 0x14001c, 0x0⟩
/-- R248 -/ def Cnt.MISSED_GRANTS : Ctr := ⟨0x480030, 0x40, 1024, 0, 1, 1, 0x10000, 0x14001c, 0x0⟩
/-- R248 -/ def Cnt.BAD_BURSTS : Ctr := ⟨0x480034, 0x40, 1024, 0, 1, 1, 0x10000, 0x14001c, 0x0⟩
/-- R248 -/ def Cnt.MISRANGED : Ctr := ⟨0x480038, 0x40, 1024, 0, 1, 1, 0x10000, 0x14001c, 0x0⟩
/-- R248 -/ def Cnt.ROGUE : Ctr := ⟨0x48003c, 0x40, 1024, 0, 1, 1, 0x10000, 0x14001c, 0x0⟩
/-- R289 -/ def Cnt.SQUELCH_EVENTS : Ctr := ⟨0x150020, 0x0, 1, 0, 1, 1, 0x100, 0x15001c, 0x0⟩
/-- R289 -/ def Cnt.TX_CLIP_CYCLES : Ctr := ⟨0x150024, 0x0, 1, 0, 1, 1, 0x100, 0x15001c, 0x0⟩
/-- R289 -/ def Cnt.TX_ADAPT_CHANGES : Ctr := ⟨0x150028, 0x0, 1, 0, 1, 1, 0x100, 0x15001c, 0x0⟩
/-- R289 -/ def Cnt.TX_ADAPT_REFUSED : Ctr := ⟨0x15002c, 0x0, 1, 0, 1, 1, 0x100, 0x15001c, 0x0⟩
/-- R289 -/ def Cnt.GRANT_OVERLAPS : Ctr := ⟨0x150030, 0x0, 1, 0, 1, 1, 0x100, 0x15001c, 0x0⟩
/-- R289 -/ def Cnt.GATE_CLAMPS : Ctr := ⟨0x150034, 0x0, 1, 0, 1, 1, 0x100, 0x15001c, 0x0⟩
/-- R289 -/ def Cnt.BURSTS_SENT : Ctr := ⟨0x150038, 0x0, 1, 0, 1, 2, 0x100, 0x15001c, 0x0⟩
/-- R289 -/ def Cnt.TXF_QUENCH_DISCARDS : Ctr := ⟨0x150080, 0x4, 32, 0, 1, 1, 0x100, 0x15001c, 0x0⟩
/-- R333 -/ def Cnt.BCW_TOTAL : Ctr := ⟨0x160020, 0x0, 1, 0, 1, 2, 0x100, 0x16001c, 0x0⟩
/-- R333 -/ def Cnt.BBITS_CORR : Ctr := ⟨0x160028, 0x0, 1, 0, 1, 2, 0x100, 0x16001c, 0x0⟩
/-- R333 -/ def Cnt.BITER_SUM : Ctr := ⟨0x160030, 0x0, 1, 0, 1, 2, 0x100, 0x16001c, 0x0⟩
/-- R333 -/ def Cnt.BCW_UNCORR : Ctr := ⟨0x160038, 0x0, 1, 0, 1, 1, 0x100, 0x16001c, 0x0⟩
/-- R333 -/ def Cnt.BBCH_FIXES : Ctr := ⟨0x16003c, 0x0, 1, 0, 1, 1, 0x100, 0x16001c, 0x0⟩
/-- R336 -/ def Cnt.CW_TOTAL : Ctr := ⟨0x161020, 0x200, 32, 0, 1, 2, 0x100, 0x16001c, 0x0⟩
/-- R336 -/ def Cnt.BITS_CORR : Ctr := ⟨0x161028, 0x200, 32, 0, 1, 2, 0x100, 0x16001c, 0x0⟩
/-- R336 -/ def Cnt.ITER_SUM : Ctr := ⟨0x161030, 0x200, 32, 0, 1, 2, 0x100, 0x16001c, 0x0⟩
/-- R336 -/ def Cnt.CW_UNCORR : Ctr := ⟨0x161038, 0x200, 32, 0, 1, 1, 0x100, 0x16001c, 0x0⟩
/-- R336 -/ def Cnt.LDPC_FAILS : Ctr := ⟨0x16103c, 0x200, 32, 0, 1, 1, 0x100, 0x16001c, 0x0⟩
/-- R336 -/ def Cnt.BCH_FIXES : Ctr := ⟨0x161040, 0x200, 32, 0, 1, 1, 0x100, 0x16001c, 0x0⟩
/-- R336 -/ def Cnt.CW_LOCK_LOSSES : Ctr := ⟨0x161044, 0x200, 32, 0, 1, 1, 0x100, 0x16001c, 0x0⟩
/-- R336 -/ def Cnt.CYCLE_ERRS : Ctr := ⟨0x161048, 0x200, 32, 0, 1, 1, 0x100, 0x16001c, 0x0⟩
/-- R336 -/ def Cnt.FEC_FAIL_EVENTS : Ctr := ⟨0x16104c, 0x200, 32, 0, 1, 1, 0x100, 0x16001c, 0x0⟩
/-- R380 -/ def Cnt.SWITCHES : Ctr := ⟨0x170020, 0x0, 1, 0, 1, 1, 0x100, 0x17001c, 0x0⟩
/-- R380 -/ def Cnt.HOLDOFF_CANCELS : Ctr := ⟨0x170024, 0x0, 1, 0, 1, 1, 0x100, 0x17001c, 0x0⟩
/-- R380 -/ def Cnt.WTR_CANCELS : Ctr := ⟨0x170028, 0x0, 1, 0, 1, 1, 0x100, 0x17001c, 0x0⟩
/-- R380 -/ def Cnt.PQ_ERRS : Ctr := ⟨0x17002c, 0x0, 1, 0, 1, 1, 0x100, 0x17001c, 0x0⟩
/-- R380 -/ def Cnt.PQ_UNSTABLE_EVENTS : Ctr := ⟨0x170030, 0x0, 1, 0, 1, 1, 0x100, 0x17001c, 0x0⟩
/-- R380 -/ def Cnt.GRANT_DEFERRALS : Ctr := ⟨0x170034, 0x0, 1, 0, 1, 1, 0x100, 0x17001c, 0x0⟩
/-- R380 -/ def Cnt.MGMT_DROPS : Ctr := ⟨0x170038, 0x0, 1, 0, 1, 1, 0x100, 0x17001c, 0x0⟩
/-- R380 -/ def Cnt.MGMT_RX : Ctr := ⟨0x17003c, 0x0, 1, 0, 1, 1, 0x100, 0x17001c, 0x0⟩
/-- R382 -/ def Cnt.FAW_ERRS : Ctr := ⟨0x171020, 0x200, 32, 0, 1, 1, 0x100, 0x17001c, 0x0⟩
/-- R382 -/ def Cnt.LABEL_ERRS : Ctr := ⟨0x171024, 0x200, 32, 0, 1, 1, 0x100, 0x17001c, 0x0⟩
/-- R382 -/ def Cnt.OOF_EVENTS : Ctr := ⟨0x171028, 0x200, 32, 0, 1, 1, 0x100, 0x17001c, 0x0⟩
/-- R382 -/ def Cnt.FALSE_CANDS : Ctr := ⟨0x17102c, 0x200, 32, 0, 1, 1, 0x100, 0x17001c, 0x0⟩
/-- R382 -/ def Cnt.HUNT_OVERFLOWS : Ctr := ⟨0x171030, 0x200, 32, 0, 1, 1, 0x100, 0x17001c, 0x0⟩
/-- R382 -/ def Cnt.MFN_ERRS : Ctr := ⟨0x171034, 0x200, 32, 0, 1, 1, 0x100, 0x17001c, 0x0⟩
/-- R382 -/ def Cnt.FRAMES : Ctr := ⟨0x171038, 0x200, 32, 0, 1, 2, 0x100, 0x17001c, 0x0⟩
/-- R406 -/ def Cnt.SWAPS : Ctr := ⟨0x180020, 0x0, 1, 0, 1, 1, 0x100, 0x18001c, 0x0⟩
/-- R406 -/ def Cnt.LATE_RILLS : Ctr := ⟨0x180024, 0x0, 1, 0, 1, 1, 0x100, 0x18001c, 0x0⟩
/-- R406 -/ def Cnt.RL_HDR_ERRS : Ctr := ⟨0x180028, 0x0, 1, 0, 1, 1, 0x100, 0x18001c, 0x0⟩
/-- R406 -/ def Cnt.ETH_ERR_BLOCKS : Ctr := ⟨0x18002c, 0x0, 1, 0, 1, 1, 0x100, 0x18001c, 0x0⟩
/-- R408 -/ def Cnt.SLIP_DROP_IN : Ctr := ⟨0x180604, 0x20, 64, 0, 1, 1, 0x1000, 0x18001c, 0x0⟩
/-- R408 -/ def Cnt.SLIP_REPEAT_IN : Ctr := ⟨0x180608, 0x20, 64, 0, 1, 1, 0x1000, 0x18001c, 0x0⟩
/-- R408 -/ def Cnt.SLIP_DROP_OUT : Ctr := ⟨0x18060c, 0x20, 64, 0, 1, 1, 0x1000, 0x18001c, 0x0⟩
/-- R408 -/ def Cnt.SLIP_REPEAT_OUT : Ctr := ⟨0x180610, 0x20, 64, 0, 1, 1, 0x1000, 0x18001c, 0x0⟩
/-- R445 -/ def Cnt.KEY_IMPORTS : Ctr := ⟨0x1a0020, 0x0, 1, 0, 1, 1, 0x100, 0x1a001c, 0x0⟩
/-- R445 -/ def Cnt.UNWRAP_FAILS : Ctr := ⟨0x1a0024, 0x0, 1, 0, 1, 1, 0x100, 0x1a001c, 0x0⟩
/-- R445 -/ def Cnt.WARN_EVENTS : Ctr := ⟨0x1a0028, 0x0, 1, 0, 1, 1, 0x100, 0x1a001c, 0x0⟩
/-- R445 -/ def Cnt.EXHAUST_EVENTS : Ctr := ⟨0x1a002c, 0x0, 1, 0, 1, 1, 0x100, 0x1a001c, 0x0⟩
/-- R445 -/ def Cnt.ROLLS : Ctr := ⟨0x1a0030, 0x0, 1, 0, 1, 1, 0x100, 0x1a001c, 0x0⟩
/-- R445 -/ def Cnt.VERIFY_REQS : Ctr := ⟨0x1a0034, 0x0, 1, 0, 1, 1, 0x100, 0x1a001c, 0x0⟩
/-- R445 -/ def Cnt.VERIFY_FAILS : Ctr := ⟨0x1a0038, 0x0, 1, 0, 1, 1, 0x100, 0x1a001c, 0x0⟩
/-- R445 -/ def Cnt.HW_RAISES : Ctr := ⟨0x1a003c, 0x0, 1, 0, 1, 1, 0x100, 0x1a001c, 0x0⟩
/-- R447 -/ def Cnt.UNITS_OK : Ctr := ⟨0x1a2008, 0x40, 256, 0, 1, 2, 0x4000, 0x1a001c, 0x0⟩
/-- R447 -/ def Cnt.AUTH_FAILS : Ctr := ⟨0x1a2010, 0x40, 256, 0, 1, 1, 0x4000, 0x1a001c, 0x0⟩
/-- R447 -/ def Cnt.DAMAGED_UNITS : Ctr := ⟨0x1a2014, 0x40, 256, 0, 1, 1, 0x4000, 0x1a001c, 0x0⟩
/-- R447 -/ def Cnt.REPLAYS : Ctr := ⟨0x1a2018, 0x40, 256, 0, 1, 1, 0x4000, 0x1a001c, 0x0⟩
/-- R447 -/ def Cnt.RELEASED_UNVERIFIED : Ctr := ⟨0x1a201c, 0x40, 256, 0, 1, 1, 0x4000, 0x1a001c, 0x0⟩
/-- R447 -/ def Cnt.ABORTED : Ctr := ⟨0x1a2020, 0x40, 256, 0, 1, 1, 0x4000, 0x1a001c, 0x0⟩
/-- R447 -/ def Cnt.VERIFY_DROPS : Ctr := ⟨0x1a2024, 0x40, 256, 0, 1, 1, 0x4000, 0x1a001c, 0x0⟩
/-- R447 -/ def Cnt.BLOCKED_DISCARDS : Ctr := ⟨0x1a2028, 0x40, 256, 0, 1, 1, 0x4000, 0x1a001c, 0x0⟩
/-- R447 -/ def Cnt.EXH_IDLE_RX : Ctr := ⟨0x1a202c, 0x40, 256, 0, 1, 1, 0x4000, 0x1a001c, 0x0⟩
/-- R447 -/ def Cnt.EXH_IDLE_TX : Ctr := ⟨0x1a2030, 0x40, 256, 0, 1, 1, 0x4000, 0x1a001c, 0x0⟩
/-- R448 -/ def Cnt.CTX_QUENCH_DISCARDS : Ctr := ⟨0x1b0010, 0x20, 1024, 0, 1, 1, 0x8000, 0x1a001c, 0x0⟩
/-- R480 -/ def Cnt.PKTS_PARSED : Ctr := ⟨0x200020, 0x0, 1, 0, 1, 2, 0x100, 0x20001c, 0x0⟩
/-- R480 -/ def Cnt.BW_PASSES : Ctr := ⟨0x200028, 0x0, 1, 0, 1, 1, 0x100, 0x20001c, 0x0⟩
/-- R480 -/ def Cnt.BW_LIMIT_DROPS : Ctr := ⟨0x20002c, 0x0, 1, 0, 1, 1, 0x100, 0x20001c, 0x0⟩
/-- R480 -/ def Cnt.FLOW_INSERT_FAILS : Ctr := ⟨0x200030, 0x0, 1, 0, 1, 1, 0x100, 0x20001c, 0x0⟩
/-- R480 -/ def Cnt.DL_MATCHES : Ctr := ⟨0x200034, 0x0, 1, 0, 1, 1, 0x100, 0x20001c, 0x0⟩
/-- R480 -/ def Cnt.NO_DEST_DROPS : Ctr := ⟨0x200038, 0x0, 1, 0, 1, 1, 0x100, 0x20001c, 0x0⟩
/-- R480 -/ def Cnt.LANE_OVL_DROPS : Ctr := ⟨0x200060, 0x4, 16, 0, 1, 1, 0x100, 0x20001c, 0x0⟩
/-- R482 -/ def Cnt.RX_PKTS : Ctr := ⟨0x400080, 0x400, 256, 0, 1, 2, 0x100, 0x20001c, 0x0⟩
/-- R482 -/ def Cnt.RX_OCTETS : Ctr := ⟨0x400088, 0x400, 256, 0, 1, 2, 0x100, 0x20001c, 0x0⟩
/-- R482 -/ def Cnt.DROP_FCS : Ctr := ⟨0x400090, 0x400, 256, 0, 1, 1, 0x100, 0x20001c, 0x0⟩
/-- R482 -/ def Cnt.DROP_RUNT : Ctr := ⟨0x400094, 0x400, 256, 0, 1, 1, 0x100, 0x20001c, 0x0⟩
/-- R482 -/ def Cnt.DROP_GIANT : Ctr := ⟨0x400098, 0x400, 256, 0, 1, 1, 0x100, 0x20001c, 0x0⟩
/-- R482 -/ def Cnt.DROP_MARKED : Ctr := ⟨0x40009c, 0x400, 256, 0, 1, 1, 0x100, 0x20001c, 0x0⟩
/-- R482 -/ def Cnt.DROP_CODING : Ctr := ⟨0x4000a0, 0x400, 256, 0, 1, 1, 0x100, 0x20001c, 0x0⟩
/-- R482 -/ def Cnt.DROP_QUENCHED : Ctr := ⟨0x4000a4, 0x400, 256, 0, 1, 1, 0x100, 0x20001c, 0x0⟩
/-- R482 -/ def Cnt.TN_QUENCH_DISCARDS : Ctr := ⟨0x4000a8, 0x400, 256, 0, 1, 1, 0x100, 0x20001c, 0x0⟩
/-- R482 -/ def Cnt.DROP_LENGTH : Ctr := ⟨0x4000ac, 0x400, 256, 0, 1, 1, 0x100, 0x20001c, 0x0⟩
/-- R482 -/ def Cnt.DROP_ACTION : Ctr := ⟨0x4000b0, 0x400, 256, 0, 1, 1, 0x100, 0x20001c, 0x0⟩
/-- R482 -/ def Cnt.DROP_OVERLOAD : Ctr := ⟨0x4000b4, 0x400, 256, 0, 1, 1, 0x100, 0x20001c, 0x0⟩
/-- R482 -/ def Cnt.DEPTH_EXCEEDED : Ctr := ⟨0x4000b8, 0x400, 256, 0, 1, 1, 0x100, 0x20001c, 0x0⟩
/-- R482 -/ def Cnt.LEN_CONFLICTS : Ctr := ⟨0x4000bc, 0x400, 256, 0, 1, 1, 0x100, 0x20001c, 0x0⟩
/-- R512 -/ def Cnt.TX_PKTS : Ctr := ⟨0x4000e0, 0x400, 256, 0, 1, 2, 0x100, 0x24001c, 0x0⟩
/-- R512 -/ def Cnt.TX_OCTETS : Ctr := ⟨0x4000e8, 0x400, 256, 0, 1, 2, 0x100, 0x24001c, 0x0⟩
/-- R512 -/ def Cnt.DROP_QLIMIT : Ctr := ⟨0x4000f0, 0x400, 256, 0, 1, 1, 0x100, 0x24001c, 0x0⟩
/-- R512 -/ def Cnt.DROP_TNLIMIT : Ctr := ⟨0x4000f4, 0x400, 256, 0, 1, 1, 0x100, 0x24001c, 0x0⟩
/-- R512 -/ def Cnt.DROP_SHARED : Ctr := ⟨0x4000f8, 0x400, 256, 0, 1, 1, 0x100, 0x24001c, 0x0⟩
/-- R512 -/ def Cnt.DROP_DESC : Ctr := ⟨0x4000fc, 0x400, 256, 0, 1, 1, 0x100, 0x24001c, 0x0⟩
/-- R546 -/ def Cnt.TN_TASKS : Ctr := ⟨0x400210, 0x400, 256, 0, 1, 2, 0x100, 0x58001c, 0x0⟩
/-- R546 -/ def Cnt.TIMER_READS : Ctr := ⟨0x400218, 0x400, 256, 0, 1, 1, 0x100, 0x58001c, 0x0⟩
/-- R546 -/ def Cnt.UNORDERED_OPS : Ctr := ⟨0x40021c, 0x400, 256, 0, 1, 1, 0x100, 0x58001c, 0x0⟩
/-- R546 -/ def Cnt.TASK_EXC : Ctr := ⟨0x400220, 0x400, 256, 0, 1, 1, 0x100, 0x58001c, 0x0⟩
/-- R510 -/ def Cnt.SHARED_DROPS : Ctr := ⟨0x240020, 0x0, 1, 0, 1, 1, 0x100, 0x24001c, 0x0⟩
/-- R510 -/ def Cnt.DESC_DROPS : Ctr := ⟨0x240024, 0x0, 1, 0, 1, 1, 0x100, 0x24001c, 0x0⟩
/-- R510 -/ def Cnt.CQ_POOL_DROPS : Ctr := ⟨0x240028, 0x0, 1, 0, 1, 1, 0x100, 0x24001c, 0x0⟩
/-- R510 -/ def Cnt.BW_POOL_DROPS : Ctr := ⟨0x24002c, 0x0, 1, 0, 1, 1, 0x100, 0x24001c, 0x0⟩
/-- R511 -/ def Cnt.Q_TAIL_DROPS : Ctr := ⟨0x24800c, 0x10, 2048, 0, 1, 1, 0x8000, 0x24001c, 0x0⟩
/-- R511 -/ def Cnt.CQ_TAIL_DROPS : Ctr := ⟨0x24100c, 0x10, 64, 0, 1, 1, 0x400, 0x24001c, 0x0⟩
/-- R544 -/ def Cnt.DISPATCHED : Ctr := ⟨0x580020, 0x0, 1, 0, 1, 2, 0x100, 0x58001c, 0x0⟩
/-- R544 -/ def Cnt.GMAP_LATE : Ctr := ⟨0x580028, 0x0, 1, 0, 1, 1, 0x100, 0x58001c, 0x0⟩
/-- R545 -/ def Cnt.LAT_TASKS : Ctr := ⟨0x500020, 0x1000, 32, 0, 1, 2, 0x100, 0x58001c, 0x0⟩
/-- R545 -/ def Cnt.LAT_QUENCH_DISCARDS : Ctr := ⟨0x500028, 0x1000, 32, 0, 1, 1, 0x100, 0x58001c, 0x0⟩
/-- R545 -/ def Cnt.EXC : Ctr := ⟨0x500040, 0x1000, 32, 4, 13, 1, 0x100, 0x58001c, 0x0⟩
/-- R566 -/ def Cnt.POISON_EGRESS : Ctr := ⟨0x280020, 0x0, 1, 0, 1, 1, 0x100, 0x28001c, 0x0⟩
/-- R566 -/ def Cnt.POISON_PCIE : Ctr := ⟨0x280024, 0x0, 1, 0, 1, 1, 0x100, 0x28001c, 0x0⟩
/-- R566 -/ def Cnt.POISON_REG_READS : Ctr := ⟨0x280028, 0x0, 1, 0, 1, 1, 0x100, 0x28001c, 0x0⟩
/-- R566 -/ def Cnt.FW_RESTARTS : Ctr := ⟨0x28002c, 0x0, 1, 0, 1, 1, 0x100, 0x28001c, 0x0⟩
/-- R567 -/ def Cnt.CE_COUNT : Ctr := ⟨0x281010, 0x40, 14, 0, 1, 1, 0x800, 0x28001c, 0x0⟩
/-- R567 -/ def Cnt.UE_COUNT : Ctr := ⟨0x281014, 0x40, 14, 0, 1, 1, 0x800, 0x28001c, 0x0⟩
/-- R567 -/ def Cnt.POISON_READS : Ctr := ⟨0x281018, 0x40, 14, 0, 1, 1, 0x800, 0x28001c, 0x0⟩
/-- R567 -/ def Cnt.SCRUB_FIXES : Ctr := ⟨0x28101c, 0x40, 14, 0, 1, 1, 0x800, 0x28001c, 0x0⟩
/-- R567 -/ def Cnt.SCRUB_POISONED : Ctr := ⟨0x281020, 0x40, 14, 0, 1, 1, 0x800, 0x28001c, 0x0⟩
/-- R567 -/ def Cnt.SCRUB_LATE : Ctr := ⟨0x281024, 0x40, 14, 0, 1, 1, 0x800, 0x28001c, 0x0⟩
/-- R604 -/ def Cnt.LN_LOCK_LOSSES : Ctr := ⟨0x300020, 0x1000, 24, 0, 1, 1, 0x100, 0x30001c, 0x1000⟩
/-- R604 -/ def Cnt.SH_ERRS : Ctr := ⟨0x300024, 0x1000, 24, 0, 1, 1, 0x100, 0x30001c, 0x1000⟩
/-- R604 -/ def Cnt.LN_QUENCH_DISCARDS : Ctr := ⟨0x300028, 0x1000, 24, 0, 1, 1, 0x100, 0x30001c, 0x1000⟩
/-- R604 -/ def Cnt.PSTATE_CHANGES : Ctr := ⟨0x30002c, 0x1000, 24, 0, 1, 1, 0x100, 0x30001c, 0x1000⟩
/-- R604 -/ def Cnt.ADAPT_FAILS : Ctr := ⟨0x300070, 0x1000, 24, 0, 1, 1, 0x100, 0x30001c, 0x1000⟩
/-- R604 -/ def Cnt.PAT_BITS : Ctr := ⟨0x300030, 0x1000, 24, 0, 1, 2, 0x100, 0x30001c, 0x1000⟩
/-- R604 -/ def Cnt.PAT_ERRS : Ctr := ⟨0x300038, 0x1000, 24, 0, 1, 2, 0x100, 0x30001c, 0x1000⟩
/-- R604 -/ def Cnt.RS_CW : Ctr := ⟨0x300048, 0x1000, 24, 0, 1, 2, 0x100, 0x30001c, 0x1000⟩
/-- R604 -/ def Cnt.RS_CW_CORR : Ctr := ⟨0x300050, 0x1000, 24, 0, 1, 2, 0x100, 0x30001c, 0x1000⟩
/-- R604 -/ def Cnt.RS_SYMB_CORR : Ctr := ⟨0x300058, 0x1000, 24, 0, 1, 2, 0x100, 0x30001c, 0x1000⟩
/-- R604 -/ def Cnt.RS_UNCORR : Ctr := ⟨0x300060, 0x1000, 24, 0, 1, 1, 0x100, 0x30001c, 0x1000⟩
/-- R604 -/ def Cnt.ALIGN_LOSSES : Ctr := ⟨0x300064, 0x1000, 24, 0, 1, 1, 0x100, 0x30001c, 0x1000⟩
/-- R604 -/ def Cnt.HI_SER_EVENTS : Ctr := ⟨0x300068, 0x1000, 24, 0, 1, 1, 0x100, 0x30001c, 0x1000⟩
/-- R623 -/ def Cnt.INNER_CW : Ctr := ⟨0x300220, 0x1000, 24, 0, 1, 2, 0x100, 0x30001c, 0x1000⟩
/-- R623 -/ def Cnt.INNER_BITS_CORR : Ctr := ⟨0x300228, 0x1000, 24, 0, 1, 2, 0x100, 0x30001c, 0x1000⟩
/-- R623 -/ def Cnt.INNER_UNCORR : Ctr := ⟨0x300230, 0x1000, 24, 0, 1, 1, 0x100, 0x30001c, 0x1000⟩
/-- R623 -/ def Cnt.INNER_LOCK_LOSSES : Ctr := ⟨0x300234, 0x1000, 24, 0, 1, 1, 0x100, 0x30001c, 0x1000⟩
/-- R623 -/ def Cnt.TX_FALLBACKS : Ctr := ⟨0x300238, 0x1000, 24, 0, 1, 1, 0x100, 0x30001c, 0x1000⟩
/-- R605 -/ def Cnt.CODE_ERRS : Ctr := ⟨0x320020, 0x1000, 2, 0, 1, 1, 0x100, 0x32001c, 0x1000⟩
/-- R605 -/ def Cnt.DISP_ERRS : Ctr := ⟨0x320024, 0x1000, 2, 0, 1, 1, 0x100, 0x32001c, 0x1000⟩
/-- R605 -/ def Cnt.SYNC_LOSSES : Ctr := ⟨0x320028, 0x1000, 2, 0, 1, 1, 0x100, 0x32001c, 0x1000⟩
/-- R605 -/ def Cnt.MARKS_RX : Ctr := ⟨0x32002c, 0x1000, 2, 0, 1, 1, 0x100, 0x32001c, 0x1000⟩
/-- R605 -/ def Cnt.TOD_RX_OK : Ctr := ⟨0x320030, 0x1000, 2, 0, 1, 1, 0x100, 0x32001c, 0x1000⟩
/-- R605 -/ def Cnt.TOD_ERRS : Ctr := ⟨0x320034, 0x1000, 2, 0, 1, 1, 0x100, 0x32001c, 0x1000⟩
/-- R605 -/ def Cnt.MARKS_TX : Ctr := ⟨0x320038, 0x1000, 2, 0, 1, 1, 0x100, 0x32001c, 0x1000⟩
/-- R605 -/ def Cnt.REALIGNS : Ctr := ⟨0x32003c, 0x1000, 2, 0, 1, 1, 0x100, 0x32001c, 0x1000⟩
/-- R648 -/ def Cnt.REF_SWITCHES : Ctr := ⟨0x20020, 0x0, 1, 0, 1, 1, 0x1000, 0x2001c, 0x0⟩
/-- R648 -/ def Cnt.PHASE_STEPS : Ctr := ⟨0x20024, 0x0, 1, 0, 1, 1, 0x1000, 0x2001c, 0x0⟩
/-- R648 -/ def Cnt.HOLDOVER_ENTRIES : Ctr := ⟨0x20028, 0x0, 1, 0, 1, 1, 0x1000, 0x2001c, 0x0⟩
/-- R648 -/ def Cnt.LOST_ENTRIES : Ctr := ⟨0x2002c, 0x0, 1, 0, 1, 1, 0x1000, 0x2001c, 0x0⟩
/-- R648 -/ def Cnt.TIME_STEPS : Ctr := ⟨0x20030, 0x0, 1, 0, 1, 1, 0x1000, 0x2001c, 0x0⟩
/-- R649 -/ def Cnt.DISQUALS : Ctr := ⟨0x20110, 0x20, 7, 0, 1, 1, 0x1000, 0x2001c, 0x0⟩
/-- R649 -/ def Cnt.FPI_MISSES : Ctr := ⟨0x20208, 0x10, 2, 0, 1, 1, 0x1000, 0x2001c, 0x0⟩
/-- R649 -/ def Cnt.FPI_REALIGNS : Ctr := ⟨0x2020c, 0x10, 2, 0, 1, 1, 0x1000, 0x2001c, 0x0⟩
/-- R704 -/ def Cnt.TRIG_DROPS : Ctr := ⟨0x30020, 0x0, 1, 0, 1, 1, 0x100, 0x3001c, 0x0⟩
/-- R704 -/ def Cnt.URGENT_DROPS : Ctr := ⟨0x30024, 0x0, 1, 0, 1, 1, 0x100, 0x3001c, 0x0⟩
/-- R704 -/ def Cnt.RANGE_EVENTS : Ctr := ⟨0x30028, 0x0, 1, 0, 1, 1, 0x100, 0x3001c, 0x0⟩
/-- R704 -/ def Cnt.LIMIT_EVENTS : Ctr := ⟨0x3002c, 0x0, 1, 0, 1, 1, 0x100, 0x3001c, 0x0⟩
/-- R704 -/ def Cnt.SEQUENCES : Ctr := ⟨0x30030, 0x0, 1, 0, 1, 2, 0x100, 0x3001c, 0x0⟩
/-- R704 -/ def Cnt.TAP_SAT : Ctr := ⟨0x38020, 0x0, 1, 0, 1, 1, 0x100, 0x3801c, 0x0⟩
/-- R704 -/ def Cnt.LOST_QUEUE : Ctr := ⟨0x40020, 0x0, 1, 0, 1, 1, 0x100, 0x4001c, 0x0⟩
/-- R704 -/ def Cnt.LOST_OVERWRITE : Ctr := ⟨0x40024, 0x0, 1, 0, 1, 1, 0x100, 0x4001c, 0x0⟩
/-- R704 -/ def Cnt.UNDERRUNS : Ctr := ⟨0x40028, 0x0, 1, 0, 1, 1, 0x100, 0x4001c, 0x0⟩
/-- R704 -/ def Cnt.POP_MISMATCHES : Ctr := ⟨0x4002c, 0x0, 1, 0, 1, 1, 0x100, 0x4001c, 0x0⟩
/-- R704 -/ def Cnt.RECORDS_WRITTEN : Ctr := ⟨0x40030, 0x0, 1, 0, 1, 2, 0x100, 0x4001c, 0x0⟩
/-- R723 -/ def Cnt.SAMPLES_LOST : Ctr := ⟨0x600020, 0x0, 1, 0, 1, 1, 0x100, 0x60001c, 0x0⟩
/-- R723 -/ def Cnt.SAMPLES_TAKEN : Ctr := ⟨0x600028, 0x0, 1, 0, 1, 2, 0x100, 0x60001c, 0x0⟩
/-- R723 -/ def Cnt.DC : Ctr := ⟨0x600080, 0x8, 8, 0, 1, 3, 0x100, 0x60001c, 0x0⟩
/-- R723 -/ def Cnt.LC : Ctr := ⟨0x601010, 0x40, 32, 8, 4, 3, 0x800, 0x60001c, 0x0⟩
/-- R744 -/ def Cnt.UNLOCK_FAILS : Ctr := ⟨0x50020, 0x0, 1, 0, 1, 1, 0x100, 0x5001c, 0x0⟩
/-- R744 -/ def Cnt.ST_RUNS : Ctr := ⟨0x50024, 0x0, 1, 0, 1, 1, 0x100, 0x5001c, 0x0⟩
/-- R744 -/ def Cnt.ST_FAILS : Ctr := ⟨0x50028, 0x0, 1, 0, 1, 1, 0x100, 0x5001c, 0x0⟩
/-- R744 -/ def Cnt.FI_STARTS : Ctr := ⟨0x5002c, 0x0, 1, 0, 1, 1, 0x100, 0x5001c, 0x0⟩
/-- R744 -/ def Cnt.FI_HITS : Ctr := ⟨0x50208, 0x20, 8, 0, 1, 2, 0x100, 0x5001c, 0x0⟩
/-- R766 -/ def Cnt.THROTTLE_EPISODES : Ctr := ⟨0x60020, 0x0, 1, 0, 1, 1, 0x100, 0x6001c, 0x0⟩
/-- R766 -/ def Cnt.PMB_FAULTS : Ctr := ⟨0x60024, 0x0, 1, 0, 1, 1, 0x100, 0x6001c, 0x0⟩
/-- R766 -/ def Cnt.OC_EVENTS : Ctr := ⟨0x60028, 0x0, 1, 0, 1, 1, 0x100, 0x6001c, 0x0⟩
/-- R766 -/ def Cnt.AVS_STEPS : Ctr := ⟨0x6002c, 0x0, 1, 0, 1, 1, 0x100, 0x6001c, 0x0⟩

/-- Every counter of the map. -/
def counters0 : List Ctr := [Cnt.TX_WRITE_IGNORED, Cnt.XQ_SLIP, Cnt.POLICY_CLAMPS, Cnt.COMMITS, Cnt.ROLLBACKS, Cnt.TXN_TIMEOUTS, Cnt.CONFLICTS, Cnt.VALIDATION_FAILS, Cnt.MB_WRITES_IGNORED, Cnt.OPT_I2C_NACKS, Cnt.OPT_I2C_FAULTS, Cnt.CAL_COUNT, Cnt.CAL_FAILS, Cnt.CAL_DEFERRALS, Cnt.CLIP_CYCLES, Cnt.OVL_FRAMES, Cnt.FG_FAILS, Cnt.DAC_FG_FAILS, Cnt.DAC_DRIFTS, Cnt.ACQ_COUNT, Cnt.ACQ_FAILS, Cnt.FAST_REACQS, Cnt.LINE_LOS_EVENTS, Cnt.LOCK_LOSSES, Cnt.CYCLE_SLIPS, Cnt.ADAPT_CHANGES, Cnt.ADAPT_TIMEOUTS, Cnt.RILL_SHEDS, Cnt.FR_QUENCH_DISCARDS, Cnt.FALSE_DETECTS, Cnt.CAPTURES, Cnt.COLLISIONS, Cnt.TRUNCATED, Cnt.ROGUE_BURSTS, Cnt.HDR_CRC_FAILS, Cnt.SURVEY_BURSTS, Cnt.UNKNOWN_SERIALS, Cnt.RANGE_FAILS, Cnt.EVICTIONS, Cnt.DUP_SERIALS]
def counters1 : List Ctr := [Cnt.SURVEY_TRIES, Cnt.LF_QUENCH_DISCARDS, Cnt.BURSTS_OK, Cnt.MISSED_GRANTS, Cnt.BAD_BURSTS, Cnt.MISRANGED, Cnt.ROGUE, Cnt.SQUELCH_EVENTS, Cnt.TX_CLIP_CYCLES, Cnt.TX_ADAPT_CHANGES, Cnt.TX_ADAPT_REFUSED, Cnt.GRANT_OVERLAPS, Cnt.GATE_CLAMPS, Cnt.BURSTS_SENT, Cnt.TXF_QUENCH_DISCARDS, Cnt.BCW_TOTAL, Cnt.BBITS_CORR, Cnt.BITER_SUM, Cnt.BCW_UNCORR, Cnt.BBCH_FIXES, Cnt.CW_TOTAL, Cnt.BITS_CORR, Cnt.ITER_SUM, Cnt.CW_UNCORR, Cnt.LDPC_FAILS, Cnt.BCH_FIXES, Cnt.CW_LOCK_LOSSES, Cnt.CYCLE_ERRS, Cnt.FEC_FAIL_EVENTS, Cnt.SWITCHES, Cnt.HOLDOFF_CANCELS, Cnt.WTR_CANCELS, Cnt.PQ_ERRS, Cnt.PQ_UNSTABLE_EVENTS, Cnt.GRANT_DEFERRALS, Cnt.MGMT_DROPS, Cnt.MGMT_RX, Cnt.FAW_ERRS, Cnt.LABEL_ERRS, Cnt.OOF_EVENTS]
def counters2 : List Ctr := [Cnt.FALSE_CANDS, Cnt.HUNT_OVERFLOWS, Cnt.MFN_ERRS, Cnt.FRAMES, Cnt.SWAPS, Cnt.LATE_RILLS, Cnt.RL_HDR_ERRS, Cnt.ETH_ERR_BLOCKS, Cnt.SLIP_DROP_IN, Cnt.SLIP_REPEAT_IN, Cnt.SLIP_DROP_OUT, Cnt.SLIP_REPEAT_OUT, Cnt.KEY_IMPORTS, Cnt.UNWRAP_FAILS, Cnt.WARN_EVENTS, Cnt.EXHAUST_EVENTS, Cnt.ROLLS, Cnt.VERIFY_REQS, Cnt.VERIFY_FAILS, Cnt.HW_RAISES, Cnt.UNITS_OK, Cnt.AUTH_FAILS, Cnt.DAMAGED_UNITS, Cnt.REPLAYS, Cnt.RELEASED_UNVERIFIED, Cnt.ABORTED, Cnt.VERIFY_DROPS, Cnt.BLOCKED_DISCARDS, Cnt.EXH_IDLE_RX, Cnt.EXH_IDLE_TX, Cnt.CTX_QUENCH_DISCARDS, Cnt.PKTS_PARSED, Cnt.BW_PASSES, Cnt.BW_LIMIT_DROPS, Cnt.FLOW_INSERT_FAILS, Cnt.DL_MATCHES, Cnt.NO_DEST_DROPS, Cnt.LANE_OVL_DROPS, Cnt.RX_PKTS, Cnt.RX_OCTETS]
def counters3 : List Ctr := [Cnt.DROP_FCS, Cnt.DROP_RUNT, Cnt.DROP_GIANT, Cnt.DROP_MARKED, Cnt.DROP_CODING, Cnt.DROP_QUENCHED, Cnt.TN_QUENCH_DISCARDS, Cnt.DROP_LENGTH, Cnt.DROP_ACTION, Cnt.DROP_OVERLOAD, Cnt.DEPTH_EXCEEDED, Cnt.LEN_CONFLICTS, Cnt.TX_PKTS, Cnt.TX_OCTETS, Cnt.DROP_QLIMIT, Cnt.DROP_TNLIMIT, Cnt.DROP_SHARED, Cnt.DROP_DESC, Cnt.TN_TASKS, Cnt.TIMER_READS, Cnt.UNORDERED_OPS, Cnt.TASK_EXC, Cnt.SHARED_DROPS, Cnt.DESC_DROPS, Cnt.CQ_POOL_DROPS, Cnt.BW_POOL_DROPS, Cnt.Q_TAIL_DROPS, Cnt.CQ_TAIL_DROPS, Cnt.DISPATCHED, Cnt.GMAP_LATE, Cnt.LAT_TASKS, Cnt.LAT_QUENCH_DISCARDS, Cnt.EXC, Cnt.POISON_EGRESS, Cnt.POISON_PCIE, Cnt.POISON_REG_READS, Cnt.FW_RESTARTS, Cnt.CE_COUNT, Cnt.UE_COUNT, Cnt.POISON_READS]
def counters4 : List Ctr := [Cnt.SCRUB_FIXES, Cnt.SCRUB_POISONED, Cnt.SCRUB_LATE, Cnt.LN_LOCK_LOSSES, Cnt.SH_ERRS, Cnt.LN_QUENCH_DISCARDS, Cnt.PSTATE_CHANGES, Cnt.ADAPT_FAILS, Cnt.PAT_BITS, Cnt.PAT_ERRS, Cnt.RS_CW, Cnt.RS_CW_CORR, Cnt.RS_SYMB_CORR, Cnt.RS_UNCORR, Cnt.ALIGN_LOSSES, Cnt.HI_SER_EVENTS, Cnt.INNER_CW, Cnt.INNER_BITS_CORR, Cnt.INNER_UNCORR, Cnt.INNER_LOCK_LOSSES, Cnt.TX_FALLBACKS, Cnt.CODE_ERRS, Cnt.DISP_ERRS, Cnt.SYNC_LOSSES, Cnt.MARKS_RX, Cnt.TOD_RX_OK, Cnt.TOD_ERRS, Cnt.MARKS_TX, Cnt.REALIGNS, Cnt.REF_SWITCHES, Cnt.PHASE_STEPS, Cnt.HOLDOVER_ENTRIES, Cnt.LOST_ENTRIES, Cnt.TIME_STEPS, Cnt.DISQUALS, Cnt.FPI_MISSES, Cnt.FPI_REALIGNS, Cnt.TRIG_DROPS, Cnt.URGENT_DROPS, Cnt.RANGE_EVENTS]
def counters5 : List Ctr := [Cnt.LIMIT_EVENTS, Cnt.SEQUENCES, Cnt.TAP_SAT, Cnt.LOST_QUEUE, Cnt.LOST_OVERWRITE, Cnt.UNDERRUNS, Cnt.POP_MISMATCHES, Cnt.RECORDS_WRITTEN, Cnt.SAMPLES_LOST, Cnt.SAMPLES_TAKEN, Cnt.DC, Cnt.LC, Cnt.UNLOCK_FAILS, Cnt.ST_RUNS, Cnt.ST_FAILS, Cnt.FI_STARTS, Cnt.FI_HITS, Cnt.THROTTLE_EPISODES, Cnt.PMB_FAULTS, Cnt.OC_EVENTS, Cnt.AVS_STEPS]
/-- Every counter of the map. -/
def counters : List Ctr := counters0 ++ counters1 ++ counters2 ++ counters3 ++ counters4 ++ counters5

def regDescs0 : List RegDesc := [
  ⟨"DEVICE_ID", 790, 0x0, 0x0, 1, 0, 1, 0x0, 0x0, 0x0, 0x0, 0x0, 0x24160b00⟩,
  ⟨"DEVICE_INFO", 790, 0x4, 0x0, 1, 0, 1, 0x0, 0x0, 0x0, 0x0, 0x0, 0x0⟩,
  ⟨"TIME_LO", 790, 0x10, 0x0, 1, 0, 1, 0x0, 0x0, 0x0, 0x0, 0x0, 0x0⟩,
  ⟨"TIME_HI", 790, 0x14, 0x0, 1, 0, 1, 0x0, 0x0, 0x0, 0x0, 0x0, 0x0⟩,
  ⟨"TIME_FRAC", 790, 0x18, 0x0, 1, 0, 1, 0x0, 0x0, 0x0, 0x0, 0x0, 0x0⟩,
  ⟨"GLB_SNAP", 790, 0x1c, 0x0, 1, 0, 1, 0x0, 0x0, 0x1, 0x0, 0x0, 0x0⟩,
  ⟨"FIXLAT_CTRL", 56, 0x100, 0x0, 1, 0, 1, 0x0, 0x0, 0x0, 0x7, 0x0, 0x0⟩,
  ⟨"LAT_TX", 57, 0x104, 0x0, 1, 0, 1, 0x0, 0x0, 0x0, 0x0, 0x0, 0x0⟩,
  ⟨"LAT_RX", 57, 0x108, 0x0, 1, 0, 1, 0x0, 0x0, 0x0, 0x0, 0x0, 0x0⟩,
  ⟨"LAT_BURST", 57, 0x10c, 0x0, 1, 0, 1, 0x0, 0x0, 0x0, 0x0, 0x0, 0x0⟩,
  ⟨"XQ_STATUS", 58, 0x110, 0x0, 1, 0, 1, 0x0, 0x0, 0x0, 0x0, 0x0, 0x8000000⟩,
  ⟨"QUENCH_CFG", 59, 0x114, 0x0, 1, 0, 1, 0x0, 0x0, 0x0, 0x3fff, 0x0, 0x64⟩,
  ⟨"MODE_CTRL", 93, 0x120, 0x0, 1, 0, 1, 0x0, 0x0, 0x0, 0x1f, 0x0, 0x0⟩,
  ⟨"MODE_STATUS", 94, 0x124, 0x0, 1, 0, 1, 0x0, 0x0, 0x0, 0x0, 0x0, 0x40⟩,
  ⟨"CLAMP_STATUS", 95, 0x128, 0x0, 1, 0, 1, 0x0, 0x1f, 0x0, 0x0, 0x0, 0x0⟩,
  ⟨"INT_STATUS", 790, 0x200, 0x4, 2, 0, 1, 0x0, 0x0, 0x0, 0x0, 0x0, 0x0⟩,
  ⟨"INT_MASK", 790, 0x208, 0x4, 2, 0, 1, 0xffffffff, 0x0, 0x0, 0x0, 0x0, 0x0⟩,
  ⟨"INT_PINS", 790, 0x210, 0x0, 1, 0, 1, 0x0, 0x0, 0x0, 0x0, 0x0, 0x6⟩,
  ⟨"INT_ROUTE", 790, 0x300, 0x4, 64, 0, 1, 0x0, 0x0, 0x0, 0xff, 0x0, 0x0⟩,
  ⟨"MB_STATUS", 675, 0x12010, 0x0, 1, 0, 1, 0x0, 0x0, 0x0, 0x0, 0x0, 0x0⟩,
  ⟨"MB_EVENTS", 675, 0x12014, 0x0, 1, 0, 1, 0x0, 0xffff, 0x0, 0x0, 0x0, 0x0⟩,
  ⟨"MB_INT_EN", 675, 0x12018, 0x0, 1, 0, 1, 0xffff, 0x0, 0x0, 0x0, 0x0, 0x0⟩,
  ⟨"MBC_SNAP", 675, 0x1201c, 0x0, 1, 0, 1, 0x0, 0x0, 0x1, 0x0, 0x0, 0x0⟩,
  ⟨"GPIO_IN", 679, 0x12040, 0x0, 1, 0, 1, 0x0, 0x0, 0x0, 0x0, 0x0, 0x0⟩,
  ⟨"GPIO_EVENTS", 679, 0x12044, 0x0, 1, 0, 1, 0x0, 0xffff, 0x0, 0x0, 0x0, 0x0⟩,
  ⟨"GPIO_INT_EN", 679, 0x12048, 0x0, 1, 0, 1, 0xffff, 0x0, 0x0, 0x0, 0x0, 0x0⟩,
  ⟨"GPIO_OUT", 679, 0x1204c, 0x0, 1, 0, 1, 0x0, 0x0, 0x0, 0x0, 0x0, 0x0⟩,
  ⟨"OPT_STATUS", 679, 0x12050, 0x0, 1, 0, 1, 0x0, 0x0, 0x0, 0x0, 0x0, 0x0⟩,
  ⟨"OPT_SPI_CFG", 679, 0x12060, 0x0, 1, 0, 1, 0x0, 0x0, 0x0, 0x7f7f7f7f, 0x0, 0x1010101⟩,
  ⟨"OPT_I2C_CFG", 679, 0x12064, 0x0, 1, 0, 1, 0x0, 0x0, 0x0, 0x3, 0x0, 0x1⟩,
  ⟨"GPIO_CFG", 679, 0x12080, 0x4, 16, 0, 1, 0x0, 0x0, 0x0, 0x3f, 0x0, 0x0⟩,
  ⟨"ADC_CTRL", 130, 0x100000, 0x1000, 4, 0, 1, 0x0, 0x0, 0x0, 0x7, 0x0, 0x1⟩,
  ⟨"ADC_CAL_CFG", 131, 0x100004, 0x1000, 4, 0, 1, 0x0, 0x0, 0x0, 0x3ffff01, 0x0, 0xa0c01⟩,
  ⟨"ADC_OVL_CFG", 132, 0x100008, 0x1000, 4, 0, 1, 0x0, 0x0, 0x0, 0x3fff, 0x0, 0x64⟩,
  ⟨"ADC_STATUS", 133, 0x100010, 0x1000, 4, 0, 1, 0x0, 0x0, 0x0, 0x0, 0x0, 0x7f0000⟩,
  ⟨"ADC_EVENTS", 134, 0x100014, 0x1000, 4, 0, 1, 0x0, 0x3f, 0x0, 0x0, 0x0, 0x0⟩,
  ⟨"ADC_INT_EN", 134, 0x100018, 0x1000, 4, 0, 1, 0x3f, 0x0, 0x0, 0x0, 0x0, 0x0⟩,
  ⟨"ADC_SNAP", 135, 0x10001c, 0x1000, 4, 0, 1, 0x0, 0x0, 0x1, 0x0, 0x0, 0x0⟩,
  ⟨"CAL_TIME", 137, 0x100040, 0x1000, 4, 4, 2, 0x0, 0x0, 0x0, 0x0, 0x0, 0x0⟩,
  ⟨"SLICE_MAP", 138, 0x100080, 0x1000, 4, 4, 17, 0x0, 0x0, 0x0, 0x0, 0x0, 0x0⟩]
def regDescs1 : List RegDesc := [
  ⟨"DAC_CTRL", 139, 0x104000, 0x1000, 4, 0, 1, 0x0, 0x0, 0x0, 0x7f, 0x0, 0x1e⟩,
  ⟨"DAC_STATUS", 140, 0x104010, 0x1000, 4, 0, 1, 0x0, 0x0, 0x0, 0x0, 0x0, 0x8⟩,
  ⟨"DAC_EVENTS", 141, 0x104014, 0x1000, 4, 0, 1, 0x0, 0x7, 0x0, 0x0, 0x0, 0x0⟩,
  ⟨"DAC_INT_EN", 141, 0x104018, 0x1000, 4, 0, 1, 0x7, 0x0, 0x0, 0x0, 0x0, 0x0⟩,
  ⟨"DAC_SNAP", 135, 0x10401c, 0x1000, 4, 0, 1, 0x0, 0x0, 0x1, 0x0, 0x0, 0x0⟩,
  ⟨"RX_CTRL", 185, 0x110000, 0x0, 1, 0, 1, 0x0, 0x0, 0x0, 0xffffffff, 0x0, 0x258fda8⟩,
  ⟨"RX_ACQ_CFG", 186, 0x110004, 0x0, 1, 0, 1, 0x0, 0x0, 0x0, 0x3f03ff, 0x0, 0x401f4⟩,
  ⟨"RX_OSNR_CFG", 187, 0x110008, 0x0, 1, 0, 1, 0x0, 0x0, 0x0, 0x1f3f0fff, 0x0, 0x280834⟩,
  ⟨"RX_CFG", 188, 0x11000c, 0x0, 1, 0, 1, 0x0, 0x0, 0x0, 0x1ffffff, 0x0, 0x0⟩,
  ⟨"RX_STATUS", 189, 0x110010, 0x0, 1, 0, 1, 0x0, 0x0, 0x0, 0x0, 0x0, 0x20⟩,
  ⟨"RX_EVENTS", 190, 0x110014, 0x0, 1, 0, 1, 0x0, 0xf, 0x0, 0x0, 0x0, 0x0⟩,
  ⟨"RX_INT_EN", 190, 0x110018, 0x0, 1, 0, 1, 0xf, 0x0, 0x0, 0x0, 0x0, 0x0⟩,
  ⟨"RX_SNAP", 190, 0x11001c, 0x0, 1, 0, 1, 0x0, 0x0, 0x1, 0x0, 0x0, 0x0⟩,
  ⟨"LINE_CD_EST", 191, 0x110040, 0x0, 1, 0, 1, 0x0, 0x0, 0x0, 0x0, 0x0, 0x0⟩,
  ⟨"LINE_FREQ_OFS", 191, 0x110044, 0x0, 1, 0, 1, 0x0, 0x0, 0x0, 0x0, 0x0, 0x0⟩,
  ⟨"LINE_OSNR", 191, 0x110048, 0x0, 1, 0, 1, 0x0, 0x0, 0x0, 0x0, 0x0, 0xffff⟩,
  ⟨"ACQ_TIME", 191, 0x11004c, 0x0, 1, 0, 1, 0x0, 0x0, 0x0, 0x0, 0x0, 0x0⟩,
  ⟨"FR_RX_CTRL", 192, 0x120000, 0x800, 32, 0, 1, 0x0, 0x0, 0x0, 0xfff, 0x0, 0x350⟩,
  ⟨"FR_ADAPT_CFG", 193, 0x120004, 0x800, 32, 0, 1, 0x0, 0x0, 0x0, 0xffffffff, 0x0, 0x3e8050a⟩,
  ⟨"FR_STATUS", 194, 0x120010, 0x800, 32, 0, 1, 0x0, 0x0, 0x0, 0x0, 0x0, 0xa81⟩,
  ⟨"FR_EVENTS", 195, 0x120014, 0x800, 32, 0, 1, 0x0, 0x3f, 0x0, 0x0, 0x0, 0x0⟩,
  ⟨"FR_INT_EN", 195, 0x120018, 0x800, 32, 0, 1, 0x3f, 0x0, 0x0, 0x0, 0x0, 0x0⟩,
  ⟨"FR_SNAP", 195, 0x12001c, 0x800, 32, 0, 1, 0x0, 0x0, 0x1, 0x0, 0x0, 0x0⟩,
  ⟨"FR_SNR", 196, 0x120040, 0x800, 32, 0, 1, 0x0, 0x0, 0x0, 0x0, 0x0, 0xffffffff⟩,
  ⟨"FR_SNR_XY", 196, 0x120044, 0x800, 32, 0, 1, 0x0, 0x0, 0x0, 0x0, 0x0, 0xffffffff⟩,
  ⟨"FR_CD_EST", 196, 0x120048, 0x800, 32, 0, 1, 0x0, 0x0, 0x0, 0x0, 0x0, 0x80000000⟩,
  ⟨"FR_DGD", 196, 0x12004c, 0x800, 32, 0, 1, 0x0, 0x0, 0x0, 0x0, 0x0, 0xffffffff⟩,
  ⟨"FR_FREQ_OFS", 196, 0x120050, 0x800, 32, 0, 1, 0x0, 0x0, 0x0, 0x0, 0x0, 0x80000000⟩,
  ⟨"FR_PREFEC_BER", 196, 0x120054, 0x800, 32, 0, 1, 0x0, 0x0, 0x0, 0x0, 0x0, 0xffffffff⟩,
  ⟨"FR_NOISE_FLOOR", 196, 0x120058, 0x800, 32, 0, 1, 0x0, 0x0, 0x0, 0x0, 0x0, 0x8000⟩,
  ⟨"BR_CFG", 240, 0x140000, 0x0, 1, 0, 1, 0x0, 0x0, 0x0, 0xffffff, 0x0, 0x861020⟩,
  ⟨"BR_SHARED", 241, 0x140004, 0x0, 1, 0, 1, 0x0, 0x0, 0x0, 0xffffffff, 0x0, 0x0⟩,
  ⟨"BR_TIMING", 242, 0x140008, 0x0, 1, 0, 1, 0x0, 0x0, 0x0, 0x7ff07ff, 0x0, 0x2ee03e8⟩,
  ⟨"LEAF_CFG", 243, 0x14000c, 0x0, 1, 0, 1, 0x0, 0x0, 0x0, 0xff1fff, 0x0, 0x430208⟩,
  ⟨"BR_STATUS", 245, 0x140010, 0x0, 1, 0, 1, 0x0, 0x0, 0x0, 0x0, 0x0, 0x0⟩,
  ⟨"BR_EVENTS", 246, 0x140014, 0x0, 1, 0, 1, 0x0, 0x3f, 0x0, 0x0, 0x0, 0x0⟩,
  ⟨"BR_INT_EN", 246, 0x140018, 0x0, 1, 0, 1, 0x3f, 0x0, 0x0, 0x0, 0x0, 0x0⟩,
  ⟨"BR_SNAP", 246, 0x14001c, 0x0, 1, 0, 1, 0x0, 0x0, 0x1, 0x0, 0x0, 0x0⟩,
  ⟨"SURVEY_CFG", 244, 0x140040, 0x0, 1, 0, 1, 0x0, 0x0, 0x0, 0x1ffff, 0x0, 0x4010⟩,
  ⟨"SURVEY_MASK", 241, 0x140044, 0x0, 1, 0, 1, 0x0, 0x0, 0x0, 0xffffffff, 0x0, 0x0⟩]
def regDescs2 : List RegDesc := [
  ⟨"SELF_CTRL", 249, 0x140080, 0x0, 1, 0, 1, 0x0, 0x0, 0x0, 0x1, 0x0, 0x0⟩,
  ⟨"SELF_SERIAL", 249, 0x140084, 0x4, 2, 0, 1, 0x0, 0x0, 0x0, 0xffffffff, 0x0, 0x0⟩,
  ⟨"SELF_STATUS", 249, 0x14008c, 0x0, 1, 0, 1, 0x0, 0x0, 0x0, 0x0, 0x0, 0x0⟩,
  ⟨"SELF_EQD", 249, 0x140094, 0x0, 1, 0, 1, 0x0, 0x0, 0x0, 0x0, 0x0, 0x0⟩,
  ⟨"SELF_FREQ_CORR", 249, 0x140098, 0x0, 1, 0, 1, 0x0, 0x0, 0x0, 0x0, 0x0, 0x0⟩,
  ⟨"LF_STATUS", 247, 0x480000, 0x40, 1024, 0, 1, 0x0, 0x0, 0x0, 0x0, 0x0, 0x0⟩,
  ⟨"LF_PROFILE", 247, 0x480004, 0x40, 1024, 0, 1, 0x0, 0x0, 0x0, 0x3fffffff, 0x0, 0x400000⟩,
  ⟨"LF_SERIAL", 248, 0x480008, 0x40, 1024, 4, 2, 0x0, 0x0, 0x0, 0x0, 0x0, 0x0⟩,
  ⟨"LF_EQD", 248, 0x480010, 0x40, 1024, 0, 1, 0x0, 0x0, 0x0, 0x0, 0x0, 0x0⟩,
  ⟨"LF_RTD", 248, 0x480014, 0x40, 1024, 0, 1, 0x0, 0x0, 0x0, 0x0, 0x0, 0x0⟩,
  ⟨"LF_FREQ", 248, 0x480018, 0x40, 1024, 0, 1, 0x0, 0x0, 0x0, 0x0, 0x0, 0x0⟩,
  ⟨"LF_LEVEL", 248, 0x48001c, 0x40, 1024, 0, 1, 0x0, 0x0, 0x0, 0x0, 0x0, 0x8000⟩,
  ⟨"LF_LAST", 248, 0x480020, 0x40, 1024, 0, 1, 0x0, 0x0, 0x0, 0x0, 0x0, 0xffff⟩,
  ⟨"TXS_CTRL", 285, 0x150000, 0x0, 1, 0, 1, 0x0, 0x0, 0x0, 0x3f, 0x0, 0x5⟩,
  ⟨"TXS_LEVEL", 286, 0x150004, 0x0, 1, 0, 1, 0x0, 0x0, 0x0, 0x3f, 0x0, 0x18⟩,
  ⟨"TXS_LEAF_CFG", 287, 0x150008, 0x0, 1, 0, 1, 0x0, 0x0, 0x0, 0x3ffffff, 0x0, 0x840400⟩,
  ⟨"TXS_STATUS", 288, 0x150010, 0x0, 1, 0, 1, 0x0, 0x0, 0x0, 0x0, 0x0, 0x15⟩,
  ⟨"TXS_EVENTS", 289, 0x150014, 0x0, 1, 0, 1, 0x0, 0x3f, 0x0, 0x0, 0x0, 0x0⟩,
  ⟨"TXS_INT_EN", 289, 0x150018, 0x0, 1, 0, 1, 0x3f, 0x0, 0x0, 0x0, 0x0, 0x0⟩,
  ⟨"TXS_SNAP", 289, 0x15001c, 0x0, 1, 0, 1, 0x0, 0x0, 0x1, 0x0, 0x0, 0x0⟩,
  ⟨"DAC_SKEW", 290, 0x150200, 0x20, 4, 0, 1, 0x0, 0x0, 0x0, 0x1ff, 0x0, 0x0⟩,
  ⟨"DAC_IMB", 290, 0x150204, 0x20, 4, 0, 1, 0x0, 0x0, 0x0, 0xffffff, 0x0, 0x0⟩,
  ⟨"DAC_TAPA", 290, 0x150208, 0x20, 4, 0, 1, 0x0, 0x0, 0x0, 0xfff0fff, 0x0, 0x0⟩,
  ⟨"DAC_TAPB", 290, 0x15020c, 0x20, 4, 0, 1, 0x0, 0x0, 0x0, 0xfff0fff, 0x0, 0x4000000⟩,
  ⟨"DAC_TAPC", 290, 0x150210, 0x20, 4, 0, 1, 0x0, 0x0, 0x0, 0xfff0fff, 0x0, 0x0⟩,
  ⟨"DAC_TAPD", 290, 0x150214, 0x20, 4, 0, 1, 0x0, 0x0, 0x0, 0xfff, 0x0, 0x0⟩,
  ⟨"TX_MASK", 291, 0x150300, 0x4, 16, 0, 1, 0x0, 0x0, 0x0, 0xffffffff, 0x0, 0x0⟩,
  ⟨"TXF_CTRL", 292, 0x150400, 0x10, 32, 0, 1, 0x0, 0x0, 0x0, 0xfffff, 0x0, 0x350⟩,
  ⟨"TXF_STATUS", 293, 0x150404, 0x10, 32, 0, 1, 0x0, 0x0, 0x0, 0x0, 0x0, 0x54⟩,
  ⟨"FEC_CTRL", 330, 0x160000, 0x0, 1, 0, 1, 0x0, 0x0, 0x0, 0x3ff, 0x0, 0x4c⟩,
  ⟨"FEC_DEF_CFG", 331, 0x160004, 0x0, 1, 0, 1, 0x0, 0x0, 0x0, 0xfffff, 0x0, 0x33801⟩,
  ⟨"FEC_DEG_THR", 332, 0x160008, 0x0, 1, 0, 1, 0x0, 0x0, 0x0, 0xffffffff, 0x0, 0x28f5c29⟩,
  ⟨"CW_LOCK_MASK", 332, 0x160010, 0x0, 1, 0, 1, 0x0, 0x0, 0x0, 0x0, 0x0, 0x0⟩,
  ⟨"FAIL_MASK", 332, 0x160014, 0x0, 1, 0, 1, 0x0, 0x0, 0x0, 0x0, 0x0, 0x0⟩,
  ⟨"DEG_MASK", 332, 0x160018, 0x0, 1, 0, 1, 0x0, 0x0, 0x0, 0x0, 0x0, 0x0⟩,
  ⟨"FEC_SNAP", 332, 0x16001c, 0x0, 1, 0, 1, 0x0, 0x0, 0x1, 0x0, 0x0, 0x0⟩,
  ⟨"FEC_FR_STATUS", 334, 0x161000, 0x200, 32, 0, 1, 0x0, 0x0, 0x0, 0x0, 0x0, 0x14⟩,
  ⟨"FEC_FR_EVENTS", 335, 0x161004, 0x200, 32, 0, 1, 0x0, 0x1f, 0x0, 0x0, 0x0, 0x0⟩,
  ⟨"FEC_FR_INT_EN", 335, 0x161008, 0x200, 32, 0, 1, 0x1f, 0x0, 0x0, 0x0, 0x0, 0x0⟩,
  ⟨"FRM_CFG", 375, 0x170000, 0x0, 1, 0, 1, 0x0, 0x0, 0x0, 0xffffff, 0x0, 0x962585⟩]
def regDescs3 : List RegDesc := [
  ⟨"FORCE_BDI", 376, 0x170004, 0x0, 1, 0, 1, 0x0, 0x0, 0x0, 0xffffffff, 0x0, 0x0⟩,
  ⟨"PROT_CFG", 377, 0x170008, 0x0, 1, 0, 1, 0x0, 0x0, 0x0, 0x1fffff, 0x0, 0xc000c⟩,
  ⟨"PROT_TIMERS", 378, 0x17000c, 0x0, 1, 0, 1, 0x0, 0x0, 0x0, 0x3ff7f, 0x0, 0x12c00⟩,
  ⟨"PROT_STATUS", 379, 0x170010, 0x0, 1, 0, 1, 0x0, 0x0, 0x0, 0x0, 0x0, 0x20000⟩,
  ⟨"PROT_EVENTS", 380, 0x170014, 0x0, 1, 0, 1, 0x0, 0x3f, 0x0, 0x0, 0x0, 0x0⟩,
  ⟨"PROT_INT_EN", 380, 0x170018, 0x0, 1, 0, 1, 0x3f, 0x0, 0x0, 0x0, 0x0, 0x0⟩,
  ⟨"FRM_SNAP", 374, 0x17001c, 0x0, 1, 0, 1, 0x0, 0x0, 0x1, 0x0, 0x0, 0x0⟩,
  ⟨"PQ_STATUS", 380, 0x170040, 0x0, 1, 0, 1, 0x0, 0x0, 0x0, 0x0, 0x0, 0x0⟩,
  ⟨"PROT_LEFT", 380, 0x170044, 0x0, 1, 0, 1, 0x0, 0x0, 0x0, 0x0, 0x0, 0x0⟩,
  ⟨"FRM_FR_STATUS", 381, 0x171000, 0x200, 32, 0, 1, 0x0, 0x0, 0x0, 0x0, 0x0, 0x1e⟩,
  ⟨"FRM_FR_EVENTS", 382, 0x171004, 0x200, 32, 0, 1, 0x0, 0x1f, 0x0, 0x0, 0x0, 0x0⟩,
  ⟨"FRM_FR_INT_EN", 382, 0x171008, 0x200, 32, 0, 1, 0x1f, 0x0, 0x0, 0x0, 0x0, 0x0⟩,
  ⟨"FRM_FR_LEN", 382, 0x171010, 0x200, 32, 0, 1, 0x0, 0x0, 0x0, 0x0, 0x0, 0x0⟩,
  ⟨"MFN_RX", 382, 0x171014, 0x200, 32, 0, 1, 0x0, 0x0, 0x0, 0x0, 0x0, 0x0⟩,
  ⟨"TSI_STATUS", 406, 0x180010, 0x0, 1, 0, 1, 0x0, 0x0, 0x0, 0x0, 0x0, 0x0⟩,
  ⟨"TSI_EVENTS", 406, 0x180014, 0x0, 1, 0, 1, 0x0, 0xf, 0x0, 0x0, 0x0, 0x0⟩,
  ⟨"TSI_INT_EN", 406, 0x180018, 0x0, 1, 0, 1, 0xf, 0x0, 0x0, 0x0, 0x0, 0x0⟩,
  ⟨"TSI_SNAP", 406, 0x18001c, 0x0, 1, 0, 1, 0x0, 0x0, 0x1, 0x0, 0x0, 0x0⟩,
  ⟨"RL_CFG", 407, 0x180200, 0x10, 16, 0, 1, 0x0, 0x0, 0x0, 0x7fffff, 0x0, 0x0⟩,
  ⟨"RL_STATUS", 407, 0x180204, 0x10, 16, 0, 1, 0x0, 0x0, 0x0, 0x0, 0x0, 0x0⟩,
  ⟨"RL_OFFSET", 407, 0x180208, 0x10, 16, 0, 1, 0x0, 0x0, 0x0, 0x0, 0x0, 0x80000000⟩,
  ⟨"SB_STATUS", 408, 0x180600, 0x20, 64, 0, 1, 0x0, 0x0, 0x0, 0x0, 0x0, 0x0⟩,
  ⟨"TSI_PAGE_A", 406, 0x188000, 0x4, 2048, 0, 1, 0x0, 0x0, 0x0, 0xffffffff, 0x0, 0x0⟩,
  ⟨"TSI_PAGE_B", 406, 0x18c000, 0x4, 2048, 0, 1, 0x0, 0x0, 0x0, 0xffffffff, 0x0, 0x0⟩,
  ⟨"TN_CLIENT", 409, 0x400000, 0x400, 256, 0, 1, 0x0, 0x0, 0x0, 0x1fffff, 0x0, 0x0⟩,
  ⟨"TN_STATUS", 409, 0x400004, 0x400, 256, 0, 1, 0x0, 0x0, 0x0, 0x0, 0x0, 0x0⟩,
  ⟨"TN_WAIT", 409, 0x400008, 0x400, 256, 0, 1, 0x0, 0x0, 0x0, 0x0, 0x0, 0x0⟩,
  ⟨"CIPH_STATUS", 445, 0x1a0010, 0x0, 1, 0, 1, 0x0, 0x0, 0x0, 0x0, 0x0, 0x0⟩,
  ⟨"CIPH_EVENTS", 445, 0x1a0014, 0x0, 1, 0, 1, 0x0, 0xff, 0x0, 0x0, 0x0, 0x0⟩,
  ⟨"CIPH_INT_EN", 445, 0x1a0018, 0x0, 1, 0, 1, 0xff, 0x0, 0x0, 0x0, 0x0, 0x0⟩,
  ⟨"CIPH_SNAP", 445, 0x1a001c, 0x0, 1, 0, 1, 0x0, 0x0, 0x1, 0x0, 0x0, 0x0⟩,
  ⟨"PIPE_USE", 445, 0x1a0040, 0x4, 4, 0, 1, 0x0, 0x0, 0x0, 0x0, 0x0, 0x0⟩,
  ⟨"KS_STATUS", 446, 0x1a1000, 0x8, 512, 0, 1, 0x0, 0x0, 0x0, 0x0, 0x0, 0x0⟩,
  ⟨"KS_KCV", 446, 0x1a1004, 0x8, 512, 0, 1, 0x0, 0x0, 0x0, 0x0, 0x0, 0x0⟩,
  ⟨"TN_CIPHER", 447, 0x1a2000, 0x40, 256, 0, 1, 0x0, 0x0, 0x0, 0x3ff7f, 0x0, 0x8⟩,
  ⟨"TN_CIPH_STATUS", 447, 0x1a2004, 0x40, 256, 0, 1, 0x0, 0x0, 0x0, 0x0, 0x0, 0x0⟩,
  ⟨"CTX_STATUS", 448, 0x1b0000, 0x20, 1024, 0, 1, 0x0, 0x0, 0x0, 0x0, 0x0, 0x0⟩,
  ⟨"CTX_TX_LO", 448, 0x1b0004, 0x20, 1024, 0, 1, 0x0, 0x0, 0x0, 0x0, 0x0, 0x0⟩,
  ⟨"CTX_HI", 448, 0x1b0008, 0x20, 1024, 0, 1, 0x0, 0x0, 0x0, 0x0, 0x0, 0x10000000⟩,
  ⟨"CTX_RX_LO", 448, 0x1b000c, 0x20, 1024, 0, 1, 0x0, 0x0, 0x0, 0x0, 0x0, 0x0⟩]
def regDescs4 : List RegDesc := [
  ⟨"IN_CFG", 480, 0x200000, 0x0, 1, 0, 1, 0x0, 0x0, 0x0, 0xffff3fff, 0x0, 0x2580⟩,
  ⟨"IN_PORTS", 480, 0x200004, 0x0, 1, 0, 1, 0x0, 0x0, 0x0, 0xffffffff, 0x0, 0x17c112b5⟩,
  ⟨"HASH_SEED", 480, 0x200008, 0x0, 1, 0, 1, 0x0, 0x0, 0x0, 0xffffffff, 0x0, 0xffffffff⟩,
  ⟨"BW_CFG", 480, 0x20000c, 0x0, 1, 0, 1, 0x0, 0x0, 0x0, 0x3ffff, 0x0, 0x4000⟩,
  ⟨"IN_STATUS", 480, 0x200010, 0x0, 1, 0, 1, 0x0, 0x0, 0x0, 0x0, 0x0, 0x0⟩,
  ⟨"IN_EVENTS", 480, 0x200014, 0x0, 1, 0, 1, 0x0, 0x7, 0x0, 0x0, 0x0, 0x0⟩,
  ⟨"IN_INT_EN", 480, 0x200018, 0x0, 1, 0, 1, 0x7, 0x0, 0x0, 0x0, 0x0, 0x0⟩,
  ⟨"IN_SNAP", 480, 0x20001c, 0x0, 1, 0, 1, 0x0, 0x0, 0x1, 0x0, 0x0, 0x0⟩,
  ⟨"TERN_STATUS", 480, 0x200040, 0x0, 1, 0, 1, 0x0, 0x0, 0x0, 0x0, 0x0, 0x0⟩,
  ⟨"DL_CFG", 481, 0x200200, 0x40, 8, 0, 1, 0x0, 0x0, 0x0, 0x1ff7f, 0x0, 0x0⟩,
  ⟨"DL_VALUE", 481, 0x200210, 0x40, 8, 4, 4, 0x0, 0x0, 0x0, 0xffffffff, 0x0, 0x0⟩,
  ⟨"DL_MASK", 481, 0x200220, 0x40, 8, 4, 4, 0x0, 0x0, 0x0, 0xffffffff, 0x0, 0x0⟩,
  ⟨"TN_PKT", 482, 0x400040, 0x400, 256, 0, 1, 0x0, 0x0, 0x0, 0xfffffff, 0x0, 0x2402000⟩,
  ⟨"TN_DEFAULT_LO", 482, 0x400044, 0x400, 256, 0, 1, 0x0, 0x0, 0x0, 0xffffffff, 0x0, 0x0⟩,
  ⟨"TN_DEFAULT_HI", 482, 0x400048, 0x400, 256, 0, 1, 0x0, 0x0, 0x0, 0xffffffff, 0x0, 0x20000000⟩,
  ⟨"TN_KEY", 482, 0x40004c, 0x400, 256, 0, 1, 0x0, 0x0, 0x0, 0xfffff, 0x0, 0x0⟩,
  ⟨"TN_IN_STATUS", 482, 0x400050, 0x400, 256, 0, 1, 0x0, 0x0, 0x0, 0x0, 0x0, 0x0⟩,
  ⟨"HG_CFG", 510, 0x240000, 0x0, 1, 0, 1, 0x0, 0x0, 0x0, 0x3ffff, 0x0, 0x2000⟩,
  ⟨"HG_DESC", 510, 0x240004, 0x0, 1, 0, 1, 0x0, 0x0, 0x0, 0x0, 0x0, 0x0⟩,
  ⟨"HG_PARCELS_TOTAL", 510, 0x240008, 0x0, 1, 0, 1, 0x0, 0x0, 0x0, 0x0, 0x0, 0x0⟩,
  ⟨"HG_SHARED", 510, 0x24000c, 0x0, 1, 0, 1, 0x0, 0x0, 0x0, 0x0, 0x0, 0x0⟩,
  ⟨"HG_EVENTS", 510, 0x240014, 0x0, 1, 0, 1, 0x0, 0x7, 0x0, 0x0, 0x0, 0x0⟩,
  ⟨"HG_INT_EN", 510, 0x240018, 0x0, 1, 0, 1, 0x7, 0x0, 0x0, 0x0, 0x0, 0x0⟩,
  ⟨"HG_SNAP", 509, 0x24001c, 0x0, 1, 0, 1, 0x0, 0x0, 0x1, 0x0, 0x0, 0x0⟩,
  ⟨"Q_CFG", 511, 0x248000, 0x10, 2048, 0, 1, 0x0, 0x0, 0x0, 0x1fffffff, 0x0, 0x400001⟩,
  ⟨"Q_PARCELS", 511, 0x248004, 0x10, 2048, 0, 1, 0x0, 0x0, 0x0, 0x0, 0x0, 0x0⟩,
  ⟨"Q_PKTS", 511, 0x248008, 0x10, 2048, 0, 1, 0x0, 0x0, 0x0, 0x0, 0x0, 0x0⟩,
  ⟨"CQ_CFG", 511, 0x241000, 0x10, 64, 0, 1, 0x0, 0x0, 0x0, 0x3fffff, 0x0, 0x400⟩,
  ⟨"CQ_PARCELS", 511, 0x241004, 0x10, 64, 0, 1, 0x0, 0x0, 0x0, 0x0, 0x0, 0x0⟩,
  ⟨"CQ_PKTS", 511, 0x241008, 0x10, 64, 0, 1, 0x0, 0x0, 0x0, 0x0, 0x0, 0x0⟩,
  ⟨"TN_HG_MIN", 512, 0x4000c0, 0x400, 256, 0, 1, 0x0, 0x0, 0x0, 0x1fffff, 0x0, 0x0⟩,
  ⟨"TN_HG_MAX", 512, 0x4000c4, 0x400, 256, 0, 1, 0x0, 0x0, 0x0, 0x1fffff, 0x0, 0x20000⟩,
  ⟨"TN_HG_STRICT", 512, 0x4000c8, 0x400, 256, 0, 1, 0x0, 0x0, 0x0, 0xff, 0x0, 0x0⟩,
  ⟨"TN_HG_STATUS", 512, 0x4000cc, 0x400, 256, 0, 1, 0x0, 0x0, 0x0, 0x0, 0x0, 0x0⟩,
  ⟨"ENG_CFG", 544, 0x580000, 0x0, 1, 0, 1, 0x0, 0x0, 0x0, 0x1fff, 0x0, 0x800⟩,
  ⟨"ENG_IMAGE", 544, 0x580004, 0x0, 1, 0, 1, 0x0, 0x0, 0x0, 0x0, 0x0, 0x0⟩,
  ⟨"ENG_STAGED", 544, 0x580008, 0x0, 1, 0, 1, 0x0, 0x0, 0x0, 0x0, 0x0, 0x0⟩,
  ⟨"ENG_STATUS", 544, 0x580010, 0x0, 1, 0, 1, 0x0, 0x0, 0x0, 0x0, 0x0, 0x0⟩,
  ⟨"ENG_EVENTS", 544, 0x580014, 0x0, 1, 0, 1, 0x0, 0x3, 0x0, 0x0, 0x0, 0x0⟩,
  ⟨"ENG_INT_EN", 544, 0x580018, 0x0, 1, 0, 1, 0x3, 0x0, 0x0, 0x0, 0x0, 0x0⟩]
def regDescs5 : List RegDesc := [
  ⟨"ENG_SNAP", 543, 0x58001c, 0x0, 1, 0, 1, 0x0, 0x0, 0x1, 0x0, 0x0, 0x0⟩,
  ⟨"LAT_CTRL", 545, 0x500000, 0x1000, 32, 0, 1, 0x0, 0x0, 0x0, 0x3, 0x0, 0x1⟩,
  ⟨"LAT_STATUS", 545, 0x500010, 0x1000, 32, 0, 1, 0x0, 0x0, 0x0, 0x0, 0x0, 0x0⟩,
  ⟨"LAT_EVENTS", 545, 0x500014, 0x1000, 32, 0, 1, 0x0, 0x1, 0x0, 0x0, 0x0, 0x0⟩,
  ⟨"LAT_INT_EN", 545, 0x500018, 0x1000, 32, 0, 1, 0x1, 0x0, 0x0, 0x0, 0x0, 0x0⟩,
  ⟨"TN_ENG", 546, 0x400200, 0x400, 256, 0, 1, 0x0, 0x0, 0x0, 0x1, 0x0, 0x1⟩,
  ⟨"FLIP_STATUS", 566, 0x280010, 0x0, 1, 0, 1, 0x0, 0x0, 0x0, 0x0, 0x0, 0x0⟩,
  ⟨"MEM_EVENTS", 566, 0x280014, 0x0, 1, 0, 1, 0x0, 0x7f, 0x0, 0x0, 0x0, 0x0⟩,
  ⟨"MEM_INT_EN", 566, 0x280018, 0x0, 1, 0, 1, 0x7f, 0x0, 0x0, 0x0, 0x0, 0x0⟩,
  ⟨"MEM_SNAP", 566, 0x28001c, 0x0, 1, 0, 1, 0x0, 0x0, 0x1, 0x0, 0x0, 0x0⟩,
  ⟨"FLIP_ADDR", 566, 0x280040, 0x0, 1, 0, 1, 0x0, 0x0, 0x0, 0x0, 0x0, 0x0⟩,
  ⟨"LEAKED_PARCELS", 566, 0x280044, 0x0, 1, 0, 1, 0x0, 0x0, 0x0, 0x0, 0x0, 0x0⟩,
  ⟨"LEAKED_DESC", 566, 0x280048, 0x0, 1, 0, 1, 0x0, 0x0, 0x0, 0x0, 0x0, 0x0⟩,
  ⟨"MEM_CFG", 567, 0x281000, 0x40, 14, 0, 1, 0x0, 0x0, 0x0, 0x1ffff, 0x0, 0x64⟩,
  ⟨"MEM_MSTATUS", 567, 0x281004, 0x40, 14, 0, 1, 0x0, 0x0, 0x0, 0x0, 0x0, 0x0⟩,
  ⟨"LAST_ERR", 567, 0x281008, 0x40, 14, 0, 1, 0x0, 0x0, 0x0, 0x0, 0x0, 0x0⟩,
  ⟨"LAST_KIND", 567, 0x28100c, 0x40, 14, 0, 1, 0x0, 0x0, 0x0, 0x0, 0x0, 0x0⟩,
  ⟨"LN_CFG", 604, 0x300000, 0x1000, 24, 0, 1, 0x0, 0x0, 0x0, 0x7ffffff, 0x0, 0x0⟩,
  ⟨"LN_TXEQ", 604, 0x300004, 0x1000, 24, 0, 1, 0x0, 0x0, 0x0, 0xffffffff, 0x0, 0x80200000⟩,
  ⟨"LN_TEST", 604, 0x300008, 0x1000, 24, 0, 1, 0x0, 0x0, 0x0, 0x7ff, 0x0, 0x0⟩,
  ⟨"LN_STATUS", 604, 0x300010, 0x1000, 24, 0, 1, 0x0, 0x0, 0x0, 0x0, 0x0, 0x0⟩,
  ⟨"LN_EVENTS", 604, 0x300014, 0x1000, 24, 0, 1, 0x0, 0x7f, 0x0, 0x0, 0x0, 0x0⟩,
  ⟨"LN_INT_EN", 604, 0x300018, 0x1000, 24, 0, 1, 0x7f, 0x0, 0x0, 0x0, 0x0, 0x0⟩,
  ⟨"LN_SNAP", 604, 0x30001c, 0x1000, 24, 0, 1, 0x0, 0x0, 0x1, 0x0, 0x0, 0x0⟩,
  ⟨"PORT_STATUS", 604, 0x300040, 0x1000, 24, 0, 1, 0x0, 0x0, 0x0, 0x0, 0x0, 0x0⟩,
  ⟨"PORT_CFG", 604, 0x300044, 0x1000, 24, 0, 1, 0x0, 0x0, 0x0, 0xffff, 0x0, 0x1000⟩,
  ⟨"LN_FOM", 604, 0x300080, 0x1000, 24, 0, 1, 0x0, 0x0, 0x0, 0x0, 0x0, 0xffff⟩,
  ⟨"LN_EYE", 604, 0x300084, 0x1000, 24, 0, 1, 0x0, 0x0, 0x0, 0x0, 0x0, 0x3fffffff⟩,
  ⟨"USER_PAT", 604, 0x3000c0, 0x1000, 24, 4, 2, 0x0, 0x0, 0x0, 0xffffffff, 0x0, 0x0⟩,
  ⟨"MOD_CFG", 623, 0x310200, 0x1000, 8, 0, 1, 0x0, 0x0, 0x0, 0x7fffff, 0x0, 0x8⟩,
  ⟨"MOD_STATUS", 623, 0x310210, 0x1000, 8, 0, 1, 0x0, 0x0, 0x0, 0x0, 0x0, 0x0⟩,
  ⟨"MOD_EVENTS", 623, 0x310214, 0x1000, 8, 0, 1, 0x0, 0x7, 0x0, 0x0, 0x0, 0x0⟩,
  ⟨"MOD_INT_EN", 623, 0x310218, 0x1000, 8, 0, 1, 0x7, 0x0, 0x0, 0x0, 0x0, 0x0⟩,
  ⟨"TL_CFG", 605, 0x320000, 0x1000, 2, 0, 1, 0x0, 0x0, 0x0, 0x1f, 0x0, 0x0⟩,
  ⟨"TL_STATUS", 605, 0x320010, 0x1000, 2, 0, 1, 0x0, 0x0, 0x0, 0x0, 0x0, 0x0⟩,
  ⟨"TL_EVENTS", 605, 0x320014, 0x1000, 2, 0, 1, 0x0, 0x1f, 0x0, 0x0, 0x0, 0x0⟩,
  ⟨"TL_INT_EN", 605, 0x320018, 0x1000, 2, 0, 1, 0x1f, 0x0, 0x0, 0x0, 0x0, 0x0⟩,
  ⟨"TL_SNAP", 605, 0x32001c, 0x1000, 2, 0, 1, 0x0, 0x0, 0x1, 0x0, 0x0, 0x0⟩,
  ⟨"TL_MARK_TIME", 605, 0x320040, 0x1000, 2, 4, 2, 0x0, 0x0, 0x0, 0x0, 0x0, 0x0⟩,
  ⟨"TL_MARK_FRAC", 605, 0x320048, 0x1000, 2, 0, 1, 0x0, 0x0, 0x0, 0x0, 0x0, 0x0⟩]
def regDescs6 : List RegDesc := [
  ⟨"TOD_RX", 605, 0x320050, 0x1000, 2, 4, 4, 0x0, 0x0, 0x0, 0x0, 0x0, 0x0⟩,
  ⟨"DPLL_CFG", 648, 0x20000, 0x0, 1, 0, 1, 0x0, 0x0, 0x0, 0x3f, 0x0, 0x10⟩,
  ⟨"DPLL_LIMITS", 648, 0x20004, 0x0, 1, 0, 1, 0x0, 0x0, 0x0, 0xffff, 0x0, 0x785a⟩,
  ⟨"HO_CFG", 648, 0x20008, 0x0, 1, 0, 1, 0x0, 0x0, 0x0, 0xffffffff, 0x0, 0xf0015180⟩,
  ⟨"TIME_CFG", 648, 0x2000c, 0x0, 1, 0, 1, 0x0, 0x0, 0x0, 0xfffff, 0x0, 0x1f40⟩,
  ⟨"DPLL_STATUS", 648, 0x20010, 0x0, 1, 0, 1, 0x0, 0x0, 0x0, 0x0, 0x0, 0xf38⟩,
  ⟨"TIM_EVENTS", 648, 0x20014, 0x0, 1, 0, 1, 0x0, 0x3f, 0x0, 0x0, 0x0, 0x0⟩,
  ⟨"TIM_INT_EN", 648, 0x20018, 0x0, 1, 0, 1, 0x3f, 0x0, 0x0, 0x0, 0x0, 0x0⟩,
  ⟨"TIM_SNAP", 648, 0x2001c, 0x0, 1, 0, 1, 0x0, 0x0, 0x1, 0x0, 0x0, 0x0⟩,
  ⟨"LAST_STEP_PS", 648, 0x20040, 0x0, 1, 0, 1, 0x0, 0x0, 0x0, 0x0, 0x0, 0x0⟩,
  ⟨"DPLL_OFS", 648, 0x20044, 0x0, 1, 0, 1, 0x0, 0x0, 0x0, 0x0, 0x0, 0x0⟩,
  ⟨"HO_OFS", 648, 0x20048, 0x0, 1, 0, 1, 0x0, 0x0, 0x0, 0x0, 0x0, 0x80000000⟩,
  ⟨"HO_ELAPSED", 648, 0x2004c, 0x0, 1, 0, 1, 0x0, 0x0, 0x0, 0x0, 0x0, 0x0⟩,
  ⟨"MF_PHASE", 648, 0x20050, 0x0, 1, 0, 1, 0x0, 0x0, 0x0, 0x0, 0x0, 0x0⟩,
  ⟨"XTAL_TRIM", 648, 0x20054, 0x0, 1, 0, 1, 0x0, 0x0, 0x0, 0xffff, 0x0, 0x0⟩,
  ⟨"TIME_DELAY", 648, 0x20058, 0x0, 1, 0, 1, 0x0, 0x0, 0x0, 0xffff, 0x0, 0x0⟩,
  ⟨"LAST_TIME_ERR", 648, 0x2005c, 0x0, 1, 0, 1, 0x0, 0x0, 0x0, 0x0, 0x0, 0x0⟩,
  ⟨"REF_CFG", 649, 0x20100, 0x20, 7, 0, 1, 0x0, 0x0, 0x0, 0x7fff, 0x0, 0x500⟩,
  ⟨"REF_FREQ", 649, 0x20104, 0x20, 4, 0, 1, 0x0, 0x0, 0x0, 0x3fffffff, 0x0, 0x989680⟩,
  ⟨"REF_STATUS", 649, 0x20108, 0x20, 7, 0, 1, 0x0, 0x0, 0x0, 0x0, 0x0, 0x0⟩,
  ⟨"REF_OFS", 649, 0x2010c, 0x20, 7, 0, 1, 0x0, 0x0, 0x0, 0x0, 0x0, 0x80000000⟩,
  ⟨"FPI_CFG", 649, 0x20200, 0x10, 2, 0, 1, 0x0, 0x0, 0x0, 0xf, 0x0, 0x4⟩,
  ⟨"FPI_STATUS", 649, 0x20204, 0x10, 2, 0, 1, 0x0, 0x0, 0x0, 0x0, 0x0, 0x0⟩,
  ⟨"TCLK_CFG", 649, 0x20240, 0x10, 2, 0, 1, 0x0, 0x0, 0x0, 0x7, 0x0, 0x2⟩,
  ⟨"TCLK_FREQ", 649, 0x20244, 0x10, 2, 0, 1, 0x0, 0x0, 0x0, 0x3fffffff, 0x0, 0x989680⟩,
  ⟨"TCLK_STATUS", 649, 0x20248, 0x10, 2, 0, 1, 0x0, 0x0, 0x0, 0x0, 0x0, 0x1⟩,
  ⟨"FPO_CFG", 649, 0x20280, 0x10, 2, 0, 1, 0x0, 0x0, 0x0, 0x1fff, 0x0, 0x158⟩,
  ⟨"FPO_OFFSET", 649, 0x20284, 0x10, 2, 0, 1, 0x0, 0x0, 0x0, 0xffffffff, 0x0, 0x0⟩,
  ⟨"GAUGE_CFG", 704, 0x30000, 0x0, 1, 0, 1, 0x0, 0x0, 0x0, 0xffffff, 0x0, 0x3e801⟩,
  ⟨"SCAN_MASK", 704, 0x30004, 0x0, 1, 0, 1, 0x0, 0x0, 0x0, 0xffffffff, 0x0, 0xffff0000⟩,
  ⟨"GAUGE_STATUS", 704, 0x30010, 0x0, 1, 0, 1, 0x0, 0x0, 0x0, 0x0, 0x0, 0x0⟩,
  ⟨"GAUGE_EVENTS", 704, 0x30014, 0x0, 1, 0, 1, 0x0, 0x1f, 0x0, 0x0, 0x0, 0x0⟩,
  ⟨"GAUGE_INT_EN", 704, 0x30018, 0x0, 1, 0, 1, 0x1f, 0x0, 0x0, 0x0, 0x0, 0x0⟩,
  ⟨"GAU_SNAP", 704, 0x3001c, 0x0, 1, 0, 1, 0x0, 0x0, 0x1, 0x0, 0x0, 0x0⟩,
  ⟨"RANGE_FLAGS", 704, 0x30040, 0x0, 1, 0, 1, 0x0, 0xffffffff, 0x0, 0x0, 0x0, 0x0⟩,
  ⟨"CH_LIMIT", 704, 0x30400, 0x10, 32, 0, 1, 0x0, 0x0, 0x0, 0x1fff0fff, 0x0, 0xfff0000⟩,
  ⟨"ACC_SUM", 704, 0x30404, 0x10, 32, 0, 1, 0x0, 0x0, 0x0, 0x0, 0x0, 0x0⟩,
  ⟨"ACC_STATUS", 704, 0x30408, 0x10, 32, 0, 1, 0x0, 0x0, 0x0, 0x0, 0x0, 0x0⟩,
  ⟨"MINMAX", 704, 0x3040c, 0x10, 32, 0, 1, 0x0, 0x0, 0x0, 0x0, 0x0, 0xfff⟩,
  ⟨"TAP_CFG", 704, 0x38000, 0x0, 1, 0, 1, 0x0, 0x0, 0x0, 0x3ffff, 0x0, 0x400⟩]
def regDescs7 : List RegDesc := [
  ⟨"TAP_SHIFT", 704, 0x38004, 0x0, 1, 0, 1, 0x0, 0x0, 0x0, 0xffffff, 0x0, 0x555555⟩,
  ⟨"TAP_STATUS", 704, 0x38010, 0x0, 1, 0, 1, 0x0, 0x0, 0x0, 0x0, 0x0, 0x0⟩,
  ⟨"TAP_EVENTS", 704, 0x38014, 0x0, 1, 0, 1, 0x0, 0x3, 0x0, 0x0, 0x0, 0x0⟩,
  ⟨"TAP_INT_EN", 704, 0x38018, 0x0, 1, 0, 1, 0x3, 0x0, 0x0, 0x0, 0x0, 0x0⟩,
  ⟨"TAP_SNAP", 704, 0x3801c, 0x0, 1, 0, 1, 0x0, 0x0, 0x1, 0x0, 0x0, 0x0⟩,
  ⟨"TAP_T0", 704, 0x38040, 0x4, 2, 0, 1, 0x0, 0x0, 0x0, 0x0, 0x0, 0x0⟩,
  ⟨"TAP_RATE", 704, 0x38048, 0x0, 1, 0, 1, 0x0, 0x0, 0x0, 0x0, 0x0, 0x0⟩,
  ⟨"LOG_THRESH", 704, 0x40000, 0x0, 1, 0, 1, 0x1fff, 0x0, 0x0, 0x0, 0x0, 0x1000⟩,
  ⟨"LOG_POP", 704, 0x40004, 0x0, 1, 0, 1, 0x0, 0x0, 0x0, 0x0, 0x1ffff, 0x0⟩,
  ⟨"LOG_STATUS", 704, 0x40010, 0x0, 1, 0, 1, 0x0, 0x0, 0x0, 0x0, 0x0, 0x1⟩,
  ⟨"LOG_EVENTS", 704, 0x40014, 0x0, 1, 0, 1, 0x0, 0x7, 0x0, 0x0, 0x0, 0x0⟩,
  ⟨"LOG_INT_EN", 704, 0x40018, 0x0, 1, 0, 1, 0x7, 0x0, 0x0, 0x0, 0x0, 0x0⟩,
  ⟨"LOG_SNAP", 704, 0x4001c, 0x0, 1, 0, 1, 0x0, 0x0, 0x1, 0x0, 0x0, 0x0⟩,
  ⟨"LOG_TELEM", 704, 0x40040, 0x0, 1, 0, 1, 0x0, 0x0, 0x0, 0xff, 0x0, 0x0⟩,
  ⟨"PERF_SAMPLE_CFG", 723, 0x600000, 0x0, 1, 0, 1, 0x0, 0x0, 0x0, 0x7f, 0x0, 0x30⟩,
  ⟨"LAT_MASK", 723, 0x600004, 0x0, 1, 0, 1, 0x0, 0x0, 0x0, 0xffffffff, 0x0, 0xffffffff⟩,
  ⟨"SAMPLE_SEED", 723, 0x600008, 0x0, 1, 0, 1, 0x0, 0x0, 0x0, 0xffffffff, 0x0, 0x1⟩,
  ⟨"SAMPLE_THRESH", 723, 0x60000c, 0x0, 1, 0, 1, 0x0, 0x0, 0x0, 0x7ff, 0x0, 0x200⟩,
  ⟨"PERF_STATUS", 723, 0x600010, 0x0, 1, 0, 1, 0x0, 0x0, 0x0, 0x0, 0x0, 0x0⟩,
  ⟨"PERF_EVENTS", 723, 0x600014, 0x0, 1, 0, 1, 0x0, 0x7, 0x0, 0x0, 0x0, 0x0⟩,
  ⟨"PERF_INT_EN", 723, 0x600018, 0x0, 1, 0, 1, 0x7, 0x0, 0x0, 0x0, 0x0, 0x0⟩,
  ⟨"PERF_SNAP", 723, 0x60001c, 0x0, 1, 0, 1, 0x0, 0x0, 0x1, 0x0, 0x0, 0x0⟩,
  ⟨"DC_SEL", 723, 0x600040, 0x4, 8, 0, 1, 0x0, 0x0, 0x0, 0x1f, 0x0, 0x0⟩,
  ⟨"LC_SEL", 723, 0x601000, 0x40, 32, 0, 1, 0x0, 0x0, 0x0, 0x1f1f1f1f, 0x0, 0x0⟩,
  ⟨"TEST_STATUS", 744, 0x50010, 0x0, 1, 0, 1, 0x0, 0x0, 0x0, 0x0, 0x0, 0x0⟩,
  ⟨"TEST_EVENTS", 744, 0x50014, 0x0, 1, 0, 1, 0x0, 0x1f, 0x0, 0x0, 0x0, 0x0⟩,
  ⟨"TEST_INT_EN", 744, 0x50018, 0x0, 1, 0, 1, 0x1f, 0x0, 0x0, 0x0, 0x0, 0x0⟩,
  ⟨"TST_SNAP", 744, 0x5001c, 0x0, 1, 0, 1, 0x0, 0x0, 0x1, 0x0, 0x0, 0x0⟩,
  ⟨"DEVICE_UID", 744, 0x50040, 0x4, 4, 0, 1, 0x0, 0x0, 0x0, 0x0, 0x0, 0x0⟩,
  ⟨"ROOT_KCV", 744, 0x50050, 0x0, 1, 0, 1, 0x0, 0x0, 0x0, 0x0, 0x0, 0x0⟩,
  ⟨"ST_RESULT", 744, 0x50060, 0x0, 1, 0, 1, 0x0, 0x0, 0x0, 0x0, 0x0, 0x0⟩,
  ⟨"FI_STATE", 744, 0x50200, 0x20, 8, 0, 1, 0x0, 0x0, 0x0, 0x0, 0x0, 0x0⟩,
  ⟨"PWR_CFG", 766, 0x60000, 0x0, 1, 0, 1, 0x0, 0x0, 0x0, 0x3fffffff, 0x0, 0x3ee9c180⟩,
  ⟨"PWR_STATUS", 766, 0x60010, 0x0, 1, 0, 1, 0x0, 0x0, 0x0, 0x0, 0x0, 0x40bbad0⟩,
  ⟨"PWR_EVENTS", 766, 0x60014, 0x0, 1, 0, 1, 0x0, 0x1f, 0x0, 0x0, 0x0, 0x0⟩,
  ⟨"PWR_INT_EN", 766, 0x60018, 0x0, 1, 0, 1, 0x1f, 0x0, 0x0, 0x0, 0x0, 0x0⟩,
  ⟨"PWR_SNAP", 766, 0x6001c, 0x0, 1, 0, 1, 0x0, 0x0, 0x1, 0x0, 0x0, 0x0⟩,
  ⟨"RST_CAUSE", 766, 0x60040, 0x0, 1, 0, 1, 0x0, 0x0, 0x0, 0x0, 0x0, 0x1⟩,
  ⟨"FW_STATUS", 766, 0x60044, 0x0, 1, 0, 1, 0x0, 0x0, 0x0, 0x0, 0x0, 0x0⟩,
  ⟨"FW_VERSION", 766, 0x60048, 0x0, 1, 0, 1, 0x0, 0x0, 0x0, 0x0, 0x0, 0x0⟩]
def regDescs8 : List RegDesc := [
  ⟨"FW_READY_MS", 766, 0x6004c, 0x0, 1, 0, 1, 0x0, 0x0, 0x0, 0x0, 0x0, 0x0⟩,
  ⟨"DPD_CURVE", 294, 0x150800, 0x100, 4, 4, 16, 0x0, 0x0, 0x0, 0x1fff1fff, 0x0, 0x0⟩,
  ⟨"MOD_CURVE", 624, 0x310400, 0x1000, 8, 4, 16, 0x0, 0x0, 0x0, 0x1fff1fff, 0x0, 0x0⟩]
/-- Every register word of the map that is not a counter, a shadow, a mailbox window or the log window. -/
def regDescs : List RegDesc := regDescs0 ++ regDescs1 ++ regDescs2 ++ regDescs3 ++ regDescs4 ++ regDescs5 ++ regDescs6 ++ regDescs7 ++ regDescs8

/-! Reset values. The registers with one reset value other than 0 for all their words, as (base, stride, n, sub, m, reset value), are listed page by
page of the map. -/

/-- Reset rows of the words below 0x12000. -/
def resetRows12000 : List (Nat × Nat × Nat × Nat × Nat × Nat) := [
  (0x0, 0x0, 1, 0, 1, 0x24160b00),
  (0x110, 0x0, 1, 0, 1, 0x8000000),
  (0x114, 0x0, 1, 0, 1, 0x64),
  (0x124, 0x0, 1, 0, 1, 0x40),
  (0x210, 0x0, 1, 0, 1, 0x6)]

/-- Reset rows of the words below 0x20000. -/
def resetRows20000 : List (Nat × Nat × Nat × Nat × Nat × Nat) := [
  (0x12060, 0x0, 1, 0, 1, 0x1010101),
  (0x12064, 0x0, 1, 0, 1, 0x1)]

/-- Reset rows of the words below 0x20100. -/
def resetRows20100 : List (Nat × Nat × Nat × Nat × Nat × Nat) := [
  (0x20000, 0x0, 1, 0, 1, 0x10),
  (0x20004, 0x0, 1, 0, 1, 0x785a),
  (0x20008, 0x0, 1, 0, 1, 0xf0015180),
  (0x2000c, 0x0, 1, 0, 1, 0x1f40),
  (0x20010, 0x0, 1, 0, 1, 0xf38),
  (0x20048, 0x0, 1, 0, 1, 0x80000000)]

/-- Reset rows of the words below 0x30000. -/
def resetRows30000 : List (Nat × Nat × Nat × Nat × Nat × Nat) := [
  (0x20100, 0x20, 7, 0, 1, 0x500),
  (0x20104, 0x20, 4, 0, 1, 0x989680),
  (0x2010c, 0x20, 7, 0, 1, 0x80000000),
  (0x20200, 0x10, 2, 0, 1, 0x4),
  (0x20240, 0x10, 2, 0, 1, 0x2),
  (0x20244, 0x10, 2, 0, 1, 0x989680),
  (0x20248, 0x10, 2, 0, 1, 0x1),
  (0x20280, 0x10, 2, 0, 1, 0x158)]

/-- Reset rows of the words below 0x38000. -/
def resetRows38000 : List (Nat × Nat × Nat × Nat × Nat × Nat) := [
  (0x30000, 0x0, 1, 0, 1, 0x3e801),
  (0x30004, 0x0, 1, 0, 1, 0xffff0000),
  (0x30400, 0x10, 32, 0, 1, 0xfff0000),
  (0x3040c, 0x10, 32, 0, 1, 0xfff)]

/-- Reset rows of the words below 0x60000. -/
def resetRows60000 : List (Nat × Nat × Nat × Nat × Nat × Nat) := [
  (0x38000, 0x0, 1, 0, 1, 0x400),
  (0x38004, 0x0, 1, 0, 1, 0x555555),
  (0x40000, 0x0, 1, 0, 1, 0x1000),
  (0x40010, 0x0, 1, 0, 1, 0x1)]

/-- Reset rows of the words below 0x100000. -/
def resetRows100000 : List (Nat × Nat × Nat × Nat × Nat × Nat) := [
  (0x60000, 0x0, 1, 0, 1, 0x3ee9c180),
  (0x60010, 0x0, 1, 0, 1, 0x40bbad0),
  (0x60040, 0x0, 1, 0, 1, 0x1)]

/-- Reset rows of the words below 0x104000. -/
def resetRows104000 : List (Nat × Nat × Nat × Nat × Nat × Nat) := [
  (0x100000, 0x1000, 4, 0, 1, 0x1),
  (0x100004, 0x1000, 4, 0, 1, 0xa0c01),
  (0x100008, 0x1000, 4, 0, 1, 0x64),
  (0x100010, 0x1000, 4, 0, 1, 0x7f0000)]

/-- Reset rows of the words below 0x110000. -/
def resetRows110000 : List (Nat × Nat × Nat × Nat × Nat × Nat) := [
  (0x104000, 0x1000, 4, 0, 1, 0x1e),
  (0x104010, 0x1000, 4, 0, 1, 0x8)]

/-- Reset rows of the words below 0x120000. -/
def resetRows120000 : List (Nat × Nat × Nat × Nat × Nat × Nat) := [
  (0x110000, 0x0, 1, 0, 1, 0x258fda8),
  (0x110004, 0x0, 1, 0, 1, 0x401f4),
  (0x110008, 0x0, 1, 0, 1, 0x280834),
  (0x110010, 0x0, 1, 0, 1, 0x20),
  (0x110048, 0x0, 1, 0, 1, 0xffff)]

/-- Reset rows of the words below 0x130000. -/
def resetRows130000 : List (Nat × Nat × Nat × Nat × Nat × Nat) := [
  (0x120000, 0x800, 32, 0, 1, 0x350),
  (0x120004, 0x800, 32, 0, 1, 0x3e8050a),
  (0x120010, 0x800, 32, 0, 1, 0xa81),
  (0x120040, 0x800, 32, 0, 1, 0xffffffff),
  (0x120044, 0x800, 32, 0, 1, 0xffffffff),
  (0x120048, 0x800, 32, 0, 1, 0x80000000),
  (0x12004c, 0x800, 32, 0, 1, 0xffffffff),
  (0x120050, 0x800, 32, 0, 1, 0x80000000),
  (0x120054, 0x800, 32, 0, 1, 0xffffffff),
  (0x120058, 0x800, 32, 0, 1, 0x8000)]

/-- Reset rows of the words below 0x150000. -/
def resetRows150000 : List (Nat × Nat × Nat × Nat × Nat × Nat) := [
  (0x140000, 0x0, 1, 0, 1, 0x861020),
  (0x140008, 0x0, 1, 0, 1, 0x2ee03e8),
  (0x14000c, 0x0, 1, 0, 1, 0x430208),
  (0x140040, 0x0, 1, 0, 1, 0x4010)]

/-- Reset rows of the words below 0x160000. -/
def resetRows160000 : List (Nat × Nat × Nat × Nat × Nat × Nat) := [
  (0x150000, 0x0, 1, 0, 1, 0x5),
  (0x150004, 0x0, 1, 0, 1, 0x18),
  (0x150008, 0x0, 1, 0, 1, 0x840400),
  (0x150010, 0x0, 1, 0, 1, 0x15),
  (0x15020c, 0x20, 4, 0, 1, 0x4000000),
  (0x150400, 0x10, 32, 0, 1, 0x350),
  (0x150404, 0x10, 32, 0, 1, 0x54)]

/-- Reset rows of the words below 0x170000. -/
def resetRows170000 : List (Nat × Nat × Nat × Nat × Nat × Nat) := [
  (0x160000, 0x0, 1, 0, 1, 0x4c),
  (0x160004, 0x0, 1, 0, 1, 0x33801),
  (0x160008, 0x0, 1, 0, 1, 0x28f5c29),
  (0x161000, 0x200, 32, 0, 1, 0x14)]

/-- Reset rows of the words below 0x180000. -/
def resetRows180000 : List (Nat × Nat × Nat × Nat × Nat × Nat) := [
  (0x170000, 0x0, 1, 0, 1, 0x962585),
  (0x170008, 0x0, 1, 0, 1, 0xc000c),
  (0x17000c, 0x0, 1, 0, 1, 0x12c00),
  (0x170010, 0x0, 1, 0, 1, 0x20000),
  (0x171000, 0x200, 32, 0, 1, 0x1e)]

/-- Reset rows of the words below 0x200000. -/
def resetRows200000 : List (Nat × Nat × Nat × Nat × Nat × Nat) := [
  (0x180208, 0x10, 16, 0, 1, 0x80000000),
  (0x1a2000, 0x40, 256, 0, 1, 0x8),
  (0x1b0008, 0x20, 1024, 0, 1, 0x10000000)]

/-- Reset rows of the words below 0x240000. -/
def resetRows240000 : List (Nat × Nat × Nat × Nat × Nat × Nat) := [
  (0x200000, 0x0, 1, 0, 1, 0x2580),
  (0x200004, 0x0, 1, 0, 1, 0x17c112b5),
  (0x200008, 0x0, 1, 0, 1, 0xffffffff),
  (0x20000c, 0x0, 1, 0, 1, 0x4000)]

/-- Reset rows of the words below 0x300000. -/
def resetRows300000 : List (Nat × Nat × Nat × Nat × Nat × Nat) := [
  (0x240000, 0x0, 1, 0, 1, 0x2000),
  (0x248000, 0x10, 2048, 0, 1, 0x400001),
  (0x241000, 0x10, 64, 0, 1, 0x400)]

/-- Reset rows of the words below 0x400000. -/
def resetRows400000 : List (Nat × Nat × Nat × Nat × Nat × Nat) := [
  (0x300004, 0x1000, 24, 0, 1, 0x80200000),
  (0x300044, 0x1000, 24, 0, 1, 0x1000),
  (0x300080, 0x1000, 24, 0, 1, 0xffff),
  (0x300084, 0x1000, 24, 0, 1, 0x3fffffff)]

/-- Reset rows of the words below 0x480000. -/
def resetRows480000 : List (Nat × Nat × Nat × Nat × Nat × Nat) := [
  (0x400040, 0x400, 256, 0, 1, 0x2402000),
  (0x400048, 0x400, 256, 0, 1, 0x20000000),
  (0x4000c4, 0x400, 256, 0, 1, 0x20000),
  (0x400200, 0x400, 256, 0, 1, 0x1)]

/-- Reset rows of the words below 0x580000. -/
def resetRows580000 : List (Nat × Nat × Nat × Nat × Nat × Nat) := [
  (0x480004, 0x40, 1024, 0, 1, 0x400000),
  (0x48001c, 0x40, 1024, 0, 1, 0x8000),
  (0x480020, 0x40, 1024, 0, 1, 0xffff)]

/-- Reset rows of the words below 0x800000. -/
def resetRows800000 : List (Nat × Nat × Nat × Nat × Nat × Nat) := [
  (0x580000, 0x0, 1, 0, 1, 0x800),
  (0x600000, 0x0, 1, 0, 1, 0x30),
  (0x600004, 0x0, 1, 0, 1, 0xffffffff),
  (0x600008, 0x0, 1, 0, 1, 0x1),
  (0x60000c, 0x0, 1, 0, 1, 0x200)]

/-- The reset rows of the page that holds address `a`. -/
def resetPage (a : Nat) : List (Nat × Nat × Nat × Nat × Nat × Nat) :=
  if a < 0x130000 then
    if a < 0x38000 then
      if a < 0x20000 then
        if a < 0x12000 then
          resetRows12000
        else
          resetRows20000
      else
        if a < 0x20100 then
          resetRows20100
        else
          if a < 0x30000 then
            resetRows30000
          else
            resetRows38000
    else
      if a < 0x104000 then
        if a < 0x60000 then
          resetRows60000
        else
          if a < 0x100000 then
            resetRows100000
          else
            resetRows104000
      else
        if a < 0x110000 then
          resetRows110000
        else
          if a < 0x120000 then
            resetRows120000
          else
            resetRows130000
  else
    if a < 0x200000 then
      if a < 0x160000 then
        if a < 0x150000 then
          resetRows150000
        else
          resetRows160000
      else
        if a < 0x170000 then
          resetRows170000
        else
          if a < 0x180000 then
            resetRows180000
          else
            resetRows200000
    else
      if a < 0x400000 then
        if a < 0x240000 then
          resetRows240000
        else
          if a < 0x300000 then
            resetRows300000
          else
            resetRows400000
      else
        if a < 0x480000 then
          resetRows480000
        else
          if a < 0x580000 then
            resetRows580000
          else
            resetRows800000

/-- Row g of the reset routes of R793: VECTOR, MSIX_EN, PIN_INT and PIN_ALARM of INT_ROUTE_g. -/
def routeReset (g : Nat) : Nat :=
  if g = 0 then 0x40
  else if g = 20 then 0x88
  else if g ≤ 19 then 7 + g + 0x60
  else if g ≤ 25 then 6 + g + 0x60
  else 0

/-- Word `j` of an identity pre-distortion curve: y_i = 128 i (R268, R294, R624). -/
def curveReset (j : Nat) : Nat := 128 * (2 * j + 1) + 128 * (2 * j + 2) * 0x10000

/-- Whether address `a` is a word of the array (base, stride, n, sub, m). -/
def inArray (base stride n sub m a : Nat) : Bool :=
  base ≤ a &&
    (if stride = 0 then
      (if sub = 0 then a = base else (a - base) % sub = 0 && (a - base) / sub < m)
    else
      (a - base) / stride < n &&
        (if sub = 0 then (a - base) % stride = 0
         else (a - base) % stride % sub = 0 && (a - base) % stride / sub < m))

/-- The reset value of the row that covers `a`, 0 where none does. -/
def findReset : List (Nat × Nat × Nat × Nat × Nat × Nat) → Nat → Nat
  | [], _ => 0
  | (base, stride, n, sub, m, v) :: rest, a => if inArray base stride n sub m a then v else findReset rest a

/-- What a register word that nothing has changed holds: the Reset column of the register tables; 0 wherever no table gives one.
The MSI-X vector-control words start masked, as PCIe 3.0 has them (PRESUMED, log entry 4). -/
def resetWord (a : Nat) : BitVec 32 :=
  BitVec.ofNat 32 <|
    if a < 0x2000 then
      (if 0x300 ≤ a && a < 0x400 then routeReset ((a - 0x300) / 4)
       else if 0x1000 ≤ a && a < 0x1200 then (if a % 16 = 12 then 1 else 0)
       else findReset (resetPage a) a)
    else if 0x100000 ≤ a && a < 0x104000 && inArray 0x100080 0x1000 4 4 17 a then (if a % 0x1000 = 0xC0 then 0x80 else 0x80808080)
    else if 0x150800 ≤ a && a < 0x151000 && inArray 0x150800 0x100 4 4 16 a then curveReset (a % 0x100 / 4)
    else if 0x281000 ≤ a then
      (if inArray 0x500000 0x1000 32 0 1 a then (if a < 0x502000 then 3 else 1)
       else if inArray 0x281040 0x40 13 0 1 a then
         (let m := (a - 0x281000) / 0x40
          if m = 1 then 1000 else if m = 8 then 10 else if m = 13 then 0 else 100)
       else if inArray 0x310200 0x1000 8 0 1 a then (a - 0x310200) / 0x1000 + 8
       else if inArray 0x310400 0x1000 8 4 16 a then curveReset (a % 0x100 / 4)
       else findReset (resetPage a) a)
    else findReset (resetPage a) a

/-- The descriptor of the register word at `a`, when a chapter assigns one. -/
def findDesc : List RegDesc → Nat → Option RegDesc
  | [], _ => none
  | d :: rest, a => if inArray d.base d.stride d.n d.sub d.m a then some d else findDesc rest a

/-- The counter word of the map at `a`: the counter, its instance and word, when `a` is the (LO) word of a counter. -/
def findCtr : List Ctr → Nat → Option Ctr
  | [], _ => none
  | c :: rest, a => if inArray c.base c.stride c.n c.sub c.m a then some c else findCtr rest a

end Sys2Proof.Machine
end

