-- ==== Sys2Proof/Machine/Tab.lean ====
section
/-! DEFINITION. Sparse tables: key and value pairs in one canonical form, keys strictly rising and no entry equal to the
value an unlisted key reads as. Every indexed kind of state that is not a handful of fields is one of these. -/

namespace Sys2Proof.Machine

/-- A sparse table from natural keys. What an unlisted key reads as is passed to `tget` and `tput`. -/
abbrev Tab (α : Type) := List (Nat × α)

/-- The value of key `k`; `d` where the table lists none. -/
def tget {α : Type} (d : α) : Tab α → Nat → α
  | [], _ => d
  | (k', v) :: t, k => if k' = k then v else tget d t k

/-- Insert an entry before the first larger key. -/
def tins {α : Type} (k : Nat) (v : α) : Tab α → Tab α
  | [] => [(k, v)]
  | (k', v') :: t => if k < k' then (k, v) :: (k', v') :: t else (k', v') :: tins k v t

/-- Remove every entry of key `k`. -/
def tdel {α : Type} (k : Nat) : Tab α → Tab α
  | [] => []
  | (k', v) :: t => if k' = k then tdel k t else (k', v) :: tdel k t

/-- Give key `k` the value `v`; the entry goes when `v` is what an unlisted key reads as. -/
def tput {α : Type} [DecidableEq α] (d : α) (t : Tab α) (k : Nat) (v : α) : Tab α :=
  if v = d then tdel k t else tins k v (tdel k t)

/-- The canonical form, where unlisted key `k` reads as `d k`. -/
def Tab.Wf {α : Type} (d : Nat → α) (t : Tab α) : Prop :=
  List.Pairwise (fun a b : Nat × α => a.1 < b.1) t ∧ ∀ e ∈ t, e.2 ≠ d e.1

end Sys2Proof.Machine
end

