-- ==== Sys2Proof/Machine/State.lean ====
section
/-! DEFINITION. The state of the TP2416: plain data, every register, buffer, table, timer and pin that the manual gives it, the queue of
waiting commands, and the state after reset. Register words are held by their BAR0 address (R788); what is not a register has a
field of its own here. -/

namespace Sys2Proof.Machine

/-- Why the machine stops. No command of this model stops it: the constructor is there because the interface asks for a type. -/
inductive Fault where
  /-- Raised by nothing. Safe. -/
  | unused
  deriving DecidableEq, Repr

/-- Why a command is refused. -/
inductive Refusal where
  /-- The command has no meaning in this model yet; raised by the arms of Dispatch alone. Safe. -/
  | notModelled (mnemonic : String)
  deriving DecidableEq, Repr

/-- One host interface (R652–R656): its HI capture and the last data word it returned. For MDIO also the MMD 30 window. -/
structure IfState where
  /-- The pair whose HI words are captured: address of the LO word, and the captured words by address (R654). -/
  capture : Option (Nat × List (Nat × Word)) := none
  /-- The words of the last read access on this interface, in address order: what the host sees. -/
  rdata : List Word := []
  /-- The completion of the last read access carried the EP bit of PCIe (R556). -/
  ep : Bool := false
  mdioAddr : Word := 0
  mdioData : Word := 0
  mdioAutoinc : Bool := false
  deriving DecidableEq, Repr

/-- What a mailbox is doing: PENDING is every phase but `idle` (R658). -/
inductive MbPhase where
  | idle
  /-- Rung before firmware ready, not taken yet (R659). -/
  | waiting
  /-- Taken by Omrek, its checks of R661 passed. -/
  | taken
  /-- Carried out, to be answered later ("sent when done", R660). -/
  | running
  deriving DecidableEq, Repr

/-- A kind of object that a transaction locks (R664). -/
inductive ObjKind where
  | latency | modeLock | loopInst | gpio | optics | gauge | tap | telem | perf | power | intRoute | rxLine | txLine | fec | framer
  | prot | tsi | rillLane | lane | tlane | furrow | txFurrow | dac | conv | leaf | burst | turnout | intake | deepLook
  | ternary | headgate | controlQueue | policer | engImage | engine | lateral | ctx | timing | refIn | timOut | mem | gaugeCh | lateralPerf
  deriving DecidableEq, Repr

/-- A locked object: its kind and index. -/
abbrev Obj := ObjKind × Nat

/-- One staged command of a transaction: its opcode and its request payload (R664, R666). -/
structure Staged where
  op : Nat
  payload : List Byte
  /-- What the command worked out when it was staged: the values its payload only describes. -/
  extra : List Byte := []
  deriving DecidableEq, Repr

/-- The transaction state of a mailbox (R663–R672, TXN_STATUS of R680). -/
structure Txn where
  /-- 0 none, 1 open, 2 committing, 3 last committed, 4 last rolled back. -/
  state : Nat := 0
  id : Word := 0
  staged : List Staged := []
  locks : List Obj := []
  /-- Elapsed time at which Omrek last took a command of the mailbox (R667). -/
  lastCmd : Nat := 0
  reason : Nat := 0
  index : Nat := 0
  /-- MFN returned by the last TXN_COMMIT answered OK. -/
  lastMfn : Word := 0xFFFFFFFF
  /-- Elapsed time at which the commit was accepted. -/
  acceptedAt : Nat := 0
  /-- Order of acceptance among commits (R670). -/
  order : Nat := 0
  /-- The boundary has passed: its MFN and device time (R672). -/
  boundary : Option (Word × Nat × Nat) := none
  deriving DecidableEq, Repr

/-- One mailbox: its window words (R657) and what it is doing. -/
structure Mailbox where
  words : Tab Word := []
  phase : MbPhase := .idle
  owner : Iface := .pcie
  txn : Txn := {}
  deriving DecidableEq, Repr

/-- One drain-log record (R697, R705): type, device time in thirteenths of a nanosecond, payload bytes; when it entered its queue (R696). -/
structure LogRec where
  type : Nat
  time : Nat
  data : List Byte
  entered : Nat := 0
  deriving DecidableEq, Repr

/-- The drain log (R696–R702): the writer queue of each writing block, the block served last and when the writer was free again, the records held oldest
first with their SEQ. -/
structure LogState where
  queues : Tab (List LogRec) := []
  last : Nat := 29
  freeAt : Nat := 0
  held : List (Nat × LogRec) := []
  seq : Nat := 0
  /-- LOG_EVENTS.THRESH may set again (R701). -/
  armed : Bool := true
  /-- The counters that TELEMETRY reports by the period, as they stood at the last record, less what has been read away since; by address. -/
  telemBase : Tab Int := []
  deriving DecidableEq, Repr

/-- An MSI-X message sent (R796): vector, address and data of its table entry. -/
structure MsixMsg where
  vector : Nat
  addrLo : Word
  addrHi : Word
  data : Word
  deriving DecidableEq, Repr

/-- The MSI-X capability and the messages sent so far, oldest first (R655, R796). -/
structure MsixState where
  enable : Bool := false
  functionMask : Bool := false
  pba : BitVec 32 := 0
  sent : List MsixMsg := []
  deriving DecidableEq, Repr

/-- A running quench (R51): when it started and the timeout in force then, in thirteenths of a nanosecond. -/
structure Quench where
  start : Nat
  timeout : Nat
  /-- An enable committed while STOPPING (R55). -/
  reenable : Bool := false
  /-- The object only changes its role: a lane keeps its adaptation (R81, R82). -/
  keeps : Bool := false
  deriving DecidableEq, Repr

/-- A change of mode that runs (R81): its commit boundary, the mode and profile before, when step 3 was done, when step 5 began. -/
structure ModeChange where
  t0 : Nat
  oldMode : Nat
  oldProf : Nat
  gatedAt : Option Nat := none
  step5 : Option Nat := none
  deriving DecidableEq, Repr

/-- A clamp episode of a loop instance (R87, R88): its direction, and since when the target has stayed within bounds. -/
structure Clamp where
  dir : Nat
  inBounds : Option Nat := none
  deriving DecidableEq, Repr

/-- Modes, loops and quenches of the device (chapters 01 and 02). -/
structure SysState where
  /-- The coherent blocks are held in reset with their clocks stopped (R43, R618, R762). -/
  gated : Bool := false
  /-- What the status words of held blocks showed and show again once the blocks run (log entry 80). -/
  shelf : Tab Word := []
  change : Option ModeChange := none
  /-- Committed bounds of a loop instance, keyed 64 × LOOP + instance, where they differ from the defaults of R85. -/
  bounds : Tab (Option (Int × Int)) := []
  /-- The gain of the AGC of an instance of loop 2, 0.1 dB. -/
  agc : Tab Int := []
  clamps : Tab (Option Clamp) := []
  /-- Running quenches, keyed 4096 × object kind of R54 + index; transmit furrows are kind 3, index 32 + f. -/
  quench : Tab (Option Quench) := []
  deriving DecidableEq, Repr

/-- A background calibration step (R107): its start, the position it calibrates, and the corrections of an armed swap. -/
structure CalStep where
  t0 : Nat
  pos : Nat
  staged : Option SliceCal := none
  deriving DecidableEq, Repr

/-- A change of an ADC that waits for the next local frame boundary (R105): the SLICE_MAP bytes, the spare, and after a foreground calibration the
corrections by slice and the tap trims. -/
structure AdcChange where
  map : List Nat
  spare : Option Nat
  found : Option (List (Nat × SliceCal) × List Int) := none
  deriving DecidableEq, Repr

/-- The hidden state of one ADC (R102–R123): corrections per slice and per tap, the step, the failures of the spare in a row, the frames
without overload in a row, the swaps left of a requested rotation, the start of the last step, a change that waits for its boundary. -/
structure AdcState where
  slices : Tab SliceCal := []
  taps : Tab Int := []
  step : Option CalStep := none
  failRun : Nat := 0
  cleanFrames : Nat := 0
  rotLeft : Option Nat := none
  lastT0 : Nat := 0
  change : Option AdcChange := none
  deriving DecidableEq, Repr

/-- A foreground calibration (R117–R120): converters named, when it started, the mailbox it answers if the host asked for it. -/
structure FgCal where
  adcMask : Nat
  dacMask : Nat
  start : Nat
  mb : Option Nat
  deriving DecidableEq, Repr

/-- The line converters (R100–R144): the ADCs, the sub-DAC trims of each DAC, the foreground calibration that runs. -/
structure ConvState where
  adcs : Tab AdcState := []
  dacTrims : Tab (List Int) := []
  fg : Option FgCal := none
  deriving DecidableEq, Repr

/-- A modulation request that waits for its switch multiframe (R178). -/
structure AdaptReq where
  target : Nat
  sentMfn : Nat
  switchMfn : Nat
  confirmed : Bool := false
  deriving DecidableEq, Repr

/-- What the receive DSP holds of a furrow beyond its registers (R161–R180): the acquisition step 1 to 6 (0 none), when the step and the
acquisition began, whether steps 3 to 5 were repeated, whether it is a fast re-acquisition and when its loss came, the stored dispersion and
coarse frequency, the pending request, since when a step up has been possible, until when no request is sent, the device time of the
last figures, the rills shed. -/
structure FurrowRx where
  step : Nat := 0
  stepAt : Nat := 0
  t0 : Nat := 0
  repeated : Bool := false
  fast : Bool := false
  lossAt : Nat := 0
  cd : Int := 0
  freq : Int := 0
  pending : Option AdaptReq := none
  upSince : Option Nat := none
  quietUntil : Nat := 0
  updatedAt : Nat := 0
  agcAt : Nat := 0
  deriving DecidableEq, Repr

/-- The receive line (R149, R160–R174): the step of a line-wide acquisition (0 none), its start, the furthest step, whether it is a full one, the
dispersion that the line acquisition found (ps/nm), the frames in a row above LOS_THR, the multiframes since the figures were updated. -/
structure RxState where
  furrows : Tab FurrowRx := []
  step : Nat := 0
  stepAt : Nat := 0
  t0 : Nat := 0
  full : Bool := false
  cd : Int := 0
  aboveRun : Nat := 0
  mfCount : Nat := 0
  deriving DecidableEq, Repr

/-- A grant (R212): the upstream multiframe, TYPE, LEAF, FURROW, START and LEN. -/
structure Grant where
  mf : Nat
  type : Nat
  leaf : Nat
  furrow : Nat
  start : Nat
  len : Nat
  deriving DecidableEq, Repr

/-- A preamble detection on a furrow: the upstream multiframe in which the burst began, the arrival of its first preamble symbol from the grid start
(symbols), its power (0.1 dB), its AFC estimate (MHz), the elapsed time of the detection. -/
structure Detection where
  mf : Nat
  pos : Int
  power : Int
  afc : Int
  at_ : Nat
  deriving DecidableEq, Repr

/-- An accepted burst in the main path: TYPE, leaf (0xFFFF where a survey burst gave no entry), its codewords and how many are still to be decoded,
whether one was uncorrectable, the arrival error e (1/16 symbol), RSSI, the taps and the dispersion (10 ps/nm) that the equaliser and the bulk
stage started from (R221). -/
structure Accepted where
  type : Nat
  leaf : Nat
  cw : Nat
  left : Nat
  bad : Bool := false
  e : Int
  rssi : Int
  seed : List Byte := []
  cd : Int := 0
  deriving DecidableEq, Repr

/-- What a burst that has left the main path leaves until its last codeword is decoded; of one that ended there, its final taps and residual
dispersion (10 ps/nm). -/
structure BurstTail where
  acc : Accepted
  final : Option (List Byte × Int) := none
  deriving DecidableEq, Repr

/-- The burst receiver of one shared furrow (R216–R224): main path, the RSSI of the burst there once its header has been judged, whether it has
been, the accepted burst, the shadow's detection, the bursts that have left with codewords still in the decoder, oldest first. -/
structure BurstPath where
  main : Option Detection := none
  rssi : Option Int := none
  judged : Bool := false
  acc : Option Accepted := none
  shadow : Option Detection := none
  tails : List BurstTail := []
  deriving DecidableEq, Repr

/-- A leaf table entry beyond its registers: provisioned by the host, CD_HINT (10 ps/nm), the equaliser seed (144 bytes, none: identity) and
when it was written back, ranging grants missed in a row, the multiframes at which ROGUE rose, whether a host lockout holds (R371), the
multiframes for which LEAF_ASSIGN is still repeated, the code of the host's switch that waits for the boundary (0 none; 0xD and 0x7 in, 0x6 and 0xF
out). -/
structure LeafInfo where
  provisioned : Bool := false
  cdHint : Int := 0
  seed : Option (List Byte) := none
  seedAt : Nat := 0
  rangeMisses : Nat := 0
  rogues : List Nat := []
  lockout : Bool := false
  assignLeft : Nat := 0
  switch_ : Nat := 0
  /-- The group whose survey furrow heard the leaf. -/
  group : Nat := 0
  /-- A switch-in waits for its ranging burst (R237). -/
  awaiting : Bool := false
  /-- Multiframe of the last ranging grant of a RANGED leaf. -/
  lastRange : Option Nat := none
  deriving DecidableEq, Repr

/-- The hub's burst receiver and leaf management (R199–R237). -/
structure BurstState where
  paths : Tab BurstPath := []
  leaves : Tab LeafInfo := []
  /-- Grants sent whose bursts have not been judged yet. -/
  grants : List Grant := []
  /-- The map built for the next downstream multiframe, if it is ready. -/
  built : Option (List Grant) := none
  /-- The map sent in the present multiframe. -/
  sent : List Grant := []
  /-- TYPE 2 grants deferred to the next map (leaf numbers). -/
  deferred : List Nat := []
  /-- Multiframes since the last survey window. -/
  sinceSurvey : Nat := 0
  /-- The multiframe whose map has been sent. -/
  mapFor : Option Nat := none
  /-- Survey windows whose quiet interval has not passed. -/
  windows : List Grant := []
  /-- Management messages that wait, and those sent in the present multiframe, by group. -/
  mgmt : Tab (List (List Byte)) := []
  mgmtSent : Tab (List (List Byte)) := []
  deriving DecidableEq, Repr

/-- A symbol as its levels XI, XQ, YI and YQ and the mean energy of its constellation at those levels, for each polarisation, in 1/64: a level l
stands for the amplitude l × 8/√energy, so that the mean energy of a symbol is 1 (R255). -/
structure Sym where
  xi : Int
  xq : Int
  yi : Int
  yq : Int
  energy : Nat := 128
  deriving DecidableEq, Repr

/-- A burst that the leaf has sent (R207, R275–R277): its grant, the back-off slot, the elapsed time at which its first symbol leaves, in
1/(8 × furrow rate in MBd) of the clock's unit, the centre of its furrow in 5 kHz, header and symbols, the elapsed times from which and to which TX_GATE
is on. -/
structure SentBurst where
  grant : Grant
  slot : Nat
  start : Int
  centre : Int
  header : BitVec 128
  symbols : List Sym
  gate : Int × Int
  deriving DecidableEq, Repr

/-- The device as a leaf (R226–R238, R275–R279): grants held for upstream multiframes, updates that wait for theirs (upstream multiframe,
EQD, FREQ_CORR), windows to let pass and the multiframe of the last survey burst, the last multiframe with a grant that names it, GUARD_NS of the
last SURVEY_PARAMS, the furrows on which it is granted bursts, the last burst sent, a multiframe and the elapsed time of the leaf's boundary of it. -/
structure LeafSelf where
  grants : List Grant := []
  updates : List (Nat × Option Nat × Option Int) := []
  waitWindows : Nat := 0
  surveyedAt : Option Nat := none
  lastNamed : Nat := 0
  guardNs : Option Nat := none
  burstMask : Nat := 0
  sent : Option SentBurst := none
  seq : Nat := 0
  boundary : Option (Nat × Nat) := none
  deriving DecidableEq, Repr

/-- A level measurement that the hub runs on a leaf (R270): its mailbox, the leaf, the bursts asked for, its start, the bursts used, and for XI, XQ, YI
and YQ the sums of their means m_0 and m_1. -/
structure LevelMeasure where
  mb : Nat
  leaf : Nat
  n : Nat
  start : Nat
  used : Nat := 0
  sums : List (Nat × Nat) := [(0, 0), (0, 0), (0, 0), (0, 0)]
  deriving DecidableEq, Repr

/-- The transmit chain of a furrow (R297–R308, R339–R347): the scrambler, the rate and cycle index of the next codeword, scrambled Flume bits that wait for their
codeword, coded bits that wait for the mapper, the multiframes whose symbols wait (symbols and entropy), the coded bits ahead of the first codeword of
a new rate, the Flume frame sent last, before scrambling, the multiframe mapped last; in an interoperability mode what its coding keeps from frame to frame
(R261). -/
structure TxLine where
  scrambler : Nat := 0x7FFFFFFF
  sel : Nat := 0
  cycle : Nat := 0
  flume : List Bool := []
  coded : List Bool := []
  waiting : List (Nat × Nat) := []
  change : Option Nat := none
  frame : List Bool := []
  symbols : List Sym := []
  interop : Option (List Bool) := none
  deriving DecidableEq, Repr

/-- Transmit processing beyond its registers (R252–R296): the host's squelch, the line PLL out of lock, the confirmed entropy switch of a
furrow as (entropy, switch multiframe mod 256) (R263), the level measurement that runs. -/
structure TxState where
  hostSquelch : Bool := false
  pllLost : Bool := false
  switches : Tab (Option (Nat × Nat)) := []
  measure : Option LevelMeasure := none
  /-- The request of the last stream with REQ, by furrow (R350). -/
  lastReq : Tab (Option (Nat × Nat)) := []
  /-- The chain of each furrow that sends frames. -/
  lines : Tab (Option TxLine) := []
  /-- The scale of the DAC streams in 2⁻¹⁶ LSB for a furrow of mean energy 1 (R267). -/
  scale : Nat := 0
  /-- The words of the four DACs in the last local frame, DAC by DAC (R274). -/
  words : List (List Int) := []
  /-- When the host last cleared TXS_EVENTS.CLIP (R274). -/
  clipCleared : Nat := 0
  deriving DecidableEq, Repr

/-- The decoder of a furrow beyond its registers (R311–R324): in a hunt the next offset to screen (coded bits), the offsets that passed screening and
wait for confirmation, the cycle index of a first clean codeword; after a change of rate, that the next codeword has index 0; the
uncorrectable codewords in a row; of the present multiframe the uncorrectable ones and whether CW_LOCK was 0; clean multiframes in a row; update
periods in a row above and at or below FEC_DEG_THR; of the present update period codewords, bits corrected, an uncorrectable one; the bits
that the last codeword delivered (of a continuous codeword its Flume bits, still scrambled; of a burst codeword its payload bits) and whether they
carry the uncorrectable mark (R318). -/
structure FecFurrow where
  next : Nat := 0
  batch : List Nat := []
  confirm : Option Nat := none
  restart : Bool := true
  badRun : Nat := 0
  mfBad : Nat := 0
  broken : Bool := true
  clean : Nat := 0
  degUp : Nat := 0
  degDown : Nat := 0
  perCw : Nat := 0
  perBits : Nat := 0
  perBad : Bool := false
  out : List Bool := []
  outMarked : Bool := false
  deriving DecidableEq, Repr


/-- A frame alignment candidate (R355): its FN, where its next FAW is due, its hits, where its last FAW began and the J
of its label. -/
structure Cand where
  fn : Nat
  next : Nat
  hits : Nat := 0
  last : Nat := 0
  j : Nat := 0
  deriving DecidableEq, Repr

/-- The deframer of a furrow beyond its registers (R355–R359): candidates, bits hunted so far, FAWs failed in a row, frames in a row with J
uncertain, since when OOF and SYNC have held, streams in a row with and without BDI. -/
structure FrmFurrow where
  cands : List Cand := []
  pos : Nat := 0
  failRun : Nat := 0
  uncertain : Nat := 0
  oofSince : Nat := 0
  syncSince : Nat := 0
  bdiRun : Nat := 0
  bdiClear : Nat := 0
  deriving DecidableEq, Repr

/-- The received multiframe stream of a group (R349–R358): the flywheel, the last unmarked MFN while none is accepted, the streams in a row whose
MFN differed, the management bytes not taken yet (none: marked) and the multiframe that carried them. -/
structure GroupRx where
  mfn : Option Nat := none
  last : Option Nat := none
  badRun : Nat := 0
  mgmt : List (Option Byte) := []
  mgmtMfn : Nat := 0
  deriving DecidableEq, Repr

/-- The protection machine (R361–R369): the host's request code (0 none), hold-offs that run by defect 0 SF_A, 1 SF_B, 2 SD_A, 3 SD_B (start and
length), requests raised (bit by defect), when WTR started, whether DNR holds, the switch that waits for the boundary (side, code, source), when
SETTLING began, the code last in force, the PQ filter: last pair, run, frames and changes of the 200, whether one was accepted in them. -/
structure ProtState where
  host : Nat := 0
  holdoffs : Tab (Option (Nat × Nat)) := []
  raised : Nat := 0
  wtr : Option Nat := none
  dnr : Bool := false
  move : Option (Nat × Nat × Nat) := none
  settle : Option Nat := none
  lastCode : Nat := 0
  pqLast : Option (Nat × Nat) := none
  pqRun : Nat := 0
  pqFrames : Nat := 0
  pqChanges : Nat := 0
  pqAccepted : Bool := false
  deriving DecidableEq, Repr

/-- The framer and the local multiframe (R339–R374, R639). -/
structure FrmState where
  mfn : Nat := 0
  /-- The line PLL has locked and the local frames and multiframes run. -/
  started : Bool := false
  /-- Frame of the multiframe in progress, 0 to 24. -/
  fn : Nat := 0
  /-- Elapsed time of the last local frame and multiframe boundary. -/
  lastFrame : Nat := 0
  lastMf : Nat := 0
  furrows : Tab FrmFurrow := []
  groups : Tab GroupRx := []
  prot : ProtState := {}
  /-- The multiframe stream that each group sends in the present multiframe (R348, R349). -/
  streams : Tab (List Byte) := []
  /-- The frame that a transmitting furrow sends (R343): by how much its frames so far fall short of A each, in 25,000ths of a bit, and
  its J; none while the furrow sends no frame. -/
  stuff : Tab (Option (Nat × Nat)) := []
  deriving DecidableEq, Repr


/-- A slip buffer of a timed tributary in one direction (R402–R405): the complete frames held, oldest first (none: all ones), the last frame sent, whether
its read side has started, the rills that the frame being written has so far, by FN (none: one of them failed, was lost or late). -/
structure SlipBuf where
  held : List (Option (List Byte)) := []
  parts : List (Option (List Bool)) := []
  last : Option (List Byte) := none
  started : Bool := false
  deriving DecidableEq, Repr

/-- A rill-link lane (R393): the FN of the last valid POS 0 header if the last frame had one, the frames in a row without one, the positions that failed or
came late in the last frame, its rills by position; the FN of the last egress frame of a free lane (R394). -/
structure RillLane where
  lastFn : Option Nat := none
  missed : Nat := 0
  failed : List Nat := []
  rills : List (List Bool) := []
  txFn : Nat := 0
  deriving DecidableEq, Repr

/-- The time-slot interchange (R385–R411): slip buffers by 2 × turnout + direction (1 outbound), rill-link lanes, furrows whose received frames still use
the old page (R398), that the standby page comes into service at the boundary being worked out. -/
structure TsiState where
  slips : Tab SlipBuf := []
  lanes : Tab RillLane := []
  rxOld : Nat := 0
  swap : Bool := false
  /-- The 66-bit blocks of packets on their way to the line, by turnout (R44, R389, R502). -/
  egress : Tab (List (BitVec 66)) := []
  /-- The 66-bit blocks of Ethernet clients that wait for their lanes, and those sent in the last local frame, by turnout (R390). -/
  ethWait : Tab (List (BitVec 66)) := []
  ethSent : Tab (List (BitVec 66)) := []
  /-- The bits of their ports that wait for a codeword, by turnout (R584). -/
  aui : Tab (List Bool) := []
  deriving DecidableEq, Repr


/-- A key slot (R422, R429): its key (secret) and its counter high-water mark. STATE, REFS and KCV are registers. -/
structure KeySlot where
  key : BitVec 256 := 0
  hw : Nat := 0
  deriving DecidableEq, Repr

/-- The class that a received unit's header decided (R435), or that the unit is open and waits for its tag. -/
inductive UnitClass where
  | open_
  | idle
  | damaged
  | noContext
  | replay
  | tagFail
  /-- Discarded without decryption on a blocked turnout (R439). -/
  | blocked
  deriving DecidableEq, Repr

/-- The received unit in progress on a protected turnout (R435): its class, header and context. -/
structure RxUnit where
  cls : UnitClass
  header : BitVec 64
  ctx : Nat
  deriving DecidableEq, Repr

/-- What the cipher holds for a turnout beyond its registers. -/
structure CipherTurnout where
  /-- The received unit in progress. -/
  rx : Option RxUnit := none
  /-- The bytes so far of a received packet that has begun and not ended (R437). -/
  openPkt : Option (List Byte) := none
  /-- The packets released that the intake has not taken yet, oldest first (R436). -/
  inbox : List (List Byte) := []
  /-- The receiver has accepted a unit of the successor's phase (R440). -/
  newPhase : Bool := false
  /-- The unit last sent: header, ciphertext, tag (R414). -/
  sent : List Byte := []
  /-- The unit that waits for its frame. -/
  out : List Byte := []
  deriving DecidableEq, Repr

/-- A transfer on the key bus (R39, R421): of a context activation or of a key import; the mailbox whose command waits for its end. -/
structure KeyTransfer where
  activation : Bool
  mb : Option Nat := none
  deriving DecidableEq, Repr

/-- The cipher (R412–R450). -/
structure CipherState where
  keys : Tab KeySlot := []
  /-- Salts of the context records. -/
  salts : Tab (BitVec 56) := []
  turnouts : Tab CipherTurnout := []
  /-- The transfers of the key bus, the one in progress first, and when that one began. -/
  bus : List KeyTransfer := []
  busSince : Nat := 0
  deriving DecidableEq, Repr

/-- An entry of the exact-match table (R467–R471). -/
structure FlowEntry where
  format : Nat
  key : Nat
  action : Nat
  hit : Bool := false
  deriving DecidableEq, Repr

/-- A ternary rule (R472); `failed`: its parity failed at a sweep, and it counts as disabled until TERN_SET rewrites it (R561). -/
structure TernRule where
  value : Nat := 0
  mask : Nat := 0
  action : Nat := 0
  en : Bool := false
  overExact : Bool := false
  failed : Bool := false
  deriving DecidableEq, Repr

/-- Where the parcels of a packet are counted (R488–R492). -/
inductive Pool where
  | none_
  | shared
  | backwater
  | data (q : Nat)
  | control (c : Nat)
  deriving DecidableEq, Repr

/-- A packet inside the device: bytes with FCS and the offsets of poisoned bytes; the turnout it is parsed as, its original source, its
arrival order number, when its current pass arrived; what parsing and lookup found under the configuration in force when its parse
started (R41, R476); the storage it holds. -/
structure Pkt where
  data : List Byte
  poison : List Nat := []
  turnout : Nat
  orig : Nat
  num : Nat := 0
  arrival : Nat := 0
  bwPass : Nat := 0
  tag : Nat := 0
  host : Bool := false
  /-- When its parse started, and the fabric cycles that parsing and lookups take (R464, R473). -/
  startedAt : Nat := 0
  cycles : Nat := 0
  flags : Nat := 0
  dl : Nat := 0
  hdrs : List (Nat × Nat) := []
  hash : Nat := 0
  action : Nat := 0
  /-- The class of its data queue: the action's, or what a policer made of it (R495). -/
  cls : Nat := 0
  policed : Bool := false
  ordered : Bool := false
  gen : Nat := 0
  /-- The configuration in force when its parse started (R41): which one, and whether it looks flows up. -/
  epoch : Nat := 0
  looked : Bool := false
  lenDrop : Bool := false
  /-- The winning ternary rule has OVER_EXACT; the program of LEN_POLICY = 1 (R473). -/
  overExact : Bool := false
  lenProg : Option Nat := none
  /-- The packet was discarded by an injector: it passes the action stage in its order as a drop. -/
  gone : Bool := false
  /-- The place and the action of the exact-match entry that its parse found. -/
  flowHit : Option (Nat × Nat) := none
  pool : Pool := .none_
  parcels : List Nat := []
  desc : Option Nat := none
  finish : Nat := 0
  deriving DecidableEq, Repr

/-- The lane-to-fabric queue of a host packet port (R457): the words held of each packet, oldest first; the newest packet is still
coming in; the rest of it is discarded. -/
structure PortQueue where
  words : List Nat := []
  coming : Bool := false
  dropping : Bool := false
  deriving DecidableEq, Repr

/-- The order of a turnout's packets (R454, R528–R530): the next arrival order number, the next number to be handed to the action stage, the packets
classified and not handed on, the next number to leave, the numbers above it that have left, the stored packets that wait for their turn. -/
structure Domain where
  next : Nat := 0
  hand : Nat := 0
  stage : List Nat := []
  left : Nat := 0
  gone : List Nat := []
  held : List Nat := []
  deriving DecidableEq, Repr

/-- A configuration that packets in flight still finish under (R41): the profile, the default instruction budget, the settings of the policers. -/
structure PktConf where
  profile : Nat
  maxInsns : Nat
  policers : Tab (List Byte)
  deriving DecidableEq, Repr

/-- The packet plane: intake, lookups, Reservoir and queues. Packets are named by a serial number of the model. -/
structure PktState where
  next : Nat := 0
  pkts : Tab (Option Pkt) := []
  flows : Tab (Option FlowEntry) := []
  terns : Tab TernRule := []
  ports : Tab PortQueue := []
  /-- Packets that wait for a parse start: from the line, from host ports by first lane, from backwater (R456). -/
  lineWait : List Nat := []
  hostWait : Tab (List Nat) := []
  bwWait : List Nat := []
  /-- The first lane last served, the fabric cycle of the last start, the starts and the backwater starts in it. -/
  lastLane : Nat := 15
  startCycle : Nat := 0
  starts : Nat := 0
  bwStarts : Nat := 0
  /-- The fabric cycle of the last selection of the Headgate, and the selections in it (R500). -/
  selCycle : Nat := 0
  selections : Nat := 0
  /-- Packets being parsed and looked up, in start order. -/
  parsing : List Nat := []
  /-- The commits so far, and the earlier configurations that packets in flight started under (R41). -/
  epoch : Nat := 0
  confs : Tab (Option PktConf) := []
  domains : Tab Domain := []
  /-- Packets in the backwater pool that wait for re-entry. -/
  bwPool : List Nat := []
  /-- Packets waiting in each data queue (0–2,047) and control queue (2,048 + c). -/
  queues : Tab (List Nat) := []
  /-- Packets returned by CQ_RECEIVE: handle, packet, control queue; the next handle. -/
  received : List (Nat × Nat × Nat) := []
  nextHandle : Nat := 1
  /-- Finish tags: the last of each queue and the virtual time of each turnout (R497). -/
  qLast : Tab Nat := []
  vTime : Tab Nat := []
  /-- The turnouts from which the next round of selections looks on, of the line and of the host packet ports (R500). -/
  rrLine : Nat := 0
  rrPort : Nat := 0
  /-- Packets selected for a turnout's egress. -/
  egress : Tab (List Nat) := []
  /-- The last frame sent by a turnout. -/
  sent : Tab (List Byte) := []
  /-- The frames that the loopback of a host packet port still returns, as blocks (R597). -/
  loops : Tab (List (List (BitVec 66))) := []
  /-- Of each bank of the Reservoir: the fabric cycle in which it can grant the next access, the cycle up to which event 7 has counted (R504, R711). -/
  bankBusy : Tab (Nat × Nat) := []
  /-- The bank that takes the first parcel of the next packet (R486). -/
  bank : Nat := 0
  /-- The 128 bytes of each parcel ever written. -/
  parcels : Tab (List Byte) := []
  /-- Parcels and descriptors lost under R557. -/
  leaked : List Nat := []
  leakedDesc : List Nat := []
  /-- The completion of the last BAR2 read: its bytes and its EP bit (R487, R556). -/
  bar2 : List Byte := []
  bar2Ep : Bool := false
  deriving DecidableEq, Repr

/-- A policer (R494–R496): CIR, CBS, PIR, PBS and mode as committed; the two buckets in 2⁻³² packets; the elapsed time of the last update;
the three traffic counters and their shadows. -/
structure Policer where
  cfg : List Byte := []
  c : Nat := 0
  p : Nat := 0
  last : Nat := 0
  green : Nat := 0
  yellow : Nat := 0
  red : Nat := 0
  greenShadow : Nat := 0
  yellowShadow : Nat := 0
  redShadow : Nat := 0
  deriving DecidableEq, Repr

structure HgState where
  policers : Tab Policer := []
  deriving DecidableEq, Repr

/-- One emit of a task (R522): the action word, the copy of the packet, the offsets of its poisoned bytes. -/
structure Emit where
  action : Nat
  data : List Byte
  poison : List Nat := []
  deriving DecidableEq, Repr

/-- A task on a thread (R516, R520–R529): its packet, the registers, pc, instructions issued and budget; the packet as it stands, without FCS,
with the net number of bytes removed in front and added at the tail; CSRs; the emits so far; the order gate; its data memory; when
results can be used; the stamps that the sampler takes. -/
structure Task where
  pkt : Nat
  prog : Nat
  pc : Nat
  regs : Tab DWord := []
  issued : Nat := 0
  budget : Nat
  cntRead : Bool := false
  data : List Byte
  poison : List Nat := []
  shift : Int := 0
  tail : Int := 0
  hdrSel : Nat := 0
  cntSel : Nat := 0
  emits : List Emit := []
  released : Bool := false
  waiting : Bool := false
  dmem : Tab Byte := []
  /-- The lateral whose cycles it counts; the cycle in which its dispatch began. -/
  home : Nat := 0
  start : Nat := 0
  /-- For each register the cycle from which its value can be used, and whether a load (1) or an atom (2) gives it. -/
  ready : Tab (Nat × Nat) := []
  /-- The first cycle in which the instruction at pc is the thread's next; the cycle of the last atom's result (R525). -/
  fetchAt : Nat := 0
  atomAt : Nat := 0
  deriving DecidableEq, Repr

/-- The Sluice array (R515–R549): the task queue, the threads by 8 × engine + thread, the tasks that ended and wait for their commit, the state
memory, the images by generation, the generation each lateral runs, the staging store, the round robin of laterals. -/
structure EngState where
  taskQ : List Nat := []
  tasks : Tab (Option Task) := []
  ended : List (Nat × List Emit) := []
  words : Tab DWord := []
  /-- Images in force by generation; generation 0 is none. -/
  images : Tab (List Byte) := []
  gen : Nat := 0
  latGen : Tab Nat := []
  /-- Fabric cycles that loop 5 has kept from each lateral (R43, R761). -/
  held : Tab Nat := []
  /-- Per lateral the cycle of its last end of a task, and that in which the lateral that converts next stopped taking old tasks (R540). -/
  latLast : Tab Nat := []
  convFrom : Tab Nat := []
  /-- Laterals whose quench comes from a change of ROLE (R517). -/
  roleNew : List Nat := []
  staging : Option (List Byte) := none
  /-- The staged image passed (R539). -/
  passed : Bool := false
  rr : Nat := 0
  /-- ENG_LAT_HOLD that waits for QUIESCED: mailbox and lateral. -/
  holdMb : Option (Nat × Nat) := none
  /-- For each engine one more than the last cycle of its lateral in which it issued; the dispatches of a fabric cycle. -/
  lastIssue : Tab Nat := []
  dispCycle : Nat := 0
  dispatched : Nat := 0
  /-- One more than the fabric cycle of the last atom, and the state words that atoms reached in it (R532). -/
  atomCycle : Nat := 0
  atomWords : List Nat := []
  /-- The image that an accepted commit brings into force at its boundary (R540). -/
  chosen : Option (List Byte) := none
  deriving DecidableEq, Repr

/-- A requested scrub pass (R563): its mailbox, memory, the words still to visit as (instance, word, how many), its start, and the
counts of its summary: read, fixed, poisoned, already poisoned, skipped, first uncorrectable. -/
structure ScrubPass where
  mb : Nat
  left : List (Nat × Nat × Nat)
  start : Nat
  read : Nat := 0
  fixed : Nat := 0
  poisoned : Nat := 0
  already : Nat := 0
  skipped : Nat := 0
  firstUe : Nat := 0xFFFFFFFF
  deriving DecidableEq, Repr

/-- A background sweep (R561): the next word as (instance, word), when its period began, its period in ms, whether SCRUB_LATE has been counted
in this period. -/
structure Sweep where
  inst : Nat := 0
  word : Nat := 0
  start : Nat := 0
  period : Nat := 0
  late : Bool := false
  deriving DecidableEq, Repr

/-- Memory integrity (R550–R569). -/
structure MemState where
  /-- Words that are not clean, keyed (512 × MEM + instance) × 2²³ + word: bad bits 0, 1 or 2 (for two or more), plus 4 when the poison
  flag is stored. The second copies of memories 9 and 12 are instance 1. -/
  words : Tab Nat := []
  /-- The bits that an armed flip inverts, 1 or 2; its memory and instance are in FLIP_STATUS. -/
  flipBits : Nat := 0
  /-- Per memory: the device times (ns) of the corrected reads of the last millisecond, and when the last MEM_CE record was written. -/
  corrections : Tab (List Nat) := []
  lastCe : Tab (Option Nat) := []
  sweeps : Tab Sweep := []
  passes : Tab (Option ScrubPass) := []
  deriving DecidableEq, Repr

/-- A move of a lane to another power state (R591, R592): the state it comes from, the state asked for, when the command was accepted. -/
structure LaneMove where
  old : Nat
  target : Nat
  t0 : Nat
  deriving DecidableEq, Repr

/-- A position of a rill-link frame as it comes in (R391): the payload of its header block, those of its data blocks. -/
structure RillRow where
  header : BitVec 64
  data : List (BitVec 64) := []
  deriving DecidableEq, Repr

/-- What crosses between a lane and the device (R37, R573, R587, R609, R615): the registers of the descrambler and of the scrambler; the positions of the rill-link
frame that comes in; the last block passed and the bits of the last local frame; the blocks or symbols that a re-centring still
drops, or repeats where negative; the symbol that
the precoder sent last; what the device sent toward the lane in the last local frame: rill-link blocks, RS symbols, bits; what the transmitter made of it: samples in
2⁻²⁰ mV, and the last levels before its taps; the place in the pattern of the next generator bit; the blocks that a loopback still returns. -/
structure LaneData where
  descr : Nat := 0
  scr : Nat := 0
  rows : List RillRow := []
  last : Option (BitVec 66) := none
  lastBits : List Bool := []
  skip : Int := 0
  pre : Nat := 0
  prbs : Nat := 0x7FFFFFFF
  blocks : List (BitVec 66) := []
  bits : List Bool := []
  samples : List Int := []
  symbols : List Nat := []
  levels : List Int := []
  patAt : Nat := 0
  loop : List (BitVec 66) := []
  deriving DecidableEq, Repr

/-- A host or media lane beside its registers (R574–R597): when it began adapting, when its source was last found good, a change of configuration that
waits for its return to L0, the power state it moves to, when it became QUIESCED, the last CTLE step; the block-lock search of R588; the codewords
and corrected symbols of the window of R583; the rate of continuous error injection and the bits since the last one inverted, the single bits that wait to
be inverted; what the adaptation has found for its taps, a free value, none for the reset taps. -/
structure Lane where
  adaptAt : Nat := 0
  goodAt : Nat := 0
  restart : Bool := false
  move : Option LaneMove := none
  quietAt : Nat := 0
  ctleAt : Nat := 0
  offset : Nat := 0
  good : Nat := 0
  bad : Nat := 0
  window : Nat := 0
  cws : Nat := 0
  symbs : Nat := 0
  inject : Option Nat := none
  injAt : Nat := 0
  inverted : Nat := 0
  taps : Option Nat := none
  data : LaneData := {}
  deriving DecidableEq, Repr

/-- A LANE_PSTATE that runs: its mailbox, the lanes still moving, whether an exit has timed out (R591, R592). -/
structure PsReq where
  mb : Nat
  left : List Nat
  late : Bool := false
  deriving DecidableEq, Repr

/-- A timing lane (R598–R602). Receive: the running disparity, commas seen at one alignment, the characters received and the places of the invalid ones among
the last 256, a comma at another alignment seen; when the last two marks and the held message came. Transmit: SEQ of the next message, the second whose
message was sent, the remainder of steps in ps, the last message sent; the running disparity, the number of the next character of device time, the UI by
which steps have shifted the characters, a message that waits, the codes sent in the last local frame. -/
structure TLane where
  rxRd : Option Bool := none
  commas : Nat := 0
  chars : Nat := 0
  bad : List Nat := []
  moved : Bool := false
  markAt : Option Nat := none
  prevMark : Option Nat := none
  todAt : Option Nat := none
  seq : Nat := 0
  sentFor : Option Nat := none
  frac : Int := 0
  sent : List Byte := []
  rd : Bool := false
  next : Nat := 0
  phase : Nat := 0
  wait : List Byte := []
  out : List Nat := []
  deriving DecidableEq, Repr

/-- A level measurement of a media lane (R616): mailbox, lane, N, start, whether the lane has left LOCKED. -/
structure ModMeasure where
  mb : Nat
  lane : Nat
  n : Nat
  start : Nat
  lost : Bool := false
  deriving DecidableEq, Repr

/-- Host, media and timing lanes and the module mode data path (R570–R626). -/
structure LaneState where
  lanes : Tab Lane := []
  reqs : List PsReq := []
  tls : Tab TLane := []
  measure : Option ModMeasure := none
  deriving DecidableEq, Repr

/-- A reference monitor (R629–R631): when its gate began, since when its qualification time counts, whether its last result lay within ACCEPT. -/
structure RefMon where
  gateAt : Nat := 0
  from_ : Nat := 0
  ok : Bool := false
  deriving DecidableEq, Repr

/-- A frame pulse input (R644): its edges of the last PERIOD while not PRESENT, the last place of its flywheel, the misses in a row, the edges outside the
window in the last two PERIODs. -/
structure Fpi where
  edges : List Nat := []
  fly : Option Nat := none
  run : Nat := 0
  outs : List Nat := []
  deriving DecidableEq, Repr

/-- The timing block beside its registers (R627–R651): monitors; when the DPLL entered ACQUIRING; the LOCKED time gathered and since when it is LOCKED; the
stretches of LOCKED time with their frequency, newest last, as (elapsed time, ppb); the start of the holdover timer; pulse inputs; the correction
that device time is removing and its start; TIME_SET commands that wait, as mailbox and seconds; the last second whose boundary was served. -/
structure TimState where
  refs : Tab RefMon := []
  acqAt : Nat := 0
  gathered : Nat := 0
  lockedAt : Option Nat := none
  hist : List (Nat × Int) := []
  hoStart : Option Nat := none
  fpis : Tab Fpi := []
  slew : Option (Int × Nat) := none
  sets : List (Nat × Nat) := []
  second : Nat := 0
  deriving DecidableEq, Repr

/-- A transfer on an optics bus (R677, R678): the mailbox it answers, chip select or address, bytes out, bytes asked back. -/
structure OptXfer where
  mb : Nat
  target : Nat
  out : List Byte
  want : Nat
  deriving DecidableEq, Repr

/-- GPIO pins and optics buses (R676–R679). -/
structure OptState where
  spi : Option OptXfer := none
  i2c : Option OptXfer := none
  /-- The bytes sent on the optics buses, newest last: what the optics see. -/
  sentSpi : List (Nat × List Byte) := []
  sentI2c : List (Nat × List Byte) := []
  deriving DecidableEq, Repr

/-- The Gauge converter (R682–R691): channels still to convert in the running sequence, the one converting first; the start of the conversion; the mailbox of an
urgent conversion; conversions still disturbed by one out of range; channels in an episode out of range and out of limits; when the timer last
triggered; the highest temperature code since the last TELEMETRY record. -/
structure GaugeState where
  chans : List Nat := []
  start : Nat := 0
  urgent : Option Nat := none
  disturbed : Nat := 0
  outside : List Nat := []
  limit : List Nat := []
  lastTrig : Nat := 0
  hot : Nat := 0
  deriving DecidableEq, Repr

/-- The monitor tap (R692–R695): elapsed time and device time of the trigger of the armed or running capture; the samples held, channel 0 in the low 16 bits. -/
structure TapState where
  hit : Option (Nat × Nat) := none
  buf : List (BitVec 64) := []
  deriving DecidableEq, Repr

/-- A tagged instruction (R716–R719): where it is, its program and domain, the stamps as fabric cycles. -/
structure SampTag where
  engine : Nat
  thread : Nat
  pc : Nat
  opcode : Nat
  ordered : Bool
  prog : Nat
  domain : Nat
  num : Nat
  fetch : Nat
  fetchNs : Nat
  ready : Option Nat := none
  issue : Option Nat := none
  gate : Option Nat := none
  fin : Option Nat := none
  exc : Bool := false
  discard : Bool := false
  beyond : Bool := false
  deriving DecidableEq, Repr

/-- The sampler of a lateral (R716, R717): its shift register once loaded, the instructions left of the interval, the cycle in which the interval ended,
the tag in flight. -/
structure Sampler where
  lfsr : Option (BitVec 32) := none
  left : Nat := 0
  armedAt : Option Nat := none
  tag : Option SampTag := none
  deriving DecidableEq, Repr

/-- Instruction sampling (R716–R721): the samplers and the sample buffer, oldest record first. -/
structure PerfState where
  samplers : Tab Sampler := []
  records : List (List Word) := []
  deriving DecidableEq, Repr

/-- A REORDER unit held by an injector (R740): a stored packet by its number, or the bits of a lane unit; units of the scope still to
pass, and when the last unit passed. -/
structure FiHeld where
  pkt : Option Nat := none
  bits : List Byte := []
  left : Nat
  last : Nat
  deriving DecidableEq, Repr

/-- A running injector (R739): its fields, when it started, the units seen, the units affected. -/
structure Injector where
  point : Nat
  target : Nat
  action : Nat
  n : Nat
  periodic : Bool
  count : Nat
  depth : Nat
  timeoutS : Nat
  start : Nat
  seen : Nat := 0
  hits : Nat := 0
  held : Option FiHeld := none
  deriving DecidableEq, Repr

/-- A self-test that runs (R734): its mailbox, kind and target, and when the test proper began (none while its lateral is quenched). -/
structure SelfTest where
  mb : Nat
  kind : Nat
  target : Nat
  start : Option Nat
  deriving DecidableEq, Repr

/-- An OTP write that runs (R732): its mailbox, field, value, start. -/
structure OtpWrite where
  mb : Nat
  field : Nat
  value : List Byte
  start : Nat
  deriving DecidableEq, Repr

/-- The one-time programmable fields (R732), none while blank, and the fields as the last reset loaded them. -/
structure OtpState where
  rootKey : Option (List Byte) := none
  pwHash : Option (List Byte) := none
  debugDisable : Bool := false
  vendorDisable : Bool := false
  loadedRoot : Option (List Byte) := none
  loadedPw : Option (List Byte) := none
  deriving DecidableEq, Repr

/-- Test access, self-test and fault injection (R726–R745). -/
structure TestState where
  /-- Failed unlocks since the last cold reset; always-on (R728). -/
  fails : Nat := 0
  /-- The open challenge: its nonce and when it was given (R727). -/
  nonce : Option (List Byte × Nat) := none
  otp : OtpState := {}
  write : Option OtpWrite := none
  selfTest : Option SelfTest := none
  injectors : Tab (Option Injector) := []
  /-- Uses of K0 are refused since level 3 was entered (R730). -/
  k0Refused : Bool := false
  deriving DecidableEq, Repr

/-- An orderly shutdown that runs (R764): its mailbox, its acceptance, when step 3 was done. -/
structure Shutdown where
  mb : Nat
  t0 : Nat
  gatedAt : Option Nat := none
  deriving DecidableEq, Repr

/-- The straps but BOOT_SEL, and the supply of the VDD_IO2 bank, as POR_N's release sampled them (R776, R777): MDIO port address, I²C target
address, whether the bank works at 3.3 V levels. -/
structure Straps where
  mdioPort : Nat := 0
  i2cAddr : Nat := 0x48
  io2High : Bool := false
  deriving DecidableEq, Repr

/-- Power, reset, boot and heat (R746–R768). -/
structure PowerState where
  straps : Straps := {}
  /-- RST_N is held low. -/
  rstHeld : Bool := false
  /-- The PCIe link is up (R750). -/
  linkUp : Bool := false
  /-- The boot flash: the images in slots A and B (R754). -/
  slotA : List Byte := []
  slotB : List Byte := []
  /-- The bytes of a host download since its FIRST chunk (R756). -/
  download : Option (List Byte) := none
  /-- The image a host download delivered and that passed R753. -/
  image : Option (List Byte) := none
  /-- A flash write since its FIRST chunk (R767), and the mailbox of a chunk that is being written. -/
  flash : Option (List Byte) := none
  flashMb : Option (Nat × Bool) := none
  /-- PMBus faults in a row and the rail of a transfer to retry with its target and time (R759); steps have stopped. -/
  pmbFaults : Nat := 0
  pmbRetry : Option (Nat × Nat × Nat) := none
  avsStopped : Bool := false
  /-- VOUT_MODE of each regulator, as read when AVS_EN was committed, and the last PMBus write: address, command code, data word (R758). -/
  voutMode : Tab Nat := []
  pmbSent : Option (Nat × Nat × Nat) := none
  /-- When each rail last stepped, 0 VDD_DSP, 1 VDD_FAB (R758). -/
  avsLast : Tab Nat := []
  lastPoll : Nat := 0
  /-- The hottest die sensor at the last sample, in 1/1000 °C, and since when it has stood at or above SHUT_C (R761, R762). -/
  hottest : Int := 25000
  hotSince : Option Nat := none
  lastSample : Nat := 0
  lastThrottle : Nat := 0
  /-- Loop 5's own target, in 1/64 (R761). -/
  throttleTarget : Int := 64
  /-- The device was in thermal shutdown when the last reset came (R762). -/
  wasHot : Bool := false
  shutdown : Option Shutdown := none
  /-- A warm reset is due 1 ms after SYS_RESET's answer (R767): when it was answered. -/
  resetAt : Option Nat := none
  deriving DecidableEq, Repr

/-- The state of the block. -/
structure State where
  /-- The commands that wait, first in first out. -/
  pending : List Instr := []
  /-- Elapsed time since the release of reset, in thirteenths of a nanosecond (log entry 1). -/
  clock : Nat := 0
  /-- Device time less elapsed time, in thirteenths of a nanosecond (R641–R643). -/
  timeOff : Int := 0
  /-- How many free values have been taken: the model's own field, not the manual's (log entry 3). -/
  fresh : Nat := 0
  /-- The register words of BAR0 (R788), by address, where they differ from their reset value. -/
  regs : Tab Word := []
  ifs : Tab IfState := []
  mbs : Tab Mailbox := []
  /-- The transaction ID that the next TXN_BEGIN returns (R663). -/
  nextTxn : Word := 1
  /-- The mailbox served last (R660). -/
  lastServed : Nat := 7
  /-- How many commits have been accepted: their order of validation (R670). -/
  nextOrder : Nat := 0
  logs : LogState := {}
  msix : MsixState := {}
  opt : OptState := {}
  sys : SysState := {}
  conv : ConvState := {}
  rx : RxState := {}
  burst : BurstState := {}
  self : LeafSelf := {}
  tx : TxState := {}
  fec : Tab FecFurrow := []
  frm : FrmState := {}
  tsi : TsiState := {}
  pk : PktState := {}
  hg : HgState := {}
  eng : EngState := {}
  perf : PerfState := {}
  cip : CipherState := {}
  ln : LaneState := {}
  tim : TimState := {}
  gau : GaugeState := {}
  tap : TapState := {}
  mem : MemState := {}
  test : TestState := {}
  power : PowerState := {}
  deriving DecidableEq, Repr

/-- The machine right after reset: every register at its reset value, everything else empty or at the value its structure gives. -/
def State.reset : State := {}

end Sys2Proof.Machine
end

