-- ==== Sys2Proof/Machine/Ops.lean ====
section
/-! DEFINITION. The named operations that the meanings share: register words and fields, counters, device time, the drain log,
interrupts and MSI-X, mailboxes and their replies. -/

namespace Sys2Proof.Machine

/-- The outcome of a meaning. -/
abbrev Out := Host.Outcome State Fault Refusal

/-! ### Register words and fields -/

/-- The stored word of the register at `a` (R8). -/
def State.reg (s : State) (a : Nat) : Word := tget (resetWord a) s.regs a

/-- Store a register word. -/
def State.setReg (s : State) (a : Nat) (v : Word) : State := { s with regs := tput (resetWord a) s.regs a v }

/-- The address of word `j` of instance `i` of a field. -/
def Field.addr (f : Field) (i j : Nat) : Nat := f.base + f.stride * i + f.sub * j

/-- Bits `[lo + width - 1 : lo]` of a number. -/
def bitsOf (v lo width : Nat) : Nat := v / 2 ^ lo % 2 ^ width

/-- `v` with bits `[lo + width - 1 : lo]` replaced by those of `x` (reduced to the width). -/
def putBits (v lo width x : Nat) : Nat :=
  v - bitsOf v lo width * 2 ^ lo + x % 2 ^ width * 2 ^ lo

/-- A field's value (R5). -/
def State.get (s : State) (f : Field) (i : Nat := 0) (j : Nat := 0) : Nat :=
  bitsOf (s.reg (f.addr i j)).toNat f.lo f.width

/-- Write a field, leaving the other bits of its word. -/
def State.set (s : State) (f : Field) (v : Nat) (i : Nat := 0) (j : Nat := 0) : State :=
  s.setReg (f.addr i j) (BitVec.ofNat 32 (putBits (s.reg (f.addr i j)).toNat f.lo f.width v))

/-- A one-bit field read as a truth value. -/
def State.flag (s : State) (f : Field) (i : Nat := 0) (j : Nat := 0) : Bool := s.get f i j == 1

/-- A field read as a two's complement number. -/
def State.getInt (s : State) (f : Field) (i : Nat := 0) (j : Nat := 0) : Int :=
  (BitVec.ofNat f.width (s.get f i j)).toInt

/-- The two's complement bits of an integer in `w` bits. -/
def twos (w : Nat) (x : Int) : Nat := (BitVec.ofInt w x).toNat

/-- The truth value as a bit. -/
def b2n (b : Bool) : Nat := if b then 1 else 0

/-- Set a field given by its bits at every address where `p` holds: write each instance below `n`. -/
def State.setAll (s : State) (f : Field) (n : Nat) (v : Nat → Nat) : State :=
  (List.range n).foldl (fun s i => s.set f (v i) i) s

/-! ### Counters (R16) -/

/-- The address of counter instance `i`, word `j`. -/
def Ctr.addr (c : Ctr) (i j : Nat) : Nat := c.base + c.stride * i + c.sub * j

/-- A counter's value. -/
def State.count (s : State) (c : Ctr) (i : Nat := 0) (j : Nat := 0) : Nat :=
  let a := c.addr i j
  if c.words = 1 then (s.reg a).toNat
  else if c.words = 2 then (s.reg a).toNat + (s.reg (a + 4)).toNat * 2 ^ 32
  else (s.reg a).toNat + ((s.reg (a + 4)).toNat % 2 ^ 16) * 2 ^ 32

/-- Write a counter's words. -/
def State.setCount (s : State) (c : Ctr) (v : Nat) (i : Nat := 0) (j : Nat := 0) : State :=
  let a := c.addr i j
  if c.words = 1 then s.setReg a (BitVec.ofNat 32 v)
  else if c.words = 2 then (s.setReg a (BitVec.ofNat 32 v)).setReg (a + 4) (BitVec.ofNat 32 (v / 2 ^ 32))
  else (s.setReg a (BitVec.ofNat 32 v)).setReg (a + 4) (BitVec.ofNat 32 (v / 2 ^ 32 % 2 ^ 16))

/-- Add `n` events to a counter: a traffic counter wraps, the others hold at their limit (R16). -/
def State.bump (s : State) (c : Ctr) (i : Nat := 0) (j : Nat := 0) (n : Nat := 1) : State :=
  let v := s.count c i j + n
  if c.words = 1 then s.setCount c (min v 0xFFFFFFFF) i j
  else if c.words = 2 then s.setCount c (v % 2 ^ 64) i j
  else s.setCount c (min v 0xFFFFFFFFFFFF) i j

/-! ### Elapsed and device time -/

/-- `n` nanoseconds, microseconds, milliseconds, seconds of elapsed time, in thirteenths of a nanosecond. -/
def nsT (n : Nat) : Nat := 13 * n
def usT (n : Nat) : Nat := 13000 * n
def msT (n : Nat) : Nat := 13000000 * n
def secT (n : Nat) : Nat := 13000000000 * n

/-- The part of a correction that device time has removed so far: evenly over one second (R642). -/
def State.slewDone (s : State) : Int :=
  match s.tim.slew with
  | some (e, t) => e * Int.ofNat (min (s.clock - t) (secT 1)) / Int.ofNat (secT 1)
  | none => 0

/-- Device time in thirteenths of a nanosecond: the cycles of 16/13 ns that the timing domain has run since reset, moved by the steps and
corrections since (R641–R643); 64 bits of nanoseconds. -/
def State.devTime (s : State) : Nat :=
  ((Int.ofNat (s.clock / 16 * 16) + s.timeOff - s.slewDone) % (13 * 2 ^ 64 : Int)).toNat

/-- Device time in whole nanoseconds. -/
def State.devNs (s : State) : Nat := s.devTime / 13

/-- The 16-bit fraction of a nanosecond of device time, rounded (R641). -/
def State.devFrac (s : State) : Nat := (s.devTime % 13 * 65536 + 6) / 13

/-- Take a fresh free value: `tag` says what it stands for. -/
def State.free (s : State) (tag : Nat) : Nat × State := (Config.freeNat tag s.fresh, { s with fresh := s.fresh + 1 })

/-! ### Bytes -/

/-- Byte `i` of a payload; 0 beyond its end. -/
def u8 (p : List Byte) (i : Nat) : Nat := (p.getD i 0).toNat

/-- `n` bytes at `off`, least significant first (R6). -/
def le (n : Nat) (p : List Byte) (off : Nat) : Nat :=
  match n with
  | 0 => 0
  | k + 1 => u8 p off + 256 * le k p (off + 1)

/-- `n` bytes at `off`, most significant first (R483). -/
def be (n : Nat) (p : List Byte) (off : Nat) : Nat :=
  match n with
  | 0 => 0
  | k + 1 => u8 p off * 256 ^ k + be k p (off + 1)

def u16 (p : List Byte) (i : Nat) : Nat := le 2 p i
def u32 (p : List Byte) (i : Nat) : Nat := le 4 p i
def u64 (p : List Byte) (i : Nat) : Nat := le 8 p i

/-- The `n` little-endian bytes of a number. -/
def bytes (n v : Nat) : List Byte :=
  match n with
  | 0 => []
  | k + 1 => BitVec.ofNat 8 v :: bytes k (v / 256)

/-- The `n` bytes of a number, most significant first. -/
def bytesBe (n v : Nat) : List Byte := (bytes n v).reverse

/-- The bytes of a list of 32-bit words. -/
def wordBytes (ws : List Word) : List Byte := ws.flatMap (fun w => bytes 4 w.toNat)

/-- Two's complement reading of `w` bits. -/
def sint (w v : Nat) : Int := (BitVec.ofNat w v).toInt

/-! ### Drain log (R696–R701) -/

/-- The rows of the block map R788 that write records, by their place in it. -/
def wbGlobal : Nat := 0
def wbMailbox : Nat := 2
def wbTiming : Nat := 3
def wbGauge : Nat := 4
def wbTap : Nat := 5
def wbLog : Nat := 6
def wbTest : Nat := 7
def wbPower : Nat := 8
def wbAdc : Nat := 9
def wbDac : Nat := 10
def wbRx : Nat := 11
def wbFurrow : Nat := 12
def wbBurst : Nat := 13
def wbTx : Nat := 14
def wbFec : Nat := 15
def wbFrm : Nat := 16
def wbTsi : Nat := 17
def wbCipher : Nat := 18
def wbIntake : Nat := 19
def wbHeadgate : Nat := 20
def wbMem : Nat := 21
def wbLane : Nat := 22
def wbTlane : Nat := 24
def wbLeaf : Nat := 26
def wbLateral : Nat := 27
def wbEngine : Nat := 28
def wbPerf : Nat := 29

/-- Give the drain log a record of the event happening now, by the queue of writing block `wb`; a full queue drops it (R44, R46). -/
def State.log (s : State) (wb type : Nat) (data : List Byte) : State :=
  let q := tget [] s.logs.queues wb
  if q.length < 16 then
    { s with logs := { s.logs with queues := tput [] s.logs.queues wb (q ++ [⟨type, s.devTime, data, s.clock⟩]) } }
  else (s.bump Cnt.LOST_QUEUE).set Reg.LOG_EVENTS_LOST 1

/-- A record's LENGTH in words (R705). -/
def LogRec.words (r : LogRec) : Nat := 3 + (r.data.length + 3) / 4

/-- LOG_STATUS.FILL: the words held (R697). -/
def LogState.fill (l : LogState) : Nat := (l.held.map (fun e => e.2.words)).sum

/-- Whether FILL stands at or above the threshold sets, or arms, LOG_EVENTS.THRESH (R701). -/
def State.logThresh (s : State) : State :=
  if s.logs.fill < s.get Reg.LOG_THRESH_THRESH then { s with logs := { s.logs with armed := true } }
  else if s.logs.armed then ({ s with logs := { s.logs with armed := false } }).set Reg.LOG_EVENTS_THRESH 1
  else s

/-- Drop whole records from the oldest until `need` words fit in the 8,192 (R698): what is left and how many went. -/
def logMakeRoom (need : Nat) : List (Nat × LogRec) → Nat → List (Nat × LogRec) × Nat
  | [], k => ([], k)
  | e :: rest, k =>
    if ((e :: rest).map (fun x => x.2.words)).sum + need ≤ 8192 then (e :: rest, k) else logMakeRoom need rest (k + 1)

/-- Writing block `wb` holds a record that can be taken: 3 aux cycles after it entered its queue (R696). -/
def State.logReady (s : State) (wb : Nat) : Bool :=
  match tget [] s.logs.queues wb with
  | [] => false
  | r :: _ => decide (r.entered + 156 ≤ s.clock)

/-- The log writer has written a record of block `wb` by now: the block is the next in turn that holds one, and one word a cycle of the aux domain has
been written since the writer was free (R696). -/
def State.logTurn (s : State) (wb : Nat) : Bool :=
  s.logReady wb && (List.range 30).all (fun k => !s.logReady k || decide ((wb + 29 - s.logs.last) % 30 ≤ (k + 29 - s.logs.last) % 30)) &&
    (match tget [] s.logs.queues wb with
      | [] => false
      | r :: _ => decide (max s.logs.freeAt (r.entered + 156) + 52 * r.words ≤ s.clock))

/-- The log writer takes the oldest record of writing block `wb` and writes it (R696–R698, R701). -/
def State.logWrite (s : State) (wb : Nat) : State :=
  match tget [] s.logs.queues wb with
  | [] => s
  | r :: rest =>
    let (kept, lost) := logMakeRoom r.words s.logs.held 0
    let s1 := { s with logs := { s.logs with
      queues := tput [] s.logs.queues wb rest
      last := wb
      freeAt := s.clock
      held := kept ++ [(s.logs.seq, r)]
      seq := (s.logs.seq + 1) % 65536 } }
    let s2 := if lost = 0 then s1 else (s1.bump Cnt.LOST_OVERWRITE 0 0 lost).set Reg.LOG_EVENTS_LOST 1
    (s2.bump Cnt.RECORDS_WRITTEN).logThresh

/-- A write of LOG_POP (R700). -/
def State.logPop (s : State) (v : Word) : State :=
  match s.logs.held with
  | [] => (s.set Reg.LOG_EVENTS_UNDERRUN 1).bump Cnt.UNDERRUNS
  | (seq, _) :: rest =>
    if bitsOf v.toNat 16 1 = 1 && bitsOf v.toNat 0 16 ≠ seq then s.bump Cnt.POP_MISMATCHES
    else
      let s1 := { s with logs := { s.logs with held := rest } }
      if s1.logs.fill < s1.get Reg.LOG_THRESH_THRESH then { s1 with logs := { s1.logs with armed := true } } else s1

/-- The words of a held record as the host reads them (R696). -/
def recWords (e : Nat × LogRec) : List Word :=
  let r := e.2
  let ns := r.time / 13
  let pad := r.data ++ List.replicate ((4 - r.data.length % 4) % 4) 0
  [BitVec.ofNat 32 (r.words * 2 ^ 24 + r.type * 2 ^ 16 + e.1), BitVec.ofNat 32 ns, BitVec.ofNat 32 (ns / 2 ^ 32)]
    ++ (List.range (pad.length / 4)).map (fun k => BitVec.ofNat 32 (u32 pad (4 * k)))

/-! ### Interrupts (R793–R796) -/

/-- One source of an interrupt group: EVENTS address, INT_EN address (0 where the events have none and always count), instance
stride and count, and the event bits it takes. -/
structure IrqSource where
  group : Nat
  ev : Nat
  en : Nat
  stride : Nat
  n : Nat
  mask : Nat

/-- The sources of R793. CLAMP_STATUS pairs with no INT_EN register (log entry 6). -/
def irqSources : List IrqSource := [
  ⟨0, 0x12014, 0x12018, 0, 1, 0xFFFF⟩, ⟨1, 0x128, 0, 0, 1, 0x1F⟩,
  ⟨2, 0x100014, 0x100018, 0x1000, 4, 0x3F⟩, ⟨2, 0x104014, 0x104018, 0x1000, 4, 7⟩,
  ⟨3, 0x110014, 0x110018, 0, 1, 0xF⟩, ⟨4, 0x120014, 0x120018, 0x800, 32, 0x3F⟩,
  ⟨5, 0x140014, 0x140018, 0, 1, 0x3F⟩, ⟨6, 0x150014, 0x150018, 0, 1, 0x3F⟩,
  ⟨7, 0x161004, 0x161008, 0x200, 32, 0x1F⟩, ⟨8, 0x171004, 0x171008, 0x200, 32, 0x1F⟩,
  ⟨9, 0x170014, 0x170018, 0, 1, 0x3F⟩, ⟨10, 0x180014, 0x180018, 0, 1, 0xF⟩,
  ⟨11, 0x1A0014, 0x1A0018, 0, 1, 0xFF⟩, ⟨12, 0x200014, 0x200018, 0, 1, 7⟩,
  ⟨13, 0x240014, 0x240018, 0, 1, 7⟩, ⟨14, 0x580014, 0x580018, 0, 1, 3⟩,
  ⟨14, 0x500014, 0x500018, 0x1000, 32, 1⟩, ⟨15, 0x280014, 0x280018, 0, 1, 0x7F⟩,
  ⟨16, 0x300014, 0x300018, 0x1000, 16, 0x7F⟩, ⟨17, 0x310014, 0x310018, 0x1000, 8, 0x7F⟩,
  ⟨17, 0x310214, 0x310218, 0x1000, 8, 7⟩, ⟨18, 0x20014, 0x20018, 0, 1, 0x3F⟩,
  ⟨18, 0x320014, 0x320018, 0x1000, 2, 0x1F⟩, ⟨19, 0x30014, 0x30018, 0, 1, 0x1D⟩,
  ⟨19, 0x38014, 0x38018, 0, 1, 3⟩, ⟨20, 0x30014, 0x30018, 0, 1, 2⟩,
  ⟨21, 0x40014, 0x40018, 0, 1, 7⟩, ⟨22, 0x600014, 0x600018, 0, 1, 7⟩,
  ⟨23, 0x50014, 0x50018, 0, 1, 0x1F⟩, ⟨24, 0x60014, 0x60018, 0, 1, 0x1F⟩,
  ⟨25, 0x12044, 0x12048, 0, 1, 0xFFFF⟩]

/-- Instance `i` of a source has an enabled event. -/
def IrqSource.on (src : IrqSource) (s : State) (i : Nat) : Bool :=
  let e := (tget 0 s.regs (src.ev + src.stride * i)).toNat &&& src.mask
  if src.en = 0 then e ≠ 0 else (e &&& (tget 0 s.regs (src.en + src.stride * i)).toNat) ≠ 0

/-- Group `g` is pending (R794). -/
def State.groupPending (s : State) (g : Nat) : Bool :=
  irqSources.any (fun src => src.group == g && (List.range src.n).any (fun i => src.on s i))

/-- Group `g` is masked (R795). -/
def State.groupMasked (s : State) (g : Nat) : Bool :=
  bitsOf (tget 0 s.regs (if g < 32 then 0x208 else 0x20C)).toNat (g % 32) 1 == 1

/-- Group `g` is pending and unmasked. -/
def State.groupUp (s : State) (g : Nat) : Bool := s.groupPending g && !s.groupMasked g

/-- Mailbox `n` has an enabled MB_EVENTS bit while group 0 is unmasked (R796). -/
def State.mailboxUp (s : State) (n : Nat) : Bool :=
  let e := (tget 0 s.regs 0x12014).toNat &&& (tget 0 s.regs 0x12018).toNat
  !s.groupMasked 0 && (bitsOf e n 1 == 1 || bitsOf e (8 + n) 1 == 1)

/-- The mask bit of vector `v` in the MSI-X table or the Function Mask holds the vector back. -/
def State.vectorMasked (s : State) (v : Nat) : Bool :=
  s.msix.functionMask || (s.reg (0x100C + 16 * v)).toNat % 2 == 1

/-- The message of vector `v`. -/
def State.msixMsg (s : State) (v : Nat) : MsixMsg :=
  ⟨v, s.reg (0x1000 + 16 * v), s.reg (0x1004 + 16 * v), s.reg (0x1008 + 16 * v)⟩

/-- A message falls due on vector `v`: it is sent, or held with its PBA bit set, or, with MSI-X off, neither (R796). -/
def State.msixDue (s : State) (v : Nat) : State :=
  if !s.msix.enable then s
  else if s.vectorMasked v then { s with msix := { s.msix with pba := s.msix.pba ||| BitVec.ofNat 32 (2 ^ v) } }
  else { s with msix := { s.msix with sent := s.msix.sent ++ [s.msixMsg v] } }

/-- Send the held messages whose masks are clear (R796). -/
def State.msixFlush (s : State) : State :=
  (List.range 32).foldl (fun s v =>
    if bitsOf s.msix.pba.toNat v 1 == 1 && s.msix.enable && !s.vectorMasked v then
      { s with msix := { s.msix with
        pba := s.msix.pba &&& ~~~(BitVec.ofNat 32 (2 ^ v))
        sent := s.msix.sent ++ [s.msixMsg v] } }
    else s) s

/-- The vectors on which messages fall due when the machine goes from `old` to `new`: each group whose route has MSIX_EN and that goes
up, each mailbox that goes up, one message for each vector (R796). -/
def dueVectors (old new : State) : List Nat :=
  let gs := ((List.range 26).filter (fun g => g ≠ 0 && new.flag Reg.INT_ROUTE_MSIX_EN g && new.groupUp g && !old.groupUp g)).map
    (fun g => new.get Reg.INT_ROUTE_VECTOR g)
  let ms := (List.range 8).filter (fun n => new.mailboxUp n && !old.mailboxUp n)
  (gs ++ ms).eraseDups

/-- What the interrupt controller does when a command takes the machine from `old` to `new`. Only the MSI-X state changes. -/
def settle (old new : State) : State :=
  ((dueVectors old new).foldl State.msixDue new).msixFlush

/-! ### Transmit squelch (R280, R281) -/

/-- The device as a leaf has frame lock on its group (R238). -/
def State.leafLocked (s : State) : Bool :=
  let fs := (List.range 4).map (fun i => 4 * s.get Reg.RX_CFG_LEAF_GROUP + i)
  fs.any (fun f => s.flag Reg.FR_RX_CTRL_EN f) && fs.all (fun f => !s.flag Reg.FR_RX_CTRL_EN f || s.flag Reg.FRM_FR_STATUS_SYNC f)

/-- The squelch reasons that hold (R280). -/
def State.squelchReasons (s : State) : Nat :=
  let leaf := s.get Reg.MODE_STATUS_MODE == 2
  let st := s.get Reg.SELF_STATUS_STATE
  b2n s.tx.hostSquelch
    + 2 * b2n ((List.range 4).any (fun d => s.get Reg.DAC_STATUS_STATE d ≠ 2))
    + 4 * b2n (match s.sys.change with | some c => c.gatedAt.isNone | none => false)
    + 8 * b2n ((List.range 32).all (fun f => !s.flag Reg.TXF_CTRL_EN f))
    + 16 * b2n s.tx.pllLost
    + 32 * b2n (s.flag Reg.TXS_CTRL_SQ_ON_RX_LOS && s.flag Reg.RX_STATUS_LINE_LOS)
    + 64 * b2n (leaf && (st == 0 || st == 1 || st == 5 || !s.leafLocked))
    + 128 * b2n (s.flag Reg.PWR_STATUS_SHUTDOWN)

/-- A dedicated furrow of the leaf transmits (log entry 30). -/
def State.dedicatedTx (s : State) : Bool :=
  s.get Reg.SELF_STATUS_STATE == 4 && (List.range 32).any (fun f => s.flag Reg.TXF_CTRL_EN f && bitsOf s.self.burstMask f 1 == 0)

/-- The gate of the burst sent is open now. -/
def State.burstGate (s : State) : Bool :=
  match s.self.sent with
  | some b => decide (b.gate.1 ≤ Int.ofNat s.clock) && decide (Int.ofNat s.clock ≤ b.gate.2)
  | none => false

/-- A burst in progress is cut (R238, R281). -/
def State.cutBurst (s : State) : State :=
  { s with self := { s.self with sent := s.self.sent.map (fun b => { b with gate := (b.gate.1, min b.gate.2 (Int.ofNat s.clock - 1)) }) } }

/-- TX_GATE: on from LEAD_NS before a burst to LAG_NS after it, and while a dedicated furrow of the leaf transmits (R277). -/
def State.gateOn (s : State) : Bool :=
  s.get Reg.MODE_STATUS_MODE == 2 && s.flag Reg.TXS_LEAF_CFG_GATE_EN && !s.flag Reg.TXS_STATUS_SQUELCHED && (s.dedicatedTx || s.burstGate)

/-- SQ_REASON follows the reasons; the first to arise squelches the line: counter, event, record (R281). The line stays squelched until a local
frame boundary finds none (R282). While the transmit block is held in reset nothing follows. -/
def State.refreshSquelch (s : State) : State :=
  if s.sys.gated then s
  else
    let r := s.squelchReasons
    let s1 := if r = s.get Reg.TXS_STATUS_SQ_REASON then s else s.set Reg.TXS_STATUS_SQ_REASON r
    let s2 := if r = 0 || s1.flag Reg.TXS_STATUS_SQUELCHED then s1
      else ((((s1.cutBurst.set Reg.TXS_STATUS_SQUELCHED 1).set Reg.TXS_EVENTS_SQUELCH 1).bump Cnt.SQUELCH_EVENTS).log wbTx 0x25 [BitVec.ofNat 8 r])
    if b2n s2.gateOn = s2.get Reg.TXS_STATUS_GATE then s2 else s2.set Reg.TXS_STATUS_GATE (b2n s2.gateOn)

/-- The end of every meaning: the next state, with the squelch's and the interrupt controller's part of it done. No meaning touches the queue. -/
def done (old new : State) : Out := .next { settle old new.refreshSquelch with pending := old.pending }

/-- INT_N is driven low (R795). -/
def State.intAsserted (s : State) : Bool :=
  (List.range 26).any (fun g => s.groupUp g && s.flag Reg.INT_ROUTE_PIN_INT g)

/-- ALARM_WHY: before firmware ready or FAILED; thermal shutdown; a routed group (R795). -/
def State.alarmWhy (s : State) : Nat :=
  let st := s.get Reg.FW_STATUS_STATE
  b2n (st == 0 || st == 1 || st == 3) + 2 * b2n (s.flag Reg.PWR_STATUS_SHUTDOWN)
    + 4 * b2n ((List.range 26).any (fun g => s.groupUp g && s.flag Reg.INT_ROUTE_PIN_ALARM g))

/-! ### Mailboxes (R657–R662) -/

/-- Mailbox `mb`. -/
def State.mbox (s : State) (mb : Nat) : Mailbox := tget {} s.mbs mb

/-- Replace mailbox `mb`. -/
def State.setMbox (s : State) (mb : Nat) (m : Mailbox) : State := { s with mbs := tput {} s.mbs mb m }

/-- Word `k` of a window. -/
def Mailbox.word (m : Mailbox) (k : Nat) : Word := tget 0 m.words k

def Mailbox.setWord (m : Mailbox) (k : Nat) (v : Word) : Mailbox := { m with words := tput 0 m.words k v }

def Mailbox.opcode (m : Mailbox) : Nat := bitsOf (m.word 0).toNat 0 16
def Mailbox.seq (m : Mailbox) : Nat := bitsOf (m.word 0).toNat 16 8
def Mailbox.flags (m : Mailbox) : Nat := bitsOf (m.word 0).toNat 24 8
def Mailbox.length (m : Mailbox) : Nat := bitsOf (m.word 1).toNat 0 11

/-- The request payload. -/
def Mailbox.payload (m : Mailbox) : List Byte :=
  (List.range m.length).map (fun i => BitVec.ofNat 8 (bitsOf (m.word (2 + i / 4)).toNat (8 * (i % 4)) 8))

/-- A response: CODE, REASON, INDEX and the payload bytes (R657, R661). -/
structure Reply where
  code : Nat
  data : List Byte := []
  reason : Nat := 0
  index : Nat := 0
  deriving DecidableEq, Repr

/-- The response codes of R661. -/
def cOK : Nat := 0
def cBUSY : Nat := 1
def cINVALID : Nat := 2
def cDENIED : Nat := 3
def cNO_TXN : Nat := 4
def cCONFLICT : Nat := 5
def cROLLED_BACK : Nat := 6
def cEXHAUSTED : Nat := 7
def cTIMEOUT : Nat := 8
def cUNSUPPORTED : Nat := 9

/-- The answer OK without a payload, OK with one, and an answer with another code. -/
def ok : Reply := { code := cOK }
def okD (d : List Byte) : Reply := { code := cOK, data := d }
def err (c : Nat) : Reply := { code := c }

/-- Write response bytes into the window from word 2 on. -/
def putData : Mailbox → Nat → List Byte → Mailbox
  | m, _, [] => m
  | m, k, [a] => m.setWord k (BitVec.ofNat 32 (putBits (m.word k).toNat 0 8 a.toNat))
  | m, k, [a, b] => m.setWord k (BitVec.ofNat 32 (putBits (m.word k).toNat 0 16 (le 2 [a, b] 0)))
  | m, k, [a, b, c] => m.setWord k (BitVec.ofNat 32 (putBits (m.word k).toNat 0 24 (le 3 [a, b, c] 0)))
  | m, k, a :: b :: c :: d :: rest => putData (m.setWord k (BitVec.ofNat 32 (le 4 [a, b, c, d] 0))) (k + 1) rest

/-- The window after Omrek's answer (R659 steps 1 to 3). -/
def Mailbox.answered (m : Mailbox) (r : Reply) : Mailbox :=
  let m1 := (putData m 2 r.data).setWord 1 (BitVec.ofNat 32 r.data.length)
  { m1.setWord 0xFF (BitVec.ofNat 32 (r.code + m.seq * 2 ^ 8 + r.reason * 2 ^ 16 + r.index * 2 ^ 24)) with phase := .idle }

/-- Omrek answers mailbox `mb` (R659). -/
def State.answer (s : State) (mb : Nat) (r : Reply) : State :=
  let m := s.mbox mb
  let s1 := s.setMbox mb (m.answered r)
  if m.flags % 2 = 1 then s1.set Reg.MB_EVENTS_DONE (s1.get Reg.MB_EVENTS_DONE ||| 2 ^ mb) else s1

/-- Mailbox `mb` is the next to be served: round robin among those whose commands wait (R660). -/
def State.nextServed (s : State) (mb : Nat) : Bool :=
  (List.range 8).all (fun k => (s.mbox k).phase ≠ .taken || decide ((mb + 7 - s.lastServed) % 8 ≤ (k + 7 - s.lastServed) % 8))

/-- The request payload of mailbox `mb` while it holds command `op`, taken and checked, and is the next to be served. -/
def State.request (s : State) (mb op : Nat) : Option (List Byte) :=
  let m := s.mbox mb
  if m.phase = .taken && m.opcode = op && s.nextServed mb then some m.payload else none

/-- A command that acts at once: nothing where the mailbox holds no such command (log entry 2), else its effect and its answer. -/
def act (mb op : Nat) (s : State) (f : List Byte → State → State × Reply) : Out :=
  match s.request mb op with
  | none => .next s
  | some p => let r := f p { s with lastServed := mb }; done s (r.1.answer mb r.2)

/-- A command "sent when done": `f` gives the answer at once, or the state in which it runs on with the mailbox held (R660). -/
def actLong (mb op : Nat) (s : State) (f : List Byte → State → State × Option Reply) : Out :=
  match s.request mb op with
  | none => .next s
  | some p =>
    let r := f p { s with lastServed := mb }
    match r.2 with
    | some a => done s (r.1.answer mb a)
    | none => done s (r.1.setMbox mb { r.1.mbox mb with phase := .running })

/-- A command that only reports. -/
def report (mb op : Nat) (s : State) (f : List Byte → State → Reply) : Out :=
  act mb op s (fun p s => (s, f p s))

/-- The answer to a long-running command of mailbox `mb`, if it runs. -/
def State.finish (s : State) (mb : Nat) (r : Reply) : State :=
  if (s.mbox mb).phase = .running then s.answer mb r else s

/-! ### Staging (R663–R667) -/

/-- The bytes of Omrek SRAM that a transaction's staged commands take (R666). -/
def Txn.bytes (t : Txn) : Nat := (t.staged.map (fun c => c.payload.length + 16)).sum

/-- The bytes taken by all open transactions. -/
def State.stagedBytes (s : State) : Nat := ((List.range 8).map (fun mb => (s.mbox mb).txn.bytes)).sum

/-- Another mailbox holds an open transaction or a commit that awaits its boundary (R79). -/
def State.othersOpen (s : State) (mb : Nat) : Bool :=
  (List.range 8).any (fun k => k ≠ mb && ((s.mbox k).txn.state == 1 || (s.mbox k).txn.state == 2))

/-- Another mailbox's transaction holds one of the objects or the global mode lock, or the mode lock is asked for while another
transaction is open (R664, R79). -/
def State.conflict (s : State) (mb : Nat) (objs : List Obj) : Bool :=
  (List.range 8).any (fun k => k ≠ mb && (s.mbox k).txn.locks.any (fun o => objs.contains o || o.1 = .modeLock)) ||
    (objs.any (fun o => o.1 = .modeLock) && s.othersOpen mb)

/-- Add a staged command and its locks. -/
def Txn.add (t : Txn) (c : Staged) (objs : List Obj) : Txn :=
  { t with staged := t.staged ++ [c], locks := t.locks ++ objs.filter (fun o => !t.locks.contains o) }

/-- A staging command: DENIED after an orderly shutdown (R764), NO_TXN outside an open transaction, then the refusals its chapter
gives (`refuse`), CONFLICT and EXHAUSTED, else the values are recorded and the objects locked (R664–R666). -/
def stage (mb op : Nat) (objs : List Byte → List Obj) (s : State)
    (refuse : List Byte → State → Option Reply := fun _ _ => none)
    (extra : List Byte → State → State × List Byte := fun _ s => (s, [])) : Out :=
  act mb op s (fun p s =>
    let m := s.mbox mb
    if s.get Reg.FW_STATUS_STATE = 4 then (s, err cDENIED)
    else if m.txn.state ≠ 1 then (s, err cNO_TXN)
    else match refuse p s with
      | some r => (s, r)
      | none =>
        if s.conflict mb (objs p) then (s.bump Cnt.CONFLICTS, err cCONFLICT)
        else if s.stagedBytes + p.length + 16 > 2 ^ 20 then (s, err cEXHAUSTED)
        else
          let s1 := s.setMbox mb { m with txn := m.txn.add { op := op, payload := p } (objs p) }
          let r := extra p s1
          (r.1, okD r.2))

/-! ### Checks of a commit (R670, R809) -/

/-- A rule whose failure fails validation: it looks at the committed state and at the state as it would be after the commit. -/
structure Check where
  /-- The rule. -/
  rule : Nat
  /-- Fails: the transaction's staged commands, the committed state, the state with the configuration after the commit. -/
  bad : List Staged → State → State → Bool
  /-- The staged command stages a value that the check reads (R809). -/
  reads : Staged → Bool
  code : Nat := 2

/-- A staged command has one of the opcodes. -/
def opIn (ops : List Nat) (c : Staged) : Bool := ops.contains c.op

/-! ### Quench bookkeeping (R51–R55) -/

/-- QUENCH_DONE record (R54, R705): kind, index, items discarded, microseconds rounded up. -/
def State.logQuench (s : State) (wb kind idx n start : Nat) : State :=
  s.log wb 0x01 ([BitVec.ofNat 8 kind, 0] ++ bytes 2 idx ++ bytes 4 n ++ bytes 4 ((s.clock - start + 12999) / 13000))

/-- The timeout in force, as elapsed time (R59, R62). -/
def State.quenchTimeout (s : State) : Nat := usT (s.get Reg.QUENCH_CFG_TIMEOUT_US)

end Sys2Proof.Machine
end

