-- ==== Sys2Proof/Machine/Ecc.lean ====
section
/-! DEFINITION. Protected words: writing them, reading them, poison marks (R550–R557, R564). -/

namespace Sys2Proof.Machine

/-- The key of a word of a protected memory. -/
def wordKey (mem inst word : Nat) : Nat := (512 * mem + inst) * 2 ^ 23 + word

/-- Instances of a memory (R550). -/
def memInstances (mem : Nat) : Nat :=
  match mem with
  | 1 => 40
  | 2 => 512
  | 3 => 512
  | 4 => 512
  | 6 => 32
  | 10 => 3
  | 11 => 2
  | _ => 1

/-- Words of an instance (R550). -/
def memWords (mem inst : Nat) : Nat :=
  match mem with
  | 1 => 131072
  | 2 => 4096
  | 3 => 4096
  | 4 => 512
  | 5 => 524288
  | 6 => 4096
  | 7 => 1048576
  | 8 => 16384
  | 9 => 131072
  | 10 => if inst = 2 then 1179648 else 2048
  | 11 => if inst = 1 then 1310720 else 262144
  | 12 => 4096
  | _ => 262144

/-- Bits of a code word, data bits first (R550). Memory 8 holds one parity bit over value and mask. -/
def memCodeBits (mem inst : Nat) : Nat :=
  match mem with
  | 1 => 266
  | 2 => 39
  | 6 => 39
  | 7 => 104
  | 8 => 1025
  | 10 => if inst = 2 then 72 else 39
  | _ => 72

/-- The memory stores a poison flag (R550). Packet buffers hold it for each byte. -/
def memFlagged (mem : Nat) : Bool := mem == 1 || mem == 3 || mem == 4 || mem == 5

/-- Stored state of a word: bad bits, flag. -/
def State.wordBits (s : State) (mem inst word : Nat) : Nat := tget 0 s.mem.words (wordKey mem inst word) % 4
def State.wordFlag (s : State) (mem inst word : Nat) : Bool := tget 0 s.mem.words (wordKey mem inst word) / 4 % 2 == 1

def State.setWordState (s : State) (mem inst word v : Nat) : State :=
  { s with mem := { s.mem with words := tput 0 s.mem.words (wordKey mem inst word) v } }

/-- The armed flip fires on this write: bits inverted, FLIP_ADDR, FLIP_FIRED, MEM_FLIP record, disarmed (R564). FI_ACTIVE follows when no
injector runs (R741). -/
def State.fireFlip (s : State) (mem inst word : Nat) : State :=
  let s1 := s.setWordState mem inst word (s.mem.flipBits + (tget 0 s.mem.words (wordKey mem inst word) / 4) * 4)
  let s2 := { s1 with mem := { s1.mem with flipBits := 0 } }
  let s3 := ((s2.set Reg.FLIP_STATUS_ARMED 0).set Reg.FLIP_STATUS_MEM 0).set Reg.FLIP_STATUS_INSTANCE 0
  let s4 := ((s3.set Reg.FLIP_ADDR_WORD word).set Reg.FLIP_ADDR_INSTANCE inst).set Reg.MEM_EVENTS_FLIP_FIRED 1
  (if s4.get Reg.TEST_STATUS_FI_MASK = 0 then s4.set Reg.TEST_STATUS_FI_ACTIVE 0 else s4).log wbMem 0x63
    ([BitVec.ofNat 8 mem, 0] ++ bytes 2 inst ++ bytes 4 word)

/-- Write one whole word: the code is made anew, the flag is the writer's, an armed flip of the instance fires (R551, R564). -/
def State.memWrite (s : State) (mem inst word : Nat) (poison : Bool := false) : State :=
  let s1 := s.setWordState mem inst word (if poison && memFlagged mem then 4 else 0)
  if s1.flag Reg.FLIP_STATUS_ARMED && s1.get Reg.FLIP_STATUS_MEM = mem && s1.get Reg.FLIP_STATUS_INSTANCE = inst then
    s1.fireFlip mem inst word
  else s1

/-- Write `n` words from `word` on. -/
def State.memWrites (s : State) (mem inst word n : Nat) (poison : Bool := false) : State :=
  (List.range n).foldl (fun s k => s.memWrite mem inst (word + k) poison) s

/-- LAST_ERR and LAST_KIND latch, and the MEM_EVENTS bit sets (R554). -/
def State.latchErr (s : State) (mem inst word kind : Nat) : State :=
  let s1 := ((s.set Reg.LAST_ERR_WORD word mem).set Reg.LAST_ERR_INSTANCE inst mem).set Reg.LAST_KIND_KIND kind mem
  if kind = 1 then s1.set Reg.MEM_EVENTS_CE 1 else s1.set Reg.MEM_EVENTS_UE 1

/-- A corrected read: CE_COUNT, and a MEM_CE record when CE_LOG is 1 and none was written in the last millisecond (R554). -/
def State.corrected (s : State) (mem inst word : Nat) : State :=
  let now := s.devNs
  let recent := (tget [] s.mem.corrections mem).filter (fun t => now < t + 1000000)
  let s1 := { (s.bump Cnt.CE_COUNT mem).latchErr mem inst word 1 with
    mem := { s.mem with corrections := tput [] s.mem.corrections mem (recent ++ [now]) } }
  let due := match tget none s.mem.lastCe mem with
    | some t => t + 1000000 ≤ now
    | none => true
  if s.flag Reg.MEM_CFG_CE_LOG mem && due then
    ({ s1 with mem := { s1.mem with lastCe := tput none s1.mem.lastCe mem (some now) } }).log wbMem 0x61
      ([BitVec.ofNat 8 mem, 0] ++ bytes 2 inst ++ bytes 4 word ++ bytes 4 (recent.length + 1))
  else s1

/-- An uncorrectable read: UE_COUNT and a MEM_UE record with its consumer (R554). -/
def State.uncorrectable (s : State) (mem inst word consumer : Nat) : State :=
  ((s.bump Cnt.UE_COUNT mem).latchErr mem inst word 2).log wbMem 0x60
    ([BitVec.ofNat 8 mem, BitVec.ofNat 8 consumer] ++ bytes 2 inst ++ bytes 4 word)

/-- Write `n` words of memory 9 or 12 from `word` on, both copies (R555); an armed flip inverts bits of the first (log entry 19). -/
def State.memWrites2 (s : State) (mem word n : Nat) : State :=
  (List.range n).foldl (fun s k => (s.setWordState mem 1 (word + k) 0).memWrite mem 0 (word + k)) s

/-- Read one word for a consumer: whether it comes with a poison mark (R553). -/
def State.memRead (s : State) (mem inst word consumer : Nat) : Bool × State :=
  if s.wordBits mem inst word ≥ 2 then (true, s.uncorrectable mem inst word consumer)
  else
    let s1 := if s.wordBits mem inst word = 1 then s.corrected mem inst word else s
    if s.wordFlag mem inst word then (true, s1.bump Cnt.POISON_READS mem) else (false, s1)

/-- Read one word of memory 9 or 12: the second copy where the first is uncorrectable; a mark only where both are (R555). -/
def State.memRead2 (s : State) (mem word consumer : Nat) : Bool × State :=
  if s.wordBits mem 0 word < 2 then s.memRead mem 0 word consumer
  else if s.wordBits mem 1 word < 2 then (false, (if s.wordBits mem 1 word = 1 then s.corrected mem 0 word else s))
  else (true, s.uncorrectable mem 0 word consumer)

/-- Read `n` words from `word` on: whether any was marked. -/
def State.memReads (s : State) (mem inst word n consumer : Nat) : Bool × State :=
  (List.range n).foldl (fun r k => let t := r.2.memRead mem inst (word + k) consumer; (r.1 || t.1, t.2)) (false, s)

/-- Read `n` words of memory 9 or 12. -/
def State.memReads2 (s : State) (mem word n consumer : Nat) : Bool × State :=
  (List.range n).foldl (fun r k => let t := r.2.memRead2 mem (word + k) consumer; (r.1 || t.1, t.2)) (false, s)

/-- A consumer acts on a poison mark: the event bit and, where R556 gives one, the POISON_BITE record. -/
def State.bite (s : State) (consumer : Nat) (turnout : Option Nat) (record : Bool := false) : State :=
  let s1 := s.set Reg.MEM_EVENTS_POISON_BITE 1
  if record then s1.log wbMem 0x62 [BitVec.ofNat 8 consumer, BitVec.ofNat 8 (turnout.getD 0xFF)] else s1

/-- The words of memory 12 that hold key slot `k`, and a context record (PRESUMED, log entry 21). -/
def keyWord (k : Nat) : Nat := 4 * k
def ctxWord (c : Nat) : Nat := 2048 + 2 * c

/-- The protected memory word that a register address maps: the two TSI pages (R406, R550, R556). -/
def mappedMem (a : Nat) : Option (Nat × Nat × Nat) :=
  if 0x188000 ≤ a && a < 0x18A000 then some (10, 0, (a - 0x188000) / 4)
  else if 0x18C000 ≤ a && a < 0x18E000 then some (10, 1, (a - 0x18C000) / 4)
  else none

/-- A host read of the register at `a` meets an uncorrectable memory word. -/
def State.mappedBad (s : State) (a : Nat) : Bool :=
  match mappedMem a with
  | some w => decide (2 ≤ s.wordBits w.1 w.2.1 w.2.2)
  | none => false

/-- A host read of a mapped memory word goes through its code, as consumer 5 (R556). -/
def State.mappedRead (s : State) (a : Nat) : State :=
  match mappedMem a with
  | some w =>
    let r := s.memRead w.1 w.2.1 w.2.2 5
    if r.1 then (r.2.bump Cnt.POISON_REG_READS).bite 5 none else r.2
  | none => s

end Sys2Proof.Machine
end

