-- ==== Sys2Proof/Machine/Access.lean ====
section
/-! DEFINITION. Register accesses of the host through its four doors (R8–R19, R652–R658, R699–R701, R791, R796): reads by type, direct
writes by type, snapshots, captures, mailbox windows and the MSI-X table. -/

namespace Sys2Proof.Machine

/-- The blocks that R618 and R762 hold in reset with their clocks stopped, by address: the line converters, the coherent DSP, burst
receiver, FEC, framer, TSI, cipher, intake, Headgate, turnouts, leaf table and engines. -/
def gatedAddr (a : Nat) : Bool :=
  (0x100000 ≤ a && a < 0x280000) || (0x400000 ≤ a && a < 0x600000)

/-- Host lanes that the mode and profile give (R63, R73). -/
def hostLanes (mode prof : Nat) : Nat :=
  if mode = 3 then 8 else if mode = 2 then 4 else if prof = 2 then 12 else if prof = 3 then 8 else 16

/-- The mode and profile whose resources run: those before a change until its step 3 (R81). -/
def State.poweredMode (s : State) : Nat × Nat :=
  match s.sys.change with
  | some c => if c.gatedAt.isNone then (c.oldMode, c.oldProf) else (s.get Reg.MODE_STATUS_MODE, s.get Reg.MODE_STATUS_PROFILE)
  | none => (s.get Reg.MODE_STATUS_MODE, s.get Reg.MODE_STATUS_PROFILE)

/-- Lane `l` is on: the mode and profile give it, and no thermal shutdown holds it in reset (R63, R73, R762). -/
def State.laneGiven (s : State) (l : Nat) : Bool :=
  !s.flag Reg.PWR_STATUS_SHUTDOWN &&
    (if l < 16 then decide (l < hostLanes s.poweredMode.1 s.poweredMode.2) else s.poweredMode.1 == 3)

/-- The clock of the block at `a` is stopped (R43): a coherent block while those are gated, the burst receiver outside hub mode, a lateral without
power, a lane that is off, held in reset, or in L2, a timing lane in thermal shutdown. -/
def State.clockStopped (s : State) (a : Nat) : Bool :=
  (s.sys.gated && gatedAddr a) ||
    (decide (0x140000 ≤ a ∧ a < 0x150000) && s.poweredMode.1 != 1) ||
    (decide (0x500000 ≤ a ∧ a < 0x520000) && !s.flag Reg.LAT_STATUS_POWERED ((a - 0x500000) / 0x1000)) ||
    (decide (0x300000 ≤ a ∧ a < 0x318000) &&
      (let l := (a - 0x300000) / 0x1000
       !s.laneGiven l || s.get Reg.LN_STATUS_PSTATE l == 2)) ||
    (decide (0x320000 ≤ a ∧ a < 0x322000) && s.flag Reg.PWR_STATUS_SHUTDOWN)

/-! ### Snapshots (R17, R18) -/

/-- Copy one counter word into its shadow. -/
def State.shadowCtr (s : State) (c : Ctr) (i j : Nat) : State :=
  let a := c.addr i j
  let s1 := s.setReg (a + c.shadow) (s.reg a)
  if c.words = 1 then s1 else s1.setReg (a + 4 + c.shadow) (s.reg (a + 4))

/-- The instances of counter `c` that the STATS_SNAP at `a` copies. -/
def Ctr.snapped (c : Ctr) (a : Nat) : List Nat :=
  if c.snapStride = 0 then (if c.snap = a then List.range c.n else [])
  else (List.range c.n).filter (fun i => c.snap + c.snapStride * i = a)

/-- Copy every counter of the block whose STATS_SNAP lies at `a` into its read shadow, policers included (R17, R509). -/
def State.takeSnapshot (s : State) (a : Nat) : State :=
  let s1 := counters.foldl (fun s c =>
    (c.snapped a).foldl (fun s i => (List.range c.m).foldl (fun s j => s.shadowCtr c i j) s) s) s
  if a = 0x24001C then
    { s1 with hg := { s1.hg with policers := s1.hg.policers.map (fun e =>
        (e.1, { e.2 with greenShadow := e.2.green, yellowShadow := e.2.yellow, redShadow := e.2.red })) } }
  else s1

/-- A write of 1 to a STATS_SNAP field: the counters are copied; the field reads 1 until the copy's completion has crossed back, or
0 at once where the block's clock is stopped (R17). -/
def State.startSnap (s : State) (a : Nat) : State :=
  let s1 := s.takeSnapshot a
  if s.clockStopped a then s1 else s1.setReg a 1

/-! ### Mailbox windows (R657, R658) -/

/-- A write to word `off` of a mailbox window other than the doorbell's RING: stored, or discarded and counted while PENDING is 1.
RESPONSE and DOORBELL hold nothing of the host's. -/
def State.windowWrite (s : State) (mb off : Nat) (v : Word) : State :=
  let m := s.mbox mb
  if m.phase ≠ .idle then s.bump Cnt.MB_WRITES_IGNORED
  else if off % 4 ≠ 0 || 0x3F8 ≤ off then s
  else s.setMbox mb (m.setWord (off / 4) v)

/-! ### Reads -/

/-- The words of MB_STATUS: PENDING, TXN_OPEN, COMMITTING (R675). -/
def State.mbStatus (s : State) : Nat :=
  ((List.range 8).map (fun k =>
    (b2n (decide ((s.mbox k).phase ≠ .idle)) + 2 ^ 8 * b2n ((s.mbox k).txn.state == 1) + 2 ^ 16 * b2n ((s.mbox k).txn.state == 2)) * 2 ^ k)).sum

/-- LOG_STATUS: EMPTY, FILL, RECORDS (R704). -/
def State.logStatus (s : State) : Nat :=
  b2n s.logs.held.isEmpty + 2 * s.logs.fill + 2 ^ 15 * s.logs.held.length

/-- HO_ELAPSED: the seconds that the holdover timer has run (R637). -/
def State.hoElapsed (s : State) : Nat :=
  match s.tim.hoStart with
  | some t => min ((s.clock - t) / secT 1) (s.get Reg.HO_CFG_HO_SPEC_S)
  | none => s.get Reg.HO_ELAPSED_SECONDS

/-! ### Ethernet ports (R580) -/

/-- Host lanes of a port by ETH_RATE and lane RATE; 0 where R580 gives none. -/
def portWidth (eth rate : Nat) : Nat :=
  match rate, eth with
  | 2, 0 => 1
  | 2, 1 => 2
  | 2, 2 => 4
  | 2, 3 => 8
  | 1, 1 => 1
  | 1, 2 => 2
  | 1, 3 => 4
  | 1, 4 => 8
  | _, _ => 0

/-- The lanes of the Ethernet port of a host packet port. -/
def State.hostLanesOf (s : State) (t : Nat) : List Nat :=
  let l := s.get Reg.TN_PKT_LANE t
  (List.range (max 1 (portWidth (s.get Reg.TN_PKT_ETH_RATE t) (s.get Reg.LN_CFG_RATE l)))).map (· + l)

/-- The lanes of a client of the TSI. -/
def State.clientLanesOf (s : State) (t : Nat) : List Nat :=
  let l := s.get Reg.TN_CLIENT_LANE t
  match s.get Reg.TN_CLIENT_KIND t with
  | 1 => (List.range (max 1 (portWidth (s.get Reg.TN_CLIENT_ETH_RATE t) (s.get Reg.LN_CFG_RATE l)))).map (· + l)
  | 2 => [l]
  | 4 => [l]
  | _ => []

/-- The committed Ethernet ports: first lane and lanes (R387, R451, R580). -/
def State.ethPorts (s : State) : List (Nat × List Nat) :=
  (List.range 256).filterMap (fun t =>
    if s.flag Reg.TN_PKT_HOST_PORT t then some (s.get Reg.TN_PKT_LANE t, s.hostLanesOf t)
    else if s.get Reg.TN_CLIENT_KIND t = 1 then some (s.get Reg.TN_CLIENT_LANE t, s.clientLanesOf t)
    else none)

/-- A host lane that receives Ethernet for no committed client: its codewords are decoded and discarded (R806). -/
def State.orphanLane (s : State) (l : Nat) : Bool :=
  decide (l < 16) && s.get Reg.LN_CFG_FORMAT l == 1 && !s.ethPorts.any (fun p => p.2.contains l)

/-- PORT_STATUS, PORT_CFG and the RS counters of lane `l` read 0 where no Ethernet port starts; the counters of a lane without a client show (R604,
R806). -/
def State.portHidden (s : State) (a : Nat) : Bool :=
  let o := (a - 0x300000) % 0x1000
  let l := (a - 0x300000) / 0x1000
  decide (0x300000 ≤ a ∧ a < 0x318000) &&
    ((decide (0x40 ≤ o ∧ o < 0x48) && !s.ethPorts.any (fun p => p.1 == l)) ||
      ((decide (0x48 ≤ o ∧ o < 0x60) || o == 0x60 || o == 0x64 || o == 0x68) && !s.ethPorts.any (fun p => p.1 == l) && !s.orphanLane l))

/-- FI_STATE of an injector: its fields and the whole seconds that it has left (R744). -/
def State.fiState (s : State) (i : Nat) : Word :=
  match tget none s.test.injectors i with
  | none => 0
  | some x => BitVec.ofNat 32 (x.point + 4 * x.target + 2 ^ 10 * x.action + 2 ^ 12 * x.n + 2 ^ 17 * (x.timeoutS - (s.clock - x.start) / secT 1))

/-- STEP_PHASE of an ADC (R107, R133): 1 until 172.8 µs into a step, 2 until 991.7 µs, then 3 where a swap is armed. -/
def State.stepPhase (s : State) (a : Nat) : Nat :=
  match (tget {} s.conv.adcs a).step with
  | none => 0
  | some st =>
    if s.clock < st.t0 + nsT 172800 then 1
    else if s.clock < st.t0 + nsT 991700 || st.staged.isNone then 2
    else 3

/-- ITER_SUM, LDPC_FAILS, BCH_FIXES and CYCLE_ERRS of a furrow, and their shadows, read 0 in the interoperability modes (R327). -/
def State.interopHidden (s : State) (a : Nat) : Bool :=
  let o := (a - 0x161000) % 0x100
  decide (0x161000 ≤ a ∧ a < 0x165000) && s.get Reg.FEC_CTRL_LINE_FEC != 0 && (o == 0x30 || o == 0x34 || o == 0x3C || o == 0x40 || o == 0x48)

/-- What the register word at `a` reads as now, before any capture (R9–R11, R657, R699, R790, R794, R795). -/
def State.readWord (s : State) (a : Nat) : Word :=
  if a % 4 ≠ 0 || 0x1000000 ≤ a then 0
  else if a = 0x4 then (Config.grade.zeroExtend 32)
  else if a = 0x10 then BitVec.ofNat 32 s.devNs
  else if a = 0x14 then BitVec.ofNat 32 (s.devNs / 2 ^ 32)
  else if a = 0x18 then BitVec.ofNat 32 s.devFrac
  else if a = 0x200 then BitVec.ofNat 32 (((List.range 26).map (fun g => b2n (s.groupPending g) * 2 ^ g)).sum)
  else if a = 0x210 then BitVec.ofNat 32 (b2n s.intAsserted + 2 * b2n (s.alarmWhy != 0) + 4 * s.alarmWhy)
  else if a = 0x1400 then s.msix.pba
  else if 0x10000 ≤ a && a < 0x12000 then
    let m := s.mbox ((a - 0x10000) / 0x400)
    let k := (a - 0x10000) % 0x400 / 4
    if k = 0xFE then BitVec.ofNat 32 (2 * b2n (m.phase ≠ .idle)) else m.word k
  else if a = 0x12010 then BitVec.ofNat 32 s.mbStatus
  else if a = 0x40010 then BitVec.ofNat 32 s.logStatus
  else if 0x48000 ≤ a && a < 0x50000 then (s.logs.held.flatMap recWords).getD ((a - 0x48000) / 4) 0
  else if 0x50040 ≤ a && a < 0x50050 then Config.deviceUid ((a - 0x50040) / 4)
  else if inArray 0x50200 0x20 8 0 1 a then s.fiState ((a - 0x50200) / 0x20)
  else if a = 0x2004C then BitVec.ofNat 32 s.hoElapsed
  else if a = 0x40004 then 0
  else if inArray 0x100010 0x1000 4 0 1 a then BitVec.ofNat 32 (putBits (s.reg a).toNat 4 2 (s.stepPhase ((a - 0x100010) / 0x1000)))
  else if s.portHidden a || s.interopHidden a then 0
  else s.reg a

/-- The LO words whose HI words share their captured sample (R137 and its repetitions): every traffic and performance counter, and the
latched times; with the HI words they capture. -/
def hiWords (a : Nat) : List Nat :=
  if a = 0x10 then [0x14, 0x18]
  else if inArray 0x100040 0x1000 4 0 1 a || inArray 0x320040 0x1000 2 0 1 a || a = 0x38040 then [a + 4]
  else if inArray 0x1B0004 0x20 1024 0 1 a then [a + 4]
  else match findCtr counters a with
    | some c => if c.words = 1 then [] else [a + 4]
    | none => []

/-- The interface `i`. -/
def State.iface (s : State) (i : Iface) : IfState := tget {} s.ifs i.idx

/-- Replace interface `i`. -/
def State.setIface (s : State) (i : Iface) (f : IfState) : State := { s with ifs := tput {} s.ifs i.idx f }

/-- A read of word `a` on interface `i` that takes nothing and captures nothing: the captured value where the interface's capture
belongs to its pair, else the live value (R654). -/
def State.readVia (s : State) (i : Iface) (a : Nat) : Word :=
  match (s.iface i).capture with
  | some (_, ws) => (ws.lookup a).getD (s.readWord a)
  | none => s.readWord a

/-- Put the words of a read access on an interface's read bus. -/
def State.returnData (s : State) (i : Iface) (vs : List Word) : State := s.setIface i { s.iface i with rdata := vs }

/-- The MDIO window follows the accesses made through it (R656). -/
def State.mdioAccess (s : State) (i : Iface) (a : Nat) (v : Word) : State :=
  if i = .mdio then
    let f := s.iface i
    let nxt := if f.mdioAutoinc then BitVec.ofNat 32 (a + 4) else BitVec.ofNat 32 a
    s.setIface i { f with mdioAddr := nxt, mdioData := v }
  else s

/-! ### Direct writes -/

/-- The effect of a direct write on the word of a descriptor: RW bits take the value, W1C bits written as 1 clear, `racing` bits are
set by events of the same cycle and stay (R11, R12). -/
def writeBits (d : RegDesc) (old v racing : Nat) : Nat :=
  let keep := old &&& (0xFFFFFFFF ^^^ d.rw)
  let cleared := (keep ||| (v &&& d.rw)) &&& (0xFFFFFFFF ^^^ (v &&& d.w1c))
  cleared ||| (racing &&& d.w1c)

/-- A direct write of `v` to the aligned word `a` (R10–R15, R17, R700, R701). -/
def State.directWrite (s : State) (a : Nat) (v : Word) (racing : Word := 0) : State :=
  if 0x10000 ≤ a && a < 0x12000 then s.windowWrite ((a - 0x10000) / 0x400) ((a - 0x10000) % 0x400) v
  else if 0x1000 ≤ a && a < 0x1200 then
    s.setReg a (if a % 16 = 12 then v &&& 1 else if a % 16 = 0 then v &&& 0xFFFFFFFC else v)
  else match findDesc regDescs a with
    | none => s
    | some d =>
      let s0 := if d.tx = 0 then s else s.bump Cnt.TX_WRITE_IGNORED
      if a = 0x40004 then s0.logPop v
      else
        let s1 := s0.setReg a (BitVec.ofNat 32 (writeBits d (s0.reg a).toNat v.toNat racing.toNat))
        let s2 := if a = 0x40000 then s1.logThresh
          else if a = 0x150014 ∧ v.toNat.testBit 1 then { s1 with tx := { s1.tx with clipCleared := s1.clock } } else s1
        if v.toNat &&& d.sc ≠ 0 then s2.startSnap a else s2

/-- Whether the word at `a` holds a field of the type picked by `f`. -/
def hasType (f : RegDesc → Nat) (a : Nat) : Bool :=
  match findDesc regDescs a with
  | some d => f d ≠ 0
  | none => false

/-- The aligned words that an access of `size` bytes at `addr` is made of, 0 for any other access (R8, R656): the doublewords of a PCIe access, one on MDIO, on
SPI and I²C every whole word that has passed. -/
def accessWords (via : Iface) (addr size : Nat) : Nat :=
  if addr % 4 ≠ 0 then 0
  else match via with
    | .pcie => if size % 4 = 0 && addr + size ≤ 0x1000000 then size / 4 else 0
    | .mdio => if size = 4 then 1 else 0
    | _ => size / 4

/-- The words of an access, each with its address. -/
def addressed (addr : Nat) : List Word → List (Nat × Word)
  | [] => []
  | v :: rest => (addr, v) :: addressed (addr + 4) rest

/-- An access to one of the 16-bit registers of the MMD 30 window (R656). -/
def mmdAccess (via : Iface) (addr size : Nat) : Bool := via == .mdio && size == 2 && decide (addr < 5)

/-- TX_FIELD_WRITE: a direct write that covers a TX field (R14). -/
def execTxFieldWrite (via : Iface) (addr : Nat) (v : Word) (s : State) : Out :=
  if hasType RegDesc.tx addr then done s ((s.directWrite addr v).mdioAccess via addr v) else .next s

/-- W1C_WRITE: a write to a word of W1C bits; `racing` names the bits whose event falls in the same cycle (R12). -/
def execW1cWrite (via : Iface) (addr : Nat) (v racing : Word) (s : State) : Out :=
  if hasType RegDesc.w1c addr then done s ((s.directWrite addr v racing).mdioAccess via addr v) else .next s

/-- STATS_SNAP: a write to a STATS_SNAP field (R17). -/
def execStatsSnap (via : Iface) (addr : Nat) (v : Word) (s : State) : Out :=
  if hasType RegDesc.sc addr then done s ((s.directWrite addr v).mdioAccess via addr v) else .next s

/-- SNAP_DONE: the completion of a snapshot has crossed back (R17). -/
def execSnapDone (addr : Nat) (s : State) : Out :=
  if hasType RegDesc.sc addr then done s (s.setReg addr 0) else .next s

/-- A counter that TELEMETRY reports by the period is read away: the period's start moves with it (R702, R706). -/
def State.telemCleared (s : State) (a : Nat) : State :=
  if a = 0x170020 || a = 0x20020 || (0x161038 ≤ a && a < 0x165038 && (a - 0x161038) % 0x200 = 0) then
    { s with logs := { s.logs with telemBase := tput 0 s.logs.telemBase a (tget 0 s.logs.telemBase a - Int.ofNat (s.reg a).toNat) } }
  else s

/-- One aligned word is read on interface `via`: what it returns, and the state after it. The LO word of a pair replaces the capture (R654); an RC
counter is left at the `racing` events of the same cycle (R11, R13); any other word returns its value, from the capture where that holds it; a
word of a mapped memory that is uncorrectable returns 0 (R556). -/
def State.hostRead (s : State) (via : Iface) (addr racing : Nat) : Word × State :=
  match hiWords addr with
  | [] =>
    match findCtr counters addr with
    | some c =>
      if c.words = 1 then (s.readWord addr, (s.telemCleared addr).setReg addr (BitVec.ofNat 32 (min racing 0xFFFFFFFF)))
      else (s.readVia via addr, s)
    | none => (if s.mappedBad addr then 0 else s.readVia via addr, s.mappedRead addr)
  | hs => (s.readWord addr, s.setIface via { s.iface via with capture := some (addr, hs.map (fun h => (h, s.readWord h))) })

/-- The doublewords at `addr` and after it are read one by one: the words, in order, and the state. -/
def State.hostReads (s : State) (via : Iface) (addr racing : Nat) : Nat → List Word × State
  | 0 => ([], s)
  | k + 1 =>
    let r := s.hostRead via addr racing
    let rest := r.2.hostReads via (addr + 4) 0 k
    (r.1 :: rest.1, rest.2)

/-- A read of register `r` of the MMD 30 window: ADDR, AUTOINC, or DATA, where a read of the lower half reads the word at ADDR and holds the upper half
(R656). -/
def State.mmdRead (s : State) (r : Nat) : State :=
  let f := s.iface .mdio
  let half (v k : Nat) : List Word := [BitVec.ofNat 32 (bitsOf v (16 * k) 16)]
  match r with
  | 0 => s.returnData .mdio (half f.mdioAddr.toNat 0)
  | 1 => s.returnData .mdio (half f.mdioAddr.toNat 1)
  | 2 =>
    let x := s.hostRead .mdio f.mdioAddr.toNat 0
    (x.2.mdioAccess .mdio f.mdioAddr.toNat x.1).returnData .mdio (half x.1.toNat 0)
  | 3 => s.returnData .mdio (half f.mdioData.toNat 1)
  | _ => s.returnData .mdio [BitVec.ofNat 32 (b2n f.mdioAutoinc)]

/-- A read access of `size` bytes: the words it returns are on the interface's read bus, on PCIe with the EP bit where one was uncorrectable
(R556); an access that is not made of aligned words returns 0 and does nothing else (R8). -/
def State.readAccess (s : State) (via : Iface) (addr size racing : Nat) : State :=
  let n := accessWords via addr size
  if mmdAccess via addr size then s.mmdRead addr
  else if n = 0 then s.returnData via [0]
  else
    let r := s.hostReads via addr racing n
    let ep := via == .pcie && (List.range n).any (fun k => s.mappedBad (addr + 4 * k))
    let s1 := (r.2.returnData via r.1).mdioAccess via addr (r.1.getD 0 0)
    s1.setIface via { s1.iface via with ep := ep }

/-- RC_READ: a read access at an RC counter, which returns its value and clears it; `racing` events of the same cycle stay counted (R8, R13). -/
def execRcRead (via : Iface) (span : Span) (racing : Nat) (s : State) : Out := done s (s.readAccess via span.addr span.size racing)

/-- LO_WORD_READ: a read access at the LO word of a pair, which replaces the interface's capture (R654). -/
def execLoWordRead (via : Iface) (span : Span) (s : State) : Out := done s (s.readAccess via span.addr span.size 0)

/-- TIME_LO_READ: device time is sampled and TIME_HI and TIME_FRAC captured (R791). -/
def execTimeLoRead (via : Iface) (s : State) : Out := done s (s.readAccess via 0x10 4 0)

/-- LOG_POP (R700). -/
def execLogPop (via : Iface) (v : Word) (s : State) : Out := done s ((s.directWrite 0x40004 v).mdioAccess via 0x40004 v)

/-- LOG_THRESH (R701). -/
def execLogThresh (via : Iface) (v : Word) (s : State) : Out := done s ((s.directWrite 0x40000 v).mdioAccess via 0x40000 v)

/-- INT_MASK_WRITE: newly unmasked pending groups and mailboxes send their messages (R796). -/
def execIntMaskWrite (via : Iface) (hi : Bool) (v : Word) (s : State) : Out :=
  let a := if hi then 0x20C else 0x208
  done s ((s.directWrite a v).mdioAccess via a v)

/-- MSIX_UNMASK: the mask bit of a vector, or the Function Mask, clears and the held messages are sent (R796). -/
def execMsixUnmask (vector : Option (Fin 32)) (s : State) : Out :=
  match vector with
  | some v => done s (s.setReg (0x100C + 16 * v.val) 0)
  | none => done s { s with msix := { s.msix with functionMask := false } }

/-- MAILBOX_WINDOW_WRITE: a write to a mailbox window (R657, R658). -/
def execMailboxWindowWrite (via : Iface) (mb : Fin 8) (off : Nat) (v : Word) (s : State) : Out :=
  if off < 0x3F8 then done s ((s.windowWrite mb.val off v).mdioAccess via (0x10000 + 0x400 * mb.val + off) v) else .next s

/-- LOG_RECORD_WRITE: the log writer has written a record from the queue of a writing block (R696). -/
def execLogRecordWrite (block : Fin 30) (s : State) : Out := if s.logTurn block.val then done s (s.logWrite block.val) else .next s

end Sys2Proof.Machine
end

