-- ==== Sys2Proof/Machine/Terrace.lean ====
section
/-! DEFINITION. The Terrace code to the bit: scrambler, BCH code, quasi-cyclic LDPC code, interleaver, the fields of a codeword and what the BCH decoder makes
of the hard decisions (R297–R305, R309, R310, R315, R318). -/

namespace Sys2Proof.Machine

/-- The two members of the family: the code of a continuous stream and that of bursts. -/
inductive Terrace where
  | line | burst
  deriving DecidableEq, Repr

/-- The lifting size Z (R302). -/
def Terrace.z : Terrace → Nat
  | .line => 128
  | .burst => 32

/-- Block rows m_b of a RATE_SEL (R298). -/
def baseRows (sel : Nat) : Nat :=
  match sel with
  | 0 => 47
  | 1 => 38
  | 2 => 29
  | 3 => 23
  | _ => 16

/-- Bits of a codeword as sent: 240 block columns (R303). -/
def Terrace.n (t : Terrace) : Nat := 240 * t.z

/-- The information bits k_L of the LDPC code (R298, R310). -/
def Terrace.kL (t : Terrace) (sel : Nat) : Nat := (240 - baseRows sel) * t.z

/-- The parity bits d of the BCH code (R301). -/
def Terrace.d : Terrace → Nat
  | .line => 45
  | .burst => 39

/-- The information bits k_B of the BCH code (R298, R310). -/
def Terrace.kB (t : Terrace) (sel : Nat) : Nat := t.kL sel - t.d

/-- Codewords in a cycle (R298). -/
def cycleLen (sel : Nat) : Nat := if sel = 1 || sel = 4 then 5 else 1

/-- The Flume bits F of a codeword by its cycle index (R298). -/
def flumeBits (sel index : Nat) : Nat :=
  match sel with
  | 0 => 24576
  | 1 => if index = 0 then 25804 else 25805
  | 2 => 26880
  | 3 => 27648
  | _ => if index ≤ 1 then 28569 else 28570

/-- The pad bits P of a codeword by its cycle index (R298). -/
def padBits (sel index : Nat) : Nat :=
  match sel with
  | 0 => 80
  | 1 => if index = 0 then 4 else 3
  | 2 => 80
  | 3 => 80
  | _ => if index ≤ 1 then 55 else 54

/-- Payload bytes in a burst codeword (R310). -/
def burstBytes (sel : Nat) : Nat :=
  match sel with
  | 0 => 767
  | 1 => 803
  | 2 => 839
  | 3 => 863
  | _ => 891

/-! ### Bits -/

/-- The `w` bits of a number, most significant first. -/
def msbBits (w v : Nat) : List Bool := (List.range w).map (fun i => v.testBit (w - 1 - i))

/-- The number that bits spell, most significant first. -/
def bitsNat (bs : List Bool) : Nat := bs.foldl (fun a b => 2 * a + b.toNat) 0

/-- The bits of bytes, bit 7 of each first. -/
def byteBits (bs : List Byte) : List Bool := bs.flatMap (fun b => msbBits 8 b.toNat)

/-- Bitwise exclusive or of two rows of bits. -/
def xorBits (a b : List Bool) : List Bool := List.zipWith (fun x y => x != y) a b

/-- Places at which two rows of bits differ. -/
def diffBits (a b : List Bool) : Nat := (xorBits a b).countP id

/-! ### Scrambler (R300) -/

/-- The state that a multiframe or a burst codeword starts from. -/
def scramblerStart : Nat := 0x7FFFFFFF

/-- One bit through the scrambler: the bit sent and the next state. -/
def scrambleBit (r : Nat) (d : Bool) : Bool × Nat :=
  let f := r.testBit 30 != r.testBit 27
  (d != f, (2 * r + f.toNat) % 2 ^ 31)

/-- A row of bits through the scrambler: the bits sent and the state after them. -/
def scramble (r : Nat) : List Bool → List Bool × Nat
  | [] => ([], r)
  | d :: ds =>
    let one := scrambleBit r d
    let rest := scramble one.2 ds
    (one.1 :: rest.1, rest.2)

/-! ### Outer code (R301) -/

/-- The degree m of the field. -/
def Terrace.m : Terrace → Nat
  | .line => 15
  | .burst => 13

/-- The primitive polynomial, as the number whose bit i is the coefficient of x^i. -/
def Terrace.prim : Terrace → Nat
  | .line => 2 ^ 15 + 3
  | .burst => 2 ^ 13 + 27

/-- Times α. -/
def Terrace.timesAlpha (t : Terrace) (a : Nat) : Nat :=
  let b := 2 * a
  if b.testBit t.m then b ^^^ t.prim else b

/-- The product of two elements, from the bits of the second, highest first. -/
def Terrace.mulGo (t : Terrace) (a b : Nat) : Nat → Nat → Nat
  | 0, acc => acc
  | k + 1, acc => t.mulGo a b k ((if b.testBit k then a else 0) ^^^ t.timesAlpha acc)

/-- The product of two elements of the field. -/
def Terrace.mul (t : Terrace) (a b : Nat) : Nat := t.mulGo a b t.m 0

/-- A power of α. -/
def Terrace.alpha (t : Terrace) : Nat → Nat
  | 0 => 1
  | k + 1 => t.timesAlpha (t.alpha k)

/-- A power of an element. -/
def Terrace.pow (t : Terrace) (a : Nat) : Nat → Nat
  | 0 => 1
  | k + 1 => t.mul a (t.pow a k)

/-- The inverse: the power 2^m − 2, as the product of the squarings after the first (a product over nothing for 0). -/
def Terrace.inv (t : Terrace) (a : Nat) : Nat :=
  ((List.range (t.m - 1)).foldl (fun (x : Nat × Nat) _ =>
    let q := t.mul x.1 x.1
    (q, t.mul x.2 q)) (a, 1)).2

/-- The product of two polynomials over GF(2). -/
def polyMul (a b : Nat) : Nat → Nat
  | 0 => 0
  | k + 1 => polyMul a b k ^^^ (if b.testBit k then a <<< k else 0)

/-- The minimal polynomial of α^e: the product of x + α^(e·2^i) over the m conjugates, its coefficients as elements, highest degree last. -/
def Terrace.minPoly (t : Terrace) (e : Nat) : Nat :=
  let root := fun i : Nat => t.alpha (e * 2 ^ i % (2 ^ t.m - 1))
  let coeffs := (List.range t.m).foldl (fun (p : List Nat) i =>
    let lower := p.map (t.mul (root i)) ++ [0]
    List.zipWith (· ^^^ ·) lower (0 :: p)) [1]
  (coeffs.zipIdx.map (fun c => c.1 * 2 ^ c.2)).sum

/-- The generator g(x): the minimal polynomials of α, α³ and α⁵ are different, so their least common multiple is their product. -/
def Terrace.gen (t : Terrace) : Nat :=
  polyMul (polyMul (t.minPoly 1) (t.minPoly 3) 16) (t.minPoly 5) 16

/-- The remainder of a polynomial, given highest degree first, times x^d modulo g(x). -/
def Terrace.remainder (t : Terrace) (g : Nat) (bs : List Bool) : Nat :=
  bs.foldl (fun r b =>
    let x := 2 * r
    let y := if x.testBit t.d != b then x ^^^ g else x
    y % 2 ^ t.d) 0

/-- The codeword of the outer code: the information bits and the d parity bits, highest degree first. -/
def Terrace.bch (t : Terrace) (info : List Bool) : List Bool := info ++ msbBits t.d (t.remainder t.gen info)

/-- The value of a row of bits, highest degree first, at α^e. -/
def Terrace.eval (t : Terrace) (e : Nat) (bs : List Bool) : Nat :=
  let a := t.alpha e
  bs.foldl (fun v b => t.mul v a ^^^ b.toNat) 0

/-- The degrees of the errors that an error locator x³ + σ₁x² + σ₂x + σ₃ (or of degree 2 where σ₃ is 0) names among the first `len` powers of α;
none where not all its roots are there (R318). -/
def Terrace.roots (t : Terrace) (len s1 s2 s3 : Nat) : Option (List Nat) :=
  let deg := if s3 = 0 then 2 else 3
  let found := (List.range len).foldl (fun (x : Nat × List Nat) i =>
    let q := t.mul x.1 x.1
    let v := t.mul q x.1 ^^^ t.mul s1 q ^^^ t.mul s2 x.1 ^^^ s3
    (t.timesAlpha x.1, if v = 0 then i :: x.2 else x.2)) (1, [])
  if found.2.length = deg then some found.2 else none

/-- The degrees of the at most 3 errors with syndromes S₁, S₃, S₅ among the first `len` powers of α; none where there is no such set (R318). -/
def Terrace.errors (t : Terrace) (len s1 s3 s5 : Nat) : Option (List Nat) :=
  let cube := t.mul s1 (t.mul s1 s1)
  if s1 = 0 && s3 = 0 && s5 = 0 then some []
  else if s3 = cube then
    if s1 ≠ 0 && s5 = t.mul cube (t.mul s1 s1) then
      ((List.range len).foldl (fun (x : Nat × Option (List Nat)) i =>
        (t.timesAlpha x.1, if x.1 = s1 then some [i] else x.2)) (1, none)).2
    else none
  else
    let den := cube ^^^ s3
    let sig2 := t.mul (t.mul (t.mul s1 s1) s3 ^^^ s5) (t.inv den)
    t.roots len s1 sig2 (den ^^^ t.mul s1 sig2)

/-- What the BCH decoder makes of the k_L bits of the outer code (R318): the bits corrected and how many, or nothing where the codeword is
uncorrectable. The locator's roots may lie in k_L + d positions, as R318 has it: one beyond the k_L sent corrects no bit of the codeword (log entry 88). -/
def Terrace.bchDecode (t : Terrace) (sel : Nat) (bs : List Bool) : Option (List Bool × Nat) :=
  (t.errors (t.kL sel + t.d) (t.eval 1 bs) (t.eval 3 bs) (t.eval 5 bs)).map (fun es =>
    let top := bs.length - 1
    (es.foldl (fun b e => if e ≤ top then b.modify (top - e) (fun v => !v) else b) bs, es.length))

/-! ### Inner code (R302–R304) -/

/-- The multipliers q of R302. -/
def baseQ (t : Nat) : Nat :=
  match t with
  | 0 => 7
  | 1 => 23
  | 2 => 61
  | _ => 97

/-- The entry of the base matrix at a block row and block column: a shift, or none where it is empty. -/
def Terrace.entry (c : Terrace) (sel i j : Nat) : Option Nat :=
  let mb := baseRows sel
  if j + mb ≤ 255 then
    let w := if j % 4 = 0 then 4 else 3
    ((List.range w).find? (fun t => (j + t * (mb / w)) % mb = i)).map (fun t => (baseQ t * (j + 1) * (i + 1) + t) % c.z)
  else if j = 256 - mb + i || j + 1 = 256 - mb + i then some 0
  else none

/-- A block rotated by `s`: element a becomes element (a + s) mod Z (R304). -/
def rotate (s : Nat) (v : List Bool) : List Bool := v.drop s ++ v.take s

/-- A row of bits cut into blocks of `z`. -/
def blocks (z : Nat) : Nat → List Bool → List (List Bool)
  | 0, _ => []
  | k + 1, bs => bs.take z :: blocks z k (bs.drop z)

/-- The sum of the blocks of columns 16 and up that a block row of the base matrix joins, for the columns given from 16 on (the 16 before them
are zero, R303). -/
def Terrace.rowSum (c : Terrace) (sel i : Nat) (cols : List (List Bool)) : List Bool :=
  cols.zipIdx.foldl (fun acc v =>
    match c.entry sel i (16 + v.2) with
    | some s => xorBits acc (rotate s v.1)
    | none => acc) (List.replicate c.z false)

/-- The LDPC parity of information bits (R304). -/
def Terrace.ldpcParity (c : Terrace) (sel : Nat) (info : List Bool) : List Bool :=
  let cols := blocks c.z (240 - baseRows sel) info
  ((List.range (baseRows sel)).foldl (fun (x : List Bool × List Bool) i =>
    let p := xorBits (c.rowSum sel i cols) x.1
    (p, x.2 ++ p)) (List.replicate c.z false, [])).2

/-- H × v is zero for the codeword c (R303). -/
def Terrace.syndromeZero (c : Terrace) (sel : Nat) (cw : List Bool) : Bool :=
  let cols := blocks c.z 240 cw
  (List.range (baseRows sel)).all (fun i => (c.rowSum sel i cols).all (fun b => !b))

/-! ### Interleaver (R305) -/

/-- The rows a of the interleaver. -/
def Terrace.ia : Terrace → Nat
  | .line => 120
  | .burst => 60

/-- The columns b of the interleaver. -/
def Terrace.ib : Terrace → Nat
  | .line => 256
  | .burst => 128

/-- The index in the codeword of the bit sent in position `t`. -/
def Terrace.sentIndex (c : Terrace) (t : Nat) : Nat := t % c.ia * c.ib + t / c.ia

/-- The position in which the bit of index `x` is sent. -/
def Terrace.sentPos (c : Terrace) (x : Nat) : Nat := x % c.ib * c.ia + x / c.ib

/-- A codeword in the order in which its bits are sent. -/
def Terrace.interleave (c : Terrace) (cw : List Bool) : List Bool :=
  let a := cw.toArray
  (List.range c.n).map (fun t => a.getD (c.sentIndex t) false)

/-- What belongs to each bit of a codeword by its index, from the order in which the bits are sent (R316). -/
def Terrace.byIndex {α : Type} (c : Terrace) (none_ : α) (sent : List α) : List α :=
  let a := sent.toArray
  (List.range sent.length).map (fun x => a.getD (c.sentPos x) none_)

/-- The bits of a codeword by index, from the order in which they are sent (R316). -/
def Terrace.deinterleave (c : Terrace) (sent : List Bool) : List Bool := c.byIndex false sent

/-! ### Whole codewords -/

/-- The coded bits of information bits of the outer code, in the order sent. -/
def Terrace.encode (c : Terrace) (sel : Nat) (info : List Bool) : List Bool :=
  let outer := c.bch info
  c.interleave (outer ++ c.ldpcParity sel outer)

/-- The information bits of a continuous codeword: scrambled Flume bits, pad, cycle index (R297). -/
def lineInfo (sel index : Nat) (flume : List Bool) : List Bool :=
  flume ++ List.replicate (padBits sel index) false ++ msbBits 3 index

/-- The information bits of a burst codeword: its payload bytes scrambled from the start state, and one pad bit (R310). -/
def burstInfo (payload : List Byte) : List Bool := (scramble scramblerStart (byteBits payload)).1 ++ [false]

/-- The cycle index that a continuous codeword's information bits carry (R297). -/
def carriedIndex (sel : Nat) (outer : List Bool) : Nat := bitsNat ((outer.drop (Terrace.line.kB sel - 3)).take 3)

/-- The Flume bits that a codeword of a cycle index delivers, still scrambled (R297, R318). -/
def deliveredBits (sel index : Nat) (outer : List Bool) : List Bool := outer.take (flumeBits sel index)

/-- The levels of a 4-point burst symbol: XI, XQ, YI, YQ (R309). -/
def burst4 (bs : List Bool) : List Int := bs.map (fun b => if b then -1 else 1)

/-- The levels of a 16-point burst symbol: sign then amplitude for XI, XQ, YI and YQ in turn (R309). -/
def burst16 : List Bool → List Int
  | s :: a :: rest => (if s then -1 else 1) * (if a then 3 else 1) :: burst16 rest
  | _ => []

end Sys2Proof.Machine
end

