-- ==== Sys2Proof/Machine/Mapper.lean ====
section
/-! DEFINITION. The mapper to the bit: blocks of 64 symbols, signs, shaped amplitudes (R71, R255–R259). -/

namespace Sys2Proof.Machine

/-- The entropies of R71, in 1/16 bit per symbol and polarisation. -/
def entropyValid (h : Nat) : Bool := h = 32 || (40 ≤ h && h ≤ 88)

/-- Amplitudes A of a shaped block: 2 for 16-point, 4 for 64-point (R71, R258). -/
def amplitudes (h : Nat) : Nat := if h ≤ 64 then 2 else 4

/-- The amplitude a_k (R255). -/
def amplitude (k : Nat) : Nat := 2 * k + 1

/-- Coded bits K in a block of entropy h/16 (R256). -/
def blockBits (h : Nat) : Nat := 4 * h

/-- n! -/
def fact : Nat → Nat
  | 0 => 1
  | n + 1 => (n + 1) * fact n

/-- The number of sequences of length `m` with the composition `n` (R258). -/
def multinomial (m : Nat) (n : List Nat) : Nat := fact m / (n.map fact).prod

/-- The unit in which exponentials are computed: 2⁻²⁰⁰. -/
def expUnit : Nat := 2 ^ 200

/-- exp(−2⁻¹²) in that unit, from the first 20 terms of its series. -/
def expStep : Nat :=
  let term := fun k : Nat => expUnit / (fact k * 4096 ^ k)
  ((List.range 10).map (fun k => (term (2 * k) : Int) - term (2 * k + 1))).sum.toNat

/-- A power of a number in that unit, by squaring, for an exponent below 2^bits. -/
def expPow (x e : Nat) : Nat → Nat
  | 0 => expUnit
  | k + 1 =>
    let half := expPow x (e / 2) k
    let sq := half * half / expUnit
    if e % 2 = 1 then sq * x / expUnit else sq

/-- exp(−λ·a²) for λ = steps × 2⁻¹² (R258). -/
def boltzmann (steps a : Nat) : Nat := expPow expStep (steps * a * a) 24

/-- The counts at λ = steps × 2⁻¹²: the floors of 128 × p_k, and the remainder one each to the largest fractional parts, lower k first (R258). -/
def countsAt (amps steps : Nat) : List Nat :=
  let w := (List.range amps).map (fun k => boltzmann steps (amplitude k))
  let sum := w.sum
  let base := w.map (fun x => 128 * x / sum)
  let frac := w.map (fun x => 128 * x % sum)
  let rank := fun k : Nat => (frac.zipIdx.filter (fun f => frac.getD k 0 < f.1 || (f.1 = frac.getD k 0 && f.2 < k))).length
  base.zipIdx.map (fun b => if rank b.2 < 128 - base.sum then b.1 + 1 else b.1)

/-- The search of R258: the last counts whose sequences are at least 2^target. -/
def searchComposition (amps target : Nat) : Nat → Nat → List Nat → List Nat
  | 0, _, kept => kept
  | fuel + 1, steps, kept =>
    let n := countsAt amps steps
    if multinomial 128 n < 2 ^ target then kept else searchComposition amps target fuel (steps + 1) n

/-- The composition of a shaped block of entropy h/16 (R258). -/
def composition (h : Nat) : List Nat := searchComposition (amplitudes h) (blockBits h - 128) 8192 0 []

/-- The amplitude index of a dimension in the sequence numbered `r` among those of `left` dimensions with composition `n`, from index `k` on, and
what is left of the number and of the composition (R259). -/
def pickAmplitude (left r : Nat) (n : List Nat) : List Nat → Nat × Nat × List Nat
  | [] => (0, r, n)
  | k :: ks =>
    let c := n.getD k 0
    if c = 0 then pickAmplitude left r n ks
    else
      let fewer := n.set k (c - 1)
      let count := multinomial (left - 1) fewer
      if r < count then (k, r, fewer) else pickAmplitude left (r - count) n ks

/-- The amplitude indices of the sequence numbered `r` with the composition `n` (R259). -/
def sequenceAt : Nat → Nat → List Nat → List Nat
  | 0, _, _ => []
  | left + 1, r, n =>
    let p := pickAmplitude (left + 1) r n (List.range n.length)
    p.1 :: sequenceAt left p.2.1 p.2.2

/-- The amplitude indices of a block's 128 dimensions, from its bits (R257). -/
def blockAmplitudes (h : Nat) (bs : List Bool) : List Nat :=
  if h = 32 then List.replicate 128 0
  else if h = 64 then (List.range 128).map (fun d => (bs.getD (128 + d) false).toNat)
  else sequenceAt 128 (bitsNat (bs.drop 128)) (composition h)

/-- The levels of a block's 128 dimensions before scaling: the I part and the Q part of symbol 0, of symbol 1 and so on (R257). -/
def mapBlock (h : Nat) (bs : List Bool) : List Int :=
  (blockAmplitudes h bs).zipIdx.map (fun a =>
    if bs.getD a.2 false then -(amplitude a.1 : Int) else (amplitude a.1 : Int))

end Sys2Proof.Machine
end

