-- ==== Sys2Proof/Machine/Symbols.lean ====
section
/-! DEFINITION. Symbols: pilots and fill, the parts of a burst, the places of mapper blocks in a multiframe (R207–R211, R255, R256, R260, R309,
R342, R346). -/

namespace Sys2Proof.Machine

/-- The 4-point level of a bit: 0 for +1 (R209, R309, R346). -/
def level (b : Bool) : Int := if b then -1 else 1

/-- A symbol from its four levels XI, XQ, YI, YQ at a mean energy. -/
def symOf (energy : Nat) (l : List Int) : Sym := ⟨l.getD 0 0, l.getD 1 0, l.getD 2 0, l.getD 3 0, energy⟩

/-- A 4-point symbol from its four bits. -/
def sym4 (bs : List Bool) : Sym := symOf 128 (burst4 bs)

/-- A 16-point symbol from its eight bits (R309): the levels ±1 and ±3 have the mean energy 10. -/
def sym16 (bs : List Bool) : Sym := symOf 640 (burst16 bs)

/-- The same 4-point symbol on X and Y. -/
def bothPols (i q : Bool) : Sym := ⟨level i, level q, level i, level q, 128⟩

/-! ### Pilots and fill (R260, R346) -/

/-- The values of pilots from number `k` on: the generator's outputs 4k to 4k + 3 as XI, XQ, YI, YQ, 0 for +1 (R346). -/
def pilotBits (k n : Nat) : List Bool := ((scramble 0x2AAAAAAA (List.replicate (4 * (k + n)) false)).1).drop (4 * k)

/-- The fill symbols of a multiframe, in the same order (R260, R346). -/
def fillBits (n : Nat) : List Bool := (scramble 0x55555555 (List.replicate (4 * n) false)).1

/-- The first `n` pilots of a multiframe or of a burst. -/
def pilots (n : Nat) : List Sym := (blocks 4 n (pilotBits 0 n)).map sym4

/-- The first `n` fill symbols of a multiframe. -/
def fills (n : Nat) : List Sym := (blocks 4 n (fillBits n)).map sym4

/-! ### The burst (R207–R211) -/

/-- The tone pattern: (1 + j)·j^k on X and (1 + j)·(−j)^k on Y (R208). -/
def preamble : List Sym :=
  (List.range 128).map (fun k =>
    match k % 4 with
    | 0 => ⟨1, 1, 1, 1, 128⟩
    | 1 => ⟨-1, 1, 1, -1, 128⟩
    | 2 => ⟨-1, -1, -1, -1, 128⟩
    | _ => ⟨1, -1, -1, 1, 128⟩)

/-- The sync word: binary on the diagonal, bit 31 first (R209). -/
def syncWord : List Sym :=
  List.zipWith (fun x y => ⟨level x, level x, level y, level y, 128⟩) (msbBits 32 0xE4B1F28D) (msbBits 32 0x72D91B4E)

/-- The header: 2 bits a symbol, bit 127 first, the same on X and Y (R210). -/
def headerSymbols (h : BitVec 128) : List Sym :=
  (blocks 2 64 (msbBits 128 h.toNat)).map (fun bs => bothPols (bs.getD 0 false) (bs.getD 1 false))

/-- X and Y both (1 + j), −(1 + j) in turn (R207). -/
def postamble : List Sym := (List.range 16).map (fun k => bothPols (k % 2 == 1) (k % 2 == 1))

/-- Data symbols with every 16th symbol a pilot (R211). -/
def pilotLast : List Sym → List Sym → List Sym
  | [], ds => ds
  | p :: ps, ds => ds.take 15 ++ p :: pilotLast ps (ds.drop 15)

/-- The payload symbols of coded bits: 4 or 8 of them a data symbol (R211, R309). -/
def payloadSymbols (mod16 : Bool) (coded : List Bool) : List Sym :=
  let data := if mod16 then (blocks 8 (coded.length / 8) coded).map sym16 else (blocks 4 (coded.length / 4) coded).map sym4
  pilotLast (pilots (data.length / 15)) data

/-- The coded bits of a burst's payload bytes, codeword after codeword (R309, R310). -/
def burstCoded (sel : Nat) : Nat → List Byte → List Bool
  | 0, _ => []
  | c + 1, bs => Terrace.burst.encode sel (burstInfo (bs.take (burstBytes sel))) ++ burstCoded sel c (bs.drop (burstBytes sel))

/-- A burst, part after part (R207). -/
def burstSymbols (header : BitVec 128) (mod16 : Bool) (coded : List Bool) : List Sym :=
  preamble ++ syncWord ++ headerSymbols header ++ payloadSymbols mod16 coded ++ postamble

/-! ### The multiframe of a furrow (R255, R256, R342) -/

/-- The mean energy of a symbol of entropy h/16 and one polarisation, in 1/64 of the square of a level: the sum of n_k·a_k² (R255, R258). -/
def meanEnergy (h : Nat) : Nat :=
  if h = 32 then 128
  else if h = 64 then 640
  else ((composition h).zipIdx.map (fun n => n.1 * amplitude n.2 ^ 2)).sum

/-- The 64 symbols of an X block and the Y block over the same symbol periods (R256, R257). -/
def blockPair (h : Nat) (x y : List Bool) : List Sym :=
  let a := mapBlock h x
  let b := mapBlock h y
  (List.range 64).map (fun i => ⟨a.getD (2 * i) 0, a.getD (2 * i + 1) 0, b.getD (2 * i) 0, b.getD (2 * i + 1) 0, meanEnergy h⟩)

/-- `n` pairs of blocks from the coded stream. -/
def blockPairs (h : Nat) : Nat → List Bool → List Sym
  | 0, _ => []
  | n + 1, bs => blockPair h (bs.take (blockBits h)) ((bs.drop (blockBits h)).take (blockBits h)) ++ blockPairs h n (bs.drop (2 * blockBits h))

/-- Symbols with the first of every 36 a pilot (R342). -/
def pilotFirst : List Sym → List Sym → List Sym
  | [], ds => ds
  | p :: ps, ds => p :: ds.take 35 ++ pilotFirst ps (ds.drop 35)

/-- Whole mapper blocks of each polarisation in a multiframe of `sm` symbols (R342). -/
def wholeBlocks (sm : Nat) : Nat := (sm - (sm + 35) / 36) / 64

/-- The symbols of a multiframe: pilots, the blocks from its first non-pilot symbol on, fill symbols after the last whole block (R256, R260). -/
def multiframeSymbols (sm h : Nat) (coded : List Bool) : List Sym :=
  let w := wholeBlocks sm
  pilotFirst (pilots ((sm + 35) / 36)) (blockPairs h w coded ++ fills (sm - (sm + 35) / 36 - 64 * w))

end Sys2Proof.Machine
end

