-- ==== Sys2Proof/Machine/Payload.lean ====
section
/-! DEFINITION. The checks Omrek makes of a command before it carries it out (R661, R804): the length each opcode defines and the
stated range of each payload field, as the command tables of the chapters give them. -/

namespace Sys2Proof.Machine

/-- The request length that an opcode defines. -/
inductive ReqLen where
  /-- Exactly `n` bytes. -/
  | fix (n : Nat)
  /-- One of two lengths. -/
  | either (a b : Nat)
  /-- `base + mul × k`, where `k` is the 16-bit count at payload offset `off`. -/
  | plus (base off mul : Nat)
  /-- Whatever length from `lo` to `hi`, in steps of `step` above `lo`. -/
  | span (lo hi step : Nat)
  deriving DecidableEq, Repr

/-- One check of a payload field; `off` is the byte offset that INDEX names. -/
inductive PField where
  /-- `n` bytes at `off` lie in `lo`–`hi`. -/
  | num (off n lo hi : Nat)
  /-- `n` bytes at `off` are 0 or lie in `lo`–`hi`. -/
  | numOrZero (off n lo hi : Nat)
  /-- Bits `[bit + w - 1 : bit]` of the 32-bit word at `off` lie in `lo`–`hi`. -/
  | bits (off bit w lo hi : Nat)
  /-- `n` bytes at `off`, two's complement, lie in `lo`–`hi`. -/
  | sgn (off n : Nat) (lo hi : Int)
  /-- Bits `[bit + w - 1 : bit]` of the 32-bit word at `off`, two's complement, lie in `lo`–`hi`. -/
  | sbits (off bit w : Nat) (lo hi : Int)
  /-- `n` bytes at `off` are zero. -/
  | zero (off n : Nat)
  /-- `n` bytes at `off` hold one of the values. -/
  | among (off n : Nat) (vs : List Nat)
  /-- The 16-bit values at `off`, `k` of them, are at most `hi`. -/
  | vec16 (off k hi : Nat)
  /-- The signed bytes at `off`, `k` of them, lie in `lo`–`hi`. -/
  | vecS8 (off k : Nat) (lo hi : Int)
  /-- The check holds only for payloads whose byte at `off` lies in `lo`–`hi`. -/
  | given (off lo hi : Nat) (f : PField)
  deriving DecidableEq, Repr

/-- An opcode with its request length and its payload checks. -/
structure PayloadRow where
  op : Nat
  len : ReqLen
  fields : List PField := []
  deriving DecidableEq, Repr

/-- A length is the one the command defines. -/
def ReqLen.ok (l : ReqLen) (p : List Byte) : Bool :=
  match l with
  | .fix n => p.length == n
  | .either a b => p.length == a || p.length == b
  | .plus base off mul => base ≤ p.length && p.length == base + mul * u16 p off
  | .span lo hi step => lo ≤ p.length && p.length ≤ hi && (p.length - lo) % step == 0

/-- The offset of the first byte that fails the check, when it fails. -/
def PField.bad (f : PField) (p : List Byte) : Option Nat :=
  match f with
  | .num off n lo hi => let v := le n p off; if lo ≤ v && v ≤ hi then none else some off
  | .numOrZero off n lo hi => let v := le n p off; if v = 0 || (lo ≤ v && v ≤ hi) then none else some off
  | .bits off bit w lo hi =>
    let v := bitsOf (u32 p off) bit w; if lo ≤ v && v ≤ hi then none else some (off + bit / 8)
  | .sgn off n lo hi => let v := sint (8 * n) (le n p off); if lo ≤ v && v ≤ hi then none else some off
  | .sbits off bit w lo hi =>
    let v := sint w (bitsOf (u32 p off) bit w); if lo ≤ v && v ≤ hi then none else some (off + bit / 8)
  | .zero off n => ((List.range n).find? (fun i => u8 p (off + i) ≠ 0)).map (· + off)
  | .among off n vs => if vs.contains (le n p off) then none else some off
  | .vec16 off k hi => ((List.range k).find? (fun i => hi < u16 p (off + 2 * i))).map (fun i => off + 2 * i)
  | .vecS8 off k lo hi =>
    ((List.range k).find? (fun i => sint 8 (u8 p (off + i)) < lo || hi < sint 8 (u8 p (off + i)))).map (· + off)
  | .given off lo hi f => if lo ≤ u8 p off && u8 p off ≤ hi then f.bad p else none

/-- INDEX of the failing field that stands first in the payload: its byte offset plus 1, saturating at 255 (R661). -/
def fieldsBad (fs : List PField) (p : List Byte) : Option Nat :=
  ((fs.filterMap (fun f => f.bad p)).min?).map (fun off => min (off + 1) 255)

end Sys2Proof.Machine
end

