-- ==== Sys2Proof/Machine/Converters.lean ====
section
/-! DEFINITION. Line converters and background calibration (R100–R144). -/

namespace Sys2Proof.Machine

/-- ADC `a`. -/
def State.adc (s : State) (a : Nat) : AdcState := tget {} s.conv.adcs a

def State.setAdc (s : State) (a : Nat) (x : AdcState) : State :=
  { s with conv := { s.conv with adcs := tput {} s.conv.adcs a x } }

/-- The operating mode in force: 0 point-to-point, 1 hub, 2 leaf, 3 module (R94). -/
def State.mode (s : State) : Nat := s.get Reg.MODE_STATUS_MODE

/-- MODE_STATUS.STATE reads CHANGING. -/
def State.changing (s : State) : Bool := s.flag Reg.MODE_STATUS_STATE

/-- Positions of an ADC: 16 at 84 GS/s in leaf mode, 64 at 336 GS/s, none in module mode (R100). -/
def State.adcPositions (s : State) : Nat :=
  match s.mode with
  | 2 => 16
  | 3 => 0
  | _ => 64

/-- Samples of one ADC in a local frame (R123). -/
def State.frameSamples (s : State) : Nat := if s.mode = 2 then 420000 else 1680000

/-- The SLICE_MAP byte of slice `k` (R138). -/
def State.sliceByte (s : State) (a k : Nat) : Nat :=
  bitsOf (s.get Reg.SLICE_MAP_BYTES a (k / 4)) (8 * (k % 4)) 8

def State.setSliceByte (s : State) (a k v : Nat) : State :=
  s.set Reg.SLICE_MAP_BYTES (putBits (s.get Reg.SLICE_MAP_BYTES a (k / 4)) (8 * (k % 4)) 8 v) a (k / 4)

/-- The slice in service at position `p` (R102). -/
def State.sliceAt (s : State) (a p : Nat) : Option Nat := (List.range 65).find? (fun k => s.sliceByte a k == p)

/-- The faulty mask of an ADC, and the number of slices marked faulty (R133). -/
def State.faultyMask (s : State) (a : Nat) : Nat :=
  ((List.range 65).map (fun k => b2n (s.sliceByte a k / 64 == 3) * 2 ^ k)).sum

def State.faultyCount (s : State) (a : Nat) : Nat := ((List.range 65).filter (fun k => s.sliceByte a k / 64 == 3)).length

/-- The slices that are powered: in service or the spare (R100, R102). -/
def State.slicesPowered (s : State) (a : Nat) : Nat := ((List.range 65).filter (fun k => decide (s.sliceByte a k / 64 < 2))).length

/-- The 65 SLICE_MAP bytes of an ADC. -/
def State.sliceMap (s : State) (a : Nat) : List Nat := (List.range 65).map (s.sliceByte a)

/-- A map with `list` in service at P0, P1 and so on and then the spare, in that order; of the others those in `bad` are marked faulty and the rest
powered off (R102, R118). -/
def mapOf (n : Nat) (list bad : List Nat) : List Nat :=
  (List.range 65).map (fun k =>
    if (list.take n).contains k then list.idxOf k
    else if list[n]? = some k then 0x40
    else if bad.contains k then 0xC0 else 0x80)

/-- A map takes effect: its bytes, SPARE and FAULTY (R133, R138). -/
def State.putMap (s : State) (a : Nat) (m : List Nat) (spare : Option Nat) : State :=
  let s1 := (List.range 65).foldl (fun s k => s.setSliceByte a k (m.getD k 0x80)) s
  (s1.set Reg.ADC_STATUS_SPARE (spare.getD 0x7F) a).set Reg.ADC_STATUS_FAULTY (s1.faultyCount a) a

/-- The ADC has lost its spare: flag, event, record (R112, R119; log entry 29); its requests are dropped (log entry 27). -/
def State.loseSpare (s : State) (a : Nat) : State :=
  let s1 := (s.set Reg.ADC_STATUS_SPARE_LOST 1 a).set Reg.ADC_EVENTS_SPARE_LOST 1 a
  let s2 := (s1.set Reg.ADC_STATUS_REQ_RUNNING 0 a).set Reg.ADC_STATUS_REQ_QUEUED 0 a
  (s2.setAdc a { s2.adc a with rotLeft := none }).log wbAdc 0x12 [BitVec.ofNat 8 a]

/-- The change of an ADC that waits takes effect, in one dsp-cycle at a local frame boundary (R105, R112, R118, R119). -/
def State.takeChange (s : State) (a : Nat) : State :=
  match (s.adc a).change with
  | none => s
  | some c =>
    let x := s.adc a
    let y := match c.found with
      | none => { x with change := none }
      | some (cals, taps) => { x with
          change := none, failRun := 0
          slices := cals.foldl (fun t e => tput {} t e.1 e.2) x.slices
          taps := (List.range 64).foldl (fun t i => tput 0 t i (taps.getD i 0)) x.taps }
    let s1 := (s.setAdc a y).putMap a c.map c.spare
    let s2 := if c.found.isSome then s1.set Reg.ADC_STATUS_POS 0 a else s1
    if c.spare.isSome then s2.set Reg.ADC_STATUS_SPARE_LOST 0 a else s2.loseSpare a

/-! ### Correction of samples (R101, R103, R104, R122) -/

/-- The tap of the clock generator that clocks position `p` (R101). -/
def State.tapAt (s : State) (p : Nat) : Nat := if s.adcPositions = 16 then 4 * p else p

/-- The position that supplies sample `i` of the interleaved stream (R101). -/
def State.positionOf (s : State) (i : Nat) : Nat := if s.adcPositions = 0 then 0 else i % s.adcPositions

/-- The corrections of the slice that serves position `p`. -/
def State.calAt (s : State) (a p : Nat) : SliceCal :=
  match s.sliceAt a p with
  | some k => tget {} (s.adc a).slices k
  | none => {}

/-- The sampling instant of position `p` against its nominal one, in 25 fs: tap trim and slice trim (R103). -/
def State.sampleInstant (s : State) (a p : Nat) : Int := tget 0 (s.adc a).taps (s.tapAt p) + (s.calAt a p).trim

/-- Whether a slice's output is clipped (R122). -/
def clipped (x : Int) : Bool := x == -128 || x == 127

/-- Offset, then gain, on the output of a slice, in 2⁻²² LSB (R103, R104). -/
def sliceLevel (c : SliceCal) (x : Int) : Int := (256 * x - c.offset) * Int.ofNat c.gain

/-- A whole number nearest to `v / d`, halves away from zero, in 8 bits with saturation (R100; log entry 34). -/
def roundSat8 (v d : Int) : Int :=
  let r := if 0 ≤ v then (2 * v + d) / (2 * d) else -((2 * (-v) + d) / (2 * d))
  max (-128) (min 127 r)

/-- Sample `i` of the corrected stream of ADC `a`, from the interleaved output `x` of its slices: offset and gain of the slice of each sample, then the FIR of the
slice of sample `i`, with taps at −3 to +4 samples around it (R103, R104). -/
def State.correctedSample (s : State) (a : Nat) (x : Int → Int) (i : Nat) : Int :=
  let lv := fun (j : Int) => sliceLevel (s.calAt a (s.positionOf (j % Int.ofNat (max 1 s.adcPositions)).toNat)) (x j)
  roundSat8 (((s.calAt a (s.positionOf i)).fir.zipIdx.map (fun e => e.1 * lv (Int.ofNat i + Int.ofNat e.2 - 3))).sum) (2 ^ 34)

/-- The clip bit of a corrected sample (R122). -/
def clipBit (x : Int → Int) (i : Nat) : Bool := clipped (x (Int.ofNat i))

/-! ### Background steps (R107–R116) -/

/-- A background step can start: SERVICE, a spare, no step running, no change that waits (R105, R108, R112). -/
def State.canStep (s : State) (a : Nat) : Bool :=
  s.get Reg.ADC_STATUS_STATE a == 2 && !s.flag Reg.ADC_STATUS_SPARE_LOST a && (s.adc a).step.isNone && (s.adc a).change.isNone

/-- Start a step at the ADC's position. -/
def State.startStep (s : State) (a : Nat) : State :=
  s.setAdc a { s.adc a with step := some ⟨s.clock, s.get Reg.ADC_STATUS_POS a, none⟩, lastT0 := s.clock }

/-- A waiting request starts: its rotation runs and its first step begins (R115, R116). -/
def State.startQueued (s : State) (a : Nat) : State :=
  let s1 := ((s.setAdc a { s.adc a with rotLeft := some s.adcPositions }).set Reg.ADC_STATUS_REQ_QUEUED 0 a).set Reg.ADC_STATUS_REQ_RUNNING 1 a
  if s1.canStep a then s1.startStep a else s1

/-- The step ends and the spare is disconnected; a request that waits for it starts (R115). -/
def State.endStep (s : State) (a : Nat) : State :=
  let s1 := s.setAdc a { s.adc a with step := none }
  if s1.flag Reg.ADC_STATUS_REQ_QUEUED a && (s1.adc a).rotLeft.isNone then s1.startQueued a else s1

/-- A requested rotation has made its swaps: it ends, and a queued request starts the next (R115, R116). -/
def State.endRotation (s : State) (a : Nat) : State :=
  let s1 := (s.setAdc a { s.adc a with rotLeft := none }).set Reg.ADC_STATUS_REQ_RUNNING 0 a
  if s1.flag Reg.ADC_STATUS_REQ_QUEUED a then s1.startQueued a else s1

/-- A step is deferred: nothing but CAL_DEFERRALS and the spare's connection changes (R110). -/
def State.deferStep (s : State) (a : Nat) : State := (s.bump Cnt.CAL_DEFERRALS a).endStep a

/-- The steps of a converter are abandoned without counting and its requests dropped (R121, R125). -/
def State.abandonCal (s : State) (a : Nat) : State :=
  ((s.setAdc a { s.adc a with step := none, rotLeft := none }).set Reg.ADC_STATUS_REQ_QUEUED 0 a).set Reg.ADC_STATUS_REQ_RUNNING 0 a

/-- CAL_STEP_START: the periodic timer starts a step, INTERVAL_MS after the last (R108). -/
def execCalStepStart (adc : Fin 4) (s : State) : Out :=
  let a := adc.val
  if s.canStep a && s.flag Reg.ADC_CAL_CFG_BG_EN a && (s.adc a).rotLeft.isNone &&
      (s.adc a).lastT0 + msT (s.get Reg.ADC_CAL_CFG_INTERVAL_MS a) ≤ s.clock then done s (s.startStep a)
  else .next s

/-- REQ_ROTATION_STEP: the 1 ms cadence of a requested rotation starts its next step (R116). -/
def execReqRotationStep (adc : Fin 4) (s : State) : Out :=
  let a := adc.val
  if s.canStep a && (s.adc a).rotLeft.isSome && (s.adc a).lastT0 + msT 1 ≤ s.clock then done s (s.startStep a) else .next s

/-- The spare fails a third step in a row: it is marked faulty; at the next local frame boundary it is off the map, and replaced where a slice can be
(R105, R112). -/
def State.spareFaulty (s : State) (a : Nat) : State :=
  let k := s.get Reg.ADC_STATUS_SPARE a
  let m := (s.sliceMap a).set k 0xC0
  let next := if s.mode = 2 then (List.range 65).find? (fun j => m.getD j 0 / 64 == 2) else none
  let m1 := match next with
    | some j => m.set j 0x40
    | none => m
  let s1 := (s.set Reg.ADC_EVENTS_SLICE_FAULTY 1 a).log wbAdc 0x11 [BitVec.ofNat 8 a, BitVec.ofNat 8 k]
  s1.setAdc a { s1.adc a with failRun := 0, change := some { map := m1, spare := next } }

/-- A correction has reached an end of its range (R103, R111). -/
def atRangeEnd (c : SliceCal) : Bool :=
  let ends := fun (lo hi v : Int) => decide (v ≤ lo) || decide (hi ≤ v)
  ends (-128) 127 c.trim || ends (-2048) 2048 c.offset || ends 14336 18432 (Int.ofNat c.gain) ||
    c.fir.zipIdx.any (fun e => if e.2 = 3 then ends 3072 5120 e.1 else ends (-1024) 1024 e.1)

/-- The verification limits of R111: the reason of the failure, the lowest where there are several (log entry 34); none on a pass. -/
def stepFailure (r : Residual) (c : SliceCal) : Option Nat :=
  if 100 < r.offset then some 1
  else if 1000 < r.gain then some 2
  else if 20 < r.timing then some 3
  else if 2000 < r.bandwidth then some 4
  else if atRangeEnd c then some 5
  else none

/-- A step fails (R111): the spare keeps what its calibration found and when it last passed (R143). -/
def State.failStep (s : State) (a : Nat) (st : CalStep) (cal : SliceCal) (reason : Nat) : State :=
  let x := s.adc a
  let k := s.get Reg.ADC_STATUS_SPARE a
  let s1 := (((s.bump Cnt.CAL_FAILS a).set Reg.ADC_EVENTS_CAL_FAIL 1 a).log wbAdc 0x10
    [BitVec.ofNat 8 a, BitVec.ofNat 8 k, BitVec.ofNat 8 st.pos, BitVec.ofNat 8 reason])
  let s2 := s1.setAdc a { x with
    step := none
    failRun := x.failRun + 1
    slices := tput {} x.slices k { cal with passedAt := (tget {} x.slices k).passedAt } }
  (if x.failRun + 1 ≥ 3 then s2.spareFaulty a else s2).endStep a

/-- CAL_STEP_MEASURE_END: the final measurement ends 971.7 µs into the step; its residuals and corrections pass or fail (R107, R111). -/
def execCalStepMeasureEnd (adc : Fin 4) (res : Residual) (cal : SliceCal) (s : State) : Out :=
  let a := adc.val
  match (s.adc a).step with
  | none => .next s
  | some st =>
    if st.staged.isSome || s.clock < st.t0 + nsT 971700 then .next s
    else match stepFailure res cal with
      | none => done s (s.setAdc a { s.adc a with step := some { st with staged := some cal } })
      | some r => done s (s.failStep a st cal r)

/-- The armed swap takes effect: the spare takes the position with its new corrections, the former slice becomes the spare (R107, R109, R113,
R114). -/
def State.calSwap (s : State) (a : Nat) (st : CalStep) (cal : SliceCal) : State :=
  let n := max 1 s.adcPositions
  let spare := s.get Reg.ADC_STATUS_SPARE a
  let old := (s.sliceAt a st.pos).getD 0x7F
  let x := s.adc a
  let s1 := (s.setSliceByte a spare st.pos).setSliceByte a old 0x40
  let s2 := ((s1.set Reg.ADC_STATUS_SPARE old a).set Reg.ADC_STATUS_POS ((st.pos + 1) % n) a).bump Cnt.CAL_COUNT a
  let s3 := (s2.set Reg.CAL_TIME_T s.devNs a 0).set Reg.CAL_TIME_T (s.devNs / 2 ^ 32) a 1
  let s4 := s3.setAdc a { x with
    step := none
    failRun := 0
    slices := tput {} x.slices spare { cal with passedAt := s.devNs }
    rotLeft := x.rotLeft.map (· - 1) }
  if x.rotLeft = some 1 then s4.endRotation a else s4.endStep a

/-! ### Local frame boundaries (R105–R107, R110, R122, R123) -/

/-- Whether the frame that ends had more clipped samples than OVL_PPM allows (R123). -/
def State.overloaded (s : State) (a clippedSamples : Nat) : Bool :=
  decide (s.frameSamples * s.get Reg.ADC_OVL_CFG_OVL_PPM a < clippedSamples * 1000000)

/-- Clip counts and overload episodes of a frame (R122, R123). -/
def State.clipFrame (m : FrameMeas) (s : State) (a : Nat) : State :=
  let n := m.clipped.getD a 0
  let s1 := s.bump Cnt.CLIP_CYCLES a 0 (m.clipCycles.getD a 0)
  if s.overloaded a n then
    let t := ((s1.bump Cnt.OVL_FRAMES a).setAdc a { s1.adc a with cleanFrames := 0 }).set Reg.ADC_STATUS_OVL 1 a
    if s1.flag Reg.ADC_STATUS_OVL a then t
    else (t.set Reg.ADC_EVENTS_OVL 1 a).log wbAdc 0x13 ([BitVec.ofNat 8 a, 0, 0, 0] ++ bytes 4 n)
  else
    let t := s1.setAdc a { s1.adc a with cleanFrames := (s1.adc a).cleanFrames + 1 }
    if (t.adc a).cleanFrames ≥ 4 then t.set Reg.ADC_STATUS_OVL 0 a else t

/-- What the frame means for a background step: overload or low RMS in a frame that ends before step 4 does defers it; after that an armed swap takes effect
(R107, R110; log entry 34). -/
def State.stepFrame (m : FrameMeas) (s : State) (a : Nat) : State :=
  match (s.adc a).step with
  | none => s
  | some st =>
    if s.clock ≤ st.t0 + nsT 991700 then
      if s.overloaded a (m.clipped.getD a 0) || m.rms.getD a 0 < s.get Reg.ADC_CAL_CFG_MIN_RMS a then s.deferStep a else s
    else match st.staged with
      | some cal => s.calSwap a st cal
      | none => s

/-- The part of a local frame boundary in one ADC that is not OFF. -/
def State.adcFrame (m : FrameMeas) (s : State) (a : Nat) : State :=
  if s.get Reg.ADC_STATUS_STATE a = 0 then s else State.stepFrame m ((State.clipFrame m s a).takeChange a) a

/-- The part of a local frame boundary in one DAC in service: the largest sub-DAC timing error; 0, and TIMING_OK 1, in pass-through at 84 GS/s (R127). -/
def State.dacFrame (m : FrameMeas) (s : State) (d : Nat) : State :=
  if s.get Reg.DAC_STATUS_STATE d ≠ 2 then s
  else if s.mode = 2 then (s.set Reg.DAC_STATUS_MUX_ERR 0 d).set Reg.DAC_STATUS_TIMING_OK 1 d
  else
    let e := m.muxErr.getD d 0
    let s1 := s.set Reg.DAC_STATUS_MUX_ERR (min e 255) d
    if 8 < e && s1.flag Reg.DAC_STATUS_TIMING_OK d then
      ((s1.set Reg.DAC_STATUS_TIMING_OK 0 d).set Reg.DAC_EVENTS_DRIFT 1 d).bump Cnt.DAC_DRIFTS d
    else s1

/-- What a local frame boundary does in the converters (R105–R107). -/
def State.convFrame (m : FrameMeas) (s : State) : State :=
  (List.range 4).foldl (State.dacFrame m) ((List.range 4).foldl (State.adcFrame m) s)

/-! ### DACs (R126–R128) -/

/-- The sub-DACs in use: four behind the multiplexer at 336 GS/s, one in pass-through at 84 GS/s (R126). -/
def State.subDacs (s : State) : Nat :=
  match s.mode with
  | 2 => 1
  | 3 => 0
  | _ => 4

/-- The differential output swing of DAC `d`, mV peak-to-peak (R126). -/
def State.dacSwing (s : State) (d : Nat) : Nat := 300 + 10 * s.get Reg.DAC_CTRL_SWING d

/-- A foreground calibration of a DAC passes: every phase in use settles within 25 fs (R128). -/
def State.dacPasses (s : State) (f : FgDac) : Bool := (f.settled.take s.subDacs).all (fun e => decide (e ≤ 25))

/-- The result of a foreground calibration on one DAC: the new trims, or the previous ones kept (R127, R128). -/
def State.fgDacDone (s : State) (d : Nat) (f : FgDac) : State :=
  if s.dacPasses f then
    let t := { s with conv := { s.conv with dacTrims := tput [] s.conv.dacTrims d f.trims } }
    ((t.set Reg.DAC_STATUS_TIMING_OK 1 d).set Reg.DAC_STATUS_MUX_ERR 0 d).set Reg.DAC_EVENTS_FG_DONE 1 d
  else (s.set Reg.DAC_EVENTS_FG_FAIL 1 d).bump Cnt.DAC_FG_FAILS d

/-! ### Foreground calibration (R117–R119) -/

/-- The map of an ADC that is powered, or that changes its sample rate, until its calibration ends: where no map serves exactly the positions of the rate, the slices
not marked faulty in ascending order (R102; log entry 26). -/
def State.powerMap (s : State) (a : Nat) : State :=
  let n := s.adcPositions
  let m := s.sliceMap a
  if (List.range 64).all (fun p => m.contains p == decide (p < n)) then s
  else
    let bad := (List.range 65).filter (fun k => m.getD k 0 / 64 == 3)
    let good := (List.range 65).filter (fun k => !bad.contains k)
    let s1 := (s.putMap a (mapOf n good bad) good[n]?).set Reg.ADC_STATUS_POS 0 a
    s1.set Reg.ADC_STATUS_SPARE_LOST (b2n (good[n]?).isNone) a

/-- Start a foreground calibration of the named converters (R117, R118). -/
def State.startFg (s : State) (adcMask dacMask : Nat) (mb : Option Nat) : State :=
  let s1 := (List.range 4).foldl (fun s a =>
    if bitsOf adcMask a 1 = 1 then
      let t := (s.abandonCal a).powerMap a
      (t.setAdc a { t.adc a with change := none }).set Reg.ADC_STATUS_STATE 1 a
    else s) s
  let s2 := (List.range 4).foldl (fun s d =>
    if bitsOf dacMask d 1 = 1 then
      let t := s.set Reg.DAC_STATUS_STATE 1 d
      if t.mode = 2 then (t.set Reg.DAC_STATUS_MUX_ERR 0 d).set Reg.DAC_STATUS_TIMING_OK 1 d else t
    else s) s1
  { s2 with conv := { s2.conv with fg := some ⟨adcMask, dacMask, s.clock, mb⟩ } }

/-- The slices that pass the limits of R111, ascending (R118). -/
def fgPassing (f : FgAdc) : List Nat :=
  (List.range 65).filter (fun k => match f.slices[k]? with
    | some e => (stepFailure e.2 e.1).isNone
    | none => false)

/-- The result of a foreground calibration in which at least one slice for each position passed: the new map and corrections, in force at the next local
frame boundary (R105, R118, R119, R143). -/
def State.fgMap (s : State) (a : Nat) (f : FgAdc) : State :=
  let pass := fgPassing f
  let x := s.adc a
  let cals := f.slices.zipIdx.map (fun e =>
    (e.2, ({ e.1.1 with passedAt := if pass.contains e.2 then s.devNs else (tget {} x.slices e.2).passedAt } : SliceCal)))
  let bad := (List.range 65).filter (fun k => !pass.contains k)
  (s.setAdc a { x with change := some { map := mapOf s.adcPositions pass bad, spare := pass[s.adcPositions]?, found := some (cals, f.taps) } }).set
    Reg.ADC_EVENTS_FG_DONE 1 a

/-- The result of a foreground calibration on one ADC (R119). -/
def State.fgAdcDone (s : State) (a : Nat) (f : FgAdc) (modeChange : Bool) : State :=
  if s.adcPositions ≤ (fgPassing f).length then s.fgMap a f
  else
    let s1 := (s.set Reg.ADC_EVENTS_FG_FAIL 1 a).bump Cnt.FG_FAILS a
    if modeChange then s1.set Reg.MODE_STATUS_CAL_OK 0 else s1

/-- The answer to CAL_FOREGROUND (R142). -/
def State.fgReply (s : State) (fg : FgCal) (adcs : List FgAdc) (dacs : List FgDac) : Reply :=
  let n := fun a => (fgPassing (adcs.getD a ⟨[], []⟩)).length
  let adcOk := ((List.range 4).map (fun a => b2n (bitsOf fg.adcMask a 1 == 1 && decide (s.adcPositions ≤ n a)) * 2 ^ a)).sum
  let dacOk := ((List.range 4).map (fun d => b2n (bitsOf fg.dacMask d 1 == 1 && s.dacPasses (dacs.getD d ⟨[], [26]⟩)) * 2 ^ d)).sum
  okD ((List.range 4).map (fun a => BitVec.ofNat 8 (if bitsOf fg.adcMask a 1 = 1 then n a else 0xFF)) ++
    [BitVec.ofNat 8 adcOk, BitVec.ofNat 8 dacOk, 0, 0])

/-- FG_CAL_DONE: a 40 ms foreground calibration ends; `adcs` and `dacs` are what it found, by converter number (R118–R120, R127, R128). Periodic steps of an ADC
that enters SERVICE count INTERVAL_MS from here, since there is no previous step (R108; log entry 28). -/
def execFgCalDone (adcs : List FgAdc) (dacs : List FgDac) (s : State) : Out :=
  match s.conv.fg with
  | none => .next s
  | some fg =>
    if s.clock < fg.start + msT 40 then .next s
    else
      let back := if fg.mb.isSome then 3 else 2
      let inChange := s.sys.change.isSome
      let s0 := if inChange then s.set Reg.MODE_STATUS_CAL_OK 1 else s
      let s1 := (List.range 4).foldl (fun s a =>
        if bitsOf fg.adcMask a 1 = 1 then
          let r := s.fgAdcDone a (adcs.getD a ⟨[], []⟩) inChange
          (r.setAdc a { r.adc a with lastT0 := s.clock }).set Reg.ADC_STATUS_STATE back a
        else s) s0
      let s2 := (List.range 4).foldl (fun s d =>
        if bitsOf fg.dacMask d 1 = 1 then (s.fgDacDone d (dacs.getD d ⟨[], [26]⟩)).set Reg.DAC_STATUS_STATE back d else s) s1
      let s3 := { s2 with
        conv := { s2.conv with fg := none }
        sys := { s2.sys with change := s2.sys.change.map (fun c => { c with step5 := some s.clock }) } }
      match fg.mb with
      | none => done s s3
      | some mb => done s (s3.finish mb (s.fgReply fg adcs dacs))

/-- The ADCs that a mask names. -/
def maskList (m n : Nat) : List Nat := (List.range n).filter (fun i => bitsOf m i 1 = 1)

/-- CAL_RUN (R115, R125); where the mask names both an ADC that gives DENIED and one that gives BUSY the answer is DENIED (log entry 36). -/
def execCalRun (mb : Fin 8) (s : State) : Out :=
  act mb.val 0x0B01 s (fun p s =>
    let as := maskList (u8 p 0) 4
    if s.changing then (s, err cBUSY)
    else if as.any (fun a => s.get Reg.ADC_STATUS_STATE a ≠ 2 || s.flag Reg.ADC_STATUS_SPARE_LOST a) then (s, err cDENIED)
    else if as.any (fun a => s.flag Reg.ADC_STATUS_REQ_QUEUED a) then (s, err cBUSY)
    else
      let idle := fun a => (s.adc a).step.isNone && (s.adc a).rotLeft.isNone
      let s1 := as.foldl (fun s a =>
        if idle a then s.startQueued a else s.set Reg.ADC_STATUS_REQ_QUEUED 1 a) s
      (s1, okD ((List.range 4).map (fun a => if as.contains a then (if idle a then 1 else 2) else 0))))

/-- CAL_FOREGROUND (R117, R125): answered when the calibration ends; while one runs the answer is BUSY whatever the mask names (log entry 36). -/
def execCalForeground (mb : Fin 8) (s : State) : Out :=
  actLong mb.val 0x0B02 s (fun p s =>
    if s.conv.fg.isSome then (s, some (err cBUSY))
    else if (maskList (u8 p 0) 4).any (fun a => s.get Reg.ADC_STATUS_STATE a ≠ 3) ||
        (maskList (u8 p 1) 4).any (fun d => s.get Reg.DAC_STATUS_STATE d ≠ 3) then (s, some (err cDENIED))
    else (s.startFg (u8 p 0) (u8 p 1) (some mb.val), none))

/-- The staged commands of the converters name one object (R142). -/
def convObjs (_ : List Byte) : List Obj := [(.conv, 0)]

/-- CAL_MAINT_SET, staged (R142, R144). -/
def execCalMaintSet (mb : Fin 8) (s : State) : Out := stage mb.val 0x0B03 convObjs s

/-- CAL_CFG_SET, staged. -/
def execCalCfgSet (mb : Fin 8) (s : State) : Out := stage mb.val 0x0B04 convObjs s

/-- CONV_CTRL_SET, staged. -/
def execConvCtrlSet (mb : Fin 8) (s : State) : Out := stage mb.val 0x0B05 convObjs s

/-- CAL_STATUS_GET (R142, R143). -/
def execCalStatusGet (mb : Fin 8) (s : State) : Out :=
  report mb.val 0x0B06 s (fun p s =>
    let a := u8 p 0
    okD (wordBytes [s.readWord (0x100010 + 0x1000 * a), s.reg (0x100040 + 0x1000 * a), s.reg (0x100044 + 0x1000 * a)] ++
        bytes 9 (s.faultyMask a) ++ [0, 0, 0]))

/-- CAL_SLICE_GET (R142, R143). -/
def execCalSliceGet (mb : Fin 8) (s : State) : Out :=
  report mb.val 0x0B07 s (fun p s =>
    let a := u8 p 0
    let c := tget {} (s.adc a).slices (u8 p 1)
    okD ([BitVec.ofNat 8 (s.sliceByte a (u8 p 1)), BitVec.ofNat 8 c.comparator, BitVec.ofInt 8 c.trim, 0] ++
        bytes 2 (twos 16 c.offset) ++ bytes 2 c.gain ++ ((List.range 8).flatMap (fun i => bytes 2 (twos 16 (c.fir.getD i 0)))) ++
        bytes 8 c.passedAt))

/-- What the staged converter commands set (R130–R132, R139, R144); MAINTENANCE is entered or left at the boundary (R120). -/
def applyConv (c : Staged) (s : State) : State :=
  let p := c.payload
  if c.op = 0x0B04 then
    (maskList (u8 p 0) 4).foldl (fun s a =>
      (((s.set Reg.ADC_CAL_CFG_BG_EN (u8 p 1) a).set Reg.ADC_CAL_CFG_INTERVAL_MS (u16 p 2) a).set Reg.ADC_OVL_CFG_OVL_PPM (u16 p 4) a).set
        Reg.ADC_CAL_CFG_MIN_RMS (u8 p 6) a) s
  else if c.op = 0x0B05 then
    if u8 p 0 < 4 then (s.set Reg.ADC_CTRL_FS_SEL (u8 p 1) (u8 p 0)).set Reg.ADC_CTRL_INVERT (u8 p 2) (u8 p 0)
    else (s.set Reg.DAC_CTRL_SWING (u8 p 1) (u8 p 0 - 4)).set Reg.DAC_CTRL_INVERT (u8 p 2) (u8 p 0 - 4)
  else s

/-- CAL_MAINT_SET fails validation in module mode (R142). -/
def convChecks : List Check := [
  { rule := 142, bad := fun cs _ n => cs.any (opIn [0x0B03]) && n.get Reg.MODE_CTRL_MODE == 3, reads := opIn [0x0B03, 0x0120] }]

/-- The part of a commit boundary in the converters: entry to and exit from MAINTENANCE by the last CAL_MAINT_SET, and the deferral of
a step whose ADC's FS_SEL or INVERT changes (R110, R120, R121, R125). -/
def State.convBoundary (cs : List Staged) (old s : State) : State :=
  let s1 := (List.range 4).foldl (fun s a =>
    if (s.reg (0x100000 + 0x1000 * a) ≠ old.reg (0x100000 + 0x1000 * a)) then
      match (s.adc a).step with
      | some st => if s.clock ≤ st.t0 + nsT 991700 then s.deferStep a else s
      | none => s
    else s) s
  match (cs.filter (fun c => c.op == 0x0B03)).getLast? with
  | none => s1
  | some c =>
    (List.range 4).foldl (fun s i =>
      let s2 :=
        if u8 c.payload 0 = 1 then
          (if s.get Reg.ADC_STATUS_STATE i = 2 then (s.abandonCal i).set Reg.ADC_STATUS_STATE 3 i else s)
        else (if s.get Reg.ADC_STATUS_STATE i = 3 then s.set Reg.ADC_STATUS_STATE 2 i else s)
      if u8 c.payload 0 = 1 then
        (if s2.get Reg.DAC_STATUS_STATE i = 2 then s2.set Reg.DAC_STATUS_STATE 3 i else s2)
      else (if s2.get Reg.DAC_STATUS_STATE i = 3 then s2.set Reg.DAC_STATUS_STATE 2 i else s2)) s1

/-- The payload rows of R142. -/
def payloadsConv : List PayloadRow := [
  ⟨0x0B01, .fix 4, [.num 0 1 1 15, .zero 1 3]⟩,
  ⟨0x0B02, .fix 4, [.bits 0 0 8 0 15, .bits 0 8 8 0 15, .bits 0 0 16 1 0xF0F, .zero 2 2]⟩,
  ⟨0x0B03, .fix 4, [.num 0 1 0 1, .zero 1 3]⟩,
  ⟨0x0B04, .fix 8, [.num 0 1 1 15, .num 1 1 0 1, .num 2 2 1 1000, .num 4 2 1 10000, .num 6 1 1 100, .zero 7 1]⟩,
  ⟨0x0B05, .fix 4, [.num 0 1 0 7, .given 0 0 3 (.num 1 1 0 3), .given 0 4 7 (.num 1 1 0 60), .num 2 1 0 1, .zero 3 1]⟩,
  ⟨0x0B06, .fix 4, [.num 0 1 0 3, .zero 1 3]⟩,
  ⟨0x0B07, .fix 4, [.num 0 1 0 3, .num 1 1 0 64, .zero 2 2]⟩]

end Sys2Proof.Machine
end

