-- ==== Sys2Proof/Machine/Modes.lean ====
section
/-! DEFINITION. What the whole device shares (chapters 01, 02, 18 and 24): quenches, powered resources, the latency report, loops and
their bounds, GPIO, optics buses, interrupt routes. -/

namespace Sys2Proof.Machine

/-! ### Quenches (R51–R55) -/

/-- The key of an object in the table of running quenches: kind of R54 and index; transmit furrow f is kind 3, index 32 + f. -/
def qKey (kind idx : Nat) : Nat := 4096 * kind + idx

/-- The Q_STATE field of an object and its instance (R53). -/
def qField (kind idx : Nat) : Field × Nat :=
  match kind with
  | 1 => (Reg.TN_IN_STATUS_Q_STATE, idx)
  | 2 => (Reg.LAT_STATUS_Q_STATE, idx)
  | 3 => if idx < 32 then (Reg.FR_STATUS_Q_STATE, idx) else (Reg.TXF_STATUS_Q_STATE, idx - 32)
  | 4 => (Reg.LN_STATUS_Q_STATE, idx)
  | 5 => (Reg.LF_STATUS_Q_STATE, idx)
  | _ => (Reg.CTX_STATUS_Q_STATE, idx)

/-- Q_STATE of an object: 0 RUNNING, 1 STOPPING, 2 QUIESCED. -/
def State.qState (s : State) (kind idx : Nat) : Nat := s.get (qField kind idx).1 (qField kind idx).2

def State.setQState (s : State) (kind idx v : Nat) : State := s.set (qField kind idx).1 v (qField kind idx).2

/-- Count discarded items of an object in its QUENCH_DISCARDS (R53). -/
def State.quenchDiscards (s : State) (kind idx n : Nat) : State :=
  match kind with
  | 1 => s.bump Cnt.TN_QUENCH_DISCARDS idx 0 n
  | 2 => s.bump Cnt.LAT_QUENCH_DISCARDS idx 0 n
  | 3 => if idx < 32 then s.bump Cnt.FR_QUENCH_DISCARDS idx 0 n else s.bump Cnt.TXF_QUENCH_DISCARDS 0 (idx - 32) n
  | 4 => s.bump Cnt.LN_QUENCH_DISCARDS idx 0 n
  | 5 => s.bump Cnt.LF_QUENCH_DISCARDS idx 0 n
  | _ => s.bump Cnt.CTX_QUENCH_DISCARDS idx 0 n

/-- The writer queue that takes an object's QUENCH_DONE record (R696; log entry 13). -/
def quenchWb (kind idx : Nat) : Nat :=
  match kind with
  | 1 => wbIntake
  | 2 => wbLateral
  | 3 => if idx < 32 then wbFurrow else wbTx
  | 4 => wbLane
  | 5 => wbLeaf
  | _ => wbCipher

def State.setQuench (s : State) (kind idx : Nat) (q : Option Quench) : State :=
  { s with sys := { s.sys with quench := tput none s.sys.quench (qKey kind idx) q } }

def State.quenchOf (s : State) (kind idx : Nat) : Option Quench := tget none s.sys.quench (qKey kind idx)

/-- An object is disabled: a RUNNING object enters STOPPING with the timeout in force; a pending enable is withdrawn (R51, R55, R62). -/
def State.startQuench (s : State) (kind idx : Nat) : State :=
  match s.qState kind idx with
  | 0 => (s.setQState kind idx 1).setQuench kind idx (some { start := s.clock, timeout := s.quenchTimeout })
  | 1 => s.setQuench kind idx ((s.quenchOf kind idx).map (fun q => { q with reenable := false }))
  | _ => s.setQuench kind idx none

/-- An object is enabled: at once from RUNNING or QUIESCED; a STOPPING object completes its quench first (R55). -/
def State.enableObj (s : State) (kind idx : Nat) : State :=
  match s.qState kind idx with
  | 1 => s.setQuench kind idx ((s.quenchOf kind idx).map (fun q => { q with reenable := true }))
  | _ => (s.setQState kind idx 0).setQuench kind idx none

/-- A commit takes an object's enable from `was` to `now`; with a pending enable, `now` replaces it (R55). -/
def State.enableChange (s : State) (kind idx : Nat) (was now : Bool) : State :=
  if was && !now then s.startQuench kind idx
  else if !was && now then s.enableObj kind idx
  else s

/-- An object is QUIESCED with `n` items discarded: counter, Q_STATE, QUENCH_DONE record (R51, R53, R54). -/
def State.finishQuench (s : State) (kind idx n : Nat) : State :=
  match s.quenchOf kind idx with
  | none => s
  | some q =>
    let s1 := ((s.quenchDiscards kind idx n).setQState kind idx 2).logQuench (quenchWb kind idx) kind idx n q.start
    if q.reenable then s1 else s1.setQuench kind idx none

/-- No quench runs. -/
def State.noQuench (s : State) : Bool :=
  s.sys.quench.all (fun e => s.qState (e.1 / 4096) (e.1 % 4096) ≠ 1)

/-- The objects whose pending enable the next multiframe boundary applies (R55). -/
def State.pendingEnables (s : State) : List (Nat × Nat) :=
  (s.sys.quench.filter (fun e => s.qState (e.1 / 4096) (e.1 % 4096) == 2 && (match e.2 with | some q => q.reenable | none => false))).map
    (fun e => (e.1 / 4096, e.1 % 4096))

/-- An object's admission is open. -/
def State.running (s : State) (kind idx : Nat) : Bool := s.qState kind idx == 0

/-! ### The furrow grid (R145, R188) -/

/-- The furrow count N that a NFURROW code names. -/
def furrowCount (code : Nat) : Nat :=
  match code with
  | 0 => 1
  | 1 => 4
  | 2 => 8
  | 3 => 16
  | _ => 32

/-! ### Powered resources (R63, R73) -/

/-- Laterals powered in a mode under a profile. -/
def poweredLats (mode prof : Nat) : Nat :=
  if mode = 3 then 0 else if mode = 2 then 2 else if prof = 2 || prof = 3 then 1 else 32

/-- Reservoir banks powered. -/
def poweredBanks (mode prof : Nat) : Nat :=
  if mode = 3 then 0 else if mode = 2 then 4 else if prof = 3 then 8 else 40

/-- The mode that a profile belongs to. -/
def profileMode (prof : Nat) : Nat :=
  match prof with
  | 1 => 1
  | 4 => 2
  | 5 => 3
  | _ => 0

/-- The profile in force. -/
def State.profile (s : State) : Nat := s.get Reg.MODE_STATUS_PROFILE

/-- The coherent blocks run: not module mode, not shut down (R618, R762, R764). -/
def State.coherent (s : State) : Bool := !s.sys.gated

/-- The coherent blocks are off: module mode, or held in reset (R618). -/
def State.blocksOff (s : State) : Bool := s.get Reg.MODE_STATUS_MODE == 3 || !s.coherent

/-- A command that acts at once on a coherent block: DENIED while those are off (R618). -/
def actOn (mb op : Nat) (s : State) (f : List Byte → State → State × Reply) : Out :=
  act mb op s (fun p s => if s.blocksOff then (s, err cDENIED) else f p s)

/-! ### Fixed latency (R23–R36, R57) -/

/-- The transmit path is configured: a furrow's transmitter is enabled. -/
def State.txConfigured (s : State) : Bool := (List.range 32).any (fun f => s.flag Reg.TXF_CTRL_EN f)

/-- The receive path is configured: a furrow's receiver is enabled. -/
def State.rxConfigured (s : State) : Bool := (List.range 32).any (fun f => s.flag Reg.FR_RX_CTRL_EN f)

/-- LAT_TX, LAT_RX and LAT_BURST take the totals in force (R35, R619). What makes a path configured is the model's choice: an enabled furrow in its
direction, for bursts a shared furrow of a hub (log entry 25). -/
def State.refreshLatency (s : State) : State :=
  let on := s.flag Reg.FIXLAT_CTRL_EN && !s.changing
  let line := on && s.mode ≠ 3 && s.get Reg.FEC_CTRL_LINE_FEC = 0
  let modu : Bool := on && s.mode = 3
  let tier := match s.get Reg.FIXLAT_CTRL_CD_TIER with
    | 0 => 0
    | 1 => 128
    | _ => 384
  let tx := if modu then 96 else if line && s.txConfigured then 260 else 0
  let rx := if modu then 96 else if line && s.rxConfigured then 336 + 189 * s.get Reg.FEC_CTRL_ITER + tier else 0
  let burst :=
    if line && s.mode = 1 && s.get Reg.BR_SHARED_MASK ≠ 0 then 496 + 60 * s.get Reg.FEC_CTRL_BURST_ITER - 240 else 0
  ((s.set Reg.LAT_TX_CYCLES tx).set Reg.LAT_RX_CYCLES rx).set Reg.LAT_BURST_CYCLES burst

/-! ### Phase-tracked queues (R37, R44) -/

def State.lane (s : State) (l : Nat) : Lane := tget {} s.ln.lanes l
def State.setLane (s : State) (l : Nat) (x : Lane) : State := { s with ln := { s.ln with lanes := tput {} s.ln.lanes l x } }

/-- The receiver hears the lane's own transmission (R597). -/
def State.looped (s : State) (l : Nat) : Bool := s.get Reg.LN_TEST_LOOPBACK l == 1 || s.get Reg.LN_TEST_LOOPBACK l == 3

/-- What crosses between a lane and the device. -/
def State.laneData (s : State) (l : Nat) : LaneData := (s.lane l).data
def State.setLaneData (s : State) (l : Nat) (x : LaneData) : State := s.setLane l { s.lane l with data := x }

/-- A block of a rill-link lane passes to the TSI: a POS 0 header begins a frame, another header a position, a data block goes to its position; a block
without a valid sync header takes its place by order; idle blocks carry nothing (R391, R393). -/
def LaneData.pass (x : LaneData) (b : BitVec 66) : LaneData :=
  let sync := b.toNat / 2 ^ 64
  let w : BitVec 64 := b.setWidth 64
  let full := match x.rows.getLast? with
    | some r => decide (98 ≤ r.data.length)
    | none => true
  let y := { x with last := some b }
  if sync = 2 && w.toNat / 2 ^ 56 = 0x3C then y
  else if sync = 2 && w.toNat / 2 ^ 48 = 0xC300 then { y with rows := [{ header := w }] }
  else if sync = 2 || (sync ≠ 1 && full) then { y with rows := x.rows ++ [{ header := w }] }
  else { y with rows := x.rows.dropLast ++ (x.rows.getLast?.map (fun r => { r with data := r.data ++ [w] })).toList }

/-- A block crosses the queue of a lane, unless a re-centring drops it (R37). -/
def LaneData.cross (x : LaneData) (b : BitVec 66) : LaneData := if 0 < x.skip then { x with skip := x.skip - 1 } else x.pass b

/-- A re-centring drops the next `shift` blocks or symbols, or repeats the last one −`shift` times (R37). -/
def LaneData.recentre (x : LaneData) (shift : Int) : LaneData :=
  let y := { x with skip := shift }
  match x.last with
  | some b => (List.range (-shift).toNat).foldl (fun z _ => z.pass b) y
  | none => y

/-- The crossing queue of a lane is phase-tracked: always in module mode; elsewhere, in fixed-latency mode, on a lane of the transparent path. -/
def State.tracked (s : State) (l : Nat) : Bool :=
  if s.mode = 3 then s.get Reg.LN_CFG_FORMAT l == 4
  else s.flag Reg.FIXLAT_CTRL_EN && decide (l < 16) && (s.get Reg.LN_CFG_FORMAT l == 2 ||
    (s.get Reg.LN_CFG_FORMAT l == 1 && (List.range 256).any (fun t => s.get Reg.TN_CLIENT_KIND t == 1 && (s.clientLanesOf t).contains l)))

/-- The lock bit of a lane's crossing queue: set when `on` and the queue is phase-tracked, cleared otherwise (R37, R58). -/
def State.setXqLock (s : State) (l : Nat) (on : Bool) : State :=
  let v := b2n (on && s.tracked l)
  if l < 16 then s.set Reg.XQ_STATUS_HOST_LOCK (putBits (s.get Reg.XQ_STATUS_HOST_LOCK) l 1 v)
  else s.set Reg.XQ_STATUS_MEDIA_LOCK (putBits (s.get Reg.XQ_STATUS_MEDIA_LOCK) (l - 16) 1 v)

/-- XQ_RECENTRE: a phase-tracked queue is found a block or more off centre and is re-centred (R37); until it is centred again its lock
bit reads 0. `shift` says by how many blocks or symbols too many the queue is found off centre; none when it is centred again. -/
def execXqRecentre (lane : Fin 24) (shift : Option Int) (s : State) : Out :=
  let l := lane.val
  if s.get Reg.LN_STATUS_RX_STATE l ≠ 3 || !s.tracked l then .next s
  else
    let s1 := s.setXqLock l shift.isNone
    match shift with
    | none => done s s1
    | some k => done s ((s1.setLaneData l ((s1.laneData l).recentre k)).bump Cnt.XQ_SLIP)

/-! ### Loops and bounds (R85–R91) -/

/-- Instances of a loop. -/
def loopInstances (loop : Nat) : Nat :=
  match loop with
  | 1 => 32
  | 2 => 33
  | 3 => 24
  | 4 => 2
  | 5 => 1
  | _ => 0

/-- The physical range of a loop instance. -/
def loopRange (loop inst : Nat) : Int × Int :=
  match loop with
  | 1 => (32, 88)
  | 2 => (0, 180)
  | 3 => (0, 240)
  | 4 => if inst = 0 then (620, 820) else (650, 850)
  | _ => (32, 64)

/-- The default bounds of a loop instance. -/
def loopDefault (loop inst : Nat) : Int × Int :=
  match loop with
  | 3 => (0, 200)
  | 5 => (48, 64)
  | _ => loopRange loop inst

/-- The committed bounds of a loop instance. -/
def State.bounds (s : State) (loop inst : Nat) : Int × Int :=
  (tget none s.sys.bounds (64 * loop + inst)).getD (loopDefault loop inst)

/-- The value a loop instance controls. -/
def State.loopValue (s : State) (loop inst : Nat) : Int :=
  match loop with
  | 1 => Int.ofNat (s.get Reg.FR_STATUS_H_NOW inst)
  | 2 => tget 0 s.sys.agc inst
  | 3 => Int.ofNat (s.get Reg.LN_FOM_CTLE inst)
  | 4 => Int.ofNat (if inst = 0 then s.get Reg.PWR_STATUS_VDSP_MV else s.get Reg.PWR_STATUS_VFAB_MV)
  | _ => Int.ofNat (s.get Reg.PWR_STATUS_FRACTION)

/-- A value limited by bounds (R86). -/
def clampTo (b : Int × Int) (v : Int) : Int := if v < b.1 then b.1 else if b.2 < v then b.2 else v

def State.setClamp (s : State) (loop inst : Nat) (c : Option Clamp) : State :=
  { s with sys := { s.sys with clamps := tput none s.sys.clamps (64 * loop + inst) c } }

/-- Start a clamp episode: record, counter, CLAMP_STATUS (R87, R89). -/
def State.startClamp (s : State) (loop inst dir : Nat) (bound target : Int) : State :=
  ((((s.setClamp loop inst (some { dir := dir })).log wbGlobal 0x03
    ([BitVec.ofNat 8 loop, BitVec.ofNat 8 inst, BitVec.ofNat 8 dir, 0] ++ bytes 4 (twos 32 bound) ++ bytes 4 (twos 32 target))).bump
      Cnt.POLICY_CLAMPS 0 (loop - 1)).set Reg.CLAMP_STATUS_CLAMP (s.get Reg.CLAMP_STATUS_CLAMP ||| 2 ^ (loop - 1)))

/-- A loop looks at its own target against its bounds (R87, R88). -/
def State.clampCheck (s : State) (loop inst : Nat) (target : Int) : State :=
  let b := s.bounds loop inst
  let cur := tget none s.sys.clamps (64 * loop + inst)
  if target < b.1 || b.2 < target then
    let dir := if target < b.1 then 0 else 1
    let bound := if target < b.1 then b.1 else b.2
    match cur with
    | some c => if c.dir = dir then s.setClamp loop inst (some { c with inBounds := none }) else s.startClamp loop inst dir bound target
    | none => s.startClamp loop inst dir bound target
  else
    match cur with
    | some c => s.setClamp loop inst (some { c with inBounds := some (c.inBounds.getD s.clock) })
    | none => s

/-- CLAMP_EPISODE_END: the target has stayed within bounds for 1 ms (R88). -/
def execClampEpisodeEnd (loop : Fin 6) (inst : Fin 33) (s : State) : Out :=
  match tget none s.sys.clamps (64 * loop.val + inst.val) with
  | some { dir := _, inBounds := some t } =>
    if t + msT 1 ≤ s.clock then done s (s.setClamp loop.val inst.val none) else .next s
  | _ => .next s

/-! ### GPIO (R676) -/

/-- The functions that take a pin, when enabled: burst gate, selector and the two signal-fail inputs. -/
def State.pinOwners (s : State) : List Nat :=
  (if s.flag Reg.TXS_LEAF_CFG_GATE_EN then [s.get Reg.TXS_LEAF_CFG_GATE_GPIO] else []) ++
  (if s.flag Reg.PROT_CFG_EN then [s.get Reg.PROT_CFG_SEL_GPIO, s.get Reg.PROT_CFG_SF_A_GPIO, s.get Reg.PROT_CFG_SF_B_GPIO] else [])

/-- No pin is named twice. -/
def nodup (l : List Nat) : Bool :=
  match l with
  | [] => true
  | a :: t => !t.contains a && nodup t

/-! ### Staged settings of these chapters -/

/-- A register word with its reserved bits dropped (R804). -/
def setWord (s : State) (a mask : Nat) (v : Nat) : State := s.setReg a (BitVec.ofNat 32 (v &&& mask))

/-- The instances that a bounds command names. -/
def loopTargets (loop inst : Nat) : List Nat := if inst = 0xFF then List.range (loopInstances loop) else [inst]

/-- What the staged commands of these chapters set. MODE_CTRL takes effect in `State.modeBoundary`. -/
def applyCtl (c : Staged) (s : State) : State :=
  let p := c.payload
  if c.op = 0x0110 then (s.set Reg.FIXLAT_CTRL_EN (u8 p 0)).set Reg.FIXLAT_CTRL_CD_TIER (u8 p 1)
  else if c.op = 0x0112 then s.set Reg.QUENCH_CFG_TIMEOUT_US (u16 p 0)
  else if c.op = 0x0120 then (s.set Reg.MODE_CTRL_MODE (u8 p 0)).set Reg.MODE_CTRL_PROFILE (u8 p 1)
  else if c.op = 0x0122 then
    (loopTargets (u8 p 0) (u8 p 1)).foldl (fun s i =>
      let b := (sint 32 (u32 p 4), sint 32 (u32 p 8))
      let v := if b = loopDefault (u8 p 0) i then none else some b
      { s with sys := { s.sys with bounds := tput none s.sys.bounds (64 * u8 p 0 + i) v } }) s
  else if c.op = 0x0130 then setWord s (0x12080 + 4 * u8 p 0) 0x3F (u32 p 4)
  else if c.op = 0x0133 then (setWord s 0x12060 0x7F7F7F7F (u32 p 0)).setReg 0x12064 (BitVec.ofNat 32 (u32 p 4 &&& 3))
  else if c.op = 0x0170 then setWord s (0x300 + 4 * u8 p 0) 0xFF (u32 p 4)
  else s

/-- The part of a commit boundary in these chapters: an output pin configured by the commit drives INIT (R676), a group newly routed
while pending and unmasked sends a message (R797), the latency report follows (R35). -/
def State.ctlBoundary (cs : List Staged) (old s : State) : State :=
  let s1 := cs.foldl (fun s c =>
    if c.op = 0x0130 && s.get Reg.GPIO_CFG_MODE (u8 c.payload 0) = 1 then
      s.set Reg.GPIO_OUT_OUT (putBits (s.get Reg.GPIO_OUT_OUT) (u8 c.payload 0) 1 (s.get Reg.GPIO_CFG_INIT (u8 c.payload 0)))
    else s) s
  let newly := (List.range 26).filter (fun g => g ≠ 0 && s1.flag Reg.INT_ROUTE_MSIX_EN g && s1.groupUp g && old.groupUp g &&
    (!old.flag Reg.INT_ROUTE_MSIX_EN g || old.get Reg.INT_ROUTE_VECTOR g ≠ s1.get Reg.INT_ROUTE_VECTOR g))
  ((newly.map (fun g => s1.get Reg.INT_ROUTE_VECTOR g)).eraseDups.foldl State.msixDue s1).refreshLatency

/-- The commands that stage pin 'p''s configuration or an enabled function's pins. -/
def readsPins : Staged → Bool := opIn [0x0130, 0x0310, 0x0332]

/-- The rules of these chapters that fail validation. -/
def ctlChecks : List Check := [
  { rule := 36, bad := fun _ _ n => n.flag Reg.FIXLAT_CTRL_EN && (n.get Reg.FEC_CTRL_LINE_FEC == 1 || n.get Reg.FEC_CTRL_LINE_FEC == 2),
    reads := opIn [0x0110, 0x0320] },
  { rule := 59, bad := fun _ _ n => n.get Reg.QUENCH_CFG_TIMEOUT_US == 0 || decide (10000 < n.get Reg.QUENCH_CFG_TIMEOUT_US),
    reads := opIn [0x0112] },
  { rule := 64, bad := fun _ _ n => (n.get Reg.FEC_CTRL_LINE_FEC == 1 || n.get Reg.FEC_CTRL_LINE_FEC == 2) && n.get Reg.MODE_CTRL_MODE != 0,
    reads := opIn [0x0120, 0x0320] },
  { rule := 73, bad := fun _ _ n => let p := n.get Reg.MODE_CTRL_PROFILE
                 decide (5 < p) || (p != 0 && profileMode p != n.get Reg.MODE_CTRL_MODE), reads := opIn [0x0120] }] ++
  ((List.range 6).flatMap (fun l => (List.range (loopInstances l)).map (fun i =>
    { rule := 91
      bad := fun _ _ n => let b := n.bounds l i; let r := loopRange l i
             decide (b.2 < b.1 ∨ b.1 < r.1 ∨ r.2 < b.1 ∨ b.2 < r.1 ∨ r.2 < b.2)
      reads := fun c => c.op == 0x0122 && u8 c.payload 0 == l && (u8 c.payload 1 == i || u8 c.payload 1 == 0xFF) }))) ++
  ((List.range 16).map (fun p =>
    { rule := 676, bad := fun _ _ n => n.pinOwners.contains p && n.get Reg.GPIO_CFG_MODE p == 1,
      reads := fun c => (c.op == 0x0130 && u8 c.payload 0 == p) || opIn [0x0310, 0x0332] c })) ++
  [{ rule := 676, bad := fun _ _ n => !nodup n.pinOwners, reads := opIn [0x0310, 0x0332] }] ++
  ((List.range 64).map (fun g =>
    { rule := 797
      bad := fun cs _ n =>
        if g = 0 then n.flag Reg.INT_ROUTE_MSIX_EN 0
        else if g < 26 then n.flag Reg.INT_ROUTE_MSIX_EN g && decide (n.get Reg.INT_ROUTE_VECTOR g < 8)
        else cs.any (fun c => c.op == 0x0170 && u8 c.payload 0 == g)
      reads := fun c => c.op == 0x0170 && u8 c.payload 0 == g }))

/-! ### Commands of chapters 01, 02, 18 and 24 -/

/-- SYS_LATENCY_SET, staged (R61, R62). -/
def execSysLatencySet (mb : Fin 8) (s : State) : Out := stage mb.val 0x0110 (fun _ => [(.latency, 0)]) s

/-- SYS_LATENCY_GET (R61). -/
def execSysLatencyGet (mb : Fin 8) (s : State) : Out :=
  report mb.val 0x0111 s (fun _ s =>
    okD (bytes 2 (s.get Reg.LAT_TX_CYCLES) ++ bytes 2 (s.get Reg.LAT_RX_CYCLES) ++ bytes 2 (s.get Reg.LAT_BURST_CYCLES) ++
      bytes 1 (s.get Reg.XQ_STATUS_DEPTH) ++ bytes 1 (s.get Reg.FIXLAT_CTRL_EN)))

/-- SYS_QUENCH_TIMEOUT_SET, staged (R61, R62). -/
def execSysQuenchTimeoutSet (mb : Fin 8) (s : State) : Out := stage mb.val 0x0112 (fun _ => [(.latency, 0)]) s

/-- SYS_MODE_SET, staged under the global mode lock (R78, R79). -/
def execSysModeSet (mb : Fin 8) (s : State) : Out := stage mb.val 0x0120 (fun _ => [(.modeLock, 0)]) s

/-- SYS_MODE_GET (R98). -/
def execSysModeGet (mb : Fin 8) (s : State) : Out :=
  report mb.val 0x0121 s (fun _ s => okD (wordBytes [s.reg 0x124]))

/-- An instance that the loop does not have answers INVALID with the instance's offset. -/
def badInstance (p : List Byte) (all : Bool) : Option Reply :=
  if u8 p 1 < loopInstances (u8 p 0) || (all && u8 p 1 = 0xFF) then none
  else some { code := cINVALID, index := 2 }

/-- SYS_LOOP_BOUNDS_SET, staged (R98, R99). -/
def execSysLoopBoundsSet (mb : Fin 8) (s : State) : Out :=
  stage mb.val 0x0122 (fun p => (loopTargets (u8 p 0) (u8 p 1)).map (fun i => (.loopInst, 64 * u8 p 0 + i))) s
    (refuse := fun p _ => badInstance p true)

/-- SYS_LOOP_BOUNDS_GET (R98). -/
def execSysLoopBoundsGet (mb : Fin 8) (s : State) : Out :=
  report mb.val 0x0123 s (fun p s =>
    match badInstance p false with
    | some r => r
    | none =>
      let b := s.bounds (u8 p 0) (u8 p 1)
      okD (bytes 4 (twos 32 b.1) ++ bytes 4 (twos 32 b.2) ++ bytes 4 (twos 32 (s.loopValue (u8 p 0) (u8 p 1)))))

/-- INT_ROUTE_SET, staged (R799, R800). -/
def execIntRouteSet (mb : Fin 8) (s : State) : Out := stage mb.val 0x0170 (fun _ => [(.intRoute, 0)]) s

/-- INT_STATUS_GET (R799). -/
def execIntStatusGet (mb : Fin 8) (s : State) : Out :=
  report mb.val 0x0171 s (fun _ s => okD (wordBytes [s.readWord 0x200, s.readWord 0x204, s.reg 0x208, s.reg 0x20C]))

/-- GPIO_CFG_SET, staged (R680, R681). -/
def execGpioCfgSet (mb : Fin 8) (s : State) : Out := stage mb.val 0x0130 (fun p => [(.gpio, u8 p 0)]) s

/-- GPIO_WRITE (R680): DENIED unless every masked pin is an output that no block owns. -/
def execGpioWrite (mb : Fin 8) (s : State) : Out :=
  act mb.val 0x0131 s (fun p s =>
    let pins := maskList (u16 p 0) 16
    if pins.any (fun k => s.get Reg.GPIO_CFG_MODE k ≠ 1 || s.pinOwners.contains k) then (s, err cDENIED)
    else (pins.foldl (fun s k => s.set Reg.GPIO_OUT_OUT (putBits (s.get Reg.GPIO_OUT_OUT) k 1 (bitsOf (u16 p 2) k 1))) s, ok))

/-- GPIO_GET (R680, R681). -/
def execGpioGet (mb : Fin 8) (s : State) : Out :=
  report mb.val 0x0132 s (fun _ s => okD (wordBytes [s.reg 0x12040, s.reg 0x1204C, s.reg 0x12044]))

/-- OPT_BUS_CFG_SET, staged (R680, R681). -/
def execOptBusCfgSet (mb : Fin 8) (s : State) : Out := stage mb.val 0x0133 (fun _ => [(.optics, 0)]) s

/-- OPT_SPI_XFER (R677, R680): the transfer starts, or the bus is busy. -/
def execOptSpiXfer (mb : Fin 8) (s : State) : Out :=
  actLong mb.val 0x0134 s (fun p s =>
    if s.opt.spi.isSome then (s, some (err cBUSY))
    else
      let out := p.drop 4
      ({ s with opt := { s.opt with
          spi := some ⟨mb.val, u8 p 0, out, u16 p 2⟩
          sentSpi := s.opt.sentSpi ++ [(u8 p 0, out)] } }.set Reg.OPT_STATUS_SPI_BUSY 1, none))

/-- OPT_SPI_XFER_DONE: the transfer ends with the bytes that the chip select sent back (R677). -/
def execOptSpiXferDone (inBytes : List Byte) (s : State) : Out :=
  match s.opt.spi with
  | none => .next s
  | some x =>
    let s1 := ({ s with opt := { s.opt with spi := none } }).set Reg.OPT_STATUS_SPI_BUSY 0
    done s (s1.finish x.mb (okD ((List.range x.want).map (fun i => inBytes.getD i 0))))

/-- OPT_I2C_XFER (R677, R680): INVALID for n = m = 0, BUSY while the bus runs a transfer. -/
def execOptI2cXfer (mb : Fin 8) (s : State) : Out :=
  actLong mb.val 0x0135 s (fun p s =>
    if u16 p 2 = 0 && u16 p 4 = 0 then (s, some { code := cINVALID, index := 3 })
    else if s.opt.i2c.isSome then (s, some (err cBUSY))
    else
      let out := p.drop 8
      ({ s with opt := { s.opt with
          i2c := some ⟨mb.val, u8 p 0, out, u16 p 4⟩
          sentI2c := s.opt.sentI2c ++ [(u8 p 0, out)] } }.set Reg.OPT_STATUS_I2C_BUSY 1, none))

/-- OPT_I2C_XFER_DONE: the transfer ends with a status of R678 and the bytes read, zero after a fault. -/
def execOptI2cXferDone (status : Fin 5) (inBytes : List Byte) (s : State) : Out :=
  match s.opt.i2c with
  | none => .next s
  | some x =>
    let s1 := ({ s with opt := { s.opt with i2c := none } }).set Reg.OPT_STATUS_I2C_BUSY 0
    let s2 := if status.val = 1 || status.val = 2 then s1.bump Cnt.OPT_I2C_NACKS
      else if status.val = 3 || status.val = 4 then s1.bump Cnt.OPT_I2C_FAULTS else s1
    done s (s2.finish x.mb (okD ([BitVec.ofNat 8 status.val, 0, 0, 0] ++
      (List.range x.want).map (fun i => if status.val = 0 then inBytes.getD i 0 else 0))))

/-- The payload rows of R61, R98, R680 and R799. -/
def payloadsCtl : List PayloadRow := [
  ⟨0x0110, .fix 4, [.num 0 1 0 1, .num 1 1 0 2, .zero 2 2]⟩,
  ⟨0x0111, .fix 0, []⟩,
  ⟨0x0112, .fix 4, [.num 0 2 1 10000, .zero 2 2]⟩,
  ⟨0x0120, .fix 4, [.num 0 1 0 3, .num 1 1 0 5, .zero 2 2]⟩,
  ⟨0x0121, .fix 0, []⟩,
  ⟨0x0122, .fix 12, [.num 0 1 1 5, .zero 2 2]⟩,
  ⟨0x0123, .fix 4, [.num 0 1 1 5, .zero 2 2]⟩,
  ⟨0x0130, .fix 8, [.num 0 1 0 15, .zero 1 3, .bits 4 0 2 0 1]⟩,
  ⟨0x0131, .fix 4, []⟩,
  ⟨0x0132, .fix 0, []⟩,
  ⟨0x0133, .fix 8, [.bits 0 0 5 1 25, .bits 0 8 5 1 25, .bits 0 16 5 1 25, .bits 0 24 5 1 25, .bits 4 0 2 0 2]⟩,
  ⟨0x0134, .plus 4 2 1, [.num 0 1 0 3, .zero 1 1, .num 2 2 1 960]⟩,
  ⟨0x0135, .plus 8 2 1, [.num 0 1 0 127, .zero 1 1, .num 2 2 0 256, .num 4 2 0 256, .zero 6 2]⟩,
  ⟨0x0170, .fix 8, [.num 0 1 0 63, .zero 1 3]⟩,
  ⟨0x0171, .fix 0, []⟩]

end Sys2Proof.Machine
end

