-- ==== Sys2Proof/Machine/Timing.lean ====
section
/-! DEFINITION. References, the DPLL, device time and frame pulses (R627–R651). -/

namespace Sys2Proof.Machine

def State.dpll (s : State) : Nat := s.get Reg.DPLL_STATUS_STATE
def State.selRef (s : State) : Nat := s.get Reg.DPLL_STATUS_REF
def State.refMon (s : State) (r : Nat) : RefMon := tget {} s.tim.refs r
def State.setRefMon (s : State) (r : Nat) (m : RefMon) : State := { s with tim := { s.tim with refs := tput {} s.tim.refs r m } }

/-! ### What follows the DPLL (R640, R646, R648, R649) -/

/-- QL_OUT (R640). -/
def State.qlOut (s : State) : Nat :=
  match s.dpll with
  | 2 => s.get Reg.REF_CFG_QL s.selRef
  | 1 => s.get Reg.HO_CFG_HO_QL
  | 3 => s.get Reg.HO_CFG_HO_QL
  | _ => s.get Reg.HO_CFG_FREERUN_QL

/-- A TCLK is held low (R646). -/
def State.tclkOff (s : State) (x : Nat) : Bool :=
  !s.flag Reg.TCLK_CFG_EN x || (s.get Reg.TCLK_CFG_SQ x == 1 && (s.dpll == 0 || s.dpll == 4)) || (s.get Reg.TCLK_CFG_SQ x == 2 && s.dpll != 2)

/-- SELECTED, QL_OUT and SQUELCHED follow. -/
def State.refreshTiming (s : State) : State :=
  let s1 := (List.range 7).foldl (fun s r => s.set Reg.REF_STATUS_SELECTED (b2n (s.selRef = r)) r) s
  let s2 := s1.set Reg.DPLL_STATUS_QL_OUT s1.qlOut
  (s2.set Reg.TCLK_STATUS_SQUELCHED (b2n (s2.tclkOff 0)) 0).set Reg.TCLK_STATUS_SQUELCHED (b2n (s2.tclkOff 1)) 1

/-! ### Holdover history (R636) -/

/-- The frequency that the DPLL has while LOCKED: its reference's offset, in ppb (log entry 70). -/
def State.refPpb (s : State) (r : Nat) : Int := if s.get Reg.REF_OFS_OFS r = 0x80000000 then 0 else 10 * s.getInt Reg.REF_OFS_OFS r

/-- LOCKED time up to now joins the history at the frequency that DPLL_OFS shows. -/
def State.gather (s : State) : State :=
  match s.tim.lockedAt with
  | none => s
  | some t =>
    let d := s.clock - t
    { s with tim := { s.tim with gathered := s.tim.gathered + d, lockedAt := some s.clock, hist := s.tim.hist ++ [(d, s.getInt Reg.DPLL_OFS_OFS)] } }

/-- Drop `d` of the newest stretches. -/
def histDrop : List (Nat × Int) → Nat → List (Nat × Int)
  | [], _ => []
  | (n, f) :: t, d => if n ≤ d then histDrop t (d - n) else (n - d, f) :: t

/-- Time and time × frequency of the newest `d`. -/
def histTake : List (Nat × Int) → Nat → Nat × Int
  | [], _ => (0, 0)
  | (n, f) :: t, d => if d ≤ n then (d, Int.ofNat d * f) else let r := histTake t (d - n); (n + r.1, Int.ofNat n * f + r.2)

/-- The mean frequency of the last 60 s of LOCKED time without the last second (R636). -/
def State.holdFreq (s : State) : Int :=
  let r := histTake (histDrop s.tim.hist.reverse (secT 1)) (secT 60)
  if r.1 = 0 then 0 else r.2 / Int.ofNat r.1

/-- HO_OFS shows it once there is a history (R636, R648). -/
def State.showHold (s : State) : State := if s.flag Reg.DPLL_STATUS_HISTORY_OK then s.set Reg.HO_OFS_OFS (twos 32 s.holdFreq) else s

/-! ### States and switches (R632–R638) -/

/-- A DPLL state is entered (R635). -/
def State.toDpll (s : State) (new : Nat) : State :=
  if s.dpll = new then s
  else ((s.set Reg.DPLL_STATUS_STATE new).set Reg.TIM_EVENTS_STATE_CHANGE 1).log wbTiming 0x72
    [BitVec.ofNat 8 s.dpll, BitVec.ofNat 8 new, BitVec.ofNat 8 s.selRef]

/-- LOCKED, ACQUIRING and HOLDOVER are left: the history stops, the holdover timer stops. -/
def State.leaveDpll (s : State) : State :=
  let s1 := s.gather
  let s2 := s1.set Reg.HO_ELAPSED_SECONDS s1.hoElapsed
  { s2 with tim := { s2.tim with lockedAt := none, hoStart := none } }

/-- A reference may be chosen (R632). -/
def State.candidate (s : State) (r : Nat) : Bool := s.flag Reg.REF_STATUS_QUALIFIED r && s.get Reg.REF_CFG_PRIO r != 0

/-- The candidate with the lowest PRIO, the lower reference on a tie. -/
def State.bestAuto (s : State) : Option Nat :=
  (List.range 7).foldl (fun b r =>
    if !s.candidate r then b
    else match b with
      | none => some r
      | some q => if s.get Reg.REF_CFG_PRIO r < s.get Reg.REF_CFG_PRIO q then some r else b) none

/-- The best reference (R632). -/
def State.bestRef (s : State) : Option Nat :=
  let m := s.get Reg.DPLL_CFG_MANUAL_REF
  if s.flag Reg.DPLL_CFG_SEL_MODE && s.flag Reg.REF_STATUS_QUALIFIED m then some m else s.bestAuto

/-- The frequency of a reference, Hz (R627). -/
def State.refFreq (s : State) (r : Nat) : Nat :=
  if r < 4 then s.get Reg.REF_FREQ_FREQ_HZ r
  else if r < 6 then 2500000000
  else s.get Reg.RX_CFG_RATE_MBD * 1000000 / furrowCount (s.get Reg.RX_CFG_NFURROW)

/-- Half the period of the comparison rate, ps: 1 / (2 fc) with fc = f / ceil(f / 25 MHz) (R628, R638). -/
def State.halfPeriod (s : State) (r : Nat) : Nat :=
  let f := max 1 (s.refFreq r)
  (f + 24999999) / 25000000 * 1000000000000 / (2 * f)

/-- Device time moves by `d` thirteenths of a nanosecond. -/
def State.moveTime (s : State) (d : Int) : State := { s with timeOff := s.timeOff + d }

/-- A switch to reference `b` for a reason of R634. The phase difference is a free value within ±1 / (2 fc) (R638). Device time takes the step to the
nearest thirteenth of a nanosecond (log entry 71). -/
def State.switchTo (s : State) (b reason : Nat) : State :=
  let old := s.selRef
  let r := s.free 638
  let h := s.halfPeriod b
  let step : Int := Int.ofNat (r.1 % (2 * h + 1)) - Int.ofNat h
  let s1 := r.2.leaveDpll
  let s2 := ((s1.set Reg.DPLL_STATUS_REF b).set Reg.DPLL_STATUS_SWITCHING 1).toDpll 1
  let s3 := (s2.set Reg.LAST_STEP_PS_STEP (twos 32 step)).moveTime ((13 * step + 500) / 1000)
  let s4 := if 1000 ≤ step.natAbs then s3.bump Cnt.PHASE_STEPS else s3
  let s5 := ((s4.bump Cnt.REF_SWITCHES).set Reg.TIM_EVENTS_REF_SWITCH 1).log wbTiming 0x71
    ([BitVec.ofNat 8 old, BitVec.ofNat 8 b, BitVec.ofNat 8 reason, 0] ++ bytes 4 (twos 32 step))
  State.refreshTiming { s5 with tim := { s5.tim with acqAt := s.clock } }

/-- No candidate remains for a DPLL whose reference is disqualified: HOLDOVER where there is a history, else FREERUN (R635–R637). -/
def State.loseRefs (s : State) : State :=
  let s1 := (s.leaveDpll.set Reg.DPLL_STATUS_SWITCHING 0).set Reg.DPLL_STATUS_REF 7
  if s.flag Reg.DPLL_STATUS_HISTORY_OK then
    let f := s1.holdFreq
    let s2 := ((s1.set Reg.HO_OFS_OFS (twos 32 f)).set Reg.DPLL_OFS_OFS (twos 32 f)).toDpll 3
    let s3 := (s2.bump Cnt.HOLDOVER_ENTRIES).set Reg.HO_ELAPSED_SECONDS 0
    if s.get Reg.HO_CFG_HO_SPEC_S = 0 then (((s3.toDpll 4).bump Cnt.LOST_ENTRIES).set Reg.TIM_EVENTS_LOST 1).refreshTiming
    else State.refreshTiming { s3 with tim := { s3.tim with hoStart := some s.clock } }
  else
    let s2 := (s1.set Reg.DPLL_OFS_OFS 0).toDpll 0
    State.refreshTiming { s2 with tim := { s2.tim with gathered := 0, hist := [] } }

/-- The best reference is evaluated again: a switch starts, is held, is abandoned, or the last reference is gone (R632, R633, R635). A commit gives its
switches reason 4 (log entry 72). -/
def State.reselect (s : State) (commit : Bool) : State :=
  let sel := s.selRef
  let lost := decide (sel < 7) && !s.flag Reg.REF_STATUS_QUALIFIED sel
  match s.bestRef with
  | none => if lost then s.loseRefs else s
  | some b =>
    if b = sel then s
    else if s.flag Reg.DPLL_STATUS_SWITCHING && !lost then s
    else
      let idle := s.dpll = 0 || s.dpll = 3 || s.dpll = 4
      s.switchTo b (if commit then 4 else if idle then 5 else if lost then 2
        else if s.flag Reg.DPLL_CFG_SEL_MODE && b = s.get Reg.DPLL_CFG_MANUAL_REF then 3 else 1)

/-! ### Monitors (R627–R631) -/

/-- A qualified reference is disqualified: cause 1 activity, 2 frequency, 3 the condition of R627 (R631). -/
def State.disqualify (s : State) (r cause : Nat) : State :=
  if !s.flag Reg.REF_STATUS_QUALIFIED r then s
  else ((((s.set Reg.REF_STATUS_QUALIFIED 0 r).bump Cnt.DISQUALS r).set Reg.TIM_EVENTS_DISQUAL 1).log wbTiming 0x70
    [BitVec.ofNat 8 r, BitVec.ofNat 8 cause]).reselect false

/-- ACTIVE sets: the first gate starts, the qualification time counts from it (R630, R631). -/
def State.refActive (s : State) (r : Nat) : State :=
  ((s.set Reg.REF_STATUS_ACTIVE 1 r).set Reg.REF_STATUS_QUAL_LEFT (s.get Reg.REF_CFG_QUAL_S r) r).setRefMon r
    { gateAt := s.clock, from_ := s.clock }

/-- ACTIVE clears. -/
def State.refInactive (s : State) (r cause : Nat) : State :=
  ((((s.set Reg.REF_STATUS_ACTIVE 0 r).set Reg.REF_OFS_OFS 0x80000000 r).set Reg.REF_STATUS_QUAL_LEFT 0 r).setRefMon r {}).disqualify r cause

/-- The further condition of R627 for references 4 to 6. -/
def State.refCond (s : State) (r : Nat) : Bool :=
  if r = 4 then s.flag Reg.TL_CFG_RX_EN 0 && s.flag Reg.TL_STATUS_SYNC 0
  else if r = 5 then s.flag Reg.TL_CFG_RX_EN 1 && s.flag Reg.TL_STATUS_SYNC 1
  else
    let f := s.get Reg.RX_OSNR_CFG_CLK_REF_FURROW
    s.mode != 3 && s.coherent && s.flag Reg.FR_RX_CTRL_EN f && s.flag Reg.FR_STATUS_CLK_LOCK f &&
      !(s.mode == 1 && bitsOf (s.get Reg.BR_SHARED_MASK) f 1 == 1)

/-- ACTIVE of references 4 to 6 follows their condition. -/
def State.refreshRefs (s : State) : State :=
  [4, 5, 6].foldl (fun s r =>
    if s.refCond r && !s.flag Reg.REF_STATUS_ACTIVE r then s.refActive r
    else if !s.refCond r && s.flag Reg.REF_STATUS_ACTIVE r then s.refInactive r 3
    else s) s

/-- REF_ACTIVITY_LOSS: no edge arrives in time at TREF_A–TREF_D (R629). -/
def execRefActivityLoss (ref : Fin 4) (s : State) : Out :=
  if s.flag Reg.REF_STATUS_ACTIVE ref.val then done s (s.refInactive ref.val 1) else .next s

/-- REF_ACTIVITY_RETURN: 16 nominal periods in a row each contain an edge (R629). -/
def execRefActivityReturn (ref : Fin 4) (s : State) : Out :=
  if s.flag Reg.REF_STATUS_ACTIVE ref.val then .next s else done s (s.refActive ref.val)

/-- The length of a reference's gate (R630). -/
def State.gateLen (s : State) (r : Nat) : Nat := if 1000000 ≤ s.refFreq r then msT 100 else secT 1

/-- Seconds of qualification left. -/
def State.qualLeft (s : State) (r : Nat) : Nat :=
  let el := (s.clock - (s.refMon r).from_) / secT 1
  s.get Reg.REF_CFG_QUAL_S r - el

/-- FREQ_GATE_END: a gate gives its result, in 0.01 ppm (R630, R631). -/
def execFreqGateEnd (ref : Fin 7) (ofs : Int) (s : State) : Out :=
  let r := ref.val
  let m := s.refMon r
  if !s.flag Reg.REF_STATUS_ACTIVE r || s.clock < m.gateAt + s.gateLen r then .next s
  else
    let o := sint 32 (twos 32 ofs)
    let inside := decide (o.natAbs ≤ 10 * s.get Reg.DPLL_LIMITS_ACCEPT)
    let s1 := (s.set Reg.REF_OFS_OFS (twos 32 o) r).setRefMon r
      { gateAt := s.clock, from_ := if inside || s.flag Reg.REF_STATUS_QUALIFIED r then m.from_ else s.clock, ok := inside }
    let s2 := if s1.dpll = 2 && s1.selRef = r then (s1.gather.set Reg.DPLL_OFS_OFS (twos 32 (s1.refPpb r))).showHold else s1
    if s.flag Reg.REF_STATUS_QUALIFIED r then
      if 10 * s.get Reg.DPLL_LIMITS_REJECT < o.natAbs then
        done s (((s2.setRefMon r { gateAt := s.clock, from_ := s.clock }).set Reg.REF_STATUS_QUAL_LEFT (s.get Reg.REF_CFG_QUAL_S r) r).disqualify r 2)
      else done s s2
    else done s (s2.set Reg.REF_STATUS_QUAL_LEFT (s2.qualLeft r) r)

/-- REF_QUALIFY: ACTIVE has held and every result lain within ±ACCEPT for QUAL_S seconds; with QUAL_S = 0 from the first such result (R631). -/
def execRefQualify (ref : Fin 7) (s : State) : Out :=
  let r := ref.val
  let m := s.refMon r
  if !s.flag Reg.REF_STATUS_ACTIVE r || s.flag Reg.REF_STATUS_QUALIFIED r || !m.ok || s.clock < m.from_ + secT (s.get Reg.REF_CFG_QUAL_S r) then .next s
  else done s (((s.set Reg.REF_STATUS_QUALIFIED 1 r).set Reg.REF_STATUS_QUAL_LEFT 0 r).reselect false)

/-! ### The DPLL's own events (R633, R635–R637) -/

/-- DPLL_LOCK: the phase error has stayed within ±50 ns for 2 s; the switch completes, and one that was held starts (R633, R635). -/
def execDpllLock (s : State) : Out :=
  if s.dpll ≠ 1 || s.clock < s.tim.acqAt + secT 2 then .next s
  else
    let s1 := ((s.set Reg.DPLL_STATUS_SWITCHING 0).toDpll 2).set Reg.DPLL_OFS_OFS (twos 32 (s.refPpb s.selRef))
    done s (State.reselect (State.refreshTiming { s1 with tim := { s1.tim with lockedAt := some s.clock } }) false)

/-- HISTORY_OK: 60 s of LOCKED time have gathered (R636). -/
def execHistoryOk (s : State) : Out :=
  let s1 := s.gather
  if s.flag Reg.DPLL_STATUS_HISTORY_OK || s1.tim.gathered < secT 60 then .next s
  else done s ((s1.set Reg.DPLL_STATUS_HISTORY_OK 1).set Reg.HO_OFS_OFS (twos 32 s1.holdFreq))

/-- HOLDOVER_EXPIRE: the holdover timer has run HO_SPEC_S seconds (R637). -/
def execHoldoverExpire (s : State) : Out :=
  match s.tim.hoStart with
  | none => .next s
  | some t =>
    if s.dpll ≠ 3 || s.clock < t + secT (s.get Reg.HO_CFG_HO_SPEC_S) then .next s
    else done s ((((s.leaveDpll.toDpll 4).bump Cnt.LOST_ENTRIES).set Reg.TIM_EVENTS_LOST 1).refreshTiming)

/-! ### Device time (R641–R643) -/

/-- A correction that runs is cut off where it stands. -/
def State.stopSlew (s : State) : State := { s with timeOff := s.timeOff - s.slewDone, tim := { s.tim with slew := none } }

/-- A timing lane's transmitter shifts its characters by a step rounded to 400 ps, from the next /I/ on; the rest goes out as FRAC_PS (R599). -/
def State.tlShift (s : State) (ps : Int) : State :=
  [0, 1].foldl (fun s t =>
    let x := tget {} s.ln.tls t
    let total := x.frac + ps
    let ui := (total + 200) / 400
    { s with ln := { s.ln with tls := tput {} s.ln.tls t { x with
      frac := total - ui * 400, phase := ((x.phase + ui) % 10).toNat, next := s.devTime / 104 * 2 } } }) s

/-- A step of device time, in thirteenths of a nanosecond (R642, R643). -/
def State.stepTime (s : State) (d : Int) (source : Nat) : State :=
  let s1 := (((((s.moveTime d).tlShift ((1000 * d) / 13)).bump Cnt.TIME_STEPS).set Reg.TIM_EVENTS_TIME_STEP 1)).log wbTiming 0x73
    ([BitVec.ofNat 8 source, 0, 0, 0] ++ bytes 8 (twos 64 ((2 * d + 13) / 26)))
  { s1 with tim := { s1.tim with second := min s1.tim.second (s1.devTime / secT 1) } }

/-- A signed 32-bit value, saturated. -/
def sat32 (x : Int) : Nat := twos 32 (clampTo (-(2 ^ 31), 2 ^ 31 - 1) x)

/-- The error `e` of device time at a mark of the source, in thirteenths of a nanosecond: a step, or a correction over the next second (R642). -/
def State.timeError (s : State) (e : Int) (source : Nat) : State :=
  let s1 := (s.stopSlew).set Reg.LAST_TIME_ERR_E (sat32 ((2 * e + 13) / 26))
  if Int.ofNat (13 * s.get Reg.TIME_CFG_STEP_THR_NS) ≤ Int.ofNat e.natAbs then s1.stepTime (-e) source
  else { s1 with tim := { s1.tim with slew := some (e, s.clock) } }

/-- The second of device time that has begun. -/
def State.devSec (s : State) : Nat := s.devTime / secT 1

/-- TIME_STEP. -/
def execTimeStep (mb : Fin 8) (s : State) : Out :=
  act mb.val 0x0807 s (fun p s =>
    if s.get Reg.TIME_CFG_TIME_SRC ≠ 0 then (s, err cDENIED) else (s.stepTime (13 * sint 64 (u64 p 0)) 0, ok))

/-- TIME_SET: answered at the second boundary (R643). -/
def execTimeSet (mb : Fin 8) (s : State) : Out :=
  actLong mb.val 0x0808 s (fun p s =>
    if s.get Reg.TIME_CFG_TIME_SRC ≠ 0 then (s, some (err cDENIED))
    else ({ s with tim := { s.tim with sets := s.tim.sets ++ [(mb.val, le 6 p 0)] } }, none))

/-- The TIME_SET commands that wait replace the seconds and are answered (R643). -/
def State.applySets (s : State) : State :=
  s.tim.sets.foldl (fun s x =>
    (s.stepTime (Int.ofNat (secT 1) * (Int.ofNat x.2 - Int.ofNat s.devSec)) 0).finish x.1 ok) { s with tim := { s.tim with sets := [] } }

/-! ### Frame pulse inputs (R644) -/

def State.fpi (s : State) (i : Nat) : Fpi := tget {} s.tim.fpis i
def State.setFpi (s : State) (i : Nat) (x : Fpi) : State := { s with tim := { s.tim with fpis := tput {} s.tim.fpis i x } }

/-- A PERIOD field as elapsed time. -/
def pulsePeriod (code : Nat) : Nat := if code = 0 then usT 125 else if code = 1 then msT 1 else secT 1

/-- The window of R644: 100 ns + 50 ppm of the period. -/
def pulseWindow (p : Nat) : Nat := nsT 100 + p / 20000

/-- `b` lies one period after `a`, within the window. -/
def onePeriod (p a b : Nat) : Bool := decide (a + p ≤ b + pulseWindow p ∧ b ≤ a + p + pulseWindow p)

/-- The edges of the last `n` periods, window included. -/
def recent (p n now : Nat) (l : List Nat) : List Nat := l.filter (fun t => decide (now ≤ t + n * (p + pulseWindow p)))

/-- An accepted edge of the input that TIME_SRC names: the error is device time less DELAY_NS from the nearest second (R642). -/
def State.fpiTime (s : State) (i : Nat) : State :=
  if s.get Reg.TIME_CFG_TIME_SRC = 3 + i && s.get Reg.FPI_CFG_PERIOD i = 2 then
    let t : Int := Int.ofNat s.devTime - Int.ofNat (13 * s.get Reg.TIME_DELAY_DELAY_NS)
    let sec : Int := Int.ofNat (secT 1)
    s.timeError ((t + sec / 2) % sec - sec / 2) (3 + i)
  else s

/-- FPI_EDGE: an edge of the polarity that EDGE selects (R644). -/
def execFpiEdge (i : Fin 2) (s : State) : Out :=
  let x := s.fpi i.val
  let p := pulsePeriod (s.get Reg.FPI_CFG_PERIOD i.val)
  if !s.flag Reg.FPI_CFG_EN i.val then .next s
  else if !s.flag Reg.FPI_STATUS_PRESENT i.val then
    if x.edges.any (fun t => onePeriod p t s.clock) then done s ((s.setFpi i.val { fly := some s.clock }).set Reg.FPI_STATUS_PRESENT 1 i.val)
    else done s (s.setFpi i.val { x with edges := recent p 1 s.clock x.edges ++ [s.clock] })
  else match x.fly with
    | none => .next s
    | some f =>
      if onePeriod p f s.clock then done s ((s.setFpi i.val { fly := some s.clock }).fpiTime i.val)
      else if x.outs.any (fun b => onePeriod p b s.clock && x.outs.any (fun a => onePeriod p a b)) then
        done s (((s.setFpi i.val { fly := some s.clock }).bump Cnt.FPI_REALIGNS i.val).fpiTime i.val)
      else done s (s.setFpi i.val { x with outs := recent p 2 s.clock x.outs ++ [s.clock] })

/-- FPI_MISS: an expected edge has not arrived; after 3 in a row PRESENT clears and the flywheel runs on (R644). -/
def execFpiMiss (i : Fin 2) (s : State) : Out :=
  let x := s.fpi i.val
  let p := pulsePeriod (s.get Reg.FPI_CFG_PERIOD i.val)
  match x.fly with
  | none => .next s
  | some f =>
    if !s.flag Reg.FPI_STATUS_PRESENT i.val || s.clock ≤ f + p + pulseWindow p then .next s
    else
      let s1 := (s.setFpi i.val { x with fly := some (f + p), run := x.run + 1 }).bump Cnt.FPI_MISSES i.val
      done s (if 3 ≤ x.run + 1 then (s1.set Reg.FPI_STATUS_PRESENT 0 i.val).set Reg.TIM_EVENTS_FPI_LOSS 1 else s1)

/-! ### Frame pulse outputs (R645) -/

/-- The level that FPO output `y` drives; `mf` is when the last local multiframe boundary fell and its MFN. -/
def State.fpoLevel (s : State) (y : Nat) (mf : Option (Nat × Nat)) : Bool :=
  let p := pulsePeriod (s.get Reg.FPO_CFG_PERIOD y)
  let w := 130 * s.get Reg.FPO_CFG_WIDTH y
  let off := 13 * s.getInt Reg.FPO_OFFSET_OFFSET_NS y
  let within (t : Int) : Bool := decide ((t - off) % Int.ofNat p < Int.ofNat w)
  s.flag Reg.FPO_CFG_EN y && (match s.get Reg.FPO_CFG_ALIGN y with
    | 0 => within (Int.ofNat s.devTime)
    | 3 => match mf with
      | some (t, n) => within (Int.ofNat (s.clock - t + n * usT 125))
      | none => false
    | a => match (s.fpi (a - 1)).fly with
      | some f => within (Int.ofNat s.clock - Int.ofNat f)
      | none => false)

/-! ### Staged settings (R648–R651) -/

def applyTiming (c : Staged) (s : State) : State :=
  let p := c.payload
  if c.op = 0x0801 then
    setWord (setWord (setWord (setWord (setWord (setWord s 0x20000 0x3F (u32 p 0)) 0x20004 0xFFFF (u32 p 4)) 0x20008 0xFFFFFFFF (u32 p 8))
      0x2000C 0x000FFFFF (u32 p 12)) 0x20054 0xFFFF (u32 p 16)) 0x20058 0xFFFF (u32 p 20)
  else if c.op = 0x0802 then
    let s1 := setWord s (0x20100 + 0x20 * u8 p 0) 0x7FFF (u32 p 4)
    if u8 p 0 < 4 then setWord s1 (0x20104 + 0x20 * u8 p 0) 0x3FFFFFFF (u32 p 8) else s1
  else if c.op = 0x0803 then
    let i := u8 p 0
    if i < 2 then setWord (setWord s (0x20240 + 0x10 * i) 0x7 (u32 p 4)) (0x20244 + 0x10 * i) 0x3FFFFFFF (u32 p 8)
    else if i < 4 then setWord (setWord s (0x20280 + 0x10 * (i - 2)) 0x1FFF (u32 p 4)) (0x20284 + 0x10 * (i - 2)) 0xFFFFFFFF (u32 p 8)
    else setWord s (0x20200 + 0x10 * (i - 4)) 0xF (u32 p 4)
  else s

/-- The part of a commit boundary in the timing block: pulse inputs whose configuration changes start afresh, the best reference is evaluated again
(R644, R647). -/
def State.timingBoundary (old s : State) : State :=
  let s1 := [0, 1].foldl (fun s i =>
    if old.reg (0x20200 + 0x10 * i) = s.reg (0x20200 + 0x10 * i) then s else (s.setFpi i {}).set Reg.FPI_STATUS_PRESENT 0 i) s
  let s2 := (List.range 7).foldl (fun s r =>
    if s.flag Reg.REF_STATUS_ACTIVE r && !s.flag Reg.REF_STATUS_QUALIFIED r then s.set Reg.REF_STATUS_QUAL_LEFT (s.qualLeft r) r else s) s1
  ((s2.refreshRefs).reselect true).refreshTiming

/-- The rules of this chapter that fail validation (R645, R648). -/
def timingChecks : List Check := [
  { rule := 648, bad := fun _ _ n => decide (n.get Reg.DPLL_LIMITS_REJECT ≤ n.get Reg.DPLL_LIMITS_ACCEPT), reads := opIn [0x0801] }] ++
  [0, 1].map (fun y =>
    { rule := 645
      bad := fun _ _ n =>
        let p := pulsePeriod (n.get Reg.FPO_CFG_PERIOD y)
        let a := n.get Reg.FPO_CFG_ALIGN y
        decide (p ≤ 26 * (n.getInt Reg.FPO_OFFSET_OFFSET_NS y).natAbs) || decide (p ≤ 260 * n.get Reg.FPO_CFG_WIDTH y) ||
          ((a == 1 || a == 2) && n.get Reg.FPI_CFG_PERIOD (a - 1) != n.get Reg.FPO_CFG_PERIOD y)
      reads := fun c => c.op == 0x0803 && 2 ≤ u8 c.payload 0 })

/-! ### Commands -/

/-- TIMING_CFG_SET. -/
def execTimingCfgSet (mb : Fin 8) (s : State) : Out := stage mb.val 0x0801 (fun _ => [(.timing, 0)]) s

/-- REF_CFG_SET. -/
def execRefCfgSet (mb : Fin 8) (s : State) : Out := stage mb.val 0x0802 (fun _ => [(.timing, 0)]) s

/-- TIMING_OUT_SET. -/
def execTimingOutSet (mb : Fin 8) (s : State) : Out := stage mb.val 0x0803 (fun _ => [(.timing, 0)]) s

/-- TIMING_STATUS_GET. -/
def execTimingStatusGet (mb : Fin 8) (s : State) : Out :=
  report mb.val 0x0804 s (fun _ s => okD (wordBytes ([0x20010, 0x20040, 0x20044, 0x20048, 0x2004C, 0x20050, 0x2005C, 0x20020, 0x20024, 0x20030].map s.readWord)))

/-- REF_STATUS_GET. -/
def execRefStatusGet (mb : Fin 8) (s : State) : Out :=
  report mb.val 0x0805 s (fun p s => okD (wordBytes ((List.range 3).map (fun i => s.reg (0x20108 + 0x20 * u8 p 0 + 4 * i)))))

/-- TIME_GET. -/
def execTimeGet (mb : Fin 8) (s : State) : Out :=
  report mb.val 0x0806 s (fun _ s => okD (bytes 8 s.devNs ++ bytes 2 s.devFrac ++ [BitVec.ofNat 8 s.dpll, 0]))

/-- The payload rows of R650. -/
def payloadsTiming : List PayloadRow := [
  ⟨0x0801, .fix 24, [.bits 0 1 3 0 6, .bits 4 0 8 1 250, .bits 4 8 8 2 255, .bits 12 0 3 0 4, .bits 12 3 17 10 100000]⟩,
  ⟨0x0802, .fix 12, [.num 0 1 0 6, .zero 1 3, .given 0 0 3 (.bits 8 0 30 1000 800000000)]⟩,
  ⟨0x0803, .fix 12, [.num 0 1 0 5, .zero 1 3, .given 0 0 1 (.bits 4 1 2 0 2), .given 0 2 5 (.bits 4 1 2 0 2), .given 0 2 3 (.bits 4 5 8 1 255),
    .given 0 0 1 (.bits 8 0 30 1000 800000000), .given 0 4 5 (.zero 8 4)]⟩,
  ⟨0x0804, .fix 0, []⟩,
  ⟨0x0805, .fix 4, [.num 0 1 0 6, .zero 1 3]⟩,
  ⟨0x0806, .fix 0, []⟩,
  ⟨0x0807, .fix 8, []⟩,
  ⟨0x0808, .fix 8, [.zero 6 2]⟩]

end Sys2Proof.Machine
end

