-- ==== Sys2Proof/Machine/Power.lean ====
section
/-! DEFINITION. Power, reset, start-up, adaptive voltage and heat (R746–R768), as far as they need no other block. -/

namespace Sys2Proof.Machine

/-! ### Key slot 0 and OTP at reset (R422, R424, R732) -/

/-- The ASCII bytes 'TP2416 KCV' of R424. -/
def kcvText : List Byte := [0x54, 0x50, 0x32, 0x34, 0x31, 0x36, 0x20, 0x4B, 0x43, 0x56]

/-- The check value of a key: the first 4 bytes of its HMAC-SHA-256 over the text of R424, byte 0 least significant. -/
def kcv (key : List Byte) : Nat := le 4 (hmacSha256 key kcvText) 0

/-- A 256-bit key from its 32 bytes. -/
def keyOf (b : List Byte) : BitVec 256 := BitVec.ofNat 256 (be 32 b 0)

/-- The status bits that show the OTP fields, and K0 when OTP was loaded with a root key (R422, R732, R744). -/
def State.showOtp (s : State) : State :=
  let o := s.test.otp
  let s1 := (((s.set Reg.TEST_STATUS_OTP_ROOT (b2n o.rootKey.isSome)).set Reg.TEST_STATUS_OTP_PW (b2n o.pwHash.isSome)).set
    Reg.TEST_STATUS_DEBUG_DISABLE (b2n o.debugDisable)).set Reg.TEST_STATUS_VENDOR_DISABLE (b2n o.vendorDisable)
  match o.loadedRoot with
  | none => s1
  | some k =>
    let s2 := { s1 with cip := { s1.cip with keys := tput {} s1.cip.keys 0 { key := keyOf k, hw := 0 } } }
    ((((s2.set Reg.KS_STATUS_STATE 3 0).set Reg.KS_KCV_KCV (kcv k) 0).set Reg.ROOT_KCV_KCV (kcv k)).set Reg.CIPH_STATUS_ROOT 1).set
      Reg.CIPH_STATUS_SLOTS_USED 1

/-! ### Adaptive voltage (R758–R760) -/

/-- Commanded voltage of a rail, 0 VDD_DSP, 1 VDD_FAB. -/
def State.rail (s : State) (r : Nat) : Nat := if r = 0 then s.get Reg.PWR_STATUS_VDSP_MV else s.get Reg.PWR_STATUS_VFAB_MV

def State.setRail (s : State) (r mv : Nat) : State :=
  if r = 0 then s.set Reg.PWR_STATUS_VDSP_MV mv else s.set Reg.PWR_STATUS_VFAB_MV mv

/-- The data word of VOUT_COMMAND for a voltage in mV: in a linear VOUT_MODE a multiple of 2^N volts, N the signed low 5 bits; the other formats are the
regulator's own (log entry 100). -/
def voutWord (mode mv : Nat) : Nat :=
  let n := mode % 32
  if mode / 32 % 8 = 0 then (if n < 16 then mv / 2 ^ n / 1000 else (mv * 2 ^ (32 - n) + 500) / 1000) % 2 ^ 16
  else Config.freeNat 758 (mode % 256 * 1024 + mv) % 2 ^ 16

/-- The device writes VOUT_COMMAND to a rail's regulator (R758). -/
def State.sendVout (s : State) (r mv : Nat) : State :=
  let a := if r = 0 then s.get Reg.PWR_CFG_PMB_ADDR_DSP else s.get Reg.PWR_CFG_PMB_ADDR_FAB
  { s with power := { s.power with pmbSent := some (a, 0x21, voutWord (tget 0 s.power.voutMode r) mv) } }

/-- The device reads VOUT_MODE of both regulators: what they answer is free (R758). -/
def State.readVoutModes (s : State) : State :=
  let a := s.free 758
  let b := a.2.free 758
  { b.2 with power := { b.2.power with voutMode := tput 0 (tput 0 b.2.power.voutMode 0 (a.1 % 256)) 1 (b.1 % 256) } }

/-- A rail goes back to its nominal voltage in one step (R760). -/
def State.railNominal (s : State) (r : Nat) : State :=
  let v := if r = 0 then 720 else 750
  if s.rail r = v then s else ((s.sendVout r v).setRail r v).bump Cnt.AVS_STEPS

/-- Both rails go back to nominal, one step each (R760). -/
def State.railsNominal (s : State) : State := (s.railNominal 0).railNominal 1

/-! ### Resets (R749) -/

/-- An OTP write that reset or loss of power cuts short leaves its field partly written, and so not blank: its value is free (R733,
R765). -/
def cutWrite (fresh : Nat) (w : Option OtpWrite) (o : OtpState) : OtpState :=
  match w with
  | none => o
  | some w =>
    let junk := (List.range 32).map (fun i => BitVec.ofNat 8 (Config.freeNat 733 (fresh + i)))
    match w.field with
    | 1 => { o with rootKey := some junk }
    | 2 => { o with pwHash := some junk }
    | 3 => { o with debugDisable := true }
    | _ => { o with vendorDisable := true }

/-- The MSI-X table words of the PCIe endpoint. -/
def isMsixWord (e : Nat × Word) : Bool := 0x1000 ≤ e.1 && e.1 < 0x1200

/-- What every device reset keeps: the OTP cells, the flash and the count of free values. A slot that was being written holds no image
any more (R765). -/
def State.afterReset (s : State) : State :=
  let z := State.reset
  { z with
    fresh := s.fresh + 32
    pending := s.pending
    test := { z.test with otp := cutWrite s.fresh s.test.write s.test.otp }
    power := { z.power with slotA := s.power.slotA, slotB := s.power.slotB
                            wasHot := s.flag Reg.PWR_STATUS_SHUTDOWN } }

/-- A cold reset: everything, with the OTP fields loaded anew (R749). -/
def State.coldReset (s : State) (cause : Nat) : State :=
  let s1 := s.afterReset
  let o := s1.test.otp
  let s2 := { s1 with test := { s1.test with otp := { o with loadedRoot := o.rootKey, loadedPw := o.pwHash } } }
  s2.showOtp.set Reg.RST_CAUSE_CAUSE cause

/-- A warm reset: everything but the always-on domain, which holds RST_CAUSE, the failed-unlock count with UNLOCK_BLOCKED, the loaded
OTP values, the sampled straps, and the PCIe endpoint; the rails are commanded back to nominal (R749, R760). -/
def State.warmReset (s : State) (cause rail : Nat) : State :=
  let s1 := s.afterReset
  let s2 := { s1 with
    regs := s.regs.filter isMsixWord
    msix := s.msix
    test := { s1.test with fails := s.test.fails }
    power := { s1.power with linkUp := s.power.linkUp, straps := s.power.straps, pmbSent := s.railsNominal.power.pmbSent } }
  let s3 := (s2.showOtp.set Reg.RST_CAUSE_CAUSE cause).set Reg.RST_CAUSE_RAIL rail
  (s3.set Reg.TEST_STATUS_UNLOCK_BLOCKED (s.get Reg.TEST_STATUS_UNLOCK_BLOCKED)).set Reg.FW_STATUS_BOOT_SEL
    (s.get Reg.FW_STATUS_BOOT_SEL)

/-- The PCIe endpoint alone is reset: its link, its capture, the MSI-X capability and table (R749). -/
def State.pcieReset (s : State) : State :=
  { s with
    regs := s.regs.filter (fun e => !isMsixWord e)
    msix := {}
    ifs := tdel 0 s.ifs
    power := { s.power with linkUp := false } }

/-- COLD_RESET: POR_N low, or VDD_AON below 0.70 V for 10 µs. -/
def execColdReset (aon : Bool) (s : State) : Out := .next (s.coldReset (if aon then 2 else 1))

/-- WARM_RESET: RST_N low for 1 µs, or the reset that SYS_RESET asked for 1 ms before; PERST_N low with it resets the endpoint too. -/
def execWarmReset (pin perst : Bool) (s : State) : Out :=
  if pin then
    let r := s.warmReset 3 0
    let r1 := { r with power := { r.power with rstHeld := true } }
    .next (if perst then r1.pcieReset else r1)
  else match s.power.resetAt with
    | some t => if t + msT 1 ≤ s.clock then .next ((s.warmReset 4 0).set Reg.FW_STATUS_STATE 1) else .next s
    | none => .next s

/-- PCIE_RESET: PERST_N low; mailbox commands go on (R749, R765). -/
def execPcieReset (s : State) : Out := .next s.pcieReset

/-- RAIL_UNDERVOLTAGE: a warm reset with cause 5 and the rail (R763). -/
def execRailUndervoltage (rail : Fin 4) (s : State) : Out := .next ((s.warmReset 5 rail.val).set Reg.FW_STATUS_STATE 1)

/-- POWER_LOSS: all state but OTP and the flash is lost; a flash slot being written is left without an image (R748, R765). -/
def execPowerLoss (s : State) : Out :=
  let r := s.afterReset
  .next { r with power := { r.power with wasHot := false } }

/-- RESET_RELEASE: POR_N rises; the straps and the supply of the VDD_IO2 bank are sampled and the loader starts (R752, R776, R777). BOOT_SEL 3 reads as
3 and acts as 1. -/
def execResetRelease (bootSel : Fin 4) (mdioAd : Fin 32) (i2cAd : Fin 4) (io2High : Bool) (s : State) : Out :=
  if s.get Reg.FW_STATUS_STATE ≠ 0 || s.power.rstHeld then .next s
  else done s ((({ s with clock := 0
                          power := { s.power with straps := ⟨mdioAd.val, 0x48 + i2cAd.val, io2High⟩ } }).set Reg.FW_STATUS_STATE 1).set Reg.FW_STATUS_BOOT_SEL bootSel.val)

/-- RST_N_RELEASE: RST_N rises after a warm reset and the firmware boots again (R750). -/
def execRstNRelease (s : State) : Out :=
  if s.power.rstHeld then
    done s (({ s with clock := 0, power := { s.power with rstHeld := false } }).set Reg.FW_STATUS_STATE 1)
  else .next s

/-- PCIE_LINK_UP: the endpoint has trained (R750). -/
def execPcieLinkUp (s : State) : Out := done s { s with power := { s.power with linkUp := true } }

/-! ### Boot (R752–R756) -/

/-- An image's magic, body length and signature are right (R753). -/
def imagePasses (img : List Byte) : Bool :=
  let l := u32 img 8
  u32 img 0 == 0x4B524D4F && l % 4 == 0 && l ≤ 786432 && 144 + l ≤ img.length &&
    Config.fwVerify (img.take (48 + l)) ((img.drop (48 + l)).take 96)

/-- A slot's header names an image to try. -/
def headerOk (img : List Byte) : Bool := u32 img 0 == 0x4B524D4F && u32 img 8 % 4 == 0 && u32 img 8 ≤ 786432

/-- What the loader boots from flash: slot, fallback, image (R754). -/
def State.flashBoot (s : State) : Option (Nat × Bool × List Byte) :=
  let a := s.power.slotA
  let b := s.power.slotB
  let aFirst := headerOk a && (!headerOk b || u32 b 12 ≤ u32 a 12)
  let first := if aFirst then (0, a) else (1, b)
  let second := if aFirst then (1, b) else (0, a)
  if imagePasses first.2 then some (first.1, false, first.2)
  else if imagePasses second.2 then some (second.1, headerOk first.2, second.2)
  else none

/-- The loader serves a host download: BOOT_SEL names one, or no slot passed (R752, R754). -/
def State.hostDownload (s : State) : Bool :=
  (s.get Reg.FW_STATUS_STATE == 1 && s.get Reg.FW_STATUS_BOOT_SEL != 0) || s.get Reg.FW_STATUS_STATE == 3

/-- The image that starts at firmware ready, with its slot and FALLBACK. -/
def State.bootImage (s : State) : Option (Nat × Bool × List Byte) :=
  if s.hostDownload then s.power.image.map (fun i => (0, false, i))
  else if s.get Reg.FW_STATUS_STATE = 1 then s.flashBoot
  else none

/-- BOOT_FAILED: no slot passes; the loader waits for a host download (R754). -/
def execBootFailed (s : State) : Out :=
  if s.get Reg.FW_STATUS_STATE = 1 && s.get Reg.FW_STATUS_BOOT_SEL = 0 && s.flashBoot.isNone then
    done s (s.set Reg.FW_STATUS_STATE 3)
  else .next s

/-- Put chunk bytes at their offset; what no chunk has filled holds 0. -/
def placeChunk (buf : List Byte) (off : Nat) (chunk : List Byte) : List Byte :=
  (buf ++ List.replicate (off - buf.length) 0).take off ++ chunk ++ buf.drop (off + chunk.length)

/-- FW_DOWNLOAD (R756, R767): DENIED after firmware ready; a chunk without a FIRST before it, and a last chunk that fails R753, are
INVALID. -/
def execFwDownload (mb : Fin 8) (s : State) : Out :=
  act mb.val 0x0C01 s (fun p s =>
    if !s.hostDownload then (s, err cDENIED)
    else
      let first := bitsOf (u8 p 6) 0 1 = 1
      let last := bitsOf (u8 p 6) 1 1 = 1
      match (if first then some [] else s.power.download) with
      | none => (s, err cINVALID)
      | some buf =>
        let b := placeChunk buf (u32 p 0) (p.drop 8)
        if !last then ({ s with power := { s.power with download := some b } }, ok)
        else if imagePasses b then ({ s with power := { s.power with download := none, image := some b } }, ok)
        else ({ s with power := { s.power with download := none } }, err cINVALID))

/-- FW_STATUS_GET (R767). -/
def execFwStatusGet (mb : Fin 8) (s : State) : Out :=
  report mb.val 0x0C02 s (fun _ s => okD (wordBytes [s.reg 0x60044, s.reg 0x60048, s.reg 0x6004C, s.reg 0x60040]))

/-- FW_FLASH_WRITE (R767, R768): a chunk for the slot not booted; BUSY while a shutdown runs, INVALID without a FIRST before it. The
answer is sent when the chunk is written. -/
def execFwFlashWrite (mb : Fin 8) (s : State) : Out :=
  actLong mb.val 0x0C03 s (fun p s =>
    if s.power.shutdown.isSome then (s, some (err cBUSY))
    else
      match (if bitsOf (u8 p 6) 0 1 = 1 then some [] else s.power.flash) with
      | none => (s, some (err cINVALID))
      | some buf =>
        let s1 := { s with power := { s.power with
          flash := some (placeChunk buf (u32 p 0) (p.drop 8))
          flashMb := some (mb.val, bitsOf (u8 p 6) 1 1 == 1) } }
        (if s.get Reg.FW_STATUS_SLOT = 0 then { s1 with power := { s1.power with slotB := [] } }
         else { s1 with power := { s1.power with slotA := [] } }, none))

/-- FW_FLASH_WRITE_DONE: the chunk is in the flash; after the last one the slot is verified (R753, R767). -/
def execFwFlashWriteDone (s : State) : Out :=
  match s.power.flashMb, s.power.flash with
  | some (mb, last), some img =>
    let s1 := { s with power := { s.power with flashMb := none } }
    if !last then done s (s1.finish mb ok)
    else
      let s2 := { s1 with power := { s1.power with flash := none } }
      let s3 := if s.get Reg.FW_STATUS_SLOT = 0 then { s2 with power := { s2.power with slotB := img } }
        else { s2 with power := { s2.power with slotA := img } }
      done s (s3.finish mb (if imagePasses img then ok else err cINVALID))
  | _, _ => .next s

/-! ### PMBus transfers (R758, R759) -/

/-- A PMBus transfer to a rail is made and ends: acknowledged, the rail is at `mv`; else the fault of R759, with a retry 1 ms later, and after 8 in a
row steps stop. -/
def State.pmbTransfer (s : State) (r mv : Nat) (acked : Bool) : State :=
  let s := s.sendVout r mv
  if acked then
    let s1 := ((s.setRail r mv).bump Cnt.AVS_STEPS).set Reg.PWR_STATUS_PMB_OK 1
    { s1 with power := { s1.power with pmbFaults := 0, pmbRetry := none, avsLast := tput 0 s1.power.avsLast r s.clock } }
  else
    let n := s.power.pmbFaults + 1
    let s1 := s.bump Cnt.PMB_FAULTS
    if n < 8 then { s1 with power := { s1.power with pmbFaults := n, pmbRetry := some (r, mv, s.clock) } }
    else
      ({ s1 with power := { s1.power with pmbFaults := n, pmbRetry := none, avsStopped := true } }.set Reg.PWR_STATUS_PMB_OK 0).set
        Reg.PWR_EVENTS_PMB_FAULT 1

/-- One step of at most 5 mV from `v` toward `goal`. -/
def stepToward (v goal : Nat) : Nat := if v < goal then min goal (v + 5) else max goal (v - 5)

/-- AVS_STEP: loop 4 compares a rail with its delay monitors' target and sends a step of 5 mV toward it, 1 ms after the last step upward,
10 ms downward (R758, R86, R87). -/
def execAvsStep (rail : Fin 2) (target : Fin 1024) (acked : Bool) (s : State) : Out :=
  let r := rail.val
  if !s.flag Reg.PWR_CFG_AVS_EN || s.power.avsStopped || s.power.pmbRetry.isSome then .next s
  else
    let s1 := s.clampCheck 4 r (Int.ofNat target.val)
    let goal := (clampTo (s.bounds 4 r) (Int.ofNat target.val)).toNat
    let v := s.rail r
    let since := s.clock - tget 0 s.power.avsLast r
    if v = goal || since < (if v < goal then msT 1 else msT 10) then done s s1
    else done s (s1.pmbTransfer r (stepToward v goal) acked)

/-- PMBUS_RETRY: the transfer that failed 1 ms ago is sent again, within the bounds in force (R759, R86). -/
def execPmbusRetry (acked : Bool) (s : State) : Out :=
  match s.power.pmbRetry with
  | some (r, mv, t) =>
    if t + msT 1 ≤ s.clock then
      let goal := (clampTo (s.bounds 4 r) (Int.ofNat mv)).toNat
      done s (s.pmbTransfer r (stepToward (s.rail r) goal) acked)
    else .next s
  | none => .next s

/-- PMBUS_STATUS_POLL: every 10 ms STATUS_WORD is read from each regulator; `oc` and `uv` tell the faults it reports (R759). -/
def execPmbusStatusPoll (oc uv : Bool) (s : State) : Out :=
  if s.clock < s.power.lastPoll + msT 10 then .next s
  else
    let s1 := { s with power := { s.power with lastPoll := s.clock } }
    done s (if oc || uv then (s1.bump Cnt.OC_EVENTS).set Reg.PWR_EVENTS_OC 1 else s1)

/-! ### Heat (R761) -/

/-- THERMAL_SAMPLE: every 100 µs the power block compares the die sensors with its thresholds; `temps` in 1/1000 °C. -/
def execThermalSample (temps : List Int) (s : State) : Out :=
  if s.clock < s.power.lastSample + usT 100 then .next s
  else
    let h := temps.foldl max (temps.headD s.power.hottest)
    let hot := Int.ofNat (1000 * s.get Reg.PWR_CFG_SHUT_C) ≤ h
    let since := if hot then some (s.power.hotSince.getD s.clock) else none
    done s { s with power := { s.power with hottest := h, lastSample := s.clock, hotSince := since } }

/-- THROTTLE_STEP: every 1 ms loop 5 moves its target and the fabric clock fraction by 1/64 (R761, R86, R87). -/
def execThrottleStep (s : State) : Out :=
  if s.clock < s.power.lastThrottle + msT 1 then .next s
  else
    let thr := Int.ofNat (1000 * s.get Reg.PWR_CFG_THROTTLE_C)
    let t0 := s.power.throttleTarget
    let t := if thr < s.power.hottest then max 32 (t0 - 1) else if s.power.hottest < thr - 2000 then min 64 (t0 + 1) else t0
    let s1 := ({ s with power := { s.power with throttleTarget := t, lastThrottle := s.clock } }).clampCheck 5 0 t
    let goal := clampTo (s.bounds 5 0) t
    let v := Int.ofNat (s.get Reg.PWR_STATUS_FRACTION)
    let v' := (if v < goal then v + 1 else if goal < v then v - 1 else v).toNat
    let s2 := (s1.set Reg.PWR_STATUS_FRACTION v').set Reg.PWR_STATUS_THROTTLING (b2n (decide (v' < 64)))
    done s (if v = 64 && v' < 64 then (s2.bump Cnt.THROTTLE_EPISODES).set Reg.PWR_EVENTS_THROTTLE 1 else s2)

/-! ### Commands -/

/-- A change of mode, a self-test or a flash write holds SYS_RESET and SYS_SHUTDOWN back (R765). -/
def State.powerBusy (s : State) : Bool :=
  s.changing || s.test.selfTest.isSome || s.power.flash.isSome || s.power.flashMb.isSome

/-- SYS_RESET (R767): answered, and the warm reset follows 1 ms later. -/
def execSysReset (mb : Fin 8) (s : State) : Out :=
  act mb.val 0x0160 s (fun _ s =>
    if s.powerBusy then (s, err cBUSY) else ({ s with power := { s.power with resetAt := some s.clock } }, ok))

/-- PWR_CFG_SET, staged (R767, R768). -/
def execPwrCfgSet (mb : Fin 8) (s : State) : Out := stage mb.val 0x0162 (fun _ => [(.power, 0)]) s

/-- PWR_STATUS_GET (R767). -/
def execPwrStatusGet (mb : Fin 8) (s : State) : Out :=
  report mb.val 0x0163 s (fun _ s =>
    okD (wordBytes [s.reg 0x60010, s.reg 0x60014, s.reg 0x60020, s.reg 0x60024, s.reg 0x60028, s.reg 0x6002C]))

def applyPower (c : Staged) (s : State) : State :=
  if c.op = 0x0162 then setWord s 0x60000 0x3FFFFFFF (u32 c.payload 0) else s

/-- At the boundary of a commit of AVS_EN = 1 the regulators' VOUT_MODE is read and steps may begin or resume; AVS_EN = 0 commands the
rails back to nominal (R758–R760). -/
def State.powerBoundary (cs : List Staged) (s : State) : State :=
  if cs.any (fun c => c.op == 0x0162) then
    let s1 := { s with power := { s.power with pmbFaults := 0, pmbRetry := none, avsStopped := false } }
    if s.flag Reg.PWR_CFG_AVS_EN then s1.readVoutModes else s1.railsNominal
  else s

def powerChecks : List Check := [
  { rule := 766, bad := fun _ _ n => decide (n.get Reg.PWR_CFG_SHUT_C < n.get Reg.PWR_CFG_THROTTLE_C + 10), reads := opIn [0x0162] }]

/-- The payload rows of R767. -/
def payloadsPower : List PayloadRow := [
  ⟨0x0160, .fix 4, [.num 0 1 1 1, .zero 1 3]⟩,
  ⟨0x0161, .fix 0, []⟩,
  ⟨0x0162, .fix 4, [.bits 0 16 7 85 110, .bits 0 23 7 115 127]⟩,
  ⟨0x0163, .fix 0, []⟩,
  ⟨0x0C01, .plus 8 4 1, [.among 0 1 ((List.range 64).map (4 * ·)), .among 4 2 ((List.range 250).map (fun k => 4 * k + 4)), .num 6 1 0 3, .zero 7 1]⟩,
  ⟨0x0C02, .fix 0, []⟩,
  ⟨0x0C03, .plus 8 4 1, [.among 0 1 ((List.range 64).map (4 * ·)), .among 4 2 ((List.range 250).map (fun k => 4 * k + 4)), .num 6 1 0 3, .zero 7 1]⟩]

end Sys2Proof.Machine
end

