-- ==== Sys2Proof/Machine/Receiver.lean ====
section
/-! DEFINITION. Coherent receive processing (R145–R198): the line's symbol rate and rills, acquisition, figures of merit, gain and modulation
adaptation. -/

namespace Sys2Proof.Machine

/-! ### The line (R68–R72, R145, R147, R385) -/

/-- The furrow count of the line. -/
def State.nFur (s : State) : Nat := furrowCount (s.get Reg.RX_CFG_NFURROW)

/-- Rills slots of a furrow, S. -/
def State.slotsPer (s : State) : Nat := 1920 / s.nFur

/-- Code rate of a RATE_SEL value, in thousandths. -/
def codeRate (sel : Nat) : Nat :=
  match sel with
  | 0 => 800
  | 1 => 840
  | 2 => 875
  | 3 => 900
  | _ => 930

/-- The rills of a furrow at entropy `h` (1/16) and rate `sel`: floor((U − 0.8/N) / 1.25), at most S (R69, R70, R385). -/
def State.rillsOf (s : State) (h sel : Nat) : Nat :=
  min ((70 * s.get Reg.RX_CFG_RATE_MBD * h * codeRate sel - 460800000) / (720000000 * s.nFur)) s.slotsPer

/-- The furrows that the receive chain processes (R147). -/
def State.processed (s : State) : List Nat :=
  if s.mode = 2 then (List.range 4).map (fun i => 4 * s.get Reg.RX_CFG_LEAF_GROUP + i) else List.range s.nFur

/-- Furrow f is shared: hub mode, named in BR_SHARED. -/
def State.shared (s : State) (f : Nat) : Bool := s.mode == 1 && bitsOf (s.get Reg.BR_SHARED_MASK) f 1 == 1

/-- The enabled processed furrows; in hub mode the dedicated ones. -/
def State.lineFurrows (s : State) : List Nat :=
  s.processed.filter (fun f => s.flag Reg.FR_RX_CTRL_EN f && !s.shared f)

/-! ### Decibels in fixed point -/

/-- One, 2⁻⁹⁶ units. -/
def fxOne : Nat := 2 ^ 96

/-- `b^n` for `b` in 2⁻⁹⁶ units, by squaring over the bits of `n`. -/
def fxPow (b n : Nat) : Nat → Nat
  | 0 => fxOne
  | k + 1 =>
    let r := fxPow (b * b / fxOne) (n / 2) k
    if n % 2 = 1 then r * b / fxOne else r

/-- 10^(k/2000): a ratio of k steps of 0.005 dB. -/
def fxDb (k : Int) : Nat :=
  if 0 ≤ k then fxPow 79319429834851588214380107774 k.toNat 24
  else fxOne * fxOne / fxPow 79319429834851588214380107774 (-k).toNat 24

/-- 2^(n/16000). -/
def fxExp2 (n : Nat) : Nat := fxPow 79231594887203645793441759076 n 24

/-- The nearest 0.01 dB to a ratio at or above 1 (2⁻⁹⁶ units). -/
def dbSearch (r : Nat) : Nat → Nat → Nat
  | 0, n => n
  | k + 1, n => if fxDb (2 * Int.ofNat (n + 2 ^ k) - 1) ≤ r then dbSearch r k (n + 2 ^ k) else dbSearch r k n

/-- The ratio in 0.01 dB, rounded to the nearest (log entry 23); 0 below 0 dB. -/
def toDb (r : Nat) : Nat := dbSearch r 15 0

/-- SNRₐ of R172 for an SNR below the ceiling, as a ratio. -/
def snrA (snr trx : Nat) : Nat :=
  let a := fxDb (2 * Int.ofNat snr)
  let b := fxDb (2 * Int.ofNat trx)
  a * b / (b - a)

/-- The OSNR ratio of a furrow (R172): SNRₐ × Rs / 12.5 GHz. -/
def State.osnrRatio (s : State) (snr : Nat) : Nat :=
  snrA snr (s.get Reg.RX_OSNR_CFG_TRX_SNR) * s.get Reg.RX_CFG_RATE_MBD / (12500 * s.nFur)

/-- SNR_req(h, rate) + `extra` (0.1 dB) ≤ `snr` (0.01 dB) (R176): 2^(H·Rc) ≤ 1 + 10^((snr − 1.2 dB − extra)/10). -/
def snrMeets (h sel snr extra : Nat) : Bool :=
  fxExp2 (h * codeRate sel) ≤ fxOne + fxDb (2 * (Int.ofNat snr - 120 - 10 * Int.ofNat extra))

/-! ### What acquisition drives in decoder and deframer -/

def State.frmFur (s : State) (f : Nat) : FrmFurrow := tget {} s.frm.furrows f

def State.setFrmFur (s : State) (f : Nat) (x : FrmFurrow) : State :=
  { s with frm := { s.frm with furrows := tput {} s.frm.furrows f x } }

/-- The furrow's DSP-fail signal: not in CAR_LOCK, in LOS, or the line without a signal (R158, R183). -/
def State.dspFail (s : State) (f : Nat) : Bool :=
  !s.flag Reg.FR_STATUS_CAR_LOCK f || s.flag Reg.FR_STATUS_LOS f || s.flag Reg.RX_STATUS_LINE_LOS

/-- An LLR within −31 to +31, halved toward zero where the equaliser window of its symbol holds a clipped sample (R156, R157). A positive value
favours 0. -/
def limitLlr (raw : Int) (clip : Bool) : Int :=
  let v := max (-31) (min 31 raw)
  if clip then v.tdiv 2 else v

/-- An LLR as the demapper of a furrow delivers it: 0 while the furrow is in DSP-fail (R156–R158). -/
def State.demapped (s : State) (f : Nat) (raw : Int) (clip : Bool) : Int := if s.dspFail f then 0 else limitLlr raw clip

/-- The hard decision that the sign of an LLR gives (R156). -/
def hardBit (llr : Int) : Bool := decide (llr < 0)

/-- The taps of each filter of the equaliser (R151). -/
def State.equaliserTaps (s : State) : Nat :=
  let n := s.nFur
  if 140000 * n < s.get Reg.RX_CFG_RATE_MBD then 41 else if 35000 * n < s.get Reg.RX_CFG_RATE_MBD then 21 else 9

/-- A frequency offset (MHz) within the range of carrier recovery: ±5 GHz for one furrow, else ±2.5 GHz or ±0.3 of the furrow rate (R153). -/
def State.freqInRange (s : State) (freq : Int) : Bool :=
  if s.nFur = 1 then decide (freq.natAbs ≤ 5000)
  else decide (freq.natAbs ≤ 2500) && decide (10 * freq.natAbs * s.nFur ≤ 3 * s.get Reg.RX_CFG_RATE_MBD)

/-- A dispersion (ps/nm) within the scan window (R161, R185). -/
def State.cdInWindow (s : State) (cd : Int) : Bool :=
  decide (100 * s.getInt Reg.RX_CTRL_CD_MIN ≤ cd) && decide (cd ≤ 100 * s.getInt Reg.RX_CTRL_CD_MAX)

/-- Frame lock of a furrow: SYNC, in an interoperability mode CW_LOCK, which reflects the specification's frame lock (R327, R357). -/
def State.frameSync (s : State) (f : Nat) : Bool :=
  if s.get Reg.FEC_CTRL_LINE_FEC = 0 then s.flag Reg.FRM_FR_STATUS_SYNC f else s.flag Reg.FEC_FR_STATUS_CW_LOCK f

/-- SF and SD of a furrow that carries continuous frames (R359); an interoperability mode has no Flume frames to lose (R326; log entry 32). -/
def State.refreshDefects (s : State) (f : Nat) : State :=
  let lof := s.flag Reg.FRM_FR_STATUS_LOF f && s.get Reg.FEC_CTRL_LINE_FEC == 0
  let sf := s.flag Reg.FR_STATUS_LOS f || s.dspFail f || lof || s.flag Reg.FEC_FR_STATUS_FEC_FAIL f
  (s.set Reg.FRM_FR_STATUS_SF (b2n sf) f).set Reg.FRM_FR_STATUS_SD (s.get Reg.FEC_FR_STATUS_FEC_DEG f) f

def State.fecFur (s : State) (f : Nat) : FecFurrow := tget {} s.fec f

def State.setFecFur (s : State) (f : Nat) (x : FecFurrow) : State := { s with fec := tput {} s.fec f x }

/-- The hunt starts at the current stream position (R311); the interoperability modes have none (R327). -/
def State.startHunt (s : State) (f : Nat) : State :=
  if s.get Reg.FEC_CTRL_LINE_FEC ≠ 0 then s
  else (s.set Reg.FEC_FR_STATUS_HUNT 1 f).setFecFur f { s.fecFur f with next := 0, batch := [], confirm := none }

/-! ### Acquisition (R160–R170) -/

/-- A change of mode runs and has not come to step 5, the line's acquisition (R81). -/
def State.lineHeld (s : State) : Bool :=
  match s.sys.change with
  | some c => c.step5.isNone
  | none => false

/-- Furrow f of the receiver. -/
def State.fur (s : State) (f : Nat) : FurrowRx := tget {} s.rx.furrows f

def State.setFur (s : State) (f : Nat) (x : FurrowRx) : State :=
  { s with rx := { s.rx with furrows := tput {} s.rx.furrows f x } }

/-- A furrow begins acquisition at a step. -/
def State.beginFurrow (s : State) (f step : Nat) (fast : Bool) : State :=
  (s.setFur f { s.fur f with step := step, stepAt := s.clock, t0 := s.clock, repeated := false, fast := fast, lossAt := s.clock }).set
    Reg.FR_STATUS_ACQ 1 f

/-- The bulk dispersion that a continuous furrow is compensated with: the line's, or in hub mode its own (R149). -/
def State.furrowCd (s : State) (f : Nat) : Int := if s.mode = 1 then (s.fur f).cd else s.rx.cd

/-- LINE_LOCK: ACQ_STATE 4, or in hub mode frame lock on every enabled dedicated furrow, or the armed burst receiver where there is none; ACQ_STATE of a hub
is 4 then, 3 otherwise (R163, R189). -/
def State.refreshLineLock (s : State) : State :=
  if s.mode = 1 then
    let fs := s.lineFurrows
    let lock := if fs.isEmpty then s.flag Reg.BR_STATUS_ARMED else fs.all s.frameSync
    (s.set Reg.RX_STATUS_LINE_LOCK (b2n lock)).set Reg.RX_STATUS_ACQ_STATE (if lock then 4 else 3)
  else s.set Reg.RX_STATUS_LINE_LOCK (b2n (s.get Reg.RX_STATUS_ACQ_STATE == 4))

/-- ACQ_STATE of the line changes, and LINE_LOCK with it (R161, R189). -/
def State.setAcqState (s : State) (v : Nat) : State := (s.set Reg.RX_STATUS_ACQ_STATE v).refreshLineLock

/-- An acquisition that has reached step 7: the ACQ_DONE event, ACQ_COUNT, ACQ_TIME in 10 µs (R161, R191). -/
def State.acqDone (s : State) (t0 : Nat) : State :=
  (((s.set Reg.RX_EVENTS_ACQ_DONE 1).bump Cnt.ACQ_COUNT).set Reg.ACQ_TIME_T (min ((s.clock - t0) / usT 10) 0xFFFF))

/-- A furrow has frame lock: its acquisition, and the line's, may be at step 7. -/
def State.frameLocked (s : State) (f : Nat) : State :=
  let x := s.fur f
  if s.mode = 1 then
    let s1 := (s.setFur f { x with step := 0 }).set Reg.FR_STATUS_ACQ 0 f
    (if x.step = 6 && !x.fast then s1.acqDone x.t0 else s1).refreshLineLock
  else
    let s1 := if s.rx.step = 0 then (s.setFur f { x with step := 0 }).set Reg.FR_STATUS_ACQ 0 f else s
    let fs := s.lineFurrows
    let all := !fs.isEmpty && fs.all (fun f => s.frameSync f && s.flag Reg.FR_STATUS_CAR_LOCK f)
    if all && s.rx.step ≠ 0 then
      let s2 := fs.foldl (fun s f => (s.setFur f { s.fur f with step := 0 }).set Reg.FR_STATUS_ACQ 0 f) s1
      let s3 := ({ s2 with rx := { s2.rx with step := 0 } }).setAcqState 4
      if s.rx.full then s3.acqDone s.rx.t0 else s3
    else s1.refreshLineLock

/-- The smallest tier that covers a dispersion, 3 where none does (R26). -/
def tierOf (cd : Nat) : Nat := if cd ≤ 2000 then 0 else if cd ≤ 12000 then 1 else if cd ≤ 60000 then 2 else 3

/-- The tier that a full acquisition chooses for an estimate: in hub mode with those of the other dedicated furrows (R150). -/
def State.tierFor (s : State) (furrow : Option Nat) (cd : Int) : Nat :=
  let others := if s.mode = 1 then s.lineFurrows.filter (fun g => some g ≠ furrow) else []
  min 2 ((others.map (fun g => tierOf (s.fur g).cd.natAbs)).foldl max (tierOf cd.natAbs))

/-- Step 2 ends with a dispersion estimate: the tier is chosen, or the estimate lies beyond the fixed tier (R150, R161). -/
def State.cdFound (s : State) (furrow : Option Nat) (cd : Int) : State × Bool :=
  let tier := if s.flag Reg.FIXLAT_CTRL_EN then s.get Reg.FIXLAT_CTRL_CD_TIER else s.tierFor furrow cd
  let s1 := s.set Reg.RX_STATUS_CD_TIER tier
  if tier < tierOf cd.natAbs then ((s1.set Reg.RX_STATUS_CD_RANGE 1).set Reg.RX_EVENTS_CD_RANGE 1, false)
  else (s1.set Reg.RX_STATUS_CD_RANGE 0, true)

/-- The tier in force after a commit: CD_TIER in fixed-latency mode, else as it was until the next full acquisition (R26, R32, R150). -/
def State.refreshTier (s : State) : State :=
  if s.flag Reg.FIXLAT_CTRL_EN then s.set Reg.RX_STATUS_CD_TIER (s.get Reg.FIXLAT_CTRL_CD_TIER) else s

/-- The furrows that follow the line at step `k` of its acquisition. -/
def State.atStep (s : State) (k : Nat) : List Nat := s.lineFurrows.filter (fun f => (s.fur f).step == k)

/-- Step 1 or 2 of a line-wide acquisition ends (R161); a dispersion outside the scan window gives no lock (R183). -/
def State.lineStep (s : State) (freq cd : Int) : Option State :=
  match s.rx.step with
  | 1 =>
    let s1 := (s.atStep 1).foldl (fun s f => s.setFur f { s.fur f with freq := freq, step := 2, stepAt := s.clock }) s
    some (({ s1 with rx := { s1.rx with step := 2, stepAt := s.clock } }).setAcqState 2)
  | 2 =>
    if !s.cdInWindow cd then none
    else
      let r := s.cdFound none cd
      if !r.2 then some r.1
      else
        let s1 := (s.atStep 2).foldl (fun s f => s.setFur f { s.fur f with step := 3, stepAt := s.clock }) r.1
        some (({ s1 with rx := { s1.rx with step := 3, stepAt := s.clock, cd := cd } }).setAcqState 3)
  | _ => none

/-- A step of one furrow reaches its goal: steps 1 and 2 of a furrow of a hub, steps 3 to 5 of any; carrier lock only within the frequency range
(R153, R161, R163). -/
def State.furrowStep (s : State) (f : Nat) (freq cd : Int) : Option State :=
  let x := s.fur f
  match x.step with
  | 1 => if s.mode = 1 then some (s.setFur f { x with step := 2, stepAt := s.clock, freq := freq }) else none
  | 2 =>
    if s.mode ≠ 1 || !s.cdInWindow cd then none
    else
      let r := s.cdFound (some f) cd
      some (if r.2 then r.1.setFur f { x with step := 3, stepAt := s.clock, cd := cd } else r.1)
  | 3 => some ((s.setFur f { x with step := 4, stepAt := s.clock }).set Reg.FR_STATUS_CLK_LOCK 1 f).refreshRefs
  | 4 => some ((s.setFur f { x with step := 5, stepAt := s.clock }).set Reg.FR_STATUS_EQ_LOCK 1 f)
  | 5 =>
    if !s.freqInRange freq then none
    else some ((((s.setFur f { x with step := 6, stepAt := s.clock, freq := freq }).set Reg.FR_STATUS_CAR_LOCK 1 f).startHunt f).refreshDefects f)
  | _ => none

/-- ACQ_STEP_COMPLETE: step 1 or 2 of the line (`furrow` none), or a step of one furrow, reaches its goal; `freq` (MHz) is the frequency offset that steps
1 and 5 found, `cd` (ps/nm) the dispersion that step 2 found (R161). -/
def execAcqStepComplete (furrow : Option (Fin 32)) (freq cd : Int) (s : State) : Out :=
  match (match furrow with
    | none => if s.mode = 1 then none else s.lineStep freq cd
    | some f => s.furrowStep f.val freq cd) with
  | some t => done s t
  | none => .next s

/-- CYCLE_SLIP: carrier recovery corrects a cycle slip at a pilot (R155). -/
def execCycleSlip (furrow : Fin 32) (s : State) : Out :=
  if s.flag Reg.FR_STATUS_CAR_LOCK furrow.val then
    done s ((s.bump Cnt.CYCLE_SLIPS furrow.val).set Reg.FR_EVENTS_CYCLE_SLIP 1 furrow.val)
  else .next s

/-! ### Gain (R175, R217) -/

/-- The burst AGC is frozen: a main path is receiving, from its detection until it re-arms (R216, R217; log entry 49). -/
def State.burstAgcFrozen (s : State) : Bool := s.burst.paths.any (fun e => e.2.main.isSome)

/-- AGC_STEP: the gain of a furrow, or of the burst receiver (32), moves by 0.1 dB toward its loop's target: a furrow's at most once a microsecond, that of
the burst receiver as often as it takes to settle within 64 symbols, and not while it is frozen (R175, R217). -/
def execAgcStep (inst : Fin 33) (target : Int) (s : State) : Out :=
  let i := inst.val
  if (if i = 32 then s.burstAgcFrozen else decide (s.clock < (s.fur i).agcAt + usT 1)) then .next s
  else
    let s1 := s.clampCheck 2 i target
    let goal := clampTo (s.bounds 2 i) target
    let v := s.loopValue 2 i
    let v' := if v < goal then v + 1 else if goal < v then v - 1 else v
    let s2 := { s1 with sys := { s1.sys with agc := tput 0 s1.sys.agc i v' } }
    if i = 32 then done s s2
    else done s ((s2.setFur i { s2.fur i with agcAt := s.clock }).set Reg.FR_NOISE_FLOOR_AGC_GAIN (twos 16 v') i)

/-! ### Modulation adaptation (R176–R182) -/

/-- An entropy that the line supports (R71). -/
def validEntropy (h : Nat) : Bool := h == 32 || (40 ≤ h && h ≤ 88)

/-- The next valid entropy above and below. -/
def nextEntropy (h : Nat) : Nat := if h < 32 then 32 else if h < 40 then 40 else h + 1
def prevEntropy (h : Nat) : Nat := if h ≤ 40 then 32 else h - 1

/-- The highest valid entropy whose requirement with the margin is met; 31 when none (R177). -/
def bestEntropy (sel snr margin : Nat) : Nat → Nat
  | 0 => 31
  | k + 1 => if validEntropy (k + 1) && snrMeets (k + 1) sel snr margin then k + 1 else bestEntropy sel snr margin k

/-- The loop's own target, and since when a step up has been possible (R177). -/
def State.entropyTarget (s : State) (f snr : Nat) : Nat × Option Nat :=
  let h := s.get Reg.FR_STATUS_H_NOW f
  let sel := s.get Reg.FR_RX_CTRL_RATE_SEL f
  let m := s.get Reg.FR_ADAPT_CFG_MARGIN f
  let y := s.get Reg.FR_ADAPT_CFG_HYST f
  if !snrMeets h sel snr m then (bestEntropy sel snr m 88, none)
  else if h < 88 && snrMeets (nextEntropy h) sel snr (m + y) then
    let since := (s.fur f).upSince.getD s.clock
    if since + msT (s.get Reg.FR_ADAPT_CFG_UP_HOLD_MS f) ≤ s.clock then (nextEntropy h, some since) else (h, some since)
  else (h, none)

/-- A change from the entropy in force to `t` ends within the bounds of the loop, or comes nearer to them from outside (R86, R90). -/
def State.entropyAllowed (s : State) (f t : Nat) : Bool :=
  let h := Int.ofNat (s.get Reg.FR_STATUS_H_NOW f)
  let b := s.bounds 1 f
  let v := Int.ofNat t
  decide (b.1 ≤ v ∧ v ≤ b.2) || decide (v < b.1 ∧ h < v) || decide (b.2 < v ∧ v < h)

/-- The entropy to ask for: the clamped target, or one step toward bounds that exclude the value in force; none where the bounds hold no valid one (R86,
R90, R177). -/
def State.entropyGoal (s : State) (f target : Nat) : Nat :=
  let h := s.get Reg.FR_STATUS_H_NOW f
  let b := s.bounds 1 f
  let g :=
    if Int.ofNat h < b.1 then nextEntropy h
    else if b.2 < Int.ofNat h then prevEntropy h
    else
      let c := (clampTo b (Int.ofNat target)).toNat
      if validEntropy c then c else if Int.ofNat (nextEntropy c) ≤ b.2 then nextEntropy c else h
  if validEntropy g && s.entropyAllowed f g then g else h

/-- A request goes into the overhead: the switch multiframe is the eighth after the one that carries it (R178). -/
def State.requestEntropy (s : State) (f target : Nat) : State :=
  let req : AdaptReq := { target := target, sentMfn := s.frm.mfn, switchMfn := (s.frm.mfn + 8) % 2 ^ 32 }
  (s.setFur f { s.fur f with pending := some req }).set Reg.FR_STATUS_ADAPT_PENDING 1 f

/-- Drop a pending request. -/
def State.withdraw (s : State) (f : Nat) : State :=
  (s.setFur f { s.fur f with pending := none }).set Reg.FR_STATUS_ADAPT_PENDING 0 f

/-- A request whose entropy new bounds exclude is withdrawn without counting (R86; log entry 47). -/
def State.withdrawExcluded (s : State) (f : Nat) : State :=
  match (s.fur f).pending with
  | some q => if s.entropyAllowed f q.target then s else s.withdraw f
  | none => s

/-- One update of the adaptation loop of a furrow (R177, R178). -/
def State.adaptDecide (s : State) (f snr : Nat) : State :=
  let r := s.entropyTarget f snr
  let s1 := (s.setFur f { s.fur f with upSince := r.2 }).clampCheck 1 f (Int.ofNat r.1)
  let g := s1.entropyGoal f r.1
  if (s1.fur f).pending.isNone && (s1.fur f).quietUntil ≤ s.clock && g ≠ s.get Reg.FR_STATUS_H_NOW f then s1.requestEntropy f g else s1

/-- ADAPT_TIMEOUT: the far end has not confirmed within 8 multiframes (R179). -/
def execAdaptTimeout (furrow : Fin 32) (s : State) : Out :=
  let f := furrow.val
  match (s.fur f).pending with
  | some q =>
    if !q.confirmed && 8 ≤ (s.frm.mfn + 2 ^ 32 - q.sentMfn) % 2 ^ 32 then
      let s1 := ((s.withdraw f).bump Cnt.ADAPT_TIMEOUTS f).set Reg.FR_EVENTS_ADAPT_TIMEOUT 1 f
      done s (s1.setFur f { s1.fur f with quietUntil := s.clock + msT (s.get Reg.FR_ADAPT_CFG_UP_HOLD_MS f) })
    else .next s
  | none => .next s

/-- The mapped slots of a furrow in the active connection memory page (R395). -/
def State.pageEntry (s : State) (page r : Nat) : Nat :=
  if page = 0 then s.get Reg.TSI_PAGE_A_ENTRY 0 r else s.get Reg.TSI_PAGE_B_ENTRY 0 r

def State.mappedSlots (s : State) (f : Nat) : List Nat :=
  let n := s.slotsPer
  (List.range n).filter (fun i => bitsOf (s.pageEntry (s.get Reg.TSI_STATUS_ACTIVE) (f * n + i)) 31 1 == 1)

/-- The entropy of a furrow changes: rills carried, and shed ones (R180). -/
def State.applyEntropy (s : State) (f h : Nat) : State :=
  let n := s.rillsOf h (s.get Reg.FR_RX_CTRL_RATE_SEL f)
  let slots := s.mappedSlots f
  let kept := (slots.filter (· < n)).length
  let s1 := (s.set Reg.FR_STATUS_H_NOW h f).set Reg.FR_STATUS_RILLS_CARRIED kept f
  if kept < slots.length && kept < s.get Reg.FR_STATUS_RILLS_CARRIED f then
    (s1.bump Cnt.RILL_SHEDS f).set Reg.FR_EVENTS_RILL_SHED 1 f
  else s1

/-- RILLS_CARRIED follows the mapping and the entropy in force. -/
def State.refreshCarried (s : State) (f : Nat) : State :=
  let n := s.rillsOf (s.get Reg.FR_STATUS_H_NOW f) (s.get Reg.FR_RX_CTRL_RATE_SEL f)
  s.set Reg.FR_STATUS_RILLS_CARRIED (if s.flag Reg.FR_RX_CTRL_EN f then ((s.mappedSlots f).filter (· < n)).length else 0) f

/-- ENTROPY_SWITCH: at the switch multiframe a confirmed request takes effect, and the hold of the next step up starts (R177, R178). -/
def State.entropySwitch (s : State) (f : Nat) : State :=
  match (s.fur f).pending with
  | some q =>
    if q.confirmed && q.switchMfn = s.frm.mfn then
      let old := s.get Reg.FR_STATUS_H_NOW f
      let s1 := ((s.withdraw f).bump Cnt.ADAPT_CHANGES f).set Reg.FR_EVENTS_ADAPT_CHANGE 1 f
      let s2 := s1.setFur f { s1.fur f with upSince := none }
      (s2.log wbFurrow 0x16 [BitVec.ofNat 8 f, BitVec.ofNat 8 old, BitVec.ofNat 8 q.target]).applyEntropy f q.target
    else s
  | none => s

/-! ### Figures of merit (R171–R174) -/

/-- The invalid codes of every figure but the noise floor. -/
def State.invalidFigures (s : State) (f : Nat) : State :=
  ((((((((s.set Reg.FR_SNR_SNR 0xFFFF f).set Reg.FR_SNR_OSNR 0xFFFF f).set Reg.FR_SNR_XY_X 0xFFFF f).set Reg.FR_SNR_XY_Y 0xFFFF f).set
    Reg.FR_CD_EST_CD 0x80000000 f).set Reg.FR_DGD_DGD 0xFFFF f).set Reg.FR_DGD_PDL 0xFFFF f).set Reg.FR_FREQ_OFS_F 0x80000000 f).set
    Reg.FR_PREFEC_BER_BER 0xFFFFFFFF f

/-- The figures of one furrow, the noise floor only where the furrow is in LOS or shared (R173); `ber` is what the decoder found in the period, in 2⁻³² (none with an uncorrectable codeword). -/
def State.furrowFigures (s : State) (f : Nat) (g : Figures) (ber : Option Nat) : State :=
  let quiet := s.flag Reg.FR_STATUS_LOS f || s.shared f
  let nf := if quiet then (g.nf.map (twos 16)).getD 0x8000 else 0x8000
  let s0 := (s.setFur f { s.fur f with updatedAt := s.devNs }).set Reg.FR_NOISE_FLOOR_NF nf f
  if !s.flag Reg.FR_STATUS_CAR_LOCK f then s0.invalidFigures f
  else
    let os := if g.snr < s.get Reg.RX_OSNR_CFG_TRX_SNR then toDb (s.osnrRatio g.snr) else 0xFFFF
    ((((((((s0.set Reg.FR_SNR_SNR g.snr f).set Reg.FR_SNR_OSNR os f).set Reg.FR_SNR_XY_X g.snrX f).set Reg.FR_SNR_XY_Y g.snrY f).set
      Reg.FR_CD_EST_CD (twos 32 g.cd) f).set Reg.FR_DGD_DGD g.dgd f).set Reg.FR_DGD_PDL g.pdl f).set Reg.FR_FREQ_OFS_F (twos 32 g.freq) f).set
      Reg.FR_PREFEC_BER_BER (ber.getD 0xFFFFFFFF) f

/-- The mean of a list of integers, rounded down: R174 does not say how (log entry 23). -/
def meanInt (l : List Int) : Int := if l.isEmpty then 0 else l.sum / Int.ofNat l.length

/-- The line figures (R172, R174). -/
def State.lineFigures (s : State) : State :=
  let fs := s.processed.filter (fun f => s.flag Reg.FR_RX_CTRL_EN f && s.flag Reg.FR_STATUS_CAR_LOCK f)
  let bad := fs.any (fun f => s.get Reg.FR_SNR_OSNR f == 0xFFFF) || fs.isEmpty
  let os := if bad then 0xFFFF else toDb ((fs.map (fun f => s.osnrRatio (s.get Reg.FR_SNR_SNR f))).sum)
  let inv := s.mode == 1 || fs.isEmpty
  let cd := if inv then 0x80000000 else twos 32 (meanInt (fs.map (fun f => s.getInt Reg.FR_CD_EST_CD f)))
  let fr := if inv then 0x80000000 else twos 32 (meanInt (fs.map (fun f => s.getInt Reg.FR_FREQ_OFS_F f)))
  ((s.set Reg.LINE_OSNR_OSNR os).set Reg.LINE_CD_EST_CD cd).set Reg.LINE_FREQ_OFS_F fr

/-! ### Staged settings -/

/-- The furrows that a furrow byte names. -/
def furrowList (b : Nat) : List Nat := if b = 0xFF then List.range 32 else [b]

def applyRx (c : Staged) (s : State) : State :=
  let p := c.payload
  if c.op = 0x0301 then
    let s1 := (((((s.set Reg.RX_CTRL_CD_MIN (u16 p 0)).set Reg.RX_CTRL_CD_MAX (u16 p 2)).set Reg.RX_ACQ_CFG_ACQ_TIMEOUT_MS (u16 p 4)).set
      Reg.RX_ACQ_CFG_LOS_THR (u8 p 6)).set Reg.RX_OSNR_CFG_FLOS_THR (u8 p 7)).set Reg.RX_OSNR_CFG_TRX_SNR (u16 p 8)
    (((s1.set Reg.RX_OSNR_CFG_CLK_REF_FURROW (u8 p 10)).set Reg.RX_CFG_NFURROW (u8 p 11)).set Reg.RX_CFG_RATE_MBD (le 3 p 12)).set
      Reg.RX_CFG_LEAF_GROUP (u8 p 15)
  else if c.op = 0x0401 then
    (furrowList (u8 p 0)).foldl (fun s f =>
      (((s.set Reg.FR_RX_CTRL_EN (bitsOf (u8 p 1) 0 1) f).set Reg.FR_RX_CTRL_ADAPT_EN (bitsOf (u8 p 1) 1 1) f).set
        Reg.FR_RX_CTRL_ENTROPY (u8 p 2) f).set Reg.FR_RX_CTRL_RATE_SEL (u8 p 3) f) s
  else if c.op = 0x0402 then
    (furrowList (u8 p 0)).foldl (fun s f =>
      ((s.set Reg.FR_ADAPT_CFG_MARGIN (u8 p 1) f).set Reg.FR_ADAPT_CFG_HYST (u8 p 2) f).set Reg.FR_ADAPT_CFG_UP_HOLD_MS (u16 p 4) f) s
  else s

/-- The part of a commit boundary in the receiver, but for the losses of lock of R183: enables, entropies, adaptation. -/
def State.rxBoundary (old s : State) : State :=
  (List.range 32).foldl (fun s f =>
    let was := old.flag Reg.FR_RX_CTRL_EN f
    let now := s.flag Reg.FR_RX_CTRL_EN f
    let s1 := s.enableChange 3 f was now
    let s2 := if was && !now then (s1.setFur f { s1.fur f with step := 0 }).set Reg.FR_STATUS_ACQ 0 f else s1
    let h := s2.get Reg.FR_RX_CTRL_ENTROPY f
    let changed := old.get Reg.FR_RX_CTRL_ENTROPY f ≠ h
    let adaptOn := s2.flag Reg.FR_RX_CTRL_ADAPT_EN f && !old.flag Reg.FR_RX_CTRL_ADAPT_EN f
    let s3 := if changed || adaptOn || !s2.flag Reg.FR_RX_CTRL_ADAPT_EN f then
        let t := s2.withdraw f
        (t.setFur f { t.fur f with upSince := none }).applyEntropy f h
      else s2
    (s3.withdrawExcluded f).refreshCarried f) s.refreshTier

/-- R146, R185, R188, R192, R63: the receive rules that fail validation. -/
def rxChecks : List Check := [
  { rule := 146, bad := fun _ _ n => n.get Reg.RX_CFG_RATE_MBD % n.nFur != 0, reads := opIn [0x0301] },
  { rule := 146, bad := fun _ _ n => n.get Reg.RX_CFG_RATE_MBD != 0 && decide (n.get Reg.RX_CFG_RATE_MBD < 1000 * n.nFur), reads := opIn [0x0301] },
  { rule := 146, bad := fun _ _ n => n.get Reg.MODE_CTRL_MODE == 2 && decide (17500 * n.nFur < n.get Reg.RX_CFG_RATE_MBD),
    reads := opIn [0x0301, 0x0120] },
  { rule := 146, bad := fun _ _ n => n.get Reg.MODE_CTRL_MODE == 1 && n.nFur == 1, reads := opIn [0x0301, 0x0120] },
  { rule := 185, bad := fun _ _ n => decide (n.getInt Reg.RX_CTRL_CD_MAX < n.getInt Reg.RX_CTRL_CD_MIN), reads := opIn [0x0301] }] ++
  (List.range 32).flatMap (fun f => [
    { rule := 188, bad := fun _ _ n => n.flag Reg.FR_RX_CTRL_EN f && n.get Reg.RX_CFG_RATE_MBD == 0,
      reads := fun c => c.op == 0x0301 || (c.op == 0x0401 && (furrowList (u8 c.payload 0)).contains f) },
    { rule := 197, bad := fun _ _ n => n.flag Reg.FR_RX_CTRL_EN f && decide (n.nFur ≤ f),
      reads := fun c => c.op == 0x0301 || (c.op == 0x0401 && (furrowList (u8 c.payload 0)).contains f) },
    { rule := 63
      bad := fun _ _ n => n.flag Reg.FR_RX_CTRL_EN f && (n.get Reg.MODE_CTRL_MODE == 3 ||
        (n.get Reg.MODE_CTRL_MODE == 2 && f / 4 != n.get Reg.RX_CFG_LEAF_GROUP))
      reads := fun c => c.op == 0x0301 || c.op == 0x0120 || (c.op == 0x0401 && (furrowList (u8 c.payload 0)).contains f) }])

/-! ### Commands -/

/-- LINE_RX_CFG_SET, staged (R197, R198). -/
def execLineRxCfgSet (mb : Fin 8) (s : State) : Out := stage mb.val 0x0301 (fun _ => [(.rxLine, 0)]) s

/-- LINE_RX_STATUS_GET (R197). -/
def execLineRxStatusGet (mb : Fin 8) (s : State) : Out :=
  report mb.val 0x0302 s (fun _ s =>
    let mask := ((List.range 32).map (fun f => s.get Reg.FR_STATUS_CAR_LOCK f * 2 ^ f)).sum
    okD (wordBytes [s.reg 0x110010, s.reg 0x110040, s.reg 0x110044, s.reg 0x110048, s.reg 0x11004C] ++ bytes 4 mask))

/-- The furrow count as the mailbox's transaction would leave it. -/
def State.stagedNFur (s : State) (mb : Nat) : Nat :=
  match ((s.mbox mb).txn.staged.filter (fun c => c.op == 0x0301)).getLast? with
  | some c => furrowCount (u8 c.payload 11)
  | none => s.nFur

/-- FURROW_RX_SET, staged (R197, R198). -/
def execFurrowRxSet (mb : Fin 8) (s : State) : Out :=
  stage mb.val 0x0401 (fun p => (furrowList (u8 p 0)).map (fun f => (.furrow, f))) s
    (refuse := fun p s => if u8 p 0 ≠ 0xFF && s.stagedNFur mb.val ≤ u8 p 0 then some { code := cINVALID, index := 1 } else none)

/-- FURROW_ADAPT_SET, staged (R197, R198). -/
def execFurrowAdaptSet (mb : Fin 8) (s : State) : Out :=
  stage mb.val 0x0402 (fun p => (furrowList (u8 p 0)).map (fun f => (.furrow, f))) s

/-- FURROW_RX_STATUS_GET (R197). -/
def execFurrowRxStatusGet (mb : Fin 8) (s : State) : Out :=
  report mb.val 0x0403 s (fun p s =>
    let f := u8 p 0
    okD (wordBytes (s.reg (0x120010 + 0x800 * f) :: (List.range 7).map (fun k => s.reg (0x120040 + 0x800 * f + 4 * k))) ++
      bytes 8 (s.fur f).updatedAt))

/-- The values of a furrow byte. -/
def furrowBytes : List Nat := List.range 32 ++ [0xFF]

/-- The payload rows of R197. -/
def payloadsRx : List PayloadRow := [
  ⟨0x0301, .fix 16, [.sgn 0 2 (-600) 600, .sgn 2 2 (-600) 600, .num 4 2 100 1000, .num 6 1 1 50, .num 7 1 10 60, .num 8 2 1000 4000,
    .num 10 1 0 31, .num 11 1 0 4, .numOrZero 12 3 30000 280000, .num 15 1 0 7]⟩,
  ⟨0x0302, .fix 0, []⟩,
  ⟨0x0303, .fix 0, []⟩,
  ⟨0x0401, .fix 4, [.among 0 1 furrowBytes, .num 1 1 0 3, .among 2 1 (32 :: (List.range 49).map (· + 40)), .num 3 1 0 4]⟩,
  ⟨0x0402, .fix 8, [.among 0 1 furrowBytes, .num 1 1 0 50, .num 2 1 1 30, .zero 3 1, .num 4 2 1 60000, .zero 6 2]⟩,
  ⟨0x0403, .fix 4, [.num 0 1 0 31, .zero 1 3]⟩,
  ⟨0x0404, .fix 4, [.among 0 1 furrowBytes, .zero 1 3]⟩]

end Sys2Proof.Machine
end

