-- ==== Sys2Proof/Machine/Transmit.lean ====
section
/-! DEFINITION. Transmit processing (R252–R296): entropy on transmit, pre-distortion curves, squelch, level measurement. -/

namespace Sys2Proof.Machine

/-! ### Entropy on transmit (R263, R264) -/

/-- The far end asks for entropy `h` on furrow `f` from switch multiframe `m8` (mod 256): confirmed, or refused and counted (R263). Further copies of the
same request change nothing (R350). -/
def State.farRequest (s : State) (f h m8 : Nat) : State :=
  if tget none s.tx.lastReq f = some (h, m8) then s
  else
    let s1 := { s with tx := { s.tx with lastReq := tput none s.tx.lastReq f (some (h, m8)) } }
    if (tget none s.tx.switches f).isNone && s.flag Reg.TXF_CTRL_FOLLOW f && validEntropy h then
      ({ s1 with tx := { s1.tx with switches := tput none s1.tx.switches f (some (h, m8)) } }).set Reg.TXF_STATUS_SWITCH_PENDING 1 f
    else (s1.bump Cnt.TX_ADAPT_REFUSED).set Reg.TXS_EVENTS_ADAPT_REFUSED 1

/-- A stream without a request of the furrow. -/
def State.noRequest (s : State) (f : Nat) : State := { s with tx := { s.tx with lastReq := tput none s.tx.lastReq f none } }

/-- Drop a pending switch. -/
def State.dropSwitch (s : State) (f : Nat) : State :=
  ({ s with tx := { s.tx with switches := tput none s.tx.switches f none } }).set Reg.TXF_STATUS_SWITCH_PENDING 0 f

/-- TX_ENTROPY_SWITCH: at the first symbol of the switch multiframe H_TX_NOW changes (R263). -/
def State.txEntropySwitch (s : State) (f : Nat) : State :=
  match tget none s.tx.switches f with
  | some (h, m8) =>
    if s.frm.mfn % 256 = m8 then
      (((s.dropSwitch f).set Reg.TXF_STATUS_H_TX_NOW h f).bump Cnt.TX_ADAPT_CHANGES).set Reg.TXS_EVENTS_ADAPT_CHANGE 1
    else s
  | none => s

/-! ### Pre-distortion curves (R268–R271) -/

/-- y_1 … y_32 of a DAC. -/
def State.dpdCurve (s : State) (d : Nat) : List Nat :=
  (List.range 16).flatMap (fun w => [s.get Reg.DPD_CURVE_Y1 d w, s.get Reg.DPD_CURVE_Y2 d w])

/-- R269: each segment rises by 32 to 512 units (slope 0.25 to 4.0). -/
def curveOk : Nat → List Nat → Bool
  | _, [] => true
  | y0, y :: t => decide (y0 + 32 ≤ y) && decide (y ≤ y0 + 512) && curveOk y t

/-- The largest `n` whose half below lies at or under `y × (den/num)^(step/8)`. -/
def powSearch (y num den step : Nat) : Nat → Nat → Nat
  | 0, n => n
  | k + 1, n =>
    let m := n + 2 ^ k
    if (2 * m - 1) ^ 8 * num ^ step ≤ (2 * y) ^ 8 * den ^ step then powSearch y num den step k m else powSearch y num den step k n

/-- y_i × (1 + c × x_i²)^(−STEP/8), rounded to the nearest unit (R271), for ρ in 2⁻¹⁴; none where 1 + c × x_i² is not positive. -/
def dpdPoint (step rho i y : Nat) : Option Nat :=
  let num : Int := 64 * (147456 - Int.ofNat rho) - (16384 - Int.ofNat rho) * Int.ofNat (i * i)
  if num ≤ 0 then none else some (powSearch y num.toNat (64 * (147456 - rho)) step 15 0)

/-- The new curve of R271; none where it fails R269 or leaves the 13 bits of a point. -/
def dpdNew (step rho : Nat) (ys : List Nat) : Option (List Nat) :=
  let r := ys.zipIdx.map (fun e => dpdPoint step rho (e.2 + 1) e.1)
  if r.all Option.isSome then
    let l := r.map (fun o => o.getD 0)
    if curveOk 0 l && l.all (· ≤ 8191) then some l else none
  else none

/-- c of R271 in 2⁻¹⁶, rounded to the nearest. -/
def dpdC (rho : Nat) : Int :=
  let d : Int := 147456 - Int.ofNat rho
  (2 * (-(1048576 * (16384 - Int.ofNat rho))) + d) / (2 * d)

/-- The curve bytes of a list of points: 16 bits each. -/
def curveBytes (l : List Nat) : List Byte := l.flatMap (bytes 2)

/-- Write a curve of 32 points, given as 64 bytes at `off` of `p`. -/
def State.putCurve (s : State) (base : Nat) (p : List Byte) (off : Nat) : State :=
  (List.range 16).foldl (fun s w => setWord s (base + 4 * w) 0x1FFF1FFF (u32 p (off + 4 * w))) s

/-! ### Staged settings -/

def applyTx (c : Staged) (s : State) : State :=
  let p := c.payload
  if c.op = 0x0310 then
    setWord (((s.set Reg.TXS_CTRL_ROLLOFF (u8 p 0)).set Reg.TXS_CTRL_SQ_ON_RX_LOS (u8 p 1)).set Reg.TXS_LEVEL_RMS_TARGET (u8 p 2))
      0x150008 0x03FFFFFF (u32 p 4)
  else if c.op = 0x0313 then
    let a := 0x150200 + 0x20 * u8 p 0
    [(0, 0x1FF), (1, 0xFFFFFF), (2, 0x0FFF0FFF), (3, 0x0FFF0FFF), (4, 0x0FFF0FFF), (5, 0xFFF)].foldl
      (fun s e => setWord s (a + 4 * e.1) e.2 (u32 p (4 + 4 * e.1))) s
  else if c.op = 0x0314 then
    (List.range 16).foldl (fun s w => s.setReg (0x150300 + 4 * w) (BitVec.ofNat 32 (u32 p (4 * w)))) s
  else if c.op = 0x0315 then
    (maskList (u8 p 0) 4).foldl (fun s d => s.putCurve (0x150800 + 0x100 * d) p 4) s
  else if c.op = 0x0316 then
    (List.range 4).foldl (fun s d => s.putCurve (0x150800 + 0x100 * d) c.extra (64 * d)) s
  else if c.op = 0x0405 then
    (furrowList (u8 p 0)).foldl (fun s f =>
      ((((s.set Reg.TXF_CTRL_EN (bitsOf (u8 p 1) 0 1) f).set Reg.TXF_CTRL_FOLLOW (bitsOf (u8 p 1) 1 1) f).set
        Reg.TXF_CTRL_ENTROPY (u8 p 2) f).set Reg.TXF_CTRL_RATE_SEL (u8 p 3) f).set Reg.TXF_CTRL_POWER (u8 p 4) f) s
  else s

/-- The part of a commit boundary in the transmitter (R254, R264). -/
def State.txBoundary (old s : State) : State :=
  (List.range 32).foldl (fun s f =>
    let s1 := s.enableChange 3 (32 + f) (old.flag Reg.TXF_CTRL_EN f) (s.flag Reg.TXF_CTRL_EN f)
    let follow := s1.flag Reg.TXF_CTRL_FOLLOW f
    if old.get Reg.TXF_CTRL_ENTROPY f ≠ s1.get Reg.TXF_CTRL_ENTROPY f || !follow || !old.flag Reg.TXF_CTRL_FOLLOW f then
      (s1.dropSwitch f).set Reg.TXF_STATUS_H_TX_NOW (s1.get Reg.TXF_CTRL_ENTROPY f) f
    else s1) s

/-- A staged command that names transmit furrow `f`. -/
def readsTxf (f : Nat) (c : Staged) : Bool := c.op == 0x0405 && (furrowList (u8 c.payload 0)).contains f

/-- R253, R269, R63, R295: the transmit rules that fail validation. -/
def txChecks : List Check := [
  { rule := 253
    bad := fun _ _ n =>
      let m := n.get Reg.RX_CFG_RATE_MBD
      let b := 100 + n.get Reg.TXS_CTRL_ROLLOFF
      if n.get Reg.MODE_CTRL_MODE == 2 then decide (7480000 * n.nFur < 4 * m * b) else decide (31920000 < m * b)
    reads := opIn [0x0310, 0x0301, 0x0120] }] ++
  ((List.range 4).map (fun d =>
    { rule := 269, bad := fun _ _ n => !curveOk 0 (n.dpdCurve d)
      reads := fun c => c.op == 0x0316 || (c.op == 0x0315 && bitsOf (u8 c.payload 0) d 1 == 1) })) ++
  (List.range 32).flatMap (fun f => [
    { rule := 295, bad := fun _ _ n => n.flag Reg.TXF_CTRL_EN f && decide (n.nFur ≤ f)
      reads := fun c => c.op == 0x0301 || readsTxf f c },
    { rule := 63
      bad := fun _ _ n => n.flag Reg.TXF_CTRL_EN f && (n.get Reg.MODE_CTRL_MODE == 3 ||
        (n.get Reg.MODE_CTRL_MODE == 2 && f / 4 != n.get Reg.RX_CFG_LEAF_GROUP))
      reads := fun c => c.op == 0x0301 || c.op == 0x0120 || readsTxf f c }])

/-! ### Commands -/

/-- LINE_TX_CFG_SET, staged (R295, R296). -/
def execLineTxCfgSet (mb : Fin 8) (s : State) : Out := stage mb.val 0x0310 (fun _ => [(.txLine, 0)]) s

/-- LINE_TX_SQUELCH: the host's squelch reason, at once (R280, R295). -/
def execLineTxSquelch (mb : Fin 8) (s : State) : Out :=
  actOn mb.val 0x0311 s (fun p s =>
    if s.mode = 3 then (s, err cDENIED) else ({ s with tx := { s.tx with hostSquelch := u8 p 0 == 1 } }, ok))

/-- LINE_TX_STATUS_GET (R295). -/
def execLineTxStatusGet (mb : Fin 8) (s : State) : Out :=
  report mb.val 0x0312 s (fun _ s =>
    okD (wordBytes [s.reg 0x150010] ++ bytes 4 (((List.range 32).map (fun f => s.get Reg.TXF_CTRL_EN f * 2 ^ f)).sum) ++
      bytes 4 (((List.range 32).map (fun f => s.get Reg.TXF_STATUS_SWITCH_PENDING f * 2 ^ f)).sum)))

/-- DAC_CORR_SET, staged (R295, R296). -/
def execDacCorrSet (mb : Fin 8) (s : State) : Out := stage mb.val 0x0313 (fun _ => [(.txLine, 0)]) s

/-- TX_MASK_SET, staged (R295, R296). -/
def execTxMaskSet (mb : Fin 8) (s : State) : Out := stage mb.val 0x0314 (fun _ => [(.txLine, 0)]) s

/-- DPD_CURVE_SET, staged (R295, R296). -/
def execDpdCurveSet (mb : Fin 8) (s : State) : Out := stage mb.val 0x0315 (fun _ => [(.txLine, 0)]) s

/-- The four new curves of a DPD_UPDATE, none where one fails. -/
def State.dpdUpdate (s : State) (p : List Byte) : Option (List Byte) :=
  let l := (List.range 4).map (fun d => dpdNew (u8 p 0) (u16 p (4 + 2 * d)) (s.dpdCurve d))
  if l.all Option.isSome then some (l.flatMap (fun o => curveBytes (o.getD []))) else none

/-- Keep what the mailbox's last staged command worked out. -/
def State.stagedExtra (s : State) (mb : Nat) (x : List Byte) : State :=
  let m := s.mbox mb
  let l := m.txn.staged
  s.setMbox mb { m with txn := { m.txn with staged := l.dropLast ++ (l.getLast?.map (fun c => { c with extra := x })).toList } }

/-- DPD_UPDATE: new curves from ρ, staged; INVALID where one fails R269 (R271, R295). -/
def execDpdUpdate (mb : Fin 8) (s : State) : Out :=
  stage mb.val 0x0316 (fun _ => [(.txLine, 0)]) s
    (refuse := fun p s => if s.mode ≠ 2 then some (err cDENIED) else if (s.dpdUpdate p).isNone then some (err cINVALID) else none)
    (extra := fun p s => (s.stagedExtra mb.val ((s.dpdUpdate p).getD []),
      (List.range 4).flatMap (fun d => bytes 4 (twos 32 (dpdC (u16 p (4 + 2 * d)))))))

/-- FURROW_TX_SET, staged (R295, R296). -/
def execFurrowTxSet (mb : Fin 8) (s : State) : Out :=
  stage mb.val 0x0405 (fun p => (furrowList (u8 p 0)).map (fun f => (.txFurrow, f))) s
    (refuse := fun p s => if u8 p 0 ≠ 0xFF && s.stagedNFur mb.val ≤ u8 p 0 then some { code := cINVALID, index := 1 } else none)

/-- FURROW_TX_STATUS_GET (R295). -/
def execFurrowTxStatusGet (mb : Fin 8) (s : State) : Out :=
  report mb.val 0x0406 s (fun p s =>
    let f := u8 p 0
    okD (wordBytes [s.reg (0x150400 + 0x10 * f), s.reg (0x150404 + 0x10 * f)] ++ bytes 4 (s.count Cnt.TXF_QUENCH_DISCARDS 0 f)))

/-- LEAF_LEVEL_MEASURE: starts on an ACTIVE 16-point leaf (R270, R283, R295). -/
def execLeafLevelMeasure (mb : Fin 8) (s : State) : Out :=
  actLong mb.val 0x050B s (fun p s =>
    let l := u16 p 0
    if s.tx.measure.isSome then (s, some (err cBUSY))
    else if s.mode ≠ 1 || s.get Reg.LF_STATUS_STATE l ≠ 4 || !s.flag Reg.LF_PROFILE_BURST_MOD l then (s, some (err cDENIED))
    else ({ s with tx := { s.tx with measure := some { mb := mb.val, leaf := l, n := u8 p 2, start := s.clock } } }, none))

/-- Add a burst's means of the amplitudes 1 and 3 to the sums of a measurement (R270). -/
def addLevels (sums : List (Nat × Nat)) (levels : List (Fin 65536 × Fin 65536)) : List (Nat × Nat) :=
  List.zipWith (fun a m => (a.1 + m.1.val, a.2 + m.2.val)) sums levels

/-- ρ = (m_1 / m_0) / 3 in 2⁻¹⁴, rounded to the nearest, at most 65,535 (R270). -/
def levelRho (m : Nat × Nat) : Nat := min 65535 ((2 * 16384 * m.2 + 3 * m.1) / (6 * m.1))

/-- LEAF_MEASURE_DONE: N bursts of the leaf have been used and ρ of XI, XQ, YI and YQ is returned, or 1 s has passed (R270, R283). -/
def execLeafMeasureDone (leaf : Fin 1024) (s : State) : Out :=
  match s.tx.measure.filter (fun m => m.leaf == leaf.val) with
  | none => .next s
  | some m =>
    let s1 := { s with tx := { s.tx with measure := none } }
    if m.n ≤ m.used then
      done s (s1.finish m.mb (okD (bytes 2 m.used ++ [0, 0] ++ m.sums.flatMap (fun x => bytes 2 (levelRho x)) ++ [0, 0, 0, 0])))
    else if m.start + secT 1 ≤ s.clock then done s (s1.finish m.mb (err cTIMEOUT))
    else .next s

/-- LINE_PLL_LOCK_LOSS: squelch reason 4 arises (R280). -/
def execLinePllLockLoss (s : State) : Out :=
  if s.frm.started then done s { s with tx := { s.tx with pllLost := true } } else .next s

/-- LINE_PLL_RELOCK: squelch reason 4 clears (R280). -/
def execLinePllRelock (s : State) : Out := done s { s with tx := { s.tx with pllLost := false } }

/-- The payload rows of R295. -/
def payloadsTx : List PayloadRow := [
  ⟨0x0310, .fix 8, [.num 0 1 1 20, .num 1 1 0 1, .num 2 1 8 48, .zero 3 1, .bits 4 6 8 0 127, .bits 4 14 8 0 127, .bits 4 23 3 0 4]⟩,
  ⟨0x0311, .fix 4, [.num 0 1 0 1, .zero 1 3]⟩,
  ⟨0x0312, .fix 0, []⟩,
  ⟨0x0313, .fix 28, [.num 0 1 0 3, .zero 1 3, .sbits 4 0 9 (-200) 200, .sbits 8 0 8 (-100) 100, .sbits 8 8 8 (-64) 64,
    .sbits 8 16 8 (-100) 100, .given 0 0 0 (.bits 8 16 8 0 0), .given 0 2 2 (.bits 8 16 8 0 0),
    .sbits 12 0 12 (-512) 512, .sbits 12 16 12 (-512) 512, .sbits 16 0 12 (-512) 512, .sbits 16 16 12 512 1536,
    .sbits 20 0 12 (-512) 512, .sbits 20 16 12 (-512) 512, .sbits 24 0 12 (-512) 512]⟩,
  ⟨0x0314, .fix 64, [.vecS8 0 64 (-60) 60]⟩,
  ⟨0x0315, .fix 68, [.num 0 1 1 15, .zero 1 3, .vec16 4 32 8191]⟩,
  ⟨0x0316, .fix 12, [.num 0 1 1 8, .zero 1 3]⟩,
  ⟨0x0405, .fix 8, [.among 0 1 furrowBytes, .num 1 1 0 3, .among 2 1 (32 :: (List.range 49).map (· + 40)), .num 3 1 0 4,
    .sgn 4 1 (-60) 30, .zero 5 3]⟩,
  ⟨0x0406, .fix 4, [.num 0 1 0 31, .zero 1 3]⟩,
  ⟨0x050B, .fix 4, [.num 0 2 0 1023, .num 2 1 1 255, .zero 3 1]⟩]

end Sys2Proof.Machine
end

