-- ==== Sys2Proof/Machine/Burst.lean ====
section
/-! DEFINITION. Burst reception, leaves and discovery (R199–R251), and the device as a leaf (R226–R238, R275–R279). -/

namespace Sys2Proof.Machine

/-! ### Symbols and grants -/

/-- The furrow rate in MBd (R145). -/
def State.furRate (s : State) : Nat := s.get Reg.RX_CFG_RATE_MBD / s.nFur

/-- Symbols of a multiframe on a furrow. -/
def State.mfSymbols (s : State) : Nat := 125 * s.furRate

/-- The guard G in symbols for a GUARD_NS (R207). -/
def State.guard (s : State) (ns : Nat) : Nat := (ns * s.furRate + 999) / 1000

/-- The hub's own guard. -/
def State.hubGuard (s : State) : Nat := s.guard (s.get Reg.BR_CFG_GUARD_NS)

/-- How far multiframe `a` lies after multiframe `b`, both counts of 32 bits that wrap (R344). -/
def mfDiff (a b : Nat) : Int := Int.ofNat ((a + 2 ^ 32 + 2 ^ 31 - b % 2 ^ 32) % 2 ^ 32) - 2 ^ 31

/-- Symbols per payload codeword (R207). -/
def cwSymbols (mod : Nat) : Nat := if mod = 1 then 1024 else 2048

/-- Data furrows and survey furrows (R199). -/
def State.surveyFurrow (s : State) (f : Nat) : Bool := bitsOf (s.get Reg.SURVEY_MASK_MASK) f 1 == 1
def State.dataFurrow (s : State) (f : Nat) : Bool := bitsOf (s.get Reg.BR_SHARED_MASK) f 1 == 1 && !s.surveyFurrow f

/-- The survey furrow of a group, if it has one. -/
def State.groupSurvey (s : State) (k : Nat) : Option Nat := ((List.range 4).map (fun i => 4 * k + i)).find? s.surveyFurrow

/-- Symbols that a grant's burst takes at the hub; a window takes its back-off slots (R215). -/
def State.grantSymbols (s : State) (g : Grant) : Nat :=
  match g.type with
  | 0 => 240 + g.len * cwSymbols (s.get Reg.LF_PROFILE_BURST_MOD g.leaf)
  | 1 => g.len * (240 + s.hubGuard)
  | _ => 240

/-- Bytes per frame per furrow of the channel (R341). -/
def channelBytes (n : Nat) : Nat := if n = 1 then 488 else if n = 4 then 113 else if n = 8 then 50 else if n = 16 then 19 else 4

/-- Furrows of group k. -/
def State.groupFurrows (s : State) (k : Nat) : List Nat := if s.nFur = 1 then [0] else (List.range 4).map (fun i => 4 * k + i)

/-- Bytes of a group's multiframe stream (R348). -/
def State.streamBytes (s : State) (k : Nat) : Nat :=
  25 * (((s.groupFurrows k).filter (fun f => s.flag Reg.TXF_CTRL_EN f)).length * channelBytes s.nFur - 2)

/-- GMAX (R351). -/
def State.gmax (s : State) (k : Nat) : Nat := min 511 ((s.streamBytes k - 55) / 6)

/-! ### The furrow grid on transmit (R232, R252) -/

/-- The centre of furrow `f` from the carrier, or in leaf mode from the local oscillator, in 5 kHz (R252): (f − (N − 1)/2) × Rf × (1 + β); a leaf's
furrow F(4k + i) at (i − 1.5) × Rf × (1 + β), shifted by −FR_FREQ_OFS of its own receiver plus FREQ_CORR (R232). -/
def State.txCentre (s : State) (f : Nat) : Int :=
  let step : Int := Int.ofNat (s.furRate * (100 + s.get Reg.TXS_CTRL_ROLLOFF))
  let own : Int := if s.get Reg.FR_FREQ_OFS_F f = 0x80000000 then 0 else s.getInt Reg.FR_FREQ_OFS_F f
  if s.mode = 2 then (2 * Int.ofNat (f % 4) - 3) * step + 200 * (s.getInt Reg.SELF_FREQ_CORR_F - own)
  else (2 * Int.ofNat f - (Int.ofNat s.nFur - 1)) * step

/-! ### The burst header (R210) -/

/-- CRC-16 over a list of bits, most significant first. -/
def crc16 : Nat → List Bool → Nat
  | c, [] => c
  | c, b :: t => crc16 (if (c / 32768 % 2 == 1) != b then (2 * c % 65536) ^^^ 0x1021 else 2 * c % 65536) t

/-- Bits [127:16] of a header, most significant first. -/
def headerBits (h : Nat) : List Bool := (List.range 112).map (fun i => bitsOf h (127 - i) 1 == 1)

/-- The header's CRC is correct. -/
def burstHeaderOk (h : BitVec 128) : Bool := crc16 0xFFFF (headerBits h.toNat) == h.toNat % 65536

/-- A header with its CRC. -/
def withCrc (h : Nat) : BitVec 128 := BitVec.ofNat 128 (h / 65536 * 65536 + crc16 0xFFFF (headerBits h))

/-! ### The leaf table -/

def State.leafInfo (s : State) (l : Nat) : LeafInfo := tget {} s.burst.leaves l

def State.setLeafInfo (s : State) (l : Nat) (x : LeafInfo) : State :=
  { s with burst := { s.burst with leaves := tput {} s.burst.leaves l x } }

def State.leafState (s : State) (l : Nat) : Nat := s.get Reg.LF_STATUS_STATE l

/-- The serial of an entry; 0 when free. -/
def State.leafSerial (s : State) (l : Nat) : Nat := s.get Reg.LF_SERIAL_SERIAL l 0 + 2 ^ 32 * s.get Reg.LF_SERIAL_SERIAL l 1

def State.setSerial (s : State) (l v : Nat) : State :=
  (s.set Reg.LF_SERIAL_SERIAL (v % 2 ^ 32) l 0).set Reg.LF_SERIAL_SERIAL (v / 2 ^ 32) l 1

/-- An entry is not free: it holds a serial, or it has left UNREGISTERED. -/
def State.registered (s : State) (l : Nat) : Bool := s.leafState l ≠ 0 || s.leafSerial l ≠ 0

/-- The entry that holds a serial. -/
def State.holder (s : State) (serial : Nat) : Option Nat :=
  if serial = 0 then none else (List.range 1024).find? (fun l => s.leafSerial l == serial)

/-- BR_STATUS counts the leaves holding a turnout and the entries not free (R245). -/
def State.refreshLeaves (s : State) : State :=
  (s.set Reg.BR_STATUS_ADMITTED ((List.range 1024).filter (fun l => s.flag Reg.LF_STATUS_PROFILE_SET l)).length).set
    Reg.BR_STATUS_REGISTERED ((List.range 1024).filter s.registered).length

/-- LEAF_STATE: an entry changes state; record and event (R234). -/
def State.toLeafState (s : State) (l new reason : Nat) : State :=
  ((s.set Reg.LF_STATUS_STATE new l).log wbBurst 0x24 (bytes 2 l ++ bytes 1 (s.leafState l) ++ bytes 1 new ++ bytes 1 reason)).set
    Reg.BR_EVENTS_LEAF_STATE 1

/-- Management messages (R228, R353). -/
def msgSurvey (guardNs total rtdMin : Nat) : List Byte := [1, 5] ++ bytesBe 1 guardNs ++ bytesBe 2 total ++ bytesBe 2 rtdMin
def State.msgAssign (s : State) (l : Nat) : List Byte :=
  [2, 15] ++ bytesBe 8 (s.leafSerial l) ++ bytesBe 2 l ++ bytesBe 3 (s.get Reg.LF_EQD_EQD l) ++ bytesBe 2 (s.get Reg.LF_FREQ_FREQ_CORR l)
def State.msgEqd (s : State) (l : Nat) : List Byte := [3, 5] ++ bytesBe 2 l ++ bytesBe 3 (s.get Reg.LF_EQD_EQD l)
def State.msgFreq (s : State) (l : Nat) : List Byte := [4, 4] ++ bytesBe 2 l ++ bytesBe 2 (s.get Reg.LF_FREQ_FREQ_CORR l)
def msgDisable (serial l : Nat) : List Byte := [5, 10] ++ bytesBe 8 serial ++ bytesBe 2 l

/-- Queue a management message for a group's stream. -/
def State.pushMgmt (s : State) (k : Nat) (m : List Byte) : State :=
  { s with burst := { s.burst with mgmt := tput [] s.burst.mgmt k (tget [] s.burst.mgmt k ++ [m]) } }

/-- A leaf is EVICTED: quenched, counted (R235). No new grant goes out for it; those sent wait for their bursts. -/
def State.evict (s : State) (l reason : Nat) (disable : Bool) : State :=
  let s1 := (((s.toLeafState l 6 reason).startQuench 5 l).bump Cnt.EVICTIONS).set Reg.BR_EVENTS_EVICTION 1
  let s2 := if disable then s1.pushMgmt (s.leafInfo l).group (msgDisable (s.leafSerial l) l) else s1
  s2.refreshLeaves

/-- The leaf that holds a turnout, where that leaf is EVICTED: its turnout carries no upstream traffic (R235). -/
def State.turnoutEvicted (s : State) (t : Nat) : Bool :=
  (List.range 1024).any (fun l => s.flag Reg.LF_STATUS_PROFILE_SET l && s.get Reg.LF_PROFILE_TURNOUT l == t && s.leafState l == 6)

/-- The grants sent to a leaf whose bursts are still due (R52). -/
def State.leafDue (s : State) (l : Nat) : List Grant := s.burst.grants.filter (fun g => g.type ≠ 1 && g.leaf == l)

/-- The grants of a leaf are discarded: how many bursts (R51, R52). -/
def State.leafDiscard (s : State) (l : Nat) : State × Nat :=
  ({ s with burst := { s.burst with grants := s.burst.grants.filter (fun g => g.type = 1 || g.leaf ≠ l) } }, (s.leafDue l).length)

/-- RANGE_FAILS and the RANGE_FAIL record (R227, R230). -/
def State.rangeFail (s : State) (l rtd : Nat) : State :=
  ((s.bump Cnt.RANGE_FAILS).set Reg.BR_EVENTS_RANGE_FAIL 1).log wbBurst 0x23 (bytes 2 l ++ [0, 0] ++ bytes 4 rtd)

/-- A ranging grant has passed without success; after RANGE_TRIES the entry returns to UNREGISTERED (R230). -/
def State.rangingMiss (s : State) (l : Nat) : State :=
  let x := s.leafInfo l
  if s.get Reg.LEAF_CFG_RANGE_TRIES ≤ x.rangeMisses + 1 then
    let s1 := (s.setLeafInfo l { x with rangeMisses := 0, awaiting := false, assignLeft := 0 }).toLeafState l 0 10
    let s2 := if x.provisioned then s1 else (s1.setSerial l 0).setLeafInfo l { group := x.group }
    (s2.rangeFail l (s.get Reg.LF_RTD_RTD l)).refreshLeaves
  else s.setLeafInfo l { x with rangeMisses := x.rangeMisses + 1 }

/-- A grant is no longer waited for. -/
def State.dropGrant (s : State) (g : Grant) : State :=
  { s with burst := { s.burst with grants := s.burst.grants.filter (· ≠ g) } }

/-- A grant is missed (R233, R234). -/
def State.missGrant (s : State) (g : Grant) : State :=
  let l := g.leaf
  let s0 := s.dropGrant g
  if g.type = 1 || (s.leafState l = 3 && s.flag Reg.LF_STATUS_STANDBY l) then s0
  else
    let run := min 255 (s.get Reg.LF_STATUS_MISS_RUN l + 1)
    let s1 := (s0.bump Cnt.MISSED_GRANTS l).set Reg.LF_STATUS_MISS_RUN run l
    match s.leafState l with
    | 0 => s1
    | 6 => s1
    | 1 => s1.rangingMiss l
    | 4 => if s.get Reg.LEAF_CFG_SILENT_MISSES ≤ run then s1.toLeafState l 5 5 else s1
    | _ =>
      if (s.leafInfo l).awaiting then s1.rangingMiss l
      else if s.get Reg.LEAF_CFG_EVICT_MISSES ≤ run then s1.evict l 5 false else s1

/-- ROGUE of a leaf; at ROGUE_LIMIT within 8,000 multiframes the leaf is evicted and BLOCKED (R225). -/
def State.rogueLeaf (s : State) (l : Nat) : State :=
  let x := s.leafInfo l
  let recent := (x.rogues.filter (fun m => (s.frm.mfn + 2 ^ 32 - m) % 2 ^ 32 < 8000)) ++ [s.frm.mfn]
  let s1 := (s.bump Cnt.ROGUE l).setLeafInfo l { x with rogues := recent }
  if s.get Reg.LEAF_CFG_ROGUE_LIMIT ≤ recent.length then
    if 1 ≤ s.leafState l && s.leafState l ≤ 5 then (s1.evict l 8 true).set Reg.LF_STATUS_BLOCKED 1 l
    else if s.leafState l = 6 then s1.set Reg.LF_STATUS_BLOCKED 1 l
    else s1
  else s1

/-! ### Receiving one burst (R216–R224) -/

def State.path (s : State) (f : Nat) : BurstPath := tget {} s.burst.paths f

def State.setPath (s : State) (f : Nat) (x : BurstPath) : State :=
  { s with burst := { s.burst with paths := tput {} s.burst.paths f x } }

/-- The grant on a furrow whose expected arrival lies within the tolerance of an arrival (1/16 symbol). -/
def State.grantAt (s : State) (f mf : Nat) (arrival : Int) : Option Grant :=
  s.burst.grants.find? (fun g => g.furrow == f && g.mf == mf &&
    (arrival - 16 * Int.ofNat g.start).natAbs ≤ 16 * s.get Reg.BR_CFG_ARRIVE_TOL)

/-- The window whose quiet interval holds a survey burst that arrives at `arrival` (1/16 symbol) (R215). -/
def State.windowAt (s : State) (f mf : Nat) (arrival : Int) : Option Grant :=
  s.burst.windows.find? (fun g =>
    let lead : Int := Int.ofNat ((s.get Reg.BR_TIMING_EQD_TOTAL_US - s.get Reg.BR_TIMING_RTD_MIN_US) * s.furRate)
    g.furrow == f && g.mf == mf && decide (16 * (Int.ofNat g.start - lead) ≤ arrival) &&
      decide (arrival + 16 * 240 ≤ 16 * Int.ofNat (g.start + s.grantSymbols g)))

/-- A furrow on which the burst receiver is armed. -/
def State.burstArmed (s : State) (f : Nat) : Bool := s.flag Reg.BR_STATUS_ARMED && bitsOf (s.get Reg.BR_SHARED_MASK) f 1 == 1 && s.coherent

/-- A BURST_COLLISION record (R224). -/
def State.collision (s : State) (f outcome a b : Nat) : State :=
  (s.log wbBurst 0x20 ([BitVec.ofNat 8 f, BitVec.ofNat 8 outcome] ++ bytes 2 a ++ bytes 2 b)).set Reg.BR_EVENTS_COLLISION 1

/-- The leaf of a detection from its grant. -/
def State.grantedLeaf (s : State) (f : Nat) (d : Detection) : Nat :=
  match s.grantAt f d.mf (16 * d.pos) with
  | some g => g.leaf
  | none => 0xFFFF

/-- A weaker burst lost to the one in the main path (R224): COLLISIONS, a missed grant if granted, the record. -/
def State.weakerLost (s : State) (f leafA : Nat) (b : Detection) : State :=
  let s1 := (s.bump Cnt.COLLISIONS).collision f 3 leafA (s.grantedLeaf f b)
  match s.grantAt f b.mf (16 * b.pos) with
  | some g => s1.missGrant g
  | none => s1

/-- What AFC makes of a frequency estimate: its range is ±2.5 GHz or ±0.3 × the furrow rate, whichever is smaller (R218). -/
def State.afcEstimate (s : State) (x : Int) : Int :=
  let r : Int := min 2500 (3 * Int.ofNat s.furRate / 10)
  max (-r) (min r x)

/-- The power of the burst in the main path: its RSSI once latched, its frozen AGC level before that (R223). `latched` is the RSSI latched since its
detection where its header has not been judged yet. -/
def BurstPath.power (x : BurstPath) (a : Detection) (latched : Option Int) : Int :=
  match x.rssi, latched with
  | some r, _ => r
  | none, some r => r
  | none, none => a.power

/-- A detection is strong enough to be captured (R223). -/
def State.captures (s : State) (x : BurstPath) (a : Detection) (latched : Option Int) (power : Int) : Bool :=
  decide (x.power a latched + 10 * Int.ofNat (s.get Reg.BR_CFG_CAPTURE_DB) ≤ power)

/-- The main path takes a detection, and begins its reception from there. -/
def BurstPath.take (x : BurstPath) (d : Option Detection) : BurstPath :=
  { x with main := d, rssi := none, judged := false, acc := none, shadow := none }

/-- BURST_DETECT: the main path detects a preamble; while it is busy the shadow detector holds the detection, or, once the main path's header
has been judged, the weaker burst is lost (R216, R219, R224). A detection that is strong enough to be captured is a BURST_CAPTURE. -/
def execBurstDetect (furrow : Fin 32) (mf : Nat) (pos power afc : Int) (s : State) : Out :=
  let f := furrow.val
  if !s.burstArmed f then .next s
  else
    let d : Detection := ⟨mf, pos, power, s.afcEstimate afc, s.clock⟩
    let x := s.path f
    match x.main with
    | none => done s (s.setPath f (x.take (some d)))
    | some a =>
      if s.captures x a none power then .next s
      else if x.judged then
        done s (s.weakerLost f (match x.acc with | some c => c.leaf | none => s.grantedLeaf f a) d)
      else done s (s.setPath f { x with shadow := some d })

/-- The main path re-arms, or takes over the shadow's detection (R219). -/
def State.rearm (s : State) (f : Nat) : State :=
  let x := s.path f
  s.setPath f (x.take x.shadow)

/-- BURST_SYNC_TIMEOUT: no sync word within 96 symbols of the detection (R219). -/
def execBurstSyncTimeout (furrow : Fin 32) (s : State) : Out :=
  let f := furrow.val
  match (s.path f).main with
  | some d =>
    if !(s.path f).judged && d.at_ + 1248000 / s.furRate ≤ s.clock then done s ((s.bump Cnt.FALSE_DETECTS).rearm f) else .next s
  | none => .next s

/-- The tails of a path once the burst `c` has left its main path with `complete` of its codewords received whole (R221, R224): those not decoded yet
stay in the decoder. -/
def BurstPath.leave (x : BurstPath) (c : Accepted) (complete : Nat) (final : Option (List Byte × Int)) : List BurstTail :=
  let left := min complete c.cw - (c.cw - c.left)
  if left = 0 then x.tails else x.tails ++ [⟨{ c with left := left }, final⟩]

/-- BURST_CAPTURE: the shadow detector finds a preamble at least CAPTURE_DB stronger and the main path takes it over (R223, R224). -/
def execBurstCapture (furrow : Fin 32) (mf : Nat) (pos : Int) (seen : Preamble) (cut : Cut) (s : State) : Out :=
  let f := furrow.val
  let x := s.path f
  match x.main with
  | none => .next s
  | some a =>
    if !s.burstArmed f || !s.captures x a cut.latched seen.power then .next s
    else
      let d : Detection := ⟨mf, pos, seen.power, s.afcEstimate seen.afc, s.clock⟩
      let lb := s.grantedLeaf f d
      match x.acc with
      | some c =>
        let s1 := (s.bump Cnt.CAPTURES).setPath f { x.take (some d) with tails := x.leave c cut.complete none }
        if c.cw ≤ cut.complete then done s s1
        else
          let s2 := (s1.bump Cnt.TRUNCATED).collision f 2 c.leaf lb
          done s (if c.bad then s2 else s2.bump Cnt.BAD_BURSTS c.leaf)
      | none =>
        let s1 := (s.bump Cnt.CAPTURES).setPath f (x.take (some d))
        match s.grantAt f a.mf (16 * a.pos) with
        | some g => done s ((s1.collision f 1 g.leaf lb).missGrant g)
        | none =>
          if x.judged || (s.windowAt f a.mf (16 * a.pos)).isSome then done s (s1.collision f 1 0xFFFF lb)
          else done s (s1.bump Cnt.FALSE_DETECTS)

/-- EQD of a leaf moves by −e, e in 1/16 symbol, rounded to 1/8 ns, and EQD_UPDATE goes out (R232). -/
def State.correctEqd (s : State) (l : Nat) (e : Int) : State :=
  let m : Int := Int.ofNat s.furRate
  let dlt := (1000 * e + m) / (2 * m)
  let s1 := s.set Reg.LF_EQD_EQD (twos 24 (Int.ofNat (s.get Reg.LF_EQD_EQD l) - dlt)) l
  s1.pushMgmt (s.leafInfo l).group (s1.msgEqd l)

/-- A leaf enters SURVEYED (R227, R228). -/
def State.surveyed (s : State) (l rtd group : Nat) (afc : Int) : State :=
  let x := s.leafInfo l
  let s1 := ((s.setLeafInfo l { x with rangeMisses := 0, group := group, seed := none, awaiting := false, lastRange := none }).toLeafState l 1 1).set
    Reg.LF_RTD_RTD rtd l
  let s2 := ((s1.set Reg.LF_EQD_EQD (8000 * s.get Reg.BR_TIMING_EQD_TOTAL_US - rtd) l).set Reg.LF_FREQ_FREQ_CORR (twos 16 (-afc)) l).set
    Reg.LF_LEVEL_CD (twos 16 x.cdHint) l
  let s3 := (s2.set Reg.LF_STATUS_MISS_RUN 0 l).bump Cnt.BURSTS_OK l
  (s3.pushMgmt group (s3.msgAssign l)).refreshLeaves

/-- An accepted survey burst (R227). -/
def State.surveyBurst (s : State) (f serial b : Nat) (w : Grant) (arrival afc : Int) : State :=
  let s0 := s.bump Cnt.SURVEY_BURSTS
  let m : Int := Int.ofNat s.furRate
  let n := arrival - 16 * Int.ofNat (w.start + b * (240 + s.hubGuard))
  let total := 8000 * s.get Reg.BR_TIMING_EQD_TOTAL_US
  let rtd : Int := Int.ofNat total + (1000 * n + m) / (2 * m)
  let h := s.holder serial
  if rtd < Int.ofNat (8000 * s.get Reg.BR_TIMING_RTD_MIN_US) || Int.ofNat total < rtd then
    s0.rangeFail (h.getD 0xFFFF) (twos 32 rtd)
  else match h with
    | some l =>
      let st := s.leafState l
      if s.flag Reg.LF_STATUS_BLOCKED l then s0.pushMgmt (f / 4) (msgDisable serial l)
      else if st = 0 || st = 6 then s0.surveyed l rtd.toNat (f / 4) afc
      else if st = 5 then (s0.bump Cnt.DUP_SERIALS).surveyed l rtd.toNat (f / 4) afc
      else if st = 1 then s0.surveyed l rtd.toNat (f / 4) afc
      else s0.bump Cnt.DUP_SERIALS
    | none =>
      match (if s.flag Reg.LEAF_CFG_AUTO_ALLOC then (List.range 1024).find? (fun l => !s.registered l) else none) with
      | some l => ((s0.setSerial l serial).setLeafInfo l {}).surveyed l rtd.toNat (f / 4) afc
      | none =>
        ((s0.bump Cnt.UNKNOWN_SERIALS).set Reg.BR_EVENTS_UNKNOWN_SERIAL 1).log wbBurst 0x22 ([BitVec.ofNat 8 f, 0, 0, 0] ++ bytes 8 serial)

/-- The entry that a survey burst of `serial` has left in SURVEYED. -/
def State.surveyedLeaf (s : State) (serial : Nat) : Option Nat := (s.holder serial).filter (fun l => s.leafState l == 1)

/-- Identity taps: the centre tap of the two straight filters is one. -/
def identityTaps : List Byte := (List.range 36).flatMap (fun k => bytes 2 (if k = 4 || k = 31 then 0x4000 else 0) ++ [0, 0])

/-- A leaf's burst is accepted for its grant: MISS_RUN, the counters, the transitions of R234. -/
def State.acceptBurst (s : State) (l type : Nat) (e : Int) : State :=
  let x := s.leafInfo l
  let s1 := ((s.set Reg.LF_STATUS_MISS_RUN 0 l).bump Cnt.BURSTS_OK l).set Reg.LF_LAST_E (twos 16 e) l
  let s2 := if 64 < e.natAbs then s1.bump Cnt.MISRANGED l else s1
  match s.leafState l with
  | 1 =>
    if type = 2 then
      if e.natAbs ≤ 64 then
        let t := s2.setLeafInfo l { x with rangeMisses := 0, assignLeft := 0 }
        if s.flag Reg.LF_STATUS_PROFILE_SET l then (t.toLeafState l 3 3).enableObj 5 l else (t.toLeafState l 2 2).enableObj 5 l
      else s2.rangingMiss l
    else s2
  | 3 =>
    if x.awaiting && type = 2 then
      if e.natAbs ≤ 64 then s2.setLeafInfo l { x with rangeMisses := 0, awaiting := false, assignLeft := 0 } else s2.rangingMiss l
    else if type = 0 then s2.toLeafState l 4 4 else s2
  | 5 => s2.toLeafState l 4 6
  | _ => s2

/-- ROGUE_BURSTS with its event. -/
def State.rogueBurst (s : State) : State := (s.bump Cnt.ROGUE_BURSTS).set Reg.BR_EVENTS_ROGUE 1

/-- ROGUE_BURST record: furrow, leaf named, leaf granted or 0xFFFF. -/
def State.logRogue (s : State) (f named granted : Nat) : State :=
  s.log wbBurst 0x21 ([BitVec.ofNat 8 f, 0] ++ bytes 2 named ++ bytes 2 granted)

/-- A header whose CRC is correct, of TYPE 0 or 2 (R220, R224). -/
def State.judgeData (s : State) (f : Nat) (d : Detection) (h : Nat) (arrival rssi : Int) : State :=
  let type := bitsOf h 126 2
  let l := bitsOf h 116 10
  let cw := bitsOf h 100 8
  match s.grantAt f d.mf arrival with
  | some g =>
    if g.leaf ≠ l then ((s.rogueBurst.rogueLeaf l).logRogue f l g.leaf).missGrant g
    else if bitsOf h 108 8 ≠ g.mf % 256 || cw ≠ (if g.type = 0 then g.len else 0) then s.missGrant g
    else
      let e := arrival - 16 * Int.ofNat g.start
      let s1 := (s.dropGrant g).acceptBurst l type e
      let s2 := if 16 ≤ e.natAbs then s1.correctEqd l e else s1
      let acc : Accepted := { type := type, leaf := l, cw := cw, left := cw, e := e, rssi := rssi, seed := (s.leafInfo l).seed.getD identityTaps,
                              cd := s.getInt Reg.LF_LEVEL_CD l }
      s2.setPath f { s2.path f with acc := some acc }
  | none =>
    match s.burst.grants.find? (fun g => g.furrow == f && g.mf == d.mf && g.leaf == l) with
    | some g =>
      let e := arrival - 16 * Int.ofNat g.start
      let s1 := (s.rogueBurst.bump Cnt.MISRANGED l).missGrant g
      if e.natAbs ≤ 65536 then s1.correctEqd l e else s1
    | none =>
      if (s.windowAt f d.mf arrival).isSome then s else (s.rogueBurst.rogueLeaf l).logRogue f l 0xFFFF

/-- BURST_HEADER: the header of the burst in the main path is checked, 16 dsp-cycles after its last symbol; `arrival` is the measured arrival of its
first preamble symbol from the grid start (1/16 symbol) (R216, R220, R224). -/
def execBurstHeader (furrow : Fin 32) (header : BitVec 128) (arrival rssi : Int) (s : State) : Out :=
  let f := furrow.val
  let x := s.path f
  match x.main with
  | none => .next s
  | some d =>
    if x.judged then .next s
    else
      let h := header.toNat
      let good := burstHeaderOk header
      let named := if good && bitsOf h 126 2 ≠ 1 then bitsOf h 116 10 else s.grantedLeaf f d
      let s1 := s.setPath f { x with judged := true, rssi := some rssi, acc := none, shadow := none }
      let s2 := match x.shadow with
        | some b => s1.weakerLost f named b
        | none => s1
      if !good then
        let s3 := s2.bump Cnt.HDR_CRC_FAILS
        match s2.grantAt f d.mf arrival with
        | some g => done s ((s3.bump Cnt.BAD_BURSTS g.leaf).missGrant g)
        | none => done s (if (s2.windowAt f d.mf arrival).isSome then s3 else s3.rogueBurst)
      else if bitsOf h 126 2 = 1 then
        match s2.windowAt f d.mf arrival with
        | some w =>
          let serial := bitsOf h 62 64
          let s3 := s2.surveyBurst f serial (bitsOf h 53 9) w arrival d.afc
          let cd := match s2.holder serial with | some k => (s2.leafInfo k).cdHint | none => 0
          let acc : Accepted := { type := 1, leaf := (s3.surveyedLeaf serial).getD 0xFFFF, cw := 0, left := 0, e := 0, rssi := rssi,
                                  seed := identityTaps, cd := cd }
          done s (s3.setPath f { s3.path f with acc := some acc })
        | none =>
          match s2.grantAt f d.mf arrival with
          | some g => done s (s2.rogueBurst.missGrant g)
          | none => done s s2.rogueBurst
      else if bitsOf h 126 2 = 3 then
        match s2.grantAt f d.mf arrival with
        | some g => done s (s2.missGrant g)
        | none => done s s2.rogueBurst
      else done s (s2.judgeData f d h arrival rssi)

/-- A burst without an uncorrectable codeword writes back its final taps as the seed, the residual dispersion in them (10 ps/nm) and its RSSI
(R221). -/
def State.writeBack (s : State) (a : Accepted) (taps : List Byte) (cd : Int) : State :=
  let l := a.leaf
  let s1 := s.setLeafInfo l { s.leafInfo l with seed := some ((List.range 144).map (fun i => taps.getD i 0)), seedAt := s.devNs }
  (s1.set Reg.LF_LEVEL_CD (twos 16 (s.getInt Reg.LF_LEVEL_CD l + cd)) l).set Reg.LF_LEVEL_RSSI (twos 16 a.rssi) l

/-- The residual frequency (MHz) of an accepted burst; above ±50 MHz FREQ_CORR is corrected and FREQ_UPDATE goes out (R232). -/
def State.correctFreq (s : State) (l : Nat) (resid : Int) : State :=
  let s1 := s.set Reg.LF_FREQ_RESID (twos 16 resid) l
  if 50 < resid.natAbs then
    let t := s1.set Reg.LF_FREQ_FREQ_CORR (twos 16 (s1.getInt Reg.LF_FREQ_FREQ_CORR l - resid)) l
    t.pushMgmt (s.leafInfo l).group (t.msgFreq l)
  else s1

/-- A data burst of the leaf under a level measurement is one of its N (R270). -/
def State.measureBurst (s : State) (a : Accepted) (levels : List (Fin 65536 × Fin 65536)) : State :=
  match s.tx.measure with
  | some m =>
    if m.leaf = a.leaf && a.type = 0 && m.used < m.n then
      { s with tx := { s.tx with measure := some { m with used := m.used + 1, sums := addLevels m.sums levels } } }
    else s
  | none => s

/-- BURST_END: at the end of the postamble the main path re-arms; FREQ_CORR is corrected and, once every codeword has decoded cleanly, the seed is
written back (R216, R221, R232). `resid` is the residual frequency (MHz), `cd` the residual dispersion (10 ps/nm). -/
def execBurstEnd (furrow : Fin 32) (resid cd : Int) (snr : Fin 65536) (final : Equalised) (s : State) : Out :=
  let f := furrow.val
  let x := s.path f
  if x.main.isNone || !x.judged then .next s
  else
    let s0 := s.setPath f (x.take none)
    match x.acc with
    | none => done s s0
    | some a =>
      if a.leaf = 0xFFFF then done s s0
      else
        let s1 := s0.set Reg.LF_LAST_SNR snr.val a.leaf
        let s2 := if a.type = 1 then s1 else (s1.correctFreq a.leaf resid).measureBurst a final.levels
        let s3 := s2.setPath f { s2.path f with tails := x.leave a a.cw (some (final.taps, cd)) }
        done s (if a.left = 0 && !a.bad then s3.writeBack a final.taps cd else s3)

/-- A payload codeword of a furrow's bursts has been decoded, of the oldest burst that waits for one (R221, R224): the first uncorrectable one makes the
burst a bad one, the rest of it is decoded all the same. -/
def State.burstCodeword (s : State) (f : Nat) (bad : Bool) : State :=
  let x := s.path f
  let count (s : State) (a : Accepted) : State := if bad && !a.bad then s.bump Cnt.BAD_BURSTS a.leaf else s
  match x.tails with
  | t :: rest =>
    let a := { t.acc with left := t.acc.left - 1, bad := t.acc.bad || bad }
    let s1 := count s t.acc
    if a.left ≠ 0 then s1.setPath f { x with tails := { t with acc := a } :: rest }
    else
      let s2 := s1.setPath f { x with tails := rest }
      match a.bad, t.final with
      | false, some w => s2.writeBack a w.1 w.2
      | _, _ => s2
  | [] =>
    match x.acc with
    | some a => (count s a).setPath f { x with acc := some { a with left := a.left - 1, bad := a.bad || bad } }
    | none => s

/-! ### Missed grants -/

/-- When the sync word of a grant's burst must have ended, as elapsed time: the hub's boundary of the multiframe, EQD_TOTAL, the start, 160 symbols
and the tolerance. -/
def State.grantDeadline (s : State) (g : Grant) : Int :=
  Int.ofNat s.frm.lastMf + mfDiff g.mf s.frm.mfn * Int.ofNat (usT 125) + Int.ofNat (usT (s.get Reg.BR_TIMING_EQD_TOTAL_US)) +
    Int.ofNat ((g.start + 160 + s.get Reg.BR_CFG_ARRIVE_TOL) * 13000 / s.furRate)

/-- GRANT_MISSED: a grant of the leaf passes with no accepted burst (R233). -/
def execGrantMissed (leaf : Fin 1024) (s : State) : Out :=
  match s.burst.grants.find? (fun g => g.leaf == leaf.val && g.type ≠ 1) with
  | some g => if s.grantDeadline g ≤ Int.ofNat s.clock then done s (s.missGrant g) else .next s
  | none => .next s

/-! ### The grant map (R213–R215, R351, R352, R537) -/

/-- A leaf's grant for upstream multiframe `mf`, its START still open. -/
def State.leafGrant (s : State) (mf l : Nat) : Option Grant :=
  let st := s.leafState l
  let x := s.leafInfo l
  let home := s.get Reg.LF_PROFILE_HOME_FURROW l
  let survey := (s.groupSurvey x.group).getD 0
  if st = 1 then some ⟨mf, 2, l, survey, 0, 0⟩
  else if st = 2 then
    (if (match x.lastRange with | some m => decide (64 ≤ mfDiff mf m) | none => true) || s.burst.deferred.contains l then some ⟨mf, 2, l, survey, 0, 0⟩
     else none)
  else if st = 3 && s.flag Reg.LF_STATUS_STANDBY l then none
  else if st = 3 && x.awaiting then some ⟨mf, 2, l, survey, 0, 0⟩
  else if st = 3 || st = 4 then
    (if s.get Reg.LF_PROFILE_CW_PER_MF l = 0 then none else some ⟨mf, 0, l, home, 0, s.get Reg.LF_PROFILE_CW_PER_MF l⟩)
  else if st = 5 then some ⟨mf, 2, l, home, 0, 0⟩
  else none

/-- A survey window is due in the next map. -/
def State.surveyDue (s : State) : Bool :=
  s.get Reg.SURVEY_CFG_SURVEY_PERIOD_MF ≠ 0 && s.get Reg.SURVEY_CFG_SURVEY_PERIOD_MF ≤ s.burst.sinceSurvey + 1

/-- The order in which TYPE 2 grants give way: ranging of RANGED leaves first, then of SURVEYED leaves, then keepalives. -/
def State.deferClass (s : State) (g : Grant) : Nat :=
  if s.leafState g.leaf = 2 then 0 else if s.leafState g.leaf = 5 then 2 else 1

/-- Drop grants of a class from the end of a list until `k` have gone. -/
def dropClass (s : State) (c : Nat) : Nat → List Grant → List Grant × List Grant
  | _, [] => ([], [])
  | k, g :: t =>
    let r := dropClass s c k t
    if r.2.length < k && s.deferClass g = c then (r.1, g :: r.2) else (g :: r.1, r.2)

/-- The grants of group `k` for upstream multiframe `mf`, and those deferred. -/
def State.groupMap (s : State) (mf k : Nat) : List Grant × List Grant :=
  match s.groupSurvey k with
  | none => ([], [])
  | some sf =>
    let all := (List.range 1024).filterMap (fun l => (s.leafGrant mf l).filter (fun g => g.furrow / 4 == k))
    let firm := all.filter (fun g => g.type = 0) ++ (if s.surveyDue then [⟨mf, 1, 0, sf, 0, s.get Reg.SURVEY_CFG_BACKOFF_SLOTS⟩] else [])
    let two := all.filter (fun g => g.type = 2)
    let late := two.filter (fun g => s.burst.deferred.contains g.leaf)
    let l0 := late ++ two.filter (fun g => !s.burst.deferred.contains g.leaf)
    let excess := firm.length + l0.length - s.gmax k
    let r0 := dropClass s 0 excess l0
    let r1 := dropClass s 1 (excess - r0.2.length) r0.1
    let r2 := dropClass s 2 (excess - r0.2.length - r1.2.length) r1.1
    (r2.1 ++ firm, r0.2 ++ r1.2 ++ r2.2)

/-- The map of every group, without its starts, and the grants deferred. -/
def State.wholeMap (s : State) (mf : Nat) : List Grant × List Grant :=
  let r := (List.range 8).map (s.groupMap mf)
  (r.flatMap (·.1), r.flatMap (·.2))

/-- The symbols a grant keeps clear on its furrow, from the start of the grid of the present multiframe: a burst with its guard, a window with its quiet
interval. -/
def State.span (s : State) (g : Grant) : Int × Int :=
  let a : Int := mfDiff g.mf s.frm.mfn * Int.ofNat s.mfSymbols + Int.ofNat g.start
  if g.type = 1 then
    (a - Int.ofNat ((s.get Reg.BR_TIMING_EQD_TOTAL_US - s.get Reg.BR_TIMING_RTD_MIN_US) * s.furRate), a + Int.ofNat (s.grantSymbols g))
  else (a, a + Int.ofNat (s.grantSymbols g + s.hubGuard))

/-- Two grants keep clear of each other. -/
def State.clearOf (s : State) (g h : Grant) : Bool :=
  g.furrow != h.furrow || decide ((s.span g).2 ≤ (s.span h).1) || decide ((s.span h).2 ≤ (s.span g).1)

/-- Every pair of a list keeps clear. -/
def State.allClear (s : State) : List Grant → Bool
  | [] => true
  | g :: t => t.all (s.clearOf g) && s.allClear t

/-- A placement that R213 and R215 allow, beside the grants already sent. -/
def State.placed (s : State) (gs : List Grant) : Bool :=
  gs.all (fun g => g.start + s.grantSymbols g ≤ s.mfSymbols) && s.allClear gs &&
    gs.all (fun g => (s.burst.grants ++ s.burst.windows).all (s.clearOf g))

/-- GRANT_DEFERRALS of a number of grants. -/
def State.deferGrants (s : State) (gs : List Grant) : State :=
  let s1 := { s with burst := { s.burst with deferred := gs.map (·.leaf) } }
  if gs.isEmpty then s1 else (s1.bump Cnt.GRANT_DEFERRALS 0 0 gs.length).set Reg.PROT_EVENTS_GRANT_DEFER 1

/-- GRANT_MAP_BUILD: the map of the next downstream multiframe is complete; `starts` is the placement the firmware chose, in the order of the map (R213,
R215, R352; log entry 31). -/
def execGrantMapBuild (starts : List (Fin 4194304)) (s : State) : Out :=
  let mf := (s.frm.mfn + 3) % 2 ^ 32
  let r := s.wholeMap mf
  let gs := r.1.zipIdx.map (fun e => { e.1 with start := ((starts.map (·.val)).getD e.2 0) })
  if s.mode ≠ 1 || !s.coherent || s.burst.built.isSome || !s.placed gs then .next s
  else
    let s1 := { s with burst := { s.burst with built := some gs } }
    let s2 := gs.foldl (fun s g => if g.type = 2 && s.leafState g.leaf = 2 then
      s.setLeafInfo g.leaf { s.leafInfo g.leaf with lastRange := some mf } else s) s1
    done s (s2.deferGrants r.2)

/-- A grant of a map still goes out: its leaf has not been EVICTED, freed or switched out since the map was built (R235, R237). -/
def State.stillGranted (s : State) (g : Grant) : Bool :=
  g.type == 1 || (s.leafState g.leaf ≠ 6 && s.leafState g.leaf ≠ 0 && !(s.leafState g.leaf == 3 && s.flag Reg.LF_STATUS_STANDBY g.leaf))

/-- A map goes into the streams of the present multiframe: grants wait for their bursts, windows open, SURVEY_PARAMS goes out (R353). -/
def State.sendMap (s : State) (all : List Grant) : State :=
  let gs := all.filter s.stillGranted
  let ws := gs.filter (fun g => g.type = 1)
  let s1 := { s with burst := { s.burst with
    sent := gs
    mapFor := some s.frm.mfn
    grants := s.burst.grants ++ gs.filter (fun g => g.type ≠ 1)
    windows := s.burst.windows ++ ws
    sinceSurvey := if ws.isEmpty then s.burst.sinceSurvey else 0 } }
  ws.foldl (fun s w => s.pushMgmt (w.furrow / 4)
    (msgSurvey (s.get Reg.BR_CFG_GUARD_NS) (s.get Reg.BR_TIMING_EQD_TOTAL_US) (s.get Reg.BR_TIMING_RTD_MIN_US))) s1

/-- GMAP_LATE: no map is ready; the previous TYPE 0 and survey grants go again and the TYPE 2 grants wait (R537). -/
def execGmapLate (s : State) : Out :=
  if s.mode ≠ 1 || !s.coherent || !s.frm.started || s.burst.mapFor == some s.frm.mfn then .next s
  else
    let again := (s.burst.sent.filter (fun g => g.type ≠ 2)).map (fun g => { g with mf := (s.frm.mfn + 2) % 2 ^ 32 })
    let two := (s.wholeMap ((s.frm.mfn + 2) % 2 ^ 32)).1.filter (fun g => g.type = 2)
    done s ((((s.sendMap again).deferGrants two).bump Cnt.GMAP_LATE).set Reg.ENG_EVENTS_GMAP_LATE 1)

/-- The messages of a queue that fit in `room` bytes, and the rest (R353). -/
def fitMgmt : Nat → List (List Byte) → List (List Byte) × List (List Byte)
  | _, [] => ([], [])
  | room, m :: t => if m.length ≤ room then let r := fitMgmt (room - m.length) t; (m :: r.1, r.2) else ([], m :: t)

/-- The hub's part of a multiframe boundary: repeated LEAF_ASSIGN (R371), the map, the management messages that fit, windows that have passed. -/
def State.hubBoundary (s : State) : State :=
  if s.mode ≠ 1 then s
  else
    let s0 := s.burst.leaves.foldl (fun s e =>
      let x := s.leafInfo e.1
      if x.assignLeft = 0 then s
      else (s.setLeafInfo e.1 { x with assignLeft := x.assignLeft - 1 }).pushMgmt x.group (s.msgAssign e.1)) s
    let s1 := { s0 with burst := { s0.burst with
      sinceSurvey := s0.burst.sinceSurvey + 1
      windows := s0.burst.windows.filter (fun w => decide (mfDiff s0.frm.mfn w.mf < 20)) } }
    let s2 := match s1.burst.built with
      | some gs => ({ s1 with burst := { s1.burst with built := none } }).sendMap gs
      | none => s1
    (List.range 8).foldl (fun s k =>
      let n := (s.burst.sent.filter (fun g => g.furrow / 4 = k)).length
      let r := fitMgmt (s.streamBytes k - 23 - 6 * n) (tget [] s.burst.mgmt k)
      { s with burst := { s.burst with mgmt := tput [] s.burst.mgmt k r.2, mgmtSent := tput [] s.burst.mgmtSent k r.1 } }) s2

/-! ### Dual-homed leaves (R237, R371) -/

/-- A switch-in of a leaf entry. -/
def State.switchIn (s : State) (l : Nat) : State :=
  let s1 := ((s.set Reg.LF_STATUS_STANDBY 0 l).toLeafState l 3 11).setLeafInfo l
    { s.leafInfo l with awaiting := true, rangeMisses := 0, assignLeft := 4000 }
  (s1.enableObj 5 l)

/-- A switch-out of a leaf entry. -/
def State.switchOut (s : State) (l : Nat) : State :=
  (((s.set Reg.LF_STATUS_STANDBY 1 l).toLeafState l 3 12).setLeafInfo l { s.leafInfo l with awaiting := false, assignLeft := 0 }).startQuench 5 l

/-- PROT_SWITCH: counter, event and record of a switch (R369). -/
def State.logSwitch (s : State) (target old new code source : Nat) : State :=
  ((s.bump Cnt.SWITCHES).set Reg.PROT_EVENTS_SWITCH 1).log wbFrm 0x32
    (bytes 2 target ++ bytes 1 old ++ bytes 1 new ++ bytes 1 code ++ bytes 1 source)

/-- The host's leaf switches fall due at a multiframe boundary (R371): FS and MS_B in, MS_A and LO out. -/
def State.leafSwitches (s : State) : State :=
  s.burst.leaves.foldl (fun s e =>
    let l := e.1
    let x := s.leafInfo l
    let c := x.switch_
    let t := s.setLeafInfo l { x with switch_ := 0 }
    if (c = 0xD || c = 7) && s.leafState l = 3 && s.flag Reg.LF_STATUS_STANDBY l then (t.switchIn l).logSwitch l 0 1 c 2
    else if (c = 6 || c = 0xF) && (s.leafState l = 3 || s.leafState l = 4) && !s.flag Reg.LF_STATUS_STANDBY l then
      (t.switchOut l).logSwitch l 1 0 c 2
    else if c ≠ 0 then t else s) s

/-! ### The device as a leaf (R226–R238, R275–R279) -/

def State.selfState (s : State) : Nat := s.get Reg.SELF_STATUS_STATE

def State.selfSerial (s : State) : Nat := s.get Reg.SELF_SERIAL_SERIAL 0 0 + 2 ^ 32 * s.get Reg.SELF_SERIAL_SERIAL 1 0

/-- The leaf's index is the one a message names. -/
def State.isMe (s : State) (l : Nat) : Bool := s.flag Reg.SELF_STATUS_LEAF_VALID && s.get Reg.SELF_STATUS_LEAF == l

/-- Frame lock on the group has come or gone (R238). -/
def State.leafLockChange (s : State) : State :=
  if s.mode ≠ 2 then s
  else if s.leafLocked then (if s.selfState = 0 && s.flag Reg.SELF_CTRL_JOIN_EN then s.set Reg.SELF_STATUS_STATE 1 else s)
  else if s.selfState = 0 || s.selfState = 5 then s
  else { s.set Reg.SELF_STATUS_STATE 1 with self := { s.cutBurst.self with grants := [], surveyedAt := none, waitWindows := 0 } }

/-- The leaf takes a grant entry from its group's stream of downstream multiframe `m` (R205, R238, R276). -/
def State.leafGrantRx (s : State) (m type leaf furrow start len : Nat) : State :=
  let mf := (m + 2) % 2 ^ 32
  let g : Grant := ⟨mf, type, leaf, furrow, start, len⟩
  let hold (s : State) : State := { s with self := { s.self with
    grants := (s.self.grants.filter (fun h => decide (mfDiff mf h.mf < 20))) ++ [g]
    burstMask := s.self.burstMask ||| 2 ^ furrow } }
  if type = 1 then
    let s1 := if s.selfState = 1 then s.set Reg.SELF_STATUS_STATE 2 else s
    if s1.selfState ≠ 2 then s1
    else if 0 < s1.self.waitWindows then { s1 with self := { s1.self with waitWindows := s1.self.waitWindows - 1 } }
    else hold s1
  else if (type = 0 || type = 2) && s.isMe leaf && (s.selfState = 3 || s.selfState = 4) then
    let s1 := if type = 0 && s.selfState = 3 then s.set Reg.SELF_STATUS_STATE 4 else s
    hold { s1 with self := { s1.self with lastNamed := s.clock } }
  else s

/-- LEAF_GRANT_TIMEOUT: no grant has named the leaf for 256 multiframes (R238). -/
def execLeafGrantTimeout (s : State) : Out :=
  if s.mode = 2 && (s.selfState = 3 || s.selfState = 4) && s.self.lastNamed + 256 * usT 125 ≤ s.clock then
    done s { s.set Reg.SELF_STATUS_STATE 2 with self := { s.self with grants := [], surveyedAt := none } }
  else .next s

/-- SURVEY_RETRY_WAIT: no LEAF_ASSIGN within 4 multiframes of a survey burst; 1 to 8 windows pass (R231). -/
def execSurveyRetryWait (s : State) : Out :=
  match s.self.surveyedAt with
  | some t =>
    if s.mode = 2 && s.selfState = 2 && t + 4 * usT 125 ≤ s.clock then
      let r := s.free 231
      done s { r.2 with self := { r.2.self with surveyedAt := none, waitWindows := 1 + r.1 % 8 } }
    else .next s
  | none => .next s

/-- The guard that the leaf uses: that of the last SURVEY_PARAMS. -/
def State.leafGuard (s : State) : Nat := s.guard (s.self.guardNs.getD 32)

/-- LEAD_NS or LAG_NS after the clamp of R278. -/
def State.gateNs (s : State) (ns : Nat) : Nat :=
  match s.self.guardNs with
  | some g => min ns (g / 2)
  | none => ns

/-- A burst's symbols at the leaf. -/
def State.ownSymbols (s : State) (g : Grant) : Nat :=
  if g.type = 0 then 240 + g.len * cwSymbols (s.get Reg.TXS_LEAF_CFG_BURST_MOD) else 240

/-- The multiframe and the elapsed time that the leaf's boundaries are counted from (R202): those of the last stream received. -/
def State.leafOrigin (s : State) : Nat × Nat := s.self.boundary.getD (0, 0)

/-- From gate on to gate off of a burst that starts at symbol `start` of its multiframe, in thousandths of a symbol from the leaf's boundary of the last
multiframe received. -/
def State.gateSpan (s : State) (g : Grant) (start : Nat) : Int × Int :=
  let a : Int := 1000 * (mfDiff g.mf s.leafOrigin.1 * Int.ofNat s.mfSymbols + Int.ofNat start)
  (a - Int.ofNat (s.gateNs (s.get Reg.TXS_LEAF_CFG_LEAD_NS) * s.furRate),
    a + 1000 * Int.ofNat (s.ownSymbols g) + Int.ofNat (s.gateNs (s.get Reg.TXS_LEAF_CFG_LAG_NS) * s.furRate))

/-- The header of a burst of the leaf (R210). -/
def State.ownHeader (s : State) (g : Grant) (b qrep : Nat) : BitVec 128 :=
  if g.type = 1 then withCrc (2 ^ 126 + s.selfSerial * 2 ^ 62 + b * 2 ^ 53)
  else withCrc (g.type * 2 ^ 126 + s.get Reg.SELF_STATUS_LEAF * 2 ^ 116 + g.mf % 256 * 2 ^ 108 + (if g.type = 0 then g.len else 0) * 2 ^ 100 +
    s.get Reg.TXS_LEAF_CFG_BURST_MOD * 2 ^ 99 + s.get Reg.TXS_LEAF_CFG_BURST_RATE_SEL * 2 ^ 96 + s.self.seq * 2 ^ 80 + qrep * 2 ^ 64)

/-- A grant that the leaf may send in now. -/
def State.eligible (s : State) (g : Grant) : Bool :=
  (g.type == 1 && s.selfState == 2) || (g.type != 1 && (s.selfState == 3 || s.selfState == 4))

/-- The grant that starts first. -/
def State.firstGrant (s : State) : List Grant → Option Grant
  | [] => none
  | g :: t =>
    match s.firstGrant t with
    | none => some g
    | some h => if (s.gateSpan h h.start).1 < (s.gateSpan g g.start).1 then some h else some g

/-- The updates whose upstream multiframe `now` has begun take effect (R229). -/
def State.leafUpdates (s : State) (now : Nat) : State :=
  let isDue (u : Nat × Option Nat × Option Int) : Bool := decide (0 ≤ mfDiff now u.1)
  let s1 := (s.self.updates.filter isDue).foldl (fun s u =>
    let t := match u.2.1 with | some e => s.set Reg.SELF_EQD_EQD e | none => s
    match u.2.2 with | some f => t.set Reg.SELF_FREQ_CORR_F (twos 16 f) | none => t) s
  { s1 with self := { s1.self with updates := s1.self.updates.filter (fun u => !isDue u) } }

/-- The instant at which the leaf sends the first symbol of a burst (R204, R226, R275): its boundary of the multiframe, EQD, `start` symbols; a survey
burst takes EQD as 0. In 1/(8 × furrow rate in MBd) of the clock's unit. -/
def State.sendInstant (s : State) (g : Grant) (start : Nat) : Int :=
  let r : Int := Int.ofNat s.furRate
  let eqd : Int := if g.type = 1 then 0 else Int.ofNat (s.get Reg.SELF_EQD_EQD)
  8 * r * (Int.ofNat s.leafOrigin.2 + mfDiff g.mf s.leafOrigin.1 * Int.ofNat (usT 125)) + 13 * r * eqd + 104000 * Int.ofNat start

/-- A management message that the leaf acts on, from downstream multiframe `m` (R228, R229, R238, R278). -/
def State.leafMessage (s : State) (m type : Nat) (p : List Byte) : State :=
  let mf := (m + 2) % 2 ^ 32
  let upd (s : State) (e : Option Nat) (f : Option Int) : State := { s with self := { s.self with updates := s.self.updates ++ [(mf, e, f)] } }
  match type with
  | 1 =>
    let half := be 1 p 0 / 2
    let s1 := { s with self := { s.self with guardNs := some (be 1 p 0) } }
    if half < s.get Reg.TXS_LEAF_CFG_LEAD_NS || half < s.get Reg.TXS_LEAF_CFG_LAG_NS then
      (s1.bump Cnt.GATE_CLAMPS).set Reg.TXS_EVENTS_GATE_CLAMP 1
    else s1
  | 2 =>
    if be 8 p 0 = s.selfSerial && s.selfSerial ≠ 0 && s.selfState ≠ 0 && s.selfState ≠ 5 then
      let s1 := (s.set Reg.SELF_STATUS_LEAF (be 2 p 8)).set Reg.SELF_STATUS_LEAF_VALID 1
      let s2 := if s.selfState = 2 then s1.set Reg.SELF_STATUS_STATE 3 else s1
      upd { s2 with self := { s2.self with surveyedAt := none, lastNamed := if s.selfState = 2 then s.clock else s2.self.lastNamed } }
        (some (be 3 p 10)) (some (sint 16 (be 2 p 13)))
    else s
  | 3 => if s.isMe (be 2 p 0 % 1024) then upd s (some (be 3 p 2)) none else s
  | 4 => if s.isMe (be 2 p 0 % 1024) then upd s none (some (sint 16 (be 2 p 2))) else s
  | 5 => if be 8 p 0 = s.selfSerial && s.selfSerial ≠ 0 && s.selfState ≠ 0 then
      { s.set Reg.SELF_STATUS_STATE 5 with self := { s.self with grants := [], surveyedAt := none } } else s
  | _ => s

/-! ### Staged settings -/

/-- A LEAF_ADMIT takes effect unless the entry has become EVICTED since validation (R251). -/
def State.admitLeaf (s : State) (p : List Byte) : State :=
  let l := u16 p 0
  let st := s.leafState l
  if st = 6 then
    ((s.log wbBurst 0x24 (bytes 2 l ++ [6, 6, 7])).set Reg.BR_EVENTS_LEAF_STATE 1)
  else
    let was := s.flag Reg.LF_STATUS_STANDBY l && s.flag Reg.LF_STATUS_PROFILE_SET l
    let standby := bitsOf (u8 p 6) 5 1
    let w := u8 p 2 + (u8 p 3 % 32) * 2 ^ 8 + u8 p 4 * 2 ^ 13 + bitsOf (u8 p 5) 0 1 * 2 ^ 21 + bitsOf (u8 p 5) 1 3 * 2 ^ 22 +
      bitsOf (u8 p 6) 0 4 * 2 ^ 25 + bitsOf (u8 p 6) 4 1 * 2 ^ 29
    let s1 := ((s.setReg (0x480004 + 0x40 * l) (BitVec.ofNat 32 w)).set Reg.LF_STATUS_PROFILE_SET 1 l)
    let s2 := if st = 2 then ((s1.set Reg.LF_STATUS_STANDBY standby l).toLeafState l 3 3).enableObj 5 l
      else if (st = 3 || st = 4 || st = 5) && was && standby = 0 then s1.switchIn l
      else if (st = 3 || st = 4) && !was && standby = 1 then s1.switchOut l
      else s1.set Reg.LF_STATUS_STANDBY standby l
    s2.refreshLeaves

/-- What the staged commands of this chapter set. -/
def applyBurst (c : Staged) (s : State) : State :=
  let p := c.payload
  if c.op = 0x0507 then
    [(0, 0x140000, 0x00FFFFFF), (4, 0x140004, 0xFFFFFFFF), (8, 0x140008, 0x07FF07FF), (12, 0x14000C, 0x00FF1FFF), (16, 0x140040, 0x1FFFF),
      (20, 0x140044, 0xFFFFFFFF)].foldl (fun s e => setWord s e.2.1 e.2.2 (u32 p e.1)) s
  else if c.op = 0x0501 then
    let l := u16 p 0
    if u8 p 2 = 1 then
      (s.setSerial l (u64 p 4)).setLeafInfo l { s.leafInfo l with provisioned := true, cdHint := sint 16 (u16 p 12) }
    else
      let s1 := if s.leafState l = 0 then s else s.toLeafState l 0 9
      ((s1.setSerial l 0).setLeafInfo l {}).set Reg.LF_STATUS_BLOCKED 0 l
  else if c.op = 0x0502 then s.admitLeaf p
  else if c.op = 0x0504 then
    let l := u16 p 0
    let s1 := ((s.toLeafState l 0 9).set Reg.LF_STATUS_BLOCKED 0 l).set Reg.LF_STATUS_PROFILE_SET 0 l
    let s2 := (s1.set Reg.LF_STATUS_STANDBY 0 l).setReg (0x480004 + 0x40 * l) 0x00400000
    if u8 p 2 = 1 then s2.setLeafInfo l { s2.leafInfo l with provisioned := true }
    else (s2.setSerial l 0).setLeafInfo l { s2.leafInfo l with provisioned := false }
  else if c.op = 0x0509 then
    ((s.set Reg.SELF_CTRL_JOIN_EN (u8 p 0)).set Reg.SELF_SERIAL_SERIAL (u32 p 4) 0).set Reg.SELF_SERIAL_SERIAL (u32 p 8) 1
  else s

/-- ARMED follows the mode and BR_SHARED; the paths of furrows that are no longer shared end (R199). -/
def State.refreshArmed (s : State) : State :=
  let on := s.mode == 1 && s.get Reg.BR_SHARED_MASK != 0 && s.coherent && !s.lineHeld
  let s1 := (s.set Reg.BR_STATUS_ARMED (b2n on)).refreshLineLock
  { s1 with burst := { s1.burst with
    paths := s1.burst.paths.filter (fun e => on && bitsOf (s.get Reg.BR_SHARED_MASK) e.1 1 == 1) } }

/-- The part of a commit boundary in this chapter. -/
def State.burstBoundary (cs : List Staged) (s : State) : State :=
  let s1 := if cs.any (opIn [0x0501, 0x0502, 0x0504]) then s.refreshLeaves else s
  let s2 := if s1.mode = 2 && s1.selfState = 5 && !s1.flag Reg.SELF_CTRL_JOIN_EN then s1.set Reg.SELF_STATUS_STATE 0 else s1
  s2.leafLockChange.refreshArmed

/-- The leaves that hold a profile. -/
def State.profiles (s : State) : List Nat := (List.range 1024).filter (fun l => s.flag Reg.LF_STATUS_PROFILE_SET l)

/-- A turnout carries a client other than a leaf: an Ethernet port, a rill-link lane, a timed tributary or a host packet port (R236). -/
def State.otherClient (s : State) (t : Nat) : Bool :=
  [1, 2, 4].contains (s.get Reg.TN_CLIENT_KIND t) || s.flag Reg.TN_PKT_HOST_PORT t

/-- The shared furrows. -/
def State.sharedList (s : State) : List Nat := maskList (s.get Reg.BR_SHARED_MASK) 32

/-- The leaves with a TYPE 0 grant in group k once a commit has taken effect (R352). -/
def State.dataLeaves (s : State) (k : Nat) : List Nat :=
  s.profiles.filter (fun l => s.get Reg.LF_PROFILE_HOME_FURROW l / 4 == k && s.get Reg.LF_PROFILE_CW_PER_MF l ≠ 0 &&
    !s.flag Reg.LF_STATUS_STANDBY l && (s.leafState l == 3 || s.leafState l == 4))

/-- The rules of this chapter that fail validation (R200, R214, R236, R242, R243, R250, R352). -/
def burstChecks : List Check := [
  { rule := 200, bad := fun _ _ n => n.get Reg.MODE_CTRL_MODE != 1 && (n.get Reg.BR_SHARED_MASK != 0 || n.get Reg.SURVEY_MASK_MASK != 0),
    reads := opIn [0x0507, 0x0120] },
  { rule := 200, bad := fun _ _ n => !n.sharedList.isEmpty && decide (17500 * n.nFur < n.get Reg.RX_CFG_RATE_MBD), reads := opIn [0x0507, 0x0301] },
  { rule := 200, bad := fun _ _ n => (maskList (n.get Reg.SURVEY_MASK_MASK) 32).any (fun f => !n.sharedList.contains f), reads := opIn [0x0507] },
  { rule := 200, bad := fun _ _ n => (List.range 8).any (fun k => decide (1 < ((List.range 4).filter (fun i => n.surveyFurrow (4 * k + i))).length)),
    reads := opIn [0x0507] },
  { rule := 200, bad := fun _ _ n => (List.range 32).any (fun f => n.dataFurrow f && (n.groupSurvey (f / 4)).isNone), reads := opIn [0x0507] },
  { rule := 200, bad := fun _ _ n => n.get Reg.RX_CFG_RATE_MBD != 0 &&
      decide (n.get Reg.BR_CFG_GUARD_NS * n.get Reg.RX_CFG_RATE_MBD < 2000 * n.get Reg.BR_CFG_ARRIVE_TOL * n.nFur),
    reads := opIn [0x0507, 0x0301] },
  { rule := 242, bad := fun _ _ n => decide (n.get Reg.BR_TIMING_EQD_TOTAL_US < n.get Reg.BR_TIMING_RTD_MIN_US), reads := opIn [0x0507] },
  { rule := 243, bad := fun _ _ n => decide (n.get Reg.LEAF_CFG_EVICT_MISSES ≤ n.get Reg.LEAF_CFG_SILENT_MISSES), reads := opIn [0x0507] },
  { rule := 214
    bad := fun _ _ n => (List.range 32).any (fun f => n.dataFurrow f &&
      decide (n.mfSymbols < ((n.profiles.filter (fun l => n.get Reg.LF_PROFILE_HOME_FURROW l == f)).map (fun l =>
        240 + n.get Reg.LF_PROFILE_CW_PER_MF l * cwSymbols (n.get Reg.LF_PROFILE_BURST_MOD l) + n.hubGuard)).sum))
    reads := opIn [0x0502, 0x0507, 0x0301] },
  { rule := 214
    bad := fun _ _ n => n.profiles.any (fun l => n.get Reg.LF_PROFILE_CW_PER_MF l == 0 && n.get Reg.LF_PROFILE_DEDICATED l == 0)
    reads := opIn [0x0502] },
  { rule := 236
    bad := fun _ _ n => !nodup (n.profiles.map (fun l => n.get Reg.LF_PROFILE_TURNOUT l))
    reads := opIn [0x0502] },
  { rule := 236
    bad := fun _ _ n => n.profiles.any (fun l => n.otherClient (n.get Reg.LF_PROFILE_TURNOUT l))
    reads := opIn [0x0502, 0x0601, 0x0610] },
  { rule := 250
    bad := fun _ _ n => !nodup (((List.range 1024).map n.leafSerial).filter (· ≠ 0))
    reads := opIn [0x0501] },
  { rule := 250
    bad := fun cs o _ => cs.any (fun c => c.op == 0x0504 && o.leafState (u16 c.payload 0) != 6)
    reads := opIn [0x0504] },
  { rule := 250
    bad := fun cs o _ => cs.any (fun c => c.op == 0x0502 && (o.leafState (u16 c.payload 0) == 6 || o.flag Reg.LF_STATUS_BLOCKED (u16 c.payload 0)))
    reads := opIn [0x0502] },
  { rule := 250
    bad := fun cs _ n => cs.any (fun c => c.op == 0x0502 && !n.dataFurrow (u8 c.payload 3))
    reads := opIn [0x0502, 0x0507] },
  { rule := 250, bad := fun cs _ n => cs.any (opIn [0x0509]) && n.get Reg.MODE_CTRL_MODE != 2, reads := opIn [0x0509, 0x0120] },
  { rule := 352
    bad := fun _ _ n => n.get Reg.MODE_CTRL_MODE == 1 && (List.range 8).any (fun k => (n.groupSurvey k).isSome &&
      decide (n.gmax k < (n.dataLeaves k).length + 1 + 2))
    reads := opIn [0x0502, 0x0507, 0x0405, 0x0301, 0x0120] }]

/-! ### Commands -/

/-- The leaf a request names. -/
def leafObj (p : List Byte) : List Obj := [(.leaf, u16 p 0)]

/-- LEAF_PROVISION, staged (R250, R251). -/
def execLeafProvision (mb : Fin 8) (s : State) : Out :=
  stage mb.val 0x0501 leafObj s
    (refuse := fun p s =>
      let l := u16 p 0
      if u64 p 4 = 0 then some { code := cINVALID, index := 5 }
      else if (match s.holder (u64 p 4) with | some k => k != l | none => false) then some (err cINVALID)
      else if u8 p 2 = 0 && s.flag Reg.LF_STATUS_PROFILE_SET l then some (err cINVALID)
      else none)

/-- LEAF_ADMIT, staged (R250, R251). -/
def execLeafAdmit (mb : Fin 8) (s : State) : Out :=
  stage mb.val 0x0502 leafObj s
    (refuse := fun p s =>
      let l := u16 p 0
      let st := s.leafState l
      if st = 6 || s.flag Reg.LF_STATUS_BLOCKED l then some (err cINVALID)
      else if (List.range 1024).any (fun k => k ≠ l && s.flag Reg.LF_STATUS_PROFILE_SET k && s.get Reg.LF_PROFILE_TURNOUT k = u8 p 2) then
        some (err cINVALID)
      else if s.otherClient (u8 p 2) then some (err cINVALID)
      else if !s.dataFurrow (u8 p 3) || (st ≠ 0 && (s.leafInfo l).group ≠ u8 p 3 / 4) then some (err cINVALID)
      else none)

/-- LEAF_EVICT: at once (R234, R250). -/
def execLeafEvict (mb : Fin 8) (s : State) : Out :=
  actOn mb.val 0x0503 s (fun p s =>
    let l := u16 p 0
    if s.leafState l = 0 || s.leafState l = 6 then (s, err cDENIED) else (s.evict l 7 (bitsOf (u8 p 2) 0 1 == 1), ok))

/-- LEAF_RELEASE, staged (R250, R251). -/
def execLeafRelease (mb : Fin 8) (s : State) : Out := stage mb.val 0x0504 leafObj s

/-- LEAF_STATUS_GET (R250): the 16 words of the entry. -/
def execLeafStatusGet (mb : Fin 8) (s : State) : Out :=
  report mb.val 0x0505 s (fun p s => okD (wordBytes ((List.range 16).map (fun k => s.reg (0x480000 + 0x40 * u16 p 0 + 4 * k)))))

/-- LEAF_SEED_GET (R250). -/
def execLeafSeedGet (mb : Fin 8) (s : State) : Out :=
  report mb.val 0x0506 s (fun p s => let x := s.leafInfo (u16 p 0); okD (x.seed.getD identityTaps ++ bytes 8 x.seedAt))

/-- BURST_CFG_SET, staged (R250, R251). -/
def execBurstCfgSet (mb : Fin 8) (s : State) : Out := stage mb.val 0x0507 (fun _ => [(.burst, 0)]) s

/-- LEAF_LIST_GET (R250). -/
def execLeafListGet (mb : Fin 8) (s : State) : Out :=
  report mb.val 0x0508 s (fun p s =>
    let isIn (l : Nat) : Bool := if u8 p 0 = 0xFF then s.registered l else s.leafState l == u8 p 0
    okD ((List.range 128).map (fun k => BitVec.ofNat 8 (((List.range 8).map (fun i => b2n (isIn (8 * k + i)) * 2 ^ i)).sum))))

/-- LEAF_SELF_SET, staged (R250, R251). -/
def execLeafSelfSet (mb : Fin 8) (s : State) : Out :=
  stage mb.val 0x0509 (fun _ => []) s
    (refuse := fun p _ => if u64 p 4 = 0 then some { code := cINVALID, index := 5 } else none)

/-- LEAF_SELF_STATUS_GET (R250): DENIED outside leaf mode. -/
def execLeafSelfStatusGet (mb : Fin 8) (s : State) : Out :=
  report mb.val 0x050A s (fun _ s =>
    if s.mode ≠ 2 then err cDENIED
    else okD (wordBytes [s.reg 0x14008C, s.reg 0x140094, s.reg 0x140098, s.reg 0x140090]))

/-- The payload rows of R250. -/
def payloadsBurst : List PayloadRow := [
  ⟨0x0501, .fix 16, [.num 0 2 0 1023, .num 2 1 0 1, .zero 3 1, .zero 14 2]⟩,
  ⟨0x0502, .fix 8, [.num 0 2 0 1023, .num 3 1 0 31, .bits 4 8 4 0 9, .bits 4 12 4 0 0, .bits 4 22 2 0 0, .zero 7 1]⟩,
  ⟨0x0503, .fix 4, [.num 0 2 0 1023, .num 2 1 0 1, .zero 3 1]⟩,
  ⟨0x0504, .fix 4, [.num 0 2 0 1023, .num 2 1 0 1, .zero 3 1]⟩,
  ⟨0x0505, .fix 4, [.num 0 2 0 1023, .zero 2 2]⟩,
  ⟨0x0506, .fix 4, [.num 0 2 0 1023, .zero 2 2]⟩,
  ⟨0x0507, .fix 24, [.bits 0 0 8 32 255, .bits 0 8 8 4 64, .bits 0 16 4 3 12, .bits 0 20 4 4 14, .bits 8 0 11 50 2000, .bits 8 16 11 0 2000,
    .bits 12 0 8 2 255, .bits 12 8 4 1 15, .bits 12 16 4 1 15, .bits 12 20 4 1 15, .bits 16 8 9 1 511]⟩,
  ⟨0x0508, .fix 4, [.among 0 1 [0, 1, 2, 3, 4, 5, 6, 0xFF], .zero 1 3]⟩,
  ⟨0x0509, .fix 12, [.num 0 1 0 1, .zero 1 3]⟩,
  ⟨0x050A, .fix 0, []⟩]

end Sys2Proof.Machine
end

