-- ==== Sys2Proof/Machine/Decoder.lean ====
section
/-! DEFINITION. The LDPC decoder of the Terrace code: layered, normalised min-sum with a scale of 3/4 and 7-bit messages, and the screening of
candidate offsets (R311, R316, R317). -/

namespace Sys2Proof.Machine

/-- What the decoder holds of a codeword: by bit its log-likelihood ratio so far, and by block row, block column and check the message last sent to a bit. -/
structure MinSum where
  post : Array Int
  msgs : Array Int
  deriving DecidableEq, Repr

/-- A message of 7 bits: −63 to +63. -/
def sat7 (v : Int) : Int := max (-63) (min 63 v)

/-- The block columns that block row `i` joins, from the first that is sent on, with their shifts (R302). -/
def Terrace.edges (c : Terrace) (sel i : Nat) : List (Nat × Nat) :=
  (List.range 240).filterMap (fun j => (c.entry sel i (16 + j)).map (fun s => (j, s)))

/-- The smallest of some magnitudes; the largest message where there is none. -/
def minMag (l : List Nat) : Nat := l.foldl min 63

/-- Check `a` of block row `i`: to each of its bits goes 3/4, rounded down, of the smallest magnitude among the others, with the product of their signs. Bits
known to be zero are certain and change neither (R316). -/
def Terrace.checkStep (c : Terrace) (known : Nat → Bool) (i : Nat) (es : List (Nat × Nat)) (x : MinSum) (a : Nat) : MinSum :=
  let qs := es.filterMap (fun e =>
    let b := e.1 * c.z + (a + e.2) % c.z
    let m := (240 * i + e.1) * c.z + a
    if known b then none else some (b, m, sat7 (x.post.getD b 0 - x.msgs.getD m 0)))
  let mags := qs.map (fun q => q.2.2.natAbs)
  let least := minMag mags
  let next := minMag (mags.erase least)
  let odd := qs.countP (fun q => decide (q.2.2 < 0)) % 2 == 1
  qs.foldl (fun y q =>
    let mag : Int := Int.ofNat (3 * (if q.2.2.natAbs = least then next else least) / 4)
    let r := if odd != decide (q.2.2 < 0) then -mag else mag
    { post := y.post.setIfInBounds q.1 (q.2.2 + r), msgs := y.msgs.setIfInBounds q.2.1 r }) x

/-- One iteration: all block rows in ascending order. -/
def Terrace.iteration (c : Terrace) (sel : Nat) (known : Nat → Bool) (x : MinSum) : MinSum :=
  (List.range (baseRows sel)).foldl (fun y i =>
    let es := c.edges sel i
    (List.range c.z).foldl (c.checkStep known i es) y) x

/-- The hard decisions, by index. -/
def hardDecisions (known : Nat → Bool) (x : MinSum) : List Bool := x.post.toList.zipIdx.map (fun v => !known v.2 && decide (v.1 < 0))

/-- At most `left` further iterations; unless `fixed`, decoding ends after the first that leaves a zero syndrome. The iterations run and the hard decisions
(R317). -/
def Terrace.iterate (c : Terrace) (sel : Nat) (known : Nat → Bool) (fixed : Bool) : Nat → Nat → MinSum → Nat × List Bool
  | 0, n, x => (n, hardDecisions known x)
  | left + 1, n, x =>
    let y := c.iteration sel known x
    let h := hardDecisions known y
    if !fixed && c.syndromeZero sel h then (n + 1, h) else c.iterate sel known fixed left (n + 1) y

/-- The bits known to be zero: the pad of a codeword of the cycle index given; where none is given, what is pad under every index (R297, R310, R316). -/
def Terrace.pad (c : Terrace) (sel : Nat) (index : Option Nat) (b : Nat) : Bool :=
  match c with
  | .burst => b + 1 == c.kB sel
  | .line =>
    let top := c.kB sel - 3
    let p := match index with
      | some k => padBits sel k
      | none => (List.range (cycleLen sel)).foldl (fun m k => min m (padBits sel k)) 80
    decide (top - p ≤ b) && decide (b < top)

/-- A codeword through the decoder, from its LLRs by index: the iterations run and the hard decisions (R316, R317). -/
def Terrace.decode (c : Terrace) (sel : Nat) (index : Option Nat) (fixed : Bool) (iters : Nat) (llrs : List Int) : Nat × List Bool :=
  c.iterate sel (c.pad sel index) fixed iters 0 { post := llrs.toArray, msgs := Array.replicate (240 * baseRows sel * c.z) 0 }

/-- The checks that hard decisions, by index, leave unsatisfied. -/
def Terrace.unsatisfied (c : Terrace) (sel : Nat) (cw : List Bool) : Nat :=
  let cols := blocks c.z 240 cw
  ((List.range (baseRows sel)).map (fun i => (c.rowSum sel i cols).countP id)).sum

/-- A candidate passes screening: at most 45 % of the checks are unsatisfied by the signs of its LLRs (R311). -/
def screened (sel : Nat) (llrs : List Int) : Bool :=
  decide (100 * Terrace.line.unsatisfied sel ((Terrace.line.byIndex 0 llrs).map (fun v => decide (v < 0))) ≤ 45 * (baseRows sel * Terrace.line.z))

end Sys2Proof.Machine
end

