-- ==== Sys2Proof/Machine/Fec.lean ====
section
/-! DEFINITION. Line error correction as the host observes it (R311–R338), and what a loss of codewords does to the deframer (R357–R359). -/

namespace Sys2Proof.Machine

/-! ### The deframer's state that the decoder drives -/

/-- The deframer of a furrow goes to HUNT with OOF set (R357). -/
def State.outOfFrame (s : State) (f : Nat) : State :=
  let was := s.flag Reg.FRM_FR_STATUS_OOF f
  let s1 := ((s.set Reg.FRM_FR_STATUS_SYNC 0 f).set Reg.FRM_FR_STATUS_CANDS 0 f).setFrmFur f
    { s.frmFur f with cands := [], failRun := 0, uncertain := 0, oofSince := if was then (s.frmFur f).oofSince else s.clock }
  let s2 := if was then s1 else ((s1.set Reg.FRM_FR_STATUS_OOF 1 f).bump Cnt.OOF_EVENTS f).set Reg.FRM_FR_EVENTS_OOF 1 f
  s2.leafLockChange.refreshLineLock

/-! ### Codeword lock (R311–R314) -/

/-- A bit of one of the masks of R332. -/
def State.setMaskBit (s : State) (m : Field) (f v : Nat) : State := s.set m (putBits (s.get m) f 1 v)

/-- CW_LOCK record (R312, R314). -/
def State.logCw (s : State) (f reason : Nat) : State := s.log wbFec 0x30 [BitVec.ofNat 8 f, BitVec.ofNat 8 reason]

/-- CW_LOCK is lost for a reason of R314; the hunt restarts as soon as the furrow is in CAR_LOCK. -/
def State.cwLoss (s : State) (f reason : Nat) : State :=
  let s1 := if s.flag Reg.FEC_FR_STATUS_CW_LOCK f then
      ((((s.set Reg.FEC_FR_STATUS_CW_LOCK 0 f).setMaskBit Reg.CW_LOCK_MASK_MASK f 0).bump Cnt.CW_LOCK_LOSSES f).set
        Reg.FEC_FR_EVENTS_CW_LOCK_LOST 1 f).logCw f reason
    else s
  let s2 := s1.setFecFur f { s1.fecFur f with broken := true, badRun := 0 }
  let s3 := if s2.flag Reg.FR_STATUS_CAR_LOCK f then s2.startHunt f else s2.set Reg.FEC_FR_STATUS_HUNT 0 f
  s3.outOfFrame f

/-- CW_LOCK is gained (R312). -/
def State.cwGain (s : State) (f cycle : Nat) : State :=
  let s1 := (((s.set Reg.FEC_FR_STATUS_CW_LOCK 1 f).set Reg.FEC_FR_STATUS_HUNT 0 f).setMaskBit Reg.CW_LOCK_MASK_MASK f 1).set
    Reg.FEC_FR_EVENTS_CW_LOCK_GAINED 1 f
  ((s1.set Reg.FEC_FR_STATUS_CYCLE cycle f).setFecFur f
    { s1.fecFur f with batch := [], confirm := none, badRun := 0, restart := false }).logCw f 1

/-! ### The end of decoding (R316–R319) -/

/-- A codeword at the end of the decoder: iterations run, whether the LDPC syndrome is zero, the bits the BCH decoder corrected, whether the codeword is
uncorrectable, the bits corrected in all, the bits of the outer code as delivered. -/
structure Judged where
  iters : Nat
  syndromeZero : Bool
  fixes : Nat
  uncorrectable : Bool
  bitsCorr : Nat
  outer : List Bool
  deriving DecidableEq, Repr

/-- What the end of the decoder makes of hard decisions: `input` are those that went in, `hard` those of the LDPC decoder (R318, R319). -/
def judge (c : Terrace) (sel iters : Nat) (input hard : List Bool) : Judged :=
  let outer := hard.take (c.kL sel)
  let zero := c.syndromeZero sel hard
  match c.bchDecode sel outer with
  | some fixed => ⟨iters, zero, fixed.2, false, diffBits hard input + fixed.2, fixed.1⟩
  | none => ⟨iters, zero, 0, true, 0, outer⟩

/-- The decoding of a codeword from its LLRs in the order sent, with the pad of the cycle index given: exactly `limit` iterations in fixed-latency mode, at most
as many otherwise (R316–R318). -/
def State.decodeLlrs (s : State) (c : Terrace) (sel : Nat) (index : Option Nat) (limit : Nat) (llrs : List Int) : Judged :=
  let l := c.byIndex 0 llrs
  let d := c.decode sel index (s.flag Reg.FIXLAT_CTRL_EN) limit l
  judge c sel d.1 (l.map hardBit) d.2

/-- The cycle index that the next continuous codeword of a furrow should carry (R308, R315); in a hunt the one after that of the first clean codeword. -/
def State.expectedIndex (s : State) (f : Nat) : Option Nat :=
  let x := s.fecFur f
  let c := cycleLen (s.get Reg.FEC_FR_STATUS_RATE_NOW f)
  if s.flag Reg.FEC_FR_STATUS_CW_LOCK f then some (if x.restart then 0 else (s.get Reg.FEC_FR_STATUS_CYCLE f + 1) % c)
  else x.confirm.map (fun k => (k + 1) % c)

/-- What the decoder makes of a codeword of a furrow's continuous stream, or of a frame of another specification (R318, R319, R327). -/
def State.decodeCw (s : State) (f : Nat) (r : CwResult) : Judged :=
  match r with
  | .interop residual corrected => ⟨0, true, 0, residual, corrected, []⟩
  | .terrace raw =>
    s.decodeLlrs .line (s.get Reg.FEC_FR_STATUS_RATE_NOW f) (s.expectedIndex f) (s.get Reg.FEC_CTRL_ITER) (raw.map (fun e => s.demapped f e.1 e.2))

/-- The payload bits of a burst codeword, descrambled (R310). -/
def burstPayload (sel : Nat) (outer : List Bool) : List Bool := (scramble scramblerStart (outer.take (8 * burstBytes sel))).1

/-- HUNT_SCREEN: in a codeword period of a hunt the next 16 candidate offsets are screened, in the coded stream from the first of them on (R311). -/
def execHuntScreen (furrow : Fin 32) (llrs : List (Int × Bool)) (s : State) : Out :=
  let f := furrow.val
  let x := s.fecFur f
  if !s.flag Reg.FEC_FR_STATUS_HUNT f || !x.batch.isEmpty then .next s
  else
    let l := llrs.map (fun e => s.demapped f e.1 e.2)
    let hit := (List.range 16).filter (fun k => screened (s.get Reg.FEC_FR_STATUS_RATE_NOW f) ((l.drop (4 * k)).take 30720))
    done s (s.setFecFur f { x with batch := hit.map (fun k => x.next + 4 * k), next := (x.next + 64) % 30720, confirm := none })

/-- A codeword at the candidate offset under confirmation has been decoded (R312). -/
def State.confirmCw (s : State) (f : Nat) (r : Judged) : State :=
  let x := s.fecFur f
  let cycle := carriedIndex (s.get Reg.FEC_FR_STATUS_RATE_NOW f) r.outer
  if x.batch.isEmpty then s
  else
    let c := cycleLen (s.get Reg.FEC_FR_STATUS_RATE_NOW f)
    let reject := s.setFecFur f { x with batch := x.batch.drop 1, confirm := none }
    if !r.syndromeZero || r.uncorrectable then reject
    else match x.confirm with
      | none => s.setFecFur f { x with confirm := some cycle }
      | some k => if cycle = (k + 1) % c then s.cwGain f cycle else reject

/-- A continuous codeword decoded while CW_LOCK is 1 (R315, R317, R319); with LINE_FEC not 0 a FEC frame of that specification (R327). -/
def State.countCw (s : State) (f : Nat) (r : Judged) : State :=
  let x := s.fecFur f
  let terrace := s.get Reg.FEC_CTRL_LINE_FEC == 0
  let s1 := s.bump Cnt.CW_TOTAL f
  let s2 := if terrace then s1.bump Cnt.ITER_SUM f 0 r.iters else s1
  let s3 := if terrace && !r.syndromeZero then s2.bump Cnt.LDPC_FAILS f else s2
  let s4 := if terrace && 0 < r.fixes && !r.uncorrectable then s3.bump Cnt.BCH_FIXES f else s3
  let s5 := if r.uncorrectable then (s4.bump Cnt.CW_UNCORR f).set Reg.FEC_FR_EVENTS_UNCORR 1 f else s4.bump Cnt.BITS_CORR f 0 r.bitsCorr
  let sel := s.get Reg.FEC_FR_STATUS_RATE_NOW f
  let c := cycleLen sel
  let cycle := carriedIndex sel r.outer
  let expected := (s.expectedIndex f).getD 0
  let carried := if r.uncorrectable then expected else if cycle < c then cycle else expected
  let s6 := if terrace && !r.uncorrectable && cycle ≠ expected then s5.bump Cnt.CYCLE_ERRS f else s5
  let s7 := if terrace then s6.set Reg.FEC_FR_STATUS_CYCLE carried f else s6
  let run := if r.uncorrectable then x.badRun + 1 else 0
  let s8 := s7.setFecFur f { x with
    restart := false, badRun := run, mfBad := x.mfBad + b2n r.uncorrectable, perCw := x.perCw + 1
    perBits := x.perBits + (if r.uncorrectable then 0 else r.bitsCorr), perBad := x.perBad || r.uncorrectable
    out := (if terrace then deliveredBits sel carried r.outer else []), outMarked := r.uncorrectable }
  if terrace && 8 ≤ run then s8.cwLoss f 2 else s8

/-- A burst codeword (R319, R224). -/
def State.countBurstCw (s : State) (f sel : Nat) (r : Judged) : State :=
  let s1 := (s.bump Cnt.BCW_TOTAL).bump Cnt.BITER_SUM 0 0 r.iters
  let s2 := if 0 < r.fixes && !r.uncorrectable then s1.bump Cnt.BBCH_FIXES else s1
  let s3 := if r.uncorrectable then s2.bump Cnt.BCW_UNCORR else s2.bump Cnt.BBITS_CORR 0 0 r.bitsCorr
  (s3.setFecFur f { s3.fecFur f with out := burstPayload sel r.outer, outMarked := r.uncorrectable }).burstCodeword f r.uncorrectable

/-- The burst whose codewords a furrow's decoder takes: the oldest with codewords still to be decoded. -/
def BurstPath.decoding (x : BurstPath) : Option Accepted :=
  match x.tails with
  | t :: _ => some t.acc
  | [] => x.acc.filter (fun a => decide (0 < a.left))

/-- The code rate of that burst: that of its leaf's profile (R247). -/
def State.burstSel (s : State) (f : Nat) : Nat :=
  match (s.path f).decoding with
  | some a => s.get Reg.LF_PROFILE_RATE_SEL a.leaf
  | none => 0

/-- The burst receiver of a furrow waits for a codeword. -/
def State.burstWaits (s : State) (f : Nat) : Bool := (s.path f).decoding.isSome

/-- What the decoder makes of a codeword of that burst (R310, R317–R319). -/
def State.decodeBurst (s : State) (f : Nat) (raw : List (Int × Bool)) : Judged :=
  s.decodeLlrs .burst (s.burstSel f) none (s.get Reg.FEC_CTRL_BURST_ITER) (raw.map (fun e => limitLlr e.1 e.2))

/-- CODEWORD_DECODED: the decoder finishes a codeword of a furrow's continuous stream, of a candidate under confirmation, or of a burst (R312,
R315–R319, R327). -/
def execCodewordDecoded (furrow : Fin 32) (burst : Bool) (r : CwResult) (s : State) : Out :=
  let f := furrow.val
  let terrace := s.get Reg.FEC_CTRL_LINE_FEC == 0
  match r with
  | .interop _ _ =>
    if burst || terrace || s.dspFail f || !s.flag Reg.FR_RX_CTRL_EN f then .next s
    else if s.flag Reg.FEC_FR_STATUS_CW_LOCK f then done s (s.countCw f (s.decodeCw f r))
    else done s (((s.cwGain f 0).frameLocked f).countCw f (s.decodeCw f r))
  | .terrace raw =>
    if burst then (if s.burstWaits f then done s (s.countBurstCw f (s.burstSel f) (s.decodeBurst f raw)) else .next s)
    else if !terrace || s.dspFail f || !s.flag Reg.FR_RX_CTRL_EN f then .next s
    else if s.flag Reg.FEC_FR_STATUS_CW_LOCK f then done s (s.countCw f (s.decodeCw f r))
    else if s.flag Reg.FEC_FR_STATUS_HUNT f then done s (s.confirmCw f (s.decodeCw f r))
    else .next s

/-! ### Defects (R323–R325) -/

/-- FEC_DEFECT record: furrow, defect (1 FAIL, 2 DEG), direction. -/
def State.logDefect (s : State) (f defect dir : Nat) : State :=
  s.log wbFec 0x31 [BitVec.ofNat 8 f, BitVec.ofNat 8 defect, BitVec.ofNat 8 dir]

def State.setFail (s : State) (f : Nat) (on : Bool) : State :=
  let s1 := ((s.set Reg.FEC_FR_STATUS_FEC_FAIL (b2n on) f).setMaskBit Reg.FAIL_MASK_MASK f (b2n on)).logDefect f 1 (b2n on)
  (if on then (s1.bump Cnt.FEC_FAIL_EVENTS f).set Reg.FEC_FR_EVENTS_FEC_FAIL 1 f else s1).refreshDefects f

def State.setDeg (s : State) (f : Nat) (on : Bool) : State :=
  let s1 := ((s.set Reg.FEC_FR_STATUS_FEC_DEG (b2n on) f).setMaskBit Reg.DEG_MASK_MASK f (b2n on)).logDefect f 2 (b2n on)
  (if on then s1.set Reg.FEC_FR_EVENTS_FEC_DEG 1 f else s1).refreshDefects f

/-- The end of a multiframe: FEC_FAIL (R323). -/
def State.fecMultiframe (s : State) (f : Nat) : State :=
  let x := s.fecFur f
  let noLock := x.broken || !s.flag Reg.FEC_FR_STATUS_CW_LOCK f
  let fail := s.get Reg.FEC_DEF_CFG_FAIL_THR ≤ x.mfBad || (noLock && s.flag Reg.FR_RX_CTRL_EN f)
  let clean := if !noLock && x.mfBad = 0 then x.clean + 1 else 0
  let s1 := s.setFecFur f { x with mfBad := 0, broken := !s.flag Reg.FEC_FR_STATUS_CW_LOCK f, clean := clean }
  let on := s.flag Reg.FEC_FR_STATUS_FEC_FAIL f
  if fail && !on then s1.setFail f true
  else if on && s.get Reg.FEC_DEF_CFG_FAIL_CLR_MF ≤ clean then s1.setFail f false
  else s1

/-- The pre-FEC BER of the update period that ends, in 2⁻³² rounded; none for the invalid code (R171). -/
def State.periodBer (s : State) (f : Nat) : Option Nat :=
  let x := s.fecFur f
  if x.perBad || x.perCw = 0 then none
  else some ((2 * x.perBits * 2 ^ 32 + 30720 * x.perCw) / (2 * 30720 * x.perCw))

/-- The end of an update period: FEC_DEG (R324). -/
def State.fecPeriod (s : State) (f : Nat) : State :=
  let x := s.fecFur f
  let above := match s.periodBer f with
    | some b => decide (s.get Reg.FEC_DEG_THR_THR < b)
    | none => true
  let up := if above then x.degUp + 1 else 0
  let down := if above then 0 else x.degDown + 1
  let s1 := s.setFecFur f { x with degUp := up, degDown := down, perCw := 0, perBits := 0, perBad := false }
  let on := s.flag Reg.FEC_FR_STATUS_FEC_DEG f
  if !on && above && s.get Reg.FEC_DEF_CFG_DEG_SET ≤ up then s1.setDeg f true
  else if on && !above && s.get Reg.FEC_DEF_CFG_DEG_CLR ≤ down then s1.setDeg f false
  else s1

/-! ### Staged settings -/

def applyFec (c : Staged) (s : State) : State :=
  let p := c.payload
  if c.op = 0x0320 then
    let s1 := ((s.set Reg.FEC_CTRL_ITER (u8 p 0)).set Reg.FEC_CTRL_BURST_ITER (u8 p 1)).set Reg.FEC_CTRL_LINE_FEC (u8 p 2)
    let s2 := (s1.set Reg.FEC_DEF_CFG_FAIL_THR (u8 p 3)).set Reg.FEC_DEF_CFG_FAIL_CLR_MF (u8 p 4)
    ((s2.set Reg.FEC_DEF_CFG_DEG_SET (u8 p 5)).set Reg.FEC_DEF_CFG_DEG_CLR (u8 p 6)).set Reg.FEC_DEG_THR_THR (u32 p 8)
  else s

/-- The continuous codewords of a furrow in the decoder are discarded: how many is a free value. Each counts as uncorrectable and takes the expected index
(R314, R315, R320). -/
def State.flushFurrow (s : State) (f : Nat) : State :=
  if !s.flag Reg.FEC_FR_STATUS_CW_LOCK f then s
  else
    let r := s.free 320
    if r.1 = 0 then r.2
    else
      let x := r.2.fecFur f
      let c := cycleLen (s.get Reg.FEC_FR_STATUS_RATE_NOW f)
      let cycle := ((s.expectedIndex f).getD 0 + r.1 - 1) % c
      let s1 := (((r.2.bump Cnt.CW_UNCORR f 0 r.1).set Reg.FEC_FR_EVENTS_UNCORR 1 f).set Reg.FEC_FR_STATUS_CYCLE cycle f).setFecFur f
        { x with restart := false, mfBad := x.mfBad + r.1, perBad := true, badRun := x.badRun + r.1, outMarked := true }
      if 8 ≤ x.badRun + r.1 then s1.cwLoss f 2 else s1

/-- The codewords of a furrow's burst in the decoder are discarded: how many of those still due is a free value (R224, R320). -/
def State.flushBurst (s : State) (f : Nat) : State :=
  match (s.path f).decoding with
  | none => s
  | some a =>
    let r := s.free 320
    (List.range (r.1 % (a.left + 1))).foldl (fun (s : State) _ => (s.bump Cnt.BCW_UNCORR).burstCodeword f true) r.2

/-- FIXLAT_FLUSH: in fixed-latency mode a commit that changes ITER, BURST_ITER or CD_TIER discards every codeword in the decoder, marked uncorrectable and
counted (R320). -/
def State.fixlatFlush (old s : State) : State :=
  let ch (g : Field) : Bool := old.get g ≠ s.get g
  if !(old.flag Reg.FIXLAT_CTRL_EN && s.flag Reg.FIXLAT_CTRL_EN) || !(ch Reg.FEC_CTRL_ITER || ch Reg.FIXLAT_CTRL_CD_TIER || ch Reg.FEC_CTRL_BURST_ITER) then s
  else (List.range 32).foldl (fun (s : State) (f : Nat) => (s.flushFurrow f).flushBurst f) s

/-- The part of a commit boundary in the decoder, but for the losses of lock of R183. -/
def State.fecBoundary (old s : State) : State :=
  (List.range 32).foldl (fun s f =>
    let r := s.get Reg.FR_RX_CTRL_RATE_SEL f
    if old.get Reg.FR_RX_CTRL_RATE_SEL f ≠ r then
      (s.set Reg.FEC_FR_STATUS_RATE_NOW r f).setFecFur f { s.fecFur f with restart := true }
    else s) (s.fixlatFlush old)

/-- An oFEC or CFEC line: what R326 asks for that registers show. -/
def State.interopBad (n : State) : Bool :=
  n.get Reg.RX_CFG_NFURROW != 0 || n.get Reg.FR_RX_CTRL_ENTROPY 0 != 64 || n.get Reg.TXF_CTRL_ENTROPY 0 != 64 ||
    n.flag Reg.FR_RX_CTRL_ADAPT_EN 0 || n.flag Reg.TXF_CTRL_FOLLOW 0 || n.flag Reg.PROT_CFG_EN

/-- R326: the conditions on the line, and those on its clients. No rule gives
the specifications' symbol rates: they are a constant of Config (log entry 32). -/
def fecChecks : List Check := [
  { rule := 326, bad := fun _ _ n => n.get Reg.FEC_CTRL_LINE_FEC != 0 && n.interopBad,
    reads := opIn [0x0320, 0x0301, 0x0401, 0x0405, 0x0332] },
  { rule := 326, bad := fun _ _ n => n.get Reg.FEC_CTRL_LINE_FEC != 0 && n.get Reg.RX_CFG_RATE_MBD != Config.interopRate (n.get Reg.FEC_CTRL_LINE_FEC),
    reads := opIn [0x0320, 0x0301] }]

/-! ### Commands -/

/-- FEC_CFG_SET, staged (R337, R338). -/
def execFecCfgSet (mb : Fin 8) (s : State) : Out := stage mb.val 0x0320 (fun _ => [(.fec, 0)]) s

/-- FEC_STATUS_GET (R337). -/
def execFecStatusGet (mb : Fin 8) (s : State) : Out :=
  report mb.val 0x0321 s (fun p s => let a := 0x161000 + 0x200 * u8 p 0
    okD (wordBytes (s.readWord a :: (List.range 11).map (fun k => s.readWord (a + 0x20 + 4 * k)))))

/-- FEC_HUNT: at once (R314, R328). -/
def execFecHunt (mb : Fin 8) (s : State) : Out :=
  actOn mb.val 0x0322 s (fun p s =>
    let f := u8 p 0
    if s.flag Reg.FEC_FR_STATUS_HUNT f then (s, err cBUSY)
    else if !s.flag Reg.FR_STATUS_CAR_LOCK f || s.get Reg.FEC_CTRL_LINE_FEC ≠ 0 then (s, err cDENIED)
    else (s.cwLoss f 4, ok))

/-- FEC_BURST_STATUS_GET (R337). -/
def execFecBurstStatusGet (mb : Fin 8) (s : State) : Out :=
  report mb.val 0x0323 s (fun _ s => okD (wordBytes ((List.range 8).map (fun k => s.reg (0x160020 + 4 * k)))))

/-- The payload rows of R337. -/
def payloadsFec : List PayloadRow := [
  ⟨0x0320, .fix 12, [.num 0 1 1 12, .num 1 1 1 12, .num 2 1 0 2, .num 3 1 1 255, .num 4 1 1 15, .num 5 1 1 15, .num 6 1 1 15, .zero 7 1]⟩,
  ⟨0x0321, .fix 4, [.num 0 1 0 31, .zero 1 3]⟩,
  ⟨0x0322, .fix 4, [.num 0 1 0 31, .zero 1 3]⟩,
  ⟨0x0323, .fix 0, []⟩]

end Sys2Proof.Machine
end

