-- ==== Sys2Proof/Machine/Framer.lean ====
section
/-! DEFINITION. Flume framing, alignment and protection (R339–R384). -/

namespace Sys2Proof.Machine

/-! ### Frame lengths (R342) -/

/-- floor(A) of a furrow at entropy `h` (1/16) and rate `sel`. -/
def State.frameA (s : State) (h sel : Nat) : Nat :=
  let sm := s.mfSymbols
  8 * ((sm - (sm + 35) / 36) / 64) * h * codeRate sel / 25000

/-- floor(A) − 1 of a received furrow. -/
def State.frameLen (s : State) (f : Nat) : Nat := s.frameA (s.get Reg.FR_STATUS_H_NOW f) (s.get Reg.FR_RX_CTRL_RATE_SEL f) - 1

/-- FRM_FR_LEN follows the configuration in force. -/
def State.refreshLen (s : State) (f : Nat) : State :=
  s.set Reg.FRM_FR_LEN_LEN (if s.flag Reg.FR_RX_CTRL_EN f then s.frameLen f else 0) f

/-! ### Frame alignment words (R340, R355) -/

/-- Ones of a number, over its low `n` bits. -/
def ones : Nat → Nat → Nat
  | 0, _ => 0
  | n + 1, v => v % 2 + ones n (v / 2)

/-- PATTERN_OK: at most 3 of the 48 bits differ. -/
def patternOk (faw : Nat) : Bool := decide (ones 48 (faw / 2 ^ 16 ^^^ 0xF628A13D5B0C) ≤ 3)

def fawFn (faw : Nat) : Nat := bitsOf faw 11 5
def fawJ (faw : Nat) : Nat := bitsOf faw 9 2

/-- LABEL_OK. -/
def labelOk (faw : Nat) : Bool :=
  bitsOf faw 8 8 + bitsOf faw 0 8 == 255 && bitsOf faw 8 1 == 0 && decide (fawFn faw ≤ 24) && decide (fawJ faw ≤ 2)

/-- One bit position of the hunt: the candidates after it, and the false candidates and overflows counted (R355). A FAW that verifies a candidate
starts no other (log entry 33). -/
def huntAt (len p faw : Nat) (acc : List Cand × Nat × Nat) : List Cand × Nat × Nat :=
  let hit := patternOk faw && labelOk faw
  let fn := fawFn faw
  let next := p + len + fawJ faw
  let verified := acc.1.any (fun c => c.next == p && hit && fn == (c.fn + 1) % 25)
  let gone := (acc.1.filter (fun c => c.next == p && !(hit && fn == (c.fn + 1) % 25))).length
  let kept := acc.1.filterMap (fun c =>
    if c.next ≠ p then some c
    else if hit && fn == (c.fn + 1) % 25 then some { c with fn := fn, next := next, hits := c.hits + 1, last := p, j := fawJ faw }
    else none)
  if hit && !verified then
    if kept.length < 4 then (kept ++ [{ fn := fn, next := next, hits := 0, last := p, j := fawJ faw }], acc.2.1 + gone, acc.2.2)
    else (kept, acc.2.1 + gone, acc.2.2 + 1)
  else (kept, acc.2.1 + gone, acc.2.2)

/-- A 512-bit word of the hunt; the 63 bits after it are there because a FAW can begin at its last bit. -/
def huntWord (len base bits : Nat) (cs : List Cand) : List Cand × Nat × Nat :=
  (List.range 512).foldl (fun acc k => huntAt len (base + k) (bits / 2 ^ (511 - k) % 2 ^ 64) acc) (cs, 0, 0)

/-- The candidate with 3 hits whose last FAW lies earliest. -/
def winner : List Cand → Option Cand
  | [] => none
  | c :: t =>
    match winner t with
    | some d => if c.hits = 3 && c.last ≤ d.last then some c else some d
    | none => if c.hits = 3 then some c else none

/-- SETTLING ends (R361). -/
def State.endSettling (s : State) : State :=
  { s.set Reg.PROT_STATUS_SETTLING 0 with frm := { s.frm with prot := { s.frm.prot with settle := none } } }

/-- The furrows of R359: enabled, processed, carrying continuous frames, and all in SYNC. -/
def State.allSync (s : State) : Bool := !s.lineFurrows.isEmpty && s.lineFurrows.all s.frameSync

/-- A furrow enters SYNC. -/
def State.enterSync (s : State) (f : Nat) (c : Cand) : State :=
  let s1 := (((s.set Reg.FRM_FR_STATUS_SYNC 1 f).set Reg.FRM_FR_STATUS_OOF 0 f).set Reg.FRM_FR_STATUS_CANDS 0 f).set Reg.FRM_FR_STATUS_FN c.fn f
  let s2 := (s1.set Reg.FRM_FR_STATUS_J c.j f).setFrmFur f
    { s1.frmFur f with cands := [], failRun := 0, uncertain := 0, syncSince := s.clock }
  let s3 := (s2.frameLocked f).leafLockChange
  if s3.allSync && s3.flag Reg.PROT_STATUS_SETTLING then s3.endSettling else s3

/-- FRAME_HUNT_WORD: in HUNT the deframer processes a word of 512 bits; bit 574 comes first (R355). -/
def execFrameHuntWord (furrow : Fin 32) (bits : BitVec 575) (s : State) : Out :=
  let f := furrow.val
  if s.flag Reg.FRM_FR_STATUS_SYNC f || !s.flag Reg.FEC_FR_STATUS_CW_LOCK f || s.dspFail f || s.get Reg.FEC_CTRL_LINE_FEC ≠ 0 then .next s
  else
    let x := s.frmFur f
    let r := huntWord (s.frameLen f) x.pos bits.toNat x.cands
    let s1 := (s.setFrmFur f { x with cands := r.1, pos := x.pos + 512 }).set Reg.FRM_FR_STATUS_CANDS r.1.length f
    let s2 := if r.2.1 = 0 then s1 else s1.bump Cnt.FALSE_CANDS f 0 r.2.1
    let s3 := if r.2.2 = 0 then s2 else s2.bump Cnt.HUNT_OVERFLOWS f 0 r.2.2
    match winner r.1 with
    | some c => done s (s3.enterSync f c)
    | none => done s s3

/-! ### The protection request bytes (R362, R363) -/

def State.prot (s : State) : ProtState := s.frm.prot
def State.setProt (s : State) (p : ProtState) : State := { s with frm := { s.frm with prot := p } }

/-- The furrow whose frames bring the PQ bytes: the lowest of the lowest-numbered group whose furrows are all in SYNC (R362). -/
def State.pqFurrow (s : State) : Option Nat :=
  let fs := s.lineFurrows
  (List.range 8).findSome? (fun k =>
    let g := fs.filter (fun f => f / 4 == k)
    if !g.isEmpty && g.all (fun f => s.flag Reg.FRM_FR_STATUS_SYNC f) then g.head? else none)

/-- The persistence filter, once per frame (R363). -/
def State.pqFrame (s : State) (pq : Option (Byte × Byte)) : State :=
  let p := { s.prot with pqFrames := s.prot.pqFrames + 1 }
  match pq with
  | none => (s.setProt { p with pqRun := 0 }).bump Cnt.PQ_ERRS
  | some (a, b) =>
    let v := (a.toNat, b.toNat)
    let p1 := if p.pqLast = some v then { p with pqRun := p.pqRun + 1 }
      else { p with pqLast := some v, pqRun := 1, pqChanges := p.pqChanges + 1 }
    if p1.pqRun = s.get Reg.PROT_CFG_PERSIST && v ≠ (s.get Reg.PQ_STATUS_RX_PQA, s.get Reg.PQ_STATUS_RX_PQB) then
      ((((s.setProt { p1 with pqAccepted := true }).set Reg.PQ_STATUS_RX_PQA v.1).set Reg.PQ_STATUS_RX_PQB v.2).set
        Reg.PROT_EVENTS_PQ_CHANGE 1).set Reg.PROT_STATUS_PQ_UNSTABLE 0
    else s.setProt p1

/-- A local frame in which no group brings PQ bytes, as no group has all its furrows in SYNC: they are not received (R362, R363). -/
def State.pqLocal (s : State) : State :=
  if s.coherent && s.get Reg.FEC_CTRL_LINE_FEC = 0 && !s.lineFurrows.isEmpty && s.pqFurrow.isNone then s.pqFrame none else s

/-- PQ_UNSTABLE_CHECK: every 200 frames (R363). -/
def execPqUnstableCheck (s : State) : Out :=
  let p := s.prot
  if p.pqFrames < 200 then .next s
  else
    let s1 := s.setProt { p with pqFrames := p.pqFrames - 200, pqChanges := 0, pqAccepted := false }
    if 100 ≤ p.pqChanges && !p.pqAccepted then
      done s (((s1.set Reg.PROT_STATUS_PQ_UNSTABLE 1).set Reg.PROT_EVENTS_PQ_UNSTABLE 1).bump Cnt.PQ_UNSTABLE_EVENTS)
    else done s s1

/-! ### Frames in SYNC (R356, R357, R398) -/

/-- FRAME_RECEIVED: the FAW at the expected position of a furrow in SYNC. `faws` holds the 64 bits at each position from the sum taken with J = 0 on:
one, or 2k + 1 after k frames with J uncertain. `pq` is the pair of PQ bytes of the frame, none where marked or not received. A frame for a furrow that is not
running is discarded and counted (R55). -/
def execFrameReceived (furrow : Fin 32) (faws : List (BitVec 64)) (pq : Option (Byte × Byte)) (s : State) : Out :=
  let f := furrow.val
  if !s.flag Reg.FRM_FR_STATUS_SYNC f then .next s
  else if !s.running 3 f then done s (s.quenchDiscards 3 f 1)
  else
    let x := s.frmFur f
    let expected := (s.get Reg.FRM_FR_STATUS_FN f + 1) % 25
    let seen := (faws.take (2 * x.uncertain + 1)).map BitVec.toNat
    let s0 := if s.pqFurrow = some f then s.pqFrame pq else s
    let s1 := (s0.bump Cnt.FRAMES f).set Reg.FRM_FR_STATUS_FN expected f
    let s2 := if expected = 0 then { s1 with tsi := { s1.tsi with rxOld := putBits s1.tsi.rxOld f 1 0 } } else s1
    match seen.find? patternOk with
    | some w =>
      if labelOk w && fawFn w == expected then
        done s ((s2.setFrmFur f { x with failRun := 0, uncertain := 0 }).set Reg.FRM_FR_STATUS_J (fawJ w) f)
      else done s ((s2.bump Cnt.LABEL_ERRS f).setFrmFur f { x with failRun := 0, uncertain := 1 })
    | none =>
      let s3 := (s2.bump Cnt.FAW_ERRS f).setFrmFur f { x with failRun := x.failRun + 1, uncertain := x.uncertain + 1 }
      done s (if s.get Reg.FRM_CFG_OOF_THR ≤ x.failRun + 1 then s3.outOfFrame f else s3)

/-- LOF_SET: OOF has held for LOF_FRAMES frame periods (R357). -/
def execLofSet (furrow : Fin 32) (s : State) : Out :=
  let f := furrow.val
  if s.flag Reg.FRM_FR_STATUS_OOF f && !s.flag Reg.FRM_FR_STATUS_LOF f &&
      (s.frmFur f).oofSince + usT 5 * s.get Reg.FRM_CFG_LOF_FRAMES ≤ s.clock then
    done s (((s.set Reg.FRM_FR_STATUS_LOF 1 f).set Reg.FRM_FR_EVENTS_LOF_SET 1 f).refreshDefects f)
  else .next s

/-- LOF_CLEAR: SYNC has held for LOF_CLR_FRAMES frame periods (R357). -/
def execLofClear (furrow : Fin 32) (s : State) : Out :=
  let f := furrow.val
  if s.flag Reg.FRM_FR_STATUS_SYNC f && s.flag Reg.FRM_FR_STATUS_LOF f &&
      (s.frmFur f).syncSince + usT 5 * s.get Reg.FRM_CFG_LOF_CLR_FRAMES ≤ s.clock then
    done s (((s.set Reg.FRM_FR_STATUS_LOF 0 f).set Reg.FRM_FR_EVENTS_LOF_CLR 1 f).refreshDefects f)
  else .next s

/-! ### Multiframe streams (R349–R354, R358) -/

def State.groupRx (s : State) (k : Nat) : GroupRx := tget {} s.frm.groups k
def State.setGroupRx (s : State) (k : Nat) (g : GroupRx) : State := { s with frm := { s.frm with groups := tput {} s.frm.groups k g } }

/-- `n` unmarked bytes at `off`, most significant first; none where one is marked or missing. -/
def unmarked (st : List (Option Byte)) (off n : Nat) : Option Nat :=
  let l := (st.drop off).take n
  if l.length = n && l.all Option.isSome then some (be n (l.map (fun o => o.getD 0)) 0) else none

/-- Every furrow of a group. -/
def State.onGroup (s : State) (k : Nat) (g : State → Nat → State) : State := (s.groupFurrows k).foldl g s

/-- MFN_CHECK: the received MFN is accepted, flywheeled or counted (R358). -/
def State.mfnCheck (s : State) (k : Nat) (rx : Option Nat) : State :=
  let g := s.groupRx k
  let lom := s.flag Reg.FRM_FR_STATUS_LOM ((s.groupFurrows k).headD 0)
  if lom then
    match rx, g.last with
    | some n, some m =>
      if n = (m + 1) % 2 ^ 32 then
        (s.setGroupRx k { g with mfn := some n, last := none, badRun := 0 }).onGroup k (fun s f =>
          (s.set Reg.FRM_FR_STATUS_LOM 0 f).set Reg.MFN_RX_MFN n f)
      else s.setGroupRx k { g with last := some n }
    | _, _ => s.setGroupRx k { g with last := rx }
  else
    let fly := ((g.mfn.getD 0) + 1) % 2 ^ 32
    let s1 := s.onGroup k (fun s f => s.set Reg.MFN_RX_MFN fly f)
    match rx with
    | none => s1.setGroupRx k { g with mfn := some fly, badRun := 0 }
    | some n =>
      if n = fly then s1.setGroupRx k { g with mfn := some fly, badRun := 0 }
      else
        let s2 := s1.onGroup k (fun s f => s.bump Cnt.MFN_ERRS f)
        if 3 ≤ g.badRun + 1 then
          (s2.setGroupRx k { g with mfn := none, last := some n, badRun := 0 }).onGroup k (fun s f =>
            (s.set Reg.FRM_FR_STATUS_LOM 1 f).set Reg.FRM_FR_EVENTS_LOM 1 f)
        else s2.setGroupRx k { g with mfn := some fly, badRun := g.badRun + 1 }

/-- BDI_RX of a furrow, from the far end's STATUS bit in 3 unmarked streams in a row (R359). -/
def State.bdiRx (s : State) (f : Nat) (on : Bool) : State :=
  let x := s.frmFur f
  let x1 := if on then { x with bdiRun := x.bdiRun + 1, bdiClear := 0 } else { x with bdiRun := 0, bdiClear := x.bdiClear + 1 }
  let s1 := s.setFrmFur f x1
  if on && 3 ≤ x1.bdiRun && !s.flag Reg.FRM_FR_STATUS_BDI_RX f then (s1.set Reg.FRM_FR_STATUS_BDI_RX 1 f).set Reg.FRM_FR_EVENTS_BDI_RX 1 f
  else if !on && 3 ≤ x1.bdiClear then s1.set Reg.FRM_FR_STATUS_BDI_RX 0 f
  else s1

/-- The MODREQ bytes of a furrow; a confirmation counts while its switch multiframe is still to come (R178, R179, R263, R350). -/
def State.modreqRx (s : State) (f : Nat) (v : Nat) : State :=
  let req := v / 2 ^ 24
  let conf := v / 2 ^ 8 % 2 ^ 8
  let s1 := if 128 ≤ req then s.farRequest f (req % 128) (v / 2 ^ 16 % 2 ^ 8) else s.noRequest f
  match (s1.fur f).pending with
  | some q =>
    if 128 ≤ conf && conf % 128 = q.target && v % 2 ^ 8 = q.switchMfn % 256 && (s.frm.mfn + 2 ^ 32 - q.sentMfn) % 2 ^ 32 < 8 then
      s1.setFur f { s1.fur f with pending := some { q with confirmed := true } }
    else s1
  | none => s1

/-- The grant entries of a stream (R212, R349, R354). -/
def State.grantsRx (s : State) (m n : Nat) (st : List (Option Byte)) : State :=
  (List.range n).foldl (fun s i =>
    match unmarked st (23 + 6 * i) 6 with
    | some v => s.leafGrantRx m (bitsOf v 46 2) (bitsOf v 36 10) (bitsOf v 31 5) (bitsOf v 9 22) (bitsOf v 0 9)
    | none => s) s

/-- A leaf's boundary of multiframe `m` was at the elapsed time `started` (R202). -/
def State.leafBoundaryAt (s : State) (k m started : Nat) : State :=
  if s.mode = 2 && k = s.get Reg.RX_CFG_LEAF_GROUP then { s with self := { s.self with boundary := some (m, started) } } else s

/-- A group's stream as it is received: the bytes of a furrow that has been out of SYNC since the multiframe began are marked (R348, R354). -/
def State.heardStream (s : State) (k started : Nat) (stream : List (Option Byte)) : List (Option Byte) :=
  let fs := (s.groupFurrows k).filter (fun f => s.flag Reg.FR_RX_CTRL_EN f)
  let b := channelBytes s.nFur
  stream.zipIdx.map (fun e =>
    match fs[(e.2 % (fs.length * b - 2) + 2) / b]? with
    | some f => if !s.flag Reg.FRM_FR_STATUS_SYNC f && (s.frmFur f).oofSince ≤ started then none else e.1
    | none => e.1)

/-- MULTIFRAME_STREAM_RX: a group's stream is assembled; a marked byte is none (R349–R354, R358, R359). Its management bytes wait for
MGMT_MESSAGE_RX. -/
def execMultiframeStreamRx (group : Fin 8) (heard : StreamRx) (s : State) : Out :=
  let k := group.val
  let stream := s.heardStream k heard.started heard.bytes
  if !s.coherent || !(s.lineFurrows.any (fun f => f / 4 = k)) then .next s
  else
    let s1 := s.mfnCheck k (unmarked stream 0 4)
    let s2 := match unmarked stream 4 1 with
      | some st => (s.groupFurrows k).zipIdx.foldl (fun (s : State) (e : Nat × Nat) => s.bdiRx e.1 (bitsOf st e.2 1 == 1)) s1
      | none => s1
    let g := s2.groupRx k
    match s2.flag Reg.FRM_FR_STATUS_LOM ((s.groupFurrows k).headD 0), g.mfn with
    | false, some m =>
      let s3 := (s2.groupFurrows k).zipIdx.foldl (fun (s : State) (e : Nat × Nat) =>
        match unmarked stream (5 + 4 * e.2) 4 with
        | some v => s.modreqRx e.1 v
        | none => s) (s2.leafBoundaryAt k m (min heard.started s.clock))
      match unmarked stream 21 2 with
      | some gc =>
        let n := gc % 512
        let s4 := if s.mode = 2 && k = s.get Reg.RX_CFG_LEAF_GROUP then s3.grantsRx m n stream else s3
        done s (s4.setGroupRx k { s4.groupRx k with mgmt := stream.drop (23 + 6 * n), mgmtMfn := m })
      | none => done s (s3.setGroupRx k { s3.groupRx k with mgmt := [] })
    | _, _ => done s (s2.setGroupRx k { g with mgmt := [] })

/-- Payload bytes of a known message type (R353). -/
def mgmtLen (type : Nat) : Option Nat :=
  match type with
  | 1 => some 5
  | 2 => some 15
  | 3 => some 5
  | 4 => some 4
  | 5 => some 10
  | _ => none

/-- MGMT_MESSAGE_RX: the next management message of a group's stream is acted on, skipped or dropped (R353, R354, R380). -/
def execMgmtMessageRx (group : Fin 8) (s : State) : Out :=
  let k := group.val
  let g := s.groupRx k
  let stop := s.setGroupRx k { g with mgmt := [] }
  match g.mgmt with
  | [] => .next s
  | none :: _ => done s stop
  | some t :: rest =>
    if t = 0 then done s stop
    else match rest with
      | some n :: body =>
        let len := n.toNat
        let s1 := s.setGroupRx k { g with mgmt := body.drop len }
        let p := body.take len
        match mgmtLen t.toNat with
        | none => done s s1
        | some want =>
          if want ≠ len || p.length < len || p.any Option.isNone then done s (s1.bump Cnt.MGMT_DROPS)
          else
            let s2 := s1.bump Cnt.MGMT_RX
            done s (if s.mode = 2 then s2.leafMessage g.mgmtMfn t.toNat (p.map (fun o => o.getD 0)) else s2)
      | _ => done s stop

/-! ### Protection (R361–R369) -/

/-- The level of a GPIO pin. -/
def State.pinLevel (s : State) (pin : Nat) : Bool := bitsOf (s.reg 0x12040).toNat pin 1 == 1

/-- SF of a side from its GPIO (R361). -/
def State.gpioSf (s : State) (side : Nat) : Bool :=
  s.pinLevel (if side = 0 then s.get Reg.PROT_CFG_SF_A_GPIO else s.get Reg.PROT_CFG_SF_B_GPIO) != s.flag Reg.PROT_CFG_SF_POL

/-- The line is in SF, and in SD (R360). -/
def State.lineSf (s : State) : Bool := s.flag Reg.RX_STATUS_LINE_LOS || s.lineFurrows.any (fun f => s.flag Reg.FRM_FR_STATUS_SF f)
def State.lineSd (s : State) : Bool := s.lineFurrows.any (fun f => s.flag Reg.FRM_FR_STATUS_SD f)

/-- Defect 0 SF_A, 1 SF_B, 2 SD_A, 3 SD_B (R361). -/
def State.protDefect (s : State) (i : Nat) : Bool :=
  let side := i % 2
  if i < 2 then
    (if side = s.get Reg.PROT_STATUS_SEL && !s.flag Reg.PROT_STATUS_SETTLING then s.lineSf else s.gpioSf side)
  else side == s.get Reg.PROT_STATUS_SEL && s.flag Reg.PROT_CFG_SD_EN && s.lineSd

/-- The status bit of a defect. -/
def defectField (i : Nat) : Field :=
  match i with
  | 0 => Reg.PROT_STATUS_SF_A
  | 1 => Reg.PROT_STATUS_SF_B
  | 2 => Reg.PROT_STATUS_SD_A
  | _ => Reg.PROT_STATUS_SD_B

/-- The code of a defect's request (R364). -/
def defectCode (i : Nat) : Nat :=
  match i with
  | 0 => 0xB
  | 1 => 0xE
  | 2 => 0x9
  | _ => 0x8

def State.holdoff (s : State) (i : Nat) : Option (Nat × Nat) := tget none s.prot.holdoffs i
def State.setHoldoff (s : State) (i : Nat) (h : Option (Nat × Nat)) : State :=
  s.setProt { s.prot with holdoffs := tput none s.prot.holdoffs i h }

/-- A defect arises, clears or stays (R366). -/
def State.defectFrame (s : State) (i : Nat) : State :=
  let on := s.protDefect i
  let was := s.flag (defectField i)
  let s1 := s.set (defectField i) (b2n on)
  if on && !was then
    let t := s.get Reg.PROT_TIMERS_HOLDOFF
    if t = 0 then s1.setProt { s1.prot with raised := putBits s1.prot.raised i 1 1 } else s1.setHoldoff i (some (s.clock, msT (100 * t)))
  else if !on && was then
    let s2 := s1.setProt { s1.prot with raised := putBits s1.prot.raised i 1 0 }
    if (s.holdoff i).isSome then ((s2.setHoldoff i none).bump Cnt.HOLDOFF_CANCELS).set Reg.PROT_EVENTS_HOLDOFF_CANCEL 1 else s2
  else s1

/-- HOLDOFF_EXPIRE: a hold-off ends; the request is raised when the defect is still present (R366). -/
def execHoldoffExpire (defect : Fin 4) (s : State) : Out :=
  let i := defect.val
  match s.holdoff i with
  | some h =>
    if h.1 + h.2 ≤ s.clock then
      let s1 := s.setHoldoff i none
      done s (if s.flag (defectField i) then s1.setProt { s1.prot with raised := putBits s1.prot.raised i 1 1 } else s1)
    else .next s
  | none => .next s

/-- The side that a code selects (R364). -/
def State.sideOf (s : State) (code : Nat) : Nat :=
  if code = 0xD || code = 0xB || code = 0x9 || code = 0x7 || code = 0x5 || code = 0x1 then 1
  else if code = 0 then (if s.flag Reg.PROT_CFG_REVERT then 0 else s.get Reg.PROT_STATUS_SEL)
  else 0

/-- The highest-ranked of the local, remote and host requests: code and source (R365). -/
def State.topRequest (s : State) : Nat × Nat :=
  let locals := ((List.range 4).filter (fun i => bitsOf s.prot.raised i 1 == 1)).map (fun i => (defectCode i, 0))
  let rc := s.get Reg.PQ_STATUS_RX_PQA / 16
  let remote := if s.flag Reg.PROT_CFG_BIDIR && 6 ≤ rc then [(rc, 1)] else []
  let host := if s.prot.host = 0 then [] else [(s.prot.host, 2)]
  (host ++ locals ++ remote).foldl (fun best r => if best.1 < r.1 then r else best) (0, 3)

/-- PROT_EVALUATE: the request in force, the timers, the switch that waits for the boundary, the bytes sent (R365, R367). -/
def State.protEvaluate (s : State) : State :=
  let p := s.prot
  let top := s.topRequest
  let sel := s.get Reg.PROT_STATUS_SEL
  let cancel := p.wtr.isSome && decide (5 < top.1)
  let p1 := if cancel then { p with wtr := none } else p
  let fell := sel = 1 && (p.lastCode = 0xB || p.lastCode = 9) && top.1 < 5
  let p2 := if fell then
      (if s.flag Reg.PROT_CFG_REVERT then
        { p1 with wtr := if s.get Reg.PROT_TIMERS_WTR_S = 0 then none else some s.clock }
      else { p1 with dnr := true })
    else p1
  let r := if 5 < top.1 then top else if p2.wtr.isSome then (5, 3) else if p2.dnr then (1, 3) else (0, 3)
  let side := s.sideOf r.1
  let s1 := s.setProt { p2 with lastCode := r.1, move := if side = sel then none else some (side, r.1, r.2) }
  let s2 := if cancel then s1.bump Cnt.WTR_CANCELS else s1
  let s3 := (s2.set Reg.PROT_STATUS_REQ r.1).set Reg.PROT_STATUS_WTR_RUN (b2n p2.wtr.isSome)
  (s3.set Reg.PQ_STATUS_TX_PQA (r.1 * 16 + side)).set Reg.PQ_STATUS_TX_PQB
    (sel + 2 * s.get Reg.PROT_CFG_BIDIR + 4 * s.get Reg.PROT_CFG_REVERT)

/-- PROT_LEFT and HOLDOFF_RUN (R379, R380): the seconds of WTR left, and the longest hold-off left. -/
def State.protLeft (s : State) : State :=
  let w := match s.prot.wtr with
    | some t => (t + secT (s.get Reg.PROT_TIMERS_WTR_S) - s.clock + secT 1 - 1) / secT 1
    | none => 0
  let h := ((List.range 4).map (fun i => match s.holdoff i with
    | some h => (h.1 + h.2 - s.clock + msT 100 - 1) / msT 100
    | none => 0)).foldl max 0
  let run := (List.range 4).any (fun i => (s.holdoff i).isSome)
  ((s.set Reg.PROT_LEFT_WTR w).set Reg.PROT_LEFT_HOLDOFF h).set Reg.PROT_STATUS_HOLDOFF_RUN (b2n run)

/-- The machine's part of a local frame boundary (R365). -/
def State.protFrame (s : State) : State :=
  if s.flag Reg.PROT_CFG_EN && s.coherent then (((List.range 4).foldl State.defectFrame s).protEvaluate).protLeft else s

/-- WTR_EXPIRE (R367, R372). -/
def State.endWtr (s : State) : State :=
  (((s.setProt { s.prot with wtr := none }).set Reg.PROT_STATUS_WTR_RUN 0).set Reg.PROT_EVENTS_WTR_END 1).set Reg.PROT_LEFT_WTR 0

/-- WTR_EXPIRE: the wait-to-restore timer ends (R367). -/
def execWtrExpire (s : State) : Out :=
  match s.prot.wtr with
  | some t => if t + secT (s.get Reg.PROT_TIMERS_WTR_S) ≤ s.clock then done s s.endWtr else .next s
  | none => .next s

/-- SETTLING_END: 200 ms after a switch (R361). -/
def execSettlingEnd (s : State) : Out :=
  match s.prot.settle with
  | some t => if t + msT 200 ≤ s.clock then done s s.endSettling else .next s
  | none => .next s

/-- The selector moves to a side (R361, R369). -/
def State.protMove (s : State) (side code source : Nat) : State :=
  let s1 := s.logSwitch 0xFFFF (s.get Reg.PROT_STATUS_SEL) side code source
  let s2 := ((s1.set Reg.PROT_STATUS_SEL side).set Reg.PROT_STATUS_SRC source).set Reg.PROT_STATUS_SETTLING 1
  s2.setProt { s2.prot with move := none, settle := some s.clock, dnr := s2.prot.dnr && side == 1 }

/-- The machine's part of a multiframe boundary (R365, R369). -/
def State.protBoundary (s : State) : State :=
  match s.prot.move with
  | some m => if s.flag Reg.PROT_CFG_EN then s.protMove m.1 m.2.1 m.2.2 else s
  | none => s

/-! ### Staged settings -/

def applyFrm (c : Staged) (s : State) : State :=
  let p := c.payload
  if c.op = 0x0330 then (setWord s 0x170000 0x00FFFFFF (u32 p 0)).setReg 0x170004 (BitVec.ofNat 32 (u32 p 4))
  else if c.op = 0x0332 then setWord (setWord s 0x170008 0x001FFFFF (u32 p 0)) 0x17000C 0x0003FF7F (u32 p 4)
  else s

/-- The part of a commit boundary in the framer and the protection machine (R345, R372). -/
def State.frmBoundary (old s : State) : State :=
  let s1 := (List.range 32).foldl State.refreshLen s
  if old.flag Reg.PROT_CFG_EN && !s1.flag Reg.PROT_CFG_EN then
    let t := if s1.get Reg.PROT_STATUS_SEL = 1 then s1.protMove 0 0 4 else s1
    let p := t.prot
    let u := t.setProt { p with host := 0, holdoffs := [], raised := 0, wtr := none, dnr := false, move := none, lastCode := 0 }
    let v := ((((u.set Reg.PROT_STATUS_REQ 0).set Reg.PROT_STATUS_SRC 4).set Reg.PROT_STATUS_WTR_RUN 0).set Reg.PQ_STATUS_TX_PQA 0).set
      Reg.PQ_STATUS_TX_PQB 0
    ((List.range 4).foldl (fun s i => s.set (defectField i) 0) v).protLeft
  else
    match s1.prot.wtr with
    | some t => if t + secT (s1.get Reg.PROT_TIMERS_WTR_S) ≤ s1.clock then s1.endWtr else s1
    | none => s1

/-- The rules of this chapter that fail validation (R370, R377). -/
def frmChecks : List Check := [
  { rule := 370, bad := fun _ _ n => n.flag Reg.PROT_CFG_BIDIR && n.get Reg.MODE_CTRL_MODE == 2, reads := opIn [0x0332, 0x0120] },
  { rule := 377, bad := fun _ _ n => n.flag Reg.PROT_CFG_EN && n.get Reg.MODE_CTRL_MODE == 3, reads := opIn [0x0332, 0x0120] },
  { rule := 377
    bad := fun _ _ n => n.flag Reg.PROT_CFG_EN && (n.get Reg.PROT_CFG_SEL_GPIO == n.get Reg.PROT_CFG_SF_A_GPIO ||
      n.get Reg.PROT_CFG_SEL_GPIO == n.get Reg.PROT_CFG_SF_B_GPIO ||
      (n.flag Reg.TXS_LEAF_CFG_GATE_EN && n.get Reg.PROT_CFG_SEL_GPIO == n.get Reg.TXS_LEAF_CFG_GATE_GPIO))
    reads := opIn [0x0332, 0x0310] }]

/-! ### Commands -/

/-- FRM_CFG_SET, staged (R383, R384). -/
def execFrmCfgSet (mb : Fin 8) (s : State) : Out := stage mb.val 0x0330 (fun _ => [(.framer, 0)]) s

/-- FRM_STATUS_GET (R383). -/
def execFrmStatusGet (mb : Fin 8) (s : State) : Out :=
  report mb.val 0x0331 s (fun p s => let a := 0x171000 + 0x200 * u8 p 0
    okD (wordBytes ([s.reg a, s.reg (a + 0x10), s.reg (a + 0x14)] ++ (List.range 8).map (fun k => s.reg (a + 0x20 + 4 * k)))))

/-- PROT_CFG_SET, staged (R383, R384). -/
def execProtCfgSet (mb : Fin 8) (s : State) : Out := stage mb.val 0x0332 (fun _ => [(.framer, 0)]) s

/-- The code of a host request (R364). -/
def hostCode (req : Nat) : Nat :=
  match req with
  | 1 => 0xF
  | 2 => 0xD
  | 3 => 0x7
  | _ => 0x6

/-- PROT_CMD: a host request for the line (R368) or a dual-homed leaf (R371), at once. -/
def execProtCmd (mb : Fin 8) (s : State) : Out :=
  actOn mb.val 0x0333 s (fun p s =>
    let target := u16 p 0
    let req := u8 p 2
    if target = 0xFFFF then
      if !s.flag Reg.PROT_CFG_EN then (s, err cDENIED)
      else if req = 0 then ((s.setProt { s.prot with host := 0, wtr := none, dnr := false, lastCode := 0 }).protEvaluate, ok)
      else if hostCode req ≤ s.get Reg.PROT_STATUS_REQ then (s, err cDENIED)
      else (s.setProt { s.prot with host := hostCode req }, ok)
    else
      let x := s.leafInfo target
      if s.mode ≠ 1 || !s.flag Reg.LF_PROFILE_DUAL_HOME target then (s, err cDENIED)
      else if req = 0 then (s.setLeafInfo target { x with lockout := false }, ok)
      else if (req = 2 || req = 3) && x.lockout then (s, err cDENIED)
      else (s.setLeafInfo target { x with switch_ := hostCode req, lockout := x.lockout || req == 1 }, ok))

/-- PROT_STATUS_GET (R383). -/
def execProtStatusGet (mb : Fin 8) (s : State) : Out :=
  report mb.val 0x0334 s (fun _ s => let t := s.protLeft; okD (wordBytes [t.reg 0x170010, t.reg 0x170040, t.reg 0x170044, t.reg 0x170020]))

/-- The payload rows of R383. -/
def payloadsFrm : List PayloadRow := [
  ⟨0x0330, .fix 8, [.bits 0 0 4 2 15, .bits 0 4 10 1 1000, .bits 0 14 10 1 1000]⟩,
  ⟨0x0331, .fix 4, [.num 0 1 0 31, .zero 1 3]⟩,
  ⟨0x0332, .fix 8, [.bits 0 18 3 2 7, .bits 4 0 7 0 100, .bits 4 8 10 0 720]⟩,
  ⟨0x0333, .fix 4, [.among 0 2 (List.range 1024 ++ [0xFFFF]), .num 2 1 0 4, .zero 3 1]⟩,
  ⟨0x0334, .fix 0, []⟩]

end Sys2Proof.Machine
end

