-- ==== Sys2Proof/Machine/LineEvents.lean ====
section
/-! DEFINITION. Acquisition of the line, loss of lock and of signal, and what they start (R158–R170, R183). -/

namespace Sys2Proof.Machine

/-! ### Locks -/

/-- A furrow's lock bits are cleared, those of clock recovery and equaliser where asked for: the furrow leaves CAR_LOCK, its codewords for reason `cw` of R314 and its
frames go with it (R357), the figures of R171 read their invalid codes. -/
def State.dropLocks (s : State) (f : Nat) (clk eq : Bool) (cw : Nat) : State :=
  let s1 := if clk then s.set Reg.FR_STATUS_CLK_LOCK 0 f else s
  let s2 := if eq then s1.set Reg.FR_STATUS_EQ_LOCK 0 f else s1
  if !s.flag Reg.FR_STATUS_CAR_LOCK f then s2.refreshRefs
  else
    let s3 := ((s2.set Reg.FR_STATUS_CAR_LOCK 0 f).setFur f { s.fur f with upSince := none }).cwLoss f cw
    ((s3.refreshDefects f).invalidFigures f).refreshRefs

/-- A pending adaptation request is withdrawn by the loss; H_NOW stays (R183). -/
def State.withdrawLost (s : State) (f : Nat) : State :=
  if (s.fur f).pending.isSome then (s.withdraw f).bump Cnt.ADAPT_TIMEOUTS f else s

/-- A furrow leaves CAR_LOCK without a loss of R167: a re-acquisition was asked for (log entry 38). -/
def State.leaveLock (s : State) (f : Nat) (clk eq : Bool) : State := (s.withdrawLost f).dropLocks f clk eq 3

/-! ### The start of an acquisition (R161, R163, R168) -/

/-- A full acquisition of the whole line starts, in point-to-point and leaf modes (R161). -/
def State.startFull (s : State) : State :=
  let s1 := { s with rx := { s.rx with step := 1, stepAt := s.clock, t0 := s.clock, full := true } }
  (s1.lineFurrows.foldl (fun (s : State) (f : Nat) => (s.leaveLock f true true).beginFurrow f 1 false) s1).setAcqState 1

/-- A furrow of a hub starts a full acquisition of its own (R163). -/
def State.startFullFurrow (s : State) (f : Nat) : State := ((s.leaveLock f true true).beginFurrow f 1 false).refreshLineLock

/-- A furrow starts a fast re-acquisition (R168). -/
def State.startFast (s : State) (f : Nat) : State := ((s.leaveLock f false false).beginFurrow f 3 true).bump Cnt.FAST_REACQS

/-- A full acquisition of the line, or of each dedicated furrow of a hub that has a signal and neither lock nor an acquisition; none without a
signal, without furrows, or while a change of mode holds the line (R81, R161, R163, R169). -/
def State.acquire (s : State) : State :=
  if s.flag Reg.RX_STATUS_LINE_LOS || s.lineHeld || !s.coherent || s.lineFurrows.isEmpty then s
  else if s.mode = 1 then
    s.lineFurrows.foldl (fun (s : State) (f : Nat) =>
      if (s.fur f).step = 0 && !s.flag Reg.FR_STATUS_CAR_LOCK f && !s.flag Reg.FR_STATUS_LOS f then s.startFullFurrow f else s) s
  else s.startFull

/-! ### Times (R162, R164, R168) -/

/-- The time that step 3, 4 or 5 has. -/
def stepTime (step : Nat) : Nat := if step = 4 then msT 10 else msT 5

/-- ACQ_STEP_TIMEOUT: a furrow misses its lock bit in time and repeats steps 3 to 5, once (R162). -/
def execAcqStepTimeout (furrow : Fin 32) (s : State) : Out :=
  let f := furrow.val
  let x := s.fur f
  if 3 ≤ x.step && x.step ≤ 5 && !x.repeated && x.stepAt + stepTime x.step ≤ s.clock then
    done s ((s.setFur f { x with step := 3, stepAt := s.clock, repeated := true }).dropLocks f true true 3)
  else .next s

/-- ACQ_FAIL record: furrow or 0xFF, and the step (R164). -/
def State.acqFail (s : State) (f step : Nat) : State :=
  ((s.bump Cnt.ACQ_FAILS).set Reg.RX_EVENTS_ACQ_FAIL 1).log wbRx 0x14 [BitVec.ofNat 8 f, BitVec.ofNat 8 step]

/-- The step that the line's acquisition has reached: past step 2 the furthest that any of its furrows stands at (log entry 39). -/
def State.stepReached (s : State) : Nat :=
  if s.rx.step < 3 then s.rx.step else (s.lineFurrows.map (fun f => (s.fur f).step)).foldl max 3

/-- ACQ_TIMEOUT: a full acquisition has not reached step 7 in time and, with a signal, starts again (R164). -/
def execAcqTimeout (furrow : Option (Fin 32)) (s : State) : Out :=
  let limit := msT (s.get Reg.RX_ACQ_CFG_ACQ_TIMEOUT_MS)
  if s.flag Reg.RX_STATUS_LINE_LOS then .next s
  else match furrow with
    | none =>
      if s.mode ≠ 1 && s.rx.step ≠ 0 && s.rx.full && s.rx.t0 + limit ≤ s.clock then done s (s.acqFail 0xFF s.stepReached).startFull
      else .next s
    | some f =>
      let x := s.fur f.val
      if s.mode = 1 && x.step ≠ 0 && !x.fast && x.t0 + limit ≤ s.clock && !s.flag Reg.FR_STATUS_LOS f.val then
        done s ((s.acqFail f.val x.step).startFullFurrow f.val)
      else .next s

/-- FAST_REACQ_TIMEOUT: no frame lock within 20 ms of the loss; a full acquisition starts, of the whole line outside hub mode (R161, R168, R170; log entry 45). -/
def execFastReacqTimeout (furrow : Fin 32) (s : State) : Out :=
  let f := furrow.val
  let x := s.fur f
  if x.step ≠ 0 && x.fast && x.lossAt + msT 20 ≤ s.clock then
    done s (if s.mode = 1 then s.startFullFurrow f else s.startFull)
  else .next s

/-! ### LINE_LOS (R160, R161, R169) -/

/-- The line enters LINE_LOS: every furrow's DSP-fail is asserted and its frames are lost (R158, R183, R357); an acquisition ends, and outside hub mode ACQ_STATE reads
IDLE until the signal is back (log entry 46). -/
def State.enterLineLos (s : State) : State :=
  let s1 := ((s.set Reg.RX_STATUS_LINE_LOS 1).set Reg.RX_EVENTS_LINE_LOS 1).bump Cnt.LINE_LOS_EVENTS
  let s2 := s1.lineFurrows.foldl (fun (s : State) (f : Nat) =>
    ((((s.setFur f { s.fur f with step := 0 }).set Reg.FR_STATUS_ACQ 0 f).outOfFrame f).refreshDefects f)) s1
  ({ s2 with rx := { s2.rx with step := 0 } }).setAcqState 0

/-- The line leaves LINE_LOS. -/
def State.leaveLineLos (s : State) : State :=
  let s1 := s.set Reg.RX_STATUS_LINE_LOS 0
  (s1.lineFurrows.foldl State.refreshDefects s1).acquire

/-- The part of a local frame boundary in LINE_LOS: the RMS of the corrected samples against LOS_THR, two frames to leave; an ADC that is not in SERVICE holds it
(R160, R161). -/
def State.lineLosFrame (m : FrameMeas) (s : State) : State :=
  let below := (List.range 4).any (fun a => s.get Reg.ADC_STATUS_STATE a ≠ 2 || m.rms.getD a 0 < s.get Reg.RX_ACQ_CFG_LOS_THR)
  if below then
    let s1 := { s with rx := { s.rx with aboveRun := 0 } }
    if s.flag Reg.RX_STATUS_LINE_LOS then s1 else s1.enterLineLos
  else
    let s1 := { s with rx := { s.rx with aboveRun := s.rx.aboveRun + 1 } }
    if s.flag Reg.RX_STATUS_LINE_LOS && 2 ≤ s1.rx.aboveRun then s1.leaveLineLos else s1

/-! ### Losses (R166–R169) -/

/-- LOCK_LOST record: furrow, condition. -/
def State.logLost (s : State) (f cond : Nat) : State := s.log wbFurrow 0x15 [BitVec.ofNat 8 f, BitVec.ofNat 8 cond]

/-- A furrow loses lock for condition 1 clock, 2 equaliser, 3 phase, 4 frequency, 5 LOS: CAR_LOCK goes, CLK_LOCK and EQ_LOCK where their own condition failed; `cw` is the reason of
R314 for its codewords (R167). -/
def State.loseLock (s : State) (f cond cw : Nat) : State :=
  let s1 := ((s.bump Cnt.LOCK_LOSSES f).set Reg.FR_EVENTS_LOCK_LOST 1 f).logLost f cond
  (s1.withdrawLost f).dropLocks f (cond == 1) (cond == 2) cw

/-- After a loss that is not LOS the furrow makes a fast re-acquisition; the whole line does when every processed furrow has lost lock (R168). It runs at the
committed entropy unless the loss withdrew a request (R183; log entry 45). -/
def State.reacquire (s : State) (f : Nat) (pending : Bool) : State :=
  let s0 := s.startFast f
  let s1 := if pending then s0 else s0.applyEntropy f (s.get Reg.FR_RX_CTRL_ENTROPY f)
  if s.mode ≠ 1 && s.rx.step = 0 && s.lineFurrows.all (fun g => !s.flag Reg.FR_STATUS_CAR_LOCK g) && !s.flag Reg.RX_STATUS_LINE_LOS then
    ({ s1 with rx := { s1.rx with step := 3, stepAt := s.clock, t0 := s.clock, full := false } }).setAcqState 5
  else s1.refreshLineLock

/-- LOCK_LOST: a condition of R167 has held for 100 µs on a locked furrow: 1 clock, 2 equaliser, 3 phase, 4 frequency. -/
def execLockLost (furrow : Fin 32) (condition : Fin 5) (s : State) : Out :=
  let f := furrow.val
  if condition.val = 0 || !s.flag Reg.FR_STATUS_CAR_LOCK f then .next s
  else done s ((s.loseLock f condition.val 3).reacquire f (s.fur f).pending.isSome)

/-- FURROW_LOS_SET: a processed, enabled furrow's power has stayed below the level; a locked one loses lock (R166, R167). -/
def execFurrowLosSet (furrow : Fin 32) (s : State) : Out :=
  let f := furrow.val
  if s.flag Reg.FR_STATUS_LOS f || !s.flag Reg.FR_RX_CTRL_EN f || !s.processed.contains f then .next s
  else
    let s1 := (s.set Reg.FR_STATUS_LOS 1 f).set Reg.FR_EVENTS_LOS 1 f
    let s2 := if s.flag Reg.FR_STATUS_CAR_LOCK f then s1.loseLock f 5 3 else s1
    done s (((s2.setFur f { s2.fur f with step := 0 }).set Reg.FR_STATUS_ACQ 0 f).refreshDefects f)

/-- FURROW_LOS_CLEAR: the power has stayed above the level for 20 µs: in hub mode a full acquisition of the furrow, else a fast one unless the line is
in LINE_LOS (R166, R169). -/
def execFurrowLosClear (furrow : Fin 32) (s : State) : Out :=
  let f := furrow.val
  if !s.flag Reg.FR_STATUS_LOS f then .next s
  else
    let s1 := (s.set Reg.FR_STATUS_LOS 0 f).refreshDefects f
    if !s.lineFurrows.contains f || s.flag Reg.RX_STATUS_LINE_LOS || s.lineHeld then done s s1
    else if s.mode = 1 then done s (s1.startFullFurrow f)
    else done s (s1.startFast f)

/-! ### Commits (R183, R328) -/

/-- A furrow that a commit enables on a line with a signal acquires: in hub mode by itself, with the line where that acquires, else by a fast acquisition
(log entry 45). -/
def State.joinLine (s : State) (f : Nat) : State :=
  if s.flag Reg.FR_STATUS_LOS f || s.flag Reg.RX_STATUS_LINE_LOS || s.lineHeld || !s.lineFurrows.contains f || (s.fur f).step ≠ 0 then s
  else if s.mode = 1 then s.startFullFurrow f
  else if s.rx.step = 0 && s.get Reg.RX_STATUS_ACQ_STATE = 0 then s.startFull
  else if s.rx.step = 1 || s.rx.step = 2 then s.beginFurrow f s.rx.step false
  else s.startFast f

/-- A commit that changes RATE_MBD, NFURROW, LEAF_GROUP or LINE_FEC: every processed furrow is treated as having lost lock with LOS, and a full
acquisition follows (R183, R328). Furrows that another commit enables acquire; LINE_LOCK follows (R163). -/
def State.lineRestart (old s : State) : State :=
  let changed := old.get Reg.RX_CFG_RATE_MBD ≠ s.get Reg.RX_CFG_RATE_MBD || old.get Reg.RX_CFG_NFURROW ≠ s.get Reg.RX_CFG_NFURROW ||
    old.get Reg.RX_CFG_LEAF_GROUP ≠ s.get Reg.RX_CFG_LEAF_GROUP || old.get Reg.FEC_CTRL_LINE_FEC ≠ s.get Reg.FEC_CTRL_LINE_FEC
  if changed then
    let s1 := (List.range 32).foldl (fun (s : State) (f : Nat) =>
      if s.flag Reg.FR_STATUS_CAR_LOCK f || s.lineFurrows.contains f then
        ((s.loseLock f 5 5).setFur f { (s.loseLock f 5 5).fur f with step := 0 }).set Reg.FR_STATUS_ACQ 0 f
      else s) s
    (({ s1 with rx := { s1.rx with step := 0 } }).setAcqState 0).acquire
  else
    ((List.range 32).foldl (fun (s : State) (f : Nat) =>
      if s.flag Reg.FR_RX_CTRL_EN f && !old.flag Reg.FR_RX_CTRL_EN f then s.joinLine f else s) s).refreshLineLock

/-! ### Commands -/

/-- LINE_REACQUIRE (R161, R183, R197). -/
def execLineReacquire (mb : Fin 8) (s : State) : Out :=
  actOn mb.val 0x0303 s (fun _ s =>
    if s.mode = 3 then (s, err cDENIED)
    else if s.flag Reg.RX_STATUS_LINE_LOS then (s, err cDENIED)
    else if s.rx.step ≠ 0 || (List.range 32).any (fun f => s.flag Reg.FR_STATUS_ACQ f) then (s, err cBUSY)
    else ((if s.mode = 1 then s.lineFurrows.foldl State.startFullFurrow s else s.startFull), ok))

/-- FURROW_REACQUIRE (R168, R197); DENIED also for a furrow with a signal that neither acquires nor is in CAR_LOCK (log entry 48). -/
def execFurrowReacquire (mb : Fin 8) (s : State) : Out :=
  actOn mb.val 0x0404 s (fun p s =>
    let fs := furrowList (u8 p 0)
    if fs.any (fun f => s.flag Reg.FR_STATUS_ACQ f) then (s, err cBUSY)
    else if fs.any (fun f => !s.flag Reg.FR_RX_CTRL_EN f || s.flag Reg.FR_STATUS_LOS f || !s.flag Reg.FR_STATUS_CAR_LOCK f) then
      (s, err cDENIED)
    else ((fs.foldl State.startFast s).refreshLineLock, ok))

end Sys2Proof.Machine
end

