-- ==== Sys2Proof/Machine/Tsi.lean ====
section
/-! DEFINITION. Tributaries, time-slot interchange and slip buffers (R385–R411). -/

namespace Sys2Proof.Machine

/-! ### Clients (R387, R388) -/

def State.kind (s : State) (t : Nat) : Nat := s.get Reg.TN_CLIENT_KIND t
def State.members (s : State) (t : Nat) : Nat := s.get Reg.TN_CLIENT_RILLS t

/-- A line packet turnout: KIND 3, and no host packet port (R451). -/
def State.linePacket (s : State) (t : Nat) : Bool := s.kind t == 3 && !s.flag Reg.TN_PKT_HOST_PORT t

/-- The turnout of a leaf whose packets go out in its bursts: the lowest-numbered line packet turnout (R386; log entry 65). -/
def State.ownTurnout (s : State) : Option Nat := if s.mode = 2 then (List.range 256).find? s.linePacket else none

/-- Rills of an Ethernet client by ETH_RATE (R388). -/
def ethRills (rate : Nat) : Nat :=
  match rate with
  | 0 => 81
  | 1 => 161
  | 2 => 322
  | 3 => 643
  | _ => 1286

/-- The timed tributaries in ascending turnout order: their places are the slip-buffer indices (R408). -/
def State.timed (s : State) : List Nat := (List.range 256).filter (fun t => s.kind t == 4)

/-! ### The connection memory (R395–R398) -/

/-- The first word of a page. -/
def pageBase (page : Nat) : Nat := 0x188000 + 0x4000 * page

/-- The standby page. -/
def State.standby (s : State) : Nat := 1 - s.get Reg.TSI_STATUS_ACTIVE

/-- The listed words of a page. -/
def State.pageWords (s : State) (page : Nat) : List (Nat × Word) :=
  (s.regs.filter (fun e => pageBase page ≤ e.1 && e.1 < pageBase page + 0x2000)).map (fun e => (e.1 - pageBase page, e.2))

/-- Every word of the standby page has been written. -/
def State.pageCopied (s : State) : State :=
  let lo := wordKey 10 s.standby 0
  let s1 := { s with mem := { s.mem with words := s.mem.words.filter (fun e => !(decide (lo ≤ e.1) && decide (e.1 < lo + 2048))) } }
  s1.memWrite 10 s.standby 0

/-- Copy the active page into the standby page (R397). -/
def State.copyPage (s : State) : State :=
  let s1 := (s.pageWords s.standby).foldl (fun s e => s.setReg (pageBase s.standby + e.1) 0) s
  let s2 := (s.pageWords (s.get Reg.TSI_STATUS_ACTIVE)).foldl (fun s e => s.setReg (pageBase s.standby + e.1) e.2) s1
  s2.pageCopied

/-- Entry r of a page. -/
def State.entry (s : State) (page r : Nat) : Nat := (s.reg (pageBase page + 4 * r)).toNat

/-- One connection: the rill, whether it feeds the member, turnout and member. -/
structure Conn where
  rill : Nat
  rx : Bool
  turnout : Nat
  member : Nat
  deriving DecidableEq, Repr

/-- The connections that the words of a page hold: those of its valid entries. -/
def connsIn (l : List (Nat × Word)) : List Conn :=
  l.filterMap (fun e =>
    let v := e.2.toNat
    if bitsOf v 31 1 = 1 then some ⟨e.1 / 4, bitsOf v 30 1 == 1, bitsOf v 22 8, bitsOf v 11 11⟩ else none)

/-- The valid entries of a page as they were written. -/
def State.entries (s : State) (page : Nat) : List Conn := connsIn (s.pageWords page)

/-- The connections of a page as it reads: a rill whose entry is uncorrectable is idle (R556). -/
def State.conns (s : State) (page : Nat) : List Conn := connsIn ((s.pageWords page).filter (fun e => decide (s.wordBits 10 page (e.1 / 4) < 2)))

/-- In each frame the active page is read for every rill (R395, R553, R556). -/
def State.readPage (s : State) : State :=
  let page := s.get Reg.TSI_STATUS_ACTIVE
  let lo := wordKey 10 page 0
  let bad := s.mem.words.filter (fun e => lo ≤ e.1 && e.1 < lo + 1920)
  bad.foldl (fun s e => (s.memRead 10 page (e.1 - lo) 8).2) s

/-- The streaming buffers of the TSI and framer are written and read in every frame: a bad word is read once, as consumer 9, and then written anew;
an armed flip of one of them fires at a word that no rule names (R550, R553, R556, R564; log entry 98). -/
def State.streamWords (s : State) (mem inst : Nat) : State :=
  let lo := wordKey mem inst 0
  let bad := s.mem.words.filter (fun e => lo ≤ e.1 && e.1 < lo + 2 ^ 23)
  let s1 := bad.foldl (fun s e => (s.memRead mem inst (e.1 - lo) 9).2.setWordState mem inst (e.1 - lo) 0) s
  if s1.flag Reg.FLIP_STATUS_ARMED && s1.get Reg.FLIP_STATUS_MEM == mem && s1.get Reg.FLIP_STATUS_INSTANCE == inst then
    let r := s1.free 564
    r.2.memWrite mem inst (r.1 % memWords mem inst)
  else s1

/-- The page that is in service once a commit has taken effect. -/
def State.servicePage (s : State) : Nat := if s.tsi.swap then s.standby else s.get Reg.TSI_STATUS_ACTIVE

/-- A received rill exists (R385). -/
def State.rxRill (s : State) (r : Nat) : Bool :=
  let f := r / s.slotsPer
  decide (f < s.nFur) && s.flag Reg.FR_RX_CTRL_EN f &&
    decide (r % s.slotsPer < s.rillsOf (s.get Reg.FR_RX_CTRL_ENTROPY f) (s.get Reg.FR_RX_CTRL_RATE_SEL f))

/-- A transmitted rill exists (R385). -/
def State.txRill (s : State) (r : Nat) : Bool :=
  let f := r / s.slotsPer
  decide (f < s.nFur) && s.flag Reg.TXF_CTRL_EN f &&
    decide (r % s.slotsPer < s.rillsOf (s.get Reg.TXF_CTRL_ENTROPY f) (s.get Reg.TXF_CTRL_RATE_SEL f))

/-- The turnout is bound to a leaf (R236). -/
def State.leafBound (s : State) (t : Nat) : Bool := s.profiles.any (fun l => s.get Reg.LF_PROFILE_TURNOUT l == t)

/-- The leaf to which a furrow is dedicated on the hub (R201). -/
def State.dedicatedLeaf (s : State) (f : Nat) : Option Nat :=
  s.profiles.find? (fun l => s.get Reg.LF_PROFILE_HOME_FURROW l / 4 == f / 4 && bitsOf (s.get Reg.LF_PROFILE_DEDICATED l) (f % 4) 1 == 1)

/-- Every member of a turnout has one RX_SEL entry and at most two entries; a turnout bound to a leaf, whose upstream comes in bursts, at most one
RX_SEL entry (R386, R396; log entry 35). -/
def membersOk (bound : Bool) (g : Nat) (cs : List Conn) : Bool :=
  (List.range g).all (fun m =>
    let es := cs.filter (fun c => c.member == m)
    let rx := (es.filter (fun c => c.rx)).length
    decide (es.length ≤ 2) && (if bound then decide (rx ≤ 1) && decide (1 ≤ es.length) else rx == 1))

/-- R396 for the page that comes into service. -/
def State.pageBad (s : State) : Bool :=
  let cs := s.entries s.servicePage
  let s0 := s
  let ts := (List.range 256).filter (fun t => s0.kind t ≠ 0)
  ts.any (fun t => !membersOk (s0.get Reg.MODE_CTRL_MODE == 1 && s0.leafBound t) (s0.members t) (cs.filter (fun c => c.turnout == t))) ||
    cs.any (fun c => s0.kind c.turnout = 0 || s0.members c.turnout ≤ c.member || !(s0.txRill c.rill || s0.rxRill c.rill)) ||
    cs.any (fun c => c.rx && (!s0.rxRill c.rill ||
      (s0.get Reg.MODE_CTRL_MODE == 1 && bitsOf (s0.get Reg.BR_SHARED_MASK) (c.rill / s0.slotsPer) 1 == 1))) ||
    !nodup ((ts.filter (fun t => s0.kind t = 2)).map (fun t => s0.get Reg.TN_CLIENT_LANE t)) ||
    ts.any (fun t => s0.kind t = 2 && (s0.flag Reg.RL_CFG_FREE (s0.get Reg.TN_CLIENT_LANE t) || !s0.flag Reg.RL_CFG_EN (s0.get Reg.TN_CLIENT_LANE t))) ||
    ts.any (fun t => s0.kind t = 4 && !s0.flag Reg.RL_CFG_FREE (s0.get Reg.TN_CLIENT_LANE t)) ||
    decide (64 < ((ts.filter (fun t => s0.kind t = 4)).map s0.members).sum) ||
    (s0.get Reg.MODE_CTRL_MODE == 1 && ts.any (fun t =>
      decide (1 < (((cs.filter (fun c => c.turnout == t && c.rx)).filterMap (fun c => s0.dedicatedLeaf (c.rill / s0.slotsPer))).eraseDups).length)))

/-- R326: the only client of an interoperability line is one 400GBASE-R Ethernet client, with no rill configured. -/
def State.interopClientsBad (n : State) : Bool :=
  let ts := (List.range 256).filter (fun t => n.kind t ≠ 0)
  !(n.entries n.servicePage).isEmpty || ts.length != 1 || ts.any (fun t => n.kind t != 1 || n.get Reg.TN_CLIENT_ETH_RATE t != 2)

/-! ### Live members (R398, R402, R409) -/

/-- The connections by which received rills reach their clients: a furrow keeps the old page until its first frame 0 after a swap (R398). -/
def State.rxConns (s : State) : List Conn :=
  let old := fun (c : Conn) => bitsOf s.tsi.rxOld (c.rill / s.slotsPer) 1 == 1
  (s.conns (s.get Reg.TSI_STATUS_ACTIVE)).filter (fun c => !old c) ++ (s.conns s.standby).filter old

/-- A received slot is failed or shed. -/
def State.slotLost (s : State) (r : Nat) : Bool :=
  let f := r / s.slotsPer
  s.flag Reg.FRM_FR_STATUS_SF f || !s.flag Reg.FR_RX_CTRL_EN f ||
    decide (s.rillsOf (s.get Reg.FR_STATUS_H_NOW f) (s.get Reg.FR_RX_CTRL_RATE_SEL f) ≤ r % s.slotsPer)

/-- The connections that feed the members of a turnout. -/
def State.feeds (s : State) (t : Nat) : List Conn := s.rxConns.filter (fun c => c.turnout == t && c.rx)

/-- The members of a turnout whose slots are failed or shed. -/
def State.lostMembers (s : State) (t : Nat) : List Nat := ((s.feeds t).filter (fun c => s.slotLost c.rill)).map (fun c => c.member)

/-- The 257-bit blocks of a frame of `g` members that hold a bit of a lost member. -/
def lostBlocks (g : Nat) (lost : List Nat) : Nat :=
  ((List.range (g * 6250 / 257)).filter (fun b => lost.any (fun m => 257 * b < 6250 * (m + 1) && 6250 * m < 257 * (b + 1)))).length

/-- Bits as bytes, the first at the top of its byte (R7). -/
def bitBytes (n : Nat) (bs : List Bool) : List Byte := (blocks 8 n bs).map (fun b => BitVec.ofNat 8 (bitsNat b))

/-! ### Slip buffers (R403, R404, R408) -/

def State.slip (s : State) (t : Nat) (out : Bool) : SlipBuf := tget {} s.tsi.slips (2 * t + b2n out)
def State.setSlip (s : State) (t : Nat) (out : Bool) (x : SlipBuf) : State :=
  { s with tsi := { s.tsi with slips := tput {} s.tsi.slips (2 * t + b2n out) x } }

/-- The slip-buffer index of a timed tributary. -/
def State.slipIndex (s : State) (t : Nat) : Nat := (s.timed.filter (· < t)).length

/-- SB_STATUS of a timed tributary. -/
def State.refreshSlip (s : State) (t : Nat) : State :=
  let i := s.slipIndex t
  let a := s.slip t false
  let b := s.slip t true
  s.setReg (0x180600 + 0x20 * i) (BitVec.ofNat 32
    (t + b2n a.started * 2 ^ 8 + b2n b.started * 2 ^ 9 + a.held.length * 2 ^ 10 + b.held.length * 2 ^ 14))

/-- A slip: event and record (R403). -/
def State.slipped (s : State) (t : Nat) (out : Bool) (kind : Nat) : State :=
  (s.set Reg.TSI_EVENTS_SLIP 1).log wbTsi 0x33 [BitVec.ofNat 8 t, BitVec.ofNat 8 (b2n out), BitVec.ofNat 8 kind]

/-- A timed tributary that runs. -/
def State.slipRuns (s : State) (t : Nat) : Bool := s.coherent && s.kind t == 4 && s.running 1 t && decide (s.slipIndex t < 64)

/-- The rills of frame `fn` join the tributary frame being written, which starts at FN 0; the frames missed in between are lost (R403, R404). -/
def SlipBuf.join (fn : Nat) (part : Option (List Bool)) (x : SlipBuf) : SlipBuf :=
  if fn = 0 then { x with parts := [part] }
  else if x.parts.isEmpty then x
  else { x with parts := x.parts.take fn ++ List.replicate (fn - x.parts.length) none ++ [part] }

/-- The tributary frame whose 25 parts are there: its bytes, or all ones (none) where a rill of it was failed, lost or late (R404). -/
def SlipBuf.whole (g : Nat) (x : SlipBuf) : Option (List Byte) :=
  if x.parts.all Option.isSome then some (bitBytes ((25 * 6250 * g + 7) / 8) (x.parts.flatMap (fun p => p.getD []))) else none

/-- The part that the received frame adds to a tributary's outbound frame: none where a member's slot is failed or shed (R402, R404). The FN is that
of the furrow of its first rill, or counts on while that furrow is out of SYNC. -/
def State.slipOutbound (m : FrameMeas) (s : State) (t : Nat) : State :=
  if !s.slipRuns t then s
  else
    let x := s.slip t true
    let f := ((s.feeds t).headD ⟨0, true, t, 0⟩).rill / s.slotsPer
    let fn := if s.flag Reg.FRM_FR_STATUS_SYNC f then s.get Reg.FRM_FR_STATUS_FN f else x.parts.length % 25
    let slots := (m.rills.find? (fun r => r.turnout == t)).map (fun r => r.slots.flatMap (fun w => msbBits 6250 w.1))
    s.setSlip t true (x.join fn (if (s.lostMembers t).isEmpty then slots else none))

/-! ### Local frames -/

/-- The frame, in dsp-cycles, by which verified release lengthens the TSI wait of an Ethernet client (R436; log entry 40). -/
def State.verifyHold (s : State) (t : Nat) : Nat :=
  if s.flag Reg.TN_CIPHER_PROTECT t && !s.flag Reg.TN_CIPHER_RELEASE t && s.kind t == 1 then 6562 else 0

/-- The TSI's part of a local frame boundary: RILLS_LIVE, the error blocks of Ethernet clients, the waits measured, the outbound tributaries, the
memory words read (R399, R402, R403, R409, R556). -/
def State.tsiFrame (m : FrameMeas) (s : State) : State :=
  if !s.coherent then s
  else
    let b := ((s.readPage.streamWords 10 2).streamWords 11 0)
    let s0 := s.timed.foldl (State.slipOutbound m) (if s.timed.isEmpty then b else b.streamWords 11 1)
    let s1 := (List.range 256).foldl (fun s t =>
      if s.kind t = 0 then s
      else
        let lost := s.lostMembers t
        let u := s.set Reg.TN_STATUS_RILLS_LIVE ((s.feeds t).length - lost.length) t
        if s.kind t = 1 && !lost.isEmpty then u.bump Cnt.ETH_ERR_BLOCKS 0 0 (lostBlocks (s.members t) lost) else u) s0
    let s2 := m.waits.foldl (fun s w =>
      (s.set Reg.TN_WAIT_WAIT_MIN (w.2.1 + s.verifyHold w.1) w.1).set Reg.TN_WAIT_WAIT_MAX (w.2.2 + s.verifyHold w.1) w.1) s1
    if m.ethMarked = 0 then s2 else s2.bump Cnt.ETH_ERR_BLOCKS 0 0 m.ethMarked

/-! ### Rill-link lanes (R391–R400) -/

/-- CRC-8 over a list of bits, most significant first (R392). -/
def crc8 : Nat → List Bool → Nat
  | c, [] => c
  | c, b :: t => crc8 (if (c / 128 % 2 == 1) != b then (2 * c % 256) ^^^ 0x07 else 2 * c % 256) t

/-- A block's CRC-8 is correct. -/
def blockOk (h : Nat) : Bool := crc8 0 ((List.range 56).map (fun i => bitsOf h (63 - i) 1 == 1)) == h % 256

/-- A valid header block of position `p`. -/
def rillHeaderOk (p h : Nat) : Bool := blockOk h && bitsOf h 56 8 == 0xC3 && bitsOf h 48 8 == p

def State.rillLane (s : State) (h : Nat) : RillLane := tget {} s.tsi.lanes h
def State.setRillLane (s : State) (h : Nat) (x : RillLane) : State := { s with tsi := { s.tsi with lanes := tput {} s.tsi.lanes h x } }

/-- The rill of a position: the first 6,250 bits of its data blocks (R391). -/
def rowRill (r : RillRow) : List Bool := ((r.data.flatMap (fun w => msbBits 64 w.toNat)) ++ List.replicate 6250 false).take 6250

/-- The part that a free lane's frame adds to the tributary it feeds: none where a header failed; without a valid POS 0 header the frames count on
(R393, R403, R404). -/
def State.slipInbound (h : Nat) (fn : Option Nat) (bad : List Nat) (rills : List (List Bool)) (s : State) (t : Nat) : State :=
  if s.get Reg.TN_CLIENT_LANE t ≠ h || !s.slipRuns t then s
  else
    let x := s.slip t false
    let part := if bad.any (fun p => p < s.members t) then none else some (rills.take (s.members t)).flatten
    s.setSlip t false (x.join (fn.getD (x.parts.length % 25)) part)

/-- RILLLINK_FRAME_RX: the frame of a rill-link lane that has come in; the positions whose bits arrived before or after their window (locked lanes), and the start of
its FN less the local start of that frame, in ns (R393, R400). -/
def execRilllinkFrameRx (lane : Fin 16) (early late : List Nat) (offset : Int) (s : State) : Out :=
  let h := lane.val
  let off := early ++ late
  if !s.flag Reg.RL_CFG_EN h || !s.flag Reg.LN_STATUS_BLOCK_LOCK h || !s.coherent then .next s
  else
    let x := s.rillLane h
    let n := s.get Reg.RL_CFG_RILLS h
    let rows := (s.laneData h).rows.take n
    let hs := rows.map (fun r => r.header.toNat)
    let first := hs.headD 0
    let valid := rillHeaderOk 0 first
    let fn := bitsOf first 43 5
    let aligned := s.flag Reg.RL_STATUS_ALIGNED h || (valid && x.lastFn == some ((fn + 24) % 25))
    let bad := (List.range n).filter (fun p => !(hs[p]?).any blockOk || (!s.flag Reg.RL_CFG_FREE h && off.contains p))
    let s0 := s.setLaneData h { s.laneData h with rows := [] }
    let s1 := s0.setRillLane h { x with
      lastFn := if valid then some fn else none, missed := if valid then 0 else x.missed + 1, failed := bad, rills := rows.map rowRill }
    if !aligned then done s s1
    else
      let errs := (hs.filter (fun w => !blockOk w)).length
      let free := s.flag Reg.RL_CFG_FREE h
      let lates := if free then 0 else (List.range n).countP off.contains
      let s2 := (s1.set Reg.RL_STATUS_ALIGNED 1 h).set Reg.RL_STATUS_IN_WINDOW (b2n (lates == 0)) h
      let s3 := if free then s2 else s2.set Reg.RL_OFFSET_OFFSET (twos 32 offset) h
      let s4 := if errs = 0 then s3 else s3.bump Cnt.RL_HDR_ERRS 0 0 errs
      let s5 := if free then s.timed.foldl (State.slipInbound h (if valid then some fn else none) bad (rows.map rowRill)) s4 else s4
      done s (if lates = 0 then s5 else (s5.bump Cnt.LATE_RILLS 0 0 lates).set Reg.TSI_EVENTS_LATE 1)

/-- A lane is not ALIGNED. -/
def State.unalign (s : State) (h : Nat) : State :=
  ((s.set Reg.RL_STATUS_ALIGNED 0 h).set Reg.RL_STATUS_IN_WINDOW 0 h).set Reg.RL_OFFSET_OFFSET 0x80000000 h

/-- RL_ALIGN_LOSS: 4 frames in a row without a valid POS 0 header, or the lane's block lock is 0 (R393). -/
def execRlAlignLoss (lane : Fin 16) (s : State) : Out :=
  let h := lane.val
  if s.flag Reg.RL_STATUS_ALIGNED h && (4 ≤ (s.rillLane h).missed || !s.flag Reg.LN_STATUS_BLOCK_LOCK h) then
    done s (((s.unalign h).setRillLane h { txFn := (s.rillLane h).txFn }).set Reg.TSI_EVENTS_RL_ALIGN 1)
  else .next s

/-! ### Blocks of packets (R389, R502) -/

/-- A 66-bit block, first bit sent at the top: sync header, then the bytes of its payload, bit 0 of each first. -/
def block66 (sync : Nat) (payload : List Byte) : BitVec 66 :=
  BitVec.ofNat 66 (sync * 2 ^ 64 + bitsNat ((List.range 64).map (fun i => (payload.getD (i / 8) 0).toNat.testBit (i % 8))))

/-- One bit of the CRC-32 of IEEE 802.3, least significant bit first. -/
def crcBit (c : Nat) : Nat := if c % 2 = 1 then c / 2 ^^^ 0xEDB88320 else c / 2

/-- The CRC-32 of IEEE 802.3 over bytes. -/
def crc32 (l : List Byte) : Nat :=
  l.foldl (fun c b => crcBit (crcBit (crcBit (crcBit (crcBit (crcBit (crcBit (crcBit (c ^^^ b.toNat))))))))) 0xFFFFFFFF ^^^ 0xFFFFFFFF

/-- The FCS bytes of a frame without FCS, in sending order. -/
def fcs (l : List Byte) : List Byte := bytes 4 (crc32 l)

/-- The FCS bytes of a frame ended by a stomped FCS (R438). -/
def stomped (l : List Byte) : List Byte := bytes 4 (crc32 l ^^^ 0xFFFFFFFF)

/-- The type byte of the block that ends a frame after `n` bytes of it (IEEE 802.3 Clause 82). -/
def terminateType (n : Nat) : Byte :=
  BitVec.ofNat 8 ([0x87, 0x99, 0xAA, 0xB4, 0xCC, 0xD2, 0xE1, 0xFF].getD n 0)

/-- The data blocks and the end of a frame. -/
def frameBlocks : Nat → List Byte → List (BitVec 66)
  | 0, _ => []
  | n + 1, bs => if bs.length < 8 then [block66 2 (terminateType bs.length :: bs)] else block66 1 (bs.take 8) :: frameBlocks n (bs.drop 8)

/-- A frame coded as IEEE 802.3 Clause 82 codes one: start block with the preamble, data blocks, terminate block (R389). -/
def clause82 (frame : List Byte) : List (BitVec 66) :=
  block66 2 [0x78, 0x55, 0x55, 0x55, 0x55, 0x55, 0x55, 0xD5] :: frameBlocks (frame.length / 8 + 1) frame

/-- The 64 bits after a sync header as bytes, bit 0 of each first. -/
def payload66 (w : BitVec 66) : List Byte :=
  (List.range 8).map (fun i => BitVec.ofNat 8 (((List.range 8).map (fun j => b2n (w.getLsbD (63 - 8 * i - j)) * 2 ^ j)).sum))

/-- A packet stream read block by block: what the packet begun has so far, the packets ended. Null, idle and other control blocks carry nothing (R389). -/
def readBlock (x : Option (List Byte) × List (List Byte)) (w : BitVec 66) : Option (List Byte) × List (List Byte) :=
  let p := payload66 w
  let type := p.headD 0
  match w.toNat / 2 ^ 64, x.1 with
  | 1, some b => (some (b ++ p), x.2)
  | 2, some b =>
    match (List.range 8).find? (fun n => terminateType n == type) with
    | some n => (none, x.2 ++ [b ++ (p.drop 1).take n])
    | none => if type = 0x78 then (some [], x.2) else x
  | 2, none => if type = 0x78 then (some [], x.2) else x
  | _, _ => x

/-- The bytes of a frame after its start block; none at an invalid sync header, an error block, or another break of the start-terminate sequence (R452, R453). -/
def frameBody : List (BitVec 66) → Option (List Byte)
  | [] => none
  | w :: t =>
    let p := payload66 w
    match w.toNat / 2 ^ 64 with
    | 1 => (frameBody t).map (fun b => p ++ b)
    | 2 => if t.isEmpty then ((List.range 8).find? (fun n => terminateType n == p.headD 0)).map (fun n => (p.drop 1).take n) else none
    | _ => none

/-- The frame in the blocks from its start block to its end, decoded as IEEE 802.3 Clause 82 has it, null blocks skipped (R389, R452). -/
def frameOf (bs : List (BitVec 66)) : Option (List Byte) :=
  match bs.filter (fun w => w.toNat / 2 ^ 64 != 0) with
  | [] => none
  | w :: t => if w.toNat / 2 ^ 64 = 2 && (payload66 w).headD 0 = 0x78 then frameBody t else none

/-- The 66-bit blocks of plaintext bytes, from their first bit on; what does not fill a block is none (R389, R417). -/
def plainBlocks (plain : List Byte) : List (BitVec 66) := (blocks 66 (8 * plain.length / 66) (byteBits plain)).map (fun b => BitVec.ofNat 66 (bitsNat b))

def State.egressBlocks (s : State) (t : Nat) : List (BitVec 66) := tget [] s.tsi.egress t
def State.setEgressBlocks (s : State) (t : Nat) (bs : List (BitVec 66)) : State := { s with tsi := { s.tsi with egress := tput [] s.tsi.egress t bs } }

/-- Blocks of `w` bits packed into `room` bits from the first on; one that is not due, or past the last whole block, is zeros (R389, R390). -/
def packBlocks (w room : Nat) (items : List (Option Nat)) : List Bool :=
  let bs := (List.range (room / w)).flatMap (fun i => match items[i]? with | some (some v) => msbBits w v | _ => List.replicate w false)
  bs ++ List.replicate (room - bs.length) false

/-- The next blocks of a packet turnout in `room` bits, and the state without them. -/
def State.takeBlocks (s : State) (t room : Nat) : List Bool × State :=
  (packBlocks 66 room ((s.egressBlocks t).map (fun b => some b.toNat)), s.setEgressBlocks t ((s.egressBlocks t).drop (room / 66)))

/-! ### Tributary frames written and read (R403, R404) -/

/-- A lane that is not ALIGNED gives a tributary no rill: every position of it is failed in each frame (R393). -/
def State.slipDark (s : State) (t : Nat) : Bool := !s.flag Reg.RL_STATUS_ALIGNED (s.get Reg.TN_CLIENT_LANE t)

/-- SLIP_FRAME_WRITE: the tributary frame whose 25 parts have come in completes at the write side; `dark`, an inbound lane is not ALIGNED and the frame is all
ones (R393, R403, R404). -/
def execSlipFrameWrite (turnout : Fin 256) (outbound dark : Bool) (s : State) : Out :=
  let t := turnout.val
  let x := s.slip t outbound
  if !s.slipRuns t || dark ≠ (!outbound && s.slipDark t) || (!dark && x.parts.length ≠ 25) then .next s
  else
    let y := { x with held := x.held.drop (x.held.length - 2) ++ [if dark then none else x.whole (s.members t)], parts := [] }
    let s1 := s.setSlip t outbound y
    if x.held.length < 3 then done s (s1.refreshSlip t)
    else
      let i := s.slipIndex t
      let s2 := if outbound then s1.bump Cnt.SLIP_DROP_OUT i else s1.bump Cnt.SLIP_DROP_IN i
      done s ((s2.slipped t outbound 0).refreshSlip t)

/-- SLIP_READ: at a read boundary the buffer sends its oldest frame, the last again, or all ones (R403). -/
def execSlipRead (turnout : Fin 256) (outbound : Bool) (s : State) : Out :=
  let t := turnout.val
  if !s.slipRuns t then .next s
  else
    let x := s.slip t outbound
    let i := s.slipIndex t
    if !x.started && x.held.length < 2 then done s ((s.setSlip t outbound { x with last := none }).refreshSlip t)
    else match x.held with
      | [] =>
        let s1 := s.setSlip t outbound { x with started := true }
        let s2 := if outbound then s1.bump Cnt.SLIP_REPEAT_OUT i else s1.bump Cnt.SLIP_REPEAT_IN i
        done s ((s2.slipped t outbound 1).refreshSlip t)
      | f :: rest => done s ((s.setSlip t outbound { x with held := rest, last := f, started := true }).refreshSlip t)

/-- A quenched timed tributary discards the frames being written and starts its buffers again (R404). -/
def State.clearSlips (s : State) (t : Nat) : State :=
  let s1 := (s.setSlip t false {}).setSlip t true {}
  if s1.kind t = 4 then s1.refreshSlip t else s1

/-! ### Staged settings -/

/-- TSI_MAP_SET and TSI_MAP_CLEAR work on the standby page when they are staged; the commit brings it into service. -/
def applyTsi (c : Staged) (s : State) : State :=
  let p := c.payload
  if c.op = 0x0340 || c.op = 0x0341 then { s with tsi := { s.tsi with swap := true } }
  else if c.op = 0x0343 then setWord s (0x180200 + 0x10 * u8 p 0) 0x007FFFFF (u32 p 4)
  else if c.op = 0x0601 then setWord s (0x400000 + 0x400 * u8 p 0) 0x001FFFFF (u32 p 4)
  else s

/-- TSI_PAGE_SWAP and the part of a commit boundary in the TSI (R397, R398, R408). -/
def State.tsiBoundary (old s : State) : State :=
  let s1 := if s.tsi.swap then
      let t := (((s.set Reg.TSI_STATUS_ACTIVE s.standby).set Reg.TSI_STATUS_STAGED 0).bump Cnt.SWAPS).set Reg.TSI_EVENTS_SWAP 1
      { t with tsi := { t.tsi with
        swap := false
        rxOld := ((List.range 32).map (fun f => s.get Reg.FRM_FR_STATUS_SYNC f * 2 ^ f)).sum } }
    else s
  let s2 := (List.range 16).foldl (fun s h => if !s.flag Reg.RL_CFG_EN h && s.flag Reg.RL_STATUS_ALIGNED h then (s.unalign h).setRillLane h {} else s) s1
  let s3 := (List.range 256).foldl (fun s t =>
    if s.kind t = old.kind t then s
    else
      let u := (s.setSlip t false {}).setSlip t true {}
      if s.kind t = 0 then (u.set Reg.TN_STATUS_RILLS_LIVE 0 t).setReg (0x400008 + 0x400 * t) 0 else u) s2
  if s3.timed = old.timed then s3
  else s3.timed.foldl State.refreshSlip ((List.range 64).foldl (fun s i => s.setReg (0x180600 + 0x20 * i) 0) s3)

/-- The TSI's standby page is released without use (R397). -/
def State.tsiRelease (s : State) (cs : List Staged) : State :=
  if cs.any (opIn [0x0340, 0x0341]) then s.set Reg.TSI_STATUS_STAGED 0 else s

/-- The rules of this chapter that fail validation (R326, R395, R396). -/
def tsiChecks : List Check := [
  { rule := 395, bad := fun _ _ n => (n.entries n.servicePage).any (fun c => 1920 ≤ c.rill), reads := opIn [0x0340] },
  { rule := 396, bad := fun _ _ n => n.get Reg.FEC_CTRL_LINE_FEC == 0 && n.pageBad
    reads := opIn [0x0340, 0x0341, 0x0343, 0x0601, 0x0301, 0x0401, 0x0405, 0x0502, 0x0507, 0x0120] },
  { rule := 326, bad := fun _ _ n => n.get Reg.FEC_CTRL_LINE_FEC != 0 && n.interopClientsBad, reads := opIn [0x0320, 0x0340, 0x0341, 0x0601] }]

/-! ### Commands -/

/-- The standby page takes a TSI command's entries; the first of the transaction copies the active page into it (R397). -/
def State.stagePage (s : State) (mb : Nat) (entries : List (Nat × Nat)) : State :=
  let first := ((s.mbox mb).txn.staged.filter (opIn [0x0340, 0x0341])).length = 1
  let s1 := if first then s.copyPage.set Reg.TSI_STATUS_STAGED 1 else s
  entries.foldl (fun s e => (setWord s (pageBase s.standby + 4 * e.1) 0xFFFFF800 e.2).memWrite 10 s.standby e.1) s1

/-- TSI_MAP_SET, staged (R397, R410). A range beyond rill 2,047 names the first rill. -/
def execTsiMapSet (mb : Fin 8) (s : State) : Out :=
  stage mb.val 0x0340 (fun _ => [(.tsi, 0)]) s
    (refuse := fun p _ => if 2048 < u16 p 0 + u16 p 2 then some { code := cINVALID, index := 1 } else none)
    (extra := fun p s => (s.stagePage mb.val ((List.range (u16 p 2)).map (fun k => (u16 p 0 + k, u32 p (4 + 4 * k)))), []))

/-- TSI_MAP_CLEAR, staged (R397, R410). -/
def execTsiMapClear (mb : Fin 8) (s : State) : Out :=
  stage mb.val 0x0341 (fun _ => [(.tsi, 0)]) s
    (refuse := fun p _ => if 2048 < u16 p 0 + u16 p 2 then some { code := cINVALID, index := 1 } else none)
    (extra := fun p s => (s.stagePage mb.val ((List.range (u16 p 2)).map (fun k => (u16 p 0 + k, 0))), []))

/-- TSI_STATUS_GET (R410). -/
def execTsiStatusGet (mb : Fin 8) (s : State) : Out :=
  report mb.val 0x0342 s (fun _ s => okD (wordBytes [s.reg 0x180010, s.reg 0x180020, s.reg 0x180024, s.reg 0x180028, s.reg 0x18002C]))

/-- RILLLINK_LANE_SET, staged (R410, R411). -/
def execRilllinkLaneSet (mb : Fin 8) (s : State) : Out := stage mb.val 0x0343 (fun p => [(.rillLane, u8 p 0)]) s

/-- RILLLINK_STATUS_GET (R410). -/
def execRilllinkStatusGet (mb : Fin 8) (s : State) : Out :=
  report mb.val 0x0344 s (fun p s => okD (wordBytes [s.reg (0x180204 + 0x10 * u8 p 0), s.reg (0x180208 + 0x10 * u8 p 0)]))

/-- SLIP_STATUS_GET (R410). -/
def execSlipStatusGet (mb : Fin 8) (s : State) : Out :=
  report mb.val 0x0345 s (fun p s => okD (wordBytes ((List.range 5).map (fun k => s.reg (0x180600 + 0x20 * u8 p 0 + 4 * k)))))

/-- g lies in the range of its kind (R387, R388). -/
def rillsOk (kind rate g : Nat) : Bool :=
  match kind with
  | 1 => g == ethRills rate
  | 2 => decide (1 ≤ g) && decide (g ≤ 160)
  | 3 => decide (1 ≤ g) && decide (g ≤ 1920)
  | 4 => decide (1 ≤ g) && decide (g ≤ 64)
  | _ => true

/-- TURNOUT_CLIENT_SET, staged (R410, R411). -/
def execTurnoutClientSet (mb : Fin 8) (s : State) : Out :=
  stage mb.val 0x0601 (fun p => [(.turnout, u8 p 0)]) s
    (refuse := fun p s =>
      let v := u32 p 4
      if !rillsOk (bitsOf v 0 3) (bitsOf v 3 3) (bitsOf v 10 11) then some { code := cINVALID, index := 6 }
      else if bitsOf v 0 3 ≠ 3 && s.leafBound (u8 p 0) then some { code := cINVALID, index := 5 }
      else none)

/-- The payload rows of R410. -/
def payloadsTsi : List PayloadRow := [
  ⟨0x0340, .plus 4 2 4, [.num 0 2 0 2047, .num 2 2 1 240]⟩,
  ⟨0x0341, .fix 4, [.num 0 2 0 2047, .num 2 2 1 2048]⟩,
  ⟨0x0342, .fix 0, []⟩,
  ⟨0x0343, .fix 8, [.num 0 1 0 15, .zero 1 3, .bits 4 2 8 0 160, .bits 4 10 13 0 5000]⟩,
  ⟨0x0344, .fix 4, [.num 0 1 0 15, .zero 1 3]⟩,
  ⟨0x0345, .fix 4, [.num 0 1 0 63, .zero 1 3]⟩,
  ⟨0x0601, .fix 8, [.zero 1 3, .bits 4 0 3 0 4, .bits 4 3 3 0 4]⟩]

end Sys2Proof.Machine
end

