-- ==== Sys2Proof/Machine/Cipher.lean ====
section
/-! DEFINITION. Line encryption and key handling (R412–R450). -/

namespace Sys2Proof.Machine

/-- One past the largest counter value. -/
def ctrEnd : Nat := 2 ^ 40

/-! ### Key slots and context records (R422–R430) -/

def State.keySlot (s : State) (k : Nat) : KeySlot := tget {} s.cip.keys k
def State.setKeySlot (s : State) (k : Nat) (x : KeySlot) : State := { s with cip := { s.cip with keys := tput {} s.cip.keys k x } }

/-- The bytes of a key slot's key. -/
def State.keyBytes (s : State) (k : Nat) : List Byte := bytesBe 32 (s.keySlot k).key.toNat

/-- A slot holds a key-encryption key: KEK, or the owner root key (R422). -/
def State.isKek (s : State) (k : Nat) : Bool := k < 512 && 2 ≤ s.get Reg.KS_STATUS_STATE k

/-- Uses of K0 are refused since level 3 was entered (R730). -/
def State.k0Denied (s : State) (k : Nat) : Bool := s.test.k0Refused && k == 0

/-- Put a key into a slot, with its use, check value and high-water mark (R423, R424). -/
def State.placeKey (s : State) (k use : Nat) (key : List Byte) (hw : Nat) : State :=
  let s1 := if s.get Reg.KS_STATUS_STATE k = 0 then s.set Reg.CIPH_STATUS_SLOTS_USED (s.get Reg.CIPH_STATUS_SLOTS_USED + 1) else s
  (((s1.setKeySlot k { key := keyOf key, hw := hw }).set Reg.KS_STATUS_STATE use k).set Reg.KS_KCV_KCV (kcv key) k).memWrites2 12 (keyWord k) 4

/-- A slot becomes EMPTY and its key zeros (R425). -/
def State.eraseKey (s : State) (k : Nat) : State :=
  let s1 := if s.get Reg.KS_STATUS_STATE k = 0 then s else s.set Reg.CIPH_STATUS_SLOTS_USED (s.get Reg.CIPH_STATUS_SLOTS_USED - 1)
  (((s1.setKeySlot k {}).set Reg.KS_STATUS_STATE 0 k).set Reg.KS_KCV_KCV 0 k).memWrites2 12 (keyWord k) 4

def State.ctxState (s : State) (c : Nat) : Nat := s.get Reg.CTX_STATUS_STATE c
def State.setCtxState (s : State) (c v : Nat) : State := s.set Reg.CTX_STATUS_STATE v c

def State.txCtr (s : State) (c : Nat) : Nat := s.get Reg.CTX_TX_LO_TX_CTR_LO c + 2 ^ 32 * s.get Reg.CTX_HI_TX_CTR_HI c
def State.rxLast (s : State) (c : Nat) : Nat := s.get Reg.CTX_RX_LO_RX_LAST_LO c + 2 ^ 32 * s.get Reg.CTX_HI_RX_LAST_HI c
def State.setTxCtr (s : State) (c v : Nat) : State := (s.set Reg.CTX_TX_LO_TX_CTR_LO v c).set Reg.CTX_HI_TX_CTR_HI (v / 2 ^ 32) c
def State.setRxLast (s : State) (c v : Nat) : State := (s.set Reg.CTX_RX_LO_RX_LAST_LO v c).set Reg.CTX_HI_RX_LAST_HI (v / 2 ^ 32) c

def State.salt (s : State) (c : Nat) : BitVec 56 := tget 0 s.cip.salts c
def State.setSalt (s : State) (c : Nat) (v : BitVec 56) : State := { s with cip := { s.cip with salts := tput 0 s.cip.salts c v } }

/-- An attached context (R430). -/
def State.attached (s : State) (c : Nat) : Bool := s.ctxState c == 1 || s.ctxState c == 2 || s.ctxState c == 3

/-- REFS of a slot changes by one. -/
def State.refKey (s : State) (k : Nat) (up : Bool) : State :=
  s.set Reg.KS_STATUS_REFS (if up then s.get Reg.KS_STATUS_REFS k + 1 else s.get Reg.KS_STATUS_REFS k - 1) k

/-- A context record gives up its key slot. -/
def State.dropKey (s : State) (c : Nat) : State :=
  if s.flag Reg.CTX_STATUS_KEY_VALID c then ((s.refKey (s.get Reg.CTX_STATUS_KEY c) false).set Reg.CTX_STATUS_KEY_VALID 0 c).set Reg.CTX_STATUS_KEY 0 c
  else s

/-- TX_CTR at or below the slot's high-water mark is raised above it (R429). A mark at the end of the range leaves no value: TX_CTR holds the last
one and the context is exhausted (log entry 40). -/
def State.raiseCtr (s : State) (c : Nat) : State :=
  let hw := (s.keySlot (s.get Reg.CTX_STATUS_KEY c)).hw
  if s.flag Reg.CTX_STATUS_KEY_VALID c && s.txCtr c ≤ hw then
    ((s.setTxCtr c (min (hw + 1) (ctrEnd - 1))).bump Cnt.HW_RAISES).set Reg.CTX_STATUS_HW_RAISED 1 c
  else s.set Reg.CTX_STATUS_HW_RAISED 0 c

/-- Write a context record; a QUENCHED context becomes IDLE (R427, R430). -/
def State.writeCtx (s : State) (c key : Nat) (salt : BitVec 56) (dir : Bool) (tx rx : Nat) : State :=
  let s1 := (((((s.dropKey c).setSalt c salt).refKey key true).set Reg.CTX_STATUS_KEY_VALID 1 c).set Reg.CTX_STATUS_KEY key c).set
    Reg.CTX_STATUS_TX_DIR (b2n dir) c
  ((((s1.setTxCtr c tx).setRxLast c rx).setCtxState c 0).memWrites2 12 (ctxWord c) 2).raiseCtr c

/-- Clear a context record: every field at its reset value. -/
def State.clearCtx (s : State) (c : Nat) : State :=
  let s1 := ((s.dropKey c).setSalt c 0).set Reg.CTX_STATUS_TX_DIR 0 c
  (((((s1.setTxCtr c 0).setRxLast c 0).set Reg.CTX_HI_WARN_LEFT 4096 c).set Reg.CTX_STATUS_HW_RAISED 0 c).setCtxState c 0).memWrites2 12 (ctxWord c) 2

/-- CIPHER_WARN and CIPHER_EXHAUSTED records: context, turnout, what is left of the counter (R430). -/
def State.logCtx (s : State) (type c : Nat) : State :=
  s.log wbCipher type (bytes 2 c ++ [BitVec.ofNat 8 (s.get Reg.CTX_STATUS_TURNOUT c), 0] ++ bytes 8 (ctrEnd - s.txCtr c))

/-- CIPHER_WARN: a counter of an ACTIVE context comes near its end (R431). -/
def State.ctxWarn (s : State) (c : Nat) : State :=
  let left := s.get Reg.CTX_HI_WARN_LEFT c * 2 ^ 24
  if s.ctxState c = 1 && (ctrEnd - s.txCtr c ≤ left || ctrEnd - 1 - s.rxLast c ≤ left) then
    (((s.setCtxState c 2).bump Cnt.WARN_EVENTS).set Reg.CIPH_EVENTS_WARN 1).logCtx 0x41 c
  else s

/-- A context enters EXHAUSTED; the record is written on the way out of ACTIVE or WARNED (R430, R432). -/
def State.ctxExhaust (s : State) (c : Nat) : State :=
  if s.ctxState c = 3 then s
  else
    let was := s.ctxState c == 1 || s.ctxState c == 2
    let s1 := ((s.setCtxState c 3).bump Cnt.EXHAUST_EVENTS).set Reg.CIPH_EVENTS_EXHAUSTED 1
    if was then s1.logCtx 0x42 c else s1

/-- The cipher reads a context and its key: a word whose copies are both bad exhausts the context (R555, R556). -/
def State.fetchCtx (s : State) (c : Nat) : State :=
  let r := s.memReads2 12 (ctxWord c) 2 11
  let q := r.2.memReads2 12 (keyWord (s.get Reg.CTX_STATUS_KEY c)) 4 11
  if r.1 || q.1 then (q.2.ctxExhaust c).bite 11 none else q.2

/-! ### Units (R413–R417) -/

/-- C of R414 for a unit of `u` bits. -/
def unitBytes (u : Nat) : Nat := (u - 192) / 8

/-- The plaintext bytes of a turnout's frame unit (R413, R414). -/
def State.frameUnit (s : State) (t : Nat) : Nat := unitBytes (6250 * s.members t)

/-- `n` is the length of the plaintext of a turnout's unit: of a leaf's own turnout, that of a burst of some codewords (R413, R414). -/
def State.unitFits (s : State) (t n : Nat) : Bool :=
  if s.ownTurnout = some t then
    let b := burstBytes (s.get Reg.TXS_LEAF_CFG_BURST_RATE_SEL)
    decide (0 < (n + 24) / b) && (n + 24) % b == 0
  else n == s.frameUnit t

/-- The initialisation vector of R416. -/
def unitIv (salt : BitVec 56) (d : Bool) (ctr : Nat) : BitVec 96 :=
  BitVec.ofNat 96 (bitsOf salt.toNat 1 55 * 2 ^ 41 + b2n d * 2 ^ 40 + ctr % ctrEnd)

/-- The header of R415. -/
def unitHeader (phase exh : Bool) (ctr : Nat) : BitVec 64 := BitVec.ofNat 64 (b2n phase * 2 ^ 63 + b2n exh * 2 ^ 62 + ctr % ctrEnd)

/-- The tag of a unit under context `c` (R416); `d` is the direction bit. -/
def State.unitTag (s : State) (c : Nat) (d : Bool) (header : List Byte) (ct : List Byte) : BitVec 128 :=
  gcmTag (s.keySlot (s.get Reg.CTX_STATUS_KEY c)).key (unitIv (s.salt c) d (be 8 header 0 % ctrEnd)) header ct

def State.cipherTn (s : State) (t : Nat) : CipherTurnout := tget {} s.cip.turnouts t
def State.setCipherTn (s : State) (t : Nat) (x : CipherTurnout) : State :=
  { s with cip := { s.cip with turnouts := tput {} s.cip.turnouts t x } }

/-- The cipher works on a turnout: protected, coherent blocks running (R412). -/
def State.ciphered (s : State) (t : Nat) : Bool := s.coherent && s.flag Reg.TN_CIPHER_PROTECT t

/-- The context of the transmitter. -/
def State.txCtx (s : State) (t : Nat) : Nat :=
  if s.flag Reg.TN_CIPH_STATUS_TX_SWITCHED t then s.get Reg.TN_CIPH_STATUS_NEXT_CTX t else s.get Reg.TN_CIPH_STATUS_CUR_CTX t

/-- The context that a received phase names (R435, R440). -/
def State.rxCtx (s : State) (t : Nat) (phase : Bool) : Option Nat :=
  let cur := s.get Reg.TN_CIPH_STATUS_CUR_CTX t
  if !s.attached cur then none
  else if s.flag Reg.CTX_STATUS_PHASE cur == phase then some cur
  else if s.flag Reg.TN_CIPH_STATUS_NEXT_VALID t then some (s.get Reg.TN_CIPH_STATUS_NEXT_CTX t)
  else none

/-! ### Pipelines (R419, R420, R445) -/

/-- Whether a PIPE value names pipelines (R419), and how many. -/
def pipeCount (pipe : Nat) : Nat :=
  if pipe = 1 || pipe = 2 || pipe = 4 || pipe = 8 then 1
  else if pipe = 3 || pipe = 12 then 2
  else if pipe = 15 then 4
  else 0

/-- The protected turnouts that pipeline `p` serves. -/
def State.served (s : State) (p : Nat) : List Nat :=
  (List.range 256).filter (fun t => s.flag Reg.TN_CIPHER_PROTECT t && bitsOf (s.get Reg.TN_CIPHER_PIPE t) p 1 == 1)

/-- Rills that pipeline `p` carries, in quarters. -/
def State.pipeQuarters (s : State) (p : Nat) : Nat :=
  ((s.served p).map (fun t => s.members t * (4 / max 1 (pipeCount (s.get Reg.TN_CIPHER_PIPE t))))).sum

/-- PIPE_USE follows. -/
def State.refreshPipes (s : State) : State :=
  (List.range 4).foldl (fun s p =>
    let ts := s.served p
    s.setReg (0x1A0040 + 4 * p) (BitVec.ofNat 32
      (ts.length + 2 ^ 8 * (ts.filter (fun t => s.flag Reg.TN_CIPH_STATUS_NEXT_VALID t)).length + 2 ^ 12 * ((s.pipeQuarters p + 3) / 4)))) s

/-! ### Attaching, rolling and detaching (R430, R440) -/

/-- A context comes into service on a turnout (R429–R432). -/
def State.attachCtx (s : State) (c t phase : Nat) (succ : Bool) : State :=
  let s1 := (s.raiseCtr c).enableObj 6 c
  let s2 := (((s1.set Reg.CTX_STATUS_TURNOUT t c).set Reg.CTX_STATUS_PHASE phase c).set Reg.CTX_STATUS_SUCCESSOR (b2n succ) c)
  if ctrEnd - 1 ≤ (s2.keySlot (s2.get Reg.CTX_STATUS_KEY c)).hw || s2.rxLast c = ctrEnd - 1 then s2.ctxExhaust c
  else (s2.setCtxState c 1).ctxWarn c

/-- A context leaves service: QUENCHED, quenched as object kind 6 (R430). -/
def State.detachCtx (s : State) (c : Nat) : State :=
  if s.attached c then (((s.setCtxState c 4).set Reg.CTX_STATUS_TURNOUT 0 c).set Reg.CTX_STATUS_SUCCESSOR 0 c).startQuench 6 c else s

/-- CIPHER_ROLL_RETIRE: the transmitter has switched and the receiver has accepted a unit of the new phase (R440 step 3). -/
def State.rollRetire (s : State) (t : Nat) : State :=
  if s.flag Reg.TN_CIPH_STATUS_TX_SWITCHED t && (s.cipherTn t).newPhase then
    let old := s.get Reg.TN_CIPH_STATUS_CUR_CTX t
    let new := s.get Reg.TN_CIPH_STATUS_NEXT_CTX t
    let s1 := ((s.detachCtx old).set Reg.CTX_STATUS_SUCCESSOR 0 new).setCipherTn t { s.cipherTn t with newPhase := false }
    let s2 := (((s1.set Reg.TN_CIPH_STATUS_CUR_CTX new t).set Reg.TN_CIPH_STATUS_NEXT_CTX 0 t).set Reg.TN_CIPH_STATUS_NEXT_VALID 0 t).set
      Reg.TN_CIPH_STATUS_TX_SWITCHED 0 t
    (((s2.bump Cnt.ROLLS).set Reg.CIPH_EVENTS_ROLL_DONE 1).log wbCipher 0x44 ([BitVec.ofNat 8 t, 0] ++ bytes 2 old ++ bytes 2 new)).refreshPipes
  else s

/-! ### Sending a unit (R416, R428, R431, R432) -/

/-- A unit protected under context `c`. -/
def State.sendUnit (s : State) (t c : Nat) (plain : List Byte) : State :=
  let ctr := s.txCtr c
  let slot := s.get Reg.CTX_STATUS_KEY c
  let ks := s.keySlot slot
  let d := s.flag Reg.CTX_STATUS_TX_DIR c
  let header := bytesBe 8 (unitHeader (s.flag Reg.TN_CIPH_STATUS_TX_PHASE t) false ctr).toNat
  let ct := gctr ks.key (unitIv (s.salt c) d ctr) plain
  let tag := s.unitTag c d header ct
  let s1 := (s.setKeySlot slot { ks with hw := max ks.hw ctr }).setTxCtr c (min (ctr + 1) (ctrEnd - 1))
  let unit := header ++ ct ++ bytesBe 16 tag.toNat
  let s2 := (s1.setCipherTn t { s1.cipherTn t with sent := unit, out := unit }).set Reg.TN_CIPH_STATUS_EXH_TX 0 t
  let s3 := s2.memWrites2 12 (ctxWord c) 2
  if ctr = ctrEnd - 1 then s3.ctxExhaust c else s3.ctxWarn c

/-- Key-exhausted idle (R432). -/
def State.sendIdle (s : State) (t n : Nat) : State :=
  let header := bytesBe 8 (unitHeader (s.flag Reg.TN_CIPH_STATUS_TX_PHASE t) true 0).toNat
  let unit := header ++ List.replicate (n + 16) 0
  let s1 := (s.setCipherTn t { s.cipherTn t with sent := unit, out := unit }).set Reg.TN_CIPH_STATUS_EXH_TX 1 t
  s1.bump Cnt.EXH_IDLE_TX t

/-- The plaintext of a turnout's next unit, of the length of `plain` (R417): a packet turnout's blocks, packed from bit 0; an Ethernet client's are the
operand. -/
def State.unitPlain (s : State) (t : Nat) (plain : List Byte) : List Byte × State :=
  if s.kind t = 3 then
    let b := s.takeBlocks t (8 * plain.length)
    (bitBytes plain.length b.1, b.2)
  else (plain, s)

/-- CIPHER_UNIT_TX: a unit of a protected turnout is sent with the next TX_CTR, or as key-exhausted idle (R428, R432). -/
def execCipherUnitTx (turnout : Fin 256) (plain : List Byte) (s : State) : Out :=
  let t := turnout.val
  let c := s.txCtx t
  if !s.ciphered t || !s.unitFits t plain.length || !s.attached c then .next s
  else
    let s1 := if s.ctxState c = 3 then s else s.fetchCtx c
    if s1.ctxState c = 3 then done s (s1.sendIdle t plain.length)
    else
      let p := s1.unitPlain t plain
      done s (p.2.sendUnit t c p.1)

/-! ### Receiving a unit (R435–R439) -/

/-- The 257-bit blocks of a protected Ethernet unit (R417). -/
def State.unitBlocks (s : State) (t : Nat) : Nat := 8 * s.frameUnit t / 257

/-- Every block of an Ethernet unit becomes an error block (R402, R437). -/
def State.unitErrBlocks (s : State) (t : Nat) : State :=
  if s.kind t = 1 then s.bump Cnt.ETH_ERR_BLOCKS 0 0 (s.unitBlocks t) else s

/-- CIPHER_AUTH_FAIL record (R439). -/
def State.logAuth (s : State) (t cls c ctr released : Nat) (aborted : Bool) : State :=
  s.log wbCipher 0x43 ([BitVec.ofNat 8 t, BitVec.ofNat 8 cls] ++ bytes 2 c ++ bytes 8 ctr ++ bytes 4 released ++ [BitVec.ofNat 8 (b2n aborted)])

/-- A received unit's plaintext is read: the packet that runs on beyond it, the packets that end in it. -/
def State.readUnit (s : State) (t : Nat) (plain : List Byte) : Option (List Byte) × List (List Byte) :=
  (plainBlocks plain).foldl readBlock ((s.cipherTn t).openPkt, [])

/-- What becomes of the packets with bytes in a bad unit (R437): under verified release all are dropped; under early release those that end in it have been
released, and the one that runs on is ended with a stomped FCS (R438). `plain` is empty where the unit is not decrypted. Answers also the packets
released unverified and whether one was aborted. -/
def State.badPackets (s : State) (t : Nat) (plain : List Byte) : State × Nat × Bool :=
  if s.kind t ≠ 3 then (s.unitErrBlocks t, 0, false)
  else
    let x := s.cipherTn t
    let r := s.readUnit t plain
    let s1 := s.setCipherTn t { x with openPkt := none }
    let n := r.2.length
    if !s.flag Reg.TN_CIPHER_RELEASE t then
      (if n + b2n r.1.isSome = 0 then s1 else s1.bump Cnt.VERIFY_DROPS t 0 (n + b2n r.1.isSome), 0, false)
    else
      let s2 := if n = 0 then s1 else s1.bump Cnt.RELEASED_UNVERIFIED t 0 n
      let cut := match r.1 with | some b => [b ++ stomped b] | none => []
      let s3 := s2.setCipherTn t { s2.cipherTn t with inbox := x.inbox ++ r.2 ++ cut }
      (if r.1.isSome then s3.bump Cnt.ABORTED t else s3, n, r.1.isSome)

/-- A unit of one of the three blocking classes: record, and the turnout blocks unless ON_FAIL is CONTINUE (R439). -/
def State.authFail (s : State) (t cls c ctr : Nat) (plain : List Byte) : State :=
  let r := s.badPackets t plain
  let s1 := r.1.logAuth t cls c ctr r.2.1 r.2.2
  if s.flag Reg.TN_CIPHER_ON_FAIL t then s1 else (s1.set Reg.TN_CIPH_STATUS_BLOCKED 1 t).set Reg.CIPH_EVENTS_BLOCKED 1

/-- The class that the header decides: the class and the context (R435, R439). -/
def State.headerClass (s : State) (t : Nat) (header : BitVec 64) (marked : Bool) : UnitClass × Nat :=
  let h := header.toNat
  let cur := s.get Reg.TN_CIPH_STATUS_CUR_CTX t
  if s.flag Reg.TN_CIPH_STATUS_BLOCKED t then (.blocked, cur)
  else if !marked && bitsOf h 62 1 = 1 then (.idle, cur)
  else if marked then (.damaged, cur)
  else match s.rxCtx t (bitsOf h 63 1 == 1) with
    | none => (.noContext, cur)
    | some c =>
      if s.ctxState c = 3 then (.noContext, c)
      else if h % ctrEnd ≤ s.rxLast c then (.replay, c)
      else (.open_, c)

/-- CIPHER_UNIT_RX: the header of a received unit decides idle, damaged, no context, replay or blocked; else the unit waits for its tag (R435–R439).
No part of a unit decided here is decrypted, so only a packet begun earlier is dropped or cut by it. -/
def execCipherUnitRx (turnout : Fin 256) (header : BitVec 64) (marked : Bool) (s : State) : Out :=
  let t := turnout.val
  if !s.ciphered t || (s.cipherTn t).rx.isSome then .next s
  else
    let phaseCtx := s.rxCtx t (bitsOf header.toNat 63 1 == 1)
    let s0 := if s.flag Reg.TN_CIPH_STATUS_BLOCKED t || marked || bitsOf header.toNat 62 1 = 1 then s
      else match phaseCtx with
        | some c => if s.ctxState c = 3 then s else s.fetchCtx c
        | none => s
    let k := s0.headerClass t header marked
    let ctr := header.toNat % ctrEnd
    let s1 := s0.setCipherTn t { s0.cipherTn t with rx := some { cls := k.1, header := header, ctx := k.2 } }
    match k.1 with
    | .blocked => done s ((s1.bump Cnt.BLOCKED_DISCARDS t).unitErrBlocks t)
    | .idle => done s ((s1.bump Cnt.EXH_IDLE_RX t).unitErrBlocks t)
    | .damaged => done s (((s1.bump Cnt.DAMAGED_UNITS t).set Reg.CIPH_EVENTS_DAMAGED 1).badPackets t []).1
    | .noContext => done s (((s1.bump Cnt.AUTH_FAILS t).set Reg.CIPH_EVENTS_AUTH_FAIL 1).authFail t 3 k.2 ctr [])
    | .replay => done s (((s1.bump Cnt.REPLAYS t).set Reg.CIPH_EVENTS_REPLAY 1).authFail t 2 k.2 ctr [])
    | .tagFail | .open_ => done s s1

/-- A good unit: RX_LAST, UNITS_OK, its packets released, the counter's end, the retirement of the old context (R428, R431, R432, R435, R440). -/
def State.goodUnit (s : State) (t c ctr : Nat) (plain : List Byte) : State :=
  let x := s.cipherTn t
  let r := if s.kind t = 3 then s.readUnit t plain else (none, [])
  let s1 := (((s.setRxLast c ctr).bump Cnt.UNITS_OK t).memWrites2 12 (ctxWord c) 2).setCipherTn t
    { x with openPkt := r.1, inbox := x.inbox ++ r.2, newPhase := x.newPhase || s.flag Reg.CTX_STATUS_SUCCESSOR c }
  let s2 := if ctr = ctrEnd - 1 && s1.attached c then s1.ctxExhaust c else s1.ctxWarn c
  s2.rollRetire t

/-- CIPHER_UNIT_END: the unit's ciphertext and tag are in: it is decrypted, and verified and delivered, or dropped, stomped, blocked (R416, R435–R439). A unit
that its header decided just ends; one under a context that is STOPPING is finished (R52). The unit is damaged where one of its bits is `marked` or one of its
slots `failed`; its pad is ignored (R414, R435). -/
def execCipherUnitEnd (turnout : Fin 256) (ciphertext : List Byte) (tag : BitVec 128) (_pad : BitVec 7) (marked failed : Bool) (s : State) : Out :=
  let t := turnout.val
  match (s.cipherTn t).rx with
  | none => .next s
  | some u =>
    let s1 := s.setCipherTn t { s.cipherTn t with rx := none }
    if u.cls ≠ .open_ || !s.ciphered t || !(s.attached u.ctx || s.qState 6 u.ctx == 1) then done s s1
    else
      let header := bytesBe 8 u.header.toNat
      let ctr := u.header.toNat % ctrEnd
      let d := !s1.flag Reg.CTX_STATUS_TX_DIR u.ctx
      let plain := gctr (s1.keySlot (s1.get Reg.CTX_STATUS_KEY u.ctx)).key (unitIv (s1.salt u.ctx) d ctr) ciphertext
      if tag = s1.unitTag u.ctx d header ciphertext then done s (s1.goodUnit t u.ctx ctr plain)
      else if marked || failed then done s (((s1.bump Cnt.DAMAGED_UNITS t).set Reg.CIPH_EVENTS_DAMAGED 1).badPackets t plain).1
      else done s (((s1.bump Cnt.AUTH_FAILS t).set Reg.CIPH_EVENTS_AUTH_FAIL 1).authFail t 1 u.ctx ctr plain)

/-! ### The key bus (R39, R421) -/

/-- A failed unwrap (R423): counter, event, record with both slot numbers. -/
def State.unwrapFailed (s : State) (slot kek : Nat) : State :=
  ((s.bump Cnt.UNWRAP_FAILS).set Reg.CIPH_EVENTS_UNWRAP_FAIL 1).log wbCipher 0x40 (bytes 2 slot ++ bytes 2 kek)

/-- Add a transfer to the key bus. -/
def State.busPush (s : State) (x : KeyTransfer) : State :=
  { s with cip := { s.cip with bus := s.cip.bus ++ [x], busSince := if s.cip.bus.isEmpty then s.clock else s.cip.busSince } }

/-- A context-activation load is on the bus or waits for it. -/
def State.busLoads (s : State) : Bool := s.cip.bus.any (fun x => x.activation)

/-- KEY_IMPORT carried out (R423, R443). -/
def State.importKey (s : State) (p : List Byte) : State × Reply :=
  let slot := u16 p 0
  let kek := u16 p 2
  if (s.get Reg.KS_STATUS_STATE 0 = 0 && !(List.range 512).any s.isKek) || s.k0Denied kek then (s, err cDENIED)
  else if s.get Reg.KS_STATUS_STATE slot ≠ 0 || !s.isKek kek then (s, err cINVALID)
  else match keyUnwrap (s.keySlot kek).key ((p.drop 8).take 40) with
    | none => (s.unwrapFailed slot kek, err cINVALID)
    | some key =>
      let s1 := (s.placeKey slot (u8 p 4) (key.take 32) 0).bump Cnt.KEY_IMPORTS
      (s1, okD (bytes 4 (s1.get Reg.KS_KCV_KCV slot)))

/-- CIPHER_VERIFY carried out: the tag a receiver of the context would compute (R441). -/
def State.verifyTag (s : State) (p : List Byte) : State × Reply :=
  let c := u16 p 0
  if !s.flag Reg.CTX_STATUS_KEY_VALID c || s.k0Denied (s.get Reg.CTX_STATUS_KEY c) then (s, err cDENIED)
  else
    let header := (p.drop 4).take 8
    let tag := BitVec.ofNat 128 (be 16 p 12)
    let good := tag == s.unitTag c (!s.flag Reg.CTX_STATUS_TX_DIR c) header (p.drop 28)
    let s1 := s.bump Cnt.VERIFY_REQS
    (if good then s1 else s1.bump Cnt.VERIFY_FAILS, okD [BitVec.ofNat 8 (b2n good), 0, 0, 0])

/-- A command that moves a key over the bus: at once, or after the activation loads that it meets (R39, R442). -/
def keyCommand (mb op : Nat) (s : State) (f : State → List Byte → State × Reply) : Out :=
  actLong mb op s (fun p s =>
    if s.blocksOff then (s, some (err cDENIED))
    else if s.busLoads then (s.busPush { activation := false, mb := some mb }, none)
    else let r := f s p; (r.1.busPush { activation := false }, some r.2))

/-- KEY_IMPORT (R423, R443, R39). -/
def execKeyImport (mb : Fin 8) (s : State) : Out := keyCommand mb.val 0x0701 s State.importKey

/-- CIPHER_VERIFY (R441, R442). -/
def execCipherVerify (mb : Fin 8) (s : State) : Out := keyCommand mb.val 0x070B s State.verifyTag

/-- KEY_TRANSFER_DONE: 64 control cycles after it began, the transfer in progress ends; a command that waited for it completes and is answered
(R39, R421). -/
def execKeyTransferDone (s : State) : Out :=
  match s.cip.bus with
  | [] => .next s
  | x :: rest =>
    if s.clock < s.cip.busSince + nsT 64 then .next s
    else
      let s1 := { s with cip := { s.cip with bus := rest, busSince := s.clock } }
      match x.mb with
      | none => done s s1
      | some mb =>
        let m := s1.mbox mb
        if m.phase ≠ .running then done s s1
        else
          let r := if m.opcode = 0x0701 then s1.importKey m.payload else s1.verifyTag m.payload
          done s (r.1.answer mb r.2)

/-! ### Staged settings (R449, R450) -/

/-- The form of a record to be restored. -/
def restoreForm (p : List Byte) : Nat := u8 p 2

def applyCipher (c : Staged) (s : State) : State :=
  let p := c.payload
  let salt (l : List Byte) (off : Nat) : BitVec 56 := BitVec.ofNat 56 (be 7 l off)
  if c.op = 0x0704 then
    (s.set Reg.CTX_HI_WARN_LEFT (u16 p 22) (u16 p 0)).writeCtx (u16 p 0) (u16 p 2) (BitVec.ofNat 56 (le 7 p 4)) (u8 p 11 == 1) (le 5 p 12) (le 5 p 17)
  else if c.op = 0x0705 then s.clearCtx (u16 p 0)
  else if c.op = 0x0707 && restoreForm p = 0 then
    s.writeCtx (u16 p 0) (u16 p 8) (salt p 14) (bitsOf (u8 p 21) 0 1 == 1) (be 5 p 22) (be 5 p 27)
  else if c.op = 0x0707 then
    let x := c.extra
    (s.placeKey (u16 p 4) 1 (x.take 32) (be 5 x 40 - 1)).writeCtx (u16 p 0) (u16 p 4) (salt x 32) (bitsOf (u8 x 39) 0 1 == 1) (be 5 x 40) (be 5 x 45)
  else if c.op = 0x0708 then setWord s (0x1A2000 + 0x40 * u8 p 0) 0x0003FF7F (u32 p 4)
  else s

/-- The turnouts whose protection a commit sets. -/
def cipherSets (cs : List Staged) : List Nat := ((cs.filter (opIn [0x0708])).map (fun c => u8 c.payload 0)).eraseDups

/-- The rollovers that a commit arms or switches: turnout, successor, TX_NOW. -/
def cipherRolls (cs : List Staged) : List (Nat × Nat × Bool) :=
  (cs.filter (opIn [0x0709])).map (fun c => (u8 c.payload 0, u16 c.payload 1, u8 c.payload 3 == 1))

/-- A protected turnout keeps its context in service through the commit. -/
def keepsCtx (old n : State) (t : Nat) : Bool :=
  old.flag Reg.TN_CIPHER_PROTECT t && n.flag Reg.TN_CIPHER_PROTECT t &&
    old.get Reg.TN_CIPH_STATUS_CUR_CTX t == n.get Reg.TN_CIPHER_CTX t && old.attached (n.get Reg.TN_CIPHER_CTX t)

/-- The contexts that a commit brings into service (R421, R429): turnout and context, whether as a successor. -/
def freshCtxs (cs : List Staged) (old n : State) : List (Nat × Nat × Bool) :=
  (((cipherSets cs).filter (fun t => n.flag Reg.TN_CIPHER_PROTECT t && !keepsCtx old n t)).map (fun t => (t, n.get Reg.TN_CIPHER_CTX t, false))) ++
    (((cipherRolls cs).filter (fun r => !r.2.2)).map (fun r => (r.1, r.2.1, true)))

/-- The key transfers that the acceptance of a commit starts (R421). -/
def State.queueLoads (s : State) (cs : List Staged) (old n : State) : State :=
  (freshCtxs cs old n).foldl (fun s _ => s.busPush { activation := true }) s

/-- A turnout's protection is set (R430). -/
def State.cipherSet (old s : State) (t : Nat) : State :=
  if keepsCtx old s t then s
  else
    let s1 := if old.flag Reg.TN_CIPHER_PROTECT t then
        let a := s.detachCtx (old.get Reg.TN_CIPH_STATUS_CUR_CTX t)
        let b := if old.flag Reg.TN_CIPH_STATUS_NEXT_VALID t then a.detachCtx (old.get Reg.TN_CIPH_STATUS_NEXT_CTX t) else a
        b
      else s
    let blocked := s1.flag Reg.TN_CIPHER_PROTECT t && s1.flag Reg.TN_CIPH_STATUS_BLOCKED t
    let s2 := ((s1.setReg (0x1A2004 + 0x40 * t) 0).set Reg.TN_CIPH_STATUS_BLOCKED (b2n blocked) t).setCipherTn t { sent := (s1.cipherTn t).sent }
    if s2.flag Reg.TN_CIPHER_PROTECT t then
      let c := s2.get Reg.TN_CIPHER_CTX t
      (s2.attachCtx c t 0 false).set Reg.TN_CIPH_STATUS_CUR_CTX c t
    else s2

/-- A rollover is armed, or the transmitter switches (R440). -/
def State.cipherRoll (s : State) (r : Nat × Nat × Bool) : State :=
  let t := r.1
  let cur := s.get Reg.TN_CIPH_STATUS_CUR_CTX t
  let phase := 1 - s.get Reg.CTX_STATUS_PHASE cur
  if !r.2.2 then
    (((s.attachCtx r.2.1 t phase true).set Reg.TN_CIPH_STATUS_NEXT_CTX r.2.1 t).set Reg.TN_CIPH_STATUS_NEXT_VALID 1 t).setCipherTn t
      { s.cipherTn t with newPhase := false }
  else if s.flag Reg.TN_CIPH_STATUS_NEXT_VALID t then
    ((s.set Reg.TN_CIPH_STATUS_TX_SWITCHED 1 t).set Reg.TN_CIPH_STATUS_TX_PHASE phase t).rollRetire t
  else s

/-- The part of a commit boundary in the cipher (R421, R429, R430, R440, R443). -/
def State.cipherBoundary (cs : List Staged) (old s : State) : State :=
  let s1 := (cipherSets cs).foldl (State.cipherSet old) s
  let s2 := (cipherRolls cs).foldl State.cipherRoll s1
  let s3 := if s2.get Reg.MODE_CTRL_MODE = 3 && old.get Reg.MODE_CTRL_MODE ≠ 3 then (List.range 1024).foldl State.detachCtx s2 else s2
  s3.refreshPipes

/-- The successors held in pipeline `p` after the commit. -/
def succUse (cs : List Staged) (old n : State) (p : Nat) : Nat :=
  ((n.served p).filter (fun t =>
    (cipherRolls cs).any (fun r => r.1 == t && !r.2.2) ||
      (old.flag Reg.TN_CIPH_STATUS_NEXT_VALID t && (!(cipherSets cs).contains t || keepsCtx old n t)))).length

/-- The rules of this chapter that fail validation (R412, R419, R420, R434, R436, R440, R443, R449). -/
def cipherChecks : List Check := [
  { rule := 412
    bad := fun _ _ n => (List.range 256).any (fun t => n.flag Reg.TN_CIPHER_PROTECT t && n.kind t != 1 && n.kind t != 3)
    reads := opIn [0x0708, 0x0601] },
  { rule := 419
    bad := fun _ _ n => (List.range 256).any (fun t => n.flag Reg.TN_CIPHER_PROTECT t &&
        decide (512 * pipeCount (n.get Reg.TN_CIPHER_PIPE t) < max 1 (n.members t))) ||
      (List.range 4).any (fun p => 2048 < n.pipeQuarters p)
    reads := opIn [0x0708, 0x0601] },
  { rule := 420
    bad := fun cs o n => (List.range 4).any (fun p => 64 < (n.served p).length || 8 < succUse cs o n p)
    reads := opIn [0x0708, 0x0709] },
  { rule := 436
    bad := fun cs _ n => (List.range 256).any (fun t => n.flag Reg.TN_CIPHER_RELEASE t && n.kind t != 3 &&
      (n.flag Reg.TN_CIPHER_PROTECT t || (cipherSets cs).contains t))
    reads := opIn [0x0708, 0x0601] },
  { rule := 440
    bad := fun cs o n => (cipherRolls cs).any (fun r =>
      if r.2.2 then !((o.flag Reg.TN_CIPH_STATUS_NEXT_VALID r.1 && o.get Reg.TN_CIPH_STATUS_NEXT_CTX r.1 == r.2.1) ||
        (cipherRolls cs).contains (r.1, r.2.1, false))
      else o.flag Reg.TN_CIPH_STATUS_NEXT_VALID r.1 || !n.flag Reg.TN_CIPHER_PROTECT r.1 ||
        decide (1 < ((cipherRolls cs).filter (fun q => q.1 == r.1 && !q.2.2)).length))
    reads := opIn [0x0709, 0x0708] },
  { rule := 443
    bad := fun cs o _ => cs.any (fun c => opIn [0x0704, 0x0705, 0x0707] c && o.attached (u16 c.payload 0))
    reads := opIn [0x0704, 0x0705, 0x0707] },
  { rule := 449
    bad := fun cs o n =>
      cs.any (fun c => opIn [0x0704, 0x0707] c && n.flag Reg.CTX_STATUS_KEY_VALID (u16 c.payload 0) &&
        n.get Reg.KS_STATUS_STATE (n.get Reg.CTX_STATUS_KEY (u16 c.payload 0)) != 1) ||
      cs.any (fun c => opIn [0x0707] c && restoreForm c.payload == 1 && o.get Reg.KS_STATUS_STATE (u16 c.payload 4) != 0) ||
      (freshCtxs cs o n).any (fun x => o.attached x.2.1 || !n.flag Reg.CTX_STATUS_KEY_VALID x.2.1) ||
      !nodup ((freshCtxs cs o n).map (fun x => x.2.1))
    reads := opIn [0x0704, 0x0707, 0x0708, 0x0709] }]

/-! ### Commands (R449) -/

/-- KEY_ERASE (R425). -/
def execKeyErase (mb : Fin 8) (s : State) : Out :=
  actOn mb.val 0x0702 s (fun p s =>
    let k := u16 p 0
    if s.get Reg.KS_STATUS_STATE k = 3 || s.get Reg.KS_STATUS_REFS k ≠ 0 then (s, err cDENIED) else (s.eraseKey k, ok))

/-- KEY_STATUS_GET. -/
def execKeyStatusGet (mb : Fin 8) (s : State) : Out :=
  report mb.val 0x0703 s (fun p s => okD (wordBytes [s.reg (0x1A1000 + 8 * u16 p 0), s.reg (0x1A1004 + 8 * u16 p 0)]))

/-- CTX_WRITE, staged (R427, R428, R450). -/
def execCtxWrite (mb : Fin 8) (s : State) : Out :=
  stage mb.val 0x0704 (fun p => [(.ctx, u16 p 0)]) s
    (refuse := fun p s => if s.get Reg.KS_STATUS_STATE (u16 p 2) ≠ 1 then some (err cINVALID) else none)

/-- CTX_CLEAR, staged (R450). -/
def execCtxClear (mb : Fin 8) (s : State) : Out := stage mb.val 0x0705 (fun p => [(.ctx, u16 p 0)]) s

/-- The clear form of a saved record (R433). -/
def State.clearRecord (s : State) (c : Nat) : List Byte :=
  let k := s.get Reg.CTX_STATUS_KEY c
  bytes 2 k ++ bytes 4 (s.get Reg.KS_KCV_KCV k) ++ bytesBe 7 (s.salt c).toNat ++
    [BitVec.ofNat 8 (s.get Reg.CTX_STATUS_TX_DIR c + 2 * s.get Reg.CTX_STATUS_KEY_VALID c)] ++ bytesBe 5 (s.txCtr c) ++ bytesBe 5 (s.rxLast c)

/-- The 56 bytes that the wrapped form wraps (R433). -/
def State.wrapBody (s : State) (c : Nat) : List Byte :=
  s.keyBytes (s.get Reg.CTX_STATUS_KEY c) ++ bytesBe 7 (s.salt c).toNat ++
    [BitVec.ofNat 8 (s.get Reg.CTX_STATUS_TX_DIR c + 2 * s.get Reg.CTX_STATUS_KEY_VALID c)] ++ bytesBe 5 (s.txCtr c) ++ bytesBe 5 (s.rxLast c) ++
    List.replicate 6 0

/-- CTX_SAVE (R433). -/
def execCtxSave (mb : Fin 8) (s : State) : Out :=
  report mb.val 0x0706 s (fun p s =>
    let c := u16 p 0
    let form := u8 p 2
    let kek := u16 p 4
    if s.blocksOff then err cDENIED
    else if p.length ≠ 4 + 4 * form || !s.flag Reg.CTX_STATUS_KEY_VALID c then err cINVALID
    else if form = 0 then okD (s.clearRecord c)
    else if s.k0Denied kek then err cDENIED
    else if !s.isKek kek then err cINVALID
    else okD (bytes 2 kek ++ keyWrap (s.keySlot kek).key (s.wrapBody c)))

/-- What a wrapped record of CTX_RESTORE unwraps to (R434). -/
def State.restoreBody (s : State) (p : List Byte) : Option (List Byte) := keyUnwrap (s.keySlot (u16 p 8)).key ((p.drop 10).take 64)

/-- The refusals of CTX_RESTORE when it is staged (R434). -/
def State.restoreRefuse (s : State) (p : List Byte) : Option Reply :=
  let slot := u16 p 8
  if restoreForm p = 0 then
    if p.length ≠ 32 || 512 ≤ slot || s.get Reg.KS_STATUS_STATE slot ≠ 1 || s.get Reg.KS_KCV_KCV slot ≠ u32 p 10 || be 5 p 22 = 0 then
      some (err cINVALID)
    else none
  else if p.length ≠ 74 || 512 ≤ u16 p 4 then some (err cINVALID)
  else if s.k0Denied slot then some (err cDENIED)
  else if !s.isKek slot || s.get Reg.KS_STATUS_STATE (u16 p 4) ≠ 0 then some (err cINVALID)
  else none

/-- CTX_RESTORE, staged; a failed unwrap is answered and counted as R423 says (R434, R450). -/
def execCtxRestore (mb : Fin 8) (s : State) : Out :=
  match s.request mb.val 0x0707 with
  | none => .next s
  | some p =>
    if restoreForm p = 1 && (s.mbox mb.val).txn.state = 1 && (s.restoreRefuse p).isNone && (s.restoreBody p).isNone && s.get Reg.FW_STATUS_STATE ≠ 4 then
      done s ((({ s with lastServed := mb.val }).unwrapFailed (u16 p 4) (u16 p 8)).answer mb.val (err cINVALID))
    else
      stage mb.val 0x0707 (fun p => [(.ctx, u16 p 0)]) s (refuse := fun p s => s.restoreRefuse p)
        (extra := fun p s => (if restoreForm p = 1 then s.stagedExtra mb.val ((s.restoreBody p).getD []) else s, []))

/-- CIPHER_TURNOUT_SET, staged (R450). -/
def execCipherTurnoutSet (mb : Fin 8) (s : State) : Out := stage mb.val 0x0708 (fun p => [(.turnout, u8 p 0)]) s

/-- CIPHER_ROLL, staged (R440, R450). -/
def execCipherRoll (mb : Fin 8) (s : State) : Out :=
  stage mb.val 0x0709 (fun p => [(.turnout, u8 p 0)]) s
    (refuse := fun p s =>
      let t := u8 p 0
      let armed := (s.flag Reg.TN_CIPH_STATUS_NEXT_VALID t && s.get Reg.TN_CIPH_STATUS_NEXT_CTX t == u16 p 1) ||
        (cipherRolls (s.mbox mb.val).txn.staged).contains (t, u16 p 1, false)
      if u8 p 3 = 1 && !armed then some (err cINVALID) else none)

/-- CIPHER_UNBLOCK: delivery resumes with the next unit that starts (R439, R443). -/
def execCipherUnblock (mb : Fin 8) (s : State) : Out :=
  actOn mb.val 0x070A s (fun p s => (s.set Reg.TN_CIPH_STATUS_BLOCKED 0 (u8 p 0), ok))

/-- CIPHER_STATUS_GET. -/
def execCipherStatusGet (mb : Fin 8) (s : State) : Out :=
  report mb.val 0x070C s (fun p s => okD (wordBytes ((List.range 13).map (fun k => s.reg (0x1A2000 + 0x40 * u8 p 0 + 4 * k)))))

/-- CTX_STATUS_GET. -/
def execCtxStatusGet (mb : Fin 8) (s : State) : Out :=
  report mb.val 0x070D s (fun p s => okD (wordBytes ((List.range 5).map (fun k => s.reg (0x1B0000 + 0x20 * u16 p 0 + 4 * k)))))

/-- Entry of test access level 3: K1–K511 are erased, and every context goes to QUENCHED without a key (R730). -/
def State.zeroize (s : State) : State :=
  let s1 := (List.range 511).foldl (fun s k => if s.get Reg.KS_STATUS_STATE (k + 1) = 0 then s else s.eraseKey (k + 1)) s
  let s2 := (List.range 1024).foldl (fun s c => ((s.detachCtx c).dropKey c).setCtxState c 4) s1
  { s2 with test := { s2.test with k0Refused := true } }

/-- The payload rows of R449. -/
def payloadsCipher : List PayloadRow := [
  ⟨0x0701, .fix 48, [.num 0 2 0 511, .num 2 2 0 511, .num 4 1 1 2, .zero 5 3]⟩,
  ⟨0x0702, .fix 4, [.num 0 2 0 511, .zero 2 2]⟩,
  ⟨0x0703, .fix 4, [.num 0 2 0 511, .zero 2 2]⟩,
  ⟨0x0704, .fix 24, [.num 0 2 0 1023, .num 2 2 0 511, .num 11 1 0 1, .num 12 5 1 0xFFFFFFFFFF, .num 22 2 1 65535]⟩,
  ⟨0x0705, .fix 4, [.num 0 2 0 1023, .zero 2 2]⟩,
  ⟨0x0706, .either 4 8, [.num 0 2 0 1023, .num 2 1 0 1, .zero 3 1, .given 2 1 1 (.num 4 2 0 511), .given 2 1 1 (.zero 6 2)]⟩,
  ⟨0x0707, .either 32 74, [.num 0 2 0 1023, .num 2 1 0 1, .zero 3 1, .given 2 0 0 (.zero 4 2), .given 2 1 1 (.num 4 2 0 511), .zero 6 2]⟩,
  ⟨0x0708, .fix 8, [.zero 1 3]⟩,
  ⟨0x0709, .fix 4, [.num 1 2 0 1023, .num 3 1 0 1]⟩,
  ⟨0x070A, .fix 4, [.zero 1 3]⟩,
  ⟨0x070B, .plus 28 2 1, [.num 0 2 0 1023, .num 2 2 0 976]⟩,
  ⟨0x070C, .fix 4, [.zero 1 3]⟩,
  ⟨0x070D, .fix 4, [.num 0 2 0 1023, .zero 2 2]⟩]

end Sys2Proof.Machine
end

