-- ==== Sys2Proof/Machine/PerfCount.lean ====
section
/-! DEFINITION. Event counters of the packet plane (R709–R712): what counts into them. -/

namespace Sys2Proof.Machine

/-- Fabric cycles since reset: 1.6 GHz (R43). -/
def State.cycle (s : State) : Nat := s.clock * 8 / 65

/-- The cycles that the clock of a lateral has had (R43, R761): loop 5 gates that of ACTION laterals. -/
def State.latNow (s : State) (lat : Nat) : Nat := s.cycle - tget 0 s.eng.held lat

/-- Loop 5 at `f`/64 gates fabric cycle `c` (R761; log entry 79). -/
def cycleGated (f c : Nat) : Bool := c * f / 64 == (c + 1) * f / 64

/-- Add events to a 48-bit performance counter; its saturated flag is bit 31 of HI (R16, R710, R713). -/
def State.perfBump (s : State) (c : Ctr) (i j n : Nat) : State :=
  let a := c.addr i j
  let v := s.count c i j + n
  let flag := bitsOf (s.reg (a + 4)).toNat 31 1
  let sat := decide (2 ^ 48 ≤ v)
  let w := min v (2 ^ 48 - 1)
  let s1 := (s.setReg a (BitVec.ofNat 32 w)).setReg (a + 4) (BitVec.ofNat 32 (w / 2 ^ 32 + 2 ^ 31 * (if sat then 1 else flag)))
  if sat && flag = 0 then s1.set Reg.PERF_EVENTS_SATURATED 1 else s1

/-- `n` device events of number `ev` (R711). -/
def State.perfDev (s : State) (ev n : Nat) : State :=
  if n = 0 then s
  else (List.range 8).foldl (fun s i => if s.get Reg.DC_SEL_EVENT i = ev then s.perfBump Cnt.DC i 0 n else s) s

/-- Word `k` of an access asks bank `b`, which grants one access a cycle, for its word `k` cycles from now: events 6 and 7 (R504, R711; log entry 99). -/
def State.bankAccess (s : State) (b k : Nat) : State :=
  let r := s.cycle + k
  let x := tget (0, 0) s.pk.bankBusy b
  let slot := max r x.1
  let s1 := { s with pk := { s.pk with bankBusy := tput (0, 0) s.pk.bankBusy b (slot + 1, max x.2 slot) } }
  (s1.perfDev 6 1).perfDev 7 (slot - max r x.2)

/-- The EVENT fields of a lateral. -/
def lcSel (j : Nat) : Field :=
  match j with
  | 0 => Reg.LC_SEL_E0
  | 1 => Reg.LC_SEL_E1
  | 2 => Reg.LC_SEL_E2
  | _ => Reg.LC_SEL_E3

/-- `n` events of number `ev` of a lateral, counted while it is powered (R712). -/
def State.perfLat (s : State) (lat ev n : Nat) : State :=
  if n = 0 || !s.flag Reg.LAT_STATUS_POWERED lat then s
  else (List.range 4).foldl (fun s j => if s.get (lcSel j) lat = ev then s.perfBump Cnt.LC lat j n else s) s

end Sys2Proof.Machine
end

