-- ==== Sys2Proof/Machine/Inject.lean ====
section
/-! DEFINITION. Fault injectors as a unit meets them (R739–R741). -/

namespace Sys2Proof.Machine

/-- What an injector does to the unit that passes (R740). -/
inductive FiVerdict where
  | pass
  | drop
  | corrupt (bit : Nat)
  | hold
  deriving DecidableEq, Repr

def State.injector (s : State) (i : Nat) : Option Injector := tget none s.test.injectors i
def State.setInjector (s : State) (i : Nat) (x : Option Injector) : State :=
  { s with test := { s.test with injectors := tput none s.test.injectors i x } }

/-- The injector at a point and target. -/
def State.fiAt (s : State) (point target : Nat) : Option (Nat × Injector) :=
  (List.range 8).findSome? (fun i =>
    match s.injector i with
    | some x => if x.point = point && x.target = target then some (i, x) else none
    | none => none)

/-- FI_ACTIVE: an injector runs or a flip is armed (R741). -/
def State.refreshFi (s : State) : State :=
  s.set Reg.TEST_STATUS_FI_ACTIVE (b2n (s.get Reg.TEST_STATUS_FI_MASK ≠ 0 || s.flag Reg.FLIP_STATUS_ARMED))

/-- An injector stops: FI_END, its bits clear (R741). What it holds is sent by whoever stops it. -/
def State.fiEnd (s : State) (i : Nat) : State :=
  let s1 := (s.setInjector i none).set Reg.TEST_STATUS_FI_MASK (putBits (s.get Reg.TEST_STATUS_FI_MASK) i 1 0)
  (s1.set Reg.TEST_EVENTS_FI_END 1).refreshFi

/-- An injector has affected its COUNT units (R739). -/
def Injector.spent (x : Injector) : Bool := x.count ≠ 0 && decide (x.count ≤ x.hits)

/-- A unit of `bits` bits passes an injector's point (R739, R740): chosen every 2^N-th unit, or at random with probability 2⁻ᴺ. While an injector holds a
unit, or has affected COUNT units, it chooses no other (log entry 50). -/
def State.fiUnit (s : State) (point target bits : Nat) : State × FiVerdict :=
  match s.fiAt point target with
  | none => (s, .pass)
  | some (i, x) =>
    let r := if x.periodic then (x.seen + 1, s) else s.free 740
    let chosen := !x.spent && x.held.isNone && r.1 % 2 ^ x.n == 0
    let x1 := { x with seen := x.seen + 1 }
    if !chosen then (r.2.setInjector i (some x1), .pass)
    else
      let x2 := { x1 with hits := x1.hits + 1 }
      let s1 := (r.2.setInjector i (some x2)).bump Cnt.FI_HITS i
      let s2 := if x2.spent && x2.action ≠ 3 then s1.fiEnd i else s1
      if x2.action = 1 then (s2, .drop)
      else if x2.action = 2 then let b := s2.free 741; (b.2, .corrupt (b.1 % max 1 bits))
      else (s2, .hold)

/-- An injector at a point takes a unit to hold it (R740). -/
def State.fiHold (s : State) (point target : Nat) (h : FiHeld) : State :=
  match s.fiAt point target with
  | some (i, x) => s.setInjector i (some { x with held := some h })
  | none => s

/-- A unit has gone by an injector that holds one: after DEPTH units the held one follows, and a spent injector ends (R740, R741). Answers what is
let go. -/
def State.fiPassed (s : State) (point target : Nat) : State × Option FiHeld :=
  match s.fiAt point target with
  | none => (s, none)
  | some (i, x) => match x.held with
    | none => (s, none)
    | some h =>
      if 1 < h.left then (s.setInjector i (some { x with held := some { h with left := h.left - 1, last := s.clock } }), none)
      else
        let s1 := s.setInjector i (some { x with held := none })
        (if x.spent then s1.fiEnd i else s1, some h)

/-- Flip one bit of a packet; bit 0 is the first in sending order of its byte's value. -/
def flipBit (l : List Byte) (bit : Nat) : List Byte :=
  l.set (bit / 8) (l.getD (bit / 8) 0 ^^^ BitVec.ofNat 8 (2 ^ (bit % 8)))

end Sys2Proof.Machine
end

