-- ==== Sys2Proof/Machine/Packet.lean ====
section
/-! DEFINITION. Parsing, keys, hashes and table lookups of the intake (R453, R458–R474), as functions of a packet's bytes. -/

namespace Sys2Proof.Machine

/-! ### Frame check sequences and hashes (R438, R453, R468) -/

/-- The frame's last four bytes are its FCS. -/
def fcsOk (l : List Byte) : Bool := 4 ≤ l.length && fcs (l.take (l.length - 4)) == l.drop (l.length - 4)

/-- One bit of the flow CRC, most significant bit first (R468). -/
def flowBit (c : Nat) : Nat := if c / 2 ^ 31 = 1 then (2 * c % 2 ^ 32) ^^^ 0x1EDC6F41 else 2 * c

/-- The flow CRC over bytes, continuing from `c`. -/
def flowCrc (c : Nat) (l : List Byte) : Nat :=
  l.foldl (fun c b => flowBit (flowBit (flowBit (flowBit (flowBit (flowBit (flowBit (flowBit (c ^^^ (b.toNat * 2 ^ 24)))))))))) c

/-! ### Parsing (R458–R463) -/

/-- What a turnout and the intake set for a parse. -/
structure ParseCfg where
  hdrs : Nat
  limit : Nat
  tpid : Nat
  vxlan : Nat
  geneve : Nat
  deriving DecidableEq, Repr

/-- The header that follows: a code of R458 (with the next-header value that named an extension), an unknown type, or none. -/
inductive NextHdr where
  | hdr (code sub : Nat)
  | unknown
  | stop
  deriving DecidableEq, Repr

/-- What an EtherType announces. -/
def byEther (c : ParseCfg) (t : Nat) : NextHdr :=
  if t = 0x8100 || t = 0x88A8 || t = 0x9100 || (c.tpid ≠ 0 && t = c.tpid) then .hdr 2 0
  else if t = 0x8847 || t = 0x8848 then .hdr 3 0
  else if t = 0x0800 then .hdr 4 0
  else if t = 0x86DD then .hdr 5 0
  else if t = 0x88F7 then .hdr 14 0
  else if t = 0x0806 then .hdr 15 0
  else .unknown

/-- What an IP protocol number announces; extension headers follow IPv6 only. -/
def byProto (v6 : Bool) (p : Nat) : NextHdr :=
  if p = 4 then .hdr 4 0
  else if p = 41 then .hdr 5 0
  else if v6 && (p = 0 || p = 43 || p = 60 || p = 44) then .hdr 6 p
  else if p = 17 then .hdr 7 0
  else if p = 6 then .hdr 8 0
  else if p = 1 || p = 58 then .hdr 9 0
  else if p = 47 then .hdr 10 0
  else if p = 50 then .hdr 13 0
  else .unknown

/-- The fewest bytes of a header. -/
def minLen (code : Nat) : Nat :=
  match code with
  | 1 => 14
  | 2 => 4
  | 3 => 4
  | 4 => 20
  | 5 => 40
  | 8 => 20
  | 10 => 4
  | 14 => 34
  | 15 => 28
  | _ => 8

/-- The length of the header at `o` (R458, R461). -/
def hdrLen (b : List Byte) (code sub o : Nat) : Nat :=
  match code with
  | 4 => 4 * max 5 (u8 b o % 16)
  | 6 => if sub = 44 then 8 else 8 * (u8 b (o + 1) + 1)
  | 8 => 4 * max 5 (u8 b (o + 12) / 16)
  | 10 => 4 + 4 * (bitsOf (u8 b o) 7 1 + bitsOf (u8 b o) 5 1 + bitsOf (u8 b o) 4 1)
  | 12 => 8 + 4 * (u8 b o % 64)
  | c => minLen c

/-- The header that follows the one at `o` of length `len`, in a packet of `n` bytes (R458). -/
def nextHdr (c : ParseCfg) (b : List Byte) (n code sub o len : Nat) : NextHdr :=
  match code with
  | 1 => byEther c (be 2 b (o + 12))
  | 2 => byEther c (be 2 b (o + 2))
  | 3 =>
    if u8 b (o + 2) % 2 = 0 then .hdr 3 0
    else if n ≤ o + len then .unknown
    else if u8 b (o + len) / 16 = 4 then .hdr 4 0
    else if u8 b (o + len) / 16 = 6 then .hdr 5 0
    else .unknown
  | 4 => if be 2 b (o + 6) % 8192 ≠ 0 then .stop else byProto false (u8 b (o + 9))
  | 5 => byProto true (u8 b (o + 6))
  | 6 => if sub = 44 && be 2 b (o + 2) / 8 ≠ 0 then .stop else byProto true (u8 b o)
  | 7 =>
    let p := be 2 b (o + 2)
    if p = c.vxlan then .hdr 11 0 else if p = c.geneve then .hdr 12 0 else if p = 319 || p = 320 then .hdr 14 0 else .stop
  | 10 =>
    let p := be 2 b (o + 2)
    if p = 0x6558 then .hdr 1 0 else if p = 0x0800 then .hdr 4 0 else if p = 0x86DD then .hdr 5 0 else .unknown
  | 11 => .hdr 1 0
  | 12 => if be 2 b (o + 2) = 0x6558 then .hdr 1 0 else .unknown
  | _ => .stop

/-- A parsed header: code, start offset, length, the value that named an extension header. -/
structure Hdr where
  code : Nat
  off : Nat
  len : Nat
  sub : Nat := 0
  deriving DecidableEq, Repr

/-- The outcome of a parse: headers in order; DEPTH_EXCEEDED, LENGTH_CONFLICT, UNKNOWN. -/
structure Parsed where
  hdrs : List Hdr := []
  depth : Bool := false
  conflict : Bool := false
  unknown : Bool := false
  deriving DecidableEq, Repr

/-- The length fields of a header that lies within the frame conflict with it (R461), also where R460 ends the parse before it (R808); `ipEnd` is where the enclosing IP packet ends. -/
def lenConflict (b : List Byte) (n code o ipEnd : Nat) : Bool :=
  match code with
  | 4 => u8 b o % 16 < 5 || be 2 b (o + 2) < 4 * (u8 b o % 16) || n - o < be 2 b (o + 2)
  | 5 => n - o < 40 + be 2 b (o + 4)
  | 7 => be 2 b (o + 4) < 8 || ipEnd - o < be 2 b (o + 4)
  | 8 => u8 b (o + 12) / 16 < 5
  | _ => false

/-- The parse from header `next` at offset `o` (R458–R461, R808). -/
def parseFrom (fuel : Nat) (c : ParseCfg) (b : List Byte) (n : Nat) (next : NextHdr) (o ipEnd : Nat) (acc : Parsed) : Parsed :=
  match fuel with
  | 0 => acc
  | k + 1 =>
    match next with
    | .stop => acc
    | .unknown => { acc with unknown := true }
    | .hdr code sub =>
      if n < o + minLen code || n < o + hdrLen b code sub o then { acc with conflict := true }
      else
        let len := hdrLen b code sub o
        let conflict := acc.conflict || lenConflict b n code o ipEnd
        if c.hdrs ≤ acc.hdrs.length || c.limit < o + len then { acc with depth := true, conflict := conflict }
        else
          let end_ := if code = 4 then o + be 2 b (o + 2) else if code = 5 then o + 40 + be 2 b (o + 4) else ipEnd
          parseFrom k c b n (nextHdr c b n code sub o len) (o + len) end_
            { acc with hdrs := acc.hdrs ++ [{ code := code, off := o, len := len, sub := sub }]
                       conflict := conflict }

/-- Parse the bytes before the FCS. -/
def parse (c : ParseCfg) (b : List Byte) : Parsed := parseFrom 18 c b b.length (.hdr 1 0) 0 b.length {}

/-- A header begins a layer when it is IPv4, IPv6 or Ethernet entered from IPv4, IPv6, GRE, VXLAN or Geneve (R459). -/
def beginsLayer (prev code : Nat) : Bool := (code = 1 || code = 4 || code = 5) && (prev = 4 || prev = 5 || prev = 10 || prev = 11 || prev = 12)

/-- The headers cut into layers, outermost first. -/
def layersOf : Nat → List Hdr → List (List Hdr) → List (List Hdr)
  | _, [], acc => acc
  | prev, h :: t, acc =>
    match acc.getLast? with
    | none => layersOf h.code t [[h]]
    | some l => if beginsLayer prev h.code then layersOf h.code t (acc ++ [[h]]) else layersOf h.code t (acc.dropLast ++ [l ++ [h]])

/-- The one's-complement sum of 16-bit words, folded. -/
def onesSum (l : List Byte) (start : Nat) : Nat :=
  let total := start + ((List.range ((l.length + 1) / 2)).map (fun i => be 2 (l ++ [0]) (2 * i))).sum
  let a := total % 65536 + total / 65536
  let b := a % 65536 + a / 65536
  b % 65536 + b / 65536

/-- An IPv4 header's checksum is wrong. -/
def csumBad (b : List Byte) (h : Hdr) : Bool := onesSum ((b.drop h.off).take h.len) 0 != 0xFFFF

/-- The first header of one of the codes. -/
def findHdr (l : List Hdr) (codes : List Nat) : Option Hdr := l.find? (fun h => codes.contains h.code)

/-- The key layer: layer 0 or the innermost parsed one (R467). -/
def keyLayer (ls : List (List Hdr)) (inner : Bool) : Nat := if inner then ls.length - 1 else 0

/-- The parse flags of R463, but for DL_HIT. -/
def parseFlags (b : List Byte) (p : Parsed) (ls : List (List Hdr)) (idx : Nat) : Nat :=
  let l := ls.getD idx []
  let ip := findHdr l [4, 5]
  let v4 := match ip with | some h => h.code == 4 | none => false
  let v6 := match ip with | some h => h.code == 5 | none => false
  let off := match ip with | some h => h.off | none => 0
  let frag := (v4 && be 2 b (off + 6) % 16384 != 0) ||
    (v6 && l.any (fun h => h.code == 6 && h.sub == 44 && (be 2 b (h.off + 2) / 8 != 0 || be 2 b (h.off + 2) % 2 == 1)))
  let options := (v4 && 5 < u8 b off % 16) || (v6 && l.any (fun h => h.code == 6))
  let ttl := (v4 && u8 b (off + 8) ≤ 1) || (v6 && u8 b (off + 7) ≤ 1)
  let l4 := findHdr l [7, 8]
  let group := match findHdr l [1] with | some h => u8 b h.off % 2 == 1 | none => false
  b2n p.depth + 2 * b2n p.conflict + 4 * b2n (p.hdrs.any (fun h => h.code == 4 && csumBad b h)) + 8 * b2n frag
    + 16 * b2n (1 < ls.length) + 32 * b2n v4 + 64 * b2n v6
    + 128 * b2n (match l4 with | some h => h.code == 8 | none => false) + 256 * b2n (match l4 with | some h => h.code == 7 | none => false)
    + 512 * b2n (p.hdrs.any (fun h => h.code == 3)) + 1024 * b2n (p.hdrs.any (fun h => h.code == 2)) + 2048 * b2n p.unknown
    + 8192 * b2n options + 16384 * b2n ttl + 32768 * b2n group

/-! ### Deep-look (R465) -/

/-- A pattern of R481. -/
structure DlPat where
  en : Bool
  anchorEnd : Bool
  float : Bool
  len : Nat
  off : Nat
  value : List Byte
  mask : List Byte
  deriving DecidableEq, Repr

/-- The pattern matches at byte `o`. -/
def DlPat.fits (p : DlPat) (b : List Byte) (o : Nat) : Bool :=
  decide (o + p.len ≤ b.length) && decide (o + p.len ≤ 512) &&
    (List.range p.len).all (fun k => (b.getD (o + k) 0 &&& p.mask.getD k 0) == p.value.getD k 0)

/-- The pattern matches a packet whose parsed headers end at `e`. -/
def DlPat.hits (p : DlPat) (b : List Byte) (e : Nat) : Bool :=
  let o := p.off + (if p.anchorEnd then e else 0)
  p.en && (if p.float then (List.range (512 - o)).any (fun k => p.fits b (o + k)) else p.fits b o)

/-- The match vector. -/
def dlVector (ps : List DlPat) (b : List Byte) (e : Nat) : Nat := (ps.zipIdx.map (fun x => b2n (x.1.hits b e) * 2 ^ x.2)).sum

/-! ### Keys (R467, R472, R801, R802) -/

/-- The key fields of a layer; a field whose header was not parsed is zero. -/
structure KeyFields where
  domain : Nat := 0
  dmac : Nat := 0
  smac : Nat := 0
  vid : Nat := 0
  ivid : Nat := 0
  ether : Nat := 0
  l1 : Nat := 0
  l2 : Nat := 0
  ipv : Nat := 0
  proto : Nat := 0
  tos : Nat := 0
  src : Nat := 0
  dst : Nat := 0
  sport : Nat := 0
  dport : Nat := 0
  tcp : Nat := 0
  vni : Nat := 0
  deriving DecidableEq, Repr

/-- The VNI or key that a tunnel header carries. -/
def vniOf (b : List Byte) (h : Hdr) : Nat :=
  if h.code = 10 then (if bitsOf (u8 b h.off) 5 1 = 1 then be 4 b (h.off + 4 + 4 * bitsOf (u8 b h.off) 7 1) else 0)
  else be 4 b (h.off + 4) / 256

/-- The tunnel header that gives format 5 its VNI (R802). -/
def vniHdr (ls : List (List Hdr)) (idx : Nat) : Option Hdr :=
  let before := if idx = 0 then none else (ls.getD (idx - 1) []).getLast?
  match before with
  | some h => if h.code = 10 || h.code = 11 || h.code = 12 then some h else findHdr ((ls.drop idx).flatten) [10, 11, 12]
  | none => findHdr ((ls.drop idx).flatten) [10, 11, 12]

/-- The key fields of layer `idx` (R467, R801, R802). -/
def keyFields (b : List Byte) (ls : List (List Hdr)) (idx domain : Nat) : KeyFields :=
  let l := ls.getD idx []
  let eth := findHdr l [1]
  let tags := l.filter (fun h => h.code == 2)
  let labels := l.filter (fun h => h.code == 3)
  let ip := findHdr l [4, 5]
  let l4 := findHdr l [7, 8]
  let k0 : KeyFields := { domain := domain }
  let k1 := match eth with
    | some h => { k0 with dmac := be 6 b h.off, smac := be 6 b (h.off + 6), ether := be 2 b (h.off + 12) }
    | none => k0
  let vidOf (h : Option Hdr) : Nat := match h with | some h => be 2 b h.off % 4096 | none => 0
  let labelOf (h : Option Hdr) : Nat := match h with | some h => be 4 b h.off / 4096 | none => 0
  let k2 := { k1 with
    vid := vidOf tags[0]?
    ivid := vidOf tags[1]?
    ether := match tags.getLast? with | some h => be 2 b (h.off + 2) | none => k1.ether
    l1 := labelOf labels[0]?
    l2 := labelOf labels[1]? }
  let k3 := match ip with
    | none => k2
    | some h =>
      if h.code = 4 then
        { k2 with ipv := 4, proto := u8 b (h.off + 9), tos := u8 b (h.off + 1), src := be 4 b (h.off + 12), dst := be 4 b (h.off + 16) }
      else
        { k2 with ipv := 6, tos := be 2 b h.off / 16 % 256, src := be 16 b (h.off + 8), dst := be 16 b (h.off + 24)
                  proto := match (l.filter (fun (x : Hdr) => x.code == 6)).getLast? with | some x => u8 b x.off | none => u8 b (h.off + 6) }
  let k4 := match l4 with
    | none => k3
    | some h => { k3 with sport := be 2 b h.off, dport := be 2 b (h.off + 2), tcp := if h.code = 8 then u8 b (h.off + 13) else 0 }
  { k4 with vni := match vniHdr ls idx with | some h => vniOf b h | none => 0 }

/-- Lay fields out most significant first: widths and values. -/
def layFields (l : List (Nat × Nat)) : Nat := l.foldl (fun v e => v * 2 ^ e.1 + e.2 % 2 ^ e.1) 0

/-- The fields of a key format, with their widths (R467). -/
def fmtFields (format : Nat) (k : KeyFields) : List (Nat × Nat) :=
  match format with
  | 1 => [(8, k.domain), (12, k.vid), (4, 0), (48, k.dmac), (48, k.smac)]
  | 2 => [(8, k.domain), (8, k.proto), (32, k.src), (32, k.dst), (16, k.sport), (16, k.dport)]
  | 3 => [(8, k.domain), (8, k.proto), (128, k.src), (128, k.dst), (16, k.sport), (16, k.dport)]
  | 4 => [(8, k.domain), (20, k.l1), (20, k.l2)]
  | _ => [(8, k.domain), (32, k.vni), (8, k.proto), (128, k.src), (128, k.dst), (16, k.sport), (16, k.dport)]

/-- Bits of a key format's fields. -/
def fmtBits (format : Nat) : Nat := ((fmtFields format {}).map (fun e => e.1)).sum

/-- The 352-bit key of a format. -/
def flowKey (format : Nat) (k : KeyFields) : Nat := layFields (fmtFields format k) * 2 ^ (352 - fmtBits format)

/-- The fields that a given key holds. -/
def unKey (format key : Nat) : KeyFields :=
  let f (hi width : Nat) : Nat := bitsOf key (352 - hi - width) width
  match format with
  | 1 => { domain := f 0 8, vid := f 8 12, dmac := f 24 48, smac := f 72 48 }
  | 2 => { domain := f 0 8, proto := f 8 8, src := f 16 32, dst := f 48 32, sport := f 80 16, dport := f 96 16 }
  | 3 => { domain := f 0 8, proto := f 8 8, src := f 16 128, dst := f 144 128, sport := f 272 16, dport := f 288 16 }
  | 4 => { domain := f 0 8, l1 := f 8 20, l2 := f 28 20 }
  | _ => { domain := f 0 8, vni := f 8 32, proto := f 40 8, src := f 48 128, dst := f 176 128, sport := f 304 16, dport := f 320 16 }

/-- A bit that the key's format keeps zero is 1 (R802). -/
def keyStray (format key : Nat) : Bool := flowKey format (unKey format key) != key

/-- The format that KEY_TYPE gives a packet (R467, R468). -/
def keyFormat (keyType : Nat) (tunnel : Bool) (k : KeyFields) : Nat :=
  let auto := if k.ipv = 4 then 2 else if k.ipv = 6 then 3 else 1
  match keyType with
  | 2 => 1
  | 3 => 4
  | 4 => if tunnel then 5 else auto
  | _ => auto

/-- The bytes that the flow hash covers (R468). -/
def hashInput (format : Nat) (k : KeyFields) : List Byte :=
  let w := if format = 2 then 4 else 16
  let low := decide (k.src * 65536 + k.sport ≤ k.dst * 65536 + k.dport)
  let ends := if low then bytesBe w k.src ++ bytesBe w k.dst ++ bytesBe 2 k.sport ++ bytesBe 2 k.dport
    else bytesBe w k.dst ++ bytesBe w k.src ++ bytesBe 2 k.dport ++ bytesBe 2 k.sport
  match format with
  | 1 => bytesBe 1 k.domain ++ bytesBe 6 (min k.dmac k.smac) ++ bytesBe 6 (max k.dmac k.smac) ++ bytesBe 2 k.vid
  | 2 => bytesBe 1 k.domain ++ bytesBe 1 k.proto ++ ends
  | 3 => bytesBe 1 k.domain ++ bytesBe 1 k.proto ++ ends
  | 4 => bytesBe 1 k.domain ++ bytesBe 3 (k.l1 * 16) ++ bytesBe 3 (k.l2 * 16)
  | _ => bytesBe 1 k.domain ++ bytesBe 4 k.vni ++ bytesBe 1 k.proto ++ ends

/-- The flow hash of a key (R468). -/
def flowHash (seed format : Nat) (k : KeyFields) : Nat := flowCrc seed (hashInput format k)

/-- The ternary key (R472). -/
def ternKey (turnout bwPass flags dl : Nat) (k : KeyFields) : Nat :=
  layFields [(8, turnout), (2, bwPass), (16, flags), (16, dl), (48, k.dmac), (48, k.smac), (12, k.vid), (12, k.ivid), (16, k.ether), (20, k.l1),
    (8, k.proto), (8, k.tos), (128, k.src), (128, k.dst), (16, k.sport), (16, k.dport), (8, k.tcp), (2, 0)]

/-! ### The flow table (R469–R471) -/

/-- The candidate buckets of a hash. -/
def bucket1 (h : Nat) : Nat := h % 65536
def bucket2 (h : Nat) : Nat := bucket1 h ^^^ (h / 65536 ||| 1)

def State.flowAt (s : State) (i : Nat) : Option FlowEntry := tget none s.pk.flows i
def State.setFlow (s : State) (i : Nat) (e : Option FlowEntry) : State := { s with pk := { s.pk with flows := tput none s.pk.flows i e } }

/-- The place of a key in its candidate buckets. -/
def State.findFlow (s : State) (format key h : Nat) : Option Nat :=
  ((List.range 4).map (fun k => 4 * bucket1 h + k) ++ (List.range 4).map (fun k => 4 * bucket2 h + k)).find? (fun i =>
    match s.flowAt i with
    | some e => e.format == format && e.key == key
    | none => false)

/-- The lowest free slot of a bucket. -/
def State.freeSlot (s : State) (b : Nat) : Option Nat := ((List.range 4).map (fun k => 4 * b + k)).find? (fun i => (s.flowAt i).isNone)

/-- The hash of a table entry's key. -/
def State.entryHash (s : State) (e : FlowEntry) : Nat := flowHash (s.get Reg.HASH_SEED_SEED) e.format (unKey e.format e.key)

/-- The other candidate bucket of the entry at place `i`. -/
def State.otherBucket (s : State) (i : Nat) : Nat :=
  match s.flowAt i with
  | some e => let h := s.entryHash e; if bucket1 h = i / 4 then bucket2 h else bucket1 h
  | none => i / 4

/-- The breadth-first search of R470: `todo` are the places still to be examined, each with the chain of places that leads to it, last first;
`reached` the buckets listed so far. Answers the chain from the free place back to the place that comes free for the new entry. -/
def State.findChain (s : State) : Nat → List (List Nat) → List Nat → Option (List Nat)
  | 0, _, _ => none
  | _, [], _ => none
  | fuel + 1, chain :: todo, reached =>
    match chain with
    | [] => none
    | i :: _ =>
      let b := s.otherBucket i
      match s.freeSlot b with
      | some f => some (f :: chain)
      | none =>
        if reached.contains b then s.findChain fuel todo reached
        else s.findChain fuel (todo ++ (List.range 4).map (fun k => (4 * b + k) :: chain)) (reached ++ [b])

/-- Apply a chain of moves from its free end: each place takes the entry of the next; the last place is left for the new entry. -/
def State.applyChain : State → List Nat → State × Option Nat
  | s, [] => (s, none)
  | s, [i] => (s, some i)
  | s, i :: j :: rest => State.applyChain ((s.setFlow i (s.flowAt j)).setFlow j none) (j :: rest)

/-- The place that a new key gets, with the moves done (R470). -/
def State.placeFlow (s : State) (h : Nat) : State × Option Nat :=
  match s.freeSlot (bucket1 h) with
  | some i => (s, some i)
  | none => match s.freeSlot (bucket2 h) with
    | some i => (s, some i)
    | none =>
      let roots := (List.range 4).map (fun k => [4 * bucket1 h + k]) ++ (List.range 4).map (fun k => [4 * bucket2 h + k])
      match s.findChain 64 roots [bucket1 h, bucket2 h] with
      | some chain => s.applyChain chain
      | none => (s, none)

/-! ### Actions (R474) -/

def actVerb (a : Nat) : Nat := bitsOf a 61 3
def actTurnout (a : Nat) : Nat := bitsOf a 53 8
def actClass (a : Nat) : Nat := bitsOf a 50 3
def actCq (a : Nat) : Nat := bitsOf a 44 6
def actProgram (a : Nat) : Nat := bitsOf a 32 12
def actPolice (a : Nat) : Bool := bitsOf a 31 1 == 1
def actPolicer (a : Nat) : Nat := bitsOf a 19 12
def actTag (a : Nat) : Nat := bitsOf a 0 16

/-- A turnout can be a destination: KIND 3 or a host packet port. -/
def State.isDest (s : State) (t : Nat) : Bool := s.get Reg.TN_CLIENT_KIND t == 3 || s.flag Reg.TN_PKT_HOST_PORT t

/-- An invalid action, under the configuration and profile that `s` holds (R474). -/
def State.actionBad (s : State) (prof a : Nat) : Bool :=
  4 < actVerb a || ((actVerb a == 0 || actVerb a == 3) && !s.isDest (actTurnout a)) || (actVerb a == 2 && (prof == 2 || prof == 3))

end Sys2Proof.Machine
end

