-- ==== Sys2Proof/Machine/Reservoir.lean ====
section
/-! DEFINITION. Parcels, descriptors and pools of the Reservoir; policing; admission to queues; the order in which packets leave the
action stage (R475, R477, R478, R485–R497, R528–R531, R557, R805). -/

namespace Sys2Proof.Machine

/-! ### Packets -/

def State.pkt (s : State) (id : Nat) : Option Pkt := tget none s.pk.pkts id
def State.setPkt (s : State) (id : Nat) (p : Option Pkt) : State := { s with pk := { s.pk with pkts := tput none s.pk.pkts id p } }

/-- A new packet of the device: its serial number. -/
def State.newPkt (s : State) (p : Pkt) : State × Nat := ({ s.setPkt s.pk.next (some p) with pk := { (s.setPkt s.pk.next (some p)).pk with next := s.pk.next + 1 } }, s.pk.next)

/-- The packets with their numbers. -/
def State.allPkts (s : State) : List (Nat × Pkt) := s.pk.pkts.filterMap (fun e => match e.2 with | some p => some (e.1, p) | none => none)

/-! ### Pools (R485, R488, R489, R557, R805) -/

/-- Powered parcels and banks. -/
def State.parcelsTotal (s : State) : Nat := s.get Reg.HG_PARCELS_TOTAL_TOTAL
def State.banks (s : State) : Nat := s.parcelsTotal / 32768

/-- The lower edge of the control region. -/
def State.cqBase (s : State) : Nat := s.parcelsTotal - s.get Reg.HG_CFG_CQ_POOL_PARCELS

/-- The parcels held by packets of the pools that `f` picks. -/
def State.poolParcels (s : State) (f : Pool → Bool) : Nat := ((s.allPkts.filter (fun e => f e.2.pool)).map (fun e => e.2.parcels.length)).sum

/-- The descriptors held by packets of the pools that `f` picks. -/
def State.poolDescs (s : State) (f : Pool → Bool) : Nat := (s.allPkts.filter (fun e => f e.2.pool && e.2.desc.isSome)).length

def Pool.isShared (p : Pool) : Bool := p == .shared
def Pool.isBackwater (p : Pool) : Bool := p == .backwater
def Pool.isControl (p : Pool) : Bool := match p with | .control _ => true | _ => false
def Pool.isData (p : Pool) : Bool := match p with | .data _ => true | _ => false

/-- The turnout reserves together. -/
def State.minSum (s : State) : Nat := ((List.range 256).map (fun t => s.get Reg.TN_HG_MIN_MIN t)).sum

/-- Free parcels of the shared pool: its size less what PROGRAM packets hold and what turnouts hold beyond their reserves. -/
def State.sharedFree (s : State) : Nat :=
  s.parcelsTotal - s.get Reg.HG_CFG_CQ_POOL_PARCELS - s.get Reg.BW_CFG_BW_POOL_PARCELS - s.minSum - s.pk.leaked.length
    - s.poolParcels Pool.isShared
    - ((List.range 256).map (fun t => s.get Reg.TN_HG_STATUS_CHARGED t - s.get Reg.TN_HG_MIN_MIN t)).sum

/-- Free shared descriptors. -/
def State.sharedDescs (s : State) : Nat :=
  59392 - s.poolDescs (fun p => p.isShared || p.isData) - s.pk.leakedDesc.length

/-- HG_SHARED and HG_DESC follow. -/
def State.refreshHg (s : State) : State :=
  (s.set Reg.HG_SHARED_FREE_SHARED s.sharedFree).set Reg.HG_DESC_DESC_USED (s.poolDescs (fun _ => true) + s.pk.leakedDesc.length)

/-- Every parcel in use. -/
def State.usedParcels (s : State) : List Nat := s.allPkts.flatMap (fun e => e.2.parcels) ++ s.pk.leaked

/-! ### Placement (R486, R492, R805) -/

/-- The first of `lo + (r + k) mod size` that is not used, from `k` on. -/
def probe (used : List Nat) (lo size r : Nat) : Nat → Nat → Option Nat
  | 0, _ => none
  | fuel + 1, k =>
    let p := lo + (r + k) % size
    if used.contains p then probe used lo size r fuel (k + 1) else some p

/-- A free parcel of a bank outside the control region: which one is a free value (R486). -/
def State.parcelIn (s : State) (used : List Nat) (b : Nat) : State × Option Nat :=
  let size := min (32768 * (b + 1)) s.cqBase - 32768 * b
  if size = 0 then (s, none)
  else let r := s.free 486; (r.2, probe used (32768 * b) size r.1 (min size (used.length + 1)) 0)

/-- A free parcel of the first bank from `b` on, in ascending order of the `nb` powered banks with wrap, that has one; `fuel` banks are tried. -/
def State.parcelFrom (s : State) (used : List Nat) (nb : Nat) : Nat → Nat → State × Option Nat
  | 0, _ => (s, none)
  | fuel + 1, b =>
    let r := s.parcelIn used (b % nb)
    match r.2 with
    | some p => (r.1, some p)
    | none => r.1.parcelFrom used nb fuel (b + 1)

/-- `n` parcels, each in the bank after the last one's (R486). -/
def State.parcelRun (s : State) (nb : Nat) : Nat → List Nat → Nat → List Nat → State × Option (List Nat)
  | 0, _, _, acc => (s, some acc)
  | n + 1, used, b, acc =>
    let r := s.parcelFrom used nb nb b
    match r.2 with
    | some p => r.1.parcelRun nb n (p :: used) (p / 32768 + 1) (acc ++ [p])
    | none => (r.1, none)

/-- Parcels for a packet outside the control region; the rotation of first banks moves on (R486). -/
def State.takeParcels (s : State) (n : Nat) : State × Option (List Nat) :=
  if s.banks = 0 then (s, none)
  else
    let r := s.parcelRun s.banks n s.usedParcels s.pk.bank []
    match r.2 with
    | some (p :: ps) => ({ r.1 with pk := { r.1.pk with bank := (p / 32768 + 1) % s.banks } }, some (p :: ps))
    | x => (r.1, x)

/-- `n` consecutive free parcels of the control region: which run is a free value (R492). -/
def State.takeRun (s : State) (n : Nat) : State × Option (List Nat) :=
  let size := s.get Reg.HG_CFG_CQ_POOL_PARCELS
  let used := s.usedParcels
  if size < n || s.parcelsTotal < size then (s, none)
  else
    let r := s.free 492
    let starts := size - n + 1
    let k := (List.range starts).find? (fun k => (List.range n).all (fun i => !used.contains (s.cqBase + (r.1 + k) % starts + i)))
    (r.2, k.map (fun k => (List.range n).map (fun i => s.cqBase + (r.1 + k) % starts + i)))

/-- A descriptor: which one is a free value. -/
def State.takeDesc (s : State) : State × Option Nat :=
  let used := s.allPkts.filterMap (fun e => e.2.desc) ++ s.pk.leakedDesc
  let r := s.free 489
  (r.2, probe used 0 65536 r.1 (used.length + 1) 0)

/-- The parcels that `l` bytes need. -/
def parcelsFor (l : Nat) : Nat := (l + 127) / 128

/-- The 128 bytes of a parcel; one that nothing has written reads as zeros (log entry 51). -/
def State.parcelBytes (s : State) (p : Nat) : List Byte := tget (List.replicate 128 0) s.pk.parcels p

/-- Write one 256-bit word of a parcel through its code (R551). Bytes of the word beyond the packet's end are free values. -/
def State.writeParcelWord (s : State) (p k : Nat) (data : List Byte) (poison : Bool) : State :=
  let r := s.free 487
  let pad := (List.range (32 - data.length)).map (fun i => BitVec.ofNat 8 (r.1 / 256 ^ i))
  let old := s.parcelBytes p
  let new := old.take (32 * k) ++ (data ++ pad).take 32 ++ old.drop (32 * (k + 1))
  let s1 := { r.2 with pk := { r.2.pk with parcels := tput (List.replicate 128 0) r.2.pk.parcels p new } }
  s1.memWrite 1 (p / 32768) (4 * (p % 32768) + k) poison

/-- Write a packet into its parcels, with the poison marks of its bytes (R551, R558). -/
def State.writeParcels (s : State) (data : List Byte) (poison : List Nat) (ps : List Nat) : State :=
  let words := (data.length + 31) / 32
  (List.range words).foldl (fun s w =>
    let p := ps.getD (w / 4) 0
    (s.bankAccess (p / 32768) w).writeParcelWord p (w % 4) ((data.drop (32 * w)).take 32) (poison.any (fun o => o / 32 == w))) s

/-- Packet `id` takes parcels and a descriptor in a pool. -/
def State.storePkt (s : State) (id : Nat) (p : Pkt) (pool : Pool) (ps : List Nat) : State :=
  let d := s.takeDesc
  let s1 := d.1.setPkt id (some { p with pool := pool, parcels := ps, desc := d.2 })
  let s2 := match d.2 with
    | some k => s1.memWrites2 9 (2 * k) 2
    | none => s1
  (s2.writeParcels p.data p.poison ps).refreshHg

/-- Parcels held of a queue, and packets. -/
def State.qParcels (s : State) (q : Nat) : Nat := if q < 2048 then s.get Reg.Q_PARCELS_N q else s.get Reg.CQ_PARCELS_N (q - 2048)
def State.setQParcels (s : State) (q v : Nat) : State := if q < 2048 then s.set Reg.Q_PARCELS_N v q else s.set Reg.CQ_PARCELS_N v (q - 2048)
def State.setQPkts (s : State) (q v : Nat) : State := if q < 2048 then s.set Reg.Q_PKTS_N v q else s.set Reg.CQ_PKTS_N v (q - 2048)
def State.queue (s : State) (q : Nat) : List Nat := tget [] s.pk.queues q

/-- Replace what waits in a queue; PKTS follows, with the packets that CQ_RECEIVE returned (R507, R511). -/
def State.setQueue (s : State) (q : Nat) (l : List Nat) : State :=
  let s1 := { s with pk := { s.pk with queues := tput [] s.pk.queues q l } }
  s1.setQPkts q (l.length + (s1.pk.received.filter (fun r => r.2.2 + 2048 == q)).length)

/-- A packet's parcels and descriptor return to their pools (R503). -/
def State.release (s : State) (id : Nat) : State :=
  match s.pkt id with
  | none => s
  | some p =>
    let s1 := match p.pool with
      | .data q => s.set Reg.TN_HG_STATUS_CHARGED (s.get Reg.TN_HG_STATUS_CHARGED (q / 8) - p.parcels.length) (q / 8)
      | _ => s
    (s1.setPkt id (some { p with pool := .none_, parcels := [], desc := none })).refreshHg

/-- A packet ends: its storage returns and it is forgotten. -/
def State.dropPkt (s : State) (id : Nat) : State := (s.release id).setPkt id none

/-- A tail drop counts in the queue (R491, R492). -/
def State.tailDrop (s : State) (q : Nat) : State :=
  (if q < 2048 then s.bump Cnt.Q_TAIL_DROPS q else s.bump Cnt.CQ_TAIL_DROPS (q - 2048)).perfDev 8 1

/-! ### Policing (R494, R495) -/

def State.policer (s : State) (i : Nat) : Policer := tget {} s.hg.policers i
def State.setPolicer (s : State) (i : Nat) (p : Policer) : State := { s with hg := { s.hg with policers := tput {} s.hg.policers i p } }

def Policer.mode (p : Policer) : Nat := u8 p.cfg 0
def Policer.ycls (p : Policer) : Nat := u8 p.cfg 1
def Policer.cir (p : Policer) : Nat := u32 p.cfg 2
def Policer.cbs (p : Policer) : Nat := u32 p.cfg 6
def Policer.pir (p : Policer) : Nat := u32 p.cfg 10
def Policer.pbs (p : Policer) : Nat := u32 p.cfg 14

/-- The buckets at time `t`: credit kept to 2⁻³² packet, rounded down (R494). -/
def Policer.earn (p : Policer) (t : Nat) : Policer :=
  let el := t - p.last
  { p with
    c := min (p.cbs * 2 ^ 32) (p.c + p.cir * el * 2 ^ 32 / 13000000000)
    p := min (p.pbs * 2 ^ 32) (p.p + p.pir * el * 2 ^ 32 / 13000000000)
    last := max p.last t }

/-- Colour a packet: 0 green, 1 yellow, 2 red; the credit is spent and the colour counted (R494, R495). -/
def Policer.colour (p : Policer) (t : Nat) : Policer × Nat :=
  let e := p.earn t
  if e.p < 2 ^ 32 then ({ e with red := (e.red + 1) % 2 ^ 64 }, 2)
  else if e.c < 2 ^ 32 then ({ e with p := e.p - 2 ^ 32, yellow := (e.yellow + 1) % 2 ^ 64 }, 1)
  else ({ e with c := e.c - 2 ^ 32, p := e.p - 2 ^ 32, green := (e.green + 1) % 2 ^ 64 }, 0)

/-- The earlier configuration that a packet finishes under; none where that in force is its own (R41). -/
def State.confOf (s : State) (p : Pkt) : Option PktConf := tget none s.pk.confs p.epoch

/-- A policer with the settings that apply to a packet (R41). -/
def State.policerFor (s : State) (p : Pkt) (i : Nat) : Policer :=
  match s.confOf p with
  | some c => { s.policer i with cfg := tget [] c.policers i }
  | none => s.policer i

/-- Police a packet as its action says: the packet as it goes on, or none when it is dropped (R41, R494, R495). -/
def State.police (s : State) (p : Pkt) : State × Option Pkt :=
  if p.policed || !actPolice p.action then (s, some { p with policed := true })
  else
    let i := actPolicer p.action
    let r := (s.policerFor p i).colour p.arrival
    let s1 := s.setPolicer i { r.1 with cfg := (s.policer i).cfg }
    let q := { p with policed := true }
    if r.2 = 0 then (s1, some q)
    else if r.2 = 2 || r.1.mode = 2 then (s1, none)
    else if r.1.mode = 1 then (s1, some { q with cls := r.1.ycls })
    else (s1, some q)

/-! ### Finish tags (R497, R499) -/

/-- `a` stands before `b` modulo 2⁴⁸. -/
def tagBefore (a b : Nat) : Bool := a ≠ b && decide (2 ^ 47 ≤ (a + 2 ^ 48 - b % 2 ^ 48) % 2 ^ 48)

/-- The later of two tags. -/
def tagMax (a b : Nat) : Nat := if tagBefore a b then b else a

/-- The finish tag that a packet of `l` bytes gets in queue `q` of turnout `t`. In a strict queue it carries the virtual time of its
admission (log entry 52). -/
def State.finishTag (s : State) (q l : Nat) : State × Nat :=
  let t := q / 8
  let v := tget 0 s.pk.vTime t
  if bitsOf (s.get Reg.TN_HG_STRICT_STRICT t) (q % 8) 1 = 1 then (s, v)
  else
    let last := tget 0 s.pk.qLast q
    let start := if (s.queue q).isEmpty then tagMax v last else last
    let f := (start + l * 65536 / max 1 (s.get Reg.Q_CFG_WEIGHT q)) % 2 ^ 48
    ({ s with pk := { s.pk with qLast := tput 0 s.pk.qLast q f } }, f)

/-! ### Admission (R490–R492) -/

/-- The turnout counter of a tail drop at a data queue, by the check that fails (R491). -/
def State.dataDrop (s : State) (q check : Nat) : State :=
  let s1 := s.tailDrop q
  match check with
  | 0 => s1.bump Cnt.DROP_QLIMIT (q / 8)
  | 1 => s1.bump Cnt.DROP_TNLIMIT (q / 8)
  | 2 => ((s1.bump Cnt.DROP_DESC (q / 8)).bump Cnt.DESC_DROPS).set Reg.HG_EVENTS_DESC_EMPTY 1
  | _ => (s1.bump Cnt.DROP_SHARED (q / 8)).set Reg.HG_EVENTS_SHARED_EMPTY 1

/-- The first check of R491 that `n` parcels for data queue `q` fail. -/
def State.dataCheck (s : State) (q n : Nat) : Option Nat :=
  let t := q / 8
  let charged := s.get Reg.TN_HG_STATUS_CHARGED t + n
  if s.get Reg.Q_CFG_Q_LIMIT q < s.qParcels q + n then some 0
  else if s.get Reg.TN_HG_MAX_MAX t < charged then some 1
  else if s.sharedDescs = 0 then some 2
  else if s.get Reg.TN_HG_MIN_MIN t < charged && s.sharedFree < min n (charged - s.get Reg.TN_HG_MIN_MIN t) then some 3
  else none

/-- Admission to a data queue (R491, R497). -/
def State.admitData (s : State) (id : Nat) (p : Pkt) (q : Nat) : State :=
  let n := parcelsFor p.data.length
  match s.dataCheck q n with
  | some c => (s.dataDrop q c).dropPkt id
  | none =>
    let r := s.takeParcels n
    match r.2 with
    | none => (r.1.dataDrop q 3).dropPkt id
    | some ps =>
      let f := r.1.finishTag q p.data.length
      let s1 := f.1.set Reg.TN_HG_STATUS_CHARGED (s.get Reg.TN_HG_STATUS_CHARGED (q / 8) + n) (q / 8)
      let s2 := s1.storePkt id { p with finish := f.2 } (.data q) ps
      (s2.setQParcels q (s2.qParcels q + n)).setQueue q (s2.queue q ++ [id])

/-! ### Firmware tasks (R506, R535, R536, R559) -/

/-- A lateral takes tasks. -/
def State.inDispatch (s : State) (lat : Nat) : Bool :=
  s.flag Reg.LAT_STATUS_POWERED lat && s.flag Reg.LAT_CTRL_EN lat && s.qState 2 lat == 0 && !s.flag Reg.LAT_STATUS_HELD lat

/-- The laterals in dispatch with a role: 0 ACTION, 1 FIRMWARE. -/
def State.latsIn (s : State) (role : Nat) : List Nat := (List.range 32).filter (fun k => s.inDispatch k && s.get Reg.LAT_CTRL_ROLE k == role)

/-- What an exception does beside ending a task (R534). -/
def State.excReport (s : State) (e t : Nat) (p : Pkt) (prog cause pc : Nat) : State :=
  let lat := e / 16
  ((((s.bump Cnt.TASK_EXC p.turnout).bump Cnt.EXC lat (cause - 1)).set Reg.LAT_EVENTS_EXC 1 lat).log wbLateral 0x50
    ([BitVec.ofNat 8 lat, BitVec.ofNat 8 t] ++ bytes 2 e ++ bytes 2 prog ++ bytes 2 pc ++ [BitVec.ofNat 8 cause, BitVec.ofNat 8 p.turnout, 0, 0] ++
      bytes 8 p.num)).perfLat lat 10 1

/-- Read words `lo` to `hi - 1` (256 bits each) of a stored packet for a consumer: the poisoned ones, ascending. -/
def State.readWords (s : State) (p : Pkt) (lo hi consumer : Nat) : State × List Nat :=
  (List.range (hi - lo)).foldl (fun (r : State × List Nat) k =>
    let w := lo + k
    let c := p.parcels.getD (w / 4) 0
    let x := (r.1.bankAccess (c / 32768) k).memRead 1 (c / 32768) (4 * (c % 32768) + w % 4) consumer
    (x.2, if x.1 then r.2 ++ [w] else r.2)) (s, [])

/-- Words that a packet of `l` bytes fills. -/
def wordsFor (l : Nat) : Nat := (l + 31) / 32

/-- A firmware task takes a packet and loads it whole (log entry 53). A poisoned byte ends it by POISON, an exception of the lowest FIRMWARE lateral in dispatch, at a
pc that is a free value; the packet ends either way (R506, R535, R559). -/
def State.firmwareTask (s : State) (id : Nat) : State :=
  match s.pkt id with
  | none => s
  | some p =>
    let r := s.readWords p 0 (wordsFor p.data.length) 2
    if r.2.isEmpty then r.1.dropPkt id
    else
      let x := r.1.free 535
      ((x.2.excReport (16 * (s.latsIn 1).headD 0) 0 p 0xFFF 6 (x.1 % 4096)).set Reg.MEM_EVENTS_POISON_BITE 1).dropPkt id

/-- Admission to a control queue (R492); a firmware-owned queue's packet is taken by a firmware task at once (R506; log entry 53). -/
def State.admitControl (s : State) (id : Nat) (p : Pkt) (c : Nat) : State :=
  let n := parcelsFor p.data.length
  let q := 2048 + c
  let drop (s : State) : State := (((s.tailDrop q).bump Cnt.CQ_POOL_DROPS).set Reg.HG_EVENTS_CQ_FULL 1).dropPkt id
  if s.get Reg.CQ_CFG_CQ_LIMIT c < s.qParcels q + n || s.get Reg.HG_CFG_CQ_POOL_PARCELS < s.poolParcels Pool.isControl + n ||
      2048 ≤ s.poolDescs Pool.isControl then drop s
  else
    let r := s.takeRun n
    match r.2 with
    | none => drop r.1
    | some ps =>
      let s2 := r.1.storePkt id p (.control c) ps
      if !s.flag Reg.CQ_CFG_OWNER c then s2.firmwareTask id
      else
        (s2.setQParcels q (s2.qParcels q + n)).setQueue q (s2.queue q ++ [id])

/-- Storage in shared parcels with a shared descriptor (R490): a PROGRAM packet, or one that waits for its turn (R530). Answers whether it
was stored. -/
def State.storeShared (s : State) (id : Nat) (p : Pkt) : State × Bool :=
  let n := parcelsFor p.data.length
  if s.sharedDescs = 0 then (((s.bump Cnt.DESC_DROPS).set Reg.HG_EVENTS_DESC_EMPTY 1).dropPkt id, false)
  else if s.sharedFree < n then ((s.bump Cnt.SHARED_DROPS).dropPkt id, false)
  else
    let r := s.takeParcels n
    match r.2 with
    | none => ((r.1.bump Cnt.SHARED_DROPS).dropPkt id, false)
    | some ps => (r.1.storePkt id p .shared ps, true)

/-- A backwater pass is requested for a packet (R477, R478, R490). -/
def State.passRequest (s : State) (id : Nat) (p : Pkt) : State :=
  let n := parcelsFor p.data.length
  if 3 ≤ p.bwPass then ((s.bump Cnt.BW_LIMIT_DROPS).set Reg.IN_EVENTS_BW_LIMIT 1).dropPkt id
  else if s.get Reg.BW_CFG_BW_POOL_PARCELS < s.poolParcels Pool.isBackwater + n || 4096 ≤ s.poolDescs Pool.isBackwater then
    (s.bump Cnt.BW_POOL_DROPS).dropPkt id
  else
    let r := s.takeParcels n
    match r.2 with
    | none => (r.1.bump Cnt.BW_POOL_DROPS).dropPkt id
    | some ps =>
      let s1 := (r.1.storePkt id p .backwater ps).bump Cnt.BW_PASSES
      { s1 with pk := { s1.pk with bwPool := s1.pk.bwPool ++ [id] } }

/-- A packet is dropped at a quenched turnout's admission (R55, R475). -/
def State.quenchDrop (s : State) (t : Nat) : State := (s.bump Cnt.DROP_QUENCHED t).quenchDiscards 1 t 1

/-- The destination of a FORWARD or BACKWATER packet does not take it: quenched first, then no longer a destination (R475). Answers none when it does. -/
def State.destDrop (s : State) (p : Pkt) : Option State :=
  let t := actTurnout p.action
  let v := actVerb p.action
  if v ≠ 0 && v ≠ 3 then none
  else if !s.running 1 t then some (s.quenchDrop t)
  else if !s.isDest t then some (s.bump Cnt.NO_DEST_DROPS)
  else none

/-- A packet that the action stage lets go, or an emit, goes where its action says: FORWARD, BACKWATER or TO_CONTROL (R474, R475, R490). -/
def State.dispose (s : State) (id : Nat) (p : Pkt) : State :=
  match s.destDrop p with
  | some s1 => s1.dropPkt id
  | none =>
    if actVerb p.action = 3 && 3 ≤ p.bwPass then s.passRequest id p
    else
      let r := s.police p
      match r.2 with
      | none => r.1.dropPkt id
      | some q =>
        if actVerb p.action = 0 then r.1.admitData id q (8 * actTurnout p.action + q.cls)
        else if actVerb p.action = 3 then r.1.passRequest id q
        else r.1.admitControl id q (actCq p.action)

/-! ### Order (R454, R528–R531) -/

def State.domain (s : State) (t : Nat) : Domain := tget {} s.pk.domains t
def State.setDomain (s : State) (t : Nat) (d : Domain) : State := { s with pk := { s.pk with domains := tput {} s.pk.domains t d } }

/-- Pass over the numbers that have left. -/
def advance : Nat → Nat → List Nat → Nat × List Nat
  | 0, left, gone => (left, gone)
  | k + 1, left, gone => if gone.contains left then advance k (left + 1) (gone.erase left) else (left, gone)

/-- Number `n` of a domain has left the action stage. -/
def State.leave (s : State) (t n : Nat) : State :=
  let d := s.domain t
  let g := d.gone ++ [n]
  let r := advance g.length d.left g
  s.setDomain t { d with left := r.1, gone := r.2 }

/-- The next arrival order number of a domain. -/
def State.takeNumber (s : State) (t : Nat) : State × Nat :=
  let d := s.domain t
  (s.setDomain t { d with next := d.next + 1 }, d.next)

end Sys2Proof.Machine
end

