-- ==== Sys2Proof/Machine/Intake.lean ====
section
/-! DEFINITION. Packet intake, parsing, classification and the action stage (R451–R484, R801, R802, R806–R808). -/

namespace Sys2Proof.Machine

/-! ### Host packet ports (R451, R457, R806) -/

def State.portQueue (s : State) (t : Nat) : PortQueue := tget {} s.pk.ports t
def State.setPortQueue (s : State) (t : Nat) (q : PortQueue) : State := { s with pk := { s.pk with ports := tput {} s.pk.ports t q } }

/-- `n` words leave a queue from its front. -/
def takeWords : Nat → List Nat → List Nat
  | _, [] => []
  | n, w :: t => if w ≤ n then (if t.isEmpty then [] else takeWords (n - w) t) else (w - n) :: t

/-- HOST_PORT_WORD_RX: a 512-bit word of a packet reaches the port's queue, from which the intake has taken `taken` words since the last one. A word that
meets a full queue drops its packet whole (R457). `last` says that the packet ends with it. A
packet for a lane that is not running is discarded and counted (R55). -/
def execHostPortWordRx (turnout : Fin 256) (taken : Nat) (last : Bool) (s : State) : Out :=
  let t := turnout.val
  if !s.flag Reg.TN_PKT_HOST_PORT t || !s.coherent then .next s
  else
    let q := s.portQueue t
    let left := takeWords taken q.words
    let ws := if q.coming && left.isEmpty then [0] else left
    let lane := s.get Reg.TN_PKT_LANE t
    if q.dropping then done s (s.setPortQueue t { words := left, coming := false, dropping := !last })
    else if !q.coming && !s.running 4 lane then
      done s ((s.setPortQueue t { words := left, coming := false, dropping := !last }).quenchDiscards 4 lane 1)
    else
      let depth := 32 * (s.hostLanesOf t).length
      if depth ≤ ws.sum then
        let kept := if q.coming then ws.dropLast else ws
        let s1 := s.setPortQueue t { words := kept, coming := false, dropping := !last }
        done s (((s1.bump Cnt.LANE_OVL_DROPS lane).bump Cnt.DROP_OVERLOAD t).set Reg.IN_EVENTS_OVERLOAD 1)
      else
        let ws1 := if q.coming then ws.dropLast ++ [ws.getLastD 0 + 1] else ws ++ [1]
        done s (s.setPortQueue t { words := ws1, coming := !last, dropping := false })

/-! ### Checks of a frame (R453, R454) -/

/-- The drop counter of the first check of R453 that a frame fails; `marked` covers marks and failed slots. -/
def State.frameCheck (s : State) (t : Nat) (frame : List Byte) (coding marked : Bool) : Option (State → State) :=
  if !s.running 1 t then some (fun s => s.quenchDrop t)
  else if coding then some (fun s => s.bump Cnt.DROP_CODING t)
  else if marked then some (fun s => s.bump Cnt.DROP_MARKED t)
  else if frame.length < 64 then some (fun s => s.bump Cnt.DROP_RUNT t)
  else if s.get Reg.IN_CFG_MAX_FRAME < frame.length then some (fun s => s.bump Cnt.DROP_GIANT t)
  else if !fcsOk frame then some (fun s => s.bump Cnt.DROP_FCS t)
  else none

/-- Whether frames reach the intake for a turnout: a line packet turnout whose cipher admits them, or a host packet port that is ALIGNED (R436, R585,
R806). -/
def State.admits (s : State) (t : Nat) : Bool :=
  s.coherent &&
    (if s.flag Reg.TN_PKT_HOST_PORT t then s.flag Reg.PORT_STATUS_ALIGNED (s.get Reg.TN_PKT_LANE t)
     else s.kind t == 3 && !s.turnoutEvicted t && (!s.flag Reg.TN_CIPHER_PROTECT t || !(s.cipherTn t).inbox.isEmpty))

/-- The frame that arrives, whether its blocks break Clause 82, and its mark: of a protected line turnout the next packet that the cipher released, whose
blocks are whole and, where its units have passed, unmarked (R435, R436, R452). -/
def State.arriving (s : State) (t : Nat) (bs : List (BitVec 66)) (marked : Bool) : List Byte × Bool × Bool :=
  if s.flag Reg.TN_PKT_HOST_PORT t || !s.flag Reg.TN_CIPHER_PROTECT t then ((frameOf bs).getD [], (frameOf bs).isNone, marked)
  else ((s.cipherTn t).inbox.headD [], false, marked && s.flag Reg.TN_CIPHER_RELEASE t)

/-- The intake has taken the packet that the cipher released first. -/
def State.takeAdmitted (s : State) (t : Nat) : State :=
  if s.flag Reg.TN_PKT_HOST_PORT t || !s.flag Reg.TN_CIPHER_PROTECT t then s
  else s.setCipherTn t { s.cipherTn t with inbox := (s.cipherTn t).inbox.drop 1 }

/-- A frame may be what the turnout receives: where a loopback feeds it, only the next one that it sent (R597). -/
def State.heardFrame (s : State) (t : Nat) (arrived : List (BitVec 66)) : Bool :=
  !(s.flag Reg.TN_PKT_HOST_PORT t && s.looped (s.get Reg.TN_PKT_LANE t)) || (tget [] s.pk.loops t).head? == some arrived

/-- It is taken from the loopback. -/
def State.takeLoop (s : State) (t : Nat) : State := { s with pk := { s.pk with loops := tput [] s.pk.loops t ((tget [] s.pk.loops t).drop 1) } }

/-- PACKET_ARRIVAL: the last of a frame's 66-bit blocks reaches the intake, after those that have `arrived`, from the line or from a host port; the frame is decoded and checked, and one that passes takes the next arrival
order number and waits for a parse start (R452–R454). What a host port in loopback 1 or 3 receives is what it sent (R597). -/
def execPacketArrival (turnout : Fin 256) (arrived : List (BitVec 66)) (last : BitVec 66) (marked : Bool) (s : State) : Out :=
  let t := turnout.val
  let blocks := arrived ++ [last]
  if !s.admits t || !s.heardFrame t blocks then .next s
  else
    let s0 := (s.takeAdmitted t).takeLoop t
    let a := s.arriving t blocks marked
    match s0.frameCheck t a.1 a.2.1 a.2.2 with
    | some f => done s (f s0)
    | none =>
      let host := s0.flag Reg.TN_PKT_HOST_PORT t
      let n := ((s0.bump Cnt.RX_PKTS t).bump Cnt.RX_OCTETS t 0 a.1.length).takeNumber t
      let p := n.1.newPkt { data := a.1, turnout := t, orig := t, num := n.2, arrival := s.clock, host := host }
      let lane := s0.get Reg.TN_PKT_LANE t
      let pk := p.1.pk
      done s { p.1 with pk :=
        if host then { pk with hostWait := tput [] pk.hostWait lane (tget [] pk.hostWait lane ++ [p.2]) }
        else { pk with lineWait := pk.lineWait ++ [p.2] } }

/-! ### Parse starts (R455, R456, R41) -/

/-- The deep-look patterns as committed (R481). -/
def State.dlPats (s : State) : List DlPat :=
  (List.range 16).map (fun i => {
    en := s.flag Reg.DL_CFG_EN i, anchorEnd := s.flag Reg.DL_CFG_ANCHOR i, float := s.flag Reg.DL_CFG_FLOAT i
    len := s.get Reg.DL_CFG_LEN i + 1, off := s.get Reg.DL_CFG_OFFSET i
    value := wordBytes ((List.range 4).map (fun j => s.reg (Reg.DL_VALUE_VALUE.addr i j)))
    mask := wordBytes ((List.range 4).map (fun j => s.reg (Reg.DL_MASK_MASK.addr i j))) })

/-- What parsing and lookup find for a packet under the configuration in force now (R41, R458–R473). -/
def State.inspect (s : State) (p : Pkt) : Pkt :=
  let t := p.turnout
  let b := p.data.take (p.data.length - 4)
  let deep := s.flag Reg.TN_PKT_DEEP_LOOK t
  let r := parse { hdrs := s.get Reg.TN_PKT_PARSE_HDRS t, limit := s.get Reg.TN_PKT_PARSE_BYTES t, tpid := s.get Reg.IN_CFG_TPID_USER
                   vxlan := s.get Reg.IN_PORTS_VXLAN_PORT, geneve := s.get Reg.IN_PORTS_GENEVE_PORT } b
  let ls := layersOf 0 r.hdrs []
  let idx := keyLayer ls (s.flag Reg.TN_PKT_KEY_LAYER t)
  let e := match r.hdrs.getLast? with | some h => h.off + h.len | none => 0
  let dl := if deep then dlVector s.dlPats b e else 0
  let flags := parseFlags b r ls idx + 4096 * b2n (dl ≠ 0)
  let k := keyFields b ls idx (s.get Reg.TN_KEY_KEY_DOMAIN t)
  let kt := s.get Reg.TN_PKT_KEY_TYPE t
  let fmt := keyFormat kt (decide (1 < ls.length)) k
  let hash := flowHash (s.get Reg.HASH_SEED_SEED) fmt k
  let place := if kt = 0 then none else s.findFlow fmt (flowKey fmt k) hash
  let tk := ternKey t p.bwPass flags dl k
  let rule := (s.pk.terns.find? (fun x => x.2.en && !x.2.failed && (tk &&& x.2.mask) == x.2.value)).map (fun x => x.2)
  let dflt := s.get Reg.TN_DEFAULT_LO_ACTION t + 2 ^ 32 * s.get Reg.TN_DEFAULT_HI_ACTION t
  { p with
    startedAt := s.clock
    cycles := (if deep then 52 else 20) + 28
    flags := flags, dl := dl, hdrs := r.hdrs.map (fun h => (h.code, h.off)), hash := hash
    action := match rule with | some x => x.action | none => dflt
    overExact := match rule with | some x => x.overExact | none => false
    flowHit := match place with
      | some i => (s.flowAt i).map (fun e => (i, e.action))
      | none => none
    lenDrop := r.conflict && !s.flag Reg.TN_PKT_LEN_POLICY t
    lenProg := if r.conflict && s.flag Reg.TN_PKT_LEN_POLICY t then some (s.get Reg.TN_KEY_LEN_PROG t) else none
    ordered := s.flag Reg.TN_ENG_ORDERED t
    gen := s.eng.gen
    epoch := s.pk.epoch
    looked := kt != 0 }

/-- A packet starts through a parse pipeline. -/
def State.startParse (s : State) (id : Nat) : State :=
  match s.pkt id with
  | none => s
  | some p =>
    let s1 := (s.setPkt id (some (s.inspect p))).perfDev 2 1
    { s1 with pk := { s1.pk with parsing := s1.pk.parsing ++ [id] } }

/-- Insert a packet among the classified ones of its domain, by arrival order number. -/
def insertNum (s : State) (id n : Nat) : List Nat → List Nat
  | [] => [id]
  | x :: t => (match s.pkt x with
    | some q => if n < q.num then id :: x :: t else x :: insertNum s id n t
    | none => x :: insertNum s id n t)

/-- A packet stands ready for the action stage of its domain. -/
def State.toStage (s : State) (id : Nat) (p : Pkt) : State :=
  let d := s.domain p.turnout
  (s.setPkt id (some p)).setDomain p.turnout { d with stage := insertNum s id p.num d.stage }

/-- A packet passes the intake injection point (R739): on to its parse, discarded, altered or held; one that was held may follow it. -/
def State.intakePoint (s : State) (id : Nat) : State :=
  match s.pkt id with
  | none => s
  | some p =>
    let r := s.fiUnit 1 p.turnout (8 * p.data.length)
    match r.2 with
    | .hold => r.1.fiHold 1 p.turnout { pkt := some id, left := match r.1.fiAt 1 p.turnout with | some x => x.2.depth | none => 1, last := s.clock }
    | v =>
      let s1 := match v with
        | .drop => r.1.toStage id { p with gone := true }
        | .corrupt bit => (r.1.setPkt id (some { p with data := flipBit p.data bit })).startParse id
        | _ => r.1.startParse id
      let q := s1.fiPassed 1 p.turnout
      match q.2 with
      | some h => match h.pkt with
        | some k => q.1.startParse k
        | none => q.1
      | none => q.1

/-- The host lane whose port is served next: round robin from the one after the last (R456). -/
def State.nextHost (s : State) : Option Nat :=
  ((List.range 16).map (fun k => (s.pk.lastLane + 1 + k) % 16)).find? (fun l => !(tget [] s.pk.hostWait l).isEmpty)

/-- PARSE_START: a pipeline start is filled: backwater first, once in a fabric cycle, then the line, then the host ports; four in a cycle (R455,
R456). -/
def execParseStart (s : State) : Out :=
  let now := s.pk.startCycle == s.cycle
  let k := if now then s.pk.starts else 0
  let b := if now then s.pk.bwStarts else 0
  if 4 ≤ k then .next s
  else
    let pk := { s.pk with startCycle := s.cycle, starts := k + 1, bwStarts := b }
    match s.pk.bwWait, b with
    | id :: rest, 0 => done s (State.intakePoint { s with pk := { pk with bwStarts := 1, bwWait := rest } } id)
    | _, _ =>
      match s.pk.lineWait with
      | id :: rest => done s (State.intakePoint { s with pk := { pk with lineWait := rest } } id)
      | [] => match s.nextHost with
        | some l => match tget [] s.pk.hostWait l with
          | id :: rest => done s (State.intakePoint { s with pk := { pk with hostWait := tput [] pk.hostWait l rest, lastLane := l } } id)
          | [] => .next s
        | none => .next s

/-! ### Classification (R462, R473) -/

/-- The lookup reads the eight entries of the candidate buckets; an entry with an uncorrectable word does not hit (R556). Answers whether the entry at
`place` was bad. -/
def State.readFlows (s : State) (hash : Nat) (place : Option Nat) : State × Bool :=
  ((List.range 4).map (fun k => 4 * bucket1 hash + k) ++ (List.range 4).map (fun k => 4 * bucket2 hash + k)).foldl
    (fun (r : State × Bool) i => let x := r.1.memReads 7 0 (4 * i) 4 7; (x.2, r.2 || (x.1 && place == some i))) (s, false)

/-- A packet's own action once the exact-match entry has been read (R462, R473). -/
def Pkt.withAction (p : Pkt) (bad : Bool) : Pkt :=
  let a := match p.flowHit with
    | some h => if p.overExact || bad then p.action else h.2
    | none => p.action
  let b := match p.lenProg with
    | some k => a - bitsOf a 61 3 * 2 ^ 61 + 2 * 2 ^ 61 - bitsOf a 32 12 * 2 ^ 32 + k * 2 ^ 32
    | none => a
  { p with action := b, cls := actClass b, tag := if p.bwPass = 0 then actTag b else p.tag }

/-- What classification counts (R460, R462, R465, R469). -/
def State.countClassified (s : State) (p : Pkt) (bad : Bool) : State :=
  let t := p.turnout
  let s1 := s.bump Cnt.PKTS_PARSED
  let s2 := if bitsOf p.flags 0 1 = 1 then s1.bump Cnt.DEPTH_EXCEEDED t else s1
  let s3 := if bitsOf p.flags 1 1 = 1 then s2.bump Cnt.LEN_CONFLICTS t else s2
  let s4 := if bitsOf p.flags 12 1 = 1 then s3.bump Cnt.DL_MATCHES else s3
  let s5 := if p.lenDrop then s4.bump Cnt.DROP_LENGTH t else s4
  match p.flowHit with
  | some h => if bad then s5 else s5.setFlow h.1 ((s5.flowAt h.1).map (fun e => { e with hit := true }))
  | none => s5

/-- PACKET_CLASSIFIED: parsing and lookups of a turnout's oldest packet in the pipelines finish; its action is chosen (R462–R473). -/
def execPacketClassified (turnout : Fin 256) (s : State) : Out :=
  match s.pk.parsing.find? (fun id => match s.pkt id with | some p => p.turnout == turnout.val | none => false) with
  | none => .next s
  | some id => match s.pkt id with
    | none => .next s
    | some p =>
      if s.clock < p.startedAt + p.cycles * 65 / 8 then .next s
      else
        let s0 := { s with pk := { s.pk with parsing := s.pk.parsing.erase id } }
        let r := if p.looked then s0.readFlows p.hash (p.flowHit.map (fun h => h.1)) else (s0, false)
        done s ((r.1.countClassified p r.2).toStage id (p.withAction r.2))

/-! ### The action stage (R474, R475, R530, R531) -/

/-- A PROGRAM packet is policed, stored in shared parcels and queued as a task (R490, R518). -/
def State.toTask (s : State) (id : Nat) (p : Pkt) : State :=
  let r := s.police p
  match r.2 with
  | none => (r.1.dropPkt id).leave p.turnout p.num
  | some q =>
    let w := r.1.storeShared id q
    if w.2 then
      let s1 := { w.1 with eng := { w.1.eng with taskQ := w.1.eng.taskQ ++ [id] } }
      if p.ordered then s1 else s1.leave p.turnout p.num
    else w.1.leave p.turnout p.num

/-- A packet that must wait for its turn in an ordered domain is policed and stored, and keeps its parcels and descriptor (R530; log entry 54). -/
def State.toHeld (s : State) (id : Nat) (p : Pkt) : State :=
  let r := s.police p
  match r.2 with
  | none => (r.1.dropPkt id).leave p.turnout p.num
  | some q =>
    let w := r.1.storeShared id q
    if w.2 then let d := w.1.domain p.turnout; w.1.setDomain p.turnout { d with held := d.held ++ [id] }
    else w.1.leave p.turnout p.num

/-- The profile that applies to a packet (R41). -/
def State.profileFor (s : State) (p : Pkt) : Nat :=
  match s.confOf p with
  | some c => c.profile
  | none => s.profile

/-- The next classified packet of a domain is handed on. -/
def State.handOn (s : State) (id : Nat) (p : Pkt) : State :=
  let t := p.turnout
  let prof := s.profileFor p
  if p.gone || p.lenDrop then (s.dropPkt id).leave t p.num
  else if actVerb p.action = 1 then ((s.bump Cnt.DROP_ACTION t).dropPkt id).leave t p.num
  else if actVerb p.action = 2 && prof ≠ 2 && prof ≠ 3 then s.toTask id p
  else if actVerb p.action = 2 || 4 < actVerb p.action then ((s.bump Cnt.NO_DEST_DROPS).dropPkt id).leave t p.num
  else match s.destDrop p with
    | some s1 => (s1.dropPkt id).leave t p.num
    | none =>
      if p.ordered && (s.domain t).left ≠ p.num then s.toHeld id p
      else (s.dispose id p).leave t p.num

/-- The packet that a domain can let go now: a stored one whose turn has come, else the next in arrival order. -/
def State.readyAt (s : State) (t : Nat) : Option Nat :=
  let d := s.domain t
  match d.held.find? (fun id => match s.pkt id with | some p => p.num == d.left | none => true) with
  | some id => some id
  | none => d.stage.head?.filter (fun id => match s.pkt id with | some p => p.num == d.hand | none => true)

/-- The place of a packet among those that seek storage in one fabric cycle: by source, then by arrival (R493). -/
def State.storeOrder (s : State) (id : Nat) : Nat × Nat :=
  match s.pkt id with
  | some p => (if 0 < p.bwPass then 0 else if p.host then 3 else 2, p.arrival)
  | none => (0, 0)

/-- No packet that another domain can let go now comes before the one of domain `t` (R493). -/
def State.stageTurn (s : State) (t : Nat) : Bool :=
  match s.readyAt t with
  | none => true
  | some id =>
    let a := s.storeOrder id
    (s.pk.domains.map (fun e => e.1)).all (fun u => match s.readyAt u with
      | some k => let b := s.storeOrder k; !(decide (b.1 < a.1) || (b.1 == a.1 && decide (b.2 < a.2)))
      | none => true)

/-- ACTION_STAGE: a packet leaves a domain's action stage in the order of R493: a stored one whose turn has come, else the next in arrival order is handed on to storage, a
task, its destination or its drop (R454, R490, R530, R531). -/
def execActionStage (turnout : Fin 256) (s : State) : Out :=
  let t := turnout.val
  let d := s.domain t
  let ready := d.held.find? (fun id => match s.pkt id with | some p => p.num == d.left | none => true)
  if !s.stageTurn t then .next s
  else match ready with
  | some id =>
    let s1 := s.setDomain t { d with held := d.held.erase id }
    match s1.pkt id with
    | none => done s s1
    | some p =>
      let s2 := s1.release id
      done s ((s2.dispose id { p with pool := .none_, parcels := [], desc := none }).leave t p.num)
  | none =>
    match d.stage with
    | [] => .next s
    | id :: rest =>
      match s.pkt id with
      | none => done s (s.setDomain t { d with stage := rest })
      | some p =>
        if p.num ≠ d.hand then .next s
        else done s ((s.setDomain t { d with stage := rest, hand := d.hand + 1 }).handOn id p)

/-! ### Backwater re-entry (R477, R478, R556, R557) -/

/-- A packet's descriptor is lost: its parcels and descriptor do not return (R557). -/
def State.leak (s : State) (id : Nat) : State :=
  match s.pkt id with
  | none => s
  | some p =>
    let s1 := { s with pk := { s.pk with leaked := s.pk.leaked ++ p.parcels, leakedDesc := s.pk.leakedDesc ++ p.desc.toList } }
    let s2 := ((s1.set Reg.LEAKED_PARCELS_PARCELS s1.pk.leaked.length).set Reg.LEAKED_DESC_DESC s1.pk.leakedDesc.length).set Reg.MEM_EVENTS_LEAK 1
    s2.dropPkt id

/-- Read a packet's descriptor; true when both copies are bad (R555, R556). -/
def State.readDesc (s : State) (id : Nat) : Bool × State :=
  match s.pkt id with
  | some p => match p.desc with
    | some k => s.memReads2 9 (2 * k) 2 10
    | none => (false, s)
  | none => (false, s)

/-- BACKWATER_REENTRY: the oldest packet of the backwater pool re-enters as if it came from the turnout that its pass names (R453, R454, R477). -/
def execBackwaterReentry (s : State) : Out :=
  match s.pk.bwPool with
  | [] => .next s
  | id :: rest =>
    let s0 := { s with pk := { s.pk with bwPool := rest } }
    match s0.pkt id with
    | none => done s s0
    | some p =>
      let d := s0.readDesc id
      if d.1 then done s ((d.2.leak id).bite 10 none)
      else
        let t := actTurnout p.action
        let r := d.2.readWords p 0 (wordsFor p.data.length) 6
        let s1 := ((if r.2.isEmpty then r.1 else r.1.bite 6 none).release id).perfDev 12 1
        match s1.frameCheck t p.data false (!r.2.isEmpty) with
        | some f => done s ((f s1).dropPkt id)
        | none =>
          let n := s1.takeNumber t
          let q : Pkt := { data := p.data, turnout := t, orig := p.orig, num := n.2, arrival := s.clock, bwPass := p.bwPass + 1, tag := p.tag }
          let s2 := n.1.setPkt id (some q)
          done s { s2 with pk := { s2.pk with bwWait := s2.pk.bwWait ++ [id] } }

/-! ### Staged settings (R480–R484) -/

/-- The rules with EN = 1. -/
def State.ternUsed (s : State) : Nat := (s.pk.terns.filter (fun x => x.2.en)).length

def applyIntake (c : Staged) (s : State) : State :=
  let p := c.payload
  if c.op = 0x0610 then
    let a := 0x400040 + 0x400 * u8 p 0
    setWord ((setWord s a 0x0FFFFFFF (u32 p 4)).setReg (a + 4) (BitVec.ofNat 32 (u32 p 8)) |>.setReg (a + 8) (BitVec.ofNat 32 (u32 p 12)))
      (a + 12) 0x000FFFFF (u32 p 16)
  else if c.op = 0x0611 then
    setWord ((setWord s 0x200000 0xFFFF3FFF (u32 p 0)).setReg 0x200004 (BitVec.ofNat 32 (u32 p 4)) |>.setReg 0x200008 (BitVec.ofNat 32 (u32 p 8)))
      0x20000C 0x0003FFFF (u32 p 12)
  else if c.op = 0x0612 then
    let a := 0x200200 + 0x40 * u8 p 0
    let s1 := setWord s a 0x0001FF7F (u32 p 4)
    (List.range 4).foldl (fun s k => (s.setReg (a + 0x10 + 4 * k) (BitVec.ofNat 32 (u32 p (8 + 4 * k)))).setReg (a + 0x20 + 4 * k)
      (BitVec.ofNat 32 (u32 p (24 + 4 * k)))) s1
  else if c.op = 0x0613 then
    let r : TernRule := { value := be 64 p 4, mask := be 64 p 68, action := u64 p 132, en := u8 p 2 % 2 == 1, overExact := u8 p 2 / 2 % 2 == 1 }
    let s1 := { s with pk := { s.pk with terns := tput {} s.pk.terns (u16 p 0) r } }
    let s2 := s1.memWrite 8 0 (u16 p 0)
    if s.sys.gated then s2 else s2.set Reg.TERN_STATUS_TERN_USED s1.ternUsed
  else s

/-- A turnout is enabled: a TSI client or a host packet port. -/
def State.turnoutOn (s : State) (t : Nat) : Bool := s.kind t != 0 || s.flag Reg.TN_PKT_HOST_PORT t

/-- A commit leaves the configuration before it to the packets whose parse has started (R41). -/
def State.keepConf (old s : State) : State :=
  let used := s.allPkts.map (fun e => e.2.epoch)
  let conf : PktConf := ⟨old.profile, old.get Reg.ENG_CFG_MAX_INSNS, old.hg.policers.map (fun e => (e.1, e.2.cfg))⟩
  let all := if used.contains s.pk.epoch then tput none s.pk.confs s.pk.epoch (some conf) else s.pk.confs
  { s with pk := { s.pk with epoch := s.pk.epoch + 1, confs := all.filter (fun e => used.contains e.1) } }

/-- The part of a commit boundary in the intake: turnouts taken out of use are quenched, those brought into use enabled (R51, R55, R806). -/
def State.intakeBoundary (old s : State) : State :=
  (List.range 256).foldl (fun s t =>
    let s1 := if old.flag Reg.TN_PKT_HOST_PORT t && (!s.flag Reg.TN_PKT_HOST_PORT t || s.get Reg.TN_PKT_LANE t ≠ old.get Reg.TN_PKT_LANE t) then
        s.setPortQueue t {}
      else s
    s1.enableChange 1 t (old.turnoutOn t) (s1.turnoutOn t)) (State.keepConf old s)

/-- The profile that a commit leaves in force. -/
def State.newProfile (n : State) : Nat := n.get Reg.MODE_CTRL_PROFILE

/-- A default action of a turnout. -/
def State.defaultAction (s : State) (t : Nat) : Nat := s.get Reg.TN_DEFAULT_LO_ACTION t + 2 ^ 32 * s.get Reg.TN_DEFAULT_HI_ACTION t

/-- The rules of this chapter that fail validation (R451, R462, R466, R471, R474, R807). -/
def intakeChecks : List Check := [
  { rule := 451
    bad := fun _ _ n => (List.range 256).any (fun t => n.flag Reg.TN_PKT_HOST_PORT t && (n.kind t != 0 ||
      (List.range 256).any (fun u => u != t && (n.hostLanesOf t).any (fun l =>
        (n.flag Reg.TN_PKT_HOST_PORT u && (n.hostLanesOf u).contains l) || (n.clientLanesOf u).contains l))))
    reads := opIn [0x0610, 0x0601, 0x0350] },
  { rule := 462
    bad := fun _ _ n => (n.newProfile == 2 || n.newProfile == 3) && (List.range 256).any (fun t => n.flag Reg.TN_PKT_LEN_POLICY t)
    reads := opIn [0x0610, 0x0120] },
  { rule := 466
    bad := fun _ _ n =>
      let on := (List.range 16).filter (fun i => n.flag Reg.DL_CFG_EN i)
      decide (4 < (on.filter (fun i => n.flag Reg.DL_CFG_FLOAT i)).length) ||
        on.any (fun i => !n.flag Reg.DL_CFG_ANCHOR i && !n.flag Reg.DL_CFG_FLOAT i && decide (512 < n.get Reg.DL_CFG_OFFSET i + n.get Reg.DL_CFG_LEN i + 1)) ||
        decide (40000 < (((List.range 256).filter (fun t => n.flag Reg.TN_PKT_DEEP_LOOK t)).map (fun t =>
          if n.flag Reg.TN_PKT_HOST_PORT t then 10000 * 2 ^ n.get Reg.TN_PKT_ETH_RATE t else if n.kind t = 0 then 0 else 125 * n.members t)).sum)
    reads := opIn [0x0612, 0x0610, 0x0601] },
  { rule := 471
    bad := fun _ o n => o.get Reg.HASH_SEED_SEED != n.get Reg.HASH_SEED_SEED && n.pk.flows.any (fun x => x.2.isSome)
    reads := opIn [0x0611] },
  { rule := 474
    bad := fun _ _ n => n.pk.terns.any (fun x => x.2.en && n.actionBad n.newProfile x.2.action) ||
      (List.range 256).any (fun t => n.actionBad n.newProfile (n.defaultAction t))
    reads := opIn [0x0613, 0x0610, 0x0601, 0x0120] }]

/-! ### Commands (R483) -/

/-- TURNOUT_PKT_SET, staged (R484). -/
def execTurnoutPktSet (mb : Fin 8) (s : State) : Out := stage mb.val 0x0610 (fun p => [(.turnout, u8 p 0)]) s

/-- INTAKE_CFG_SET, staged (R484). -/
def execIntakeCfgSet (mb : Fin 8) (s : State) : Out := stage mb.val 0x0611 (fun _ => [(.intake, 0)]) s

/-- DEEPLOOK_SET, staged (R484). -/
def execDeeplookSet (mb : Fin 8) (s : State) : Out := stage mb.val 0x0612 (fun _ => [(.intake, 0)]) s

/-- TERN_SET, staged (R484). -/
def execTernSet (mb : Fin 8) (s : State) : Out := stage mb.val 0x0613 (fun _ => [(.intake, 0)]) s

/-- TERN_GET. -/
def execTernGet (mb : Fin 8) (s : State) : Out :=
  report mb.val 0x0614 s (fun p s =>
    let r := tget ({} : TernRule) s.pk.terns (u16 p 0)
    okD (bytes 2 (u16 p 0) ++ [BitVec.ofNat 8 (b2n r.en + 2 * b2n r.overExact), 0] ++ bytesBe 64 r.value ++ bytesBe 64 r.mask ++ bytes 8 r.action))

/-- The key of a flow command. -/
def cmdKey (p : List Byte) : Nat := be 44 p 4

/-- The flow hash of a flow command's key. -/
def State.cmdHash (s : State) (p : List Byte) : Nat := flowHash (s.get Reg.HASH_SEED_SEED) (u8 p 0) (unKey (u8 p 0) (cmdKey p))

/-- The answer to a key that breaks R802. -/
def strayKey : Reply := { code := cINVALID, index := 5 }

/-- Write an entry, through the code of memory 7. -/
def State.writeFlow (s : State) (i : Nat) (e : Option FlowEntry) : State := (s.setFlow i e).memWrites 7 0 (4 * i) 4

/-- FLOW_ADD (R469–R471, R474, R479). -/
def execFlowAdd (mb : Fin 8) (s : State) : Out :=
  act mb.val 0x0615 s (fun p s =>
    let a := u64 p 48
    if s.blocksOff then (s, err cDENIED)
    else if keyStray (u8 p 0) (cmdKey p) then (s, strayKey)
    else if s.actionBad s.profile a then (s, err cINVALID)
    else match s.findFlow (u8 p 0) (cmdKey p) (s.cmdHash p) with
      | some i => (s.writeFlow i (some { format := u8 p 0, key := cmdKey p, action := a, hit := match s.flowAt i with | some e => e.hit | none => false }),
          okD [2, 0, 0, 0])
      | none =>
        let r := s.placeFlow (s.cmdHash p)
        match r.2 with
        | some i => ((r.1.writeFlow i (some { format := u8 p 0, key := cmdKey p, action := a })).set Reg.IN_STATUS_FLOW_USED
            (s.get Reg.IN_STATUS_FLOW_USED + 1), okD [1, 0, 0, 0])
        | none => ((s.bump Cnt.FLOW_INSERT_FAILS).set Reg.IN_EVENTS_FLOW_FULL 1, err cEXHAUSTED))

/-- FLOW_DEL (R471, R479). -/
def execFlowDel (mb : Fin 8) (s : State) : Out :=
  act mb.val 0x0616 s (fun p s =>
    if s.blocksOff then (s, err cDENIED)
    else if keyStray (u8 p 0) (cmdKey p) then (s, strayKey)
    else match s.findFlow (u8 p 0) (cmdKey p) (s.cmdHash p) with
      | some i => ((s.writeFlow i none).set Reg.IN_STATUS_FLOW_USED (s.get Reg.IN_STATUS_FLOW_USED - 1), okD [1, 0, 0, 0])
      | none => (s, okD [0, 0, 0, 0]))

/-- FLOW_GET; with CLEAR_HIT the entry's HIT bit clears after it is read (R484). -/
def execFlowGet (mb : Fin 8) (s : State) : Out :=
  act mb.val 0x0617 s (fun p s =>
    if keyStray (u8 p 0) (cmdKey p) then (s, strayKey)
    else
      let h := s.cmdHash p
      match s.findFlow (u8 p 0) (cmdKey p) h with
      | none => (s, okD ([0, 0, 0, 0] ++ bytes 4 h ++ bytes 8 0))
      | some i => match s.flowAt i with
        | none => (s, okD ([0, 0, 0, 0] ++ bytes 4 h ++ bytes 8 0))
        | some e =>
          (if u8 p 1 = 1 then s.setFlow i (some { e with hit := false }) else s, okD ([1, BitVec.ofNat 8 (b2n e.hit), 0, 0] ++ bytes 4 h ++ bytes 8 e.action)))

/-- TURNOUT_PKT_STATUS_GET. -/
def execTurnoutPktStatusGet (mb : Fin 8) (s : State) : Out :=
  report mb.val 0x0618 s (fun p s => let a := 0x400000 + 0x400 * u8 p 0
    okD (wordBytes ([s.reg (a + 0x50)] ++ (List.range 16).map (fun k => s.reg (a + 0x80 + 4 * k)))))

/-- INTAKE_STATUS_GET. -/
def execIntakeStatusGet (mb : Fin 8) (s : State) : Out :=
  report mb.val 0x0619 s (fun _ s => okD (wordBytes ([s.reg 0x200010, s.reg 0x200040] ++ (List.range 7).map (fun k => s.reg (0x200020 + 4 * k)))))

/-- The payload rows of R483. -/
def payloadsIntake : List PayloadRow := [
  ⟨0x0610, .fix 20, [.zero 1 3, .bits 4 5 3 0 4, .bits 4 9 5 1 16, .bits 4 14 9 32 256, .bits 4 25 3 0 4]⟩,
  ⟨0x0611, .fix 16, [.bits 0 0 14 64 9728, .bits 12 0 18 0 131072]⟩,
  ⟨0x0612, .fix 40, [.num 0 1 0 15, .zero 1 3]⟩,
  ⟨0x0613, .fix 140, [.num 0 2 0 16383, .num 2 1 0 3, .zero 3 1]⟩,
  ⟨0x0614, .fix 4, [.num 0 2 0 16383, .zero 2 2]⟩,
  ⟨0x0615, .fix 56, [.num 0 1 1 5, .zero 1 3]⟩,
  ⟨0x0616, .fix 48, [.num 0 1 1 5, .zero 1 3]⟩,
  ⟨0x0617, .fix 48, [.num 0 1 1 5, .num 1 1 0 1, .zero 2 2]⟩,
  ⟨0x0618, .fix 4, [.zero 1 3]⟩,
  ⟨0x0619, .fix 0, []⟩]

end Sys2Proof.Machine
end

