-- ==== Sys2Proof/Machine/Headgate.lean ====
section
/-! DEFINITION. Selection, egress, control queues and the settings of the Headgate (R485–R514, R557). -/

namespace Sys2Proof.Machine

/-! ### Selection (R497, R500) -/

/-- The head of a queue. -/
def State.headOf (s : State) (q : Nat) : Option Nat := (s.queue q).head?

/-- The highest-numbered strict class of a turnout that holds a packet. -/
def State.strictClass (s : State) (t : Nat) : Option Nat :=
  [7, 6, 5, 4, 3, 2, 1, 0].find? (fun c => bitsOf (s.get Reg.TN_HG_STRICT_STRICT t) c 1 == 1 && (s.headOf (8 * t + c)).isSome)

/-- The finish tag at the head of a queue. -/
def State.headTag (s : State) (q : Nat) : Nat :=
  match s.headOf q with
  | some id => match s.pkt id with
    | some p => p.finish
    | none => 0
  | none => 0

/-- The WFQ class of a turnout with the smallest finish tag at its head; on a tie the lower class. -/
def State.wfqClass (s : State) (t : Nat) : Option Nat :=
  (List.range 8).foldl (fun best c =>
    if (s.headOf (8 * t + c)).isNone then best
    else match best with
      | none => some c
      | some b => if tagBefore (s.headTag (8 * t + c)) (s.headTag (8 * t + b)) then some c else best) none

/-- The queue that the selector of a turnout picks, and whether it is a WFQ one. -/
def State.selected (s : State) (t : Nat) : Option (Nat × Bool) :=
  match s.strictClass t with
  | some c => some (8 * t + c, false)
  | none => (s.wfqClass t).map (fun c => (8 * t + c, true))

/-- The 512-bit words of the packets that the selector has picked for a turnout and its egress has not sent. -/
def State.egressWords (s : State) (t : Nat) : Nat :=
  ((tget [] s.pk.egress t).map (fun id => match s.pkt id with | some p => (p.data.length + 63) / 64 | none => 0)).sum

/-- The egress of a line packet turnout has room: its queue of 64 words is not full; a leaf's own turnout drains while it holds grants of data bursts
only (R44, R500, R501). -/
def State.lineRoom (s : State) (t : Nat) : Bool :=
  s.linePacket t && decide (66 * (s.egressBlocks t).length + 512 * s.egressWords t < 64 * 512) &&
    (s.ownTurnout != some t || s.self.grants.any (fun g => g.type == 0))

/-- The egress of a host packet port has room: its queue of 32 words a lane is not full (R44, R500). -/
def State.portRoom (s : State) (t : Nat) : Bool :=
  s.flag Reg.TN_PKT_HOST_PORT t && decide (s.egressWords t < 32 * (s.hostLanesOf t).length)

/-- The turnout that is served next among those ready: round robin from `from_` on (R500). -/
def nextReady (ready : Nat → Bool) (from_ : Nat) : Option Nat :=
  match (List.range 256).find? (fun t => decide (from_ ≤ t) && ready t) with
  | some t => some t
  | none => (List.range 256).find? ready

/-- The turnout of the next selection: the line before the host lanes, each round robin; whether it is on the line (R500, R504). -/
def State.nextTurnout (s : State) : Option (Nat × Bool) :=
  match nextReady (fun t => s.lineRoom t && (s.selected t).isSome) s.pk.rrLine with
  | some t => some (t, true)
  | none => (nextReady (fun t => s.portRoom t && (s.selected t).isSome) s.pk.rrPort).map (fun t => (t, false))

/-- The round robin goes on from the turnout after `t`. -/
def State.servedTurnout (s : State) (t : Nat) (line : Bool) : State :=
  { s with pk := if line then { s.pk with rrLine := (t + 1) % 256 } else { s.pk with rrPort := (t + 1) % 256 } }

/-- The packet that the selector of turnout `t` picks leaves its queue for the egress; one whose descriptor is lost is dropped (R497, R556, R557). -/
def State.selectFrom (s : State) (t q : Nat) (wfq : Bool) : State :=
  match s.headOf q with
  | none => s
  | some id =>
    let n := match s.pkt id with | some p => p.parcels.length | none => 0
    let s1 := (s.setQueue q ((s.queue q).drop 1)).setQParcels q (s.qParcels q - n)
    let s2 := if wfq then { s1 with pk := { s1.pk with vTime := tput 0 s1.pk.vTime t (s.headTag q) } } else s1
    let d := (s2.perfDev 5 1).readDesc id
    if d.1 then (d.2.leak id).bite 10 none
    else { d.2 with pk := { d.2.pk with egress := tput [] d.2.pk.egress t (tget [] d.2.pk.egress t ++ [id]) } }

/-- Selections made in the present fabric cycle, of which there are at most four (R500). -/
def State.selectionsNow (s : State) : Nat := if s.pk.selCycle = s.cycle then s.pk.selections else 0

/-- HEADGATE_SELECT: `turnout`, the next whose egress has room, gets the packet that its selector picks (R497, R500, R504). -/
def execHeadgateSelect (turnout : Fin 256) (s : State) : Out :=
  match s.nextTurnout.filter (fun n => n.1 == turnout.val) with
  | none => .next s
  | some (t, line) =>
    match s.selected t with
    | none => .next s
    | some (q, wfq) =>
      if 4 ≤ s.selectionsNow then .next s
      else
        let s1 := { s with pk := { s.pk with selCycle := s.cycle, selections := s.selectionsNow + 1 } }
        done s ((s1.servedTurnout t line).selectFrom t q wfq)

/-! ### Egress (R501–R503, R556, R739) -/

/-- The frame that goes out: whole, or cut at the first poisoned word and ended with a stomped FCS (R438, R556). -/
def cutFrame (data : List Byte) (bad : List Nat) : List Byte :=
  match bad with
  | [] => data
  | w :: _ => data.take (32 * w) ++ stomped (data.take (32 * w))

/-- A packet is sent to its turnout as 66-bit blocks, to the line or to the lanes of its host packet port (R389, R503, R584); a loopback there returns it
(R597). -/
def State.sendFrame (s : State) (t : Nat) (frame : List Byte) : State :=
  let s1 := (s.bump Cnt.TX_PKTS t).bump Cnt.TX_OCTETS t 0 frame.length
  let s2 := { s1 with pk := { s1.pk with sent := tput [] s1.pk.sent t frame } }
  if s.linePacket t then s2.setEgressBlocks t (s2.egressBlocks t ++ clause82 frame)
  else if s.flag Reg.TN_PKT_HOST_PORT t then
    let s3 := { s2 with tsi := { s2.tsi with ethWait := tput [] s2.tsi.ethWait t (tget [] s2.tsi.ethWait t ++ clause82 frame) } }
    if s.looped (s.get Reg.TN_PKT_LANE t) then { s3 with pk := { s3.pk with loops := tput [] s3.pk.loops t (tget [] s3.pk.loops t ++ [clause82 frame]) } }
    else { s3 with pk := { s3.pk with loops := tput [] s3.pk.loops t [] } }
  else s2

/-- A selected packet is read out of its parcels and sent (R502, R503, R556). -/
def State.egressOut (s : State) (t id : Nat) : State :=
  match s.pkt id with
  | none => s
  | some p =>
    let r := s.readWords p 0 (wordsFor p.data.length) 1
    let s1 := if r.2.isEmpty then r.1 else (r.1.bump Cnt.POISON_EGRESS).bite 1 (some t) true
    (s1.sendFrame t (cutFrame p.data r.2)).dropPkt id

/-- PACKET_EGRESS: a selected packet passes the egress injection point, its last parcel is read, and it is sent; its parcels and descriptor return
(R503, R740). -/
def execPacketEgress (turnout : Fin 256) (s : State) : Out :=
  let t := turnout.val
  match tget [] s.pk.egress t with
  | [] => .next s
  | id :: rest =>
    let s0 := { s with pk := { s.pk with egress := tput [] s.pk.egress t rest } }
    match s0.pkt id with
    | none => done s s0
    | some p =>
      let r := s0.fiUnit 0 t (8 * p.data.length)
      match r.2 with
      | .hold => done s (r.1.fiHold 0 t { pkt := some id, left := match r.1.fiAt 0 t with | some x => x.2.depth | none => 1, last := s.clock })
      | v =>
        let s1 := match v with
          | .drop => r.1.dropPkt id
          | .corrupt bit => (r.1.setPkt id (some { p with data := flipBit p.data bit })).egressOut t id
          | _ => r.1.egressOut t id
        let q := s1.fiPassed 0 t
        match q.2 with
        | some h => match h.pkt with
          | some k => done s (q.1.egressOut t k)
          | none => done s q.1
        | none => done s q.1

/-! ### Quenched turnouts and gated banks (R51, R52, R81 step 3) -/

/-- The packets that end in blocks on their way to the line. -/
def blockPackets (bs : List (BitVec 66)) : Nat := bs.countP (fun b => decide (2 ^ 65 ≤ b.toNat) && b != block66 2 [0x78, 0x55, 0x55, 0x55, 0x55, 0x55, 0x55, 0xD5])

/-- The packets that a turnout still holds: queued, selected, held at its egress, or on their way to the line. -/
def State.turnoutPending (s : State) (t : Nat) : Nat :=
  ((List.range 8).map (fun c => (s.queue (8 * t + c)).length)).sum + (tget [] s.pk.egress t).length + blockPackets (s.egressBlocks t)

/-- Discard what a turnout still holds at the timeout of its quench: how many packets. -/
def State.turnoutDiscard (s : State) (t : Nat) : State × Nat :=
  let ids := (List.range 8).flatMap (fun c => s.queue (8 * t + c)) ++ tget [] s.pk.egress t
  let s1 := (List.range 8).foldl (fun s c => if (s.queue (8 * t + c)).isEmpty then s else (s.setQueue (8 * t + c) []).setQParcels (8 * t + c) 0) s
  let s2 := { s1 with pk := { s1.pk with egress := tput [] s1.pk.egress t [] } }
  ((ids.foldl State.dropPkt s2).setEgressBlocks t [], ids.length + blockPackets (s.egressBlocks t))

/-- The packets with a parcel in banks `nb` and above. -/
def State.inBanks (s : State) (nb : Nat) : List (Nat × Pkt) := s.allPkts.filter (fun e => e.2.parcels.any (fun p => 32768 * nb ≤ p))

/-! ### Staged settings (R509–R514) -/

/-- The queue of an index of R513. -/
def queueCfg (q : Nat) : Nat := if q < 2048 then 0x248000 + 0x10 * q else 0x241000 + 0x10 * (q - 2048)

def applyHeadgate (c : Staged) (s : State) : State :=
  let p := c.payload
  if c.op = 0x0620 then setWord s 0x240000 0x0003FFFF (u32 p 0)
  else if c.op = 0x0621 then
    let t := u8 p 0
    let s1 := ((s.set Reg.TN_HG_STRICT_STRICT (u8 p 1) t).set Reg.TN_HG_MIN_MIN (u32 p 4) t).set Reg.TN_HG_MAX_MAX (u32 p 8) t
    (List.range 8).foldl (fun s k =>
      (s.set Reg.Q_CFG_WEIGHT (u8 p (12 + 4 * k)) (8 * t + k)).set Reg.Q_CFG_Q_LIMIT (le 3 p (13 + 4 * k)) (8 * t + k)) s1
  else if c.op = 0x0622 then (s.set Reg.CQ_CFG_OWNER (u8 p 1) (u8 p 0)).set Reg.CQ_CFG_CQ_LIMIT (u32 p 4) (u8 p 0)
  else if c.op = 0x0623 then
    let i := u16 p 0
    let x := { s.policer i with cfg := (p.drop 2).take 18 }
    s.setPolicer i { x with c := x.cbs * 2 ^ 32, p := x.pbs * 2 ^ 32, last := s.clock }
  else s

/-- The part of a commit boundary in the Headgate: a control queue that passes to the firmware is taken at once (R506, R507; log entry 53). -/
def State.headgateBoundary (s : State) : State :=
  ((List.range 64).foldl (fun s c =>
    if s.flag Reg.CQ_CFG_OWNER c || (s.queue (2048 + c)).isEmpty then s
    else
      let ids := s.queue (2048 + c)
      let n := (ids.map (fun id => match s.pkt id with | some p => p.parcels.length | none => 0)).sum
      ids.foldl State.firmwareTask ((s.setQueue (2048 + c) []).setQParcels (2048 + c) (s.qParcels (2048 + c) - n))) s).refreshHg

/-- Banks that the configuration after a commit powers. -/
def State.newBanks (n : State) : Nat := poweredBanks (n.get Reg.MODE_CTRL_MODE) n.newProfile

/-- The rules of this chapter that fail validation (R80, R488, R496, R508, R512). -/
def headgateChecks : List Check := [
  { rule := 488
    bad := fun _ _ n => n.newBanks != 0 && decide (32768 * n.newBanks - 16384 <
      n.get Reg.HG_CFG_CQ_POOL_PARCELS + n.get Reg.BW_CFG_BW_POOL_PARCELS + n.minSum)
    reads := opIn [0x0620, 0x0621, 0x0611, 0x0120] },
  { rule := 496
    bad := fun cs _ n => cs.any (fun c => opIn [0x0623] c && (
      let x := n.policer (u16 c.payload 0)
      decide (x.pir < x.cir) || x.pir == 0 || x.cbs == 0 || decide (1048575 < x.cbs) || x.pbs == 0 || decide (1048575 < x.pbs) || x.mode == 3))
    reads := opIn [0x0623] },
  { rule := 512
    bad := fun _ _ n => (List.range 256).any (fun t => decide (n.get Reg.TN_HG_MAX_MAX t < n.get Reg.TN_HG_MIN_MIN t))
    reads := opIn [0x0621] },
  { rule := 80
    bad := fun _ o n => o.mode == n.get Reg.MODE_CTRL_MODE && !(o.inBanks n.newBanks).isEmpty
    reads := opIn [0x0120] }]

/-! ### Commands (R513) -/

/-- HG_CFG_SET, staged (R514). -/
def execHgCfgSet (mb : Fin 8) (s : State) : Out := stage mb.val 0x0620 (fun _ => [(.headgate, 0)]) s

/-- HG_TURNOUT_SET, staged (R514). -/
def execHgTurnoutSet (mb : Fin 8) (s : State) : Out := stage mb.val 0x0621 (fun p => [(.turnout, u8 p 0)]) s

/-- HG_CQ_SET, staged (R514). -/
def execHgCqSet (mb : Fin 8) (s : State) : Out := stage mb.val 0x0622 (fun _ => [(.headgate, 0)]) s

/-- POLICER_SET, staged (R496, R514). -/
def execPolicerSet (mb : Fin 8) (s : State) : Out := stage mb.val 0x0623 (fun p => [(.policer, u16 p 0)]) s

/-- POLICER_STATUS_GET. -/
def execPolicerStatusGet (mb : Fin 8) (s : State) : Out :=
  report mb.val 0x0624 s (fun p s =>
    let x := s.policer (u16 p 0)
    let cfg := bytes 2 (u16 p 0) ++ (x.cfg ++ List.replicate 18 0).take 18
    okD (cfg ++ bytes 4 0 ++ (if u8 p 2 = 1 then bytes 8 x.greenShadow ++ bytes 8 x.yellowShadow ++ bytes 8 x.redShadow
      else bytes 8 x.green ++ bytes 8 x.yellow ++ bytes 8 x.red)))

/-- HG_QUEUE_STATUS_GET. -/
def execHgQueueStatusGet (mb : Fin 8) (s : State) : Out :=
  report mb.val 0x0625 s (fun p s => let a := queueCfg (u16 p 0); okD (wordBytes ((List.range 4).map (fun k => s.reg (a + 4 * k)))))

/-- HG_STATUS_GET. -/
def execHgStatusGet (mb : Fin 8) (s : State) : Out :=
  report mb.val 0x0626 s (fun _ s => okD (wordBytes ([s.reg 0x240004, s.reg 0x240008, s.reg 0x24000C, s.reg 0x240014] ++
    (List.range 4).map (fun k => s.reg (0x240020 + 4 * k)))))

/-- The 32 bytes of CQ_RECEIVE. -/
def cqReply (h : Nat) (p : Pkt) : List Byte :=
  [1, 0, 0, 0] ++ bytes 4 h ++ bytes 4 (128 * p.parcels.headD 0) ++ bytes 2 p.data.length ++ [BitVec.ofNat 8 p.turnout, BitVec.ofNat 8 p.bwPass] ++
    bytes 2 p.tag ++ bytes 2 p.flags ++ bytes 4 p.hash ++ bytes 8 p.action

/-- CQ_RECEIVE: the head packet of a host-owned control queue (R506–R508). One whose descriptor is lost is dropped and the next is taken at the next
command (R557). -/
def execCqReceive (mb : Fin 8) (s : State) : Out :=
  actOn mb.val 0x0627 s (fun p s =>
    let c := u8 p 0
    let q := 2048 + c
    if !s.flag Reg.CQ_CFG_OWNER c then (s, err cDENIED)
    else match s.headOf q with
      | none => (s, okD (List.replicate 32 0))
      | some id =>
        match s.pkt id with
        | none => (s.setQueue q ((s.queue q).drop 1), okD (List.replicate 32 0))
        | some x =>
          let d := s.readDesc id
          if d.1 then
            let s1 := (d.2.setQueue q ((d.2.queue q).drop 1)).setQParcels q (d.2.qParcels q - x.parcels.length)
            ((s1.leak id).bite 10 none, okD (List.replicate 32 0))
          else
            let h := d.2.pk.nextHandle
            let s1 := { d.2 with pk := { d.2.pk with received := d.2.pk.received ++ [(h, id, c)], nextHandle := h % (2 ^ 32 - 1) + 1 } }
            (s1.setQueue q ((s1.queue q).drop 1), okD (cqReply h x)))

/-- CQ_RELEASE (R507, R508). -/
def execCqRelease (mb : Fin 8) (s : State) : Out :=
  actOn mb.val 0x0628 s (fun p s =>
    match s.pk.received.find? (fun r => r.1 == u32 p 0) with
    | none => (s, err cINVALID)
    | some r =>
      let q := 2048 + r.2.2
      let n := match s.pkt r.2.1 with | some x => x.parcels.length | none => 0
      let s1 := { s with pk := { s.pk with received := s.pk.received.filter (fun x => x.1 != r.1) } }
      (((s1.setQParcels q (s1.qParcels q - n)).setQueue q (s1.queue q)).dropPkt r.2.1, ok))

/-- A queue's WEIGHT and Q_LIMIT in HG_TURNOUT_SET. -/
def hgClassFields : List PField :=
  (List.range 8).flatMap (fun k => [.num (12 + 4 * k) 1 1 255, .num (13 + 4 * k) 3 0 1310720])

/-- The payload rows of R513. -/
def payloadsHeadgate : List PayloadRow := [
  ⟨0x0620, .fix 4, [.num 0 4 0 131072]⟩,
  ⟨0x0621, .fix 44, [.zero 2 2, .num 4 4 0 0x1FFFFF, .num 8 4 0 0x1FFFFF] ++ hgClassFields⟩,
  ⟨0x0622, .fix 8, [.num 0 1 0 63, .num 1 1 0 1, .zero 2 2, .num 4 4 0 131072]⟩,
  ⟨0x0623, .fix 24, [.num 0 2 0 4095, .num 2 1 0 3, .num 3 1 0 7, .zero 20 4]⟩,
  ⟨0x0624, .fix 4, [.num 0 2 0 4095, .num 2 1 0 1, .zero 3 1]⟩,
  ⟨0x0625, .fix 4, [.num 0 2 0 2111, .zero 2 2]⟩,
  ⟨0x0626, .fix 0, []⟩,
  ⟨0x0627, .fix 4, [.num 0 1 0 63, .zero 1 3]⟩,
  ⟨0x0628, .fix 4, []⟩]

end Sys2Proof.Machine
end

