-- ==== Sys2Proof/Machine/Sampler.lean ====
section
/-! DEFINITION. The instruction samplers of the laterals and the sample buffer (R716–R720). -/

namespace Sys2Proof.Machine

def State.sampler (s : State) (lat : Nat) : Sampler := tget {} s.perf.samplers lat
def State.setSampler (s : State) (lat : Nat) (x : Sampler) : State := { s with perf := { s.perf with samplers := tput {} s.perf.samplers lat x } }

/-- One step of the Galois register with generator x³² + x²² + x² + x + 1 (R717; log entry 56). -/
def galois (r : BitVec 32) : BitVec 32 := if r.msb then (r <<< 1) ^^^ 0x00400007 else r <<< 1

/-- SAMPLE_SEED as lateral `lat` loads it. -/
def State.sampleSeed (s : State) (lat : Nat) : BitVec 32 := (BitVec.ofNat 32 (s.get Reg.SAMPLE_SEED_SEED)).rotateLeft lat

/-- A sampler of the lateral runs (R716). -/
def State.samplerOn (s : State) (lat : Nat) : Bool :=
  s.flag Reg.PERF_SAMPLE_CFG_SAMPLE_EN && s.flag Reg.LAT_STATUS_POWERED lat && bitsOf (s.get Reg.LAT_MASK_MASK) lat 1 == 1

/-- PERF_STATUS.SAMPLING follows. -/
def State.refreshSampling (s : State) : State := s.set Reg.PERF_STATUS_SAMPLING (b2n ((List.range 32).any s.samplerOn))

/-- A new interval is drawn: 2^(n−1) + (r mod 2^n) instructions. -/
def State.newInterval (s : State) (lat : Nat) : State :=
  let x := s.sampler lat
  let r := galois (x.lfsr.getD (s.sampleSeed lat))
  let n := s.get Reg.PERF_SAMPLE_CFG_PERIOD_LOG2
  s.setSampler lat { x with lfsr := some r, left := 2 ^ (n - 1) + r.toNat % 2 ^ n, armedAt := none }

/-- A boundary that changes seed, period or mask loads every register and starts every interval anew (R717). -/
def State.reloadSamplers (s : State) : State :=
  (List.range 32).foldl (fun s k => (s.setSampler k { s.sampler k with lfsr := some (s.sampleSeed k) }).newInterval k) s

/-- The lateral issues an instruction: the interval counts it (R716). -/
def State.sampleCount (s : State) (lat : Nat) : State :=
  let x := s.sampler lat
  if !s.samplerOn lat || x.tag.isSome || x.armedAt.isSome then s
  else
    let s1 := if x.left = 0 then s.newInterval lat else s
    let y := s1.sampler lat
    s1.setSampler lat { y with left := y.left - 1, armedAt := if y.left = 1 then some (s.latNow lat + 1) else none }

/-- Change the tag in flight when it is on the instruction that thread `t` of engine `e` has now. -/
def State.stamp (s : State) (e t : Nat) (f : SampTag → SampTag) : State :=
  let x := s.sampler (e / 16)
  match x.tag with
  | some g => if g.engine = e && g.thread = t then s.setSampler (e / 16) { x with tag := some (f g) } else s
  | none => s

/-- The tagged instruction issues: its operands were available from `ready` on, its result is after `lat` cycles (none: it waits for a gate). -/
def State.stampIssue (s : State) (e t ready : Nat) (lat : Option Nat) (beyond : Bool) : State :=
  s.stamp e t (fun g => if g.issue.isSome then g else
    { g with ready := some (max g.fetch ready), issue := some (s.latNow (e / 16)), gate := if lat.isSome then some (s.latNow (e / 16)) else none
             fin := lat.map (fun n => s.latNow (e / 16) + n), beyond := beyond })

/-- The tagged instruction gets its gate. -/
def State.stampGate (s : State) (e t lat : Nat) : State :=
  s.stamp e t (fun g => if g.issue.isSome && g.gate.isNone then { g with gate := some (s.latNow (e / 16)), fin := some (s.latNow (e / 16) + lat) } else g)

/-- The tagged instruction raises an exception. -/
def State.stampExc (s : State) (e t ready : Nat) (issued : Bool) : State :=
  s.stamp e t (fun g => if g.fin.isSome then g else
    { g with ready := some (g.ready.getD (max g.fetch ready)), issue := if issued then some (g.issue.getD (s.latNow (e / 16))) else g.issue, exc := true })

/-- The task of the tagged instruction is discarded before the instruction's result. -/
def State.stampDiscard (s : State) (e t ready : Nat) : State :=
  s.stamp e t (fun g =>
    let late := match g.fin with
      | some c => decide (s.latNow (e / 16) < c)
      | none => true
    if !late then g
    else { g with ready := if g.ready.isSome then g.ready else if ready ≤ s.latNow (e / 16) then some (max g.fetch ready) else none
                  fin := none, discard := true })

/-- A delta of R719. -/
def stageDelta (a b : Option Nat) : Nat :=
  match a, b with
  | some x, some y => min (y - x) 0xFFFF
  | _, _ => 0

/-- The eight words of a record (R719). -/
def SampTag.record (g : SampTag) : List Word :=
  [g.engine + 2 ^ 9 * g.thread + 2 ^ 12 * g.pc + 2 ^ 24 * g.opcode + 2 ^ 30 * b2n g.ordered,
   g.prog + 2 ^ 12 * g.domain + 2 ^ 20 * b2n g.exc + 2 ^ 21 * b2n g.discard + 2 ^ 22 * b2n g.beyond,
   g.fetch % 2 ^ 32, g.fetch / 2 ^ 32 % 2 ^ 16,
   stageDelta (some g.fetch) g.ready + 2 ^ 16 * stageDelta g.ready g.issue,
   stageDelta g.issue g.gate + 2 ^ 16 * stageDelta g.gate g.fin,
   g.fetchNs % 2 ^ 32, g.num % 2 ^ 32].map (BitVec.ofNat 32)

/-- A record enters the sample buffer (R720). -/
def State.sampleWrite (s : State) (rec : List Word) : State :=
  let full := decide (1024 ≤ s.perf.records.length)
  let lost (s : State) : State := (s.bump Cnt.SAMPLES_LOST).set Reg.PERF_EVENTS_SAMPLE_LOST 1
  if full && !s.flag Reg.PERF_SAMPLE_CFG_WRAP then lost s
  else
    let s1 := if full then lost s else s
    let rs := (if full then s.perf.records.drop 1 else s.perf.records) ++ [rec]
    let th := s.get Reg.SAMPLE_THRESH_THRESH
    let s2 := ({ s1 with perf := { s1.perf with records := rs } }.set Reg.PERF_STATUS_FILL rs.length).bump Cnt.SAMPLES_TAKEN
    if s.perf.records.length < th && th ≤ rs.length then s2.set Reg.PERF_EVENTS_SAMPLE_THRESH 1 else s2

/-- SAMPLE_RECORD_WRITE: the tagged instruction of a lateral has its result, or raised an exception, or its task was discarded: its record is written,
and the next interval starts (R716, R719, R720). -/
def execSampleRecordWrite (lateral : Fin 32) (s : State) : Out :=
  let x := s.sampler lateral.val
  match x.tag with
  | none => .next s
  | some g =>
    let due := g.exc || g.discard || (match g.fin with | some c => decide (c ≤ s.latNow lateral.val) | none => false)
    if !due then .next s
    else
      let s1 := (s.setSampler lateral.val { x with tag := none }).sampleWrite g.record
      done s (if x.left = 0 then s1.newInterval lateral.val else s1)

end Sys2Proof.Machine
end

