-- ==== Sys2Proof/Machine/Engines.lean ====
section
/-! DEFINITION. The Sluice array: laterals, images, tasks on threads, the order gate, exceptions, ordered commit (R515–R542). -/

namespace Sys2Proof.Machine

/-! ### Laterals and images (R515–R518, R538–R541) -/

def State.latGenOf (s : State) (lat : Nat) : Nat := tget 0 s.eng.latGen lat

/-- The image that a lateral runs. -/
def State.latImage (s : State) (lat : Nat) : List Byte := tget [] s.eng.images (s.latGenOf lat)

def imgId (img : List Byte) : Nat := le 4 img 4
/-- Code length in instructions. -/
def imgLen (img : List Byte) : Nat := le 4 img 8
/-- Program table entry `p`. -/
def imgEntry (img : List Byte) (p : Nat) : Nat := le 4 img (16 + 4 * p)
/-- Instruction `k`. -/
def imgWord (img : List Byte) (k : Nat) : Nat := le 4 img (16400 + 4 * k)

/-- ACTION laterals in dispatch that do not run the image in force. -/
def State.unconverted (s : State) : List Nat := (s.latsIn 0).filter (fun k => s.latGenOf k != s.eng.gen)

/-- The image switch ends when every ACTION lateral in dispatch has converted (R540). -/
def State.switchEnd (s : State) : State :=
  if s.flag Reg.ENG_STATUS_SWITCHING && s.unconverted.isEmpty then
    let id := imgId (tget [] s.eng.images s.eng.gen)
    (((s.set Reg.ENG_STATUS_SWITCHING 0).set Reg.ENG_IMAGE_ACTIVE_ID id).set Reg.ENG_EVENTS_IMAGE_DONE 1).log wbEngine 0x51 (bytes 4 id)
  else s

/-- ENG_STATUS follows the laterals, and a switch that waits for none ends. -/
def State.refreshEng (s : State) : State :=
  ((s.set Reg.ENG_STATUS_ACTION_IN (s.latsIn 0).length).set Reg.ENG_STATUS_FW_IN (s.latsIn 1).length).switchEnd

/-! ### Tasks on threads (R516, R520) -/

def State.task (s : State) (e t : Nat) : Option Task := tget none s.eng.tasks (8 * e + t)
def State.putTask (s : State) (e t : Nat) (k : Option Task) : State := { s with eng := { s.eng with tasks := tput none s.eng.tasks (8 * e + t) k } }

/-- The tasks on threads: engine and thread as 8 × engine + thread. -/
def State.allTasks (s : State) : List (Nat × Task) := s.eng.tasks.filterMap (fun e => match e.2 with | some k => some (e.1, k) | none => none)

/-- The tasks of a lateral. -/
def State.latTasks (s : State) (lat : Nat) : List (Nat × Task) := s.allTasks.filter (fun e => e.1 / 128 == lat)

/-- THREADS_BUSY follows. -/
def State.refreshBusy (s : State) (lat : Nat) : State := s.set Reg.LAT_STATUS_THREADS_BUSY (s.latTasks lat).length lat

/-- A thread is free again. -/
def State.endTask (s : State) (e t : Nat) : State :=
  let lat := e / 16
  let s1 := s.putTask e t none
  (({ s1 with eng := { s1.eng with latLast := tput 0 s1.eng.latLast lat (s.latNow lat) } }).refreshBusy lat).perfLat lat 9 1

/-- A task's packet is dropped and passes the action stage in its order. -/
def State.dropTaskPkt (s : State) (id : Nat) : State :=
  match s.pkt id with
  | none => s
  | some p => if p.ordered then (s.dropPkt id).leave p.turnout p.num else s.dropPkt id

/-- An exception of the task on a thread (R534). -/
def State.raiseExc (s : State) (e t : Nat) (k : Task) (cause pc : Nat) : State :=
  match s.pkt k.pkt with
  | none => s.endTask e t
  | some p =>
    let s1 := (s.excReport e t p k.prog cause pc).endTask e t
    (if cause = 6 then s1.set Reg.MEM_EVENTS_POISON_BITE 1 else s1).dropTaskPkt k.pkt

/-- The packet that an emit makes of a task's packet: a new FCS, the emitted action, the task packet's arrival for its policer (R494, R521, R522).
A copy of a packet that came by backwater keeps that packet's TAG (R477; log entry 55). -/
def Emit.packet (x : Emit) (p : Pkt) : Pkt :=
  { p with
    data := x.data ++ fcs x.data
    poison := x.poison
    action := x.action
    cls := actClass x.action
    tag := if p.bwPass = 0 then actTag x.action else p.tag
    policed := false
    lenDrop := false
    lenProg := none
    flowHit := none
    pool := .none_
    parcels := []
    desc := none
    finish := 0 }

/-- The emits of an ended task pass to admission in order; then its packet's storage returns (R520, R522). -/
def State.commitEmits (s : State) (id : Nat) (p : Pkt) (es : List Emit) : State :=
  (es.foldl (fun s x =>
    let r := s.newPkt (x.packet p)
    (r.1.dispose r.2 (x.packet p)).perfDev 13 1) s).dropPkt id

/-- A task reaches END (R520, R530, R531). -/
def State.taskEnds (s : State) (e t : Nat) (k : Task) : State :=
  let s1 := s.endTask e t
  match s1.pkt k.pkt with
  | none => s1
  | some p =>
    if p.ordered then { s1 with eng := { s1.eng with ended := s1.eng.ended ++ [(k.pkt, k.emits)] } }
    else s1.commitEmits k.pkt p k.emits

/-- TASK_COMMIT: an ended task of an ordered domain whose turn has come: its emits are committed and its packet leaves the action stage (R520, R530). -/
def execTaskCommit (turnout : Fin 256) (s : State) : Out :=
  let t := turnout.val
  let mine := s.eng.ended.find? (fun x => match s.pkt x.1 with
    | some p => p.turnout == t && p.num == (s.domain t).left
    | none => false)
  match mine with
  | none => .next s
  | some x =>
    match s.pkt x.1 with
    | none => .next s
    | some p =>
      let s1 := { s with eng := { s.eng with ended := s.eng.ended.erase x } }
      done s ((s1.commitEmits x.1 p x.2).leave t p.num)

/-! ### The order gate (R529) -/

/-- A packet stands before number `n` of a domain. -/
def State.before (s : State) (id t n : Nat) : Bool :=
  match s.pkt id with
  | some p => p.ordered && p.turnout == t && decide (p.num < n)
  | none => false

/-- Every task of the domain with a lower number has released the gate. -/
def State.gateFree (s : State) (t n : Nat) : Bool :=
  !(s.eng.taskQ.any (fun id => s.before id t n)) && !(s.allTasks.any (fun x => !x.2.released && s.before x.2.pkt t n))

/-! ### Fields of an instruction (R524) -/

def insOp (w : Nat) : Nat := w / 2 ^ 26
/-- Bits [25:21]: rd, or ra of form B. -/
def insX (w : Nat) : Nat := bitsOf w 21 5
/-- Bits [20:16]: ra, or rb of form B. -/
def insY (w : Nat) : Nat := bitsOf w 16 5
/-- Bits [15:11]: rb of form R. -/
def insZ (w : Nat) : Nat := bitsOf w 11 5
def insFunc (w : Nat) : Nat := bitsOf w 8 3
def insImm (w : Nat) : Nat := bitsOf w 0 16
/-- The immediate or offset, sign-extended. -/
def insSimm (w : Nat) : Int := sint 16 (insImm w)

/-- The registers that an instruction reads. -/
def srcRegs (w : Nat) : List Nat :=
  let op := insOp w
  if op ≤ 0x0A then [insY w, insZ w]
  else if op ≤ 0x16 then [insY w]
  else if op = 0x17 || op = 0x26 || op = 0x38 || op = 0x3C || op = 0x3F then []
  else if op ≤ 0x25 then [insX w, insY w]
  else if 0x2C ≤ op && op ≤ 0x2F || 0x34 ≤ op && op ≤ 0x37 then [insX w, insY w]
  else if op = 0x39 || op = 0x3A then [insX w, insY w, insZ w]
  else if op = 0x3B then
    if insFunc w % 4 = 0 then [insY w] else if insFunc w % 4 = 3 then [insX w, insY w, insZ w] else [insY w, insZ w]
  else [insY w]

/-- The cycle from which an instruction's operands are there. END and ORDREL also wait until the cycle after the last atom's result (the example
of R533). -/
def Task.readyAt (k : Task) (w : Nat) : Nat :=
  let a := ((srcRegs w).map (fun r => (tget (0, 0) k.ready r).1)).foldl max 0
  if insOp w = 0x3F && k.atomAt ≠ 0 then max a (k.atomAt + 1) else a

/-- Register `r`; g0 reads as zero. -/
def Task.reg (k : Task) (r : Nat) : DWord := if r = 0 then 0 else tget 0 k.regs r

/-- Write register `r`, usable from cycle `at_`; writes to g0 are discarded. `kind` is 1 for a load, 2 for an atom. -/
def Task.put (k : Task) (r : Nat) (v : DWord) (at_ : Nat) (kind : Nat := 0) : Task :=
  if r = 0 then k else { k with regs := tput 0 k.regs r v, ready := tput (0, 0) k.ready r (at_, kind) }

/-! ### Issue (R515, R523–R526) -/

/-- What becomes of a task at an instruction. -/
inductive Ran where
  /-- It goes on at `pc`; the instruction's result can be used `lat` cycles after issue. -/
  | go (k : Task) (pc : Int) (lat : Nat)
  /-- It waits for its order gate. -/
  | hold (k : Task)
  | trap (cause : Nat)
  | ended
  deriving DecidableEq, Repr

/-- After an issue the task is where `r` says. -/
def State.settleTask (s : State) (e t : Nat) (k : Task) (op ready : Nat) (r : Ran) : State :=
  match r with
  | .go k1 pc lat =>
    let s1 := s.stampIssue e t ready (some lat) (decide (0x30 ≤ op ∧ op ≤ 0x33 ∧ lat = 24))
    if pc < 0 ∨ Int.ofNat (imgLen (s1.latImage (e / 16))) ≤ pc then s1.raiseExc e t k1 2 (twos 16 pc)
    else s1.putTask e t (some { k1 with pc := pc.toNat, fetchAt := s.latNow (e / 16) + 1 })
  | .hold k1 => (s.stampIssue e t ready none false).putTask e t (some { k1 with waiting := true })
  | .trap cause => (s.stampExc e t ready true).raiseExc e t k cause k.pc
  | .ended => (s.stampIssue e t ready (some 1) false).taskEnds e t k

/-- An instruction that `mine` picks issues from a thread, when it is the thread's next, its operands are there and its engine has issued no other in
this cycle; `f` is its operation (R515, R523, R525, R535). -/
def issue (engine : Fin 512) (thread : Fin 8) (s : State) (mine : Nat → Bool) (f : Nat → Task → State → State × Ran) : Out :=
  let e := engine.val
  let t := thread.val
  match s.task e t with
  | none => .next s
  | some k =>
    let w := imgWord (s.latImage (e / 16)) k.pc
    let ready := k.readyAt w
    let now := s.latNow (e / 16)
    if k.waiting || now < k.fetchAt || now < ready || tget 0 s.eng.lastIssue e = now + 1 || !mine w then .next s
    else if k.budget ≤ k.issued then done s ((s.stampExc e t ready false).raiseExc e t k 7 k.pc)
    else
      let m := s.memRead 2 e k.pc 2
      if m.1 then done s ((m.2.stampExc e t ready false).raiseExc e t k 6 k.pc)
      else
        let s1 := { m.2 with eng := { m.2.eng with lastIssue := tput 0 m.2.eng.lastIssue e (now + 1) } }
        let s2 := s1.perfLat (e / 16) 2 1
        let r := f w { k with issued := k.issued + 1 } s2
        done s ((r.1.settleTask e t { k with issued := k.issued + 1 } (insOp w) ready r.2).sampleCount (e / 16))

/-- An instruction of one opcode. -/
def opIs (op : Nat) (w : Nat) : Bool := insOp w == op

/-- An atom of one function. -/
def atomIs (fn : Nat) (w : Nat) : Bool := insOp w == 0x3B && insFunc w == fn

/-- ra of forms R and I, rb of form R. -/
def Task.a (k : Task) (w : Nat) : DWord := k.reg (insY w)
def Task.b (k : Task) (w : Nat) : DWord := k.reg (insZ w)

/-- The cycle that a task's lateral is in. -/
def Task.now (k : Task) (s : State) : Nat := s.latNow k.home

/-- A register result after `lat` cycles. -/
def Task.result (k : Task) (s : State) (w : Nat) (v : DWord) (lat : Nat) : Ran :=
  .go (k.put (insX w) v (k.now s + lat)) (Int.ofNat k.pc + 1) lat

/-- The task goes on without a result. -/
def Task.goOn (k : Task) : Ran := .go k (Int.ofNat k.pc + 1) 1

/-- A thread's three-register operation. -/
def aluR (op lat : Nat) (g : DWord → DWord → DWord) (engine : Fin 512) (thread : Fin 8) (s : State) : Out :=
  issue engine thread s (opIs op) (fun w k s => (s, k.result s w (g (k.a w) (k.b w)) lat))

/-- An operation of a register and an immediate. -/
def aluI (op : Nat) (g : DWord → Nat → DWord) (engine : Fin 512) (thread : Fin 8) (s : State) : Out :=
  issue engine thread s (opIs op) (fun w k s => (s, k.result s w (g (k.a w) (insImm w)) 1))

/-- A conditional branch. -/
def branch (op : Nat) (g : DWord → DWord → Bool) (engine : Fin 512) (thread : Fin 8) (s : State) : Out :=
  issue engine thread s (opIs op) (fun w k s =>
    (s, .go k (Int.ofNat k.pc + 1 + (if g (k.reg (insX w)) (k.reg (insY w)) then insSimm w else 0)) 1))

/-- ra plus the sign-extended immediate: the address or offset of a load or store (log entry 57). -/
def Task.addr (k : Task) (w : Nat) : Nat := (k.a w + BitVec.ofInt 64 (insSimm w)).toNat

/-! ### Data memory (R516, R526, R551) -/

/-- The word of memory 3 that holds an address of a thread's region. -/
def dmemWord (t addr : Nat) : Nat := 512 * t + addr / 8

/-- `n` bytes of data memory, little-endian. -/
def Task.dmemVal (k : Task) (addr n : Nat) : Nat := le n ((List.range n).map (fun i => tget 0 k.dmem (addr + i))) 0

/-- The cause of an access of `n` bytes that the region or its alignment forbids. -/
def dmemCause (addr n : Nat) : Option Nat := if 4096 ≤ addr then some 3 else if addr % n ≠ 0 then some 4 else none

/-- A load of `n` bytes. -/
def dload (op n : Nat) (engine : Fin 512) (thread : Fin 8) (s : State) : Out :=
  issue engine thread s (opIs op) (fun w k s =>
    let a := k.addr w
    match dmemCause a n with
    | some c => (s, .trap c)
    | none =>
      let m := s.memRead 3 engine.val (dmemWord thread.val a) 2
      if m.1 then (m.2, .trap 6)
      else (m.2, .go (k.put (insX w) (BitVec.ofNat 64 (k.dmemVal a n)) (k.now s + 2) 1) (Int.ofNat k.pc + 1) 2))

/-- A store of `n` bytes: the word is merged and written whole; with fewer than 8 bytes it keeps a poison mark (R551). -/
def dstore (op n : Nat) (engine : Fin 512) (thread : Fin 8) (s : State) : Out :=
  issue engine thread s (opIs op) (fun w k s =>
    let a := k.addr w
    match dmemCause a n with
    | some c => (s, .trap c)
    | none =>
      let word := dmemWord thread.val a
      let m := if n = 8 then (false, s) else s.memRead 3 engine.val word 2
      let d := (bytes n (k.reg (insX w)).toNat).zipIdx.foldl (fun (d : Tab Byte) x => tput 0 d (a + x.2) x.1) k.dmem
      (m.2.memWrite 3 engine.val word m.1, ({ k with dmem := d }).goOn))

/-! ### The packet (R516, R521, R526, R558) -/

/-- The offset of a byte in the packet as it was stored. -/
def Task.origOff (k : Task) (o : Nat) : Int := Int.ofNat o + k.shift

/-- The buffer words that bytes `o` to `o + n - 1` touch. -/
def Task.bufWords (k : Task) (o n : Nat) : List Nat :=
  ((List.range n).filterMap (fun i =>
    let x := k.origOff (o + i)
    if 0 ≤ x && x < 512 then some (x.toNat / 8) else none)).eraseDups

/-- The words of the stored packet, beyond the buffer, that the bytes touch. -/
def Task.farWords (k : Task) (p : Pkt) (o n : Nat) : List Nat :=
  ((List.range n).filterMap (fun i =>
    let x := k.origOff (o + i)
    if 512 ≤ x && x.toNat / 32 < wordsFor p.data.length then some (x.toNat / 32) else none)).eraseDups

/-- The bytes reach beyond the buffer. -/
def Task.beyond (k : Task) (o n : Nat) : Bool := (List.range n).any (fun i => decide (512 ≤ k.origOff (o + i)))

/-- The current offsets of `n` stored bytes from `x` on. -/
def Task.offsets (k : Task) (x n : Nat) : List Nat :=
  (List.range n).filterMap (fun i =>
    let o := Int.ofNat (x + i) - k.shift
    if 0 ≤ o && o.toNat < k.data.length then some o.toNat else none)

/-- Read buffer words: the current offsets whose word is uncorrectable, or that a scrub has marked whole. -/
def State.readBuf (s : State) (e t : Nat) (k : Task) (ws : List Nat) : State × List Nat :=
  ws.foldl (fun (r : State × List Nat) x =>
    let word := 64 * t + x
    if r.1.wordBits 4 e word ≥ 2 then (r.1.uncorrectable 4 e word 2, r.2 ++ k.offsets (8 * x) 8)
    else
      let s1 := if r.1.wordBits 4 e word = 1 then r.1.corrected 4 e word else r.1
      if s1.wordFlag 4 e word && !(k.offsets (8 * x) 8).any k.poison.contains then (s1.bump Cnt.POISON_READS 4, r.2 ++ k.offsets (8 * x) 8)
      else (s1, r.2)) (s, [])

/-- Read words of the stored packet beyond the buffer: the current offsets that carry a mark. -/
def State.readFar (s : State) (k : Task) (p : Pkt) (ws : List Nat) : State × List Nat :=
  ws.foldl (fun (r : State × List Nat) x =>
    let m := r.1.readWords p x (x + 1) 2
    (m.1, r.2 ++ (if m.2.isEmpty then [] else k.offsets (32 * x) 32))) (s, [])

/-- Load packet bytes `o` to `o + n - 1`: true when one of them carries a mark (R535). -/
def State.pktLoad (s : State) (e t : Nat) (k : Task) (o n : Nat) : State × Bool :=
  match s.pkt k.pkt with
  | none => (s, false)
  | some p =>
    let a := s.readBuf e t k (k.bufWords o n)
    let marked := k.poison.any (fun x => decide (o ≤ x ∧ x < o + n))
    let s1 := if marked then a.1.bump Cnt.POISON_READS 4 else a.1
    let b := s1.readFar k p (k.farWords p o n)
    (b.1, marked || !a.2.isEmpty || !b.2.isEmpty)

/-- A packet load of `n` bytes. -/
def pload (op n : Nat) (engine : Fin 512) (thread : Fin 8) (s : State) : Out :=
  issue engine thread s (opIs op) (fun w k s =>
    let o := k.addr w
    if k.data.length < o + n then (s, .trap 5)
    else
      let far := k.beyond o n
      let s1 := if far then s.perfLat (engine.val / 16) 8 1 else s
      let r := s1.pktLoad engine.val thread.val k o n
      let lat := if far then 24 else 4
      if r.2 then (r.1, .trap 6)
      else (r.1, .go (k.put (insX w) (BitVec.ofNat 64 (be n k.data o)) (k.now s + lat) 1) (Int.ofNat k.pc + 1) lat))

/-- Write bytes into the packet from `o` on: their marks go, the buffer words are written through their code. -/
def State.pktStore (s : State) (e t : Nat) (k : Task) (o : Nat) (l : List Byte) : State × Task :=
  let n := l.length
  let ws := k.bufWords o n
  let r := s.readBuf e t k ws
  let marks := (k.poison ++ r.2.filter (fun x => !k.poison.contains x)).filter (fun x => !decide (o ≤ x ∧ x < o + n))
  let s1 := ws.foldl (fun s x => s.memWrite 4 e (64 * t + x) ((k.offsets (8 * x) 8).any marks.contains)) r.1
  (s1, { k with data := k.data.take o ++ l ++ k.data.drop (o + n), poison := marks })

/-- A packet store of `n` bytes. -/
def pstore (op n : Nat) (engine : Fin 512) (thread : Fin 8) (s : State) : Out :=
  issue engine thread s (opIs op) (fun w k s =>
    let o := k.addr w
    if k.data.length < o + n then (s, .trap 5)
    else
      let r := s.pktStore engine.val thread.val k o (bytesBe n (k.reg (insX w)).toNat)
      (r.1, r.2.goOn))

/-- Remove `n` bytes in front. -/
def Task.cutFront (k : Task) (n : Nat) : Task :=
  { k with data := k.data.drop n, poison := (k.poison.filter (fun x => n ≤ x)).map (fun x => x - n), shift := k.shift + Int.ofNat n }

/-- Add `n` zero bytes in front. -/
def Task.growFront (k : Task) (n : Nat) : Task :=
  { k with data := List.replicate n 0 ++ k.data, poison := k.poison.map (fun x => x + n), shift := k.shift - Int.ofNat n }

/-- Set the current length: none when the tail would grow by more than 256 bytes net (R521). -/
def Task.setLen (k : Task) (v : Nat) : Option Task :=
  let l := k.data.length
  let tail := k.tail + (Int.ofNat v - Int.ofNat l)
  if 256 < tail then none
  else some { k with data := k.data.take v ++ List.replicate (v - l) 0, poison := k.poison.filter (fun x => x < v), tail := tail }

/-! ### Atoms (R525, R526, R529, R531–R533, R535) -/

/-- The operation of an atom on its word: the word after it, none where it is not written. -/
def atomWord (fn : Nat) (k : Task) (w : Nat) (old : DWord) : Option DWord :=
  match fn % 4 with
  | 0 => none
  | 1 => some (old + k.b w)
  | 2 => some (k.b w)
  | _ => if old = k.reg (insX w) then some (k.b w) else none

/-- The atom reaches the state memory. One on a word that another engine's atom has reached in this cycle comes a cycle later (R532). -/
def State.atomApply (s : State) (fn w : Nat) (k : Task) : State × Ran :=
  let i := (k.a w).toNat
  let m := s.memRead 5 0 i 2
  if m.1 then (m.2, .trap 6)
  else
    let old := tget 0 m.2.eng.words i
    let seen := if m.2.eng.atomCycle = s.cycle + 1 then m.2.eng.atomWords else []
    let lat := if seen.contains i then 25 else 24
    let s1 := { m.2 with eng := { m.2.eng with atomCycle := s.cycle + 1, atomWords := seen ++ [i] } }
    let s2 := match atomWord fn k w old with
      | some v => { s1 with eng := { s1.eng with words := tput 0 s1.eng.words i v } }.memWrite 5 0 i
      | none => s1
    let s3 := (s2.perfDev 9 1).perfDev 10 (lat - 24)
    (s3, .go { k.put (insX w) old (k.now s + lat) 2 with atomAt := max k.atomAt (k.now s + lat) } (Int.ofNat k.pc + 1) lat)

/-- The task belongs to an ordered domain. -/
def State.inOrder (s : State) (k : Task) : Bool :=
  match s.pkt k.pkt with
  | some p => p.ordered
  | none => false

/-- The task on a thread can issue an atom on state word `i` in this cycle. -/
def State.atomDue (s : State) (i : Nat) (x : Nat × Task) : Bool :=
  let e := x.1 / 8
  let k := x.2
  let w := imgWord (s.latImage (e / 16)) k.pc
  let now := s.latNow (e / 16)
  insOp w == 0x3B && (k.a w).toNat == i && !k.waiting && decide (max k.fetchAt (k.readyAt w) ≤ now) && tget 0 s.eng.lastIssue e != now + 1 &&
    decide (k.issued < k.budget)

/-- The next atom of a thread lets one of a lower-numbered engine on the same word go first in the same cycle (R532). -/
def State.atomYields (s : State) (e t : Nat) : Bool :=
  match s.task e t with
  | none => false
  | some k =>
    let i := (k.a (imgWord (s.latImage (e / 16)) k.pc)).toNat
    s.allTasks.any (fun x => decide (x.1 / 8 < e) && s.atomDue i x)

/-- An atom of one function. -/
def atom (fn : Nat) (engine : Fin 512) (thread : Fin 8) (s : State) : Out :=
  if s.atomYields engine.val thread.val then .next s
  else issue engine thread s (atomIs fn) (fun w k s =>
    if 524288 ≤ (k.a w).toNat then (s, .trap 11)
    else if 4 ≤ fn then
      let s1 := match s.pkt k.pkt with
        | some p => s.bump Cnt.UNORDERED_OPS p.turnout
        | none => s
      s1.atomApply fn w k
    else match s.pkt k.pkt with
      | none => (s, .trap 11)
      | some p =>
        if !p.ordered then s.atomApply fn w k
        else if k.released then (s, .trap 12)
        else if s.gateFree p.turnout p.num then s.atomApply fn w k
        else (s, .hold k))

/-- ORDER_GATE_ACQUIRE: every earlier task of the domain has released the gate; the waiting atom is applied (R529). -/
def execOrderGateAcquire (engine : Fin 512) (thread : Fin 8) (s : State) : Out :=
  let e := engine.val
  let t := thread.val
  match s.task e t with
  | none => .next s
  | some k =>
    match s.pkt k.pkt with
    | none => .next s
    | some p =>
      if !k.waiting || !s.gateFree p.turnout p.num then .next s
      else
        let w := imgWord (s.latImage (e / 16)) k.pc
        let r := s.atomApply (insFunc w) w { k with waiting := false }
        match r.2 with
        | .go k1 pc lat => done s ((r.1.stampGate e t lat).settleTask e t k (insOp w) 0 (.go k1 pc lat))
        | x => done s (r.1.settleTask e t k (insOp w) 0 x)

end Sys2Proof.Machine
end

