-- ==== Sys2Proof/Machine/Insns.lean ====
section
/-! DEFINITION. The engine instructions (R521–R535): one meaning for each. Their operands are the engine and the thread that issues; what they read is
in the image that the lateral runs and in the thread's task. -/

namespace Sys2Proof.Machine

/-! ### Arithmetic and logic (R525) -/

/-- ADD. -/
def execIAdd (engine : Fin 512) (thread : Fin 8) (s : State) : Out := aluR 0x00 1 (fun a b => a + b) engine thread s

/-- SUB. -/
def execISub (engine : Fin 512) (thread : Fin 8) (s : State) : Out := aluR 0x01 1 (fun a b => a - b) engine thread s

/-- AND. -/
def execIAnd (engine : Fin 512) (thread : Fin 8) (s : State) : Out := aluR 0x02 1 (fun a b => a &&& b) engine thread s

/-- OR. -/
def execIOr (engine : Fin 512) (thread : Fin 8) (s : State) : Out := aluR 0x03 1 (fun a b => a ||| b) engine thread s

/-- XOR. -/
def execIXor (engine : Fin 512) (thread : Fin 8) (s : State) : Out := aluR 0x04 1 (fun a b => a ^^^ b) engine thread s

/-- SHL. -/
def execIShl (engine : Fin 512) (thread : Fin 8) (s : State) : Out := aluR 0x05 1 (fun a b => a <<< (b.toNat % 64)) engine thread s

/-- SHR. -/
def execIShr (engine : Fin 512) (thread : Fin 8) (s : State) : Out := aluR 0x06 1 (fun a b => a >>> (b.toNat % 64)) engine thread s

/-- SAR. -/
def execISar (engine : Fin 512) (thread : Fin 8) (s : State) : Out := aluR 0x07 1 (fun a b => a.sshiftRight (b.toNat % 64)) engine thread s

/-- MUL: the low 64 bits. -/
def execIMul (engine : Fin 512) (thread : Fin 8) (s : State) : Out := aluR 0x08 3 (fun a b => a * b) engine thread s

/-- SLT. -/
def execISlt (engine : Fin 512) (thread : Fin 8) (s : State) : Out := aluR 0x09 1 (fun a b => if a.slt b then 1 else 0) engine thread s

/-- SLTU. -/
def execISltu (engine : Fin 512) (thread : Fin 8) (s : State) : Out := aluR 0x0A 1 (fun a b => if a.ult b then 1 else 0) engine thread s

/-- ADDI: the immediate is sign-extended. -/
def execIAddi (engine : Fin 512) (thread : Fin 8) (s : State) : Out := aluI 0x10 (fun a i => a + BitVec.ofInt 64 (sint 16 i)) engine thread s

/-- ANDI: the immediate is zero-extended. -/
def execIAndi (engine : Fin 512) (thread : Fin 8) (s : State) : Out := aluI 0x11 (fun a i => a &&& BitVec.ofNat 64 i) engine thread s

/-- ORI: the immediate is zero-extended. -/
def execIOri (engine : Fin 512) (thread : Fin 8) (s : State) : Out := aluI 0x12 (fun a i => a ||| BitVec.ofNat 64 i) engine thread s

/-- XORI: the immediate is zero-extended. -/
def execIXori (engine : Fin 512) (thread : Fin 8) (s : State) : Out := aluI 0x13 (fun a i => a ^^^ BitVec.ofNat 64 i) engine thread s

/-- SHLI. -/
def execIShli (engine : Fin 512) (thread : Fin 8) (s : State) : Out := aluI 0x14 (fun a i => a <<< (i % 64)) engine thread s

/-- SHRI. -/
def execIShri (engine : Fin 512) (thread : Fin 8) (s : State) : Out := aluI 0x15 (fun a i => a >>> (i % 64)) engine thread s

/-- SARI. -/
def execISari (engine : Fin 512) (thread : Fin 8) (s : State) : Out := aluI 0x16 (fun a i => a.sshiftRight (i % 64)) engine thread s

/-- LUI: the sign-extended immediate shifted left by 16. -/
def execILui (engine : Fin 512) (thread : Fin 8) (s : State) : Out := aluI 0x17 (fun _ i => BitVec.ofInt 64 (sint 16 i) <<< 16) engine thread s

/-! ### Control flow (R525, R526) -/

/-- BEQ. -/
def execIBeq (engine : Fin 512) (thread : Fin 8) (s : State) : Out := branch 0x20 (fun a b => a == b) engine thread s

/-- BNE. -/
def execIBne (engine : Fin 512) (thread : Fin 8) (s : State) : Out := branch 0x21 (fun a b => a != b) engine thread s

/-- BLT: signed. -/
def execIBlt (engine : Fin 512) (thread : Fin 8) (s : State) : Out := branch 0x22 (fun a b => a.slt b) engine thread s

/-- BLTU: unsigned. -/
def execIBltu (engine : Fin 512) (thread : Fin 8) (s : State) : Out := branch 0x23 (fun a b => a.ult b) engine thread s

/-- BGE: signed. -/
def execIBge (engine : Fin 512) (thread : Fin 8) (s : State) : Out := branch 0x24 (fun a b => !a.slt b) engine thread s

/-- BGEU: unsigned. -/
def execIBgeu (engine : Fin 512) (thread : Fin 8) (s : State) : Out := branch 0x25 (fun a b => !a.ult b) engine thread s

/-- JAL: rd = pc + 1, and the jump. -/
def execIJal (engine : Fin 512) (thread : Fin 8) (s : State) : Out :=
  issue engine thread s (opIs 0x26) (fun w k s =>
    (s, .go (k.put (insX w) (BitVec.ofNat 64 (k.pc + 1)) (k.now s + 1)) (Int.ofNat k.pc + 1 + insSimm w) 1))

/-- JR: pc = ra. -/
def execIJr (engine : Fin 512) (thread : Fin 8) (s : State) : Out :=
  issue engine thread s (opIs 0x27) (fun w k s => (s, .go k (Int.ofNat (k.a w).toNat) 1))

/-! ### Data memory (R525, R526, R551) -/

/-- LDB: 1 byte, zero-extended. -/
def execILdb (engine : Fin 512) (thread : Fin 8) (s : State) : Out := dload 0x28 1 engine thread s

/-- LDH: 2 bytes, zero-extended. -/
def execILdh (engine : Fin 512) (thread : Fin 8) (s : State) : Out := dload 0x29 2 engine thread s

/-- LDW: 4 bytes, zero-extended. -/
def execILdw (engine : Fin 512) (thread : Fin 8) (s : State) : Out := dload 0x2a 4 engine thread s

/-- LDD: 8 bytes, zero-extended. -/
def execILdd (engine : Fin 512) (thread : Fin 8) (s : State) : Out := dload 0x2b 8 engine thread s

/-- STB: the low 1 byte of the register named in rd. -/
def execIStb (engine : Fin 512) (thread : Fin 8) (s : State) : Out := dstore 0x2c 1 engine thread s

/-- STH: the low 2 bytes of the register named in rd. -/
def execISth (engine : Fin 512) (thread : Fin 8) (s : State) : Out := dstore 0x2d 2 engine thread s

/-- STW: the low 4 bytes of the register named in rd. -/
def execIStw (engine : Fin 512) (thread : Fin 8) (s : State) : Out := dstore 0x2e 4 engine thread s

/-- STD: the low 8 bytes of the register named in rd. -/
def execIStd (engine : Fin 512) (thread : Fin 8) (s : State) : Out := dstore 0x2f 8 engine thread s

/-! ### The packet (R521, R525, R526) -/

/-- PLB: 1 packet byte, most significant first. -/
def execIPlb (engine : Fin 512) (thread : Fin 8) (s : State) : Out := pload 0x30 1 engine thread s

/-- PLH: 2 packet bytes, most significant first. -/
def execIPlh (engine : Fin 512) (thread : Fin 8) (s : State) : Out := pload 0x31 2 engine thread s

/-- PLW: 4 packet bytes, most significant first. -/
def execIPlw (engine : Fin 512) (thread : Fin 8) (s : State) : Out := pload 0x32 4 engine thread s

/-- PLD: 8 packet bytes, most significant first. -/
def execIPld (engine : Fin 512) (thread : Fin 8) (s : State) : Out := pload 0x33 8 engine thread s

/-- PSB: 1 packet byte, most significant first. -/
def execIPsb (engine : Fin 512) (thread : Fin 8) (s : State) : Out := pstore 0x34 1 engine thread s

/-- PSH: 2 packet bytes, most significant first. -/
def execIPsh (engine : Fin 512) (thread : Fin 8) (s : State) : Out := pstore 0x35 2 engine thread s

/-- PSW: 4 packet bytes, most significant first. -/
def execIPsw (engine : Fin 512) (thread : Fin 8) (s : State) : Out := pstore 0x36 4 engine thread s

/-- PSD: 8 packet bytes, most significant first. -/
def execIPsd (engine : Fin 512) (thread : Fin 8) (s : State) : Out := pstore 0x37 8 engine thread s

/-- PADJ: a positive immediate removes bytes in front, a negative one adds zero bytes (R521). Removing more than the packet holds is out of its
range (log entry 58). -/
def execIPadj (engine : Fin 512) (thread : Fin 8) (s : State) : Out :=
  issue engine thread s (opIs 0x38) (fun w k s =>
    let n := insSimm w
    if 0 ≤ n then (if k.data.length < n.toNat then (s, .trap 5) else (s, (k.cutFront n.toNat).goOn))
    else if k.shift + n < -256 then (s, .trap 9)
    else (s, (k.growFront (-n).toNat).goOn))

/-- CRC: the CRC of R468 over data memory bytes, continuing from rd. -/
def execICrc (engine : Fin 512) (thread : Fin 8) (s : State) : Out :=
  issue engine thread s (opIs 0x39) (fun w k s =>
    let n := (k.b w).toNat % 1024
    let a := (k.a w).toNat
    if n ≠ 0 ∧ 4096 < a + n then (s, .trap 3)
    else
      let m := s.memReads 3 engine.val (dmemWord thread.val a) (if n = 0 then 0 else (a + n - 1) / 8 - a / 8 + 1) 2
      if m.1 then (m.2, .trap 6)
      else
        let v := flowCrc ((k.reg (insX w)).toNat % 2 ^ 32) ((List.range n).map (fun i => tget 0 k.dmem (a + i)))
        (m.2, k.result s w (BitVec.ofNat 64 v) (1 + (n + 7) / 8)))

/-- CSUM: the one's-complement sum of packet bytes, from rd[15:0]. -/
def execICsum (engine : Fin 512) (thread : Fin 8) (s : State) : Out :=
  issue engine thread s (opIs 0x3A) (fun w k s =>
    let n := (k.b w).toNat
    let o := (k.a w).toNat
    if n ≠ 0 ∧ k.data.length < o + n then (s, .trap 5)
    else
      let r := s.pktLoad engine.val thread.val k o n
      if r.2 then (r.1, .trap 6)
      else (r.1, k.result s w (BitVec.ofNat 64 (onesSum ((k.data.drop o).take n) ((k.reg (insX w)).toNat % 65536))) (4 + (n + 7) / 8)))

/-! ### Atoms (R525, R529, R532) -/

/-- OREAD. -/
def execIOread (engine : Fin 512) (thread : Fin 8) (s : State) : Out := atom 0 engine thread s

/-- OADD. -/
def execIOadd (engine : Fin 512) (thread : Fin 8) (s : State) : Out := atom 1 engine thread s

/-- OSWP. -/
def execIOswp (engine : Fin 512) (thread : Fin 8) (s : State) : Out := atom 2 engine thread s

/-- OCAS. -/
def execIOcas (engine : Fin 512) (thread : Fin 8) (s : State) : Out := atom 3 engine thread s

/-- UREAD. -/
def execIUread (engine : Fin 512) (thread : Fin 8) (s : State) : Out := atom 4 engine thread s

/-- UADD. -/
def execIUadd (engine : Fin 512) (thread : Fin 8) (s : State) : Out := atom 5 engine thread s

/-- USWP. -/
def execIUswp (engine : Fin 512) (thread : Fin 8) (s : State) : Out := atom 6 engine thread s

/-- UCAS. -/
def execIUcas (engine : Fin 512) (thread : Fin 8) (s : State) : Out := atom 7 engine thread s

/-! ### Control and status registers (R527, R533, R714, R715) -/

/-- A performance counter as csr_cnt returns it (R714). -/
def State.perfValue (s : State) (c : Ctr) (i j : Nat) : Nat :=
  s.count c i j % 2 ^ 48 + 2 ^ 63 * bitsOf (s.reg (c.addr i j + 4)).toNat 31 1

/-- What csr_cnt returns for a selection; none above 13. -/
def State.csrCnt (s : State) (lat : Nat) (k : Task) : Option Nat :=
  let n := k.cntSel
  if n < 8 then some (s.perfValue Cnt.DC n 0)
  else if n < 12 then some (s.perfValue Cnt.LC lat (n - 8))
  else if n = 12 then some k.issued
  else if n = 13 then some (k.now s - k.start)
  else none

/-- The value of a CSR, or the cause that reading it raises. -/
def State.csrRead (s : State) (e t : Nat) (k : Task) (p : Pkt) (i : Nat) : Nat ⊕ Nat :=
  match i with
  | 0 => .inl p.num
  | 1 => .inl (p.turnout + 2 ^ 8 * p.orig)
  | 2 => .inl k.data.length
  | 3 => .inl (p.flags % 2 ^ 16 + 2 ^ 16 * (p.dl % 2 ^ 16))
  | 4 => .inl p.action
  | 5 => .inl p.hash
  | 6 => .inl p.bwPass
  | 7 => .inl k.hdrSel
  | 8 => .inl (match p.hdrs[k.hdrSel]? with
      | some h => h.1 * 2 ^ 12 + h.2 % 512
      | none => 0)
  | 16 => .inl s.devNs
  | 17 => .inl (k.now s)
  | 18 => .inl (e + 512 * t)
  | 19 => .inl k.cntSel
  | 20 => if !k.cntRead then .inr 10 else match s.csrCnt (e / 16) k with
      | some v => .inl v
      | none => .inr 10
  | _ => .inr 1

/-- A read of this CSR is a timer read (R533). -/
def timerCsr (i : Nat) : Bool := i == 16 || i == 17 || i == 18 || i == 20

/-- CSRR. -/
def execICsrr (engine : Fin 512) (thread : Fin 8) (s : State) : Out :=
  issue engine thread s (opIs 0x3C) (fun w k s =>
    match s.pkt k.pkt with
    | none => (s, .trap 10)
    | some p =>
      match s.csrRead engine.val thread.val k p (insImm w) with
      | .inr c => (s, .trap c)
      | .inl v =>
        let s1 := if timerCsr (insImm w) then (s.bump Cnt.TIMER_READS p.turnout).perfLat (engine.val / 16) 11 1 else s
        (s1, k.result s w (BitVec.ofNat 64 v) 1))

/-- CSRW. csr_hdr_sel takes the low 4 bits (log entry 59). -/
def execICsrw (engine : Fin 512) (thread : Fin 8) (s : State) : Out :=
  issue engine thread s (opIs 0x3D) (fun w k s =>
    let i := insImm w
    let v := (k.a w).toNat
    if i = 2 then match k.setLen v with
      | some k1 => (s, k1.goOn)
      | none => (s, .trap 9)
    else if i = 7 then (s, ({ k with hdrSel := v % 16 } : Task).goOn)
    else if i = 19 then (s, ({ k with cntSel := v } : Task).goOn)
    else if i ≤ 8 || (16 ≤ i && i ≤ 20) then (s, .trap 10)
    else (s, .trap 1))

/-! ### Emit, end and release (R520, R522, R529, R558) -/

/-- The poisoned offsets of the packet as it stands: what the task holds marked, and the words of the buffer and of the stored packet that a
copy reads marked. -/
def State.copyMarks (s : State) (e t : Nat) (k : Task) : State × List Nat :=
  match s.pkt k.pkt with
  | none => (s, k.poison)
  | some p =>
    let a := s.readBuf e t k (k.bufWords 0 k.data.length)
    let b := a.1.readFar k p (k.farWords p 0 k.data.length)
    (b.1, k.poison ++ (a.2 ++ b.2).filter (fun x => !k.poison.contains x))

/-- EMIT: verb and number of emits first, then the length (R521, R522). -/
def execIEmit (engine : Fin 512) (thread : Fin 8) (s : State) : Out :=
  issue engine thread s (opIs 0x3E) (fun w k s =>
    let action := (k.a w).toNat
    let v := actVerb action
    if (v ≠ 0 ∧ v ≠ 3 ∧ v ≠ 4) ∨ 8 ≤ k.emits.length then (s, .trap 8)
    else if k.data.length < 60 ∨ 9724 < k.data.length then (s, .trap 9)
    else
      let r := s.copyMarks engine.val thread.val k
      (r.1, ({ k with emits := k.emits ++ [{ action := action, data := k.data, poison := r.2 }] } : Task).goOn))

/-- END: the task ends. A ctl value that is neither END nor ORDREL raises ILLEGAL (R525, R534). -/
def execIEnd (engine : Fin 512) (thread : Fin 8) (s : State) : Out :=
  issue engine thread s (fun w => insOp w == 0x3F && insImm w != 1) (fun w _ s => if insImm w = 0 then (s, .ended) else (s, .trap 1))

/-- ORDREL: the gate is released; no effect in a domain that is not ordered (R529, R531). -/
def execIOrdrel (engine : Fin 512) (thread : Fin 8) (s : State) : Out :=
  issue engine thread s (fun w => insOp w == 0x3F && insImm w == 1) (fun _ k s => (s, (if s.inOrder k then { k with released := true } else k).goOn))

end Sys2Proof.Machine
end

