-- ==== Sys2Proof/Machine/EngCtl.lean ====
section
/-! DEFINITION. The dispatcher, image switches, laterals taken out of dispatch, and the commands of the Sluice array (R518, R519, R536–R549). -/

namespace Sys2Proof.Machine

/-! ### Dispatch (R518, R519, R534, R560) -/

/-- The lowest free thread of a lateral. -/
def State.freeThread (s : State) (lat : Nat) : Option (Nat × Nat) :=
  ((List.range 128).find? (fun i => (s.task (16 * lat + i / 8) (i % 8)).isNone)).map (fun i => (16 * lat + i / 8, i % 8))

/-- The lateral that converts next, unless it is the only one left, takes no old task (R540). -/
def State.takes (s : State) (lat gen : Nat) : Bool :=
  s.latGenOf lat == gen && (match s.unconverted with
    | a :: _ :: _ => a != lat
    | _ => true)

/-- The thread for a task whose packet's parse started under image generation `gen`: the next ACTION lateral in round robin that has one. -/
def State.pickThread (s : State) (gen : Nat) : Option (Nat × Nat) :=
  ((List.range 32).map (fun i => (s.eng.rr + i) % 32)).findSome? (fun lat =>
    if s.inDispatch lat && s.get Reg.LAT_CTRL_ROLE lat == 0 && s.takes lat gen then s.freeThread lat else none)

/-- A thread's data memory reads as zero again: its words are clean (R516, R560). -/
def State.zeroRegion (s : State) (e t : Nat) : State :=
  let lo := wordKey 3 e (512 * t)
  { s with mem := { s.mem with words := s.mem.words.filter (fun x => !decide (lo ≤ x.1 ∧ x.1 < lo + 512)) } }

/-- The first 512 bytes go into the packet buffer with their marks, and the thread starts after 8 cycles (R519). -/
def State.startTask (s : State) (e t id : Nat) (p : Pkt) (entry : Nat) : State :=
  let data := p.data.take (p.data.length - 4)
  let r := s.readWords p 0 (min 16 (wordsFor p.data.length)) 2
  let marks := (r.2.flatMap (fun w => (List.range 32).map (fun i => 32 * w + i))).filter (fun o => o < data.length)
  let s1 := (List.range (min 64 ((p.data.length + 7) / 8))).foldl (fun s x =>
    s.memWrite 4 e (64 * t + x) (marks.any (fun o => o / 8 == x))) r.1
  let b := bitsOf entry 16 16
  let most := match s.confOf p with
    | some c => c.maxInsns
    | none => s.get Reg.ENG_CFG_MAX_INSNS
  ((s1.zeroRegion e t).putTask e t (some {
    pkt := id, prog := actProgram p.action, pc := bitsOf entry 0 12, budget := if b = 0 then most else b
    cntRead := bitsOf entry 13 1 == 1, data := data, poison := marks, home := e / 16, start := s.latNow (e / 16), fetchAt := s.latNow (e / 16) + 8 })).refreshBusy (e / 16)

/-- A task that an exception ends at its dispatch: no instruction runs and no thread is kept (R534). -/
def State.raiseAtDispatch (s : State) (e t id : Nat) (p : Pkt) (cause : Nat) : State :=
  let s1 := (s.excReport e t p (actProgram p.action) cause 0).perfLat (e / 16) 9 1
  (if cause = 6 then s1.set Reg.MEM_EVENTS_POISON_BITE 1 else s1).dropTaskPkt id

/-- TASK_DISPATCH: the task at the head of the queue is started (R518, R519). -/
def execTaskDispatch (s : State) : Out :=
  match s.eng.taskQ with
  | [] => .next s
  | id :: rest =>
    let now := if s.eng.dispCycle = s.cycle + 1 then s.eng.dispatched else 0
    if 4 ≤ now then .next s
    else match s.pkt id with
      | none => done s { s with eng := { s.eng with taskQ := rest } }
      | some p =>
        match s.pickThread p.gen with
        | none => .next s
        | some (e, t) =>
          let lat := e / 16
          let s0 := { s with eng := { s.eng with taskQ := rest, rr := (lat + 1) % 32, dispCycle := s.cycle + 1, dispatched := now + 1 } }
          let d := s0.readDesc id
          if d.1 then
            let s1 := (d.2.leak id).bite 10 none
            done s (if p.ordered then s1.leave p.turnout p.num else s1)
          else
            let s1 := (((d.2.bump Cnt.DISPATCHED).bump Cnt.LAT_TASKS lat).bump Cnt.TN_TASKS p.turnout).perfDev 3 1
            let prog := actProgram p.action
            let m := s1.memRead 6 lat prog 3
            let entry := imgEntry (s.latImage lat) prog
            if m.1 then done s (m.2.raiseAtDispatch e t id p 6)
            else if bitsOf entry 12 1 = 0 then done s (m.2.raiseAtDispatch e t id p 13)
            else done s (m.2.startTask e t id p entry)

/-! ### Switching images (R540) -/

/-- A packet whose parse started under an earlier image waits or runs as a task, or may still become one. -/
def State.oldLeft (s : State) : Bool :=
  let old (id : Nat) : Bool := match s.pkt id with
    | some p => decide (p.gen < s.eng.gen)
    | none => false
  s.eng.taskQ.any old || s.allTasks.any (fun x => old x.2.pkt) || s.pk.parsing.any old || s.pk.domains.any (fun d => d.2.stage.any old)

/-- The words of a loaded image are written: instruction memories of the lateral's engines and its program table. -/
def State.loadLateral (s : State) (lat : Nat) : State :=
  let n := imgLen (tget [] s.eng.images s.eng.gen)
  let inCode (k : Nat) : Bool := (List.range 16).any (fun i => decide (wordKey 2 (16 * lat + i) 0 ≤ k ∧ k < wordKey 2 (16 * lat + i) n))
  let inTable (k : Nat) : Bool := decide (wordKey 6 lat 0 ≤ k ∧ k < wordKey 6 lat 4096)
  let s1 := { s with mem := { s.mem with words := s.mem.words.filter (fun x => !inCode x.1 && !inTable x.1) } }
  ((List.range 16).foldl (fun s i => s.memWrite 2 (16 * lat + i) 0) s1).memWrite 6 lat 0

/-- The cycle that each lateral is in. -/
def State.latNows (s : State) : Tab Nat := (List.range 32).foldl (fun c k => tput 0 c k (s.latNow k)) []

/-- LATERAL_CONVERT: the lowest ACTION lateral that has not converted has let its tasks end and has loaded the new code in 1,024 cycles; the
last one only when no old task remains (R540). -/
def execLateralConvert (s : State) : Out :=
  match s.unconverted with
  | [] => .next s
  | lat :: rest =>
    if !(s.latTasks lat).isEmpty || (rest.isEmpty && s.oldLeft) || s.latNow lat < max (tget 0 s.eng.latLast lat) (tget 0 s.eng.convFrom lat) + 1024 then .next s
    else
      let s1 := s.loadLateral lat
      done s (State.refreshEng { s1 with eng := { s1.eng with latGen := tput 0 s1.eng.latGen lat s.eng.gen, convFrom := s.latNows } })

/-- A lateral that returns to dispatch converts when it does not run the image in force; until then it holds the image before (R540). -/
def State.latReturn (s : State) (lat : Nat) : State :=
  if s.latGenOf lat = s.eng.gen then s
  else { s with eng := { s.eng with latGen := tput 0 s.eng.latGen lat (s.eng.gen - 1), convFrom := s.latNows } }

/-! ### Laterals out of dispatch (R51, R517, R541, R542) -/

/-- A running task is discarded: its packet and emits go, its gate is released (R520, R541). -/
def State.discardTask (s : State) (e t : Nat) (k : Task) : State :=
  let ready := k.readyAt (imgWord (s.latImage (e / 16)) k.pc)
  ((s.stampDiscard e t ready).endTask e t).dropTaskPkt k.pkt

/-- Discard what a lateral still runs at the timeout of its quench: how many tasks. -/
def State.lateralDiscard (s : State) (lat : Nat) : State × Nat :=
  let ts := s.latTasks lat
  (ts.foldl (fun s x => s.discardTask (x.1 / 8) (x.1 % 8) x.2) s, ts.length)

/-- FIRMWARE laterals that a mode needs (R517). -/
def fwNeed (mode : Nat) : Nat := if mode = 1 then 2 else if mode = 3 then 0 else 1

/-- Powered resources take the counts of a mode and profile: laterals, banks, samplers; powered laterals return to dispatch (R63, R73, R81 step 3). -/
def State.applyPowered (s : State) (mode prof : Nat) : State :=
  let n := poweredLats mode prof
  let s1 := (List.range 32).foldl (fun s k =>
    let on := decide (k < n)
    let s1 := if !on && (s.sampler k).tag.isSome then s.setSampler k { s.sampler k with tag := none } else s
    let s2 := s1.set Reg.LAT_STATUS_POWERED (b2n on) k
    if on && s2.flag Reg.LAT_CTRL_EN k && !s2.flag Reg.LAT_STATUS_HELD k && s2.qState 2 k = 2 then (s2.enableObj 2 k).latReturn k else s2) s
  ((s1.set Reg.HG_PARCELS_TOTAL_TOTAL (32768 * poweredBanks mode prof)).refreshHg.refreshEng).refreshSampling

/-- A packet that holds a parcel in a bank about to be gated is discarded (R81 step 3). -/
def State.discardStored (s : State) (id : Nat) (p : Pkt) : State :=
  match p.pool with
  | .none_ => s
  | .data q =>
    let s1 := (if (s.queue q).contains id then s.setQueue q ((s.queue q).erase id) else s)
    let s2 := { s1 with pk := { s1.pk with egress := tput [] s1.pk.egress (q / 8) ((tget [] s1.pk.egress (q / 8)).erase id) } }
    ((s2.setQParcels q (s2.qParcels q - p.parcels.length)).tailDrop q).dropPkt id
  | .control c =>
    let q := 2048 + c
    let s1 := { s with pk := { s.pk with received := s.pk.received.filter (fun r => r.2.1 != id) } }
    let s2 := s1.setQueue q ((s1.queue q).erase id)
    ((s2.setQParcels q (s2.qParcels q - p.parcels.length)).tailDrop q).dropPkt id
  | .backwater => ({ s with pk := { s.pk with bwPool := s.pk.bwPool.erase id } }.bump Cnt.BW_POOL_DROPS).dropPkt id
  | .shared =>
    let s1 := s.bump Cnt.SHARED_DROPS
    let running := s1.allTasks.find? (fun x => x.2.pkt == id)
    match running with
    | some x => s1.discardTask (x.1 / 8) (x.1 % 8) x.2
    | none =>
      let d := s1.domain p.turnout
      let s2 := { s1 with eng := { s1.eng with taskQ := s1.eng.taskQ.erase id, ended := s1.eng.ended.filter (fun x => x.1 != id) } }
      (s2.setDomain p.turnout { d with held := d.held.erase id }).dropTaskPkt id

/-- Every bank from `nb` on is emptied. -/
def State.discardBanks (s : State) (nb : Nat) : State := (s.inBanks nb).foldl (fun s x => s.discardStored x.1 x.2) s

/-! ### Staged settings (R544–R548) -/

def applyEng (c : Staged) (s : State) : State :=
  let p := c.payload
  if c.op = 0x0632 then setWord s 0x580000 0x1FFF (u32 p 0)
  else if c.op = 0x0633 then
    (if u8 p 0 = 0xFF then List.range 32 else [u8 p 0]).foldl (fun s k => (s.set Reg.LAT_CTRL_EN (u8 p 1) k).set Reg.LAT_CTRL_ROLE (u8 p 2) k) s
  else if c.op = 0x0634 then s.set Reg.TN_ENG_ORDERED (u8 p 1) (u8 p 0)
  else s

/-- An accepted commit with ENG_IMAGE_SELECT holds the image that passed. -/
def State.engAccept (cs : List Staged) (s : State) : State :=
  if cs.any (fun c => c.op == 0x0631) then { s with eng := { s.eng with chosen := s.eng.staging } } else s

/-- A lateral at a commit boundary: EN and ROLE (R517, R541, R542). -/
def State.latBoundary (old s : State) (k : Nat) : State :=
  let was := old.flag Reg.LAT_CTRL_EN k
  let now := s.flag Reg.LAT_CTRL_EN k
  if was && !now then (if s.flag Reg.LAT_STATUS_HELD k then s.set Reg.LAT_STATUS_HELD 0 k else s.startQuench 2 k)
  else if !was && now then (s.enableObj 2 k).latReturn k
  else if now && old.get Reg.LAT_CTRL_ROLE k ≠ s.get Reg.LAT_CTRL_ROLE k && s.qState 2 k = 0 then
    let s1 := s.startQuench 2 k
    { s1 with eng := { s1.eng with roleNew := s1.eng.roleNew ++ [k] } }
  else s

/-- The new image comes into force (R540): laterals that run an image before the last take the last one as the old image. -/
def State.selectImage (s : State) (img : List Byte) : State :=
  let g := s.eng.gen
  let lg := s.unconverted.foldl (fun t k => tput 0 t k g) s.eng.latGen
  ({ s with eng := { s.eng with gen := g + 1, images := tput [] s.eng.images (g + 1) img, latGen := lg, convFrom := s.latNows, chosen := none } }).set
    Reg.ENG_STATUS_SWITCHING 1

/-- The part of a commit boundary in the array. -/
def State.engBoundary (old s : State) : State :=
  let s1 := (List.range 32).foldl (fun s k => old.latBoundary s k) s
  let s2 := match s1.eng.chosen with
    | some img => s1.selectImage img
    | none => s1
  s2.refreshEng

/-- An action program is named by an action in force. -/
def State.programNamed (s : State) : Bool :=
  s.pk.terns.any (fun x => x.2.en && actVerb x.2.action == 2) ||
    s.pk.flows.any (fun x => match x.2 with | some e => actVerb e.action == 2 | none => false) ||
    (List.range 256).any (fun t => actVerb (s.defaultAction t) == 2 || s.flag Reg.TN_PKT_LEN_POLICY t)

/-- Laterals powered with EN = 1 and a role under the configuration. -/
def State.configuredLats (n : State) (role : Nat) : Nat :=
  ((List.range (poweredLats (n.get Reg.MODE_CTRL_MODE) n.newProfile)).filter (fun k => n.flag Reg.LAT_CTRL_EN k && n.get Reg.LAT_CTRL_ROLE k == role)).length

/-- The rules of this chapter that fail validation (R517, R542, R544). -/
def engChecks : List Check := [
  { rule := 517, bad := fun _ _ n => decide (n.configuredLats 1 < fwNeed (n.get Reg.MODE_CTRL_MODE)), reads := opIn [0x0633, 0x0120] },
  { rule := 517
    bad := fun _ _ n => n.get Reg.MODE_CTRL_MODE != 3 && n.configuredLats 0 == 0 && n.programNamed
    reads := opIn [0x0633, 0x0120, 0x0610, 0x0613] },
  { rule := 542
    bad := fun cs o _ => cs.any (fun c => c.op == 0x0631 && (!o.eng.passed || u32 c.payload 0 != o.get Reg.ENG_STAGED_STAGED_ID))
    reads := opIn [0x0631] }]

/-! ### Commands (R539, R547–R549) -/

/-- An opcode that R525 lists. -/
def opDefined (op : Nat) : Bool := op ≤ 0x0A || (0x10 ≤ op && op ≤ 0x17) || 0x20 ≤ op

/-- An image passes (R539). -/
def imagePass (img : List Byte) : Bool :=
  let n := imgLen img
  le 4 img 0 == 0x49455054 && imgId img != 0 && decide (1 ≤ n) && decide (n ≤ 4096) && img.length == 16400 + 4 * n &&
    le 4 img 12 == crc32 (img.drop 16) &&
    (List.range 4096).all (fun p =>
      let x := imgEntry img p
      let b := bitsOf x 16 16
      bitsOf x 12 1 == 0 || (decide (bitsOf x 0 12 < n) && (b == 0 || (decide (64 ≤ b) && decide (b ≤ 8191))))) &&
    (List.range n).all (fun k => opDefined (insOp (imgWord img k)))

/-- Bytes written at an offset; a gap holds zeros. -/
def putAt (l : List Byte) (off : Nat) (d : List Byte) : List Byte :=
  (l ++ List.replicate (off - l.length) 0).take off ++ d ++ l.drop (off + d.length)

/-- ENG_IMAGE_LOAD. -/
def execEngImageLoad (mb : Fin 8) (s : State) : Out :=
  actOn mb.val 0x0630 s (fun p s =>
    let off := u32 p 0
    let first := u8 p 6 % 2 = 1
    let last := u8 p 6 / 2 = 1
    if s.flag Reg.ENG_STATUS_SWITCHING then (s, err cBUSY)
    else if 32784 < off + u16 p 4 ∨ (¬ first ∧ (s.eng.staging.isNone ∨ s.eng.passed)) then (s, err cINVALID)
    else
      let img := putAt (if first then [] else s.eng.staging.getD []) off (p.drop 8)
      let s1 := ({ s with eng := { s.eng with staging := some img, passed := false } }).set Reg.ENG_STAGED_STAGED_ID 0
      if !last then (s1, okD (bytes 4 0))
      else if imagePass img then
        (({ s1 with eng := { s1.eng with passed := true } }).set Reg.ENG_STAGED_STAGED_ID (imgId img), okD (bytes 4 (imgId img)))
      else ({ s1 with eng := { s1.eng with staging := none } }, err cINVALID))

/-- ENG_IMAGE_SELECT. -/
def execEngImageSelect (mb : Fin 8) (s : State) : Out := stage mb.val 0x0631 (fun _ => [(.engImage, 0)]) s

/-- ENG_CFG_SET. -/
def execEngCfgSet (mb : Fin 8) (s : State) : Out := stage mb.val 0x0632 (fun _ => [(.engImage, 0)]) s

/-- ENG_LATERAL_SET. -/
def execEngLateralSet (mb : Fin 8) (s : State) : Out :=
  stage mb.val 0x0633 (fun p => (if u8 p 0 = 0xFF then List.range 32 else [u8 p 0]).map (fun k => (.lateral, k))) s

/-- ENG_TURNOUT_SET. -/
def execEngTurnoutSet (mb : Fin 8) (s : State) : Out := stage mb.val 0x0634 (fun p => [(.turnout, u8 p 0)]) s

/-- ENG_LAT_HOLD: the lateral leaves dispatch by a quench; the answer waits for QUIESCED (R541, R542). -/
def execEngLatHold (mb : Fin 8) (s : State) : Out :=
  actLong mb.val 0x0635 s (fun p s =>
    let k := u8 p 0
    if s.blocksOff then (s, some (err cDENIED))
    else if u8 p 1 = 0 then
      if !s.flag Reg.LAT_STATUS_HELD k then (s, some ok)
      else
        let s1 := s.set Reg.LAT_STATUS_HELD 0 k
        ((if s1.flag Reg.LAT_CTRL_EN k then (s1.enableObj 2 k).latReturn k else s1).refreshEng, some ok)
    else if (List.range 32).any (fun j => j ≠ k && s.flag Reg.LAT_STATUS_HELD j) then (s, some (err cBUSY))
    else if s.flag Reg.LAT_STATUS_HELD k then (s, some ok)
    else if ((s.latsIn 0).filter (fun j => j ≠ k)).isEmpty || decide (((s.latsIn 1).filter (fun j => j ≠ k)).length < fwNeed s.mode) then
      (s, some (err cDENIED))
    else if s.qState 2 k = 1 then (s, some (err cBUSY))
    else if s.qState 2 k = 2 then (s.set Reg.LAT_STATUS_HELD 1 k, some ok)
    else
      let s1 := (s.set Reg.LAT_STATUS_HELD 1 k).startQuench 2 k
      (({ s1 with eng := { s1.eng with holdMb := some (mb.val, k) } }).refreshEng, none))

/-- ENG_LAT_HOLD_DONE: the held lateral is QUIESCED and the command is answered. -/
def execEngLatHoldDone (s : State) : Out :=
  match s.eng.holdMb with
  | none => .next s
  | some (mb, k) =>
    if s.qState 2 k ≠ 2 then .next s
    else done s (({ s with eng := { s.eng with holdMb := none } }).finish mb ok)

/-- A range beyond the last state word. -/
def stateRange : Reply := { code := cINVALID, index := 1 }

/-- ENG_STATE_READ: poisoned words read 0 and are marked in the map. The read is a host read of a memory word, consumer 5 (log entry 60). -/
def execEngStateRead (mb : Fin 8) (s : State) : Out :=
  actOn mb.val 0x0636 s (fun p s =>
    let w := u32 p 0
    let n := u16 p 4
    if 524288 < w + n then (s, stateRange)
    else
      let r := (List.range n).foldl (fun (r : State × List Byte × Nat) i =>
        let m := r.1.memRead 5 0 (w + i) 5
        (m.2, r.2.1 ++ bytes 8 (if m.1 then 0 else (tget 0 m.2.eng.words (w + i)).toNat), r.2.2 + (if m.1 then 2 ^ i else 0))) (s, [], 0)
      (r.1, okD (r.2.1 ++ bytes 16 r.2.2)))

/-- ENG_STATE_WRITE. -/
def execEngStateWrite (mb : Fin 8) (s : State) : Out :=
  actOn mb.val 0x0637 s (fun p s =>
    let w := u32 p 0
    let n := u16 p 4
    if 524288 < w + n then (s, stateRange)
    else ((List.range n).foldl (fun s i =>
      ({ s with eng := { s.eng with words := tput 0 s.eng.words (w + i) (BitVec.ofNat 64 (u64 p (8 + 8 * i))) } }).memWrite 5 0 (w + i)) s, ok))

/-- ENG_STATUS_GET. -/
def execEngStatusGet (mb : Fin 8) (s : State) : Out :=
  report mb.val 0x0638 s (fun p s =>
    let b := 0x500000 + 0x1000 * u8 p 0
    okD (wordBytes ([s.reg (b + 0x10), s.reg (b + 0x20), s.reg (b + 0x24), s.reg (b + 0x28)] ++ (List.range 13).map (fun i => s.reg (b + 0x40 + 4 * i)))))

/-- ENG_PROG_GET. -/
def execEngProgGet (mb : Fin 8) (s : State) : Out :=
  report mb.val 0x0639 s (fun p s => okD (bytes 4 (imgEntry (tget [] s.eng.images s.eng.gen) (u16 p 0))))

/-- The payload rows of R547. -/
def payloadsEng : List PayloadRow := [
  ⟨0x0630, .plus 8 4 1, [.bits 0 0 2 0 0, .num 0 4 0 32783, .bits 4 0 2 0 0, .num 4 2 4 1000, .num 6 1 0 3, .zero 7 1]⟩,
  ⟨0x0631, .fix 4, []⟩,
  ⟨0x0632, .fix 4, [.bits 0 0 13 64 8191]⟩,
  ⟨0x0633, .fix 4, [.among 0 1 (0xFF :: List.range 32), .num 1 1 0 1, .num 2 1 0 1, .zero 3 1]⟩,
  ⟨0x0634, .fix 4, [.num 1 1 0 1, .zero 2 2]⟩,
  ⟨0x0635, .fix 4, [.num 0 1 0 31, .num 1 1 0 1, .zero 2 2]⟩,
  ⟨0x0636, .fix 8, [.num 4 2 1 120, .zero 6 2]⟩,
  ⟨0x0637, .plus 8 4 8, [.num 4 2 1 125, .zero 6 2]⟩,
  ⟨0x0638, .fix 4, [.num 0 1 0 31, .zero 1 3]⟩,
  ⟨0x0639, .fix 4, [.num 0 2 0 4095, .zero 2 2]⟩]

end Sys2Proof.Machine
end

