-- ==== Sys2Proof/Machine/Dac.lean ====
section
/-! DEFINITION. From furrow filters to DAC words: the root-raised-cosine shape, furrow power and spectral mask, the scale, pre-distortion curves, the
corrections of each DAC, saturation (R265–R268, R272–R274). Decibels, angles and roots are computed in fixed point (log entry 67). -/

namespace Sys2Proof.Machine

/-! ### Fixed point -/

/-- 10^(1/2000), a step of 0.01 dB of amplitude, in 2⁻⁶⁴. -/
def dbStep : Nat := 18467993902706445244

/-- The power `n` of that step, in 2⁻⁶⁴, by squaring, for n below 2^bits. -/
def dbPow (n : Nat) : Nat → Nat
  | 0 => 2 ^ 64
  | k + 1 =>
    let h := dbPow (n / 2) k
    let sq := h * h / 2 ^ 64
    if n % 2 = 1 then sq * dbStep / 2 ^ 64 else sq

/-- The amplitude factor of `n` × 0.01 dB, in 2⁻³². -/
def dbGain (n : Int) : Nat := if n < 0 then 2 ^ 96 / dbPow n.natAbs 14 else dbPow n.natAbs 14 / 2 ^ 32

/-- sin x or cos x from the terms of its series, for x in 2⁻⁴⁰ rad: `k` is the exponent of the next term. -/
def trigSum (x : Int) : Nat → Nat → Int → Int
  | 0, _, _ => 0
  | n + 1, k, term => term + trigSum x n (k + 2) (-(term * x / 2 ^ 40 * x / 2 ^ 40) / ((k + 1) * (k + 2)))

/-- sin x and cos x, in 2⁻⁴⁰, for x in 2⁻⁴⁰ rad. -/
def sinFx (x : Int) : Int := trigSum x 12 1 x
def cosFx (x : Int) : Int := trigSum x 12 0 (2 ^ 40)

/-- The angle of `n` × 0.1°, in 2⁻⁴⁰ rad. -/
def tenthDeg (n : Int) : Int := n * 1919009806

/-- The whole square root of a number below 2^(2·bits). -/
def sqrtGo (v : Nat) : Nat → Nat → Nat
  | 0, r => r
  | k + 1, r => if (r + 2 ^ k) * (r + 2 ^ k) ≤ v then sqrtGo v k (r + 2 ^ k) else sqrtGo v k r

/-- The quotient rounded to the nearest, a half up. -/
def nearest (a : Int) (b : Nat) : Int := (2 * a + b) / (2 * b)

/-! ### Furrow filters, power, mask (R265, R266) -/

/-- The power that the root-raised-cosine filter passes at offset `o` × Rf × (1 + β) / 128 from a furrow's centre, in 2⁻⁴⁰, for β in 0.01: 1 up to
(1 − β)/2 × Rf, then half of 1 + cos(π/β × (|ν|/Rf − (1 − β)/2)) (R265). -/
def rrcPower (beta : Nat) (o : Int) : Int :=
  let v := o.natAbs * (100 + beta)
  if v ≤ 64 * (100 - beta) then 2 ^ 40
  else if 64 * (100 + beta) ≤ v then 0
  else (2 ^ 40 + cosFx (Int.ofNat (3454217652357 * (v - 64 * (100 - beta)) / (128 * beta)))) / 2

/-- Bin `b` of the spectral mask, 0.1 dB (R291). -/
def State.maskBin (s : State) (b : Nat) : Int := (BitVec.ofNat 8 (bitsOf (s.get Reg.TX_MASK_BINS (b / 4)) (8 * (b % 4)) 8)).toInt

/-- The mask at place `p` of the occupied band, in 1/8192 of a bin from the lower edge, in 0.01 dB rounded down: linear between bin centres, level beyond the
outer ones (R266). -/
def State.maskAt (s : State) (p : Nat) : Int :=
  if p ≤ 4096 then 10 * s.maskBin 0
  else if 63 * 8192 + 4096 ≤ p then 10 * s.maskBin 63
  else
    let q := p - 4096
    let a := s.maskBin (q / 8192)
    10 * a + 10 * (s.maskBin (q / 8192 + 1) - a) * Int.ofNat (q % 8192) / 8192

/-- The gain of the filter stage for furrow `f` at the point `i` of 64 over its band, in 0.01 dB: its POWER and the mask; none in leaf mode (R266). -/
def State.furrowGain (s : State) (f i : Nat) : Int :=
  if s.mode = 2 then 0
  else 10 * s.getInt Reg.TXF_CTRL_POWER f + s.maskAt (64 * 8192 * (128 * f + 2 * i + 1) / (128 * s.nFur))

/-- The mean power that furrow `f` adds to the line for data symbols of energy 1, in 2⁻³²: its gain over its spectrum (R265–R267). -/
def State.furrowPower (s : State) (f : Nat) : Nat :=
  let w := (List.range 64).map (fun i => (rrcPower (s.get Reg.TXS_CTRL_ROLLOFF) (2 * Int.ofNat i - 63)).toNat)
  let p := (List.range 64).map (fun i =>
    let g := dbGain (s.furrowGain f i)
    w.getD i 0 * (g * g / 2 ^ 32))
  p.sum / max 1 w.sum

/-- The furrows that are enabled (R254). -/
def State.sentFurrows (s : State) : List Nat := (List.range s.nFur).filter (fun f => s.flag Reg.TXF_CTRL_EN f)

/-- The scale in 2⁻¹⁶ LSB for an amplitude of 1, so that the RMS of each DAC stream is RMS_TARGET when all enabled furrows carry data: each dimension has half
of a polarisation's power. Every entropy has mean energy 1, so the scale is the same at each (R255, R267). -/
def State.streamScale (s : State) : Nat :=
  let p := (s.sentFurrows.map s.furrowPower).sum
  if p = 0 then 0 else sqrtGo (s.get Reg.TXS_LEVEL_RMS_TARGET ^ 2 * 2 ^ 65 / p) 32 0

/-! ### Pre-distortion (R268) -/

/-- A pre-distortion curve y_1 … y_32, in 1/4096 of full scale, at `x` in 2⁻²⁰ of full scale: odd, linear between the points, the slope of the last segment
beyond full scale. -/
def dpdAt (ys : List Nat) (x : Int) : Int :=
  let a := x.natAbs
  let i := min 31 (a / 32768)
  let y0 : Int := if i = 0 then 0 else Int.ofNat (ys.getD (i - 1) 0)
  let y1 : Int := Int.ofNat (ys.getD i 0)
  let v := y0 * 256 + (y1 - y0) * (Int.ofNat a - Int.ofNat i * 32768) / 128
  if x < 0 then -v else v

/-! ### Corrections (R273) -/

/-- The taps of a DAC at offsets −3 to +3, in 2⁻¹⁰. -/
def State.dacTaps (s : State) (d : Nat) : List Int :=
  [s.getInt Reg.DAC_TAPA_M3 d, s.getInt Reg.DAC_TAPA_M2 d, s.getInt Reg.DAC_TAPB_M1 d, s.getInt Reg.DAC_TAPB_T0 d, s.getInt Reg.DAC_TAPC_P1 d,
    s.getInt Reg.DAC_TAPC_P2 d, s.getInt Reg.DAC_TAPD_P3 d]

/-- Seven taps over samples: the tap at offset k multiplies the sample k places on. -/
def fir7 (taps : List Int) (xs : List Int) : List Int :=
  let a := xs.toArray
  (List.range xs.length).map (fun n =>
    (taps.zipIdx.map (fun t => if n + t.2 < 3 then 0 else t.1 * a.getD (n + t.2 - 3) 0)).sum / 1024)

/-- Step 1: the skew of a DAC, in 0.1 ps; the interpolator is free (R273). -/
def skewed (skew : Int) (xs : List Int) : List Int := if skew = 0 then xs else Config.skewed skew xs

/-- Step 2: Q' = Q × cos φ + I × sin φ (R273). -/
def quadrature (phi : Int) (i q : List Int) : List Int :=
  if phi = 0 then q
  else List.zipWith (fun a b => nearest (b * cosFx (tenthDeg phi) + a * sinFx (tenthDeg phi)) (2 ^ 40)) (i ++ List.replicate q.length 0) q

/-- The samples of DAC `d` through its corrections, in 2⁻²⁰ of full scale: skew, quadrature phase, gain, pre-emphasis, offset (R273). -/
def State.dacCorrected (s : State) (wave : List (List Int)) (d : Nat) : List Int :=
  let own := skewed (s.getInt Reg.DAC_SKEW_SKEW d) (wave.getD d [])
  let rotated := if d % 2 = 1 then
      quadrature (s.getInt Reg.DAC_IMB_QPHASE d) (skewed (s.getInt Reg.DAC_SKEW_SKEW (d - 1)) (wave.getD (d - 1) [])) own
    else own
  let g := dbGain (s.getInt Reg.DAC_IMB_GAIN d)
  (fir7 (s.dacTaps d) (rotated.map (fun x => nearest (x * Int.ofNat g) (2 ^ 32)))).map (fun x => x + 1024 * s.getInt Reg.DAC_IMB_OFFSET d)

/-! ### Words (R274) -/

/-- A sample as a word before saturation: 1 LSB is 2⁻⁷ of full scale. -/
def dacWord (x : Int) : Int := nearest x 8192

/-- A word beyond the range saturates (R274). -/
def saturate8 (w : Int) : Int := max (-128) (min 127 w)

/-- The samples of a DAC in a dsp-cycle (R126). -/
def State.dacPerCycle (s : State) : Nat := if s.mode = 2 then 64 else 256

/-- The dsp-cycles of a frame in which a word of some DAC saturated. -/
def State.clipsIn (s : State) (words : List (List Int)) : List Nat :=
  let beyond := words.map (fun l => (l.zipIdx.filter (fun w => w.1 < -128 || 127 < w.1)).map (fun w => w.2 / s.dacPerCycle))
  beyond.flatten.eraseDups

/-- The streams of the furrow filters, in 2⁻²⁰ of the amplitude of a symbol of energy 1, scaled, pre-distorted in leaf mode, and corrected: the words of the
four DACs before saturation. -/
def State.dacWords (s : State) (wave : List (List Int)) : List (List Int) :=
  let scaled := (List.range 4).map (fun d => (wave.getD d []).map (fun x => nearest (x * Int.ofNat s.tx.scale) (2 ^ 23)))
  let bent := if s.mode = 2 then (List.range 4).map (fun d => (scaled.getD d []).map (dpdAt (s.dpdCurve d))) else scaled
  (List.range 4).map (fun d => (s.dacCorrected bent d).map dacWord)

/-- The words of the frame that ends, its clips, and the scale of the next one. Squelched, the inputs of the DACs are 0. CLIP sets for cycles after the host
has cleared it (R267, R274, R281). -/
def State.txFrame (m : FrameMeas) (s : State) : State :=
  let quiet := s.flag Reg.TXS_STATUS_SQUELCHED
  let words := if quiet then m.wave.map (fun l => l.map (fun _ => (0 : Int))) else s.dacWords m.wave
  let cycles := s.clipsIn words
  let n := ((m.wave.map List.length).foldl max 0 + s.dacPerCycle - 1) / s.dacPerCycle
  let later := cycles.any (fun c => decide (s.tx.clipCleared ≤ s.clock - usT 5 + usT 5 * c / max 1 n))
  let s1 := { s with tx := { s.tx with words := words.map (fun l => l.map saturate8), scale := s.streamScale } }
  let s2 := if cycles.isEmpty then s1 else s1.bump Cnt.TX_CLIP_CYCLES 0 0 cycles.length
  if later then s2.set Reg.TXS_EVENTS_CLIP 1 else s2

end Sys2Proof.Machine
end

