-- ==== Sys2Proof/Machine/Code8b10b.lean ====
section
/-! DEFINITION. The 8b/10b code of the timing lanes: characters, running disparity and ordered sets (R598, R600, R601). The code tables are those of
IEEE 802.3 Clause 36 (log entry 68). A code is ten bits, the bit sent first at the top; a disparity is true where it is positive. -/

namespace Sys2Proof.Machine

/-- The six-bit codes of D.0 to D.31 in negative disparity. -/
def sixBits : List Nat := [
  0b100111, 0b011101, 0b101101, 0b110001, 0b110101, 0b101001, 0b011001, 0b111000, 0b111001, 0b100101, 0b010101, 0b110100, 0b001101, 0b101100, 0b011100,
  0b010111, 0b011011, 0b100011, 0b010011, 0b110010, 0b001011, 0b101010, 0b011010, 0b111010, 0b110011, 0b100110, 0b010110, 0b110110, 0b001110, 0b101110,
  0b011110, 0b101011]

/-- The four-bit codes of D.x.0 to D.x.7 in negative disparity. -/
def fourBits : List Nat := [0b1011, 0b1001, 0b0101, 0b1100, 0b1101, 0b1010, 0b0110, 0b1110]

/-- The ones among the lowest `n` bits. -/
def onesIn (n v : Nat) : Nat := ((List.range n).filter v.testBit).length

/-- A sub-block of `n` bits in the running disparity, with the disparity after it: unbalanced ones, and the balanced one of the row's own (`flips`),
are inverted in positive disparity. -/
def subBlock (n : Nat) (flips rd : Bool) (v : Nat) : Nat × Bool :=
  let uneven := onesIn n v != n / 2
  (if rd && (uneven || flips) then 2 ^ n - 1 - v else v, rd != uneven)

/-- A data character. -/
def dataCode (rd : Bool) (b : Nat) : Nat × Bool :=
  let x := b % 32
  let y := b / 32 % 8
  let a := subBlock 6 (x == 7) rd (sixBits.getD x 0)
  let alt := y == 7 && (if a.2 then [11, 13, 14].contains x else [17, 18, 20].contains x)
  let c := subBlock 4 (y == 3) a.2 (if alt then 0b0111 else fourBits.getD y 0)
  (a.1 * 16 + c.1, c.2)

/-- The special characters in use: K28.1, K28.5, K27.7, K29.7. -/
inductive Special where
  | k28_1
  | k28_5
  | k27_7
  | k29_7
  deriving DecidableEq, Repr

/-- Their codes in negative disparity. -/
def Special.code : Special → Nat
  | .k28_1 => 0b0011111001
  | .k28_5 => 0b0011111010
  | .k27_7 => 0b1101101000
  | .k29_7 => 0b1011101000

/-- A character of the code. -/
inductive Char10 where
  | data (b : Nat)
  | special (k : Special)
  deriving DecidableEq, Repr

/-- A character in the running disparity, with the disparity after it (R598). -/
def Char10.encode (rd : Bool) : Char10 → Nat × Bool
  | .data b => dataCode rd b
  | .special k => subBlock 10 true rd k.code

/-- All characters. -/
def allChars : List Char10 := (List.range 256).map Char10.data ++ [.special .k28_1, .special .k28_5, .special .k27_7, .special .k29_7]

/-- The character that a code is in the running disparity. -/
def decode10 (rd : Bool) (code : Nat) : Option Char10 := allChars.find? (fun c => (c.encode rd).1 == code)

/-- The disparity that a received sub-block of `n` bits leaves; `up` and `down` are its balanced codes that set it. -/
def rdAfterSub (n up down : Nat) (rd : Bool) (v : Nat) : Bool :=
  if n / 2 < onesIn n v || v = up then true else if onesIn n v < n / 2 || v = down then false else rd

/-- The disparity that a received code leaves. -/
def rdAfter (rd : Bool) (code : Nat) : Bool := rdAfterSub 4 0b0011 0b1100 (rdAfterSub 6 0b000111 0b111000 rd (code / 16)) (code % 16)

/-- A comma: K28.1 or K28.5. -/
def Char10.isComma : Char10 → Bool
  | .special .k28_1 => true
  | .special .k28_5 => true
  | _ => false

/-- The ordered sets /I/ and /M/ (R598). -/
def idleSet : List Char10 := [.special .k28_5, .data 0x50]
def markSet : List Char10 := [.special .k28_1, .data 0xB5]

/-- A message between /S/ and /T/ (R598, R600). -/
def messageSet (m : List Nat) : List Char10 := .special .k27_7 :: (m.map Char10.data ++ [.special .k29_7])

/-- Characters one after another. -/
def encodeAll : Bool → List Char10 → List Nat × Bool
  | rd, [] => ([], rd)
  | rd, c :: t =>
    let e := c.encode rd
    let r := encodeAll e.2 t
    (e.1 :: r.1, r.2)

end Sys2Proof.Machine
end

