-- ==== Sys2Proof/Machine/MemInt.lean ====
section
/-! DEFINITION. Memory integrity: scrubbing, bit flips, BAR2 reads and the commands of the chapter (R487, R550–R569). -/

namespace Sys2Proof.Machine

/-! ### Scrubbing (R561–R563) -/

/-- An instance of a memory is powered and clocked. -/
def State.instPowered (s : State) (mem inst : Nat) : Bool :=
  !s.blocksOff && (match mem with
    | 1 => decide (inst < s.banks)
    | 2 => s.flag Reg.LAT_STATUS_POWERED (inst / 16)
    | 3 => s.flag Reg.LAT_STATUS_POWERED (inst / 16)
    | 4 => s.flag Reg.LAT_STATUS_POWERED (inst / 16)
    | 6 => s.flag Reg.LAT_STATUS_POWERED inst
    | _ => true)

/-- What a scrub found at a word. -/
inductive Scrubbed where
  | clean
  | fixed
  | poisoned
  | already
  | skipped
  | ue
  deriving DecidableEq, Repr

/-- The scrub's reader has no consumer code; the record carries 0 (log entry 61). -/
def State.scrubUe (s : State) (mem inst word : Nat) : State := s.uncorrectable mem inst word 0

/-- A rule whose parity fails is disabled (R561). -/
def State.scrubRule (s : State) (word : Nat) : State × Scrubbed :=
  if s.wordBits 8 0 word % 2 = 1 then
    let s1 := s.scrubUe 8 0 word
    ({ s1 with pk := { s1.pk with terns := tput {} s1.pk.terns word { tget {} s1.pk.terns word with failed := true } } }, .ue)
  else (s, .clean)

/-- One copy of a word of memory 9 or 12 with one bad bit is rewritten. -/
def State.scrubCopy (s : State) (mem copy word : Nat) : State × Bool :=
  if s.wordBits mem copy word = 1 then (((s.corrected mem 0 word).memWrite mem copy word).bump Cnt.SCRUB_FIXES mem, true) else (s, false)

/-- A word of a memory with one copy: an uncorrectable one is marked where the memory has poison flags, one bad bit is put right. -/
def State.scrubFlagged (s : State) (mem inst word : Nat) : State × Scrubbed :=
  if s.wordBits mem inst word ≥ 2 then
    if memFlagged mem then (((s.scrubUe mem inst word).memWrite mem inst word true).bump Cnt.SCRUB_POISONED mem, .poisoned)
    else (s.scrubUe mem inst word, .ue)
  else
    let flag := s.wordFlag mem inst word
    let s1 := if flag then s.bump Cnt.POISON_READS mem else s
    if s.wordBits mem inst word = 1 then
      (((s1.corrected mem inst word).memWrite mem inst word flag).bump Cnt.SCRUB_FIXES mem, if flag then .already else .fixed)
    else (s1, if flag then .already else .clean)

/-- Scrub one word; `met` says that another write of the word falls between the read and the write-back (R562). -/
def State.scrubWord (s : State) (mem inst word : Nat) (met : Bool) : State × Scrubbed :=
  if mem = 8 then s.scrubRule word
  else if met then (s, .skipped)
  else if mem = 1 then (s.bankAccess inst 0).scrubFlagged mem inst word
  else if mem = 9 ∨ mem = 12 then
    if s.wordBits mem 0 word ≥ 2 ∧ s.wordBits mem 1 word ≥ 2 then (s.scrubUe mem 0 word, .ue)
    else
      let a := s.scrubCopy mem 0 word
      let b := a.1.scrubCopy mem 1 word
      (b.1, if a.2 || b.2 then .fixed else .clean)
  else s.scrubFlagged mem inst word

/-- The first powered instance from `i` on; the number of instances where there is none. -/
def State.nextInst (s : State) (mem i : Nat) : Nat :=
  ((List.range (memInstances mem - i)).map (fun k => i + k)).find? (fun k => s.instPowered mem k) |>.getD (memInstances mem)

def State.sweep (s : State) (mem : Nat) : Sweep := tget {} s.mem.sweeps mem
def State.setSweep (s : State) (mem : Nat) (w : Sweep) : State := { s with mem := { s.mem with sweeps := tput {} s.mem.sweeps mem w } }

/-- A sweep has visited every powered instance. -/
def State.sweepDone (s : State) (mem : Nat) : Bool := s.nextInst mem (s.sweep mem).inst = memInstances mem

/-- The sweep that runs, or a new one where the last has ended and its period is over, with the period then committed (R561, R569). -/
def State.currentSweep (s : State) (mem : Nat) : State :=
  let w := s.sweep mem
  if w.period ≠ 0 && (!s.sweepDone mem || s.clock < w.start + msT w.period) then s
  else
    let p := s.get Reg.MEM_CFG_SCRUB_PERIOD_MS mem
    (s.setSweep mem (if p = 0 then {} else { start := s.clock, period := p })).set Reg.MEM_MSTATUS_SWEEP_RUN (b2n (p ≠ 0)) mem

/-- The background sweep of a memory scrubs its next word. -/
def State.sweepWord (s : State) (mem : Nat) (met : Bool) : State :=
  let s1 := s.currentSweep mem
  let w := s1.sweep mem
  let i := s1.nextInst mem w.inst
  if w.period = 0 || i = memInstances mem then s1
  else
    let k := if i = w.inst then w.word else 0
    let r := s1.scrubWord mem i k met
    let last := k + 1 = memWords mem i
    r.1.setSweep mem { w with inst := if last then i + 1 else i, word := if last then 0 else k + 1 }

def State.pass (s : State) (mem : Nat) : Option ScrubPass := tget none s.mem.passes mem
def State.setPass (s : State) (mem : Nat) (p : Option ScrubPass) : State := { s with mem := { s.mem with passes := tput none s.mem.passes mem p } }

/-- The requested pass of a memory scrubs its next word; the words of an unpowered instance are skipped. -/
def State.passWord (s : State) (mem : Nat) (met : Bool) : State :=
  match s.pass mem with
  | none => s
  | some p => match p.left with
    | [] => s
    | (i, k, n) :: rest =>
      if n = 0 then s.setPass mem (some { p with left := rest })
      else if !s.instPowered mem i then s.setPass mem (some { p with left := rest, skipped := p.skipped + n })
      else
        let r := s.scrubWord mem i k met
        let q := { p with left := if n = 1 then rest else (i, k + 1, n - 1) :: rest, read := p.read + 1 }
        r.1.setPass mem (some (match r.2 with
          | .clean => q
          | .fixed => { q with fixed := q.fixed + 1 }
          | .poisoned => { q with poisoned := q.poisoned + 1, firstUe := if q.firstUe = 0xFFFFFFFF then k else q.firstUe }
          | .already => { q with already := q.already + 1 }
          | .skipped => { q with skipped := q.skipped + 1 }
          | .ue => { q with firstUe := if q.firstUe = 0xFFFFFFFF then k else q.firstUe }))

/-- SCRUB_WORD: a requested pass, or the background sweep, reads its next word and rewrites it or stores its poison flag (R561–R563). -/
def execScrubWord (mem : Fin 14) (requested met : Bool) (s : State) : Out :=
  if mem.val = 0 || mem.val = 13 then .next s
  else done s (if requested then s.passWord mem.val met else s.sweepWord mem.val met)

/-- SCRUB_LATE: a period ends before its sweep is complete; the sweep continues (R561). -/
def execScrubLate (mem : Fin 14) (s : State) : Out :=
  let w := s.sweep mem.val
  if w.period = 0 || w.late || s.sweepDone mem.val || s.clock < w.start + msT w.period then .next s
  else done s (((s.setSweep mem.val { w with late := true }).bump Cnt.SCRUB_LATE mem.val).set Reg.MEM_EVENTS_SCRUB_LATE 1)

/-- The pass of a memory ends: MEM_SCRUB is answered with the summary (R563, R568). -/
def State.endPass (s : State) (mem status : Nat) : State :=
  match s.pass mem with
  | none => s
  | some p =>
    let s1 := ((s.setPass mem none).set Reg.MEM_MSTATUS_SCRUB_RUN 0 mem).set Reg.MEM_EVENTS_SCRUB_DONE 1
    s1.finish p.mb (okD ([p.read, p.fixed, p.poisoned, p.already, p.skipped, p.firstUe, (s.clock - p.start + 12999) / 13000].flatMap (bytes 4) ++
      [BitVec.ofNat 8 status, 0, 0, 0]))

/-- A change of mode ends every requested pass at its step 1 (R562). -/
def State.endPasses (s : State) : State := (List.range 13).foldl (fun s m => s.endPass m 1) s

/-- SCRUB_PASS_END: a requested pass has visited its range. -/
def execScrubPassEnd (mem : Fin 14) (s : State) : Out :=
  match s.pass mem.val with
  | none => .next s
  | some p => if p.left.isEmpty then done s (s.endPass mem.val 0) else .next s

/-! ### BAR2 (R487, R556) -/

/-- One 32-byte word of the Reservoir as BAR2 reads it, and whether it came marked. -/
def State.bar2Word (s : State) (w : Nat) : State × List Byte × Bool :=
  let p := w / 4
  if 1310720 ≤ p || s.blocksOff || s.banks ≤ p / 32768 then (s, List.replicate 32 0, false)
  else
    let m := ((s.perfDev 11 1).bankAccess (p / 32768) 0).memRead 1 (p / 32768) (4 * (p % 32768) + w % 4) 4
    (m.2, if m.1 then List.replicate 32 0 else ((s.parcelBytes p).drop (32 * (w % 4))).take 32, m.1)

/-- BAR2_READ: a host read of the Reservoir window of at most 4,096 bytes (one PCIe read request). -/
def execBar2Read (addr size : Nat) (s : State) : Out :=
  let n := min size 4096
  let lo := addr / 32
  let words := if n = 0 then 0 else (addr + n - 1) / 32 - lo + 1
  let r := (List.range words).foldl (fun (r : State × List Byte × Bool) i =>
    let x := r.1.bar2Word (lo + i)
    (x.1, r.2.1 ++ x.2.1, r.2.2 || x.2.2)) (s, [], false)
  let s1 := { r.1 with pk := { r.1.pk with bar2 := (r.2.1.drop (addr % 32)).take n, bar2Ep := r.2.2 } }
  done s (if r.2.2 then (s1.bump Cnt.POISON_PCIE).bite 4 none true else s1)

/-! ### Commands (R564, R565, R568, R569) -/

def applyMem (c : Staged) (s : State) : State :=
  if c.op = 0x0902 then setWord s (0x281000 + 0x40 * u8 c.payload 0) 0x1FFFF (u32 c.payload 4) else s

/-- The ranges of a requested pass: none where an instance has fewer words. -/
def scrubRanges (mem inst first count : Nat) : Option (List (Nat × Nat × Nat)) :=
  let insts := if inst = 0xFFFF then List.range (memInstances mem) else [inst]
  if insts.all (fun i => decide (i < memInstances mem ∧ first < memWords mem i ∧ first + count ≤ memWords mem i)) then
    some (insts.map (fun i => (i, first, if count = 0 then memWords mem i - first else count)))
  else none

/-- MEM_SCRUB. -/
def execMemScrub (mb : Fin 8) (s : State) : Out :=
  actLong mb.val 0x0901 s (fun p s =>
    let m := u8 p 0
    match scrubRanges m (u16 p 2) (u32 p 4) (u32 p 8) with
    | none => (s, some { code := cINVALID, index := 3 })
    | some l =>
      if (s.pass m).isSome then (s, some (err cBUSY))
      else ((s.setPass m (some { mb := mb.val, left := l, start := s.clock })).set Reg.MEM_MSTATUS_SCRUB_RUN 1 m, none))

/-- MEM_CFG_SET. -/
def execMemCfgSet (mb : Fin 8) (s : State) : Out := stage mb.val 0x0902 (fun p => [(.mem, u8 p 0)]) s

/-- MEM_STATUS_GET. -/
def execMemStatusGet (mb : Fin 8) (s : State) : Out :=
  report mb.val 0x0903 s (fun p s => okD (wordBytes ((List.range 10).map (fun i => s.reg (0x281000 + 0x40 * u8 p 0 + 4 * i)))))

/-- An armed flip is disarmed without effect (R565). -/
def State.disarmFlip (s : State) : State :=
  let s1 := ((s.set Reg.FLIP_STATUS_ARMED 0).set Reg.FLIP_STATUS_MEM 0).set Reg.FLIP_STATUS_INSTANCE 0
  State.refreshFi { s1 with mem := { s1.mem with flipBits := 0 } }

/-- MEM_FLIP_ARM. -/
def execMemFlipArm (mb : Fin 8) (s : State) : Out :=
  act mb.val 0x0904 s (fun p s =>
    let m := u8 p 0
    let inst := u16 p 2
    let a := u8 p 1 % 2
    let b := u8 p 1 / 2
    if s.get Reg.TEST_STATUS_LEVEL = 0 then (s, err cDENIED)
    else if a = 0 ∧ b = 0 then (if s.flag Reg.FLIP_STATUS_ARMED then s.disarmFlip else s, ok)
    else if memInstances m ≤ inst then (s, { code := cINVALID, index := 3 })
    else if a = 1 ∧ memCodeBits m inst ≤ u16 p 4 then (s, { code := cINVALID, index := 5 })
    else if b = 1 ∧ memCodeBits m inst ≤ u16 p 6 then (s, { code := cINVALID, index := 7 })
    else if s.flag Reg.FLIP_STATUS_ARMED then (s, err cBUSY)
    else
      let s1 := ((s.set Reg.FLIP_STATUS_ARMED 1).set Reg.FLIP_STATUS_MEM m).set Reg.FLIP_STATUS_INSTANCE inst
      (State.refreshFi { s1 with mem := { s1.mem with flipBits := if a = 1 ∧ b = 1 ∧ u16 p 4 ≠ u16 p 6 then 2 else 1 } }, ok))

/-- The payload rows of R568. -/
def payloadsMem : List PayloadRow := [
  ⟨0x0901, .fix 12, [.among 0 1 [1, 2, 3, 4, 5, 6, 7, 9, 10, 11, 12], .zero 1 1]⟩,
  ⟨0x0902, .fix 8, [.num 0 1 1 12, .zero 1 3]⟩,
  ⟨0x0903, .fix 4, [.num 0 1 1 13, .zero 1 3]⟩,
  ⟨0x0904, .fix 12, [.num 0 1 1 13, .num 1 1 0 3, .zero 8 4]⟩]

end Sys2Proof.Machine
end

