-- ==== Sys2Proof/Machine/Lanes.lean ====
section
/-! DEFINITION. Host, media and timing lanes (R570–R607, R803). -/

namespace Sys2Proof.Machine

def State.rxState (s : State) (l : Nat) : Nat := s.get Reg.LN_STATUS_RX_STATE l
def State.pstate (s : State) (l : Nat) : Nat := s.get Reg.LN_STATUS_PSTATE l
def State.laneFormat (s : State) (l : Nat) : Nat := s.get Reg.LN_CFG_FORMAT l
def State.laneRate (s : State) (l : Nat) : Nat := s.get Reg.LN_CFG_RATE l

/-- An NRZ rate (R570). -/
def nrz (rate : Nat) : Bool := rate == 6 || rate == 7 || rate == 8

/-- The receiver works: FORMAT and RATE not 0, in L0 or on its way there. -/
def State.laneLive (s : State) (l : Nat) : Bool :=
  s.laneFormat l != 0 && s.laneRate l != 0 &&
    (s.pstate l == 0 || (match (s.lane l).move with | some m => m.target == 0 | none => false))

/-! ### Ethernet ports (R580, R581, R585) -/

/-- A port leaves ALIGNED (R581). -/
def State.alignLost (s : State) (l : Nat) : State :=
  ((s.set Reg.PORT_STATUS_ALIGNED 0 l).set Reg.LN_EVENTS_ALIGN_LOST 1 l).bump Cnt.ALIGN_LOSSES l

/-- Every lane of the port is LOCKED. -/
def State.portLocked (s : State) (p : Nat × List Nat) : Bool := p.2.all (fun l => decide (l < 16) && s.rxState l == 3)

/-- The port that starts at a lane. -/
def State.portAt (s : State) (l : Nat) : Option (Nat × List Nat) := s.ethPorts.find? (fun p => p.1 == l)

/-- ALIGNED ports with a lane that is not LOCKED leave ALIGNED; what is no port any more shows nothing (log entry 73). -/
def State.checkPorts (s : State) : State :=
  (List.range 16).foldl (fun s l =>
    if !s.flag Reg.PORT_STATUS_ALIGNED l then s
    else match s.portAt l with
      | some p => if s.portLocked p then s else s.alignLost l
      | none => s.setReg (0x300040 + 0x1000 * l) 0) s

/-- A lane that is not LOCKED has no marker lock. -/
def State.dropMarkers (s : State) (l : Nat) : State :=
  s.ethPorts.foldl (fun s p =>
    if p.2.contains l && p.1 < 16 then s.set Reg.PORT_STATUS_AM_LOCK (putBits (s.get Reg.PORT_STATUS_AM_LOCK p.1) (l - p.1) 1 0) p.1 else s) s

/-! ### The receiver (R574–R578, R803) -/

/-- What a lane shows only while LOCKED: figure of merit, eyes, lock of its queue, block lock (R37, R576, R588; log entry 74). -/
def State.unlockedFigures (s : State) (l : Nat) : State :=
  let s1 := (((s.set Reg.LN_FOM_SNR 0xFFFF l).set Reg.LN_EYE_EYE_LO 0x3FF l).set Reg.LN_EYE_EYE_MID 0x3FF l).set Reg.LN_EYE_EYE_HI 0x3FF l
  ((s1.setXqLock l false).set Reg.LN_STATUS_BLOCK_LOCK 0 l).setLane l { s1.lane l with offset := 0, good := 0, bad := 0, window := 0 }

/-- A measurement of this media lane has seen it leave LOCKED (R621). -/
def State.measureLost (s : State) (l : Nat) : State :=
  match s.ln.measure with
  | some m => if m.lane = l then { s with ln := { s.ln with measure := some { m with lost := true } } } else s
  | none => s

/-- A LOCKED receiver goes to another state; a departure to ADAPTING or NO_SIGNAL that no commit causes is a loss (R803). -/
def State.leaveLocked (s : State) (l new : Nat) (loss : Bool) : State :=
  let s1 := ((s.unlockedFigures l).measureLost l).dropMarkers l
  let s2 := if loss then (s1.bump Cnt.LN_LOCK_LOSSES l).set Reg.LN_EVENTS_LOCK_LOST 1 l else s1
  (s2.set Reg.LN_STATUS_RX_STATE new l).checkPorts

/-- The receiver goes to a state from whichever it is in. -/
def State.toRx (s : State) (l new : Nat) (loss : Bool) : State :=
  let s1 := if s.rxState l = 3 && new ≠ 3 then s.leaveLocked l new loss else s.set Reg.LN_STATUS_RX_STATE new l
  if new = 2 then s1.setLane l { s1.lane l with adaptAt := s.clock } else s1

/-- LANE_SIGNAL_DETECT: the amplitude has stayed above 80 mV for 10 µs (R577). -/
def execLaneSignalDetect (lane : Fin 24) (s : State) : Out :=
  let l := lane.val
  if s.laneLive l && s.rxState l = 1 then done s ((s.set Reg.LN_STATUS_SIG_DET 1 l).toRx l 2 false) else .next s

/-- LANE_SIGNAL_LOSS: the amplitude has stayed below 60 mV for 10 µs (R577, R803). A lane in loopback 1 or 3 ignores the received signal (R597). -/
def execLaneSignalLoss (lane : Fin 24) (s : State) : Out :=
  let l := lane.val
  if s.laneLive l && !s.looped l && (s.rxState l = 2 || s.rxState l = 3) then done s ((s.set Reg.LN_STATUS_SIG_DET 0 l).toRx l 1 true) else .next s

/-- LANE_ADAPT_LOCK: an adapting receiver reaches its SNR (0.01 dB) with these eye heights in mV (R576, R577, R37). The taps it has found are a free value
(R574). -/
def execLaneAdaptLock (lane : Fin 24) (snr : Fin 65536) (low mid high : Fin 1024) (s : State) : Out :=
  let l := lane.val
  let pam := !nrz (s.laneRate l)
  if !s.laneLive l || s.rxState l ≠ 2 || snr.val < (if pam then 1400 else 1000) then .next s
  else
    let s1 := ((s.set Reg.LN_STATUS_RX_STATE 3 l).set Reg.LN_EVENTS_LOCK_GAINED 1 l).set Reg.LN_FOM_SNR snr.val l
    let s2 := s1.set Reg.LN_EYE_EYE_MID mid.val l
    let s3 := if pam then (s2.set Reg.LN_EYE_EYE_LO low.val l).set Reg.LN_EYE_EYE_HI high.val l else s2
    let f := (s3.setXqLock l true).free 574
    done s (f.2.setLane l { f.2.lane l with goodAt := s.clock, ctleAt := s.clock, taps := some f.1 })

/-- LANE_ADAPT_FAIL: 23 ms of ADAPTING have not reached it; it starts again from reset taps (R577). -/
def execLaneAdaptFail (lane : Fin 24) (s : State) : Out :=
  let l := lane.val
  if !s.laneLive l || s.rxState l ≠ 2 || s.clock < (s.lane l).adaptAt + msT 23 then .next s
  else done s ((s.bump Cnt.ADAPT_FAILS l).setLane l { s.lane l with adaptAt := s.clock, taps := none })

/-- LANE_LOCK_LOSS: SNR or clock recovery has failed on a LOCKED lane for 10 µs (R577, R803). -/
def execLaneLockLoss (lane : Fin 24) (s : State) : Out :=
  let l := lane.val
  if s.laneLive l && s.rxState l = 3 then done s (s.toRx l 2 true) else .next s

/-- CTLE_STEP: loop 3 finds its best setting: in ADAPTING it takes it within the bounds; in LOCKED one 0.1 dB step toward it, once per 100 µs (R578,
R86–R90). -/
def execCtleStep (lane : Fin 24) (best : Fin 256) (s : State) : Out :=
  let l := lane.val
  let x := s.lane l
  let target := Int.ofNat best.val
  let goal := (clampTo (s.bounds 3 l) target).toNat
  let v := s.get Reg.LN_FOM_CTLE l
  if !s.laneLive l then .next s
  else if s.rxState l = 2 then done s ((s.clampCheck 3 l target).set Reg.LN_FOM_CTLE goal l)
  else if s.rxState l = 3 && x.ctleAt + usT 100 ≤ s.clock then
    let w := if v < goal then v + 1 else if goal < v then v - 1 else v
    done s (((s.clampCheck 3 l target).set Reg.LN_FOM_CTLE w l).setLane l { x with ctleAt := s.clock })
  else .next s

/-! ### Ports, codewords and blocks (R581–R588) -/

/-- PORT_ALIGN: every FEC lane has marker lock and the skew is at most 25.0 ns (R581). -/
def execPortAlign (lane : Fin 16) (skew : Fin 256) (s : State) : Out :=
  let l := lane.val
  match s.portAt l with
  | none => .next s
  | some p =>
    if s.flag Reg.PORT_STATUS_ALIGNED l || !s.portLocked p || 250 < skew.val then .next s
    else done s (((s.set Reg.PORT_STATUS_ALIGNED 1 l).set Reg.PORT_STATUS_AM_LOCK (2 ^ p.2.length - 1) l).set Reg.PORT_STATUS_SKEW skew.val l)

/-- PORT_ALIGN_LOSS: a FEC lane has lost marker lock (`markers` says which lanes keep it) or the skew exceeds 25.0 ns (R581). -/
def execPortAlignLoss (lane : Fin 16) (markers : BitVec 8) (skew : Fin 256) (s : State) : Out :=
  let l := lane.val
  match s.portAt l with
  | none => .next s
  | some p =>
    let m := markers.toNat % 2 ^ p.2.length
    if !s.flag Reg.PORT_STATUS_ALIGNED l || (m + 1 = 2 ^ p.2.length && skew.val ≤ 250) then .next s
    else done s (((s.set Reg.PORT_STATUS_AM_LOCK m l).set Reg.PORT_STATUS_SKEW skew.val l).alignLost l)

/-- A codeword's outcome is counted (R582): `none` uncorrectable. -/
def State.countCodeword (s : State) (l : Nat) (fixed : Option Nat) : State :=
  let s1 := s.bump Cnt.RS_CW l
  let x := s.lane l
  match fixed with
  | none => (s1.bump Cnt.RS_UNCORR l).setLane l { x with cws := x.cws + 1 }
  | some 0 => s1.setLane l { x with cws := x.cws + 1 }
  | some n => ((s1.bump Cnt.RS_CW_CORR l).bump Cnt.RS_SYMB_CORR l 0 n).setLane l { x with cws := x.cws + 1, symbs := x.symbs + n }

/-- RS_CODEWORD_RX: a codeword of the port that starts at the lane, with the symbols it has in error, none where they cannot be corrected. An injector
on the lane makes it all zeros, which is a codeword, or inverts one bit of it (R582, R740, R806). A window that is full ends first (R583). While the lane of an Ethernet client is not running its 80 blocks
are discarded and counted (R55). -/
def execRsCodewordRx (lane : Fin 16) (fixed : Option (Fin 16)) (s : State) : Out :=
  let l := lane.val
  let ready := if s.orphanLane l then s.rxState l == 3 else s.flag Reg.PORT_STATUS_ALIGNED l && (s.portAt l).isSome
  if !ready || 8192 ≤ (s.lane l).cws then .next s
  else
    let r := s.fiUnit 3 l 5440
    let n := fixed.map Fin.val
    let m := match r.2 with
      | .drop => some 0
      | .corrupt _ => (match n with
        | some k => if k < 15 then some (k + 1) else none
        | none => none)
      | _ => n
    let s1 := r.1.countCodeword l m
    done s (if s.running 4 l || !(List.range 256).any (fun t => s.get Reg.TN_CLIENT_KIND t == 1 && (s.clientLanesOf t).contains l) then s1
      else s1.quenchDiscards 4 l 80)

/-- HI_SER_WINDOW: 8,192 codewords have passed (R583). -/
def execHiSerWindow (lane : Fin 16) (s : State) : Out :=
  let l := lane.val
  let x := s.lane l
  if x.cws < 8192 then .next s
  else
    let s1 := s.setLane l { x with cws := 0, symbs := 0 }
    if x.symbs ≤ s.get Reg.PORT_CFG_SER_THR l then done s (s1.set Reg.PORT_STATUS_HI_SER 0 l)
    else if s.flag Reg.PORT_STATUS_HI_SER l then done s s1
    else done s (((s1.set Reg.PORT_STATUS_HI_SER 1 l).bump Cnt.HI_SER_EVENTS l).set Reg.LN_EVENTS_HI_SER 1 l)

/-- A payload through the self-synchronising descrambler 1 + x³⁹ + x⁵⁸, first bit at the top, and the register after it (R587). -/
def descramble58 (r : Nat) (w : BitVec 64) : BitVec 64 × Nat :=
  let x := (msbBits 64 w.toNat).foldl (fun (x : List Bool × Nat) b =>
    ((b != (x.2.testBit 38 != x.2.testBit 57)) :: x.1, (2 * x.2 + b.toNat) % 2 ^ 58)) ([], r)
  (BitVec.ofNat 64 (bitsNat x.1.reverse), x.2)

/-- The blocks of an object in a lane's queues (R52). -/
def State.laneHeld (s : State) (l : Nat) : Nat := ((s.laneData l).rows.map (fun r => 1 + r.data.length)).sum

/-- A block of a lane that has block lock goes on to the TSI; one for a lane that is not running is discarded and counted (R55, R588). -/
def State.rlDeliver (s : State) (l : Nat) (b : BitVec 66) : State :=
  if !s.flag Reg.LN_STATUS_BLOCK_LOCK l then s.setLaneData l { s.laneData l with rows := [] }
  else if !s.running 4 l then s.quenchDiscards 4 l 1
  else s.setLaneData l ((s.laneData l).cross b)

/-- One block of a rill-link lane in the procedure of R588, by its sync header. -/
def State.rlSync (s : State) (l header : Nat) : State :=
  let x := s.lane l
  let lock := s.flag Reg.LN_STATUS_BLOCK_LOCK l
  let valid := header = 1 || header = 2
  let s1 := if valid then s else s.bump Cnt.SH_ERRS l
  if !lock && !valid then s1.setLane l { x with offset := (x.offset + 1) % 66, good := 0 }
  else if !lock && x.good + 1 < 64 then s1.setLane l { x with good := x.good + 1 }
  else
    let was := if lock then x else { x with good := 64, bad := 0, window := 0 }
    let s2 := if lock then s1 else s1.set Reg.LN_STATUS_BLOCK_LOCK 1 l
    let w := was.window + 1
    let b := was.bad + b2n (!valid)
    if 16 ≤ b && w < 1024 then
      ((s2.set Reg.LN_STATUS_BLOCK_LOCK 0 l).set Reg.LN_EVENTS_BLOCK_LOCK_LOST 1 l).setLane l
        { was with offset := (was.offset + 1) % 66, good := 0, bad := b, window := w }
    else if w = 1024 then s2.setLane l { was with window := 0, bad := 0 }
    else s2.setLane l { was with window := w, bad := b }

/-- A block of a rill-link lane. -/
def State.rlBlock (s : State) (l header : Nat) (payload : BitVec 64) : State :=
  (s.rlSync l header).rlDeliver l (BitVec.ofNat 66 (header * 2 ^ 64 + payload.toNat))

/-- A held REORDER unit is sent (R740, R741). -/
def State.fiSend (s : State) (x : Injector) (h : FiHeld) : State :=
  match h.pkt with
  | some k => if x.point = 0 then s.egressOut x.target k else s.startParse k
  | none => if h.bits.isEmpty then s else s.rlBlock x.target (u8 h.bits 0) (BitVec.ofNat 64 (u64 h.bits 1))

/-- An injector stops and what it holds is sent. -/
def State.fiStop (s : State) (i : Nat) : State :=
  match s.injector i with
  | none => s
  | some x =>
    let s1 := s.fiEnd i
    match x.held with
    | some h => s1.fiSend x h
    | none => s1

/-- Every injector stops. -/
def State.fiStopAll (s : State) : State := (List.range 8).foldl State.fiStop s

/-- The injectors whose turnout or lane is quenched stop (R741). -/
def State.fiQuenched (s : State) : State :=
  (List.range 8).foldl (fun s i =>
    match s.injector i with
    | some x => if s.qState (if x.point < 2 then 1 else 4) x.target = 0 then s else s.fiStop i
    | none => s) s

/-- The block that a rill-link lane receives: in loopback 1 or 3 the next one that it sent itself, none where it has sent none (R597). -/
def State.heardBlock (s : State) (l : Nat) (b : BitVec 66) : Option (BitVec 66) × State :=
  if s.looped l then ((s.laneData l).loop.head?, s.setLaneData l { s.laneData l with loop := (s.laneData l).loop.drop 1 }) else (some b, s)

/-- A 66-bit block arrives on rill-link lane `l` and is descrambled; an injector may replace it by zeros, invert a bit or hold it (R587, R588, R740). -/
def State.rlArrives (s : State) (l : Nat) (b : BitVec 66) : State :=
  let header := b.toNat / 2 ^ 64
  let d := descramble58 (s.laneData l).descr (BitVec.ofNat 64 b.toNat)
  let r := (s.setLaneData l { s.laneData l with descr := d.2 }).fiUnit 3 l 66
  let s1 := match r.2 with
    | .pass => r.1.rlBlock l header d.1
    | .drop => r.1.rlBlock l 0 0
    | .corrupt b => if b < 2 then r.1.rlBlock l (header ^^^ 2 ^ b) d.1 else r.1.rlBlock l header (d.1 ^^^ BitVec.ofNat 64 (2 ^ (b - 2)))
    | .hold => r.1.fiHold 3 l
      { bits := bytes 1 header ++ bytes 8 d.1.toNat, left := ((s.fiAt 3 l).map (fun e => e.2.depth)).getD 0, last := s.clock }
  if r.2 = .hold then s1
  else
    let q := s1.fiPassed 3 l
    match q.2 with
    | none => q.1
    | some h => q.1.rlBlock l (u8 h.bits 0) (BitVec.ofNat 64 (u64 h.bits 1))

/-- RL_BLOCK_RX: a 66-bit block arrives on a rill-link lane (R587, R588, R597). -/
def execRlBlockRx (lane : Fin 16) (header : BitVec 2) (payload : BitVec 64) (s : State) : Out :=
  let l := lane.val
  if s.laneFormat l ≠ 2 || s.rxState l ≠ 3 || !s.laneLive l then .next s
  else
    let h := s.heardBlock l (header ++ payload)
    match h.1 with
    | some b => done s (h.2.rlArrives l b)
    | none => .next s

/-- PAT_LOCK: the checker of a FORMAT 3 lane gains or loses its pattern (R595). -/
def execPatLock (lane : Fin 24) (gained : Bool) (s : State) : Out :=
  let l := lane.val
  let on := s.flag Reg.LN_STATUS_PAT_LOCK l
  if s.laneFormat l ≠ 3 || s.get Reg.LN_TEST_CHK_PAT l = 0 || !s.laneLive l then .next s
  else if gained && !on && s.rxState l = 3 then done s (s.set Reg.LN_STATUS_PAT_LOCK 1 l)
  else if !gained && on then done s ((s.set Reg.LN_STATUS_PAT_LOCK 0 l).set Reg.LN_EVENTS_PAT_LOCK_LOST 1 l)
  else .next s

/-- What lanes and ports measured in a local frame (R576, R585, R595, R614). -/
def State.laneFrame (m : FrameMeas) (s : State) : State :=
  let s1 := m.lanes.foldl (fun (s : State) (x : LaneMeas) =>
    let l := x.lane
    if 24 ≤ l || !s.laneLive l || s.rxState l ≠ 3 then s
    else
      let a := match x.snr with
        | none => s
        | some v =>
          let t := (s.set Reg.LN_FOM_SNR v l).set Reg.LN_EYE_EYE_MID x.eyes.2.1 l
          if nrz (s.laneRate l) then t else (t.set Reg.LN_EYE_EYE_LO x.eyes.1 l).set Reg.LN_EYE_EYE_HI x.eyes.2.2 l
      let b := if s.flag Reg.LN_STATUS_PAT_LOCK l then (a.bump Cnt.PAT_BITS l 0 x.patBits).bump Cnt.PAT_ERRS l 0 x.patErrs else a
      if l < 16 || s.mode ≠ 3 || s.laneFormat l ≠ 4 then b
      else
        let c := if s.flag Reg.MOD_STATUS_INNER_LOCK l then
            ((b.bump Cnt.INNER_CW l 0 x.innerCw).bump Cnt.INNER_BITS_CORR l 0 x.innerBits).bump Cnt.INNER_UNCORR l 0 x.innerUncorr
          else b
        match x.alpha with
        | some v => if s.flag Reg.MOD_CFG_ALPHA_FIX l || s.get Reg.MOD_CFG_SD_MODE l = 0 then c else c.set Reg.MOD_STATUS_ALPHA_NOW (min v 48) l
        | none => c) s
  m.ports.foldl (fun (s : State) (p : PortMeas) =>
    if p.lane < 16 && (s.portAt p.lane).isSome then
      ((s.set Reg.PORT_STATUS_LF_RX (b2n p.lf) p.lane).set Reg.PORT_STATUS_RF_RX (b2n p.rf) p.lane).set Reg.PORT_STATUS_SKEW (min p.skew 255) p.lane
    else s) s1

/-! ### Power states (R590–R593) -/

/-- The lane is OFF: what its receiver shows goes with it (R577). -/
def State.laneOff (s : State) (l : Nat) : State :=
  let s1 := (s.toRx l 0 false).set Reg.LN_STATUS_SIG_DET 0 l
  if l < 16 then s1 else s1.setReg (0x300210 + 0x1000 * l) 0

/-- The receiver of a lane whose FORMAT and RATE are set is in L0 again (R577). -/
def State.laneOn (s : State) (l : Nat) : State := (s.set Reg.LN_STATUS_RX_STATE 1 l).set Reg.LN_STATUS_SIG_DET 0 l

/-- Some but not all lanes of an Ethernet port (R593). -/
def State.splitsPort (s : State) (ls : List Nat) : Bool :=
  s.ethPorts.any (fun p => p.2.any ls.contains && !p.2.all ls.contains)

/-- A lane begins to move to a power state (R591, R592). -/
def State.startMove (s : State) (target l : Nat) : State :=
  let p := s.pstate l
  let s1 := s.setLane l { s.lane l with move := some ⟨p, target, s.clock⟩ }
  if p = 0 then s1.startQuench 4 l
  else if target ≠ 0 then s1
  else if p = 2 || s.rxState l = 0 then s1.laneOn l
  else if (s.lane l).restart then (if s.rxState l = 1 then s1 else s1.toRx l 2 false).setLane l { s1.lane l with restart := false, adaptAt := s.clock, taps := none }
  else s1

/-- LANE_PSTATE (R591–R593, R603; log entry 75). -/
def execLanePstate (mb : Fin 8) (s : State) : Out :=
  actLong mb.val 0x0352 s (fun p s =>
    let ls := maskList (u32 p 0) 24
    let target := u8 p 4
    if s.splitsPort ls then (s, some { code := cINVALID, index := 1 })
    else if ls.any (fun l => s.laneFormat l == 0) then (s, some (err cDENIED))
    else if ls.any (fun l => s.qState 4 l == 1 || (s.lane l).move.isSome) then (s, some (err cBUSY))
    else
      let moving := ls.filter (fun l => s.pstate l != target)
      if moving.isEmpty then (s, some ok)
      else
        let s1 := (moving.foldl (fun s l => s.startMove target l) s).fiQuenched
        ({ s1 with ln := { s1.ln with reqs := s1.ln.reqs ++ [{ mb := mb.val, left := moving }] } }, none))

/-- A lane has ended its move; a LANE_PSTATE whose last lane it was is answered. -/
def State.moveEnds (s : State) (l : Nat) (late : Bool) : State :=
  let s1 := s.setLane l { s.lane l with move := none }
  let reqs := s1.ln.reqs.map (fun r => if r.left.contains l then { r with left := r.left.filter (· != l), late := r.late || late } else r)
  (reqs.filter (fun r => r.left.isEmpty)).foldl (fun s r => s.finish r.mb (if r.late then err cTIMEOUT else ok))
    { s1 with ln := { s1.ln with reqs := reqs.filter (fun r => !r.left.isEmpty) } }

/-- A new power state is in force (R591, R592; log entry 76). -/
def State.enterPstate (s : State) (l target : Nat) : State :=
  let s1 := (s.set Reg.LN_STATUS_PSTATE target l).bump Cnt.PSTATE_CHANGES l
  if target = 0 then s1.setLane l { s1.lane l with goodAt := s.clock } else s1

/-- LANE_PSTATE_DONE: a lane has been QUIESCED for 1 µs, has moved between L1 and L2, or is LOCKED again (R591, R592). -/
def execLanePstateDone (lane : Fin 24) (s : State) : Out :=
  let l := lane.val
  let x := s.lane l
  match x.move with
  | none => .next s
  | some m =>
    if m.target = 0 then
      if s.rxState l ≠ 3 then .next s
      else done s (((((s.enterPstate l 0).set Reg.LN_EVENTS_PSTATE_DONE 1 l).enableObj 4 l)).moveEnds l false)
    else if (m.old = 0 && (s.qState 4 l ≠ 2 || s.clock < x.quietAt + usT 1)) || (m.old ≠ 0 && s.clock < m.t0 + usT 1) then .next s
    else
      let s1 := (s.enterPstate l m.target).set Reg.LN_EVENTS_PSTATE_DONE 1 l
      done s ((if m.target = 2 then (s1.toRx l 0 false).set Reg.LN_STATUS_SIG_DET 0 l else s1).moveEnds l false)

/-- LANE_EXIT_TIMEOUT: a lane is not LOCKED 2 µs after leaving L1, 25 ms after leaving L2 (R592). -/
def execLaneExitTimeout (lane : Fin 24) (s : State) : Out :=
  let l := lane.val
  match (s.lane l).move with
  | none => .next s
  | some m =>
    if m.target ≠ 0 || s.clock < m.t0 + (if m.old = 1 then usT 2 else msT 25) || (m.old = 2 && s.rxState l = 3) then .next s
    else
      let s1 := if s.rxState l = 3 then s.toRx l 2 true else s
      done s (((s1.enterPstate l 0).enableObj 4 l).moveEnds l true)

/-! ### Staged settings -/

/-- What the staged commands of this chapter set. -/
def applyLanes (c : Staged) (s : State) : State :=
  let p := c.payload
  let a := 0x300000 + 0x1000 * u8 p 0
  if c.op = 0x0350 then setWord (setWord (setWord s a 0x07FFFFFF (u32 p 4)) (a + 4) 0xFFFFFFFF (u32 p 8)) (a + 0x44) 0xFFFF (u32 p 12)
  else if c.op = 0x0351 then
    setWord (setWord (setWord s (a + 8) 0x7FF (u32 p 4)) (a + 0xC0) 0xFFFFFFFF (u32 p 8)) (a + 0xC4) 0xFFFFFFFF (u32 p 12)
  else if c.op = 0x0355 then setWord s (0x320000 + 0x1000 * u8 p 0) 0x1F (u32 p 4)
  else s

/-- A commit changes what the receiver of a lane sees (R803). -/
def seesChange (old s : State) (l : Nat) : Bool :=
  let ch (f : Field) : Bool := old.get f l != s.get f l
  ch Reg.LN_CFG_RATE || ch Reg.LN_CFG_FORMAT || ch Reg.LN_CFG_COPPER || ch Reg.LN_CFG_RX_INV || ch Reg.LN_CFG_PRECODE_RX || ch Reg.LN_TEST_LOOPBACK ||
    (s.laneRate l == 8 && ch Reg.LN_CFG_CUSTOM_MBD) ||
    (s.get Reg.LN_TEST_LOOPBACK l == 1 && (ch Reg.LN_CFG_TX_INV || ch Reg.LN_CFG_PRECODE_TX ||
      old.reg (0x300004 + 0x1000 * l) != s.reg (0x300004 + 0x1000 * l)))

/-- The receiver starts again in ADAPTING from reset taps (R803). -/
def State.restartRx (s : State) (l : Nat) : State :=
  let s1 := s.toRx l 2 false
  s1.setLane l { s1.lane l with taps := none }

/-- One lane at a commit boundary (R577, R597, R603, R803). -/
def State.laneCommit (old s : State) (l : Nat) : State :=
  let was := old.laneFormat l
  let now := s.laneFormat l
  let s1 :=
    if was = 0 && now = 0 then s
    else if now = 0 then
      if s.qState 4 l = 2 then s.laneOff l else s.startQuench 4 l
    else if was = 0 then
      if s.pstate l ≠ 0 then s.setLane l { s.lane l with restart := true }
      else if s.qState 4 l = 1 then s.enableObj 4 l
      else (s.enableObj 4 l).laneOn l
    else if !seesChange old s l then s
    else if s.pstate l ≠ 0 then s.setLane l { s.lane l with restart := true }
    else if s.rxState l = 2 || s.rxState l = 3 then s.restartRx l
    else if s.rxState l = 1 && s.looped l then (s.set Reg.LN_STATUS_SIG_DET 1 l).restartRx l
    else s
  let s2 := if now = 3 then s1 else (s1.set Reg.LN_STATUS_INJECTING 0 l).setLane l { s1.lane l with inject := none }
  let s3 := if now = 3 && old.get Reg.LN_TEST_CHK_PAT l = s.get Reg.LN_TEST_CHK_PAT l then s2 else s2.set Reg.LN_STATUS_PAT_LOCK 0 l
  let s4 := if old.get Reg.LN_TEST_GEN_PAT l = s.get Reg.LN_TEST_GEN_PAT l then s3
    else s3.setLaneData l { s3.laneData l with prbs := 0x7FFFFFFF, patAt := 0 }
  let s5 := if s.looped l then s4 else s4.setLaneData l { s4.laneData l with loop := [] }
  if now = 2 then s5 else s5.set Reg.LN_STATUS_BLOCK_LOCK 0 l

def State.tlane (s : State) (t : Nat) : TLane := tget {} s.ln.tls t
def State.setTlane (s : State) (t : Nat) (x : TLane) : State := { s with ln := { s.ln with tls := tput {} s.ln.tls t x } }

/-- The part of a commit boundary in the lanes: the lanes, the phase tracking of their queues, the ports, the timing lanes' receivers. -/
def State.lanesBoundary (old s : State) : State :=
  let s1 := (List.range 24).foldl (fun s l => State.laneCommit old s l) s
  let s2 := (List.range 24).foldl (fun s l =>
    if !s.tracked l then s.setXqLock l false else if s.rxState l = 3 && !old.tracked l then s.setXqLock l true else s) s1
  let s3 := (List.range 2).foldl (fun s t =>
    if old.flag Reg.TL_CFG_RX_EN t && !s.flag Reg.TL_CFG_RX_EN t then
      let x := s.tlane t
      (s.setReg (0x320010 + 0x1000 * t) 0).setTlane t { x with rxRd := none, commas := 0, chars := 0, bad := [], moved := false, markAt := none, prevMark := none, todAt := none }
    else s) s2
  s3.checkPorts

/-- Rills that a lane rate carries at most (R391). -/
def rillLimit (rate : Nat) : Nat :=
  match rate with
  | 3 => 160
  | 4 => 80
  | 5 => 40
  | 6 => 20
  | 7 => 7
  | _ => 0

/-- The rates of a FORMAT (R571) and of a kind of lane (R570). -/
def rateOk (media : Bool) (format rate : Nat) : Bool :=
  (match format with
    | 1 => rate == 1 || rate == 2
    | 2 => decide (3 ≤ rate) && decide (rate ≤ 7)
    | 3 => decide (1 ≤ rate) && decide (rate ≤ 8)
    | _ => rate == 1 || rate == 9) &&
    (if media then rate == 1 || rate == 2 || rate == 9 else decide (rate ≤ 8))

/-- A lane is there in the mode and profile (R63, R73). -/
def State.lanePresent (n : State) (l : Nat) : Bool :=
  if l < 16 then decide (l < hostLanes (n.get Reg.MODE_CTRL_MODE) (n.get Reg.MODE_CTRL_PROFILE)) else n.get Reg.MODE_CTRL_MODE == 3

/-- The lane is named by a client or a host packet port. -/
def State.laneNamed (n : State) (l : Nat) : Bool :=
  (List.range 256).any (fun t => (n.flag Reg.TN_PKT_HOST_PORT t && (n.hostLanesOf t).contains l) || (n.clientLanesOf t).contains l)

/-- The sum of the magnitudes of the transmit taps (R579). -/
def State.tapSum (n : State) (l : Nat) : Nat :=
  (n.getInt Reg.LN_TXEQ_C_M3 l).natAbs + (n.getInt Reg.LN_TXEQ_C_M2 l).natAbs + (n.getInt Reg.LN_TXEQ_C_M1 l).natAbs + n.get Reg.LN_TXEQ_C_0 l +
    (n.getInt Reg.LN_TXEQ_C_P1 l).natAbs

/-- A staged command of one lane. -/
def readsLane (op l : Nat) (c : Staged) : Bool := c.op == op && u8 c.payload 0 == l

/-- The Ethernet port of a turnout breaks R580. -/
def State.portBad (n : State) (t : Nat) : Bool :=
  let go (l eth : Nat) : Bool :=
    let w := portWidth eth (n.laneRate l)
    w == 0 || l % w != 0 || decide (16 < l + w) ||
      (List.range w).any (fun k => n.laneFormat (l + k) != 1 || n.laneRate (l + k) != n.laneRate l)
  (n.flag Reg.TN_PKT_HOST_PORT t && go (n.get Reg.TN_PKT_LANE t) (n.get Reg.TN_PKT_ETH_RATE t)) ||
    (n.get Reg.TN_CLIENT_KIND t == 1 && go (n.get Reg.TN_CLIENT_LANE t) (n.get Reg.TN_CLIENT_ETH_RATE t))

/-- The rules of this chapter that fail validation (R572, R579, R580, R594, R595, R597). -/
def lanesChecks : List Check :=
  (List.range 24).flatMap (fun l =>
    let rc := readsLane 0x0350 l
    let rt := readsLane 0x0351 l
    [ { rule := 572, bad := fun _ _ n => n.laneFormat l != 0 && !rateOk (decide (16 ≤ l)) (n.laneFormat l) (n.laneRate l), reads := rc },
      { rule := 572, bad := fun _ _ n => n.laneFormat l != 0 && !n.lanePresent l, reads := fun c => rc c || opIn [0x0120] c },
      { rule := 572, bad := fun _ _ n => n.laneFormat l == 4 && n.get Reg.MODE_CTRL_MODE != 3, reads := fun c => rc c || opIn [0x0120] c },
      { rule := 572, bad := fun _ _ n => decide (16 ≤ l) && (n.laneFormat l == 1 || n.laneFormat l == 2), reads := rc },
      { rule := 572
        bad := fun _ _ n => decide (l < 16) && ((n.laneFormat l == 2) != n.flag Reg.RL_CFG_EN l ||
          (n.laneFormat l == 2 && decide (rillLimit (n.laneRate l) < n.get Reg.RL_CFG_RILLS l)))
        reads := fun c => rc c || readsLane 0x0343 l c },
      { rule := 572, bad := fun _ _ n => n.laneFormat l == 3 && n.laneNamed l, reads := fun c => rc c || opIn [0x0601, 0x0610] c },
      { rule := 572, bad := fun _ _ n => n.flag Reg.LN_CFG_COPPER l && n.laneRate l != 1 && n.laneRate l != 2, reads := rc },
      { rule := 572
        bad := fun _ _ n => n.laneRate l == 8 && (decide (n.get Reg.LN_CFG_CUSTOM_MBD l < 1000) || decide (28000 < n.get Reg.LN_CFG_CUSTOM_MBD l))
        reads := rc },
      { rule := 579, bad := fun _ _ n => decide (32 < n.tapSum l) || decide (n.get Reg.LN_TXEQ_C_0 l < 16), reads := rc },
      { rule := 594
        bad := fun _ _ n =>
          let q (f : Field) : Bool := n.get f l == 7 || n.get f l == 8
          n.laneFormat l == 3 && nrz (n.laneRate l) && (q Reg.LN_TEST_GEN_PAT || q Reg.LN_TEST_CHK_PAT)
        reads := fun c => rc c || rt c },
      { rule := 595, bad := fun _ _ n => n.get Reg.LN_TEST_CHK_PAT l == 10, reads := rt },
      { rule := 597, bad := fun _ _ n => n.laneFormat l == 4 && n.get Reg.LN_TEST_LOOPBACK l == 3, reads := fun c => rc c || rt c }]) ++
  (List.range 256).map (fun t =>
    { rule := 580, bad := fun _ _ n => n.portBad t
      reads := fun c => (opIn [0x0601, 0x0610] c && u8 c.payload 0 == t) || c.op == 0x0350 })

/-! ### Commands of the lanes -/

/-- LANE_CFG_SET, staged (R606, R607). -/
def execLaneCfgSet (mb : Fin 8) (s : State) : Out := stage mb.val 0x0350 (fun p => [(.lane, u8 p 0)]) s

/-- LANE_TEST_SET, staged (R606, R607). -/
def execLaneTestSet (mb : Fin 8) (s : State) : Out := stage mb.val 0x0351 (fun p => [(.lane, u8 p 0)]) s

/-- LANE_ERR_INJECT (R596, R603). -/
def execLaneErrInject (mb : Fin 8) (s : State) : Out :=
  act mb.val 0x0353 s (fun p s =>
    let l := u8 p 0
    let x := s.lane l
    if s.laneFormat l ≠ 3 then (s, err cDENIED)
    else if u8 p 1 = 1 then (s.setLane l { x with inverted := x.inverted + 1 }, ok)
    else if u8 p 1 = 2 then ((s.set Reg.LN_STATUS_INJECTING 1 l).setLane l { x with inject := some (u8 p 2), injAt := 0 }, ok)
    else ((s.set Reg.LN_STATUS_INJECTING 0 l).setLane l { x with inject := none }, ok))

/-- LANE_STATUS_GET (R606, R607). -/
def execLaneStatusGet (mb : Fin 8) (s : State) : Out :=
  report mb.val 0x0354 s (fun p s =>
    okD (wordBytes ([0x10, 0x80, 0x84, 0x40, 0x20, 0x24, 0x28, 0x2C, 0x30, 0x34, 0x38, 0x3C, 0x48, 0x4C, 0x50, 0x54, 0x58, 0x5C, 0x60, 0x64, 0x68].map
      (fun o => s.readWord (0x300000 + 0x1000 * u8 p 0 + o)))))

/-- TLANE_CFG_SET, staged (R606, R607). -/
def execTlaneCfgSet (mb : Fin 8) (s : State) : Out := stage mb.val 0x0355 (fun p => [(.tlane, u8 p 0)]) s

/-- TLANE_STATUS_GET (R606). -/
def execTlaneStatusGet (mb : Fin 8) (s : State) : Out :=
  report mb.val 0x0356 s (fun p s =>
    okD (wordBytes ([0x10, 0x40, 0x44, 0x48, 0x50, 0x54, 0x58, 0x5C, 0x20, 0x24, 0x28, 0x2C, 0x30, 0x34, 0x38, 0x3C].map
      (fun o => s.reg (0x320000 + 0x1000 * u8 p 0 + o)))))

/-! ### Timing lanes (R598–R602) -/

/-- TL_CHARACTER_RX: a receiving timing lane takes a character. Without a running disparity to
go by, or at another alignment, a character of either disparity is valid (R601, R605). -/
def execTlCharacterRx (tl : Fin 2) (char : LineCode) (s : State) : Out :=
  let t := tl.val
  let code := char.code
  let same := char.same
  let x := s.tlane t
  let v := if s.flag Reg.TL_CFG_RX_INV t then 1023 - code.toNat else code.toNat
  let rd := match (if same then x.rxRd else none) with
    | some r => r
    | none => (decode10 false v).isNone
  let n := x.chars + 1
  let y := { x with rxRd := some (rdAfter rd v), chars := n, bad := x.bad.filter (fun k => n < k + 256) }
  if !s.flag Reg.TL_CFG_RX_EN t then .next s
  else match decode10 rd v with
    | some c =>
      if !c.isComma then done s (s.setTlane t y)
      else if same then done s (s.setTlane t { y with commas := x.commas + 1 })
      else if s.flag Reg.TL_STATUS_SYNC t then done s (s.setTlane t { y with moved := true })
      else done s (s.setTlane t { y with commas := 1 })
    | none =>
      done s ((s.setTlane t { y with bad := y.bad ++ [n], commas := 0 }).bump (if (decode10 (!rd) v).isSome then Cnt.DISP_ERRS else Cnt.CODE_ERRS) t)

/-- TL_SYNC_GAIN: 3 commas at one alignment with no invalid character between them (R601). -/
def execTlSyncGain (tl : Fin 2) (s : State) : Out :=
  let t := tl.val
  let x := s.tlane t
  if !s.flag Reg.TL_CFG_RX_EN t || s.flag Reg.TL_STATUS_SYNC t || x.commas < 3 then .next s
  else
    let s1 := ((s.set Reg.TL_STATUS_SYNC 1 t).set Reg.TL_STATUS_CDR_LOCK 1 t).set Reg.TL_STATUS_SIG_DET 1 t
    done s (s1.setTlane t { x with bad := [], moved := false }).refreshRefs

/-- TL_SYNC_LOSS: 8 invalid characters within 256; `sig` says whether the lane still has a signal (R601, R603). -/
def execTlSyncLoss (tl : Fin 2) (sig : Bool) (s : State) : Out :=
  let t := tl.val
  let x := s.tlane t
  if !s.flag Reg.TL_STATUS_SYNC t || x.bad.length < 8 then .next s
  else
    let s1 := ((s.set Reg.TL_STATUS_SYNC 0 t).set Reg.TL_STATUS_CDR_LOCK (b2n sig) t).set Reg.TL_STATUS_SIG_DET (b2n sig) t
    let s2 := (s1.set Reg.TL_EVENTS_SYNC_LOST 1 t).bump Cnt.SYNC_LOSSES t
    done s (s2.setTlane t { x with commas := 0, bad := [], moved := false }).refreshRefs

/-- TL_REALIGN: in SYNC, a comma at another alignment (R601). -/
def execTlRealign (tl : Fin 2) (s : State) : Out :=
  let t := tl.val
  let x := s.tlane t
  if !s.flag Reg.TL_STATUS_SYNC t || !x.moved then .next s
  else done s (((s.setTlane t { x with moved := false }).bump Cnt.REALIGNS t).set Reg.TL_EVENTS_REALIGN 1 t)

/-- The bytes of the held message (R600, R605). -/
def State.todBytes (s : State) (t : Nat) : List Byte := wordBytes ((List.range 4).map (fun w => s.reg (0x320050 + 0x1000 * t + 4 * w)))

/-- The error of device time at a mark of timing lane t, latched at `ps` picoseconds of device time (R642). -/
def State.markError (s : State) (t ps : Nat) : Int :=
  let m := s.todBytes t
  let e : Int := Int.ofNat ps + sint 16 (be 2 m 6) - 1000 * (Int.ofNat (be 6 m 0 * 1000000000) + Int.ofNat (s.get Reg.TIME_DELAY_DELAY_NS))
  (13 * e + 500) / 1000

/-- TL_MARK_RX: a second mark in SYNC; `err` − 200 ps is the error of the latch (R602, R642). -/
def execTlMarkRx (tl : Fin 2) (err : Fin 401) (s : State) : Out :=
  let t := tl.val
  let x := s.tlane t
  if !s.flag Reg.TL_STATUS_SYNC t then .next s
  else
    let ps := s.devTime * 1000 / 13 + err.val - 200
    let valid := match x.todAt with
      | some a => decide (a + msT 1 ≤ s.clock) && (match x.markAt with | some m => decide (m ≤ a) | none => true)
      | none => false
    let s1 := ((s.set Reg.TL_MARK_TIME_T (ps / 1000) t 0).set Reg.TL_MARK_TIME_T (ps / 1000 / 2 ^ 32) t 1).set Reg.TL_MARK_FRAC_FRAC (ps % 1000 * 65536 / 1000) t
    let s2 := ((s1.bump Cnt.MARKS_RX t).set Reg.TL_EVENTS_MARK 1 t).set Reg.TL_STATUS_MARK_SEEN 1 t
    let s3 := (s2.set Reg.TL_STATUS_TOD_VALID (b2n valid) t).setTlane t { x with prevMark := x.markAt, markAt := some s.clock }
    if valid && s.get Reg.TIME_CFG_TIME_SRC = 1 + t then done s (s3.timeError (s3.markError t ps) (1 + t)) else done s s3

/-- The CRC-16 over the first 14 bytes of a message (R210, R600). -/
def todCrc (m : List Byte) : Nat :=
  crc16 0xFFFF ((m.take 14).flatMap (fun (b : Byte) => (List.range 8).map (fun i => bitsOf b.toNat (7 - i) 1 == 1)))

/-- TOD_MESSAGE_RX: the data characters between /S/ and what ends them; `closed` says that /T/ does (R602, R603). -/
def execTodMessageRx (tl : Fin 2) (data : List Byte) (closed : Bool) (s : State) : Out :=
  let t := tl.val
  if !s.flag Reg.TL_STATUS_SYNC t then .next s
  else if closed && data.length = 16 && todCrc data = be 2 data 14 then
    let s1 := (List.range 4).foldl (fun s w => s.set Reg.TOD_RX_BYTES (u32 data (4 * w)) t w) s
    done s ((((s1.bump Cnt.TOD_RX_OK t).set Reg.TL_EVENTS_TOD_RX 1 t).set Reg.TL_STATUS_TOD_VALID 0 t).setTlane t
      { s.tlane t with todAt := some s.clock })
  else done s ((s.bump Cnt.TOD_ERRS t).set Reg.TL_EVENTS_TOD_ERR 1 t)

/-- TOD_MESSAGE_TX: 500 ms after a mark the message of the next one goes out (R600). -/
def execTodMessageTx (tl : Fin 2) (s : State) : Out :=
  let t := tl.val
  let x := s.tlane t
  if !s.flag Reg.TL_CFG_TX_EN t || !s.flag Reg.TL_CFG_TOD_TX_EN t || x.sentFor = some s.devSec || s.devTime % secT 1 < msT 500 then .next s
  else
    let m := bytesBe 6 (s.devSec + 1) ++ bytesBe 2 (twos 16 (-x.frac)) ++ [BitVec.ofNat 8 s.dpll, BitVec.ofNat 8 s.qlOut, 0, 0] ++ bytesBe 2 x.seq
    let whole := m ++ bytesBe 2 (todCrc m)
    done s (s.setTlane t { x with seq := (x.seq + 1) % 65536, sentFor := some s.devSec, sent := whole, wait := whole })

/-- MARK_SEEN_TIMEOUT: 1.1 s have passed since the last mark (R602). -/
def execMarkSeenTimeout (tl : Fin 2) (s : State) : Out :=
  let t := tl.val
  match (s.tlane t).markAt with
  | none => .next s
  | some m => if s.flag Reg.TL_STATUS_MARK_SEEN t && m + msT 1100 ≤ s.clock then done s (s.set Reg.TL_STATUS_MARK_SEEN 0 t) else .next s

/-- The payload rows of R606. -/
def payloadsLanes : List PayloadRow := [
  ⟨0x0350, .fix 16, [.num 0 1 0 23, .zero 1 3, .bits 4 0 4 0 9, .bits 4 4 3 0 4] ++
    (List.range 16).map (fun k => .given 4 (8 + 16 * k) (8 + 16 * k) (.bits 4 12 15 1000 28000)) ++ [.bits 8 16 6 16 32, .num 12 2 1 65535]⟩,
  ⟨0x0351, .fix 16, [.num 0 1 0 23, .zero 1 3, .bits 4 0 4 0 11, .bits 4 4 4 0 11, .bits 4 8 3 0 3]⟩,
  ⟨0x0352, .fix 8, [.num 0 4 0 0xFFFFFF, .num 4 1 0 2, .zero 5 3]⟩,
  ⟨0x0353, .fix 4, [.num 0 1 0 23, .num 1 1 0 2, .given 1 2 2 (.num 2 1 10 40), .zero 3 1]⟩,
  ⟨0x0354, .fix 4, [.num 0 1 0 23, .zero 1 3]⟩,
  ⟨0x0355, .fix 8, [.num 0 1 0 1, .zero 1 3]⟩,
  ⟨0x0356, .fix 4, [.num 0 1 0 1, .zero 1 3]⟩]

end Sys2Proof.Machine
end

