-- ==== Sys2Proof/Machine/Module.lean ====
section
/-! DEFINITION. Module mode: pairs of lanes, the inner code, levels and pre-distortion of the media lanes (R608–R626). -/

namespace Sys2Proof.Machine

/-- A media lane of the module mode data path. -/
def State.modLane (s : State) (m : Nat) : Bool := s.mode == 3 && s.laneFormat (16 + m) == 4

/-- The host lane of a media lane. -/
def State.modHost (s : State) (m : Nat) : Nat := s.get Reg.MOD_CFG_HOST (16 + m)

/-- The receiver of a lane is LOCKED, in L0 and not quenched (R611, R621). -/
def State.laneHears (s : State) (l : Nat) : Bool := s.rxState l == 3 && s.pstate l == 0 && s.qState 4 l != 2

/-- The source of a transmitter of the pair has failed: of the media transmitter (`host` false) or of the host transmitter (R611, R621). -/
def State.sourceFailed (s : State) (m : Nat) (host : Bool) : Bool :=
  if host then !s.laneHears (16 + m) || (s.laneRate (16 + m) == 9 && !s.flag Reg.MOD_STATUS_INNER_LOCK (16 + m))
  else !s.laneHears (s.modHost m)

/-- Since when the source has not failed. -/
def State.sourceGood (s : State) (m : Nat) (host : Bool) : Nat := (s.lane (if host then 16 + m else s.modHost m)).goodAt

/-- The bit that shows a transmitter in fallback. -/
def fallbackBit (host : Bool) : Field := if host then Reg.MOD_STATUS_TX_FALLBACK_H else Reg.MOD_STATUS_TX_FALLBACK_M

/-- A transmitter falls back (R611). -/
def State.fallBack (s : State) (m : Nat) (host : Bool) : State :=
  ((s.set (fallbackBit host) 1 (16 + m)).bump Cnt.TX_FALLBACKS (16 + m)).set Reg.MOD_EVENTS_FALLBACK 1 (16 + m)

/-- MODULE_FALLBACK: the source of a transmitter of the pair has failed (R611). -/
def execModuleFallback (media : Fin 8) (host : Bool) (s : State) : Out :=
  let m := media.val
  if !s.modLane m || s.flag (fallbackBit host) (16 + m) || !s.sourceFailed m host then .next s else done s (s.fallBack m host)

/-- MODULE_FALLBACK_END: the source has not failed for 10 µs (R611). -/
def execModuleFallbackEnd (media : Fin 8) (host : Bool) (s : State) : Out :=
  let m := media.val
  if !s.flag (fallbackBit host) (16 + m) || s.sourceFailed m host || s.clock < s.sourceGood m host + usT 10 then .next s
  else done s (s.set (fallbackBit host) 0 (16 + m))

/-- INNER_LOCK_LOSS (R614). -/
def execInnerLockLoss (media : Fin 8) (s : State) : Out :=
  let l := 16 + media.val
  if !s.flag Reg.MOD_STATUS_INNER_LOCK l then .next s
  else done s (((s.set Reg.MOD_STATUS_INNER_LOCK 0 l).bump Cnt.INNER_LOCK_LOSSES l).set Reg.MOD_EVENTS_INNER_LOCK_LOST 1 l)

/-- INNER_LOCK_GAIN (R614). -/
def execInnerLockGain (media : Fin 8) (s : State) : Out :=
  let l := 16 + media.val
  if !s.modLane media.val || s.laneRate l ≠ 9 || s.rxState l ≠ 3 || s.flag Reg.MOD_STATUS_INNER_LOCK l then .next s
  else done s ((s.set Reg.MOD_STATUS_INNER_LOCK 1 l).setLane l { s.lane l with goodAt := s.clock })

/-! ### Level measurement (R616, R621) -/

/-- How long a measurement of N × 2²⁰ symbols lasts at the lane's symbol rate. -/
def State.measureTime (s : State) (x : ModMeasure) : Nat :=
  x.n * 1048576 * 13000000 / (if s.laneRate x.lane = 9 then 113437500 else if s.laneRate x.lane = 2 then 53125000 else 106250000)

/-- MOD_LEVEL_MEASURE. -/
def execModLevelMeasure (mb : Fin 8) (s : State) : Out :=
  actLong mb.val 0x0362 s (fun p s =>
    let m := u8 p 0
    if s.ln.measure.isSome then (s, some (err cBUSY))
    else if !s.modLane m || s.rxState (16 + m) ≠ 3 then (s, some (err cDENIED))
    else ({ s with ln := { s.ln with measure := some { mb := mb.val, lane := 16 + m, n := u8 p 1, start := s.clock } } }, none))

/-- MOD_MEASURE_DONE: the measurement ends with the mean magnitudes m_0 and m_1, `means`, and answers ρ, or ends without a result when its lane has left LOCKED. -/
def execModMeasureDone (means : Fin 65536 × Fin 65536) (s : State) : Out :=
  match s.ln.measure with
  | none => .next s
  | some x =>
    let s1 := ({ s with ln := { s.ln with measure := none } }).set Reg.MOD_EVENTS_MEASURE_DONE 1 x.lane
    if x.lost then done s (s1.finish x.mb (err cTIMEOUT))
    else if s.clock < x.start + s.measureTime x then .next s
    else done s (s1.finish x.mb (okD (bytes 2 (levelRho (means.1.val, means.2.val)) ++ [0, 0])))

/-! ### Staged settings -/

/-- y_1 … y_32 of a media lane. -/
def State.modCurve (s : State) (m : Nat) : List Nat :=
  (List.range 16).flatMap (fun w => [s.get Reg.MOD_CURVE_Y1 (16 + m) w, s.get Reg.MOD_CURVE_Y2 (16 + m) w])

/-- What the staged commands of this chapter set. -/
def applyModule (c : Staged) (s : State) : State :=
  let p := c.payload
  if c.op = 0x0360 then setWord s (0x310200 + 0x1000 * u8 p 0) 0x7FFFFF (u32 p 4)
  else if c.op = 0x0361 then (maskList (u8 p 0) 8).foldl (fun s m => s.putCurve (0x310400 + 0x1000 * m) p 4) s
  else if c.op = 0x0363 then
    (maskList (u8 p 0) 8).zipIdx.foldl (fun s e => s.putCurve (0x310400 + 0x1000 * e.1) c.extra (64 * e.2)) s
  else s

/-- The host lane whose stream a media lane carries, none where it carries none (R608). -/
def State.partner (s : State) (m : Nat) : Option Nat := if s.laneFormat (16 + m) = 4 then some (s.modHost m) else none

/-- The part of a commit boundary in module mode: a fixed α, the transmitters whose source changes, the inner lock of lanes that have no inner code
any more, the status of lanes that are on no path any more (R612, R613, R621). -/
def State.moduleBoundary (old s : State) : State :=
  (List.range 8).foldl (fun s m =>
    let l := 16 + m
    let s1 := if s.modLane m && s.flag Reg.MOD_CFG_ALPHA_FIX l && s.get Reg.MOD_CFG_SD_MODE l ≠ 0 then s.set Reg.MOD_STATUS_ALPHA_NOW (s.get Reg.MOD_CFG_ALPHA l) l else s
    let s2 := if !s1.modLane m then s1.setReg (0x300210 + 0x1000 * l) 0
      else if s1.laneRate l = 9 then s1 else s1.set Reg.MOD_STATUS_INNER_LOCK 0 l
    if old.modLane m && s2.modLane m && old.modHost m ≠ s2.modHost m then
      let s3 := if s2.flag Reg.MOD_STATUS_TX_FALLBACK_M l then s2 else s2.fallBack m false
      if s3.flag Reg.MOD_STATUS_TX_FALLBACK_H l then s3 else s3.fallBack m true
    else s2) s

/-- A staged command of media lane `m`. -/
def readsModLane (m : Nat) (c : Staged) : Bool :=
  readsLane 0x0360 m c || readsLane 0x0350 (16 + m) c

/-- The rules of this chapter that fail validation (R608, R269, R625). -/
def moduleChecks : List Check :=
  (List.range 8).flatMap (fun m => [
    { rule := 608
      bad := fun _ _ n => n.get Reg.MODE_CTRL_MODE == 3 && (match n.partner m with
        | some h => n.laneFormat h != 4 || n.laneRate h != 1
        | none => false)
      reads := fun c => readsModLane m c || c.op == 0x0350 || c.op == 0x0120 },
    { rule := 608
      bad := fun _ _ n => n.get Reg.MODE_CTRL_MODE == 3 && (n.partner m).isSome && (List.range m).any (fun k => n.partner k == n.partner m)
      reads := fun c => opIn [0x0350, 0x0360, 0x0120] c },
    { rule := 608
      bad := fun _ _ n => n.get Reg.MODE_CTRL_MODE == 3 && n.laneFormat m != 0 && n.laneFormat m != 3 &&
        !(List.range 8).any (fun k => n.partner k == some m)
      reads := fun c => opIn [0x0350, 0x0360, 0x0120] c },
    { rule := 608
      bad := fun _ _ n => n.get Reg.MODE_CTRL_MODE == 3 && (n.partner m).isSome && n.laneRate (16 + m) != 1 && n.laneRate (16 + m) != 9
      reads := fun c => readsModLane m c || c.op == 0x0120 },
    { rule := 269, bad := fun _ _ n => !curveOk 0 (n.modCurve m)
      reads := fun c => opIn [0x0361, 0x0363] c && bitsOf (u8 c.payload 0) m 1 == 1 }]) ++
  [{ rule := 625, bad := fun cs _ n => cs.any (fun c => c.op == 0x0363) && n.get Reg.MODE_CTRL_MODE != 3, reads := opIn [0x0363, 0x0120] }]

/-! ### Commands -/

/-- The media lanes that a mask names, as objects. -/
def modObjs (p : List Byte) : List Obj := (maskList (u8 p 0) 8).map (fun m => (.lane, 16 + m))

/-- MOD_LANE_SET, staged (R625, R626). -/
def execModLaneSet (mb : Fin 8) (s : State) : Out := stage mb.val 0x0360 (fun p => [(.lane, 16 + u8 p 0)]) s

/-- MOD_DPD_CURVE_SET, staged (R625, R626). -/
def execModDpdCurveSet (mb : Fin 8) (s : State) : Out := stage mb.val 0x0361 modObjs s

/-- The new curves of a MOD_DPD_UPDATE, one for each lane named, none where one fails R269 (R617). -/
def State.modDpdUpdate (s : State) (p : List Byte) : Option (List Byte) :=
  let l := (maskList (u8 p 0) 8).map (fun m => dpdNew (u8 p 1) (u16 p (4 + 2 * m)) (s.modCurve m))
  if l.all Option.isSome then some (l.flatMap (fun o => curveBytes (o.getD []))) else none

/-- MOD_DPD_UPDATE: new curves from ρ, staged; INVALID where one fails R269 (R617, R625). -/
def execModDpdUpdate (mb : Fin 8) (s : State) : Out :=
  stage mb.val 0x0363 modObjs s
    (refuse := fun p s => if (s.modDpdUpdate p).isNone then some (err cINVALID) else none)
    (extra := fun p s => (s.stagedExtra mb.val ((s.modDpdUpdate p).getD []),
      (List.range 8).flatMap (fun m => if bitsOf (u8 p 0) m 1 = 1 then bytes 4 (twos 32 (dpdC (u16 p (4 + 2 * m)))) else [0, 0, 0, 0])))

/-- MOD_STATUS_GET (R625). -/
def execModStatusGet (mb : Fin 8) (s : State) : Out :=
  report mb.val 0x0364 s (fun p s =>
    okD (wordBytes ([0x200, 0x210, 0x220, 0x224, 0x228, 0x22C, 0x230, 0x234, 0x238].map (fun o => s.reg (0x310000 + 0x1000 * u8 p 0 + o)))))

/-- The payload rows of R625. -/
def payloadsModule : List PayloadRow := [
  ⟨0x0360, .fix 8, [.num 0 1 0 7, .zero 1 3, .bits 4 3 2 0 2, .bits 4 6 6 0 48]⟩,
  ⟨0x0361, .fix 68, [.num 0 1 1 255, .zero 1 3, .vec16 4 32 8191]⟩,
  ⟨0x0362, .fix 4, [.num 0 1 0 7, .num 1 1 1 255, .zero 2 2]⟩,
  ⟨0x0363, .fix 20, [.num 1 1 1 8, .zero 2 2]⟩,
  ⟨0x0364, .fix 4, [.num 0 1 0 7, .zero 1 3]⟩]

end Sys2Proof.Machine
end

