-- ==== Sys2Proof/Machine/Aui.lean ====
section
/-! DEFINITION. What the lanes send: Ethernet blocks, their transcoding, RS(544,514), rill-link frames, the bits of the module path, test patterns, PAM4 samples, the
characters of the timing lanes (R268, R272, R388, R390–R394, R401, R570, R573, R579, R582, R584, R587, R594–R600, R609–R615). What IEEE 802.3 gives is taken from it (log entry 68). -/

namespace Sys2Proof.Machine

/-! ### What Ethernet clients get (R390, R402) -/

/-- An idle block, and a Local Fault ordered set (IEEE 802.3 Clause 82). -/
def idleBlock : BitVec 66 := block66 2 [0x1E, 0, 0, 0, 0, 0, 0, 0]
def localFault : BitVec 66 := block66 2 [0x4B, 0, 0, 1, 0, 0, 0, 0]

/-- At most `n` idle blocks deleted. -/
def deleteIdle : Nat → List (BitVec 66) → List (BitVec 66)
  | 0, q => q
  | _, [] => []
  | n + 1, b :: t => if b = idleBlock then deleteIdle n t else b :: deleteIdle (n + 1) t

/-- `n` idle blocks inserted after the first idle block, or at the end. -/
def insertIdle (n : Nat) : List (BitVec 66) → List (BitVec 66)
  | [] => List.replicate n idleBlock
  | b :: t => if b = idleBlock then b :: (List.replicate n idleBlock ++ t) else b :: insertIdle n t

/-- The blocks sent and those that wait, when `due` are to be sent: idle is deleted or inserted to match the rates (R390). -/
def matchRate (due : Nat) (q : List (BitVec 66)) : List (BitVec 66) × List (BitVec 66) :=
  let a := deleteIdle (q.length - due) q
  let b := insertIdle (due - a.length) a
  (b.take due, b.drop due)

/-! ### Transcoding and RS(544,514) (R388, R584) -/

/-- Four 66-bit blocks as a 257-bit block: a 1 and four payloads, or where one is a control block a 0, which blocks are data, and the payloads without the
second half of the type of the first control block. -/
def transcode (bs : List (BitVec 66)) : List Bool :=
  let pay := bs.flatMap (fun b => msbBits 64 (b.toNat % 2 ^ 64))
  let data := bs.map (fun b => b.toNat / 2 ^ 64 == 1)
  match data.findIdx? (fun d => !d) with
  | none => true :: pay
  | some c => false :: data ++ pay.take (64 * c + 4) ++ pay.drop (64 * c + 8)

/-- A row of 66-bit blocks, four by four; fewer than four at the end wait. -/
def transcodeAll : Nat → List (BitVec 66) → List Bool
  | 0, _ => []
  | n + 1, bs => transcode (bs.take 4) ++ transcodeAll n (bs.drop 4)

/-- Times α in GF(2¹⁰) with x¹⁰ + x³ + 1. -/
def rsTimesAlpha (a : Nat) : Nat := if 512 ≤ a then (2 * a) ^^^ 1033 else 2 * a

/-- The product of two symbols, by the bits of the second, highest first. -/
def rsMul (a b : Nat) : Nat := (msbBits 10 b).foldl (fun acc d => rsTimesAlpha acc ^^^ (if d then a else 0)) 0

/-- The generator of RS(544,514): the product of x − α^j for j = 0 to 29, highest degree first, without its leading 1. -/
def rsGen : List Nat :=
  ((List.range 30).foldl (fun (x : List Nat × Nat) _ =>
    (List.zipWith (fun a b => a ^^^ rsMul b x.2) (x.1 ++ [0]) (0 :: x.1), rsTimesAlpha x.2)) ([1], 1)).1.drop 1

/-- The 30 parity symbols of 514 symbols. -/
def rsParity (g : List Nat) (msg : List Nat) : List Nat :=
  msg.foldl (fun r m =>
    let q := m ^^^ r.headD 0
    List.zipWith (fun a b => a ^^^ rsMul b q) (r.drop 1 ++ [0]) g) (List.replicate 30 0)

/-- Codewords of 544 symbols from bits, each from 5,140 of them. -/
def rsCodewords (g : List Nat) : Nat → List Bool → List (List Nat)
  | 0, _ => []
  | n + 1, bs =>
    let msg := (blocks 10 514 bs).map bitsNat
    (msg ++ rsParity g msg) :: rsCodewords g n (bs.drop 5140)

/-- The symbols of lane `i` among `w`: every w-th from the i-th on. -/
def laneSymbols (w i : Nat) (syms : List Nat) : List Nat := (syms.zipIdx.filter (fun s => s.2 % w == i)).map (fun s => s.1)

/-! ### Ethernet egress (R390, R402, R582, R584) -/

/-- The codewords of a port pass the injectors of its first lane (R739, R740). -/
def State.fiCodewords (s : State) (l : Nat) (cws : List (List Nat)) : List (List Nat) × State :=
  cws.foldl (fun (x : List (List Nat) × State) cw =>
    let r := x.2.fiUnit 2 l 5440
    let sent := match r.2 with
      | .drop => List.replicate 544 0
      | .corrupt b => cw.modify (b / 10) (fun v => v ^^^ 2 ^ (9 - b % 10))
      | _ => cw
    (x.1 ++ [sent], r.1)) ([], s)

/-- The blocks that a port sends become codewords, and their symbols go to its lanes (R584). The markers and the scrambling are those of IEEE 802.3. -/
def State.auiOut (s : State) (t : Nat) (bs : List (BitVec 66)) : State :=
  let port := s.flag Reg.TN_PKT_HOST_PORT t
  let rate := if port then s.get Reg.TN_PKT_ETH_RATE t else s.get Reg.TN_CLIENT_ETH_RATE t
  let ls := if port then s.hostLanesOf t else s.clientLanesOf t
  let l := ls.headD 0
  let bits := tget [] s.tsi.aui t ++ Config.auiStream rate ls.length (transcodeAll (bs.length / 4) bs)
  let n := bits.length / 5140
  let r := s.fiCodewords l (rsCodewords rsGen n bits)
  let s1 := { r.2 with tsi := { r.2.tsi with aui := tput [] r.2.tsi.aui t (bits.drop (5140 * n)) } }
  ls.zipIdx.foldl (fun (s : State) (e : Nat × Nat) =>
    s.setLaneData e.1 { s.laneData e.1 with symbols := laneSymbols ls.length e.2 r.1.flatten }) s1

/-- The blocks that an Ethernet client takes from the line; while every member is failed, or its cipher blocks, Local Fault ordered sets (R390, R402,
R439). A host packet port has its frames, which wait already. -/
def State.ethBlocks (s : State) (e : EthFrame) (due : Nat) : List (BitVec 66) :=
  if s.flag Reg.TN_PKT_HOST_PORT e.turnout then []
  else if (s.flag Reg.TN_CIPHER_PROTECT e.turnout && s.flag Reg.TN_CIPH_STATUS_BLOCKED e.turnout) ||
      decide (s.members e.turnout ≤ (s.lostMembers e.turnout).eraseDups.length) then List.replicate due localFault
  else e.blocks

/-- The egress of an Ethernet client or host packet port in the frame that ends. What four blocks do not fill waits. -/
def State.ethFrame (s : State) (e : EthFrame) : State :=
  if s.kind e.turnout ≠ 1 && !s.flag Reg.TN_PKT_HOST_PORT e.turnout then s
  else
    let due := e.due / 4 * 4
    let r := matchRate due (tget [] s.tsi.ethWait e.turnout ++ s.ethBlocks e due)
    let s1 := { s with tsi := { s.tsi with ethSent := tput [] s.tsi.ethSent e.turnout r.1, ethWait := tput [] s.tsi.ethWait e.turnout r.2 } }
    s1.auiOut e.turnout r.1

/-- The egress of every Ethernet client and host packet port. -/
def State.ethFrames (m : FrameMeas) (s : State) : State :=
  if s.coherent then
    m.ethernet.foldl State.ethFrame ((List.range 16).foldl (fun (s : State) l => s.setLaneData l { s.laneData l with symbols := [] }) s)
  else s

/-! ### Rill-link egress (R391–R394, R401, R402, R587) -/

/-- A header or idle block's payload with its CRC-8 (R392). -/
def withCrc8 (v : Nat) : Nat := v * 2 ^ 8 + crc8 0 (msbBits 56 v)

/-- The header of position `p` (R392). -/
def rillHeader (p fn : Nat) (fail mark : Bool) : Nat := withCrc8 (0xC3 * 2 ^ 48 + p * 2 ^ 40 + fn * 2 ^ 35 + b2n fail * 2 ^ 34 + b2n mark * 2 ^ 33)

/-- The idle block (R392). -/
def rillIdle : Nat := withCrc8 (0x3C * 2 ^ 48)

/-- The blocks of a position: the header and 98 data blocks, 22 zero bits last (R391). -/
def rillBlocks (header : Nat) (bits : List Bool) : List (Nat × Nat) :=
  (2, header) :: (blocks 64 98 (bits ++ List.replicate 22 false)).map (fun b => (1, bitsNat b))

/-- A payload through the scrambler 1 + x³⁹ + x⁵⁸, and the register after it (R587). -/
def scramble58 (r : Nat) (w : Nat) : Nat × Nat :=
  (msbBits 64 w).foldl (fun (x : Nat × Nat) b =>
    let o := b != (x.2.testBit 38 != x.2.testBit 57)
    (2 * x.1 + o.toNat, (2 * x.2 + o.toNat) % 2 ^ 58)) (0, r)

/-- Blocks leave on a lane: past its injectors, with their payloads scrambled (R587, R739, R740). A held block goes out after DEPTH others. -/
def State.rlSend (s : State) (l : Nat) (bs : List (Nat × Nat)) : State :=
  let put (s : State) (b : Nat × Nat) : State :=
    let x := s.laneData l
    let e := scramble58 x.scr b.2
    let w := BitVec.ofNat 66 (b.1 % 4 * 2 ^ 64 + e.1)
    s.setLaneData l { x with scr := e.2, blocks := x.blocks ++ [w], loop := if s.looped l then x.loop ++ [w] else [] }
  bs.foldl (fun (s : State) b =>
    let r := s.fiUnit 2 l 66
    let after (s : State) : State :=
      let q := s.fiPassed 2 l
      match q.2 with
      | some h => put q.1 (u8 h.bits 0, u64 h.bits 1)
      | none => q.1
    match r.2 with
    | .pass => after (put r.1 b)
    | .drop => after (put r.1 (0, 0))
    | .corrupt k => after (put r.1 (if k < 2 then (b.1 ^^^ 2 ^ k, b.2) else (b.1, b.2 ^^^ 2 ^ (k - 2))))
    | .hold => r.1.fiHold 2 l { bits := bytes 1 b.1 ++ bytes 8 b.2, left := ((s.fiAt 2 l).map (fun e => e.2.depth)).getD 0, last := s.clock })
    (s.setLaneData l { s.laneData l with blocks := [] })

/-- The FN of the egress frame of a lane: of a locked lane that of the received frame on the lowest-numbered processed furrow; a free lane counts its own
(R394, R401). -/
def State.egressFn (s : State) (h : Nat) : Nat :=
  if s.flag Reg.RL_CFG_FREE h then ((s.rillLane h).txFn + 1) % 25 else s.get Reg.FRM_FR_STATUS_FN (s.processed.headD 0)

/-- What position `p` of a lane carries: bits, FAIL and MARK; of a free lane the part of the tributary frame that its slip buffer sends (R392, R394, R402,
R403). A position of no turnout is idle. -/
def State.egressRill (s : State) (m : FrameMeas) (h fn p : Nat) : List Bool × Bool × Bool :=
  let idle := List.replicate 6250 false
  match (List.range 256).find? (fun t => (s.kind t == 2 || s.kind t == 4) && s.get Reg.TN_CLIENT_LANE t == h && decide (p < s.members t)) with
  | none => (idle, false, false)
  | some t =>
    if s.kind t = 2 then
      let lost := (s.lostMembers t).contains p
      match (m.rills.find? (fun r => r.turnout == t)).bind (fun r => r.slots[p]?) with
      | some (bits, mark) => (msbBits 6250 bits, lost, mark)
      | none => (idle, lost, false)
    else match (s.slip t true).last with
      | some f => (((byteBits f ++ idle).drop ((fn * s.members t + p) * 6250)).take 6250, false, false)
      | none => (List.replicate 6250 true, false, false)

/-- The frame that lane `h` sends; idle blocks fill it (R391). The egress goes on whether or not the lane's receiver is ALIGNED (R393). -/
def State.rillLinkOut (s : State) (m : FrameMeas) (h : Nat) : State :=
  if !s.flag Reg.RL_CFG_EN h || s.laneFormat h ≠ 2 || !s.running 4 h then s
  else
    let fn := s.egressFn h
    let due := match m.lanes.find? (fun x => x.lane == h) with | some x => x.due | none => 0
    let bs := (List.range (s.get Reg.RL_CFG_RILLS h)).flatMap (fun p =>
      let r := s.egressRill m h fn p
      rillBlocks (rillHeader p fn r.2.1 r.2.2) r.1)
    (s.setRillLane h { s.rillLane h with txFn := fn }).rlSend h (bs ++ List.replicate (due / 66 - bs.length) (2, rillIdle))

/-- Every rill-link lane. -/
def State.rillLinksOut (m : FrameMeas) (s : State) : State := if s.coherent then (List.range 16).foldl (fun s h => s.rillLinkOut m h) s else s

/-! ### Patterns (R594, R596) -/

/-- `n` bits of the generator whose polynomial has these powers, the highest first, and the register after them. -/
def prbsBits (powers : List Nat) : Nat → Nat → List Bool × Nat
  | 0, r => ([], r)
  | n + 1, r =>
    let b := powers.foldl (fun a p => a != r.testBit (p - 1)) false
    let rest := prbsBits powers n ((2 * r + b.toNat) % 2 ^ powers.headD 0)
    (b :: rest.1, rest.2)

/-- The polynomial of a PRBS code: that of IEEE 802.3 (R594). PRBS13Q and PRBS31Q are PRBS13 and PRBS31 with their bits in pairs. -/
def prbsPowers : Nat → List Nat
  | 1 => [7, 6]
  | 2 => [9, 5]
  | 3 => [13, 12, 2, 1]
  | 4 => [15, 14]
  | 5 => [23, 18]
  | 7 => [13, 12, 2, 1]
  | _ => [31, 28]

/-- Bit `k` of a pattern that is no PRBS: SSPRQ, which IEEE 802.3 gives; the square wave, at a PAM4 rate between the outer levels; USER_PAT from bit 63 on. -/
def patternBit (code user : Nat) (pam : Bool) (k : Nat) : Bool :=
  match code with
  | 9 => Config.ssprq k
  | 10 => if pam then k % 2 == 0 && decide (k % 32 < 16) else decide (k % 16 < 8)
  | _ => user.testBit (63 - k % 64)

/-- Bits with those inverted that an error injection asks for: the first `single` ones, and the last of every 2^N (R596). -/
def invertBits (single : Nat) (inject : Option Nat) (since : Nat) (bs : List Bool) : List Bool :=
  bs.zipIdx.map (fun (b, i) => b != (decide (i < single) || (match inject with
    | some n => (since + i + 1) % 2 ^ n == 0
    | none => false)))

/-- The generator of a FORMAT 3 lane sends `n` bits (R594, R596). -/
def State.generate (s : State) (l n : Nat) : State :=
  let x := s.lane l
  let d := x.data
  let code := s.get Reg.LN_TEST_GEN_PAT l
  let user := s.get Reg.USER_PAT_PAT l 1 * 2 ^ 32 + s.get Reg.USER_PAT_PAT l 0
  let r := if code = 0 then (([], d.prbs) : List Bool × Nat)
    else if code < 9 then prbsBits (prbsPowers code) n d.prbs
    else ((List.range n).map (fun k => patternBit code user (!nrz (s.laneRate l)) (d.patAt + k)), d.prbs)
  s.setLane l { x with
    data := { d with bits := invertBits x.inverted x.inject x.injAt r.1, prbs := r.2, patAt := d.patAt + r.1.length }
    inverted := x.inverted - r.1.length, injAt := x.injAt + r.1.length }

/-! ### PAM4 and the transmitter (R268, R272, R570, R573, R579, R597, R615) -/

/-- PAM4 symbols 0 to 3 of bits in pairs: 00, 01, 11, 10 (R570). -/
def pam4 (bs : List Bool) : List Nat :=
  (blocks 2 (bs.length / 2) bs).map (fun b =>
    match b with
    | [false, false] => 0
    | [false, true] => 1
    | [true, true] => 2
    | _ => 3)

/-- The precoder 1/(1 + D) mod 4 from the symbol `p` sent last (R573). -/
def precode : Nat → List Nat → List Nat
  | _, [] => []
  | p, g :: t => (g + 4 - p) % 4 :: precode ((g + 4 - p) % 4) t

/-- The level of a symbol in 2⁻²⁰ of the outer one: inner levels at (1 + INNER/1024)/3 of it (R615). -/
def pamLevel (inner : Int) (k : Nat) : Int :=
  let x : Int := if k = 0 || k = 3 then 2 ^ 20 else (1024 + inner) * 2 ^ 10 / 3
  if k < 2 then -x else x

/-- The output of the transmit FFE in 2⁻²⁰ mV: five levels, the oldest first, against C_P1, C_0, C_M1, C_M2, C_M3 in 1/32, at a swing of 400 + 25 × SWING
mV peak to peak (R579). -/
def txFfe (taps : List Int) (swing : Nat) (xs : List Int) : List Int :=
  (List.range (xs.length - 4)).map (fun i =>
    (List.zipWith (fun a b => a * b) taps ((xs.drop i).take 5)).sum * (400 + 25 * Int.ofNat swing) / 64)

/-! ### The module path (R37, R609–R611, R613) -/

/-- The bits that the device receives on lane `l` in the frame; in loopback 1 those that it sent last (R597). -/
def State.heardBits (s : State) (m : FrameMeas) (l : Nat) : List Bool :=
  if s.looped l then (s.laneData l).bits else match m.lanes.find? (fun x => x.lane == l) with | some x => x.bits | none => []

/-- The bits that lane `l` received in the frame, as they cross its queue: what a re-centring drops or repeats is missing or comes twice (R37, R609). -/
def State.crossBits (s : State) (m : FrameMeas) (l : Nat) : List Bool :=
  let x := s.laneData l
  let bits := s.heardBits m l
  if 0 ≤ x.skip then bits.drop (2 * x.skip.toNat) else x.lastBits.drop (x.lastBits.length - 2 * x.skip.natAbs) ++ bits

/-- What the transmitter of lane `l` sends for its source lane `src`: the bits received there, in order and unchanged; in fallback electrical idle or PRBS31Q
(R609, R611). -/
def State.moduleSend (s : State) (m : FrameMeas) (l src : Nat) (fallback prbs : Bool) (enc : List Bool → List Bool) : State :=
  let x := s.laneData l
  let due := match m.lanes.find? (fun x => x.lane == l) with | some x => x.due | none => 0
  if !fallback then s.setLaneData l { x with bits := enc (s.crossBits m src) }
  else if prbs then
    let p := prbsBits (prbsPowers 8) due x.prbs
    s.setLaneData l { x with bits := p.1, prbs := p.2 }
  else s.setLaneData l { x with bits := [] }

/-- The bits received in the frame have crossed. -/
def State.crossed (s : State) (m : FrameMeas) (l : Nat) : State :=
  s.setLaneData l { s.laneData l with lastBits := s.heardBits m l, skip := 0 }

/-- The pair of media lane `k` in the frame that ends. A media lane at RATE 9 encodes the inner code of IEEE 802.3 (R613). -/
def State.modulePair (m : FrameMeas) (s : State) (k : Nat) : State :=
  if !s.modLane k then s
  else
    let l := 16 + k
    let h := s.modHost k
    let enc := if s.laneRate l = 9 then Config.innerCode else id
    let s1 := s.moduleSend m l h (s.flag Reg.MOD_STATUS_TX_FALLBACK_M l) (s.flag Reg.MOD_CFG_ON_LOS_MEDIA l) enc
    let s2 := s1.moduleSend m h l (s1.flag Reg.MOD_STATUS_TX_FALLBACK_H l) (s1.flag Reg.MOD_CFG_ON_LOS_HOST l) id
    (s2.crossed m h).crossed m l

/-- The module path. -/
def State.modulePath (m : FrameMeas) (s : State) : State := (List.range 8).foldl (State.modulePair m) s

/-! ### The transmitters (R570, R573, R579, R597) -/

/-- The bits that the device sends toward a lane in the frame: RS symbols, rill-link blocks, a pattern, or the module path's bits (R571). -/
def State.toward (s : State) (m : FrameMeas) (l : Nat) : State :=
  let x := s.laneData l
  match s.laneFormat l with
  | 1 => s.setLaneData l { x with bits := x.symbols.flatMap (msbBits 10) }
  | 2 => s.setLaneData l { x with bits := x.blocks.flatMap (fun b => msbBits 66 b.toNat) }
  | 3 => s.generate l (match m.lanes.find? (fun x => x.lane == l) with | some x => x.due | none => 0)
  | _ => s

/-- The 66-bit blocks in `n` bits toward a lane; 80 of them make an RS codeword. -/
def State.blocksIn (s : State) (l n : Nat) : Nat := n / (if s.laneFormat l = 1 then 68 else 66)

/-- In loopback 2 the lane returns what it receives, and the traffic toward it is discarded and counted (R597). -/
def State.farLoop (s : State) (m : FrameMeas) (l : Nat) : State :=
  if s.get Reg.LN_TEST_LOOPBACK l ≠ 2 then s
  else
    let x := s.laneData l
    let s1 := s.setLaneData l { x with bits := match m.lanes.find? (fun x => x.lane == l) with | some x => x.bits | none => [] }
    if s.laneFormat l = 3 then s1 else s1.quenchDiscards 4 l (s.blocksIn l x.bits.length)

/-- The transmitter: symbols, precoding, levels, a media lane's curve, taps, swing and polarity, in that order (R272, R570, R573, R579, R615). -/
def State.transmit (s : State) (l : Nat) : State :=
  let x := s.laneData l
  let pam := !nrz (s.laneRate l)
  let g := if pam then pam4 x.bits else x.bits.map (fun b => 3 * b.toNat)
  let p := if pam && s.flag Reg.LN_CFG_PRECODE_TX l then precode x.pre g else g
  let media := decide (16 ≤ l) && s.laneFormat l == 4
  let v := p.map (fun k => if media then dpdAt (s.modCurve (l - 16)) (pamLevel (s.getInt Reg.MOD_CFG_INNER l) k) else pamLevel 0 k)
  let all := x.levels ++ v
  let taps := [s.getInt Reg.LN_TXEQ_C_P1 l, Int.ofNat (s.get Reg.LN_TXEQ_C_0 l), s.getInt Reg.LN_TXEQ_C_M1 l, s.getInt Reg.LN_TXEQ_C_M2 l, s.getInt Reg.LN_TXEQ_C_M3 l]
  let y := txFfe taps (s.get Reg.LN_TXEQ_SWING l) all
  s.setLaneData l { x with
    pre := p.getLastD x.pre
    levels := all.drop (all.length - 4)
    samples := if s.flag Reg.LN_CFG_TX_INV l then y.map (fun v => -v) else y }

/-- A lane in the frame that ends: one that is off or not in L0 sends nothing (R590). -/
def State.laneSends (m : FrameMeas) (s : State) (l : Nat) : State :=
  if s.laneFormat l = 0 || s.pstate l ≠ 0 then s.setLaneData l { s.laneData l with bits := [], levels := [], samples := [] }
  else ((s.toward m l).farLoop m l).transmit l

/-! ### The timing lanes (R598–R600) -/

/-- The ordered sets of the next `n` pairs of characters from the pair `k` of device time on: /M/ at a second, a message where one waits, which takes nine
pairs, else /I/ (R599, R600). -/
def orderedSets : Nat → Nat → List Byte → Nat → List Char10 × List Byte
  | 0, _, w, _ => ([], w)
  | n + 1, k, w, busy =>
    if 0 < busy then orderedSets n (k + 1) w (busy - 1)
    else if k % 125000000 = 0 then
      let r := orderedSets n (k + 1) w 0
      (markSet ++ r.1, r.2)
    else if w.isEmpty then
      let r := orderedSets n (k + 1) w 0
      (idleSet ++ r.1, r.2)
    else
      let r := orderedSets n (k + 1) [] 8
      (messageSet (w.map BitVec.toNat) ++ r.1, r.2)

/-- The characters of a timing lane's transmitter up to now; it starts in negative disparity (R598, R599). -/
def State.tlaneSends (s : State) (t : Nat) : State :=
  let x := s.tlane t
  let now := s.devTime / 104
  if !s.flag Reg.TL_CFG_TX_EN t then s.setTlane t { x with rd := false, next := 2 * now, wait := [], out := [] }
  else
    let r := orderedSets (now - x.next / 2) (x.next / 2) x.wait 0
    let e := encodeAll x.rd r.1
    s.setTlane t { x with
      rd := e.2, wait := r.2, next := max x.next (2 * ((x.next / 2) + r.1.length / 2))
      out := if s.flag Reg.TL_CFG_TX_INV t then e.1.map (fun c => 1023 - c) else e.1 }

/-- What all lanes send in the frame that ends. -/
def State.lanesOut (m : FrameMeas) (s : State) : State :=
  let s1 := (List.range 24).foldl (State.laneSends m) (((s.ethFrames m).rillLinksOut m).modulePath m)
  (s1.tlaneSends 0).tlaneSends 1

end Sys2Proof.Machine
end

