-- ==== Sys2Proof/Machine/Outgoing.lean ====
section
/-! DEFINITION. What the framer sends: frame alignment words, the length of frames, the multiframe stream of each group
(R340, R342, R343, R348–R353, R360). -/

namespace Sys2Proof.Machine

/-- The 8 label bits [15:8] of a FAW: FN, J, a zero (R340). -/
def fawLabel (fn j : Nat) : Nat := fn * 8 + j * 2

/-- The frame alignment word of frame `fn` with stuff adjustment `j` (R340). -/
def fawWord (fn j : Nat) : Nat := 0xF628A13D5B0C * 2 ^ 16 + fawLabel fn j * 2 ^ 8 + (255 - fawLabel fn j)

/-- Furrow `f` sends Flume frames: it transmits in the Terrace mode; of a leaf, a dedicated furrow while it is JOINED (R238). -/
def State.sendsFrames (s : State) (f : Nat) : Bool :=
  s.flag Reg.TXF_CTRL_EN f && s.get Reg.FEC_CTRL_LINE_FEC == 0 && (s.mode != 2 || (s.selfState == 4 && bitsOf s.self.burstMask f 1 == 0))

/-- 25,000 A of furrow `f` as it transmits (R342). -/
def State.sentA (s : State) (f : Nat) : Nat :=
  8 * wholeBlocks s.mfSymbols * s.get Reg.TXF_STATUS_H_TX_NOW f * codeRate (s.get Reg.TXF_CTRL_RATE_SEL f)

/-- What the frames of furrow `f` fall short of A after the next, in 25,000ths of a bit and before whole bits are taken from it: a furrow that
starts to send starts anywhere (R343; log entry 24). -/
def State.shortfall (s : State) (f : Nat) : Nat :=
  (match tget none s.frm.stuff f with
    | some x => x.1
    | none => Config.freeNat 343 f % 25000) + s.sentA f % 25000

/-- The J of the frame that starts on each furrow that sends frames, so that their mean length is A and the sum over any run of them is less than one
bit from it (R343). -/
def State.chooseJ (s : State) : State :=
  { s with frm := { s.frm with stuff := (List.range 32).foldl (fun (t : Tab (Option (Nat × Nat))) f =>
    tput none t f (if s.sendsFrames f then some (s.shortfall f % 25000, 1 + s.shortfall f / 25000) else none)) s.frm.stuff } }

/-- The frame alignment word and the length of the frame that furrow `f` sends (R340, R342). -/
def State.sentFrame (s : State) (f : Nat) : Option (Nat × Nat) :=
  (tget none s.frm.stuff f).map (fun x => (fawWord s.frm.fn x.2, s.sentA f / 25000 - 1 + x.2))

/-- The 4 MODREQ bytes of a furrow: the request that waits for its switch multiframe, the entropy that this end confirms (R350). -/
def State.modreqBytes (s : State) (f : Nat) : List Byte :=
  let req := match (s.fur f).pending with
    | some q => [BitVec.ofNat 8 (128 + q.target % 128), BitVec.ofNat 8 q.switchMfn]
    | none => [0, 0]
  let conf := match tget none s.tx.switches f with
    | some (h, m) => [BitVec.ofNat 8 (128 + h % 128), BitVec.ofNat 8 m]
    | none => [0, 0]
  req ++ conf

/-- The STATUS byte of a group: BDI of each furrow whose SF holds or whose FORCE_BDI bit is set (R349, R360). -/
def State.statusByte (s : State) (k : Nat) : Nat :=
  ((s.groupFurrows k).zipIdx.map (fun e =>
    b2n (s.flag Reg.FRM_FR_STATUS_SF e.1 || bitsOf (s.get Reg.FORCE_BDI_MASK) e.1 1 == 1) * 2 ^ e.2)).sum

/-- A grant entry (R212). -/
def grantEntry (g : Grant) : List Byte :=
  bytesBe 6 (g.type * 2 ^ 46 + g.leaf * 2 ^ 36 + g.furrow * 2 ^ 31 + g.start * 2 ^ 9 + g.len)

/-- The grants that a group's stream carries in the present multiframe: only a hub sends any (R351). -/
def State.streamGrants (s : State) (k : Nat) : List Grant :=
  if s.mode = 1 && s.burst.mapFor == some s.frm.mfn then s.burst.sent.filter (fun g => g.furrow / 4 = k) else []

/-- The furrows of group `k` that send frames, in ascending order (R348). -/
def State.senders (s : State) (k : Nat) : List Nat := (s.groupFurrows k).filter s.sendsFrames

/-- Bytes of a group's multiframe stream (R348). -/
def State.sentBytes (s : State) (k : Nat) : Nat := 25 * ((s.senders k).length * channelBytes s.nFur - 2)

/-- The multiframe stream that a group sends, of its length; nothing where none of its furrows transmits (R348, R349, R353). -/
def State.streamOut (s : State) (k : Nat) : List Byte :=
  let gs := s.streamGrants k
  let modreq := (s.groupFurrows k).flatMap s.modreqBytes
  let head := bytesBe 4 s.frm.mfn ++ [BitVec.ofNat 8 (s.statusByte k)] ++ modreq ++ List.replicate (16 - modreq.length) 0 ++ bytesBe 2 gs.length
  let mgmt := if s.mode = 1 then (tget [] s.burst.mgmtSent k).flatten else []
  let all := head ++ gs.flatMap grantEntry ++ mgmt
  (all ++ List.replicate (s.sentBytes k - all.length) 0).take (s.sentBytes k)

/-- The streams of the multiframe that starts. -/
def State.sendStreams (s : State) : State :=
  if !s.coherent then s
  else { s with frm := { s.frm with streams := (List.range 8).foldl (fun (t : Tab (List Byte)) k => tput [] t k (s.streamOut k)) s.frm.streams } }

end Sys2Proof.Machine
end

