-- ==== Sys2Proof/Machine/LineOut.lean ====
section
/-! DEFINITION. From clients to symbols: what each group carries in a frame, the rill slots, Flume frames, the coded stream of each furrow, multiframes of
symbols, a leaf's bursts (R47, R255, R256, R276, R297–R308, R339, R347, R386–R390, R393, R395, R400, R402, R414, R417). -/

namespace Sys2Proof.Machine

/-! ### Rills that are carried (R180, R385) -/

/-- The rill slots in the frames of furrow `f` at the entropy and rate in force: the rills above are shed (R180, R263, R339). -/
def State.slotsOut (s : State) (f : Nat) : Nat := s.rillsOf (s.get Reg.TXF_STATUS_H_TX_NOW f) (s.get Reg.TXF_CTRL_RATE_SEL f)

/-- A frame carries rill `r`. -/
def State.carriesOut (s : State) (r : Nat) : Bool := s.sendsFrames (r / s.slotsPer) && decide (r % s.slotsPer < s.slotsOut (r / s.slotsPer))

/-- The members of turnout `t` that travel: all of them, but of a packet group those that some rill carries (R402). -/
def State.membersOut (s : State) (t : Nat) : List Nat :=
  let ms := List.range (s.members t)
  if s.kind t ≠ 3 then ms
  else
    let cs := (s.conns (s.get Reg.TSI_STATUS_ACTIVE)).filter (fun c => c.turnout == t && s.carriesOut c.rill)
    ms.filter (fun m => cs.any (fun c => c.member == m))

/-! ### The bits of a group in a frame (R389) -/

/-- What the operand gives for client `t`. -/
def clientItems (m : FrameMeas) (t : Nat) : List (Option Nat) :=
  match m.clients.find? (fun c => c.turnout == t) with
  | some c => c.items
  | none => []

/-- A rill of idle (R347). -/
def idleRill : List Bool := List.replicate 6250 false

/-- The positions of a rill-link client: idle where the lane is not ALIGNED, or the position failed or came late (R393, R400). -/
def State.rillLinkBits (s : State) (t : Nat) : List Bool :=
  let h := s.get Reg.TN_CLIENT_LANE t
  let x := s.rillLane h
  (List.range (s.members t)).flatMap (fun p =>
    if s.flag Reg.RL_STATUS_ALIGNED h && !x.failed.contains p then x.rills.getD p idleRill else idleRill)

/-- Blocks in the places of those that are due, as far as they go. -/
def fillDue : List (Option Nat) → List Nat → List (Option Nat)
  | [], _ => []
  | none :: t, bs => none :: fillDue t bs
  | some _ :: t, [] => none :: fillDue t []
  | some _ :: t, b :: bs => some b :: fillDue t bs

/-- The blocks of an Ethernet client: those due, or Local Fault while its port is not ALIGNED; null blocks where none is due (R389, R390, R585). A port
in loopback 1 or 3 receives what it sent last (R597). -/
def State.ethernetItems (s : State) (t : Nat) (due : List (Option Nat)) : List (Option Nat) :=
  if s.flag Reg.PORT_STATUS_ALIGNED (s.get Reg.TN_CLIENT_LANE t) then
    if s.looped (s.get Reg.TN_CLIENT_LANE t) then
      let sent := tget [] s.tsi.ethSent t
      fillDue due ((List.range (sent.length / 4)).map (fun i => bitsNat (transcode ((sent.drop (4 * i)).take 4))))
    else due
  else due.map (Option.map (fun _ => bitsNat (transcode (List.replicate 4 localFault))))

/-- The part of a timed tributary's frame that Flume frame `fn` carries; all ones where its slip buffer has none to send (R403, R404). -/
def State.tributaryBits (s : State) (t : Nat) : List Bool :=
  let n := 6250 * s.members t
  match (s.slip t false).last with
  | some f => ((byteBits f ++ List.replicate (25 * n) false).drop (s.frm.fn * n)).take n
  | none => List.replicate n true

/-- A protected unit in its group: header, ciphertext, tag and pad (R414). -/
def unitBits (room : Nat) (unit : List Byte) : List Bool := (byteBits unit ++ List.replicate room false).take room

/-- The bits of turnout `t` in the frame that starts, and the state without those taken from a queue. A quenched turnout's rills carry idle; a packet
turnout that is STOPPING drains what it holds (R52, R55; log entry 66). -/
def State.groupBits (s : State) (m : FrameMeas) (t : Nat) : List Bool × State :=
  let room := 6250 * (s.membersOut t).length
  if s.qState 1 t = 2 || (s.qState 1 t = 1 && s.kind t ≠ 3) || s.ownTurnout = some t then (List.replicate room false, s)
  else if s.flag Reg.TN_CIPHER_PROTECT t then
    (unitBits room (s.cipherTn t).out, s.setCipherTn t { s.cipherTn t with out := [] })
  else match s.kind t with
    | 1 => (packBlocks 257 room (s.ethernetItems t (clientItems m t)), s)
    | 2 => (s.rillLinkBits t, s)
    | 3 => s.takeBlocks t room
    | _ => (s.tributaryBits t, s)

/-- The bits of a group, with its members in order. -/
structure GroupOut where
  turnout : Nat
  members : List Nat
  bits : List Bool
  deriving DecidableEq, Repr

/-- What every group carries in the frame that starts. -/
def State.groupsOut (s : State) (m : FrameMeas) : List GroupOut × State :=
  ((List.range 256).filter (fun t => s.kind t ≠ 0)).foldl (fun (x : List GroupOut × State) t =>
    let ms := x.2.membersOut t
    let b := x.2.groupBits m t
    (x.1 ++ [⟨t, ms, b.1⟩], b.2)) ([], s)

/-! ### Flume frames (R339, R347, R348, R362) -/

/-- The bits of a member. -/
def memberBits (gs : List GroupOut) (t m : Nat) : List Bool :=
  match gs.find? (fun g => g.turnout == t) with
  | some g => match g.members.findIdx? (fun k => k == m) with
    | some i => (g.bits.drop (6250 * i)).take 6250
    | none => idleRill
  | none => idleRill

/-- The content of rill `r`: its connection's member, else idle (R347, R395). -/
def rillBits (cs : List Conn) (gs : List GroupOut) (r : Nat) : List Bool :=
  match cs.find? (fun c => c.rill == r) with
  | some c => memberBits gs c.turnout c.member
  | none => idleRill

/-- The channel of group `k` in the present frame: PQA, PQB, and its part of the multiframe stream (R348, R362). -/
def State.groupChannel (s : State) (k : Nat) : List Byte :=
  let n := (s.senders k).length * channelBytes s.nFur - 2
  [BitVec.ofNat 8 (s.get Reg.PQ_STATUS_TX_PQA), BitVec.ofNat 8 (s.get Reg.PQ_STATUS_TX_PQB)] ++
    ((tget [] s.frm.streams k).drop (s.frm.fn * n)).take n

/-- The channel field of furrow `f`: its share of its group's, in ascending furrow order (R348). -/
def State.channelShare (s : State) (f : Nat) : List Byte :=
  let k := if s.nFur = 1 then 0 else f / 4
  let b := channelBytes s.nFur
  let i := ((s.senders k).findIdx? (fun g => g == f)).getD 0
  ((s.groupChannel k ++ List.replicate (4 * b) 0).drop (i * b)).take b

/-- The Flume frame that furrow `f` sends, before scrambling: FAW, channel, rill slots, stuff (R339). -/
def State.flumeFrame (s : State) (cs : List Conn) (gs : List GroupOut) (f : Nat) : List Bool :=
  match s.sentFrame f with
  | none => []
  | some (faw, len) =>
    let head := msbBits 64 faw ++ byteBits (s.channelShare f)
    let slots := (List.range (s.slotsOut f)).flatMap (fun i => rillBits cs gs (f * s.slotsPer + i))
    (head ++ slots ++ List.replicate len false).take len

/-! ### The coded stream of a furrow (R297–R300, R306, R308) -/

/-- A frame goes into the chain: FAWs are not scrambled, and the scrambler starts again at the first channel bit of frame 0 (R300, R340). -/
def TxLine.put (first : Bool) (frame : List Bool) (x : TxLine) : TxLine :=
  let r := scramble (if first then scramblerStart else x.scrambler) (frame.drop 64)
  { x with scrambler := r.2, flume := x.flume ++ frame.take 64 ++ r.1, frame := frame }

/-- Coded bits in a multiframe of `sm` symbols at entropy h/16: D of R342. -/
def mfBits (e : Nat × Nat) : Nat := 2 * wholeBlocks e.1 * blockBits e.2

/-- A multiframe begins: its symbols wait for their coded bits; a new rate applies from the first codeword that begins in it (R306, R308). -/
def TxLine.begin (sel : Nat) (e : Nat × Nat) (x : TxLine) : TxLine :=
  let ahead := (x.waiting.map mfBits).sum - x.coded.length
  { x with
    waiting := x.waiting ++ [e]
    change := if x.change.isSome then x.change else if sel = x.sel then none else some ahead }

/-- The new rate is due: its first codeword has index 0 (R308). -/
def TxLine.turn (sel : Nat) (x : TxLine) : TxLine :=
  if x.change = some 0 then { x with sel := sel, cycle := 0, change := none } else x

/-- The codewords for which enough Flume bits wait, one after another (R297, R299, R306). -/
def TxLine.code (sel : Nat) : Nat → TxLine → TxLine
  | 0, x => x
  | k + 1, x =>
    let y := x.turn sel
    let n := flumeBits y.sel y.cycle
    if y.flume.length < n then y
    else
      TxLine.code sel k { y with
        flume := y.flume.drop n
        coded := y.coded ++ Terrace.line.encode y.sel (lineInfo y.sel y.cycle (y.flume.take n))
        cycle := (y.cycle + 1) % cycleLen y.sel
        change := y.change.map (fun c => c - 30720) }

/-- The symbols of the multiframe that waits longest, once all its coded bits are there (R256, R306). -/
def TxLine.emit (x : TxLine) : TxLine :=
  match x.waiting with
  | [] => x
  | e :: rest =>
    if mfBits e ≤ x.coded.length then
      { x with waiting := rest, coded := x.coded.drop (mfBits e), symbols := multiframeSymbols e.1 e.2 (x.coded.take (mfBits e)) }
    else x

/-- The chain of a furrow whose transmit side stops: what it holds goes out, with zeros after its last whole codeword (R52). -/
def TxLine.flush (x : TxLine) : TxLine :=
  match x.waiting with
  | [] => { x with flume := [], coded := [] }
  | e :: rest =>
    { x with waiting := rest, flume := [], coded := x.coded.drop (mfBits e)
             symbols := multiframeSymbols e.1 e.2 ((x.coded ++ List.replicate (mfBits e) false).take (mfBits e)) }

/-- The frame of an interoperability mode: its Ethernet client in the frame, code, plain 16-point mapping and pilots of the specification in force, without
a distribution matcher (R261, R326; log entry 69). -/
def State.interopLine (s : State) (m : FrameMeas) (x : Option TxLine) : TxLine :=
  let items := ((List.range 256).filter (fun t => s.kind t = 1)).flatMap (fun t => s.ethernetItems t (clientItems m t))
  let r := Config.interopSymbols (s.get Reg.FEC_CTRL_LINE_FEC) ((x.bind TxLine.interop).getD []) items
  { symbols := r.2.map (symOf 640), interop := some r.1 }

/-- The frame of furrow `f` goes through its chain. A chain begins with a multiframe. -/
def State.lineFurrow (s : State) (m : FrameMeas) (cs : List Conn) (gs : List GroupOut) (f : Nat) (x : Option TxLine) : Option TxLine :=
  let sel := s.get Reg.TXF_CTRL_RATE_SEL f
  let first := s.frm.fn == 0
  if s.qState 3 (32 + f) = 1 then x.map TxLine.flush
  else if s.flag Reg.TXF_CTRL_EN f && s.get Reg.FEC_CTRL_LINE_FEC ≠ 0 then some (s.interopLine m x)
  else if !s.sendsFrames f then none
  else
    let held := x.filter (fun c => c.interop.isNone)
    let start : Option TxLine := if held.isNone && first then some { sel := sel } else held
    start.map (fun x =>
      let y := if first then x.begin sel (s.mfSymbols, s.get Reg.TXF_STATUS_H_TX_NOW f) else x
      let z := y.put first (s.flumeFrame cs gs f)
      (z.code sel (z.flume.length / 24576 + 1)).emit)

/-- The Flume frames of the furrow that its chain still holds, one that has begun counted whole (R52). -/
def State.framesHeld (s : State) (f : Nat) : Nat :=
  match tget none s.tx.lines f with
  | none => 0
  | some x =>
    let len := max 1 (s.sentA f / 25000)
    if x.waiting.isEmpty then 0 else (x.flume.length + x.coded.length * codeRate x.sel / 1000 + len - 1) / len

/-- The frame that starts goes out on every furrow that sends frames. The chain runs whether or not the DACs are squelched (R281). -/
def State.sendFrames (m : FrameMeas) (s : State) : State :=
  if !s.coherent then s
  else
    let g := s.groupsOut m
    let cs := s.conns (s.get Reg.TSI_STATUS_ACTIVE)
    let s1 := g.2
    { s1 with tx := { s1.tx with lines := (List.range 32).foldl (fun (t : Tab (Option TxLine)) f =>
      tput none t f (s1.lineFurrow m cs g.1 f (tget none t f))) s1.tx.lines } }

/-! ### A leaf's bursts (R207–R211, R276, R386, R413) -/

/-- The payload bytes of a burst: LEN codewords exactly, filled with idle: the blocks of the leaf's own turnout, or its protected unit (R276, R386,
R413). -/
def State.ownPayload (s : State) (g : Grant) : List Byte × State :=
  let n := (if g.type = 0 then g.len else 0) * burstBytes (s.get Reg.TXS_LEAF_CFG_BURST_RATE_SEL)
  match s.ownTurnout with
  | none => (List.replicate n 0, s)
  | some t =>
    if g.type ≠ 0 || s.qState 1 t = 2 then (List.replicate n 0, s)
    else if s.flag Reg.TN_CIPHER_PROTECT t then
      (bitBytes n (unitBits (8 * n) (s.cipherTn t).out), s.setCipherTn t { s.cipherTn t with out := [] })
    else
      let b := s.takeBlocks t (8 * n)
      (bitBytes n b.1, b.2)

/-- The upstream backlog in units of 1,024 bytes, saturating (R210). -/
def State.backlog (s : State) : Nat :=
  match s.ownTurnout with
  | none => 0
  | some t =>
    let ids := (List.range 8).flatMap (fun c => s.queue (8 * t + c)) ++ tget [] s.pk.egress t
    let held := (ids.map (fun id => match s.pkt id with | some p => p.data.length | none => 0)).sum
    min 65535 ((held + 8 * (s.egressBlocks t).length) / 1024)

/-- The burst that the leaf sends in a grant (R207–R211, R275–R277). -/
def State.ownBurst (s : State) (g : Grant) (b start : Nat) (payload : List Byte) : SentBurst :=
  let r : Int := 8 * Int.ofNat s.furRate
  let t := s.sendInstant g start
  let h := s.ownHeader g b s.backlog
  let sel := s.get Reg.TXS_LEAF_CFG_BURST_RATE_SEL
  { grant := g, slot := b, start := t, centre := s.txCentre g.furrow, header := h
    symbols := burstSymbols h (s.flag Reg.TXS_LEAF_CFG_BURST_MOD) (burstCoded sel (if g.type = 0 then g.len else 0) payload)
    gate := (t / r - Int.ofNat (nsT (s.gateNs (s.get Reg.TXS_LEAF_CFG_LEAD_NS))),
      (t + 104000 * Int.ofNat (s.ownSymbols g)) / r + Int.ofNat (nsT (s.gateNs (s.get Reg.TXS_LEAF_CFG_LAG_NS)))) }

/-- A burst has gone out in grant `g`; the eligible grants that it overlaps go unsent (R279). -/
def State.burstSent (s : State) (g : Grant) (start : Nat) (burst : SentBurst) : State :=
  let sp := s.gateSpan g start
  let rest := s.self.grants.filter (· ≠ g)
  let hit := rest.filter (fun h =>
    s.eligible h && h.type ≠ 1 && decide ((s.gateSpan h h.start).1 < sp.2) && decide (sp.1 < (s.gateSpan h h.start).2))
  let s1 := { s with self := { s.self with
    grants := rest.filter (fun h => !hit.contains h)
    sent := some burst
    seq := (s.self.seq + 1) % 65536
    surveyedAt := if g.type = 1 then some (s.self.surveyedAt.getD s.clock) else s.self.surveyedAt } }
  let s2 := if g.type = 1 then s1.bump Cnt.SURVEY_TRIES else s1
  let s3 := if hit.isEmpty then s2 else (s2.bump Cnt.GRANT_OVERLAPS 0 0 hit.length).set Reg.TXS_EVENTS_GRANT_OVERLAP 1
  s3.bump Cnt.BURSTS_SENT

/-- LEAF_BURST_TX: the gate of the leaf's earliest grant, one on `furrow`, opens and its burst goes out; grants whose bursts would overlap it go unsent (R226,
R275–R279). The back-off slot of a survey burst is drawn uniformly: a free value. -/
def execLeafBurstTx (furrow : Fin 32) (s : State) : Out :=
  if s.mode ≠ 2 || s.flag Reg.TXS_STATUS_SQUELCHED || !s.leafLocked then .next s
  else
    match (s.firstGrant (s.self.grants.filter s.eligible)).filter (fun g => g.furrow == furrow.val) with
    | none => .next s
    | some g =>
      let draw := if g.type = 1 then s.free 226 else (0, s)
      let s1 := draw.2.leafUpdates g.mf
      let b := if g.len = 0 then 0 else draw.1 % g.len
      let start := if g.type = 1 then g.start + b * (240 + s.leafGuard) else g.start
      let p := s1.ownPayload g
      let burst := s1.ownBurst g b start p.1
      if Int.ofNat s.clock < burst.gate.1 then .next s else done s (p.2.burstSent g start burst)

end Sys2Proof.Machine
end

