-- ==== Sys2Proof/Machine/Monitor.lean ====
section
/-! DEFINITION. Gauge, the monitor tap, telemetry, device seconds and GPIO edges (R641, R643, R676, R682–R708). -/

namespace Sys2Proof.Machine

/-! ### Gauge sequences (R683–R686) -/

def State.withGauge (s : State) (g : GaugeState) : State := { s with gau := g }

/-- Busy with a sequence or an urgent conversion. -/
def State.gaugeBusy (s : State) : Bool := s.flag Reg.GAUGE_STATUS_RUNNING

/-- A sequence starts: the channels of SCAN_MASK in ascending order (R683). -/
def State.startSequence (s : State) : State :=
  let cs := maskList (s.get Reg.SCAN_MASK_MASK) 32
  ((s.withGauge { s.gau with chans := cs, start := s.clock, urgent := none }).set Reg.GAUGE_STATUS_RUNNING 1).set Reg.GAUGE_STATUS_CHANNEL (cs.headD 0)

/-- A trigger: what became of it: 1 started, 2 pending, 0 dropped (R685). -/
def State.gaugeTrigger (s : State) : State × Nat :=
  if !s.gaugeBusy then (s.startSequence, 1)
  else if !s.flag Reg.GAUGE_STATUS_PENDING then (s.set Reg.GAUGE_STATUS_PENDING 1, 2)
  else ((s.bump Cnt.TRIG_DROPS).set Reg.GAUGE_EVENTS_TRIG_DROP 1, 0)

/-- GAUGE_TIMER_TRIGGER: the timer, or the local multiframe boundary, triggers (R684). -/
def execGaugeTimerTrigger (s : State) : Out :=
  let src := s.get Reg.GAUGE_CFG_TRIG_SRC
  let due := if src = 0 then decide (s.gau.lastTrig + usT (s.get Reg.GAUGE_CFG_SEQ_PERIOD_US) ≤ s.clock)
    else src = 1 && s.frm.started && decide (s.gau.lastTrig < s.frm.lastMf)
  if !s.flag Reg.GAUGE_CFG_EN || !due then .next s
  else done s ((s.withGauge { s.gau with lastTrig := s.clock }).gaugeTrigger.1)

/-! ### Conversions (R682, R687–R691) -/

/-- What a code of a channel stands for (R682): µV on channels 0 to 25, 1/1000 °C on the die sensors 26 to 31. -/
def gaugeValue (c n : Nat) : Int :=
  let f : Nat := if 20 ≤ c && c ≤ 23 then 2 else if c = 24 then 4 else 1
  if 26 ≤ c then Int.ofNat (n * 1000 / 16) - 64000 else Int.ofNat (f * n * 1200000 / 4096)

/-- A code goes into its channel's accumulator and tracker (R687). -/
def State.accumulate (s : State) (c code : Nat) (taint : Bool) : State :=
  let n := s.get Reg.ACC_STATUS_N c
  let s1 := (s.set Reg.MINMAX_MIN (min code (s.get Reg.MINMAX_MIN c)) c).set Reg.MINMAX_MAX (max code (s.get Reg.MINMAX_MAX c)) c
  if s.flag Reg.ACC_STATUS_FULL c then s1
  else
    let s2 := (s1.set Reg.ACC_SUM_SUM (s.get Reg.ACC_SUM_SUM c + code) c).set Reg.ACC_STATUS_N (n + 1) c
    let s3 := if taint then s2.set Reg.ACC_STATUS_TAINTED 1 c else s2
    if n + 1 = 0xFFFFF then s3.set Reg.ACC_STATUS_FULL 1 c else s3

/-- An input out of range: flags, counter, the record of an episode's first conversion (R689). -/
def State.gaugeRange (s : State) (c code : Nat) (out : Bool) : State :=
  if out then
    let s1 := ((s.set Reg.RANGE_FLAGS_RANGE (putBits (s.get Reg.RANGE_FLAGS_RANGE) c 1 1)).bump Cnt.RANGE_EVENTS).set Reg.GAUGE_EVENTS_RANGE 1
    if s.gau.outside.contains c then s1
    else (s1.withGauge { s1.gau with outside := c :: s1.gau.outside }).log wbGauge 0x90 ([BitVec.ofNat 8 c, 0] ++ bytes 2 code)
  else s.withGauge { s.gau with outside := s.gau.outside.filter (· != c) }

/-- A code beyond the limits of its channel (R691). -/
def State.gaugeLimit (s : State) (c code : Nat) : State :=
  let low := decide (code < s.get Reg.CH_LIMIT_LO c)
  let out := low || decide (s.get Reg.CH_LIMIT_HI c < code)
  if !s.flag Reg.CH_LIMIT_LIMIT_EN c then s
  else if !out then s.withGauge { s.gau with limit := s.gau.limit.filter (· != c) }
  else if s.gau.limit.contains c then s
  else (((s.withGauge { s.gau with limit := c :: s.gau.limit }).bump Cnt.LIMIT_EVENTS).set Reg.GAUGE_EVENTS_LIMIT 1).log wbGauge 0x91
    ([BitVec.ofNat 8 c, BitVec.ofNat 8 (b2n (!low))] ++ bytes 2 code)

/-- A conversion result of channel `c` (R687–R691). -/
def State.convResult (s : State) (c code : Nat) (out : Bool) : State :=
  let taint := out || decide (0 < s.gau.disturbed)
  let s1 := (((s.accumulate c code taint).gaugeRange c code out).gaugeLimit c code)
  let hot := if 26 ≤ c then max s1.gau.hot code else s1.gau.hot
  s1.withGauge { s1.gau with disturbed := if out then 2 else s1.gau.disturbed - 1, hot := hot }

/-- A pending trigger starts its sequence. -/
def State.startPending (s : State) : State :=
  if s.flag Reg.GAUGE_STATUS_PENDING then (s.set Reg.GAUGE_STATUS_PENDING 0).startSequence else s

/-- The converter is idle. -/
def State.gaugeIdle (s : State) : State :=
  ((s.set Reg.GAUGE_STATUS_RUNNING 0).set Reg.GAUGE_STATUS_CHANNEL 0).withGauge { s.gau with chans := [], urgent := none }

/-- GAUGE_CONVERSION_END: a conversion of 1 µs ends with a code; `over` says that the input lay below (false) or above (true) the range (R682, R687). -/
def execGaugeConversionEnd (code : Fin 4096) (beyond : Option Bool) (s : State) : Out :=
  match s.gau.chans with
  | [] => .next s
  | c :: rest =>
    if s.clock < s.gau.start + usT 1 then .next s
    else
      let v := match beyond with
        | none => code.val
        | some true => 0xFFF
        | some false => 0
      let s1 := s.convResult c v beyond.isSome
      match s.gau.urgent with
      | some mb => done s ((s1.gaugeIdle.startPending).finish mb (okD (bytes 2 v ++ [BitVec.ofNat 8 (b2n beyond.isSome), 0])))
      | none => done s ((s1.withGauge { s1.gau with chans := rest, start := s.clock }).set Reg.GAUGE_STATUS_CHANNEL (rest.headD 0))

/-- GAUGE_SEQUENCE_END: every channel of the sequence has converted; a pending trigger starts the next (R683, R685). -/
def execGaugeSequenceEnd (s : State) : Out :=
  if !s.gaugeBusy || !s.gau.chans.isEmpty then .next s
  else done s ((((s.gaugeIdle).bump Cnt.SEQUENCES).set Reg.GAUGE_EVENTS_SEQ_DONE 1).startPending)

/-! ### The monitor tap (R692–R695) -/

def State.withTap (s : State) (t : TapState) : State := { s with tap := t }

/-- The input rate of the tap's source, kS/s (R692), in a mode. -/
def State.tapIn (s : State) (mode : Nat) : Nat :=
  if s.get Reg.TAP_CFG_SRC = 1 then s.get Reg.RX_CFG_RATE_MBD * 1000 / s.nFur else if mode = 2 then 84000000 else 336000000

/-- The least STAGES of the source. -/
def State.leastStages (s : State) (mode : Nat) : Nat :=
  if s.get Reg.TAP_CFG_SRC = 1 then ((List.range 12).find? (fun k => s.tapIn mode ≤ 1312500 * 2 ^ k)).getD 12 else if mode = 2 then 6 else 8

/-- The output rate, kS/s. -/
def State.tapOut (s : State) : Nat := s.tapIn s.mode / 2 ^ s.get Reg.TAP_CFG_STAGES

/-- The trigger of an armed capture has come. -/
def State.tapHit (s : State) : State :=
  if s.flag Reg.TAP_STATUS_ARMED && s.tap.hit.isNone then s.withTap { s.tap with hit := some (s.clock, s.devTime) } else s

/-- The source does not run (R703). -/
def State.tapAbsent (s : State) : Bool :=
  s.blocksOff || (match s.get Reg.TAP_CFG_SRC with
    | 0 => (List.range 4).any (fun a => s.get Reg.ADC_STATUS_STATE a != 2)
    | 1 => !s.flag Reg.FR_RX_CTRL_EN (s.get Reg.TAP_CFG_FURROW)
    | _ => (List.range 4).any (fun d => s.get Reg.DAC_STATUS_STATE d != 2))

/-- TAP_CAPTURE_START: the trigger of the armed capture has come (R695). -/
def execTapCaptureStart (s : State) : Out :=
  if s.flag Reg.TAP_STATUS_ARMED && s.tap.hit.isSome then
    done s ((s.set Reg.TAP_STATUS_ARMED 0).set Reg.TAP_STATUS_CAPTURING 1)
  else .next s

/-- Coefficient `i` of a stage's half-band filter of 23 taps, in 2⁻¹⁶: 1 in the middle, 0 at every other place of even distance, and the nearest two such that
the gain is 2 (R693). -/
def halfBandTap (i : Nat) : Int :=
  let d := (Int.ofNat i - 11).natAbs
  if d = 0 then 2 ^ 16
  else if d % 2 = 0 then 0
  else if d = 1 then 2 ^ 15 - ((List.range 5).map Config.halfBand).sum
  else Config.halfBand ((d - 3) / 2)

/-- A number over 2^n, rounded half away from zero. -/
def roundAway (n : Nat) (x : Int) : Int :=
  let m := Int.ofNat ((2 * x.natAbs + 2 ^ n) / 2 ^ (n + 1))
  if x < 0 then -m else m

/-- A stage of the chain: its outputs, and how many of them were saturated (R693). -/
def tapStage (shift : Nat) (xs : List Int) : List Int × Nat :=
  let ys := (List.range ((xs.length - 21) / 2)).map (fun j =>
    roundAway (16 + shift) (List.zipWith (fun a i => a * halfBandTap i) ((xs.drop (2 * j)).take 23) (List.range 23)).sum)
  (ys.map (clampTo (-32768, 32767)), ys.countP (fun y => decide (y < -32768 ∨ 32767 < y)))

/-- The stages with these shifts, one after another. -/
def tapStages : List Nat → List Int → List Int × Nat
  | [], xs => (xs, 0)
  | k :: t, xs =>
    let a := tapStage k xs
    let r := tapStages t a.1
    (r.1, a.2 + r.2)

/-- Input samples that a capture of 16,384 outputs takes, the skew of channel 3 included (R693, R694). -/
def tapInputs (stages : Nat) : Nat := 16383 * 2 ^ stages + 22 * (2 ^ stages - 1) + 4

/-- The capture from the source's words, four 16-bit samples each: channel c starts c input samples after channel 0 (R693, R694). -/
def State.tapCapture (s : State) (words : List (BitVec 64)) : List (BitVec 64) × Nat :=
  let shifts := (List.range (s.get Reg.TAP_CFG_STAGES)).map (fun k => bitsOf (s.get Reg.TAP_SHIFT_SHIFT) (2 * k) 2)
  let ch (c : Nat) : List Int × Nat := tapStages shifts (((words.drop c).take (words.length - 3)).map (fun w => sint 16 (bitsOf w.toNat (16 * c) 16)))
  let a := ch 0
  let b := ch 1
  let c := ch 2
  let d := ch 3
  let word (i : Nat) : BitVec 64 :=
    BitVec.ofNat 64 (twos 16 (a.1.getD i 0) + 2 ^ 16 * twos 16 (b.1.getD i 0) + 2 ^ 32 * twos 16 (c.1.getD i 0) + 2 ^ 48 * twos 16 (d.1.getD i 0))
  ((List.range 16384).map word, a.2 + b.2 + c.2 + d.2)

/-- TAP_CAPTURE_DONE: 16,384 output samples are in the buffer, made of the words that have passed at the source since the start, `words`,
and before it as far as the filters reach back, `runIn` (R692–R695; log entry 77). -/
def execTapCaptureDone (runIn words : List (BitVec 64)) (s : State) : Out :=
  match s.tap.hit with
  | none => .next s
  | some (t, d) =>
    let k := s.get Reg.TAP_CFG_STAGES
    if !s.flag Reg.TAP_STATUS_CAPTURING || runIn.length ≠ 22 * (2 ^ k - 1) ||
        runIn.length + words.length ≠ tapInputs k || s.clock < t + 16384 * 13000000 / max 1 s.tapOut then .next s
    else
      let c := s.tapCapture (runIn ++ words)
      let delay := 11 * (2 ^ k - 1) * 13000000 / max 1 (s.tapIn s.mode)
      let ns := (d - delay) / 13
      let s1 := ((s.withTap { hit := none, buf := c.1 }).set Reg.TAP_STATUS_CAPTURING 0).set Reg.TAP_STATUS_DONE 1
      let s2 := ((s1.set Reg.TAP_STATUS_FILL 16384).set Reg.TAP_EVENTS_DONE 1).set Reg.TAP_T0_T ns 0 0
      let s3 := s2.set Reg.TAP_T0_T (ns / 2 ^ 32) 0 1
      done s (if c.2 = 0 then s3 else (s3.bump Cnt.TAP_SAT 0 0 c.2).set Reg.TAP_EVENTS_SAT 1)

/-! ### GPIO edges (R676, R684, R695) -/

/-- GPIO_EDGE: the level of a pin changes. -/
def execGpioEdge (pin : Fin 16) (level : Bool) (s : State) : Out :=
  let p := pin.val
  if s.pinLevel p = level then .next s
  else
    let e := s.get Reg.GPIO_CFG_EDGE p
    let s1 := s.set Reg.GPIO_IN_IN (putBits (s.get Reg.GPIO_IN_IN) p 1 (b2n level))
    let s2 := if e = 3 || (e = 1 && level) || (e = 2 && !level) then
        s1.set Reg.GPIO_EVENTS_EDGE (putBits (s1.get Reg.GPIO_EVENTS_EDGE) p 1 1) else s1
    let s3 := if s.flag Reg.GAUGE_CFG_EN && s.get Reg.GAUGE_CFG_TRIG_SRC = 2 && s.get Reg.GAUGE_CFG_TRIG_GPIO = p && s.flag Reg.GAUGE_CFG_TRIG_EDGE = !level
      then s2.gaugeTrigger.1 else s2
    done s (if s.get Reg.TAP_CFG_TRIG = 2 && s.get Reg.TAP_CFG_TRIG_GPIO = p && s.flag Reg.TAP_CFG_TRIG_EDGE = !level then s3.tapHit else s3)

/-! ### Device seconds and telemetry (R599, R641, R643, R702, R706) -/

/-- The worst furrow by SNR among the enabled processed ones: its SNR and index; 0xFFFF and 0xFF where none is valid. -/
def State.worstSnr (s : State) : Nat × Nat :=
  (s.processed.filter (fun f => s.flag Reg.FR_RX_CTRL_EN f)).foldl (fun (b : Nat × Nat) f =>
    if s.get Reg.FR_SNR_SNR f < b.1 then (s.get Reg.FR_SNR_SNR f, f) else b) (0xFFFF, 0xFF)

/-- The growth of a counter since the last TELEMETRY record. -/
def State.telemDelta (s : State) (c : Ctr) (i : Nat) : Nat := (Int.ofNat (s.count c i) - tget 0 s.logs.telemBase (c.addr i 0)).toNat

/-- The next period begins. -/
def State.telemRestart (s : State) : State :=
  let put (s : State) (c : Ctr) (i : Nat) : State :=
    { s with logs := { s.logs with telemBase := tput 0 s.logs.telemBase (c.addr i 0) (Int.ofNat (s.count c i)) } }
  let s1 := (List.range 32).foldl (fun s f => put s Cnt.CW_UNCORR f) s
  let s2 := put (put s1 Cnt.SWITCHES 0) Cnt.REF_SWITCHES 0
  s2.withGauge { s2.gau with hot := 0 }

/-- A TELEMETRY record (R706). -/
def State.telemetry (s : State) : State :=
  let fs := s.processed.filter (fun f => s.flag Reg.FR_RX_CTRL_EN f)
  let ber := if fs.isEmpty then 0xFFFFFFFF else (fs.map (fun f => s.get Reg.FR_PREFEC_BER_BER f)).foldl max 0
  let unc := ((List.range 32).map (fun f => s.telemDelta Cnt.CW_UNCORR f)).sum
  let act := if s.mode = 1 then ((List.range 1024).filter (fun l => s.leafState l == 4)).length else 0
  let data := [1, BitVec.ofNat 8 s.mode, BitVec.ofNat 8 s.dpll,
      BitVec.ofNat 8 (if s.flag Reg.PROT_CFG_EN then s.get Reg.PROT_STATUS_SEL else 0xFF)] ++
    bytes 2 (s.get Reg.LINE_OSNR_OSNR) ++ bytes 2 s.worstSnr.1 ++ [BitVec.ofNat 8 s.worstSnr.2,
      BitVec.ofNat 8 ((List.range 32).filter (fun f => s.flag Reg.FR_STATUS_CAR_LOCK f)).length] ++
    bytes 4 (s.get Reg.LINE_CD_EST_CD) ++ bytes 4 ber ++ bytes 4 (min unc 0xFFFFFFFF) ++ bytes 2 s.gau.hot ++ bytes 2 act ++
    bytes 2 (s.get Reg.BR_STATUS_REGISTERED) ++ bytes 2 (min 0xFFFF (s.telemDelta Cnt.SWITCHES 0)) ++ bytes 2 (min 0xFFFF (s.telemDelta Cnt.REF_SWITCHES 0))
  (s.log wbLog 0xA0 data).telemRestart

/-- TIME_SECOND_BOUNDARY: device time has reached a whole second (R599, R641, R643, R702). -/
def execTimeSecondBoundary (s : State) : Out :=
  if s.devSec ≤ s.tim.second then .next s
  else
    let s1 := s.applySets
    let s2 := { s1 with tim := { s1.tim with second := s1.devSec } }
    let s3 := (List.range 2).foldl (fun s t => if s.flag Reg.TL_CFG_TX_EN t then s.bump Cnt.MARKS_TX t else s) s2
    let p := s.get Reg.LOG_TELEM_PERIOD_S
    done s (if p ≠ 0 && s3.devSec % p = 0 then s3.telemetry else s3)

/-! ### Staged settings -/

/-- What the staged commands of this chapter set. -/
def applyMonitor (c : Staged) (s : State) : State :=
  let p := c.payload
  if c.op = 0x0140 then (setWord s 0x30000 0xFFFFFF (u32 p 0)).setReg 0x30004 (BitVec.ofNat 32 (u32 p 4))
  else if c.op = 0x0141 then setWord s (0x30400 + 0x10 * u8 p 0) 0x1FFF0FFF (u32 p 4)
  else if c.op = 0x0145 then setWord (setWord s 0x38000 0x3FFFF (u32 p 0)) 0x38004 0xFFFFFF (u32 p 4)
  else if c.op = 0x0148 then s.set Reg.LOG_TELEM_PERIOD_S (u8 p 0)
  else s

/-- The part of a commit boundary in Gauge, tap and drain log (R703; log entry 78). -/
def State.monitorBoundary (old s : State) : State :=
  let s1 := if s.flag Reg.GAUGE_CFG_EN then s else s.set Reg.GAUGE_STATUS_PENDING 0
  let s2 := if old.reg 0x30000 = s.reg 0x30000 then s1 else s1.withGauge { s1.gau with lastTrig := s.clock }
  let changed := old.reg 0x38000 ≠ s.reg 0x38000 || old.reg 0x38004 ≠ s.reg 0x38004
  let s3 := if changed && s.flag Reg.TAP_STATUS_CAPTURING then
      ((s2.withTap {}).set Reg.TAP_STATUS_CAPTURING 0).setReg 0x38010 0 else s2
  let s4 := s3.set Reg.TAP_RATE_KSPS s3.tapOut
  let s5 := (List.range 32).foldl (fun s c =>
    if s.flag Reg.CH_LIMIT_LIMIT_EN c then s else s.withGauge { s.gau with limit := s.gau.limit.filter (· != c) }) s4
  if old.get Reg.LOG_TELEM_PERIOD_S = 0 && s.get Reg.LOG_TELEM_PERIOD_S ≠ 0 then s5.telemRestart else s5

/-- The rules of this chapter that fail validation (R692, R704). -/
def monitorChecks : List Check := [
  { rule := 692
    bad := fun _ _ n =>
      let k := n.get Reg.TAP_CFG_STAGES
      decide (12 < k) || decide (k < n.leastStages (n.get Reg.MODE_CTRL_MODE))
    reads := opIn [0x0145, 0x0301, 0x0120] }] ++
  (List.range 32).map (fun c =>
    { rule := 704, bad := fun _ _ n => decide (n.get Reg.CH_LIMIT_HI c < n.get Reg.CH_LIMIT_LO c)
      reads := fun x => x.op == 0x0141 && u8 x.payload 0 == c })

/-! ### Commands -/

/-- GAUGE_CFG_SET, staged (R707, R708). -/
def execGaugeCfgSet (mb : Fin 8) (s : State) : Out := stage mb.val 0x0140 (fun _ => [(.gauge, 0)]) s

/-- GAUGE_LIMIT_SET, staged (R707, R708). -/
def execGaugeLimitSet (mb : Fin 8) (s : State) : Out := stage mb.val 0x0141 (fun _ => [(.gauge, 0)]) s

/-- GAUGE_TRIGGER (R684, R685, R703). -/
def execGaugeTrigger (mb : Fin 8) (s : State) : Out :=
  act mb.val 0x0142 s (fun _ s =>
    if !s.flag Reg.GAUGE_CFG_EN then (s, err cDENIED)
    else
      let r := s.gaugeTrigger
      (r.1, if r.2 = 0 then err cBUSY else okD [BitVec.ofNat 8 r.2, 0, 0, 0]))

/-- GAUGE_URGENT: one conversion at once, its code in the answer, or BUSY (R686). -/
def execGaugeUrgent (mb : Fin 8) (s : State) : Out :=
  actLong mb.val 0x0143 s (fun p s =>
    if !s.flag Reg.GAUGE_CFG_EN then (s, some (err cDENIED))
    else if s.gaugeBusy then ((s.bump Cnt.URGENT_DROPS).set Reg.GAUGE_EVENTS_URGENT_DROP 1, some (err cBUSY))
    else
      (((s.withGauge { s.gau with chans := [u8 p 0], start := s.clock, urgent := some mb.val }).set Reg.GAUGE_STATUS_RUNNING 1).set
        Reg.GAUGE_STATUS_CHANNEL (u8 p 0), none))

/-- GAUGE_READ: accumulators and trackers of the channels named, restarted with CLEAR (R688). -/
def execGaugeRead (mb : Fin 8) (s : State) : Out :=
  act mb.val 0x0144 s (fun p s =>
    let cs := maskList (u32 p 0) 32
    let data := cs.flatMap (fun c => wordBytes [s.reg (0x30404 + 0x10 * c), s.reg (0x30408 + 0x10 * c), s.reg (0x3040C + 0x10 * c)])
    let s1 := if u8 p 4 = 1 then
        cs.foldl (fun s c => ((s.setReg (0x30404 + 0x10 * c) 0).setReg (0x30408 + 0x10 * c) 0).setReg (0x3040C + 0x10 * c) 0xFFF) s
      else s
    (s1, okD data))

/-- TAP_CFG_SET, staged (R707, R708). -/
def execTapCfgSet (mb : Fin 8) (s : State) : Out := stage mb.val 0x0145 (fun _ => [(.tap, 0)]) s

/-- TAP_ARM: BUSY while armed or capturing, DENIED where the source does not run (R695, R703). -/
def execTapArm (mb : Fin 8) (s : State) : Out :=
  act mb.val 0x0146 s (fun _ s =>
    if s.flag Reg.TAP_STATUS_ARMED || s.flag Reg.TAP_STATUS_CAPTURING then (s, err cBUSY)
    else if s.tapAbsent then (s, err cDENIED)
    else
      let s1 := (s.withTap {}).setReg 0x38010 1
      (if s.get Reg.TAP_CFG_TRIG = 0 then s1.tapHit else s1, ok))

/-- TAP_READ: INVALID for samples beyond FILL (R707). -/
def execTapRead (mb : Fin 8) (s : State) : Out :=
  report mb.val 0x0147 s (fun p s =>
    if s.get Reg.TAP_STATUS_FILL < u16 p 0 + u16 p 2 then { code := cINVALID, index := 1 }
    else okD (((s.tap.buf.drop (u16 p 0)).take (u16 p 2)).flatMap (fun (w : BitVec 64) => bytes 8 w.toNat)))

/-- LOG_TELEM_SET, staged (R707, R708). -/
def execLogTelemSet (mb : Fin 8) (s : State) : Out := stage mb.val 0x0148 (fun _ => [(.telem, 0)]) s

/-- LOG_STATUS_GET (R707). -/
def execLogStatusGet (mb : Fin 8) (s : State) : Out :=
  report mb.val 0x0149 s (fun _ s => okD (wordBytes [s.readWord 0x40010, s.reg 0x40000, s.reg 0x40020, s.reg 0x40024, s.reg 0x40028, s.reg 0x4002C, s.reg 0x40030]))

/-- The payload rows of R707. -/
def payloadsMonitor : List PayloadRow := [
  ⟨0x0140, .fix 8, [.bits 0 8 16 1 65535]⟩,
  ⟨0x0141, .fix 8, [.num 0 1 0 31, .zero 1 3]⟩,
  ⟨0x0142, .fix 0, []⟩,
  ⟨0x0143, .fix 4, [.num 0 1 0 31, .zero 1 3]⟩,
  ⟨0x0144, .fix 8, [.num 0 4 1 0xFFFFFFFF, .num 4 1 0 1, .zero 5 3]⟩,
  ⟨0x0145, .fix 8, [.bits 0 0 2 0 2, .bits 0 11 2 0 2]⟩,
  ⟨0x0146, .fix 0, []⟩,
  ⟨0x0147, .fix 4, [.num 2 2 1 126]⟩,
  ⟨0x0148, .fix 4, [.zero 1 3]⟩,
  ⟨0x0149, .fix 0, []⟩]

end Sys2Proof.Machine
end

