-- ==== Sys2Proof/Machine/Perf.lean ====
section
/-! DEFINITION. Performance counters: what each fabric cycle counts, the tagging of instructions, and the commands (R709–R725). -/

namespace Sys2Proof.Machine

/-! ### What a fabric cycle counts (R711, R712) -/

/-- The task at the head of the queue finds no free thread, and none was dispatched in cycle `c`. -/
def State.starved (s : State) (c : Nat) : Bool :=
  s.eng.dispCycle != c + 1 && (match s.eng.taskQ with
    | [] => false
    | id :: _ => match s.pkt id with
      | some p => (s.pickThread p.gen).isNone
      | none => false)

/-- The thread's next instruction waits in cycle `c` for a register that a load (1) or an atom (2) gives. -/
def State.waitsFor (s : State) (lat : Nat) (k : Task) (c kind : Nat) : Bool :=
  let w := imgWord (s.latImage lat) k.pc
  !k.waiting && decide (k.fetchAt ≤ c) &&
    ((srcRegs w).any (fun r => (tget (0, 0) k.ready r).2 == kind && decide (c < (tget (0, 0) k.ready r).1)) ||
      (kind == 2 && insOp w == 0x3F && k.atomAt != 0 && decide (c < k.atomAt + 1)))

/-- Cycle `c` of a lateral's clock. -/
def State.latCycle (s : State) (lat c : Nat) : State :=
  if s.reg (0x601000 + 0x40 * lat) = 0 then s
  else
    let ks := s.latTasks lat
    let es := (List.range 16).map (fun i => 16 * lat + i)
    let quiet := es.filter (fun e => tget 0 s.eng.lastIssue e != c + 1)
    let busy := quiet.filter (fun e => ks.any (fun x => x.1 / 8 == e))
    let n (f : Task → Bool) : Nat := (ks.filter (fun x => f x.2)).length
    let s1 := ((s.perfLat lat 1 1).perfLat lat 3 busy.length).perfLat lat 4 (quiet.length - busy.length)
    ((s1.perfLat lat 5 (n (fun k => s.waitsFor lat k c 1))).perfLat lat 6 (n (fun k => k.waiting))).perfLat lat 7 (n (fun k => s.waitsFor lat k c 2))

/-- Fabric cycle `c` has passed: an ACTION lateral that loop 5 gates has had none (R43, R761). -/
def State.fabricCycle (s : State) (c : Nat) : State :=
  let s1 := s.perfDev 1 1
  let s2 := if s.starved c then s1.perfDev 4 1 else s1
  let gated := cycleGated (s.get Reg.PWR_STATUS_FRACTION) c
  (List.range 32).foldl (fun s lat =>
    let k := tget 0 s.eng.held lat
    if gated && s.get Reg.LAT_CTRL_ROLE lat == 0 then { s with eng := { s.eng with held := tput 0 s.eng.held lat (k + 1) } }
    else s.latCycle lat (c - k)) s2

/-- Elapsed time moves on by 1 ns; the fabric cycles that pass are counted (log entry 1). -/
def State.tick (s : State) : State :=
  let t := { s with clock := s.clock + 13 }
  (List.range (t.cycle - s.cycle)).foldl (fun u i => u.fabricCycle (s.cycle + i)) t

/-! ### Tagging (R716, R719) -/

/-- The task whose instruction an armed sampler tags: the first to become a thread's next instruction since cycle `a`, lower engines and threads
first. -/
def State.tagCandidate (s : State) (lat a : Nat) : Option (Nat × Task) :=
  ((s.latTasks lat).filter (fun x => !x.2.waiting && decide (a ≤ x.2.fetchAt) && decide (x.2.fetchAt ≤ s.latNow lat))).foldl
    (fun (b : Option (Nat × Task)) x =>
      match b with
      | none => some x
      | some y => if x.2.fetchAt < y.2.fetchAt || (x.2.fetchAt = y.2.fetchAt && x.1 < y.1) then some x else b) none

/-- The tag on a thread's next instruction; a task of no packet that is held records program 0xFFF and turnout 0. -/
def State.newTag (s : State) (lat : Nat) (x : Nat × Task) : SampTag :=
  let k := x.2
  let p := s.pkt k.pkt
  let back := s.clock - ((k.fetchAt + tget 0 s.eng.held lat) * 65 + 7) / 8
  { engine := x.1 / 8, thread := x.1 % 8, pc := k.pc, opcode := insOp (imgWord (s.latImage lat) k.pc)
    ordered := (p.map (fun q => q.ordered)).getD false
    prog := if p.isSome then k.prog else 0xFFF, domain := (p.map (fun q => q.turnout)).getD 0, num := (p.map (fun q => q.num)).getD 0
    fetch := k.fetchAt, fetchNs := (s.devTime - back) / 13 }

/-- SAMPLE_TAG: the sampling interval of a lateral has ended, and an instruction becomes a thread's next (R716). -/
def execSampleTag (lateral : Fin 32) (s : State) : Out :=
  let lat := lateral.val
  let x := s.sampler lat
  match x.tag, x.armedAt with
  | none, some a =>
    if !s.samplerOn lat then .next s
    else match s.tagCandidate lat a with
      | some c => done s (s.setSampler lat { x with tag := some (s.newTag lat c), armedAt := none })
      | none => .next s
  | _, _ => .next s

/-! ### Staged settings -/

/-- Laterals that byte 0 names: one, or all with 0xFF. -/
def latList (b : Nat) : List Nat := if b = 0xFF then List.range 32 else [b]

/-- What the staged commands of this chapter set. -/
def applyPerf (c : Staged) (s : State) : State :=
  let p := c.payload
  if c.op = 0x0150 then
    let s1 := setWord (setWord (setWord (setWord s 0x600000 0x7F (u32 p 0)) 0x600004 0xFFFFFFFF (u32 p 4)) 0x600008 0xFFFFFFFF (u32 p 8)) 0x60000C 0x7FF (u32 p 12)
    (List.range 8).foldl (fun s i => s.set Reg.DC_SEL_EVENT (u8 p (16 + i)) i) s1
  else if c.op = 0x0151 then (latList (u8 p 0)).foldl (fun s k => setWord s (0x601000 + 0x40 * k) 0x1F1F1F1F (u32 p 4)) s
  else s

/-- The part of a commit boundary in the performance block (R717). -/
def State.perfBoundary (old s : State) : State :=
  let changed := old.get Reg.SAMPLE_SEED_SEED ≠ s.get Reg.SAMPLE_SEED_SEED || old.get Reg.LAT_MASK_MASK ≠ s.get Reg.LAT_MASK_MASK ||
    old.get Reg.PERF_SAMPLE_CFG_PERIOD_LOG2 ≠ s.get Reg.PERF_SAMPLE_CFG_PERIOD_LOG2
  (if changed then s.reloadSamplers else s).refreshSampling

/-- The rules of this chapter that fail validation (R711, R712, R717). -/
def perfChecks : List Check := [
  { rule := 711, bad := fun _ _ n => (List.range 8).any (fun i => decide (13 < n.get Reg.DC_SEL_EVENT i)), reads := opIn [0x0150] },
  { rule := 712, bad := fun _ _ n => (List.range 32).any (fun k => (List.range 4).any (fun j => decide (11 < n.get (lcSel j) k))), reads := opIn [0x0151] },
  { rule := 717, bad := fun _ _ n => n.get Reg.SAMPLE_SEED_SEED == 0, reads := opIn [0x0150] }]

/-! ### Commands -/

/-- PERF_CFG_SET, staged (R724, R725). -/
def execPerfCfgSet (mb : Fin 8) (s : State) : Out := stage mb.val 0x0150 (fun _ => [(.perf, 0)]) s

/-- PERF_LAT_CFG_SET, staged (R724, R725). -/
def execPerfLatCfgSet (mb : Fin 8) (s : State) : Out := stage mb.val 0x0151 (fun _ => [(.perf, 0)]) s

/-- A counter and its saturated flag return to 0 (R710). -/
def State.perfZero (s : State) (c : Ctr) (i j : Nat) : State := (s.setReg (c.addr i j) 0).setReg (c.addr i j + 4) 0

/-- PERF_CLEAR: INVALID when nothing is named (R710, R724). -/
def execPerfClear (mb : Fin 8) (s : State) : Out :=
  act mb.val 0x0152 s (fun p s =>
    let dev := bitsOf (u8 p 4) 0 1 = 1
    if u32 p 0 = 0 && !dev then (s, { code := cINVALID, index := 1 })
    else
      let s1 := if dev then (List.range 8).foldl (fun s i => s.perfZero Cnt.DC i 0) s else s
      ((maskList (u32 p 0) 32).foldl (fun s k => (List.range 4).foldl (fun s j => s.perfZero Cnt.LC k j) s) s1, ok))

/-- PERF_SAMPLE_READ: the oldest records are removed and returned (R721, R724). -/
def execPerfSampleRead (mb : Fin 8) (s : State) : Out :=
  act mb.val 0x0153 s (fun p s =>
    let out := s.perf.records.take (u8 p 0)
    let rest := s.perf.records.drop (u8 p 0)
    ({ s with perf := { s.perf with records := rest } }.set Reg.PERF_STATUS_FILL rest.length,
      okD (bytes 1 out.length ++ bytes 2 rest.length ++ [0] ++ out.flatMap wordBytes)))

/-- A counter, or its shadow, in the layout of R714. -/
def State.perfBytes (s : State) (a : Nat) : List Byte :=
  let hi := (s.reg (a + 4)).toNat
  bytes 8 ((s.reg a).toNat + 2 ^ 32 * bitsOf hi 0 16 + 2 ^ 63 * bitsOf hi 31 1)

/-- PERF_COUNTERS_GET (R724). -/
def execPerfCountersGet (mb : Fin 8) (s : State) : Out :=
  report mb.val 0x0154 s (fun p s =>
    let sh := bitsOf (u8 p 1) 0 1
    if u8 p 0 = 0xFF then okD ((List.range 8).flatMap (fun i => s.perfBytes (Cnt.DC.addr i 0 + sh * Cnt.DC.shadow)))
    else okD ((List.range 4).flatMap (fun j => s.perfBytes (Cnt.LC.addr (u8 p 0) j + sh * Cnt.LC.shadow)) ++ List.replicate 32 0))

/-- The payload rows of R724. -/
def payloadsPerf : List PayloadRow := [
  ⟨0x0150, .fix 24, [.bits 0 2 5 8 20, .bits 12 0 11 1 1024] ++ (List.range 8).map (fun i => .num (16 + i) 1 0 31)⟩,
  ⟨0x0151, .fix 8, [.among 0 1 (List.range 32 ++ [0xFF]), .zero 1 3]⟩,
  ⟨0x0152, .fix 8, [.zero 5 3]⟩,
  ⟨0x0153, .fix 4, [.num 0 1 1 31, .zero 1 3]⟩,
  ⟨0x0154, .fix 4, [.among 0 1 (List.range 32 ++ [0xFF]), .zero 2 2]⟩]

end Sys2Proof.Machine
end

