-- ==== Sys2Proof/Machine/Plane.lean ====
section
/-! DEFINITION. The coherent blocks as a whole: held in reset with their clocks stopped, running again, left in their reset state by a self-test
(R43, R120, R618, R737, R762). -/

namespace Sys2Proof.Machine

/-! ### Converters off and on (R120) -/

/-- No slice of ADC `a` is powered; the faulty marks stay (R100, R113). -/
def State.adcOff (s : State) (a : Nat) : State :=
  let t := (s.abandonCal a).putMap a (mapOf 0 [] ((List.range 65).filter (fun k => s.sliceByte a k / 64 == 3))) none
  ((t.setAdc a { t.adc a with change := none }).set Reg.ADC_STATUS_SPARE_LOST 0 a).set Reg.ADC_STATUS_STATE 0 a

/-- Every converter is OFF: steps, rotations and a foreground calibration end; a CAL_FOREGROUND that runs is answered DENIED (log entry 81). -/
def State.convOff (s : State) : State :=
  let s1 := (List.range 4).foldl (fun s a => (s.adcOff a).set Reg.DAC_STATUS_STATE 0 a) s
  match s1.conv.fg with
  | none => s1
  | some fg =>
    let s2 := { s1 with conv := { s1.conv with fg := none } }
    match fg.mb with
    | some mb => s2.finish mb (err cDENIED)
    | none => s2

/-- A converter is OFF. -/
def State.convsOff (s : State) : Bool := (List.range 4).any (fun d => s.get Reg.ADC_STATUS_STATE d == 0 || s.get Reg.DAC_STATUS_STATE d == 0)

/-- A change of mode abandons the steps, the requests and a foreground calibration (R121, R125). -/
def State.convAbandon (s : State) : State :=
  let s1 := (List.range 4).foldl State.abandonCal s
  match s1.conv.fg with
  | some { adcMask := _, dacMask := _, start := _, mb := some mb } => ({ s1 with conv := { s1.conv with fg := none } }).finish mb (err cDENIED)
  | _ => s1

/-! ### Registers of held blocks (R618) -/

/-- Status words that show what a held block keeps: context records (every context stays QUENCHED), the page of the committed TSI mapping, slice maps, the
serials of provisioned leaves (log entry 80). -/
def State.keepsStatus (s : State) (a : Nat) : Bool :=
  decide (0x1B0000 ≤ a ∧ a < 0x1B8000) || a == 0x180010 || inArray 0x100080 0x1000 4 4 17 a ||
    (inArray 0x480008 0x40 1024 4 2 a && (s.leafInfo ((a - 0x480000) / 0x40)).provisioned)

/-- Status bits that a block shows again once it runs: key slots, image in force and staged image, use of the flow table, profiles. -/
def shelfBits (a : Nat) : Nat :=
  if (0x1A1000 ≤ a ∧ a < 0x1A2000) ∨ a = 0x580004 ∨ a = 0x580008 ∨ a = 0x1A0010 ∨ a = 0x200010 then 0xFFFFFFFF
  else if inArray 0x480000 0x40 1024 0 1 a then 0x20
  else 0

/-- A word with the bits of `keep` kept and the others at their reset value. -/
def heldWord (keep : RegDesc → Nat) (other : Word) (a : Nat) (w : Word) : Word :=
  match findDesc regDescs a with
  | none => other
  | some d => BitVec.ofNat 32 ((w.toNat &&& keep d) ||| ((resetWord a).toNat &&& (0xFFFFFFFF ^^^ keep d)))

/-- The register words after `f` has gone over those of the coherent blocks whose status is not kept, in canonical form. -/
def State.holdRegs (s : State) (f : Nat → Word → Word) : Tab Word :=
  (s.regs.map (fun e => if gatedAddr e.1 && !s.keepsStatus e.1 then (e.1, f e.1 e.2) else e)).filter (fun e => e.2 ≠ resetWord e.1)

/-- What leaf entries keep: that the host provisioned them, and CD_HINT. -/
def keptLeaves (t : Tab LeafInfo) : Tab LeafInfo :=
  (t.map (fun e => (e.1, ({ provisioned := e.2.provisioned, cdHint := e.2.cdHint } : LeafInfo)))).filter (fun e => e.2 ≠ {})

/-- The buffers, timers and work of the coherent blocks are gone; tables and memories keep their contents. -/
def State.clearPlane (s : State) : State :=
  let p := s.pk
  { s with
    conv := { s.conv with adcs := (s.conv.adcs.map (fun e => (e.1, ({ slices := e.2.slices, taps := e.2.taps } : AdcState)))).filter (fun e => e.2 ≠ {}) }
    rx := {}
    burst := { leaves := keptLeaves s.burst.leaves }
    self := {}
    tx := { hostSquelch := s.tx.hostSquelch, pllLost := s.tx.pllLost, measure := s.tx.measure }
    fec := []
    frm := { mfn := s.frm.mfn, started := s.frm.started, fn := s.frm.fn, lastFrame := s.frm.lastFrame, lastMf := s.frm.lastMf }
    tsi := {}
    pk := { next := p.next, flows := p.flows, terns := p.terns, nextHandle := p.nextHandle, sent := p.sent, parcels := p.parcels, bar2 := p.bar2
            bar2Ep := p.bar2Ep }
    eng := { s.eng with taskQ := [], tasks := [], ended := [], latLast := [], roleNew := [], rr := 0, lastIssue := [], holdMb := none }
    perf := { s.perf with samplers := s.perf.samplers.map (fun e => (e.1, { e.2 with tag := none })) |>.filter (fun e => e.2 ≠ {}) }
    cip := { s.cip with turnouts := [] }
    sys := { s.sys with quench := s.sys.quench.filter (fun e => e.1 / 4096 == 4) } }

/-- ENG_LAT_HOLD that waits is answered: its lateral has been quenched. -/
def State.endHold (s : State) : State :=
  match s.eng.holdMb with
  | some (mb, _) => s.finish mb ok
  | none => s

/-- FAULTY counts the marks that SLICE_MAP keeps (R113, R133). -/
def State.countFaulty (s : State) : State := (List.range 4).foldl (fun s a => s.set Reg.ADC_STATUS_FAULTY (s.faultyCount a) a) s

/-- The coherent blocks are held in reset with their clocks stopped (R618, R762): TX fields, latched events and counters stay, status reads its reset
values. -/
def State.gatePlane (s : State) : State :=
  if s.sys.gated then s
  else
    let s0 := s.convOff.endHold
    let shelf := (s0.regs.filterMap (fun e =>
      let v := e.2 &&& BitVec.ofNat 32 (shelfBits e.1)
      if v = 0 then none else some (e.1, v)))
    let regs := s0.holdRegs (fun a w => heldWord (fun d => d.tx ||| d.rw ||| d.w1c) w a w)
    let s1 := ({ s0 with regs := regs }).clearPlane.countFaulty
    { s1 with sys := { s1.sys with gated := true, shelf := shelf } }

/-- The status that follows the committed configuration once the blocks run: entropies, rates, rills, frame lengths, pipes, leaves (R181, R264, R345). -/
def State.followConfig (s : State) : State :=
  let s1 := (List.range 32).foldl (fun (s : State) (f : Nat) =>
    let a := (s.applyEntropy f (s.get Reg.FR_RX_CTRL_ENTROPY f)).refreshCarried f
    let b := a.set Reg.FEC_FR_STATUS_RATE_NOW (s.get Reg.FR_RX_CTRL_RATE_SEL f) f
    (b.set Reg.TXF_STATUS_H_TX_NOW (s.get Reg.TXF_CTRL_ENTROPY f) f).refreshLen f) s
  (s1.refreshPipes).refreshLeaves

/-- The coherent blocks run again (R81 step 3). -/
def State.ungatePlane (s : State) : State :=
  if !s.sys.gated then s
  else
    let s1 := s.sys.shelf.foldl (fun (s : State) (e : Nat × Word) => s.setReg e.1 (s.reg e.1 ||| e.2)) s
    let s2 := { s1 with sys := { s1.sys with gated := false, shelf := [] } }
    (s2.set Reg.TERN_STATUS_TERN_USED s2.ternUsed).followConfig

/-- What a logic self-test leaves (R737): every coherent block in its reset state, with its TX fields as committed and its counters at 0. -/
def State.resetPlane (s : State) : State :=
  let s0 := s.convOff.endHold
  let regs := s0.holdRegs (fun a w => heldWord (fun d => d.tx) (resetWord a) a w)
  let s1 := ({ s0 with regs := regs.filter (fun e => !decide (0x1B0000 ≤ e.1 ∧ e.1 < 0x1B8000) && !inArray 0x100080 0x1000 4 4 17 e.1) }).clearPlane
  let pol := (s1.hg.policers.map (fun e => (e.1, ({ cfg := e.2.cfg, c := e.2.c, p := e.2.p, last := e.2.last } : Policer)))).filter (fun e => e.2 ≠ {})
  let s2 := { s1 with
    conv := { s1.conv with adcs := [] }
    pk := { s1.pk with flows := [], parcels := [], sent := [], bar2 := [], bar2Ep := false }
    eng := {}
    hg := { policers := pol }
    cip := { keys := [], salts := [], turnouts := [], bus := s1.cip.bus, busSince := s1.cip.busSince } }
  ((s2.showOtp.set Reg.TERN_STATUS_TERN_USED s2.ternUsed).applyPowered s2.mode s2.profile).followConfig.refreshArmed

end Sys2Proof.Machine
end

