-- ==== Sys2Proof/Machine/TestSec.lean ====
section
/-! DEFINITION. Test access, one-time programmable fields, self-test and the control of fault injectors (R726–R745). -/

namespace Sys2Proof.Machine

/-! ### Injectors (R739–R742) -/

/-- FI_TIMEOUT: TIMEOUT_S has expired. -/
def execFiTimeout (i : Fin 8) (s : State) : Out :=
  match s.injector i.val with
  | none => .next s
  | some x => if x.start + secT x.timeoutS ≤ s.clock then done s (s.fiStop i.val) else .next s

/-- FI_REORDER_IDLE: the scope has been idle for 10 µs and the held unit is sent (R740). -/
def execFiReorderIdle (i : Fin 8) (s : State) : Out :=
  match s.injector i.val with
  | none => .next s
  | some x => match x.held with
    | none => .next s
    | some h =>
      if s.clock < h.last + usT 10 then .next s
      else
        let s1 := s.setInjector i.val (some { x with held := none })
        done s ((if x.spent then s1.fiEnd i.val else s1).fiSend x h)

/-- A scope that cannot be injected: a turnout that is no client and no host packet port, a lane of FORMAT 0, REORDER on an Ethernet lane (R742, R743;
log entry 82). -/
def State.fiBad (s : State) (point target action : Nat) : Bool :=
  if point < 2 then !s.turnoutOn target
  else s.get Reg.LN_CFG_FORMAT target == 0 || (action == 3 && s.get Reg.LN_CFG_FORMAT target == 1)

/-- FI_START. -/
def execFiStart (mb : Fin 8) (s : State) : Out :=
  act mb.val 0x0A20 s (fun p s =>
    if s.get Reg.TEST_STATUS_LEVEL = 0 then (s, err cDENIED)
    else if u8 p 3 = 0 ∧ u64 p 8 = 0 then (s, err cINVALID)
    else if s.fiBad (u8 p 0) (u8 p 1) (u8 p 2) ∨ (s.fiAt (u8 p 0) (u8 p 1)).isSome then (s, err cINVALID)
    else match (List.range 8).find? (fun i => (s.injector i).isNone) with
      | none => (s, err cEXHAUSTED)
      | some i =>
        let x : Injector := { point := u8 p 0, target := u8 p 1, action := u8 p 2, n := u8 p 3, periodic := u8 p 4 == 1, count := u64 p 8,
                              depth := u8 p 5, timeoutS := u16 p 6, start := s.clock }
        let s1 := (s.setInjector i (some x)).bump Cnt.FI_STARTS
        ((s1.set Reg.TEST_STATUS_FI_MASK (putBits (s1.get Reg.TEST_STATUS_FI_MASK) i 1 1)).refreshFi, okD (bytes 4 i)))

/-- FI_STOP. -/
def execFiStop (mb : Fin 8) (s : State) : Out :=
  act mb.val 0x0A21 s (fun p s => (if u8 p 0 = 0xFF then s.fiStopAll else s.fiStop (u8 p 0), ok))

/-- FI_STATUS_GET. -/
def execFiStatusGet (mb : Fin 8) (s : State) : Out :=
  report mb.val 0x0A22 s (fun p s =>
    let a := 0x50200 + 0x20 * u8 p 0
    okD (wordBytes [s.readWord a, s.reg (a + 8), s.reg (a + 12)]))

/-! ### Access levels (R726–R731) -/

/-- The 16 bytes of DEVICE_UID (R744). -/
def uidBytes : List Byte := wordBytes ((List.range 4).map Config.deviceUid)

/-- The device is quiet (R735): no furrow enabled, every lane of FORMAT 0, no converter in SERVICE. -/
def State.quiet (s : State) : Bool :=
  (List.range 32).all (fun f => !s.flag Reg.FR_RX_CTRL_EN f && !s.flag Reg.TXF_CTRL_EN f) &&
    (List.range 24).all (fun l => s.get Reg.LN_CFG_FORMAT l == 0) &&
    (List.range 4).all (fun d => s.get Reg.ADC_STATUS_STATE d != 2 && s.get Reg.DAC_STATUS_STATE d != 2)

/-- The open challenge ends. -/
def State.endChallenge (s : State) : State := ({ s with test := { s.test with nonce := none } }).set Reg.TEST_STATUS_CHAL_VALID 0

/-- CHALLENGE_EXPIRE: 60 s have passed since the nonce was given. -/
def execChallengeExpire (s : State) : Out :=
  match s.test.nonce with
  | none => .next s
  | some (_, t) => if t + secT 60 ≤ s.clock then done s s.endChallenge else .next s

/-- TEST_CHALLENGE: a fresh nonce, which replaces an open one. -/
def execTestChallenge (mb : Fin 8) (s : State) : Out :=
  act mb.val 0x0A01 s (fun _ s =>
    if s.flag Reg.TEST_STATUS_UNLOCK_BLOCKED || s.test.otp.vendorDisable then (s, err cDENIED)
    else
      let r := s.free 727
      let n := bytes 32 r.1
      (({ r.2 with test := { r.2.test with nonce := some (n, s.clock) } }).set Reg.TEST_STATUS_CHAL_VALID 1, okD (n ++ uidBytes)))

/-- A level is entered or left: TEST_EVENTS.LEVEL_CHANGE (R731). -/
def State.setLevel (s : State) (l : Nat) : State :=
  if s.get Reg.TEST_STATUS_LEVEL = l then s else (s.set Reg.TEST_STATUS_LEVEL l).set Reg.TEST_EVENTS_LEVEL_CHANGE 1

/-- A failed unlock (R728). -/
def State.unlockFail (s : State) : State :=
  let n := s.test.fails + 1
  let s1 := (({ s with test := { s.test with fails := n } }).bump Cnt.UNLOCK_FAILS).set Reg.TEST_EVENTS_UNLOCK_FAIL 1
  if 3 ≤ n then s1.set Reg.TEST_STATUS_UNLOCK_BLOCKED 1 else s1

/-- The password method accepts: levels 1 and 2, and a password whose HMAC equals PW_HASH as loaded; while PW_HASH is blank, any password (R727). -/
def State.passwordOk (s : State) (level : Nat) (pw : List Byte) : Bool :=
  decide (level ≤ 2) && (match s.test.otp.loadedPw with
    | none => true
    | some h => hmacSha256 uidBytes pw == h)

/-- The vendor method accepts: an open challenge not yet expired, and a signature over nonce, DEVICE_UID and level (R727). -/
def State.vendorOk (s : State) (level : Nat) (sig : List Byte) : Bool :=
  match s.test.nonce with
  | some (n, t) => decide (s.clock < t + secT 60) && Config.vendorVerify (n ++ uidBytes ++ bytes 1 level) sig
  | none => false

/-- TEST_UNLOCK: the refusals of R727–R730, then the method decides. A vendor response uses up the challenge. -/
def execTestUnlock (mb : Fin 8) (s : State) : Out :=
  act mb.val 0x0A02 s (fun p s =>
    let level := u8 p 0
    let vendor := u8 p 1 = 1
    let pad := (List.range 96).find? (fun i => decide (u8 p 2 ≤ i) && u8 p (4 + i) != 0)
    if s.flag Reg.TEST_STATUS_UNLOCK_BLOCKED then (s, err cDENIED)
    else match (if vendor then none else pad) with
      | some i => (s, { code := cINVALID, index := i + 5 })
      | none =>
        if level ≤ s.get Reg.TEST_STATUS_LEVEL then (s, ok)
        else if (s.test.otp.debugDisable ∧ 2 ≤ level) ∨ (s.test.otp.vendorDisable ∧ vendor) then (s, err cDENIED)
        else if level = 3 ∧ !s.quiet then (s, err cBUSY)
        else
          let good := if vendor then s.vendorOk level (p.drop 4) else s.passwordOk level ((p.drop 4).take (u8 p 2))
          let s1 := if vendor then s.endChallenge else s
          if !good then (s1.unlockFail, err cDENIED)
          else
            let s2 := s1.setLevel level
            (if level = 3 then s2.zeroize else s2, ok))

/-- TEST_LOCK: back to level 0; injectors stop and an armed flip is disarmed (R731). -/
def execTestLock (mb : Fin 8) (s : State) : Out :=
  act mb.val 0x0A03 s (fun _ s =>
    let s1 := (s.setLevel 0).fiStopAll
    (if s1.flag Reg.FLIP_STATUS_ARMED then s1.disarmFlip else s1, ok))

/-- TEST_STATUS_GET. -/
def execTestStatusGet (mb : Fin 8) (s : State) : Out :=
  report mb.val 0x0A04 s (fun _ s => okD (wordBytes ([0x50010, 0x50050, 0x50060, 0x50020, 0x50024, 0x50028, 0x5002C].map s.readWord)))

/-! ### One-time programmable fields (R732, R733) -/

/-- A field is not blank. -/
def OtpState.written (o : OtpState) (f : Nat) : Bool :=
  match f with
  | 1 => o.rootKey.isSome
  | 2 => o.pwHash.isSome
  | 3 => o.debugDisable
  | _ => o.vendorDisable

/-- OTP_PROGRAM: a write takes 20 ms; while one runs another is BUSY (log entry 83). -/
def execOtpProgram (mb : Fin 8) (s : State) : Out :=
  actLong mb.val 0x0A05 s (fun p s =>
    if s.get Reg.TEST_STATUS_LEVEL = 0 then (s, some (err cDENIED))
    else if s.test.write.isSome then (s, some (err cBUSY))
    else if s.test.otp.written (u8 p 0) then (s, some (err cDENIED))
    else ({ s with test := { s.test with write := some ⟨mb.val, u8 p 0, (p.drop 4).take 32, s.clock⟩ } }, none))

/-- TEST_STATUS shows which fields are written; the lock bits act at once. -/
def State.showCells (s : State) : State :=
  let o := s.test.otp
  (((s.set Reg.TEST_STATUS_OTP_ROOT (b2n o.rootKey.isSome)).set Reg.TEST_STATUS_OTP_PW (b2n o.pwHash.isSome)).set
    Reg.TEST_STATUS_DEBUG_DISABLE (b2n o.debugDisable)).set Reg.TEST_STATUS_VENDOR_DISABLE (b2n o.vendorDisable)

/-- OTP_WRITE_DONE: the 20 ms write and its read-back have ended; a failed one leaves the field partly written (R733). -/
def execOtpWriteDone (verified : Bool) (s : State) : Out :=
  match s.test.write with
  | none => .next s
  | some w =>
    if s.clock < w.start + msT 20 then .next s
    else
      let o := s.test.otp
      let o1 := if !verified then cutWrite s.fresh (some w) o
        else match w.field with
          | 1 => { o with rootKey := some w.value }
          | 2 => { o with pwHash := some w.value }
          | 3 => { o with debugDisable := true }
          | _ => { o with vendorDisable := true }
      let s1 := { s with fresh := if verified then s.fresh else s.fresh + 32, test := { s.test with write := none, otp := o1 } }
      done s (s1.showCells.finish w.mb (if verified then ok else err cTIMEOUT))

/-! ### Self-test (R734–R738) -/

/-- SELFTEST_RUN: KIND 1 takes its lateral out of dispatch as ENG_LAT_HOLD does (R542, R736). -/
def execSelftestRun (mb : Fin 8) (s : State) : Out :=
  actLong mb.val 0x0A10 s (fun p s =>
    let kind := u8 p 0
    let k := u8 p 1
    let begin_ (s : State) (t : Option Nat) : State :=
      ({ s with test := { s.test with selfTest := some ⟨mb.val, kind, k, t⟩ } }).set Reg.TEST_STATUS_ST_RUN 1
    if s.test.selfTest.isSome || s.changing then (s, some (err cBUSY))
    else if s.blocksOff then (s, some (err cDENIED))
    else if kind = 1 then
      if (List.range 32).any (fun j => s.flag Reg.LAT_STATUS_HELD j) then (s, some (err cBUSY))
      else if ((s.latsIn 0).filter (fun j => j ≠ k)).isEmpty || decide (((s.latsIn 1).filter (fun j => j ≠ k)).length < fwNeed s.mode) then
        (s, some (err cDENIED))
      else if s.qState 2 k = 1 then (s, some (err cBUSY))
      else
        let s1 := s.set Reg.LAT_STATUS_HELD 1 k
        if s.qState 2 k = 2 then (begin_ s1 (some s.clock), none) else (begin_ (s1.startQuench 2 k).refreshEng none, none)
    else if !s.quiet then (s, some (err cBUSY))
    else (begin_ s (some s.clock), none))

/-- The bad bits of memory `m` are gone: its words have been written. -/
def State.cleanMem (s : State) (m : Nat) : State :=
  { s with mem := { s.mem with words := s.mem.words.filter (fun e => e.1 / 2 ^ 23 / 512 ≠ m) } }

/-- Every stored packet is gone with its parcels and its descriptor. -/
def State.dropStore (s : State) : State :=
  let p := s.pk
  ({ s with
    pk := { next := p.next, flows := p.flows, terns := p.terns, nextHandle := p.nextHandle, sent := p.sent, bar2 := p.bar2, bar2Ep := p.bar2Ep }
    regs := s.regs.filter (fun e => !(inArray 0x248004 0x10 2048 4 2 e.1 || inArray 0x241004 0x10 64 4 2 e.1 || inArray 0x4000CC 0x400 256 0 1 e.1))
  }).refreshHg

/-- What a march test of memory `m` leaves: the memory as after reset (R737). -/
def State.marchTested (s : State) (m : Nat) : State :=
  let s1 := s.cleanMem m
  match m with
  | 1 => s1.dropStore
  | 5 => { s1 with eng := { s1.eng with words := [] } }
  | 6 => { s1 with eng := { s1.eng with images := s1.eng.images.map (fun e => (e.1, e.2.take 16 ++ List.replicate 16384 0 ++ e.2.drop 16400)) } }
  | 7 => ({ s1 with pk := { s1.pk with flows := [] } }).set Reg.IN_STATUS_FLOW_USED 0
  | 8 => ({ s1 with pk := { s1.pk with terns := [] } }).set Reg.TERN_STATUS_TERN_USED 0
  | 9 => s1.dropStore
  | 10 => { s1 with regs := s1.regs.filter (fun e => !decide (0x188000 ≤ e.1 ∧ e.1 < 0x190000)) }
  | 11 => { s1 with tsi := { s1.tsi with slips := [] } }
  | 12 =>
    let s2 := (List.range 511).foldl (fun s k => if s.get Reg.KS_STATUS_STATE (k + 1) = 0 then s else s.eraseKey (k + 1)) s1
    let s3 := (List.range 1024).foldl (fun s c => (s.detachCtx c).dropKey c) s2
    { s3 with
      cip := { s3.cip with salts := [] }
      sys := { s3.sys with quench := s3.sys.quench.filter (fun e => e.1 / 4096 ≠ 6) }
      regs := s3.regs.filter (fun e => !((decide (0x1B0000 ≤ e.1 ∧ e.1 < 0x1B8000) && (findDesc regDescs e.1).isSome) || inArray 0x1A2004 0x40 256 0 1 e.1)) }
  | _ => s1

/-- The tested lateral comes back with its memories loaded from the image in force, or stays held after a failure (R736). -/
def State.lateralTested (s : State) (k : Nat) (failed : Bool) : State :=
  let s1 := { s with mem := { s.mem with words := s.mem.words.filter (fun e =>
    !((e.1 / 2 ^ 23 / 512 == 3 || e.1 / 2 ^ 23 / 512 == 4) && e.1 / 2 ^ 23 % 512 / 16 == k)) } }
  if failed then s1
  else
    let s2 := s1.set Reg.LAT_STATUS_HELD 0 k
    let s3 := { s2 with eng := { s2.eng with latGen := tput 0 s2.eng.latGen k s2.eng.gen } }.loadLateral k
    (if s3.flag Reg.LAT_CTRL_EN k then s3.enableObj 2 k else s3).refreshEng

/-- SELFTEST_DONE: 3 ms after QUIESCED for KIND 1, 50 ms after the start for KIND 3; `words` and the place of the first are what failed. -/
def execSelftestDone (failed : Bool) (words : Nat) (mem : Fin 14) (inst : Fin 512) (first : BitVec 32) (s : State) : Out :=
  match s.test.selfTest with
  | none => .next s
  | some x => match x.start with
    | none => .next s
    | some t =>
      if s.clock < t + (if x.kind = 1 then msT 3 else if x.kind = 2 then 0 else msT 50) then .next s
      else
        let w := if failed then min words 0xFFFF else 0
        let s0 := ({ s with test := { s.test with selfTest := none } }).set Reg.TEST_STATUS_ST_RUN 0
        let s1 := if x.kind = 1 then s0.lateralTested x.target failed else if x.kind = 2 then s0.marchTested x.target else s0.resetPlane
        let s2 := ((((s1.set Reg.ST_RESULT_KIND x.kind).set Reg.ST_RESULT_FAIL (b2n failed)).set Reg.ST_RESULT_TARGET x.target).set
          Reg.ST_RESULT_FAIL_WORDS w).bump Cnt.ST_RUNS
        let s3 := s2.set Reg.TEST_EVENTS_ST_DONE 1
        let s4 := if failed then (s3.bump Cnt.ST_FAILS).set Reg.TEST_EVENTS_ST_FAIL 1 else s3
        let where_ := if failed then bytes 1 mem.val ++ [0] ++ bytes 2 inst.val ++ bytes 4 first.toNat else [0, 0, 0, 0] ++ bytes 4 0xFFFFFFFF
        done s (s4.finish x.mb (okD (wordBytes [s4.reg 0x50060] ++ where_)))

/-- The payload rows of R745. -/
def payloadsTest : List PayloadRow := [
  ⟨0x0A01, .fix 0, []⟩,
  ⟨0x0A02, .fix 100, [.num 0 1 1 3, .num 1 1 0 1, .given 1 0 0 (.num 2 1 8 32), .zero 3 1]⟩,
  ⟨0x0A03, .fix 0, []⟩,
  ⟨0x0A04, .fix 0, []⟩,
  ⟨0x0A05, .fix 36, [.num 0 1 1 4, .zero 1 3, .given 0 3 4 (.num 4 1 1 1)]⟩,
  ⟨0x0A10, .fix 4, [.num 0 1 1 3, .given 0 1 1 (.num 1 1 0 31), .given 0 2 2 (.among 1 1 [1, 3, 4, 5, 6, 7, 8, 9, 10, 11, 12]),
    .given 0 3 3 (.among 1 1 ((List.range 256).filter (fun n => n ≠ 13))), .zero 2 2]⟩,
  ⟨0x0A20, .fix 20, [.num 0 1 0 3, .given 0 2 3 (.num 1 1 0 23), .num 2 1 1 3, .num 3 1 0 31, .num 4 1 0 1, .given 2 3 3 (.num 5 1 1 15), .num 6 2 1 3600,
    .zero 16 4]⟩,
  ⟨0x0A21, .fix 4, [.among 0 1 [0, 1, 2, 3, 4, 5, 6, 7, 0xFF], .zero 1 3]⟩,
  ⟨0x0A22, .fix 4, [.num 0 1 0 7, .zero 1 3]⟩]

end Sys2Proof.Machine
end

