-- ==== Sys2Proof/Machine/Quench.lean ====
section
/-! DEFINITION. The end of a quench: what each kind of object does when it is QUIESCED, and the enables that waited for it (R51–R55). -/

namespace Sys2Proof.Machine

/-! ### QUIESCED -/

/-- The march test of lateral `k` begins when that is QUIESCED. -/
def SelfTest.reached (k now : Nat) (x : SelfTest) : SelfTest :=
  if x.kind = 1 ∧ x.target = k ∧ x.start.isNone then { x with start := some now } else x

/-- A lateral is QUIESCED: after a change of ROLE it returns to dispatch, and the march test of a self-test begins (R517, R736). -/
def State.lateralQuiesced (s : State) (k : Nat) : State :=
  let s1 := { s with test := { s.test with selfTest := s.test.selfTest.map (SelfTest.reached k s.clock) } }
  let s2 := if !s.eng.roleNew.contains k then s1
    else
      let t := { s1 with eng := { s1.eng with roleNew := s1.eng.roleNew.filter (· ≠ k) } }
      if t.flag Reg.LAT_CTRL_EN k && !t.flag Reg.LAT_STATUS_HELD k && t.flag Reg.LAT_STATUS_POWERED k then (t.enableObj 2 k).latReturn k else t
  s2.refreshEng

/-- A lane is QUIESCED: a move to a power state counts from here; a lane out of use goes OFF, one that only changes its role does not (R82, R577, R591). -/
def State.laneQuiesced (s : State) (l : Nat) : State :=
  let s1 := s.setLane l { s.lane l with quietAt := s.clock }
  let pending := match s1.quenchOf 4 l with
    | some q => q.reenable && !q.keeps
    | none => false
  if s1.get Reg.LN_CFG_FORMAT l = 0 || pending then (s1.laneOff l).checkPorts else s1

/-- What follows when an object is QUIESCED. -/
def State.quiesced (s : State) (kind idx : Nat) : State :=
  match kind with
  | 2 => s.lateralQuiesced idx
  | 4 => s.laneQuiesced idx
  | _ => s

/-- The object that the kind and index of an event name: kind 3 counts receive furrows 0 to 31 and transmit furrows 32 to 63. -/
def quenchable (kind idx : Nat) : Bool :=
  match kind with
  | 1 => decide (idx < 256)
  | 2 => decide (idx < 32)
  | 3 => decide (idx < 64)
  | 4 => decide (idx < 24)
  | 5 => decide (idx < 1024)
  | 6 => decide (idx < 1024)
  | _ => false

/-- The host packet ports that start at a lane. -/
def State.portsAt (s : State) (l : Nat) : List Nat :=
  (List.range 256).filter (fun t => s.flag Reg.TN_PKT_HOST_PORT t && s.get Reg.TN_PKT_LANE t == l)

/-- The packets that wait for a lane on the way out. -/
def State.lanePackets (s : State) (l : Nat) : List (Nat × Nat) :=
  (s.portsAt l).flatMap (fun t => (tget [] s.pk.egress t).map (fun id => (t, id)))

/-- The packets among the blocks that wait for a lane. -/
def State.laneBlocks (s : State) (l : Nat) : Nat := ((s.portsAt l).map (fun t => blockPackets (tget [] s.tsi.ethWait t))).sum

/-- What a lane discards (R52): the blocks of its rows, the packets on their way out, and, as `left` counts them, the packets of a host port's receive
queue that the intake has not yet taken or the blocks of an Ethernet client. -/
def State.laneDiscard (s : State) (l left : Nat) : State × Nat :=
  let ports := s.portsAt l
  let rest := if s.laneFormat l = 2 then 0
    else if ports.isEmpty then left
    else min left ((ports.map (fun t => (s.portQueue t).words.length)).sum)
  let n := s.laneHeld l + (s.lanePackets l).length + s.laneBlocks l + rest
  let s1 := (s.lanePackets l).foldl (fun (s : State) (x : Nat × Nat) =>
    ({ s with pk := { s.pk with egress := tput [] s.pk.egress x.1 ((tget [] s.pk.egress x.1).erase x.2) } }).dropPkt x.2) s
  let s2 := ports.foldl (fun (s : State) (t : Nat) =>
    let x := s.setPortQueue t { words := [], coming := false, dropping := (s.portQueue t).coming || (s.portQueue t).dropping }
    { x with tsi := { x.tsi with ethWait := tput [] x.tsi.ethWait t [] } }) s1
  (s2.setLaneData l { s2.laneData l with rows := [] }, n)

/-- The units under a context in the cipher's pipeline: those whose tag is awaited. -/
def State.ctxUnits (s : State) (c : Nat) : List Nat :=
  (List.range 256).filter (fun t => match (s.cipherTn t).rx with | some u => u.cls == .open_ && u.ctx == c | none => false)

/-- What a context discards (R52). -/
def State.ctxDiscard (s : State) (c : Nat) : State × Nat :=
  ((s.ctxUnits c).foldl (fun (s : State) (t : Nat) => s.setCipherTn t { s.cipherTn t with rx := none }) s, (s.ctxUnits c).length)

/-- The model holds no work of the object any more; what the receive chain of a furrow and the receive queue of an Ethernet lane hold only the event tells. -/
def State.drained (s : State) (kind idx : Nat) : Bool :=
  match kind with
  | 1 => s.turnoutPending idx == 0
  | 2 => (s.latTasks idx).isEmpty
  | 3 => idx < 32 || s.framesHeld (idx - 32) == 0
  | 4 => s.laneHeld idx == 0 && (s.lanePackets idx).isEmpty && s.laneBlocks idx == 0
  | 5 => (s.leafDue idx).isEmpty
  | _ => (s.ctxUnits idx).isEmpty

/-- QUENCH_DRAINED: a STOPPING object is empty before its timeout: QUIESCED, nothing discarded (R55). -/
def execQuenchDrained (kind : Fin 7) (idx : Fin 1024) (s : State) : Out :=
  if !quenchable kind.val idx.val || s.qState kind.val idx.val ≠ 1 || !s.drained kind.val idx.val then .next s
  else done s (((s.fiQuenched.finishQuench kind.val idx.val 0)).quiesced kind.val idx.val)

/-- The remaining work of an object is discarded: how many items; `left` counts those that the model does not hold (R52). -/
def State.quenchDiscard (s : State) (kind idx left : Nat) : State × Nat :=
  match kind with
  | 1 => s.turnoutDiscard idx
  | 2 => s.lateralDiscard idx
  | 3 => if idx < 32 then (s, left)
    else ({ s with tx := { s.tx with lines := tput none s.tx.lines (idx - 32) none } }, s.framesHeld (idx - 32))
  | 4 => s.laneDiscard idx left
  | 5 => s.leafDiscard idx
  | _ => s.ctxDiscard idx

/-- QUENCH_TIMEOUT: the timeout expires; what remains is discarded and counted, and the object is QUIESCED (R51). -/
def execQuenchTimeout (kind : Fin 7) (idx : Fin 1024) (left : Nat) (s : State) : Out :=
  match s.quenchOf kind.val idx.val with
  | none => .next s
  | some q =>
    if !quenchable kind.val idx.val || s.qState kind.val idx.val ≠ 1 || s.clock < q.start + q.timeout then .next s
    else
      let r := s.fiQuenched.quenchDiscard kind.val idx.val left
      done s ((r.1.finishQuench kind.val idx.val r.2).quiesced kind.val idx.val)

/-! ### Enables that waited (R55) -/

/-- PENDING_ENABLE_APPLY: an enable committed while its object was STOPPING takes effect at the first local multiframe boundary after QUIESCED. -/
def State.applyPending (s : State) : State :=
  s.pendingEnables.foldl (fun (s : State) (o : Nat × Nat) =>
    let s1 := s.enableObj o.1 o.2
    let keeps := match s.quenchOf o.1 o.2 with
      | some q => q.keeps
      | none => false
    match o.1 with
    | 2 => (s1.latReturn o.2).refreshEng
    | 4 => if s1.pstate o.2 = 0 && !keeps then (s1.laneOn o.2) else s1
    | _ => s1) s

end Sys2Proof.Machine
end

