-- ==== Sys2Proof/Machine/Frame.lean ====
section
/-! DEFINITION. The local frame and multiframe timing: its start, and what happens at each of its boundaries (R106, R171, R323, R343, R344,
R639). -/

namespace Sys2Proof.Machine

/-- Boundaries follow the DPLL, the elapsed time the reference clock: they may lie up to 100 ppm apart (log entry 85). -/
def State.since (s : State) (last span : Nat) : Bool := decide (last + span - span / 10000 ≤ s.clock)

/-- LINE_PLL_FIRST_LOCK: the first local multiframe boundary; the multiframe that starts carries MFN 0 (R344, R639). -/
def execLinePllFirstLock (s : State) : Out :=
  if s.frm.started then .next s
  else
    let f := { s.frm with started := true, mfn := 0, fn := 0, lastFrame := s.clock, lastMf := s.clock }
    done s (({ s with frm := f }).set Reg.MF_PHASE_NS (s.devNs % 125000))

/-! ### Local frames -/

/-- SQUELCH_RESUME: when every reason has cleared, transmission resumes (R282). -/
def State.squelchResume (s : State) : State :=
  if s.squelchReasons = 0 then s.set Reg.TXS_STATUS_SQUELCHED 0 else s

/-- The coherent blocks at a local frame boundary. -/
def State.lineFrame (m : FrameMeas) (s : State) : State :=
  if !s.coherent then s else (((((s.convFrame m).lineLosFrame m).txFrame m).squelchResume).chooseJ)

/-- The frame count at a local frame boundary: frame 0 starts at the multiframe boundary (R344). -/
def State.countFrame (s : State) : State :=
  { s with frm := { s.frm with fn := if s.frm.lastMf = s.clock then 0 else (s.frm.fn + 1) % 25, lastFrame := s.clock } }

/-! ### Local multiframes -/

/-- The entropy switches due in the multiframe that starts (R178, R263). -/
def State.switchEntropies (s : State) : State :=
  (List.range 32).foldl (fun (s : State) (f : Nat) => (s.entropySwitch f).txEntropySwitch f) s

/-- The figures of furrow `f`, and what its adaptation loop makes of them (R171, R177). -/
def State.updateFurrow (s : State) (f : Nat) (g : Option Figures) : State :=
  let on := s.flag Reg.FR_RX_CTRL_EN f && s.processed.contains f
  match on, g with
  | true, some g =>
    let s1 := s.furrowFigures f g (s.periodBer f)
    if s1.flag Reg.FR_RX_CTRL_ADAPT_EN f && s1.flag Reg.FR_STATUS_CAR_LOCK f then s1.adaptDecide f g.snr else s1
  | _, _ => (s.invalidFigures f).set Reg.FR_NOISE_FLOOR_NF 0x8000 f

/-- The end of an update period, every 8 multiframes: figures, adaptation, FEC_DEG, the line figures (R171, R172, R174, R324). -/
def State.updatePeriod (figs : List Figures) (s : State) : State :=
  let s1 := (List.range 32).foldl (fun (s : State) (f : Nat) => (s.updateFurrow f figs[f]?).fecPeriod f) s
  ({ s1 with rx := { s1.rx with mfCount := 0 } }).lineFigures

/-- What the receiver counts at a multiframe boundary. -/
def State.countPeriod (figs : List Figures) (s : State) : State :=
  if 8 ≤ s.rx.mfCount + 1 then s.updatePeriod figs else { s with rx := { s.rx with mfCount := s.rx.mfCount + 1 } }

/-- The upstream multiframe that a leaf's boundary starts: the one after the last stream that its group has received (R229, R358). -/
def State.upstreamMfn (s : State) : Nat := ((s.groupRx (s.get Reg.RX_CFG_LEAF_GROUP)).mfn.getD 0 + 1) % 2 ^ 32

/-- The leaf's part of a multiframe boundary. -/
def State.leafBoundary (s : State) : State := if s.mode = 2 then s.leafUpdates s.upstreamMfn else s

/-- The coherent blocks at a multiframe boundary, but for the switches of protection. -/
def State.lineMultiframe (figs : List Figures) (s : State) : State :=
  if !s.coherent then s
  else (((List.range 32).foldl State.fecMultiframe s).switchEntropies.countPeriod figs).leafBoundary

/-- A commit's boundary is the multiframe boundary of this moment (R671). -/
def State.commitDue (s : State) (mb : Nat) : Bool :=
  let t := (s.mbox mb).txn
  t.state == 2 && t.boundary.isNone && s.frm.started && s.frm.lastMf == s.clock && decide (t.acceptedAt + usT 250 ≤ s.clock)

/-- Mailbox `mb` in its place among `l`, which follow the order of acceptance. -/
def State.byAcceptance (s : State) (mb : Nat) : List Nat → List Nat
  | [] => [mb]
  | a :: t => if (s.mbox mb).txn.order < (s.mbox a).txn.order then mb :: a :: t else a :: s.byAcceptance mb t

/-- The mailboxes whose commits take effect now, in the order of acceptance. -/
def State.commitsDue (s : State) : List Nat := ((List.range 8).filter s.commitDue).foldl (fun l mb => s.byAcceptance mb l) []

/-- PROT_SWITCH and the leaf switches of a multiframe boundary; a commit of the same boundary goes first (R237, R369, R371, R372). -/
def State.switchBoundary (s : State) : State := if s.coherent then s.protBoundary.leafSwitches else s

/-- The multiframe that starts: the switches due, then what the hub and the framer send in it (R237, R348). -/
def State.beginMultiframe (s : State) : State := if s.coherent then s.switchBoundary.hubBoundary.sendStreams else s

/-- The number and the time of the multiframe that starts (R344, R639). -/
def State.countMultiframe (s : State) : State :=
  let f := { s.frm with mfn := (s.frm.mfn + 1) % 2 ^ 32, fn := 0, lastMf := s.clock }
  ({ s with frm := f }).set Reg.MF_PHASE_NS (s.devNs % 125000)

/-- A multiframe ends where its 25th frame does (R344, R639). -/
def State.multiframeEnds (s : State) : Bool :=
  s.frm.started && s.frm.fn == 24 && s.since s.frm.lastFrame (usT 5) && s.since s.frm.lastMf (usT 125)

/-- MULTIFRAME_BOUNDARY: `figs` is what the receive DSP measured on each furrow in the update period that ends here (R171, R344, R639). -/
def execMultiframeBoundary (figs : List Figures) (s : State) : Out :=
  if !s.multiframeEnds then .next s
  else
    let s1 := (s.countMultiframe.applyPending).lineMultiframe figs
    let s2 := if s1.get Reg.TAP_CFG_TRIG = 1 then s1.tapHit else s1
    done s (if s2.commitsDue.isEmpty then s2.beginMultiframe else s2)

/-! ### The boundary of a frame, after those of its multiframe and of its commits -/

/-- A local frame ends. At the end of a multiframe the multiframe boundary and the commits due there come first, so that the frame that starts is
sent under the new configuration (R42, R106; log entry 37). -/
def State.frameEnds (s : State) : Bool :=
  s.frm.started && s.since s.frm.lastFrame (usT 5) && (s.frm.fn != 24 || s.frm.lastMf == s.clock) && s.commitsDue.isEmpty

/-- LOCAL_FRAME_BOUNDARY: `m` is what the frame that ends measured (R105, R106). -/
def execLocalFrameBoundary (m : FrameMeas) (s : State) : Out :=
  if !s.frameEnds then .next s
  else done s ((((((s.countFrame.lineFrame m).tsiFrame m).lanesOut m).laneFrame m).pqLocal.protFrame).sendFrames m)

end Sys2Proof.Machine
end

