-- ==== Sys2Proof/Machine/Mode.lean ====
section
/-! DEFINITION. Changes of mode and profile, thermal and orderly shutdown (R63, R78–R84, R117, R120, R762, R764). -/

namespace Sys2Proof.Machine

/-! ### Rolling back (R665–R668) -/

/-- TXN_ROLLBACK record and the end of a transaction: `reason` and `index` are what TXN_STATUS and the record show (R667, R668, R670). -/
def State.rollbackTxn (s : State) (mb reason index : Nat) : State :=
  let t := (s.mbox mb).txn
  let s1 := s.tsiRelease t.staged
  let s2 := s1.setMbox mb { s1.mbox mb with txn := { t with state := 4, staged := [], locks := [], reason := reason, index := index } }
  (s2.bump Cnt.ROLLBACKS).log wbMailbox 0x80 ([BitVec.ofNat 8 mb, BitVec.ofNat 8 reason, BitVec.ofNat 8 index, 0] ++ bytes 4 t.id.toNat)

/-- The mailboxes with an open transaction. -/
def State.openTxns (s : State) : List Nat := (List.range 8).filter (fun mb => (s.mbox mb).txn.state == 1)

/-! ### What a mode gives (R63) -/

/-- R63: turnouts and mapped rills are traffic of blocks that module mode turns off. -/
def modeChecks : List Check := [
  { rule := 63
    bad := fun _ _ n => n.get Reg.MODE_CTRL_MODE == 3 && ((List.range 256).any n.turnoutOn || !(n.entries n.servicePage).isEmpty)
    reads := opIn [0x0340, 0x0341, 0x0601, 0x0610, 0x0120] }]

/-! ### Step 1 (R81) -/

/-- An object that runs in both modes in another role: quenched, and enabled again afterwards (R51, R55). -/
def State.requench (s : State) (kind idx : Nat) : State :=
  if s.qState kind idx = 2 then s
  else
    let t := s.startQuench kind idx
    t.setQuench kind idx ((t.quenchOf kind idx).map (fun q => { q with reenable := true, keeps := q.keeps || s.running kind idx }))

/-- An acquisition is abandoned (R183). -/
def State.abandonAcq (s : State) : State :=
  let s1 := (List.range 32).foldl (fun (s : State) (f : Nat) => (s.setFur f { s.fur f with step := 0 }).set Reg.FR_STATUS_ACQ 0 f) s
  ({ s1 with rx := { s1.rx with step := 0 } }).setAcqState 0

/-- Laterals in use that the new mode leaves unpowered are quenched. -/
def State.quenchUnpowered (s : State) : State :=
  (List.range 32).foldl (fun (s : State) (k : Nat) =>
    if poweredLats s.mode s.profile ≤ k && s.flag Reg.LAT_STATUS_POWERED k && s.flag Reg.LAT_CTRL_EN k && s.qState 2 k = 0 then s.startQuench 2 k else s) s

/-- The leaf entries between SURVEYED and SILENT. -/
def State.activeLeaves (s : State) : List Nat := (List.range 1024).filter (fun l => 1 ≤ s.leafState l && s.leafState l ≤ 5)

/-- Leaves of a hub that is one no more are quenched; of a device that becomes one, enabled (log entry 84). -/
def State.quenchLeaves (was : Nat) (s : State) : State :=
  if was = 1 && s.mode ≠ 1 then s.activeLeaves.foldl (fun (s : State) (l : Nat) => s.startQuench 5 l) s
  else if was ≠ 1 && s.mode = 1 then s.activeLeaves.foldl (fun (s : State) (l : Nat) => s.enableObj 5 l) s
  else s

/-- Furrows in use before and after a change between coherent modes change their role: they are quenched. -/
def State.quenchLine (old s : State) : State :=
  if old.mode = 3 || s.mode = 3 then s
  else (List.range 32).foldl (fun (s : State) (f : Nat) =>
    let a := if old.flag Reg.FR_RX_CTRL_EN f && s.flag Reg.FR_RX_CTRL_EN f then s.requench 3 f else s
    if old.flag Reg.TXF_CTRL_EN f && s.flag Reg.TXF_CTRL_EN f then a.requench 3 (32 + f) else a) s

/-- The turnouts that name a lane, with their client and packet words and their connections in service. -/
def State.laneMap (s : State) (cs : List Conn) (l : Nat) : List (Nat × Word × Word × List Conn) :=
  ((List.range 256).filter (fun t => (s.clientLanesOf t).contains l || (s.flag Reg.TN_PKT_HOST_PORT t && (s.hostLanesOf t).contains l))).map
    (fun t => (t, s.reg (Reg.TN_CLIENT_KIND.addr t 0), s.reg (Reg.TN_PKT_HOST_PORT.addr t 0), cs.filter (fun c => c.turnout == t)))

/-- Lanes in L0 before and after whose format or mapping changes: their traffic is quenched, their adaptation stays (R82). -/
def State.quenchMapped (old s : State) : State :=
  let was := old.entries old.servicePage
  let now := s.entries s.servicePage
  (List.range 24).foldl (fun (s : State) (l : Nat) =>
    if old.laneFormat l ≠ 0 && s.laneFormat l ≠ 0 && s.pstate l = 0 &&
        (old.laneFormat l ≠ s.laneFormat l || old.laneMap was l ≠ s.laneMap now l) then s.requench 4 l else s) s

/-- Turnouts in use before and after whose client or packet word changes: they have another role (R81). -/
def State.quenchTurnouts (old s : State) : State :=
  (List.range 256).foldl (fun (s : State) (t : Nat) =>
    if old.turnoutOn t && s.turnoutOn t && (old.reg (Reg.TN_CLIENT_KIND.addr t 0) ≠ s.reg (Reg.TN_CLIENT_KIND.addr t 0) ||
        old.reg (Reg.TN_PKT_HOST_PORT.addr t 0) ≠ s.reg (Reg.TN_PKT_HOST_PORT.addr t 0)) then s.requench 1 t else s) s

/-- MODE_CHANGE_START: step 1, at the commit boundary; `old` is the state before it, MODE_STATUS names the new mode already (R81, R94, R183, R562, R741). -/
def State.modeStart (old s : State) : State :=
  let s1 := ({ s with sys := { s.sys with change := some { t0 := s.clock, oldMode := old.mode, oldProf := old.profile } } }).set Reg.MODE_STATUS_STATE 1
  let s2 := (((s1.convAbandon).abandonAcq).endPasses).fiStopAll
  let s3 := State.quenchTurnouts old (State.quenchMapped old (s2.quenchUnpowered.quenchLeaves old.mode))
  ((State.quenchLine old s3).refreshLatency).refreshArmed

/-- A commit that changes the profile alone: resources are gated and ungated at the boundary (R80). -/
def State.profileStart (s : State) : State :=
  if s.coherent then (s.discardBanks (poweredBanks s.mode s.profile)).applyPowered s.mode s.profile else s

/-! ### Step 3 to 5 (R81) -/

/-- The device is shut down, or about to be: nothing is ungated any more (R762, R764). -/
def State.halted (s : State) : Bool := s.flag Reg.PWR_STATUS_SHUTDOWN || s.power.shutdown.isSome || s.get Reg.FW_STATUS_STATE == 4

/-- Every converter that is not OFF returns to SERVICE (R120). -/
def State.convService (s : State) : State :=
  (List.range 4).foldl (fun (s : State) (a : Nat) => (s.set Reg.ADC_STATUS_STATE 2 a).set Reg.DAC_STATUS_STATE 2 a) s

/-- Step 5 begins: line acquisition, where a signal is there (R81, R161, R163). -/
def State.startStep5 (s : State) : State :=
  let s1 := { s with sys := { s.sys with change := s.sys.change.map (fun (c : ModeChange) => { c with step5 := some s.clock }) } }
  s1.acquire

/-- Step 4 where it is needed, else step 5 (R81, R117, R120). -/
def State.startStep4 (was : Nat) (s : State) : State :=
  if (was == 2) != (s.mode == 2) || s.convsOff then s.startFg 15 15 none
  else if s.conv.fg.isSome then s
  else s.convService.startStep5

/-- The leaf of a device that enters or leaves leaf mode starts from the beginning. -/
def State.selfReset (was : Nat) (s : State) : State :=
  if (was == 2) == (s.mode == 2) then s
  else (((({ s with self := {} }).setReg 0x14008C 0).set Reg.SELF_EQD_EQD 0).set Reg.SELF_FREQ_CORR_F 0)

/-- The burst receiver of a device that is no hub any more is held in reset; leaf entries stay (R63; log entry 84). -/
def State.burstReset (was : Nat) (s : State) : State :=
  if was = 1 && s.mode ≠ 1 then { s with burst := { leaves := s.burst.leaves } } else s

/-- The line's part of step 3, with what follows it. -/
def State.gateLine (was : Nat) (s : State) : State :=
  if s.mode = 3 then (((s.applyPowered 3 s.profile).gatePlane).startStep5).refreshRefs
  else if s.halted then s.startStep5
  else ((((((s.ungatePlane).applyPowered s.mode s.profile).selfReset was).burstReset was).startStep4 was).refreshArmed).refreshRefs

/-- MODE_CHANGE_GATE: all quenches have ended; packets in banks that go are discarded, unused resources gated, needed ones ungated (R81 steps 3 to 5). -/
def execModeChangeGate (s : State) : Out :=
  match s.sys.change with
  | none => .next s
  | some c =>
    if c.gatedAt.isSome || !s.noQuench then .next s
    else
      let s1 := if s.coherent then s.discardBanks (poweredBanks s.mode s.profile) else s
      let s2 := { s1 with sys := { s1.sys with change := some { c with gatedAt := some s.clock } } }
      done s (s2.gateLine c.oldMode)

/-- Step 5 has reached its goal (R81, R94). -/
def State.modeGoal (s : State) : Bool :=
  match s.mode with
  | 3 => (List.range 24).all (fun l => s.laneFormat l ≠ 4 ||
      (s.rxState l == 3 && (decide (l < 16) || s.laneRate l != 9 || s.flag Reg.MOD_STATUS_INNER_LOCK l)))
  | 2 => s.leafLocked
  | 1 => s.flag Reg.RX_STATUS_LINE_LOCK
  | _ => !s.lineFurrows.isEmpty && s.lineFurrows.all s.frameSync

/-- The end of step 5: STABLE, MODE_CHANGE record (R81, R94). -/
def State.modeEnd (s : State) (goal : Bool) : State :=
  let s1 := (({ s with sys := { s.sys with change := none } }).set Reg.MODE_STATUS_STATE 0).set Reg.MODE_STATUS_LOCKED (b2n goal)
  let s2 := s1.log wbGlobal 0x02 [BitVec.ofNat 8 s1.mode, BitVec.ofNat 8 s1.profile, BitVec.ofNat 8 (s1.get Reg.MODE_STATUS_CAL_OK), BitVec.ofNat 8 (b2n goal)]
  (s2.refreshLatency).refreshArmed

/-- MODE_CHANGE_DONE: the goal of step 5 is reached, or its 150 ms, in module mode 25 ms, are over (R81, R84). -/
def execModeChangeDone (s : State) : Out :=
  match s.sys.change with
  | some { t0 := _, oldMode := _, oldProf := _, gatedAt := some _, step5 := some t } =>
    if s.modeGoal then done s (s.modeEnd true)
    else if t + msT (if s.mode = 3 then 25 else 150) ≤ s.clock then done s (s.modeEnd false)
    else .next s
  | _ => .next s

/-- The first commit that enables a furrow in a coherent mode powers the converters (R117, R120). -/
def State.powerConverters (s : State) : State :=
  if s.coherent && s.sys.change.isNone && s.conv.fg.isNone && s.convsOff && (s.rxConfigured || s.txConfigured) then s.startFg 15 15 none else s

/-! ### Thermal shutdown (R762) -/

/-- The lanes are held in reset, in electrical idle; a LANE_PSTATE that runs is answered DENIED. -/
def State.holdLanes (s : State) : State :=
  let s1 := s.ln.reqs.foldl (fun (s : State) (r : PsReq) => s.finish r.mb (err cDENIED)) s
  let regs := (s1.regs.map (fun e => if 0x300000 ≤ e.1 ∧ e.1 < 0x330000 then (e.1, heldWord (fun d => d.tx ||| d.rw ||| d.w1c) e.2 e.1 e.2) else e)).filter
    (fun e => e.2 ≠ resetWord e.1)
  let ends : Option ModMeasure := s1.ln.measure.map (fun m => { m with lost := true })
  let s2 := { s1 with
    regs := regs
    ln := { measure := ends }
    sys := { s1.sys with quench := s1.sys.quench.filter (fun e => e.1 / 4096 != 4) } }
  (s2.set Reg.XQ_STATUS_HOST_LOCK 0).set Reg.XQ_STATUS_MEDIA_LOCK 0

/-- The device enters thermal shutdown. -/
def State.thermalShutdown (s : State) : State :=
  let s1 := ((s.set Reg.PWR_STATUS_SHUTDOWN 1).set Reg.PWR_EVENTS_SHUTDOWN 1).refreshSquelch
  (s1.gatePlane.holdLanes).refreshRefs

/-- THERMAL_SHUTDOWN: the hottest sensor has stood at or above SHUT_C for 1 ms. -/
def execThermalShutdown (s : State) : Out :=
  match s.power.hotSince with
  | some t => if !s.flag Reg.PWR_STATUS_SHUTDOWN && t + msT 1 ≤ s.clock then done s s.thermalShutdown else .next s
  | none => .next s

/-! ### Orderly shutdown (R764) -/

/-- Every turnout, furrow, lane, leaf, lateral and cipher context in use is quenched. -/
def State.quenchEverything (s : State) : State :=
  let start (s : State) (kind : Nat) (l : List Nat) : State := l.foldl (fun (s : State) (i : Nat) => s.startQuench kind i) s
  let a := start s 1 ((List.range 256).filter s.turnoutOn)
  let b := start a 2 ((List.range 32).filter (fun k => s.flag Reg.LAT_CTRL_EN k && s.flag Reg.LAT_STATUS_POWERED k))
  let c := start b 3 ((List.range 64).filter (fun i => if i < 32 then s.flag Reg.FR_RX_CTRL_EN i else s.flag Reg.TXF_CTRL_EN (i - 32)))
  let d := start c 5 s.activeLeaves
  (List.range 1024).foldl State.detachCtx d

/-- The lanes in use are quenched. -/
def State.quenchLanes (s : State) : State :=
  ((List.range 24).filter (fun l => s.laneFormat l ≠ 0)).foldl (fun (s : State) (l : Nat) => s.startQuench 4 l) s

/-- SYS_SHUTDOWN: step 1 at once; answered at the last step; BUSY while another runs. -/
def execSysShutdown (mb : Fin 8) (s : State) : Out :=
  actLong mb.val 0x0161 s (fun _ s =>
    if s.powerBusy || s.power.shutdown.isSome then (s, some (err cBUSY))
    else
      let s1 := s.openTxns.foldl (fun (s : State) (k : Nat) => s.rollbackTxn k cROLLED_BACK 0) s
      let s2 := { s1 with tx := { s1.tx with hostSquelch := true }, power := { s1.power with shutdown := some { mb := mb.val, t0 := s.clock } } }
      ((if s2.coherent then s2.quenchEverything else s2).quenchLanes, none))

/-- A lane goes to L2, whatever move runs (R764 step 3). -/
def State.laneSleep (s : State) (l : Nat) : State :=
  let late := match (s.lane l).move with
    | some m => m.target != 2
    | none => false
  let s1 := if s.laneFormat l = 0 || s.pstate l = 2 then s else s.enterPstate l 2
  ((s1.laneOff l).moveEnds l late)

/-- SHUTDOWN_QUIESCED: steps 2 and 3 (R764). -/
def execShutdownQuiesced (s : State) : Out :=
  match s.power.shutdown with
  | none => .next s
  | some d =>
    if d.gatedAt.isSome || !s.noQuench then .next s
    else
      let s1 := ((List.range 24).foldl State.laneSleep s).checkPorts
      let s2 := (s1.gatePlane.refreshRefs).railsNominal
      done s { s2 with power := { s2.power with shutdown := some { d with gatedAt := some s.clock } } }

/-- SHUTDOWN_SAFE_OFF: step 4; the command is answered (R764). -/
def execShutdownSafeOff (s : State) : Out :=
  match s.power.shutdown with
  | some { mb := mb, t0 := _, gatedAt := some _ } =>
    let s1 := (((s.set Reg.PWR_STATUS_SAFE_OFF 1).set Reg.FW_STATUS_STATE 4).set Reg.PWR_EVENTS_SAFE_OFF 1)
    done s (({ s1 with power := { s1.power with shutdown := none } }).finish mb ok)
  | _ => .next s

end Sys2Proof.Machine
end

