-- ==== Sys2Proof/Machine/Txn.lean ====
section
/-! DEFINITION. Transactions: opening, validating, the commit boundary and the answer, rolling back (R663–R674, R809). -/

namespace Sys2Proof.Machine

/-! ### The configuration after a commit (R670) -/

/-- What one staged command sets, by the chapter that defines it. -/
def applyStaged (s : State) (c : Staged) : State :=
  let s1 := applyRx c (applyConv c (applyCtl c s))
  let s2 := applyFrm c (applyFec c (applyBurst c (applyTx c s1)))
  let s3 := applyHeadgate c (applyIntake c (applyCipher c (applyTsi c s2)))
  let s4 := applyModule c (applyLanes c (applyMem c (applyEng c s3)))
  applyPower c (applyPerf c (applyMonitor c (applyTiming c s4)))

/-- The commits accepted whose boundaries are still to come, in the order of acceptance. -/
def State.accepted (s : State) : List Nat :=
  ((List.range 8).filter (fun mb => (s.mbox mb).txn.state == 2 && (s.mbox mb).txn.boundary.isNone)).foldl (fun l mb => s.byAcceptance mb l) []

/-- The staged commands of commits already accepted. -/
def State.acceptedCmds (s : State) : List Staged := s.accepted.flatMap (fun mb => (s.mbox mb).txn.staged)

/-- The configuration that would be in force after a commit of `own`: the committed values, overlaid with those of accepted commits, then its own. -/
def State.afterCommit (s : State) (own : List Staged) : State := (s.acceptedCmds ++ own).foldl applyStaged s

/-- Every rule whose failure fails validation. -/
def allChecks : List Check :=
  ctlChecks ++ modeChecks ++ convChecks ++ rxChecks ++ txChecks ++ burstChecks ++ fecChecks ++ frmChecks ++ tsiChecks ++ cipherChecks ++ intakeChecks ++
    headgateChecks ++ engChecks ++ lanesChecks ++ moduleChecks ++ timingChecks ++ monitorChecks ++ perfChecks ++ powerChecks

/-- The place of the last command that staged a value the check reads, counted from 1; 0 for none (R809). -/
def Check.place (c : Check) (own : List Staged) : Nat :=
  own.zipIdx.foldl (fun (k : Nat) (e : Staged × Nat) => if c.reads e.1 then e.2 + 1 else k) 0

/-- The failure that stands earliest in the transaction: code and INDEX, saturating at 255; a check that reads nothing staged stands last. -/
def firstFailure (own : List Staged) (old new : State) : Option (Nat × Nat) :=
  let fails := (allChecks.filter (fun c => c.bad own old new)).map (fun c => (c.code, c.place own))
  let key (x : Nat × Nat) : Nat := if x.2 = 0 then own.length + 1 else x.2
  match fails with
  | [] => none
  | x :: rest =>
    let y := rest.foldl (fun (best : Nat × Nat) (r : Nat × Nat) => if key r < key best then r else best) x
    some (y.1, min y.2 255)

/-! ### Commands -/

/-- TXN_BEGIN: DENIED while one is open, and after an orderly shutdown (R663, R764). -/
def execTxnBegin (mb : Fin 8) (s : State) : Out :=
  act mb.val 0x0201 s (fun _ s =>
    let m := s.mbox mb.val
    if m.txn.state = 1 || s.get Reg.FW_STATUS_STATE = 4 then (s, err cDENIED)
    else
      let t := { m.txn with state := 1, id := s.nextTxn, staged := [], locks := [], boundary := none }
      ({ s.setMbox mb.val { m with txn := t } with nextTxn := s.nextTxn + 1 }, okD (bytes 4 s.nextTxn.toNat)))

/-- The mode that a transaction sets, if it contains SYS_MODE_SET. -/
def modeSet (own : List Staged) : Option Nat := ((own.filter (opIn [0x0120])).getLast?).map (fun c => u8 c.payload 0)

/-- R669: a commit is not accepted now. -/
def State.commitBusy (s : State) (own : List Staged) : Bool :=
  s.changing || (own.any (opIn [0x0631]) && s.flag Reg.ENG_STATUS_SWITCHING) ||
    (match modeSet own with
      | some m => decide (m ≠ s.mode) && s.test.selfTest.isSome
      | none => false)

/-- The response payload of a commit (R672). -/
def commitReply (id : Word) (mfn : Nat) (ns : Nat) : Reply := okD (bytes 4 id.toNat ++ bytes 4 mfn ++ bytes 8 ns)

/-- A commit that stages nothing is answered at once (R672). -/
def State.emptyCommit (s : State) (mb : Nat) : State × Option Reply :=
  let m := s.mbox mb
  let t := { m.txn with state := 3, locks := [], lastMfn := 0xFFFFFFFF }
  (((s.setMbox mb { m with txn := t }).bump Cnt.COMMITS), some (commitReply m.txn.id 0xFFFFFFFF 0))

/-- A commit that passes validation is accepted and waits for its boundary; its key loads begin (R421, R671). -/
def State.acceptCommit (s : State) (mb : Nat) (new : State) : State :=
  let m := s.mbox mb
  let t := { m.txn with state := 2, acceptedAt := s.clock, order := s.nextOrder }
  let s1 := { s.setMbox mb { m with txn := t } with nextOrder := s.nextOrder + 1 }
  (s1.queueLoads m.txn.staged s new).engAccept m.txn.staged

/-- TXN_COMMIT: validated when it is accepted; answered when its boundary has passed (R669–R672). -/
def execTxnCommit (mb : Fin 8) (s : State) : Out :=
  actLong mb.val 0x0202 s (fun _ s =>
    let t := (s.mbox mb.val).txn
    if t.state ≠ 1 then (s, some (err cNO_TXN))
    else if s.commitBusy t.staged then (s, some (err cBUSY))
    else if t.staged.isEmpty then s.emptyCommit mb.val
    else
      let new := s.afterCommit t.staged
      match firstFailure t.staged s new with
      | some (code, idx) =>
        ((s.bump Cnt.VALIDATION_FAILS).rollbackTxn mb.val code idx, some { code := cROLLED_BACK, reason := code, index := idx })
      | none => (s.acceptCommit mb.val new, none))

/-- TXN_ROLLBACK (R668). -/
def execTxnRollback (mb : Fin 8) (s : State) : Out :=
  act mb.val 0x0203 s (fun _ s =>
    if (s.mbox mb.val).txn.state ≠ 1 then (s, err cNO_TXN) else (s.rollbackTxn mb.val cROLLED_BACK 0, ok))

/-- The time until an open transaction idles out (R667, R680). -/
def State.idleLeft (s : State) (mb : Nat) : Nat :=
  let t := (s.mbox mb).txn
  if t.state = 1 then (t.lastCmd + secT 10 - s.clock) / msT 1 else 0

/-- TXN_STATUS (R680). -/
def execTxnStatus (mb : Fin 8) (s : State) : Out :=
  report mb.val 0x0204 s (fun p s =>
    let n := if u8 p 0 = 0xFF then mb.val else u8 p 0
    let t := (s.mbox n).txn
    okD (bytes 1 t.state ++ bytes 1 t.reason ++ bytes 1 t.index ++ [0] ++ bytes 4 t.id.toNat ++ bytes 2 t.staged.length ++ [0, 0] ++ bytes 4 t.bytes ++
      bytes 4 (s.idleLeft n) ++ bytes 4 t.lastMfn.toNat))

/-- TXN_END of a mailbox: its transaction was rolled back by timeout or restart (R675). -/
def State.txnEnd (s : State) (mb : Nat) : State := s.set Reg.MB_EVENTS_TXN_END (s.get Reg.MB_EVENTS_TXN_END ||| 2 ^ mb)

/-- TXN_IDLE_TIMEOUT: no command of an open transaction's mailbox has been taken for 10 s; the timer does not run while a TXN_COMMIT is pending
(R667). -/
def execTxnIdleTimeout (mb : Fin 8) (s : State) : Out :=
  let m := s.mbox mb.val
  if m.txn.state ≠ 1 || (m.phase ≠ .idle && m.opcode = 0x0202) || s.clock < m.txn.lastCmd + secT 10 then .next s
  else done s (((s.rollbackTxn mb.val cTIMEOUT 0).bump Cnt.TXN_TIMEOUTS).txnEnd mb.val)

/-! ### The boundary (R671–R673) -/

/-- The coherent blocks take a commit at its boundary. -/
def State.lineCommit (cs : List Staged) (old s : State) : State :=
  let s1 := State.txBoundary old (State.rxBoundary old s)
  let s2 := (State.fecBoundary old (s1.burstBoundary cs))
  let s3 := State.tsiBoundary old (State.frmBoundary old s2)
  let s4 := (State.intakeBoundary old (s3.cipherBoundary cs old)).headgateBoundary
  State.lineRestart old ((State.engBoundary old s4).convBoundary cs old)

/-- The lanes take a commit at its boundary, unless a thermal shutdown holds them. -/
def State.laneCommits (old s : State) : State :=
  if s.flag Reg.PWR_STATUS_SHUTDOWN then s else State.moduleBoundary old (State.lanesBoundary old s)

/-- The control plane takes a commit at its boundary. -/
def State.controlCommit (cs : List Staged) (old s : State) : State :=
  let s1 := State.monitorBoundary old (State.timingBoundary old s)
  ((State.perfBoundary old s1).powerBoundary cs).ctlBoundary cs old

/-- The mode and profile that a commit puts in force (R78, R94). -/
def State.takeMode (cs : List Staged) (s : State) : State :=
  if cs.any (opIn [0x0120]) then
    (s.set Reg.MODE_STATUS_MODE (s.get Reg.MODE_CTRL_MODE)).set Reg.MODE_STATUS_PROFILE (s.get Reg.MODE_CTRL_PROFILE)
  else s

/-- A change of mode starts; a change of profile is made (R80, R81). -/
def State.modeCommit (old s : State) : State :=
  if s.mode ≠ old.mode then State.modeStart old s
  else if s.profile ≠ old.profile then s.profileStart
  else s

/-- The coherent blocks follow commits: they run, or a change out of module mode brings them back (log entry 86). -/
def State.lineFollows (old s : State) : Bool := s.coherent || (old.mode == 3 && s.mode != 3 && !s.halted)

/-- Every domain swaps in the staged values `cs` (R40, R671). -/
def State.swapIn (cs : List Staged) (old : State) : State :=
  let s1 := (cs.foldl applyStaged old).takeMode cs
  let s2 := State.laneCommits old s1
  let s3 := if State.lineFollows old s2 then s2.lineCommit cs old else s2
  let s4 := s3.controlCommit cs old
  (State.modeCommit old s4.fiQuenched).powerConverters

/-- The boundary of a mailbox's commit has passed: its staging space is free (R666, R672). -/
def State.passBoundary (s : State) (mb : Nat) : State :=
  let m := s.mbox mb
  s.setMbox mb { m with txn := { m.txn with staged := [], boundary := some (BitVec.ofNat 32 s.frm.mfn, s.devNs, s.clock) } }

/-- COMMIT_BOUNDARY: the commits due at this multiframe boundary take effect; switches of the same boundary follow them (R372, R671, R673). -/
def execCommitBoundary (s : State) : Out :=
  match s.commitsDue with
  | [] => .next s
  | due =>
    let s1 := s.swapIn (due.flatMap (fun mb => (s.mbox mb).txn.staged))
    done s (due.foldl State.passBoundary s1).beginMultiframe

/-- TXN_COMMIT_DONE: the boundary has passed in every domain: answer, locks, COMMITS (R672). -/
def execTxnCommitDone (mb : Fin 8) (s : State) : Out :=
  let m := s.mbox mb.val
  match m.txn.boundary with
  | none => .next s
  | some b =>
    if m.txn.state ≠ 2 then .next s
    else
      let t := { m.txn with state := 3, locks := [], lastMfn := b.1, boundary := none }
      let s1 := (s.setMbox mb.val { m with txn := t }).bump Cnt.COMMITS
      done s (s1.finish mb.val (commitReply m.txn.id b.1.toNat b.2.1))

end Sys2Proof.Machine
end

