-- ==== Sys2Proof/Machine/Ring.lean ====
section
/-! DEFINITION. Mailbox rings, firmware ready, a restart of Omrek (R556, R658–R662, R674, R755, R756). -/

namespace Sys2Proof.Machine

/-! ### Taking a command (R660, R661) -/

/-- The payload rows of R680 for transactions. -/
def payloadsTxn : List PayloadRow := [
  ⟨0x0201, .fix 0, []⟩,
  ⟨0x0202, .fix 0, []⟩,
  ⟨0x0203, .fix 0, []⟩,
  ⟨0x0204, .fix 4, [.among 0 1 [0, 1, 2, 3, 4, 5, 6, 7, 0xFF], .zero 1 3]⟩]

/-- Every command of the manual. -/
def payloadRows : List PayloadRow :=
  payloadsCtl ++ payloadsConv ++ payloadsRx ++ payloadsTx ++ payloadsBurst ++ payloadsFec ++ payloadsFrm ++ payloadsTsi ++ payloadsCipher ++
    payloadsIntake ++ payloadsHeadgate ++ payloadsEng ++ payloadsMem ++ payloadsLanes ++ payloadsModule ++ payloadsTiming ++ payloadsMonitor ++
    payloadsPerf ++ payloadsPower ++ payloadsTest ++ payloadsTxn

/-- What Omrek answers before it carries a command out, where a check of R661 fails. -/
def Mailbox.refusal (m : Mailbox) : Option Reply :=
  match payloadRows.find? (fun r => r.op == m.opcode) with
  | none => some (err cUNSUPPORTED)
  | some r =>
    if m.flags / 2 ≠ 0 || bitsOf (m.word 1).toNat 11 21 ≠ 0 || 1008 < m.length then some (err cINVALID)
    else if !r.len.ok m.payload then some (err cINVALID)
    else (fieldsBad r.fields m.payload).map (fun i => { code := cINVALID, index := i })

/-- Omrek takes the command of a mailbox: the idle timer restarts, the checks of R661 are made (R661, R667). -/
def State.takeRing (s : State) (mb : Nat) : State :=
  let m := s.mbox mb
  let s1 := s.setMbox mb { m with phase := .taken, txn := { m.txn with lastCmd := s.clock } }
  match m.refusal with
  | some r => s1.answer mb r
  | none => s1

/-- Omrek, or the ROM loader on MB0, serves the command now (R659, R756). -/
def State.serves (s : State) (mb : Nat) : Bool :=
  let st := s.get Reg.FW_STATUS_STATE
  st == 2 || st == 4 || (s.hostDownload && mb == 0 && ((s.mbox 0).opcode == 0x0C01 || (s.mbox 0).opcode == 0x0C02))

/-- The ring itself: a second one is discarded and counted (R658). -/
def State.ring (s : State) (via : Iface) (mb : Nat) : State :=
  let m := s.mbox mb
  if m.phase ≠ .idle then s.bump Cnt.MB_WRITES_IGNORED
  else
    let s1 := s.setMbox mb { m with phase := .waiting, owner := via }
    if s1.serves mb then s1.takeRing mb else s1

/-- MAILBOX_RING: a write of RING to a mailbox's doorbell (R658, R659). -/
def execMailboxRing (via : Iface) (mb : Fin 8) (s : State) : Out := done s ((s.ring via mb.val).mdioAccess via (0x103F8 + 0x400 * mb.val) 1)

/-! ### Direct writes (R8, R11, R652, R656–R658) -/

/-- One aligned word is written: RING in a doorbell rings (R8, R11, R656, R658). -/
def State.hostWrite (s : State) (via : Iface) (e : Nat × Word) : State :=
  let mb := (e.1 - 0x10000) / 0x400
  (if 0x10000 ≤ e.1 && e.1 < 0x12000 && (e.1 - 0x10000) % 0x400 == 0x3F8 && e.2.getLsbD 0 then s.ring via mb
    else s.directWrite e.1 e.2).mdioAccess via e.1 e.2

/-- A write of `v` to register `r` of the MMD 30 window: ADDR, AUTOINC, or DATA, whose upper half writes the word to ADDR (R656). -/
def State.mmdWrite (s : State) (r v : Nat) : State :=
  let f := s.iface .mdio
  let half (w : Word) (k : Nat) : Word := BitVec.ofNat 32 (putBits w.toNat (16 * k) 16 (v % 65536))
  match r with
  | 0 => s.setIface .mdio { f with mdioAddr := half f.mdioAddr 0 }
  | 1 => s.setIface .mdio { f with mdioAddr := half f.mdioAddr 1 }
  | 2 => s.setIface .mdio { f with mdioData := half f.mdioData 0 }
  | 3 => s.hostWrite .mdio (f.mdioAddr.toNat, half f.mdioData 1)
  | _ => s.setIface .mdio { f with mdioAutoinc := v % 2 == 1 }

/-- REGISTER_WRITE: a direct write access of `size` bytes; each doubleword of a longer access is a word access of its own, any other access is
discarded (R8, R652, R656). -/
def execRegisterWrite (via : Iface) (addr size : Nat) (vs : List Word) (s : State) : Out :=
  if mmdAccess via addr size then done s (s.mmdWrite addr (vs.headD 0).toNat)
  else done s ((addressed addr (vs.take (accessWords via addr size))).foldl (fun s e => s.hostWrite via e) s)

/-! ### What passes on the serial targets (R656) -/

/-- What a frame on the SPI or I²C target asks for. -/
inductive SerialAccess where
  | write (addr : Nat) (vs : List Word)
  | read (addr words : Nat)
  | ignored
  deriving DecidableEq, Repr

/-- Whole words, the most significant byte first. -/
def serialWords (bs : List Byte) : List Word := (List.range (bs.length / 4)).map (fun k => BitVec.ofNat 32 (be 4 bs (4 * k)))

/-- The bytes that the SPI target takes while CS_N is low: 0x02 writes, 0x0B reads after one dummy byte, anything else is ignored. -/
def spiAccess (bs : List Byte) : SerialAccess :=
  if bs.length < 5 then .ignored
  else if u8 bs 0 = 0x02 then .write (be 4 bs 1) (serialWords (bs.drop 5))
  else if u8 bs 0 = 0x0B then .read (be 4 bs 1) ((bs.length - 6) / 4)
  else .ignored

/-- The bytes that the I²C target takes after START, from the address byte on, and the bytes that the master reads after a repeated START; its own
address is 0x48 and the two straps. -/
def i2cAccess (straps : Nat) (bs : List Byte) (reads : Nat) : SerialAccess :=
  if bs.length < 5 || u8 bs 0 ≠ 2 * (0x48 + straps) then .ignored
  else if reads = 0 then .write (be 4 bs 1) (serialWords (bs.drop 5))
  else .read (be 4 bs 1) (reads / 4)

/-! ### Firmware ready (R755) -/

/-- The rings that wait are taken. -/
def State.takeWaiting (s : State) : State :=
  (List.range 8).foldl (fun (s : State) (mb : Nat) => if (s.mbox mb).phase = .waiting then s.takeRing mb else s) s

/-- The status of the image that starts. -/
def State.showImage (s : State) (slot : Nat) (fallback : Bool) (img : List Byte) : State :=
  let s1 := (((s.set Reg.FW_STATUS_STATE 2).set Reg.FW_STATUS_SLOT slot).set Reg.FW_STATUS_FALLBACK (b2n fallback)).set Reg.FW_VERSION_VERSION (u32 img 4)
  s1.set Reg.FW_READY_MS_MS (min (s.clock / msT 1) 0xFFFF)

/-- FIRMWARE_READY: a verified image starts; `hottest` is the hottest die sensor, in 1/1000 °C, which decides whether a thermal shutdown is entered
again (R755, R762). -/
def execFirmwareReady (hottest : Int) (s : State) : Out :=
  match s.bootImage with
  | some (slot, fallback, img) =>
    let s1 := s.showImage slot fallback img
    let s2 := { s1 with power := { s1.power with image := none, download := none, hottest := hottest } }
    let s3 := ((s2.applyPowered s2.mode s2.profile).takeWaiting)
    let hot := s.power.wasHot && decide (1000 * (Int.ofNat (s.get Reg.PWR_CFG_SHUT_C) - 10) ≤ hottest)
    done s (if hot then s3.thermalShutdown else s3)
  | none => .next s

/-! ### A restart of Omrek (R556, R662, R674) -/

/-- What runs for a mailbox runs on and answers nobody: the mailbox has been answered. -/
def State.disown (s : State) (mb : Nat) : State :=
  let re (k : Nat) : Nat := if k = mb then 8 else k
  let fg : Option FgCal := s.conv.fg.map (fun x => { x with mb := x.mb.map re })
  let level : Option LevelMeasure := s.tx.measure.map (fun x => { x with mb := re x.mb })
  let bus : List KeyTransfer := s.cip.bus.map (fun x => { x with mb := x.mb.map re })
  let hold : Option (Nat × Nat) := s.eng.holdMb.map (fun x => (re x.1, x.2))
  let passes : Tab (Option ScrubPass) := s.mem.passes.map (fun e => (e.1, e.2.map (fun x => { x with mb := re x.mb })))
  let reqs : List PsReq := s.ln.reqs.map (fun x => { x with mb := re x.mb })
  let modu : Option ModMeasure := s.ln.measure.map (fun x => { x with mb := re x.mb })
  let spi : Option OptXfer := s.opt.spi.map (fun x => { x with mb := re x.mb })
  let i2c : Option OptXfer := s.opt.i2c.map (fun x => { x with mb := re x.mb })
  let self : Option SelfTest := s.test.selfTest.map (fun x => { x with mb := re x.mb })
  let otp : Option OtpWrite := s.test.write.map (fun x => { x with mb := re x.mb })
  let flash : Option (Nat × Bool) := s.power.flashMb.map (fun x => (re x.1, x.2))
  let shut : Option Shutdown := s.power.shutdown.map (fun x => { x with mb := re x.mb })
  { s with
    conv := { s.conv with fg := fg }
    tx := { s.tx with measure := level }
    cip := { s.cip with bus := bus }
    eng := { s.eng with holdMb := hold }
    mem := { s.mem with passes := passes }
    ln := { s.ln with reqs := reqs, measure := modu }
    opt := { s.opt with spi := spi, i2c := i2c }
    test := { s.test with selfTest := self, write := otp }
    power := { s.power with flashMb := flash, shutdown := shut } }

/-- The shadows of an accepted commit are written: at the end of the 250 µs of R671 for sure, before that a free value says so (R674). -/
def State.shadowsWritten (s : State) (mb : Nat) : Bool × State :=
  let t := (s.mbox mb).txn
  if t.boundary.isSome || t.acceptedAt + usT 250 ≤ s.clock then (true, s)
  else let r := s.free 674; (r.1 % 2 == 1, r.2)

/-- One mailbox at a restart: an open transaction is rolled back, one that commits unless its shadows are written; a pending command is answered
BUSY. -/
def State.restartMailbox (s : State) (mb : Nat) : State :=
  let m := s.mbox mb
  let busy (s : State) : State := if (s.mbox mb).phase = .idle then s else (s.answer mb (err cBUSY)).disown mb
  if m.txn.state = 2 then
    let w := s.shadowsWritten mb
    if w.1 then w.2 else busy ((w.2.rollbackTxn mb cBUSY 0).txnEnd mb)
  else if m.txn.state = 1 then busy ((s.rollbackTxn mb cBUSY 0).txnEnd mb)
  else busy s

/-- OMREK_RESTART: an uncorrectable read of word `word` of its SRAM restarts the firmware (R556, R662, R674). -/
def execOmrekRestart (word : Nat) (s : State) : Out :=
  if s.get Reg.FW_STATUS_STATE ≠ 2 && s.get Reg.FW_STATUS_STATE ≠ 4 then .next s
  else
    let s1 := ((s.uncorrectable 13 0 (word % 262144) 12).set Reg.MEM_EVENTS_POISON_BITE 1).bump Cnt.FW_RESTARTS
    done s ((List.range 8).foldl State.restartMailbox s1)

end Sys2Proof.Machine
end

