-- ==== Sys2Proof/Machine/Dispatch.lean ====
section
/-! DEFINITION. The command of each constructor: one arm each. -/

namespace Sys2Proof.Machine

/-- The effect of a command on everything but the queue. -/
def exec (i : Instr) (s : State) : Host.Outcome State Fault Refusal :=
  match i with
  | .coldReset aon => Sys2Proof.Machine.execColdReset aon s
  | .warmReset pin perst => Sys2Proof.Machine.execWarmReset pin perst s
  | .pcieReset => Sys2Proof.Machine.execPcieReset s
  | .railUndervoltage rail => Sys2Proof.Machine.execRailUndervoltage rail s
  | .powerLoss => Sys2Proof.Machine.execPowerLoss s
  | .resetRelease bootSel mdioAd i2cAd io2High => Sys2Proof.Machine.execResetRelease bootSel mdioAd i2cAd io2High s
  | .pcieLinkUp => Sys2Proof.Machine.execPcieLinkUp s
  | .firmwareReady hottest => Sys2Proof.Machine.execFirmwareReady hottest s
  | .bootFailed => Sys2Proof.Machine.execBootFailed s
  | .linePllFirstLock => Sys2Proof.Machine.execLinePllFirstLock s
  | .localFrameBoundary m => Sys2Proof.Machine.execLocalFrameBoundary m s
  | .multiframeBoundary figs => Sys2Proof.Machine.execMultiframeBoundary figs s
  | .commitBoundary => Sys2Proof.Machine.execCommitBoundary s
  | .txnCommitDone mb => Sys2Proof.Machine.execTxnCommitDone mb s
  | .timeSecondBoundary => Sys2Proof.Machine.execTimeSecondBoundary s
  | .mailboxRing via mb => Sys2Proof.Machine.execMailboxRing via mb s
  | .mailboxWindowWrite via mb off v => Sys2Proof.Machine.execMailboxWindowWrite via mb off v s
  | .txFieldWrite via addr v => Sys2Proof.Machine.execTxFieldWrite via addr v s
  | .w1cWrite via addr v racing => Sys2Proof.Machine.execW1cWrite via addr v racing s
  | .statsSnap via addr v => Sys2Proof.Machine.execStatsSnap via addr v s
  | .snapDone addr => Sys2Proof.Machine.execSnapDone addr s
  | .rcRead via span racing => Sys2Proof.Machine.execRcRead via span racing s
  | .loWordRead via span => Sys2Proof.Machine.execLoWordRead via span s
  | .timeLoRead via => Sys2Proof.Machine.execTimeLoRead via s
  | .logPop via v => Sys2Proof.Machine.execLogPop via v s
  | .logThresh via v => Sys2Proof.Machine.execLogThresh via v s
  | .intMaskWrite via hi v => Sys2Proof.Machine.execIntMaskWrite via hi v s
  | .msixUnmask vector => Sys2Proof.Machine.execMsixUnmask vector s
  | .bar2Read addr size => Sys2Proof.Machine.execBar2Read addr size s
  | .registerWrite via addr size vs => Sys2Proof.Machine.execRegisterWrite via addr size vs s
  | .quenchDrained kind idx => Sys2Proof.Machine.execQuenchDrained kind idx s
  | .quenchTimeout kind idx left => Sys2Proof.Machine.execQuenchTimeout kind idx left s
  | .xqRecentre lane shift => Sys2Proof.Machine.execXqRecentre lane shift s
  | .modeChangeGate => Sys2Proof.Machine.execModeChangeGate s
  | .modeChangeDone => Sys2Proof.Machine.execModeChangeDone s
  | .clampEpisodeEnd loop inst => Sys2Proof.Machine.execClampEpisodeEnd loop inst s
  | .calStepStart adc => Sys2Proof.Machine.execCalStepStart adc s
  | .calStepMeasureEnd adc res cal => Sys2Proof.Machine.execCalStepMeasureEnd adc res cal s
  | .reqRotationStep adc => Sys2Proof.Machine.execReqRotationStep adc s
  | .fgCalDone adcs dacs => Sys2Proof.Machine.execFgCalDone adcs dacs s
  | .acqStepComplete furrow freq cd => Sys2Proof.Machine.execAcqStepComplete furrow freq cd s
  | .acqStepTimeout furrow => Sys2Proof.Machine.execAcqStepTimeout furrow s
  | .acqTimeout furrow => Sys2Proof.Machine.execAcqTimeout furrow s
  | .furrowLosSet furrow => Sys2Proof.Machine.execFurrowLosSet furrow s
  | .furrowLosClear furrow => Sys2Proof.Machine.execFurrowLosClear furrow s
  | .lockLost furrow condition => Sys2Proof.Machine.execLockLost furrow condition s
  | .fastReacqTimeout furrow => Sys2Proof.Machine.execFastReacqTimeout furrow s
  | .cycleSlip furrow => Sys2Proof.Machine.execCycleSlip furrow s
  | .agcStep inst target => Sys2Proof.Machine.execAgcStep inst target s
  | .adaptTimeout furrow => Sys2Proof.Machine.execAdaptTimeout furrow s
  | .burstDetect furrow mf pos power afc => Sys2Proof.Machine.execBurstDetect furrow mf pos power afc s
  | .burstSyncTimeout furrow => Sys2Proof.Machine.execBurstSyncTimeout furrow s
  | .burstCapture furrow mf pos seen cut => Sys2Proof.Machine.execBurstCapture furrow mf pos seen cut s
  | .burstHeader furrow header arrival rssi => Sys2Proof.Machine.execBurstHeader furrow header arrival rssi s
  | .burstEnd furrow resid cd snr final => Sys2Proof.Machine.execBurstEnd furrow resid cd snr final s
  | .grantMissed leaf => Sys2Proof.Machine.execGrantMissed leaf s
  | .grantMapBuild starts => Sys2Proof.Machine.execGrantMapBuild starts s
  | .gmapLate => Sys2Proof.Machine.execGmapLate s
  | .surveyRetryWait => Sys2Proof.Machine.execSurveyRetryWait s
  | .leafGrantTimeout => Sys2Proof.Machine.execLeafGrantTimeout s
  | .leafBurstTx furrow => Sys2Proof.Machine.execLeafBurstTx furrow s
  | .codewordDecoded furrow burst r => Sys2Proof.Machine.execCodewordDecoded furrow burst r s
  | .frameHuntWord furrow bits => Sys2Proof.Machine.execFrameHuntWord furrow bits s
  | .frameReceived furrow faws pq => Sys2Proof.Machine.execFrameReceived furrow faws pq s
  | .lofSet furrow => Sys2Proof.Machine.execLofSet furrow s
  | .lofClear furrow => Sys2Proof.Machine.execLofClear furrow s
  | .multiframeStreamRx group stream => Sys2Proof.Machine.execMultiframeStreamRx group stream s
  | .mgmtMessageRx group => Sys2Proof.Machine.execMgmtMessageRx group s
  | .pqUnstableCheck => Sys2Proof.Machine.execPqUnstableCheck s
  | .holdoffExpire defect => Sys2Proof.Machine.execHoldoffExpire defect s
  | .wtrExpire => Sys2Proof.Machine.execWtrExpire s
  | .settlingEnd => Sys2Proof.Machine.execSettlingEnd s
  | .rlBlockRx lane header payload => Sys2Proof.Machine.execRlBlockRx lane header payload s
  | .rilllinkFrameRx lane early late offset => Sys2Proof.Machine.execRilllinkFrameRx lane early late offset s
  | .rlAlignLoss lane => Sys2Proof.Machine.execRlAlignLoss lane s
  | .slipFrameWrite turnout outbound dark => Sys2Proof.Machine.execSlipFrameWrite turnout outbound dark s
  | .slipRead turnout outbound => Sys2Proof.Machine.execSlipRead turnout outbound s
  | .cipherUnitTx turnout plain => Sys2Proof.Machine.execCipherUnitTx turnout plain s
  | .cipherUnitRx turnout header marked => Sys2Proof.Machine.execCipherUnitRx turnout header marked s
  | .cipherUnitEnd turnout ciphertext tag pad marked failed => Sys2Proof.Machine.execCipherUnitEnd turnout ciphertext tag pad marked failed s
  | .hostPortWordRx turnout taken last => Sys2Proof.Machine.execHostPortWordRx turnout taken last s
  | .packetArrival turnout arrived last marked => Sys2Proof.Machine.execPacketArrival turnout arrived last marked s
  | .parseStart => Sys2Proof.Machine.execParseStart s
  | .packetClassified turnout => Sys2Proof.Machine.execPacketClassified turnout s
  | .actionStage turnout => Sys2Proof.Machine.execActionStage turnout s
  | .backwaterReentry => Sys2Proof.Machine.execBackwaterReentry s
  | .headgateSelect turnout => Sys2Proof.Machine.execHeadgateSelect turnout s
  | .packetEgress turnout => Sys2Proof.Machine.execPacketEgress turnout s
  | .omrekRestart word => Sys2Proof.Machine.execOmrekRestart word s
  | .scrubWord mem requested met => Sys2Proof.Machine.execScrubWord mem requested met s
  | .scrubLate mem => Sys2Proof.Machine.execScrubLate mem s
  | .scrubPassEnd mem => Sys2Proof.Machine.execScrubPassEnd mem s
  | .taskDispatch => Sys2Proof.Machine.execTaskDispatch s
  | .orderGateAcquire engine thread => Sys2Proof.Machine.execOrderGateAcquire engine thread s
  | .taskCommit turnout => Sys2Proof.Machine.execTaskCommit turnout s
  | .lateralConvert => Sys2Proof.Machine.execLateralConvert s
  | .iAdd engine thread => Sys2Proof.Machine.execIAdd engine thread s
  | .iSub engine thread => Sys2Proof.Machine.execISub engine thread s
  | .iAnd engine thread => Sys2Proof.Machine.execIAnd engine thread s
  | .iOr engine thread => Sys2Proof.Machine.execIOr engine thread s
  | .iXor engine thread => Sys2Proof.Machine.execIXor engine thread s
  | .iShl engine thread => Sys2Proof.Machine.execIShl engine thread s
  | .iShr engine thread => Sys2Proof.Machine.execIShr engine thread s
  | .iSar engine thread => Sys2Proof.Machine.execISar engine thread s
  | .iMul engine thread => Sys2Proof.Machine.execIMul engine thread s
  | .iSlt engine thread => Sys2Proof.Machine.execISlt engine thread s
  | .iSltu engine thread => Sys2Proof.Machine.execISltu engine thread s
  | .iAddi engine thread => Sys2Proof.Machine.execIAddi engine thread s
  | .iAndi engine thread => Sys2Proof.Machine.execIAndi engine thread s
  | .iOri engine thread => Sys2Proof.Machine.execIOri engine thread s
  | .iXori engine thread => Sys2Proof.Machine.execIXori engine thread s
  | .iShli engine thread => Sys2Proof.Machine.execIShli engine thread s
  | .iShri engine thread => Sys2Proof.Machine.execIShri engine thread s
  | .iSari engine thread => Sys2Proof.Machine.execISari engine thread s
  | .iLui engine thread => Sys2Proof.Machine.execILui engine thread s
  | .iBeq engine thread => Sys2Proof.Machine.execIBeq engine thread s
  | .iBne engine thread => Sys2Proof.Machine.execIBne engine thread s
  | .iBlt engine thread => Sys2Proof.Machine.execIBlt engine thread s
  | .iBltu engine thread => Sys2Proof.Machine.execIBltu engine thread s
  | .iBge engine thread => Sys2Proof.Machine.execIBge engine thread s
  | .iBgeu engine thread => Sys2Proof.Machine.execIBgeu engine thread s
  | .iJal engine thread => Sys2Proof.Machine.execIJal engine thread s
  | .iJr engine thread => Sys2Proof.Machine.execIJr engine thread s
  | .iLdb engine thread => Sys2Proof.Machine.execILdb engine thread s
  | .iLdh engine thread => Sys2Proof.Machine.execILdh engine thread s
  | .iLdw engine thread => Sys2Proof.Machine.execILdw engine thread s
  | .iLdd engine thread => Sys2Proof.Machine.execILdd engine thread s
  | .iStb engine thread => Sys2Proof.Machine.execIStb engine thread s
  | .iSth engine thread => Sys2Proof.Machine.execISth engine thread s
  | .iStw engine thread => Sys2Proof.Machine.execIStw engine thread s
  | .iStd engine thread => Sys2Proof.Machine.execIStd engine thread s
  | .iPlb engine thread => Sys2Proof.Machine.execIPlb engine thread s
  | .iPlh engine thread => Sys2Proof.Machine.execIPlh engine thread s
  | .iPlw engine thread => Sys2Proof.Machine.execIPlw engine thread s
  | .iPld engine thread => Sys2Proof.Machine.execIPld engine thread s
  | .iPsb engine thread => Sys2Proof.Machine.execIPsb engine thread s
  | .iPsh engine thread => Sys2Proof.Machine.execIPsh engine thread s
  | .iPsw engine thread => Sys2Proof.Machine.execIPsw engine thread s
  | .iPsd engine thread => Sys2Proof.Machine.execIPsd engine thread s
  | .iPadj engine thread => Sys2Proof.Machine.execIPadj engine thread s
  | .iCrc engine thread => Sys2Proof.Machine.execICrc engine thread s
  | .iCsum engine thread => Sys2Proof.Machine.execICsum engine thread s
  | .iOread engine thread => Sys2Proof.Machine.execIOread engine thread s
  | .iOadd engine thread => Sys2Proof.Machine.execIOadd engine thread s
  | .iOswp engine thread => Sys2Proof.Machine.execIOswp engine thread s
  | .iOcas engine thread => Sys2Proof.Machine.execIOcas engine thread s
  | .iUread engine thread => Sys2Proof.Machine.execIUread engine thread s
  | .iUadd engine thread => Sys2Proof.Machine.execIUadd engine thread s
  | .iUswp engine thread => Sys2Proof.Machine.execIUswp engine thread s
  | .iUcas engine thread => Sys2Proof.Machine.execIUcas engine thread s
  | .iCsrr engine thread => Sys2Proof.Machine.execICsrr engine thread s
  | .iCsrw engine thread => Sys2Proof.Machine.execICsrw engine thread s
  | .iEmit engine thread => Sys2Proof.Machine.execIEmit engine thread s
  | .iEnd engine thread => Sys2Proof.Machine.execIEnd engine thread s
  | .iOrdrel engine thread => Sys2Proof.Machine.execIOrdrel engine thread s
  | .laneSignalDetect lane => Sys2Proof.Machine.execLaneSignalDetect lane s
  | .laneSignalLoss lane => Sys2Proof.Machine.execLaneSignalLoss lane s
  | .laneAdaptLock lane snr low mid high => Sys2Proof.Machine.execLaneAdaptLock lane snr low mid high s
  | .laneAdaptFail lane => Sys2Proof.Machine.execLaneAdaptFail lane s
  | .laneLockLoss lane => Sys2Proof.Machine.execLaneLockLoss lane s
  | .ctleStep lane best => Sys2Proof.Machine.execCtleStep lane best s
  | .portAlign lane skew => Sys2Proof.Machine.execPortAlign lane skew s
  | .portAlignLoss lane markers skew => Sys2Proof.Machine.execPortAlignLoss lane markers skew s
  | .rsCodewordRx lane fixed => Sys2Proof.Machine.execRsCodewordRx lane fixed s
  | .hiSerWindow lane => Sys2Proof.Machine.execHiSerWindow lane s
  | .lanePstateDone lane => Sys2Proof.Machine.execLanePstateDone lane s
  | .laneExitTimeout lane => Sys2Proof.Machine.execLaneExitTimeout lane s
  | .patLock lane gained => Sys2Proof.Machine.execPatLock lane gained s
  | .tlSyncGain tl => Sys2Proof.Machine.execTlSyncGain tl s
  | .tlSyncLoss tl sig => Sys2Proof.Machine.execTlSyncLoss tl sig s
  | .tlRealign tl => Sys2Proof.Machine.execTlRealign tl s
  | .tlMarkRx tl err => Sys2Proof.Machine.execTlMarkRx tl err s
  | .todMessageRx tl data closed => Sys2Proof.Machine.execTodMessageRx tl data closed s
  | .todMessageTx tl => Sys2Proof.Machine.execTodMessageTx tl s
  | .markSeenTimeout tl => Sys2Proof.Machine.execMarkSeenTimeout tl s
  | .moduleFallback media host => Sys2Proof.Machine.execModuleFallback media host s
  | .moduleFallbackEnd media host => Sys2Proof.Machine.execModuleFallbackEnd media host s
  | .innerLockLoss media => Sys2Proof.Machine.execInnerLockLoss media s
  | .modMeasureDone means => Sys2Proof.Machine.execModMeasureDone means s
  | .leafMeasureDone leaf => Sys2Proof.Machine.execLeafMeasureDone leaf s
  | .refActivityLoss ref => Sys2Proof.Machine.execRefActivityLoss ref s
  | .refActivityReturn ref => Sys2Proof.Machine.execRefActivityReturn ref s
  | .freqGateEnd ref ofs => Sys2Proof.Machine.execFreqGateEnd ref ofs s
  | .refQualify ref => Sys2Proof.Machine.execRefQualify ref s
  | .dpllLock => Sys2Proof.Machine.execDpllLock s
  | .historyOk => Sys2Proof.Machine.execHistoryOk s
  | .holdoverExpire => Sys2Proof.Machine.execHoldoverExpire s
  | .fpiEdge input => Sys2Proof.Machine.execFpiEdge input s
  | .fpiMiss input => Sys2Proof.Machine.execFpiMiss input s
  | .txnIdleTimeout mb => Sys2Proof.Machine.execTxnIdleTimeout mb s
  | .gpioEdge pin level => Sys2Proof.Machine.execGpioEdge pin level s
  | .gaugeTimerTrigger => Sys2Proof.Machine.execGaugeTimerTrigger s
  | .gaugeConversionEnd code beyond => Sys2Proof.Machine.execGaugeConversionEnd code beyond s
  | .gaugeSequenceEnd => Sys2Proof.Machine.execGaugeSequenceEnd s
  | .tapCaptureStart => Sys2Proof.Machine.execTapCaptureStart s
  | .tapCaptureDone runIn words => Sys2Proof.Machine.execTapCaptureDone runIn words s
  | .logRecordWrite block => Sys2Proof.Machine.execLogRecordWrite block s
  | .sampleTag lateral => Sys2Proof.Machine.execSampleTag lateral s
  | .sampleRecordWrite lateral => Sys2Proof.Machine.execSampleRecordWrite lateral s
  | .challengeExpire => Sys2Proof.Machine.execChallengeExpire s
  | .fiTimeout injector => Sys2Proof.Machine.execFiTimeout injector s
  | .fiReorderIdle injector => Sys2Proof.Machine.execFiReorderIdle injector s
  | .selftestDone failed words mem inst first => Sys2Proof.Machine.execSelftestDone failed words mem inst first s
  | .otpWriteDone verified => Sys2Proof.Machine.execOtpWriteDone verified s
  | .avsStep rail target acked => Sys2Proof.Machine.execAvsStep rail target acked s
  | .pmbusRetry acked => Sys2Proof.Machine.execPmbusRetry acked s
  | .pmbusStatusPoll oc uv => Sys2Proof.Machine.execPmbusStatusPoll oc uv s
  | .thermalSample temps => Sys2Proof.Machine.execThermalSample temps s
  | .throttleStep => Sys2Proof.Machine.execThrottleStep s
  | .thermalShutdown => Sys2Proof.Machine.execThermalShutdown s
  | .shutdownQuiesced => Sys2Proof.Machine.execShutdownQuiesced s
  | .shutdownSafeOff => Sys2Proof.Machine.execShutdownSafeOff s
  | .sysLatencySet mb => Sys2Proof.Machine.execSysLatencySet mb s
  | .sysLatencyGet mb => Sys2Proof.Machine.execSysLatencyGet mb s
  | .sysQuenchTimeoutSet mb => Sys2Proof.Machine.execSysQuenchTimeoutSet mb s
  | .sysModeSet mb => Sys2Proof.Machine.execSysModeSet mb s
  | .sysModeGet mb => Sys2Proof.Machine.execSysModeGet mb s
  | .sysLoopBoundsSet mb => Sys2Proof.Machine.execSysLoopBoundsSet mb s
  | .sysLoopBoundsGet mb => Sys2Proof.Machine.execSysLoopBoundsGet mb s
  | .gpioCfgSet mb => Sys2Proof.Machine.execGpioCfgSet mb s
  | .gpioWrite mb => Sys2Proof.Machine.execGpioWrite mb s
  | .gpioGet mb => Sys2Proof.Machine.execGpioGet mb s
  | .optBusCfgSet mb => Sys2Proof.Machine.execOptBusCfgSet mb s
  | .optSpiXfer mb => Sys2Proof.Machine.execOptSpiXfer mb s
  | .optI2cXfer mb => Sys2Proof.Machine.execOptI2cXfer mb s
  | .gaugeCfgSet mb => Sys2Proof.Machine.execGaugeCfgSet mb s
  | .gaugeLimitSet mb => Sys2Proof.Machine.execGaugeLimitSet mb s
  | .gaugeTrigger mb => Sys2Proof.Machine.execGaugeTrigger mb s
  | .gaugeUrgent mb => Sys2Proof.Machine.execGaugeUrgent mb s
  | .gaugeRead mb => Sys2Proof.Machine.execGaugeRead mb s
  | .tapCfgSet mb => Sys2Proof.Machine.execTapCfgSet mb s
  | .tapArm mb => Sys2Proof.Machine.execTapArm mb s
  | .tapRead mb => Sys2Proof.Machine.execTapRead mb s
  | .logTelemSet mb => Sys2Proof.Machine.execLogTelemSet mb s
  | .logStatusGet mb => Sys2Proof.Machine.execLogStatusGet mb s
  | .perfCfgSet mb => Sys2Proof.Machine.execPerfCfgSet mb s
  | .perfLatCfgSet mb => Sys2Proof.Machine.execPerfLatCfgSet mb s
  | .perfClear mb => Sys2Proof.Machine.execPerfClear mb s
  | .perfSampleRead mb => Sys2Proof.Machine.execPerfSampleRead mb s
  | .perfCountersGet mb => Sys2Proof.Machine.execPerfCountersGet mb s
  | .sysReset mb => Sys2Proof.Machine.execSysReset mb s
  | .sysShutdown mb => Sys2Proof.Machine.execSysShutdown mb s
  | .pwrCfgSet mb => Sys2Proof.Machine.execPwrCfgSet mb s
  | .pwrStatusGet mb => Sys2Proof.Machine.execPwrStatusGet mb s
  | .intRouteSet mb => Sys2Proof.Machine.execIntRouteSet mb s
  | .intStatusGet mb => Sys2Proof.Machine.execIntStatusGet mb s
  | .txnBegin mb => Sys2Proof.Machine.execTxnBegin mb s
  | .txnCommit mb => Sys2Proof.Machine.execTxnCommit mb s
  | .txnRollback mb => Sys2Proof.Machine.execTxnRollback mb s
  | .txnStatus mb => Sys2Proof.Machine.execTxnStatus mb s
  | .lineRxCfgSet mb => Sys2Proof.Machine.execLineRxCfgSet mb s
  | .lineRxStatusGet mb => Sys2Proof.Machine.execLineRxStatusGet mb s
  | .lineReacquire mb => Sys2Proof.Machine.execLineReacquire mb s
  | .lineTxCfgSet mb => Sys2Proof.Machine.execLineTxCfgSet mb s
  | .lineTxSquelch mb => Sys2Proof.Machine.execLineTxSquelch mb s
  | .lineTxStatusGet mb => Sys2Proof.Machine.execLineTxStatusGet mb s
  | .dacCorrSet mb => Sys2Proof.Machine.execDacCorrSet mb s
  | .txMaskSet mb => Sys2Proof.Machine.execTxMaskSet mb s
  | .dpdCurveSet mb => Sys2Proof.Machine.execDpdCurveSet mb s
  | .dpdUpdate mb => Sys2Proof.Machine.execDpdUpdate mb s
  | .fecCfgSet mb => Sys2Proof.Machine.execFecCfgSet mb s
  | .fecStatusGet mb => Sys2Proof.Machine.execFecStatusGet mb s
  | .fecHunt mb => Sys2Proof.Machine.execFecHunt mb s
  | .fecBurstStatusGet mb => Sys2Proof.Machine.execFecBurstStatusGet mb s
  | .frmCfgSet mb => Sys2Proof.Machine.execFrmCfgSet mb s
  | .frmStatusGet mb => Sys2Proof.Machine.execFrmStatusGet mb s
  | .protCfgSet mb => Sys2Proof.Machine.execProtCfgSet mb s
  | .protCmd mb => Sys2Proof.Machine.execProtCmd mb s
  | .protStatusGet mb => Sys2Proof.Machine.execProtStatusGet mb s
  | .tsiMapSet mb => Sys2Proof.Machine.execTsiMapSet mb s
  | .tsiMapClear mb => Sys2Proof.Machine.execTsiMapClear mb s
  | .tsiStatusGet mb => Sys2Proof.Machine.execTsiStatusGet mb s
  | .rilllinkLaneSet mb => Sys2Proof.Machine.execRilllinkLaneSet mb s
  | .rilllinkStatusGet mb => Sys2Proof.Machine.execRilllinkStatusGet mb s
  | .slipStatusGet mb => Sys2Proof.Machine.execSlipStatusGet mb s
  | .laneCfgSet mb => Sys2Proof.Machine.execLaneCfgSet mb s
  | .laneTestSet mb => Sys2Proof.Machine.execLaneTestSet mb s
  | .lanePstate mb => Sys2Proof.Machine.execLanePstate mb s
  | .laneErrInject mb => Sys2Proof.Machine.execLaneErrInject mb s
  | .laneStatusGet mb => Sys2Proof.Machine.execLaneStatusGet mb s
  | .tlaneCfgSet mb => Sys2Proof.Machine.execTlaneCfgSet mb s
  | .tlaneStatusGet mb => Sys2Proof.Machine.execTlaneStatusGet mb s
  | .modLaneSet mb => Sys2Proof.Machine.execModLaneSet mb s
  | .modDpdCurveSet mb => Sys2Proof.Machine.execModDpdCurveSet mb s
  | .modLevelMeasure mb => Sys2Proof.Machine.execModLevelMeasure mb s
  | .modDpdUpdate mb => Sys2Proof.Machine.execModDpdUpdate mb s
  | .modStatusGet mb => Sys2Proof.Machine.execModStatusGet mb s
  | .furrowRxSet mb => Sys2Proof.Machine.execFurrowRxSet mb s
  | .furrowAdaptSet mb => Sys2Proof.Machine.execFurrowAdaptSet mb s
  | .furrowRxStatusGet mb => Sys2Proof.Machine.execFurrowRxStatusGet mb s
  | .furrowReacquire mb => Sys2Proof.Machine.execFurrowReacquire mb s
  | .furrowTxSet mb => Sys2Proof.Machine.execFurrowTxSet mb s
  | .furrowTxStatusGet mb => Sys2Proof.Machine.execFurrowTxStatusGet mb s
  | .leafProvision mb => Sys2Proof.Machine.execLeafProvision mb s
  | .leafAdmit mb => Sys2Proof.Machine.execLeafAdmit mb s
  | .leafEvict mb => Sys2Proof.Machine.execLeafEvict mb s
  | .leafRelease mb => Sys2Proof.Machine.execLeafRelease mb s
  | .leafStatusGet mb => Sys2Proof.Machine.execLeafStatusGet mb s
  | .leafSeedGet mb => Sys2Proof.Machine.execLeafSeedGet mb s
  | .burstCfgSet mb => Sys2Proof.Machine.execBurstCfgSet mb s
  | .leafListGet mb => Sys2Proof.Machine.execLeafListGet mb s
  | .leafSelfSet mb => Sys2Proof.Machine.execLeafSelfSet mb s
  | .leafSelfStatusGet mb => Sys2Proof.Machine.execLeafSelfStatusGet mb s
  | .leafLevelMeasure mb => Sys2Proof.Machine.execLeafLevelMeasure mb s
  | .turnoutClientSet mb => Sys2Proof.Machine.execTurnoutClientSet mb s
  | .turnoutPktSet mb => Sys2Proof.Machine.execTurnoutPktSet mb s
  | .intakeCfgSet mb => Sys2Proof.Machine.execIntakeCfgSet mb s
  | .deeplookSet mb => Sys2Proof.Machine.execDeeplookSet mb s
  | .ternSet mb => Sys2Proof.Machine.execTernSet mb s
  | .ternGet mb => Sys2Proof.Machine.execTernGet mb s
  | .flowAdd mb => Sys2Proof.Machine.execFlowAdd mb s
  | .flowDel mb => Sys2Proof.Machine.execFlowDel mb s
  | .flowGet mb => Sys2Proof.Machine.execFlowGet mb s
  | .turnoutPktStatusGet mb => Sys2Proof.Machine.execTurnoutPktStatusGet mb s
  | .intakeStatusGet mb => Sys2Proof.Machine.execIntakeStatusGet mb s
  | .hgCfgSet mb => Sys2Proof.Machine.execHgCfgSet mb s
  | .hgTurnoutSet mb => Sys2Proof.Machine.execHgTurnoutSet mb s
  | .hgCqSet mb => Sys2Proof.Machine.execHgCqSet mb s
  | .policerSet mb => Sys2Proof.Machine.execPolicerSet mb s
  | .policerStatusGet mb => Sys2Proof.Machine.execPolicerStatusGet mb s
  | .hgQueueStatusGet mb => Sys2Proof.Machine.execHgQueueStatusGet mb s
  | .hgStatusGet mb => Sys2Proof.Machine.execHgStatusGet mb s
  | .cqReceive mb => Sys2Proof.Machine.execCqReceive mb s
  | .cqRelease mb => Sys2Proof.Machine.execCqRelease mb s
  | .engImageLoad mb => Sys2Proof.Machine.execEngImageLoad mb s
  | .engImageSelect mb => Sys2Proof.Machine.execEngImageSelect mb s
  | .engCfgSet mb => Sys2Proof.Machine.execEngCfgSet mb s
  | .engLateralSet mb => Sys2Proof.Machine.execEngLateralSet mb s
  | .engTurnoutSet mb => Sys2Proof.Machine.execEngTurnoutSet mb s
  | .engLatHold mb => Sys2Proof.Machine.execEngLatHold mb s
  | .engLatHoldDone => Sys2Proof.Machine.execEngLatHoldDone s
  | .engStateRead mb => Sys2Proof.Machine.execEngStateRead mb s
  | .engStateWrite mb => Sys2Proof.Machine.execEngStateWrite mb s
  | .engStatusGet mb => Sys2Proof.Machine.execEngStatusGet mb s
  | .engProgGet mb => Sys2Proof.Machine.execEngProgGet mb s
  | .keyImport mb => Sys2Proof.Machine.execKeyImport mb s
  | .keyErase mb => Sys2Proof.Machine.execKeyErase mb s
  | .keyStatusGet mb => Sys2Proof.Machine.execKeyStatusGet mb s
  | .ctxWrite mb => Sys2Proof.Machine.execCtxWrite mb s
  | .ctxClear mb => Sys2Proof.Machine.execCtxClear mb s
  | .ctxSave mb => Sys2Proof.Machine.execCtxSave mb s
  | .ctxRestore mb => Sys2Proof.Machine.execCtxRestore mb s
  | .cipherTurnoutSet mb => Sys2Proof.Machine.execCipherTurnoutSet mb s
  | .cipherRoll mb => Sys2Proof.Machine.execCipherRoll mb s
  | .cipherUnblock mb => Sys2Proof.Machine.execCipherUnblock mb s
  | .cipherVerify mb => Sys2Proof.Machine.execCipherVerify mb s
  | .cipherStatusGet mb => Sys2Proof.Machine.execCipherStatusGet mb s
  | .ctxStatusGet mb => Sys2Proof.Machine.execCtxStatusGet mb s
  | .timingCfgSet mb => Sys2Proof.Machine.execTimingCfgSet mb s
  | .refCfgSet mb => Sys2Proof.Machine.execRefCfgSet mb s
  | .timingOutSet mb => Sys2Proof.Machine.execTimingOutSet mb s
  | .timingStatusGet mb => Sys2Proof.Machine.execTimingStatusGet mb s
  | .refStatusGet mb => Sys2Proof.Machine.execRefStatusGet mb s
  | .timeGet mb => Sys2Proof.Machine.execTimeGet mb s
  | .timeStep mb => Sys2Proof.Machine.execTimeStep mb s
  | .timeSet mb => Sys2Proof.Machine.execTimeSet mb s
  | .memScrub mb => Sys2Proof.Machine.execMemScrub mb s
  | .memCfgSet mb => Sys2Proof.Machine.execMemCfgSet mb s
  | .memStatusGet mb => Sys2Proof.Machine.execMemStatusGet mb s
  | .memFlipArm mb => Sys2Proof.Machine.execMemFlipArm mb s
  | .testChallenge mb => Sys2Proof.Machine.execTestChallenge mb s
  | .testUnlock mb => Sys2Proof.Machine.execTestUnlock mb s
  | .testLock mb => Sys2Proof.Machine.execTestLock mb s
  | .testStatusGet mb => Sys2Proof.Machine.execTestStatusGet mb s
  | .otpProgram mb => Sys2Proof.Machine.execOtpProgram mb s
  | .selftestRun mb => Sys2Proof.Machine.execSelftestRun mb s
  | .fiStart mb => Sys2Proof.Machine.execFiStart mb s
  | .fiStop mb => Sys2Proof.Machine.execFiStop mb s
  | .fiStatusGet mb => Sys2Proof.Machine.execFiStatusGet mb s
  | .calRun mb => Sys2Proof.Machine.execCalRun mb s
  | .calForeground mb => Sys2Proof.Machine.execCalForeground mb s
  | .calMaintSet mb => Sys2Proof.Machine.execCalMaintSet mb s
  | .calCfgSet mb => Sys2Proof.Machine.execCalCfgSet mb s
  | .convCtrlSet mb => Sys2Proof.Machine.execConvCtrlSet mb s
  | .calStatusGet mb => Sys2Proof.Machine.execCalStatusGet mb s
  | .calSliceGet mb => Sys2Proof.Machine.execCalSliceGet mb s
  | .fwDownload mb => Sys2Proof.Machine.execFwDownload mb s
  | .fwStatusGet mb => Sys2Proof.Machine.execFwStatusGet mb s
  | .fwFlashWrite mb => Sys2Proof.Machine.execFwFlashWrite mb s
  | .fwFlashWriteDone => Sys2Proof.Machine.execFwFlashWriteDone s
  | .linePllLockLoss => Sys2Proof.Machine.execLinePllLockLoss s
  | .linePllRelock => Sys2Proof.Machine.execLinePllRelock s
  | .innerLockGain media => Sys2Proof.Machine.execInnerLockGain media s
  | .huntScreen furrow llrs => Sys2Proof.Machine.execHuntScreen furrow llrs s
  | .tlCharacterRx tl char => Sys2Proof.Machine.execTlCharacterRx tl char s
  | .rstNRelease => Sys2Proof.Machine.execRstNRelease s
  | .optSpiXferDone inBytes => Sys2Proof.Machine.execOptSpiXferDone inBytes s
  | .optI2cXferDone status inBytes => Sys2Proof.Machine.execOptI2cXferDone status inBytes s
  | .keyTransferDone => Sys2Proof.Machine.execKeyTransferDone s

end Sys2Proof.Machine
end

