-- ==== Sys2Proof/Safety.lean ====
section
/-! DEFINITION. What counts as safe here: the conditions that every step leaves in force, and the words that the shared end of every command may
change. -/

namespace Sys2Proof.Machine

/-- The register words in which a squelch shows: TXS_STATUS, TXS_EVENTS, SQUELCH_EVENTS, and, when its record finds the writer queue full, LOG_EVENTS and
LOST_QUEUE (R281, R288, R289, R704). They may change at the end of any command. -/
def squelchWords : List Nat := [0x150010, 0x150014, 0x150020, 0x40014, 0x40020]

/-- Every register word but those of a list, and those in which a squelch shows, holds in `t` what it holds in `s`. -/
def RegsKept (but : List Nat) (s t : State) : Prop := ∀ a, a ∉ but → a ∉ squelchWords → t.reg a = s.reg a

/-- The line is squelched while a reason holds, and TXS_STATUS names the reasons; while the transmit block is held in reset it shows neither
(R280, R281, R618). -/
def SquelchHeld (s : State) : Prop :=
  s.sys.gated = true ∨
    (s.get Reg.TXS_STATUS_SQ_REASON = s.squelchReasons ∧ (s.squelchReasons ≠ 0 → s.flag Reg.TXS_STATUS_SQUELCHED = true))

/-- No message waits on a vector that nothing holds back: with MSI-X on, a set PBA bit means that its vector or the function is masked (R796). -/
def NoStaleMessage (s : State) : Prop :=
  s.msix.enable = true → ∀ v, v < 32 → bitsOf s.msix.pba.toNat v 1 = 1 → s.vectorMasked v = true

/-- What holds after every step. -/
def Settled (s : State) : Prop := SquelchHeld s ∧ NoStaleMessage s

/-- A run is safe while no step faults or refuses. -/
def SafeStep (s : State) : Prop := ∃ t, step s = .next t

/-- `t` with what the shared end of every command may change beside register words put back as in `s`: the log's queues, the MSI-X state, and the gate
of a burst that a squelch cuts (R277, R281, R796). -/
def Shared (s t : State) : State := { t with regs := s.regs, logs := s.logs, msix := s.msix, self := { t.self with sent := s.self.sent } }

/-- Omrek has answered mailbox `mb` with `r`; every other mailbox is as it was (R659). -/
def Answered (mb : Nat) (r : Reply) (s t : State) : Prop := t.mbox mb = (s.mbox mb).answered r ∧ ∀ k, k ≠ mb → t.mbox k = s.mbox k

/-- Mailbox `mb` is answered `r` and nothing else happens: it is the last served, registers keep their words but for the mailbox events, and everything
but registers, mailboxes and what the shared end of a command may change is the same. -/
def OnlyAnswered (mb : Nat) (r : Reply) (s t : State) : Prop :=
  Answered mb r s t ∧ RegsKept [0x12014] s t ∧ t.lastServed = mb ∧ { Shared s t with mbs := s.mbs, lastServed := s.lastServed } = s

/-- The command of mailbox `mb` runs on; it is answered later (R660). -/
def RunsOn (mb : Nat) (s t : State) : Prop := t.mbox mb = { s.mbox mb with phase := .running } ∧ ∀ k, k ≠ mb → t.mbox k = s.mbox k

/-- A staging command finds an open transaction, no lock of another mailbox on its objects, room for its bytes, and no orderly shutdown
(R664–R666, R764). -/
def CanStage (mb : Nat) (objs : List Obj) (p : List Byte) (s : State) : Prop :=
  s.get Reg.FW_STATUS_STATE ≠ 4 ∧ (s.mbox mb).txn.state = 1 ∧ s.conflict mb objs = false ∧ s.stagedBytes + p.length + 16 ≤ 2 ^ 20

/-- A staging command has recorded its values and locked its objects: it is answered OK with `d` (R664, R666). -/
def Recorded (mb op : Nat) (p : List Byte) (objs : List Obj) (d : List Byte) (s t : State) : Prop :=
  t.mbox mb = ({ s.mbox mb with txn := (s.mbox mb).txn.add { op := op, payload := p } objs } : Mailbox).answered (okD d) ∧
    (∀ k, k ≠ mb → t.mbox k = s.mbox k) ∧ RegsKept [0x12014] s t ∧ t.lastServed = mb ∧ { Shared s t with mbs := s.mbs, lastServed := s.lastServed } = s

/-- A staging command has recorded its values with what Omrek has worked out from them, `x`: it is answered OK (R664). -/
def RecordedWith (mb op : Nat) (p x : List Byte) (s t : State) : Prop :=
  ((t.mbox mb).word 0xFF).toNat % 256 = cOK ∧ (t.mbox mb).phase = .idle ∧
    (t.mbox mb).txn.staged = (s.mbox mb).txn.staged ++ [{ op := op, payload := p, extra := x }] ∧ (∀ k, k ≠ mb → t.mbox k = s.mbox k) ∧ RegsKept [0x12014] s t

end Sys2Proof.Machine
end

