-- ==== Sys2Proof/Certificates/Slice0/Obligations.lean ====
section
/-! DEFINITION. The statements about this model, for the provers. -/

open Sys2Proof Sys2Proof.Machine

/-- A word that direct writes reach by the types of its bits: outside the mailbox windows, the MSI-X table, LOG_THRESH and LOG_POP. -/
def PlainWord (a : Nat) : Prop := ¬(0x10000 ≤ a ∧ a < 0x12000) ∧ ¬(0x1000 ≤ a ∧ a < 0x1200) ∧ a ≠ 0x40000 ∧ a ≠ 0x40004

/-- A direct write of `v` has taken a word from `x` to `y`: an RW bit holds the written bit, a W1C bit written 1 is cleared, any other bit stays (R11). -/
def Written (d : RegDesc) (v x y : Word) : Prop := ∀ k, k < 32 →
  (d.rw.testBit k = true → d.w1c.testBit k = false → y.getLsbD k = v.getLsbD k) ∧
  (d.rw.testBit k = false → d.w1c.testBit k = true → y.getLsbD k = (x.getLsbD k && !v.getLsbD k)) ∧
  (d.rw.testBit k = false → d.w1c.testBit k = false → y.getLsbD k = x.getLsbD k)

/-- The staging commands that their chapter refuses for nothing but the payload's form: constructor, opcode, the objects that a payload names. -/
inductive Stages : (Fin 8 → Instr) → Nat → (List Byte → List Obj) → Prop
  | sysLatencySet : Stages .sysLatencySet 0x0110 (fun _ => [(.latency, 0)])
  | sysQuenchTimeoutSet : Stages .sysQuenchTimeoutSet 0x0112 (fun _ => [(.latency, 0)])
  | sysModeSet : Stages .sysModeSet 0x0120 (fun _ => [(.modeLock, 0)])
  | gpioCfgSet : Stages .gpioCfgSet 0x0130 (fun p => [(.gpio, u8 p 0)])
  | optBusCfgSet : Stages .optBusCfgSet 0x0133 (fun _ => [(.optics, 0)])
  | gaugeCfgSet : Stages .gaugeCfgSet 0x0140 (fun _ => [(.gauge, 0)])
  | gaugeLimitSet : Stages .gaugeLimitSet 0x0141 (fun _ => [(.gauge, 0)])
  | tapCfgSet : Stages .tapCfgSet 0x0145 (fun _ => [(.tap, 0)])
  | logTelemSet : Stages .logTelemSet 0x0148 (fun _ => [(.telem, 0)])
  | perfCfgSet : Stages .perfCfgSet 0x0150 (fun _ => [(.perf, 0)])
  | perfLatCfgSet : Stages .perfLatCfgSet 0x0151 (fun _ => [(.perf, 0)])
  | pwrCfgSet : Stages .pwrCfgSet 0x0162 (fun _ => [(.power, 0)])
  | intRouteSet : Stages .intRouteSet 0x0170 (fun _ => [(.intRoute, 0)])
  | lineRxCfgSet : Stages .lineRxCfgSet 0x0301 (fun _ => [(.rxLine, 0)])
  | lineTxCfgSet : Stages .lineTxCfgSet 0x0310 (fun _ => [(.txLine, 0)])
  | dacCorrSet : Stages .dacCorrSet 0x0313 (fun _ => [(.txLine, 0)])
  | txMaskSet : Stages .txMaskSet 0x0314 (fun _ => [(.txLine, 0)])
  | dpdCurveSet : Stages .dpdCurveSet 0x0315 (fun _ => [(.txLine, 0)])
  | fecCfgSet : Stages .fecCfgSet 0x0320 (fun _ => [(.fec, 0)])
  | frmCfgSet : Stages .frmCfgSet 0x0330 (fun _ => [(.framer, 0)])
  | protCfgSet : Stages .protCfgSet 0x0332 (fun _ => [(.framer, 0)])
  | rilllinkLaneSet : Stages .rilllinkLaneSet 0x0343 (fun p => [(.rillLane, u8 p 0)])
  | laneCfgSet : Stages .laneCfgSet 0x0350 (fun p => [(.lane, u8 p 0)])
  | laneTestSet : Stages .laneTestSet 0x0351 (fun p => [(.lane, u8 p 0)])
  | tlaneCfgSet : Stages .tlaneCfgSet 0x0355 (fun p => [(.tlane, u8 p 0)])
  | modLaneSet : Stages .modLaneSet 0x0360 (fun p => [(.lane, 16 + u8 p 0)])
  | modDpdCurveSet : Stages .modDpdCurveSet 0x0361 (fun p => (maskList (u8 p 0) 8).map (fun m => (.lane, 16 + m)))
  | furrowAdaptSet : Stages .furrowAdaptSet 0x0402 (fun p => (furrowList (u8 p 0)).map (fun f => (.furrow, f)))
  | leafRelease : Stages .leafRelease 0x0504 (fun p => [(.leaf, u16 p 0)])
  | burstCfgSet : Stages .burstCfgSet 0x0507 (fun _ => [(.burst, 0)])
  | turnoutPktSet : Stages .turnoutPktSet 0x0610 (fun p => [(.turnout, u8 p 0)])
  | intakeCfgSet : Stages .intakeCfgSet 0x0611 (fun _ => [(.intake, 0)])
  | deeplookSet : Stages .deeplookSet 0x0612 (fun _ => [(.intake, 0)])
  | ternSet : Stages .ternSet 0x0613 (fun _ => [(.intake, 0)])
  | hgCfgSet : Stages .hgCfgSet 0x0620 (fun _ => [(.headgate, 0)])
  | hgTurnoutSet : Stages .hgTurnoutSet 0x0621 (fun p => [(.turnout, u8 p 0)])
  | hgCqSet : Stages .hgCqSet 0x0622 (fun _ => [(.headgate, 0)])
  | policerSet : Stages .policerSet 0x0623 (fun p => [(.policer, u16 p 0)])
  | engImageSelect : Stages .engImageSelect 0x0631 (fun _ => [(.engImage, 0)])
  | engCfgSet : Stages .engCfgSet 0x0632 (fun _ => [(.engImage, 0)])
  | engLateralSet : Stages .engLateralSet 0x0633 (fun p => (if u8 p 0 = 0xFF then List.range 32 else [u8 p 0]).map (fun k => (.lateral, k)))
  | engTurnoutSet : Stages .engTurnoutSet 0x0634 (fun p => [(.turnout, u8 p 0)])
  | ctxClear : Stages .ctxClear 0x0705 (fun p => [(.ctx, u16 p 0)])
  | cipherTurnoutSet : Stages .cipherTurnoutSet 0x0708 (fun p => [(.turnout, u8 p 0)])
  | timingCfgSet : Stages .timingCfgSet 0x0801 (fun _ => [(.timing, 0)])
  | refCfgSet : Stages .refCfgSet 0x0802 (fun _ => [(.timing, 0)])
  | timingOutSet : Stages .timingOutSet 0x0803 (fun _ => [(.timing, 0)])
  | memCfgSet : Stages .memCfgSet 0x0902 (fun p => [(.mem, u8 p 0)])
  | calMaintSet : Stages .calMaintSet 0x0B03 (fun _ => [(.conv, 0)])
  | calCfgSet : Stages .calCfgSet 0x0B04 (fun _ => [(.conv, 0)])
  | convCtrlSet : Stages .convCtrlSet 0x0B05 (fun _ => [(.conv, 0)])

/-- The commands that answer with register words alone: constructor, opcode, the addresses of the words by payload. -/
inductive ReportsWords : (Fin 8 → Instr) → Nat → (List Byte → List Nat) → Prop
  | sysModeGet : ReportsWords .sysModeGet 0x0121 (fun _ => [0x124])
  | gpioGet : ReportsWords .gpioGet 0x0132 (fun _ => [0x12040, 0x1204C, 0x12044])
  | pwrStatusGet : ReportsWords .pwrStatusGet 0x0163 (fun _ => [0x60010, 0x60014, 0x60020, 0x60024, 0x60028, 0x6002C])
  | fwStatusGet : ReportsWords .fwStatusGet 0x0C02 (fun _ => [0x60044, 0x60048, 0x6004C, 0x60040])
  | fecBurstStatusGet : ReportsWords .fecBurstStatusGet 0x0323 (fun _ => (List.range 8).map (fun k => 0x160020 + 4 * k))
  | frmStatusGet : ReportsWords .frmStatusGet 0x0331 (fun p => let a := 0x171000 + 0x200 * u8 p 0; [a, a + 0x10, a + 0x14] ++ (List.range 8).map (fun k => a + 0x20 + 4 * k))
  | tsiStatusGet : ReportsWords .tsiStatusGet 0x0342 (fun _ => [0x180010, 0x180020, 0x180024, 0x180028, 0x18002C])
  | rilllinkStatusGet : ReportsWords .rilllinkStatusGet 0x0344 (fun p => [0x180204 + 0x10 * u8 p 0, 0x180208 + 0x10 * u8 p 0])
  | slipStatusGet : ReportsWords .slipStatusGet 0x0345 (fun p => (List.range 5).map (fun k => 0x180600 + 0x20 * u8 p 0 + 4 * k))
  | tlaneStatusGet : ReportsWords .tlaneStatusGet 0x0356 (fun p => [0x10, 0x40, 0x44, 0x48, 0x50, 0x54, 0x58, 0x5C, 0x20, 0x24, 0x28, 0x2C, 0x30, 0x34, 0x38, 0x3C].map (fun o => 0x320000 + 0x1000 * u8 p 0 + o))
  | modStatusGet : ReportsWords .modStatusGet 0x0364 (fun p => [0x200, 0x210, 0x220, 0x224, 0x228, 0x22C, 0x230, 0x234, 0x238].map (fun o => 0x310000 + 0x1000 * u8 p 0 + o))
  | leafStatusGet : ReportsWords .leafStatusGet 0x0505 (fun p => (List.range 16).map (fun k => 0x480000 + 0x40 * u16 p 0 + 4 * k))
  | turnoutPktStatusGet : ReportsWords .turnoutPktStatusGet 0x0618 (fun p => let a := 0x400000 + 0x400 * u8 p 0; (a + 0x50) :: (List.range 16).map (fun k => a + 0x80 + 4 * k))
  | intakeStatusGet : ReportsWords .intakeStatusGet 0x0619 (fun _ => [0x200010, 0x200040] ++ (List.range 7).map (fun k => 0x200020 + 4 * k))
  | hgQueueStatusGet : ReportsWords .hgQueueStatusGet 0x0625 (fun p => (List.range 4).map (fun k => queueCfg (u16 p 0) + 4 * k))
  | hgStatusGet : ReportsWords .hgStatusGet 0x0626 (fun _ => [0x240004, 0x240008, 0x24000C, 0x240014] ++ (List.range 4).map (fun k => 0x240020 + 4 * k))
  | engStatusGet : ReportsWords .engStatusGet 0x0638 (fun p => let b := 0x500000 + 0x1000 * u8 p 0; [b + 0x10, b + 0x20, b + 0x24, b + 0x28] ++ (List.range 13).map (fun i => b + 0x40 + 4 * i))
  | keyStatusGet : ReportsWords .keyStatusGet 0x0703 (fun p => [0x1A1000 + 8 * u16 p 0, 0x1A1004 + 8 * u16 p 0])
  | cipherStatusGet : ReportsWords .cipherStatusGet 0x070C (fun p => (List.range 13).map (fun k => 0x1A2000 + 0x40 * u8 p 0 + 4 * k))
  | ctxStatusGet : ReportsWords .ctxStatusGet 0x070D (fun p => (List.range 5).map (fun k => 0x1B0000 + 0x20 * u16 p 0 + 4 * k))
  | refStatusGet : ReportsWords .refStatusGet 0x0805 (fun p => (List.range 3).map (fun i => 0x20108 + 0x20 * u8 p 0 + 4 * i))
  | memStatusGet : ReportsWords .memStatusGet 0x0903 (fun p => (List.range 10).map (fun i => 0x281000 + 0x40 * u8 p 0 + 4 * i))

/-- The commands that answer with what a read of register words returns now, where a chapter hides or computes some: constructor, opcode, addresses. -/
inductive ReportsLive : (Fin 8 → Instr) → Nat → (List Byte → List Nat) → Prop
  | intStatusGet : ReportsLive .intStatusGet 0x0171 (fun _ => [0x200, 0x204, 0x208, 0x20C])
  | logStatusGet : ReportsLive .logStatusGet 0x0149 (fun _ => [0x40010, 0x40000, 0x40020, 0x40024, 0x40028, 0x4002C, 0x40030])
  | testStatusGet : ReportsLive .testStatusGet 0x0A04 (fun _ => [0x50010, 0x50050, 0x50060, 0x50020, 0x50024, 0x50028, 0x5002C])
  | timingStatusGet : ReportsLive .timingStatusGet 0x0804 (fun _ => [0x20010, 0x20040, 0x20044, 0x20048, 0x2004C, 0x20050, 0x2005C, 0x20020, 0x20024, 0x20030])
  | fecStatusGet : ReportsLive .fecStatusGet 0x0321 (fun p => (0x161000 + 0x200 * u8 p 0) :: (List.range 11).map (fun k => 0x161020 + 0x200 * u8 p 0 + 4 * k))
  | laneStatusGet : ReportsLive .laneStatusGet 0x0354 (fun p => [0x10, 0x80, 0x84, 0x40, 0x20, 0x24, 0x28, 0x2C, 0x30, 0x34, 0x38, 0x3C, 0x48, 0x4C, 0x50, 0x54, 0x58, 0x5C,
      0x60, 0x64, 0x68].map (fun o => 0x300000 + 0x1000 * u8 p 0 + o))

/-- One bit for each furrow whose field is 1. -/
def furrowBits (x : Field) (s : State) : Nat := ((List.range 32).map (fun f => s.get x f * 2 ^ f)).sum

/-- The bytes of register words. -/
def regBytes (s : State) (l : List Nat) : List Byte := l.flatMap (fun a => bytes 4 (s.reg a).toNat)

/-- The other status commands: constructor, opcode, what they answer from the state and the payload. -/
inductive ReportsValues : (Fin 8 → Instr) → Nat → (State → List Byte → List Byte) → Prop
  | sysLatencyGet : ReportsValues .sysLatencyGet 0x0111 (fun s _ => bytes 2 (s.get Reg.LAT_TX_CYCLES) ++ bytes 2 (s.get Reg.LAT_RX_CYCLES) ++
      bytes 2 (s.get Reg.LAT_BURST_CYCLES) ++ bytes 1 (s.get Reg.XQ_STATUS_DEPTH) ++ bytes 1 (s.get Reg.FIXLAT_CTRL_EN))
  | timeGet : ReportsValues .timeGet 0x0806 (fun s _ => bytes 8 s.devNs ++ bytes 2 s.devFrac ++ [BitVec.ofNat 8 s.dpll, 0])
  | fiStatusGet : ReportsValues .fiStatusGet 0x0A22 (fun s p => bytes 4 (s.readWord (0x50200 + 0x20 * u8 p 0)).toNat ++
      regBytes s [0x50208 + 0x20 * u8 p 0, 0x5020C + 0x20 * u8 p 0])
  | lineRxStatusGet : ReportsValues .lineRxStatusGet 0x0302 (fun s _ => regBytes s [0x110010, 0x110040, 0x110044, 0x110048, 0x11004C] ++
      bytes 4 (furrowBits Reg.FR_STATUS_CAR_LOCK s))
  | lineTxStatusGet : ReportsValues .lineTxStatusGet 0x0312 (fun s _ => regBytes s [0x150010] ++ bytes 4 (furrowBits Reg.TXF_CTRL_EN s) ++
      bytes 4 (furrowBits Reg.TXF_STATUS_SWITCH_PENDING s))
  | furrowRxStatusGet : ReportsValues .furrowRxStatusGet 0x0403 (fun s p => regBytes s ((0x120010 + 0x800 * u8 p 0) ::
      (List.range 7).map (fun k => 0x120040 + 0x800 * u8 p 0 + 4 * k)) ++ bytes 8 (s.fur (u8 p 0)).updatedAt)
  | furrowTxStatusGet : ReportsValues .furrowTxStatusGet 0x0406 (fun s p => regBytes s [0x150400 + 0x10 * u8 p 0, 0x150404 + 0x10 * u8 p 0] ++
      bytes 4 (s.count Cnt.TXF_QUENCH_DISCARDS 0 (u8 p 0)))
  | protStatusGet : ReportsValues .protStatusGet 0x0334 (fun s _ => regBytes s.protLeft [0x170010, 0x170040, 0x170044, 0x170020])
  | calStatusGet : ReportsValues .calStatusGet 0x0B06 (fun s p => bytes 4 (s.readWord (0x100010 + 0x1000 * u8 p 0)).toNat ++
      regBytes s [0x100040 + 0x1000 * u8 p 0, 0x100044 + 0x1000 * u8 p 0] ++ bytes 9 (s.faultyMask (u8 p 0)) ++ [0, 0, 0])
  | calSliceGet : ReportsValues .calSliceGet 0x0B07 (fun s p => let c := tget {} (s.adc (u8 p 0)).slices (u8 p 1)
      [BitVec.ofNat 8 (s.sliceByte (u8 p 0) (u8 p 1)), BitVec.ofNat 8 c.comparator, BitVec.ofInt 8 c.trim, 0] ++ bytes 2 (twos 16 c.offset) ++
        bytes 2 c.gain ++ ((List.range 8).flatMap (fun i => bytes 2 (twos 16 (c.fir.getD i 0)))) ++ bytes 8 c.passedAt)
  | leafListGet : ReportsValues .leafListGet 0x0508 (fun s p => (List.range 128).map (fun k => BitVec.ofNat 8 (((List.range 8).map (fun i =>
      b2n (if u8 p 0 = 0xFF then s.registered (8 * k + i) else s.leafState (8 * k + i) == u8 p 0) * 2 ^ i)).sum)))
  | engProgGet : ReportsValues .engProgGet 0x0639 (fun s p => bytes 4 (imgEntry (tget [] s.eng.images s.eng.gen) (u16 p 0)))
  | ternGet : ReportsValues .ternGet 0x0614 (fun s p => let r := tget ({} : TernRule) s.pk.terns (u16 p 0)
      bytes 2 (u16 p 0) ++ [BitVec.ofNat 8 (b2n r.en + 2 * b2n r.overExact), 0] ++ bytesBe 64 r.value ++ bytesBe 64 r.mask ++ bytes 8 r.action)
  | policerStatusGet : ReportsValues .policerStatusGet 0x0624 (fun s p => let x := s.policer (u16 p 0)
      bytes 2 (u16 p 0) ++ (x.cfg ++ List.replicate 18 0).take 18 ++ bytes 4 0 ++ (if u8 p 2 = 1 then bytes 8 x.greenShadow ++ bytes 8 x.yellowShadow ++ bytes 8 x.redShadow
        else bytes 8 x.green ++ bytes 8 x.yellow ++ bytes 8 x.red))
  | perfCountersGet : ReportsValues .perfCountersGet 0x0154 (fun s p => if u8 p 0 = 0xFF then
        (List.range 8).flatMap (fun i => s.perfBytes (Cnt.DC.addr i 0 + bitsOf (u8 p 1) 0 1 * Cnt.DC.shadow))
      else (List.range 4).flatMap (fun j => s.perfBytes (Cnt.LC.addr (u8 p 0) j + bitsOf (u8 p 1) 0 1 * Cnt.LC.shadow)) ++ List.replicate 32 0)

/-- Words of the memory-integrity chapter and of the performance counters: what any issue of an instruction may count in, beside what it is for. -/
def issueWord (a : Nat) : Prop := (0x280000 ≤ a ∧ a < 0x290000) ∨ (0x600000 ≤ a ∧ a < 0x610000)

/-- A word of a protected memory that reads without a poison mark. -/
def Clean (mem inst word : Nat) (s : State) : Prop := s.wordBits mem inst word < 2 ∧ s.wordFlag mem inst word = false

/-- Thread `t` of engine `e` can issue instruction `w` of its task `k` now: it is the thread's next, its operands are there, the engine has issued no other
in this cycle, the task's budget is not spent and the instruction word is sound (R515, R523, R535). -/
def CanIssue (e : Fin 512) (t : Fin 8) (k : Task) (w : Nat) (s : State) : Prop :=
  s.task e.val t.val = some k ∧ imgWord (s.latImage (e.val / 16)) k.pc = w ∧ k.waiting = false ∧ k.fetchAt ≤ s.latNow (e.val / 16) ∧
    k.readyAt w ≤ s.latNow (e.val / 16) ∧ tget 0 s.eng.lastIssue e.val ≠ s.latNow (e.val / 16) + 1 ∧ k.issued < k.budget ∧ Clean 2 e.val k.pc s

/-- A task that has issued its instruction in `cycle` and goes on at `pc`. -/
def after (k : Task) (pc cycle : Nat) : Task := { k with issued := k.issued + 1, pc := pc, fetchAt := cycle + 1 }

/-- The other threads' tasks are as they were, and the engine has issued in this cycle. -/
def OneThread (e : Fin 512) (t : Fin 8) (s u : State) : Prop :=
  (∀ n, n ≠ 8 * e.val + t.val → tget none u.eng.tasks n = tget none s.eng.tasks n) ∧ tget 0 u.eng.lastIssue e.val = s.latNow (e.val / 16) + 1

/-- The thread's task is now `k1`; nothing else has changed but error and performance counters, the words `but`, the sampler, the log and the MSI-X
state. -/
def IssuedBut (but : List Nat) (e : Fin 512) (t : Fin 8) (k1 : Task) (s u : State) : Prop :=
  u.task e.val t.val = some k1 ∧ OneThread e t s u ∧ (∀ a, ¬issueWord a → a ∉ squelchWords → a ∉ but → u.reg a = s.reg a) ∧
    { u.eng with tasks := s.eng.tasks, lastIssue := s.eng.lastIssue } = s.eng ∧
    { Shared s u with mem := s.mem, perf := s.perf, eng := s.eng } = s

/-- An issue that changes no word beside the counters. -/
def Issued (e : Fin 512) (t : Fin 8) (k1 : Task) (s u : State) : Prop := IssuedBut [] e t k1 s u

/-- An issue that has also asked the packet banks for words. -/
def IssuedBanks (e : Fin 512) (t : Fin 8) (k1 : Task) (s u : State) : Prop :=
  Issued e t k1 s { u with pk := { u.pk with bankBusy := s.pk.bankBusy } }

/-- The register operations: constructor, opcode, cycles until the result can be used, result from the two registers and the immediate (R525). -/
inductive Computes : (Fin 512 → Fin 8 → Instr) → Nat → Nat → (DWord → DWord → Nat → DWord) → Prop
  | add : Computes .iAdd 0x00 1 (fun a b _ => a + b)
  | sub : Computes .iSub 0x01 1 (fun a b _ => a - b)
  | and : Computes .iAnd 0x02 1 (fun a b _ => a &&& b)
  | or : Computes .iOr 0x03 1 (fun a b _ => a ||| b)
  | xor : Computes .iXor 0x04 1 (fun a b _ => a ^^^ b)
  | shl : Computes .iShl 0x05 1 (fun a b _ => a <<< (b.toNat % 64))
  | shr : Computes .iShr 0x06 1 (fun a b _ => a >>> (b.toNat % 64))
  | sar : Computes .iSar 0x07 1 (fun a b _ => a.sshiftRight (b.toNat % 64))
  | mul : Computes .iMul 0x08 3 (fun a b _ => BitVec.ofNat 64 (a.toNat * b.toNat))
  | slt : Computes .iSlt 0x09 1 (fun a b _ => if a.toInt < b.toInt then 1 else 0)
  | sltu : Computes .iSltu 0x0A 1 (fun a b _ => if a.toNat < b.toNat then 1 else 0)
  | addi : Computes .iAddi 0x10 1 (fun a _ i => a + BitVec.signExtend 64 (BitVec.ofNat 16 i))
  | andi : Computes .iAndi 0x11 1 (fun a _ i => a &&& BitVec.ofNat 64 i)
  | ori : Computes .iOri 0x12 1 (fun a _ i => a ||| BitVec.ofNat 64 i)
  | xori : Computes .iXori 0x13 1 (fun a _ i => a ^^^ BitVec.ofNat 64 i)
  | shli : Computes .iShli 0x14 1 (fun a _ i => a <<< (i % 64))
  | shri : Computes .iShri 0x15 1 (fun a _ i => a >>> (i % 64))
  | sari : Computes .iSari 0x16 1 (fun a _ i => a.sshiftRight (i % 64))
  | lui : Computes .iLui 0x17 1 (fun _ _ i => BitVec.signExtend 64 (BitVec.ofNat 16 i) * 65536)

/-- The conditional branches: constructor, opcode, condition (R525). -/
inductive Branches : (Fin 512 → Fin 8 → Instr) → Nat → (DWord → DWord → Prop) → Prop
  | beq : Branches .iBeq 0x20 (fun a b => a = b)
  | bne : Branches .iBne 0x21 (fun a b => a ≠ b)
  | blt : Branches .iBlt 0x22 (fun a b => a.toInt < b.toInt)
  | bltu : Branches .iBltu 0x23 (fun a b => a.toNat < b.toNat)
  | bge : Branches .iBge 0x24 (fun a b => b.toInt ≤ a.toInt)
  | bgeu : Branches .iBgeu 0x25 (fun a b => b.toNat ≤ a.toNat)

/-- Loads and stores: constructor, opcode, bytes (R525). -/
inductive Loads : (Fin 512 → Fin 8 → Instr) → Nat → Nat → Prop
  | ldb : Loads .iLdb 0x28 1
  | ldh : Loads .iLdh 0x29 2
  | ldw : Loads .iLdw 0x2A 4
  | ldd : Loads .iLdd 0x2B 8

inductive Stores : (Fin 512 → Fin 8 → Instr) → Nat → Nat → Prop
  | stb : Stores .iStb 0x2C 1
  | sth : Stores .iSth 0x2D 2
  | stw : Stores .iStw 0x2E 4
  | std : Stores .iStd 0x2F 8

inductive PacketLoads : (Fin 512 → Fin 8 → Instr) → Nat → Nat → Prop
  | plb : PacketLoads .iPlb 0x30 1
  | plh : PacketLoads .iPlh 0x31 2
  | plw : PacketLoads .iPlw 0x32 4
  | pld : PacketLoads .iPld 0x33 8

inductive PacketStores : (Fin 512 → Fin 8 → Instr) → Nat → Nat → Prop
  | psb : PacketStores .iPsb 0x34 1
  | psh : PacketStores .iPsh 0x35 2
  | psw : PacketStores .iPsw 0x36 4
  | psd : PacketStores .iPsd 0x37 8

/-- The atoms: constructor, function, the word after it from the old word, operand `b` and the comparand (R525). -/
inductive Atoms : (Fin 512 → Fin 8 → Instr) → Nat → (DWord → DWord → DWord → DWord) → Prop
  | oread : Atoms .iOread 0 (fun old _ _ => old)
  | oadd : Atoms .iOadd 1 (fun old b _ => old + b)
  | oswp : Atoms .iOswp 2 (fun _ b _ => b)
  | ocas : Atoms .iOcas 3 (fun old b c => if old = c then b else old)
  | uread : Atoms .iUread 4 (fun old _ _ => old)
  | uadd : Atoms .iUadd 5 (fun old b _ => old + b)
  | uswp : Atoms .iUswp 6 (fun _ b _ => b)
  | ucas : Atoms .iUcas 7 (fun old b c => if old = c then b else old)

/-- A counter has taken `n` events: a 64-bit one wraps, the others hold at their limit (R16). -/
def Counted (c : Ctr) (i j n : Nat) (s t : State) : Prop :=
  t.count c i j = if c.words = 1 then min (s.count c i j + n) 0xFFFFFFFF else if c.words = 2 then (s.count c i j + n) % 2 ^ 64
    else min (s.count c i j + n) 0xFFFFFFFFFFFF

/-- For every command c and state s, a step of s with c at the front of its queue is exec of c on s with the queue's rest. The queue is the
model's own (log entry 1). (spec/INDEX.md) -/
def Obligations.StepRunsFrontCommand : Prop :=
  ∀ (c : Instr) (rest : List Instr) (s : State),
    step { s with pending := c :: rest } = exec c { s with pending := rest }

/-- With no command waiting a step answers a next state: the queue stays empty, elapsed time is 13 thirteenths of a nanosecond later, no
mailbox, transaction or interface changes. That idle steps carry the time is the model's choice (log entry 1). (spec/17_timing.md,
spec/20_performance_counters.md) -/
def Obligations.IdleStepAdvancesTime : Prop :=
  ∀ s : State, s.pending = [] →
    ∃ t, step s = .next t ∧ t.pending = [] ∧ t.clock = s.clock + 13 ∧ t.mbs = s.mbs ∧ t.ifs = s.ifs ∧ t.nextTxn = s.nextTxn

/-- For every command and every state, exec answers a next state whose queue is the queue it was given. So no operand and no state ends a run.
(spec/INDEX.md, spec/18_control.md) -/
def Obligations.EveryCommandAnswersAndKeepsQueue : Prop :=
  ∀ (c : Instr) (s : State), ∃ t, exec c s = .next t ∧ t.pending = s.pending

/-- If TXS_STATUS names exactly the squelch reasons that hold and the line is squelched while one does (or the transmit block is held in reset),
and with MSI-X on no vector that nothing masks has its PBA bit set, then the same holds after every step, whatever the command.
(spec/06_transmit_shaping.md, spec/24_register_map.md) -/
def Obligations.SettledAfterEveryStep : Prop :=
  ∀ s t : State, Settled s → step s = .next t → Settled t

/-- Right after reset TXS_STATUS names the squelch reasons that hold, the line is squelched, and no message waits. (spec/06_transmit_shaping.md,
spec/22_power_reset.md) -/
def Obligations.SettledAtReset : Prop :=
  Settled State.reset ∧ State.reset.flag Reg.TXS_STATUS_SQUELCHED = true ∧ State.reset.pending = []

/-- After reset: FW_STATUS is in reset, the quench timeout is 100 µs, TXS_STATUS reads squelched for the reasons CONV and NOFURROW (word 0x15),
FEC_CTRL holds 12 iterations and 4 burst iterations, FEC_DEF_CFG 1, 8, 3, 3, FEC_DEG_THR 0x028F5C29, every furrow's FEC_FAIL is 1 and its
rate 1, every counter is 0, every mailbox is idle with no transaction, and the next transaction ID is 1. (spec/01_architecture.md,
spec/03_line_converters.md, spec/06_transmit_shaping.md, spec/07_terrace_fec.md, spec/15_serial_lanes.md, spec/18_control.md,
spec/22_power_reset.md) -/
def Obligations.ResetLeavesRegisterTableValues : Prop :=
  State.reset.get Reg.FW_STATUS_STATE = 0 ∧ State.reset.get Reg.QUENCH_CFG_TIMEOUT_US = 100 ∧ (State.reset.reg 0x150010).toNat = 0x15 ∧
    State.reset.get Reg.FEC_CTRL_ITER = 12 ∧ State.reset.get Reg.FEC_CTRL_BURST_ITER = 4 ∧ State.reset.get Reg.FEC_CTRL_LINE_FEC = 0 ∧
    State.reset.get Reg.FEC_DEF_CFG_FAIL_THR = 1 ∧ State.reset.get Reg.FEC_DEF_CFG_FAIL_CLR_MF = 8 ∧
    State.reset.get Reg.FEC_DEF_CFG_DEG_SET = 3 ∧ State.reset.get Reg.FEC_DEF_CFG_DEG_CLR = 3 ∧ State.reset.get Reg.FEC_DEG_THR_THR = 0x028F5C29 ∧
    (∀ f, f < 32 → State.reset.flag Reg.FEC_FR_STATUS_FEC_FAIL f = true ∧ State.reset.get Reg.FEC_FR_STATUS_RATE_NOW f = 1) ∧
    (∀ c ∈ counters, ∀ i, i < c.n → ∀ j, j < c.m → State.reset.count c i j = 0) ∧
    (∀ k, (State.reset.mbox k).phase = .idle ∧ (State.reset.mbox k).txn.state = 0) ∧ State.reset.nextTxn = 1

/-- For an aligned assigned word outside the mailbox windows, the MSI-X table and the drain log's pop and threshold words, and without an SC
field, a 4-byte REGISTER_WRITE answers a state in which each RW bit holds the written bit, each W1C bit written 1 is cleared, every other
bit holds what it held; a word with a TX field counts once in TX_WRITE_IGNORED; no other word changes but those in which a squelch shows.
Beside registers nothing changes but the interface, what the shared end of a command may change, and, for TXS_EVENTS, the time that CLIP was
cleared. An 8-byte access on PCIe to two such words writes the first value to the first and the second to the second. The words in which a
squelch shows are left to the squelch rules. (spec/01_architecture.md, spec/24_register_map.md) -/
def Obligations.DirectWriteByFieldType : Prop :=
  (∀ (via : Iface) (a : Nat) (v : Word) (d : RegDesc) (s : State),
    a % 4 = 0 → a < 0x1000000 → PlainWord a → findDesc regDescs a = some d → d.sc = 0 →
    ∃ t, exec (.registerWrite via a 4 [v]) s = .next t ∧
      (a ∉ squelchWords → Written d v (s.reg a) (t.reg a)) ∧
      (d.tx ≠ 0 → t.count Cnt.TX_WRITE_IGNORED = min (s.count Cnt.TX_WRITE_IGNORED + 1) 0xFFFFFFFF) ∧
      RegsKept (a :: (if d.tx = 0 then [] else [Cnt.TX_WRITE_IGNORED.addr 0 0])) s t ∧
      { Shared s t with ifs := s.ifs, tx := { t.tx with clipCleared := s.tx.clipCleared } } = s ∧
      (a ≠ 0x150014 → t.tx = s.tx)) ∧
  (∀ (a : Nat) (v w : Word) (d e : RegDesc) (s : State), a % 4 = 0 → a + 8 ≤ 0x1000000 → PlainWord a → PlainWord (a + 4) →
    findDesc regDescs a = some d → d.sc = 0 → findDesc regDescs (a + 4) = some e → e.sc = 0 → a ∉ squelchWords → a + 4 ∉ squelchWords →
    ∃ t, exec (.registerWrite .pcie a 8 [v, w]) s = .next t ∧ Written d v (s.reg a) (t.reg a) ∧ Written e w (s.reg (a + 4)) (t.reg (a + 4)) ∧
      RegsKept [a, a + 4, Cnt.TX_WRITE_IGNORED.addr 0 0] s t)

/-- A 4-byte REGISTER_WRITE to an address outside the windows and the MSI-X table that no chapter assigns leaves every register word but those
in which a squelch shows, and everything but the interface and what the shared end of a command may change. So does an unaligned access, one
on PCIe whose size is no multiple of 4 bytes or that passes 0x01000000, one on MDIO that is neither a word nor one of the 16-bit registers
of its window, and one on SPI or I2C that ends before its first word; they leave the interfaces too. (spec/01_architecture.md) -/
def Obligations.UnassignedAndUnalignedWritesAreDiscarded : Prop :=
  (∀ (via : Iface) (a : Nat) (v : Word) (s : State), a % 4 = 0 → a < 0x1000000 → PlainWord a → findDesc regDescs a = none →
    ∃ t, exec (.registerWrite via a 4 [v]) s = .next t ∧ RegsKept [] s t ∧ { Shared s t with ifs := s.ifs } = s) ∧
  (∀ (via : Iface) (a size : Nat) (vs : List Word) (s : State), ¬(via = .mdio ∧ size = 2 ∧ a < 5) →
    a % 4 ≠ 0 ∨ (via = .pcie ∧ (size % 4 ≠ 0 ∨ 0x1000000 < a + size)) ∨ (via = .mdio ∧ size ≠ 4) ∨ size < 4 →
    ∃ t, exec (.registerWrite via a size vs) s = .next t ∧ RegsKept [] s t ∧ Shared s t = s)

/-- TX_FIELD_WRITE on a word that holds a TX field completes: whatever is written, every TX bit keeps its value, TX_WRITE_IGNORED rises by 1,
holding at its limit, however many TX fields the word has, and the word's RW and W1C bits act on the written value. (R14) -/
def Obligations.TxFieldWriteIsIgnoredAndCounted : Prop :=
  ∀ (via : Iface) (a : Nat) (v : Word) (d : RegDesc) (s : State),
    PlainWord a → a ∉ squelchWords → findDesc regDescs a = some d → d.tx ≠ 0 → d.sc = 0 →
    ∃ t, exec (.txFieldWrite via a v) s = .next t ∧
      t.count Cnt.TX_WRITE_IGNORED = min (s.count Cnt.TX_WRITE_IGNORED + 1) 0xFFFFFFFF ∧
      Written d v (s.reg a) (t.reg a) ∧ RegsKept [a, Cnt.TX_WRITE_IGNORED.addr 0 0] s t

/-- W1C_WRITE on a word of W1C bits, with the bits of `racing` set by events of the same cycle: a W1C bit is set afterwards when its event
raced, or when it was set and 0 was written to it. No other word changes but those in which a squelch shows. (spec/01_architecture.md) -/
def Obligations.W1cWriteClearsUnlessEventRaces : Prop :=
  ∀ (via : Iface) (a : Nat) (v racing : Word) (d : RegDesc) (s : State),
    PlainWord a → a ∉ squelchWords → findDesc regDescs a = some d → d.w1c ≠ 0 → d.sc = 0 → d.tx = 0 →
    ∃ t, exec (.w1cWrite via a v racing) s = .next t ∧
      (∀ k, k < 32 → d.w1c.testBit k = true → d.rw.testBit k = false →
        (t.reg a).getLsbD k = (racing.getLsbD k || ((s.reg a).getLsbD k && !v.getLsbD k))) ∧
      RegsKept [a] s t ∧ { Shared s t with ifs := s.ifs } = s

/-- RC_READ of a 32-bit counter as one word puts its value before the read on the interface's read bus and leaves the counter at the events of
the same cycle. LO_WORD_READ as one word puts the live LO word on the bus and replaces that interface's capture by the HI words read at that
moment; TIME_LO_READ does so with device time: TIME_HI and TIME_FRAC. No other interface and no other register word changes but those in
which a squelch shows. An access that is made of no aligned word returns 0 and leaves every counter and capture. (spec/01_architecture.md,
spec/18_control.md, spec/24_register_map.md) -/
def Obligations.ReadsReturnClearAndCapture : Prop :=
  (∀ (via : Iface) (a racing : Nat) (c : Ctr) (s : State), findCtr counters a = some c → c.words = 1 →
    ∃ t, exec (.rcRead via ⟨a, 4⟩ racing) s = .next t ∧ (t.iface via).rdata = [s.readWord a] ∧
      (a ∉ squelchWords → (t.reg a).toNat = min racing 0xFFFFFFFF) ∧ RegsKept [a] s t ∧ (∀ j : Iface, j ≠ via → t.iface j = s.iface j)) ∧
  (∀ (via : Iface) (a : Nat) (s : State), hiWords a ≠ [] →
    ∃ t, exec (.loWordRead via ⟨a, 4⟩) s = .next t ∧ (t.iface via).rdata = [s.readWord a] ∧
      (t.iface via).capture = some (a, (hiWords a).map (fun h => (h, s.readWord h))) ∧
      RegsKept [] s t ∧ (∀ j : Iface, j ≠ via → t.iface j = s.iface j)) ∧
  (∀ (via : Iface) (s : State),
    ∃ t, exec (.timeLoRead via) s = .next t ∧ (t.iface via).rdata = [BitVec.ofNat 32 s.devNs] ∧
      (t.iface via).capture = some (0x10, [(0x14, BitVec.ofNat 32 (s.devNs / 2 ^ 32)), (0x18, BitVec.ofNat 32 s.devFrac)]) ∧
      RegsKept [] s t ∧ (∀ j : Iface, j ≠ via → t.iface j = s.iface j)) ∧
  (∀ (via : Iface) (a size racing : Nat) (s : State), accessWords via a size = 0 → mmdAccess via a size = false →
    (∃ t, exec (.rcRead via ⟨a, size⟩ racing) s = .next t ∧ (t.iface via).rdata = [0] ∧ (t.iface via).capture = (s.iface via).capture ∧ RegsKept [] s t) ∧
    (∃ t, exec (.loWordRead via ⟨a, size⟩) s = .next t ∧ (t.iface via).rdata = [0] ∧ (t.iface via).capture = (s.iface via).capture ∧ RegsKept [] s t))

/-- A write of 1 to a STATS_SNAP word leaves in the shadow of each word of each counter that it covers what the counter's word holds; the
STATS_SNAP word reads 1 where its block's clock runs, and is left as it was where that clock is stopped. After SNAP_DONE the word is 0 and
no other word has changed but those in which a squelch shows. That the copy is made at the write is the model's reading (log entry 12).
(spec/01_architecture.md, spec/18_control.md) -/
def Obligations.SnapshotCopiesCounters : Prop :=
  (∀ (via : Iface) (a : Nat) (s : State), hasType RegDesc.sc a = true →
    ∃ t, exec (.statsSnap via a 1) s = .next t ∧ t.reg a = (if s.clockStopped a then s.reg a else 1) ∧
      (∀ c ∈ counters, ∀ i ∈ c.snapped a, ∀ j, j < c.m →
        t.reg (c.addr i j + c.shadow) = s.reg (c.addr i j) ∧ (c.words ≠ 1 → t.reg (c.addr i j + 4 + c.shadow) = s.reg (c.addr i j + 4)))) ∧
  (∀ (a : Nat) (s : State), hasType RegDesc.sc a = true → a ∉ squelchWords →
    ∃ t, exec (.snapDone a) s = .next t ∧ t.reg a = 0 ∧ RegsKept [a] s t)

/-- After INT_MASK_WRITE of the low word, group g is masked exactly when bit g was written 1; a write of the high word leaves the 26 groups.
After MSIX_UNMASK of a vector its mask bit is 0, or with none named the Function Mask is off. In each case no message that nothing masks is
left waiting. (spec/24_register_map.md) -/
def Obligations.InterruptMasksTakeTheWrittenBits : Prop :=
  (∀ (via : Iface) (v : Word) (s : State),
    ∃ t, exec (.intMaskWrite via false v) s = .next t ∧ NoStaleMessage t ∧ (∀ g, g < 26 → t.groupMasked g = v.getLsbD g) ∧ RegsKept [0x208] s t) ∧
  (∀ (via : Iface) (v : Word) (s : State),
    ∃ t, exec (.intMaskWrite via true v) s = .next t ∧ NoStaleMessage t ∧ (∀ g, g < 26 → t.groupMasked g = s.groupMasked g) ∧ RegsKept [0x20C] s t) ∧
  (∀ (v : Fin 32) (s : State),
    ∃ t, exec (.msixUnmask (some v)) s = .next t ∧ NoStaleMessage t ∧ (t.reg (0x100C + 16 * v.val)).toNat % 2 = 0 ∧ RegsKept [0x100C + 16 * v.val] s t) ∧
  (∀ s : State, ∃ t, exec (.msixUnmask none) s = .next t ∧ NoStaleMessage t ∧ t.msix.functionMask = false ∧ RegsKept [] s t)

/-- With records held, LOG_POP with CHECK 0, or with CHECK 1 and the oldest record's SEQ, removes exactly the oldest; with CHECK 1 and another
SEQ it leaves the records and POP_MISMATCHES rises; with no record held UNDERRUNS rises and LOG_EVENTS.UNDERRUN is set.
(spec/19_monitoring.md) -/
def Obligations.DrainLogIsPoppedOldestFirst : Prop :=
  (∀ (via : Iface) (v : Word) (seq : Nat) (r : LogRec) (rest : List (Nat × LogRec)) (s : State), s.logs.held = (seq, r) :: rest →
    (v.getLsbD 16 = false ∨ v.toNat % 2 ^ 16 = seq) → ∃ t, exec (.logPop via v) s = .next t ∧ t.logs.held = rest ∧ RegsKept [] s t) ∧
  (∀ (via : Iface) (v : Word) (seq : Nat) (r : LogRec) (rest : List (Nat × LogRec)) (s : State), s.logs.held = (seq, r) :: rest →
    v.getLsbD 16 = true → v.toNat % 2 ^ 16 ≠ seq →
    ∃ t, exec (.logPop via v) s = .next t ∧ t.logs.held = s.logs.held ∧ t.count Cnt.POP_MISMATCHES = min (s.count Cnt.POP_MISMATCHES + 1) 0xFFFFFFFF) ∧
  (∀ (via : Iface) (v : Word) (s : State), s.logs.held = [] →
    ∃ t, exec (.logPop via v) s = .next t ∧ t.logs.held = [] ∧ t.flag Reg.LOG_EVENTS_UNDERRUN = true ∧
      t.count Cnt.UNDERRUNS = min (s.count Cnt.UNDERRUNS + 1) 0xFFFFFFFF)

/-- LOG_RECORD_WRITE of the block that is next in turn, once its queue's oldest record has been written, takes that record: it becomes the
newest record held, under the present SEQ, SEQ rises by 1 modulo 2^16, RECORDS_WRITTEN rises, and the other blocks' queues stay but the
transmit block's, where a squelch may show. Of any other block it changes nothing. A write of LOG_THRESH above the fill arms THRESH; one at
or below it while armed sets LOG_EVENTS.THRESH and disarms it. (spec/19_monitoring.md) -/
def Obligations.LogWriterKeepsOrderAndNumbers : Prop :=
  (∀ (b : Fin 30) (r : LogRec) (rest : List LogRec) (s : State), tget [] s.logs.queues b.val = r :: rest → s.logTurn b.val = true →
    ∃ t, exec (.logRecordWrite b) s = .next t ∧ t.logs.held.getLast? = some (s.logs.seq, r) ∧ t.logs.seq = (s.logs.seq + 1) % 65536 ∧
      (∀ k, k ≠ b.val → k ≠ wbTx → tget [] t.logs.queues k = tget [] s.logs.queues k) ∧ (b.val ≠ wbTx → tget [] t.logs.queues b.val = rest) ∧
      t.count Cnt.RECORDS_WRITTEN = min (s.count Cnt.RECORDS_WRITTEN + 1) 0xFFFFFFFF) ∧
  (∀ (b : Fin 30) (s : State), s.logTurn b.val = false → exec (.logRecordWrite b) s = .next s) ∧
  (∀ (via : Iface) (v : Word) (s : State), s.logs.fill < v.toNat % 2 ^ 13 →
    ∃ t, exec (.logThresh via v) s = .next t ∧ t.logs.armed = true ∧ t.get Reg.LOG_THRESH_THRESH = v.toNat % 2 ^ 13) ∧
  (∀ (via : Iface) (v : Word) (s : State), v.toNat % 2 ^ 13 ≤ s.logs.fill → s.logs.armed = true →
    ∃ t, exec (.logThresh via v) s = .next t ∧ t.logs.armed = false ∧ t.flag Reg.LOG_EVENTS_THRESH = true)

/-- MAILBOX_WINDOW_WRITE of an aligned word below the doorbell: of an idle mailbox the word then holds the value and its other words, and every
other mailbox, are as before; of a mailbox with PENDING 1 the window stays and MB_WRITES_IGNORED rises. (spec/18_control.md) -/
def Obligations.MailboxWindowTakesWordsWhileIdle : Prop :=
  (∀ (via : Iface) (mb : Fin 8) (off : Nat) (v : Word) (s : State), off < 0x3F8 → off % 4 = 0 → (s.mbox mb.val).phase = .idle →
    ∃ t, exec (.mailboxWindowWrite via mb off v) s = .next t ∧ (t.mbox mb.val).word (off / 4) = v ∧
      (∀ k, k ≠ off / 4 → (t.mbox mb.val).word k = (s.mbox mb.val).word k) ∧ (∀ k, k ≠ mb.val → t.mbox k = s.mbox k) ∧ RegsKept [] s t) ∧
  (∀ (via : Iface) (mb : Fin 8) (off : Nat) (v : Word) (s : State), off < 0x3F8 → (s.mbox mb.val).phase ≠ .idle →
    ∃ t, exec (.mailboxWindowWrite via mb off v) s = .next t ∧ (∀ k, t.mbox k = s.mbox k) ∧
      t.count Cnt.MB_WRITES_IGNORED = min (s.count Cnt.MB_WRITES_IGNORED + 1) 0xFFFFFFFF)

/-- When Omrek answers a mailbox with a code, a reason, an index below 256 each and at most 1,008 payload bytes, RESPONSE holds the code, the
command's SEQ, the reason and the index from bit 0 up, LENGTH the number of bytes, the window those bytes, OPCODE and SEQ stay as the host
wrote them, the mailbox is idle and its transaction is as it was. (spec/18_control.md) -/
def Obligations.AnswerFillsResponseLengthAndPayload : Prop :=
  ∀ (m : Mailbox) (r : Reply), r.code < 256 → r.reason < 256 → r.index < 256 → r.data.length ≤ 1008 →
    ((m.answered r).word 0xFF).toNat = r.code + m.seq * 2 ^ 8 + r.reason * 2 ^ 16 + r.index * 2 ^ 24 ∧
      (m.answered r).length = r.data.length ∧ (m.answered r).payload = r.data ∧ (m.answered r).word 0 = m.word 0 ∧
      (m.answered r).phase = .idle ∧ (m.answered r).txn = m.txn

/-- For each of 51 staging commands: when its mailbox holds it with payload p and its turn has come, a transaction is open there, no other
mailbox's transaction locks an object it names, its bytes fit and no orderly shutdown has ended, it is answered OK without payload; the
transaction holds the command with its payload as its newest, and the objects' locks; and nothing else changes but the mailbox's window and
events, the last mailbox served, the words in which a squelch shows, and what the shared end of a command may change. So no committed
register changes. (spec/18_control.md) -/
def Obligations.StagingCommandsRecordAndLock : Prop :=
  ∀ (c : Fin 8 → Instr) (op : Nat) (objs : List Byte → List Obj), Stages c op objs → ∀ (mb : Fin 8) (p : List Byte) (s : State),
    s.request mb.val op = some p → CanStage mb.val (objs p) p s →
    ∃ t, exec (c mb) s = .next t ∧ Recorded mb.val op p (objs p) [] s t

/-- For the same commands: with no transaction open the answer is NO_TXN; on an object that another mailbox's transaction locks CONFLICT,
counted in CONFLICTS; with no room for its bytes EXHAUSTED; after an orderly shutdown DENIED. In each case the transaction is as it was.
(spec/18_control.md) -/
def Obligations.StagingCommandsAreTurnedAway : Prop :=
  ∀ (c : Fin 8 → Instr) (op : Nat) (objs : List Byte → List Obj), Stages c op objs → ∀ (mb : Fin 8) (p : List Byte) (s : State), s.request mb.val op = some p →
    (s.get Reg.FW_STATUS_STATE = 4 → ∃ t, exec (c mb) s = .next t ∧ OnlyAnswered mb.val (err cDENIED) s t) ∧
    (s.get Reg.FW_STATUS_STATE ≠ 4 → (s.mbox mb.val).txn.state ≠ 1 → ∃ t, exec (c mb) s = .next t ∧ OnlyAnswered mb.val (err cNO_TXN) s t) ∧
    (s.get Reg.FW_STATUS_STATE ≠ 4 → (s.mbox mb.val).txn.state = 1 → s.conflict mb.val (objs p) = true →
      ∃ t, exec (c mb) s = .next t ∧ Answered mb.val (err cCONFLICT) s t ∧ t.count Cnt.CONFLICTS = min (s.count Cnt.CONFLICTS + 1) 0xFFFFFFFF) ∧
    (s.get Reg.FW_STATUS_STATE ≠ 4 → (s.mbox mb.val).txn.state = 1 → s.conflict mb.val (objs p) = false →
      2 ^ 20 < s.stagedBytes + p.length + 16 → ∃ t, exec (c mb) s = .next t ∧ OnlyAnswered mb.val (err cEXHAUSTED) s t)

/-- SYS_LOOP_BOUNDS_SET for instances that exist, FURROW_RX_SET and FURROW_TX_SET for all furrows or one of the staged count, LEAF_PROVISION of
a serial that no other entry holds, LEAF_ADMIT of an entry that may take its profile, LEAF_SELF_SET with a serial (it locks nothing),
TURNOUT_CLIENT_SET with a rill count of its kind, CTX_WRITE with a key held, CTX_RESTORE of a clear record whose key is held and matches,
CIPHER_ROLL that arms, or activates what is armed: each is answered OK, its transaction holds it as its newest and the locks of its objects,
and nothing else changes but the mailbox events, the last mailbox served and what the shared end of a command may change. TSI_MAP_SET and
TSI_MAP_CLEAR within the 2,048 rills also put the entries into the standby page, their reserved bits 0. CTX_RESTORE of a wrapped record that
unwraps, DPD_UPDATE in leaf mode and MOD_DPD_UPDATE with curves that pass keep the unwrapped record or the curves with the command.
(spec/18_control.md, spec/04_coherent_receiver.md, spec/05_burst_access.md, spec/06_transmit_shaping.md, spec/09_rills_tsi.md,
spec/10_line_cipher.md, spec/16_module_mode.md) -/
def Obligations.CheckedStagingCommandsRecord : Prop :=
  (∀ (mb : Fin 8) (p : List Byte) (s : State), s.request mb.val 0x0122 = some p → badInstance p true = none →
    CanStage mb.val ((loopTargets (u8 p 0) (u8 p 1)).map (fun i => (.loopInst, 64 * u8 p 0 + i))) p s →
    ∃ t, exec (.sysLoopBoundsSet mb) s = .next t ∧ Recorded mb.val 0x0122 p ((loopTargets (u8 p 0) (u8 p 1)).map (fun i => (.loopInst, 64 * u8 p 0 + i))) [] s t) ∧
  (∀ (mb : Fin 8) (p : List Byte) (s : State), s.request mb.val 0x0401 = some p → (u8 p 0 = 0xFF ∨ u8 p 0 < s.stagedNFur mb.val) →
    CanStage mb.val ((furrowList (u8 p 0)).map (fun f => (.furrow, f))) p s →
    ∃ t, exec (.furrowRxSet mb) s = .next t ∧ Recorded mb.val 0x0401 p ((furrowList (u8 p 0)).map (fun f => (.furrow, f))) [] s t) ∧
  (∀ (mb : Fin 8) (p : List Byte) (s : State), s.request mb.val 0x0405 = some p → (u8 p 0 = 0xFF ∨ u8 p 0 < s.stagedNFur mb.val) →
    CanStage mb.val ((furrowList (u8 p 0)).map (fun f => (.txFurrow, f))) p s →
    ∃ t, exec (.furrowTxSet mb) s = .next t ∧ Recorded mb.val 0x0405 p ((furrowList (u8 p 0)).map (fun f => (.txFurrow, f))) [] s t) ∧
  (∀ (mb : Fin 8) (p : List Byte) (s : State), s.request mb.val 0x0501 = some p → u64 p 4 ≠ 0 → s.holder (u64 p 4) = none ∨ s.holder (u64 p 4) = some (u16 p 0) →
    u8 p 2 ≠ 0 ∨ s.flag Reg.LF_STATUS_PROFILE_SET (u16 p 0) = false →
    CanStage mb.val [(.leaf, u16 p 0)] p s → ∃ t, exec (.leafProvision mb) s = .next t ∧ Recorded mb.val 0x0501 p [(.leaf, u16 p 0)] [] s t) ∧
  (∀ (mb : Fin 8) (p : List Byte) (s : State), s.request mb.val 0x0502 = some p → s.leafState (u16 p 0) ≠ 6 → s.flag Reg.LF_STATUS_BLOCKED (u16 p 0) = false →
    (∀ k, k < 1024 → k ≠ u16 p 0 → s.flag Reg.LF_STATUS_PROFILE_SET k = true → s.get Reg.LF_PROFILE_TURNOUT k ≠ u8 p 2) → s.otherClient (u8 p 2) = false →
    s.dataFurrow (u8 p 3) = true → s.leafState (u16 p 0) = 0 ∨ (s.leafInfo (u16 p 0)).group = u8 p 3 / 4 →
    CanStage mb.val [(.leaf, u16 p 0)] p s → ∃ t, exec (.leafAdmit mb) s = .next t ∧ Recorded mb.val 0x0502 p [(.leaf, u16 p 0)] [] s t) ∧
  (∀ (mb : Fin 8) (p : List Byte) (s : State), s.request mb.val 0x0509 = some p → u64 p 4 ≠ 0 → CanStage mb.val [] p s →
    ∃ t, exec (.leafSelfSet mb) s = .next t ∧ Recorded mb.val 0x0509 p [] [] s t) ∧
  (∀ (mb : Fin 8) (p : List Byte) (s : State), s.request mb.val 0x0704 = some p → s.get Reg.KS_STATUS_STATE (u16 p 2) = 1 → CanStage mb.val [(.ctx, u16 p 0)] p s →
    ∃ t, exec (.ctxWrite mb) s = .next t ∧ Recorded mb.val 0x0704 p [(.ctx, u16 p 0)] [] s t) ∧
  (∀ (mb : Fin 8) (p : List Byte) (s : State), s.request mb.val 0x0707 = some p → s.restoreRefuse p = none → CanStage mb.val [(.ctx, u16 p 0)] p s →
    (restoreForm p ≠ 1 → ∃ t, exec (.ctxRestore mb) s = .next t ∧ Recorded mb.val 0x0707 p [(.ctx, u16 p 0)] [] s t) ∧
    (∀ y, restoreForm p = 1 → s.restoreBody p = some y → ∃ t, exec (.ctxRestore mb) s = .next t ∧ RecordedWith mb.val 0x0707 p y s t)) ∧
  (∀ (mb : Fin 8) (p : List Byte) (s : State), s.request mb.val 0x0709 = some p →
    u8 p 3 ≠ 1 ∨ (s.flag Reg.TN_CIPH_STATUS_NEXT_VALID (u8 p 0) = true ∧ s.get Reg.TN_CIPH_STATUS_NEXT_CTX (u8 p 0) = u16 p 1) →
    CanStage mb.val [(.turnout, u8 p 0)] p s →
    ∃ t, exec (.cipherRoll mb) s = .next t ∧ Recorded mb.val 0x0709 p [(.turnout, u8 p 0)] [] s t) ∧
  (∀ (mb : Fin 8) (p : List Byte) (s : State), s.request mb.val 0x0601 = some p →
    rillsOk (bitsOf (u32 p 4) 0 3) (bitsOf (u32 p 4) 3 3) (bitsOf (u32 p 4) 10 11) = true → (bitsOf (u32 p 4) 0 3 = 3 ∨ s.leafBound (u8 p 0) = false) →
    CanStage mb.val [(.turnout, u8 p 0)] p s → ∃ t, exec (.turnoutClientSet mb) s = .next t ∧ Recorded mb.val 0x0601 p [(.turnout, u8 p 0)] [] s t) ∧
  (∀ (mb : Fin 8) (p : List Byte) (s : State), s.request mb.val 0x0340 = some p → u16 p 0 + u16 p 2 ≤ 2048 → CanStage mb.val [(.tsi, 0)] p s →
    ∃ t, exec (.tsiMapSet mb) s = .next t ∧
      t.mbox mb.val = ({ s.mbox mb.val with txn := (s.mbox mb.val).txn.add { op := 0x0340, payload := p } [(.tsi, 0)] } : Mailbox).answered ok ∧
      (∀ k, k ≠ mb.val → t.mbox k = s.mbox k) ∧
      ∀ k, k < u16 p 2 → (t.reg (pageBase s.standby + 4 * (u16 p 0 + k))).toNat = u32 p (4 + 4 * k) &&& 0xFFFFF800) ∧
  (∀ (mb : Fin 8) (p : List Byte) (s : State), s.request mb.val 0x0341 = some p → u16 p 0 + u16 p 2 ≤ 2048 → CanStage mb.val [(.tsi, 0)] p s →
    ∃ t, exec (.tsiMapClear mb) s = .next t ∧
      t.mbox mb.val = ({ s.mbox mb.val with txn := (s.mbox mb.val).txn.add { op := 0x0341, payload := p } [(.tsi, 0)] } : Mailbox).answered ok ∧
      (∀ k, k ≠ mb.val → t.mbox k = s.mbox k) ∧
      ∀ k, k < u16 p 2 → t.reg (pageBase s.standby + 4 * (u16 p 0 + k)) = 0) ∧
  (∀ (mb : Fin 8) (p : List Byte) (s : State) (y : List Byte), s.request mb.val 0x0316 = some p → s.mode = 2 → s.dpdUpdate p = some y → CanStage mb.val [(.txLine, 0)] p s →
    ∃ t, exec (.dpdUpdate mb) s = .next t ∧ RecordedWith mb.val 0x0316 p y s t) ∧
  (∀ (mb : Fin 8) (p : List Byte) (s : State) (y : List Byte), s.request mb.val 0x0363 = some p → s.modDpdUpdate p = some y → CanStage mb.val (modObjs p) p s →
    ∃ t, exec (.modDpdUpdate mb) s = .next t ∧ RecordedWith mb.val 0x0363 p y s t)

/-- For each of 28 status commands: when its mailbox holds it with payload p and its turn has come, it is answered OK and its payload is the
words of the registers that the command names, each least significant byte first: for 22 the words held, for INT_STATUS_GET, LOG_STATUS_GET,
TEST_STATUS_GET, TIMING_STATUS_GET, FEC_STATUS_GET and LANE_STATUS_GET what a read of the words returns. Registers, state and the other
mailboxes are as before but for the answer, the last mailbox served, the words in which a squelch shows, and what the shared end of a
command may change. (spec/18_control.md) -/
def Obligations.RegisterReportsReturnTheWords : Prop :=
  (∀ (c : Fin 8 → Instr) (op : Nat) (words : List Byte → List Nat), ReportsWords c op words → ∀ (mb : Fin 8) (p : List Byte) (s : State), s.request mb.val op = some p →
    ∃ t, exec (c mb) s = .next t ∧ OnlyAnswered mb.val (okD (regBytes s (words p))) s t) ∧
  (∀ (c : Fin 8 → Instr) (op : Nat) (words : List Byte → List Nat), ReportsLive c op words → ∀ (mb : Fin 8) (p : List Byte) (s : State), s.request mb.val op = some p →
    ∃ t, exec (c mb) s = .next t ∧ OnlyAnswered mb.val (okD ((words p).flatMap (fun a => bytes 4 (s.readWord a).toNat))) s t)

/-- SYS_LATENCY_GET, TIME_GET, FI_STATUS_GET, LINE_RX_STATUS_GET, LINE_TX_STATUS_GET, FURROW_RX_STATUS_GET, FURROW_TX_STATUS_GET,
PROT_STATUS_GET (its timers counted down to now), CAL_STATUS_GET, CAL_SLICE_GET, LEAF_LIST_GET, ENG_PROG_GET, TERN_GET, POLICER_STATUS_GET
and PERF_COUNTERS_GET: when its mailbox holds the command and its turn has come, it is answered OK with the fields of its response in the
order of its table, and nothing else changes but the last mailbox served, the words in which a squelch shows, and what the shared end of a
command may change. (spec/03_line_converters.md, spec/04_coherent_receiver.md, spec/05_burst_access.md, spec/06_transmit_shaping.md,
spec/08_flume_frame.md, spec/11_intake_parser.md, spec/12_headgate.md, spec/13_sluice_engines.md, spec/17_timing.md,
spec/20_performance_counters.md, spec/21_test_security.md) -/
def Obligations.StatusReportsReturnComputedValues : Prop :=
  ∀ (c : Fin 8 → Instr) (op : Nat) (f : State → List Byte → List Byte), ReportsValues c op f → ∀ (mb : Fin 8) (p : List Byte) (s : State), s.request mb.val op = some p →
    ∃ t, exec (c mb) s = .next t ∧ OnlyAnswered mb.val (okD (f s p)) s t

/-- TXN_STATUS returns state, reason, index, ID, staged commands, bytes, the ms left before the idle timeout and the last commit's multiframe of
the mailbox it names; TAP_READ within the fill the words from its offset, beyond it INVALID; SYS_LOOP_BOUNDS_GET of an instance its bounds
and value; LEAF_SELF_STATUS_GET in leaf mode the four words of the leaf's own status, outside it DENIED; LEAF_SEED_GET the seed, or taps
that pass everything, and its time; CTX_SAVE in clear form of a record with a key its clear record, wrapped under a KEK the KEK and the
wrapped record. Nothing else changes but the answer, the last mailbox served, the words in which a squelch shows, and what the shared end of
a command may change. (spec/02_operating_modes.md, spec/05_burst_access.md, spec/10_line_cipher.md, spec/18_control.md,
spec/19_monitoring.md) -/
def Obligations.TransactionTapBoundsLeafAndContextReports : Prop :=
  (∀ (mb : Fin 8) (p : List Byte) (x : Txn) (s : State), s.request mb.val 0x0204 = some p → x = (s.mbox (if u8 p 0 = 0xFF then mb.val else u8 p 0)).txn →
    ∃ t, exec (.txnStatus mb) s = .next t ∧ OnlyAnswered mb.val (okD (bytes 1 x.state ++ bytes 1 x.reason ++ bytes 1 x.index ++ [0] ++ bytes 4 x.id.toNat ++
      bytes 2 x.staged.length ++ [0, 0] ++ bytes 4 ((x.staged.map (fun c => c.payload.length + 16)).sum) ++
      bytes 4 (if x.state = 1 then (x.lastCmd + 130000000000 - s.clock) / 13000000 else 0) ++ bytes 4 x.lastMfn.toNat)) s t) ∧
  (∀ (mb : Fin 8) (p : List Byte) (s : State), s.request mb.val 0x0147 = some p →
    (u16 p 0 + u16 p 2 ≤ s.get Reg.TAP_STATUS_FILL → ∃ t, exec (.tapRead mb) s = .next t ∧
      OnlyAnswered mb.val (okD (((s.tap.buf.drop (u16 p 0)).take (u16 p 2)).flatMap (fun w => bytes 8 w.toNat))) s t) ∧
    (s.get Reg.TAP_STATUS_FILL < u16 p 0 + u16 p 2 → ∃ t, exec (.tapRead mb) s = .next t ∧ OnlyAnswered mb.val { code := cINVALID, index := 1 } s t)) ∧
  (∀ (mb : Fin 8) (p : List Byte) (s : State), s.request mb.val 0x0123 = some p → badInstance p false = none →
    ∃ t, exec (.sysLoopBoundsGet mb) s = .next t ∧ OnlyAnswered mb.val (okD (bytes 4 (twos 32 (s.bounds (u8 p 0) (u8 p 1)).1) ++
      bytes 4 (twos 32 (s.bounds (u8 p 0) (u8 p 1)).2) ++ bytes 4 (twos 32 (s.loopValue (u8 p 0) (u8 p 1))))) s t) ∧
  (∀ (mb : Fin 8) (p : List Byte) (s : State), s.request mb.val 0x050A = some p →
    (s.mode = 2 → ∃ t, exec (.leafSelfStatusGet mb) s = .next t ∧ OnlyAnswered mb.val (okD (regBytes s [0x14008C, 0x140094, 0x140098, 0x140090])) s t) ∧
    (s.mode ≠ 2 → ∃ t, exec (.leafSelfStatusGet mb) s = .next t ∧ OnlyAnswered mb.val (err cDENIED) s t)) ∧
  (∀ (mb : Fin 8) (p : List Byte) (s : State), s.request mb.val 0x0506 = some p →
    ∃ t, exec (.leafSeedGet mb) s = .next t ∧
      OnlyAnswered mb.val (okD ((s.leafInfo (u16 p 0)).seed.getD identityTaps ++ bytes 8 (s.leafInfo (u16 p 0)).seedAt)) s t) ∧
  (∀ (mb : Fin 8) (p : List Byte) (s : State), s.request mb.val 0x0706 = some p → s.blocksOff = false → p.length = 4 + 4 * u8 p 2 →
    s.flag Reg.CTX_STATUS_KEY_VALID (u16 p 0) = true →
    (u8 p 2 = 0 → ∃ t, exec (.ctxSave mb) s = .next t ∧ OnlyAnswered mb.val (okD (s.clearRecord (u16 p 0))) s t) ∧
    (u8 p 2 ≠ 0 → s.k0Denied (u16 p 4) = false → s.isKek (u16 p 4) = true → ∃ t, exec (.ctxSave mb) s = .next t ∧
      OnlyAnswered mb.val (okD (bytes 2 (u16 p 4) ++ keyWrap (s.keySlot (u16 p 4)).key (s.wrapBody (u16 p 0)))) s t))

/-- Each of ADD, SUB, AND, OR, XOR, SHL, SHR, SAR, MUL, SLT, SLTU, ADDI, ANDI, ORI, XORI, SHLI, SHRI, SARI and LUI, where its thread can issue
it and it is not the last instruction of the code: the task has its result in rd (g0 takes nothing), usable 1 cycle later (MUL 3), and goes
on at the next instruction, one more counted against its budget; the other threads, memory, every register word but error and performance
counters and the words of a squelch, are as before. That immediates of ADDI and LUI are sign-extended is the spec's.
(spec/13_sluice_engines.md) -/
def Obligations.EngineArithmeticWritesRd : Prop :=
  ∀ (c : Fin 512 → Fin 8 → Instr) (op lat : Nat) (f : DWord → DWord → Nat → DWord), Computes c op lat f →
    ∀ (e : Fin 512) (t : Fin 8) (k : Task) (w : Nat) (s : State),
    CanIssue e t k w s → insOp w = op → k.pc + 1 < imgLen (s.latImage (e.val / 16)) →
    ∃ u, exec (c e t) s = .next u ∧ Issued e t (after (k.put (insX w) (f (k.a w) (k.b w) (insImm w)) (k.now s + lat)) (k.pc + 1) (s.latNow (e.val / 16))) s u

/-- BEQ, BNE, BLT, BLTU, BGE and BGEU with a target inside the code go on at pc + 1 + the sign-extended offset when the condition of their two
registers holds and at pc + 1 when not, and change no register; JAL puts pc + 1 in rd and goes on at pc + 1 + offset; JR goes on at ra.
Nothing else changes but counters, the sampler, the log and the MSI-X state. (spec/13_sluice_engines.md) -/
def Obligations.EngineBranchesAndJumps : Prop :=
  (∀ (c : Fin 512 → Fin 8 → Instr) (op : Nat) (P : DWord → DWord → Prop), Branches c op P →
    ∀ (e : Fin 512) (t : Fin 8) (k : Task) (w pc : Nat) (s : State), CanIssue e t k w s → insOp w = op → pc < imgLen (s.latImage (e.val / 16)) →
    ((P (k.reg (insX w)) (k.reg (insY w)) ∧ (pc : Int) = k.pc + 1 + insSimm w) ∨ (¬P (k.reg (insX w)) (k.reg (insY w)) ∧ pc = k.pc + 1)) →
    ∃ u, exec (c e t) s = .next u ∧ Issued e t (after k pc (s.latNow (e.val / 16))) s u) ∧
  (∀ (e : Fin 512) (t : Fin 8) (k : Task) (w pc : Nat) (s : State), CanIssue e t k w s → insOp w = 0x26 → pc < imgLen (s.latImage (e.val / 16)) →
    (pc : Int) = k.pc + 1 + insSimm w →
    ∃ u, exec (.iJal e t) s = .next u ∧ Issued e t (after (k.put (insX w) (BitVec.ofNat 64 (k.pc + 1)) (k.now s + 1)) pc (s.latNow (e.val / 16))) s u) ∧
  (∀ (e : Fin 512) (t : Fin 8) (k : Task) (w : Nat) (s : State), CanIssue e t k w s → insOp w = 0x27 → (k.a w).toNat < imgLen (s.latImage (e.val / 16)) →
    ∃ u, exec (.iJr e t) s = .next u ∧ Issued e t (after k (k.a w).toNat (s.latNow (e.val / 16))) s u)

/-- With an address inside the 4,096 bytes and aligned to its width, LDB, LDH, LDW and LDD of a sound word put the bytes from that address,
least significant first and zero-extended, in rd, usable 2 cycles later; STB, STH, STW and STD leave the low bytes of the register named in
rd at the address ra plus the sign-extended immediate, and every other byte of data memory, every register of the task and every other
thread's task as they were. A store may fire the armed bit flip of that memory, which shows in the words of the integrity chapter and in
TEST_STATUS. (spec/13_sluice_engines.md, spec/14_memory_integrity.md) -/
def Obligations.EngineDataMemory : Prop :=
  (∀ (c : Fin 512 → Fin 8 → Instr) (op n : Nat), Loads c op n → ∀ (e : Fin 512) (t : Fin 8) (k : Task) (w : Nat) (s : State),
    CanIssue e t k w s → insOp w = op → k.pc + 1 < imgLen (s.latImage (e.val / 16)) → k.addr w < 4096 → k.addr w % n = 0 →
    Clean 3 e.val (dmemWord t.val (k.addr w)) s →
    ∃ u, exec (c e t) s = .next u ∧
      Issued e t (after (k.put (insX w) (BitVec.ofNat 64 (k.dmemVal (k.addr w) n)) (k.now s + 2) 1) (k.pc + 1) (s.latNow (e.val / 16))) s u) ∧
  (∀ (c : Fin 512 → Fin 8 → Instr) (op n : Nat), Stores c op n → ∀ (e : Fin 512) (t : Fin 8) (k : Task) (w : Nat) (s : State),
    CanIssue e t k w s → insOp w = op → k.pc + 1 < imgLen (s.latImage (e.val / 16)) → k.addr w < 4096 → k.addr w % n = 0 →
    ∃ u k1, exec (c e t) s = .next u ∧ { k1 with dmem := k.dmem } = after k (k.pc + 1) (s.latNow (e.val / 16)) ∧
      (∀ i, i < n → tget 0 k1.dmem (k.addr w + i) = BitVec.ofNat 8 ((k.reg (insX w)).toNat / 256 ^ i)) ∧
      (∀ b, b < k.addr w ∨ k.addr w + n ≤ b → tget 0 k1.dmem b = tget 0 k.dmem b) ∧ IssuedBut [0x50010] e t k1 s u)

/-- With their bytes inside the packet, PLB, PLH, PLW and PLD of bytes without a poison mark put them, most significant first, in rd, usable 4
cycles later, 24 when they reach beyond the 512-byte buffer; PSB, PSH, PSW and PSD replace exactly those bytes of the packet by the low
bytes of the register named in rd and leave the packet's length, every other byte of it and the task's registers and data memory. Otherwise
only what an issue may change has changed: error and performance counters, the log, the sampler, for a load the banks' busy times, for a
store the armed bit flip of the buffer. (spec/13_sluice_engines.md, spec/14_memory_integrity.md) -/
def Obligations.EnginePacketLoadsAndStores : Prop :=
  (∀ (c : Fin 512 → Fin 8 → Instr) (op n : Nat), PacketLoads c op n → ∀ (e : Fin 512) (t : Fin 8) (k : Task) (w : Nat) (s : State),
    CanIssue e t k w s → insOp w = op → k.pc + 1 < imgLen (s.latImage (e.val / 16)) → k.addr w + n ≤ k.data.length →
    (s.pktLoad e.val t.val k (k.addr w) n).2 = false →
    ∃ u, exec (c e t) s = .next u ∧
      IssuedBanks e t (after (k.put (insX w) (BitVec.ofNat 64 (be n k.data (k.addr w))) (k.now s + (if k.beyond (k.addr w) n then 24 else 4)) 1) (k.pc + 1) (s.latNow (e.val / 16))) s u) ∧
  (∀ (c : Fin 512 → Fin 8 → Instr) (op n : Nat), PacketStores c op n → ∀ (e : Fin 512) (t : Fin 8) (k : Task) (w : Nat) (s : State),
    CanIssue e t k w s → insOp w = op → k.pc + 1 < imgLen (s.latImage (e.val / 16)) → k.addr w + n ≤ k.data.length →
    ∃ u k1, exec (c e t) s = .next u ∧ { k1 with data := k.data, poison := k.poison } = after k (k.pc + 1) (s.latNow (e.val / 16)) ∧
      k1.data.length = k.data.length ∧ (k1.data.drop (k.addr w)).take n = bytesBe n (k.reg (insX w)).toNat ∧
      (∀ i, i < k.addr w ∨ k.addr w + n ≤ i → k1.data[i]? = k.data[i]?) ∧ IssuedBut [0x50010] e t k1 s u)

/-- PADJ with an immediate n ≥ 0 within the packet removes n bytes in front, with n < 0 within the 256 bytes of headroom adds that many zero
bytes in front; CRC of data memory bytes that lie inside the region continues the CRC of R468 from rd[31:0], usable 1 + ⌈n/8⌉ cycles later;
CSUM of packet bytes inside the packet continues the one's-complement sum from rd[15:0], usable 4 + ⌈n/8⌉ cycles later. That PADJ past the
packet's end leaves its range is the model's reading (log entry 58) and not part of this statement. (spec/13_sluice_engines.md) -/
def Obligations.EnginePacketShapeAndSums : Prop :=
  (∀ (e : Fin 512) (t : Fin 8) (k : Task) (w n : Nat) (s : State), CanIssue e t k w s → insOp w = 0x38 → k.pc + 1 < imgLen (s.latImage (e.val / 16)) →
    insSimm w = n → n ≤ k.data.length →
    ∃ u, exec (.iPadj e t) s = .next u ∧ Issued e t (after (k.cutFront n) (k.pc + 1) (s.latNow (e.val / 16))) s u ∧ (k.cutFront n).data = k.data.drop n) ∧
  (∀ (e : Fin 512) (t : Fin 8) (k : Task) (w n : Nat) (s : State), CanIssue e t k w s → insOp w = 0x38 → k.pc + 1 < imgLen (s.latImage (e.val / 16)) →
    insSimm w = -(n : Int) → 0 < n → -256 ≤ k.shift - n →
    ∃ u, exec (.iPadj e t) s = .next u ∧ Issued e t (after (k.growFront n) (k.pc + 1) (s.latNow (e.val / 16))) s u ∧ (k.growFront n).data = List.replicate n 0 ++ k.data) ∧
  (∀ (e : Fin 512) (t : Fin 8) (k : Task) (w : Nat) (s : State), CanIssue e t k w s → insOp w = 0x39 → k.pc + 1 < imgLen (s.latImage (e.val / 16)) →
    (k.a w).toNat + (k.b w).toNat % 1024 ≤ 4096 → (∀ i, i < (k.b w).toNat % 1024 → Clean 3 e.val (dmemWord t.val ((k.a w).toNat + i)) s) →
    ∃ u, exec (.iCrc e t) s = .next u ∧ Issued e t (after (k.put (insX w) (BitVec.ofNat 64 (flowCrc ((k.reg (insX w)).toNat % 2 ^ 32)
      ((List.range ((k.b w).toNat % 1024)).map (fun i => tget 0 k.dmem ((k.a w).toNat + i))))) (k.now s + (1 + ((k.b w).toNat % 1024 + 7) / 8))) (k.pc + 1) (s.latNow (e.val / 16))) s u) ∧
  (∀ (e : Fin 512) (t : Fin 8) (k : Task) (w : Nat) (s : State), CanIssue e t k w s → insOp w = 0x3A → k.pc + 1 < imgLen (s.latImage (e.val / 16)) →
    (k.a w).toNat + (k.b w).toNat ≤ k.data.length → (s.pktLoad e.val t.val k (k.a w).toNat (k.b w).toNat).2 = false →
    ∃ u, exec (.iCsum e t) s = .next u ∧ IssuedBanks e t (after (k.put (insX w) (BitVec.ofNat 64 (onesSum ((k.data.drop (k.a w).toNat).take (k.b w).toNat)
      ((k.reg (insX w)).toNat % 65536))) (k.now s + (4 + ((k.b w).toNat + 7) / 8))) (k.pc + 1) (s.latNow (e.val / 16))) s u)

/-- Each of OREAD, OADD, OSWP, OCAS, UREAD, UADD, USWP and UCAS on a sound word below 2^19, when it is unordered or its domain is not ordered or
the order gate is free and not released: rd takes the word's old value, usable 24 cycles later or 25 when an atom has reached the word in
this cycle, the word takes the operation's value, every other state word stays. While an atom of a lower-numbered engine can issue on the
same word in this cycle, the atom lets it go first and nothing happens. An ordered atom whose gate is not free waits at its instruction;
ORDER_GATE_ACQUIRE applies it once the gate is free, with the same effect on rd and the word. (spec/13_sluice_engines.md) -/
def Obligations.EngineAtomsAndOrderGate : Prop :=
  (∀ (c : Fin 512 → Fin 8 → Instr) (fn : Nat) (f : DWord → DWord → DWord → DWord), Atoms c fn f →
    ∀ (e : Fin 512) (t : Fin 8) (k : Task) (w : Nat) (p : Pkt) (s : State),
    CanIssue e t k w s → s.atomYields e.val t.val = false → insOp w = 0x3B → insFunc w = fn → k.pc + 1 < imgLen (s.latImage (e.val / 16)) →
    s.pkt k.pkt = some p → (k.a w).toNat < 524288 → Clean 5 0 (k.a w).toNat s →
    (4 ≤ fn ∨ p.ordered = false ∨ (k.released = false ∧ s.gateFree p.turnout p.num = true)) →
    ∃ u lat, exec (c e t) s = .next u ∧
      lat = (if s.eng.atomCycle = s.cycle + 1 ∧ (k.a w).toNat ∈ s.eng.atomWords then 25 else 24) ∧
      u.task e.val t.val = some (after { k.put (insX w) (tget 0 s.eng.words (k.a w).toNat) (k.now s + lat) 2 with atomAt := max k.atomAt (k.now s + lat) } (k.pc + 1) (s.latNow (e.val / 16))) ∧
      OneThread e t s u ∧ (∀ a, ¬issueWord a → a ∉ squelchWords → a ≠ 0x50010 → a ≠ Cnt.UNORDERED_OPS.addr p.turnout 0 → u.reg a = s.reg a) ∧ tget 0 u.eng.words (k.a w).toNat = f (tget 0 s.eng.words (k.a w).toNat) (k.b w) (k.reg (insX w)) ∧
      (∀ i, i ≠ (k.a w).toNat → tget 0 u.eng.words i = tget 0 s.eng.words i) ∧
      { u.eng with tasks := s.eng.tasks, lastIssue := s.eng.lastIssue, atomCycle := s.eng.atomCycle, atomWords := s.eng.atomWords, words := s.eng.words } = s.eng ∧
      { Shared s u with mem := s.mem, perf := s.perf, eng := s.eng } = s) ∧
  (∀ (c : Fin 512 → Fin 8 → Instr) (fn : Nat) (f : DWord → DWord → DWord → DWord), Atoms c fn f →
    ∀ (e : Fin 512) (t : Fin 8) (s : State), s.atomYields e.val t.val = true → exec (c e t) s = .next s) ∧
  (∀ (c : Fin 512 → Fin 8 → Instr) (fn : Nat) (f : DWord → DWord → DWord → DWord), Atoms c fn f →
    ∀ (e : Fin 512) (t : Fin 8) (k : Task) (w : Nat) (p : Pkt) (s : State),
    CanIssue e t k w s → s.atomYields e.val t.val = false → insOp w = 0x3B → insFunc w = fn → fn < 4 → s.pkt k.pkt = some p → (k.a w).toNat < 524288 →
    p.ordered = true → k.released = false → s.gateFree p.turnout p.num = false →
    ∃ u, exec (c e t) s = .next u ∧ Issued e t { k with issued := k.issued + 1, waiting := true } s u) ∧
  (∀ (c : Fin 512 → Fin 8 → Instr) (fn : Nat) (f : DWord → DWord → DWord → DWord), Atoms c fn f →
    ∀ (e : Fin 512) (t : Fin 8) (k : Task) (w : Nat) (p : Pkt) (s : State),
    s.task e.val t.val = some k → imgWord (s.latImage (e.val / 16)) k.pc = w → insFunc w = fn → k.waiting = true → s.pkt k.pkt = some p →
    s.gateFree p.turnout p.num = true → Clean 5 0 (k.a w).toNat s → k.pc + 1 < imgLen (s.latImage (e.val / 16)) →
    ∃ u at_, exec (.orderGateAcquire e t) s = .next u ∧ (at_ = k.now s + 24 ∨ at_ = k.now s + 25) ∧
      u.task e.val t.val = some { k.put (insX w) (tget 0 s.eng.words (k.a w).toNat) at_ 2 with waiting := false, atomAt := max k.atomAt at_, pc := k.pc + 1, fetchAt := s.latNow (e.val / 16) + 1 } ∧
      tget 0 u.eng.words (k.a w).toNat = f (tget 0 s.eng.words (k.a w).toNat) (k.b w) (k.reg (insX w)) ∧
      (∀ i, i ≠ (k.a w).toNat → tget 0 u.eng.words i = tget 0 s.eng.words i) ∧
      { u.eng with tasks := s.eng.tasks, lastIssue := s.eng.lastIssue, atomCycle := s.eng.atomCycle, atomWords := s.eng.atomWords, words := s.eng.words } = s.eng ∧
      { Shared s u with mem := s.mem, perf := s.perf, eng := s.eng } = s)

/-- CSRR of a readable CSR puts its value in rd; csr_cnt with the program's permission reads the instructions issued (selection 12) and the
cycles since dispatch (13). CSRW of csr_len within its limits sets the packet's length, of csr_hdr_sel takes bits 3:0 (log entry 59), of
csr_cnt_sel the value. EMIT with a forwarding verb, fewer than 8 emits and a length of 60 to 9,724 bytes adds a copy of the packet as it
stands. ORDREL releases an ordered task's gate and does nothing else. END frees the thread; the emits of an ordered task wait for its turn.
(spec/13_sluice_engines.md, spec/17_timing.md, spec/20_performance_counters.md) -/
def Obligations.EngineRegistersEmitAndEnd : Prop :=
  (∀ (e : Fin 512) (t : Fin 8) (k : Task) (w v : Nat) (p : Pkt) (s : State), CanIssue e t k w s → insOp w = 0x3C → k.pc + 1 < imgLen (s.latImage (e.val / 16)) →
    s.pkt k.pkt = some p → insImm w ≠ 20 → s.csrRead e.val t.val k p (insImm w) = .inl v →
    ∃ u, exec (.iCsrr e t) s = .next u ∧
      IssuedBut [Cnt.TIMER_READS.addr p.turnout 0] e t (after (k.put (insX w) (BitVec.ofNat 64 v) (k.now s + 1)) (k.pc + 1) (s.latNow (e.val / 16))) s u) ∧
  (∀ (e : Fin 512) (t : Fin 8) (k : Task) (w : Nat) (p : Pkt) (s : State), CanIssue e t k w s → insOp w = 0x3C → k.pc + 1 < imgLen (s.latImage (e.val / 16)) →
    s.pkt k.pkt = some p → insImm w = 20 → k.cntRead = true → k.cntSel ≤ 13 →
    ∃ u v, exec (.iCsrr e t) s = .next u ∧
      IssuedBut [Cnt.TIMER_READS.addr p.turnout 0] e t (after (k.put (insX w) (BitVec.ofNat 64 v) (k.now s + 1)) (k.pc + 1) (s.latNow (e.val / 16))) s u ∧
      (k.cntSel = 12 → v = k.issued + 1) ∧ (k.cntSel = 13 → v = k.now s - k.start)) ∧
  (∀ (e : Fin 512) (t : Fin 8) (k k1 : Task) (w : Nat) (s : State), CanIssue e t k w s → insOp w = 0x3D → k.pc + 1 < imgLen (s.latImage (e.val / 16)) →
    ((insImm w = 2 ∧ k.setLen (k.a w).toNat = some k1) ∨ (insImm w = 7 ∧ k1 = { k with hdrSel := (k.a w).toNat % 16 }) ∨
      (insImm w = 19 ∧ k1 = { k with cntSel := (k.a w).toNat })) →
    ∃ u, exec (.iCsrw e t) s = .next u ∧ Issued e t (after k1 (k.pc + 1) (s.latNow (e.val / 16))) s u) ∧
  (∀ (e : Fin 512) (t : Fin 8) (k : Task) (w : Nat) (s : State), CanIssue e t k w s → insOp w = 0x3E → k.pc + 1 < imgLen (s.latImage (e.val / 16)) →
    (actVerb (k.a w).toNat = 0 ∨ actVerb (k.a w).toNat = 3 ∨ actVerb (k.a w).toNat = 4) → k.emits.length < 8 → 60 ≤ k.data.length → k.data.length ≤ 9724 →
    ∃ u m, exec (.iEmit e t) s = .next u ∧
      IssuedBanks e t (after { k with emits := k.emits ++ [{ action := (k.a w).toNat, data := k.data, poison := m }] } (k.pc + 1) (s.latNow (e.val / 16))) s u) ∧
  (∀ (e : Fin 512) (t : Fin 8) (k : Task) (w : Nat) (p : Pkt) (s : State), CanIssue e t k w s → insOp w = 0x3F → insImm w = 1 →
    k.pc + 1 < imgLen (s.latImage (e.val / 16)) → s.pkt k.pkt = some p →
    ∃ u, exec (.iOrdrel e t) s = .next u ∧ Issued e t (after { k with released := k.released || p.ordered } (k.pc + 1) (s.latNow (e.val / 16))) s u) ∧
  (∀ (e : Fin 512) (t : Fin 8) (k : Task) (w : Nat) (p : Pkt) (s : State), CanIssue e t k w s → insOp w = 0x3F → insImm w = 0 → s.pkt k.pkt = some p →
    ∃ u, exec (.iEnd e t) s = .next u ∧ u.task e.val t.val = none ∧
      (p.ordered = true → u.eng.ended = s.eng.ended ++ [(k.pkt, k.emits)] ∧ OneThread e t s u))

/-- A register operation whose task has spent its budget, a data memory access outside the region or not aligned to its width, and a branch to a
target outside the code each answer a next state in which the thread is free again and the lateral's counter of that cause (7, 3, 4 or 2)
has risen by 1, holding at its limit, when the task has its packet. (spec/13_sluice_engines.md) -/
def Obligations.EngineExceptionsEndTheTask : Prop :=
  (∀ (c : Fin 512 → Fin 8 → Instr) (op lat : Nat) (f : DWord → DWord → Nat → DWord), Computes c op lat f →
    ∀ (e : Fin 512) (t : Fin 8) (k : Task) (w : Nat) (p : Pkt) (s : State), s.task e.val t.val = some k → imgWord (s.latImage (e.val / 16)) k.pc = w → k.waiting = false →
    k.fetchAt ≤ s.latNow (e.val / 16) → k.readyAt w ≤ s.latNow (e.val / 16) → tget 0 s.eng.lastIssue e.val ≠ s.latNow (e.val / 16) + 1 → insOp w = op → k.budget ≤ k.issued → s.pkt k.pkt = some p →
    ∃ u, exec (c e t) s = .next u ∧ u.task e.val t.val = none ∧ u.count Cnt.EXC (e.val / 16) 6 = min (s.count Cnt.EXC (e.val / 16) 6 + 1) 0xFFFFFFFF) ∧
  (∀ (c : Fin 512 → Fin 8 → Instr) (op n cause : Nat), Loads c op n ∨ Stores c op n → ∀ (e : Fin 512) (t : Fin 8) (k : Task) (w : Nat) (p : Pkt) (s : State),
    CanIssue e t k w s → insOp w = op → s.pkt k.pkt = some p → ((4096 ≤ k.addr w ∧ cause = 3) ∨ (k.addr w < 4096 ∧ k.addr w % n ≠ 0 ∧ cause = 4)) →
    ∃ u, exec (c e t) s = .next u ∧ u.task e.val t.val = none ∧ u.count Cnt.EXC (e.val / 16) (cause - 1) = min (s.count Cnt.EXC (e.val / 16) (cause - 1) + 1) 0xFFFFFFFF) ∧
  (∀ (c : Fin 512 → Fin 8 → Instr) (op : Nat) (P : DWord → DWord → Prop), Branches c op P →
    ∀ (e : Fin 512) (t : Fin 8) (k : Task) (w : Nat) (p : Pkt) (s : State), CanIssue e t k w s → insOp w = op → s.pkt k.pkt = some p →
    P (k.reg (insX w)) (k.reg (insY w)) → (k.pc + 1 + insSimm w < 0 ∨ (imgLen (s.latImage (e.val / 16)) : Int) ≤ k.pc + 1 + insSimm w) →
    ∃ u, exec (c e t) s = .next u ∧ u.task e.val t.val = none ∧ u.count Cnt.EXC (e.val / 16) 1 = min (s.count Cnt.EXC (e.val / 16) 1 + 1) 0xFFFFFFFF)

/-- In every state: COLD_RESET sets every register but RST_CAUSE and those that show OTP fields to its reset value, RST_CAUSE.CAUSE to 1 or 2,
loads OTP anew, keeps flash slots. WARM_RESET by the pin resets every register but those, FW_STATUS and the MSI-X table, sets cause 3, keeps
the sampled straps and, without PERST_N, the MSI-X state and table, which PERST_N resets; that of SYS_RESET, 1 ms after it, sets cause 4 and
starts the loader; RAIL_UNDERVOLTAGE sets cause 5 with the rail and starts the loader. PCIE_RESET resets the endpoint alone (MSI-X, its
capture, the link) and writes no cause; POWER_LOSS leaves the reset registers. No transaction is left but after PCIE_RESET; OTP cells stay
where no write is cut short. That MSI-X masks are 1 after reset is presumed (log entry 4); which state is always-on follows log entry 15.
(spec/22_power_reset.md, spec/21_test_security.md, spec/19_monitoring.md) -/
def Obligations.ResetsAndWhatTheyKeep : Prop :=
  (∀ (aon : Bool) (s : State), ∃ t, exec (.coldReset aon) s = .next t ∧ t.get Reg.RST_CAUSE_CAUSE = (if aon then 2 else 1) ∧ t.get Reg.FW_STATUS_STATE = 0 ∧
    (∀ a, a ∉ [0x60040, 0x50010, 0x50050, 0x1A0010, 0x1A1000, 0x1A1004] → t.reg a = resetWord a) ∧ t.mbs = [] ∧ t.clock = 0 ∧ t.power.slotA = s.power.slotA ∧
    t.power.slotB = s.power.slotB ∧
    (s.test.write = none → t.test.otp = { s.test.otp with loadedRoot := s.test.otp.rootKey, loadedPw := s.test.otp.pwHash })) ∧
  (∀ (perst : Bool) (s : State), ∃ t, exec (.warmReset true perst) s = .next t ∧ t.get Reg.RST_CAUSE_CAUSE = 3 ∧ t.get Reg.FW_STATUS_STATE = 0 ∧
    t.power.rstHeld = true ∧ t.power.straps = s.power.straps ∧ t.mbs = [] ∧ (s.test.write = none → t.test.otp = s.test.otp) ∧
    (perst = false → t.msix = s.msix ∧ t.power.linkUp = s.power.linkUp ∧ ∀ a, 0x1000 ≤ a → a < 0x1200 → t.reg a = s.reg a) ∧
    (perst = true → t.msix = {} ∧ t.power.linkUp = false ∧ ∀ a, 0x1000 ≤ a → a < 0x1200 → t.reg a = resetWord a) ∧
    (∀ a, ¬(0x1000 ≤ a ∧ a < 0x1200) → a ∉ [0x60040, 0x60044, 0x50010, 0x50050, 0x1A0010, 0x1A1000, 0x1A1004] → t.reg a = resetWord a)) ∧
  (∀ (perst : Bool) (t0 : Nat) (s : State), s.power.resetAt = some t0 → t0 + 13000000 ≤ s.clock →
    ∃ t, exec (.warmReset false perst) s = .next t ∧ t.get Reg.RST_CAUSE_CAUSE = 4 ∧ t.get Reg.FW_STATUS_STATE = 1 ∧ t.power.straps = s.power.straps ∧ t.msix = s.msix ∧
    t.mbs = [] ∧ (s.test.write = none → t.test.otp = s.test.otp) ∧ (∀ a, ¬(0x1000 ≤ a ∧ a < 0x1200) → a ∉ [0x60040, 0x60044, 0x50010, 0x50050, 0x1A0010, 0x1A1000, 0x1A1004] → t.reg a = resetWord a)) ∧
  (∀ (rail : Fin 4) (s : State), ∃ t, exec (.railUndervoltage rail) s = .next t ∧ t.get Reg.RST_CAUSE_CAUSE = 5 ∧ t.get Reg.RST_CAUSE_RAIL = rail.val ∧
    t.get Reg.FW_STATUS_STATE = 1 ∧ t.power.straps = s.power.straps ∧ t.msix = s.msix ∧ t.mbs = [] ∧ (s.test.write = none → t.test.otp = s.test.otp) ∧
    (∀ a, ¬(0x1000 ≤ a ∧ a < 0x1200) → a ∉ [0x60040, 0x60044, 0x50010, 0x50050, 0x1A0010, 0x1A1000, 0x1A1004] → t.reg a = resetWord a)) ∧
  (∀ s : State, ∃ t, exec .pcieReset s = .next t ∧ t.msix = {} ∧ t.power = { s.power with linkUp := false } ∧ t.mbs = s.mbs ∧
    (∀ a, 0x1000 ≤ a → a < 0x1200 → t.reg a = resetWord a) ∧ (∀ a, ¬(0x1000 ≤ a ∧ a < 0x1200) → t.reg a = s.reg a)) ∧
  (∀ s : State, ∃ t, exec .powerLoss s = .next t ∧ t.regs = State.reset.regs ∧ t.mbs = [] ∧ t.msix = {} ∧ (s.test.write = none → t.test.otp = s.test.otp) ∧
    t.power.slotA = s.power.slotA ∧ t.power.slotB = s.power.slotB)

/-- RESET_RELEASE in reset without RST_N held samples the straps and shows the loader; RST_N_RELEASE does so after a warm reset; PCIE_LINK_UP
brings the link up; BOOT_FAILED with the flash selected and no passing slot shows FAILED. FW_DOWNLOAD while the loader serves the host keeps
a chunk, the last with a passing image; FIRMWARE_READY with a verified image shows READY, its slot, FALLBACK, version and the ms since
release; FW_FLASH_WRITE runs on with its chunk placed and the slot not booted emptied, and FW_FLASH_WRITE_DONE answers it, after the last
chunk OK or INVALID by the image's verification, with the image in that slot. (spec/22_power_reset.md, spec/24_register_map.md) -/
def Obligations.BootReachesFirmwareReady : Prop :=
  (∀ (b : Fin 4) (m : Fin 32) (i : Fin 4) (h : Bool) (s : State), s.get Reg.FW_STATUS_STATE = 0 → s.power.rstHeld = false →
    ∃ t, exec (.resetRelease b m i h) s = .next t ∧ t.power = { s.power with straps := ⟨m.val, 0x48 + i.val, h⟩ } ∧ t.get Reg.FW_STATUS_STATE = 1 ∧ t.get Reg.FW_STATUS_BOOT_SEL = b.val ∧ t.clock = 0 ∧ RegsKept [0x60044] s t) ∧
  (∀ s : State, s.power.rstHeld = true → ∃ t, exec .rstNRelease s = .next t ∧ t.get Reg.FW_STATUS_STATE = 1 ∧ t.power.rstHeld = false ∧ RegsKept [0x60044] s t) ∧
  (∀ s : State, ∃ t, exec .pcieLinkUp s = .next t ∧ t.power = { s.power with linkUp := true } ∧ RegsKept [] s t) ∧
  (∀ s : State, s.get Reg.FW_STATUS_STATE = 1 → s.get Reg.FW_STATUS_BOOT_SEL = 0 → s.flashBoot = none →
    ∃ t, exec .bootFailed s = .next t ∧ t.get Reg.FW_STATUS_STATE = 3 ∧ RegsKept [0x60044] s t) ∧
  (∀ (mb : Fin 8) (p buf : List Byte) (s : State), s.request mb.val 0x0C01 = some p → s.hostDownload = true →
    (if bitsOf (u8 p 6) 0 1 = 1 then some [] else s.power.download) = some buf →
    ∃ t, exec (.fwDownload mb) s = .next t ∧
      (bitsOf (u8 p 6) 1 1 = 0 → Answered mb.val ok s t ∧ t.power = { s.power with download := some (placeChunk buf (u32 p 0) (p.drop 8)) }) ∧
      (bitsOf (u8 p 6) 1 1 = 1 → imagePasses (placeChunk buf (u32 p 0) (p.drop 8)) = true →
        Answered mb.val ok s t ∧ t.power = { s.power with download := none, image := some (placeChunk buf (u32 p 0) (p.drop 8)) }) ∧
      (bitsOf (u8 p 6) 1 1 = 1 → imagePasses (placeChunk buf (u32 p 0) (p.drop 8)) = false → Answered mb.val (err cINVALID) s t)) ∧
  (∀ (hottest : Int) (slot : Nat) (fb : Bool) (img : List Byte) (s : State), s.bootImage = some (slot, fb, img) →
    ∃ t, exec (.firmwareReady hottest) s = .next t ∧ t.get Reg.FW_STATUS_STATE = 2 ∧ t.get Reg.FW_STATUS_SLOT = slot % 2 ∧
      t.flag Reg.FW_STATUS_FALLBACK = fb ∧ t.get Reg.FW_VERSION_VERSION = u32 img 4 ∧ t.get Reg.FW_READY_MS_MS = min (s.clock / 13000000) 0xFFFF ∧
      (∀ mb, mb < 8 → (t.mbox mb).phase ≠ .waiting)) ∧
  (∀ (mb : Fin 8) (p buf : List Byte) (s : State), s.request mb.val 0x0C03 = some p → s.power.shutdown = none →
    (if bitsOf (u8 p 6) 0 1 = 1 then some [] else s.power.flash) = some buf →
    ∃ t, exec (.fwFlashWrite mb) s = .next t ∧ RunsOn mb.val s t ∧ t.power.flash = some (placeChunk buf (u32 p 0) (p.drop 8)) ∧
      t.power.flashMb = some (mb.val, bitsOf (u8 p 6) 1 1 == 1) ∧
      (s.get Reg.FW_STATUS_SLOT = 0 → t.power.slotB = [] ∧ t.power.slotA = s.power.slotA) ∧
      (s.get Reg.FW_STATUS_SLOT ≠ 0 → t.power.slotA = [] ∧ t.power.slotB = s.power.slotB)) ∧
  (∀ (mb : Nat) (last : Bool) (img : List Byte) (s : State), s.power.flashMb = some (mb, last) → s.power.flash = some img → (s.mbox mb).phase = .running →
    ∃ t, exec .fwFlashWriteDone s = .next t ∧ t.power.flashMb = none ∧
      (last = false → Answered mb ok s t ∧ t.power.flash = some img) ∧
      (last = true → Answered mb (if imagePasses img then ok else err cINVALID) s t ∧ t.power.flash = none ∧
        (if s.get Reg.FW_STATUS_SLOT = 0 then t.power.slotB else t.power.slotA) = img))

/-- AVS_STEP with AVS on and no retry pending moves a rail at most 5 mV toward its target clamped to the policy bounds, 1 ms after the last step
upward, 10 ms downward, and counts it; without acknowledgement PMB_FAULTS rises and the rail stays. PMBUS_RETRY, 1 ms later, moves the rail
toward what the failed transfer asked for, within the bounds now in force. PMBUS_STATUS_POLL counts a reported fault. THERMAL_SAMPLE keeps
the hottest sensor and since when it stands at or above SHUT_C. THROTTLE_STEP moves the fabric fraction at most 1/64 toward its clamped
target and counts a new episode. THERMAL_SHUTDOWN after 1 ms shows SHUTDOWN with its event. (spec/22_power_reset.md,
spec/02_operating_modes.md) -/
def Obligations.PowerLoopsStepTowardTheirTargets : Prop :=
  (∀ (rail : Fin 2) (target : Fin 1024) (goal : Nat) (s : State), s.flag Reg.PWR_CFG_AVS_EN = true → s.power.avsStopped = false → s.power.pmbRetry = none →
    clampTo (s.bounds 4 rail.val) target.val = goal → goal < 1024 →
    (s.rail rail.val < goal ∧ tget 0 s.power.avsLast rail.val + 13000000 ≤ s.clock) ∨ (goal < s.rail rail.val ∧ tget 0 s.power.avsLast rail.val + 130000000 ≤ s.clock) →
    (∃ t, exec (.avsStep rail target true) s = .next t ∧
      t.rail rail.val = (if s.rail rail.val < goal then min goal (s.rail rail.val + 5) else max goal (s.rail rail.val - 5)) ∧
      t.rail (1 - rail.val) = s.rail (1 - rail.val) ∧ t.count Cnt.AVS_STEPS = min (s.count Cnt.AVS_STEPS + 1) 0xFFFFFFFF) ∧
    (∃ t, exec (.avsStep rail target false) s = .next t ∧ t.rail rail.val = s.rail rail.val ∧ t.count Cnt.PMB_FAULTS = min (s.count Cnt.PMB_FAULTS + 1) 0xFFFFFFFF)) ∧
  (∀ (r mv t0 goal : Nat) (s : State), s.power.pmbRetry = some (r, mv, t0) → t0 + 13000000 ≤ s.clock → r < 2 → clampTo (s.bounds 4 r) mv = goal → goal < 1024 →
    (∃ t, exec (.pmbusRetry true) s = .next t ∧ t.rail r = (if s.rail r < goal then min goal (s.rail r + 5) else max goal (s.rail r - 5)) ∧
      t.power.pmbRetry = none ∧ t.flag Reg.PWR_STATUS_PMB_OK = true ∧ t.count Cnt.AVS_STEPS = min (s.count Cnt.AVS_STEPS + 1) 0xFFFFFFFF ∧
      RegsKept [0x60010, Cnt.AVS_STEPS.addr 0 0] s t) ∧
    (∃ t, exec (.pmbusRetry false) s = .next t ∧ t.rail r = s.rail r ∧ t.count Cnt.PMB_FAULTS = min (s.count Cnt.PMB_FAULTS + 1) 0xFFFFFFFF)) ∧
  (∀ (oc uv : Bool) (s : State), s.power.lastPoll + 130000000 ≤ s.clock →
    ∃ t, exec (.pmbusStatusPoll oc uv) s = .next t ∧ t.count Cnt.OC_EVENTS = (if oc || uv then min (s.count Cnt.OC_EVENTS + 1) 0xFFFFFFFF else s.count Cnt.OC_EVENTS) ∧
      ((oc || uv) = true → t.flag Reg.PWR_EVENTS_OC = true) ∧ RegsKept [0x60028, 0x60014] s t) ∧
  (∀ (x : Int) (xs : List Int) (s : State), s.power.lastSample + 1300000 ≤ s.clock →
    ∃ t, exec (.thermalSample (x :: xs)) s = .next t ∧ t.power.hottest ∈ x :: xs ∧ (∀ y ∈ x :: xs, y ≤ t.power.hottest) ∧
      (t.power.hotSince.isSome = decide ((1000 * s.get Reg.PWR_CFG_SHUT_C : Nat) ≤ t.power.hottest)) ∧ RegsKept [] s t) ∧
  (∀ (goal : Nat) (s : State), s.power.lastThrottle + 13000000 ≤ s.clock → s.get Reg.PWR_STATUS_FRACTION ≤ 64 → goal ≤ 64 →
    clampTo (s.bounds 5 0) (if 1000 * (s.get Reg.PWR_CFG_THROTTLE_C : Int) < s.power.hottest then max 32 (s.power.throttleTarget - 1)
      else if s.power.hottest < 1000 * (s.get Reg.PWR_CFG_THROTTLE_C : Int) - 2000 then min 64 (s.power.throttleTarget + 1) else s.power.throttleTarget) = goal →
    ∃ t, exec .throttleStep s = .next t ∧
      t.get Reg.PWR_STATUS_FRACTION = (if s.get Reg.PWR_STATUS_FRACTION < goal then s.get Reg.PWR_STATUS_FRACTION + 1
        else if goal < s.get Reg.PWR_STATUS_FRACTION then s.get Reg.PWR_STATUS_FRACTION - 1 else s.get Reg.PWR_STATUS_FRACTION) ∧
      t.flag Reg.PWR_STATUS_THROTTLING = decide (t.get Reg.PWR_STATUS_FRACTION < 64) ∧
      (s.get Reg.PWR_STATUS_FRACTION = 64 → goal < 64 → t.count Cnt.THROTTLE_EPISODES = min (s.count Cnt.THROTTLE_EPISODES + 1) 0xFFFFFFFF)) ∧
  (∀ (t0 : Nat) (s : State), s.power.hotSince = some t0 → t0 + 13000000 ≤ s.clock → s.flag Reg.PWR_STATUS_SHUTDOWN = false →
    ∃ t, exec .thermalShutdown s = .next t ∧ t.flag Reg.PWR_STATUS_SHUTDOWN = true ∧ t.flag Reg.PWR_EVENTS_SHUTDOWN = true)

/-- SYS_RESET with no mode change, self-test or flash write answers OK and notes the time. SYS_SHUTDOWN under the same condition, while no other
runs (else BUSY), runs on: every open transaction is rolled back with ROLLED_BACK and the host squelch is set; SHUTDOWN_QUIESCED with every
quench ended gates the coherent plane and brings the rails to nominal; SHUTDOWN_SAFE_OFF shows SAFE_OFF, FW_STATUS 4 and its event and
answers the command OK. (spec/22_power_reset.md, spec/18_control.md) -/
def Obligations.ResetAndShutdownCommandsRun : Prop :=
  (∀ (mb : Fin 8) (p : List Byte) (s : State), s.request mb.val 0x0160 = some p → s.powerBusy = false →
    ∃ t, exec (.sysReset mb) s = .next t ∧ Answered mb.val ok s t ∧ t.power = { s.power with resetAt := some s.clock } ∧ RegsKept [0x12014] s t) ∧
  (∀ (mb : Fin 8) (p : List Byte) (s : State), s.request mb.val 0x0161 = some p → s.powerBusy = false → s.power.shutdown = none →
    ∃ t, exec (.sysShutdown mb) s = .next t ∧ (t.mbox mb.val).phase = .running ∧ t.tx.hostSquelch = true ∧
      t.power.shutdown = some { mb := mb.val, t0 := s.clock } ∧
      (∀ k, k < 8 → (s.mbox k).txn.state = 1 → (t.mbox k).txn.state = 4 ∧ (t.mbox k).txn.reason = cROLLED_BACK ∧ (t.mbox k).txn.locks = [])) ∧
  (∀ (mb : Fin 8) (p : List Byte) (s : State), s.request mb.val 0x0161 = some p → s.powerBusy = true ∨ s.power.shutdown.isSome = true →
    ∃ t, exec (.sysShutdown mb) s = .next t ∧ OnlyAnswered mb.val (err cBUSY) s t) ∧
  (∀ (d : Shutdown) (s : State), s.power.shutdown = some d → d.gatedAt = none → s.noQuench = true →
    ∃ t, exec .shutdownQuiesced s = .next t ∧ t.power.shutdown = some { d with gatedAt := some s.clock } ∧ t.sys.gated = true ∧ t.rail 0 = 720 ∧ t.rail 1 = 750) ∧
  (∀ (d : Shutdown) (g : Nat) (s : State), s.power.shutdown = some d → d.gatedAt = some g → (s.mbox d.mb).phase = .running →
    ∃ t, exec .shutdownSafeOff s = .next t ∧ t.flag Reg.PWR_STATUS_SAFE_OFF = true ∧ t.get Reg.FW_STATUS_STATE = 4 ∧ t.flag Reg.PWR_EVENTS_SAFE_OFF = true ∧
      t.power.shutdown = none ∧ Answered d.mb ok s t)

/-- MAILBOX_RING of an idle mailbox that is served now takes the command: it passes and is carried out next, or it is answered at once with the
failed check's code; of one that is not served now waits; of one that is not idle leaves the mailbox and counts in MB_WRITES_IGNORED. The
idle timer of the mailbox's transaction restarts when a command is taken. Other mailboxes stay. (spec/18_control.md) -/
def Obligations.RingIsTakenCheckedAndServed : Prop :=
  (∀ (via : Iface) (mb : Fin 8) (s : State), (s.mbox mb.val).phase = .idle → s.serves mb.val = true → (s.mbox mb.val).refusal = none →
    ∃ t, exec (.mailboxRing via mb) s = .next t ∧
      t.mbox mb.val = { s.mbox mb.val with phase := .taken, owner := via, txn := { (s.mbox mb.val).txn with lastCmd := s.clock } } ∧
      (∀ k, k ≠ mb.val → t.mbox k = s.mbox k) ∧ RegsKept [] s t) ∧
  (∀ (via : Iface) (mb : Fin 8) (r : Reply) (s : State), (s.mbox mb.val).phase = .idle → s.serves mb.val = true → (s.mbox mb.val).refusal = some r →
    ∃ t, exec (.mailboxRing via mb) s = .next t ∧
      t.mbox mb.val = ({ s.mbox mb.val with owner := via, txn := { (s.mbox mb.val).txn with lastCmd := s.clock } } : Mailbox).answered r ∧
      (∀ k, k ≠ mb.val → t.mbox k = s.mbox k) ∧ RegsKept [0x12014] s t) ∧
  (∀ (via : Iface) (mb : Fin 8) (s : State), (s.mbox mb.val).phase = .idle → s.serves mb.val = false →
    ∃ t, exec (.mailboxRing via mb) s = .next t ∧ t.mbox mb.val = { s.mbox mb.val with phase := .waiting, owner := via } ∧
      (∀ k, k ≠ mb.val → t.mbox k = s.mbox k) ∧ RegsKept [] s t) ∧
  (∀ (via : Iface) (mb : Fin 8) (s : State), (s.mbox mb.val).phase ≠ .idle →
    ∃ t, exec (.mailboxRing via mb) s = .next t ∧ t.mbs = s.mbs ∧ t.count Cnt.MB_WRITES_IGNORED = min (s.count Cnt.MB_WRITES_IGNORED + 1) 0xFFFFFFFF ∧
      RegsKept [0x12034] s t)

/-- TXN_BEGIN opens a transaction with the next ID. TXN_COMMIT of staged commands that validate runs on as COMMITTING; of ones that do not is
rolled back with code and index; of none is answered at once with MFN 0xFFFFFFFF. TXN_ROLLBACK and, after 10 s without a command,
TXN_IDLE_TIMEOUT roll back. COMMIT_BOUNDARY passes every commit that is due (one accepted 250 µs before, log entry 20): the staged commands
of all of them are swapped in together, in order of acceptance, before the new multiframe begins, and leave the staging space.
TXN_COMMIT_DONE answers it, DONE and without locks. OMREK_RESTART counts, rolls every open transaction back and leaves no command pending
but that of a commit (log entries 22 and 95). (spec/18_control.md, spec/14_memory_integrity.md, spec/02_operating_modes.md) -/
def Obligations.TransactionsOpenCommitAndEnd : Prop :=
  (∀ (mb : Fin 8) (p : List Byte) (s : State), s.request mb.val 0x0201 = some p → (s.mbox mb.val).txn.state ≠ 1 → s.get Reg.FW_STATUS_STATE ≠ 4 →
    ∃ t, exec (.txnBegin mb) s = .next t ∧ t.nextTxn = s.nextTxn + 1 ∧ (∀ k, k ≠ mb.val → t.mbox k = s.mbox k) ∧ RegsKept [0x12014] s t ∧
      t.mbox mb.val = ({ s.mbox mb.val with txn := { (s.mbox mb.val).txn with state := 1, id := s.nextTxn, staged := [], locks := [], boundary := none } } : Mailbox).answered
        (okD (bytes 4 s.nextTxn.toNat))) ∧
  (∀ (mb : Fin 8) (p : List Byte) (s : State), s.request mb.val 0x0202 = some p → (s.mbox mb.val).txn.state = 1 → s.commitBusy (s.mbox mb.val).txn.staged = false →
    ∃ t, exec (.txnCommit mb) s = .next t ∧ (∀ k, k ≠ mb.val → (t.mbox k).txn = (s.mbox k).txn) ∧
      ((s.mbox mb.val).txn.staged = [] → (t.mbox mb.val).txn.state = 3 ∧ (t.mbox mb.val).txn.locks = [] ∧ (t.mbox mb.val).phase = .idle ∧
        t.count Cnt.COMMITS = min (s.count Cnt.COMMITS + 1) 0xFFFFFFFF) ∧
      ((s.mbox mb.val).txn.staged ≠ [] → firstFailure (s.mbox mb.val).txn.staged s (s.afterCommit (s.mbox mb.val).txn.staged) = none →
        t.mbox mb.val = { s.mbox mb.val with phase := .running, txn := { (s.mbox mb.val).txn with state := 2, acceptedAt := s.clock, order := s.nextOrder } }) ∧
      (∀ code idx, (s.mbox mb.val).txn.staged ≠ [] → firstFailure (s.mbox mb.val).txn.staged s (s.afterCommit (s.mbox mb.val).txn.staged) = some (code, idx) →
        (t.mbox mb.val).txn.state = 4 ∧ (t.mbox mb.val).txn.staged = [] ∧ (t.mbox mb.val).txn.locks = [] ∧ (t.mbox mb.val).txn.reason = code ∧
        (t.mbox mb.val).txn.index = idx ∧ (t.mbox mb.val).phase = .idle ∧ t.count Cnt.VALIDATION_FAILS = min (s.count Cnt.VALIDATION_FAILS + 1) 0xFFFFFFFF)) ∧
  (∀ (mb : Fin 8) (p : List Byte) (s : State), s.request mb.val 0x0203 = some p → (s.mbox mb.val).txn.state = 1 →
    ∃ t, exec (.txnRollback mb) s = .next t ∧ (t.mbox mb.val).txn.state = 4 ∧ (t.mbox mb.val).txn.reason = cROLLED_BACK ∧ (t.mbox mb.val).txn.staged = [] ∧
      (t.mbox mb.val).txn.locks = [] ∧ (t.mbox mb.val).phase = .idle) ∧
  (∀ (mb : Fin 8) (s : State), (s.mbox mb.val).txn.state = 1 → (s.mbox mb.val).phase = .idle ∨ (s.mbox mb.val).opcode ≠ 0x0202 → (s.mbox mb.val).txn.lastCmd + 130000000000 ≤ s.clock →
    ∃ t, exec (.txnIdleTimeout mb) s = .next t ∧ (t.mbox mb.val).txn.state = 4 ∧ (t.mbox mb.val).txn.reason = cTIMEOUT ∧ (t.mbox mb.val).txn.locks = [] ∧
      t.count Cnt.TXN_TIMEOUTS = min (s.count Cnt.TXN_TIMEOUTS + 1) 0xFFFFFFFF ∧ (t.get Reg.MB_EVENTS_TXN_END).testBit mb.val = true) ∧
  (∀ (mb : Nat) (s : State), mb ∈ s.commitsDue →
    ∃ t, exec .commitBoundary s = .next t ∧ (t.mbox mb).txn.staged = [] ∧ (t.mbox mb).txn.boundary.isSome = true ∧
      (∀ a, a ∉ squelchWords → t.reg a = ((s.commitsDue.foldl State.passBoundary
        (s.swapIn (s.commitsDue.flatMap (fun k => (s.mbox k).txn.staged)))).beginMultiframe).reg a)) ∧
  (∀ (mb : Fin 8) (b : Word × Nat × Nat) (s : State), (s.mbox mb.val).txn.state = 2 → (s.mbox mb.val).txn.boundary = some b → (s.mbox mb.val).phase = .running →
    ∃ t, exec (.txnCommitDone mb) s = .next t ∧ t.count Cnt.COMMITS = min (s.count Cnt.COMMITS + 1) 0xFFFFFFFF ∧ (∀ k, k ≠ mb.val → t.mbox k = s.mbox k) ∧
      t.mbox mb.val = ({ s.mbox mb.val with txn := { (s.mbox mb.val).txn with state := 3, locks := [], lastMfn := b.1, boundary := none } } : Mailbox).answered
        (okD (bytes 4 (s.mbox mb.val).txn.id.toNat ++ bytes 4 b.1.toNat ++ bytes 8 b.2.1))) ∧
  (∀ (word : Nat) (s : State), s.get Reg.FW_STATUS_STATE = 2 ∨ s.get Reg.FW_STATUS_STATE = 4 →
    ∃ t, exec (.omrekRestart word) s = .next t ∧ t.count Cnt.FW_RESTARTS = min (s.count Cnt.FW_RESTARTS + 1) 0xFFFFFFFF ∧ t.flag Reg.MEM_EVENTS_POISON_BITE = true ∧
      (∀ k, k < 8 → (s.mbox k).txn.state = 1 → (t.mbox k).txn.state = 4 ∧ (t.mbox k).txn.reason = cBUSY ∧ (t.mbox k).txn.locks = []) ∧
      (∀ k, k < 8 → (s.mbox k).txn.state ≠ 2 → (t.mbox k).phase = .idle))

/-- MEM_SCRUB of ranges that exist runs on; SCRUB_WORD of a requested pass on a word with one bad bit that no other write meets leaves it sound,
counts SCRUB_FIXES and the pass's fixed and read words; the background sweep goes on to the next word; SCRUB_LATE at a period's end with the
sweep incomplete counts once; SCRUB_PASS_END answers the command with its summary. MEM_FLIP_ARM in an unlocked state arms one flip or
disarms. BAR2_READ within one word of a powered bank returns its stored bytes, or zeros with EP and POISON_PCIE counted when the word is
marked. (spec/14_memory_integrity.md, spec/12_headgate.md) -/
def Obligations.ScrubsFlipsAndWindowReads : Prop :=
  (∀ (mb : Fin 8) (p : List Byte) (l : List (Nat × Nat × Nat)) (s : State), s.request mb.val 0x0901 = some p →
    scrubRanges (u8 p 0) (u16 p 2) (u32 p 4) (u32 p 8) = some l → s.pass (u8 p 0) = none →
    ∃ t, exec (.memScrub mb) s = .next t ∧ RunsOn mb.val s t ∧ t.pass (u8 p 0) = some { mb := mb.val, left := l, start := s.clock } ∧
      t.flag Reg.MEM_MSTATUS_SCRUB_RUN (u8 p 0) = true) ∧
  (∀ (mem : Fin 14) (i k n : Nat) (rest : List (Nat × Nat × Nat)) (q : ScrubPass) (s : State), mem.val ∉ [0, 8, 9, 12, 13] →
    s.pass mem.val = some q → q.left = (i, k, n) :: rest → 0 < n → s.instPowered mem.val i = true → s.wordBits mem.val i k = 1 →
    (s.wordFlag mem.val i k = true → memFlagged mem.val = true) → s.flag Reg.FLIP_STATUS_ARMED = false →
    ∃ t q1, exec (.scrubWord mem true false) s = .next t ∧ t.wordBits mem.val i k = 0 ∧ t.wordFlag mem.val i k = s.wordFlag mem.val i k ∧
      t.count Cnt.SCRUB_FIXES mem.val = min (s.count Cnt.SCRUB_FIXES mem.val + 1) 0xFFFFFFFF ∧ t.pass mem.val = some q1 ∧ q1.read = q.read + 1 ∧
      q1.fixed + q1.already = q.fixed + q.already + 1 ∧ q1.left = (if n = 1 then rest else (i, k + 1, n - 1) :: rest)) ∧
  (∀ (mem : Fin 14) (met : Bool) (w : Sweep) (s : State), mem.val ≠ 0 → mem.val ≠ 13 → s.sweep mem.val = w → w.period ≠ 0 → w.inst < memInstances mem.val →
    s.instPowered mem.val w.inst = true → w.word + 1 < memWords mem.val w.inst →
    ∃ t, exec (.scrubWord mem false met) s = .next t ∧ t.sweep mem.val = { w with word := w.word + 1 }) ∧
  (∀ (mem : Fin 14) (w : Sweep) (s : State), s.sweep mem.val = w → w.period ≠ 0 → w.late = false → s.sweepDone mem.val = false →
    w.start + 13000000 * w.period ≤ s.clock →
    ∃ t, exec (.scrubLate mem) s = .next t ∧ t.sweep mem.val = { w with late := true } ∧ t.flag Reg.MEM_EVENTS_SCRUB_LATE = true ∧
      t.count Cnt.SCRUB_LATE mem.val = min (s.count Cnt.SCRUB_LATE mem.val + 1) 0xFFFFFFFF) ∧
  (∀ (mem : Fin 14) (q : ScrubPass) (s : State), s.pass mem.val = some q → q.left = [] → (s.mbox q.mb).phase = .running →
    ∃ t, exec (.scrubPassEnd mem) s = .next t ∧ t.pass mem.val = none ∧ t.flag Reg.MEM_EVENTS_SCRUB_DONE = true ∧
      Answered q.mb (okD ([q.read, q.fixed, q.poisoned, q.already, q.skipped, q.firstUe, (s.clock - q.start + 12999) / 13000].flatMap (bytes 4) ++ [0, 0, 0, 0])) s t) ∧
  (∀ (mb : Fin 8) (p : List Byte) (s : State), s.request mb.val 0x0904 = some p → s.get Reg.TEST_STATUS_LEVEL ≠ 0 →
    ∃ t, exec (.memFlipArm mb) s = .next t ∧
      (u8 p 1 = 0 → Answered mb.val ok s t ∧ t.flag Reg.FLIP_STATUS_ARMED = false) ∧
      (u8 p 1 = 1 → u8 p 0 < 14 → u16 p 2 < memInstances (u8 p 0) → u16 p 4 < memCodeBits (u8 p 0) (u16 p 2) → s.flag Reg.FLIP_STATUS_ARMED = false →
        Answered mb.val ok s t ∧ t.flag Reg.FLIP_STATUS_ARMED = true ∧ t.get Reg.FLIP_STATUS_MEM = u8 p 0 ∧ t.get Reg.FLIP_STATUS_INSTANCE = u16 p 2 ∧ t.mem.flipBits = 1)) ∧
  (∀ (addr size : Nat) (s : State), 0 < size → addr % 32 + size ≤ 32 → addr / 128 < 1310720 → s.blocksOff = false → addr / 128 / 32768 < s.banks →
    ∃ t, exec (.bar2Read addr size) s = .next t ∧
      (Clean 1 (addr / 128 / 32768) (4 * (addr / 128 % 32768) + addr / 32 % 4) s →
        t.pk.bar2 = (((s.parcelBytes (addr / 128)).drop (32 * (addr / 32 % 4))).take 32 |>.drop (addr % 32)).take size ∧ t.pk.bar2Ep = false) ∧
      (¬Clean 1 (addr / 128 / 32768) (4 * (addr / 128 % 32768) + addr / 32 % 4) s →
        t.pk.bar2 = List.replicate size 0 ∧ t.pk.bar2Ep = true ∧ t.count Cnt.POISON_PCIE = min (s.count Cnt.POISON_PCIE + 1) 0xFFFFFFFF))

/-- MODE_CHANGE_GATE with every quench ended notes the time of gating; into module mode it gates the coherent plane and starts step 5, out of it
the plane runs again unless the device is shut down. MODE_CHANGE_DONE when the goal of step 5 holds ends the change with LOCKED 1, and after
150 ms (25 ms in module mode) without the goal with LOCKED 0. QUENCH_DRAINED of a stopping object that holds no work makes it QUIESCED (a
lateral whose role changes returns to dispatch instead); QUENCH_TIMEOUT after its timeout too, and counts what a receive furrow or a leaf
still held. XQ_RECENTRE of a tracked locked lane clears its lock bit, re-centres the queue and counts a slip when off centre, and sets the
bit when centred. CLAMP_EPISODE_END after 1 ms within bounds ends the episode. (spec/01_architecture.md, spec/02_operating_modes.md) -/
def Obligations.ModeChangeQuenchAndClampSteps : Prop :=
  (∀ (c : ModeChange) (s : State), s.sys.change = some c → c.gatedAt = none → s.noQuench = true →
    ∃ t c1, exec .modeChangeGate s = .next t ∧ t.sys.change = some c1 ∧ c1.gatedAt = some s.clock ∧ c1.t0 = c.t0 ∧ c1.oldMode = c.oldMode ∧
      (s.mode = 3 → t.sys.gated = true ∧ c1.step5 = some s.clock) ∧ (s.mode ≠ 3 → s.halted = false → t.sys.gated = false)) ∧
  (∀ (c : ModeChange) (g t5 : Nat) (s : State), s.sys.change = some c → c.gatedAt = some g → c.step5 = some t5 →
    (s.modeGoal = true ∨ t5 + 13000000 * (if s.mode = 3 then 25 else 150) ≤ s.clock) →
    ∃ t, exec .modeChangeDone s = .next t ∧ t.sys.change = none ∧ t.get Reg.MODE_STATUS_STATE = 0 ∧ t.flag Reg.MODE_STATUS_LOCKED = s.modeGoal) ∧
  (∀ (kind : Fin 7) (idx : Fin 1024) (s : State), quenchable kind.val idx.val = true → s.qState kind.val idx.val = 1 → s.quenchOf kind.val idx.val ≠ none →
    (kind.val = 2 → idx.val ∉ s.eng.roleNew) →
    (s.drained kind.val idx.val = true → ∃ t, exec (.quenchDrained kind idx) s = .next t ∧ t.qState kind.val idx.val = 2) ∧
    (∀ (left : Nat) (q : Quench), s.quenchOf kind.val idx.val = some q → q.start + q.timeout ≤ s.clock →
      ∃ t, exec (.quenchTimeout kind idx left) s = .next t ∧ t.qState kind.val idx.val = 2 ∧
        (kind.val = 3 → idx.val < 32 → Counted Cnt.FR_QUENCH_DISCARDS idx.val 0 left s t) ∧
        (kind.val = 5 → Counted Cnt.LF_QUENCH_DISCARDS idx.val 0 (s.leafDue idx.val).length s t ∧ t.leafDue idx.val = []))) ∧
  (∀ (lane : Fin 24) (shift : Option Int) (s : State), s.get Reg.LN_STATUS_RX_STATE lane.val = 3 → s.tracked lane.val = true →
    ∃ t, exec (.xqRecentre lane shift) s = .next t ∧
      (if lane.val < 16 then (t.get Reg.XQ_STATUS_HOST_LOCK).testBit lane.val else (t.get Reg.XQ_STATUS_MEDIA_LOCK).testBit (lane.val - 16)) = shift.isNone ∧
      t.laneData lane.val = (match shift with | none => s.laneData lane.val | some k => (s.laneData lane.val).recentre k) ∧
      t.count Cnt.XQ_SLIP = (if shift = none then s.count Cnt.XQ_SLIP else min (s.count Cnt.XQ_SLIP + 1) 0xFFFFFFFF)) ∧
  (∀ (loop : Fin 6) (inst : Fin 33) (dir t0 : Nat) (s : State),
    tget none s.sys.clamps (64 * loop.val + inst.val) = some { dir := dir, inBounds := some t0 } → t0 + 13000000 ≤ s.clock →
    ∃ t, exec (.clampEpisodeEnd loop inst) s = .next t ∧ tget none t.sys.clamps (64 * loop.val + inst.val) = none ∧ RegsKept [] s t)

/-- TASK_DISPATCH starts the queue's head on the picked thread at its program's entry with its packet's bytes without FCS, 8 cycles later.
TASK_COMMIT of an ordered task whose turn has come ends its packet and moves the domain on. LATERAL_CONVERT after 1,024 idle cycles brings
the lateral to the image in force. ENG_IMAGE_LOAD places a chunk. ENG_LAT_HOLD of a lateral that others can do without runs on while it
quenches, and ENG_LAT_HOLD_DONE answers; of a quiesced one it is OK at once; a release ends the hold, is OK also where none is, and an
enabled quiesced lateral is RUNNING again. ENG_STATE_READ returns sound words, ENG_STATE_WRITE leaves them written.
(spec/13_sluice_engines.md) -/
def Obligations.EngineControlDispatchAndState : Prop :=
  (∀ (id e t : Nat) (rest : List Nat) (p : Pkt) (s : State), s.eng.taskQ = id :: rest → ¬(s.eng.dispCycle = s.cycle + 1 ∧ 4 ≤ s.eng.dispatched) → s.pkt id = some p →
    s.pickThread p.gen = some (e, t) → (s.readDesc id).1 = false → Clean 6 (e / 16) (actProgram p.action) s →
    bitsOf (imgEntry (s.latImage (e / 16)) (actProgram p.action)) 12 1 = 1 →
    ∃ u k, exec .taskDispatch s = .next u ∧ u.task e t = some k ∧ k.pkt = id ∧ k.prog = actProgram p.action ∧ k.issued = 0 ∧ k.regs = [] ∧ k.dmem = [] ∧
      k.pc = bitsOf (imgEntry (s.latImage (e / 16)) (actProgram p.action)) 0 12 ∧ k.data = p.data.take (p.data.length - 4) ∧ k.home = e / 16 ∧
      k.start = s.latNow (e / 16) ∧ k.fetchAt = s.latNow (e / 16) + 8 ∧
      u.eng.taskQ = rest ∧ (∀ n, n ≠ 8 * e + t → tget none u.eng.tasks n = tget none s.eng.tasks n)) ∧
  (∀ (turnout : Fin 256) (x : Nat × List Emit) (pre rest : List (Nat × List Emit)) (p : Pkt) (s : State), s.eng.ended = pre ++ x :: rest → s.pkt x.1 = some p →
    p.turnout = turnout.val → p.num = (s.domain turnout.val).left →
    (∀ y ∈ pre, ∀ q, s.pkt y.1 = some q → ¬(q.turnout = turnout.val ∧ q.num = (s.domain turnout.val).left)) →
    ∃ u, exec (.taskCommit turnout) s = .next u ∧ u.eng.ended = pre ++ rest ∧ u.pkt x.1 = none ∧ p.num < (u.domain turnout.val).left) ∧
  (∀ (lat : Nat) (rest : List Nat) (s : State), s.unconverted = lat :: rest → s.latTasks lat = [] → (rest = [] → s.oldLeft = false) →
    max (tget 0 s.eng.latLast lat) (tget 0 s.eng.convFrom lat) + 1024 ≤ s.latNow lat →
    ∃ u, exec .lateralConvert s = .next u ∧ u.latGenOf lat = s.eng.gen ∧ u.eng.gen = s.eng.gen ∧ (∀ k, k ≠ lat → u.latGenOf k = s.latGenOf k)) ∧
  (∀ (mb : Fin 8) (p : List Byte) (s : State), s.request mb.val 0x0630 = some p → s.blocksOff = false → s.flag Reg.ENG_STATUS_SWITCHING = false →
    u8 p 6 = 0 ∨ u8 p 6 = 1 → u32 p 0 + u16 p 4 ≤ 32784 → (u8 p 6 = 0 → s.eng.staging ≠ none ∧ s.eng.passed = false) →
    ∃ u, exec (.engImageLoad mb) s = .next u ∧ Answered mb.val (okD [0, 0, 0, 0]) s u ∧
      u.eng.staging = some (putAt (if u8 p 6 = 1 then [] else s.eng.staging.getD []) (u32 p 0) (p.drop 8)) ∧ u.get Reg.ENG_STAGED_STAGED_ID = 0) ∧
  (∀ (mb : Fin 8) (p img : List Byte) (s : State), s.request mb.val 0x0630 = some p → s.blocksOff = false → s.flag Reg.ENG_STATUS_SWITCHING = false →
    u8 p 6 = 2 ∨ u8 p 6 = 3 → u32 p 0 + u16 p 4 ≤ 32784 → (u8 p 6 = 2 → s.eng.staging ≠ none ∧ s.eng.passed = false) →
    img = putAt (if u8 p 6 = 3 then [] else s.eng.staging.getD []) (u32 p 0) (p.drop 8) →
    ∃ u, exec (.engImageLoad mb) s = .next u ∧
      (imagePass img = true → Answered mb.val (okD (bytes 4 (imgId img))) s u ∧ u.eng.passed = true ∧ u.eng.staging = some img) ∧
      (imagePass img = false → Answered mb.val (err cINVALID) s u ∧ u.eng.staging = none)) ∧
  (∀ (mb : Fin 8) (p : List Byte) (s : State), s.request mb.val 0x0635 = some p → s.blocksOff = false → u8 p 0 < 32 → u8 p 1 ≠ 0 →
    (∀ j, j < 32 → s.flag Reg.LAT_STATUS_HELD j = false) → (∃ j, j ∈ s.latsIn 0 ∧ j ≠ u8 p 0) →
    fwNeed s.mode ≤ ((s.latsIn 1).filter (fun j => j ≠ u8 p 0)).length →
    (s.qState 2 (u8 p 0) = 0 → ∃ u, exec (.engLatHold mb) s = .next u ∧ RunsOn mb.val s u ∧ u.flag Reg.LAT_STATUS_HELD (u8 p 0) = true ∧ u.qState 2 (u8 p 0) = 1 ∧
      u.eng.holdMb = some (mb.val, u8 p 0)) ∧
    (s.qState 2 (u8 p 0) = 2 → ∃ u, exec (.engLatHold mb) s = .next u ∧ Answered mb.val ok s u ∧ u.flag Reg.LAT_STATUS_HELD (u8 p 0) = true ∧ u.eng = s.eng)) ∧
  (∀ (mb : Fin 8) (p : List Byte) (s : State), s.request mb.val 0x0635 = some p → s.blocksOff = false → u8 p 1 = 0 → u8 p 0 < 32 →
    (s.flag Reg.LAT_STATUS_HELD (u8 p 0) = false → ∃ u, exec (.engLatHold mb) s = .next u ∧ OnlyAnswered mb.val ok s u) ∧
    (s.flag Reg.LAT_STATUS_HELD (u8 p 0) = true → ∃ u, exec (.engLatHold mb) s = .next u ∧ Answered mb.val ok s u ∧ u.flag Reg.LAT_STATUS_HELD (u8 p 0) = false ∧
      (s.flag Reg.LAT_CTRL_EN (u8 p 0) = true → s.qState 2 (u8 p 0) = 2 → u.qState 2 (u8 p 0) = 0))) ∧
  (∀ (mb : Nat) (k : Nat) (s : State), s.eng.holdMb = some (mb, k) → s.qState 2 k = 2 → (s.mbox mb).phase = .running →
    ∃ u, exec .engLatHoldDone s = .next u ∧ Answered mb ok s u ∧ u.eng = { s.eng with holdMb := none }) ∧
  (∀ (mb : Fin 8) (p : List Byte) (s : State), s.request mb.val 0x0636 = some p → s.blocksOff = false → u32 p 0 + u16 p 4 ≤ 524288 →
    (∀ i, i < u16 p 4 → Clean 5 0 (u32 p 0 + i) s) →
    ∃ u, exec (.engStateRead mb) s = .next u ∧ u.eng = s.eng ∧
      Answered mb.val (okD ((List.range (u16 p 4)).flatMap (fun i => bytes 8 (tget 0 s.eng.words (u32 p 0 + i)).toNat) ++ bytes 16 0)) s u) ∧
  (∀ (mb : Fin 8) (p : List Byte) (s : State), s.request mb.val 0x0637 = some p → s.blocksOff = false → u32 p 0 + u16 p 4 ≤ 524288 →
    ∃ u, exec (.engStateWrite mb) s = .next u ∧ Answered mb.val ok s u ∧
      (∀ i, i < u16 p 4 → tget 0 u.eng.words (u32 p 0 + i) = BitVec.ofNat 64 (u64 p (8 + 8 * i))) ∧
      (∀ j, j < u32 p 0 ∨ u32 p 0 + u16 p 4 ≤ j → tget 0 u.eng.words j = tget 0 s.eng.words j))

/-- CAL_STEP_START of a locked converter with background calibration on and its interval over, and REQ_ROTATION_STEP of a requested rotation 1
ms after its last step, start a step at the present position. CAL_STEP_MEASURE_END 971.7 µs into a step stages the slice's values when every
residual is within its limit and no correction at an end of its range, else counts CAL_FAILS with its event and ends the step (where no
request waits to start the next), a third failure in a row ending the run of failures. CAL_RUN on running converters with a spare answers
whether each rotation starts or queues. CAL_FOREGROUND on converters in MAINTENANCE runs on with them calibrating, and FG_CAL_DONE after 40
ms returns each to MAINTENANCE and answers, or, when no command started it, to SERVICE; an ADC with a passing slice for each position takes
its new map and corrections at the next local frame boundary, one without counts FG_FAILS. Periodic steps count from there (log entry 28);
CAL_RUN answers DENIED before BUSY (log entry 36). (spec/03_line_converters.md) -/
def Obligations.ConvertersCalibrate : Prop :=
  (∀ (adc : Fin 4) (s : State), s.canStep adc.val = true → s.flag Reg.ADC_CAL_CFG_BG_EN adc.val = true → (s.adc adc.val).rotLeft = none →
    (s.adc adc.val).lastT0 + 13000000 * s.get Reg.ADC_CAL_CFG_INTERVAL_MS adc.val ≤ s.clock →
    ∃ t, exec (.calStepStart adc) s = .next t ∧ t.adc adc.val = { s.adc adc.val with step := some ⟨s.clock, s.get Reg.ADC_STATUS_POS adc.val, none⟩, lastT0 := s.clock } ∧
      t.stepPhase adc.val = 1 ∧ RegsKept [] s t) ∧
  (∀ (adc : Fin 4) (s : State), s.canStep adc.val = true → (s.adc adc.val).rotLeft ≠ none → (s.adc adc.val).lastT0 + 13000000 ≤ s.clock →
    ∃ t, exec (.reqRotationStep adc) s = .next t ∧ t.adc adc.val = { s.adc adc.val with step := some ⟨s.clock, s.get Reg.ADC_STATUS_POS adc.val, none⟩, lastT0 := s.clock } ∧
      t.stepPhase adc.val = 1 ∧ RegsKept [] s t) ∧
  (∀ (adc : Fin 4) (res : Residual) (cal : SliceCal) (st : CalStep) (s : State), (s.adc adc.val).step = some st → st.staged = none → st.t0 + 12632100 ≤ s.clock →
    (stepFailure res cal = none → ∃ t, exec (.calStepMeasureEnd adc res cal) s = .next t ∧ t.adc adc.val = { s.adc adc.val with step := some { st with staged := some cal } } ∧
      (st.t0 + 12892100 ≤ s.clock → t.stepPhase adc.val = 3) ∧ RegsKept [] s t) ∧
    (∀ r, stepFailure res cal = some r → s.flag Reg.ADC_STATUS_REQ_QUEUED adc.val = false →
      ∃ t, exec (.calStepMeasureEnd adc res cal) s = .next t ∧ (t.adc adc.val).step = none ∧ t.flag Reg.ADC_EVENTS_CAL_FAIL adc.val = true ∧ Counted Cnt.CAL_FAILS adc.val 0 1 s t ∧
        (t.adc adc.val).failRun = (if (s.adc adc.val).failRun + 1 ≥ 3 then 0 else (s.adc adc.val).failRun + 1))) ∧
  (∀ res cal, stepFailure res cal = none ↔ res.offset ≤ 100 ∧ res.gain ≤ 1000 ∧ res.timing ≤ 20 ∧ res.bandwidth ≤ 2000 ∧ atRangeEnd cal = false) ∧
  (∀ (mb : Fin 8) (p : List Byte) (s : State), s.request mb.val 0x0B01 = some p → s.changing = false →
    (∀ a ∈ maskList (u8 p 0) 4, s.get Reg.ADC_STATUS_STATE a = 2 ∧ s.flag Reg.ADC_STATUS_SPARE_LOST a = false ∧ s.flag Reg.ADC_STATUS_REQ_QUEUED a = false) →
    ∃ t, exec (.calRun mb) s = .next t ∧ Answered mb.val (okD ((List.range 4).map (fun a => if a ∈ maskList (u8 p 0) 4 then
        (if (s.adc a).step = none ∧ (s.adc a).rotLeft = none then 1 else 2) else 0))) s t ∧
      (∀ a ∈ maskList (u8 p 0) 4, (s.adc a).step = none → (s.adc a).rotLeft = none → (t.adc a).rotLeft = some s.adcPositions ∧
        t.flag Reg.ADC_STATUS_REQ_RUNNING a = true)) ∧
  (∀ (mb : Fin 8) (p : List Byte) (s : State), s.request mb.val 0x0B02 = some p → s.conv.fg = none →
    (∀ a ∈ maskList (u8 p 0) 4, s.get Reg.ADC_STATUS_STATE a = 3) → (∀ d ∈ maskList (u8 p 1) 4, s.get Reg.DAC_STATUS_STATE d = 3) →
    ∃ t, exec (.calForeground mb) s = .next t ∧ RunsOn mb.val s t ∧ t.conv.fg = some ⟨u8 p 0, u8 p 1, s.clock, some mb.val⟩ ∧
      (∀ a, a < 4 → bitsOf (u8 p 0) a 1 = 1 → t.get Reg.ADC_STATUS_STATE a = 1) ∧ (∀ d, d < 4 → bitsOf (u8 p 1) d 1 = 1 → t.get Reg.DAC_STATUS_STATE d = 1)) ∧
  (∀ (adcs : List FgAdc) (dacs : List FgDac) (fg : FgCal) (s : State), s.conv.fg = some fg → fg.start + 520000000 ≤ s.clock →
    ∃ t, exec (.fgCalDone adcs dacs) s = .next t ∧ t.conv.fg = none ∧
      (∀ a, a < 4 → bitsOf fg.adcMask a 1 = 1 → t.get Reg.ADC_STATUS_STATE a = (if fg.mb = none then 2 else 3) ∧ (t.adc a).lastT0 = s.clock ∧
        (s.adcPositions ≤ (fgPassing (adcs.getD a ⟨[], []⟩)).length → (t.adc a).change ≠ none ∧ t.flag Reg.ADC_EVENTS_FG_DONE a = true) ∧
        ((fgPassing (adcs.getD a ⟨[], []⟩)).length < s.adcPositions → Counted Cnt.FG_FAILS a 0 1 s t ∧ t.flag Reg.ADC_EVENTS_FG_FAIL a = true)) ∧
      (∀ d, d < 4 → bitsOf fg.dacMask d 1 = 1 → t.get Reg.DAC_STATUS_STATE d = (if fg.mb = none then 2 else 3)) ∧
      (∀ mb, fg.mb = some mb → (s.mbox mb).phase = .running → (t.mbox mb).phase = .idle ∧ ((t.mbox mb).word 0xFF).toNat % 256 = cOK))

/-- GPIO_WRITE when each masked pin is an output that no block owns gives those pins the written levels and leaves the others. OPT_SPI_XFER and
OPT_I2C_XFER on an idle bus run on, show the bus busy and send their bytes; OPT_SPI_XFER_DONE and OPT_I2C_XFER_DONE free the bus and answer
with the bytes read, after a NACK or a fault with its status, zeros and a count. (spec/18_control.md) -/
def Obligations.PinsAndModuleBuses : Prop :=
  (∀ (mb : Fin 8) (p : List Byte) (s : State), s.request mb.val 0x0131 = some p →
    (∀ k ∈ maskList (u16 p 0) 16, s.get Reg.GPIO_CFG_MODE k = 1 ∧ k ∉ s.pinOwners) →
    ∃ t, exec (.gpioWrite mb) s = .next t ∧ Answered mb.val ok s t ∧ RegsKept [0x12014, Reg.GPIO_OUT_OUT.addr 0 0] s t ∧
      (∀ k, k < 16 → bitsOf (t.get Reg.GPIO_OUT_OUT) k 1 = (if bitsOf (u16 p 0) k 1 = 1 then bitsOf (u16 p 2) k 1 else bitsOf (s.get Reg.GPIO_OUT_OUT) k 1))) ∧
  (∀ (mb : Fin 8) (p : List Byte) (s : State), s.request mb.val 0x0134 = some p → s.opt.spi = none →
    ∃ t, exec (.optSpiXfer mb) s = .next t ∧ RunsOn mb.val s t ∧ t.opt.spi = some ⟨mb.val, u8 p 0, p.drop 4, u16 p 2⟩ ∧
      t.opt.sentSpi = s.opt.sentSpi ++ [(u8 p 0, p.drop 4)] ∧ t.flag Reg.OPT_STATUS_SPI_BUSY = true ∧ RegsKept [Reg.OPT_STATUS_SPI_BUSY.addr 0 0] s t) ∧
  (∀ (inBytes : List Byte) (x : OptXfer) (s : State), s.opt.spi = some x → (s.mbox x.mb).phase = .running →
    ∃ t, exec (.optSpiXferDone inBytes) s = .next t ∧ t.opt.spi = none ∧ t.flag Reg.OPT_STATUS_SPI_BUSY = false ∧
      Answered x.mb (okD ((List.range x.want).map (fun i => inBytes.getD i 0))) s t) ∧
  (∀ (mb : Fin 8) (p : List Byte) (s : State), s.request mb.val 0x0135 = some p → s.opt.i2c = none → u16 p 2 ≠ 0 ∨ u16 p 4 ≠ 0 →
    ∃ t, exec (.optI2cXfer mb) s = .next t ∧ RunsOn mb.val s t ∧ t.opt.i2c = some ⟨mb.val, u8 p 0, p.drop 8, u16 p 4⟩ ∧
      t.opt.sentI2c = s.opt.sentI2c ++ [(u8 p 0, p.drop 8)] ∧ t.flag Reg.OPT_STATUS_I2C_BUSY = true ∧ RegsKept [Reg.OPT_STATUS_I2C_BUSY.addr 0 0] s t) ∧
  (∀ (status : Fin 5) (inBytes : List Byte) (x : OptXfer) (s : State), s.opt.i2c = some x → (s.mbox x.mb).phase = .running →
    ∃ t, exec (.optI2cXferDone status inBytes) s = .next t ∧ t.opt.i2c = none ∧ t.flag Reg.OPT_STATUS_I2C_BUSY = false ∧
      (status.val = 1 ∨ status.val = 2 → Counted Cnt.OPT_I2C_NACKS 0 0 1 s t) ∧ (status.val = 3 ∨ status.val = 4 → Counted Cnt.OPT_I2C_FAULTS 0 0 1 s t) ∧
      Answered x.mb (okD ([BitVec.ofNat 8 status.val, 0, 0, 0] ++ (List.range x.want).map (fun i => if status.val = 0 then inBytes.getD i 0 else 0))) s t)

/-- ACQ_STEP_COMPLETE takes the line, or a furrow of a hub, from step 1 to 2 and, with a dispersion in the scan window and within its tier, to
3, and a furrow through clock, equaliser and, within the frequency range, carrier lock; ACQ_STEP_TIMEOUT repeats from step 3 once;
ACQ_TIMEOUT with a signal counts a failure and restarts. LOCK_LOST counts, clears carrier lock and the lock whose own condition failed, and
starts a fast reacquisition; FAST_REACQ_TIMEOUT a full one, of the line outside hub mode (log entry 45). FURROW_LOS_SET stops a furrow's
acquisition, FURROW_LOS_CLEAR starts one, in hub mode a full one. CYCLE_SLIP counts; AGC_STEP moves the gain one step toward its clamped
target, that of the burst receiver while no main path is busy (log entry 49); ADAPT_TIMEOUT withdraws a proposal; LINE_REACQUIRE and
FURROW_REACQUIRE start acquisitions. (spec/04_coherent_receiver.md) -/
def Obligations.FurrowsAcquireAndLoseLock : Prop :=
  (∀ (freq cd : Int) (s : State), s.mode ≠ 1 → s.rx.step = 1 →
    ∃ t, exec (.acqStepComplete none freq cd) s = .next t ∧ t.rx.step = 2 ∧ t.get Reg.RX_STATUS_ACQ_STATE = 2 ∧
      ∀ f ∈ s.lineFurrows, (s.fur f).step = 1 → (t.fur f).step = 2 ∧ (t.fur f).freq = freq) ∧
  (∀ (freq cd : Int) (s : State), s.mode ≠ 1 → s.rx.step = 2 → s.cdInWindow cd = true →
    ∃ t, exec (.acqStepComplete none freq cd) s = .next t ∧
      ((s.cdFound none cd).2 = true → t.rx.step = 3 ∧ t.rx.cd = cd ∧ t.get Reg.RX_STATUS_ACQ_STATE = 3 ∧ ∀ f ∈ s.lineFurrows, (s.fur f).step = 2 → (t.fur f).step = 3) ∧
      ((s.cdFound none cd).2 = false → t.rx.step = 2 ∧ t.flag Reg.RX_STATUS_CD_RANGE = true ∧ t.flag Reg.RX_EVENTS_CD_RANGE = true)) ∧
  (∀ (f : Fin 32) (freq cd : Int) (s : State), s.mode = 1 →
    ((s.fur f.val).step = 1 → ∃ t, exec (.acqStepComplete (some f) freq cd) s = .next t ∧ (t.fur f.val).step = 2 ∧ (t.fur f.val).freq = freq) ∧
    ((s.fur f.val).step = 2 → s.cdInWindow cd = true → (s.cdFound (some f.val) cd).2 = true →
      ∃ t, exec (.acqStepComplete (some f) freq cd) s = .next t ∧ (t.fur f.val).step = 3 ∧ (t.fur f.val).cd = cd)) ∧
  (∀ (f : Fin 32) (freq cd : Int) (s : State),
    ((s.fur f.val).step = 3 → ∃ t, exec (.acqStepComplete (some f) freq cd) s = .next t ∧ (t.fur f.val).step = 4 ∧ t.flag Reg.FR_STATUS_CLK_LOCK f.val = true) ∧
    ((s.fur f.val).step = 4 → ∃ t, exec (.acqStepComplete (some f) freq cd) s = .next t ∧ (t.fur f.val).step = 5 ∧ t.flag Reg.FR_STATUS_EQ_LOCK f.val = true) ∧
    ((s.fur f.val).step = 5 → s.freqInRange freq = true → ∃ t, exec (.acqStepComplete (some f) freq cd) s = .next t ∧ (t.fur f.val).step = 6 ∧ (t.fur f.val).freq = freq ∧ t.flag Reg.FR_STATUS_CAR_LOCK f.val = true)) ∧
  (∀ (f : Fin 32) (s : State), 3 ≤ (s.fur f.val).step → (s.fur f.val).step ≤ 5 → (s.fur f.val).repeated = false →
    (s.fur f.val).stepAt + (if (s.fur f.val).step = 4 then 130000000 else 65000000) ≤ s.clock →
    ∃ t, exec (.acqStepTimeout f) s = .next t ∧ (t.fur f.val).step = 3 ∧ (t.fur f.val).stepAt = s.clock ∧ (t.fur f.val).repeated = true ∧
      t.flag Reg.FR_STATUS_CLK_LOCK f.val = false ∧ t.flag Reg.FR_STATUS_EQ_LOCK f.val = false ∧ t.flag Reg.FR_STATUS_CAR_LOCK f.val = false) ∧
  (∀ (f : Fin 32) (s : State), s.mode = 1 → s.flag Reg.RX_STATUS_LINE_LOS = false → s.flag Reg.FR_STATUS_LOS f.val = false → (s.fur f.val).step ≠ 0 → (s.fur f.val).fast = false →
    (s.fur f.val).t0 + 13000000 * s.get Reg.RX_ACQ_CFG_ACQ_TIMEOUT_MS ≤ s.clock →
    ∃ t, exec (.acqTimeout (some f)) s = .next t ∧ Counted Cnt.ACQ_FAILS 0 0 1 s t ∧ t.flag Reg.RX_EVENTS_ACQ_FAIL = true ∧ (t.fur f.val).step = 1) ∧
  (∀ s : State, s.mode ≠ 1 → s.flag Reg.RX_STATUS_LINE_LOS = false → s.rx.step ≠ 0 → s.rx.full = true → s.rx.t0 + 13000000 * s.get Reg.RX_ACQ_CFG_ACQ_TIMEOUT_MS ≤ s.clock →
    ∃ t, exec (.acqTimeout none) s = .next t ∧ Counted Cnt.ACQ_FAILS 0 0 1 s t ∧ t.rx.step = 1 ∧ t.get Reg.RX_STATUS_ACQ_STATE = 1) ∧
  (∀ (f : Fin 32) (c : Fin 5) (s : State), c.val ≠ 0 → s.flag Reg.FR_STATUS_CAR_LOCK f.val = true →
    ∃ t, exec (.lockLost f c) s = .next t ∧ Counted Cnt.LOCK_LOSSES f.val 0 1 s t ∧ t.flag Reg.FR_EVENTS_LOCK_LOST f.val = true ∧
      t.flag Reg.FR_STATUS_CAR_LOCK f.val = false ∧ (t.flag Reg.FR_STATUS_CLK_LOCK f.val = true ↔ c.val ≠ 1 ∧ s.flag Reg.FR_STATUS_CLK_LOCK f.val = true) ∧
      (t.flag Reg.FR_STATUS_EQ_LOCK f.val = true ↔ c.val ≠ 2 ∧ s.flag Reg.FR_STATUS_EQ_LOCK f.val = true) ∧
      Counted Cnt.FAST_REACQS 0 0 1 s t ∧ (t.fur f.val).step = 3 ∧ (t.fur f.val).fast = true) ∧
  (∀ (f : Fin 32) (s : State), (s.fur f.val).step ≠ 0 → (s.fur f.val).fast = true → (s.fur f.val).lossAt + 260000000 ≤ s.clock →
    ∃ t, exec (.fastReacqTimeout f) s = .next t ∧ (s.mode = 1 → (t.fur f.val).step = 1 ∧ (t.fur f.val).fast = false) ∧ (s.mode ≠ 1 → t.rx.step = 1 ∧ t.rx.full = true)) ∧
  (∀ (f : Fin 32) (s : State), s.flag Reg.FR_STATUS_LOS f.val = false → s.flag Reg.FR_RX_CTRL_EN f.val = true → f.val ∈ s.processed →
    ∃ t, exec (.furrowLosSet f) s = .next t ∧ t.flag Reg.FR_STATUS_LOS f.val = true ∧ t.flag Reg.FR_EVENTS_LOS f.val = true ∧
      t.flag Reg.FR_STATUS_ACQ f.val = false ∧ (t.fur f.val).step = 0) ∧
  (∀ (f : Fin 32) (s : State), s.flag Reg.FR_STATUS_LOS f.val = true →
    ∃ t, exec (.furrowLosClear f) s = .next t ∧ t.flag Reg.FR_STATUS_LOS f.val = false ∧ 
      (f.val ∈ s.lineFurrows → s.flag Reg.RX_STATUS_LINE_LOS = false → s.lineHeld = false →
        if s.mode = 1 then (t.fur f.val).step = 1 ∧ (t.fur f.val).fast = false else (t.fur f.val).step = 3 ∧ (t.fur f.val).fast = true)) ∧
  (∀ (f : Fin 32) (s : State), s.flag Reg.FR_STATUS_CAR_LOCK f.val = true →
    ∃ t, exec (.cycleSlip f) s = .next t ∧ Counted Cnt.CYCLE_SLIPS f.val 0 1 s t ∧ t.flag Reg.FR_EVENTS_CYCLE_SLIP f.val = true ∧
      t.rx = s.rx ∧ RegsKept [Cnt.CYCLE_SLIPS.addr f.val 0, Reg.FR_EVENTS_CYCLE_SLIP.addr f.val 0] s t) ∧
  (∀ (i : Fin 33) (target : Int) (s : State), (if i.val = 32 then s.burstAgcFrozen = false else (s.fur i.val).agcAt + 13000 ≤ s.clock) →
    ∃ t, exec (.agcStep i target) s = .next t ∧ t.loopValue 2 i.val = (if s.loopValue 2 i.val < clampTo (s.bounds 2 i.val) target then s.loopValue 2 i.val + 1
      else if clampTo (s.bounds 2 i.val) target < s.loopValue 2 i.val then s.loopValue 2 i.val - 1 else s.loopValue 2 i.val) ∧
      ∀ k, k ≠ i.val → t.loopValue 2 k = s.loopValue 2 k) ∧
  (∀ (f : Fin 32) (q : AdaptReq) (s : State), (s.fur f.val).pending = some q → q.confirmed = false → 8 ≤ (s.frm.mfn + 2 ^ 32 - q.sentMfn) % 2 ^ 32 →
    ∃ t, exec (.adaptTimeout f) s = .next t ∧ (t.fur f.val).pending = none ∧ t.flag Reg.FR_STATUS_ADAPT_PENDING f.val = false ∧
      Counted Cnt.ADAPT_TIMEOUTS f.val 0 1 s t ∧ t.flag Reg.FR_EVENTS_ADAPT_TIMEOUT f.val = true) ∧
  (∀ (mb : Fin 8) (p : List Byte) (s : State), s.request mb.val 0x0303 = some p → s.blocksOff = false → s.mode ≠ 3 → s.flag Reg.RX_STATUS_LINE_LOS = false → s.rx.step = 0 →
    (∀ f, f < 32 → s.flag Reg.FR_STATUS_ACQ f = false) →
    ∃ t, exec (.lineReacquire mb) s = .next t ∧ Answered mb.val ok s t ∧ (s.mode ≠ 1 → t.rx.step = 1 ∧ t.get Reg.RX_STATUS_ACQ_STATE = 1) ∧
      (∀ f ∈ s.lineFurrows, (t.fur f).step = 1 ∧ (t.fur f).fast = false)) ∧
  (∀ (mb : Fin 8) (p : List Byte) (s : State), s.request mb.val 0x0404 = some p → s.blocksOff = false →
    (∀ f ∈ furrowList (u8 p 0), s.flag Reg.FR_STATUS_ACQ f = false ∧ s.flag Reg.FR_RX_CTRL_EN f = true ∧ s.flag Reg.FR_STATUS_LOS f = false ∧
      s.flag Reg.FR_STATUS_CAR_LOCK f = true) →
    ∃ t, exec (.furrowReacquire mb) s = .next t ∧ Answered mb.val ok s t ∧ ∀ f ∈ furrowList (u8 p 0), (t.fur f).step = 3 ∧ (t.fur f).fast = true)

/-- LINE_PLL_FIRST_LOCK starts multiframe 0. MULTIFRAME_BOUNDARY at the end of a multiframe's 25th frame advances the multiframe number modulo
2^32 and starts at frame 0; LOCAL_FRAME_BOUNDARY a frame after the last, after the multiframe boundary and the commits of the same moment
(log entry 37), advances the frame number modulo 25, to 0 at a multiframe's start. LINE_PLL_LOCK_LOSS squelches the line with reason 4 and
LINE_PLL_RELOCK lets that reason go; LINE_TX_SQUELCH does so for the host's reason. LEAF_LEVEL_MEASURE on an active 16-point leaf in hub
mode runs on, and LEAF_MEASURE_DONE answers with ρ = (m1/m0)/3 in 2^-14 of each tributary from its level sums after N bursts, TIMEOUT after
1 s. Boundaries from 100 ppm early are taken (log entry 85). (spec/06_transmit_shaping.md, spec/08_flume_frame.md, spec/17_timing.md) -/
def Obligations.LineFramesSquelchAndLevelMeasurement : Prop :=
  (∀ s : State, s.frm.started = false → ∃ t, exec .linePllFirstLock s = .next t ∧ t.frm.started = true ∧ t.frm.mfn = 0 ∧ t.frm.fn = 0 ∧ t.frm.lastMf = s.clock ∧
    t.get Reg.MF_PHASE_NS = s.devNs % 125000 ∧ RegsKept [Reg.MF_PHASE_NS.addr 0 0] s t) ∧
  (∀ (m : FrameMeas) (s : State), s.frm.started = true → s.frm.lastFrame + 65000 - 6 ≤ s.clock → (s.frm.fn = 24 → s.frm.lastMf = s.clock) → s.commitsDue = [] →
    ∃ t, exec (.localFrameBoundary m) s = .next t ∧ t.frm.fn = (if s.frm.lastMf = s.clock then 0 else (s.frm.fn + 1) % 25) ∧ t.frm.lastFrame = s.clock ∧
      t.frm.mfn = s.frm.mfn) ∧
  (∀ (figs : List Figures) (s : State), s.frm.started = true → s.frm.fn = 24 → s.frm.lastFrame + 65000 - 6 ≤ s.clock → s.frm.lastMf + 1625000 - 162 ≤ s.clock →
    ∃ t, exec (.multiframeBoundary figs) s = .next t ∧ t.frm.mfn = (s.frm.mfn + 1) % 2 ^ 32 ∧ t.frm.fn = 0 ∧ t.frm.lastMf = s.clock) ∧
  (∀ s : State, s.frm.started = true → s.sys.gated = false →
    ∃ t, exec .linePllLockLoss s = .next t ∧ t.tx.pllLost = true ∧ t.flag Reg.TXS_STATUS_SQUELCHED = true ∧ (t.get Reg.TXS_STATUS_SQ_REASON).testBit 4 = true ∧ RegsKept [] s t) ∧
  (∀ s : State, ∃ t, exec .linePllRelock s = .next t ∧ t.tx.pllLost = false ∧ (s.sys.gated = false → (t.get Reg.TXS_STATUS_SQ_REASON).testBit 4 = false) ∧ RegsKept [] s t) ∧
  (∀ (mb : Fin 8) (p : List Byte) (s : State), s.request mb.val 0x0311 = some p → s.blocksOff = false → s.mode ≠ 3 → s.sys.gated = false →
    ∃ t, exec (.lineTxSquelch mb) s = .next t ∧ Answered mb.val ok s t ∧ t.tx.hostSquelch = (u8 p 0 == 1) ∧
      (t.get Reg.TXS_STATUS_SQ_REASON).testBit 0 = (u8 p 0 == 1) ∧ (u8 p 0 = 1 → t.flag Reg.TXS_STATUS_SQUELCHED = true) ∧ RegsKept [0x12014] s t) ∧
  (∀ (mb : Fin 8) (p : List Byte) (s : State), s.request mb.val 0x050B = some p → s.tx.measure = none → s.mode = 1 → s.get Reg.LF_STATUS_STATE (u16 p 0) = 4 →
    s.flag Reg.LF_PROFILE_BURST_MOD (u16 p 0) = true →
    ∃ t, exec (.leafLevelMeasure mb) s = .next t ∧ RunsOn mb.val s t ∧ t.tx.measure = some { mb := mb.val, leaf := u16 p 0, n := u8 p 2, start := s.clock }) ∧
  (∀ (l : Fin 1024) (m : LevelMeasure) (s : State), s.tx.measure = some m → m.leaf = l.val → (s.mbox m.mb).phase = .running →
    (m.n ≤ m.used → ∃ t, exec (.leafMeasureDone l) s = .next t ∧ t.tx.measure = none ∧
      Answered m.mb (okD (bytes 2 m.used ++ [0, 0] ++ m.sums.flatMap (fun x => bytes 2 (min 65535 ((2 * 16384 * x.2 + 3 * x.1) / (6 * x.1)))) ++ [0, 0, 0, 0])) s t) ∧
    (m.used < m.n → m.start + 13000000000 ≤ s.clock → ∃ t, exec (.leafMeasureDone l) s = .next t ∧ t.tx.measure = none ∧ Answered m.mb (err cTIMEOUT) s t))

/-- BURST_DETECT takes an armed idle path, or the shadow of a busy one, loses to a judged one and is left to BURST_CAPTURE where it is strong
enough; BURST_SYNC_TIMEOUT counts a false detection and re-arms; BURST_CAPTURE takes the path over, what was received whole stays in the
decoder and a truncated burst counts (log entry 63); BURST_HEADER judges: a failed CRC counts, a data header that matches its grant is
accepted with its leaf's seed; BURST_END frees the path, keeps the SNR and, all codewords clean, writes the seed back. GRANT_MISSED drops
the grant and counts, but for an ADMITTED leaf on standby. GRANT_MAP_BUILD keeps the placed map, GMAP_LATE counts and sends again.
LEAF_EVICT answers, takes the leaf to EVICTED and counts. In leaf mode LEAF_GRANT_TIMEOUT goes back to state 2, SURVEY_RETRY_WAIT draws 1 to
8 windows, LEAF_BURST_TX, once the gate of the earliest grant's burst is due, sends that burst, a survey burst in a drawn slot, and counts
it (log entry 64). (spec/05_burst_access.md, spec/06_transmit_shaping.md, spec/13_sluice_engines.md) -/
def Obligations.BurstsAndLeafRegistration : Prop :=
  (∀ (f : Fin 32) (mf : Nat) (pos power afc : Int) (s : State), s.burstArmed f.val = true →
    ((s.path f.val).main = none → ∃ t, exec (.burstDetect f mf pos power afc) s = .next t ∧
      t.path f.val = { s.path f.val with main := some ⟨mf, pos, power, s.afcEstimate afc, s.clock⟩, rssi := none, judged := false, acc := none, shadow := none } ∧ RegsKept [] s t) ∧
    (∀ a, (s.path f.val).main = some a → s.captures (s.path f.val) a none power = false → (s.path f.val).judged = false → ∃ t, exec (.burstDetect f mf pos power afc) s = .next t ∧
      t.path f.val = { s.path f.val with shadow := some ⟨mf, pos, power, s.afcEstimate afc, s.clock⟩ } ∧ RegsKept [] s t) ∧
    (∀ a, (s.path f.val).main = some a → s.captures (s.path f.val) a none power = false → (s.path f.val).judged = true → ∃ t, exec (.burstDetect f mf pos power afc) s = .next t ∧
      Counted Cnt.COLLISIONS 0 0 1 s t ∧ t.flag Reg.BR_EVENTS_COLLISION = true) ∧
    (∀ a, (s.path f.val).main = some a → s.captures (s.path f.val) a none power = true → exec (.burstDetect f mf pos power afc) s = .next s)) ∧
  (∀ (f : Fin 32) (d : Detection) (s : State), (s.path f.val).main = some d → (s.path f.val).judged = false → d.at_ + 1248000 / s.furRate ≤ s.clock →
    ∃ t, exec (.burstSyncTimeout f) s = .next t ∧ Counted Cnt.FALSE_DETECTS 0 0 1 s t ∧ (t.path f.val).main = (s.path f.val).shadow ∧ (t.path f.val).shadow = none ∧
      RegsKept [Cnt.FALSE_DETECTS.addr 0 0] s t) ∧
  (∀ (f : Fin 32) (mf : Nat) (pos power afc : Int) (latched : Option Int) (complete : Nat) (a : Detection) (s : State), s.burstArmed f.val = true →
    (s.path f.val).main = some a → s.captures (s.path f.val) a latched power = true →
    ∃ t, exec (.burstCapture f mf pos ⟨power, afc⟩ ⟨latched, complete⟩) s = .next t ∧ Counted Cnt.CAPTURES 0 0 1 s t ∧
      (t.path f.val).main = some ⟨mf, pos, power, s.afcEstimate afc, s.clock⟩ ∧ (t.path f.val).judged = false ∧ (t.path f.val).acc = none ∧
      (∀ c, (s.path f.val).acc = some c → (t.path f.val).tails = (s.path f.val).leave c complete none ∧
        (complete < c.cw → Counted Cnt.TRUNCATED 0 0 1 s t ∧ (c.bad = false → Counted Cnt.BAD_BURSTS c.leaf 0 1 s t)) ∧
        (c.cw ≤ complete → Counted Cnt.TRUNCATED 0 0 0 s t))) ∧
  (∀ (f : Fin 32) (h : BitVec 128) (arrival rssi : Int) (d : Detection) (s : State), (s.path f.val).main = some d → (s.path f.val).judged = false →
    ∃ t, exec (.burstHeader f h arrival rssi) s = .next t ∧ (t.path f.val).judged = true ∧ (t.path f.val).shadow = none ∧
      (burstHeaderOk h = false → Counted Cnt.HDR_CRC_FAILS 0 0 1 s t ∧ (t.path f.val).acc = none) ∧
      (∀ g : Grant, burstHeaderOk h = true → (s.path f.val).shadow = none → bitsOf h.toNat 126 2 = g.type → g.type = 0 ∨ g.type = 2 → s.grantAt f.val d.mf arrival = some g →
        bitsOf h.toNat 116 10 = g.leaf → bitsOf h.toNat 108 8 = g.mf % 256 → bitsOf h.toNat 100 8 = (if g.type = 0 then g.len else 0) →
        Counted Cnt.BURSTS_OK g.leaf 0 1 s t ∧ (t.path f.val).rssi = some rssi ∧
        (t.path f.val).acc = some { type := g.type, leaf := g.leaf, cw := bitsOf h.toNat 100 8, left := bitsOf h.toNat 100 8, e := arrival - 16 * g.start, rssi := rssi, seed := (s.leafInfo g.leaf).seed.getD identityTaps, cd := s.getInt Reg.LF_LEVEL_CD g.leaf })) ∧
  (∀ (f : Fin 32) (resid cd : Int) (snr : Fin 65536) (taps : List Byte) (levels : List (Fin 65536 × Fin 65536)) (s : State), (s.path f.val).main ≠ none → (s.path f.val).judged = true →
    ∃ t, exec (.burstEnd f resid cd snr ⟨taps, levels⟩) s = .next t ∧ (t.path f.val).main = (none : Option Detection) ∧ (t.path f.val).judged = false ∧ (t.path f.val).acc = none ∧
      (∀ a : Accepted, (s.path f.val).acc = some a → a.leaf < 1024 → t.get Reg.LF_LAST_SNR a.leaf = snr.val ∧
        (t.path f.val).tails = (s.path f.val).leave a a.cw (some (taps, cd)) ∧
        (a.bad = false → a.left = 0 → (t.leafInfo a.leaf).seed = some ((List.range 144).map (fun i => taps.getD i 0)) ∧ (t.leafInfo a.leaf).seedAt = s.devNs))) ∧
  (∀ (leaf : Fin 1024) (g : Grant) (s : State), s.burst.grants.find? (fun g => g.leaf == leaf.val && g.type ≠ 1) = some g → s.grantDeadline g ≤ s.clock →
    ∃ t, exec (.grantMissed leaf) s = .next t ∧ g ∉ t.burst.grants ∧
      (s.leafState g.leaf ≠ 3 ∨ s.flag Reg.LF_STATUS_STANDBY g.leaf = false → Counted Cnt.MISSED_GRANTS g.leaf 0 1 s t)) ∧
  (∀ (starts : List (Fin 4194304)) (gs : List Grant) (s : State), s.mode = 1 → s.coherent = true → s.burst.built = none →
    gs = (s.wholeMap ((s.frm.mfn + 3) % 2 ^ 32)).1.zipIdx.map (fun e => { e.1 with start := ((starts.map (·.val)).getD e.2 0) }) → s.placed gs = true →
    ∃ t, exec (.grantMapBuild starts) s = .next t ∧ t.burst.built = some gs) ∧
  (∀ s : State, s.mode = 1 → s.coherent = true → s.frm.started = true → s.burst.mapFor ≠ some s.frm.mfn →
    ∃ t, exec .gmapLate s = .next t ∧ t.burst.mapFor = some s.frm.mfn ∧ Counted Cnt.GMAP_LATE 0 0 1 s t ∧ t.flag Reg.ENG_EVENTS_GMAP_LATE = true) ∧
  (∀ (mb : Fin 8) (p : List Byte) (s : State), s.request mb.val 0x0503 = some p → s.blocksOff = false → u16 p 0 < 1024 → s.leafState (u16 p 0) ≠ 0 → s.leafState (u16 p 0) ≠ 6 →
    ∃ t, exec (.leafEvict mb) s = .next t ∧ Answered mb.val ok s t ∧ t.leafState (u16 p 0) = 6 ∧ Counted Cnt.EVICTIONS 0 0 1 s t ∧ t.flag Reg.BR_EVENTS_EVICTION = true) ∧
  (∀ s : State, s.mode = 2 → s.selfState = 3 ∨ s.selfState = 4 → s.self.lastNamed + 416000000 ≤ s.clock →
    ∃ t, exec .leafGrantTimeout s = .next t ∧ t.selfState = 2 ∧ { t.self with sent := s.self.sent } = { s.self with grants := [], surveyedAt := none }) ∧
  (∀ (t0 : Nat) (s : State), s.self.surveyedAt = some t0 → s.mode = 2 → s.selfState = 2 → t0 + 6500000 ≤ s.clock →
    ∃ t, exec .surveyRetryWait s = .next t ∧ t.self.surveyedAt = none ∧ 1 ≤ t.self.waitWindows ∧ t.self.waitWindows ≤ 8 ∧ RegsKept [] s t) ∧
  (∀ (f : Fin 32) (g : Grant) (s : State), s.mode = 2 → s.flag Reg.TXS_STATUS_SQUELCHED = false → s.leafLocked = true → s.firstGrant (s.self.grants.filter s.eligible) = some g → g.furrow = f.val →
    (∀ x, g.type ≠ 1 → x = (s.leafUpdates g.mf).ownBurst g 0 g.start ((s.leafUpdates g.mf).ownPayload g).1 → x.gate.1 ≤ s.clock →
      ∃ t y, exec (.leafBurstTx f) s = .next t ∧ t.self.sent = some y ∧ { y with gate := x.gate } = x ∧ g ∉ t.self.grants ∧ t.self.seq = (s.self.seq + 1) % 65536 ∧
        Counted Cnt.BURSTS_SENT 0 0 1 s t) ∧
    (g.type = 1 → (∀ b, b < max 1 g.len → ((s.leafUpdates g.mf).ownBurst g b (g.start + b * (240 + s.leafGuard)) []).gate.1 ≤ s.clock) →
      ∃ t y b, exec (.leafBurstTx f) s = .next t ∧ t.self.sent = some y ∧ b < max 1 g.len ∧
        { y with gate := (0, 0) } = { (s.leafUpdates g.mf).ownBurst g b (g.start + b * (240 + s.leafGuard)) [] with gate := (0, 0) } ∧ g ∉ t.self.grants ∧
        t.self.seq = (s.self.seq + 1) % 65536 ∧ Counted Cnt.SURVEY_TRIES 0 0 1 s t ∧ Counted Cnt.BURSTS_SENT 0 0 1 s t))

/-- CODEWORD_DECODED decodes the codeword's LLRs (log entry 69) and on a locked furrow counts in CW_TOTAL, a corrected one its bits in
BITS_CORR, an uncorrectable one in CW_UNCORR with its event; on a burst it counts in BCW_TOTAL and delivers the payload, marked where
uncorrectable; in a hunt the second of two consecutive clean codewords at a candidate locks the furrow and a bad one moves on to the next
candidate; interoperable framing locks at its first codeword. HUNT_SCREEN keeps the offsets of its 16 at which at most 45 % of the checks
fail. FEC_HUNT on a carrier-locked furrow answers, drops codeword lock and hunts. (spec/07_terrace_fec.md) -/
def Obligations.CodewordsAreCountedAndLocked : Prop :=
  (∀ (f : Fin 32) (r : CwResult) (j : Judged) (s : State), s.flag Reg.FEC_FR_STATUS_CW_LOCK f.val = true → s.dspFail f.val = false → s.flag Reg.FR_RX_CTRL_EN f.val = true →
    (match r with | .terrace _ => s.get Reg.FEC_CTRL_LINE_FEC = 0 | .interop _ _ => s.get Reg.FEC_CTRL_LINE_FEC ≠ 0) → j = s.decodeCw f.val r →
    ∃ t, exec (.codewordDecoded f false r) s = .next t ∧ Counted Cnt.CW_TOTAL f.val 0 1 s t ∧
      (j.uncorrectable = false → Counted Cnt.BITS_CORR f.val 0 j.bitsCorr s t ∧ Counted Cnt.CW_UNCORR f.val 0 0 s t) ∧
      (j.uncorrectable = true → Counted Cnt.CW_UNCORR f.val 0 1 s t ∧ t.flag Reg.FEC_FR_EVENTS_UNCORR f.val = true)) ∧
  (∀ (f : Fin 32) (raw : List (Int × Bool)) (s : State), s.burstWaits f.val = true →
    ∃ t, exec (.codewordDecoded f true (.terrace raw)) s = .next t ∧ Counted Cnt.BCW_TOTAL 0 0 1 s t ∧
      (t.fecFur f.val).outMarked = (s.decodeBurst f.val raw).uncorrectable ∧
      (t.fecFur f.val).out = burstPayload (s.burstSel f.val) (s.decodeBurst f.val raw).outer) ∧
  (∀ (f : Fin 32) (residual : Bool) (corrected : Nat) (s : State), s.get Reg.FEC_CTRL_LINE_FEC ≠ 0 → s.flag Reg.FEC_FR_STATUS_CW_LOCK f.val = false → s.dspFail f.val = false →
    s.flag Reg.FR_RX_CTRL_EN f.val = true →
    ∃ t, exec (.codewordDecoded f false (.interop residual corrected)) s = .next t ∧ t.flag Reg.FEC_FR_STATUS_CW_LOCK f.val = true ∧ Counted Cnt.CW_TOTAL f.val 0 1 s t) ∧
  (∀ (f : Fin 32) (k x : Nat) (xs : List Nat) (raw : List (Int × Bool)) (j : Judged) (s : State), s.get Reg.FEC_CTRL_LINE_FEC = 0 →
    s.flag Reg.FEC_FR_STATUS_CW_LOCK f.val = false → s.flag Reg.FEC_FR_STATUS_HUNT f.val = true → s.dspFail f.val = false → s.flag Reg.FR_RX_CTRL_EN f.val = true →
    (s.fecFur f.val).batch = x :: xs → (s.fecFur f.val).confirm = some k → j = s.decodeCw f.val (.terrace raw) →
    ∃ t, exec (.codewordDecoded f false (.terrace raw)) s = .next t ∧
      (j.syndromeZero = true → j.uncorrectable = false →
        carriedIndex (s.get Reg.FEC_FR_STATUS_RATE_NOW f.val) j.outer = (k + 1) % cycleLen (s.get Reg.FEC_FR_STATUS_RATE_NOW f.val) →
        t.flag Reg.FEC_FR_STATUS_CW_LOCK f.val = true ∧ t.flag Reg.FEC_FR_STATUS_HUNT f.val = false) ∧
      (j.syndromeZero = false ∨ j.uncorrectable = true → (t.fecFur f.val).batch = xs ∧ t.flag Reg.FEC_FR_STATUS_CW_LOCK f.val = false)) ∧
  (∀ (f : Fin 32) (llrs : List (Int × Bool)) (s : State), s.flag Reg.FEC_FR_STATUS_HUNT f.val = true → (s.fecFur f.val).batch = [] →
    ∃ t, exec (.huntScreen f llrs) s = .next t ∧ (t.fecFur f.val).next = ((s.fecFur f.val).next + 64) % 30720 ∧ (t.fecFur f.val).confirm = none ∧ RegsKept [] s t ∧
      ∀ o, o ∈ (t.fecFur f.val).batch ↔ ∃ k, k < 16 ∧ o = (s.fecFur f.val).next + 4 * k ∧
        screened (s.get Reg.FEC_FR_STATUS_RATE_NOW f.val) (((llrs.map (fun e => s.demapped f.val e.1 e.2)).drop (4 * k)).take 30720) = true) ∧
  (∀ (mb : Fin 8) (p : List Byte) (s : State), s.request mb.val 0x0322 = some p → s.blocksOff = false → u8 p 0 < 32 → s.flag Reg.FEC_FR_STATUS_HUNT (u8 p 0) = false →
    s.flag Reg.FR_STATUS_CAR_LOCK (u8 p 0) = true → s.get Reg.FEC_CTRL_LINE_FEC = 0 →
    ∃ t, exec (.fecHunt mb) s = .next t ∧ Answered mb.val ok s t ∧ t.flag Reg.FEC_FR_STATUS_HUNT (u8 p 0) = true ∧ t.flag Reg.FEC_FR_STATUS_CW_LOCK (u8 p 0) = false ∧
      t.flag Reg.FRM_FR_STATUS_SYNC (u8 p 0) = false)

/-- FRAME_HUNT_WORD moves 512 bits on and, with a candidate confirmed three times, enters SYNC. FRAME_RECEIVED in SYNC counts the frame, as a
discard while the furrow's admission is closed; a right FAW and label keep its J; a wrong label counts in LABEL_ERRS; a lost FAW counts in
FAW_ERRS and at OOF_THR ends SYNC with OOF. LOF_SET and LOF_CLEAR follow OOF and SYNC held for their frames. MULTIFRAME_STREAM_RX, with what
furrows out of SYNC carried marked, with the expected or no readable number moves MFN_RX on by 1, and out of LOM with two consecutive
numbers. MGMT_MESSAGE_RX counts an intact message of a known type and passes over it, counts one whose length is wrong in MGMT_DROPS, and
stops at type 0. (spec/08_flume_frame.md) -/
def Obligations.FramesAreFoundLostAndRead : Prop :=
  (∀ (f : Fin 32) (bits : BitVec 575) (s : State), s.get Reg.FEC_CTRL_LINE_FEC = 0 → s.flag Reg.FRM_FR_STATUS_SYNC f.val = false →
    s.flag Reg.FEC_FR_STATUS_CW_LOCK f.val = true → s.dspFail f.val = false →
    ∃ t, exec (.frameHuntWord f bits) s = .next t ∧
      (∀ c, winner (huntWord (s.frameLen f.val) (s.frmFur f.val).pos bits.toNat (s.frmFur f.val).cands).1 = some c →
        t.flag Reg.FRM_FR_STATUS_SYNC f.val = true ∧ t.flag Reg.FRM_FR_STATUS_OOF f.val = false) ∧
      (winner (huntWord (s.frameLen f.val) (s.frmFur f.val).pos bits.toNat (s.frmFur f.val).cands).1 = none →
        (t.frmFur f.val).pos = (s.frmFur f.val).pos + 512 ∧
        (t.frmFur f.val).cands = (huntWord (s.frameLen f.val) (s.frmFur f.val).pos bits.toNat (s.frmFur f.val).cands).1)) ∧
  (∀ (f : Fin 32) (w : BitVec 64) (rest : List (BitVec 64)) (pq : Option (Byte × Byte)) (s : State), s.flag Reg.FRM_FR_STATUS_SYNC f.val = true → s.running 3 f.val = true →
    ∃ t, exec (.frameReceived f (w :: rest) pq) s = .next t ∧ Counted Cnt.FRAMES f.val 0 1 s t ∧
      (patternOk w.toNat = true → labelOk w.toNat = true → fawFn w.toNat = (s.get Reg.FRM_FR_STATUS_FN f.val + 1) % 25 →
        (t.frmFur f.val).failRun = 0 ∧ t.get Reg.FRM_FR_STATUS_J f.val = fawJ w.toNat ∧ t.get Reg.FRM_FR_STATUS_FN f.val = (s.get Reg.FRM_FR_STATUS_FN f.val + 1) % 25) ∧
      (patternOk w.toNat = true → labelOk w.toNat = false → Counted Cnt.LABEL_ERRS f.val 0 1 s t) ∧
      ((s.frmFur f.val).uncertain = 0 → patternOk w.toNat = false → Counted Cnt.FAW_ERRS f.val 0 1 s t ∧
        (s.get Reg.FRM_CFG_OOF_THR ≤ (s.frmFur f.val).failRun + 1 → t.flag Reg.FRM_FR_STATUS_SYNC f.val = false ∧
          (s.flag Reg.FRM_FR_STATUS_OOF f.val = false → t.flag Reg.FRM_FR_STATUS_OOF f.val = true)))) ∧
  (∀ (f : Fin 32) (faws : List (BitVec 64)) (pq : Option (Byte × Byte)) (s : State), s.flag Reg.FRM_FR_STATUS_SYNC f.val = true → s.running 3 f.val = false →
    ∃ t, exec (.frameReceived f faws pq) s = .next t ∧ Counted Cnt.FR_QUENCH_DISCARDS f.val 0 1 s t ∧ RegsKept [Cnt.FR_QUENCH_DISCARDS.addr f.val 0] s t) ∧
  (∀ (f : Fin 32) (s : State), s.flag Reg.FRM_FR_STATUS_OOF f.val = true → s.flag Reg.FRM_FR_STATUS_LOF f.val = false →
    (s.frmFur f.val).oofSince + 65000 * s.get Reg.FRM_CFG_LOF_FRAMES ≤ s.clock →
    ∃ t, exec (.lofSet f) s = .next t ∧ t.flag Reg.FRM_FR_STATUS_LOF f.val = true ∧ t.flag Reg.FRM_FR_EVENTS_LOF_SET f.val = true ∧
      (s.get Reg.FEC_CTRL_LINE_FEC = 0 → t.flag Reg.FRM_FR_STATUS_SF f.val = true)) ∧
  (∀ (f : Fin 32) (s : State), s.flag Reg.FRM_FR_STATUS_SYNC f.val = true → s.flag Reg.FRM_FR_STATUS_LOF f.val = true →
    (s.frmFur f.val).syncSince + 65000 * s.get Reg.FRM_CFG_LOF_CLR_FRAMES ≤ s.clock →
    ∃ t, exec (.lofClear f) s = .next t ∧ t.flag Reg.FRM_FR_STATUS_LOF f.val = false ∧ t.flag Reg.FRM_FR_EVENTS_LOF_CLR f.val = true) ∧
  (∀ (k : Fin 8) (raw stream : List (Option Byte)) (started f m : Nat) (s : State), stream = s.heardStream k.val started raw → s.coherent = true → (∃ g ∈ s.lineFurrows, g / 4 = k.val) → f ∈ s.groupFurrows k.val → f < 32 →
    s.flag Reg.FRM_FR_STATUS_LOM ((s.groupFurrows k.val).headD 0) = false → (s.groupRx k.val).mfn = some m →
    unmarked stream 0 4 = none ∨ unmarked stream 0 4 = some ((m + 1) % 2 ^ 32) →
    ∃ t, exec (.multiframeStreamRx k ⟨raw, started⟩) s = .next t ∧ t.get Reg.MFN_RX_MFN f = (m + 1) % 2 ^ 32 ∧ (t.groupRx k.val).mfn = some ((m + 1) % 2 ^ 32)) ∧
  (∀ (k : Fin 8) (raw stream : List (Option Byte)) (started f m : Nat) (s : State), stream = s.heardStream k.val started raw → s.coherent = true → (∃ g ∈ s.lineFurrows, g / 4 = k.val) → f ∈ s.groupFurrows k.val → f < 32 →
    s.flag Reg.FRM_FR_STATUS_LOM ((s.groupFurrows k.val).headD 0) = true → (s.groupRx k.val).last = some m → unmarked stream 0 4 = some ((m + 1) % 2 ^ 32) →
    ∃ t, exec (.multiframeStreamRx k ⟨raw, started⟩) s = .next t ∧ t.flag Reg.FRM_FR_STATUS_LOM f = false ∧ t.get Reg.MFN_RX_MFN f = (m + 1) % 2 ^ 32) ∧
  (∀ (k : Fin 8) (ty n : Byte) (body : List (Option Byte)) (s : State), (s.groupRx k.val).mgmt = some ty :: some n :: body → ty ≠ 0 →
    (mgmtLen ty.toNat = some n.toNat → n.toNat ≤ body.length → (∀ x ∈ body.take n.toNat, x ≠ none) →
      ∃ t, exec (.mgmtMessageRx k) s = .next t ∧ Counted Cnt.MGMT_RX 0 0 1 s t ∧ (s.mode ≠ 2 → (t.groupRx k.val).mgmt = body.drop n.toNat)) ∧
    (∀ want, mgmtLen ty.toNat = some want → want ≠ n.toNat → ∃ t, exec (.mgmtMessageRx k) s = .next t ∧ Counted Cnt.MGMT_DROPS 0 0 1 s t ∧
      (t.groupRx k.val).mgmt = body.drop n.toNat)) ∧
  (∀ (k : Fin 8) (rest : List (Option Byte)) (s : State), (s.groupRx k.val).mgmt = some 0 :: rest →
    ∃ t, exec (.mgmtMessageRx k) s = .next t ∧ (t.groupRx k.val).mgmt = [] ∧ RegsKept [] s t)

/-- HOLDOFF_EXPIRE ends the hold-off and raises the request while its defect is present; WTR_EXPIRE ends the wait-to-restore with its event;
SETTLING_END after 200 ms ends SETTLING; PQ_UNSTABLE_CHECK each 200 frames starts a new count, with 100 changes and none accepted sets
PQ_UNSTABLE and counts. PROT_CMD for the line above the present request is taken as the host's request; a lockout of a dual-homed leaf in
hub mode is kept for it. (spec/08_flume_frame.md) -/
def Obligations.ProtectionTimersAndHostRequests : Prop :=
  (∀ (i : Fin 4) (h : Nat × Nat) (s : State), s.holdoff i.val = some h → h.1 + h.2 ≤ s.clock →
    ∃ t, exec (.holdoffExpire i) s = .next t ∧ t.holdoff i.val = none ∧ (s.flag (defectField i.val) = true → bitsOf t.prot.raised i.val 1 = 1) ∧
      (s.flag (defectField i.val) = false → t.prot.raised = s.prot.raised) ∧ RegsKept [] s t) ∧
  (∀ (t0 : Nat) (s : State), s.prot.wtr = some t0 → t0 + 13000000000 * s.get Reg.PROT_TIMERS_WTR_S ≤ s.clock →
    ∃ t, exec .wtrExpire s = .next t ∧ t.prot = { s.prot with wtr := none } ∧ t.flag Reg.PROT_STATUS_WTR_RUN = false ∧ t.flag Reg.PROT_EVENTS_WTR_END = true) ∧
  (∀ (t0 : Nat) (s : State), s.prot.settle = some t0 → t0 + 2600000000 ≤ s.clock →
    ∃ t, exec .settlingEnd s = .next t ∧ t.prot = { s.prot with settle := none } ∧ t.flag Reg.PROT_STATUS_SETTLING = false ∧ RegsKept [Reg.PROT_STATUS_SETTLING.addr 0 0] s t) ∧
  (∀ s : State, 200 ≤ s.prot.pqFrames →
    ∃ t, exec .pqUnstableCheck s = .next t ∧ t.prot = { s.prot with pqFrames := s.prot.pqFrames - 200, pqChanges := 0, pqAccepted := false } ∧
      (100 ≤ s.prot.pqChanges → s.prot.pqAccepted = false → t.flag Reg.PROT_STATUS_PQ_UNSTABLE = true ∧ t.flag Reg.PROT_EVENTS_PQ_UNSTABLE = true ∧
        Counted Cnt.PQ_UNSTABLE_EVENTS 0 0 1 s t)) ∧
  (∀ (mb : Fin 8) (p : List Byte) (s : State), s.request mb.val 0x0333 = some p → s.blocksOff = false →
    (u16 p 0 = 0xFFFF → s.flag Reg.PROT_CFG_EN = true → u8 p 2 ≠ 0 → s.get Reg.PROT_STATUS_REQ < hostCode (u8 p 2) →
      ∃ t, exec (.protCmd mb) s = .next t ∧ Answered mb.val ok s t ∧ t.prot = { s.prot with host := hostCode (u8 p 2) } ∧ RegsKept [0x12014] s t) ∧
    (u16 p 0 ≠ 0xFFFF → s.mode = 1 → s.flag Reg.LF_PROFILE_DUAL_HOME (u16 p 0) = true → u8 p 2 = 1 →
      ∃ t, exec (.protCmd mb) s = .next t ∧ Answered mb.val ok s t ∧ (t.leafInfo (u16 p 0)).lockout = true ∧ RegsKept [0x12014] s t))

/-- SLIP_FRAME_WRITE, once the 25 parts of the tributary's frame have come in (all ones while its lane is not ALIGNED), adds the frame, or with
three held drops the oldest, counts and sets SLIP. SLIP_READ sends the oldest frame of a started buffer, all ones before it starts, or
counts a repeat when it is empty. With no injector on the lane RL_BLOCK_RX, in loopback with the lane's own block, takes the 64th good block
as lock, moves the offset on and counts at a bad header while unlocked, loses lock at the 16th bad one of 1,024, and passes a block on
descrambled. RILLLINK_FRAME_RX takes the rows of the frame: it keeps their rills, notes a valid POS 0 header, aligns at the second in
sequence, counts wrong blocks while aligned. RL_ALIGN_LOSS ends ALIGNED after four frames without one. How the parts of a frame are gathered
is log entry 68. (spec/09_rills_tsi.md, spec/15_serial_lanes.md) -/
def Obligations.SlipBuffersAndRillLinkLanes : Prop :=
  (∀ (tn : Fin 256) (out dark : Bool) (fr : Option (List Byte)) (s : State), s.slipRuns tn.val = true →
    (dark = false ∧ (s.slip tn.val out).parts.length = 25 ∧ (out = true ∨ s.slipDark tn.val = false) ∧ fr = (s.slip tn.val out).whole (s.members tn.val)) ∨
      (dark = true ∧ out = false ∧ s.slipDark tn.val = true ∧ fr = none) →
    ∃ t, exec (.slipFrameWrite tn out dark) s = .next t ∧ (∀ k, k ≠ 2 * tn.val + b2n out → tget {} t.tsi.slips k = tget {} s.tsi.slips k) ∧
      ((s.slip tn.val out).held.length < 3 → t.slip tn.val out = { s.slip tn.val out with held := (s.slip tn.val out).held ++ [fr], parts := [] }) ∧
      ((s.slip tn.val out).held.length = 3 → t.slip tn.val out = { s.slip tn.val out with held := (s.slip tn.val out).held.drop 1 ++ [fr], parts := [] } ∧
        Counted (if out then Cnt.SLIP_DROP_OUT else Cnt.SLIP_DROP_IN) (s.slipIndex tn.val) 0 1 s t ∧ t.flag Reg.TSI_EVENTS_SLIP = true)) ∧
  (∀ (tn : Fin 256) (out : Bool) (s : State), s.slipRuns tn.val = true →
    ∃ t, exec (.slipRead tn out) s = .next t ∧ (∀ k, k ≠ 2 * tn.val + b2n out → tget {} t.tsi.slips k = tget {} s.tsi.slips k) ∧
      (∀ f rest, (s.slip tn.val out).held = f :: rest → (s.slip tn.val out).started = true ∨ rest ≠ [] →
        t.slip tn.val out = { s.slip tn.val out with held := rest, last := f, started := true }) ∧
      ((s.slip tn.val out).held.length < 2 → (s.slip tn.val out).started = false → t.slip tn.val out = { s.slip tn.val out with last := none }) ∧
      ((s.slip tn.val out).held = [] → (s.slip tn.val out).started = true → t.slip tn.val out = s.slip tn.val out ∧
        Counted (if out then Cnt.SLIP_REPEAT_OUT else Cnt.SLIP_REPEAT_IN) (s.slipIndex tn.val) 0 1 s t ∧ t.flag Reg.TSI_EVENTS_SLIP = true)) ∧
  (∀ (l : Fin 16) (sh : BitVec 2) (w : BitVec 64) (b : BitVec 66) (h : Nat) (s : State), s.laneFormat l.val = 2 → s.rxState l.val = 3 → s.laneLive l.val = true → s.fiAt 3 l.val = none →
    (s.heardBlock l.val (sh ++ w)).1 = some b → h = b.toNat / 2 ^ 64 →
    ∃ t, exec (.rlBlockRx l sh w) s = .next t ∧ (s.looped l.val = false → b = sh ++ w) ∧
      (h = 0 ∨ h = 3 → Counted Cnt.SH_ERRS l.val 0 1 s t) ∧
      (h = 0 ∨ h = 3 → s.flag Reg.LN_STATUS_BLOCK_LOCK l.val = false → (t.lane l.val).offset = ((s.lane l.val).offset + 1) % 66 ∧ (t.lane l.val).good = 0) ∧
      (h = 1 ∨ h = 2 → s.flag Reg.LN_STATUS_BLOCK_LOCK l.val = false → (s.lane l.val).good = 63 → t.flag Reg.LN_STATUS_BLOCK_LOCK l.val = true) ∧
      (h = 0 ∨ h = 3 → s.flag Reg.LN_STATUS_BLOCK_LOCK l.val = true → 15 ≤ (s.lane l.val).bad → (s.lane l.val).window < 1023 →
        t.flag Reg.LN_STATUS_BLOCK_LOCK l.val = false ∧ t.flag Reg.LN_EVENTS_BLOCK_LOCK_LOST l.val = true) ∧
      (h = 1 ∨ h = 2 → s.flag Reg.LN_STATUS_BLOCK_LOCK l.val = true → (s.lane l.val).bad < 16 → s.running 4 l.val = true →
        t.laneData l.val = LaneData.cross ({ (s.heardBlock l.val (sh ++ w)).2.laneData l.val with descr := (descramble58 (s.laneData l.val).descr (b.setWidth 64)).2 } : LaneData)
          (BitVec.ofNat 66 (h * 2 ^ 64 + (descramble58 (s.laneData l.val).descr (b.setWidth 64)).1.toNat)))) ∧
  (∀ (l : Fin 16) (early late : List Nat) (offset : Int) (r : RillRow) (rest : List RillRow) (n : Nat) (s : State), s.flag Reg.RL_CFG_EN l.val = true →
    s.flag Reg.LN_STATUS_BLOCK_LOCK l.val = true → s.coherent = true → n = s.get Reg.RL_CFG_RILLS l.val → (s.laneData l.val).rows.take n = r :: rest →
    ∃ t, exec (.rilllinkFrameRx l early late offset) s = .next t ∧ (t.laneData l.val).rows = [] ∧ (t.rillLane l.val).rills = (r :: rest).map rowRill ∧
      (rillHeaderOk 0 r.header.toNat = true → (t.rillLane l.val).lastFn = some (bitsOf r.header.toNat 43 5) ∧ (t.rillLane l.val).missed = 0 ∧
        ((s.rillLane l.val).lastFn = some ((bitsOf r.header.toNat 43 5 + 24) % 25) → t.flag Reg.RL_STATUS_ALIGNED l.val = true)) ∧
      (rillHeaderOk 0 r.header.toNat = false → (t.rillLane l.val).lastFn = none ∧ (t.rillLane l.val).missed = (s.rillLane l.val).missed + 1) ∧
      (s.flag Reg.RL_STATUS_ALIGNED l.val = true → Counted Cnt.RL_HDR_ERRS 0 0 (((r :: rest).filter (fun x => !blockOk x.header.toNat)).length) s t)) ∧
  (∀ (l : Fin 16) (s : State), s.flag Reg.RL_STATUS_ALIGNED l.val = true → 4 ≤ (s.rillLane l.val).missed ∨ s.flag Reg.LN_STATUS_BLOCK_LOCK l.val = false →
    ∃ t, exec (.rlAlignLoss l) s = .next t ∧ t.flag Reg.RL_STATUS_ALIGNED l.val = false ∧ t.flag Reg.RL_STATUS_IN_WINDOW l.val = false ∧
      t.get Reg.RL_OFFSET_OFFSET l.val = 0x80000000 ∧ t.rillLane l.val = { txFn := (s.rillLane l.val).txFn } ∧ t.flag Reg.TSI_EVENTS_RL_ALIGN = true)

/-- CIPHER_UNIT_TX sends header, ciphertext and tag of the turnout's blocks, or of an Ethernet client's given plaintext, under the context's
counter and moves the counter on, or sends idle when the context is exhausted. CIPHER_UNIT_RX judges by the header: blocked, idle, damaged,
no context, replay, else it waits for the tag. CIPHER_UNIT_END with the right tag counts UNITS_OK and moves RX_LAST to its counter; a wrong
tag counts AUTH_FAILS and blocks unless ON_FAIL is 1, on a damaged unit DAMAGED_UNITS. KEY_IMPORT unwraps and stores a key, answered with
its check value, and waits for activation loads. CIPHER_VERIFY checks a tag. KEY_TRANSFER_DONE frees the bus and completes a waiting
CIPHER_VERIFY. CIPHER_UNBLOCK clears BLOCKED. (spec/10_line_cipher.md) -/
def Obligations.CipherUnitsAreSentJudgedAndKeyed : Prop :=
  (∀ (tn : Fin 256) (given plain : List Byte) (c : Nat) (s : State), s.ciphered tn.val = true → s.unitFits tn.val given.length = true → plain = (s.unitPlain tn.val given).1 → c = s.txCtx tn.val → s.attached c = true →
    ((s.fetchCtx c).ctxState c ≠ 3 →
      ∃ t, exec (.cipherUnitTx tn given) s = .next t ∧ t.txCtr c = min (s.txCtr c + 1) (ctrEnd - 1) ∧ t.flag Reg.TN_CIPH_STATUS_EXH_TX tn.val = false ∧
        (s.txCtr c = ctrEnd - 1 → t.ctxState c = 3) ∧
        (t.cipherTn tn.val).sent =
          bytesBe 8 (unitHeader (s.flag Reg.TN_CIPH_STATUS_TX_PHASE tn.val) false (s.txCtr c)).toNat ++
          gctr (s.keySlot (s.get Reg.CTX_STATUS_KEY c)).key (unitIv (s.salt c) (s.flag Reg.CTX_STATUS_TX_DIR c) (s.txCtr c)) plain ++
          bytesBe 16 (s.unitTag c (s.flag Reg.CTX_STATUS_TX_DIR c) (bytesBe 8 (unitHeader (s.flag Reg.TN_CIPH_STATUS_TX_PHASE tn.val) false (s.txCtr c)).toNat)
            (gctr (s.keySlot (s.get Reg.CTX_STATUS_KEY c)).key (unitIv (s.salt c) (s.flag Reg.CTX_STATUS_TX_DIR c) (s.txCtr c)) plain)).toNat) ∧
    (s.ctxState c = 3 →
      ∃ t, exec (.cipherUnitTx tn given) s = .next t ∧ Counted Cnt.EXH_IDLE_TX tn.val 0 1 s t ∧ t.flag Reg.TN_CIPH_STATUS_EXH_TX tn.val = true ∧ t.txCtr c = s.txCtr c)) ∧
  (∀ (tn : Fin 256) (h : BitVec 64) (marked : Bool) (s : State), s.ciphered tn.val = true → (s.cipherTn tn.val).rx = none →
    ∃ t, exec (.cipherUnitRx tn h marked) s = .next t ∧
      (s.flag Reg.TN_CIPH_STATUS_BLOCKED tn.val = true → Counted Cnt.BLOCKED_DISCARDS tn.val 0 1 s t) ∧
      (s.flag Reg.TN_CIPH_STATUS_BLOCKED tn.val = false → marked = false → bitsOf h.toNat 62 1 = 1 → Counted Cnt.EXH_IDLE_RX tn.val 0 1 s t) ∧
      (s.flag Reg.TN_CIPH_STATUS_BLOCKED tn.val = false → marked = true → Counted Cnt.DAMAGED_UNITS tn.val 0 1 s t ∧ t.flag Reg.CIPH_EVENTS_DAMAGED = true) ∧
      (s.flag Reg.TN_CIPH_STATUS_BLOCKED tn.val = false → marked = false → bitsOf h.toNat 62 1 = 0 → s.rxCtx tn.val (bitsOf h.toNat 63 1 == 1) = none →
        Counted Cnt.AUTH_FAILS tn.val 0 1 s t ∧ (s.flag Reg.TN_CIPHER_ON_FAIL tn.val = false → t.flag Reg.TN_CIPH_STATUS_BLOCKED tn.val = true)) ∧
      (∀ c, s.flag Reg.TN_CIPH_STATUS_BLOCKED tn.val = false → marked = false → bitsOf h.toNat 62 1 = 0 → s.rxCtx tn.val (bitsOf h.toNat 63 1 == 1) = some c →
        (s.fetchCtx c).ctxState c ≠ 3 →
        (h.toNat % ctrEnd ≤ s.rxLast c → Counted Cnt.REPLAYS tn.val 0 1 s t ∧
          (s.flag Reg.TN_CIPHER_ON_FAIL tn.val = false → t.flag Reg.TN_CIPH_STATUS_BLOCKED tn.val = true)) ∧
        (s.rxLast c < h.toNat % ctrEnd → t.cipherTn tn.val = { s.cipherTn tn.val with rx := some { cls := .open_, header := h, ctx := c } }))) ∧
  (∀ (tn : Fin 256) (ct : List Byte) (tag : BitVec 128) (pad : BitVec 7) (marked failed damaged : Bool) (u : RxUnit) (s : State), damaged = (marked || failed) →
    (s.cipherTn tn.val).rx = some u → u.cls = .open_ → u.ctx < 1024 → s.ciphered tn.val = true → s.attached u.ctx = true ∨ s.qState 6 u.ctx = 1 →
    ∃ t, exec (.cipherUnitEnd tn ct tag pad marked failed) s = .next t ∧ (t.cipherTn tn.val).rx = none ∧
      (tag = s.unitTag u.ctx (!s.flag Reg.CTX_STATUS_TX_DIR u.ctx) (bytesBe 8 u.header.toNat) ct →
        Counted Cnt.UNITS_OK tn.val 0 1 s t ∧ t.rxLast u.ctx = u.header.toNat % ctrEnd) ∧
      (tag ≠ s.unitTag u.ctx (!s.flag Reg.CTX_STATUS_TX_DIR u.ctx) (bytesBe 8 u.header.toNat) ct → t.rxLast u.ctx = s.rxLast u.ctx ∧
        (damaged = true → Counted Cnt.DAMAGED_UNITS tn.val 0 1 s t) ∧
        (damaged = false → Counted Cnt.AUTH_FAILS tn.val 0 1 s t ∧ t.flag Reg.CIPH_EVENTS_AUTH_FAIL = true ∧
          (s.flag Reg.TN_CIPHER_ON_FAIL tn.val = false → t.flag Reg.TN_CIPH_STATUS_BLOCKED tn.val = true)))) ∧
  (∀ (mb : Fin 8) (p key : List Byte) (s : State), s.request mb.val 0x0701 = some p → s.blocksOff = false → u16 p 0 < 512 → u16 p 2 < 512 → u8 p 4 = 1 ∨ u8 p 4 = 2 →
    s.k0Denied (u16 p 2) = false → s.isKek (u16 p 2) = true → s.get Reg.KS_STATUS_STATE (u16 p 0) = 0 →
    keyUnwrap (s.keySlot (u16 p 2)).key ((p.drop 8).take 40) = some key →
    (s.busLoads = false → ∃ t, exec (.keyImport mb) s = .next t ∧ Answered mb.val (okD (bytes 4 (kcv (key.take 32)))) s t ∧
      t.keySlot (u16 p 0) = { key := keyOf (key.take 32), hw := 0 } ∧ t.get Reg.KS_STATUS_STATE (u16 p 0) = u8 p 4 ∧ Counted Cnt.KEY_IMPORTS 0 0 1 s t) ∧
    (s.busLoads = true → ∃ t, exec (.keyImport mb) s = .next t ∧ RunsOn mb.val s t ∧ t.cip.bus = s.cip.bus ++ [{ activation := false, mb := some mb.val }])) ∧
  (∀ (mb : Fin 8) (p : List Byte) (s : State), s.request mb.val 0x070B = some p → s.blocksOff = false → s.busLoads = false →
    s.flag Reg.CTX_STATUS_KEY_VALID (u16 p 0) = true → s.k0Denied (s.get Reg.CTX_STATUS_KEY (u16 p 0)) = false →
    ∃ t, exec (.cipherVerify mb) s = .next t ∧ Counted Cnt.VERIFY_REQS 0 0 1 s t ∧
      Answered mb.val (okD [BitVec.ofNat 8 (b2n (BitVec.ofNat 128 (be 16 p 12) ==
        s.unitTag (u16 p 0) (!s.flag Reg.CTX_STATUS_TX_DIR (u16 p 0)) ((p.drop 4).take 8) (p.drop 28))), 0, 0, 0]) s t) ∧
  (∀ (x : KeyTransfer) (rest : List KeyTransfer) (s : State), s.cip.bus = x :: rest → s.cip.busSince + 832 ≤ s.clock →
    ∃ t, exec .keyTransferDone s = .next t ∧ t.cip.bus = rest ∧ t.cip.busSince = s.clock ∧
      (x.mb = none → RegsKept [] s t ∧ t.mbs = s.mbs) ∧
      (∀ mb, x.mb = some mb → (s.mbox mb).phase = .running → (s.mbox mb).opcode = 0x070B → Answered mb (s.verifyTag (s.mbox mb).payload).2 s t)) ∧
  (∀ (mb : Fin 8) (p : List Byte) (s : State), s.request mb.val 0x070A = some p → s.blocksOff = false →
    ∃ t, exec (.cipherUnblock mb) s = .next t ∧ Answered mb.val ok s t ∧ t.flag Reg.TN_CIPH_STATUS_BLOCKED (u8 p 0) = false ∧
      RegsKept [0x12014, Reg.TN_CIPH_STATUS_BLOCKED.addr (u8 p 0) 0] s t)

/-- Where the cipher is there, KEY_ERASE of a slot that is not in ROOT and that no context record references is answered OK: the slot is EMPTY,
its key is zeros, its check value is 0. For a slot in ROOT (state 3), or one with REFS not 0, it is answered DENIED and nothing else
happens. (R425) -/
def Obligations.KeyEraseEmptiesTheSlot : Prop :=
  (∀ (mb : Fin 8) (p : List Byte) (s : State), s.request mb.val 0x0702 = some p → s.blocksOff = false → u16 p 0 < 512 →
    (s.get Reg.KS_STATUS_STATE (u16 p 0) ≠ 3 → s.get Reg.KS_STATUS_REFS (u16 p 0) = 0 →
      ∃ t, exec (.keyErase mb) s = .next t ∧ Answered mb.val ok s t ∧ t.get Reg.KS_STATUS_STATE (u16 p 0) = 0 ∧ (t.keySlot (u16 p 0)).key = 0 ∧
        t.get Reg.KS_KCV_KCV (u16 p 0) = 0 ∧ ∀ k, k ≠ u16 p 0 → t.keySlot k = s.keySlot k) ∧
    (s.get Reg.KS_STATUS_STATE (u16 p 0) = 3 ∨ s.get Reg.KS_STATUS_REFS (u16 p 0) ≠ 0 →
      ∃ t, exec (.keyErase mb) s = .next t ∧ OnlyAnswered mb.val (err cDENIED) s t))

/-- For the codes of continuous codewords (a = 120, b = 256, n = 30,720) and of bursts (a = 60, b = 128, n = 7,680): the interleaver keeps the
length n, and sends in each position t below n the codeword's bit with index (t mod a) × b + floor(t / a); the deinterleaver gives the
codeword back. (R305) -/
def Obligations.InterleaverSendsRowsByColumns : Prop :=
  (∀ (c : Terrace) (a b : Nat) (cw : List Bool), (c = .line ∧ a = 120 ∧ b = 256) ∨ (c = .burst ∧ a = 60 ∧ b = 128) → cw.length = a * b →
    c.n = a * b ∧ (c.interleave cw).length = a * b ∧ (∀ t, t < a * b → (c.interleave cw)[t]? = cw[t % a * b + t / a]?) ∧ c.deinterleave (c.interleave cw) = cw)

/-- HOST_PORT_WORD_RX of a packet's first word adds it, at a full queue drops the packet and counts it twice, at a lane that is not running
discards and counts it. PACKET_ARRIVAL of blocks that carry a frame which passes every check counts it with its bytes, gives it the next
number and lets it wait; a runt is counted. PARSE_START takes a backwater packet first, once in a cycle, then the line, then the host lanes
round robin, at most four in a cycle; with no injector it is parsed under the configuration in force. PACKET_CLASSIFIED counts and moves it
to its domain's stage. ACTION_STAGE, in the domains' order, hands the next on; a DROP counts and forgets it. BACKWATER_REENTRY of an
unpoisoned packet that passes the checks gives it a new number and one more pass and lets it wait. The order of two domains' packets that
R493 lets go in one cycle is log entry 97. (spec/11_intake_parser.md, spec/13_sluice_engines.md, spec/21_test_security.md) -/
def Obligations.PacketsEnterParseAndAreClassified : Prop :=
  (∀ (tn : Fin 256) (taken : Nat) (last : Bool) (ws : List Nat) (s : State), s.flag Reg.TN_PKT_HOST_PORT tn.val = true → s.coherent = true →
    (s.portQueue tn.val).dropping = false → (s.portQueue tn.val).coming = false → ws = takeWords taken (s.portQueue tn.val).words →
    ∃ t, exec (.hostPortWordRx tn taken last) s = .next t ∧
      (s.running 4 (s.get Reg.TN_PKT_LANE tn.val) = true → ws.sum < 32 * (s.hostLanesOf tn.val).length →
        t.portQueue tn.val = { words := ws ++ [1], coming := !last, dropping := false } ∧ RegsKept [] s t) ∧
      (s.running 4 (s.get Reg.TN_PKT_LANE tn.val) = true → 32 * (s.hostLanesOf tn.val).length ≤ ws.sum →
        t.portQueue tn.val = { words := ws, coming := false, dropping := !last } ∧
        Counted Cnt.LANE_OVL_DROPS (s.get Reg.TN_PKT_LANE tn.val) 0 1 s t ∧ Counted Cnt.DROP_OVERLOAD tn.val 0 1 s t ∧ t.flag Reg.IN_EVENTS_OVERLOAD = true) ∧
      (s.running 4 (s.get Reg.TN_PKT_LANE tn.val) = false → t.portQueue tn.val = { words := ws, coming := false, dropping := !last } ∧
        Counted Cnt.LN_QUENCH_DISCARDS (s.get Reg.TN_PKT_LANE tn.val) 0 1 s t ∧ t.pk.pkts = s.pk.pkts)) ∧
  (∀ (tn : Fin 256) (arrived blocks : List (BitVec 66)) (last : BitVec 66) (marked : Bool) (frame : List Byte) (s : State), blocks = arrived ++ [last] → s.admits tn.val = true → s.heardFrame tn.val blocks = true →
    s.arriving tn.val blocks marked = (frame, false, false) →
    (s.frameCheck tn.val frame false false = none → ∃ t, exec (.packetArrival tn arrived last marked) s = .next t ∧
      Counted Cnt.RX_PKTS tn.val 0 1 s t ∧ Counted Cnt.RX_OCTETS tn.val 0 frame.length s t ∧
      t.pkt s.pk.next = some { data := frame, turnout := tn.val, orig := tn.val, num := (s.domain tn.val).next, arrival := s.clock, host := s.flag Reg.TN_PKT_HOST_PORT tn.val } ∧
      (t.domain tn.val).next = (s.domain tn.val).next + 1 ∧
      (s.flag Reg.TN_PKT_HOST_PORT tn.val = false → t.pk.lineWait = s.pk.lineWait ++ [s.pk.next] ∧ t.pk.hostWait = s.pk.hostWait) ∧
      (s.flag Reg.TN_PKT_HOST_PORT tn.val = true → t.pk.lineWait = s.pk.lineWait ∧
        tget [] t.pk.hostWait (s.get Reg.TN_PKT_LANE tn.val) = tget [] s.pk.hostWait (s.get Reg.TN_PKT_LANE tn.val) ++ [s.pk.next])) ∧
    (s.running 1 tn.val = true → frame.length < 64 → ∃ t, exec (.packetArrival tn arrived last marked) s = .next t ∧ Counted Cnt.DROP_RUNT tn.val 0 1 s t ∧
      t.pk.lineWait = s.pk.lineWait ∧ t.pk.hostWait = s.pk.hostWait ∧ t.pk.pkts = s.pk.pkts)) ∧
  (∀ (id starts bw : Nat) (rest : List Nat) (p : Pkt) (s : State), (starts, bw) = (if s.pk.startCycle = s.cycle then (s.pk.starts, s.pk.bwStarts) else (0, 0)) → starts < 4 →
    s.pkt id = some p → s.fiAt 1 p.turnout = none →
    (s.pk.bwWait = id :: rest → bw = 0 → ∃ t, exec .parseStart s = .next t ∧ t.pk.bwWait = rest ∧ t.pk.lineWait = s.pk.lineWait ∧ t.pk.hostWait = s.pk.hostWait ∧
      t.pk.parsing = s.pk.parsing ++ [id] ∧ t.pkt id = some (s.inspect p) ∧ t.pk.starts = starts + 1 ∧ t.pk.bwStarts = 1) ∧
    (s.pk.bwWait = [] ∨ bw ≠ 0 → s.pk.lineWait = id :: rest → ∃ t, exec .parseStart s = .next t ∧ t.pk.bwWait = s.pk.bwWait ∧ t.pk.lineWait = rest ∧
      t.pk.hostWait = s.pk.hostWait ∧ t.pk.parsing = s.pk.parsing ++ [id] ∧ t.pkt id = some (s.inspect p) ∧ t.pk.starts = starts + 1 ∧ t.pk.bwStarts = bw) ∧
    (∀ l, s.pk.bwWait = [] ∨ bw ≠ 0 → s.pk.lineWait = [] → s.nextHost = some l → tget [] s.pk.hostWait l = id :: rest →
      ∃ t, exec .parseStart s = .next t ∧ t.pk.bwWait = s.pk.bwWait ∧ t.pk.lineWait = [] ∧ tget [] t.pk.hostWait l = rest ∧ t.pk.lastLane = l ∧
        t.pk.parsing = s.pk.parsing ++ [id] ∧ t.pkt id = some (s.inspect p) ∧ t.pk.starts = starts + 1)) ∧
  (∀ (tn : Fin 256) (id : Nat) (p : Pkt) (s : State),
    s.pk.parsing.find? (fun id => match s.pkt id with | some p => p.turnout == tn.val | none => false) = some id → s.pkt id = some p →
    p.startedAt + p.cycles * 65 / 8 ≤ s.clock →
    ∃ t, exec (.packetClassified tn) s = .next t ∧ t.pk.parsing = s.pk.parsing.erase id ∧ Counted Cnt.PKTS_PARSED 0 0 1 s t ∧ id ∈ (t.domain tn.val).stage) ∧
  (∀ (tn : Fin 256) (id : Nat) (rest : List Nat) (p : Pkt) (s : State), (s.domain tn.val).held = [] → (s.domain tn.val).stage = id :: rest → s.pkt id = some p →
    s.stageTurn tn.val = true → p.turnout = tn.val → p.num = (s.domain tn.val).hand → p.pool = .none_ →
    ∃ t, exec (.actionStage tn) s = .next t ∧ (t.domain tn.val).stage = rest ∧ (t.domain tn.val).hand = (s.domain tn.val).hand + 1 ∧
      (p.gone = false → p.lenDrop = false → actVerb p.action = 1 → Counted Cnt.DROP_ACTION tn.val 0 1 s t ∧ t.pkt id = none)) ∧
  (∀ (id : Nat) (rest : List Nat) (p : Pkt) (s : State), s.pk.bwPool = id :: rest → s.pkt id = some p → p.pool = .backwater →
    ∃ t, exec .backwaterReentry s = .next t ∧ t.pk.bwPool = rest ∧
      ((s.readDesc id).1 = false → (∀ w, w < wordsFor p.data.length → Clean 1 (p.parcels.getD (w / 4) 0 / 32768) (4 * (p.parcels.getD (w / 4) 0 % 32768) + w % 4) s) →
        s.frameCheck (actTurnout p.action) p.data false false = none →
        t.pk.bwWait = s.pk.bwWait ++ [id] ∧ ∃ q, t.pkt id = some q ∧ q.data = p.data ∧ q.turnout = actTurnout p.action ∧ q.bwPass = p.bwPass + 1 ∧
          q.num = (s.domain (actTurnout p.action)).next ∧ q.tag = p.tag))

/-- HEADGATE_SELECT, at most four times in a cycle, turns to the next turnout with room, the line before the host lanes, each round robin, and
takes the head of the queue its selector picks; a packet whose descriptor reads goes to the egress. With no injector PACKET_EGRESS sends the
first packet there, counts it and returns its storage; where no word is poisoned byte for byte, as Clause 82 blocks (log entry 68). FLOW_ADD
changes the action of an entry it finds, else takes a place, else counts and answers EXHAUSTED; FLOW_DEL removes an entry; FLOW_GET reports
one, zeros but for the hash where there is none, and with CLEAR_HIT clears its HIT. CQ_RECEIVE returns the head of a host-owned control
queue under a fresh handle, zeros when empty, DENIED when not host-owned; CQ_RELEASE ends that packet, INVALID for an unknown handle.
(spec/12_headgate.md, spec/11_intake_parser.md) -/
def Obligations.QueuesEgressFlowsAndHostPackets : Prop :=
  (∀ (tn : Fin 256) (q id : Nat) (line wfq : Bool) (s : State), s.nextTurnout = some (tn.val, line) → s.selected tn.val = some (q, wfq) → s.headOf q = some id →
    (s.selectionsNow < 4 → ∃ t, exec (.headgateSelect tn) s = .next t ∧ t.queue q = (s.queue q).drop 1 ∧ (∀ k, k ≠ q → t.queue k = s.queue k) ∧
      t.pk.selections = s.selectionsNow + 1 ∧ t.pk.selCycle = s.cycle ∧
      (line = true → t.pk.rrLine = (tn.val + 1) % 256 ∧ t.pk.rrPort = s.pk.rrPort) ∧ (line = false → t.pk.rrPort = (tn.val + 1) % 256 ∧ t.pk.rrLine = s.pk.rrLine) ∧
      ((s.readDesc id).1 = false → tget [] t.pk.egress tn.val = tget [] s.pk.egress tn.val ++ [id] ∧ t.pk.pkts = s.pk.pkts)) ∧
    (4 ≤ s.selectionsNow → exec (.headgateSelect tn) s = .next s)) ∧
  (∀ (tn : Fin 256) (id : Nat) (rest : List Nat) (p : Pkt) (s : State), tget [] s.pk.egress tn.val = id :: rest → s.pkt id = some p → s.fiAt 0 tn.val = none →
    (∀ q, p.pool = .data q → q < 2048) →
    ∃ t, exec (.packetEgress tn) s = .next t ∧ tget [] t.pk.egress tn.val = rest ∧ t.pkt id = none ∧ Counted Cnt.TX_PKTS tn.val 0 1 s t ∧
      ((∀ w, w < wordsFor p.data.length → Clean 1 (p.parcels.getD (w / 4) 0 / 32768) (4 * (p.parcels.getD (w / 4) 0 % 32768) + w % 4) s) →
        tget [] t.pk.sent tn.val = p.data ∧ Counted Cnt.TX_OCTETS tn.val 0 p.data.length s t ∧
        (s.linePacket tn.val = true → t.egressBlocks tn.val = s.egressBlocks tn.val ++ clause82 p.data) ∧
        (s.linePacket tn.val = false → s.flag Reg.TN_PKT_HOST_PORT tn.val = true → tget [] t.tsi.ethWait tn.val = tget [] s.tsi.ethWait tn.val ++ clause82 p.data))) ∧
  (∀ (mb : Fin 8) (p : List Byte) (s : State), s.request mb.val 0x0615 = some p → s.blocksOff = false → keyStray (u8 p 0) (cmdKey p) = false →
    s.actionBad s.profile (u64 p 48) = false →
    (∀ i e, s.findFlow (u8 p 0) (cmdKey p) (s.cmdHash p) = some i → s.flowAt i = some e →
      ∃ t, exec (.flowAdd mb) s = .next t ∧ Answered mb.val (okD [2, 0, 0, 0]) s t ∧
        t.flowAt i = some { format := u8 p 0, key := cmdKey p, action := u64 p 48, hit := e.hit } ∧ ∀ k, k ≠ i → t.flowAt k = s.flowAt k) ∧
    (∀ i, s.findFlow (u8 p 0) (cmdKey p) (s.cmdHash p) = none → (s.placeFlow (s.cmdHash p)).2 = some i →
      ∃ t, exec (.flowAdd mb) s = .next t ∧ Answered mb.val (okD [1, 0, 0, 0]) s t ∧ t.flowAt i = some { format := u8 p 0, key := cmdKey p, action := u64 p 48 }) ∧
    (s.findFlow (u8 p 0) (cmdKey p) (s.cmdHash p) = none → (s.placeFlow (s.cmdHash p)).2 = none →
      ∃ t, exec (.flowAdd mb) s = .next t ∧ Answered mb.val (err cEXHAUSTED) s t ∧ Counted Cnt.FLOW_INSERT_FAILS 0 0 1 s t ∧ t.flag Reg.IN_EVENTS_FLOW_FULL = true ∧
        t.pk = s.pk)) ∧
  (∀ (mb : Fin 8) (p : List Byte) (s : State), s.request mb.val 0x0616 = some p → s.blocksOff = false → keyStray (u8 p 0) (cmdKey p) = false →
    (∀ i, s.findFlow (u8 p 0) (cmdKey p) (s.cmdHash p) = some i → ∃ t, exec (.flowDel mb) s = .next t ∧ Answered mb.val (okD [1, 0, 0, 0]) s t ∧
      t.flowAt i = none ∧ ∀ k, k ≠ i → t.flowAt k = s.flowAt k) ∧
    (s.findFlow (u8 p 0) (cmdKey p) (s.cmdHash p) = none → ∃ t, exec (.flowDel mb) s = .next t ∧ OnlyAnswered mb.val (okD [0, 0, 0, 0]) s t)) ∧
  (∀ (mb : Fin 8) (p : List Byte) (i : Nat) (e : FlowEntry) (s : State), s.request mb.val 0x0617 = some p → keyStray (u8 p 0) (cmdKey p) = false →
    s.findFlow (u8 p 0) (cmdKey p) (s.cmdHash p) = some i → s.flowAt i = some e →
    ∃ t, exec (.flowGet mb) s = .next t ∧ Answered mb.val (okD ([1, BitVec.ofNat 8 (b2n e.hit), 0, 0] ++ bytes 4 (s.cmdHash p) ++ bytes 8 e.action)) s t ∧
      t.flowAt i = some { e with hit := if u8 p 1 = 1 then false else e.hit } ∧ RegsKept [0x12014] s t) ∧
  (∀ (mb : Fin 8) (p : List Byte) (s : State), s.request mb.val 0x0617 = some p → keyStray (u8 p 0) (cmdKey p) = false → s.findFlow (u8 p 0) (cmdKey p) (s.cmdHash p) = none →
    ∃ t, exec (.flowGet mb) s = .next t ∧ OnlyAnswered mb.val (okD ([0, 0, 0, 0] ++ bytes 4 (s.cmdHash p) ++ bytes 8 0)) s t) ∧
  (∀ (mb : Fin 8) (p : List Byte) (s : State), s.request mb.val 0x0627 = some p → s.blocksOff = false → u8 p 0 < 64 →
    (s.flag Reg.CQ_CFG_OWNER (u8 p 0) = false → ∃ t, exec (.cqReceive mb) s = .next t ∧ OnlyAnswered mb.val (err cDENIED) s t) ∧
    (s.flag Reg.CQ_CFG_OWNER (u8 p 0) = true → s.headOf (2048 + u8 p 0) = none →
      ∃ t, exec (.cqReceive mb) s = .next t ∧ OnlyAnswered mb.val (okD (List.replicate 32 0)) s t) ∧
    (∀ id x, s.flag Reg.CQ_CFG_OWNER (u8 p 0) = true → s.headOf (2048 + u8 p 0) = some id → s.pkt id = some x → (s.readDesc id).1 = false →
      ∃ t, exec (.cqReceive mb) s = .next t ∧ Answered mb.val (okD (cqReply s.pk.nextHandle x)) s t ∧
        t.pk.received = s.pk.received ++ [(s.pk.nextHandle, id, u8 p 0)] ∧ t.queue (2048 + u8 p 0) = (s.queue (2048 + u8 p 0)).drop 1 ∧ t.pk.pkts = s.pk.pkts)) ∧
  (∀ (mb : Fin 8) (p : List Byte) (s : State), s.request mb.val 0x0628 = some p → s.blocksOff = false →
    (∀ r, s.pk.received.find? (fun r => r.1 == u32 p 0) = some r → ∃ t, exec (.cqRelease mb) s = .next t ∧ Answered mb.val ok s t ∧ t.pkt r.2.1 = none ∧
      t.pk.received = s.pk.received.filter (fun x => x.1 != u32 p 0) ∧ ∀ k, t.queue k = s.queue k) ∧
    (s.pk.received.find? (fun r => r.1 == u32 p 0) = none → ∃ t, exec (.cqRelease mb) s = .next t ∧ OnlyAnswered mb.val (err cINVALID) s t))

/-- Of a working lane: LANE_SIGNAL_DETECT goes from NO_SIGNAL to ADAPTING, LANE_ADAPT_LOCK at a sufficient SNR to LOCKED with its figures and
taps (free values, log entry 68), LANE_ADAPT_FAIL counts after 23 ms and begins again, LANE_LOCK_LOSS leaves LOCKED for ADAPTING and
LANE_SIGNAL_LOSS, where no loopback is set, for NO_SIGNAL, and each counts a loss. CTLE_STEP takes the bounded goal in ADAPTING and goes one
step toward it, once in 100 µs, in LOCKED. PORT_ALIGN aligns a port of locked lanes within 25.0 ns, PORT_ALIGN_LOSS ends it and counts. With
no injector RS_CODEWORD_RX counts codewords, corrected and not, and the 80 blocks that a stopped lane of an Ethernet client discards;
HI_SER_WINDOW judges 8,192 of them. (spec/15_serial_lanes.md) -/
def Obligations.LanesLockAndPortsAlign : Prop :=
  (∀ (l : Fin 24) (s : State), s.laneLive l.val = true →
    (s.rxState l.val = 1 → ∃ t, exec (.laneSignalDetect l) s = .next t ∧ t.rxState l.val = 2 ∧ t.flag Reg.LN_STATUS_SIG_DET l.val = true ∧
      (t.lane l.val).adaptAt = s.clock ∧ RegsKept [Reg.LN_STATUS_RX_STATE.addr l.val 0] s t) ∧
    (s.rxState l.val = 3 → s.looped l.val = false → ∃ t, exec (.laneSignalLoss l) s = .next t ∧ t.rxState l.val = 1 ∧ t.flag Reg.LN_STATUS_SIG_DET l.val = false ∧
      Counted Cnt.LN_LOCK_LOSSES l.val 0 1 s t ∧ t.flag Reg.LN_EVENTS_LOCK_LOST l.val = true ∧ t.get Reg.LN_FOM_SNR l.val = 0xFFFF) ∧
    (s.rxState l.val = 2 → s.looped l.val = false → ∃ t, exec (.laneSignalLoss l) s = .next t ∧ t.rxState l.val = 1 ∧ t.flag Reg.LN_STATUS_SIG_DET l.val = false ∧
      RegsKept [Reg.LN_STATUS_RX_STATE.addr l.val 0] s t) ∧
    (s.rxState l.val = 3 → ∃ t, exec (.laneLockLoss l) s = .next t ∧ t.rxState l.val = 2 ∧ Counted Cnt.LN_LOCK_LOSSES l.val 0 1 s t ∧
      t.flag Reg.LN_EVENTS_LOCK_LOST l.val = true ∧ t.get Reg.LN_FOM_SNR l.val = 0xFFFF ∧ (t.lane l.val).adaptAt = s.clock) ∧
    (s.rxState l.val = 2 → (s.lane l.val).adaptAt + 299000000 ≤ s.clock → ∃ t, exec (.laneAdaptFail l) s = .next t ∧ t.rxState l.val = 2 ∧
      Counted Cnt.ADAPT_FAILS l.val 0 1 s t ∧ t.lane l.val = { s.lane l.val with adaptAt := s.clock, taps := none })) ∧
  (∀ (l : Fin 24) (snr : Fin 65536) (low mid high : Fin 1024) (s : State), s.laneLive l.val = true → s.rxState l.val = 2 →
    (if nrz (s.laneRate l.val) then 1000 else 1400) ≤ snr.val →
    ∃ t, exec (.laneAdaptLock l snr low mid high) s = .next t ∧ t.rxState l.val = 3 ∧ t.flag Reg.LN_EVENTS_LOCK_GAINED l.val = true ∧ (t.lane l.val).taps.isSome = true ∧
      t.get Reg.LN_FOM_SNR l.val = snr.val ∧ t.get Reg.LN_EYE_EYE_MID l.val = mid.val ∧
      (nrz (s.laneRate l.val) = false → t.get Reg.LN_EYE_EYE_LO l.val = low.val ∧ t.get Reg.LN_EYE_EYE_HI l.val = high.val)) ∧
  (∀ (l : Fin 24) (best : Fin 256) (lo hi : Nat) (s : State), s.laneLive l.val = true → s.bounds 3 l.val = (Int.ofNat lo, Int.ofNat hi) → lo ≤ hi → hi < 256 →
    (s.rxState l.val = 2 → ∃ t, exec (.ctleStep l best) s = .next t ∧ t.get Reg.LN_FOM_CTLE l.val = max lo (min hi best.val)) ∧
    (s.rxState l.val = 3 → (s.lane l.val).ctleAt + 1300000 ≤ s.clock → ∃ t, exec (.ctleStep l best) s = .next t ∧ (t.lane l.val).ctleAt = s.clock ∧
      (s.get Reg.LN_FOM_CTLE l.val < max lo (min hi best.val) → t.get Reg.LN_FOM_CTLE l.val = s.get Reg.LN_FOM_CTLE l.val + 1) ∧
      (max lo (min hi best.val) < s.get Reg.LN_FOM_CTLE l.val → t.get Reg.LN_FOM_CTLE l.val + 1 = s.get Reg.LN_FOM_CTLE l.val))) ∧
  (∀ (l : Fin 16) (skew : Fin 256) (p : Nat × List Nat) (s : State), s.portAt l.val = some p → s.flag Reg.PORT_STATUS_ALIGNED l.val = false → s.portLocked p = true →
    skew.val ≤ 250 →
    ∃ t, exec (.portAlign l skew) s = .next t ∧ t.flag Reg.PORT_STATUS_ALIGNED l.val = true ∧ t.get Reg.PORT_STATUS_SKEW l.val = skew.val ∧
      RegsKept [Reg.PORT_STATUS_ALIGNED.addr l.val 0] s t) ∧
  (∀ (l : Fin 16) (markers : BitVec 8) (skew : Fin 256) (p : Nat × List Nat) (s : State), s.portAt l.val = some p → s.flag Reg.PORT_STATUS_ALIGNED l.val = true →
    markers.toNat % 2 ^ p.2.length + 1 ≠ 2 ^ p.2.length ∨ 250 < skew.val →
    ∃ t, exec (.portAlignLoss l markers skew) s = .next t ∧ t.flag Reg.PORT_STATUS_ALIGNED l.val = false ∧ t.flag Reg.LN_EVENTS_ALIGN_LOST l.val = true ∧
      Counted Cnt.ALIGN_LOSSES l.val 0 1 s t) ∧
  (∀ (l : Fin 16) (fixed : Option (Fin 16)) (s : State), (if s.orphanLane l.val then s.rxState l.val = 3 else s.flag Reg.PORT_STATUS_ALIGNED l.val = true ∧ (s.portAt l.val).isSome = true) →
    s.fiAt 3 l.val = none → (s.lane l.val).cws < 8192 →
    ∃ t, exec (.rsCodewordRx l fixed) s = .next t ∧ Counted Cnt.RS_CW l.val 0 1 s t ∧ (t.lane l.val).cws = (s.lane l.val).cws + 1 ∧
      (fixed = none → Counted Cnt.RS_UNCORR l.val 0 1 s t) ∧
      (s.running 4 l.val = false → ∀ tn, tn < 256 → s.get Reg.TN_CLIENT_KIND tn = 1 → l.val ∈ s.clientLanesOf tn → Counted Cnt.LN_QUENCH_DISCARDS l.val 0 80 s t) ∧
      (∀ n : Fin 16, fixed = some n → 0 < n.val → Counted Cnt.RS_CW_CORR l.val 0 1 s t ∧ Counted Cnt.RS_SYMB_CORR l.val 0 n.val s t ∧
        (t.lane l.val).symbs = (s.lane l.val).symbs + n.val)) ∧
  (∀ (l : Fin 16) (s : State), 8192 ≤ (s.lane l.val).cws →
    ∃ t, exec (.hiSerWindow l) s = .next t ∧ t.lane l.val = { s.lane l.val with cws := 0, symbs := 0 } ∧
      ((s.lane l.val).symbs ≤ s.get Reg.PORT_CFG_SER_THR l.val → t.flag Reg.PORT_STATUS_HI_SER l.val = false) ∧
      (s.get Reg.PORT_CFG_SER_THR l.val < (s.lane l.val).symbs → t.flag Reg.PORT_STATUS_HI_SER l.val = true ∧
        (s.flag Reg.PORT_STATUS_HI_SER l.val = false → Counted Cnt.HI_SER_EVENTS l.val 0 1 s t)))

/-- LANE_PSTATE with every lane of the port free to move runs on, each lane that is not there beginning its move; with none to move it is
answered OK at once. LANE_PSTATE_DONE enters L0 when the lane is LOCKED, L1 or L2 1 µs after its traffic is quenched or after the move from
another low state began, counts and sets its event. LANE_EXIT_TIMEOUT enters L0 all the same. PAT_LOCK follows the checker on a FORMAT 3
lane, its loss with an event. LANE_ERR_INJECT on a FORMAT 3 lane inverts one bit, starts or stops injecting; on another it is DENIED.
(spec/15_serial_lanes.md) -/
def Obligations.LanePowerStatesAndLaneTests : Prop :=
  (∀ (mb : Fin 8) (p : List Byte) (ls moving : List Nat) (s : State), s.request mb.val 0x0352 = some p → ls = maskList (u32 p 0) 24 → s.splitsPort ls = false →
    (∀ l ∈ ls, s.laneFormat l ≠ 0 ∧ s.qState 4 l ≠ 1 ∧ (s.lane l).move = none) → moving = ls.filter (fun l => s.pstate l != u8 p 4) →
    (moving = [] → ∃ t, exec (.lanePstate mb) s = .next t ∧ OnlyAnswered mb.val ok s t) ∧
    (moving ≠ [] → ∃ t, exec (.lanePstate mb) s = .next t ∧ RunsOn mb.val s t ∧ t.ln.reqs = s.ln.reqs ++ [{ mb := mb.val, left := moving }] ∧
      ∀ l ∈ moving, (t.lane l).move = some ⟨s.pstate l, u8 p 4, s.clock⟩)) ∧
  (∀ (l : Fin 24) (m : LaneMove) (s : State), (s.lane l.val).move = some m →
    (m.target = 0 → s.rxState l.val = 3 → ∃ t, exec (.lanePstateDone l) s = .next t ∧ t.pstate l.val = 0 ∧ (t.lane l.val).move = none ∧
      Counted Cnt.PSTATE_CHANGES l.val 0 1 s t ∧ t.flag Reg.LN_EVENTS_PSTATE_DONE l.val = true) ∧
    (m.target = 1 ∨ m.target = 2 → (if m.old = 0 then s.qState 4 l.val = 2 ∧ (s.lane l.val).quietAt + 13000 ≤ s.clock else m.t0 + 13000 ≤ s.clock) → ∃ t, exec (.lanePstateDone l) s = .next t ∧ t.pstate l.val = m.target ∧
      (t.lane l.val).move = none ∧ Counted Cnt.PSTATE_CHANGES l.val 0 1 s t ∧ t.flag Reg.LN_EVENTS_PSTATE_DONE l.val = true) ∧
    (m.target = 0 → m.old ≠ 2 ∨ s.rxState l.val ≠ 3 → m.t0 + (if m.old = 1 then 26000 else 325000000) ≤ s.clock →
      ∃ t, exec (.laneExitTimeout l) s = .next t ∧ t.pstate l.val = 0 ∧ (t.lane l.val).move = none ∧ Counted Cnt.PSTATE_CHANGES l.val 0 1 s t)) ∧
  (∀ (l : Fin 24) (s : State), s.laneFormat l.val = 3 → s.get Reg.LN_TEST_CHK_PAT l.val ≠ 0 → s.laneLive l.val = true →
    (s.flag Reg.LN_STATUS_PAT_LOCK l.val = false → s.rxState l.val = 3 → ∃ t, exec (.patLock l true) s = .next t ∧ t.flag Reg.LN_STATUS_PAT_LOCK l.val = true ∧
      RegsKept [Reg.LN_STATUS_PAT_LOCK.addr l.val 0] s t) ∧
    (s.flag Reg.LN_STATUS_PAT_LOCK l.val = true → ∃ t, exec (.patLock l false) s = .next t ∧ t.flag Reg.LN_STATUS_PAT_LOCK l.val = false ∧
      t.flag Reg.LN_EVENTS_PAT_LOCK_LOST l.val = true)) ∧
  (∀ (mb : Fin 8) (p : List Byte) (s : State), s.request mb.val 0x0353 = some p → u8 p 0 < 24 →
    (s.laneFormat (u8 p 0) ≠ 3 → ∃ t, exec (.laneErrInject mb) s = .next t ∧ OnlyAnswered mb.val (err cDENIED) s t) ∧
    (s.laneFormat (u8 p 0) = 3 → ∃ t, exec (.laneErrInject mb) s = .next t ∧ Answered mb.val ok s t ∧
      (u8 p 1 = 1 → t.lane (u8 p 0) = { s.lane (u8 p 0) with inverted := (s.lane (u8 p 0)).inverted + 1 } ∧ RegsKept [0x12014] s t) ∧
      (u8 p 1 = 2 → t.flag Reg.LN_STATUS_INJECTING (u8 p 0) = true ∧ (t.lane (u8 p 0)).inject = some (u8 p 2) ∧ (t.lane (u8 p 0)).injAt = 0) ∧
      (u8 p 1 = 0 → t.flag Reg.LN_STATUS_INJECTING (u8 p 0) = false ∧ (t.lane (u8 p 0)).inject = none)))

/-- A receiving timing lane decodes each 10-bit code by its running disparity (where it has none, and at a comma elsewhere, by the one that
makes the code valid: log entry 68); it counts wrong codes and disparities, and three equal commas with no bad character give SYNC; eight
bad characters in 256 end it; a comma elsewhere in SYNC counts a realignment. A mark in SYNC counts, shows MARK_SEEN and is valid after a
message since the last one; after 1.1 s without one MARK_SEEN clears. A right time message is held and counted, a wrong one counts an error;
the sender sends the next second's message at half a second. In module mode a failed source makes its transmitter fall back and 10 µs
without failure end it; inner lock is gained and lost; a level measurement of a LOCKED lane runs and is answered with ρ of its means, or
TIMEOUT where its lane left LOCKED. (spec/15_serial_lanes.md, spec/16_module_mode.md, spec/17_timing.md) -/
def Obligations.TimingLanesAndModuleMode : Prop :=
  (∀ (k : Fin 2) (code : BitVec 10) (same rd : Bool) (v : Nat) (s : State), s.flag Reg.TL_CFG_RX_EN k.val = true →
    v = (if s.flag Reg.TL_CFG_RX_INV k.val then 1023 - code.toNat else code.toNat) →
    rd = (match (if same then (s.tlane k.val).rxRd else none) with | some b => b | none => (decode10 false v).isNone) →
    ∃ t, exec (.tlCharacterRx k ⟨code, same⟩) s = .next t ∧ (t.tlane k.val).chars = (s.tlane k.val).chars + 1 ∧ (t.tlane k.val).rxRd = some (rdAfter rd v) ∧
      (∀ c, decode10 rd v = some c → RegsKept [] s t ∧ (t.tlane k.val).bad = (s.tlane k.val).bad.filter (fun n => (s.tlane k.val).chars + 1 < n + 256) ∧
        (c.isComma = false → (t.tlane k.val).commas = (s.tlane k.val).commas ∧ (t.tlane k.val).moved = (s.tlane k.val).moved) ∧
        (c.isComma = true → same = true → (t.tlane k.val).commas = (s.tlane k.val).commas + 1 ∧ (t.tlane k.val).moved = (s.tlane k.val).moved) ∧
        (c.isComma = true → same = false → s.flag Reg.TL_STATUS_SYNC k.val = false → (t.tlane k.val).commas = 1) ∧
        (c.isComma = true → same = false → s.flag Reg.TL_STATUS_SYNC k.val = true → (t.tlane k.val).moved = true)) ∧
      (decode10 rd v = none → (t.tlane k.val).commas = 0 ∧ (s.tlane k.val).chars + 1 ∈ (t.tlane k.val).bad ∧
        ((decode10 (!rd) v).isSome = false → Counted Cnt.CODE_ERRS k.val 0 1 s t) ∧ ((decode10 (!rd) v).isSome = true → Counted Cnt.DISP_ERRS k.val 0 1 s t))) ∧
  (∀ (k : Fin 2) (s : State), s.flag Reg.TL_CFG_RX_EN k.val = true → s.flag Reg.TL_STATUS_SYNC k.val = false → 3 ≤ (s.tlane k.val).commas →
    ∃ t, exec (.tlSyncGain k) s = .next t ∧ t.flag Reg.TL_STATUS_SYNC k.val = true ∧ t.tlane k.val = { s.tlane k.val with bad := [], moved := false }) ∧
  (∀ (k : Fin 2) (sig : Bool) (s : State), s.flag Reg.TL_STATUS_SYNC k.val = true →
    (8 ≤ (s.tlane k.val).bad.length → ∃ t, exec (.tlSyncLoss k sig) s = .next t ∧ t.flag Reg.TL_STATUS_SYNC k.val = false ∧ t.flag Reg.TL_STATUS_SIG_DET k.val = sig ∧
      Counted Cnt.SYNC_LOSSES k.val 0 1 s t ∧ t.flag Reg.TL_EVENTS_SYNC_LOST k.val = true) ∧
    ((s.tlane k.val).moved = true → ∃ t, exec (.tlRealign k) s = .next t ∧ (t.tlane k.val).moved = false ∧ Counted Cnt.REALIGNS k.val 0 1 s t ∧
      t.flag Reg.TL_EVENTS_REALIGN k.val = true)) ∧
  (∀ (k : Fin 2) (e : Fin 401) (s : State), s.flag Reg.TL_STATUS_SYNC k.val = true →
    ∃ t, exec (.tlMarkRx k e) s = .next t ∧ Counted Cnt.MARKS_RX k.val 0 1 s t ∧ t.flag Reg.TL_EVENTS_MARK k.val = true ∧ t.flag Reg.TL_STATUS_MARK_SEEN k.val = true ∧
      (t.tlane k.val).markAt = some s.clock ∧ ((s.tlane k.val).todAt = none → t.flag Reg.TL_STATUS_TOD_VALID k.val = false) ∧
      (∀ a, (s.tlane k.val).todAt = some a → a + 13000000 ≤ s.clock → (∀ m, (s.tlane k.val).markAt = some m → m ≤ a) → t.flag Reg.TL_STATUS_TOD_VALID k.val = true)) ∧
  (∀ (k : Fin 2) (data : List Byte) (closed : Bool) (s : State), s.flag Reg.TL_STATUS_SYNC k.val = true →
    (closed = true → data.length = 16 → todCrc data = be 2 data 14 → ∃ t, exec (.todMessageRx k data closed) s = .next t ∧ Counted Cnt.TOD_RX_OK k.val 0 1 s t ∧
      t.flag Reg.TL_EVENTS_TOD_RX k.val = true ∧ (t.tlane k.val).todAt = some s.clock ∧ ∀ w, w < 4 → t.get Reg.TOD_RX_BYTES k.val w = u32 data (4 * w)) ∧
    (closed = false ∨ data.length ≠ 16 ∨ todCrc data ≠ be 2 data 14 → ∃ t, exec (.todMessageRx k data closed) s = .next t ∧ Counted Cnt.TOD_ERRS k.val 0 1 s t ∧
      t.flag Reg.TL_EVENTS_TOD_ERR k.val = true ∧ t.ln = s.ln)) ∧
  (∀ (k : Fin 2) (m : List Byte) (s : State), s.flag Reg.TL_CFG_TX_EN k.val = true → s.flag Reg.TL_CFG_TOD_TX_EN k.val = true → (s.tlane k.val).sentFor ≠ some s.devSec →
    6500000000 ≤ s.devTime % 13000000000 →
    m = bytesBe 6 (s.devSec + 1) ++ bytesBe 2 (twos 16 (-(s.tlane k.val).frac)) ++ [BitVec.ofNat 8 s.dpll, BitVec.ofNat 8 s.qlOut, 0, 0] ++ bytesBe 2 (s.tlane k.val).seq →
    ∃ t, exec (.todMessageTx k) s = .next t ∧ (t.tlane k.val).sent = m ++ bytesBe 2 (todCrc m) ∧ (t.tlane k.val).seq = ((s.tlane k.val).seq + 1) % 65536 ∧
      (t.tlane k.val).sentFor = some s.devSec ∧ RegsKept [] s t) ∧
  (∀ (k : Fin 2) (m : Nat) (s : State), (s.tlane k.val).markAt = some m → s.flag Reg.TL_STATUS_MARK_SEEN k.val = true → m + 14300000000 ≤ s.clock →
    ∃ t, exec (.markSeenTimeout k) s = .next t ∧ t.flag Reg.TL_STATUS_MARK_SEEN k.val = false ∧ RegsKept [Reg.TL_STATUS_MARK_SEEN.addr k.val 0] s t) ∧
  (∀ (m : Fin 8) (host : Bool) (s : State),
    (s.modLane m.val = true → s.flag (fallbackBit host) (16 + m.val) = false → s.sourceFailed m.val host = true →
      ∃ t, exec (.moduleFallback m host) s = .next t ∧ t.flag (fallbackBit host) (16 + m.val) = true ∧ Counted Cnt.TX_FALLBACKS (16 + m.val) 0 1 s t ∧
        t.flag Reg.MOD_EVENTS_FALLBACK (16 + m.val) = true) ∧
    (s.flag (fallbackBit host) (16 + m.val) = true → s.sourceFailed m.val host = false → s.sourceGood m.val host + 130000 ≤ s.clock →
      ∃ t, exec (.moduleFallbackEnd m host) s = .next t ∧ t.flag (fallbackBit host) (16 + m.val) = false ∧ RegsKept [(fallbackBit host).addr (16 + m.val) 0] s t)) ∧
  (∀ (m : Fin 8) (s : State),
    (s.flag Reg.MOD_STATUS_INNER_LOCK (16 + m.val) = true → ∃ t, exec (.innerLockLoss m) s = .next t ∧ t.flag Reg.MOD_STATUS_INNER_LOCK (16 + m.val) = false ∧
      Counted Cnt.INNER_LOCK_LOSSES (16 + m.val) 0 1 s t ∧ t.flag Reg.MOD_EVENTS_INNER_LOCK_LOST (16 + m.val) = true) ∧
    (s.flag Reg.MOD_STATUS_INNER_LOCK (16 + m.val) = false → s.modLane m.val = true → s.laneRate (16 + m.val) = 9 → s.rxState (16 + m.val) = 3 →
      ∃ t, exec (.innerLockGain m) s = .next t ∧ t.flag Reg.MOD_STATUS_INNER_LOCK (16 + m.val) = true ∧ (t.lane (16 + m.val)).goodAt = s.clock)) ∧
  (∀ (mb : Fin 8) (p : List Byte) (s : State), s.request mb.val 0x0362 = some p → s.ln.measure = none → s.modLane (u8 p 0) = true → s.rxState (16 + u8 p 0) = 3 →
    ∃ t, exec (.modLevelMeasure mb) s = .next t ∧ RunsOn mb.val s t ∧ t.ln.measure = some { mb := mb.val, lane := 16 + u8 p 0, n := u8 p 1, start := s.clock } ∧ RegsKept [] s t) ∧
  (∀ (m0 m1 : Fin 65536) (x : ModMeasure) (s : State), s.ln.measure = some x → (s.mbox x.mb).phase = .running →
    (x.lost = false → x.start + s.measureTime x ≤ s.clock →
      ∃ t, exec (.modMeasureDone (m0, m1)) s = .next t ∧ t.ln.measure = none ∧ Answered x.mb (okD (bytes 2 (levelRho (m0.val, m1.val)) ++ [0, 0])) s t ∧
        t.flag Reg.MOD_EVENTS_MEASURE_DONE x.lane = true) ∧
    (x.lost = true → ∃ t, exec (.modMeasureDone (m0, m1)) s = .next t ∧ t.ln.measure = none ∧ Answered x.mb (err cTIMEOUT) s t ∧ t.flag Reg.MOD_EVENTS_MEASURE_DONE x.lane = true))

/-- REF_ACTIVITY_LOSS clears ACTIVE and QUALIFIED; REF_ACTIVITY_RETURN sets ACTIVE and starts gate and qualification. FREQ_GATE_END shows the
offset and disqualifies beyond REJECT. REF_QUALIFY sets QUALIFIED. DPLL_LOCK after 2 s enters LOCKED while its reference is the best.
HISTORY_OK at 60 s of LOCKED time sets HISTORY_OK and HO_OFS. HOLDOVER_EXPIRE enters state 4 and counts. Of a pulse input two edges one
period apart give PRESENT, an edge in the window re-centres, the third of three edges outside it one period apart re-centres and counts, a
miss counts and the third ends PRESENT. TIME_STEP adds its nanoseconds, TIME_SET waits for the second; both are DENIED while TIME_SRC is not
0. TIME_SECOND_BOUNDARY counts the marks sent. (spec/17_timing.md) -/
def Obligations.ReferencesDpllAndDeviceTime : Prop :=
  (∀ (r : Fin 4) (s : State),
    (s.flag Reg.REF_STATUS_ACTIVE r.val = true → ∃ t, exec (.refActivityLoss r) s = .next t ∧ t.flag Reg.REF_STATUS_ACTIVE r.val = false ∧
      t.get Reg.REF_OFS_OFS r.val = 0x80000000 ∧ t.flag Reg.REF_STATUS_QUALIFIED r.val = false ∧
      (s.flag Reg.REF_STATUS_QUALIFIED r.val = true → Counted Cnt.DISQUALS r.val 0 1 s t)) ∧
    (s.flag Reg.REF_STATUS_ACTIVE r.val = false → ∃ t, exec (.refActivityReturn r) s = .next t ∧ t.flag Reg.REF_STATUS_ACTIVE r.val = true ∧
      t.refMon r.val = { gateAt := s.clock, from_ := s.clock } ∧ RegsKept [Reg.REF_STATUS_ACTIVE.addr r.val 0] s t)) ∧
  (∀ (r : Fin 7) (ofs : Int) (s : State), s.flag Reg.REF_STATUS_ACTIVE r.val = true → (s.refMon r.val).gateAt + s.gateLen r.val ≤ s.clock →
    ∃ t, exec (.freqGateEnd r ofs) s = .next t ∧ t.get Reg.REF_OFS_OFS r.val = twos 32 ofs ∧ (t.refMon r.val).gateAt = s.clock ∧
      (s.flag Reg.REF_STATUS_QUALIFIED r.val = true → 10 * s.get Reg.DPLL_LIMITS_REJECT < (sint 32 (twos 32 ofs)).natAbs →
        t.flag Reg.REF_STATUS_QUALIFIED r.val = false ∧ Counted Cnt.DISQUALS r.val 0 1 s t) ∧
      ((sint 32 (twos 32 ofs)).natAbs ≤ 10 * s.get Reg.DPLL_LIMITS_REJECT → t.flag Reg.REF_STATUS_QUALIFIED r.val = s.flag Reg.REF_STATUS_QUALIFIED r.val)) ∧
  (∀ (r : Fin 7) (s : State), s.flag Reg.REF_STATUS_ACTIVE r.val = true → s.flag Reg.REF_STATUS_QUALIFIED r.val = false → (s.refMon r.val).ok = true →
    (s.refMon r.val).from_ + 13000000000 * s.get Reg.REF_CFG_QUAL_S r.val ≤ s.clock →
    ∃ t, exec (.refQualify r) s = .next t ∧ t.flag Reg.REF_STATUS_QUALIFIED r.val = true ∧ t.get Reg.REF_STATUS_QUAL_LEFT r.val = 0) ∧
  (∀ s : State, s.dpll = 1 → s.tim.acqAt + 26000000000 ≤ s.clock → s.bestRef = some s.selRef →
    ∃ t, exec .dpllLock s = .next t ∧ t.dpll = 2 ∧ t.flag Reg.DPLL_STATUS_SWITCHING = false ∧ t.tim.lockedAt = some s.clock ∧ t.flag Reg.TIM_EVENTS_STATE_CHANGE = true) ∧
  (∀ s : State, s.flag Reg.DPLL_STATUS_HISTORY_OK = false → 780000000000 ≤ s.gather.tim.gathered →
    ∃ t, exec .historyOk s = .next t ∧ t.flag Reg.DPLL_STATUS_HISTORY_OK = true ∧ t.get Reg.HO_OFS_OFS = twos 32 s.gather.holdFreq) ∧
  (∀ (t0 : Nat) (s : State), s.tim.hoStart = some t0 → s.dpll = 3 → t0 + 13000000000 * s.get Reg.HO_CFG_HO_SPEC_S ≤ s.clock →
    ∃ t, exec .holdoverExpire s = .next t ∧ t.dpll = 4 ∧ Counted Cnt.LOST_ENTRIES 0 0 1 s t ∧ t.flag Reg.TIM_EVENTS_LOST = true ∧ t.tim.hoStart = none) ∧
  (∀ (i : Fin 2) (p : Nat) (s : State), s.flag Reg.FPI_CFG_EN i.val = true → p = pulsePeriod (s.get Reg.FPI_CFG_PERIOD i.val) →
    (s.flag Reg.FPI_STATUS_PRESENT i.val = false → (s.fpi i.val).edges.any (fun a => onePeriod p a s.clock) = true →
      ∃ t, exec (.fpiEdge i) s = .next t ∧ t.flag Reg.FPI_STATUS_PRESENT i.val = true ∧ t.fpi i.val = { fly := some s.clock }) ∧
    (s.flag Reg.FPI_STATUS_PRESENT i.val = false → (s.fpi i.val).edges.any (fun a => onePeriod p a s.clock) = false →
      ∃ t, exec (.fpiEdge i) s = .next t ∧ t.fpi i.val = { s.fpi i.val with edges := recent p 1 s.clock (s.fpi i.val).edges ++ [s.clock] } ∧ RegsKept [] s t) ∧
    (∀ f, s.flag Reg.FPI_STATUS_PRESENT i.val = true → (s.fpi i.val).fly = some f → onePeriod p f s.clock = true →
      ∃ t, exec (.fpiEdge i) s = .next t ∧ t.fpi i.val = { fly := some s.clock } ∧ t.flag Reg.FPI_STATUS_PRESENT i.val = true) ∧
    (∀ f, s.flag Reg.FPI_STATUS_PRESENT i.val = true → (s.fpi i.val).fly = some f → onePeriod p f s.clock = false →
      ∃ t, exec (.fpiEdge i) s = .next t ∧ t.flag Reg.FPI_STATUS_PRESENT i.val = true ∧
        ((s.fpi i.val).outs.any (fun b => onePeriod p b s.clock && (s.fpi i.val).outs.any (fun a => onePeriod p a b)) = true →
          t.fpi i.val = { fly := some s.clock } ∧ Counted Cnt.FPI_REALIGNS i.val 0 1 s t) ∧
        ((s.fpi i.val).outs.any (fun b => onePeriod p b s.clock && (s.fpi i.val).outs.any (fun a => onePeriod p a b)) = false →
          t.fpi i.val = { s.fpi i.val with outs := recent p 2 s.clock (s.fpi i.val).outs ++ [s.clock] } ∧ RegsKept [] s t))) ∧
  (∀ (i : Fin 2) (p f : Nat) (s : State), p = pulsePeriod (s.get Reg.FPI_CFG_PERIOD i.val) → (s.fpi i.val).fly = some f → s.flag Reg.FPI_STATUS_PRESENT i.val = true →
    f + p + pulseWindow p < s.clock →
    ∃ t, exec (.fpiMiss i) s = .next t ∧ t.fpi i.val = { s.fpi i.val with fly := some (f + p), run := (s.fpi i.val).run + 1 } ∧ Counted Cnt.FPI_MISSES i.val 0 1 s t ∧
      (2 ≤ (s.fpi i.val).run → t.flag Reg.FPI_STATUS_PRESENT i.val = false ∧ t.flag Reg.TIM_EVENTS_FPI_LOSS = true) ∧
      ((s.fpi i.val).run < 2 → t.flag Reg.FPI_STATUS_PRESENT i.val = true)) ∧
  (∀ (mb : Fin 8) (p : List Byte) (s : State), s.request mb.val 0x0807 = some p →
    (s.get Reg.TIME_CFG_TIME_SRC = 0 → ∃ t, exec (.timeStep mb) s = .next t ∧ Answered mb.val ok s t ∧ t.timeOff = s.timeOff + 13 * sint 64 (u64 p 0) ∧
      Counted Cnt.TIME_STEPS 0 0 1 s t ∧ t.flag Reg.TIM_EVENTS_TIME_STEP = true) ∧
    (s.get Reg.TIME_CFG_TIME_SRC ≠ 0 → ∃ t, exec (.timeStep mb) s = .next t ∧ OnlyAnswered mb.val (err cDENIED) s t)) ∧
  (∀ (mb : Fin 8) (p : List Byte) (s : State), s.request mb.val 0x0808 = some p →
    (s.get Reg.TIME_CFG_TIME_SRC = 0 → ∃ t, exec (.timeSet mb) s = .next t ∧ RunsOn mb.val s t ∧ t.tim.sets = s.tim.sets ++ [(mb.val, le 6 p 0)] ∧ RegsKept [] s t) ∧
    (s.get Reg.TIME_CFG_TIME_SRC ≠ 0 → ∃ t, exec (.timeSet mb) s = .next t ∧ OnlyAnswered mb.val (err cDENIED) s t)) ∧
  (∀ s : State, s.tim.second < s.devSec →
    ∃ t, exec .timeSecondBoundary s = .next t ∧ t.tim.sets = [] ∧ (∀ k : Fin 2, s.flag Reg.TL_CFG_TX_EN k.val = true → Counted Cnt.MARKS_TX k.val 0 1 s t) ∧
      (s.tim.sets = [] → t.tim.second = s.devSec ∧ t.timeOff = s.timeOff) ∧
      (∀ mb v, s.tim.sets = [(mb, v)] → (s.mbox mb).phase = .running → Answered mb ok s t ∧
        t.timeOff = s.timeOff + 13000000000 * (Int.ofNat v - Int.ofNat s.devSec)))

/-- A trigger, by the timer, the local multiframe or GAUGE_TRIGGER, starts a sequence of the scanned channels, is held pending, or is dropped
and counted. GAUGE_CONVERSION_END adds its code, at an input beyond the range the end code, to its channel's accumulator and trackers and
goes on; of an urgent conversion it answers the command. GAUGE_SEQUENCE_END counts, sets its event and starts a pending trigger.
GAUGE_URGENT runs at once on an idle converter, else is BUSY and counted. GAUGE_READ returns, and with CLEAR restarts, the channels named.
TAP_ARM arms an idle tap whose source runs; the capture starts at its trigger and ends with 16,384 samples, filtered from the source's words
(half-band taps: log entry 77), and its time. GPIO_EDGE shows the level and latches the edge that EDGE selects. (spec/19_monitoring.md,
spec/18_control.md) -/
def Obligations.GaugeTapAndPinEdges : Prop :=
  (∀ s : State, s.flag Reg.GAUGE_CFG_EN = true → (s.get Reg.GAUGE_CFG_TRIG_SRC = 0 ∧ s.gau.lastTrig + 13000 * s.get Reg.GAUGE_CFG_SEQ_PERIOD_US ≤ s.clock) ∨
      (s.get Reg.GAUGE_CFG_TRIG_SRC = 1 ∧ s.frm.started = true ∧ s.gau.lastTrig < s.frm.lastMf) →
    ∃ t, exec .gaugeTimerTrigger s = .next t ∧ t.gau.lastTrig = s.clock ∧
      (s.gaugeBusy = false → t.gaugeBusy = true ∧ t.gau.chans = maskList (s.get Reg.SCAN_MASK_MASK) 32 ∧ t.gau.start = s.clock ∧ t.gau.urgent = none) ∧
      (s.gaugeBusy = true → s.flag Reg.GAUGE_STATUS_PENDING = false → t.flag Reg.GAUGE_STATUS_PENDING = true ∧ t.gau.chans = s.gau.chans) ∧
      (s.gaugeBusy = true → s.flag Reg.GAUGE_STATUS_PENDING = true → Counted Cnt.TRIG_DROPS 0 0 1 s t ∧ t.flag Reg.GAUGE_EVENTS_TRIG_DROP = true)) ∧
  (∀ (mb : Fin 8) (p : List Byte) (s : State), s.request mb.val 0x0142 = some p →
    (s.flag Reg.GAUGE_CFG_EN = false → ∃ t, exec (.gaugeTrigger mb) s = .next t ∧ OnlyAnswered mb.val (err cDENIED) s t) ∧
    (s.flag Reg.GAUGE_CFG_EN = true → s.gaugeBusy = false → ∃ t, exec (.gaugeTrigger mb) s = .next t ∧ Answered mb.val (okD [1, 0, 0, 0]) s t ∧ t.gaugeBusy = true ∧
      t.gau.chans = maskList (s.get Reg.SCAN_MASK_MASK) 32) ∧
    (s.flag Reg.GAUGE_CFG_EN = true → s.gaugeBusy = true → s.flag Reg.GAUGE_STATUS_PENDING = false →
      ∃ t, exec (.gaugeTrigger mb) s = .next t ∧ Answered mb.val (okD [2, 0, 0, 0]) s t ∧ t.flag Reg.GAUGE_STATUS_PENDING = true) ∧
    (s.flag Reg.GAUGE_CFG_EN = true → s.gaugeBusy = true → s.flag Reg.GAUGE_STATUS_PENDING = true →
      ∃ t, exec (.gaugeTrigger mb) s = .next t ∧ Answered mb.val (err cBUSY) s t ∧ Counted Cnt.TRIG_DROPS 0 0 1 s t)) ∧
  (∀ (code : Fin 4096) (beyond : Option Bool) (c v : Nat) (rest : List Nat) (s : State), s.gau.chans = c :: rest → c < 32 → s.gau.start + 13000 ≤ s.clock →
    v = (match beyond with | none => code.val | some true => 0xFFF | some false => 0) →
    ∃ t, exec (.gaugeConversionEnd code beyond) s = .next t ∧ t.get Reg.MINMAX_MIN c = min v (s.get Reg.MINMAX_MIN c) ∧
      t.get Reg.MINMAX_MAX c = max v (s.get Reg.MINMAX_MAX c) ∧
      (s.flag Reg.ACC_STATUS_FULL c = false → s.get Reg.ACC_STATUS_N c < 0xFFFFF → t.get Reg.ACC_STATUS_N c = s.get Reg.ACC_STATUS_N c + 1 ∧
        t.get Reg.ACC_SUM_SUM c = (s.get Reg.ACC_SUM_SUM c + v) % 2 ^ 32) ∧
      (s.gau.urgent = none → t.gau.chans = rest ∧ t.gau.start = s.clock) ∧
      (∀ mb, s.gau.urgent = some mb → (s.mbox mb).phase = .running → Answered mb (okD (bytes 2 v ++ [BitVec.ofNat 8 (b2n beyond.isSome), 0])) s t)) ∧
  (∀ s : State, s.gaugeBusy = true → s.gau.chans = [] →
    ∃ t, exec .gaugeSequenceEnd s = .next t ∧ Counted Cnt.SEQUENCES 0 0 1 s t ∧ t.flag Reg.GAUGE_EVENTS_SEQ_DONE = true ∧ t.flag Reg.GAUGE_STATUS_PENDING = false ∧
      t.gaugeBusy = s.flag Reg.GAUGE_STATUS_PENDING) ∧
  (∀ (mb : Fin 8) (p : List Byte) (s : State), s.request mb.val 0x0143 = some p → s.flag Reg.GAUGE_CFG_EN = true →
    (s.gaugeBusy = false → ∃ t, exec (.gaugeUrgent mb) s = .next t ∧ RunsOn mb.val s t ∧ t.gau = { s.gau with chans := [u8 p 0], start := s.clock, urgent := some mb.val } ∧
      t.gaugeBusy = true) ∧
    (s.gaugeBusy = true → ∃ t, exec (.gaugeUrgent mb) s = .next t ∧ Answered mb.val (err cBUSY) s t ∧ Counted Cnt.URGENT_DROPS 0 0 1 s t ∧
      t.flag Reg.GAUGE_EVENTS_URGENT_DROP = true ∧ t.gau = s.gau)) ∧
  (∀ (mb : Fin 8) (p : List Byte) (s : State), s.request mb.val 0x0144 = some p →
    ∃ t, exec (.gaugeRead mb) s = .next t ∧
      Answered mb.val (okD ((maskList (u32 p 0) 32).flatMap (fun c => wordBytes [s.reg (0x30404 + 0x10 * c), s.reg (0x30408 + 0x10 * c), s.reg (0x3040C + 0x10 * c)]))) s t ∧
      (u8 p 4 ≠ 1 → RegsKept [0x12014] s t) ∧
      (u8 p 4 = 1 → ∀ c ∈ maskList (u32 p 0) 32, t.reg (0x30404 + 0x10 * c) = 0 ∧ t.reg (0x30408 + 0x10 * c) = 0 ∧ t.reg (0x3040C + 0x10 * c) = 0xFFF)) ∧
  (∀ (mb : Fin 8) (p : List Byte) (s : State), s.request mb.val 0x0146 = some p →
    (s.flag Reg.TAP_STATUS_ARMED = true ∨ s.flag Reg.TAP_STATUS_CAPTURING = true → ∃ t, exec (.tapArm mb) s = .next t ∧ OnlyAnswered mb.val (err cBUSY) s t) ∧
    (s.flag Reg.TAP_STATUS_ARMED = false → s.flag Reg.TAP_STATUS_CAPTURING = false → s.tapAbsent = false →
      ∃ t, exec (.tapArm mb) s = .next t ∧ Answered mb.val ok s t ∧ t.flag Reg.TAP_STATUS_ARMED = true ∧
        t.tap = { hit := if s.get Reg.TAP_CFG_TRIG = 0 then some (s.clock, s.devTime) else none })) ∧
  (∀ s : State, s.flag Reg.TAP_STATUS_ARMED = true → s.tap.hit ≠ none →
    ∃ t, exec .tapCaptureStart s = .next t ∧ t.flag Reg.TAP_STATUS_ARMED = false ∧ t.flag Reg.TAP_STATUS_CAPTURING = true ∧
      RegsKept [Reg.TAP_STATUS_ARMED.addr 0 0] s t ∧ t.tap = s.tap) ∧
  (∀ (runIn words buf : List (BitVec 64)) (sat t0 d k : Nat) (s : State), k = s.get Reg.TAP_CFG_STAGES → s.tap.hit = some (t0, d) → s.flag Reg.TAP_STATUS_CAPTURING = true →
    runIn.length = 22 * (2 ^ k - 1) → words.length = 16383 * 2 ^ k + 4 → t0 + 16384 * 13000000 / max 1 s.tapOut ≤ s.clock → s.tapCapture (runIn ++ words) = (buf, sat) →
    ∃ t, exec (.tapCaptureDone runIn words) s = .next t ∧ t.tap = { hit := none, buf := buf } ∧ t.flag Reg.TAP_STATUS_CAPTURING = false ∧
      t.flag Reg.TAP_STATUS_DONE = true ∧ t.get Reg.TAP_STATUS_FILL = 16384 ∧ t.flag Reg.TAP_EVENTS_DONE = true ∧
      (k = 0 → t.get Reg.TAP_T0_T 0 0 = d / 13 % 2 ^ 32 ∧ t.get Reg.TAP_T0_T 0 1 = d / 13 / 2 ^ 32 % 2 ^ 32) ∧
      (0 < sat → Counted Cnt.TAP_SAT 0 0 sat s t ∧ t.flag Reg.TAP_EVENTS_SAT = true)) ∧
  (∀ (pin : Fin 16) (level : Bool) (s : State), s.pinLevel pin.val ≠ level →
    ∃ t, exec (.gpioEdge pin level) s = .next t ∧ t.pinLevel pin.val = level ∧
      (s.get Reg.GPIO_CFG_EDGE pin.val = 3 ∨ s.get Reg.GPIO_CFG_EDGE pin.val = (if level then 1 else 2) → bitsOf (t.get Reg.GPIO_EVENTS_EDGE) pin.val 1 = 1))

/-- SAMPLE_TAG tags the candidate of an armed sampler; SAMPLE_RECORD_WRITE appends the record, or at a full buffer loses the newest or with WRAP
the oldest. PERF_CLEAR zeroes the counters named; PERF_SAMPLE_READ removes the oldest. TEST_CHALLENGE opens a challenge, which ends after 60
s. TEST_UNLOCK by a right password or vendor response enters the level, at level 3 erasing the keys, by a wrong one counts and blocks at the
third failure; a response uses up the challenge. TEST_LOCK returns to level 0, stops injectors and disarms. OTP_PROGRAM runs on, its
verified end is answered. SELFTEST_RUN runs on, of KIND 1 with its lateral held and quenched; SELFTEST_DONE shows the result. FI_START takes
the lowest free injector; FI_STOP, FI_TIMEOUT end one; FI_REORDER_IDLE lets its unit go. (spec/20_performance_counters.md,
spec/21_test_security.md) -/
def Obligations.SamplesTestAccessAndInjectors : Prop :=
  (∀ (k : Fin 32) (a : Nat) (c : Nat × Task) (s : State), (s.sampler k.val).tag = none → (s.sampler k.val).armedAt = some a → s.samplerOn k.val = true →
    s.tagCandidate k.val a = some c →
    ∃ t, exec (.sampleTag k) s = .next t ∧ t.sampler k.val = { s.sampler k.val with tag := some (s.newTag k.val c), armedAt := none } ∧ RegsKept [] s t) ∧
  (∀ (k : Fin 32) (g : SampTag) (s : State), (s.sampler k.val).tag = some g → g.exc = true ∨ g.discard = true ∨ (∃ c, g.fin = some c ∧ c ≤ s.latNow k.val) →
    ∃ t, exec (.sampleRecordWrite k) s = .next t ∧ (t.sampler k.val).tag = none ∧
      (s.perf.records.length < 1024 → t.perf.records = s.perf.records ++ [g.record] ∧ Counted Cnt.SAMPLES_TAKEN 0 0 1 s t) ∧
      (1024 ≤ s.perf.records.length → s.flag Reg.PERF_SAMPLE_CFG_WRAP = false → t.perf.records = s.perf.records ∧ Counted Cnt.SAMPLES_LOST 0 0 1 s t) ∧
      (1024 ≤ s.perf.records.length → s.flag Reg.PERF_SAMPLE_CFG_WRAP = true → t.perf.records = s.perf.records.drop 1 ++ [g.record] ∧
        Counted Cnt.SAMPLES_LOST 0 0 1 s t ∧ Counted Cnt.SAMPLES_TAKEN 0 0 1 s t)) ∧
  (∀ (mb : Fin 8) (p : List Byte) (s : State), s.request mb.val 0x0152 = some p →
    (u32 p 0 = 0 → bitsOf (u8 p 4) 0 1 = 0 → ∃ t, exec (.perfClear mb) s = .next t ∧ OnlyAnswered mb.val { code := cINVALID, index := 1 } s t) ∧
    (u32 p 0 ≠ 0 ∨ bitsOf (u8 p 4) 0 1 = 1 → ∃ t, exec (.perfClear mb) s = .next t ∧ Answered mb.val ok s t ∧
      (bitsOf (u8 p 4) 0 1 = 1 → ∀ i, i < 8 → t.reg (Cnt.DC.addr i 0) = 0 ∧ t.reg (Cnt.DC.addr i 0 + 4) = 0) ∧
      (∀ k ∈ maskList (u32 p 0) 32, ∀ j, j < 4 → t.reg (Cnt.LC.addr k j) = 0 ∧ t.reg (Cnt.LC.addr k j + 4) = 0))) ∧
  (∀ (mb : Fin 8) (p : List Byte) (s : State), s.request mb.val 0x0153 = some p →
    ∃ t, exec (.perfSampleRead mb) s = .next t ∧ t.perf.records = s.perf.records.drop (u8 p 0) ∧
      Answered mb.val (okD (bytes 1 (s.perf.records.take (u8 p 0)).length ++ bytes 2 (s.perf.records.drop (u8 p 0)).length ++ [0] ++
        (s.perf.records.take (u8 p 0)).flatMap wordBytes)) s t) ∧
  (∀ (mb : Fin 8) (p : List Byte) (s : State), s.request mb.val 0x0A01 = some p → s.flag Reg.TEST_STATUS_UNLOCK_BLOCKED = false → s.test.otp.vendorDisable = false →
    ∃ t n, exec (.testChallenge mb) s = .next t ∧ n.length = 32 ∧ Answered mb.val (okD (n ++ uidBytes)) s t ∧ t.test.nonce = some (n, s.clock) ∧
      t.flag Reg.TEST_STATUS_CHAL_VALID = true) ∧
  (∀ (n : List Byte) (t0 : Nat) (s : State), s.test.nonce = some (n, t0) → t0 + 780000000000 ≤ s.clock →
    ∃ t, exec .challengeExpire s = .next t ∧ t.test.nonce = none ∧ t.flag Reg.TEST_STATUS_CHAL_VALID = false ∧ RegsKept [Reg.TEST_STATUS_CHAL_VALID.addr 0 0] s t) ∧
  (∀ (mb : Fin 8) (p : List Byte) (good : Bool) (s : State), s.request mb.val 0x0A02 = some p → s.flag Reg.TEST_STATUS_UNLOCK_BLOCKED = false →
    u8 p 1 = 1 ∨ (∀ i, u8 p 2 ≤ i → i < 96 → u8 p (4 + i) = 0) → s.get Reg.TEST_STATUS_LEVEL < u8 p 0 → ¬(s.test.otp.debugDisable = true ∧ 2 ≤ u8 p 0) →
    ¬(s.test.otp.vendorDisable = true ∧ u8 p 1 = 1) → (u8 p 0 = 3 → s.quiet = true) →
    good = (if u8 p 1 = 1 then s.vendorOk (u8 p 0) (p.drop 4) else s.passwordOk (u8 p 0) ((p.drop 4).take (u8 p 2))) →
    (good = true → ∃ t, exec (.testUnlock mb) s = .next t ∧ Answered mb.val ok s t ∧ t.get Reg.TEST_STATUS_LEVEL = u8 p 0 ∧
      t.flag Reg.TEST_EVENTS_LEVEL_CHANGE = true ∧ (u8 p 1 = 1 → t.test.nonce = none) ∧
      (u8 p 0 = 3 → t.test.k0Refused = true ∧ ∀ k, k < 511 → t.get Reg.KS_STATUS_STATE (k + 1) = 0)) ∧
    (good = false → ∃ t, exec (.testUnlock mb) s = .next t ∧ Answered mb.val (err cDENIED) s t ∧
      Counted Cnt.UNLOCK_FAILS 0 0 1 s t ∧ t.test.fails = s.test.fails + 1 ∧ t.get Reg.TEST_STATUS_LEVEL = s.get Reg.TEST_STATUS_LEVEL ∧
      (u8 p 1 = 1 → t.test.nonce = none) ∧ (2 ≤ s.test.fails → t.flag Reg.TEST_STATUS_UNLOCK_BLOCKED = true))) ∧
  (∀ (mb : Fin 8) (p : List Byte) (s : State), s.request mb.val 0x0A03 = some p →
    ∃ t, exec (.testLock mb) s = .next t ∧ Answered mb.val ok s t ∧ t.get Reg.TEST_STATUS_LEVEL = 0 ∧ (∀ i, i < 8 → t.injector i = none) ∧
      t.flag Reg.FLIP_STATUS_ARMED = false ∧ (s.get Reg.TEST_STATUS_LEVEL ≠ 0 → t.flag Reg.TEST_EVENTS_LEVEL_CHANGE = true)) ∧
  (∀ (mb : Fin 8) (p : List Byte) (s : State), s.request mb.val 0x0A05 = some p → s.get Reg.TEST_STATUS_LEVEL ≠ 0 → s.test.write = none →
    s.test.otp.written (u8 p 0) = false →
    ∃ t, exec (.otpProgram mb) s = .next t ∧ RunsOn mb.val s t ∧ t.test.write = some ⟨mb.val, u8 p 0, (p.drop 4).take 32, s.clock⟩ ∧ RegsKept [] s t) ∧
  (∀ (w : OtpWrite) (s : State), s.test.write = some w → w.start + 260000000 ≤ s.clock → (s.mbox w.mb).phase = .running →
    ∃ t, exec (.otpWriteDone true) s = .next t ∧ t.test.write = none ∧ Answered w.mb ok s t ∧ (w.field = 1 → t.test.otp.rootKey = some w.value) ∧
      (w.field = 2 → t.test.otp.pwHash = some w.value) ∧ (w.field = 3 → t.flag Reg.TEST_STATUS_DEBUG_DISABLE = true) ∧
      (w.field = 4 → t.flag Reg.TEST_STATUS_VENDOR_DISABLE = true)) ∧
  (∀ (mb : Fin 8) (p : List Byte) (s : State), s.request mb.val 0x0A10 = some p → u8 p 0 = 2 ∨ u8 p 0 = 3 → s.test.selfTest = none → s.changing = false →
    s.blocksOff = false → s.quiet = true →
    ∃ t, exec (.selftestRun mb) s = .next t ∧ RunsOn mb.val s t ∧ t.test.selfTest = some ⟨mb.val, u8 p 0, u8 p 1, some s.clock⟩ ∧
      t.flag Reg.TEST_STATUS_ST_RUN = true ∧ RegsKept [Reg.TEST_STATUS_ST_RUN.addr 0 0] s t) ∧
  (∀ (mb : Fin 8) (p : List Byte) (k : Nat) (s : State), s.request mb.val 0x0A10 = some p → u8 p 0 = 1 → k = u8 p 1 → s.test.selfTest = none → s.changing = false →
    s.blocksOff = false → (∀ j, j < 32 → s.flag Reg.LAT_STATUS_HELD j = false) → (s.latsIn 0).filter (fun j => j ≠ k) ≠ [] →
    fwNeed s.mode ≤ ((s.latsIn 1).filter (fun j => j ≠ k)).length → s.qState 2 k ≠ 1 →
    ∃ t, exec (.selftestRun mb) s = .next t ∧ RunsOn mb.val s t ∧ t.flag Reg.LAT_STATUS_HELD k = true ∧ t.flag Reg.TEST_STATUS_ST_RUN = true ∧
      t.test.selfTest = some ⟨mb.val, 1, k, if s.qState 2 k = 2 then some s.clock else none⟩ ∧ (s.qState 2 k = 0 → t.qState 2 k = 1)) ∧
  (∀ (failed : Bool) (words : Nat) (mem : Fin 14) (inst : Fin 512) (first : BitVec 32) (x : SelfTest) (t0 : Nat) (s : State), s.test.selfTest = some x →
    x.start = some t0 → 1 ≤ x.kind → x.kind ≤ 3 → t0 + (if x.kind = 1 then 39000000 else if x.kind = 2 then 0 else 650000000) ≤ s.clock →
    ∃ t, exec (.selftestDone failed words mem inst first) s = .next t ∧ t.test.selfTest = none ∧ t.flag Reg.TEST_EVENTS_ST_DONE = true ∧
      t.get Reg.ST_RESULT_KIND = x.kind ∧ t.flag Reg.ST_RESULT_FAIL = failed ∧ (failed = true → t.flag Reg.TEST_EVENTS_ST_FAIL = true)) ∧
  (∀ (mb : Fin 8) (p : List Byte) (i : Nat) (s : State), s.request mb.val 0x0A20 = some p → s.get Reg.TEST_STATUS_LEVEL ≠ 0 → ¬(u8 p 3 = 0 ∧ u64 p 8 = 0) →
    s.fiBad (u8 p 0) (u8 p 1) (u8 p 2) = false → s.fiAt (u8 p 0) (u8 p 1) = none → i < 8 → s.injector i = none → (∀ k, k < i → s.injector k ≠ none) →
    ∃ t, exec (.fiStart mb) s = .next t ∧ Answered mb.val (okD (bytes 4 i)) s t ∧ Counted Cnt.FI_STARTS 0 0 1 s t ∧ t.flag Reg.TEST_STATUS_FI_ACTIVE = true ∧
      t.injector i = some { point := u8 p 0, target := u8 p 1, action := u8 p 2, n := u8 p 3, periodic := u8 p 4 == 1, count := u64 p 8, depth := u8 p 5, timeoutS := u16 p 6, start := s.clock }) ∧
  (∀ (mb : Fin 8) (p : List Byte) (s : State), s.request mb.val 0x0A21 = some p →
    ∃ t, exec (.fiStop mb) s = .next t ∧ Answered mb.val ok s t ∧ (u8 p 0 < 8 → t.injector (u8 p 0) = none) ∧ (u8 p 0 = 0xFF → ∀ i, i < 8 → t.injector i = none)) ∧
  (∀ (i : Fin 8) (x : Injector) (s : State), s.injector i.val = some x →
    (x.start + 13000000000 * x.timeoutS ≤ s.clock → ∃ t, exec (.fiTimeout i) s = .next t ∧ t.injector i.val = none ∧ t.flag Reg.TEST_EVENTS_FI_END = true) ∧
    (∀ h, x.held = some h → h.last + 130000 ≤ s.clock → ∃ t, exec (.fiReorderIdle i) s = .next t ∧
      t.injector i.val = if x.spent then none else some { x with held := none }))
end

