-- ==== Sys2Proof/Laws/Bits.lean ====
section
/-! SUPPORT. Fields of a number: reading back what was put, and the bits beside it. -/

namespace Sys2Proof.Machine

theorem bitsOf_lt (v lo w : Nat) : bitsOf v lo w < 2 ^ w := Nat.mod_lt _ (Nat.two_pow_pos w)

/-- A number as its bits above a field, the field, the bits below it. -/
theorem split_field (v lo w : Nat) : v = v / 2 ^ (lo + w) * 2 ^ (lo + w) + bitsOf v lo w * 2 ^ lo + v % 2 ^ lo := by
  have h1 := Nat.div_add_mod v (2 ^ lo)
  have h2 := Nat.div_add_mod (v / 2 ^ lo) (2 ^ w)
  rw [Nat.div_div_eq_div_mul, ← Nat.pow_add] at h2
  calc v = 2 ^ lo * (v / 2 ^ lo) + v % 2 ^ lo := h1.symm
    _ = 2 ^ lo * (2 ^ w * (v / 2 ^ (lo + w)) + v / 2 ^ lo % 2 ^ w) + v % 2 ^ lo := by rw [h2]
    _ = _ := by
      unfold bitsOf
      rw [Nat.pow_add, Nat.mul_add, Nat.mul_comm (2 ^ lo) (v / 2 ^ lo % 2 ^ w), ← Nat.mul_assoc, Nat.mul_comm (2 ^ lo * 2 ^ w)]

/-- What `putBits` makes of a number in those parts. -/
theorem putBits_parts (v lo w x : Nat) :
    putBits v lo w x = v / 2 ^ (lo + w) * 2 ^ (lo + w) + x % 2 ^ w * 2 ^ lo + v % 2 ^ lo := by
  have h := split_field v lo w
  unfold putBits
  generalize v / 2 ^ (lo + w) * 2 ^ (lo + w) = a at *
  generalize bitsOf v lo w * 2 ^ lo = b at *
  generalize x % 2 ^ w * 2 ^ lo = c at *
  generalize v % 2 ^ lo = d at *
  omega

theorem parts_div (lo w h m l : Nat) (hl : l < 2 ^ lo) : (h * 2 ^ (lo + w) + m * 2 ^ lo + l) / 2 ^ lo = h * 2 ^ w + m := by
  have e : h * 2 ^ (lo + w) + m * 2 ^ lo + l = l + 2 ^ lo * (h * 2 ^ w + m) := by
    rw [Nat.pow_add, Nat.mul_add, Nat.mul_comm (2 ^ lo) m, Nat.mul_left_comm (2 ^ lo) h]
    omega
  rw [e, Nat.add_mul_div_left _ _ (Nat.two_pow_pos lo), Nat.div_eq_of_lt hl, Nat.zero_add]

theorem parts_mod (lo w h m l : Nat) (hl : l < 2 ^ lo) : (h * 2 ^ (lo + w) + m * 2 ^ lo + l) % 2 ^ lo = l := by
  have e : h * 2 ^ (lo + w) + m * 2 ^ lo + l = l + 2 ^ lo * (h * 2 ^ w + m) := by
    rw [Nat.pow_add, Nat.mul_add, Nat.mul_comm (2 ^ lo) m, Nat.mul_left_comm (2 ^ lo) h]
    omega
  rw [e, Nat.add_mul_mod_self_left, Nat.mod_eq_of_lt hl]

/-- The field reads back what was put. -/
theorem bitsOf_putBits_self (v lo w x : Nat) : bitsOf (putBits v lo w x) lo w = x % 2 ^ w := by
  rw [putBits_parts]
  unfold bitsOf
  rw [parts_div lo w _ _ _ (Nat.mod_lt _ (Nat.two_pow_pos lo)), Nat.mul_comm, Nat.mul_add_mod, Nat.mod_mod]

/-- The bits above the field stay. -/
theorem putBits_div (v lo w x : Nat) : putBits v lo w x / 2 ^ (lo + w) = v / 2 ^ (lo + w) := by
  rw [Nat.pow_add, ← Nat.div_div_eq_div_mul, ← Nat.div_div_eq_div_mul, putBits_parts,
    parts_div lo w _ _ _ (Nat.mod_lt _ (Nat.two_pow_pos lo)), Nat.div_div_eq_div_mul, ← Nat.pow_add]
  rw [Nat.add_comm, Nat.add_mul_div_right _ _ (Nat.two_pow_pos w), Nat.div_eq_of_lt (Nat.mod_lt _ (Nat.two_pow_pos w)), Nat.zero_add]

/-- The bits below the field stay. -/
theorem putBits_mod (v lo w x : Nat) : putBits v lo w x % 2 ^ lo = v % 2 ^ lo := by
  rw [putBits_parts, parts_mod lo w _ _ _ (Nat.mod_lt _ (Nat.two_pow_pos lo))]

/-- A field above is left. -/
theorem bitsOf_putBits_above (v lo w x lo' w' : Nat) (h : lo + w ≤ lo') : bitsOf (putBits v lo w x) lo' w' = bitsOf v lo' w' := by
  unfold bitsOf
  obtain ⟨k, rfl⟩ := Nat.exists_eq_add_of_le h
  rw [Nat.pow_add _ (lo + w) k, ← Nat.div_div_eq_div_mul, ← Nat.div_div_eq_div_mul, putBits_div]

/-- A field below is left. -/
theorem bitsOf_putBits_below (v lo w x lo' w' : Nat) (h : lo' + w' ≤ lo) : bitsOf (putBits v lo w x) lo' w' = bitsOf v lo' w' := by
  have key : ∀ u : Nat, bitsOf u lo' w' = bitsOf (u % 2 ^ lo) lo' w' := by
    intro u
    unfold bitsOf
    obtain ⟨k, rfl⟩ := Nat.exists_eq_add_of_le h
    rw [show lo' + w' + k = lo' + (w' + k) by omega, Nat.pow_add _ lo', Nat.mod_mul_right_div_self, Nat.pow_add, Nat.mod_mul_right_mod]
  rw [key (putBits v lo w x), key v, putBits_mod]

/-- Fields that do not meet. -/
theorem bitsOf_putBits_ne (v lo w x lo' w' : Nat) (h : lo + w ≤ lo' ∨ lo' + w' ≤ lo) :
    bitsOf (putBits v lo w x) lo' w' = bitsOf v lo' w' :=
  h.elim (bitsOf_putBits_above v lo w x lo' w') (bitsOf_putBits_below v lo w x lo' w')

/-- Putting a field of a word gives a word. -/
theorem putBits_lt (v lo w x n : Nat) (hv : v < 2 ^ n) (h : lo + w ≤ n) : putBits v lo w x < 2 ^ n := by
  have hd : putBits v lo w x / 2 ^ n = 0 := by
    obtain ⟨k, rfl⟩ := Nat.exists_eq_add_of_le h
    rw [Nat.pow_add, ← Nat.div_div_eq_div_mul, putBits_div, Nat.div_div_eq_div_mul, ← Nat.pow_add, Nat.div_eq_of_lt hv]
  exact (Nat.div_eq_zero_iff.1 hd).resolve_left (by have := Nat.two_pow_pos n; omega)

end Sys2Proof.Machine
end

