-- ==== Sys2Proof/Laws/State.lean ====
section
/-! SUPPORT. What a write of a register word, a field or a mailbox leaves: one lemma for each other field of the state; and that the other writers leave the registers. -/

namespace Sys2Proof.Machine

@[simp] theorem setReg_pending (s : State) (a : Nat) (v : Word) : (s.setReg a v).pending = s.pending := rfl
@[simp] theorem set_pending (s : State) (f : Field) (v i j : Nat) : (s.set f v i j).pending = s.pending := rfl
@[simp] theorem setReg_clock (s : State) (a : Nat) (v : Word) : (s.setReg a v).clock = s.clock := rfl
@[simp] theorem set_clock (s : State) (f : Field) (v i j : Nat) : (s.set f v i j).clock = s.clock := rfl
@[simp] theorem setReg_timeOff (s : State) (a : Nat) (v : Word) : (s.setReg a v).timeOff = s.timeOff := rfl
@[simp] theorem set_timeOff (s : State) (f : Field) (v i j : Nat) : (s.set f v i j).timeOff = s.timeOff := rfl
@[simp] theorem setReg_fresh (s : State) (a : Nat) (v : Word) : (s.setReg a v).fresh = s.fresh := rfl
@[simp] theorem set_fresh (s : State) (f : Field) (v i j : Nat) : (s.set f v i j).fresh = s.fresh := rfl
@[simp] theorem setReg_ifs (s : State) (a : Nat) (v : Word) : (s.setReg a v).ifs = s.ifs := rfl
@[simp] theorem set_ifs (s : State) (f : Field) (v i j : Nat) : (s.set f v i j).ifs = s.ifs := rfl
@[simp] theorem setReg_mbs (s : State) (a : Nat) (v : Word) : (s.setReg a v).mbs = s.mbs := rfl
@[simp] theorem set_mbs (s : State) (f : Field) (v i j : Nat) : (s.set f v i j).mbs = s.mbs := rfl
@[simp] theorem setReg_nextTxn (s : State) (a : Nat) (v : Word) : (s.setReg a v).nextTxn = s.nextTxn := rfl
@[simp] theorem set_nextTxn (s : State) (f : Field) (v i j : Nat) : (s.set f v i j).nextTxn = s.nextTxn := rfl
@[simp] theorem setReg_lastServed (s : State) (a : Nat) (v : Word) : (s.setReg a v).lastServed = s.lastServed := rfl
@[simp] theorem set_lastServed (s : State) (f : Field) (v i j : Nat) : (s.set f v i j).lastServed = s.lastServed := rfl
@[simp] theorem setReg_nextOrder (s : State) (a : Nat) (v : Word) : (s.setReg a v).nextOrder = s.nextOrder := rfl
@[simp] theorem set_nextOrder (s : State) (f : Field) (v i j : Nat) : (s.set f v i j).nextOrder = s.nextOrder := rfl
@[simp] theorem setReg_logs (s : State) (a : Nat) (v : Word) : (s.setReg a v).logs = s.logs := rfl
@[simp] theorem set_logs (s : State) (f : Field) (v i j : Nat) : (s.set f v i j).logs = s.logs := rfl
@[simp] theorem setReg_msix (s : State) (a : Nat) (v : Word) : (s.setReg a v).msix = s.msix := rfl
@[simp] theorem set_msix (s : State) (f : Field) (v i j : Nat) : (s.set f v i j).msix = s.msix := rfl
@[simp] theorem setReg_opt (s : State) (a : Nat) (v : Word) : (s.setReg a v).opt = s.opt := rfl
@[simp] theorem set_opt (s : State) (f : Field) (v i j : Nat) : (s.set f v i j).opt = s.opt := rfl
@[simp] theorem setReg_sys (s : State) (a : Nat) (v : Word) : (s.setReg a v).sys = s.sys := rfl
@[simp] theorem set_sys (s : State) (f : Field) (v i j : Nat) : (s.set f v i j).sys = s.sys := rfl
@[simp] theorem setReg_conv (s : State) (a : Nat) (v : Word) : (s.setReg a v).conv = s.conv := rfl
@[simp] theorem set_conv (s : State) (f : Field) (v i j : Nat) : (s.set f v i j).conv = s.conv := rfl
@[simp] theorem setReg_rx (s : State) (a : Nat) (v : Word) : (s.setReg a v).rx = s.rx := rfl
@[simp] theorem set_rx (s : State) (f : Field) (v i j : Nat) : (s.set f v i j).rx = s.rx := rfl
@[simp] theorem setReg_burst (s : State) (a : Nat) (v : Word) : (s.setReg a v).burst = s.burst := rfl
@[simp] theorem set_burst (s : State) (f : Field) (v i j : Nat) : (s.set f v i j).burst = s.burst := rfl
@[simp] theorem setReg_self (s : State) (a : Nat) (v : Word) : (s.setReg a v).self = s.self := rfl
@[simp] theorem set_self (s : State) (f : Field) (v i j : Nat) : (s.set f v i j).self = s.self := rfl
@[simp] theorem setReg_tx (s : State) (a : Nat) (v : Word) : (s.setReg a v).tx = s.tx := rfl
@[simp] theorem set_tx (s : State) (f : Field) (v i j : Nat) : (s.set f v i j).tx = s.tx := rfl
@[simp] theorem setReg_fec (s : State) (a : Nat) (v : Word) : (s.setReg a v).fec = s.fec := rfl
@[simp] theorem set_fec (s : State) (f : Field) (v i j : Nat) : (s.set f v i j).fec = s.fec := rfl
@[simp] theorem setReg_frm (s : State) (a : Nat) (v : Word) : (s.setReg a v).frm = s.frm := rfl
@[simp] theorem set_frm (s : State) (f : Field) (v i j : Nat) : (s.set f v i j).frm = s.frm := rfl
@[simp] theorem setReg_tsi (s : State) (a : Nat) (v : Word) : (s.setReg a v).tsi = s.tsi := rfl
@[simp] theorem set_tsi (s : State) (f : Field) (v i j : Nat) : (s.set f v i j).tsi = s.tsi := rfl
@[simp] theorem setReg_pk (s : State) (a : Nat) (v : Word) : (s.setReg a v).pk = s.pk := rfl
@[simp] theorem set_pk (s : State) (f : Field) (v i j : Nat) : (s.set f v i j).pk = s.pk := rfl
@[simp] theorem setReg_hg (s : State) (a : Nat) (v : Word) : (s.setReg a v).hg = s.hg := rfl
@[simp] theorem set_hg (s : State) (f : Field) (v i j : Nat) : (s.set f v i j).hg = s.hg := rfl
@[simp] theorem setReg_eng (s : State) (a : Nat) (v : Word) : (s.setReg a v).eng = s.eng := rfl
@[simp] theorem set_eng (s : State) (f : Field) (v i j : Nat) : (s.set f v i j).eng = s.eng := rfl
@[simp] theorem setReg_perf (s : State) (a : Nat) (v : Word) : (s.setReg a v).perf = s.perf := rfl
@[simp] theorem set_perf (s : State) (f : Field) (v i j : Nat) : (s.set f v i j).perf = s.perf := rfl
@[simp] theorem setReg_cip (s : State) (a : Nat) (v : Word) : (s.setReg a v).cip = s.cip := rfl
@[simp] theorem set_cip (s : State) (f : Field) (v i j : Nat) : (s.set f v i j).cip = s.cip := rfl
@[simp] theorem setReg_ln (s : State) (a : Nat) (v : Word) : (s.setReg a v).ln = s.ln := rfl
@[simp] theorem set_ln (s : State) (f : Field) (v i j : Nat) : (s.set f v i j).ln = s.ln := rfl
@[simp] theorem setReg_tim (s : State) (a : Nat) (v : Word) : (s.setReg a v).tim = s.tim := rfl
@[simp] theorem set_tim (s : State) (f : Field) (v i j : Nat) : (s.set f v i j).tim = s.tim := rfl
@[simp] theorem setReg_gau (s : State) (a : Nat) (v : Word) : (s.setReg a v).gau = s.gau := rfl
@[simp] theorem set_gau (s : State) (f : Field) (v i j : Nat) : (s.set f v i j).gau = s.gau := rfl
@[simp] theorem setReg_tap (s : State) (a : Nat) (v : Word) : (s.setReg a v).tap = s.tap := rfl
@[simp] theorem set_tap (s : State) (f : Field) (v i j : Nat) : (s.set f v i j).tap = s.tap := rfl
@[simp] theorem setReg_mem (s : State) (a : Nat) (v : Word) : (s.setReg a v).mem = s.mem := rfl
@[simp] theorem set_mem (s : State) (f : Field) (v i j : Nat) : (s.set f v i j).mem = s.mem := rfl
@[simp] theorem setReg_test (s : State) (a : Nat) (v : Word) : (s.setReg a v).test = s.test := rfl
@[simp] theorem set_test (s : State) (f : Field) (v i j : Nat) : (s.set f v i j).test = s.test := rfl
@[simp] theorem setReg_power (s : State) (a : Nat) (v : Word) : (s.setReg a v).power = s.power := rfl
@[simp] theorem set_power (s : State) (f : Field) (v i j : Nat) : (s.set f v i j).power = s.power := rfl
@[simp] theorem setMbox_pending (s : State) (mb : Nat) (m : Mailbox) : (s.setMbox mb m).pending = s.pending := rfl
@[simp] theorem setMbox_clock (s : State) (mb : Nat) (m : Mailbox) : (s.setMbox mb m).clock = s.clock := rfl
@[simp] theorem setMbox_timeOff (s : State) (mb : Nat) (m : Mailbox) : (s.setMbox mb m).timeOff = s.timeOff := rfl
@[simp] theorem setMbox_fresh (s : State) (mb : Nat) (m : Mailbox) : (s.setMbox mb m).fresh = s.fresh := rfl
@[simp] theorem setMbox_regs (s : State) (mb : Nat) (m : Mailbox) : (s.setMbox mb m).regs = s.regs := rfl
@[simp] theorem setMbox_ifs (s : State) (mb : Nat) (m : Mailbox) : (s.setMbox mb m).ifs = s.ifs := rfl
@[simp] theorem setMbox_nextTxn (s : State) (mb : Nat) (m : Mailbox) : (s.setMbox mb m).nextTxn = s.nextTxn := rfl
@[simp] theorem setMbox_nextOrder (s : State) (mb : Nat) (m : Mailbox) : (s.setMbox mb m).nextOrder = s.nextOrder := rfl
@[simp] theorem setMbox_logs (s : State) (mb : Nat) (m : Mailbox) : (s.setMbox mb m).logs = s.logs := rfl
@[simp] theorem setMbox_msix (s : State) (mb : Nat) (m : Mailbox) : (s.setMbox mb m).msix = s.msix := rfl
@[simp] theorem setMbox_opt (s : State) (mb : Nat) (m : Mailbox) : (s.setMbox mb m).opt = s.opt := rfl
@[simp] theorem setMbox_sys (s : State) (mb : Nat) (m : Mailbox) : (s.setMbox mb m).sys = s.sys := rfl
@[simp] theorem setMbox_conv (s : State) (mb : Nat) (m : Mailbox) : (s.setMbox mb m).conv = s.conv := rfl
@[simp] theorem setMbox_rx (s : State) (mb : Nat) (m : Mailbox) : (s.setMbox mb m).rx = s.rx := rfl
@[simp] theorem setMbox_burst (s : State) (mb : Nat) (m : Mailbox) : (s.setMbox mb m).burst = s.burst := rfl
@[simp] theorem setMbox_self (s : State) (mb : Nat) (m : Mailbox) : (s.setMbox mb m).self = s.self := rfl
@[simp] theorem setMbox_tx (s : State) (mb : Nat) (m : Mailbox) : (s.setMbox mb m).tx = s.tx := rfl
@[simp] theorem setMbox_fec (s : State) (mb : Nat) (m : Mailbox) : (s.setMbox mb m).fec = s.fec := rfl
@[simp] theorem setMbox_frm (s : State) (mb : Nat) (m : Mailbox) : (s.setMbox mb m).frm = s.frm := rfl
@[simp] theorem setMbox_tsi (s : State) (mb : Nat) (m : Mailbox) : (s.setMbox mb m).tsi = s.tsi := rfl
@[simp] theorem setMbox_pk (s : State) (mb : Nat) (m : Mailbox) : (s.setMbox mb m).pk = s.pk := rfl
@[simp] theorem setMbox_hg (s : State) (mb : Nat) (m : Mailbox) : (s.setMbox mb m).hg = s.hg := rfl
@[simp] theorem setMbox_eng (s : State) (mb : Nat) (m : Mailbox) : (s.setMbox mb m).eng = s.eng := rfl
@[simp] theorem setMbox_perf (s : State) (mb : Nat) (m : Mailbox) : (s.setMbox mb m).perf = s.perf := rfl
@[simp] theorem setMbox_cip (s : State) (mb : Nat) (m : Mailbox) : (s.setMbox mb m).cip = s.cip := rfl
@[simp] theorem setMbox_ln (s : State) (mb : Nat) (m : Mailbox) : (s.setMbox mb m).ln = s.ln := rfl
@[simp] theorem setMbox_tim (s : State) (mb : Nat) (m : Mailbox) : (s.setMbox mb m).tim = s.tim := rfl
@[simp] theorem setMbox_gau (s : State) (mb : Nat) (m : Mailbox) : (s.setMbox mb m).gau = s.gau := rfl
@[simp] theorem setMbox_tap (s : State) (mb : Nat) (m : Mailbox) : (s.setMbox mb m).tap = s.tap := rfl
@[simp] theorem setMbox_mem (s : State) (mb : Nat) (m : Mailbox) : (s.setMbox mb m).mem = s.mem := rfl
@[simp] theorem setMbox_test (s : State) (mb : Nat) (m : Mailbox) : (s.setMbox mb m).test = s.test := rfl
@[simp] theorem setMbox_power (s : State) (mb : Nat) (m : Mailbox) : (s.setMbox mb m).power = s.power := rfl

@[simp] theorem setFur_reg (s : State) (f : Nat) (x : FurrowRx) (r : Nat) : (s.setFur f x).reg r = s.reg r := rfl
@[simp] theorem setFur_get (s : State) (f : Nat) (x : FurrowRx) (g : Field) (i j : Nat) : (s.setFur f x).get g i j = s.get g i j := rfl
@[simp] theorem setFur_flag (s : State) (f : Nat) (x : FurrowRx) (g : Field) (i j : Nat) : (s.setFur f x).flag g i j = s.flag g i j := rfl
@[simp] theorem setFur_count (s : State) (f : Nat) (x : FurrowRx) (c : Ctr) (i j : Nat) : (s.setFur f x).count c i j = s.count c i j := rfl
@[simp] theorem setFecFur_reg (s : State) (f : Nat) (x : FecFurrow) (r : Nat) : (s.setFecFur f x).reg r = s.reg r := rfl
@[simp] theorem setFecFur_get (s : State) (f : Nat) (x : FecFurrow) (g : Field) (i j : Nat) : (s.setFecFur f x).get g i j = s.get g i j := rfl
@[simp] theorem setFecFur_flag (s : State) (f : Nat) (x : FecFurrow) (g : Field) (i j : Nat) : (s.setFecFur f x).flag g i j = s.flag g i j := rfl
@[simp] theorem setFecFur_count (s : State) (f : Nat) (x : FecFurrow) (c : Ctr) (i j : Nat) : (s.setFecFur f x).count c i j = s.count c i j := rfl
@[simp] theorem setFrmFur_reg (s : State) (f : Nat) (x : FrmFurrow) (r : Nat) : (s.setFrmFur f x).reg r = s.reg r := rfl
@[simp] theorem setFrmFur_get (s : State) (f : Nat) (x : FrmFurrow) (g : Field) (i j : Nat) : (s.setFrmFur f x).get g i j = s.get g i j := rfl
@[simp] theorem setFrmFur_flag (s : State) (f : Nat) (x : FrmFurrow) (g : Field) (i j : Nat) : (s.setFrmFur f x).flag g i j = s.flag g i j := rfl
@[simp] theorem setFrmFur_count (s : State) (f : Nat) (x : FrmFurrow) (c : Ctr) (i j : Nat) : (s.setFrmFur f x).count c i j = s.count c i j := rfl
@[simp] theorem setGroupRx_reg (s : State) (k : Nat) (x : GroupRx) (r : Nat) : (s.setGroupRx k x).reg r = s.reg r := rfl
@[simp] theorem setGroupRx_get (s : State) (k : Nat) (x : GroupRx) (f : Field) (i j : Nat) : (s.setGroupRx k x).get f i j = s.get f i j := rfl
@[simp] theorem setGroupRx_flag (s : State) (k : Nat) (x : GroupRx) (f : Field) (i j : Nat) : (s.setGroupRx k x).flag f i j = s.flag f i j := rfl
@[simp] theorem setGroupRx_count (s : State) (k : Nat) (x : GroupRx) (c : Ctr) (i j : Nat) : (s.setGroupRx k x).count c i j = s.count c i j := rfl
@[simp] theorem setProt_reg (s : State) (p : ProtState) (r : Nat) : (s.setProt p).reg r = s.reg r := rfl
@[simp] theorem setProt_get (s : State) (p : ProtState) (f : Field) (i j : Nat) : (s.setProt p).get f i j = s.get f i j := rfl
@[simp] theorem setProt_flag (s : State) (p : ProtState) (f : Field) (i j : Nat) : (s.setProt p).flag f i j = s.flag f i j := rfl
@[simp] theorem setProt_count (s : State) (p : ProtState) (c : Ctr) (i j : Nat) : (s.setProt p).count c i j = s.count c i j := rfl
@[simp] theorem setLane_reg (s : State) (l : Nat) (x : Lane) (r : Nat) : (s.setLane l x).reg r = s.reg r := rfl
@[simp] theorem setLane_get (s : State) (l : Nat) (x : Lane) (f : Field) (i j : Nat) : (s.setLane l x).get f i j = s.get f i j := rfl
@[simp] theorem setLane_flag (s : State) (l : Nat) (x : Lane) (f : Field) (i j : Nat) : (s.setLane l x).flag f i j = s.flag f i j := rfl
@[simp] theorem setLane_count (s : State) (l : Nat) (x : Lane) (c : Ctr) (i j : Nat) : (s.setLane l x).count c i j = s.count c i j := rfl
@[simp] theorem setTlane_reg (s : State) (t : Nat) (x : TLane) (r : Nat) : (s.setTlane t x).reg r = s.reg r := rfl
@[simp] theorem setTlane_get (s : State) (t : Nat) (x : TLane) (f : Field) (i j : Nat) : (s.setTlane t x).get f i j = s.get f i j := rfl
@[simp] theorem setTlane_flag (s : State) (t : Nat) (x : TLane) (f : Field) (i j : Nat) : (s.setTlane t x).flag f i j = s.flag f i j := rfl
@[simp] theorem setTlane_count (s : State) (t : Nat) (x : TLane) (c : Ctr) (i j : Nat) : (s.setTlane t x).count c i j = s.count c i j := rfl
@[simp] theorem setRillLane_reg (s : State) (h : Nat) (x : RillLane) (r : Nat) : (s.setRillLane h x).reg r = s.reg r := rfl
@[simp] theorem setRillLane_get (s : State) (h : Nat) (x : RillLane) (f : Field) (i j : Nat) : (s.setRillLane h x).get f i j = s.get f i j := rfl
@[simp] theorem setRillLane_flag (s : State) (h : Nat) (x : RillLane) (f : Field) (i j : Nat) : (s.setRillLane h x).flag f i j = s.flag f i j := rfl
@[simp] theorem setRillLane_count (s : State) (h : Nat) (x : RillLane) (c : Ctr) (i j : Nat) : (s.setRillLane h x).count c i j = s.count c i j := rfl
@[simp] theorem setSlip_reg (s : State) (t : Nat) (o : Bool) (x : SlipBuf) (r : Nat) : (s.setSlip t o x).reg r = s.reg r := rfl
@[simp] theorem setSlip_get (s : State) (t : Nat) (o : Bool) (x : SlipBuf) (f : Field) (i j : Nat) : (s.setSlip t o x).get f i j = s.get f i j := rfl
@[simp] theorem setSlip_flag (s : State) (t : Nat) (o : Bool) (x : SlipBuf) (f : Field) (i j : Nat) : (s.setSlip t o x).flag f i j = s.flag f i j := rfl
@[simp] theorem setSlip_count (s : State) (t : Nat) (o : Bool) (x : SlipBuf) (c : Ctr) (i j : Nat) : (s.setSlip t o x).count c i j = s.count c i j := rfl
@[simp] theorem setFpi_reg (s : State) (i : Nat) (x : Fpi) (r : Nat) : (s.setFpi i x).reg r = s.reg r := rfl
@[simp] theorem setFpi_get (s : State) (k : Nat) (x : Fpi) (f : Field) (i j : Nat) : (s.setFpi k x).get f i j = s.get f i j := rfl
@[simp] theorem setFpi_flag (s : State) (k : Nat) (x : Fpi) (f : Field) (i j : Nat) : (s.setFpi k x).flag f i j = s.flag f i j := rfl
@[simp] theorem setFpi_count (s : State) (k : Nat) (x : Fpi) (c : Ctr) (i j : Nat) : (s.setFpi k x).count c i j = s.count c i j := rfl
@[simp] theorem setRefMon_reg (s : State) (n : Nat) (x : RefMon) (r : Nat) : (s.setRefMon n x).reg r = s.reg r := rfl
@[simp] theorem setRefMon_get (s : State) (n : Nat) (x : RefMon) (f : Field) (i j : Nat) : (s.setRefMon n x).get f i j = s.get f i j := rfl
@[simp] theorem setRefMon_flag (s : State) (n : Nat) (x : RefMon) (f : Field) (i j : Nat) : (s.setRefMon n x).flag f i j = s.flag f i j := rfl
@[simp] theorem setRefMon_count (s : State) (n : Nat) (x : RefMon) (c : Ctr) (i j : Nat) : (s.setRefMon n x).count c i j = s.count c i j := rfl
@[simp] theorem setPath_reg (s : State) (f : Nat) (x : BurstPath) (r : Nat) : (s.setPath f x).reg r = s.reg r := rfl
@[simp] theorem setPath_get (s : State) (f : Nat) (x : BurstPath) (g : Field) (i j : Nat) : (s.setPath f x).get g i j = s.get g i j := rfl
@[simp] theorem setPath_flag (s : State) (f : Nat) (x : BurstPath) (g : Field) (i j : Nat) : (s.setPath f x).flag g i j = s.flag g i j := rfl
@[simp] theorem setPath_count (s : State) (f : Nat) (x : BurstPath) (c : Ctr) (i j : Nat) : (s.setPath f x).count c i j = s.count c i j := rfl
@[simp] theorem setLeafInfo_reg (s : State) (l : Nat) (x : LeafInfo) (r : Nat) : (s.setLeafInfo l x).reg r = s.reg r := rfl
@[simp] theorem setLeafInfo_get (s : State) (l : Nat) (x : LeafInfo) (f : Field) (i j : Nat) : (s.setLeafInfo l x).get f i j = s.get f i j := rfl
@[simp] theorem setLeafInfo_flag (s : State) (l : Nat) (x : LeafInfo) (f : Field) (i j : Nat) : (s.setLeafInfo l x).flag f i j = s.flag f i j := rfl
@[simp] theorem setLeafInfo_count (s : State) (l : Nat) (x : LeafInfo) (c : Ctr) (i j : Nat) : (s.setLeafInfo l x).count c i j = s.count c i j := rfl
@[simp] theorem setAdc_reg (s : State) (a : Nat) (x : AdcState) (r : Nat) : (s.setAdc a x).reg r = s.reg r := rfl
@[simp] theorem setAdc_get (s : State) (a : Nat) (x : AdcState) (f : Field) (i j : Nat) : (s.setAdc a x).get f i j = s.get f i j := rfl
@[simp] theorem setAdc_flag (s : State) (a : Nat) (x : AdcState) (f : Field) (i j : Nat) : (s.setAdc a x).flag f i j = s.flag f i j := rfl
@[simp] theorem setAdc_count (s : State) (a : Nat) (x : AdcState) (c : Ctr) (i j : Nat) : (s.setAdc a x).count c i j = s.count c i j := rfl
@[simp] theorem setPkt_reg (s : State) (i : Nat) (x : Option Pkt) (r : Nat) : (s.setPkt i x).reg r = s.reg r := rfl
@[simp] theorem setPkt_get (s : State) (k : Nat) (x : Option Pkt) (f : Field) (i j : Nat) : (s.setPkt k x).get f i j = s.get f i j := rfl
@[simp] theorem setPkt_flag (s : State) (k : Nat) (x : Option Pkt) (f : Field) (i j : Nat) : (s.setPkt k x).flag f i j = s.flag f i j := rfl
@[simp] theorem setPkt_count (s : State) (k : Nat) (x : Option Pkt) (c : Ctr) (i j : Nat) : (s.setPkt k x).count c i j = s.count c i j := rfl
@[simp] theorem setPolicer_reg (s : State) (i : Nat) (x : Policer) (r : Nat) : (s.setPolicer i x).reg r = s.reg r := rfl
@[simp] theorem setPolicer_get (s : State) (k : Nat) (x : Policer) (f : Field) (i j : Nat) : (s.setPolicer k x).get f i j = s.get f i j := rfl
@[simp] theorem setPolicer_flag (s : State) (k : Nat) (x : Policer) (f : Field) (i j : Nat) : (s.setPolicer k x).flag f i j = s.flag f i j := rfl
@[simp] theorem setPolicer_count (s : State) (k : Nat) (x : Policer) (c : Ctr) (i j : Nat) : (s.setPolicer k x).count c i j = s.count c i j := rfl
@[simp] theorem setDomain_reg (s : State) (t : Nat) (x : Domain) (r : Nat) : (s.setDomain t x).reg r = s.reg r := rfl
@[simp] theorem setDomain_get (s : State) (t : Nat) (x : Domain) (f : Field) (i j : Nat) : (s.setDomain t x).get f i j = s.get f i j := rfl
@[simp] theorem setDomain_flag (s : State) (t : Nat) (x : Domain) (f : Field) (i j : Nat) : (s.setDomain t x).flag f i j = s.flag f i j := rfl
@[simp] theorem setDomain_count (s : State) (t : Nat) (x : Domain) (c : Ctr) (i j : Nat) : (s.setDomain t x).count c i j = s.count c i j := rfl
@[simp] theorem setSampler_reg (s : State) (l : Nat) (x : Sampler) (r : Nat) : (s.setSampler l x).reg r = s.reg r := rfl
@[simp] theorem setSampler_get (s : State) (l : Nat) (x : Sampler) (f : Field) (i j : Nat) : (s.setSampler l x).get f i j = s.get f i j := rfl
@[simp] theorem setSampler_flag (s : State) (l : Nat) (x : Sampler) (f : Field) (i j : Nat) : (s.setSampler l x).flag f i j = s.flag f i j := rfl
@[simp] theorem setSampler_count (s : State) (l : Nat) (x : Sampler) (c : Ctr) (i j : Nat) : (s.setSampler l x).count c i j = s.count c i j := rfl
@[simp] theorem setSweep_reg (s : State) (m : Nat) (x : Sweep) (r : Nat) : (s.setSweep m x).reg r = s.reg r := rfl
@[simp] theorem setSweep_get (s : State) (m : Nat) (x : Sweep) (f : Field) (i j : Nat) : (s.setSweep m x).get f i j = s.get f i j := rfl
@[simp] theorem setSweep_flag (s : State) (m : Nat) (x : Sweep) (f : Field) (i j : Nat) : (s.setSweep m x).flag f i j = s.flag f i j := rfl
@[simp] theorem setSweep_count (s : State) (m : Nat) (x : Sweep) (c : Ctr) (i j : Nat) : (s.setSweep m x).count c i j = s.count c i j := rfl
@[simp] theorem setPass_reg (s : State) (m : Nat) (x : Option ScrubPass) (r : Nat) : (s.setPass m x).reg r = s.reg r := rfl
@[simp] theorem setPass_get (s : State) (m : Nat) (x : Option ScrubPass) (f : Field) (i j : Nat) : (s.setPass m x).get f i j = s.get f i j := rfl
@[simp] theorem setPass_flag (s : State) (m : Nat) (x : Option ScrubPass) (f : Field) (i j : Nat) : (s.setPass m x).flag f i j = s.flag f i j := rfl
@[simp] theorem setPass_count (s : State) (m : Nat) (x : Option ScrubPass) (c : Ctr) (i j : Nat) : (s.setPass m x).count c i j = s.count c i j := rfl
@[simp] theorem setInjector_reg (s : State) (i : Nat) (x : Option Injector) (r : Nat) : (s.setInjector i x).reg r = s.reg r := rfl
@[simp] theorem setInjector_get (s : State) (k : Nat) (x : Option Injector) (f : Field) (i j : Nat) : (s.setInjector k x).get f i j = s.get f i j := rfl
@[simp] theorem setInjector_flag (s : State) (k : Nat) (x : Option Injector) (f : Field) (i j : Nat) : (s.setInjector k x).flag f i j = s.flag f i j := rfl
@[simp] theorem setInjector_count (s : State) (k : Nat) (x : Option Injector) (c : Ctr) (i j : Nat) : (s.setInjector k x).count c i j = s.count c i j := rfl
@[simp] theorem setKeySlot_reg (s : State) (k : Nat) (x : KeySlot) (r : Nat) : (s.setKeySlot k x).reg r = s.reg r := rfl
@[simp] theorem setKeySlot_get (s : State) (k : Nat) (x : KeySlot) (f : Field) (i j : Nat) : (s.setKeySlot k x).get f i j = s.get f i j := rfl
@[simp] theorem setKeySlot_flag (s : State) (k : Nat) (x : KeySlot) (f : Field) (i j : Nat) : (s.setKeySlot k x).flag f i j = s.flag f i j := rfl
@[simp] theorem setKeySlot_count (s : State) (k : Nat) (x : KeySlot) (c : Ctr) (i j : Nat) : (s.setKeySlot k x).count c i j = s.count c i j := rfl
@[simp] theorem setCipherTn_reg (s : State) (t : Nat) (x : CipherTurnout) (r : Nat) : (s.setCipherTn t x).reg r = s.reg r := rfl
@[simp] theorem setCipherTn_get (s : State) (t : Nat) (x : CipherTurnout) (f : Field) (i j : Nat) : (s.setCipherTn t x).get f i j = s.get f i j := rfl
@[simp] theorem setCipherTn_flag (s : State) (t : Nat) (x : CipherTurnout) (f : Field) (i j : Nat) : (s.setCipherTn t x).flag f i j = s.flag f i j := rfl
@[simp] theorem setCipherTn_count (s : State) (t : Nat) (x : CipherTurnout) (c : Ctr) (i j : Nat) : (s.setCipherTn t x).count c i j = s.count c i j := rfl
@[simp] theorem setFlow_reg (s : State) (i : Nat) (x : Option FlowEntry) (r : Nat) : (s.setFlow i x).reg r = s.reg r := rfl
@[simp] theorem setFlow_get (s : State) (k : Nat) (x : Option FlowEntry) (f : Field) (i j : Nat) : (s.setFlow k x).get f i j = s.get f i j := rfl
@[simp] theorem setFlow_flag (s : State) (k : Nat) (x : Option FlowEntry) (f : Field) (i j : Nat) : (s.setFlow k x).flag f i j = s.flag f i j := rfl
@[simp] theorem setFlow_count (s : State) (k : Nat) (x : Option FlowEntry) (c : Ctr) (i j : Nat) : (s.setFlow k x).count c i j = s.count c i j := rfl
@[simp] theorem setPortQueue_reg (s : State) (t : Nat) (q : PortQueue) (r : Nat) : (s.setPortQueue t q).reg r = s.reg r := rfl
@[simp] theorem setPortQueue_get (s : State) (t : Nat) (q : PortQueue) (f : Field) (i j : Nat) : (s.setPortQueue t q).get f i j = s.get f i j := rfl
@[simp] theorem setPortQueue_flag (s : State) (t : Nat) (q : PortQueue) (f : Field) (i j : Nat) : (s.setPortQueue t q).flag f i j = s.flag f i j := rfl
@[simp] theorem setPortQueue_count (s : State) (t : Nat) (q : PortQueue) (c : Ctr) (i j : Nat) : (s.setPortQueue t q).count c i j = s.count c i j := rfl
@[simp] theorem setQuench_reg (s : State) (k i : Nat) (q : Option Quench) (r : Nat) : (s.setQuench k i q).reg r = s.reg r := rfl
@[simp] theorem setQuench_get (s : State) (k n : Nat) (q : Option Quench) (g : Field) (i j : Nat) : (s.setQuench k n q).get g i j = s.get g i j := rfl
@[simp] theorem setQuench_flag (s : State) (k n : Nat) (q : Option Quench) (g : Field) (i j : Nat) : (s.setQuench k n q).flag g i j = s.flag g i j := rfl
@[simp] theorem setQuench_count (s : State) (k n : Nat) (q : Option Quench) (g : Ctr) (i j : Nat) : (s.setQuench k n q).count g i j = s.count g i j := rfl
@[simp] theorem setClamp_reg (s : State) (l i : Nat) (c : Option Clamp) (r : Nat) : (s.setClamp l i c).reg r = s.reg r := rfl
@[simp] theorem setClamp_get (s : State) (k n : Nat) (q : Option Clamp) (g : Field) (i j : Nat) : (s.setClamp k n q).get g i j = s.get g i j := rfl
@[simp] theorem setClamp_flag (s : State) (k n : Nat) (q : Option Clamp) (g : Field) (i j : Nat) : (s.setClamp k n q).flag g i j = s.flag g i j := rfl
@[simp] theorem setClamp_count (s : State) (k n : Nat) (q : Option Clamp) (g : Ctr) (i j : Nat) : (s.setClamp k n q).count g i j = s.count g i j := rfl
@[simp] theorem setMbox_reg (s : State) (mb : Nat) (m : Mailbox) (r : Nat) : (s.setMbox mb m).reg r = s.reg r := rfl
@[simp] theorem setMbox_get (s : State) (mb : Nat) (m : Mailbox) (f : Field) (i j : Nat) : (s.setMbox mb m).get f i j = s.get f i j := rfl
@[simp] theorem setMbox_flag (s : State) (mb : Nat) (m : Mailbox) (f : Field) (i j : Nat) : (s.setMbox mb m).flag f i j = s.flag f i j := rfl
@[simp] theorem setMbox_count (s : State) (mb : Nat) (m : Mailbox) (c : Ctr) (i j : Nat) : (s.setMbox mb m).count c i j = s.count c i j := rfl
@[simp] theorem setIface_reg (s : State) (i : Iface) (x : IfState) (r : Nat) : (s.setIface i x).reg r = s.reg r := rfl
@[simp] theorem setIface_get (s : State) (d : Iface) (x : IfState) (f : Field) (i j : Nat) : (s.setIface d x).get f i j = s.get f i j := rfl
@[simp] theorem setIface_flag (s : State) (d : Iface) (x : IfState) (f : Field) (i j : Nat) : (s.setIface d x).flag f i j = s.flag f i j := rfl
@[simp] theorem setIface_count (s : State) (d : Iface) (x : IfState) (c : Ctr) (i j : Nat) : (s.setIface d x).count c i j = s.count c i j := rfl
@[simp] theorem setLaneData_reg (s : State) (l : Nat) (x : LaneData) (r : Nat) : (s.setLaneData l x).reg r = s.reg r := rfl
@[simp] theorem setLaneData_get (s : State) (l : Nat) (x : LaneData) (f : Field) (i j : Nat) : (s.setLaneData l x).get f i j = s.get f i j := rfl
@[simp] theorem setLaneData_flag (s : State) (l : Nat) (x : LaneData) (f : Field) (i j : Nat) : (s.setLaneData l x).flag f i j = s.flag f i j := rfl
@[simp] theorem setLaneData_count (s : State) (l : Nat) (x : LaneData) (c : Ctr) (i j : Nat) : (s.setLaneData l x).count c i j = s.count c i j := rfl
@[simp] theorem setEgressBlocks_reg (s : State) (t : Nat) (bs : List (BitVec 66)) (r : Nat) : (s.setEgressBlocks t bs).reg r = s.reg r := rfl
@[simp] theorem setEgressBlocks_get (s : State) (t : Nat) (bs : List (BitVec 66)) (f : Field) (i j : Nat) : (s.setEgressBlocks t bs).get f i j = s.get f i j := rfl
@[simp] theorem setEgressBlocks_flag (s : State) (t : Nat) (bs : List (BitVec 66)) (f : Field) (i j : Nat) : (s.setEgressBlocks t bs).flag f i j = s.flag f i j := rfl
@[simp] theorem setEgressBlocks_count (s : State) (t : Nat) (bs : List (BitVec 66)) (c : Ctr) (i j : Nat) : (s.setEgressBlocks t bs).count c i j = s.count c i j := rfl
@[simp] theorem setSalt_reg (s : State) (k : Nat) (v : BitVec 56) (r : Nat) : (s.setSalt k v).reg r = s.reg r := rfl
@[simp] theorem setSalt_get (s : State) (k : Nat) (v : BitVec 56) (f : Field) (i j : Nat) : (s.setSalt k v).get f i j = s.get f i j := rfl
@[simp] theorem setSalt_flag (s : State) (k : Nat) (v : BitVec 56) (f : Field) (i j : Nat) : (s.setSalt k v).flag f i j = s.flag f i j := rfl
@[simp] theorem setSalt_count (s : State) (k : Nat) (v : BitVec 56) (c : Ctr) (i j : Nat) : (s.setSalt k v).count c i j = s.count c i j := rfl

end Sys2Proof.Machine
end

