-- ==== Sys2Proof/Laws/Tab.lean ====
section
/-! SUPPORT. Sparse tables: read after write, and the canonical form that every write keeps. -/

namespace Sys2Proof.Machine

variable {α : Type}

@[simp] theorem tget_nil (d : α) (k : Nat) : tget d [] k = d := rfl

theorem tget_tdel_self (d : α) (t : Tab α) (k : Nat) : tget d (tdel k t) k = d := by
  induction t with
  | nil => rfl
  | cons e t ih =>
    obtain ⟨k', v⟩ := e
    by_cases h : k' = k
    · simp [tdel, h, ih]
    · simp [tdel, h, tget, ih]

theorem tget_tdel_ne (d : α) (t : Tab α) {k k' : Nat} (h : k' ≠ k) : tget d (tdel k t) k' = tget d t k' := by
  induction t with
  | nil => rfl
  | cons e t ih =>
    obtain ⟨a, v⟩ := e
    by_cases ha : a = k
    · subst ha; simp [tdel, tget, ih, Ne.symm h]
    · simp only [tdel, if_neg ha, tget, ih]

theorem tget_tins_self (d : α) (t : Tab α) (k : Nat) (v : α) (h : ∀ e ∈ t, e.1 ≠ k) : tget d (tins k v t) k = v := by
  induction t with
  | nil => simp [tins, tget]
  | cons e t ih =>
    obtain ⟨a, w⟩ := e
    have ha : a ≠ k := h (a, w) (by simp)
    have ht : ∀ e ∈ t, e.1 ≠ k := fun e he => h e (by simp [he])
    by_cases hk : k < a <;> simp [tins, hk, tget, ha, ih ht]

theorem tget_tins_ne (d : α) (t : Tab α) {k k' : Nat} (v : α) (h : k' ≠ k) : tget d (tins k v t) k' = tget d t k' := by
  induction t with
  | nil => simp [tins, tget, Ne.symm h]
  | cons e t ih =>
    obtain ⟨a, w⟩ := e
    by_cases hk : k < a
    · simp [tins, hk, tget, Ne.symm h]
    · simp only [tins, if_neg hk, tget, ih]

theorem mem_tdel {t : Tab α} {k : Nat} {e : Nat × α} : e ∈ tdel k t ↔ e ∈ t ∧ e.1 ≠ k := by
  induction t with
  | nil => simp [tdel]
  | cons x t ih =>
    obtain ⟨a, v⟩ := x
    by_cases ha : a = k
    · subst ha
      simp only [tdel, if_true, ih, List.mem_cons]
      constructor
      · rintro ⟨h1, h2⟩; exact ⟨.inr h1, h2⟩
      · rintro ⟨h1 | h1, h2⟩
        · exact absurd (by rw [h1]) h2
        · exact ⟨h1, h2⟩
    · simp only [tdel, if_neg ha, List.mem_cons, ih]
      constructor
      · rintro (h | ⟨h1, h2⟩)
        · exact ⟨.inl h, by rw [h]; exact ha⟩
        · exact ⟨.inr h1, h2⟩
      · rintro ⟨h1 | h1, h2⟩
        · exact .inl h1
        · exact .inr ⟨h1, h2⟩

theorem mem_tins {t : Tab α} {k : Nat} {v : α} {e : Nat × α} : e ∈ tins k v t ↔ e = (k, v) ∨ e ∈ t := by
  induction t with
  | nil => simp [tins]
  | cons x t ih =>
    obtain ⟨a, w⟩ := x
    by_cases hk : k < a
    · simp [tins, hk]
    · simp only [tins, if_neg hk, List.mem_cons, ih]
      exact ⟨fun h => h.elim (fun a => .inr (.inl a)) (fun a => a.elim .inl (fun b => .inr (.inr b))),
        fun h => h.elim (fun a => .inr (.inl a)) (fun a => a.elim .inl (fun b => .inr (.inr b)))⟩

/-- Read after write. -/
@[simp] theorem tget_tput_self [DecidableEq α] (d : α) (t : Tab α) (k : Nat) (v : α) : tget d (tput d t k v) k = v := by
  unfold tput
  split
  · next h => rw [tget_tdel_self, h]
  · exact tget_tins_self d _ k v (fun e he => (mem_tdel.1 he).2)

/-- A write leaves every other key. -/
theorem tget_tput_ne [DecidableEq α] (d d' : α) (t : Tab α) {k k' : Nat} (v : α) (h : k' ≠ k) :
    tget d' (tput d t k v) k' = tget d' t k' := by
  unfold tput
  split
  · exact tget_tdel_ne d' t h
  · rw [tget_tins_ne d' _ v h, tget_tdel_ne d' t h]

theorem tdel_pairwise {t : Tab α} (k : Nat) (h : t.Pairwise (fun a b => a.1 < b.1)) : (tdel k t).Pairwise (fun a b => a.1 < b.1) := by
  induction t with
  | nil => exact h
  | cons x t ih =>
    obtain ⟨a, v⟩ := x
    rw [List.pairwise_cons] at h
    by_cases ha : a = k
    · simp only [tdel, ha, if_true]; exact ih h.2
    · simp only [tdel, ha, if_false, List.pairwise_cons]
      exact ⟨fun e he => h.1 e (mem_tdel.1 he).1, ih h.2⟩

theorem tins_pairwise {t : Tab α} (k : Nat) (v : α) (h : t.Pairwise (fun a b => a.1 < b.1)) (hk : ∀ e ∈ t, e.1 ≠ k) :
    (tins k v t).Pairwise (fun a b => a.1 < b.1) := by
  induction t with
  | nil => simp [tins]
  | cons x t ih =>
    obtain ⟨a, w⟩ := x
    have ha : a ≠ k := hk (a, w) (by simp)
    rw [List.pairwise_cons] at h
    by_cases hl : k < a
    · simp only [tins, hl, if_true, List.pairwise_cons, List.mem_cons]
      refine ⟨?_, h⟩
      rintro e (rfl | he)
      · exact hl
      · exact Nat.lt_trans hl (h.1 e he)
    · simp only [tins, hl, if_false, List.pairwise_cons]
      refine ⟨?_, ih h.2 (fun e he => hk e (by simp [he]))⟩
      intro e he
      rcases mem_tins.1 he with rfl | he
      · simp only []; omega
      · exact h.1 e he

/-- The empty table has the canonical form. -/
theorem tab_wf_nil (d : Nat → α) : Tab.Wf d ([] : Tab α) := by simp [Tab.Wf]

/-- A write keeps the canonical form. -/
theorem tput_wf [DecidableEq α] (d : Nat → α) (t : Tab α) (k : Nat) (v : α) (h : Tab.Wf d t) : Tab.Wf d (tput (d k) t k v) := by
  unfold tput
  split
  · exact ⟨tdel_pairwise k h.1, fun e he => h.2 e (mem_tdel.1 he).1⟩
  · next hv =>
    refine ⟨tins_pairwise k v (tdel_pairwise k h.1) (fun e he => (mem_tdel.1 he).2), fun e he => ?_⟩
    rcases mem_tins.1 he with rfl | he
    · exact hv
    · exact h.2 e (mem_tdel.1 he).1

/-- Writing what an unlisted key reads as removes the entry. -/
theorem tput_default [DecidableEq α] (d : α) (t : Tab α) (k : Nat) : tput d t k d = tdel k t := by simp [tput]

end Sys2Proof.Machine
end

