-- ==== Sys2Proof/Laws/Ops.lean ====
section
/-! SUPPORT. What the shared operations do: register words, fields, counters, the end of a command, the answer of a mailbox. -/

namespace Sys2Proof.Machine

/-! ### Words and fields -/

@[simp] theorem reg_setReg_self (s : State) (a : Nat) (v : Word) : (s.setReg a v).reg a = v := tget_tput_self _ _ _ _

theorem reg_setReg_ne (s : State) {a b : Nat} (v : Word) (h : b ≠ a) : (s.setReg a v).reg b = s.reg b := tget_tput_ne _ _ _ _ h

/-- The word that a field write leaves. -/
theorem reg_set_self (s : State) (f : Field) (v i j : Nat) :
    (s.set f v i j).reg (f.addr i j) = BitVec.ofNat 32 (putBits (s.reg (f.addr i j)).toNat f.lo f.width v) := reg_setReg_self _ _ _

theorem reg_set_ne (s : State) (f : Field) (v i j : Nat) {b : Nat} (h : b ≠ f.addr i j) : (s.set f v i j).reg b = s.reg b :=
  reg_setReg_ne _ _ h

/-- A field that lies in its word reads back what was written, reduced to its width. -/
theorem get_set_self (s : State) (f : Field) (v i j : Nat) (h : f.lo + f.width ≤ 32) : (s.set f v i j).get f i j = v % 2 ^ f.width := by
  unfold State.get
  rw [reg_set_self, BitVec.toNat_ofNat, Nat.mod_eq_of_lt (putBits_lt _ _ _ _ _ (s.reg _).isLt h), bitsOf_putBits_self]

/-- A field at another address, or one that does not meet it in the word. -/
theorem get_set_ne (s : State) (f g : Field) (v i j k l : Nat) (hf : f.lo + f.width ≤ 32)
    (h : g.addr k l ≠ f.addr i j ∨ f.lo + f.width ≤ g.lo ∨ g.lo + g.width ≤ f.lo) : (s.set f v i j).get g k l = s.get g k l := by
  by_cases ha : g.addr k l = f.addr i j
  · have hb := h.resolve_left (fun n => n ha)
    unfold State.get
    rw [ha, reg_set_self, BitVec.toNat_ofNat, Nat.mod_eq_of_lt (putBits_lt _ _ _ _ _ (s.reg _).isLt hf), bitsOf_putBits_ne _ _ _ _ _ _ hb]
  · unfold State.get
    rw [reg_set_ne _ _ _ _ _ ha]

theorem get_setReg_ne (s : State) (a : Nat) (v : Word) (g : Field) (k l : Nat) (h : g.addr k l ≠ a) : (s.setReg a v).get g k l = s.get g k l := by
  unfold State.get; rw [reg_setReg_ne _ _ h]

theorem flag_eq (s : State) (f : Field) (i j : Nat) : s.flag f i j = (s.get f i j == 1) := rfl

/-! ### Counters -/

/-- The words of an instance of a counter. -/
def Ctr.wordsOf (c : Ctr) (i j : Nat) : List Nat := if c.words = 1 then [c.addr i j] else [c.addr i j, c.addr i j + 4]

theorem reg_setCount_ne (s : State) (c : Ctr) (v i j : Nat) {b : Nat} (h : b ∉ c.wordsOf i j) : (s.setCount c v i j).reg b = s.reg b := by
  unfold State.setCount Ctr.wordsOf at *
  simp only []
  split at h
  · next hw => simp only [hw, if_true]; exact reg_setReg_ne _ _ (by simpa using h)
  · next hw =>
    simp only [hw, if_false]
    simp only [List.mem_cons, List.not_mem_nil, or_false, not_or] at h
    split <;> rw [reg_setReg_ne _ _ h.2, reg_setReg_ne _ _ h.1]

theorem reg_bump_ne (s : State) (c : Ctr) (i j n : Nat) {b : Nat} (h : b ∉ c.wordsOf i j) : (s.bump c i j n).reg b = s.reg b := by
  unfold State.bump
  simp only []
  split
  · exact reg_setCount_ne _ _ _ _ _ h
  · split <;> exact reg_setCount_ne _ _ _ _ _ h

theorem get_bump_ne (s : State) (c : Ctr) (i j n : Nat) (g : Field) (k l : Nat) (h : g.addr k l ∉ c.wordsOf i j) :
    (s.bump c i j n).get g k l = s.get g k l := by
  unfold State.get; rw [reg_bump_ne _ _ _ _ _ h]

theorem count_setCount_one (s : State) (c : Ctr) (v i j : Nat) (hc : c.words = 1) : (s.setCount c v i j).count c i j = v % 2 ^ 32 := by
  simp only [State.setCount, State.count, hc, if_true, reg_setReg_self, BitVec.toNat_ofNat]

theorem count_setCount_two (s : State) (c : Ctr) (v i j : Nat) (hc : c.words = 2) : (s.setCount c v i j).count c i j = v % 2 ^ 64 := by
  simp only [State.setCount, State.count, hc, if_true, if_false, reg_setReg_self, BitVec.toNat_ofNat, Nat.reduceEqDiff,
    reg_setReg_ne _ _ (show c.addr i j ≠ c.addr i j + 4 by omega)]
  omega

/-- A 32-bit counter holds at its limit (R16). -/
theorem count_bump_one (s : State) (c : Ctr) (i j n : Nat) (hc : c.words = 1) :
    (s.bump c i j n).count c i j = min (s.count c i j + n) 0xFFFFFFFF := by
  unfold State.bump
  simp only [hc, if_true]
  rw [count_setCount_one _ _ _ _ _ hc]
  exact Nat.mod_eq_of_lt (by omega)

/-- A traffic counter wraps (R16). -/
theorem count_bump_two (s : State) (c : Ctr) (i j n : Nat) (hc : c.words = 2) :
    (s.bump c i j n).count c i j = (s.count c i j + n) % 2 ^ 64 := by
  unfold State.bump
  simp only [hc, if_true, if_false, Nat.reduceEqDiff]
  rw [count_setCount_two _ _ _ _ _ hc, Nat.mod_mod]

theorem count_eq_of_reg (s t : State) (c : Ctr) (i j : Nat) (h : ∀ a ∈ c.wordsOf i j, t.reg a = s.reg a) : t.count c i j = s.count c i j := by
  unfold Ctr.wordsOf at h
  unfold State.count
  simp only []
  split at h
  · next hw => simp only [hw, if_true, h (c.addr i j) (by simp)]
  · next hw => simp only [hw, if_false, h (c.addr i j) (by simp), h (c.addr i j + 4) (by simp)]

/-! ### The end of a command -/

theorem msixDue_eq (s : State) (v : Nat) : ∃ m, s.msixDue v = { s with msix := m } := by
  unfold State.msixDue
  split
  · exact ⟨s.msix, rfl⟩
  · split
    · exact ⟨_, rfl⟩
    · exact ⟨_, rfl⟩

theorem foldl_msix {α : Type} (g : State → α → State) (hg : ∀ s x, ∃ m, g s x = { s with msix := m }) (l : List α) :
    ∀ s : State, ∃ m, l.foldl g s = { s with msix := m } := by
  induction l with
  | nil => exact fun s => ⟨s.msix, rfl⟩
  | cons x t ih =>
    intro s
    obtain ⟨m, hm⟩ := hg s x
    obtain ⟨n, hn⟩ := ih (g s x)
    exact ⟨n, by rw [List.foldl_cons, hn, hm]⟩

/-- The interrupt controller changes nothing but the MSI-X state. -/
theorem settle_eq (old new : State) : ∃ m, settle old new = { new with msix := m } := by
  obtain ⟨m, hm⟩ := foldl_msix State.msixDue msixDue_eq (dueVectors old new) new
  obtain ⟨n, hn⟩ := foldl_msix (fun (s : State) (v : Nat) =>
    if bitsOf s.msix.pba.toNat v 1 == 1 && s.msix.enable && !s.vectorMasked v then
      { s with msix := { s.msix with
        pba := s.msix.pba &&& ~~~(BitVec.ofNat 32 (2 ^ v))
        sent := s.msix.sent ++ [s.msixMsg v] } }
    else s) (fun s v => by
      by_cases h : (bitsOf s.msix.pba.toNat v 1 == 1 && s.msix.enable && !s.vectorMasked v) = true
      · simp only [h, if_true]; exact ⟨_, rfl⟩
      · simp only [h]; exact ⟨s.msix, rfl⟩) (List.range 32) ((dueVectors old new).foldl State.msixDue new)
  refine ⟨n, ?_⟩
  show State.msixFlush _ = _
  unfold State.msixFlush
  rw [hn, hm]

theorem log_reg_ne (s : State) (wb type : Nat) (d : List Byte) {a : Nat} (h1 : a ≠ 0x40014) (h2 : a ≠ 0x40020) : (s.log wb type d).reg a = s.reg a := by
  unfold State.log
  simp only []
  split
  · rfl
  · rw [reg_set_ne _ _ _ _ _ h1, reg_bump_ne]
    simpa [Ctr.wordsOf, Ctr.addr, Cnt.LOST_QUEUE] using h2

/-- Only register words, the log and the gate of the last burst differ. -/
def RegsLogs (s t : State) : Prop := ∃ r l b, t = { s with regs := r, logs := l, self := { s.self with sent := b } }

theorem RegsLogs.refl (s : State) : RegsLogs s s := ⟨s.regs, s.logs, s.self.sent, rfl⟩

theorem RegsLogs.trans {s t u : State} (h : RegsLogs s t) (k : RegsLogs t u) : RegsLogs s u := by
  obtain ⟨r, l, b, rfl⟩ := h
  obtain ⟨r', l', b', rfl⟩ := k
  exact ⟨r', l', b', rfl⟩

theorem regsLogs_setReg (s : State) (a : Nat) (v : Word) : RegsLogs s (s.setReg a v) := ⟨_, _, s.self.sent, rfl⟩

theorem regsLogs_set (s : State) (f : Field) (v i j : Nat) : RegsLogs s (s.set f v i j) := ⟨_, _, s.self.sent, rfl⟩

theorem regsLogs_cutBurst (s : State) : RegsLogs s s.cutBurst := ⟨s.regs, s.logs, _, rfl⟩

@[simp] theorem cutBurst_reg (s : State) (a : Nat) : s.cutBurst.reg a = s.reg a := rfl

theorem regsLogs_setCount (s : State) (c : Ctr) (v i j : Nat) : RegsLogs s (s.setCount c v i j) := by
  unfold State.setCount
  simp only []
  split
  · exact regsLogs_setReg _ _ _
  · split <;> exact (regsLogs_setReg _ _ _).trans (regsLogs_setReg _ _ _)

theorem regsLogs_bump (s : State) (c : Ctr) (i j n : Nat) : RegsLogs s (s.bump c i j n) := by
  unfold State.bump
  simp only []
  split
  · exact regsLogs_setCount _ _ _ _ _
  · split <;> exact regsLogs_setCount _ _ _ _ _

theorem regsLogs_log (s : State) (wb type : Nat) (d : List Byte) : RegsLogs s (s.log wb type d) := by
  unfold State.log
  simp only []
  split
  · exact ⟨s.regs, _, s.self.sent, rfl⟩
  · exact (regsLogs_bump _ _ _ _ _).trans (regsLogs_set _ _ _ _ _)

/-- The squelch follows in register words and the log. -/
theorem regsLogs_refreshSquelch (s : State) : RegsLogs s s.refreshSquelch := by
  have h1 : RegsLogs s (if s.squelchReasons = s.get Reg.TXS_STATUS_SQ_REASON then s else s.set Reg.TXS_STATUS_SQ_REASON s.squelchReasons) := by
    split
    · exact .refl s
    · exact regsLogs_set _ _ _ _ _
  have h2 : ∀ u : State, ∀ c : Prop, ∀ _ : Decidable c, ∀ r, RegsLogs u (if c then u
      else ((((u.cutBurst.set Reg.TXS_STATUS_SQUELCHED 1).set Reg.TXS_EVENTS_SQUELCH 1).bump Cnt.SQUELCH_EVENTS).log wbTx 0x25 [BitVec.ofNat 8 r])) := by
    intro u c _ r
    split
    · exact .refl u
    · exact ((((regsLogs_cutBurst u).trans (regsLogs_set _ _ _ _ _)).trans (regsLogs_set _ _ _ _ _)).trans (regsLogs_bump _ _ _ _ _)).trans
        (regsLogs_log _ _ _ _)
  have h3 : ∀ u : State, ∀ c : Prop, ∀ _ : Decidable c, ∀ v, RegsLogs u (if c then u else u.set Reg.TXS_STATUS_GATE v) := by
    intro u c _ v
    split
    · exact .refl u
    · exact regsLogs_set _ _ _ _ _
  unfold State.refreshSquelch
  by_cases hg : s.sys.gated = true
  · rw [if_pos hg]; exact .refl s
  · rw [if_neg hg]; exact (h1.trans (h2 _ _ _ _)).trans (h3 _ _ _ _)

theorem refreshSquelch_reg (s : State) {a : Nat} (h : a ∉ squelchWords) : s.refreshSquelch.reg a = s.reg a := by
  simp only [squelchWords, List.mem_cons, List.not_mem_nil, or_false, not_or] at h
  obtain ⟨h1, h2, h3, h4, h5⟩ := h
  have e1 : ∀ u : State, ∀ c : Prop, ∀ _ : Decidable c, ∀ v, (if c then u else u.set Reg.TXS_STATUS_SQ_REASON v).reg a = u.reg a := by
    intro u c _ v
    split
    · rfl
    · exact reg_set_ne _ _ _ _ _ h1
  have e2 : ∀ u : State, ∀ c : Prop, ∀ _ : Decidable c, ∀ r, (if c then u
      else ((((u.cutBurst.set Reg.TXS_STATUS_SQUELCHED 1).set Reg.TXS_EVENTS_SQUELCH 1).bump Cnt.SQUELCH_EVENTS).log wbTx 0x25 [BitVec.ofNat 8 r])).reg a = u.reg a := by
    intro u c _ r
    split
    · rfl
    · rw [log_reg_ne _ _ _ _ h4 h5, reg_bump_ne, reg_set_ne _ _ _ _ _ h2, reg_set_ne _ _ _ _ _ h1, cutBurst_reg]
      simpa [Ctr.wordsOf, Ctr.addr, Cnt.SQUELCH_EVENTS] using h3
  have e3 : ∀ u : State, ∀ c : Prop, ∀ _ : Decidable c, ∀ v, (if c then u else u.set Reg.TXS_STATUS_GATE v).reg a = u.reg a := by
    intro u c _ v
    split
    · rfl
    · exact reg_set_ne _ _ _ _ _ h1
  unfold State.refreshSquelch
  by_cases hg : s.sys.gated = true
  · rw [if_pos hg]
  · rw [if_neg hg]; exact (e3 _ _ _ _).trans ((e2 _ _ _ _).trans (e1 _ _ _ _))

/-- The end of a command: the new state, but for the words in which a squelch shows, the log, the MSI-X state and the gate of a burst that a squelch cuts; and
the queue of before. -/
theorem done_eq (old new : State) : ∃ r l m b,
    done old new = .next { new with pending := old.pending, regs := r, logs := l, msix := m, self := { new.self with sent := b } } ∧
    RegsKept [] new { new with pending := old.pending, regs := r, logs := l, msix := m, self := { new.self with sent := b } } := by
  obtain ⟨m, hm⟩ := settle_eq old new.refreshSquelch
  obtain ⟨r, l, b, hr⟩ := regsLogs_refreshSquelch new
  refine ⟨r, l, m, b, ?_, ?_⟩
  · unfold done; rw [hm, hr]
  · intro a _ ha
    have := refreshSquelch_reg new ha
    rw [hr] at this
    exact this

theorem RegsKept.get {l : List Nat} {s t : State} (h : RegsKept l s t) (f : Field) (i j : Nat) (h1 : f.addr i j ∉ l) (h2 : f.addr i j ∉ squelchWords) :
    t.get f i j = s.get f i j := by
  unfold State.get; rw [h _ h1 h2]

theorem RegsKept.trans {l m : List Nat} {s t u : State} (h : RegsKept l s t) (k : RegsKept m t u) : RegsKept (l ++ m) s u := by
  intro a ha hb
  rw [List.mem_append, not_or] at ha
  rw [k a ha.2 hb, h a ha.1 hb]

/-! ### Mailboxes -/

@[simp] theorem mbox_setMbox_self (s : State) (mb : Nat) (m : Mailbox) : (s.setMbox mb m).mbox mb = m := tget_tput_self _ _ _ _

theorem mbox_setMbox_ne (s : State) {mb k : Nat} (m : Mailbox) (h : k ≠ mb) : (s.setMbox mb m).mbox k = s.mbox k := tget_tput_ne _ _ _ _ h

theorem mbox_congr {s t : State} (h : t.mbs = s.mbs) (k : Nat) : t.mbox k = s.mbox k := by unfold State.mbox; rw [h]

@[simp] theorem answer_mbox (s : State) (mb : Nat) (r : Reply) : (s.answer mb r).mbox mb = (s.mbox mb).answered r := by
  unfold State.answer
  simp only []
  split
  · rw [mbox_congr (set_mbs _ _ _ _ _), mbox_setMbox_self]
  · exact mbox_setMbox_self _ _ _

theorem answer_mbox_ne (s : State) {mb k : Nat} (r : Reply) (h : k ≠ mb) : (s.answer mb r).mbox k = s.mbox k := by
  unfold State.answer
  simp only []
  split
  · rw [mbox_congr (set_mbs _ _ _ _ _), mbox_setMbox_ne _ _ h]
  · exact mbox_setMbox_ne _ _ h

/-- A field write as a record update. -/
theorem set_eq (s : State) (f : Field) (v i j : Nat) : ∃ g, s.set f v i j = { s with regs := g } := ⟨_, rfl⟩

/-- A mailbox write as a record update. -/
theorem setMbox_eq (s : State) (mb : Nat) (m : Mailbox) : ∃ b, s.setMbox mb m = { s with mbs := b } := ⟨_, rfl⟩

/-- An answer changes its mailbox and MB_EVENTS. -/
theorem answer_eq (s : State) (mb : Nat) (r : Reply) : ∃ g m, s.answer mb r = { s with regs := g, mbs := m } := by
  obtain ⟨b, hb⟩ := setMbox_eq s mb ((s.mbox mb).answered r)
  have e : ∀ u : State, ∀ c : Prop, ∀ _ : Decidable c, ∀ f : Field, ∀ v, ∃ g, (if c then u.set f v else u) = { u with regs := g } := by
    intro u c _ f v
    split
    · exact set_eq u f v 0 0
    · exact ⟨u.regs, rfl⟩
  obtain ⟨g, hg⟩ := e { s with mbs := b } ((s.mbox mb).flags % 2 = 1) inferInstance Reg.MB_EVENTS_DONE
    (State.get { s with mbs := b } Reg.MB_EVENTS_DONE ||| 2 ^ mb)
  refine ⟨g, b, ?_⟩
  unfold State.answer
  simp only [hb]
  exact hg

theorem answer_reg (s : State) (mb : Nat) (r : Reply) {a : Nat} (h : a ≠ 0x12014) : (s.answer mb r).reg a = s.reg a := by
  have e : ∀ u : State, ∀ v, (u.set Reg.MB_EVENTS_DONE v).reg a = u.reg a := fun u v => reg_set_ne u Reg.MB_EVENTS_DONE v 0 0 h
  unfold State.answer
  simp only []
  split
  · rw [e, setMbox_reg]
  · rw [setMbox_reg]

/-- A command that acts at once, when its mailbox holds it and is the next to be served. -/
theorem act_eq (mb op : Nat) (s : State) (f : List Byte → State → State × Reply) (p : List Byte) (h : s.request mb op = some p) :
    act mb op s f = done s ((f p { s with lastServed := mb }).1.answer mb (f p { s with lastServed := mb }).2) := by
  unfold act; rw [h]

/-- A command whose mailbox holds no such command does nothing. -/
theorem act_none (mb op : Nat) (s : State) (f : List Byte → State → State × Reply) (h : s.request mb op = none) : act mb op s f = .next s := by
  unfold act; rw [h]

/-- The end of a command that answered mailbox `mb`: the state `u` that its effect left, and the answer. -/
theorem done_answer (s u : State) (mb : Nat) (r : Reply) (hp : u.pending = s.pending) : ∃ t, done s (u.answer mb r) = .next t ∧
    Answered mb r u t ∧ RegsKept [0x12014] u t ∧ { Shared u t with mbs := u.mbs } = u := by
  obtain ⟨g, b, hg⟩ := answer_eq u mb r
  obtain ⟨r', l, m, c, hd, hk⟩ := done_eq s (u.answer mb r)
  have hs : (u.answer mb r).self = u.self := by rw [hg]
  have hm : ∀ k, State.mbox { u.answer mb r with pending := s.pending, regs := r', logs := l, msix := m, self := { (u.answer mb r).self with sent := c } } k =
      (u.answer mb r).mbox k := fun k => rfl
  refine ⟨_, hd, ⟨?_, ?_⟩, ?_, ?_⟩
  · rw [hm, answer_mbox]
  · intro k h; rw [hm, answer_mbox_ne u r h]
  · intro a ha hb
    rw [hk a (by simp) hb]
    exact answer_reg u mb r (by simpa using ha)
  · rw [hg]
    exact congrArg (fun q => { u with pending := q }) hp.symm

/-- The same where the mailbox is served: it is the last served of the state that its effect left. -/
theorem served_answer (s u : State) (mb : Nat) (r : Reply) (hp : u.pending = s.pending) : ∃ t,
    done s (({ u with lastServed := mb } : State).answer mb r) = .next t ∧ Answered mb r u t ∧ RegsKept [0x12014] u t ∧ t.lastServed = mb ∧
    { Shared u t with mbs := u.mbs, lastServed := u.lastServed } = u := by
  obtain ⟨t, ht, ha, hk, hf⟩ := done_answer s { u with lastServed := mb } mb r hp
  exact ⟨t, ht, ha, hk, congrArg State.lastServed hf, congrArg (fun v : State => { v with lastServed := u.lastServed }) hf⟩

/-- A command that only reports, when its mailbox holds it. -/
theorem report_spec (mb op : Nat) (s : State) (f : List Byte → State → Reply) (p : List Byte) (h : s.request mb op = some p) :
    ∃ t, report mb op s f = .next t ∧ OnlyAnswered mb (f p { s with lastServed := mb }) s t := by
  obtain ⟨t, ht, ha⟩ := served_answer s s mb (f p { s with lastServed := mb }) rfl
  exact ⟨t, by unfold report; rw [act_eq mb op s _ p h]; exact ht, ha⟩

/-- A staging command that nothing turns away. -/
theorem stage_spec (mb op : Nat) (objs : List Byte → List Obj) (s : State) (refuse : List Byte → State → Option Reply) (p : List Byte)
    (h : s.request mb op = some p) (hr : refuse p { s with lastServed := mb } = none) (hc : CanStage mb (objs p) p s) :
    ∃ t, stage mb op objs s refuse = .next t ∧ Recorded mb op p (objs p) [] s t := by
  obtain ⟨h1, h2, h3, h4⟩ := hc
  obtain ⟨t, ht, ha, hk, hl, hf⟩ := served_answer s (s.setMbox mb { s.mbox mb with txn := (s.mbox mb).txn.add { op := op, payload := p } (objs p) }) mb
    (okD []) rfl
  refine ⟨t, ?_, ?_, ?_, ?_, hl, ?_⟩
  · unfold stage
    rw [act_eq mb op s _ p h]
    have e1 : State.get { s with lastServed := mb } Reg.FW_STATUS_STATE ≠ 4 := h1
    have e2 : (State.mbox { s with lastServed := mb } mb).txn.state = 1 := h2
    have e3 : State.conflict { s with lastServed := mb } mb (objs p) = false := h3
    have e4 : ¬ (State.stagedBytes { s with lastServed := mb } + p.length + 16 > 2 ^ 20) := Nat.not_lt.2 h4
    simp only [e1, e2, hr, e3, e4, if_false, ne_eq, not_true_eq_false, Bool.false_eq_true]
    exact ht
  · rw [ha.1, mbox_setMbox_self]
  · intro k hne; rw [ha.2 k hne, mbox_setMbox_ne _ _ hne]
  · intro a hx hy; rw [hk a hx hy, setMbox_reg]
  · exact congrArg (fun u : State => { u with mbs := s.mbs }) hf

/-- Outside an open transaction a staging command is answered NO_TXN (R664). -/
theorem stage_no_txn (mb op : Nat) (objs : List Byte → List Obj) (s : State) (refuse : List Byte → State → Option Reply)
    (extra : List Byte → State → State × List Byte) (p : List Byte) (h : s.request mb op = some p)
    (h1 : s.get Reg.FW_STATUS_STATE ≠ 4) (h2 : (s.mbox mb).txn.state ≠ 1) :
    ∃ t, stage mb op objs s refuse extra = .next t ∧ OnlyAnswered mb (err cNO_TXN) s t := by
  obtain ⟨t, ht, ha⟩ := served_answer s s mb (err cNO_TXN) rfl
  refine ⟨t, ?_, ha⟩
  unfold stage
  rw [act_eq mb op s _ p h]
  have e1 : State.get { s with lastServed := mb } Reg.FW_STATUS_STATE ≠ 4 := h1
  have e2 : (State.mbox { s with lastServed := mb } mb).txn.state ≠ 1 := h2
  simp only [e1, e2, if_false, ne_eq, not_false_eq_true, if_true]
  exact ht

end Sys2Proof.Machine
end

