-- ==== Sys2Proof/Machine/Pins.lean ====
section
/-! DEFINITION. What the output pins do, as functions of the state (R361, R645, R676, R751, R775, R795): nothing of the block reads them back. -/

namespace Sys2Proof.Machine

/-- What an output pin or pair does. -/
inductive PinLevel where
  | low
  | high
  /-- An open-drain pin that is not driven low. -/
  | released
  | highZ
  /-- A differential transmitter at electrical idle. -/
  | idle
  /-- The pin carries its signal. -/
  | active
  deriving DecidableEq, Repr

/-- A reset is in force: POR_N or RST_N is low. -/
def State.inReset (s : State) : Bool := s.get Reg.FW_STATUS_STATE == 0 || s.power.rstHeld

/-- Until firmware ready, and after an orderly shutdown, the pins behave as R751 says (R764). -/
def State.pinsHeld (s : State) : Bool := s.inReset || s.get Reg.FW_STATUS_STATE != 2

/-- INT_N and ALARM_N (R795). -/
def State.intPin (s : State) : PinLevel := if s.intAsserted then .low else .released
def State.alarmPin (s : State) : PinLevel := if s.alarmWhy ≠ 0 then .low else .released

/-- A level as a pin's level. -/
def levelOf (v : Bool) : PinLevel := if v then .high else .low

/-- TCLK_A, TCLK_B (R646), and the rate of their rising edges in Hz of DPLL time. -/
def State.tclkPin (s : State) (x : Nat) : PinLevel := if s.pinsHeld || s.tclkOff x then .low else .active
def State.tclkHz (s : State) (x : Nat) : Nat := if s.tclkPin x = .active then s.get Reg.TCLK_FREQ_FREQ_HZ x else 0

/-- FPO_A, FPO_B: low from reset until their first commit and while disabled (R645). -/
def State.fpoPin (s : State) (y : Nat) : PinLevel :=
  if s.pinsHeld then .low else levelOf (s.fpoLevel y (if s.frm.started then some (s.frm.lastMf, s.frm.mfn) else none))

/-- The DAC outputs: squelched, at 5 mV or less, or driven (R281, R751). -/
def State.dacPins (s : State) : PinLevel := if s.pinsHeld || s.flag Reg.TXS_STATUS_SQUELCHED then .idle else .active

/-- A GPIO pin: TX_GATE in its polarity (R277), the selected side in its polarity (R361, R377), OUT where MODE is 1, open-drain or not, else an input (R676, R679). -/
def State.gpioPin (s : State) (p : Nat) : PinLevel :=
  if s.pinsHeld then .highZ
  else if s.flag Reg.TXS_LEAF_CFG_GATE_EN && s.get Reg.TXS_LEAF_CFG_GATE_GPIO == p then
    levelOf (s.flag Reg.TXS_STATUS_GATE != s.flag Reg.TXS_LEAF_CFG_GATE_POL)
  else if s.flag Reg.PROT_CFG_EN && s.get Reg.PROT_CFG_SEL_GPIO == p then levelOf ((s.get Reg.PROT_STATUS_SEL == 1) != s.flag Reg.PROT_CFG_SEL_POL)
  else if s.pinOwners.contains p || s.get Reg.GPIO_CFG_MODE p != 1 then .highZ
  else if bitsOf (s.get Reg.GPIO_OUT_OUT) p 1 = 0 then .low
  else if s.flag Reg.GPIO_CFG_OPEN_DRAIN p then .highZ
  else .high

/-- A chip select of the optics SPI: low throughout its transfer (R677). -/
def State.spiSelect (s : State) (cs : Nat) : PinLevel :=
  if s.inReset then .highZ
  else match s.opt.spi with
    | some x => if x.target = cs then .low else .high
    | none => .high

/-- The transmitter of a lane that has left L0, or leaves it, is off from QUIESCED until 0.5 µs after an exit from L1, 2 ms after one from L2
(R591, R592). -/
def State.laneParked (s : State) (l : Nat) : Bool :=
  match (s.lane l).move with
  | none => s.pstate l != 0
  | some m =>
    if m.target = 0 then decide (s.clock < m.t0 + (if m.old = 1 then 6500 else msT 2))
    else m.old != 0 || s.qState 4 l == 2

/-- A lane of module mode whose transmitter has lost its source and sends nothing (R611). -/
def State.laneMuted (s : State) (l : Nat) : Bool :=
  if 16 ≤ l then s.modLane (l - 16) && s.flag Reg.MOD_STATUS_TX_FALLBACK_M l && !s.flag Reg.MOD_CFG_ON_LOS_MEDIA l
  else (List.range 8).any (fun m => s.modLane m && s.get Reg.MOD_CFG_HOST (16 + m) == l &&
    s.flag Reg.MOD_STATUS_TX_FALLBACK_H (16 + m) && !s.flag Reg.MOD_CFG_ON_LOS_HOST (16 + m))

/-- The transmitter of lane `l`, 0–15 host, 16–23 media: idle until committed, in L1 and L2, under near-end loopback, without a source, in thermal shutdown
(R591, R597, R611, R751, R762). -/
def State.lanePins (s : State) (l : Nat) : PinLevel :=
  if s.pinsHeld || s.flag Reg.PWR_STATUS_SHUTDOWN || s.laneFormat l == 0 || s.laneParked l || s.get Reg.LN_TEST_LOOPBACK l == 1 || s.laneMuted l then .idle
  else .active

/-- The transmitter of timing lane `t`: idle until TX_EN is committed (R751). -/
def State.timingPins (s : State) (t : Nat) : PinLevel := if s.pinsHeld || !s.flag Reg.TL_CFG_TX_EN t then .idle else .active

end Sys2Proof.Machine
end

