-- ==== Sys2Proof/Machine/Package.lean ====
section
/-! DEFINITION. The package (R746, R769–R778, R780, R786): where each ball is, what it carries, its direction, bank and reset state, and the limits of
rails and pins. Nothing of the block reads these back. -/

namespace Sys2Proof.Machine

/-! ### Rails (R746, R747, R778) -/

/-- The ten supplies. -/
inductive Rail where
  | aon | io | io2 | otp | dsp | fab | ser | conv | convA | serA
  deriving DecidableEq, Repr

/-- What R746 and R778 say of a rail: nominal, tolerance in 1/10 %, maximum current in mA, power-up group, absolute maximum; voltages in mV. -/
structure RailSpec where
  nominal : Nat
  tolerance : Nat
  maxCurrent : Nat
  group : Nat
  absMax : Nat
  deriving DecidableEq, Repr

/-- The rail's row; VDD_IO2 has two nominal voltages, of which the board's stands in `high`. -/
def Rail.spec (high : Bool) (r : Rail) : RailSpec :=
  match r with
  | .aon => ⟨800, 30, 200, 1, 950⟩
  | .io => ⟨1800, 50, 300, 2, 2000⟩
  | .io2 => ⟨if high then 3300 else 1800, 50, 100, 2, 3600⟩
  | .otp => ⟨1800, 50, 50, 2, 2000⟩
  | .dsp => ⟨720, 30, 17000, 3, 950⟩
  | .fab => ⟨750, 30, 15000, 3, 950⟩
  | .ser => ⟨750, 30, 6000, 3, 900⟩
  | .conv => ⟨900, 30, 6000, 3, 1050⟩
  | .convA => ⟨1500, 30, 1500, 4, 1650⟩
  | .serA => ⟨1200, 30, 1200, 4, 1350⟩

/-- The voltage a rail is held to: for the two core rails the commanded value (R746, R758). -/
def State.railGoal (s : State) (r : Rail) : Nat :=
  match r with
  | .dsp => s.rail 0
  | .fab => s.rail 1
  | _ => (r.spec s.power.straps.io2High).nominal

/-- A voltage in µV at the balls lies within the rail's tolerance (R746). -/
def State.railOk (s : State) (r : Rail) (uv : Nat) : Bool :=
  let g := s.railGoal r
  let t := (r.spec s.power.straps.io2High).tolerance
  decide (g * (1000 - t) ≤ uv ∧ uv ≤ g * (1000 + t))

/-- A group may start: every rail of the groups before it has passed 90 % of its nominal voltage (R747). -/
def groupMayStart (high : Bool) (uv : Rail → Nat) (g : Nat) : Bool :=
  [Rail.aon, .io, .io2, .otp, .dsp, .fab, .ser, .conv, .convA, .serA].all (fun r =>
    decide (g ≤ (r.spec high).group ∨ 900 * (r.spec high).nominal < uv r))

/-! ### Balls (R770–R774) -/

/-- What a ball carries. A pair has a P and an N ball. -/
inductive Ball where
  | adc (path : Nat) (neg : Bool)
  | dac (path : Nat) (neg : Bool)
  | laneTx (lane : Nat) (neg : Bool)
  | laneRx (lane : Nat) (neg : Bool)
  | pcieTx (lane : Nat) (neg : Bool)
  | pcieRx (lane : Nat) (neg : Bool)
  | pcieClock (neg : Bool)
  | xtal (out : Bool)
  | timingTx (lane : Nat) (neg : Bool)
  | timingRx (lane : Nat) (neg : Bool)
  | tref (i : Nat) (neg : Bool)
  | sref (neg : Bool)
  | tclk (i : Nat) (neg : Bool)
  /-- Single-ended signal k of R772. -/
  | signal (k : Nat)
  | rsvd
  | rail (r : Rail)
  | agnd
  | vss
  deriving DecidableEq, Repr

/-- The edge signals of R771: in rows 1, 34 and 36, and in columns 1, 3, 34 and 36. -/
def edgeBall (row col : Nat) : Option Ball :=
  let along (x from_ step n : Nat) (f : Nat → Bool → Ball) : Option Ball :=
    if x < from_ || n ≤ (x - from_) / step || 2 ≤ (x - from_) % step then none else some (f ((x - from_) / step) ((x - from_) % step == 1))
  let first (l : List (Option Ball)) : Option Ball := l.foldl Option.or none
  if row = 1 then first [along col 5 4 4 .adc, along col 21 4 4 .dac]
  else if row = 36 then along col 3 2 16 .laneTx
  else if row = 34 then along col 3 2 16 .laneRx
  else if col = 36 then along row 3 4 8 (fun m => .laneTx (16 + m))
  else if col = 34 then along row 3 4 8 (fun m => .laneRx (16 + m))
  else if col = 1 then
    first [along row 5 4 2 .pcieTx, along row 13 2 1 (fun _ => .pcieClock), along row 17 4 2 .timingTx, along row 25 2 4 .tref]
  else if col = 3 then
    first [along row 5 4 2 .pcieRx, along row 13 2 1 (fun _ => .xtal), along row 17 4 2 .timingRx, along row 25 2 1 (fun _ => .sref),
      along row 29 2 2 .tclk]
  else none

/-- The single-ended signals of R772 at rows 5, 7 and 9; ball (9, 33) is RSVD. -/
def signalBall (row col : Nat) : Option Ball :=
  if (row == 5 || row == 7 || row == 9) && 7 ≤ col && col < 34 then
    let k := 27 * ((row - 5) / 2) + (col - 7)
    some (if k < 80 then .signal k else .rsvd)
  else none

/-- The rectangles of R773: rows, columns, what their odd balls carry. -/
def railAreas : List ((Nat × Nat) × (Nat × Nat) × Ball) := [
  ((12, 21), (5, 20), .rail .dsp), ((22, 32), (5, 20), .rail .fab), ((12, 17), (21, 32), .rail .conv), ((18, 19), (21, 32), .rail .convA),
  ((20, 27), (21, 32), .rail .ser), ((28, 29), (21, 32), .rail .serA), ((30, 30), (21, 32), .rail .io), ((31, 31), (21, 28), .rail .io2),
  ((31, 31), (29, 32), .rail .aon), ((32, 32), (21, 24), .rail .otp), ((32, 32), (25, 32), .agnd)]

/-- The ball at (row, column): what no rule assigns is VSS (R774). -/
def ballAt (row col : Nat) : Ball :=
  match edgeBall row col, signalBall row col with
  | some b, _ => b
  | none, some b => b
  | none, none =>
    match railAreas.find? (fun a => a.1.1 ≤ row && row ≤ a.1.2 && a.2.1.1 ≤ col && col ≤ a.2.1.2) with
    | some a => if (row + col) % 2 = 1 then a.2.2 else .vss
    | none => .vss

/-- Where single-ended signal k lies (R772). -/
def signalPlace (k : Nat) : Nat × Nat := (5 + 2 * (k / 27), 7 + k % 27)

/-! ### Pin functions (R775) -/

/-- The direction of a ball's signal. -/
inductive PinDir where
  | input | output | both | openDrain | supply
  deriving DecidableEq, Repr

/-- What a ball does from the release of POR_N until firmware ready. -/
inductive PinRest where
  | terminated | pullUp | pullDown | noPull | highZ | low | idle | quietDac | oscillates | released | driven
  deriving DecidableEq, Repr

/-- The single-ended signals: direction, bank, reset state, in the order of R772. -/
def signalRow (k : Nat) : PinDir × Rail × PinRest :=
  if k < 3 then (.input, .io, .pullUp)
  else if k < 5 then (.input, .io, .noPull)
  else if k < 6 then (.openDrain, .io, .released)
  else if k < 7 then (.openDrain, .io, .low)
  else if k < 10 then (.input, .io, .pullUp)
  else if k < 11 then (.output, .io, .highZ)
  else if k < 12 then (.input, .io, .pullUp)
  else if k < 13 then (.both, .io, .highZ)
  else if k < 18 then (.input, .io, .noPull)
  else if k < 20 then (.openDrain, .io2, .released)
  else if k < 22 then (.input, .io, .noPull)
  else if k < 24 then (.openDrain, .io, .released)
  else if k < 27 then (.input, .io, .pullUp)
  else if k < 28 then (.output, .io, .highZ)
  else if k < 29 then (.input, .io, .pullUp)
  else if k < 31 then (.output, .io, .driven)
  else if k < 35 then (.both, .io, .driven)
  else if k < 37 then (.input, .io, .pullDown)
  else if k < 39 then (.output, .io, .low)
  else if k < 41 then (.output, .io, .driven)
  else if k < 42 then (.input, .io, .pullUp)
  else if k < 46 then (.output, .io, .driven)
  else if k < 48 then (.openDrain, .io2, .released)
  else if k < 64 then (.both, .io2, .highZ)
  else (.input, .io, .highZ)

/-- Direction, rail and reset state of a signal ball (R775); none for a supply ball. -/
def Ball.row (b : Ball) : Option (PinDir × Rail × PinRest) :=
  match b with
  | .adc _ _ => some (.input, .convA, .terminated)
  | .dac _ _ => some (.output, .convA, .quietDac)
  | .laneTx _ _ => some (.output, .serA, .idle)
  | .laneRx _ _ => some (.input, .serA, .terminated)
  | .pcieTx _ _ => some (.output, .serA, .idle)
  | .pcieRx _ _ => some (.input, .serA, .terminated)
  | .pcieClock _ => some (.input, .serA, .terminated)
  | .xtal out => some (if out then .output else .input, .io, .oscillates)
  | .timingTx _ _ => some (.output, .serA, .idle)
  | .timingRx _ _ => some (.input, .serA, .terminated)
  | .tref _ _ => some (.input, .io, .terminated)
  | .sref _ => some (.input, .serA, .terminated)
  | .tclk _ _ => some (.output, .io, .low)
  | .signal k => some (signalRow k)
  | .rsvd => none
  | .rail _ => none
  | .agnd => none
  | .vss => none

/-- The voltage in mV that each bank works at: the VDD_IO2 bank at the level sensed at the release of POR_N (R777). -/
def State.bankVolts (s : State) (r : Rail) : Nat := (r.spec s.power.straps.io2High).nominal

/-- An input level in mV of a single-ended pin: high, low, or between the thresholds, where nothing is said (R780). -/
def State.inputLevel (s : State) (r : Rail) (mv : Nat) : Option Bool :=
  let v := s.bankVolts r
  let hi := if v = 3300 then 2000000 else 650 * v
  let lo := if v = 3300 then 800000 else 350 * v
  if hi ≤ 1000 * mv then some true else if 1000 * mv ≤ lo then some false else none

/-! ### Body, heat and marking (R769, R786, R787) -/

/-- Body in µm, height, balls on a side, pitch, ball diameter, coplanarity, flatness, in µm; mass in mg; moisture level; reflow in °C. -/
def packageSpec : List (String × Nat) := [("body", 23000), ("height", 2900), ("grid", 36), ("pitch", 650), ("ball", 400), ("coplanarity", 150),
  ("flatness", 50), ("mass", 3600), ("moisture", 3), ("reflow", 260)]

/-- The lid temperature in 1/1000 °C below the junction's for a power in mW: 0.09 K/W from junction to case (R786). -/
def caseRise (junction : Int) (mw : Nat) : Int := junction - Int.ofNat (9 * mw / 100)

/-- The lid's lines: maker, ordering code, lot of 8 characters, date code of 4 (R787). -/
def lidMarking (code lot date : String) : List String := ["NORRAPO", code, lot, date]

end Sys2Proof.Machine
end

