-- ==== Sys2Proof/WellFormed.lean ====
section
/-! DEFINITION. Which commands a sender, the board or the line can form: bounds on operands that their types do not give. A meaning answers for an ill-formed
command too (mostly by leaving the state as it is), so no statement needs the check. -/

namespace Sys2Proof

/-- The address of a word of BAR0 (R8). -/
def wordAddr (a : Nat) : Bool := a < 0x1000000 && a % 4 == 0

/-- An access of at least one byte: within BAR0 on PCIe, at a 32-bit address on a serial target (R652). -/
def hostAccess (via : Iface) (a size : Nat) : Bool := decide (0 < size) && decide (a + size ≤ if via = .pcie then 0x1000000 else 2 ^ 32)

/-- Names of converters, lanes, ports and turnouts in range; at most one figure for each of the four converters. -/
def FrameMeas.wf (m : FrameMeas) : Bool :=
  m.clipped.length ≤ 4 && m.clipCycles.length ≤ 4 && m.rms.length ≤ 4 && m.muxErr.length ≤ 4 && m.wave.length ≤ 4 && m.waits.all (fun w => w.1 < 256) &&
    m.lanes.all (fun l => l.lane < 24) && m.ports.all (fun p => p.lane < 16) && m.clients.all (fun c => c.turnout < 256) &&
    m.ethernet.all (fun e => e.turnout < 256) && m.rills.all (fun r => r.turnout < 256)

/-- A whole number in a range. -/
def within (lo hi v : Int) : Bool := decide (lo ≤ v) && decide (v ≤ hi)

/-- The corrections of a slice lie in the ranges of R103: one of 3 comparators, a trim of 8 bits in steps of 25 fs, ±8 LSB of offset, a gain of 0.875 to
1.125, a centre tap of 0.75 to 1.25 and seven others within ±0.25. -/
def SliceCal.wf (c : SliceCal) : Bool :=
  decide (c.comparator < 3) && within (-128) 127 c.trim && within (-2048) 2048 c.offset && within 14336 18432 (Int.ofNat c.gain) &&
    c.fir.length == 8 && c.fir.zipIdx.all (fun e => if e.2 = 3 then within 3072 5120 e.1 else within (-1024) 1024 e.1)

/-- Corrections for the 65 slices of an ADC, 64 tap trims (R103, R118). -/
def FgAdc.wf (x : FgAdc) : Bool :=
  x.slices.length == 65 && x.slices.all (fun c => c.1.wf) && x.taps.length == 64 && x.taps.all (within (-128) 127)

/-- Four sub-DACs (R126). -/
def FgDac.wf (x : FgDac) : Bool := x.trims.length == 4 && x.settled.length == 4

/-- A codeword has as many bits as its code sends: 30,720, or 7,680 in a burst (R297, R310). -/
def CwResult.wf (burst : Bool) : CwResult → Bool
  | .terrace llrs => llrs.length = if burst then 7680 else 30720
  | .interop _ _ => !burst

/-- The command is one that can be sent. -/
def Instr.wf (i : Instr) : Bool :=
  match i with
  | .coldReset _ => true
  | .warmReset _ _ => true
  | .pcieReset => true
  | .railUndervoltage _ => true
  | .powerLoss => true
  | .resetRelease _ _ _ _ => true
  | .pcieLinkUp => true
  | .firmwareReady _ => true
  | .bootFailed => true
  | .linePllFirstLock => true
  | .localFrameBoundary m => m.wf
  | .multiframeBoundary figs => figs.length ≤ 32
  | .commitBoundary => true
  | .txnCommitDone _ => true
  | .timeSecondBoundary => true
  | .mailboxRing _ _ => true
  | .mailboxWindowWrite _ _ off _ => off < 0x400 && off % 4 == 0
  | .txFieldWrite _ addr _ => wordAddr addr
  | .w1cWrite _ addr _ _ => wordAddr addr
  | .statsSnap _ addr _ => wordAddr addr
  | .snapDone addr => wordAddr addr
  | .rcRead via span _ => hostAccess via span.addr span.size
  | .loWordRead via span => hostAccess via span.addr span.size
  | .timeLoRead _ => true
  | .logPop _ _ => true
  | .logThresh _ _ => true
  | .intMaskWrite _ _ _ => true
  | .msixUnmask _ => true
  | .bar2Read addr size => addr + size ≤ 2 ^ 28 && 0 < size && size ≤ 4096
  | .registerWrite via addr size vs => hostAccess via addr size && vs.length == (size + 3) / 4
  | .quenchDrained _ _ => true
  | .quenchTimeout _ _ _ => true
  | .xqRecentre _ shift => shift.all (within (-1024) 1024)
  | .modeChangeGate => true
  | .modeChangeDone => true
  | .clampEpisodeEnd _ _ => true
  | .calStepStart _ => true
  | .calStepMeasureEnd _ _ cal => cal.wf
  | .reqRotationStep _ => true
  | .fgCalDone adcs dacs => adcs.length == 4 && dacs.length == 4 && adcs.all FgAdc.wf && dacs.all FgDac.wf
  | .acqStepComplete _ _ _ => true
  | .acqStepTimeout _ => true
  | .acqTimeout _ => true
  | .furrowLosSet _ => true
  | .furrowLosClear _ => true
  | .lockLost _ _ => true
  | .fastReacqTimeout _ => true
  | .cycleSlip _ => true
  | .agcStep _ _ => true
  | .adaptTimeout _ => true
  | .burstDetect _ _ _ _ _ => true
  | .burstSyncTimeout _ => true
  | .burstCapture _ _ _ _ _ => true
  | .burstHeader _ _ _ _ => true
  | .burstEnd _ _ _ _ final => final.taps.length = 144 && final.levels.length = 4 && final.levels.all (fun m => 0 < m.1.val)
  | .grantMissed _ => true
  | .grantMapBuild starts => starts.length ≤ 8 * 511
  | .gmapLate => true
  | .surveyRetryWait => true
  | .leafGrantTimeout => true
  | .leafBurstTx _ => true
  | .codewordDecoded _ burst r => r.wf burst
  | .frameHuntWord _ _ => true
  | .frameReceived _ faws _ => faws.length % 2 = 1
  | .lofSet _ => true
  | .lofClear _ => true
  | .multiframeStreamRx _ _ => true
  | .mgmtMessageRx _ => true
  | .pqUnstableCheck => true
  | .holdoffExpire _ => true
  | .wtrExpire => true
  | .settlingEnd => true
  | .rlBlockRx _ _ _ => true
  | .rilllinkFrameRx _ early late _ => early.all (fun p => p < 160) && late.all (fun p => p < 160)
  | .rlAlignLoss _ => true
  | .slipFrameWrite _ _ _ => true
  | .slipRead _ _ => true
  | .cipherUnitTx _ _ => true
  | .cipherUnitRx _ _ _ => true
  | .cipherUnitEnd _ _ _ _ _ _ => true
  | .hostPortWordRx _ _ _ => true
  | .packetArrival _ _ _ _ => true
  | .parseStart => true
  | .packetClassified _ => true
  | .actionStage _ => true
  | .backwaterReentry => true
  | .headgateSelect _ => true
  | .packetEgress _ => true
  | .omrekRestart word => word < 262144
  | .scrubWord _ _ _ => true
  | .scrubLate _ => true
  | .scrubPassEnd _ => true
  | .taskDispatch => true
  | .orderGateAcquire _ _ => true
  | .taskCommit _ => true
  | .lateralConvert => true
  | .iAdd _ _ => true
  | .iSub _ _ => true
  | .iAnd _ _ => true
  | .iOr _ _ => true
  | .iXor _ _ => true
  | .iShl _ _ => true
  | .iShr _ _ => true
  | .iSar _ _ => true
  | .iMul _ _ => true
  | .iSlt _ _ => true
  | .iSltu _ _ => true
  | .iAddi _ _ => true
  | .iAndi _ _ => true
  | .iOri _ _ => true
  | .iXori _ _ => true
  | .iShli _ _ => true
  | .iShri _ _ => true
  | .iSari _ _ => true
  | .iLui _ _ => true
  | .iBeq _ _ => true
  | .iBne _ _ => true
  | .iBlt _ _ => true
  | .iBltu _ _ => true
  | .iBge _ _ => true
  | .iBgeu _ _ => true
  | .iJal _ _ => true
  | .iJr _ _ => true
  | .iLdb _ _ => true
  | .iLdh _ _ => true
  | .iLdw _ _ => true
  | .iLdd _ _ => true
  | .iStb _ _ => true
  | .iSth _ _ => true
  | .iStw _ _ => true
  | .iStd _ _ => true
  | .iPlb _ _ => true
  | .iPlh _ _ => true
  | .iPlw _ _ => true
  | .iPld _ _ => true
  | .iPsb _ _ => true
  | .iPsh _ _ => true
  | .iPsw _ _ => true
  | .iPsd _ _ => true
  | .iPadj _ _ => true
  | .iCrc _ _ => true
  | .iCsum _ _ => true
  | .iOread _ _ => true
  | .iOadd _ _ => true
  | .iOswp _ _ => true
  | .iOcas _ _ => true
  | .iUread _ _ => true
  | .iUadd _ _ => true
  | .iUswp _ _ => true
  | .iUcas _ _ => true
  | .iCsrr _ _ => true
  | .iCsrw _ _ => true
  | .iEmit _ _ => true
  | .iEnd _ _ => true
  | .iOrdrel _ _ => true
  | .laneSignalDetect _ => true
  | .laneSignalLoss _ => true
  | .laneAdaptLock _ _ _ _ _ => true
  | .laneAdaptFail _ => true
  | .laneLockLoss _ => true
  | .ctleStep _ _ => true
  | .portAlign _ _ => true
  | .portAlignLoss _ _ _ => true
  | .rsCodewordRx _ _ => true
  | .hiSerWindow _ => true
  | .lanePstateDone _ => true
  | .laneExitTimeout _ => true
  | .patLock _ _ => true
  | .tlSyncGain _ => true
  | .tlSyncLoss _ _ => true
  | .tlRealign _ => true
  | .tlMarkRx _ _ => true
  | .todMessageRx _ _ _ => true
  | .todMessageTx _ => true
  | .markSeenTimeout _ => true
  | .moduleFallback _ _ => true
  | .moduleFallbackEnd _ _ => true
  | .innerLockLoss _ => true
  | .modMeasureDone means => 0 < means.1.val
  | .leafMeasureDone _ => true
  | .refActivityLoss _ => true
  | .refActivityReturn _ => true
  | .freqGateEnd _ _ => true
  | .refQualify _ => true
  | .dpllLock => true
  | .historyOk => true
  | .holdoverExpire => true
  | .fpiEdge _ => true
  | .fpiMiss _ => true
  | .txnIdleTimeout _ => true
  | .gpioEdge _ _ => true
  | .gaugeTimerTrigger => true
  | .gaugeConversionEnd _ _ => true
  | .gaugeSequenceEnd => true
  | .tapCaptureStart => true
  | .tapCaptureDone _ words => 16384 ≤ words.length
  | .logRecordWrite _ => true
  | .sampleTag _ => true
  | .sampleRecordWrite _ => true
  | .challengeExpire => true
  | .fiTimeout _ => true
  | .fiReorderIdle _ => true
  | .selftestDone _ _ _ _ _ => true
  | .otpWriteDone _ => true
  | .avsStep _ _ _ => true
  | .pmbusRetry _ => true
  | .pmbusStatusPoll _ _ => true
  | .thermalSample temps => temps.length = 6
  | .throttleStep => true
  | .thermalShutdown => true
  | .shutdownQuiesced => true
  | .shutdownSafeOff => true
  | .sysLatencySet _ => true
  | .sysLatencyGet _ => true
  | .sysQuenchTimeoutSet _ => true
  | .sysModeSet _ => true
  | .sysModeGet _ => true
  | .sysLoopBoundsSet _ => true
  | .sysLoopBoundsGet _ => true
  | .gpioCfgSet _ => true
  | .gpioWrite _ => true
  | .gpioGet _ => true
  | .optBusCfgSet _ => true
  | .optSpiXfer _ => true
  | .optI2cXfer _ => true
  | .gaugeCfgSet _ => true
  | .gaugeLimitSet _ => true
  | .gaugeTrigger _ => true
  | .gaugeUrgent _ => true
  | .gaugeRead _ => true
  | .tapCfgSet _ => true
  | .tapArm _ => true
  | .tapRead _ => true
  | .logTelemSet _ => true
  | .logStatusGet _ => true
  | .perfCfgSet _ => true
  | .perfLatCfgSet _ => true
  | .perfClear _ => true
  | .perfSampleRead _ => true
  | .perfCountersGet _ => true
  | .sysReset _ => true
  | .sysShutdown _ => true
  | .pwrCfgSet _ => true
  | .pwrStatusGet _ => true
  | .intRouteSet _ => true
  | .intStatusGet _ => true
  | .txnBegin _ => true
  | .txnCommit _ => true
  | .txnRollback _ => true
  | .txnStatus _ => true
  | .lineRxCfgSet _ => true
  | .lineRxStatusGet _ => true
  | .lineReacquire _ => true
  | .lineTxCfgSet _ => true
  | .lineTxSquelch _ => true
  | .lineTxStatusGet _ => true
  | .dacCorrSet _ => true
  | .txMaskSet _ => true
  | .dpdCurveSet _ => true
  | .dpdUpdate _ => true
  | .fecCfgSet _ => true
  | .fecStatusGet _ => true
  | .fecHunt _ => true
  | .fecBurstStatusGet _ => true
  | .frmCfgSet _ => true
  | .frmStatusGet _ => true
  | .protCfgSet _ => true
  | .protCmd _ => true
  | .protStatusGet _ => true
  | .tsiMapSet _ => true
  | .tsiMapClear _ => true
  | .tsiStatusGet _ => true
  | .rilllinkLaneSet _ => true
  | .rilllinkStatusGet _ => true
  | .slipStatusGet _ => true
  | .laneCfgSet _ => true
  | .laneTestSet _ => true
  | .lanePstate _ => true
  | .laneErrInject _ => true
  | .laneStatusGet _ => true
  | .tlaneCfgSet _ => true
  | .tlaneStatusGet _ => true
  | .modLaneSet _ => true
  | .modDpdCurveSet _ => true
  | .modLevelMeasure _ => true
  | .modDpdUpdate _ => true
  | .modStatusGet _ => true
  | .furrowRxSet _ => true
  | .furrowAdaptSet _ => true
  | .furrowRxStatusGet _ => true
  | .furrowReacquire _ => true
  | .furrowTxSet _ => true
  | .furrowTxStatusGet _ => true
  | .leafProvision _ => true
  | .leafAdmit _ => true
  | .leafEvict _ => true
  | .leafRelease _ => true
  | .leafStatusGet _ => true
  | .leafSeedGet _ => true
  | .burstCfgSet _ => true
  | .leafListGet _ => true
  | .leafSelfSet _ => true
  | .leafSelfStatusGet _ => true
  | .leafLevelMeasure _ => true
  | .turnoutClientSet _ => true
  | .turnoutPktSet _ => true
  | .intakeCfgSet _ => true
  | .deeplookSet _ => true
  | .ternSet _ => true
  | .ternGet _ => true
  | .flowAdd _ => true
  | .flowDel _ => true
  | .flowGet _ => true
  | .turnoutPktStatusGet _ => true
  | .intakeStatusGet _ => true
  | .hgCfgSet _ => true
  | .hgTurnoutSet _ => true
  | .hgCqSet _ => true
  | .policerSet _ => true
  | .policerStatusGet _ => true
  | .hgQueueStatusGet _ => true
  | .hgStatusGet _ => true
  | .cqReceive _ => true
  | .cqRelease _ => true
  | .engImageLoad _ => true
  | .engImageSelect _ => true
  | .engCfgSet _ => true
  | .engLateralSet _ => true
  | .engTurnoutSet _ => true
  | .engLatHold _ => true
  | .engLatHoldDone => true
  | .engStateRead _ => true
  | .engStateWrite _ => true
  | .engStatusGet _ => true
  | .engProgGet _ => true
  | .keyImport _ => true
  | .keyErase _ => true
  | .keyStatusGet _ => true
  | .ctxWrite _ => true
  | .ctxClear _ => true
  | .ctxSave _ => true
  | .ctxRestore _ => true
  | .cipherTurnoutSet _ => true
  | .cipherRoll _ => true
  | .cipherUnblock _ => true
  | .cipherVerify _ => true
  | .cipherStatusGet _ => true
  | .ctxStatusGet _ => true
  | .timingCfgSet _ => true
  | .refCfgSet _ => true
  | .timingOutSet _ => true
  | .timingStatusGet _ => true
  | .refStatusGet _ => true
  | .timeGet _ => true
  | .timeStep _ => true
  | .timeSet _ => true
  | .memScrub _ => true
  | .memCfgSet _ => true
  | .memStatusGet _ => true
  | .memFlipArm _ => true
  | .testChallenge _ => true
  | .testUnlock _ => true
  | .testLock _ => true
  | .testStatusGet _ => true
  | .otpProgram _ => true
  | .selftestRun _ => true
  | .fiStart _ => true
  | .fiStop _ => true
  | .fiStatusGet _ => true
  | .calRun _ => true
  | .calForeground _ => true
  | .calMaintSet _ => true
  | .calCfgSet _ => true
  | .convCtrlSet _ => true
  | .calStatusGet _ => true
  | .calSliceGet _ => true
  | .fwDownload _ => true
  | .fwStatusGet _ => true
  | .fwFlashWrite _ => true
  | .fwFlashWriteDone => true
  | .linePllLockLoss => true
  | .linePllRelock => true
  | .innerLockGain _ => true
  | .huntScreen _ llrs => llrs.length = 30780
  | .tlCharacterRx _ _ => true
  | .rstNRelease => true
  | .optSpiXferDone inBytes => inBytes.length ≤ 960
  | .optI2cXferDone _ inBytes => inBytes.length ≤ 256
  | .keyTransferDone => true

end Sys2Proof
end

