-- ==== Sys2Proof/Tests/Slice0.lean ====
section
/-! SUPPORT. Tests: for each check of WellFormed a command that it refuses; values worked out in the spec's examples; and for each statement with premises,
states and operands in which the premises of its clauses hold together. -/

namespace Sys2Proof.Tests

set_option Elab.async false
open Sys2Proof Sys2Proof.Machine

/-- A field's value at indices `i`, `j`. -/
structure Put where
  f : Field
  v : Nat
  i : Nat := 0
  j : Nat := 0

/-- A state with some fields set. -/
def st (l : List Put) (s : State := State.reset) : State := l.foldl (fun s p => s.set p.f p.v p.i p.j) s

/-- The descriptor at `a`. -/
def desc (a : Nat) : RegDesc := (findDesc regDescs a).getD ⟨"", 0, 0, 0, 0, 0, 0, 0, 0, 0, 0, 0, 0⟩

/-- Mailbox 1 holds command `op` with payload `p`, taken and checked. -/
def req (op : Nat) (p : List Byte) (s : State := State.reset) : State :=
  s.setMbox 1 { putData { s.mbox 1 with phase := .taken } 2 p with
    words := tput 0 (tput 0 (putData { s.mbox 1 with phase := .taken } 2 p).words 0 (BitVec.ofNat 32 op)) 1 (BitVec.ofNat 32 p.length) }

/-- Mailbox 1 has an open transaction. -/
def opn (s : State := State.reset) : State := s.setMbox 1 { s.mbox 1 with txn := { (s.mbox 1).txn with state := 1, id := 1 } }

/-- Mailbox 1 holds command `op`, which runs on. -/
def run (op : Nat) (p : List Byte) (s : State := State.reset) : State :=
  (req op p s).setMbox 1 { (req op p s).mbox 1 with phase := .running }

/-- An image whose code is `code`. -/
def img (code : List Nat) : List Byte := bytes 4 0 ++ bytes 4 7 ++ bytes 4 code.length ++ bytes 4 0 ++ List.replicate 16384 0 ++ code.flatMap (bytes 4)

/-- An instruction word of form R, and of forms I and B. -/
def insR (op x y z f : Nat) : Nat := op * 2 ^ 26 + x * 2 ^ 21 + y * 2 ^ 16 + z * 2 ^ 11 + f * 2 ^ 8
def insI (op x y i : Nat) : Nat := op * 2 ^ 26 + x * 2 ^ 21 + y * 2 ^ 16 + i

/-- A task at instruction 1 whose registers 1, 2 and 3 hold `a`, `b` and `c`. -/
def tk (a b c : DWord) : Task := { pkt := 9, prog := 0, pc := 1, regs := [(1, a), (2, b), (3, c)], budget := 100, data := (List.range 80).map (BitVec.ofNat 8), dmem := [(8, 1), (9, 2), (15, 0x80)] }

/-- The packet of that task. -/
def pk (ordered : Bool := false) : Pkt := { data := (List.range 84).map (BitVec.ofNat 8), turnout := 4, orig := 4, num := 6, ordered := ordered }

/-- Engine 0 runs `k` on thread 0, with instruction `w` at address 1 of four. -/
def eng (w : Nat) (k : Task) (p : Pkt := pk) : State :=
  { clock := 130000, eng := { images := [(1, img [0, w, 0, 0])], latGen := [(0, 1)], tasks := [(0, some k)] }, pk := { pkts := [(9, some p)] } }

/-! ### Ill-formed commands -/

theorem test_wf_mailbox_offset_unaligned : Instr.wf (.mailboxWindowWrite .pcie 0 0x3FE 0) = false := by decide +kernel
theorem test_wf_mailbox_offset_beyond : Instr.wf (.mailboxWindowWrite .pcie 0 0x400 0) = false := by decide +kernel
theorem test_wf_tx_write_unaligned : Instr.wf (.txFieldWrite .pcie 0x100006 0) = false := by decide +kernel
theorem test_wf_tx_write_beyond : Instr.wf (.txFieldWrite .spi 0x1000000 0) = false := by decide +kernel
theorem test_wf_w1c_unaligned : Instr.wf (.w1cWrite .pcie 0x12015 1 0) = false := by decide +kernel
theorem test_wf_snap_unaligned : Instr.wf (.statsSnap .pcie 0x1401D 1) = false := by decide +kernel
theorem test_wf_snap_done_unaligned : Instr.wf (.snapDone 0x1401D) = false := by decide +kernel
theorem test_wf_rc_read_beyond : Instr.wf (.rcRead .pcie ⟨0xFFFFFE, 4⟩ 0) = false := by decide +kernel
theorem test_wf_lo_read_empty : Instr.wf (.loWordRead .pcie ⟨0x10, 0⟩) = false := by decide +kernel
theorem test_wf_serial_read_beyond : Instr.wf (.rcRead .i2c ⟨0xFFFFFFFE, 4⟩ 0) = false := by decide +kernel
theorem test_wf_bar2_empty : Instr.wf (.bar2Read 0 0) = false := by decide +kernel
theorem test_wf_bar2_beyond : Instr.wf (.bar2Read 0xFFFFFFF 2) = false := by decide +kernel
theorem test_wf_bar2_long : Instr.wf (.bar2Read 0 4097) = false := by decide +kernel
theorem test_wf_write_words : Instr.wf (.registerWrite .pcie 0 8 [0]) = false := by decide +kernel
theorem test_wf_write_empty : Instr.wf (.registerWrite .pcie 0 0 []) = false := by decide +kernel
theorem test_wf_frame_five_adcs : Instr.wf (.localFrameBoundary { clipped := [0, 0, 0, 0, 0] }) = false := by decide +kernel
theorem test_wf_frame_lane_24 : Instr.wf (.localFrameBoundary { lanes := [{ lane := 24 }] }) = false := by decide +kernel
theorem test_wf_multiframe_33_figures : Instr.wf (.multiframeBoundary (List.replicate 33 { snr := 0, snrX := 0, snrY := 0, cd := 0, dgd := 0, pdl := 0, freq := 0 })) = false := by decide +kernel
theorem test_wf_cal_seven_taps : Instr.wf (.calStepMeasureEnd 0 {} { fir := [0, 0, 0, 4096, 0, 0, 0] }) = false := by decide +kernel
theorem test_wf_cal_gain_beyond : Instr.wf (.calStepMeasureEnd 0 {} { gain := 18433 }) = false := by decide +kernel
theorem test_wf_fg_cal_three_adcs : Instr.wf (.fgCalDone (List.replicate 3 { slices := [], taps := [] }) []) = false := by decide +kernel
theorem test_wf_recentre_beyond : Instr.wf (.xqRecentre 0 (some 1025)) = false := by decide +kernel
theorem test_wf_burst_143_taps : Instr.wf (.burstEnd 0 0 0 0 ⟨List.replicate 143 0, List.replicate 4 (1, 1)⟩) = false := by decide +kernel
theorem test_wf_burst_level_zero : Instr.wf (.burstEnd 0 0 0 0 ⟨List.replicate 144 0, List.replicate 4 (0, 1)⟩) = false := by decide +kernel
theorem test_wf_grants_beyond : Instr.wf (.grantMapBuild (List.replicate 4089 0)) = false := by decide +kernel
theorem test_wf_codeword_short : Instr.wf (.codewordDecoded 0 false (.terrace [(1, true)])) = false := by decide +kernel
theorem test_wf_burst_codeword_interop : Instr.wf (.codewordDecoded 0 true (.interop true 0)) = false := by decide +kernel
theorem test_wf_hunt_screen_short : Instr.wf (.huntScreen 0 []) = false := by decide +kernel
theorem test_wf_frame_two_faws : Instr.wf (.frameReceived 0 [0, 0] none) = false := by decide +kernel
theorem test_wf_rill_late_beyond : Instr.wf (.rilllinkFrameRx 0 [] [160] 0) = false := by decide +kernel
theorem test_wf_rill_early_beyond : Instr.wf (.rilllinkFrameRx 0 [160] [] 0) = false := by decide +kernel
theorem test_wf_restart_word_beyond : Instr.wf (.omrekRestart 262144) = false := by decide +kernel
theorem test_wf_level_zero : Instr.wf (.modMeasureDone (0, 5)) = false := by decide +kernel
theorem test_wf_short_capture : Instr.wf (.tapCaptureDone [] [0]) = false := by decide +kernel
theorem test_wf_five_sensors : Instr.wf (.thermalSample [0, 0, 0, 0, 0]) = false := by decide +kernel
theorem test_wf_i2c_257_bytes : Instr.wf (.optI2cXferDone 0 (List.replicate 257 0)) = false := by decide +kernel
theorem test_wf_spi_961_bytes : Instr.wf (.optSpiXferDone (List.replicate 961 0)) = false := by decide +kernel

/-- The end of a burst with its taps and levels, and a write of 8 bytes at any address, are well formed. -/
theorem test_wf_accepts : Instr.wf (.burstEnd 0 0 0 0 ⟨List.replicate 144 0, List.replicate 4 (1, 1)⟩) = true ∧ Instr.wf (.registerWrite .pcie 3 8 [0, 5]) = true := by decide +kernel

/-! ### Pins and straps -/

/-- Spec R751, R795: in reset ALARM_N is low, INT_N released, a lane transmitter idle and a GPIO an input. -/
theorem test_pins_in_reset :
    State.reset.alarmPin = .low ∧ State.reset.intPin = .released ∧ State.reset.lanePins 0 = .idle ∧ State.reset.gpioPin 3 = .highZ := by
  decide +kernel

/-- Spec R776: both straps high give the I²C address 0x4B. -/
theorem test_straps : (match exec (.resetRelease 0 5 3 true) State.reset with | .next t => t.power.straps | _ => {}) = ⟨5, 0x4B, true⟩ := by
  decide +kernel

/-! ### Values of the spec's worked examples -/

/-- Spec chapter 6: at H = 2.50 a block of 32 bits fits the composition (122, 6) and not (123, 5). -/
theorem test_composition_at_2_50 : amplitudes 40 = 2 ∧ blockBits 40 = 160 ∧ 2 ^ 32 ≤ multinomial 128 [122, 6] ∧ multinomial 128 [123, 5] < 2 ^ 32 := by
  decide +kernel

/-- Spec chapter 6: with ρ = 0.9000 and STEP 4, y_32 goes from 4,096 to 4,572 and y_16 from 2,048 to 2,101. -/
theorem test_curve_points : dpdPoint 4 14746 32 4096 = some 4572 ∧ dpdPoint 4 14746 16 2048 = some 2101 := by decide +kernel

/-- Spec chapter 10: a 100G turnout of 81 rills has units of 506,250 bits and 63,257 bytes of ciphertext. -/
theorem test_unit_of_100g : ethRills 0 = 81 ∧ unitBytes (81 * 6250) = 63257 := by decide +kernel

/-- Spec chapter 7: a burst codeword at RATE_SEL 1 carries 803 payload bytes. -/
theorem test_burst_bytes : burstBytes 1 = 803 := by decide +kernel

/-- A 280 GBd line of 32 furrows with F12 at H = 5.25 and RATE_SEL 1. -/
def line280 : State := st [⟨Reg.RX_CFG_RATE_MBD, 280000, 0, 0⟩, ⟨Reg.RX_CFG_NFURROW, 4, 0, 0⟩, ⟨Reg.FR_STATUS_H_NOW, 84, 12, 0⟩, ⟨Reg.FR_RX_CTRL_RATE_SEL, 1, 12, 0⟩]

/-- Spec chapters 2 and 8: its furrows carry 1,093,750 symbols a multiframe, frames of 375,152 bits plus J, and 60 rills. -/
theorem test_line_figures : line280.mfSymbols = 1093750 ∧ line280.frameLen 12 = 375152 ∧ line280.rillsOf 84 1 = 60 := by decide +kernel

/-- Spec chapter 5: a 16-point burst of 4 codewords takes 4,336 symbols there, and a guard of 32 ns 280. -/
theorem test_burst_symbols : (st [⟨Reg.LF_PROFILE_BURST_MOD, 1, 37, 0⟩] line280).grantSymbols { mf := 0, type := 0, leaf := 37, furrow := 30, start := 0, len := 4 } = 4336 ∧
    line280.guard 32 = 280 := by decide +kernel

/-- Spec chapter 11: both directions of the example's flow give the hash input 05 06 0A 01 02 03 C0 00 02 0A C0 00 01 BB. -/
theorem test_hash_input : hashInput 2 { domain := 5, proto := 6, src := 0x0A010203, dst := 0xC000020A, sport := 49152, dport := 443 } =
      [0x05, 0x06, 0x0A, 0x01, 0x02, 0x03, 0xC0, 0x00, 0x02, 0x0A, 0xC0, 0x00, 0x01, 0xBB] ∧
    hashInput 2 { domain := 5, proto := 6, src := 0xC000020A, dst := 0x0A010203, sport := 443, dport := 49152 } =
      hashInput 2 { domain := 5, proto := 6, src := 0x0A010203, dst := 0xC000020A, sport := 49152, dport := 443 } := by decide +kernel

/-- Ethernet, two VLAN tags, IPv4, UDP to port 4789, VXLAN with VNI 7,001, Ethernet, IPv6, TCP. -/
def tunnelled : List Byte :=
  List.replicate 12 2 ++ [0x81, 0] ++ [0, 1, 0x81, 0] ++ [0, 2, 8, 0] ++ ([0x45, 0] ++ bytesBe 2 110 ++ [0, 0, 0, 0, 64, 17] ++ List.replicate 10 1) ++
    ([0, 9] ++ bytesBe 2 4789 ++ bytesBe 2 90 ++ [0, 0]) ++ ([8, 0, 0, 0] ++ bytesBe 3 7001 ++ [0]) ++ (List.replicate 12 3 ++ [0x86, 0xDD]) ++
    ([0x60, 0, 0, 0, 0, 20, 6, 64] ++ List.replicate 32 5) ++ (List.replicate 12 0 ++ [0x50, 0] ++ List.replicate 6 0)

/-- Spec chapter 11: under PARSE_HDRS 8 the eight headers before TCP are parsed, they end at 14, 18, 22, 42, 50, 58, 72 and 112, and DEPTH_EXCEEDED is set; so
too where PARSE_BYTES is 128. -/
theorem test_parse_stops_before_tcp :
    ((parse { hdrs := 8, limit := 256, tpid := 0, vxlan := 4789, geneve := 6081 } tunnelled).hdrs.map (fun h => h.off + h.len) = [14, 18, 22, 42, 50, 58, 72, 112] ∧
      (parse { hdrs := 8, limit := 256, tpid := 0, vxlan := 4789, geneve := 6081 } tunnelled).depth = true) ∧
    parse { hdrs := 16, limit := 128, tpid := 0, vxlan := 4789, geneve := 6081 } tunnelled =
      parse { hdrs := 8, limit := 256, tpid := 0, vxlan := 4789, geneve := 6081 } tunnelled := by decide +kernel

/-- A line of 336 GS/s whose ADC 1 clips `n` samples in a frame. -/
def clips (n : Nat) : State := ((st [⟨Reg.RX_CFG_RATE_MBD, 280000, 0, 0⟩, ⟨Reg.ADC_STATUS_STATE, 2, 1, 0⟩]).adcFrame { clipped := [0, n] } 1)

/-- Spec chapter 3: at 336 GS/s with OVL_PPM 100 a frame is in overload above 168 clipped samples. -/
theorem test_overload_threshold : (clips 168).count Cnt.OVL_FRAMES 1 = 0 ∧ (clips 169).count Cnt.OVL_FRAMES 1 = 1 := by decide +kernel

/-- Spec chapter 1: Q1234 serves T154, class 2; chapter 20: the opcode of an instruction is its top six bits. -/
theorem test_opcode_field : insOp 0xFC000000 = 0x3F := by decide +kernel

/-- A frame with its FCS passes the check, and fails it with a bit changed. -/
theorem test_fcs : fcsOk ([1, 2, 3] ++ fcs [1, 2, 3]) = true ∧ fcsOk ([1, 2, 2] ++ fcs [1, 2, 3]) = false := by decide +kernel

/-- The check value of CRC-32 over the digits 1 to 9. -/
theorem test_crc32 : crc32 [0x31, 0x32, 0x33, 0x34, 0x35, 0x36, 0x37, 0x38, 0x39] = 0xCBF43926 := by decide +kernel

/-! ### Premises of the statements: states -/

def wrapped : List Byte := bytesBe 40 0x2422283c0b5086713cef3ecb39b261687b36098f7bf5c0b7641be47df7f927bd94b44a278fcbb046
def wrapped7 : List Byte := bytesBe 64 9482931787411582207441851087147809674942640229008860356598774131802791820696972910128822598055300196142002623144303655399359968899535055713642474885114012
def body7 : List Byte := bytes 32 5 ++ [1, 2, 3, 4, 5, 6, 7, 1] ++ bytesBe 5 9 ++ bytesBe 5 3 ++ bytes 6 0
def sLog : State := { clock := 10000, logs := { held := [(7, ⟨0x25, 0, [1], 0⟩), (8, ⟨0x25, 13, [2], 0⟩)], seq := 9, queues := [(14, [⟨0x25, 26, [3], 0⟩])] } }
def sLog5 : State := { clock := 10000, logs := { seq := 9, queues := [(5, [⟨0x25, 26, [3], 0⟩])] } }
def c01_41 : State := req 0x201 []
def pS : List Byte := [3,1,0,0,5,6,7,8]
def sBusy : State := st [{ f := Reg.FW_STATUS_STATE, v := 2 }, {f := Reg.TXF_CTRL_EN, v := 1, i := 3}] { clock := 77, msix := { enable := true } }
def c02_13 : State := req 0x0145 pS (opn sBusy)
def c02_78 : State := req 0x0145 pS (st [⟨Reg.FW_STATUS_STATE, 4,0,0⟩] (opn sBusy))
def c02_79 : State := req 0x0145 pS sBusy
def c02_80 : State := (req 0x0145 pS (opn sBusy)).setMbox 2 ({ txn := { state := 1, locks := (fun _ => [(.tap, 0)]) pS } })
def c02_210 : State := req 0x0121 pS (opn sBusy)
def c02_210_1 : State := req 0x0121 pS (opn sBusy)
def c03_16 : State := req 0x0707 ([5, 0, 1, 0, 7, 0, 0, 0, 9, 0] ++ wrapped7) (opn ({ st [⟨Reg.KS_STATUS_STATE,2,9,0⟩] with cip := { keys := [(9, { key := 9 })] } }))
def c03_10 : State := req 0x0502 ([0,0,7,4] ++ bytes 8 99) (opn (st [⟨Reg.BR_SHARED_MASK,0x10,0,0⟩]))
def c03_9 : State := req 0x0501 ([255,3,1,0] ++ bytes 8 99) (opn (State.reset))
def c03_22 : State := req 0x0341 ([255,7,1,0]) (opn (State.reset))
def c03_11 : State := req 0x0509 ([0,0,0,0] ++ bytes 8 99) (opn (State.reset))
def c03_23 : State := req 0x0316 ([4,0,0,0] ++ (List.range 4).flatMap (fun _ => bytes 2 16384)) (opn (st [⟨Reg.MODE_STATUS_MODE,2,0,0⟩]))
def c03_19 : State := req 0x0601 ([255,1,0,0] ++ bytes 4 (2 + 160 * 1024)) (opn (State.reset))
def c03_7 : State := req 0x0401 ([0,0] ++ bytes 10 0) (opn (State.reset))
def c03_8 : State := req 0x0405 ([0,0] ++ bytes 10 0) (opn (State.reset))
def c03_12 : State := req 0x0704 ([5,0,7,0] ++ bytes 20 99) (opn (st [⟨Reg.KS_STATUS_STATE,1,7,0⟩]))
def c03_21 : State := req 0x0340 ([0,0,0,8] ++ bytes 4 (2 + 160 * 1024)) (opn (State.reset))
def c03_5 : State := req 0x0122 ([5,0] ++ bytes 10 0) (opn (State.reset))
def c03_17 : State := req 0x0709 ([255,1,0,0]) (opn (State.reset))
def c03_24 : State := req 0x0363 ([0x81,0,0,0] ++ (List.range 8).flatMap (fun _ => bytes 2 16384)) (opn (State.reset))
def c03_13 : State := req 0x0707 ([5,0,0,0,0,0,0,0,7,0,9,0,0,0] ++ bytes 7 99 ++ [1,0,0,0,0,1,0,0,0,0,9]) (opn (st [⟨Reg.KS_STATUS_STATE,1,7,0⟩,⟨Reg.KS_KCV_KCV,9,7,0⟩]))
def rv2 : State → List Byte → List Byte := (fun s _ => bytes 8 s.devNs ++ bytes 2 s.devFrac ++ [BitVec.ofNat 8 s.dpll, 0])
def c03_37 : State := req 0x0806 (bytes 12 0) (opn)
def c03_116 : State := req 0x0706 ([5,0,1,0,3,0,0,0]) (opn ({ st [⟨Reg.CTX_STATUS_KEY_VALID,1,5,0⟩,⟨Reg.KS_STATUS_STATE,2,3,0⟩] with cip := { keys := [(0, { key := 5 }), (3, { key := 9 })] } }))
def c03_112 : State := req 0x050A ([]) (opn (st [⟨Reg.MODE_STATUS_MODE,2,0,0⟩]))
def c03_111 : State := req 0x0123 ([2,32,0,0]) (opn (State.reset))
def c03_108 : State := req 0x0147 ([1,0,2,0]) (opn (st [⟨Reg.TAP_STATUS_FILL,3,0,0⟩] { tap := { buf := [5,6,7] } }))
def c03_107 : State := req 0x0204 ([7,0,0,0]) (opn (State.reset))
def c03_114 : State := req 0x0506 ([255,3,0,0]) (opn (State.reset))
def c03_113 : State := req 0x050A ([]) (opn (st [⟨Reg.MODE_STATUS_MODE,1,0,0⟩]))
def c03_109 : State := req 0x0147 ([2,0,2,0]) (opn (st [⟨Reg.TAP_STATUS_FILL,3,0,0⟩] { tap := { buf := [5,6,7] } }))
def c03_115 : State := req 0x0706 ([5,0,0,0]) (opn (st [⟨Reg.CTX_STATUS_KEY_VALID,1,5,0⟩]))
def c04_4 : State := eng (insR 0x00 4 1 2 0) (tk 7 5 9)
def c04_81 : State := eng (insI 0x20 1 2 1) (tk 7 5 9)
def c04_152 : State := eng (insI 0x26 4 0 1) (tk 7 5 9)
def c04_154 : State := eng (insI 0x27 0 1 0) (tk 3 5 9)
def c04_155 : State := eng (insI 0x28 4 1 1) (tk 7 5 9)
def c04_164 : State := eng (insI 0x2C 2 1 65528) (tk 4096 5 9)
def c04_171 : State := eng (insI 0x30 4 1 1) (tk 71 5 9)
def c04_175 : State := eng (insI 0x34 2 1 1) (tk 71 0xFEDCBA9876543210 9)
def c04_180 : State := eng (insI 0x38 0 0 65280) (tk 71 5 9)
def c04_179 : State := eng (insI 0x38 0 0 80) (tk 71 5 9)
def c04_184 : State := eng (insR 0x3A 3 1 2 0) (tk 80 0 0)
def c04_181 : State := eng (insR 0x39 3 1 2 0) (tk 8 17 0xFFFFFFFF)
def w4_194_s : State := { eng (insR 0x3B 3 1 2 1) (tk 5 17 33) (pk true) with pk := { pkts := [(8, some { pk true with num := 5 }), (9, some (pk true))] }, eng := { (eng (insR 0x3B 3 1 2 1) (tk 5 17 33) (pk true)).eng with taskQ := [8] } }
def w4_196_s : State := eng (insR 0x3B 3 1 2 1) { tk 5 17 33 with waiting := true, issued := 2 } (pk true)
def w4_196_k : Task := { tk 5 17 33 with waiting := true, issued := 2 }
def c04_200 : State := { eng (insR 0x3B 3 1 2 2) (tk 5 17 33) (pk false) with eng := { (eng (insR 0x3B 3 1 2 2) (tk 5 17 33) (pk false)).eng with words := [(5, 33), (524287, 34)] } }
def w4_yield : State := { eng (insR 0x3B 3 1 2 5) (tk 5 17 33) with eng := { (eng (insR 0x3B 3 1 2 5) (tk 5 17 33)).eng with tasks := [(0, some (tk 5 17 33)), (8, some (tk 5 17 33))] } }
def w4_245_s : State := eng (insI 0x3C 4 0 20) ({ tk 5 6 7 with cntRead := true, cntSel := 12, start := 15000 })
def w4_245_k : Task := { tk 5 6 7 with cntRead := true, cntSel := 12, start := 15000 }
def c04_243 : State := eng (insI 0x3C 4 0 0) (tk 5 6 7)
def c04_260 : State := eng (insI 0x3E 0 1 0) (tk 0x6000000000000000 6 7)
def c04_263 : State := eng (insI 0x3F 0 0 0) (tk 0x6000000000000000 6 7) (pk true)
def c04_262 : State := eng (insI 0x3F 0 0 1) (tk 0x6000000000000000 6 7)
def w4_248_s : State := eng (insI 0x3C 4 0 20) ({ tk 5 6 7 with cntRead := true, cntSel := 13, start := 15000 })
def w4_248_k : Task := { tk 5 6 7 with cntRead := true, cntSel := 13, start := 15000 }
def c04_257 : State := eng (insI 0x3D 0 1 7) (tk 64 6 7)
def w4_k1 : Task := { tk 64 6 7 with hdrSel := 0 }
def w4_264_s : State := eng (insR 0x00 4 1 2 0) ({ tk 1 2 3 with issued := 100 })
def w4_264_k : Task := { tk 1 2 3 with issued := 100 }
def c04_302 : State := eng (insI 0x20 1 2 2) (tk 5 5 9)
def c04_288 : State := eng (insI 0x29 4 1 1) (tk 6 5 9)
def bigS : State := { st [⟨Reg.TXF_CTRL_EN, 1, 3, 0⟩, ⟨Reg.LF_STATUS_STATE, 4, 7, 0⟩, ⟨Reg.FW_STATUS_STATE, 2, 0, 0⟩] with clock := 99999999999, timeOff := 7, fresh := 4, mbs := [(1, { phase := .taken, txn := { state := 1 } })], msix := { enable := true, pba := 6 }, power := { linkUp := true, slotA := [1,2], resetAt := some 5, hottest := 90000 }, test := { fails := 2, otp := { debugDisable := true, rootKey := some [3] } }, frm := { started := true } }
def w5_27 : State := req 0x0C01 [3,0,0,0,2,0,2,0,7,8] { st [⟨Reg.FW_STATUS_STATE, 1, 0, 0⟩, ⟨Reg.FW_STATUS_BOOT_SEL, 1, 0, 0⟩] with power := { download := some [1] } }
def w5_37 : State := run 0x0C03 [3,0,0,0,2,0,2,0,7,8] { st [⟨Reg.FW_STATUS_STATE, 2, 0, 0⟩, ⟨Reg.FW_STATUS_SLOT, 0, 0, 0⟩] with power := { flash := some [1,2], flashMb := some (1, true) } }
def w5_31 : State := req 0x0C03 [3,0,0,0,2,0,1,0,7,8] { st [⟨Reg.FW_STATUS_STATE, 2, 0, 0⟩, ⟨Reg.FW_STATUS_SLOT, 0, 0, 0⟩] with power := { slotA := [1], slotB := [2] } }
def w5_21 : State := st [⟨Reg.FW_STATUS_STATE, 1, 0, 0⟩]
def w5_18 : State := { power := { rstHeld := true } }
def w5_29 : State := { st [⟨Reg.FW_STATUS_STATE, 1, 0, 0⟩, ⟨Reg.FW_STATUS_BOOT_SEL, 1, 0, 0⟩] with clock := 13000000 * 70000, power := { image := some (bytes 4 0x4B524D4F ++ bytes 4 77) }, mbs := [(0, { phase := .waiting }), (3, { phase := .waiting })] }
def w5_40 : State := run 0x0C03 [3,0,0,0,2,0,2,0,7,8] { st [⟨Reg.FW_STATUS_STATE, 2, 0, 0⟩, ⟨Reg.FW_STATUS_SLOT, 0, 0, 0⟩] with power := { flash := some [1,2], flashMb := some (1, false) } }
def w5_33 : State := req 0x0C03 [3,0,0,0,2,0,1,0,7,8] { st [⟨Reg.FW_STATUS_STATE, 2, 0, 0⟩, ⟨Reg.FW_STATUS_SLOT, 1, 0, 0⟩] with power := { slotA := [1], slotB := [2] } }
def w5_23 : State := req 0x0C01 [0,0,0,0,2,0,1,0,7,8] (st [⟨Reg.FW_STATUS_STATE, 1, 0, 0⟩, ⟨Reg.FW_STATUS_BOOT_SEL, 1, 0, 0⟩])
def c05_48 : State := { st [⟨Reg.PWR_CFG_AVS_EN, 1, 0, 0⟩, ⟨Reg.PWR_STATUS_VDSP_MV, 700, 0, 0⟩] with clock := 13000000 }
def w5_60 : State := { st [⟨Reg.PWR_STATUS_FRACTION, 64, 0, 0⟩] with clock := 13000000, power := { hottest := 126000, throttleTarget := 64 } }
def w5_68 : State := { clock := 13000003, power := { hotSince := some 3, hottest := 126000 } }
def w5_50 : State := { clock := 130000000 }
def w5_56 : State := { clock := 1300000 }
def w5_72 : State := { req 0x0161 [] (opn) with mbs := (2, ({ txn := { state := 1, locks := [(.tap, 0)] } } : Mailbox)) :: (req 0x0161 [] (opn)).mbs |>.reverse }
def sSd : State := run 0x0161 [] { clock := 500, power := { shutdown := some { mb := 1, t0 := 3 } } }
def sSd2 : State := run 0x0161 [] { clock := 500, power := { shutdown := some { mb := 1, t0 := 3, gatedAt := some 9 } } }
def w5_70 : State := req 0x0160 [] State.reset
def w5_74 : State := req 0x0161 [] { clock := 500, power := { shutdown := some { mb := 2, t0 := 3 } } }
def sRing : State := (req 0x0806 [] (st [⟨Reg.FW_STATUS_STATE, 2, 0, 0⟩])).setMbox 1 { (req 0x0806 [] (st [⟨Reg.FW_STATUS_STATE, 2, 0, 0⟩])).mbox 1 with phase := .idle }
def sRing2 : State := (req 0x0807 [] (st [⟨Reg.FW_STATUS_STATE, 2, 0, 0⟩])).setMbox 1 { (req 0x0FFF [] (st [⟨Reg.FW_STATUS_STATE, 2, 0, 0⟩])).mbox 1 with phase := .idle }
def w5_85 : State := req 0x0806 [] State.reset
def w5_93 : State := (req 0x0202 [] (opn (st [⟨Reg.FW_STATUS_STATE, 2, 0, 0⟩]))).setMbox 1 { (req 0x0202 [] (opn (st [⟨Reg.FW_STATUS_STATE, 2, 0, 0⟩]))).mbox 1 with txn := { state := 1, id := 1, staged := [{ op := 0x0112, payload := [0,0,0,0] }], locks := [(.latency, 0)] } }
def w5_87 : State := req 0x0201 [] (st [⟨Reg.FW_STATUS_STATE, 2, 0, 0⟩])
def w5_101 : State := run 0x0202 [] ({ mbs := [(1, { txn := { state := 2, id := 4, locks := [(.tap, 0)], boundary := some (9, 8, 7) } })] } : State)
def w5_97 : State := { clock := 130000000000, mbs := [(2, { txn := { state := 1, locks := [(.tap, 0)] } })] }
def w5_95 : State := req 0x0203 [] (opn)
def w5_99 : State := { clock := 9999999, frm := { started := true, lastMf := 9999999, mfn := 7 }, mbs := [(1, { phase := .running, txn := { state := 2, id := 4, acceptedAt := 9999999 - 3250000, staged := [{ op := 0x0112, payload := [200,0,0,0] }] } })] }
def w5_103 : State := { st [⟨Reg.FW_STATUS_STATE, 2, 0, 0⟩] with mbs := [(1, { phase := .taken, txn := { state := 1, locks := [(.tap, 0)] } }), (2, { phase := .running, txn := { state := 2, id := 4 } })] }
def w5_89 : State := req 0x0202 [] (opn (st [⟨Reg.FW_STATUS_STATE, 2, 0, 0⟩]))
def w5_91 : State := (req 0x0202 [] (opn (st [⟨Reg.FW_STATUS_STATE, 2, 0, 0⟩]))).setMbox 1 { (req 0x0202 [] (opn (st [⟨Reg.FW_STATUS_STATE, 2, 0, 0⟩]))).mbox 1 with txn := { state := 1, id := 1, staged := [{ op := 0x0112, payload := [200,0,0,0] }], locks := [(.latency, 0)] } }
def c10_65 : State := { st [⟨Reg.HG_PARCELS_TOTAL_TOTAL, 1310720, 0, 0⟩] with pk := { parcels := [(1, (List.range 128).map (BitVec.ofNat 8))] }, mem := { words := [(wordKey 1 0 4, 6)] } }
def q2 : ScrubPass := { mb := 1, left := [(0, 7, 5)], start := 3 }
def w6_8 : State := { clock := 99, mem := { words := [(wordKey 5 0 7, 5)], passes := [(5, some q2)] } }
def w6_10 : State := { clock := 99, mem := { sweeps := [(5, { word := 5, period := 100 })] } }
def w6_17 : State := req 0x0904 ([5,1,0,0,71,0] ++ bytes 12 0) (st [⟨Reg.TEST_STATUS_LEVEL, 1, 0, 0⟩])
def w6_12 : State := { clock := 1300000000, mem := { sweeps := [(5, { word := 5, period := 100 })] } }
def q3 : ScrubPass := { mb := 1, left := [], start := 3, read := 8, fixed := 1 }
def w6_15 : State := run 0x0901 [] { clock := 99, mem := { passes := [(5, some q3)] } }
def w6_3 : State := req 0x0901 ([5,0,0,0] ++ bytes 4 524287 ++ bytes 4 1)
def w6_19 : State := req 0x0904 ([5,0,0,0,71,0] ++ bytes 12 0) (st [⟨Reg.TEST_STATUS_LEVEL, 1, 0, 0⟩, ⟨Reg.FLIP_STATUS_ARMED, 1, 0, 0⟩])
def w10_62 : State := { st [⟨Reg.HG_PARCELS_TOTAL_TOTAL, 1310720, 0, 0⟩] with pk := { parcels := [(1, (List.range 128).map (BitVec.ofNat 8))] } }
def c06_36 : State := { (State.reset.setQState 3 31 1) with clock := 1005, sys := { quench := [(4096 * 3 + 31, some { start := 5, timeout := 1000 })] } }
def mc1 : ModeChange := { t0 := 5, oldMode := 0, oldProf := 0 }
def w6_27 : State := { clock := 700, sys := { change := some mc1 } }
def mc2 : ModeChange := { t0 := 5, oldMode := 0, oldProf := 0, gatedAt := some 9, step5 := some 50 }
def w6_31 : State := { clock := 1950000050, sys := { change := some mc2 } }
def w6_41 : State := st [⟨Reg.LN_STATUS_RX_STATE, 3, 15, 0⟩, ⟨Reg.FIXLAT_CTRL_EN, 1, 0, 0⟩, ⟨Reg.LN_CFG_FORMAT, 2, 15, 0⟩]
def w6_45 : State := { clock := 13000004, sys := { clamps := [(160, some { dir := 1, inBounds := some 4 })] } }
def w6_29 : State := { st [⟨Reg.MODE_STATUS_MODE, 3, 0, 0⟩] with clock := 700, sys := { change := some mc1 } }
def c06_39 : State := { (State.reset.setQState 5 1023 1) with clock := 1005, sys := { quench := [(4096 * 5 + 1023, some { start := 5, timeout := 1000 })] } }
def w6_70 : State := req 0x0636 (bytes 4 524286 ++ [2,0]) { eng := { words := [(524287, 0xFEDCBA9876543210)] } }
def w10_24 : State := req 0x0635 [1,1,0,0] (st [⟨Reg.LAT_STATUS_POWERED, 1, 0, 0⟩, ⟨Reg.LAT_CTRL_EN, 1, 0, 0⟩, ⟨Reg.LAT_CTRL_ROLE, 0, 0, 0⟩, ⟨Reg.LAT_STATUS_POWERED, 1, 1, 0⟩, ⟨Reg.LAT_CTRL_EN, 1, 1, 0⟩, ⟨Reg.LAT_CTRL_ROLE, 0, 1, 0⟩, ⟨Reg.LAT_STATUS_POWERED, 1, 2, 0⟩, ⟨Reg.LAT_CTRL_EN, 1, 2, 0⟩, ⟨Reg.LAT_STATUS_POWERED, 1, 3, 0⟩, ⟨Reg.LAT_CTRL_EN, 1, 3, 0⟩, ⟨Reg.LAT_CTRL_ROLE, 1, 2, 0⟩, ⟨Reg.LAT_CTRL_ROLE, 1, 3, 0⟩])
def w6_66 : State := req 0x0635 [1,0,0,0] ((st [⟨Reg.LAT_STATUS_POWERED, 1, 0, 0⟩, ⟨Reg.LAT_CTRL_EN, 1, 0, 0⟩, ⟨Reg.LAT_STATUS_POWERED, 1, 1, 0⟩, ⟨Reg.LAT_CTRL_EN, 1, 1, 0⟩, ⟨Reg.LAT_STATUS_HELD, 1, 1, 0⟩]).setQState 2 1 2)
def img1 : List Byte := img [0] |>.set 17 0x10
def w10_15 : State := { st [⟨Reg.LAT_STATUS_POWERED, 1, 0, 0⟩, ⟨Reg.LAT_CTRL_EN, 1, 0, 0⟩, ⟨Reg.LAT_CTRL_ROLE, 0, 0, 0⟩, ⟨Reg.LAT_STATUS_POWERED, 1, 1, 0⟩, ⟨Reg.LAT_CTRL_EN, 1, 1, 0⟩, ⟨Reg.LAT_CTRL_ROLE, 0, 1, 0⟩] with clock := 130000, eng := { taskQ := [9, 8], images := [(0, img1)] }, pk := { pkts := [(9, some pk)] } }
def c06_60 : State := req 0x0630 [0,0,0,0,2,0,3,0,7,8] { eng := { staging := some [5] } }
def w6_55 : State := req 0x0630 [0,0,0,0,2,0,1,0,7,8] { eng := { staging := some [5] } }
def w6_50 : State := { eng := { ended := [(9, []), (8, [])] }, pk := { pkts := [(8, some { pk true with num := 7 }), (9, some (pk true))], domains := [(4, { left := 6, hand := 8, next := 8 })] } }
def w10_17 : State := { st [⟨Reg.LAT_STATUS_POWERED, 1, 0, 0⟩, ⟨Reg.LAT_CTRL_EN, 1, 0, 0⟩, ⟨Reg.LAT_CTRL_ROLE, 0, 0, 0⟩, ⟨Reg.LAT_STATUS_POWERED, 1, 1, 0⟩, ⟨Reg.LAT_CTRL_EN, 1, 1, 0⟩, ⟨Reg.LAT_CTRL_ROLE, 0, 1, 0⟩] with clock := 130000, eng := { images := [(1, img1)], gen := 1, convFrom := [(0, 14976), (1, 14976)] } }
def w6_68 : State := run 0x0635 [1,1,0,0] { (State.reset.setQState 2 1 2) with eng := { holdMb := some (1, 1) } }
def w6_72 : State := req 0x0637 (bytes 4 524286 ++ [2,0,0,0] ++ bytes 16 0xFEDCBA98765432100) { eng := { words := [(524287, 0xFEDCBA9876543210)] } }
def w6_64 : State := req 0x0635 [1,0,0,0] ((st [⟨Reg.LAT_STATUS_POWERED, 1, 0, 0⟩, ⟨Reg.LAT_CTRL_EN, 1, 0, 0⟩, ⟨Reg.LAT_STATUS_POWERED, 1, 1, 0⟩, ⟨Reg.LAT_CTRL_EN, 1, 1, 0⟩, ⟨Reg.LAT_STATUS_HELD, 0, 1, 0⟩]).setQState 2 1 2)
def w10_26 : State := req 0x0635 [1,1,0,0] ((st [⟨Reg.LAT_STATUS_POWERED, 1, 0, 0⟩, ⟨Reg.LAT_CTRL_EN, 1, 0, 0⟩, ⟨Reg.LAT_CTRL_ROLE, 0, 0, 0⟩, ⟨Reg.LAT_STATUS_POWERED, 1, 1, 0⟩, ⟨Reg.LAT_CTRL_EN, 1, 1, 0⟩, ⟨Reg.LAT_CTRL_ROLE, 0, 1, 0⟩, ⟨Reg.LAT_STATUS_POWERED, 1, 2, 0⟩, ⟨Reg.LAT_CTRL_EN, 1, 2, 0⟩, ⟨Reg.LAT_STATUS_POWERED, 1, 3, 0⟩, ⟨Reg.LAT_CTRL_EN, 1, 3, 0⟩, ⟨Reg.LAT_CTRL_ROLE, 1, 2, 0⟩, ⟨Reg.LAT_CTRL_ROLE, 1, 3, 0⟩]).setQState 2 1 2)
def w7_11 : State := { st [⟨Reg.ADC_STATUS_STATE, 2, 1, 0⟩, ⟨Reg.ADC_STATUS_POS, 7, 1, 0⟩] with clock := 12892105, conv := { adcs := [(1, { step := some ⟨5, 7, none⟩ })] } }
def fg1 : FgCal := { adcMask := 1, dacMask := 2, start := 5, mb := some 1 }
def w7_19 : State := run 0x0B02 [1,2,0,0] { st [⟨Reg.ADC_STATUS_STATE, 1, 0, 0⟩, ⟨Reg.DAC_STATUS_STATE, 1, 1, 0⟩] with clock := 520000005, conv := { fg := some fg1 } }
def w7_3 : State := { st [⟨Reg.ADC_STATUS_STATE, 2, 3, 0⟩, ⟨Reg.ADC_CAL_CFG_BG_EN, 1, 3, 0⟩] with clock := 13000000 * 100000 }
def w7_15 : State := req 0x0B02 [9,2,0,0] (st [⟨Reg.ADC_STATUS_STATE, 3, 0, 0⟩, ⟨Reg.ADC_STATUS_STATE, 3, 3, 0⟩, ⟨Reg.DAC_STATUS_STATE, 3, 1, 0⟩])
def w7_5 : State := { st [⟨Reg.ADC_STATUS_STATE, 2, 3, 0⟩] with clock := 13000000, conv := { adcs := [(3, { rotLeft := some 5 })] } }
def w7_13 : State := req 0x0B01 [3,0,0,0] { st [⟨Reg.ADC_STATUS_STATE, 2, 0, 0⟩, ⟨Reg.ADC_STATUS_STATE, 2, 1, 0⟩] with conv := { adcs := [(1, { step := some ⟨5, 7, none⟩ })] } }
def w7_9 : State := { st [⟨Reg.ADC_STATUS_STATE, 2, 1, 0⟩, ⟨Reg.ADC_STATUS_POS, 7, 1, 0⟩] with clock := 12632105, conv := { adcs := [(1, { step := some ⟨5, 7, none⟩ })] } }
def ox : OptXfer := ⟨1, 2, [7, 8], 3⟩
def c07_39 : State := run 0x0135 [2,0,3,0,7,8] { opt := { i2c := some ox } }
def w7_34 : State := req 0x0135 [0x50,0,2,0,3,0,0,0,7,8]
def w7_32 : State := run 0x0134 [2,0,3,0,7,8] { opt := { spi := some ox } }
def w7_29 : State := req 0x0134 [2,0,3,0,7,8]
def w7_27 : State := req 0x0131 [1,0x80,1,0] (st [⟨Reg.GPIO_CFG_MODE, 1, 0, 0⟩, ⟨Reg.GPIO_CFG_MODE, 1, 15, 0⟩, ⟨Reg.GPIO_OUT_OUT, 65520, 0, 0⟩])
def c07_41 : State := run 0x0135 [2,0,3,0,7,8] { opt := { i2c := some ox } }
def w10_35 : State := req 0x0303 [] (st [⟨Reg.MODE_STATUS_MODE, 0, 0, 0⟩, ⟨Reg.FR_RX_CTRL_EN, 1, 0, 0⟩, ⟨Reg.FR_STATUS_LOS, 0, 0, 0⟩, ⟨Reg.RX_STATUS_LINE_LOS, 0, 0, 0⟩])
def w7_69 : State := { st [⟨Reg.FR_STATUS_LOS, 0, 4, 0⟩, ⟨Reg.RX_STATUS_LINE_LOS, 0, 0, 0⟩, ⟨Reg.MODE_STATUS_MODE, 1, 0, 0⟩, ⟨Reg.RX_ACQ_CFG_ACQ_TIMEOUT_MS, 10, 0, 0⟩] with clock := 130000000, rx := { furrows := [(4, { step := 3 })] } }
def w7_71 : State := { st [⟨Reg.MODE_STATUS_MODE, 0, 0, 0⟩, ⟨Reg.FR_RX_CTRL_EN, 1, 0, 0⟩, ⟨Reg.RX_STATUS_LINE_LOS, 0, 0, 0⟩, ⟨Reg.RX_ACQ_CFG_ACQ_TIMEOUT_MS, 10, 0, 0⟩] with clock := 130000000, rx := { step := 3, full := true } }
def w7_46 : State := { st [⟨Reg.MODE_STATUS_MODE, 0, 0, 0⟩, ⟨Reg.FR_RX_CTRL_EN, 1, 0, 0⟩] with rx := { step := 2 } }
def w7_52 : State := { st [⟨Reg.MODE_STATUS_MODE, 1, 0, 0⟩] with rx := { furrows := [(31, { step := 2 })] } }
def w7_82 : State := { st [⟨Reg.MODE_STATUS_MODE, 1, 0, 0⟩] with clock := 260000000, rx := { furrows := [(4, { step := 3, fast := true })] } }
def w7_88 : State := { st [⟨Reg.RX_STATUS_LINE_LOS, 0, 0, 0⟩, ⟨Reg.MODE_STATUS_MODE, 1, 0, 0⟩, ⟨Reg.FR_RX_CTRL_EN, 1, 0, 0⟩, ⟨Reg.FR_STATUS_LOS, 1, 0, 0⟩] with clock := 77 }
def w7_61 : State := { st [⟨Reg.MODE_STATUS_MODE, 0, 0, 0⟩, ⟨Reg.FR_RX_CTRL_EN, 1, 0, 0⟩, ⟨Reg.FR_STATUS_CLK_LOCK, 1, 31, 0⟩] with clock := 130000000, rx := { furrows := [(31, { step := 4 })] } }
def w10_32 : State := { st [⟨Reg.MODE_STATUS_MODE, 0, 0, 0⟩, ⟨Reg.FR_RX_CTRL_EN, 1, 0, 0⟩, ⟨Reg.FR_STATUS_LOS, 0, 0, 0⟩, ⟨Reg.FR_STATUS_ACQ, 1, 0, 0⟩] with clock := 77, rx := { furrows := [(0, { step := 3 })] } }
def ar : AdaptReq := { target := 40, sentMfn := 4294967295, switchMfn := 9 }
def w7_103 : State := { st [⟨Reg.FR_STATUS_ADAPT_PENDING, 1, 3, 0⟩] with frm := { mfn := 7 }, rx := { furrows := [(3, { pending := some ar })] } }
def w10_39 : State := req 0x0404 [4] (st [⟨Reg.FR_RX_CTRL_EN, 1, 4, 0⟩, ⟨Reg.FR_STATUS_LOS, 0, 4, 0⟩, ⟨Reg.FR_STATUS_CAR_LOCK, 1, 4, 0⟩])
def w7_42 : State := { st [⟨Reg.MODE_STATUS_MODE, 0, 0, 0⟩, ⟨Reg.FR_RX_CTRL_EN, 1, 0, 0⟩] with rx := { step := 1 } }
def w7_73 : State := { st [⟨Reg.FR_STATUS_CAR_LOCK, 1, 4, 0⟩, ⟨Reg.FR_RX_CTRL_EN, 1, 4, 0⟩] with clock := 77 }
def c07_65 : State := { st [⟨Reg.MODE_STATUS_MODE, 0, 0, 0⟩, ⟨Reg.FR_RX_CTRL_EN, 1, 0, 0⟩] with rx := { furrows := [(31, { step := 5 })] } }
def w7_58 : State := { st [⟨Reg.MODE_STATUS_MODE, 0, 0, 0⟩, ⟨Reg.FR_RX_CTRL_EN, 1, 0, 0⟩] with rx := { furrows := [(31, { step := 4 })] } }
def w7_91 : State := { st [⟨Reg.FR_STATUS_CAR_LOCK, 1, 31, 0⟩] with clock := 77 }
def w7_50 : State := { st [⟨Reg.MODE_STATUS_MODE, 1, 0, 0⟩] with rx := { furrows := [(31, { step := 1 })] } }
def c07_55 : State := { st [⟨Reg.MODE_STATUS_MODE, 0, 0, 0⟩, ⟨Reg.FR_RX_CTRL_EN, 1, 0, 0⟩] with rx := { furrows := [(31, { step := 3 })] } }
def w7_95 : State := { clock := 13000 }
def w7_44 : State := { st [⟨Reg.MODE_STATUS_MODE, 0, 0, 0⟩, ⟨Reg.FR_RX_CTRL_EN, 1, 0, 0⟩, ⟨Reg.FIXLAT_CTRL_EN, 1, 0, 0⟩, ⟨Reg.RX_CTRL_CD_MAX, 600, 0, 0⟩] with rx := { step := 2 } }
def w7_84 : State := { st [⟨Reg.MODE_STATUS_MODE, 0, 0, 0⟩, ⟨Reg.FR_RX_CTRL_EN, 1, 0, 0⟩] with clock := 260000000, rx := { furrows := [(0, { step := 3, fast := true })] } }
def lm2 : LevelMeasure := { mb := 1, leaf := 7, n := 5, start := 3, used := 4 }
def w7_132 : State := run 0x050B [7,0,5,0] { clock := 13000000003, tx := { measure := some lm2 } }
def w7_124 : State := req 0x0311 [1,0,0,0]
def w7_126 : State := req 0x050B [7,0,5,0] (st [⟨Reg.MODE_STATUS_MODE, 1, 0, 0⟩, ⟨Reg.LF_STATUS_STATE, 4, 7, 0⟩, ⟨Reg.LF_PROFILE_BURST_MOD, 1, 7, 0⟩])
def w7_116 : State := { clock := 1625000, frm := { started := true, fn := 24, mfn := 4294967295 } }
def w7_114 : State := { clock := 65000, frm := { started := true, lastMf := 65000, fn := 24 } }
def w7_118 : State := { frm := { started := true } }
def w7_120 : State := { tx := { pllLost := true } }
def c07_112 : State := { clock := 13 * 125000 * 5 + 26 }
def lm1 : LevelMeasure := { mb := 1, leaf := 7, n := 5, start := 3, used := 5 }
def w7_130 : State := run 0x050B [7,0,5,0] { tx := { measure := some lm1 } }
def gr1 : Grant := { mf := 3, type := 0, leaf := 9, furrow := 4, start := 100, len := 5 }
def det : Detection := ⟨3, 0, -250, 4, 5⟩
def w7_154 : State := { st [⟨Reg.BR_STATUS_ARMED, 1, 0, 0⟩, ⟨Reg.BR_SHARED_MASK, 16, 0, 0⟩, ⟨Reg.RX_CFG_RATE_MBD, 19000, 0, 0⟩] with clock := 7, burst := { grants := [gr1], paths := [(4, { main := some det })] } }
def hdr1 : BitVec 128 := withCrc (0 * 2 ^ 126 + 9 * 2 ^ 116 + 3 * 2 ^ 108 + 5 * 2 ^ 100)
def sLeaf : State := { st [⟨Reg.MODE_STATUS_MODE, 2, 0, 0⟩, ⟨Reg.SELF_STATUS_STATE, 4, 0, 0⟩, ⟨Reg.FR_RX_CTRL_EN, 1, 0, 0⟩, ⟨Reg.FRM_FR_STATUS_SYNC, 1, 0, 0⟩, ⟨Reg.TXF_CTRL_EN, 1, 0, 0⟩, ⟨Reg.TXS_STATUS_SQUELCHED, 0, 0, 0⟩, ⟨Reg.RX_CFG_RATE_MBD, 19000, 0, 0⟩, ⟨Reg.DAC_STATUS_STATE, 2, 0, 0⟩, ⟨Reg.DAC_STATUS_STATE, 2, 1, 0⟩, ⟨Reg.DAC_STATUS_STATE, 2, 2, 0⟩, ⟨Reg.DAC_STATUS_STATE, 2, 3, 0⟩] with clock := 13000000000, self := { grants := [gr1], seq := 65535 } }
def w7_139 : State := { st [⟨Reg.BR_STATUS_ARMED, 1, 0, 0⟩, ⟨Reg.BR_SHARED_MASK, 16, 0, 0⟩, ⟨Reg.RX_CFG_RATE_MBD, 19000, 0, 0⟩] with clock := 7, burst := { paths := [(4, { main := some det, judged := true })] } }
def acc2 : Accepted := { type := 0, leaf := 9, cw := 5, left := 0, e := 0, rssi := -250 }
def w7_159 : State := { st [⟨Reg.BR_STATUS_ARMED, 1, 0, 0⟩, ⟨Reg.BR_SHARED_MASK, 16, 0, 0⟩, ⟨Reg.RX_CFG_RATE_MBD, 19000, 0, 0⟩] with clock := 7, burst := { paths := [(4, { main := some det, judged := true, acc := some acc2 })] } }
def acc1 : Accepted := { type := 0, leaf := 9, cw := 5, left := 5, e := 0, rssi := -250 }
def w7_148 : State := { st [⟨Reg.BR_STATUS_ARMED, 1, 0, 0⟩, ⟨Reg.BR_SHARED_MASK, 16, 0, 0⟩, ⟨Reg.RX_CFG_RATE_MBD, 19000, 0, 0⟩] with clock := 7, burst := { paths := [(4, { main := some det, judged := true, acc := some acc1 })] } }
def w7_167 : State := req 0x0503 [255,3,0,0] (st [⟨Reg.LF_STATUS_STATE, 4, 1023, 0⟩])
def w10_8 : State := st [⟨Reg.MODE_STATUS_MODE, 1, 0, 0⟩]
def w7_171 : State := { st [⟨Reg.MODE_STATUS_MODE, 2, 0, 0⟩, ⟨Reg.SELF_STATUS_STATE, 2, 0, 0⟩] with clock := 6500000, self := { surveyedAt := some 0 } }
def sHub : State := { st [⟨Reg.MODE_STATUS_MODE, 1, 0, 0⟩, ⟨Reg.LF_STATUS_PROFILE_SET, 1, 9, 0⟩, ⟨Reg.LF_PROFILE_CW_PER_MF, 3, 9, 0⟩, ⟨Reg.LF_STATUS_STATE, 4, 9, 0⟩, ⟨Reg.LF_PROFILE_HOME_FURROW, 4, 9, 0⟩, ⟨Reg.BR_SHARED_MASK, 16, 0, 0⟩, ⟨Reg.RX_CFG_RATE_MBD, 19000, 0, 0⟩, ⟨Reg.RX_CFG_NFURROW, 8, 0, 0⟩] with frm := { started := true, mfn := 3 } }
def w7_169 : State := { st [⟨Reg.MODE_STATUS_MODE, 2, 0, 0⟩, ⟨Reg.SELF_STATUS_STATE, 4, 0, 0⟩] with clock := 416000000, self := { grants := [gr1], surveyedAt := some 3 } }
def w7_143 : State := { st [⟨Reg.BR_STATUS_ARMED, 1, 0, 0⟩, ⟨Reg.BR_SHARED_MASK, 16, 0, 0⟩, ⟨Reg.RX_CFG_RATE_MBD, 19000, 0, 0⟩] with clock := 13000000, burst := { paths := [(4, { main := some det, shadow := some ⟨4, 0, -300, 4, 6⟩ })] } }
def w10_4 : State := { st [⟨Reg.BR_STATUS_ARMED, 1, 0, 0⟩, ⟨Reg.BR_SHARED_MASK, 16, 0, 0⟩, ⟨Reg.RX_CFG_RATE_MBD, 19000, 0, 0⟩, ⟨Reg.LF_STATUS_STATE, 4, 9, 0⟩] with clock := 13000000000, burst := { grants := [gr1] } }
def gr2 : Grant := { mf := 3, type := 1, leaf := 1023, furrow := 4, start := 100, len := 2 }
def sSurvey : State := { st [⟨Reg.MODE_STATUS_MODE, 2, 0, 0⟩, ⟨Reg.FR_RX_CTRL_EN, 1, 0, 0⟩, ⟨Reg.FRM_FR_STATUS_SYNC, 1, 0, 0⟩, ⟨Reg.TXF_CTRL_EN, 1, 0, 0⟩, ⟨Reg.TXS_STATUS_SQUELCHED, 0, 0, 0⟩, ⟨Reg.RX_CFG_RATE_MBD, 19000, 0, 0⟩, ⟨Reg.DAC_STATUS_STATE, 2, 0, 0⟩, ⟨Reg.DAC_STATUS_STATE, 2, 1, 0⟩, ⟨Reg.DAC_STATUS_STATE, 2, 2, 0⟩, ⟨Reg.DAC_STATUS_STATE, 2, 3, 0⟩, ⟨Reg.SELF_STATUS_STATE, 2, 0, 0⟩] with clock := 13000000000, self := { grants := [gr2], seq := 65535 } }
def w7_135 : State := { st [⟨Reg.BR_STATUS_ARMED, 1, 0, 0⟩, ⟨Reg.BR_SHARED_MASK, 16, 0, 0⟩, ⟨Reg.RX_CFG_RATE_MBD, 19000, 0, 0⟩] with clock := 7 }
def w7_156 : State := { st [⟨Reg.BR_STATUS_ARMED, 1, 0, 0⟩, ⟨Reg.BR_SHARED_MASK, 16, 0, 0⟩, ⟨Reg.RX_CFG_RATE_MBD, 19000, 0, 0⟩] with clock := 7, burst := { grants := [gr1], paths := [(4, { main := some det })] } }
def w7_146 : State := { st [⟨Reg.BR_STATUS_ARMED, 1, 0, 0⟩, ⟨Reg.BR_SHARED_MASK, 16, 0, 0⟩, ⟨Reg.RX_CFG_RATE_MBD, 19000, 0, 0⟩] with clock := 7, burst := { paths := [(4, { main := some det, judged := true, acc := some acc1 })] } }
def w7_141 : State := { st [⟨Reg.BR_STATUS_ARMED, 1, 0, 0⟩, ⟨Reg.BR_SHARED_MASK, 16, 0, 0⟩, ⟨Reg.RX_CFG_RATE_MBD, 19000, 0, 0⟩] with clock := 7, burst := { paths := [(4, { main := some det, judged := true })] } }
def w7_137 : State := { st [⟨Reg.BR_STATUS_ARMED, 1, 0, 0⟩, ⟨Reg.BR_SHARED_MASK, 16, 0, 0⟩, ⟨Reg.RX_CFG_RATE_MBD, 19000, 0, 0⟩] with clock := 7, burst := { paths := [(4, { main := some det })] } }
def sHunt0 : State := { st [⟨Reg.FR_STATUS_LOS, 0, 4, 0⟩, ⟨Reg.FR_STATUS_CAR_LOCK, 1, 4, 0⟩, ⟨Reg.FR_RX_CTRL_EN, 1, 4, 0⟩, ⟨Reg.RX_STATUS_LINE_LOS, 0, 0, 0⟩, ⟨Reg.FEC_FR_STATUS_HUNT, 1, 4, 0⟩, ⟨Reg.FEC_CTRL_ITER, 0, 0, 0⟩] with fec := [(4, { batch := [64, 128], confirm := some (cycleLen 1 - 1) })] }
def w8_22 : State := req 0x0322 [31] (st [⟨Reg.FR_STATUS_CAR_LOCK, 1, 31, 0⟩, ⟨Reg.FEC_FR_STATUS_CW_LOCK, 1, 31, 0⟩, ⟨Reg.FRM_FR_STATUS_SYNC, 1, 31, 0⟩])
def sCw : State := st [⟨Reg.FEC_FR_STATUS_CW_LOCK, 1, 4, 0⟩, ⟨Reg.FR_STATUS_LOS, 0, 4, 0⟩, ⟨Reg.FR_STATUS_CAR_LOCK, 1, 4, 0⟩, ⟨Reg.FR_RX_CTRL_EN, 1, 4, 0⟩, ⟨Reg.RX_STATUS_LINE_LOS, 0, 0, 0⟩, ⟨Reg.FEC_CTRL_ITER, 0, 0, 0⟩]
def w8_14 : State := st [⟨Reg.FR_STATUS_LOS, 0, 4, 0⟩, ⟨Reg.FR_STATUS_CAR_LOCK, 1, 4, 0⟩, ⟨Reg.FR_RX_CTRL_EN, 1, 4, 0⟩, ⟨Reg.RX_STATUS_LINE_LOS, 0, 0, 0⟩, ⟨Reg.FEC_CTRL_LINE_FEC, 1, 0, 0⟩]
def w8_20 : State := { st [⟨Reg.FR_STATUS_LOS, 0, 4, 0⟩, ⟨Reg.FR_STATUS_CAR_LOCK, 1, 4, 0⟩, ⟨Reg.FR_RX_CTRL_EN, 1, 4, 0⟩, ⟨Reg.RX_STATUS_LINE_LOS, 0, 0, 0⟩, ⟨Reg.FEC_FR_STATUS_HUNT, 1, 4, 0⟩, ⟨Reg.FEC_CTRL_ITER, 0, 0, 0⟩] with fec := [(4, { next := 30704 })] }
def w8_12 : State := { st [⟨Reg.FEC_CTRL_BURST_ITER, 0, 0, 0⟩] with burst := { paths := [(4, { main := some det, judged := true, acc := some acc1 })] } }
def badLlrs : List (Int × Bool) := (List.range 601).map (fun i => (if [1, 2, 121, 242, 362, 600].contains i then -1 else 1, false))
def sStr : State := { st [⟨Reg.MODE_STATUS_MODE, 0, 0, 0⟩, ⟨Reg.FR_RX_CTRL_EN, 1, 0, 0⟩, ⟨Reg.FRM_FR_STATUS_SYNC, 1, 0, 0⟩, ⟨Reg.FRM_FR_STATUS_LOM, 0, 0, 0⟩] with frm := { groups := [(0, { mfn := some 7 })] } }
def sStr2 : State := { st [⟨Reg.MODE_STATUS_MODE, 0, 0, 0⟩, ⟨Reg.FR_RX_CTRL_EN, 1, 0, 0⟩, ⟨Reg.FRM_FR_STATUS_SYNC, 1, 0, 0⟩, ⟨Reg.FRM_FR_STATUS_LOM, 1, 0, 0⟩] with frm := { groups := [(0, { last := some 4294967295 })] } }
def w8_30 : State := st [⟨Reg.FEC_FR_STATUS_CW_LOCK, 1, 4, 0⟩, ⟨Reg.FR_STATUS_LOS, 0, 4, 0⟩, ⟨Reg.FR_STATUS_CAR_LOCK, 1, 4, 0⟩, ⟨Reg.FR_RX_CTRL_EN, 1, 4, 0⟩, ⟨Reg.RX_STATUS_LINE_LOS, 0, 0, 0⟩, ⟨Reg.FRM_FR_STATUS_SYNC, 1, 4, 0⟩]
def faw : Nat → Nat := fun n => 0xF628A13D5B0C * 2 ^ 16 + n * 8 * 2 ^ 8 + (255 - n * 8)
def w8_50 : State := { frm := { groups := [(0, { mgmt := some 4 :: some 4 :: (bytes 5 77).map some })] } }
def w8_24 : State := st [⟨Reg.FEC_FR_STATUS_CW_LOCK, 1, 4, 0⟩, ⟨Reg.FR_STATUS_LOS, 0, 4, 0⟩, ⟨Reg.FR_STATUS_CAR_LOCK, 1, 4, 0⟩, ⟨Reg.FR_RX_CTRL_EN, 1, 4, 0⟩, ⟨Reg.RX_STATUS_LINE_LOS, 0, 0, 0⟩]
def w8_41 : State := { st [⟨Reg.FRM_FR_STATUS_OOF, 1, 4, 0⟩, ⟨Reg.FRM_FR_STATUS_LOF, 0, 4, 0⟩] with clock := 65000 * 10000 }
def w8_43 : State := { st [⟨Reg.FRM_FR_STATUS_SYNC, 1, 4, 0⟩, ⟨Reg.FRM_FR_STATUS_LOF, 1, 4, 0⟩] with clock := 65000 * 10000 }
def w10_28 : State := { st [⟨Reg.FEC_FR_STATUS_CW_LOCK, 1, 4, 0⟩, ⟨Reg.FR_STATUS_LOS, 0, 4, 0⟩, ⟨Reg.FR_STATUS_CAR_LOCK, 1, 4, 0⟩, ⟨Reg.FR_RX_CTRL_EN, 1, 4, 0⟩, ⟨Reg.FRM_FR_STATUS_SYNC, 1, 4, 0⟩, ⟨Reg.FRM_FR_STATUS_OOF, 0, 4, 0⟩] with frm := { furrows := [(4, { failRun := 30 })] } }
def w8_39 : State := (st [⟨Reg.FEC_FR_STATUS_CW_LOCK, 1, 4, 0⟩, ⟨Reg.FR_STATUS_LOS, 0, 4, 0⟩, ⟨Reg.FR_STATUS_CAR_LOCK, 1, 4, 0⟩, ⟨Reg.FR_RX_CTRL_EN, 1, 4, 0⟩, ⟨Reg.RX_STATUS_LINE_LOS, 0, 0, 0⟩, ⟨Reg.FRM_FR_STATUS_SYNC, 1, 4, 0⟩]).setQState 3 4 1
def w8_52 : State := { frm := { groups := [(0, { mgmt := some 4 :: some 3 :: (bytes 5 77).map some })] } }
def w8_58 : State := { frm := { groups := [(7, { mgmt := [some 0, some 9] })] } }
def w8_32 : State := st [⟨Reg.FEC_FR_STATUS_CW_LOCK, 1, 4, 0⟩, ⟨Reg.FR_STATUS_LOS, 0, 4, 0⟩, ⟨Reg.FR_STATUS_CAR_LOCK, 1, 4, 0⟩, ⟨Reg.FR_RX_CTRL_EN, 1, 4, 0⟩, ⟨Reg.RX_STATUS_LINE_LOS, 0, 0, 0⟩, ⟨Reg.FRM_FR_STATUS_SYNC, 1, 4, 0⟩]
def sHunt : State := { st [⟨Reg.FEC_FR_STATUS_CW_LOCK, 1, 4, 0⟩, ⟨Reg.FR_STATUS_LOS, 0, 4, 0⟩, ⟨Reg.FR_STATUS_CAR_LOCK, 1, 4, 0⟩, ⟨Reg.FR_RX_CTRL_EN, 1, 4, 0⟩, ⟨Reg.RX_STATUS_LINE_LOS, 0, 0, 0⟩] with frm := { furrows := [(4, { cands := [{ fn := 4, next := 0, hits := 2 }] })] } }
def w8_78 : State := req 0x0333 [9,0,1,0] (st [⟨Reg.MODE_STATUS_MODE, 1, 0, 0⟩, ⟨Reg.LF_PROFILE_DUAL_HOME, 1, 9, 0⟩])
def w8_73 : State := req 0x0333 [255,255,1,0] (st [⟨Reg.PROT_CFG_EN, 1, 0, 0⟩])
def w8_70 : State := { frm := { prot := { pqFrames := 200, pqChanges := 100 } } }
def w8_61 : State := { st [⟨Reg.PROT_STATUS_SF_A, 1, 0, 0⟩] with clock := 14, frm := { prot := { holdoffs := [(0, some (5, 9))] } } }
def w8_68 : State := { st [⟨Reg.PROT_STATUS_SETTLING, 1, 0, 0⟩] with clock := 2600000003, frm := { prot := { settle := some 3 } } }
def w8_66 : State := { st [⟨Reg.PROT_TIMERS_WTR_S, 1, 0, 0⟩, ⟨Reg.PROT_STATUS_WTR_RUN, 1, 0, 0⟩] with clock := 13000000003, frm := { prot := { wtr := some 3 } } }
def c08_61 : State := { st [⟨Reg.PROT_STATUS_SF_A, 0, 0, 0⟩] with clock := 14, frm := { prot := { holdoffs := [(0, some (5, 9))] } } }
def w8_104 : State := { st [⟨Reg.LN_CFG_FORMAT, 2, 15, 0⟩, ⟨Reg.LN_STATUS_RX_STATE, 3, 15, 0⟩, ⟨Reg.LN_CFG_RATE, 1, 15, 0⟩, ⟨Reg.LN_STATUS_BLOCK_LOCK, 1, 15, 0⟩] with ln := { lanes := [(15, { bad := 15, window := 100 })] } }
def blk : Nat → BitVec 64 := fun h => BitVec.ofNat 64 (h * 256 + crc8 0 ((List.range 56).map (fun i => bitsOf h (55 - i) 1 == 1)))
def row2 : RillRow := { header := blk 5 + 1 }
def row1 : RillRow := { header := blk 5 }
def w8_114 : State := { st [⟨Reg.RL_CFG_EN, 1, 15, 0⟩, ⟨Reg.RL_CFG_RILLS, 2, 15, 0⟩, ⟨Reg.LN_STATUS_BLOCK_LOCK, 1, 15, 0⟩, ⟨Reg.MODE_STATUS_MODE, 0, 0, 0⟩, ⟨Reg.RL_STATUS_ALIGNED, 1, 15, 0⟩] with tsi := { lanes := [(15, { lastFn := some 6, missed := 1 })] }, ln := { lanes := [(15, { data := { rows := [row2, row1] } })] } }
def w8_106 : State := { st [⟨Reg.LN_CFG_FORMAT, 2, 15, 0⟩, ⟨Reg.LN_STATUS_RX_STATE, 3, 15, 0⟩, ⟨Reg.LN_CFG_RATE, 1, 15, 0⟩, ⟨Reg.LN_STATUS_BLOCK_LOCK, 1, 15, 0⟩] with ln := { lanes := [(15, { bad := 3, window := 100, data := { descr := 99 } })] } }
def w8_94 : State := { st [⟨Reg.TN_CLIENT_KIND, 4, 255, 0⟩, ⟨Reg.TN_CLIENT_LANE, 3, 255, 0⟩, ⟨Reg.MODE_STATUS_MODE, 0, 0, 0⟩] with tsi := { slips := [(510, { held := [], started := true }), (511, { held := [], started := true })] } }
def w8_80 : State := { st [⟨Reg.TN_CLIENT_KIND, 4, 255, 0⟩, ⟨Reg.TN_CLIENT_LANE, 3, 255, 0⟩, ⟨Reg.MODE_STATUS_MODE, 0, 0, 0⟩, ⟨Reg.RL_STATUS_ALIGNED, 1, 3, 0⟩] with tsi := { slips := [(510, { held := [none, none], parts := List.replicate 25 none }), (511, { held := [none, none], parts := List.replicate 25 none })] } }
def w8_116 : State := { st [⟨Reg.RL_CFG_EN, 1, 15, 0⟩, ⟨Reg.RL_CFG_RILLS, 2, 15, 0⟩, ⟨Reg.LN_STATUS_BLOCK_LOCK, 1, 15, 0⟩, ⟨Reg.MODE_STATUS_MODE, 0, 0, 0⟩, ⟨Reg.RL_STATUS_ALIGNED, 1, 15, 0⟩] with tsi := { lanes := [(15, { missed := 4 })] } }
def w8_88 : State := { st [⟨Reg.TN_CLIENT_KIND, 4, 255, 0⟩, ⟨Reg.TN_CLIENT_LANE, 3, 255, 0⟩, ⟨Reg.MODE_STATUS_MODE, 0, 0, 0⟩] with tsi := { slips := [(510, { held := [some [5], none], started := false }), (511, { held := [some [5], none], started := false })] } }
def row0 : RillRow := { header := blk (0xC3 * 2 ^ 48 + 7 * 2 ^ 35), data := [5, 6] }
def w8_112 : State := { st [⟨Reg.RL_CFG_EN, 1, 15, 0⟩, ⟨Reg.RL_CFG_RILLS, 2, 15, 0⟩, ⟨Reg.LN_STATUS_BLOCK_LOCK, 1, 15, 0⟩, ⟨Reg.MODE_STATUS_MODE, 0, 0, 0⟩] with tsi := { lanes := [(15, { lastFn := some 6, missed := 1 })] }, ln := { lanes := [(15, { data := { rows := [row0, row1] } })] } }
def w8_100 : State := { st [⟨Reg.LN_CFG_FORMAT, 2, 15, 0⟩, ⟨Reg.LN_STATUS_RX_STATE, 3, 15, 0⟩, ⟨Reg.LN_CFG_RATE, 1, 15, 0⟩] with ln := { lanes := [(15, { good := 63 })] } }
def w8_97 : State := { st [⟨Reg.TN_CLIENT_KIND, 4, 255, 0⟩, ⟨Reg.TN_CLIENT_LANE, 3, 255, 0⟩, ⟨Reg.MODE_STATUS_MODE, 0, 0, 0⟩] with tsi := { slips := [(510, { held := [some [5]], started := false }), (511, { held := [some [5]], started := false })] } }
def w8_84 : State := { st [⟨Reg.TN_CLIENT_KIND, 4, 255, 0⟩, ⟨Reg.TN_CLIENT_LANE, 3, 255, 0⟩, ⟨Reg.MODE_STATUS_MODE, 0, 0, 0⟩, ⟨Reg.RL_STATUS_ALIGNED, 1, 3, 0⟩] with tsi := { slips := [(510, { held := [none, some [1], none], parts := List.replicate 25 none }), (511, { held := [none, some [1], none], parts := List.replicate 25 none })] } }
def w8_102 : State := { st [⟨Reg.LN_CFG_FORMAT, 2, 15, 0⟩, ⟨Reg.LN_STATUS_RX_STATE, 3, 15, 0⟩, ⟨Reg.LN_CFG_RATE, 1, 15, 0⟩] with ln := { lanes := [(15, { good := 63, offset := 65 })] } }
def w8_144 : State := req 0x0701 ([7,0,3,0,1,0,0,0] ++ wrapped) { st [⟨Reg.KS_STATUS_STATE, 2, 3, 0⟩] with cip := { keys := [(3, { key := 9 })], bus := [{ activation := true }] } }
def w8_142 : State := req 0x0701 ([7,0,3,0,1,0,0,0] ++ wrapped) { st [⟨Reg.KS_STATUS_STATE, 2, 3, 0⟩] with cip := { keys := [(3, { key := 9 })], bus := [] } }
def w8_126 : State := st [⟨Reg.TN_CIPHER_PROTECT, 1, 200, 0⟩, ⟨Reg.TN_CIPH_STATUS_CUR_CTX, 5, 200, 0⟩, ⟨Reg.CTX_STATUS_STATE, 2, 5, 0⟩, ⟨Reg.MODE_STATUS_MODE, 2, 0, 0⟩, ⟨Reg.CTX_TX_LO_TX_CTR_LO, 9, 5, 0⟩, ⟨Reg.CTX_RX_LO_RX_LAST_LO, 4, 5, 0⟩]
def ru : RxUnit := { cls := .open_, header := 5, ctx := 5 }
def sUnit : State := { st [⟨Reg.TN_CIPHER_PROTECT, 1, 200, 0⟩, ⟨Reg.TN_CIPH_STATUS_CUR_CTX, 5, 200, 0⟩, ⟨Reg.CTX_STATUS_STATE, 2, 5, 0⟩, ⟨Reg.MODE_STATUS_MODE, 2, 0, 0⟩, ⟨Reg.CTX_TX_LO_TX_CTR_LO, 9, 5, 0⟩, ⟨Reg.CTX_RX_LO_RX_LAST_LO, 4, 5, 0⟩] with cip := { keys := [(0, { key := 5 })], salts := [(5, 77)], turnouts := [(200, { rx := some ru })] } }
def sCip1 : State := { st [⟨Reg.TN_CIPHER_PROTECT, 1, 200, 0⟩, ⟨Reg.TN_CIPH_STATUS_CUR_CTX, 5, 200, 0⟩, ⟨Reg.CTX_STATUS_STATE, 2, 5, 0⟩, ⟨Reg.MODE_STATUS_MODE, 2, 0, 0⟩, ⟨Reg.CTX_RX_LO_RX_LAST_LO, 4, 5, 0⟩, ⟨Reg.CTX_TX_LO_TX_CTR_LO, (ctrEnd - 1), 5, 0⟩, ⟨Reg.CTX_HI_TX_CTR_HI, ((ctrEnd - 1) / 2 ^ 32), 5, 0⟩, ⟨Reg.TN_CLIENT_KIND, 3, 200, 0⟩, ⟨Reg.TXS_LEAF_CFG_BURST_RATE_SEL, 0, 0, 0⟩] with cip := { keys := [(0, { key := 5 })], salts := [(5, 77)] } }
def w8_150 : State := run 0x070B ([5,0,0,0] ++ bytes 8 5 ++ bytes 16 0 ++ [1,2,3]) { st [⟨Reg.CTX_STATUS_KEY_VALID, 1, 5, 0⟩] with clock := 832, cip := { keys := [(0, { key := 5 })], salts := [(5, 77)], bus := [{ activation := false, mb := some 1 }] } }
def w8_146 : State := req 0x070B ([5,0,0,0] ++ bytes 8 5 ++ bytes 16 0 ++ [1,2,3]) { st [⟨Reg.CTX_STATUS_KEY_VALID, 1, 5, 0⟩] with cip := { keys := [(0, { key := 5 })], salts := [(5, 77)] } }
def w8_152 : State := req 0x070A [200] (st [⟨Reg.TN_CIPH_STATUS_BLOCKED, 1, 200, 0⟩])
def w8_134 : State := st [⟨Reg.TN_CIPHER_PROTECT, 1, 200, 0⟩, ⟨Reg.TN_CIPH_STATUS_CUR_CTX, 5, 200, 0⟩, ⟨Reg.CTX_STATUS_STATE, 2, 5, 0⟩, ⟨Reg.MODE_STATUS_MODE, 2, 0, 0⟩, ⟨Reg.CTX_TX_LO_TX_CTR_LO, 9, 5, 0⟩, ⟨Reg.CTX_RX_LO_RX_LAST_LO, 4, 5, 0⟩, ⟨Reg.TN_CIPH_STATUS_BLOCKED, 1, 200, 0⟩]
def w8_148 : State := { clock := 832, cip := { bus := [{ activation := true }] } }
def w8_132 : State := st [⟨Reg.TN_CIPHER_PROTECT, 1, 200, 0⟩, ⟨Reg.TN_CIPH_STATUS_CUR_CTX, 5, 200, 0⟩, ⟨Reg.CTX_STATUS_STATE, 2, 5, 0⟩, ⟨Reg.MODE_STATUS_MODE, 2, 0, 0⟩, ⟨Reg.CTX_TX_LO_TX_CTR_LO, 9, 5, 0⟩, ⟨Reg.CTX_RX_LO_RX_LAST_LO, 4, 5, 0⟩]
def sCip2 : State := { st [⟨Reg.TN_CIPHER_PROTECT, 1, 200, 0⟩, ⟨Reg.TN_CIPH_STATUS_CUR_CTX, 5, 200, 0⟩, ⟨Reg.MODE_STATUS_MODE, 2, 0, 0⟩, ⟨Reg.CTX_TX_LO_TX_CTR_LO, 9, 5, 0⟩, ⟨Reg.CTX_RX_LO_RX_LAST_LO, 4, 5, 0⟩, ⟨Reg.CTX_STATUS_STATE, 3, 5, 0⟩, ⟨Reg.TN_CLIENT_KIND, 3, 200, 0⟩, ⟨Reg.TXS_LEAF_CFG_BURST_RATE_SEL, 0, 0, 0⟩] with cip := { keys := [(0, { key := 5 })], salts := [(5, 77)] } }
def w8_130 : State := st [⟨Reg.TN_CIPHER_PROTECT, 1, 200, 0⟩, ⟨Reg.TN_CIPH_STATUS_CUR_CTX, 5, 200, 0⟩, ⟨Reg.CTX_STATUS_STATE, 2, 5, 0⟩, ⟨Reg.MODE_STATUS_MODE, 2, 0, 0⟩, ⟨Reg.CTX_TX_LO_TX_CTR_LO, 9, 5, 0⟩, ⟨Reg.CTX_RX_LO_RX_LAST_LO, 4, 5, 0⟩]
def w8_128 : State := st [⟨Reg.TN_CIPHER_PROTECT, 1, 200, 0⟩, ⟨Reg.TN_CIPH_STATUS_CUR_CTX, 5, 200, 0⟩, ⟨Reg.CTX_STATUS_STATE, 2, 5, 0⟩, ⟨Reg.MODE_STATUS_MODE, 2, 0, 0⟩, ⟨Reg.CTX_TX_LO_TX_CTR_LO, 9, 5, 0⟩, ⟨Reg.CTX_RX_LO_RX_LAST_LO, 4, 5, 0⟩]
def w8_124 : State := st [⟨Reg.TN_CIPHER_PROTECT, 1, 200, 0⟩, ⟨Reg.TN_CIPH_STATUS_CUR_CTX, 5, 200, 0⟩, ⟨Reg.CTX_STATUS_STATE, 2, 5, 0⟩, ⟨Reg.MODE_STATUS_MODE, 2, 0, 0⟩, ⟨Reg.CTX_TX_LO_TX_CTR_LO, 9, 5, 0⟩, ⟨Reg.CTX_RX_LO_RX_LAST_LO, 4, 5, 0⟩]
def w8_154 : State := req 0x0702 [255,1] { st [⟨Reg.KS_STATUS_STATE, 2, 511, 0⟩, ⟨Reg.KS_KCV_KCV, 77, 511, 0⟩] with cip := { keys := [(511, { key := 9, hw := 4 })] } }
def w8_156 : State := req 0x0702 [255,1] { st [⟨Reg.KS_STATUS_STATE, 1, 511, 0⟩, ⟨Reg.KS_STATUS_REFS, 1, 511, 0⟩] with cip := { keys := [(511, { key := 9, hw := 4 })] } }
def fr80 : List Byte := (List.range 76).map (BitVec.ofNat 8) ++ fcs ((List.range 76).map (BitVec.ofNat 8))
def pkA : Pkt := { pk with turnout := 200, data := fr80 }
def pkD : Pkt := { pkA with pool := .backwater, parcels := [1], desc := some 0, action := 2 ^ 53 * 200 + 2 ^ 61 * 3, tag := 9 }
def w9_61 : State := { st [⟨Reg.TN_CLIENT_KIND, 3, 200, 0⟩] with clock := 165, pk := { bwPool := [9, 4], domains := [(200, { next := 5 })], pkts := [(9, some pkD), (4, some pk)] } }
def pkC0 : Pkt := { pkA with num := 3, action := 2 ^ 61 * 1 }
def w9_45 : State := { st [⟨Reg.TN_CLIENT_KIND, 3, 200, 0⟩] with clock := 165, pk := { domains := [(200, { hand := 3, next := 5, stage := [9, 4], left := 3 })], pkts := [(9, some pkC0), (4, some pk)] } }
def w9_38 : State := { st [⟨Reg.TN_PKT_PARSE_HDRS, 8, 200, 0⟩, ⟨Reg.TN_PKT_PARSE_BYTES, 128, 200, 0⟩] with clock := 130000, pk := { starts := 1, lastLane := 3, pkts := [(9, some pkA), (4, some pk)], startCycle := 16000, hostWait := [(2, [9, 4])] } }
def w9_3 : State := { st [⟨Reg.TN_PKT_HOST_PORT, 1, 200, 0⟩, ⟨Reg.TN_PKT_LANE, 3, 200, 0⟩, ⟨Reg.TN_PKT_ETH_RATE, 1, 200, 0⟩, ⟨Reg.LN_CFG_RATE, 2, 3, 0⟩] with pk := { ports := [(200, { words := [5, 6] })] } }
def w9_27 : State := { st [⟨Reg.TN_PKT_HOST_PORT, 1, 200, 0⟩, ⟨Reg.TN_PKT_LANE, 3, 200, 0⟩, ⟨Reg.TN_PKT_ETH_RATE, 1, 200, 0⟩, ⟨Reg.LN_CFG_RATE, 2, 3, 0⟩, ⟨Reg.PORT_STATUS_ALIGNED, 1, 3, 0⟩] with pk := { next := 7, domains := [(200, { next := 9 })], lineWait := [1], pkts := [(1, some pk)] } }
def pkB : Pkt := { pkA with startedAt := 100, cycles := 8 }
def w9_41 : State := { clock := 165, pk := { parsing := [4, 9], pkts := [(4, some pk), (9, some pkB)] } }
def w9_33 : State := { st [⟨Reg.TN_PKT_PARSE_HDRS, 8, 200, 0⟩, ⟨Reg.TN_PKT_PARSE_BYTES, 128, 200, 0⟩] with clock := 130000, pk := { bwWait := [9, 4], lineWait := [4], pkts := [(9, some pkA), (4, some pk)], startCycle := 16000 - 1 } }
def w9_35 : State := { st [⟨Reg.TN_PKT_PARSE_HDRS, 8, 200, 0⟩, ⟨Reg.TN_PKT_PARSE_BYTES, 128, 200, 0⟩] with clock := 130000, pk := { bwWait := [4], bwStarts := 1, starts := 3, lineWait := [9, 4], pkts := [(9, some pkA), (4, some pk)], startCycle := 16000 } }
def w9_18 : State := ({ st [⟨Reg.TN_PKT_HOST_PORT, 1, 200, 0⟩, ⟨Reg.TN_PKT_LANE, 3, 200, 0⟩, ⟨Reg.TN_PKT_ETH_RATE, 1, 200, 0⟩, ⟨Reg.LN_CFG_RATE, 2, 3, 0⟩] with pk := { ports := [(200, { words := [5, 6] })] } }).setQState 4 3 1
def w9_11 : State := { st [⟨Reg.TN_PKT_HOST_PORT, 1, 200, 0⟩, ⟨Reg.TN_PKT_LANE, 3, 200, 0⟩, ⟨Reg.TN_PKT_ETH_RATE, 1, 200, 0⟩, ⟨Reg.LN_CFG_RATE, 2, 3, 0⟩] with pk := { ports := [(200, { words := [64] })] } }
def w9_22 : State := { st [⟨Reg.TN_CLIENT_KIND, 3, 200, 0⟩] with pk := { next := 7, domains := [(200, { next := 9 })], lineWait := [1], pkts := [(1, some pk)] } }
def w9_24 : State := { st [⟨Reg.TN_CLIENT_KIND, 3, 200, 0⟩] with pk := { next := 7, domains := [(200, { next := 9 })], lineWait := [1], pkts := [(1, some pk)] } }
def pkE : Pkt := { pkA with pool := .data 1605, parcels := [1], desc := some 0, finish := 7 }
def w9_78 : State := { st [⟨Reg.TN_PKT_HOST_PORT, 1, 200, 0⟩, ⟨Reg.TN_PKT_LANE, 3, 200, 0⟩, ⟨Reg.TN_PKT_ETH_RATE, 1, 200, 0⟩, ⟨Reg.LN_CFG_RATE, 2, 3, 0⟩, ⟨Reg.LN_CFG_FORMAT, 1, 3, 0⟩, ⟨Reg.LN_CFG_FORMAT, 1, 4, 0⟩] with pk := { pkts := [(9, some pkE), (4, some pk)], egress := [(200, [9, 4])] } }
def w9_76 : State := { st [⟨Reg.TN_CLIENT_KIND, 3, 200, 0⟩] with pk := { pkts := [(9, some pkE), (4, some pk)], egress := [(200, [9, 4])] } }
def w9_109 : State := req 0x0627 [63, 0, 0, 0] ({ st [⟨Reg.CQ_CFG_OWNER, 1, 63, 0⟩] with pk := { pkts := [(9, some pkE), (4, some pk)], queues := [(2111, [9, 4])], received := [(3, 8, 1)], nextHandle := 6 } })
def fKey : List Byte := [2, 0, 0, 0] ++ bytesBe 44 (flowKey 2 { domain := 5, proto := 6, src := 7, dst := 8, sport := 9, dport := 10 }) ++ bytes 8 (2 ^ 61 * 1)
def w9_89 : State := req 0x0615 fKey ({ pk := { flows := [] } })
def fIdx : Nat := 4 * bucket1 (State.reset.cmdHash fKey)
def w9_65 : State := { st [⟨Reg.TN_CLIENT_KIND, 3, 200, 0⟩, ⟨Reg.TN_HG_STRICT_STRICT, 0, 200, 0⟩] with pk := { selCycle := 0, selections := 3, pkts := [(9, some pkE), (4, some pk)], queues := [(1605, [9, 4])] } }
def w9_95 : State := req 0x0616 fKey ({ pk := { flows := [] } })
def fGet : List Byte := [2, 1, 0, 0] ++ bytesBe 44 (cmdKey fKey)
def fEnt : FlowEntry := { format := 2, key := cmdKey fKey, action := 5 }
def fEnt2 : FlowEntry := { fEnt with hit := true }
def w9_100 : State := req 0x0617 fGet ({ pk := { flows := [(fIdx, some fEnt2)] } })
def w9_103 : State := req 0x0617 fGet (State.reset)
def w9_113 : State := req 0x0628 [6, 0, 0, 0] ({ pk := { pkts := [(9, some pkE), (4, some pk)], received := [(3, 4, 1)] } })
def w9_87 : State := req 0x0615 fKey ({ pk := { flows := [(fIdx, some fEnt)] } })
def w9_73 : State := { st [⟨Reg.TN_CLIENT_KIND, 3, 200, 0⟩, ⟨Reg.TN_HG_STRICT_STRICT, 32, 200, 0⟩] with pk := { selCycle := 0, selections := 4, pkts := [(9, some pkE), (4, some pk)], queues := [(1605, [9, 4])] } }
def w9_111 : State := req 0x0628 [6, 0, 0, 0] ({ pk := { pkts := [(9, some pkE), (4, some pk)], received := [(3, 4, 1), (6, 9, 63)] } })
def w9_93 : State := req 0x0616 fKey ({ pk := { flows := [(fIdx, some fEnt)] } })
def w9_105 : State := req 0x0627 [63, 0, 0, 0] ({ st [⟨Reg.CQ_CFG_OWNER, 0, 63, 0⟩] with pk := { pkts := [(9, some pkE), (4, some pk)], queues := [(2111, [9])], received := [(3, 8, 1)], nextHandle := 6 } })
def w9_67 : State := { st [⟨Reg.TN_PKT_HOST_PORT, 1, 200, 0⟩, ⟨Reg.TN_PKT_LANE, 3, 200, 0⟩, ⟨Reg.TN_PKT_ETH_RATE, 1, 200, 0⟩, ⟨Reg.LN_CFG_RATE, 2, 3, 0⟩, ⟨Reg.LN_CFG_FORMAT, 1, 3, 0⟩, ⟨Reg.LN_CFG_FORMAT, 1, 4, 0⟩, ⟨Reg.TN_HG_STRICT_STRICT, 0, 200, 0⟩] with pk := { selCycle := 0, selections := 3, pkts := [(9, some pkE), (4, some pk)], queues := [(1605, [9, 4])] } }
def w9_107 : State := req 0x0627 [63, 0, 0, 0] ({ st [⟨Reg.CQ_CFG_OWNER, 1, 63, 0⟩] with pk := { pkts := [(9, some pkE), (4, some pk)], queues := [(2111, [])], received := [(3, 8, 1)], nextHandle := 6 } })
def fHash : Nat := State.reset.cmdHash fKey
def sFullT : State := { pk := { flows := (List.range 8).map (fun k => (4 * (if k < 4 then bucket1 fHash else bucket2 fHash) + k % 4, some { format := 2, key := (cmdKey fKey) ^^^ (0x11EDC6F41 * 2 ^ (256 + k)), action := 0 })) } }
def sFull : State := req 0x0615 fKey sFullT
def w9_184 : State := (st [⟨Reg.TN_PKT_HOST_PORT, 1, 200, 0⟩, ⟨Reg.TN_PKT_LANE, 14, 200, 0⟩, ⟨Reg.TN_PKT_ETH_RATE, 1, 200, 0⟩, ⟨Reg.LN_CFG_RATE, 2, 14, 0⟩, ⟨Reg.LN_CFG_FORMAT, 1, 14, 0⟩, ⟨Reg.LN_CFG_FORMAT, 1, 15, 0⟩, ⟨Reg.LN_STATUS_RX_STATE, 3, 14, 0⟩, ⟨Reg.LN_STATUS_RX_STATE, 3, 15, 0⟩, ⟨Reg.LN_CFG_RATE, 2, 15, 0⟩, ⟨Reg.PORT_STATUS_ALIGNED, 1, 14, 0⟩, ⟨Reg.TN_CLIENT_KIND, 1, 5, 0⟩, ⟨Reg.TN_CLIENT_LANE, 14, 5, 0⟩, ⟨Reg.TN_CLIENT_ETH_RATE, 1, 5, 0⟩]).setQState 4 14 1
def w9_167 : State := { st [⟨Reg.LN_CFG_FORMAT, 1, 23, 0⟩, ⟨Reg.LN_CFG_RATE, 6, 23, 0⟩, ⟨Reg.LN_STATUS_RX_STATE, 3, 23, 0⟩, ⟨Reg.LN_FOM_CTLE, 40, 23, 0⟩] with clock := 1300005, ln := { lanes := [(23, { ctleAt := 5 })] }, sys := { bounds := [(64 * 3 + 23, some (10, 20))] } }
def w9_142 : State := { st [⟨Reg.LN_CFG_FORMAT, 1, 23, 0⟩, ⟨Reg.LN_CFG_RATE, 6, 23, 0⟩, ⟨Reg.LN_STATUS_RX_STATE, 2, 23, 0⟩] with clock := 299000007, ln := { lanes := [(23, { adaptAt := 7 })] } }
def w9_172 : State := st [⟨Reg.TN_PKT_HOST_PORT, 1, 200, 0⟩, ⟨Reg.TN_PKT_LANE, 14, 200, 0⟩, ⟨Reg.TN_PKT_ETH_RATE, 1, 200, 0⟩, ⟨Reg.LN_CFG_RATE, 2, 14, 0⟩, ⟨Reg.LN_CFG_FORMAT, 1, 14, 0⟩, ⟨Reg.LN_CFG_FORMAT, 1, 15, 0⟩, ⟨Reg.LN_STATUS_RX_STATE, 3, 14, 0⟩, ⟨Reg.LN_STATUS_RX_STATE, 3, 15, 0⟩, ⟨Reg.LN_CFG_RATE, 2, 15, 0⟩]
def w9_120 : State := { st [⟨Reg.LN_CFG_FORMAT, 1, 0, 0⟩, ⟨Reg.LN_CFG_RATE, 2, 0, 0⟩, ⟨Reg.LN_STATUS_RX_STATE, 2, 0, 0⟩] with clock := 9 }
def w9_144 : State := { st [⟨Reg.LN_CFG_FORMAT, 1, 23, 0⟩, ⟨Reg.LN_CFG_RATE, 6, 23, 0⟩, ⟨Reg.LN_STATUS_RX_STATE, 3, 23, 0⟩] with clock := 299000007, ln := { lanes := [(23, { adaptAt := 7 })] } }
def w9_193 : State := { st [⟨Reg.TN_PKT_HOST_PORT, 1, 200, 0⟩, ⟨Reg.TN_PKT_LANE, 14, 200, 0⟩, ⟨Reg.TN_PKT_ETH_RATE, 1, 200, 0⟩, ⟨Reg.LN_CFG_RATE, 2, 14, 0⟩, ⟨Reg.LN_CFG_FORMAT, 1, 14, 0⟩, ⟨Reg.LN_CFG_FORMAT, 1, 15, 0⟩, ⟨Reg.LN_STATUS_RX_STATE, 3, 14, 0⟩, ⟨Reg.LN_STATUS_RX_STATE, 3, 15, 0⟩, ⟨Reg.LN_CFG_RATE, 2, 15, 0⟩, ⟨Reg.PORT_STATUS_ALIGNED, 1, 14, 0⟩, ⟨Reg.PORT_CFG_SER_THR, 5, 14, 0⟩, ⟨Reg.PORT_STATUS_HI_SER, 0, 14, 0⟩] with ln := { lanes := [(14, { cws := 8192, symbs := 6 })] } }
def w9_174 : State := st [⟨Reg.TN_PKT_HOST_PORT, 1, 200, 0⟩, ⟨Reg.TN_PKT_LANE, 14, 200, 0⟩, ⟨Reg.TN_PKT_ETH_RATE, 1, 200, 0⟩, ⟨Reg.LN_CFG_RATE, 2, 14, 0⟩, ⟨Reg.LN_CFG_FORMAT, 1, 14, 0⟩, ⟨Reg.LN_CFG_FORMAT, 1, 15, 0⟩, ⟨Reg.LN_STATUS_RX_STATE, 3, 14, 0⟩, ⟨Reg.LN_STATUS_RX_STATE, 3, 15, 0⟩, ⟨Reg.LN_CFG_RATE, 2, 15, 0⟩, ⟨Reg.PORT_STATUS_ALIGNED, 1, 14, 0⟩]
def w9_140 : State := { st [⟨Reg.LN_CFG_FORMAT, 1, 23, 0⟩, ⟨Reg.LN_CFG_RATE, 6, 23, 0⟩, ⟨Reg.LN_STATUS_RX_STATE, 1, 23, 0⟩] with clock := 299000007, ln := { lanes := [(23, { adaptAt := 7 })] } }
def w9_187 : State := { st [⟨Reg.TN_PKT_HOST_PORT, 1, 200, 0⟩, ⟨Reg.TN_PKT_LANE, 14, 200, 0⟩, ⟨Reg.TN_PKT_ETH_RATE, 1, 200, 0⟩, ⟨Reg.LN_CFG_RATE, 2, 14, 0⟩, ⟨Reg.LN_CFG_FORMAT, 1, 14, 0⟩, ⟨Reg.LN_CFG_FORMAT, 1, 15, 0⟩, ⟨Reg.LN_STATUS_RX_STATE, 3, 14, 0⟩, ⟨Reg.LN_STATUS_RX_STATE, 3, 15, 0⟩, ⟨Reg.LN_CFG_RATE, 2, 15, 0⟩, ⟨Reg.PORT_STATUS_ALIGNED, 1, 14, 0⟩, ⟨Reg.PORT_CFG_SER_THR, 5, 14, 0⟩, ⟨Reg.PORT_STATUS_HI_SER, 1, 14, 0⟩] with ln := { lanes := [(14, { cws := 8192, symbs := 5 })] } }
def w9_157 : State := { st [⟨Reg.LN_CFG_FORMAT, 1, 23, 0⟩, ⟨Reg.LN_CFG_RATE, 6, 23, 0⟩, ⟨Reg.LN_STATUS_RX_STATE, 2, 23, 0⟩, ⟨Reg.LN_FOM_CTLE, 40, 23, 0⟩] with clock := 1300005, ln := { lanes := [(23, { ctleAt := 5 })] }, sys := { bounds := [(64 * 3 + 23, some (10, 20))] } }
def c09_132 : State := { st [⟨Reg.LN_CFG_FORMAT, 1, 0, 0⟩, ⟨Reg.LN_CFG_RATE, 2, 0, 0⟩, ⟨Reg.LN_STATUS_RX_STATE, 3, 0, 0⟩, ⟨Reg.LN_FOM_CTLE, 0, 0, 0⟩] with clock := 1300005, ln := { lanes := [(0, { ctleAt := 5 })] }, sys := { bounds := [(64 * 3 + 0, some (10, 20))] } }
def w9_204 : State := req 0x0352 [0, 192, 0, 0, 1, 0, 0, 0] ({ st [⟨Reg.TN_PKT_HOST_PORT, 1, 200, 0⟩, ⟨Reg.TN_PKT_LANE, 14, 200, 0⟩, ⟨Reg.TN_PKT_ETH_RATE, 1, 200, 0⟩, ⟨Reg.LN_CFG_RATE, 2, 14, 0⟩, ⟨Reg.LN_CFG_FORMAT, 1, 14, 0⟩, ⟨Reg.LN_CFG_FORMAT, 1, 15, 0⟩, ⟨Reg.LN_STATUS_RX_STATE, 3, 14, 0⟩, ⟨Reg.LN_STATUS_RX_STATE, 3, 15, 0⟩, ⟨Reg.LN_CFG_RATE, 2, 15, 0⟩, ⟨Reg.LN_STATUS_PSTATE, 1, 14, 0⟩, ⟨Reg.LN_STATUS_PSTATE, 1, 15, 0⟩] with clock := 77 })
def w9_211 : State := { st [⟨Reg.TN_PKT_HOST_PORT, 1, 200, 0⟩, ⟨Reg.TN_PKT_LANE, 14, 200, 0⟩, ⟨Reg.TN_PKT_ETH_RATE, 1, 200, 0⟩, ⟨Reg.LN_CFG_RATE, 2, 14, 0⟩, ⟨Reg.LN_CFG_FORMAT, 1, 14, 0⟩, ⟨Reg.LN_CFG_FORMAT, 1, 15, 0⟩, ⟨Reg.LN_CFG_RATE, 2, 15, 0⟩, ⟨Reg.LN_STATUS_RX_STATE, 3, 14, 0⟩, ⟨Reg.LN_STATUS_PSTATE, 1, 14, 0⟩] with clock := 325000077, ln := { lanes := [(14, { move := some ⟨1, 0, 77⟩ })] } }
def w9_232 : State := st [⟨Reg.LN_CFG_FORMAT, 3, 23, 0⟩, ⟨Reg.LN_CFG_RATE, 1, 23, 0⟩, ⟨Reg.LN_TEST_CHK_PAT, 3, 23, 0⟩, ⟨Reg.LN_STATUS_RX_STATE, 3, 23, 0⟩, ⟨Reg.LN_STATUS_PAT_LOCK, 0, 23, 0⟩]
def w9_238 : State := req 0x0353 [23, 0, 9, 0] ({ st [⟨Reg.LN_CFG_FORMAT, 3, 23, 0⟩] with ln := { lanes := [(23, { inverted := 4 })] } })
def w9_218 : State := { st [⟨Reg.TN_PKT_HOST_PORT, 1, 200, 0⟩, ⟨Reg.TN_PKT_LANE, 14, 200, 0⟩, ⟨Reg.TN_PKT_ETH_RATE, 1, 200, 0⟩, ⟨Reg.LN_CFG_RATE, 2, 14, 0⟩, ⟨Reg.LN_CFG_FORMAT, 1, 14, 0⟩, ⟨Reg.LN_CFG_FORMAT, 1, 15, 0⟩, ⟨Reg.LN_CFG_RATE, 2, 15, 0⟩, ⟨Reg.LN_STATUS_RX_STATE, 0, 14, 0⟩, ⟨Reg.LN_STATUS_PSTATE, 1, 14, 0⟩] with clock := 325000077, ln := { lanes := [(14, { move := some ⟨1, 2, 77⟩ })] } }
def w9_234 : State := st [⟨Reg.LN_CFG_FORMAT, 3, 23, 0⟩, ⟨Reg.LN_CFG_RATE, 1, 23, 0⟩, ⟨Reg.LN_TEST_CHK_PAT, 3, 23, 0⟩, ⟨Reg.LN_STATUS_RX_STATE, 3, 23, 0⟩, ⟨Reg.LN_STATUS_PAT_LOCK, 1, 23, 0⟩]
def w9_236 : State := req 0x0353 [23, 0, 9, 0] ({ st [⟨Reg.LN_CFG_FORMAT, 1, 23, 0⟩] with ln := { lanes := [(23, { inverted := 4 })] } })
def w9_241 : State := req 0x0353 [23, 1, 9, 0] ({ st [⟨Reg.LN_CFG_FORMAT, 3, 23, 0⟩] with ln := { lanes := [(23, { inverted := 4 })] } })
def w9_244 : State := req 0x0353 [23, 2, 9, 0] ({ st [⟨Reg.LN_CFG_FORMAT, 3, 23, 0⟩] with ln := { lanes := [(23, { inverted := 4 })] } })
def w9_200 : State := req 0x0352 [0, 192, 0, 0, 1, 0, 0, 0] ({ st [⟨Reg.TN_PKT_HOST_PORT, 1, 200, 0⟩, ⟨Reg.TN_PKT_LANE, 14, 200, 0⟩, ⟨Reg.TN_PKT_ETH_RATE, 1, 200, 0⟩, ⟨Reg.LN_CFG_RATE, 2, 14, 0⟩, ⟨Reg.LN_CFG_FORMAT, 1, 14, 0⟩, ⟨Reg.LN_CFG_FORMAT, 1, 15, 0⟩, ⟨Reg.LN_STATUS_RX_STATE, 3, 14, 0⟩, ⟨Reg.LN_STATUS_RX_STATE, 3, 15, 0⟩, ⟨Reg.LN_CFG_RATE, 2, 15, 0⟩, ⟨Reg.LN_STATUS_PSTATE, 0, 14, 0⟩, ⟨Reg.LN_STATUS_PSTATE, 0, 15, 0⟩] with clock := 77 })
def w9_250 : State := { st [⟨Reg.TL_CFG_RX_EN, 1, 1, 0⟩, ⟨Reg.TL_CFG_RX_INV, 0, 1, 0⟩, ⟨Reg.TL_STATUS_SYNC, 1, 1, 0⟩] with ln := { tls := [(1, { commas := 2, chars := 700, bad := [500, 300], rxRd := some true })] } }
def w9_274 : State := { st [⟨Reg.TL_CFG_RX_EN, 1, 1, 0⟩, ⟨Reg.TL_STATUS_SYNC, 1, 1, 0⟩] with clock := 9 }
def todM : List Byte := (List.range 14).map (BitVec.ofNat 8) ++ bytesBe 2 (todCrc ((List.range 14).map (BitVec.ofNat 8)))
def w9_292 : State := { st [⟨Reg.MODE_STATUS_MODE, 3, 0, 0⟩, ⟨Reg.LN_CFG_FORMAT, 4, 23, 0⟩, ⟨Reg.LN_CFG_RATE, 9, 23, 0⟩, ⟨Reg.MOD_CFG_HOST, 5, 23, 0⟩, ⟨Reg.MOD_STATUS_INNER_LOCK, 0, 23, 0⟩, ⟨Reg.LN_STATUS_RX_STATE, 3, 23, 0⟩] with clock := 9 }
def w9_286 : State := { st [⟨Reg.MODE_STATUS_MODE, 3, 0, 0⟩, ⟨Reg.LN_CFG_FORMAT, 4, 23, 0⟩, ⟨Reg.LN_CFG_RATE, 9, 23, 0⟩, ⟨Reg.MOD_CFG_HOST, 5, 23, 0⟩, ⟨Reg.MOD_STATUS_TX_FALLBACK_H, 1, 23, 0⟩, ⟨Reg.LN_STATUS_RX_STATE, 3, 23, 0⟩, ⟨Reg.LN_STATUS_RX_STATE, 3, 5, 0⟩, ⟨Reg.MOD_STATUS_INNER_LOCK, 1, 23, 0⟩] with clock := 130009, ln := { lanes := [(5, { goodAt := 9 }), (23, { goodAt := 9 })] } }
def w9_296 : State := req 0x0362 [7, 9, 0, 0] ({ st [⟨Reg.MODE_STATUS_MODE, 3, 0, 0⟩, ⟨Reg.LN_CFG_FORMAT, 4, 23, 0⟩, ⟨Reg.LN_CFG_RATE, 9, 23, 0⟩, ⟨Reg.MOD_CFG_HOST, 5, 23, 0⟩, ⟨Reg.LN_STATUS_RX_STATE, 3, 23, 0⟩] with clock := 9 })
def sTod : State := { st [⟨Reg.TL_CFG_TX_EN, 1, 1, 0⟩, ⟨Reg.TL_CFG_TOD_TX_EN, 1, 1, 0⟩] with clock := 6500000000, timeOff := 13000000000 * 99, ln := { tls := [(1, { frac := 5, seq := 65535, sentFor := some 98 })] } }
def w9_298 : State := run 0x0362 [7, 9, 0, 0] ({ st [⟨Reg.MODE_STATUS_MODE, 3, 0, 0⟩, ⟨Reg.LN_CFG_FORMAT, 4, 23, 0⟩, ⟨Reg.LN_CFG_RATE, 9, 23, 0⟩, ⟨Reg.MOD_CFG_HOST, 5, 23, 0⟩, ⟨Reg.LN_STATUS_RX_STATE, 3, 23, 0⟩] with clock := 13000000000, ln := { measure := some { mb := 1, lane := 23, n := 9, start := 9, lost := false } } })
def w9_263 : State := { st [⟨Reg.TL_CFG_RX_EN, 1, 1, 0⟩, ⟨Reg.TL_STATUS_SYNC, 1, 1, 0⟩] with ln := { tls := [(1, { bad := [1,2,3,4,5,6,7,8], moved := true })] } }
def w9_260 : State := { st [⟨Reg.TL_CFG_RX_EN, 1, 1, 0⟩] with ln := { tls := [(1, { commas := 3, chars := 700, bad := [500] })] } }
def w9_282 : State := { st [⟨Reg.TL_STATUS_MARK_SEEN, 1, 1, 0⟩] with clock := 14300000005, ln := { tls := [(1, { markAt := some 5 })] } }
def w9_266 : State := { st [⟨Reg.TL_CFG_RX_EN, 1, 1, 0⟩, ⟨Reg.TL_STATUS_SYNC, 1, 1, 0⟩, ⟨Reg.TL_STATUS_TOD_VALID, 1, 1, 0⟩] with clock := 13000005, ln := { tls := [(1, { todAt := none, markAt := none })] } }
def w9_284 : State := st [⟨Reg.MODE_STATUS_MODE, 3, 0, 0⟩, ⟨Reg.LN_CFG_FORMAT, 4, 23, 0⟩, ⟨Reg.LN_CFG_RATE, 9, 23, 0⟩, ⟨Reg.MOD_CFG_HOST, 5, 23, 0⟩]
def w9_254 : State := { st [⟨Reg.TL_CFG_RX_EN, 1, 1, 0⟩, ⟨Reg.TL_CFG_RX_INV, 0, 1, 0⟩, ⟨Reg.TL_STATUS_SYNC, 0, 1, 0⟩] with ln := { tls := [(1, { commas := 2, chars := 700, bad := [500, 300], rxRd := some false })] } }
def w9_294 : State := { st [⟨Reg.MODE_STATUS_MODE, 3, 0, 0⟩, ⟨Reg.LN_CFG_FORMAT, 4, 23, 0⟩, ⟨Reg.LN_CFG_RATE, 9, 23, 0⟩, ⟨Reg.MOD_CFG_HOST, 5, 23, 0⟩, ⟨Reg.MOD_STATUS_INNER_LOCK, 1, 23, 0⟩, ⟨Reg.LN_STATUS_RX_STATE, 3, 23, 0⟩] with clock := 9 }
def w9_276 : State := { st [⟨Reg.TL_CFG_RX_EN, 1, 1, 0⟩, ⟨Reg.TL_STATUS_SYNC, 1, 1, 0⟩] with clock := 9 }
def w9_300 : State := run 0x0362 [7, 9, 0, 0] ({ st [⟨Reg.MODE_STATUS_MODE, 3, 0, 0⟩, ⟨Reg.LN_CFG_FORMAT, 4, 23, 0⟩, ⟨Reg.LN_CFG_RATE, 9, 23, 0⟩, ⟨Reg.MOD_CFG_HOST, 5, 23, 0⟩, ⟨Reg.LN_STATUS_RX_STATE, 3, 23, 0⟩] with clock := 13000000000, ln := { measure := some { mb := 1, lane := 23, n := 9, start := 9, lost := true } } })
def w9_256 : State := { st [⟨Reg.TL_CFG_RX_EN, 1, 1, 0⟩, ⟨Reg.TL_CFG_RX_INV, 0, 1, 0⟩, ⟨Reg.TL_STATUS_SYNC, 0, 1, 0⟩] with ln := { tls := [(1, { commas := 2, chars := 700, bad := [500, 300], rxRd := some true })] } }
def w9_252 : State := { st [⟨Reg.TL_CFG_RX_EN, 1, 1, 0⟩, ⟨Reg.TL_CFG_RX_INV, 0, 1, 0⟩, ⟨Reg.TL_STATUS_SYNC, 0, 1, 0⟩] with ln := { tls := [(1, { commas := 2, chars := 700, bad := [500, 300], rxRd := some true })] } }
def w9_246 : State := { st [⟨Reg.TL_CFG_RX_EN, 1, 1, 0⟩, ⟨Reg.TL_CFG_RX_INV, 0, 1, 0⟩, ⟨Reg.TL_STATUS_SYNC, 0, 1, 0⟩] with ln := { tls := [(1, { commas := 2, chars := 700, bad := [500, 300], rxRd := some false })] } }
def w9_248 : State := { st [⟨Reg.TL_CFG_RX_EN, 1, 1, 0⟩, ⟨Reg.TL_CFG_RX_INV, 1, 1, 0⟩, ⟨Reg.TL_STATUS_SYNC, 0, 1, 0⟩] with ln := { tls := [(1, { commas := 2, chars := 700, bad := [500, 300], rxRd := none })] } }
def w9_348 : State := { st [⟨Reg.FPI_CFG_EN, 1, 1, 0⟩, ⟨Reg.FPI_CFG_PERIOD, 0, 1, 0⟩, ⟨Reg.FPI_STATUS_PRESENT, 1, 1, 0⟩] with clock := 3251309, tim := { fpis := [(1, { fly := some 77777, outs := [9, 1625009] })] } }
def w10_57 : State := { st [⟨Reg.FPI_CFG_PERIOD, 0, 1, 0⟩, ⟨Reg.FPI_STATUS_PRESENT, 1, 1, 0⟩] with clock := 1626391, tim := { fpis := [(1, { fly := some 9, run := 1 })] } }
def w9_333 : State := { st [⟨Reg.REF_STATUS_ACTIVE, 1, 3, 0⟩, ⟨Reg.REF_CFG_QUAL_S, 1, 3, 0⟩] with clock := 13000000009, tim := { refs := [(3, { from_ := 9, ok := true })] } }
def w9_321 : State := { st [⟨Reg.REF_STATUS_ACTIVE, 1, 6, 0⟩, ⟨Reg.REF_STATUS_QUALIFIED, 1, 6, 0⟩, ⟨Reg.RX_CFG_NFURROW, 32, 0, 0⟩] with clock := 13000000009, tim := { refs := [(6, { gateAt := 9 })] } }
def w9_335 : State := { st [⟨Reg.DPLL_STATUS_STATE, 1, 0, 0⟩, ⟨Reg.DPLL_STATUS_REF, 2, 0, 0⟩, ⟨Reg.REF_STATUS_ACTIVE, 1, 2, 0⟩, ⟨Reg.REF_STATUS_QUALIFIED, 1, 2, 0⟩, ⟨Reg.DPLL_CFG_SEL_MODE, 1, 0, 0⟩, ⟨Reg.DPLL_CFG_MANUAL_REF, 2, 0, 0⟩, ⟨Reg.DPLL_STATUS_SWITCHING, 1, 0, 0⟩] with clock := 26000000009, tim := { acqAt := 9 } }
def w9_374 : State := run 0x0808 (bytes 8 500) ({ st [⟨Reg.TL_CFG_TX_EN, 1, 0, 0⟩] with clock := 26000000000, tim := { sets := [(1, 500)] } })
def w9_340 : State := { st [⟨Reg.DPLL_STATUS_STATE, 3, 0, 0⟩, ⟨Reg.HO_CFG_HO_SPEC_S, 1, 0, 0⟩] with clock := 13000000009, tim := { hoStart := some 9 } }
def w9_342 : State := { st [⟨Reg.FPI_CFG_EN, 1, 1, 0⟩, ⟨Reg.FPI_CFG_PERIOD, 0, 1, 0⟩, ⟨Reg.FPI_STATUS_PRESENT, 0, 1, 0⟩] with clock := 3251309, tim := { fpis := [(1, { edges := [5, 1625009] })] } }
def w9_365 : State := req 0x0808 (bytes 8 500) ({ st [⟨Reg.TIME_CFG_TIME_SRC, 0, 0, 0⟩] with clock := 9, tim := { sets := [(2, 7)] } })
def w9_315 : State := { st [⟨Reg.REF_STATUS_ACTIVE, 1, 3, 0⟩, ⟨Reg.REF_STATUS_QUALIFIED, 1, 3, 0⟩, ⟨Reg.DPLL_STATUS_STATE, 0, 0, 0⟩, ⟨Reg.DPLL_STATUS_REF, 3, 0, 0⟩] with clock := 9 }
def w9_338 : State := { st [⟨Reg.DPLL_STATUS_STATE, 2, 0, 0⟩] with clock := 780000000009, tim := { lockedAt := some 9 } }
def w9_363 : State := req 0x0807 (bytes 8 (2 ^ 64 - 5)) ({ st [⟨Reg.TIME_CFG_TIME_SRC, 0, 0, 0⟩] with clock := 9, timeOff := 77 })
def w9_302 : State := { st [⟨Reg.REF_STATUS_ACTIVE, 0, 3, 0⟩, ⟨Reg.REF_STATUS_QUALIFIED, 0, 3, 0⟩, ⟨Reg.DPLL_STATUS_STATE, 0, 0, 0⟩, ⟨Reg.DPLL_STATUS_REF, 3, 0, 0⟩] with clock := 9 }
def w9_372 : State := { st [⟨Reg.TL_CFG_TX_EN, 1, 1, 0⟩] with clock := 26000000000 }
def w9_369 : State := req 0x0808 (bytes 8 500) ({ st [⟨Reg.TIME_CFG_TIME_SRC, 1, 0, 0⟩] with clock := 9, tim := { sets := [(2, 7)] } })
def w9_367 : State := req 0x0807 (bytes 8 (2 ^ 64 - 5)) ({ st [⟨Reg.TIME_CFG_TIME_SRC, 1, 0, 0⟩] with clock := 9, timeOff := 77 })
def w9_331 : State := { st [⟨Reg.REF_STATUS_ACTIVE, 1, 6, 0⟩, ⟨Reg.REF_STATUS_QUALIFIED, 1, 6, 0⟩, ⟨Reg.RX_CFG_NFURROW, 32, 0, 0⟩] with clock := 13000000009, tim := { refs := [(6, { gateAt := 9 })] } }
def w10_59 : State := { st [⟨Reg.FPI_CFG_PERIOD, 0, 1, 0⟩, ⟨Reg.FPI_STATUS_PRESENT, 1, 1, 0⟩] with clock := 1626391, tim := { fpis := [(1, { fly := some 9, run := 2 })] } }
def w9_344 : State := { st [⟨Reg.FPI_CFG_EN, 1, 1, 0⟩, ⟨Reg.FPI_CFG_PERIOD, 0, 1, 0⟩, ⟨Reg.FPI_STATUS_PRESENT, 0, 1, 0⟩] with clock := 3251309, tim := { fpis := [(1, { edges := [5] })] } }
def w9_346 : State := { st [⟨Reg.FPI_CFG_EN, 1, 1, 0⟩, ⟨Reg.FPI_CFG_PERIOD, 0, 1, 0⟩, ⟨Reg.FPI_STATUS_PRESENT, 1, 1, 0⟩] with clock := 3251309, tim := { fpis := [(1, { fly := some 1625009, run := 2 })] } }
def w9_350 : State := { st [⟨Reg.FPI_CFG_EN, 1, 1, 0⟩, ⟨Reg.FPI_CFG_PERIOD, 0, 1, 0⟩, ⟨Reg.FPI_STATUS_PRESENT, 1, 1, 0⟩] with clock := 3251309, tim := { fpis := [(1, { fly := some 77777, outs := [1625009] })] } }
def tapWords : List (BitVec 64) := List.replicate 16387 5
def w9_404 : State := run 0x0143 [31, 0, 0, 0] ({ st [⟨Reg.GAUGE_CFG_EN, 1, 0, 0⟩, ⟨Reg.SCAN_MASK_MASK, 2147483653, 0, 0⟩, ⟨Reg.GAUGE_CFG_SEQ_PERIOD_US, 100, 0, 0⟩, ⟨Reg.GAUGE_STATUS_RUNNING, 1, 0, 0⟩, ⟨Reg.ACC_STATUS_N, 1048574, 31, 0⟩, ⟨Reg.ACC_STATUS_FULL, 0, 31, 0⟩] with clock := 13009, gau := { chans := [31, 2], start := 9, urgent := some 1 } })
def sTap : State := { st [⟨Reg.TAP_STATUS_CAPTURING, 1, 0, 0⟩, ⟨Reg.TAP_CFG_STAGES, 0, 0, 0⟩] with clock := 13000000 * 16384 + 3, tap := { hit := some (3, 4) } }
def w9_386 : State := req 0x0142 [] ({ st [⟨Reg.GAUGE_CFG_EN, 1, 0, 0⟩, ⟨Reg.SCAN_MASK_MASK, 2147483653, 0, 0⟩, ⟨Reg.GAUGE_CFG_SEQ_PERIOD_US, 100, 0, 0⟩, ⟨Reg.GAUGE_STATUS_RUNNING, 1, 0, 0⟩, ⟨Reg.GAUGE_STATUS_PENDING, 1, 0, 0⟩] with gau := { chans := [7] } })
def w9_384 : State := { st [⟨Reg.GAUGE_CFG_EN, 1, 0, 0⟩, ⟨Reg.SCAN_MASK_MASK, 2147483653, 0, 0⟩, ⟨Reg.GAUGE_CFG_SEQ_PERIOD_US, 100, 0, 0⟩, ⟨Reg.GAUGE_STATUS_RUNNING, 1, 0, 0⟩, ⟨Reg.GAUGE_STATUS_PENDING, 1, 0, 0⟩] with clock := 1300009, gau := { lastTrig := 9, chans := [7] } }
def w9_424 : State := req 0x0146 [] ({ st [⟨Reg.DAC_STATUS_STATE, 2, 0, 0⟩, ⟨Reg.DAC_STATUS_STATE, 2, 1, 0⟩, ⟨Reg.DAC_STATUS_STATE, 2, 2, 0⟩, ⟨Reg.DAC_STATUS_STATE, 2, 3, 0⟩, ⟨Reg.ADC_STATUS_STATE, 2, 0, 0⟩, ⟨Reg.ADC_STATUS_STATE, 2, 1, 0⟩, ⟨Reg.ADC_STATUS_STATE, 2, 2, 0⟩, ⟨Reg.ADC_STATUS_STATE, 2, 3, 0⟩, ⟨Reg.TAP_CFG_TRIG, 0, 0, 0⟩] with clock := 9 })
def w9_418 : State := req 0x0143 [31, 0, 0, 0] ({ st [⟨Reg.GAUGE_CFG_EN, 1, 0, 0⟩, ⟨Reg.SCAN_MASK_MASK, 2147483653, 0, 0⟩, ⟨Reg.GAUGE_CFG_SEQ_PERIOD_US, 100, 0, 0⟩, ⟨Reg.GAUGE_STATUS_RUNNING, 1, 0, 0⟩] with clock := 9 })
def w9_412 : State := { st [⟨Reg.GAUGE_CFG_EN, 1, 0, 0⟩, ⟨Reg.SCAN_MASK_MASK, 2147483653, 0, 0⟩, ⟨Reg.GAUGE_CFG_SEQ_PERIOD_US, 100, 0, 0⟩, ⟨Reg.GAUGE_STATUS_RUNNING, 1, 0, 0⟩, ⟨Reg.GAUGE_STATUS_PENDING, 0, 0, 0⟩] with clock := 9 }
def w9_430 : State := { st [⟨Reg.TAP_STATUS_ARMED, 1, 0, 0⟩] with tap := { hit := some (3, 4) } }
def w9_437 : State := (st [⟨Reg.GPIO_CFG_EDGE, 1, 15, 0⟩]).setReg 0x12040 0
def w9_420 : State := req 0x0144 [5, 0, 0, 128, 0, 0, 0, 0] (st [⟨Reg.ACC_STATUS_N, 9, 31, 0⟩, ⟨Reg.ACC_SUM_SUM, 9, 31, 0⟩, ⟨Reg.MINMAX_MAX, 7, 31, 0⟩])
def w9_388 : State := req 0x0142 [] (st [⟨Reg.GAUGE_CFG_EN, 0, 0, 0⟩])
def w9_416 : State := req 0x0143 [31, 0, 0, 0] ({ st [⟨Reg.GAUGE_CFG_EN, 1, 0, 0⟩, ⟨Reg.SCAN_MASK_MASK, 2147483653, 0, 0⟩, ⟨Reg.GAUGE_CFG_SEQ_PERIOD_US, 100, 0, 0⟩, ⟨Reg.GAUGE_STATUS_RUNNING, 0, 0, 0⟩] with clock := 9 })
def w9_422 : State := req 0x0144 [5, 0, 0, 128, 1, 0, 0, 0] (st [⟨Reg.ACC_STATUS_N, 9, 31, 0⟩, ⟨Reg.ACC_SUM_SUM, 9, 31, 0⟩, ⟨Reg.MINMAX_MAX, 7, 31, 0⟩])
def w9_428 : State := req 0x0146 [] ({ st [⟨Reg.DAC_STATUS_STATE, 2, 0, 0⟩, ⟨Reg.DAC_STATUS_STATE, 2, 1, 0⟩, ⟨Reg.DAC_STATUS_STATE, 2, 2, 0⟩, ⟨Reg.DAC_STATUS_STATE, 2, 3, 0⟩, ⟨Reg.ADC_STATUS_STATE, 2, 0, 0⟩, ⟨Reg.ADC_STATUS_STATE, 2, 1, 0⟩, ⟨Reg.ADC_STATUS_STATE, 2, 2, 0⟩, ⟨Reg.ADC_STATUS_STATE, 2, 3, 0⟩, ⟨Reg.TAP_STATUS_CAPTURING, 1, 0, 0⟩] with clock := 9 })
def w9_378 : State := req 0x0142 [] ({ st [⟨Reg.GAUGE_CFG_EN, 1, 0, 0⟩, ⟨Reg.SCAN_MASK_MASK, 2147483653, 0, 0⟩, ⟨Reg.GAUGE_CFG_SEQ_PERIOD_US, 100, 0, 0⟩, ⟨Reg.GAUGE_STATUS_RUNNING, 0, 0, 0⟩, ⟨Reg.GAUGE_STATUS_PENDING, 0, 0, 0⟩] with gau := { chans := [7] } })
def w9_382 : State := req 0x0142 [] ({ st [⟨Reg.GAUGE_CFG_EN, 1, 0, 0⟩, ⟨Reg.SCAN_MASK_MASK, 2147483653, 0, 0⟩, ⟨Reg.GAUGE_CFG_SEQ_PERIOD_US, 100, 0, 0⟩, ⟨Reg.GAUGE_STATUS_RUNNING, 1, 0, 0⟩, ⟨Reg.GAUGE_STATUS_PENDING, 0, 0, 0⟩] with gau := { chans := [7] } })
def w9_393 : State := run 0x0143 [31, 0, 0, 0] ({ st [⟨Reg.GAUGE_CFG_EN, 1, 0, 0⟩, ⟨Reg.SCAN_MASK_MASK, 2147483653, 0, 0⟩, ⟨Reg.GAUGE_CFG_SEQ_PERIOD_US, 100, 0, 0⟩, ⟨Reg.GAUGE_STATUS_RUNNING, 1, 0, 0⟩, ⟨Reg.ACC_STATUS_N, 1048574, 31, 0⟩, ⟨Reg.ACC_STATUS_FULL, 0, 31, 0⟩] with clock := 13009, gau := { chans := [31, 2], start := 9, urgent := none } })
def w9_376 : State := { st [⟨Reg.GAUGE_CFG_EN, 1, 0, 0⟩, ⟨Reg.SCAN_MASK_MASK, 2147483653, 0, 0⟩, ⟨Reg.GAUGE_CFG_SEQ_PERIOD_US, 100, 0, 0⟩, ⟨Reg.GAUGE_STATUS_RUNNING, 0, 0, 0⟩, ⟨Reg.GAUGE_STATUS_PENDING, 0, 0, 0⟩] with clock := 1300009, gau := { lastTrig := 9, chans := [7] } }
def w9_380 : State := { st [⟨Reg.GAUGE_CFG_EN, 1, 0, 0⟩, ⟨Reg.SCAN_MASK_MASK, 2147483653, 0, 0⟩, ⟨Reg.GAUGE_CFG_SEQ_PERIOD_US, 100, 0, 0⟩, ⟨Reg.GAUGE_STATUS_RUNNING, 1, 0, 0⟩, ⟨Reg.GAUGE_STATUS_PENDING, 0, 0, 0⟩] with clock := 1300009, gau := { lastTrig := 9, chans := [7] } }
def w9_502 : State := req 0x0A10 [1, 1, 0, 0] (({ st [⟨Reg.LAT_STATUS_POWERED, 1, 0, 0⟩, ⟨Reg.LAT_CTRL_EN, 1, 0, 0⟩, ⟨Reg.LAT_CTRL_ROLE, 0, 0, 0⟩, ⟨Reg.LAT_STATUS_POWERED, 1, 1, 0⟩, ⟨Reg.LAT_CTRL_EN, 1, 1, 0⟩, ⟨Reg.LAT_CTRL_ROLE, 0, 1, 0⟩, ⟨Reg.LAT_STATUS_POWERED, 1, 2, 0⟩, ⟨Reg.LAT_CTRL_EN, 1, 2, 0⟩, ⟨Reg.LAT_CTRL_ROLE, 1, 2, 0⟩, ⟨Reg.LAT_STATUS_POWERED, 1, 3, 0⟩, ⟨Reg.LAT_CTRL_EN, 1, 3, 0⟩, ⟨Reg.LAT_CTRL_ROLE, 1, 3, 0⟩] with clock := 9 }).setQState 2 1 0)
def w9_481 : State := req 0x0A02 ([3, 1, 0, 0] ++ List.replicate 96 7) ({ clock := 9 })
def w9_514 : State := req 0x0A20 ([0, 200, 1, 3, 1, 0, 9, 0] ++ bytes 8 9) ({ st [⟨Reg.TEST_STATUS_LEVEL, 1, 0, 0⟩, ⟨Reg.TN_CLIENT_KIND, 3, 200, 0⟩] with clock := 9, test := { injectors := [(0, some { point := 0, target := 5, action := 1, n := 3, periodic := true, count := 9, depth := 0, timeoutS := 9, start := 5 }), (1, some { point := 0, target := 5, action := 1, n := 3, periodic := true, count := 9, depth := 0, timeoutS := 9, start := 5 })] } })
def w9_500 : State := req 0x0A10 [3, 0, 0, 0] ({ clock := 9 })
def w9_510 : State := run 0x0A10 [3, 0, 0, 0] { clock := 650000009, test := { selfTest := some ⟨1, 3, 0, some 9⟩ } }
def tg1 : SampTag := { engine := 5, thread := 3, pc := 9, opcode := 7, ordered := true, prog := 5, domain := 9, num := 8, fetch := 7, fetchNs := 99, ready := some 8, issue := some 9, gate := none, fin := some 10 }
def w9_454 : State := { st [⟨Reg.PERF_SAMPLE_CFG_SAMPLE_EN, 1, 0, 0⟩, ⟨Reg.LAT_STATUS_POWERED, 1, 0, 0⟩, ⟨Reg.LAT_MASK_MASK, 4294967295, 0, 0⟩, ⟨Reg.PERF_SAMPLE_CFG_WRAP, 1, 0, 0⟩] with clock := 130000, perf := { samplers := [(31, { tag := some tg1 })], records := List.replicate 1024 [1, 2, 3, 4] } }
def w9_495 : State := req 0x0A05 ([4, 0, 0, 0] ++ List.replicate 32 7) ({ st [⟨Reg.TEST_STATUS_LEVEL, 1, 0, 0⟩] with clock := 9 })
def injB : Injector := { point := 0, target := 5, action := 4, n := 3, periodic := true, count := 9, depth := 2, timeoutS := 1, start := 9, held := some { pkt := none, left := 1, last := 13000000009 } }
def w9_525 : State := { st [⟨Reg.TEST_STATUS_LEVEL, 1, 0, 0⟩] with clock := 13000130009, test := { injectors := [(7, some injB)] } }
def w9_462 : State := req 0x0152 [0,0,0,0,1,0,0,0] ((((State.reset).bump Cnt.LC 31 3 9).bump Cnt.DC 7 0 (2 ^ 40)))
def w9_489 : State := run 0x0A05 ([1, 0, 0, 0] ++ List.replicate 32 7) ({ st [⟨Reg.TEST_STATUS_LEVEL, 1, 0, 0⟩] with clock := 260000009, test := { write := some ⟨1, 1, List.replicate 32 7, 9⟩ } })
def w9_469 : State := req 0x0A01 [] ({ clock := 9 })
def w9_444 : State := { st [⟨Reg.PERF_SAMPLE_CFG_SAMPLE_EN, 1, 0, 0⟩, ⟨Reg.LAT_STATUS_POWERED, 1, 0, 0⟩, ⟨Reg.LAT_MASK_MASK, 4294967295, 0, 0⟩] with clock := 130000, perf := { samplers := [(0, { armedAt := some 9 })] }, eng := { images := [(1, img [0, 5, 0, 0])], latGen := [(0, 1)], tasks := [(0, some { tk 1 2 3 with fetchAt := 10 })] }, pk := { pkts := [(9, some pk)] } }
def w9_485 : State := req 0x0A03 [] ({ st [⟨Reg.TEST_STATUS_LEVEL, 2, 0, 0⟩, ⟨Reg.FLIP_STATUS_ARMED, 1, 0, 0⟩, ⟨Reg.TEST_STATUS_FI_ACTIVE, 1, 0, 0⟩] with test := { injectors := [(7, some { point := 0, target := 5, action := 1, n := 3, periodic := true, count := 9, depth := 0, timeoutS := 9, start := 5 })] } })
def w9_471 : State := { st [⟨Reg.TEST_STATUS_CHAL_VALID, 1, 0, 0⟩] with clock := 780000000009, test := { nonce := some ([1, 2], 9) } }
def w9_516 : State := req 0x0A21 [1, 0, 0, 0] ({ st [⟨Reg.TEST_STATUS_LEVEL, 1, 0, 0⟩] with clock := 9, test := { injectors := [(0, some { point := 0, target := 5, action := 1, n := 3, periodic := true, count := 9, depth := 0, timeoutS := 9, start := 5 }), (1, some { point := 0, target := 5, action := 1, n := 3, periodic := true, count := 9, depth := 0, timeoutS := 9, start := 5 })] } })
def w9_465 : State := req 0x0153 [2,0,0,0] ({ perf := { records := [[1, 2, 3, 4], [5, 6, 7, 8], [9, 10, 11, 12]] } })
def w9_518 : State := req 0x0A21 [255, 0, 0, 0] ({ st [⟨Reg.TEST_STATUS_LEVEL, 1, 0, 0⟩] with clock := 9, test := { injectors := [(0, some { point := 0, target := 5, action := 1, n := 3, periodic := true, count := 9, depth := 0, timeoutS := 9, start := 5 }), (1, some { point := 0, target := 5, action := 1, n := 3, periodic := true, count := 9, depth := 0, timeoutS := 9, start := 5 })] } })
def w9_447 : State := { st [⟨Reg.PERF_SAMPLE_CFG_SAMPLE_EN, 1, 0, 0⟩, ⟨Reg.LAT_STATUS_POWERED, 1, 0, 0⟩, ⟨Reg.LAT_MASK_MASK, 4294967295, 0, 0⟩, ⟨Reg.PERF_SAMPLE_CFG_WRAP, 0, 0, 0⟩] with clock := 130000, perf := { samplers := [(31, { tag := some tg1 })], records := List.replicate 0 [1, 2, 3, 4] } }
def w9_456 : State := req 0x0152 [0,0,0,0,0,0,0,0] ((((State.reset).bump Cnt.LC 31 3 9).bump Cnt.DC 7 0 (2 ^ 40)))
def w9_452 : State := { st [⟨Reg.PERF_SAMPLE_CFG_SAMPLE_EN, 1, 0, 0⟩, ⟨Reg.LAT_STATUS_POWERED, 1, 0, 0⟩, ⟨Reg.LAT_MASK_MASK, 4294967295, 0, 0⟩, ⟨Reg.PERF_SAMPLE_CFG_WRAP, 0, 0, 0⟩] with clock := 130000, perf := { samplers := [(31, { tag := some tg1 })], records := List.replicate 1024 [1, 2, 3, 4] } }
def w9_497 : State := run 0x0A05 ([4, 0, 0, 0] ++ List.replicate 32 7) ({ st [⟨Reg.TEST_STATUS_LEVEL, 1, 0, 0⟩] with clock := 260000009, test := { write := some ⟨1, 4, List.replicate 32 7, 9⟩ } })
def c09_493 : State := run 0x0A05 ([2, 0, 0, 0] ++ List.replicate 32 7) ({ st [⟨Reg.TEST_STATUS_LEVEL, 1, 0, 0⟩] with clock := 260000009, test := { write := some ⟨1, 2, List.replicate 32 7, 9⟩ } })
def c09_495 : State := run 0x0A05 ([3, 0, 0, 0] ++ List.replicate 32 7) ({ st [⟨Reg.TEST_STATUS_LEVEL, 1, 0, 0⟩] with clock := 260000009, test := { write := some ⟨1, 3, List.replicate 32 7, 9⟩ } })
def w9_473 : State := req 0x0A02 ([1, 0, 3, 0, 65, 66, 67] ++ List.replicate 93 0) ({ clock := 9 })
def w9_477 : State := req 0x0A02 ([1, 0, 3, 0, 65, 66, 67] ++ List.replicate 93 0) ({ clock := 9, test := { fails := 2, otp := { loadedPw := some [] } } })

/-! ### Witnesses with a proof of their own -/

/-- Byte `16400 + j` of an image is byte `j` of its code. -/
theorem u8_img (code : List Nat) (j : Nat) : u8 (img code) (16400 + j) = u8 (code.flatMap (bytes 4)) j := by
  have h : (bytes 4 0 ++ bytes 4 7 ++ bytes 4 code.length ++ bytes 4 0 ++ List.replicate 16384 (0 : Byte)).length = 16400 := by
    simp only [List.length_append, List.length_replicate, bytes, List.length_cons, List.length_nil]
  unfold u8 img
  rw [List.getD_eq_getElem?_getD, List.getElem?_append_right (by omega), List.getD_eq_getElem?_getD, h, Nat.add_sub_cancel_left]
theorem img_word (w : Nat) (h : w < 2 ^ 32 := by decide) : imgWord (img [0, w, 0, 0]) 1 = w := by
  unfold imgWord
  simp only [le, u8_img, Nat.mul_one, Nat.add_assoc]
  simp [u8, bytes]
  omega
theorem crcBit_lt (c : Nat) (h : c < 2 ^ 32) : crcBit c < 2 ^ 32 := by
  unfold crcBit
  split
  · exact Nat.xor_lt_two_pow (by omega) (by decide)
  · omega

theorem crc32_lt (l : List Byte) : crc32 l < 2 ^ 32 := by
  unfold crc32
  refine Nat.xor_lt_two_pow ?_ (by decide)
  suffices h : ∀ c, c < 2 ^ 32 → l.foldl (fun c b => crcBit (crcBit (crcBit (crcBit (crcBit (crcBit (crcBit (crcBit (c ^^^ b.toNat))))))))) c < 2 ^ 32 from
    h _ (by decide)
  induction l with
  | nil => exact fun c h => h
  | cons b l ih =>
    refine fun c h => ih _ ?_
    have : c ^^^ b.toNat < 2 ^ 32 := Nat.xor_lt_two_pow h (by omega)
    exact crcBit_lt _ (crcBit_lt _ (crcBit_lt _ (crcBit_lt _ (crcBit_lt _ (crcBit_lt _ (crcBit_lt _ (crcBit_lt _ this)))))))

/-- An image whose table is empty and whose code is one instruction of op 0. -/
def goodBody : List Byte := List.replicate 16388 0
def goodHead : List Byte := bytes 4 0x49455054 ++ bytes 4 7 ++ bytes 4 1 ++ bytes 4 (crc32 goodBody)
def goodImage : List Byte := goodHead ++ goodBody

theorem goodHead_length : goodHead.length = 16 := by simp only [goodHead, bytes, List.length_append, List.length_cons, List.length_nil]
theorem u8_good (i : Nat) : u8 goodImage (16 + i) = 0 := by
  unfold u8 goodImage
  rw [List.getD_eq_getElem?_getD, List.getElem?_append_right (by rw [goodHead_length]; omega), goodHead_length, Nat.add_sub_cancel_left, goodBody,
    List.getElem?_replicate]
  split <;> rfl
theorem le_good (i : Nat) : le 4 goodImage (16 + i) = 0 := by simp only [le, Nat.add_assoc, u8_good]
theorem le4 (a b c : Nat) (p : List Byte) (v : Nat) (h : v < 2 ^ 32) : le 4 (bytes 4 a ++ bytes 4 b ++ bytes 4 c ++ bytes 4 v ++ p) 12 = v := by
  simp only [le, u8, bytes, List.cons_append, List.nil_append, List.getD_cons_succ, List.getD_cons_zero, BitVec.toNat_ofNat]
  omega
theorem good_passes : imagePass goodImage = true := by
  have hn : imgLen goodImage = 1 := rfl
  have hc : le 4 goodImage 12 = crc32 goodBody := le4 _ _ _ _ _ (crc32_lt _)
  have hd : goodImage.drop 16 = goodBody := by rw [goodImage, ← goodHead_length]; exact List.drop_left
  have hl : goodImage.length = 16404 := by rw [goodImage, List.length_append, goodHead_length, goodBody, List.length_replicate]
  have he : ∀ p, imgEntry goodImage p = 0 := fun p => le_good _
  have hw : ∀ k, imgWord goodImage k = 0 := fun k => by
    have := le_good (16384 + 4 * k)
    rwa [← Nat.add_assoc] at this
  simp only [imagePass, hn, hc, hd, hl, he, hw, Bool.and_eq_true]
  refine ⟨⟨⟨⟨⟨⟨⟨rfl, rfl⟩, rfl⟩, rfl⟩, rfl⟩, by simp⟩, by simp [bitsOf]⟩, by simp [opDefined, insOp]⟩
theorem good_whole : putAt goodImage 0 (goodHead.take 8) = goodImage := rfl

/-- The last chunk of that image, staged. -/
def lastChunk : List Byte := [0, 0, 0, 0, 8, 0, 2, 0] ++ goodHead.take 8
def loading : State := req 0x0630 lastChunk { eng := { staging := some goodImage } }

/-- The premises of EngineControlDispatchAndState where an image passes hold together. -/
theorem premises_EngineControlDispatchAndState_passing :
    loading.request 1 0x0630 = some lastChunk ∧ loading.blocksOff = false ∧ loading.flag Reg.ENG_STATUS_SWITCHING = false ∧ (u8 lastChunk 6 = 2 ∨ u8 lastChunk 6 = 3) ∧
      u32 lastChunk 0 + u16 lastChunk 4 ≤ 32784 ∧ loading.eng.passed = false ∧
      goodImage = putAt (loading.eng.staging.getD []) (u32 lastChunk 0) (lastChunk.drop 8) ∧ imagePass goodImage = true :=
  ⟨by decide +kernel, by decide +kernel, by decide +kernel, by decide +kernel, by decide +kernel, by decide +kernel, rfl, good_passes⟩

/-- Mailbox 1 stages LINE_RX_CFG_SET while mailbox 2 has `n` bytes staged. -/
def full (n : Nat) : State :=
  (req 0x0301 (bytes 12 0) opn).setMbox 2 { txn := { state := 1, staged := [{ op := 0x0301, payload := List.replicate n 0 }] } }

theorem full_bytes (n : Nat) : (full n).stagedBytes = n + 16 := by
  have h : (full n).stagedBytes = 0 + (0 + (((List.replicate n (0 : Byte)).length + 16 + 0) + 0)) := rfl
  rw [h, List.length_replicate]
  omega

/-- The premises of StagingCommandsAreTurnedAway where the room is used up hold together. -/
theorem premises_StagingCommandsAreTurnedAway_full :
    (full 1048576).request 1 0x0301 = some (bytes 12 0) ∧ (full 1048576).get Reg.FW_STATUS_STATE ≠ 4 ∧ ((full 1048576).mbox 1).txn.state = 1 ∧
      (full 1048576).conflict 1 [(.rxLine, 0)] = false ∧ 2 ^ 20 < (full 1048576).stagedBytes + (bytes 12 0).length + 16 := by
  rw [full_bytes]
  refine ⟨rfl, ?_, rfl, rfl, by decide⟩
  have h : (full 1048576).get Reg.FW_STATUS_STATE = 0 := rfl
  rw [h]
  decide

/-- The key that the wrapped key of the next states holds. -/
theorem key_unwrapped : keyUnwrap 9 wrapped = some (bytes 32 5) := by decide +kernel

/-- What the wrapped record of a context holds. -/
theorem body_unwrapped : keyUnwrap 9 wrapped7 = some body7 := by decide +kernel

theorem tapWords_length : tapWords.length = 16387 := List.length_replicate

/-- A password of three bytes is padded with zeros. -/
theorem password_end (i : Nat) (h : 3 ≤ i) (h' : i < 96) : u8 ([1, 0, 3, 0, 65, 66, 67] ++ List.replicate 93 (0 : Byte)) (4 + i) = 0 :=
  (by decide +kernel : ∀ i, i < 96 → 3 ≤ i → u8 ([1, 0, 3, 0, 65, 66, 67] ++ List.replicate 93 (0 : Byte)) (4 + i) = 0) i h' h


/-! ### Premises of the statements, clause by clause -/

/-- The premises of IdleStepAdvancesTime hold together. -/
theorem premises_IdleStepAdvancesTime :
    (State.reset.pending = []) := by decide +kernel

/-- The premises of DirectWriteByFieldType hold together. -/
theorem premises_DirectWriteByFieldType :
    ((73800 % 4 = 0) ∧ (73800 + 8 ≤ 16777216) ∧ (¬(65536 ≤ 73800 ∧ 73800 < 73728)) ∧ (¬(4096 ≤ 73800 ∧ 73800 < 4608)) ∧ (73800 ≠ 262144) ∧ (73800 ≠ 262148) ∧ (¬(65536 ≤ 73800 + 4 ∧ 73800 + 4 < 73728)) ∧ (¬(4096 ≤ 73800 + 4 ∧ 73800 + 4 < 4608)) ∧ (73800 + 4 ≠ 262144) ∧ (73800 + 4 ≠ 262148) ∧ (findDesc regDescs 73800 = some (desc 73800)) ∧ ((desc 73800).sc = 0) ∧ (findDesc regDescs (73800 + 4) = some (desc 73804)) ∧ ((desc 73804).sc = 0) ∧ (73800 ∉ squelchWords) ∧ (73800 + 4 ∉ squelchWords)) ∧
    ((1441792 % 4 = 0) ∧ (1441792 < 16777216) ∧ (¬(65536 ≤ 1441792 ∧ 1441792 < 73728)) ∧ (¬(4096 ≤ 1441792 ∧ 1441792 < 4608)) ∧ (1441792 ≠ 262144) ∧ (1441792 ≠ 262148) ∧ (findDesc regDescs 1441792 = some (desc 1441792)) ∧ ((desc 1441792).sc = 0) ∧ (1441792 ∉ squelchWords) ∧ ((desc 1441792).tx ≠ 0) ∧ (1441792 ≠ 1376276)) := ⟨by decide +kernel, by decide +kernel⟩

/-- The premises of UnassignedAndUnalignedWritesAreDiscarded hold together. -/
theorem premises_UnassignedAndUnalignedWritesAreDiscarded :
    ((7340032 % 4 = 0) ∧ (7340032 < 16777216) ∧ (¬(65536 ≤ 7340032 ∧ 7340032 < 73728)) ∧ (¬(4096 ≤ 7340032 ∧ 7340032 < 4608)) ∧ (7340032 ≠ 262144) ∧ (7340032 ≠ 262148) ∧ (findDesc regDescs 7340032 = none)) ∧
    ((¬(Iface.pcie = Iface.mdio ∧ 4 = 2 ∧ 530 < 5)) ∧ (530 % 4 ≠ 0 ∨ Iface.pcie = Iface.pcie ∧ (4 % 4 ≠ 0 ∨ 16777216 < 530 + 4) ∨ Iface.pcie = Iface.mdio ∧ 4 ≠ 4 ∨ 4 < 4)) := ⟨by decide +kernel, by decide +kernel⟩

/-- The premises of TxFieldWriteIsIgnoredAndCounted hold together. -/
theorem premises_TxFieldWriteIsIgnoredAndCounted :
    ((¬(65536 ≤ 1441792 ∧ 1441792 < 73728)) ∧ (¬(4096 ≤ 1441792 ∧ 1441792 < 4608)) ∧ (1441792 ≠ 262144) ∧ (1441792 ≠ 262148) ∧ (1441792 ∉ squelchWords) ∧ (findDesc regDescs 1441792 = some (desc 1441792)) ∧ ((desc 1441792).tx ≠ 0) ∧ ((desc 1441792).sc = 0)) := by decide +kernel

/-- The premises of W1cWriteClearsUnlessEventRaces hold together. -/
theorem premises_W1cWriteClearsUnlessEventRaces :
    ((¬(65536 ≤ 73748 ∧ 73748 < 73728)) ∧ (¬(4096 ≤ 73748 ∧ 73748 < 4608)) ∧ (73748 ≠ 262144) ∧ (73748 ≠ 262148) ∧ (73748 ∉ squelchWords) ∧ (findDesc regDescs 73748 = some (desc 73748)) ∧ ((desc 73748).w1c ≠ 0) ∧ ((desc 73748).sc = 0) ∧ ((desc 73748).tx = 0)) := by decide +kernel

/-- The premises of ReadsReturnClearAndCapture hold together. -/
theorem premises_ReadsReturnClearAndCapture :
    ((findCtr counters (Cnt.TX_WRITE_IGNORED.addr 0 0) = some Cnt.TX_WRITE_IGNORED) ∧ (Cnt.TX_WRITE_IGNORED.words = 1) ∧ (Cnt.TX_WRITE_IGNORED.addr 0 0 ∉ squelchWords)) ∧
    ((accessWords Iface.spi 73793 2 = 0) ∧ (mmdAccess Iface.spi 73793 2 = false)) ∧
    (hiWords 1048640 ≠ []) := ⟨by decide +kernel, by decide +kernel, by decide +kernel⟩

/-- The premises of SnapshotCopiesCounters hold together. -/
theorem premises_SnapshotCopiesCounters :
    ((hasType RegDesc.sc 73756 = true) ∧ (73756 ∉ squelchWords)) := by decide +kernel

/-- The premises of InterruptMasksTakeTheWrittenBits hold together. -/
theorem premises_InterruptMasksTakeTheWrittenBits :
    (1 < 32) ∧
    (5 < 32) := ⟨by decide +kernel, by decide +kernel⟩

/-- The premises of DrainLogIsPoppedOldestFirst hold together. -/
theorem premises_DrainLogIsPoppedOldestFirst :
    ((sLog.logs.held = [(7, { type := 37, time := 0, data := [1#8] : LogRec }), (8, { type := 37, time := 13, data := [2#8] : LogRec })]) ∧ ((65545#32).getLsbD 16 = true) ∧ ((65545#32).toNat % 2 ^ 16 ≠ 7)) ∧
    ((9#32).getLsbD 16 = false ∨ (9#32).toNat % 2 ^ 16 = 7) ∧
    (State.reset.logs.held = []) := ⟨by decide +kernel, by decide +kernel, by decide +kernel⟩

/-- The premises of LogWriterKeepsOrderAndNumbers hold together. -/
theorem premises_LogWriterKeepsOrderAndNumbers :
    ((tget [] sLog5.logs.queues 5 = [{ type := 37, time := 26, data := [3#8] : LogRec }]) ∧ (sLog5.logTurn 5 = true) ∧ (5 ≠ wbTx)) ∧
    (((8#32).toNat % 2 ^ 13 ≤ sLog.logs.fill) ∧ (sLog.logs.armed = true)) ∧
    (sLog.logTurn 13 = false) ∧
    (sLog.logs.fill < (9#32).toNat % 2 ^ 13) := ⟨by decide +kernel, by decide +kernel, by decide +kernel, by decide +kernel⟩

/-- The premises of MailboxWindowTakesWordsWhileIdle hold together. -/
theorem premises_MailboxWindowTakesWordsWhileIdle :
    ((1012 < 1016) ∧ (1012 % 4 = 0) ∧ ((sLog.mbox 7).phase = MbPhase.idle)) ∧
    ((1008 < 1016) ∧ ((c01_41.mbox 1).phase ≠ MbPhase.idle)) := ⟨by decide +kernel, by decide +kernel⟩

/-- The premises of AnswerFillsResponseLengthAndPayload hold together. -/
theorem premises_AnswerFillsResponseLengthAndPayload :
    (({ code := 2, data := [1#8, 2#8, 3#8, 4#8, 5#8], reason := 3, index := 255 : Reply }.code < 256) ∧ ({ code := 2, data := [1#8, 2#8, 3#8, 4#8, 5#8], reason := 3, index := 255 : Reply }.reason < 256) ∧ ({ code := 2, data := [1#8, 2#8, 3#8, 4#8, 5#8], reason := 3, index := 255 : Reply }.index < 256) ∧ ({ code := 2, data := [1#8, 2#8, 3#8, 4#8, 5#8], reason := 3, index := 255 : Reply }.data.length ≤ 1008)) := by decide +kernel

/-- The premises of StagingCommandsRecordAndLock hold together. -/
theorem premises_StagingCommandsRecordAndLock :
    (Stages Instr.tapCfgSet 325 fun _ => [(ObjKind.tap, 0)]) ∧
    ((c02_13.request 1 325 = some pS) ∧ (c02_13.get Reg.FW_STATUS_STATE ≠ 4) ∧ ((c02_13.mbox 1).txn.state = 1) ∧ (c02_13.conflict 1 [(ObjKind.tap, 0)] = false) ∧ (c02_13.stagedBytes + pS.length + 16 ≤ 2 ^ 20)) := ⟨by constructor, by decide +kernel⟩

/-- The premises of StagingCommandsAreTurnedAway hold together. -/
theorem premises_StagingCommandsAreTurnedAway :
    (Stages Instr.tapCfgSet 325 fun _ => [(ObjKind.tap, 0)]) ∧
    ((c02_78.request 1 325 = some pS) ∧ (c02_78.get Reg.FW_STATUS_STATE = 4)) ∧
    ((c02_79.request 1 325 = some pS) ∧ (c02_79.get Reg.FW_STATUS_STATE ≠ 4) ∧ ((c02_79.mbox 1).txn.state ≠ 1)) ∧
    ((c02_80.request 1 325 = some pS) ∧ (c02_80.get Reg.FW_STATUS_STATE ≠ 4) ∧ ((c02_80.mbox 1).txn.state = 1) ∧ (c02_80.conflict 1 [(ObjKind.tap, 0)] = true)) := ⟨by constructor, by decide +kernel, by decide +kernel, by decide +kernel⟩

/-- The premises of RegisterReportsReturnTheWords hold together. -/
theorem premises_RegisterReportsReturnTheWords :
    (ReportsWords Instr.sysModeGet 289 fun _ => [292]) ∧
    (ReportsLive Instr.intStatusGet 0x0171 fun _ => [0x200, 0x204, 0x208, 0x20C]) ∧
    ((c02_210.request 1 289 = some pS) ∧ (c02_210_1.request 1 289 = some pS)) := ⟨by constructor, by constructor, by decide +kernel⟩

/-- The premises of CheckedStagingCommandsRecord hold together, part 1. -/
theorem premises_CheckedStagingCommandsRecord_1 :
    (c03_16.restoreBody ([5#8, 0#8, 1#8, 0#8, 7#8, 0#8, 0#8, 0#8, 9#8, 0#8] ++ wrapped7) = some body7) ∧
    ((c03_10.request 1 1282 = some ([0#8, 0#8, 7#8, 4#8] ++ bytes 8 99)) ∧ (c03_10.leafState (u16 ([0#8, 0#8, 7#8, 4#8] ++ bytes 8 99) 0) ≠ 6) ∧ (c03_10.flag Reg.LF_STATUS_BLOCKED (u16 ([0#8, 0#8, 7#8, 4#8] ++ bytes 8 99) 0) = false) ∧ (∀ k < 1024, k ≠ u16 ([0#8, 0#8, 7#8, 4#8] ++ bytes 8 99) 0 → c03_10.flag Reg.LF_STATUS_PROFILE_SET k = true → c03_10.get Reg.LF_PROFILE_TURNOUT k ≠ u8 ([0#8, 0#8, 7#8, 4#8] ++ bytes 8 99) 2) ∧ (c03_10.otherClient (u8 ([0#8, 0#8, 7#8, 4#8] ++ bytes 8 99) 2) = false) ∧ (c03_10.dataFurrow (u8 ([0#8, 0#8, 7#8, 4#8] ++ bytes 8 99) 3) = true) ∧ (c03_10.leafState (u16 ([0#8, 0#8, 7#8, 4#8] ++ bytes 8 99) 0) = 0 ∨ (c03_10.leafInfo (u16 ([0#8, 0#8, 7#8, 4#8] ++ bytes 8 99) 0)).group = u8 ([0#8, 0#8, 7#8, 4#8] ++ bytes 8 99) 3 / 4) ∧ (c03_10.get Reg.FW_STATUS_STATE ≠ 4) ∧ ((c03_10.mbox 1).txn.state = 1) ∧ (c03_10.conflict 1 [(ObjKind.leaf, u16 ([0#8, 0#8, 7#8, 4#8] ++ bytes 8 99) 0)] = false) ∧ (c03_10.stagedBytes + ([0#8, 0#8, 7#8, 4#8] ++ bytes 8 99).length + 16 ≤ 2 ^ 20)) ∧
    ((c03_9.request 1 1281 = some ([255#8, 3#8, 1#8, 0#8] ++ bytes 8 99)) ∧ (u64 ([255#8, 3#8, 1#8, 0#8] ++ bytes 8 99) 4 ≠ 0) ∧ (c03_9.holder (u64 ([255#8, 3#8, 1#8, 0#8] ++ bytes 8 99) 4) = none ∨ c03_9.holder (u64 ([255#8, 3#8, 1#8, 0#8] ++ bytes 8 99) 4) = some (u16 ([255#8, 3#8, 1#8, 0#8] ++ bytes 8 99) 0)) ∧ (u8 ([255#8, 3#8, 1#8, 0#8] ++ bytes 8 99) 2 ≠ 0 ∨ c03_9.flag Reg.LF_STATUS_PROFILE_SET (u16 ([255#8, 3#8, 1#8, 0#8] ++ bytes 8 99) 0) = false) ∧ (c03_9.get Reg.FW_STATUS_STATE ≠ 4) ∧ ((c03_9.mbox 1).txn.state = 1) ∧ (c03_9.conflict 1 [(ObjKind.leaf, u16 ([255#8, 3#8, 1#8, 0#8] ++ bytes 8 99) 0)] = false) ∧ (c03_9.stagedBytes + ([255#8, 3#8, 1#8, 0#8] ++ bytes 8 99).length + 16 ≤ 2 ^ 20)) ∧
    ((c03_16.request 1 1799 = some ([5#8, 0#8, 1#8, 0#8, 7#8, 0#8, 0#8, 0#8, 9#8, 0#8] ++ wrapped7)) ∧ (c03_16.restoreRefuse ([5#8, 0#8, 1#8, 0#8, 7#8, 0#8, 0#8, 0#8, 9#8, 0#8] ++ wrapped7) = none) ∧ (c03_16.get Reg.FW_STATUS_STATE ≠ 4) ∧ ((c03_16.mbox 1).txn.state = 1) ∧ (c03_16.conflict 1 [(ObjKind.ctx, u16 ([5#8, 0#8, 1#8, 0#8, 7#8, 0#8, 0#8, 0#8, 9#8, 0#8] ++ wrapped7) 0)] = false) ∧ (c03_16.stagedBytes + ([5#8, 0#8, 1#8, 0#8, 7#8, 0#8, 0#8, 0#8, 9#8, 0#8] ++ wrapped7).length + 16 ≤ 2 ^ 20) ∧ (restoreForm ([5#8, 0#8, 1#8, 0#8, 7#8, 0#8, 0#8, 0#8, 9#8, 0#8] ++ wrapped7) = 1)) ∧
    ((c03_22.request 1 833 = some [255#8, 7#8, 1#8, 0#8]) ∧ (u16 [255#8, 7#8, 1#8, 0#8] 0 + u16 [255#8, 7#8, 1#8, 0#8] 2 ≤ 2048) ∧ (c03_22.get Reg.FW_STATUS_STATE ≠ 4) ∧ ((c03_22.mbox 1).txn.state = 1) ∧ (c03_22.conflict 1 [(ObjKind.tsi, 0)] = false) ∧ (c03_22.stagedBytes + [255#8, 7#8, 1#8, 0#8].length + 16 ≤ 2 ^ 20)) ∧
    ((c03_11.request 1 1289 = some ([0#8, 0#8, 0#8, 0#8] ++ bytes 8 99)) ∧ (u64 ([0#8, 0#8, 0#8, 0#8] ++ bytes 8 99) 4 ≠ 0) ∧ (c03_11.get Reg.FW_STATUS_STATE ≠ 4) ∧ ((c03_11.mbox 1).txn.state = 1) ∧ (c03_11.conflict 1 [] = false) ∧ (c03_11.stagedBytes + ([0#8, 0#8, 0#8, 0#8] ++ bytes 8 99).length + 16 ≤ 2 ^ 20)) ∧
    ((c03_23.request 1 790 = some ([4#8, 0#8, 0#8, 0#8] ++ List.flatMap (fun _ => bytes 2 16384) (List.range 4))) ∧ (c03_23.mode = 2) ∧ (c03_23.dpdUpdate ([4#8, 0#8, 0#8, 0#8] ++ List.flatMap (fun _ => bytes 2 16384) (List.range 4)) = some (((st [{ f := Reg.MODE_STATUS_MODE, v := 2 : Put }]).dpdUpdate ([4#8, 0#8, 0#8, 0#8] ++ List.flatMap (fun _ => bytes 2 16384) (List.range 4))).getD [])) ∧ (c03_23.get Reg.FW_STATUS_STATE ≠ 4) ∧ ((c03_23.mbox 1).txn.state = 1) ∧ (c03_23.conflict 1 [(ObjKind.txLine, 0)] = false) ∧ (c03_23.stagedBytes + ([4#8, 0#8, 0#8, 0#8] ++ List.flatMap (fun _ => bytes 2 16384) (List.range 4)).length + 16 ≤ 2 ^ 20)) ∧
    ((c03_19.request 1 1537 = some ([255#8, 1#8, 0#8, 0#8] ++ bytes 4 (2 + 160 * 1024))) ∧ (rillsOk (bitsOf (u32 ([255#8, 1#8, 0#8, 0#8] ++ bytes 4 (2 + 160 * 1024)) 4) 0 3) (bitsOf (u32 ([255#8, 1#8, 0#8, 0#8] ++ bytes 4 (2 + 160 * 1024)) 4) 3 3) (bitsOf (u32 ([255#8, 1#8, 0#8, 0#8] ++ bytes 4 (2 + 160 * 1024)) 4) 10 11) = true) ∧ (bitsOf (u32 ([255#8, 1#8, 0#8, 0#8] ++ bytes 4 (2 + 160 * 1024)) 4) 0 3 = 3 ∨ c03_19.leafBound (u8 ([255#8, 1#8, 0#8, 0#8] ++ bytes 4 (2 + 160 * 1024)) 0) = false) ∧ (c03_19.get Reg.FW_STATUS_STATE ≠ 4) ∧ ((c03_19.mbox 1).txn.state = 1) ∧ (c03_19.conflict 1 [(ObjKind.turnout, u8 ([255#8, 1#8, 0#8, 0#8] ++ bytes 4 (2 + 160 * 1024)) 0)] = false) ∧ (c03_19.stagedBytes + ([255#8, 1#8, 0#8, 0#8] ++ bytes 4 (2 + 160 * 1024)).length + 16 ≤ 2 ^ 20)) := ⟨body_unwrapped, by decide +kernel, by decide +kernel, by decide +kernel, by decide +kernel, by decide +kernel, by decide +kernel, by decide +kernel⟩

/-- The premises of CheckedStagingCommandsRecord hold together, part 2. -/
theorem premises_CheckedStagingCommandsRecord_2 :
    ((c03_7.request 1 1025 = some ([0#8, 0#8] ++ bytes 10 0)) ∧ (u8 ([0#8, 0#8] ++ bytes 10 0) 0 = 255 ∨ u8 ([0#8, 0#8] ++ bytes 10 0) 0 < c03_7.stagedNFur 1) ∧ (c03_7.get Reg.FW_STATUS_STATE ≠ 4) ∧ ((c03_7.mbox 1).txn.state = 1) ∧ (c03_7.conflict 1 (List.map (fun f => (ObjKind.furrow, f)) (furrowList (u8 ([0#8, 0#8] ++ bytes 10 0) 0))) = false) ∧ (c03_7.stagedBytes + ([0#8, 0#8] ++ bytes 10 0).length + 16 ≤ 2 ^ 20)) ∧
    ((c03_8.request 1 1029 = some ([0#8, 0#8] ++ bytes 10 0)) ∧ (u8 ([0#8, 0#8] ++ bytes 10 0) 0 = 255 ∨ u8 ([0#8, 0#8] ++ bytes 10 0) 0 < c03_8.stagedNFur 1) ∧ (c03_8.get Reg.FW_STATUS_STATE ≠ 4) ∧ ((c03_8.mbox 1).txn.state = 1) ∧ (c03_8.conflict 1 (List.map (fun f => (ObjKind.txFurrow, f)) (furrowList (u8 ([0#8, 0#8] ++ bytes 10 0) 0))) = false) ∧ (c03_8.stagedBytes + ([0#8, 0#8] ++ bytes 10 0).length + 16 ≤ 2 ^ 20)) ∧
    ((c03_12.request 1 1796 = some ([5#8, 0#8, 7#8, 0#8] ++ bytes 20 99)) ∧ (c03_12.get Reg.KS_STATUS_STATE (u16 ([5#8, 0#8, 7#8, 0#8] ++ bytes 20 99) 2) = 1) ∧ (c03_12.get Reg.FW_STATUS_STATE ≠ 4) ∧ ((c03_12.mbox 1).txn.state = 1) ∧ (c03_12.conflict 1 [(ObjKind.ctx, u16 ([5#8, 0#8, 7#8, 0#8] ++ bytes 20 99) 0)] = false) ∧ (c03_12.stagedBytes + ([5#8, 0#8, 7#8, 0#8] ++ bytes 20 99).length + 16 ≤ 2 ^ 20)) ∧
    ((c03_21.request 1 832 = some ([0#8, 0#8, 0#8, 8#8] ++ bytes 4 (2 + 160 * 1024))) ∧ (u16 ([0#8, 0#8, 0#8, 8#8] ++ bytes 4 (2 + 160 * 1024)) 0 + u16 ([0#8, 0#8, 0#8, 8#8] ++ bytes 4 (2 + 160 * 1024)) 2 ≤ 2048) ∧ (c03_21.get Reg.FW_STATUS_STATE ≠ 4) ∧ ((c03_21.mbox 1).txn.state = 1) ∧ (c03_21.conflict 1 [(ObjKind.tsi, 0)] = false) ∧ (c03_21.stagedBytes + ([0#8, 0#8, 0#8, 8#8] ++ bytes 4 (2 + 160 * 1024)).length + 16 ≤ 2 ^ 20)) ∧
    ((c03_5.request 1 290 = some ([5#8, 0#8] ++ bytes 10 0)) ∧ (badInstance ([5#8, 0#8] ++ bytes 10 0) true = none) ∧ (c03_5.get Reg.FW_STATUS_STATE ≠ 4) ∧ ((c03_5.mbox 1).txn.state = 1) ∧ (c03_5.conflict 1 (List.map (fun i => (ObjKind.loopInst, 64 * u8 ([5#8, 0#8] ++ bytes 10 0) 0 + i)) (loopTargets (u8 ([5#8, 0#8] ++ bytes 10 0) 0) (u8 ([5#8, 0#8] ++ bytes 10 0) 1))) = false) ∧ (c03_5.stagedBytes + ([5#8, 0#8] ++ bytes 10 0).length + 16 ≤ 2 ^ 20)) ∧
    ((c03_17.request 1 1801 = some [255#8, 1#8, 0#8, 0#8]) ∧ (u8 [255#8, 1#8, 0#8, 0#8] 3 ≠ 1 ∨ c03_17.flag Reg.TN_CIPH_STATUS_NEXT_VALID (u8 [255#8, 1#8, 0#8, 0#8] 0) = true ∧ c03_17.get Reg.TN_CIPH_STATUS_NEXT_CTX (u8 [255#8, 1#8, 0#8, 0#8] 0) = u16 [255#8, 1#8, 0#8, 0#8] 1) ∧ (c03_17.get Reg.FW_STATUS_STATE ≠ 4) ∧ ((c03_17.mbox 1).txn.state = 1) ∧ (c03_17.conflict 1 [(ObjKind.turnout, u8 [255#8, 1#8, 0#8, 0#8] 0)] = false) ∧ (c03_17.stagedBytes + [255#8, 1#8, 0#8, 0#8].length + 16 ≤ 2 ^ 20)) ∧
    ((c03_24.request 1 867 = some ([129#8, 0#8, 0#8, 0#8] ++ List.flatMap (fun _ => bytes 2 16384) (List.range 8))) ∧ (c03_24.modDpdUpdate ([129#8, 0#8, 0#8, 0#8] ++ List.flatMap (fun _ => bytes 2 16384) (List.range 8)) = some ((State.reset.modDpdUpdate ([129#8, 0#8, 0#8, 0#8] ++ List.flatMap (fun _ => bytes 2 16384) (List.range 8))).getD [])) ∧ (c03_24.get Reg.FW_STATUS_STATE ≠ 4) ∧ ((c03_24.mbox 1).txn.state = 1) ∧ (c03_24.conflict 1 (modObjs ([129#8, 0#8, 0#8, 0#8] ++ List.flatMap (fun _ => bytes 2 16384) (List.range 8))) = false) ∧ (c03_24.stagedBytes + ([129#8, 0#8, 0#8, 0#8] ++ List.flatMap (fun _ => bytes 2 16384) (List.range 8)).length + 16 ≤ 2 ^ 20)) ∧
    ((c03_13.request 1 1799 = some ([5#8, 0#8, 0#8, 0#8, 0#8, 0#8, 0#8, 0#8, 7#8, 0#8, 9#8, 0#8, 0#8, 0#8] ++ bytes 7 99 ++ [1#8, 0#8, 0#8, 0#8, 0#8, 1#8, 0#8, 0#8, 0#8, 0#8, 9#8])) ∧ (c03_13.restoreRefuse ([5#8, 0#8, 0#8, 0#8, 0#8, 0#8, 0#8, 0#8, 7#8, 0#8, 9#8, 0#8, 0#8, 0#8] ++ bytes 7 99 ++ [1#8, 0#8, 0#8, 0#8, 0#8, 1#8, 0#8, 0#8, 0#8, 0#8, 9#8]) = none) ∧ (c03_13.get Reg.FW_STATUS_STATE ≠ 4) ∧ ((c03_13.mbox 1).txn.state = 1) ∧ (c03_13.conflict 1 [(ObjKind.ctx, u16 ([5#8, 0#8, 0#8, 0#8, 0#8, 0#8, 0#8, 0#8, 7#8, 0#8, 9#8, 0#8, 0#8, 0#8] ++ bytes 7 99 ++ [1#8, 0#8, 0#8, 0#8, 0#8, 1#8, 0#8, 0#8, 0#8, 0#8, 9#8]) 0)] = false) ∧ (c03_13.stagedBytes + ([5#8, 0#8, 0#8, 0#8, 0#8, 0#8, 0#8, 0#8, 7#8, 0#8, 9#8, 0#8, 0#8, 0#8] ++ bytes 7 99 ++ [1#8, 0#8, 0#8, 0#8, 0#8, 1#8, 0#8, 0#8, 0#8, 0#8, 9#8]).length + 16 ≤ 2 ^ 20) ∧ (restoreForm ([5#8, 0#8, 0#8, 0#8, 0#8, 0#8, 0#8, 0#8, 7#8, 0#8, 9#8, 0#8, 0#8, 0#8] ++ bytes 7 99 ++ [1#8, 0#8, 0#8, 0#8, 0#8, 1#8, 0#8, 0#8, 0#8, 0#8, 9#8]) ≠ 1)) := ⟨by decide +kernel, by decide +kernel, by decide +kernel, by decide +kernel, by decide +kernel, by decide +kernel, by decide +kernel, by decide +kernel⟩

/-- The premises of StatusReportsReturnComputedValues hold together. -/
theorem premises_StatusReportsReturnComputedValues :
    (ReportsValues Instr.timeGet 2054 rv2) ∧
    (c03_37.request 1 2054 = some (bytes 12 0)) := ⟨by constructor, by decide +kernel⟩

/-- The premises of TransactionTapBoundsLeafAndContextReports hold together, part 1. -/
theorem premises_TransactionTapBoundsLeafAndContextReports_1 :
    ((c03_116.request 1 1798 = some [5#8, 0#8, 1#8, 0#8, 3#8, 0#8, 0#8, 0#8]) ∧ (c03_116.blocksOff = false) ∧ ([5#8, 0#8, 1#8, 0#8, 3#8, 0#8, 0#8, 0#8].length = 4 + 4 * u8 [5#8, 0#8, 1#8, 0#8, 3#8, 0#8, 0#8, 0#8] 2) ∧ (c03_116.flag Reg.CTX_STATUS_KEY_VALID (u16 [5#8, 0#8, 1#8, 0#8, 3#8, 0#8, 0#8, 0#8] 0) = true) ∧ (u8 [5#8, 0#8, 1#8, 0#8, 3#8, 0#8, 0#8, 0#8] 2 ≠ 0) ∧ (c03_116.k0Denied (u16 [5#8, 0#8, 1#8, 0#8, 3#8, 0#8, 0#8, 0#8] 4) = false) ∧ (c03_116.isKek (u16 [5#8, 0#8, 1#8, 0#8, 3#8, 0#8, 0#8, 0#8] 4) = true)) ∧
    ((c03_112.request 1 1290 = some []) ∧ (c03_112.mode = 2)) ∧
    ((c03_111.request 1 291 = some [2#8, 32#8, 0#8, 0#8]) ∧ (badInstance [2#8, 32#8, 0#8, 0#8] false = none)) ∧
    ((c03_108.request 1 327 = some [1#8, 0#8, 2#8, 0#8]) ∧ (u16 [1#8, 0#8, 2#8, 0#8] 0 + u16 [1#8, 0#8, 2#8, 0#8] 2 ≤ c03_108.get Reg.TAP_STATUS_FILL)) ∧
    ((c03_107.request 1 516 = some [7#8, 0#8, 0#8, 0#8]) ∧ (((req 516 [7#8, 0#8, 0#8, 0#8] opn).mbox 7).txn = (c03_107.mbox (if u8 [7#8, 0#8, 0#8, 0#8] 0 = 255 then 1 else u8 [7#8, 0#8, 0#8, 0#8] 0)).txn)) := ⟨by decide +kernel, by decide +kernel, by decide +kernel, by decide +kernel, by decide +kernel⟩

/-- The premises of TransactionTapBoundsLeafAndContextReports hold together, part 2. -/
theorem premises_TransactionTapBoundsLeafAndContextReports_2 :
    (c03_114.request 1 1286 = some [255#8, 3#8, 0#8, 0#8]) ∧
    ((c03_113.request 1 1290 = some []) ∧ (c03_113.mode ≠ 2)) ∧
    ((c03_109.request 1 327 = some [2#8, 0#8, 2#8, 0#8]) ∧ (c03_109.get Reg.TAP_STATUS_FILL < u16 [2#8, 0#8, 2#8, 0#8] 0 + u16 [2#8, 0#8, 2#8, 0#8] 2)) ∧
    ((c03_115.request 1 1798 = some [5#8, 0#8, 0#8, 0#8]) ∧ (c03_115.blocksOff = false) ∧ ([5#8, 0#8, 0#8, 0#8].length = 4 + 4 * u8 [5#8, 0#8, 0#8, 0#8] 2) ∧ (c03_115.flag Reg.CTX_STATUS_KEY_VALID (u16 [5#8, 0#8, 0#8, 0#8] 0) = true) ∧ (u8 [5#8, 0#8, 0#8, 0#8] 2 = 0)) := ⟨by decide +kernel, by decide +kernel, by decide +kernel, by decide +kernel⟩

/-- The premises of EngineArithmeticWritesRd hold together. -/
theorem premises_EngineArithmeticWritesRd :
    (Computes Instr.iAdd 0 1 fun a b _ => a + b) ∧
    (imgWord (c04_4.latImage (0 / 16)) (tk 7#64 5#64 9#64).pc = insR 0 4 1 2 0) ∧
    ((c04_4.task 0 0 = some (tk 7#64 5#64 9#64)) ∧ ((tk 7#64 5#64 9#64).waiting = false) ∧ ((tk 7#64 5#64 9#64).fetchAt ≤ c04_4.latNow (0 / 16)) ∧ ((tk 7#64 5#64 9#64).readyAt (insR 0 4 1 2 0) ≤ c04_4.latNow (0 / 16)) ∧ (tget 0 c04_4.eng.lastIssue 0 ≠ c04_4.latNow (0 / 16) + 1) ∧ ((tk 7#64 5#64 9#64).issued < (tk 7#64 5#64 9#64).budget) ∧ (c04_4.wordBits 2 0 (tk 7#64 5#64 9#64).pc < 2) ∧ (c04_4.wordFlag 2 0 (tk 7#64 5#64 9#64).pc = false) ∧ (insOp (insR 0 4 1 2 0) = 0) ∧ ((tk 7#64 5#64 9#64).pc + 1 < imgLen (c04_4.latImage (0 / 16)))) := ⟨by constructor, img_word _, by decide +kernel⟩

/-- The premises of EngineBranchesAndJumps hold together. -/
theorem premises_EngineBranchesAndJumps :
    (Branches Instr.iBeq 32 fun a b => a = b) ∧
    (imgWord (c04_81.latImage (0 / 16)) (tk 7#64 5#64 9#64).pc = insI 32 1 2 1) ∧
    (imgWord (c04_152.latImage (0 / 16)) (tk 7#64 5#64 9#64).pc = insI 38 4 0 1) ∧
    (imgWord (c04_154.latImage (0 / 16)) (tk 3#64 5#64 9#64).pc = insI 39 0 1 0) ∧
    ((c04_81.task 0 0 = some (tk 7#64 5#64 9#64)) ∧ ((tk 7#64 5#64 9#64).waiting = false) ∧ ((tk 7#64 5#64 9#64).fetchAt ≤ c04_81.latNow (0 / 16)) ∧ ((tk 7#64 5#64 9#64).readyAt (insI 32 1 2 1) ≤ c04_81.latNow (0 / 16)) ∧ (tget 0 c04_81.eng.lastIssue 0 ≠ c04_81.latNow (0 / 16) + 1) ∧ ((tk 7#64 5#64 9#64).issued < (tk 7#64 5#64 9#64).budget) ∧ (c04_81.wordBits 2 0 (tk 7#64 5#64 9#64).pc < 2) ∧ (c04_81.wordFlag 2 0 (tk 7#64 5#64 9#64).pc = false) ∧ (insOp (insI 32 1 2 1) = 32) ∧ (2 < imgLen (c04_81.latImage (0 / 16))) ∧ ((tk 7#64 5#64 9#64).reg (insX (insI 32 1 2 1)) = (tk 7#64 5#64 9#64).reg (insY (insI 32 1 2 1)) ∧ ↑2 = ↑(tk 7#64 5#64 9#64).pc + 1 + insSimm (insI 32 1 2 1) ∨ ¬(tk 7#64 5#64 9#64).reg (insX (insI 32 1 2 1)) = (tk 7#64 5#64 9#64).reg (insY (insI 32 1 2 1)) ∧ 2 = (tk 7#64 5#64 9#64).pc + 1)) ∧
    ((c04_152.task 0 0 = some (tk 7#64 5#64 9#64)) ∧ ((tk 7#64 5#64 9#64).fetchAt ≤ c04_152.latNow (0 / 16)) ∧ ((tk 7#64 5#64 9#64).readyAt (insI 38 4 0 1) ≤ c04_152.latNow (0 / 16)) ∧ (tget 0 c04_152.eng.lastIssue 0 ≠ c04_152.latNow (0 / 16) + 1) ∧ (c04_152.wordBits 2 0 (tk 7#64 5#64 9#64).pc < 2) ∧ (c04_152.wordFlag 2 0 (tk 7#64 5#64 9#64).pc = false) ∧ (insOp (insI 38 4 0 1) = 38) ∧ (3 < imgLen (c04_152.latImage (0 / 16))) ∧ (↑3 = ↑(tk 7#64 5#64 9#64).pc + 1 + insSimm (insI 38 4 0 1))) ∧
    ((c04_154.task 0 0 = some (tk 3#64 5#64 9#64)) ∧ ((tk 3#64 5#64 9#64).waiting = false) ∧ ((tk 3#64 5#64 9#64).fetchAt ≤ c04_154.latNow (0 / 16)) ∧ ((tk 3#64 5#64 9#64).readyAt (insI 39 0 1 0) ≤ c04_154.latNow (0 / 16)) ∧ (tget 0 c04_154.eng.lastIssue 0 ≠ c04_154.latNow (0 / 16) + 1) ∧ ((tk 3#64 5#64 9#64).issued < (tk 3#64 5#64 9#64).budget) ∧ (c04_154.wordBits 2 0 (tk 3#64 5#64 9#64).pc < 2) ∧ (c04_154.wordFlag 2 0 (tk 3#64 5#64 9#64).pc = false) ∧ (insOp (insI 39 0 1 0) = 39) ∧ (BitVec.toNat ((tk 3#64 5#64 9#64).a (insI 39 0 1 0)) < imgLen (c04_154.latImage (0 / 16)))) := ⟨by constructor, img_word _, img_word _, img_word _, by decide +kernel, by decide +kernel, by decide +kernel⟩

/-- The premises of EngineDataMemory hold together. -/
theorem premises_EngineDataMemory :
    (Loads Instr.iLdb 40 1) ∧
    (imgWord (c04_155.latImage (0 / 16)) (tk 7#64 5#64 9#64).pc = insI 40 4 1 1) ∧
    (Stores Instr.iStb 44 1) ∧
    (imgWord (c04_164.latImage (0 / 16)) (tk 4096#64 5#64 9#64).pc = insI 44 2 1 65528) ∧
    ((c04_155.task 0 0 = some (tk 7#64 5#64 9#64)) ∧ ((tk 7#64 5#64 9#64).waiting = false) ∧ ((tk 7#64 5#64 9#64).fetchAt ≤ c04_155.latNow (0 / 16)) ∧ ((tk 7#64 5#64 9#64).readyAt (insI 40 4 1 1) ≤ c04_155.latNow (0 / 16)) ∧ (tget 0 c04_155.eng.lastIssue 0 ≠ c04_155.latNow (0 / 16) + 1) ∧ ((tk 7#64 5#64 9#64).issued < (tk 7#64 5#64 9#64).budget) ∧ (c04_155.wordBits 2 0 (tk 7#64 5#64 9#64).pc < 2) ∧ (c04_155.wordFlag 2 0 (tk 7#64 5#64 9#64).pc = false) ∧ (insOp (insI 40 4 1 1) = 40) ∧ ((tk 7#64 5#64 9#64).pc + 1 < imgLen (c04_155.latImage (0 / 16))) ∧ ((tk 7#64 5#64 9#64).addr (insI 40 4 1 1) < 4096) ∧ ((tk 7#64 5#64 9#64).addr (insI 40 4 1 1) % 1 = 0) ∧ (c04_155.wordBits 3 0 (dmemWord 0 ((tk 7#64 5#64 9#64).addr (insI 40 4 1 1))) < 2) ∧ (c04_155.wordFlag 3 0 (dmemWord 0 ((tk 7#64 5#64 9#64).addr (insI 40 4 1 1))) = false) ∧ (1 ≠ 8 * 0 + 0)) ∧
    ((c04_164.task 0 0 = some (tk 4096#64 5#64 9#64)) ∧ ((tk 4096#64 5#64 9#64).waiting = false) ∧ ((tk 4096#64 5#64 9#64).fetchAt ≤ c04_164.latNow (0 / 16)) ∧ ((tk 4096#64 5#64 9#64).readyAt (insI 44 2 1 65528) ≤ c04_164.latNow (0 / 16)) ∧ (tget 0 c04_164.eng.lastIssue 0 ≠ c04_164.latNow (0 / 16) + 1) ∧ ((tk 4096#64 5#64 9#64).issued < (tk 4096#64 5#64 9#64).budget) ∧ (c04_164.wordBits 2 0 (tk 4096#64 5#64 9#64).pc < 2) ∧ (c04_164.wordFlag 2 0 (tk 4096#64 5#64 9#64).pc = false) ∧ (insOp (insI 44 2 1 65528) = 44) ∧ ((tk 4096#64 5#64 9#64).pc + 1 < imgLen (c04_164.latImage (0 / 16))) ∧ ((tk 4096#64 5#64 9#64).addr (insI 44 2 1 65528) < 4096) ∧ ((tk 4096#64 5#64 9#64).addr (insI 44 2 1 65528) % 1 = 0)) := ⟨by constructor, img_word _, by constructor, img_word _, by decide +kernel, by decide +kernel⟩

/-- The premises of EnginePacketLoadsAndStores hold together. -/
theorem premises_EnginePacketLoadsAndStores :
    (PacketLoads Instr.iPlb 48 1) ∧
    (imgWord (c04_171.latImage (0 / 16)) (tk 71#64 5#64 9#64).pc = insI 48 4 1 1) ∧
    (PacketStores Instr.iPsb 52 1) ∧
    (imgWord (c04_175.latImage (0 / 16)) (tk 71#64 18364758544493064720#64 9#64).pc = insI 52 2 1 1) ∧
    ((c04_171.task 0 0 = some (tk 71#64 5#64 9#64)) ∧ ((tk 71#64 5#64 9#64).waiting = false) ∧ ((tk 71#64 5#64 9#64).fetchAt ≤ c04_171.latNow (0 / 16)) ∧ ((tk 71#64 5#64 9#64).readyAt (insI 48 4 1 1) ≤ c04_171.latNow (0 / 16)) ∧ (tget 0 c04_171.eng.lastIssue 0 ≠ c04_171.latNow (0 / 16) + 1) ∧ ((tk 71#64 5#64 9#64).issued < (tk 71#64 5#64 9#64).budget) ∧ (c04_171.wordBits 2 0 (tk 71#64 5#64 9#64).pc < 2) ∧ (c04_171.wordFlag 2 0 (tk 71#64 5#64 9#64).pc = false) ∧ (insOp (insI 48 4 1 1) = 48) ∧ ((tk 71#64 5#64 9#64).pc + 1 < imgLen (c04_171.latImage (0 / 16))) ∧ ((tk 71#64 5#64 9#64).addr (insI 48 4 1 1) + 1 ≤ (tk 71#64 5#64 9#64).data.length) ∧ ((c04_171.pktLoad 0 0 (tk 71#64 5#64 9#64) ((tk 71#64 5#64 9#64).addr (insI 48 4 1 1)) 1).2 = false) ∧ (1 ≠ 8 * 0 + 0)) ∧
    ((c04_175.task 0 0 = some (tk 71#64 18364758544493064720#64 9#64)) ∧ ((tk 71#64 18364758544493064720#64 9#64).waiting = false) ∧ ((tk 71#64 18364758544493064720#64 9#64).fetchAt ≤ c04_175.latNow (0 / 16)) ∧ ((tk 71#64 18364758544493064720#64 9#64).readyAt (insI 52 2 1 1) ≤ c04_175.latNow (0 / 16)) ∧ (tget 0 c04_175.eng.lastIssue 0 ≠ c04_175.latNow (0 / 16) + 1) ∧ ((tk 71#64 18364758544493064720#64 9#64).issued < (tk 71#64 18364758544493064720#64 9#64).budget) ∧ (c04_175.wordBits 2 0 (tk 71#64 18364758544493064720#64 9#64).pc < 2) ∧ (c04_175.wordFlag 2 0 (tk 71#64 18364758544493064720#64 9#64).pc = false) ∧ (insOp (insI 52 2 1 1) = 52) ∧ ((tk 71#64 18364758544493064720#64 9#64).pc + 1 < imgLen (c04_175.latImage (0 / 16))) ∧ ((tk 71#64 18364758544493064720#64 9#64).addr (insI 52 2 1 1) + 1 ≤ (tk 71#64 18364758544493064720#64 9#64).data.length)) := ⟨by constructor, img_word _, by constructor, img_word _, by decide +kernel, by decide +kernel⟩

/-- The premises of EnginePacketShapeAndSums hold together, part 1. -/
theorem premises_EnginePacketShapeAndSums_1 :
    (imgWord (c04_180.latImage (0 / 16)) (tk 71#64 5#64 9#64).pc = insI 56 0 0 65280) ∧
    (imgWord (c04_179.latImage (0 / 16)) (tk 71#64 5#64 9#64).pc = insI 56 0 0 80) ∧
    (imgWord (c04_184.latImage (0 / 16)) (tk 80#64 0#64 0#64).pc = insR 58 3 1 2 0) ∧
    (imgWord (c04_181.latImage (0 / 16)) (tk 8#64 17#64 4294967295#64).pc = insR 57 3 1 2 0) ∧
    (∀ i < BitVec.toNat ((tk 8#64 17#64 4294967295#64).b (insR 57 3 1 2 0)) % 1024, Clean 3 0 (dmemWord 0 (BitVec.toNat ((tk 8#64 17#64 4294967295#64).a (insR 57 3 1 2 0)) + i)) c04_181) := ⟨img_word _, img_word _, img_word _, img_word _, by unfold Clean; decide +kernel⟩

/-- The premises of EnginePacketShapeAndSums hold together, part 2. -/
theorem premises_EnginePacketShapeAndSums_2 :
    ((c04_180.task 0 0 = some (tk 71#64 5#64 9#64)) ∧ ((tk 71#64 5#64 9#64).waiting = false) ∧ ((tk 71#64 5#64 9#64).fetchAt ≤ c04_180.latNow (0 / 16)) ∧ ((tk 71#64 5#64 9#64).readyAt (insI 56 0 0 65280) ≤ c04_180.latNow (0 / 16)) ∧ (tget 0 c04_180.eng.lastIssue 0 ≠ c04_180.latNow (0 / 16) + 1) ∧ ((tk 71#64 5#64 9#64).issued < (tk 71#64 5#64 9#64).budget) ∧ (c04_180.wordBits 2 0 (tk 71#64 5#64 9#64).pc < 2) ∧ (c04_180.wordFlag 2 0 (tk 71#64 5#64 9#64).pc = false) ∧ (insOp (insI 56 0 0 65280) = 56) ∧ ((tk 71#64 5#64 9#64).pc + 1 < imgLen (c04_180.latImage (0 / 16))) ∧ (insSimm (insI 56 0 0 65280) = -↑256) ∧ (0 < 256) ∧ (-256 ≤ (tk 71#64 5#64 9#64).shift - ↑256) ∧ (256 ≠ 8 * 0 + 0)) ∧
    ((c04_179.task 0 0 = some (tk 71#64 5#64 9#64)) ∧ ((tk 71#64 5#64 9#64).fetchAt ≤ c04_179.latNow (0 / 16)) ∧ ((tk 71#64 5#64 9#64).readyAt (insI 56 0 0 80) ≤ c04_179.latNow (0 / 16)) ∧ (tget 0 c04_179.eng.lastIssue 0 ≠ c04_179.latNow (0 / 16) + 1) ∧ (c04_179.wordBits 2 0 (tk 71#64 5#64 9#64).pc < 2) ∧ (c04_179.wordFlag 2 0 (tk 71#64 5#64 9#64).pc = false) ∧ (insOp (insI 56 0 0 80) = 56) ∧ ((tk 71#64 5#64 9#64).pc + 1 < imgLen (c04_179.latImage (0 / 16))) ∧ (insSimm (insI 56 0 0 80) = ↑80) ∧ (80 ≤ (tk 71#64 5#64 9#64).data.length) ∧ (80 ≠ 8 * 0 + 0)) ∧
    ((c04_184.task 0 0 = some (tk 80#64 0#64 0#64)) ∧ ((tk 80#64 0#64 0#64).waiting = false) ∧ ((tk 80#64 0#64 0#64).fetchAt ≤ c04_184.latNow (0 / 16)) ∧ ((tk 80#64 0#64 0#64).readyAt (insR 58 3 1 2 0) ≤ c04_184.latNow (0 / 16)) ∧ (tget 0 c04_184.eng.lastIssue 0 ≠ c04_184.latNow (0 / 16) + 1) ∧ ((tk 80#64 0#64 0#64).issued < (tk 80#64 0#64 0#64).budget) ∧ (c04_184.wordBits 2 0 (tk 80#64 0#64 0#64).pc < 2) ∧ (c04_184.wordFlag 2 0 (tk 80#64 0#64 0#64).pc = false) ∧ (insOp (insR 58 3 1 2 0) = 58) ∧ ((tk 80#64 0#64 0#64).pc + 1 < imgLen (c04_184.latImage (0 / 16))) ∧ (BitVec.toNat ((tk 80#64 0#64 0#64).a (insR 58 3 1 2 0)) + BitVec.toNat ((tk 80#64 0#64 0#64).b (insR 58 3 1 2 0)) ≤ (tk 80#64 0#64 0#64).data.length) ∧ ((c04_184.pktLoad 0 0 (tk 80#64 0#64 0#64) (BitVec.toNat ((tk 80#64 0#64 0#64).a (insR 58 3 1 2 0))) (BitVec.toNat ((tk 80#64 0#64 0#64).b (insR 58 3 1 2 0)))).2 = false)) ∧
    ((c04_181.task 0 0 = some (tk 8#64 17#64 4294967295#64)) ∧ ((tk 8#64 17#64 4294967295#64).waiting = false) ∧ ((tk 8#64 17#64 4294967295#64).fetchAt ≤ c04_181.latNow (0 / 16)) ∧ ((tk 8#64 17#64 4294967295#64).readyAt (insR 57 3 1 2 0) ≤ c04_181.latNow (0 / 16)) ∧ (tget 0 c04_181.eng.lastIssue 0 ≠ c04_181.latNow (0 / 16) + 1) ∧ ((tk 8#64 17#64 4294967295#64).issued < (tk 8#64 17#64 4294967295#64).budget) ∧ (c04_181.wordBits 2 0 (tk 8#64 17#64 4294967295#64).pc < 2) ∧ (c04_181.wordFlag 2 0 (tk 8#64 17#64 4294967295#64).pc = false) ∧ (insOp (insR 57 3 1 2 0) = 57) ∧ ((tk 8#64 17#64 4294967295#64).pc + 1 < imgLen (c04_181.latImage (0 / 16))) ∧ (BitVec.toNat ((tk 8#64 17#64 4294967295#64).a (insR 57 3 1 2 0)) + BitVec.toNat ((tk 8#64 17#64 4294967295#64).b (insR 57 3 1 2 0)) % 1024 ≤ 4096)) := ⟨by decide +kernel, by decide +kernel, by decide +kernel, by decide +kernel⟩

/-- The premises of EngineAtomsAndOrderGate hold together, part 1. -/
theorem premises_EngineAtomsAndOrderGate_1 :
    (Atoms Instr.iOadd 1 fun old b _ => old + b) ∧
    (imgWord (w4_194_s.latImage (0 / 16)) (tk 5#64 17#64 33#64).pc = insR 59 3 1 2 1) ∧
    (imgWord (w4_196_s.latImage (0 / 16)) w4_196_k.pc = insR 59 3 1 2 1) ∧
    (Atoms Instr.iOswp 2 fun _ b _ => b) ∧
    (imgWord (c04_200.latImage (0 / 16)) (tk 5#64 17#64 33#64).pc = insR 59 3 1 2 2) := ⟨by constructor, img_word _, img_word _, by constructor, img_word _⟩

/-- The premises of EngineAtomsAndOrderGate hold together, part 2. -/
theorem premises_EngineAtomsAndOrderGate_2 :
    (Atoms Instr.iUadd 5 fun old b _ => old + b) ∧
    ((w4_194_s.task 0 0 = some (tk 5#64 17#64 33#64)) ∧ ((tk 5#64 17#64 33#64).waiting = false) ∧ ((tk 5#64 17#64 33#64).fetchAt ≤ w4_194_s.latNow (0 / 16)) ∧ ((tk 5#64 17#64 33#64).readyAt (insR 59 3 1 2 1) ≤ w4_194_s.latNow (0 / 16)) ∧ (tget 0 w4_194_s.eng.lastIssue 0 ≠ w4_194_s.latNow (0 / 16) + 1) ∧ ((tk 5#64 17#64 33#64).issued < (tk 5#64 17#64 33#64).budget) ∧ (w4_194_s.wordBits 2 0 (tk 5#64 17#64 33#64).pc < 2) ∧ (w4_194_s.wordFlag 2 0 (tk 5#64 17#64 33#64).pc = false) ∧ (w4_194_s.atomYields 0 0 = false) ∧ (insOp (insR 59 3 1 2 1) = 59) ∧ (insFunc (insR 59 3 1 2 1) = 1) ∧ (1 < 4) ∧ (w4_194_s.pkt (tk 5#64 17#64 33#64).pkt = some (pk true)) ∧ (BitVec.toNat ((tk 5#64 17#64 33#64).a (insR 59 3 1 2 1)) < 524288) ∧ ((pk true).ordered = true) ∧ ((tk 5#64 17#64 33#64).released = false) ∧ (w4_194_s.gateFree (pk true).turnout (pk true).num = false)) ∧
    ((w4_196_s.task 0 0 = some w4_196_k) ∧ (w4_196_k.waiting = true) ∧ (w4_196_s.pkt w4_196_k.pkt = some (pk true)) ∧ (w4_196_s.gateFree (pk true).turnout (pk true).num = true) ∧ (w4_196_s.wordBits 5 0 (BitVec.toNat (w4_196_k.a (insR 59 3 1 2 1))) < 2) ∧ (w4_196_s.wordFlag 5 0 (BitVec.toNat (w4_196_k.a (insR 59 3 1 2 1))) = false) ∧ (w4_196_k.pc + 1 < imgLen (w4_196_s.latImage (0 / 16)))) ∧
    ((c04_200.task 0 0 = some (tk 5#64 17#64 33#64)) ∧ ((tk 5#64 17#64 33#64).fetchAt ≤ c04_200.latNow (0 / 16)) ∧ ((tk 5#64 17#64 33#64).readyAt (insR 59 3 1 2 2) ≤ c04_200.latNow (0 / 16)) ∧ (tget 0 c04_200.eng.lastIssue 0 ≠ c04_200.latNow (0 / 16) + 1) ∧ (c04_200.wordBits 2 0 (tk 5#64 17#64 33#64).pc < 2) ∧ (c04_200.wordFlag 2 0 (tk 5#64 17#64 33#64).pc = false) ∧ (c04_200.atomYields 0 0 = false) ∧ (insOp (insR 59 3 1 2 2) = 59) ∧ (insFunc (insR 59 3 1 2 2) = 2) ∧ ((tk 5#64 17#64 33#64).pc + 1 < imgLen (c04_200.latImage (0 / 16))) ∧ (c04_200.pkt (tk 5#64 17#64 33#64).pkt = some pk) ∧ (BitVec.toNat ((tk 5#64 17#64 33#64).a (insR 59 3 1 2 2)) < 524288) ∧ (c04_200.wordBits 5 0 (BitVec.toNat ((tk 5#64 17#64 33#64).a (insR 59 3 1 2 2))) < 2) ∧ (c04_200.wordFlag 5 0 (BitVec.toNat ((tk 5#64 17#64 33#64).a (insR 59 3 1 2 2))) = false) ∧ (4 ≤ 2 ∨ pk.ordered = false ∨ (tk 5#64 17#64 33#64).released = false ∧ c04_200.gateFree pk.turnout pk.num = true)) ∧
    (w4_yield.atomYields 1 0 = true) := ⟨by constructor, by decide +kernel, by decide +kernel, by decide +kernel, by decide +kernel⟩

/-- The premises of EngineRegistersEmitAndEnd hold together, part 1. -/
theorem premises_EngineRegistersEmitAndEnd_1 :
    (imgWord (w4_245_s.latImage (0 / 16)) w4_245_k.pc = insI 60 4 0 20) ∧
    (imgWord (c04_243.latImage (0 / 16)) (tk 5#64 6#64 7#64).pc = insI 60 4 0 0) ∧
    (imgWord (c04_260.latImage (0 / 16)) (tk 6917529027641081856#64 6#64 7#64).pc = insI 62 0 1 0) ∧
    (imgWord (c04_263.latImage (0 / 16)) (tk 6917529027641081856#64 6#64 7#64).pc = insI 63 0 0 0) ∧
    (imgWord (c04_262.latImage (0 / 16)) (tk 6917529027641081856#64 6#64 7#64).pc = insI 63 0 0 1) ∧
    (imgWord (w4_248_s.latImage (0 / 16)) w4_248_k.pc = insI 60 4 0 20) ∧
    (imgWord (c04_257.latImage (0 / 16)) (tk 64#64 6#64 7#64).pc = insI 61 0 1 7) := ⟨img_word _, img_word _, img_word _, img_word _, img_word _, img_word _, img_word _⟩

/-- The premises of EngineRegistersEmitAndEnd hold together, part 2. -/
theorem premises_EngineRegistersEmitAndEnd_2 :
    ((w4_245_s.task 0 0 = some w4_245_k) ∧ (w4_245_k.waiting = false) ∧ (w4_245_k.fetchAt ≤ w4_245_s.latNow (0 / 16)) ∧ (w4_245_k.readyAt (insI 60 4 0 20) ≤ w4_245_s.latNow (0 / 16)) ∧ (tget 0 w4_245_s.eng.lastIssue 0 ≠ w4_245_s.latNow (0 / 16) + 1) ∧ (w4_245_k.issued < w4_245_k.budget) ∧ (w4_245_s.wordBits 2 0 w4_245_k.pc < 2) ∧ (w4_245_s.wordFlag 2 0 w4_245_k.pc = false) ∧ (insOp (insI 60 4 0 20) = 60) ∧ (w4_245_k.pc + 1 < imgLen (w4_245_s.latImage (0 / 16))) ∧ (w4_245_s.pkt w4_245_k.pkt = some pk) ∧ (insImm (insI 60 4 0 20) = 20) ∧ (w4_245_k.cntRead = true) ∧ (w4_245_k.cntSel ≤ 13) ∧ (w4_245_k.cntSel = 12)) ∧
    ((c04_243.task 0 0 = some (tk 5#64 6#64 7#64)) ∧ ((tk 5#64 6#64 7#64).waiting = false) ∧ ((tk 5#64 6#64 7#64).fetchAt ≤ c04_243.latNow (0 / 16)) ∧ ((tk 5#64 6#64 7#64).readyAt (insI 60 4 0 0) ≤ c04_243.latNow (0 / 16)) ∧ (tget 0 c04_243.eng.lastIssue 0 ≠ c04_243.latNow (0 / 16) + 1) ∧ ((tk 5#64 6#64 7#64).issued < (tk 5#64 6#64 7#64).budget) ∧ (c04_243.wordBits 2 0 (tk 5#64 6#64 7#64).pc < 2) ∧ (c04_243.wordFlag 2 0 (tk 5#64 6#64 7#64).pc = false) ∧ (insOp (insI 60 4 0 0) = 60) ∧ ((tk 5#64 6#64 7#64).pc + 1 < imgLen (c04_243.latImage (0 / 16))) ∧ (c04_243.pkt (tk 5#64 6#64 7#64).pkt = some pk) ∧ (insImm (insI 60 4 0 0) ≠ 20) ∧ (c04_243.csrRead 0 0 (tk 5#64 6#64 7#64) pk (insImm (insI 60 4 0 0)) = Sum.inl 6)) ∧
    ((c04_260.task 0 0 = some (tk 6917529027641081856#64 6#64 7#64)) ∧ ((tk 6917529027641081856#64 6#64 7#64).waiting = false) ∧ ((tk 6917529027641081856#64 6#64 7#64).fetchAt ≤ c04_260.latNow (0 / 16)) ∧ ((tk 6917529027641081856#64 6#64 7#64).readyAt (insI 62 0 1 0) ≤ c04_260.latNow (0 / 16)) ∧ (tget 0 c04_260.eng.lastIssue 0 ≠ c04_260.latNow (0 / 16) + 1) ∧ ((tk 6917529027641081856#64 6#64 7#64).issued < (tk 6917529027641081856#64 6#64 7#64).budget) ∧ (c04_260.wordBits 2 0 (tk 6917529027641081856#64 6#64 7#64).pc < 2) ∧ (c04_260.wordFlag 2 0 (tk 6917529027641081856#64 6#64 7#64).pc = false) ∧ (insOp (insI 62 0 1 0) = 62) ∧ ((tk 6917529027641081856#64 6#64 7#64).pc + 1 < imgLen (c04_260.latImage (0 / 16))) ∧ (actVerb (BitVec.toNat ((tk 6917529027641081856#64 6#64 7#64).a (insI 62 0 1 0))) = 0 ∨ actVerb (BitVec.toNat ((tk 6917529027641081856#64 6#64 7#64).a (insI 62 0 1 0))) = 3 ∨ actVerb (BitVec.toNat ((tk 6917529027641081856#64 6#64 7#64).a (insI 62 0 1 0))) = 4) ∧ ((tk 6917529027641081856#64 6#64 7#64).emits.length < 8) ∧ (60 ≤ (tk 6917529027641081856#64 6#64 7#64).data.length) ∧ ((tk 6917529027641081856#64 6#64 7#64).data.length ≤ 9724)) ∧
    ((c04_263.task 0 0 = some (tk 6917529027641081856#64 6#64 7#64)) ∧ ((tk 6917529027641081856#64 6#64 7#64).fetchAt ≤ c04_263.latNow (0 / 16)) ∧ ((tk 6917529027641081856#64 6#64 7#64).readyAt (insI 63 0 0 0) ≤ c04_263.latNow (0 / 16)) ∧ (tget 0 c04_263.eng.lastIssue 0 ≠ c04_263.latNow (0 / 16) + 1) ∧ (c04_263.wordBits 2 0 (tk 6917529027641081856#64 6#64 7#64).pc < 2) ∧ (c04_263.wordFlag 2 0 (tk 6917529027641081856#64 6#64 7#64).pc = false) ∧ (insOp (insI 63 0 0 0) = 63) ∧ (insImm (insI 63 0 0 0) = 0) ∧ (c04_263.pkt (tk 6917529027641081856#64 6#64 7#64).pkt = some (pk true)) ∧ ((pk true).ordered = true)) ∧
    ((c04_262.task 0 0 = some (tk 6917529027641081856#64 6#64 7#64)) ∧ ((tk 6917529027641081856#64 6#64 7#64).fetchAt ≤ c04_262.latNow (0 / 16)) ∧ ((tk 6917529027641081856#64 6#64 7#64).readyAt (insI 63 0 0 1) ≤ c04_262.latNow (0 / 16)) ∧ (tget 0 c04_262.eng.lastIssue 0 ≠ c04_262.latNow (0 / 16) + 1) ∧ (c04_262.wordBits 2 0 (tk 6917529027641081856#64 6#64 7#64).pc < 2) ∧ (c04_262.wordFlag 2 0 (tk 6917529027641081856#64 6#64 7#64).pc = false) ∧ (insOp (insI 63 0 0 1) = 63) ∧ (insImm (insI 63 0 0 1) = 1) ∧ ((tk 6917529027641081856#64 6#64 7#64).pc + 1 < imgLen (c04_262.latImage (0 / 16))) ∧ (c04_262.pkt (tk 6917529027641081856#64 6#64 7#64).pkt = some pk)) ∧
    ((w4_248_s.task 0 0 = some w4_248_k) ∧ (w4_248_k.waiting = false) ∧ (w4_248_k.fetchAt ≤ w4_248_s.latNow (0 / 16)) ∧ (w4_248_k.readyAt (insI 60 4 0 20) ≤ w4_248_s.latNow (0 / 16)) ∧ (tget 0 w4_248_s.eng.lastIssue 0 ≠ w4_248_s.latNow (0 / 16) + 1) ∧ (w4_248_k.issued < w4_248_k.budget) ∧ (w4_248_s.wordBits 2 0 w4_248_k.pc < 2) ∧ (w4_248_s.wordFlag 2 0 w4_248_k.pc = false) ∧ (w4_248_k.pc + 1 < imgLen (w4_248_s.latImage (0 / 16))) ∧ (w4_248_s.pkt w4_248_k.pkt = some pk) ∧ (w4_248_k.cntRead = true) ∧ (w4_248_k.cntSel ≤ 13) ∧ (w4_248_k.cntSel = 13)) ∧
    ((c04_257.task 0 0 = some (tk 64#64 6#64 7#64)) ∧ ((tk 64#64 6#64 7#64).waiting = false) ∧ ((tk 64#64 6#64 7#64).fetchAt ≤ c04_257.latNow (0 / 16)) ∧ ((tk 64#64 6#64 7#64).readyAt (insI 61 0 1 7) ≤ c04_257.latNow (0 / 16)) ∧ (tget 0 c04_257.eng.lastIssue 0 ≠ c04_257.latNow (0 / 16) + 1) ∧ ((tk 64#64 6#64 7#64).issued < (tk 64#64 6#64 7#64).budget) ∧ (c04_257.wordBits 2 0 (tk 64#64 6#64 7#64).pc < 2) ∧ (c04_257.wordFlag 2 0 (tk 64#64 6#64 7#64).pc = false) ∧ (insOp (insI 61 0 1 7) = 61) ∧ ((tk 64#64 6#64 7#64).pc + 1 < imgLen (c04_257.latImage (0 / 16))) ∧ (insImm (insI 61 0 1 7) = 2 ∧ (tk 64#64 6#64 7#64).setLen (BitVec.toNat ((tk 64#64 6#64 7#64).a (insI 61 0 1 7))) = some w4_k1 ∨ insImm (insI 61 0 1 7) = 7 ∧ w4_k1 = { pkt := (tk 64#64 6#64 7#64).pkt, prog := (tk 64#64 6#64 7#64).prog, pc := (tk 64#64 6#64 7#64).pc, regs := (tk 64#64 6#64 7#64).regs, issued := (tk 64#64 6#64 7#64).issued, budget := (tk 64#64 6#64 7#64).budget, cntRead := (tk 64#64 6#64 7#64).cntRead, data := (tk 64#64 6#64 7#64).data, poison := (tk 64#64 6#64 7#64).poison, shift := (tk 64#64 6#64 7#64).shift, tail := (tk 64#64 6#64 7#64).tail, hdrSel := BitVec.toNat ((tk 64#64 6#64 7#64).a (insI 61 0 1 7)) % 16, cntSel := (tk 64#64 6#64 7#64).cntSel, emits := (tk 64#64 6#64 7#64).emits, released := (tk 64#64 6#64 7#64).released, waiting := (tk 64#64 6#64 7#64).waiting, dmem := (tk 64#64 6#64 7#64).dmem, home := (tk 64#64 6#64 7#64).home, start := (tk 64#64 6#64 7#64).start, ready := (tk 64#64 6#64 7#64).ready, fetchAt := (tk 64#64 6#64 7#64).fetchAt, atomAt := (tk 64#64 6#64 7#64).atomAt : Machine.Task } ∨ insImm (insI 61 0 1 7) = 19 ∧ w4_k1 = { pkt := (tk 64#64 6#64 7#64).pkt, prog := (tk 64#64 6#64 7#64).prog, pc := (tk 64#64 6#64 7#64).pc, regs := (tk 64#64 6#64 7#64).regs, issued := (tk 64#64 6#64 7#64).issued, budget := (tk 64#64 6#64 7#64).budget, cntRead := (tk 64#64 6#64 7#64).cntRead, data := (tk 64#64 6#64 7#64).data, poison := (tk 64#64 6#64 7#64).poison, shift := (tk 64#64 6#64 7#64).shift, tail := (tk 64#64 6#64 7#64).tail, hdrSel := (tk 64#64 6#64 7#64).hdrSel, cntSel := BitVec.toNat ((tk 64#64 6#64 7#64).a (insI 61 0 1 7)), emits := (tk 64#64 6#64 7#64).emits, released := (tk 64#64 6#64 7#64).released, waiting := (tk 64#64 6#64 7#64).waiting, dmem := (tk 64#64 6#64 7#64).dmem, home := (tk 64#64 6#64 7#64).home, start := (tk 64#64 6#64 7#64).start, ready := (tk 64#64 6#64 7#64).ready, fetchAt := (tk 64#64 6#64 7#64).fetchAt, atomAt := (tk 64#64 6#64 7#64).atomAt : Machine.Task })) := ⟨by decide +kernel, by decide +kernel, by decide +kernel, by decide +kernel, by decide +kernel, by decide +kernel, by decide +kernel⟩

/-- The premises of EngineExceptionsEndTheTask hold together, part 1. -/
theorem premises_EngineExceptionsEndTheTask_1 :
    (Computes Instr.iAdd 0 1 fun a b _ => a + b) ∧
    (imgWord (w4_264_s.latImage (0 / 16)) w4_264_k.pc = insR 0 4 1 2 0) ∧
    (Branches Instr.iBeq 32 fun a b => a = b) ∧
    (imgWord (c04_302.latImage (0 / 16)) (tk 5#64 5#64 9#64).pc = insI 32 1 2 2) ∧
    (Loads Instr.iLdh 41 2 ∨ Stores Instr.iLdh 41 2) := ⟨by constructor, img_word _, by constructor, img_word _, .inl (by constructor)⟩

/-- The premises of EngineExceptionsEndTheTask hold together, part 2. -/
theorem premises_EngineExceptionsEndTheTask_2 :
    (imgWord (c04_288.latImage (0 / 16)) (tk 6#64 5#64 9#64).pc = insI 41 4 1 1) ∧
    ((w4_264_s.task 0 0 = some w4_264_k) ∧ (w4_264_k.waiting = false) ∧ (w4_264_k.fetchAt ≤ w4_264_s.latNow (0 / 16)) ∧ (w4_264_k.readyAt (insR 0 4 1 2 0) ≤ w4_264_s.latNow (0 / 16)) ∧ (tget 0 w4_264_s.eng.lastIssue 0 ≠ w4_264_s.latNow (0 / 16) + 1) ∧ (insOp (insR 0 4 1 2 0) = 0) ∧ (w4_264_k.budget ≤ w4_264_k.issued) ∧ (w4_264_s.pkt w4_264_k.pkt = some pk)) ∧
    ((c04_302.task 0 0 = some (tk 5#64 5#64 9#64)) ∧ ((tk 5#64 5#64 9#64).waiting = false) ∧ ((tk 5#64 5#64 9#64).fetchAt ≤ c04_302.latNow (0 / 16)) ∧ ((tk 5#64 5#64 9#64).readyAt (insI 32 1 2 2) ≤ c04_302.latNow (0 / 16)) ∧ (tget 0 c04_302.eng.lastIssue 0 ≠ c04_302.latNow (0 / 16) + 1) ∧ ((tk 5#64 5#64 9#64).issued < (tk 5#64 5#64 9#64).budget) ∧ (c04_302.wordBits 2 0 (tk 5#64 5#64 9#64).pc < 2) ∧ (c04_302.wordFlag 2 0 (tk 5#64 5#64 9#64).pc = false) ∧ (insOp (insI 32 1 2 2) = 32) ∧ (c04_302.pkt (tk 5#64 5#64 9#64).pkt = some pk) ∧ ((tk 5#64 5#64 9#64).reg (insX (insI 32 1 2 2)) = (tk 5#64 5#64 9#64).reg (insY (insI 32 1 2 2))) ∧ (↑(tk 5#64 5#64 9#64).pc + 1 + insSimm (insI 32 1 2 2) < 0 ∨ ↑(imgLen (c04_302.latImage (0 / 16))) ≤ ↑(tk 5#64 5#64 9#64).pc + 1 + insSimm (insI 32 1 2 2))) ∧
    ((c04_288.task 0 0 = some (tk 6#64 5#64 9#64)) ∧ ((tk 6#64 5#64 9#64).waiting = false) ∧ ((tk 6#64 5#64 9#64).fetchAt ≤ c04_288.latNow (0 / 16)) ∧ ((tk 6#64 5#64 9#64).readyAt (insI 41 4 1 1) ≤ c04_288.latNow (0 / 16)) ∧ (tget 0 c04_288.eng.lastIssue 0 ≠ c04_288.latNow (0 / 16) + 1) ∧ ((tk 6#64 5#64 9#64).issued < (tk 6#64 5#64 9#64).budget) ∧ (c04_288.wordBits 2 0 (tk 6#64 5#64 9#64).pc < 2) ∧ (c04_288.wordFlag 2 0 (tk 6#64 5#64 9#64).pc = false) ∧ (insOp (insI 41 4 1 1) = 41) ∧ (c04_288.pkt (tk 6#64 5#64 9#64).pkt = some pk) ∧ (4096 ≤ (tk 6#64 5#64 9#64).addr (insI 41 4 1 1) ∧ 4 = 3 ∨ (tk 6#64 5#64 9#64).addr (insI 41 4 1 1) < 4096 ∧ (tk 6#64 5#64 9#64).addr (insI 41 4 1 1) % 2 ≠ 0 ∧ 4 = 4)) := ⟨img_word _, by decide +kernel, by decide +kernel, by decide +kernel⟩

/-- The premises of ResetsAndWhatTheyKeep hold together. -/
theorem premises_ResetsAndWhatTheyKeep :
    ((bigS.power.resetAt = some 5) ∧ (5 + 13000000 ≤ bigS.clock) ∧ (bigS.test.write = none)) := by decide +kernel

/-- The premises of BootReachesFirmwareReady hold together, part 1. -/
theorem premises_BootReachesFirmwareReady_1 :
    ((w5_27.request 1 3073 = some [3#8, 0#8, 0#8, 0#8, 2#8, 0#8, 2#8, 0#8, 7#8, 8#8]) ∧ (w5_27.hostDownload = true) ∧ ((if bitsOf (u8 [3#8, 0#8, 0#8, 0#8, 2#8, 0#8, 2#8, 0#8, 7#8, 8#8] 6) 0 1 = 1 then some [] else w5_27.power.download) = some [1#8]) ∧ (bitsOf (u8 [3#8, 0#8, 0#8, 0#8, 2#8, 0#8, 2#8, 0#8, 7#8, 8#8] 6) 1 1 = 1) ∧ (imagePasses (placeChunk [1#8] (u32 [3#8, 0#8, 0#8, 0#8, 2#8, 0#8, 2#8, 0#8, 7#8, 8#8] 0) (List.drop 8 [3#8, 0#8, 0#8, 0#8, 2#8, 0#8, 2#8, 0#8, 7#8, 8#8])) = false)) ∧
    ((w5_37.power.flashMb = some (1, true)) ∧ (w5_37.power.flash = some [1#8, 2#8]) ∧ ((w5_37.mbox 1).phase = MbPhase.running)) ∧
    ((w5_31.request 1 3075 = some [3#8, 0#8, 0#8, 0#8, 2#8, 0#8, 1#8, 0#8, 7#8, 8#8]) ∧ (w5_31.power.shutdown = none) ∧ ((if bitsOf (u8 [3#8, 0#8, 0#8, 0#8, 2#8, 0#8, 1#8, 0#8, 7#8, 8#8] 6) 0 1 = 1 then some [] else w5_31.power.flash) = some []) ∧ (w5_31.get Reg.FW_STATUS_SLOT = 0)) ∧
    ((w5_21.get Reg.FW_STATUS_STATE = 1) ∧ (w5_21.get Reg.FW_STATUS_BOOT_SEL = 0) ∧ (w5_21.flashBoot = none)) ∧
    (w5_18.power.rstHeld = true) := ⟨by decide +kernel, by decide +kernel, by decide +kernel, by decide +kernel, by decide +kernel⟩

/-- The premises of BootReachesFirmwareReady hold together, part 2. -/
theorem premises_BootReachesFirmwareReady_2 :
    (w5_29.bootImage = some (0, false, bytes 4 1263684943 ++ bytes 4 77)) ∧
    ((w5_40.power.flashMb = some (1, false)) ∧ (w5_40.power.flash = some [1#8, 2#8]) ∧ ((w5_40.mbox 1).phase = MbPhase.running)) ∧
    ((w5_33.request 1 3075 = some [3#8, 0#8, 0#8, 0#8, 2#8, 0#8, 1#8, 0#8, 7#8, 8#8]) ∧ (w5_33.power.shutdown = none) ∧ ((if bitsOf (u8 [3#8, 0#8, 0#8, 0#8, 2#8, 0#8, 1#8, 0#8, 7#8, 8#8] 6) 0 1 = 1 then some [] else w5_33.power.flash) = some []) ∧ (w5_33.get Reg.FW_STATUS_SLOT ≠ 0)) ∧
    ((w5_23.request 1 3073 = some [0#8, 0#8, 0#8, 0#8, 2#8, 0#8, 1#8, 0#8, 7#8, 8#8]) ∧ (w5_23.hostDownload = true) ∧ ((if bitsOf (u8 [0#8, 0#8, 0#8, 0#8, 2#8, 0#8, 1#8, 0#8, 7#8, 8#8] 6) 0 1 = 1 then some [] else w5_23.power.download) = some []) ∧ (bitsOf (u8 [0#8, 0#8, 0#8, 0#8, 2#8, 0#8, 1#8, 0#8, 7#8, 8#8] 6) 1 1 = 0)) := ⟨by decide +kernel, by decide +kernel, by decide +kernel, by decide +kernel⟩

/-- The premises of PowerLoopsStepTowardTheirTargets hold together. -/
theorem premises_PowerLoopsStepTowardTheirTargets :
    ((c05_48.flag Reg.PWR_CFG_AVS_EN = true) ∧ (c05_48.power.avsStopped = false) ∧ (c05_48.power.pmbRetry = none) ∧ (clampTo (c05_48.bounds 4 0) ↑703 = ↑703) ∧ (703 < 1024) ∧ (c05_48.rail 0 < 703 ∧ tget 0 c05_48.power.avsLast 0 + 13000000 ≤ c05_48.clock ∨ 703 < c05_48.rail 0 ∧ tget 0 c05_48.power.avsLast 0 + 130000000 ≤ c05_48.clock)) ∧
    ((w5_60.power.lastThrottle + 13000000 ≤ w5_60.clock) ∧ (w5_60.get Reg.PWR_STATUS_FRACTION ≤ 64) ∧ (63 ≤ 64) ∧ (clampTo (w5_60.bounds 5 0) (if 1000 * ↑(w5_60.get Reg.PWR_CFG_THROTTLE_C) < w5_60.power.hottest then max 32 (w5_60.power.throttleTarget - 1) else if w5_60.power.hottest < 1000 * ↑(w5_60.get Reg.PWR_CFG_THROTTLE_C) - 2000 then min 64 (w5_60.power.throttleTarget + 1) else w5_60.power.throttleTarget) = ↑63) ∧ (w5_60.get Reg.PWR_STATUS_FRACTION = 64) ∧ (63 < 64)) ∧
    ((w5_68.power.hotSince = some 3) ∧ (3 + 13000000 ≤ w5_68.clock) ∧ (w5_68.flag Reg.PWR_STATUS_SHUTDOWN = false)) ∧
    ((w5_50.power.lastPoll + 130000000 ≤ w5_50.clock) ∧ ((true || false) = true)) ∧
    (w5_56.power.lastSample + 1300000 ≤ w5_56.clock) := ⟨by decide +kernel, by decide +kernel, by decide +kernel, by decide +kernel, by decide +kernel⟩

/-- The premises of ResetAndShutdownCommandsRun hold together. -/
theorem premises_ResetAndShutdownCommandsRun :
    ((w5_72.request 1 353 = some []) ∧ (w5_72.powerBusy = false) ∧ (w5_72.power.shutdown = none)) ∧
    ((sSd.power.shutdown = some { mb := 1, t0 := 3 : Shutdown }) ∧ ({ mb := 1, t0 := 3 : Shutdown }.gatedAt = none) ∧ (sSd.noQuench = true)) ∧
    ((sSd2.power.shutdown = some { mb := 1, t0 := 3, gatedAt := some 9 : Shutdown }) ∧ ({ mb := 1, t0 := 3, gatedAt := some 9 : Shutdown }.gatedAt = some 9) ∧ ((sSd2.mbox { mb := 1, t0 := 3, gatedAt := some 9 : Shutdown }.mb).phase = MbPhase.running)) ∧
    ((w5_70.request 1 352 = some []) ∧ (w5_70.powerBusy = false)) ∧
    ((w5_74.request 1 353 = some []) ∧ (w5_74.powerBusy = true ∨ w5_74.power.shutdown.isSome = true)) := ⟨by decide +kernel, by decide +kernel, by decide +kernel, by decide +kernel, by decide +kernel⟩

/-- The premises of RingIsTakenCheckedAndServed hold together. -/
theorem premises_RingIsTakenCheckedAndServed :
    (((sRing.mbox 1).phase = MbPhase.idle) ∧ (sRing.serves 1 = true) ∧ ((sRing.mbox 1).refusal = none)) ∧
    (((sRing2.mbox 1).phase = MbPhase.idle) ∧ (sRing2.serves 1 = true) ∧ ((sRing2.mbox 1).refusal = some (err cUNSUPPORTED))) ∧
    (((State.reset.mbox 7).phase = MbPhase.idle) ∧ (State.reset.serves 7 = false)) ∧
    ((w5_85.mbox 1).phase ≠ MbPhase.idle) := ⟨by decide +kernel, by decide +kernel, by decide +kernel, by decide +kernel⟩

/-- The premises of TransactionsOpenCommitAndEnd hold together, part 1. -/
theorem premises_TransactionsOpenCommitAndEnd_1 :
    ((w5_93.request 1 514 = some []) ∧ ((w5_93.mbox 1).txn.state = 1) ∧ (w5_93.commitBusy (w5_93.mbox 1).txn.staged = false) ∧ ((w5_93.mbox 1).txn.staged ≠ []) ∧ (firstFailure (w5_93.mbox 1).txn.staged w5_93 (w5_93.afterCommit (w5_93.mbox 1).txn.staged) = some (2, 1))) ∧
    ((w5_87.request 1 513 = some []) ∧ ((w5_87.mbox 1).txn.state ≠ 1) ∧ (w5_87.get Reg.FW_STATUS_STATE ≠ 4)) ∧
    (((w5_101.mbox 1).txn.state = 2) ∧ ((w5_101.mbox 1).txn.boundary = some (9#32, 8, 7)) ∧ ((w5_101.mbox 1).phase = MbPhase.running)) ∧
    (((w5_97.mbox 2).txn.state = 1) ∧ ((w5_97.mbox 2).phase = MbPhase.idle ∨ (w5_97.mbox 2).opcode ≠ 514) ∧ ((w5_97.mbox 2).txn.lastCmd + 130000000000 ≤ w5_97.clock)) ∧
    ((w5_95.request 1 515 = some []) ∧ ((w5_95.mbox 1).txn.state = 1)) := ⟨by decide +kernel, by decide +kernel, by decide +kernel, by decide +kernel, by decide +kernel⟩

/-- The premises of TransactionsOpenCommitAndEnd hold together, part 2. -/
theorem premises_TransactionsOpenCommitAndEnd_2 :
    (1 ∈ w5_99.commitsDue) ∧
    (w5_103.get Reg.FW_STATUS_STATE = 2 ∨ w5_103.get Reg.FW_STATUS_STATE = 4) ∧
    ((w5_89.request 1 514 = some []) ∧ ((w5_89.mbox 1).txn.state = 1) ∧ (w5_89.commitBusy (w5_89.mbox 1).txn.staged = false) ∧ ((w5_89.mbox 1).txn.staged = [])) ∧
    ((w5_91.request 1 514 = some []) ∧ ((w5_91.mbox 1).txn.state = 1) ∧ (w5_91.commitBusy (w5_91.mbox 1).txn.staged = false) ∧ ((w5_91.mbox 1).txn.staged ≠ []) ∧ (firstFailure (w5_91.mbox 1).txn.staged w5_91 (w5_91.afterCommit (w5_91.mbox 1).txn.staged) = none)) := ⟨by decide +kernel, by decide +kernel, by decide +kernel, by decide +kernel⟩

/-- The premises of ScrubsFlipsAndWindowReads hold together, part 1. -/
theorem premises_ScrubsFlipsAndWindowReads_1 :
    (¬Clean 1 (130 / 128 / 32768) (4 * (130 / 128 % 32768) + 130 / 32 % 4) c10_65) ∧
    ((5 ∉ [0, 8, 9, 12, 13]) ∧ (w6_8.pass 5 = some q2) ∧ (q2.left = [(0, 7, 5)]) ∧ (0 < 5) ∧ (w6_8.instPowered 5 0 = true) ∧ (w6_8.wordBits 5 0 7 = 1) ∧ (w6_8.wordFlag 5 0 7 = true) ∧ (w6_8.wordFlag 5 0 7 = true → memFlagged 5 = true) ∧ (w6_8.flag Reg.FLIP_STATUS_ARMED = false)) ∧
    ((5 ≠ 0) ∧ (5 ≠ 13) ∧ (w6_10.sweep 5 = { word := 5, period := 100 : Sweep }) ∧ ({ word := 5, period := 100 : Sweep }.period ≠ 0) ∧ ({ word := 5, period := 100 : Sweep }.inst < memInstances 5) ∧ (w6_10.instPowered 5 { word := 5, period := 100 : Sweep }.inst = true) ∧ ({ word := 5, period := 100 : Sweep }.word + 1 < memWords 5 { word := 5, period := 100 : Sweep }.inst)) ∧
    ((w6_17.request 1 2308 = some ([5#8, 1#8, 0#8, 0#8, 71#8, 0#8] ++ bytes 12 0)) ∧ (w6_17.get Reg.TEST_STATUS_LEVEL ≠ 0) ∧ (u8 ([5#8, 1#8, 0#8, 0#8, 71#8, 0#8] ++ bytes 12 0) 1 = 1) ∧ (u8 ([5#8, 1#8, 0#8, 0#8, 71#8, 0#8] ++ bytes 12 0) 0 < 14) ∧ (u16 ([5#8, 1#8, 0#8, 0#8, 71#8, 0#8] ++ bytes 12 0) 2 < memInstances (u8 ([5#8, 1#8, 0#8, 0#8, 71#8, 0#8] ++ bytes 12 0) 0)) ∧ (u16 ([5#8, 1#8, 0#8, 0#8, 71#8, 0#8] ++ bytes 12 0) 4 < memCodeBits (u8 ([5#8, 1#8, 0#8, 0#8, 71#8, 0#8] ++ bytes 12 0) 0) (u16 ([5#8, 1#8, 0#8, 0#8, 71#8, 0#8] ++ bytes 12 0) 2)) ∧ (w6_17.flag Reg.FLIP_STATUS_ARMED = false)) ∧
    ((0 < 30) ∧ (130 % 32 + 30 ≤ 32) ∧ (130 / 128 < 1310720) ∧ (c10_65.blocksOff = false) ∧ (130 / 128 / 32768 < c10_65.banks)) := ⟨by unfold Clean; decide +kernel, by decide +kernel, by decide +kernel, by decide +kernel, by decide +kernel⟩

/-- The premises of ScrubsFlipsAndWindowReads hold together, part 2. -/
theorem premises_ScrubsFlipsAndWindowReads_2 :
    ((w6_12.sweep 5 = { word := 5, period := 100 : Sweep }) ∧ ({ word := 5, period := 100 : Sweep }.late = false) ∧ (w6_12.sweepDone 5 = false) ∧ ({ word := 5, period := 100 : Sweep }.start + 13000000 * { word := 5, period := 100 : Sweep }.period ≤ w6_12.clock)) ∧
    ((w6_15.pass 5 = some q3) ∧ (q3.left = []) ∧ ((w6_15.mbox q3.mb).phase = MbPhase.running)) ∧
    ((w6_3.request 1 2305 = some ([5#8, 0#8, 0#8, 0#8] ++ bytes 4 524287 ++ bytes 4 1)) ∧ (scrubRanges (u8 ([5#8, 0#8, 0#8, 0#8] ++ bytes 4 524287 ++ bytes 4 1) 0) (u16 ([5#8, 0#8, 0#8, 0#8] ++ bytes 4 524287 ++ bytes 4 1) 2) (u32 ([5#8, 0#8, 0#8, 0#8] ++ bytes 4 524287 ++ bytes 4 1) 4) (u32 ([5#8, 0#8, 0#8, 0#8] ++ bytes 4 524287 ++ bytes 4 1) 8) = some [(0, 524287, 1)]) ∧ (w6_3.pass (u8 ([5#8, 0#8, 0#8, 0#8] ++ bytes 4 524287 ++ bytes 4 1) 0) = none)) ∧
    ((w6_19.request 1 2308 = some ([5#8, 0#8, 0#8, 0#8, 71#8, 0#8] ++ bytes 12 0)) ∧ (w6_19.get Reg.TEST_STATUS_LEVEL ≠ 0) ∧ (u8 ([5#8, 0#8, 0#8, 0#8, 71#8, 0#8] ++ bytes 12 0) 1 = 0)) ∧
    ((w10_62.blocksOff = false) ∧ (130 / 128 / 32768 < w10_62.banks) ∧ (w10_62.wordBits 1 (130 / 128 / 32768) (4 * (130 / 128 % 32768) + 130 / 32 % 4) < 2) ∧ (w10_62.wordFlag 1 (130 / 128 / 32768) (4 * (130 / 128 % 32768) + 130 / 32 % 4) = false)) := ⟨by decide +kernel, by decide +kernel, by decide +kernel, by decide +kernel, by decide +kernel⟩

/-- The premises of ModeChangeQuenchAndClampSteps hold together. -/
theorem premises_ModeChangeQuenchAndClampSteps :
    ((quenchable 3 31 = true) ∧ (c06_36.qState 3 31 = 1) ∧ (c06_36.quenchOf 3 31 ≠ none) ∧ (3 = 2 → 31 ∉ c06_36.eng.roleNew) ∧ (c06_36.drained 3 31 = true) ∧ (c06_36.quenchOf 3 31 = some { start := 5, timeout := 1000 : Quench }) ∧ ({ start := 5, timeout := 1000 : Quench }.start + { start := 5, timeout := 1000 : Quench }.timeout ≤ c06_36.clock) ∧ (31 < 32)) ∧
    ((w6_27.sys.change = some mc1) ∧ (mc1.gatedAt = none) ∧ (w6_27.noQuench = true) ∧ (w6_27.mode ≠ 3) ∧ (w6_27.halted = false)) ∧
    ((w6_31.sys.change = some mc2) ∧ (mc2.gatedAt = some 9) ∧ (mc2.step5 = some 50) ∧ (w6_31.modeGoal = true ∨ (50 + 13000000 * if w6_31.mode = 3 then 25 else 150) ≤ w6_31.clock)) ∧
    ((w6_41.get Reg.LN_STATUS_RX_STATE 15 = 3) ∧ (w6_41.tracked 15 = true)) ∧
    ((tget none w6_45.sys.clamps (64 * 2 + 32) = some { dir := 1, inBounds := some 4 : Clamp }) ∧ (4 + 13000000 ≤ w6_45.clock)) ∧
    ((w6_29.sys.change = some mc1) ∧ (w6_29.noQuench = true) ∧ (w6_29.mode = 3)) ∧
    ((quenchable 5 1023 = true) ∧ (c06_39.qState 5 1023 = 1) ∧ (c06_39.quenchOf 5 1023 ≠ none) ∧ (5 = 2 → 1023 ∉ c06_39.eng.roleNew) ∧ (c06_39.drained 5 1023 = true) ∧ (c06_39.quenchOf 5 1023 = some { start := 5, timeout := 1000 : Quench }) ∧ ({ start := 5, timeout := 1000 : Quench }.start + { start := 5, timeout := 1000 : Quench }.timeout ≤ c06_39.clock)) := ⟨by decide +kernel, by decide +kernel, by decide +kernel, by decide +kernel, by decide +kernel, by decide +kernel, by decide +kernel⟩

/-- The premises of EngineControlDispatchAndState hold together, part 1. -/
theorem premises_EngineControlDispatchAndState_1 :
    (∀ i < u16 (bytes 4 524286 ++ [2#8, 0#8]) 4, Clean 5 0 (u32 (bytes 4 524286 ++ [2#8, 0#8]) 0 + i) w6_70) ∧
    ((w10_24.request 1 1589 = some [1#8, 1#8, 0#8, 0#8]) ∧ (w10_24.blocksOff = false) ∧ (u8 [1#8, 1#8, 0#8, 0#8] 0 < 32) ∧ (u8 [1#8, 1#8, 0#8, 0#8] 1 ≠ 0) ∧ (∀ j < 32, w10_24.flag Reg.LAT_STATUS_HELD j = false) ∧ (∃ j ∈ w10_24.latsIn 0, j ≠ u8 [1#8, 1#8, 0#8, 0#8] 0) ∧ (fwNeed w10_24.mode ≤ (List.filter (fun j => decide (j ≠ u8 [1#8, 1#8, 0#8, 0#8] 0)) (w10_24.latsIn 1)).length) ∧ (w10_24.qState 2 (u8 [1#8, 1#8, 0#8, 0#8] 0) = 0)) ∧
    ((w6_66.request 1 1589 = some [1#8, 0#8, 0#8, 0#8]) ∧ (w6_66.blocksOff = false) ∧ (u8 [1#8, 0#8, 0#8, 0#8] 1 = 0) ∧ (u8 [1#8, 0#8, 0#8, 0#8] 0 < 32) ∧ (w6_66.flag Reg.LAT_STATUS_HELD (u8 [1#8, 0#8, 0#8, 0#8] 0) = true) ∧ (w6_66.flag Reg.LAT_CTRL_EN (u8 [1#8, 0#8, 0#8, 0#8] 0) = true) ∧ (w6_66.qState 2 (u8 [1#8, 0#8, 0#8, 0#8] 0) = 2)) ∧
    ((w10_15.eng.taskQ = [9, 8]) ∧ (¬(w10_15.eng.dispCycle = w10_15.cycle + 1 ∧ 4 ≤ w10_15.eng.dispatched)) ∧ (w10_15.pkt 9 = some pk) ∧ (w10_15.pickThread pk.gen = some (0, 0)) ∧ ((w10_15.readDesc 9).1 = false) ∧ (w10_15.wordBits 6 (0 / 16) (actProgram pk.action) < 2) ∧ (w10_15.wordFlag 6 (0 / 16) (actProgram pk.action) = false) ∧ (bitsOf (imgEntry (w10_15.latImage (0 / 16)) (actProgram pk.action)) 12 1 = 1)) ∧
    ((c06_60.request 1 1584 = some [0#8, 0#8, 0#8, 0#8, 2#8, 0#8, 3#8, 0#8, 7#8, 8#8]) ∧ (c06_60.blocksOff = false) ∧ (c06_60.flag Reg.ENG_STATUS_SWITCHING = false) ∧ (u8 [0#8, 0#8, 0#8, 0#8, 2#8, 0#8, 3#8, 0#8, 7#8, 8#8] 6 = 2 ∨ u8 [0#8, 0#8, 0#8, 0#8, 2#8, 0#8, 3#8, 0#8, 7#8, 8#8] 6 = 3) ∧ (u32 [0#8, 0#8, 0#8, 0#8, 2#8, 0#8, 3#8, 0#8, 7#8, 8#8] 0 + u16 [0#8, 0#8, 0#8, 0#8, 2#8, 0#8, 3#8, 0#8, 7#8, 8#8] 4 ≤ 32784) ∧ (u8 [0#8, 0#8, 0#8, 0#8, 2#8, 0#8, 3#8, 0#8, 7#8, 8#8] 6 = 2 → c06_60.eng.staging ≠ none ∧ c06_60.eng.passed = false) ∧ (putAt [] 0 [7#8, 8#8] = putAt (if u8 [0#8, 0#8, 0#8, 0#8, 2#8, 0#8, 3#8, 0#8, 7#8, 8#8] 6 = 3 then [] else c06_60.eng.staging.getD []) (u32 [0#8, 0#8, 0#8, 0#8, 2#8, 0#8, 3#8, 0#8, 7#8, 8#8] 0) (List.drop 8 [0#8, 0#8, 0#8, 0#8, 2#8, 0#8, 3#8, 0#8, 7#8, 8#8]))) ∧
    ((w6_55.request 1 1584 = some [0#8, 0#8, 0#8, 0#8, 2#8, 0#8, 1#8, 0#8, 7#8, 8#8]) ∧ (w6_55.blocksOff = false) ∧ (w6_55.flag Reg.ENG_STATUS_SWITCHING = false) ∧ (u8 [0#8, 0#8, 0#8, 0#8, 2#8, 0#8, 1#8, 0#8, 7#8, 8#8] 6 = 0 ∨ u8 [0#8, 0#8, 0#8, 0#8, 2#8, 0#8, 1#8, 0#8, 7#8, 8#8] 6 = 1) ∧ (u32 [0#8, 0#8, 0#8, 0#8, 2#8, 0#8, 1#8, 0#8, 7#8, 8#8] 0 + u16 [0#8, 0#8, 0#8, 0#8, 2#8, 0#8, 1#8, 0#8, 7#8, 8#8] 4 ≤ 32784) ∧ (u8 [0#8, 0#8, 0#8, 0#8, 2#8, 0#8, 1#8, 0#8, 7#8, 8#8] 6 = 0 → w6_55.eng.staging ≠ none ∧ w6_55.eng.passed = false)) ∧
    ((w6_50.eng.ended = [] ++ [((9, []) : Nat × List Emit), (8, [])]) ∧ (w6_50.pkt ((9, []) : Nat × List Emit).1 = some (pk true)) ∧ ((pk true).turnout = 4) ∧ ((pk true).num = (w6_50.domain 4).left) ∧ (∀ y ∈ ([] : List (Nat × List Emit)), ∀ (q : Pkt), w6_50.pkt y.1 = some q → ¬(q.turnout = 4 ∧ q.num = (w6_50.domain 4).left))) := ⟨by unfold Clean; decide +kernel, by decide +kernel, by decide +kernel, by decide +kernel, by decide +kernel, by decide +kernel, by decide +kernel⟩

/-- The premises of EngineControlDispatchAndState hold together, part 2. -/
theorem premises_EngineControlDispatchAndState_2 :
    ((w10_17.unconverted = [0, 1]) ∧ (w10_17.latTasks 0 = []) ∧ ([1] = [] → w10_17.oldLeft = false) ∧ (max (tget 0 w10_17.eng.latLast 0) (tget 0 w10_17.eng.convFrom 0) + 1024 ≤ w10_17.latNow 0)) ∧
    ((w6_70.request 1 1590 = some (bytes 4 524286 ++ [2#8, 0#8])) ∧ (w6_70.blocksOff = false) ∧ (u32 (bytes 4 524286 ++ [2#8, 0#8]) 0 + u16 (bytes 4 524286 ++ [2#8, 0#8]) 4 ≤ 524288)) ∧
    ((w6_68.eng.holdMb = some (1, 1)) ∧ (w6_68.qState 2 1 = 2) ∧ ((w6_68.mbox 1).phase = MbPhase.running)) ∧
    ((w6_72.request 1 1591 = some (bytes 4 524286 ++ [2#8, 0#8, 0#8, 0#8] ++ bytes 16 293836136711889035520)) ∧ (w6_72.blocksOff = false) ∧ (u32 (bytes 4 524286 ++ [2#8, 0#8, 0#8, 0#8] ++ bytes 16 293836136711889035520) 0 + u16 (bytes 4 524286 ++ [2#8, 0#8, 0#8, 0#8] ++ bytes 16 293836136711889035520) 4 ≤ 524288)) ∧
    ((w6_64.request 1 1589 = some [1#8, 0#8, 0#8, 0#8]) ∧ (w6_64.blocksOff = false) ∧ (w6_64.flag Reg.LAT_STATUS_HELD (u8 [1#8, 0#8, 0#8, 0#8] 0) = false)) ∧
    ((w10_26.request 1 1589 = some [1#8, 1#8, 0#8, 0#8]) ∧ (w10_26.blocksOff = false) ∧ (∀ j < 32, w10_26.flag Reg.LAT_STATUS_HELD j = false) ∧ (∃ j ∈ w10_26.latsIn 0, j ≠ u8 [1#8, 1#8, 0#8, 0#8] 0) ∧ (fwNeed w10_26.mode ≤ (List.filter (fun j => decide (j ≠ u8 [1#8, 1#8, 0#8, 0#8] 0)) (w10_26.latsIn 1)).length) ∧ (w10_26.qState 2 (u8 [1#8, 1#8, 0#8, 0#8] 0) = 2)) := ⟨by decide +kernel, by decide +kernel, by decide +kernel, by decide +kernel, by decide +kernel, by decide +kernel⟩

/-- The premises of ConvertersCalibrate hold together. -/
theorem premises_ConvertersCalibrate :
    (((w7_11.adc 1).step = some { t0 := 5, pos := 7 : CalStep }) ∧ ({ t0 := 5, pos := 7 : CalStep }.staged = none) ∧ ({ t0 := 5, pos := 7 : CalStep }.t0 + 12632100 ≤ w7_11.clock) ∧ (stepFailure { : Residual } { : SliceCal } = none) ∧ ({ t0 := 5, pos := 7 : CalStep }.t0 + 12892100 ≤ w7_11.clock)) ∧
    ((w7_19.conv.fg = some fg1) ∧ (fg1.start + 520000000 ≤ w7_19.clock) ∧ (fg1.mb = some 1) ∧ ((w7_19.mbox 1).phase = MbPhase.running)) ∧
    ((w7_3.canStep 3 = true) ∧ (w7_3.flag Reg.ADC_CAL_CFG_BG_EN 3 = true) ∧ ((w7_3.adc 3).rotLeft = none) ∧ ((w7_3.adc 3).lastT0 + 13000000 * w7_3.get Reg.ADC_CAL_CFG_INTERVAL_MS 3 ≤ w7_3.clock)) ∧
    ((w7_15.request 1 2818 = some [9#8, 2#8, 0#8, 0#8]) ∧ (w7_15.conv.fg = none) ∧ (∀ a ∈ maskList (u8 [9#8, 2#8, 0#8, 0#8] 0) 4, w7_15.get Reg.ADC_STATUS_STATE a = 3) ∧ (∀ d ∈ maskList (u8 [9#8, 2#8, 0#8, 0#8] 1) 4, w7_15.get Reg.DAC_STATUS_STATE d = 3)) ∧
    ((w7_5.canStep 3 = true) ∧ ((w7_5.adc 3).rotLeft ≠ none) ∧ ((w7_5.adc 3).lastT0 + 13000000 ≤ w7_5.clock)) ∧
    ((w7_13.request 1 2817 = some [3#8, 0#8, 0#8, 0#8]) ∧ (w7_13.changing = false) ∧ (∀ a ∈ maskList (u8 [3#8, 0#8, 0#8, 0#8] 0) 4, w7_13.get Reg.ADC_STATUS_STATE a = 2 ∧ w7_13.flag Reg.ADC_STATUS_SPARE_LOST a = false ∧ w7_13.flag Reg.ADC_STATUS_REQ_QUEUED a = false)) ∧
    (((w7_9.adc 1).step = some { t0 := 5, pos := 7 : CalStep }) ∧ ({ t0 := 5, pos := 7 : CalStep }.t0 + 12632100 ≤ w7_9.clock) ∧ (stepFailure { offset := 101 : Residual } { trim := -20, gain := 16385 : SliceCal } = some 1) ∧ (w7_9.flag Reg.ADC_STATUS_REQ_QUEUED 1 = false)) := ⟨by decide +kernel, by decide +kernel, by decide +kernel, by decide +kernel, by decide +kernel, by decide +kernel, by decide +kernel⟩

/-- The premises of PinsAndModuleBuses hold together. -/
theorem premises_PinsAndModuleBuses :
    ((c07_39.opt.i2c = some ox) ∧ ((c07_39.mbox ox.mb).phase = MbPhase.running) ∧ (1 = 1 ∨ 1 = 2)) ∧
    ((w7_34.request 1 309 = some [80#8, 0#8, 2#8, 0#8, 3#8, 0#8, 0#8, 0#8, 7#8, 8#8]) ∧ (w7_34.opt.i2c = none) ∧ (u16 [80#8, 0#8, 2#8, 0#8, 3#8, 0#8, 0#8, 0#8, 7#8, 8#8] 2 ≠ 0 ∨ u16 [80#8, 0#8, 2#8, 0#8, 3#8, 0#8, 0#8, 0#8, 7#8, 8#8] 4 ≠ 0)) ∧
    ((w7_32.opt.spi = some ox) ∧ ((w7_32.mbox ox.mb).phase = MbPhase.running)) ∧
    ((w7_29.request 1 308 = some [2#8, 0#8, 3#8, 0#8, 7#8, 8#8]) ∧ (w7_29.opt.spi = none)) ∧
    ((w7_27.request 1 305 = some [1#8, 128#8, 1#8, 0#8]) ∧ (∀ k ∈ maskList (u16 [1#8, 128#8, 1#8, 0#8] 0) 16, w7_27.get Reg.GPIO_CFG_MODE k = 1 ∧ k ∉ w7_27.pinOwners)) ∧
    ((c07_41.opt.i2c = some ox) ∧ ((c07_41.mbox ox.mb).phase = MbPhase.running) ∧ (3 = 3 ∨ 3 = 4)) := ⟨by decide +kernel, by decide +kernel, by decide +kernel, by decide +kernel, by decide +kernel, by decide +kernel⟩

/-- The premises of FurrowsAcquireAndLoseLock hold together, part 1. -/
theorem premises_FurrowsAcquireAndLoseLock_1 :
    ((w10_35.request 1 771 = some []) ∧ (w10_35.blocksOff = false) ∧ (w10_35.mode ≠ 3) ∧ (w10_35.flag Reg.RX_STATUS_LINE_LOS = false) ∧ (w10_35.rx.step = 0) ∧ (∀ f < 32, w10_35.flag Reg.FR_STATUS_ACQ f = false) ∧ (w10_35.mode ≠ 1)) ∧
    ((w7_69.mode = 1) ∧ (w7_69.flag Reg.RX_STATUS_LINE_LOS = false) ∧ (w7_69.flag Reg.FR_STATUS_LOS 4 = false) ∧ ((w7_69.fur 4).step ≠ 0) ∧ ((w7_69.fur 4).fast = false) ∧ ((w7_69.fur 4).t0 + 13000000 * w7_69.get Reg.RX_ACQ_CFG_ACQ_TIMEOUT_MS ≤ w7_69.clock)) ∧
    ((w7_71.mode ≠ 1) ∧ (w7_71.flag Reg.RX_STATUS_LINE_LOS = false) ∧ (w7_71.rx.step ≠ 0) ∧ (w7_71.rx.full = true) ∧ (w7_71.rx.t0 + 13000000 * w7_71.get Reg.RX_ACQ_CFG_ACQ_TIMEOUT_MS ≤ w7_71.clock)) ∧
    ((w7_46.mode ≠ 1) ∧ (w7_46.rx.step = 2) ∧ (w7_46.cdInWindow 100 = true) ∧ ((w7_46.cdFound none 100).2 = true)) ∧
    ((w7_52.mode = 1) ∧ ((w7_52.fur 31).step = 2) ∧ (w7_52.cdInWindow 100 = true) ∧ ((w7_52.cdFound (some 31) 100).2 = true)) ∧
    (((w7_82.fur 4).step ≠ 0) ∧ ((w7_82.fur 4).fast = true) ∧ ((w7_82.fur 4).lossAt + 260000000 ≤ w7_82.clock) ∧ (w7_82.mode = 1)) ∧
    ((w7_88.flag Reg.FR_STATUS_LOS = true) ∧ (0 ∈ w7_88.lineFurrows) ∧ (w7_88.flag Reg.RX_STATUS_LINE_LOS = false) ∧ (w7_88.lineHeld = false)) := ⟨by decide +kernel, by decide +kernel, by decide +kernel, by decide +kernel, by decide +kernel, by decide +kernel, by decide +kernel⟩

/-- The premises of FurrowsAcquireAndLoseLock hold together, part 2. -/
theorem premises_FurrowsAcquireAndLoseLock_2 :
    ((3 ≤ (w7_61.fur 31).step) ∧ ((w7_61.fur 31).step ≤ 5) ∧ ((w7_61.fur 31).repeated = false) ∧ (((w7_61.fur 31).stepAt + if (w7_61.fur 31).step = 4 then 130000000 else 65000000) ≤ w7_61.clock)) ∧
    ((w10_32.flag Reg.FR_STATUS_LOS = false) ∧ (w10_32.flag Reg.FR_RX_CTRL_EN = true) ∧ (0 ∈ w10_32.processed)) ∧
    (((w7_103.fur 3).pending = some ar) ∧ (ar.confirmed = false) ∧ (8 ≤ (w7_103.frm.mfn + 2 ^ 32 - ar.sentMfn) % 2 ^ 32)) ∧
    ((w10_39.request 1 1028 = some [4#8]) ∧ (w10_39.blocksOff = false) ∧ (∀ f ∈ furrowList (u8 [4#8] 0), w10_39.flag Reg.FR_STATUS_ACQ f = false ∧ w10_39.flag Reg.FR_RX_CTRL_EN f = true ∧ w10_39.flag Reg.FR_STATUS_LOS f = false ∧ w10_39.flag Reg.FR_STATUS_CAR_LOCK f = true)) ∧
    ((w7_42.mode ≠ 1) ∧ (w7_42.rx.step = 1)) ∧
    ((1 ≠ 0) ∧ (w7_73.flag Reg.FR_STATUS_CAR_LOCK 4 = true)) ∧
    (((c07_65.fur 31).step = 5) ∧ (c07_65.freqInRange 0 = true)) := ⟨by decide +kernel, by decide +kernel, by decide +kernel, by decide +kernel, by decide +kernel, by decide +kernel, by decide +kernel⟩

/-- The premises of FurrowsAcquireAndLoseLock hold together, part 3. -/
theorem premises_FurrowsAcquireAndLoseLock_3 :
    ((w7_58.fur 31).step = 4) ∧
    (w7_91.flag Reg.FR_STATUS_CAR_LOCK 31 = true) ∧
    ((w7_50.mode = 1) ∧ ((w7_50.fur 31).step = 1)) ∧
    ((c07_55.fur 31).step = 3) ∧
    (if 0 = 32 then w7_95.burstAgcFrozen = false else (w7_95.fur 0).agcAt + 13000 ≤ w7_95.clock) ∧
    ((w7_44.mode ≠ 1) ∧ (w7_44.rx.step = 2) ∧ (w7_44.cdInWindow 3000 = true) ∧ ((w7_44.cdFound none 3000).2 = false)) ∧
    (((w7_84.fur 0).step ≠ 0) ∧ ((w7_84.fur 0).fast = true) ∧ ((w7_84.fur 0).lossAt + 260000000 ≤ w7_84.clock) ∧ (w7_84.mode ≠ 1)) := ⟨by decide +kernel, by decide +kernel, by decide +kernel, by decide +kernel, by decide +kernel, by decide +kernel, by decide +kernel⟩

/-- The premises of LineFramesSquelchAndLevelMeasurement hold together, part 1. -/
theorem premises_LineFramesSquelchAndLevelMeasurement_1 :
    ((w7_132.tx.measure = some lm2) ∧ (lm2.leaf = 7) ∧ ((w7_132.mbox lm2.mb).phase = MbPhase.running) ∧ (lm2.used < lm2.n) ∧ (lm2.start + 13000000000 ≤ w7_132.clock)) ∧
    ((w7_124.request 1 785 = some [1#8, 0#8, 0#8, 0#8]) ∧ (w7_124.blocksOff = false) ∧ (w7_124.mode ≠ 3) ∧ (w7_124.sys.gated = false) ∧ (u8 [1#8, 0#8, 0#8, 0#8] 0 = 1)) ∧
    ((w7_126.request 1 1291 = some [7#8, 0#8, 5#8, 0#8]) ∧ (w7_126.tx.measure = none) ∧ (w7_126.mode = 1) ∧ (w7_126.get Reg.LF_STATUS_STATE (u16 [7#8, 0#8, 5#8, 0#8] 0) = 4) ∧ (w7_126.flag Reg.LF_PROFILE_BURST_MOD (u16 [7#8, 0#8, 5#8, 0#8] 0) = true)) ∧
    ((w7_116.frm.started = true) ∧ (w7_116.frm.fn = 24) ∧ (w7_116.frm.lastFrame + 65000 - 6 ≤ w7_116.clock) ∧ (w7_116.frm.lastMf + 1625000 - 162 ≤ w7_116.clock)) ∧
    ((w7_114.frm.started = true) ∧ (w7_114.frm.lastFrame + 65000 - 6 ≤ w7_114.clock) ∧ (w7_114.frm.fn = 24) ∧ (w7_114.frm.fn = 24 → w7_114.frm.lastMf = w7_114.clock) ∧ (w7_114.commitsDue = [])) := ⟨by decide +kernel, by decide +kernel, by decide +kernel, by decide +kernel, by decide +kernel⟩

/-- The premises of LineFramesSquelchAndLevelMeasurement hold together, part 2. -/
theorem premises_LineFramesSquelchAndLevelMeasurement_2 :
    ((w7_118.frm.started = true) ∧ (w7_118.sys.gated = false)) ∧
    (w7_120.sys.gated = false) ∧
    (c07_112.frm.started = false) ∧
    ((w7_130.tx.measure = some lm1) ∧ (lm1.leaf = 7) ∧ ((w7_130.mbox lm1.mb).phase = MbPhase.running) ∧ (lm1.n ≤ lm1.used)) := ⟨by decide +kernel, by decide +kernel, by decide +kernel, by decide +kernel⟩

/-- The premises of BurstsAndLeafRegistration hold together, part 1. -/
theorem premises_BurstsAndLeafRegistration_1 :
    (((w7_154.path 4).main = some det) ∧ ((w7_154.path 4).judged = false) ∧ (burstHeaderOk hdr1 = true) ∧ ((w7_154.path 4).shadow = none) ∧ (bitsOf hdr1.toNat 126 2 = gr1.type) ∧ (gr1.type = 0 ∨ gr1.type = 2) ∧ (w7_154.grantAt 4 det.mf 1602 = some gr1) ∧ (bitsOf hdr1.toNat 116 10 = gr1.leaf) ∧ (bitsOf hdr1.toNat 108 8 = gr1.mf % 256) ∧ (bitsOf hdr1.toNat 100 8 = if gr1.type = 0 then gr1.len else 0)) ∧
    ((sLeaf.mode = 2) ∧ (sLeaf.flag Reg.TXS_STATUS_SQUELCHED = false) ∧ (sLeaf.leafLocked = true) ∧ (sLeaf.firstGrant (List.filter sLeaf.eligible sLeaf.self.grants) = some gr1) ∧ (gr1.furrow = 4) ∧ (gr1.type ≠ 1) ∧ (((sLeaf.leafUpdates gr1.mf).ownBurst gr1 0 gr1.start ((sLeaf.leafUpdates gr1.mf).ownPayload gr1).1).gate.1 ≤ ↑sLeaf.clock)) ∧
    ((w7_139.burstArmed 4 = true) ∧ ((w7_139.path 4).main = some det) ∧ (w7_139.captures (w7_139.path 4) det none (-200) = false) ∧ ((w7_139.path 4).judged = true)) ∧
    (((w7_159.path 4).main ≠ none) ∧ ((w7_159.path 4).judged = true) ∧ ((w7_159.path 4).acc = some acc2) ∧ (acc2.leaf < 1024) ∧ (acc2.bad = false) ∧ (acc2.left = 0)) ∧
    ((w7_148.burstArmed 4 = true) ∧ ((w7_148.path 4).main = some det) ∧ (w7_148.captures (w7_148.path 4) det none (-50) = true) ∧ ((w7_148.path 4).acc = some acc1) ∧ (2 < acc1.cw) ∧ (acc1.bad = false)) ∧
    ((w7_167.request 1 1283 = some [255#8, 3#8, 0#8, 0#8]) ∧ (w7_167.blocksOff = false) ∧ (u16 [255#8, 3#8, 0#8, 0#8] 0 < 1024) ∧ (w7_167.leafState (u16 [255#8, 3#8, 0#8, 0#8] 0) ≠ 0) ∧ (w7_167.leafState (u16 [255#8, 3#8, 0#8, 0#8] 0) ≠ 6)) := ⟨by decide +kernel, by decide +kernel, by decide +kernel, by decide +kernel, by decide +kernel, by decide +kernel⟩

/-- The premises of BurstsAndLeafRegistration hold together, part 2. -/
theorem premises_BurstsAndLeafRegistration_2 :
    ((w10_8.mode = 1) ∧ (w10_8.coherent = true) ∧ (w10_8.burst.built = none) ∧ ([] = List.map (fun e => have __src := e.1; { mf := __src.mf, type := __src.type, leaf := __src.leaf, furrow := __src.furrow, start := (List.map (fun x => ↑x) []).getD e.2 0, len := __src.len : Grant }) (w10_8.wholeMap ((w10_8.frm.mfn + 3) % 2 ^ 32)).1.zipIdx) ∧ (w10_8.placed [] = true)) ∧
    ((w7_171.self.surveyedAt = some 0) ∧ (w7_171.mode = 2) ∧ (w7_171.selfState = 2) ∧ (0 + 6500000 ≤ w7_171.clock)) ∧
    ((sHub.mode = 1) ∧ (sHub.coherent = true) ∧ (sHub.frm.started = true) ∧ (sHub.burst.mapFor ≠ some sHub.frm.mfn)) ∧
    ((w7_169.mode = 2) ∧ (w7_169.selfState = 3 ∨ w7_169.selfState = 4) ∧ (w7_169.self.lastNamed + 416000000 ≤ w7_169.clock)) ∧
    (((w7_143.path 4).main = some det) ∧ ((w7_143.path 4).judged = false) ∧ (det.at_ + 1248000 / w7_143.furRate ≤ w7_143.clock)) ∧
    ((List.find? (fun g => g.leaf == 9 && decide (g.type ≠ 1)) w10_4.burst.grants = some gr1) ∧ (w10_4.grantDeadline gr1 ≤ ↑w10_4.clock) ∧ (w10_4.leafState gr1.leaf ≠ 3 ∨ w10_4.flag Reg.LF_STATUS_STANDBY gr1.leaf = false)) := ⟨by decide +kernel, by decide +kernel, by decide +kernel, by decide +kernel, by decide +kernel, by decide +kernel⟩

/-- The premises of BurstsAndLeafRegistration hold together, part 3. -/
theorem premises_BurstsAndLeafRegistration_3 :
    ((sSurvey.mode = 2) ∧ (sSurvey.flag Reg.TXS_STATUS_SQUELCHED = false) ∧ (sSurvey.leafLocked = true) ∧ (sSurvey.firstGrant (List.filter sSurvey.eligible sSurvey.self.grants) = some gr2) ∧ (gr2.furrow = 4) ∧ (gr2.type = 1) ∧ (0 < max 1 gr2.len) ∧ (∀ b < max 1 gr2.len, ((sSurvey.leafUpdates gr2.mf).ownBurst gr2 b (gr2.start + b * (240 + sSurvey.leafGuard)) []).gate.1 ≤ ↑sSurvey.clock)) ∧
    ((w7_135.burstArmed 4 = true) ∧ ((w7_135.path 4).main = none)) ∧
    (((w7_156.path 4).main = some det) ∧ ((w7_156.path 4).judged = false) ∧ (burstHeaderOk (hdr1 + 1#128) = false)) ∧
    ((w7_146.burstArmed 4 = true) ∧ ((w7_146.path 4).main = some det) ∧ (w7_146.captures (w7_146.path 4) det none (-50) = true) ∧ ((w7_146.path 4).acc = some acc1) ∧ (acc1.cw ≤ 5)) ∧
    ((w7_141.burstArmed 4 = true) ∧ ((w7_141.path 4).main = some det) ∧ (w7_141.captures (w7_141.path 4) det none (-50) = true)) ∧
    ((w7_137.burstArmed 4 = true) ∧ ((w7_137.path 4).main = some det) ∧ (w7_137.captures (w7_137.path 4) det none (-200) = false) ∧ ((w7_137.path 4).judged = false)) := ⟨by decide +kernel, by decide +kernel, by decide +kernel, by decide +kernel, by decide +kernel, by decide +kernel⟩

set_option maxRecDepth 100000 in
/-- The premises of CodewordsAreCountedAndLocked hold together. -/
theorem premises_CodewordsAreCountedAndLocked :
    ((sHunt0.get Reg.FEC_CTRL_LINE_FEC = 0) ∧ (sHunt0.flag Reg.FEC_FR_STATUS_CW_LOCK 4 = false) ∧ (sHunt0.flag Reg.FEC_FR_STATUS_HUNT 4 = true) ∧ (sHunt0.dspFail 4 = false) ∧ (sHunt0.flag Reg.FR_RX_CTRL_EN 4 = true) ∧ ((sHunt0.fecFur 4).batch = [64, 128]) ∧ ((sHunt0.fecFur 4).confirm = some (cycleLen 1 - 1)) ∧ ((sHunt0.decodeCw 4 (CwResult.terrace [])).syndromeZero = true) ∧ ((sHunt0.decodeCw 4 (CwResult.terrace [])).uncorrectable = false) ∧ (carriedIndex (sHunt0.get Reg.FEC_FR_STATUS_RATE_NOW 4) (sHunt0.decodeCw 4 (CwResult.terrace [])).outer = (cycleLen 1 - 1 + 1) % cycleLen (sHunt0.get Reg.FEC_FR_STATUS_RATE_NOW 4))) ∧
    ((w8_22.request 1 802 = some [31#8]) ∧ (w8_22.blocksOff = false) ∧ (u8 [31#8] 0 < 32) ∧ (w8_22.flag Reg.FEC_FR_STATUS_HUNT (u8 [31#8] 0) = false) ∧ (w8_22.flag Reg.FR_STATUS_CAR_LOCK (u8 [31#8] 0) = true) ∧ (w8_22.get Reg.FEC_CTRL_LINE_FEC = 0)) ∧
    ((sCw.flag Reg.FEC_FR_STATUS_CW_LOCK 4 = true) ∧ (sCw.dspFail 4 = false) ∧ (sCw.flag Reg.FR_RX_CTRL_EN 4 = true) ∧ (match CwResult.terrace [] with | CwResult.terrace _ => sCw.get Reg.FEC_CTRL_LINE_FEC = 0 | CwResult.interop _ _ => sCw.get Reg.FEC_CTRL_LINE_FEC ≠ 0) ∧ ((sCw.decodeCw 4 (CwResult.terrace [])).uncorrectable = false)) ∧
    ((w8_14.get Reg.FEC_CTRL_LINE_FEC ≠ 0) ∧ (w8_14.flag Reg.FEC_FR_STATUS_CW_LOCK 4 = false) ∧ (w8_14.dspFail 4 = false) ∧ (w8_14.flag Reg.FR_RX_CTRL_EN 4 = true)) ∧
    ((w8_20.flag Reg.FEC_FR_STATUS_HUNT 4 = true) ∧ ((w8_20.fecFur 4).batch = [])) ∧
    (w8_12.burstWaits 4 = true) ∧
    ((match CwResult.terrace badLlrs with | CwResult.terrace _ => sCw.get Reg.FEC_CTRL_LINE_FEC = 0 | CwResult.interop _ _ => sCw.get Reg.FEC_CTRL_LINE_FEC ≠ 0) ∧ ((sCw.decodeCw 4 (CwResult.terrace badLlrs)).uncorrectable = true)) ∧
    (((sHunt0.decodeCw 4 (CwResult.terrace badLlrs)).syndromeZero = true) ∧ ((sHunt0.decodeCw 4 (CwResult.terrace badLlrs)).syndromeZero = false ∨ (sHunt0.decodeCw 4 (CwResult.terrace badLlrs)).uncorrectable = true)) := ⟨by decide +kernel, by decide +kernel, by decide +kernel, by decide +kernel, by decide +kernel, by decide +kernel, by decide +kernel, by decide +kernel⟩

/-- The premises of FramesAreFoundLostAndRead hold together, part 1. -/
theorem premises_FramesAreFoundLostAndRead_1 :
    ((sStr.coherent = true) ∧ (∃ g ∈ sStr.lineFurrows, g / 4 = 0) ∧ (0 ∈ sStr.groupFurrows 0) ∧ (0 < 32) ∧ (sStr.flag Reg.FRM_FR_STATUS_LOM ((sStr.groupFurrows 0).headD 0) = false) ∧ ((sStr.groupRx 0).mfn = some 7) ∧ (unmarked (sStr.heardStream 0 0 [none, none]) 0 4 = none ∨ unmarked (sStr.heardStream 0 0 [none, none]) 0 4 = some ((7 + 1) % 2 ^ 32))) ∧
    ((sStr2.coherent = true) ∧ (∃ g ∈ sStr2.lineFurrows, g / 4 = 0) ∧ (0 ∈ sStr2.groupFurrows 0) ∧ (sStr2.flag Reg.FRM_FR_STATUS_LOM ((sStr2.groupFurrows 0).headD 0) = true) ∧ ((sStr2.groupRx 0).last = some 4294967295) ∧ (unmarked (sStr2.heardStream 0 0 (List.map some (bytesBe 4 0))) 0 4 = some ((4294967295 + 1) % 2 ^ 32))) ∧
    ((w8_30.flag Reg.FRM_FR_STATUS_SYNC 4 = true) ∧ (w8_30.running 3 4 = true) ∧ (patternOk (BitVec.ofNat 64 (faw 1)).toNat = true) ∧ (labelOk (BitVec.ofNat 64 (faw 1)).toNat = true) ∧ (fawFn (BitVec.ofNat 64 (faw 1)).toNat = (w8_30.get Reg.FRM_FR_STATUS_FN 4 + 1) % 25) ∧ ((w8_30.frmFur 4).uncertain = 0)) ∧
    (((w8_50.groupRx 0).mgmt = some 4#8 :: some 4#8 :: List.map some (bytes 5 77)) ∧ (4#8 ≠ 0#8) ∧ (mgmtLen (4#8).toNat = some (4#8).toNat) ∧ ((4#8).toNat ≤ (List.map some (bytes 5 77)).length) ∧ (∀ x ∈ List.take (4#8).toNat (List.map some (bytes 5 77)), x ≠ none) ∧ (w8_50.mode ≠ 2)) ∧
    ((w8_24.get Reg.FEC_CTRL_LINE_FEC = 0) ∧ (w8_24.flag Reg.FRM_FR_STATUS_SYNC 4 = false) ∧ (w8_24.flag Reg.FEC_FR_STATUS_CW_LOCK 4 = true) ∧ (w8_24.dspFail 4 = false) ∧ (winner (huntWord (w8_24.frameLen 4) (w8_24.frmFur 4).pos (0#575).toNat (w8_24.frmFur 4).cands).1 = none)) ∧
    ((w8_41.flag Reg.FRM_FR_STATUS_OOF 4 = true) ∧ (w8_41.flag Reg.FRM_FR_STATUS_LOF 4 = false) ∧ ((w8_41.frmFur 4).oofSince + 65000 * w8_41.get Reg.FRM_CFG_LOF_FRAMES ≤ w8_41.clock) ∧ (w8_41.get Reg.FEC_CTRL_LINE_FEC = 0)) ∧
    ((w8_43.flag Reg.FRM_FR_STATUS_SYNC 4 = true) ∧ (w8_43.flag Reg.FRM_FR_STATUS_LOF 4 = true) ∧ ((w8_43.frmFur 4).syncSince + 65000 * w8_43.get Reg.FRM_CFG_LOF_CLR_FRAMES ≤ w8_43.clock)) := ⟨by decide +kernel, by decide +kernel, by decide +kernel, by decide +kernel, by decide +kernel, by decide +kernel, by decide +kernel⟩

/-- The premises of FramesAreFoundLostAndRead hold together, part 2. -/
theorem premises_FramesAreFoundLostAndRead_2 :
    ((w10_28.flag Reg.FRM_FR_STATUS_SYNC 4 = true) ∧ (w10_28.running 3 4 = true) ∧ ((w10_28.frmFur 4).uncertain = 0) ∧ (patternOk (0#64).toNat = false) ∧ (w10_28.get Reg.FRM_CFG_OOF_THR ≤ (w10_28.frmFur 4).failRun + 1) ∧ (w10_28.flag Reg.FRM_FR_STATUS_OOF 4 = false)) ∧
    ((w8_39.flag Reg.FRM_FR_STATUS_SYNC 4 = true) ∧ (w8_39.running 3 4 = false)) ∧
    (((w8_52.groupRx 0).mgmt = some 4#8 :: some 3#8 :: List.map some (bytes 5 77)) ∧ (mgmtLen (4#8).toNat = some 4) ∧ (4 ≠ (3#8).toNat)) ∧
    ((w8_58.groupRx 7).mgmt = [some 0#8, some 9#8]) ∧
    ((w8_32.flag Reg.FRM_FR_STATUS_SYNC 4 = true) ∧ (w8_32.running 3 4 = true) ∧ (patternOk (BitVec.ofNat 64 (faw 1 + 1)).toNat = true) ∧ (labelOk (BitVec.ofNat 64 (faw 1 + 1)).toNat = false) ∧ ((w8_32.frmFur 4).uncertain = 0)) ∧
    ((sHunt.get Reg.FEC_CTRL_LINE_FEC = 0) ∧ (sHunt.flag Reg.FRM_FR_STATUS_SYNC 4 = false) ∧ (sHunt.flag Reg.FEC_FR_STATUS_CW_LOCK 4 = true) ∧ (sHunt.dspFail 4 = false) ∧ (winner (huntWord (sHunt.frameLen 4) (sHunt.frmFur 4).pos (BitVec.ofNat 575 (faw 5 * 2 ^ 511)).toNat (sHunt.frmFur 4).cands).1 = some { fn := 5, next := sHunt.frameLen 4, hits := 3 : Cand })) := ⟨by decide +kernel, by decide +kernel, by decide +kernel, by decide +kernel, by decide +kernel, by decide +kernel⟩

/-- The premises of ProtectionTimersAndHostRequests hold together. -/
theorem premises_ProtectionTimersAndHostRequests :
    ((w8_78.request 1 819 = some [9#8, 0#8, 1#8, 0#8]) ∧ (w8_78.blocksOff = false) ∧ (u16 [9#8, 0#8, 1#8, 0#8] 0 ≠ 65535) ∧ (w8_78.mode = 1) ∧ (w8_78.flag Reg.LF_PROFILE_DUAL_HOME (u16 [9#8, 0#8, 1#8, 0#8] 0) = true) ∧ (u8 [9#8, 0#8, 1#8, 0#8] 2 = 1)) ∧
    ((w8_73.request 1 819 = some [255#8, 255#8, 1#8, 0#8]) ∧ (w8_73.blocksOff = false) ∧ (u16 [255#8, 255#8, 1#8, 0#8] 0 = 65535) ∧ (w8_73.flag Reg.PROT_CFG_EN = true) ∧ (u8 [255#8, 255#8, 1#8, 0#8] 2 ≠ 0) ∧ (w8_73.get Reg.PROT_STATUS_REQ < hostCode (u8 [255#8, 255#8, 1#8, 0#8] 2))) ∧
    ((200 ≤ w8_70.prot.pqFrames) ∧ (100 ≤ w8_70.prot.pqChanges) ∧ (w8_70.prot.pqAccepted = false)) ∧
    ((w8_61.holdoff 0 = some (5, 9)) ∧ ((5, 9).1 + (5, 9).2 ≤ w8_61.clock) ∧ (w8_61.flag (defectField 0) = true)) ∧
    ((w8_68.prot.settle = some 3) ∧ (3 + 2600000000 ≤ w8_68.clock)) ∧
    ((w8_66.prot.wtr = some 3) ∧ (3 + 13000000000 * w8_66.get Reg.PROT_TIMERS_WTR_S ≤ w8_66.clock)) ∧
    ((c08_61.holdoff 0 = some (5, 9)) ∧ ((5, 9).1 + (5, 9).2 ≤ c08_61.clock) ∧ (c08_61.flag (defectField 0) = false)) := ⟨by decide +kernel, by decide +kernel, by decide +kernel, by decide +kernel, by decide +kernel, by decide +kernel, by decide +kernel⟩

/-- The premises of SlipBuffersAndRillLinkLanes hold together, part 1. -/
theorem premises_SlipBuffersAndRillLinkLanes_1 :
    ((w8_104.laneFormat 15 = 2) ∧ (w8_104.rxState 15 = 3) ∧ (w8_104.laneLive 15 = true) ∧ (w8_104.fiAt 3 15 = none) ∧ ((w8_104.heardBlock 15 (3#2 ++ 77#64)).1 = some (3#2 ++ 77#64)) ∧ (3 = (3#2 ++ 77#64).toNat / 2 ^ 64) ∧ (w8_104.looped 15 = false) ∧ (3 = 0 ∨ 3 = 3) ∧ (w8_104.flag Reg.LN_STATUS_BLOCK_LOCK 15 = true) ∧ (15 ≤ (w8_104.lane 15).bad) ∧ ((w8_104.lane 15).window < 1023)) ∧
    ((w8_114.flag Reg.RL_CFG_EN 15 = true) ∧ (w8_114.flag Reg.LN_STATUS_BLOCK_LOCK 15 = true) ∧ (w8_114.coherent = true) ∧ (2 = w8_114.get Reg.RL_CFG_RILLS 15) ∧ (List.take 2 (w8_114.laneData 15).rows = [row2, row1]) ∧ (rillHeaderOk 0 row2.header.toNat = false) ∧ (w8_114.flag Reg.RL_STATUS_ALIGNED 15 = true)) ∧
    ((w8_106.laneFormat 15 = 2) ∧ (w8_106.rxState 15 = 3) ∧ (w8_106.laneLive 15 = true) ∧ (w8_106.fiAt 3 15 = none) ∧ ((w8_106.heardBlock 15 (2#2 ++ 77#64)).1 = some (2#2 ++ 77#64)) ∧ (2 = (2#2 ++ 77#64).toNat / 2 ^ 64) ∧ (w8_106.looped 15 = false) ∧ (2 = 1 ∨ 2 = 2) ∧ (w8_106.flag Reg.LN_STATUS_BLOCK_LOCK 15 = true) ∧ ((w8_106.lane 15).bad < 16) ∧ (w8_106.running 4 15 = true)) ∧
    ((w8_94.slipRuns 255 = true) ∧ ((w8_94.slip 255 true).held.length < 2) ∧ ((w8_94.slip 255 true).held = []) ∧ ((w8_94.slip 255 true).started = true)) ∧
    ((w8_80.slipRuns 255 = true) ∧ (false = false ∧ (w8_80.slip 255 true).parts.length = 25 ∧ (true = true ∨ w8_80.slipDark 255 = false) ∧ none = SlipBuf.whole (w8_80.members 255) (w8_80.slip 255 true) ∨ false = true ∧ true = false ∧ w8_80.slipDark 255 = true ∧ (none : Option (List Byte)) = none) ∧ ((w8_80.slip 255 true).held.length < 3)) ∧
    ((w8_116.flag Reg.RL_STATUS_ALIGNED 15 = true) ∧ (4 ≤ (w8_116.rillLane 15).missed ∨ w8_116.flag Reg.LN_STATUS_BLOCK_LOCK 15 = false)) := ⟨by decide +kernel, by decide +kernel, by decide +kernel, by decide +kernel, by decide +kernel, by decide +kernel⟩

/-- The premises of SlipBuffersAndRillLinkLanes hold together, part 2. -/
theorem premises_SlipBuffersAndRillLinkLanes_2 :
    ((w8_88.slipRuns 255 = true) ∧ ((w8_88.slip 255 true).held = [some [5#8], none]) ∧ ((w8_88.slip 255 true).started = true ∨ [(none : Option (List Byte))] ≠ [])) ∧
    ((w8_112.flag Reg.RL_CFG_EN 15 = true) ∧ (w8_112.flag Reg.LN_STATUS_BLOCK_LOCK 15 = true) ∧ (w8_112.coherent = true) ∧ (2 = w8_112.get Reg.RL_CFG_RILLS 15) ∧ (List.take 2 (w8_112.laneData 15).rows = [row0, row1]) ∧ (rillHeaderOk 0 row0.header.toNat = true) ∧ ((w8_112.rillLane 15).lastFn = some ((bitsOf row0.header.toNat 43 5 + 24) % 25))) ∧
    ((w8_100.laneFormat 15 = 2) ∧ (w8_100.rxState 15 = 3) ∧ (w8_100.laneLive 15 = true) ∧ (w8_100.fiAt 3 15 = none) ∧ ((w8_100.heardBlock 15 (1#2 ++ 77#64)).1 = some (1#2 ++ 77#64)) ∧ (1 = (1#2 ++ 77#64).toNat / 2 ^ 64) ∧ (w8_100.looped 15 = false) ∧ (1 = 1 ∨ 1 = 2) ∧ (w8_100.flag Reg.LN_STATUS_BLOCK_LOCK 15 = false) ∧ ((w8_100.lane 15).good = 63)) ∧
    ((w8_97.slipRuns 255 = true) ∧ ((w8_97.slip 255 true).held.length < 2) ∧ ((w8_97.slip 255 true).started = false)) ∧
    ((w8_84.slipRuns 255 = true) ∧ (false = false ∧ (w8_84.slip 255 true).parts.length = 25 ∧ (true = true ∨ w8_84.slipDark 255 = false) ∧ none = SlipBuf.whole (w8_84.members 255) (w8_84.slip 255 true) ∨ false = true ∧ true = false ∧ w8_84.slipDark 255 = true ∧ (none : Option (List Byte)) = none) ∧ ((w8_84.slip 255 true).held.length = 3)) ∧
    ((w8_102.laneFormat 15 = 2) ∧ (w8_102.rxState 15 = 3) ∧ (w8_102.laneLive 15 = true) ∧ (w8_102.fiAt 3 15 = none) ∧ ((w8_102.heardBlock 15 (0#2 ++ 77#64)).1 = some (0#2 ++ 77#64)) ∧ (0 = (0#2 ++ 77#64).toNat / 2 ^ 64) ∧ (w8_102.looped 15 = false) ∧ (0 = 0 ∨ 0 = 3) ∧ (w8_102.flag Reg.LN_STATUS_BLOCK_LOCK 15 = false)) := ⟨by decide +kernel, by decide +kernel, by decide +kernel, by decide +kernel, by decide +kernel, by decide +kernel⟩

/-- The premises of CipherUnitsAreSentJudgedAndKeyed hold together, part 1. -/
theorem premises_CipherUnitsAreSentJudgedAndKeyed_1 :
    (keyUnwrap (w8_144.keySlot (u16 ([7#8, 0#8, 3#8, 0#8, 1#8, 0#8, 0#8, 0#8] ++ wrapped) 2)).key (List.take 40 (List.drop 8 ([7#8, 0#8, 3#8, 0#8, 1#8, 0#8, 0#8, 0#8] ++ wrapped))) = some (bytes 32 5)) ∧
    (keyUnwrap (w8_142.keySlot (u16 ([7#8, 0#8, 3#8, 0#8, 1#8, 0#8, 0#8, 0#8] ++ wrapped) 2)).key (List.take 40 (List.drop 8 ([7#8, 0#8, 3#8, 0#8, 1#8, 0#8, 0#8, 0#8] ++ wrapped))) = some (bytes 32 5)) ∧
    ((w8_126.ciphered 200 = true) ∧ ((w8_126.cipherTn 200).rx = none) ∧ (w8_126.flag Reg.TN_CIPH_STATUS_BLOCKED 200 = false) ∧ (bitsOf (4#64).toNat 62 1 = 0) ∧ (w8_126.rxCtx 200 (bitsOf (4#64).toNat 63 1 == 1) = some 5) ∧ ((w8_126.fetchCtx 5).ctxState 5 ≠ 3) ∧ ((4#64).toNat % ctrEnd ≤ w8_126.rxLast 5) ∧ (w8_126.flag Reg.TN_CIPHER_ON_FAIL 200 = false)) ∧
    ((false = (false || false)) ∧ ((sUnit.cipherTn 200).rx = some ru) ∧ (ru.cls = UnitClass.open_) ∧ (ru.ctx < 1024) ∧ (sUnit.ciphered 200 = true) ∧ (sUnit.attached ru.ctx = true ∨ sUnit.qState 6 ru.ctx = 1) ∧ (0#128 ≠ sUnit.unitTag ru.ctx (!sUnit.flag Reg.CTX_STATUS_TX_DIR ru.ctx) (bytesBe 8 ru.header.toNat) [1#8, 2#8, 3#8]) ∧ (sUnit.flag Reg.TN_CIPHER_ON_FAIL 200 = false)) ∧
    ((w8_144.request 1 1793 = some ([7#8, 0#8, 3#8, 0#8, 1#8, 0#8, 0#8, 0#8] ++ wrapped)) ∧ (w8_144.blocksOff = false) ∧ (u16 ([7#8, 0#8, 3#8, 0#8, 1#8, 0#8, 0#8, 0#8] ++ wrapped) 0 < 512) ∧ (u16 ([7#8, 0#8, 3#8, 0#8, 1#8, 0#8, 0#8, 0#8] ++ wrapped) 2 < 512) ∧ (u8 ([7#8, 0#8, 3#8, 0#8, 1#8, 0#8, 0#8, 0#8] ++ wrapped) 4 = 1 ∨ u8 ([7#8, 0#8, 3#8, 0#8, 1#8, 0#8, 0#8, 0#8] ++ wrapped) 4 = 2) ∧ (w8_144.k0Denied (u16 ([7#8, 0#8, 3#8, 0#8, 1#8, 0#8, 0#8, 0#8] ++ wrapped) 2) = false) ∧ (w8_144.isKek (u16 ([7#8, 0#8, 3#8, 0#8, 1#8, 0#8, 0#8, 0#8] ++ wrapped) 2) = true) ∧ (w8_144.get Reg.KS_STATUS_STATE (u16 ([7#8, 0#8, 3#8, 0#8, 1#8, 0#8, 0#8, 0#8] ++ wrapped) 0) = 0) ∧ (w8_144.busLoads = true)) ∧
    ((sCip1.ciphered 200 = true) ∧ (sCip1.unitFits 200 (List.replicate 743 0#8).length = true) ∧ (5 = sCip1.txCtx 200) ∧ (sCip1.attached 5 = true) ∧ ((sCip1.fetchCtx 5).ctxState 5 ≠ 3) ∧ (sCip1.txCtr 5 = ctrEnd - 1)) ∧
    ((w8_150.cip.bus = [{ activation := false, mb := some 1 : KeyTransfer }]) ∧ (w8_150.cip.busSince + 832 ≤ w8_150.clock) ∧ ({ activation := false, mb := some 1 : KeyTransfer }.mb = some 1) ∧ ((w8_150.mbox 1).phase = MbPhase.running) ∧ ((w8_150.mbox 1).opcode = 1803)) := ⟨key_unwrapped, key_unwrapped, by decide +kernel, by decide +kernel, by decide +kernel, by decide +kernel, by decide +kernel⟩

/-- The premises of CipherUnitsAreSentJudgedAndKeyed hold together, part 2. -/
theorem premises_CipherUnitsAreSentJudgedAndKeyed_2 :
    ((w8_146.request 1 1803 = some ([5#8, 0#8, 0#8, 0#8] ++ bytes 8 5 ++ bytes 16 0 ++ [1#8, 2#8, 3#8])) ∧ (w8_146.blocksOff = false) ∧ (w8_146.busLoads = false) ∧ (w8_146.flag Reg.CTX_STATUS_KEY_VALID (u16 ([5#8, 0#8, 0#8, 0#8] ++ bytes 8 5 ++ bytes 16 0 ++ [1#8, 2#8, 3#8]) 0) = true) ∧ (w8_146.k0Denied (w8_146.get Reg.CTX_STATUS_KEY (u16 ([5#8, 0#8, 0#8, 0#8] ++ bytes 8 5 ++ bytes 16 0 ++ [1#8, 2#8, 3#8]) 0)) = false)) ∧
    ((w8_152.request 1 1802 = some [200#8]) ∧ (w8_152.blocksOff = false)) ∧
    ((w8_134.ciphered 200 = true) ∧ ((w8_134.cipherTn 200).rx = none) ∧ (w8_134.flag Reg.TN_CIPH_STATUS_BLOCKED 200 = true)) ∧
    ((w8_148.cip.bus = [{ activation := true : KeyTransfer }]) ∧ (w8_148.cip.busSince + 832 ≤ w8_148.clock) ∧ ({ activation := true : KeyTransfer }.mb = none)) ∧
    ((w8_132.ciphered 200 = true) ∧ ((w8_132.cipherTn 200).rx = none) ∧ (w8_132.flag Reg.TN_CIPH_STATUS_BLOCKED 200 = false) ∧ (bitsOf (9223372036854775813#64).toNat 62 1 = 0) ∧ (w8_132.rxCtx 200 (bitsOf (9223372036854775813#64).toNat 63 1 == 1) = none) ∧ (w8_132.flag Reg.TN_CIPHER_ON_FAIL 200 = false)) ∧
    ((sCip2.ciphered 200 = true) ∧ (sCip2.unitFits 200 (List.replicate 743 0#8).length = true) ∧ (5 = sCip2.txCtx 200) ∧ (sCip2.attached 5 = true) ∧ (sCip2.ctxState 5 = 3)) ∧
    ((w8_130.ciphered 200 = true) ∧ ((w8_130.cipherTn 200).rx = none) ∧ (w8_130.flag Reg.TN_CIPH_STATUS_BLOCKED 200 = false)) := ⟨by decide +kernel, by decide +kernel, by decide +kernel, by decide +kernel, by decide +kernel, by decide +kernel, by decide +kernel⟩

/-- The premises of CipherUnitsAreSentJudgedAndKeyed hold together, part 3. -/
theorem premises_CipherUnitsAreSentJudgedAndKeyed_3 :
    (true = (true || false)) ∧
    ((w8_128.ciphered 200 = true) ∧ ((w8_128.cipherTn 200).rx = none) ∧ (w8_128.flag Reg.TN_CIPH_STATUS_BLOCKED 200 = false) ∧ (bitsOf (4611686018427387909#64).toNat 62 1 = 1)) ∧
    (sUnit.unitTag 5 true (bytesBe 8 5) [1#8, 2#8, 3#8] = sUnit.unitTag ru.ctx (!sUnit.flag Reg.CTX_STATUS_TX_DIR ru.ctx) (bytesBe 8 ru.header.toNat) [1#8, 2#8, 3#8]) ∧
    ((w8_124.ciphered 200 = true) ∧ ((w8_124.cipherTn 200).rx = none) ∧ (w8_124.flag Reg.TN_CIPH_STATUS_BLOCKED 200 = false) ∧ (bitsOf (5#64).toNat 62 1 = 0) ∧ (w8_124.rxCtx 200 (bitsOf (5#64).toNat 63 1 == 1) = some 5) ∧ ((w8_124.fetchCtx 5).ctxState 5 ≠ 3) ∧ (w8_124.rxLast 5 < (5#64).toNat % ctrEnd)) ∧
    ((w8_142.request 1 1793 = some ([7#8, 0#8, 3#8, 0#8, 1#8, 0#8, 0#8, 0#8] ++ wrapped)) ∧ (w8_142.blocksOff = false) ∧ (w8_142.k0Denied (u16 ([7#8, 0#8, 3#8, 0#8, 1#8, 0#8, 0#8, 0#8] ++ wrapped) 2) = false) ∧ (w8_142.isKek (u16 ([7#8, 0#8, 3#8, 0#8, 1#8, 0#8, 0#8, 0#8] ++ wrapped) 2) = true) ∧ (w8_142.get Reg.KS_STATUS_STATE (u16 ([7#8, 0#8, 3#8, 0#8, 1#8, 0#8, 0#8, 0#8] ++ wrapped) 0) = 0) ∧ (w8_142.busLoads = false)) := ⟨by decide +kernel, by decide +kernel, by decide +kernel, by decide +kernel, by decide +kernel⟩

/-- The premises of KeyEraseEmptiesTheSlot hold together. -/
theorem premises_KeyEraseEmptiesTheSlot :
    ((w8_154.request 1 1794 = some [255#8, 1#8]) ∧ (w8_154.blocksOff = false) ∧ (u16 [255#8, 1#8] 0 < 512) ∧ (w8_154.get Reg.KS_STATUS_STATE (u16 [255#8, 1#8] 0) ≠ 3) ∧ (w8_154.get Reg.KS_STATUS_REFS (u16 [255#8, 1#8] 0) = 0)) ∧
    ((w8_156.request 1 1794 = some [255#8, 1#8]) ∧ (w8_156.blocksOff = false) ∧ (w8_156.get Reg.KS_STATUS_STATE (u16 [255#8, 1#8] 0) ≠ 3) ∧ (w8_156.get Reg.KS_STATUS_STATE (u16 [255#8, 1#8] 0) = 3 ∨ w8_156.get Reg.KS_STATUS_REFS (u16 [255#8, 1#8] 0) ≠ 0)) := ⟨by decide +kernel, by decide +kernel⟩

/-- The premises of InterleaverSendsRowsByColumns hold together. -/
theorem premises_InterleaverSendsRowsByColumns :
    ((Terrace.burst = Terrace.line ∧ 60 = 120 ∧ 128 = 256 ∨ Terrace.burst = Terrace.burst ∧ 60 = 60 ∧ 128 = 128) ∧ ((List.map (fun i => decide (i * i % 7 < 3)) (List.range (60 * 128))).length = 60 * 128)) := by decide +kernel

/-- The premises of PacketsEnterParseAndAreClassified hold together, part 1. -/
theorem premises_PacketsEnterParseAndAreClassified_1 :
    (∀ w < wordsFor pkD.data.length, Clean 1 (pkD.parcels.getD (w / 4) 0 / 32768) (4 * (pkD.parcels.getD (w / 4) 0 % 32768) + w % 4) w9_61) ∧
    (((w9_45.domain 200).held = []) ∧ ((w9_45.domain 200).stage = [9, 4]) ∧ (w9_45.pkt 9 = some pkC0) ∧ (w9_45.stageTurn 200 = true) ∧ (pkC0.turnout = 200) ∧ (pkC0.num = (w9_45.domain 200).hand) ∧ (pkC0.pool = Pool.none_) ∧ (pkC0.gone = false) ∧ (pkC0.lenDrop = false) ∧ (actVerb pkC0.action = 1)) ∧
    (((1, 0) = if w9_38.pk.startCycle = w9_38.cycle then (w9_38.pk.starts, w9_38.pk.bwStarts) else (0, 0)) ∧ (1 < 4) ∧ (w9_38.pkt 9 = some pkA) ∧ (w9_38.fiAt 1 pkA.turnout = none) ∧ (w9_38.pk.bwWait = [] ∨ 0 ≠ 0) ∧ (w9_38.pk.lineWait = []) ∧ (w9_38.nextHost = some 2) ∧ (tget [] w9_38.pk.hostWait 2 = [9, 4])) ∧
    ((w9_3.flag Reg.TN_PKT_HOST_PORT 200 = true) ∧ (w9_3.coherent = true) ∧ ((w9_3.portQueue 200).dropping = false) ∧ ((w9_3.portQueue 200).coming = false) ∧ ([4] = takeWords 7 (w9_3.portQueue 200).words) ∧ (w9_3.running 4 (w9_3.get Reg.TN_PKT_LANE 200) = true) ∧ ([4].sum < 32 * (w9_3.hostLanesOf 200).length)) ∧
    ((clause82 fr80 = (clause82 fr80).dropLast ++ [(clause82 fr80).getLastD 0#66]) ∧ (w9_27.admits 200 = true) ∧ (w9_27.heardFrame 200 (clause82 fr80) = true) ∧ (w9_27.arriving 200 (clause82 fr80) false = (fr80, false, false)) ∧ (w9_27.frameCheck 200 fr80 false false = none) ∧ (w9_27.flag Reg.TN_PKT_HOST_PORT 200 = true) ∧ (w9_27.running 1 200 = true)) ∧
    ((w9_61.pk.bwPool = [9, 4]) ∧ (w9_61.pkt 9 = some pkD) ∧ (pkD.pool = Pool.backwater) ∧ ((w9_61.readDesc 9).1 = false) ∧ (w9_61.frameCheck (actTurnout pkD.action) pkD.data false false = none)) ∧
    ((List.find? (fun id => match w9_41.pkt id with | some p => p.turnout == 200 | none => false) w9_41.pk.parsing = some 9) ∧ (w9_41.pkt 9 = some pkB) ∧ (pkB.startedAt + pkB.cycles * 65 / 8 ≤ w9_41.clock)) := ⟨by unfold Clean; decide +kernel, by decide +kernel, by decide +kernel, by decide +kernel, by decide +kernel, by decide +kernel, by decide +kernel⟩

/-- The premises of PacketsEnterParseAndAreClassified hold together, part 2. -/
theorem premises_PacketsEnterParseAndAreClassified_2 :
    (((0, 0) = if w9_33.pk.startCycle = w9_33.cycle then (w9_33.pk.starts, w9_33.pk.bwStarts) else (0, 0)) ∧ (0 < 4) ∧ (w9_33.pkt 9 = some pkA) ∧ (w9_33.fiAt 1 pkA.turnout = none) ∧ (w9_33.pk.bwWait = [9, 4])) ∧
    (((3, 1) = if w9_35.pk.startCycle = w9_35.cycle then (w9_35.pk.starts, w9_35.pk.bwStarts) else (0, 0)) ∧ (3 < 4) ∧ (w9_35.pkt 9 = some pkA) ∧ (w9_35.fiAt 1 pkA.turnout = none) ∧ (w9_35.pk.bwWait = [] ∨ 1 ≠ 0) ∧ (w9_35.pk.lineWait = [9, 4])) ∧
    ((w9_18.flag Reg.TN_PKT_HOST_PORT 200 = true) ∧ (w9_18.coherent = true) ∧ ((w9_18.portQueue 200).dropping = false) ∧ ((w9_18.portQueue 200).coming = false) ∧ ([4] = takeWords 7 (w9_18.portQueue 200).words) ∧ (w9_18.running 4 (w9_18.get Reg.TN_PKT_LANE 200) = false)) ∧
    ((w9_11.flag Reg.TN_PKT_HOST_PORT 200 = true) ∧ (w9_11.coherent = true) ∧ ((w9_11.portQueue 200).dropping = false) ∧ ((w9_11.portQueue 200).coming = false) ∧ ([64] = takeWords 0 (w9_11.portQueue 200).words) ∧ (w9_11.running 4 (w9_11.get Reg.TN_PKT_LANE 200) = true) ∧ (32 * (w9_11.hostLanesOf 200).length ≤ [64].sum)) ∧
    ((w9_22.admits 200 = true) ∧ (w9_22.heardFrame 200 (clause82 fr80) = true) ∧ (w9_22.arriving 200 (clause82 fr80) false = (fr80, false, false)) ∧ (w9_22.frameCheck 200 fr80 false false = none) ∧ (w9_22.flag Reg.TN_PKT_HOST_PORT 200 = false) ∧ (w9_22.running 1 200 = true)) ∧
    ((clause82 [1#8, 2#8, 3#8] = (clause82 [1#8, 2#8, 3#8]).dropLast ++ [(clause82 [1#8, 2#8, 3#8]).getLastD 0#66]) ∧ (w9_24.admits 200 = true) ∧ (w9_24.heardFrame 200 (clause82 [1#8, 2#8, 3#8]) = true) ∧ (w9_24.arriving 200 (clause82 [1#8, 2#8, 3#8]) false = ([1#8, 2#8, 3#8], false, false)) ∧ (w9_24.running 1 200 = true) ∧ ([1#8, 2#8, 3#8].length < 64)) := ⟨by decide +kernel, by decide +kernel, by decide +kernel, by decide +kernel, by decide +kernel, by decide +kernel⟩

/-- The premises of QueuesEgressFlowsAndHostPackets hold together, part 1. -/
theorem premises_QueuesEgressFlowsAndHostPackets_1 :
    (∀ (q : Nat), pkE.pool = Pool.data q → q < 2048) ∧
    (∀ w < wordsFor pkE.data.length, Clean 1 (pkE.parcels.getD (w / 4) 0 / 32768) (4 * (pkE.parcels.getD (w / 4) 0 % 32768) + w % 4) w9_78) ∧
    (∀ w < wordsFor pkE.data.length, Clean 1 (pkE.parcels.getD (w / 4) 0 / 32768) (4 * (pkE.parcels.getD (w / 4) 0 % 32768) + w % 4) w9_76) ∧
    ((w9_109.request 1 1575 = some [63#8, 0#8, 0#8, 0#8]) ∧ (w9_109.blocksOff = false) ∧ (u8 [63#8, 0#8, 0#8, 0#8] 0 < 64) ∧ (w9_109.flag Reg.CQ_CFG_OWNER (u8 [63#8, 0#8, 0#8, 0#8] 0) = true) ∧ (w9_109.headOf (2048 + u8 [63#8, 0#8, 0#8, 0#8] 0) = some 9) ∧ (w9_109.pkt 9 = some pkE) ∧ ((w9_109.readDesc 9).1 = false)) ∧
    ((tget [] w9_78.pk.egress 200 = [9, 4]) ∧ (w9_78.pkt 9 = some pkE) ∧ (w9_78.fiAt 0 200 = none) ∧ (w9_78.linePacket 200 = false) ∧ (w9_78.flag Reg.TN_PKT_HOST_PORT 200 = true)) ∧
    ((w9_89.request 1 1557 = some fKey) ∧ (w9_89.blocksOff = false) ∧ (keyStray (u8 fKey 0) (cmdKey fKey) = false) ∧ (w9_89.actionBad w9_89.profile (u64 fKey 48) = false) ∧ (w9_89.findFlow (u8 fKey 0) (cmdKey fKey) (w9_89.cmdHash fKey) = none) ∧ ((w9_89.placeFlow (w9_89.cmdHash fKey)).2 = some fIdx)) ∧
    ((w9_65.nextTurnout = some (200, true)) ∧ (w9_65.selected 200 = some (1605, true)) ∧ (w9_65.headOf 1605 = some 9) ∧ (w9_65.selectionsNow < 4) ∧ ((w9_65.readDesc 9).1 = false)) := ⟨by rintro q h; cases h; decide, by unfold Clean; decide +kernel, by unfold Clean; decide +kernel, by decide +kernel, by decide +kernel, by decide +kernel, by decide +kernel⟩

/-- The premises of QueuesEgressFlowsAndHostPackets hold together, part 2. -/
theorem premises_QueuesEgressFlowsAndHostPackets_2 :
    ((w9_95.request 1 1558 = some fKey) ∧ (w9_95.blocksOff = false) ∧ (w9_95.findFlow (u8 fKey 0) (cmdKey fKey) (w9_95.cmdHash fKey) = none)) ∧
    ((w9_100.request 1 1559 = some fGet) ∧ (keyStray (u8 fGet 0) (cmdKey fGet) = false) ∧ (w9_100.findFlow (u8 fGet 0) (cmdKey fGet) (w9_100.cmdHash fGet) = some fIdx) ∧ (w9_100.flowAt fIdx = some fEnt2)) ∧
    ((w9_103.request 1 1559 = some fGet) ∧ (w9_103.findFlow (u8 fGet 0) (cmdKey fGet) (w9_103.cmdHash fGet) = none)) ∧
    ((w9_113.request 1 1576 = some [6#8, 0#8, 0#8, 0#8]) ∧ (w9_113.blocksOff = false) ∧ (List.find? (fun r => r.1 == u32 [6#8, 0#8, 0#8, 0#8] 0) w9_113.pk.received = none)) ∧
    ((w9_87.request 1 1557 = some fKey) ∧ (w9_87.blocksOff = false) ∧ (w9_87.actionBad w9_87.profile (u64 fKey 48) = false) ∧ (w9_87.findFlow (u8 fKey 0) (cmdKey fKey) (w9_87.cmdHash fKey) = some fIdx) ∧ (w9_87.flowAt fIdx = some fEnt)) ∧
    ((w9_73.nextTurnout = some (200, true)) ∧ (w9_73.selected 200 = some (1605, false)) ∧ (w9_73.headOf 1605 = some 9) ∧ (4 ≤ w9_73.selectionsNow)) ∧
    ((w9_111.request 1 1576 = some [6#8, 0#8, 0#8, 0#8]) ∧ (w9_111.blocksOff = false) ∧ (List.find? (fun r => r.1 == u32 [6#8, 0#8, 0#8, 0#8] 0) w9_111.pk.received = some (6, 9, 63))) := ⟨by decide +kernel, by decide +kernel, by decide +kernel, by decide +kernel, by decide +kernel, by decide +kernel, by decide +kernel⟩

/-- The premises of QueuesEgressFlowsAndHostPackets hold together, part 3. -/
theorem premises_QueuesEgressFlowsAndHostPackets_3 :
    ((w9_93.request 1 1558 = some fKey) ∧ (w9_93.blocksOff = false) ∧ (w9_93.findFlow (u8 fKey 0) (cmdKey fKey) (w9_93.cmdHash fKey) = some fIdx)) ∧
    ((w9_105.request 1 1575 = some [63#8, 0#8, 0#8, 0#8]) ∧ (w9_105.blocksOff = false) ∧ (w9_105.flag Reg.CQ_CFG_OWNER (u8 [63#8, 0#8, 0#8, 0#8] 0) = false)) ∧
    ((w9_67.nextTurnout = some (200, false)) ∧ (w9_67.selected 200 = some (1605, true)) ∧ (w9_67.headOf 1605 = some 9) ∧ (w9_67.selectionsNow < 4) ∧ ((w9_67.readDesc 9).1 = false)) ∧
    ((tget [] w9_76.pk.egress 200 = [9, 4]) ∧ (w9_76.pkt 9 = some pkE) ∧ (w9_76.fiAt 0 200 = none) ∧ (w9_76.linePacket 200 = true)) ∧
    ((w9_107.request 1 1575 = some [63#8, 0#8, 0#8, 0#8]) ∧ (w9_107.blocksOff = false) ∧ (w9_107.flag Reg.CQ_CFG_OWNER (u8 [63#8, 0#8, 0#8, 0#8] 0) = true) ∧ (w9_107.headOf (2048 + u8 [63#8, 0#8, 0#8, 0#8] 0) = none)) ∧
    ((sFull.request 1 1557 = some fKey) ∧ (sFull.blocksOff = false) ∧ (sFull.actionBad sFull.profile (u64 fKey 48) = false) ∧ (sFull.findFlow (u8 fKey 0) (cmdKey fKey) (sFull.cmdHash fKey) = none) ∧ ((sFull.placeFlow (sFull.cmdHash fKey)).2 = none)) := ⟨by decide +kernel, by decide +kernel, by decide +kernel, by decide +kernel, by decide +kernel, by decide +kernel⟩

/-- The premises of LanesLockAndPortsAlign hold together, part 1. -/
theorem premises_LanesLockAndPortsAlign_1 :
    ((if w9_184.orphanLane 14 = true then w9_184.rxState 14 = 3 else w9_184.flag Reg.PORT_STATUS_ALIGNED 14 = true ∧ (w9_184.portAt 14).isSome = true) ∧ (w9_184.fiAt 3 14 = none) ∧ ((w9_184.lane 14).cws < 8192) ∧ (w9_184.running 4 14 = false) ∧ (5 < 256) ∧ (w9_184.get Reg.TN_CLIENT_KIND 5 = 1) ∧ (14 ∈ w9_184.clientLanesOf 5)) ∧
    ((w9_167.laneLive 23 = true) ∧ (w9_167.bounds 3 23 = (Int.ofNat 10, Int.ofNat 20)) ∧ (10 ≤ 20) ∧ (20 < 256) ∧ (w9_167.rxState 23 = 3) ∧ ((w9_167.lane 23).ctleAt + 1300000 ≤ w9_167.clock) ∧ (max 10 (min 20 9) < w9_167.get Reg.LN_FOM_CTLE 23)) ∧
    ((w9_142.laneLive 23 = true) ∧ (w9_142.rxState 23 = 2) ∧ (w9_142.looped 23 = false) ∧ ((w9_142.lane 23).adaptAt + 299000000 ≤ w9_142.clock)) ∧
    ((w9_172.portAt 14 = some (14, [14, 15])) ∧ (w9_172.flag Reg.PORT_STATUS_ALIGNED 14 = false) ∧ (w9_172.portLocked (14, [14, 15]) = true) ∧ (0 ≤ 250)) ∧
    ((w9_120.laneLive 0 = true) ∧ (w9_120.rxState 0 = 2) ∧ ((if nrz (w9_120.laneRate 0) = true then 1000 else 1400) ≤ 65535) ∧ (nrz (w9_120.laneRate 0) = false)) ∧
    ((w9_144.laneLive 23 = true) ∧ (w9_144.rxState 23 = 3) ∧ (w9_144.looped 23 = false)) := ⟨by decide +kernel, by decide +kernel, by decide +kernel, by decide +kernel, by decide +kernel, by decide +kernel⟩

/-- The premises of LanesLockAndPortsAlign hold together, part 2. -/
theorem premises_LanesLockAndPortsAlign_2 :
    ((8192 ≤ (w9_193.lane 14).cws) ∧ (w9_193.get Reg.PORT_CFG_SER_THR 14 < (w9_193.lane 14).symbs) ∧ (w9_193.flag Reg.PORT_STATUS_HI_SER 14 = false)) ∧
    ((w9_174.portAt 14 = some (14, [14, 15])) ∧ (w9_174.flag Reg.PORT_STATUS_ALIGNED 14 = true) ∧ ((242#8).toNat % 2 ^ (14, [14, 15]).2.length + 1 ≠ 2 ^ (14, [14, 15]).2.length ∨ 250 < 250)) ∧
    ((w9_140.laneLive 23 = true) ∧ (w9_140.rxState 23 = 1)) ∧
    ((8192 ≤ (w9_187.lane 14).cws) ∧ ((w9_187.lane 14).symbs ≤ w9_187.get Reg.PORT_CFG_SER_THR 14)) ∧
    ((w9_157.laneLive 23 = true) ∧ (w9_157.bounds 3 23 = (Int.ofNat 10, Int.ofNat 20)) ∧ (w9_157.rxState 23 = 2)) ∧
    ((c09_132.laneLive 0 = true) ∧ (c09_132.bounds 3 0 = (Int.ofNat 10, Int.ofNat 20)) ∧ (c09_132.rxState 0 = 3) ∧ ((c09_132.lane 0).ctleAt + 1300000 ≤ c09_132.clock) ∧ (c09_132.get Reg.LN_FOM_CTLE < max 10 (min 20 0))) := ⟨by decide +kernel, by decide +kernel, by decide +kernel, by decide +kernel, by decide +kernel, by decide +kernel⟩

/-- The premises of LanePowerStatesAndLaneTests hold together, part 1. -/
theorem premises_LanePowerStatesAndLaneTests_1 :
    ((w9_204.request 1 850 = some [0#8, 192#8, 0#8, 0#8, 1#8, 0#8, 0#8, 0#8]) ∧ ([14, 15] = maskList (u32 [0#8, 192#8, 0#8, 0#8, 1#8, 0#8, 0#8, 0#8] 0) 24) ∧ (w9_204.splitsPort [14, 15] = false) ∧ (∀ l ∈ [14, 15], w9_204.laneFormat l ≠ 0 ∧ w9_204.qState 4 l ≠ 1 ∧ (w9_204.lane l).move = none) ∧ ([] = List.filter (fun l => w9_204.pstate l != u8 [0#8, 192#8, 0#8, 0#8, 1#8, 0#8, 0#8, 0#8] 4) [14, 15])) ∧
    (((w9_211.lane 14).move = some { old := 1, target := 0, t0 := 77 : LaneMove }) ∧ ({ old := 1, target := 0, t0 := 77 : LaneMove }.target = 0) ∧ (w9_211.rxState 14 = 3) ∧ ({ old := 1, target := 0, t0 := 77 : LaneMove }.old ≠ 2 ∨ w9_211.rxState 14 ≠ 3) ∧ (({ old := 1, target := 0, t0 := 77 : LaneMove }.t0 + if { old := 1, target := 0, t0 := 77 : LaneMove }.old = 1 then 26000 else 325000000) ≤ w9_211.clock)) ∧
    ((w9_232.laneFormat 23 = 3) ∧ (w9_232.get Reg.LN_TEST_CHK_PAT 23 ≠ 0) ∧ (w9_232.laneLive 23 = true) ∧ (w9_232.flag Reg.LN_STATUS_PAT_LOCK 23 = false) ∧ (w9_232.rxState 23 = 3)) ∧
    ((w9_238.request 1 851 = some [23#8, 0#8, 9#8, 0#8]) ∧ (u8 [23#8, 0#8, 9#8, 0#8] 0 < 24) ∧ (w9_238.laneFormat (u8 [23#8, 0#8, 9#8, 0#8] 0) = 3) ∧ (u8 [23#8, 0#8, 9#8, 0#8] 1 = 0)) ∧
    (((w9_218.lane 14).move = some { old := 1, target := 2, t0 := 77 : LaneMove }) ∧ ({ old := 1, target := 2, t0 := 77 : LaneMove }.target = 1 ∨ { old := 1, target := 2, t0 := 77 : LaneMove }.target = 2) ∧ (if { old := 1, target := 2, t0 := 77 : LaneMove }.old = 0 then w9_218.qState 4 14 = 2 ∧ (w9_218.lane 14).quietAt + 13000 ≤ w9_218.clock else { old := 1, target := 2, t0 := 77 : LaneMove }.t0 + 13000 ≤ w9_218.clock)) := ⟨by decide +kernel, by decide +kernel, by decide +kernel, by decide +kernel, by decide +kernel⟩

/-- The premises of LanePowerStatesAndLaneTests hold together, part 2. -/
theorem premises_LanePowerStatesAndLaneTests_2 :
    ((w9_234.laneFormat 23 = 3) ∧ (w9_234.get Reg.LN_TEST_CHK_PAT 23 ≠ 0) ∧ (w9_234.laneLive 23 = true) ∧ (w9_234.flag Reg.LN_STATUS_PAT_LOCK 23 = true)) ∧
    ((w9_236.request 1 851 = some [23#8, 0#8, 9#8, 0#8]) ∧ (w9_236.laneFormat (u8 [23#8, 0#8, 9#8, 0#8] 0) ≠ 3)) ∧
    ((w9_241.request 1 851 = some [23#8, 1#8, 9#8, 0#8]) ∧ (u8 [23#8, 1#8, 9#8, 0#8] 0 < 24) ∧ (w9_241.laneFormat (u8 [23#8, 1#8, 9#8, 0#8] 0) = 3) ∧ (u8 [23#8, 1#8, 9#8, 0#8] 1 = 1)) ∧
    ((w9_244.request 1 851 = some [23#8, 2#8, 9#8, 0#8]) ∧ (u8 [23#8, 2#8, 9#8, 0#8] 0 < 24) ∧ (w9_244.laneFormat (u8 [23#8, 2#8, 9#8, 0#8] 0) = 3) ∧ (u8 [23#8, 2#8, 9#8, 0#8] 1 = 2)) ∧
    ((w9_200.request 1 850 = some [0#8, 192#8, 0#8, 0#8, 1#8, 0#8, 0#8, 0#8]) ∧ (w9_200.splitsPort [14, 15] = false) ∧ (∀ l ∈ [14, 15], w9_200.laneFormat l ≠ 0 ∧ w9_200.qState 4 l ≠ 1 ∧ (w9_200.lane l).move = none) ∧ ([14, 15] = List.filter (fun l => w9_200.pstate l != u8 [0#8, 192#8, 0#8, 0#8, 1#8, 0#8, 0#8, 0#8] 4) [14, 15]) ∧ ([14, 15] ≠ [])) := ⟨by decide +kernel, by decide +kernel, by decide +kernel, by decide +kernel, by decide +kernel⟩

/-- The premises of TimingLanesAndModuleMode hold together, part 1. -/
theorem premises_TimingLanesAndModuleMode_1 :
    ((w9_250.flag Reg.TL_CFG_RX_EN 1 = true) ∧ (250 = if w9_250.flag Reg.TL_CFG_RX_INV 1 = true then 1023 - (250#10).toNat else (250#10).toNat) ∧ (false = match if false = true then (w9_250.tlane 1).rxRd else none with | some b => b | none => (decode10 false 250).isNone) ∧ (decode10 false 250 = some ((decode10 false 250).getD (Char10.data 0))) ∧ (((decode10 false 250).getD (Char10.data 0)).isComma = true) ∧ (w9_250.flag Reg.TL_STATUS_SYNC 1 = true)) ∧
    ((w9_274.flag Reg.TL_STATUS_SYNC 1 = true) ∧ (todM.length = 16) ∧ (todCrc todM = be 2 todM 14)) ∧
    ((w9_292.flag Reg.MOD_STATUS_INNER_LOCK (16 + 7) = false) ∧ (w9_292.modLane 7 = true) ∧ (w9_292.laneRate (16 + 7) = 9) ∧ (w9_292.rxState (16 + 7) = 3)) ∧
    ((w9_286.modLane 7 = true) ∧ (w9_286.flag (fallbackBit true) (16 + 7) = true) ∧ (w9_286.sourceFailed 7 true = false) ∧ (w9_286.sourceGood 7 true + 130000 ≤ w9_286.clock)) ∧
    ((w9_296.request 1 866 = some [7#8, 9#8, 0#8, 0#8]) ∧ (w9_296.ln.measure = none) ∧ (w9_296.modLane (u8 [7#8, 9#8, 0#8, 0#8] 0) = true) ∧ (w9_296.rxState (16 + u8 [7#8, 9#8, 0#8, 0#8] 0) = 3)) ∧
    ((sTod.flag Reg.TL_CFG_TX_EN 1 = true) ∧ (sTod.flag Reg.TL_CFG_TOD_TX_EN 1 = true) ∧ ((sTod.tlane 1).sentFor ≠ some sTod.devSec) ∧ (6500000000 ≤ sTod.devTime % 13000000000)) ∧
    ((w9_298.ln.measure = some { mb := 1, lane := 23, n := 9, start := 9 : ModMeasure }) ∧ ((w9_298.mbox { mb := 1, lane := 23, n := 9, start := 9 : ModMeasure }.mb).phase = MbPhase.running) ∧ ({ mb := 1, lane := 23, n := 9, start := 9 : ModMeasure }.lost = false) ∧ ({ mb := 1, lane := 23, n := 9, start := 9 : ModMeasure }.start + w9_298.measureTime { mb := 1, lane := 23, n := 9, start := 9 : ModMeasure } ≤ w9_298.clock)) := ⟨by decide +kernel, by decide +kernel, by decide +kernel, by decide +kernel, by decide +kernel, by decide +kernel, by decide +kernel⟩

/-- The premises of TimingLanesAndModuleMode hold together, part 2. -/
theorem premises_TimingLanesAndModuleMode_2 :
    ((w9_263.flag Reg.TL_STATUS_SYNC 1 = true) ∧ (8 ≤ (w9_263.tlane 1).bad.length) ∧ ((w9_263.tlane 1).moved = true)) ∧
    ((w9_260.flag Reg.TL_CFG_RX_EN 1 = true) ∧ (w9_260.flag Reg.TL_STATUS_SYNC 1 = false) ∧ (3 ≤ (w9_260.tlane 1).commas)) ∧
    (((w9_282.tlane 1).markAt = some 5) ∧ (w9_282.flag Reg.TL_STATUS_MARK_SEEN 1 = true) ∧ (5 + 14300000000 ≤ w9_282.clock)) ∧
    ((w9_266.flag Reg.TL_STATUS_SYNC 1 = true) ∧ ((w9_266.tlane 1).todAt = none)) ∧
    ((w9_284.modLane 7 = true) ∧ (w9_284.flag (fallbackBit true) (16 + 7) = false) ∧ (w9_284.sourceFailed 7 true = true)) ∧
    ((w9_254.flag Reg.TL_CFG_RX_EN 1 = true) ∧ (0 = if w9_254.flag Reg.TL_CFG_RX_INV 1 = true then 1023 - (0#10).toNat else (0#10).toNat) ∧ (false = match if true = true then (w9_254.tlane 1).rxRd else none with | some b => b | none => (decode10 false 0).isNone) ∧ (decode10 false 0 = none) ∧ ((decode10 (!false) 0).isSome = false)) ∧
    (w9_294.flag Reg.MOD_STATUS_INNER_LOCK (16 + 7) = true) := ⟨by decide +kernel, by decide +kernel, by decide +kernel, by decide +kernel, by decide +kernel, by decide +kernel, by decide +kernel⟩

/-- The premises of TimingLanesAndModuleMode hold together, part 3. -/
theorem premises_TimingLanesAndModuleMode_3 :
    ((w9_276.flag Reg.TL_STATUS_SYNC 1 = true) ∧ (false = false ∨ todM.length ≠ 16 ∨ todCrc todM ≠ be 2 todM 14)) ∧
    ((w9_300.ln.measure = some { mb := 1, lane := 23, n := 9, start := 9, lost := true : ModMeasure }) ∧ ((w9_300.mbox { mb := 1, lane := 23, n := 9, start := 9, lost := true : ModMeasure }.mb).phase = MbPhase.running) ∧ ({ mb := 1, lane := 23, n := 9, start := 9, lost := true : ModMeasure }.lost = true)) ∧
    ((w9_256.flag Reg.TL_CFG_RX_EN 1 = true) ∧ (250 = if w9_256.flag Reg.TL_CFG_RX_INV 1 = true then 1023 - (250#10).toNat else (250#10).toNat) ∧ (true = match if true = true then (w9_256.tlane 1).rxRd else none with | some b => b | none => (decode10 false 250).isNone) ∧ (decode10 true 250 = none) ∧ ((decode10 (!true) 250).isSome = true)) ∧
    ((w9_252.flag Reg.TL_CFG_RX_EN 1 = true) ∧ (682 = if w9_252.flag Reg.TL_CFG_RX_INV 1 = true then 1023 - (682#10).toNat else (682#10).toNat) ∧ (true = match if true = true then (w9_252.tlane 1).rxRd else none with | some b => b | none => (decode10 false 682).isNone) ∧ (decode10 true 682 = some ((decode10 true 682).getD (Char10.data 0))) ∧ (((decode10 true 682).getD (Char10.data 0)).isComma = false)) ∧
    ((w9_246.flag Reg.TL_CFG_RX_EN 1 = true) ∧ (250 = if w9_246.flag Reg.TL_CFG_RX_INV 1 = true then 1023 - (250#10).toNat else (250#10).toNat) ∧ (false = match if true = true then (w9_246.tlane 1).rxRd else none with | some b => b | none => (decode10 false 250).isNone)) ∧
    ((w9_248.flag Reg.TL_CFG_RX_EN 1 = true) ∧ (250 = if w9_248.flag Reg.TL_CFG_RX_INV 1 = true then 1023 - (773#10).toNat else (773#10).toNat) ∧ (false = match if false = true then (w9_248.tlane 1).rxRd else none with | some b => b | none => (decode10 false 250).isNone) ∧ (w9_248.flag Reg.TL_STATUS_SYNC 1 = false)) := ⟨by decide +kernel, by decide +kernel, by decide +kernel, by decide +kernel, by decide +kernel, by decide +kernel⟩

/-- The premises of ReferencesDpllAndDeviceTime hold together, part 1. -/
theorem premises_ReferencesDpllAndDeviceTime_1 :
    ((w9_348.flag Reg.FPI_CFG_EN 1 = true) ∧ (pulsePeriod 0 = pulsePeriod (w9_348.get Reg.FPI_CFG_PERIOD 1)) ∧ (w9_348.flag Reg.FPI_STATUS_PRESENT 1 = true) ∧ ((w9_348.fpi 1).fly = some 77777) ∧ (onePeriod (pulsePeriod 0) 77777 w9_348.clock = false) ∧ (((w9_348.fpi 1).outs.any fun b => onePeriod (pulsePeriod 0) b w9_348.clock && (w9_348.fpi 1).outs.any fun a => onePeriod (pulsePeriod 0) a b) = true)) ∧
    ((pulsePeriod 0 = pulsePeriod (w10_57.get Reg.FPI_CFG_PERIOD 1)) ∧ ((w10_57.fpi 1).fly = some 9) ∧ (w10_57.flag Reg.FPI_STATUS_PRESENT 1 = true) ∧ (9 + pulsePeriod 0 + pulseWindow (pulsePeriod 0) < w10_57.clock) ∧ ((w10_57.fpi 1).run < 2)) ∧
    ((w9_333.flag Reg.REF_STATUS_ACTIVE 3 = true) ∧ (w9_333.flag Reg.REF_STATUS_QUALIFIED 3 = false) ∧ ((w9_333.refMon 3).ok = true) ∧ ((w9_333.refMon 3).from_ + 13000000000 * w9_333.get Reg.REF_CFG_QUAL_S 3 ≤ w9_333.clock)) ∧
    ((w9_321.flag Reg.REF_STATUS_ACTIVE 6 = true) ∧ ((w9_321.refMon 6).gateAt + w9_321.gateLen 6 ≤ w9_321.clock) ∧ (w9_321.flag Reg.REF_STATUS_QUALIFIED 6 = true) ∧ ((sint 32 (twos 32 5)).natAbs ≤ 10 * w9_321.get Reg.DPLL_LIMITS_REJECT)) ∧
    ((w9_335.dpll = 1) ∧ (w9_335.tim.acqAt + 26000000000 ≤ w9_335.clock) ∧ (w9_335.bestRef = some w9_335.selRef)) ∧
    ((w9_374.tim.second < w9_374.devSec) ∧ (w9_374.tim.sets = [(1, 500)]) ∧ ((w9_374.mbox 1).phase = MbPhase.running)) ∧
    ((w9_340.tim.hoStart = some 9) ∧ (w9_340.dpll = 3) ∧ (9 + 13000000000 * w9_340.get Reg.HO_CFG_HO_SPEC_S ≤ w9_340.clock)) := ⟨by decide +kernel, by decide +kernel, by decide +kernel, by decide +kernel, by decide +kernel, by decide +kernel, by decide +kernel⟩

/-- The premises of ReferencesDpllAndDeviceTime hold together, part 2. -/
theorem premises_ReferencesDpllAndDeviceTime_2 :
    ((w9_342.flag Reg.FPI_CFG_EN 1 = true) ∧ (pulsePeriod 0 = pulsePeriod (w9_342.get Reg.FPI_CFG_PERIOD 1)) ∧ (w9_342.flag Reg.FPI_STATUS_PRESENT 1 = false) ∧ (((w9_342.fpi 1).edges.any fun a => onePeriod (pulsePeriod 0) a w9_342.clock) = true)) ∧
    ((w9_365.request 1 2056 = some (bytes 8 500)) ∧ (w9_365.get Reg.TIME_CFG_TIME_SRC = 0)) ∧
    ((w9_315.flag Reg.REF_STATUS_ACTIVE 3 = true) ∧ (w9_315.flag Reg.REF_STATUS_QUALIFIED 3 = true)) ∧
    ((w9_338.flag Reg.DPLL_STATUS_HISTORY_OK = false) ∧ (780000000000 ≤ w9_338.gather.tim.gathered)) ∧
    ((w9_363.request 1 2055 = some (bytes 8 (2 ^ 64 - 5))) ∧ (w9_363.get Reg.TIME_CFG_TIME_SRC = 0)) ∧
    (w9_302.flag Reg.REF_STATUS_ACTIVE 3 = false) ∧
    ((w9_372.tim.second < w9_372.devSec) ∧ (w9_372.tim.sets = [])) := ⟨by decide +kernel, by decide +kernel, by decide +kernel, by decide +kernel, by decide +kernel, by decide +kernel, by decide +kernel⟩

/-- The premises of ReferencesDpllAndDeviceTime hold together, part 3. -/
theorem premises_ReferencesDpllAndDeviceTime_3 :
    ((w9_369.request 1 2056 = some (bytes 8 500)) ∧ (w9_369.get Reg.TIME_CFG_TIME_SRC ≠ 0)) ∧
    ((w9_367.request 1 2055 = some (bytes 8 (2 ^ 64 - 5))) ∧ (w9_367.get Reg.TIME_CFG_TIME_SRC ≠ 0)) ∧
    ((w9_331.flag Reg.REF_STATUS_ACTIVE 6 = true) ∧ ((w9_331.refMon 6).gateAt + w9_331.gateLen 6 ≤ w9_331.clock) ∧ (w9_331.flag Reg.REF_STATUS_QUALIFIED 6 = true) ∧ (10 * w9_331.get Reg.DPLL_LIMITS_REJECT < (sint 32 (twos 32 2150)).natAbs)) ∧
    ((pulsePeriod 0 = pulsePeriod (w10_59.get Reg.FPI_CFG_PERIOD 1)) ∧ ((w10_59.fpi 1).fly = some 9) ∧ (w10_59.flag Reg.FPI_STATUS_PRESENT 1 = true) ∧ (9 + pulsePeriod 0 + pulseWindow (pulsePeriod 0) < w10_59.clock) ∧ (2 ≤ (w10_59.fpi 1).run)) ∧
    ((w9_344.flag Reg.FPI_CFG_EN 1 = true) ∧ (pulsePeriod 0 = pulsePeriod (w9_344.get Reg.FPI_CFG_PERIOD 1)) ∧ (w9_344.flag Reg.FPI_STATUS_PRESENT 1 = false) ∧ (((w9_344.fpi 1).edges.any fun a => onePeriod (pulsePeriod 0) a w9_344.clock) = false)) ∧
    ((w9_346.flag Reg.FPI_CFG_EN 1 = true) ∧ (pulsePeriod 0 = pulsePeriod (w9_346.get Reg.FPI_CFG_PERIOD 1)) ∧ (w9_346.flag Reg.FPI_STATUS_PRESENT 1 = true) ∧ ((w9_346.fpi 1).fly = some 1625009) ∧ (onePeriod (pulsePeriod 0) 1625009 w9_346.clock = true)) ∧
    ((w9_350.flag Reg.FPI_CFG_EN 1 = true) ∧ (pulsePeriod 0 = pulsePeriod (w9_350.get Reg.FPI_CFG_PERIOD 1)) ∧ (w9_350.flag Reg.FPI_STATUS_PRESENT 1 = true) ∧ ((w9_350.fpi 1).fly = some 77777) ∧ (onePeriod (pulsePeriod 0) 77777 w9_350.clock = false) ∧ (((w9_350.fpi 1).outs.any fun b => onePeriod (pulsePeriod 0) b w9_350.clock && (w9_350.fpi 1).outs.any fun a => onePeriod (pulsePeriod 0) a b) = false)) := ⟨by decide +kernel, by decide +kernel, by decide +kernel, by decide +kernel, by decide +kernel, by decide +kernel, by decide +kernel⟩

/-- The premises of GaugeTapAndPinEdges hold together, part 1. -/
theorem premises_GaugeTapAndPinEdges_1 :
    (tapWords.length = 16383 * 2 ^ 0 + 4) ∧
    ((w9_404.gau.chans = [31, 2]) ∧ (31 < 32) ∧ (w9_404.gau.start + 13000 ≤ w9_404.clock) ∧ (4095 = match none with | none => 4095 | some true => 4095 | some false => 0) ∧ (w9_404.flag Reg.ACC_STATUS_FULL 31 = false) ∧ (w9_404.get Reg.ACC_STATUS_N 31 < 1048575) ∧ (w9_404.gau.urgent = some 1) ∧ ((w9_404.mbox 1).phase = MbPhase.running)) ∧
    ((0 = sTap.get Reg.TAP_CFG_STAGES) ∧ (sTap.tap.hit = some (3, 4)) ∧ (sTap.flag Reg.TAP_STATUS_CAPTURING = true) ∧ (([] : List (BitVec 64)).length = 22 * (2 ^ 0 - 1)) ∧ (3 + 16384 * 13000000 / max 1 sTap.tapOut ≤ sTap.clock)) ∧
    ((w9_386.request 1 322 = some []) ∧ (w9_386.flag Reg.GAUGE_CFG_EN = true) ∧ (w9_386.gaugeBusy = true) ∧ (w9_386.flag Reg.GAUGE_STATUS_PENDING = true)) ∧
    ((w9_384.flag Reg.GAUGE_CFG_EN = true) ∧ (w9_384.get Reg.GAUGE_CFG_TRIG_SRC = 0 ∧ w9_384.gau.lastTrig + 13000 * w9_384.get Reg.GAUGE_CFG_SEQ_PERIOD_US ≤ w9_384.clock ∨ w9_384.get Reg.GAUGE_CFG_TRIG_SRC = 1 ∧ w9_384.frm.started = true ∧ w9_384.gau.lastTrig < w9_384.frm.lastMf) ∧ (w9_384.gaugeBusy = true) ∧ (w9_384.flag Reg.GAUGE_STATUS_PENDING = true)) ∧
    ((w9_424.request 1 326 = some []) ∧ (w9_424.flag Reg.TAP_STATUS_ARMED = false) ∧ (w9_424.flag Reg.TAP_STATUS_CAPTURING = false) ∧ (w9_424.tapAbsent = false)) ∧
    ((w9_418.request 1 323 = some [31#8, 0#8, 0#8, 0#8]) ∧ (w9_418.flag Reg.GAUGE_CFG_EN = true) ∧ (w9_418.gaugeBusy = true)) := ⟨tapWords_length.trans (by decide +kernel), by decide +kernel, by decide +kernel, by decide +kernel, by decide +kernel, by decide +kernel, by decide +kernel⟩

/-- The premises of GaugeTapAndPinEdges hold together, part 2. -/
theorem premises_GaugeTapAndPinEdges_2 :
    ((w9_412.gaugeBusy = true) ∧ (w9_412.gau.chans = [])) ∧
    ((w9_430.flag Reg.TAP_STATUS_ARMED = true) ∧ (w9_430.tap.hit ≠ none)) ∧
    ((w9_437.pinLevel 15 ≠ true) ∧ (w9_437.get Reg.GPIO_CFG_EDGE 15 = 3 ∨ w9_437.get Reg.GPIO_CFG_EDGE 15 = if true = true then 1 else 2)) ∧
    ((w9_420.request 1 324 = some [5#8, 0#8, 0#8, 128#8, 0#8, 0#8, 0#8, 0#8]) ∧ (u8 [5#8, 0#8, 0#8, 128#8, 0#8, 0#8, 0#8, 0#8] 4 ≠ 1)) ∧
    ((w9_388.request 1 322 = some []) ∧ (w9_388.flag Reg.GAUGE_CFG_EN = false)) ∧
    ((w9_416.request 1 323 = some [31#8, 0#8, 0#8, 0#8]) ∧ (w9_416.flag Reg.GAUGE_CFG_EN = true) ∧ (w9_416.gaugeBusy = false)) ∧
    ((w9_422.request 1 324 = some [5#8, 0#8, 0#8, 128#8, 1#8, 0#8, 0#8, 0#8]) ∧ (u8 [5#8, 0#8, 0#8, 128#8, 1#8, 0#8, 0#8, 0#8] 4 = 1)) := ⟨by decide +kernel, by decide +kernel, by decide +kernel, by decide +kernel, by decide +kernel, by decide +kernel, by decide +kernel⟩

/-- The premises of GaugeTapAndPinEdges hold together, part 3. -/
theorem premises_GaugeTapAndPinEdges_3 :
    ((w9_428.request 1 326 = some []) ∧ (w9_428.flag Reg.TAP_STATUS_ARMED = true ∨ w9_428.flag Reg.TAP_STATUS_CAPTURING = true) ∧ (w9_428.flag Reg.TAP_STATUS_ARMED = false)) ∧
    ((w9_378.request 1 322 = some []) ∧ (w9_378.flag Reg.GAUGE_CFG_EN = true) ∧ (w9_378.gaugeBusy = false)) ∧
    ((w9_382.request 1 322 = some []) ∧ (w9_382.flag Reg.GAUGE_CFG_EN = true) ∧ (w9_382.gaugeBusy = true) ∧ (w9_382.flag Reg.GAUGE_STATUS_PENDING = false)) ∧
    ((w9_393.gau.chans = [31, 2]) ∧ (w9_393.gau.start + 13000 ≤ w9_393.clock) ∧ (w9_393.flag Reg.ACC_STATUS_FULL 31 = false) ∧ (w9_393.get Reg.ACC_STATUS_N 31 < 1048575) ∧ (w9_393.gau.urgent = none)) ∧
    ((w9_376.flag Reg.GAUGE_CFG_EN = true) ∧ (w9_376.get Reg.GAUGE_CFG_TRIG_SRC = 0 ∧ w9_376.gau.lastTrig + 13000 * w9_376.get Reg.GAUGE_CFG_SEQ_PERIOD_US ≤ w9_376.clock ∨ w9_376.get Reg.GAUGE_CFG_TRIG_SRC = 1 ∧ w9_376.frm.started = true ∧ w9_376.gau.lastTrig < w9_376.frm.lastMf) ∧ (w9_376.gaugeBusy = false)) ∧
    ((w9_380.flag Reg.GAUGE_CFG_EN = true) ∧ (w9_380.get Reg.GAUGE_CFG_TRIG_SRC = 0 ∧ w9_380.gau.lastTrig + 13000 * w9_380.get Reg.GAUGE_CFG_SEQ_PERIOD_US ≤ w9_380.clock ∨ w9_380.get Reg.GAUGE_CFG_TRIG_SRC = 1 ∧ w9_380.frm.started = true ∧ w9_380.gau.lastTrig < w9_380.frm.lastMf) ∧ (w9_380.gaugeBusy = true) ∧ (w9_380.flag Reg.GAUGE_STATUS_PENDING = false)) := ⟨by decide +kernel, by decide +kernel, by decide +kernel, by decide +kernel, by decide +kernel, by decide +kernel⟩

/-- The premises of SamplesTestAccessAndInjectors hold together, part 1. -/
theorem premises_SamplesTestAccessAndInjectors_1 :
    (u8 ([3#8, 1#8, 0#8, 0#8] ++ List.replicate 96 7#8) 1 = 1 ∨ ∀ (i : Nat), u8 ([3#8, 1#8, 0#8, 0#8] ++ List.replicate 96 7#8) 2 ≤ i → i < 96 → u8 ([3#8, 1#8, 0#8, 0#8] ++ List.replicate 96 7#8) (4 + i) = 0) ∧
    (u8 ([1#8, 0#8, 3#8, 0#8, 65#8, 66#8, 67#8] ++ List.replicate 93 0#8) 1 = 1 ∨ ∀ (i : Nat), u8 ([1#8, 0#8, 3#8, 0#8, 65#8, 66#8, 67#8] ++ List.replicate 93 0#8) 2 ≤ i → i < 96 → u8 ([1#8, 0#8, 3#8, 0#8, 65#8, 66#8, 67#8] ++ List.replicate 93 0#8) (4 + i) = 0) ∧
    ((w9_502.request 1 2576 = some [1#8, 1#8, 0#8, 0#8]) ∧ (u8 [1#8, 1#8, 0#8, 0#8] 0 = 1) ∧ (1 = u8 [1#8, 1#8, 0#8, 0#8] 1) ∧ (w9_502.test.selfTest = none) ∧ (w9_502.changing = false) ∧ (w9_502.blocksOff = false) ∧ (∀ j < 32, w9_502.flag Reg.LAT_STATUS_HELD j = false) ∧ (List.filter (fun j => decide (j ≠ 1)) (w9_502.latsIn 0) ≠ []) ∧ (fwNeed w9_502.mode ≤ (List.filter (fun j => decide (j ≠ 1)) (w9_502.latsIn 1)).length) ∧ (w9_502.qState 2 1 ≠ 1) ∧ (w9_502.qState 2 1 = 0)) ∧
    ((w9_481.request 1 2562 = some ([3#8, 1#8, 0#8, 0#8] ++ List.replicate 96 7#8)) ∧ (w9_481.flag Reg.TEST_STATUS_UNLOCK_BLOCKED = false) ∧ (w9_481.get Reg.TEST_STATUS_LEVEL < u8 ([3#8, 1#8, 0#8, 0#8] ++ List.replicate 96 7#8) 0) ∧ (¬(w9_481.test.otp.debugDisable = true ∧ 2 ≤ u8 ([3#8, 1#8, 0#8, 0#8] ++ List.replicate 96 7#8) 0)) ∧ (¬(w9_481.test.otp.vendorDisable = true ∧ u8 ([3#8, 1#8, 0#8, 0#8] ++ List.replicate 96 7#8) 1 = 1)) ∧ (u8 ([3#8, 1#8, 0#8, 0#8] ++ List.replicate 96 7#8) 0 = 3) ∧ (u8 ([3#8, 1#8, 0#8, 0#8] ++ List.replicate 96 7#8) 0 = 3 → w9_481.quiet = true) ∧ (false = if u8 ([3#8, 1#8, 0#8, 0#8] ++ List.replicate 96 7#8) 1 = 1 then w9_481.vendorOk (u8 ([3#8, 1#8, 0#8, 0#8] ++ List.replicate 96 7#8) 0) (List.drop 4 ([3#8, 1#8, 0#8, 0#8] ++ List.replicate 96 7#8)) else w9_481.passwordOk (u8 ([3#8, 1#8, 0#8, 0#8] ++ List.replicate 96 7#8) 0) (List.take (u8 ([3#8, 1#8, 0#8, 0#8] ++ List.replicate 96 7#8) 2) (List.drop 4 ([3#8, 1#8, 0#8, 0#8] ++ List.replicate 96 7#8)))) ∧ (u8 ([3#8, 1#8, 0#8, 0#8] ++ List.replicate 96 7#8) 1 = 1)) ∧
    ((w9_514.request 1 2592 = some ([0#8, 200#8, 1#8, 3#8, 1#8, 0#8, 9#8, 0#8] ++ bytes 8 9)) ∧ (w9_514.get Reg.TEST_STATUS_LEVEL ≠ 0) ∧ (¬(u8 ([0#8, 200#8, 1#8, 3#8, 1#8, 0#8, 9#8, 0#8] ++ bytes 8 9) 3 = 0 ∧ u64 ([0#8, 200#8, 1#8, 3#8, 1#8, 0#8, 9#8, 0#8] ++ bytes 8 9) 8 = 0)) ∧ (w9_514.fiBad (u8 ([0#8, 200#8, 1#8, 3#8, 1#8, 0#8, 9#8, 0#8] ++ bytes 8 9) 0) (u8 ([0#8, 200#8, 1#8, 3#8, 1#8, 0#8, 9#8, 0#8] ++ bytes 8 9) 1) (u8 ([0#8, 200#8, 1#8, 3#8, 1#8, 0#8, 9#8, 0#8] ++ bytes 8 9) 2) = false) ∧ (w9_514.fiAt (u8 ([0#8, 200#8, 1#8, 3#8, 1#8, 0#8, 9#8, 0#8] ++ bytes 8 9) 0) (u8 ([0#8, 200#8, 1#8, 3#8, 1#8, 0#8, 9#8, 0#8] ++ bytes 8 9) 1) = none) ∧ (2 < 8) ∧ (w9_514.injector 2 = none) ∧ (∀ k < 2, w9_514.injector k ≠ none)) ∧
    ((w9_500.request 1 2576 = some [3#8, 0#8, 0#8, 0#8]) ∧ (u8 [3#8, 0#8, 0#8, 0#8] 0 = 2 ∨ u8 [3#8, 0#8, 0#8, 0#8] 0 = 3) ∧ (w9_500.test.selfTest = none) ∧ (w9_500.changing = false) ∧ (w9_500.blocksOff = false) ∧ (w9_500.quiet = true)) ∧
    ((w9_510.test.selfTest = some { mb := 1, kind := 3, target := 0, start := some 9 : SelfTest }) ∧ ({ mb := 1, kind := 3, target := 0, start := some 9 : SelfTest }.start = some 9) ∧ (1 ≤ { mb := 1, kind := 3, target := 0, start := some 9 : SelfTest }.kind) ∧ ({ mb := 1, kind := 3, target := 0, start := some 9 : SelfTest }.kind ≤ 3) ∧ ((9 + if { mb := 1, kind := 3, target := 0, start := some 9 : SelfTest }.kind = 1 then 39000000 else if { mb := 1, kind := 3, target := 0, start := some 9 : SelfTest }.kind = 2 then 0 else 650000000) ≤ w9_510.clock)) := ⟨.inl (by decide), .inr (fun i a b => password_end i a b), by decide +kernel, by decide +kernel, by decide +kernel, by decide +kernel, by decide +kernel⟩

/-- The premises of SamplesTestAccessAndInjectors hold together, part 2. -/
theorem premises_SamplesTestAccessAndInjectors_2 :
    (((w9_454.sampler 31).tag = some tg1) ∧ (tg1.exc = true ∨ tg1.discard = true ∨ ∃ c, tg1.fin = some c ∧ c ≤ w9_454.latNow 31) ∧ (1024 ≤ w9_454.perf.records.length) ∧ (w9_454.flag Reg.PERF_SAMPLE_CFG_WRAP = true)) ∧
    ((w9_495.request 1 2565 = some ([4#8, 0#8, 0#8, 0#8] ++ List.replicate 32 7#8)) ∧ (w9_495.get Reg.TEST_STATUS_LEVEL ≠ 0) ∧ (w9_495.test.write = none) ∧ (w9_495.test.otp.written (u8 ([4#8, 0#8, 0#8, 0#8] ++ List.replicate 32 7#8) 0) = false)) ∧
    ((w9_525.injector 7 = some injB) ∧ (injB.start + 13000000000 * injB.timeoutS ≤ w9_525.clock) ∧ (injB.held = some { left := 1, last := 13000000009 : FiHeld }) ∧ ({ left := 1, last := 13000000009 : FiHeld }.last + 130000 ≤ w9_525.clock)) ∧
    ((w9_462.request 1 338 = some [0#8, 0#8, 0#8, 0#8, 1#8, 0#8, 0#8, 0#8]) ∧ (u32 [0#8, 0#8, 0#8, 0#8, 1#8, 0#8, 0#8, 0#8] 0 = 0) ∧ (u32 [0#8, 0#8, 0#8, 0#8, 1#8, 0#8, 0#8, 0#8] 0 ≠ 0 ∨ bitsOf (u8 [0#8, 0#8, 0#8, 0#8, 1#8, 0#8, 0#8, 0#8] 4) 0 1 = 1) ∧ (bitsOf (u8 [0#8, 0#8, 0#8, 0#8, 1#8, 0#8, 0#8, 0#8] 4) 0 1 = 1)) ∧
    ((w9_489.test.write = some { mb := 1, field := 1, value := List.replicate 32 7#8, start := 9 : OtpWrite }) ∧ ({ mb := 1, field := 1, value := List.replicate 32 7#8, start := 9 : OtpWrite }.start + 260000000 ≤ w9_489.clock) ∧ ((w9_489.mbox { mb := 1, field := 1, value := List.replicate 32 7#8, start := 9 : OtpWrite }.mb).phase = MbPhase.running) ∧ ({ mb := 1, field := 1, value := List.replicate 32 7#8, start := 9 : OtpWrite }.field = 1)) ∧
    ((w9_469.request 1 2561 = some []) ∧ (w9_469.flag Reg.TEST_STATUS_UNLOCK_BLOCKED = false) ∧ (w9_469.test.otp.vendorDisable = false)) ∧
    (((w9_444.sampler 0).tag = none) ∧ ((w9_444.sampler 0).armedAt = some 9) ∧ (w9_444.samplerOn 0 = true) ∧ (w9_444.tagCandidate 0 9 = some (0, let __src := tk 1#64 2#64 3#64; { pkt := __src.pkt, prog := __src.prog, pc := __src.pc, regs := __src.regs, issued := __src.issued, budget := __src.budget, cntRead := __src.cntRead, data := __src.data, poison := __src.poison, shift := __src.shift, tail := __src.tail, hdrSel := __src.hdrSel, cntSel := __src.cntSel, emits := __src.emits, released := __src.released, waiting := __src.waiting, dmem := __src.dmem, home := __src.home, start := __src.start, ready := __src.ready, fetchAt := 10, atomAt := __src.atomAt : Machine.Task }))) := ⟨by decide +kernel, by decide +kernel, by decide +kernel, by decide +kernel, by decide +kernel, by decide +kernel, by decide +kernel⟩

/-- The premises of SamplesTestAccessAndInjectors hold together, part 3. -/
theorem premises_SamplesTestAccessAndInjectors_3 :
    ((w9_485.request 1 2563 = some []) ∧ (w9_485.get Reg.TEST_STATUS_LEVEL ≠ 0)) ∧
    ((w9_471.test.nonce = some ([1#8, 2#8], 9)) ∧ (9 + 780000000000 ≤ w9_471.clock)) ∧
    ((w9_516.request 1 2593 = some [1#8, 0#8, 0#8, 0#8]) ∧ (u8 [1#8, 0#8, 0#8, 0#8] 0 < 8)) ∧
    (w9_465.request 1 339 = some [2#8, 0#8, 0#8, 0#8]) ∧
    ((w9_518.request 1 2593 = some [255#8, 0#8, 0#8, 0#8]) ∧ (u8 [255#8, 0#8, 0#8, 0#8] 0 = 255)) ∧
    (((w9_447.sampler 31).tag = some tg1) ∧ (tg1.exc = true ∨ tg1.discard = true ∨ ∃ c, tg1.fin = some c ∧ c ≤ w9_447.latNow 31) ∧ (w9_447.perf.records.length < 1024)) ∧
    ((w9_456.request 1 338 = some [0#8, 0#8, 0#8, 0#8, 0#8, 0#8, 0#8, 0#8]) ∧ (u32 [0#8, 0#8, 0#8, 0#8, 0#8, 0#8, 0#8, 0#8] 0 = 0) ∧ (bitsOf (u8 [0#8, 0#8, 0#8, 0#8, 0#8, 0#8, 0#8, 0#8] 4) 0 1 = 0)) := ⟨by decide +kernel, by decide +kernel, by decide +kernel, by decide +kernel, by decide +kernel, by decide +kernel, by decide +kernel⟩

/-- The premises of SamplesTestAccessAndInjectors hold together, part 4. -/
theorem premises_SamplesTestAccessAndInjectors_4 :
    (((w9_452.sampler 31).tag = some tg1) ∧ (tg1.exc = true ∨ tg1.discard = true ∨ ∃ c, tg1.fin = some c ∧ c ≤ w9_452.latNow 31) ∧ (1024 ≤ w9_452.perf.records.length) ∧ (w9_452.flag Reg.PERF_SAMPLE_CFG_WRAP = false)) ∧
    ((w9_497.test.write = some { mb := 1, field := 4, value := List.replicate 32 7#8, start := 9 : OtpWrite }) ∧ ({ mb := 1, field := 4, value := List.replicate 32 7#8, start := 9 : OtpWrite }.start + 260000000 ≤ w9_497.clock) ∧ ((w9_497.mbox { mb := 1, field := 4, value := List.replicate 32 7#8, start := 9 : OtpWrite }.mb).phase = MbPhase.running) ∧ ({ mb := 1, field := 4, value := List.replicate 32 7#8, start := 9 : OtpWrite }.field = 4)) ∧
    ((c09_493.test.write = some { mb := 1, field := 2, value := List.replicate 32 7#8, start := 9 : OtpWrite }) ∧ ({ mb := 1, field := 2, value := List.replicate 32 7#8, start := 9 : OtpWrite }.start + 260000000 ≤ c09_493.clock) ∧ ((c09_493.mbox { mb := 1, field := 2, value := List.replicate 32 7#8, start := 9 : OtpWrite }.mb).phase = MbPhase.running) ∧ ({ mb := 1, field := 2, value := List.replicate 32 7#8, start := 9 : OtpWrite }.field = 2)) ∧
    ((c09_495.test.write = some { mb := 1, field := 3, value := List.replicate 32 7#8, start := 9 : OtpWrite }) ∧ ({ mb := 1, field := 3, value := List.replicate 32 7#8, start := 9 : OtpWrite }.start + 260000000 ≤ c09_495.clock) ∧ ((c09_495.mbox { mb := 1, field := 3, value := List.replicate 32 7#8, start := 9 : OtpWrite }.mb).phase = MbPhase.running) ∧ ({ mb := 1, field := 3, value := List.replicate 32 7#8, start := 9 : OtpWrite }.field = 3)) ∧
    ((w9_473.request 1 2562 = some ([1#8, 0#8, 3#8, 0#8, 65#8, 66#8, 67#8] ++ List.replicate 93 0#8)) ∧ (w9_473.flag Reg.TEST_STATUS_UNLOCK_BLOCKED = false) ∧ (w9_473.get Reg.TEST_STATUS_LEVEL < u8 ([1#8, 0#8, 3#8, 0#8, 65#8, 66#8, 67#8] ++ List.replicate 93 0#8) 0) ∧ (¬(w9_473.test.otp.debugDisable = true ∧ 2 ≤ u8 ([1#8, 0#8, 3#8, 0#8, 65#8, 66#8, 67#8] ++ List.replicate 93 0#8) 0)) ∧ (¬(w9_473.test.otp.vendorDisable = true ∧ u8 ([1#8, 0#8, 3#8, 0#8, 65#8, 66#8, 67#8] ++ List.replicate 93 0#8) 1 = 1)) ∧ (u8 ([1#8, 0#8, 3#8, 0#8, 65#8, 66#8, 67#8] ++ List.replicate 93 0#8) 0 = 3 → w9_473.quiet = true) ∧ (true = if u8 ([1#8, 0#8, 3#8, 0#8, 65#8, 66#8, 67#8] ++ List.replicate 93 0#8) 1 = 1 then w9_473.vendorOk (u8 ([1#8, 0#8, 3#8, 0#8, 65#8, 66#8, 67#8] ++ List.replicate 93 0#8) 0) (List.drop 4 ([1#8, 0#8, 3#8, 0#8, 65#8, 66#8, 67#8] ++ List.replicate 93 0#8)) else w9_473.passwordOk (u8 ([1#8, 0#8, 3#8, 0#8, 65#8, 66#8, 67#8] ++ List.replicate 93 0#8) 0) (List.take (u8 ([1#8, 0#8, 3#8, 0#8, 65#8, 66#8, 67#8] ++ List.replicate 93 0#8) 2) (List.drop 4 ([1#8, 0#8, 3#8, 0#8, 65#8, 66#8, 67#8] ++ List.replicate 93 0#8))))) ∧
    ((w9_477.request 1 2562 = some ([1#8, 0#8, 3#8, 0#8, 65#8, 66#8, 67#8] ++ List.replicate 93 0#8)) ∧ (w9_477.flag Reg.TEST_STATUS_UNLOCK_BLOCKED = false) ∧ (w9_477.get Reg.TEST_STATUS_LEVEL < u8 ([1#8, 0#8, 3#8, 0#8, 65#8, 66#8, 67#8] ++ List.replicate 93 0#8) 0) ∧ (¬(w9_477.test.otp.debugDisable = true ∧ 2 ≤ u8 ([1#8, 0#8, 3#8, 0#8, 65#8, 66#8, 67#8] ++ List.replicate 93 0#8) 0)) ∧ (¬(w9_477.test.otp.vendorDisable = true ∧ u8 ([1#8, 0#8, 3#8, 0#8, 65#8, 66#8, 67#8] ++ List.replicate 93 0#8) 1 = 1)) ∧ (u8 ([1#8, 0#8, 3#8, 0#8, 65#8, 66#8, 67#8] ++ List.replicate 93 0#8) 0 = 3 → w9_477.quiet = true) ∧ (false = if u8 ([1#8, 0#8, 3#8, 0#8, 65#8, 66#8, 67#8] ++ List.replicate 93 0#8) 1 = 1 then w9_477.vendorOk (u8 ([1#8, 0#8, 3#8, 0#8, 65#8, 66#8, 67#8] ++ List.replicate 93 0#8) 0) (List.drop 4 ([1#8, 0#8, 3#8, 0#8, 65#8, 66#8, 67#8] ++ List.replicate 93 0#8)) else w9_477.passwordOk (u8 ([1#8, 0#8, 3#8, 0#8, 65#8, 66#8, 67#8] ++ List.replicate 93 0#8) 0) (List.take (u8 ([1#8, 0#8, 3#8, 0#8, 65#8, 66#8, 67#8] ++ List.replicate 93 0#8) 2) (List.drop 4 ([1#8, 0#8, 3#8, 0#8, 65#8, 66#8, 67#8] ++ List.replicate 93 0#8)))) ∧ (2 ≤ w9_477.test.fails)) := ⟨by decide +kernel, by decide +kernel, by decide +kernel, by decide +kernel, by decide +kernel, by decide +kernel⟩

/-- The premises of SettledAfterEveryStep hold together: a settled state and its step. -/
theorem premises_SettledAfterEveryStep : Settled State.reset ∧ ∃ t, step State.reset = .next t := by
  refine ⟨⟨.inr (by decide +kernel), by unfold NoStaleMessage; decide +kernel⟩, ?_⟩
  exact ⟨_, rfl⟩

end Sys2Proof.Tests
end

section
/-! SUPPORT. Direct writes (R11, R14): what a write leaves in a plain word, and what its accesses leave alone. -/

namespace Sys2Proof.Machine

theorem testBit_allOnes_xor {k : Nat} (m : Nat) (hk : k < 32) : (0xFFFFFFFF ^^^ m).testBit k = !m.testBit k := by
  have h : (0xFFFFFFFF : Nat).testBit k = true := by
    rw [show (0xFFFFFFFF : Nat) = 2 ^ 32 - 1 from rfl, Nat.testBit_two_pow_sub_one]
    exact decide_eq_true hk
  rw [Nat.testBit_xor, h, Bool.true_xor]

/-- A direct write bit by bit: kept or taken over, then cleared, then set again by an event of the same cycle (R11, R12). -/
theorem testBit_writeBits (d : RegDesc) (old v racing : Nat) {k : Nat} (hk : k < 32) :
    (writeBits d old v racing).testBit k =
      ((old.testBit k && !d.rw.testBit k || v.testBit k && d.rw.testBit k) && !(v.testBit k && d.w1c.testBit k) ||
        racing.testBit k && d.w1c.testBit k) := by
  simp only [writeBits, Nat.testBit_or, Nat.testBit_and, testBit_allOnes_xor _ hk]

/-- With no event in the same cycle, a direct write acts by the types of the bits (R11). -/
theorem written_writeBits (d : RegDesc) (v x : Word) : Written d v x (BitVec.ofNat 32 (writeBits d x.toNat v.toNat 0)) := by
  intro k hk
  have hbit : (BitVec.ofNat 32 (writeBits d x.toNat v.toNat 0)).getLsbD k =
      ((x.getLsbD k && !d.rw.testBit k || v.getLsbD k && d.rw.testBit k) && !(v.getLsbD k && d.w1c.testBit k)) := by
    rw [BitVec.getLsbD_ofNat, testBit_writeBits d _ _ _ hk]
    simp [hk, BitVec.testBit_toNat]
  refine ⟨fun hrw hw1c => ?_, fun hrw hw1c => ?_, fun hrw hw1c => ?_⟩ <;> rw [hbit, hrw, hw1c] <;> simp

/-- A direct write to a plain word counts once where the word has a TX field, and then stores the word by the types of its bits. -/
theorem directWrite_plain (s : State) {a : Nat} (v racing : Word) {d : RegDesc} (ha : PlainWord a) (hclip : a ≠ 0x150014)
    (hd : findDesc regDescs a = some d) (hsc : d.sc = 0) :
    s.directWrite a v racing =
      let u := if d.tx = 0 then s else s.bump Cnt.TX_WRITE_IGNORED
      u.setReg a (BitVec.ofNat 32 (writeBits d (u.reg a).toNat v.toNat racing.toNat)) := by
  obtain ⟨hwin, hmsix, hthresh, hpop⟩ := ha
  simp [State.directWrite, hwin, hmsix, hthresh, hpop, hclip, hd, hsc]

@[simp] theorem mdioAccess_reg (s : State) (via : Iface) (a : Nat) (v : Word) (b : Nat) : (s.mdioAccess via a v).reg b = s.reg b := by
  unfold State.mdioAccess
  split
  · exact setIface_reg _ _ _ _
  · rfl

@[simp] theorem mdioAccess_count (s : State) (via : Iface) (a : Nat) (v : Word) (c : Ctr) (i j : Nat) :
    (s.mdioAccess via a v).count c i j = s.count c i j :=
  count_eq_of_reg s _ c i j fun b _ => mdioAccess_reg s via a v b

theorem RegsKept.of_nil {s t : State} (h : RegsKept [] s t) {a : Nat} (ha : a ∉ squelchWords) : t.reg a = s.reg a :=
  h a List.not_mem_nil ha

theorem RegsKept.count {l : List Nat} {s t : State} (h : RegsKept l s t) (c : Ctr) (i j : Nat)
    (hc : ∀ a ∈ c.wordsOf i j, a ∉ l ∧ a ∉ squelchWords) : t.count c i j = s.count c i j :=
  count_eq_of_reg s t c i j fun a ha => h a (hc a ha).1 (hc a ha).2

theorem count_setReg_ne (s : State) {a : Nat} (v : Word) (c : Ctr) (i j : Nat) (h : a ∉ c.wordsOf i j) :
    (s.setReg a v).count c i j = s.count c i j :=
  count_eq_of_reg s _ c i j fun _ hb => reg_setReg_ne s v fun hba => h (hba ▸ hb)

/-- The end of a command leaves the register words of the command's state, but for those in which a squelch shows. -/
theorem done_keeps_regs (old new : State) : ∃ t, done old new = .next t ∧ RegsKept [] new t := by
  obtain ⟨r, l, m, b, hdone, hregs⟩ := done_eq old new
  exact ⟨_, hdone, hregs⟩

/-! ### TX_FIELD_WRITE (R14) -/

/-- The word of TX_WRITE_IGNORED has no TX field, so no word that has one is the counter's. -/
theorem not_mem_txWriteIgnored_words {a : Nat} {d : RegDesc} (hd : findDesc regDescs a = some d) (htx : d.tx ≠ 0) :
    a ∉ Cnt.TX_WRITE_IGNORED.wordsOf 0 0 := by
  intro ha
  have h : ∀ b ∈ Cnt.TX_WRITE_IGNORED.wordsOf 0 0, (findDesc regDescs b).all (fun e => e.tx == 0) = true := by decide +kernel
  have hd0 := h a ha
  rw [hd] at hd0
  exact htx (by simpa using hd0)

theorem txWriteIgnored_words_not_squelch : ∀ a ∈ Cnt.TX_WRITE_IGNORED.wordsOf 0 0, a ∉ squelchWords := by decide

/-- A direct write to a plain word with a TX field counts once, and stores the word by the types of its bits. -/
theorem directWrite_txWord (s : State) {a : Nat} (v : Word) {d : RegDesc} (ha : PlainWord a) (hclip : a ≠ 0x150014)
    (hd : findDesc regDescs a = some d) (htx : d.tx ≠ 0) (hsc : d.sc = 0) :
    s.directWrite a v =
      (s.bump Cnt.TX_WRITE_IGNORED).setReg a (BitVec.ofNat 32 (writeBits d (s.reg a).toNat v.toNat 0)) := by
  rw [directWrite_plain s v 0 ha hclip hd hsc]
  simp only [if_neg htx]
  rw [reg_bump_ne _ _ _ _ _ (not_mem_txWriteIgnored_words hd htx)]
  rfl

/-- On a word with a TX field the write is carried out, and the MDIO window follows it. -/
theorem exec_txFieldWrite (via : Iface) {a : Nat} (v : Word) {d : RegDesc} (s : State) (hd : findDesc regDescs a = some d) (htx : d.tx ≠ 0) :
    exec (.txFieldWrite via a v) s = done s ((s.directWrite a v).mdioAccess via a v) := by
  show execTxFieldWrite via a v s = _
  simp [execTxFieldWrite, hasType, hd, htx]

/-- Settles O9: the command ends, but for the words in which a squelch shows, with the registers of the direct write, which counts in one
word and stores into another. -/
theorem txFieldWriteIsIgnoredAndCounted : Obligations.TxFieldWriteIsIgnoredAndCounted := by
  unfold Obligations.TxFieldWriteIsIgnoredAndCounted
  intro via a v d s hplain hsq hd htx hsc
  have hclip : a ≠ 0x150014 := fun h => hsq (by simp [h, squelchWords])
  have hctr := not_mem_txWriteIgnored_words hd htx
  obtain ⟨t, hdone, hkept⟩ := done_keeps_regs s ((s.directWrite a v).mdioAccess via a v)
  rw [directWrite_txWord s v hplain hclip hd htx hsc] at hkept
  have hreg : ∀ b, b ∉ squelchWords → t.reg b =
      ((s.bump Cnt.TX_WRITE_IGNORED).setReg a (BitVec.ofNat 32 (writeBits d (s.reg a).toNat v.toNat 0))).reg b :=
    fun b hb => (hkept.of_nil hb).trans (mdioAccess_reg _ _ _ _ _)
  refine ⟨t, (exec_txFieldWrite via v s hd htx).trans hdone, ?_, ?_, ?_⟩
  · rw [hkept.count _ 0 0 fun _ hb => ⟨List.not_mem_nil, txWriteIgnored_words_not_squelch _ hb⟩, mdioAccess_count,
      count_setReg_ne _ _ _ _ _ hctr, count_bump_one s _ _ _ _ rfl]
  · rw [hreg a hsq, reg_setReg_self]
    exact written_writeBits d v (s.reg a)
  · intro b hb hbsq
    obtain ⟨hba, hbctr⟩ : b ≠ a ∧ b ∉ Cnt.TX_WRITE_IGNORED.wordsOf 0 0 := by simpa [Ctr.wordsOf, Cnt.TX_WRITE_IGNORED] using hb
    rw [hreg b hbsq, reg_setReg_ne _ _ hba, reg_bump_ne _ _ _ _ _ hbctr]

end Sys2Proof.Machine
end

section
/-! SUPPORT. The interleaver of the Terrace code (R305): its index is a transposition of a rows by b columns, and the receiver's is the
inverse one. -/

namespace Sys2Proof.Machine

/-! ### Row and column indices -/

/-- The transposed place of `t` is a place in the same array. -/
theorem transposed_lt {a b t : Nat} (ht : t < a * b) : t % a * b + t / a < a * b := by
  have hrow : t % a < a := Nat.mod_lt t (Nat.pos_of_mul_pos_right (Nat.zero_lt_of_lt ht))
  have hcol : t / a < b := Nat.div_lt_of_lt_mul ht
  calc t % a * b + t / a
      < t % a * b + b := Nat.add_lt_add_left hcol _
    _ = (t % a + 1) * b := (Nat.succ_mul _ _).symm
    _ ≤ a * b := Nat.mul_le_mul_right b hrow

/-- Transposing by the columns and then by the rows gives the place back. -/
theorem transposed_transposed {a b x : Nat} (hx : x < b * a) :
    (x % b * a + x / b) % a * b + (x % b * a + x / b) / a = x := by
  have hcol : x / b < a := Nat.div_lt_of_lt_mul hx
  have hmod : (x % b * a + x / b) % a = x / b := Nat.mul_add_mod_of_lt hcol
  have hdiv : (x % b * a + x / b) / a = x % b := by
    rw [Nat.add_comm, Nat.add_mul_div_right _ _ (Nat.zero_lt_of_lt hcol), Nat.div_eq_of_lt hcol, Nat.zero_add]
  rw [hmod, hdiv, Nat.div_add_mod']

/-! ### The interleaver's indices -/

/-- A codeword fills the rows and columns of its interleaver. -/
theorem Terrace.n_eq_ia_mul_ib (c : Terrace) : c.n = c.ia * c.ib := by cases c <;> rfl

theorem Terrace.sentIndex_lt (c : Terrace) {t : Nat} (ht : t < c.n) : c.sentIndex t < c.n := by
  rw [c.n_eq_ia_mul_ib] at ht ⊢
  exact transposed_lt ht

theorem Terrace.sentPos_lt (c : Terrace) {x : Nat} (hx : x < c.n) : c.sentPos x < c.n := by
  rw [c.n_eq_ia_mul_ib, Nat.mul_comm] at hx ⊢
  exact transposed_lt hx

/-- In the position in which bit `x` is sent, bit `x` is sent. -/
theorem Terrace.sentIndex_sentPos (c : Terrace) {x : Nat} (hx : x < c.n) : c.sentIndex (c.sentPos x) = x := by
  rw [c.n_eq_ia_mul_ib, Nat.mul_comm] at hx
  exact transposed_transposed hx

/-! ### The bits in the order sent, and in their own order -/

@[simp] theorem Terrace.length_interleave (c : Terrace) (cw : List Bool) : (c.interleave cw).length = c.n := by
  simp [Terrace.interleave]

@[simp] theorem Terrace.length_byIndex {α : Type} (c : Terrace) (none_ : α) (sent : List α) : (c.byIndex none_ sent).length = sent.length := by
  simp [Terrace.byIndex]

theorem Terrace.getElem?_interleave (c : Terrace) {cw : List Bool} (hcw : cw.length = c.n) {t : Nat} (ht : t < c.n) :
    (c.interleave cw)[t]? = cw[c.sentIndex t]? := by
  have hidx : c.sentIndex t < cw.length := hcw ▸ c.sentIndex_lt ht
  simp [Terrace.interleave, ht, List.getElem?_eq_getElem hidx]

theorem Terrace.getElem?_byIndex {α : Type} (c : Terrace) (none_ : α) {sent : List α} (hsent : sent.length = c.n) {x : Nat} (hx : x < c.n) :
    (c.byIndex none_ sent)[x]? = sent[c.sentPos x]? := by
  have hpos : c.sentPos x < sent.length := hsent ▸ c.sentPos_lt hx
  simp [Terrace.byIndex, hsent, hx, List.getElem?_eq_getElem hpos]

/-- The receiver undoes the interleaver. -/
theorem Terrace.deinterleave_interleave (c : Terrace) {cw : List Bool} (hcw : cw.length = c.n) : c.deinterleave (c.interleave cw) = cw := by
  have hlen : (c.deinterleave (c.interleave cw)).length = cw.length := by simp [Terrace.deinterleave, hcw]
  refine List.ext_getElem? fun x => ?_
  by_cases hx : x < c.n
  · calc (c.deinterleave (c.interleave cw))[x]?
        = (c.interleave cw)[c.sentPos x]? := c.getElem?_byIndex false (c.length_interleave cw) hx
      _ = cw[c.sentIndex (c.sentPos x)]? := c.getElem?_interleave hcw (c.sentPos_lt hx)
      _ = cw[x]? := by rw [c.sentIndex_sentPos hx]
  · have hend : cw.length ≤ x := hcw ▸ Nat.le_of_not_lt hx
    rw [List.getElem?_eq_none hend, List.getElem?_eq_none (hlen ▸ hend)]

/-- Settles O52: of each code, a and b are the interleaver's rows and columns, and `sentIndex` is the rule's index. -/
theorem interleaverSendsRowsByColumns : Obligations.InterleaverSendsRowsByColumns := by
  unfold Obligations.InterleaverSendsRowsByColumns
  intro c a b cw hcode hcw
  obtain ⟨rfl, rfl⟩ : a = c.ia ∧ b = c.ib := by
    obtain ⟨rfl, ha, hb⟩ | ⟨rfl, ha, hb⟩ := hcode
    · exact ⟨ha, hb⟩
    · exact ⟨ha, hb⟩
  rw [← c.n_eq_ia_mul_ib] at hcw ⊢
  exact ⟨rfl, c.length_interleave cw, fun t ht => c.getElem?_interleave hcw ht, c.deinterleave_interleave hcw⟩

end Sys2Proof.Machine
end

section
/-! SUPPORT. Writes of protected memory (R551, R555, R564): the register words that an armed flip may change, and what stays. Erasing a key
slot (R425): the slot afterwards, and the slots and mailboxes beside it. -/

namespace Sys2Proof.Machine

/-! ### Writes of protected memory -/

/-- The register words that an armed flip changes when a memory write fires it, beside those of its log record (R564, R741): FLIP_STATUS,
FLIP_ADDR, MEM_EVENTS, TEST_STATUS. -/
def flipWords : List Nat :=
  [Reg.FLIP_STATUS_ARMED.addr 0 0, Reg.FLIP_ADDR_WORD.addr 0 0, Reg.MEM_EVENTS_FLIP_FIRED.addr 0 0, Reg.TEST_STATUS_FI_ACTIVE.addr 0 0]

/-- From `s` to `t` protected memory was written: register words stay but for those of a flip and its record, and all else stays but for
memory, the log and the gate of the last burst. -/
structure MemWritten (s t : State) : Prop where
  regs : RegsKept flipWords s t
  rest : ∃ r l m b, t = { s with regs := r, logs := l, mem := m, self := { s.self with sent := b } }

namespace MemWritten

theorem refl (s : State) : MemWritten s s := ⟨fun _ _ _ => rfl, s.regs, s.logs, s.mem, s.self.sent, rfl⟩

theorem trans {s t u : State} (h : MemWritten s t) (k : MemWritten t u) : MemWritten s u := by
  refine ⟨fun a ha hsq => (k.regs a ha hsq).trans (h.regs a ha hsq), ?_⟩
  obtain ⟨r, l, m, b, rfl⟩ := h.rest
  obtain ⟨r', l', m', b', rfl⟩ := k.rest
  exact ⟨r', l', m', b', rfl⟩

/-- A step that changes only register words and the log, and of the words only a flip's, is part of a memory write. -/
theorem of_regsLogs {s t : State} (hregs : RegsKept flipWords s t) (h : RegsLogs s t) : MemWritten s t := by
  obtain ⟨r, l, b, rfl⟩ := h
  exact ⟨hregs, r, l, s.mem, b, rfl⟩

theorem foldl {α : Type} {g : State → α → State} (hg : ∀ s x, MemWritten s (g s x)) (l : List α) (s : State) : MemWritten s (l.foldl g s) := by
  induction l generalizing s with
  | nil => exact refl s
  | cons x l ih => exact (hg s x).trans (ih _)

theorem cip {s t : State} (h : MemWritten s t) : t.cip = s.cip := by
  obtain ⟨r, l, m, b, rfl⟩ := h.rest
  rfl

theorem mbs {s t : State} (h : MemWritten s t) : t.mbs = s.mbs := by
  obtain ⟨r, l, m, b, rfl⟩ := h.rest
  rfl

theorem pending {s t : State} (h : MemWritten s t) : t.pending = s.pending := by
  obtain ⟨r, l, m, b, rfl⟩ := h.rest
  rfl

end MemWritten

/-- A field in one of a flip's words is set. -/
theorem memWritten_set (s : State) (f : Field) (v : Nat) (hf : f.addr 0 0 ∈ flipWords) : MemWritten s (s.set f v) :=
  .of_regsLogs (fun _ ha _ => reg_set_ne s f v 0 0 fun h => ha (h ▸ hf)) (regsLogs_set s f v 0 0)

theorem memWritten_log (s : State) (wb type : Nat) (d : List Byte) : MemWritten s (s.log wb type d) := by
  refine .of_regsLogs (fun a _ hsq => log_reg_ne s wb type d ?_ ?_) (regsLogs_log s wb type d)
  · rintro rfl; exact hsq (by decide)
  · rintro rfl; exact hsq (by decide)

theorem memWritten_setWordState (s : State) (mem inst word v : Nat) : MemWritten s (s.setWordState mem inst word v) :=
  ⟨fun _ _ _ => rfl, s.regs, s.logs, _, s.self.sent, rfl⟩

theorem memWritten_fireFlip (s : State) (mem inst word : Nat) : MemWritten s (s.fireFlip mem inst word) := by
  have hdisarm : ∀ u : State, MemWritten u (if u.get Reg.TEST_STATUS_FI_MASK = 0 then u.set Reg.TEST_STATUS_FI_ACTIVE 0 else u) := by
    intro u
    split
    · exact memWritten_set u _ 0 (by decide)
    · exact .refl u
  have hbits : ∀ u : State, MemWritten u { u with mem := { u.mem with flipBits := 0 } } :=
    fun u => ⟨fun _ _ _ => rfl, u.regs, u.logs, _, u.self.sent, rfl⟩
  unfold State.fireFlip
  refine .trans ?_ (memWritten_log _ _ _ _)
  refine .trans ?_ (hdisarm _)
  refine .trans ?_ (memWritten_set _ Reg.MEM_EVENTS_FLIP_FIRED 1 (by decide))
  refine .trans ?_ (memWritten_set _ Reg.FLIP_ADDR_INSTANCE inst (by decide))
  refine .trans ?_ (memWritten_set _ Reg.FLIP_ADDR_WORD word (by decide))
  refine .trans ?_ (memWritten_set _ Reg.FLIP_STATUS_INSTANCE 0 (by decide))
  refine .trans ?_ (memWritten_set _ Reg.FLIP_STATUS_MEM 0 (by decide))
  refine .trans ?_ (memWritten_set _ Reg.FLIP_STATUS_ARMED 0 (by decide))
  exact (memWritten_setWordState _ _ _ _ _).trans (hbits _)

theorem memWritten_memWrite (s : State) (mem inst word : Nat) (poison : Bool) : MemWritten s (s.memWrite mem inst word poison) := by
  have hfire : ∀ (u : State) (armed : Bool), MemWritten u (if armed then u.fireFlip mem inst word else u) := by
    intro u armed
    split
    · exact memWritten_fireFlip u mem inst word
    · exact .refl u
  exact (memWritten_setWordState s mem inst word _).trans (hfire _ _)

theorem memWritten_memWrites2 (s : State) (mem word n : Nat) : MemWritten s (s.memWrites2 mem word n) :=
  .foldl (fun _ _ => (memWritten_setWordState _ _ _ _ _).trans (memWritten_memWrite _ _ _ _ _)) _ s

/-! ### Key slots -/

@[simp] theorem keySlot_setKeySlot_self (s : State) (k : Nat) (x : KeySlot) : (s.setKeySlot k x).keySlot k = x := tget_tput_self _ _ _ _

theorem keySlot_setKeySlot_ne (s : State) {k j : Nat} (x : KeySlot) (h : j ≠ k) : (s.setKeySlot k x).keySlot j = s.keySlot j :=
  tget_tput_ne _ _ _ _ h

theorem keySlot_congr {s t : State} (h : t.cip = s.cip) (k : Nat) : t.keySlot k = s.keySlot k := by
  unfold State.keySlot
  rw [h]

/-- None of the words that a flip, the end of a command or an answer may change lies on the page of the key slots' words (R446). -/
theorem keySlotPage_kept {a : Nat} (hlo : 0x1A1000 ≤ a) (hhi : a < 0x1A2000) : a ∉ flipWords ∧ a ∉ squelchWords ∧ a ∉ [0x12014] := by
  have hoff : ∀ b ∈ flipWords ++ (squelchWords ++ [0x12014]), b < 0x1A1000 ∨ 0x1A2000 ≤ b := by decide
  have ha : a ∉ flipWords ++ (squelchWords ++ [0x12014]) := fun h => by
    have := hoff a h
    omega
  rwa [List.mem_append, not_or, List.mem_append, not_or] at ha

theorem ksStatus_addr (k : Nat) : Reg.KS_STATUS_STATE.addr k 0 = 0x1A1000 + 8 * k := by simp [Field.addr, Reg.KS_STATUS_STATE]

theorem ksKcv_addr (k : Nat) : Reg.KS_KCV_KCV.addr k 0 = 0x1A1004 + 8 * k := by simp [Field.addr, Reg.KS_KCV_KCV]

/-! ### Erasing a slot (R425) -/

/-- KEY_ERASE counts the slot in use no more, which is in register words; empties it; and writes its memory words. -/
theorem eraseKey_eq (s : State) (k : Nat) : ∃ g, s.eraseKey k =
    (((({ s with regs := g } : State).setKeySlot k {}).set Reg.KS_STATUS_STATE 0 k).set Reg.KS_KCV_KCV 0 k).memWrites2 12 (keyWord k) 4 := by
  by_cases h : s.get Reg.KS_STATUS_STATE k = 0
  · exact ⟨s.regs, by simp only [State.eraseKey, if_pos h]⟩
  · exact ⟨_, by simp only [State.eraseKey, if_neg h]; rfl⟩

@[simp] theorem keySlot_eraseKey_self (s : State) (k : Nat) : (s.eraseKey k).keySlot k = {} := by
  obtain ⟨g, hg⟩ := eraseKey_eq s k
  rw [hg, keySlot_congr (memWritten_memWrites2 _ _ _ _).cip, keySlot_congr (set_cip _ _ _ _ _), keySlot_congr (set_cip _ _ _ _ _),
    keySlot_setKeySlot_self]

theorem keySlot_eraseKey_ne (s : State) {k j : Nat} (h : j ≠ k) : (s.eraseKey k).keySlot j = s.keySlot j := by
  obtain ⟨g, hg⟩ := eraseKey_eq s k
  rw [hg, keySlot_congr (memWritten_memWrites2 _ _ _ _).cip, keySlot_congr (set_cip _ _ _ _ _), keySlot_congr (set_cip _ _ _ _ _),
    keySlot_setKeySlot_ne _ _ h]
  rfl

theorem mbs_eraseKey (s : State) (k : Nat) : (s.eraseKey k).mbs = s.mbs := by
  obtain ⟨g, hg⟩ := eraseKey_eq s k
  exact hg ▸ (memWritten_memWrites2 _ _ _ _).mbs

theorem pending_eraseKey (s : State) (k : Nat) : (s.eraseKey k).pending = s.pending := by
  obtain ⟨g, hg⟩ := eraseKey_eq s k
  exact hg ▸ (memWritten_memWrites2 _ _ _ _).pending

theorem ksState_eraseKey (s : State) {k : Nat} (hk : k < 512) : (s.eraseKey k).get Reg.KS_STATUS_STATE k = 0 := by
  obtain ⟨g, hg⟩ := eraseKey_eq s k
  have haddr := ksStatus_addr k
  obtain ⟨hflip, hsq, -⟩ := keySlotPage_kept (a := Reg.KS_STATUS_STATE.addr k 0) (by omega) (by omega)
  have hne : Reg.KS_STATUS_STATE.addr k 0 ≠ Reg.KS_KCV_KCV.addr k 0 := by have := ksKcv_addr k; omega
  rw [hg, (memWritten_memWrites2 _ _ _ _).regs.get _ _ _ hflip hsq, get_set_ne _ _ _ _ _ _ _ _ (by decide) (.inl hne),
    get_set_self _ _ _ _ _ (by decide), Nat.zero_mod]

theorem ksKcv_eraseKey (s : State) {k : Nat} (hk : k < 512) : (s.eraseKey k).get Reg.KS_KCV_KCV k = 0 := by
  obtain ⟨g, hg⟩ := eraseKey_eq s k
  have haddr := ksKcv_addr k
  obtain ⟨hflip, hsq, -⟩ := keySlotPage_kept (a := Reg.KS_KCV_KCV.addr k 0) (by omega) (by omega)
  rw [hg, (memWritten_memWrites2 _ _ _ _).regs.get _ _ _ hflip hsq, get_set_self _ _ _ _ _ (by decide), Nat.zero_mod]

/-! ### KEY_ERASE -/

/-- The state in which a served command of mailbox `mb` acts (R660). -/
def State.serving (s : State) (mb : Nat) : State := { s with lastServed := mb }

@[simp] theorem serving_get (s : State) (mb : Nat) (f : Field) (i j : Nat) : (s.serving mb).get f i j = s.get f i j := rfl
@[simp] theorem serving_blocksOff (s : State) (mb : Nat) : (s.serving mb).blocksOff = s.blocksOff := rfl
@[simp] theorem serving_keySlot (s : State) (mb k : Nat) : (s.serving mb).keySlot k = s.keySlot k := rfl
@[simp] theorem serving_mbs (s : State) (mb : Nat) : (s.serving mb).mbs = s.mbs := rfl
@[simp] theorem serving_pending (s : State) (mb : Nat) : (s.serving mb).pending = s.pending := rfl

/-- A command on a coherent block, when its mailbox holds it and the coherent blocks run. -/
theorem actOn_eq (mb op : Nat) (s : State) (f : List Byte → State → State × Reply) (p : List Byte) (h : s.request mb op = some p)
    (hon : s.blocksOff = false) : actOn mb op s f = done s ((f p (s.serving mb)).1.answer mb (f p (s.serving mb)).2) := by
  have hon' : ¬(s.serving mb).blocksOff = true := by simp [hon]
  unfold actOn
  rw [act_eq mb op s _ p h, ← State.serving, if_neg hon']

/-- KEY_ERASE of a slot that is not in ROOT and not referenced. -/
theorem exec_keyErase_free (mb : Fin 8) (s : State) {p : List Byte} (h : s.request mb.val 0x0702 = some p) (hon : s.blocksOff = false)
    (hstate : s.get Reg.KS_STATUS_STATE (u16 p 0) ≠ 3) (hrefs : s.get Reg.KS_STATUS_REFS (u16 p 0) = 0) :
    exec (.keyErase mb) s = done s (((s.serving mb).eraseKey (u16 p 0)).answer mb ok) := by
  show execKeyErase mb s = _
  simp [execKeyErase, actOn_eq _ _ s _ p h hon, hstate, hrefs]

/-- KEY_ERASE of a slot in ROOT or referenced. -/
theorem exec_keyErase_denied (mb : Fin 8) (s : State) {p : List Byte} (h : s.request mb.val 0x0702 = some p) (hon : s.blocksOff = false)
    (hheld : s.get Reg.KS_STATUS_STATE (u16 p 0) = 3 ∨ s.get Reg.KS_STATUS_REFS (u16 p 0) ≠ 0) :
    exec (.keyErase mb) s = done s ((s.serving mb).answer mb (err cDENIED)) := by
  show execKeyErase mb s = _
  simp [execKeyErase, actOn_eq _ _ s _ p h hon, hheld]

/-- The answer to a command whose effect left the mailboxes as they were. -/
theorem Answered.of_mbs {mb : Nat} {r : Reply} {s u t : State} (h : Answered mb r u t) (hmbs : u.mbs = s.mbs) : Answered mb r s t := by
  obtain ⟨hself, hothers⟩ := h
  exact ⟨mbox_congr hmbs mb ▸ hself, fun k hk => (hothers k hk).trans (mbox_congr hmbs k)⟩

/-- Settles O51: the erased slot's words lie on the key slots' page, which neither the memory writes nor the end of the command touch. -/
theorem keyEraseEmptiesTheSlot : Obligations.KeyEraseEmptiesTheSlot := by
  unfold Obligations.KeyEraseEmptiesTheSlot
  intro mb p s hreq hon hslot
  refine ⟨fun hstate hrefs => ?_, fun hheld => ?_⟩
  · have hst := ksStatus_addr (u16 p 0)
    have hkc := ksKcv_addr (u16 p 0)
    obtain ⟨-, hstSq, hstEv⟩ := keySlotPage_kept (a := Reg.KS_STATUS_STATE.addr (u16 p 0) 0) (by omega) (by omega)
    obtain ⟨-, hkcSq, hkcEv⟩ := keySlotPage_kept (a := Reg.KS_KCV_KCV.addr (u16 p 0) 0) (by omega) (by omega)
    obtain ⟨t, hdone, hans, hregs, hrest⟩ :=
      done_answer s ((s.serving mb).eraseKey (u16 p 0)) mb ok (pending_eraseKey _ _)
    have hcip : t.cip = ((s.serving mb).eraseKey (u16 p 0)).cip := (congrArg State.cip hrest :)
    refine ⟨t, (exec_keyErase_free mb s hreq hon hstate hrefs).trans hdone, hans.of_mbs (mbs_eraseKey _ _), ?_, ?_, ?_, fun k hk => ?_⟩
    · rw [hregs.get _ _ _ hstEv hstSq, ksState_eraseKey _ hslot]
    · rw [keySlot_congr hcip, keySlot_eraseKey_self]
    · rw [hregs.get _ _ _ hkcEv hkcSq, ksKcv_eraseKey _ hslot]
    · rw [keySlot_congr hcip, keySlot_eraseKey_ne _ hk, serving_keySlot]
  · obtain ⟨t, hdone, hans⟩ := served_answer s s mb (err cDENIED) rfl
    exact ⟨t, (exec_keyErase_denied mb s hreq hon hheld).trans hdone, hans⟩

end Sys2Proof.Machine
end

section
/-! SUPPORT. The end of every command (R281, R796): afterwards the squelch follows its reasons and no sendable message waits. -/

namespace Sys2Proof.Machine

/-! ### The squelch -/

/-- The register words that the squelch reasons are read from (R280). -/
def reasonWords : List Nat :=
  [Reg.MODE_STATUS_MODE.addr 0 0, Reg.SELF_STATUS_STATE.addr 0 0, Reg.RX_CFG_LEAF_GROUP.addr 0 0, Reg.TXS_CTRL_SQ_ON_RX_LOS.addr 0 0,
    Reg.RX_STATUS_LINE_LOS.addr 0 0, Reg.PWR_STATUS_SHUTDOWN.addr 0 0] ++
  (List.range 4).map (fun d => Reg.DAC_STATUS_STATE.addr d 0) ++ (List.range 32).map (fun f => Reg.TXF_CTRL_EN.addr f 0) ++
  (List.range 32).map (fun f => Reg.FR_RX_CTRL_EN.addr f 0) ++ (List.range 32).map (fun f => Reg.FRM_FR_STATUS_SYNC.addr f 0)

theorem all_congr_of_mem {α : Type} {l : List α} {p q : α → Bool} (h : ∀ x ∈ l, p x = q x) : l.all p = l.all q := by
  rw [Bool.eq_iff_iff, List.all_eq_true, List.all_eq_true]
  exact forall₂_congr fun x hx => by rw [h x hx]

theorem any_congr_of_mem {α : Type} {l : List α} {p q : α → Bool} (h : ∀ x ∈ l, p x = q x) : l.any p = l.any q := by
  rw [List.any_eq_not_all_not, List.any_eq_not_all_not, all_congr_of_mem fun x hx => by rw [h x hx]]

theorem leafLocked_congr {s t : State} (hregs : ∀ a ∈ reasonWords, t.reg a = s.reg a) : t.leafLocked = s.leafLocked := by
  have hgroup : t.get Reg.RX_CFG_LEAF_GROUP = s.get Reg.RX_CFG_LEAF_GROUP := by unfold State.get; rw [hregs _ (by decide)]
  have hfur : ∀ f ∈ (List.range 4).map (fun i => 4 * s.get Reg.RX_CFG_LEAF_GROUP + i), f < 32 := by
    have hlt : s.get Reg.RX_CFG_LEAF_GROUP < 2 ^ 3 := bitsOf_lt _ _ _
    simp only [List.mem_map, List.mem_range, forall_exists_index, and_imp]
    omega
  have hen : ∀ f, f < 32 → t.flag Reg.FR_RX_CTRL_EN f = s.flag Reg.FR_RX_CTRL_EN f := fun f hf => by
    have hmem : Reg.FR_RX_CTRL_EN.addr f 0 ∈ reasonWords := List.mem_append_left _ (List.mem_append_right _ (List.mem_map.2 ⟨f, List.mem_range.2 hf, rfl⟩))
    rw [flag_eq, flag_eq, State.get, State.get, hregs _ hmem]
  have hsync : ∀ f, f < 32 → t.flag Reg.FRM_FR_STATUS_SYNC f = s.flag Reg.FRM_FR_STATUS_SYNC f := fun f hf => by
    have hmem : Reg.FRM_FR_STATUS_SYNC.addr f 0 ∈ reasonWords := List.mem_append_right _ (List.mem_map.2 ⟨f, List.mem_range.2 hf, rfl⟩)
    rw [flag_eq, flag_eq, State.get, State.get, hregs _ hmem]
  unfold State.leafLocked
  dsimp only
  rw [hgroup, any_congr_of_mem fun f hf => hen f (hfur f hf), all_congr_of_mem fun f hf => by rw [hen f (hfur f hf), hsync f (hfur f hf)]]

/-- The squelch reasons follow the words they are read from, the transmitter and the change of mode (R280). -/
theorem squelchReasons_congr {s t : State} (hregs : ∀ a ∈ reasonWords, t.reg a = s.reg a) (htx : t.tx = s.tx) (hsys : t.sys = s.sys) :
    t.squelchReasons = s.squelchReasons := by
  have hget : ∀ f : Field, f.addr 0 0 ∈ reasonWords → t.get f = s.get f := fun f hf => by unfold State.get; rw [hregs _ hf]
  have hdac : ∀ d ∈ List.range 4, decide (t.get Reg.DAC_STATUS_STATE d ≠ 2) = decide (s.get Reg.DAC_STATUS_STATE d ≠ 2) := fun d hd => by
    have hmem : Reg.DAC_STATUS_STATE.addr d 0 ∈ reasonWords :=
      List.mem_append_left _ (List.mem_append_left _ (List.mem_append_left _ (List.mem_append_right _ (List.mem_map.2 ⟨d, hd, rfl⟩))))
    rw [State.get, State.get, hregs _ hmem]
  have htxf : ∀ f ∈ List.range 32, (!t.flag Reg.TXF_CTRL_EN f) = !s.flag Reg.TXF_CTRL_EN f := fun f hf => by
    have hmem : Reg.TXF_CTRL_EN.addr f 0 ∈ reasonWords :=
      List.mem_append_left _ (List.mem_append_left _ (List.mem_append_right _ (List.mem_map.2 ⟨f, hf, rfl⟩)))
    rw [flag_eq, flag_eq, State.get, State.get, hregs _ hmem]
  unfold State.squelchReasons
  simp only [flag_eq s Reg.TXS_CTRL_SQ_ON_RX_LOS, flag_eq t Reg.TXS_CTRL_SQ_ON_RX_LOS, flag_eq s Reg.RX_STATUS_LINE_LOS,
    flag_eq t Reg.RX_STATUS_LINE_LOS, flag_eq s Reg.PWR_STATUS_SHUTDOWN, flag_eq t Reg.PWR_STATUS_SHUTDOWN, htx, hsys, leafLocked_congr hregs,
    hget Reg.MODE_STATUS_MODE (by decide), hget Reg.SELF_STATUS_STATE (by decide),
    hget Reg.TXS_CTRL_SQ_ON_RX_LOS (by decide), hget Reg.RX_STATUS_LINE_LOS (by decide), hget Reg.PWR_STATUS_SHUTDOWN (by decide),
    any_congr_of_mem hdac, all_congr_of_mem htxf]

theorem reasonWords_not_squelch : ∀ a ∈ reasonWords, a ∉ squelchWords := by decide

theorem squelchReasons_lt (s : State) : s.squelchReasons < 256 := by
  have hb : ∀ b, b2n b ≤ 1 := by decide
  have hsum : ∀ a b c d e f g h, b2n a + 2 * b2n b + 4 * b2n c + 8 * b2n d + 16 * b2n e + 32 * b2n f + 64 * b2n g + 128 * b2n h < 256 := by
    intro a b c d e f g h
    have := hb a; have := hb b; have := hb c; have := hb d; have := hb e; have := hb f; have := hb g; have := hb h
    omega
  exact hsum _ _ _ _ _ _ _ _

theorem log_get (s : State) (wb type : Nat) (d : List Byte) (f : Field) (i j : Nat) (h1 : f.addr i j ≠ 0x40014) (h2 : f.addr i j ≠ 0x40020) :
    (s.log wb type d).get f i j = s.get f i j := by
  unfold State.get
  rw [log_reg_ne s wb type d h1 h2]

/-- SQ_REASON follows the reasons (R281). -/
def State.reasonShown (s : State) : State :=
  if s.squelchReasons = s.get Reg.TXS_STATUS_SQ_REASON then s else s.set Reg.TXS_STATUS_SQ_REASON s.squelchReasons

/-- The line is squelched where a reason `r` holds (R281). -/
def State.squelchedFor (s : State) (r : Nat) : State :=
  if r = 0 || s.flag Reg.TXS_STATUS_SQUELCHED then s
  else (((s.cutBurst.set Reg.TXS_STATUS_SQUELCHED 1).set Reg.TXS_EVENTS_SQUELCH 1).bump Cnt.SQUELCH_EVENTS).log wbTx 0x25 [BitVec.ofNat 8 r]

/-- GATE shows TX_GATE (R277). -/
def State.gateShown (s : State) : State := if b2n s.gateOn = s.get Reg.TXS_STATUS_GATE then s else s.set Reg.TXS_STATUS_GATE (b2n s.gateOn)

/-- The squelch follows in three parts, unless the transmit block is held in reset. -/
theorem refreshSquelch_eq (s : State) :
    s.refreshSquelch = if s.sys.gated then s else (s.reasonShown.squelchedFor s.squelchReasons).gateShown := rfl

theorem get_reasonShown (s : State) : s.reasonShown.get Reg.TXS_STATUS_SQ_REASON = s.squelchReasons := by
  unfold State.reasonShown
  split
  · next h => exact h.symm
  · rw [get_set_self _ _ _ _ _ (by decide)]
    exact Nat.mod_eq_of_lt (squelchReasons_lt s)

theorem get_squelchedFor (s : State) (r : Nat) : (s.squelchedFor r).get Reg.TXS_STATUS_SQ_REASON = s.get Reg.TXS_STATUS_SQ_REASON := by
  unfold State.squelchedFor
  split
  · rfl
  · rw [log_get _ _ _ _ _ _ _ (by decide) (by decide), get_bump_ne _ _ _ _ _ _ _ _ (by decide),
      get_set_ne _ _ _ _ _ _ _ _ (by decide) (by decide), get_set_ne _ _ _ _ _ _ _ _ (by decide) (by decide)]
    rfl

theorem flag_squelchedFor (s : State) {r : Nat} (hr : r ≠ 0) : (s.squelchedFor r).flag Reg.TXS_STATUS_SQUELCHED = true := by
  unfold State.squelchedFor
  split
  · next h => simpa [hr] using h
  · rw [flag_eq, log_get _ _ _ _ _ _ _ (by decide) (by decide), get_bump_ne _ _ _ _ _ _ _ _ (by decide),
      get_set_ne _ _ _ _ _ _ _ _ (by decide) (by decide), get_set_self _ _ _ _ _ (by decide)]
    rfl

theorem get_gateShown (s : State) (f : Field) (h : f.addr 0 0 ≠ 0x150010 ∨ f.lo + f.width ≤ 9 ∨ 10 ≤ f.lo) : s.gateShown.get f = s.get f := by
  unfold State.gateShown
  split
  · rfl
  · refine get_set_ne _ _ _ _ _ _ _ _ (by decide) ?_
    exact h.imp id fun h => h.symm.imp id id

/-- After the squelch has followed, TXS_STATUS names the reasons and the line is squelched while one holds (R281). -/
theorem squelchHeld_refreshSquelch (s : State) : SquelchHeld s.refreshSquelch := by
  obtain ⟨r, l, b, hrest⟩ := regsLogs_refreshSquelch s
  by_cases hg : s.sys.gated = true
  · exact .inl (by rw [hrest]; exact hg)
  have hreasons : s.refreshSquelch.squelchReasons = s.squelchReasons :=
    squelchReasons_congr (fun a ha => refreshSquelch_reg s (reasonWords_not_squelch a ha)) (by rw [hrest]) (by rw [hrest])
  refine .inr ?_
  rw [hreasons, refreshSquelch_eq, if_neg hg, flag_eq, get_gateShown _ _ (by decide), get_gateShown _ _ (by decide),
    get_squelchedFor, get_reasonShown, ← flag_eq]
  exact ⟨rfl, flag_squelchedFor _⟩

/-- The squelch held shows in TXS_STATUS and the words that its reasons are read from. -/
theorem SquelchHeld.congr {s t : State} (h : SquelchHeld s) (hregs : ∀ a ∈ 0x150010 :: reasonWords, t.reg a = s.reg a) (htx : t.tx = s.tx)
    (hsys : t.sys = s.sys) : SquelchHeld t := by
  have hreason : t.get Reg.TXS_STATUS_SQ_REASON = s.get Reg.TXS_STATUS_SQ_REASON := by unfold State.get; rw [hregs _ (by decide)]
  have hsq : t.get Reg.TXS_STATUS_SQUELCHED = s.get Reg.TXS_STATUS_SQUELCHED := by unfold State.get; rw [hregs _ (by decide)]
  unfold SquelchHeld
  rw [squelchReasons_congr (fun a ha => hregs a (List.mem_cons_of_mem _ ha)) htx hsys, flag_eq, hreason, hsq, hsys]
  exact h

/-! ### Waiting messages -/

theorem bitsOf_one_eq_one (x v : Nat) : bitsOf x v 1 = 1 ↔ x.testBit v = true := by
  rw [bitsOf, pow_one, Nat.testBit_eq_decide_div_mod_eq, decide_eq_true_iff]

/-- Vector `v` holds no message that nothing holds back. -/
def State.Quiet (s : State) (v : Nat) : Prop := s.msix.enable = true → s.msix.pba.getLsbD v = true → s.vectorMasked v = true

theorem noStaleMessage_iff (s : State) : NoStaleMessage s ↔ ∀ v, v < 32 → s.Quiet v := by
  unfold NoStaleMessage State.Quiet
  simp only [bitsOf_one_eq_one, BitVec.testBit_toNat]
  exact ⟨fun h v hv he => h he v hv, fun h he v hv => h v hv he⟩

/-- The held message of vector `v` is sent where its masks are clear. -/
def State.flushOne (s : State) (v : Nat) : State :=
  if bitsOf s.msix.pba.toNat v 1 == 1 && s.msix.enable && !s.vectorMasked v then
    { s with msix := { s.msix with
      pba := s.msix.pba &&& ~~~(BitVec.ofNat 32 (2 ^ v))
      sent := s.msix.sent ++ [s.msixMsg v] } }
  else s

theorem msixFlush_eq (s : State) : s.msixFlush = (List.range 32).foldl State.flushOne s := rfl

theorem quiet_flushOne_self (s : State) {v : Nat} (hv : v < 32) : (s.flushOne v).Quiet v := by
  unfold State.flushOne
  split
  · have hclear : (s.msix.pba &&& ~~~(BitVec.ofNat 32 (2 ^ v))).getLsbD v = false := by
      rw [BitVec.getLsbD_and, BitVec.getLsbD_not, BitVec.getLsbD_ofNat, Nat.testBit_two_pow_self]
      simp [hv]
    exact fun _ hbit => absurd (hclear.symm.trans hbit) Bool.false_ne_true
  · next h =>
    intro he hbit
    rw [bitsOf, pow_one] at h
    by_contra hm
    exact h (by simp [← BitVec.testBit_toNat, Nat.testBit_eq_decide_div_mod_eq] at hbit; simp [hbit, he, Bool.eq_false_iff.2 hm])

theorem quiet_flushOne (s : State) {u : Nat} (v : Nat) (hu : s.Quiet u) : (s.flushOne v).Quiet u := by
  unfold State.flushOne
  split
  · intro he hbit
    refine hu he ?_
    simp only [BitVec.getLsbD_and, Bool.and_eq_true] at hbit
    exact hbit.1
  · exact hu

theorem quiet_foldl_flushOne (l : List Nat) (s : State) {u : Nat} (hu : s.Quiet u) : (l.foldl State.flushOne s).Quiet u := by
  induction l generalizing s with
  | nil => exact hu
  | cons v l ih => exact ih _ (quiet_flushOne s v hu)

theorem quiet_foldl_flushOne_of_mem {l : List Nat} (s : State) {v : Nat} (hl : v ∈ l) (hv : v < 32) : (l.foldl State.flushOne s).Quiet v := by
  induction l generalizing s with
  | nil => cases hl
  | cons w l ih =>
    obtain rfl | hl := List.mem_cons.1 hl
    · exact quiet_foldl_flushOne l _ (quiet_flushOne_self s hv)
    · exact ih _ hl

theorem noStaleMessage_msixFlush (s : State) : NoStaleMessage s.msixFlush :=
  (noStaleMessage_iff _).2 fun _ hv => quiet_foldl_flushOne_of_mem s (List.mem_range.2 hv) hv

theorem NoStaleMessage.congr {s t : State} (h : NoStaleMessage s) (hmsix : t.msix = s.msix) (hreg : ∀ v, v < 32 → t.reg (0x100C + 16 * v) = s.reg (0x100C + 16 * v)) :
    NoStaleMessage t := by
  intro he v hv hbit
  rw [State.vectorMasked, hmsix, hreg v hv]
  exact h (hmsix ▸ he) v hv (hmsix ▸ hbit)

/-! ### The end of a command -/

/-- However a command ended, what the squelch and the interrupt controller must keep holds (R281, R796). -/
theorem settled_of_done {s u t : State} (h : done s u = .next t) : Settled t := by
  obtain ⟨m, hm⟩ := settle_eq s u.refreshSquelch
  obtain rfl : ({ settle s u.refreshSquelch with pending := s.pending } : State) = t := by simpa [done] using h
  refine ⟨(squelchHeld_refreshSquelch u).congr ?_ ?_ ?_, (noStaleMessage_msixFlush _).congr rfl fun _ _ => rfl⟩
  · intro a _; rw [hm]; rfl
  · rw [hm]
  · rw [hm]

theorem pending_of_done {s u t : State} (h : done s u = .next t) : t.pending = s.pending := by
  obtain rfl : ({ settle s u.refreshSquelch with pending := s.pending } : State) = t := by simpa [done] using h
  rfl

end Sys2Proof.Machine
end

section
/-! SUPPORT. Resets (R748, R749): what they leave in registers and state. -/

namespace Sys2Proof.Machine

/-! ### What the resets share -/

theorem tget_filter {α : Type} (d : α) (p : Nat → Bool) (t : Tab α) (k : Nat) :
    tget d (t.filter (fun e => p e.1)) k = if p k then tget d t k else d := by
  induction t with
  | nil => simp
  | cons e t ih =>
    obtain ⟨a, v⟩ := e
    by_cases hak : a = k
    · subst hak
      by_cases hp : p a = true
      · simp [hp, tget]
      · simp [hp, ih]
    · by_cases hp : p a = true
      · simp [hp, tget, hak, ih]
      · simp [hp, tget, hak, ih]

/-- An address of the MSI-X table of the PCIe endpoint. -/
def msixAddr (a : Nat) : Bool := 0x1000 ≤ a && a < 0x1200

theorem msixAddr_iff (a : Nat) : msixAddr a = true ↔ 0x1000 ≤ a ∧ a < 0x1200 := by simp [msixAddr]

/-- The words in which the OTP fields show, K0's among them (R732, R744). -/
def otpWords : List Nat := [0x50010, 0x50050, 0x1A0010, 0x1A1000, 0x1A1004]

/-- From `s` to `t` only register words and the keys differ. -/
def RegsCip (s t : State) : Prop := ∃ g c, t = { s with regs := g, cip := c }

theorem RegsCip.set {s t : State} (h : RegsCip s t) (f : Field) (v i j : Nat) : RegsCip s (t.set f v i j) := by
  obtain ⟨g, c, rfl⟩ := h
  exact ⟨_, c, rfl⟩

theorem RegsCip.keys {s t : State} (h : RegsCip s t) (k : Tab KeySlot) : RegsCip s { t with cip := { t.cip with keys := k } } := by
  obtain ⟨g, c, rfl⟩ := h
  exact ⟨g, _, rfl⟩

/-- The status bits that show the OTP fields (R744). -/
def State.otpBits (s : State) (o : OtpState) : State :=
  (((s.set Reg.TEST_STATUS_OTP_ROOT (b2n o.rootKey.isSome)).set Reg.TEST_STATUS_OTP_PW (b2n o.pwHash.isSome)).set
    Reg.TEST_STATUS_DEBUG_DISABLE (b2n o.debugDisable)).set Reg.TEST_STATUS_VENDOR_DISABLE (b2n o.vendorDisable)

/-- K0 as OTP was loaded with it (R422). -/
def State.rootShown (s : State) (k : List Byte) : State :=
  ((((({ s with cip := { s.cip with keys := tput {} s.cip.keys 0 { key := keyOf k, hw := 0 } } } : State).set Reg.KS_STATUS_STATE 3 0).set
    Reg.KS_KCV_KCV (kcv k) 0).set Reg.ROOT_KCV_KCV (kcv k)).set Reg.CIPH_STATUS_ROOT 1).set Reg.CIPH_STATUS_SLOTS_USED 1

theorem showOtp_def (s : State) : s.showOtp = match s.test.otp.loadedRoot with
    | none => s.otpBits s.test.otp
    | some k => (s.otpBits s.test.otp).rootShown k := rfl

theorem regsCip_otpBits (s : State) (o : OtpState) : RegsCip s (s.otpBits o) :=
  (((RegsCip.set ⟨s.regs, s.cip, rfl⟩ _ _ 0 0).set _ _ 0 0).set _ _ 0 0).set _ _ 0 0

/-- Showing OTP changes register words and the keys. -/
theorem regsCip_showOtp (s : State) : RegsCip s s.showOtp := by
  rw [showOtp_def]
  split
  · exact regsCip_otpBits _ _
  · exact ((((((regsCip_otpBits _ _).keys _).set _ _ _ _).set _ _ _ _).set _ _ _ _).set _ _ _ _).set _ _ _ _

theorem reg_set_of_mem {l : List Nat} {a : Nat} (h : a ∉ l) (s : State) (f : Field) (v : Nat) (hf : f.addr 0 0 ∈ l) : (s.set f v).reg a = s.reg a :=
  reg_set_ne s f v 0 0 fun e => h (e ▸ hf)

theorem reg_cip (s : State) (c : CipherState) (a : Nat) : ({ s with cip := c } : State).reg a = s.reg a := rfl

theorem reg_showOtp (s : State) {a : Nat} (h : a ∉ otpWords) : s.showOtp.reg a = s.reg a := by
  have hset := fun u f v => reg_set_of_mem h u f v
  have hbits : ∀ o, (s.otpBits o).reg a = s.reg a := fun o => by
    unfold State.otpBits
    rw [hset _ _ _ (by decide), hset _ _ _ (by decide), hset _ _ _ (by decide), hset _ _ _ (by decide)]
  have hroot : ∀ (u : State) (k : List Byte), (u.rootShown k).reg a = u.reg a := fun u k => by
    unfold State.rootShown
    rw [hset _ _ _ (by decide), hset _ _ _ (by decide), hset _ _ _ (by decide), hset _ _ _ (by decide), hset _ _ _ (by decide), reg_cip]
  rw [showOtp_def]
  split
  · exact hbits _
  · exact (hroot _ _).trans (hbits _)

@[simp] theorem reg_afterReset (s : State) (a : Nat) : s.afterReset.reg a = resetWord a := rfl

/-- OTP cells stay where no write is cut short (R733). -/
theorem otp_afterReset (s : State) (h : s.test.write = none) : s.afterReset.test.otp = s.test.otp := by
  show cutWrite s.fresh s.test.write s.test.otp = _
  rw [h]
  rfl

/-! ### Cold reset -/

/-- A cold reset leaves the state after every device reset, with OTP loaded anew, and the words in which OTP and the cause show. -/
theorem coldReset_eq (s : State) (cause : Nat) : ∃ g c, s.coldReset cause = { s.afterReset with
    regs := g, cip := c,
    test := { s.afterReset.test with otp := { s.afterReset.test.otp with loadedRoot := s.afterReset.test.otp.rootKey, loadedPw := s.afterReset.test.otp.pwHash } } } := by
  obtain ⟨g, c, h⟩ := regsCip_showOtp { s.afterReset with
    test := { s.afterReset.test with otp := { s.afterReset.test.otp with loadedRoot := s.afterReset.test.otp.rootKey, loadedPw := s.afterReset.test.otp.pwHash } } }
  exact ⟨_, c, by unfold State.coldReset; dsimp only; rw [h]; rfl⟩

theorem reg_coldReset (s : State) (cause : Nat) {a : Nat} (h : a ∉ 0x60040 :: otpWords) : (s.coldReset cause).reg a = resetWord a := by
  exact (reg_set_of_mem h _ Reg.RST_CAUSE_CAUSE cause (by decide)).trans (reg_showOtp _ fun hotp => h (List.mem_cons_of_mem _ hotp))

theorem cause_coldReset (s : State) (cause : Nat) : (s.coldReset cause).get Reg.RST_CAUSE_CAUSE = cause % 8 :=
  get_set_self _ Reg.RST_CAUSE_CAUSE cause 0 0 (by decide)

/-! ### Warm reset -/

/-- A warm reset leaves the state after every device reset but for the always-on domain, and the words in which OTP and the cause show. -/
theorem warmReset_eq (s : State) (cause rail : Nat) : ∃ g c, s.warmReset cause rail = { s.afterReset with
    regs := g, cip := c, msix := s.msix, test := { s.afterReset.test with fails := s.test.fails },
    power := { s.afterReset.power with linkUp := s.power.linkUp, straps := s.power.straps, pmbSent := s.railsNominal.power.pmbSent } } := by
  obtain ⟨g, c, h⟩ := regsCip_showOtp { s.afterReset with
    regs := s.regs.filter isMsixWord, msix := s.msix, test := { s.afterReset.test with fails := s.test.fails },
    power := { s.afterReset.power with linkUp := s.power.linkUp, straps := s.power.straps, pmbSent := s.railsNominal.power.pmbSent } }
  exact ⟨_, c, by unfold State.warmReset; dsimp only; rw [h]; rfl⟩

theorem reg_warmReset (s : State) (cause rail : Nat) {a : Nat} (h : a ∉ 0x60040 :: 0x60044 :: otpWords) :
    (s.warmReset cause rail).reg a = if msixAddr a then s.reg a else resetWord a := by
  have hset := fun u f v => reg_set_of_mem h u f v
  unfold State.warmReset
  dsimp only
  rw [hset _ _ _ (by decide), hset _ _ _ (by decide), hset _ _ _ (by decide), hset _ _ _ (by decide),
    reg_showOtp _ fun hotp => h (List.mem_cons_of_mem _ (List.mem_cons_of_mem _ hotp))]
  exact tget_filter (resetWord a) msixAddr s.regs a

theorem cause_warmReset (s : State) (cause rail : Nat) : (s.warmReset cause rail).get Reg.RST_CAUSE_CAUSE = cause % 8 := by
  unfold State.warmReset
  dsimp only
  rw [get_set_ne _ _ _ _ _ _ _ _ (by decide) (by decide), get_set_ne _ _ _ _ _ _ _ _ (by decide) (by decide),
    get_set_ne _ _ _ _ _ _ _ _ (by decide) (by decide), get_set_self _ _ _ _ _ (by decide)]
  rfl

theorem rail_warmReset (s : State) (cause rail : Nat) : (s.warmReset cause rail).get Reg.RST_CAUSE_RAIL = rail % 4 := by
  unfold State.warmReset
  dsimp only
  rw [get_set_ne _ _ _ _ _ _ _ _ (by decide) (by decide), get_set_ne _ _ _ _ _ _ _ _ (by decide) (by decide), get_set_self _ _ _ _ _ (by decide)]
  rfl

theorem fwState_warmReset (s : State) (cause rail : Nat) : (s.warmReset cause rail).get Reg.FW_STATUS_STATE = 0 := by
  have hotp : ∀ u : State, u.showOtp.get Reg.FW_STATUS_STATE = u.get Reg.FW_STATUS_STATE := fun u => by
    unfold State.get
    rw [reg_showOtp u (by decide)]
  unfold State.warmReset
  dsimp only
  rw [get_set_ne _ _ _ _ _ _ _ _ (by decide) (by decide), get_set_ne _ _ _ _ _ _ _ _ (by decide) (by decide),
    get_set_ne _ _ _ _ _ _ _ _ (by decide) (by decide), get_set_ne _ _ _ _ _ _ _ _ (by decide) (by decide), hotp]
  show bitsOf (tget (resetWord 0x60044) (s.regs.filter fun e => msixAddr e.1) 0x60044).toNat 0 3 = 0
  rw [tget_filter, if_neg (by decide)]
  decide

theorem otp_warmReset (s : State) (cause rail : Nat) (h : s.test.write = none) : (s.warmReset cause rail).test.otp = s.test.otp := by
  obtain ⟨g, c, he⟩ := warmReset_eq s cause rail
  rw [he]
  exact otp_afterReset s h

/-- A warm reset after which the loader starts (R749, R763). -/
theorem reg_warmReset_loader (s : State) (cause rail : Nat) {a : Nat} (h : a ∉ 0x60040 :: 0x60044 :: otpWords) :
    ((s.warmReset cause rail).set Reg.FW_STATUS_STATE 1).reg a = if msixAddr a then s.reg a else resetWord a :=
  (reg_set_of_mem h _ _ _ (by decide)).trans (reg_warmReset s cause rail h)

/-- The warm reset by the pin, which holds the device in reset (R749). -/
def State.pinReset (s : State) : State := { s.warmReset 3 0 with power := { (s.warmReset 3 0).power with rstHeld := true } }

theorem pinReset_eq (s : State) : ∃ g c, s.pinReset = { s.afterReset with
    regs := g, cip := c, msix := s.msix, test := { s.afterReset.test with fails := s.test.fails },
    power := { s.afterReset.power with linkUp := s.power.linkUp, straps := s.power.straps, pmbSent := s.railsNominal.power.pmbSent, rstHeld := true } } := by
  obtain ⟨g, c, he⟩ := warmReset_eq s 3 0
  exact ⟨g, c, by rw [State.pinReset, he]⟩

theorem pinReset_regs (s : State) : s.pinReset.regs = (s.warmReset 3 0).regs := rfl

theorem reg_pinReset (s : State) (a : Nat) : s.pinReset.reg a = (s.warmReset 3 0).reg a := by
  unfold State.reg
  rw [pinReset_regs]

theorem get_pinReset (s : State) (f : Field) : s.pinReset.get f = (s.warmReset 3 0).get f := by
  unfold State.get
  rw [reg_pinReset]

theorem exec_warmReset_pin (perst : Bool) (s : State) : exec (.warmReset true perst) s = .next (if perst then s.pinReset.pcieReset else s.pinReset) := rfl

/-! ### Reset of the endpoint -/

theorem reg_pcieReset (s : State) (a : Nat) : s.pcieReset.reg a = if msixAddr a then resetWord a else s.reg a := by
  refine (tget_filter (resetWord a) (fun a => !msixAddr a) s.regs a).trans ?_
  by_cases h : msixAddr a = true
  · simp [h]
  · simp [h, State.reg]

theorem get_pcieReset (s : State) (f : Field) (h : msixAddr (f.addr 0 0) = false) : s.pcieReset.get f = s.get f := by
  unfold State.get
  rw [reg_pcieReset, h]
  rfl

/-! ### What the resets keep -/

/-- The words of the MSI-X table are none of those that a reset writes. -/
theorem msixAddr_kept {a : Nat} (h : msixAddr a = true) : a ∉ 0x60040 :: 0x60044 :: otpWords := by
  rw [msixAddr_iff] at h
  intro hmem
  simp only [otpWords, List.mem_cons, List.not_mem_nil, or_false] at hmem
  omega

/-- Settles O32: each reset writes the words in which OTP, the cause and the firmware's state show; every other word is as its domain has it. -/
theorem resetsAndWhatTheyKeep : Obligations.ResetsAndWhatTheyKeep := by
  unfold Obligations.ResetsAndWhatTheyKeep
  have hmsix : ∀ {a : Nat}, ¬(0x1000 ≤ a ∧ a < 0x1200) → ¬ msixAddr a = true := fun h => mt (msixAddr_iff _).1 h
  refine ⟨fun aon s => ?cold, fun perst s => ?pin, fun perst t0 s hat hlate => ?asked, fun rail s => ?undervoltage, fun s => ?endpoint, fun s => ?loss⟩
  case cold =>
    obtain ⟨g, c, he⟩ := coldReset_eq s (if aon then 2 else 1)
    refine ⟨_, rfl, ?_, ?_, fun a ha => reg_coldReset s _ ha, ?_, ?_, ?_, ?_, fun hw => ?_⟩
    · rw [cause_coldReset]
      cases aon <;> rfl
    · unfold State.get
      rw [reg_coldReset s _ (by decide)]
      decide
    · rw [he]; rfl
    · rw [he]; rfl
    · rw [he]; rfl
    · rw [he]; rfl
    · rw [he]
      show { s.afterReset.test.otp with loadedRoot := s.afterReset.test.otp.rootKey, loadedPw := s.afterReset.test.otp.pwHash } = _
      rw [otp_afterReset s hw]
  case pin =>
    obtain ⟨g, c, he⟩ := pinReset_eq s
    have hcause := (get_pinReset s Reg.RST_CAUSE_CAUSE).trans (cause_warmReset s 3 0)
    have hfw := (get_pinReset s Reg.FW_STATUS_STATE).trans (fwState_warmReset s 3 0)
    have hotp : s.test.write = none → s.pinReset.test.otp = s.test.otp := fun hw => by
      rw [he]
      exact otp_afterReset s hw
    have hregs := fun (a : Nat) (h : a ∉ 0x60040 :: 0x60044 :: otpWords) => (reg_pinReset s a).trans (reg_warmReset s 3 0 h)
    refine ⟨_, exec_warmReset_pin perst s, ?_⟩
    cases perst
    case false =>
      refine ⟨hcause, hfw, ?_, ?_, ?_, hotp, fun _ => ⟨?_, ?_, fun a hlo hhi => ?_⟩, nofun, fun a ha hreg => (hregs a hreg).trans (if_neg (hmsix ha))⟩
      · simp [he]
      · simp [he]
      · simp [he, State.afterReset, State.reset]
      · simp [he]
      · simp [he]
      · have ha := (msixAddr_iff a).2 ⟨hlo, hhi⟩
        exact (hregs a (msixAddr_kept ha)).trans (if_pos ha)
    case true =>
      refine ⟨(get_pcieReset _ _ (by decide)).trans hcause, (get_pcieReset _ _ (by decide)).trans hfw, ?_, ?_, ?_, hotp, nofun,
        fun _ => ⟨rfl, rfl, fun a hlo hhi => (reg_pcieReset _ a).trans (if_pos ((msixAddr_iff a).2 ⟨hlo, hhi⟩))⟩,
        fun a ha hreg => (reg_pcieReset _ a).trans ((if_neg (hmsix ha)).trans ((hregs a hreg).trans (if_neg (hmsix ha))))⟩
      · simp [State.pcieReset, he]
      · simp [State.pcieReset, he]
      · simp [State.pcieReset, he, State.afterReset, State.reset]
  case asked =>
    obtain ⟨g, c, he⟩ := warmReset_eq s 4 0
    refine ⟨(s.warmReset 4 0).set Reg.FW_STATUS_STATE 1, ?_, ?_, ?_, ?_, ?_, ?_, otp_warmReset s 4 0, fun a ha hreg => ?_⟩
    · show execWarmReset false perst s = _
      simp [execWarmReset, hat, msT, hlate]
    · rw [get_set_ne _ _ _ _ _ _ _ _ (by decide) (by decide), cause_warmReset]
    · exact get_set_self _ _ _ _ _ (by decide)
    · rw [he]; rfl
    · rw [he]; rfl
    · rw [he]; rfl
    · exact (reg_warmReset_loader s 4 0 hreg).trans (if_neg (hmsix ha))
  case undervoltage =>
    obtain ⟨g, c, he⟩ := warmReset_eq s 5 rail.val
    refine ⟨_, rfl, ?_, ?_, ?_, ?_, ?_, ?_, otp_warmReset s 5 rail.val, fun a ha hreg => ?_⟩
    · rw [get_set_ne _ _ _ _ _ _ _ _ (by decide) (by decide), cause_warmReset]
    · rw [get_set_ne _ _ _ _ _ _ _ _ (by decide) (by decide), rail_warmReset]
      exact Nat.mod_eq_of_lt rail.isLt
    · exact get_set_self _ _ _ _ _ (by decide)
    · rw [he]; rfl
    · rw [he]; rfl
    · rw [he]; rfl
    · exact (reg_warmReset_loader s 5 rail.val hreg).trans (if_neg (hmsix ha))
  case endpoint =>
    exact ⟨_, rfl, rfl, rfl, rfl, fun a hlo hhi => (reg_pcieReset s a).trans (if_pos ((msixAddr_iff a).2 ⟨hlo, hhi⟩)),
      fun a ha => (reg_pcieReset s a).trans (if_neg (hmsix ha))⟩
  case loss =>
    exact ⟨_, rfl, rfl, rfl, rfl, otp_afterReset s, rfl, rfl⟩

/-! ### The squelch and the messages after a reset -/

/-- Where the words that the squelch is read from are as after reset, the squelch is held (R280, R281). -/
theorem squelchHeld_of_reset {t : State} (hregs : ∀ a ∈ 0x150010 :: reasonWords, t.reg a = resetWord a) (htx : t.tx = {}) (hsys : t.sys = {}) :
    SquelchHeld t := by
  have hreset : SquelchHeld State.reset := .inr ⟨by decide +kernel, fun _ => by decide +kernel⟩
  exact hreset.congr hregs htx hsys

theorem reasonWords_not_reset : ∀ a ∈ 0x150010 :: reasonWords, a ∉ 0x60040 :: 0x60044 :: otpWords ∧ msixAddr a = false := by decide +kernel

theorem reasonWord_not_cold {a : Nat} (h : a ∈ 0x150010 :: reasonWords) : a ∉ 0x60040 :: otpWords := by
  have hkept := (reasonWords_not_reset a h).1
  simp only [List.mem_cons, not_or] at hkept ⊢
  exact ⟨hkept.1, hkept.2.2⟩

theorem settled_coldReset (s : State) (cause : Nat) : Settled (s.coldReset cause) := by
  obtain ⟨g, c, he⟩ := coldReset_eq s cause
  refine ⟨squelchHeld_of_reset (fun a ha => reg_coldReset s cause (reasonWord_not_cold ha)) ?_ ?_, fun hen => ?_⟩
  · rw [he]; rfl
  · rw [he]; rfl
  · rw [he] at hen
    exact absurd hen Bool.false_ne_true

theorem squelchHeld_warmReset (s : State) (cause rail : Nat) : SquelchHeld (s.warmReset cause rail) := by
  obtain ⟨g, c, he⟩ := warmReset_eq s cause rail
  refine squelchHeld_of_reset (fun a ha => ?_) ?_ ?_
  · obtain ⟨hkept, hmsix⟩ := reasonWords_not_reset a ha
    exact (reg_warmReset s cause rail hkept).trans (by rw [hmsix]; rfl)
  · rw [he]; rfl
  · rw [he]; rfl

theorem noStaleMessage_warmReset {s : State} (cause rail : Nat) (h : NoStaleMessage s) : NoStaleMessage (s.warmReset cause rail) := by
  obtain ⟨g, c, he⟩ := warmReset_eq s cause rail
  refine h.congr (by rw [he]) fun v hv => ?_
  have ha : msixAddr (0x100C + 16 * v) = true := (msixAddr_iff _).2 (by omega)
  exact (reg_warmReset s cause rail (msixAddr_kept ha)).trans (if_pos ha)

theorem settled_pcieReset {s : State} (h : SquelchHeld s) : Settled s.pcieReset :=
  ⟨h.congr (fun a ha => (reg_pcieReset s a).trans (by rw [(reasonWords_not_reset a ha).2]; rfl)) rfl rfl,
    fun hen => absurd hen Bool.false_ne_true⟩

/-- A field of a word that neither the squelch nor the MSI-X masks are read from may be set. -/
theorem Settled.set {s : State} (h : Settled s) (f : Field) (v : Nat) (hf : f.addr 0 0 ∉ 0x150010 :: reasonWords)
    (hm : msixAddr (f.addr 0 0) = false) : Settled (s.set f v) := by
  refine ⟨h.1.congr (fun a ha => reg_set_ne _ _ _ _ _ fun e => hf (e ▸ ha)) rfl rfl, h.2.congr rfl fun u hu => reg_set_ne _ _ _ _ _ fun e => ?_⟩
  rw [← e, ← Bool.not_eq_true, msixAddr_iff] at hm
  omega

theorem pending_warmReset (s : State) (cause rail : Nat) : (s.warmReset cause rail).pending = s.pending := by
  obtain ⟨g, c, he⟩ := warmReset_eq s cause rail
  rw [he]
  rfl

theorem pending_coldReset (s : State) (cause : Nat) : (s.coldReset cause).pending = s.pending := by
  obtain ⟨g, c, he⟩ := coldReset_eq s cause
  rw [he]
  rfl

end Sys2Proof.Machine
end

section
/-! SUPPORT. Every command ends: it answers a next state with the queue it was given, settled where the state was. -/

namespace Sys2Proof.Machine

/-- What every meaning answers: a next state with the queue it was given, which is settled where the state was. -/
def Ends (s : State) (o : Out) : Prop := ∃ t, o = .next t ∧ t.pending = s.pending ∧ (Settled s → Settled t)

/-- Where its condition is not met, a command leaves the state (log entry 2). -/
@[simp ↓] theorem Ends.next {s : State} : Ends s (.next s) := ⟨s, rfl, rfl, id⟩

@[simp ↓] theorem Ends.done {s : State} (u : State) : Ends s (done s u) := ⟨_, rfl, rfl, fun _ => settled_of_done rfl⟩

theorem Ends.ite {s : State} {c : Prop} [Decidable c] {a b : Out} (ha : Ends s a) (hb : Ends s b) : Ends s (if c then a else b) := by
  split
  · exact ha
  · exact hb

/-! ### The forms that many commands share -/

theorem ends_act (mb op : Nat) (s : State) (f : List Byte → State → State × Reply) : Ends s (act mb op s f) := by
  unfold act
  split
  · exact .next
  · exact .done _

theorem ends_actLong (mb op : Nat) (s : State) (f : List Byte → State → State × Option Reply) : Ends s (actLong mb op s f) := by
  unfold actLong
  split
  · exact .next
  · dsimp only
    split
    · exact .done _
    · exact .done _

theorem ends_report (mb op : Nat) (s : State) (f : List Byte → State → Reply) : Ends s (report mb op s f) := by
  unfold report
  exact ends_act _ _ _ _

theorem ends_actOn (mb op : Nat) (s : State) (f : List Byte → State → State × Reply) : Ends s (actOn mb op s f) := by
  unfold actOn
  exact ends_act _ _ _ _

theorem ends_keyCommand (mb op : Nat) (s : State) (f : State → List Byte → State × Reply) : Ends s (keyCommand mb op s f) := by
  unfold keyCommand
  exact ends_actLong _ _ _ _

theorem ends_stage (mb op : Nat) (objs : List Byte → List Obj) (s : State) (refuse : List Byte → State → Option Reply)
    (extra : List Byte → State → State × List Byte) : Ends s (stage mb op objs s refuse extra) := by
  unfold stage
  exact ends_act _ _ _ _

theorem ends_issue (engine : Fin 512) (thread : Fin 8) (s : State) (mine : Nat → Bool) (f : Nat → Task → State → State × Ran) :
    Ends s (issue engine thread s mine f) := by
  unfold issue
  dsimp only
  split
  · exact .next
  · exact .ite .next (.ite (.done _) (.ite (.done _) (.done _)))

theorem ends_aluR (op lat : Nat) (g : DWord → DWord → DWord) (engine : Fin 512) (thread : Fin 8) (s : State) : Ends s (aluR op lat g engine thread s) := by
  unfold aluR
  exact ends_issue _ _ _ _ _

theorem ends_aluI (op : Nat) (g : DWord → Nat → DWord) (engine : Fin 512) (thread : Fin 8) (s : State) : Ends s (aluI op g engine thread s) := by
  unfold aluI
  exact ends_issue _ _ _ _ _

theorem ends_branch (op : Nat) (g : DWord → DWord → Bool) (engine : Fin 512) (thread : Fin 8) (s : State) : Ends s (branch op g engine thread s) := by
  unfold branch
  exact ends_issue _ _ _ _ _

theorem ends_dload (op n : Nat) (engine : Fin 512) (thread : Fin 8) (s : State) : Ends s (dload op n engine thread s) := by
  unfold dload
  exact ends_issue _ _ _ _ _

theorem ends_dstore (op n : Nat) (engine : Fin 512) (thread : Fin 8) (s : State) : Ends s (dstore op n engine thread s) := by
  unfold dstore
  exact ends_issue _ _ _ _ _

theorem ends_pload (op n : Nat) (engine : Fin 512) (thread : Fin 8) (s : State) : Ends s (pload op n engine thread s) := by
  unfold pload
  exact ends_issue _ _ _ _ _

theorem ends_pstore (op n : Nat) (engine : Fin 512) (thread : Fin 8) (s : State) : Ends s (pstore op n engine thread s) := by
  unfold pstore
  exact ends_issue _ _ _ _ _

theorem ends_atom (fn : Nat) (engine : Fin 512) (thread : Fin 8) (s : State) : Ends s (atom fn engine thread s) := by
  unfold atom
  exact .ite .next (ends_issue _ _ _ _ _)

/-! ### Resets -/

theorem ends_execColdReset (aon : Bool) (s : State) : Ends s (execColdReset aon s) :=
  ⟨_, rfl, pending_coldReset s _, fun _ => settled_coldReset s _⟩

theorem ends_loader (s : State) (cause rail : Nat) : Ends s (.next ((s.warmReset cause rail).set Reg.FW_STATUS_STATE 1)) :=
  ⟨_, rfl, (set_pending _ _ _ _ _).trans (pending_warmReset s cause rail), fun h =>
    Settled.set ⟨squelchHeld_warmReset s cause rail, noStaleMessage_warmReset cause rail h.2⟩ _ _ (by decide) (by decide)⟩

theorem settled_pinReset {s : State} (h : Settled s) : Settled s.pinReset := by
  obtain ⟨g, c, he⟩ := pinReset_eq s
  obtain ⟨g', c', hw⟩ := warmReset_eq s 3 0
  refine ⟨(squelchHeld_warmReset s 3 0).congr (fun a _ => reg_pinReset s a) ?_ ?_,
    (noStaleMessage_warmReset 3 0 h.2).congr ?_ fun v _ => reg_pinReset s _⟩
  · rw [he, hw]
  · rw [he, hw]
  · rw [he, hw]

theorem pending_pcieReset (s : State) : s.pcieReset.pending = s.pending := rfl

theorem pending_pinReset (s : State) : s.pinReset.pending = s.pending := by
  obtain ⟨g, c, he⟩ := pinReset_eq s
  rw [he]
  rfl

theorem ends_execWarmReset (pin perst : Bool) (s : State) : Ends s (execWarmReset pin perst s) := by
  cases pin
  case true =>
    have hpin : Ends s (.next s.pinReset) := ⟨_, rfl, pending_pinReset s, settled_pinReset⟩
    have hboth : Ends s (.next s.pinReset.pcieReset) :=
      ⟨_, rfl, (pending_pcieReset _).trans (pending_pinReset s), fun h => settled_pcieReset (settled_pinReset h).1⟩
    rw [show execWarmReset true perst s = _ from exec_warmReset_pin perst s]
    cases perst
    case false => simpa using hpin
    case true => simpa using hboth
  case false =>
    show Ends s (match s.power.resetAt with
      | some t => if t + msT 1 ≤ s.clock then .next ((s.warmReset 4 0).set Reg.FW_STATUS_STATE 1) else .next s
      | none => .next s)
    split
    · exact .ite (ends_loader s 4 0) .next
    · exact .next

theorem ends_execPcieReset (s : State) : Ends s (execPcieReset s) := ⟨_, rfl, rfl, fun h => settled_pcieReset h.1⟩

theorem ends_execPowerLoss (s : State) : Ends s (execPowerLoss s) :=
  ⟨_, rfl, rfl, fun _ => ⟨squelchHeld_of_reset (fun _ _ => rfl) rfl rfl, fun h => absurd h Bool.false_ne_true⟩⟩

theorem ends_execMsixUnmask (vector : Option (Fin 32)) (s : State) : Ends s (execMsixUnmask vector s) := by
  unfold execMsixUnmask
  split
  all_goals simp only [↓Ends.done]

theorem ends_execCalStepMeasureEnd (adc : Fin 4) (res : Residual) (cal : SliceCal) (s : State) : Ends s (execCalStepMeasureEnd adc res cal s) := by
  unfold execCalStepMeasureEnd
  extract_lets
  repeat' split
  all_goals simp only [↓Ends.next, ↓Ends.done]

theorem ends_execFgCalDone (adcs : List FgAdc) (dacs : List FgDac) (s : State) : Ends s (execFgCalDone adcs dacs s) := by
  unfold execFgCalDone
  extract_lets
  repeat' split
  all_goals simp only [↓Ends.next, ↓Ends.done]

theorem ends_execXqRecentre (lane : Fin 24) (shift : Option Int) (s : State) : Ends s (execXqRecentre lane shift s) := by
  unfold execXqRecentre
  extract_lets
  repeat' split
  all_goals simp only [↓Ends.next, ↓Ends.done]

theorem ends_execClampEpisodeEnd (loop : Fin 6) (inst : Fin 33) (s : State) : Ends s (execClampEpisodeEnd loop inst s) := by
  unfold execClampEpisodeEnd
  repeat' split
  all_goals simp only [↓Ends.next, ↓Ends.done]

theorem ends_execOptSpiXferDone (inBytes : List Byte) (s : State) : Ends s (execOptSpiXferDone inBytes s) := by
  unfold execOptSpiXferDone
  split
  all_goals simp only [↓Ends.next, ↓Ends.done]

theorem ends_execOptI2cXferDone (status : Fin 5) (inBytes : List Byte) (s : State) : Ends s (execOptI2cXferDone status inBytes s) := by
  unfold execOptI2cXferDone
  split
  all_goals simp only [↓Ends.next, ↓Ends.done]

theorem ends_execFreqGateEnd (ref : Fin 7) (ofs : Int) (s : State) : Ends s (execFreqGateEnd ref ofs s) := by
  unfold execFreqGateEnd
  extract_lets
  repeat' split
  all_goals simp only [↓Ends.next, ↓Ends.done]

theorem ends_execHoldoverExpire (s : State) : Ends s (execHoldoverExpire s) := by
  unfold execHoldoverExpire
  repeat' split
  all_goals simp only [↓Ends.next, ↓Ends.done]

theorem ends_execFpiEdge (i : Fin 2) (s : State) : Ends s (execFpiEdge i s) := by
  unfold execFpiEdge
  extract_lets
  repeat' split
  all_goals simp only [↓Ends.next, ↓Ends.done]

theorem ends_execFpiMiss (i : Fin 2) (s : State) : Ends s (execFpiMiss i s) := by
  unfold execFpiMiss
  extract_lets
  repeat' split
  all_goals simp only [↓Ends.next, ↓Ends.done]

theorem ends_execFwFlashWriteDone (s : State) : Ends s (execFwFlashWriteDone s) := by
  unfold execFwFlashWriteDone
  extract_lets
  repeat' split
  all_goals simp only [↓Ends.next, ↓Ends.done]

theorem ends_execPmbusRetry (acked : Bool) (s : State) : Ends s (execPmbusRetry acked s) := by
  unfold execPmbusRetry
  repeat' split
  all_goals simp only [↓Ends.next, ↓Ends.done]

theorem ends_execAcqStepComplete (furrow : Option (Fin 32)) (freq cd : Int) (s : State) : Ends s (execAcqStepComplete furrow freq cd s) := by
  unfold execAcqStepComplete
  split
  all_goals simp only [↓Ends.next, ↓Ends.done]

theorem ends_execAdaptTimeout (furrow : Fin 32) (s : State) : Ends s (execAdaptTimeout furrow s) := by
  unfold execAdaptTimeout
  extract_lets
  repeat' split
  all_goals simp only [↓Ends.next, ↓Ends.done]

theorem ends_execLeafMeasureDone (leaf : Fin 1024) (s : State) : Ends s (execLeafMeasureDone leaf s) := by
  unfold execLeafMeasureDone
  extract_lets
  repeat' split
  all_goals simp only [↓Ends.next, ↓Ends.done]

theorem ends_execBurstDetect (furrow : Fin 32) (mf : Nat) (pos power afc : Int) (s : State) : Ends s (execBurstDetect furrow mf pos power afc s) := by
  unfold execBurstDetect
  extract_lets
  repeat' split
  all_goals simp only [↓Ends.next, ↓Ends.done]

theorem ends_execBurstSyncTimeout (furrow : Fin 32) (s : State) : Ends s (execBurstSyncTimeout furrow s) := by
  unfold execBurstSyncTimeout
  extract_lets
  repeat' split
  all_goals simp only [↓Ends.next, ↓Ends.done]

theorem ends_execBurstCapture (furrow : Fin 32) (mf : Nat) (pos : Int) (seen : Preamble) (cut : Cut) (s : State) :
    Ends s (execBurstCapture furrow mf pos seen cut s) := by
  unfold execBurstCapture
  extract_lets
  repeat' split
  all_goals simp only [↓Ends.next, ↓Ends.done]

theorem ends_execBurstHeader (furrow : Fin 32) (header : BitVec 128) (arrival rssi : Int) (s : State) :
    Ends s (execBurstHeader furrow header arrival rssi s) := by
  unfold execBurstHeader
  dsimp only
  repeat' split
  all_goals simp only [↓Ends.next, ↓Ends.done]

theorem ends_execBurstEnd (furrow : Fin 32) (resid cd : Int) (snr : Fin 65536) (final : Equalised) (s : State) :
    Ends s (execBurstEnd furrow resid cd snr final s) := by
  unfold execBurstEnd
  extract_lets
  repeat' split
  all_goals simp only [↓Ends.next, ↓Ends.done]

theorem ends_execGrantMissed (leaf : Fin 1024) (s : State) : Ends s (execGrantMissed leaf s) := by
  unfold execGrantMissed
  repeat' split
  all_goals simp only [↓Ends.next, ↓Ends.done]

theorem ends_execSurveyRetryWait (s : State) : Ends s (execSurveyRetryWait s) := by
  unfold execSurveyRetryWait
  extract_lets
  repeat' split
  all_goals simp only [↓Ends.next, ↓Ends.done]

theorem ends_execCodewordDecoded (furrow : Fin 32) (burst : Bool) (r : CwResult) (s : State) : Ends s (execCodewordDecoded furrow burst r s) := by
  unfold execCodewordDecoded
  extract_lets
  repeat' split
  all_goals simp only [↓Ends.next, ↓Ends.done]

theorem ends_execFrameHuntWord (furrow : Fin 32) (bits : BitVec 575) (s : State) : Ends s (execFrameHuntWord furrow bits s) := by
  unfold execFrameHuntWord
  extract_lets
  repeat' split
  all_goals simp only [↓Ends.next, ↓Ends.done]

theorem ends_execFrameReceived (furrow : Fin 32) (faws : List (BitVec 64)) (pq : Option (Byte × Byte)) (s : State) :
    Ends s (execFrameReceived furrow faws pq s) := by
  unfold execFrameReceived
  extract_lets
  repeat' split
  all_goals simp only [↓Ends.next, ↓Ends.done]

theorem ends_execMultiframeStreamRx (group : Fin 8) (heard : StreamRx) (s : State) : Ends s (execMultiframeStreamRx group heard s) := by
  unfold execMultiframeStreamRx
  extract_lets
  repeat' split
  all_goals simp only [↓Ends.next, ↓Ends.done]

theorem ends_execMgmtMessageRx (group : Fin 8) (s : State) : Ends s (execMgmtMessageRx group s) := by
  unfold execMgmtMessageRx
  dsimp only
  repeat' split
  all_goals simp only [↓Ends.next, ↓Ends.done]

theorem ends_execHoldoffExpire (defect : Fin 4) (s : State) : Ends s (execHoldoffExpire defect s) := by
  unfold execHoldoffExpire
  extract_lets
  repeat' split
  all_goals simp only [↓Ends.next, ↓Ends.done]

theorem ends_execWtrExpire (s : State) : Ends s (execWtrExpire s) := by
  unfold execWtrExpire
  repeat' split
  all_goals simp only [↓Ends.next, ↓Ends.done]

theorem ends_execSettlingEnd (s : State) : Ends s (execSettlingEnd s) := by
  unfold execSettlingEnd
  repeat' split
  all_goals simp only [↓Ends.next, ↓Ends.done]

theorem ends_execAcqTimeout (furrow : Option (Fin 32)) (s : State) : Ends s (execAcqTimeout furrow s) := by
  unfold execAcqTimeout
  dsimp only
  repeat' split
  all_goals simp only [↓Ends.next, ↓Ends.done]

theorem ends_execFurrowLosClear (furrow : Fin 32) (s : State) : Ends s (execFurrowLosClear furrow s) := by
  unfold execFurrowLosClear
  extract_lets
  repeat' split
  all_goals simp only [↓Ends.next, ↓Ends.done]

theorem ends_execSlipRead (turnout : Fin 256) (outbound : Bool) (s : State) : Ends s (execSlipRead turnout outbound s) := by
  unfold execSlipRead
  extract_lets
  repeat' split
  all_goals simp only [↓Ends.next, ↓Ends.done]

theorem ends_execCipherUnitRx (turnout : Fin 256) (header : BitVec 64) (marked : Bool) (s : State) :
    Ends s (execCipherUnitRx turnout header marked s) := by
  unfold execCipherUnitRx
  extract_lets
  repeat' split
  all_goals simp only [↓Ends.next, ↓Ends.done]

theorem ends_execCipherUnitEnd (turnout : Fin 256) (ciphertext : List Byte) (tag : BitVec 128) (_pad : BitVec 7) (marked failed : Bool) (s : State) :
    Ends s (execCipherUnitEnd turnout ciphertext tag _pad marked failed s) := by
  unfold execCipherUnitEnd
  dsimp only
  repeat' split
  all_goals simp only [↓Ends.next, ↓Ends.done]

theorem ends_execKeyTransferDone (s : State) : Ends s (execKeyTransferDone s) := by
  unfold execKeyTransferDone
  dsimp only
  repeat' split
  all_goals simp only [↓Ends.next, ↓Ends.done]

theorem ends_execHostPortWordRx (turnout : Fin 256) (taken : Nat) (last : Bool) (s : State) : Ends s (execHostPortWordRx turnout taken last s) := by
  unfold execHostPortWordRx
  extract_lets
  repeat' split
  all_goals simp only [↓Ends.next, ↓Ends.done]

theorem ends_execPacketArrival (turnout : Fin 256) (arrived : List (BitVec 66)) (last : BitVec 66) (marked : Bool) (s : State) :
    Ends s (execPacketArrival turnout arrived last marked s) := by
  unfold execPacketArrival
  extract_lets
  repeat' split
  all_goals simp only [↓Ends.next, ↓Ends.done]

theorem ends_execParseStart (s : State) : Ends s (execParseStart s) := by
  unfold execParseStart
  extract_lets
  repeat' split
  all_goals simp only [↓Ends.next, ↓Ends.done]

theorem ends_execPacketClassified (turnout : Fin 256) (s : State) : Ends s (execPacketClassified turnout s) := by
  unfold execPacketClassified
  extract_lets
  repeat' split
  all_goals simp only [↓Ends.next, ↓Ends.done]

theorem ends_execActionStage (turnout : Fin 256) (s : State) : Ends s (execActionStage turnout s) := by
  unfold execActionStage
  dsimp only
  repeat' split
  all_goals simp only [↓Ends.next, ↓Ends.done]

theorem ends_execBackwaterReentry (s : State) : Ends s (execBackwaterReentry s) := by
  unfold execBackwaterReentry
  dsimp only
  repeat' split
  all_goals simp only [↓Ends.next, ↓Ends.done]

theorem ends_execHeadgateSelect (turnout : Fin 256) (s : State) : Ends s (execHeadgateSelect turnout s) := by
  unfold execHeadgateSelect
  extract_lets
  repeat' split
  all_goals simp only [↓Ends.next, ↓Ends.done]

theorem ends_execPacketEgress (turnout : Fin 256) (s : State) : Ends s (execPacketEgress turnout s) := by
  unfold execPacketEgress
  dsimp only
  repeat' split
  all_goals simp only [↓Ends.next, ↓Ends.done]

theorem ends_execSampleRecordWrite (lateral : Fin 32) (s : State) : Ends s (execSampleRecordWrite lateral s) := by
  unfold execSampleRecordWrite
  dsimp only
  repeat' split
  all_goals simp only [↓Ends.next, ↓Ends.done]

theorem ends_execTaskCommit (turnout : Fin 256) (s : State) : Ends s (execTaskCommit turnout s) := by
  unfold execTaskCommit
  dsimp only
  repeat' split
  all_goals simp only [↓Ends.next, ↓Ends.done]

theorem ends_execOrderGateAcquire (engine : Fin 512) (thread : Fin 8) (s : State) : Ends s (execOrderGateAcquire engine thread s) := by
  unfold execOrderGateAcquire
  dsimp only
  repeat' split
  all_goals simp only [↓Ends.next, ↓Ends.done]

theorem ends_execTaskDispatch (s : State) : Ends s (execTaskDispatch s) := by
  unfold execTaskDispatch
  dsimp only
  repeat' split
  all_goals simp only [↓Ends.next, ↓Ends.done]

theorem ends_execLateralConvert (s : State) : Ends s (execLateralConvert s) := by
  unfold execLateralConvert
  repeat' split
  all_goals simp only [↓Ends.next, ↓Ends.done]

theorem ends_execEngLatHoldDone (s : State) : Ends s (execEngLatHoldDone s) := by
  unfold execEngLatHoldDone
  extract_lets
  repeat' split
  all_goals simp only [↓Ends.next, ↓Ends.done]

theorem ends_execScrubPassEnd (mem : Fin 14) (s : State) : Ends s (execScrubPassEnd mem s) := by
  unfold execScrubPassEnd
  repeat' split
  all_goals simp only [↓Ends.next, ↓Ends.done]

theorem ends_execCtleStep (lane : Fin 24) (best : Fin 256) (s : State) : Ends s (execCtleStep lane best s) := by
  unfold execCtleStep
  extract_lets
  repeat' split
  all_goals simp only [↓Ends.next, ↓Ends.done]

theorem ends_execPortAlign (lane : Fin 16) (skew : Fin 256) (s : State) : Ends s (execPortAlign lane skew s) := by
  unfold execPortAlign
  extract_lets
  repeat' split
  all_goals simp only [↓Ends.next, ↓Ends.done]

theorem ends_execPortAlignLoss (lane : Fin 16) (markers : BitVec 8) (skew : Fin 256) (s : State) : Ends s (execPortAlignLoss lane markers skew s) := by
  unfold execPortAlignLoss
  dsimp only
  repeat' split
  all_goals simp only [↓Ends.next, ↓Ends.done]

theorem ends_execHiSerWindow (lane : Fin 16) (s : State) : Ends s (execHiSerWindow lane s) := by
  unfold execHiSerWindow
  extract_lets
  repeat' split
  all_goals simp only [↓Ends.next, ↓Ends.done]

theorem ends_execRlBlockRx (lane : Fin 16) (header : BitVec 2) (payload : BitVec 64) (s : State) : Ends s (execRlBlockRx lane header payload s) := by
  unfold execRlBlockRx
  extract_lets
  repeat' split
  all_goals simp only [↓Ends.next, ↓Ends.done]

theorem ends_execPatLock (lane : Fin 24) (gained : Bool) (s : State) : Ends s (execPatLock lane gained s) := by
  unfold execPatLock
  extract_lets
  repeat' split
  all_goals simp only [↓Ends.next, ↓Ends.done]

theorem ends_execLanePstateDone (lane : Fin 24) (s : State) : Ends s (execLanePstateDone lane s) := by
  unfold execLanePstateDone
  extract_lets
  repeat' split
  all_goals simp only [↓Ends.next, ↓Ends.done]

theorem ends_execLaneExitTimeout (lane : Fin 24) (s : State) : Ends s (execLaneExitTimeout lane s) := by
  unfold execLaneExitTimeout
  extract_lets
  repeat' split
  all_goals simp only [↓Ends.next, ↓Ends.done]

theorem ends_execTlCharacterRx (tl : Fin 2) (char : LineCode) (s : State) : Ends s (execTlCharacterRx tl char s) := by
  unfold execTlCharacterRx
  extract_lets
  repeat' split
  all_goals simp only [↓Ends.next, ↓Ends.done]

theorem ends_execMarkSeenTimeout (tl : Fin 2) (s : State) : Ends s (execMarkSeenTimeout tl s) := by
  unfold execMarkSeenTimeout
  extract_lets
  repeat' split
  all_goals simp only [↓Ends.next, ↓Ends.done]

theorem ends_execModMeasureDone (means : Fin 65536 × Fin 65536) (s : State) : Ends s (execModMeasureDone means s) := by
  unfold execModMeasureDone
  extract_lets
  repeat' split
  all_goals simp only [↓Ends.next, ↓Ends.done]

theorem ends_execLeafBurstTx (furrow : Fin 32) (s : State) : Ends s (execLeafBurstTx furrow s) := by
  unfold execLeafBurstTx
  dsimp only
  repeat' split
  all_goals simp only [↓Ends.next, ↓Ends.done]

theorem ends_execGaugeConversionEnd (code : Fin 4096) (beyond : Option Bool) (s : State) : Ends s (execGaugeConversionEnd code beyond s) := by
  unfold execGaugeConversionEnd
  extract_lets
  repeat' split
  all_goals simp only [↓Ends.next, ↓Ends.done]

theorem ends_execTapCaptureDone (runIn words : List (BitVec 64)) (s : State) : Ends s (execTapCaptureDone runIn words s) := by
  unfold execTapCaptureDone
  extract_lets
  repeat' split
  all_goals simp only [↓Ends.next, ↓Ends.done]

theorem ends_execSampleTag (lateral : Fin 32) (s : State) : Ends s (execSampleTag lateral s) := by
  unfold execSampleTag
  extract_lets
  repeat' split
  all_goals simp only [↓Ends.next, ↓Ends.done]

theorem ends_execFiTimeout (i : Fin 8) (s : State) : Ends s (execFiTimeout i s) := by
  unfold execFiTimeout
  repeat' split
  all_goals simp only [↓Ends.next, ↓Ends.done]

theorem ends_execFiReorderIdle (i : Fin 8) (s : State) : Ends s (execFiReorderIdle i s) := by
  unfold execFiReorderIdle
  repeat' split
  all_goals simp only [↓Ends.next, ↓Ends.done]

theorem ends_execChallengeExpire (s : State) : Ends s (execChallengeExpire s) := by
  unfold execChallengeExpire
  repeat' split
  all_goals simp only [↓Ends.next, ↓Ends.done]

theorem ends_execOtpWriteDone (verified : Bool) (s : State) : Ends s (execOtpWriteDone verified s) := by
  unfold execOtpWriteDone
  extract_lets
  repeat' split
  all_goals simp only [↓Ends.next, ↓Ends.done]

theorem ends_execSelftestDone (failed : Bool) (words : Nat) (mem : Fin 14) (inst : Fin 512) (first : BitVec 32) (s : State) :
    Ends s (execSelftestDone failed words mem inst first s) := by
  unfold execSelftestDone
  extract_lets
  repeat' split
  all_goals simp only [↓Ends.next, ↓Ends.done]

theorem ends_execQuenchTimeout (kind : Fin 7) (idx : Fin 1024) (left : Nat) (s : State) : Ends s (execQuenchTimeout kind idx left s) := by
  unfold execQuenchTimeout
  extract_lets
  repeat' split
  all_goals simp only [↓Ends.next, ↓Ends.done]

theorem ends_execModeChangeGate (s : State) : Ends s (execModeChangeGate s) := by
  unfold execModeChangeGate
  extract_lets
  repeat' split
  all_goals simp only [↓Ends.next, ↓Ends.done]

theorem ends_execModeChangeDone (s : State) : Ends s (execModeChangeDone s) := by
  unfold execModeChangeDone
  repeat' split
  all_goals simp only [↓Ends.next, ↓Ends.done]

theorem ends_execThermalShutdown (s : State) : Ends s (execThermalShutdown s) := by
  unfold execThermalShutdown
  repeat' split
  all_goals simp only [↓Ends.next, ↓Ends.done]

theorem ends_execShutdownQuiesced (s : State) : Ends s (execShutdownQuiesced s) := by
  unfold execShutdownQuiesced
  extract_lets
  repeat' split
  all_goals simp only [↓Ends.next, ↓Ends.done]

theorem ends_execShutdownSafeOff (s : State) : Ends s (execShutdownSafeOff s) := by
  unfold execShutdownSafeOff
  split
  all_goals simp only [↓Ends.next, ↓Ends.done]

theorem ends_execCommitBoundary (s : State) : Ends s (execCommitBoundary s) := by
  unfold execCommitBoundary
  split
  all_goals simp only [↓Ends.next, ↓Ends.done]

theorem ends_execTxnCommitDone (mb : Fin 8) (s : State) : Ends s (execTxnCommitDone mb s) := by
  unfold execTxnCommitDone
  extract_lets
  repeat' split
  all_goals simp only [↓Ends.next, ↓Ends.done]

theorem ends_execFirmwareReady (hottest : Int) (s : State) : Ends s (execFirmwareReady hottest s) := by
  unfold execFirmwareReady
  split
  all_goals simp only [↓Ends.next, ↓Ends.done]

theorem ends_execCtxRestore (mb : Fin 8) (s : State) : Ends s (execCtxRestore mb s) := by
  unfold execCtxRestore
  split
  · exact .next
  · exact .ite (.done _) (ends_stage _ _ _ _ _ _)

/-! ### Every command -/

theorem exec_ends (c : Instr) (s : State) : Ends s (exec c s) := by
  cases c
  all_goals dsimp only [exec]
  case railUndervoltage rail => exact ends_loader s 5 rail.val
  case txFieldWrite | w1cWrite | statsSnap | snapDone | mailboxWindowWrite | logRecordWrite | calStepStart | reqRotationStep | refActivityLoss |
      rstNRelease | bootFailed | cycleSlip | linePllLockLoss | leafGrantTimeout | lofSet | lofClear | acqStepTimeout | fastReacqTimeout | rlAlignLoss
      | laneSignalDetect | laneSignalLoss | laneLockLoss | tapCaptureStart =>
    exact .ite (.done _) .next
  case rcRead | loWordRead | timeLoRead | logPop | logThresh | intMaskWrite | pcieLinkUp | linePllRelock | bar2Read | mailboxRing =>
    exact .done _
  case calRun | gpioWrite | timeStep | fwDownload | sysReset | flowAdd | flowDel | flowGet | memFlipArm | laneErrInject | gaugeTrigger | gaugeRead |
      tapArm | perfClear | perfSampleRead | fiStart | fiStop | testChallenge | testUnlock | testLock | txnBegin | txnRollback =>
    exact ends_act _ _ _ _
  case calForeground | optSpiXfer | optI2cXfer | timeSet | fwFlashWrite | leafLevelMeasure | engLatHold | memScrub | lanePstate | modLevelMeasure |
      gaugeUrgent | otpProgram | selftestRun | sysShutdown | txnCommit =>
    exact ends_actLong _ _ _ _
  case calMaintSet | calCfgSet | convCtrlSet | sysLatencySet | sysQuenchTimeoutSet | sysModeSet | sysLoopBoundsSet | intRouteSet | gpioCfgSet |
      optBusCfgSet | timingCfgSet | refCfgSet | timingOutSet | pwrCfgSet | lineRxCfgSet | furrowRxSet | furrowAdaptSet | lineTxCfgSet | dacCorrSet |
      txMaskSet | dpdCurveSet | dpdUpdate | furrowTxSet | leafProvision | leafAdmit | leafRelease | burstCfgSet | leafSelfSet | fecCfgSet | frmCfgSet
      | protCfgSet | tsiMapSet | tsiMapClear | rilllinkLaneSet | turnoutClientSet | ctxWrite | ctxClear | cipherTurnoutSet | cipherRoll |
      turnoutPktSet | intakeCfgSet | deeplookSet | ternSet | hgCfgSet | hgTurnoutSet | hgCqSet | policerSet | engImageSelect | engCfgSet |
      engLateralSet | engTurnoutSet | memCfgSet | laneCfgSet | laneTestSet | tlaneCfgSet | modLaneSet | modDpdCurveSet | modDpdUpdate | gaugeCfgSet |
      gaugeLimitSet | tapCfgSet | logTelemSet | perfCfgSet | perfLatCfgSet =>
    exact ends_stage _ _ _ _ _ _
  case calStatusGet | calSliceGet | sysLatencyGet | sysModeGet | sysLoopBoundsGet | intStatusGet | gpioGet | timingStatusGet | refStatusGet | timeGet
      | fwStatusGet | pwrStatusGet | lineRxStatusGet | furrowRxStatusGet | lineTxStatusGet | furrowTxStatusGet | leafStatusGet | leafSeedGet |
      leafListGet | leafSelfStatusGet | fecStatusGet | fecBurstStatusGet | frmStatusGet | protStatusGet | tsiStatusGet | rilllinkStatusGet |
      slipStatusGet | keyStatusGet | ctxSave | cipherStatusGet | ctxStatusGet | ternGet | turnoutPktStatusGet | intakeStatusGet | policerStatusGet |
      hgQueueStatusGet | hgStatusGet | engStatusGet | engProgGet | memStatusGet | laneStatusGet | tlaneStatusGet | modStatusGet | tapRead |
      logStatusGet | perfCountersGet | fiStatusGet | testStatusGet | txnStatus =>
    exact ends_report _ _ _ _
  case refActivityReturn | refQualify | dpllLock | historyOk | resetRelease | pmbusStatusPoll | thermalSample | throttleStep | grantMapBuild |
      gmapLate | huntScreen | lockLost | furrowLosSet | scrubWord | scrubLate | laneAdaptLock | laneAdaptFail | rsCodewordRx | tlSyncGain | tlSyncLoss
      | tlRealign | todMessageTx | moduleFallback | moduleFallbackEnd | innerLockLoss | innerLockGain | gaugeTimerTrigger | gaugeSequenceEnd |
      gpioEdge | timeSecondBoundary | quenchDrained | linePllFirstLock | multiframeBoundary | localFrameBoundary | txnIdleTimeout | omrekRestart =>
    exact .ite .next (.done _)
  case avsStep | agcStep | pqUnstableCheck | rilllinkFrameRx | slipFrameWrite | cipherUnitTx | tlMarkRx | todMessageRx =>
    exact .ite .next (.ite (.done _) (.done _))
  case lineTxSquelch | leafEvict | fecHunt | protCmd | lineReacquire | furrowReacquire | keyErase | cipherUnblock | cqReceive | cqRelease |
      engImageLoad | engStateRead | engStateWrite =>
    exact ends_actOn _ _ _ _
  case keyImport | cipherVerify =>
    exact ends_keyCommand _ _ _ _
  case iAdd | iSub | iAnd | iOr | iXor | iShl | iShr | iSar | iMul | iSlt | iSltu =>
    exact ends_aluR _ _ _ _ _ _
  case iAddi | iAndi | iOri | iXori | iShli | iShri | iSari | iLui =>
    exact ends_aluI _ _ _ _ _
  case iBeq | iBne | iBlt | iBltu | iBge | iBgeu =>
    exact ends_branch _ _ _ _ _
  case iJal | iJr | iPadj | iCrc | iCsum | iCsrr | iCsrw | iEmit | iEnd | iOrdrel =>
    exact ends_issue _ _ _ _ _
  case iLdb | iLdh | iLdw | iLdd =>
    exact ends_dload _ _ _ _ _
  case iStb | iSth | iStw | iStd =>
    exact ends_dstore _ _ _ _ _
  case iPlb | iPlh | iPlw | iPld =>
    exact ends_pload _ _ _ _ _
  case iPsb | iPsh | iPsw | iPsd =>
    exact ends_pstore _ _ _ _ _
  case iOread | iOadd | iOswp | iOcas | iUread | iUadd | iUswp | iUcas =>
    exact ends_atom _ _ _ _
  case registerWrite =>
    exact .ite (.done _) (.done _)
  case msixUnmask => exact ends_execMsixUnmask _ _
  case calStepMeasureEnd => exact ends_execCalStepMeasureEnd _ _ _ _
  case fgCalDone => exact ends_execFgCalDone _ _ _
  case xqRecentre => exact ends_execXqRecentre _ _ _
  case clampEpisodeEnd => exact ends_execClampEpisodeEnd _ _ _
  case optSpiXferDone => exact ends_execOptSpiXferDone _ _
  case optI2cXferDone => exact ends_execOptI2cXferDone _ _ _
  case freqGateEnd => exact ends_execFreqGateEnd _ _ _
  case holdoverExpire => exact ends_execHoldoverExpire _
  case fpiEdge => exact ends_execFpiEdge _ _
  case fpiMiss => exact ends_execFpiMiss _ _
  case coldReset => exact ends_execColdReset _ _
  case warmReset => exact ends_execWarmReset _ _ _
  case pcieReset => exact ends_execPcieReset _
  case powerLoss => exact ends_execPowerLoss _
  case fwFlashWriteDone => exact ends_execFwFlashWriteDone _
  case pmbusRetry => exact ends_execPmbusRetry _ _
  case acqStepComplete => exact ends_execAcqStepComplete _ _ _ _
  case adaptTimeout => exact ends_execAdaptTimeout _ _
  case leafMeasureDone => exact ends_execLeafMeasureDone _ _
  case burstDetect => exact ends_execBurstDetect _ _ _ _ _ _
  case burstSyncTimeout => exact ends_execBurstSyncTimeout _ _
  case burstCapture => exact ends_execBurstCapture _ _ _ _ _ _
  case burstHeader => exact ends_execBurstHeader _ _ _ _ _
  case burstEnd => exact ends_execBurstEnd _ _ _ _ _ _
  case grantMissed => exact ends_execGrantMissed _ _
  case surveyRetryWait => exact ends_execSurveyRetryWait _
  case codewordDecoded => exact ends_execCodewordDecoded _ _ _ _
  case frameHuntWord => exact ends_execFrameHuntWord _ _ _
  case frameReceived => exact ends_execFrameReceived _ _ _ _
  case multiframeStreamRx => exact ends_execMultiframeStreamRx _ _ _
  case mgmtMessageRx => exact ends_execMgmtMessageRx _ _
  case holdoffExpire => exact ends_execHoldoffExpire _ _
  case wtrExpire => exact ends_execWtrExpire _
  case settlingEnd => exact ends_execSettlingEnd _
  case acqTimeout => exact ends_execAcqTimeout _ _
  case furrowLosClear => exact ends_execFurrowLosClear _ _
  case slipRead => exact ends_execSlipRead _ _ _
  case cipherUnitRx => exact ends_execCipherUnitRx _ _ _ _
  case cipherUnitEnd => exact ends_execCipherUnitEnd _ _ _ _ _ _ _
  case keyTransferDone => exact ends_execKeyTransferDone _
  case ctxRestore => exact ends_execCtxRestore _ _
  case hostPortWordRx => exact ends_execHostPortWordRx _ _ _ _
  case packetArrival => exact ends_execPacketArrival _ _ _ _ _
  case parseStart => exact ends_execParseStart _
  case packetClassified => exact ends_execPacketClassified _ _
  case actionStage => exact ends_execActionStage _ _
  case backwaterReentry => exact ends_execBackwaterReentry _
  case headgateSelect => exact ends_execHeadgateSelect _ _
  case packetEgress => exact ends_execPacketEgress _ _
  case sampleRecordWrite => exact ends_execSampleRecordWrite _ _
  case taskCommit => exact ends_execTaskCommit _ _
  case orderGateAcquire => exact ends_execOrderGateAcquire _ _ _
  case taskDispatch => exact ends_execTaskDispatch _
  case lateralConvert => exact ends_execLateralConvert _
  case engLatHoldDone => exact ends_execEngLatHoldDone _
  case scrubPassEnd => exact ends_execScrubPassEnd _ _
  case ctleStep => exact ends_execCtleStep _ _ _
  case portAlign => exact ends_execPortAlign _ _ _
  case portAlignLoss => exact ends_execPortAlignLoss _ _ _ _
  case hiSerWindow => exact ends_execHiSerWindow _ _
  case rlBlockRx => exact ends_execRlBlockRx _ _ _ _
  case patLock => exact ends_execPatLock _ _ _
  case lanePstateDone => exact ends_execLanePstateDone _ _
  case laneExitTimeout => exact ends_execLaneExitTimeout _ _
  case tlCharacterRx => exact ends_execTlCharacterRx _ _ _
  case markSeenTimeout => exact ends_execMarkSeenTimeout _ _
  case modMeasureDone => exact ends_execModMeasureDone _ _
  case leafBurstTx => exact ends_execLeafBurstTx _ _
  case gaugeConversionEnd => exact ends_execGaugeConversionEnd _ _ _
  case tapCaptureDone => exact ends_execTapCaptureDone _ _ _
  case sampleTag => exact ends_execSampleTag _ _
  case fiTimeout => exact ends_execFiTimeout _ _
  case fiReorderIdle => exact ends_execFiReorderIdle _ _
  case challengeExpire => exact ends_execChallengeExpire _
  case otpWriteDone => exact ends_execOtpWriteDone _ _
  case selftestDone => exact ends_execSelftestDone _ _ _ _ _ _
  case quenchTimeout => exact ends_execQuenchTimeout _ _ _ _
  case modeChangeGate => exact ends_execModeChangeGate _
  case modeChangeDone => exact ends_execModeChangeDone _
  case thermalShutdown => exact ends_execThermalShutdown _
  case shutdownQuiesced => exact ends_execShutdownQuiesced _
  case shutdownSafeOff => exact ends_execShutdownSafeOff _
  case commitBoundary => exact ends_execCommitBoundary _
  case txnCommitDone => exact ends_execTxnCommitDone _ _
  case firmwareReady => exact ends_execFirmwareReady _ _

/-- Settles O1. -/
theorem stepRunsFrontCommand : Obligations.StepRunsFrontCommand := by
  unfold Obligations.StepRunsFrontCommand
  exact fun _ _ _ => rfl

/-- Settles O3: every meaning puts back the queue, and none ends in a fault or a refusal. -/
theorem everyCommandAnswersAndKeepsQueue : Obligations.EveryCommandAnswersAndKeepsQueue := by
  unfold Obligations.EveryCommandAnswersAndKeepsQueue
  intro c s
  obtain ⟨t, hexec, hpending, -⟩ := exec_ends c s
  exact ⟨t, hexec, hpending⟩

theorem Settled.pending {s : State} (h : Settled s) (q : List Instr) : Settled { s with pending := q } :=
  ⟨h.1.congr (fun _ _ => rfl) rfl rfl, h.2.congr rfl fun _ _ => rfl⟩

/-- Settles O4: the shared end of a command squelches and sends what it must; the resets leave the line squelched and no message waiting. -/
theorem settledAfterEveryStep : Obligations.SettledAfterEveryStep := by
  unfold Obligations.SettledAfterEveryStep
  intro s t hs hstep
  unfold step at hstep
  split at hstep
  case h_1 => exact settled_of_done hstep
  case h_2 c rest _ =>
    obtain ⟨u, hexec, -, hkeeps⟩ := exec_ends c { s with pending := rest }
    obtain rfl : t = u := by simpa using hstep.symm.trans hexec
    exact hkeeps (hs.pending rest)

/-- Settles O5: the reset values of the words that the squelch is read from name the reasons that hold. -/
theorem settledAtReset : Obligations.SettledAtReset := by
  unfold Obligations.SettledAtReset
  exact ⟨⟨squelchHeld_of_reset (fun _ _ => rfl) rfl rfl, fun h => absurd h Bool.false_ne_true⟩, by decide, rfl⟩

/-! ### Time passes -/

/-- What every step of a fold keeps, the fold keeps. -/
theorem foldl_keeps {α β : Type} (π : State → β) {g : State → α → State} (hg : ∀ s x, π (g s x) = π s) (l : List α) (s : State) :
    π (l.foldl g s) = π s := by
  induction l generalizing s with
  | nil => rfl
  | cons x l ih => exact (ih _).trans (hg s x)

theorem ite_keeps {β : Type} (π : State → β) {c : Prop} [Decidable c] {s t u : State} (ht : π t = π s) (hu : π u = π s) :
    π (if c then t else u) = π s := by
  split
  · exact ht
  · exact hu

/-- A state but for its register words. -/
def State.beside (s : State) : State := { s with regs := [] }

theorem beside_set (s : State) (f : Field) (v i j : Nat) : (s.set f v i j).beside = s.beside := rfl

theorem beside_perfBump (s : State) (c : Ctr) (i j n : Nat) : (s.perfBump c i j n).beside = s.beside := by
  unfold State.perfBump
  exact ite_keeps State.beside rfl rfl

theorem beside_perfDev (s : State) (ev n : Nat) : (s.perfDev ev n).beside = s.beside := by
  unfold State.perfDev
  exact ite_keeps State.beside rfl (foldl_keeps State.beside (fun s _ => ite_keeps State.beside (beside_perfBump s _ _ _ _) rfl) _ s)

theorem beside_perfLat (s : State) (lat ev n : Nat) : (s.perfLat lat ev n).beside = s.beside := by
  unfold State.perfLat
  exact ite_keeps State.beside rfl (foldl_keeps State.beside (fun s _ => ite_keeps State.beside (beside_perfBump s _ _ _ _) rfl) _ s)

theorem beside_latCycle (s : State) (lat c : Nat) : (s.latCycle lat c).beside = s.beside := by
  unfold State.latCycle
  refine ite_keeps State.beside rfl ?_
  simp only [beside_perfLat]

/-- A state but for its register words and what the laterals know of gated cycles. -/
def State.besideHeld (s : State) : State := { s.beside with eng := { s.eng with held := [] } }

theorem besideHeld_congr {s t : State} (h : t.beside = s.beside) : t.besideHeld = s.besideHeld := by
  have heng : t.eng = s.eng := (congrArg State.eng h :)
  rw [State.besideHeld, h, heng]
  rfl

/-- A fabric cycle is counted in register words and in the laterals' gated cycles (R709, R761). -/
theorem besideHeld_fabricCycle (s : State) (c : Nat) : (s.fabricCycle c).besideHeld = s.besideHeld := by
  unfold State.fabricCycle
  have hlat : ∀ (u : State) (lat : Nat), (if (cycleGated (s.get Reg.PWR_STATUS_FRACTION) c && u.get Reg.LAT_CTRL_ROLE lat == 0) = true then
      { u with eng := { u.eng with held := tput 0 u.eng.held lat (tget 0 u.eng.held lat + 1) } }
      else u.latCycle lat (c - tget 0 u.eng.held lat)).besideHeld = u.besideHeld :=
    fun u _ => ite_keeps State.besideHeld rfl (besideHeld_congr (beside_latCycle u _ _))
  refine (foldl_keeps State.besideHeld hlat _ _).trans ?_
  exact (ite_keeps State.besideHeld (besideHeld_congr (beside_perfDev _ _ _)) rfl).trans (besideHeld_congr (beside_perfDev _ _ _))

theorem besideHeld_tick (s : State) : s.tick.besideHeld = ({ s with clock := s.clock + 13 } : State).besideHeld :=
  foldl_keeps State.besideHeld (fun u _ => besideHeld_fabricCycle u _) _ _

/-- Settles O2: a nanosecond is counted, in fabric cycles, in counters alone. -/
theorem idleStepAdvancesTime : Obligations.IdleStepAdvancesTime := by
  unfold Obligations.IdleStepAdvancesTime
  intro s hidle
  obtain ⟨r, l, m, b, hdone, -⟩ := done_eq s s.tick
  have htick := besideHeld_tick s
  have hstep : step s = done s s.tick := by
    unfold step
    rw [hidle]
  exact ⟨_, hstep.trans hdone, hidle, (congrArg State.clock htick :), (congrArg State.mbs htick :), (congrArg State.ifs htick :), (congrArg State.nextTxn htick :)⟩

end Sys2Proof.Machine
end

section
/-! SUPPORT. Reset values (R749 and the Reset columns of the register tables): which words have one other than 0. -/

namespace Sys2Proof.Machine

/-! ### Arrays of register words -/

/-- An array of register words: `n` copies `stride` bytes apart, each of `m` words `sub` bytes apart. -/
structure WordArray where
  base : Nat
  stride : Nat
  n : Nat
  sub : Nat
  m : Nat

/-- The last address of an array. -/
def WordArray.last (r : WordArray) : Nat := r.base + r.stride * (r.n - 1) + r.sub * (r.m - 1)

/-- The words of a copy, modulo `d`, start and end here. -/
def WordArray.first (r : WordArray) (d : Nat) : Nat := r.base % d
def WordArray.final (r : WordArray) (d : Nat) : Nat := r.base % d + r.sub * (r.m - 1)

/-- Two arrays have no word in common: one ends before the other begins, or their words differ modulo what divides both strides. -/
def WordArray.apart (r q : WordArray) : Bool :=
  Nat.blt r.last q.base || Nat.blt q.last r.base ||
    (let d := Nat.gcd r.stride q.stride
     Nat.blt (r.final d) d && Nat.blt (q.final d) d && (Nat.blt (r.final d) (q.first d) || Nat.blt (q.final d) (r.first d)))

/-- Word `j` of copy `i`. -/
def WordArray.Has (r : WordArray) (a : Nat) : Prop := ∃ i j, (r.stride = 0 ∨ i < r.n) ∧ (r.sub = 0 ∨ j < r.m) ∧ a = r.base + r.stride * i + r.sub * j

theorem mul_le_mul_pred {k i n : Nat} (h : k = 0 ∨ i < n) : k * i ≤ k * (n - 1) := by
  obtain rfl | hi := h
  · simp
  · exact Nat.mul_le_mul_left k (by omega)

theorem WordArray.Has.bounds {r : WordArray} {a : Nat} (h : r.Has a) : r.base ≤ a ∧ a ≤ r.last := by
  obtain ⟨i, j, hi, hj, rfl⟩ := h
  have := mul_le_mul_pred hi
  have := mul_le_mul_pred hj
  unfold WordArray.last
  omega

theorem WordArray.Has.residue {r : WordArray} {a d : Nat} (h : r.Has a) (hd : d ∣ r.stride) (hfit : r.final d < d) :
    r.first d ≤ a % d ∧ a % d ≤ r.final d := by
  obtain ⟨i, j, -, hj, rfl⟩ := h
  have hle := mul_le_mul_pred hj
  unfold WordArray.final at hfit ⊢
  unfold WordArray.first
  obtain ⟨k, hk⟩ := hd
  have hmod : (r.base + r.stride * i + r.sub * j) % d = r.base % d + r.sub * j := by
    rw [hk, Nat.mul_assoc, Nat.add_right_comm, Nat.add_mul_mod_self_left, ← Nat.mod_add_mod]
    exact Nat.mod_eq_of_lt (by omega)
  rw [hmod]
  omega

theorem WordArray.not_has_of_apart {r q : WordArray} (h : r.apart q = true) {a : Nat} (hr : r.Has a) : ¬q.Has a := by
  intro hq
  obtain ⟨hrlo, hrhi⟩ := hr.bounds
  obtain ⟨hqlo, hqhi⟩ := hq.bounds
  simp only [WordArray.apart, Bool.or_eq_true, Bool.and_eq_true, Nat.blt_eq] at h
  obtain (hlt | hlt) | ⟨⟨hrfit, hqfit⟩, hne⟩ := h
  · omega
  · omega
  · have := hr.residue (Nat.gcd_dvd_left _ _) hrfit
    have := hq.residue (Nat.gcd_dvd_right _ _) hqfit
    omega

theorem WordArray.has_of_inArray {b s n k m a : Nat} (h : inArray b s n k m a = true) : (⟨b, s, n, k, m⟩ : WordArray).Has a := by
  unfold inArray at h
  simp only [Bool.and_eq_true, decide_eq_true_eq] at h
  obtain ⟨hlo, h⟩ := h
  obtain ⟨x, rfl⟩ := Nat.exists_eq_add_of_le hlo
  rw [Nat.add_sub_cancel_left] at h
  have hs := Nat.div_add_mod x s
  split at h
  · next hs0 =>
    split at h
    · next hk0 => exact ⟨0, 0, .inl hs0, .inl hk0, by simpa using h⟩
    · have hk := Nat.div_add_mod x k
      simp only [Bool.and_eq_true, decide_eq_true_eq] at h
      exact ⟨0, x / k, .inl hs0, .inr h.2, by simp only []; omega⟩
  · simp only [Bool.and_eq_true, decide_eq_true_eq] at h
    obtain ⟨hn, h⟩ := h
    split at h
    · next hk0 => exact ⟨x / s, 0, .inr hn, .inl hk0, by simp only [decide_eq_true_eq] at h; simp only []; omega⟩
    · have hk := Nat.div_add_mod (x % s) k
      simp only [Bool.and_eq_true, decide_eq_true_eq] at h
      exact ⟨x / s, x % s / k, .inr hn, .inr h.2, by simp only []; omega⟩

/-! ### The words with a reset value -/

/-- The pages of reset rows. -/
def resetPages : List (List (Nat × Nat × Nat × Nat × Nat × Nat)) :=
  [resetRows12000, resetRows20000, resetRows20100, resetRows30000, resetRows38000, resetRows60000, resetRows100000, resetRows104000,
    resetRows110000, resetRows120000, resetRows130000, resetRows150000, resetRows160000, resetRows170000, resetRows180000, resetRows200000,
    resetRows240000, resetRows300000, resetRows400000, resetRows480000, resetRows580000, resetRows800000]

/-- The arrays that hold every word with a reset value other than 0. -/
def resetArrays : List WordArray :=
  [⟨0x300, 0, 1, 1, 0x100⟩, ⟨0x1000, 0, 1, 1, 0x200⟩, ⟨0x100080, 0x1000, 4, 4, 17⟩, ⟨0x150800, 0x100, 4, 4, 16⟩, ⟨0x500000, 0x1000, 32, 0, 1⟩,
    ⟨0x281040, 0x40, 13, 0, 1⟩, ⟨0x310200, 0x1000, 8, 0, 1⟩, ⟨0x310400, 0x1000, 8, 4, 16⟩] ++
  resetPages.flatten.map fun ⟨b, s, n, k, m, _⟩ => ⟨b, s, n, k, m⟩

theorem resetPage_mem (a : Nat) : resetPage a ∈ resetPages := by
  unfold resetPage
  repeat' split
  all_goals simp [resetPages]

theorem findReset_eq_zero {rows : List (Nat × Nat × Nat × Nat × Nat × Nat)} {a : Nat} (h : ∀ r ∈ rows, inArray r.1 r.2.1 r.2.2.1 r.2.2.2.1 r.2.2.2.2.1 a = false) :
    findReset rows a = 0 := by
  induction rows with
  | nil => rfl
  | cons r rows ih =>
    obtain ⟨b, s, n, k, m, v⟩ := r
    have hr := h _ List.mem_cons_self
    simp only [] at hr
    simp only [findReset, hr, Bool.false_eq_true, if_false]
    exact ih fun q hq => h q (List.mem_cons_of_mem _ hq)

theorem resetWord_eq_zero {a : Nat} (h : ∀ r ∈ resetArrays, ¬r.Has a) : resetWord a = 0 := by
  have hin : ∀ {b s n k m : Nat}, (⟨b, s, n, k, m⟩ : WordArray) ∈ resetArrays → inArray b s n k m a = false :=
    fun hr => Bool.eq_false_iff.2 fun ha => h _ hr (WordArray.has_of_inArray ha)
  have hrange : ∀ {b m : Nat}, (⟨b, 0, 1, 1, m⟩ : WordArray) ∈ resetArrays → ¬(b ≤ a ∧ a < b + m) :=
    fun {b m} hr hb => h _ hr ⟨0, a - b, .inl rfl, .inr (by simp only []; omega), by simp only []; omega⟩
  have hpage : findReset (resetPage a) a = 0 := findReset_eq_zero fun r hr => hin (List.mem_append_right _ (List.mem_map.2
    ⟨r, List.mem_flatten.2 ⟨_, resetPage_mem a, hr⟩, rfl⟩))
  have hroute := @hrange 0x300 0x100 (List.mem_append_left _ (by simp))
  have hmsix := @hrange 0x1000 0x200 (List.mem_append_left _ (by simp))
  have hfixed : ∀ {b s n k m : Nat}, (⟨b, s, n, k, m⟩ : WordArray) ∈ [⟨0x300, 0, 1, 1, 0x100⟩, ⟨0x1000, 0, 1, 1, 0x200⟩, ⟨0x100080, 0x1000, 4, 4, 17⟩,
      ⟨0x150800, 0x100, 4, 4, 16⟩, ⟨0x500000, 0x1000, 32, 0, 1⟩, ⟨0x281040, 0x40, 13, 0, 1⟩, ⟨0x310200, 0x1000, 8, 0, 1⟩,
      (⟨0x310400, 0x1000, 8, 4, 16⟩ : WordArray)] → inArray b s n k m a = false := fun hr => hin (List.mem_append_left _ hr)
  unfold resetWord
  rw [@hfixed 0x100080 0x1000 4 4 17 (by simp), @hfixed 0x150800 0x100 4 4 16 (by simp), @hfixed 0x500000 0x1000 32 0 1 (by simp),
    @hfixed 0x281040 0x40 13 0 1 (by simp), @hfixed 0x310200 0x1000 8 0 1 (by simp), @hfixed 0x310400 0x1000 8 4 16 (by simp), hpage]
  have hr' : (decide (0x300 ≤ a) && decide (a < 0x400)) = false := by simp; omega
  have hm' : (decide (0x1000 ≤ a) && decide (a < 0x1200)) = false := by simp; omega
  simp [hr', hm']

/-! ### Counters -/

/-- The words of a counter, from the `k`th byte on. -/
def Ctr.array (c : Ctr) (k : Nat) : WordArray := ⟨c.base + k, c.stride, c.n, c.sub, c.m⟩

theorem counters_apart : ∀ c ∈ counters, ∀ r ∈ resetArrays, (c.array 0).apart r = true ∧ (c.words = 1 ∨ (c.array 4).apart r = true) := by
  have h : (counters.all fun c => resetArrays.all fun r => (c.array 0).apart r && (c.words == 1 || (c.array 4).apart r)) = true := by decide +kernel
  simpa only [List.all_eq_true, Bool.and_eq_true, Bool.or_eq_true, beq_iff_eq] using h

/-- A counter is 0 after reset. -/
theorem count_reset {c : Ctr} (hc : c ∈ counters) {i j : Nat} (hi : i < c.n) (hj : j < c.m) : State.reset.count c i j = 0 := by
  have hhas : ∀ k, (c.array k).Has (c.addr i j + k) := fun k => ⟨i, j, .inr hi, .inr hj, by simp only [Ctr.array, Ctr.addr]; omega⟩
  have hlow : State.reset.reg (c.addr i j) = 0 :=
    resetWord_eq_zero fun r hr => WordArray.not_has_of_apart (counters_apart c hc r hr).1 (hhas 0)
  unfold State.count
  dsimp only
  split
  · rw [hlow]; rfl
  · next hw =>
    have hhigh : State.reset.reg (c.addr i j + 4) = 0 :=
      resetWord_eq_zero fun r hr => WordArray.not_has_of_apart ((counters_apart c hc r hr).2.resolve_left hw) (hhas 4)
    rw [hlow, hhigh]
    split <;> rfl

/-- Settles O6: the fields by their tables, the counters because no array of reset values meets their words. -/
theorem resetLeavesRegisterTableValues : Obligations.ResetLeavesRegisterTableValues := by
  unfold Obligations.ResetLeavesRegisterTableValues
  have hfec : ∀ f, f < 32 → State.reset.flag Reg.FEC_FR_STATUS_FEC_FAIL f = true ∧ State.reset.get Reg.FEC_FR_STATUS_RATE_NOW f = 1 := by
    decide +kernel
  refine ⟨?_, ?_, ?_, ?_, ?_, ?_, ?_, ?_, ?_, ?_, ?_, hfec, fun c hc i hi j hj => count_reset hc hi hj, fun k => ⟨rfl, rfl⟩, rfl⟩
  all_goals decide +kernel

end Sys2Proof.Machine
end

section
/-! SUPPORT. Staging commands (R664–R666, R764): what each refusal leaves, and the commands that stage and no more. -/

namespace Sys2Proof.Machine

/-! ### Staging and its refusals -/

section
variable (mb op : Nat) (objs : List Byte → List Obj) (s : State) (refuse : List Byte → State → Option Reply)
  (extra : List Byte → State → State × List Byte) {p : List Byte}

/-- After an orderly shutdown a staging command is answered DENIED (R764). -/
theorem stage_denied (h : s.request mb op = some p) (hoff : s.get Reg.FW_STATUS_STATE = 4) :
    ∃ t, stage mb op objs s refuse extra = .next t ∧ OnlyAnswered mb (err cDENIED) s t := by
  obtain ⟨t, ht, ha⟩ := served_answer s s mb (err cDENIED) rfl
  have hoff' : State.get { s with lastServed := mb } Reg.FW_STATUS_STATE = 4 := hoff
  refine ⟨t, ?_, ha⟩
  unfold stage
  rw [act_eq mb op s _ p h]
  simp only [hoff', if_true]
  exact ht

/-- An object that another mailbox's transaction holds answers CONFLICT and counts (R664). -/
theorem stage_conflict (h : s.request mb op = some p) (hon : s.get Reg.FW_STATUS_STATE ≠ 4) (hopen : (s.mbox mb).txn.state = 1)
    (hr : refuse p (s.serving mb) = none) (hc : s.conflict mb (objs p) = true) :
    stage mb op objs s refuse extra = done s (((s.serving mb).bump Cnt.CONFLICTS).answer mb (err cCONFLICT)) := by
  have hon' : State.get { s with lastServed := mb } Reg.FW_STATUS_STATE ≠ 4 := hon
  have hopen' : (State.mbox { s with lastServed := mb } mb).txn.state = 1 := hopen
  have hr' : refuse p { s with lastServed := mb } = none := hr
  have hc' : State.conflict { s with lastServed := mb } mb (objs p) = true := hc
  unfold stage
  rw [act_eq mb op s _ p h]
  simp only [hon', hopen', hr', hc', if_false, if_true, ne_eq, not_true_eq_false]
  rfl

/-- A staging command for which there is no room is answered EXHAUSTED (R666). -/
theorem stage_exhausted (h : s.request mb op = some p) (hon : s.get Reg.FW_STATUS_STATE ≠ 4) (hopen : (s.mbox mb).txn.state = 1)
    (hr : refuse p (s.serving mb) = none) (hc : s.conflict mb (objs p) = false) (hfull : 2 ^ 20 < s.stagedBytes + p.length + 16) :
    ∃ t, stage mb op objs s refuse extra = .next t ∧ OnlyAnswered mb (err cEXHAUSTED) s t := by
  obtain ⟨t, ht, ha⟩ := served_answer s s mb (err cEXHAUSTED) rfl
  have hon' : State.get { s with lastServed := mb } Reg.FW_STATUS_STATE ≠ 4 := hon
  have hopen' : (State.mbox { s with lastServed := mb } mb).txn.state = 1 := hopen
  have hr' : refuse p { s with lastServed := mb } = none := hr
  have hc' : State.conflict { s with lastServed := mb } mb (objs p) = false := hc
  have hfull' : State.stagedBytes { s with lastServed := mb } + p.length + 16 > 2 ^ 20 := hfull
  refine ⟨t, ?_, ha⟩
  unfold stage
  rw [act_eq mb op s _ p h]
  simp only [hon', hopen', hr', hc', hfull', if_false, if_true, ne_eq, not_true_eq_false, Bool.false_eq_true]
  exact ht

/-- The state in which mailbox `mb` is served and its transaction has recorded command `op` with payload `p` (R664, R666). -/
def State.recorded (s : State) (mb op : Nat) (p : List Byte) (objs : List Obj) : State :=
  (s.serving mb).setMbox mb { s.mbox mb with txn := (s.mbox mb).txn.add { op := op, payload := p } objs }

/-- A staging command that nothing turns away, with what it does beside recording. -/
theorem stage_accepted (h : s.request mb op = some p) (hr : refuse p (s.serving mb) = none) (hc : CanStage mb (objs p) p s) :
    stage mb op objs s refuse extra =
      done s ((extra p (s.recorded mb op p (objs p))).1.answer mb (okD (extra p (s.recorded mb op p (objs p))).2)) := by
  obtain ⟨hon, hopen, hfree, hroom⟩ := hc
  have hon' : State.get { s with lastServed := mb } Reg.FW_STATUS_STATE ≠ 4 := hon
  have hopen' : (State.mbox { s with lastServed := mb } mb).txn.state = 1 := hopen
  have hr' : refuse p { s with lastServed := mb } = none := hr
  have hfree' : State.conflict { s with lastServed := mb } mb (objs p) = false := hfree
  have hroom' : ¬(State.stagedBytes { s with lastServed := mb } + p.length + 16 > 2 ^ 20) := Nat.not_lt.2 hroom
  unfold stage
  rw [act_eq mb op s _ p h]
  simp only [hon', hopen', hr', hfree', hroom', if_false, ne_eq, not_true_eq_false, Bool.false_eq_true]
  rfl

end

/-! ### The commands that stage and no more -/

/-- Each of the 51 commands is `stage` with its opcode and objects. -/
theorem exec_eq_stage {c : Fin 8 → Instr} {op : Nat} {objs : List Byte → List Obj} (h : Stages c op objs) (mb : Fin 8) (s : State) :
    exec (c mb) s = stage mb.val op objs s := by
  cases h <;> rfl

/-- Settles O18. -/
theorem stagingCommandsRecordAndLock : Obligations.StagingCommandsRecordAndLock := by
  unfold Obligations.StagingCommandsRecordAndLock
  intro c op objs hc mb p s hreq hcan
  rw [exec_eq_stage hc]
  exact stage_spec mb.val op objs s _ p hreq rfl hcan

/-- Settles O19: the refusals of R664 to R666 and R764, in the order in which they are looked at. -/
theorem stagingCommandsAreTurnedAway : Obligations.StagingCommandsAreTurnedAway := by
  unfold Obligations.StagingCommandsAreTurnedAway
  intro c op objs hc mb p s hreq
  rw [exec_eq_stage hc]
  refine ⟨fun hoff => stage_denied _ _ _ _ _ _ hreq hoff, fun hon hopen => stage_no_txn _ _ _ _ _ _ p hreq hon hopen,
    fun hon hopen hconf => ?_, fun hon hopen hfree hfull => stage_exhausted _ _ _ _ _ _ hreq hon hopen rfl hfree hfull⟩
  obtain ⟨t, hdone, hans, hregs, -⟩ := done_answer s ((s.serving mb.val).bump Cnt.CONFLICTS) mb.val (err cCONFLICT) rfl
  refine ⟨t, (stage_conflict _ _ _ _ _ _ hreq hon hopen rfl hconf).trans hdone, hans.of_mbs rfl, ?_⟩
  rw [hregs.count _ 0 0 (by decide), count_bump_one _ _ _ _ _ rfl]
  rfl

/-! ### The status commands -/

/-- Each of the 22 commands reports the words held. -/
theorem exec_eq_reportWords {c : Fin 8 → Instr} {op : Nat} {words : List Byte → List Nat} (h : ReportsWords c op words) (mb : Fin 8) (s : State) :
    exec (c mb) s = report mb.val op s (fun p s => okD (regBytes s (words p))) := by
  cases h
  all_goals
    dsimp only [exec]
    simp only [execSysModeGet, execGpioGet, execPwrStatusGet, execFwStatusGet, execFecBurstStatusGet, execFrmStatusGet, execTsiStatusGet,
      execRilllinkStatusGet, execSlipStatusGet, execTlaneStatusGet, execModStatusGet, execLeafStatusGet, execTurnoutPktStatusGet, execIntakeStatusGet,
      execHgQueueStatusGet, execHgStatusGet, execEngStatusGet, execKeyStatusGet, execCipherStatusGet, execCtxStatusGet, execRefStatusGet, execMemStatusGet,
      wordBytes, regBytes, List.flatMap_append, List.flatMap_map, List.flatMap_cons, List.flatMap_nil, List.append_nil]

/-- Words that a read takes from the register alone. -/
theorem readWord_stored (s : State) : ∀ a ∈ [0x208, 0x20C, 0x40000, 0x40020, 0x40024, 0x40028, 0x4002C, 0x40030], s.readWord a = s.reg a := by
  simp only [List.forall_mem_cons]
  exact ⟨rfl, rfl, rfl, rfl, rfl, rfl, rfl, rfl, nofun⟩

/-- Each of the 6 commands reports what a read of the words returns. -/
theorem exec_eq_reportLive {c : Fin 8 → Instr} {op : Nat} {words : List Byte → List Nat} (h : ReportsLive c op words) (mb : Fin 8) (s : State) :
    exec (c mb) s = report mb.val op s (fun p s => okD ((words p).flatMap (fun a => bytes 4 (s.readWord a).toNat))) := by
  have hstored := fun (u : State) (a : Nat) h => (readWord_stored u a h).symm
  have hfec : ∀ x k, 0x161000 + x + 0x20 + k = 0x161020 + x + k := by omega
  cases h
  all_goals
    dsimp only [exec]
    simp only [execIntStatusGet, execLogStatusGet, execTestStatusGet, execTimingStatusGet, execFecStatusGet, execLaneStatusGet,
      wordBytes, List.flatMap_map, List.flatMap_cons, List.flatMap_nil, hfec, hstored _ 0x208 (by decide), hstored _ 0x20C (by decide),
      hstored _ 0x40000 (by decide), hstored _ 0x40020 (by decide), hstored _ 0x40024 (by decide), hstored _ 0x40028 (by decide),
      hstored _ 0x4002C (by decide), hstored _ 0x40030 (by decide)]

/-- Settles O21. -/
theorem registerReportsReturnTheWords : Obligations.RegisterReportsReturnTheWords := by
  unfold Obligations.RegisterReportsReturnTheWords
  refine ⟨fun c op words hc mb p s hreq => ?_, fun c op words hc mb p s hreq => ?_⟩
  · rw [exec_eq_reportWords hc]
    exact report_spec mb.val op s _ p hreq
  · rw [exec_eq_reportLive hc]
    exact report_spec mb.val op s _ p hreq

/-- Each of the 15 commands reports its values. -/
theorem exec_eq_reportValues {c : Fin 8 → Instr} {op : Nat} {f : State → List Byte → List Byte} (h : ReportsValues c op f) (mb : Fin 8) (s : State) :
    exec (c mb) s = report mb.val op s (fun p s => okD (f s p)) := by
  have hfi : ∀ x, 0x50200 + x + 8 = 0x50208 + x ∧ 0x50200 + x + 12 = 0x5020C + x := by omega
  cases h
  all_goals
    dsimp only [exec]
    simp only [execSysLatencyGet, execTimeGet, execFiStatusGet, execLineRxStatusGet, execLineTxStatusGet, execFurrowRxStatusGet, execFurrowTxStatusGet,
      execProtStatusGet, execCalStatusGet, execCalSliceGet, execLeafListGet, execEngProgGet, execTernGet, execPolicerStatusGet, execPerfCountersGet,
      furrowBits, wordBytes, regBytes, List.flatMap_map, List.flatMap_cons, List.flatMap_nil, List.append_nil, List.append_assoc, apply_ite okD, hfi]

/-- That the mailbox is served does not show in what is reported. -/
theorem reportsValues_serving {c : Fin 8 → Instr} {op : Nat} {f : State → List Byte → List Byte} (h : ReportsValues c op f) (s : State) (mb : Nat)
    (p : List Byte) : f (s.serving mb) p = f s p := by
  cases h <;> rfl

/-- Settles O22. -/
theorem statusReportsReturnComputedValues : Obligations.StatusReportsReturnComputedValues := by
  unfold Obligations.StatusReportsReturnComputedValues
  intro c op f hc mb p s hreq
  rw [exec_eq_reportValues hc, ← reportsValues_serving hc s mb.val p]
  exact report_spec mb.val op s _ p hreq

end Sys2Proof.Machine
end

section
/-! SUPPORT. The window of a mailbox after Omrek's answer (R657, R659, R661). -/

namespace Sys2Proof.Machine

/-! ### Words of a window -/

@[simp] theorem word_setWord_self (m : Mailbox) (k : Nat) (v : Word) : (m.setWord k v).word k = v := tget_tput_self _ _ _ _

theorem word_setWord_ne (m : Mailbox) {j k : Nat} (v : Word) (h : j ≠ k) : (m.setWord k v).word j = m.word j := tget_tput_ne _ _ _ _ h

theorem setWord_eq (m : Mailbox) (k : Nat) (v : Word) : ∃ w, m.setWord k v = { m with words := w } := ⟨_, rfl⟩

/-- Response bytes change nothing but the window. -/
theorem putData_eq (m : Mailbox) (k : Nat) (d : List Byte) : ∃ w, putData m k d = { m with words := w } := by
  induction m, k, d using putData.induct with
  | case1 m k => exact ⟨m.words, rfl⟩
  | case2 m k a => exact ⟨_, rfl⟩
  | case3 m k a b => exact ⟨_, rfl⟩
  | case4 m k a b c => exact ⟨_, rfl⟩
  | case5 m k a b c d rest ih =>
    obtain ⟨w, hw⟩ := ih
    exact ⟨w, by rw [putData, hw]; rfl⟩

/-- Response bytes leave the words before them. -/
theorem word_putData_of_lt (m : Mailbox) (k : Nat) (d : List Byte) {j : Nat} (h : j < k) : (putData m k d).word j = m.word j := by
  induction m, k, d using putData.induct with
  | case1 m k => rfl
  | case2 m k a => exact word_setWord_ne m _ (by omega)
  | case3 m k a b => exact word_setWord_ne m _ (by omega)
  | case4 m k a b c => exact word_setWord_ne m _ (by omega)
  | case5 m k a b c d rest ih => exact (ih (by omega)).trans (word_setWord_ne m _ (by omega))

/-! ### Bytes of a word -/

theorem u8_lt (p : List Byte) (i : Nat) : u8 p i < 256 := (p.getD i 0).isLt

/-- Byte `i` of the number of up to four bytes. -/
theorem bitsOf_le {n i : Nat} (p : List Byte) (off : Nat) (h : i < n) : bitsOf (le n p off) (8 * i) 8 = u8 p (off + i) := by
  induction n generalizing i off with
  | zero => omega
  | succ n ih =>
    have hlt := u8_lt p off
    unfold le bitsOf
    cases i with
    | zero => simp only [Nat.mul_zero, pow_zero, Nat.div_one, Nat.add_zero]; omega
    | succ i =>
      have hdiv : (u8 p off + 256 * le n p (off + 1)) / 2 ^ (8 * (i + 1)) = le n p (off + 1) / 2 ^ (8 * i) := by
        rw [Nat.mul_succ, Nat.pow_add, Nat.mul_comm (2 ^ (8 * i)), ← Nat.div_div_eq_div_mul]
        congr 1
        omega
      rw [hdiv, show off + (i + 1) = off + 1 + i by omega]
      exact ih (off + 1) (by omega)

theorem le_lt (n : Nat) (p : List Byte) (off : Nat) : le n p off < 256 ^ n := by
  induction n generalizing off with
  | zero => simp [le]
  | succ n ih =>
    have := u8_lt p off
    have := ih (off + 1)
    rw [le, Nat.pow_succ]
    omega

/-- A field that lies in the low bits put at 0 reads as in what was put. -/
theorem bitsOf_putBits_low {v x n lo w : Nat} (hx : x < 2 ^ n) (h : lo + w ≤ n) : bitsOf (putBits v 0 n x) lo w = bitsOf x lo w := by
  obtain ⟨k, rfl⟩ := Nat.exists_eq_add_of_le h
  have hput : putBits v 0 (lo + w + k) x = x + 2 ^ lo * (2 ^ w * (2 ^ k * (v / 2 ^ (lo + w + k)))) := by
    rw [putBits_parts, Nat.mod_eq_of_lt hx, pow_zero, Nat.mod_one, Nat.zero_add, Nat.mul_one, Nat.add_zero]
    ring
  rw [hput]
  unfold bitsOf
  rw [Nat.add_mul_div_left _ _ (Nat.two_pow_pos lo), Nat.add_mul_mod_self_left]

/-- Byte `i` of a word whose low bytes were put. -/
theorem byte_putBits (w : Word) {n i : Nat} (hn : 8 * n ≤ 32) (p : List Byte) (h : i < n) :
    bitsOf (BitVec.ofNat 32 (putBits w.toNat 0 (8 * n) (le n p 0))).toNat (8 * i) 8 = u8 p i := by
  have hle : le n p 0 < 2 ^ (8 * n) := by
    rw [pow_mul]
    exact le_lt n p 0
  have hput : putBits w.toNat 0 (8 * n) (le n p 0) < 2 ^ 32 := putBits_lt _ _ _ _ 32 w.isLt (by omega)
  have hword : (BitVec.ofNat 32 (putBits w.toNat 0 (8 * n) (le n p 0))).toNat = putBits w.toNat 0 (8 * n) (le n p 0) :=
    (BitVec.toNat_ofNat _ _).trans (Nat.mod_eq_of_lt hput)
  rw [hword, bitsOf_putBits_low hle (by omega), bitsOf_le p 0 h, Nat.zero_add]

/-- A byte of the response is read back from its place. -/
theorem byte_putData (m : Mailbox) (k : Nat) (d : List Byte) {i : Nat} (h : i < d.length) :
    bitsOf ((putData m k d).word (k + i / 4)).toNat (8 * (i % 4)) 8 = u8 d i := by
  induction m, k, d using putData.induct generalizing i with
  | case1 m k => simp at h
  | case2 m k a =>
    have hi : i < 1 := by simpa using h
    have hone : a.toNat = le 1 [a] 0 := by simp [le, u8]
    rw [putData, show k + i / 4 = k by omega, word_setWord_self, Nat.mod_eq_of_lt (by omega), hone]
    exact byte_putBits (n := 1) (m.word k) (by decide) [a] hi
  | case3 m k a b =>
    have hi : i < 2 := by simpa using h
    rw [putData, show k + i / 4 = k by omega, word_setWord_self, Nat.mod_eq_of_lt (by omega)]
    exact byte_putBits (n := 2) (m.word k) (by decide) [a, b] hi
  | case4 m k a b c =>
    have hi : i < 3 := by simpa using h
    rw [putData, show k + i / 4 = k by omega, word_setWord_self, Nat.mod_eq_of_lt (by omega)]
    exact byte_putBits (n := 3) (m.word k) (by decide) [a, b, c] hi
  | case5 m k a b c d rest ih =>
    rw [putData]
    by_cases hi : i < 4
    · have hlt : le 4 [a, b, c, d] 0 < 2 ^ 32 := lt_of_lt_of_eq (le_lt 4 _ 0) (by norm_num)
      rw [show k + i / 4 = k by omega, word_putData_of_lt _ _ _ (Nat.lt_succ_self k), word_setWord_self, Nat.mod_eq_of_lt hi, BitVec.toNat_ofNat,
        Nat.mod_eq_of_lt hlt, bitsOf_le _ _ hi, Nat.zero_add]
      unfold u8
      congr 1
      rcases i with _ | _ | _ | _ | i
      · rfl
      · rfl
      · rfl
      · rfl
      · omega
    · obtain ⟨j, rfl⟩ := Nat.exists_eq_add_of_le (Nat.le_of_not_lt hi)
      have hj : j < rest.length := by simp only [List.length_cons] at h; omega
      rw [show k + (4 + j) / 4 = k + 1 + j / 4 by omega, show (4 + j) % 4 = j % 4 by omega, ih hj, Nat.add_comm]
      rfl

/-! ### The answered window -/

theorem answered_eq (m : Mailbox) (r : Reply) : ∃ w, m.answered r = { m with words := w, phase := .idle } := by
  obtain ⟨w, hw⟩ := putData_eq m 2 r.data
  obtain ⟨w1, hw1⟩ := setWord_eq (putData m 2 r.data) 1 (BitVec.ofNat 32 r.data.length)
  obtain ⟨w2, hw2⟩ := setWord_eq ((putData m 2 r.data).setWord 1 (BitVec.ofNat 32 r.data.length)) 0xFF
    (BitVec.ofNat 32 (r.code + m.seq * 2 ^ 8 + r.reason * 2 ^ 16 + r.index * 2 ^ 24))
  refine ⟨w2, ?_⟩
  unfold Mailbox.answered
  dsimp only
  rw [hw2, hw1, hw]

@[simp] theorem phase_answered (m : Mailbox) (r : Reply) : (m.answered r).phase = .idle := rfl

@[simp] theorem txn_answered (m : Mailbox) (r : Reply) : (m.answered r).txn = m.txn := by
  obtain ⟨w, hw⟩ := answered_eq m r
  rw [hw]

/-- The words of the answered window. -/
theorem word_answered (m : Mailbox) (r : Reply) (k : Nat) : (m.answered r).word k =
    if k = 0xFF then BitVec.ofNat 32 (r.code + m.seq * 2 ^ 8 + r.reason * 2 ^ 16 + r.index * 2 ^ 24)
    else if k = 1 then BitVec.ofNat 32 r.data.length else (putData m 2 r.data).word k := by
  show (Mailbox.setWord _ _ _).word k = _
  split
  · next h => rw [h]; exact word_setWord_self _ _ _
  · next h =>
    rw [word_setWord_ne _ _ h]
    split
    · next h1 => rw [h1]; exact word_setWord_self _ _ _
    · next h1 => exact word_setWord_ne _ _ h1

/-- Settles O17. -/
theorem answerFillsResponseLengthAndPayload : Obligations.AnswerFillsResponseLengthAndPayload := by
  unfold Obligations.AnswerFillsResponseLengthAndPayload
  intro m r hcode hreason hindex hlen
  have hlength : (m.answered r).length = r.data.length := by
    have h : (m.answered r).word 1 = BitVec.ofNat 32 r.data.length := word_answered m r 1
    have hword : (BitVec.ofNat 32 r.data.length).toNat = r.data.length := (BitVec.toNat_ofNat _ _).trans (Nat.mod_eq_of_lt (by omega))
    rw [Mailbox.length, h, hword, bitsOf, pow_zero, Nat.div_one]
    exact Nat.mod_eq_of_lt (by omega)
  refine ⟨?_, hlength, ?_, ?_, rfl, txn_answered m r⟩
  · have hseq : m.seq < 2 ^ 8 := bitsOf_lt _ _ _
    rw [word_answered, if_pos rfl, BitVec.toNat_ofNat]
    exact Nat.mod_eq_of_lt (by omega)
  · unfold Mailbox.payload
    rw [hlength]
    refine List.ext_getElem (by simp) fun i h1 h2 => ?_
    have hword : (m.answered r).word (2 + i / 4) = (putData m 2 r.data).word (2 + i / 4) := by
      rw [word_answered, if_neg (by omega), if_neg (by omega)]
    rw [List.getElem_map, List.getElem_range, hword, byte_putData m 2 r.data h2]
    simp [u8, List.getD_eq_getElem?_getD, List.getElem?_eq_getElem h2]
  · rw [word_answered, if_neg (by decide), if_neg (by decide), word_putData_of_lt _ _ _ (by decide)]

end Sys2Proof.Machine
end

section
/-! SUPPORT. Staging commands that their chapter also checks (R664 and the chapters' own rules), and the reports with conditions. -/

namespace Sys2Proof.Machine

/-! ### What a staging command has recorded -/

/-- The end of a staging command that has recorded its values and done nothing else. -/
theorem done_recorded (s : State) (mb op : Nat) (p : List Byte) (objs : List Obj) (d : List Byte) :
    ∃ t, done s ((s.recorded mb op p objs).answer mb (okD d)) = .next t ∧ Recorded mb op p objs d s t := by
  obtain ⟨t, ht, hans, hregs, hlast, hrest⟩ := served_answer s
    (s.setMbox mb { s.mbox mb with txn := (s.mbox mb).txn.add { op := op, payload := p } objs }) mb (okD d) rfl
  refine ⟨t, ht, ?_, fun k hk => ?_, fun a ha hsq => ?_, hlast, congrArg (fun u : State => { u with mbs := s.mbs }) hrest⟩
  · rw [hans.1, mbox_setMbox_self]
  · rw [hans.2 k hk, mbox_setMbox_ne _ _ hk]
  · rw [hregs a ha hsq, setMbox_reg]

/-- A staging command that its chapter does not refuse, and that does nothing beside recording. -/
theorem stage_recorded (mb op : Nat) (objs : List Byte → List Obj) (s : State) (refuse : List Byte → State → Option Reply)
    (extra : List Byte → State → State × List Byte) {p : List Byte} (h : s.request mb op = some p) (hr : refuse p (s.serving mb) = none)
    (hx : ∀ u, extra p u = (u, [])) (hc : CanStage mb (objs p) p s) :
    ∃ t, stage mb op objs s refuse extra = .next t ∧ Recorded mb op p (objs p) [] s t := by
  rw [stage_accepted mb op objs s refuse extra h hr hc, hx]
  exact done_recorded s mb op p (objs p) []

theorem code_answered_ok (m : Mailbox) (d : List Byte) : ((m.answered (okD d)).word 0xFF).toNat % 256 = cOK := by
  have hseq : m.seq < 2 ^ 8 := bitsOf_lt _ _ _
  rw [word_answered, if_pos rfl, BitVec.toNat_ofNat]
  simp only [okD, cOK]
  omega

/-- The newest staged command takes what Omrek has worked out. -/
theorem staged_extra (t : Txn) (c : Staged) (objs : List Obj) (x : List Byte) :
    (t.add c objs).staged.dropLast ++ ((t.add c objs).staged.getLast?.map (fun c => { c with extra := x })).toList = t.staged ++ [{ c with extra := x }] := by
  simp [Txn.add]

/-- The end of a staging command that keeps what Omrek has worked out with its values. -/
theorem done_recordedWith (s : State) (mb op : Nat) (p x : List Byte) (objs : List Obj) (d : List Byte) :
    ∃ t, done s (((s.recorded mb op p objs).stagedExtra mb x).answer mb (okD d)) = .next t ∧ RecordedWith mb op p x s t := by
  obtain ⟨t, ht, ⟨hself, hothers⟩, hregs, -⟩ := done_answer s ((s.recorded mb op p objs).stagedExtra mb x) mb (okD d) rfl
  have hmb : ((s.recorded mb op p objs).stagedExtra mb x).mbox mb =
      { s.mbox mb with txn := { (s.mbox mb).txn.add { op := op, payload := p } objs with staged := (s.mbox mb).txn.staged ++ [{ op := op, payload := p, extra := x }] } } := by
    unfold State.stagedExtra State.recorded
    simp only [mbox_setMbox_self, staged_extra]
  refine ⟨t, ht, ?_, ?_, ?_, fun k hk => ?_, fun a ha hsq => hregs a ha hsq⟩
  · rw [hself]
    exact code_answered_ok _ d
  · rw [hself]
    rfl
  · rw [hself, txn_answered, hmb]
  · rw [hothers k hk]
    exact (mbox_setMbox_ne _ _ hk).trans (mbox_setMbox_ne _ _ hk)

/-! ### TSI entries in the standby page (R397) -/

/-- One entry of a TSI command goes into the standby page. -/
def State.stageEntry (s : State) (e : Nat × Nat) : State := (setWord s (pageBase s.standby + 4 * e.1) 0xFFFFF800 e.2).memWrite 10 s.standby e.1

theorem stagePage_eq (s : State) (mb : Nat) (entries : List (Nat × Nat)) : s.stagePage mb entries = entries.foldl State.stageEntry
    (if ((s.mbox mb).txn.staged.filter (opIn [0x0340, 0x0341])).length = 1 then s.copyPage.set Reg.TSI_STATUS_STAGED 1 else s) := rfl

theorem standby_congr {s t : State} (h : t.reg 0x180010 = s.reg 0x180010) : t.standby = s.standby := by
  have hreg : t.reg (Reg.TSI_STATUS_ACTIVE.addr 0 0) = s.reg (Reg.TSI_STATUS_ACTIVE.addr 0 0) := h
  unfold State.standby State.get
  rw [hreg]

/-- An address from the first page of the switch on is none of a flip's or a squelch's words. -/
theorem page_not_flip {a : Nat} (hlo : 0x188000 ≤ a) (hhi : a < 0x190000) : a ∉ flipWords ∧ a ∉ squelchWords ∧ a ≠ 0x12014 := by
  refine ⟨fun h => ?_, fun h => ?_, by omega⟩
  · simp only [flipWords, Field.addr, Reg.FLIP_STATUS_ARMED, Reg.FLIP_ADDR_WORD, Reg.MEM_EVENTS_FLIP_FIRED, Reg.TEST_STATUS_FI_ACTIVE, List.mem_cons,
      List.not_mem_nil, or_false] at h
    omega
  · simp only [squelchWords, List.mem_cons, List.not_mem_nil, or_false] at h
    omega

theorem reg_stageEntry (s : State) (e : Nat × Nat) {a : Nat} (hf : a ∉ flipWords) (hs : a ∉ squelchWords) :
    (s.stageEntry e).reg a = if a = pageBase s.standby + 4 * e.1 then BitVec.ofNat 32 (e.2 &&& 0xFFFFF800) else s.reg a := by
  unfold State.stageEntry
  rw [(memWritten_memWrite _ _ _ _ _).regs a hf hs]
  unfold setWord
  split
  · next h => rw [h, reg_setReg_self]
  · next h => rw [reg_setReg_ne _ _ h]

theorem standby_stageEntry (s : State) (e : Nat × Nat) : (s.stageEntry e).standby = s.standby := by
  refine standby_congr ?_
  rw [reg_stageEntry s e (by decide) (by decide), if_neg (by unfold pageBase; omega)]

theorem mbs_stageEntry (s : State) (e : Nat × Nat) : (s.stageEntry e).mbs = s.mbs := (memWritten_memWrite _ _ _ _ _).mbs

theorem pending_stageEntry (s : State) (e : Nat × Nat) : (s.stageEntry e).pending = s.pending := (memWritten_memWrite _ _ _ _ _).pending

/-- The word of rill `n` after the entries: that of the last entry for it, here the only one. -/
theorem reg_foldl_stageEntry (s : State) (l : List (Nat × Nat)) {n v : Nat} (hn : n < 2048) (hmem : (n, v) ∈ l) (hl : (l.map Prod.fst).Nodup) :
    (l.foldl State.stageEntry s).reg (pageBase s.standby + 4 * n) = BitVec.ofNat 32 (v &&& 0xFFFFF800) := by
  have hstandby : s.standby ≤ 1 := Nat.sub_le _ _
  obtain ⟨hf, hs, -⟩ := page_not_flip (a := pageBase s.standby + 4 * n) (by unfold pageBase; omega) (by unfold pageBase; omega)
  have hkeep : ∀ (r : List (Nat × Nat)) (u : State), u.standby = s.standby → n ∉ r.map Prod.fst →
      (r.foldl State.stageEntry u).reg (pageBase s.standby + 4 * n) = u.reg (pageBase s.standby + 4 * n) := by
    intro r
    induction r with
    | nil => exact fun u _ _ => rfl
    | cons x r ih =>
      intro u hu hr
      rw [List.map_cons, List.mem_cons, not_or] at hr
      rw [List.foldl_cons, ih _ ((standby_stageEntry u x).trans hu) hr.2, reg_stageEntry u x hf hs, if_neg (by rw [hu]; omega)]
  induction l generalizing s with
  | nil => simp at hmem
  | cons x r ih =>
    rw [List.map_cons, List.nodup_cons] at hl
    obtain ⟨hx, hr⟩ := hl
    rw [List.foldl_cons]
    rcases List.mem_cons.1 hmem with h | h
    · subst h
      rw [hkeep r _ (standby_stageEntry s _) hx, reg_stageEntry s _ hf hs, if_pos rfl]
    · have hstay := standby_stageEntry s x
      rw [← hstay] at hf hs hkeep hstandby ⊢
      exact ih (s.stageEntry x) h hr hstandby hf hs hkeep

/-- Copying the active page into the standby page leaves the words before the pages. -/
theorem memWritten_pageCopied (s : State) : MemWritten s s.pageCopied := by
  unfold State.pageCopied
  refine MemWritten.trans (t := { s with mem := { s.mem with words := s.mem.words.filter _ } }) ?_ (memWritten_memWrite _ _ _ _ _)
  exact ⟨fun _ _ _ => rfl, s.regs, s.logs, _, s.self.sent, rfl⟩

theorem reg_copyPage (s : State) {a : Nat} (ha : a < 0x188000) (hf : a ∉ flipWords) (hs : a ∉ squelchWords) : s.copyPage.reg a = s.reg a := by
  have hset : ∀ (n k : Nat) (u : State) (v : Word), (u.setReg (pageBase n + k) v).reg a = u.reg a := fun n k u v =>
    reg_setReg_ne u v (by unfold pageBase; omega)
  unfold State.copyPage
  dsimp only
  rw [(memWritten_pageCopied _).regs a hf hs, foldl_keeps (fun u : State => u.reg a) (fun u e => hset _ _ _ _),
    foldl_keeps (fun u : State => u.reg a) (fun u e => hset _ _ _ _)]

theorem keeps_copyPage {β : Type} (π : State → β) (hset : ∀ (s : State) (a : Nat) (v : Word), π (s.setReg a v) = π s) (hmem : ∀ s t, MemWritten s t → π t = π s)
    (s : State) : π s.copyPage = π s := by
  unfold State.copyPage
  dsimp only
  rw [hmem _ _ (memWritten_pageCopied _), foldl_keeps π (fun u e => hset _ _ _), foldl_keeps π (fun u e => hset _ _ _)]

theorem keeps_stagePage {β : Type} (π : State → β) (hset : ∀ (s : State) (a : Nat) (v : Word), π (s.setReg a v) = π s) (hmem : ∀ s t, MemWritten s t → π t = π s)
    (s : State) (mb : Nat) (l : List (Nat × Nat)) : π (s.stagePage mb l) = π s := by
  have hentry : ∀ (u : State) (e : Nat × Nat), π (u.stageEntry e) = π u := fun u e => (hmem _ _ (memWritten_memWrite _ _ _ _ _)).trans (hset _ _ _)
  rw [stagePage_eq, foldl_keeps π hentry]
  exact ite_keeps π ((hset _ _ _).trans (keeps_copyPage π hset hmem s)) rfl

theorem reg_stagePage (s : State) (mb : Nat) (l : List (Nat × Nat)) {n v : Nat} (hn : n < 2048) (hmem : (n, v) ∈ l) (hl : (l.map Prod.fst).Nodup) :
    (s.stagePage mb l).reg (pageBase s.standby + 4 * n) = BitVec.ofNat 32 (v &&& 0xFFFFF800) := by
  have hcopy : (s.copyPage.set Reg.TSI_STATUS_STAGED 1).standby = s.standby := by
    have hset : (s.copyPage.set Reg.TSI_STATUS_STAGED 1).get Reg.TSI_STATUS_ACTIVE = s.copyPage.get Reg.TSI_STATUS_ACTIVE :=
      get_set_ne _ _ _ _ _ _ _ _ (by decide) (by decide)
    have hstay : s.copyPage.standby = s.standby := standby_congr (reg_copyPage s (by decide) (by decide) (by decide))
    unfold State.standby at hstay ⊢
    rw [hset, hstay]
  rw [stagePage_eq]
  split
  · rw [← hcopy]
    exact reg_foldl_stageEntry _ l hn hmem hl
  · exact reg_foldl_stageEntry s l hn hmem hl

/-- A TSI command within the rills that nothing turns away. -/
theorem stage_tsi (mb op : Nat) (s : State) (entries : List Byte → List (Nat × Nat)) {p : List Byte}
    (h : s.request mb op = some p) (hlen : u16 p 0 + u16 p 2 ≤ 2048) (hc : CanStage mb [(.tsi, 0)] p s)
    (hl : ((entries p).map Prod.fst).Nodup) (hlt : ∀ e ∈ entries p, e.1 < 2048) :
    ∃ t, stage mb op (fun _ => [(.tsi, 0)]) s (fun p _ => if 2048 < u16 p 0 + u16 p 2 then some { code := cINVALID, index := 1 } else none)
        (fun p s => (s.stagePage mb (entries p), [])) = .next t ∧
      t.mbox mb = ({ s.mbox mb with txn := (s.mbox mb).txn.add { op := op, payload := p } [(.tsi, 0)] } : Mailbox).answered ok ∧
      (∀ k, k ≠ mb → t.mbox k = s.mbox k) ∧
      ∀ e ∈ entries p, t.reg (pageBase s.standby + 4 * e.1) = BitVec.ofNat 32 (e.2 &&& 0xFFFFF800) := by
  have hmbs : ((s.recorded mb op p [(.tsi, 0)]).stagePage mb (entries p)).mbs = (s.recorded mb op p [(.tsi, 0)]).mbs :=
    keeps_stagePage State.mbs (fun _ _ _ => rfl) (fun _ _ h => h.mbs) _ _ _
  have hpending : ((s.recorded mb op p [(.tsi, 0)]).stagePage mb (entries p)).pending = s.pending :=
    keeps_stagePage State.pending (fun _ _ _ => rfl) (fun _ _ h => h.pending) _ _ _
  obtain ⟨t, ht, ⟨hself, hothers⟩, hregs, -⟩ := done_answer s ((s.recorded mb op p [(.tsi, 0)]).stagePage mb (entries p)) mb (okD []) hpending
  refine ⟨t, (stage_accepted mb op _ s _ _ h (if_neg (Nat.not_lt.2 hlen)) hc).trans ht, ?_, fun k hk => ?_, fun e he => ?_⟩
  · rw [hself, mbox_congr hmbs]
    exact congrArg (fun m : Mailbox => m.answered (okD [])) (mbox_setMbox_self _ _ _)
  · rw [hothers k hk, mbox_congr hmbs]
    exact mbox_setMbox_ne _ _ hk
  · have hstandby : s.standby ≤ 1 := Nat.sub_le _ _
    have hrill := hlt e he
    obtain ⟨-, hsq, hev⟩ := page_not_flip (a := pageBase s.standby + 4 * e.1) (by unfold pageBase; omega) (by unfold pageBase; omega)
    rw [hregs _ (by simpa using hev) hsq]
    exact reg_stagePage (s.recorded mb op p [(.tsi, 0)]) mb (entries p) hrill he hl

theorem nodup_rills (n k : Nat) (v : Nat → Nat) : (((List.range k).map (fun i => (n + i, v i))).map Prod.fst).Nodup := by
  rw [List.map_map]
  exact List.Nodup.map (fun a b h => Nat.add_left_cancel h) List.nodup_range

theorem rills_lt {n k : Nat} (v : Nat → Nat) (h : n + k ≤ 2048) : ∀ e ∈ (List.range k).map (fun i => (n + i, v i)), e.1 < 2048 := by
  intro e he
  obtain ⟨i, hi, rfl⟩ := List.mem_map.1 he
  have := List.mem_range.1 hi
  dsimp only
  omega

/-- A staging command that its chapter does not refuse, and that keeps what Omrek has worked out. -/
theorem stage_recordedWith (mb op : Nat) (objs : List Byte → List Obj) (s : State) (refuse : List Byte → State → Option Reply)
    (extra : List Byte → State → State × List Byte) {p x : List Byte} (h : s.request mb op = some p) (hr : refuse p (s.serving mb) = none)
    (hc : CanStage mb (objs p) p s) (hx : (extra p (s.recorded mb op p (objs p))).1 = (s.recorded mb op p (objs p)).stagedExtra mb x) :
    ∃ t, stage mb op objs s refuse extra = .next t ∧ RecordedWith mb op p x s t := by
  rw [stage_accepted mb op objs s refuse extra h hr hc, hx]
  exact done_recordedWith s mb op p x (objs p) _

/-! ### The commands -/

@[simp] theorem serving_flag (s : State) (mb : Nat) (f : Field) (i j : Nat) : (s.serving mb).flag f i j = s.flag f i j := rfl
@[simp] theorem serving_holder (s : State) (mb x : Nat) : (s.serving mb).holder x = s.holder x := rfl
@[simp] theorem serving_leafState (s : State) (mb l : Nat) : (s.serving mb).leafState l = s.leafState l := rfl
@[simp] theorem serving_leafInfo (s : State) (mb l : Nat) : (s.serving mb).leafInfo l = s.leafInfo l := rfl
@[simp] theorem serving_otherClient (s : State) (mb t : Nat) : (s.serving mb).otherClient t = s.otherClient t := rfl
@[simp] theorem serving_dataFurrow (s : State) (mb f : Nat) : (s.serving mb).dataFurrow f = s.dataFurrow f := rfl
@[simp] theorem serving_leafBound (s : State) (mb t : Nat) : (s.serving mb).leafBound t = s.leafBound t := rfl
@[simp] theorem serving_stagedNFur (s : State) (mb k : Nat) : (s.serving mb).stagedNFur k = s.stagedNFur k := rfl
@[simp] theorem serving_mode (s : State) (mb : Nat) : (s.serving mb).mode = s.mode := rfl
@[simp] theorem serving_dpdUpdate (s : State) (mb : Nat) (p : List Byte) : (s.serving mb).dpdUpdate p = s.dpdUpdate p := rfl
@[simp] theorem serving_modDpdUpdate (s : State) (mb : Nat) (p : List Byte) : (s.serving mb).modDpdUpdate p = s.modDpdUpdate p := rfl
@[simp] theorem serving_restoreRefuse (s : State) (mb : Nat) (p : List Byte) : (s.serving mb).restoreRefuse p = s.restoreRefuse p := rfl

/-- The furrow that a FURROW_RX_SET or FURROW_TX_SET names is there. -/
theorem furrow_named {n k : Nat} (h : n = 0xFF ∨ n < k) : ¬(n ≠ 0xFF && k ≤ n) = true := by
  simp only [ne_eq, decide_not, Bool.and_eq_true, Bool.not_eq_eq_eq_not, Bool.not_true, decide_eq_false_iff_not, decide_eq_true_eq]
  omega

/-- Settles O20: each chapter's refusals do not apply, so the command records its values (R664). -/
theorem checkedStagingCommandsRecord : Obligations.CheckedStagingCommandsRecord := by
  unfold Obligations.CheckedStagingCommandsRecord
  refine ⟨?_, ?_, ?_, ?_, ?_, ?_, ?_, ?_, ?_, ?_, ?_, ?_, ?_, ?_⟩
  · intro mb p s hreq hok hcan
    dsimp only [exec]
    exact stage_recorded _ _ _ s _ _ hreq hok (fun _ => rfl) hcan
  · intro mb p s hreq hok hcan
    dsimp only [exec]
    exact stage_recorded _ _ _ s _ _ hreq (if_neg (furrow_named hok)) (fun _ => rfl) hcan
  · intro mb p s hreq hok hcan
    dsimp only [exec]
    exact stage_recorded _ _ _ s _ _ hreq (if_neg (furrow_named hok)) (fun _ => rfl) hcan
  · intro mb p s hreq hserial hholder hprofile hcan
    dsimp only [exec]
    refine stage_recorded mb.val 0x0501 leafObj s _ _ hreq ?_ (fun _ => rfl) hcan
    have hset : (decide (u8 p 2 = 0) && s.flag Reg.LF_STATUS_PROFILE_SET (u16 p 0)) = false := by
      rcases hprofile with h | h <;> simp [h]
    simp only [serving_holder, serving_flag, hserial, hset, if_false, Bool.false_eq_true]
    rcases hholder with h | h <;> simp [h]
  · intro mb p s hreq hstate hblocked hfree hclient hfurrow hgroup hcan
    dsimp only [exec]
    refine stage_recorded mb.val 0x0502 leafObj s _ _ hreq ?_ (fun _ => rfl) hcan
    have hany : ((List.range 1024).any fun k => k ≠ u16 p 0 && s.flag Reg.LF_STATUS_PROFILE_SET k && s.get Reg.LF_PROFILE_TURNOUT k = u8 p 2) = false := by
      rw [List.any_eq_false]
      intro k hk
      have hk' := List.mem_range.1 hk
      simp only [ne_eq, decide_not, Bool.and_eq_true, Bool.not_eq_eq_eq_not, Bool.not_true, decide_eq_false_iff_not, decide_eq_true_eq, not_and]
      exact fun h => hfree k hk' h.1 h.2
    have hgroup' : (decide (s.leafState (u16 p 0) ≠ 0) && decide ((s.leafInfo (u16 p 0)).group ≠ u8 p 3 / 4)) = false := by
      rcases hgroup with h | h <;> simp [h]
    simp only [serving_leafState, serving_leafInfo, serving_flag, serving_get, serving_otherClient, serving_dataFurrow, hstate, hblocked, hclient, hfurrow,
      decide_false, Bool.or_self, Bool.not_true, if_false, Bool.false_eq_true]
    exact (if_neg (ne_true_of_eq_false hany)).trans (if_neg (ne_true_of_eq_false hgroup'))
  · intro mb p s hreq hserial hcan
    dsimp only [exec]
    exact stage_recorded _ _ _ s _ _ hreq (if_neg hserial) (fun _ => rfl) hcan
  · intro mb p s hreq hkey hcan
    dsimp only [exec]
    exact stage_recorded _ _ _ s _ _ hreq (if_neg (not_not.2 hkey)) (fun _ => rfl) hcan
  · intro mb p s hreq hok hcan
    dsimp only [exec]
    unfold execCtxRestore
    simp only [hreq]
    refine ⟨fun hform => ?_, fun y hform hbody => ?_⟩
    · rw [if_neg (by simp [hform])]
      exact stage_recorded mb.val 0x0707 _ s _ _ hreq hok (fun u => by rw [if_neg hform]) hcan
    · rw [if_neg (by simp [hbody])]
      refine stage_recordedWith mb.val 0x0707 _ s _ _ hreq hok hcan ?_
      have hbody' : (s.recorded mb.val 0x0707 p [(.ctx, u16 p 0)]).restoreBody p = some y := hbody
      rw [if_pos hform, hbody', Option.getD_some]
  · intro mb p s hreq harm hcan
    dsimp only [exec]
    refine stage_recorded _ _ _ s _ _ hreq ?_ (fun _ => rfl) hcan
    simp only [serving_flag, serving_get]
    rcases harm with h | ⟨hvalid, hctx⟩
    · simp [h]
    · simp [hvalid, hctx]
  · intro mb p s hreq hrills hleaf hcan
    dsimp only [exec]
    refine stage_recorded _ _ _ s _ _ hreq ?_ (fun _ => rfl) hcan
    have hbound : (decide (bitsOf (u32 p 4) 0 3 ≠ 3) && s.leafBound (u8 p 0)) = false := by
      rcases hleaf with h | h <;> simp [h]
    simp only [serving_leafBound, hrills, hbound, Bool.not_true, if_false, Bool.false_eq_true]
  · intro mb p s hreq hlen hcan
    dsimp only [exec]
    obtain ⟨t, ht, hself, hothers, hentry⟩ := stage_tsi mb.val 0x0340 s (fun p => (List.range (u16 p 2)).map (fun k => (u16 p 0 + k, u32 p (4 + 4 * k)))) hreq
      hlen hcan (nodup_rills _ _ _) (rills_lt _ hlen)
    refine ⟨t, ht, hself, hothers, fun k hk => ?_⟩
    have hand : u32 p (4 + 4 * k) &&& 0xFFFFF800 < 2 ^ 32 := Nat.and_lt_two_pow _ (by decide)
    rw [hentry _ (List.mem_map.2 ⟨k, List.mem_range.2 hk, rfl⟩), BitVec.toNat_ofNat]
    exact Nat.mod_eq_of_lt hand
  · intro mb p s hreq hlen hcan
    dsimp only [exec]
    obtain ⟨t, ht, hself, hothers, hentry⟩ := stage_tsi mb.val 0x0341 s (fun p => (List.range (u16 p 2)).map (fun k => (u16 p 0 + k, 0))) hreq
      hlen hcan (nodup_rills _ _ _) (rills_lt _ hlen)
    refine ⟨t, ht, hself, hothers, fun k hk => ?_⟩
    rw [hentry _ (List.mem_map.2 ⟨k, List.mem_range.2 hk, rfl⟩)]
    simp
  · intro mb p s y hreq hmode hy hcan
    dsimp only [exec]
    refine stage_recordedWith mb.val 0x0316 _ s _ _ hreq ?_ hcan ?_
    · simp [hmode, hy]
    · have hy' : (s.recorded mb.val 0x0316 p [(.txLine, 0)]).dpdUpdate p = some y := hy
      rw [hy', Option.getD_some]
  · intro mb p s y hreq hy hcan
    dsimp only [exec]
    refine stage_recordedWith mb.val 0x0363 modObjs s _ _ hreq ?_ hcan ?_
    · simp [hy]
    · have hy' : (s.recorded mb.val 0x0363 p (modObjs p)).modDpdUpdate p = some y := hy
      rw [hy', Option.getD_some]

/-! ### Reports with conditions -/

@[simp] theorem serving_idleLeft (s : State) (mb k : Nat) : (s.serving mb).idleLeft k = s.idleLeft k := rfl

@[simp] theorem serving_clearRecord (s : State) (mb k : Nat) : (s.serving mb).clearRecord k = s.clearRecord k := rfl
@[simp] theorem serving_wrapBody (s : State) (mb k : Nat) : (s.serving mb).wrapBody k = s.wrapBody k := rfl
@[simp] theorem serving_k0Denied (s : State) (mb k : Nat) : (s.serving mb).k0Denied k = s.k0Denied k := rfl
@[simp] theorem serving_isKek (s : State) (mb k : Nat) : (s.serving mb).isKek k = s.isKek k := rfl

/-- A report whose reply is known. -/
theorem report_answers (mb op : Nat) (s : State) (f : List Byte → State → Reply) {p : List Byte} {r : Reply} (h : s.request mb op = some p)
    (hf : f p (s.serving mb) = r) : ∃ t, report mb op s f = .next t ∧ OnlyAnswered mb r s t := by
  rw [← hf]
  exact report_spec mb op s f p h

/-- Settles O23. -/
theorem transactionTapBoundsLeafAndContextReports : Obligations.TransactionTapBoundsLeafAndContextReports := by
  unfold Obligations.TransactionTapBoundsLeafAndContextReports
  refine ⟨?_, ?_, ?_, ?_, ?_, ?_⟩
  · rintro mb p x s hreq rfl
    dsimp only [exec]
    exact report_spec mb.val 0x0204 s _ p hreq
  · intro mb p s hreq
    dsimp only [exec]
    exact ⟨fun hfill => report_answers _ _ s _ hreq (if_neg (Nat.not_lt.2 hfill)), fun hfill => report_answers _ _ s _ hreq (if_pos hfill)⟩
  · intro mb p s hreq hok
    dsimp only [exec]
    refine report_answers _ _ s _ hreq ?_
    simp only [hok]
    rfl
  · intro mb p s hreq
    dsimp only [exec]
    exact ⟨fun hmode => report_answers _ _ s _ hreq (if_neg (not_not.2 hmode)), fun hmode => report_answers _ _ s _ hreq (if_pos hmode)⟩
  · intro mb p s hreq
    dsimp only [exec]
    exact report_spec mb.val 0x0506 s _ p hreq
  · intro mb p s hreq hon hlen hkey
    dsimp only [exec]
    refine ⟨fun hform => report_answers _ _ s _ hreq ?_, fun hform hk0 hkek => report_answers _ _ s _ hreq ?_⟩
    · simp [hon, hlen, hkey, hform]
    · simp [hon, hlen, hkey, hform, hk0, hkek]

end Sys2Proof.Machine
end

section
/-! SUPPORT. Direct accesses to registers, mailbox windows and the log (R8–R18, R652–R660, R694–R701, R796). -/

namespace Sys2Proof.Machine

/-! ### What the register tables say -/

/-- The arrays of LO words that are no counter's, as `hiWords` lists them. -/
def loArrays : List WordArray := [⟨0x10, 0, 1, 0, 1⟩, ⟨0x100040, 0x1000, 4, 0, 1⟩, ⟨0x320040, 0x1000, 2, 0, 1⟩, ⟨0x38040, 0, 1, 0, 1⟩, ⟨0x1B0004, 0x20, 1024, 0, 1⟩]

/-- Words of an array of aligned words below the end of the map. -/
def WordArray.aligned (r : WordArray) : Bool := r.base % 4 = 0 && r.stride % 4 = 0 && r.sub % 4 = 0 && r.last < 0x1000000

/-- The shadows of a counter's words, from the `k`th byte on. -/
def Ctr.shadowArray (c : Ctr) (k : Nat) : WordArray := ⟨c.base + k + c.shadow, c.stride, c.n, c.sub, c.m⟩

/-- The words of one counter of an array, by their first bytes. -/
def Ctr.parts (c : Ctr) : List Nat := if c.words = 1 then [0] else [0, 4]

/-- The counters of a page. -/
def pageCounters (g : Nat) : List Ctr := counters.filter fun c => Nat.beq g (c.base / 0x40000)

/-- The words in which a squelch shows, as arrays. -/
def squelchArrays : List WordArray := squelchWords.map fun a => ⟨a, 0, 1, 0, 1⟩

/-- The words with an SC field, as arrays of descriptors. -/
def snapDescs : List RegDesc := regDescs.filter fun d => d.sc ≠ 0

def RegDesc.array (d : RegDesc) : WordArray := ⟨d.base, d.stride, d.n, d.sub, d.m⟩

/-- The windows and words that direct writes do not reach by their types, as arrays. -/
def specialArrays : List WordArray := [⟨0x10000, 0, 1, 1, 0x2000⟩, ⟨0x1000, 0, 1, 1, 0x200⟩, ⟨0x40000, 0, 1, 0, 1⟩, ⟨0x40004, 0, 1, 0, 1⟩]

/-- What the register tables say of one counter: its words are aligned and none of the other LO words, its shadow lies in its 256 KiB page of the map
and shows no squelch. -/
def Ctr.checked (c : Ctr) : Bool :=
  (c.array 0).aligned && (loArrays.all fun r => (c.array 0).apart r) && Nat.beq ((c.shadowArray 4).last / 0x40000) (c.base / 0x40000) &&
    Nat.blt (c.base / 0x40000) 64 && c.parts.all fun k => squelchArrays.all fun r => (c.shadowArray k).apart r

/-- Of two counters: no shadow of the one is a word of the other, and where they lie differently far from their shadows these have no word in common. -/
def Ctr.shadowsApart (c e : Ctr) : Bool := c.parts.all fun k => e.parts.all fun l =>
  (c.shadowArray k).apart (e.array l) && (c.shadow == e.shadow || (c.shadowArray k).apart (e.shadowArray l))

/-- Of a word with an SC field: it has that field alone, in bit 0, and lies in no window, shows no squelch and is no counter's shadow. -/
def RegDesc.snapChecked (d : RegDesc) : Bool :=
  d.sc == 1 && d.rw == 0 && d.w1c == 0 && d.tx == 0 && (specialArrays.all fun r => d.array.apart r) && (squelchArrays.all fun r => d.array.apart r) &&
    counters.all fun c => c.parts.all fun k => d.array.apart (c.shadowArray k)

/-- The direct words that no table gives and those of INT_MASK and LOG_THRESH. -/
def plainDescs : Bool :=
  (findDesc regDescs (Cnt.TX_WRITE_IGNORED.addr 0 0)).isNone &&
    ([0x208, 0x20C].all fun a => (findDesc regDescs a).any fun d => d.rw == 0xFFFFFFFF && d.w1c == 0 && d.sc == 0 && d.tx == 0) &&
    (findDesc regDescs 0x40004).any fun d => d.tx == 0

/-- The tables, evaluated once. -/
theorem tables_checked : (counters.all Ctr.checked && (loArrays.all WordArray.aligned) &&
    ((List.range 64).all fun g => (pageCounters g).all fun c => (pageCounters g).all c.shadowsApart) && snapDescs.all RegDesc.snapChecked && plainDescs) = true := by
  decide +kernel

theorem counter_checked {c : Ctr} (hc : c ∈ counters) : (c.array 0).aligned = true ∧ (∀ r ∈ loArrays, (c.array 0).apart r = true) ∧
    (c.shadowArray 4).last / 0x40000 = c.base / 0x40000 ∧ c.base / 0x40000 < 64 ∧ ∀ k ∈ c.parts, ∀ r ∈ squelchArrays, (c.shadowArray k).apart r = true := by
  have h := tables_checked
  simp only [Bool.and_eq_true, List.all_eq_true] at h
  obtain ⟨⟨⟨⟨hcounters, -⟩, -⟩, -⟩, -⟩ := h
  have h := hcounters c hc
  simp only [Ctr.checked, Bool.and_eq_true, List.all_eq_true, Nat.beq_eq, Nat.blt_eq] at h
  obtain ⟨⟨⟨⟨hal, hlo⟩, hpage⟩, hlt⟩, hsq⟩ := h
  exact ⟨hal, hlo, hpage, hlt, hsq⟩

theorem loArrays_aligned : ∀ r ∈ loArrays, r.aligned = true := by
  have h := tables_checked
  simp only [Bool.and_eq_true, List.all_eq_true] at h
  obtain ⟨⟨⟨⟨-, hlo⟩, -⟩, -⟩, -⟩ := h
  exact hlo

theorem pageCounters_apart {g : Nat} (hg : g < 64) {c e : Ctr} (hc : c ∈ pageCounters g) (he : e ∈ pageCounters g) : c.shadowsApart e = true := by
  have h := tables_checked
  simp only [Bool.and_eq_true, List.all_eq_true] at h
  obtain ⟨⟨⟨-, hpages⟩, -⟩, -⟩ := h
  exact hpages g (List.mem_range.2 hg) c hc e he

theorem snapDesc_checked {d : RegDesc} (hd : d ∈ snapDescs) : (d.sc = 1 ∧ d.rw = 0 ∧ d.w1c = 0 ∧ d.tx = 0) ∧ (∀ r ∈ specialArrays, d.array.apart r = true) ∧
    (∀ r ∈ squelchArrays, d.array.apart r = true) ∧ ∀ c ∈ counters, ∀ k ∈ c.parts, d.array.apart (c.shadowArray k) = true := by
  have h := tables_checked
  simp only [Bool.and_eq_true, List.all_eq_true] at h
  obtain ⟨⟨-, hsnap⟩, -⟩ := h
  have h := hsnap d hd
  simp only [RegDesc.snapChecked, Bool.and_eq_true, List.all_eq_true, beq_iff_eq] at h
  obtain ⟨⟨⟨⟨⟨⟨hsc, hrw⟩, hw1c⟩, htx⟩, hspecial⟩, hsquelch⟩, hshadow⟩ := h
  exact ⟨⟨hsc, hrw, hw1c, htx⟩, hspecial, hsquelch, hshadow⟩

theorem plainDescs_checked : findDesc regDescs (Cnt.TX_WRITE_IGNORED.addr 0 0) = none ∧
    (∀ a ∈ [0x208, 0x20C], (findDesc regDescs a).any (fun d => d.rw == 0xFFFFFFFF && d.w1c == 0 && d.sc == 0 && d.tx == 0) = true) ∧
    (findDesc regDescs 0x40004).any (fun d => d.tx == 0) = true := by
  have h : plainDescs = true := (Bool.and_eq_true _ _ ▸ tables_checked).2
  simp only [plainDescs, Bool.and_eq_true, List.all_eq_true, Option.isNone_iff_eq_none] at h
  exact ⟨h.1.1, h.1.2, h.2⟩

/-! ### The end of a command, and what a register access leaves -/

/-- The end of a command: the registers of its state but for the words in which a squelch shows, and all else but what the shared end may change. -/
theorem done_shared (s u : State) (hp : u.pending = s.pending) : ∃ t, done s u = .next t ∧ RegsKept [] u t ∧ Shared u t = u := by
  obtain ⟨r, l, m, b, hdone, hregs⟩ := done_eq s u
  refine ⟨_, hdone, hregs, ?_⟩
  rw [← hp]
  rfl

/-- Only register words and interfaces differ. -/
def RegsIfs (s t : State) : Prop := ∃ g i, t = { s with regs := g, ifs := i }

theorem RegsIfs.refl (s : State) : RegsIfs s s := ⟨s.regs, s.ifs, rfl⟩

theorem RegsIfs.trans {s t u : State} (h : RegsIfs s t) (k : RegsIfs t u) : RegsIfs s u := by
  obtain ⟨g, i, rfl⟩ := h
  obtain ⟨g', i', rfl⟩ := k
  exact ⟨g', i', rfl⟩

theorem regsIfs_setReg (s : State) (a : Nat) (v : Word) : RegsIfs s (s.setReg a v) := ⟨_, s.ifs, rfl⟩

theorem regsIfs_setIface (s : State) (i : Iface) (f : IfState) : RegsIfs s (s.setIface i f) := ⟨s.regs, _, rfl⟩

theorem regsIfs_mdioAccess (s : State) (via : Iface) (a : Nat) (v : Word) : RegsIfs s (s.mdioAccess via a v) := by
  unfold State.mdioAccess
  split
  · exact regsIfs_setIface _ _ _
  · exact .refl s

theorem regsIfs_setCount (s : State) (c : Ctr) (v i j : Nat) : RegsIfs s (s.setCount c v i j) := by
  unfold State.setCount
  dsimp only
  split
  · exact regsIfs_setReg _ _ _
  · split
    · exact (regsIfs_setReg _ _ _).trans (regsIfs_setReg _ _ _)
    · exact (regsIfs_setReg _ _ _).trans (regsIfs_setReg _ _ _)

theorem regsIfs_bump (s : State) (c : Ctr) (i j n : Nat) : RegsIfs s (s.bump c i j n) := by
  unfold State.bump
  dsimp only
  split
  · exact regsIfs_setCount _ _ _ _ _
  · split
    · exact regsIfs_setCount _ _ _ _ _
    · exact regsIfs_setCount _ _ _ _ _

/-- A command that has changed registers and interfaces alone. -/
theorem done_regsIfs {s u : State} (h : RegsIfs s u) : ∃ t, done s u = .next t ∧ RegsKept [] u t ∧ { Shared s t with ifs := s.ifs } = s := by
  obtain ⟨g, i, rfl⟩ := h
  obtain ⟨t, ht, hregs, hrest⟩ := done_shared s { s with regs := g, ifs := i } rfl
  exact ⟨t, ht, hregs, congrArg (fun x : State => { x with regs := s.regs, ifs := s.ifs }) hrest⟩

/-! ### Direct writes of plain words (R11) -/

/-- A write of 1 to CLIP notes its time (R281). -/
def State.clipNoted (s : State) (a : Nat) (v : Word) : State :=
  if a = 0x150014 ∧ v.toNat.testBit 1 then { s with tx := { s.tx with clipCleared := s.clock } } else s

@[simp] theorem reg_clipNoted (s : State) (a : Nat) (v : Word) (b : Nat) : (s.clipNoted a v).reg b = s.reg b := by
  unfold State.clipNoted
  split <;> rfl

theorem clipNoted_of_ne (s : State) {a : Nat} (v : Word) (h : a ≠ 0x150014) : s.clipNoted a v = s := if_neg fun hc => h hc.1

/-- The state in which a write to a word with a TX field is counted (R14). -/
def State.txCounted (s : State) (d : RegDesc) : State := if d.tx = 0 then s else s.bump Cnt.TX_WRITE_IGNORED

/-- The word that a plain direct write stores. -/
def State.wordStored (s : State) (d : RegDesc) (a : Nat) (v racing : Word) : State :=
  s.setReg a (BitVec.ofNat 32 (writeBits d (s.reg a).toNat v.toNat racing.toNat))

theorem directWrite_stored (s : State) {a : Nat} (v racing : Word) {d : RegDesc} (ha : PlainWord a) (hd : findDesc regDescs a = some d) (hsc : d.sc = 0) :
    s.directWrite a v racing = ((s.txCounted d).wordStored d a v racing).clipNoted a v := by
  obtain ⟨hwin, hmsix, hthresh, hpop⟩ := ha
  simp [State.directWrite, State.txCounted, State.wordStored, State.clipNoted, hwin, hmsix, hthresh, hpop, hd, hsc]

theorem regsIfs_txCounted (s : State) (d : RegDesc) : RegsIfs s (s.txCounted d) := by
  unfold State.txCounted
  split
  · exact .refl s
  · exact regsIfs_bump _ _ _ _ _

/-- No chapter assigns the word of TX_WRITE_IGNORED to direct writes. -/
theorem ne_txWriteIgnored {a : Nat} {d : RegDesc} (hd : findDesc regDescs a = some d) : a ≠ Cnt.TX_WRITE_IGNORED.addr 0 0 := by
  rintro rfl
  rw [plainDescs_checked.1] at hd
  cases hd

theorem txWriteIgnored_wordsOf : Cnt.TX_WRITE_IGNORED.wordsOf 0 0 = [Cnt.TX_WRITE_IGNORED.addr 0 0] := rfl

theorem reg_txCounted (s : State) (d : RegDesc) {a : Nat} (h : a ≠ Cnt.TX_WRITE_IGNORED.addr 0 0) : (s.txCounted d).reg a = s.reg a := by
  unfold State.txCounted
  split
  · rfl
  · exact reg_bump_ne _ _ _ _ _ (by rw [txWriteIgnored_wordsOf]; simpa using h)

theorem count_txCounted (s : State) {d : RegDesc} (h : d.tx ≠ 0) :
    (s.txCounted d).count Cnt.TX_WRITE_IGNORED = min (s.count Cnt.TX_WRITE_IGNORED + 1) 0xFFFFFFFF := by
  unfold State.txCounted
  rw [if_neg h, count_bump_one _ _ _ _ _ rfl]

/-- The word of a plain direct write, and the words beside it. -/
theorem reg_directWrite_self (s : State) {a : Nat} (v racing : Word) {d : RegDesc} (ha : PlainWord a) (hd : findDesc regDescs a = some d) (hsc : d.sc = 0) :
    (s.directWrite a v racing).reg a = BitVec.ofNat 32 (writeBits d (s.reg a).toNat v.toNat racing.toNat) := by
  rw [directWrite_stored s v racing ha hd hsc, reg_clipNoted, State.wordStored, reg_setReg_self, reg_txCounted _ _ (ne_txWriteIgnored hd)]

theorem reg_directWrite_ne (s : State) {a b : Nat} (v racing : Word) {d : RegDesc} (ha : PlainWord a) (hd : findDesc regDescs a = some d) (hsc : d.sc = 0)
    (hb : b ≠ a) (hctr : d.tx = 0 ∨ b ≠ Cnt.TX_WRITE_IGNORED.addr 0 0) : (s.directWrite a v racing).reg b = s.reg b := by
  rw [directWrite_stored s v racing ha hd hsc, reg_clipNoted, State.wordStored, reg_setReg_ne _ _ hb]
  rcases hctr with h | h
  · rw [State.txCounted, if_pos h]
  · exact reg_txCounted s d h

/-- A word access to a plain word is a direct write. -/
theorem hostWrite_plain (s : State) (via : Iface) {a : Nat} (v : Word) (ha : PlainWord a) :
    s.hostWrite via (a, v) = (s.directWrite a v).mdioAccess via a v := by
  obtain ⟨hwin, -⟩ := ha
  have hbell : ¬((decide (0x10000 ≤ a) && decide (a < 0x12000) && ((a - 0x10000) % 0x400 == 0x3F8) && v.getLsbD 0) = true) := by
    simp only [Bool.and_eq_true, decide_eq_true_eq]
    exact fun h => hwin h.1.1
  unfold State.hostWrite
  dsimp only
  rw [if_neg hbell]

/-- An aligned access of one word. -/
theorem accessWords_four (via : Iface) {a : Nat} (ha : a % 4 = 0) (hlt : a < 0x1000000) : accessWords via a 4 = 1 := by
  have hend : a + 4 ≤ 0x1000000 := by omega
  cases via <;> simp [accessWords, ha, hend]

theorem exec_registerWrite_word (via : Iface) {a : Nat} (v : Word) (s : State) (ha : a % 4 = 0) (hlt : a < 0x1000000) :
    exec (.registerWrite via a 4 [v]) s = done s (s.hostWrite via (a, v)) := by
  show execRegisterWrite via a 4 [v] s = _
  unfold execRegisterWrite
  rw [if_neg (by simp [mmdAccess]), accessWords_four via ha hlt]
  rfl

theorem Written_of_eq {d : RegDesc} {v x y : Word} (h : y = BitVec.ofNat 32 (writeBits d x.toNat v.toNat 0)) : Written d v x y := h ▸ written_writeBits d v x

/-- Settles O7: each word access is a direct write, which stores one word by its types and counts the TX field. -/
theorem directWriteByFieldType : Obligations.DirectWriteByFieldType := by
  unfold Obligations.DirectWriteByFieldType
  refine ⟨?_, ?_⟩
  · intro via a v d s halign hlt hplain hd hsc
    have hexec := (exec_registerWrite_word via v s halign hlt).trans (congrArg (done s) (hostWrite_plain s via v hplain))
    have hout : ∃ g i c, (s.directWrite a v).mdioAccess via a v = { s with regs := g, ifs := i, tx := { s.tx with clipCleared := c } } ∧
        (a ≠ 0x150014 → c = s.tx.clipCleared) := by
      obtain ⟨g, i, hu⟩ := (regsIfs_txCounted s d).trans (regsIfs_setReg _ a (BitVec.ofNat 32 (writeBits d ((s.txCounted d).reg a).toNat v.toNat 0)))
      obtain ⟨g', i', hm⟩ := regsIfs_mdioAccess (s.directWrite a v) via a v
      have hw : s.directWrite a v = ({ s with regs := g, ifs := i } : State).clipNoted a v := (directWrite_stored s v 0 hplain hd hsc).trans
        (congrArg (fun u : State => u.clipNoted a v) hu)
      unfold State.clipNoted at hw
      rw [hm, hw]
      split
      · next h => exact ⟨g', i', s.clock, rfl, fun hne => absurd h.1 hne⟩
      · exact ⟨g', i', s.tx.clipCleared, rfl, fun _ => rfl⟩
    obtain ⟨g, i, c, hu, hc⟩ := hout
    obtain ⟨t, ht, hregs, hrest⟩ := done_shared s ((s.directWrite a v).mdioAccess via a v) (by rw [hu])
    have hreg : ∀ b, b ∉ squelchWords → t.reg b = (s.directWrite a v).reg b := fun b hb => (hregs.of_nil hb).trans (mdioAccess_reg _ _ _ _ _)
    refine ⟨t, hexec.trans ht, fun hsq => ?_, fun htx => ?_, fun b hb hsq => ?_, ?_, fun hne => ?_⟩
    · exact Written_of_eq ((hreg a hsq).trans (reg_directWrite_self s v 0 hplain hd hsc))
    · rw [hregs.count _ 0 0 fun _ hb => ⟨List.not_mem_nil, txWriteIgnored_words_not_squelch _ hb⟩, mdioAccess_count,
        directWrite_stored s v 0 hplain hd hsc, count_eq_of_reg _ _ _ 0 0 (fun b _ => reg_clipNoted _ _ _ _), State.wordStored,
        count_setReg_ne _ _ _ _ _ (by simpa [txWriteIgnored_wordsOf] using ne_txWriteIgnored hd), count_txCounted s htx]
    · rw [List.mem_cons, not_or] at hb
      obtain ⟨hba, hctr⟩ := hb
      rw [hreg b hsq, reg_directWrite_ne s v 0 hplain hd hsc hba]
      split at hctr
      · next h => exact .inl h
      · exact .inr (by simpa using hctr)
    · rw [hu] at hrest
      exact congrArg (fun x : State => { x with regs := s.regs, ifs := s.ifs, tx := { x.tx with clipCleared := s.tx.clipCleared } }) hrest
    · have htx : t.tx = { s.tx with clipCleared := c } := by
        rw [hu] at hrest
        exact congrArg State.tx hrest
      rw [htx, hc hne]
  · intro a v w d e s halign hend hpa hpb hd hsc he hesc hsqa hsqb
    have hwords : accessWords .pcie a 8 = 2 := by simp [accessWords, halign, hend]
    have hexec : exec (.registerWrite .pcie a 8 [v, w]) s = done s ((s.hostWrite .pcie (a, v)).hostWrite .pcie (a + 4, w)) := by
      show execRegisterWrite .pcie a 8 [v, w] s = _
      unfold execRegisterWrite
      rw [if_neg (by simp [mmdAccess]), hwords]
      rfl
    obtain ⟨t, ht, hregs⟩ := done_keeps_regs s ((s.hostWrite .pcie (a, v)).hostWrite .pcie (a + 4, w))
    rw [hostWrite_plain _ _ _ hpa, hostWrite_plain _ _ _ hpb] at hregs
    have hreg : ∀ b, b ∉ squelchWords → t.reg b = (((s.directWrite a v).mdioAccess .pcie a v).directWrite (a + 4) w).reg b :=
      fun b hb => (hregs.of_nil hb).trans (mdioAccess_reg _ _ _ _ _)
    have hfirst : ∀ b, b ≠ a + 4 → b ≠ Cnt.TX_WRITE_IGNORED.addr 0 0 → b ∉ squelchWords → t.reg b = (s.directWrite a v).reg b := fun b hb hctr hsq => by
      rw [hreg b hsq, reg_directWrite_ne _ _ _ hpb he hesc hb (.inr hctr), mdioAccess_reg]
    refine ⟨t, hexec.trans ht, Written_of_eq ?_, Written_of_eq ?_, fun b hb hsq => ?_⟩
    · rw [hfirst a (by omega) (ne_txWriteIgnored hd) hsqa]
      exact reg_directWrite_self s v 0 hpa hd hsc
    · rw [hreg _ hsqb, reg_directWrite_self _ _ _ hpb he hesc, mdioAccess_reg,
        reg_directWrite_ne s v 0 hpa hd hsc (by omega) (.inr (ne_txWriteIgnored he))]
      rfl
    · obtain ⟨hba, hbb, hctr⟩ : b ≠ a ∧ b ≠ a + 4 ∧ b ≠ Cnt.TX_WRITE_IGNORED.addr 0 0 := by simpa using hb
      rw [hfirst b hbb hctr hsq, reg_directWrite_ne s v 0 hpa hd hsc hba (.inr hctr)]

/-- Settles O8: such an access stores no word (R8, R10). -/
theorem unassignedAndUnalignedWritesAreDiscarded : Obligations.UnassignedAndUnalignedWritesAreDiscarded := by
  unfold Obligations.UnassignedAndUnalignedWritesAreDiscarded
  refine ⟨?_, ?_⟩
  · intro via a v s halign hlt hplain hd
    have hwrite : s.directWrite a v = s := by
      obtain ⟨hwin, hmsix, hthresh, hpop⟩ := hplain
      simp [State.directWrite, hwin, hmsix, hd]
    obtain ⟨t, ht, hregs, hrest⟩ := done_regsIfs (regsIfs_mdioAccess s via a v)
    refine ⟨t, ?_, fun b hb hsq => (hregs b hb hsq).trans (mdioAccess_reg _ _ _ _ _), hrest⟩
    rw [exec_registerWrite_word via v s halign hlt, hostWrite_plain s via v hplain, hwrite, ht]
  · intro via a size vs s hmmd hbad
    have hwords : accessWords via a size = 0 := by
      cases via with
      | pcie =>
        show (if a % 4 ≠ 0 then 0 else if size % 4 = 0 && a + size ≤ 0x1000000 then size / 4 else 0) = 0
        simp only [reduceCtorEq, true_and, false_and, false_or] at hbad
        rw [ite_eq_left_iff]
        intro halign
        rw [ite_eq_right_iff, Bool.and_eq_true, decide_eq_true_eq, decide_eq_true_eq]
        omega
      | mdio =>
        show (if a % 4 ≠ 0 then 0 else if size = 4 then 1 else 0) = 0
        simp only [reduceCtorEq, true_and, false_and, false_or] at hbad
        rw [ite_eq_left_iff]
        intro halign
        rw [ite_eq_right_iff]
        omega
      | spi =>
        show (if a % 4 ≠ 0 then 0 else size / 4) = 0
        simp only [reduceCtorEq, false_and, false_or] at hbad
        rw [ite_eq_left_iff]
        omega
      | i2c =>
        show (if a % 4 ≠ 0 then 0 else size / 4) = 0
        simp only [reduceCtorEq, false_and, false_or] at hbad
        rw [ite_eq_left_iff]
        omega
    have hdirect : mmdAccess via a size = false := by
      unfold mmdAccess
      rw [Bool.eq_false_iff]
      intro h
      simp only [Bool.and_eq_true, beq_iff_eq, decide_eq_true_eq] at h
      exact hmmd ⟨h.1.1, h.1.2, h.2⟩
    obtain ⟨t, ht, hregs, hrest⟩ := done_shared s s rfl
    refine ⟨t, ?_, hregs, hrest⟩
    show execRegisterWrite via a size vs s = _
    unfold execRegisterWrite
    rw [if_neg (by simp [hdirect]), hwords, ← ht]
    rfl

/-- Settles O10. -/
theorem w1cWriteClearsUnlessEventRaces : Obligations.W1cWriteClearsUnlessEventRaces := by
  unfold Obligations.W1cWriteClearsUnlessEventRaces
  intro via a v racing d s hplain hsq hd hw1c hsc htx
  have hclip : a ≠ 0x150014 := fun h => hsq (by simp [h, squelchWords])
  have hexec : exec (.w1cWrite via a v racing) s = done s ((s.directWrite a v racing).mdioAccess via a v) := by
    show execW1cWrite via a v racing s = _
    simp [execW1cWrite, hasType, hd, hw1c]
  have hstored : s.directWrite a v racing = s.wordStored d a v racing := by
    rw [directWrite_stored s v racing hplain hd hsc, clipNoted_of_ne _ _ hclip, State.txCounted, if_pos htx]
  obtain ⟨t, ht, hregs, hrest⟩ := done_regsIfs ((regsIfs_setReg s a _).trans (regsIfs_mdioAccess (s.wordStored d a v racing) via a v))
  refine ⟨t, ?_, fun k hk hbit hrw => ?_, fun b hb hbsq => ?_, hrest⟩
  · rw [hexec, hstored, ht]
  · rw [hregs.of_nil hsq, mdioAccess_reg, State.wordStored, reg_setReg_self, BitVec.getLsbD_ofNat, testBit_writeBits d _ _ _ hk, hbit, hrw]
    simp only [hk, decide_true, Bool.true_and, Bool.not_false, Bool.and_true, Bool.and_false, Bool.or_false, BitVec.testBit_toNat]
    exact Bool.or_comm _ _
  · rw [hregs.of_nil hbsq, mdioAccess_reg]
    exact reg_setReg_ne _ _ (by simpa using hb)

/-! ### Reads (R8–R13, R654) -/

@[simp] theorem iface_setIface_self (s : State) (i : Iface) (x : IfState) : (s.setIface i x).iface i = x := tget_tput_self _ _ _ _

theorem iface_setIface_ne (s : State) {i j : Iface} (x : IfState) (h : j ≠ i) : (s.setIface i x).iface j = s.iface j :=
  tget_tput_ne _ _ _ _ fun hidx => h (by revert hidx; cases i <;> cases j <;> decide)

theorem iface_congr {s t : State} (h : t.ifs = s.ifs) (i : Iface) : t.iface i = s.iface i := by
  unfold State.iface
  rw [h]

theorem iface_mdioAccess_ne (s : State) {via j : Iface} (a : Nat) (v : Word) (h : j ≠ via) : (s.mdioAccess via a v).iface j = s.iface j := by
  unfold State.mdioAccess
  split
  · exact iface_setIface_ne _ _ h
  · rfl

/-- The MDIO window follows an access in its address and data alone. -/
theorem iface_mdioAccess_self (s : State) (via : Iface) (a : Nat) (v : Word) :
    ((s.mdioAccess via a v).iface via).rdata = (s.iface via).rdata ∧ ((s.mdioAccess via a v).iface via).capture = (s.iface via).capture := by
  unfold State.mdioAccess
  split
  · dsimp only
    rw [iface_setIface_self]
    exact ⟨rfl, rfl⟩
  · exact ⟨rfl, rfl⟩

/-- The state in which a read access of one word ends. -/
theorem readAccess_word (s : State) (via : Iface) {a : Nat} (racing : Nat) (h : accessWords via a 4 = 1) :
    ((s.readAccess via a 4 racing).iface via).rdata = [(s.hostRead via a racing).1] ∧
    ((s.readAccess via a 4 racing).iface via).capture = ((s.hostRead via a racing).2.iface via).capture ∧
    (∀ j, j ≠ via → (s.readAccess via a 4 racing).iface j = (s.hostRead via a racing).2.iface j) ∧
    RegsIfs (s.hostRead via a racing).2 (s.readAccess via a 4 racing) ∧
    ∀ b, (s.readAccess via a 4 racing).reg b = (s.hostRead via a racing).2.reg b := by
  obtain ⟨x, u, hx⟩ : ∃ x u, s.hostRead via a racing = (x, u) := ⟨_, _, rfl⟩
  have hreads : s.hostReads via a racing 1 = ([x], u) := by simp only [State.hostReads, hx]
  have hmmd : ¬(mmdAccess via a 4 = true) := by simp [mmdAccess]
  unfold State.readAccess
  dsimp only
  rw [if_neg hmmd, h, if_neg (by decide), hreads, hx]
  obtain ⟨hdata, hcap⟩ := iface_mdioAccess_self (u.returnData via [x]) via a x
  have hret : (u.returnData via [x]).iface via = { u.iface via with rdata := [x] } := iface_setIface_self _ _ _
  refine ⟨?_, ?_, fun j hj => ?_, ?_, fun b => ?_⟩
  · rw [iface_setIface_self]
    exact hdata.trans (by rw [hret])
  · rw [iface_setIface_self]
    exact hcap.trans (by rw [hret])
  · rw [iface_setIface_ne _ _ hj, iface_mdioAccess_ne _ _ _ hj]
    exact iface_setIface_ne _ _ hj
  · exact ((regsIfs_setIface _ _ _).trans (regsIfs_mdioAccess _ _ _ _)).trans (regsIfs_setIface _ _ _)
  · rw [setIface_reg, mdioAccess_reg]
    exact setIface_reg _ _ _ _

theorem RegsIfs.pending {s t : State} (h : RegsIfs s t) : t.pending = s.pending := by
  obtain ⟨g, i, rfl⟩ := h
  rfl

/-- A read of one word that leaves the queue as it was. -/
theorem done_readAccess_word (s : State) (via : Iface) {a : Nat} (racing : Nat) (h : accessWords via a 4 = 1)
    (hp : (s.hostRead via a racing).2.pending = s.pending) : ∃ t, done s (s.readAccess via a 4 racing) = .next t ∧
      (t.iface via).rdata = [(s.hostRead via a racing).1] ∧ (t.iface via).capture = ((s.hostRead via a racing).2.iface via).capture ∧
      (∀ j, j ≠ via → t.iface j = (s.hostRead via a racing).2.iface j) ∧ RegsKept [] (s.hostRead via a racing).2 t := by
  obtain ⟨hdata, hcap, hother, hframe, hreg⟩ := readAccess_word s via racing h
  obtain ⟨t, ht, hregs, hrest⟩ := done_shared s (s.readAccess via a 4 racing) (hframe.pending.trans hp)
  have hifs : t.ifs = (s.readAccess via a 4 racing).ifs := (congrArg State.ifs hrest :)
  have hif : ∀ j, t.iface j = (s.readAccess via a 4 racing).iface j := iface_congr hifs
  exact ⟨t, ht, by rw [hif, hdata], by rw [hif, hcap], fun j hj => by rw [hif, hother j hj], fun b hb hsq => (hregs b hb hsq).trans (hreg b)⟩

/-! ### Counter words and LO words -/

theorem findCtr_some {l : List Ctr} {a : Nat} {c : Ctr} (h : findCtr l a = some c) : c ∈ l ∧ (c.array 0).Has a := by
  induction l with
  | nil => cases h
  | cons x l ih =>
    unfold findCtr at h
    split at h
    · next hin =>
      obtain rfl := Option.some.inj h
      exact ⟨List.mem_cons_self, WordArray.has_of_inArray hin⟩
    · exact ⟨List.mem_cons_of_mem _ (ih h).1, (ih h).2⟩

theorem WordArray.Has.aligned {r : WordArray} {a : Nat} (h : r.Has a) (hr : r.aligned = true) : a % 4 = 0 ∧ a < 0x1000000 := by
  have hle := h.bounds.2
  simp only [WordArray.aligned, Bool.and_eq_true, decide_eq_true_eq] at hr
  obtain ⟨⟨⟨hb, hs⟩, hk⟩, hlast⟩ := hr
  obtain ⟨i, j, -, -, rfl⟩ := h
  refine ⟨?_, by omega⟩
  have h1 : r.stride * i % 4 = 0 := by rw [Nat.mul_mod, hs, Nat.zero_mul]
  have h2 : r.sub * j % 4 = 0 := by rw [Nat.mul_mod, hk, Nat.zero_mul]
  omega

/-- The HI words of an address are those of one of the arrays or of its counter. -/
theorem hiWords_cases (a : Nat) : (∃ r ∈ loArrays, r.Has a) ∨ hiWords a = match findCtr counters a with
    | some c => if c.words = 1 then [] else [a + 4]
    | none => [] := by
  have hmem : ∀ r ∈ loArrays, inArray r.base r.stride r.n r.sub r.m a = true → ∃ r ∈ loArrays, r.Has a :=
    fun r hr hin => ⟨r, hr, WordArray.has_of_inArray hin⟩
  by_cases h1 : a = 0x10
  · exact .inl (hmem ⟨0x10, 0, 1, 0, 1⟩ (by simp [loArrays]) (by rw [h1]; decide))
  by_cases h2 : (inArray 0x100040 0x1000 4 0 1 a || inArray 0x320040 0x1000 2 0 1 a || a = 0x38040) = true
  · simp only [Bool.or_eq_true, decide_eq_true_eq] at h2
    obtain (h | h) | h := h2
    · exact .inl (hmem ⟨0x100040, 0x1000, 4, 0, 1⟩ (by simp [loArrays]) h)
    · exact .inl (hmem ⟨0x320040, 0x1000, 2, 0, 1⟩ (by simp [loArrays]) h)
    · exact .inl (hmem ⟨0x38040, 0, 1, 0, 1⟩ (by simp [loArrays]) (by rw [h]; decide))
  by_cases h3 : inArray 0x1B0004 0x20 1024 0 1 a = true
  · exact .inl (hmem ⟨0x1B0004, 0x20, 1024, 0, 1⟩ (by simp [loArrays]) h3)
  right
  unfold hiWords
  rw [if_neg h1, if_neg h2, if_neg h3] <;> rfl

/-- A 32-bit counter captures nothing. -/
theorem hiWords_of_counter {a : Nat} {c : Ctr} (h : findCtr counters a = some c) (hw : c.words = 1) : hiWords a = [] := by
  obtain ⟨hc, hhas⟩ := findCtr_some h
  rcases hiWords_cases a with ⟨r, hr, hra⟩ | hhi
  · exact absurd hra (WordArray.not_has_of_apart ((counter_checked hc).2.1 r hr) hhas)
  · rw [hhi, h]
    exact if_pos hw

/-- A LO word is an aligned word of the map. -/
theorem aligned_of_hiWords {a : Nat} (h : hiWords a ≠ []) : a % 4 = 0 ∧ a < 0x1000000 := by
  rcases hiWords_cases a with ⟨r, hr, hra⟩ | hhi
  · exact hra.aligned (loArrays_aligned r hr)
  · rw [hhi] at h
    cases hc : findCtr counters a with
    | none => rw [hc] at h; exact absurd rfl h
    | some c => exact (findCtr_some hc).2.aligned (counter_checked (findCtr_some hc).1).1

theorem hostRead_lo (s : State) (via : Iface) {a : Nat} (racing : Nat) (h : hiWords a ≠ []) : s.hostRead via a racing =
    (s.readWord a, s.setIface via { s.iface via with capture := some (a, (hiWords a).map (fun h => (h, s.readWord h))) }) := by
  unfold State.hostRead
  split
  · next hnil => exact absurd hnil h
  · rfl

theorem hostRead_counter (s : State) (via : Iface) {a : Nat} (racing : Nat) {c : Ctr} (h : findCtr counters a = some c) (hw : c.words = 1) :
    s.hostRead via a racing = (s.readWord a, (s.telemCleared a).setReg a (BitVec.ofNat 32 (min racing 0xFFFFFFFF))) := by
  unfold State.hostRead
  simp only [hiWords_of_counter h hw, h, hw, if_true]

/-- Reading a reported counter away moves the start of its period alone. -/
theorem telemCleared_eq (s : State) (a : Nat) : ∃ l, s.telemCleared a = { s with logs := l } := by
  unfold State.telemCleared
  split
  · exact ⟨_, rfl⟩
  · exact ⟨s.logs, rfl⟩

theorem done_readAccess_lo (s : State) (via : Iface) {a : Nat} (h : hiWords a ≠ []) : ∃ t, done s (s.readAccess via a 4 0) = .next t ∧
    (t.iface via).rdata = [s.readWord a] ∧ (t.iface via).capture = some (a, (hiWords a).map (fun h => (h, s.readWord h))) ∧
    RegsKept [] s t ∧ ∀ j, j ≠ via → t.iface j = s.iface j := by
  obtain ⟨halign, hlt⟩ := aligned_of_hiWords h
  have hread := hostRead_lo s via 0 h
  obtain ⟨t, ht, hdata, hcap, hother, hregs⟩ := done_readAccess_word s via 0 (accessWords_four via halign hlt) (by rw [hread]; rfl)
  rw [hread] at hdata hcap hother hregs
  refine ⟨t, ht, hdata, ?_, hregs, fun j hj => ?_⟩
  · rw [hcap, iface_setIface_self]
  · rw [hother j hj]
    exact iface_setIface_ne _ _ hj

/-- Settles O11. -/
theorem readsReturnClearAndCapture : Obligations.ReadsReturnClearAndCapture := by
  unfold Obligations.ReadsReturnClearAndCapture
  refine ⟨?_, ?_, ?_, ?_⟩
  · intro via a racing c s hctr hw
    obtain ⟨hc, hhas⟩ := findCtr_some hctr
    obtain ⟨halign, hlt⟩ := hhas.aligned (counter_checked hc).1
    obtain ⟨l, hl⟩ := telemCleared_eq s a
    have hread := hostRead_counter s via racing hctr hw
    rw [hl] at hread
    obtain ⟨t, ht, hdata, -, hother, hregs⟩ := done_readAccess_word s via racing (accessWords_four via halign hlt) (by rw [hread]; rfl)
    rw [hread] at hdata hother hregs
    refine ⟨t, ht, hdata, fun hsq => ?_, fun b hb hsq => ?_, fun j hj => hother j hj⟩
    · rw [hregs.of_nil hsq, reg_setReg_self, BitVec.toNat_ofNat]
      exact Nat.mod_eq_of_lt (by omega)
    · rw [hregs.of_nil hsq, reg_setReg_ne _ _ (by simpa using hb)]
      rfl
  · exact fun via a s h => done_readAccess_lo s via h
  · exact fun via s => done_readAccess_lo s via (a := 0x10) (by decide)
  · intro via a size racing s hwords hmmd
    have hread : ∀ k, s.readAccess via a size k = s.returnData via [0] := fun k => by
      unfold State.readAccess
      dsimp only
      rw [if_neg (by rw [hmmd]; decide), if_pos hwords]
    have hend : ∃ t, done s (s.returnData via [0]) = .next t ∧ (t.iface via).rdata = [0] ∧ (t.iface via).capture = (s.iface via).capture ∧ RegsKept [] s t := by
      obtain ⟨t, ht, hregs, hrest⟩ := done_shared s (s.returnData via [0]) rfl
      have hifs : t.ifs = (s.returnData via [0]).ifs := (congrArg State.ifs hrest :)
      have hif : t.iface via = { s.iface via with rdata := [0] } := (iface_congr hifs via).trans (iface_setIface_self _ _ _)
      exact ⟨t, ht, by rw [hif], by rw [hif], hregs⟩
    refine ⟨?_, ?_⟩
    · show ∃ t, done s (s.readAccess via a size racing) = .next t ∧ _
      rw [hread]
      exact hend
    · show ∃ t, done s (s.readAccess via a size 0) = .next t ∧ _
      rw [hread]
      exact hend

/-! ### Snapshots (R17, R18) -/

theorem Ctr.has_array (c : Ctr) (k : Nat) {i j : Nat} (hi : i < c.n) (hj : j < c.m) : (c.array k).Has (c.addr i j + k) :=
  ⟨i, j, .inr hi, .inr hj, by simp only [Ctr.array, Ctr.addr]; omega⟩

theorem Ctr.has_shadowArray (c : Ctr) (k : Nat) {i j : Nat} (hi : i < c.n) (hj : j < c.m) : (c.shadowArray k).Has (c.addr i j + k + c.shadow) :=
  ⟨i, j, .inr hi, .inr hj, by simp only [Ctr.shadowArray, Ctr.addr]; omega⟩

theorem mem_pageCounters {c : Ctr} (hc : c ∈ counters) : c ∈ pageCounters (c.base / 0x40000) := List.mem_filter.2 ⟨hc, Nat.beq_refl _⟩

theorem page_of_word {c : Ctr} (hc : c ∈ counters) {k : Nat} (hk : k ∈ c.parts) {a : Nat} (h : (c.array k).Has a ∨ (c.shadowArray k).Has a) :
    a / 0x40000 = c.base / 0x40000 := by
  have hpage := (counter_checked hc).2.2.1
  have hk4 : k ≤ 4 := by
    unfold Ctr.parts at hk
    split at hk <;> simp at hk <;> omega
  have hbounds : c.base ≤ a ∧ a ≤ (c.shadowArray 4).last := by
    rcases h with h | h <;>
    · have := h.bounds
      simp only [WordArray.last, Ctr.array, Ctr.shadowArray] at this ⊢
      omega
  omega

/-- What the two words of two counters are to each other. -/
theorem shadows_apart {c e : Ctr} {k l : Nat} (hc : c ∈ counters) (hk : k ∈ c.parts) (he : e ∈ counters) (hl : l ∈ e.parts) {a : Nat} (ha : (c.shadowArray k).Has a) :
    ¬(e.array l).Has a ∧ (c.shadow = e.shadow ∨ ¬(e.shadowArray l).Has a) := by
  by_cases hpage : c.base / 0x40000 = e.base / 0x40000
  · have h := pageCounters_apart (counter_checked hc).2.2.2.1 (mem_pageCounters hc) (hpage ▸ mem_pageCounters he)
    simp only [Ctr.shadowsApart, List.all_eq_true] at h
    have h := h k hk l hl
    simp only [Bool.and_eq_true, Bool.or_eq_true, beq_iff_eq] at h
    exact ⟨WordArray.not_has_of_apart h.1 ha, h.2.imp_right fun hap => WordArray.not_has_of_apart hap ha⟩
  · have hother : ¬((e.array l).Has a ∨ (e.shadowArray l).Has a) := fun hb => hpage ((page_of_word hc hk (.inr ha)).symm.trans (page_of_word he hl hb))
    exact ⟨fun hb => hother (.inl hb), .inr fun hb => hother (.inr hb)⟩

theorem has_squelchArray {a : Nat} (h : a ∈ squelchWords) : ∃ r ∈ squelchArrays, r.Has a :=
  ⟨⟨a, 0, 1, 0, 1⟩, List.mem_map.2 ⟨a, h, rfl⟩, 0, 0, .inl rfl, .inl rfl, by simp⟩

theorem findDesc_some {l : List RegDesc} {a : Nat} {d : RegDesc} (h : findDesc l a = some d) : d ∈ l ∧ d.array.Has a := by
  induction l with
  | nil => cases h
  | cons x l ih =>
    unfold findDesc at h
    split at h
    · next hin =>
      obtain rfl := Option.some.inj h
      exact ⟨List.mem_cons_self, WordArray.has_of_inArray hin⟩
    · exact ⟨List.mem_cons_of_mem _ (ih h).1, (ih h).2⟩

theorem plainWord_of_not_special {a : Nat} (h : ∀ r ∈ specialArrays, ¬r.Has a) : PlainWord a := by
  have hrange : ∀ b m, (⟨b, 0, 1, 1, m⟩ : WordArray) ∈ specialArrays → ¬(b ≤ a ∧ a < b + m) :=
    fun b m hr hb => h _ hr ⟨0, a - b, .inl rfl, .inr (by simp only []; omega), by simp only []; omega⟩
  have hword : ∀ b, (⟨b, 0, 1, 0, 1⟩ : WordArray) ∈ specialArrays → a ≠ b :=
    fun b hr hb => h _ hr ⟨0, 0, .inl rfl, .inl rfl, by simp [hb]⟩
  exact ⟨hrange 0x10000 0x2000 (by simp [specialArrays]), hrange 0x1000 0x200 (by simp [specialArrays]), hword 0x40000 (by simp [specialArrays]),
    hword 0x40004 (by simp [specialArrays])⟩

/-- A word with an SC field: its descriptor, and what it is not. -/
theorem snapWord_desc {a : Nat} (h : hasType RegDesc.sc a = true) : ∃ d, findDesc regDescs a = some d ∧ d ∈ snapDescs ∧ d.array.Has a := by
  unfold hasType at h
  cases hd : findDesc regDescs a with
  | none => rw [hd] at h; cases h
  | some d =>
    rw [hd] at h
    obtain ⟨hmem, hhas⟩ := findDesc_some hd
    exact ⟨d, rfl, List.mem_filter.2 ⟨hmem, h⟩, hhas⟩

/-! ### What the copy leaves -/

/-- The counters that the STATS_SNAP at `a` covers, word by word. -/
def snapTriples (a : Nat) : List (Ctr × Nat × Nat) :=
  counters.flatMap fun c => (c.snapped a).flatMap fun i => (List.range c.m).map fun j => (c, i, j)

def State.shadowOf (s : State) (x : Ctr × Nat × Nat) : State := s.shadowCtr x.1 x.2.1 x.2.2

theorem mem_snapTriples {a : Nat} {c : Ctr} {i j : Nat} : (c, i, j) ∈ snapTriples a ↔ c ∈ counters ∧ i ∈ c.snapped a ∧ j < c.m := by
  simp [snapTriples]

theorem lt_of_mem_snapped {c : Ctr} {a i : Nat} (h : i ∈ c.snapped a) : i < c.n := by
  unfold Ctr.snapped at h
  split at h
  · split at h
    · exact List.mem_range.1 h
    · cases h
  · exact List.mem_range.1 (List.mem_filter.1 h).1

theorem foldl_shadows (s : State) (a : Nat) : counters.foldl (fun s c =>
    (c.snapped a).foldl (fun s i => (List.range c.m).foldl (fun s j => s.shadowCtr c i j) s) s) s = (snapTriples a).foldl State.shadowOf s := by
  unfold snapTriples
  simp only [List.foldl_flatMap, List.foldl_map]
  rfl

theorem takeSnapshot_reg (s : State) (a b : Nat) : (s.takeSnapshot a).reg b = ((snapTriples a).foldl State.shadowOf s).reg b := by
  unfold State.takeSnapshot
  rw [foldl_shadows]
  dsimp only
  split
  · rfl
  · rfl

/-- The words of a counter as they are copied. -/
theorem reg_shadowCtr (s : State) (c : Ctr) (i j : Nat) (b : Nat) : (s.shadowCtr c i j).reg b =
    if c.words ≠ 1 ∧ b = c.addr i j + 4 + c.shadow then s.reg (c.addr i j + 4) else if b = c.addr i j + c.shadow then s.reg (c.addr i j) else s.reg b := by
  have hlow : (s.setReg (c.addr i j + c.shadow) (s.reg (c.addr i j))).reg b = if b = c.addr i j + c.shadow then s.reg (c.addr i j) else s.reg b := by
    split
    · next h => rw [h, reg_setReg_self]
    · next h => rw [reg_setReg_ne _ _ h]
  unfold State.shadowCtr
  dsimp only
  split
  · next hw => rw [hlow, if_neg (c := c.words ≠ 1 ∧ b = c.addr i j + 4 + c.shadow) (fun h => h.1 hw)]
  · next hw =>
    by_cases hb : b = c.addr i j + 4 + c.shadow
    · rw [if_pos ⟨hw, hb⟩, hb, reg_setReg_self]
    · rw [if_neg (fun h => hb h.2), reg_setReg_ne _ _ hb, hlow]

/-- One copy writes the shadows of its parts. -/
theorem reg_shadowCtr_ne (s : State) (c : Ctr) (i j : Nat) {b : Nat} (h : ∀ k ∈ c.parts, b ≠ c.addr i j + k + c.shadow) : (s.shadowCtr c i j).reg b = s.reg b := by
  have h0 : b ≠ c.addr i j + c.shadow := by
    have := h 0 (by unfold Ctr.parts; split <;> simp)
    simpa using this
  rw [reg_shadowCtr, if_neg (fun hb => h 4 (by unfold Ctr.parts; rw [if_neg hb.1]; simp) hb.2), if_neg h0]

theorem reg_shadowCtr_self (s : State) (c : Ctr) (i j : Nat) {k : Nat} (hk : k ∈ c.parts) :
    (s.shadowCtr c i j).reg (c.addr i j + k + c.shadow) = s.reg (c.addr i j + k) := by
  unfold Ctr.parts at hk
  rw [reg_shadowCtr]
  split at hk
  · next hw =>
    obtain rfl : k = 0 := by simpa using hk
    rw [if_neg (fun h => h.1 hw)]
    exact if_pos rfl
  · next hw =>
    obtain rfl | rfl : k = 0 ∨ k = 4 := by simpa using hk
    · rw [if_neg (by omega)]
      exact if_pos rfl
    · rw [if_pos ⟨hw, rfl⟩]

theorem foldl_shadow_ne {l : List (Ctr × Nat × Nat)} {b : Nat} (h : ∀ x ∈ l, ∀ k ∈ x.1.parts, b ≠ x.1.addr x.2.1 x.2.2 + k + x.1.shadow) (s : State) :
    (l.foldl State.shadowOf s).reg b = s.reg b := by
  induction l generalizing s with
  | nil => rfl
  | cons x l ih =>
    rw [List.foldl_cons, ih (fun y hy => h y (List.mem_cons_of_mem _ hy))]
    exact reg_shadowCtr_ne s _ _ _ (h x List.mem_cons_self)

/-- A shadow takes the value of its counter's word, whichever counters are copied besides. -/
theorem foldl_shadow_self {l : List (Ctr × Nat × Nat)} {src dst : Nat} {v : Word}
    (hsrc : ∀ x ∈ l, ∀ k ∈ x.1.parts, src ≠ x.1.addr x.2.1 x.2.2 + k + x.1.shadow)
    (hdst : ∀ x ∈ l, ∀ k ∈ x.1.parts, dst = x.1.addr x.2.1 x.2.2 + k + x.1.shadow → src = x.1.addr x.2.1 x.2.2 + k) (s : State) (hv : s.reg src = v)
    (hmem : (∃ x ∈ l, ∃ k ∈ x.1.parts, dst = x.1.addr x.2.1 x.2.2 + k + x.1.shadow) ∨ s.reg dst = v) : (l.foldl State.shadowOf s).reg dst = v := by
  induction l generalizing s with
  | nil =>
    rcases hmem with ⟨x, hx, -⟩ | h
    · cases hx
    · exact h
  | cons x l ih =>
    rw [List.foldl_cons]
    refine ih (fun y hy => hsrc y (List.mem_cons_of_mem _ hy)) (fun y hy => hdst y (List.mem_cons_of_mem _ hy)) _ ?_ ?_
    · exact (reg_shadowCtr_ne s _ _ _ (hsrc x List.mem_cons_self)).trans hv
    · by_cases hx : ∃ k ∈ x.1.parts, dst = x.1.addr x.2.1 x.2.2 + k + x.1.shadow
      · obtain ⟨k, hk, hd⟩ := hx
        right
        rw [hd]
        refine (reg_shadowCtr_self s _ _ _ hk).trans ?_
        rw [← hdst x List.mem_cons_self k hk hd, hv]
      · rcases hmem with ⟨y, hy, hyk⟩ | h
        · rcases List.mem_cons.1 hy with rfl | hy
          · exact absurd hyk hx
          · exact .inl ⟨y, hy, hyk⟩
        · right
          exact (reg_shadowCtr_ne s _ _ _ (fun k hk hd => hx ⟨k, hk, hd⟩)).trans h

/-- After a snapshot the shadow of each word that it covers holds what the word holds. -/
theorem reg_takeSnapshot_shadow (s : State) {a : Nat} {c : Ctr} {i j k : Nat} (hc : c ∈ counters) (hi : i ∈ c.snapped a) (hj : j < c.m) (hk : k ∈ c.parts) :
    (s.takeSnapshot a).reg (c.addr i j + k + c.shadow) = s.reg (c.addr i j + k) := by
  have hin := lt_of_mem_snapped hi
  rw [takeSnapshot_reg]
  refine foldl_shadow_self (src := c.addr i j + k) ?_ ?_ s rfl (.inl ⟨(c, i, j), mem_snapTriples.2 ⟨hc, hi, hj⟩, k, hk, rfl⟩)
  · intro ⟨e, m, n⟩ he l hl heq
    obtain ⟨he, hm, hn⟩ := mem_snapTriples.1 he
    exact (shadows_apart he hl hc hk (heq ▸ e.has_shadowArray l (lt_of_mem_snapped hm) hn)).1 (c.has_array k hin hj)
  · intro ⟨e, m, n⟩ he l hl heq
    obtain ⟨he, hm, hn⟩ := mem_snapTriples.1 he
    rcases (shadows_apart hc hk he hl (c.has_shadowArray k hin hj)).2 with h | h
    · dsimp only at heq ⊢
      omega
    · exact absurd (heq ▸ e.has_shadowArray l (lt_of_mem_snapped hm) hn) h

/-- A snapshot leaves the words that are no counter's shadow. -/
theorem reg_takeSnapshot_ne (s : State) (a : Nat) {b : Nat} {r : WordArray} (hb : r.Has b) (hr : ∀ c ∈ counters, ∀ k ∈ c.parts, r.apart (c.shadowArray k) = true) :
    (s.takeSnapshot a).reg b = s.reg b := by
  rw [takeSnapshot_reg]
  refine foldl_shadow_ne ?_ s
  intro ⟨e, m, n⟩ he l hl heq
  obtain ⟨he, hm, hn⟩ := mem_snapTriples.1 he
  exact WordArray.not_has_of_apart (hr e he l hl) hb (heq ▸ e.has_shadowArray l (lt_of_mem_snapped hm) hn)

theorem clockStopped_congr {s t : State} (hregs : ∀ b, t.reg b = s.reg b) (hsys : t.sys = s.sys) (a : Nat) : t.clockStopped a = s.clockStopped a := by
  have hget : ∀ f i j, t.get f i j = s.get f i j := fun f i j => by
    unfold State.get
    rw [hregs]
  have hmode : t.poweredMode = s.poweredMode := by
    unfold State.poweredMode
    simp only [hsys, hget]
  simp only [State.clockStopped, State.laneGiven, State.flag, hget, hmode, hsys]

/-- A write of 1 to a STATS_SNAP word starts its snapshot. -/
theorem directWrite_snap (s : State) {a : Nat} (h : hasType RegDesc.sc a = true) : s.directWrite a 1 = (s.setReg a (s.reg a)).startSnap a := by
  obtain ⟨d, hd, hmem, hhas⟩ := snapWord_desc h
  obtain ⟨hsc, hrw, hw1c, htx⟩ := (snapDesc_checked hmem).1
  obtain ⟨-, hspecial, hsquelch, -⟩ := snapDesc_checked hmem
  obtain ⟨hwin, hmsix, hthresh, hpop⟩ := plainWord_of_not_special fun r hr => WordArray.not_has_of_apart (hspecial r hr) hhas
  have hclip : a ≠ 0x150014 := by
    rintro rfl
    obtain ⟨r, hr, hra⟩ := has_squelchArray (a := 0x150014) (by decide)
    exact WordArray.not_has_of_apart (hsquelch r hr) hhas hra
  have hbits : BitVec.ofNat 32 (writeBits d (s.reg a).toNat (1 : Word).toNat 0) = s.reg a := by
    have hlt := (s.reg a).isLt
    have hand : (s.reg a).toNat &&& 0xFFFFFFFF = (s.reg a).toNat := by
      rw [show (0xFFFFFFFF : Nat) = 2 ^ 32 - 1 from rfl, Nat.and_two_pow_sub_one_eq_mod, Nat.mod_eq_of_lt hlt]
    refine BitVec.eq_of_toNat_eq ?_
    simp [writeBits, hrw, hw1c, hand]
  simp only [State.directWrite, hd, htx, hpop, hthresh, hclip, hsc, if_true, if_false, false_and]
  rw [if_neg (by simpa using hwin), if_neg (by simpa using hmsix), if_pos (by decide)]
  exact congrArg (fun v => (s.setReg a v).startSnap a) hbits

theorem pending_takeSnapshot (s : State) (a : Nat) : (s.takeSnapshot a).pending = s.pending := by
  have hfold : ((snapTriples a).foldl State.shadowOf s).pending = s.pending := foldl_keeps State.pending (fun u x => by
    unfold State.shadowOf State.shadowCtr
    dsimp only
    split <;> rfl) _ s
  unfold State.takeSnapshot
  rw [foldl_shadows]
  dsimp only
  split
  · exact hfold
  · exact hfold

/-- Settles O12. -/
theorem snapshotCopiesCounters : Obligations.SnapshotCopiesCounters := by
  unfold Obligations.SnapshotCopiesCounters
  refine ⟨?_, ?_⟩
  · intro via a s h
    obtain ⟨d, -, hmem, hhas⟩ := snapWord_desc h
    obtain ⟨-, -, hsquelch, hshadow⟩ := snapDesc_checked hmem
    have hsame : ∀ b, (s.setReg a (s.reg a)).reg b = s.reg b := fun b => by
      by_cases hb : b = a
      · rw [hb, reg_setReg_self]
      · rw [reg_setReg_ne _ _ hb]
    have hstart : ∀ b, ((s.setReg a (s.reg a)).startSnap a).reg b =
        if b = a ∧ s.clockStopped a = false then 1 else ((s.setReg a (s.reg a)).takeSnapshot a).reg b := fun b => by
      unfold State.startSnap
      dsimp only
      rw [clockStopped_congr hsame rfl]
      split
      · next hc => rw [if_neg (c := b = a ∧ s.clockStopped a = false) (fun hb => by rw [hb.2] at hc; cases hc)]
      · next hc =>
        by_cases hb : b = a
        · rw [if_pos ⟨hb, by simpa using hc⟩, hb, reg_setReg_self]
        · rw [if_neg (fun h => hb h.1), reg_setReg_ne _ _ hb]
    have hsq : a ∉ squelchWords := fun hsq => by
      obtain ⟨r, hr, hra⟩ := has_squelchArray hsq
      exact WordArray.not_has_of_apart (hsquelch r hr) hhas hra
    obtain ⟨t, ht, hregs⟩ := done_keeps_regs s ((s.directWrite a 1).mdioAccess via a 1)
    have hreg : ∀ b, b ∉ squelchWords → t.reg b = ((s.setReg a (s.reg a)).startSnap a).reg b := fun b hb => by
      rw [hregs.of_nil hb, mdioAccess_reg, directWrite_snap s h]
    have hcopy : ∀ c ∈ counters, ∀ i ∈ c.snapped a, ∀ j, j < c.m → ∀ k ∈ c.parts, t.reg (c.addr i j + k + c.shadow) = s.reg (c.addr i j + k) :=
      fun c hc i hi j hj k hk => by
        have hplace := c.has_shadowArray k (lt_of_mem_snapped hi) hj
        have hnsq : c.addr i j + k + c.shadow ∉ squelchWords := fun hsq => by
          obtain ⟨r, hr, hra⟩ := has_squelchArray hsq
          exact WordArray.not_has_of_apart ((counter_checked hc).2.2.2.2 k hk r hr) hplace hra
        rw [hreg _ hnsq, hstart, if_neg (c := c.addr i j + k + c.shadow = a ∧ s.clockStopped a = false) (fun hb => WordArray.not_has_of_apart (hshadow c hc k hk) hhas (hb.1 ▸ hplace)),
          reg_takeSnapshot_shadow _ hc hi hj hk, hsame]
    refine ⟨t, ?_, ?_, fun c hc i hi j hj => ⟨hcopy c hc i hi j hj 0 ?_, fun hw => hcopy c hc i hi j hj 4 ?_⟩⟩
    · show execStatsSnap via a 1 s = _
      unfold execStatsSnap
      rw [if_pos h, ht]
    · rw [hreg a hsq, hstart, reg_takeSnapshot_ne _ a hhas hshadow, hsame]
      cases s.clockStopped a <;> simp
    · unfold Ctr.parts
      split <;> simp
    · unfold Ctr.parts
      rw [if_neg hw]
      simp
  · intro a s h hsq
    obtain ⟨t, ht, hregs⟩ := done_keeps_regs s (s.setReg a 0)
    refine ⟨t, ?_, ?_, fun b hb hbsq => ?_⟩
    · show execSnapDone a s = _
      unfold execSnapDone
      rw [if_pos h, ht]
    · rw [hregs.of_nil hsq, reg_setReg_self]
    · rw [hregs.of_nil hbsq, reg_setReg_ne _ _ (by simpa using hb)]

/-! ### The log and the interrupt controller at the end of a command -/

/-- Records have been added to the transmit block's queue alone. -/
def TxLogged (l l' : LogState) : Prop := ∃ q, l' = { l with queues := q } ∧ ∀ k, k ≠ wbTx → tget [] q k = tget [] l.queues k

theorem TxLogged.refl (l : LogState) : TxLogged l l := ⟨l.queues, rfl, fun _ _ => rfl⟩

@[simp] theorem logs_bump (s : State) (c : Ctr) (i j n : Nat) : (s.bump c i j n).logs = s.logs := by
  obtain ⟨g, f, h⟩ := regsIfs_bump s c i j n
  rw [h]

theorem txLogged_log (s : State) (type : Nat) (d : List Byte) : TxLogged s.logs (s.log wbTx type d).logs := by
  unfold State.log
  dsimp only
  split
  · exact ⟨_, rfl, fun k hk => tget_tput_ne _ _ _ _ hk⟩
  · rw [set_logs, logs_bump]
    exact .refl _

theorem txLogged_refreshSquelch (s : State) : TxLogged s.logs s.refreshSquelch.logs := by
  have hshown : s.reasonShown.logs = s.logs := ite_keeps State.logs rfl rfl
  have hgate : ∀ u : State, u.gateShown.logs = u.logs := fun u => ite_keeps State.logs rfl rfl
  rw [refreshSquelch_eq]
  split
  · exact .refl _
  · rw [hgate, ← hshown]
    unfold State.squelchedFor
    split
    · exact .refl _
    · have hcut : s.reasonShown.cutBurst.logs = s.reasonShown.logs := rfl
      have h := txLogged_log ((((s.reasonShown.cutBurst.set Reg.TXS_STATUS_SQUELCHED 1).set Reg.TXS_EVENTS_SQUELCH 1).bump Cnt.SQUELCH_EVENTS)) 0x25
        [BitVec.ofNat 8 s.squelchReasons]
      rw [logs_bump, set_logs, set_logs, hcut] at h
      exact h

/-- A field of LOG_EVENTS beside LOST stays while the squelch follows. -/
theorem get_refreshSquelch_logEvent (s : State) (f : Field) (ha : f.addr 0 0 = 0x40014) (hbits : f.lo + f.width ≤ 2 ∨ 3 ≤ f.lo) :
    s.refreshSquelch.get f = s.get f := by
  have hset : ∀ (u : State) (g : Field) (v : Nat), g.lo + g.width ≤ 32 → g.addr 0 0 ≠ 0x40014 → (u.set g v).get f = u.get f :=
    fun u g v hg hne => get_set_ne _ _ _ _ _ _ _ _ hg (.inl (by rw [ha]; exact fun h => hne h.symm))
  have hctr : ∀ (u : State) (c : Ctr), 0x40014 ∉ c.wordsOf 0 0 → (u.bump c).get f = u.get f := fun u c hc => by
    unfold State.get
    rw [ha, reg_bump_ne _ _ _ _ _ hc]
  have hlog : ∀ (u : State) (type : Nat) (d : List Byte), (u.log wbTx type d).get f = u.get f := fun u type d => by
    unfold State.log
    dsimp only
    split
    · rfl
    · rw [get_set_ne _ Reg.LOG_EVENTS_LOST f _ _ _ _ _ (by decide) (.inr hbits.symm), hctr _ _ (by decide)]
  have hcut : ∀ u : State, u.cutBurst.get f = u.get f := fun _ => rfl
  have hshown : s.reasonShown.get f = s.get f := ite_keeps (State.get · f) rfl (hset _ _ _ (by decide) (by decide))
  have hsquelch : ∀ (u : State) (r : Nat), (u.squelchedFor r).get f = u.get f := fun u r => ite_keeps (State.get · f) rfl
    ((((hlog _ _ _).trans (hctr _ _ (by decide))).trans (hset _ _ _ (by decide) (by decide))).trans (hset _ _ _ (by decide) (by decide)))
  have hgate : ∀ u : State, u.gateShown.get f = u.get f := fun u => ite_keeps (State.get · f) rfl (hset _ _ _ (by decide) (by decide))
  rw [refreshSquelch_eq]
  split
  · rfl
  · rw [hgate, hsquelch, hshown]

theorem functionMask_msixDue (s : State) (v : Nat) : (s.msixDue v).msix.functionMask = s.msix.functionMask := by
  unfold State.msixDue
  split
  · rfl
  · split
    · rfl
    · rfl

theorem functionMask_settle (old new : State) : (settle old new).msix.functionMask = new.msix.functionMask := by
  unfold settle
  have hflush : ∀ (u : State) (v : Nat), (u.flushOne v).msix.functionMask = u.msix.functionMask :=
    fun u v => ite_keeps (fun u : State => u.msix.functionMask) rfl rfl
  rw [msixFlush_eq, foldl_keeps (fun u : State => u.msix.functionMask) hflush,
    foldl_keeps (fun u : State => u.msix.functionMask) functionMask_msixDue]

/-- The end of a command, with the log and what masks messages. -/
theorem done_logs (s u : State) (hp : u.pending = s.pending) : ∃ t, done s u = .next t ∧ RegsKept [] u t ∧ Shared u t = u ∧ TxLogged u.logs t.logs ∧
    t.msix.functionMask = u.msix.functionMask ∧
    ∀ f : Field, f.addr 0 0 = 0x40014 → f.lo + f.width ≤ 2 ∨ 3 ≤ f.lo → t.get f = u.get f := by
  obtain ⟨t, ht, hregs, hrest⟩ := done_shared s u hp
  obtain ⟨m, hm⟩ := settle_eq u u.refreshSquelch
  obtain ⟨m', hm'⟩ := settle_eq s u.refreshSquelch
  obtain rfl : { settle s u.refreshSquelch with pending := s.pending } = t := by
    injection ht
  have hlogs : (settle s u.refreshSquelch).logs = u.refreshSquelch.logs := by rw [hm']
  have hregs' : (settle s u.refreshSquelch).regs = u.refreshSquelch.regs := by rw [hm']
  have hmask : u.refreshSquelch.msix = u.msix := by
    obtain ⟨r, l, b, h⟩ := regsLogs_refreshSquelch u
    rw [h]
  refine ⟨_, rfl, hregs, hrest, ?_, ?_, fun f ha hbits => ?_⟩
  · show TxLogged u.logs (settle s u.refreshSquelch).logs
    rw [hlogs]
    exact txLogged_refreshSquelch u
  · show (settle s u.refreshSquelch).msix.functionMask = _
    rw [functionMask_settle, hmask]
  · rw [← get_refreshSquelch_logEvent u f ha hbits]
    show bitsOf (tget _ (settle s u.refreshSquelch).regs _).toNat _ _ = _
    rw [hregs']
    rfl

/-! ### Interrupt masks (R795, R796) -/

theorem groupMasked_low (s : State) {g : Nat} (hg : g < 26) : s.groupMasked g = (s.reg 0x208).getLsbD g := by
  have hreg : tget 0 s.regs 0x208 = s.reg 0x208 := by
    unfold State.reg
    congr 1
  unfold State.groupMasked
  rw [if_pos (show g < 32 by omega), hreg, Nat.mod_eq_of_lt (show g < 32 by omega), Bool.eq_iff_iff, beq_iff_eq, bitsOf_one_eq_one, BitVec.testBit_toNat]

theorem findDesc_of_any {a : Nat} {p : RegDesc → Bool} (h : (findDesc regDescs a).any p = true) : ∃ d, findDesc regDescs a = some d ∧ p d = true := by
  cases hd : findDesc regDescs a with
  | none => rw [hd] at h; cases h
  | some d =>
    rw [hd] at h
    exact ⟨d, rfl, h⟩

theorem intMask_desc : ∀ a ∈ [0x208, 0x20C], ∃ d, findDesc regDescs a = some d ∧ d.rw = 0xFFFFFFFF ∧ d.w1c = 0 ∧ d.sc = 0 ∧ d.tx = 0 := by
  have h := plainDescs_checked.2.1
  intro a ha
  obtain ⟨d, hd, hbits⟩ := findDesc_of_any (h a ha)
  simp only [Bool.and_eq_true, beq_iff_eq] at hbits
  obtain ⟨⟨⟨hrw, hw1c⟩, hsc⟩, htx⟩ := hbits
  exact ⟨d, hd, hrw, hw1c, hsc, htx⟩

/-- A write of an INT_MASK word leaves the written bits there. -/
theorem intMask_written (s : State) (via : Iface) {a : Nat} (ha : a ∈ [0x208, 0x20C]) (v : Word) : ∃ t, done s ((s.directWrite a v).mdioAccess via a v) = .next t ∧
    NoStaleMessage t ∧ (∀ k, k < 32 → (t.reg a).getLsbD k = v.getLsbD k) ∧ RegsKept [a] s t := by
  obtain ⟨d, hd, hrw, hw1c, hsc, htx⟩ := intMask_desc a ha
  have hplain : PlainWord a ∧ a ∉ squelchWords := by
    simp only [List.mem_cons, List.not_mem_nil, or_false] at ha
    rcases ha with rfl | rfl <;> exact ⟨by unfold PlainWord; omega, by decide⟩
  obtain ⟨hplain, hsq⟩ := hplain
  obtain ⟨t, ht, hregs⟩ := done_keeps_regs s ((s.directWrite a v).mdioAccess via a v)
  refine ⟨t, ht, (settled_of_done ht).2, fun k hk => ?_, fun b hb hbsq => ?_⟩
  · have hall : (0xFFFFFFFF : Nat).testBit k = true := by
      rw [show (0xFFFFFFFF : Nat) = 2 ^ 32 - 1 from rfl, Nat.testBit_two_pow_sub_one]
      exact decide_eq_true hk
    rw [hregs.of_nil hsq, mdioAccess_reg, reg_directWrite_self s v 0 hplain hd hsc]
    exact (written_writeBits d v (s.reg a) k hk).1 (by rw [hrw, hall]) (by rw [hw1c, Nat.zero_testBit])
  · rw [hregs.of_nil hbsq, mdioAccess_reg, reg_directWrite_ne s v 0 hplain hd hsc (by simpa using hb) (.inl htx)]

/-- Settles O13. -/
theorem interruptMasksTakeTheWrittenBits : Obligations.InterruptMasksTakeTheWrittenBits := by
  unfold Obligations.InterruptMasksTakeTheWrittenBits
  refine ⟨?_, ?_, ?_, ?_⟩
  · intro via v s
    obtain ⟨t, ht, hstale, hbits, hregs⟩ := intMask_written s via (a := 0x208) (by simp) v
    exact ⟨t, ht, hstale, fun g hg => (groupMasked_low t hg).trans (hbits g (by omega)), hregs⟩
  · intro via v s
    obtain ⟨t, ht, hstale, -, hregs⟩ := intMask_written s via (a := 0x20C) (by simp) v
    refine ⟨t, ht, hstale, fun g hg => ?_, hregs⟩
    rw [groupMasked_low t hg, groupMasked_low s hg, hregs 0x208 (by decide) (by decide)]
  · intro v s
    have hsq : 0x100C + 16 * v.val ∉ squelchWords := by
      intro h
      simp only [squelchWords, List.mem_cons, List.not_mem_nil, or_false] at h
      omega
    obtain ⟨t, ht, hregs⟩ := done_keeps_regs s (s.setReg (0x100C + 16 * v.val) 0)
    refine ⟨t, ht, (settled_of_done ht).2, ?_, fun b hb hbsq => ?_⟩
    · rw [hregs.of_nil hsq, reg_setReg_self]
      rfl
    · rw [hregs.of_nil hbsq, reg_setReg_ne _ _ (by simpa using hb)]
  · intro s
    obtain ⟨t, ht, hregs, -, -, hmask, -⟩ := done_logs s { s with msix := { s.msix with functionMask := false } } rfl
    exact ⟨t, ht, (settled_of_done ht).2, hmask, hregs⟩

theorem count_set_ne (s : State) (f : Field) (v i j : Nat) (c : Ctr) (k l : Nat) (h : f.addr i j ∉ c.wordsOf k l) :
    (s.set f v i j).count c k l = s.count c k l := count_setReg_ne s _ c k l h

/-! ### The drain log (R696–R701) -/

/-- A write of LOG_POP is a pop. -/
theorem directWrite_logPop (s : State) (v : Word) : s.directWrite 0x40004 v = s.logPop v := by
  obtain ⟨d, hd, htx⟩ : ∃ d, findDesc regDescs 0x40004 = some d ∧ d.tx = 0 := by
    obtain ⟨d, hd, htx⟩ := findDesc_of_any (a := 0x40004) (p := fun d => d.tx == 0) plainDescs_checked.2.2
    exact ⟨d, hd, by simpa using htx⟩
  simp [State.directWrite, hd, htx]

/-- The end of a LOG_POP. -/
theorem exec_logPop (via : Iface) (v : Word) (s : State) (hp : (s.logPop v).pending = s.pending) : ∃ t, exec (.logPop via v) s = .next t ∧
    RegsKept [] (s.logPop v) t ∧ TxLogged (s.logPop v).logs t.logs ∧
    ∀ f : Field, f.addr 0 0 = 0x40014 → f.lo + f.width ≤ 2 ∨ 3 ≤ f.lo → t.get f = (s.logPop v).get f := by
  obtain ⟨g, i, hm⟩ := regsIfs_mdioAccess (s.logPop v) via 0x40004 v
  obtain ⟨t, ht, hregs, -, hlogs, -, hev⟩ := done_logs s ((s.logPop v).mdioAccess via 0x40004 v) (by rw [hm]; exact hp)
  have hget : ∀ f, ((s.logPop v).mdioAccess via 0x40004 v).get f = (s.logPop v).get f := fun f => by
    unfold State.get
    rw [mdioAccess_reg]
  refine ⟨t, ?_, fun b hb hsq => (hregs b hb hsq).trans (mdioAccess_reg _ _ _ _ _), ?_, fun f ha hbits => (hev f ha hbits).trans (hget f)⟩
  · show done s ((s.directWrite 0x40004 v).mdioAccess via 0x40004 v) = _
    rw [directWrite_logPop, ht]
  · rw [hm] at hlogs
    exact hlogs

theorem TxLogged.held {l l' : LogState} (h : TxLogged l l') : l'.held = l.held := by
  obtain ⟨q, rfl, -⟩ := h
  rfl

@[simp] theorem pending_bump (s : State) (c : Ctr) (i j n : Nat) : (s.bump c i j n).pending = s.pending := (regsIfs_bump s c i j n).pending

theorem bitsOf_sixteenth (v : Word) : bitsOf v.toNat 16 1 = 1 ↔ v.getLsbD 16 = true := by
  rw [bitsOf_one_eq_one, BitVec.testBit_toNat]

theorem bitsOf_zero (x w : Nat) : bitsOf x 0 w = x % 2 ^ w := by
  unfold bitsOf
  rw [pow_zero, Nat.div_one]

/-- Settles O14. -/
theorem drainLogIsPoppedOldestFirst : Obligations.DrainLogIsPoppedOldestFirst := by
  unfold Obligations.DrainLogIsPoppedOldestFirst
  refine ⟨?_, ?_, ?_⟩
  · intro via v seq r rest s hheld hcheck
    have hno : ¬((bitsOf v.toNat 16 1 = 1 && bitsOf v.toNat 0 16 ≠ seq) = true) := by
      simp only [Bool.and_eq_true, decide_eq_true_eq, bitsOf_sixteenth, bitsOf_zero]
      rintro ⟨hbit, hne⟩
      rcases hcheck with h | h
      · rw [h] at hbit; cases hbit
      · exact hne h
    have hpop : ∃ b, s.logPop v = { s with logs := { s.logs with held := rest, armed := b } } := by
      unfold State.logPop
      rw [hheld]
      dsimp only
      rw [if_neg hno]
      split
      · exact ⟨_, rfl⟩
      · exact ⟨_, rfl⟩
    obtain ⟨b, hb⟩ := hpop
    obtain ⟨t, ht, hregs, hlogs, -⟩ := exec_logPop via v s (by rw [hb])
    rw [hb] at hregs hlogs
    exact ⟨t, ht, hlogs.held, hregs⟩
  · intro via v seq r rest s hheld hbit hne
    have hyes : (bitsOf v.toNat 16 1 = 1 && bitsOf v.toNat 0 16 ≠ seq) = true := by
      simp only [Bool.and_eq_true, decide_eq_true_eq, bitsOf_sixteenth, bitsOf_zero]
      exact ⟨hbit, hne⟩
    have hpop : s.logPop v = s.bump Cnt.POP_MISMATCHES := by
      unfold State.logPop
      rw [hheld]
      dsimp only
      rw [if_pos hyes]
    obtain ⟨t, ht, hregs, hlogs, -⟩ := exec_logPop via v s (by rw [hpop, pending_bump])
    rw [hpop] at hregs hlogs
    refine ⟨t, ht, ?_, ?_⟩
    · rw [hlogs.held, logs_bump]
    · rw [hregs.count _ 0 0 (by decide), count_bump_one _ _ _ _ _ rfl]
  · intro via v s hheld
    have hpop : s.logPop v = (s.set Reg.LOG_EVENTS_UNDERRUN 1).bump Cnt.UNDERRUNS := by
      unfold State.logPop
      rw [hheld]
    obtain ⟨t, ht, hregs, hlogs, hev⟩ := exec_logPop via v s (by rw [hpop, pending_bump]; rfl)
    rw [hpop] at hregs hlogs hev
    refine ⟨t, ht, ?_, ?_, ?_⟩
    · rw [hlogs.held, logs_bump, set_logs, hheld]
    · rw [flag_eq, hev _ (by decide) (by decide), get_bump_ne _ _ _ _ _ _ _ _ (by decide), get_set_self _ _ _ _ _ (by decide)]
      rfl
    · rw [hregs.count _ 0 0 (by decide), count_bump_one _ _ _ _ _ rfl, count_set_ne _ _ _ _ _ _ _ _ (by decide)]

/-- A log whose writer is to write a record of block 0, with RECORDS_WRITTEN at 2^32 - 1: it is a traffic counter of 64 bits (R702). -/
def recordsAtLimit : State :=
  { clock := 10000, logs := { queues := [(0, [⟨0x25, 26, [3], 0⟩])] }, regs := [(Cnt.RECORDS_WRITTEN.addr 0 0, 0xFFFFFFFF)] }

/-- The record written from `recordsAtLimit` carries into the counter's upper word. -/
theorem recordsWritten_carries : (match exec (.logRecordWrite 0) recordsAtLimit with
    | .next t => t.count Cnt.RECORDS_WRITTEN
    | _ => 0) = 2 ^ 32 := by decide +kernel

/-- Refutes O15: RECORDS_WRITTEN has 64 bits and wraps (R16), it does not hold at 2^32 - 1. -/
theorem not_logWriterKeepsOrderAndNumbers : ¬ Obligations.LogWriterKeepsOrderAndNumbers := by
  unfold Obligations.LogWriterKeepsOrderAndNumbers
  rintro ⟨hwrite, -⟩
  obtain ⟨t, ht, -, -, -, -, hcount⟩ := hwrite 0 ⟨0x25, 26, [3], 0⟩ [] recordsAtLimit rfl (by decide)
  have hbefore : recordsAtLimit.count Cnt.RECORDS_WRITTEN = 0xFFFFFFFF := by decide
  have hafter := recordsWritten_carries
  rw [ht] at hafter
  simp only [hcount, hbefore] at hafter
  omega

/-! ### Mailbox windows and rings (R657–R661) -/

/-- Settles O16. -/
theorem mailboxWindowTakesWordsWhileIdle : Obligations.MailboxWindowTakesWordsWhileIdle := by
  unfold Obligations.MailboxWindowTakesWordsWhileIdle
  have hexec : ∀ (via : Iface) (mb : Fin 8) (off : Nat) (v : Word) (s : State), off < 0x3F8 → (s.windowWrite mb.val off v).pending = s.pending →
      ∃ t, exec (.mailboxWindowWrite via mb off v) s = .next t ∧ t.mbs = (s.windowWrite mb.val off v).mbs ∧ RegsKept [] (s.windowWrite mb.val off v) t := by
    intro via mb off v s hoff hp
    obtain ⟨g, i, hm⟩ := regsIfs_mdioAccess (s.windowWrite mb.val off v) via (0x10000 + 0x400 * mb.val + off) v
    obtain ⟨t, ht, hregs, hrest⟩ := done_shared s ((s.windowWrite mb.val off v).mdioAccess via (0x10000 + 0x400 * mb.val + off) v) (by rw [hm]; exact hp)
    refine ⟨t, ?_, ?_, fun b hb hsq => (hregs b hb hsq).trans (mdioAccess_reg _ _ _ _ _)⟩
    · show execMailboxWindowWrite via mb off v s = _
      unfold execMailboxWindowWrite
      rw [if_pos hoff, ht]
    · have hmbs : t.mbs = ((s.windowWrite mb.val off v).mdioAccess via (0x10000 + 0x400 * mb.val + off) v).mbs := (congrArg State.mbs hrest :)
      rw [hmbs, hm]
  refine ⟨?_, ?_⟩
  · intro via mb off v s hoff halign hidle
    have hbad : ¬((decide (off % 4 ≠ 0) || decide (0x3F8 ≤ off)) = true) := by simp [halign, hoff]
    have hwrite : s.windowWrite mb.val off v = s.setMbox mb.val ((s.mbox mb.val).setWord (off / 4) v) := by
      unfold State.windowWrite
      dsimp only
      rw [if_neg (by simp [hidle]), if_neg hbad]
    obtain ⟨t, ht, hmbs, hregs⟩ := hexec via mb off v s hoff (by rw [hwrite, setMbox_pending])
    rw [hwrite] at hmbs hregs
    have hself : t.mbox mb.val = (s.mbox mb.val).setWord (off / 4) v := (mbox_congr hmbs _).trans (mbox_setMbox_self _ _ _)
    refine ⟨t, ht, ?_, fun k hk => ?_, fun k hk => (mbox_congr hmbs k).trans (mbox_setMbox_ne _ _ hk),
      fun b hb hsq => (hregs b hb hsq).trans (setMbox_reg _ _ _ _)⟩
    · rw [hself, word_setWord_self]
    · rw [hself, word_setWord_ne _ _ hk]
  · intro via mb off v s hoff hbusy
    have hwrite : s.windowWrite mb.val off v = s.bump Cnt.MB_WRITES_IGNORED := by
      unfold State.windowWrite
      exact if_pos hbusy
    obtain ⟨t, ht, hmbs, hregs⟩ := hexec via mb off v s hoff (by rw [hwrite, pending_bump])
    rw [hwrite] at hmbs hregs
    refine ⟨t, ht, fun k => mbox_congr (hmbs.trans ?_) k, ?_⟩
    · obtain ⟨g, i, h⟩ := regsIfs_bump s Cnt.MB_WRITES_IGNORED 0 0 1
      rw [h]
    · rw [hregs.count _ 0 0 (by decide), count_bump_one _ _ _ _ _ rfl]

theorem putData_phase (m : Mailbox) (ph : MbPhase) (k : Nat) (d : List Byte) : putData { m with phase := ph } k d = { putData m k d with phase := ph } := by
  induction m, k, d using putData.induct with
  | case1 m k => rfl
  | case2 m k a => rfl
  | case3 m k a b => rfl
  | case4 m k a b c => rfl
  | case5 m k a b c d rest ih => exact ih

/-- The phase in which an answer finds its mailbox does not show afterwards. -/
theorem answered_phase (m : Mailbox) (ph : MbPhase) (r : Reply) : ({ m with phase := ph } : Mailbox).answered r = m.answered r := by
  unfold Mailbox.answered
  dsimp only
  rw [putData_phase]
  rfl

/-- Whether a command is served now does not depend on a mailbox's phase and owner. -/
theorem serves_setMbox (s : State) (mb : Nat) (m : Mailbox) (h : m.words = (s.mbox mb).words) (k : Nat) : (s.setMbox mb m).serves k = s.serves k := by
  have hop : ((s.setMbox mb m).mbox 0).opcode = (s.mbox 0).opcode := by
    by_cases h0 : 0 = mb
    · subst h0
      rw [mbox_setMbox_self]
      unfold Mailbox.opcode Mailbox.word
      rw [h]
    · rw [mbox_setMbox_ne _ _ h0]
  unfold State.serves
  rw [hop]
  rfl

/-- The end of a ring. -/
theorem exec_mailboxRing (via : Iface) (mb : Fin 8) (s : State) (hp : (s.ring via mb.val).pending = s.pending) : ∃ t, exec (.mailboxRing via mb) s = .next t ∧
    t.mbs = (s.ring via mb.val).mbs ∧ RegsKept [] (s.ring via mb.val) t := by
  obtain ⟨g, i, hm⟩ := regsIfs_mdioAccess (s.ring via mb.val) via (0x103F8 + 0x400 * mb.val) 1
  obtain ⟨t, ht, hregs, hrest⟩ := done_shared s ((s.ring via mb.val).mdioAccess via (0x103F8 + 0x400 * mb.val) 1) (by rw [hm]; exact hp)
  refine ⟨t, ht, ?_, fun b hb hsq => (hregs b hb hsq).trans (mdioAccess_reg _ _ _ _ _)⟩
  have hmbs : t.mbs = ((s.ring via mb.val).mdioAccess via (0x103F8 + 0x400 * mb.val) 1).mbs := (congrArg State.mbs hrest :)
  rw [hmbs, hm]

/-- The state in which an idle mailbox has been rung. -/
def State.rung (s : State) (via : Iface) (mb : Nat) : State := s.setMbox mb { s.mbox mb with phase := .waiting, owner := via }

/-- The state in which Omrek has taken the command of a rung mailbox. -/
def State.ringTaken (s : State) (via : Iface) (mb : Nat) : State :=
  (s.rung via mb).setMbox mb { s.mbox mb with phase := .taken, owner := via, txn := { (s.mbox mb).txn with lastCmd := s.clock } }

theorem ring_idle (s : State) (via : Iface) {mb : Nat} (h : (s.mbox mb).phase = .idle) :
    s.ring via mb = if s.serves mb then (s.rung via mb).takeRing mb else s.rung via mb := by
  unfold State.ring
  dsimp only
  rw [if_neg (by simp [h])]
  have hserves : (s.rung via mb).serves mb = s.serves mb := serves_setMbox s mb { s.mbox mb with phase := .waiting, owner := via } rfl mb
  rw [← hserves]
  rfl

theorem takeRing_rung (s : State) (via : Iface) (mb : Nat) :
    (s.rung via mb).takeRing mb = match (s.mbox mb).refusal with | some r => (s.ringTaken via mb).answer mb r | none => s.ringTaken via mb := by
  have hmb : (s.rung via mb).mbox mb = { s.mbox mb with phase := .waiting, owner := via } := mbox_setMbox_self _ _ _
  unfold State.takeRing
  dsimp only
  rw [hmb]
  rfl

/-- Settles O36. -/
theorem ringIsTakenCheckedAndServed : Obligations.RingIsTakenCheckedAndServed := by
  unfold Obligations.RingIsTakenCheckedAndServed
  have hothers : ∀ (s : State) (via : Iface) (mb k : Nat), k ≠ mb → (s.ringTaken via mb).mbox k = s.mbox k :=
    fun s via mb k hk => (mbox_setMbox_ne _ _ hk).trans (mbox_setMbox_ne _ _ hk)
  refine ⟨?_, ?_, ?_, ?_⟩
  · intro via mb s hidle hserves hrefusal
    have hring : s.ring via mb.val = s.ringTaken via mb.val := by rw [ring_idle s via hidle, if_pos hserves, takeRing_rung, hrefusal]
    obtain ⟨t, ht, hmbs, hregs⟩ := exec_mailboxRing via mb s (by rw [hring]; rfl)
    rw [hring] at hmbs hregs
    exact ⟨t, ht, (mbox_congr hmbs _).trans (mbox_setMbox_self _ _ _), fun k hk => (mbox_congr hmbs k).trans (hothers s via _ k hk), hregs⟩
  · intro via mb r s hidle hserves hrefusal
    have hring : s.ring via mb.val = (s.ringTaken via mb.val).answer mb.val r := by rw [ring_idle s via hidle, if_pos hserves, takeRing_rung, hrefusal]
    obtain ⟨t, ht, hmbs, hregs⟩ := exec_mailboxRing via mb s (by obtain ⟨g, m, h⟩ := answer_eq (s.ringTaken via mb.val) mb.val r; rw [hring, h]; rfl)
    rw [hring] at hmbs hregs
    refine ⟨t, ht, ?_, fun k hk => ?_, fun b hb hsq => ?_⟩
    · have hself : (s.ringTaken via mb.val).mbox mb.val = { s.mbox mb.val with phase := .taken, owner := via, txn := { (s.mbox mb.val).txn with lastCmd := s.clock } } :=
        mbox_setMbox_self _ _ _
      rw [mbox_congr hmbs, answer_mbox, hself]
      exact answered_phase { s.mbox mb.val with owner := via, txn := { (s.mbox mb.val).txn with lastCmd := s.clock } } .taken r
    · rw [mbox_congr hmbs, answer_mbox_ne _ _ hk, hothers s via _ k hk]
    · rw [hregs.of_nil hsq, answer_reg _ _ _ (by simpa using hb)]
      rfl
  · intro via mb s hidle hserves
    have hring : s.ring via mb.val = s.rung via mb.val := by rw [ring_idle s via hidle, if_neg (by rw [hserves]; decide)]
    obtain ⟨t, ht, hmbs, hregs⟩ := exec_mailboxRing via mb s (by rw [hring]; rfl)
    rw [hring] at hmbs hregs
    exact ⟨t, ht, (mbox_congr hmbs _).trans (mbox_setMbox_self _ _ _), fun k hk => (mbox_congr hmbs k).trans (mbox_setMbox_ne _ _ hk), hregs⟩
  · intro via mb s hbusy
    have hring : s.ring via mb.val = s.bump Cnt.MB_WRITES_IGNORED := by
      unfold State.ring
      exact if_pos hbusy
    obtain ⟨t, ht, hmbs, hregs⟩ := exec_mailboxRing via mb s (by rw [hring, pending_bump])
    rw [hring] at hmbs hregs
    refine ⟨t, ht, hmbs.trans ?_, ?_, fun b hb hsq => ?_⟩
    · obtain ⟨g, i, h⟩ := regsIfs_bump s Cnt.MB_WRITES_IGNORED 0 0 1
      rw [h]
    · rw [hregs.count _ 0 0 (by decide), count_bump_one _ _ _ _ _ rfl]
    · exact (hregs.of_nil hsq).trans (reg_bump_ne _ _ _ _ _ (by simpa [Ctr.wordsOf, Cnt.MB_WRITES_IGNORED, Ctr.addr] using hb))

end Sys2Proof.Machine
end

section
/-! SUPPORT. The issue of an engine instruction (R515, R523–R526): what it may change beside its task. -/

namespace Sys2Proof.Machine

/-! ### What an issue may change beside its task -/

/-- From `s` to `t` words were read or written through their codes and events were counted: register words stay but for those of the memory-integrity
chapter, the performance counters, a squelch's and the list; the rest stays but for the log, memory, samplers and the gate of the last burst, and, where
`banks` says so, the packet banks' busy times. Without TEST_STATUS in the list no word was written. -/
structure IssueKept (banks : Bool) (but : List Nat) (s t : State) : Prop where
  regs : ∀ a, ¬issueWord a → a ∉ squelchWords → a ∉ but → t.reg a = s.reg a
  rest : ∃ r l m p b k, t = { s with
    regs := r, logs := l, mem := m, perf := p, self := { s.self with sent := b }, pk := { s.pk with bankBusy := k } } ∧ (banks = false → k = s.pk.bankBusy) ∧
    (0x50010 ∉ but → m.words = s.mem.words)

namespace IssueKept

variable {banks : Bool} {but : List Nat} {s t u : State}

theorem refl (s : State) : IssueKept banks but s s := ⟨fun _ _ _ _ => rfl, s.regs, s.logs, s.mem, s.perf, s.self.sent, s.pk.bankBusy, rfl, fun _ => rfl, fun _ => rfl⟩

theorem trans (h : IssueKept banks but s t) (k : IssueKept banks but t u) : IssueKept banks but s u := by
  refine ⟨fun a h1 h2 h3 => (k.regs a h1 h2 h3).trans (h.regs a h1 h2 h3), ?_⟩
  obtain ⟨r, l, m, p, b, x, rfl, hx, hm⟩ := h.rest
  obtain ⟨r', l', m', p', b', x', rfl, hx', hm'⟩ := k.rest
  exact ⟨r', l', m', p', b', x', rfl, fun hb => (hx' hb).trans (hx hb), fun hb => (hm' hb).trans (hm hb)⟩

theorem weaken (h : IssueKept false [] s t) : IssueKept banks but s t := by
  refine ⟨fun a h1 h2 _ => h.regs a h1 h2 List.not_mem_nil, ?_⟩
  obtain ⟨r, l, m, p, b, x, ht, hx, hm⟩ := h.rest
  exact ⟨r, l, m, p, b, x, ht, fun _ => hx rfl, fun _ => hm List.not_mem_nil⟩

theorem foldl {α : Type} {g : State → α → State} {l : List α} (hg : ∀ s, ∀ x ∈ l, IssueKept banks but s (g s x)) (s : State) :
    IssueKept banks but s (l.foldl g s) := by
  induction l generalizing s with
  | nil => exact refl s
  | cons x l ih => exact (hg s x List.mem_cons_self).trans (ih (fun s y hy => hg s y (List.mem_cons_of_mem _ hy)) _)

theorem ite {c : Prop} [Decidable c] (ht : IssueKept banks but s t) (hu : IssueKept banks but s u) : IssueKept banks but s (if c then t else u) := by
  split
  · exact ht
  · exact hu

theorem eng (h : IssueKept banks but s t) : t.eng = s.eng := by
  obtain ⟨r, l, m, p, b, x, rfl, -, -⟩ := h.rest
  rfl

theorem clock (h : IssueKept banks but s t) : t.clock = s.clock := by
  obtain ⟨r, l, m, p, b, x, rfl, -, -⟩ := h.rest
  rfl

theorem pkts (h : IssueKept banks but s t) : t.pk.pkts = s.pk.pkts := by
  obtain ⟨r, l, m, p, b, x, rfl, -, -⟩ := h.rest
  rfl

theorem pending (h : IssueKept banks but s t) : t.pending = s.pending := by
  obtain ⟨r, l, m, p, b, x, rfl, -, -⟩ := h.rest
  rfl

theorem words (h : IssueKept banks but s t) (hb : 0x50010 ∉ but) : t.mem.words = s.mem.words := by
  obtain ⟨r, l, m, p, b, x, rfl, -, hm⟩ := h.rest
  exact hm hb

/-- A word that reads clean does so after reads of other words. -/
theorem clean (h : IssueKept banks but s t) (hb : 0x50010 ∉ but) {mem inst word : Nat} (hc : Clean mem inst word s) : Clean mem inst word t := by
  unfold Clean State.wordBits State.wordFlag at *
  rw [h.words hb]
  exact hc

theorem latNow (h : IssueKept banks but s t) (lat : Nat) : t.latNow lat = s.latNow lat := by
  unfold State.latNow State.cycle
  rw [h.eng, h.clock]

theorem pkt (h : IssueKept banks but s t) (id : Nat) : t.pkt id = s.pkt id := by
  unfold State.pkt
  rw [h.pkts]

end IssueKept

/-- Only register words, the log and the gate of the last burst change, and of the words none that an issue leaves. -/
theorem issueKept_of_regsLogs {but : List Nat} {s t : State} (hregs : ∀ a, ¬issueWord a → a ∉ squelchWords → a ∉ but → t.reg a = s.reg a) (h : RegsLogs s t) :
    IssueKept false but s t := by
  obtain ⟨r, l, b, rfl⟩ := h
  exact ⟨hregs, r, l, s.mem, s.perf, b, s.pk.bankBusy, rfl, fun _ => rfl, fun _ => rfl⟩

theorem issueKept_set (but : List Nat) (s : State) (f : Field) (v i j : Nat) (h : issueWord (f.addr i j) ∨ f.addr i j ∈ but) : IssueKept false but s (s.set f v i j) := by
  refine issueKept_of_regsLogs (fun a ha _ hb => reg_set_ne _ _ _ _ _ ?_) (regsLogs_set _ _ _ _ _)
  rintro rfl
  exact h.elim ha hb

theorem issueKept_bump (but : List Nat) (s : State) (c : Ctr) (i j n : Nat) (h : ∀ a ∈ c.wordsOf i j, issueWord a ∨ a ∈ but) : IssueKept false but s (s.bump c i j n) :=
  issueKept_of_regsLogs (fun a ha _ hb => reg_bump_ne _ _ _ _ _ fun hm => (h a hm).elim ha hb) (regsLogs_bump _ _ _ _ _)

theorem issueKept_log (s : State) (wb type : Nat) (d : List Byte) : IssueKept false [] s (s.log wb type d) := by
  refine issueKept_of_regsLogs (fun a _ hsq _ => log_reg_ne s wb type d ?_ ?_) (regsLogs_log s wb type d)
  · rintro rfl; exact hsq (by decide)
  · rintro rfl; exact hsq (by decide)

theorem issueKept_mem (s : State) (m : MemState) (h : m.words = s.mem.words) : IssueKept false [] s { s with mem := m } :=
  ⟨fun _ _ _ _ => rfl, s.regs, s.logs, m, s.perf, s.self.sent, s.pk.bankBusy, rfl, fun _ => rfl, fun _ => h⟩

theorem issueKept_perf (s : State) (p : PerfState) : IssueKept false [] s { s with perf := p } :=
  ⟨fun _ _ _ _ => rfl, s.regs, s.logs, s.mem, p, s.self.sent, s.pk.bankBusy, rfl, fun _ => rfl, fun _ => rfl⟩

/-- Writing memory through its code may fire a flip, which shows in TEST_STATUS too (R564). -/
theorem issueKept_memWrite (s : State) (mem inst word : Nat) (poison : Bool) : IssueKept false [0x50010] s (s.memWrite mem inst word poison) := by
  have hflip : ∀ a ∈ flipWords, issueWord a ∨ a = 0x50010 := by unfold issueWord; decide
  obtain ⟨hregs, r, l, m, b, h⟩ := memWritten_memWrite s mem inst word poison
  refine ⟨fun a ha hsq hb => hregs a (fun hf => (hflip a hf).elim ha fun h => hb (by rw [h]; exact List.mem_singleton_self _)) hsq, r, l, m, s.perf, b, s.pk.bankBusy, h, fun _ => rfl, fun hb => absurd (List.mem_singleton_self _) hb⟩

/-! ### Performance counters -/

theorem issueKept_perfBump (s : State) (c : Ctr) (i j n : Nat) (h : 0x600000 ≤ c.addr i j ∧ c.addr i j + 4 < 0x610000) : IssueKept false [] s (s.perfBump c i j n) := by
  have hword : ∀ (u : State) (a : Nat) (v : Word), 0x600000 ≤ a → a < 0x610000 → IssueKept false [] u (u.setReg a v) := fun u a v hlo hhi =>
    issueKept_of_regsLogs (fun b hb _ _ => reg_setReg_ne _ _ (fun h => hb (.inr (by omega)))) (regsLogs_setReg _ _ _)
  unfold State.perfBump
  dsimp only
  refine .ite ?_ ?_
  · refine ((hword _ _ _ h.1 (by omega)).trans (hword _ _ _ (by omega) h.2)).trans (issueKept_set _ _ _ _ _ _ (.inl (.inr ?_)))
    decide
  · exact (hword _ _ _ h.1 (by omega)).trans (hword _ _ _ (by omega) h.2)

theorem issueKept_perfDev (s : State) (ev n : Nat) : IssueKept false [] s (s.perfDev ev n) := by
  unfold State.perfDev
  refine .ite (.refl s) (.foldl (fun u i hi => .ite (issueKept_perfBump _ _ _ _ _ ?_) (.refl u)) s)
  have hi := List.mem_range.1 hi
  simp only [Ctr.addr, Cnt.DC]
  omega

theorem issueKept_perfLat (s : State) {lat : Nat} (hlat : lat < 32) (ev n : Nat) : IssueKept false [] s (s.perfLat lat ev n) := by
  unfold State.perfLat
  refine .ite (.refl s) (.foldl (fun u j hj => .ite (issueKept_perfBump _ _ _ _ _ ?_) (.refl u)) s)
  have hj := List.mem_range.1 hj
  simp only [Ctr.addr, Cnt.LC]
  omega

theorem issueKept_bankAccess (s : State) (b k : Nat) : IssueKept true [] s (s.bankAccess b k) := by
  have hbank : ∀ x, IssueKept true [] s { s with pk := { s.pk with bankBusy := x } } := fun x =>
    ⟨fun _ _ _ _ => rfl, s.regs, s.logs, s.mem, s.perf, s.self.sent, x, rfl, (fun h => by cases h), fun _ => rfl⟩
  unfold State.bankAccess
  dsimp only
  exact ((hbank _).trans (issueKept_perfDev _ _ _).weaken).trans (issueKept_perfDev _ _ _).weaken

/-! ### Samplers -/

theorem issueKept_setSampler (s : State) (lat : Nat) (x : Sampler) : IssueKept false [] s (s.setSampler lat x) := issueKept_perf s _

theorem issueKept_stamp (s : State) (e t : Nat) (f : SampTag → SampTag) : IssueKept false [] s (s.stamp e t f) := by
  unfold State.stamp
  dsimp only
  split
  · exact .ite (issueKept_setSampler _ _ _) (.refl s)
  · exact .refl s

theorem issueKept_sampleCount (s : State) (lat : Nat) : IssueKept false [] s (s.sampleCount lat) := by
  have hinterval : ∀ u : State, IssueKept false [] u (u.newInterval lat) := fun u => issueKept_setSampler _ _ _
  unfold State.sampleCount
  dsimp only
  refine .ite (.refl s) (.trans ?_ (issueKept_setSampler _ _ _))
  exact .ite (hinterval s) (.refl s)

/-! ### Protected memory -/

/-- A counter of the memory-integrity chapter. -/
theorem issueKept_memBump (s : State) {c : Ctr} (hc : c ∈ [Cnt.CE_COUNT, Cnt.UE_COUNT, Cnt.POISON_READS]) {mem : Nat} (hmem : mem < 14) (j n : Nat) :
    IssueKept false [] s (s.bump c mem j n) := by
  refine issueKept_bump _ _ _ _ _ _ fun a ha => .inl (.inl ?_)
  simp only [List.mem_cons, List.not_mem_nil, or_false] at hc
  rcases hc with rfl | rfl | rfl <;>
  · simp only [Ctr.wordsOf, Ctr.addr, Cnt.CE_COUNT, Cnt.UE_COUNT, Cnt.POISON_READS, if_true, List.mem_singleton] at ha
    omega

theorem issueKept_latchErr (s : State) {mem : Nat} (hmem : mem < 14) (inst word kind : Nat) : IssueKept false [] s (s.latchErr mem inst word kind) := by
  have hset : ∀ (u : State) (f : Field) (v : Nat), f ∈ [Reg.LAST_ERR_WORD, Reg.LAST_ERR_INSTANCE, Reg.LAST_KIND_KIND] → IssueKept false [] u (u.set f v mem) := by
    intro u f v hf
    refine issueKept_set _ _ _ _ _ _ (.inl (.inl ?_))
    simp only [List.mem_cons, List.not_mem_nil, or_false] at hf
    rcases hf with rfl | rfl | rfl <;>
    · simp only [Field.addr, Reg.LAST_ERR_WORD, Reg.LAST_ERR_INSTANCE, Reg.LAST_KIND_KIND]
      omega
  have hevent : ∀ (u : State) (f : Field), issueWord (f.addr 0 0) → IssueKept false [] u (u.set f 1) := fun u f hf => issueKept_set _ _ _ _ _ _ (.inl hf)
  unfold State.latchErr
  dsimp only
  have hlatch := ((hset s Reg.LAST_ERR_WORD word (by simp)).trans (hset _ Reg.LAST_ERR_INSTANCE inst (by simp))).trans (hset _ Reg.LAST_KIND_KIND kind (by simp))
  exact .ite (hlatch.trans (hevent _ _ (.inl (by decide)))) (hlatch.trans (hevent _ _ (.inl (by decide))))

theorem issueKept_uncorrectable (s : State) {mem : Nat} (hmem : mem < 14) (inst word consumer : Nat) : IssueKept false [] s (s.uncorrectable mem inst word consumer) := by
  unfold State.uncorrectable
  exact ((issueKept_memBump s (by simp) hmem _ _).trans (issueKept_latchErr _ hmem _ _ _)).trans (issueKept_log _ _ _ _)

theorem issueKept_corrected (s : State) {mem : Nat} (hmem : mem < 14) (inst word : Nat) : IssueKept false [] s (s.corrected mem inst word) := by
  have hlatch := (issueKept_memBump s (c := Cnt.CE_COUNT) (by simp) hmem 0 1).trans (issueKept_latchErr _ hmem inst word 1)
  have hfirst : ∀ m : MemState, m.words = s.mem.words → IssueKept false [] s { (s.bump Cnt.CE_COUNT mem).latchErr mem inst word 1 with mem := m } := fun m hm =>
    hlatch.trans (issueKept_mem _ _ (hm.trans (hlatch.words List.not_mem_nil).symm))
  unfold State.corrected
  extract_lets now recent s1 due
  refine .ite (((hfirst _ ?_).trans (issueKept_mem _ _ ?_)).trans (issueKept_log _ _ _ _)) (hfirst _ ?_)
  · rfl
  · rfl
  · rfl

/-- A read of a protected word. -/
theorem issueKept_memRead (s : State) {mem : Nat} (hmem : mem < 14) (inst word consumer : Nat) : IssueKept false [] s (s.memRead mem inst word consumer).2 := by
  have hfix : IssueKept false [] s (if s.wordBits mem inst word = 1 then s.corrected mem inst word else s) := .ite (issueKept_corrected s hmem _ _) (.refl s)
  unfold State.memRead
  dsimp only
  split
  · exact issueKept_uncorrectable s hmem _ _ _
  · split
    · exact hfix.trans (issueKept_memBump _ (c := Cnt.POISON_READS) (by simp) hmem _ _)
    · exact hfix

/-- A word that reads without a mark. -/
theorem memRead_clean {s : State} {mem inst word : Nat} (h : Clean mem inst word s) (consumer : Nat) : (s.memRead mem inst word consumer).1 = false := by
  obtain ⟨hbits, hflag⟩ := h
  unfold State.memRead
  rw [if_neg (by omega)]
  simp [hflag]

/-! ### An issue that goes on -/

/-- The engine has issued in the present cycle of its lateral. -/
def State.engineUsed (s : State) (e : Nat) : State :=
  { s with eng := { s.eng with lastIssue := tput 0 s.eng.lastIssue e (s.latNow (e / 16) + 1) } }

/-- The task counts the instruction against its budget. -/
def Task.counted (k : Task) : Task := { k with issued := k.issued + 1 }

/-- The end of an issue: the state `u` in which the thread's task stands, up to what an issue may change. -/
theorem issue_eq {e : Fin 512} {t : Fin 8} {k : Task} {w : Nat} {s : State} (h : CanIssue e t k w s) {mine : Nat → Bool} (hmine : mine w = true)
    (f : Nat → Task → State → State × Ran) : ∃ s2, IssueKept false [] (s.engineUsed e.val) s2 ∧
      issue e t s mine f = done s (((f w k.counted s2).1.settleTask e.val t.val k.counted (insOp w) (k.readyAt w) (f w k.counted s2).2).sampleCount (e.val / 16)) := by
  obtain ⟨htask, hword, hwait, hfetch, hready, hused, hbudget, hclean⟩ := h
  have hlat : e.val / 16 < 32 := by have := e.isLt; omega
  have hread := issueKept_memRead s (show 2 < 14 by decide) e.val k.pc 2
  have hused' : IssueKept false [] (s.engineUsed e.val) { (s.memRead 2 e.val k.pc 2).2 with
      eng := { (s.memRead 2 e.val k.pc 2).2.eng with lastIssue := tput 0 (s.memRead 2 e.val k.pc 2).2.eng.lastIssue e.val (s.latNow (e.val / 16) + 1) } } := by
    obtain ⟨hregs, r, l, m, p, b, x, ht, hx, hm⟩ := hread
    rw [ht] at hregs ⊢
    exact ⟨hregs, r, l, m, p, b, x, rfl, hx, hm⟩
  refine ⟨_, hused'.trans (issueKept_perfLat _ hlat 2 1), ?_⟩
  have hgo : ¬((k.waiting || s.latNow (e.val / 16) < k.fetchAt || s.latNow (e.val / 16) < k.readyAt w ||
      tget 0 s.eng.lastIssue e.val = s.latNow (e.val / 16) + 1 || !mine w) = true) := by
    simp [hwait, hmine, hused, Nat.not_lt.2 hfetch, Nat.not_lt.2 hready]
  unfold issue
  simp only [htask, hword]
  rw [if_neg hgo, if_neg (Nat.not_le.2 hbudget), if_neg (by rw [memRead_clean hclean]; decide)]
  rfl

theorem task_putTask_self (s : State) (e t : Nat) (k : Option Task) : (s.putTask e t k).task e t = k := tget_tput_self _ _ _ _

theorem eq_of_shared {u t : State} (h : Shared u t = u) :
    t = { u with regs := t.regs, logs := t.logs, msix := t.msix, self := { u.self with sent := t.self.sent } } :=
  congrArg (fun z : State => { z with regs := t.regs, logs := t.logs, msix := t.msix, self := { z.self with sent := t.self.sent } }) h

/-- Another state of the engines changes nothing of what was kept. -/
theorem IssueKept.withEng {banks : Bool} {but : List Nat} {s t : State} (h : IssueKept banks but s t) (x : EngState) :
    IssueKept banks but { s with eng := x } { t with eng := x } := by
  obtain ⟨hregs, r, l, m, p, b, k, rfl, hk, hm⟩ := h
  exact ⟨hregs, r, l, m, p, b, k, rfl, hk, hm⟩

theorem IssueKept.putTask {banks : Bool} {but : List Nat} {s t : State} (h : IssueKept banks but s t) (e th : Nat) (k : Option Task) :
    IssueKept banks but (s.putTask e th k) (t.putTask e th k) := by
  have := h.withEng (s.putTask e th k).eng
  unfold State.putTask at *
  rw [h.eng]
  exact this

/-- What an issue has left stays through the shared end of its command. -/
theorem done_of_kept {banks : Bool} {but : List Nat} {s0 s v : State} (h : IssueKept banks but s v) (hp : s.pending = s0.pending) :
    ∃ x, done s0 v = .next x ∧ x.eng = s.eng ∧ (∀ a, ¬issueWord a → a ∉ squelchWords → a ∉ but → x.reg a = s.reg a) ∧
      if banks then { Shared s { x with pk := { x.pk with bankBusy := s.pk.bankBusy } } with mem := s.mem, perf := s.perf } = s
        else { Shared s x with mem := s.mem, perf := s.perf } = s := by
  obtain ⟨x, hdone, hkept, hrest⟩ := done_shared s0 v (h.pending.trans hp)
  refine ⟨x, hdone, (congrArg State.eng hrest :).trans h.eng, fun a h1 h2 h3 => (hkept.of_nil h2).trans (h.regs a h1 h2 h3), ?_⟩
  have hx := eq_of_shared hrest
  obtain ⟨r, l, m, p, b, k, rfl, hk, -⟩ := h.rest
  generalize x.regs = g at hx
  generalize x.logs = n at hx
  generalize x.msix = ms at hx
  generalize x.self.sent = z at hx
  subst hx
  cases banks with
  | true => rfl
  | false =>
    obtain rfl := hk rfl
    rfl

/-- The state in which a thread's task stands after its issue; `s` is a state in which the task stands where it stood, and `u` what an issue has left of it. -/
theorem issued_of_kept {banks : Bool} {but : List Nat} {e : Fin 512} {t : Fin 8} {k : Task} {s0 s u : State} (hu : IssueKept banks but (s.engineUsed e.val) u)
    (hp : s.pending = s0.pending) :
    ∃ x, done s0 ((u.putTask e.val t.val (some k)).sampleCount (e.val / 16)) = .next x ∧
      if banks then IssuedBut but e t k s { x with pk := { x.pk with bankBusy := s.pk.bankBusy } } else IssuedBut but e t k s x := by
  have hkept := (hu.putTask e.val t.val (some k)).trans (issueKept_sampleCount (u.putTask e.val t.val (some k)) (e.val / 16)).weaken
  obtain ⟨x, hdone, heng, hregs, hrest⟩ := done_of_kept (s0 := s0) hkept hp
  refine ⟨x, hdone, ?_⟩
  have htasks : x.eng.tasks = tput none s.eng.tasks (8 * e.val + t.val) (some k) := (congrArg EngState.tasks heng :)
  have hlast : x.eng.lastIssue = tput 0 s.eng.lastIssue e.val (s.latNow (e.val / 16) + 1) := (congrArg EngState.lastIssue heng :)
  have htask : tget none x.eng.tasks (8 * e.val + t.val) = some k := by
    rw [htasks]
    exact tget_tput_self _ _ _ _
  have hone : (∀ n, n ≠ 8 * e.val + t.val → tget none x.eng.tasks n = tget none s.eng.tasks n) ∧ tget 0 x.eng.lastIssue e.val = s.latNow (e.val / 16) + 1 := by
    rw [htasks, hlast]
    exact ⟨fun n hn => tget_tput_ne _ _ _ _ hn, tget_tput_self _ _ _ _⟩
  have hothers : { x.eng with tasks := s.eng.tasks, lastIssue := s.eng.lastIssue } = s.eng := by
    rw [heng]
    rfl
  cases banks with
  | true => exact ⟨htask, hone, hregs, hothers, congrArg (fun z : State => { z with eng := s.eng }) hrest⟩
  | false => exact ⟨htask, hone, hregs, hothers, congrArg (fun z : State => { z with eng := s.eng }) hrest⟩

/-- A task that goes on inside the code. -/
theorem settle_go {banks : Bool} {but : List Nat} {s u : State} (h : IssueKept banks but s u) {e : Nat} (t : Nat) (k k1 : Task) {pc : Nat} (op ready lat : Nat)
    (hpc : pc < imgLen (s.latImage (e / 16))) :
    ∃ v, u.settleTask e t k op ready (.go k1 pc lat) = v.putTask e t (some { k1 with pc := pc, fetchAt := s.latNow (e / 16) + 1 }) ∧ IssueKept banks but s v := by
  have hstamp := h.trans (issueKept_stamp u e t _).weaken (u := u.stampIssue e t ready (some lat) (decide (0x30 ≤ op ∧ op ≤ 0x33 ∧ lat = 24)))
  have himage : (u.stampIssue e t ready (some lat) (decide (0x30 ≤ op ∧ op ≤ 0x33 ∧ lat = 24))).latImage (e / 16) = s.latImage (e / 16) := by
    unfold State.latImage State.latGenOf
    rw [hstamp.eng]
  have hrange : ¬((pc : Int) < 0 ∨ Int.ofNat (imgLen (s.latImage (e / 16))) ≤ (pc : Int)) := by
    simp only [Int.ofNat_eq_natCast]
    omega
  refine ⟨_, ?_, hstamp⟩
  unfold State.settleTask
  dsimp only
  rw [himage, if_neg hrange, h.latNow, Int.toNat_natCast]

/-- An instruction that goes on at `pc`: the thread's task is what the instruction makes of it. -/
theorem issue_go_from {banks : Bool} {but : List Nat} {e : Fin 512} {t : Fin 8} {k : Task} {w : Nat} {s s' : State} (h : CanIssue e t k w s) {mine : Nat → Bool}
    (hmine : mine w = true) (f : Nat → Task → State → State × Ran) {pc : Nat} {P : Task → Prop} (hp : s'.pending = s.pending)
    (hpc : pc < imgLen (s'.latImage (e.val / 16))) (hnow : s'.latNow (e.val / 16) = s.latNow (e.val / 16))
    (hf : ∀ s2, IssueKept false [] (s.engineUsed e.val) s2 → ∃ s3 k1 lat, f w k.counted s2 = (s3, .go k1 pc lat) ∧ P k1 ∧ IssueKept banks but (s'.engineUsed e.val) s3) :
    ∃ x k1, issue e t s mine f = .next x ∧ P k1 ∧
      (if banks then IssuedBut but e t { k1 with pc := pc, fetchAt := s.latNow (e.val / 16) + 1 } s' { x with pk := { x.pk with bankBusy := s'.pk.bankBusy } }
        else IssuedBut but e t { k1 with pc := pc, fetchAt := s.latNow (e.val / 16) + 1 } s' x) := by
  obtain ⟨s2, hs2, hissue⟩ := issue_eq h hmine f
  obtain ⟨s3, k1, lat, hrun, hP, hs3⟩ := hf s2 hs2
  obtain ⟨v, hv, hkept⟩ := settle_go hs3 t.val k.counted k1 (insOp w) (k.readyAt w) lat (show pc < imgLen ((s'.engineUsed e.val).latImage (e.val / 16)) from hpc)
  rw [hissue, hrun, hv, show (s'.engineUsed e.val).latNow (e.val / 16) = s.latNow (e.val / 16) from hnow]
  obtain ⟨x, hx, hout⟩ := issued_of_kept (t := t) (k := { k1 with pc := pc, fetchAt := s.latNow (e.val / 16) + 1 }) hkept hp
  exact ⟨x, k1, hx, hP, hout⟩

/-- An instruction that goes on at `pc` and leaves the engines' own state. -/
theorem issue_go {banks : Bool} {but : List Nat} {e : Fin 512} {t : Fin 8} {k : Task} {w : Nat} {s : State} (h : CanIssue e t k w s) {mine : Nat → Bool}
    (hmine : mine w = true) (f : Nat → Task → State → State × Ran) {pc : Nat} {P : Task → Prop}
    (hpc : pc < imgLen (s.latImage (e.val / 16)))
    (hf : ∀ s2, IssueKept false [] (s.engineUsed e.val) s2 → ∃ s3 k1 lat, f w k.counted s2 = (s3, .go k1 pc lat) ∧ P k1 ∧ IssueKept banks but s2 s3) :
    ∃ x k1, issue e t s mine f = .next x ∧ P k1 ∧
      (if banks then IssuedBut but e t { k1 with pc := pc, fetchAt := s.latNow (e.val / 16) + 1 } s { x with pk := { x.pk with bankBusy := s.pk.bankBusy } }
        else IssuedBut but e t { k1 with pc := pc, fetchAt := s.latNow (e.val / 16) + 1 } s x) := by
  refine issue_go_from h hmine f rfl hpc rfl fun s2 hs2 => ?_
  obtain ⟨s3, k1, lat, hrun, hP, hs3⟩ := hf s2 hs2
  exact ⟨s3, k1, lat, hrun, hP, hs2.weaken.trans hs3⟩

/-- An instruction that only computes: a task that it makes of the task, and nothing else. -/
theorem issue_pure {e : Fin 512} {t : Fin 8} {k k1 : Task} {w : Nat} {s : State} (h : CanIssue e t k w s) {mine : Nat → Bool} (hmine : mine w = true)
    (f : Nat → Task → State → State × Ran) {pc : Nat} (hpc : pc < imgLen (s.latImage (e.val / 16)))
    (hf : ∀ s2 : State, (∀ lat, s2.latNow lat = s.latNow lat) → ∃ lat, f w k.counted s2 = (s2, .go k1 pc lat)) :
    ∃ x, issue e t s mine f = .next x ∧ Issued e t { k1 with pc := pc, fetchAt := s.latNow (e.val / 16) + 1 } s x := by
  obtain ⟨x, k2, hx, rfl, hout⟩ := issue_go (banks := false) (but := []) (P := fun k2 => k2 = k1) h hmine f hpc fun s2 hs2 => by
    obtain ⟨lat, hrun⟩ := hf s2 hs2.latNow
    exact ⟨s2, k1, lat, hrun, rfl, .refl s2⟩
  exact ⟨x, hx, hout⟩

/-- A register result of the counted task is that of the task, counted. -/
theorem after_put (k : Task) (r : Nat) (v : DWord) (n kind pc c : Nat) :
    ({ k.counted.put r v n kind with pc := pc, fetchAt := c + 1 } : Task) = after (k.put r v n kind) pc c := by
  unfold Task.put after
  split
  · rfl
  · rfl

/-- A register operation. -/
theorem issue_result {e : Fin 512} {t : Fin 8} {k : Task} {w : Nat} {s : State} (h : CanIssue e t k w s) {mine : Nat → Bool} (hmine : mine w = true)
    (g : Nat → Task → State → DWord) {v : DWord} (lat : Nat) (hpc : k.pc + 1 < imgLen (s.latImage (e.val / 16))) (hg : ∀ s2, g w k.counted s2 = v) :
    ∃ u, issue e t s mine (fun w k s => (s, k.result s w (g w k s) lat)) = .next u ∧
      Issued e t (after (k.put (insX w) v (k.now s + lat)) (k.pc + 1) (s.latNow (e.val / 16))) s u := by
  obtain ⟨x, hx, hout⟩ := issue_pure (k1 := k.counted.put (insX w) v (k.now s + lat)) h hmine (fun w k s => (s, k.result s w (g w k s) lat)) hpc fun s2 hs2 => by
    have hnow : k.counted.now s2 = k.now s := hs2 k.home
    exact ⟨lat, by rw [Task.result, hg, hnow]; rfl⟩
  rw [after_put] at hout
  exact ⟨x, hx, hout⟩

/-! ### Arithmetic and logic (R525) -/

theorem signExtend_imm (i : Nat) : BitVec.ofInt 64 (sint 16 i) = BitVec.signExtend 64 (BitVec.ofNat 16 i) := rfl

/-- Each register operation is an issue of its opcode whose result is the operation's. -/
theorem exec_computes {c : Fin 512 → Fin 8 → Instr} {op lat : Nat} {f : DWord → DWord → Nat → DWord} (h : Computes c op lat f) (e : Fin 512) (t : Fin 8) (s : State) :
    exec (c e t) s = issue e t s (opIs op) (fun w k s => (s, k.result s w (f (k.a w) (k.b w) (insImm w)) lat)) := by
  have hslt : ∀ a b : DWord, (if a.slt b then (1 : DWord) else 0) = if a.toInt < b.toInt then 1 else 0 := fun a b => by
    simp [BitVec.slt]
  have hult : ∀ a b : DWord, (if a.ult b then (1 : DWord) else 0) = if a.toNat < b.toNat then 1 else 0 := fun a b => by
    simp [BitVec.ult]
  have hmul : ∀ a b : DWord, a * b = BitVec.ofNat 64 (a.toNat * b.toNat) := fun a b => by
    refine BitVec.eq_of_toNat_eq ?_
    rw [BitVec.toNat_mul, BitVec.toNat_ofNat]
  have hlui : ∀ x : DWord, x <<< 16 = x * 65536 := fun x => by
    rw [BitVec.shiftLeft_eq_mul_twoPow]
    rfl
  cases h
  all_goals dsimp only [exec]
  case slt => unfold execISlt aluR; simp only [hslt]
  case sltu => unfold execISltu aluR; simp only [hult]
  case mul => unfold execIMul aluR; simp only [hmul]
  case lui => unfold execILui aluI; simp only [hlui]; rfl
  all_goals rfl

/-- Settles O24. -/
theorem engineArithmeticWritesRd : Obligations.EngineArithmeticWritesRd := by
  unfold Obligations.EngineArithmeticWritesRd
  intro c op lat f hc e t k w s hcan hop hpc
  rw [exec_computes hc]
  exact issue_result hcan (by simp [opIs, hop]) (fun w k _ => f (k.a w) (k.b w) (insImm w)) lat hpc fun _ => rfl

/-! ### Branches and jumps (R525) -/

/-- Each branch is the shared one with its own test. -/
theorem exec_branches {c : Fin 512 → Fin 8 → Instr} {op : Nat} {P : DWord → DWord → Prop} (h : Branches c op P) :
    ∃ g, (∀ a b, g a b = true ↔ P a b) ∧ ∀ e t s, exec (c e t) s = branch op g e t s := by
  have hslt : ∀ a b : DWord, a.slt b = true ↔ a.toInt < b.toInt := fun a b => by simp [BitVec.slt]
  have hult : ∀ a b : DWord, a.ult b = true ↔ a.toNat < b.toNat := fun a b => by simp [BitVec.ult]
  have hsge : ∀ a b : DWord, (!a.slt b) = true ↔ b.toInt ≤ a.toInt := fun a b => by simp [BitVec.slt]
  have huge : ∀ a b : DWord, (!a.ult b) = true ↔ b.toNat ≤ a.toNat := fun a b => by simp [BitVec.ult]
  cases h
  case beq => exact ⟨_, fun a b => beq_iff_eq, fun _ _ _ => rfl⟩
  case bne => exact ⟨_, fun a b => bne_iff_ne, fun _ _ _ => rfl⟩
  case blt => exact ⟨_, hslt, fun _ _ _ => rfl⟩
  case bltu => exact ⟨_, hult, fun _ _ _ => rfl⟩
  case bge => exact ⟨_, hsge, fun _ _ _ => rfl⟩
  case bgeu => exact ⟨_, huge, fun _ _ _ => rfl⟩

theorem opIs_of_eq {w op : Nat} (h : insOp w = op) : opIs op w = true := by simp [opIs, h]

/-- Settles O25. -/
theorem engineBranchesAndJumps : Obligations.EngineBranchesAndJumps := by
  unfold Obligations.EngineBranchesAndJumps
  refine ⟨?_, ?_, ?_⟩
  · intro c op P hc e t k w pc s hcan hop hpc htarget
    obtain ⟨g, hg, hexec⟩ := exec_branches hc
    rw [hexec]
    refine issue_pure (k1 := k.counted) hcan (opIs_of_eq hop) _ hpc fun s2 _ => ⟨1, ?_⟩
    have hto : Int.ofNat k.pc + 1 + (if g (k.reg (insX w)) (k.reg (insY w)) then insSimm w else 0) = (pc : Int) := by
      rcases htarget with ⟨hp, hpc⟩ | ⟨hp, rfl⟩
      · rw [if_pos ((hg _ _).2 hp), hpc]
        rfl
      · rw [if_neg (fun h => hp ((hg _ _).1 h))]
        simp
    exact congrArg (fun x => (s2, Ran.go k.counted x 1)) hto
  · intro e t k w pc s hcan hop hpc htarget
    show ∃ u, execIJal e t s = .next u ∧ _
    obtain ⟨u, hu, hout⟩ := issue_pure (k1 := k.counted.put (insX w) (BitVec.ofNat 64 (k.pc + 1)) (k.now s + 1)) hcan (opIs_of_eq hop)
      (fun w k s => (s, .go (k.put (insX w) (BitVec.ofNat 64 (k.pc + 1)) (k.now s + 1)) (Int.ofNat k.pc + 1 + insSimm w) 1)) hpc fun s2 hs2 => by
        have hnow : k.counted.now s2 = k.now s := hs2 k.home
        exact ⟨1, by rw [hnow, htarget]; rfl⟩
    rw [after_put] at hout
    exact ⟨u, hu, hout⟩
  · intro e t k w s hcan hop hpc
    exact issue_pure (k1 := k.counted) hcan (opIs_of_eq hop) (fun w k s => (s, .go k (Int.ofNat (k.a w).toNat) 1)) hpc fun s2 _ => ⟨1, rfl⟩

/-! ### Data memory (R516, R525, R526, R551) -/

/-- The word that a data memory access goes to reads clean in the state of the issue. -/
theorem clean_at_issue {s s2 : State} {e : Nat} (h : IssueKept false [] (s.engineUsed e) s2) {mem inst word : Nat} (hc : Clean mem inst word s) : Clean mem inst word s2 :=
  h.clean List.not_mem_nil (s := s.engineUsed e) hc

theorem dmemCause_none {a n : Nat} (h : a < 4096) (hn : a % n = 0) : dmemCause a n = none := by
  unfold dmemCause
  rw [if_neg (Nat.not_le.2 h), if_neg (not_not.2 hn)]

/-- Data memory after `n` bytes were put from `a` on. -/
def putBytes (d : Tab Byte) (a : Nat) (l : List (Byte × Nat)) : Tab Byte := l.foldl (fun d x => tput 0 d (a + x.2) x.1) d

theorem putBytes_other (d : Tab Byte) (a b : Nat) (l : List (Byte × Nat)) (h : ∀ x ∈ l, a + x.2 ≠ b) : tget 0 (putBytes d a l) b = tget 0 d b := by
  unfold putBytes
  induction l generalizing d with
  | nil => rfl
  | cons x l ih =>
    rw [List.foldl_cons, ih _ fun y hy => h y (List.mem_cons_of_mem _ hy)]
    exact tget_tput_ne _ _ _ _ (h x List.mem_cons_self).symm

theorem putBytes_at (d : Tab Byte) (a : Nat) (l : List Byte) (m i : Nat) (h : i < l.length) : tget 0 (putBytes d a (l.zipIdx m)) (a + m + i) = l[i] := by
  induction l generalizing d m i with
  | nil => exact absurd h (Nat.not_lt_zero _)
  | cons x l ih =>
    rw [List.zipIdx_cons]
    show tget 0 (putBytes (tput 0 d (a + m) x) a (l.zipIdx (m + 1))) (a + m + i) = _
    cases i with
    | zero =>
      rw [putBytes_other]
      · exact tget_tput_self _ _ _ _
      · intro y hy
        have := List.le_snd_of_mem_zipIdx hy
        omega
    | succ i =>
      have := ih (tput 0 d (a + m) x) (m + 1) i (by simpa using h)
      rw [show a + m + (i + 1) = a + (m + 1) + i by omega]
      simpa using this

theorem length_bytes (n v : Nat) : (bytes n v).length = n := by
  induction n generalizing v with
  | zero => rfl
  | succ n ih => exact congrArg (· + 1) (ih _)

theorem getElem_bytes (n v i : Nat) (h : i < (bytes n v).length) : (bytes n v)[i] = BitVec.ofNat 8 (v / 256 ^ i) := by
  induction n generalizing v i with
  | zero => exact absurd h (Nat.not_lt_zero _)
  | succ n ih =>
    cases i with
    | zero => simp [bytes]
    | succ i =>
      have := ih (v / 256) i (by simpa [bytes] using h)
      rw [Nat.pow_succ', ← Nat.div_div_eq_div_mul]
      simpa [bytes] using this

/-- The operation of a data memory load. -/
def loadRun (n : Nat) (e : Fin 512) (t : Fin 8) (w : Nat) (k : Task) (s : State) : State × Ran :=
  match dmemCause (k.addr w) n with
  | some c => (s, .trap c)
  | none =>
    let m := s.memRead 3 e.val (dmemWord t.val (k.addr w)) 2
    if m.1 then (m.2, .trap 6)
    else (m.2, .go (k.put (insX w) (BitVec.ofNat 64 (k.dmemVal (k.addr w) n)) (k.now s + 2) 1) (Int.ofNat k.pc + 1) 2)

/-- The operation of a data memory store. -/
def storeRun (n : Nat) (e : Fin 512) (t : Fin 8) (w : Nat) (k : Task) (s : State) : State × Ran :=
  match dmemCause (k.addr w) n with
  | some c => (s, .trap c)
  | none =>
    let m := if n = 8 then (false, s) else s.memRead 3 e.val (dmemWord t.val (k.addr w)) 2
    (m.2.memWrite 3 e.val (dmemWord t.val (k.addr w)) m.1,
      ({ k with dmem := putBytes k.dmem (k.addr w) (bytes n (k.reg (insX w)).toNat).zipIdx } : Task).goOn)

theorem exec_loads {c : Fin 512 → Fin 8 → Instr} {op n : Nat} (h : Loads c op n) (e : Fin 512) (t : Fin 8) (s : State) :
    exec (c e t) s = issue e t s (opIs op) (loadRun n e t) := by
  cases h <;> rfl

theorem exec_stores {c : Fin 512 → Fin 8 → Instr} {op n : Nat} (h : Stores c op n) (e : Fin 512) (t : Fin 8) (s : State) :
    exec (c e t) s = issue e t s (opIs op) (storeRun n e t) := by
  cases h <;> rfl

/-- A load that the region and the alignment allow, of a clean word. -/
theorem loadRun_clean {n : Nat} {e : Fin 512} {t : Fin 8} {w : Nat} {k : Task} {s : State} (hcause : dmemCause (k.addr w) n = none)
    (hclean : Clean 3 e.val (dmemWord t.val (k.addr w)) s) :
    loadRun n e t w k s = ((s.memRead 3 e.val (dmemWord t.val (k.addr w)) 2).2,
      .go (k.put (insX w) (BitVec.ofNat 64 (k.dmemVal (k.addr w) n)) (k.now s + 2) 1) (Int.ofNat k.pc + 1) 2) := by
  unfold loadRun
  rw [hcause]
  exact if_neg (ne_true_of_eq_false (memRead_clean hclean 2))

/-- A store that the region and the alignment allow. -/
theorem storeRun_kept {n : Nat} {e : Fin 512} {t : Fin 8} {w : Nat} {k : Task} {s : State} (hcause : dmemCause (k.addr w) n = none) :
    ∃ u, storeRun n e t w k s = (u, ({ k with dmem := putBytes k.dmem (k.addr w) (bytes n (k.reg (insX w)).toNat).zipIdx } : Task).goOn) ∧
      IssueKept false [0x50010] s u := by
  have hread : IssueKept false [] s (if n = 8 then (false, s) else s.memRead 3 e.val (dmemWord t.val (k.addr w)) 2).2 := by
    split
    · exact .refl _
    · exact issueKept_memRead _ (by decide) _ _ _
  unfold storeRun
  rw [hcause]
  exact ⟨_, rfl, hread.weaken.trans (issueKept_memWrite _ _ _ _ _)⟩

/-- Settles O26. -/
theorem engineDataMemory : Obligations.EngineDataMemory := by
  unfold Obligations.EngineDataMemory
  refine ⟨?_, ?_⟩
  · intro c op n hc e t k w s hcan hop hpc haddr halign hclean
    rw [exec_loads hc]
    obtain ⟨u, k1, hu, rfl, hout⟩ := issue_go (banks := false) (but := []) (P := fun k1 => k1 = k.counted.put (insX w) (BitVec.ofNat 64 (k.dmemVal (k.addr w) n)) (k.now s + 2) 1)
      hcan (opIs_of_eq hop) (loadRun n e t) hpc fun s2 hs2 => by
        have hnow : k.counted.now s2 = k.now s := hs2.latNow k.home
        refine ⟨_, _, 2, loadRun_clean (dmemCause_none haddr halign) (clean_at_issue hs2 hclean), ?_, issueKept_memRead _ (by decide) _ _ _⟩
        rw [hnow]
        rfl
    rw [if_neg Bool.false_ne_true, after_put] at hout
    exact ⟨u, hu, hout⟩
  · intro c op n hc e t k w s hcan hop hpc haddr halign
    rw [exec_stores hc]
    obtain ⟨u, k1, hu, rfl, hout⟩ := issue_go (banks := false) (but := [0x50010])
      (P := fun k1 => k1 = { k.counted with dmem := putBytes k.dmem (k.addr w) (bytes n (k.reg (insX w)).toNat).zipIdx })
      hcan (opIs_of_eq hop) (storeRun n e t) hpc fun s2 hs2 => by
        obtain ⟨s3, hrun, hkept⟩ := storeRun_kept (e := e) (t := t) (w := w) (k := k.counted) (s := s2) (dmemCause_none haddr halign)
        exact ⟨s3, _, 1, hrun, rfl, hkept⟩
    rw [if_neg Bool.false_ne_true] at hout
    refine ⟨u, _, hu, rfl, fun i hi => ?_, fun b hb => ?_, hout⟩
    · have := putBytes_at k.dmem (k.addr w) (bytes n (k.reg (insX w)).toNat) 0 i (by rwa [length_bytes])
      rw [getElem_bytes] at this
      exact this
    · refine putBytes_other _ _ _ _ fun x hx => ?_
      have hlt := (List.mem_zipIdx' hx).1
      rw [length_bytes] at hlt
      omega

/-! ### Reads of the packet (R516, R535, R553) -/

theorem memRead_fst (s : State) (mem inst word consumer : Nat) :
    (s.memRead mem inst word consumer).1 = (decide (2 ≤ s.wordBits mem inst word) || s.wordFlag mem inst word) := by
  unfold State.memRead
  by_cases h : 2 ≤ s.wordBits mem inst word
  · rw [if_pos h, decide_eq_true h]
    rfl
  · rw [if_neg h, decide_eq_false h]
    cases hf : s.wordFlag mem inst word <;> rfl

/-- States that hold the same memory words read marked at the same words. -/
theorem memRead_fst_congr {s t : State} (h : t.mem.words = s.mem.words) (mem inst word consumer consumer' : Nat) :
    (t.memRead mem inst word consumer).1 = (s.memRead mem inst word consumer').1 := by
  rw [memRead_fst, memRead_fst]
  unfold State.wordBits State.wordFlag
  rw [h]

/-- The current offsets that a read of buffer word `x` finds marked. -/
def State.bufMarks (s : State) (e t : Nat) (k : Task) (x : Nat) : List Nat :=
  if 2 ≤ s.wordBits 4 e (64 * t + x) ∨ (s.wordFlag 4 e (64 * t + x) && !(k.offsets (8 * x) 8).any k.poison.contains) = true then k.offsets (8 * x) 8 else []

/-- The words `lo` to `hi - 1` of a stored packet that read marked. -/
def State.markedWords (s : State) (p : Pkt) (lo hi : Nat) : List Nat :=
  (List.range (hi - lo)).flatMap fun k =>
    if (s.memRead 1 (p.parcels.getD ((lo + k) / 4) 0 / 32768) (4 * (p.parcels.getD ((lo + k) / 4) 0 % 32768) + (lo + k) % 4) 2).1 then [lo + k] else []

/-- The current offsets that a read of word `x` of the stored packet finds marked. -/
def State.farMarks (s : State) (k : Task) (p : Pkt) (x : Nat) : List Nat :=
  if (s.markedWords p x (x + 1)).isEmpty then [] else k.offsets (32 * x) 32

/-- A fold that reads and collects: it keeps what reads keep, and collects what each word gives in the first state. -/
theorem foldl_collects {α β : Type} {banks : Bool} (step : State × List β → α → State × List β) (marks : State → α → List β)
    (hcongr : ∀ s t x, t.mem.words = s.mem.words → marks t x = marks s x)
    (hstep : ∀ r x, IssueKept banks [] r.1 (step r x).1 ∧ (step r x).2 = r.2 ++ marks r.1 x) (l : List α) (r : State × List β) :
    IssueKept banks [] r.1 (l.foldl step r).1 ∧ (l.foldl step r).2 = r.2 ++ l.flatMap (marks r.1) := by
  induction l generalizing r with
  | nil => exact ⟨.refl _, (List.append_nil _).symm⟩
  | cons x l ih =>
    obtain ⟨hkept, hmarks⟩ := hstep r x
    obtain ⟨hrest, hcollected⟩ := ih (step r x)
    refine ⟨hkept.trans hrest, ?_⟩
    rw [List.foldl_cons, hcollected, hmarks, List.flatMap_cons, List.append_assoc]
    exact congrArg (fun f => r.2 ++ (marks r.1 x ++ l.flatMap f)) (funext fun y => hcongr _ _ _ (hkept.words List.not_mem_nil))

theorem readBuf_eq (s : State) (e t : Nat) (k : Task) (ws : List Nat) :
    IssueKept false [] s (s.readBuf e t k ws).1 ∧ (s.readBuf e t k ws).2 = ws.flatMap (s.bufMarks e t k) := by
  unfold State.readBuf
  refine foldl_collects _ (fun s x => s.bufMarks e t k x) (fun s u x hw => ?_) (fun r x => ?_) ws (s, [])
  · unfold State.bufMarks State.wordBits State.wordFlag
    rw [hw]
  · have hfix : IssueKept false [] r.1 (if r.1.wordBits 4 e (64 * t + x) = 1 then r.1.corrected 4 e (64 * t + x) else r.1) :=
      .ite (issueKept_corrected _ (by decide) _ _) (.refl _)
    have hflag : (if r.1.wordBits 4 e (64 * t + x) = 1 then r.1.corrected 4 e (64 * t + x) else r.1).wordFlag 4 e (64 * t + x) = r.1.wordFlag 4 e (64 * t + x) := by
      unfold State.wordFlag
      rw [hfix.words List.not_mem_nil]
    unfold State.bufMarks
    dsimp only
    generalize (if r.1.wordBits 4 e (64 * t + x) = 1 then r.1.corrected 4 e (64 * t + x) else r.1) = v at hfix hflag ⊢
    rw [hflag]
    by_cases hbits : 2 ≤ r.1.wordBits 4 e (64 * t + x)
    · rw [if_pos hbits, if_pos (.inl hbits)]
      exact ⟨issueKept_uncorrectable _ (by decide) _ _ _, rfl⟩
    · rw [if_neg hbits]
      by_cases hmark : (r.1.wordFlag 4 e (64 * t + x) && !(k.offsets (8 * x) 8).any k.poison.contains) = true
      · rw [if_pos hmark, if_pos (.inr hmark)]
        exact ⟨hfix.trans (issueKept_memBump _ (c := Cnt.POISON_READS) (mem := 4) (by simp) (by decide) _ _), rfl⟩
      · rw [if_neg hmark, if_neg (fun h => h.elim hbits hmark)]
        exact ⟨hfix, (List.append_nil _).symm⟩

theorem readWords_eq (s : State) (p : Pkt) (lo hi : Nat) :
    IssueKept true [] s (s.readWords p lo hi 2).1 ∧ (s.readWords p lo hi 2).2 = s.markedWords p lo hi := by
  unfold State.readWords
  refine foldl_collects (banks := true) _
    (fun s k => if (s.memRead 1 (p.parcels.getD ((lo + k) / 4) 0 / 32768) (4 * (p.parcels.getD ((lo + k) / 4) 0 % 32768) + (lo + k) % 4) 2).1 then [lo + k] else [])
    (fun s u k hw => ?_) (fun r k => ?_) (List.range (hi - lo)) (s, [])
  · rw [memRead_fst_congr hw]
  · have hbank := issueKept_bankAccess r.1 (p.parcels.getD ((lo + k) / 4) 0 / 32768) k
    dsimp only
    rw [memRead_fst_congr (hbank.words List.not_mem_nil) _ _ _ 2 2]
    refine ⟨hbank.trans (issueKept_memRead _ (by decide) _ _ _).weaken, ?_⟩
    split
    · rfl
    · exact (List.append_nil _).symm

theorem readFar_eq (s : State) (k : Task) (p : Pkt) (ws : List Nat) :
    IssueKept true [] s (s.readFar k p ws).1 ∧ (s.readFar k p ws).2 = ws.flatMap (s.farMarks k p) := by
  unfold State.readFar
  refine foldl_collects _ (fun s x => s.farMarks k p x) (fun s u x hw => ?_) (fun r x => ?_) ws (s, [])
  · unfold State.farMarks State.markedWords
    simp only [memRead_fst_congr hw _ _ _ 2 2]
  · obtain ⟨hkept, hmarks⟩ := readWords_eq r.1 p x (x + 1)
    dsimp only
    rw [hmarks]
    exact ⟨hkept, rfl⟩

/-- What a read of `n` packet bytes from `o` on finds marked: by the task, in the buffer, and in the stored packet beyond it. -/
def State.loadMarked (s : State) (e t : Nat) (k : Task) (p : Pkt) (o n : Nat) : Bool :=
  k.poison.any (fun x => decide (o ≤ x ∧ x < o + n)) || !((k.bufWords o n).flatMap (s.bufMarks e t k)).isEmpty ||
    !((k.farWords p o n).flatMap (s.farMarks k p)).isEmpty

theorem farMarks_congr {s t : State} (h : t.mem.words = s.mem.words) (k : Task) (p : Pkt) : t.farMarks k p = s.farMarks k p := by
  funext x
  unfold State.farMarks State.markedWords
  simp only [memRead_fst_congr h _ _ _ 2 2]

theorem bufMarks_congr {s t : State} (h : t.mem.words = s.mem.words) (e th : Nat) (k : Task) : t.bufMarks e th k = s.bufMarks e th k := by
  funext x
  unfold State.bufMarks State.wordBits State.wordFlag
  rw [h]

theorem pktLoad_eq {s : State} {k : Task} {p : Pkt} (hp : s.pkt k.pkt = some p) (e t o n : Nat) :
    IssueKept true [] s (s.pktLoad e t k o n).1 ∧ (s.pktLoad e t k o n).2 = s.loadMarked e t k p o n := by
  obtain ⟨hbuf, hbufMarks⟩ := readBuf_eq s e t k (k.bufWords o n)
  have hcount : IssueKept false [] s (if k.poison.any (fun x => decide (o ≤ x ∧ x < o + n)) then (s.readBuf e t k (k.bufWords o n)).1.bump Cnt.POISON_READS 4
      else (s.readBuf e t k (k.bufWords o n)).1) :=
    .ite (hbuf.trans (issueKept_memBump _ (c := Cnt.POISON_READS) (mem := 4) (by simp) (by decide) _ _)) hbuf
  unfold State.pktLoad
  rw [hp]
  dsimp only
  obtain ⟨hfar, hfarMarks⟩ := readFar_eq (if k.poison.any (fun x => decide (o ≤ x ∧ x < o + n)) then (s.readBuf e t k (k.bufWords o n)).1.bump Cnt.POISON_READS 4
      else (s.readBuf e t k (k.bufWords o n)).1) k p (k.farWords p o n)
  refine ⟨hcount.weaken.trans hfar, ?_⟩
  rw [hbufMarks, hfarMarks, farMarks_congr (hcount.words List.not_mem_nil)]
  rfl

/-- A task without its packet reads nothing marked. -/
theorem pktLoad_none {s : State} {k : Task} (hp : s.pkt k.pkt = none) (e t o n : Nat) : s.pktLoad e t k o n = (s, false) := by
  unfold State.pktLoad
  rw [hp]

/-- A packet load leaves what a read leaves, and finds a mark where it would have found one before other reads. -/
theorem pktLoad_kept {s t : State} (h : IssueKept false [] s t) (k : Task) (e th o n : Nat) :
    IssueKept true [] t (t.pktLoad e th k o n).1 ∧ (t.pktLoad e th k o n).2 = (s.pktLoad e th k o n).2 := by
  cases hp : s.pkt k.pkt with
  | none =>
    rw [pktLoad_none hp, pktLoad_none ((h.pkt _).trans hp)]
    exact ⟨.refl t, rfl⟩
  | some p =>
    obtain ⟨hkept, hmarked⟩ := pktLoad_eq ((h.pkt _).trans hp) e th o n
    refine ⟨hkept, ?_⟩
    rw [hmarked, (pktLoad_eq hp e th o n).2]
    unfold State.loadMarked
    rw [bufMarks_congr (h.words List.not_mem_nil), farMarks_congr (h.words List.not_mem_nil)]

/-- The count of the instruction and its slot tell nothing of marks. -/
theorem pktLoad_counted (s : State) (k : Task) (e t o n : Nat) : ((s.engineUsed e).pktLoad e t k.counted o n).2 = (s.pktLoad e t k o n).2 := by
  cases hp : s.pkt k.pkt with
  | none => rw [pktLoad_none hp, pktLoad_none (s := s.engineUsed e) (k := k.counted) hp]
  | some p =>
    rw [(pktLoad_eq hp e t o n).2, (pktLoad_eq (s := s.engineUsed e) (k := k.counted) hp e t o n).2]
    unfold State.loadMarked
    rw [bufMarks_congr (s := s) (t := s.engineUsed e) rfl, farMarks_congr (s := s) (t := s.engineUsed e) rfl]
    rfl

/-- A store into the packet: bytes that are written through the buffer's code. -/
theorem pktStore_kept (s : State) (e t : Nat) (k : Task) (o : Nat) (l : List Byte) :
    IssueKept false [0x50010] s (s.pktStore e t k o l).1 ∧ ∃ marks, (s.pktStore e t k o l).2 = { k with data := k.data.take o ++ l ++ k.data.drop (o + l.length), poison := marks } := by
  refine ⟨?_, _, rfl⟩
  unfold State.pktStore
  exact (readBuf_eq s e t k _).1.weaken.trans (.foldl (fun u x _ => issueKept_memWrite _ _ _ _ _) _)

/-! ### Packet loads and stores (R525, R526) -/

/-- The operation of a packet load. -/
def packetLoadRun (n : Nat) (e : Fin 512) (t : Fin 8) (w : Nat) (k : Task) (s : State) : State × Ran :=
  let o := k.addr w
  if k.data.length < o + n then (s, .trap 5)
  else
    let far := k.beyond o n
    let s1 := if far then s.perfLat (e.val / 16) 8 1 else s
    let r := s1.pktLoad e.val t.val k o n
    let lat := if far then 24 else 4
    if r.2 then (r.1, .trap 6)
    else (r.1, .go (k.put (insX w) (BitVec.ofNat 64 (be n k.data o)) (k.now s + lat) 1) (Int.ofNat k.pc + 1) lat)

/-- The operation of a packet store. -/
def packetStoreRun (n : Nat) (e : Fin 512) (t : Fin 8) (w : Nat) (k : Task) (s : State) : State × Ran :=
  let o := k.addr w
  if k.data.length < o + n then (s, .trap 5)
  else
    let r := s.pktStore e.val t.val k o (bytesBe n (k.reg (insX w)).toNat)
    (r.1, r.2.goOn)

theorem exec_packetLoads {c : Fin 512 → Fin 8 → Instr} {op n : Nat} (h : PacketLoads c op n) (e : Fin 512) (t : Fin 8) (s : State) :
    exec (c e t) s = issue e t s (opIs op) (packetLoadRun n e t) := by
  cases h <;> rfl

theorem exec_packetStores {c : Fin 512 → Fin 8 → Instr} {op n : Nat} (h : PacketStores c op n) (e : Fin 512) (t : Fin 8) (s : State) :
    exec (c e t) s = issue e t s (opIs op) (packetStoreRun n e t) := by
  cases h <;> rfl

/-- A load of unmarked bytes inside the packet; `s` is the state that tells that they are unmarked. -/
theorem packetLoadRun_clean {n : Nat} {e : Fin 512} {t : Fin 8} {w : Nat} {k : Task} {s u : State} (h : IssueKept false [] s u)
    (hin : k.addr w + n ≤ k.data.length) (hclean : (s.pktLoad e.val t.val k (k.addr w) n).2 = false) :
    ∃ v, packetLoadRun n e t w k u = (v, .go (k.put (insX w) (BitVec.ofNat 64 (be n k.data (k.addr w))) (k.now u + (if k.beyond (k.addr w) n then 24 else 4)) 1)
      (Int.ofNat k.pc + 1) (if k.beyond (k.addr w) n then 24 else 4)) ∧ IssueKept true [] u v := by
  have hlat : e.val / 16 < 32 := by have := e.isLt; omega
  have hperf : IssueKept false [] u (if k.beyond (k.addr w) n then u.perfLat (e.val / 16) 8 1 else u) := .ite (issueKept_perfLat _ hlat _ _) (.refl _)
  obtain ⟨hkept, hflag⟩ := pktLoad_kept (h.trans hperf) k e.val t.val (k.addr w) n
  refine ⟨_, ?_, hperf.weaken.trans hkept⟩
  unfold packetLoadRun
  dsimp only
  rw [if_neg (Nat.not_lt.2 hin), if_neg (ne_true_of_eq_false (hflag.trans hclean))]

/-- A packet with `l` from `o` on. -/
theorem replaced_length {α : Type} {d l : List α} {o : Nat} (h : o + l.length ≤ d.length) : (d.take o ++ l ++ d.drop (o + l.length)).length = d.length := by
  simp only [List.length_append, List.length_take, List.length_drop]
  omega

theorem replaced_inside {α : Type} {d l : List α} {o : Nat} (h : o + l.length ≤ d.length) : ((d.take o ++ l ++ d.drop (o + l.length)).drop o).take l.length = l := by
  have hlen : (d.take o).length = o := by rw [List.length_take]; omega
  rw [List.append_assoc, List.drop_left' hlen, List.take_left]

theorem replaced_outside {α : Type} {d l : List α} {o i : Nat} (h : o + l.length ≤ d.length) (hi : i < o ∨ o + l.length ≤ i) :
    (d.take o ++ l ++ d.drop (o + l.length))[i]? = d[i]? := by
  have hlen : (d.take o).length = o := by rw [List.length_take]; omega
  rcases hi with hi | hi
  · rw [List.append_assoc, List.getElem?_append_left (by omega), List.getElem?_take_of_lt hi]
  · rw [List.getElem?_append_right (by rw [List.length_append]; omega), List.getElem?_drop, List.length_append, hlen]
    congr 1
    omega

/-- Settles O27. -/
theorem enginePacketLoadsAndStores : Obligations.EnginePacketLoadsAndStores := by
  unfold Obligations.EnginePacketLoadsAndStores
  refine ⟨?_, ?_⟩
  · intro c op n hc e t k w s hcan hop hpc hin hclean
    rw [exec_packetLoads hc]
    obtain ⟨u, k1, hu, rfl, hout⟩ := issue_go (banks := true) (but := [])
      (P := fun k1 => k1 = k.counted.put (insX w) (BitVec.ofNat 64 (be n k.data (k.addr w))) (k.now s + (if k.beyond (k.addr w) n then 24 else 4)) 1)
      hcan (opIs_of_eq hop) (packetLoadRun n e t) hpc fun s2 hs2 => by
        have hnow : k.counted.now s2 = k.now s := hs2.latNow k.home
        obtain ⟨v, hrun, hkept⟩ := packetLoadRun_clean (e := e) (t := t) (w := w) (k := k.counted) (s := s.engineUsed e.val) hs2 hin
          ((pktLoad_counted s k e.val t.val (k.addr w) n).trans hclean)
        rw [hnow] at hrun
        exact ⟨v, _, _, hrun, rfl, hkept⟩
    rw [if_pos rfl, after_put] at hout
    exact ⟨u, hu, hout⟩
  · intro c op n hc e t k w s hcan hop hpc hin
    rw [exec_packetStores hc]
    have hlen : (bytesBe n (k.reg (insX w)).toNat).length = n := by rw [bytesBe, List.length_reverse, length_bytes]
    rw [← hlen] at hin
    obtain ⟨u, k1, hu, ⟨marks, rfl⟩, hout⟩ := issue_go (banks := false) (but := [0x50010])
      (P := fun k1 => ∃ marks, k1 = { k.counted with
        data := k.data.take (k.addr w) ++ bytesBe n (k.reg (insX w)).toNat ++ k.data.drop (k.addr w + (bytesBe n (k.reg (insX w)).toNat).length), poison := marks })
      hcan (opIs_of_eq hop) (packetStoreRun n e t) hpc fun s2 hs2 => by
        obtain ⟨hkept, marks, hstored⟩ := pktStore_kept s2 e.val t.val k.counted (k.addr w) (bytesBe n (k.reg (insX w)).toNat)
        refine ⟨_, _, 1, ?_, ⟨marks, rfl⟩, hkept⟩
        have hfits : ¬(k.data.length < k.addr w + n) := by rw [hlen] at hin; exact Nat.not_lt.2 hin
        refine (if_neg hfits).trans ?_
        exact congrArg (fun k1 : Task => ((s2.pktStore e.val t.val k.counted (k.addr w) (bytesBe n (k.reg (insX w)).toNat)).1, k1.goOn)) hstored
    rw [if_neg Bool.false_ne_true] at hout
    refine ⟨u, _, hu, rfl, replaced_length hin, ?_, fun i hi => replaced_outside hin ?_, hout⟩
    · have := replaced_inside hin
      rwa [hlen] at this ⊢
    · rwa [hlen]

/-! ### The packet's shape and sums (R521, R525) -/

/-- The operation of PADJ. -/
def padjRun (w : Nat) (k : Task) (s : State) : State × Ran :=
  let n := insSimm w
  if 0 ≤ n then (if k.data.length < n.toNat then (s, .trap 5) else (s, (k.cutFront n.toNat).goOn))
  else if k.shift + n < -256 then (s, .trap 9)
  else (s, (k.growFront (-n).toNat).goOn)

/-- The operation of CRC. -/
def crcRun (e : Fin 512) (t : Fin 8) (w : Nat) (k : Task) (s : State) : State × Ran :=
  let n := (k.b w).toNat % 1024
  let a := (k.a w).toNat
  if n ≠ 0 ∧ 4096 < a + n then (s, .trap 3)
  else
    let m := s.memReads 3 e.val (dmemWord t.val a) (if n = 0 then 0 else (a + n - 1) / 8 - a / 8 + 1) 2
    if m.1 then (m.2, .trap 6)
    else
      let v := flowCrc ((k.reg (insX w)).toNat % 2 ^ 32) ((List.range n).map (fun i => tget 0 k.dmem (a + i)))
      (m.2, k.result s w (BitVec.ofNat 64 v) (1 + (n + 7) / 8))

/-- The operation of CSUM. -/
def csumRun (e : Fin 512) (t : Fin 8) (w : Nat) (k : Task) (s : State) : State × Ran :=
  let n := (k.b w).toNat
  let o := (k.a w).toNat
  if n ≠ 0 ∧ k.data.length < o + n then (s, .trap 5)
  else
    let r := s.pktLoad e.val t.val k o n
    if r.2 then (r.1, .trap 6)
    else (r.1, k.result s w (BitVec.ofNat 64 (onesSum ((k.data.drop o).take n) ((k.reg (insX w)).toNat % 65536))) (4 + (n + 7) / 8))

/-- Reads of consecutive words that read clean. -/
theorem memReads_clean {s : State} {mem inst word n : Nat} (hmem : mem < 14) (h : ∀ i, i < n → Clean mem inst (word + i) s) (consumer : Nat) :
    IssueKept false [] s (s.memReads mem inst word n consumer).2 ∧ (s.memReads mem inst word n consumer).1 = false := by
  unfold State.memReads
  induction n with
  | zero => exact ⟨.refl s, rfl⟩
  | succ n ih =>
    obtain ⟨hkept, hclean⟩ := ih fun i hi => h i (Nat.lt_succ_of_lt hi)
    rw [List.range_succ, List.foldl_concat]
    refine ⟨hkept.trans (issueKept_memRead _ hmem _ _ _), ?_⟩
    dsimp only
    rw [hclean, memRead_clean (hkept.clean List.not_mem_nil (h n (Nat.lt_succ_self n)))]
    rfl

theorem result_of_now {k : Task} {s : State} {c : Nat} (h : k.now s = c) (w : Nat) (v : DWord) (lat : Nat) :
    k.result s w v lat = .go (k.put (insX w) v (c + lat)) (Int.ofNat k.pc + 1) lat := by
  rw [Task.result, h]

/-- Each word that `n` bytes from `a` on touch holds one of them. -/
theorem dmemWord_touched (t : Nat) {a n i : Nat} (hn : n ≠ 0) (hi : i < (a + n - 1) / 8 - a / 8 + 1) : ∃ j, j < n ∧ dmemWord t a + i = dmemWord t (a + j) := by
  unfold dmemWord
  cases i with
  | zero => exact ⟨0, by omega, rfl⟩
  | succ i => exact ⟨8 * (a / 8 + (i + 1)) - a, by omega, by omega⟩

/-- Settles O28. -/
theorem enginePacketShapeAndSums : Obligations.EnginePacketShapeAndSums := by
  unfold Obligations.EnginePacketShapeAndSums
  refine ⟨?_, ?_, ?_, ?_⟩
  · intro e t k w n s hcan hop hpc himm hn
    obtain ⟨u, hu, hout⟩ := issue_pure (k1 := k.counted.cutFront n) hcan (opIs_of_eq hop) padjRun hpc fun s2 _ => by
      refine ⟨1, ?_⟩
      unfold padjRun
      rw [himm, if_pos (Int.natCast_nonneg n), Int.toNat_natCast]
      exact if_neg (Nat.not_lt.2 hn)
    exact ⟨u, hu, hout, rfl⟩
  · intro e t k w n s hcan hop hpc himm hn hroom
    obtain ⟨u, hu, hout⟩ := issue_pure (k1 := k.counted.growFront n) hcan (opIs_of_eq hop) padjRun hpc fun s2 _ => by
      have hshift : ¬(k.counted.shift + -(n : Int) < -256) := fun h => by
        have h : k.shift + -(n : Int) < -256 := h
        omega
      refine ⟨1, ?_⟩
      unfold padjRun
      rw [himm, if_neg (by omega), if_neg hshift, Int.neg_neg, Int.toNat_natCast]
      rfl
    exact ⟨u, hu, hout, rfl⟩
  · intro e t k w s hcan hop hpc hin hclean
    obtain ⟨u, k1, hu, rfl, hout⟩ := issue_go (banks := false) (but := [])
      (P := fun k1 => k1 = k.counted.put (insX w) (BitVec.ofNat 64 (flowCrc ((k.reg (insX w)).toNat % 2 ^ 32)
        ((List.range ((k.b w).toNat % 1024)).map (fun i => tget 0 k.dmem ((k.a w).toNat + i))))) (k.now s + (1 + ((k.b w).toNat % 1024 + 7) / 8)))
      hcan (opIs_of_eq hop) (crcRun e t) hpc fun s2 hs2 => by
        have hnow : k.counted.now s2 = k.now s := hs2.latNow k.home
        obtain ⟨hkept, hreads⟩ := memReads_clean (s := s2) (mem := 3) (inst := e.val) (word := dmemWord t.val (k.a w).toNat)
          (n := if (k.b w).toNat % 1024 = 0 then 0 else ((k.a w).toNat + (k.b w).toNat % 1024 - 1) / 8 - (k.a w).toNat / 8 + 1) (by decide) (fun i hi => by
            split at hi
            · exact absurd hi (Nat.not_lt_zero _)
            · next hn =>
              obtain ⟨j, hj, hword⟩ := dmemWord_touched t.val hn hi
              rw [hword]
              exact clean_at_issue hs2 (hclean j hj)) 2
        refine ⟨_, _, 1 + ((k.b w).toNat % 1024 + 7) / 8, ?_, rfl, hkept⟩
        refine (if_neg (fun h => ?_)).trans ((if_neg (ne_true_of_eq_false hreads)).trans ?_)
        · have h : 4096 < (k.a w).toNat + (k.b w).toNat % 1024 := h.2
          omega
        · exact congrArg (Prod.mk _) (result_of_now hnow _ _ _)
    rw [if_neg Bool.false_ne_true, after_put] at hout
    exact ⟨u, hu, hout⟩
  · intro e t k w s hcan hop hpc hin hclean
    obtain ⟨u, k1, hu, rfl, hout⟩ := issue_go (banks := true) (but := [])
      (P := fun k1 => k1 = k.counted.put (insX w) (BitVec.ofNat 64 (onesSum ((k.data.drop (k.a w).toNat).take (k.b w).toNat)
        ((k.reg (insX w)).toNat % 65536))) (k.now s + (4 + ((k.b w).toNat + 7) / 8)))
      hcan (opIs_of_eq hop) (csumRun e t) hpc fun s2 hs2 => by
        have hnow : k.counted.now s2 = k.now s := hs2.latNow k.home
        obtain ⟨hkept, hflag⟩ := pktLoad_kept hs2 k.counted e.val t.val (k.a w).toNat (k.b w).toNat
        have hunmarked := (hflag.trans (pktLoad_counted s k e.val t.val _ _)).trans hclean
        refine ⟨_, _, 4 + ((k.b w).toNat + 7) / 8, ?_, rfl, hkept⟩
        refine (if_neg (fun h => absurd h.2 (Nat.not_lt.2 hin))).trans ((if_neg (ne_true_of_eq_false hunmarked)).trans ?_)
        exact congrArg (Prod.mk _) (result_of_now hnow _ _ _)
    rw [if_pos rfl, after_put] at hout
    exact ⟨u, hu, hout⟩

end Sys2Proof.Machine
end

section
/-! SUPPORT. Engine instructions beyond computing: atoms, control and status registers, emits, ends and exceptions (R520–R535). -/

namespace Sys2Proof.Machine

/-! ### Atoms (R525, R526, R529, R531–R533) -/

/-- After an atom on word `i`: the words reached in this cycle, and the words that the state memory holds. -/
def State.withAtom (s : State) (i : Nat) (words : Tab DWord) : State :=
  { s with eng := { s.eng with
    atomCycle := s.cycle + 1, atomWords := (if s.eng.atomCycle = s.cycle + 1 then s.eng.atomWords else []) ++ [i], words := words } }

/-- An atom's result can be used 24 cycles later, or 25 when an atom has reached its word in this cycle. -/
def State.atomLat (s : State) (i : Nat) : Nat := if s.eng.atomCycle = s.cycle + 1 ∧ i ∈ s.eng.atomWords then 25 else 24

theorem IssueKept.cycle {banks : Bool} {but : List Nat} {s t : State} (h : IssueKept banks but s t) : t.cycle = s.cycle := by
  unfold State.cycle
  rw [h.clock]

theorem atomLat_congr {s t : State} (heng : t.eng = s.eng) (hcycle : t.cycle = s.cycle) (i : Nat) : t.atomLat i = s.atomLat i := by
  unfold State.atomLat
  rw [heng, hcycle]

/-- The state memory's words after an atom. -/
def atomTable (fn w : Nat) (k : Task) (words : Tab DWord) : Tab DWord :=
  match atomWord fn k w (tget 0 words (k.a w).toNat) with
  | some x => tput 0 words (k.a w).toNat x
  | none => words

theorem atomTable_self (fn w : Nat) (k : Task) (words : Tab DWord) :
    tget 0 (atomTable fn w k words) (k.a w).toNat = (atomWord fn k w (tget 0 words (k.a w).toNat)).getD (tget 0 words (k.a w).toNat) := by
  unfold atomTable
  split
  · next h => rw [h]; exact tget_tput_self _ _ _ _
  · next h => rw [h]; rfl

theorem atomTable_ne (fn w : Nat) (k : Task) (words : Tab DWord) {i : Nat} (hi : i ≠ (k.a w).toNat) : tget 0 (atomTable fn w k words) i = tget 0 words i := by
  unfold atomTable
  split
  · exact tget_tput_ne _ _ _ _ hi
  · rfl

/-- The task after an atom whose result can be used from cycle `c` on. -/
def Task.withAtom (k : Task) (w : Nat) (old : DWord) (c : Nat) : Task := { k.put (insX w) old c 2 with atomAt := max k.atomAt c }

/-- An atom on a clean word. -/
theorem atomApply_clean {s : State} {k : Task} {w : Nat} (hclean : Clean 5 0 (k.a w).toNat s) (fn : Nat) :
    ∃ v, s.atomApply fn w k = (v, .go (k.withAtom w (tget 0 s.eng.words (k.a w).toNat) (k.now s + s.atomLat (k.a w).toNat)) (Int.ofNat k.pc + 1)
        (s.atomLat (k.a w).toNat)) ∧
      IssueKept false [0x50010] (s.withAtom (k.a w).toNat (atomTable fn w k s.eng.words)) v := by
  have hread := issueKept_memRead s (show 5 < 14 by decide) 0 (k.a w).toNat 2
  have hmark := memRead_clean hclean 2
  have hlat : (if (if s.eng.atomCycle = s.cycle + 1 then s.eng.atomWords else []).contains (k.a w).toNat = true then 25 else 24) = s.atomLat (k.a w).toNat := by
    unfold State.atomLat
    by_cases hc : s.eng.atomCycle = s.cycle + 1
    · simp [hc]
    · simp [hc]
  have hcount : ∀ u n, IssueKept false [] u ((u.perfDev 9 1).perfDev 10 n) := fun u n => (issueKept_perfDev _ _ _).trans (issueKept_perfDev _ _ _)
  unfold State.atomApply atomTable
  dsimp only
  rw [if_neg (ne_true_of_eq_false hmark)]
  generalize (s.memRead 5 0 (k.a w).toNat 2).2 = m at hread
  rw [hread.eng, hlat]
  cases hv : atomWord fn k w (tget 0 s.eng.words (k.a w).toNat) with
  | none => exact ⟨_, rfl, ((hread.withEng _).trans (hcount _ _)).weaken⟩
  | some x => exact ⟨_, rfl, ((hread.withEng _).weaken.trans (issueKept_memWrite _ 5 0 (k.a w).toNat false)).trans (hcount _ _).weaken⟩

/-- The operation of an atom. -/
def atomRun (fn w : Nat) (k : Task) (s : State) : State × Ran :=
  if 524288 ≤ (k.a w).toNat then (s, .trap 11)
  else if 4 ≤ fn then
    let s1 := match s.pkt k.pkt with
      | some p => s.bump Cnt.UNORDERED_OPS p.turnout
      | none => s
    s1.atomApply fn w k
  else match s.pkt k.pkt with
    | none => (s, .trap 11)
    | some p =>
      if !p.ordered then s.atomApply fn w k
      else if k.released then (s, .trap 12)
      else if s.gateFree p.turnout p.num then s.atomApply fn w k
      else (s, .hold k)

theorem exec_atoms {c : Fin 512 → Fin 8 → Instr} {fn : Nat} {f : DWord → DWord → DWord → DWord} (h : Atoms c fn f) (e : Fin 512) (t : Fin 8) (s : State) :
    exec (c e t) s = if s.atomYields e.val t.val then .next s else issue e t s (atomIs fn) (atomRun fn) := by
  cases h <;> rfl

/-- The word that an atom leaves. -/
theorem atomWord_atoms {c : Fin 512 → Fin 8 → Instr} {fn : Nat} {f : DWord → DWord → DWord → DWord} (h : Atoms c fn f) (k : Task) (w : Nat) (old : DWord) :
    (atomWord fn k w old).getD old = f old (k.b w) (k.reg (insX w)) := by
  have hcas : (if old = k.reg (insX w) then some (k.b w) else none).getD old = if old = k.reg (insX w) then k.b w else old := by split <;> rfl
  cases h
  case ocas => exact hcas
  case ucas => exact hcas
  all_goals rfl

/-- An atom that is unordered, or whose gate it may pass, reaches the state memory. -/
theorem atomRun_applies {s : State} {k : Task} {p : Pkt} {fn w : Nat} (hp : s.pkt k.pkt = some p) (ha : (k.a w).toNat < 524288)
    (hgate : 4 ≤ fn ∨ p.ordered = false ∨ (k.released = false ∧ s.gateFree p.turnout p.num = true)) :
    ∃ u, atomRun fn w k s = u.atomApply fn w k ∧ IssueKept false [Cnt.UNORDERED_OPS.addr p.turnout 0] s u := by
  have hcount : IssueKept false [Cnt.UNORDERED_OPS.addr p.turnout 0] s (s.bump Cnt.UNORDERED_OPS p.turnout) :=
    issueKept_bump _ _ _ _ _ _ fun a ha => .inr ha
  unfold atomRun
  rw [if_neg (Nat.not_le.2 ha), hp]
  by_cases hfn : 4 ≤ fn
  · exact ⟨_, if_pos hfn, hcount⟩
  · rw [if_neg hfn]
    refine ⟨s, ?_, .refl s⟩
    rcases hgate with h | h | ⟨hrel, hfree⟩
    · exact absurd h hfn
    · simp [h]
    · simp [hrel, hfree]

/-- An ordered atom whose gate is not free waits. -/
theorem atomRun_holds {s : State} {k : Task} {p : Pkt} {fn w : Nat} (hp : s.pkt k.pkt = some p) (ha : (k.a w).toNat < 524288) (hfn : fn < 4)
    (hord : p.ordered = true) (hrel : k.released = false) (hfree : s.gateFree p.turnout p.num = false) : atomRun fn w k s = (s, .hold k) := by
  unfold atomRun
  rw [if_neg (Nat.not_le.2 ha), if_neg (Nat.not_le.2 hfn), hp]
  simp [hord, hrel, hfree]

theorem gateFree_congr {s t : State} (heng : t.eng = s.eng) (hpkts : t.pk.pkts = s.pk.pkts) (d n : Nat) : t.gateFree d n = s.gateFree d n := by
  unfold State.gateFree State.before State.allTasks State.pkt
  rw [heng, hpkts]

theorem IssueKept.mono {banks : Bool} {but but' : List Nat} {s t : State} (h : IssueKept banks but s t) (hsub : but ⊆ but') : IssueKept banks but' s t := by
  refine ⟨fun a h1 h2 h3 => h.regs a h1 h2 fun ha => h3 (hsub ha), ?_⟩
  obtain ⟨r, l, m, p, b, x, ht, hx, hm⟩ := h.rest
  exact ⟨r, l, m, p, b, x, ht, hx, fun hb => hm fun ha => hb (hsub ha)⟩

theorem IssueKept.withAtom {banks : Bool} {but : List Nat} {s t : State} (h : IssueKept banks but s t) (i : Nat) (words : Tab DWord) :
    IssueKept banks but (s.withAtom i words) (t.withAtom i words) := by
  unfold State.withAtom
  rw [h.eng, h.cycle]
  exact h.withEng _

/-- An atom whose count may not be the flip's word: it reads no more than the words of the state in which it issued. -/
theorem atomRun_kept {s s2 : State} {e : Nat} {k : Task} {p : Pkt} {fn w : Nat} (h : IssueKept false [] (s.engineUsed e) s2) (hp : s.pkt k.pkt = some p)
    (ha : (k.a w).toNat < 524288) (hclean : Clean 5 0 (k.a w).toNat s) (hgate : 4 ≤ fn ∨ p.ordered = false ∨ (k.released = false ∧ s.gateFree p.turnout p.num = true)) :
    ∃ v, atomRun fn w k.counted s2 = (v, .go (k.counted.withAtom w (tget 0 s.eng.words (k.a w).toNat) (k.now s + s.atomLat (k.a w).toNat)) (Int.ofNat k.pc + 1)
        (s.atomLat (k.a w).toNat)) ∧
      IssueKept false [0x50010, Cnt.UNORDERED_OPS.addr p.turnout 0] ((s.withAtom (k.a w).toNat (atomTable fn w k s.eng.words)).engineUsed e) v := by
  have hfree : s2.gateFree p.turnout p.num = s.gateFree p.turnout p.num := (gateFree_congr h.eng h.pkts _ _).trans rfl
  obtain ⟨u, hrun, hu⟩ := atomRun_applies (k := k.counted) (w := w) (fn := fn) ((h.pkt _).trans hp) ha (hfree ▸ hgate)
  have hkept := (h.weaken (but := [Cnt.UNORDERED_OPS.addr p.turnout 0])).trans hu
  have hun : (0x50010 : Nat) ∉ [Cnt.UNORDERED_OPS.addr p.turnout 0] := by
    simp only [List.mem_singleton, Ctr.addr, Cnt.UNORDERED_OPS]
    omega
  obtain ⟨v, happly, hv⟩ := atomApply_clean (k := k.counted) (w := w) (hkept.clean hun (s := s.engineUsed e) hclean) fn
  refine ⟨v, ?_, ?_⟩
  · have hnow : k.counted.now u = k.now s := hkept.latNow k.home
    have hwords : u.eng.words = s.eng.words := (congrArg EngState.words hkept.eng :)
    have hlat : u.atomLat (k.a w).toNat = s.atomLat (k.a w).toNat := (atomLat_congr hkept.eng hkept.cycle _).trans rfl
    rw [hrun, happly, hnow, hwords]
    exact congrArg (fun n => (v, Ran.go (k.counted.withAtom w (tget 0 s.eng.words (k.a w).toNat) (k.now s + n)) (Int.ofNat k.pc + 1) n)) hlat
  · have hwords : u.eng.words = s.eng.words := (congrArg EngState.words hkept.eng :)
    rw [hwords] at hv
    exact ((hkept.withAtom (k.a w).toNat (atomTable fn w k s.eng.words)).mono (by simp)).trans (hv.mono (by simp))

/-- A task that waits for its order gate. -/
theorem issue_hold {e : Fin 512} {t : Fin 8} {k : Task} {w : Nat} {s : State} (h : CanIssue e t k w s) {mine : Nat → Bool} (hmine : mine w = true)
    (f : Nat → Task → State → State × Ran) (hf : ∀ s2, IssueKept false [] (s.engineUsed e.val) s2 → f w k.counted s2 = (s2, .hold k.counted)) :
    ∃ x, issue e t s mine f = .next x ∧ Issued e t { k.counted with waiting := true } s x := by
  obtain ⟨s2, hs2, hissue⟩ := issue_eq h hmine f
  rw [hissue, hf s2 hs2]
  exact issued_of_kept (hs2.trans (issueKept_stamp s2 e.val t.val _)) rfl

theorem atomIs_of_eq {w fn : Nat} (hop : insOp w = 0x3B) (hfn : insFunc w = fn) : atomIs fn w = true := by
  unfold atomIs
  rw [hop, hfn]
  simp

/-- The task after an atom that goes on. -/
theorem after_withAtom (k : Task) (w : Nat) (old : DWord) (n pc c : Nat) :
    ({ k.counted.withAtom w old n with pc := pc, fetchAt := c + 1 } : Task) = after { k.put (insX w) old n 2 with atomAt := max k.atomAt n } pc c := by
  unfold Task.withAtom Task.put after
  split
  · rfl
  · rfl

/-- Settles O29. -/
theorem engineAtomsAndOrderGate : Obligations.EngineAtomsAndOrderGate := by
  unfold Obligations.EngineAtomsAndOrderGate
  refine ⟨?_, ?_, ?_, ?_⟩
  · intro c fn f hc e t k w p s hcan hyields hop hfn hpc hp ha hclean hgate
    rw [exec_atoms hc, if_neg (ne_true_of_eq_false hyields)]
    obtain ⟨x, k1, hx, rfl, htask, hone, hregs, heng, hrest⟩ := issue_go_from (banks := false) (but := [0x50010, Cnt.UNORDERED_OPS.addr p.turnout 0])
      (s' := s.withAtom (k.a w).toNat (atomTable fn w k s.eng.words))
      (P := fun k1 => k1 = k.counted.withAtom w (tget 0 s.eng.words (k.a w).toNat) (k.now s + s.atomLat (k.a w).toNat))
      hcan (atomIs_of_eq hop hfn) (atomRun fn) rfl hpc rfl fun s2 hs2 => by
        obtain ⟨v, hrun, hv⟩ := atomRun_kept hs2 hp ha hclean hgate
        exact ⟨v, _, _, hrun, rfl, hv⟩
    rw [after_withAtom] at htask
    have hwords : x.eng.words = atomTable fn w k s.eng.words := congrArg EngState.words heng
    refine ⟨x, s.atomLat (k.a w).toNat, hx, rfl, htask, hone, fun a h1 h2 h3 h4 => hregs a h1 h2 (by simp [h3, h4]), ?_, fun i hi => ?_, ?_, ?_⟩
    · rw [hwords, atomTable_self]
      exact atomWord_atoms hc k w _
    · rw [hwords, atomTable_ne _ _ _ _ hi]
    · exact congrArg (fun z : EngState => { z with atomCycle := s.eng.atomCycle, atomWords := s.eng.atomWords, words := s.eng.words }) heng
    · exact congrArg (fun z : State => { z with eng := s.eng }) hrest
  · intro c fn f hc e t s hyields
    rw [exec_atoms hc, if_pos hyields]
  · intro c fn f hc e t k w p s hcan hyields hop hfn hlt hp ha hord hrel hgate
    rw [exec_atoms hc, if_neg (ne_true_of_eq_false hyields)]
    refine issue_hold hcan (atomIs_of_eq hop hfn) (atomRun fn) fun s2 hs2 => ?_
    have hfree : s2.gateFree p.turnout p.num = false := ((gateFree_congr hs2.eng hs2.pkts _ _).trans rfl).trans hgate
    exact atomRun_holds (k := k.counted) ((hs2.pkt _).trans hp) ha hlt hord hrel hfree
  · intro c fn f hc e t k w p s htask hword hfn hwait hp hfree hclean hpc
    obtain ⟨v, happly, hv⟩ := atomApply_clean (s := s) (k := { k with waiting := false }) (w := w) hclean (insFunc w)
    have hgate : IssueKept false [] v (v.stampGate e.val t.val (s.atomLat (k.a w).toNat)) := issueKept_stamp _ _ _ _
    obtain ⟨v', hsettle, hv'⟩ := settle_go (hv.trans hgate.weaken) t.val k
      ({ k with waiting := false }.withAtom w (tget 0 s.eng.words (k.a w).toNat) (k.now s + s.atomLat (k.a w).toNat)) (insOp w) 0 (s.atomLat (k.a w).toNat) hpc
    obtain ⟨x, hx, heng, -, hrest⟩ := done_of_kept (s0 := s) (hv'.putTask e.val t.val (some { { k with waiting := false }.withAtom w
      (tget 0 s.eng.words (k.a w).toNat) (k.now s + s.atomLat (k.a w).toNat) with pc := k.pc + 1, fetchAt := s.latNow (e.val / 16) + 1 })) rfl
    have hexec : exec (.orderGateAcquire e t) s = .next x := by
      show execOrderGateAcquire e t s = _
      unfold execOrderGateAcquire
      simp only [htask, hp, hword]
      rw [if_neg (by simp [hwait, hfree]), happly]
      exact (congrArg (done s) hsettle).trans hx
    have hwords : x.eng.words = atomTable (insFunc w) w { k with waiting := false } s.eng.words := (congrArg EngState.words heng :)
    refine ⟨x, k.now s + s.atomLat (k.a w).toNat, hexec, ?_, ?_, ?_, fun i hi => ?_, ?_, ?_⟩
    · unfold State.atomLat
      split
      · exact .inr rfl
      · exact .inl rfl
    · refine ((congrArg (fun z : EngState => tget none z.tasks (8 * e.val + t.val)) heng).trans (task_putTask_self _ _ _ _)).trans ?_
      unfold Task.withAtom Task.put
      split
      · rfl
      · rfl
    · rw [hwords]
      exact (atomTable_self _ _ _ _).trans (hfn ▸ atomWord_atoms hc { k with waiting := false } w _)
    · rw [hwords]
      exact atomTable_ne _ _ _ _ hi
    · exact congrArg (fun z : EngState => { z with tasks := s.eng.tasks, lastIssue := s.eng.lastIssue, atomCycle := s.eng.atomCycle, atomWords := s.eng.atomWords, words := s.eng.words }) heng
    · exact congrArg (fun z : State => { z with eng := s.eng }) hrest

/-! ### Control and status registers (R527, R533, R714) -/

/-- The operation of CSRR. -/
def csrrRun (e : Fin 512) (t : Fin 8) (w : Nat) (k : Task) (s : State) : State × Ran :=
  match s.pkt k.pkt with
  | none => (s, .trap 10)
  | some p =>
    match s.csrRead e.val t.val k p (insImm w) with
    | .inr c => (s, .trap c)
    | .inl v =>
      let s1 := if timerCsr (insImm w) then (s.bump Cnt.TIMER_READS p.turnout).perfLat (e.val / 16) 11 1 else s
      (s1, k.result s w (BitVec.ofNat 64 v) 1)

/-- A readable CSR: its value, and what a timer read counts. -/
theorem csrrRun_reads {e : Fin 512} {t : Fin 8} {w v : Nat} {k : Task} {s : State} {p : Pkt} (hp : s.pkt k.pkt = some p)
    (hv : s.csrRead e.val t.val k p (insImm w) = .inl v) :
    ∃ u, csrrRun e t w k s = (u, k.result s w (BitVec.ofNat 64 v) 1) ∧ IssueKept false [Cnt.TIMER_READS.addr p.turnout 0] s u := by
  have hlat : e.val / 16 < 32 := by have := e.isLt; omega
  unfold csrrRun
  rw [hp]
  dsimp only
  rw [hv]
  have hcount : IssueKept false [Cnt.TIMER_READS.addr p.turnout 0] s (s.bump Cnt.TIMER_READS p.turnout) := issueKept_bump _ _ _ _ _ _ fun a ha => .inr ha
  exact ⟨_, rfl, .ite (hcount.trans (issueKept_perfLat _ hlat _ _).weaken) (.refl s)⟩

theorem IssueKept.devNs {banks : Bool} {but : List Nat} {s t : State} (h : IssueKept banks but s t) : t.devNs = s.devNs := by
  obtain ⟨r, l, m, p, b, x, rfl, -, -⟩ := h.rest
  rfl

/-- Any CSR but csr_cnt reads the same before and after other reads. -/
theorem csrRead_kept {s s2 : State} {e : Nat} (h : IssueKept false [] (s.engineUsed e) s2) (k : Task) (p : Pkt) (t : Nat) {i : Nat} (hi : i ≠ 20) :
    s2.csrRead e t k.counted p i = s.csrRead e t k p i := by
  have hnow : k.counted.now s2 = k.now s := h.latNow k.home
  have hns : s2.devNs = s.devNs := h.devNs
  unfold State.csrRead
  rw [hns, hnow]
  split
  case h_14 => exact absurd rfl hi
  all_goals rfl

/-- What csr_cnt returns: each selection up to 13 has a value. -/
theorem csrCnt_value (s : State) (lat : Nat) {k : Task} (h : k.cntSel ≤ 13) :
    ∃ v, s.csrCnt lat k = some v ∧ (k.cntSel = 12 → v = k.issued) ∧ (k.cntSel = 13 → v = k.now s - k.start) := by
  unfold State.csrCnt
  dsimp only
  split
  · exact ⟨_, rfl, by omega, by omega⟩
  · split
    · exact ⟨_, rfl, by omega, by omega⟩
    · split
      · exact ⟨_, rfl, fun _ => rfl, by omega⟩
      · rw [if_pos (by omega)]
        exact ⟨_, rfl, by omega, fun _ => rfl⟩

/-! ### What packets and their storage leave -/

/-- A state without what packet handling changes: register words, the log, packets, protected memory, performance counters, policers, free values and the
gate of the last burst. -/
def State.offPackets (s : State) : State :=
  { s with regs := [], logs := {}, pk := {}, mem := {}, perf := {}, hg := {}, fresh := 0, self := { s.self with sent := none } }

theorem offPackets_of_regsLogs {s t : State} (h : RegsLogs s t) : t.offPackets = s.offPackets := by
  obtain ⟨r, l, b, rfl⟩ := h
  rfl

theorem offPackets_of_memWritten {s t : State} (h : MemWritten s t) : t.offPackets = s.offPackets := by
  obtain ⟨-, r, l, m, b, rfl⟩ := h
  rfl

theorem offPackets_of_issueKept {banks : Bool} {but : List Nat} {s t : State} (h : IssueKept banks but s t) : t.offPackets = s.offPackets := by
  obtain ⟨-, r, l, m, p, b, x, rfl, -, -⟩ := h
  rfl

section
variable (s : State)

theorem offPackets_pk (p : PktState) : ({ s with pk := p } : State).offPackets = s.offPackets := id rfl
@[simp] theorem offPackets_set (f : Field) (v i j : Nat) : (s.set f v i j).offPackets = s.offPackets := offPackets_of_regsLogs (regsLogs_set _ _ _ _ _)
@[simp] theorem offPackets_setPkt (id : Nat) (p : Option Pkt) : (s.setPkt id p).offPackets = s.offPackets := offPackets_pk s _
@[simp] theorem offPackets_setDomain (t : Nat) (d : Domain) : (s.setDomain t d).offPackets = s.offPackets := offPackets_pk s _
@[simp] theorem offPackets_refreshHg : s.refreshHg.offPackets = s.offPackets := (offPackets_set _ _ _ _ _).trans (offPackets_set _ _ _ _ _)
@[simp] theorem offPackets_free (tag : Nat) : (s.free tag).2.offPackets = s.offPackets := id rfl
@[simp] theorem offPackets_leave (t n : Nat) : (s.leave t n).offPackets = s.offPackets := offPackets_setDomain s _ _
@[simp] theorem offPackets_bump (c : Ctr) (i j n : Nat) : (s.bump c i j n).offPackets = s.offPackets := offPackets_of_regsLogs (regsLogs_bump _ _ _ _ _)
@[simp] theorem offPackets_log (wb type : Nat) (d : List Byte) : (s.log wb type d).offPackets = s.offPackets := offPackets_of_regsLogs (regsLogs_log _ _ _ _)
@[simp] theorem offPackets_perfDev (ev n : Nat) : (s.perfDev ev n).offPackets = s.offPackets := offPackets_of_issueKept (issueKept_perfDev _ _ _)
@[simp] theorem offPackets_bankAccess (b k : Nat) : (s.bankAccess b k).offPackets = s.offPackets := offPackets_of_issueKept (issueKept_bankAccess _ _ _)
@[simp] theorem offPackets_memWrite (mem inst word : Nat) (poison : Bool) : (s.memWrite mem inst word poison).offPackets = s.offPackets :=
  offPackets_of_memWritten (memWritten_memWrite _ _ _ _ _)
@[simp] theorem offPackets_memWrites2 (mem word n : Nat) : (s.memWrites2 mem word n).offPackets = s.offPackets := offPackets_of_memWritten (memWritten_memWrites2 _ _ _ _)

@[simp] theorem offPackets_setQPkts (q v : Nat) : (s.setQPkts q v).offPackets = s.offPackets := ite_keeps State.offPackets rfl rfl
@[simp] theorem offPackets_setQParcels (q v : Nat) : (s.setQParcels q v).offPackets = s.offPackets := ite_keeps State.offPackets rfl rfl

@[simp] theorem offPackets_setQueue (q : Nat) (l : List Nat) : (s.setQueue q l).offPackets = s.offPackets := by
  unfold State.setQueue
  exact (offPackets_setQPkts _ _ _).trans rfl

@[simp] theorem offPackets_release (id : Nat) : (s.release id).offPackets = s.offPackets := by
  unfold State.release
  split
  · rfl
  · dsimp only
    rw [offPackets_refreshHg, offPackets_setPkt]
    split <;> rfl

@[simp] theorem offPackets_dropPkt (id : Nat) : (s.dropPkt id).offPackets = s.offPackets := (offPackets_setPkt _ _ _).trans (offPackets_release s id)

@[simp] theorem offPackets_dropTaskPkt (id : Nat) : (s.dropTaskPkt id).offPackets = s.offPackets := by
  unfold State.dropTaskPkt
  split
  · rfl
  · exact ite_keeps State.offPackets ((offPackets_leave _ _ _).trans (offPackets_dropPkt s id)) (offPackets_dropPkt s id)

@[simp] theorem offPackets_tailDrop (q : Nat) : (s.tailDrop q).offPackets = s.offPackets :=
  (offPackets_perfDev _ _ _).trans (ite_keeps State.offPackets (offPackets_bump _ _ _ _ _) (offPackets_bump _ _ _ _ _))

@[simp] theorem offPackets_dataDrop (q check : Nat) : (s.dataDrop q check).offPackets = s.offPackets := by
  unfold State.dataDrop
  dsimp only
  split <;> simp

@[simp] theorem offPackets_parcelIn (used : List Nat) (b : Nat) : (s.parcelIn used b).1.offPackets = s.offPackets := by
  unfold State.parcelIn
  dsimp only
  split <;> rfl

@[simp] theorem offPackets_parcelFrom (used : List Nat) (nb fuel b : Nat) : (s.parcelFrom used nb fuel b).1.offPackets = s.offPackets := by
  induction fuel generalizing s b with
  | zero => rfl
  | succ fuel ih =>
    unfold State.parcelFrom
    dsimp only
    split
    · exact offPackets_parcelIn _ _ _
    · exact (ih _ _).trans (offPackets_parcelIn _ _ _)

@[simp] theorem offPackets_parcelRun (nb n : Nat) (used : List Nat) (b : Nat) (acc : List Nat) : (s.parcelRun nb n used b acc).1.offPackets = s.offPackets := by
  induction n generalizing s used b acc with
  | zero => rfl
  | succ n ih =>
    unfold State.parcelRun
    dsimp only
    split
    · exact (ih _ _ _ _).trans (offPackets_parcelFrom _ _ _ _ _)
    · exact offPackets_parcelFrom _ _ _ _ _

@[simp] theorem offPackets_takeParcels (n : Nat) : (s.takeParcels n).1.offPackets = s.offPackets := by
  unfold State.takeParcels
  split
  · rfl
  · dsimp only
    split
    · exact (offPackets_pk _ _).trans (offPackets_parcelRun _ _ _ _ _ _)
    · exact offPackets_parcelRun _ _ _ _ _ _

@[simp] theorem offPackets_takeRun (n : Nat) : (s.takeRun n).1.offPackets = s.offPackets := by
  unfold State.takeRun
  dsimp only
  split <;> rfl

@[simp] theorem offPackets_takeDesc : s.takeDesc.1.offPackets = s.offPackets := offPackets_free s 489

@[simp] theorem offPackets_writeParcelWord (p k : Nat) (data : List Byte) (poison : Bool) : (s.writeParcelWord p k data poison).offPackets = s.offPackets :=
  (offPackets_memWrite _ _ _ _ _).trans rfl

@[simp] theorem offPackets_writeParcels (data : List Byte) (poison ps : List Nat) : (s.writeParcels data poison ps).offPackets = s.offPackets :=
  foldl_keeps State.offPackets (fun _ _ => (offPackets_writeParcelWord _ _ _ _ _).trans (offPackets_bankAccess _ _ _)) _ s

@[simp] theorem offPackets_storePkt (id : Nat) (p : Pkt) (pool : Pool) (ps : List Nat) : (s.storePkt id p pool ps).offPackets = s.offPackets := by
  unfold State.storePkt
  dsimp only
  rw [offPackets_refreshHg, offPackets_writeParcels]
  split
  · exact (offPackets_memWrites2 _ _ _ _).trans rfl
  · rfl

@[simp] theorem offPackets_police (p : Pkt) : (s.police p).1.offPackets = s.offPackets := by
  unfold State.police
  dsimp only
  repeat' split
  all_goals rfl

@[simp] theorem offPackets_finishTag (q l : Nat) : (s.finishTag q l).1.offPackets = s.offPackets := by
  unfold State.finishTag
  dsimp only
  split <;> rfl

@[simp] theorem offPackets_admitData (id : Nat) (p : Pkt) (q : Nat) : (s.admitData id p q).offPackets = s.offPackets := by
  unfold State.admitData
  dsimp only
  split
  · simp
  · split <;> simp

@[simp] theorem offPackets_excReport (e t : Nat) (p : Pkt) (prog cause pc : Nat) (h : e / 16 < 32) : (s.excReport e t p prog cause pc).offPackets = s.offPackets := by
  unfold State.excReport
  dsimp only
  rw [offPackets_of_issueKept (issueKept_perfLat _ h _ _)]
  simp

@[simp] theorem offPackets_readWords (p : Pkt) (lo hi : Nat) : (s.readWords p lo hi 2).1.offPackets = s.offPackets :=
  offPackets_of_issueKept (readWords_eq s p lo hi).1

theorem latsIn_head_lt (role : Nat) : (s.latsIn role).headD 0 < 32 := by
  cases h : s.latsIn role with
  | nil => decide
  | cons x l =>
    have hx : x ∈ s.latsIn role := h ▸ List.mem_cons_self
    exact List.mem_range.1 (List.mem_filter.1 hx).1

@[simp] theorem offPackets_firmwareTask (id : Nat) : (s.firmwareTask id).offPackets = s.offPackets := by
  unfold State.firmwareTask
  split
  · rfl
  · next p hp =>
    dsimp only
    refine ite_keeps State.offPackets ((offPackets_dropPkt _ _).trans (offPackets_readWords _ _ _ _)) ?_
    have hlat := latsIn_head_lt s 1
    rw [offPackets_dropPkt, offPackets_set, offPackets_excReport _ _ _ _ _ _ _ (by omega), offPackets_free, offPackets_readWords]

@[simp] theorem offPackets_admitControl (id : Nat) (p : Pkt) (c : Nat) : (s.admitControl id p c).offPackets = s.offPackets := by
  have hdrop : ∀ u : State, ((((u.tailDrop (2048 + c)).bump Cnt.CQ_POOL_DROPS).set Reg.HG_EVENTS_CQ_FULL 1).dropPkt id).offPackets = u.offPackets := fun u => by simp
  unfold State.admitControl
  dsimp only
  split
  · exact hdrop s
  · split
    · exact (hdrop _).trans (offPackets_takeRun _ _)
    · refine ite_keeps State.offPackets ?_ ?_
      · simp
      · simp

@[simp] theorem offPackets_passRequest (id : Nat) (p : Pkt) : (s.passRequest id p).offPackets = s.offPackets := by
  unfold State.passRequest
  dsimp only
  split
  · simp
  · split
    · simp
    · split
      · simp
      · exact (offPackets_pk _ _).trans ((offPackets_bump _ _ _ _ _).trans ((offPackets_storePkt _ _ _ _ _).trans (offPackets_takeParcels _ _)))

@[simp] theorem offPackets_quenchDrop (t : Nat) : (s.quenchDrop t).offPackets = s.offPackets := by
  unfold State.quenchDrop State.quenchDiscards
  simp

theorem offPackets_destDrop {p : Pkt} {s1 : State} (h : s.destDrop p = some s1) : s1.offPackets = s.offPackets := by
  unfold State.destDrop at h
  dsimp only at h
  split at h
  · cases h
  · split at h
    · cases h
      exact offPackets_quenchDrop _ _
    · split at h
      · cases h
        exact offPackets_bump _ _ _ _ _
      · cases h

/-- Where a packet goes changes packets and their storage alone. -/
@[simp] theorem offPackets_dispose (id : Nat) (p : Pkt) : (s.dispose id p).offPackets = s.offPackets := by
  unfold State.dispose
  split
  · next s1 h => exact (offPackets_dropPkt _ _).trans (offPackets_destDrop s h)
  · dsimp only
    split
    · exact offPackets_passRequest _ _ _
    · split
      · simp
      · split
        · simp
        · split <;> simp

@[simp] theorem offPackets_newPkt (p : Pkt) : (s.newPkt p).1.offPackets = s.offPackets := (offPackets_pk _ _).trans (offPackets_setPkt _ _ _)

@[simp] theorem offPackets_commitEmits (id : Nat) (p : Pkt) (es : List Emit) : (s.commitEmits id p es).offPackets = s.offPackets := by
  unfold State.commitEmits
  dsimp only
  rw [offPackets_dropPkt]
  exact foldl_keeps State.offPackets (fun u x => by rw [offPackets_perfDev, offPackets_dispose, offPackets_newPkt]) es s

end

/-! ### The end of a task (R520, R530, R531) -/

theorem lat_lt (e : Fin 512) : e.val / 16 < 32 := by have := e.isLt; omega

/-- A thread that is free again. -/
theorem endTask_eng (s : State) (e : Fin 512) (t : Nat) : (s.endTask e.val t).eng = { s.eng with
    tasks := tput none s.eng.tasks (8 * e.val + t) none, latLast := tput 0 s.eng.latLast (e.val / 16) (s.latNow (e.val / 16)) } := by
  unfold State.endTask
  dsimp only
  rw [(issueKept_perfLat _ (lat_lt e) 9 1).eng]
  rfl

theorem endTask_pkt (s : State) (e : Fin 512) (t id : Nat) : (s.endTask e.val t).pkt id = s.pkt id := by
  unfold State.endTask
  dsimp only
  rw [(issueKept_perfLat _ (lat_lt e) 9 1).pkt]
  rfl

/-- The state of the engines after a task has reached END. -/
theorem taskEnds_eng {s : State} {e : Fin 512} {t : Nat} {k : Task} {p : Pkt} (hp : s.pkt k.pkt = some p) :
    (s.taskEnds e.val t k).eng = if p.ordered then { (s.endTask e.val t).eng with ended := s.eng.ended ++ [(k.pkt, k.emits)] } else (s.endTask e.val t).eng := by
  have hended : (s.endTask e.val t).eng.ended = s.eng.ended := by rw [endTask_eng]
  unfold State.taskEnds
  dsimp only
  rw [endTask_pkt, hp]
  dsimp only
  split
  · rw [hended]
  · exact (congrArg State.eng (offPackets_commitEmits (s.endTask e.val t) k.pkt p k.emits) :)

theorem done_eng (s u : State) : ∃ x, done s u = .next x ∧ x.eng = u.eng := by
  obtain ⟨r, l, m, b, hdone, -⟩ := done_eq s u
  exact ⟨_, hdone, rfl⟩

/-- An instruction at which the task ends. -/
theorem issue_ended {e : Fin 512} {t : Fin 8} {k : Task} {w : Nat} {s : State} {p : Pkt} (h : CanIssue e t k w s) {mine : Nat → Bool} (hmine : mine w = true)
    (f : Nat → Task → State → State × Ran) (hf : ∀ s2, f w k.counted s2 = (s2, .ended)) (hp : s.pkt k.pkt = some p) :
    ∃ x, issue e t s mine f = .next x ∧ x.task e.val t.val = none ∧ (p.ordered = true → x.eng.ended = s.eng.ended ++ [(k.pkt, k.emits)] ∧ OneThread e t s x) := by
  obtain ⟨s2, hs2, hissue⟩ := issue_eq h hmine f
  have hstamp : IssueKept false [] (s.engineUsed e.val) (s2.stampIssue e.val t.val (k.readyAt w) (some 1) false) := hs2.trans (issueKept_stamp _ _ _ _)
  obtain ⟨x, hx, heng⟩ := done_eng s (((s2.stampIssue e.val t.val (k.readyAt w) (some 1) false).taskEnds e.val t.val k.counted).sampleCount (e.val / 16))
  rw [(issueKept_sampleCount _ _).eng, taskEnds_eng (k := k.counted) ((hstamp.pkt _).trans hp), endTask_eng, hstamp.eng] at heng
  have htasks : x.eng.tasks = tput none s.eng.tasks (8 * e.val + t.val) none := by
    rw [heng]
    split <;> rfl
  refine ⟨x, ?_, ?_, fun hord => ?_⟩
  · rw [hissue, hf]
    exact hx
  · unfold State.task
    rw [htasks]
    exact tget_tput_self _ _ _ _
  · rw [if_pos hord] at heng
    have hlast : x.eng.lastIssue = tput 0 s.eng.lastIssue e.val (s.latNow (e.val / 16) + 1) := (congrArg EngState.lastIssue heng :)
    refine ⟨(congrArg EngState.ended heng :), fun n hn => ?_, ?_⟩
    · rw [htasks]
      exact tget_tput_ne _ _ _ _ hn
    · rw [hlast]
      exact tget_tput_self _ _ _ _

/-! ### The remaining instructions (R521, R522, R525, R529) -/

/-- The operation of CSRW. -/
def csrwRun (w : Nat) (k : Task) (s : State) : State × Ran :=
  let i := insImm w
  let v := (k.a w).toNat
  if i = 2 then match k.setLen v with
    | some k1 => (s, k1.goOn)
    | none => (s, .trap 9)
  else if i = 7 then (s, ({ k with hdrSel := v % 16 } : Task).goOn)
  else if i = 19 then (s, ({ k with cntSel := v } : Task).goOn)
  else if i ≤ 8 || (16 ≤ i && i ≤ 20) then (s, .trap 10)
  else (s, .trap 1)

/-- The operation of EMIT. -/
def emitRun (e : Fin 512) (t : Fin 8) (w : Nat) (k : Task) (s : State) : State × Ran :=
  let action := (k.a w).toNat
  let v := actVerb action
  if (v ≠ 0 ∧ v ≠ 3 ∧ v ≠ 4) ∨ 8 ≤ k.emits.length then (s, .trap 8)
  else if k.data.length < 60 ∨ 9724 < k.data.length then (s, .trap 9)
  else
    let r := s.copyMarks e.val t.val k
    (r.1, ({ k with emits := k.emits ++ [{ action := action, data := k.data, poison := r.2 }] } : Task).goOn)

theorem copyMarks_kept (s : State) (e t : Nat) (k : Task) : IssueKept true [] s (s.copyMarks e t k).1 := by
  unfold State.copyMarks
  split
  · exact .refl s
  · exact (readBuf_eq s e t k _).1.weaken.trans (readFar_eq _ k _ _).1

theorem setLen_counted {k k1 : Task} {v : Nat} (h : k.setLen v = some k1) : k.counted.setLen v = some k1.counted := by
  unfold Task.setLen at h ⊢
  dsimp only at h ⊢
  split at h
  · cases h
  · next hlen =>
    cases h
    exact if_neg hlen

theorem setLen_pc {k k1 : Task} {v : Nat} (h : k.setLen v = some k1) : k1.pc = k.pc := by
  unfold Task.setLen at h
  dsimp only at h
  split at h
  · cases h
  · cases h
    rfl

theorem inOrder_eq {s s2 : State} {e : Nat} {k : Task} {p : Pkt} (h : IssueKept false [] (s.engineUsed e) s2) (hp : s.pkt k.pkt = some p) : s2.inOrder k.counted = p.ordered := by
  unfold State.inOrder
  rw [show s2.pkt k.counted.pkt = some p from (h.pkt _).trans hp]

/-- Settles O30. -/
theorem engineRegistersEmitAndEnd : Obligations.EngineRegistersEmitAndEnd := by
  unfold Obligations.EngineRegistersEmitAndEnd
  refine ⟨?_, ?_, ?_, ?_, ?_, ?_⟩
  · intro e t k w v p s hcan hop hpc hp himm hread
    obtain ⟨u, k1, hu, rfl, hout⟩ := issue_go (banks := false) (but := [Cnt.TIMER_READS.addr p.turnout 0])
      (P := fun k1 => k1 = k.counted.put (insX w) (BitVec.ofNat 64 v) (k.now s + 1)) hcan (opIs_of_eq hop) (csrrRun e t) hpc fun s2 hs2 => by
        obtain ⟨s3, hrun, hkept⟩ := csrrRun_reads (e := e) (t := t) (w := w) (k := k.counted) ((hs2.pkt _).trans hp) ((csrRead_kept hs2 k p t.val himm).trans hread)
        have hnow : k.counted.now s2 = k.now s := hs2.latNow k.home
        exact ⟨s3, _, 1, hrun.trans (congrArg (Prod.mk s3) (result_of_now hnow _ _ _)), rfl, hkept⟩
    rw [if_neg Bool.false_ne_true, after_put] at hout
    exact ⟨u, hu, hout⟩
  · intro e t k w p s hcan hop hpc hp himm hcnt hsel
    obtain ⟨u, k1, hu, ⟨v, rfl, hv⟩, hout⟩ := issue_go (banks := false) (but := [Cnt.TIMER_READS.addr p.turnout 0])
      (P := fun k1 => ∃ v, k1 = k.counted.put (insX w) (BitVec.ofNat 64 v) (k.now s + 1) ∧ (k.cntSel = 12 → v = k.issued + 1) ∧ (k.cntSel = 13 → v = k.now s - k.start))
      hcan (opIs_of_eq hop) (csrrRun e t) hpc fun s2 hs2 => by
        have hnow : k.counted.now s2 = k.now s := hs2.latNow k.home
        obtain ⟨v, hcsr, h12, h13⟩ := csrCnt_value s2 (e.val / 16) (k := k.counted) hsel
        have hread : s2.csrRead e.val t.val k.counted p (insImm w) = .inl v := by
          rw [himm]
          unfold State.csrRead
          rw [show k.counted.cntRead = true from hcnt, hcsr]
          rfl
        obtain ⟨s3, hrun, hkept⟩ := csrrRun_reads (e := e) (t := t) (w := w) (k := k.counted) ((hs2.pkt _).trans hp) hread
        exact ⟨s3, _, 1, hrun.trans (congrArg (Prod.mk s3) (result_of_now hnow _ _ _)), ⟨v, rfl, h12, fun h => hnow ▸ h13 h⟩, hkept⟩
    rw [if_neg Bool.false_ne_true, after_put] at hout
    exact ⟨u, v, hu, hout, hv⟩
  · intro e t k k1 w s hcan hop hpc hcase
    refine issue_pure (k1 := k1.counted) hcan (opIs_of_eq hop) csrwRun hpc fun s2 _ => ⟨1, ?_⟩
    have hk1 : ∀ s3 : State, (s3, k1.counted.goOn) = (s3, Ran.go k1.counted ((k.pc + 1 : Nat) : Int) 1) := fun s3 => by
      have hpc1 : k1.pc = k.pc := by
        rcases hcase with ⟨-, h⟩ | ⟨-, rfl⟩ | ⟨-, rfl⟩
        · exact setLen_pc h
        · rfl
        · rfl
      unfold Task.goOn
      rw [show k1.counted.pc = k.pc from hpc1]
      rfl
    refine Eq.trans ?_ (hk1 s2)
    unfold csrwRun
    rcases hcase with ⟨himm, hlen⟩ | ⟨himm, rfl⟩ | ⟨himm, rfl⟩
    · have hlen' : k.counted.setLen (k.counted.a w).toNat = some k1.counted := setLen_counted hlen
      rw [himm]
      dsimp only
      rw [if_pos rfl, hlen']
    · rw [himm]
      rfl
    · rw [himm]
      rfl
  · intro e t k w s hcan hop hpc hverb hemits hlo hhi
    obtain ⟨u, k1, hu, ⟨m, rfl⟩, hout⟩ := issue_go (banks := true) (but := [])
      (P := fun k1 => ∃ m, k1 = { k.counted with emits := k.emits ++ [{ action := (k.a w).toNat, data := k.data, poison := m }] })
      hcan (opIs_of_eq hop) (emitRun e t) hpc fun s2 hs2 => by
        refine ⟨_, _, 1, ?_, ⟨(s2.copyMarks e.val t.val k.counted).2, rfl⟩, copyMarks_kept s2 e.val t.val k.counted⟩
        have hok : ¬((actVerb (k.a w).toNat ≠ 0 ∧ actVerb (k.a w).toNat ≠ 3 ∧ actVerb (k.a w).toNat ≠ 4) ∨ 8 ≤ k.emits.length) := by omega
        exact (if_neg hok).trans (if_neg (by show ¬(k.data.length < 60 ∨ 9724 < k.data.length); omega))
    rw [if_pos rfl] at hout
    exact ⟨u, m, hu, hout⟩
  · intro e t k w p s hcan hop himm hpc hp
    obtain ⟨u, k1, hu, rfl, hout⟩ := issue_go (banks := false) (but := []) (P := fun k1 => k1 = { k.counted with released := k.released || p.ordered })
      hcan (mine := fun w => insOp w == 0x3F && insImm w == 1) (by simp [hop, himm])
      (fun _ k s => (s, (if s.inOrder k then { k with released := true } else k).goOn)) hpc fun s2 hs2 => by
        refine ⟨s2, _, 1, ?_, rfl, .refl s2⟩
        rw [inOrder_eq hs2 hp]
        cases p.ordered with
        | true => rw [if_pos rfl, Bool.or_true]; rfl
        | false => rw [if_neg Bool.false_ne_true, Bool.or_false]; rfl
    rw [if_neg Bool.false_ne_true] at hout
    exact ⟨u, hu, hout⟩
  · intro e t k w p s hcan hop himm hp
    exact issue_ended hcan (mine := fun w => insOp w == 0x3F && insImm w != 1) (by simp [hop, himm])
      (fun w _ s => if insImm w = 0 then (s, .ended) else (s, .trap 1)) (fun s2 => if_pos himm) hp

/-! ### Exceptions (R534) -/

/-- A register word that neither the end of a packet nor that of a task changes. -/
def OffTaskEnd (a : Nat) : Prop :=
  ¬issueWord a ∧ a ∉ squelchWords ∧ a ≠ 0x240004 ∧ a ≠ 0x24000C ∧ a ≠ 0x280014 ∧ ∀ i, Reg.TN_HG_STATUS_CHARGED.addr i 0 ≠ a ∧ Reg.LAT_STATUS_THREADS_BUSY.addr i 0 ≠ a

section
variable {a : Nat} (h : OffTaskEnd a)
include h

theorem reg_dropPkt (s : State) (id : Nat) : (s.dropPkt id).reg a = s.reg a := by
  obtain ⟨-, -, hdesc, hshared, -, hwords⟩ := h
  have hhg : ∀ u : State, u.refreshHg.reg a = u.reg a := fun u => (reg_set_ne _ _ _ _ _ hdesc).trans (reg_set_ne _ _ _ _ _ hshared)
  have hrelease : (s.release id).reg a = s.reg a := by
    unfold State.release
    split
    · rfl
    · dsimp only
      refine (hhg _).trans ?_
      split
      · exact reg_set_ne s _ _ _ _ (hwords _).1.symm
      · rfl
  exact hrelease

theorem reg_dropTaskPkt (s : State) (id : Nat) : (s.dropTaskPkt id).reg a = s.reg a := by
  unfold State.dropTaskPkt
  split
  · rfl
  · split
    · exact reg_dropPkt h s id
    · exact reg_dropPkt h s id

theorem reg_endTask (s : State) (e : Fin 512) (t : Nat) : (s.endTask e.val t).reg a = s.reg a := by
  obtain ⟨hissue, hsq, -, -, -, hwords⟩ := h
  unfold State.endTask
  dsimp only
  exact ((issueKept_perfLat _ (lat_lt e) 9 1).regs a hissue hsq List.not_mem_nil).trans (reg_set_ne _ _ _ _ _ (hwords _).2.symm)

end

/-- The counter of a cause below 8 of a lateral. -/
theorem excWord_off {lat j : Nat} (hlat : lat < 32) (hj : j < 8) : OffTaskEnd (Cnt.EXC.addr lat j) := by
  unfold OffTaskEnd issueWord squelchWords
  simp only [Ctr.addr, Field.addr, Cnt.EXC, Reg.TN_HG_STATUS_CHARGED, Reg.LAT_STATUS_THREADS_BUSY, List.mem_cons, List.not_mem_nil, or_false]
  refine ⟨by omega, by omega, by omega, by omega, by omega, fun i => by omega⟩

theorem count_exc_congr {s t : State} {lat j : Nat} (h : t.reg (Cnt.EXC.addr lat j) = s.reg (Cnt.EXC.addr lat j)) : t.count Cnt.EXC lat j = s.count Cnt.EXC lat j :=
  congrArg BitVec.toNat h

theorem count_excReport (s : State) (e : Fin 512) (t : Nat) (p : Pkt) (prog : Nat) {cause : Nat} (pc : Nat) (hc : cause ≤ 8) :
    (s.excReport e.val t p prog cause pc).count Cnt.EXC (e.val / 16) (cause - 1) = min (s.count Cnt.EXC (e.val / 16) (cause - 1) + 1) 0xFFFFFFFF := by
  obtain ⟨hissue, hsq, -⟩ := excWord_off (lat_lt e) (show cause - 1 < 8 by omega)
  have htask : (s.bump Cnt.TASK_EXC p.turnout).count Cnt.EXC (e.val / 16) (cause - 1) = s.count Cnt.EXC (e.val / 16) (cause - 1) := by
    refine count_exc_congr (reg_bump_ne _ _ _ _ _ ?_)
    simp only [Ctr.wordsOf, Ctr.addr, Cnt.EXC, Cnt.TASK_EXC, if_true, List.mem_singleton]
    omega
  unfold State.excReport
  dsimp only
  rw [count_exc_congr ((issueKept_perfLat _ (lat_lt e) 10 1).regs _ hissue hsq List.not_mem_nil), count_exc_congr ((issueKept_log _ _ _ _).regs _ hissue hsq List.not_mem_nil),
    count_exc_congr (reg_set_ne _ _ _ _ _ ?_), count_bump_one _ _ _ _ _ rfl, htask]
  simp only [Ctr.addr, Field.addr, Cnt.EXC, Reg.LAT_EVENTS_EXC]
  omega

theorem excReport_eng (s : State) (e : Fin 512) (t : Nat) (p : Pkt) (prog cause pc : Nat) : (s.excReport e.val t p prog cause pc).eng = s.eng :=
  (congrArg State.eng (offPackets_excReport s e.val t p prog cause pc (lat_lt e)) :)

/-- An exception frees its thread and counts its cause. -/
theorem raiseExc_counts {s : State} {e : Fin 512} {t : Nat} {k : Task} {p : Pkt} {cause : Nat} (hp : s.pkt k.pkt = some p) (hc : cause ≤ 8) (pc : Nat) :
    (s.raiseExc e.val t k cause pc).task e.val t = none ∧
      (s.raiseExc e.val t k cause pc).count Cnt.EXC (e.val / 16) (cause - 1) = min (s.count Cnt.EXC (e.val / 16) (cause - 1) + 1) 0xFFFFFFFF := by
  have hoff := excWord_off (lat_lt e) (show cause - 1 < 8 by omega)
  have hbite : Cnt.EXC.addr (e.val / 16) (cause - 1) ≠ 0x280014 := by
    obtain ⟨-, -, -, -, hbite, -⟩ := hoff
    exact hbite
  unfold State.raiseExc
  rw [hp]
  dsimp only
  refine ⟨?_, ?_⟩
  · have heng : ∀ u : State, ((if cause = 6 then u.set Reg.MEM_EVENTS_POISON_BITE 1 else u).dropTaskPkt k.pkt).eng = u.eng := fun u =>
      ((congrArg State.eng (offPackets_dropTaskPkt _ k.pkt) :)).trans (ite_keeps State.eng rfl rfl)
    unfold State.task
    rw [heng, endTask_eng]
    exact task_putTask_self _ _ _ _
  · rw [count_exc_congr (reg_dropTaskPkt hoff _ _), count_exc_congr (ite_keeps (fun u : State => u.reg _) (reg_set_ne _ _ _ _ _ hbite) rfl),
      count_exc_congr (reg_endTask hoff _ e t), count_excReport s e t p k.prog pc hc]

/-- An exception from a state that an issue has left, up to the end of its command. -/
theorem done_raised {banks : Bool} {s s' u v : State} {e : Fin 512} {t : Nat} {k : Task} {p : Pkt} {cause : Nat} (hu : IssueKept banks [] s' u)
    (hs : s'.pk.pkts = s.pk.pkts) (hregs : s'.regs = s.regs) (hp : s.pkt k.pkt = some p) (hc : cause ≤ 8) (pc : Nat) (hv : IssueKept false [] (u.raiseExc e.val t k cause pc) v) :
    ∃ x, done s v = .next x ∧ x.task e.val t = none ∧
      x.count Cnt.EXC (e.val / 16) (cause - 1) = min (s.count Cnt.EXC (e.val / 16) (cause - 1) + 1) 0xFFFFFFFF := by
  obtain ⟨hissue, hsq, -⟩ := excWord_off (lat_lt e) (show cause - 1 < 8 by omega)
  have hpu : u.pkt k.pkt = some p := by
    rw [hu.pkt, ← hp]
    unfold State.pkt
    rw [hs]
  obtain ⟨htask, hcount⟩ := raiseExc_counts (e := e) (t := t) hpu hc pc
  obtain ⟨r, l, m, b, hdone, hkept⟩ := done_eq s v
  refine ⟨_, hdone, ?_, ?_⟩
  · rw [← htask]
    exact (congrArg (fun z : EngState => tget none z.tasks (8 * e.val + t)) hv.eng)
  · have hsame : s'.reg (Cnt.EXC.addr (e.val / 16) (cause - 1)) = s.reg (Cnt.EXC.addr (e.val / 16) (cause - 1)) := by
      unfold State.reg
      rw [hregs]
    rw [count_exc_congr (hkept.of_nil hsq), count_exc_congr (hv.regs _ hissue hsq List.not_mem_nil), hcount,
      count_exc_congr ((hu.regs _ hissue hsq List.not_mem_nil).trans hsame)]

/-- An instruction that raises an exception. -/
theorem issue_trap {e : Fin 512} {t : Fin 8} {k : Task} {w : Nat} {s : State} {p : Pkt} (h : CanIssue e t k w s) {mine : Nat → Bool} (hmine : mine w = true)
    (f : Nat → Task → State → State × Ran) {cause : Nat} (hf : ∀ s2, f w k.counted s2 = (s2, .trap cause)) (hp : s.pkt k.pkt = some p) (hc : cause ≤ 8) :
    ∃ x, issue e t s mine f = .next x ∧ x.task e.val t.val = none ∧
      x.count Cnt.EXC (e.val / 16) (cause - 1) = min (s.count Cnt.EXC (e.val / 16) (cause - 1) + 1) 0xFFFFFFFF := by
  obtain ⟨s2, hs2, hissue⟩ := issue_eq h hmine f
  rw [hissue, hf]
  exact done_raised (s' := s.engineUsed e.val) (k := k.counted) (hs2.trans (issueKept_stamp _ _ _ _)) rfl rfl hp hc k.pc (issueKept_sampleCount _ _)

/-- A task that goes on outside the code. -/
theorem issue_outside {e : Fin 512} {t : Fin 8} {k k1 : Task} {w : Nat} {s : State} {p : Pkt} (h : CanIssue e t k w s) {mine : Nat → Bool} (hmine : mine w = true)
    (f : Nat → Task → State → State × Ran) {pc : Int} (lat : Nat) (hf : ∀ s2, f w k.counted s2 = (s2, .go k1 pc lat))
    (hout : pc < 0 ∨ Int.ofNat (imgLen (s.latImage (e.val / 16))) ≤ pc) (hk : k1.pkt = k.pkt) (hp : s.pkt k.pkt = some p) :
    ∃ x, issue e t s mine f = .next x ∧ x.task e.val t.val = none ∧ x.count Cnt.EXC (e.val / 16) 1 = min (s.count Cnt.EXC (e.val / 16) 1 + 1) 0xFFFFFFFF := by
  obtain ⟨s2, hs2, hissue⟩ := issue_eq h hmine f
  have hstamp := hs2.trans (issueKept_stamp s2 e.val t.val _) (u := s2.stampIssue e.val t.val (k.readyAt w) (some lat) (decide (0x30 ≤ insOp w ∧ insOp w ≤ 0x33 ∧ lat = 24)))
  have himage : (s2.stampIssue e.val t.val (k.readyAt w) (some lat) (decide (0x30 ≤ insOp w ∧ insOp w ≤ 0x33 ∧ lat = 24))).latImage (e.val / 16) = s.latImage (e.val / 16) := by
    unfold State.latImage State.latGenOf
    rw [hstamp.eng]
    rfl
  rw [hissue, hf]
  unfold State.settleTask
  dsimp only
  rw [himage, if_pos hout]
  exact done_raised (cause := 2) (s' := s.engineUsed e.val) (k := k1) hstamp rfl rfl (hk ▸ hp) (by decide) _ (issueKept_sampleCount _ _)

/-- A task whose budget is spent. -/
theorem issue_spent {e : Fin 512} {t : Fin 8} {k : Task} {w : Nat} {s : State} {p : Pkt} (htask : s.task e.val t.val = some k)
    (hword : imgWord (s.latImage (e.val / 16)) k.pc = w) (hwait : k.waiting = false) (hfetch : k.fetchAt ≤ s.latNow (e.val / 16))
    (hready : k.readyAt w ≤ s.latNow (e.val / 16)) (hused : tget 0 s.eng.lastIssue e.val ≠ s.latNow (e.val / 16) + 1) {mine : Nat → Bool} (hmine : mine w = true)
    (f : Nat → Task → State → State × Ran) (hspent : k.budget ≤ k.issued) (hp : s.pkt k.pkt = some p) :
    ∃ x, issue e t s mine f = .next x ∧ x.task e.val t.val = none ∧ x.count Cnt.EXC (e.val / 16) 6 = min (s.count Cnt.EXC (e.val / 16) 6 + 1) 0xFFFFFFFF := by
  have hgo : ¬((k.waiting || s.latNow (e.val / 16) < k.fetchAt || s.latNow (e.val / 16) < k.readyAt w ||
      tget 0 s.eng.lastIssue e.val = s.latNow (e.val / 16) + 1 || !mine w) = true) := by
    simp [hwait, hmine, hused, Nat.not_lt.2 hfetch, Nat.not_lt.2 hready]
  unfold issue
  simp only [htask, hword]
  rw [if_neg hgo, if_pos hspent]
  exact done_raised (cause := 7) (s' := s) (k := k) (issueKept_stamp s e.val t.val _) rfl rfl hp (by decide) k.pc (.refl _)

/-- Settles O31. -/
theorem engineExceptionsEndTheTask : Obligations.EngineExceptionsEndTheTask := by
  unfold Obligations.EngineExceptionsEndTheTask
  refine ⟨?_, ?_, ?_⟩
  · intro c op lat f hc e t k w p s htask hword hwait hfetch hready hused hop hspent hp
    rw [exec_computes hc]
    exact issue_spent htask hword hwait hfetch hready hused (opIs_of_eq hop) _ hspent hp
  · intro c op n cause hc e t k w p s hcan hop hp hcause
    have hdmem : dmemCause (k.counted.addr w) n = some cause := by
      unfold dmemCause
      rcases hcause with ⟨h, rfl⟩ | ⟨h, hn, rfl⟩
      · exact if_pos h
      · exact (if_neg (Nat.not_le.2 h)).trans (if_pos hn)
    have hle : cause ≤ 8 := by omega
    rcases hc with hc | hc
    · rw [exec_loads hc]
      refine issue_trap hcan (opIs_of_eq hop) (loadRun n e t) (fun s2 => ?_) hp hle
      unfold loadRun
      rw [hdmem]
    · rw [exec_stores hc]
      refine issue_trap hcan (opIs_of_eq hop) (storeRun n e t) (fun s2 => ?_) hp hle
      unfold storeRun
      rw [hdmem]
  · intro c op P hc e t k w p s hcan hop hp hP hout
    obtain ⟨g, hg, hexec⟩ := exec_branches hc
    rw [hexec]
    refine issue_outside (k1 := k.counted) hcan (opIs_of_eq hop) _ 1 (fun s2 => ?_) hout rfl hp
    exact congrArg (fun x => (s2, Ran.go k.counted (Int.ofNat k.pc + 1 + x) 1)) (if_pos ((hg _ _).2 hP))

end Sys2Proof.Machine
end

section
/-! SUPPORT. Pins and module buses (O42) -/

namespace Sys2Proof.Machine

/-! ### Commands that answer at once, that run on, and their ends (R659, R660)

A clause asks for a state `t` that the command answers and for facts of it: each rule reduces it to those facts, given what the end of a command leaves. -/

theorem RunsOn.of_mbs {mb : Nat} {s u t : State} (h : RunsOn mb u t) (hmbs : u.mbs = s.mbs) : RunsOn mb s t := by
  obtain ⟨hself, hothers⟩ := h
  exact ⟨mbox_congr hmbs mb ▸ hself, fun k hk => (hothers k hk).trans (mbox_congr hmbs k)⟩

/-- `t` is what the end of a command of `s` makes of `u`: all but the words of a squelch, the logs, the MSI-X state, mailboxes and the gate of a burst. -/
structure Ended (but : List Nat) (s u t : State) : Prop where
  kept : RegsKept but u t
  pending : t.pending = s.pending
  rest : { Shared u t with pending := u.pending, mbs := u.mbs } = u

section
variable {s u : State} {P : State → Prop}

/-- A command that answers no mailbox. -/
theorem done_then (h : ∀ t, Ended [] s u t → t.mbs = u.mbs → P t) : ∃ t, done s u = .next t ∧ P t := by
  obtain ⟨r, l, m, b, hdone, hregs⟩ := done_eq s u
  exact ⟨_, hdone, h _ ⟨hregs, rfl, rfl⟩ rfl⟩

theorem done_answer_then {mb : Nat} {r : Reply} (h : ∀ t, Ended [0x12014] s u t → Answered mb r u t → P t) :
    ∃ t, done s (u.answer mb r) = .next t ∧ P t := by
  obtain ⟨g, b, hg⟩ := answer_eq u mb r
  obtain ⟨r', l, m, c, hd, hk⟩ := done_eq s (u.answer mb r)
  refine ⟨_, hd, h _ ⟨fun a ha hq => (hk a (by simp) hq).trans (answer_reg u mb r (by simpa using ha)), rfl, ?_⟩ ⟨answer_mbox u mb r, fun k hk => answer_mbox_ne u r hk⟩⟩
  rw [hg]
  rfl

/-- The end of a command that runs. -/
theorem done_finish_then {mb : Nat} {r : Reply} (hrun : (u.mbox mb).phase = .running) (h : ∀ t, Ended [0x12014] s u t → Answered mb r u t → P t) :
    ∃ t, done s (u.finish mb r) = .next t ∧ P t := by
  unfold State.finish
  rw [if_pos hrun]
  exact done_answer_then h

theorem done_runs_then {mb : Nat} (h : ∀ t, Ended [] s u t → RunsOn mb u t → P t) :
    ∃ t, done s (u.setMbox mb { u.mbox mb with phase := .running }) = .next t ∧ P t := by
  refine done_then fun t ⟨hkept, hpend, hrest⟩ hmbs => h t ⟨hkept, hpend, ?_⟩
    ⟨(mbox_congr hmbs mb).trans (mbox_setMbox_self _ _ _), fun k hk => (mbox_congr hmbs k).trans (mbox_setMbox_ne _ _ hk)⟩
  exact congrArg (fun z : State => { z with mbs := u.mbs }) hrest

variable {mb op : Nat} {p : List Byte}

/-- A command that acts at once. -/
theorem act_then {f : List Byte → State → State × Reply} {r : Reply} (hreq : s.request mb op = some p) (hf : f p (s.serving mb) = (u, r))
    (h : ∀ t, Ended [0x12014] s u t → Answered mb r u t → P t) : ∃ t, act mb op s f = .next t ∧ P t := by
  rw [act_eq _ _ _ _ _ hreq, ← State.serving, hf]
  exact done_answer_then h

theorem actOn_then {f : List Byte → State → State × Reply} {r : Reply} (hreq : s.request mb op = some p) (hon : s.blocksOff = false)
    (hf : f p (s.serving mb) = (u, r)) (h : ∀ t, Ended [0x12014] s u t → Answered mb r u t → P t) : ∃ t, actOn mb op s f = .next t ∧ P t := by
  rw [actOn_eq _ _ _ _ _ hreq hon, hf]
  exact done_answer_then h

/-- An answer that leaves everything else. -/
theorem onlyAnswered_of_ended {r : Reply} {t : State} (he : Ended [0x12014] s (s.serving mb) t) (ha : Answered mb r (s.serving mb) t) : OnlyAnswered mb r s t := by
  refine ⟨ha.of_mbs rfl, he.kept, (congrArg State.lastServed he.rest :), ?_⟩
  have hrest := congrArg (fun z : State => { z with lastServed := s.lastServed }) he.rest
  refine Eq.trans ?_ hrest
  rw [show (s.serving mb).pending = t.pending from he.pending.symm]
  rfl

/-- A command that is answered and leaves everything else. -/
theorem act_only {f : List Byte → State → State × Reply} {r : Reply} (hreq : s.request mb op = some p) (hf : f p (s.serving mb) = (s.serving mb, r)) :
    ∃ t, act mb op s f = .next t ∧ OnlyAnswered mb r s t := act_then hreq hf fun _ => onlyAnswered_of_ended

theorem actOn_only {f : List Byte → State → State × Reply} {r : Reply} (hreq : s.request mb op = some p) (hon : s.blocksOff = false)
    (hf : f p (s.serving mb) = (s.serving mb, r)) : ∃ t, actOn mb op s f = .next t ∧ OnlyAnswered mb r s t := actOn_then hreq hon hf fun _ => onlyAnswered_of_ended

/-- A command that runs on. -/
theorem actLong_runs_then {f : List Byte → State → State × Option Reply} (hreq : s.request mb op = some p) (hf : f p (s.serving mb) = (u, none))
    (h : ∀ t, Ended [] s u t → RunsOn mb u t → P t) : ∃ t, actLong mb op s f = .next t ∧ P t := by
  unfold actLong
  rw [hreq, ← State.serving]
  dsimp only
  rw [hf]
  exact done_runs_then h

/-- A command that would run on and is answered at once. -/
theorem actLong_then {f : List Byte → State → State × Option Reply} {r : Reply} (hreq : s.request mb op = some p)
    (hf : f p (s.serving mb) = (u, some r)) (h : ∀ t, Ended [0x12014] s u t → Answered mb r u t → P t) : ∃ t, actLong mb op s f = .next t ∧ P t := by
  unfold actLong
  rw [hreq, ← State.serving]
  dsimp only
  rw [hf]
  exact done_answer_then h

theorem actLong_only {f : List Byte → State → State × Option Reply} {r : Reply} (hreq : s.request mb op = some p)
    (hf : f p (s.serving mb) = (s.serving mb, some r)) : ∃ t, actLong mb op s f = .next t ∧ OnlyAnswered mb r s t :=
  actLong_then hreq hf fun _ => onlyAnswered_of_ended

end

/-! ### Fields and counters in the state after a command -/

theorem RegsKept.flag {l : List Nat} {s t : State} (h : RegsKept l s t) (f : Field) (i j : Nat) (h1 : f.addr i j ∉ l) (h2 : f.addr i j ∉ squelchWords) :
    t.flag f i j = s.flag f i j := by
  rw [flag_eq, flag_eq, h.get f i j h1 h2]

theorem flag_set_self (s : State) (f : Field) (v i j : Nat) (h : f.lo + f.width ≤ 32) : (s.set f v i j).flag f i j = (v % 2 ^ f.width == 1) := by
  rw [flag_eq, get_set_self _ _ _ _ _ h]

theorem flag_set_ne (s : State) (f g : Field) (v i j k l : Nat) (hf : f.lo + f.width ≤ 32)
    (h : g.addr k l ≠ f.addr i j ∨ f.lo + f.width ≤ g.lo ∨ g.lo + g.width ≤ f.lo) : (s.set f v i j).flag g k l = s.flag g k l := by
  rw [flag_eq, flag_eq, get_set_ne _ _ _ _ _ _ _ _ hf h]

theorem flag_bump_ne (s : State) (c : Ctr) (i j n : Nat) (g : Field) (k l : Nat) (h : g.addr k l ∉ c.wordsOf i j) : (s.bump c i j n).flag g k l = s.flag g k l := by
  rw [flag_eq, flag_eq, get_bump_ne _ _ _ _ _ _ _ _ h]

/-- A counter that has counted. -/
theorem counted_bump (s : State) (c : Ctr) (i j n : Nat) (hc : c.words = 1 ∨ c.words = 2) : Counted c i j n s (s.bump c i j n) := by
  unfold Counted
  rcases hc with hc | hc
  · rw [count_bump_one _ _ _ _ _ hc, if_pos hc]
  · rw [count_bump_two _ _ _ _ _ hc, if_neg (by omega), if_pos hc]

theorem counted_of_count {c : Ctr} {i j n : Nat} {s s' t t' : State} (h : Counted c i j n s t) (hs : s.count c i j = s'.count c i j) (ht : t'.count c i j = t.count c i j) :
    Counted c i j n s' t' := by
  unfold Counted at *
  rw [ht, h, hs]

theorem counted_after {c : Ctr} {i j n : Nat} {l : List Nat} {s t u : State} (h : Counted c i j n s t) (hk : RegsKept l t u) (hc : ∀ a ∈ c.wordsOf i j, a ∉ l ∧ a ∉ squelchWords) :
    Counted c i j n s u := counted_of_count h rfl (hk.count c i j hc)

/-! ### Pins and module buses (R677–R680) -/

/-- GPIO_WRITE of one pin. -/
def State.drivePin (levels : Nat) (s : State) (k : Nat) : State :=
  s.set Reg.GPIO_OUT_OUT (putBits (s.get Reg.GPIO_OUT_OUT) k 1 (bitsOf levels k 1))

theorem pin_drivePin (levels : Nat) (s : State) {k j : Nat} (hj : j < 16) :
    bitsOf ((s.drivePin levels k).get Reg.GPIO_OUT_OUT) j 1 = if j = k then bitsOf levels j 1 else bitsOf (s.get Reg.GPIO_OUT_OUT) j 1 := by
  unfold State.drivePin
  rw [get_set_self _ _ _ _ _ (by decide), show Reg.GPIO_OUT_OUT.width = 16 from rfl]
  have hlow : ∀ x : Nat, bitsOf (x % 2 ^ 16) j 1 = bitsOf x j 1 := fun x => by
    have := bitsOf_zero x 16
    unfold bitsOf at *
    rw [Nat.pow_one, ← Nat.toNat_testBit, ← Nat.toNat_testBit, Nat.testBit_mod_two_pow, decide_eq_true hj, Bool.true_and]
  rw [hlow]
  split
  · next h =>
    subst h
    rw [bitsOf_putBits_self, Nat.mod_eq_of_lt (bitsOf_lt _ _ _)]
  · next h => exact bitsOf_putBits_ne _ _ _ _ _ _ (by omega)

/-- GPIO_WRITE of the pins of a list. -/
theorem drivePins (levels : Nat) (l : List Nat) (s : State) : RegsKept [Reg.GPIO_OUT_OUT.addr 0 0] s (l.foldl (State.drivePin levels) s) ∧
    { l.foldl (State.drivePin levels) s with regs := s.regs } = s ∧
    ∀ j, j < 16 → bitsOf ((l.foldl (State.drivePin levels) s).get Reg.GPIO_OUT_OUT) j 1 = if j ∈ l then bitsOf levels j 1 else bitsOf (s.get Reg.GPIO_OUT_OUT) j 1 := by
  induction l generalizing s with
  | nil => exact ⟨fun _ _ _ => rfl, rfl, fun j _ => by simp⟩
  | cons k l ih =>
    obtain ⟨hregs, hrest, hpins⟩ := ih (s.drivePin levels k)
    refine ⟨fun a ha hsq => (hregs a ha hsq).trans (reg_set_ne _ _ _ _ _ (by simpa using ha)), ?_, fun j hj => ?_⟩
    · exact congrArg (fun z : State => { z with regs := s.regs }) hrest
    · rw [List.foldl_cons, hpins j hj, pin_drivePin _ _ hj]
      by_cases hl : j ∈ l
      · simp [hl]
      · by_cases hk : j = k
        · simp [hk]
        · simp [hl, hk]

theorem mem_maskList {m n j : Nat} (hj : j < n) : j ∈ maskList m n ↔ bitsOf m j 1 = 1 := by
  simp [maskList, hj]

/-- The counting of OPT_I2C_XFER_DONE. -/
def i2cCount (status : Fin 5) (s : State) : State :=
  if status.val = 1 || status.val = 2 then s.bump Cnt.OPT_I2C_NACKS else if status.val = 3 || status.val = 4 then s.bump Cnt.OPT_I2C_FAULTS else s

theorem i2cCount_spec (status : Fin 5) (s : State) : { i2cCount status s with regs := s.regs } = s ∧
    (i2cCount status s).flag Reg.OPT_STATUS_I2C_BUSY = s.flag Reg.OPT_STATUS_I2C_BUSY ∧
    (status.val = 1 ∨ status.val = 2 → Counted Cnt.OPT_I2C_NACKS 0 0 1 s (i2cCount status s)) ∧
    (status.val = 3 ∨ status.val = 4 → Counted Cnt.OPT_I2C_FAULTS 0 0 1 s (i2cCount status s)) := by
  unfold i2cCount
  by_cases hnack : status.val = 1 ∨ status.val = 2
  · rw [if_pos (by simpa using hnack)]
    exact ⟨rfl, flag_bump_ne _ _ _ _ _ _ _ _ (by decide), fun _ => counted_bump _ _ 0 0 1 (.inl rfl), by omega⟩
  · rw [if_neg (by simpa using hnack)]
    by_cases hfault : status.val = 3 ∨ status.val = 4
    · rw [if_pos (by simpa using hfault)]
      exact ⟨rfl, flag_bump_ne _ _ _ _ _ _ _ _ (by decide), by omega, fun _ => counted_bump _ _ 0 0 1 (.inl rfl)⟩
    · rw [if_neg (by simpa using hfault)]
      exact ⟨rfl, rfl, by omega, by omega⟩

/-- Settles O42. -/
theorem pinsAndModuleBuses : Obligations.PinsAndModuleBuses := by
  unfold Obligations.PinsAndModuleBuses
  refine ⟨fun mb p s hreq hpins => ?_, fun mb p s hreq hidle => ?_, fun inBytes x s hx hrun => ?_, fun mb p s hreq hidle hlen => ?_, fun status inBytes x s hx hrun => ?_⟩
  · obtain ⟨hregs, hrest, hout⟩ := drivePins (u16 p 2) (maskList (u16 p 0) 16) (s.serving mb.val)
    have hok : (maskList (u16 p 0) 16).any (fun k => (s.serving mb.val).get Reg.GPIO_CFG_MODE k ≠ 1 || (s.serving mb.val).pinOwners.contains k) = false := by
      rw [List.any_eq_false]
      intro k hk
      obtain ⟨hmode, howner⟩ := hpins k hk
      have h1 : (s.serving mb.val).get Reg.GPIO_CFG_MODE k = 1 := hmode
      have h2 : k ∉ (s.serving mb.val).pinOwners := howner
      simp [h1, h2]
    show ∃ t, execGpioWrite mb s = _ ∧ _
    unfold execGpioWrite
    refine act_then hreq (if_neg (ne_true_of_eq_false hok)) fun t he hans => ⟨hans.of_mbs (congrArg State.mbs hrest :), fun a ha hsq => ?_, fun k hk16 => ?_⟩
    · simp only [List.mem_cons, List.not_mem_nil, or_false, not_or] at ha
      exact (he.kept a (by simpa using ha.1) hsq).trans (hregs a (by simpa using ha.2) hsq)
    · rw [he.kept.get _ 0 0 (by decide) (by decide)]
      refine (hout k hk16).trans ?_
      simp only [mem_maskList hk16]
      rfl
  · show ∃ t, execOptSpiXfer mb s = _ ∧ _
    unfold execOptSpiXfer
    refine actLong_runs_then hreq (if_neg (by rw [show (s.serving mb.val).opt.spi = none from hidle]; decide)) fun t he hrun =>
      ⟨hrun.of_mbs rfl, (congrArg (fun z : State => z.opt.spi) he.rest :), (congrArg (fun z : State => z.opt.sentSpi) he.rest :), ?_, fun a ha hsq => ?_⟩
    · rw [he.kept.flag _ 0 0 (by decide) (by decide), flag_set_self _ _ _ _ _ (by decide)]
      rfl
    · exact (he.kept.of_nil hsq).trans (reg_set_ne _ _ _ _ _ (by simpa using ha))
  · show ∃ t, execOptSpiXferDone inBytes s = _ ∧ _
    unfold execOptSpiXferDone
    rw [hx]
    refine done_finish_then hrun fun t he hans => ⟨(congrArg (fun z : State => z.opt.spi) he.rest :), ?_, hans.of_mbs rfl⟩
    rw [he.kept.flag _ 0 0 (by decide) (by decide), flag_set_self _ _ _ _ _ (by decide)]
    rfl
  · show ∃ t, execOptI2cXfer mb s = _ ∧ _
    unfold execOptI2cXfer
    refine actLong_runs_then hreq ((if_neg (by simpa using fun h => hlen.resolve_left (not_not.mpr h))).trans
      (if_neg (by rw [show (s.serving mb.val).opt.i2c = none from hidle]; decide))) fun t he hrun =>
      ⟨hrun.of_mbs rfl, (congrArg (fun z : State => z.opt.i2c) he.rest :), (congrArg (fun z : State => z.opt.sentI2c) he.rest :), ?_, fun a ha hsq => ?_⟩
    · rw [he.kept.flag _ 0 0 (by decide) (by decide), flag_set_self _ _ _ _ _ (by decide)]
      rfl
    · exact (he.kept.of_nil hsq).trans (reg_set_ne _ _ _ _ _ (by simpa using ha))
  · show ∃ t, execOptI2cXferDone status inBytes s = _ ∧ _
    unfold execOptI2cXferDone
    rw [hx]
    obtain ⟨hrest', hflag', hnack, hfault⟩ := i2cCount_spec status (({ s with opt := { s.opt with i2c := none } }).set Reg.OPT_STATUS_I2C_BUSY 0)
    refine done_finish_then (u := i2cCount status _) (show (State.mbox (i2cCount status _) x.mb).phase = .running from (mbox_congr (congrArg State.mbs hrest' :) x.mb) ▸ hrun)
      fun t he hans =>
      ⟨(congrArg (fun z : State => z.opt.i2c) he.rest :).trans (congrArg (fun z : State => z.opt.i2c) hrest' :), ?_, fun h => ?_, fun h => ?_, hans.of_mbs (congrArg State.mbs hrest' :)⟩
    · rw [he.kept.flag _ 0 0 (by decide) (by decide), hflag', flag_set_self _ _ _ _ _ (by decide)]
      rfl
    · exact counted_after (counted_of_count (hnack h) (count_set_ne _ _ _ _ _ _ _ _ (by decide)) rfl) he.kept (by decide)
    · exact counted_after (counted_of_count (hfault h) (count_set_ne _ _ _ _ _ _ _ _ (by decide)) rfl) he.kept (by decide)

end Sys2Proof.Machine
end

section
/-! SUPPORT. Counterexamples: the start time of a capture (O59), a self-test of a lateral that does not exist (O60) -/

namespace Sys2Proof.Machine

/-! ### Words that a part of a command leaves -/

/-- The register words from `lo` to below `hi`, but those in which a squelch or the log shows, are as they were. -/
def WordsKept (lo hi : Nat) (s t : State) : Prop := ∀ a, lo ≤ a → a < hi → a ∉ squelchWords → t.reg a = s.reg a

namespace WordsKept
variable {lo hi : Nat} {s t u : State}

theorem refl (lo hi : Nat) (s : State) : WordsKept lo hi s s := fun _ _ _ _ => rfl

theorem trans (h : WordsKept lo hi s t) (k : WordsKept lo hi t u) : WordsKept lo hi s u := fun a hl hh hq => (k a hl hh hq).trans (h a hl hh hq)

theorem of_regs (h : t.regs = s.regs) : WordsKept lo hi s t := fun a _ _ _ => congrFun (congrArg (fun r => (State.reg { s with regs := r })) h) a

theorem same (h : WordsKept lo hi s t) (hregs : u.regs = t.regs) : WordsKept lo hi s u := h.trans (of_regs hregs)

theorem set (h : WordsKept lo hi s t) {f : Field} {v i j : Nat} (hf : f.addr i j < lo ∨ hi ≤ f.addr i j) : WordsKept lo hi s (t.set f v i j) :=
  h.trans fun _ hl hh _ => reg_set_ne _ _ _ _ _ (by omega)

theorem setReg (h : WordsKept lo hi s t) {a : Nat} {v : Word} (hf : a < lo ∨ hi ≤ a) : WordsKept lo hi s (t.setReg a v) :=
  h.trans fun _ hl hh _ => reg_setReg_ne _ _ (by omega)

theorem bump (h : WordsKept lo hi s t) {c : Ctr} {i j n : Nat} (hf : ∀ a ∈ c.wordsOf i j, a < lo ∨ hi ≤ a) : WordsKept lo hi s (t.bump c i j n) :=
  h.trans fun _ hl hh _ => reg_bump_ne _ _ _ _ _ fun e => by have := hf _ e; omega

theorem log (h : WordsKept lo hi s t) (wb type : Nat) (d : List Byte) : WordsKept lo hi s (t.log wb type d) :=
  h.trans fun _ _ _ hq => log_reg_ne _ _ _ _ (fun e => hq (e ▸ by decide)) (fun e => hq (e ▸ by decide))

theorem ite {c : Prop} [Decidable c] (h : c → WordsKept lo hi s t) (k : ¬ c → WordsKept lo hi s u) : WordsKept lo hi s (if c then t else u) := by
  split
  · next hc => exact h hc
  · next hc => exact k hc

theorem foldl {α : Type} {f : State → α → State} {l : List α} (h : ∀ x ∈ l, ∀ v, WordsKept lo hi v (f v x)) :
    ∀ {t}, WordsKept lo hi s t → WordsKept lo hi s (l.foldl f t) := by
  induction l with
  | nil => exact fun h => h
  | cons x l ih => exact fun ht => ih (fun y hy => h y (List.mem_cons_of_mem _ hy)) (ht.trans (h x List.mem_cons_self _))

theorem get (h : WordsKept lo hi s t) (f : Field) (i j : Nat) (hin : lo ≤ f.addr i j ∧ f.addr i j < hi) (hq : f.addr i j ∉ squelchWords) : t.get f i j = s.get f i j := by
  unfold State.get
  rw [h _ hin.1 hin.2 hq]

theorem flag (h : WordsKept lo hi s t) (f : Field) (i j : Nat) (hin : lo ≤ f.addr i j ∧ f.addr i j < hi) (hq : f.addr i j ∉ squelchWords) : t.flag f i j = s.flag f i j := by
  rw [flag_eq, flag_eq, h.get f i j hin hq]

end WordsKept

/-- What only register words, the log and a burst's gate do not enter is kept where only they change. -/
theorem RegsLogs.keeps {β : Type} {s t : State} (h : RegsLogs s t) (π : State → β)
    (hπ : ∀ r l b, π { s with regs := r, logs := l, self := { s.self with sent := b } } = π s) : π t = π s := by
  obtain ⟨r, l, b, rfl⟩ := h
  exact hπ r l b

theorem RegsLogs.set {s t : State} (h : RegsLogs s t) (f : Field) (v i j : Nat) : RegsLogs s (t.set f v i j) := h.trans (regsLogs_set _ _ _ _ _)

theorem RegsLogs.bump {s t : State} (h : RegsLogs s t) (c : Ctr) (i j n : Nat) : RegsLogs s (t.bump c i j n) := h.trans (regsLogs_bump _ _ _ _ _)

theorem RegsLogs.ite {s t u : State} {c : Prop} [Decidable c] (h : RegsLogs s t) (k : RegsLogs s u) : RegsLogs s (if c then t else u) := by
  split <;> assumption

/-- The end of a command that may run. -/
theorem done_finish_cases {s u : State} {P : State → Prop} {mb : Nat} {r : Reply}
    (h : ∀ t, Ended [0x12014] s u t → ((u.mbox mb).phase = .running → Answered mb r u t) → P t) : ∃ t, done s (u.finish mb r) = .next t ∧ P t := by
  by_cases hrun : (u.mbox mb).phase = .running
  · exact done_finish_then hrun fun t he hans => h t he fun _ => hans
  · unfold State.finish
    rw [if_neg hrun]
    exact done_then fun t ⟨hkept, hpend, hrest⟩ _ => h t ⟨fun a _ hq => hkept.of_nil hq, hpend, hrest⟩ fun k => absurd k hrun

/-! ### The tap's start time (R695, R704) -/

/-- A capture about to end, whose first sample lies at device time 1 ns. -/
def captureEnding : State := { (State.set {} Reg.TAP_STATUS_CAPTURING 1).set Reg.TAP_CFG_STAGES 0 with clock := 212992000000, tap := { hit := some (0, 13) } }

/-- The two words of TAP_T0 lie a stride apart, as words of two places of the array; as words 0 and 1 of one place they are one word. -/
theorem get_TAP_T0 (s : State) : s.get Reg.TAP_T0_T 0 0 = s.get Reg.TAP_T0_T 0 1 := rfl

/-- Refutes O59: `TAP_T0_T 0 0` and `TAP_T0_T 0 1` name one register word, so a capture that starts at 1 ns cannot show 1 in the first and 0 in the second. -/
theorem not_gaugeTapAndPinEdges : ¬ Obligations.GaugeTapAndPinEdges := by
  unfold Obligations.GaugeTapAndPinEdges
  rintro ⟨-, -, -, -, -, -, -, -, hdone, -⟩
  obtain ⟨t, -, -, -, -, -, -, htime, -⟩ := hdone [] (List.replicate 16387 0) _ _ 0 13 0 captureEnding (by decide) rfl (by decide) rfl
    (by rw [List.length_replicate]; rfl) (by decide) rfl
  obtain ⟨hlow, hhigh⟩ := htime rfl
  rw [get_TAP_T0, hhigh] at hlow
  exact absurd hlow (by decide)

/-! ### Concrete states for refutations -/

/-- Mailbox 1 holds the command of opcode `op` with payload `p`, taken and checked. -/
def State.holding (s : State) (op : Nat) (p : List Byte) : State :=
  s.setMbox 1 (((putData { phase := .taken } 2 p).setWord 0 (BitVec.ofNat 32 op)).setWord 1 (BitVec.ofNat 32 p.length))

/-- A register bit in what a command answers. -/
def flagAfter (o : Out) (f : Field) (i : Nat) : Bool :=
  match o with
  | .next t => t.flag f i
  | _ => false

/-! ### A self-test of a lateral that does not exist (R736) -/

/-- A register bit of what a command answers. -/
def Out.shows (o : Out) (f : Field) (i : Nat) : Bool :=
  match o with
  | .next t => t.flag f i
  | _ => false

/-- Mailbox 1 holds SELFTEST_RUN of KIND 1 for lateral 128; lateral 0 has role ACTION, lateral 1 role FIRMWARE. -/
def selfTest128 : State :=
  State.holding { regs := [(0x500000, 1), (0x500010, 8), (0x501000, 3), (0x501010, 8)] } 0x0A10 [1, 128, 0, 0]

/-- LAT_STATUS of lateral 128 would lie at ENG_STATUS, whose count of ACTION laterals is written after the held bit. -/
theorem selfTest128_held : flagAfter (exec (.selftestRun 1) selfTest128) Reg.LAT_STATUS_HELD 128 = false := by decide +kernel

/-- Refutes O60: with 128 as the lateral of SELFTEST_RUN, its held bit is bit 2 of ENG_STATUS, which then counts one ACTION lateral and reads 0 there. -/
theorem not_samplesTestAccessAndInjectors : ¬ Obligations.SamplesTestAccessAndInjectors := by
  unfold Obligations.SamplesTestAccessAndInjectors
  rintro ⟨-, -, -, -, -, -, -, -, -, -, -, hrun, -⟩
  obtain ⟨t, ht, -, hheld, -⟩ := hrun 1 [1, 128, 0, 0] 128 selfTest128 (by decide +kernel) rfl rfl rfl (by decide +kernel) (by decide +kernel) (by decide +kernel)
    (by decide +kernel) (by decide +kernel) (by decide +kernel)
  have h := selfTest128_held
  rw [ht] at h
  exact absurd (h.symm.trans hheld) (by decide)

end Sys2Proof.Machine
end

section
/-! SUPPORT. Footprints: the register bits that a part of a command may write -/

namespace Sys2Proof.Machine

/-! ### Footprints

What a part of a command may write, as a list of patches: one patch is a field of every copy of a table's word, or a word of every copy of a counter. Two patches
have no bit in common when their bits differ, when one lies below the other, or when their words differ modulo what divides both strides; that is decided on
their numbers alone, whatever copy is meant. -/

/-- Bits `lo` to below `lo + width` of the words of an array; of an array with `n = 0` any number of copies. -/
structure Patch where
  words : WordArray
  lo : Nat
  width : Nat

/-- The field `f` of `n` copies of its word. -/
def Field.patch (f : Field) (n : Nat := 1) (m : Nat := 1) : Patch := ⟨⟨f.base, f.stride, n, f.sub, m⟩, f.lo, f.width⟩

/-- The words of a counter. -/
def Ctr.patches (c : Ctr) : List Patch := if c.words = 1 then [⟨c.array 0, 0, 32⟩] else [⟨c.array 0, 0, 32⟩, ⟨c.array 4, 0, 32⟩]

/-- A single word. -/
def wordPatch (a : Nat) : Patch := ⟨⟨a, 0, 1, 0, 1⟩, 0, 32⟩

/-- Word `a` is one of the patch. -/
def Patch.Has (p : Patch) (a : Nat) : Prop := ∃ i j, (p.words.n = 0 ∨ i < p.words.n) ∧ j < p.words.m ∧ a = p.words.base + p.words.stride * i + p.words.sub * j

/-- All words of the patch lie below `b`. -/
def Patch.below (p : Patch) (b : Nat) : Bool := (Nat.beq p.words.stride 0 || !Nat.beq p.words.n 0) && Nat.blt p.words.last b

/-- Two patches have no bit in common. -/
def Patch.apart (p q : Patch) : Bool :=
  Nat.ble (p.lo + p.width) q.lo || Nat.ble (q.lo + q.width) p.lo || p.below q.words.base || q.below p.words.base ||
    (let d := Nat.gcd p.words.stride q.words.stride
     Nat.blt (p.words.final d) d && Nat.blt (q.words.final d) d && (Nat.blt (p.words.final d) (q.words.first d) || Nat.blt (q.words.final d) (p.words.first d)))

theorem Patch.Has.base_le {p : Patch} {a : Nat} (h : p.Has a) : p.words.base ≤ a := by
  obtain ⟨i, j, -, -, rfl⟩ := h
  rw [Nat.add_assoc]
  exact Nat.le_add_right _ _

theorem Patch.Has.lt_of_below {p : Patch} {a b : Nat} (h : p.Has a) (hb : p.below b = true) : a < b := by
  obtain ⟨i, j, hi, hj, rfl⟩ := h
  simp only [Patch.below, Bool.and_eq_true, Bool.or_eq_true, Nat.beq_eq, Bool.not_eq_true', Nat.blt_eq] at hb
  obtain ⟨hs, hlast⟩ := hb
  have hi' : p.words.stride = 0 ∨ i < p.words.n := hs.imp_right fun hn => hi.resolve_left fun h0 => by simp [h0] at hn
  have h1 := mul_le_mul_pred hi'
  have h2 := mul_le_mul_pred (k := p.words.sub) (.inr hj)
  unfold WordArray.last at hlast
  omega

theorem Patch.Has.residue {p : Patch} {a d : Nat} (h : p.Has a) (hd : d ∣ p.words.stride) (hfit : p.words.final d < d) :
    p.words.first d ≤ a % d ∧ a % d ≤ p.words.final d := by
  obtain ⟨i, j, -, hj, rfl⟩ := h
  exact WordArray.Has.residue (r := { p.words with n := i + 1 }) ⟨i, j, .inr (Nat.lt_succ_self i), .inr hj, rfl⟩ hd hfit

/-- A word of both of two patches that are apart: their bits differ. -/
theorem Patch.bits_of_apart {p q : Patch} {a : Nat} (h : p.apart q = true) (hp : p.Has a) (hq : q.Has a) : p.lo + p.width ≤ q.lo ∨ q.lo + q.width ≤ p.lo := by
  simp only [Patch.apart, Bool.or_eq_true, Bool.and_eq_true, Nat.blt_eq, Nat.ble_eq] at h
  obtain (((hb | hb) | hlt) | hlt) | ⟨⟨hpfit, hqfit⟩, hne⟩ := h
  · exact .inl hb
  · exact .inr hb
  · exact absurd (hp.lt_of_below hlt) (Nat.not_lt.mpr hq.base_le)
  · exact absurd (hq.lt_of_below hlt) (Nat.not_lt.mpr hp.base_le)
  · have := hp.residue (Nat.gcd_dvd_left _ _) hpfit
    have := hq.residue (Nat.gcd_dvd_right _ _) hqfit
    omega

/-- Bit `b` of word `a` is one of the patch. -/
def Patch.Bit (p : Patch) (a b : Nat) : Prop := p.Has a ∧ p.lo ≤ b ∧ b < p.lo + p.width

/-- Where the end of a command, or a record of the log, may write. -/
def sharedPatches : List Patch := squelchWords.map wordPatch

theorem has_wordPatch {a b : Nat} : (wordPatch a).Has b ↔ b = a :=
  ⟨fun ⟨i, j, _, _, h⟩ => by simpa [wordPatch] using h, fun h => ⟨0, 0, .inr Nat.one_pos, Nat.one_pos, by simpa [wordPatch] using h⟩⟩

/-- From `s` to `t` no bit of a register word has changed but those of a list of patches, and the words in which a squelch or a full log shows. -/
def Touch (l : List Patch) (s t : State) : Prop :=
  ∀ a b, b < 32 → (∀ p ∈ sharedPatches ++ l, ¬p.Bit a b) → (t.reg a).toNat.testBit b = (s.reg a).toNat.testBit b

/-- Every word of a range of addresses. -/
def pagePatch (lo len : Nat) : Patch := ⟨⟨lo, 0, 1, 1, len⟩, 0, 32⟩

/-- The patch `q` covers the patch `p`, as one of the same array or as a range of addresses. -/
def Patch.within (p q : Patch) : Bool :=
  (Nat.beq q.words.base p.words.base && Nat.beq q.words.stride p.words.stride && Nat.beq q.words.sub p.words.sub &&
    (Nat.beq q.words.n 0 || (!Nat.beq p.words.n 0 && Nat.ble p.words.n q.words.n)) && Nat.ble p.words.m q.words.m &&
    Nat.ble q.lo p.lo && Nat.ble (p.lo + p.width) (q.lo + q.width)) ||
  (Nat.beq q.words.stride 0 && Nat.beq q.words.sub 1 && Nat.beq q.lo 0 && Nat.ble (p.lo + p.width) q.width && Nat.ble q.words.base p.words.base &&
    p.below (q.words.base + q.words.m))

/-- A patch lies in one of a list. -/
def Patch.inList (p : Patch) (l : List Patch) : Bool := l.any p.within

theorem Patch.bit_of_within {p q : Patch} (h : p.within q = true) {a b : Nat} (hb : p.Bit a b) : q.Bit a b := by
  obtain ⟨hhas, h1, h2⟩ := hb
  simp only [Patch.within, Bool.and_eq_true, Bool.or_eq_true, Nat.beq_eq, Nat.ble_eq, Bool.not_eq_true'] at h
  rcases h with ⟨⟨⟨⟨⟨⟨hbase, hstride⟩, hsub⟩, hn⟩, hm⟩, hlo⟩, hhi⟩ | ⟨⟨⟨⟨⟨hstride, hsub⟩, hlo⟩, hhi⟩, hbase⟩, hlast⟩
  · obtain ⟨i, j, hi, hj, rfl⟩ := hhas
    refine ⟨⟨i, j, hn.imp_right fun ⟨h0, hle⟩ => ?_, lt_of_lt_of_le hj hm, by rw [hbase, hstride, hsub]⟩, hlo.trans h1, h2.trans_le hhi⟩
    exact (hi.resolve_left fun hz => by simp [hz] at h0).trans_le hle
  · have hge := hhas.base_le
    have hlt := hhas.lt_of_below hlast
    refine ⟨⟨0, a - q.words.base, ?_, by omega, by rw [hstride, hsub]; omega⟩, by omega, by omega⟩
    exact Nat.eq_zero_or_pos _

theorem Patch.bit_of_inList {p : Patch} {l : List Patch} (h : p.inList l = true) {a b : Nat} (hb : p.Bit a b) : ∃ q ∈ l, q.Bit a b := by
  obtain ⟨q, hq, h⟩ := List.any_eq_true.mp h
  exact ⟨q, hq, Patch.bit_of_within h hb⟩

namespace Touch
variable {l l' : List Patch} {s t u : State}

theorem refl (l : List Patch) (s : State) : Touch l s s := fun _ _ _ _ => rfl

theorem trans (h : Touch l s t) (k : Touch l t u) : Touch l s u := fun a b hb hl => (k a b hb hl).trans (h a b hb hl)

/-- A larger footprint. -/
theorem mono (h : Touch l s t) (hl : l.all (·.inList l') = true) : Touch l' s t := fun a b hb hout => h a b hb fun p hp hbit => by
  rcases List.mem_append.mp hp with hp | hp
  · exact hout p (List.mem_append_left _ hp) hbit
  · obtain ⟨q, hq, hqbit⟩ := Patch.bit_of_inList (List.all_eq_true.mp hl p hp) hbit
    exact hout q (List.mem_append_right _ hq) hqbit

/-- A part of a command with a footprint within `l`. -/
theorem andThen (h : Touch l s t) (k : Touch l' t u) (hl : l'.all (·.inList l) = true) : Touch l s u := h.trans (k.mono hl)

theorem of_regs (h : t.regs = s.regs) : Touch l s t := fun a b _ _ => by
  rw [show t.reg a = s.reg a from congrFun (congrArg (fun r => (State.reg { s with regs := r })) h) a]

/-- A change of other state. -/
theorem same (h : Touch l s t) (hregs : u.regs = t.regs) : Touch l s u := h.trans (of_regs hregs)

theorem of_kept (h : RegsKept [] s t) : Touch l s t := fun a b hb hout => by
  rw [h.of_nil fun hq => hout (wordPatch a) (List.mem_append_left _ (List.mem_map_of_mem hq)) ⟨has_wordPatch.mpr rfl, Nat.zero_le _, by simpa [wordPatch] using hb⟩]

theorem testBit_putBits_ne {x lo w v b : Nat} (h : b < lo ∨ lo + w ≤ b) : (putBits x lo w v).testBit b = x.testBit b := by
  have hne := bitsOf_putBits_ne x lo w v b 1 (h.elim (fun h => .inr (by omega)) .inl)
  unfold bitsOf at hne
  have key : ∀ y : Nat, y.testBit b = decide (y / 2 ^ b % 2 ^ 1 = 1) := fun y => by rw [pow_one, Nat.testBit_eq_decide_div_mod_eq]
  rw [key, key, hne]

/-- A field of copy `i` is written. -/
theorem set (h : Touch l s t) {f : Field} {v i j : Nat} (n : Nat := 1) (m : Nat := 1) (hl : (f.patch n m).inList l = true) (hi : n = 0 ∨ i < n) (hj : j < m) :
    Touch l s (t.set f v i j) := h.trans fun a b hb hout => by
  by_cases ha : a = f.addr i j
  · subst ha
    have hbit : b < f.lo ∨ f.lo + f.width ≤ b := by
      by_contra hin
      obtain ⟨q, hq, hqbit⟩ := Patch.bit_of_inList hl (a := f.addr i j) (b := b) ⟨⟨i, j, hi, hj, rfl⟩, by simp only [Field.patch]; omega, by simp only [Field.patch]; omega⟩
      exact hout q (List.mem_append_right _ hq) hqbit
    unfold State.set
    rw [reg_setReg_self, BitVec.toNat_ofNat, Nat.testBit_mod_two_pow, decide_eq_true hb, Bool.true_and, testBit_putBits_ne hbit]
  · rw [reg_set_ne _ _ _ _ _ ha]

/-- A counter of copy `i` counts. -/
theorem bump (h : Touch l s t) {c : Ctr} {i j k : Nat} (hl : c.patches.all (·.inList l) = true) (hi : c.n = 0 ∨ i < c.n) (hj : j < c.m) : Touch l s (t.bump c i j k) :=
  h.trans fun a b hb hout => by
    rw [reg_bump_ne]
    intro ha
    have key : ∀ p ∈ c.patches, ¬p.Bit a b := fun p hp hbit => by
      obtain ⟨q, hq, hqbit⟩ := Patch.bit_of_inList (List.all_eq_true.mp hl p hp) hbit
      exact hout q (List.mem_append_right _ hq) hqbit
    have h0 : (⟨c.array 0, 0, 32⟩ : Patch).Bit (c.addr i j) b := ⟨⟨i, j, hi, hj, by simp [Ctr.array, Ctr.addr]⟩, Nat.zero_le _, by simpa using hb⟩
    have h4 : (⟨c.array 4, 0, 32⟩ : Patch).Bit (c.addr i j + 4) b := ⟨⟨i, j, hi, hj, by simp only [Ctr.array, Ctr.addr]; omega⟩, Nat.zero_le _, by simpa using hb⟩
    unfold Ctr.wordsOf at ha
    unfold Ctr.patches at key
    split at ha
    · next hw =>
      rw [if_pos hw] at key
      obtain rfl : a = c.addr i j := by simpa using ha
      exact key _ (by simp) h0
    · next hw =>
      rw [if_neg hw] at key
      rcases List.mem_pair.mp ha with rfl | rfl
      · exact key _ (by simp) h0
      · exact key _ (by simp) h4

/-- The log takes a record. -/
theorem log (h : Touch l s t) (wb type : Nat) (d : List Byte) : Touch l s (t.log wb type d) := h.trans fun a b hb hout => by
  have hq : a ∉ squelchWords := fun hq =>
    hout (wordPatch a) (List.mem_append_left _ (List.mem_map_of_mem hq)) ⟨has_wordPatch.mpr rfl, Nat.zero_le _, by simpa [wordPatch] using hb⟩
  rw [log_reg_ne t wb type d (fun e : a = 0x40014 => hq (e ▸ by decide)) (fun e : a = 0x40020 => hq (e ▸ by decide))]

theorem ite {c : Prop} [Decidable c] (h : c → Touch l s t) (k : ¬ c → Touch l s u) : Touch l s (if c then t else u) := by
  split
  · next hc => exact h hc
  · next hc => exact k hc

theorem foldl {α : Type} {f : State → α → State} {xs : List α} (h : ∀ x ∈ xs, ∀ v, Touch l v (f v x)) : ∀ {t}, Touch l s t → Touch l s (xs.foldl f t) := by
  induction xs with
  | nil => exact fun h => h
  | cons x xs ih => exact fun ht => ih (fun y hy => h y (List.mem_cons_of_mem _ hy)) (ht.trans (h x List.mem_cons_self _))

/-- A field with no bit in the footprint. -/
theorem get (h : Touch l s t) (g : Field) (i j : Nat) (n : Nat := 1) (m : Nat := 1) (hl : (sharedPatches ++ l).all (·.apart (g.patch n m)) = true)
    (hw : g.lo + g.width ≤ 32) (hi : n = 0 ∨ i < n) (hj : j < m) : t.get g i j = s.get g i j := by
  unfold State.get bitsOf
  apply Nat.eq_of_testBit_eq
  intro b
  rw [Nat.testBit_mod_two_pow, Nat.testBit_mod_two_pow, Nat.testBit_div_two_pow, Nat.testBit_div_two_pow]
  by_cases hb : b < g.width
  · rw [h (g.addr i j) (b + g.lo) (by omega)]
    intro p hp hbit
    have hap := List.all_eq_true.mp hl p hp
    obtain ⟨hhas, h1, h2⟩ := hbit
    have := Patch.bits_of_apart hap hhas ⟨i, j, hi, hj, rfl⟩
    simp only [Field.patch] at this
    omega
  · simp [hb]

theorem flag (h : Touch l s t) (g : Field) (i j : Nat) (n : Nat := 1) (m : Nat := 1) (hl : (sharedPatches ++ l).all (·.apart (g.patch n m)) = true)
    (hw : g.lo + g.width ≤ 32) (hi : n = 0 ∨ i < n) (hj : j < m) : t.flag g i j = s.flag g i j := by
  rw [flag_eq, flag_eq, h.get g i j n m hl hw hi hj]

/-- A word with no bit in the footprint. -/
theorem reg (h : Touch l s t) (a : Nat) (hl : ∀ p ∈ sharedPatches ++ l, ¬p.Has a) : t.reg a = s.reg a := by
  apply BitVec.eq_of_toNat_eq
  apply Nat.eq_of_testBit_eq
  intro b
  by_cases hb : b < 32
  · exact h a b hb fun p hp hbit => hl p hp hbit.1
  · rw [Nat.testBit_lt_two_pow (lt_of_lt_of_le (BitVec.isLt _) (Nat.pow_le_pow_right two_pos (by omega))),
      Nat.testBit_lt_two_pow (lt_of_lt_of_le (BitVec.isLt _) (Nat.pow_le_pow_right two_pos (by omega)))]

/-- A counter with no word in the footprint. -/
theorem count (h : Touch l s t) (c : Ctr) (i j : Nat) (hl : (sharedPatches ++ l).all (fun p => c.patches.all p.apart) = true)
    (hpos : l.all (fun p => Nat.ble 1 p.width && Nat.ble (p.lo + p.width) 32) = true) (hi : c.n = 0 ∨ i < c.n) (hj : j < c.m) : t.count c i j = s.count c i j := by
  have key : ∀ q ∈ c.patches, ∀ a, q.Has a → q.lo = 0 → q.width = 32 → t.reg a = s.reg a := fun q hq a ha hlo hwid => by
    refine h.reg a fun p hp hhas => ?_
    have hbits := Patch.bits_of_apart (List.all_eq_true.mp (List.all_eq_true.mp hl p hp) q hq) hhas ha
    have hw : 1 ≤ p.width ∧ p.lo + p.width ≤ 32 := by
      rcases List.mem_append.mp hp with hp | hp
      · obtain ⟨x, -, rfl⟩ := List.mem_map.mp hp
        exact ⟨by simp [wordPatch], by simp [wordPatch]⟩
      · simpa only [Bool.and_eq_true, Nat.ble_eq] using List.all_eq_true.mp hpos p hp
    omega
  have h0 : t.reg (c.addr i j) = s.reg (c.addr i j) :=
    key ⟨c.array 0, 0, 32⟩ (by unfold Ctr.patches; split <;> simp) (c.addr i j) ⟨i, j, hi, hj, by simp [Ctr.array, Ctr.addr]⟩ rfl rfl
  unfold State.count
  dsimp only
  split
  · rw [h0]
  · next hw =>
    rw [h0, key ⟨c.array 4, 0, 32⟩ (by unfold Ctr.patches; rw [if_neg hw]; simp) (c.addr i j + 4) ⟨i, j, hi, hj, by simp only [Ctr.array, Ctr.addr]; omega⟩ rfl rfl]

end Touch

/-- No patch of a list is of a word of copy `j` of a counter's inner array, and each has a bit of its words. -/
abbrev Ctr.unwritten (c : Ctr) (l : List Patch) (j : Nat) : Prop :=
  (sharedPatches ++ l).all (fun p => c.patches.all p.apart) = true ∧ l.all (fun p => Nat.ble 1 p.width && Nat.ble (p.lo + p.width) 32) = true ∧ j < c.m

namespace Touch
variable {l l' : List Patch} {s t u : State} {f : Field} {c : Ctr} {v i k : Nat}

/-! The same for a word of its own and for copy `i` of one of `n`; what the numbers decide is one condition, for `decide`. -/

theorem set0 (h : Touch l s t) (hl : f.patch.inList l = true) : Touch l s (t.set f v) := h.set 1 1 hl (.inr Nat.one_pos) Nat.one_pos

theorem setRow {n : Nat} (h : Touch l s t) (hi : i < n) (hl : (f.patch n).inList l = true) : Touch l s (t.set f v i) :=
  h.set n 1 hl (.inr hi) Nat.one_pos

theorem bump0 (h : Touch l s t) (hd : c.patches.all (·.inList l) = true ∧ 0 < c.n ∧ 0 < c.m) :
    Touch l s (t.bump c 0 0 k) := h.bump hd.1 (.inr hd.2.1) hd.2.2

theorem bumpRow (h : Touch l s t) (hi : i < c.n) (hd : c.patches.all (·.inList l) = true ∧ 0 < c.m) :
    Touch l s (t.bump c i 0 k) := h.bump hd.1 (.inr hi) hd.2

theorem get0 (h : Touch l s t) (g : Field) (hd : (sharedPatches ++ l).all (·.apart g.patch) = true ∧ g.lo + g.width ≤ 32) :
    t.get g = s.get g := h.get g 0 0 1 1 hd.1 hd.2 (.inr Nat.one_pos) Nat.one_pos

theorem flag0 (h : Touch l s t) (g : Field) (hd : (sharedPatches ++ l).all (·.apart g.patch) = true ∧ g.lo + g.width ≤ 32) :
    t.flag g = s.flag g := h.flag g 0 0 1 1 hd.1 hd.2 (.inr Nat.one_pos) Nat.one_pos

theorem count0 (h : Touch l s t) (c : Ctr) (hd : c.unwritten l 0 ∧ 0 < c.n) : t.count c = s.count c := by
  obtain ⟨⟨hl, hpos, hm⟩, hn⟩ := hd
  exact h.count c 0 0 hl hpos (.inr hn) hm

theorem getRow {n : Nat} (h : Touch l s t) (g : Field) (hi : i < n) (hd : (sharedPatches ++ l).all (·.apart (g.patch n)) = true ∧ g.lo + g.width ≤ 32) : t.get g i = s.get g i := h.get g i 0 n 1 hd.1 hd.2 (.inr hi) Nat.one_pos

theorem flagRow {n : Nat} (h : Touch l s t) (g : Field) (hi : i < n) (hd : (sharedPatches ++ l).all (·.apart (g.patch n)) = true ∧ g.lo + g.width ≤ 32) : t.flag g i = s.flag g i := h.flag g i 0 n 1 hd.1 hd.2 (.inr hi) Nat.one_pos

theorem countRow (h : Touch l s t) (c : Ctr) (hi : i < c.n) (hd : c.unwritten l 0) : t.count c i = s.count c i := by
  obtain ⟨hl, hpos, hm⟩ := hd
  exact h.count c i 0 hl hpos (.inr hi) hm

/-- A counter that counted before a part of a command that leaves it. -/
theorem counted {n j : Nat} (h : Touch l t u) (hc : Counted c i j n s t) (hi : i < c.n) (hd : c.unwritten l j) : Counted c i j n s u := by
  obtain ⟨hl, hpos, hj⟩ := hd
  exact counted_of_count hc rfl (h.count c i j hl hpos (.inr hi) hj)

/-- A counter that counts after a part of a command that leaves it. -/
theorem counted_of {n j : Nat} (h : Touch l s t) (hc : Counted c i j n t u) (hi : i < c.n) (hd : c.unwritten l j) : Counted c i j n s u := by
  obtain ⟨hl, hpos, hj⟩ := hd
  exact counted_of_count hc (h.count c i j hl hpos (.inr hi) hj) rfl

end Touch

/-- The end of a command leaves all but the words in which a squelch shows. -/
theorem Ended.touch {s u t : State} (h : Ended [] s u t) : Touch [] u t := .of_kept h.kept

/-- The end of a command that answers a mailbox writes its interrupt status beside. -/
theorem Ended.answer_touch {s u t : State} (h : Ended [0x12014] s u t) : Touch [wordPatch 0x12014] u t := fun a b hb hout => by
  rw [h.kept a (fun ha => ?_) fun hq => ?_]
  · exact hout _ (List.mem_append_right _ (List.mem_singleton.mpr rfl)) ⟨has_wordPatch.mpr (List.mem_singleton.mp ha), Nat.zero_le _, by simpa [wordPatch] using hb⟩
  · exact hout (wordPatch a) (List.mem_append_left _ (List.mem_map_of_mem hq)) ⟨has_wordPatch.mpr rfl, Nat.zero_le _, by simpa [wordPatch] using hb⟩

namespace Touch
variable {l : List Patch} {s t : State} {f : Field} {c : Ctr} {v i k : Nat}

/-- A field of any copy is written. -/
theorem setAny (h : Touch l s t) (hl : (f.patch 0).inList l = true) : Touch l s (t.set f v i) := h.set 0 1 hl (.inl rfl) Nat.one_pos

/-- A counter of any copy counts. -/
theorem bumpAny (h : Touch l s t) (hd : (Ctr.patches { c with n := 0 }).all (·.inList l) = true ∧ 0 < c.m) :
    Touch l s (t.bump c i 0 k) := h.bump (c := { c with n := 0 }) hd.1 (.inl rfl) hd.2

end Touch

end Sys2Proof.Machine
end

section
/-! SUPPORT. Protection timers and codewords (O46, O48) -/

namespace Sys2Proof.Machine

/-! ### What a command leaves beside registers -/

/-- A component that neither registers, logs, the MSI-X state, mailboxes nor the gate of a burst show is as the command leaves it before its end. -/
theorem Ended.keeps {β : Type} {but : List Nat} {s u t : State} (h : Ended but s u t) (π : State → β)
    (hπ : ∀ (z : State) r l m b p ms, π { z with regs := r, logs := l, msix := m, self := { z.self with sent := b }, pending := p, mbs := ms } = π z) : π t = π u :=
  (hπ t _ _ _ _ _ _).symm.trans (congrArg π h.rest)

/-! ### Protection timers and host requests (R361–R371) -/

/-- PQ_UNSTABLE_CHECK that finds the requests unstable. -/
theorem pqUnstable_counted (s : State) :
    let u := ((s.set Reg.PROT_STATUS_PQ_UNSTABLE 1).set Reg.PROT_EVENTS_PQ_UNSTABLE 1).bump Cnt.PQ_UNSTABLE_EVENTS
    u.flag Reg.PROT_STATUS_PQ_UNSTABLE = true ∧ u.flag Reg.PROT_EVENTS_PQ_UNSTABLE = true ∧ Counted Cnt.PQ_UNSTABLE_EVENTS 0 0 1 s u ∧ u.prot = s.prot := by
  refine ⟨?_, ?_, counted_of_count (counted_bump _ _ 0 0 1 (.inl rfl)) ?_ rfl,
    (((RegsLogs.refl s).set _ _ _ _).set _ _ _ _ |>.bump _ _ _ _).keeps State.prot fun _ _ _ => rfl⟩
  · rw [flag_bump_ne _ _ _ _ _ _ _ _ (by decide)]
    simp (disch := decide) only [flag_set_ne, flag_set_self]
    decide
  · rw [flag_bump_ne _ _ _ _ _ _ _ _ (by decide)]
    simp (disch := decide) only [flag_set_self]
    decide
  · simp (disch := decide) only [count_set_ne]

/-- Settles O48. -/
theorem protectionTimersAndHostRequests : Obligations.ProtectionTimersAndHostRequests := by
  unfold Obligations.ProtectionTimersAndHostRequests
  refine ⟨fun i h s hh hdue => ?_, fun t0 s hw hdue => ?_, fun t0 s hw hdue => ?_, fun s hfr => ?_, fun mb p s hreq hon => ⟨fun ht hen hq hlow => ?_, fun ht hm hd hq => ?_⟩⟩
  · show ∃ t, execHoldoffExpire i s = _ ∧ _
    unfold execHoldoffExpire
    simp only [hh, if_pos hdue]
    refine done_then fun t he _ => ?_
    have hprot := (congrArg (fun z : State => z.prot) he.rest :)
    change t.prot = _ at hprot
    by_cases hd : s.flag (defectField i.val) = true
    · rw [if_pos hd] at he hprot
      refine ⟨?_, fun _ => ?_, fun hf => absurd hd (by simp [hf]), fun a ha hsq => he.kept a ha hsq⟩
      · unfold State.holdoff
        rw [hprot]
        exact tget_tput_self (none : Option (Nat × Nat)) s.prot.holdoffs i.val none
      · rw [hprot]
        exact (bitsOf_putBits_self _ _ _ _).trans rfl
    · rw [if_neg hd] at he hprot
      refine ⟨?_, fun hf => absurd hf hd, fun _ => ?_, fun a ha hsq => he.kept a ha hsq⟩
      · unfold State.holdoff
        rw [hprot]
        exact tget_tput_self (none : Option (Nat × Nat)) s.prot.holdoffs i.val none
      · rw [hprot]
        rfl
  · show ∃ t, execWtrExpire s = _ ∧ _
    unfold execWtrExpire
    simp only [hw]
    rw [if_pos (show t0 + secT (s.get Reg.PROT_TIMERS_WTR_S) ≤ s.clock from hdue)]
    refine done_then fun t he _ => ⟨(congrArg (fun z : State => z.prot) he.rest :), ?_, ?_⟩
    · rw [he.kept.flag _ 0 0 (by decide) (by decide)]
      unfold State.endWtr
      simp (disch := decide) only [flag_set_ne, flag_set_self]
      decide
    · rw [he.kept.flag _ 0 0 (by decide) (by decide)]
      unfold State.endWtr
      simp (disch := decide) only [flag_set_ne, flag_set_self]
      decide
  · show ∃ t, execSettlingEnd s = _ ∧ _
    unfold execSettlingEnd
    simp only [hw]
    rw [if_pos (show t0 + msT 200 ≤ s.clock from hdue)]
    refine done_then fun t he _ => ⟨(congrArg (fun z : State => z.prot) he.rest :), ?_, fun a ha hsq => ?_⟩
    · rw [he.kept.flag _ 0 0 (by decide) (by decide)]
      exact flag_set_self s Reg.PROT_STATUS_SETTLING 0 0 0 (by decide)
    · exact (he.kept.of_nil hsq).trans (reg_set_ne s _ _ _ _ (by simpa using ha))
  · show ∃ t, execPqUnstableCheck s = _ ∧ _
    unfold execPqUnstableCheck
    simp only [if_neg (Nat.not_lt.mpr hfr)]
    by_cases hun : (decide (100 ≤ s.prot.pqChanges) && !s.prot.pqAccepted) = true
    · rw [if_pos hun]
      obtain ⟨hq, hev, hct, hprot⟩ := pqUnstable_counted (s.setProt { s.prot with pqFrames := s.prot.pqFrames - 200, pqChanges := 0, pqAccepted := false })
      refine done_then fun t he _ => ⟨(he.keeps State.prot fun _ _ _ _ _ _ _ => rfl).trans hprot, fun _ _ => ⟨?_, ?_, counted_after (counted_of_count hct (setProt_count _ _ _ _ _) rfl) he.kept (by decide)⟩⟩
      · exact (he.kept.flag _ 0 0 (by decide) (by decide)).trans hq
      · exact (he.kept.flag _ 0 0 (by decide) (by decide)).trans hev
    · rw [if_neg hun]
      exact done_then fun t he _ => ⟨(congrArg (fun z : State => z.prot) he.rest :), fun h1 h2 => absurd hun (by simp [h1, h2])⟩
  · show ∃ t, execProtCmd mb s = _ ∧ _
    unfold execProtCmd
    have hen' : (!(s.serving mb.val).flag Reg.PROT_CFG_EN) = false := congrArg not hen
    exact actOn_then hreq hon ((if_pos ht).trans ((if_neg (ne_true_of_eq_false hen')).trans ((if_neg hq).trans (if_neg (Nat.not_le.mpr hlow)))))
      fun t he hans => ⟨hans.of_mbs rfl, (congrArg (fun z : State => z.prot) he.rest :), fun a ha hsq => he.kept a ha hsq⟩
  · show ∃ t, execProtCmd mb s = _ ∧ _
    unfold execProtCmd
    have hx : ((s.serving mb.val).mode ≠ 1 || !(s.serving mb.val).flag Reg.LF_PROFILE_DUAL_HOME (u16 p 0)) = false := by
      have h1 : (s.serving mb.val).mode = 1 := hm
      have h2 : (s.serving mb.val).flag Reg.LF_PROFILE_DUAL_HOME (u16 p 0) = true := hd
      rw [h1, h2]
      decide
    refine actOn_then hreq hon ((if_neg ht).trans ((if_neg (ne_true_of_eq_false hx)).trans ((if_neg (by omega)).trans (if_neg (by simp [hq])))))
      fun t he hans => ⟨hans.of_mbs rfl, ?_, fun a ha hsq => he.kept a ha hsq⟩
    have hleaf := (congrArg (fun z : State => z.leafInfo (u16 p 0)) he.rest :)
    change t.leafInfo _ = _ at hleaf
    rw [hleaf]
    unfold State.leafInfo State.setLeafInfo
    rw [tget_tput_self]
    simp [hq]

/-! ### Locks of the line and of its furrows -/

def lineLockPatches : List Patch := [Reg.RX_STATUS_LINE_LOCK.patch, Reg.RX_STATUS_ACQ_STATE.patch]

theorem refreshLineLock_touch (s : State) : Touch lineLockPatches s s.refreshLineLock := by
  unfold State.refreshLineLock
  exact .ite (fun _ => ((Touch.refl _ s).set0 (by decide)).set0 (by decide)) fun _ => (Touch.refl _ s).set0 (by decide)

theorem leafLockChange_touch (s : State) : Touch [Reg.SELF_STATUS_STATE.patch] s s.leafLockChange := by
  unfold State.leafLockChange
  have hset : Touch [Reg.SELF_STATUS_STATE.patch] s (s.set Reg.SELF_STATUS_STATE 1) := (Touch.refl _ s).set0 (by decide)
  exact .ite (fun _ => .refl _ s) fun _ => .ite (fun _ => .ite (fun _ => hset) fun _ => .refl _ s) fun _ => .ite (fun _ => .refl _ s) fun _ => hset.same rfl

def outOfFramePatches : List Patch :=
  [Reg.FRM_FR_STATUS_SYNC.patch 32, Reg.FRM_FR_STATUS_CANDS.patch 32, Reg.FRM_FR_STATUS_OOF.patch 32, Reg.FRM_FR_EVENTS_OOF.patch 32, Reg.SELF_STATUS_STATE.patch] ++
    Cnt.OOF_EVENTS.patches ++ lineLockPatches

theorem outOfFrame_touch (s : State) {f : Nat} (hf : f < 32) : Touch outOfFramePatches s (s.outOfFrame f) := by
  unfold State.outOfFrame
  have hhunt : Touch outOfFramePatches s ((s.set Reg.FRM_FR_STATUS_SYNC 0 f).set Reg.FRM_FR_STATUS_CANDS 0 f) := ((Touch.refl _ s).setRow hf (by decide)).setRow hf (by decide)
  have hfrm : ∀ x, Touch outOfFramePatches s (((s.set Reg.FRM_FR_STATUS_SYNC 0 f).set Reg.FRM_FR_STATUS_CANDS 0 f).setFrmFur f x) := fun x => hhunt.same rfl
  refine .andThen (.andThen (.ite (fun _ => hfrm _) fun _ => ?_) (leafLockChange_touch _) (by decide)) (refreshLineLock_touch _) (by decide)
  exact (((hfrm _).setRow hf (by decide)).bumpRow hf (by decide)).setRow hf (by decide)

theorem outOfFrame_sync (s : State) {f : Nat} (hf : f < 32) : (s.outOfFrame f).flag Reg.FRM_FR_STATUS_SYNC f = false := by
  unfold State.outOfFrame
  rw [(refreshLineLock_touch _).flagRow Reg.FRM_FR_STATUS_SYNC hf (by decide), (leafLockChange_touch _).flagRow Reg.FRM_FR_STATUS_SYNC hf (by decide)]
  have hhunt : ∀ x, (((s.set Reg.FRM_FR_STATUS_SYNC 0 f).set Reg.FRM_FR_STATUS_CANDS 0 f).setFrmFur f x).flag Reg.FRM_FR_STATUS_SYNC f = false := fun x => by
    rw [setFrmFur_flag, flag_set_ne _ _ _ _ _ _ _ _ (by decide) (.inr (by decide)), flag_set_self _ _ _ _ _ (by decide)]
    rfl
  split
  · exact hhunt _
  · rw [flag_set_ne _ _ _ _ _ _ _ _ (by decide) (.inl (by simp only [Field.addr, Reg.FRM_FR_STATUS_SYNC, Reg.FRM_FR_EVENTS_OOF]; omega)),
      flag_bump_ne _ _ _ _ _ _ _ _ (by simp [Ctr.wordsOf, Ctr.addr, Field.addr, Cnt.OOF_EVENTS, Reg.FRM_FR_STATUS_SYNC]),
      flag_set_ne _ _ _ _ _ _ _ _ (by decide) (.inr (by decide))]
    exact hhunt _

def cwLossPatches : List Patch :=
  [Reg.FEC_FR_STATUS_CW_LOCK.patch 32, Reg.CW_LOCK_MASK_MASK.patch, Reg.FEC_FR_EVENTS_CW_LOCK_LOST.patch 32, Reg.FEC_FR_STATUS_HUNT.patch 32] ++
    Cnt.CW_LOCK_LOSSES.patches ++ outOfFramePatches

theorem startHunt_touch (s : State) {f : Nat} (hf : f < 32) : Touch [Reg.FEC_FR_STATUS_HUNT.patch 32] s (s.startHunt f) := by
  unfold State.startHunt
  have hhunt : ∀ x, Touch [Reg.FEC_FR_STATUS_HUNT.patch 32] s ((s.set Reg.FEC_FR_STATUS_HUNT 1 f).setFecFur f x) := fun x =>
    Touch.same (t := s.set Reg.FEC_FR_STATUS_HUNT 1 f) ((Touch.refl _ s).setRow hf (by decide)) rfl
  exact .ite (fun _ => .refl _ s) fun _ => hhunt _

/-- CW_LOCK falls, when it was 1 (the first part of R314's loss). -/
def State.cwLockFalls (s : State) (f reason : Nat) : State :=
  if s.flag Reg.FEC_FR_STATUS_CW_LOCK f then
    ((((s.set Reg.FEC_FR_STATUS_CW_LOCK 0 f).setMaskBit Reg.CW_LOCK_MASK_MASK f 0).bump Cnt.CW_LOCK_LOSSES f).set Reg.FEC_FR_EVENTS_CW_LOCK_LOST 1 f).logCw f reason
  else s

/-- The hunt begins, or waits for the carrier (the second part of R314's loss). -/
def State.huntAgain (s : State) (f : Nat) : State := if s.flag Reg.FR_STATUS_CAR_LOCK f then s.startHunt f else s.set Reg.FEC_FR_STATUS_HUNT 0 f

theorem cwLoss_eq (s : State) (f reason : Nat) :
    s.cwLoss f reason = (((s.cwLockFalls f reason).setFecFur f { (s.cwLockFalls f reason).fecFur f with broken := true, badRun := 0 }).huntAgain f).outOfFrame f := rfl

theorem cwLockFalls_touch (s : State) {f : Nat} (hf : f < 32) (reason : Nat) : Touch cwLossPatches s (s.cwLockFalls f reason) := by
  unfold State.cwLockFalls State.logCw State.setMaskBit
  exact .ite (fun _ => (((((Touch.refl _ s).setRow hf (by decide)).set0 (by decide)).bumpRow hf (by decide)).setRow hf (by decide)).log _ _ _) fun _ => .refl _ s

theorem huntAgain_touch (s : State) {f : Nat} (hf : f < 32) : Touch [Reg.FEC_FR_STATUS_HUNT.patch 32] s (s.huntAgain f) := by
  unfold State.huntAgain
  exact .ite (fun _ => startHunt_touch s hf) fun _ => (Touch.refl _ s).setRow hf (by decide)

theorem setFecFur_touch (l : List Patch) (s : State) (f : Nat) (x : FecFurrow) : Touch l s (s.setFecFur f x) := .of_regs rfl

theorem cwLoss_touch (s : State) {f : Nat} (hf : f < 32) (reason : Nat) : Touch cwLossPatches s (s.cwLoss f reason) := by
  rw [cwLoss_eq]
  exact (((cwLockFalls_touch s hf reason).trans (setFecFur_touch _ _ _ _)).andThen (huntAgain_touch _ hf) (by decide)).andThen (outOfFrame_touch _ hf) (by decide)

theorem cwLockFalls_lock (s : State) {f : Nat} (hf : f < 32) (reason : Nat) : (s.cwLockFalls f reason).flag Reg.FEC_FR_STATUS_CW_LOCK f = false := by
  unfold State.cwLockFalls
  split
  · unfold State.logCw State.setMaskBit
    have hlow : ∀ u : State, Touch ([Reg.CW_LOCK_MASK_MASK.patch, Reg.FEC_FR_EVENTS_CW_LOCK_LOST.patch 32] ++ Cnt.CW_LOCK_LOSSES.patches) u
        ((((u.set Reg.CW_LOCK_MASK_MASK (putBits (u.get Reg.CW_LOCK_MASK_MASK) f 1 0)).bump Cnt.CW_LOCK_LOSSES f).set Reg.FEC_FR_EVENTS_CW_LOCK_LOST 1 f).log wbFec 0x30
          [BitVec.ofNat 8 f, BitVec.ofNat 8 reason]) := fun u => ((((Touch.refl _ u).set0 (by decide)).bumpRow hf (by decide)).setRow hf (by decide)).log _ _ _
    rw [(hlow _).flagRow Reg.FEC_FR_STATUS_CW_LOCK hf (by decide), flag_set_self _ _ _ _ _ (by decide)]
    rfl
  · next h => exact Bool.eq_false_iff.mpr h

theorem cwLoss_lock (s : State) {f : Nat} (hf : f < 32) (reason : Nat) : (s.cwLoss f reason).flag Reg.FEC_FR_STATUS_CW_LOCK f = false := by
  rw [cwLoss_eq, (outOfFrame_touch _ hf).flagRow Reg.FEC_FR_STATUS_CW_LOCK hf (by decide), (huntAgain_touch _ hf).flagRow Reg.FEC_FR_STATUS_CW_LOCK hf (by decide), setFecFur_flag]
  exact cwLockFalls_lock s hf reason

/-! ### Codewords (R312–R319) -/

def countCwPatches : List Patch :=
  [Reg.FEC_FR_STATUS_CYCLE.patch 32, Reg.FEC_FR_EVENTS_UNCORR.patch 32] ++ Cnt.ITER_SUM.patches ++ Cnt.LDPC_FAILS.patches ++ Cnt.BCH_FIXES.patches ++
    Cnt.CW_UNCORR.patches ++ Cnt.BITS_CORR.patches ++ Cnt.CYCLE_ERRS.patches

/-- The counters of the decoder itself, before the result is judged (R318). -/
def State.decoderCounts (s : State) (f : Nat) (r : Judged) : State :=
  let terrace := s.get Reg.FEC_CTRL_LINE_FEC == 0
  let s1 := s.bump Cnt.CW_TOTAL f
  let s2 := if terrace then s1.bump Cnt.ITER_SUM f 0 r.iters else s1
  let s3 := if terrace && !r.syndromeZero then s2.bump Cnt.LDPC_FAILS f else s2
  if terrace && 0 < r.fixes && !r.uncorrectable then s3.bump Cnt.BCH_FIXES f else s3

/-- The result of a codeword counts (R319). -/
def State.judgedCounts (s : State) (f : Nat) (r : Judged) : State :=
  if r.uncorrectable then (s.bump Cnt.CW_UNCORR f).set Reg.FEC_FR_EVENTS_UNCORR 1 f else s.bump Cnt.BITS_CORR f 0 r.bitsCorr

/-- The cycle index that a codeword is taken to carry (R315). -/
def State.carried (s : State) (f : Nat) (r : Judged) : Nat :=
  let cycle := carriedIndex (s.get Reg.FEC_FR_STATUS_RATE_NOW f) r.outer
  let expected := (s.expectedIndex f).getD 0
  if r.uncorrectable then expected else if cycle < cycleLen (s.get Reg.FEC_FR_STATUS_RATE_NOW f) then cycle else expected

/-- What the deframer takes from a codeword, whose state was `s`, to the state `u` with its counters (R315, R317). -/
def State.deliverCw (s : State) (f : Nat) (r : Judged) (u : State) : State :=
  let x := s.fecFur f
  let terrace := s.get Reg.FEC_CTRL_LINE_FEC == 0
  let sel := s.get Reg.FEC_FR_STATUS_RATE_NOW f
  let carried := s.carried f r
  let s6 := if terrace && !r.uncorrectable && carriedIndex sel r.outer ≠ (s.expectedIndex f).getD 0 then u.bump Cnt.CYCLE_ERRS f else u
  let s7 := if terrace then s6.set Reg.FEC_FR_STATUS_CYCLE carried f else s6
  let run := if r.uncorrectable then x.badRun + 1 else 0
  let s8 := s7.setFecFur f { x with
    restart := false, badRun := run, mfBad := x.mfBad + b2n r.uncorrectable, perCw := x.perCw + 1
    perBits := x.perBits + (if r.uncorrectable then 0 else r.bitsCorr), perBad := x.perBad || r.uncorrectable
    out := (if terrace then deliveredBits sel carried r.outer else []), outMarked := r.uncorrectable }
  if terrace && 8 ≤ run then s8.cwLoss f 2 else s8

theorem countCw_eq (s : State) (f : Nat) (r : Judged) : s.countCw f r = s.deliverCw f r ((s.decoderCounts f r).judgedCounts f r) := rfl

theorem count_lt (s : State) (c : Ctr) (i j : Nat) (hc : c.words = 1 ∨ c.words = 2) : s.count c i j < if c.words = 1 then 2 ^ 32 else 2 ^ 64 := by
  unfold State.count
  dsimp only
  have h0 := (s.reg (c.addr i j)).isLt
  have h4 := (s.reg (c.addr i j + 4)).isLt
  rcases hc with hc | hc
  · rw [if_pos hc, if_pos hc]
    exact h0
  · rw [if_neg (by omega), if_pos hc, if_neg (by omega)]
    omega

/-- A counter that stays. -/
theorem counted_zero {c : Ctr} {i j : Nat} {s t : State} (h : t.count c i j = s.count c i j) (hc : c.words = 1 ∨ c.words = 2) : Counted c i j 0 s t := by
  have hlt := count_lt s c i j hc
  unfold Counted
  rcases hc with hc | hc
  · rw [if_pos hc] at hlt ⊢
    omega
  · rw [if_neg (by omega)] at hlt ⊢
    rw [if_pos hc, h]
    omega

def decoderPatches : List Patch := Cnt.ITER_SUM.patches ++ Cnt.LDPC_FAILS.patches ++ Cnt.BCH_FIXES.patches

theorem decoderCounts_touch (s : State) {f : Nat} (hf : f < 32) (r : Judged) : Touch decoderPatches (s.bump Cnt.CW_TOTAL f) (s.decoderCounts f r) := by
  unfold State.decoderCounts
  have h2 : ∀ (c : Prop) [Decidable c], Touch decoderPatches (s.bump Cnt.CW_TOTAL f) (if c then (s.bump Cnt.CW_TOTAL f).bump Cnt.ITER_SUM f 0 r.iters else s.bump Cnt.CW_TOTAL f) :=
    fun c _ => .ite (fun _ => (Touch.refl _ _).bumpRow hf (by decide)) fun _ => .refl _ _
  exact .ite (fun _ => (Touch.ite (fun _ => (h2 _).bumpRow hf (by decide)) fun _ => h2 _).bumpRow hf (by decide)) fun _ => .ite (fun _ => (h2 _).bumpRow hf (by decide)) fun _ => h2 _

def deliverCwPatches : List Patch := Reg.FEC_FR_STATUS_CYCLE.patch 32 :: Cnt.CYCLE_ERRS.patches ++ cwLossPatches

theorem deliverCw_touch (s : State) {f : Nat} (hf : f < 32) (r : Judged) (u : State) : Touch deliverCwPatches u (s.deliverCw f r u) := by
  unfold State.deliverCw
  have h6 : ∀ (c : Prop) [Decidable c], Touch deliverCwPatches u (if c then u.bump Cnt.CYCLE_ERRS f else u) := fun c _ =>
    .ite (fun _ => (Touch.refl _ u).bumpRow hf (by decide)) fun _ => .refl _ u
  have h7 : ∀ (c d : Prop) [Decidable c] [Decidable d] (v : Nat) (x : FecFurrow),
      Touch deliverCwPatches u ((if d then (if c then u.bump Cnt.CYCLE_ERRS f else u).set Reg.FEC_FR_STATUS_CYCLE v f else if c then u.bump Cnt.CYCLE_ERRS f else u).setFecFur f x) :=
    fun c d _ _ v x => (Touch.ite (fun _ => (h6 c).setRow hf (by decide)) fun _ => h6 c).trans (setFecFur_touch _ _ _ _)
  exact .ite (fun _ => (h7 _ _ _ _).andThen (cwLoss_touch _ hf _) (by decide)) fun _ => h7 _ _ _ _

/-- In an interoperability mode no run of bad codewords ends CW_LOCK (R327). -/
theorem deliverCw_lock (s : State) (f : Nat) (r : Judged) (u : State) (h : s.get Reg.FEC_CTRL_LINE_FEC ≠ 0) :
    (s.deliverCw f r u).flag Reg.FEC_FR_STATUS_CW_LOCK f = u.flag Reg.FEC_FR_STATUS_CW_LOCK f := by
  have hno : (s.get Reg.FEC_CTRL_LINE_FEC == 0) = false := by simpa using h
  unfold State.deliverCw
  simp only [hno, Bool.false_and, Bool.false_eq_true, if_false]
  exact setFecFur_flag _ _ _ _ _ _

def judgedPatches : List Patch := Reg.FEC_FR_EVENTS_UNCORR.patch 32 :: Cnt.CW_UNCORR.patches ++ Cnt.BITS_CORR.patches

theorem judgedCounts_touch (s : State) {f : Nat} (hf : f < 32) (r : Judged) : Touch judgedPatches s (s.judgedCounts f r) := by
  unfold State.judgedCounts
  exact .ite (fun _ => ((Touch.refl _ s).bumpRow hf (by decide)).setRow hf (by decide)) fun _ => (Touch.refl _ s).bumpRow hf (by decide)

theorem countCw_total (s : State) {f : Nat} (hf : f < 32) (r : Judged) : Counted Cnt.CW_TOTAL f 0 1 s (s.countCw f r) := by
  rw [countCw_eq]
  exact (deliverCw_touch s hf r _).counted ((judgedCounts_touch _ hf r).counted ((decoderCounts_touch s hf r).counted (counted_bump s Cnt.CW_TOTAL f 0 1 (.inr rfl)) hf (by decide)) hf (by decide)) hf (by decide)

theorem judgedCounts_corrected (s : State) {f : Nat} (hf : f < 32) (r : Judged) (h : r.uncorrectable = false) :
    Counted Cnt.BITS_CORR f 0 r.bitsCorr s (s.judgedCounts f r) ∧ Counted Cnt.CW_UNCORR f 0 0 s (s.judgedCounts f r) := by
  unfold State.judgedCounts
  rw [if_neg (ne_true_of_eq_false h)]
  have hbits : Touch Cnt.BITS_CORR.patches s (s.bump Cnt.BITS_CORR f 0 r.bitsCorr) := (Touch.refl _ s).bumpRow hf (by decide)
  exact ⟨counted_bump _ _ _ _ _ (.inr rfl), counted_zero (hbits.countRow Cnt.CW_UNCORR hf (by decide)) (.inl rfl)⟩

theorem judgedCounts_uncorrectable (s : State) {f : Nat} (hf : f < 32) (r : Judged) (h : r.uncorrectable = true) :
    Counted Cnt.CW_UNCORR f 0 1 s (s.judgedCounts f r) ∧ (s.judgedCounts f r).flag Reg.FEC_FR_EVENTS_UNCORR f = true := by
  unfold State.judgedCounts
  rw [if_pos h]
  have hev : Touch [Reg.FEC_FR_EVENTS_UNCORR.patch 32] (s.bump Cnt.CW_UNCORR f) ((s.bump Cnt.CW_UNCORR f).set Reg.FEC_FR_EVENTS_UNCORR 1 f) := (Touch.refl _ _).setRow hf (by decide)
  exact ⟨hev.counted (counted_bump _ _ _ _ _ (.inl rfl)) hf (by decide), by rw [flag_set_self _ _ _ _ _ (by decide)]; rfl⟩

/-- What the counters of the decoder have counted when the judged codeword counts. -/
theorem decoderCounts_before (s : State) {f : Nat} (hf : f < 32) (r : Judged) : Touch (Cnt.CW_TOTAL.patches ++ decoderPatches) s (s.decoderCounts f r) :=
  Touch.andThen ((Touch.refl _ s).bumpRow (c := Cnt.CW_TOTAL) (k := 1) hf (by decide)) (decoderCounts_touch s hf r) (by decide)

theorem countCw_corrected (s : State) {f : Nat} (hf : f < 32) (r : Judged) (h : r.uncorrectable = false) :
    Counted Cnt.BITS_CORR f 0 r.bitsCorr s (s.countCw f r) ∧ Counted Cnt.CW_UNCORR f 0 0 s (s.countCw f r) := by
  rw [countCw_eq]
  obtain ⟨hbits, hunc⟩ := judgedCounts_corrected (s.decoderCounts f r) hf r h
  exact ⟨(deliverCw_touch s hf r _).counted ((decoderCounts_before s hf r).counted_of hbits hf (by decide)) hf (by decide), (deliverCw_touch s hf r _).counted ((decoderCounts_before s hf r).counted_of hunc hf (by decide)) hf (by decide)⟩

theorem countCw_uncorrectable (s : State) {f : Nat} (hf : f < 32) (r : Judged) (h : r.uncorrectable = true) :
    Counted Cnt.CW_UNCORR f 0 1 s (s.countCw f r) ∧ (s.countCw f r).flag Reg.FEC_FR_EVENTS_UNCORR f = true := by
  rw [countCw_eq]
  obtain ⟨hunc, hev⟩ := judgedCounts_uncorrectable (s.decoderCounts f r) hf r h
  exact ⟨(deliverCw_touch s hf r _).counted ((decoderCounts_before s hf r).counted_of hunc hf (by decide)) hf (by decide), ((deliverCw_touch s hf r _).flagRow _ hf (by decide)).trans hev⟩

def frameLockedPatches : List Patch :=
  [Reg.FR_STATUS_ACQ.patch 0, Reg.RX_EVENTS_ACQ_DONE.patch, Reg.ACQ_TIME_T.patch] ++ Cnt.ACQ_COUNT.patches ++ lineLockPatches

theorem acqDone_touch (s : State) (t0 : Nat) : Touch frameLockedPatches s (s.acqDone t0) := by
  unfold State.acqDone
  exact (((Touch.refl _ s).set0 (by decide)).bump0 (by decide)).set0 (by decide)

theorem setFur_touch (l : List Patch) (s : State) (f : Nat) (x : FurrowRx) : Touch l s (s.setFur f x) := .of_regs rfl

theorem setAcqState_touch (s : State) (v : Nat) : Touch lineLockPatches s (s.setAcqState v) := by
  unfold State.setAcqState
  have hset : Touch lineLockPatches s (s.set Reg.RX_STATUS_ACQ_STATE v) := (Touch.refl _ s).set0 (by decide)
  exact hset.trans (refreshLineLock_touch _)

theorem frameLocked_touch (s : State) (f : Nat) : Touch frameLockedPatches s (s.frameLocked f) := by
  have hfur : ∀ (v : State) (g : Nat) (x : FurrowRx), Touch frameLockedPatches v ((v.setFur g x).set Reg.FR_STATUS_ACQ 0 g) := fun v g x => (setFur_touch _ v g x).setAny (by decide)
  have hline : ∀ v : State, Touch frameLockedPatches v v.refreshLineLock := fun v => (refreshLineLock_touch v).mono (by decide)
  unfold State.frameLocked
  refine .ite (fun _ => .trans (.ite (fun _ => (hfur _ _ _).trans (acqDone_touch _ _)) fun _ => hfur _ _ _) (hline _)) fun _ => ?_
  have h1 : ∀ (c : Prop) [Decidable c] (x : FurrowRx), Touch frameLockedPatches s (if c then (s.setFur f x).set Reg.FR_STATUS_ACQ 0 f else s) :=
    fun c _ x => .ite (fun _ => hfur _ _ _) fun _ => .refl _ s
  have h3 : ∀ (u : State) (x : RxState) (v : Nat), Touch frameLockedPatches s u → Touch frameLockedPatches s (({ u with rx := x }).setAcqState v) :=
    fun u x v hu => (Touch.same hu rfl).andThen (setAcqState_touch _ _) (by decide)
  have hall := Touch.foldl (l := frameLockedPatches) (s := s) (xs := s.lineFurrows) (f := fun s f => (s.setFur f { s.fur f with step := 0 }).set Reg.FR_STATUS_ACQ 0 f)
    (fun g _ v => hfur _ _ _) (h1 (s.rx.step = 0) { s.fur f with step := 0 })
  exact .ite (fun _ => .ite (fun _ => (h3 _ _ _ hall).trans (acqDone_touch _ _)) fun _ => h3 _ _ _ hall) fun _ => (h1 _ _).trans (hline _)

def cwGainPatches : List Patch :=
  [Reg.FEC_FR_STATUS_CW_LOCK.patch 32, Reg.FEC_FR_STATUS_HUNT.patch 32, Reg.CW_LOCK_MASK_MASK.patch, Reg.FEC_FR_EVENTS_CW_LOCK_GAINED.patch 32, Reg.FEC_FR_STATUS_CYCLE.patch 32]

/-- What CW_LOCK gained writes after its two bits of status (R312). -/
theorem cwGain_touch_rest (s : State) {f : Nat} (hf : f < 32) (cycle : Nat) :
    Touch [Reg.CW_LOCK_MASK_MASK.patch, Reg.FEC_FR_EVENTS_CW_LOCK_GAINED.patch 32, Reg.FEC_FR_STATUS_CYCLE.patch 32]
      ((s.set Reg.FEC_FR_STATUS_CW_LOCK 1 f).set Reg.FEC_FR_STATUS_HUNT 0 f) (s.cwGain f cycle) := by
  unfold State.cwGain State.logCw State.setMaskBit
  exact (((((Touch.refl _ _).set0 (by decide)).setRow hf (by decide)).setRow hf (by decide)).trans (setFecFur_touch _ _ _ _)).log _ _ _

theorem cwGain_touch (s : State) {f : Nat} (hf : f < 32) (cycle : Nat) : Touch cwGainPatches s (s.cwGain f cycle) := by
  have h : Touch cwGainPatches s ((s.set Reg.FEC_FR_STATUS_CW_LOCK 1 f).set Reg.FEC_FR_STATUS_HUNT 0 f) := ((Touch.refl _ s).setRow hf (by decide)).setRow hf (by decide)
  exact h.andThen (cwGain_touch_rest s hf cycle) (by decide)

theorem cwGain_lock (s : State) {f : Nat} (hf : f < 32) (cycle : Nat) :
    (s.cwGain f cycle).flag Reg.FEC_FR_STATUS_CW_LOCK f = true ∧ (s.cwGain f cycle).flag Reg.FEC_FR_STATUS_HUNT f = false := by
  constructor
  · rw [(cwGain_touch_rest s hf cycle).flagRow _ hf (by decide), flag_set_ne _ _ _ _ _ _ _ _ (by decide) (.inr (by decide)), flag_set_self _ _ _ _ _ (by decide)]
    rfl
  · rw [(cwGain_touch_rest s hf cycle).flagRow _ hf (by decide), flag_set_self _ _ _ _ _ (by decide)]
    rfl

/-- The first codeword of an interoperability mode (R327). -/
theorem countCw_interop_first (s : State) {f : Nat} (hf : f < 32) (r : Judged) (h : s.get Reg.FEC_CTRL_LINE_FEC ≠ 0) :
    (((s.cwGain f 0).frameLocked f).countCw f r).flag Reg.FEC_FR_STATUS_CW_LOCK f = true ∧
      Counted Cnt.CW_TOTAL f 0 1 s (((s.cwGain f 0).frameLocked f).countCw f r) := by
  have hfec : ((s.cwGain f 0).frameLocked f).get Reg.FEC_CTRL_LINE_FEC ≠ 0 := by
    rw [(frameLocked_touch _ f).get0 Reg.FEC_CTRL_LINE_FEC (by decide), (cwGain_touch s hf 0).get0 Reg.FEC_CTRL_LINE_FEC (by decide)]
    exact h
  constructor
  · rw [countCw_eq, deliverCw_lock _ _ _ _ hfec, (judgedCounts_touch _ hf r).flagRow _ hf (by decide), (decoderCounts_before _ hf r).flagRow _ hf (by decide), (frameLocked_touch _ f).flagRow _ hf (by decide)]
    exact (cwGain_lock s hf 0).1
  · exact (cwGain_touch s hf 0).counted_of ((frameLocked_touch _ f).counted_of (countCw_total _ hf r) hf (by decide)) hf (by decide)

/-- A confirmed candidate (R312). -/
theorem confirmCw_gain (s : State) (f k : Nat) (r : Judged) (hb : (s.fecFur f).batch.isEmpty = false) (hk : (s.fecFur f).confirm = some k) (hz : r.syndromeZero = true)
    (hu : r.uncorrectable = false) (hc : carriedIndex (s.get Reg.FEC_FR_STATUS_RATE_NOW f) r.outer = (k + 1) % cycleLen (s.get Reg.FEC_FR_STATUS_RATE_NOW f)) :
    s.confirmCw f r = s.cwGain f (carriedIndex (s.get Reg.FEC_FR_STATUS_RATE_NOW f) r.outer) := by
  unfold State.confirmCw
  simp [hb, hk, hz, hu, hc]

/-- A candidate that fails (R312). -/
theorem confirmCw_reject (s : State) (f : Nat) (r : Judged) (hb : (s.fecFur f).batch.isEmpty = false) (h : r.syndromeZero = false ∨ r.uncorrectable = true) :
    s.confirmCw f r = s.setFecFur f { s.fecFur f with batch := (s.fecFur f).batch.drop 1, confirm := none } := by
  unfold State.confirmCw
  have hbad : (!r.syndromeZero || r.uncorrectable) = true := by rcases h with h | h <;> simp [h]
  simp only [hb, hbad, Bool.false_eq_true, if_false, if_true]

/-! ### Codewords of a burst (R221, R224, R319) -/

def burstCodewordPatches : List Patch := [Reg.LF_LEVEL_CD.patch 0, Reg.LF_LEVEL_RSSI.patch 0] ++ (Ctr.patches { Cnt.BAD_BURSTS with n := 0 })

theorem writeBack_touch (s : State) (a : Accepted) (taps : List Byte) (cd : Int) : Touch burstCodewordPatches s (s.writeBack a taps cd) := by
  unfold State.writeBack
  have hleaf : ∀ x, Touch burstCodewordPatches s (s.setLeafInfo a.leaf x) := fun _ => .of_regs rfl
  exact ((hleaf _).setAny (by decide)).setAny (by decide)

theorem setPath_touch (l : List Patch) (s : State) (f : Nat) (x : BurstPath) : Touch l s (s.setPath f x) := .of_regs rfl

/-- The first uncorrectable codeword of a burst counts it as a bad one (R221). -/
def State.badBurst (s : State) (a : Accepted) (bad : Bool) : State := if bad && !a.bad then s.bump Cnt.BAD_BURSTS a.leaf else s

theorem badBurst_touch (s : State) (a : Accepted) (bad : Bool) : Touch burstCodewordPatches s (s.badBurst a bad) := by
  unfold State.badBurst
  exact .ite (fun _ => (Touch.refl _ s).bumpAny (by decide)) fun _ => .refl _ s

theorem burstCodeword_touch (s : State) (f : Nat) (bad : Bool) : Touch burstCodewordPatches s (s.burstCodeword f bad) := by
  unfold State.burstCodeword
  dsimp only
  split
  · next t rest htails =>
    have h2 : ∀ x, Touch burstCodewordPatches s ((s.badBurst t.acc bad).setPath f x) := fun x => (badBurst_touch s _ _).trans (setPath_touch _ _ _ _)
    refine .ite (fun _ => h2 _) fun _ => ?_
    split
    · exact (h2 _).trans (writeBack_touch _ _ _ _)
    · exact h2 _
  · split
    · exact (badBurst_touch s _ _).trans (setPath_touch _ _ _ _)
    · exact .refl _ s

/-- The decoder's output is no part of a burst's path. -/
theorem burstCodeword_fec (s : State) (f : Nat) (bad : Bool) : (s.burstCodeword f bad).fec = s.fec := by
  have hbad : ∀ a, (s.badBurst a bad).fec = s.fec := fun a => ite_keeps State.fec rfl rfl
  have hwrite : ∀ (v : State) (a : Accepted) (taps : List Byte) (cd : Int), (v.writeBack a taps cd).fec = v.fec := fun _ _ _ _ => by
    unfold State.writeBack
    rw [set_fec, set_fec]
    rfl
  have hpath : ∀ (v : State) (x : BurstPath), (v.setPath f x).fec = v.fec := fun _ _ => rfl
  unfold State.burstCodeword
  dsimp only
  split
  · next t rest htails =>
    have h2 : ∀ x, ((s.badBurst t.acc bad).setPath f x).fec = s.fec := fun x => (hpath _ x).trans (hbad t.acc)
    split
    · exact h2 _
    · split
      · exact (hwrite _ _ _ _).trans (h2 _)
      · exact h2 _
  · split
    · exact (hpath _ _).trans (hbad _)
    · rfl

/-- The counters of a burst's codeword (R319). -/
def State.burstCounts (s : State) (r : Judged) : State :=
  let s1 := (s.bump Cnt.BCW_TOTAL).bump Cnt.BITER_SUM 0 0 r.iters
  let s2 := if 0 < r.fixes && !r.uncorrectable then s1.bump Cnt.BBCH_FIXES else s1
  if r.uncorrectable then s2.bump Cnt.BCW_UNCORR else s2.bump Cnt.BBITS_CORR 0 0 r.bitsCorr

theorem countBurstCw_eq (s : State) (f sel : Nat) (r : Judged) : s.countBurstCw f sel r =
    ((s.burstCounts r).setFecFur f { (s.burstCounts r).fecFur f with out := burstPayload sel r.outer, outMarked := r.uncorrectable }).burstCodeword f r.uncorrectable := rfl

def burstCountPatches : List Patch := Cnt.BITER_SUM.patches ++ Cnt.BBCH_FIXES.patches ++ Cnt.BCW_UNCORR.patches ++ Cnt.BBITS_CORR.patches

theorem burstCounts_touch (s : State) (r : Judged) : Touch burstCountPatches (s.bump Cnt.BCW_TOTAL) (s.burstCounts r) := by
  unfold State.burstCounts
  have h1 : Touch burstCountPatches (s.bump Cnt.BCW_TOTAL) ((s.bump Cnt.BCW_TOTAL).bump Cnt.BITER_SUM 0 0 r.iters) := (Touch.refl _ _).bump0 (by decide)
  have h2 : ∀ (c : Prop) [Decidable c], Touch burstCountPatches (s.bump Cnt.BCW_TOTAL)
      (if c then ((s.bump Cnt.BCW_TOTAL).bump Cnt.BITER_SUM 0 0 r.iters).bump Cnt.BBCH_FIXES else (s.bump Cnt.BCW_TOTAL).bump Cnt.BITER_SUM 0 0 r.iters) :=
    fun c _ => .ite (fun _ => h1.bump0 (by decide)) fun _ => h1
  exact .ite (fun _ => (h2 _).bump0 (by decide)) fun _ => (h2 _).bump0 (by decide)

theorem countBurstCw_total (s : State) (f sel : Nat) (r : Judged) : Counted Cnt.BCW_TOTAL 0 0 1 s (s.countBurstCw f sel r) := by
  rw [countBurstCw_eq]
  have h := (burstCounts_touch s r).counted (counted_bump s Cnt.BCW_TOTAL 0 0 1 (.inr rfl)) (by decide) (by decide)
  exact (burstCodeword_touch _ _ _).counted ((setFecFur_touch [] _ _ _).counted h (by decide) (by decide)) (by decide) (by decide)

theorem countBurstCw_out (s : State) (f sel : Nat) (r : Judged) :
    ((s.countBurstCw f sel r).fecFur f).outMarked = r.uncorrectable ∧ ((s.countBurstCw f sel r).fecFur f).out = burstPayload sel r.outer := by
  rw [countBurstCw_eq]
  unfold State.fecFur
  rw [burstCodeword_fec]
  unfold State.setFecFur
  rw [tget_tput_self]
  exact ⟨rfl, rfl⟩

/-! ### The offsets of a screening (R311) -/

theorem mem_screenHits (p : Nat → Bool) (base o : Nat) :
    o ∈ ((List.range 16).filter p).map (fun k => base + 4 * k) ↔ ∃ k, k < 16 ∧ o = base + 4 * k ∧ p k = true := by
  simp only [List.mem_map, List.mem_filter, List.mem_range]
  exact ⟨fun ⟨k, ⟨hk, hp⟩, ho⟩ => ⟨k, hk, ho.symm, hp⟩, fun ⟨k, hk, ho, hp⟩ => ⟨k, ⟨hk, hp⟩, ho.symm⟩⟩

/-- FEC_HUNT on a furrow in CAR_LOCK (R314, R328). -/
theorem cwLoss_hunts (s : State) {f : Nat} (hf : f < 32) (reason : Nat) (hcar : s.flag Reg.FR_STATUS_CAR_LOCK f = true) (hfec : s.get Reg.FEC_CTRL_LINE_FEC = 0) :
    (s.cwLoss f reason).flag Reg.FEC_FR_STATUS_HUNT f = true := by
  have hcar' : ∀ x, ((s.cwLockFalls f reason).setFecFur f x).flag Reg.FR_STATUS_CAR_LOCK f = true := fun x => by
    rw [setFecFur_flag, (cwLockFalls_touch s hf reason).flagRow Reg.FR_STATUS_CAR_LOCK hf (by decide)]
    exact hcar
  have hfec' : ∀ x, ¬((s.cwLockFalls f reason).setFecFur f x).get Reg.FEC_CTRL_LINE_FEC ≠ 0 := fun x => by
    rw [setFecFur_get, (cwLockFalls_touch s hf reason).get0 Reg.FEC_CTRL_LINE_FEC (by decide)]
    exact not_not.mpr hfec
  rw [cwLoss_eq, (outOfFrame_touch _ hf).flagRow Reg.FEC_FR_STATUS_HUNT hf (by decide)]
  unfold State.huntAgain
  rw [if_pos (hcar' _)]
  unfold State.startHunt
  rw [if_neg (hfec' _), setFecFur_flag, flag_set_self _ _ _ _ _ (by decide)]
  rfl

theorem cwLoss_sync (s : State) {f : Nat} (hf : f < 32) (reason : Nat) : (s.cwLoss f reason).flag Reg.FRM_FR_STATUS_SYNC f = false := outOfFrame_sync _ hf

theorem outOfFrame_mbs (s : State) (f : Nat) : (s.outOfFrame f).mbs = s.mbs := by
  have hline : ∀ v : State, v.refreshLineLock.mbs = v.mbs := fun v => ite_keeps State.mbs rfl rfl
  have hleaf : ∀ v : State, v.leafLockChange.mbs = v.mbs := fun v => by
    unfold State.leafLockChange
    split
    · rfl
    · split
      · exact ite_keeps State.mbs rfl rfl
      · split
        · rfl
        · rfl
  have hset : ∀ (v : State) (x : FrmFurrow), (v.setFrmFur f x).mbs = v.mbs := fun _ _ => rfl
  have hcounts : ∀ (v : State) (x : FrmFurrow),
      ((((v.setFrmFur f x).set Reg.FRM_FR_STATUS_OOF 1 f).bump Cnt.OOF_EVENTS f).set Reg.FRM_FR_EVENTS_OOF 1 f).mbs = v.mbs := fun v x =>
    ((((RegsLogs.refl (v.setFrmFur f x)).set _ _ _ _).bump _ _ _ _).set _ _ _ _).keeps State.mbs fun _ _ _ => rfl
  unfold State.outOfFrame
  rw [hline, hleaf]
  split
  · exact hset _ _
  · exact hcounts _ _

theorem RegsLogs.log {s t : State} (h : RegsLogs s t) (wb type : Nat) (d : List Byte) : RegsLogs s (t.log wb type d) := h.trans (regsLogs_log _ _ _ _)

theorem cwLockFalls_regsLogs (s : State) (f reason : Nat) : RegsLogs s (s.cwLockFalls f reason) := by
  unfold State.cwLockFalls State.setMaskBit State.logCw
  exact .ite (((((RegsLogs.refl s).set _ _ _ _).set _ _ _ _).bump _ _ _ _).set _ _ _ _ |>.log _ _ _) (.refl s)

theorem huntAgain_mbs (s : State) (f : Nat) : (s.huntAgain f).mbs = s.mbs := by
  unfold State.huntAgain State.startHunt
  split
  · split
    · rfl
    · rfl
  · rfl

theorem cwLoss_mbs (s : State) (f reason : Nat) : (s.cwLoss f reason).mbs = s.mbs := by
  have hset : ∀ (v : State) (x : FecFurrow), (v.setFecFur f x).mbs = v.mbs := fun _ _ => rfl
  rw [cwLoss_eq, outOfFrame_mbs, huntAgain_mbs, hset]
  exact (cwLockFalls_regsLogs s f reason).keeps State.mbs fun _ _ _ => rfl

/-- Settles O46. -/
theorem codewordsAreCountedAndLocked : Obligations.CodewordsAreCountedAndLocked := by
  unfold Obligations.CodewordsAreCountedAndLocked
  refine ⟨fun f r j s hlock hdsp hen hmode hj => ?_, fun f raw s hwait => ?_, fun f residual corrected s hfec hlock hdsp hen => ?_,
    fun f k x xs raw j s hfec hlock hhunt hdsp hen hbatch hconf hj => ?_, fun f llrs s hhunt hbatch => ?_, fun mb p s hreq hon hf hhunt hcar hfec => ?_⟩
  · show ∃ t, execCodewordDecoded f false r s = _ ∧ _
    subst hj
    have hgoal : ∃ t, done s (s.countCw f.val (s.decodeCw f.val r)) = .next t ∧ Counted Cnt.CW_TOTAL f.val 0 1 s t ∧
        ((s.decodeCw f.val r).uncorrectable = false → Counted Cnt.BITS_CORR f.val 0 (s.decodeCw f.val r).bitsCorr s t ∧ Counted Cnt.CW_UNCORR f.val 0 0 s t) ∧
        ((s.decodeCw f.val r).uncorrectable = true → Counted Cnt.CW_UNCORR f.val 0 1 s t ∧ t.flag Reg.FEC_FR_EVENTS_UNCORR f.val = true) := by
      refine done_then fun t he _ => ⟨he.touch.counted (countCw_total s f.isLt _) f.isLt (by decide), fun hgood => ?_, fun hbad => ?_⟩
      · obtain ⟨hbits, hunc⟩ := countCw_corrected s f.isLt _ hgood
        exact ⟨he.touch.counted hbits f.isLt (by decide), he.touch.counted hunc f.isLt (by decide)⟩
      · obtain ⟨hunc, hev⟩ := countCw_uncorrectable s f.isLt _ hbad
        exact ⟨he.touch.counted hunc f.isLt (by decide), (he.touch.flagRow _ f.isLt (by decide)).trans hev⟩
    unfold execCodewordDecoded
    cases r with
    | terrace raw =>
      have hm : s.get Reg.FEC_CTRL_LINE_FEC = 0 := hmode
      simpa only [hm, hdsp, hen, hlock, beq_self_eq_true, Bool.not_true, Bool.or_self, Bool.false_eq_true, if_false, if_true] using hgoal
    | interop residual corrected =>
      have hm : (s.get Reg.FEC_CTRL_LINE_FEC == 0) = false := by simpa using (show s.get Reg.FEC_CTRL_LINE_FEC ≠ 0 from hmode)
      simpa only [hm, hdsp, hen, hlock, Bool.not_true, Bool.or_self, Bool.false_eq_true, if_false, if_true] using hgoal
  · show ∃ t, execCodewordDecoded f true (.terrace raw) s = _ ∧ _
    unfold execCodewordDecoded
    simp only [if_true, hwait]
    obtain ⟨hmark, hout⟩ := countBurstCw_out s f.val (s.burstSel f.val) (s.decodeBurst f.val raw)
    refine done_then fun t he _ => ⟨he.touch.counted (countBurstCw_total s _ _ _) (by decide) (by decide), ?_, ?_⟩
    · unfold State.fecFur at hmark ⊢
      rw [he.keeps State.fec fun _ _ _ _ _ _ _ => rfl]
      exact hmark
    · unfold State.fecFur at hout ⊢
      rw [he.keeps State.fec fun _ _ _ _ _ _ _ => rfl]
      exact hout
  · show ∃ t, execCodewordDecoded f false (.interop residual corrected) s = _ ∧ _
    unfold execCodewordDecoded
    have hm : (s.get Reg.FEC_CTRL_LINE_FEC == 0) = false := by simpa using hfec
    simp only [hm, hdsp, hen, hlock, Bool.not_true, Bool.or_self, Bool.false_eq_true, if_false]
    obtain ⟨hl, hc⟩ := countCw_interop_first s f.isLt (s.decodeCw f.val (.interop residual corrected)) hfec
    exact done_then fun t he _ => ⟨(he.touch.flagRow _ f.isLt (by decide)).trans hl, he.touch.counted hc f.isLt (by decide)⟩
  · show ∃ t, execCodewordDecoded f false (.terrace raw) s = _ ∧ _
    unfold execCodewordDecoded
    subst hj
    simp only [hfec, hdsp, hen, hlock, hhunt, beq_self_eq_true, Bool.not_true, Bool.or_self, Bool.false_eq_true, if_false, if_true]
    have hne : (s.fecFur f.val).batch.isEmpty = false := by rw [hbatch]; rfl
    refine done_then fun t he _ => ⟨fun hz hu hc => ?_, fun hbad => ?_⟩
    · rw [confirmCw_gain s _ k _ hne hconf hz hu hc] at he
      obtain ⟨hl, hh⟩ := cwGain_lock s f.isLt (carriedIndex (s.get Reg.FEC_FR_STATUS_RATE_NOW f.val) (s.decodeCw f.val (.terrace raw)).outer)
      exact ⟨(he.touch.flagRow _ f.isLt (by decide)).trans hl, (he.touch.flagRow _ f.isLt (by decide)).trans hh⟩
    · rw [confirmCw_reject s _ _ hne hbad] at he
      constructor
      · unfold State.fecFur
        rw [he.keeps State.fec fun _ _ _ _ _ _ _ => rfl]
        unfold State.setFecFur
        rw [tget_tput_self, hbatch]
        rfl
      · rw [he.touch.flagRow Reg.FEC_FR_STATUS_CW_LOCK f.isLt (by decide), setFecFur_flag]
        exact hlock
  · show ∃ t, execHuntScreen f llrs s = _ ∧ _
    unfold execHuntScreen
    simp only [hhunt, hbatch, List.isEmpty_nil, Bool.not_true, Bool.or_self, Bool.false_eq_true, if_false]
    refine done_then fun t he _ => ?_
    have hfec : t.fecFur f.val = _ := (he.keeps (fun z => z.fecFur f.val) fun _ _ _ _ _ _ _ => rfl).trans (tget_tput_self _ _ _ _)
    rw [hfec]
    exact ⟨rfl, rfl, fun a ha hq => he.kept a ha hq, fun o => mem_screenHits _ _ _⟩
  · show ∃ t, execFecHunt mb s = _ ∧ _
    unfold execFecHunt
    have hfec' : (s.serving mb.val).get Reg.FEC_CTRL_LINE_FEC = 0 := hfec
    have hcar' : (s.serving mb.val).flag Reg.FR_STATUS_CAR_LOCK (u8 p 0) = true := hcar
    have hpass : (!(s.serving mb.val).flag Reg.FR_STATUS_CAR_LOCK (u8 p 0) || decide ((s.serving mb.val).get Reg.FEC_CTRL_LINE_FEC ≠ 0)) = false := by
      rw [hcar', hfec']
      rfl
    refine actOn_then hreq hon ((if_neg (ne_true_of_eq_false hhunt)).trans (if_neg (ne_true_of_eq_false hpass))) fun t he hans =>
      ⟨hans.of_mbs (cwLoss_mbs _ _ _), ?_, ?_, ?_⟩
    · exact (he.answer_touch.flagRow _ hf (by decide)).trans (cwLoss_hunts _ hf 4 hcar' hfec')
    · exact (he.answer_touch.flagRow _ hf (by decide)).trans (cwLoss_lock _ hf 4)
    · exact (he.answer_touch.flagRow _ hf (by decide)).trans (cwLoss_sync _ hf 4)

end Sys2Proof.Machine
end

section
/-! SUPPORT. Power loops, resets and shutdown (O34, O35) -/

namespace Sys2Proof.Machine

/-! ### The timing block's words (R630–R640) -/

/-- The words of the timing block. -/
def timingPage : List Patch := [pagePatch 0x20000 0x1000]

theorem refreshTiming_touch (s : State) : Touch timingPage s s.refreshTiming := by
  unfold State.refreshTiming
  have hsel := Touch.foldl (l := timingPage) (s := s) (xs := List.range 7) (f := fun s r => s.set Reg.REF_STATUS_SELECTED (b2n (s.selRef = r)) r)
    (fun r hr v => (Touch.refl _ v).setRow (n := 7) (List.mem_range.mp hr) (by decide)) (.refl _ s)
  exact ((hsel.set0 (by decide)).setRow (n := 2) (by decide) (by decide)).setRow (n := 2) (by decide) (by decide)

theorem toDpll_touch (s : State) (new : Nat) : Touch timingPage s (s.toDpll new) := by
  unfold State.toDpll
  exact .ite (fun _ => .refl _ s) fun _ => (((Touch.refl _ s).set0 (by decide)).set0 (by decide)).log _ _ _

theorem leaveDpll_touch (s : State) : Touch timingPage s s.leaveDpll := by
  have hgather : s.gather.regs = s.regs := by
    unfold State.gather
    split
    · rfl
    · rfl
  have htim : ∀ (v : State) (x : TimState), Touch timingPage v { v with tim := x } := fun _ _ => .of_regs rfl
  unfold State.leaveDpll
  exact ((Touch.of_regs hgather).set0 (by decide)).trans (htim _ _)

theorem loseRefs_touch (s : State) : Touch timingPage s s.loseRefs := by
  have htim : ∀ (v : State) (x : TimState), Touch timingPage v { v with tim := x } := fun _ _ => .of_regs rfl
  have h1 := ((leaveDpll_touch s).set0 (by decide) (f := Reg.DPLL_STATUS_SWITCHING) (v := 0)).set0 (by decide) (f := Reg.DPLL_STATUS_REF) (v := 7)
  have h3 : ∀ (u : State) (v w : Nat), Touch timingPage u
      ((((((u.set Reg.HO_OFS_OFS v).set Reg.DPLL_OFS_OFS w).toDpll 3).bump Cnt.HOLDOVER_ENTRIES).set Reg.HO_ELAPSED_SECONDS 0)) := fun u v w =>
    ((((((Touch.refl _ u).set0 (by decide)).set0 (by decide)).trans (toDpll_touch _ 3)).bump0 (by decide)).set0 (by decide))
  unfold State.loseRefs
  refine .ite (fun _ => .ite (fun _ => ?_) fun _ => ?_) fun _ => ?_
  · exact ((((h1.trans (h3 _ _ _)).trans (toDpll_touch _ _)).bump0 (by decide)).set0 (by decide)).trans (refreshTiming_touch _)
  · exact ((h1.trans (h3 _ _ _)).trans (htim _ _)).trans (refreshTiming_touch _)
  · exact (((h1.set0 (by decide)).trans (toDpll_touch _ _)).trans (htim _ _)).trans (refreshTiming_touch _)

theorem switchTo_touch (s : State) (b reason : Nat) : Touch timingPage s (s.switchTo b reason) := by
  have htim : ∀ (v : State) (x : TimState), Touch timingPage v { v with tim := x } := fun _ _ => .of_regs rfl
  have hfree : Touch timingPage s (s.free 638).2 := .of_regs rfl
  have hmove : ∀ (v : State) (d : Int), Touch timingPage v (v.moveTime d) := fun _ _ => .of_regs rfl
  have h4 : ∀ (c : Prop) [Decidable c] (v : State), Touch timingPage v (if c then v.bump Cnt.PHASE_STEPS else v) := fun c _ v =>
    .ite (fun _ => (Touch.refl _ v).bump0 (by decide)) fun _ => .refl _ v
  unfold State.switchTo
  exact (((((((((((hfree.trans (leaveDpll_touch _)).set0 (by decide)).set0 (by decide)).trans (toDpll_touch _ _)).set0 (by decide)).trans (hmove _ _)).trans (h4 _ _)).bump0 (by decide)).set0 (by decide)).log _ _ _).trans (htim _ _)).trans
    (refreshTiming_touch _)

theorem reselect_touch (s : State) (commit : Bool) : Touch timingPage s (s.reselect commit) := by
  unfold State.reselect
  dsimp only
  split
  · exact .ite (fun _ => loseRefs_touch s) fun _ => .refl _ s
  · exact .ite (fun _ => .refl _ s) fun _ => .ite (fun _ => .refl _ s) fun _ => switchTo_touch _ _ _

theorem disqualify_touch (s : State) {r : Nat} (hr : r < 7) (cause : Nat) : Touch timingPage s (s.disqualify r cause) := by
  unfold State.disqualify
  exact .ite (fun _ => .refl _ s) fun _ => (((((Touch.refl _ s).setRow hr (by decide)).bumpRow hr (by decide)).set0 (by decide)).log _ _ _).trans (reselect_touch _ _)

theorem refActive_touch (s : State) {r : Nat} (hr : r < 7) : Touch timingPage s (s.refActive r) := by
  have hmon : ∀ (v : State) (x : RefMon), Touch timingPage v (v.setRefMon r x) := fun _ _ => .of_regs rfl
  unfold State.refActive
  exact (((Touch.refl _ s).setRow hr (by decide)).setRow hr (by decide)).trans (hmon _ _)

theorem refInactive_touch (s : State) {r : Nat} (hr : r < 7) (cause : Nat) : Touch timingPage s (s.refInactive r cause) := by
  have hmon : ∀ (v : State) (x : RefMon), Touch timingPage v (v.setRefMon r x) := fun _ _ => .of_regs rfl
  unfold State.refInactive
  exact (((((Touch.refl _ s).setRow hr (by decide)).setRow hr (by decide)).setRow hr (by decide)).trans (hmon _ _)).trans (disqualify_touch _ hr _)

theorem refreshRefs_touch (s : State) : Touch timingPage s s.refreshRefs := by
  unfold State.refreshRefs
  refine Touch.foldl (fun r hr v => ?_) (.refl _ s)
  have h7 : r < 7 := by
    simp only [List.mem_cons, List.not_mem_nil, or_false] at hr
    omega
  exact .ite (fun _ => refActive_touch v h7) fun _ => .ite (fun _ => refInactive_touch v h7 _) fun _ => .refl _ v

/-! ### Register words while blocks are held in reset (R618, R762)

Holding a block rewrites the table of registers entry by entry. A word outside it keeps its value when every entry for it holds that value, which is so of a word
just written and of whatever other writes follow. -/

/-- Register word `a` holds `w`, in every entry for it. -/
structure Shows (a : Nat) (w : Word) (s : State) : Prop where
  reg : s.reg a = w
  entries : ∀ e ∈ s.regs, e.1 = a → e.2 = w

namespace Shows
variable {a : Nat} {w : Word} {s : State}

theorem of_setReg (s : State) (a : Nat) (w : Word) : Shows a w (s.setReg a w) where
  reg := reg_setReg_self s a w
  entries := fun e he ha => by
    have hmem : e ∈ tput (resetWord a) s.regs a w := he
    unfold tput at hmem
    split at hmem
    · exact absurd ha (mem_tdel.1 hmem).2
    · rcases mem_tins.1 hmem with rfl | hmem
      · rfl
      · exact absurd ha (mem_tdel.1 hmem).2

theorem setReg (h : Shows a w s) {b : Nat} {v : Word} (hb : a ≠ b) : Shows a w (s.setReg b v) where
  reg := (reg_setReg_ne _ _ hb).trans h.reg
  entries := fun e he ha => by
    have hmem : e ∈ tput (resetWord b) s.regs b v := he
    unfold tput at hmem
    split at hmem
    · exact h.entries e (mem_tdel.1 hmem).1 ha
    · rcases mem_tins.1 hmem with rfl | hmem
      · exact absurd ha.symm hb
      · exact h.entries e (mem_tdel.1 hmem).1 ha

theorem of_regs {t : State} (h : Shows a w s) (hr : t.regs = s.regs) : Shows a w t :=
  ⟨(congrFun (congrArg (fun r => (State.reg { s with regs := r })) hr) a).trans h.reg, hr ▸ h.entries⟩

theorem set (h : Shows a w s) {f : Field} {v i j : Nat} (hf : a ≠ f.addr i j) : Shows a w (s.set f v i j) := h.setReg hf

theorem ite {t u : State} {c : Prop} [Decidable c] (h : c → Shows a w t) (k : ¬c → Shows a w u) : Shows a w (if c then t else u) := by
  split
  · next hc => exact h hc
  · next hc => exact k hc

theorem setCount (h : Shows a w s) {c : Ctr} {i j v : Nat} (hc : a ∉ c.wordsOf i j) : Shows a w (s.setCount c v i j) := by
  unfold State.setCount
  unfold Ctr.wordsOf at hc
  dsimp only
  by_cases h1 : c.words = 1
  · rw [if_pos h1] at hc ⊢
    exact h.setReg (by simpa using hc)
  · rw [if_neg h1] at hc ⊢
    simp only [List.mem_cons, List.not_mem_nil, or_false, not_or] at hc
    split
    · exact (h.setReg hc.1).setReg hc.2
    · exact (h.setReg hc.1).setReg hc.2

theorem bump (h : Shows a w s) {c : Ctr} {i j n : Nat} (hc : a ∉ c.wordsOf i j) : Shows a w (s.bump c i j n) := by
  unfold State.bump
  dsimp only
  split
  · exact h.setCount hc
  · split
    · exact h.setCount hc
    · exact h.setCount hc

/-- A field of a table that lies above the word. -/
theorem setAbove (h : Shows a w s) {b : Nat} (ha : a < b) {f : Field} {v i j : Nat} (hf : b ≤ f.base) : Shows a w (s.set f v i j) :=
  h.set (by unfold Field.addr; omega)

theorem log (h : Shows a w s) (ha : a ≠ 0x40014 ∧ a ≠ 0x40020) (wb type : Nat) (d : List Byte) : Shows a w (s.log wb type d) := by
  unfold State.log
  dsimp only
  split
  · exact h.of_regs rfl
  · exact (h.bump (c := Cnt.LOST_QUEUE) (i := 0) (j := 0) fun hm => ha.2 (List.mem_singleton.mp hm)).set (f := Reg.LOG_EVENTS_LOST) (i := 0) (j := 0) ha.1

theorem answer (h : Shows a w s) (ha : a ≠ 0x12014) (mb : Nat) (r : Reply) : Shows a w (s.answer mb r) := by
  have hmb : ∀ x, Shows a w (s.setMbox mb x) := fun _ => h.of_regs rfl
  unfold State.answer
  exact .ite (fun _ => (hmb _).set ha) fun _ => hmb _

theorem finish (h : Shows a w s) (ha : a ≠ 0x12014) (mb : Nat) (r : Reply) : Shows a w (s.finish mb r) := by
  unfold State.finish
  exact .ite (fun _ => h.answer ha mb r) fun _ => h

theorem foldl {α : Type} {f : State → α → State} {xs : List α} (h : ∀ x ∈ xs, ∀ v, Shows a w v → Shows a w (f v x)) (hs : Shows a w s) : Shows a w (xs.foldl f s) := by
  induction xs generalizing s with
  | nil => exact hs
  | cons x xs ih => exact ih (fun y hy => h y (List.mem_cons_of_mem _ hy)) (h x List.mem_cons_self _ hs)

theorem tget_of_entries {d : Word} {l : Tab Word} (h : ∀ e ∈ l, e.1 = a → e.2 = w) (hex : ∃ e ∈ l, e.1 = a) : tget d l a = w := by
  induction l with
  | nil => simp at hex
  | cons e l ih =>
    obtain ⟨k, v⟩ := e
    unfold tget
    by_cases hk : k = a
    · rw [if_pos hk]
      exact h (k, v) List.mem_cons_self hk
    · rw [if_neg hk]
      refine ih (fun e he => h e (List.mem_cons_of_mem _ he)) ?_
      obtain ⟨e, he, ha⟩ := hex
      rcases List.mem_cons.mp he with rfl | he
      · exact absurd ha hk
      · exact ⟨e, he, ha⟩

theorem tget_of_none {d : Word} {l : Tab Word} (h : ∀ e ∈ l, e.1 ≠ a) : tget d l a = d := by
  induction l with
  | nil => rfl
  | cons e l ih =>
    obtain ⟨k, v⟩ := e
    unfold tget
    rw [if_neg (h (k, v) List.mem_cons_self)]
    exact ih fun e he => h e (List.mem_cons_of_mem _ he)

/-- The words of some blocks are held and the table is brought to canonical form. -/
theorem held (h : Shows a w s) {p : Nat × Word → Prop} [DecidablePred p] {g : Nat × Word → Word} (hp : ∀ v, ¬p (a, v)) :
    Shows a w { s with regs := (s.regs.map (fun e => if p e then (e.1, g e) else e)).filter (fun e => e.2 ≠ resetWord e.1) } := by
  have hmem : ∀ e ∈ (s.regs.map (fun e => if p e then (e.1, g e) else e)).filter (fun e => e.2 ≠ resetWord e.1), e.1 = a → e ∈ s.regs := fun e he ha => by
    obtain ⟨he, -⟩ := List.mem_filter.mp he
    obtain ⟨x, hx, rfl⟩ := List.mem_map.mp he
    split at ha
    · next hpx =>
      obtain ⟨k, v⟩ := x
      exact absurd (ha ▸ hpx) (hp v)
    · next hpx =>
      rw [if_neg hpx]
      exact hx
  have hentries := fun e he (ha : e.1 = a) => h.entries e (hmem e he ha) ha
  refine ⟨?_, hentries⟩
  by_cases hw : w = resetWord a
  · rw [hw]
    refine tget_of_none fun e he ha => ?_
    have hne := (List.mem_filter.mp he).2
    rw [hentries e he ha, ha, hw] at hne
    simp at hne
  · have hex : ∃ e ∈ s.regs, e.1 = a := by
      by_contra hno
      push Not at hno
      exact hw (h.reg.symm.trans (tget_of_none hno))
    obtain ⟨e, he, ha⟩ := hex
    refine tget_of_entries hentries ⟨e, List.mem_filter.mpr ⟨List.mem_map.mpr ⟨e, he, ?_⟩, ?_⟩, ha⟩
    · obtain ⟨k, v⟩ := e
      obtain rfl : k = a := ha
      exact if_neg (hp v)
    · rw [h.entries e he ha, ha]
      simpa using hw

end Shows

/-! ### The words of the power block while the coherent blocks and the lanes are held -/

section
variable {a : Nat} {w : Word} {s : State}

theorem shows_putMap (h : Shows a w s) (ha : a < 0x100000) (k : Nat) (m : List Nat) (spare : Option Nat) : Shows a w (s.putMap k m spare) := by
  unfold State.putMap State.setSliceByte
  exact ((Shows.foldl (fun x _ v hv => hv.setAbove ha (by decide)) h).setAbove ha (by decide)).setAbove ha (by decide)

theorem shows_adcOff (h : Shows a w s) (ha : a < 0x100000) (k : Nat) : Shows a w (s.adcOff k) := by
  have hadc : ∀ (v : State) (x : AdcState), Shows a w v → Shows a w (v.setAdc k x) := fun _ _ hv => hv.of_regs rfl
  unfold State.adcOff State.abandonCal
  exact ((hadc _ _ (shows_putMap (((hadc _ _ h).setAbove ha (by decide)).setAbove ha (by decide)) ha _ _ _)).setAbove ha (by decide)).setAbove ha (by decide)

theorem shows_convOff (h : Shows a w s) (ha : a < 0x100000) (hmb : a ≠ 0x12014) : Shows a w s.convOff := by
  have h1 := Shows.foldl (xs := List.range 4) (f := fun s k => (s.adcOff k).set Reg.DAC_STATUS_STATE 0 k) (fun k _ v hv => (shows_adcOff hv ha k).setAbove ha (by decide)) h
  have hconv : ∀ (v : State) (x : ConvState), Shows a w v → Shows a w { v with conv := x } := fun _ _ hv => hv.of_regs rfl
  unfold State.convOff
  dsimp only
  split
  · exact h1
  · split
    · exact (hconv _ _ h1).finish hmb _ _
    · exact hconv _ _ h1

theorem shows_endHold (h : Shows a w s) (hmb : a ≠ 0x12014) : Shows a w s.endHold := by
  unfold State.endHold
  split
  · exact h.finish hmb _ _
  · exact h

/-- The coherent plane is gated: a word of another block stays. -/
theorem shows_gatePlane (h : Shows a w s) (ha : a < 0x100000) (hmb : a ≠ 0x12014) : Shows a w s.gatePlane := by
  have hclear : ∀ v : State, Shows a w v → Shows a w v.clearPlane := fun _ hv => hv.of_regs rfl
  have hfaulty : ∀ v : State, Shows a w v → Shows a w v.countFaulty := fun v hv => Shows.foldl (fun k _ v hv => hv.setAbove ha (by decide)) hv
  have hsys : ∀ (v : State) (x : SysState), Shows a w v → Shows a w { v with sys := x } := fun _ _ hv => hv.of_regs rfl
  have hheld : Shows a w { s.convOff.endHold with regs := s.convOff.endHold.holdRegs (fun a w => heldWord (fun d => d.tx ||| d.rw ||| d.w1c) w a w) } :=
    (shows_endHold (shows_convOff h ha hmb) hmb).held fun v hp => by
      simp only [gatedAddr, Bool.and_eq_true, Bool.or_eq_true, decide_eq_true_eq] at hp
      omega
  unfold State.gatePlane
  exact .ite (fun _ => h) fun _ => hsys _ _ (hfaulty _ (hclear _ hheld))

/-- The lanes are held: a word of another block stays. -/
theorem shows_holdLanes (h : Shows a w s) (ha : a < 0x300000) (hmb : a ≠ 0x12014) (hxq : a ≠ 0x110) : Shows a w s.holdLanes := by
  have hreqs := Shows.foldl (xs := s.ln.reqs) (f := fun (s : State) (r : PsReq) => s.finish r.mb (err cDENIED)) (fun r _ v hv => hv.finish hmb _ _) h
  have hrest : ∀ (v : State) (x : LaneState) (y : SysState), Shows a w v → Shows a w { v with ln := x, sys := y } := fun _ _ _ hv => hv.of_regs rfl
  unfold State.holdLanes
  refine Shows.set (f := Reg.XQ_STATUS_MEDIA_LOCK) (i := 0) (j := 0) (Shows.set (f := Reg.XQ_STATUS_HOST_LOCK) (i := 0) (j := 0) (hrest _ _ _ (hreqs.held (p := fun e => 0x300000 ≤ e.1 ∧ e.1 < 0x330000) fun v hp => ?_)) hxq) hxq
  exact Nat.not_le.mpr ha hp.1

end

/-! ### Policy clamps (R86–R89) -/

/-- A counter whose words are one for each copy has no word index. -/
theorem bump_word_zero (s : State) {c : Ctr} (h : c.sub = 0) (i j n : Nat) : s.bump c i j n = s.bump c i 0 n := by
  have ha : c.addr i j = c.addr i 0 := by unfold Ctr.addr; simp [h]
  unfold State.bump State.setCount State.count
  simp only [ha]

def clampPatches : List Patch := Reg.CLAMP_STATUS_CLAMP.patch :: Cnt.POLICY_CLAMPS.patches

theorem startClamp_touch (s : State) (loop inst dir : Nat) (bound target : Int) : Touch clampPatches s (s.startClamp loop inst dir bound target) := by
  unfold State.startClamp
  rw [bump_word_zero _ rfl]
  have hclamp : ∀ x, Touch clampPatches s (s.setClamp loop inst x) := fun _ => .of_regs rfl
  exact (((hclamp _).log _ _ _).bump0 (by decide)).set0 (by decide)

theorem clampCheck_touch (s : State) (loop inst : Nat) (target : Int) : Touch clampPatches s (s.clampCheck loop inst target) := by
  have hclamp : ∀ x, Touch clampPatches s (s.setClamp loop inst x) := fun _ => .of_regs rfl
  unfold State.clampCheck
  dsimp only
  split
  · split
    · exact .ite (fun _ => hclamp _) fun _ => startClamp_touch _ _ _ _ _ _
    · exact startClamp_touch _ _ _ _ _ _
  · split
    · exact hclamp _
    · exact .refl _ s

theorem startClamp_power (s : State) (loop inst dir : Nat) (bound target : Int) : (s.startClamp loop inst dir bound target).power = s.power := by
  have hclamp : ∀ x, (s.setClamp loop inst x).power = s.power := fun _ => rfl
  unfold State.startClamp
  exact (((((RegsLogs.refl (s.setClamp loop inst _)).log _ _ _).bump _ _ _ _).set _ _ _ _).keeps State.power fun _ _ _ => rfl).trans (hclamp _)

theorem clampCheck_power (s : State) (loop inst : Nat) (target : Int) : (s.clampCheck loop inst target).power = s.power := by
  have hclamp : ∀ x, (s.setClamp loop inst x).power = s.power := fun _ => rfl
  unfold State.clampCheck
  dsimp only
  split
  · split
    · exact ite_keeps State.power (hclamp _) (startClamp_power _ _ _ _ _ _)
    · exact startClamp_power _ _ _ _ _ _
  · split
    · exact hclamp _
    · rfl

/-! ### Rails (R758–R760) -/

/-- The field that shows a rail's voltage. -/
def railField (r : Nat) : Field := if r = 0 then Reg.PWR_STATUS_VDSP_MV else Reg.PWR_STATUS_VFAB_MV

theorem rail_eq (s : State) (r : Nat) : s.rail r = s.get (railField r) := by
  unfold State.rail railField
  split <;> rfl

theorem setRail_eq (s : State) (r mv : Nat) : s.setRail r mv = s.set (railField r) mv := by
  unfold State.setRail railField
  split <;> rfl

theorem rail_lt (s : State) (r : Nat) : s.rail r < 1024 := by
  rw [rail_eq]
  unfold railField
  split <;> exact bitsOf_lt _ _ _

theorem stepToward_lt {v goal : Nat} (hv : v < 1024) (hg : goal < 1024) : stepToward v goal < 1024 := by
  unfold stepToward
  split <;> omega

/-- A rail after a write. -/
theorem rail_setRail (s : State) (r r' mv : Nat) (hr : r < 2) (hr' : r' < 2) (hmv : mv < 1024) : (s.setRail r mv).rail r' = if r' = r then mv else s.rail r' := by
  rw [setRail_eq, rail_eq, rail_eq]
  obtain rfl | rfl : r = 0 ∨ r = 1 := by omega
  all_goals obtain rfl | rfl : r' = 0 ∨ r' = 1 := by omega
  · exact (get_set_self _ _ _ _ _ (by decide)).trans (Nat.mod_eq_of_lt hmv)
  · exact get_set_ne _ _ _ _ _ _ _ _ (by decide) (.inr (by decide))
  · exact get_set_ne _ _ _ _ _ _ _ _ (by decide) (.inr (by decide))
  · exact (get_set_self _ _ _ _ _ (by decide)).trans (Nat.mod_eq_of_lt hmv)

/-- Footprints that leave the rails. -/
theorem Touch.rail {l : List Patch} {s t : State} (h : Touch l s t) (r : Nat)
    (hl : ∀ p ∈ sharedPatches ++ l, p.apart Reg.PWR_STATUS_VDSP_MV.patch = true ∧ p.apart Reg.PWR_STATUS_VFAB_MV.patch = true) : t.rail r = s.rail r := by
  rw [rail_eq, rail_eq]
  unfold railField
  split
  · exact h.get0 _ ⟨List.all_eq_true.mpr fun p hp => (hl p hp).1, by decide⟩
  · exact h.get0 _ ⟨List.all_eq_true.mpr fun p hp => (hl p hp).2, by decide⟩

/-- An acknowledged transfer (R758). -/
theorem pmbTransfer_acked (s : State) (r mv : Nat) : ∃ p : PowerState, s.pmbTransfer r mv true =
    { ((s.sendVout r mv).setRail r mv |>.bump Cnt.AVS_STEPS).set Reg.PWR_STATUS_PMB_OK 1 with power := p } ∧ p.pmbRetry = none := ⟨_, rfl, rfl⟩

def pmbFailPatches : List Patch := [Reg.PWR_STATUS_PMB_OK.patch, Reg.PWR_EVENTS_PMB_FAULT.patch]

/-- A transfer without acknowledgement (R759). -/
theorem pmbTransfer_failed (s : State) (r mv : Nat) : Touch pmbFailPatches (s.bump Cnt.PMB_FAULTS) (s.pmbTransfer r mv false) := by
  unfold State.pmbTransfer
  simp only [Bool.false_eq_true, if_false]
  have hpow : ∀ p, Touch pmbFailPatches (s.bump Cnt.PMB_FAULTS) { (s.sendVout r mv).bump Cnt.PMB_FAULTS with power := p } := fun p => .of_regs rfl
  exact .ite (fun _ => hpow _) fun _ => ((hpow _).set0 (by decide)).set0 (by decide)

/-- What an acknowledged transfer leaves: the rail at its voltage, the other rail, the counter. -/
theorem pmbTransfer_rail (s : State) {r r' mv : Nat} (hr : r < 2) (hr' : r' < 2) (hmv : mv < 1024) :
    (s.pmbTransfer r mv true).rail r' = if r' = r then mv else s.rail r' := by
  obtain ⟨p, hp, -⟩ := pmbTransfer_acked s r mv
  have hpow : ∀ (u : State), ({ u with power := p } : State).rail r' = u.rail r' := fun _ => rfl
  have hrest : Touch (Reg.PWR_STATUS_PMB_OK.patch :: Cnt.AVS_STEPS.patches) ((s.sendVout r mv).setRail r mv)
      ((((s.sendVout r mv).setRail r mv).bump Cnt.AVS_STEPS).set Reg.PWR_STATUS_PMB_OK 1) := ((Touch.refl _ _).bump0 (by decide)).set0 (by decide)
  rw [hp, hpow, hrest.rail r' (by decide), rail_setRail _ _ _ _ hr hr' hmv]
  rfl

theorem setRail_touch (s : State) (r mv : Nat) : Touch [Reg.PWR_STATUS_VDSP_MV.patch, Reg.PWR_STATUS_VFAB_MV.patch] s (s.setRail r mv) := by
  unfold State.setRail
  exact .ite (fun _ => (Touch.refl _ s).set0 (by decide)) fun _ => (Touch.refl _ s).set0 (by decide)

theorem pmbTransfer_steps (s : State) (r mv : Nat) : Counted Cnt.AVS_STEPS 0 0 1 s (s.pmbTransfer r mv true) := by
  obtain ⟨p, hp, -⟩ := pmbTransfer_acked s r mv
  have hpow : ∀ (u : State), ({ u with power := p } : State).count Cnt.AVS_STEPS = u.count Cnt.AVS_STEPS := fun _ => rfl
  have hrest : Touch [Reg.PWR_STATUS_PMB_OK.patch] (((s.sendVout r mv).setRail r mv).bump Cnt.AVS_STEPS)
      ((((s.sendVout r mv).setRail r mv).bump Cnt.AVS_STEPS).set Reg.PWR_STATUS_PMB_OK 1) := (Touch.refl _ _).set0 (by decide)
  have hsent : Touch [] s (s.sendVout r mv) := .of_regs rfl
  have hbump := hrest.counted (counted_bump ((s.sendVout r mv).setRail r mv) Cnt.AVS_STEPS 0 0 1 (.inl rfl)) (by decide) (by decide)
  have hrail := (setRail_touch (s.sendVout r mv) r mv).counted_of hbump (by decide) (by decide)
  have hall := hsent.counted_of hrail (by decide) (by decide)
  rw [hp]
  exact counted_of_count hall rfl (hpow _)

theorem pmbTransfer_ok (s : State) (r mv : Nat) : (s.pmbTransfer r mv true).flag Reg.PWR_STATUS_PMB_OK = true := by
  obtain ⟨p, hp, -⟩ := pmbTransfer_acked s r mv
  have hpow : ∀ (u : State), ({ u with power := p } : State).flag Reg.PWR_STATUS_PMB_OK = u.flag Reg.PWR_STATUS_PMB_OK := fun _ => rfl
  rw [hp, hpow, flag_set_self _ _ _ _ _ (by decide)]
  rfl

theorem pmbTransfer_touch (s : State) (r mv : Nat) : Touch [wordPatch 0x60010, wordPatch 0x6002C] s (s.pmbTransfer r mv true) := by
  obtain ⟨p, hp, -⟩ := pmbTransfer_acked s r mv
  have hsent : Touch [wordPatch 0x60010, wordPatch 0x6002C] s (s.sendVout r mv) := .of_regs rfl
  have hpow : ∀ u : State, Touch [wordPatch 0x60010, wordPatch 0x6002C] u { u with power := p } := fun _ => .of_regs rfl
  rw [hp]
  exact (((hsent.andThen (setRail_touch _ r mv) (by decide)).bump0 (by decide)).set0 (by decide)).trans (hpow _)

/-- A field of a footprint's words is all that it leaves. -/
theorem Touch.regsKept {l : List Patch} {s t : State} (h : Touch l s t) (but : List Nat) (hl : ∀ a, a ∉ but → ∀ p ∈ l, ¬p.Has a) : RegsKept but s t := fun a ha hq => by
  refine h.reg a fun p hp hhas => ?_
  rcases List.mem_append.mp hp with hp | hp
  · obtain ⟨x, hx, rfl⟩ := List.mem_map.mp hp
    exact hq (has_wordPatch.mp hhas ▸ hx)
  · exact hl a ha p hp hhas

theorem Touch.regsKept_words {but : List Nat} {s t : State} (h : Touch (but.map wordPatch) s t) : RegsKept but s t := h.regsKept but fun a ha p hp hhas => by
  obtain ⟨x, hx, rfl⟩ := List.mem_map.mp hp
  exact ha (has_wordPatch.mp hhas ▸ hx)

theorem counted_eq {c : Ctr} {i j n : Nat} {s t : State} (h : Counted c i j n s t) (hc : c.words = 1) : t.count c i j = min (s.count c i j + n) 0xFFFFFFFF := by
  unfold Counted at h
  rwa [if_pos hc] at h

/-- One step of the throttle loop. -/
def fractionStep (v goal : Nat) : Nat := if v < goal then v + 1 else if goal < v then v - 1 else v

theorem fractionStep_int (v goal : Nat) : (if (Int.ofNat v) < (goal : Int) then (Int.ofNat v) + 1 else if (goal : Int) < Int.ofNat v then Int.ofNat v - 1 else Int.ofNat v).toNat = fractionStep v goal := by
  unfold fractionStep
  simp only [Int.ofNat_eq_natCast, Nat.cast_lt]
  split
  · omega
  · split
    · omega
    · rfl


theorem le_foldl_max (l : List Int) (x : Int) : x ≤ l.foldl max x ∧ ∀ y ∈ l, y ≤ l.foldl max x := by
  induction l generalizing x with
  | nil => simp
  | cons y l ih =>
    obtain ⟨h1, h2⟩ := ih (max x y)
    refine ⟨(le_max_left x y).trans h1, fun z hz => ?_⟩
    rcases List.mem_cons.mp hz with rfl | hz
    · exact (le_max_right x z).trans h1
    · exact h2 z hz

theorem foldl_max_mem (l : List Int) (x : Int) : l.foldl max x ∈ x :: l := by
  induction l generalizing x with
  | nil => simp
  | cons y l ih =>
    have h := ih (max x y)
    rcases List.mem_cons.mp h with h | h
    · rw [List.foldl_cons, h]
      rcases max_choice x y with hm | hm <;> simp [hm]
    · exact List.mem_cons_of_mem _ (List.mem_cons_of_mem _ h)


theorem avsSteps (rail : Fin 2) (target : Fin 1024) (goal : Nat) (s : State) (hen : s.flag Reg.PWR_CFG_AVS_EN = true) (hstop : s.power.avsStopped = false)
    (hretry : s.power.pmbRetry = none) (hgoal : clampTo (s.bounds 4 rail.val) target.val = goal)
    (hdue : (s.rail rail.val < goal ∧ tget 0 s.power.avsLast rail.val + 13000000 ≤ s.clock) ∨ (goal < s.rail rail.val ∧ tget 0 s.power.avsLast rail.val + 130000000 ≤ s.clock))
    (acked : Bool) : execAvsStep rail target acked s = done s ((s.clampCheck 4 rail.val (Int.ofNat target.val)).pmbTransfer rail.val (stepToward (s.rail rail.val) goal) acked) := by
  have hg : (clampTo (s.bounds 4 rail.val) (Int.ofNat target.val)).toNat = goal := congrArg Int.toNat hgoal
  have hon : (!s.flag Reg.PWR_CFG_AVS_EN || s.power.avsStopped || s.power.pmbRetry.isSome) = false := by rw [hen, hstop, hretry]; rfl
  have hnot : ¬(s.rail rail.val = goal ∨ s.clock - tget 0 s.power.avsLast rail.val < (if s.rail rail.val < goal then msT 1 else msT 10)) := by
    unfold msT
    split <;> omega
  unfold execAvsStep
  rw [if_neg (ne_true_of_eq_false hon)]
  dsimp only
  rw [hg]
  exact if_neg (by simpa using hnot)

/-- THROTTLE_STEP's state after the target has moved and been checked. -/
def State.throttleTargeted (s : State) (t : Int) : State :=
  ({ s with power := { s.power with throttleTarget := t, lastThrottle := s.clock } } : State).clampCheck 5 0 t

/-- THROTTLE_STEP's fraction is shown. -/
def State.showFraction (s : State) (v : Nat) : State := (s.set Reg.PWR_STATUS_FRACTION v).set Reg.PWR_STATUS_THROTTLING (b2n (decide (v < 64)))

/-- THROTTLE_STEP ends. -/
def State.countThrottle (s : State) (new : Bool) : State := if new then (s.bump Cnt.THROTTLE_EPISODES).set Reg.PWR_EVENTS_THROTTLE 1 else s

theorem throttleTargeted_touch (s : State) (t : Int) : Touch clampPatches s (s.throttleTargeted t) := by
  have hpow : ∀ p, Touch clampPatches s { s with power := p } := fun _ => .of_regs rfl
  exact (hpow _).trans (clampCheck_touch _ _ _ _)

theorem showFraction_shows (s : State) {v : Nat} (hv : v < 128) :
    (s.showFraction v).get Reg.PWR_STATUS_FRACTION = v ∧ (s.showFraction v).flag Reg.PWR_STATUS_THROTTLING = decide (v < 64) := by
  unfold State.showFraction
  constructor
  · rw [get_set_ne _ _ _ _ _ _ _ _ (by decide) (.inr (by decide)), get_set_self _ _ _ _ _ (by decide)]
    exact Nat.mod_eq_of_lt hv
  · rw [flag_set_self _ _ _ _ _ (by decide)]
    cases decide (v < 64) <;> rfl

theorem countThrottle_touch (s : State) (new : Bool) : Touch (Reg.PWR_EVENTS_THROTTLE.patch :: Cnt.THROTTLE_EPISODES.patches) s (s.countThrottle new) := by
  unfold State.countThrottle
  exact .ite (fun _ => ((Touch.refl _ s).bump0 (by decide)).set0 (by decide)) fun _ => .refl _ s

theorem showFraction_touch (s : State) (v : Nat) : Touch [Reg.PWR_STATUS_FRACTION.patch, Reg.PWR_STATUS_THROTTLING.patch] s (s.showFraction v) :=
  (((Touch.refl _ s).set0 (by decide)).set0 (by decide))

theorem countThrottle_new (s : State) : Counted Cnt.THROTTLE_EPISODES 0 0 1 s (s.countThrottle true) := by
  have hev : Touch [Reg.PWR_EVENTS_THROTTLE.patch] (s.bump Cnt.THROTTLE_EPISODES) ((s.bump Cnt.THROTTLE_EPISODES).set Reg.PWR_EVENTS_THROTTLE 1) := (Touch.refl _ _).set0 (by decide)
  exact hev.counted (counted_bump _ _ _ _ _ (.inl rfl)) (by decide) (by decide)

/-- The throttle loop's own target after a step (R761). -/
def throttleNext (hottest : Int) (thr : Nat) (target : Int) : Int :=
  if (thr : Int) < hottest then max 32 (target - 1) else if hottest < thr - 2000 then min 64 (target + 1) else target

theorem execThrottleStep_eq (s : State) (goal : Nat) (hdue : s.power.lastThrottle + 13000000 ≤ s.clock)
    (hgoal : clampTo (s.bounds 5 0) (throttleNext s.power.hottest (1000 * s.get Reg.PWR_CFG_THROTTLE_C) s.power.throttleTarget) = goal) :
    execThrottleStep s = done s (((s.throttleTargeted (throttleNext s.power.hottest (1000 * s.get Reg.PWR_CFG_THROTTLE_C) s.power.throttleTarget)).showFraction
      (fractionStep (s.get Reg.PWR_STATUS_FRACTION) goal)).countThrottle
        (decide (Int.ofNat (s.get Reg.PWR_STATUS_FRACTION) = 64) && decide (fractionStep (s.get Reg.PWR_STATUS_FRACTION) goal < 64))) := by
  have hnot : ¬s.clock < s.power.lastThrottle + msT 1 := Nat.not_lt.mpr hdue
  unfold execThrottleStep
  rw [if_neg hnot, ← fractionStep_int, ← hgoal]
  rfl

theorem shows_refreshSquelch {a : Nat} {w : Word} {s : State} (h : Shows a w s) (ha : a < 0x100000) (hlog : a ≠ 0x40014 ∧ a ≠ 0x40020) : Shows a w s.refreshSquelch := by
  have hcut : ∀ v : State, Shows a w v → Shows a w v.cutBurst := fun _ hv => hv.of_regs rfl
  have h1 : ∀ (c : Prop) [Decidable c] (r : Nat), Shows a w (if c then s else s.set Reg.TXS_STATUS_SQ_REASON r) := fun c _ r =>
    .ite (fun _ => h) fun _ => h.setAbove ha (by decide)
  have h2 : ∀ (v : State) (d : List Byte), Shows a w v →
      Shows a w ((((v.cutBurst.set Reg.TXS_STATUS_SQUELCHED 1).set Reg.TXS_EVENTS_SQUELCH 1).bump Cnt.SQUELCH_EVENTS).log wbTx 0x25 d) := fun v d hv =>
    Shows.log (Shows.bump (c := Cnt.SQUELCH_EVENTS) (i := 0) (j := 0) (((hcut _ hv).setAbove ha (by decide)).setAbove ha (by decide))
      fun hm => Nat.lt_irrefl a (ha.trans_le ((List.mem_singleton.mp hm).symm ▸ (by decide)))) hlog _ _ _
  have h3 : ∀ (v : State) (c : Prop) [Decidable c] (g : Nat), Shows a w v → Shows a w (if c then v else v.set Reg.TXS_STATUS_GATE g) := fun v c _ g hv =>
    .ite (fun _ => hv) fun _ => hv.setAbove ha (by decide)
  unfold State.refreshSquelch
  refine .ite (fun _ => h) fun _ => h3 _ _ _ ?_
  exact .ite (fun _ => h1 _ _) fun _ => h2 _ _ (h1 _ _)

/-- The words of the power block's status and events. -/
def PowerWord (a : Nat) : Prop := a = 0x60010 ∨ a = 0x60014

theorem timing_not_power {a : Nat} (ha : PowerWord a) : ∀ p ∈ sharedPatches ++ timingPage, ¬p.Has a := by
  have hwords : ∀ p ∈ sharedPatches ++ timingPage, p.apart (wordPatch 0x60010) = true ∧ p.apart (wordPatch 0x60014) = true ∧ p.lo = 0 ∧ p.width = 32 := by decide
  intro p hp hhas
  obtain ⟨h10, h14, hlo, hwid⟩ := hwords p hp
  rcases ha with rfl | rfl
  · have := Patch.bits_of_apart h10 hhas (has_wordPatch.mpr rfl)
    simp only [wordPatch, hlo, hwid] at this
    omega
  · have := Patch.bits_of_apart h14 hhas (has_wordPatch.mpr rfl)
    simp only [wordPatch, hlo, hwid] at this
    omega

/-- Thermal shutdown holds the coherent blocks and the lanes; the words of the power block stay. -/
theorem held_power {a : Nat} {w : Word} {s : State} (h : Shows a w s) (ha : PowerWord a) : s.refreshSquelch.gatePlane.holdLanes.refreshRefs.reg a = w := by
  have hne : a < 0x100000 ∧ a ≠ 0x12014 ∧ a ≠ 0x40014 ∧ a ≠ 0x40020 ∧ a ≠ 0x110 := by unfold PowerWord at ha; omega
  obtain ⟨hlt, hmb, hev, hlost, hxq⟩ := hne
  rw [(refreshRefs_touch _).reg a (timing_not_power ha)]
  exact (shows_holdLanes (shows_gatePlane (shows_refreshSquelch h hlt ⟨hev, hlost⟩) hlt hmb) (by omega) hmb hxq).reg

/-- A bit just set. -/
theorem shows_set (s : State) (f : Field) (v i j : Nat) : Shows (f.addr i j) ((s.set f v i j).reg (f.addr i j)) (s.set f v i j) := by
  unfold State.set
  rw [reg_setReg_self]
  exact Shows.of_setReg _ _ _

theorem flag_of_reg {s t : State} {f : Field} {i j : Nat} (h : t.reg (f.addr i j) = s.reg (f.addr i j)) : t.flag f i j = s.flag f i j := by
  rw [flag_eq, flag_eq]
  unfold State.get
  rw [h]

theorem thermalShutdown_eq (s : State) :
    s.thermalShutdown = ((s.set Reg.PWR_STATUS_SHUTDOWN 1).set Reg.PWR_EVENTS_SHUTDOWN 1).refreshSquelch.gatePlane.holdLanes.refreshRefs := rfl

/-- What thermal shutdown shows (R762). -/
theorem thermalShutdown_shows (s : State) : s.thermalShutdown.flag Reg.PWR_STATUS_SHUTDOWN = true ∧ s.thermalShutdown.flag Reg.PWR_EVENTS_SHUTDOWN = true := by
  rw [thermalShutdown_eq]
  constructor
  · have hstatus := (shows_set s Reg.PWR_STATUS_SHUTDOWN 1 0 0).set (f := Reg.PWR_EVENTS_SHUTDOWN) (v := 1) (i := 0) (j := 0) (by decide)
    have hreg := held_power hstatus (.inl rfl)
    have hflag := flag_set_self s Reg.PWR_STATUS_SHUTDOWN 1 0 0 (by decide)
    exact (flag_of_reg hreg).trans hflag
  · have hevents := shows_set (s.set Reg.PWR_STATUS_SHUTDOWN 1) Reg.PWR_EVENTS_SHUTDOWN 1 0 0
    rw [flag_of_reg (held_power hevents (.inr rfl)), flag_set_self _ _ _ _ _ (by decide)]
    rfl

theorem reportFault_touch (s : State) : Touch [wordPatch 0x60028, wordPatch 0x60014] s ((s.bump Cnt.OC_EVENTS).set Reg.PWR_EVENTS_OC 1) := ((Touch.refl _ s).bump0 (by decide)).set0 (by decide)

theorem reportFault_counted (s : State) : Counted Cnt.OC_EVENTS 0 0 1 s ((s.bump Cnt.OC_EVENTS).set Reg.PWR_EVENTS_OC 1) := by
  have hev : Touch [Reg.PWR_EVENTS_OC.patch] (s.bump Cnt.OC_EVENTS) ((s.bump Cnt.OC_EVENTS).set Reg.PWR_EVENTS_OC 1) := (Touch.refl _ _).set0 (by decide)
  exact hev.counted (counted_bump _ _ _ _ _ (.inl rfl)) (by decide) (by decide)

/-- Settles O34. -/
theorem powerLoopsStepTowardTheirTargets : Obligations.PowerLoopsStepTowardTheirTargets := by
  unfold Obligations.PowerLoopsStepTowardTheirTargets
  refine ⟨fun rail target goal s hen hstop hretry hgoal hlt hdue => ⟨?_, ?_⟩, fun r mv t0 goal s hretry hdue hr hgoal hlt => ?_, fun oc uv s hdue => ?_, fun x xs s hdue => ?_,
    fun goal s hdue hfrac hlt hgoal => ?_, fun t0 s hhot hdue hshut => ?_⟩
  · show ∃ t, execAvsStep rail target true s = _ ∧ _
    rw [avsSteps rail target goal s hen hstop hretry hgoal hdue]
    have hmv := stepToward_lt (rail_lt s rail.val) hlt
    have hclamp := clampCheck_touch s 4 rail.val (Int.ofNat target.val)
    refine done_then fun t he _ => ⟨?_, ?_, ?_⟩
    · rw [he.touch.rail _ (by decide), pmbTransfer_rail _ rail.isLt rail.isLt hmv, if_pos rfl]
      rfl
    · rw [he.touch.rail _ (by decide), pmbTransfer_rail _ rail.isLt (by omega) hmv, if_neg (by omega), hclamp.rail _ (by decide)]
    · exact counted_eq (he.touch.counted (hclamp.counted_of (pmbTransfer_steps _ _ _) (by decide) (by decide)) (by decide) (by decide)) rfl
  · show ∃ t, execAvsStep rail target false s = _ ∧ _
    rw [avsSteps rail target goal s hen hstop hretry hgoal hdue]
    have hclamp := clampCheck_touch s 4 rail.val (Int.ofNat target.val)
    have hfail := pmbTransfer_failed (s.clampCheck 4 rail.val (Int.ofNat target.val)) rail.val (stepToward (s.rail rail.val) goal)
    have hbump : Touch Cnt.PMB_FAULTS.patches (s.clampCheck 4 rail.val (Int.ofNat target.val)) ((s.clampCheck 4 rail.val (Int.ofNat target.val)).bump Cnt.PMB_FAULTS) := (Touch.refl _ _).bump0 (by decide)
    refine done_then fun t he _ => ⟨?_, ?_⟩
    · rw [he.touch.rail _ (by decide), hfail.rail _ (by decide), hbump.rail _ (by decide), hclamp.rail _ (by decide)]
    · exact counted_eq (he.touch.counted (hclamp.counted_of (hfail.counted (counted_bump _ _ 0 0 1 (.inl rfl)) (by decide) (by decide)) (by decide) (by decide)) (by decide) (by decide)) rfl
  · have hg : (clampTo (s.bounds 4 r) (Int.ofNat mv)).toNat = goal := congrArg Int.toNat hgoal
    have hmv := stepToward_lt (rail_lt s r) hlt
    have hexec : ∀ acked, execPmbusRetry acked s = done s (s.pmbTransfer r (stepToward (s.rail r) goal) acked) := fun acked => by
      unfold execPmbusRetry
      rw [hretry, ← hg]
      exact if_pos hdue
    constructor
    · show ∃ t, execPmbusRetry true s = _ ∧ _
      rw [hexec]
      obtain ⟨p, hp, hnone⟩ := pmbTransfer_acked s r (stepToward (s.rail r) goal)
      refine done_then fun t he _ => ⟨?_, ?_, ?_, ?_, ?_⟩
      · rw [he.touch.rail _ (by decide), pmbTransfer_rail _ hr hr hmv, if_pos rfl]
        rfl
      · rw [he.keeps State.power fun _ _ _ _ _ _ _ => rfl, hp]
        exact hnone
      · exact (he.touch.flag0 _ (by decide)).trans (pmbTransfer_ok _ _ _)
      · exact counted_eq (he.touch.counted (pmbTransfer_steps _ _ _) (by decide) (by decide)) rfl
      · exact Touch.regsKept_words (but := [0x60010, 0x6002C]) ((pmbTransfer_touch s r _).trans (he.touch.mono rfl))
    · show ∃ t, execPmbusRetry false s = _ ∧ _
      rw [hexec]
      have hfail := pmbTransfer_failed s r (stepToward (s.rail r) goal)
      have hbump : Touch Cnt.PMB_FAULTS.patches s (s.bump Cnt.PMB_FAULTS) := (Touch.refl _ _).bump0 (by decide)
      refine done_then fun t he _ => ⟨?_, ?_⟩
      · rw [he.touch.rail _ (by decide), hfail.rail _ (by decide), hbump.rail _ (by decide)]
      · exact counted_eq (he.touch.counted (hfail.counted (counted_bump _ _ 0 0 1 (.inl rfl)) (by decide) (by decide)) (by decide) (by decide)) rfl
  · show ∃ t, execPmbusStatusPoll oc uv s = _ ∧ _
    unfold execPmbusStatusPoll
    rw [if_neg (show ¬s.clock < s.power.lastPoll + msT 10 from Nat.not_lt.mpr hdue)]
    have hpolled : ∀ p, Touch [wordPatch 0x60028, wordPatch 0x60014] s { s with power := p } := fun _ => .of_regs rfl
    have hcount : ∀ p, ({ s with power := p } : State).count Cnt.OC_EVENTS = s.count Cnt.OC_EVENTS := fun _ => rfl
    dsimp only
    cases oc || uv with
    | false => exact done_then fun t he _ => ⟨((he.touch.count0 Cnt.OC_EVENTS (by decide)).trans (hcount _)).trans (if_neg (by decide)).symm, by simp,
        ((hpolled _).trans (he.touch.mono rfl)).regsKept_words (but := [0x60028, 0x60014])⟩
    | true =>
      refine done_then fun t he _ => ⟨?_, fun _ => ?_, ?_⟩
      · exact (counted_eq (counted_of_count (he.touch.counted (reportFault_counted _) (by decide) (by decide)) (hcount _) rfl) rfl).trans (if_pos rfl).symm
      · exact (he.touch.flag0 Reg.PWR_EVENTS_OC (by decide)).trans (flag_set_self _ Reg.PWR_EVENTS_OC 1 0 0 (by decide))
      · exact (((hpolled _).trans (reportFault_touch _)).trans (he.touch.mono rfl)).regsKept_words (but := [0x60028, 0x60014])
  · show ∃ t, execThermalSample (x :: xs) s = _ ∧ _
    unfold execThermalSample
    rw [if_neg (show ¬s.clock < s.power.lastSample + usT 100 from Nat.not_lt.mpr hdue)]
    refine done_then fun t he _ => ?_
    rw [he.keeps State.power fun _ _ _ _ _ _ _ => rfl]
    have hhead : (x :: xs).foldl max ((x :: xs).headD s.power.hottest) = xs.foldl max x := by simp
    rw [hhead]
    obtain ⟨hx, hxs⟩ := le_foldl_max xs x
    refine ⟨foldl_max_mem xs x, fun y hy => ?_, ?_, fun a ha hq => he.kept a ha hq⟩
    · rcases List.mem_cons.mp hy with rfl | hy
      · exact hx
      · exact hxs y hy
    · by_cases hhot : (1000 * s.get Reg.PWR_CFG_SHUT_C : Nat) ≤ xs.foldl max x
      · rw [if_pos (show Int.ofNat (1000 * s.get Reg.PWR_CFG_SHUT_C) ≤ xs.foldl max x from hhot), decide_eq_true hhot]
        rfl
      · rw [if_neg (show ¬Int.ofNat (1000 * s.get Reg.PWR_CFG_SHUT_C) ≤ xs.foldl max x from hhot), decide_eq_false hhot]
        rfl
  · show ∃ t, execThrottleStep s = _ ∧ _
    have hgoal' : clampTo (s.bounds 5 0) (throttleNext s.power.hottest (1000 * s.get Reg.PWR_CFG_THROTTLE_C) s.power.throttleTarget) = goal := by
      rw [← hgoal]
      unfold throttleNext
      push_cast
      rfl
    rw [execThrottleStep_eq s goal hdue hgoal']
    have hv : fractionStep (s.get Reg.PWR_STATUS_FRACTION) goal < 128 := by
      unfold fractionStep
      split
      · omega
      · split <;> omega
    have hthr := throttleTargeted_touch s (throttleNext s.power.hottest (1000 * s.get Reg.PWR_CFG_THROTTLE_C) s.power.throttleTarget)
    obtain ⟨hf, ht⟩ := showFraction_shows (s.throttleTargeted (throttleNext s.power.hottest (1000 * s.get Reg.PWR_CFG_THROTTLE_C) s.power.throttleTarget)) hv
    refine done_then fun t he _ => ?_
    have hshown : t.get Reg.PWR_STATUS_FRACTION = fractionStep (s.get Reg.PWR_STATUS_FRACTION) goal :=
      (he.touch.get0 _ (by decide)).trans (((countThrottle_touch _ _).get0 _ (by decide)).trans hf)
    refine ⟨hshown, ?_, fun h64 hlow => ?_⟩
    · rw [hshown]
      exact (he.touch.flag0 _ (by decide)).trans (((countThrottle_touch _ _).flag0 _ (by decide)).trans ht)
    · have hnew : (decide (Int.ofNat (s.get Reg.PWR_STATUS_FRACTION) = 64) && decide (fractionStep (s.get Reg.PWR_STATUS_FRACTION) goal < 64)) = true := by
        rw [h64]
        unfold fractionStep
        rw [if_neg (by omega), if_pos hlow]
        rfl
      rw [hnew] at he
      exact counted_eq (he.touch.counted (hthr.counted_of ((showFraction_touch _ _).counted_of (countThrottle_new _) (by decide) (by decide)) (by decide) (by decide)) (by decide) (by decide)) rfl
  · show ∃ t, execThermalShutdown s = _ ∧ _
    unfold execThermalShutdown
    rw [hhot]
    obtain ⟨hstatus, hevents⟩ := thermalShutdown_shows s
    dsimp only
    rw [hshut, if_pos (show (!false && decide (t0 + msT 1 ≤ s.clock)) = true by simpa [msT] using hdue)]
    exact done_then fun t he _ => ⟨(he.touch.flag0 _ (by decide)).trans hstatus, (he.touch.flag0 _ (by decide)).trans hevents⟩

/-! ### What the timing block changes beside registers -/

/-- Only registers, the log, the timing block's state, device time and the supply of free values differ. -/
def TimOnly (s t : State) : Prop := ∃ r l x o n, t = { s with regs := r, logs := l, tim := x, timeOff := o, fresh := n }

namespace TimOnly
variable {s t u : State}

theorem refl (s : State) : TimOnly s s := ⟨_, _, _, _, _, rfl⟩

theorem trans (h : TimOnly s t) (k : TimOnly t u) : TimOnly s u := by
  obtain ⟨r, l, x, o, n, rfl⟩ := h
  obtain ⟨r', l', x', o', n', rfl⟩ := k
  exact ⟨_, _, _, _, _, rfl⟩

theorem set (h : TimOnly s t) (f : Field) (v i j : Nat) : TimOnly s (t.set f v i j) := h.trans ⟨_, _, _, _, _, rfl⟩

theorem of_logs {r : Tab Word} {l : LogState} (h : TimOnly s t) : TimOnly s { t with regs := r, logs := l } := h.trans ⟨_, _, _, _, _, rfl⟩

theorem bump (h : TimOnly s t) (c : Ctr) (i j n : Nat) : TimOnly s (t.bump c i j n) := h.trans (by
  unfold State.bump State.setCount
  dsimp only
  split
  · exact ⟨_, _, _, _, _, rfl⟩
  · split
    · exact ⟨_, _, _, _, _, rfl⟩
    · exact ⟨_, _, _, _, _, rfl⟩)

theorem log (h : TimOnly s t) (wb type : Nat) (d : List Byte) : TimOnly s (t.log wb type d) := h.trans (by
  unfold State.log
  dsimp only
  split
  · exact ⟨_, _, _, _, _, rfl⟩
  · exact ((refl t).bump _ _ _ _).set _ _ _ _)

theorem tim (h : TimOnly s t) (x : TimState) : TimOnly s { t with tim := x } := h.trans ⟨_, _, _, _, _, rfl⟩

theorem ite {c : Prop} [Decidable c] (h : TimOnly s t) (k : TimOnly s u) : TimOnly s (if c then t else u) := by
  split
  · exact h
  · exact k

theorem foldl {α : Type} {f : State → α → State} (h : ∀ x v, TimOnly v (f v x)) (xs : List α) (s : State) : TimOnly s (xs.foldl f s) := by
  induction xs generalizing s with
  | nil => exact .refl s
  | cons x xs ih => exact (h x s).trans (ih _)

/-- What none of these enters is as it was. -/
theorem keeps {β : Type} (h : TimOnly s t) (π : State → β)
    (hπ : ∀ (z : State) r l x o n, π { z with regs := r, logs := l, tim := x, timeOff := o, fresh := n } = π z) : π t = π s := by
  obtain ⟨r, l, x, o, n, rfl⟩ := h
  exact hπ s r l x o n

end TimOnly

theorem refreshTiming_only (s : State) : TimOnly s s.refreshTiming := by
  have hsel := TimOnly.foldl (f := fun s r => s.set Reg.REF_STATUS_SELECTED (b2n (s.selRef = r)) r) (fun r v => (TimOnly.refl v).set _ _ _ _) (List.range 7) s
  exact ((hsel.set _ _ _ _).set _ _ _ _).set _ _ _ _

theorem toDpll_only (s : State) (new : Nat) : TimOnly s (s.toDpll new) := .ite (.refl s) ((((TimOnly.refl s).set _ _ _ _).set _ _ _ _).log _ _ _)

theorem leaveDpll_only (s : State) : TimOnly s s.leaveDpll := by
  have hgather : TimOnly s s.gather := by
    unfold State.gather
    split
    · exact .refl s
    · exact (TimOnly.refl s).tim _
  exact (hgather.set _ _ _ _).tim _

theorem loseRefs_only (s : State) : TimOnly s s.loseRefs := by
  have h1 := ((leaveDpll_only s).set Reg.DPLL_STATUS_SWITCHING 0 0 0).set Reg.DPLL_STATUS_REF 7 0 0
  have h3 : ∀ (u : State) (v w : Nat), TimOnly u
      ((((((u.set Reg.HO_OFS_OFS v).set Reg.DPLL_OFS_OFS w).toDpll 3).bump Cnt.HOLDOVER_ENTRIES).set Reg.HO_ELAPSED_SECONDS 0)) := fun u v w =>
    (((((TimOnly.refl u).set _ _ _ _).set _ _ _ _).trans (toDpll_only _ 3)).bump _ _ _ _).set _ _ _ _
  unfold State.loseRefs
  refine .ite (.ite ?_ ?_) ?_
  · exact ((((h1.trans (h3 _ _ _)).trans (toDpll_only _ _)).bump _ _ _ _).set _ _ _ _).trans (refreshTiming_only _)
  · exact ((h1.trans (h3 _ _ _)).tim _).trans (refreshTiming_only _)
  · exact (((h1.set _ _ _ _).trans (toDpll_only _ _)).tim _).trans (refreshTiming_only _)

theorem switchTo_only (s : State) (b reason : Nat) : TimOnly s (s.switchTo b reason) := by
  have hfree : TimOnly s (s.free 638).2 := ⟨_, _, _, _, _, rfl⟩
  have hmove : ∀ (v : State) (d : Int), TimOnly v (v.moveTime d) := fun _ _ => ⟨_, _, _, _, _, rfl⟩
  have h4 : ∀ (c : Prop) [Decidable c] (v : State), TimOnly v (if c then v.bump Cnt.PHASE_STEPS else v) := fun c _ v =>
    .ite ((TimOnly.refl v).bump _ _ _ _) (.refl v)
  unfold State.switchTo
  exact ((((((((((((hfree.trans (leaveDpll_only _)).set _ _ _ _).set _ _ _ _).trans (toDpll_only _ _)).set _ _ _ _).trans (hmove _ _)).trans (h4 _ _)).bump _ _ _ _).set _ _ _ _).log _ _ _).tim _)).trans
    (refreshTiming_only _)

theorem reselect_only (s : State) (commit : Bool) : TimOnly s (s.reselect commit) := by
  unfold State.reselect
  dsimp only
  split
  · exact .ite (loseRefs_only s) (.refl s)
  · exact .ite (.refl s) (.ite (.refl s) (switchTo_only _ _ _))

theorem disqualify_only (s : State) (r cause : Nat) : TimOnly s (s.disqualify r cause) :=
  .ite (.refl s) (((((TimOnly.refl s).set _ _ _ _).bump _ _ _ _).set _ _ _ _ |>.log _ _ _).trans (reselect_only _ _))

theorem refActive_only (s : State) (r : Nat) : TimOnly s (s.refActive r) := (((TimOnly.refl s).set _ _ _ _).set _ _ _ _).tim _

theorem refInactive_only (s : State) (r cause : Nat) : TimOnly s (s.refInactive r cause) :=
  (((((TimOnly.refl s).set _ _ _ _).set _ _ _ _).set _ _ _ _).tim _).trans (disqualify_only _ _ _)

theorem refreshRefs_only (s : State) : TimOnly s s.refreshRefs :=
  TimOnly.foldl (f := fun s r => if s.refCond r && !s.flag Reg.REF_STATUS_ACTIVE r then s.refActive r
    else if !s.refCond r && s.flag Reg.REF_STATUS_ACTIVE r then s.refInactive r 3 else s)
    (fun r v => .ite (refActive_only v r) (.ite (refInactive_only v r _) (.refl v))) [4, 5, 6] s

/-! ### Quenches (R51, R55) -/

/-- Only registers and the state of quenches, commits and clamps differ. -/
def SysOnly (s t : State) : Prop := ∃ r y, t = { s with regs := r, sys := y }

namespace SysOnly
variable {s t u : State}

theorem refl (s : State) : SysOnly s s := ⟨_, _, rfl⟩

theorem trans (h : SysOnly s t) (k : SysOnly t u) : SysOnly s u := by
  obtain ⟨r, y, rfl⟩ := h
  obtain ⟨r', y', rfl⟩ := k
  exact ⟨_, _, rfl⟩

theorem set (h : SysOnly s t) (f : Field) (v i j : Nat) : SysOnly s (t.set f v i j) := h.trans ⟨_, _, rfl⟩

theorem foldl {α : Type} {f : State → α → State} (h : ∀ x v, SysOnly v (f v x)) (xs : List α) (s : State) : SysOnly s (xs.foldl f s) := by
  induction xs generalizing s with
  | nil => exact .refl s
  | cons x xs ih => exact (h x s).trans (ih _)

theorem keeps {β : Type} (h : SysOnly s t) (π : State → β) (hπ : ∀ (z : State) r y, π { z with regs := r, sys := y } = π z) : π t = π s := by
  obtain ⟨r, y, rfl⟩ := h
  exact hπ s r y

end SysOnly

theorem startQuench_only (s : State) (kind idx : Nat) : SysOnly s (s.startQuench kind idx) := by
  unfold State.startQuench
  split
  · exact ⟨_, _, rfl⟩
  · exact ⟨_, _, rfl⟩
  · exact ⟨_, _, rfl⟩

theorem detachCtx_only (s : State) (c : Nat) : SysOnly s (s.detachCtx c) := by
  unfold State.detachCtx State.setCtxState
  split
  · exact ((((SysOnly.refl s).set _ _ _ _).set _ _ _ _).set _ _ _ _).trans (startQuench_only _ _ _)
  · exact .refl s

theorem quenchEverything_only (s : State) : SysOnly s s.quenchEverything := by
  have hstart := fun (kind : Nat) (l : List Nat) (v : State) => SysOnly.foldl (f := fun s i => s.startQuench kind i) (fun i v => startQuench_only v kind i) l v
  unfold State.quenchEverything
  exact ((((hstart _ _ _).trans (hstart _ _ _)).trans (hstart _ _ _)).trans (hstart _ _ _)).trans (SysOnly.foldl (fun c v => detachCtx_only v c) _ _)

theorem quenchLanes_only (s : State) : SysOnly s s.quenchLanes :=
  SysOnly.foldl (f := fun s l => s.startQuench 4 l) (fun l v => startQuench_only v 4 l) _ s

/-! ### Transactions rolled back (R667–R670) -/

theorem rollbackTxn_mbs (s : State) (mb reason index : Nat) :
    (s.rollbackTxn mb reason index).mbs =
      (s.setMbox mb { s.mbox mb with txn := { (s.mbox mb).txn with state := 4, staged := [], locks := [], reason := reason, index := index } }).mbs := by
  have hrel : (s.tsiRelease (s.mbox mb).txn.staged).mbs = s.mbs := ite_keeps State.mbs rfl rfl
  have hput : ∀ (v : State) (x : Txn), v.mbs = s.mbs → (v.setMbox mb { v.mbox mb with txn := x }).mbs = (s.setMbox mb { s.mbox mb with txn := x }).mbs := fun v x hv => by
    unfold State.setMbox State.mbox
    rw [hv]
  unfold State.rollbackTxn
  exact (((RegsLogs.refl _).bump _ _ _ _).log _ _ _ |>.keeps State.mbs fun _ _ _ => rfl).trans (hput _ _ hrel)

/-- A mailbox's transaction once rolled back, and the other mailboxes. -/
theorem rollbackTxn_mbox (s : State) (mb reason index k : Nat) : (s.rollbackTxn mb reason index).mbox k =
    if k = mb then { s.mbox mb with txn := { (s.mbox mb).txn with state := 4, staged := [], locks := [], reason := reason, index := index } } else s.mbox k := by
  rw [mbox_congr (rollbackTxn_mbs s mb reason index) k]
  split
  · next h => rw [h, mbox_setMbox_self]
  · next h => exact mbox_setMbox_ne _ _ h

theorem rollbackTxn_keeps {β : Type} (π : State → β) (hπ : ∀ (z : State) r l b m, π { z with regs := r, logs := l, mbs := m, self := { z.self with sent := b } } = π z)
    (s : State) (mb reason index : Nat) : π (s.rollbackTxn mb reason index) = π s := by
  have hregs : ∀ (z : State) r l b, π { z with regs := r, logs := l, self := { z.self with sent := b } } = π z := fun z r l b => hπ z r l b z.mbs
  have hrel : π (s.tsiRelease (s.mbox mb).txn.staged) = π s := ite_keeps π (hπ s _ s.logs s.self.sent s.mbs) rfl
  have hmb : ∀ (v : State) (x : Mailbox), π (v.setMbox mb x) = π v := fun v x => hπ v v.regs v.logs v.self.sent _
  unfold State.rollbackTxn
  exact ((((RegsLogs.refl _).bump _ _ _ _).log _ _ _).keeps π fun _ _ _ => hregs _ _ _ _).trans ((hmb _ _).trans hrel)

/-- The transactions of a list of mailboxes are rolled back. -/
theorem rollbacks_mbox (l : List Nat) (reason : Nat) (s : State) (k : Nat) :
    let t := l.foldl (fun (s : State) (k : Nat) => s.rollbackTxn k reason 0) s
    (k ∉ l → t.mbox k = s.mbox k) ∧ (k ∈ l → (t.mbox k).txn.state = 4 ∧ (t.mbox k).txn.reason = reason ∧ (t.mbox k).txn.locks = []) := by
  induction l generalizing s with
  | nil => simp
  | cons x l ih =>
    obtain ⟨hout, hin⟩ := ih (s.rollbackTxn x reason 0)
    refine ⟨fun hk => ?_, fun hk => ?_⟩
    · rw [List.mem_cons, not_or] at hk
      rw [List.foldl_cons, hout hk.2, rollbackTxn_mbox, if_neg hk.1]
    · by_cases hl : k ∈ l
      · exact hin hl
      · obtain rfl : k = x := (List.mem_cons.mp hk).resolve_right hl
        rw [List.foldl_cons, hout hl, rollbackTxn_mbox, if_pos rfl]
        exact ⟨rfl, rfl, rfl⟩

/-! ### Rails back to nominal, the plane gated (R760, R764) -/

theorem railNominal_rail (s : State) {r r' : Nat} (hr : r < 2) (hr' : r' < 2) : (s.railNominal r).rail r' = if r' = r then (if r = 0 then 720 else 750) else s.rail r' := by
  have hsent : ∀ mv, (s.sendVout r mv).rail r' = s.rail r' := fun _ => rfl
  have hsteps : ∀ u : State, Touch Cnt.AVS_STEPS.patches u (u.bump Cnt.AVS_STEPS) := fun u => (Touch.refl _ u).bump0 (by decide)
  have hv : (if r = 0 then 720 else 750) < 1024 := by split <;> decide
  unfold State.railNominal
  generalize (if r = 0 then 720 else 750) = v at hv ⊢
  dsimp only
  by_cases h : s.rail r = v
  · rw [if_pos h]
    split
    · next he => rw [he, h]
    · rfl
  · rw [if_neg h, (hsteps _).rail r' (by decide), rail_setRail _ _ _ _ hr hr' hv, hsent]

theorem railsNominal_rail (s : State) : s.railsNominal.rail 0 = 720 ∧ s.railsNominal.rail 1 = 750 := by
  unfold State.railsNominal
  constructor
  · rw [railNominal_rail _ (by decide) (by decide), if_neg (by decide), railNominal_rail _ (by decide) (by decide), if_pos rfl, if_pos rfl]
  · rw [railNominal_rail _ (by decide) (by decide), if_pos rfl, if_neg (by decide)]

theorem gatePlane_gated (s : State) : s.gatePlane.sys.gated = true := by
  unfold State.gatePlane
  split
  · next h => exact h
  · rfl

theorem railNominal_sys (s : State) (r : Nat) : (s.railNominal r).sys = s.sys := by
  have hsent : ∀ mv, (s.sendVout r mv).sys = s.sys := fun _ => rfl
  unfold State.railNominal
  refine ite_keeps State.sys rfl ?_
  rw [setRail_eq]
  exact (((RegsLogs.refl (s.sendVout r _)).set _ _ _ _).bump _ _ _ _).keeps State.sys fun _ _ _ => rfl

/-- SYS_SHUTDOWN's state before the quenches begin: transactions rolled back, the host squelch set. -/
def State.shutdownNoted (mb : Nat) (s : State) : State :=
  let s1 := s.openTxns.foldl (fun (s : State) (k : Nat) => s.rollbackTxn k cROLLED_BACK 0) s
  { s1 with tx := { s1.tx with hostSquelch := true }, power := { s1.power with shutdown := some { mb := mb, t0 := s.clock } } }

/-- SYS_SHUTDOWN's first step (R764). -/
def State.shutdownBegun (mb : Nat) (s : State) : State :=
  (if (s.shutdownNoted mb).coherent then (s.shutdownNoted mb).quenchEverything else s.shutdownNoted mb).quenchLanes

theorem shutdownBegun_only (mb : Nat) (s : State) : SysOnly (s.shutdownNoted mb) (s.shutdownBegun mb) := by
  unfold State.shutdownBegun
  split
  · exact (quenchEverything_only _).trans (quenchLanes_only _)
  · exact quenchLanes_only _

theorem shutdownBegun_squelch (mb : Nat) (s : State) : (s.shutdownBegun mb).tx.hostSquelch = true :=
  ((shutdownBegun_only mb s).keeps (fun z => z.tx.hostSquelch) fun _ _ _ => rfl).trans rfl

theorem shutdownBegun_power (mb : Nat) (s : State) : (s.shutdownBegun mb).power.shutdown = some { mb := mb, t0 := s.clock } :=
  ((shutdownBegun_only mb s).keeps (fun z => z.power.shutdown) fun _ _ _ => rfl).trans rfl

theorem shutdownBegun_mbox (mb : Nat) (s : State) (k : Nat) (hk : k ∈ s.openTxns) :
    ((s.shutdownBegun mb).mbox k).txn.state = 4 ∧ ((s.shutdownBegun mb).mbox k).txn.reason = cROLLED_BACK ∧ ((s.shutdownBegun mb).mbox k).txn.locks = [] := by
  rw [(shutdownBegun_only mb s).keeps (fun z => z.mbox k) fun _ _ _ => rfl]
  exact (rollbacks_mbox s.openTxns cROLLED_BACK s k).2 hk

/-- The plane is gated when the rails go back to nominal (R764). -/
theorem quiesced_gated (s : State) : s.gatePlane.refreshRefs.railsNominal.sys.gated = true := by
  unfold State.railsNominal
  rw [railNominal_sys, railNominal_sys, (refreshRefs_only _).keeps State.sys fun _ _ _ _ _ _ => rfl]
  exact gatePlane_gated s

/-- SHUTDOWN_SAFE_OFF's registers (R764). -/
def State.safeOffShown (s : State) : State := ((s.set Reg.PWR_STATUS_SAFE_OFF 1).set Reg.FW_STATUS_STATE 4).set Reg.PWR_EVENTS_SAFE_OFF 1

theorem safeOffShown_mbs (s : State) (p : PowerState) : ({ s.safeOffShown with power := p } : State).mbs = s.mbs := by
  have hshown : s.safeOffShown.mbs = s.mbs := by
    unfold State.safeOffShown
    exact ((((RegsLogs.refl s).set _ _ _ _).set _ _ _ _).set _ _ _ _).keeps State.mbs fun _ _ _ => rfl
  have hpow : ∀ u : State, ({ u with power := p } : State).mbs = u.mbs := fun _ => rfl
  exact (hpow _).trans hshown

/-- What SHUTDOWN_SAFE_OFF shows (R764). -/
theorem safeOff_shows (s : State) :
    let u := s.safeOffShown
    u.flag Reg.PWR_STATUS_SAFE_OFF = true ∧ u.get Reg.FW_STATUS_STATE = 4 ∧ u.flag Reg.PWR_EVENTS_SAFE_OFF = true := by
  unfold State.safeOffShown
  refine ⟨?_, ?_, ?_⟩
  · rw [flag_set_ne _ _ _ _ _ _ _ _ (by decide) (by decide), flag_set_ne _ _ _ _ _ _ _ _ (by decide) (by decide), flag_set_self _ _ _ _ _ (by decide)]
    rfl
  · rw [get_set_ne _ _ _ _ _ _ _ _ (by decide) (by decide), get_set_self _ _ _ _ _ (by decide)]
    rfl
  · rw [flag_set_self _ _ _ _ _ (by decide)]
    rfl

/-- Settles O35. -/
theorem resetAndShutdownCommandsRun : Obligations.ResetAndShutdownCommandsRun := by
  unfold Obligations.ResetAndShutdownCommandsRun
  refine ⟨fun mb p s hreq hbusy => ?_, fun mb p s hreq hbusy hnone => ?_, fun mb p s hreq hbusy => ?_, fun d s hd hgate hq => ?_, fun d g s hd hgate hrun => ?_⟩
  · show ∃ t, execSysReset mb s = _ ∧ _
    unfold execSysReset
    exact act_then hreq (if_neg (ne_true_of_eq_false hbusy)) fun t he hans => ⟨hans.of_mbs rfl, he.keeps State.power fun _ _ _ _ _ _ _ => rfl, fun a ha hq => he.kept a ha hq⟩
  · show ∃ t, execSysShutdown mb s = _ ∧ _
    unfold execSysShutdown
    have hfree : ((s.serving mb.val).powerBusy || (s.serving mb.val).power.shutdown.isSome) = false := by
      rw [show (s.serving mb.val).powerBusy = false from hbusy, show (s.serving mb.val).power.shutdown = none from hnone]
      rfl
    refine actLong_runs_then hreq ((if_neg (ne_true_of_eq_false hfree)).trans rfl) fun t he ⟨hself, hothers⟩ => ?_
    have hmbs := shutdownBegun_mbox mb.val (s.serving mb.val)
    refine ⟨by rw [hself], ?_, ?_, fun k hk hopen => ?_⟩
    · exact (he.keeps (fun z => z.tx.hostSquelch) fun _ _ _ _ _ _ _ => rfl).trans (shutdownBegun_squelch _ _)
    · exact (he.keeps (fun z => z.power.shutdown) fun _ _ _ _ _ _ _ => rfl).trans (shutdownBegun_power _ _)
    · have hin : k ∈ (s.serving mb.val).openTxns := by
        simp only [State.openTxns, List.mem_filter, List.mem_range, beq_iff_eq]
        exact ⟨hk, hopen⟩
      have hend := hmbs k hin
      by_cases hkm : k = mb.val
      · rw [hkm] at hend ⊢
        rw [hself]
        exact hend
      · rw [hothers k hkm]
        exact hend
  · show ∃ t, execSysShutdown mb s = _ ∧ _
    unfold execSysShutdown
    have hheld : ((s.serving mb.val).powerBusy || (s.serving mb.val).power.shutdown.isSome) = true := by
      rcases hbusy with h | h
      · rw [show (s.serving mb.val).powerBusy = true from h]
        rfl
      · rw [show (s.serving mb.val).power.shutdown.isSome = true from h, Bool.or_true]
    exact actLong_only hreq (if_pos hheld)
  · show ∃ t, execShutdownQuiesced s = _ ∧ _
    unfold execShutdownQuiesced
    rw [hd]
    dsimp only
    rw [hgate, hq, if_neg (by decide)]
    refine done_then fun t he _ => ⟨(he.keeps (fun z => z.power.shutdown) fun _ _ _ _ _ _ _ => rfl), ?_, ?_, ?_⟩
    · rw [he.keeps (fun z => z.sys.gated) fun _ _ _ _ _ _ _ => rfl]
      exact (quiesced_gated _).trans rfl
    · exact (he.touch.rail 0 (by decide)).trans (railsNominal_rail _).1
    · exact (he.touch.rail 1 (by decide)).trans (railsNominal_rail _).2
  · show ∃ t, execShutdownSafeOff s = _ ∧ _
    obtain ⟨mb, t0, ga⟩ := d
    obtain rfl : ga = some g := hgate
    unfold execShutdownSafeOff
    rw [hd]
    have hpow : ∀ (u : State) (p : PowerState), Touch [] u { u with power := p } := fun _ _ => .of_regs rfl
    obtain ⟨hsafe, hfw, hev⟩ := safeOff_shows s
    refine done_finish_then (u := { s.safeOffShown with power := { s.safeOffShown.power with shutdown := none } }) ((congrArg Mailbox.phase (mbox_congr (safeOffShown_mbs s _) mb)).trans hrun)
      fun t he hans => ⟨?_, ?_, ?_, he.keeps (fun z => z.power.shutdown) fun _ _ _ _ _ _ _ => rfl, hans.of_mbs (safeOffShown_mbs s _)⟩
    · exact (he.answer_touch.flag0 _ (by decide)).trans (((hpow _ _).flag0 _ (by decide)).trans hsafe)
    · exact (he.answer_touch.get0 _ (by decide)).trans (((hpow _ _).get0 _ (by decide)).trans hfw)
    · exact (he.answer_touch.flag0 _ (by decide)).trans (((hpow _ _).flag0 _ (by decide)).trans hev)

end Sys2Proof.Machine
end

section
/-! SUPPORT. Memory integrity: scrubs, flips, the window (O38) -/

namespace Sys2Proof.Machine

/-! ### Reads through a memory's code, and what they count (R552–R554, R711) -/

def memReadPatches : List Patch :=
  [Reg.LAST_ERR_WORD.patch 14, Reg.LAST_ERR_INSTANCE.patch 14, Reg.LAST_KIND_KIND.patch 14, Reg.MEM_EVENTS_CE.patch, Reg.MEM_EVENTS_UE.patch] ++
    Cnt.CE_COUNT.patches ++ Cnt.UE_COUNT.patches ++ Cnt.POISON_READS.patches

theorem latchErr_touch (s : State) {mem : Nat} (hm : mem < 14) (inst word kind : Nat) : Touch memReadPatches s (s.latchErr mem inst word kind) := by
  unfold State.latchErr
  exact .ite (fun _ => ((((Touch.refl _ s).setRow hm (by decide)).setRow hm (by decide)).setRow hm (by decide)).set0 (by decide)) fun _ => ((((Touch.refl _ s).setRow hm (by decide)).setRow hm (by decide)).setRow hm (by decide)).set0 (by decide)

theorem uncorrectable_touch (s : State) {mem : Nat} (hm : mem < 14) (inst word consumer : Nat) : Touch memReadPatches s (s.uncorrectable mem inst word consumer) := by
  unfold State.uncorrectable
  exact (((Touch.refl _ s).bumpRow hm (by decide)).trans (latchErr_touch _ hm _ _ _)).log _ _ _

theorem corrected_touch (s : State) {mem : Nat} (hm : mem < 14) (inst word : Nat) : Touch memReadPatches s (s.corrected mem inst word) := by
  have hbump : Touch memReadPatches s (s.bump Cnt.CE_COUNT mem) := (Touch.refl _ s).bumpRow hm (by decide)
  have hlatch := hbump.trans (latchErr_touch _ hm inst word 1)
  have hmem : ∀ (v : State) (x : MemState), Touch memReadPatches v { v with mem := x } := fun _ _ => .of_regs rfl
  unfold State.corrected
  exact .ite (fun _ => ((hlatch.trans (hmem _ _)).trans (hmem _ _)).log _ _ _) fun _ => hlatch.trans (hmem _ _)

theorem memRead_touch (s : State) {mem : Nat} (hm : mem < 14) (inst word consumer : Nat) : Touch memReadPatches s (s.memRead mem inst word consumer).2 := by
  have h1 : ∀ (c : Prop) [Decidable c], Touch memReadPatches s (if c then s.corrected mem inst word else s) := fun c _ =>
    .ite (fun _ => corrected_touch s hm inst word) fun _ => .refl _ s
  unfold State.memRead
  split
  · exact uncorrectable_touch s hm _ _ _
  · dsimp only
    split
    · exact (h1 _).bumpRow hm (by decide)
    · exact h1 _

/-- A read comes marked just when the word does not read clean (R553). -/
theorem memRead_marked (s : State) (mem inst word consumer : Nat) : (s.memRead mem inst word consumer).1 = true ↔ ¬Clean mem inst word s := by
  unfold State.memRead Clean
  split
  · next h => simp; omega
  · next h =>
    dsimp only
    split
    · next hf => simp [hf]
    · next hf => simp [Bool.not_eq_true] at hf; simp [hf]; omega

/-- The words of the performance counters. -/
def perfPage : List Patch := [pagePatch 0x600000 0x10000]

namespace Touch

theorem setReg {l : List Patch} {s t : State} {a : Nat} {v : Word} (h : Touch l s t) (p : Patch) (hp : p.inList l = true) (ha : p.Has a) (hlo : p.lo = 0) (hw : p.width = 32) :
    Touch l s (t.setReg a v) := h.trans fun b k hk hout => by
  rw [reg_setReg_ne]
  rintro rfl
  obtain ⟨q, hq, hbit⟩ := Patch.bit_of_inList hp (a := b) (b := k) ⟨ha, by omega, by omega⟩
  exact hout q (List.mem_append_right _ hq) hbit

end Touch

theorem has_pagePatch {lo len a : Nat} (h : lo ≤ a ∧ a < lo + len) : (pagePatch lo len).Has a :=
  ⟨0, a - lo, .inr Nat.one_pos, by simp only [pagePatch]; omega, by simp only [pagePatch]; omega⟩

theorem perfBump_touch (s : State) (c : Ctr) (i j n : Nat) (h : 0x600000 ≤ c.addr i j ∧ c.addr i j + 4 < 0x610000) : Touch perfPage s (s.perfBump c i j n) := by
  have hword : ∀ (u : State) (a : Nat) (v : Word), 0x600000 ≤ a ∧ a < 0x610000 → Touch perfPage u (u.setReg a v) := fun u a v ha =>
    (Touch.refl _ u).setReg (pagePatch 0x600000 0x10000) (by decide) (has_pagePatch ha) rfl rfl
  unfold State.perfBump
  have h2 := fun v w => (hword s (c.addr i j) v (by omega)).trans (hword _ (c.addr i j + 4) w (by omega))
  exact .ite (fun _ => (h2 _ _).set0 (by decide)) fun _ => h2 _ _

theorem perfDev_touch (s : State) (ev n : Nat) : Touch perfPage s (s.perfDev ev n) := by
  unfold State.perfDev
  refine .ite (fun _ => .refl _ s) fun _ => Touch.foldl (fun i hi v => .ite (fun _ => perfBump_touch v _ _ _ _ ?_) fun _ => .refl _ v) (.refl _ s)
  have := List.mem_range.mp hi
  simp only [Ctr.addr, Cnt.DC]
  omega

theorem bankAccess_touch (s : State) (b k : Nat) : Touch perfPage s (s.bankAccess b k) := by
  have hbusy : ∀ x, Touch perfPage s { s with pk := { s.pk with bankBusy := x } } := fun _ => .of_regs rfl
  unfold State.bankAccess
  exact ((hbusy _).trans (perfDev_touch _ _ _)).trans (perfDev_touch _ _ _)

/-! ### One word of a scrub (R561–R563) -/

/-- A write with no flip armed leaves the registers. -/
theorem memWrite_unarmed (s : State) (mem inst word : Nat) (poison : Bool) (h : s.flag Reg.FLIP_STATUS_ARMED = false) :
    s.memWrite mem inst word poison = s.setWordState mem inst word (if poison && memFlagged mem then 4 else 0) := by
  have h' : ∀ v, (s.setWordState mem inst word v).flag Reg.FLIP_STATUS_ARMED = false := fun _ => h
  unfold State.memWrite
  dsimp only
  rw [h']
  rfl

theorem wordState_setWordState (s : State) (mem inst word : Nat) (flag : Bool) :
    (s.setWordState mem inst word (if flag then 4 else 0)).wordBits mem inst word = 0 ∧ (s.setWordState mem inst word (if flag then 4 else 0)).wordFlag mem inst word = flag := by
  unfold State.wordBits State.wordFlag State.setWordState
  rw [tget_tput_self]
  cases flag <;> exact ⟨rfl, rfl⟩

/-- A word with one bad bit is put right and keeps its mark (R561–R563). -/
theorem scrubFlagged_fixes (s : State) {mem : Nat} (hm : mem < 14) (inst word : Nat) (hbits : s.wordBits mem inst word = 1)
    (hflag : s.wordFlag mem inst word = true → memFlagged mem = true) (harm : s.flag Reg.FLIP_STATUS_ARMED = false) :
    (s.scrubFlagged mem inst word).1.wordBits mem inst word = 0 ∧ (s.scrubFlagged mem inst word).1.wordFlag mem inst word = s.wordFlag mem inst word ∧
      Counted Cnt.SCRUB_FIXES mem 0 1 s (s.scrubFlagged mem inst word).1 ∧ (s.scrubFlagged mem inst word).2 = if s.wordFlag mem inst word then .already else .fixed := by
  have hread : ∀ (c : Prop) [Decidable c], Touch memReadPatches s ((if c then s.bump Cnt.POISON_READS mem else s).corrected mem inst word) := fun c _ =>
    (Touch.ite (fun _ => (Touch.refl _ s).bumpRow hm (by decide)) fun _ => .refl _ s).trans (corrected_touch _ hm _ _)
  have harm' : ∀ (c : Prop) [Decidable c], ((if c then s.bump Cnt.POISON_READS mem else s).corrected mem inst word).flag Reg.FLIP_STATUS_ARMED = false := fun c _ =>
    ((hread c).flag0 _ (by decide)).trans harm
  have hkeep : (s.wordFlag mem inst word && memFlagged mem) = s.wordFlag mem inst word := by
    cases h : s.wordFlag mem inst word with
    | false => rfl
    | true => rw [hflag h]; rfl
  have hwords : ∀ u : State, (u.bump Cnt.SCRUB_FIXES mem).mem = u.mem := fun u => ((RegsLogs.refl u).bump _ _ _ _).keeps State.mem fun _ _ _ => rfl
  have hset : ∀ (u : State) (v : Nat), Touch memReadPatches u (u.setWordState mem inst word v) := fun _ _ => .of_regs rfl
  have hq : s.scrubFlagged mem inst word = ((((if s.wordFlag mem inst word = true then s.bump Cnt.POISON_READS mem else s).corrected mem inst word).setWordState mem inst word
      (if s.wordFlag mem inst word = true then 4 else 0)).bump Cnt.SCRUB_FIXES mem, if s.wordFlag mem inst word then .already else .fixed) := by
    unfold State.scrubFlagged
    rw [if_neg (by omega)]
    dsimp only
    rw [if_pos hbits, memWrite_unarmed _ _ _ _ _ (harm' _), hkeep]
  rw [hq]
  obtain ⟨hb, hf⟩ := wordState_setWordState ((if s.wordFlag mem inst word = true then s.bump Cnt.POISON_READS mem else s).corrected mem inst word) mem inst word (s.wordFlag mem inst word)
  refine ⟨?_, ?_, ?_, rfl⟩
  · unfold State.wordBits at hb ⊢
    rw [hwords]
    exact hb
  · unfold State.wordFlag at hf ⊢
    rw [hwords]
    exact hf
  · exact ((hread _).trans (hset _ _)).counted_of (counted_bump _ _ _ _ _ (.inl rfl)) hm (by decide)

/-- The one word of a pass over a memory with one copy. -/
theorem scrubWord_fixes (s : State) {mem : Nat} (hm : mem < 14) (hmem : mem ∉ [0, 8, 9, 12, 13]) (inst word : Nat) (hbits : s.wordBits mem inst word = 1)
    (hflag : s.wordFlag mem inst word = true → memFlagged mem = true) (harm : s.flag Reg.FLIP_STATUS_ARMED = false) :
    (s.scrubWord mem inst word false).1.wordBits mem inst word = 0 ∧ (s.scrubWord mem inst word false).1.wordFlag mem inst word = s.wordFlag mem inst word ∧
      Counted Cnt.SCRUB_FIXES mem 0 1 s (s.scrubWord mem inst word false).1 ∧ (s.scrubWord mem inst word false).2 = if s.wordFlag mem inst word then .already else .fixed := by
  simp only [List.mem_cons, List.not_mem_nil, or_false, not_or] at hmem
  obtain ⟨-, h8, h9, h12, -⟩ := hmem
  unfold State.scrubWord
  rw [if_neg h8, if_neg Bool.false_ne_true, if_neg (show ¬(mem = 9 ∨ mem = 12) by omega)]
  split
  · have hbank := bankAccess_touch s inst 0
    have hwords : (s.bankAccess inst 0).mem.words = s.mem.words := (issueKept_bankAccess s inst 0).words List.not_mem_nil
    have hb : (s.bankAccess inst 0).wordBits mem inst word = s.wordBits mem inst word := by unfold State.wordBits; rw [hwords]
    have hf : (s.bankAccess inst 0).wordFlag mem inst word = s.wordFlag mem inst word := by unfold State.wordFlag; rw [hwords]
    obtain ⟨h1, h2, h3, h4⟩ := scrubFlagged_fixes (s.bankAccess inst 0) hm inst word (hb.trans hbits) (fun h => hflag (hf.symm.trans h)) ((hbank.flag0 _ (by decide)).trans harm)
    exact ⟨h1, h2.trans hf, hbank.counted_of h3 hm (by decide), by rw [h4, hf]⟩
  · exact scrubFlagged_fixes s hm inst word hbits hflag harm

theorem setPass_touch (l : List Patch) (s : State) (mem : Nat) (p : Option ScrubPass) : Touch l s (s.setPass mem p) := .of_regs rfl

theorem pass_setPass (s : State) (mem : Nat) (p : Option ScrubPass) : (s.setPass mem p).pass mem = p := tget_tput_self _ _ _ _

theorem sweep_setSweep (s : State) (mem : Nat) (w : Sweep) : (s.setSweep mem w).sweep mem = w := tget_tput_self _ _ _ _

/-- The memory that a sweep stands at is the next one while it is powered. -/
theorem nextInst_self (s : State) {mem i : Nat} (hi : i < memInstances mem) (hp : s.instPowered mem i = true) : s.nextInst mem i = i := by
  unfold State.nextInst
  obtain ⟨n, hn⟩ : ∃ n, memInstances mem - i = n + 1 := ⟨memInstances mem - i - 1, by omega⟩
  rw [hn, List.range_succ_eq_map, List.map_cons, List.find?_cons_of_pos (by simpa using hp)]
  rfl

/-! ### A 32-byte word of the window (R504) -/

theorem bar2Word_reads (s : State) {w : Nat} (hp : w / 4 < 1310720) (hon : s.blocksOff = false) (hb : w / 4 / 32768 < s.banks) :
    let r := s.bar2Word w
    (r.2.2 = true ↔ ¬Clean 1 (w / 4 / 32768) (4 * (w / 4 % 32768) + w % 4) s) ∧ (r.2.1 = if r.2.2 then List.replicate 32 0 else ((s.parcelBytes (w / 4)).drop (32 * (w % 4))).take 32) ∧
      Touch (memReadPatches ++ perfPage) s r.1 := by
  have hpass : ¬(decide (1310720 ≤ w / 4) || s.blocksOff || decide (s.banks ≤ w / 4 / 32768)) = true := by
    simp only [hon, Bool.or_false, Bool.or_eq_true, decide_eq_true_eq]
    omega
  unfold State.bar2Word
  rw [if_neg hpass]
  dsimp only
  have hperf := (perfDev_touch s 11 1).trans (bankAccess_touch _ (w / 4 / 32768) 0)
  have hwords : ((s.perfDev 11 1).bankAccess (w / 4 / 32768) 0).mem.words = s.mem.words :=
    ((issueKept_bankAccess _ _ _).words List.not_mem_nil).trans ((issueKept_perfDev s 11 1).words List.not_mem_nil)
  have hclean : Clean 1 (w / 4 / 32768) (4 * (w / 4 % 32768) + w % 4) ((s.perfDev 11 1).bankAccess (w / 4 / 32768) 0) ↔ Clean 1 (w / 4 / 32768) (4 * (w / 4 % 32768) + w % 4) s := by
    unfold Clean State.wordBits State.wordFlag
    rw [hwords]
  exact ⟨(memRead_marked _ _ _ _ _).trans (not_congr hclean), rfl, (hperf.mono (by decide)).andThen (memRead_touch _ (by decide) _ _ _) (by decide)⟩

theorem bite_touch (s : State) (consumer : Nat) (turnout : Option Nat) (record : Bool) : Touch [Reg.MEM_EVENTS_POISON_BITE.patch] s (s.bite consumer turnout record) := by
  unfold State.bite
  exact .ite (fun _ => ((Touch.refl _ s).set0 (by decide)).log _ _ _) fun _ => (Touch.refl _ s).set0 (by decide)

theorem bite_pk (s : State) (consumer : Nat) (turnout : Option Nat) (record : Bool) : (s.bite consumer turnout record).pk = s.pk := by
  unfold State.bite
  exact ite_keeps State.pk ((((RegsLogs.refl s).set _ _ _ _).log _ _ _).keeps State.pk fun _ _ _ => rfl) rfl

/-! ### Flips armed and disarmed (R564, R565) -/

theorem refreshFi_touch (s : State) : Touch [Reg.TEST_STATUS_FI_ACTIVE.patch] s s.refreshFi := (Touch.refl _ s).set0 (by decide)

/-- FLIP_STATUS of a flip that is armed. -/
theorem armed_shows (s : State) {m inst : Nat} (hm : m < 14) (hi : inst < 1024) :
    let u := ((s.set Reg.FLIP_STATUS_ARMED 1).set Reg.FLIP_STATUS_MEM m).set Reg.FLIP_STATUS_INSTANCE inst
    u.flag Reg.FLIP_STATUS_ARMED = true ∧ u.get Reg.FLIP_STATUS_MEM = m ∧ u.get Reg.FLIP_STATUS_INSTANCE = inst := by
  refine ⟨?_, ?_, ?_⟩
  · rw [flag_set_ne _ _ _ _ _ _ _ _ (by decide) (by decide), flag_set_ne _ _ _ _ _ _ _ _ (by decide) (by decide), flag_set_self _ _ _ _ _ (by decide)]
    rfl
  · rw [get_set_ne _ _ _ _ _ _ _ _ (by decide) (by decide), get_set_self _ _ _ _ _ (by decide)]
    exact Nat.mod_eq_of_lt (by simp only [Reg.FLIP_STATUS_MEM]; omega)
  · rw [get_set_self _ _ _ _ _ (by decide)]
    exact Nat.mod_eq_of_lt hi

theorem disarmFlip_unarmed (s : State) : s.disarmFlip.flag Reg.FLIP_STATUS_ARMED = false := by
  have hmem : ∀ (u : State) (x : MemState), ({ u with mem := x } : State).flag Reg.FLIP_STATUS_ARMED = u.flag Reg.FLIP_STATUS_ARMED := fun _ _ => rfl
  unfold State.disarmFlip
  rw [(refreshFi_touch _).flag0 Reg.FLIP_STATUS_ARMED (by decide), hmem, flag_set_ne _ _ _ _ _ _ _ _ (by decide) (by decide), flag_set_ne _ _ _ _ _ _ _ _ (by decide) (by decide), flag_set_self _ _ _ _ _ (by decide)]
  rfl

theorem memInstances_lt (m : Nat) : memInstances m < 1024 := by
  unfold memInstances
  split <;> decide

/-- What MEM_FLIP_ARM does: a flip is disarmed, refused or armed (R564). -/
def flipArm (p : List Byte) (s : State) : State × Reply :=
  let m := u8 p 0
  let inst := u16 p 2
  let a := u8 p 1 % 2
  let b := u8 p 1 / 2
  if s.get Reg.TEST_STATUS_LEVEL = 0 then (s, err cDENIED)
  else if a = 0 ∧ b = 0 then (if s.flag Reg.FLIP_STATUS_ARMED then s.disarmFlip else s, ok)
  else if memInstances m ≤ inst then (s, { code := cINVALID, index := 3 })
  else if a = 1 ∧ memCodeBits m inst ≤ u16 p 4 then (s, { code := cINVALID, index := 5 })
  else if b = 1 ∧ memCodeBits m inst ≤ u16 p 6 then (s, { code := cINVALID, index := 7 })
  else if s.flag Reg.FLIP_STATUS_ARMED then (s, err cBUSY)
  else
    let s1 := ((s.set Reg.FLIP_STATUS_ARMED 1).set Reg.FLIP_STATUS_MEM m).set Reg.FLIP_STATUS_INSTANCE inst
    (State.refreshFi { s1 with mem := { s1.mem with flipBits := if a = 1 ∧ b = 1 ∧ u16 p 4 ≠ u16 p 6 then 2 else 1 } }, ok)

theorem flipArm_disarms (p : List Byte) (s : State) (hl : s.get Reg.TEST_STATUS_LEVEL ≠ 0) (h : u8 p 1 = 0) :
    flipArm p s = (if s.flag Reg.FLIP_STATUS_ARMED then s.disarmFlip else s, ok) := by
  unfold flipArm
  rw [if_neg hl, h]
  exact if_pos ⟨rfl, rfl⟩

theorem flipArm_arms (p : List Byte) (s : State) (hl : s.get Reg.TEST_STATUS_LEVEL ≠ 0) (h : u8 p 1 = 1) (hi : u16 p 2 < memInstances (u8 p 0))
    (hb : u16 p 4 < memCodeBits (u8 p 0) (u16 p 2)) (harm : s.flag Reg.FLIP_STATUS_ARMED = false) :
    flipArm p s = (State.refreshFi { ((s.set Reg.FLIP_STATUS_ARMED 1).set Reg.FLIP_STATUS_MEM (u8 p 0)).set Reg.FLIP_STATUS_INSTANCE (u16 p 2) with
      mem := { s.mem with flipBits := 1 } }, ok) := by
  unfold flipArm
  simp only [h, harm, if_neg hl]
  rw [if_neg (by decide), if_neg (Nat.not_le.mpr hi), if_neg (fun h => Nat.not_le.mpr hb h.2), if_neg (by simp), if_neg (by decide), if_neg (by simp)]
  rfl

/-- A requested pass that fixes its word counts it and moves on (R563). -/
theorem passWord_fixes (s : State) {mem i k n : Nat} {rest : List (Nat × Nat × Nat)} {q : ScrubPass} (hq : s.pass mem = some q) (hleft : q.left = (i, k, n) :: rest) (hn : 0 < n)
    (hpow : s.instPowered mem i = true) (hkind : (s.scrubWord mem i k false).2 = if s.wordFlag mem i k then .already else .fixed) :
    ∃ q1, s.passWord mem false = (s.scrubWord mem i k false).1.setPass mem (some q1) ∧ q1.read = q.read + 1 ∧
      q1.fixed + q1.already = q.fixed + q.already + 1 ∧ q1.left = (if n = 1 then rest else (i, k + 1, n - 1) :: rest) := by
  unfold State.passWord
  rw [hq]
  dsimp only
  rw [hleft]
  dsimp only
  rw [if_neg (by omega), if_neg (by simp [hpow]), hkind]
  cases s.wordFlag mem i k with
  | false => exact ⟨_, rfl, rfl, Nat.add_right_comm _ _ _, rfl⟩
  | true => exact ⟨_, rfl, rfl, (Nat.add_assoc _ _ _).symm, rfl⟩

/-- The background sweep goes on to the next word of its memory (R561). -/
theorem sweepWord_next (s : State) {mem : Nat} (met : Bool) {w : Sweep} (hw : s.sweep mem = w) (hper : w.period ≠ 0) (hinst : w.inst < memInstances mem)
    (hpow : s.instPowered mem w.inst = true) (hword : w.word + 1 < memWords mem w.inst) :
    s.sweepWord mem met = (s.scrubWord mem w.inst w.word met).1.setSweep mem { w with word := w.word + 1 } := by
  subst hw
  have hnext := nextInst_self s hinst hpow
  have hdone : s.sweepDone mem = false := by
    unfold State.sweepDone
    rw [hnext]
    exact decide_eq_false (by omega)
  have hcur : s.currentSweep mem = s := by
    unfold State.currentSweep
    dsimp only
    rw [hdone, if_pos (by simp [hper])]
  unfold State.sweepWord
  rw [hcur]
  dsimp only
  rw [hnext, if_neg (by simp [hper]; omega), if_pos rfl, if_neg (by omega), if_neg (by omega)]

/-- A read within one word of the window (R504). -/
theorem execBar2Read_one (s : State) {addr size : Nat} (hpos : 0 < size) (hsize : addr % 32 + size ≤ 32) :
    let r := s.bar2Word (addr / 32)
    let s1 := { r.1 with pk := { r.1.pk with bar2 := (r.2.1.drop (addr % 32)).take size, bar2Ep := r.2.2 } }
    execBar2Read addr size s = done s (if r.2.2 then (s1.bump Cnt.POISON_PCIE).bite 4 none true else s1) := by
  have hn : min size 4096 = size := by omega
  have hwords : (if size = 0 then 0 else (addr + size - 1) / 32 - addr / 32 + 1) = 1 := by
    rw [if_neg (by omega)]
    omega
  unfold execBar2Read
  simp only [hn, hwords, List.range_one, List.foldl_cons, List.foldl_nil, Nat.add_zero, List.nil_append, Bool.false_or]

/-- Settles O38. -/
theorem scrubsFlipsAndWindowReads : Obligations.ScrubsFlipsAndWindowReads := by
  unfold Obligations.ScrubsFlipsAndWindowReads
  refine ⟨fun mb p l s hreq hl hnone => ?_, fun mem i k n rest q s hmem hq hleft hn hpow hbits hflag harm => ?_, fun mem met w s h0 h13 hw hper hinst hpow hword => ?_,
    fun mem w s hw hper hlate hdone hdue => ?_, fun mem q s hq hleft hrun => ?_, fun mb p s hreq hlevel => ?_, fun addr size s hpos hsize hp hon hbank => ?_⟩
  · show ∃ t, execMemScrub mb s = _ ∧ _
    unfold execMemScrub
    have hf : (match scrubRanges (u8 p 0) (u16 p 2) (u32 p 4) (u32 p 8) with
        | none => (s.serving mb.val, some ({ code := cINVALID, index := 3 } : Reply))
        | some l =>
          if ((s.serving mb.val).pass (u8 p 0)).isSome then (s.serving mb.val, some (err cBUSY))
          else ((((s.serving mb.val).setPass (u8 p 0) (some { mb := mb.val, left := l, start := (s.serving mb.val).clock })).set Reg.MEM_MSTATUS_SCRUB_RUN 1 (u8 p 0)), none)) =
        (((s.serving mb.val).setPass (u8 p 0) (some { mb := mb.val, left := l, start := s.clock })).set Reg.MEM_MSTATUS_SCRUB_RUN 1 (u8 p 0), none) := by
      rw [hl]
      exact if_neg (by rw [show (s.serving mb.val).pass (u8 p 0) = none from hnone]; decide)
    refine actLong_runs_then hreq hf fun t he hrun => ⟨hrun.of_mbs rfl, (he.keeps (fun z => z.pass (u8 p 0)) fun _ _ _ _ _ _ _ => rfl).trans (pass_setPass _ _ _), ?_⟩
    rw [he.touch.flag Reg.MEM_MSTATUS_SCRUB_RUN (u8 p 0) 0 256 1 (by decide) (by decide) (.inr (u8_lt p 0)) (by decide), flag_set_self _ _ _ _ _ (by decide)]
    rfl
  · show ∃ t, ∃ q1, execScrubWord mem true false s = _ ∧ _
    have hmem' := hmem
    simp only [List.mem_cons, List.not_mem_nil, or_false, not_or] at hmem'
    obtain ⟨h0, -, -, -, h13⟩ := hmem'
    obtain ⟨hb, hf, hc, hkind⟩ := scrubWord_fixes s mem.isLt hmem i k hbits hflag harm
    obtain ⟨q1, hpass, hread, hfix, hleft1⟩ := passWord_fixes s hq hleft hn hpow hkind
    have hexec : execScrubWord mem true false s = done s (s.passWord mem.val false) := by
      unfold execScrubWord
      rw [if_neg (by simp [h0, h13])]
      rfl
    rw [hexec]
    obtain ⟨t, ht, hP⟩ := done_then (s := s) (u := s.passWord mem.val false)
      (P := fun t => t.wordBits mem.val i k = 0 ∧ t.wordFlag mem.val i k = s.wordFlag mem.val i k ∧
        t.count Cnt.SCRUB_FIXES mem.val = min (s.count Cnt.SCRUB_FIXES mem.val + 1) 0xFFFFFFFF ∧ t.pass mem.val = some q1) fun t he _ => by
      rw [hpass] at he
      refine ⟨?_, ?_, ?_, ?_⟩
      · exact (he.keeps (fun z => z.wordBits mem.val i k) fun _ _ _ _ _ _ _ => rfl).trans hb
      · exact (he.keeps (fun z => z.wordFlag mem.val i k) fun _ _ _ _ _ _ _ => rfl).trans hf
      · exact counted_eq (he.touch.counted ((setPass_touch [] _ _ _).counted hc mem.isLt (by decide)) mem.isLt (by decide)) rfl
      · exact (he.keeps (fun z => z.pass mem.val) fun _ _ _ _ _ _ _ => rfl).trans (pass_setPass _ _ _)
    obtain ⟨hb', hf', hc', hp'⟩ := hP
    exact ⟨t, q1, ht, hb', hf', hc', hp', hread, hfix, hleft1⟩
  · show ∃ t, execScrubWord mem false met s = _ ∧ _
    have hexec : execScrubWord mem false met s = done s (s.sweepWord mem.val met) := by
      unfold execScrubWord
      rw [if_neg (by simp [h0, h13])]
      rfl
    rw [hexec, sweepWord_next s met hw hper hinst hpow hword]
    exact done_then fun t he _ => (he.keeps (fun z => z.sweep mem.val) fun _ _ _ _ _ _ _ => rfl).trans (sweep_setSweep _ _ _)
  · show ∃ t, execScrubLate mem s = _ ∧ _
    unfold execScrubLate
    subst hw
    have hlate' : ¬(decide ((s.sweep mem.val).period = 0) || (s.sweep mem.val).late || s.sweepDone mem.val ||
        decide (s.clock < (s.sweep mem.val).start + msT (s.sweep mem.val).period)) = true := by
      rw [hlate, hdone]
      simp only [decide_eq_false hper, Bool.or_self, Bool.false_or, decide_eq_true_eq]
      exact Nat.not_lt.mpr hdue
    have hset : ∀ x, Touch [] s (s.setSweep mem.val x) := fun _ => .of_regs rfl
    have hev : ∀ u : State, Touch [Reg.MEM_EVENTS_SCRUB_LATE.patch] u (u.set Reg.MEM_EVENTS_SCRUB_LATE 1) := fun u => (Touch.refl _ u).set0 (by decide)
    dsimp only
    rw [if_neg hlate']
    refine done_then fun t he _ => ⟨?_, ?_, ?_⟩
    · refine (he.keeps (fun z => z.sweep mem.val) fun _ _ _ _ _ _ _ => rfl).trans ?_
      exact ((((RegsLogs.refl _).bump _ _ _ _).set _ _ _ _).keeps (fun z => z.sweep mem.val) fun _ _ _ => rfl).trans (sweep_setSweep _ _ _)
    · exact (he.touch.flag0 _ (by decide)).trans ((flag_set_self _ _ _ _ _ (by decide)).trans rfl)
    · exact counted_eq (he.touch.counted ((hset _).counted_of ((hev _).counted (counted_bump _ _ _ _ _ (.inl rfl)) mem.isLt (by decide)) mem.isLt (by decide)) mem.isLt (by decide)) rfl
  · show ∃ t, execScrubPassEnd mem s = _ ∧ _
    unfold execScrubPassEnd State.endPass
    rw [hq]
    dsimp only
    rw [hleft, if_pos (by rfl)]
    have hmbs : ∀ u : State, ((u.set Reg.MEM_MSTATUS_SCRUB_RUN 0 mem.val).set Reg.MEM_EVENTS_SCRUB_DONE 1).mbs = u.mbs := fun _ => rfl
    have hrow : ∀ u : State, Touch [Reg.MEM_MSTATUS_SCRUB_RUN.patch 14, Reg.MEM_EVENTS_SCRUB_DONE.patch] u
        ((u.set Reg.MEM_MSTATUS_SCRUB_RUN 0 mem.val).set Reg.MEM_EVENTS_SCRUB_DONE 1) := fun u => ((Touch.refl _ u).setRow mem.isLt (by decide)).set0 (by decide)
    refine done_finish_then hrun fun t he hans => ⟨?_, ?_, hans.of_mbs rfl⟩
    · exact (he.keeps (fun z => z.pass mem.val) fun _ _ _ _ _ _ _ => rfl).trans (pass_setPass _ _ _)
    · exact (he.answer_touch.flag0 _ (by decide)).trans ((flag_set_self _ _ _ _ _ (by decide)).trans rfl)
  · show ∃ t, execMemFlipArm mb s = _ ∧ _
    unfold execMemFlipArm
    refine act_then (u := (flipArm p (s.serving mb.val)).1) (r := (flipArm p (s.serving mb.val)).2) hreq rfl fun t he hans => ⟨fun h => ?_, fun h hm hi hb harm => ?_⟩
    · have hd := flipArm_disarms p (s.serving mb.val) hlevel h
      rw [hd] at he hans
      have hmbs : ∀ (c : Prop) [Decidable c], (if c then (s.serving mb.val).disarmFlip else s.serving mb.val).mbs = s.mbs := fun c _ => ite_keeps State.mbs rfl rfl
      refine ⟨hans.of_mbs (hmbs _), (he.answer_touch.flag0 _ (by decide)).trans ?_⟩
      split
      · exact disarmFlip_unarmed _
      · next h => exact Bool.eq_false_iff.mpr h
    · have ha := flipArm_arms p (s.serving mb.val) hlevel h hi hb harm
      rw [ha] at he hans
      obtain ⟨h1, h2, h3⟩ := armed_shows (s.serving mb.val) hm (hi.trans (memInstances_lt _))
      have hmem : ∀ (u : State) (x : MemState), Touch [Reg.TEST_STATUS_FI_ACTIVE.patch] u (State.refreshFi { u with mem := x }) := fun u x =>
        Touch.trans (.of_regs rfl) (refreshFi_touch _)
      exact ⟨hans.of_mbs rfl, (he.answer_touch.flag0 _ (by decide)).trans (((hmem _ _).flag0 _ (by decide)).trans h1), (he.answer_touch.get0 _ (by decide)).trans (((hmem _ _).get0 _ (by decide)).trans h2),
        (he.answer_touch.get0 _ (by decide)).trans (((hmem _ _).get0 _ (by decide)).trans h3), he.keeps (fun z => z.mem.flipBits) fun _ _ _ _ _ _ _ => rfl⟩
  · show ∃ t, execBar2Read addr size s = _ ∧ _
    have hw4 : addr / 32 / 4 = addr / 128 := by omega
    obtain ⟨hmark, hbytes, htouch⟩ := bar2Word_reads s (w := addr / 32) (by omega) hon (by rw [hw4]; exact hbank)
    rw [hw4] at hmark hbytes
    rw [execBar2Read_one s hpos hsize]
    have hpk : ∀ (c : Prop) [Decidable c] (u : State), (if c then (u.bump Cnt.POISON_PCIE).bite 4 none true else u).pk = u.pk := fun c _ u =>
      ite_keeps State.pk ((bite_pk _ _ _ _).trans (((RegsLogs.refl u).bump _ _ _ _).keeps State.pk fun _ _ _ => rfl)) rfl
    refine done_then fun t he _ => ?_
    have htpk := (he.keeps State.pk fun _ _ _ _ _ _ _ => rfl).trans (hpk _ _)
    refine ⟨fun hclean => ?_, fun hnot => ?_⟩
    · have hgood : (s.bar2Word (addr / 32)).2.2 = false := Bool.eq_false_iff.mpr fun h => hmark.mp h hclean
      rw [htpk, hbytes, hgood]
      exact ⟨rfl, rfl⟩
    · have hbad : (s.bar2Word (addr / 32)).2.2 = true := hmark.mpr hnot
      rw [htpk, hbytes, hbad]
      rw [hbad, if_pos rfl] at he
      have hpk' : ∀ (u : State) (x : PktState), Touch [] u { u with pk := x } := fun _ _ => .of_regs rfl
      refine ⟨?_, rfl, ?_⟩
      · show (((List.replicate 32 0).drop (addr % 32)).take size : List Byte) = List.replicate size 0
        rw [List.drop_replicate, List.take_replicate, Nat.min_eq_left (by omega)]
      · exact counted_eq (he.touch.counted (htouch.counted_of ((hpk' _ _).counted_of ((bite_touch _ _ _ _).counted (counted_bump _ _ _ _ _ (.inl rfl)) (by decide) (by decide)) (by decide) (by decide)) (by decide) (by decide)) (by decide) (by decide)) rfl

end Sys2Proof.Machine
end

section
/-! SUPPORT. Calibration of the converters (O41) -/

namespace Sys2Proof.Machine

/-! ### Folds over the copies of a table -/

/-- A fold that keeps a property. -/
theorem foldl_inv {α : Type} {g : State → α → State} {P : State → Prop} {l : List α} (h : ∀ x ∈ l, ∀ v, P v → P (g v x)) {s : State} (hs : P s) : P (l.foldl g s) := by
  induction l generalizing s with
  | nil => exact hs
  | cons x l ih => exact ih (fun y hy => h y (List.mem_cons_of_mem _ hy)) (h x List.mem_cons_self s hs)

/-- A fold in which one copy's step makes `Q` of `P`, and the other copies' steps keep both. -/
theorem foldl_reaches {g : State → Nat → State} {P Q : State → Prop} {l : List Nat} {a : Nat} (ha : a ∈ l) (hnd : l.Nodup)
    (hbefore : ∀ x ∈ l, x ≠ a → ∀ v, P v → P (g v x)) (hat : ∀ v, P v → Q (g v a)) (hafter : ∀ x ∈ l, x ≠ a → ∀ v, Q v → Q (g v x)) {s : State} (hs : P s) :
    Q (l.foldl g s) := by
  induction l generalizing s with
  | nil => simp at ha
  | cons y l ih =>
    obtain ⟨hy, hnd⟩ := List.nodup_cons.mp hnd
    by_cases hya : y = a
    · subst hya
      exact foldl_inv (fun x hx => hafter x (List.mem_cons_of_mem _ hx) fun e => hy (e ▸ hx)) (hat s hs)
    · exact ih ((List.mem_cons.mp ha).resolve_left fun e => hya e.symm) hnd (fun x hx => hbefore x (List.mem_cons_of_mem _ hx)) (fun x hx => hafter x (List.mem_cons_of_mem _ hx))
        (hbefore y List.mem_cons_self hya s hs)

theorem nodup_maskList (m n : Nat) : (maskList m n).Nodup := List.Nodup.filter _ List.nodup_range

/-! ### The words of one converter (R130–R141) -/

/-- The words of row `r` of the converters' table, ADCs at 0 to 3 and DACs at 4 to 7, are as they were. -/
def ConvRow (r : Nat) (s t : State) : Prop := WordsKept (0x100000 + 0x1000 * r) (0x101000 + 0x1000 * r) s t

/-- A field of the rows from `b` on. -/
def Field.inRows (f : Field) (b j : Nat) : Prop := f.stride = 0x1000 ∧ 0x100000 + 0x1000 * b ≤ f.base ∧ f.base + f.sub * j < 0x101000 + 0x1000 * b

namespace ConvRow
variable {r : Nat} {s t u : State}

theorem refl (r : Nat) (s : State) : ConvRow r s s := WordsKept.refl _ _ s
theorem trans (h : ConvRow r s t) (k : ConvRow r t u) : ConvRow r s u := WordsKept.trans h k
theorem of_regs (h : t.regs = s.regs) : ConvRow r s t := WordsKept.of_regs h

theorem set (h : ConvRow r s t) {f : Field} {v x j : Nat} (b : Nat) (hf : f.inRows b j) (hx : x + b ≠ r) : ConvRow r s (t.set f v x j) := by
  obtain ⟨hs, hlo, hhi⟩ := hf
  refine WordsKept.set h ?_
  unfold Field.addr
  rw [hs]
  omega

theorem bump (h : ConvRow r s t) {c : Ctr} {x n : Nat} (b : Nat) (hc : c.stride = 0x1000 ∧ 0x100000 + 0x1000 * b ≤ c.base ∧ c.base + 4 < 0x101000 + 0x1000 * b) (hx : x + b ≠ r) :
    ConvRow r s (t.bump c x 0 n) := by
  obtain ⟨hs, hlo, hhi⟩ := hc
  refine WordsKept.bump h fun a ha => ?_
  have haddr : a = c.addr x 0 ∨ a = c.addr x 0 + 4 := by
    unfold Ctr.wordsOf at ha
    split at ha <;> simp at ha <;> tauto
  unfold Ctr.addr at haddr
  rw [hs] at haddr
  omega

theorem log (h : ConvRow r s t) (wb type : Nat) (d : List Byte) : ConvRow r s (t.log wb type d) := WordsKept.log h wb type d

theorem ite {c : Prop} [Decidable c] (h : ConvRow r s t) (k : ConvRow r s u) : ConvRow r s (if c then t else u) := by
  split
  · exact h
  · exact k

theorem foldl {α : Type} {f : State → α → State} {l : List α} (h : ∀ x ∈ l, ∀ v, ConvRow r v (f v x)) (s : State) : ConvRow r s (l.foldl f s) :=
  WordsKept.foldl h (refl r s)

theorem get (h : ConvRow r s t) (hr : r < 8) (f : Field) (x j b : Nat) (hf : f.inRows b j) (hx : x + b = r) : t.get f x j = s.get f x j := by
  obtain ⟨hs, hlo, hhi⟩ := hf
  have haddr : 0x100000 + 0x1000 * r ≤ f.addr x j ∧ f.addr x j < 0x101000 + 0x1000 * r := by
    unfold Field.addr
    rw [hs]
    omega
  refine WordsKept.get h f x j haddr fun hq => ?_
  have : ∀ a ∈ squelchWords, a < 0x100000 ∨ 0x108000 ≤ a := by decide
  have := this _ hq
  omega

end ConvRow

/-! ### Work on one ADC -/

/-- From `s` to `t` work was done on ADC `a`: the words of the other converters, the other ADCs, mailboxes, time and the mode are as they were. -/
structure AdcStep (a : Nat) (s t : State) : Prop where
  rows : ∀ r, r ≠ a → ConvRow r s t
  adc : ∀ b, b ≠ a → t.adc b = s.adc b
  rest : (t.clock, t.mbs, t.conv.fg, t.mode) = (s.clock, s.mbs, s.conv.fg, s.mode)

namespace AdcStep
variable {a : Nat} {s t u : State}

theorem clock (h : AdcStep a s t) : t.clock = s.clock := congrArg (fun x => x.1) h.rest
theorem mbs (h : AdcStep a s t) : t.mbs = s.mbs := congrArg (fun x => x.2.1) h.rest
theorem fg (h : AdcStep a s t) : t.conv.fg = s.conv.fg := congrArg (fun x => x.2.2.1) h.rest
theorem mode (h : AdcStep a s t) : t.mode = s.mode := congrArg (fun x => x.2.2.2) h.rest

theorem refl (a : Nat) (s : State) : AdcStep a s s := ⟨fun r _ => .refl r s, fun _ _ => rfl, rfl⟩

theorem trans (h : AdcStep a s t) (k : AdcStep a t u) : AdcStep a s u :=
  ⟨fun r hr => (h.rows r hr).trans (k.rows r hr), fun b hb => (k.adc b hb).trans (h.adc b hb), k.rest.trans h.rest⟩

/-- Only registers and the log differ, and the word of the mode does not. -/
theorem of_regsLogs (h : RegsLogs s t) (hrows : ∀ r, r ≠ a → ConvRow r s t) (hm : t.mode = s.mode) : AdcStep a s t := by
  refine ⟨hrows, fun _ _ => h.keeps (fun z => z.adc _) fun _ _ _ => rfl, ?_⟩
  rw [hm, h.keeps State.clock fun _ _ _ => rfl, h.keeps State.mbs fun _ _ _ => rfl, h.keeps (fun z => z.conv.fg) fun _ _ _ => rfl]

theorem mode_of_reg (h : t.reg 0x124 = s.reg 0x124) : t.mode = s.mode := by
  unfold State.mode State.get
  rw [show Reg.MODE_STATUS_MODE.addr 0 0 = 0x124 from rfl, h]

theorem set (h : AdcStep a s t) {f : Field} {v j : Nat} (hf : f.inRows 0 j) : AdcStep a s (t.set f v a j) :=
  h.trans <| of_regsLogs (regsLogs_set _ _ _ _ _) (fun r hr => (ConvRow.refl r t).set 0 hf (by omega)) <| mode_of_reg <| reg_set_ne _ _ _ _ _ (by
    obtain ⟨hs, hlo, hhi⟩ := hf
    unfold Field.addr
    omega)

theorem bump (h : AdcStep a s t) {c : Ctr} {n : Nat} (hc : c.stride = 0x1000 ∧ 0x100000 + 0x1000 * 0 ≤ c.base ∧ c.base + 4 < 0x101000 + 0x1000 * 0) :
    AdcStep a s (t.bump c a 0 n) :=
  h.trans <| of_regsLogs (regsLogs_bump _ _ _ _ _) (fun r hr => (ConvRow.refl r t).bump 0 hc (by omega)) <| mode_of_reg <| reg_bump_ne _ _ _ _ _ fun hm => by
    have haddr : 0x100000 ≤ c.addr a 0 := by unfold Ctr.addr; omega
    unfold Ctr.wordsOf at hm
    split at hm
    · rw [List.mem_singleton] at hm
      omega
    · rw [List.mem_pair] at hm
      omega

theorem log (h : AdcStep a s t) (wb type : Nat) (d : List Byte) : AdcStep a s (t.log wb type d) :=
  h.trans <| of_regsLogs (regsLogs_log _ _ _ _) (fun r _ => (ConvRow.refl r t).log _ _ _) <| mode_of_reg <| log_reg_ne _ _ _ _ (by decide) (by decide)

theorem calOk (h : AdcStep a s t) (v : Nat) : AdcStep a s (t.set Reg.MODE_STATUS_CAL_OK v) :=
  h.trans <| of_regsLogs (regsLogs_set _ _ _ _ _) (fun r _ => WordsKept.set (WordsKept.refl _ _ t) (.inl (by
    have : Reg.MODE_STATUS_CAL_OK.addr 0 0 = 0x124 := rfl
    omega))) (get_set_ne _ _ _ _ _ _ _ _ (by decide) (by decide))

theorem setAdc (h : AdcStep a s t) (x : AdcState) : AdcStep a s (t.setAdc a x) :=
  h.trans ⟨fun _ _ => .of_regs rfl, fun _ hb => tget_tput_ne _ _ _ _ hb, rfl⟩

theorem ite {c : Prop} [Decidable c] (h : AdcStep a s t) (k : AdcStep a s u) : AdcStep a s (if c then t else u) := by
  split
  · exact h
  · exact k

theorem foldl {α : Type} {f : State → α → State} {l : List α} (h : ∀ x ∈ l, ∀ v, AdcStep a v (f v x)) (s : State) : AdcStep a s (l.foldl f s) := by
  induction l generalizing s with
  | nil => exact .refl a s
  | cons x l ih => exact (h x List.mem_cons_self s).trans (ih (fun y hy => h y (List.mem_cons_of_mem _ hy)) _)

end AdcStep

theorem adc_setAdc (s : State) (a : Nat) (x : AdcState) : (s.setAdc a x).adc a = x := tget_tput_self _ _ _ _

theorem startQueued_step (s : State) (a : Nat) : AdcStep a s (s.startQueued a) := by
  have h1 := (((AdcStep.refl a s).setAdc { s.adc a with rotLeft := some s.adcPositions }).set (f := Reg.ADC_STATUS_REQ_QUEUED) (v := 0) (j := 0) (by unfold Field.inRows; decide)).set
    (f := Reg.ADC_STATUS_REQ_RUNNING) (v := 1) (j := 0) (by unfold Field.inRows; decide)
  unfold State.startQueued State.startStep
  exact .ite (h1.setAdc _) h1

/-- A rotation that starts at once (R115, R116). -/
theorem startQueued_starts (s : State) (a : Nat) :
    ((s.startQueued a).adc a).rotLeft = some s.adcPositions ∧ (s.startQueued a).flag Reg.ADC_STATUS_REQ_RUNNING a = true := by
  have hadc : ∀ (u : State) (x : AdcState), (u.setAdc a x).flag Reg.ADC_STATUS_REQ_RUNNING a = u.flag Reg.ADC_STATUS_REQ_RUNNING a := fun _ _ => rfl
  have hrun : ∀ u : State, (u.set Reg.ADC_STATUS_REQ_RUNNING 1 a).flag Reg.ADC_STATUS_REQ_RUNNING a = true := fun u =>
    (flag_set_self _ _ _ _ _ (by decide)).trans rfl
  have hleft : ((((s.setAdc a { s.adc a with rotLeft := some s.adcPositions }).set Reg.ADC_STATUS_REQ_QUEUED 0 a).set Reg.ADC_STATUS_REQ_RUNNING 1 a).adc a).rotLeft =
      some s.adcPositions := congrArg AdcState.rotLeft (adc_setAdc s a _)
  unfold State.startQueued State.startStep
  dsimp only
  split
  · exact ⟨(congrArg AdcState.rotLeft (adc_setAdc _ a _)).trans hleft, (hadc _ _).trans (hrun _)⟩
  · exact ⟨hleft, hrun _⟩

theorem putMap_step (s : State) (a : Nat) (m : List Nat) (spare : Option Nat) : AdcStep a s (s.putMap a m spare) := by
  unfold State.putMap State.setSliceByte
  have hbytes := AdcStep.foldl (a := a) (l := List.range 65)
    (f := fun s k => s.set Reg.SLICE_MAP_BYTES (putBits (s.get Reg.SLICE_MAP_BYTES a (k / 4)) (8 * (k % 4)) 8 (m.getD k 0x80)) a (k / 4))
    (fun k hk v => (AdcStep.refl a v).set (by
      have := List.mem_range.mp hk
      exact ⟨rfl, by decide, by simp only [Reg.SLICE_MAP_BYTES]; omega⟩)) s
  exact (hbytes.set (by unfold Field.inRows; decide)).set (by unfold Field.inRows; decide)

theorem abandonCal_step (s : State) (a : Nat) : AdcStep a s (s.abandonCal a) := by
  unfold State.abandonCal
  exact (((AdcStep.refl a s).setAdc _).set (by unfold Field.inRows; decide)).set (by unfold Field.inRows; decide)

theorem powerMap_step (s : State) (a : Nat) : AdcStep a s (s.powerMap a) := by
  unfold State.powerMap
  exact .ite (.refl a s) (((putMap_step _ _ _ _).set (by unfold Field.inRows; decide)).set (by unfold Field.inRows; decide))

theorem fgAdcDone_step (s : State) (a : Nat) (f : FgAdc) (change : Bool) : AdcStep a s (s.fgAdcDone a f change) := by
  have hfail := (((AdcStep.refl a s).set (f := Reg.ADC_EVENTS_FG_FAIL) (v := 1) (j := 0) (by unfold Field.inRows; decide)).bump (c := Cnt.FG_FAILS) (n := 1) (by decide))
  unfold State.fgAdcDone State.fgMap
  exact .ite (((AdcStep.refl a s).setAdc _).set (by unfold Field.inRows; decide)) (.ite (hfail.calOk _) hfail)

/-! ### Background steps (R107–R112) -/

theorem stepFailure_none (r : Residual) (c : SliceCal) :
    stepFailure r c = none ↔ r.offset ≤ 100 ∧ r.gain ≤ 1000 ∧ r.timing ≤ 20 ∧ r.bandwidth ≤ 2000 ∧ atRangeEnd c = false := by
  unfold stepFailure
  by_cases h1 : 100 < r.offset
  · simp [h1]
  · by_cases h2 : 1000 < r.gain
    · simp [h1, h2]
    · by_cases h3 : 20 < r.timing
      · simp [h1, h2, h3]
      · by_cases h4 : 2000 < r.bandwidth
        · simp [h1, h2, h3, h4]
        · cases h5 : atRangeEnd c with
          | true => simp [h1, h2, h3, h4]
          | false => simp [h1, h2, h3, h4]; omega

theorem startStep_phase (s : State) (a : Nat) : (s.startStep a).stepPhase a = 1 := by
  have h : tget {} (s.startStep a).conv.adcs a = { s.adc a with step := some ⟨s.clock, s.get Reg.ADC_STATUS_POS a, none⟩, lastT0 := s.clock } := tget_tput_self _ _ _ _
  unfold State.stepPhase
  rw [h]
  exact if_pos (Nat.lt_add_of_pos_right (by decide))

/-- The third failure in a row ends the run: the spare is faulty (R112). -/
theorem spareFaulty_touch (s : State) {a : Nat} (ha : a < 4) : Touch [Reg.ADC_EVENTS_SLICE_FAULTY.patch 4] s (s.spareFaulty a) := by
  have hadc : ∀ (v : State) (x : AdcState), Touch [Reg.ADC_EVENTS_SLICE_FAULTY.patch 4] v (v.setAdc a x) := fun _ _ => .of_regs rfl
  unfold State.spareFaulty
  exact (((Touch.refl _ s).setRow ha (by decide)).log _ _ _).trans (hadc _ _)

/-- The counting of a failed step (R111). -/
def State.countFail (s : State) (a : Nat) (d : List Byte) : State := ((s.bump Cnt.CAL_FAILS a).set Reg.ADC_EVENTS_CAL_FAIL 1 a).log wbAdc 0x10 d

theorem countFail_counts (s : State) {a : Nat} (ha : a < 4) (d : List Byte) :
    Counted Cnt.CAL_FAILS a 0 1 s (s.countFail a d) ∧ (s.countFail a d).flag Reg.ADC_EVENTS_CAL_FAIL a = true := by
  have hlog : Touch [] ((s.bump Cnt.CAL_FAILS a).set Reg.ADC_EVENTS_CAL_FAIL 1 a) (s.countFail a d) := (Touch.refl _ _).log _ _ _
  have hset : Touch [Reg.ADC_EVENTS_CAL_FAIL.patch 4] (s.bump Cnt.CAL_FAILS a) ((s.bump Cnt.CAL_FAILS a).set Reg.ADC_EVENTS_CAL_FAIL 1 a) := (Touch.refl _ _).setRow ha (by decide)
  exact ⟨hlog.counted (hset.counted (counted_bump _ _ _ _ _ (.inl rfl)) ha (by decide)) ha (by decide), (hlog.flagRow _ ha (by decide)).trans ((flag_set_self _ _ _ _ _ (by decide)).trans rfl)⟩

theorem countFail_touch (s : State) {a : Nat} (ha : a < 4) (d : List Byte) : Touch (Reg.ADC_EVENTS_CAL_FAIL.patch 4 :: Cnt.CAL_FAILS.patches) s (s.countFail a d) :=
  (((Touch.refl _ s).bumpRow ha (by decide)).setRow ha (by decide)).log _ _ _

/-- What a failed step leaves of an ADC whose spare is slice `k` (R111, R143). -/
def AdcState.failed (x : AdcState) (k : Nat) (cal : SliceCal) : AdcState :=
  { x with step := none, failRun := x.failRun + 1, slices := tput {} x.slices k { cal with passedAt := (tget {} x.slices k).passedAt } }

/-- A step ends where no request waits (R115). -/
theorem endStep_idle {s : State} {a : Nat} (hq : s.flag Reg.ADC_STATUS_REQ_QUEUED a = false) : s.endStep a = s.setAdc a { s.adc a with step := none } := by
  have hq' : ∀ x, (s.setAdc a x).flag Reg.ADC_STATUS_REQ_QUEUED a = false := fun _ => hq
  unfold State.endStep
  dsimp only
  rw [hq', Bool.false_and, if_neg (by decide)]

/-- The run of failures of the ADC `x` with one more, in the state `u` that has counted it (R112). -/
def State.failRun (u : State) (a : Nat) (third : Prop) [Decidable third] (x : AdcState) : State :=
  if third then (u.setAdc a x).spareFaulty a else u.setAdc a x

theorem failRun_touch (u : State) {a : Nat} (ha : a < 4) (third : Prop) [Decidable third] (x : AdcState) :
    Touch [Reg.ADC_EVENTS_SLICE_FAULTY.patch 4] u (u.failRun a third x) := by
  have hadc : Touch [Reg.ADC_EVENTS_SLICE_FAULTY.patch 4] u (u.setAdc a x) := .of_regs rfl
  unfold State.failRun
  exact .ite (fun _ => hadc.trans (spareFaulty_touch _ ha)) fun _ => hadc

theorem failRun_adc (u : State) (a : Nat) (third : Prop) [Decidable third] (x : AdcState) :
    ((u.failRun a third x).adc a).failRun = if third then 0 else x.failRun := by
  unfold State.failRun
  split
  · exact congrArg AdcState.failRun (adc_setAdc _ a _)
  · exact congrArg AdcState.failRun (adc_setAdc _ a _)

theorem failStep_eq (s : State) (a : Nat) (st : CalStep) (cal : SliceCal) (reason : Nat) : ∃ d, s.failStep a st cal reason =
    ((s.countFail a d).failRun a ((s.adc a).failRun + 1 ≥ 3) ((s.adc a).failed (s.get Reg.ADC_STATUS_SPARE a) cal)).endStep a := ⟨_, rfl⟩

/-- A failed step, with no request that waits (R111, R112, R115). -/
theorem failStep_fails (s : State) {a : Nat} (ha : a < 4) (st : CalStep) (cal : SliceCal) (reason : Nat) (hq : s.flag Reg.ADC_STATUS_REQ_QUEUED a = false) :
    ((s.failStep a st cal reason).adc a).step = none ∧ (s.failStep a st cal reason).flag Reg.ADC_EVENTS_CAL_FAIL a = true ∧
      Counted Cnt.CAL_FAILS a 0 1 s (s.failStep a st cal reason) ∧
      ((s.failStep a st cal reason).adc a).failRun = if (s.adc a).failRun + 1 ≥ 3 then 0 else (s.adc a).failRun + 1 := by
  obtain ⟨d, hd⟩ := failStep_eq s a st cal reason
  obtain ⟨hcount, hev⟩ := countFail_counts s ha d
  have hrun := failRun_touch (s.countFail a d) ha ((s.adc a).failRun + 1 ≥ 3) ((s.adc a).failed (s.get Reg.ADC_STATUS_SPARE a) cal)
  rw [hd, endStep_idle ((hrun.flagRow _ ha (by decide)).trans (((countFail_touch s ha d).flagRow _ ha (by decide)).trans hq)), adc_setAdc]
  refine ⟨rfl, ?_, ?_, ?_⟩
  · rw [setAdc_flag, hrun.flagRow _ ha (by decide), hev]
  · exact counted_of_count (hrun.counted hcount ha (by decide)) rfl (setAdc_count _ _ _ _ _ _)
  · exact failRun_adc _ _ _ _

/-! ### CAL_RUN (R115, R125) -/

/-- CAL_RUN of one converter: its rotation starts, or queues. -/
def State.runQueued (s0 : State) (s : State) (a : Nat) : State :=
  if (s0.adc a).step.isNone && (s0.adc a).rotLeft.isNone then s.startQueued a else s.set Reg.ADC_STATUS_REQ_QUEUED 1 a

theorem runQueued_step (s0 s : State) (a : Nat) : AdcStep a s (s0.runQueued s a) := by
  unfold State.runQueued
  exact .ite (startQueued_step s a) ((AdcStep.refl a s).set (by unfold Field.inRows; decide))

theorem runQueued_mbs (s0 : State) (l : List Nat) (s : State) : (l.foldl s0.runQueued s).mbs = s.mbs :=
  foldl_keeps State.mbs (fun v a => (runQueued_step s0 v a).mbs) l s

theorem adcPositions_of_mode {s t : State} (h : t.mode = s.mode) : t.adcPositions = s.adcPositions := by
  unfold State.adcPositions
  rw [h]

/-- A converter of the mask that is idle starts its rotation. -/
theorem runQueued_starts (s0 : State) (l : List Nat) (hnd : l.Nodup) (s : State) {a : Nat} (ha : a ∈ l) (ha4 : a < 4)
    (hidle : ((s0.adc a).step.isNone && (s0.adc a).rotLeft.isNone) = true) :
    ((l.foldl s0.runQueued s).adc a).rotLeft = some s.adcPositions ∧ (l.foldl s0.runQueued s).flag Reg.ADC_STATUS_REQ_RUNNING a = true := by
  refine foldl_reaches (g := s0.runQueued) (P := fun v => v.adcPositions = s.adcPositions)
    (Q := fun v => (v.adc a).rotLeft = some s.adcPositions ∧ v.flag Reg.ADC_STATUS_REQ_RUNNING a = true) ha hnd ?_ ?_ ?_ rfl
  · exact fun x _ _ v hv => (adcPositions_of_mode (runQueued_step s0 v x).mode).trans hv
  · intro v hv
    obtain ⟨hleft, hrun⟩ := startQueued_starts v a
    unfold State.runQueued
    rw [if_pos hidle]
    exact ⟨hleft.trans (congrArg some hv), hrun⟩
  · rintro x - hx v ⟨hleft, hrun⟩
    have hstep := runQueued_step s0 v x
    refine ⟨by rw [hstep.adc a (Ne.symm hx)]; exact hleft, ?_⟩
    rw [flag_eq, (hstep.rows a (Ne.symm hx)).get (by omega) _ a 0 0 (by unfold Field.inRows; decide) rfl]
    exact hrun

theorem ConvRow.count {r : Nat} {s t : State} (h : ConvRow r s t) (hr : r < 8) (c : Ctr) (x b : Nat)
    (hc : c.stride = 0x1000 ∧ 0x100000 + 0x1000 * b ≤ c.base ∧ c.base + 4 < 0x101000 + 0x1000 * b) (hw : c.words = 1) (hx : x + b = r) : t.count c x = s.count c x := by
  obtain ⟨hs, hlo, hhi⟩ := hc
  have haddr : 0x100000 + 0x1000 * r ≤ c.addr x 0 ∧ c.addr x 0 < 0x101000 + 0x1000 * r := by
    unfold Ctr.addr
    rw [hs]
    omega
  have hq : c.addr x 0 ∉ squelchWords := fun hq => by
    have : ∀ a ∈ squelchWords, a < 0x100000 ∨ 0x108000 ≤ a := by decide
    have := this _ hq
    omega
  unfold State.count
  dsimp only
  rw [if_pos hw, if_pos hw, h _ haddr.1 haddr.2 hq]

/-! ### Work on one DAC -/

/-- From `s` to `t` work was done on DAC `d`: the words of the other converters, the ADCs, mailboxes and time are as they were. -/
structure DacStep (d : Nat) (s t : State) : Prop where
  rows : ∀ r, r ≠ d + 4 → ConvRow r s t
  rest : (t.clock, t.mbs, t.conv.adcs) = (s.clock, s.mbs, s.conv.adcs)

namespace DacStep
variable {d : Nat} {s t u : State}

theorem clock (h : DacStep d s t) : t.clock = s.clock := congrArg (fun x => x.1) h.rest
theorem mbs (h : DacStep d s t) : t.mbs = s.mbs := congrArg (fun x => x.2.1) h.rest
theorem adc (h : DacStep d s t) (a : Nat) : t.adc a = s.adc a := congrArg (fun x : Nat × Tab Mailbox × Tab AdcState => tget ({} : AdcState) x.2.2 a) h.rest

theorem refl (d : Nat) (s : State) : DacStep d s s := ⟨fun r _ => .refl r s, rfl⟩

theorem of_regsLogs (h : DacStep d s t) (k : RegsLogs t u) (hrows : ∀ r, r ≠ d + 4 → ConvRow r t u) : DacStep d s u :=
  ⟨fun r hr => (h.rows r hr).trans (hrows r hr), (k.keeps (fun z => (z.clock, z.mbs, z.conv.adcs)) fun _ _ _ => rfl).trans h.rest⟩

theorem set (h : DacStep d s t) {f : Field} {v j : Nat} (hf : f.inRows 4 j) : DacStep d s (t.set f v d j) :=
  h.of_regsLogs (regsLogs_set _ _ _ _ _) fun r hr => (ConvRow.refl r t).set 4 hf (Ne.symm hr)

theorem bump (h : DacStep d s t) {c : Ctr} {n : Nat} (hc : c.stride = 0x1000 ∧ 0x100000 + 0x1000 * 4 ≤ c.base ∧ c.base + 4 < 0x101000 + 0x1000 * 4) :
    DacStep d s (t.bump c d 0 n) := h.of_regsLogs (regsLogs_bump _ _ _ _ _) fun r hr => (ConvRow.refl r t).bump 4 hc (Ne.symm hr)

end DacStep

/-! ### CAL_FOREGROUND and its end (R117–R120, R127, R128) -/

/-- CAL_FOREGROUND of one ADC that the mask names. -/
def State.fgStartAdc (mask : Nat) (s : State) (a : Nat) : State :=
  if bitsOf mask a 1 = 1 then (((s.abandonCal a).powerMap a).setAdc a { ((s.abandonCal a).powerMap a).adc a with change := none }).set Reg.ADC_STATUS_STATE 1 a else s

/-- CAL_FOREGROUND of one DAC that the mask names. -/
def State.fgStartDac (mask : Nat) (s : State) (d : Nat) : State :=
  if bitsOf mask d 1 = 1 then
    if (s.set Reg.DAC_STATUS_STATE 1 d).mode = 2 then ((s.set Reg.DAC_STATUS_STATE 1 d).set Reg.DAC_STATUS_MUX_ERR 0 d).set Reg.DAC_STATUS_TIMING_OK 1 d
    else s.set Reg.DAC_STATUS_STATE 1 d
  else s

theorem startFg_eq (s : State) (am dm : Nat) (mb : Option Nat) : ∃ c : ConvState,
    s.startFg am dm mb = { (List.range 4).foldl (State.fgStartDac dm) ((List.range 4).foldl (State.fgStartAdc am) s) with conv := c } ∧ c.fg = some ⟨am, dm, s.clock, mb⟩ :=
  ⟨_, rfl, rfl⟩

theorem fgStartAdc_step (mask : Nat) (s : State) (a : Nat) : AdcStep a s (State.fgStartAdc mask s a) := by
  unfold State.fgStartAdc
  exact .ite ((((abandonCal_step s a).trans (powerMap_step _ a)).setAdc _).set (by unfold Field.inRows; decide)) (.refl a s)

theorem fgStartDac_step (mask : Nat) (s : State) (d : Nat) : DacStep d s (State.fgStartDac mask s d) := by
  have hstate := (DacStep.refl d s).set (f := Reg.DAC_STATUS_STATE) (v := 1) (j := 0) (by unfold Field.inRows; decide)
  unfold State.fgStartDac
  split
  · split
    · exact (hstate.set (by unfold Field.inRows; decide)).set (by unfold Field.inRows; decide)
    · exact hstate
  · exact .refl d s

/-- The register words of the ADCs are as they were after work on DACs. -/
theorem dacFold_adcRow {g : State → Nat → State} (hg : ∀ v d, DacStep d v (g v d)) {a : Nat} (ha : a < 4) (s : State) : ConvRow a s ((List.range 4).foldl g s) :=
  ConvRow.foldl (fun d _ v => (hg v d).rows a (by omega)) s

/-- Each ADC that CAL_FOREGROUND names is calibrating (R117, R121). -/
theorem fgStartAdc_calibrates (mask : Nat) (s : State) {a : Nat} (ha : a < 4) (hbit : bitsOf mask a 1 = 1) :
    ((List.range 4).foldl (State.fgStartAdc mask) s).get Reg.ADC_STATUS_STATE a = 1 := by
  refine foldl_reaches (P := fun _ => True) (Q := fun v => v.get Reg.ADC_STATUS_STATE a = 1) (List.mem_range.mpr ha) List.nodup_range (fun _ _ _ _ _ => trivial)
    (fun v _ => ?_) (fun x _ hx v hv => ?_) trivial
  · unfold State.fgStartAdc
    rw [if_pos hbit, get_set_self _ _ _ _ _ (by decide)]
    rfl
  · rw [((fgStartAdc_step mask v x).rows a (Ne.symm hx)).get (by omega) _ a 0 0 (by unfold Field.inRows; decide) rfl, hv]

/-- Each DAC that CAL_FOREGROUND names is calibrating. -/
theorem fgStartDac_calibrates (mask : Nat) (s : State) {d : Nat} (hd : d < 4) (hbit : bitsOf mask d 1 = 1) :
    ((List.range 4).foldl (State.fgStartDac mask) s).get Reg.DAC_STATUS_STATE d = 1 := by
  refine foldl_reaches (P := fun _ => True) (Q := fun v => v.get Reg.DAC_STATUS_STATE d = 1) (List.mem_range.mpr hd) List.nodup_range (fun _ _ _ _ _ => trivial)
    (fun v _ => ?_) (fun x _ hx v hv => ?_) trivial
  · have hstate : (v.set Reg.DAC_STATUS_STATE 1 d).get Reg.DAC_STATUS_STATE d = 1 := (get_set_self _ _ _ _ _ (by decide)).trans rfl
    unfold State.fgStartDac
    rw [if_pos hbit]
    split
    · rw [get_set_ne _ _ _ _ _ _ _ _ (by decide) (.inr (by decide)), get_set_ne _ _ _ _ _ _ _ _ (by decide) (.inr (by decide)), hstate]
    · exact hstate
  · rw [((fgStartDac_step mask v x).rows (d + 4) (by omega)).get (by omega) _ d 0 4 (by unfold Field.inRows; decide) rfl, hv]

theorem startFg_mbs (s : State) (am dm : Nat) (mb : Option Nat) : (s.startFg am dm mb).mbs = s.mbs := by
  obtain ⟨c, hc, -⟩ := startFg_eq s am dm mb
  rw [hc]
  exact (foldl_keeps State.mbs (fun v d => (fgStartDac_step dm v d).mbs) _ _).trans (foldl_keeps State.mbs (fun v a => (fgStartAdc_step am v a).mbs) _ _)

theorem startFg_fg (s : State) (am dm : Nat) (mb : Option Nat) : (s.startFg am dm mb).conv.fg = some ⟨am, dm, s.clock, mb⟩ := by
  obtain ⟨c, hc, hfg⟩ := startFg_eq s am dm mb
  rw [hc]
  exact hfg

/-- CAL_FOREGROUND leaves each named converter calibrating. -/
theorem startFg_calibrates (s : State) (am dm : Nat) (mb : Option Nat) :
    (∀ a, a < 4 → bitsOf am a 1 = 1 → (s.startFg am dm mb).get Reg.ADC_STATUS_STATE a = 1) ∧ (∀ d, d < 4 → bitsOf dm d 1 = 1 → (s.startFg am dm mb).get Reg.DAC_STATUS_STATE d = 1) := by
  obtain ⟨c, hc, -⟩ := startFg_eq s am dm mb
  have hconv : ∀ (u : State) (f : Field) (i : Nat), ({ u with conv := c } : State).get f i = u.get f i := fun _ _ _ => rfl
  rw [hc]
  refine ⟨fun a ha hbit => ?_, fun d hd hbit => ?_⟩
  · rw [hconv, (dacFold_adcRow (fgStartDac_step dm) ha _).get (by omega) _ a 0 0 (by unfold Field.inRows; decide) rfl]
    exact fgStartAdc_calibrates am s ha hbit
  · rw [hconv]
    exact fgStartDac_calibrates dm _ hd hbit

/-- The end of a foreground calibration of one ADC, back in the state of number `back`. -/
def State.fgEndAdc (fg : FgCal) (adcs : List FgAdc) (change : Bool) (back : Nat) (s : State) (a : Nat) : State :=
  if bitsOf fg.adcMask a 1 = 1 then
    ((s.fgAdcDone a (adcs.getD a ⟨[], []⟩) change).setAdc a { (s.fgAdcDone a (adcs.getD a ⟨[], []⟩) change).adc a with lastT0 := s.clock }).set Reg.ADC_STATUS_STATE back a
  else s

/-- The end of a foreground calibration of one DAC. -/
def State.fgEndDac (fg : FgCal) (dacs : List FgDac) (back : Nat) (s : State) (d : Nat) : State :=
  if bitsOf fg.dacMask d 1 = 1 then (s.fgDacDone d (dacs.getD d ⟨[], [26]⟩)).set Reg.DAC_STATUS_STATE back d else s

theorem fgEndAdc_step (fg : FgCal) (adcs : List FgAdc) (change : Bool) (back : Nat) (s : State) (a : Nat) : AdcStep a s (State.fgEndAdc fg adcs change back s a) := by
  unfold State.fgEndAdc
  exact .ite (((fgAdcDone_step s a _ change).setAdc _).set (by unfold Field.inRows; decide)) (.refl a s)

theorem fgDacDone_step (s : State) (d : Nat) (f : FgDac) : DacStep d s (s.fgDacDone d f) := by
  unfold State.fgDacDone
  split
  · have hconv : ∀ x, DacStep d s { s with conv := { s.conv with dacTrims := x } } := fun _ => ⟨fun r _ => .of_regs rfl, rfl⟩
    exact (((hconv _).set (by unfold Field.inRows; decide)).set (by unfold Field.inRows; decide)).set (by unfold Field.inRows; decide)
  · exact ((DacStep.refl d s).set (by unfold Field.inRows; decide)).bump (by decide)

theorem fgEndDac_step (fg : FgCal) (dacs : List FgDac) (back : Nat) (s : State) (d : Nat) : DacStep d s (State.fgEndDac fg dacs back s d) := by
  unfold State.fgEndDac
  split
  · exact (fgDacDone_step s d _).set (by unfold Field.inRows; decide)
  · exact .refl d s

/-- What a foreground calibration that began its end in `s` leaves of ADC `a`. -/
def FgEnded (s : State) (a : Nat) (f : FgAdc) (back : Nat) (v : State) : Prop :=
  v.get Reg.ADC_STATUS_STATE a = back ∧ (v.adc a).lastT0 = s.clock ∧
    (s.adcPositions ≤ (fgPassing f).length → (v.adc a).change ≠ none ∧ v.flag Reg.ADC_EVENTS_FG_DONE a = true) ∧
    ((fgPassing f).length < s.adcPositions → Counted Cnt.FG_FAILS a 0 1 s v ∧ v.flag Reg.ADC_EVENTS_FG_FAIL a = true)

/-- The result of a foreground calibration on one ADC (R119, R120). -/
theorem fgAdcDone_shows (v : State) {a : Nat} (ha : a < 4) (f : FgAdc) (change : Bool) :
    (v.adcPositions ≤ (fgPassing f).length → ((v.fgAdcDone a f change).adc a).change ≠ none ∧ (v.fgAdcDone a f change).flag Reg.ADC_EVENTS_FG_DONE a = true) ∧
    ((fgPassing f).length < v.adcPositions → Counted Cnt.FG_FAILS a 0 1 v (v.fgAdcDone a f change) ∧ (v.fgAdcDone a f change).flag Reg.ADC_EVENTS_FG_FAIL a = true) := by
  unfold State.fgAdcDone
  refine ⟨fun h => ?_, fun h => ?_⟩
  · rw [if_pos h]
    unfold State.fgMap
    refine ⟨?_, (flag_set_self _ _ _ _ _ (by decide)).trans rfl⟩
    have hadc : ∀ (u : State) x, (u.set Reg.ADC_EVENTS_FG_DONE x a).adc a = u.adc a := fun _ _ => rfl
    rw [hadc, adc_setAdc]
    exact Option.some_ne_none _
  · have hset : Touch [Reg.ADC_EVENTS_FG_FAIL.patch 4] v (v.set Reg.ADC_EVENTS_FG_FAIL 1 a) := (Touch.refl _ v).setRow ha (by decide)
    have hbump : Touch Cnt.FG_FAILS.patches (v.set Reg.ADC_EVENTS_FG_FAIL 1 a) ((v.set Reg.ADC_EVENTS_FG_FAIL 1 a).bump Cnt.FG_FAILS a) := (Touch.refl _ _).bumpRow ha (by decide)
    have hok : Touch [Reg.MODE_STATUS_CAL_OK.patch] ((v.set Reg.ADC_EVENTS_FG_FAIL 1 a).bump Cnt.FG_FAILS a)
        (if change then ((v.set Reg.ADC_EVENTS_FG_FAIL 1 a).bump Cnt.FG_FAILS a).set Reg.MODE_STATUS_CAL_OK 0 else (v.set Reg.ADC_EVENTS_FG_FAIL 1 a).bump Cnt.FG_FAILS a) :=
      .ite (fun _ => (Touch.refl _ _).set0 (by decide)) fun _ => .refl _ _
    rw [if_neg (Nat.not_le.mpr h)]
    refine ⟨hok.counted (hset.counted_of (counted_bump _ _ _ _ _ (.inl rfl)) ha (by decide)) ha (by decide), ?_⟩
    rw [hok.flagRow _ ha (by decide), hbump.flagRow _ ha (by decide), flag_set_self _ _ _ _ _ (by decide)]
    rfl

theorem fgEndAdc_ends {s v : State} {a : Nat} (ha : a < 4) (fg : FgCal) (adcs : List FgAdc) (change : Bool) {back : Nat} (hback : back < 4) (hbit : bitsOf fg.adcMask a 1 = 1)
    (hclock : v.clock = s.clock) (hpos : v.adcPositions = s.adcPositions) (hcount : v.count Cnt.FG_FAILS a = s.count Cnt.FG_FAILS a) :
    FgEnded s a (adcs.getD a ⟨[], []⟩) back (State.fgEndAdc fg adcs change back v a) := by
  obtain ⟨hpass, hfail⟩ := fgAdcDone_shows v ha (adcs.getD a ⟨[], []⟩) change
  unfold State.fgEndAdc
  rw [if_pos hbit]
  generalize v.fgAdcDone a (adcs.getD a ⟨[], []⟩) change = u at hpass hfail ⊢
  have hset : ∀ w : State, Touch [Reg.ADC_STATUS_STATE.patch 4] w (w.set Reg.ADC_STATUS_STATE back a) := fun w => (Touch.refl _ w).setRow ha (by decide)
  have hadc : ∀ (w : State), (w.set Reg.ADC_STATUS_STATE back a).adc a = w.adc a := fun _ => rfl
  refine ⟨?_, ?_, fun h => ?_, fun h => ?_⟩
  · rw [get_set_self _ _ _ _ _ (by decide)]
    exact Nat.mod_eq_of_lt (hback.trans_le (by decide))
  · rw [hadc, adc_setAdc]
    exact hclock
  · obtain ⟨hch, hflag⟩ := hpass (hpos ▸ h)
    rw [hadc, adc_setAdc, (hset _).flagRow _ ha (by decide), setAdc_flag]
    exact ⟨hch, hflag⟩
  · obtain ⟨hc, hflag⟩ := hfail (hpos ▸ h)
    rw [(hset _).flagRow _ ha (by decide), setAdc_flag]
    exact ⟨(hset _).counted (counted_of_count hc hcount (setAdc_count _ _ _ _ _ _)) ha (by decide), hflag⟩

/-- Work on other converters leaves what shows of ADC `a`. -/
theorem FgEnded.of_row {s v w : State} {a : Nat} (ha : a < 4) {f : FgAdc} {back : Nat} (h : FgEnded s a f back v) (hrow : ConvRow a v w) (hadc : w.adc a = v.adc a) :
    FgEnded s a f back w := by
  have hget : ∀ g : Field, g.inRows 0 0 → w.get g a = v.get g a := fun g hg => hrow.get (by omega) g a 0 0 hg rfl
  obtain ⟨hstate, hlast, hpass, hfail⟩ := h
  unfold FgEnded
  rw [hget _ (by unfold Field.inRows; decide), hadc, flag_eq, flag_eq, hget _ (by unfold Field.inRows; decide), hget _ (by unfold Field.inRows; decide), ← flag_eq, ← flag_eq]
  exact ⟨hstate, hlast, hpass, fun hlt => ⟨counted_of_count (hfail hlt).1 rfl (hrow.count (by omega) _ a 0 (by decide) rfl rfl), (hfail hlt).2⟩⟩

/-- Each ADC of a foreground calibration, at its end. -/
theorem fgEndAdc_fold {s s0 : State} {a : Nat} (ha : a < 4) (fg : FgCal) (adcs : List FgAdc) (change : Bool) {back : Nat} (hback : back < 4) (hbit : bitsOf fg.adcMask a 1 = 1)
    (hclock : s0.clock = s.clock) (hpos : s0.adcPositions = s.adcPositions) (hcount : s0.count Cnt.FG_FAILS a = s.count Cnt.FG_FAILS a) :
    FgEnded s a (adcs.getD a ⟨[], []⟩) back ((List.range 4).foldl (State.fgEndAdc fg adcs change back) s0) := by
  refine foldl_reaches (P := fun v => v.clock = s.clock ∧ v.adcPositions = s.adcPositions ∧ v.count Cnt.FG_FAILS a = s.count Cnt.FG_FAILS a)
    (Q := FgEnded s a (adcs.getD a ⟨[], []⟩) back) (List.mem_range.mpr ha) List.nodup_range ?_ ?_ ?_ ⟨hclock, hpos, hcount⟩
  · rintro x - hx v ⟨h1, h2, h3⟩
    have hstep := fgEndAdc_step fg adcs change back v x
    exact ⟨hstep.clock.trans h1, (adcPositions_of_mode hstep.mode).trans h2, ((hstep.rows a (Ne.symm hx)).count (by omega) _ a 0 (by decide) rfl rfl).trans h3⟩
  · rintro v ⟨h1, h2, h3⟩
    exact fgEndAdc_ends ha fg adcs change hback hbit h1 h2 h3
  · rintro x - hx v hv
    have hstep := fgEndAdc_step fg adcs change back v x
    exact hv.of_row ha (hstep.rows a (Ne.symm hx)) (hstep.adc a (Ne.symm hx))

/-- Each DAC of a foreground calibration, at its end. -/
theorem fgEndDac_fold (s : State) {d : Nat} (hd : d < 4) (fg : FgCal) (dacs : List FgDac) {back : Nat} (hback : back < 4) (hbit : bitsOf fg.dacMask d 1 = 1) :
    ((List.range 4).foldl (State.fgEndDac fg dacs back) s).get Reg.DAC_STATUS_STATE d = back := by
  refine foldl_reaches (P := fun _ => True) (Q := fun v => v.get Reg.DAC_STATUS_STATE d = back) (List.mem_range.mpr hd) List.nodup_range (fun _ _ _ _ _ => trivial)
    (fun v _ => ?_) (fun x _ hx v hv => ?_) trivial
  · unfold State.fgEndDac
    rw [if_pos hbit, get_set_self _ _ _ _ _ (by decide)]
    exact Nat.mod_eq_of_lt (hback.trans_le (by decide))
  · rw [((fgEndDac_step fg dacs back v x).rows (d + 4) (by omega)).get (by omega) _ d 0 4 (by unfold Field.inRows; decide) rfl, hv]

/-- The end of a foreground calibration, before it is answered. -/
def State.fgEnded (fg : FgCal) (adcs : List FgAdc) (dacs : List FgDac) (s : State) : State :=
  let back := if fg.mb.isSome then 3 else 2
  (List.range 4).foldl (State.fgEndDac fg dacs back) ((List.range 4).foldl (State.fgEndAdc fg adcs s.sys.change.isSome back)
    (if s.sys.change.isSome then s.set Reg.MODE_STATUS_CAL_OK 1 else s))

theorem execFgCalDone_eq (adcs : List FgAdc) (dacs : List FgDac) {fg : FgCal} {s : State} (hfg : s.conv.fg = some fg) (hdue : fg.start + 520000000 ≤ s.clock) :
    ∃ (c : ConvState) (y : SysState), c.fg = none ∧ c.adcs = (s.fgEnded fg adcs dacs).conv.adcs ∧ execFgCalDone adcs dacs s = match fg.mb with
      | none => done s { s.fgEnded fg adcs dacs with conv := c, sys := y }
      | some mb => done s (({ s.fgEnded fg adcs dacs with conv := c, sys := y } : State).finish mb (s.fgReply fg adcs dacs)) := by
  unfold execFgCalDone
  rw [hfg]
  dsimp only
  rw [if_neg (show ¬ s.clock < fg.start + msT 40 from Nat.not_lt.mpr hdue)]
  exact ⟨{ (s.fgEnded fg adcs dacs).conv with fg := none }, _, rfl, rfl, rfl⟩

theorem fgEnded_shows (fg : FgCal) (adcs : List FgAdc) (dacs : List FgDac) (s : State) :
    (∀ a, a < 4 → bitsOf fg.adcMask a 1 = 1 → FgEnded s a (adcs.getD a ⟨[], []⟩) (if fg.mb.isSome then 3 else 2) (s.fgEnded fg adcs dacs)) ∧
    (∀ d, d < 4 → bitsOf fg.dacMask d 1 = 1 → (s.fgEnded fg adcs dacs).get Reg.DAC_STATUS_STATE d = if fg.mb.isSome then 3 else 2) ∧
    (s.fgEnded fg adcs dacs).mbs = s.mbs := by
  have hback : (if fg.mb.isSome then 3 else 2) < 4 := by split <;> decide
  have hok : AdcStep 8 s (if s.sys.change.isSome then s.set Reg.MODE_STATUS_CAL_OK 1 else s) := .ite ((AdcStep.refl 8 s).calOk 1) (.refl 8 s)
  unfold State.fgEnded
  dsimp only
  generalize (if s.sys.change.isSome then s.set Reg.MODE_STATUS_CAL_OK 1 else s) = s0 at hok ⊢
  generalize (if fg.mb.isSome then 3 else 2) = back at hback ⊢
  refine ⟨fun a ha hbit => ?_, fun d hd hbit => fgEndDac_fold _ hd fg dacs hback hbit, ?_⟩
  · exact (fgEndAdc_fold ha fg adcs _ hback hbit hok.clock (adcPositions_of_mode hok.mode) ((hok.rows a (by omega)).count (by omega) _ a 0 (by decide) rfl rfl)).of_row ha
      (dacFold_adcRow (fgEndDac_step fg dacs back) ha _) (foldl_keeps (fun v => v.adc a) (fun v d => (fgEndDac_step fg dacs back v d).adc a) _ _)
  · exact (foldl_keeps State.mbs (fun v d => (fgEndDac_step fg dacs back v d).mbs) _ _).trans
      ((foldl_keeps State.mbs (fun v a => (fgEndAdc_step fg adcs s.sys.change.isSome back v a).mbs) _ _).trans hok.mbs)

theorem FgEnded.of_touch {s v w : State} {a : Nat} (ha : a < 4) {f : FgAdc} {back : Nat} (h : FgEnded s a f back v) (ht : Touch [wordPatch 0x12014] v w) (hadc : w.adc a = v.adc a) :
    FgEnded s a f back w :=
  h.of_row ha (fun b hb1 hb2 hq => ht.reg b fun p hp hhas => by
    rcases List.mem_append.mp hp with hp | hp
    · obtain ⟨x, hx, rfl⟩ := List.mem_map.mp hp
      exact hq (has_wordPatch.mp hhas ▸ hx)
    · rw [List.mem_singleton.mp hp] at hhas
      have := has_wordPatch.mp hhas
      omega) hadc

theorem word_answered_code (m : Mailbox) (r : Reply) (hcode : r.code < 256) : ((m.answered r).word 0xFF).toNat % 256 = r.code := by
  rw [word_answered, if_pos rfl, BitVec.toNat_ofNat]
  omega

/-- The answer of CAL_RUN, in the words of the statement. -/
theorem calRun_reply (s : State) (as : List Nat) :
    (List.range 4).map (fun a => if as.contains a then (if (s.adc a).step.isNone && (s.adc a).rotLeft.isNone then (1 : Byte) else 2) else 0) =
      (List.range 4).map (fun a => if a ∈ as then (if (s.adc a).step = none ∧ (s.adc a).rotLeft = none then 1 else 2) else 0) := by
  refine List.map_congr_left fun a _ => if_congr List.contains_iff_mem (if_congr ?_ rfl rfl) rfl
  rw [Bool.and_eq_true, Option.isNone_iff_eq_none, Option.isNone_iff_eq_none]

/-- A measurement that ends in time is judged (R111). -/
theorem calStepMeasureEnd_judges {adc : Fin 4} {res : Residual} {cal : SliceCal} {st : CalStep} {s : State} (hst : (s.adc adc.val).step = some st) (hstaged : st.staged = none)
    (hdue : st.t0 + 12632100 ≤ s.clock) :
    (stepFailure res cal = none → execCalStepMeasureEnd adc res cal s = done s (s.setAdc adc.val { s.adc adc.val with step := some { st with staged := some cal } })) ∧
    ∀ r, stepFailure res cal = some r → execCalStepMeasureEnd adc res cal s = done s (s.failStep adc.val st cal r) := by
  have hgo : ¬(st.staged.isSome || s.clock < st.t0 + nsT 971700) = true := by
    have : ¬ s.clock < st.t0 + nsT 971700 := Nat.not_lt.mpr hdue
    simp [this, hstaged]
  unfold execCalStepMeasureEnd
  simp only [hst, if_neg hgo]
  exact ⟨fun h => by rw [h], fun r h => by rw [h]⟩

/-- The phase of a step whose values are staged, from 991.7 µs on (R107, R133). -/
theorem stageCal_phase (s : State) (a : Nat) (st : CalStep) (cal : SliceCal) (hlate : st.t0 + 12892100 ≤ s.clock) :
    (s.setAdc a { s.adc a with step := some { st with staged := some cal } }).stepPhase a = 3 := by
  have h : tget {} (s.setAdc a { s.adc a with step := some { st with staged := some cal } }).conv.adcs a = { s.adc a with step := some { st with staged := some cal } } :=
    tget_tput_self _ _ _ _
  unfold State.stepPhase
  rw [h]
  dsimp only
  have hclock : ∀ x, (s.setAdc a x).clock = s.clock := fun _ => rfl
  rw [hclock, if_neg (by
    show ¬ s.clock < st.t0 + 2246400
    omega), if_neg (by
    have : ¬ s.clock < st.t0 + nsT 991700 := Nat.not_lt.mpr hlate
    simp [this])]

/-- What the end of a foreground calibration shows, after the end of its command. -/
theorem fgEnd_after {s u t : State} {fg : FgCal} {adcs : List FgAdc} {c : ConvState} {y : SysState} {mb : Option Nat} (ht : Touch [wordPatch 0x12014] { u with conv := c, sys := y } t)
    (hconv : t.conv = c) (hc : c.fg = none) (hadcs : c.adcs = u.conv.adcs)
    (hadc : ∀ a, a < 4 → bitsOf fg.adcMask a 1 = 1 → FgEnded s a (adcs.getD a ⟨[], []⟩) (if mb.isSome then 3 else 2) u)
    (hdac : ∀ d, d < 4 → bitsOf fg.dacMask d 1 = 1 → u.get Reg.DAC_STATUS_STATE d = if mb.isSome then 3 else 2) :
    t.conv.fg = none ∧ (∀ a, a < 4 → bitsOf fg.adcMask a 1 = 1 → FgEnded s a (adcs.getD a ⟨[], []⟩) (if mb = none then 2 else 3) t) ∧
      ∀ d, d < 4 → bitsOf fg.dacMask d 1 = 1 → t.get Reg.DAC_STATUS_STATE d = if mb = none then 2 else 3 := by
  have hback : (if mb.isSome then 3 else 2) = if mb = none then 2 else 3 := by cases mb <;> rfl
  have hut : Touch [wordPatch 0x12014] u t := Touch.trans (.of_regs rfl) ht
  refine ⟨hconv ▸ hc, fun a h4 hbit => ?_, fun d h4 hbit => ?_⟩
  · refine hback ▸ (hadc a h4 hbit).of_touch h4 hut ?_
    unfold State.adc
    rw [hconv, hadcs]
  · rw [hut.getRow _ h4 (by decide), hdac d h4 hbit, hback]

/-- Settles O41. -/
theorem convertersCalibrate : Obligations.ConvertersCalibrate := by
  unfold Obligations.ConvertersCalibrate
  refine ⟨fun adc s hstep hen hrot hdue => ?_, fun adc s hstep hrot hdue => ?_, fun adc res cal st s hst hstaged hdue => ⟨fun hpass => ?_, fun r hfail hq => ?_⟩,
    stepFailure_none, fun mb p s hreq hch hfree => ?_, fun mb p s hreq hfg hadc hdac => ?_, fun adcs dacs fg s hfg hdue => ?_⟩
  · show ∃ t, execCalStepStart adc s = _ ∧ _
    unfold execCalStepStart
    dsimp only
    rw [if_pos (by
      have hdue' : (s.adc adc.val).lastT0 + msT (s.get Reg.ADC_CAL_CFG_INTERVAL_MS adc.val) ≤ s.clock := hdue
      simp only [hstep, hen, hrot, hdue', Option.isNone_none, decide_true, Bool.and_self])]
    exact done_then fun t he _ => ⟨(he.keeps (fun z => z.adc adc.val) fun _ _ _ _ _ _ _ => rfl).trans (adc_setAdc _ _ _), 
      (he.keeps (fun z => z.stepPhase adc.val) fun _ _ _ _ _ _ _ => rfl).trans (startStep_phase _ _), he.kept⟩
  · show ∃ t, execReqRotationStep adc s = _ ∧ _
    unfold execReqRotationStep
    dsimp only
    rw [if_pos (by
      have hdue' : (s.adc adc.val).lastT0 + msT 1 ≤ s.clock := hdue
      simp only [hstep, Option.isSome_iff_ne_none.mpr hrot, hdue', decide_true, Bool.and_self])]
    exact done_then fun t he _ => ⟨(he.keeps (fun z => z.adc adc.val) fun _ _ _ _ _ _ _ => rfl).trans (adc_setAdc _ _ _), 
      (he.keeps (fun z => z.stepPhase adc.val) fun _ _ _ _ _ _ _ => rfl).trans (startStep_phase _ _), he.kept⟩
  · show ∃ t, execCalStepMeasureEnd adc res cal s = _ ∧ _
    rw [(calStepMeasureEnd_judges hst hstaged hdue).1 hpass]
    exact done_then fun t he _ => ⟨(he.keeps (fun z => z.adc adc.val) fun _ _ _ _ _ _ _ => rfl).trans (adc_setAdc _ _ _),
      fun hlate => (he.keeps (fun z => z.stepPhase adc.val) fun _ _ _ _ _ _ _ => rfl).trans (stageCal_phase s adc.val st cal hlate), he.kept⟩
  · show ∃ t, execCalStepMeasureEnd adc res cal s = _ ∧ _
    obtain ⟨hstep, hev, hcount, hrun⟩ := failStep_fails s adc.isLt st cal r hq
    rw [(calStepMeasureEnd_judges hst hstaged hdue).2 r hfail]
    refine done_then fun t he _ => ?_
    have hadc : t.adc adc.val = (s.failStep adc.val st cal r).adc adc.val := he.keeps (fun z => z.adc adc.val) fun _ _ _ _ _ _ _ => rfl
    exact ⟨hadc ▸ hstep, (he.touch.flagRow _ adc.isLt (by decide)).trans hev, he.touch.counted hcount adc.isLt (by decide), hadc ▸ hrun⟩
  · show ∃ t, execCalRun mb s = _ ∧ _
    have hden : (maskList (u8 p 0) 4).any (fun a => (s.serving mb.val).get Reg.ADC_STATUS_STATE a ≠ 2 || (s.serving mb.val).flag Reg.ADC_STATUS_SPARE_LOST a) = false :=
      List.any_eq_false.mpr fun a ha => by
        obtain ⟨h2, hl, -⟩ := hfree a ha
        rw [show (s.serving mb.val).get Reg.ADC_STATUS_STATE a = 2 from h2, show (s.serving mb.val).flag Reg.ADC_STATUS_SPARE_LOST a = false from hl]
        decide
    have hbusy : (maskList (u8 p 0) 4).any (fun a => (s.serving mb.val).flag Reg.ADC_STATUS_REQ_QUEUED a) = false := List.any_eq_false.mpr fun a ha => by
      rw [show (s.serving mb.val).flag Reg.ADC_STATUS_REQ_QUEUED a = false from (hfree a ha).2.2]
      decide
    unfold execCalRun
    refine act_then hreq ((if_neg (ne_true_of_eq_false hch)).trans ((if_neg (ne_true_of_eq_false hden)).trans (if_neg (ne_true_of_eq_false hbusy)))) fun t he hans =>
      ⟨calRun_reply s _ ▸ hans.of_mbs (runQueued_mbs (s.serving mb.val) _ _), fun a ha hidle hrot => ?_⟩
    have ha4 : a < 4 := List.mem_range.mp (List.mem_filter.mp ha).1
    obtain ⟨hleft, hrun⟩ := runQueued_starts (s.serving mb.val) _ (nodup_maskList (u8 p 0) 4) (s.serving mb.val) ha ha4 (by
      rw [show ((s.serving mb.val).adc a).step = none from hidle, show ((s.serving mb.val).adc a).rotLeft = none from hrot]
      rfl)
    exact ⟨(congrArg AdcState.rotLeft (he.keeps (fun z => z.adc a) fun _ _ _ _ _ _ _ => rfl)).trans hleft, (he.answer_touch.flagRow _ ha4 (by decide)).trans hrun⟩
  · show ∃ t, execCalForeground mb s = _ ∧ _
    have hden : ((maskList (u8 p 0) 4).any (fun a => (s.serving mb.val).get Reg.ADC_STATUS_STATE a ≠ 3) ||
        (maskList (u8 p 1) 4).any (fun d => (s.serving mb.val).get Reg.DAC_STATUS_STATE d ≠ 3)) = false := by
      rw [Bool.or_eq_false_iff]
      exact ⟨List.any_eq_false.mpr fun a ha => by
        rw [show (s.serving mb.val).get Reg.ADC_STATUS_STATE a = 3 from hadc a ha]
        decide, List.any_eq_false.mpr fun d hd => by
        rw [show (s.serving mb.val).get Reg.DAC_STATUS_STATE d = 3 from hdac d hd]
        decide⟩
    unfold execCalForeground
    refine actLong_runs_then hreq ((if_neg (by rw [show (s.serving mb.val).conv.fg = none from hfg]; decide)).trans (if_neg (ne_true_of_eq_false hden))) fun t he hrun => ?_
    obtain ⟨ha, hd⟩ := startFg_calibrates (s.serving mb.val) (u8 p 0) (u8 p 1) (some mb.val)
    exact ⟨hrun.of_mbs (startFg_mbs _ _ _ _), (he.keeps (fun z => z.conv.fg) fun _ _ _ _ _ _ _ => rfl).trans (startFg_fg _ _ _ _),
      fun a h4 hbit => (he.touch.getRow _ h4 (by decide)).trans (ha a h4 hbit), fun d h4 hbit => (he.touch.getRow _ h4 (by decide)).trans (hd d h4 hbit)⟩
  · show ∃ t, execFgCalDone adcs dacs s = _ ∧ _
    obtain ⟨c, y, hc, hadcs, hexec⟩ := execFgCalDone_eq adcs dacs hfg hdue
    obtain ⟨hadc, hdac, hmbs⟩ := fgEnded_shows fg adcs dacs s
    rw [hexec]
    cases hmb : fg.mb with
    | none =>
      rw [hmb] at hadc hdac
      refine done_then fun t he _ => ?_
      obtain ⟨h1, h2, h3⟩ := fgEnd_after (he.touch.mono (by decide)) (he.keeps State.conv fun _ _ _ _ _ _ _ => rfl) hc hadcs hadc hdac
      exact ⟨h1, h2, h3, fun mb h => absurd h (by simp)⟩
    | some k =>
      rw [hmb] at hadc hdac
      refine done_finish_cases fun t he hans => ?_
      obtain ⟨h1, h2, h3⟩ := fgEnd_after he.answer_touch (he.keeps State.conv fun _ _ _ _ _ _ _ => rfl) hc hadcs hadc hdac
      refine ⟨h1, h2, h3, fun mb h hrun => ?_⟩
      obtain rfl := Option.some.inj h
      obtain ⟨hself, -⟩ := (hans ((congrArg Mailbox.phase (mbox_congr hmbs k)).trans hrun))
      rw [hself]
      exact ⟨rfl, word_answered_code _ (s.fgReply fg adcs dacs) (by show cOK < 256; decide)⟩

end Sys2Proof.Machine
end

section
/-! SUPPORT. The cipher (O50) -/

namespace Sys2Proof.Machine

/-! ### Memory reads and writes beside others' words -/

/-- Words that may have changed, as a footprint. -/
theorem Touch.of_words {but : List Nat} {s t : State} (h : RegsKept but s t) : Touch (but.map wordPatch) s t := fun a b hb hout => by
  have hword : ∀ x, wordPatch x ∈ sharedPatches ++ but.map wordPatch → a ≠ x := fun x hx e =>
    hout _ hx ⟨has_wordPatch.mpr e, Nat.zero_le _, by simpa [wordPatch] using hb⟩
  rw [h a (fun ha => hword a (List.mem_append_right _ (List.mem_map_of_mem ha)) rfl) fun hq => hword a (List.mem_append_left _ (List.mem_map_of_mem hq)) rfl]

def flipPatches : List Patch := flipWords.map wordPatch

theorem MemWritten.touch {s t : State} (h : MemWritten s t) : Touch flipPatches s t := .of_words h.regs

/-- Only register words, the log and the state of memory words differ. -/
def MemRest (s t : State) : Prop := ∃ r l m b, t = { s with regs := r, logs := l, mem := m, self := { s.self with sent := b } }

namespace MemRest
variable {s t u : State}

theorem refl (s : State) : MemRest s s := ⟨s.regs, s.logs, s.mem, s.self.sent, rfl⟩

theorem trans (h : MemRest s t) (k : MemRest t u) : MemRest s u := by
  obtain ⟨r, l, m, b, rfl⟩ := h
  obtain ⟨r', l', m', b', rfl⟩ := k
  exact ⟨r', l', m', b', rfl⟩

theorem of_regsLogs (h : RegsLogs s t) : MemRest s t := by
  obtain ⟨r, l, b, rfl⟩ := h
  exact ⟨r, l, s.mem, b, rfl⟩

theorem keeps {β : Type} (h : MemRest s t) (π : State → β) (hπ : ∀ r l m b, π { s with regs := r, logs := l, mem := m, self := { s.self with sent := b } } = π s) : π t = π s := by
  obtain ⟨r, l, m, b, rfl⟩ := h
  exact hπ r l m b

theorem set (h : MemRest s t) (f : Field) (v i j : Nat) : MemRest s (t.set f v i j) := h.trans (of_regsLogs (regsLogs_set _ _ _ _ _))
theorem bump (h : MemRest s t) (c : Ctr) (i j n : Nat) : MemRest s (t.bump c i j n) := h.trans (of_regsLogs (regsLogs_bump _ _ _ _ _))
theorem log (h : MemRest s t) (wb type : Nat) (d : List Byte) : MemRest s (t.log wb type d) := h.trans (of_regsLogs (regsLogs_log _ _ _ _))
theorem withMem (h : MemRest s t) (m : MemState) : MemRest s { t with mem := m } := h.trans ⟨t.regs, t.logs, m, t.self.sent, rfl⟩

theorem ite {c : Prop} [Decidable c] (h : MemRest s t) (k : MemRest s u) : MemRest s (if c then t else u) := by
  split <;> assumption

end MemRest

theorem latchErr_rest (s : State) (mem inst word kind : Nat) : MemRest s (s.latchErr mem inst word kind) := by
  have h3 := (((MemRest.refl s).set Reg.LAST_ERR_WORD word mem 0).set Reg.LAST_ERR_INSTANCE inst mem 0).set Reg.LAST_KIND_KIND kind mem 0
  unfold State.latchErr
  exact .ite (h3.set _ _ _ _) (h3.set _ _ _ _)

theorem uncorrectable_rest (s : State) (mem inst word consumer : Nat) : MemRest s (s.uncorrectable mem inst word consumer) := by
  unfold State.uncorrectable
  exact (((MemRest.refl s).bump _ _ _ _).trans (latchErr_rest _ _ _ _ _)).log _ _ _

theorem corrected_rest (s : State) (mem inst word : Nat) : MemRest s (s.corrected mem inst word) := by
  have hlatch := ((MemRest.refl s).bump Cnt.CE_COUNT mem 0 1).trans (latchErr_rest _ mem inst word 1)
  unfold State.corrected
  exact .ite (((hlatch.withMem _).withMem _).log _ _ _) (hlatch.withMem _)

theorem memRead_rest (s : State) (mem inst word consumer : Nat) : MemRest s (s.memRead mem inst word consumer).2 := by
  have h1 : MemRest s (if s.wordBits mem inst word = 1 then s.corrected mem inst word else s) := .ite (corrected_rest _ _ _ _) (.refl s)
  unfold State.memRead
  split
  · exact uncorrectable_rest _ _ _ _ _
  · dsimp only
    split
    · exact h1.bump Cnt.POISON_READS mem 0 1
    · exact h1

/-- A read of memory `mem` writes words of the integrity chapter only, and the state of memory words. -/
def MemRead (s t : State) : Prop := Touch memReadPatches s t ∧ MemRest s t

theorem MemRead.trans {s t u : State} (h : MemRead s t) (k : MemRead t u) : MemRead s u := ⟨h.1.trans k.1, h.2.trans k.2⟩

theorem memRead2_read (s : State) {mem : Nat} (hm : mem < 14) (word consumer : Nat) : MemRead s (s.memRead2 mem word consumer).2 := by
  unfold State.memRead2
  split
  · exact ⟨memRead_touch s hm _ _ _, memRead_rest _ _ _ _ _⟩
  · split
    · exact ⟨.ite (fun _ => corrected_touch s hm _ _) fun _ => .refl _ s, .ite (corrected_rest _ _ _ _) (.refl s)⟩
    · exact ⟨uncorrectable_touch s hm _ _ _, uncorrectable_rest _ _ _ _ _⟩

theorem memReads2_read (s : State) {mem : Nat} (hm : mem < 14) (word n consumer : Nat) : MemRead s (s.memReads2 mem word n consumer).2 := by
  have key : ∀ (l : List Nat) (r : Bool × State), MemRead r.2 (l.foldl (fun r k => ((r.1 || (r.2.memRead2 mem (word + k) consumer).1), (r.2.memRead2 mem (word + k) consumer).2)) r).2 := by
    intro l
    induction l with
    | nil => exact fun r => ⟨.refl _ _, .refl _⟩
    | cons k l ih => exact fun r => (memRead2_read r.2 hm _ _).trans (ih _)
  exact key (List.range n) (false, s)

/-! ### Counters of a context that come to their end (R430–R432) -/

def ctxPatches : List Patch :=
  [Reg.CTX_STATUS_STATE.patch 1024, Reg.CIPH_EVENTS_EXHAUSTED.patch, Reg.CIPH_EVENTS_WARN.patch] ++ Cnt.EXHAUST_EVENTS.patches ++ Cnt.WARN_EVENTS.patches

theorem ctxExhaust_touch (s : State) {c : Nat} (hc : c < 1024) : Touch ctxPatches s (s.ctxExhaust c) := by
  have h3 : Touch ctxPatches s (((s.setCtxState c 3).bump Cnt.EXHAUST_EVENTS).set Reg.CIPH_EVENTS_EXHAUSTED 1) :=
    (((Touch.refl _ s).setRow hc (by decide)).bump0 (by decide)).set0 (by decide)
  unfold State.ctxExhaust
  exact .ite (fun _ => .refl _ s) fun _ => .ite (fun _ => h3.log _ _ _) fun _ => h3

theorem ctxWarn_touch (s : State) {c : Nat} (hc : c < 1024) : Touch ctxPatches s (s.ctxWarn c) := by
  have h3 : Touch ctxPatches s (((s.setCtxState c 2).bump Cnt.WARN_EVENTS).set Reg.CIPH_EVENTS_WARN 1) :=
    (((Touch.refl _ s).setRow hc (by decide)).bump0 (by decide)).set0 (by decide)
  unfold State.ctxWarn
  exact .ite (fun _ => h3.log _ _ _) fun _ => .refl _ s

theorem ctxExhaust_rest (s : State) (c : Nat) : RegsLogs s (s.ctxExhaust c) := by
  have h3 := (((RegsLogs.refl s).set Reg.CTX_STATUS_STATE 3 c 0).bump Cnt.EXHAUST_EVENTS 0 0 1).set Reg.CIPH_EVENTS_EXHAUSTED 1 0 0
  unfold State.ctxExhaust
  exact .ite (.refl s) (.ite (h3.log _ _ _) h3)

theorem ctxWarn_rest (s : State) (c : Nat) : RegsLogs s (s.ctxWarn c) := by
  unfold State.ctxWarn
  exact .ite ((((RegsLogs.refl s).set Reg.CTX_STATUS_STATE 2 c 0).bump Cnt.WARN_EVENTS 0 0 1).set Reg.CIPH_EVENTS_WARN 1 0 0 |>.log _ _ _) (.refl s)

theorem ctxExhaust_state (s : State) {c : Nat} (hc : c < 1024) : (s.ctxExhaust c).ctxState c = 3 := by
  have hev : ∀ u : State, Touch (Reg.CIPH_EVENTS_EXHAUSTED.patch :: Cnt.EXHAUST_EVENTS.patches) u ((u.bump Cnt.EXHAUST_EVENTS).set Reg.CIPH_EVENTS_EXHAUSTED 1) := fun u =>
    ((Touch.refl _ u).bump0 (by decide)).set0 (by decide)
  have h3 : (((s.setCtxState c 3).bump Cnt.EXHAUST_EVENTS).set Reg.CIPH_EVENTS_EXHAUSTED 1).ctxState c = 3 := by
    unfold State.ctxState
    rw [(hev _).getRow _ hc (by decide)]
    exact (get_set_self _ _ _ _ _ (by decide)).trans rfl
  unfold State.ctxExhaust
  split
  · next h => exact h
  · dsimp only
    split
    · exact (((Touch.refl [] _).log _ _ _).getRow _ hc (by decide)).trans h3
    · exact h3

/-- A context that a fetch does not exhaust has come with its key, and nothing of it has changed. -/
theorem fetchCtx_read (s : State) {c : Nat} (hc : c < 1024) (h : (s.fetchCtx c).ctxState c ≠ 3) : MemRead s (s.fetchCtx c) := by
  have hr := memReads2_read s (mem := 12) (by decide) (ctxWord c) 2 11
  have hq := memReads2_read (s.memReads2 12 (ctxWord c) 2 11).2 (mem := 12) (by decide) (keyWord (s.get Reg.CTX_STATUS_KEY c)) 4 11
  unfold State.fetchCtx at h ⊢
  dsimp only at h ⊢
  split at h
  · exact absurd (((bite_touch _ _ _ _).getRow _ hc (by decide)).trans (ctxExhaust_state _ hc)) h
  · next hgood =>
    rw [if_neg hgood]
    exact hr.trans hq

/-! ### A unit is sent (R413–R417, R428) -/

/-- The bits of a unit of plaintext `plain` sent under context `c`. -/
def State.unitSent (s : State) (t c : Nat) (plain : List Byte) : List Byte :=
  bytesBe 8 (unitHeader (s.flag Reg.TN_CIPH_STATUS_TX_PHASE t) false (s.txCtr c)).toNat ++
    gctr (s.keySlot (s.get Reg.CTX_STATUS_KEY c)).key (unitIv (s.salt c) (s.flag Reg.CTX_STATUS_TX_DIR c) (s.txCtr c)) plain ++
    bytesBe 16 (s.unitTag c (s.flag Reg.CTX_STATUS_TX_DIR c) (bytesBe 8 (unitHeader (s.flag Reg.TN_CIPH_STATUS_TX_PHASE t) false (s.txCtr c)).toNat)
      (gctr (s.keySlot (s.get Reg.CTX_STATUS_KEY c)).key (unitIv (s.salt c) (s.flag Reg.CTX_STATUS_TX_DIR c) (s.txCtr c)) plain)).toNat

theorem get_lt (s : State) (f : Field) (i j : Nat) : s.get f i j < 2 ^ f.width := bitsOf_lt _ _ _

theorem txCtr_lt (s : State) (c : Nat) : s.txCtr c < ctrEnd := by
  have h1 := get_lt s Reg.CTX_TX_LO_TX_CTR_LO c 0
  have h2 := get_lt s Reg.CTX_HI_TX_CTR_HI c 0
  simp only [Reg.CTX_TX_LO_TX_CTR_LO, Reg.CTX_HI_TX_CTR_HI] at h1 h2
  unfold State.txCtr ctrEnd
  simp only [Reg.CTX_TX_LO_TX_CTR_LO, Reg.CTX_HI_TX_CTR_HI]
  omega

/-- A counter of a context, written over its two words (R428). -/
theorem txCtr_setTxCtr (s : State) (c : Nat) {v : Nat} (hv : v < ctrEnd) : (s.setTxCtr c v).txCtr c = v := by
  unfold State.setTxCtr State.txCtr
  rw [get_set_self _ _ _ _ _ (by decide), get_set_ne _ _ _ _ _ _ _ _ (by decide) (.inl (by simp only [Field.addr, Reg.CTX_TX_LO_TX_CTR_LO, Reg.CTX_HI_TX_CTR_HI]; omega)),
    get_set_self _ _ _ _ _ (by decide)]
  simp only [Reg.CTX_TX_LO_TX_CTR_LO, Reg.CTX_HI_TX_CTR_HI]
  unfold ctrEnd at hv
  omega

theorem rxLast_setRxLast (s : State) (c : Nat) {v : Nat} (hv : v < ctrEnd) : (s.setRxLast c v).rxLast c = v := by
  unfold State.setRxLast State.rxLast
  rw [get_set_self _ _ _ _ _ (by decide), get_set_ne _ _ _ _ _ _ _ _ (by decide) (.inl (by simp only [Field.addr, Reg.CTX_RX_LO_RX_LAST_LO, Reg.CTX_HI_RX_LAST_HI]; omega)),
    get_set_self _ _ _ _ _ (by decide)]
  simp only [Reg.CTX_RX_LO_RX_LAST_LO, Reg.CTX_HI_RX_LAST_HI]
  unfold ctrEnd at hv
  omega

/-- A footprint that leaves the counters of contexts. -/
theorem Touch.txCtr {l : List Patch} {s t : State} (h : Touch l s t) {c : Nat} (hc : c < 1024)
    (hl : ∀ p ∈ sharedPatches ++ l, p.apart (Reg.CTX_TX_LO_TX_CTR_LO.patch 1024) = true ∧ p.apart (Reg.CTX_HI_TX_CTR_HI.patch 1024) = true) : t.txCtr c = s.txCtr c := by
  unfold State.txCtr
  rw [h.getRow _ hc ⟨List.all_eq_true.mpr fun p hp => (hl p hp).1, by decide⟩, h.getRow _ hc ⟨List.all_eq_true.mpr fun p hp => (hl p hp).2, by decide⟩]

theorem Touch.rxLast {l : List Patch} {s t : State} (h : Touch l s t) {c : Nat} (hc : c < 1024)
    (hl : ∀ p ∈ sharedPatches ++ l, p.apart (Reg.CTX_RX_LO_RX_LAST_LO.patch 1024) = true ∧ p.apart (Reg.CTX_HI_RX_LAST_HI.patch 1024) = true) : t.rxLast c = s.rxLast c := by
  unfold State.rxLast
  rw [h.getRow _ hc ⟨List.all_eq_true.mpr fun p hp => (hl p hp).1, by decide⟩, h.getRow _ hc ⟨List.all_eq_true.mpr fun p hp => (hl p hp).2, by decide⟩]

/-- The unit, in a state that only reads of memory words have changed. -/
theorem unitSent_of_read {s u : State} {t c : Nat} (ht : t < 256) (hc : c < 1024) (h : Touch memReadPatches s u) (hcip : u.cip = s.cip) (plain : List Byte) :
    u.unitSent t c plain = s.unitSent t c plain := by
  unfold State.unitSent State.unitTag State.keySlot State.salt
  rw [hcip, h.flagRow Reg.TN_CIPH_STATUS_TX_PHASE ht (by decide), h.flagRow Reg.CTX_STATUS_TX_DIR hc (by decide), h.getRow Reg.CTX_STATUS_KEY hc (by decide), h.txCtr hc (by decide)]

/-- The counter of a context moves on, and its key's high-water mark with it (R428). -/
def State.moveTxCtr (s : State) (c : Nat) : State :=
  (s.setKeySlot (s.get Reg.CTX_STATUS_KEY c) { s.keySlot (s.get Reg.CTX_STATUS_KEY c) with hw := max (s.keySlot (s.get Reg.CTX_STATUS_KEY c)).hw (s.txCtr c) }).setTxCtr c
    (min (s.txCtr c + 1) (ctrEnd - 1))

/-- The registers and state of a sent unit, before memory 12 and the context's warning follow. -/
def State.sentUnit (s : State) (t c : Nat) (plain : List Byte) : State :=
  ((s.moveTxCtr c).setCipherTn t { (s.moveTxCtr c).cipherTn t with sent := s.unitSent t c plain, out := s.unitSent t c plain }).set Reg.TN_CIPH_STATUS_EXH_TX 0 t

theorem sendUnit_eq (s : State) (t c : Nat) (plain : List Byte) : s.sendUnit t c plain =
    if s.txCtr c = ctrEnd - 1 then ((s.sentUnit t c plain).memWrites2 12 (ctxWord c) 2).ctxExhaust c else ((s.sentUnit t c plain).memWrites2 12 (ctxWord c) 2).ctxWarn c := rfl

theorem sentUnit_shows (s : State) {t c : Nat} (ht : t < 256) (plain : List Byte) :
    (s.sentUnit t c plain).txCtr c = min (s.txCtr c + 1) (ctrEnd - 1) ∧ (s.sentUnit t c plain).flag Reg.TN_CIPH_STATUS_EXH_TX t = false ∧
      ((s.sentUnit t c plain).cipherTn t).sent = s.unitSent t c plain := by
  have hctr : (s.moveTxCtr c).txCtr c = min (s.txCtr c + 1) (ctrEnd - 1) := txCtr_setTxCtr _ _ (by unfold ctrEnd; omega)
  unfold State.sentUnit
  generalize s.moveTxCtr c = s1 at hctr ⊢
  have htn : ∀ x : CipherTurnout, (s1.setCipherTn t x).txCtr c = s1.txCtr c := fun _ => by
    unfold State.txCtr
    rw [setCipherTn_get, setCipherTn_get]
  have hset : ∀ (u : State), (u.set Reg.TN_CIPH_STATUS_EXH_TX 0 t).txCtr c = u.txCtr c := fun u => by
    unfold State.txCtr
    rw [get_set_ne _ _ _ _ _ _ _ _ (by decide) (.inl (by simp only [Field.addr, Reg.CTX_TX_LO_TX_CTR_LO, Reg.TN_CIPH_STATUS_EXH_TX]; omega)),
      get_set_ne _ _ _ _ _ _ _ _ (by decide) (.inl (by simp only [Field.addr, Reg.CTX_HI_TX_CTR_HI, Reg.TN_CIPH_STATUS_EXH_TX]; omega))]
  have hcip : ∀ u : State, (u.set Reg.TN_CIPH_STATUS_EXH_TX 0 t).cipherTn t = u.cipherTn t := fun u => by
    unfold State.cipherTn
    rw [set_cip]
  refine ⟨by rw [hset, htn, hctr], by rw [flag_set_self _ _ _ _ _ (by decide)]; rfl, ?_⟩
  rw [hcip]
  unfold State.cipherTn State.setCipherTn
  rw [tget_tput_self]

theorem ctxExhaust_cip (s : State) (c : Nat) : (s.ctxExhaust c).cip = s.cip := (ctxExhaust_rest s c).keeps State.cip fun _ _ _ => rfl

theorem ctxWarn_cip (s : State) (c : Nat) : (s.ctxWarn c).cip = s.cip := (ctxWarn_rest s c).keeps State.cip fun _ _ _ => rfl

theorem cipherTn_of_cip {s u : State} (h : u.cip = s.cip) (t : Nat) : u.cipherTn t = s.cipherTn t := by
  unfold State.cipherTn
  rw [h]

/-- A unit sent under context `c` (R428–R432). -/
theorem sendUnit_shows (s : State) {t c : Nat} (ht : t < 256) (hc : c < 1024) (plain : List Byte) :
    (s.sendUnit t c plain).txCtr c = min (s.txCtr c + 1) (ctrEnd - 1) ∧ (s.sendUnit t c plain).flag Reg.TN_CIPH_STATUS_EXH_TX t = false ∧
      (s.txCtr c = ctrEnd - 1 → (s.sendUnit t c plain).ctxState c = 3) ∧ ((s.sendUnit t c plain).cipherTn t).sent = s.unitSent t c plain := by
  obtain ⟨hctr, hexh, hsent⟩ := sentUnit_shows s (t := t) (c := c) ht plain
  rw [sendUnit_eq]
  have hmem := memWritten_memWrites2 (s.sentUnit t c plain) 12 (ctxWord c) 2
  generalize hu : (s.sentUnit t c plain).memWrites2 12 (ctxWord c) 2 = u at hmem ⊢
  have hafter : ∀ v, Touch ctxPatches u v → v.cip = u.cip → v.txCtr c = min (s.txCtr c + 1) (ctrEnd - 1) ∧ v.flag Reg.TN_CIPH_STATUS_EXH_TX t = false ∧
      (v.cipherTn t).sent = s.unitSent t c plain := fun v hv hcip => by
    rw [hv.txCtr hc (by decide), hmem.touch.txCtr hc (by decide), hv.flagRow _ ht (by decide), hmem.touch.flagRow _ ht (by decide), cipherTn_of_cip hcip, cipherTn_of_cip hmem.cip]
    exact ⟨hctr, hexh, hsent⟩
  by_cases hlast : s.txCtr c = ctrEnd - 1
  · obtain ⟨h1, h2, h3⟩ := hafter _ (ctxExhaust_touch u hc) (ctxExhaust_cip u c)
    rw [if_pos hlast]
    exact ⟨h1, h2, fun _ => ctxExhaust_state u hc, h3⟩
  · obtain ⟨h1, h2, h3⟩ := hafter _ (ctxWarn_touch u hc) (ctxWarn_cip u c)
    rw [if_neg hlast]
    exact ⟨h1, h2, fun h => absurd h hlast, h3⟩

/-- The plaintext of a turnout's next unit, in a state that only reads of memory words have changed; taking it changes no register and nothing of the cipher. -/
theorem unitPlain_of_read {s u : State} {t : Nat} (ht : t < 256) (h : MemRead s u) (given : List Byte) :
    (u.unitPlain t given).1 = (s.unitPlain t given).1 ∧ (u.unitPlain t given).2.regs = u.regs ∧ (u.unitPlain t given).2.cip = u.cip := by
  have hblocks : u.egressBlocks t = s.egressBlocks t := h.2.keeps (fun z => z.egressBlocks t) fun _ _ _ _ => rfl
  have hkind : u.kind t = s.kind t := h.1.getRow _ ht (by decide)
  unfold State.unitPlain State.takeBlocks
  rw [hblocks, hkind]
  split
  · exact ⟨rfl, rfl, rfl⟩
  · exact ⟨rfl, rfl, rfl⟩

theorem txCtx_lt (s : State) (t : Nat) : s.txCtx t < 1024 := by
  unfold State.txCtx
  split
  · exact get_lt s Reg.TN_CIPH_STATUS_NEXT_CTX t 0
  · exact get_lt s Reg.TN_CIPH_STATUS_CUR_CTX t 0

/-- CIPHER_UNIT_TX under a context that its fetch does not exhaust. -/
theorem cipherUnitTx_sends (tn : Fin 256) (given : List Byte) (s : State) (hon : s.ciphered tn.val = true) (hfits : s.unitFits tn.val given.length = true)
    (hatt : s.attached (s.txCtx tn.val) = true) (h3 : (s.fetchCtx (s.txCtx tn.val)).ctxState (s.txCtx tn.val) ≠ 3) :
    execCipherUnitTx tn given s = done s (((s.fetchCtx (s.txCtx tn.val)).unitPlain tn.val given).2.sendUnit tn.val (s.txCtx tn.val) (s.unitPlain tn.val given).1) := by
  have hread := fetchCtx_read s (txCtx_lt s tn.val) h3
  have hstate : s.ctxState (s.txCtx tn.val) ≠ 3 := fun e => h3 ((hread.1.getRow _ (txCtx_lt s tn.val) (by decide)).trans e)
  unfold execCipherUnitTx
  dsimp only
  rw [hon, hfits, hatt, if_neg hstate, if_neg h3, ← (unitPlain_of_read tn.isLt hread given).1]
  rfl

/-- Key-exhausted idle (R432). -/
theorem sendIdle_shows (s : State) {t c : Nat} (ht : t < 256) (hc : c < 1024) (n : Nat) :
    Counted Cnt.EXH_IDLE_TX t 0 1 s (s.sendIdle t n) ∧ (s.sendIdle t n).flag Reg.TN_CIPH_STATUS_EXH_TX t = true ∧ (s.sendIdle t n).txCtr c = s.txCtr c := by
  have hset : ∀ x, Touch [Reg.TN_CIPH_STATUS_EXH_TX.patch 256] s ((s.setCipherTn t x).set Reg.TN_CIPH_STATUS_EXH_TX 1 t) := fun x =>
    (Touch.of_regs (t := s.setCipherTn t x) rfl).setRow ht (by decide)
  have hbump : ∀ u : State, Touch Cnt.EXH_IDLE_TX.patches u (u.bump Cnt.EXH_IDLE_TX t) := fun u => (Touch.refl _ u).bumpRow ht (by decide)
  unfold State.sendIdle
  refine ⟨(hset _).counted_of (counted_bump _ _ _ _ _ (.inl rfl)) ht (by decide), ?_, ?_⟩
  · rw [(hbump _).flagRow _ ht (by decide), flag_set_self _ _ _ _ _ (by decide)]
    rfl
  · rw [(hbump _).txCtr hc (by decide), (hset _).txCtr hc (by decide)]

/-! ### A received unit, by its header (R435–R439) -/

theorem unitErrBlocks_touch (s : State) (t : Nat) : Touch Cnt.ETH_ERR_BLOCKS.patches s (s.unitErrBlocks t) := by
  unfold State.unitErrBlocks
  exact .ite (fun _ => (Touch.refl _ s).bump0 (by decide)) fun _ => .refl _ s

def badPacketPatches : List Patch := Cnt.ETH_ERR_BLOCKS.patches ++ Cnt.VERIFY_DROPS.patches ++ Cnt.RELEASED_UNVERIFIED.patches ++ Cnt.ABORTED.patches

theorem badPackets_touch (s : State) {t : Nat} (ht : t < 256) (plain : List Byte) : Touch badPacketPatches s (s.badPackets t plain).1 := by
  have htn : ∀ (v : State) (x : CipherTurnout), Touch badPacketPatches v (v.setCipherTn t x) := fun _ _ => .of_regs rfl
  unfold State.badPackets
  dsimp only
  split
  · exact (unitErrBlocks_touch s t).mono (by decide)
  · split
    · dsimp only
      split
      · exact htn _ _
      · exact (htn _ _).bumpRow ht (by decide)
    · dsimp only
      have h2 : ∀ (c : Prop) [Decidable c] (v : State) (n : Nat), Touch badPacketPatches v (if c then v else v.bump Cnt.RELEASED_UNVERIFIED t 0 n) := fun c _ v n =>
        .ite (fun _ => .refl _ v) fun _ => (Touch.refl _ v).bumpRow ht (by decide)
      have h3 := fun x y => ((htn s x).trans (h2 ((s.readUnit t plain).2.length = 0) _ (s.readUnit t plain).2.length)).trans (htn _ y)
      split
      · exact (h3 _ _).bumpRow ht (by decide)
      · exact h3 _ _

def authFailPatches : List Patch := [Reg.TN_CIPH_STATUS_BLOCKED.patch 256, Reg.CIPH_EVENTS_BLOCKED.patch] ++ badPacketPatches

theorem authFail_touch (s : State) {t : Nat} (ht : t < 256) (cls c ctr : Nat) (plain : List Byte) : Touch authFailPatches s (s.authFail t cls c ctr plain) := by
  have h1 : Touch authFailPatches s ((s.badPackets t plain).1.logAuth t cls c ctr (s.badPackets t plain).2.1 (s.badPackets t plain).2.2) :=
    ((badPackets_touch s ht plain).mono (by decide)).log _ _ _
  unfold State.authFail
  exact .ite (fun _ => h1) fun _ => (h1.setRow ht (by decide)).set0 (by decide)

/-- A unit that fails blocks its turnout unless ON_FAIL is 1 (R439). -/
theorem authFail_blocks (s : State) {t : Nat} (ht : t < 256) (cls c ctr : Nat) (plain : List Byte) (h : s.flag Reg.TN_CIPHER_ON_FAIL t = false) :
    (s.authFail t cls c ctr plain).flag Reg.TN_CIPH_STATUS_BLOCKED t = true := by
  unfold State.authFail
  dsimp only
  rw [h, if_neg (by decide), flag_set_ne _ _ _ _ _ _ _ _ (by decide) (.inl (by simp only [Field.addr, Reg.TN_CIPH_STATUS_BLOCKED, Reg.CIPH_EVENTS_BLOCKED]; omega)),
    flag_set_self _ _ _ _ _ (by decide)]
  rfl

/-- A unit of the class that its header decided. -/
def State.rxClassed (s : State) (t : Nat) (header : BitVec 64) (k : UnitClass × Nat) : State :=
  let s1 := s.setCipherTn t { s.cipherTn t with rx := some { cls := k.1, header := header, ctx := k.2 } }
  match k.1 with
  | .blocked => (s1.bump Cnt.BLOCKED_DISCARDS t).unitErrBlocks t
  | .idle => (s1.bump Cnt.EXH_IDLE_RX t).unitErrBlocks t
  | .damaged => (((s1.bump Cnt.DAMAGED_UNITS t).set Reg.CIPH_EVENTS_DAMAGED 1).badPackets t []).1
  | .noContext => ((s1.bump Cnt.AUTH_FAILS t).set Reg.CIPH_EVENTS_AUTH_FAIL 1).authFail t 3 k.2 (header.toNat % ctrEnd) []
  | .replay => ((s1.bump Cnt.REPLAYS t).set Reg.CIPH_EVENTS_REPLAY 1).authFail t 2 k.2 (header.toNat % ctrEnd) []
  | .tagFail | .open_ => s1

/-- The state in which the header is judged: a context that it needs has been fetched (R555). -/
def State.rxFetched (s : State) (t : Nat) (header : BitVec 64) (marked : Bool) : State :=
  if s.flag Reg.TN_CIPH_STATUS_BLOCKED t || marked || bitsOf header.toNat 62 1 = 1 then s
  else match s.rxCtx t (bitsOf header.toNat 63 1 == 1) with
    | some c => if s.ctxState c = 3 then s else s.fetchCtx c
    | none => s

theorem execCipherUnitRx_eq (tn : Fin 256) (h : BitVec 64) (marked : Bool) (s : State) (hon : s.ciphered tn.val = true) (hrx : (s.cipherTn tn.val).rx = none) :
    execCipherUnitRx tn h marked s = done s ((s.rxFetched tn.val h marked).rxClassed tn.val h ((s.rxFetched tn.val h marked).headerClass tn.val h marked)) := by
  unfold execCipherUnitRx State.rxFetched
  dsimp only
  rw [hon, hrx, if_neg (by decide)]
  generalize (if (s.flag Reg.TN_CIPH_STATUS_BLOCKED tn.val || marked || decide (bitsOf h.toNat 62 1 = 1)) = true then s else _) = s0
  generalize s0.headerClass tn.val h marked = k
  obtain ⟨cls, c⟩ := k
  cases cls <;> rfl

theorem cipherTn_setCipherTn (s : State) (t : Nat) (x : CipherTurnout) : (s.setCipherTn t x).cipherTn t = x := tget_tput_self _ _ _ _

theorem rxClassed_blocked (s : State) {t : Nat} (ht : t < 256) (h : BitVec 64) (c : Nat) : Counted Cnt.BLOCKED_DISCARDS t 0 1 s (s.rxClassed t h (.blocked, c)) :=
  (unitErrBlocks_touch _ t).counted (counted_of_count (counted_bump _ _ _ _ _ (.inl rfl)) (setCipherTn_count s t _ _ _ _) rfl) ht (by decide)

theorem rxClassed_idle (s : State) {t : Nat} (ht : t < 256) (h : BitVec 64) (c : Nat) : Counted Cnt.EXH_IDLE_RX t 0 1 s (s.rxClassed t h (.idle, c)) :=
  (unitErrBlocks_touch _ t).counted (counted_of_count (counted_bump _ _ _ _ _ (.inl rfl)) (setCipherTn_count s t _ _ _ _) rfl) ht (by decide)

/-- A count with its event bit. -/
theorem counted_set {c : Ctr} {f : Field} {i : Nat} {s u : State} {l : List Patch} (hc : c.words = 1) (hi : i < c.n) (h : Touch l ((s.bump c i).set f 1) u) (hd : c.unwritten l 0)
    (hf : f.patch.inList [f.patch] = true ∧ c.unwritten [f.patch] 0) : Counted c i 0 1 s u :=
  h.counted (Touch.counted ((Touch.refl [f.patch] (s.bump c i)).set0 hf.1) (counted_bump _ _ _ _ _ (.inl hc)) hi hf.2) hi hd

theorem rxClassed_damaged (s : State) {t : Nat} (ht : t < 256) (h : BitVec 64) (c : Nat) :
    Counted Cnt.DAMAGED_UNITS t 0 1 s (s.rxClassed t h (.damaged, c)) ∧ (s.rxClassed t h (.damaged, c)).flag Reg.CIPH_EVENTS_DAMAGED = true := by
  have hbad := badPackets_touch (((s.setCipherTn t { s.cipherTn t with rx := some { cls := .damaged, header := h, ctx := c } }).bump Cnt.DAMAGED_UNITS t).set Reg.CIPH_EVENTS_DAMAGED 1) ht []
  refine ⟨counted_of_count (counted_set rfl ht hbad (by decide) (by decide)) (setCipherTn_count s t _ _ _ _) rfl, ?_⟩
  exact (hbad.flag0 _ (by decide)).trans ((flag_set_self _ _ _ _ _ (by decide)).trans rfl)

theorem rxClassed_noContext (s : State) {t : Nat} (ht : t < 256) (h : BitVec 64) (c : Nat) : Counted Cnt.AUTH_FAILS t 0 1 s (s.rxClassed t h (.noContext, c)) ∧
    (s.flag Reg.TN_CIPHER_ON_FAIL t = false → (s.rxClassed t h (.noContext, c)).flag Reg.TN_CIPH_STATUS_BLOCKED t = true) := by
  have hon : Touch (Reg.CIPH_EVENTS_AUTH_FAIL.patch :: Cnt.AUTH_FAILS.patches) (s.setCipherTn t { s.cipherTn t with rx := some { cls := .noContext, header := h, ctx := c } })
    (((s.setCipherTn t { s.cipherTn t with rx := some { cls := .noContext, header := h, ctx := c } }).bump Cnt.AUTH_FAILS t).set Reg.CIPH_EVENTS_AUTH_FAIL 1) :=
    ((Touch.refl _ _).bumpRow ht (by decide)).set0 (by decide)
  refine ⟨counted_of_count (counted_set rfl ht (authFail_touch _ ht _ _ _ _) (by decide) (by decide)) (setCipherTn_count s t _ _ _ _) rfl, fun hf => authFail_blocks _ ht _ _ _ _ ?_⟩
  rw [hon.flagRow _ ht (by decide), setCipherTn_flag, hf]

theorem rxClassed_replay (s : State) {t : Nat} (ht : t < 256) (h : BitVec 64) (c : Nat) : Counted Cnt.REPLAYS t 0 1 s (s.rxClassed t h (.replay, c)) ∧
    (s.flag Reg.TN_CIPHER_ON_FAIL t = false → (s.rxClassed t h (.replay, c)).flag Reg.TN_CIPH_STATUS_BLOCKED t = true) := by
  have hon : Touch (Reg.CIPH_EVENTS_REPLAY.patch :: Cnt.REPLAYS.patches) (s.setCipherTn t { s.cipherTn t with rx := some { cls := .replay, header := h, ctx := c } })
    (((s.setCipherTn t { s.cipherTn t with rx := some { cls := .replay, header := h, ctx := c } }).bump Cnt.REPLAYS t).set Reg.CIPH_EVENTS_REPLAY 1) :=
    ((Touch.refl _ _).bumpRow ht (by decide)).set0 (by decide)
  refine ⟨counted_of_count (counted_set rfl ht (authFail_touch _ ht _ _ _ _) (by decide) (by decide)) (setCipherTn_count s t _ _ _ _) rfl, fun hf => authFail_blocks _ ht _ _ _ _ ?_⟩
  rw [hon.flagRow _ ht (by decide), setCipherTn_flag, hf]

theorem rxCtx_lt {s : State} {t c : Nat} {phase : Bool} (h : s.rxCtx t phase = some c) : c < 1024 := by
  unfold State.rxCtx at h
  dsimp only at h
  split at h
  · exact absurd h (by simp)
  · split at h
    · exact Option.some.inj h ▸ get_lt s Reg.TN_CIPH_STATUS_CUR_CTX t 0
    · split at h
      · exact Option.some.inj h ▸ get_lt s Reg.TN_CIPH_STATUS_NEXT_CTX t 0
      · exact absurd h (by simp)

/-- The context of a received phase, in a state that only reads of memory words have changed. -/
theorem rxCtx_of_read {s u : State} {t : Nat} (ht : t < 256) (h : Touch memReadPatches s u) (phase : Bool) : u.rxCtx t phase = s.rxCtx t phase := by
  have hcur : s.get Reg.TN_CIPH_STATUS_CUR_CTX t < 1024 := get_lt s _ t 0
  unfold State.rxCtx State.attached State.ctxState
  dsimp only
  rw [h.getRow Reg.TN_CIPH_STATUS_CUR_CTX ht (by decide), h.getRow Reg.TN_CIPH_STATUS_NEXT_CTX ht (by decide), h.flagRow Reg.TN_CIPH_STATUS_NEXT_VALID ht (by decide),
    h.getRow Reg.CTX_STATUS_STATE hcur (by decide), h.flagRow Reg.CTX_STATUS_PHASE hcur (by decide)]

section
variable {tn : Nat} {h : BitVec 64} {s : State}

theorem headerClass_blocked (hb : s.flag Reg.TN_CIPH_STATUS_BLOCKED tn = true) (marked : Bool) :
    s.rxFetched tn h marked = s ∧ ∃ c, s.headerClass tn h marked = (.blocked, c) := by
  refine ⟨if_pos (by rw [hb]; rfl), _, if_pos hb⟩

theorem headerClass_idle (hb : s.flag Reg.TN_CIPH_STATUS_BLOCKED tn = false) (hidle : bitsOf h.toNat 62 1 = 1) :
    s.rxFetched tn h false = s ∧ ∃ c, s.headerClass tn h false = (.idle, c) :=
  ⟨if_pos (by rw [hidle]; simp), _, (if_neg (ne_true_of_eq_false hb)).trans (if_pos (by rw [hidle]; rfl))⟩

theorem headerClass_damaged (hb : s.flag Reg.TN_CIPH_STATUS_BLOCKED tn = false) : s.rxFetched tn h true = s ∧ ∃ c, s.headerClass tn h true = (.damaged, c) :=
  ⟨if_pos (by simp), _, (if_neg (ne_true_of_eq_false hb)).trans ((if_neg (by simp)).trans (if_pos rfl))⟩

theorem headerClass_noContext (hb : s.flag Reg.TN_CIPH_STATUS_BLOCKED tn = false) (hreal : bitsOf h.toNat 62 1 = 0) (hctx : s.rxCtx tn (bitsOf h.toNat 63 1 == 1) = none) :
    s.rxFetched tn h false = s ∧ ∃ c, s.headerClass tn h false = (.noContext, c) := by
  unfold State.rxFetched State.headerClass
  dsimp only
  rw [hb, hreal, hctx]
  exact ⟨rfl, _, rfl⟩

theorem headerClass_context (ht : tn < 256) (hb : s.flag Reg.TN_CIPH_STATUS_BLOCKED tn = false) (hreal : bitsOf h.toNat 62 1 = 0) {c : Nat}
    (hctx : s.rxCtx tn (bitsOf h.toNat 63 1 == 1) = some c) (h3 : (s.fetchCtx c).ctxState c ≠ 3) : s.rxFetched tn h false = s.fetchCtx c ∧
      (s.fetchCtx c).headerClass tn h false = if h.toNat % ctrEnd ≤ s.rxLast c then (.replay, c) else (.open_, c) := by
  have hc := rxCtx_lt hctx
  have hread := fetchCtx_read s hc h3
  have hstate : s.ctxState c ≠ 3 := fun e => h3 ((hread.1.getRow _ hc (by decide)).trans e)
  refine ⟨?_, ?_⟩
  · unfold State.rxFetched
    rw [hb, hreal, hctx]
    exact (if_neg (by decide)).trans (if_neg hstate)
  · unfold State.headerClass
    dsimp only
    rw [hread.1.flagRow _ ht (by decide), hb, hreal, rxCtx_of_read ht hread.1, hctx]
    dsimp only
    rw [hread.1.rxLast hc (by decide)]
    exact (if_neg (by decide)).trans ((if_neg (by decide)).trans ((if_neg (by decide)).trans (if_neg h3)))

end

/-- CIPHER_UNIT_RX judges by the header (R435–R439). -/
theorem cipherUnitRx_judges (tn : Fin 256) (h : BitVec 64) (marked : Bool) (s : State) (hon : s.ciphered tn.val = true) (hrx : (s.cipherTn tn.val).rx = none) :
    ∃ t, execCipherUnitRx tn h marked s = .next t ∧
      (s.flag Reg.TN_CIPH_STATUS_BLOCKED tn.val = true → Counted Cnt.BLOCKED_DISCARDS tn.val 0 1 s t) ∧
      (s.flag Reg.TN_CIPH_STATUS_BLOCKED tn.val = false → marked = false → bitsOf h.toNat 62 1 = 1 → Counted Cnt.EXH_IDLE_RX tn.val 0 1 s t) ∧
      (s.flag Reg.TN_CIPH_STATUS_BLOCKED tn.val = false → marked = true → Counted Cnt.DAMAGED_UNITS tn.val 0 1 s t ∧ t.flag Reg.CIPH_EVENTS_DAMAGED = true) ∧
      (s.flag Reg.TN_CIPH_STATUS_BLOCKED tn.val = false → marked = false → bitsOf h.toNat 62 1 = 0 → s.rxCtx tn.val (bitsOf h.toNat 63 1 == 1) = none →
        Counted Cnt.AUTH_FAILS tn.val 0 1 s t ∧ (s.flag Reg.TN_CIPHER_ON_FAIL tn.val = false → t.flag Reg.TN_CIPH_STATUS_BLOCKED tn.val = true)) ∧
      (∀ c, s.flag Reg.TN_CIPH_STATUS_BLOCKED tn.val = false → marked = false → bitsOf h.toNat 62 1 = 0 → s.rxCtx tn.val (bitsOf h.toNat 63 1 == 1) = some c →
        (s.fetchCtx c).ctxState c ≠ 3 →
        (h.toNat % ctrEnd ≤ s.rxLast c → Counted Cnt.REPLAYS tn.val 0 1 s t ∧
          (s.flag Reg.TN_CIPHER_ON_FAIL tn.val = false → t.flag Reg.TN_CIPH_STATUS_BLOCKED tn.val = true)) ∧
        (s.rxLast c < h.toNat % ctrEnd → t.cipherTn tn.val = { s.cipherTn tn.val with rx := some { cls := .open_, header := h, ctx := c } })) := by
  rw [execCipherUnitRx_eq tn h marked s hon hrx]
  refine done_then fun t he _ => ⟨fun hb => ?_, fun hb hm hidle => ?_, fun hb hm => ?_, fun hb hm hreal hctx => ?_, fun c hb hm hreal hctx h3 => ⟨fun hrep => ?_, fun hnew => ?_⟩⟩
  · obtain ⟨hs, c, hk⟩ := headerClass_blocked (h := h) hb marked
    rw [hs, hk] at he
    exact he.touch.counted (rxClassed_blocked s tn.isLt h c) tn.isLt (by decide)
  · subst hm
    obtain ⟨hs, c, hk⟩ := headerClass_idle hb hidle
    rw [hs, hk] at he
    exact he.touch.counted (rxClassed_idle s tn.isLt h c) tn.isLt (by decide)
  · subst hm
    obtain ⟨hs, c, hk⟩ := headerClass_damaged (h := h) hb
    obtain ⟨hc, hev⟩ := rxClassed_damaged s tn.isLt h c
    rw [hs, hk] at he
    exact ⟨he.touch.counted hc tn.isLt (by decide), (he.touch.flag0 _ (by decide)).trans hev⟩
  · subst hm
    obtain ⟨hs, c, hk⟩ := headerClass_noContext hb hreal hctx
    obtain ⟨hc, hblock⟩ := rxClassed_noContext s tn.isLt h c
    rw [hs, hk] at he
    exact ⟨he.touch.counted hc tn.isLt (by decide), fun hf => (he.touch.flagRow _ tn.isLt (by decide)).trans (hblock hf)⟩
  · subst hm
    obtain ⟨hs, hk⟩ := headerClass_context tn.isLt hb hreal hctx h3
    obtain ⟨hc, hblock⟩ := rxClassed_replay (s.fetchCtx c) tn.isLt h c
    have hread := (fetchCtx_read s (rxCtx_lt hctx) h3).1
    rw [hs, hk, if_pos hrep] at he
    exact ⟨he.touch.counted (hread.counted_of hc tn.isLt (by decide)) tn.isLt (by decide),
      fun hf => (he.touch.flagRow _ tn.isLt (by decide)).trans (hblock ((hread.flagRow _ tn.isLt (by decide)).trans hf))⟩
  · subst hm
    obtain ⟨hs, hk⟩ := headerClass_context tn.isLt hb hreal hctx h3
    have hcip : (s.fetchCtx c).cip = s.cip := (fetchCtx_read s (rxCtx_lt hctx) h3).2.keeps State.cip fun _ _ _ _ => rfl
    rw [hs, hk, if_neg (Nat.not_le.mpr hnew)] at he
    have ht : t.cip = ((s.fetchCtx c).setCipherTn tn.val { (s.fetchCtx c).cipherTn tn.val with rx := some { cls := .open_, header := h, ctx := c } }).cip :=
      he.keeps State.cip fun _ _ _ _ _ _ _ => rfl
    rw [cipherTn_of_cip ht, ← cipherTn_of_cip hcip]
    exact cipherTn_setCipherTn _ _ _

/-! ### A received unit, by its tag (R416, R435–R440) -/

theorem startQuenchCtx_touch (s : State) {c : Nat} (hc : c < 1024) : Touch [Reg.CTX_STATUS_Q_STATE.patch 1024] s (s.startQuench 6 c) := by
  have hq : ∀ (v : State) x, Touch [Reg.CTX_STATUS_Q_STATE.patch 1024] v (v.setQuench 6 c x) := fun _ _ => .of_regs rfl
  have hset : Touch [Reg.CTX_STATUS_Q_STATE.patch 1024] s (s.setQState 6 c 1) :=
    (Touch.refl _ s).setRow (f := Reg.CTX_STATUS_Q_STATE) hc (by decide)
  unfold State.startQuench
  split
  · exact hset.trans (hq _ _)
  · exact hq _ _
  · exact hq _ _

def ctxLeavePatches : List Patch :=
  [Reg.CTX_STATUS_STATE.patch 1024, Reg.CTX_STATUS_TURNOUT.patch 1024, Reg.CTX_STATUS_SUCCESSOR.patch 1024, Reg.CTX_STATUS_Q_STATE.patch 1024]

theorem detachCtx_touch (s : State) {c : Nat} (hc : c < 1024) : Touch ctxLeavePatches s (s.detachCtx c) := by
  unfold State.detachCtx
  exact .ite (fun _ => .andThen ((((Touch.refl _ s).setRow hc (by decide)).setRow hc (by decide)).setRow hc (by decide)) (startQuenchCtx_touch _ hc) (by decide)) fun _ => .refl _ s

theorem refreshPipes_touch (s : State) : Touch [pagePatch 0x1A0040 16] s s.refreshPipes := by
  unfold State.refreshPipes
  refine Touch.foldl (fun p hp v => (Touch.refl _ v).setReg (pagePatch 0x1A0040 16) (by decide) (has_pagePatch ?_) rfl rfl) (.refl _ s)
  have := List.mem_range.mp hp
  omega

def rollPatches : List Patch := ctxLeavePatches ++
  [Reg.TN_CIPH_STATUS_CUR_CTX.patch 256, Reg.TN_CIPH_STATUS_NEXT_CTX.patch 256, Reg.TN_CIPH_STATUS_NEXT_VALID.patch 256, Reg.TN_CIPH_STATUS_TX_SWITCHED.patch 256,
    Reg.CIPH_EVENTS_ROLL_DONE.patch, pagePatch 0x1A0040 16] ++ Cnt.ROLLS.patches

theorem rollRetire_touch (s : State) {t : Nat} (ht : t < 256) : Touch rollPatches s (s.rollRetire t) := by
  have hold := get_lt s Reg.TN_CIPH_STATUS_CUR_CTX t 0
  have hnew := get_lt s Reg.TN_CIPH_STATUS_NEXT_CTX t 0
  generalize ho : s.get Reg.TN_CIPH_STATUS_CUR_CTX t = old at hold
  generalize hn : s.get Reg.TN_CIPH_STATUS_NEXT_CTX t = new at hnew
  have hleave : Touch rollPatches s ((s.detachCtx old).set Reg.CTX_STATUS_SUCCESSOR 0 new) := ((detachCtx_touch s hold).mono (by decide)).setRow hnew (by decide)
  have htn : ∀ (v : State) (x : CipherTurnout), Touch rollPatches v (v.setCipherTn t x) := fun _ _ => .of_regs rfl
  unfold State.rollRetire
  dsimp only
  rw [ho, hn]
  refine .ite (fun _ => ?_) fun _ => .refl _ s
  have h2 := ((((hleave.trans (htn _ { s.cipherTn t with newPhase := false })).setRow (f := Reg.TN_CIPH_STATUS_CUR_CTX) (v := new) ht (by decide)).setRow
    (f := Reg.TN_CIPH_STATUS_NEXT_CTX) (v := 0) ht (by decide)).setRow (f := Reg.TN_CIPH_STATUS_NEXT_VALID) (v := 0) ht (by decide)).setRow
    (f := Reg.TN_CIPH_STATUS_TX_SWITCHED) (v := 0) ht (by decide)
  exact .andThen (((h2.bump0 (by decide)).set0 (by decide)).log _ _ _) (refreshPipes_touch _) (by decide)

/-- What a good unit changes after RX_LAST and UNITS_OK. -/
def goodUnitPatches : List Patch := flipPatches ++ ctxPatches ++ rollPatches

/-- The registers of a good unit: RX_LAST, and UNITS_OK counts (R428, R435). -/
def State.unitAccepted (s : State) (t c ctr : Nat) : State := (s.setRxLast c ctr).bump Cnt.UNITS_OK t

theorem goodUnit_touch (s : State) {t c : Nat} (ht : t < 256) (hc : c < 1024) (ctr : Nat) (plain : List Byte) :
    Touch goodUnitPatches (s.unitAccepted t c ctr) (s.goodUnit t c ctr plain) := by
  have hmem : Touch goodUnitPatches (s.unitAccepted t c ctr) ((s.unitAccepted t c ctr).memWrites2 12 (ctxWord c) 2) := (memWritten_memWrites2 _ _ _ _).touch.mono (by decide)
  have htn : ∀ (v : State) (x : CipherTurnout), Touch goodUnitPatches v (v.setCipherTn t x) := fun _ _ => .of_regs rfl
  unfold State.goodUnit
  refine .andThen (.ite (fun _ => ?_) fun _ => ?_) (rollRetire_touch _ ht) (by decide)
  · exact (hmem.trans (htn _ _)).trans ((ctxExhaust_touch _ hc).mono (by decide))
  · exact (hmem.trans (htn _ _)).trans ((ctxWarn_touch _ hc).mono (by decide))

theorem goodUnit_shows (s : State) {t c ctr : Nat} (ht : t < 256) (hc : c < 1024) (hctr : ctr < ctrEnd) (plain : List Byte) :
    Counted Cnt.UNITS_OK t 0 1 s (s.goodUnit t c ctr plain) ∧ (s.goodUnit t c ctr plain).rxLast c = ctr := by
  have hlast : Touch [Reg.CTX_RX_LO_RX_LAST_LO.patch 1024, Reg.CTX_HI_RX_LAST_HI.patch 1024] s (s.setRxLast c ctr) := ((Touch.refl _ s).setRow hc (by decide)).setRow hc (by decide)
  have hbump : Touch Cnt.UNITS_OK.patches (s.setRxLast c ctr) (s.unitAccepted t c ctr) := (Touch.refl _ _).bumpRow ht (by decide)
  refine ⟨(goodUnit_touch s ht hc ctr plain).counted (hlast.counted_of (counted_bump _ _ _ _ _ (.inr rfl)) ht (by decide)) ht (by decide), ?_⟩
  rw [(goodUnit_touch s ht hc ctr plain).rxLast hc (by decide), hbump.rxLast hc (by decide), rxLast_setRxLast s c hctr]

/-- Outcomes of CIPHER_UNIT_END, by the tag and by whether the unit is damaged. -/
def State.unitJudged (s : State) (t : Nat) (u : RxUnit) (ct : List Byte) (tag : BitVec 128) (damaged : Bool) : State :=
  let ctr := u.header.toNat % ctrEnd
  let d := !s.flag Reg.CTX_STATUS_TX_DIR u.ctx
  let plain := gctr (s.keySlot (s.get Reg.CTX_STATUS_KEY u.ctx)).key (unitIv (s.salt u.ctx) d ctr) ct
  if tag = s.unitTag u.ctx d (bytesBe 8 u.header.toNat) ct then s.goodUnit t u.ctx ctr plain
  else if damaged then (((s.bump Cnt.DAMAGED_UNITS t).set Reg.CIPH_EVENTS_DAMAGED 1).badPackets t plain).1
  else ((s.bump Cnt.AUTH_FAILS t).set Reg.CIPH_EVENTS_AUTH_FAIL 1).authFail t 1 u.ctx ctr plain

theorem execCipherUnitEnd_eq (tn : Fin 256) (ct : List Byte) (tag : BitVec 128) (pad : BitVec 7) (marked failed : Bool) {u : RxUnit} {s : State}
    (hrx : (s.cipherTn tn.val).rx = some u) (hopen : u.cls = .open_) (hon : s.ciphered tn.val = true) (hatt : s.attached u.ctx = true ∨ s.qState 6 u.ctx = 1) :
    execCipherUnitEnd tn ct tag pad marked failed s =
      done s ((s.setCipherTn tn.val { s.cipherTn tn.val with rx := none }).unitJudged tn.val u ct tag (marked || failed)) := by
  have hgo : ¬(decide (u.cls ≠ .open_) || !s.ciphered tn.val || !(s.attached u.ctx || s.qState 6 u.ctx == 1)) = true := by
    rcases hatt with h | h
    · simp [hopen, hon, h]
    · simp [hopen, hon, h]
  unfold execCipherUnitEnd State.unitJudged
  simp only [hrx, if_neg hgo]
  split
  · rfl
  · split <;> rfl

/-- What is true of a received unit that its tag judges: RX_LAST, the counters, BLOCKED. -/
theorem unitJudged_bad (s : State) {t : Nat} (ht : t < 256) {u : RxUnit} (hc : u.ctx < 1024) (ct : List Byte) (tag : BitVec 128) (damaged : Bool)
    (hbad : tag ≠ s.unitTag u.ctx (!s.flag Reg.CTX_STATUS_TX_DIR u.ctx) (bytesBe 8 u.header.toNat) ct) :
    (s.unitJudged t u ct tag damaged).rxLast u.ctx = s.rxLast u.ctx ∧ (damaged = true → Counted Cnt.DAMAGED_UNITS t 0 1 s (s.unitJudged t u ct tag damaged)) ∧
    (damaged = false → Counted Cnt.AUTH_FAILS t 0 1 s (s.unitJudged t u ct tag damaged) ∧ (s.unitJudged t u ct tag damaged).flag Reg.CIPH_EVENTS_AUTH_FAIL = true ∧
      (s.flag Reg.TN_CIPHER_ON_FAIL t = false → (s.unitJudged t u ct tag damaged).flag Reg.TN_CIPH_STATUS_BLOCKED t = true)) := by
  unfold State.unitJudged
  dsimp only
  rw [if_neg hbad]
  generalize gctr _ _ ct = plain
  cases damaged with
  | true =>
    rw [if_pos rfl]
    have hset : Touch (Reg.CIPH_EVENTS_DAMAGED.patch :: Cnt.DAMAGED_UNITS.patches) s ((s.bump Cnt.DAMAGED_UNITS t).set Reg.CIPH_EVENTS_DAMAGED 1) :=
      ((Touch.refl _ s).bumpRow ht (by decide)).set0 (by decide)
    have hpk := badPackets_touch ((s.bump Cnt.DAMAGED_UNITS t).set Reg.CIPH_EVENTS_DAMAGED 1) ht plain
    exact ⟨(hpk.rxLast hc (by decide)).trans (hset.rxLast hc (by decide)), fun _ => counted_set rfl ht hpk (by decide) (by decide), fun h => absurd h (by decide)⟩
  | false =>
    rw [if_neg (by decide)]
    have hset : Touch (Reg.CIPH_EVENTS_AUTH_FAIL.patch :: Cnt.AUTH_FAILS.patches) s ((s.bump Cnt.AUTH_FAILS t).set Reg.CIPH_EVENTS_AUTH_FAIL 1) :=
      ((Touch.refl _ s).bumpRow ht (by decide)).set0 (by decide)
    have hfail := authFail_touch ((s.bump Cnt.AUTH_FAILS t).set Reg.CIPH_EVENTS_AUTH_FAIL 1) ht 1 u.ctx (u.header.toNat % ctrEnd) plain
    refine ⟨(hfail.rxLast hc (by decide)).trans (hset.rxLast hc (by decide)), fun h => absurd h (by decide), fun _ => ⟨counted_set rfl ht hfail (by decide) (by decide), ?_, fun hf => ?_⟩⟩
    · exact (hfail.flag0 _ (by decide)).trans ((flag_set_self _ _ _ _ _ (by decide)).trans rfl)
    · exact authFail_blocks _ ht _ _ _ _ ((hset.flagRow _ ht (by decide)).trans hf)

/-! ### Keys (R421–R424, R441–R443) -/

/-- A command on the key bus, with no activation load before it. -/
theorem keyCommand_then {mb op : Nat} {p : List Byte} {s u : State} {r : Reply} {f : State → List Byte → State × Reply} {P : State → Prop} (hreq : s.request mb op = some p)
    (hon : s.blocksOff = false) (hfree : s.busLoads = false) (hf : f (s.serving mb) p = (u, r)) (h : ∀ t, Ended [0x12014] s (u.busPush { activation := false }) t →
    Answered mb r (u.busPush { activation := false }) t → P t) : ∃ t, keyCommand mb op s f = .next t ∧ P t := by
  unfold keyCommand
  have hon' : (s.serving mb).blocksOff = false := hon
  have hfree' : (s.serving mb).busLoads = false := hfree
  refine actLong_then (u := u.busPush { activation := false }) (r := r) hreq ?_ h
  rw [hon', hfree', hf]
  rfl

theorem kcv_lt (key : List Byte) : kcv key < 2 ^ 32 := by
  unfold kcv
  exact (le_lt 4 _ 0).trans_eq rfl

/-- A key goes into an empty slot: one more is used (R423). -/
def State.countSlot (s : State) (k : Nat) : State := if s.get Reg.KS_STATUS_STATE k = 0 then s.set Reg.CIPH_STATUS_SLOTS_USED (s.get Reg.CIPH_STATUS_SLOTS_USED + 1) else s

/-- The slot of a key, its use and its check value. -/
def State.putKey (s : State) (k use : Nat) (key : List Byte) (hw : Nat) : State :=
  ((s.setKeySlot k { key := keyOf key, hw := hw }).set Reg.KS_STATUS_STATE use k).set Reg.KS_KCV_KCV (kcv key) k

theorem placeKey_eq (s : State) (k use : Nat) (key : List Byte) (hw : Nat) : s.placeKey k use key hw = ((s.countSlot k).putKey k use key hw).memWrites2 12 (keyWord k) 4 := rfl

theorem putKey_slot (s : State) (k use : Nat) (key : List Byte) (hw : Nat) : (s.putKey k use key hw).keySlot k = { key := keyOf key, hw := hw } := by
  unfold State.putKey State.keySlot
  rw [set_cip, set_cip]
  generalize keyOf key = b
  exact tget_tput_self _ _ _ _

theorem putKey_shows (s : State) {k use : Nat} (huse : use < 4) (key : List Byte) (hw : Nat) :
    (s.putKey k use key hw).get Reg.KS_STATUS_STATE k = use ∧ (s.putKey k use key hw).get Reg.KS_KCV_KCV k = kcv key := by
  unfold State.putKey
  rw [get_set_ne _ _ _ _ _ _ _ _ (by decide) (.inl (by simp only [Field.addr, Reg.KS_STATUS_STATE, Reg.KS_KCV_KCV]; omega)), get_set_self _ _ _ _ _ (by decide),
    get_set_self _ _ _ _ _ (by decide)]
  have hlt := kcv_lt key
  generalize kcv key = n at hlt ⊢
  exact ⟨Nat.mod_eq_of_lt huse, Nat.mod_eq_of_lt hlt⟩

theorem placeKey_shows (s : State) {k use : Nat} (hk : k < 512) (huse : use < 4) (key : List Byte) (hw : Nat) :
    (s.placeKey k use key hw).keySlot k = { key := keyOf key, hw := hw } ∧ (s.placeKey k use key hw).get Reg.KS_STATUS_STATE k = use ∧
      (s.placeKey k use key hw).get Reg.KS_KCV_KCV k = kcv key := by
  obtain ⟨hstate, hkcv⟩ := putKey_shows (s.countSlot k) (k := k) huse key hw
  have hmem := memWritten_memWrites2 ((s.countSlot k).putKey k use key hw) 12 (keyWord k) 4
  rw [placeKey_eq]
  refine ⟨?_, (hmem.touch.getRow _ hk (by decide)).trans hstate, (hmem.touch.getRow _ hk (by decide)).trans hkcv⟩
  rw [← putKey_slot (s.countSlot k) k use key hw]
  unfold State.keySlot
  rw [hmem.cip]

def placeKeyPatches : List Patch := [Reg.CIPH_STATUS_SLOTS_USED.patch, Reg.KS_STATUS_STATE.patch 512, Reg.KS_KCV_KCV.patch 512] ++ flipPatches

theorem putSlot_touch (s : State) {k : Nat} (hk : k < 512) (x : KeySlot) (use n : Nat) :
    Touch placeKeyPatches s (((s.setKeySlot k x).set Reg.KS_STATUS_STATE use k).set Reg.KS_KCV_KCV n k) := by
  have hslot : Touch placeKeyPatches s (s.setKeySlot k x) := .of_regs rfl
  exact (hslot.setRow hk (by decide)).setRow hk (by decide)

theorem countSlot_touch (s : State) (k : Nat) : Touch placeKeyPatches s (s.countSlot k) := by
  unfold State.countSlot
  exact .ite (fun _ => (Touch.refl _ s).set0 (by decide)) fun _ => .refl _ s

theorem placeKey_touch (s : State) {k : Nat} (hk : k < 512) (use : Nat) (key : List Byte) (hw : Nat) : Touch placeKeyPatches s (s.placeKey k use key hw) := by
  rw [placeKey_eq]
  exact .andThen ((countSlot_touch s k).trans (putSlot_touch _ hk _ use _)) (memWritten_memWrites2 _ _ _ _).touch (by decide)

/-- KEY_IMPORT of a key that unwraps, into an empty slot (R423). -/
theorem importKey_stores (s : State) {p key : List Byte} (hk : u16 p 0 < 512) (hkek : u16 p 2 < 512) (huse : u8 p 4 = 1 ∨ u8 p 4 = 2) (h0 : s.k0Denied (u16 p 2) = false)
    (his : s.isKek (u16 p 2) = true) (hempty : s.get Reg.KS_STATUS_STATE (u16 p 0) = 0) (hkey : keyUnwrap (s.keySlot (u16 p 2)).key ((p.drop 8).take 40) = some key) :
    s.importKey p = ((s.placeKey (u16 p 0) (u8 p 4) (key.take 32) 0).bump Cnt.KEY_IMPORTS, okD (bytes 4 (kcv (key.take 32)))) := by
  obtain ⟨-, -, hkcv⟩ := placeKey_shows s hk (use := u8 p 4) (by omega) (key.take 32) 0
  have hany : (List.range 512).any s.isKek = true := List.any_eq_true.mpr ⟨_, List.mem_range.mpr hkek, his⟩
  have hbump : ∀ u : State, (u.bump Cnt.KEY_IMPORTS).get Reg.KS_KCV_KCV (u16 p 0) = u.get Reg.KS_KCV_KCV (u16 p 0) := fun u =>
    (Touch.bump0 (l := Cnt.KEY_IMPORTS.patches) (.refl _ u) (by decide)).getRow _ hk (by decide)
  unfold State.importKey
  simp [hany, h0, hempty, his, hkey, hbump, hkcv]

theorem verifyTag_verifies (s : State) {p : List Byte} (hv : s.flag Reg.CTX_STATUS_KEY_VALID (u16 p 0) = true) (h0 : s.k0Denied (s.get Reg.CTX_STATUS_KEY (u16 p 0)) = false) :
    (s.verifyTag p).2 = okD [BitVec.ofNat 8 (b2n (BitVec.ofNat 128 (be 16 p 12) ==
        s.unitTag (u16 p 0) (!s.flag Reg.CTX_STATUS_TX_DIR (u16 p 0)) ((p.drop 4).take 8) (p.drop 28))), 0, 0, 0] ∧ Counted Cnt.VERIFY_REQS 0 0 1 s (s.verifyTag p).1 := by
  have hfails : ∀ good : Bool, Touch Cnt.VERIFY_FAILS.patches (s.bump Cnt.VERIFY_REQS) (if good then s.bump Cnt.VERIFY_REQS else (s.bump Cnt.VERIFY_REQS).bump Cnt.VERIFY_FAILS) :=
    fun _ => .ite (fun _ => .refl _ _) fun _ => (Touch.refl _ _).bump0 (by decide)
  unfold State.verifyTag
  dsimp only
  rw [hv, h0, if_neg (by decide)]
  generalize (BitVec.ofNat 128 (be 16 p 12) == s.unitTag (u16 p 0) (!s.flag Reg.CTX_STATUS_TX_DIR (u16 p 0)) ((p.drop 4).take 8) (p.drop 28)) = good
  exact ⟨rfl, (hfails _).counted (counted_bump _ _ _ _ _ (.inl rfl)) (by decide) (by decide)⟩

theorem verifyTag_rest (s : State) (p : List Byte) : RegsLogs s (s.verifyTag p).1 := by
  have h1 := (RegsLogs.refl s).bump Cnt.VERIFY_REQS 0 0 1
  unfold State.verifyTag
  dsimp only
  split
  · exact .refl s
  · dsimp only
    split
    · exact h1
    · exact h1.bump Cnt.VERIFY_FAILS 0 0 1

theorem keySlot_of_keys {s u : State} (h : u.cip.keys = s.cip.keys) (k : Nat) : u.keySlot k = s.keySlot k := by
  unfold State.keySlot
  rw [h]

theorem placeKey_mbs (s : State) (k use : Nat) (key : List Byte) (hw : Nat) : (s.placeKey k use key hw).mbs = s.mbs := by
  have hslot : ∀ (v : State) (x : KeySlot), (v.setKeySlot k x).mbs = v.mbs := fun _ _ => rfl
  rw [placeKey_eq, (memWritten_memWrites2 _ _ _ _).mbs]
  unfold State.putKey
  rw [set_mbs, set_mbs, hslot]
  unfold State.countSlot
  exact ite_keeps State.mbs rfl rfl

/-- What the tag of a unit depends on: the context's key slot, the keys, the salts. -/
theorem unitTag_of {s u : State} {c : Nat} (hkey : u.get Reg.CTX_STATUS_KEY c = s.get Reg.CTX_STATUS_KEY c) (hkeys : u.cip.keys = s.cip.keys) (hsalts : u.cip.salts = s.cip.salts)
    {d : Bool} {h ct : List Byte} : u.unitTag c d h ct = s.unitTag c d h ct := by
  unfold State.unitTag State.keySlot State.salt
  rw [hkey, hkeys, hsalts]

/-- Transfers on the key bus leave the tag of CIPHER_VERIFY. -/
theorem verifyTag_of_bus (s : State) (bus : List KeyTransfer) (since : Nat) (p : List Byte) :
    (({ s with cip := { s.cip with bus := bus, busSince := since } } : State).verifyTag p).2 = (s.verifyTag p).2 := by
  have hflag : ∀ (f : Field) (i : Nat), ({ s with cip := { s.cip with bus := bus, busSince := since } } : State).flag f i = s.flag f i := fun _ _ => rfl
  have hget : ∀ (f : Field) (i : Nat), ({ s with cip := { s.cip with bus := bus, busSince := since } } : State).get f i = s.get f i := fun _ _ => rfl
  have hdenied : ∀ k, ({ s with cip := { s.cip with bus := bus, busSince := since } } : State).k0Denied k = s.k0Denied k := fun _ => rfl
  have htag : ∀ c d h ct, ({ s with cip := { s.cip with bus := bus, busSince := since } } : State).unitTag c d h ct = s.unitTag c d h ct := fun c d h ct =>
    unitTag_of (hget _ _) rfl rfl
  generalize ({ s with cip := { s.cip with bus := bus, busSince := since } } : State) = u at hflag hget hdenied htag ⊢
  unfold State.verifyTag
  dsimp only
  rw [hflag, hflag, hget, hdenied, htag]
  split <;> rfl

/-! ### The received unit has ended -/

theorem badPackets_rx (s : State) (t : Nat) (plain : List Byte) : ((s.badPackets t plain).1.cipherTn t).rx = (s.cipherTn t).rx := by
  have hbump : ∀ (v : State) (c : Ctr) (i n : Nat), (v.bump c i 0 n).cipherTn t = v.cipherTn t := fun v c i n =>
    (regsLogs_bump v c i 0 n).keeps (fun z => z.cipherTn t) fun _ _ _ => rfl
  unfold State.badPackets
  dsimp only
  split
  · unfold State.unitErrBlocks
    split
    · rw [hbump]
    · rfl
  · split
    · dsimp only
      split
      · rw [cipherTn_setCipherTn]
      · rw [hbump, cipherTn_setCipherTn]
    · dsimp only
      have h3 : ∀ v : State, (v.cipherTn t).rx = (s.cipherTn t).rx → ∀ x, ((v.setCipherTn t { v.cipherTn t with inbox := x }).cipherTn t).rx = (s.cipherTn t).rx := fun v hv x => by
        rw [cipherTn_setCipherTn]
        exact hv
      have h2 : ∀ (c : Prop) [Decidable c] (n : Nat), ((if c then s.setCipherTn t { s.cipherTn t with openPkt := none } else
          (s.setCipherTn t { s.cipherTn t with openPkt := none }).bump Cnt.RELEASED_UNVERIFIED t 0 n).cipherTn t).rx = (s.cipherTn t).rx := fun c _ n => by
        split
        · rw [cipherTn_setCipherTn]
        · rw [hbump, cipherTn_setCipherTn]
      split
      · rw [hbump]
        exact h3 _ (h2 _ _) _
      · exact h3 _ (h2 _ _) _

theorem authFail_rx (s : State) (t cls c ctr : Nat) (plain : List Byte) : ((s.authFail t cls c ctr plain).cipherTn t).rx = (s.cipherTn t).rx := by
  have hlog : (((s.badPackets t plain).1.logAuth t cls c ctr (s.badPackets t plain).2.1 (s.badPackets t plain).2.2).cipherTn t) = (s.badPackets t plain).1.cipherTn t :=
    (regsLogs_log _ _ _ _).keeps (fun z => z.cipherTn t) fun _ _ _ => rfl
  have hset : ∀ v : State, ((v.set Reg.TN_CIPH_STATUS_BLOCKED 1 t).set Reg.CIPH_EVENTS_BLOCKED 1).cipherTn t = v.cipherTn t := fun v =>
    (((RegsLogs.refl v).set Reg.TN_CIPH_STATUS_BLOCKED 1 t 0).set Reg.CIPH_EVENTS_BLOCKED 1 0 0).keeps (fun z => z.cipherTn t) fun _ _ _ => rfl
  unfold State.authFail
  dsimp only
  split
  · rw [hlog, badPackets_rx]
  · rw [hset, hlog, badPackets_rx]

theorem refreshPipes_rest (s : State) : RegsLogs s s.refreshPipes := by
  have key : ∀ (l : List Nat) (v : State) (g : State → Nat → Word), RegsLogs v (l.foldl (fun v p => v.setReg (0x1A0040 + 4 * p) (g v p)) v) := fun l => by
    induction l with
    | nil => exact fun v _ => .refl v
    | cons p l ih => exact fun v g => (regsLogs_setReg v _ _).trans (ih _ g)
  exact key _ s _

theorem rollRetire_rx (s : State) (t : Nat) : ((s.rollRetire t).cipherTn t).rx = (s.cipherTn t).rx := by
  have hset : ∀ (v : State) (f : Field) (x i : Nat), (v.set f x i).cipherTn t = v.cipherTn t := fun v f x i => (regsLogs_set v f x i 0).keeps (fun z => z.cipherTn t) fun _ _ _ => rfl
  have hbump : ∀ v : State, (v.bump Cnt.ROLLS).cipherTn t = v.cipherTn t := fun v => (regsLogs_bump v Cnt.ROLLS 0 0 1).keeps (fun z => z.cipherTn t) fun _ _ _ => rfl
  have hlog : ∀ (v : State) d, (v.log wbCipher 0x44 d).cipherTn t = v.cipherTn t := fun v d => (regsLogs_log v _ _ _).keeps (fun z => z.cipherTn t) fun _ _ _ => rfl
  have hpipes : ∀ v : State, v.refreshPipes.cipherTn t = v.cipherTn t := fun v => (refreshPipes_rest v).keeps (fun z => z.cipherTn t) fun _ _ _ => rfl
  unfold State.rollRetire
  dsimp only
  split
  · rw [hpipes, hlog, hset, hbump, hset, hset, hset, hset, cipherTn_setCipherTn]
  · rfl

theorem goodUnit_rx (s : State) (t c ctr : Nat) (plain : List Byte) : ((s.goodUnit t c ctr plain).cipherTn t).rx = (s.cipherTn t).rx := by
  have hend : ∀ (last : Prop) [Decidable last] (u : State), (if last then u.ctxExhaust c else u.ctxWarn c).cip = u.cip := fun last _ u => by
    split
    · exact ctxExhaust_cip u c
    · exact ctxWarn_cip u c
  unfold State.goodUnit
  dsimp only
  rw [rollRetire_rx, cipherTn_of_cip (hend _ _), cipherTn_setCipherTn]

theorem unitJudged_rx (s : State) (t : Nat) (u : RxUnit) (ct : List Byte) (tag : BitVec 128) (damaged : Bool) :
    ((s.unitJudged t u ct tag damaged).cipherTn t).rx = (s.cipherTn t).rx := by
  have hcount : ∀ (c : Ctr) (f : Field), ((s.bump c t).set f 1).cipherTn t = s.cipherTn t := fun c f =>
    (((RegsLogs.refl s).bump c t 0 1).set f 1 0 0).keeps (fun z => z.cipherTn t) fun _ _ _ => rfl
  unfold State.unitJudged
  dsimp only
  split
  · exact goodUnit_rx _ _ _ _ _
  · split
    · rw [badPackets_rx, hcount]
    · rw [authFail_rx, hcount]

/-- CIPHER_UNIT_END judges by the tag (R416, R435–R439). -/
theorem cipherUnitEnd_judges (tn : Fin 256) (ct : List Byte) (tag : BitVec 128) (pad : BitVec 7) (marked failed : Bool) {damaged : Bool} {u : RxUnit} {s : State}
    (hdam : damaged = (marked || failed)) (hrx : (s.cipherTn tn.val).rx = some u) (hopen : u.cls = .open_) (hu : u.ctx < 1024) (hon : s.ciphered tn.val = true)
    (hatt : s.attached u.ctx = true ∨ s.qState 6 u.ctx = 1) :
    ∃ t, execCipherUnitEnd tn ct tag pad marked failed s = .next t ∧ (t.cipherTn tn.val).rx = none ∧
      (tag = s.unitTag u.ctx (!s.flag Reg.CTX_STATUS_TX_DIR u.ctx) (bytesBe 8 u.header.toNat) ct →
        Counted Cnt.UNITS_OK tn.val 0 1 s t ∧ t.rxLast u.ctx = u.header.toNat % ctrEnd) ∧
      (tag ≠ s.unitTag u.ctx (!s.flag Reg.CTX_STATUS_TX_DIR u.ctx) (bytesBe 8 u.header.toNat) ct → t.rxLast u.ctx = s.rxLast u.ctx ∧
        (damaged = true → Counted Cnt.DAMAGED_UNITS tn.val 0 1 s t) ∧
        (damaged = false → Counted Cnt.AUTH_FAILS tn.val 0 1 s t ∧ t.flag Reg.CIPH_EVENTS_AUTH_FAIL = true ∧
          (s.flag Reg.TN_CIPHER_ON_FAIL tn.val = false → t.flag Reg.TN_CIPH_STATUS_BLOCKED tn.val = true))) := by
  rw [execCipherUnitEnd_eq tn ct tag pad marked failed hrx hopen hon hatt, ← hdam]
  have htn : (s.setCipherTn tn.val { s.cipherTn tn.val with rx := none }).unitTag u.ctx (!s.flag Reg.CTX_STATUS_TX_DIR u.ctx) (bytesBe 8 u.header.toNat) ct =
      s.unitTag u.ctx (!s.flag Reg.CTX_STATUS_TX_DIR u.ctx) (bytesBe 8 u.header.toNat) ct := unitTag_of (setCipherTn_get _ _ _ _ _ _) rfl rfl
  have hrx' : ((s.setCipherTn tn.val { s.cipherTn tn.val with rx := none }).cipherTn tn.val).rx = none := congrArg CipherTurnout.rx (cipherTn_setCipherTn s tn.val _)
  generalize hs1 : s.setCipherTn tn.val { s.cipherTn tn.val with rx := none } = s1 at htn hrx' ⊢
  have hcount : ∀ c : Ctr, s1.count c tn.val = s.count c tn.val := fun c => by rw [← hs1, setCipherTn_count]
  have hflag : ∀ f : Field, s1.flag f tn.val = s.flag f tn.val := fun f => by rw [← hs1, setCipherTn_flag]
  have hdir : s1.flag Reg.CTX_STATUS_TX_DIR u.ctx = s.flag Reg.CTX_STATUS_TX_DIR u.ctx := by rw [← hs1, setCipherTn_flag]
  have hlast : s1.rxLast u.ctx = s.rxLast u.ctx := by
    rw [← hs1]
    exact Touch.rxLast (l := []) (.of_regs rfl) hu (by decide)
  refine done_then fun t he _ => ⟨?_, fun hgood => ?_, fun hbad => ?_⟩
  · rw [cipherTn_of_cip (he.keeps State.cip fun _ _ _ _ _ _ _ => rfl)]
    exact (unitJudged_rx s1 tn.val u ct tag damaged).trans hrx'
  · have heq : s1.unitJudged tn.val u ct tag damaged = s1.goodUnit tn.val u.ctx (u.header.toNat % ctrEnd) _ := if_pos (by rw [hdir, htn]; exact hgood)
    obtain ⟨hok, hl⟩ := goodUnit_shows s1 tn.isLt hu (ctr := u.header.toNat % ctrEnd) (Nat.mod_lt _ (by decide))
      (gctr (s1.keySlot (s1.get Reg.CTX_STATUS_KEY u.ctx)).key (unitIv (s1.salt u.ctx) (!s1.flag Reg.CTX_STATUS_TX_DIR u.ctx) (u.header.toNat % ctrEnd)) ct)
    rw [heq] at he
    exact ⟨he.touch.counted (counted_of_count hok (hcount _) rfl) tn.isLt (by decide), (he.touch.rxLast hu (by decide)).trans hl⟩
  · obtain ⟨hl, hd, ha⟩ := unitJudged_bad s1 tn.isLt hu ct tag damaged (by rw [hdir, htn]; exact hbad)
    refine ⟨(he.touch.rxLast hu (by decide)).trans (hl.trans hlast), fun h => he.touch.counted (counted_of_count (hd h) (hcount _) rfl) tn.isLt (by decide), fun h => ?_⟩
    obtain ⟨hc, hev, hb⟩ := ha h
    exact ⟨he.touch.counted (counted_of_count hc (hcount _) rfl) tn.isLt (by decide), (he.touch.flag0 _ (by decide)).trans hev,
      fun hf => (he.touch.flagRow _ tn.isLt (by decide)).trans (hb ((hflag _).trans hf))⟩

/-- A command of the key bus that is carried out leaves the bus. -/
theorem importKey_bus (s : State) (p : List Byte) : (s.importKey p).1.cip.bus = s.cip.bus ∧ (s.importKey p).1.cip.busSince = s.cip.busSince := by
  have hplace : ∀ k use key, ((s.placeKey k use key 0).bump Cnt.KEY_IMPORTS).cip.bus = s.cip.bus ∧ ((s.placeKey k use key 0).bump Cnt.KEY_IMPORTS).cip.busSince = s.cip.busSince :=
    fun k use key => by
      have hbump : ((s.placeKey k use key 0).bump Cnt.KEY_IMPORTS).cip = (s.placeKey k use key 0).cip := (regsLogs_bump _ _ _ _ _).keeps State.cip fun _ _ _ => rfl
      have hslot : ∀ (v : State) (x : KeySlot), (v.setKeySlot k x).cip.bus = v.cip.bus ∧ (v.setKeySlot k x).cip.busSince = v.cip.busSince := fun _ _ => ⟨rfl, rfl⟩
      have hcount : (s.countSlot k).cip = s.cip := by
        unfold State.countSlot
        exact ite_keeps State.cip rfl rfl
      rw [hbump, placeKey_eq, (memWritten_memWrites2 _ _ _ _).cip]
      unfold State.putKey
      rw [set_cip, set_cip, (hslot _ _).1, (hslot _ _).2, hcount]
      exact ⟨rfl, rfl⟩
  have hfail : ∀ slot kek, (s.unwrapFailed slot kek).cip = s.cip := fun slot kek =>
    ((((RegsLogs.refl s).bump Cnt.UNWRAP_FAILS 0 0 1).set Reg.CIPH_EVENTS_UNWRAP_FAIL 1 0 0).log _ _ _).keeps State.cip fun _ _ _ => rfl
  unfold State.importKey
  dsimp only
  split
  · exact ⟨rfl, rfl⟩
  · split
    · exact ⟨rfl, rfl⟩
    · split
      · rw [hfail]
        exact ⟨rfl, rfl⟩
      · exact hplace _ _ _

theorem keyCarried_bus (s : State) (m : Mailbox) : (if m.opcode = 0x0701 then s.importKey m.payload else s.verifyTag m.payload).1.cip.bus = s.cip.bus ∧
    (if m.opcode = 0x0701 then s.importKey m.payload else s.verifyTag m.payload).1.cip.busSince = s.cip.busSince := by
  split
  · exact importKey_bus s _
  · rw [(verifyTag_rest s m.payload).keeps State.cip fun _ _ _ => rfl]
    exact ⟨rfl, rfl⟩

/-- KEY_TRANSFER_DONE frees the bus, and a command that waited for it goes on. -/
theorem keyTransferDone_frees {x : KeyTransfer} {rest : List KeyTransfer} {s : State} (hbus : s.cip.bus = x :: rest) (hdue : s.cip.busSince + 832 ≤ s.clock) :
    ∃ u : State, u.mbs = s.mbs ∧ u.regs = s.regs ∧ u.cip.bus = rest ∧ u.cip.busSince = s.clock ∧ (∀ q, (u.verifyTag q).2 = (s.verifyTag q).2) ∧
      (x.mb = none → execKeyTransferDone s = done s u) ∧
      (∀ mb, x.mb = some mb → execKeyTransferDone s = if (u.mbox mb).phase ≠ .running then done s u
        else done s ((if (u.mbox mb).opcode = 0x0701 then u.importKey (u.mbox mb).payload else u.verifyTag (u.mbox mb).payload).1.answer mb
          (if (u.mbox mb).opcode = 0x0701 then u.importKey (u.mbox mb).payload else u.verifyTag (u.mbox mb).payload).2)) := by
  refine ⟨{ s with cip := { s.cip with bus := rest, busSince := s.clock } }, rfl, rfl, rfl, rfl, verifyTag_of_bus s rest s.clock, fun hx => ?_, fun mb hx => ?_⟩
  all_goals
    unfold execKeyTransferDone
    simp only [hbus, hx, if_neg (show ¬ s.clock < s.cip.busSince + nsT 64 from Nat.not_lt.mpr hdue)]

/-- KEY_TRANSFER_DONE ends the transfer in progress (R39, R421, R441). -/
theorem keyTransferDone_ends {x : KeyTransfer} {rest : List KeyTransfer} {s : State} (hbus : s.cip.bus = x :: rest) (hdue : s.cip.busSince + 832 ≤ s.clock) :
    ∃ t, execKeyTransferDone s = .next t ∧ t.cip.bus = rest ∧ t.cip.busSince = s.clock ∧ (x.mb = none → RegsKept [] s t ∧ t.mbs = s.mbs) ∧
      (∀ mb, x.mb = some mb → (s.mbox mb).phase = .running → (s.mbox mb).opcode = 0x070B → Answered mb (s.verifyTag (s.mbox mb).payload).2 s t) := by
  obtain ⟨u, hmbs, hregs, hrest, hsince, htag, hnone, hsome⟩ := keyTransferDone_frees hbus hdue
  cases hx : x.mb with
  | none =>
    rw [hnone hx]
    exact done_then fun t he ht => ⟨(he.keeps (fun z => z.cip.bus) fun _ _ _ _ _ _ _ => rfl).trans hrest, (he.keeps (fun z => z.cip.busSince) fun _ _ _ _ _ _ _ => rfl).trans hsince,
      fun _ => ⟨fun a ha hq => (he.kept a ha hq).trans (congrFun (congrArg (fun r => (State.reg { s with regs := r })) hregs) a), ht.trans hmbs⟩, fun mb h => absurd h (by simp)⟩
  | some mb =>
    have hm : u.mbox mb = s.mbox mb := mbox_congr hmbs mb
    rw [hsome mb hx, hm]
    by_cases hrun : (s.mbox mb).phase = .running
    · rw [if_neg (not_not.mpr hrun)]
      obtain ⟨hbus1, hsince1⟩ := keyCarried_bus u (s.mbox mb)
      refine done_answer_then fun t he hans => ⟨?_, ?_, fun h => absurd h (by simp), fun mb' h _ hop => ?_⟩
      · exact (he.keeps (fun z => z.cip.bus) fun _ _ _ _ _ _ _ => rfl).trans (hbus1.trans hrest)
      · exact (he.keeps (fun z => z.cip.busSince) fun _ _ _ _ _ _ _ => rfl).trans (hsince1.trans hsince)
      · obtain rfl := Option.some.inj h
        rw [if_neg (by rw [hop]; decide)] at hans
        rw [← htag]
        exact hans.of_mbs (((verifyTag_rest u _).keeps State.mbs fun _ _ _ => rfl).trans hmbs)
    · rw [if_pos hrun]
      exact done_then fun t he _ => ⟨(he.keeps (fun z => z.cip.bus) fun _ _ _ _ _ _ _ => rfl).trans hrest, (he.keeps (fun z => z.cip.busSince) fun _ _ _ _ _ _ _ => rfl).trans hsince,
        fun h => absurd h (by simp), fun mb' h hr _ => absurd (Option.some.inj h ▸ hr) hrun⟩

/-- Settles O50. -/
theorem cipherUnitsAreSentJudgedAndKeyed : Obligations.CipherUnitsAreSentJudgedAndKeyed := by
  unfold Obligations.CipherUnitsAreSentJudgedAndKeyed
  refine ⟨fun tn given plain c s hon hfits hplain hc hatt => ⟨fun h3 => ?_, fun h3 => ?_⟩, cipherUnitRx_judges, fun tn ct tag pad marked failed damaged u s hdam hrx hopen hu hon hatt => ?_,
    fun mb p key s hreq hoff hk hkek huse h0 his hempty hkey => ⟨fun hfree => ?_, fun hload => ?_⟩, fun mb p s hreq hoff hfree hv h0 => ?_, fun x rest s hbus hdue => ?_,
    fun mb p s hreq hoff => ?_⟩
  · subst hc hplain
    have hcl := txCtx_lt s tn.val
    have hread := fetchCtx_read s hcl h3
    obtain ⟨-, hregs, hcip⟩ := unitPlain_of_read tn.isLt hread given
    have htouch : Touch memReadPatches s ((s.fetchCtx (s.txCtx tn.val)).unitPlain tn.val given).2 := hread.1.same hregs
    obtain ⟨hctr, hexh, hlast, hsent⟩ := sendUnit_shows ((s.fetchCtx (s.txCtx tn.val)).unitPlain tn.val given).2 tn.isLt hcl (s.unitPlain tn.val given).1
    rw [htouch.txCtr hcl (by decide)] at hctr hlast
    rw [unitSent_of_read tn.isLt hcl htouch (hcip.trans (hread.2.keeps State.cip fun _ _ _ _ => rfl))] at hsent
    show ∃ t, execCipherUnitTx tn given s = _ ∧ _
    rw [cipherUnitTx_sends tn given s hon hfits hatt h3]
    refine done_then fun t he _ => ⟨(he.touch.txCtr hcl (by decide)).trans hctr, (he.touch.flagRow _ tn.isLt (by decide)).trans hexh,
      fun h => (he.touch.getRow _ hcl (by decide)).trans (hlast h), ?_⟩
    rw [cipherTn_of_cip (he.keeps State.cip fun _ _ _ _ _ _ _ => rfl), hsent]
    rfl
  · subst hc
    obtain ⟨hcount, hexh, hctr⟩ := sendIdle_shows s tn.isLt (txCtx_lt s tn.val) given.length
    show ∃ t, execCipherUnitTx tn given s = _ ∧ _
    unfold execCipherUnitTx
    dsimp only
    rw [hon, hfits, hatt, if_pos h3, if_neg (by decide), if_pos h3]
    exact done_then fun t he _ => ⟨he.touch.counted hcount tn.isLt (by decide), (he.touch.flagRow _ tn.isLt (by decide)).trans hexh, (he.touch.txCtr (txCtx_lt s tn.val) (by decide)).trans hctr⟩
  · exact cipherUnitEnd_judges tn ct tag pad marked failed hdam hrx hopen hu hon hatt
  · show ∃ t, execKeyImport mb s = _ ∧ _
    obtain ⟨hslot, hstate, -⟩ := placeKey_shows (s.serving mb.val) hk (use := u8 p 4) (by omega) (key.take 32) 0
    have hplace := placeKey_touch (s.serving mb.val) hk (u8 p 4) (key.take 32) 0
    have hmbs : ((s.serving mb.val).placeKey (u16 p 0) (u8 p 4) (key.take 32) 0).mbs = s.mbs := placeKey_mbs _ _ _ _ _
    have hf := importKey_stores (s.serving mb.val) hk hkek huse h0 his hempty hkey
    unfold execKeyImport
    generalize (s.serving mb.val).placeKey (u16 p 0) (u8 p 4) (key.take 32) 0 = v at hslot hstate hplace hmbs hf
    have hbump : Touch Cnt.KEY_IMPORTS.patches v (v.bump Cnt.KEY_IMPORTS) := (Touch.refl _ v).bump0 (by decide)
    have hpush : Touch [] (v.bump Cnt.KEY_IMPORTS) ((v.bump Cnt.KEY_IMPORTS).busPush { activation := false }) := .of_regs rfl
    refine keyCommand_then hreq hoff hfree hf fun t he hans => ⟨hans.of_mbs (by
      rw [← hmbs]
      exact (regsLogs_bump v Cnt.KEY_IMPORTS 0 0 1).keeps State.mbs fun _ _ _ => rfl), ?_, ?_, ?_⟩
    · rw [keySlot_of_keys ((he.keeps (fun z => z.cip.keys) fun _ _ _ _ _ _ _ => rfl).trans ((regsLogs_bump v Cnt.KEY_IMPORTS 0 0 1).keeps (fun z => z.cip.keys) fun _ _ _ => rfl)), hslot]
    · rw [he.answer_touch.getRow _ hk (by decide), hpush.getRow _ hk (by decide), hbump.getRow _ hk (by decide), hstate]
    · exact he.answer_touch.counted (hpush.counted (hplace.counted_of (counted_bump _ _ _ _ _ (.inl rfl)) (by decide) (by decide)) (by decide) (by decide)) (by decide) (by decide)
  · show ∃ t, execKeyImport mb s = _ ∧ _
    unfold execKeyImport keyCommand
    have hoff' : (s.serving mb.val).blocksOff = false := hoff
    have hload' : (s.serving mb.val).busLoads = true := hload
    exact actLong_runs_then hreq ((if_neg (ne_true_of_eq_false hoff')).trans (if_pos hload')) fun t he hrun =>
      ⟨hrun.of_mbs rfl, he.keeps (fun z => z.cip.bus) fun _ _ _ _ _ _ _ => rfl⟩
  · show ∃ t, execCipherVerify mb s = _ ∧ _
    obtain ⟨hr, hc⟩ := verifyTag_verifies (s.serving mb.val) hv h0
    have hmbs : ((s.serving mb.val).verifyTag p).1.mbs = s.mbs := (verifyTag_rest _ _).keeps State.mbs fun _ _ _ => rfl
    have hpush : Touch [] ((s.serving mb.val).verifyTag p).1 (((s.serving mb.val).verifyTag p).1.busPush { activation := false }) := .of_regs rfl
    unfold execCipherVerify
    generalize hx : (s.serving mb.val).verifyTag p = x at hr hc hmbs hpush
    refine keyCommand_then (u := x.1) (r := x.2) hreq hoff hfree hx fun t he hans => ⟨?_, ?_⟩
    · exact he.answer_touch.counted (hpush.counted hc (by decide) (by decide)) (by decide) (by decide)
    · rw [hr] at hans
      exact hans.of_mbs hmbs
  · exact keyTransferDone_ends hbus hdue
  · show ∃ t, execCipherUnblock mb s = _ ∧ _
    unfold execCipherUnblock
    refine actOn_then hreq hoff rfl fun t he hans => ⟨hans.of_mbs (set_mbs _ _ _ _ _), ?_, fun a ha hsq => ?_⟩
    · rw [he.answer_touch.flagRow _ (u8_lt p 0) (by decide), flag_set_self _ _ _ _ _ (by decide)]
      rfl
    · simp only [List.mem_cons, List.not_mem_nil, or_false, not_or] at ha
      exact (he.kept a (by simpa using ha.1) hsq).trans (reg_set_ne _ _ _ _ _ ha.2)

end Sys2Proof.Machine
end

section
/-! SUPPORT. Slip buffers and rill-link lanes (O49) -/

namespace Sys2Proof.Machine

/-! ### Slip buffers (R403, R404) -/

/-- SB_STATUS of the 64 slip buffers. -/
def sbStatusPatch : Patch := ⟨⟨0x180600, 0x20, 64, 0, 1⟩, 0, 32⟩

theorem slipIndex_lt {s : State} {t : Nat} (h : s.slipRuns t = true) : s.slipIndex t < 64 := by
  unfold State.slipRuns at h
  simp only [Bool.and_eq_true, decide_eq_true_eq] at h
  exact h.2

/-- A footprint that leaves the kinds of turnouts leaves the slip-buffer indices. -/
theorem slipIndex_of_touch {l : List Patch} {s u : State} (h : Touch l s u) (hd : (sharedPatches ++ l).all (·.apart (Reg.TN_CLIENT_KIND.patch 256)) = true) (t : Nat) :
    u.slipIndex t = s.slipIndex t := by
  have htimed : u.timed = s.timed := List.filter_congr fun k hk => by
    unfold State.kind
    rw [h.getRow Reg.TN_CLIENT_KIND (List.mem_range.mp hk) ⟨hd, by decide⟩]
  unfold State.slipIndex
  rw [htimed]

theorem refreshSlip_touch (s : State) {t : Nat} (ht : s.slipIndex t < 64) : Touch [sbStatusPatch] s (s.refreshSlip t) := by
  unfold State.refreshSlip
  exact (Touch.refl _ s).setReg sbStatusPatch (by decide) ⟨s.slipIndex t, 0, .inr ht, Nat.one_pos, by simp [sbStatusPatch]⟩ rfl rfl

theorem refreshSlip_tsi (s : State) (t : Nat) : (s.refreshSlip t).tsi = s.tsi := (regsLogs_setReg s _ _).keeps State.tsi fun _ _ _ => rfl

/-- A slip of one of the four counters, with its event and record (R403). -/
theorem slipped_shows (s : State) {t : Nat} (hi : s.slipIndex t < 64) (out : Bool) (kind : Nat) {c : Ctr} (hw : c.words = 1) (hn : c.n = 64)
    (hd : c.unwritten [Reg.TSI_EVENTS_SLIP.patch, sbStatusPatch] 0 ∧ c.patches.all (·.inList c.patches) = true ∧
      (sharedPatches ++ c.patches).all (·.apart (Reg.TN_CLIENT_KIND.patch 256)) = true) :
    let u := ((s.bump c (s.slipIndex t)).slipped t out kind).refreshSlip t
    Counted c (s.slipIndex t) 0 1 s u ∧ u.flag Reg.TSI_EVENTS_SLIP = true ∧ u.tsi = s.tsi := by
  obtain ⟨hun, hself, hkind⟩ := hd
  have hbump : Touch c.patches s (s.bump c (s.slipIndex t)) := (Touch.refl _ s).bumpRow (by omega) ⟨hself, hun.2.2⟩
  have hslip : Touch [Reg.TSI_EVENTS_SLIP.patch, sbStatusPatch] (s.bump c (s.slipIndex t)) ((s.bump c (s.slipIndex t)).slipped t out kind) := ((Touch.refl _ _).set0 (by decide)).log _ _ _
  have hidx : ((s.bump c (s.slipIndex t)).slipped t out kind).slipIndex t = s.slipIndex t := (slipIndex_of_touch hslip (by decide) t).trans (slipIndex_of_touch hbump hkind t)
  have hfill := refreshSlip_touch ((s.bump c (s.slipIndex t)).slipped t out kind) (hidx ▸ hi)
  have hlog : Touch [] ((s.bump c (s.slipIndex t)).set Reg.TSI_EVENTS_SLIP 1) ((s.bump c (s.slipIndex t)).slipped t out kind) := (Touch.refl _ _).log _ _ _
  refine ⟨(hslip.andThen hfill (by decide)).counted (counted_bump _ _ _ _ _ (.inl hw)) (by omega) hun, ?_, ?_⟩
  · rw [hfill.flag0 _ (by decide), hlog.flag0 _ (by decide), flag_set_self _ _ _ _ _ (by decide)]
    rfl
  · rw [refreshSlip_tsi]
    exact ((((RegsLogs.refl s).bump c _ 0 1).set Reg.TSI_EVENTS_SLIP 1 0 0).log _ _ _).keeps State.tsi fun _ _ _ => rfl

theorem slip_setSlip (s : State) (t : Nat) (out : Bool) (x : SlipBuf) : (s.setSlip t out x).slip t out = x := tget_tput_self _ _ _ _

/-- What a command that wrote one slip buffer shows at its end. -/
theorem slip_after {s u t : State} {but : List Nat} {tn : Nat} {out : Bool} {x : SlipBuf} (he : Ended but s u t) (hu : u.tsi = (s.setSlip tn out x).tsi) :
    (∀ k, k ≠ 2 * tn + b2n out → tget {} t.tsi.slips k = tget {} s.tsi.slips k) ∧ t.slip tn out = x := by
  have ht : t.tsi = (s.setSlip tn out x).tsi := (he.keeps State.tsi fun _ _ _ _ _ _ _ => rfl).trans hu
  refine ⟨fun k hk => ?_, ?_⟩
  · rw [ht]
    exact tget_tput_ne _ _ _ _ hk
  · unfold State.slip
    rw [ht]
    exact tget_tput_self _ _ _ _

/-- The slip counter of a direction, with its buffer written. -/
theorem slip_counted {s : State} {t : Nat} (hi : s.slipIndex t < 64) (out : Bool) (kind : Nat) (x : SlipBuf) {ci co : Ctr} (hw : ci.words = 1 ∧ co.words = 1) (hn : ci.n = 64 ∧ co.n = 64)
    (hdi : ci.unwritten [Reg.TSI_EVENTS_SLIP.patch, sbStatusPatch] 0 ∧ ci.patches.all (·.inList ci.patches) = true ∧
      (sharedPatches ++ ci.patches).all (·.apart (Reg.TN_CLIENT_KIND.patch 256)) = true)
    (hdo : co.unwritten [Reg.TSI_EVENTS_SLIP.patch, sbStatusPatch] 0 ∧ co.patches.all (·.inList co.patches) = true ∧
      (sharedPatches ++ co.patches).all (·.apart (Reg.TN_CLIENT_KIND.patch 256)) = true) :
    let v := s.setSlip t out x
    let u := ((if out then v.bump co (s.slipIndex t) else v.bump ci (s.slipIndex t)).slipped t out kind).refreshSlip t
    Counted (if out then co else ci) (s.slipIndex t) 0 1 s u ∧ u.flag Reg.TSI_EVENTS_SLIP = true ∧ u.tsi = v.tsi := by
  have hidx : (s.setSlip t out x).slipIndex t = s.slipIndex t := slipIndex_of_touch (l := []) (.of_regs rfl) (by decide) t
  have hcount : ∀ c : Ctr, (s.setSlip t out x).count c (s.slipIndex t) = s.count c (s.slipIndex t) := fun c => setSlip_count _ _ _ _ _ _ _
  generalize s.setSlip t out x = v at hidx hcount
  rw [← hidx] at hi hcount ⊢
  dsimp only
  cases out with
  | true =>
    obtain ⟨hc, hev, htsi⟩ := slipped_shows v hi true kind hw.2 hn.2 hdo
    exact ⟨counted_of_count hc (hcount _) rfl, hev, htsi⟩
  | false =>
    obtain ⟨hc, hev, htsi⟩ := slipped_shows v hi false kind hw.1 hn.1 hdi
    exact ⟨counted_of_count hc (hcount _) rfl, hev, htsi⟩

/-- SLIP_FRAME_WRITE (R393, R403, R404). -/
theorem slipFrameWrite_writes (tn : Fin 256) (out dark : Bool) (fr : Option (List Byte)) (s : State) (hrun : s.slipRuns tn.val = true)
    (hfr : (dark = false ∧ (s.slip tn.val out).parts.length = 25 ∧ (out = true ∨ s.slipDark tn.val = false) ∧ fr = (s.slip tn.val out).whole (s.members tn.val)) ∨
      (dark = true ∧ out = false ∧ s.slipDark tn.val = true ∧ fr = none)) :
    ∃ t, execSlipFrameWrite tn out dark s = .next t ∧ (∀ k, k ≠ 2 * tn.val + b2n out → tget {} t.tsi.slips k = tget {} s.tsi.slips k) ∧
      ((s.slip tn.val out).held.length < 3 → t.slip tn.val out = { s.slip tn.val out with held := (s.slip tn.val out).held ++ [fr], parts := [] }) ∧
      ((s.slip tn.val out).held.length = 3 → t.slip tn.val out = { s.slip tn.val out with held := (s.slip tn.val out).held.drop 1 ++ [fr], parts := [] } ∧
        Counted (if out then Cnt.SLIP_DROP_OUT else Cnt.SLIP_DROP_IN) (s.slipIndex tn.val) 0 1 s t ∧ t.flag Reg.TSI_EVENTS_SLIP = true) := by
  have hi := slipIndex_lt hrun
  have hgo : ¬(!s.slipRuns tn.val || decide (dark ≠ (!out && s.slipDark tn.val)) || (!dark && decide ((s.slip tn.val out).parts.length ≠ 25))) = true := by
    rcases hfr with ⟨rfl, hp, hd, -⟩ | ⟨rfl, rfl, hd, -⟩
    · rcases hd with rfl | hd
      · simp [hrun, hp]
      · simp [hrun, hp, hd]
    · simp [hrun, hd]
  have hframe : (if dark then none else (s.slip tn.val out).whole (s.members tn.val)) = fr := by
    rcases hfr with ⟨rfl, -, -, h⟩ | ⟨rfl, -, -, h⟩
    · exact h.symm
    · exact h.symm
  unfold execSlipFrameWrite
  dsimp only
  rw [if_neg hgo, hframe]
  by_cases hlen : (s.slip tn.val out).held.length < 3
  · have hdrop : (s.slip tn.val out).held.drop ((s.slip tn.val out).held.length - 2) = (s.slip tn.val out).held := by rw [show (s.slip tn.val out).held.length - 2 = 0 by omega]; rfl
    rw [if_pos hlen, hdrop]
    refine done_then fun t he _ => ?_
    obtain ⟨hothers, hself⟩ := slip_after he (refreshSlip_tsi _ _)
    exact ⟨hothers, fun _ => hself, fun h => absurd h (by omega)⟩
  · rw [if_neg hlen]
    obtain ⟨hc, hev, htsi⟩ := slip_counted hi out 0 { s.slip tn.val out with held := (s.slip tn.val out).held.drop ((s.slip tn.val out).held.length - 2) ++ [fr], parts := [] }
      (ci := Cnt.SLIP_DROP_IN) (co := Cnt.SLIP_DROP_OUT) ⟨rfl, rfl⟩ ⟨rfl, rfl⟩ (by decide) (by decide)
    refine done_then fun t he _ => ?_
    obtain ⟨hothers, hself⟩ := slip_after he htsi
    refine ⟨hothers, fun h => absurd h hlen, fun h3 => ⟨?_, ?_, (he.touch.flag0 _ (by decide)).trans hev⟩⟩
    · rw [hself, h3]
    · cases out with
      | true => exact he.touch.counted hc hi (by decide)
      | false => exact he.touch.counted hc hi (by decide)

/-- SLIP_READ (R403). -/
theorem slipRead_reads (tn : Fin 256) (out : Bool) (s : State) (hrun : s.slipRuns tn.val = true) :
    ∃ t, execSlipRead tn out s = .next t ∧ (∀ k, k ≠ 2 * tn.val + b2n out → tget {} t.tsi.slips k = tget {} s.tsi.slips k) ∧
      (∀ f rest, (s.slip tn.val out).held = f :: rest → (s.slip tn.val out).started = true ∨ rest ≠ [] →
        t.slip tn.val out = { s.slip tn.val out with held := rest, last := f, started := true }) ∧
      ((s.slip tn.val out).held.length < 2 → (s.slip tn.val out).started = false → t.slip tn.val out = { s.slip tn.val out with last := none }) ∧
      ((s.slip tn.val out).held = [] → (s.slip tn.val out).started = true → t.slip tn.val out = s.slip tn.val out ∧
        Counted (if out then Cnt.SLIP_REPEAT_OUT else Cnt.SLIP_REPEAT_IN) (s.slipIndex tn.val) 0 1 s t ∧ t.flag Reg.TSI_EVENTS_SLIP = true) := by
  have hi := slipIndex_lt hrun
  unfold execSlipRead
  dsimp only
  rw [hrun, if_neg (by decide)]
  by_cases hearly : (!(s.slip tn.val out).started && decide ((s.slip tn.val out).held.length < 2)) = true
  · obtain ⟨hns, hlen⟩ : (s.slip tn.val out).started = false ∧ (s.slip tn.val out).held.length < 2 := by simpa using hearly
    rw [if_pos hearly]
    refine done_then fun t he _ => ?_
    obtain ⟨hothers, hself⟩ := slip_after he (refreshSlip_tsi _ _)
    refine ⟨hothers, fun f rest h hor => ?_, fun _ _ => hself, fun _ h => absurd h (by simp [hns])⟩
    rw [h] at hlen
    simp only [List.length_cons] at hlen
    exact absurd (List.length_eq_zero_iff.mp (by omega)) (hor.resolve_left (by simp [hns]))
  · rw [if_neg hearly]
    have hsome : (s.slip tn.val out).held.length < 2 → (s.slip tn.val out).started = true := fun h => by simpa [h] using hearly
    cases hheld : (s.slip tn.val out).held with
    | nil =>
      have hst := hsome (by rw [hheld]; decide)
      obtain ⟨hc, hev, htsi⟩ := slip_counted hi out 1 { s.slip tn.val out with held := [], started := true }
        (ci := Cnt.SLIP_REPEAT_IN) (co := Cnt.SLIP_REPEAT_OUT) ⟨rfl, rfl⟩ ⟨rfl, rfl⟩ (by decide) (by decide)
      refine done_then fun t he _ => ?_
      obtain ⟨hothers, hself⟩ := slip_after he htsi
      refine ⟨hothers, fun f rest h => absurd h (by simp), fun _ h => absurd hst (by simp [h]), fun _ _ => ⟨?_, ?_, (he.touch.flag0 _ (by decide)).trans hev⟩⟩
      · rw [hself, ← hheld, ← hst]
      · cases out with
        | true => exact he.touch.counted hc hi (by decide)
        | false => exact he.touch.counted hc hi (by decide)
    | cons f rest =>
      refine done_then fun t he _ => ?_
      obtain ⟨hothers, hself⟩ := slip_after he (refreshSlip_tsi _ _)
      refine ⟨hothers, fun f' rest' h _ => ?_, fun hlen hns => absurd (hsome (by rw [hheld]; exact hlen)) (by simp [hns]), fun h => absurd h (by simp)⟩
      obtain ⟨rfl, rfl⟩ := List.cons.inj h
      exact hself

/-! ### Frames of a rill-link lane (R391–R393, R400) -/

/-- The lanes, as blocks and as frames. -/
def State.rillView (s : State) : LaneState × Tab RillLane := (s.ln, s.tsi.lanes)

theorem rillView_regsLogs {s t : State} (h : RegsLogs s t) : t.rillView = s.rillView := h.keeps State.rillView fun _ _ _ => rfl

theorem slipInbound_rest (h : Nat) (fn : Option Nat) (bad : List Nat) (rills : List (List Bool)) (s : State) (t : Nat) :
    (State.slipInbound h fn bad rills s t).regs = s.regs ∧ (State.slipInbound h fn bad rills s t).rillView = s.rillView := by
  unfold State.slipInbound
  split
  · exact ⟨rfl, rfl⟩
  · exact ⟨rfl, rfl⟩

def rillFramePatches : List Patch := [Reg.RL_STATUS_ALIGNED.patch 16, Reg.RL_STATUS_IN_WINDOW.patch 16, Reg.RL_OFFSET_OFFSET.patch 16]
def rillLatePatches : List Patch := Reg.TSI_EVENTS_LATE.patch :: Cnt.LATE_RILLS.patches

/-- An aligned frame: its status, its wrong blocks, what it feeds and its late rills. -/
def State.rillFrameAligned (s : State) (h errs lates : Nat) (free : Bool) (offset : Int) (ts : List Nat) (g : State → Nat → State) : State :=
  let s2 := (s.set Reg.RL_STATUS_ALIGNED 1 h).set Reg.RL_STATUS_IN_WINDOW (b2n (lates == 0)) h
  let s3 := if free then s2 else s2.set Reg.RL_OFFSET_OFFSET (twos 32 offset) h
  let s4 := if errs = 0 then s3 else s3.bump Cnt.RL_HDR_ERRS 0 0 errs
  let s5 := if free then ts.foldl g s4 else s4
  if lates = 0 then s5 else (s5.bump Cnt.LATE_RILLS 0 0 lates).set Reg.TSI_EVENTS_LATE 1

theorem rillFrameAligned_shows (s : State) {h : Nat} (hh : h < 16) (errs lates : Nat) (free : Bool) (offset : Int) (ts : List Nat) {g : State → Nat → State}
    (hg : ∀ v t, (g v t).regs = v.regs ∧ (g v t).rillView = v.rillView) :
    let u := s.rillFrameAligned h errs lates free offset ts g
    u.flag Reg.RL_STATUS_ALIGNED h = true ∧ u.rillView = s.rillView ∧ Counted Cnt.RL_HDR_ERRS 0 0 errs s u := by
  have hwin : ∀ (v : State) (x : Nat), Touch [Reg.RL_STATUS_IN_WINDOW.patch 16] v (v.set Reg.RL_STATUS_IN_WINDOW x h) := fun v x => (Touch.refl _ v).setRow hh (by decide)
  have hoff : ∀ v : State, Touch [Reg.RL_OFFSET_OFFSET.patch 16] v (if free then v else v.set Reg.RL_OFFSET_OFFSET (twos 32 offset) h) := fun v =>
    .ite (fun _ => .refl _ v) fun _ => (Touch.refl _ v).setRow hh (by decide)
  have hoffr : ∀ v : State, RegsLogs v (if free then v else v.set Reg.RL_OFFSET_OFFSET (twos 32 offset) h) := fun v => .ite (.refl v) (regsLogs_set _ _ _ _ _)
  have herr : ∀ v : State, Touch Cnt.RL_HDR_ERRS.patches v (if errs = 0 then v else v.bump Cnt.RL_HDR_ERRS 0 0 errs) := fun v => .ite (fun _ => .refl _ v) fun _ => (Touch.refl _ v).bump0 (by decide)
  have herrr : ∀ v : State, RegsLogs v (if errs = 0 then v else v.bump Cnt.RL_HDR_ERRS 0 0 errs) := fun v => .ite (.refl v) (regsLogs_bump _ _ _ _ _)
  have herrc : ∀ v : State, Counted Cnt.RL_HDR_ERRS 0 0 errs v (if errs = 0 then v else v.bump Cnt.RL_HDR_ERRS 0 0 errs) := fun v => by
    split
    · next h0 => rw [h0]; exact counted_zero rfl (.inl rfl)
    · exact counted_bump _ _ _ _ _ (.inl rfl)
  have hfold : ∀ v : State, (if free then ts.foldl g v else v).regs = v.regs ∧ (if free then ts.foldl g v else v).rillView = v.rillView := fun v => by
    split
    · exact ⟨foldl_keeps State.regs (fun v t => (hg v t).1) _ _, foldl_keeps State.rillView (fun v t => (hg v t).2) _ _⟩
    · exact ⟨rfl, rfl⟩
  have hlate : ∀ v : State, Touch rillLatePatches v (if lates = 0 then v else (v.bump Cnt.LATE_RILLS 0 0 lates).set Reg.TSI_EVENTS_LATE 1) := fun v =>
    .ite (fun _ => .refl _ v) fun _ => ((Touch.refl _ v).bump0 (by decide)).set0 (by decide)
  have hlater : ∀ v : State, RegsLogs v (if lates = 0 then v else (v.bump Cnt.LATE_RILLS 0 0 lates).set Reg.TSI_EVENTS_LATE 1) := fun v =>
    .ite (.refl v) (((RegsLogs.refl v).bump _ _ _ _).set _ _ _ _)
  unfold State.rillFrameAligned
  dsimp only
  have h2 : Touch rillFramePatches s ((s.set Reg.RL_STATUS_ALIGNED 1 h).set Reg.RL_STATUS_IN_WINDOW (b2n (lates == 0)) h) := ((Touch.refl _ s).setRow hh (by decide)).setRow hh (by decide)
  have h2a : ((s.set Reg.RL_STATUS_ALIGNED 1 h).set Reg.RL_STATUS_IN_WINDOW (b2n (lates == 0)) h).flag Reg.RL_STATUS_ALIGNED h = true := by
    rw [(hwin _ _).flagRow _ hh (by decide), flag_set_self _ _ _ _ _ (by decide)]
    rfl
  have h2r : RegsLogs s ((s.set Reg.RL_STATUS_ALIGNED 1 h).set Reg.RL_STATUS_IN_WINDOW (b2n (lates == 0)) h) := ((RegsLogs.refl s).set _ _ _ _).set _ _ _ _
  generalize (s.set Reg.RL_STATUS_ALIGNED 1 h).set Reg.RL_STATUS_IN_WINDOW (b2n (lates == 0)) h = s2 at h2 h2a h2r ⊢
  have h3 := hoff s2
  have h3r := hoffr s2
  generalize (if free then s2 else s2.set Reg.RL_OFFSET_OFFSET (twos 32 offset) h) = s3 at h3 h3r ⊢
  have h4 := herr s3
  have h4r := herrr s3
  have h4c := herrc s3
  generalize (if errs = 0 then s3 else s3.bump Cnt.RL_HDR_ERRS 0 0 errs) = s4 at h4 h4r h4c ⊢
  obtain ⟨h5, h5v⟩ := hfold s4
  generalize (if free then ts.foldl g s4 else s4) = s5 at h5 h5v ⊢
  have h5t : Touch [] s4 s5 := .of_regs h5
  refine ⟨?_, ?_, ?_⟩
  · rw [(hlate s5).flagRow _ hh (by decide), h5t.flagRow _ hh (by decide), h4.flagRow _ hh (by decide), h3.flagRow _ hh (by decide), h2a]
  · rw [rillView_regsLogs (hlater s5), h5v, rillView_regsLogs h4r, rillView_regsLogs h3r, rillView_regsLogs h2r]
  · exact (hlate s5).counted (h5t.counted ((h2.andThen h3 (by decide)).counted_of h4c (by decide) (by decide)) (by decide) (by decide)) (by decide) (by decide)

theorem laneData_of_ln {s t : State} (h : t.ln = s.ln) (l : Nat) : t.laneData l = s.laneData l := by
  unfold State.laneData State.lane
  rw [h]

theorem rillLane_of_view {s t : State} (h : t.rillView = s.rillView) (l : Nat) : t.rillLane l = s.rillLane l := by
  unfold State.rillLane
  rw [show t.tsi.lanes = s.tsi.lanes from congrArg Prod.snd h]

theorem laneData_of_view {s t : State} (h : t.rillView = s.rillView) (l : Nat) : t.laneData l = s.laneData l := laneData_of_ln (congrArg Prod.fst h) l

theorem lane_setLane (s : State) (l : Nat) (x : Lane) : (s.setLane l x).lane l = x := tget_tput_self _ _ _ _

theorem laneData_setLaneData (s : State) (l : Nat) (x : LaneData) : (s.setLaneData l x).laneData l = x := congrArg Lane.data (lane_setLane s l _)

theorem rillLane_setRillLane (s : State) (l : Nat) (x : RillLane) : (s.setRillLane l x).rillLane l = x := tget_tput_self _ _ _ _

theorem filter_header_length (l : List RillRow) (p : Nat → Bool) :
    ((l.map (fun r => r.header.toNat)).filter p).length = (l.filter (fun x => p x.header.toNat)).length := by
  rw [List.filter_map, List.length_map]
  rfl

/-- What a frame leaves of its lane: by the header of its first row, wrong positions and rills (R391, R393). -/
def RillLane.framed (x : RillLane) (first : Nat) (bad : List Nat) (rills : List (List Bool)) : RillLane :=
  { x with
    lastFn := if rillHeaderOk 0 first then some (bitsOf first 43 5) else none
    missed := if rillHeaderOk 0 first then 0 else x.missed + 1
    failed := bad
    rills := rills }

theorem framed_shows (x : RillLane) (first : Nat) (bad : List Nat) (rills : List (List Bool)) : (x.framed first bad rills).rills = rills ∧
    (rillHeaderOk 0 first = true → (x.framed first bad rills).lastFn = some (bitsOf first 43 5) ∧ (x.framed first bad rills).missed = 0) ∧
    (rillHeaderOk 0 first = false → (x.framed first bad rills).lastFn = none ∧ (x.framed first bad rills).missed = x.missed + 1) :=
  ⟨rfl, fun h => ⟨if_pos h, if_pos h⟩, fun h => ⟨if_neg (ne_true_of_eq_false h), if_neg (ne_true_of_eq_false h)⟩⟩

/-- RILLLINK_FRAME_RX (R391–R393, R400). -/
theorem rilllinkFrameRx_takes (l : Fin 16) (early late : List Nat) (offset : Int) (r : RillRow) (rest : List RillRow) (n : Nat) (s : State) (hen : s.flag Reg.RL_CFG_EN l.val = true)
    (hlock : s.flag Reg.LN_STATUS_BLOCK_LOCK l.val = true) (hon : s.coherent = true) (hn : n = s.get Reg.RL_CFG_RILLS l.val) (hrows : (s.laneData l.val).rows.take n = r :: rest) :
    ∃ t, execRilllinkFrameRx l early late offset s = .next t ∧ (t.laneData l.val).rows = [] ∧ (t.rillLane l.val).rills = (r :: rest).map rowRill ∧
      (rillHeaderOk 0 r.header.toNat = true → (t.rillLane l.val).lastFn = some (bitsOf r.header.toNat 43 5) ∧ (t.rillLane l.val).missed = 0 ∧
        ((s.rillLane l.val).lastFn = some ((bitsOf r.header.toNat 43 5 + 24) % 25) → t.flag Reg.RL_STATUS_ALIGNED l.val = true)) ∧
      (rillHeaderOk 0 r.header.toNat = false → (t.rillLane l.val).lastFn = none ∧ (t.rillLane l.val).missed = (s.rillLane l.val).missed + 1) ∧
      (s.flag Reg.RL_STATUS_ALIGNED l.val = true → Counted Cnt.RL_HDR_ERRS 0 0 (((r :: rest).filter (fun x => !blockOk x.header.toNat)).length) s t) := by
  have hgo : ¬(!s.flag Reg.RL_CFG_EN l.val || !s.flag Reg.LN_STATUS_BLOCK_LOCK l.val || !s.coherent) = true := by simp [hen, hlock, hon]
  subst hn
  unfold execRilllinkFrameRx
  dsimp only
  rw [if_neg hgo, hrows, filter_header_length, List.map_cons, List.headD_cons]
  have hs0 : (s.setLaneData l.val { s.laneData l.val with rows := [] }).laneData l.val = { s.laneData l.val with rows := [] } := laneData_setLaneData _ _ _
  have hs0r : (s.setLaneData l.val { s.laneData l.val with rows := [] }).regs = s.regs := rfl
  generalize s.setLaneData l.val { s.laneData l.val with rows := [] } = s0 at hs0 hs0r ⊢
  generalize (List.range (s.get Reg.RL_CFG_RILLS l.val)).filter _ = bad
  obtain ⟨hrills, hvalid, hbad⟩ := framed_shows (s.rillLane l.val) r.header.toNat bad ((r :: rest).map rowRill)
  change ∃ t, (if (!(s.flag Reg.RL_STATUS_ALIGNED l.val || rillHeaderOk 0 r.header.toNat && (s.rillLane l.val).lastFn == some ((bitsOf r.header.toNat 43 5 + 24) % 25))) = true then done s (s0.setRillLane l.val ((s.rillLane l.val).framed r.header.toNat bad ((r :: rest).map rowRill))) else
    done s ((s0.setRillLane l.val ((s.rillLane l.val).framed r.header.toNat bad ((r :: rest).map rowRill))).rillFrameAligned l.val _ _ _ offset s.timed _)) = _ ∧ _
  generalize (s.rillLane l.val).framed r.header.toNat bad ((r :: rest).map rowRill) = x1 at hrills hvalid hbad ⊢
  have hs1 : (s0.setRillLane l.val x1).rillLane l.val = x1 := rillLane_setRillLane _ _ _
  have hs1r : (s0.setRillLane l.val x1).regs = s.regs := hs0r
  have hs1d : (s0.setRillLane l.val x1).laneData l.val = s0.laneData l.val := rfl
  generalize s0.setRillLane l.val x1 = s1 at hs1 hs1r hs1d ⊢
  have hs1t : Touch [] s s1 := .of_regs hs1r
  have hshow : ∀ u t : State, u.rillView = s1.rillView → Ended [] s u t → (t.laneData l.val).rows = [] ∧ t.rillLane l.val = x1 := fun u t hu he => by
    have ht : t.rillView = s1.rillView := (he.keeps State.rillView fun _ _ _ _ _ _ _ => rfl).trans hu
    rw [laneData_of_view ht, hs1d, hs0, rillLane_of_view ht, hs1]
    exact ⟨rfl, rfl⟩
  by_cases hal : (!(s.flag Reg.RL_STATUS_ALIGNED l.val || rillHeaderOk 0 r.header.toNat && (s.rillLane l.val).lastFn == some ((bitsOf r.header.toNat 43 5 + 24) % 25))) = true
  · obtain ⟨hna, hnv⟩ : s.flag Reg.RL_STATUS_ALIGNED l.val = false ∧ (rillHeaderOk 0 r.header.toNat = true → ¬(s.rillLane l.val).lastFn = some ((bitsOf r.header.toNat 43 5 + 24) % 25)) := by
      have h : s.flag Reg.RL_STATUS_ALIGNED l.val = false ∧ (rillHeaderOk 0 r.header.toNat = false ∨ ¬(s.rillLane l.val).lastFn = some ((bitsOf r.header.toNat 43 5 + 24) % 25)) := by
        simpa using hal
      exact ⟨h.1, fun hv => h.2.resolve_left (by simp [hv])⟩
    rw [if_pos hal]
    refine done_then fun t he _ => ?_
    obtain ⟨hd, hx⟩ := hshow s1 t rfl he
    rw [hx]
    refine ⟨hd, hrills, fun hv => ?_, hbad, fun ha => absurd ha (by simp [hna])⟩
    obtain ⟨hfn, hmiss⟩ := hvalid hv
    exact ⟨hfn, hmiss, fun h => absurd h (hnv hv)⟩
  · rw [if_neg hal]
    refine done_then fun t he _ => ?_
    obtain ⟨ha, hview, hc⟩ := rillFrameAligned_shows s1 l.isLt _ _ _ offset s.timed (slipInbound_rest l.val _ bad ((r :: rest).map rowRill))
    obtain ⟨hd, hx⟩ := hshow _ t hview he
    rw [hx]
    refine ⟨hd, hrills, fun hv => ?_, hbad, fun _ => he.touch.counted (hs1t.counted_of hc (by decide) (by decide)) (by decide) (by decide)⟩
    obtain ⟨hfn, hmiss⟩ := hvalid hv
    exact ⟨hfn, hmiss, fun _ => (he.touch.flagRow _ l.isLt (by decide)).trans ha⟩

/-- RL_ALIGN_LOSS (R393). -/
theorem rlAlignLoss_ends (l : Fin 16) (s : State) (hal : s.flag Reg.RL_STATUS_ALIGNED l.val = true) (hwhy : 4 ≤ (s.rillLane l.val).missed ∨ s.flag Reg.LN_STATUS_BLOCK_LOCK l.val = false) :
    ∃ t, execRlAlignLoss l s = .next t ∧ t.flag Reg.RL_STATUS_ALIGNED l.val = false ∧ t.flag Reg.RL_STATUS_IN_WINDOW l.val = false ∧
      t.get Reg.RL_OFFSET_OFFSET l.val = 0x80000000 ∧ t.rillLane l.val = { txFn := (s.rillLane l.val).txFn } ∧ t.flag Reg.TSI_EVENTS_RL_ALIGN = true := by
  have hgo : (s.flag Reg.RL_STATUS_ALIGNED l.val && (decide (4 ≤ (s.rillLane l.val).missed) || !s.flag Reg.LN_STATUS_BLOCK_LOCK l.val)) = true := by
    rcases hwhy with h | h
    · simp [hal, h]
    · simp [hal, h]
  have hev : ∀ v : State, Touch [Reg.TSI_EVENTS_RL_ALIGN.patch] v (v.set Reg.TSI_EVENTS_RL_ALIGN 1) := fun v => (Touch.refl _ v).set0 (by decide)
  have hlane : ∀ (v : State) (x : RillLane), Touch [] v (v.setRillLane l.val x) := fun _ _ => .of_regs rfl
  have hwin : ∀ v : State, Touch [Reg.RL_STATUS_IN_WINDOW.patch 16] v (v.set Reg.RL_STATUS_IN_WINDOW 0 l.val) := fun v => (Touch.refl _ v).setRow l.isLt (by decide)
  have hoff : ∀ v : State, Touch [Reg.RL_OFFSET_OFFSET.patch 16] v (v.set Reg.RL_OFFSET_OFFSET 0x80000000 l.val) := fun v => (Touch.refl _ v).setRow l.isLt (by decide)
  unfold execRlAlignLoss State.unalign
  dsimp only
  rw [if_pos hgo]
  refine done_then fun t he _ => ⟨?_, ?_, ?_, ?_, ?_⟩
  · rw [he.touch.flagRow _ l.isLt (by decide), (hev _).flagRow _ l.isLt (by decide), (hlane _ _).flagRow _ l.isLt (by decide), (hoff _).flagRow _ l.isLt (by decide),
      (hwin _).flagRow _ l.isLt (by decide), flag_set_self _ _ _ _ _ (by decide)]
    rfl
  · rw [he.touch.flagRow _ l.isLt (by decide), (hev _).flagRow _ l.isLt (by decide), (hlane _ _).flagRow _ l.isLt (by decide), (hoff _).flagRow _ l.isLt (by decide),
      flag_set_self _ _ _ _ _ (by decide)]
    rfl
  · rw [he.touch.getRow _ l.isLt (by decide), (hev _).getRow _ l.isLt (by decide), (hlane _ _).getRow _ l.isLt (by decide), get_set_self _ _ _ _ _ (by decide)]
    rfl
  · rw [rillLane_of_view ((he.keeps State.rillView fun _ _ _ _ _ _ _ => rfl).trans (rillView_regsLogs (regsLogs_set _ _ _ _ _))), rillLane_setRillLane]
  · rw [he.touch.flag0 _ (by decide), flag_set_self _ _ _ _ _ (by decide)]
    rfl

/-! ### Blocks of a rill-link lane (R587, R588) -/

/-- BLOCK_LOCK, its event and the counters of a lane's blocks. -/
def blockPatches : List Patch := [Reg.LN_STATUS_BLOCK_LOCK.patch 24, Reg.LN_EVENTS_BLOCK_LOCK_LOST.patch 24] ++ Cnt.SH_ERRS.patches ++ Cnt.LN_QUENCH_DISCARDS.patches

/-- What the blocks of a lane leave: everything but registers, the log and the lanes. -/
theorem fiAt_of_test {s t : State} (h : t.test = s.test) (point target : Nat) : t.fiAt point target = s.fiAt point target := by
  unfold State.fiAt State.injector
  rw [h]

theorem quenchDiscardsLane_regs (s : State) (l n : Nat) : s.quenchDiscards 4 l n = s.bump Cnt.LN_QUENCH_DISCARDS l 0 n := rfl

/-- A block that is delivered changes the lane's data only, or one counter. -/
theorem rlDeliver_touch (s : State) {l : Nat} (hl : l < 24) (b : BitVec 66) : Touch Cnt.LN_QUENCH_DISCARDS.patches s (s.rlDeliver l b) := by
  have hlane : ∀ x, Touch Cnt.LN_QUENCH_DISCARDS.patches s (s.setLaneData l x) := fun _ => .of_regs rfl
  unfold State.rlDeliver
  exact .ite (fun _ => hlane _) fun _ => .ite (fun _ => (Touch.refl _ s).bumpRow hl (by decide)) fun _ => hlane _

/-- The block-lock search of a lane, as its block is delivered. -/
theorem rlDeliver_lane (s : State) (l : Nat) (b : BitVec 66) : ∃ d, (s.rlDeliver l b).lane l = { s.lane l with data := d } := by
  unfold State.rlDeliver
  split
  · exact ⟨_, lane_setLane _ _ _⟩
  · split
    · exact ⟨(s.lane l).data, (regsLogs_bump s Cnt.LN_QUENCH_DISCARDS l 0 1).keeps (fun z => z.lane l) fun _ _ _ => rfl⟩
    · exact ⟨_, lane_setLane _ _ _⟩

theorem rlDeliver_test (s : State) (l : Nat) (b : BitVec 66) : (s.rlDeliver l b).test = s.test := by
  unfold State.rlDeliver
  exact ite_keeps State.test rfl (ite_keeps State.test ((regsLogs_bump s Cnt.LN_QUENCH_DISCARDS l 0 1).keeps State.test fun _ _ _ => rfl) rfl)

theorem rlDeliver_crosses {s : State} {l : Nat} (hlock : s.flag Reg.LN_STATUS_BLOCK_LOCK l = true) (hrun : s.running 4 l = true) (b : BitVec 66) :
    (s.rlDeliver l b).laneData l = (s.laneData l).cross b := by
  unfold State.rlDeliver
  rw [hlock, hrun, if_neg (by decide), if_neg (by decide), laneData_setLaneData]

/-- A sync header, counted when it is bad. -/
def State.syncCounted (s : State) (l h : Nat) : State := if h = 1 || h = 2 then s else s.bump Cnt.SH_ERRS l

theorem syncCounted_rest (s : State) (l h : Nat) : RegsLogs s (s.syncCounted l h) := .ite (.refl s) (regsLogs_bump _ _ _ _ _)

theorem syncCounted_touch (s : State) {l : Nat} (hl : l < 24) (h : Nat) : Touch Cnt.SH_ERRS.patches s (s.syncCounted l h) :=
  .ite (fun _ => .refl _ s) fun _ => (Touch.refl _ s).bumpRow hl (by decide)

def lockPatches : List Patch := [Reg.LN_STATUS_BLOCK_LOCK.patch 24, Reg.LN_EVENTS_BLOCK_LOCK_LOST.patch 24]

theorem setLane_touch (l : List Patch) (s : State) (i : Nat) (x : Lane) : Touch l s (s.setLane i x) := .of_regs rfl

/-- The search of R588 writes a lane's lock and its event. -/
theorem rlSync_touch (s : State) {l : Nat} (hl : l < 24) (h : Nat) : Touch lockPatches (s.syncCounted l h) (s.rlSync l h) := by
  have h2 : ∀ v : State, Touch lockPatches v (if s.flag Reg.LN_STATUS_BLOCK_LOCK l then v else v.set Reg.LN_STATUS_BLOCK_LOCK 1 l) := fun v =>
    .ite (fun _ => .refl _ v) fun _ => (Touch.refl _ v).setRow hl (by decide)
  unfold State.rlSync
  exact .ite (fun _ => setLane_touch _ _ _ _) fun _ => .ite (fun _ => setLane_touch _ _ _ _) fun _ =>
    .ite (fun _ => (((h2 _).setRow hl (by decide)).setRow hl (by decide)).trans (setLane_touch _ _ _ _)) fun _ =>
      .ite (fun _ => (h2 _).trans (setLane_touch _ _ _ _)) fun _ => (h2 _).trans (setLane_touch _ _ _ _)

theorem rlSync_test (s : State) (l h : Nat) : (s.rlSync l h).test = s.test := by
  have hlane : ∀ (v : State) (x : Lane), (v.setLane l x).test = v.test := fun _ _ => rfl
  have h1 : (s.syncCounted l h).test = s.test := (syncCounted_rest s l h).keeps State.test fun _ _ _ => rfl
  have h2 : ∀ v : State, (if s.flag Reg.LN_STATUS_BLOCK_LOCK l then v else v.set Reg.LN_STATUS_BLOCK_LOCK 1 l).test = v.test := fun v => ite_keeps State.test rfl (set_test _ _ _ _ _)
  refine Eq.trans ?_ h1
  unfold State.rlSync
  refine ite_keeps State.test (hlane _ _) (ite_keeps State.test (hlane _ _) (ite_keeps State.test ?_ (ite_keeps State.test ?_ ?_)))
  · rw [hlane, set_test, set_test, h2]
    rfl
  · rw [hlane, h2]
    rfl
  · rw [hlane, h2]
    rfl

/-- A bad header while the lane hunts: the offset moves on (R588). -/
theorem rlSync_hunts {s : State} {l h : Nat} (hbad : h = 0 ∨ h = 3) (hlock : s.flag Reg.LN_STATUS_BLOCK_LOCK l = false) :
    s.rlSync l h = (s.syncCounted l h).setLane l { s.lane l with offset := ((s.lane l).offset + 1) % 66, good := 0 } := by
  have hv : (decide (h = 1) || decide (h = 2)) = false := by rcases hbad with rfl | rfl <;> decide
  unfold State.rlSync State.syncCounted
  dsimp only
  rw [hlock, hv]
  rfl

/-- The 64th good block in a row takes lock. -/
theorem rlSync_locks {s : State} {l h : Nat} (hl : l < 24) (hgood : h = 1 ∨ h = 2) (hlock : s.flag Reg.LN_STATUS_BLOCK_LOCK l = false) (h63 : (s.lane l).good = 63) :
    (s.rlSync l h).flag Reg.LN_STATUS_BLOCK_LOCK l = true := by
  have hv : (decide (h = 1) || decide (h = 2)) = true := by rcases hgood with rfl | rfl <;> decide
  unfold State.rlSync
  dsimp only
  rw [hlock, hv, h63]
  exact ((setLane_touch [] (s.set Reg.LN_STATUS_BLOCK_LOCK 1 l) l _).flagRow _ hl (by decide)).trans ((flag_set_self _ _ _ _ _ (by decide)).trans rfl)

/-- The 16th bad header of a window loses lock. -/
theorem rlSync_loses {s : State} {l h : Nat} (hl : l < 24) (hbad : h = 0 ∨ h = 3) (hlock : s.flag Reg.LN_STATUS_BLOCK_LOCK l = true) (h15 : 15 ≤ (s.lane l).bad)
    (hwin : (s.lane l).window < 1023) : (s.rlSync l h).flag Reg.LN_STATUS_BLOCK_LOCK l = false ∧ (s.rlSync l h).flag Reg.LN_EVENTS_BLOCK_LOCK_LOST l = true := by
  have hv : (decide (h = 1) || decide (h = 2)) = false := by rcases hbad with rfl | rfl <;> decide
  have hev : ∀ v : State, Touch [Reg.LN_EVENTS_BLOCK_LOCK_LOST.patch 24] v (v.set Reg.LN_EVENTS_BLOCK_LOCK_LOST 1 l) := fun v => (Touch.refl _ v).setRow hl (by decide)
  have h16 : (decide (16 ≤ (s.lane l).bad + b2n (!false)) && decide ((s.lane l).window + 1 < 1024)) = true := by
    have hb : b2n (!false) = 1 := rfl
    simp only [hb, Bool.and_eq_true, decide_eq_true_eq]
    omega
  have heq : ∃ x, s.rlSync l h = (((s.syncCounted l h).set Reg.LN_STATUS_BLOCK_LOCK 0 l).set Reg.LN_EVENTS_BLOCK_LOCK_LOST 1 l).setLane l x := by
    unfold State.rlSync State.syncCounted
    dsimp only
    rw [hlock, hv]
    exact ⟨_, if_pos h16⟩
  obtain ⟨x, hx⟩ := heq
  rw [hx]
  refine ⟨?_, ?_⟩
  · rw [(setLane_touch [] _ l x).flagRow _ hl (by decide), (hev _).flagRow _ hl (by decide), flag_set_self _ _ _ _ _ (by decide)]
    rfl
  · rw [(setLane_touch [] _ l x).flagRow _ hl (by decide), flag_set_self _ _ _ _ _ (by decide)]
    rfl

/-- A good header in a window that is not lost. -/
theorem rlSync_keeps {s : State} {l h : Nat} (hgood : h = 1 ∨ h = 2) (hlock : s.flag Reg.LN_STATUS_BLOCK_LOCK l = true) (h16 : (s.lane l).bad < 16) :
    ∃ w b, s.rlSync l h = s.setLane l { s.lane l with window := w, bad := b } := by
  have hv : (decide (h = 1) || decide (h = 2)) = true := by rcases hgood with rfl | rfl <;> decide
  have hb : ¬(decide (16 ≤ (s.lane l).bad + b2n (!true)) && decide ((s.lane l).window + 1 < 1024)) = true := by
    have hb : b2n (!true) = 0 := rfl
    simp only [hb, Bool.and_eq_true, decide_eq_true_eq]
    omega
  unfold State.rlSync
  dsimp only
  rw [hlock, hv]
  by_cases hw : (s.lane l).window + 1 = 1024
  · exact ⟨_, _, (if_neg hb).trans (if_pos hw)⟩
  · exact ⟨_, _, (if_neg hb).trans (if_neg hw)⟩

/-- A lane's block, with no injector at the lane: it is descrambled, counted and delivered. -/
theorem rlArrives_eq {s : State} {l : Nat} (hfi : s.fiAt 3 l = none) (b : BitVec 66) :
    s.rlArrives l b = (s.setLaneData l { s.laneData l with descr := (descramble58 (s.laneData l).descr (BitVec.ofNat 64 b.toNat)).2 }).rlBlock l (b.toNat / 2 ^ 64)
      (descramble58 (s.laneData l).descr (BitVec.ofNat 64 b.toNat)).1 := by
  generalize hd : descramble58 (s.laneData l).descr (BitVec.ofNat 64 b.toNat) = d
  have hfi1 : ∀ x, (s.setLaneData l x).fiAt 3 l = none := fun x => (fiAt_of_test rfl 3 l).trans hfi
  have hunit : ∀ x, (s.setLaneData l x).fiUnit 3 l 66 = (s.setLaneData l x, .pass) := fun x => by
    unfold State.fiUnit
    rw [hfi1]
  have hblock : ∀ (v : State) (h : Nat) (w : BitVec 64), v.fiAt 3 l = none → (v.rlBlock l h w).fiPassed 3 l = (v.rlBlock l h w, none) := fun v h w hv => by
    have hnone : (v.rlBlock l h w).fiAt 3 l = none := (fiAt_of_test ((rlDeliver_test _ _ _).trans (rlSync_test _ _ _)) 3 l).trans hv
    unfold State.fiPassed
    rw [hnone]
  unfold State.rlArrives
  dsimp only
  rw [hd, hunit]
  dsimp only
  rw [hblock _ _ _ (hfi1 _), if_neg (by decide)]

/-- What a lane hears changes only the blocks of its loopback (R597). -/
theorem heardBlock_rest (s : State) (l : Nat) (b : BitVec 66) : (s.heardBlock l b).2.regs = s.regs ∧ (s.heardBlock l b).2.test = s.test ∧
    ((s.heardBlock l b).2.laneData l).descr = (s.laneData l).descr ∧ ∃ d, (s.heardBlock l b).2.lane l = { s.lane l with data := d } := by
  unfold State.heardBlock
  split
  · exact ⟨rfl, rfl, (congrArg LaneData.descr (laneData_setLaneData _ _ _)).trans rfl, _, lane_setLane _ _ _⟩
  · exact ⟨rfl, rfl, rfl, _, rfl⟩

theorem heardBlock_direct {s : State} {l : Nat} {b c : BitVec 66} (h : (s.heardBlock l b).1 = some c) (hd : s.looped l = false) : c = b := by
  unfold State.heardBlock at h
  rw [hd] at h
  exact (Option.some.inj h).symm

/-- RL_BLOCK_RX (R587, R588, R597). -/
theorem rlBlockRx_passes (l : Fin 16) (sh : BitVec 2) (w : BitVec 64) (b : BitVec 66) (h : Nat) (s : State) (hfmt : s.laneFormat l.val = 2) (hrx : s.rxState l.val = 3)
    (hlive : s.laneLive l.val = true) (hfi : s.fiAt 3 l.val = none) (hb : (s.heardBlock l.val (sh ++ w)).1 = some b) (hh : h = b.toNat / 2 ^ 64) :
    ∃ t, execRlBlockRx l sh w s = .next t ∧ (s.looped l.val = false → b = sh ++ w) ∧
      (h = 0 ∨ h = 3 → Counted Cnt.SH_ERRS l.val 0 1 s t) ∧
      (h = 0 ∨ h = 3 → s.flag Reg.LN_STATUS_BLOCK_LOCK l.val = false → (t.lane l.val).offset = ((s.lane l.val).offset + 1) % 66 ∧ (t.lane l.val).good = 0) ∧
      (h = 1 ∨ h = 2 → s.flag Reg.LN_STATUS_BLOCK_LOCK l.val = false → (s.lane l.val).good = 63 → t.flag Reg.LN_STATUS_BLOCK_LOCK l.val = true) ∧
      (h = 0 ∨ h = 3 → s.flag Reg.LN_STATUS_BLOCK_LOCK l.val = true → 15 ≤ (s.lane l.val).bad → (s.lane l.val).window < 1023 →
        t.flag Reg.LN_STATUS_BLOCK_LOCK l.val = false ∧ t.flag Reg.LN_EVENTS_BLOCK_LOCK_LOST l.val = true) ∧
      (h = 1 ∨ h = 2 → s.flag Reg.LN_STATUS_BLOCK_LOCK l.val = true → (s.lane l.val).bad < 16 → s.running 4 l.val = true →
        t.laneData l.val = LaneData.cross ({ (s.heardBlock l.val (sh ++ w)).2.laneData l.val with descr := (descramble58 (s.laneData l.val).descr (b.setWidth 64)).2 } : LaneData)
          (BitVec.ofNat 66 (h * 2 ^ 64 + (descramble58 (s.laneData l.val).descr (b.setWidth 64)).1.toNat))) := by
  have hl : l.val < 24 := by omega
  obtain ⟨hregs, htest, hdescr, d, hlane⟩ := heardBlock_rest s l.val (sh ++ w)
  have hdirect := heardBlock_direct hb
  have hexec : execRlBlockRx l sh w s = done s ((s.heardBlock l.val (sh ++ w)).2.rlArrives l.val b) := by
    unfold execRlBlockRx
    simp only [hfmt, hrx, hlive, hb]
    rfl
  rw [hexec, rlArrives_eq ((fiAt_of_test htest 3 l.val).trans hfi), hdescr, ← hh, show BitVec.ofNat 64 b.toNat = b.setWidth 64 from rfl]
  clear hexec hb
  generalize (s.heardBlock l.val (sh ++ w)).2 = u at hregs hlane
  generalize descramble58 (s.laneData l.val).descr (b.setWidth 64) = q
  have hvr : (u.setLaneData l.val { u.laneData l.val with descr := q.2 }).regs = s.regs := hregs
  have hvd : (u.setLaneData l.val { u.laneData l.val with descr := q.2 }).laneData l.val = { u.laneData l.val with descr := q.2 } := laneData_setLaneData _ _ _
  have hvl : ∃ d, (u.setLaneData l.val { u.laneData l.val with descr := q.2 }).lane l.val = { s.lane l.val with data := d } := by
    refine ⟨{ u.laneData l.val with descr := q.2 }, ?_⟩
    unfold State.setLaneData
    rw [lane_setLane, hlane]
  generalize u.setLaneData l.val { u.laneData l.val with descr := q.2 } = v at hvr hvd hvl ⊢
  have hsv : Touch [] s v := .of_regs hvr
  obtain ⟨dv, hvl⟩ := hvl
  have hlock : v.flag Reg.LN_STATUS_BLOCK_LOCK l.val = s.flag Reg.LN_STATUS_BLOCK_LOCK l.val := hsv.flagRow _ hl (by decide)
  unfold State.rlBlock
  have hdel := rlDeliver_touch (v.rlSync l.val h) hl (BitVec.ofNat 66 (h * 2 ^ 64 + q.1.toNat))
  obtain ⟨dd, hdl⟩ := rlDeliver_lane (v.rlSync l.val h) l.val (BitVec.ofNat 66 (h * 2 ^ 64 + q.1.toNat))
  refine done_then fun t he _ => ⟨hdirect, fun hbad => ?_, fun hbad h0 => ?_, fun hgood h0 h63 => ?_, fun hbad h1 h15 hwin => ?_, fun hgood h1 h16 hrun => ?_⟩
  · have hc : Counted Cnt.SH_ERRS l.val 0 1 v (v.syncCounted l.val h) := by
      unfold State.syncCounted
      rw [if_neg (by rcases hbad with rfl | rfl <;> decide)]
      exact counted_bump _ _ _ _ _ (.inl rfl)
    exact he.touch.counted (hdel.counted ((rlSync_touch v hl h).counted (hsv.counted_of hc hl (by decide)) hl (by decide)) hl (by decide)) hl (by decide)
  · rw [show t.lane l.val = _ from he.keeps (fun z => z.lane l.val) fun _ _ _ _ _ _ _ => rfl, hdl, rlSync_hunts hbad (hlock.trans h0), lane_setLane, hvl]
    exact ⟨rfl, rfl⟩
  · rw [he.touch.flagRow _ hl (by decide), hdel.flagRow _ hl (by decide)]
    exact rlSync_locks hl hgood (hlock.trans h0) (by rw [hvl]; exact h63)
  · rw [he.touch.flagRow _ hl (by decide), hdel.flagRow _ hl (by decide), he.touch.flagRow _ hl (by decide), hdel.flagRow _ hl (by decide)]
    exact rlSync_loses hl hbad (hlock.trans h1) (by rw [hvl]; exact h15) (by rw [hvl]; exact hwin)
  · obtain ⟨wn, bd, hkeep⟩ := rlSync_keeps hgood (hlock.trans h1) (by rw [hvl]; exact h16)
    have hrun' : (v.rlSync l.val h).running 4 l.val = true := by
      have hq : (v.rlSync l.val h).get Reg.LN_STATUS_Q_STATE l.val = s.get Reg.LN_STATUS_Q_STATE l.val := by
        rw [(rlSync_touch v hl h).getRow _ hl (by decide), (syncCounted_touch v hl h).getRow _ hl (by decide), hsv.getRow _ hl (by decide)]
      show ((v.rlSync l.val h).get Reg.LN_STATUS_Q_STATE l.val == 0) = true
      rw [hq]
      exact hrun
    have hlk : (v.rlSync l.val h).flag Reg.LN_STATUS_BLOCK_LOCK l.val = true := by
      rw [hkeep, (setLane_touch [] v l.val _).flagRow _ hl (by decide), hlock, h1]
    rw [show t.laneData l.val = _ from he.keeps (fun z => z.laneData l.val) fun _ _ _ _ _ _ _ => rfl, rlDeliver_crosses hlk hrun', hkeep,
      show (v.setLane l.val { v.lane l.val with window := wn, bad := bd }).laneData l.val = v.laneData l.val from (congrArg Lane.data (lane_setLane _ _ _)).trans rfl, hvd]

/-- Settles O49. -/
theorem slipBuffersAndRillLinkLanes : Obligations.SlipBuffersAndRillLinkLanes := by
  unfold Obligations.SlipBuffersAndRillLinkLanes
  exact ⟨slipFrameWrite_writes, slipRead_reads, rlBlockRx_passes, rilllinkFrameRx_takes, rlAlignLoss_ends⟩

end Sys2Proof.Machine
end

section
/-! SUPPORT. Packets: the selector, egress, flow entries and packets for the host (spec/11_intake_parser.md, spec/12_headgate.md) -/

namespace Sys2Proof.Machine

/-! ### Queues, packets and descriptors (R503, R507, R555–R557) -/

theorem setQParcels_rest (s : State) (q v : Nat) : RegsLogs s (s.setQParcels q v) := by
  unfold State.setQParcels
  exact .ite (regsLogs_set _ _ _ _ _) (regsLogs_set _ _ _ _ _)

theorem setQPkts_rest (s : State) (q v : Nat) : RegsLogs s (s.setQPkts q v) := by
  unfold State.setQPkts
  exact .ite (regsLogs_set _ _ _ _ _) (regsLogs_set _ _ _ _ _)

/-- A state whose queue `q` holds `l`. -/
def State.withQueue (s : State) (q : Nat) (l : List Nat) : State := { s with pk := { s.pk with queues := tput [] s.pk.queues q l } }

theorem setQueue_rest (s : State) (q : Nat) (l : List Nat) : RegsLogs (s.withQueue q l) (s.setQueue q l) := setQPkts_rest _ _ _

theorem setQueue_pk (s : State) (q : Nat) (l : List Nat) : (s.setQueue q l).pk = { s.pk with queues := tput [] s.pk.queues q l } :=
  (setQueue_rest s q l).keeps State.pk fun _ _ _ => rfl

theorem setQParcels_pk (s : State) (q v : Nat) : (s.setQParcels q v).pk = s.pk := (setQParcels_rest s q v).keeps State.pk fun _ _ _ => rfl

theorem refreshHg_pk (s : State) : s.refreshHg.pk = s.pk := (((RegsLogs.refl s).set _ _ _ _).set _ _ _ _).keeps State.pk fun _ _ _ => rfl

/-- What a packet that ends leaves: the packets beside it, and everything of the packet part but the packets. -/
theorem dropPkt_pk (s : State) (id : Nat) : ∃ m, (s.dropPkt id).pk = { s.pk with pkts := tput none m id none } := by
  unfold State.dropPkt State.release
  cases hp : s.pkt id with
  | none => exact ⟨s.pk.pkts, rfl⟩
  | some p =>
    have hback : ∀ v : State, v.pk = s.pk → ∃ m, ((((v.setPkt id (some { p with pool := .none_, parcels := [], desc := none })).refreshHg).setPkt id none).pk) =
        { s.pk with pkts := tput none m id none } := fun v hv => by
      refine ⟨tput none s.pk.pkts id (some { p with pool := .none_, parcels := [], desc := none }), ?_⟩
      unfold State.setPkt
      dsimp only
      rw [refreshHg_pk, hv]
    refine hback _ ?_
    split
    · exact (regsLogs_set _ _ _ _ _).keeps State.pk fun _ _ _ => rfl
    · rfl

theorem dropPkt_gone (s : State) (id : Nat) : (s.dropPkt id).pkt id = none :=
  tget_tput_self none (s.release id).pk.pkts id none

theorem leak_pk (s : State) (id : Nat) : ∃ m l d, (s.leak id).pk = { s.pk with pkts := m, leaked := l, leakedDesc := d } := by
  unfold State.leak
  cases hp : s.pkt id with
  | none => exact ⟨s.pk.pkts, s.pk.leaked, s.pk.leakedDesc, rfl⟩
  | some p =>
    dsimp only
    obtain ⟨m, hm⟩ := dropPkt_pk ((((({ s with pk := { s.pk with leaked := s.pk.leaked ++ p.parcels, leakedDesc := s.pk.leakedDesc ++ p.desc.toList } } : State).set
      Reg.LEAKED_PARCELS_PARCELS (s.pk.leaked ++ p.parcels).length).set Reg.LEAKED_DESC_DESC (s.pk.leakedDesc ++ p.desc.toList).length).set Reg.MEM_EVENTS_LEAK 1)) id
    have hkeep := (((RegsLogs.refl ({ s with pk := { s.pk with leaked := s.pk.leaked ++ p.parcels, leakedDesc := s.pk.leakedDesc ++ p.desc.toList } } : State)).set
      Reg.LEAKED_PARCELS_PARCELS (s.pk.leaked ++ p.parcels).length 0 0).set Reg.LEAKED_DESC_DESC (s.pk.leakedDesc ++ p.desc.toList).length 0 0).set Reg.MEM_EVENTS_LEAK 1 0 0
    rw [hkeep.keeps State.pk fun _ _ _ => rfl] at hm
    exact ⟨_, _, _, hm⟩

/-- Whether a word of memory 9 or 12 reads marked: both copies are bad, or the good first copy holds a mark (R555). -/
def State.markedTwice (s : State) (mem word : Nat) : Bool :=
  if s.wordBits mem 0 word < 2 then s.wordFlag mem 0 word else !decide (s.wordBits mem 1 word < 2)

theorem memRead2_fst (s : State) (mem word consumer : Nat) : (s.memRead2 mem word consumer).1 = s.markedTwice mem word := by
  unfold State.memRead2 State.markedTwice
  by_cases h0 : s.wordBits mem 0 word < 2
  · rw [if_pos h0, if_pos h0, memRead_fst, decide_eq_false (by omega), Bool.false_or]
  · rw [if_neg h0, if_neg h0]
    split
    next h1 => rw [decide_eq_true h1]; rfl
    next h1 => rw [decide_eq_false h1]; rfl

theorem markedTwice_congr {s t : State} (h : t.mem.words = s.mem.words) (mem word : Nat) : t.markedTwice mem word = s.markedTwice mem word := by
  unfold State.markedTwice State.wordBits State.wordFlag
  rw [h]

theorem memRead2_words (s : State) {mem : Nat} (hm : mem < 14) (word consumer : Nat) : (s.memRead2 mem word consumer).2.mem.words = s.mem.words := by
  unfold State.memRead2
  split
  · exact (issueKept_memRead s hm _ _ _).words List.not_mem_nil
  · split
    · dsimp only
      split
      · exact (issueKept_corrected s hm _ _).words List.not_mem_nil
      · rfl
    · exact (issueKept_uncorrectable s hm _ _ _).words List.not_mem_nil

theorem memReads2_fst (s : State) {mem : Nat} (hm : mem < 14) (word n consumer : Nat) :
    (s.memReads2 mem word n consumer).1 = (List.range n).any fun k => s.markedTwice mem (word + k) := by
  have hfold : ∀ (l : List Nat) (b : Bool) (u : State), u.mem.words = s.mem.words →
      (l.foldl (fun r k => let t := r.2.memRead2 mem (word + k) consumer; (r.1 || t.1, t.2)) (b, u)).1 = (b || l.any fun k => s.markedTwice mem (word + k)) := by
    intro l
    induction l with
    | nil => exact fun b _ _ => (Bool.or_false b).symm
    | cons k l ih =>
      intro b u hu
      rw [List.foldl_cons, ih _ _ ((memRead2_words u hm _ _).trans hu), memRead2_fst, markedTwice_congr hu, List.any_cons, Bool.or_assoc]
  exact hfold _ _ _ rfl

theorem readDesc_fst_congr {s t : State} (hp : t.pk.pkts = s.pk.pkts) (hw : t.mem.words = s.mem.words) (id : Nat) : (t.readDesc id).1 = (s.readDesc id).1 := by
  have hpkt : t.pkt id = s.pkt id := congrArg (fun m => tget none m id) hp
  unfold State.readDesc
  rw [hpkt]
  cases s.pkt id with
  | none => rfl
  | some p =>
    dsimp only
    cases p.desc with
    | none => rfl
    | some k =>
      dsimp only
      rw [memReads2_fst t (by decide), memReads2_fst s (by decide)]
      exact congrArg (List.any (List.range 2)) (funext fun j => markedTwice_congr hw _ _)

theorem readDesc_read (s : State) (id : Nat) : MemRead s (s.readDesc id).2 := by
  unfold State.readDesc
  cases s.pkt id with
  | none => exact ⟨.refl _ s, .refl s⟩
  | some p =>
    dsimp only
    cases p.desc with
    | none => exact ⟨.refl _ s, .refl s⟩
    | some k => exact memReads2_read s (mem := 9) (by decide) _ _ _

theorem MemRead.pk {s t : State} (h : MemRead s t) : t.pk = s.pk := h.2.keeps State.pk fun _ _ _ _ => rfl

/-! ### The selector (R500, R504) -/

/-- The state in which the head of queue `q` has been taken from it for turnout `t`, before its descriptor is read (R504). -/
def State.headTaken (s : State) (t q n : Nat) (wfq : Bool) : State :=
  let s1 := (s.setQueue q ((s.queue q).drop 1)).setQParcels q (s.qParcels q - n)
  (if wfq then { s1 with pk := { s1.pk with vTime := tput 0 s1.pk.vTime t (s.headTag q) } } else s1).perfDev 5 1

theorem perfDev_pk (s : State) (ev n : Nat) : (s.perfDev ev n).pk = s.pk := by
  obtain ⟨r, l, m, p, b, k, he, hk, -⟩ := (issueKept_perfDev s ev n).rest
  rw [he, hk rfl]

theorem headTaken_pk (s : State) (t q n : Nat) (wfq : Bool) :
    ∃ v, (s.headTaken t q n wfq).pk = { s.pk with queues := tput [] s.pk.queues q ((s.queue q).drop 1), vTime := v } := by
  unfold State.headTaken
  dsimp only
  have hpk := (setQParcels_pk (s.setQueue q ((s.queue q).drop 1)) q (s.qParcels q - n)).trans (setQueue_pk _ _ _)
  rw [perfDev_pk]
  split
  · exact ⟨_, congrArg (fun p : PktState => { p with vTime := tput 0 p.vTime t (s.headTag q) }) hpk⟩
  · exact ⟨_, hpk⟩

theorem headTaken_words (s : State) (t q n : Nat) (wfq : Bool) : (s.headTaken t q n wfq).mem.words = s.mem.words := by
  unfold State.headTaken
  dsimp only
  have hmem := ((setQParcels_rest (s.setQueue q ((s.queue q).drop 1)) q (s.qParcels q - n)).keeps State.mem fun _ _ _ => rfl).trans
    ((setQueue_rest s q _).keeps State.mem fun _ _ _ => rfl)
  rw [(issueKept_perfDev _ _ _).words List.not_mem_nil]
  split
  · exact congrArg MemState.words hmem
  · exact congrArg MemState.words hmem

theorem selectFrom_eq {s : State} {t q id : Nat} (hhead : s.headOf q = some id) (wfq : Bool) :
    ∃ n, s.selectFrom t q wfq = if ((s.headTaken t q n wfq).readDesc id).1 then (((s.headTaken t q n wfq).readDesc id).2.leak id).bite 10 none
      else { ((s.headTaken t q n wfq).readDesc id).2 with pk := { ((s.headTaken t q n wfq).readDesc id).2.pk with
        egress := tput [] ((s.headTaken t q n wfq).readDesc id).2.pk.egress t (tget [] ((s.headTaken t q n wfq).readDesc id).2.pk.egress t ++ [id]) } } := by
  unfold State.selectFrom
  rw [hhead]
  exact ⟨_, rfl⟩

/-- What a selection leaves of the packet part: the queue loses its head; the packet goes to the egress where its descriptor reads. -/
theorem selectFrom_pk {s : State} {t q id : Nat} (hhead : s.headOf q = some id) (wfq : Bool) :
    (s.selectFrom t q wfq).pk.queues = tput [] s.pk.queues q ((s.queue q).drop 1) ∧ (s.selectFrom t q wfq).pk.selections = s.pk.selections ∧
    (s.selectFrom t q wfq).pk.selCycle = s.pk.selCycle ∧ (s.selectFrom t q wfq).pk.rrLine = s.pk.rrLine ∧ (s.selectFrom t q wfq).pk.rrPort = s.pk.rrPort ∧
    ((s.readDesc id).1 = false → tget [] (s.selectFrom t q wfq).pk.egress t = tget [] s.pk.egress t ++ [id] ∧ (s.selectFrom t q wfq).pk.pkts = s.pk.pkts) := by
  obtain ⟨n, he⟩ := selectFrom_eq (t := t) hhead wfq
  obtain ⟨v, hpk⟩ := headTaken_pk s t q n wfq
  have hread := (readDesc_read (s.headTaken t q n wfq) id).pk.trans hpk
  have hmark : ((s.headTaken t q n wfq).readDesc id).1 = (s.readDesc id).1 := readDesc_fst_congr (by rw [hpk]) (headTaken_words s t q n wfq) id
  rw [he, hmark]
  cases hd : (s.readDesc id).1 with
  | true =>
    obtain ⟨m, l, d, hleak⟩ := leak_pk ((s.headTaken t q n wfq).readDesc id).2 id
    rw [if_pos rfl, bite_pk, hleak, hread]
    exact ⟨rfl, rfl, rfl, rfl, rfl, nofun⟩
  | false =>
    rw [if_neg Bool.false_ne_true]
    dsimp only
    rw [hread]
    exact ⟨rfl, rfl, rfl, rfl, rfl, fun _ => ⟨tget_tput_self _ _ _ _, rfl⟩⟩

/-- The state from which the selector serves turnout `t`: one selection more in this cycle, and the round robin past it (R500). -/
def State.selecting (s : State) (t : Nat) (line : Bool) : State :=
  ({ s with pk := { s.pk with selCycle := s.cycle, selections := s.selectionsNow + 1 } } : State).servedTurnout t line

theorem headgateSelect_eq {tn : Fin 256} {q : Nat} {line wfq : Bool} {s : State} (hnext : s.nextTurnout = some (tn.val, line)) (hsel : s.selected tn.val = some (q, wfq)) :
    exec (.headgateSelect tn) s = if 4 ≤ s.selectionsNow then .next s else done s ((s.selecting tn.val line).selectFrom tn.val q wfq) := by
  show execHeadgateSelect tn s = _
  unfold execHeadgateSelect
  rw [hnext, Option.filter_some, if_pos (beq_self_eq_true _)]
  dsimp only
  rw [hsel]
  rfl

theorem headgateSelect_takes {tn : Fin 256} {q id : Nat} {line wfq : Bool} {s : State} (hnext : s.nextTurnout = some (tn.val, line))
    (hsel : s.selected tn.val = some (q, wfq)) (hhead : s.headOf q = some id) (hless : s.selectionsNow < 4) :
    ∃ t, exec (.headgateSelect tn) s = .next t ∧ t.queue q = (s.queue q).drop 1 ∧ (∀ k, k ≠ q → t.queue k = s.queue k) ∧
      t.pk.selections = s.selectionsNow + 1 ∧ t.pk.selCycle = s.cycle ∧
      (line = true → t.pk.rrLine = (tn.val + 1) % 256 ∧ t.pk.rrPort = s.pk.rrPort) ∧ (line = false → t.pk.rrPort = (tn.val + 1) % 256 ∧ t.pk.rrLine = s.pk.rrLine) ∧
      ((s.readDesc id).1 = false → tget [] t.pk.egress tn.val = tget [] s.pk.egress tn.val ++ [id] ∧ t.pk.pkts = s.pk.pkts) := by
  rw [headgateSelect_eq hnext hsel, if_neg (by omega)]
  refine done_then fun t he _ => ?_
  have hpk : t.pk = _ := he.keeps State.pk fun _ _ _ _ _ _ _ => rfl
  have hq : (s.selecting tn.val line).queue = s.queue := by cases line <;> rfl
  have hdesc : ((s.selecting tn.val line).readDesc id).1 = (s.readDesc id).1 := by
    exact readDesc_fst_congr (s := s) (t := s.selecting tn.val line) (by cases line <;> rfl) rfl id
  have hhead' : (s.selecting tn.val line).headOf q = some id := by
    unfold State.headOf
    rw [hq]
    exact hhead
  obtain ⟨hqs, hsels, hcycle, hrl, hrp, hgo⟩ := selectFrom_pk (s := s.selecting tn.val line) (t := tn.val) hhead' wfq
  rw [hdesc] at hgo
  have hqueues : (s.selecting tn.val line).pk.queues = s.pk.queues := by cases line <;> rfl
  have heg : (s.selecting tn.val line).pk.egress = s.pk.egress := by cases line <;> rfl
  have hpkts : (s.selecting tn.val line).pk.pkts = s.pk.pkts := by cases line <;> rfl
  unfold State.queue
  rw [hpk, hqs, hsels, hcycle, hrl, hrp, hq, hqueues]
  refine ⟨tget_tput_self _ _ _ _, fun k hk => tget_tput_ne _ _ _ _ hk, ?_, ?_, fun hl => ?_, fun hl => ?_, fun h => ?_⟩
  · cases line <;> rfl
  · cases line <;> rfl
  · rw [hl]
    exact ⟨rfl, rfl⟩
  · rw [hl]
    exact ⟨rfl, rfl⟩
  · obtain ⟨hfirst, hkeep⟩ := hgo h
    exact ⟨hfirst.trans (by rw [heg]), hkeep.trans hpkts⟩

/-! ### Egress (R502, R503) -/

/-- The words of a packet read for any consumer: those marked, and what an access of the banks may change. -/
theorem readWords_marks (s : State) (p : Pkt) (lo hi consumer : Nat) :
    IssueKept true [] s (s.readWords p lo hi consumer).1 ∧ (s.readWords p lo hi consumer).2 = s.markedWords p lo hi := by
  unfold State.readWords
  refine foldl_collects (banks := true) _
    (fun s k => if (s.memRead 1 (p.parcels.getD ((lo + k) / 4) 0 / 32768) (4 * (p.parcels.getD ((lo + k) / 4) 0 % 32768) + (lo + k) % 4) 2).1 then [lo + k] else [])
    (fun s u k hw => ?_) (fun r k => ?_) (List.range (hi - lo)) (s, [])
  · rw [memRead_fst_congr hw]
  · have hbank := issueKept_bankAccess r.1 (p.parcels.getD ((lo + k) / 4) 0 / 32768) k
    dsimp only
    rw [memRead_fst_congr (hbank.words List.not_mem_nil) _ _ _ consumer 2]
    refine ⟨hbank.trans (issueKept_memRead _ (by decide) _ _ _).weaken, ?_⟩
    split
    · rfl
    · exact (List.append_nil _).symm

/-- A packet of sound words reads without a mark. -/
theorem markedWords_clean {s : State} {p : Pkt} {n : Nat}
    (h : ∀ w, w < n → Clean 1 (p.parcels.getD (w / 4) 0 / 32768) (4 * (p.parcels.getD (w / 4) 0 % 32768) + w % 4) s) : s.markedWords p 0 n = [] := by
  unfold State.markedWords
  refine List.flatMap_eq_nil_iff.mpr fun k hk => if_neg fun hm => (memRead_marked s _ _ _ _).mp hm ?_
  rw [Nat.zero_add]
  exact h k (by simpa using hk)

/-- Reading parcels: the memories' error words and the bank counters. -/
def readWordsPatches : List Patch := memReadPatches ++ perfPage

theorem readWords_touch (s : State) (p : Pkt) (lo hi consumer : Nat) : Touch readWordsPatches s (s.readWords p lo hi consumer).1 := by
  have hfold : ∀ (l : List Nat) (r : State × List Nat), Touch readWordsPatches r.1
      (l.foldl (fun (r : State × List Nat) k =>
        let w := lo + k
        let c := p.parcels.getD (w / 4) 0
        let x := (r.1.bankAccess (c / 32768) k).memRead 1 (c / 32768) (4 * (c % 32768) + w % 4) consumer
        (x.2, if x.1 then r.2 ++ [w] else r.2)) r).1 := by
    intro l
    induction l with
    | nil => exact fun r => .refl _ r.1
    | cons k l ih => exact fun r => (((bankAccess_touch _ _ _).mono (by decide)).andThen (memRead_touch _ (by decide) _ _ _) (by decide)).trans (ih _)
  exact hfold _ _

/-- The words that a packet's end writes: CHARGED of its turnout, and the shared pools' fill (R503). -/
def dropPktPatches : List Patch := [Reg.TN_HG_STATUS_CHARGED.patch 256, Reg.HG_SHARED_FREE_SHARED.patch, Reg.HG_DESC_DESC_USED.patch]

theorem refreshHg_touch (s : State) : Touch dropPktPatches s s.refreshHg := ((Touch.refl _ s).set0 (by decide)).set0 (by decide)

theorem dropPkt_touch {s : State} {id : Nat} (h : ∀ p q, s.pkt id = some p → p.pool = .data q → q < 2048) : Touch dropPktPatches s (s.dropPkt id) := by
  have hpkt : ∀ (v : State) x, Touch dropPktPatches v (v.setPkt id x) := fun _ _ => .of_regs rfl
  have hrelease : Touch dropPktPatches s (s.release id) := by
    unfold State.release
    cases hp : s.pkt id with
    | none => exact .refl _ s
    | some p =>
      refine .trans (.trans ?_ (hpkt _ _)) (refreshHg_touch _)
      cases hpool : p.pool with
      | data q => exact (Touch.refl _ s).setRow (f := Reg.TN_HG_STATUS_CHARGED) (n := 256) (by have := h p q hp hpool; omega) (by decide)
      | _ => exact .refl _ s
  exact hrelease.trans (hpkt _ _)

theorem fiUnit_pass {s : State} {point target : Nat} (h : s.fiAt point target = none) (bits : Nat) : s.fiUnit point target bits = (s, .pass) := by
  unfold State.fiUnit
  rw [h]

theorem fiPassed_none {s : State} {point target : Nat} (h : s.fiAt point target = none) : s.fiPassed point target = (s, none) := by
  unfold State.fiPassed
  rw [h]

/-- A frame leaves a turnout: TX_PKTS and TX_OCTETS count it. -/
def State.sentCounted (s : State) (t n : Nat) : State := (s.bump Cnt.TX_PKTS t).bump Cnt.TX_OCTETS t 0 n

theorem sentCounted_rest (s : State) (t n : Nat) : RegsLogs s (s.sentCounted t n) := ((RegsLogs.refl s).bump _ _ _ _).bump _ _ _ _

/-- The blocks of a sent frame go to the line, to the lanes of the host packet port, where a loopback returns them, or nowhere (R503, R597). -/
def State.frameOut (u : State) (line host looped : Bool) (t : Nat) (frame : List Byte) : State :=
  let s2 := { u with pk := { u.pk with sent := tput [] u.pk.sent t frame } }
  if line then s2.setEgressBlocks t (s2.egressBlocks t ++ clause82 frame)
  else if host then
    let s3 := { s2 with tsi := { s2.tsi with ethWait := tput [] s2.tsi.ethWait t (tget [] s2.tsi.ethWait t ++ clause82 frame) } }
    if looped then { s3 with pk := { s3.pk with loops := tput [] s3.pk.loops t (tget [] s3.pk.loops t ++ [clause82 frame]) } }
    else { s3 with pk := { s3.pk with loops := tput [] s3.pk.loops t [] } }
  else s2

theorem sendFrame_eq (s : State) (t : Nat) (frame : List Byte) : s.sendFrame t frame =
    (s.sentCounted t frame.length).frameOut (s.linePacket t) (s.flag Reg.TN_PKT_HOST_PORT t) (s.looped (s.get Reg.TN_PKT_LANE t)) t frame := by
  unfold State.sendFrame State.frameOut State.sentCounted
  rfl

section
variable (u : State) (line host looped : Bool) (t : Nat) (frame : List Byte)

theorem frameOut_kept : (u.frameOut line host looped t frame).regs = u.regs ∧ (u.frameOut line host looped t frame).pk.egress = u.pk.egress ∧
    (u.frameOut line host looped t frame).pk.pkts = u.pk.pkts ∧ (u.frameOut line host looped t frame).test = u.test := by
  unfold State.frameOut
  cases line
  · cases host
    · exact ⟨rfl, rfl, rfl, rfl⟩
    · cases looped
      · exact ⟨rfl, rfl, rfl, rfl⟩
      · exact ⟨rfl, rfl, rfl, rfl⟩
  · exact ⟨rfl, rfl, rfl, rfl⟩

theorem frameOut_sent : tget [] (u.frameOut line host looped t frame).pk.sent t = frame := by
  have hself : (u.frameOut line host looped t frame).pk.sent = tput [] u.pk.sent t frame := by
    unfold State.frameOut
    cases line
    · cases host
      · rfl
      · cases looped <;> rfl
    · rfl
  rw [hself]
  exact tget_tput_self _ _ _ _

theorem frameOut_line : (u.frameOut true host looped t frame).egressBlocks t = u.egressBlocks t ++ clause82 frame := tget_tput_self _ _ _ _

theorem frameOut_host : tget [] (u.frameOut false true looped t frame).tsi.ethWait t = tget [] u.tsi.ethWait t ++ clause82 frame := by
  have hself : (u.frameOut false true looped t frame).tsi.ethWait = tput [] u.tsi.ethWait t (tget [] u.tsi.ethWait t ++ clause82 frame) := by
    unfold State.frameOut
    cases looped <;> rfl
  rw [hself]
  exact tget_tput_self _ _ _ _

end

/-- The state in which packet `p` is sent: its words have been read, and a poisoned one has counted (R556). -/
def State.packetRead (s : State) (t : Nat) (p : Pkt) : State :=
  let r := s.readWords p 0 (wordsFor p.data.length) 1
  if r.2.isEmpty then r.1 else (r.1.bump Cnt.POISON_EGRESS).bite 1 (some t) true

theorem egressOut_eq {s : State} {id : Nat} {p : Pkt} (hp : s.pkt id = some p) (t : Nat) :
    s.egressOut t id = ((s.packetRead t p).sendFrame t (cutFrame p.data (s.readWords p 0 (wordsFor p.data.length) 1).2)).dropPkt id := by
  unfold State.egressOut
  rw [hp]
  rfl

def packetReadPatches : List Patch := readWordsPatches ++ Cnt.POISON_EGRESS.patches ++ [Reg.MEM_EVENTS_POISON_BITE.patch]

theorem packetRead_touch (s : State) (t : Nat) (p : Pkt) : Touch packetReadPatches s (s.packetRead t p) := by
  have hr : Touch packetReadPatches s (s.readWords p 0 (wordsFor p.data.length) 1).1 := (readWords_touch s p _ _ _).mono (by decide)
  unfold State.packetRead
  exact .ite (fun _ => hr) fun _ => (hr.bump0 (by decide)).andThen (bite_touch _ _ _ _) (by decide)

/-- Everything but registers, log queues, memory, performance counters and the banks' busy times is as it was. -/
def BanksRead (s t : State) : Prop :=
  ∃ r l m q b k, t = { s with regs := r, logs := l, mem := m, perf := q, self := { s.self with sent := b }, pk := { s.pk with bankBusy := k } }

theorem BanksRead.of_issueKept {banks : Bool} {but : List Nat} {s t : State} (h : IssueKept banks but s t) : BanksRead s t := by
  obtain ⟨r, l, m, q, b, k, he, -, -⟩ := h.rest
  exact ⟨r, l, m, q, b, k, he⟩

theorem BanksRead.regsLogs {s t u : State} (h : BanksRead s t) (k : RegsLogs t u) : BanksRead s u := by
  obtain ⟨r, l, m, q, b, x, rfl⟩ := h
  obtain ⟨r', l', b', rfl⟩ := k
  exact ⟨r', l', m, q, b', x, rfl⟩

theorem BanksRead.keeps {β : Type} {s t : State} (h : BanksRead s t) (π : State → β)
    (hπ : ∀ r l m q b k, π { s with regs := r, logs := l, mem := m, perf := q, self := { s.self with sent := b }, pk := { s.pk with bankBusy := k } } = π s) :
    π t = π s := by
  obtain ⟨r, l, m, q, b, k, rfl⟩ := h
  exact hπ r l m q b k

theorem bite_rest (s : State) (consumer : Nat) (turnout : Option Nat) (record : Bool) : RegsLogs s (s.bite consumer turnout record) := by
  unfold State.bite
  exact .ite ((regsLogs_set _ _ _ _ _).trans (regsLogs_log _ _ _ _)) (regsLogs_set _ _ _ _ _)

theorem packetRead_rest (s : State) (t : Nat) (p : Pkt) : BanksRead s (s.packetRead t p) := by
  have hr := BanksRead.of_issueKept (readWords_marks s p 0 (wordsFor p.data.length) 1).1
  unfold State.packetRead
  generalize s.readWords p 0 (wordsFor p.data.length) 1 = r at hr
  exact hr.regsLogs (.ite (.refl _) (((RegsLogs.refl _).bump _ _ _ _).trans (bite_rest _ _ _ _)))

/-- The state in which the first packet of turnout `t` leaves the egress (R503). -/
def State.egressTaken (s : State) (t : Nat) (rest : List Nat) : State := { s with pk := { s.pk with egress := tput [] s.pk.egress t rest } }

theorem packetEgress_eq {tn : Fin 256} {id : Nat} {rest : List Nat} {p : Pkt} {s : State} (heg : tget [] s.pk.egress tn.val = id :: rest) (hp : s.pkt id = some p)
    (hfi : s.fiAt 0 tn.val = none) (hend : ((s.egressTaken tn.val rest).egressOut tn.val id).test = s.test) :
    exec (.packetEgress tn) s = done s ((s.egressTaken tn.val rest).egressOut tn.val id) := by
  have hpass := fiUnit_pass (s := s.egressTaken tn.val rest) ((fiAt_of_test rfl _ _).trans hfi)
  have hnone : ((s.egressTaken tn.val rest).egressOut tn.val id).fiPassed 0 tn.val = (_, none) := fiPassed_none ((fiAt_of_test hend _ _).trans hfi)
  have hp0 : (s.egressTaken tn.val rest).pkt id = some p := hp
  show execPacketEgress tn s = _
  unfold execPacketEgress
  unfold State.egressTaken at hpass hnone hp0 ⊢
  dsimp only
  rw [heg]
  dsimp only
  rw [hp0]
  dsimp only
  rw [hpass]
  dsimp only
  rw [hnone]

theorem dropPkt_test (s : State) (id : Nat) : (s.dropPkt id).test = s.test :=
  (congrArg State.test (offPackets_dropPkt (s := s) id) : (s.dropPkt id).offPackets.test = s.offPackets.test)

theorem dropPkt_tsi (s : State) (id : Nat) : (s.dropPkt id).tsi = s.tsi :=
  (congrArg State.tsi (offPackets_dropPkt (s := s) id) : (s.dropPkt id).offPackets.tsi = s.offPackets.tsi)

/-- What may change in the words of a packet that is sent, beside its counters. -/
def egressPatches : List Patch := packetReadPatches ++ dropPktPatches

theorem packetEgress_sends {tn : Fin 256} {id : Nat} {rest : List Nat} {p : Pkt} {s : State} (heg : tget [] s.pk.egress tn.val = id :: rest) (hp : s.pkt id = some p)
    (hfi : s.fiAt 0 tn.val = none) (hpool : ∀ q, p.pool = .data q → q < 2048) :
    ∃ t, exec (.packetEgress tn) s = .next t ∧ tget [] t.pk.egress tn.val = rest ∧ t.pkt id = none ∧ Counted Cnt.TX_PKTS tn.val 0 1 s t ∧
      ((∀ w, w < wordsFor p.data.length → Clean 1 (p.parcels.getD (w / 4) 0 / 32768) (4 * (p.parcels.getD (w / 4) 0 % 32768) + w % 4) s) →
        tget [] t.pk.sent tn.val = p.data ∧ Counted Cnt.TX_OCTETS tn.val 0 p.data.length s t ∧
        (s.linePacket tn.val = true → t.egressBlocks tn.val = s.egressBlocks tn.val ++ clause82 p.data) ∧
        (s.linePacket tn.val = false → s.flag Reg.TN_PKT_HOST_PORT tn.val = true → tget [] t.tsi.ethWait tn.val = tget [] s.tsi.ethWait tn.val ++ clause82 p.data)) := by
  have ht : tn.val < 256 := tn.isLt
  generalize hs0 : s.egressTaken tn.val rest = s0
  have hp0 : s0.pkt id = some p := hs0 ▸ hp
  have hread := packetRead_rest s0 tn.val p
  have htouch : Touch packetReadPatches s (s0.packetRead tn.val p) := .trans (.of_regs (hs0 ▸ rfl)) (packetRead_touch s0 tn.val p)
  have hout := egressOut_eq hp0 tn.val
  have hclean : (∀ w, w < wordsFor p.data.length → Clean 1 (p.parcels.getD (w / 4) 0 / 32768) (4 * (p.parcels.getD (w / 4) 0 % 32768) + w % 4) s) →
      (s0.readWords p 0 (wordsFor p.data.length) 1).2 = [] := fun h =>
    (readWords_marks s0 p _ _ _).2.trans (markedWords_clean fun w hw => hs0 ▸ h w hw)
  generalize (s0.readWords p 0 (wordsFor p.data.length) 1).2 = marks at hout hclean
  generalize s0.packetRead tn.val p = v at hread htouch hout
  generalize hframe : cutFrame p.data marks = frame at hout
  have hvpk : v.pk.egress = s0.pk.egress ∧ v.pkt id = some p ∧ v.test = s.test ∧ v.tsi = s.tsi :=
    ⟨hread.keeps (fun s => s.pk.egress) fun _ _ _ _ _ _ => rfl, (hread.keeps (fun s => s.pkt id) fun _ _ _ _ _ _ => rfl).trans hp0,
      (hread.keeps State.test fun _ _ _ _ _ _ => rfl).trans (hs0 ▸ rfl), (hread.keeps State.tsi fun _ _ _ _ _ _ => rfl).trans (hs0 ▸ rfl)⟩
  obtain ⟨hveg, hvpkt, hvtest, hvtsi⟩ := hvpk
  have hc := sentCounted_rest v tn.val frame.length
  have hcpk : (v.sentCounted tn.val frame.length).pk = v.pk := hc.keeps State.pk fun _ _ _ => rfl
  have hctest : (v.sentCounted tn.val frame.length).test = v.test := hc.keeps State.test fun _ _ _ => rfl
  have hctsi : (v.sentCounted tn.val frame.length).tsi = v.tsi := hc.keeps State.tsi fun _ _ _ => rfl
  have hsend := sendFrame_eq v tn.val frame
  have hpkts : Counted Cnt.TX_PKTS tn.val 0 1 v (v.sentCounted tn.val frame.length) :=
    Touch.counted ((Touch.refl Cnt.TX_OCTETS.patches _).bumpRow ht (by decide)) (counted_bump v Cnt.TX_PKTS tn.val 0 1 (.inr rfl)) ht (by decide)
  have hoctets : Counted Cnt.TX_OCTETS tn.val 0 frame.length v (v.sentCounted tn.val frame.length) :=
    Touch.counted_of (l := Cnt.TX_PKTS.patches) ((Touch.refl _ v).bumpRow ht (by decide)) (counted_bump _ Cnt.TX_OCTETS tn.val 0 frame.length (.inr rfl)) ht (by decide)
  generalize v.sentCounted tn.val frame.length = c at hcpk hctest hctsi hsend hpkts hoctets
  obtain ⟨hregs, hfeg, hfpkts, hftest⟩ := frameOut_kept c (v.linePacket tn.val) (v.flag Reg.TN_PKT_HOST_PORT tn.val) (v.looped (v.get Reg.TN_PKT_LANE tn.val)) tn.val frame
  rw [← hsend] at hregs hfeg hfpkts hftest
  have hspkt : (v.sendFrame tn.val frame).pkt id = some p := (congrArg (fun m => tget none m id) (hfpkts.trans (congrArg PktState.pkts hcpk))).trans hvpkt
  have hdrop : Touch egressPatches c ((v.sendFrame tn.val frame).dropPkt id) :=
    .trans (.of_regs hregs) ((dropPkt_touch fun x q hx hq => hpool q (by rw [← hq, Option.some.inj (hspkt.symm.trans hx)])).mono (by decide))
  obtain ⟨m, hdpk⟩ := dropPkt_pk (v.sendFrame tn.val frame) id
  have hdtsi := dropPkt_tsi (v.sendFrame tn.val frame) id
  have hdtest := (dropPkt_test (v.sendFrame tn.val frame) id).trans (hftest.trans (hctest.trans hvtest))
  have hgone := dropPkt_gone (v.sendFrame tn.val frame) id
  rw [← hout] at hdrop hdpk hdtsi hdtest hgone
  rw [packetEgress_eq heg hp hfi (hs0 ▸ hdtest), hs0]
  refine done_then fun t he _ => ?_
  have hpk : t.pk = (s0.egressOut tn.val id).pk := he.keeps State.pk fun _ _ _ _ _ _ _ => rfl
  have htsi : t.tsi = (v.sendFrame tn.val frame).tsi := (he.keeps State.tsi fun _ _ _ _ _ _ _ => rfl).trans hdtsi
  have hafter : Touch egressPatches c t := hdrop.andThen he.touch (by decide)
  refine ⟨?_, ?_, hafter.counted (htouch.counted_of hpkts ht (by decide)) ht (by decide), fun h => ?_⟩
  · rw [hpk, hdpk, hfeg, hcpk, hveg, ← hs0]
    exact tget_tput_self _ _ _ _
  · exact (congrArg (fun x : PktState => tget none x.pkts id) hpk).trans hgone
  · have hwhole : frame = p.data := by rw [← hframe, hclean h]; rfl
    have hline : v.linePacket tn.val = s.linePacket tn.val := by
      unfold State.linePacket State.kind
      rw [htouch.getRow Reg.TN_CLIENT_KIND ht (by decide), htouch.flagRow Reg.TN_PKT_HOST_PORT ht (by decide)]
    rw [hwhole] at hoctets hsend
    refine ⟨?_, hafter.counted (htouch.counted_of hoctets ht (by decide)) ht (by decide), fun hl => ?_, fun hl hh => ?_⟩
    · rw [hpk, hdpk]
      dsimp only
      rw [hwhole, hsend]
      exact frameOut_sent _ _ _ _ _ _
    · unfold State.egressBlocks
      rw [htsi, hwhole, hsend, hline, hl, ← hvtsi, ← hctsi]
      exact frameOut_line _ _ _ _ _
    · rw [htsi, hwhole, hsend, hline, hl, htouch.flagRow Reg.TN_PKT_HOST_PORT ht (by decide), hh, ← hvtsi, ← hctsi]
      exact frameOut_host _ _ _ _

/-! ### Flow entries (R469–R471, R479, R484) -/

theorem findFlow_congr {s t : State} (h : t.pk.flows = s.pk.flows) (format key hash : Nat) : t.findFlow format key hash = s.findFlow format key hash := by
  unfold State.findFlow State.flowAt
  rw [h]

theorem freeSlot_congr {s t : State} (h : t.pk.flows = s.pk.flows) (b : Nat) : t.freeSlot b = s.freeSlot b := by
  unfold State.freeSlot State.flowAt
  rw [h]

theorem otherBucket_congr {s t : State} (h : t.pk.flows = s.pk.flows) (hseed : ∀ e, t.entryHash e = s.entryHash e) (i : Nat) : t.otherBucket i = s.otherBucket i := by
  unfold State.otherBucket State.flowAt
  rw [h]
  cases tget none s.pk.flows i with
  | none => rfl
  | some e =>
    dsimp only
    rw [hseed e]

/-- The search for a chain of moves looks at the flow table and the hashes of its entries alone (R470). -/
theorem findChain_congr {s t : State} (h : t.pk.flows = s.pk.flows) (hseed : ∀ e, t.entryHash e = s.entryHash e) (fuel : Nat) (todo : List (List Nat)) (reached : List Nat) :
    t.findChain fuel todo reached = s.findChain fuel todo reached := by
  induction fuel generalizing todo reached with
  | zero => rfl
  | succ fuel ih =>
    cases todo with
    | nil => rfl
    | cons chain todo =>
      cases chain with
      | nil => rfl
      | cons i chain =>
        unfold State.findChain
        dsimp only
        rw [otherBucket_congr h hseed i, freeSlot_congr h]
        simp only [ih]

theorem applyChain_congr {s t : State} (h : t.pk.flows = s.pk.flows) (chain : List Nat) :
    (t.applyChain chain).2 = (s.applyChain chain).2 := by
  induction chain generalizing s t with
  | nil => rfl
  | cons i rest ih =>
    cases rest with
    | nil => rfl
    | cons j rest =>
      refine ih ?_
      unfold State.setFlow State.flowAt
      dsimp only
      rw [h]

theorem placeFlow_congr {s t : State} (h : t.pk.flows = s.pk.flows) (hseed : ∀ e, t.entryHash e = s.entryHash e) (hash : Nat) :
    (t.placeFlow hash).2 = (s.placeFlow hash).2 := by
  unfold State.placeFlow
  rw [freeSlot_congr h, freeSlot_congr h]
  cases s.freeSlot (bucket1 hash) with
  | some i => rfl
  | none =>
    dsimp only
    cases s.freeSlot (bucket2 hash) with
    | some i => rfl
    | none =>
      dsimp only
      rw [findChain_congr h hseed]
      cases s.findChain 64 _ _ with
      | none => rfl
      | some chain => exact applyChain_congr h chain

/-- Moving entries along a chain leaves everything but the flow table. -/
theorem applyChain_flows (s : State) (chain : List Nat) : ∃ m, (s.applyChain chain).1 = { s with pk := { s.pk with flows := m } } := by
  induction chain generalizing s with
  | nil => exact ⟨s.pk.flows, rfl⟩
  | cons i rest ih =>
    cases rest with
    | nil => exact ⟨s.pk.flows, rfl⟩
    | cons j rest =>
      obtain ⟨m, hm⟩ := ih ((s.setFlow i (s.flowAt j)).setFlow j none)
      exact ⟨m, hm⟩

theorem placeFlow_flows (s : State) (hash : Nat) : ∃ m, (s.placeFlow hash).1 = { s with pk := { s.pk with flows := m } } := by
  unfold State.placeFlow
  cases s.freeSlot (bucket1 hash) with
  | some i => exact ⟨s.pk.flows, rfl⟩
  | none =>
    dsimp only
    cases s.freeSlot (bucket2 hash) with
    | some i => exact ⟨s.pk.flows, rfl⟩
    | none =>
      dsimp only
      cases s.findChain 64 _ _ with
      | none => exact ⟨s.pk.flows, rfl⟩
      | some chain => exact applyChain_flows s chain

theorem memWritten_memWrites (s : State) (mem inst word n : Nat) (poison : Bool) : MemWritten s (s.memWrites mem inst word n poison) :=
  .foldl (fun s k => memWritten_memWrite s mem inst (word + k) poison) _ s

theorem MemWritten.pk {s t : State} (h : MemWritten s t) : t.pk = s.pk := by
  obtain ⟨r, l, m, b, he⟩ := h.rest
  rw [he]

theorem writeFlow_flows (s : State) (i : Nat) (e : Option FlowEntry) : (s.writeFlow i e).pk.flows = tput none s.pk.flows i e :=
  congrArg PktState.flows (memWritten_memWrites (s.setFlow i e) 7 0 (4 * i) 4 false).pk

theorem flowAt_writeFlow (s : State) (i : Nat) (e : Option FlowEntry) : (s.writeFlow i e).flowAt i = e ∧ ∀ k, k ≠ i → (s.writeFlow i e).flowAt k = s.flowAt k := by
  unfold State.flowAt
  rw [writeFlow_flows]
  exact ⟨tget_tput_self _ _ _ _, fun k hk => tget_tput_ne _ _ _ _ hk⟩

theorem writeFlow_mbs (s : State) (i : Nat) (e : Option FlowEntry) : (s.writeFlow i e).mbs = s.mbs :=
  (memWritten_memWrites (s.setFlow i e) 7 0 (4 * i) 4 false).mbs

section
variable {mb : Fin 8} {p : List Byte} {s : State}

/-- The entry that FLOW_ADD writes. -/
def flowOf (p : List Byte) (hit : Bool) : FlowEntry := { format := u8 p 0, key := cmdKey p, action := u64 p 48, hit := hit }

theorem flowAt_of_ended {but : List Nat} {u t : State} (he : Ended but s u t) (k : Nat) : t.flowAt k = u.flowAt k :=
  he.keeps (fun s => s.flowAt k) fun _ _ _ _ _ _ _ => rfl

section
variable (hreq : s.request mb.val 0x0615 = some p) (hoff : s.blocksOff = false) (hkey : keyStray (u8 p 0) (cmdKey p) = false)
  (hact : s.actionBad s.profile (u64 p 48) = false)
include hreq hoff hkey hact

theorem flowAdd_changes {i : Nat} {e : FlowEntry} (hfind : s.findFlow (u8 p 0) (cmdKey p) (s.cmdHash p) = some i) (hat : s.flowAt i = some e) :
    ∃ t, exec (.flowAdd mb) s = .next t ∧ Answered mb.val (okD [2, 0, 0, 0]) s t ∧
      t.flowAt i = some { format := u8 p 0, key := cmdKey p, action := u64 p 48, hit := e.hit } ∧ ∀ k, k ≠ i → t.flowAt k = s.flowAt k := by
  show ∃ t, execFlowAdd mb s = _ ∧ _
  unfold execFlowAdd
  refine act_then (u := (s.serving mb.val).writeFlow i (some (flowOf p e.hit))) (r := okD [2, 0, 0, 0]) hreq ?_ fun t he hans => ?_
  · dsimp only
    rw [show (s.serving mb.val).blocksOff = false from hoff, hkey, show (s.serving mb.val).actionBad (s.serving mb.val).profile (u64 p 48) = false from hact,
      show (s.serving mb.val).findFlow (u8 p 0) (cmdKey p) ((s.serving mb.val).cmdHash p) = some i from hfind]
    dsimp only
    rw [show (s.serving mb.val).flowAt i = some e from hat]
    rfl
  · obtain ⟨hself, hother⟩ := flowAt_writeFlow (s.serving mb.val) i (some (flowOf p e.hit))
    exact ⟨hans.of_mbs (writeFlow_mbs _ _ _), (flowAt_of_ended he i).trans hself, fun k hk => (flowAt_of_ended he k).trans (hother k hk)⟩

theorem flowAdd_places {i : Nat} (hfind : s.findFlow (u8 p 0) (cmdKey p) (s.cmdHash p) = none) (hplace : (s.placeFlow (s.cmdHash p)).2 = some i) :
    ∃ t, exec (.flowAdd mb) s = .next t ∧ Answered mb.val (okD [1, 0, 0, 0]) s t ∧ t.flowAt i = some { format := u8 p 0, key := cmdKey p, action := u64 p 48 } := by
  have hplace' : ((s.serving mb.val).placeFlow ((s.serving mb.val).cmdHash p)).2 = some i := (placeFlow_congr (s := s) (t := s.serving mb.val) rfl (fun _ => rfl) _).trans hplace
  obtain ⟨m, hm⟩ := placeFlow_flows (s.serving mb.val) ((s.serving mb.val).cmdHash p)
  show ∃ t, execFlowAdd mb s = _ ∧ _
  unfold execFlowAdd
  refine act_then (u := (((s.serving mb.val).placeFlow ((s.serving mb.val).cmdHash p)).1.writeFlow i (some (flowOf p false))).set Reg.IN_STATUS_FLOW_USED
    ((s.serving mb.val).get Reg.IN_STATUS_FLOW_USED + 1)) (r := okD [1, 0, 0, 0]) hreq ?_ fun t he hans => ?_
  · dsimp only
    rw [show (s.serving mb.val).blocksOff = false from hoff, hkey, show (s.serving mb.val).actionBad (s.serving mb.val).profile (u64 p 48) = false from hact,
      show (s.serving mb.val).findFlow (u8 p 0) (cmdKey p) ((s.serving mb.val).cmdHash p) = none from hfind]
    dsimp only
    rw [hplace']
    rfl
  · have hset : t.flowAt i = (((s.serving mb.val).placeFlow ((s.serving mb.val).cmdHash p)).1.writeFlow i (some (flowOf p false))).flowAt i :=
      (flowAt_of_ended he i).trans ((regsLogs_set _ _ _ _ _).keeps (fun s => s.flowAt i) fun _ _ _ => rfl)
    refine ⟨hans.of_mbs ?_, hset.trans (flowAt_writeFlow _ i (some (flowOf p false))).1⟩
    rw [set_mbs, writeFlow_mbs, hm]
    rfl

theorem flowAdd_exhausted (hfind : s.findFlow (u8 p 0) (cmdKey p) (s.cmdHash p) = none) (hplace : (s.placeFlow (s.cmdHash p)).2 = none) :
    ∃ t, exec (.flowAdd mb) s = .next t ∧ Answered mb.val (err cEXHAUSTED) s t ∧ Counted Cnt.FLOW_INSERT_FAILS 0 0 1 s t ∧ t.flag Reg.IN_EVENTS_FLOW_FULL = true ∧
      t.pk = s.pk := by
  have hplace' : ((s.serving mb.val).placeFlow ((s.serving mb.val).cmdHash p)).2 = none := (placeFlow_congr (s := s) (t := s.serving mb.val) rfl (fun _ => rfl) _).trans hplace
  show ∃ t, execFlowAdd mb s = _ ∧ _
  unfold execFlowAdd
  refine act_then (u := ((s.serving mb.val).bump Cnt.FLOW_INSERT_FAILS).set Reg.IN_EVENTS_FLOW_FULL 1) (r := err cEXHAUSTED) hreq ?_ fun t he hans => ?_
  · dsimp only
    rw [show (s.serving mb.val).blocksOff = false from hoff, hkey, show (s.serving mb.val).actionBad (s.serving mb.val).profile (u64 p 48) = false from hact,
      show (s.serving mb.val).findFlow (u8 p 0) (cmdKey p) ((s.serving mb.val).cmdHash p) = none from hfind]
    dsimp only
    rw [hplace']
    rfl
  · have hrest : RegsLogs (s.serving mb.val) (((s.serving mb.val).bump Cnt.FLOW_INSERT_FAILS).set Reg.IN_EVENTS_FLOW_FULL 1) := ((RegsLogs.refl _).bump _ _ _ _).set _ _ _ _
    refine ⟨hans.of_mbs (hrest.keeps State.mbs fun _ _ _ => rfl), ?_, ?_, (he.keeps State.pk fun _ _ _ _ _ _ _ => rfl).trans (hrest.keeps State.pk fun _ _ _ => rfl)⟩
    · exact counted_set (s := s.serving mb.val) rfl (by decide) he.answer_touch (by decide) (by decide)
    · exact (he.answer_touch.flag0 _ (by decide)).trans (flag_set_self _ _ _ _ _ (by decide))

end

theorem flowDel_removes (hreq : s.request mb.val 0x0616 = some p) (hoff : s.blocksOff = false) (hkey : keyStray (u8 p 0) (cmdKey p) = false) {i : Nat}
    (hfind : s.findFlow (u8 p 0) (cmdKey p) (s.cmdHash p) = some i) :
    ∃ t, exec (.flowDel mb) s = .next t ∧ Answered mb.val (okD [1, 0, 0, 0]) s t ∧ t.flowAt i = none ∧ ∀ k, k ≠ i → t.flowAt k = s.flowAt k := by
  show ∃ t, execFlowDel mb s = _ ∧ _
  unfold execFlowDel
  refine act_then (u := ((s.serving mb.val).writeFlow i none).set Reg.IN_STATUS_FLOW_USED ((s.serving mb.val).get Reg.IN_STATUS_FLOW_USED - 1)) (r := okD [1, 0, 0, 0])
    hreq ?_ fun t he hans => ?_
  · rw [show (s.serving mb.val).blocksOff = false from hoff, hkey,
      show (s.serving mb.val).findFlow (u8 p 0) (cmdKey p) ((s.serving mb.val).cmdHash p) = some i from hfind]
    rfl
  · obtain ⟨hself, hother⟩ := flowAt_writeFlow (s.serving mb.val) i none
    have hset : ∀ k, t.flowAt k = ((s.serving mb.val).writeFlow i none).flowAt k := fun k =>
      (flowAt_of_ended he k).trans ((regsLogs_set _ _ _ _ _).keeps (fun s => s.flowAt k) fun _ _ _ => rfl)
    exact ⟨hans.of_mbs (by rw [set_mbs, writeFlow_mbs]; rfl), (hset i).trans hself, fun k hk => (hset k).trans (hother k hk)⟩

theorem flowDel_absent (hreq : s.request mb.val 0x0616 = some p) (hoff : s.blocksOff = false) (hkey : keyStray (u8 p 0) (cmdKey p) = false)
    (hfind : s.findFlow (u8 p 0) (cmdKey p) (s.cmdHash p) = none) : ∃ t, exec (.flowDel mb) s = .next t ∧ OnlyAnswered mb.val (okD [0, 0, 0, 0]) s t := by
  show ∃ t, execFlowDel mb s = _ ∧ _
  unfold execFlowDel
  refine act_only hreq ?_
  rw [show (s.serving mb.val).blocksOff = false from hoff, hkey,
    show (s.serving mb.val).findFlow (u8 p 0) (cmdKey p) ((s.serving mb.val).cmdHash p) = none from hfind]
  rfl

theorem flowGet_reports (hreq : s.request mb.val 0x0617 = some p) (hkey : keyStray (u8 p 0) (cmdKey p) = false) {i : Nat} {e : FlowEntry}
    (hfind : s.findFlow (u8 p 0) (cmdKey p) (s.cmdHash p) = some i) (hat : s.flowAt i = some e) :
    ∃ t, exec (.flowGet mb) s = .next t ∧ Answered mb.val (okD ([1, BitVec.ofNat 8 (b2n e.hit), 0, 0] ++ bytes 4 (s.cmdHash p) ++ bytes 8 e.action)) s t ∧
      t.flowAt i = some { e with hit := if u8 p 1 = 1 then false else e.hit } ∧ RegsKept [0x12014] s t := by
  show ∃ t, execFlowGet mb s = _ ∧ _
  unfold execFlowGet
  refine act_then (u := if u8 p 1 = 1 then (s.serving mb.val).setFlow i (some { e with hit := false }) else s.serving mb.val)
    (r := okD ([1, BitVec.ofNat 8 (b2n e.hit), 0, 0] ++ bytes 4 (s.cmdHash p) ++ bytes 8 e.action)) hreq ?_ fun t he hans => ?_
  · dsimp only
    rw [hkey, show (s.serving mb.val).findFlow (u8 p 0) (cmdKey p) ((s.serving mb.val).cmdHash p) = some i from hfind]
    dsimp only
    rw [show (s.serving mb.val).flowAt i = some e from hat]
    rfl
  · rw [flowAt_of_ended he i]
    by_cases hclear : u8 p 1 = 1
    · rw [if_pos hclear] at he hans ⊢
      rw [if_pos hclear]
      exact ⟨hans.of_mbs rfl, tget_tput_self none s.pk.flows i (some { e with hit := false }), he.kept⟩
    · rw [if_neg hclear] at he hans ⊢
      rw [if_neg hclear]
      exact ⟨hans, hat, he.kept⟩

theorem flowGet_absent (hreq : s.request mb.val 0x0617 = some p) (hkey : keyStray (u8 p 0) (cmdKey p) = false)
    (hfind : s.findFlow (u8 p 0) (cmdKey p) (s.cmdHash p) = none) :
    ∃ t, exec (.flowGet mb) s = .next t ∧ OnlyAnswered mb.val (okD ([0, 0, 0, 0] ++ bytes 4 (s.cmdHash p) ++ bytes 8 0)) s t := by
  show ∃ t, execFlowGet mb s = _ ∧ _
  unfold execFlowGet
  refine act_only hreq ?_
  dsimp only
  rw [hkey, show (s.serving mb.val).findFlow (u8 p 0) (cmdKey p) ((s.serving mb.val).cmdHash p) = none from hfind]
  rfl

/-- A packet of control queue `c` goes to the host under the next handle (R507). -/
def State.handedOver (s : State) (id c : Nat) : State :=
  { s with pk := { s.pk with received := s.pk.received ++ [(s.pk.nextHandle, id, c)], nextHandle := s.pk.nextHandle % (2 ^ 32 - 1) + 1 } }

section
variable (hreq : s.request mb.val 0x0627 = some p) (hon : s.blocksOff = false)
include hreq hon

theorem cqReceive_denied (howner : s.flag Reg.CQ_CFG_OWNER (u8 p 0) = false) : ∃ t, exec (.cqReceive mb) s = .next t ∧ OnlyAnswered mb.val (err cDENIED) s t := by
  show ∃ t, execCqReceive mb s = _ ∧ _
  unfold execCqReceive
  refine actOn_only hreq hon ?_
  dsimp only
  rw [show (s.serving mb.val).flag Reg.CQ_CFG_OWNER (u8 p 0) = false from howner]
  rfl

theorem cqReceive_empty (howner : s.flag Reg.CQ_CFG_OWNER (u8 p 0) = true) (hhead : s.headOf (2048 + u8 p 0) = none) :
    ∃ t, exec (.cqReceive mb) s = .next t ∧ OnlyAnswered mb.val (okD (List.replicate 32 0)) s t := by
  show ∃ t, execCqReceive mb s = _ ∧ _
  unfold execCqReceive
  refine actOn_only hreq hon ?_
  dsimp only
  rw [show (s.serving mb.val).flag Reg.CQ_CFG_OWNER (u8 p 0) = true from howner, show (s.serving mb.val).headOf (2048 + u8 p 0) = none from hhead]
  rfl

theorem cqReceive_returns {id : Nat} {x : Pkt} (howner : s.flag Reg.CQ_CFG_OWNER (u8 p 0) = true) (hhead : s.headOf (2048 + u8 p 0) = some id)
    (hpkt : s.pkt id = some x) (hdesc : (s.readDesc id).1 = false) :
    ∃ t, exec (.cqReceive mb) s = .next t ∧ Answered mb.val (okD (cqReply s.pk.nextHandle x)) s t ∧
      t.pk.received = s.pk.received ++ [(s.pk.nextHandle, id, u8 p 0)] ∧ t.queue (2048 + u8 p 0) = (s.queue (2048 + u8 p 0)).drop 1 ∧ t.pk.pkts = s.pk.pkts := by
  have hread := readDesc_read (s.serving mb.val) id
  have hmark : ((s.serving mb.val).readDesc id).1 = false := (readDesc_fst_congr (s := s) (t := s.serving mb.val) rfl rfl id).trans hdesc
  show ∃ t, execCqReceive mb s = _ ∧ _
  unfold execCqReceive
  refine actOn_then (u := (((s.serving mb.val).readDesc id).2.handedOver id (u8 p 0)).setQueue (2048 + u8 p 0)
    (((((s.serving mb.val).readDesc id).2.handedOver id (u8 p 0)).queue (2048 + u8 p 0)).drop 1)) (r := okD (cqReply ((s.serving mb.val).readDesc id).2.pk.nextHandle x)) hreq hon ?_ fun t he hans => ?_
  · dsimp only
    rw [show (s.serving mb.val).flag Reg.CQ_CFG_OWNER (u8 p 0) = true from howner, show (s.serving mb.val).headOf (2048 + u8 p 0) = some id from hhead]
    dsimp only
    rw [show (s.serving mb.val).pkt id = some x from hpkt]
    dsimp only
    rw [hmark]
    rfl
  · have hpk := hread.pk
    have hmbs : ((s.serving mb.val).readDesc id).2.mbs = s.mbs := hread.2.keeps State.mbs fun _ _ _ _ => rfl
    generalize ((s.serving mb.val).readDesc id).2 = v at he hans hpk hmbs
    have hq := setQueue_pk (v.handedOver id (u8 p 0)) (2048 + u8 p 0) (((v.handedOver id (u8 p 0)).queue (2048 + u8 p 0)).drop 1)
    have hqmbs : ((v.handedOver id (u8 p 0)).setQueue (2048 + u8 p 0) (((v.handedOver id (u8 p 0)).queue (2048 + u8 p 0)).drop 1)).mbs = v.mbs :=
      (setQueue_rest _ _ _).keeps State.mbs fun _ _ _ => rfl
    generalize (v.handedOver id (u8 p 0)).setQueue (2048 + u8 p 0) (((v.handedOver id (u8 p 0)).queue (2048 + u8 p 0)).drop 1) = w at he hans hq hqmbs
    have htpk : t.pk = w.pk := he.keeps State.pk fun _ _ _ _ _ _ _ => rfl
    have hans' := hans.of_mbs (hqmbs.trans hmbs)
    rw [hpk] at hans'
    unfold State.queue
    rw [htpk, hq]
    unfold State.handedOver State.queue
    dsimp only
    rw [hpk]
    exact ⟨hans', rfl, tget_tput_self _ _ _ _, rfl⟩

end

/-- The handle `h` is no longer held by the host, and its packet's parcels leave control queue `q` (R507, R508). -/
def State.handleFreed (s : State) (h q n : Nat) : State :=
  let s1 := { s with pk := { s.pk with received := s.pk.received.filter (fun x => x.1 != h) } }
  (s1.setQParcels q (s1.qParcels q - n)).setQueue q (s1.queue q)

theorem handleFreed_pk (s : State) (h q n : Nat) : (s.handleFreed h q n).pk =
    { s.pk with received := s.pk.received.filter (fun x => x.1 != h), queues := tput [] s.pk.queues q (s.queue q) } := by
  unfold State.handleFreed
  dsimp only
  rw [setQueue_pk, setQParcels_pk]
  rfl

theorem handleFreed_mbs (s : State) (h q n : Nat) : (s.handleFreed h q n).mbs = s.mbs := by
  unfold State.handleFreed
  dsimp only
  exact ((setQueue_rest _ _ _).keeps State.mbs fun _ _ _ => rfl).trans ((setQParcels_rest _ _ _).keeps State.mbs fun _ _ _ => rfl)

theorem dropPkt_mbs (s : State) (id : Nat) : (s.dropPkt id).mbs = s.mbs :=
  (congrArg State.mbs (offPackets_dropPkt (s := s) id) : (s.dropPkt id).offPackets.mbs = s.offPackets.mbs)

section
variable (hreq : s.request mb.val 0x0628 = some p) (hon : s.blocksOff = false)
include hreq hon

theorem cqRelease_frees {r : Nat × Nat × Nat} (hfind : s.pk.received.find? (fun r => r.1 == u32 p 0) = some r) :
    ∃ t, exec (.cqRelease mb) s = .next t ∧ Answered mb.val ok s t ∧ t.pkt r.2.1 = none ∧
      t.pk.received = s.pk.received.filter (fun x => x.1 != u32 p 0) ∧ ∀ k, t.queue k = s.queue k := by
  have hhandle : r.1 = u32 p 0 := by simpa using List.find?_some hfind
  show ∃ t, execCqRelease mb s = _ ∧ _
  unfold execCqRelease
  refine actOn_then (u := ((s.serving mb.val).handleFreed r.1 (2048 + r.2.2) (match (s.serving mb.val).pkt r.2.1 with | some x => x.parcels.length | none => 0)).dropPkt r.2.1)
    (r := ok) hreq hon ?_ fun t he hans => ?_
  · rw [show (s.serving mb.val).pk.received.find? (fun r => r.1 == u32 p 0) = some r from hfind]
    rfl
  · generalize (match (s.serving mb.val).pkt r.2.1 with | some x => x.parcels.length | none => 0) = n at he hans
    obtain ⟨m, hm⟩ := dropPkt_pk ((s.serving mb.val).handleFreed r.1 (2048 + r.2.2) n) r.2.1
    have hpk : t.pk = _ := (he.keeps State.pk fun _ _ _ _ _ _ _ => rfl).trans hm
    have hmbs := (dropPkt_mbs ((s.serving mb.val).handleFreed r.1 (2048 + r.2.2) n) r.2.1).trans (handleFreed_mbs _ _ _ _)
    rw [handleFreed_pk] at hpk
    refine ⟨hans.of_mbs hmbs, ?_, ?_, fun k => ?_⟩
    · unfold State.pkt
      rw [hpk]
      exact tget_tput_self none m r.2.1 none
    · rw [hpk, hhandle]
      rfl
    · unfold State.queue
      rw [hpk]
      by_cases hk : k = 2048 + r.2.2
      · rw [hk]
        exact tget_tput_self _ _ _ _
      · exact tget_tput_ne _ _ _ _ hk

theorem cqRelease_unknown (hfind : s.pk.received.find? (fun r => r.1 == u32 p 0) = none) :
    ∃ t, exec (.cqRelease mb) s = .next t ∧ OnlyAnswered mb.val (err cINVALID) s t := by
  show ∃ t, execCqRelease mb s = _ ∧ _
  unfold execCqRelease
  refine actOn_only hreq hon ?_
  rw [show (s.serving mb.val).pk.received.find? (fun r => r.1 == u32 p 0) = none from hfind]

end

end

/-- Settles O54. -/
theorem queuesEgressFlowsAndHostPackets : Obligations.QueuesEgressFlowsAndHostPackets := by
  unfold Obligations.QueuesEgressFlowsAndHostPackets
  refine ⟨fun tn q id line wfq s hnext hsel hhead => ⟨headgateSelect_takes hnext hsel hhead, fun hfull => ?_⟩,
    fun tn id rest p s heg hp hfi hpool => packetEgress_sends heg hp hfi hpool,
    fun mb p s hreq hoff hkey hact => ⟨fun i e hfind hat => flowAdd_changes hreq hoff hkey hact hfind hat, fun i hfind hplace => flowAdd_places hreq hoff hkey hact hfind hplace,
      flowAdd_exhausted hreq hoff hkey hact⟩,
    fun mb p s hreq hoff hkey => ⟨fun i => flowDel_removes hreq hoff hkey, flowDel_absent hreq hoff hkey⟩,
    fun mb p i e s hreq hkey hfind hat => flowGet_reports hreq hkey hfind hat,
    fun mb p s hreq hkey hfind => flowGet_absent hreq hkey hfind,
    fun mb p s hreq hon _ => ⟨cqReceive_denied hreq hon, cqReceive_empty hreq hon, fun id x howner hhead hpkt hdesc => cqReceive_returns hreq hon howner hhead hpkt hdesc⟩,
    fun mb p s hreq hon => ⟨fun r => cqRelease_frees hreq hon, cqRelease_unknown hreq hon⟩⟩
  rw [headgateSelect_eq hnext hsel, if_pos hfull]

end Sys2Proof.Machine
end

section
/-! SUPPORT. Packets that arrive, are parsed, classified and handed on (spec/11_intake_parser.md) -/

namespace Sys2Proof.Machine

/-! ### What storing, dropping and admitting a packet leaves of the domains (R490–R493) -/

section
variable (s : State)

@[simp] theorem bump_pk (c : Ctr) (i j n : Nat) : (s.bump c i j n).pk = s.pk := (regsLogs_bump _ _ _ _ _).keeps State.pk fun _ _ _ => rfl
@[simp] theorem log_pk (wb type : Nat) (d : List Byte) : (s.log wb type d).pk = s.pk := (regsLogs_log _ _ _ _).keeps State.pk fun _ _ _ => rfl
@[simp] theorem perfDev_same_pk (ev n : Nat) : (s.perfDev ev n).pk = s.pk := perfDev_pk s ev n

theorem domains_of_banksRead {t : State} (h : BanksRead s t) : t.pk.domains = s.pk.domains := h.keeps (fun s => s.pk.domains) fun _ _ _ _ _ _ => rfl

@[simp] theorem domains_dropPkt (id : Nat) : (s.dropPkt id).pk.domains = s.pk.domains := by
  obtain ⟨m, hm⟩ := dropPkt_pk s id
  rw [hm]

@[simp] theorem domains_refreshHg : s.refreshHg.pk.domains = s.pk.domains := congrArg PktState.domains (refreshHg_pk s)

@[simp] theorem domains_setQueue (q : Nat) (l : List Nat) : (s.setQueue q l).pk.domains = s.pk.domains := by rw [setQueue_pk]

@[simp] theorem domains_setQParcels (q v : Nat) : (s.setQParcels q v).pk.domains = s.pk.domains := by rw [setQParcels_pk]

@[simp] theorem domains_tailDrop (q : Nat) : (s.tailDrop q).pk.domains = s.pk.domains := by
  unfold State.tailDrop
  rw [perfDev_pk]
  by_cases h : q < 2048
  · rw [if_pos h, bump_pk]
  · rw [if_neg h, bump_pk]

theorem dataDrop_rest (q check : Nat) : RegsLogs (s.tailDrop q) (s.dataDrop q check) := by
  unfold State.dataDrop
  generalize s.tailDrop q = u
  dsimp only
  split
  · exact (RegsLogs.refl u).bump _ _ _ _
  · exact (RegsLogs.refl u).bump _ _ _ _
  · exact (((RegsLogs.refl u).bump _ _ _ _).bump _ _ _ _).set _ _ _ _
  · exact ((RegsLogs.refl u).bump _ _ _ _).set _ _ _ _

@[simp] theorem domains_dataDrop (q check : Nat) : (s.dataDrop q check).pk.domains = s.pk.domains :=
  ((dataDrop_rest s q check).keeps (fun s => s.pk.domains) fun _ _ _ => rfl).trans (domains_tailDrop s q)

@[simp] theorem domains_parcelIn (used : List Nat) (b : Nat) : (s.parcelIn used b).1.pk.domains = s.pk.domains := by
  unfold State.parcelIn
  dsimp only
  split <;> rfl

@[simp] theorem domains_parcelFrom (used : List Nat) (nb fuel b : Nat) : (s.parcelFrom used nb fuel b).1.pk.domains = s.pk.domains := by
  induction fuel generalizing s b with
  | zero => rfl
  | succ fuel ih =>
    unfold State.parcelFrom
    dsimp only
    split
    · exact domains_parcelIn _ _ _
    · exact (ih _ _).trans (domains_parcelIn _ _ _)

@[simp] theorem domains_parcelRun (nb n : Nat) (used : List Nat) (b : Nat) (acc : List Nat) : (s.parcelRun nb n used b acc).1.pk.domains = s.pk.domains := by
  induction n generalizing s used b acc with
  | zero => rfl
  | succ n ih =>
    unfold State.parcelRun
    dsimp only
    split
    · exact (ih _ _ _ _).trans (domains_parcelFrom _ _ _ _ _)
    · exact domains_parcelFrom _ _ _ _ _

@[simp] theorem domains_takeParcels (n : Nat) : (s.takeParcels n).1.pk.domains = s.pk.domains := by
  unfold State.takeParcels
  split
  · rfl
  · dsimp only
    split
    · exact domains_parcelRun _ _ _ _ _ _
    · exact domains_parcelRun _ _ _ _ _ _

@[simp] theorem domains_takeRun (n : Nat) : (s.takeRun n).1.pk.domains = s.pk.domains := by
  unfold State.takeRun
  dsimp only
  split <;> rfl

@[simp] theorem domains_memWrite (mem inst word : Nat) (poison : Bool) : (s.memWrite mem inst word poison).pk.domains = s.pk.domains :=
  congrArg PktState.domains (memWritten_memWrite s mem inst word poison).pk

theorem domains_writeParcelWord (p k : Nat) (data : List Byte) (poison : Bool) : (s.writeParcelWord p k data poison).pk.domains = s.pk.domains := by
  unfold State.writeParcelWord
  dsimp only
  rw [domains_memWrite]
  rfl

theorem domains_bankAccess (b k : Nat) : (s.bankAccess b k).pk.domains = s.pk.domains := domains_of_banksRead s (.of_issueKept (issueKept_bankAccess s b k))

@[simp] theorem domains_writeParcels (data : List Byte) (poison ps : List Nat) : (s.writeParcels data poison ps).pk.domains = s.pk.domains :=
  foldl_keeps (fun s => s.pk.domains) (fun _ _ => (domains_writeParcelWord _ _ _ _ _).trans (domains_bankAccess _ _ _)) _ s

@[simp] theorem domains_storePkt (id : Nat) (p : Pkt) (pool : Pool) (ps : List Nat) : (s.storePkt id p pool ps).pk.domains = s.pk.domains := by
  unfold State.storePkt
  dsimp only
  rw [domains_refreshHg, domains_writeParcels]
  split
  · exact (congrArg PktState.domains (memWritten_memWrites2 _ _ _ _).pk).trans rfl
  · rfl

@[simp] theorem domains_police (p : Pkt) : (s.police p).1.pk.domains = s.pk.domains := by
  unfold State.police
  dsimp only
  repeat' split
  all_goals rfl

@[simp] theorem domains_finishTag (q l : Nat) : (s.finishTag q l).1.pk.domains = s.pk.domains := by
  unfold State.finishTag
  dsimp only
  split <;> rfl

@[simp] theorem domains_admitData (id : Nat) (p : Pkt) (q : Nat) : (s.admitData id p q).pk.domains = s.pk.domains := by
  unfold State.admitData
  dsimp only
  split
  · simp
  · split
    · simp
    · simp

@[simp] theorem domains_passRequest (id : Nat) (p : Pkt) : (s.passRequest id p).pk.domains = s.pk.domains := by
  unfold State.passRequest
  dsimp only
  split
  · simp
  · split
    · simp
    · split
      · simp
      · simp

@[simp] theorem domains_firmwareTask (id : Nat) : (s.firmwareTask id).pk.domains = s.pk.domains := by
  unfold State.firmwareTask
  cases s.pkt id with
  | none => rfl
  | some p =>
    dsimp only
    have hread := domains_of_banksRead s (.of_issueKept (readWords_marks s p 0 (wordsFor p.data.length) 2).1)
    refine ite_keeps (fun s => s.pk.domains) ((domains_dropPkt _ _).trans hread) ?_
    have hlat := latsIn_head_lt s 1
    rw [domains_dropPkt, set_pk, ← hread]
    unfold State.excReport
    dsimp only
    rw [domains_of_banksRead _ (.of_issueKept (issueKept_perfLat _ (by omega) _ _)), log_pk, set_pk, bump_pk, bump_pk]
    rfl

@[simp] theorem domains_admitControl (id : Nat) (p : Pkt) (c : Nat) : (s.admitControl id p c).pk.domains = s.pk.domains := by
  unfold State.admitControl
  dsimp only
  split
  · simp
  · split
    · simp
    · split
      · simp
      · simp

theorem domains_destDrop {p : Pkt} {s s1 : State} (h : s.destDrop p = some s1) : s1.pk.domains = s.pk.domains := by
  unfold State.destDrop at h
  dsimp only at h
  split at h
  · cases h
  · split at h
    · cases h
      unfold State.quenchDrop State.quenchDiscards
      simp
    · split at h
      · cases h
        simp
      · cases h

@[simp] theorem domains_dispose (id : Nat) (p : Pkt) : (s.dispose id p).pk.domains = s.pk.domains := by
  unfold State.dispose
  split
  · next s1 h => exact (domains_dropPkt _ _).trans (domains_destDrop h)
  · dsimp only
    split
    · simp
    · split
      · simp
      · split
        · simp
        · split
          · simp
          · simp

@[simp] theorem domains_storeShared (id : Nat) (p : Pkt) : (s.storeShared id p).1.pk.domains = s.pk.domains := by
  unfold State.storeShared
  dsimp only
  split
  · simp
  · split
    · simp
    · split
      · simp
      · simp

end

/-- A domain's order as the action stage hands on: what stands classified and the next number are as in `s`. -/
def StageKept (t : Nat) (s u : State) : Prop := (u.domain t).stage = (s.domain t).stage ∧ (u.domain t).hand = (s.domain t).hand

theorem StageKept.of_domains {t : Nat} {s u : State} (h : u.pk.domains = s.pk.domains) : StageKept t s u := by
  unfold StageKept State.domain
  rw [h]
  exact ⟨rfl, rfl⟩

theorem StageKept.trans {t : Nat} {s u v : State} (h : StageKept t s u) (k : StageKept t u v) : StageKept t s v := ⟨k.1.trans h.1, k.2.trans h.2⟩

theorem domain_setDomain (s : State) (t : Nat) (d : Domain) : (s.setDomain t d).domain t = d := tget_tput_self _ _ _ _

theorem leave_stageKept (s : State) (t n : Nat) : StageKept t s (s.leave t n) := by
  unfold State.leave
  unfold StageKept
  dsimp only
  rw [domain_setDomain]
  exact ⟨rfl, rfl⟩

theorem stageKept_leave {s u : State} (t n : Nat) (h : u.pk.domains = s.pk.domains) : StageKept t s (u.leave t n) :=
  .trans (.of_domains h) (leave_stageKept u t n)

theorem toTask_stageKept (s : State) (id : Nat) (p : Pkt) : StageKept p.turnout s (s.toTask id p) := by
  unfold State.toTask
  dsimp only
  split
  · exact stageKept_leave _ _ (by simp)
  · next q _ =>
    split
    · split
      · exact .of_domains (by simp)
      · exact stageKept_leave _ _ (by simp)
    · exact stageKept_leave _ _ (by simp)

theorem toHeld_stageKept (s : State) (id : Nat) (p : Pkt) : StageKept p.turnout s (s.toHeld id p) := by
  unfold State.toHeld
  dsimp only
  split
  · exact stageKept_leave _ _ (by simp)
  · next q _ =>
    split
    · refine .trans (u := ((s.police p).1.storeShared id q).1) (.of_domains (by simp)) ?_
      unfold StageKept
      rw [domain_setDomain]
      exact ⟨rfl, rfl⟩
    · exact stageKept_leave _ _ (by simp)

theorem handOn_stageKept (s : State) (id : Nat) (p : Pkt) : StageKept p.turnout s (s.handOn id p) := by
  unfold State.handOn
  dsimp only
  split
  · exact stageKept_leave _ _ (by simp)
  · split
    · exact stageKept_leave _ _ (by simp)
    · split
      · exact toTask_stageKept s id p
      · split
        · exact stageKept_leave _ _ (by simp)
        · split
          · next s1 h => exact stageKept_leave _ _ ((domains_dropPkt _ _).trans (domains_destDrop h))
          · split
            · exact toHeld_stageKept s id p
            · exact stageKept_leave _ _ (by simp)

/-! ### The action stage (R454, R490, R493) -/

theorem leave_kept (s : State) (t n : Nat) : (s.leave t n).regs = s.regs ∧ (s.leave t n).pk.pkts = s.pk.pkts := ⟨rfl, rfl⟩

theorem actionStage_hands {tn : Fin 256} {id : Nat} {rest : List Nat} {p : Pkt} {s : State} (hheld : (s.domain tn.val).held = [])
    (hstage : (s.domain tn.val).stage = id :: rest) (hp : s.pkt id = some p) (hturn : s.stageTurn tn.val = true) (htn : p.turnout = tn.val)
    (hnum : p.num = (s.domain tn.val).hand) (hpool : p.pool = .none_) :
    ∃ t, exec (.actionStage tn) s = .next t ∧ (t.domain tn.val).stage = rest ∧ (t.domain tn.val).hand = (s.domain tn.val).hand + 1 ∧
      (p.gone = false → p.lenDrop = false → actVerb p.action = 1 → Counted Cnt.DROP_ACTION tn.val 0 1 s t ∧ t.pkt id = none) := by
  have ht : tn.val < 256 := tn.isLt
  generalize hd : ({ s.domain tn.val with stage := rest, hand := (s.domain tn.val).hand + 1, held := [] } : Domain) = d
  have hkept := handOn_stageKept (s.setDomain tn.val d) id p
  have hrun : exec (.actionStage tn) s = done s ((s.setDomain tn.val d).handOn id p) := by
    show execActionStage tn s = _
    unfold execActionStage
    dsimp only
    rw [hturn, hheld, hstage]
    dsimp only [List.find?_nil]
    rw [hp]
    dsimp only
    rw [if_neg (not_not_intro hnum)]
    exact congrArg (fun d => done s ((s.setDomain tn.val d).handOn id p)) hd
  rw [hrun]
  refine done_then fun t he _ => ?_
  have hdom : t.domain tn.val = ((s.setDomain tn.val d).handOn id p).domain tn.val := he.keeps (fun s => s.domain tn.val) fun _ _ _ _ _ _ _ => rfl
  unfold StageKept at hkept
  rw [htn, domain_setDomain] at hkept
  obtain ⟨hst, hha⟩ := hkept
  rw [hdom, hst, hha, ← hd]
  refine ⟨rfl, rfl, fun hgone hlen hverb => ?_⟩
  have hdrop : (s.setDomain tn.val d).handOn id p = ((((s.setDomain tn.val d).bump Cnt.DROP_ACTION tn.val).dropPkt id).leave tn.val p.num) := by
    unfold State.handOn
    dsimp only
    rw [hgone, hlen, if_neg (by decide), if_pos hverb, htn]
  rw [hdrop] at he
  have hbump : Counted Cnt.DROP_ACTION tn.val 0 1 s ((s.setDomain tn.val d).bump Cnt.DROP_ACTION tn.val) := counted_bump (s.setDomain tn.val d) Cnt.DROP_ACTION tn.val 0 1 (.inl rfl)
  have hpkt : ((s.setDomain tn.val d).bump Cnt.DROP_ACTION tn.val).pkt id = some p := ((regsLogs_bump _ _ _ _ _).keeps (fun s => s.pkt id) fun _ _ _ => rfl).trans hp
  generalize (s.setDomain tn.val d).bump Cnt.DROP_ACTION tn.val = v at he hbump hpkt
  have htouch : Touch dropPktPatches v (v.dropPkt id) := dropPkt_touch fun x q hx hq => by
    rw [← Option.some.inj (hpkt.symm.trans hx), hpool] at hq
    cases hq
  obtain ⟨hregs, hpkts⟩ := leave_kept (v.dropPkt id) tn.val p.num
  refine ⟨((htouch.same hregs).andThen he.touch (by decide)).counted hbump ht (by decide), ?_⟩
  exact (he.keeps (fun s => s.pkt id) fun _ _ _ _ _ _ _ => rfl).trans (dropPkt_gone v id)

/-! ### Words of a host packet port (R55, R457) -/

theorem portQueue_setPortQueue (s : State) (t : Nat) (q : PortQueue) : (s.setPortQueue t q).portQueue t = q := tget_tput_self _ _ _ _

theorem hostPortWordRx_eq {tn : Fin 256} {taken : Nat} (last : Bool) {s : State} (hhost : s.flag Reg.TN_PKT_HOST_PORT tn.val = true) (hcoh : s.coherent = true)
    (hdrop : (s.portQueue tn.val).dropping = false) (hcoming : (s.portQueue tn.val).coming = false) :
    exec (.hostPortWordRx tn taken last) s =
      if s.running 4 (s.get Reg.TN_PKT_LANE tn.val) = false then
        done s ((s.setPortQueue tn.val ⟨takeWords taken (s.portQueue tn.val).words, false, !last⟩).quenchDiscards 4 (s.get Reg.TN_PKT_LANE tn.val) 1)
      else if 32 * (s.hostLanesOf tn.val).length ≤ (takeWords taken (s.portQueue tn.val).words).sum then
        done s ((((s.setPortQueue tn.val ⟨takeWords taken (s.portQueue tn.val).words, false, !last⟩).bump Cnt.LANE_OVL_DROPS (s.get Reg.TN_PKT_LANE tn.val)).bump
          Cnt.DROP_OVERLOAD tn.val).set Reg.IN_EVENTS_OVERLOAD 1)
      else done s (s.setPortQueue tn.val ⟨takeWords taken (s.portQueue tn.val).words ++ [1], !last, false⟩) := by
  show execHostPortWordRx tn taken last s = _
  unfold execHostPortWordRx
  dsimp only
  rw [hhost, hcoh, hdrop, hcoming]
  simp only [Bool.not_true, Bool.not_false, Bool.or_self, Bool.false_and, Bool.true_and, Bool.false_eq_true, if_false, Bool.not_eq_true']

theorem hostPortWordRx_takes {tn : Fin 256} {taken : Nat} {last : Bool} {ws : List Nat} {s : State} (hhost : s.flag Reg.TN_PKT_HOST_PORT tn.val = true)
    (hcoh : s.coherent = true) (hdrop : (s.portQueue tn.val).dropping = false) (hcoming : (s.portQueue tn.val).coming = false)
    (hws : ws = takeWords taken (s.portQueue tn.val).words) :
    ∃ t, exec (.hostPortWordRx tn taken last) s = .next t ∧
      (s.running 4 (s.get Reg.TN_PKT_LANE tn.val) = true → ws.sum < 32 * (s.hostLanesOf tn.val).length →
        t.portQueue tn.val = { words := ws ++ [1], coming := !last, dropping := false } ∧ RegsKept [] s t) ∧
      (s.running 4 (s.get Reg.TN_PKT_LANE tn.val) = true → 32 * (s.hostLanesOf tn.val).length ≤ ws.sum →
        t.portQueue tn.val = { words := ws, coming := false, dropping := !last } ∧
        Counted Cnt.LANE_OVL_DROPS (s.get Reg.TN_PKT_LANE tn.val) 0 1 s t ∧ Counted Cnt.DROP_OVERLOAD tn.val 0 1 s t ∧ t.flag Reg.IN_EVENTS_OVERLOAD = true) ∧
      (s.running 4 (s.get Reg.TN_PKT_LANE tn.val) = false → t.portQueue tn.val = { words := ws, coming := false, dropping := !last } ∧
        Counted Cnt.LN_QUENCH_DISCARDS (s.get Reg.TN_PKT_LANE tn.val) 0 1 s t ∧ t.pk.pkts = s.pk.pkts) := by
  have hlane : s.get Reg.TN_PKT_LANE tn.val < 16 := get_lt s Reg.TN_PKT_LANE tn.val 0
  have ht : tn.val < 256 := tn.isLt
  rw [hostPortWordRx_eq last hhost hcoh hdrop hcoming, ← hws]
  generalize s.get Reg.TN_PKT_LANE tn.val = lane at hlane ⊢
  have hpk : ∀ {u t : State}, Ended [] s u t → t.pk = u.pk := fun he => he.keeps State.pk fun _ _ _ _ _ _ _ => rfl
  have hqueue : ∀ {u t : State}, t.pk = u.pk → t.portQueue tn.val = u.portQueue tn.val := fun h => congrArg (fun p : PktState => tget ({} : PortQueue) p.ports tn.val) h
  by_cases hrun : s.running 4 lane = false
  · rw [if_pos hrun, hrun, quenchDiscardsLane_regs]
    refine done_then fun t he _ => ?_
    have hbump := bump_pk (s.setPortQueue tn.val ⟨ws, false, !last⟩) Cnt.LN_QUENCH_DISCARDS lane 0 1
    refine ⟨nofun, nofun, fun _ => ⟨(hqueue ((hpk he).trans hbump)).trans (portQueue_setPortQueue _ _ _), ?_, (congrArg PktState.pkts ((hpk he).trans hbump)).trans rfl⟩⟩
    exact he.touch.counted (counted_bump (s.setPortQueue tn.val ⟨ws, false, !last⟩) Cnt.LN_QUENCH_DISCARDS lane 0 1 (.inl rfl)) (by have : Cnt.LN_QUENCH_DISCARDS.n = 24 := rfl; omega) (by decide)
  · rw [if_neg hrun]
    by_cases hfull : 32 * (s.hostLanesOf tn.val).length ≤ ws.sum
    · rw [if_pos hfull]
      refine done_then fun t he _ => ⟨fun _ h => absurd h (by omega), fun _ _ => ?_, fun h => absurd h hrun⟩
      have hv : ∀ v : State, v = s.setPortQueue tn.val ⟨ws, false, !last⟩ → v.portQueue tn.val = ⟨ws, false, !last⟩ ∧ v.regs = s.regs := by
        rintro v rfl
        exact ⟨portQueue_setPortQueue _ _ _, rfl⟩
      generalize s.setPortQueue tn.val ⟨ws, false, !last⟩ = v at he hv
      obtain ⟨hq, hregs⟩ := hv v rfl
      have hsame : Touch [] s v := .of_regs hregs
      have hafter : Touch (Cnt.DROP_OVERLOAD.patches ++ [Reg.IN_EVENTS_OVERLOAD.patch]) (v.bump Cnt.LANE_OVL_DROPS lane) t :=
        ((Touch.refl _ _).bumpRow ht (by decide)).set0 (by decide) |>.andThen he.touch (by decide)
      refine ⟨(hqueue ((hpk he).trans (by rw [set_pk, bump_pk, bump_pk]))).trans hq, ?_, ?_, ?_⟩
      · exact hsame.counted_of (hafter.counted (counted_bump v Cnt.LANE_OVL_DROPS lane 0 1 (.inl rfl)) hlane (by decide)) hlane (by decide)
      · have hfirst : Touch Cnt.LANE_OVL_DROPS.patches s (v.bump Cnt.LANE_OVL_DROPS lane) := .trans (.of_regs hregs) ((Touch.refl _ v).bumpRow hlane (by decide))
        exact hfirst.counted_of (counted_set rfl ht he.touch (by decide) (by decide)) ht (by decide)
      · rw [he.touch.flag0 _ (by decide), flag_set_self _ _ _ _ _ (by decide)]
        rfl
    · rw [if_neg hfull]
      refine done_then fun t he _ => ⟨fun _ _ => ⟨(hqueue (hpk he)).trans (portQueue_setPortQueue _ _ _), he.kept⟩, fun _ h => absurd h hfull, fun h => absurd h hrun⟩

/-! ### Frames that arrive (R452–R454) -/

/-- The state in which the intake has taken the frame of turnout `t` from the cipher or from a loopback. -/
def State.frameTaken (s : State) (t : Nat) : State := (s.takeAdmitted t).takeLoop t

theorem frameTaken_rest (s : State) (t : Nat) : ∃ c l, s.frameTaken t = { s with cip := c, pk := { s.pk with loops := l } } := by
  unfold State.frameTaken State.takeAdmitted
  split
  · exact ⟨s.cip, _, rfl⟩
  · exact ⟨_, _, rfl⟩

theorem frameCheck_congr {s u : State} (h : u.regs = s.regs) (t : Nat) (frame : List Byte) (coding marked : Bool) :
    u.frameCheck t frame coding marked = s.frameCheck t frame coding marked := by
  have hreg : ∀ a, u.reg a = s.reg a := fun a => congrFun (congrArg (fun r => (State.reg { s with regs := r })) h) a
  have hget : ∀ (f : Field) i j, u.get f i j = s.get f i j := fun f i j => by
    unfold State.get
    rw [hreg]
  have hrun : u.running 1 t = s.running 1 t := by
    unfold State.running
    exact congrArg (· == 0) (hget Reg.TN_IN_STATUS_Q_STATE t 0)
  unfold State.frameCheck
  rw [hrun, hget Reg.IN_CFG_MAX_FRAME 0 0]

/-- The packet of a frame that arrives at turnout `t` (R452, R454). -/
def State.arrivedPkt (s : State) (t : Nat) (frame : List Byte) : Pkt :=
  { data := frame, turnout := t, orig := t, num := (s.domain t).next, arrival := s.clock, host := s.flag Reg.TN_PKT_HOST_PORT t }

/-- A frame that passes: it is counted. -/
def State.frameCounted (s : State) (t n : Nat) : State := (s.bump Cnt.RX_PKTS t).bump Cnt.RX_OCTETS t 0 n

/-- The packet part once packet `p` of turnout `t` has a number of its domain and waits for a parse start. -/
def PktState.waiting (k : PktState) (t : Nat) (d : Domain) (host : Bool) (lane : Nat) (p : Pkt) : PktState :=
  { k with
    domains := tput {} k.domains t { d with next := d.next + 1 }, pkts := tput none k.pkts k.next (some p), next := k.next + 1,
    hostWait := if host then tput [] k.hostWait lane (tget [] k.hostWait lane ++ [k.next]) else k.hostWait,
    lineWait := if host then k.lineWait else k.lineWait ++ [k.next] }

theorem waiting_pkt (k : PktState) (t : Nat) (d : Domain) (host : Bool) (lane : Nat) (p : Pkt) : tget none (k.waiting t d host lane p).pkts k.next = some p :=
  tget_tput_self none k.pkts k.next (some p)

theorem waiting_domain (k : PktState) (t : Nat) (d : Domain) (host : Bool) (lane : Nat) (p : Pkt) :
    tget ({} : Domain) (k.waiting t d host lane p).domains t = { d with next := d.next + 1 } :=
  tget_tput_self ({} : Domain) k.domains t { d with next := d.next + 1 }

theorem packetArrival_some {tn : Fin 256} {arrived : List (BitVec 66)} {last : BitVec 66} {marked : Bool} {frame : List Byte} {s : State} (hadm : s.admits tn.val = true)
    (hheard : s.heardFrame tn.val (arrived ++ [last]) = true) (harr : s.arriving tn.val (arrived ++ [last]) marked = (frame, false, false)) {f : State → State}
    (hcheck : s.frameCheck tn.val frame false false = some f) : exec (.packetArrival tn arrived last marked) s = done s (f (s.frameTaken tn.val)) := by
  obtain ⟨c, l, h0⟩ := frameTaken_rest s tn.val
  have hcheck' : (s.frameTaken tn.val).frameCheck tn.val frame false false = some f := (frameCheck_congr (by rw [h0]) _ _ _ _).trans hcheck
  show execPacketArrival tn arrived last marked s = _
  unfold execPacketArrival
  unfold State.frameTaken at hcheck' ⊢
  dsimp only
  rw [hadm, hheard, harr]
  dsimp only
  rw [hcheck']
  rfl

theorem packetArrival_none {tn : Fin 256} {arrived : List (BitVec 66)} {last : BitVec 66} {marked : Bool} {frame : List Byte} {s : State} (hadm : s.admits tn.val = true)
    (hheard : s.heardFrame tn.val (arrived ++ [last]) = true) (harr : s.arriving tn.val (arrived ++ [last]) marked = (frame, false, false))
    (hcheck : s.frameCheck tn.val frame false false = none) :
    ∃ u, exec (.packetArrival tn arrived last marked) s = done s u ∧ u.regs = ((s.frameTaken tn.val).frameCounted tn.val frame.length).regs ∧
      u.pk = (s.frameTaken tn.val).pk.waiting tn.val (s.domain tn.val) (s.flag Reg.TN_PKT_HOST_PORT tn.val) (s.get Reg.TN_PKT_LANE tn.val) (s.arrivedPkt tn.val frame) := by
  obtain ⟨c, l, h0⟩ := frameTaken_rest s tn.val
  have hcheck' : (s.frameTaken tn.val).frameCheck tn.val frame false false = none := (frameCheck_congr (by rw [h0]) _ _ _ _).trans hcheck
  have hdom : (s.frameTaken tn.val).domain tn.val = s.domain tn.val := by rw [h0]; rfl
  have hhost : (s.frameTaken tn.val).flag Reg.TN_PKT_HOST_PORT tn.val = s.flag Reg.TN_PKT_HOST_PORT tn.val := by rw [h0]; rfl
  have hlane : (s.frameTaken tn.val).get Reg.TN_PKT_LANE tn.val = s.get Reg.TN_PKT_LANE tn.val := by rw [h0]; rfl
  have hpk : ((s.frameTaken tn.val).frameCounted tn.val frame.length).pk = (s.frameTaken tn.val).pk := by
    unfold State.frameCounted
    rw [bump_pk, bump_pk]
  show ∃ u, execPacketArrival tn arrived last marked s = _ ∧ _
  unfold execPacketArrival
  unfold State.frameCounted at hpk ⊢
  unfold State.frameTaken at hcheck' hdom hhost hlane hpk ⊢
  dsimp only
  rw [hadm, hheard, harr]
  generalize (s.takeAdmitted tn.val).takeLoop tn.val = s0 at hcheck' hdom hhost hlane hpk ⊢
  dsimp only
  rw [hcheck', hhost, hlane]
  generalize (s0.bump Cnt.RX_PKTS tn.val).bump Cnt.RX_OCTETS tn.val 0 frame.length = v at hpk ⊢
  have hnum : v.domain tn.val = s.domain tn.val := (congrArg (fun k : PktState => tget ({} : Domain) k.domains tn.val) hpk).trans hdom
  refine ⟨_, rfl, rfl, ?_⟩
  unfold State.takeNumber
  dsimp only
  rw [hnum]
  unfold State.newPkt State.setDomain State.setPkt
  dsimp only
  rw [hpk]
  unfold State.arrivedPkt PktState.waiting
  cases s.flag Reg.TN_PKT_HOST_PORT tn.val with
  | true => rfl
  | false => rfl

theorem packetArrival_waits {tn : Fin 256} {arrived : List (BitVec 66)} {last : BitVec 66} {marked : Bool} {frame : List Byte} {s : State} (hadm : s.admits tn.val = true)
    (hheard : s.heardFrame tn.val (arrived ++ [last]) = true) (harr : s.arriving tn.val (arrived ++ [last]) marked = (frame, false, false))
    (hcheck : s.frameCheck tn.val frame false false = none) :
    ∃ t, exec (.packetArrival tn arrived last marked) s = .next t ∧
      Counted Cnt.RX_PKTS tn.val 0 1 s t ∧ Counted Cnt.RX_OCTETS tn.val 0 frame.length s t ∧
      t.pkt s.pk.next = some { data := frame, turnout := tn.val, orig := tn.val, num := (s.domain tn.val).next, arrival := s.clock, host := s.flag Reg.TN_PKT_HOST_PORT tn.val } ∧
      (t.domain tn.val).next = (s.domain tn.val).next + 1 ∧
      (s.flag Reg.TN_PKT_HOST_PORT tn.val = false → t.pk.lineWait = s.pk.lineWait ++ [s.pk.next] ∧ t.pk.hostWait = s.pk.hostWait) ∧
      (s.flag Reg.TN_PKT_HOST_PORT tn.val = true → t.pk.lineWait = s.pk.lineWait ∧
        tget [] t.pk.hostWait (s.get Reg.TN_PKT_LANE tn.val) = tget [] s.pk.hostWait (s.get Reg.TN_PKT_LANE tn.val) ++ [s.pk.next]) := by
  have ht : tn.val < 256 := tn.isLt
  obtain ⟨u, hrun, hregs, hpk⟩ := packetArrival_none hadm hheard harr hcheck
  obtain ⟨c, l, h0⟩ := frameTaken_rest s tn.val
  have hregs0 : (s.frameTaken tn.val).regs = s.regs := by rw [h0]
  have hpk0 : (s.frameTaken tn.val).pk = { s.pk with loops := l } := by rw [h0]
  rw [hpk0] at hpk
  generalize s.frameTaken tn.val = s0 at hregs hregs0
  rw [hrun]
  refine done_then fun t he _ => ?_
  have htpk : t.pk = _ := (he.keeps State.pk fun _ _ _ _ _ _ _ => rfl).trans hpk
  have htouch : Touch [] (s0.frameCounted tn.val frame.length) t := .trans (.of_regs hregs) he.touch
  refine ⟨?_, ?_, ?_, ?_, fun hhost => ?_, fun hhost => ?_⟩
  · have hoct : Touch Cnt.RX_OCTETS.patches (s0.bump Cnt.RX_PKTS tn.val) t := ((Touch.refl _ _).bumpRow ht (by decide)).andThen htouch (by decide)
    exact (Touch.of_regs (l := []) hregs0).counted_of (hoct.counted (counted_bump s0 Cnt.RX_PKTS tn.val 0 1 (.inr rfl)) ht (by decide)) ht (by decide)
  · have hpkts : Touch Cnt.RX_PKTS.patches s (s0.bump Cnt.RX_PKTS tn.val) := .trans (.of_regs hregs0) ((Touch.refl _ s0).bumpRow ht (by decide))
    exact hpkts.counted_of (htouch.counted (counted_bump _ Cnt.RX_OCTETS tn.val 0 frame.length (.inr rfl)) ht (by decide)) ht (by decide)
  · unfold State.pkt
    rw [htpk]
    exact waiting_pkt { s.pk with loops := l } _ _ _ _ _
  · have hdom : t.domain tn.val = { s.domain tn.val with next := (s.domain tn.val).next + 1 } :=
      (congrArg (fun k : PktState => tget ({} : Domain) k.domains tn.val) htpk).trans (waiting_domain _ _ _ _ _ _)
    rw [hdom]
  · rw [htpk, hhost]
    exact ⟨rfl, rfl⟩
  · rw [htpk, hhost]
    exact ⟨rfl, tget_tput_self _ _ _ _⟩

theorem packetArrival_runt {tn : Fin 256} {arrived : List (BitVec 66)} {last : BitVec 66} {marked : Bool} {frame : List Byte} {s : State} (hadm : s.admits tn.val = true)
    (hheard : s.heardFrame tn.val (arrived ++ [last]) = true) (harr : s.arriving tn.val (arrived ++ [last]) marked = (frame, false, false))
    (hrun : s.running 1 tn.val = true) (hshort : frame.length < 64) :
    ∃ t, exec (.packetArrival tn arrived last marked) s = .next t ∧ Counted Cnt.DROP_RUNT tn.val 0 1 s t ∧
      t.pk.lineWait = s.pk.lineWait ∧ t.pk.hostWait = s.pk.hostWait ∧ t.pk.pkts = s.pk.pkts := by
  have ht : tn.val < 256 := tn.isLt
  have hcheck : s.frameCheck tn.val frame false false = some (fun s => s.bump Cnt.DROP_RUNT tn.val) := by
    unfold State.frameCheck
    rw [hrun]
    simp [hshort]
  obtain ⟨c, l, h0⟩ := frameTaken_rest s tn.val
  rw [packetArrival_some hadm hheard harr hcheck, h0]
  refine done_then fun t he _ => ?_
  have hpk : t.pk = { s.pk with loops := l } := (he.keeps State.pk fun _ _ _ _ _ _ _ => rfl).trans (bump_pk _ _ _ _ _)
  have hsame : Touch [] s ({ s with cip := c, pk := { s.pk with loops := l } } : State) := .of_regs rfl
  rw [hpk]
  exact ⟨hsame.counted_of (he.touch.counted (counted_bump _ Cnt.DROP_RUNT tn.val 0 1 (.inl rfl)) ht (by decide)) ht (by decide), rfl, rfl, rfl⟩

/-! ### Parse starts (R455, R456) -/

/-- What parsing finds depends on registers, clock and engine state, and of the packet part on flow entries, rules and the configuration's number. -/
theorem inspect_pk (s : State) (k : PktState) (hf : k.flows = s.pk.flows) (ht : k.terns = s.pk.terns) (he : k.epoch = s.pk.epoch) (p : Pkt) :
    ({ s with pk := k } : State).inspect p = s.inspect p := by
  have hfind : ∀ format key hash, ({ s with pk := k } : State).findFlow format key hash = s.findFlow format key hash := fun _ _ _ => findFlow_congr hf _ _ _
  have hat : ∀ i, ({ s with pk := k } : State).flowAt i = s.flowAt i := fun i => congrArg (fun m => tget none m i) hf
  unfold State.inspect
  dsimp only
  simp only [hfind, hat]
  rw [ht, he]
  rfl

theorem startParse_pk {s : State} {id : Nat} {p : Pkt} (hp : s.pkt id = some p) :
    (s.startParse id).pk = { s.pk with pkts := tput none s.pk.pkts id (some (s.inspect p)), parsing := s.pk.parsing ++ [id] } ∧ (s.startParse id).test = s.test := by
  unfold State.startParse
  rw [hp]
  dsimp only
  rw [perfDev_pk]
  refine ⟨rfl, ?_⟩
  exact (BanksRead.of_issueKept (issueKept_perfDev (s.setPkt id (some (s.inspect p))) 2 1)).keeps State.test fun _ _ _ _ _ _ => rfl

theorem intakePoint_passes {s : State} {id : Nat} {p : Pkt} (hp : s.pkt id = some p) (hfi : s.fiAt 1 p.turnout = none) : s.intakePoint id = s.startParse id := by
  have hpass : (s.startParse id).fiPassed 1 p.turnout = (s.startParse id, none) := fiPassed_none ((fiAt_of_test (startParse_pk hp).2 _ _).trans hfi)
  unfold State.intakePoint
  rw [hp]
  dsimp only
  rw [fiUnit_pass hfi]
  dsimp only
  rw [hpass]

/-- The state in which the packet part is `k` and a parse starts. -/
theorem parseStarts {s : State} {k : PktState} {id : Nat} {p : Pkt} (hp : s.pkt id = some p) (hfi : s.fiAt 1 p.turnout = none) (hpkts : k.pkts = s.pk.pkts)
    (hparsing : k.parsing = s.pk.parsing) (hf : k.flows = s.pk.flows) (ht : k.terns = s.pk.terns) (he : k.epoch = s.pk.epoch) :
    ∃ t, done s (({ s with pk := k } : State).intakePoint id) = .next t ∧
      t.pk = { k with pkts := tput none s.pk.pkts id (some (s.inspect p)), parsing := s.pk.parsing ++ [id] } := by
  have hp' : ({ s with pk := k } : State).pkt id = some p := (congrArg (fun m => tget none m id) hpkts).trans hp
  rw [intakePoint_passes hp' hfi]
  refine done_then fun t hend _ => ?_
  rw [hend.keeps State.pk fun _ _ _ _ _ _ _ => rfl, (startParse_pk hp').1, inspect_pk s k hf ht he, ← hpkts, ← hparsing]

section
variable {s : State} {id starts bw : Nat} {rest : List Nat} {p : Pkt} (hcount : (starts, bw) = (if s.pk.startCycle = s.cycle then (s.pk.starts, s.pk.bwStarts) else (0, 0)))
  (hless : starts < 4) (hp : s.pkt id = some p) (hfi : s.fiAt 1 p.turnout = none)
include hcount hless hp hfi

omit hless hp hfi in
theorem startsNow : (if (s.pk.startCycle == s.cycle) = true then s.pk.starts else 0) = starts ∧ (if (s.pk.startCycle == s.cycle) = true then s.pk.bwStarts else 0) = bw := by
  by_cases h : s.pk.startCycle = s.cycle
  · rw [if_pos h] at hcount
    rw [beq_iff_eq.mpr h]
    exact ⟨(congrArg Prod.fst hcount).symm, (congrArg Prod.snd hcount).symm⟩
  · rw [if_neg h] at hcount
    rw [beq_eq_false_iff_ne.mpr h]
    exact ⟨(congrArg Prod.fst hcount).symm, (congrArg Prod.snd hcount).symm⟩

theorem parseStart_backwater (hwait : s.pk.bwWait = id :: rest) (hbw : bw = 0) :
    ∃ t, exec .parseStart s = .next t ∧ t.pk.bwWait = rest ∧ t.pk.lineWait = s.pk.lineWait ∧ t.pk.hostWait = s.pk.hostWait ∧
      t.pk.parsing = s.pk.parsing ++ [id] ∧ t.pkt id = some (s.inspect p) ∧ t.pk.starts = starts + 1 ∧ t.pk.bwStarts = 1 := by
  obtain ⟨hk, hb⟩ := startsNow hcount
  show ∃ t, execParseStart s = _ ∧ _
  unfold execParseStart
  dsimp only
  rw [hk, hb, if_neg (by omega), hwait, hbw]
  obtain ⟨t, hrun, hpk⟩ := parseStarts (k := { s.pk with startCycle := s.cycle, starts := starts + 1, bwStarts := 1, bwWait := rest }) hp hfi rfl rfl rfl rfl rfl
  refine ⟨t, hrun, ?_⟩
  unfold State.pkt
  rw [hpk]
  exact ⟨rfl, rfl, rfl, rfl, tget_tput_self none s.pk.pkts id (some (s.inspect p)), rfl, rfl⟩

/-- What PARSE_START does where no backwater packet starts: the line's turn, then the host lanes'. -/
theorem parseStart_else (hnone : s.pk.bwWait = [] ∨ bw ≠ 0) {k : PktState}
    (hk : (∃ rest, s.pk.lineWait = id :: rest ∧ k = { s.pk with startCycle := s.cycle, starts := starts + 1, bwStarts := bw, lineWait := rest }) ∨
      (∃ l rest, s.pk.lineWait = [] ∧ s.nextHost = some l ∧ tget [] s.pk.hostWait l = id :: rest ∧
        k = { s.pk with startCycle := s.cycle, starts := starts + 1, bwStarts := bw, hostWait := tput [] s.pk.hostWait l rest, lastLane := l })) :
    ∃ t, exec .parseStart s = .next t ∧ t.pk = { k with pkts := tput none s.pk.pkts id (some (s.inspect p)), parsing := s.pk.parsing ++ [id] } := by
  obtain ⟨hs, hb⟩ := startsNow hcount
  have hgo : exec .parseStart s = done s (({ s with pk := k } : State).intakePoint id) := by
    show execParseStart s = _
    unfold execParseStart
    dsimp only
    rw [hs, hb, if_neg (by omega)]
    split
    · next hback => exact absurd hnone (by rw [hback]; exact fun h => h.elim nofun fun h => h rfl)
    · obtain ⟨rest, hline, rfl⟩ | ⟨l, rest, hline, hnext, hwait, rfl⟩ := hk
      · rw [hline]
      · rw [hline, hnext]
        simp only [hwait, hline]
  rw [hgo]
  have hkept : k.pkts = s.pk.pkts ∧ k.parsing = s.pk.parsing ∧ k.flows = s.pk.flows ∧ k.terns = s.pk.terns ∧ k.epoch = s.pk.epoch := by
    obtain ⟨rest, -, rfl⟩ | ⟨l, rest, -, -, -, rfl⟩ := hk
    · exact ⟨rfl, rfl, rfl, rfl, rfl⟩
    · exact ⟨rfl, rfl, rfl, rfl, rfl⟩
  obtain ⟨h1, h2, h3, h4, h5⟩ := hkept
  exact parseStarts hp hfi h1 h2 h3 h4 h5

theorem parseStart_line (hnone : s.pk.bwWait = [] ∨ bw ≠ 0) (hline : s.pk.lineWait = id :: rest) :
    ∃ t, exec .parseStart s = .next t ∧ t.pk.bwWait = s.pk.bwWait ∧ t.pk.lineWait = rest ∧
      t.pk.hostWait = s.pk.hostWait ∧ t.pk.parsing = s.pk.parsing ++ [id] ∧ t.pkt id = some (s.inspect p) ∧ t.pk.starts = starts + 1 ∧ t.pk.bwStarts = bw := by
  obtain ⟨t, hrun, hpk⟩ := parseStart_else hcount hless hp hfi hnone (.inl ⟨rest, hline, rfl⟩)
  refine ⟨t, hrun, ?_⟩
  unfold State.pkt
  rw [hpk]
  exact ⟨rfl, rfl, rfl, rfl, tget_tput_self none s.pk.pkts id (some (s.inspect p)), rfl, rfl⟩

theorem parseStart_host {l : Nat} (hnone : s.pk.bwWait = [] ∨ bw ≠ 0) (hline : s.pk.lineWait = []) (hnext : s.nextHost = some l) (hwait : tget [] s.pk.hostWait l = id :: rest) :
    ∃ t, exec .parseStart s = .next t ∧ t.pk.bwWait = s.pk.bwWait ∧ t.pk.lineWait = [] ∧ tget [] t.pk.hostWait l = rest ∧ t.pk.lastLane = l ∧
      t.pk.parsing = s.pk.parsing ++ [id] ∧ t.pkt id = some (s.inspect p) ∧ t.pk.starts = starts + 1 := by
  obtain ⟨t, hrun, hpk⟩ := parseStart_else hcount hless hp hfi hnone (.inr ⟨l, rest, hline, hnext, hwait, rfl⟩)
  refine ⟨t, hrun, ?_⟩
  unfold State.pkt
  rw [hpk]
  exact ⟨rfl, hline, tget_tput_self _ _ _ _, rfl, rfl, tget_tput_self none s.pk.pkts id (some (s.inspect p)), rfl⟩

end

/-! ### Classified packets (R462–R473) -/

theorem mem_insertNum (s : State) (id n : Nat) (l : List Nat) : id ∈ insertNum s id n l := by
  induction l with
  | nil => exact List.mem_singleton_self id
  | cons x l ih =>
    unfold insertNum
    split
    · split
      · exact List.mem_cons_self
      · exact List.mem_cons_of_mem x ih
    · exact List.mem_cons_of_mem x ih

theorem memReads_read (s : State) {mem : Nat} (hm : mem < 14) (inst word n consumer : Nat) : MemRead s (s.memReads mem inst word n consumer).2 := by
  have hfold : ∀ (l : List Nat) (r : Bool × State),
      MemRead r.2 (l.foldl (fun r k => ((r.1 || (r.2.memRead mem inst (word + k) consumer).1), (r.2.memRead mem inst (word + k) consumer).2)) r).2 := by
    intro l
    induction l with
    | nil => exact fun r => ⟨.refl _ r.2, .refl r.2⟩
    | cons k l ih => exact fun r => MemRead.trans ⟨memRead_touch r.2 hm inst (word + k) consumer, memRead_rest r.2 mem inst (word + k) consumer⟩ (ih _)
  exact hfold (List.range n) (false, s)

/-- Reads in a row are a read. -/
theorem MemRead.foldl {α β : Type} {step : State × β → α → State × β} (h : ∀ r x, MemRead r.1 (step r x).1) (l : List α) (r : State × β) :
    MemRead r.1 (l.foldl step r).1 := by
  induction l generalizing r with
  | nil => exact ⟨.refl _ r.1, .refl r.1⟩
  | cons x l ih => exact (h r x).trans (ih (step r x))

theorem readFlows_read (s : State) (hash : Nat) (place : Option Nat) : MemRead s (s.readFlows hash place).1 := by
  unfold State.readFlows
  refine MemRead.foldl (fun r i => ?_) _ (s, false)
  have hread := memReads_read r.1 (mem := 7) (by decide) 0 (4 * i) 4 7
  dsimp only
  exact hread

/-- What classification counts beside PKTS_PARSED (R460, R462, R465, R469). -/
def classifiedPatches : List Patch :=
  Cnt.DEPTH_EXCEEDED.patches ++ Cnt.LEN_CONFLICTS.patches ++ Cnt.DL_MATCHES.patches ++ Cnt.DROP_LENGTH.patches

theorem countClassified_shows (s : State) {p : Pkt} (ht : p.turnout < 256) (bad : Bool) :
    Counted Cnt.PKTS_PARSED 0 0 1 s (s.countClassified p bad) ∧ ∃ m, (s.countClassified p bad).pk = { s.pk with flows := m } := by
  have h2 : ∀ v : State, Touch classifiedPatches v (if bitsOf p.flags 0 1 = 1 then v.bump Cnt.DEPTH_EXCEEDED p.turnout else v) ∧
      (if bitsOf p.flags 0 1 = 1 then v.bump Cnt.DEPTH_EXCEEDED p.turnout else v).pk = v.pk := fun v =>
    ⟨.ite (fun _ => (Touch.refl _ v).bumpRow ht (by decide)) fun _ => .refl _ v, ite_keeps State.pk (bump_pk _ _ _ _ _) rfl⟩
  have h3 : ∀ v : State, Touch classifiedPatches v (if bitsOf p.flags 1 1 = 1 then v.bump Cnt.LEN_CONFLICTS p.turnout else v) ∧
      (if bitsOf p.flags 1 1 = 1 then v.bump Cnt.LEN_CONFLICTS p.turnout else v).pk = v.pk := fun v =>
    ⟨.ite (fun _ => (Touch.refl _ v).bumpRow ht (by decide)) fun _ => .refl _ v, ite_keeps State.pk (bump_pk _ _ _ _ _) rfl⟩
  have h4 : ∀ v : State, Touch classifiedPatches v (if bitsOf p.flags 12 1 = 1 then v.bump Cnt.DL_MATCHES else v) ∧
      (if bitsOf p.flags 12 1 = 1 then v.bump Cnt.DL_MATCHES else v).pk = v.pk := fun v =>
    ⟨.ite (fun _ => (Touch.refl _ v).bump0 (by decide)) fun _ => .refl _ v, ite_keeps State.pk (bump_pk _ _ _ _ _) rfl⟩
  have h5 : ∀ v : State, Touch classifiedPatches v (if p.lenDrop then v.bump Cnt.DROP_LENGTH p.turnout else v) ∧
      (if p.lenDrop then v.bump Cnt.DROP_LENGTH p.turnout else v).pk = v.pk := fun v =>
    ⟨.ite (fun _ => (Touch.refl _ v).bumpRow ht (by decide)) fun _ => .refl _ v, ite_keeps State.pk (bump_pk _ _ _ _ _) rfl⟩
  have hflow : ∀ (v : State) i e, Touch classifiedPatches v (v.setFlow i e) := fun _ _ _ => .of_regs rfl
  have hcount := counted_bump s Cnt.PKTS_PARSED 0 0 1 (.inr rfl)
  have hpk := bump_pk s Cnt.PKTS_PARSED 0 0 1
  unfold State.countClassified
  dsimp only
  generalize s.bump Cnt.PKTS_PARSED = v1 at hcount hpk
  obtain ⟨t2, k2⟩ := h2 v1
  generalize (if bitsOf p.flags 0 1 = 1 then v1.bump Cnt.DEPTH_EXCEEDED p.turnout else v1) = v2 at t2 k2
  obtain ⟨t3, k3⟩ := h3 v2
  generalize (if bitsOf p.flags 1 1 = 1 then v2.bump Cnt.LEN_CONFLICTS p.turnout else v2) = v3 at t3 k3
  obtain ⟨t4, k4⟩ := h4 v3
  generalize (if bitsOf p.flags 12 1 = 1 then v3.bump Cnt.DL_MATCHES else v3) = v4 at t4 k4
  obtain ⟨t5, k5⟩ := h5 v4
  generalize (if p.lenDrop then v4.bump Cnt.DROP_LENGTH p.turnout else v4) = v5 at t5 k5
  have htouch := ((t2.trans t3).trans t4).trans t5
  have hkept : v5.pk = s.pk := k5.trans (k4.trans (k3.trans (k2.trans hpk)))
  have hsame : Counted Cnt.PKTS_PARSED 0 0 1 s v5 ∧ ∃ m, v5.pk = { s.pk with flows := m } := ⟨htouch.counted hcount (by decide) (by decide), s.pk.flows, hkept⟩
  cases p.flowHit with
  | none => exact hsame
  | some h =>
    dsimp only
    cases bad with
    | true => exact hsame
    | false =>
      refine ⟨(htouch.trans (hflow v5 h.1 _)).counted hcount (by decide) (by decide), tput none s.pk.flows h.1 ((v5.flowAt h.1).map fun e => { e with hit := true }), ?_⟩
      rw [← hkept]
      rfl

theorem withAction_kept (p : Pkt) (bad : Bool) : (p.withAction bad).turnout = p.turnout ∧ (p.withAction bad).num = p.num := ⟨rfl, rfl⟩

theorem toStage_shows (s : State) (id : Nat) (p : Pkt) : id ∈ ((s.toStage id p).domain p.turnout).stage ∧ (s.toStage id p).regs = s.regs ∧
    (s.toStage id p).pk.parsing = s.pk.parsing := by
  unfold State.toStage
  dsimp only
  rw [domain_setDomain]
  exact ⟨mem_insertNum s id p.num _, rfl, rfl⟩

/-- The state in which packet `id` has left the parse pipelines. -/
def State.parsed (s : State) (id : Nat) : State := { s with pk := { s.pk with parsing := s.pk.parsing.erase id } }

/-- `sel` picks the packets that are parsed for turnout `t`. -/
def PicksTurnout (s : State) (t : Nat) (sel : Nat → Bool) : Prop := ∀ id, (∀ p, s.pkt id = some p → sel id = (p.turnout == t)) ∧ (s.pkt id = none → sel id = false)

theorem PicksTurnout.unique {s : State} {t : Nat} {f g : Nat → Bool} (hf : PicksTurnout s t f) (hg : PicksTurnout s t g) : f = g := funext fun id => by
  cases h : s.pkt id with
  | none => rw [(hf id).2 h, (hg id).2 h]
  | some p => rw [(hf id).1 p h, (hg id).1 p h]

theorem packetClassified_eq {tn : Fin 256} {id : Nat} {p : Pkt} {s : State} {sel : Nat → Bool} (hsel : PicksTurnout s tn.val sel)
    (hfind : s.pk.parsing.find? sel = some id) (hp : s.pkt id = some p) (hdue : p.startedAt + p.cycles * 65 / 8 ≤ s.clock) :
    ∃ v bad, MemRead (s.parsed id) v ∧ exec (.packetClassified tn) s = done s ((v.countClassified p bad).toStage id (p.withAction bad)) := by
  have hsame : ∀ f, PicksTurnout s tn.val f → s.pk.parsing.find? f = some id := fun f hf => hf.unique hsel ▸ hfind
  show ∃ v bad, _ ∧ execPacketClassified tn s = _
  unfold execPacketClassified
  rw [hsame _ fun id => ⟨fun q hq => by rw [hq], fun hq => by rw [hq]⟩]
  dsimp only
  rw [hp]
  dsimp only
  rw [if_neg (by omega)]
  cases p.looked with
  | true => exact ⟨_, _, readFlows_read (s.parsed id) _ _, rfl⟩
  | false => exact ⟨_, _, ⟨.refl _ _, .refl (s.parsed id)⟩, rfl⟩

theorem packetClassified_stages {tn : Fin 256} {id : Nat} {p : Pkt} {s : State} {sel : Nat → Bool} (hsel : PicksTurnout s tn.val sel)
    (hfind : s.pk.parsing.find? sel = some id) (hp : s.pkt id = some p) (hdue : p.startedAt + p.cycles * 65 / 8 ≤ s.clock) :
    ∃ t, exec (.packetClassified tn) s = .next t ∧ t.pk.parsing = s.pk.parsing.erase id ∧ Counted Cnt.PKTS_PARSED 0 0 1 s t ∧ id ∈ (t.domain tn.val).stage := by
  have htn : p.turnout = tn.val := beq_iff_eq.mp (((hsel id).1 p hp).symm.trans (List.find?_some hfind))
  have hlt : p.turnout < 256 := htn ▸ tn.isLt
  obtain ⟨v, bad, hread, hrun⟩ := packetClassified_eq hsel hfind hp hdue
  rw [hrun]
  refine done_then fun t he _ => ?_
  obtain ⟨hcount, m, hpk⟩ := countClassified_shows v hlt bad
  obtain ⟨hstage, hregs, hparsing⟩ := toStage_shows (v.countClassified p bad) id (p.withAction bad)
  obtain ⟨hturn, -⟩ := withAction_kept p bad
  have htouch : Touch memReadPatches s v := .trans (.of_regs rfl) hread.1
  refine ⟨(he.keeps (fun s => s.pk.parsing) fun _ _ _ _ _ _ _ => rfl).trans (hparsing.trans ?_), ?_, ?_⟩
  · rw [hpk, hread.pk]
    rfl
  · exact htouch.counted_of (((Touch.of_regs (l := []) hregs).trans he.touch).counted hcount (by decide) (by decide)) (by decide) (by decide)
  · rw [hturn, htn] at hstage
    exact (he.keeps (fun s => s.domain tn.val) fun _ _ _ _ _ _ _ => rfl) ▸ hstage

/-! ### Backwater re-entry (R453, R454, R477) -/

theorem release_pk (s : State) (id : Nat) : ∃ m, (s.release id).pk = { s.pk with pkts := m } := by
  unfold State.release
  cases hp : s.pkt id with
  | none => exact ⟨s.pk.pkts, rfl⟩
  | some p =>
    dsimp only
    rw [refreshHg_pk]
    refine ⟨tput none s.pk.pkts id (some { p with pool := .none_, parcels := [], desc := none }), ?_⟩
    unfold State.setPkt
    dsimp only
    split
    · exact congrArg (fun k : PktState => { k with pkts := tput none k.pkts id (some { p with pool := .none_, parcels := [], desc := none }) }) (set_pk _ _ _ _ _)
    · rfl

theorem release_backwater {s : State} {id : Nat} {p : Pkt} (hp : s.pkt id = some p) (hpool : p.pool = .backwater) : Touch dropPktPatches s (s.release id) := by
  unfold State.release
  rw [hp]
  dsimp only
  rw [hpool]
  have hset : ∀ x, Touch dropPktPatches s (s.setPkt id x) := fun _ => .of_regs rfl
  exact (hset _).trans (refreshHg_touch _)

/-- The counters of the checks of R453 leave the packet part. -/
theorem frameCheck_pk {s : State} {t : Nat} {frame : List Byte} {coding marked : Bool} {f : State → State} (h : s.frameCheck t frame coding marked = some f) (u : State) :
    (f u).pk = u.pk := by
  have hcases : ∀ g : State → State, (∃ c : Ctr, g = fun s => s.bump c t) ∨ g = (fun s => s.quenchDrop t) → (g u).pk = u.pk := by
    rintro g (⟨c, rfl⟩ | rfl)
    · exact bump_pk _ _ _ _ _
    · exact (bump_pk _ _ _ _ _).trans (bump_pk _ _ _ _ _)
  refine hcases f ?_
  unfold State.frameCheck at h
  repeat' split at h
  · exact .inr (Option.some.inj h).symm
  · exact .inl ⟨_, (Option.some.inj h).symm⟩
  · exact .inl ⟨_, (Option.some.inj h).symm⟩
  · exact .inl ⟨_, (Option.some.inj h).symm⟩
  · exact .inl ⟨_, (Option.some.inj h).symm⟩
  · exact .inl ⟨_, (Option.some.inj h).symm⟩
  · cases h

/-- The checks of a frame look at two fields, which reading a packet and giving its storage back leave. -/
theorem frameCheck_of_touch {s u : State} {l : List Patch} (h : Touch l s u) {t : Nat} (ht : t < 256)
    (hd : (sharedPatches ++ l).all (·.apart (Reg.TN_IN_STATUS_Q_STATE.patch 256)) = true ∧ (sharedPatches ++ l).all (·.apart Reg.IN_CFG_MAX_FRAME.patch) = true)
    (frame : List Byte) (coding marked : Bool) : u.frameCheck t frame coding marked = s.frameCheck t frame coding marked := by
  have hrun : u.running 1 t = s.running 1 t := congrArg (· == 0) (h.getRow Reg.TN_IN_STATUS_Q_STATE ht ⟨hd.1, by decide⟩)
  unfold State.frameCheck
  rw [hrun, h.get0 Reg.IN_CFG_MAX_FRAME ⟨hd.2, by decide⟩]

theorem memReads2_words (s : State) {mem : Nat} (hm : mem < 14) (word n consumer : Nat) : (s.memReads2 mem word n consumer).2.mem.words = s.mem.words := by
  have hfold : ∀ (l : List Nat) (r : Bool × State), (l.foldl (fun r k => ((r.1 || (r.2.memRead2 mem (word + k) consumer).1), (r.2.memRead2 mem (word + k) consumer).2)) r).2.mem.words = r.2.mem.words := by
    intro l
    induction l with
    | nil => exact fun _ => rfl
    | cons k l ih => exact fun r => (ih _).trans (memRead2_words r.2 hm _ _)
  exact hfold (List.range n) (false, s)

theorem readDesc_words (s : State) (id : Nat) : (s.readDesc id).2.mem.words = s.mem.words := by
  unfold State.readDesc
  cases s.pkt id with
  | none => rfl
  | some p =>
    dsimp only
    cases p.desc with
    | none => rfl
    | some k => exact memReads2_words s (mem := 9) (by decide) _ _ _

/-- The state in which the oldest packet of the backwater pool has left it. -/
def State.bwTaken (s : State) (rest : List Nat) : State := { s with pk := { s.pk with bwPool := rest } }

/-- The state in which the words of packet `p` have been read for its re-entry, and its storage has been given back (R477, R556). -/
def State.bwRead (s : State) (id : Nat) (p : Pkt) : State :=
  let r := (s.readDesc id).2.readWords p 0 (wordsFor p.data.length) 6
  ((if r.2.isEmpty then r.1 else r.1.bite 6 none).release id).perfDev 12 1

def bwReadPatches : List Patch := memReadPatches ++ perfPage ++ [Reg.MEM_EVENTS_POISON_BITE.patch] ++ dropPktPatches

theorem bwRead_shows {s : State} {id : Nat} {p : Pkt} (hp : s.pkt id = some p) :
    (p.pool = .backwater → Touch bwReadPatches s (s.bwRead id p)) ∧ ∃ m b, (s.bwRead id p).pk = { s.pk with pkts := m, bankBusy := b } := by
  have hdesc := readDesc_read s id
  have hwords := readWords_marks (s.readDesc id).2 p 0 (wordsFor p.data.length) 6
  have hwt := readWords_touch (s.readDesc id).2 p 0 (wordsFor p.data.length) 6
  unfold State.bwRead
  dsimp only
  generalize (s.readDesc id).2.readWords p 0 (wordsFor p.data.length) 6 = r at hwords hwt
  generalize (s.readDesc id).2 = d at hdesc hwords hwt
  have hbite : BanksRead d (if r.2.isEmpty then r.1 else r.1.bite 6 none) :=
    (BanksRead.of_issueKept hwords.1).regsLogs (.ite (.refl _) (bite_rest _ _ _ _))
  have hbt : Touch bwReadPatches d (if r.2.isEmpty then r.1 else r.1.bite 6 none) :=
    .ite (fun _ => hwt.mono (by decide)) fun _ => .andThen (hwt.mono (by decide)) (bite_touch _ _ _ _) (by decide)
  generalize (if r.2.isEmpty then r.1 else r.1.bite 6 none) = b at hbite hbt
  have hpkt : b.pkt id = some p := (hbite.keeps (fun s => s.pkt id) fun _ _ _ _ _ _ => rfl).trans ((hdesc.2.keeps (fun s => s.pkt id) fun _ _ _ _ => rfl).trans hp)
  obtain ⟨m, hm⟩ := release_pk b id
  refine ⟨fun hpool => ?_, ?_⟩
  · exact .andThen (.andThen (.trans (hdesc.1.mono (by decide)) hbt) (release_backwater hpkt hpool) (by decide)) (perfDev_touch _ _ _) (by decide)
  · obtain ⟨_, _, _, _, _, k, hk⟩ := hbite
    have hbpk : b.pk = { d.pk with bankBusy := k } := congrArg State.pk hk
    rw [perfDev_pk, hm, hbpk, hdesc.pk]
    exact ⟨m, k, rfl⟩

/-- The packet of a new pass (R454, R477). -/
def State.bwPacket (s : State) (p : Pkt) (num : Nat) : Pkt :=
  { data := p.data, turnout := actTurnout p.action, orig := p.orig, num := num, arrival := s.clock, bwPass := p.bwPass + 1, tag := p.tag }

/-- A packet waits for its next pass. -/
def State.bwWaits (u : State) (t id : Nat) (p : Pkt) : State :=
  { (u.takeNumber t).1.setPkt id (some p) with pk := { ((u.takeNumber t).1.setPkt id (some p)).pk with bwWait := u.pk.bwWait ++ [id] } }

theorem backwaterReentry_cases {id : Nat} {rest : List Nat} {p : Pkt} {s : State} (hpool : s.pk.bwPool = id :: rest) (hp : s.pkt id = some p) :
    (((s.bwTaken rest).readDesc id).1 = true → exec .backwaterReentry s = done s ((((s.bwTaken rest).readDesc id).2.leak id).bite 10 none)) ∧
    (((s.bwTaken rest).readDesc id).1 = false → ∀ f,
      ((s.bwTaken rest).bwRead id p).frameCheck (actTurnout p.action) p.data false
        (!(((s.bwTaken rest).readDesc id).2.readWords p 0 (wordsFor p.data.length) 6).2.isEmpty) = some f →
      exec .backwaterReentry s = done s ((f ((s.bwTaken rest).bwRead id p)).dropPkt id)) ∧
    (((s.bwTaken rest).readDesc id).1 = false →
      ((s.bwTaken rest).bwRead id p).frameCheck (actTurnout p.action) p.data false
        (!(((s.bwTaken rest).readDesc id).2.readWords p 0 (wordsFor p.data.length) 6).2.isEmpty) = none →
      exec .backwaterReentry s = done s (((s.bwTaken rest).bwRead id p).bwWaits (actTurnout p.action) id
        (s.bwPacket p (((s.bwTaken rest).bwRead id p).domain (actTurnout p.action)).next))) := by
  have hp0 : (s.bwTaken rest).pkt id = some p := hp
  refine ⟨fun h => ?_, fun h f hf => ?_, fun h hf => ?_⟩
  all_goals
    show execBackwaterReentry s = _
    unfold execBackwaterReentry
    rw [hpool]
    dsimp only
  · unfold State.bwTaken at h hp0 ⊢
    rw [hp0]
    dsimp only
    rw [h]
    rfl
  · unfold State.bwRead at hf ⊢
    unfold State.bwTaken at h hp0 hf ⊢
    rw [hp0]
    dsimp only at hf ⊢
    rw [h, if_neg Bool.false_ne_true, hf]
  · unfold State.bwRead at hf ⊢
    unfold State.bwTaken at h hp0 hf ⊢
    rw [hp0]
    dsimp only at hf ⊢
    rw [h, if_neg Bool.false_ne_true, hf]
    rfl

theorem bwWaits_pk (u : State) (t id : Nat) (p : Pkt) : (u.bwWaits t id p).pk =
    { u.pk with domains := tput {} u.pk.domains t { u.domain t with next := (u.domain t).next + 1 }, pkts := tput none u.pk.pkts id (some p), bwWait := u.pk.bwWait ++ [id] } := rfl

theorem backwaterReentry_waits {id : Nat} {rest : List Nat} {p : Pkt} {s : State} (hpool : s.pk.bwPool = id :: rest) (hp : s.pkt id = some p) (hback : p.pool = .backwater) :
    ∃ t, exec .backwaterReentry s = .next t ∧ t.pk.bwPool = rest ∧
      ((s.readDesc id).1 = false → (∀ w, w < wordsFor p.data.length → Clean 1 (p.parcels.getD (w / 4) 0 / 32768) (4 * (p.parcels.getD (w / 4) 0 % 32768) + w % 4) s) →
        s.frameCheck (actTurnout p.action) p.data false false = none →
        t.pk.bwWait = s.pk.bwWait ++ [id] ∧ ∃ q, t.pkt id = some q ∧ q.data = p.data ∧ q.turnout = actTurnout p.action ∧ q.bwPass = p.bwPass + 1 ∧
          q.num = (s.domain (actTurnout p.action)).next ∧ q.tag = p.tag) := by
  have hp0 : (s.bwTaken rest).pkt id = some p := hp
  obtain ⟨hlost, hcheck, hpass⟩ := backwaterReentry_cases hpool hp
  obtain ⟨htouch, m, b, hpk⟩ := bwRead_shows hp0
  have hmark : ((s.bwTaken rest).readDesc id).1 = (s.readDesc id).1 := readDesc_fst_congr (s := s) (t := s.bwTaken rest) rfl rfl id
  have htpk : ∀ {u t : State}, Ended [] s u t → t.pk = u.pk := fun he => he.keeps State.pk fun _ _ _ _ _ _ _ => rfl
  cases hd : (s.readDesc id).1 with
  | true =>
    rw [hlost (hmark.trans hd)]
    refine done_then fun t he _ => ⟨?_, nofun⟩
    obtain ⟨x, l, e, hleak⟩ := leak_pk ((s.bwTaken rest).readDesc id).2 id
    rw [htpk he, bite_pk, hleak, (readDesc_read _ _).pk]
    rfl
  | false =>
    have hdata := readWords_marks ((s.bwTaken rest).readDesc id).2 p 0 (wordsFor p.data.length) 6
    have hsame : ∀ marked, ((s.bwTaken rest).bwRead id p).frameCheck (actTurnout p.action) p.data false marked = s.frameCheck (actTurnout p.action) p.data false marked := fun marked =>
      (frameCheck_of_touch (htouch hback) (bitsOf_lt _ _ 8) (by decide) _ _ _).trans (frameCheck_congr rfl _ _ _ _)
    have hclean : (∀ w, w < wordsFor p.data.length → Clean 1 (p.parcels.getD (w / 4) 0 / 32768) (4 * (p.parcels.getD (w / 4) 0 % 32768) + w % 4) s) →
        (((s.bwTaken rest).readDesc id).2.readWords p 0 (wordsFor p.data.length) 6).2 = [] := fun h => by
      rw [hdata.2]
      refine markedWords_clean fun w hw => ?_
      have hwords : ((s.bwTaken rest).readDesc id).2.mem.words = s.mem.words := readDesc_words (s.bwTaken rest) id
      have := h w hw
      unfold Clean State.wordBits State.wordFlag at this ⊢
      rw [hwords]
      exact this
    generalize (((s.bwTaken rest).readDesc id).2.readWords p 0 (wordsFor p.data.length) 6).2 = marks at hcheck hpass hclean
    generalize (s.bwTaken rest).bwRead id p = u at hcheck hpass hpk hsame
    cases hf : u.frameCheck (actTurnout p.action) p.data false (!marks.isEmpty) with
    | some f =>
      rw [hcheck (hmark.trans hd) f hf]
      refine done_then fun t he _ => ⟨?_, fun _ hc hn => ?_⟩
      · obtain ⟨x, hx⟩ := dropPkt_pk (f u) id
        rw [htpk he, hx, frameCheck_pk hf, hpk]
        rfl
      · rw [hclean hc, hsame] at hf
        exact absurd (hf.symm.trans hn) nofun
    | none =>
      rw [hpass (hmark.trans hd) hf]
      refine done_then fun t he _ => ?_
      have hw := (htpk he).trans (bwWaits_pk u (actTurnout p.action) id (s.bwPacket p (u.domain (actTurnout p.action)).next))
      have hdom : (u.domain (actTurnout p.action)).next = (s.domain (actTurnout p.action)).next := by
        unfold State.domain
        rw [hpk]
        rfl
      rw [hdom] at hw
      unfold State.pkt
      rw [hw, hpk]
      exact ⟨rfl, fun _ _ _ => ⟨rfl, s.bwPacket p (s.domain (actTurnout p.action)).next, tget_tput_self none m id (some (s.bwPacket p (s.domain (actTurnout p.action)).next)), rfl, rfl, rfl, rfl, rfl⟩⟩

/-- Settles O53. -/
theorem packetsEnterParseAndAreClassified : Obligations.PacketsEnterParseAndAreClassified := by
  unfold Obligations.PacketsEnterParseAndAreClassified
  refine ⟨fun tn taken last ws s hhost hcoh hdrop hcoming hws => hostPortWordRx_takes hhost hcoh hdrop hcoming hws,
    fun tn arrived blocks last marked frame s hblocks hadm hheard harr => ?_,
    fun id starts bw rest p s hcount hless hp hfi => ⟨parseStart_backwater hcount hless hp hfi, parseStart_line hcount hless hp hfi, fun l => parseStart_host hcount hless hp hfi⟩,
    fun tn id p s hfind => packetClassified_stages (fun k => ⟨fun q hq => by rw [hq], fun hq => by rw [hq]⟩) hfind,
    fun tn id rest p s hheld hstage hp hturn htn hnum hpool => actionStage_hands hheld hstage hp hturn htn hnum hpool,
    fun id rest p s hpool hp hback => backwaterReentry_waits hpool hp hback⟩
  subst hblocks
  exact ⟨packetArrival_waits hadm hheard harr, packetArrival_runt hadm hheard harr⟩

end Sys2Proof.Machine
end

section
/-! SUPPORT. The deframer: hunting, frames, multiframe streams and management messages (spec/08_flume_frame.md) -/

namespace Sys2Proof.Machine

/-! ### Hunting and frames (R355–R359) -/

/-- What a word of the hunt counts (R355). -/
def State.huntCounts (s : State) (f : Nat) (r : List Cand × Nat × Nat) : State :=
  let s1 := (s.setFrmFur f { s.frmFur f with cands := r.1, pos := (s.frmFur f).pos + 512 }).set Reg.FRM_FR_STATUS_CANDS r.1.length f
  let s2 := if r.2.1 = 0 then s1 else s1.bump Cnt.FALSE_CANDS f 0 r.2.1
  if r.2.2 = 0 then s2 else s2.bump Cnt.HUNT_OVERFLOWS f 0 r.2.2

theorem frmFur_setFrmFur (s : State) (f : Nat) (x : FrmFurrow) : (s.setFrmFur f x).frmFur f = x := tget_tput_self _ _ _ _

theorem frmFur_of_rest {s t : State} (h : RegsLogs s t) (f : Nat) : t.frmFur f = s.frmFur f := h.keeps (fun s => s.frmFur f) fun _ _ _ => rfl

theorem huntCounts_frmFur (s : State) (f : Nat) (r : List Cand × Nat × Nat) :
    (s.huntCounts f r).frmFur f = { s.frmFur f with cands := r.1, pos := (s.frmFur f).pos + 512 } := by
  have h2 : ∀ u : State, RegsLogs u (if r.2.1 = 0 then u else u.bump Cnt.FALSE_CANDS f 0 r.2.1) := fun u => .ite (.refl u) (regsLogs_bump _ _ _ _ _)
  have h3 : ∀ u : State, RegsLogs u (if r.2.2 = 0 then u else u.bump Cnt.HUNT_OVERFLOWS f 0 r.2.2) := fun u => .ite (.refl u) (regsLogs_bump _ _ _ _ _)
  have h1 : ∀ (u : State) v, RegsLogs u (u.set Reg.FRM_FR_STATUS_CANDS v f) := fun u v => regsLogs_set _ _ _ _ _
  unfold State.huntCounts
  exact (frmFur_of_rest (((h1 _ _).trans (h2 _)).trans (h3 _)) f).trans (frmFur_setFrmFur _ _ _)

theorem frameHuntWord_eq {f : Fin 32} (bits : BitVec 575) {s : State} (hfec : s.get Reg.FEC_CTRL_LINE_FEC = 0) (hsync : s.flag Reg.FRM_FR_STATUS_SYNC f.val = false)
    (hlock : s.flag Reg.FEC_FR_STATUS_CW_LOCK f.val = true) (hfail : s.dspFail f.val = false) {r : List Cand × Nat × Nat}
    (hr : huntWord (s.frameLen f.val) (s.frmFur f.val).pos bits.toNat (s.frmFur f.val).cands = r) :
    (∀ c, winner r.1 = some c → exec (.frameHuntWord f bits) s = done s ((s.huntCounts f.val r).enterSync f.val c)) ∧
    (winner r.1 = none → exec (.frameHuntWord f bits) s = done s (s.huntCounts f.val r)) := by
  refine ⟨fun c hc => ?_, fun hc => ?_⟩
  all_goals
    show execFrameHuntWord f bits s = _
    unfold execFrameHuntWord
    dsimp only
    rw [hsync, hlock, hfail, hfec, hr, hc]
    rfl

theorem endSettling_touch (s : State) : Touch [Reg.PROT_STATUS_SETTLING.patch] s s.endSettling :=
  ((Touch.refl _ s).set0 (by decide)).same rfl

/-- What entering SYNC writes after SYNC and OOF. -/
def enterSyncPatches : List Patch :=
  [Reg.FRM_FR_STATUS_CANDS.patch 32, Reg.FRM_FR_STATUS_FN.patch 32, Reg.FRM_FR_STATUS_J.patch 32, Reg.SELF_STATUS_STATE.patch, Reg.PROT_STATUS_SETTLING.patch] ++ frameLockedPatches

theorem enterSync_touch (s : State) {f : Nat} (hf : f < 32) (c : Cand) :
    Touch enterSyncPatches ((s.set Reg.FRM_FR_STATUS_SYNC 1 f).set Reg.FRM_FR_STATUS_OOF 0 f) (s.enterSync f c) := by
  have hfur : ∀ (v : State) x, Touch enterSyncPatches v (v.setFrmFur f x) := fun _ _ => .of_regs rfl
  have h2 := fun x => ((((Touch.refl enterSyncPatches ((s.set Reg.FRM_FR_STATUS_SYNC 1 f).set Reg.FRM_FR_STATUS_OOF 0 f)).setRow (f := Reg.FRM_FR_STATUS_CANDS) (v := 0) hf (by decide)).setRow
    (f := Reg.FRM_FR_STATUS_FN) (v := c.fn) hf (by decide)).setRow (f := Reg.FRM_FR_STATUS_J) (v := c.j) hf (by decide)).trans (hfur _ x)
  have h3 := fun x => ((h2 x).andThen (frameLocked_touch _ f) (by decide)).andThen (leafLockChange_touch _) (by decide)
  unfold State.enterSync
  exact .ite (fun _ => (h3 _).andThen (endSettling_touch _) (by decide)) fun _ => h3 _

theorem enterSync_flags (s : State) {f : Nat} (hf : f < 32) (c : Cand) :
    (s.enterSync f c).flag Reg.FRM_FR_STATUS_SYNC f = true ∧ (s.enterSync f c).flag Reg.FRM_FR_STATUS_OOF f = false := by
  have h := enterSync_touch s hf c
  rw [h.flagRow Reg.FRM_FR_STATUS_SYNC hf (by decide), h.flagRow Reg.FRM_FR_STATUS_OOF hf (by decide)]
  have hoof : Touch [Reg.FRM_FR_STATUS_OOF.patch 32] (s.set Reg.FRM_FR_STATUS_SYNC 1 f) ((s.set Reg.FRM_FR_STATUS_SYNC 1 f).set Reg.FRM_FR_STATUS_OOF 0 f) :=
    (Touch.refl _ _).setRow hf (by decide)
  rw [hoof.flagRow Reg.FRM_FR_STATUS_SYNC hf (by decide), flag_set_self _ _ _ _ _ (by decide), flag_set_self _ _ _ _ _ (by decide)]
  exact ⟨rfl, rfl⟩

theorem frameHuntWord_hunts (f : Fin 32) (bits : BitVec 575) (s : State) (hfec : s.get Reg.FEC_CTRL_LINE_FEC = 0) (hsync : s.flag Reg.FRM_FR_STATUS_SYNC f.val = false)
    (hlock : s.flag Reg.FEC_FR_STATUS_CW_LOCK f.val = true) (hfail : s.dspFail f.val = false) :
    ∃ t, exec (.frameHuntWord f bits) s = .next t ∧
      (∀ c, winner (huntWord (s.frameLen f.val) (s.frmFur f.val).pos bits.toNat (s.frmFur f.val).cands).1 = some c →
        t.flag Reg.FRM_FR_STATUS_SYNC f.val = true ∧ t.flag Reg.FRM_FR_STATUS_OOF f.val = false) ∧
      (winner (huntWord (s.frameLen f.val) (s.frmFur f.val).pos bits.toNat (s.frmFur f.val).cands).1 = none →
        (t.frmFur f.val).pos = (s.frmFur f.val).pos + 512 ∧
        (t.frmFur f.val).cands = (huntWord (s.frameLen f.val) (s.frmFur f.val).pos bits.toNat (s.frmFur f.val).cands).1) := by
  generalize hr : huntWord (s.frameLen f.val) (s.frmFur f.val).pos bits.toNat (s.frmFur f.val).cands = r
  obtain ⟨hsome, hnone⟩ := frameHuntWord_eq bits hfec hsync hlock hfail hr
  cases hw : winner r.1 with
  | some c =>
    rw [hsome c hw]
    refine done_then fun t he _ => ⟨fun _ _ => ?_, nofun⟩
    obtain ⟨hin, hout⟩ := enterSync_flags (s.huntCounts f.val r) f.isLt c
    rw [he.touch.flagRow _ f.isLt (by decide), he.touch.flagRow _ f.isLt (by decide)]
    exact ⟨hin, hout⟩
  | none =>
    rw [hnone hw]
    refine done_then fun t he _ => ⟨nofun, fun _ => ?_⟩
    have hfur : t.frmFur f.val = (s.huntCounts f.val r).frmFur f.val := he.keeps (fun s => s.frmFur f.val) fun _ _ _ _ _ _ _ => rfl
    rw [hfur, huntCounts_frmFur]
    exact ⟨rfl, rfl⟩

/-! ### The FAW of a frame in SYNC (R356, R357) -/

/-- What the persistence filter of the PQ bytes writes (R363). -/
def pqPatches : List Patch :=
  [Reg.PQ_STATUS_RX_PQA.patch, Reg.PQ_STATUS_RX_PQB.patch, Reg.PROT_EVENTS_PQ_CHANGE.patch, Reg.PROT_STATUS_PQ_UNSTABLE.patch] ++ Cnt.PQ_ERRS.patches

theorem pqFrame_touch (s : State) (pq : Option (Byte × Byte)) : Touch pqPatches s (s.pqFrame pq) := by
  have hprot : ∀ (v : State) x, Touch pqPatches v (v.setProt x) := fun _ _ => .of_regs rfl
  unfold State.pqFrame
  cases pq with
  | none => exact (hprot _ _).bump0 (by decide)
  | some ab =>
    obtain ⟨a, b⟩ := ab
    exact .ite (fun _ => ((((hprot _ _).set0 (by decide)).set0 (by decide)).set0 (by decide)).set0 (by decide)) fun _ => hprot _ _

theorem pqFrame_rest (s : State) (pq : Option (Byte × Byte)) : ∃ p, RegsLogs (s.setProt p) (s.pqFrame pq) := by
  have hset : ∀ (u : State) x y, RegsLogs u ((((u.set Reg.PQ_STATUS_RX_PQA x).set Reg.PQ_STATUS_RX_PQB y).set Reg.PROT_EVENTS_PQ_CHANGE 1).set Reg.PROT_STATUS_PQ_UNSTABLE 0) :=
    fun u _ _ => ((((RegsLogs.refl u).set _ _ _ _).set _ _ _ _).set _ _ _ _).set _ _ _ _
  have hite : ∀ (c : Prop) [Decidable c] (u v : State), (∃ p, RegsLogs (s.setProt p) u) → (∃ p, RegsLogs (s.setProt p) v) → ∃ p, RegsLogs (s.setProt p) (if c then u else v) :=
    fun c _ u v hu hv => by
      by_cases h : c
      · rwa [if_pos h]
      · rwa [if_neg h]
  unfold State.pqFrame
  cases pq with
  | none => exact ⟨_, regsLogs_bump _ _ _ _ _⟩
  | some ab => exact hite _ _ _ ⟨_, hset _ _ _⟩ ⟨_, .refl _⟩

theorem pqFrame_frmFur (s : State) (pq : Option (Byte × Byte)) (f : Nat) : (s.pqFrame pq).frmFur f = s.frmFur f := by
  obtain ⟨p, hp⟩ := pqFrame_rest s pq
  exact (frmFur_of_rest hp f).trans rfl

/-- With frame 0 the tributaries' old-map mark of a furrow ends (R356, R401). -/
def State.frameZero (s : State) (f n : Nat) : State := if n = 0 then { s with tsi := { s.tsi with rxOld := putBits s.tsi.rxOld f 1 0 } } else s

theorem frameZero_kept (s : State) (f n : Nat) : (s.frameZero f n).regs = s.regs ∧ (s.frameZero f n).frm = s.frm := by
  unfold State.frameZero
  by_cases h : n = 0
  · rw [if_pos h]
    exact ⟨rfl, rfl⟩
  · rw [if_neg h]
    exact ⟨rfl, rfl⟩

/-- A frame in SYNC is counted, and the next frame number is expected (R356). -/
def State.frameCountedAt (s : State) (f : Nat) (pq : Option (Byte × Byte)) (expected : Nat) : State :=
  (((if s.pqFurrow = some f then s.pqFrame pq else s).bump Cnt.FRAMES f).set Reg.FRM_FR_STATUS_FN expected f).frameZero f expected

def framePatches : List Patch := pqPatches ++ Cnt.FRAMES.patches ++ [Reg.FRM_FR_STATUS_FN.patch 32]

theorem frameCountedAt_shows (s : State) {f : Nat} (hf : f < 32) (pq : Option (Byte × Byte)) {n : Nat} (hn : n < 32) :
    Touch framePatches s (s.frameCountedAt f pq n) ∧ Counted Cnt.FRAMES f 0 1 s (s.frameCountedAt f pq n) ∧
      (s.frameCountedAt f pq n).get Reg.FRM_FR_STATUS_FN f = n ∧ (s.frameCountedAt f pq n).frmFur f = s.frmFur f := by
  have h0 : Touch pqPatches s (if s.pqFurrow = some f then s.pqFrame pq else s) := .ite (fun _ => pqFrame_touch s pq) fun _ => .refl _ s
  have hfur : (if s.pqFurrow = some f then s.pqFrame pq else s).frmFur f = s.frmFur f := ite_keeps (fun s => s.frmFur f) (pqFrame_frmFur s pq f) rfl
  unfold State.frameCountedAt
  generalize (if s.pqFurrow = some f then s.pqFrame pq else s) = s0 at h0 hfur
  obtain ⟨hregs, hfrm⟩ := frameZero_kept ((s0.bump Cnt.FRAMES f).set Reg.FRM_FR_STATUS_FN n f) f n
  have hset : Touch [Reg.FRM_FR_STATUS_FN.patch 32] (s0.bump Cnt.FRAMES f) ((s0.bump Cnt.FRAMES f).set Reg.FRM_FR_STATUS_FN n f) := (Touch.refl _ _).setRow hf (by decide)
  have hget : ((s0.bump Cnt.FRAMES f).set Reg.FRM_FR_STATUS_FN n f).get Reg.FRM_FR_STATUS_FN f = n := by
    rw [get_set_self _ _ _ _ _ (by decide)]
    exact Nat.mod_eq_of_lt hn
  refine ⟨?_, ?_, ?_, ?_⟩
  · exact (((h0.mono (by decide)).bumpRow hf (by decide)).setRow hf (by decide)).same hregs
  · exact h0.counted_of ((hset.same hregs).counted (counted_bump s0 Cnt.FRAMES f 0 1 (.inr rfl)) hf (by decide)) hf (by decide)
  · exact ((Touch.of_regs (l := []) hregs).getRow _ hf (by decide)).trans hget
  · have hrest : RegsLogs s0 ((s0.bump Cnt.FRAMES f).set Reg.FRM_FR_STATUS_FN n f) := ((RegsLogs.refl s0).bump _ _ _ _).set _ _ _ _
    exact (congrArg (fun x : FrmState => tget ({} : FrmFurrow) x.furrows f) hfrm).trans ((frmFur_of_rest hrest f).trans hfur)

/-! The three cases of a frame: its FAW found with the expected label, with another, or not. -/

theorem frameReceived_cases {f : Fin 32} (faws : List (BitVec 64)) (pq : Option (Byte × Byte)) {s : State} (hsync : s.flag Reg.FRM_FR_STATUS_SYNC f.val = true)
    (hrun : s.running 3 f.val = true) {n : Nat} (hn : (s.get Reg.FRM_FR_STATUS_FN f.val + 1) % 25 = n) {u : State} (hu : s.frameCountedAt f.val pq n = u)
    {found : Option Nat} (hfound : ((faws.take (2 * (s.frmFur f.val).uncertain + 1)).map BitVec.toNat).find? patternOk = found) :
    (∀ w, found = some w → (labelOk w && fawFn w == n) = true →
      exec (.frameReceived f faws pq) s = done s ((u.setFrmFur f.val { s.frmFur f.val with failRun := 0, uncertain := 0 }).set Reg.FRM_FR_STATUS_J (fawJ w) f.val)) ∧
    (∀ w, found = some w → (labelOk w && fawFn w == n) = false →
      exec (.frameReceived f faws pq) s = done s ((u.bump Cnt.LABEL_ERRS f.val).setFrmFur f.val { s.frmFur f.val with failRun := 0, uncertain := 1 })) ∧
    (found = none → exec (.frameReceived f faws pq) s = done s
      (if s.get Reg.FRM_CFG_OOF_THR ≤ (s.frmFur f.val).failRun + 1 then
        ((u.bump Cnt.FAW_ERRS f.val).setFrmFur f.val { s.frmFur f.val with failRun := (s.frmFur f.val).failRun + 1, uncertain := (s.frmFur f.val).uncertain + 1 }).outOfFrame f.val
      else (u.bump Cnt.FAW_ERRS f.val).setFrmFur f.val { s.frmFur f.val with failRun := (s.frmFur f.val).failRun + 1, uncertain := (s.frmFur f.val).uncertain + 1 })) := by
  unfold State.frameCountedAt State.frameZero at hu
  refine ⟨fun w hw hl => ?_, fun w hw hl => ?_, fun hw => ?_⟩
  all_goals
    show execFrameReceived f faws pq s = _
    unfold execFrameReceived
    dsimp only
    rw [hsync, hrun, hfound, hw, hn, hu]
  · dsimp only
    rw [hl]
    rfl
  · dsimp only
    rw [hl]
    rfl
  · rfl

theorem outOfFrame_oof (s : State) {f : Nat} (hf : f < 32) (h : s.flag Reg.FRM_FR_STATUS_OOF f = false) : (s.outOfFrame f).flag Reg.FRM_FR_STATUS_OOF f = true := by
  have hset : ∀ v : State, (((v.set Reg.FRM_FR_STATUS_OOF 1 f).bump Cnt.OOF_EVENTS f).set Reg.FRM_FR_EVENTS_OOF 1 f).flag Reg.FRM_FR_STATUS_OOF f = true := fun v => by
    have hrest : Touch (Reg.FRM_FR_EVENTS_OOF.patch 32 :: Cnt.OOF_EVENTS.patches) (v.set Reg.FRM_FR_STATUS_OOF 1 f)
        (((v.set Reg.FRM_FR_STATUS_OOF 1 f).bump Cnt.OOF_EVENTS f).set Reg.FRM_FR_EVENTS_OOF 1 f) := ((Touch.refl _ _).bumpRow hf (by decide)).setRow hf (by decide)
    rw [hrest.flagRow _ hf (by decide), flag_set_self _ _ _ _ _ (by decide)]
    rfl
  unfold State.outOfFrame
  rw [(refreshLineLock_touch _).flagRow Reg.FRM_FR_STATUS_OOF hf (by decide), (leafLockChange_touch _).flagRow Reg.FRM_FR_STATUS_OOF hf (by decide), h]
  exact hset _

theorem frameReceived_counts (f : Fin 32) (w : BitVec 64) (rest : List (BitVec 64)) (pq : Option (Byte × Byte)) (s : State)
    (hsync : s.flag Reg.FRM_FR_STATUS_SYNC f.val = true) (hrun : s.running 3 f.val = true) :
    ∃ t, exec (.frameReceived f (w :: rest) pq) s = .next t ∧ Counted Cnt.FRAMES f.val 0 1 s t ∧
      (patternOk w.toNat = true → labelOk w.toNat = true → fawFn w.toNat = (s.get Reg.FRM_FR_STATUS_FN f.val + 1) % 25 →
        (t.frmFur f.val).failRun = 0 ∧ t.get Reg.FRM_FR_STATUS_J f.val = fawJ w.toNat ∧ t.get Reg.FRM_FR_STATUS_FN f.val = (s.get Reg.FRM_FR_STATUS_FN f.val + 1) % 25) ∧
      (patternOk w.toNat = true → labelOk w.toNat = false → Counted Cnt.LABEL_ERRS f.val 0 1 s t) ∧
      ((s.frmFur f.val).uncertain = 0 → patternOk w.toNat = false → Counted Cnt.FAW_ERRS f.val 0 1 s t ∧
        (s.get Reg.FRM_CFG_OOF_THR ≤ (s.frmFur f.val).failRun + 1 → t.flag Reg.FRM_FR_STATUS_SYNC f.val = false ∧
          (s.flag Reg.FRM_FR_STATUS_OOF f.val = false → t.flag Reg.FRM_FR_STATUS_OOF f.val = true))) := by
  have hlt : f.val < 32 := f.isLt
  generalize hn : (s.get Reg.FRM_FR_STATUS_FN f.val + 1) % 25 = n
  have hnlt : n < 32 := by omega
  obtain ⟨htouch, hcount, hget, -⟩ := frameCountedAt_shows s hlt pq hnlt
  generalize hu : s.frameCountedAt f.val pq n = u at htouch hcount hget
  generalize hfound : (((w :: rest).take (2 * (s.frmFur f.val).uncertain + 1)).map BitVec.toNat).find? patternOk = found
  obtain ⟨hgood, hlabel, hlost⟩ := frameReceived_cases (w :: rest) pq hsync hrun hn hu hfound
  have hfirst : patternOk w.toNat = true → found = some w.toNat := fun h => by
    rw [← hfound, List.take_succ_cons, List.map_cons, List.find?_cons_of_pos h]
  have hnone : (s.frmFur f.val).uncertain = 0 → patternOk w.toNat = false → found = none := fun h0 h => by
    rw [← hfound, h0]
    simp [h]
  have hfur : ∀ (v : State) x, Touch [] v (v.setFrmFur f.val x) := fun _ _ => .of_regs rfl
  cases hf : found with
  | some x =>
    have hx : patternOk w.toNat = true → x = w.toNat := fun h => (Option.some.inj ((hfirst h).symm.trans hf)).symm
    have hnot : (s.frmFur f.val).uncertain = 0 → patternOk w.toNat = false → False := fun h0 h => nomatch (hnone h0 h).symm.trans hf
    cases hl : (labelOk x && fawFn x == n) with
    | true =>
      rw [hgood x hf hl]
      refine done_then fun t he _ => ?_
      have hj : Touch [Reg.FRM_FR_STATUS_J.patch 32] u
          ((u.setFrmFur f.val { s.frmFur f.val with failRun := 0, uncertain := 0 }).set Reg.FRM_FR_STATUS_J (fawJ x) f.val) :=
        ((hfur _ _).mono (by decide)).setRow hlt (by decide)
      have hafter := hj.andThen he.touch (by decide)
      refine ⟨hafter.counted hcount hlt (by decide), fun h _ _ => ⟨?_, ?_, ?_⟩, fun h hbad => ?_, fun h0 h => (hnot h0 h).elim⟩
      · rw [he.keeps (fun s => s.frmFur f.val) fun _ _ _ _ _ _ _ => rfl, frmFur_of_rest (regsLogs_set _ _ _ _ _), frmFur_setFrmFur]
      · rw [he.touch.getRow _ hlt (by decide), get_set_self _ _ _ _ _ (by decide), hx h]
        exact Nat.mod_eq_of_lt (bitsOf_lt _ _ 2)
      · rw [hafter.getRow _ hlt (by decide), hget]
      · rw [hx h, hbad] at hl
        cases hl
    | false =>
      rw [hlabel x hf hl]
      refine done_then fun t he _ => ?_
      have hafter : Touch [] (u.bump Cnt.LABEL_ERRS f.val) t := (hfur _ _).andThen he.touch (by decide)
      have hbump : Touch Cnt.LABEL_ERRS.patches u (u.bump Cnt.LABEL_ERRS f.val) := (Touch.refl _ u).bumpRow hlt (by decide)
      refine ⟨(hbump.andThen hafter (by decide)).counted hcount hlt (by decide), fun h hok hfn => ?_, fun _ _ => ?_, fun h0 h => (hnot h0 h).elim⟩
      · rw [hx h, hok, hfn, beq_self_eq_true] at hl
        cases hl
      · exact htouch.counted_of (hafter.counted (counted_bump u Cnt.LABEL_ERRS f.val 0 1 (.inl rfl)) hlt (by decide)) hlt (by decide)
  | none =>
    rw [hlost hf]
    have hnot : patternOk w.toNat = true → False := fun h => nomatch (hfirst h).symm.trans hf
    refine done_then fun t he _ => ?_
    have hbump : Touch Cnt.FAW_ERRS.patches u (u.bump Cnt.FAW_ERRS f.val) := (Touch.refl _ u).bumpRow hlt (by decide)
    have hcounted := counted_bump u Cnt.FAW_ERRS f.val 0 1 (.inl rfl)
    have hmid := hfur (u.bump Cnt.FAW_ERRS f.val) { s.frmFur f.val with failRun := (s.frmFur f.val).failRun + 1, uncertain := (s.frmFur f.val).uncertain + 1 }
    generalize (u.bump Cnt.FAW_ERRS f.val).setFrmFur f.val { s.frmFur f.val with failRun := (s.frmFur f.val).failRun + 1, uncertain := (s.frmFur f.val).uncertain + 1 } = v at he hmid
    have hlast : Touch outOfFramePatches v t := .andThen (.ite (fun _ => outOfFrame_touch v hlt) fun _ => .refl _ v) he.touch (by decide)
    have hafter : Touch outOfFramePatches (u.bump Cnt.FAW_ERRS f.val) t := .trans (hmid.mono (by decide)) hlast
    refine ⟨?_, fun h => (hnot h).elim, fun h => (hnot h).elim, fun _ _ => ⟨?_, fun hthr => ?_⟩⟩
    · exact Touch.counted (hafter.mono (l' := Cnt.FAW_ERRS.patches ++ outOfFramePatches) (by decide)) (Touch.counted hbump hcount hlt (by decide)) hlt (by decide)
    · exact htouch.counted_of (hafter.counted hcounted hlt (by decide)) hlt (by decide)
    · rw [if_pos hthr] at he
      refine ⟨(he.touch.flagRow _ hlt (by decide)).trans (outOfFrame_sync v hlt), fun hoof => ?_⟩
      have hoof' : v.flag Reg.FRM_FR_STATUS_OOF f.val = false := by
        rw [hmid.flagRow _ hlt (by decide), hbump.flagRow _ hlt (by decide), htouch.flagRow _ hlt (by decide), hoof]
      exact (he.touch.flagRow _ hlt (by decide)).trans (outOfFrame_oof v hlt hoof')

theorem frameReceived_discards (f : Fin 32) (faws : List (BitVec 64)) (pq : Option (Byte × Byte)) (s : State) (hsync : s.flag Reg.FRM_FR_STATUS_SYNC f.val = true)
    (hrun : s.running 3 f.val = false) :
    ∃ t, exec (.frameReceived f faws pq) s = .next t ∧ Counted Cnt.FR_QUENCH_DISCARDS f.val 0 1 s t ∧ RegsKept [Cnt.FR_QUENCH_DISCARDS.addr f.val 0] s t := by
  have hq : s.quenchDiscards 3 f.val 1 = s.bump Cnt.FR_QUENCH_DISCARDS f.val 0 1 := if_pos f.isLt
  have hrun' : exec (.frameReceived f faws pq) s = done s (s.bump Cnt.FR_QUENCH_DISCARDS f.val 0 1) := by
    show execFrameReceived f faws pq s = _
    unfold execFrameReceived
    dsimp only
    rw [hsync, hrun, hq]
    rfl
  rw [hrun']
  refine done_then fun t he _ => ⟨he.touch.counted (counted_bump s Cnt.FR_QUENCH_DISCARDS f.val 0 1 (.inl rfl)) f.isLt (by decide), fun a ha hk => ?_⟩
  exact (he.kept a List.not_mem_nil hk).trans (reg_bump_ne _ _ _ _ _ fun h => ha (by simpa [Ctr.wordsOf, Cnt.FR_QUENCH_DISCARDS] using h))

/-! ### LOF (R357, R359) -/

/-- SF and SD of a furrow follow. -/
theorem refreshDefects_touch (s : State) {f : Nat} (hf : f < 32) : Touch [Reg.FRM_FR_STATUS_SF.patch 32, Reg.FRM_FR_STATUS_SD.patch 32] s (s.refreshDefects f) :=
  ((Touch.refl _ s).setRow hf (by decide)).setRow hf (by decide)

theorem refreshDefects_sf (s : State) {f : Nat} (hf : f < 32) (hlof : s.flag Reg.FRM_FR_STATUS_LOF f = true) (hfec : s.get Reg.FEC_CTRL_LINE_FEC = 0) :
    (s.refreshDefects f).flag Reg.FRM_FR_STATUS_SF f = true := by
  have hsd : ∀ (v : State) x, Touch [Reg.FRM_FR_STATUS_SD.patch 32] v (v.set Reg.FRM_FR_STATUS_SD x f) := fun v x => (Touch.refl _ v).setRow hf (by decide)
  unfold State.refreshDefects
  dsimp only
  rw [hlof, hfec, (hsd _ _).flagRow _ hf (by decide), flag_set_self _ _ _ _ _ (by decide)]
  simp [b2n, Reg.FRM_FR_STATUS_SF]

theorem lofSet_sets (f : Fin 32) (s : State) (hoof : s.flag Reg.FRM_FR_STATUS_OOF f.val = true) (hlof : s.flag Reg.FRM_FR_STATUS_LOF f.val = false)
    (hdue : (s.frmFur f.val).oofSince + 65000 * s.get Reg.FRM_CFG_LOF_FRAMES ≤ s.clock) :
    ∃ t, exec (.lofSet f) s = .next t ∧ t.flag Reg.FRM_FR_STATUS_LOF f.val = true ∧ t.flag Reg.FRM_FR_EVENTS_LOF_SET f.val = true ∧
      (s.get Reg.FEC_CTRL_LINE_FEC = 0 → t.flag Reg.FRM_FR_STATUS_SF f.val = true) := by
  have hrun : exec (.lofSet f) s = done s (((s.set Reg.FRM_FR_STATUS_LOF 1 f.val).set Reg.FRM_FR_EVENTS_LOF_SET 1 f.val).refreshDefects f.val) := by
    show execLofSet f s = _
    unfold execLofSet
    dsimp only
    rw [hoof, hlof, decide_eq_true (show (s.frmFur f.val).oofSince + usT 5 * s.get Reg.FRM_CFG_LOF_FRAMES ≤ s.clock from hdue)]
    rfl
  have hev : Touch [Reg.FRM_FR_EVENTS_LOF_SET.patch 32] (s.set Reg.FRM_FR_STATUS_LOF 1 f.val) ((s.set Reg.FRM_FR_STATUS_LOF 1 f.val).set Reg.FRM_FR_EVENTS_LOF_SET 1 f.val) :=
    (Touch.refl _ _).setRow f.isLt (by decide)
  have hlof1 : (s.set Reg.FRM_FR_STATUS_LOF 1 f.val).flag Reg.FRM_FR_STATUS_LOF f.val = true := flag_set_self _ _ _ _ _ (by decide)
  have hlof2 := (hev.flagRow Reg.FRM_FR_STATUS_LOF f.isLt (by decide)).trans hlof1
  have hev2 : ((s.set Reg.FRM_FR_STATUS_LOF 1 f.val).set Reg.FRM_FR_EVENTS_LOF_SET 1 f.val).flag Reg.FRM_FR_EVENTS_LOF_SET f.val = true := flag_set_self _ _ _ _ _ (by decide)
  have hfec : Touch [Reg.FRM_FR_STATUS_LOF.patch 32, Reg.FRM_FR_EVENTS_LOF_SET.patch 32] s ((s.set Reg.FRM_FR_STATUS_LOF 1 f.val).set Reg.FRM_FR_EVENTS_LOF_SET 1 f.val) :=
    ((Touch.refl _ s).setRow f.isLt (by decide)).setRow f.isLt (by decide)
  rw [hrun]
  generalize (s.set Reg.FRM_FR_STATUS_LOF 1 f.val).set Reg.FRM_FR_EVENTS_LOF_SET 1 f.val = v at hlof2 hev2 hfec
  refine done_then fun t he _ => ?_
  have hafter := (refreshDefects_touch v f.isLt).andThen he.touch (by decide)
  refine ⟨(hafter.flagRow _ f.isLt (by decide)).trans hlof2, (hafter.flagRow _ f.isLt (by decide)).trans hev2, fun h => ?_⟩
  exact (he.touch.flagRow _ f.isLt (by decide)).trans (refreshDefects_sf v f.isLt hlof2 ((hfec.get0 _ (by decide)).trans h))

theorem lofClear_clears (f : Fin 32) (s : State) (hsync : s.flag Reg.FRM_FR_STATUS_SYNC f.val = true) (hlof : s.flag Reg.FRM_FR_STATUS_LOF f.val = true)
    (hdue : (s.frmFur f.val).syncSince + 65000 * s.get Reg.FRM_CFG_LOF_CLR_FRAMES ≤ s.clock) :
    ∃ t, exec (.lofClear f) s = .next t ∧ t.flag Reg.FRM_FR_STATUS_LOF f.val = false ∧ t.flag Reg.FRM_FR_EVENTS_LOF_CLR f.val = true := by
  have hrun : exec (.lofClear f) s = done s (((s.set Reg.FRM_FR_STATUS_LOF 0 f.val).set Reg.FRM_FR_EVENTS_LOF_CLR 1 f.val).refreshDefects f.val) := by
    show execLofClear f s = _
    unfold execLofClear
    dsimp only
    rw [hsync, hlof, decide_eq_true (show (s.frmFur f.val).syncSince + usT 5 * s.get Reg.FRM_CFG_LOF_CLR_FRAMES ≤ s.clock from hdue)]
    rfl
  have hev : Touch [Reg.FRM_FR_EVENTS_LOF_CLR.patch 32] (s.set Reg.FRM_FR_STATUS_LOF 0 f.val) ((s.set Reg.FRM_FR_STATUS_LOF 0 f.val).set Reg.FRM_FR_EVENTS_LOF_CLR 1 f.val) :=
    (Touch.refl _ _).setRow f.isLt (by decide)
  have hlof1 : (s.set Reg.FRM_FR_STATUS_LOF 0 f.val).flag Reg.FRM_FR_STATUS_LOF f.val = false := flag_set_self _ _ _ _ _ (by decide)
  have hlof2 := (hev.flagRow Reg.FRM_FR_STATUS_LOF f.isLt (by decide)).trans hlof1
  have hev2 : ((s.set Reg.FRM_FR_STATUS_LOF 0 f.val).set Reg.FRM_FR_EVENTS_LOF_CLR 1 f.val).flag Reg.FRM_FR_EVENTS_LOF_CLR f.val = true := flag_set_self _ _ _ _ _ (by decide)
  rw [hrun]
  generalize (s.set Reg.FRM_FR_STATUS_LOF 0 f.val).set Reg.FRM_FR_EVENTS_LOF_CLR 1 f.val = v at hlof2 hev2
  refine done_then fun t he _ => ?_
  have hafter := (refreshDefects_touch v f.isLt).andThen he.touch (by decide)
  exact ⟨(hafter.flagRow _ f.isLt (by decide)).trans hlof2, (hafter.flagRow _ f.isLt (by decide)).trans hev2⟩

/-! ### A group's stream (R349–R354, R358, R359) -/

/-- What the bytes of a stream after its multiframe number write. -/
def streamPatches : List Patch :=
  [Reg.FRM_FR_STATUS_BDI_RX.patch 32, Reg.FRM_FR_EVENTS_BDI_RX.patch 32, Reg.TXF_STATUS_SWITCH_PENDING.patch 32, Reg.TXS_EVENTS_ADAPT_REFUSED.patch,
    Reg.SELF_STATUS_STATE.patch] ++ Cnt.TX_ADAPT_REFUSED.patches

/-- A step that writes nothing else, and leaves what the groups have received. -/
def StreamKept (s t : State) : Prop := Touch streamPatches s t ∧ t.frm.groups = s.frm.groups

namespace StreamKept

theorem refl (s : State) : StreamKept s s := ⟨.refl _ s, rfl⟩

theorem trans {s t u : State} (h : StreamKept s t) (k : StreamKept t u) : StreamKept s u := ⟨h.1.trans k.1, k.2.trans h.2⟩

theorem of_regs {s t : State} (h : t.regs = s.regs) (hg : t.frm.groups = s.frm.groups) : StreamKept s t := ⟨.of_regs h, hg⟩

theorem of_rest {s t : State} (h : Touch streamPatches s t) (k : RegsLogs s t) : StreamKept s t := ⟨h, k.keeps (fun s => s.frm.groups) fun _ _ _ => rfl⟩

theorem ite {c : Prop} [Decidable c] {s t u : State} (h : StreamKept s t) (k : StreamKept s u) : StreamKept s (if c then t else u) := by
  split
  · exact h
  · exact k

theorem foldl {α : Type} {g : State → α → State} {l : List α} (h : ∀ v, ∀ x ∈ l, StreamKept v (g v x)) (s : State) : StreamKept s (l.foldl g s) := by
  induction l generalizing s with
  | nil => exact refl s
  | cons x l ih => exact (h s x List.mem_cons_self).trans (ih (fun v y hy => h v y (List.mem_cons_of_mem x hy)) (g s x))

end StreamKept

theorem bdiRx_kept (s : State) {f : Nat} (hf : f < 32) (on : Bool) : StreamKept s (s.bdiRx f on) := by
  have hfur : ∀ x, StreamKept s (s.setFrmFur f x) := fun _ => .of_regs rfl rfl
  have hon : ∀ v : State, StreamKept v ((v.set Reg.FRM_FR_STATUS_BDI_RX 1 f).set Reg.FRM_FR_EVENTS_BDI_RX 1 f) := fun v =>
    .of_rest (((Touch.refl _ v).setRow hf (by decide)).setRow hf (by decide)) (((RegsLogs.refl v).set _ _ _ _).set _ _ _ _)
  have hoff : ∀ v : State, StreamKept v (v.set Reg.FRM_FR_STATUS_BDI_RX 0 f) := fun v => .of_rest ((Touch.refl _ v).setRow hf (by decide)) (regsLogs_set _ _ _ _ _)
  unfold State.bdiRx
  exact .ite ((hfur _).trans (hon _)) (.ite ((hfur _).trans (hoff _)) (hfur _))

theorem farRequest_kept (s : State) {f : Nat} (hf : f < 32) (h m8 : Nat) : StreamKept s (s.farRequest f h m8) := by
  have htx : ∀ (v : State) x, StreamKept v { v with tx := x } := fun _ _ => .of_regs rfl rfl
  have hpend : ∀ v : State, StreamKept v (v.set Reg.TXF_STATUS_SWITCH_PENDING 1 f) := fun v => .of_rest ((Touch.refl _ v).setRow hf (by decide)) (regsLogs_set _ _ _ _ _)
  have hrefuse : ∀ v : State, StreamKept v ((v.bump Cnt.TX_ADAPT_REFUSED).set Reg.TXS_EVENTS_ADAPT_REFUSED 1) := fun v =>
    .of_rest (((Touch.refl _ v).bump0 (by decide)).set0 (by decide)) (((RegsLogs.refl v).bump _ _ _ _).set _ _ _ _)
  unfold State.farRequest
  exact .ite (.refl s) (.ite (((htx _ _).trans (htx _ _)).trans (hpend _)) ((htx _ _).trans (hrefuse _)))

theorem modreqRx_kept (s : State) {f : Nat} (hf : f < 32) (v : Nat) : StreamKept s (s.modreqRx f v) := by
  have hno : StreamKept s (s.noRequest f) := .of_regs rfl rfl
  have hfur : ∀ (v : State) x, StreamKept v (v.setFur f x) := fun _ _ => .of_regs rfl rfl
  have h1 : StreamKept s (if 128 ≤ v / 2 ^ 24 then s.farRequest f (v / 2 ^ 24 % 128) (v / 2 ^ 16 % 2 ^ 8) else s.noRequest f) := .ite (farRequest_kept s hf _ _) hno
  unfold State.modreqRx
  dsimp only
  generalize (if 128 ≤ v / 2 ^ 24 then s.farRequest f (v / 2 ^ 24 % 128) (v / 2 ^ 16 % 2 ^ 8) else s.noRequest f) = s1 at h1
  cases (s1.fur f).pending with
  | none => exact h1
  | some q => exact .ite (h1.trans (hfur _ _)) h1

theorem leafBoundaryAt_kept (s : State) (k m started : Nat) : StreamKept s (s.leafBoundaryAt k m started) := by
  unfold State.leafBoundaryAt
  exact .ite (.of_regs rfl rfl) (.refl s)

theorem leafGrantRx_kept (s : State) (m type leaf furrow start len : Nat) : StreamKept s (s.leafGrantRx m type leaf furrow start len) := by
  have hself : ∀ (v : State) x, StreamKept v { v with self := x } := fun _ _ => .of_regs rfl rfl
  have hset : ∀ (v : State) x, StreamKept v (v.set Reg.SELF_STATUS_STATE x) := fun v _ => .of_rest ((Touch.refl _ v).set0 (by decide)) (regsLogs_set _ _ _ _ _)
  unfold State.leafGrantRx
  refine .ite ?_ (.ite ?_ (.refl s))
  · exact .ite (.ite (hset _ _) (.refl s)) (.ite (.trans (.ite (hset _ _) (.refl s)) (hself _ _)) (.trans (.ite (hset _ _) (.refl s)) (hself _ _)))
  · exact .trans (.trans (.ite (hset _ _) (.refl s)) (hself _ _)) (hself _ _)

theorem grantsRx_kept (s : State) (m n : Nat) (st : List (Option Byte)) : StreamKept s (s.grantsRx m n st) := by
  unfold State.grantsRx
  refine .foldl (fun v i _ => ?_) s
  split
  · exact leafGrantRx_kept _ _ _ _ _ _ _
  · exact .refl v

theorem groupFurrows_lt (s : State) {k f : Nat} (hk : k < 8) (h : f ∈ s.groupFurrows k) : f < 32 := by
  unfold State.groupFurrows at h
  split at h
  · simp at h
    omega
  · simp at h
    omega

theorem groupFurrows_nodup (s : State) (k : Nat) : (s.groupFurrows k).Nodup := by
  unfold State.groupFurrows
  split
  · simp
  · refine List.Nodup.map (fun a b h => ?_) List.nodup_range
    omega

theorem groupFurrows_head (s : State) (k : Nat) : (s.groupFurrows k).headD 0 ∈ s.groupFurrows k := by
  unfold State.groupFurrows
  split
  · simp
  · simp [List.range_succ]

theorem groupRx_setGroupRx (s : State) (k : Nat) (g : GroupRx) : (s.setGroupRx k g).groupRx k = g := tget_tput_self _ _ _ _

theorem groupRx_of_kept {s t : State} (h : StreamKept s t) (k : Nat) : t.groupRx k = s.groupRx k := congrArg (fun m => tget ({} : GroupRx) m k) h.2

/-- The BDI bits of a stream (R359). -/
def State.bdiBits (v : State) (fs : List Nat) (stream : List (Option Byte)) : State :=
  match unmarked stream 4 1 with
  | some st => fs.zipIdx.foldl (fun (s : State) (e : Nat × Nat) => s.bdiRx e.1 (bitsOf st e.2 1 == 1)) v
  | none => v

/-- The MODREQ bytes of a stream (R350). -/
def State.modreqWords (v : State) (fs : List Nat) (stream : List (Option Byte)) : State :=
  fs.zipIdx.foldl (fun (s : State) (e : Nat × Nat) =>
    match unmarked stream (5 + 4 * e.2) 4 with
    | some v => s.modreqRx e.1 v
    | none => s) v

/-- The grant entries of a stream, which a leaf of its group reads (R354). -/
def State.grantBytes (s v : State) (k m n : Nat) (stream : List (Option Byte)) : State :=
  if s.mode = 2 && k = s.get Reg.RX_CFG_LEAF_GROUP then v.grantsRx m n stream else v

/-- What follows the STATUS byte of a stream, out of LOM and with a number; its management bytes wait. -/
def State.streamRead (s v : State) (k started : Nat) (stream : List (Option Byte)) : Out :=
  match v.flag Reg.FRM_FR_STATUS_LOM ((s.groupFurrows k).headD 0), (v.groupRx k).mfn with
  | false, some m =>
    let s3 := (v.leafBoundaryAt k m (min started s.clock)).modreqWords (v.groupFurrows k) stream
    match unmarked stream 21 2 with
    | some gc =>
      let s4 := s.grantBytes s3 k m (gc % 512) stream
      done s (s4.setGroupRx k { s4.groupRx k with mgmt := stream.drop (23 + 6 * (gc % 512)), mgmtMfn := m })
    | none => done s (s3.setGroupRx k { s3.groupRx k with mgmt := [] })
  | _, _ => done s (v.setGroupRx k { v.groupRx k with mgmt := [] })

theorem multiframeStreamRx_eq {k : Fin 8} (raw : List (Option Byte)) (started : Nat) {s : State} (hcoh : s.coherent = true) (hany : ∃ g ∈ s.lineFurrows, g / 4 = k.val) :
    exec (.multiframeStreamRx k ⟨raw, started⟩) s = s.streamRead
      ((s.mfnCheck k.val (unmarked (s.heardStream k.val started raw) 0 4)).bdiBits (s.groupFurrows k.val) (s.heardStream k.val started raw)) k.val started
      (s.heardStream k.val started raw) := by
  have hany' : s.lineFurrows.any (fun f => decide (f / 4 = k.val)) = true := by simpa using hany
  show execMultiframeStreamRx k ⟨raw, started⟩ s = _
  unfold execMultiframeStreamRx
  dsimp only
  rw [hcoh, hany', if_neg (by decide)]
  rfl

section
variable (s v : State) {k : Nat} (hk : k < 8) (stream : List (Option Byte))
include hk

theorem bdiBits_kept : StreamKept v (v.bdiBits (s.groupFurrows k) stream) := by
  unfold State.bdiBits
  cases unmarked stream 4 1 with
  | none => exact .refl v
  | some st => exact .foldl (fun u e he => bdiRx_kept u (groupFurrows_lt s hk (List.fst_mem_of_mem_zipIdx he)) _) v

theorem modreqWords_kept : StreamKept v (v.modreqWords (s.groupFurrows k) stream) := by
  unfold State.modreqWords
  refine .foldl (fun u e he => ?_) v
  cases unmarked stream (5 + 4 * e.2) 4 with
  | none => exact .refl u
  | some x => exact modreqRx_kept u (groupFurrows_lt s hk (List.fst_mem_of_mem_zipIdx he)) x

omit hk in
theorem grantBytes_kept (m n : Nat) : StreamKept v (s.grantBytes v k m n stream) := .ite (grantsRx_kept v m n stream) (.refl v)

/-- The rest of a stream writes its own words, and keeps the group's number. -/
theorem streamRead_shows (started : Nat) : ∃ u, s.streamRead v k started stream = done s u ∧ Touch streamPatches v u ∧ (u.groupRx k).mfn = (v.groupRx k).mfn := by
  have hset : ∀ (u : State) x, StreamKept v u → x.mfn = (u.groupRx k).mfn → Touch streamPatches v (u.setGroupRx k x) ∧ ((u.setGroupRx k x).groupRx k).mfn = (v.groupRx k).mfn :=
    fun u x hu hx => ⟨hu.1.same rfl, by rw [groupRx_setGroupRx, hx, groupRx_of_kept hu]⟩
  unfold State.streamRead
  cases v.flag Reg.FRM_FR_STATUS_LOM ((s.groupFurrows k).headD 0) with
  | true => exact ⟨_, rfl, hset v _ (.refl v) rfl⟩
  | false =>
    cases hm : (v.groupRx k).mfn with
    | none => exact ⟨_, rfl, hm ▸ hset v _ (.refl v) rfl⟩
    | some m =>
      have h3 := (leafBoundaryAt_kept v k m (min started s.clock)).trans (modreqWords_kept v (v.leafBoundaryAt k m (min started s.clock)) hk stream)
      dsimp only
      cases unmarked stream 21 2 with
      | none => exact ⟨_, rfl, hm ▸ hset _ _ h3 rfl⟩
      | some gc => exact ⟨_, rfl, hm ▸ hset _ _ (h3.trans (grantBytes_kept s _ stream m _)) rfl⟩

end

/-! ### The multiframe number of a group (R358) -/

/-- A step that gives every furrow of a group the number `n`. -/
theorem onGroup_mfn (s : State) {k f n : Nat} (hk : k < 8) (hf : f ∈ s.groupFurrows k) (hn : n < 2 ^ 32) (g : State → Nat → State) (hg : ∀ v x, g v x = v.set Reg.MFN_RX_MFN n x) :
    (s.onGroup k g).get Reg.MFN_RX_MFN f = n := by
  have hlt : ∀ {x}, x ∈ s.groupFurrows k → x < 32 := fun h => groupFurrows_lt s hk h
  unfold State.onGroup
  refine foldl_reaches (P := fun _ => True) (Q := fun v => v.get Reg.MFN_RX_MFN f = n) hf (groupFurrows_nodup s k) (fun _ _ _ _ _ => trivial) (fun v _ => ?_)
    (fun x hx hne v hv => ?_) trivial
  · rw [hg, get_set_self _ _ _ _ _ (by decide)]
    exact Nat.mod_eq_of_lt hn
  · rw [hg, get_set_ne _ _ _ _ _ _ _ _ (by decide) (.inl (by simp only [Field.addr, Reg.MFN_RX_MFN]; omega))]
    exact hv

def mfnPatches : List Patch := [Reg.FRM_FR_STATUS_LOM.patch 32, Reg.MFN_RX_MFN.patch 32]

/-- Out of LOM, with the expected number or none, the number goes on by 1. -/
theorem mfnCheck_next {s : State} {k m : Nat} {rx : Option Nat} (hk : k < 8) (hlom : s.flag Reg.FRM_FR_STATUS_LOM ((s.groupFurrows k).headD 0) = false)
    (hm : (s.groupRx k).mfn = some m) (hrx : rx = none ∨ rx = some ((m + 1) % 2 ^ 32)) :
    (∀ f ∈ s.groupFurrows k, (s.mfnCheck k rx).get Reg.MFN_RX_MFN f = (m + 1) % 2 ^ 32) ∧ ((s.mfnCheck k rx).groupRx k).mfn = some ((m + 1) % 2 ^ 32) := by
  have hn : (m + 1) % 2 ^ 32 < 2 ^ 32 := Nat.mod_lt _ (by decide)
  have heq : s.mfnCheck k rx = (s.onGroup k (fun s f => s.set Reg.MFN_RX_MFN ((m + 1) % 2 ^ 32) f)).setGroupRx k { s.groupRx k with mfn := some ((m + 1) % 2 ^ 32), badRun := 0 } := by
    unfold State.mfnCheck
    dsimp only
    rw [hlom, hm, if_neg Bool.false_ne_true]
    dsimp only [Option.getD_some]
    obtain rfl | rfl := hrx
    · rfl
    · exact if_pos rfl
  rw [heq]
  exact ⟨fun f hf => onGroup_mfn s hk hf hn _ fun _ _ => rfl, by rw [groupRx_setGroupRx]⟩

/-- In LOM, two consecutive numbers end it. -/
theorem mfnCheck_found {s : State} {k m : Nat} (hk : k < 8) (hlom : s.flag Reg.FRM_FR_STATUS_LOM ((s.groupFurrows k).headD 0) = true) (hm : (s.groupRx k).last = some m) {f : Nat}
    (hf : f ∈ s.groupFurrows k) :
    (s.mfnCheck k (some ((m + 1) % 2 ^ 32))).get Reg.MFN_RX_MFN f = (m + 1) % 2 ^ 32 ∧ (s.mfnCheck k (some ((m + 1) % 2 ^ 32))).flag Reg.FRM_FR_STATUS_LOM f = false := by
  generalize hn : (m + 1) % 2 ^ 32 = n
  have hnlt : n < 2 ^ 32 := hn ▸ Nat.mod_lt _ (by decide)
  have heq : s.mfnCheck k (some n) = (s.setGroupRx k { s.groupRx k with mfn := some n, last := none, badRun := 0 }).onGroup k (fun s f =>
      (s.set Reg.FRM_FR_STATUS_LOM 0 f).set Reg.MFN_RX_MFN n f) := by
    unfold State.mfnCheck
    dsimp only
    rw [hlom, hm, if_pos rfl]
    exact if_pos hn.symm
  rw [heq]
  unfold State.onGroup
  refine foldl_reaches (P := fun _ => True) (Q := fun v => v.get Reg.MFN_RX_MFN f = n ∧ v.flag Reg.FRM_FR_STATUS_LOM f = false) hf (groupFurrows_nodup s k) (fun _ _ _ _ _ => trivial)
    (fun v _ => ⟨?_, ?_⟩) (fun x hx hne v hv => ⟨?_, ?_⟩) trivial
  · rw [get_set_self _ _ _ _ _ (by decide)]
    exact Nat.mod_eq_of_lt hnlt
  · have hflt := groupFurrows_lt s hk hf
    rw [flag_set_ne _ _ _ _ _ _ _ _ (by decide) (.inl (by simp only [Field.addr, Reg.MFN_RX_MFN, Reg.FRM_FR_STATUS_LOM]; omega)), flag_set_self _ _ _ _ _ (by decide)]
    rfl
  · have hflt := groupFurrows_lt s hk hf
    have hxlt := groupFurrows_lt s hk hx
    rw [get_set_ne _ _ _ _ _ _ _ _ (by decide) (.inl (by simp only [Field.addr, Reg.MFN_RX_MFN]; omega)),
      get_set_ne _ _ _ _ _ _ _ _ (by decide) (.inl (by simp only [Field.addr, Reg.MFN_RX_MFN, Reg.FRM_FR_STATUS_LOM]; omega))]
    exact hv.1
  · have hflt := groupFurrows_lt s hk hf
    have hxlt := groupFurrows_lt s hk hx
    rw [flag_set_ne _ _ _ _ _ _ _ _ (by decide) (.inl (by simp only [Field.addr, Reg.MFN_RX_MFN, Reg.FRM_FR_STATUS_LOM]; omega)),
      flag_set_ne _ _ _ _ _ _ _ _ (by decide) (.inl (by simp only [Field.addr, Reg.FRM_FR_STATUS_LOM]; omega))]
    exact hv.2

/-- What a heard stream leaves of the check of its number. -/
theorem multiframeStreamRx_ends {k : Fin 8} (raw : List (Option Byte)) (started : Nat) {s : State} (hcoh : s.coherent = true) (hany : ∃ g ∈ s.lineFurrows, g / 4 = k.val)
    {rx : Option Nat} (hrx : unmarked (s.heardStream k.val started raw) 0 4 = rx) :
    ∃ t, exec (.multiframeStreamRx k ⟨raw, started⟩) s = .next t ∧ Touch streamPatches (s.mfnCheck k.val rx) t ∧ (t.groupRx k.val).mfn = ((s.mfnCheck k.val rx).groupRx k.val).mfn := by
  rw [multiframeStreamRx_eq raw started hcoh hany, hrx]
  have hbits := bdiBits_kept s (s.mfnCheck k.val rx) k.isLt (s.heardStream k.val started raw)
  obtain ⟨u, hu, htouch, hmfn⟩ := streamRead_shows s ((s.mfnCheck k.val rx).bdiBits (s.groupFurrows k.val) (s.heardStream k.val started raw)) k.isLt (s.heardStream k.val started raw) started
  rw [hu]
  refine done_then fun t he _ => ⟨(hbits.1.trans htouch).andThen he.touch (by decide), ?_⟩
  have hgroup : t.groupRx k.val = u.groupRx k.val := he.keeps (fun s => s.groupRx k.val) fun _ _ _ _ _ _ _ => rfl
  rw [hgroup, hmfn, groupRx_of_kept hbits]

/-! ### Management messages (R353, R354, R380) -/

def leafMessagePatches : List Patch :=
  [Reg.SELF_STATUS_LEAF.patch, Reg.SELF_STATUS_LEAF_VALID.patch, Reg.SELF_STATUS_STATE.patch, Reg.TXS_EVENTS_GATE_CLAMP.patch] ++ Cnt.GATE_CLAMPS.patches

theorem leafMessage_touch (s : State) (m type : Nat) (p : List Byte) : Touch leafMessagePatches s (s.leafMessage m type p) := by
  have hself : ∀ (v : State) x, Touch leafMessagePatches v { v with self := x } := fun _ _ => .of_regs rfl
  unfold State.leafMessage
  dsimp only
  split
  · exact .ite (fun _ => ((hself _ _).bump0 (by decide)).set0 (by decide)) fun _ => hself _ _
  · refine .ite (fun _ => ?_) fun _ => .refl _ s
    have h1 : Touch leafMessagePatches s ((s.set Reg.SELF_STATUS_LEAF (be 2 p 8)).set Reg.SELF_STATUS_LEAF_VALID 1) := ((Touch.refl _ s).set0 (by decide)).set0 (by decide)
    exact (h1.trans (.ite (fun _ => (Touch.refl _ _).set0 (by decide)) fun _ => .refl _ _)).trans ((hself _ _).trans (hself _ _))
  · exact .ite (fun _ => hself _ _) fun _ => .refl _ s
  · exact .ite (fun _ => hself _ _) fun _ => .refl _ s
  · exact .ite (fun _ => ((Touch.refl _ s).set0 (by decide)).trans (hself _ _)) fun _ => .refl _ s
  · exact .refl _ s

theorem groupRx_of_regsLogs {s t : State} (h : RegsLogs s t) (k : Nat) : t.groupRx k = s.groupRx k := h.keeps (fun s => s.groupRx k) fun _ _ _ => rfl

section
variable {k : Fin 8} {ty n : Byte} {body : List (Option Byte)} {s : State} (hmgmt : (s.groupRx k.val).mgmt = some ty :: some n :: body) (hty : ty ≠ 0)
include hmgmt hty

/-- The state in which the message has been passed over. -/
theorem mgmtMessageRx_eq {want : Nat} (hwant : mgmtLen ty.toNat = some want) {v : State} (hv : s.setGroupRx k.val { s.groupRx k.val with mgmt := body.drop n.toNat } = v) :
    ((want ≠ n.toNat || (body.take n.toNat).length < n.toNat || (body.take n.toNat).any Option.isNone) = true → exec (.mgmtMessageRx k) s = done s (v.bump Cnt.MGMT_DROPS)) ∧
    ((want ≠ n.toNat || (body.take n.toNat).length < n.toNat || (body.take n.toNat).any Option.isNone) = false →
      exec (.mgmtMessageRx k) s = done s (if s.mode = 2 then (v.bump Cnt.MGMT_RX).leafMessage (s.groupRx k.val).mgmtMfn ty.toNat ((body.take n.toNat).map (fun o => o.getD 0))
        else v.bump Cnt.MGMT_RX)) := by
  refine ⟨fun h => ?_, fun h => ?_⟩
  all_goals
    show execMgmtMessageRx k s = _
    unfold execMgmtMessageRx
    dsimp only
    rw [hmgmt]
    dsimp only
    rw [if_neg hty]
    rw [hwant, hv]
    dsimp only
    rw [h]
    rfl

theorem mgmtMessageRx_counts (hlen : mgmtLen ty.toNat = some n.toNat) (hbody : n.toNat ≤ body.length) (hwhole : ∀ x ∈ body.take n.toNat, x ≠ none) :
    ∃ t, exec (.mgmtMessageRx k) s = .next t ∧ Counted Cnt.MGMT_RX 0 0 1 s t ∧ (s.mode ≠ 2 → (t.groupRx k.val).mgmt = body.drop n.toNat) := by
  generalize hv : s.setGroupRx k.val { s.groupRx k.val with mgmt := body.drop n.toNat } = v
  have hok : (n.toNat ≠ n.toNat || (body.take n.toNat).length < n.toNat || (body.take n.toNat).any Option.isNone) = false := by
    have hany : (body.take n.toNat).any Option.isNone = false := by
      rw [List.any_eq_false]
      exact fun x hx h => hwhole x hx (Option.isNone_iff_eq_none.mp h)
    rw [hany]
    simp [hbody]
  rw [(mgmtMessageRx_eq hmgmt hty hlen hv).2 hok]
  have hregs : Touch [] s v := .of_regs (hv ▸ rfl)
  refine done_then fun t he _ => ⟨?_, fun hmode => ?_⟩
  · have hafter : Touch leafMessagePatches (v.bump Cnt.MGMT_RX) t := .andThen (.ite (fun _ => leafMessage_touch _ _ _ _) fun _ => .refl _ _) he.touch (by decide)
    exact hregs.counted_of (hafter.counted (counted_bump v Cnt.MGMT_RX 0 0 1 (.inl rfl)) (by decide) (by decide)) (by decide) (by decide)
  · rw [if_neg hmode] at he
    have hgroup : t.groupRx k.val = (v.bump Cnt.MGMT_RX).groupRx k.val := he.keeps (fun s => s.groupRx k.val) fun _ _ _ _ _ _ _ => rfl
    rw [hgroup, groupRx_of_regsLogs (regsLogs_bump _ _ _ _ _), ← hv, groupRx_setGroupRx]

theorem mgmtMessageRx_drops {want : Nat} (hwant : mgmtLen ty.toNat = some want) (hne : want ≠ n.toNat) :
    ∃ t, exec (.mgmtMessageRx k) s = .next t ∧ Counted Cnt.MGMT_DROPS 0 0 1 s t ∧ (t.groupRx k.val).mgmt = body.drop n.toNat := by
  generalize hv : s.setGroupRx k.val { s.groupRx k.val with mgmt := body.drop n.toNat } = v
  rw [(mgmtMessageRx_eq hmgmt hty hwant hv).1 (by simp [hne])]
  have hregs : Touch [] s v := .of_regs (hv ▸ rfl)
  refine done_then fun t he _ => ⟨?_, ?_⟩
  · exact hregs.counted_of (he.touch.counted (counted_bump v Cnt.MGMT_DROPS 0 0 1 (.inl rfl)) (by decide) (by decide)) (by decide) (by decide)
  · have hgroup : t.groupRx k.val = (v.bump Cnt.MGMT_DROPS).groupRx k.val := he.keeps (fun s => s.groupRx k.val) fun _ _ _ _ _ _ _ => rfl
    rw [hgroup, groupRx_of_regsLogs (regsLogs_bump _ _ _ _ _), ← hv, groupRx_setGroupRx]

end

theorem mgmtMessageRx_stops {k : Fin 8} {rest : List (Option Byte)} {s : State} (hmgmt : (s.groupRx k.val).mgmt = some 0 :: rest) :
    ∃ t, exec (.mgmtMessageRx k) s = .next t ∧ (t.groupRx k.val).mgmt = [] ∧ RegsKept [] s t := by
  have hrun : exec (.mgmtMessageRx k) s = done s (s.setGroupRx k.val { s.groupRx k.val with mgmt := [] }) := by
    show execMgmtMessageRx k s = _
    unfold execMgmtMessageRx
    dsimp only
    rw [hmgmt]
    rfl
  rw [hrun]
  refine done_then fun t he _ => ⟨?_, he.kept⟩
  have hgroup : t.groupRx k.val = (s.setGroupRx k.val { s.groupRx k.val with mgmt := [] }).groupRx k.val := he.keeps (fun s => s.groupRx k.val) fun _ _ _ _ _ _ _ => rfl
  rw [hgroup, groupRx_setGroupRx]

/-- Settles O47. -/
theorem framesAreFoundLostAndRead : Obligations.FramesAreFoundLostAndRead := by
  unfold Obligations.FramesAreFoundLostAndRead
  refine ⟨fun f bits s => frameHuntWord_hunts f bits s, fun f w rest pq s => frameReceived_counts f w rest pq s, fun f faws pq s => frameReceived_discards f faws pq s,
    fun f s => lofSet_sets f s, fun f s => lofClear_clears f s, fun k raw stream started f m s hstream hcoh hany hf hlt hlom hm hrx => ?_,
    fun k raw stream started f m s hstream hcoh hany hf hlt hlom hm hrx => ?_,
    fun k ty n body s hmgmt hty => ⟨mgmtMessageRx_counts hmgmt hty, fun want => mgmtMessageRx_drops hmgmt hty⟩, fun k rest s hmgmt => mgmtMessageRx_stops hmgmt⟩
  · obtain ⟨t, hrun, htouch, hmfn⟩ := multiframeStreamRx_ends raw started hcoh hany rfl
    obtain ⟨hget, hnext⟩ := mfnCheck_next k.isLt hlom hm (hstream ▸ hrx)
    exact ⟨t, hrun, (htouch.getRow _ hlt (by decide)).trans (hget f hf), hmfn.trans hnext⟩
  · obtain ⟨t, hrun, htouch, -⟩ := multiframeStreamRx_ends raw started hcoh hany (hstream ▸ hrx)
    obtain ⟨hget, hflag⟩ := mfnCheck_found k.isLt hlom hm hf
    exact ⟨t, hrun, (htouch.flagRow _ hlt (by decide)).trans hflag, (htouch.getRow _ hlt (by decide)).trans hget⟩

end Sys2Proof.Machine
end

section
/-! SUPPORT. Acquisition, loss of lock and gain (R150–R183): the lemmas that the obligation on the furrows' locks rests on, and its proof. -/

namespace Sys2Proof.Machine

/-! ### What a furrow's lock loss leaves (R157, R167, R314, R357) -/

/-- Only registers, log, decoder, deframer, the leaf's own state and the timing block differ. -/
def RxRest (s t : State) : Prop :=
  ∃ r l fe fr se ti o n, t = { s with regs := r, logs := l, fec := fe, frm := fr, self := se, tim := ti, timeOff := o, fresh := n }

namespace RxRest

variable {s t u : State}

theorem refl (s : State) : RxRest s s := ⟨s.regs, s.logs, s.fec, s.frm, s.self, s.tim, s.timeOff, s.fresh, rfl⟩

theorem trans (h : RxRest s t) (k : RxRest t u) : RxRest s u := by
  obtain ⟨r, l, fe, fr, se, ti, o, n, rfl⟩ := h
  obtain ⟨r', l', fe', fr', se', ti', o', n', rfl⟩ := k
  exact ⟨r', l', fe', fr', se', ti', o', n', rfl⟩

theorem of_regsLogs (h : RegsLogs s t) : RxRest s t := by
  obtain ⟨r, l, b, rfl⟩ := h
  exact ⟨r, l, s.fec, s.frm, { s.self with sent := b }, s.tim, s.timeOff, s.fresh, rfl⟩

theorem of_tim (h : TimOnly s t) : RxRest s t := by
  obtain ⟨r, l, x, o, n, rfl⟩ := h
  exact ⟨r, l, s.fec, s.frm, s.self, x, o, n, rfl⟩

theorem ite {c : Prop} [Decidable c] (h : RxRest s t) (k : RxRest s u) : RxRest s (if c then t else u) := by
  split
  · exact h
  · exact k

theorem set (h : RxRest s t) (f : Field) (v i j : Nat) : RxRest s (t.set f v i j) := h.trans (of_regsLogs (regsLogs_set _ _ _ _ _))

theorem bump (h : RxRest s t) (c : Ctr) (i j n : Nat) : RxRest s (t.bump c i j n) := h.trans (of_regsLogs (regsLogs_bump _ _ _ _ _))

theorem withFec (h : RxRest s t) (x : Tab FecFurrow) : RxRest s { t with fec := x } := h.trans ⟨t.regs, t.logs, x, t.frm, t.self, t.tim, t.timeOff, t.fresh, rfl⟩

theorem withFrm (h : RxRest s t) (x : FrmState) : RxRest s { t with frm := x } := h.trans ⟨t.regs, t.logs, t.fec, x, t.self, t.tim, t.timeOff, t.fresh, rfl⟩

theorem withSelf (h : RxRest s t) (x : LeafSelf) : RxRest s { t with self := x } := h.trans ⟨t.regs, t.logs, t.fec, t.frm, x, t.tim, t.timeOff, t.fresh, rfl⟩

theorem keeps {β : Type} (h : RxRest s t) (π : State → β)
    (hπ : ∀ (z : State) r l fe fr se ti o n, π { z with regs := r, logs := l, fec := fe, frm := fr, self := se, tim := ti, timeOff := o, fresh := n } = π z) : π t = π s := by
  obtain ⟨r, l, fe, fr, se, ti, o, n, rfl⟩ := h
  exact hπ s r l fe fr se ti o n

theorem mbs (h : RxRest s t) : t.mbs = s.mbs := h.keeps State.mbs fun _ _ _ _ _ _ _ _ _ => rfl

theorem rx (h : RxRest s t) : t.rx = s.rx := h.keeps State.rx fun _ _ _ _ _ _ _ _ _ => rfl

theorem fur (h : RxRest s t) (f : Nat) : t.fur f = s.fur f := congrArg (fun x : RxState => tget ({} : FurrowRx) x.furrows f) h.rx

end RxRest

theorem refreshLineLock_rest (s : State) : RxRest s s.refreshLineLock := .ite (((RxRest.refl s).set _ _ _ _).set _ _ _ _) ((RxRest.refl s).set _ _ _ _)

theorem cutBurst_self (s : State) : ∃ x, s.cutBurst = { s with self := x } := ⟨_, rfl⟩

theorem leafLockChange_rest (s : State) : RxRest s s.leafLockChange := by
  unfold State.leafLockChange
  refine .ite (.refl s) (.ite (.ite ((RxRest.refl s).set _ _ _ _) (.refl s)) (.ite (.refl s) ?_))
  exact ((RxRest.refl s).set Reg.SELF_STATUS_STATE 1 0 0).withSelf _

theorem outOfFrame_rest (s : State) (f : Nat) : RxRest s (s.outOfFrame f) := by
  have hhunt : ∀ x, RxRest s (((s.set Reg.FRM_FR_STATUS_SYNC 0 f).set Reg.FRM_FR_STATUS_CANDS 0 f).setFrmFur f x) := fun x =>
    (((RxRest.refl s).set Reg.FRM_FR_STATUS_SYNC 0 f 0).set Reg.FRM_FR_STATUS_CANDS 0 f 0).withFrm _
  have hoof : ∀ v : State, RxRest v (((v.set Reg.FRM_FR_STATUS_OOF 1 f).bump Cnt.OOF_EVENTS f).set Reg.FRM_FR_EVENTS_OOF 1 f) := fun v =>
    (((RxRest.refl v).set _ _ _ _).bump _ _ _ _).set _ _ _ _
  unfold State.outOfFrame
  exact ((RxRest.ite (hhunt _) ((hhunt _).trans (hoof _))).trans (leafLockChange_rest _)).trans (refreshLineLock_rest _)

theorem startHunt_rest (s : State) (f : Nat) : RxRest s (s.startHunt f) := by
  unfold State.startHunt
  exact .ite (.refl s) (((RxRest.refl s).set Reg.FEC_FR_STATUS_HUNT 1 f 0).withFec _)

theorem cwLoss_rest (s : State) (f reason : Nat) : RxRest s (s.cwLoss f reason) := by
  have hset : ∀ (v : State) x, RxRest v (v.setFecFur f x) := fun v _ => (RxRest.refl v).withFec _
  have hhunt : ∀ v : State, RxRest v (v.huntAgain f) := fun v => .ite (startHunt_rest v f) ((RxRest.refl v).set _ _ _ _)
  rw [cwLoss_eq]
  exact (((RxRest.of_regsLogs (cwLockFalls_regsLogs s f reason)).trans (hset _ _)).trans (hhunt _)).trans (outOfFrame_rest _ f)

theorem refreshDefects_rest (s : State) (f : Nat) : RxRest s (s.refreshDefects f) := ((RxRest.refl s).set _ _ _ _).set _ _ _ _

theorem refreshRefs_rest (s : State) : RxRest s s.refreshRefs := .of_tim (refreshRefs_only s)

/-- The figures of R171 that read invalid. -/
def figurePatches : List Patch :=
  [Reg.FR_SNR_SNR.patch 32, Reg.FR_SNR_OSNR.patch 32, Reg.FR_SNR_XY_X.patch 32, Reg.FR_SNR_XY_Y.patch 32, Reg.FR_CD_EST_CD.patch 32, Reg.FR_DGD_DGD.patch 32,
    Reg.FR_DGD_PDL.patch 32, Reg.FR_FREQ_OFS_F.patch 32, Reg.FR_PREFEC_BER_BER.patch 32]

theorem invalidFigures_touch (s : State) {f : Nat} (hf : f < 32) : Touch figurePatches s (s.invalidFigures f) :=
  (((((((((Touch.refl _ s).setRow hf (by decide)).setRow hf (by decide)).setRow hf (by decide)).setRow hf (by decide)).setRow hf (by decide)).setRow hf (by decide)).setRow hf
    (by decide)).setRow hf (by decide)).setRow hf (by decide)

theorem invalidFigures_rest (s : State) (f : Nat) : RxRest s (s.invalidFigures f) :=
  (((((((((RxRest.refl s).set _ _ _ _).set _ _ _ _).set _ _ _ _).set _ _ _ _).set _ _ _ _).set _ _ _ _).set _ _ _ _).set _ _ _ _).set _ _ _ _

/-- Where a furrow's lock bits of clock recovery and equaliser have been cleared as asked. -/
def State.locksCleared (s : State) (f : Nat) (clk eq : Bool) : State :=
  let s1 := if clk then s.set Reg.FR_STATUS_CLK_LOCK 0 f else s
  if eq then s1.set Reg.FR_STATUS_EQ_LOCK 0 f else s1

/-- The furrow leaves CAR_LOCK, its codewords and its frames go with it. -/
def State.carrierLost (s : State) (f cw : Nat) (x : FurrowRx) : State :=
  (((((s.set Reg.FR_STATUS_CAR_LOCK 0 f).setFur f x).cwLoss f cw).refreshDefects f).invalidFigures f).refreshRefs

theorem dropLocks_eq (s : State) (f : Nat) (clk eq : Bool) (cw : Nat) :
    s.dropLocks f clk eq cw = if !s.flag Reg.FR_STATUS_CAR_LOCK f then (s.locksCleared f clk eq).refreshRefs
      else (s.locksCleared f clk eq).carrierLost f cw { s.fur f with upSince := none } := by
  unfold State.dropLocks State.locksCleared State.carrierLost
  rfl

def lockBitPatches : List Patch := [Reg.FR_STATUS_CLK_LOCK.patch 32, Reg.FR_STATUS_EQ_LOCK.patch 32]

def carrierPatches : List Patch :=
  Reg.FR_STATUS_CAR_LOCK.patch 32 :: cwLossPatches ++ [Reg.FRM_FR_STATUS_SF.patch 32, Reg.FRM_FR_STATUS_SD.patch 32] ++ figurePatches ++ timingPage

theorem locksCleared_touch (s : State) {f : Nat} (hf : f < 32) (clk eq : Bool) : Touch lockBitPatches s (s.locksCleared f clk eq) := by
  unfold State.locksCleared
  have h1 : Touch lockBitPatches s (if clk then s.set Reg.FR_STATUS_CLK_LOCK 0 f else s) := .ite (fun _ => (Touch.refl _ s).setRow hf (by decide)) fun _ => .refl _ s
  exact .ite (fun _ => h1.setRow hf (by decide)) fun _ => h1

theorem locksCleared_rest (s : State) (f : Nat) (clk eq : Bool) : RegsLogs s (s.locksCleared f clk eq) := by
  unfold State.locksCleared
  have h1 : RegsLogs s (if clk then s.set Reg.FR_STATUS_CLK_LOCK 0 f else s) := .ite (regsLogs_set _ _ _ _ _) (.refl s)
  exact .ite (h1.set _ _ _ _) h1

theorem locksCleared_flags (s : State) {f : Nat} (hf : f < 32) (clk eq : Bool) :
    (s.locksCleared f clk eq).flag Reg.FR_STATUS_CLK_LOCK f = (!clk && s.flag Reg.FR_STATUS_CLK_LOCK f) ∧
      (s.locksCleared f clk eq).flag Reg.FR_STATUS_EQ_LOCK f = (!eq && s.flag Reg.FR_STATUS_EQ_LOCK f) := by
  have hzero : ∀ (v : State) (g : Field), g.lo + g.width ≤ 32 → (v.set g 0 f).flag g f = false := fun v g hg => by
    rw [flag_set_self _ _ _ _ _ hg]
    simp
  have heq : ∀ v : State, Touch [Reg.FR_STATUS_EQ_LOCK.patch 32] v (v.set Reg.FR_STATUS_EQ_LOCK 0 f) := fun v => (Touch.refl _ v).setRow hf (by decide)
  have hclk : ∀ v : State, Touch [Reg.FR_STATUS_CLK_LOCK.patch 32] v (v.set Reg.FR_STATUS_CLK_LOCK 0 f) := fun v => (Touch.refl _ v).setRow hf (by decide)
  have hc : ∀ v : State, (v.set Reg.FR_STATUS_CLK_LOCK 0 f).flag Reg.FR_STATUS_CLK_LOCK f = false := fun v => hzero v _ (by decide)
  have he : ∀ v : State, (v.set Reg.FR_STATUS_EQ_LOCK 0 f).flag Reg.FR_STATUS_EQ_LOCK f = false := fun v => hzero v _ (by decide)
  have hce : ∀ v : State, (v.set Reg.FR_STATUS_EQ_LOCK 0 f).flag Reg.FR_STATUS_CLK_LOCK f = v.flag Reg.FR_STATUS_CLK_LOCK f := fun v => (heq v).flagRow _ hf (by decide)
  have hec : ∀ v : State, (v.set Reg.FR_STATUS_CLK_LOCK 0 f).flag Reg.FR_STATUS_EQ_LOCK f = v.flag Reg.FR_STATUS_EQ_LOCK f := fun v => (hclk v).flagRow _ hf (by decide)
  unfold State.locksCleared
  cases clk with
  | true =>
    cases eq with
    | true => exact ⟨(hce _).trans (hc s), he _⟩
    | false => exact ⟨hc s, hec s⟩
  | false =>
    cases eq with
    | true => exact ⟨hce s, he s⟩
    | false => exact ⟨rfl, rfl⟩

theorem carrierLost_touch (s : State) {f : Nat} (hf : f < 32) (cw : Nat) (x : FurrowRx) : Touch carrierPatches s (s.carrierLost f cw x) := by
  have hfur : Touch carrierPatches s ((s.set Reg.FR_STATUS_CAR_LOCK 0 f).setFur f x) := ((Touch.refl _ s).setRow hf (by decide)).same rfl
  exact (((hfur.andThen (cwLoss_touch _ hf cw) (by decide)).andThen (refreshDefects_touch _ hf) (by decide)).andThen (invalidFigures_touch _ hf) (by decide)).andThen
    (refreshRefs_touch _) (by decide)

theorem carrierLost_car (s : State) {f : Nat} (hf : f < 32) (cw : Nat) (x : FurrowRx) : (s.carrierLost f cw x).flag Reg.FR_STATUS_CAR_LOCK f = false := by
  have hset : ((s.set Reg.FR_STATUS_CAR_LOCK 0 f).setFur f x).flag Reg.FR_STATUS_CAR_LOCK f = false := by
    rw [setFur_flag, flag_set_self _ _ _ _ _ (by decide)]
    rfl
  have hrest : Touch (cwLossPatches ++ [Reg.FRM_FR_STATUS_SF.patch 32, Reg.FRM_FR_STATUS_SD.patch 32] ++ figurePatches ++ timingPage)
      ((s.set Reg.FR_STATUS_CAR_LOCK 0 f).setFur f x) (s.carrierLost f cw x) :=
    ((((cwLoss_touch _ hf cw).mono (by decide)).andThen (refreshDefects_touch _ hf) (by decide)).andThen (invalidFigures_touch _ hf) (by decide)).andThen
      (refreshRefs_touch _) (by decide)
  exact (hrest.flagRow _ hf (by decide)).trans hset

theorem carrierLost_rest (s : State) (f cw : Nat) (x : FurrowRx) : RxRest (s.setFur f x) (s.carrierLost f cw x) := by
  have hset : RxRest (s.setFur f x) ((s.set Reg.FR_STATUS_CAR_LOCK 0 f).setFur f x) := ⟨_, s.logs, s.fec, s.frm, s.self, s.tim, s.timeOff, s.fresh, rfl⟩
  exact (((hset.trans (cwLoss_rest _ f cw)).trans (refreshDefects_rest _ f)).trans (invalidFigures_rest _ f)).trans (refreshRefs_rest _)

theorem dropLocks_touch (s : State) {f : Nat} (hf : f < 32) (clk eq : Bool) (cw : Nat) : Touch carrierPatches (s.locksCleared f clk eq) (s.dropLocks f clk eq cw) := by
  rw [dropLocks_eq]
  exact .ite (fun _ => (refreshRefs_touch _).mono (by decide)) fun _ => carrierLost_touch _ hf _ _

/-- The lock bits of a furrow that left CAR_LOCK (R157, R167). -/
theorem dropLocks_flags (s : State) {f : Nat} (hf : f < 32) (clk eq : Bool) (cw : Nat) :
    (s.dropLocks f clk eq cw).flag Reg.FR_STATUS_CLK_LOCK f = (!clk && s.flag Reg.FR_STATUS_CLK_LOCK f) ∧
      (s.dropLocks f clk eq cw).flag Reg.FR_STATUS_EQ_LOCK f = (!eq && s.flag Reg.FR_STATUS_EQ_LOCK f) ∧ (s.dropLocks f clk eq cw).flag Reg.FR_STATUS_CAR_LOCK f = false := by
  have h := dropLocks_touch s hf clk eq cw
  obtain ⟨hclk, heq⟩ := locksCleared_flags s hf clk eq
  refine ⟨(h.flagRow _ hf (by decide)).trans hclk, (h.flagRow _ hf (by decide)).trans heq, ?_⟩
  rw [dropLocks_eq]
  cases hcar : s.flag Reg.FR_STATUS_CAR_LOCK f with
  | true => exact carrierLost_car _ hf _ _
  | false =>
    refine ((refreshRefs_touch _).flagRow _ hf (by decide)).trans ?_
    rw [(locksCleared_touch s hf clk eq).flagRow _ hf (by decide), hcar]

/-! ### One furrow's step of acquisition (R161, R163, R168) -/

/-- Of the receiver's state only furrow `f` differs, where `P` holds now; the mailboxes stay. -/
structure FurStep (f : Nat) (P : FurrowRx → Prop) (s t : State) : Prop where
  rx : ∃ m, t.rx = { s.rx with furrows := m }
  here : P (t.fur f)
  other : ∀ g, g ≠ f → t.fur g = s.fur g
  mbs : t.mbs = s.mbs

theorem fur_setFur_self (s : State) (f : Nat) (x : FurrowRx) : (s.setFur f x).fur f = x := tget_tput_self ({} : FurrowRx) s.rx.furrows f x

theorem fur_setFur_ne (s : State) {f g : Nat} (x : FurrowRx) (h : g ≠ f) : (s.setFur f x).fur g = s.fur g := tget_tput_ne _ _ _ _ h

theorem fur_congr {s t : State} (h : t.rx = s.rx) (f : Nat) : t.fur f = s.fur f := congrArg (fun x : RxState => tget ({} : FurrowRx) x.furrows f) h

namespace FurStep

variable {f : Nat} {P Q : FurrowRx → Prop} {s t u : State}

theorem setFur (s : State) {x : FurrowRx} (h : P x) : FurStep f P s (s.setFur f x) where
  rx := ⟨_, rfl⟩
  here := (fur_setFur_self s f x).symm ▸ h
  other _ hg := fur_setFur_ne s x hg
  mbs := rfl

theorem andThen (h : FurStep f P s t) (k : FurStep f Q t u) : FurStep f Q s u where
  rx := by
    obtain ⟨m, hm⟩ := h.rx
    obtain ⟨n, hn⟩ := k.rx
    exact ⟨n, hn.trans (hm ▸ rfl)⟩
  here := k.here
  other g hg := (k.other g hg).trans (h.other g hg)
  mbs := k.mbs.trans h.mbs

theorem andRest (h : FurStep f P s t) (k : RxRest t u) : FurStep f P s u where
  rx := k.rx ▸ h.rx
  here := k.fur f ▸ h.here
  other g hg := (k.fur g).trans (h.other g hg)
  mbs := k.mbs.trans h.mbs

theorem of_rest (k : RxRest s t) (h : P (s.fur f)) : FurStep f P s t where
  rx := ⟨_, k.rx⟩
  here := k.fur f ▸ h
  other g _ := k.fur g
  mbs := k.mbs

end FurStep

theorem withdrawLost_fur (s : State) (f : Nat) : FurStep f (fun _ => True) s (s.withdrawLost f) := by
  unfold State.withdrawLost State.withdraw
  by_cases h : (s.fur f).pending.isSome = true
  · rw [if_pos h]
    exact (FurStep.setFur s trivial).andRest (((RxRest.refl _).set _ _ _ _).bump _ _ _ _)
  · rw [if_neg h]
    exact .of_rest (.refl s) trivial

theorem dropLocks_fur (s : State) (f : Nat) (clk eq : Bool) (cw : Nat) : FurStep f (fun _ => True) s (s.dropLocks f clk eq cw) := by
  have hclear : FurStep f (fun _ => True) s (s.locksCleared f clk eq) := .of_rest (.of_regsLogs (locksCleared_rest s f clk eq)) trivial
  rw [dropLocks_eq]
  split
  · exact hclear.andRest (refreshRefs_rest _)
  · exact hclear.andThen ((FurStep.setFur _ trivial).andRest (carrierLost_rest _ f cw _))

theorem leaveLock_fur (s : State) (f : Nat) (clk eq : Bool) : FurStep f (fun _ => True) s (s.leaveLock f clk eq) :=
  (withdrawLost_fur s f).andThen (dropLocks_fur _ f clk eq 3)

theorem loseLock_fur (s : State) (f cond cw : Nat) : FurStep f (fun _ => True) s (s.loseLock f cond cw) := by
  have hlog : RegsLogs s (((s.bump Cnt.LOCK_LOSSES f).set Reg.FR_EVENTS_LOCK_LOST 1 f).logLost f cond) := (((RegsLogs.refl s).bump _ _ _ _).set _ _ _ _).log _ _ _
  exact ((FurStep.of_rest (P := fun _ => True) (.of_regsLogs hlog) trivial).andThen (withdrawLost_fur _ f)).andThen (dropLocks_fur _ f _ _ cw)

/-- What a furrow's part of a receiver shows as its acquisition begins at a step. -/
def Began (step : Nat) (fast : Bool) (x : FurrowRx) : Prop := x.step = step ∧ x.fast = fast

theorem beginFurrow_fur (s : State) (f step : Nat) (fast : Bool) : FurStep f (Began step fast) s (s.beginFurrow f step fast) := by
  unfold State.beginFurrow
  exact (FurStep.setFur (P := Began step fast) s ⟨rfl, rfl⟩).andRest ((RxRest.refl _).set _ _ _ _)

theorem startFullFurrow_fur (s : State) (f : Nat) : FurStep f (Began 1 false) s (s.startFullFurrow f) :=
  ((leaveLock_fur s f true true).andThen (beginFurrow_fur _ f 1 false)).andRest (refreshLineLock_rest _)

theorem startFast_fur (s : State) (f : Nat) : FurStep f (Began 3 true) s (s.startFast f) :=
  ((leaveLock_fur s f false false).andThen (beginFurrow_fur _ f 3 true)).andRest ((RxRest.refl _).bump _ _ _ _)

theorem setAcqState_rest (s : State) (v : Nat) : RxRest s (s.setAcqState v) := ((RxRest.refl s).set _ _ _ _).trans (refreshLineLock_rest _)

/-- A fold in which each furrow of a list takes a step that establishes `P` of it: each of them shows it, all else of the receiver but the furrows stays. -/
theorem furSteps {g : State → Nat → State} {P : FurrowRx → Prop} (hg : ∀ v f, FurStep f P v (g v f)) (l : List Nat) (s : State) :
    (∃ m, (l.foldl g s).rx = { s.rx with furrows := m }) ∧ (l.foldl g s).mbs = s.mbs ∧ ∀ f ∈ l, P ((l.foldl g s).fur f) := by
  have hkeep : ∀ (l : List Nat) (v : State) (f : Nat), P (v.fur f) → P ((l.foldl g v).fur f) := fun l v f h => by
    refine foldl_inv (P := fun v => P (v.fur f)) (fun x _ v hv => ?_) h
    by_cases hxf : f = x
    · exact hxf ▸ (hg v x).here
    · exact ((hg v x).other f hxf).symm ▸ hv
  induction l generalizing s with
  | nil => exact ⟨⟨_, rfl⟩, rfl, fun f hf => absurd hf List.not_mem_nil⟩
  | cons x l ih =>
    obtain ⟨⟨m, hm⟩, hmbs, hall⟩ := ih (g s x)
    obtain ⟨n, hn⟩ := (hg s x).rx
    refine ⟨⟨m, hm.trans (hn ▸ rfl)⟩, hmbs.trans (hg s x).mbs, fun f hf => ?_⟩
    rcases List.mem_cons.mp hf with rfl | hf
    · exact hkeep l _ _ (hg s f).here
    · exact hall f hf

/-- The line begins a full acquisition, each of its furrows with it (R161). -/
theorem startFull_starts (s : State) : s.startFull.rx.step = 1 ∧ s.startFull.rx.full = true ∧ s.startFull.mbs = s.mbs ∧
    ∀ f ∈ s.lineFurrows, Began 1 false (s.startFull.fur f) := by
  have hstep : ∀ (v : State) (f : Nat), FurStep f (Began 1 false) v ((v.leaveLock f true true).beginFurrow f 1 false) := fun v f =>
    (leaveLock_fur v f true true).andThen (beginFurrow_fur _ f 1 false)
  unfold State.startFull
  dsimp only
  generalize hs1 : ({ s with rx := { s.rx with step := 1, stepAt := s.clock, t0 := s.clock, full := true } } : State) = s1
  have hl : s1.lineFurrows = s.lineFurrows := by rw [← hs1]; rfl
  have hrx : s1.rx.step = 1 ∧ s1.rx.full = true ∧ s1.mbs = s.mbs := by rw [← hs1]; exact ⟨rfl, rfl, rfl⟩
  obtain ⟨⟨m, hm⟩, hmbs, hall⟩ := furSteps hstep s1.lineFurrows s1
  have hacq := setAcqState_rest (s1.lineFurrows.foldl (fun (s : State) (f : Nat) => (s.leaveLock f true true).beginFurrow f 1 false) s1) 1
  refine ⟨?_, ?_, hacq.mbs.trans (hmbs.trans hrx.2.2), fun f hf => ?_⟩
  · rw [hacq.rx, hm]; exact hrx.1
  · rw [hacq.rx, hm]; exact hrx.2.1
  · rw [hacq.fur]; exact hall f (hl ▸ hf)

/-! ### The words of an acquisition -/

theorem furrowCount_le (n : Nat) : furrowCount n ≤ 32 := by
  unfold furrowCount
  split <;> decide

theorem lineFurrows_lt {s : State} {f : Nat} (h : f ∈ s.lineFurrows) : f < 32 := by
  have hp : f ∈ s.processed := (List.mem_filter.mp h).1
  unfold State.processed at hp
  split at hp
  · obtain ⟨i, hi, rfl⟩ := List.mem_map.mp hp
    have := List.mem_range.mp hi
    have : s.get Reg.RX_CFG_LEAF_GROUP < 2 ^ 3 := get_lt s _ _ _
    omega
  · exact Nat.lt_of_lt_of_le (List.mem_range.mp hp) (furrowCount_le _)

def withdrawPatches : List Patch := Reg.FR_STATUS_ADAPT_PENDING.patch 32 :: Cnt.ADAPT_TIMEOUTS.patches

theorem withdraw_touch (s : State) {f : Nat} (hf : f < 32) : Touch [Reg.FR_STATUS_ADAPT_PENDING.patch 32] s (s.withdraw f) :=
  Touch.setRow (Touch.of_regs rfl) hf (by decide)

theorem withdrawLost_touch (s : State) {f : Nat} (hf : f < 32) : Touch withdrawPatches s (s.withdrawLost f) :=
  .ite (fun _ => ((withdraw_touch s hf).mono (by decide)).bumpRow hf (by decide)) fun _ => .refl _ s

def leaveLockPatches : List Patch := withdrawPatches ++ lockBitPatches ++ carrierPatches

theorem leaveLock_touch (s : State) {f : Nat} (hf : f < 32) (clk eq : Bool) : Touch leaveLockPatches s (s.leaveLock f clk eq) :=
  (((withdrawLost_touch s hf).mono (by decide)).andThen (locksCleared_touch _ hf clk eq) (by decide)).andThen (dropLocks_touch _ hf clk eq 3) (by decide)

def beginPatches : List Patch := Reg.FR_STATUS_ACQ.patch 32 :: leaveLockPatches

theorem beginFurrow_touch (s : State) {f : Nat} (hf : f < 32) (step : Nat) (fast : Bool) : Touch [Reg.FR_STATUS_ACQ.patch 32] s (s.beginFurrow f step fast) :=
  ((Touch.refl _ s).same rfl).setRow hf (by decide)

theorem leaveAndBegin_touch (s : State) {f : Nat} (hf : f < 32) (clk eq : Bool) (step : Nat) (fast : Bool) :
    Touch beginPatches s ((s.leaveLock f clk eq).beginFurrow f step fast) :=
  ((leaveLock_touch s hf clk eq).mono (by decide)).andThen (beginFurrow_touch _ hf step fast) (by decide)

theorem startFullFurrow_touch (s : State) {f : Nat} (hf : f < 32) : Touch (beginPatches ++ lineLockPatches) s (s.startFullFurrow f) :=
  ((leaveAndBegin_touch s hf true true 1 false).mono (by decide)).andThen (refreshLineLock_touch _) (by decide)

theorem startFast_touch (s : State) {f : Nat} (hf : f < 32) : Touch (beginPatches ++ Cnt.FAST_REACQS.patches) s (s.startFast f) :=
  ((leaveAndBegin_touch s hf false false 3 true).mono (by decide)).bump0 (by decide)

/-- The line begins acquisition: the furrows' part and the line's words. -/
theorem startFull_touch (s : State) : Touch (beginPatches ++ lineLockPatches) s s.startFull := by
  unfold State.startFull
  dsimp only
  generalize hs1 : ({ s with rx := { s.rx with step := 1, stepAt := s.clock, t0 := s.clock, full := true } } : State) = s1
  have h0 : Touch (beginPatches ++ lineLockPatches) s s1 := .of_regs (by rw [← hs1])
  refine Touch.andThen (Touch.foldl (fun f hf v => ?_) h0) (setAcqState_touch _ 1) (by decide)
  exact (leaveAndBegin_touch v (lineFurrows_lt hf) true true 1 false).mono (by decide)

theorem setAcqState_acq (s : State) (v : Nat) (h : s.mode ≠ 1) : (s.setAcqState v).get Reg.RX_STATUS_ACQ_STATE = v % 8 := by
  have hmode : (s.set Reg.RX_STATUS_ACQ_STATE v).mode ≠ 1 := by
    have : Touch [Reg.RX_STATUS_ACQ_STATE.patch] s (s.set Reg.RX_STATUS_ACQ_STATE v) := (Touch.refl _ s).set0 (by decide)
    unfold State.mode
    rw [this.get0 _ (by decide)]
    exact h
  unfold State.setAcqState State.refreshLineLock
  rw [if_neg hmode]
  have : Touch [Reg.RX_STATUS_LINE_LOCK.patch] (s.set Reg.RX_STATUS_ACQ_STATE v)
      ((s.set Reg.RX_STATUS_ACQ_STATE v).set Reg.RX_STATUS_LINE_LOCK (b2n ((s.set Reg.RX_STATUS_ACQ_STATE v).get Reg.RX_STATUS_ACQ_STATE == 4))) :=
    (Touch.refl _ _).set0 (by decide)
  rw [this.get0 _ (by decide)]
  exact get_set_self _ _ _ _ _ (by decide)

theorem startFull_acq (s : State) (h : s.mode ≠ 1) : s.startFull.get Reg.RX_STATUS_ACQ_STATE = 1 := by
  unfold State.startFull
  dsimp only
  generalize hs1 : ({ s with rx := { s.rx with step := 1, stepAt := s.clock, t0 := s.clock, full := true } } : State) = s1
  have h0 : Touch beginPatches s s1 := .of_regs (by rw [← hs1])
  have hfold : Touch beginPatches s (s1.lineFurrows.foldl (fun (s : State) (f : Nat) => (s.leaveLock f true true).beginFurrow f 1 false) s1) :=
    Touch.foldl (fun f hf v => leaveAndBegin_touch v (lineFurrows_lt hf) true true 1 false) h0
  refine setAcqState_acq _ 1 ?_
  unfold State.mode
  rw [hfold.get0 _ (by decide)]
  exact h

/-! ### Steps that complete (R161, R163) -/

theorem mem_atStep {s : State} {f k : Nat} (hf : f ∈ s.lineFurrows) (h : (s.fur f).step = k) : f ∈ s.atStep k := List.mem_filter.mpr ⟨hf, by simp [h]⟩

/-- The line, and the furrows of a list with it, move on to step `k`. -/
theorem lineMoves {P : FurrowRx → Prop} {g : State → Nat → FurrowRx} (hg : ∀ v f, P (g v f)) {w : RxState → RxState} (hw : ∀ r, (w r).furrows = r.furrows) (l : List Nat)
    (u : State) (k : Nat) : let s1 := l.foldl (fun s f => s.setFur f (g s f)) u
    let t := ({ s1 with rx := w s1.rx } : State).setAcqState k
    t.rx = w s1.rx ∧ t.mbs = u.mbs ∧ (u.mode ≠ 1 → t.get Reg.RX_STATUS_ACQ_STATE = k % 8) ∧ ∀ f ∈ l, P (t.fur f) := by
  intro s1 t
  have hstep : ∀ (v : State) (f : Nat), FurStep f P v (v.setFur f (g v f)) := fun v f => FurStep.setFur v (hg v f)
  obtain ⟨-, hmbs, hall⟩ := furSteps hstep l u
  have hregs : s1.regs = u.regs := foldl_keeps State.regs (g := fun s f => s.setFur f (g s f)) (fun _ _ => rfl) l u
  have hacq : RxRest ({ s1 with rx := w s1.rx } : State) t := setAcqState_rest _ k
  refine ⟨hacq.rx, hacq.mbs.trans hmbs, fun hmode => setAcqState_acq _ k ?_, fun f hf => ?_⟩
  · have : Touch [] u ({ s1 with rx := w s1.rx } : State) := .of_regs hregs
    unfold State.mode
    rw [this.get0 _ (by decide)]
    exact hmode
  · have : t.fur f = s1.fur f := (hacq.fur f).trans (congrArg (fun x => tget ({} : FurrowRx) x f) (hw s1.rx))
    exact this ▸ hall f hf

theorem lineStep_one {s : State} (freq cd : Int) (h : s.rx.step = 1) : ∃ t, s.lineStep freq cd = some t ∧ t.rx.step = 2 ∧
    (s.mode ≠ 1 → t.get Reg.RX_STATUS_ACQ_STATE = 2) ∧ ∀ f ∈ s.lineFurrows, (s.fur f).step = 1 → (t.fur f).step = 2 ∧ (t.fur f).freq = freq := by
  unfold State.lineStep
  rw [h]
  obtain ⟨hrx, -, hacq, hall⟩ := lineMoves (P := fun x => x.step = 2 ∧ x.freq = freq)
    (g := fun v f => { v.fur f with freq := freq, step := 2, stepAt := v.clock }) (fun _ _ => ⟨rfl, rfl⟩)
    (w := fun r => { r with step := 2, stepAt := s.clock }) (fun _ => rfl) (s.atStep 1) s 2
  exact ⟨_, rfl, congrArg RxState.step hrx, hacq, fun f hf hone => hall f (mem_atStep hf hone)⟩

def cdPatches : List Patch := [Reg.RX_STATUS_CD_TIER.patch, Reg.RX_STATUS_CD_RANGE.patch, Reg.RX_EVENTS_CD_RANGE.patch]

/-- A dispersion estimate against a tier (R150). -/
def State.cdAgainst (s : State) (tier : Nat) (cd : Int) : State × Bool :=
  if tier < tierOf cd.natAbs then (((s.set Reg.RX_STATUS_CD_TIER tier).set Reg.RX_STATUS_CD_RANGE 1).set Reg.RX_EVENTS_CD_RANGE 1, false)
  else ((s.set Reg.RX_STATUS_CD_TIER tier).set Reg.RX_STATUS_CD_RANGE 0, true)

theorem cdFound_eq (s : State) (furrow : Option Nat) (cd : Int) : ∃ tier, s.cdFound furrow cd = s.cdAgainst tier cd :=
  ⟨if s.flag Reg.FIXLAT_CTRL_EN then s.get Reg.FIXLAT_CTRL_CD_TIER else s.tierFor furrow cd, rfl⟩

theorem cdFound_touch (s : State) (furrow : Option Nat) (cd : Int) : Touch cdPatches s (s.cdFound furrow cd).1 := by
  obtain ⟨tier, h⟩ := cdFound_eq s furrow cd
  rw [h]
  unfold State.cdAgainst
  split
  · exact (((Touch.refl _ s).set0 (by decide)).set0 (by decide)).set0 (by decide)
  · exact ((Touch.refl _ s).set0 (by decide)).set0 (by decide)

theorem cdFound_rest (s : State) (furrow : Option Nat) (cd : Int) : RxRest s (s.cdFound furrow cd).1 := by
  obtain ⟨tier, h⟩ := cdFound_eq s furrow cd
  rw [h]
  unfold State.cdAgainst
  split
  · exact (((RxRest.refl s).set _ _ _ _).set _ _ _ _).set _ _ _ _
  · exact ((RxRest.refl s).set _ _ _ _).set _ _ _ _

/-- An estimate beyond the fixed tier shows in RX_STATUS and raises its event (R150). -/
theorem cdFound_beyond {s : State} {furrow : Option Nat} {cd : Int} (h : (s.cdFound furrow cd).2 = false) :
    (s.cdFound furrow cd).1.flag Reg.RX_STATUS_CD_RANGE = true ∧ (s.cdFound furrow cd).1.flag Reg.RX_EVENTS_CD_RANGE = true := by
  obtain ⟨tier, he⟩ := cdFound_eq s furrow cd
  rw [he] at h ⊢
  unfold State.cdAgainst at h ⊢
  by_cases hc : tier < tierOf cd.natAbs
  · rw [if_pos hc]
    refine ⟨?_, flag_set_self _ _ _ _ _ (by decide)⟩
    have : ∀ v : State, Touch [Reg.RX_EVENTS_CD_RANGE.patch] v (v.set Reg.RX_EVENTS_CD_RANGE 1) := fun v => (Touch.refl _ v).set0 (by decide)
    exact ((this _).flag0 _ (by decide)).trans (flag_set_self _ _ _ _ _ (by decide))
  · rw [if_neg hc] at h
    cases h

theorem lineStep_two {s : State} (freq : Int) {cd : Int} (h : s.rx.step = 2) (hw : s.cdInWindow cd = true) (hfound : (s.cdFound none cd).2 = true) :
    ∃ t, s.lineStep freq cd = some t ∧ t.rx.step = 3 ∧ t.rx.cd = cd ∧ (s.mode ≠ 1 → t.get Reg.RX_STATUS_ACQ_STATE = 3) ∧
      ∀ f ∈ s.lineFurrows, (s.fur f).step = 2 → (t.fur f).step = 3 := by
  unfold State.lineStep
  rw [h]
  dsimp only
  rw [hw, hfound]
  obtain ⟨hrx, -, hacq, hall⟩ := lineMoves (P := fun x => x.step = 3) (g := fun v f => { v.fur f with step := 3, stepAt := v.clock }) (fun _ _ => rfl)
    (w := fun r => { r with step := 3, stepAt := s.clock, cd := cd }) (fun _ => rfl) (s.atStep 2) (s.cdFound none cd).1 3
  refine ⟨_, rfl, congrArg RxState.step hrx, congrArg RxState.cd hrx, fun hmode => hacq ?_, fun f hf htwo => hall f (mem_atStep hf htwo)⟩
  unfold State.mode
  rw [(cdFound_touch s none cd).get0 _ (by decide)]
  exact hmode

theorem lineStep_beyond {s : State} (freq : Int) {cd : Int} (h : s.rx.step = 2) (hw : s.cdInWindow cd = true) (hfound : (s.cdFound none cd).2 = false) :
    s.lineStep freq cd = some (s.cdFound none cd).1 := by
  unfold State.lineStep
  rw [h]
  dsimp only
  rw [hw, hfound]
  rfl

theorem execAcqStepComplete_line {s t : State} {freq cd : Int} (hmode : s.mode ≠ 1) (h : s.lineStep freq cd = some t) : execAcqStepComplete none freq cd s = done s t := by
  unfold execAcqStepComplete
  dsimp only
  rw [if_neg hmode, h]

theorem execAcqStepComplete_furrow {s t : State} {f : Fin 32} {freq cd : Int} (h : s.furrowStep f.val freq cd = some t) :
    execAcqStepComplete (some f) freq cd s = done s t := by
  unfold execAcqStepComplete
  dsimp only
  rw [h]

theorem Ended.rx {but : List Nat} {s u t : State} (he : Ended but s u t) : t.rx = u.rx := he.keeps State.rx fun _ _ _ _ _ _ _ => rfl

theorem Ended.fur {but : List Nat} {s u t : State} (he : Ended but s u t) (f : Nat) : t.fur f = u.fur f := fur_congr he.rx f

theorem acq_line_one (freq cd : Int) (s : State) (hmode : s.mode ≠ 1) (h : s.rx.step = 1) :
    ∃ t, exec (.acqStepComplete none freq cd) s = .next t ∧ t.rx.step = 2 ∧ t.get Reg.RX_STATUS_ACQ_STATE = 2 ∧
      ∀ f ∈ s.lineFurrows, (s.fur f).step = 1 → (t.fur f).step = 2 ∧ (t.fur f).freq = freq := by
  obtain ⟨u, hu, hstep, hacq, hall⟩ := lineStep_one freq cd h
  show ∃ t, execAcqStepComplete none freq cd s = _ ∧ _
  rw [execAcqStepComplete_line hmode hu]
  refine done_then fun t he _ => ⟨he.rx ▸ hstep, (he.touch.get0 _ (by decide)).trans (hacq hmode), fun f hf hone => ?_⟩
  rw [he.fur]
  exact hall f hf hone

theorem acq_line_two (freq cd : Int) (s : State) (hmode : s.mode ≠ 1) (h : s.rx.step = 2) (hw : s.cdInWindow cd = true) :
    ∃ t, exec (.acqStepComplete none freq cd) s = .next t ∧
      ((s.cdFound none cd).2 = true → t.rx.step = 3 ∧ t.rx.cd = cd ∧ t.get Reg.RX_STATUS_ACQ_STATE = 3 ∧ ∀ f ∈ s.lineFurrows, (s.fur f).step = 2 → (t.fur f).step = 3) ∧
      ((s.cdFound none cd).2 = false → t.rx.step = 2 ∧ t.flag Reg.RX_STATUS_CD_RANGE = true ∧ t.flag Reg.RX_EVENTS_CD_RANGE = true) := by
  show ∃ t, execAcqStepComplete none freq cd s = _ ∧ _
  cases hfound : (s.cdFound none cd).2 with
  | true =>
    obtain ⟨u, hu, hstep, hcd, hacq, hall⟩ := lineStep_two freq h hw hfound
    rw [execAcqStepComplete_line hmode hu]
    refine done_then fun t he _ => ⟨fun _ => ⟨he.rx ▸ hstep, he.rx ▸ hcd, (he.touch.get0 _ (by decide)).trans (hacq hmode), fun f hf htwo => ?_⟩, nofun⟩
    rw [he.fur]
    exact hall f hf htwo
  | false =>
    rw [execAcqStepComplete_line hmode (lineStep_beyond freq h hw hfound)]
    obtain ⟨hrange, hevent⟩ := cdFound_beyond hfound
    refine done_then fun t he _ => ⟨nofun, fun _ => ⟨?_, (he.touch.flag0 _ (by decide)).trans hrange, (he.touch.flag0 _ (by decide)).trans hevent⟩⟩
    rw [he.rx, (cdFound_rest s none cd).rx]
    exact h

theorem acq_furrow_early (f : Fin 32) (freq cd : Int) (s : State) (hmode : s.mode = 1) :
    ((s.fur f.val).step = 1 → ∃ t, exec (.acqStepComplete (some f) freq cd) s = .next t ∧ (t.fur f.val).step = 2 ∧ (t.fur f.val).freq = freq) ∧
    ((s.fur f.val).step = 2 → s.cdInWindow cd = true → (s.cdFound (some f.val) cd).2 = true →
      ∃ t, exec (.acqStepComplete (some f) freq cd) s = .next t ∧ (t.fur f.val).step = 3 ∧ (t.fur f.val).cd = cd) := by
  refine ⟨fun hone => ?_, fun htwo hw hfound => ?_⟩
  · have hu : s.furrowStep f.val freq cd = some (s.setFur f.val { s.fur f.val with step := 2, stepAt := s.clock, freq := freq }) := by
      unfold State.furrowStep
      dsimp only
      rw [hone]
      exact if_pos hmode
    show ∃ t, execAcqStepComplete (some f) freq cd s = _ ∧ _
    rw [execAcqStepComplete_furrow hu]
    refine done_then fun t he _ => ?_
    rw [he.fur, fur_setFur_self]
    exact ⟨rfl, rfl⟩
  · have hu : s.furrowStep f.val freq cd = some ((s.cdFound (some f.val) cd).1.setFur f.val { s.fur f.val with step := 3, stepAt := s.clock, cd := cd }) := by
      unfold State.furrowStep
      dsimp only
      rw [htwo]
      rw [hmode, hw, hfound]
      rfl
    show ∃ t, execAcqStepComplete (some f) freq cd s = _ ∧ _
    rw [execAcqStepComplete_furrow hu]
    refine done_then fun t he _ => ?_
    rw [he.fur, fur_setFur_self]
    exact ⟨rfl, rfl⟩

theorem refreshRefs_fur (s : State) (f : Nat) : s.refreshRefs.fur f = s.fur f := fur_congr (refreshRefs_rest s).rx f

theorem acq_furrow_locks (f : Fin 32) (freq cd : Int) (s : State) :
    ((s.fur f.val).step = 3 → ∃ t, exec (.acqStepComplete (some f) freq cd) s = .next t ∧ (t.fur f.val).step = 4 ∧ t.flag Reg.FR_STATUS_CLK_LOCK f.val = true) ∧
    ((s.fur f.val).step = 4 → ∃ t, exec (.acqStepComplete (some f) freq cd) s = .next t ∧ (t.fur f.val).step = 5 ∧ t.flag Reg.FR_STATUS_EQ_LOCK f.val = true) ∧
    ((s.fur f.val).step = 5 → s.freqInRange freq = true → ∃ t, exec (.acqStepComplete (some f) freq cd) s = .next t ∧ (t.fur f.val).step = 6 ∧
      (t.fur f.val).freq = freq ∧ t.flag Reg.FR_STATUS_CAR_LOCK f.val = true) := by
  have hf : f.val < 32 := f.isLt
  have hfur : ∀ (x : FurrowRx) (g : Field), ((s.setFur f.val x).set g 1 f.val).fur f.val = x := fun x g => fur_setFur_self s f.val x
  refine ⟨fun h => ?_, fun h => ?_, fun h hfreq => ?_⟩
  · have hu : s.furrowStep f.val freq cd = some ((s.setFur f.val { s.fur f.val with step := 4, stepAt := s.clock }).set Reg.FR_STATUS_CLK_LOCK 1 f.val).refreshRefs := by
      unfold State.furrowStep
      dsimp only
      rw [h]
      rfl
    show ∃ t, execAcqStepComplete (some f) freq cd s = _ ∧ _
    rw [execAcqStepComplete_furrow hu]
    refine done_then fun t he _ => ⟨?_, ?_⟩
    · rw [he.fur, refreshRefs_fur, hfur]
    · rw [he.touch.flagRow _ hf (by decide), (refreshRefs_touch _).flagRow _ hf (by decide)]
      exact flag_set_self _ _ _ _ _ (by decide)
  · have hu : s.furrowStep f.val freq cd = some ((s.setFur f.val { s.fur f.val with step := 5, stepAt := s.clock }).set Reg.FR_STATUS_EQ_LOCK 1 f.val) := by
      unfold State.furrowStep
      dsimp only
      rw [h]
      rfl
    show ∃ t, execAcqStepComplete (some f) freq cd s = _ ∧ _
    rw [execAcqStepComplete_furrow hu]
    refine done_then fun t he _ => ⟨?_, ?_⟩
    · rw [he.fur, hfur]
    · rw [he.touch.flagRow _ hf (by decide)]
      exact flag_set_self _ _ _ _ _ (by decide)
  · have hu : s.furrowStep f.val freq cd = some ((((s.setFur f.val { s.fur f.val with step := 6, stepAt := s.clock, freq := freq }).set Reg.FR_STATUS_CAR_LOCK 1 f.val).startHunt
        f.val).refreshDefects f.val) := by
      unfold State.furrowStep
      dsimp only
      rw [h, hfreq]
      rfl
    show ∃ t, execAcqStepComplete (some f) freq cd s = _ ∧ _
    rw [execAcqStepComplete_furrow hu]
    refine done_then fun t he _ => ?_
    rw [he.fur, (refreshDefects_rest _ _).fur, (startHunt_rest _ _).fur, hfur]
    refine ⟨rfl, rfl, ?_⟩
    rw [he.touch.flagRow _ hf (by decide), (refreshDefects_touch _ hf).flagRow _ hf (by decide), (startHunt_touch _ hf).flagRow _ hf (by decide)]
    exact flag_set_self _ _ _ _ _ (by decide)

/-! ### Times (R162, R164, R168) -/

/-- Where a furrow's locks have gone: its `upSince` aside all of its state stays. -/
theorem dropLocks_step (s : State) (f : Nat) (clk eq : Bool) (cw : Nat) : ∃ o, (s.dropLocks f clk eq cw).fur f = { s.fur f with upSince := o } := by
  have hclear : (s.locksCleared f clk eq).fur f = s.fur f := (RxRest.of_regsLogs (locksCleared_rest s f clk eq)).fur f
  rw [dropLocks_eq]
  split
  · exact ⟨(s.fur f).upSince, (refreshRefs_fur _ f).trans hclear⟩
  · exact ⟨none, ((carrierLost_rest _ f cw _).fur f).trans (fur_setFur_self _ f _)⟩

theorem acq_step_timeout (f : Fin 32) (s : State) (hlo : 3 ≤ (s.fur f.val).step) (hhi : (s.fur f.val).step ≤ 5) (hrep : (s.fur f.val).repeated = false)
    (hdue : (s.fur f.val).stepAt + (if (s.fur f.val).step = 4 then 130000000 else 65000000) ≤ s.clock) :
    ∃ t, exec (.acqStepTimeout f) s = .next t ∧ (t.fur f.val).step = 3 ∧ (t.fur f.val).stepAt = s.clock ∧ (t.fur f.val).repeated = true ∧
      t.flag Reg.FR_STATUS_CLK_LOCK f.val = false ∧ t.flag Reg.FR_STATUS_EQ_LOCK f.val = false ∧ t.flag Reg.FR_STATUS_CAR_LOCK f.val = false := by
  have hf : f.val < 32 := f.isLt
  have hcond : (decide (3 ≤ (s.fur f.val).step) && decide ((s.fur f.val).step ≤ 5) && !(s.fur f.val).repeated &&
      decide ((s.fur f.val).stepAt + stepTime (s.fur f.val).step ≤ s.clock)) = true := by
    have : stepTime (s.fur f.val).step = if (s.fur f.val).step = 4 then 130000000 else 65000000 := rfl
    simp [hlo, hhi, hrep, this, hdue]
  show ∃ t, execAcqStepTimeout f s = _ ∧ _
  unfold execAcqStepTimeout
  dsimp only
  rw [if_pos hcond]
  refine done_then fun t he _ => ?_
  generalize hx : ({ s.fur f.val with step := 3, stepAt := s.clock, repeated := true } : FurrowRx) = x at he
  obtain ⟨o, ho⟩ := dropLocks_step (s.setFur f.val x) f.val true true 3
  obtain ⟨hclk, heq, hcar⟩ := dropLocks_flags (s.setFur f.val x) hf true true 3
  rw [he.fur, ho, fur_setFur_self, ← hx]
  exact ⟨rfl, rfl, rfl, (he.touch.flagRow _ hf (by decide)).trans hclk, (he.touch.flagRow _ hf (by decide)).trans heq, (he.touch.flagRow _ hf (by decide)).trans hcar⟩

theorem acqFail_counted (s : State) (f step : Nat) : Counted Cnt.ACQ_FAILS 0 0 1 s (s.acqFail f step) ∧ (s.acqFail f step).flag Reg.RX_EVENTS_ACQ_FAIL = true := by
  have hlog : Touch [] ((s.bump Cnt.ACQ_FAILS).set Reg.RX_EVENTS_ACQ_FAIL 1) (s.acqFail f step) := (Touch.refl _ _).log _ _ _
  exact ⟨counted_set rfl (by decide) hlog (by decide) (by decide), (hlog.flag0 _ (by decide)).trans (flag_set_self _ _ _ _ _ (by decide))⟩

theorem acqFail_touch (s : State) (f step : Nat) : Touch (Reg.RX_EVENTS_ACQ_FAIL.patch :: Cnt.ACQ_FAILS.patches) s (s.acqFail f step) :=
  (((Touch.refl _ s).bump0 (by decide)).set0 (by decide)).log _ _ _

theorem acq_timeout_furrow (f : Fin 32) (s : State) (hmode : s.mode = 1) (hlos : s.flag Reg.RX_STATUS_LINE_LOS = false) (hflos : s.flag Reg.FR_STATUS_LOS f.val = false)
    (hstep : (s.fur f.val).step ≠ 0) (hfast : (s.fur f.val).fast = false) (hdue : (s.fur f.val).t0 + 13000000 * s.get Reg.RX_ACQ_CFG_ACQ_TIMEOUT_MS ≤ s.clock) :
    ∃ t, exec (.acqTimeout (some f)) s = .next t ∧ Counted Cnt.ACQ_FAILS 0 0 1 s t ∧ t.flag Reg.RX_EVENTS_ACQ_FAIL = true ∧ (t.fur f.val).step = 1 := by
  have hcond : (decide (s.mode = 1) && decide ((s.fur f.val).step ≠ 0) && !(s.fur f.val).fast &&
      decide ((s.fur f.val).t0 + msT (s.get Reg.RX_ACQ_CFG_ACQ_TIMEOUT_MS) ≤ s.clock) && !s.flag Reg.FR_STATUS_LOS f.val) = true := by
    have : msT (s.get Reg.RX_ACQ_CFG_ACQ_TIMEOUT_MS) = 13000000 * s.get Reg.RX_ACQ_CFG_ACQ_TIMEOUT_MS := rfl
    simp [hmode, hstep, hfast, this, hdue, hflos]
  show ∃ t, execAcqTimeout (some f) s = _ ∧ _
  unfold execAcqTimeout
  dsimp only
  rw [hlos, if_neg Bool.false_ne_true, if_pos hcond]
  obtain ⟨hcount, hev⟩ := acqFail_counted s f.val (s.fur f.val).step
  have hstart := startFullFurrow_touch (s.acqFail f.val (s.fur f.val).step) f.isLt
  refine done_then fun t he _ => ⟨?_, ?_, ?_⟩
  · exact he.touch.counted (hstart.counted hcount (by decide) (by decide)) (by decide) (by decide)
  · exact (he.touch.flag0 _ (by decide)).trans ((hstart.flag0 _ (by decide)).trans hev)
  · rw [he.fur]
    exact (startFullFurrow_fur _ f.val).here.1

theorem acq_timeout_line (s : State) (hmode : s.mode ≠ 1) (hlos : s.flag Reg.RX_STATUS_LINE_LOS = false) (hstep : s.rx.step ≠ 0) (hfull : s.rx.full = true)
    (hdue : s.rx.t0 + 13000000 * s.get Reg.RX_ACQ_CFG_ACQ_TIMEOUT_MS ≤ s.clock) :
    ∃ t, exec (.acqTimeout none) s = .next t ∧ Counted Cnt.ACQ_FAILS 0 0 1 s t ∧ t.rx.step = 1 ∧ t.get Reg.RX_STATUS_ACQ_STATE = 1 := by
  have hcond : (decide (s.mode ≠ 1) && decide (s.rx.step ≠ 0) && s.rx.full && decide (s.rx.t0 + msT (s.get Reg.RX_ACQ_CFG_ACQ_TIMEOUT_MS) ≤ s.clock)) = true := by
    have : msT (s.get Reg.RX_ACQ_CFG_ACQ_TIMEOUT_MS) = 13000000 * s.get Reg.RX_ACQ_CFG_ACQ_TIMEOUT_MS := rfl
    simp [hmode, hstep, hfull, this, hdue]
  show ∃ t, execAcqTimeout none s = _ ∧ _
  unfold execAcqTimeout
  dsimp only
  rw [hlos, if_neg Bool.false_ne_true, if_pos hcond]
  have hfail := acqFail_touch s 0xFF s.stepReached
  obtain ⟨hcount, -⟩ := acqFail_counted s 0xFF s.stepReached
  generalize s.acqFail 0xFF s.stepReached = v at hfail hcount
  refine done_then fun t he _ => ⟨?_, ?_, ?_⟩
  · exact he.touch.counted ((startFull_touch v).counted hcount (by decide) (by decide)) (by decide) (by decide)
  · rw [he.rx]
    exact (startFull_starts v).1
  · refine (he.touch.get0 _ (by decide)).trans (startFull_acq v ?_)
    unfold State.mode
    rw [hfail.get0 _ (by decide)]
    exact hmode

theorem fast_reacq_timeout (f : Fin 32) (s : State) (hstep : (s.fur f.val).step ≠ 0) (hfast : (s.fur f.val).fast = true) (hdue : (s.fur f.val).lossAt + 260000000 ≤ s.clock) :
    ∃ t, exec (.fastReacqTimeout f) s = .next t ∧ (s.mode = 1 → (t.fur f.val).step = 1 ∧ (t.fur f.val).fast = false) ∧ (s.mode ≠ 1 → t.rx.step = 1 ∧ t.rx.full = true) := by
  have hcond : (decide ((s.fur f.val).step ≠ 0) && (s.fur f.val).fast && decide ((s.fur f.val).lossAt + msT 20 ≤ s.clock)) = true := by
    have : msT 20 = 260000000 := rfl
    simp [hstep, hfast, this, hdue]
  show ∃ t, execFastReacqTimeout f s = _ ∧ _
  unfold execFastReacqTimeout
  dsimp only
  rw [if_pos hcond]
  refine done_then fun t he _ => ⟨fun hmode => ?_, fun hmode => ?_⟩
  · rw [if_pos hmode] at he
    rw [he.fur]
    exact (startFullFurrow_fur s f.val).here
  · rw [if_neg hmode] at he
    rw [he.rx]
    exact ⟨(startFull_starts s).1, (startFull_starts s).2.1⟩

/-! ### Losses (R166–R169) -/

def entropyPatches : List Patch :=
  [Reg.FR_STATUS_H_NOW.patch 32, Reg.FR_STATUS_RILLS_CARRIED.patch 32, Reg.FR_EVENTS_RILL_SHED.patch 32] ++ Cnt.RILL_SHEDS.patches

theorem applyEntropy_touch (s : State) {f : Nat} (hf : f < 32) (h : Nat) : Touch entropyPatches s (s.applyEntropy f h) := by
  have hshown : ∀ n : Nat, Touch entropyPatches s ((s.set Reg.FR_STATUS_H_NOW h f).set Reg.FR_STATUS_RILLS_CARRIED n f) := fun n =>
    ((Touch.refl _ s).setRow hf (by decide)).setRow hf (by decide)
  unfold State.applyEntropy
  exact .ite (fun _ => ((hshown _).bumpRow hf (by decide)).setRow hf (by decide)) fun _ => hshown _

theorem applyEntropy_rest (s : State) (f h : Nat) : RxRest s (s.applyEntropy f h) := by
  have hshown : ∀ n : Nat, RxRest s ((s.set Reg.FR_STATUS_H_NOW h f).set Reg.FR_STATUS_RILLS_CARRIED n f) := fun n =>
    ((RxRest.refl s).set _ _ _ _).set _ _ _ _
  unfold State.applyEntropy
  exact .ite (((hshown _).bump _ _ _ _).set _ _ _ _) (hshown _)

/-- A furrow in its fast re-acquisition, at the committed entropy unless the loss withdrew a request (R168, R183). -/
def State.fastAt (s : State) (f : Nat) (pending : Bool) : State :=
  if pending then s.startFast f else (s.startFast f).applyEntropy f (s.get Reg.FR_RX_CTRL_ENTROPY f)

/-- The line's part of a fast re-acquisition. -/
def State.lineFast (s u : State) : State :=
  if s.mode ≠ 1 && s.rx.step = 0 && s.lineFurrows.all (fun g => !s.flag Reg.FR_STATUS_CAR_LOCK g) && !s.flag Reg.RX_STATUS_LINE_LOS then
    ({ u with rx := { u.rx with step := 3, stepAt := s.clock, t0 := s.clock, full := false } }).setAcqState 5
  else u.refreshLineLock

theorem reacquire_eq (s : State) (f : Nat) (pending : Bool) : s.reacquire f pending = s.lineFast (s.fastAt f pending) := rfl

theorem lineFast_touch (s u : State) : Touch lineLockPatches u (s.lineFast u) :=
  .ite (fun _ => Touch.andThen (.of_regs rfl) (setAcqState_touch _ 5) (by decide)) fun _ => refreshLineLock_touch u

theorem lineFast_fur (s u : State) (f : Nat) : (s.lineFast u).fur f = u.fur f := by
  unfold State.lineFast
  split
  · exact (setAcqState_rest _ 5).fur f
  · exact (refreshLineLock_rest u).fur f

theorem fastAt_touch (s : State) {f : Nat} (hf : f < 32) (pending : Bool) : Touch entropyPatches (s.startFast f) (s.fastAt f pending) :=
  .ite (fun _ => .refl _ _) fun _ => applyEntropy_touch _ hf _

theorem fastAt_fur (s : State) (f : Nat) (pending : Bool) : FurStep f (Began 3 true) s (s.fastAt f pending) :=
  (startFast_fur s f).andRest (.ite (.refl _) (applyEntropy_rest _ f _))

theorem reacquire_fur (s : State) (f : Nat) (pending : Bool) : Began 3 true ((s.reacquire f pending).fur f) := by
  rw [reacquire_eq, lineFast_fur]
  exact (fastAt_fur s f pending).here

theorem reacquire_after (s : State) {f : Nat} (hf : f < 32) (pending : Bool) : Touch (entropyPatches ++ lineLockPatches) (s.startFast f) (s.reacquire f pending) :=
  ((fastAt_touch s hf pending).mono (by decide)).andThen (lineFast_touch s _) (by decide)

theorem reacquire_touch (s : State) {f : Nat} (hf : f < 32) (pending : Bool) :
    Touch (beginPatches ++ Cnt.FAST_REACQS.patches ++ entropyPatches ++ lineLockPatches) s (s.reacquire f pending) :=
  ((startFast_touch s hf).mono (by decide)).andThen (reacquire_after s hf pending) (by decide)

theorem reacquire_counted (s : State) {f : Nat} (hf : f < 32) (pending : Bool) : Counted Cnt.FAST_REACQS 0 0 1 s (s.reacquire f pending) := by
  have hstart : Counted Cnt.FAST_REACQS 0 0 1 s (s.startFast f) :=
    (leaveAndBegin_touch s hf false false 3 true).counted_of (counted_bump _ _ _ _ _ (.inl rfl)) (by decide) (by decide)
  exact (reacquire_after s hf pending).counted hstart (by decide) (by decide)

/-- A fast re-acquisition leaves the furrow's lock bits of clock and equaliser, and no carrier lock (R168). -/
theorem reacquire_locks (s : State) {f : Nat} (hf : f < 32) (pending : Bool) :
    (s.reacquire f pending).flag Reg.FR_STATUS_CLK_LOCK f = s.flag Reg.FR_STATUS_CLK_LOCK f ∧
      (s.reacquire f pending).flag Reg.FR_STATUS_EQ_LOCK f = s.flag Reg.FR_STATUS_EQ_LOCK f ∧ (s.reacquire f pending).flag Reg.FR_STATUS_CAR_LOCK f = false := by
  have hw := withdrawLost_touch s hf
  obtain ⟨hclk, heq, hcar⟩ := dropLocks_flags (s.withdrawLost f) hf false false 3
  have hbegin : Touch (Reg.FR_STATUS_ACQ.patch 32 :: Cnt.FAST_REACQS.patches) (s.leaveLock f false false) (s.startFast f) :=
    ((beginFurrow_touch _ hf 3 true).mono (by decide)).bump0 (by decide)
  have hafter := (hbegin.mono (l' := beginPatches.take 1 ++ Cnt.FAST_REACQS.patches ++ entropyPatches ++ lineLockPatches) (by decide)).andThen (reacquire_after s hf pending) (by decide)
  exact ⟨(hafter.flagRow _ hf (by decide)).trans (hclk.trans (hw.flagRow _ hf (by decide))), (hafter.flagRow _ hf (by decide)).trans (heq.trans (hw.flagRow _ hf (by decide))),
    (hafter.flagRow _ hf (by decide)).trans hcar⟩

def lossPatches : List Patch := Reg.FR_EVENTS_LOCK_LOST.patch 32 :: Cnt.LOCK_LOSSES.patches ++ leaveLockPatches

/-- The loss is counted, shown and recorded (R167). -/
def State.lossNoted (s : State) (f cond : Nat) : State := ((s.bump Cnt.LOCK_LOSSES f).set Reg.FR_EVENTS_LOCK_LOST 1 f).logLost f cond

theorem loseLock_after (s : State) {f : Nat} (hf : f < 32) (cond cw : Nat) : Touch leaveLockPatches (s.lossNoted f cond) (s.loseLock f cond cw) :=
  (((withdrawLost_touch _ hf).mono (by decide)).andThen (locksCleared_touch _ hf _ _) (by decide)).andThen (dropLocks_touch _ hf _ _ cw) (by decide)

theorem lossNoted_touch (s : State) {f : Nat} (hf : f < 32) (cond : Nat) : Touch (Reg.FR_EVENTS_LOCK_LOST.patch 32 :: Cnt.LOCK_LOSSES.patches) s (s.lossNoted f cond) :=
  (((Touch.refl _ s).bumpRow hf (by decide)).setRow hf (by decide)).log _ _ _

theorem loseLock_touch (s : State) {f : Nat} (hf : f < 32) (cond cw : Nat) : Touch lossPatches s (s.loseLock f cond cw) :=
  ((lossNoted_touch s hf cond).mono (by decide)).andThen (loseLock_after s hf cond cw) (by decide)

theorem loseLock_noted (s : State) {f : Nat} (hf : f < 32) (cond cw : Nat) :
    Counted Cnt.LOCK_LOSSES f 0 1 s (s.loseLock f cond cw) ∧ (s.loseLock f cond cw).flag Reg.FR_EVENTS_LOCK_LOST f = true := by
  have hset : Touch [Reg.FR_EVENTS_LOCK_LOST.patch 32] (s.bump Cnt.LOCK_LOSSES f) (s.lossNoted f cond) := ((Touch.refl _ _).setRow hf (by decide)).log _ _ _
  have hlog : Touch [] ((s.bump Cnt.LOCK_LOSSES f).set Reg.FR_EVENTS_LOCK_LOST 1 f) (s.lossNoted f cond) := (Touch.refl _ _).log _ _ _
  have hafter := loseLock_after s hf cond cw
  refine ⟨hafter.counted (hset.counted (counted_bump _ _ _ _ _ (.inl rfl)) hf (by decide)) hf (by decide), ?_⟩
  exact (hafter.flagRow _ hf (by decide)).trans ((hlog.flagRow _ hf (by decide)).trans (flag_set_self _ _ _ _ _ (by decide)))

theorem loseLock_locks (s : State) {f : Nat} (hf : f < 32) (cond cw : Nat) :
    (s.loseLock f cond cw).flag Reg.FR_STATUS_CLK_LOCK f = (!(cond == 1) && s.flag Reg.FR_STATUS_CLK_LOCK f) ∧
      (s.loseLock f cond cw).flag Reg.FR_STATUS_EQ_LOCK f = (!(cond == 2) && s.flag Reg.FR_STATUS_EQ_LOCK f) := by
  have hw : Touch (Reg.FR_EVENTS_LOCK_LOST.patch 32 :: Cnt.LOCK_LOSSES.patches ++ withdrawPatches) s ((s.lossNoted f cond).withdrawLost f) :=
    ((lossNoted_touch s hf cond).mono (by decide)).andThen (withdrawLost_touch _ hf) (by decide)
  obtain ⟨hclk, heq, -⟩ := dropLocks_flags ((s.lossNoted f cond).withdrawLost f) hf (cond == 1) (cond == 2) cw
  rw [hw.flagRow _ hf (by decide)] at hclk heq
  exact ⟨hclk, heq⟩

theorem lock_lost (f : Fin 32) (c : Fin 5) (s : State) (hc : c.val ≠ 0) (hlock : s.flag Reg.FR_STATUS_CAR_LOCK f.val = true) :
    ∃ t, exec (.lockLost f c) s = .next t ∧ Counted Cnt.LOCK_LOSSES f.val 0 1 s t ∧ t.flag Reg.FR_EVENTS_LOCK_LOST f.val = true ∧
      t.flag Reg.FR_STATUS_CAR_LOCK f.val = false ∧ (t.flag Reg.FR_STATUS_CLK_LOCK f.val = true ↔ c.val ≠ 1 ∧ s.flag Reg.FR_STATUS_CLK_LOCK f.val = true) ∧
      (t.flag Reg.FR_STATUS_EQ_LOCK f.val = true ↔ c.val ≠ 2 ∧ s.flag Reg.FR_STATUS_EQ_LOCK f.val = true) ∧
      Counted Cnt.FAST_REACQS 0 0 1 s t ∧ (t.fur f.val).step = 3 ∧ (t.fur f.val).fast = true := by
  have hf : f.val < 32 := f.isLt
  show ∃ t, execLockLost f c s = _ ∧ _
  unfold execLockLost
  dsimp only
  have hcond : ¬(decide (c.val = 0) || !s.flag Reg.FR_STATUS_CAR_LOCK f.val) = true := by simp [hc, hlock]
  rw [if_neg hcond]
  have hlose := loseLock_touch s hf c.val 3
  obtain ⟨hcount, hev⟩ := loseLock_noted s hf c.val 3
  obtain ⟨hclk, heq⟩ := loseLock_locks s hf c.val 3
  generalize s.loseLock f.val c.val 3 = v at hlose hcount hev hclk heq
  generalize (s.fur f.val).pending.isSome = b
  have hre := reacquire_touch v hf b
  obtain ⟨hclk', heq', hcar'⟩ := reacquire_locks v hf b
  have hfast := reacquire_counted v hf b
  have hbegan := reacquire_fur v f.val b
  generalize v.reacquire f.val b = w at hre hclk' heq' hcar' hfast hbegan
  refine done_then fun t he _ => ?_
  refine ⟨he.touch.counted (hre.counted hcount hf (by decide)) hf (by decide), ?_, (he.touch.flagRow _ hf (by decide)).trans hcar', ?_, ?_,
    he.touch.counted (hlose.counted_of hfast (by decide) (by decide)) (by decide) (by decide), he.fur f.val ▸ hbegan.1, he.fur f.val ▸ hbegan.2⟩
  · exact (he.touch.flagRow _ hf (by decide)).trans ((hre.flagRow _ hf (by decide)).trans hev)
  · rw [he.touch.flagRow _ hf (by decide), hclk', hclk]
    simp
  · rw [he.touch.flagRow _ hf (by decide), heq', heq]
    simp

theorem los_set (f : Fin 32) (s : State) (hlos : s.flag Reg.FR_STATUS_LOS f.val = false) (hen : s.flag Reg.FR_RX_CTRL_EN f.val = true) (hmem : f.val ∈ s.processed) :
    ∃ t, exec (.furrowLosSet f) s = .next t ∧ t.flag Reg.FR_STATUS_LOS f.val = true ∧ t.flag Reg.FR_EVENTS_LOS f.val = true ∧
      t.flag Reg.FR_STATUS_ACQ f.val = false ∧ (t.fur f.val).step = 0 := by
  have hf : f.val < 32 := f.isLt
  have hcond : ¬(s.flag Reg.FR_STATUS_LOS f.val || !s.flag Reg.FR_RX_CTRL_EN f.val || !s.processed.contains f.val) = true := by simp [hlos, hen, hmem]
  show ∃ t, execFurrowLosSet f s = _ ∧ _
  unfold execFurrowLosSet
  dsimp only
  rw [if_neg hcond]
  have hs1 : Touch [Reg.FR_EVENTS_LOS.patch 32] (s.set Reg.FR_STATUS_LOS 1 f.val) ((s.set Reg.FR_STATUS_LOS 1 f.val).set Reg.FR_EVENTS_LOS 1 f.val) :=
    (Touch.refl _ _).setRow hf (by decide)
  have hshow : ((s.set Reg.FR_STATUS_LOS 1 f.val).set Reg.FR_EVENTS_LOS 1 f.val).flag Reg.FR_STATUS_LOS f.val = true ∧
      ((s.set Reg.FR_STATUS_LOS 1 f.val).set Reg.FR_EVENTS_LOS 1 f.val).flag Reg.FR_EVENTS_LOS f.val = true :=
    ⟨(hs1.flagRow _ hf (by decide)).trans (flag_set_self _ _ _ _ _ (by decide)), flag_set_self _ _ _ _ _ (by decide)⟩
  generalize (s.set Reg.FR_STATUS_LOS 1 f.val).set Reg.FR_EVENTS_LOS 1 f.val = v at hshow
  have hlost : Touch lossPatches v (if s.flag Reg.FR_STATUS_CAR_LOCK f.val = true then v.loseLock f.val 5 3 else v) :=
    .ite (fun _ => loseLock_touch v hf 5 3) fun _ => .refl _ v
  generalize (if s.flag Reg.FR_STATUS_CAR_LOCK f.val = true then v.loseLock f.val 5 3 else v) = w at hlost
  have hstop : Touch [Reg.FR_STATUS_ACQ.patch 32] w ((w.setFur f.val { w.fur f.val with step := 0 }).set Reg.FR_STATUS_ACQ 0 f.val) :=
    ((Touch.refl _ w).same rfl).setRow hf (by decide)
  refine done_then fun t he _ => ⟨?_, ?_, ?_, ?_⟩
  · rw [he.touch.flagRow _ hf (by decide), (refreshDefects_touch _ hf).flagRow _ hf (by decide), hstop.flagRow _ hf (by decide), hlost.flagRow _ hf (by decide)]
    exact hshow.1
  · rw [he.touch.flagRow _ hf (by decide), (refreshDefects_touch _ hf).flagRow _ hf (by decide), hstop.flagRow _ hf (by decide), hlost.flagRow _ hf (by decide)]
    exact hshow.2
  · rw [he.touch.flagRow _ hf (by decide), (refreshDefects_touch _ hf).flagRow _ hf (by decide), flag_set_self _ _ _ _ _ (by decide)]
    rfl
  · rw [he.fur, (refreshDefects_rest _ _).fur]
    exact congrArg FurrowRx.step (fur_setFur_self w f.val _)

theorem los_clear (f : Fin 32) (s : State) (hlos : s.flag Reg.FR_STATUS_LOS f.val = true) :
    ∃ t, exec (.furrowLosClear f) s = .next t ∧ t.flag Reg.FR_STATUS_LOS f.val = false ∧
      (f.val ∈ s.lineFurrows → s.flag Reg.RX_STATUS_LINE_LOS = false → s.lineHeld = false →
        if s.mode = 1 then (t.fur f.val).step = 1 ∧ (t.fur f.val).fast = false else (t.fur f.val).step = 3 ∧ (t.fur f.val).fast = true) := by
  have hf : f.val < 32 := f.isLt
  have hclear : ((s.set Reg.FR_STATUS_LOS 0 f.val).refreshDefects f.val).flag Reg.FR_STATUS_LOS f.val = false := by
    rw [(refreshDefects_touch _ hf).flagRow _ hf (by decide), flag_set_self _ _ _ _ _ (by decide)]
    rfl
  have hcond : ¬(!s.flag Reg.FR_STATUS_LOS f.val) = true := by simp [hlos]
  show ∃ t, execFurrowLosClear f s = _ ∧ _
  unfold execFurrowLosClear
  dsimp only
  rw [if_neg hcond]
  generalize (s.set Reg.FR_STATUS_LOS 0 f.val).refreshDefects f.val = v at hclear
  by_cases hstay : (!s.lineFurrows.contains f.val || s.flag Reg.RX_STATUS_LINE_LOS || s.lineHeld) = true
  · rw [if_pos hstay]
    refine done_then fun t he _ => ⟨(he.touch.flagRow _ hf (by decide)).trans hclear, fun hmem hline hheld => ?_⟩
    simp [hmem, hline, hheld] at hstay
  · rw [if_neg hstay]
    by_cases hmode : s.mode = 1
    · rw [if_pos hmode]
      refine done_then fun t he _ => ⟨?_, fun _ _ _ => ?_⟩
      · exact (he.touch.flagRow _ hf (by decide)).trans (((startFullFurrow_touch v hf).flagRow _ hf (by decide)).trans hclear)
      · rw [if_pos hmode, he.fur]
        exact (startFullFurrow_fur v f.val).here
    · rw [if_neg hmode]
      refine done_then fun t he _ => ⟨?_, fun _ _ _ => ?_⟩
      · exact (he.touch.flagRow _ hf (by decide)).trans (((startFast_touch v hf).flagRow _ hf (by decide)).trans hclear)
      · rw [if_neg hmode, he.fur]
        exact (startFast_fur v f.val).here

theorem cycle_slip (f : Fin 32) (s : State) (h : s.flag Reg.FR_STATUS_CAR_LOCK f.val = true) :
    ∃ t, exec (.cycleSlip f) s = .next t ∧ Counted Cnt.CYCLE_SLIPS f.val 0 1 s t ∧ t.flag Reg.FR_EVENTS_CYCLE_SLIP f.val = true ∧
      t.rx = s.rx ∧ RegsKept [Cnt.CYCLE_SLIPS.addr f.val 0, Reg.FR_EVENTS_CYCLE_SLIP.addr f.val 0] s t := by
  have hf : f.val < 32 := f.isLt
  show ∃ t, execCycleSlip f s = _ ∧ _
  unfold execCycleSlip
  rw [if_pos h]
  have hset : Touch [Reg.FR_EVENTS_CYCLE_SLIP.patch 32] (s.bump Cnt.CYCLE_SLIPS f.val) ((s.bump Cnt.CYCLE_SLIPS f.val).set Reg.FR_EVENTS_CYCLE_SLIP 1 f.val) :=
    (Touch.refl _ _).setRow hf (by decide)
  refine done_then fun t he _ => ⟨?_, ?_, he.rx, fun a ha hq => ?_⟩
  · exact he.touch.counted (hset.counted (counted_bump _ _ _ _ _ (.inl rfl)) hf (by decide)) hf (by decide)
  · exact (he.touch.flagRow _ hf (by decide)).trans (flag_set_self _ _ _ _ _ (by decide))
  · simp only [List.mem_cons, List.not_mem_nil, or_false, not_or] at ha
    rw [he.kept a List.not_mem_nil hq, State.set, reg_setReg_ne _ _ ha.2]
    exact reg_bump_ne _ _ _ _ _ fun hm => ha.1 (List.mem_singleton.mp hm)

/-! ### Gain (R175, R217) -/

theorem startClamp_agc (s : State) (loop inst dir : Nat) (bound target : Int) : (s.startClamp loop inst dir bound target).sys.agc = s.sys.agc := by
  have hclamp : ∀ x, (s.setClamp loop inst x).sys.agc = s.sys.agc := fun _ => rfl
  unfold State.startClamp
  exact (((((RegsLogs.refl (s.setClamp loop inst _)).log _ _ _).bump _ _ _ _).set _ _ _ _).keeps (fun v => v.sys.agc) fun _ _ _ => rfl).trans (hclamp _)

theorem clampCheck_agc (s : State) (loop inst : Nat) (target : Int) : (s.clampCheck loop inst target).sys.agc = s.sys.agc := by
  have hclamp : ∀ x, (s.setClamp loop inst x).sys.agc = s.sys.agc := fun _ => rfl
  unfold State.clampCheck
  dsimp only
  split
  · split
    · exact ite_keeps (fun v => v.sys.agc) (hclamp _) (startClamp_agc _ _ _ _ _ _)
    · exact startClamp_agc _ _ _ _ _ _
  · split
    · exact hclamp _
    · rfl

theorem agc_step (i : Fin 33) (target : Int) (s : State) (h : if i.val = 32 then s.burstAgcFrozen = false else (s.fur i.val).agcAt + 13000 ≤ s.clock) :
    ∃ t, exec (.agcStep i target) s = .next t ∧ t.loopValue 2 i.val = (if s.loopValue 2 i.val < clampTo (s.bounds 2 i.val) target then s.loopValue 2 i.val + 1
      else if clampTo (s.bounds 2 i.val) target < s.loopValue 2 i.val then s.loopValue 2 i.val - 1 else s.loopValue 2 i.val) ∧
      ∀ k, k ≠ i.val → t.loopValue 2 k = s.loopValue 2 k := by
  have hgo : ¬(if i.val = 32 then s.burstAgcFrozen else decide (s.clock < (s.fur i.val).agcAt + usT 1)) = true := by
    split at h
    · next hi => simp [hi, h]
    · next hi =>
      have : usT 1 = 13000 := rfl
      simp [hi, this, h]
  have hagc : ∀ v : State, v.loopValue 2 = fun k => tget 0 v.sys.agc k := fun v => rfl
  show ∃ t, execAgcStep i target s = _ ∧ _
  unfold execAgcStep
  dsimp only
  rw [if_neg hgo]
  generalize hv : (if s.loopValue 2 i.val < clampTo (s.bounds 2 i.val) target then s.loopValue 2 i.val + 1
      else if clampTo (s.bounds 2 i.val) target < s.loopValue 2 i.val then s.loopValue 2 i.val - 1 else s.loopValue 2 i.val) = v'
  have hcheck := clampCheck_agc s 2 i.val target
  generalize s.clampCheck 2 i.val target = c at hcheck
  have hmoved : ∀ t : State, t.sys = { c.sys with agc := tput 0 c.sys.agc i.val v' } → t.loopValue 2 i.val = v' ∧ ∀ k, k ≠ i.val → t.loopValue 2 k = s.loopValue 2 k := by
    intro t ht
    rw [hagc, hagc, ht, ← hcheck]
    exact ⟨tget_tput_self 0 c.sys.agc i.val v', fun k hk => tget_tput_ne _ _ _ _ hk⟩
  by_cases hi : i.val = 32
  · rw [if_pos hi]
    exact done_then fun t he _ => hmoved t (he.keeps State.sys fun _ _ _ _ _ _ _ => rfl)
  · rw [if_neg hi]
    exact done_then fun t he _ => hmoved t (he.keeps State.sys fun _ _ _ _ _ _ _ => rfl)

/-! ### A request that is not confirmed (R179) -/

/-- The request is withdrawn and the time-out counted. -/
def State.adaptTimedOut (s : State) (f : Nat) : State := ((s.withdraw f).bump Cnt.ADAPT_TIMEOUTS f).set Reg.FR_EVENTS_ADAPT_TIMEOUT 1 f

theorem execAdaptTimeout_eq {f : Fin 32} {q : AdaptReq} {s : State} (h : (s.fur f.val).pending = some q) (hq : q.confirmed = false)
    (hdue : 8 ≤ (s.frm.mfn + 2 ^ 32 - q.sentMfn) % 2 ^ 32) : execAdaptTimeout f s = done s ((s.adaptTimedOut f.val).setFur f.val
      { (s.adaptTimedOut f.val).fur f.val with quietUntil := s.clock + msT (s.get Reg.FR_ADAPT_CFG_UP_HOLD_MS f.val) }) := by
  have hcond : (!q.confirmed && decide (8 ≤ (s.frm.mfn + 2 ^ 32 - q.sentMfn) % 2 ^ 32)) = true := by rw [hq, decide_eq_true hdue]; rfl
  unfold execAdaptTimeout
  dsimp only
  rw [h]
  exact if_pos hcond

theorem adapt_timeout (f : Fin 32) (q : AdaptReq) (s : State) (h : (s.fur f.val).pending = some q) (hq : q.confirmed = false)
    (hdue : 8 ≤ (s.frm.mfn + 2 ^ 32 - q.sentMfn) % 2 ^ 32) :
    ∃ t, exec (.adaptTimeout f) s = .next t ∧ (t.fur f.val).pending = none ∧ t.flag Reg.FR_STATUS_ADAPT_PENDING f.val = false ∧
      Counted Cnt.ADAPT_TIMEOUTS f.val 0 1 s t ∧ t.flag Reg.FR_EVENTS_ADAPT_TIMEOUT f.val = true := by
  have hf : f.val < 32 := f.isLt
  show ∃ t, execAdaptTimeout f s = _ ∧ _
  rw [execAdaptTimeout_eq h hq hdue]
  have hset : Touch [Reg.FR_EVENTS_ADAPT_TIMEOUT.patch 32] ((s.withdraw f.val).bump Cnt.ADAPT_TIMEOUTS f.val) (s.adaptTimedOut f.val) := (Touch.refl _ _).setRow hf (by decide)
  have hcount : Touch (Reg.FR_EVENTS_ADAPT_TIMEOUT.patch 32 :: Cnt.ADAPT_TIMEOUTS.patches) (s.withdraw f.val) (s.adaptTimedOut f.val) :=
    ((Touch.refl _ _).bumpRow hf (by decide)).setRow hf (by decide)
  have hfur : (s.adaptTimedOut f.val).fur f.val = { s.fur f.val with pending := none } :=
    (fur_congr (((RxRest.refl (s.withdraw f.val)).bump _ _ _ _).set _ _ _ _).rx f.val).trans (fur_setFur_self s f.val _)
  refine done_then fun t he _ => ⟨?_, ?_, ?_, ?_⟩
  · rw [he.fur, fur_setFur_self, hfur]
  · rw [he.touch.flagRow _ hf (by decide), setFur_flag, hcount.flagRow _ hf (by decide)]
    exact (flag_set_self _ _ _ _ _ (by decide)).trans rfl
  · have h1 : Counted Cnt.ADAPT_TIMEOUTS f.val 0 1 (s.withdraw f.val) (s.adaptTimedOut f.val) :=
      hset.counted (counted_bump _ _ _ _ _ (.inl rfl)) hf (by decide)
    have h2 : Counted Cnt.ADAPT_TIMEOUTS f.val 0 1 s (s.adaptTimedOut f.val) := (withdraw_touch s hf).counted_of h1 hf (by decide)
    exact he.touch.counted ((setFur_touch [] _ _ _).counted h2 hf (by decide)) hf (by decide)
  · rw [he.touch.flagRow _ hf (by decide), setFur_flag]
    exact flag_set_self _ _ _ _ _ (by decide)

/-! ### Commands (R161, R168, R183) -/

theorem line_reacquire (mb : Fin 8) (p : List Byte) (s : State) (hreq : s.request mb.val 0x0303 = some p) (hon : s.blocksOff = false) (hmod : s.mode ≠ 3)
    (hlos : s.flag Reg.RX_STATUS_LINE_LOS = false) (hidle : s.rx.step = 0) (hacq : ∀ f, f < 32 → s.flag Reg.FR_STATUS_ACQ f = false) :
    ∃ t, exec (.lineReacquire mb) s = .next t ∧ Answered mb.val ok s t ∧ (s.mode ≠ 1 → t.rx.step = 1 ∧ t.get Reg.RX_STATUS_ACQ_STATE = 1) ∧
      (∀ f ∈ s.lineFurrows, (t.fur f).step = 1 ∧ (t.fur f).fast = false) := by
  have hbusy : (decide (s.rx.step ≠ 0) || (List.range 32).any (fun f => s.flag Reg.FR_STATUS_ACQ f)) = false := by
    have : (List.range 32).any (fun f => s.flag Reg.FR_STATUS_ACQ f) = false := List.any_eq_false.mpr fun f hf => by simp [hacq f (List.mem_range.mp hf)]
    rw [this, hidle]
    rfl
  show ∃ t, execLineReacquire mb s = _ ∧ _
  by_cases hmode : s.mode = 1
  · obtain ⟨-, hmbs, hall⟩ := furSteps startFullFurrow_fur s.lineFurrows (s.serving mb.val)
    refine actOn_then (r := ok) (u := s.lineFurrows.foldl State.startFullFurrow (s.serving mb.val)) hreq hon ?_ fun t he hans => ⟨?_, fun h => absurd hmode h, fun f hf => ?_⟩
    · show (if s.mode = 3 then _ else if s.flag Reg.RX_STATUS_LINE_LOS = true then _ else if _ then _ else _) = _
      rw [if_neg hmod, hlos, if_neg Bool.false_ne_true]
      refine (if_neg (ne_true_of_eq_false hbusy)).trans ?_
      exact congrArg (·, ok) (if_pos hmode)
    · exact hans.of_mbs hmbs
    · rw [he.fur]
      exact hall f hf
  · obtain ⟨hstep, -, hmbs, hall⟩ := startFull_starts (s.serving mb.val)
    refine actOn_then (r := ok) (u := (s.serving mb.val).startFull) hreq hon ?_ fun t he hans => ⟨?_, fun _ => ⟨?_, ?_⟩, fun f hf => ?_⟩
    · show (if s.mode = 3 then _ else if s.flag Reg.RX_STATUS_LINE_LOS = true then _ else if _ then _ else _) = _
      rw [if_neg hmod, hlos, if_neg Bool.false_ne_true]
      refine (if_neg (ne_true_of_eq_false hbusy)).trans ?_
      exact congrArg (·, ok) (if_neg hmode)
    · exact hans.of_mbs hmbs
    · rw [he.rx]
      exact hstep
    · exact (he.answer_touch.get0 _ (by decide)).trans (startFull_acq _ hmode)
    · rw [he.fur]
      exact hall f hf

theorem furrow_reacquire (mb : Fin 8) (p : List Byte) (s : State) (hreq : s.request mb.val 0x0404 = some p) (hon : s.blocksOff = false)
    (hall : ∀ f ∈ furrowList (u8 p 0), s.flag Reg.FR_STATUS_ACQ f = false ∧ s.flag Reg.FR_RX_CTRL_EN f = true ∧ s.flag Reg.FR_STATUS_LOS f = false ∧
      s.flag Reg.FR_STATUS_CAR_LOCK f = true) :
    ∃ t, exec (.furrowReacquire mb) s = .next t ∧ Answered mb.val ok s t ∧ ∀ f ∈ furrowList (u8 p 0), (t.fur f).step = 3 ∧ (t.fur f).fast = true := by
  have hbusy : (furrowList (u8 p 0)).any (fun f => s.flag Reg.FR_STATUS_ACQ f) = false := List.any_eq_false.mpr fun f hf => by simp [(hall f hf).1]
  have hdenied : (furrowList (u8 p 0)).any (fun f => !s.flag Reg.FR_RX_CTRL_EN f || s.flag Reg.FR_STATUS_LOS f || !s.flag Reg.FR_STATUS_CAR_LOCK f) = false :=
    List.any_eq_false.mpr fun f hf => by
      obtain ⟨-, hen, hlos, hcar⟩ := hall f hf
      simp [hen, hlos, hcar]
  obtain ⟨-, hmbs, hstarted⟩ := furSteps startFast_fur (furrowList (u8 p 0)) (s.serving mb.val)
  have hline := refreshLineLock_rest ((furrowList (u8 p 0)).foldl State.startFast (s.serving mb.val))
  show ∃ t, execFurrowReacquire mb s = _ ∧ _
  refine actOn_then (r := ok) (u := ((furrowList (u8 p 0)).foldl State.startFast (s.serving mb.val)).refreshLineLock) hreq hon ?_ fun t he hans => ⟨?_, fun f hf => ?_⟩
  · exact (if_neg (ne_true_of_eq_false hbusy)).trans
      (if_neg (ne_true_of_eq_false hdenied))
  · exact hans.of_mbs (hline.mbs.trans hmbs)
  · rw [he.fur, hline.fur]
    exact hstarted f hf

/-- Settles O43. -/
theorem furrowsAcquireAndLoseLock : Obligations.FurrowsAcquireAndLoseLock :=
  ⟨acq_line_one, acq_line_two, acq_furrow_early, acq_furrow_locks, acq_step_timeout, acq_timeout_furrow, acq_timeout_line, lock_lost, fast_reacq_timeout, los_set, los_clear,
    cycle_slip, agc_step, adapt_timeout, line_reacquire, furrow_reacquire⟩

end Sys2Proof.Machine
end

section
/-! SUPPORT. Bursts and leaf registration (R213–R238, R275–R279): the lemmas that the obligation on bursts rests on, and its proof. -/

namespace Sys2Proof.Machine

/-! ### What a leaf's transition leaves (R227–R235) -/

/-- Only registers, log, quenches, leaf table, management queues and the grants deferred differ. -/
def LeafRest (s t : State) : Prop :=
  ∃ r l y a m d x, t = { s with regs := r, logs := l, sys := y, burst := { s.burst with leaves := a, mgmt := m, deferred := d }, self := { s.self with sent := x } }

namespace LeafRest

variable {s t u : State}

theorem refl (s : State) : LeafRest s s := ⟨s.regs, s.logs, s.sys, s.burst.leaves, s.burst.mgmt, s.burst.deferred, s.self.sent, rfl⟩

theorem trans (h : LeafRest s t) (k : LeafRest t u) : LeafRest s u := by
  obtain ⟨r, l, y, a, m, d, x, rfl⟩ := h
  obtain ⟨r', l', y', a', m', d', x', rfl⟩ := k
  exact ⟨r', l', y', a', m', d', x', rfl⟩

theorem of_regsLogs (h : RegsLogs s t) : LeafRest s t := by
  obtain ⟨r, l, b, rfl⟩ := h
  exact ⟨r, l, s.sys, s.burst.leaves, s.burst.mgmt, s.burst.deferred, b, rfl⟩

theorem of_sys (h : SysOnly s t) : LeafRest s t := by
  obtain ⟨r, y, rfl⟩ := h
  exact ⟨r, s.logs, y, s.burst.leaves, s.burst.mgmt, s.burst.deferred, s.self.sent, rfl⟩

theorem ite {c : Prop} [Decidable c] (h : LeafRest s t) (k : LeafRest s u) : LeafRest s (if c then t else u) := by
  split
  · exact h
  · exact k

theorem set (h : LeafRest s t) (f : Field) (v i j : Nat) : LeafRest s (t.set f v i j) := h.trans (of_regsLogs (regsLogs_set _ _ _ _ _))

theorem bump (h : LeafRest s t) (c : Ctr) (i j n : Nat) : LeafRest s (t.bump c i j n) := h.trans (of_regsLogs (regsLogs_bump _ _ _ _ _))

theorem log (h : LeafRest s t) (wb type : Nat) (d : List Byte) : LeafRest s (t.log wb type d) := h.trans (of_regsLogs (regsLogs_log _ _ _ _))

theorem leaf (h : LeafRest s t) (l : Nat) (x : LeafInfo) : LeafRest s (t.setLeafInfo l x) :=
  h.trans ⟨t.regs, t.logs, t.sys, tput {} t.burst.leaves l x, t.burst.mgmt, t.burst.deferred, t.self.sent, rfl⟩

theorem push (h : LeafRest s t) (k : Nat) (m : List Byte) : LeafRest s (t.pushMgmt k m) :=
  h.trans ⟨t.regs, t.logs, t.sys, t.burst.leaves, tput [] t.burst.mgmt k (tget [] t.burst.mgmt k ++ [m]), t.burst.deferred, t.self.sent, rfl⟩

theorem keeps {β : Type} (h : LeafRest s t) (π : State → β)
    (hπ : ∀ (z : State) r l y a m d x, π { z with regs := r, logs := l, sys := y, burst := { z.burst with leaves := a, mgmt := m, deferred := d }, self := { z.self with sent := x } } = π z) :
    π t = π s := by
  obtain ⟨r, l, y, a, m, d, x, rfl⟩ := h
  exact hπ s r l y a m d x

theorem mbs (h : LeafRest s t) : t.mbs = s.mbs := h.keeps State.mbs fun _ _ _ _ _ _ _ _ => rfl

theorem grants (h : LeafRest s t) : t.burst.grants = s.burst.grants := h.keeps (fun v => v.burst.grants) fun _ _ _ _ _ _ _ _ => rfl

theorem paths (h : LeafRest s t) : t.burst.paths = s.burst.paths := h.keeps (fun v => v.burst.paths) fun _ _ _ _ _ _ _ _ => rfl

end LeafRest

theorem path_congr {s t : State} (h : t.burst.paths = s.burst.paths) (f : Nat) : t.path f = s.path f := congrArg (fun p => tget ({} : BurstPath) p f) h

theorem path_setPath_self (s : State) (f : Nat) (x : BurstPath) : (s.setPath f x).path f = x := tget_tput_self ({} : BurstPath) s.burst.paths f x

theorem toLeafState_rest (s : State) (l new reason : Nat) : LeafRest s (s.toLeafState l new reason) :=
  (((LeafRest.refl s).set _ _ _ _).log _ _ _).set _ _ _ _

theorem refreshLeaves_rest (s : State) : LeafRest s s.refreshLeaves := ((LeafRest.refl s).set _ _ _ _).set _ _ _ _

theorem setSerial_rest (s : State) (l v : Nat) : LeafRest s (s.setSerial l v) := ((LeafRest.refl s).set _ _ _ _).set _ _ _ _

theorem evict_rest (s : State) (l reason : Nat) (disable : Bool) : LeafRest s (s.evict l reason disable) := by
  have h1 : LeafRest s ((((s.toLeafState l 6 reason).startQuench 5 l).bump Cnt.EVICTIONS).set Reg.BR_EVENTS_EVICTION 1) :=
    (((toLeafState_rest s l 6 reason).trans (.of_sys (startQuench_only _ 5 l))).bump _ _ _ _).set _ _ _ _
  unfold State.evict
  exact (LeafRest.ite (h1.push _ _) h1).trans (refreshLeaves_rest _)

theorem rangeFail_rest (s : State) (l rtd : Nat) : LeafRest s (s.rangeFail l rtd) := (((LeafRest.refl s).bump _ _ _ _).set _ _ _ _).log _ _ _

theorem rangingMiss_rest (s : State) (l : Nat) : LeafRest s (s.rangingMiss l) := by
  have h1 : ∀ x, LeafRest s ((s.setLeafInfo l x).toLeafState l 0 10) := fun x => ((LeafRest.refl s).leaf l x).trans (toLeafState_rest _ _ _ _)
  have h2 : ∀ x y, LeafRest s ((((s.setLeafInfo l x).toLeafState l 0 10).setSerial l 0).setLeafInfo l y) := fun x y => ((h1 x).trans (setSerial_rest _ _ _)).leaf l y
  unfold State.rangingMiss
  exact .ite (((LeafRest.ite (h1 _) (h2 _ _)).trans (rangeFail_rest _ _ _)).trans (refreshLeaves_rest _)) ((LeafRest.refl s).leaf l _)

/-- What a missed grant does beside being dropped and counted (R233, R234). -/
def State.missFollows (s v : State) (g : Grant) (run : Nat) : State :=
  match s.leafState g.leaf with
  | 0 => v
  | 6 => v
  | 1 => v.rangingMiss g.leaf
  | 4 => if s.get Reg.LEAF_CFG_SILENT_MISSES ≤ run then v.toLeafState g.leaf 5 5 else v
  | _ =>
    if (s.leafInfo g.leaf).awaiting then v.rangingMiss g.leaf
    else if s.get Reg.LEAF_CFG_EVICT_MISSES ≤ run then v.evict g.leaf 5 false else v

theorem missGrant_eq (s : State) (g : Grant) : s.missGrant g = if g.type = 1 || (s.leafState g.leaf = 3 && s.flag Reg.LF_STATUS_STANDBY g.leaf) then s.dropGrant g
    else s.missFollows (((s.dropGrant g).bump Cnt.MISSED_GRANTS g.leaf).set Reg.LF_STATUS_MISS_RUN (min 255 (s.get Reg.LF_STATUS_MISS_RUN g.leaf + 1)) g.leaf) g
      (min 255 (s.get Reg.LF_STATUS_MISS_RUN g.leaf + 1)) := rfl

theorem missFollows_rest (s v : State) (g : Grant) (run : Nat) : LeafRest v (s.missFollows v g run) := by
  unfold State.missFollows
  split
  · exact .refl v
  · exact .refl v
  · exact rangingMiss_rest v _
  · exact .ite (toLeafState_rest v _ _ _) (.refl v)
  · exact .ite (rangingMiss_rest v _) (.ite (evict_rest v _ _ _) (.refl v))

theorem missGrant_rest (s : State) (g : Grant) : LeafRest (s.dropGrant g) (s.missGrant g) := by
  rw [missGrant_eq]
  exact .ite (.refl _) ((((LeafRest.refl _).bump _ _ _ _).set _ _ _ _).trans (missFollows_rest s _ g _))

theorem missGrant_path (s : State) (g : Grant) (f : Nat) : (s.missGrant g).path f = s.path f := path_congr (missGrant_rest s g).paths f

theorem missGrant_grants (s : State) (g : Grant) : g ∉ (s.missGrant g).burst.grants := by
  rw [(missGrant_rest s g).grants]
  intro h
  simpa using (List.mem_filter.mp h).2

theorem missGrant_mbs (s : State) (g : Grant) : (s.missGrant g).mbs = s.mbs := (missGrant_rest s g).mbs

/-! ### The words of a leaf's transition -/

/-- The words that a change of a leaf's state may write. -/
def leafPatches : List Patch :=
  [Reg.LF_STATUS_STATE.patch 0, Reg.BR_EVENTS_LEAF_STATE.patch, Reg.LF_STATUS_Q_STATE.patch 0, Reg.BR_EVENTS_EVICTION.patch, Reg.BR_STATUS_ADMITTED.patch,
    Reg.BR_STATUS_REGISTERED.patch, Reg.LF_SERIAL_SERIAL.patch 0 2, Reg.BR_EVENTS_RANGE_FAIL.patch] ++ Cnt.EVICTIONS.patches ++ Cnt.RANGE_FAILS.patches

theorem toLeafState_touch (s : State) (l new reason : Nat) : Touch leafPatches s (s.toLeafState l new reason) :=
  (((Touch.refl _ s).setAny (by decide)).log _ _ _).set0 (by decide)

theorem refreshLeaves_touch (s : State) : Touch leafPatches s s.refreshLeaves := ((Touch.refl _ s).set0 (by decide)).set0 (by decide)

theorem setSerial_touch (s : State) (l v : Nat) : Touch leafPatches s (s.setSerial l v) :=
  ((Touch.refl _ s).set 0 2 (by decide) (.inl rfl) (by decide)).set 0 2 (by decide) (.inl rfl) (by decide)

theorem setQuench_regs (s : State) (kind idx : Nat) (q : Option Quench) : (s.setQuench kind idx q).regs = s.regs := rfl

theorem startQuenchLeaf_touch (s : State) (l : Nat) : Touch leafPatches s (s.startQuench 5 l) := by
  unfold State.startQuench
  split
  · exact ((Touch.refl _ s).setAny (f := Reg.LF_STATUS_Q_STATE) (by decide)).same (setQuench_regs _ _ _ _)
  · exact .of_regs (setQuench_regs _ _ _ _)
  · exact .of_regs (setQuench_regs _ _ _ _)

theorem enableLeaf_touch (s : State) (l : Nat) : Touch leafPatches s (s.enableObj 5 l) := by
  unfold State.enableObj
  split
  · exact .of_regs (setQuench_regs _ _ _ _)
  · exact ((Touch.refl _ s).setAny (f := Reg.LF_STATUS_Q_STATE) (by decide)).same (setQuench_regs _ _ _ _)

theorem enableObj_only (s : State) (kind idx : Nat) : SysOnly s (s.enableObj kind idx) := by
  unfold State.enableObj
  split
  · exact ⟨s.regs, _, rfl⟩
  · exact ⟨_, _, rfl⟩

theorem pushMgmt_touch (p : List Patch) (s : State) (k : Nat) (m : List Byte) : Touch p s (s.pushMgmt k m) := .of_regs rfl

theorem evict_touch (s : State) (l reason : Nat) (disable : Bool) : Touch leafPatches s (s.evict l reason disable) := by
  have h1 : Touch leafPatches s ((((s.toLeafState l 6 reason).startQuench 5 l).bump Cnt.EVICTIONS).set Reg.BR_EVENTS_EVICTION 1) :=
    (((toLeafState_touch s l 6 reason).trans (startQuenchLeaf_touch _ l)).bump0 (by decide)).set0 (by decide)
  unfold State.evict
  exact (Touch.ite (fun _ => h1.trans (pushMgmt_touch _ _ _ _)) fun _ => h1).trans (refreshLeaves_touch _)

theorem rangeFail_touch (s : State) (l rtd : Nat) : Touch leafPatches s (s.rangeFail l rtd) := (((Touch.refl _ s).bump0 (by decide)).set0 (by decide)).log _ _ _

theorem setLeafInfo_touch (p : List Patch) (s : State) (l : Nat) (x : LeafInfo) : Touch p s (s.setLeafInfo l x) := .of_regs rfl

theorem rangingMiss_touch (s : State) (l : Nat) : Touch leafPatches s (s.rangingMiss l) := by
  have h1 : ∀ x, Touch leafPatches s ((s.setLeafInfo l x).toLeafState l 0 10) := fun x => (setLeafInfo_touch _ s l x).trans (toLeafState_touch _ _ _ _)
  have h2 : ∀ x y, Touch leafPatches s ((((s.setLeafInfo l x).toLeafState l 0 10).setSerial l 0).setLeafInfo l y) := fun x y =>
    ((h1 x).trans (setSerial_touch _ _ _)).trans (setLeafInfo_touch _ _ _ _)
  unfold State.rangingMiss
  exact .ite (fun _ => ((Touch.ite (fun _ => h1 _) fun _ => h2 _ _).trans (rangeFail_touch _ _ _)).trans (refreshLeaves_touch _)) fun _ => setLeafInfo_touch _ s l _

theorem missFollows_touch (s v : State) (g : Grant) (run : Nat) : Touch leafPatches v (s.missFollows v g run) := by
  unfold State.missFollows
  split
  · exact .refl _ v
  · exact .refl _ v
  · exact rangingMiss_touch v _
  · exact .ite (fun _ => toLeafState_touch v _ _ _) fun _ => .refl _ v
  · exact .ite (fun _ => rangingMiss_touch v _) fun _ => .ite (fun _ => evict_touch v _ _ _) fun _ => .refl _ v

def missPatches : List Patch := Reg.LF_STATUS_MISS_RUN.patch 0 :: Ctr.patches { Cnt.MISSED_GRANTS with n := 0 } ++ leafPatches

theorem missGrant_touch (s : State) (g : Grant) : Touch missPatches s (s.missGrant g) := by
  have hdrop : Touch missPatches s (s.dropGrant g) := .of_regs rfl
  rw [missGrant_eq]
  exact .ite (fun _ => hdrop) fun _ => ((hdrop.bumpAny (by decide)).setAny (by decide)).andThen (missFollows_touch s _ g _) (by decide)

/-- A grant of a leaf that is not ADMITTED on standby counts as missed (R233). -/
theorem missGrant_counted (s : State) (g : Grant) (hl : g.leaf < 1024) (htype : g.type ≠ 1) (h : s.leafState g.leaf ≠ 3 ∨ s.flag Reg.LF_STATUS_STANDBY g.leaf = false) :
    Counted Cnt.MISSED_GRANTS g.leaf 0 1 s (s.missGrant g) := by
  have hcond : ¬(decide (g.type = 1) || (decide (s.leafState g.leaf = 3) && s.flag Reg.LF_STATUS_STANDBY g.leaf)) = true := by
    rcases h with h | h <;> simp [htype, h]
  rw [missGrant_eq, if_neg hcond]
  have hafter : ∀ n : Nat, Touch (Reg.LF_STATUS_MISS_RUN.patch 0 :: leafPatches) ((s.dropGrant g).bump Cnt.MISSED_GRANTS g.leaf)
      (s.missFollows (((s.dropGrant g).bump Cnt.MISSED_GRANTS g.leaf).set Reg.LF_STATUS_MISS_RUN n g.leaf) g n) := fun n =>
    ((Touch.refl _ _).setAny (by decide)).andThen (missFollows_touch s _ g n) (by decide)
  have hbump : Counted Cnt.MISSED_GRANTS g.leaf 0 1 (s.dropGrant g) ((s.dropGrant g).bump Cnt.MISSED_GRANTS g.leaf) := counted_bump _ _ _ _ _ (.inl rfl)
  exact (hafter _).counted ((Touch.of_regs (l := []) rfl : Touch [] s (s.dropGrant g)).counted_of hbump hl (by decide)) hl (by decide)

/-! ### Detection and capture (R216–R224) -/

theorem Ended.path {but : List Nat} {s u t : State} (he : Ended but s u t) (f : Nat) : t.path f = u.path f :=
  path_congr (he.keeps (fun v => v.burst.paths) fun _ _ _ _ _ _ _ => rfl) f

theorem setPath_ended {s t : State} {f : Nat} {x : BurstPath} (he : Ended [] s (s.setPath f x) t) : t.path f = x ∧ RegsKept [] s t :=
  ⟨(he.path f).trans (path_setPath_self s f x), fun a ha hq => he.kept a ha hq⟩

theorem collision_touch (s : State) (f outcome a b : Nat) : Touch [Reg.BR_EVENTS_COLLISION.patch] s (s.collision f outcome a b) :=
  ((Touch.refl _ s).log _ _ _).set0 (by decide)

theorem collision_shown (s : State) (f outcome a b : Nat) : (s.collision f outcome a b).flag Reg.BR_EVENTS_COLLISION = true :=
  flag_set_self _ _ _ _ _ (by decide)

theorem collision_rest (s : State) (f outcome a b : Nat) : LeafRest s (s.collision f outcome a b) := ((LeafRest.refl s).log _ _ _).set _ _ _ _

/-- A weaker burst lost, once the grant of that burst is known. -/
theorem weakerLost_cases (s : State) (f leafA : Nat) (b : Detection) : ∃ v, (v = (s.bump Cnt.COLLISIONS).collision f 3 leafA (s.grantedLeaf f b)) ∧
    (s.weakerLost f leafA b = v ∨ ∃ g, s.weakerLost f leafA b = v.missGrant g) := by
  refine ⟨_, rfl, ?_⟩
  unfold State.weakerLost
  dsimp only
  cases s.grantAt f b.mf (16 * b.pos) with
  | some g => exact .inr ⟨g, rfl⟩
  | none => exact .inl rfl

theorem weakerLost_path (s : State) (f leafA : Nat) (b : Detection) (k : Nat) : (s.weakerLost f leafA b).path k = s.path k := by
  obtain ⟨v, rfl, h | ⟨g, h⟩⟩ := weakerLost_cases s f leafA b
  · rw [h]
    exact path_congr (((LeafRest.refl s).bump _ _ _ _).trans (collision_rest _ _ _ _ _)).paths k
  · rw [h, missGrant_path]
    exact path_congr (((LeafRest.refl s).bump _ _ _ _).trans (collision_rest _ _ _ _ _)).paths k

theorem weakerLost_after (s : State) (f leafA : Nat) (b : Detection) :
    Touch missPatches ((s.bump Cnt.COLLISIONS).collision f 3 leafA (s.grantedLeaf f b)) (s.weakerLost f leafA b) := by
  obtain ⟨v, rfl, h | ⟨g, h⟩⟩ := weakerLost_cases s f leafA b
  · rw [h]
    exact .refl _ _
  · rw [h]
    exact missGrant_touch _ g

theorem weakerLost_counted (s : State) (f leafA : Nat) (b : Detection) :
    Counted Cnt.COLLISIONS 0 0 1 s (s.weakerLost f leafA b) ∧ (s.weakerLost f leafA b).flag Reg.BR_EVENTS_COLLISION = true := by
  have hbump : Counted Cnt.COLLISIONS 0 0 1 s (s.bump Cnt.COLLISIONS) := counted_bump _ _ _ _ _ (.inl rfl)
  have hafter := weakerLost_after s f leafA b
  exact ⟨hafter.counted ((collision_touch _ _ _ _ _).counted hbump (by decide) (by decide)) (by decide) (by decide),
    (hafter.flag0 _ (by decide)).trans (collision_shown _ _ _ _ _)⟩

theorem burst_detect (f : Fin 32) (mf : Nat) (pos power afc : Int) (s : State) (harm : s.burstArmed f.val = true) :
    ((s.path f.val).main = none → ∃ t, exec (.burstDetect f mf pos power afc) s = .next t ∧
      t.path f.val = { s.path f.val with main := some ⟨mf, pos, power, s.afcEstimate afc, s.clock⟩, rssi := none, judged := false, acc := none, shadow := none } ∧ RegsKept [] s t) ∧
    (∀ a, (s.path f.val).main = some a → s.captures (s.path f.val) a none power = false → (s.path f.val).judged = false → ∃ t, exec (.burstDetect f mf pos power afc) s = .next t ∧
      t.path f.val = { s.path f.val with shadow := some ⟨mf, pos, power, s.afcEstimate afc, s.clock⟩ } ∧ RegsKept [] s t) ∧
    (∀ a, (s.path f.val).main = some a → s.captures (s.path f.val) a none power = false → (s.path f.val).judged = true → ∃ t, exec (.burstDetect f mf pos power afc) s = .next t ∧
      Counted Cnt.COLLISIONS 0 0 1 s t ∧ t.flag Reg.BR_EVENTS_COLLISION = true) ∧
    (∀ a, (s.path f.val).main = some a → s.captures (s.path f.val) a none power = true → exec (.burstDetect f mf pos power afc) s = .next s) := by
  have harmed : ¬(!s.burstArmed f.val) = true := by simp [harm]
  refine ⟨fun hidle => ?_, fun a ha hcap hj => ?_, fun a ha hcap hj => ?_, fun a ha hcap => ?_⟩
  · show ∃ t, execBurstDetect f mf pos power afc s = _ ∧ _
    unfold execBurstDetect
    dsimp only
    rw [if_neg harmed, hidle]
    exact done_then fun t he _ => setPath_ended he
  · show ∃ t, execBurstDetect f mf pos power afc s = _ ∧ _
    unfold execBurstDetect
    dsimp only
    rw [if_neg harmed, ha]
    dsimp only
    rw [hcap, hj, if_neg Bool.false_ne_true, if_neg Bool.false_ne_true]
    exact done_then fun t he _ => setPath_ended he
  · show ∃ t, execBurstDetect f mf pos power afc s = _ ∧ _
    unfold execBurstDetect
    dsimp only
    rw [if_neg harmed, ha]
    dsimp only
    rw [hcap, hj, if_neg Bool.false_ne_true, if_pos rfl]
    obtain ⟨hcount, hev⟩ := weakerLost_counted s f.val (match (s.path f.val).acc with | some c => c.leaf | none => s.grantedLeaf f.val a)
      ⟨mf, pos, power, s.afcEstimate afc, s.clock⟩
    refine done_then fun t he _ => ⟨he.touch.counted hcount (by decide) (by decide), (he.touch.flag0 _ (by decide)).trans hev⟩
  · show execBurstDetect f mf pos power afc s = _
    unfold execBurstDetect
    dsimp only
    rw [if_neg harmed, ha]
    dsimp only
    rw [hcap, if_pos rfl]

theorem burst_sync_timeout (f : Fin 32) (d : Detection) (s : State) (hd : (s.path f.val).main = some d) (hj : (s.path f.val).judged = false)
    (hdue : d.at_ + 1248000 / s.furRate ≤ s.clock) :
    ∃ t, exec (.burstSyncTimeout f) s = .next t ∧ Counted Cnt.FALSE_DETECTS 0 0 1 s t ∧ (t.path f.val).main = (s.path f.val).shadow ∧ (t.path f.val).shadow = none ∧
      RegsKept [Cnt.FALSE_DETECTS.addr 0 0] s t := by
  have hcond : (!(s.path f.val).judged && decide (d.at_ + 1248000 / s.furRate ≤ s.clock)) = true := by rw [hj, decide_eq_true hdue]; rfl
  show ∃ t, execBurstSyncTimeout f s = _ ∧ _
  unfold execBurstSyncTimeout
  dsimp only
  rw [hd]
  dsimp only
  rw [if_pos hcond]
  have hpath : (s.bump Cnt.FALSE_DETECTS).path f.val = s.path f.val := path_congr ((LeafRest.refl s).bump _ _ _ _).paths _
  have hbump : Counted Cnt.FALSE_DETECTS 0 0 1 s (s.bump Cnt.FALSE_DETECTS) := counted_bump _ _ _ _ _ (.inl rfl)
  have hrearm : ((s.bump Cnt.FALSE_DETECTS).rearm f.val).path f.val = (s.path f.val).take (s.path f.val).shadow := by
    unfold State.rearm
    rw [path_setPath_self, hpath]
  have hregs : Touch [] (s.bump Cnt.FALSE_DETECTS) ((s.bump Cnt.FALSE_DETECTS).rearm f.val) := .of_regs rfl
  refine done_then fun t he _ => ⟨?_, ?_, ?_, ?_⟩
  · exact he.touch.counted (hregs.counted hbump (by decide) (by decide)) (by decide) (by decide)
  · rw [he.path, hrearm]
    rfl
  · rw [he.path, hrearm]
    rfl
  · have : Touch ([Cnt.FALSE_DETECTS.addr 0 0].map wordPatch) s t :=
      (((Touch.refl _ s).bump0 (by decide)).same (u := (s.bump Cnt.FALSE_DETECTS).rearm f.val) rfl).andThen he.touch (by decide)
    exact this.regsKept_words

/-- What follows a capture over an accepted burst: the codewords that had not come in whole are lost (R224). -/
def State.truncated (s1 : State) (f lb : Nat) (c : Accepted) : State :=
  if c.bad then (s1.bump Cnt.TRUNCATED).collision f 2 c.leaf lb else ((s1.bump Cnt.TRUNCATED).collision f 2 c.leaf lb).bump Cnt.BAD_BURSTS c.leaf

theorem truncated_path (s : State) (f lb : Nat) (c : Accepted) (k : Nat) : (s.truncated f lb c).path k = s.path k := by
  have h : LeafRest s ((s.bump Cnt.TRUNCATED).collision f 2 c.leaf lb) := ((LeafRest.refl s).bump _ _ _ _).trans (collision_rest _ _ _ _ _)
  exact path_congr (LeafRest.ite h (h.bump _ _ _ _)).paths k

def truncatedPatches : List Patch := Reg.BR_EVENTS_COLLISION.patch :: Cnt.TRUNCATED.patches ++ Ctr.patches { Cnt.BAD_BURSTS with n := 0 }

theorem truncated_touch (s : State) (f lb : Nat) (c : Accepted) : Touch truncatedPatches s (s.truncated f lb c) := by
  have h : Touch truncatedPatches s ((s.bump Cnt.TRUNCATED).collision f 2 c.leaf lb) := ((Touch.refl _ s).bump0 (by decide)).andThen (collision_touch _ _ _ _ _) (by decide)
  exact .ite (fun _ => h) fun _ => h.bumpAny (by decide)

/-- A counter of one word that lies above all that is touched. -/
theorem Touch.countAbove {l : List Patch} {s t : State} (h : Touch l s t) (c : Ctr) (i : Nat) (hw : c.words = 1) (hl : (sharedPatches ++ l).all (·.below c.base) = true) :
    t.count c i = s.count c i := by
  refine count_eq_of_reg s t c i 0 fun a ha => ?_
  rw [Ctr.wordsOf, if_pos hw, List.mem_singleton] at ha
  subst ha
  refine h.reg _ fun p hp hhas => ?_
  have := hhas.lt_of_below (List.all_eq_true.mp hl p hp)
  unfold Ctr.addr at this
  omega

/-- An accepted burst cut short: TRUNCATED counts, and its leaf's BAD_BURSTS where it was clean so far (R224). -/
theorem truncated_counted (s : State) (f lb : Nat) (c : Accepted) : Counted Cnt.TRUNCATED 0 0 1 s (s.truncated f lb c) ∧
    (c.bad = false → Counted Cnt.BAD_BURSTS c.leaf 0 1 s (s.truncated f lb c)) := by
  have hbump : Counted Cnt.TRUNCATED 0 0 1 s (s.bump Cnt.TRUNCATED) := counted_bump _ _ _ _ _ (.inl rfl)
  have hcoll := collision_touch (s.bump Cnt.TRUNCATED) f 2 c.leaf lb
  have hafter : Touch (Reg.BR_EVENTS_COLLISION.patch :: Ctr.patches { Cnt.BAD_BURSTS with n := 0 }) (s.bump Cnt.TRUNCATED) (s.truncated f lb c) :=
    .ite (fun _ => hcoll.mono (by decide)) fun _ => (hcoll.mono (by decide)).bumpAny (by decide)
  refine ⟨hafter.counted hbump (by decide) (by decide), fun hbad => ?_⟩
  have hu : s.truncated f lb c = ((s.bump Cnt.TRUNCATED).collision f 2 c.leaf lb).bump Cnt.BAD_BURSTS c.leaf := if_neg (by simp [hbad])
  have hbefore : Touch (Reg.BR_EVENTS_COLLISION.patch :: Cnt.TRUNCATED.patches) s ((s.bump Cnt.TRUNCATED).collision f 2 c.leaf lb) :=
    ((Touch.refl _ s).bump0 (by decide)).andThen hcoll (by decide)
  rw [hu]
  exact counted_of_count (counted_bump _ _ _ _ _ (.inl rfl)) (hbefore.countAbove _ _ rfl (by decide)) rfl

theorem burst_capture (f : Fin 32) (mf : Nat) (pos power afc : Int) (latched : Option Int) (complete : Nat) (a : Detection) (s : State) (harm : s.burstArmed f.val = true)
    (ha : (s.path f.val).main = some a) (hcap : s.captures (s.path f.val) a latched power = true) :
    ∃ t, exec (.burstCapture f mf pos ⟨power, afc⟩ ⟨latched, complete⟩) s = .next t ∧ Counted Cnt.CAPTURES 0 0 1 s t ∧
      (t.path f.val).main = some ⟨mf, pos, power, s.afcEstimate afc, s.clock⟩ ∧ (t.path f.val).judged = false ∧ (t.path f.val).acc = none ∧
      (∀ c, (s.path f.val).acc = some c → (t.path f.val).tails = (s.path f.val).leave c complete none ∧
        (complete < c.cw → Counted Cnt.TRUNCATED 0 0 1 s t ∧ (c.bad = false → Counted Cnt.BAD_BURSTS c.leaf 0 1 s t)) ∧
        (c.cw ≤ complete → Counted Cnt.TRUNCATED 0 0 0 s t)) := by
  have harmed : ¬(!s.burstArmed f.val || !s.captures (s.path f.val) a latched power) = true := by simp [harm, hcap]
  have hbump : Counted Cnt.CAPTURES 0 0 1 s (s.bump Cnt.CAPTURES) := counted_bump _ _ _ _ _ (.inl rfl)
  have hset : ∀ x, Touch [] (s.bump Cnt.CAPTURES) ((s.bump Cnt.CAPTURES).setPath f.val x) := fun x => .of_regs rfl
  have hbefore : ∀ x, Touch Cnt.CAPTURES.patches s ((s.bump Cnt.CAPTURES).setPath f.val x) := fun x => ((Touch.refl _ s).bump0 (by decide)).same rfl
  show ∃ t, execBurstCapture f mf pos ⟨power, afc⟩ ⟨latched, complete⟩ s = _ ∧ _
  unfold execBurstCapture
  dsimp only
  rw [ha]
  dsimp only
  rw [if_neg harmed]
  cases hacc : (s.path f.val).acc with
  | some c =>
    dsimp only
    have hone : ∀ b : Accepted, some c = some b → c = b := fun b h => Option.some.inj h
    by_cases hcw : c.cw ≤ complete
    · rw [if_pos hcw]
      refine done_then fun t he _ => ?_
      rw [he.path, path_setPath_self]
      refine ⟨he.touch.counted ((hset _).counted hbump (by decide) (by decide)) (by decide) (by decide), rfl, rfl, rfl, fun b hb => ?_⟩
      cases hone b hb
      refine ⟨rfl, fun h => absurd hcw (Nat.not_le.mpr h), fun _ => counted_zero ?_ (.inl rfl)⟩
      rw [he.touch.count0 _ (by decide), (hbefore _).count0 _ (by decide)]
    · rw [if_neg hcw]
      show ∃ t, done s (((s.bump Cnt.CAPTURES).setPath f.val _).truncated f.val _ c) = _ ∧ _
      refine done_then fun t he _ => ?_
      rw [he.path, truncated_path, path_setPath_self]
      refine ⟨he.touch.counted ((truncated_touch _ _ _ c).counted ((hset _).counted hbump (by decide) (by decide)) (by decide) (by decide)) (by decide) (by decide),
        rfl, rfl, rfl, fun b hb => ?_⟩
      cases hone b hb
      obtain ⟨htrunc, hbad⟩ := truncated_counted ((s.bump Cnt.CAPTURES).setPath f.val { (s.path f.val).take (some ⟨mf, pos, power, s.afcEstimate afc, s.clock⟩) with
        tails := (s.path f.val).leave c complete none }) f.val (s.grantedLeaf f.val ⟨mf, pos, power, s.afcEstimate afc, s.clock⟩) c
      refine ⟨rfl, fun _ => ⟨?_, fun hclean => ?_⟩, fun h => absurd h hcw⟩
      · exact he.touch.counted ((hbefore _).counted_of htrunc (by decide) (by decide)) (by decide) (by decide)
      · exact counted_of_count (hbad hclean) ((hbefore _).countAbove _ _ rfl (by decide)) (he.touch.countAbove _ _ rfl (by decide))
  | none =>
    dsimp only
    have hwin : ∀ {u t : State}, Touch (Reg.BR_EVENTS_COLLISION.patch :: Cnt.FALSE_DETECTS.patches ++ missPatches)
        ((s.bump Cnt.CAPTURES).setPath f.val ((s.path f.val).take (some ⟨mf, pos, power, s.afcEstimate afc, s.clock⟩))) u →
        u.path f.val = (s.path f.val).take (some ⟨mf, pos, power, s.afcEstimate afc, s.clock⟩) → Ended [] s u t →
        Counted Cnt.CAPTURES 0 0 1 s t ∧ (t.path f.val).main = some ⟨mf, pos, power, s.afcEstimate afc, s.clock⟩ ∧ (t.path f.val).judged = false ∧ (t.path f.val).acc = none ∧
        (∀ c, none = some c → (t.path f.val).tails = (s.path f.val).leave c complete none ∧
          (complete < c.cw → Counted Cnt.TRUNCATED 0 0 1 s t ∧ (c.bad = false → Counted Cnt.BAD_BURSTS c.leaf 0 1 s t)) ∧
          (c.cw ≤ complete → Counted Cnt.TRUNCATED 0 0 0 s t)) := by
      intro u t hu hpath he
      rw [he.path, hpath]
      exact ⟨he.touch.counted (hu.counted ((hset _).counted hbump (by decide) (by decide)) (by decide) (by decide)) (by decide) (by decide), rfl, rfl, rfl, nofun⟩
    cases s.grantAt f.val a.mf (16 * a.pos) with
    | some g =>
      refine done_then fun t he _ => hwin (((collision_touch _ _ _ _ _).mono (by decide)).andThen (missGrant_touch _ g) (by decide)) ?_ he
      rw [missGrant_path, path_congr (collision_rest _ _ _ _ _).paths, path_setPath_self]
    | none =>
      dsimp only
      split
      · refine done_then fun t he _ => hwin ((collision_touch _ _ _ _ _).mono (by decide)) ?_ he
        rw [path_congr (collision_rest _ _ _ _ _).paths, path_setPath_self]
      · refine done_then fun t he _ => hwin ((Touch.refl _ _).bump0 (by decide)) ?_ he
        rw [path_congr ((LeafRest.refl _).bump _ _ _ _).paths, path_setPath_self]

/-! ### The end of a burst (R216, R221, R232, R270) -/

theorem leafInfo_congr {s t : State} (h : t.burst.leaves = s.burst.leaves) (l : Nat) : t.leafInfo l = s.leafInfo l := congrArg (fun p => tget ({} : LeafInfo) p l) h

def freqPatches : List Patch := [Reg.LF_FREQ_RESID.patch 0, Reg.LF_FREQ_FREQ_CORR.patch 0]

theorem correctFreq_touch (s : State) (l : Nat) (resid : Int) : Touch freqPatches s (s.correctFreq l resid) := by
  have h1 : Touch freqPatches s (s.set Reg.LF_FREQ_RESID (twos 16 resid) l) := (Touch.refl _ s).setAny (by decide)
  unfold State.correctFreq
  exact .ite (fun _ => (h1.setAny (by decide)).trans (pushMgmt_touch _ _ _ _)) fun _ => h1

theorem correctFreq_rest (s : State) (l : Nat) (resid : Int) : LeafRest s (s.correctFreq l resid) := by
  have h1 : LeafRest s (s.set Reg.LF_FREQ_RESID (twos 16 resid) l) := (LeafRest.refl s).set _ _ _ _
  unfold State.correctFreq
  exact .ite ((h1.set _ _ _ _).push _ _) h1

theorem measureBurst_tx (s : State) (a : Accepted) (levels : List (Fin 65536 × Fin 65536)) : ∃ x, s.measureBurst a levels = { s with tx := x } := by
  unfold State.measureBurst
  split
  · split
    · exact ⟨_, rfl⟩
    · exact ⟨s.tx, rfl⟩
  · exact ⟨s.tx, rfl⟩

/-- An accepted burst of a leaf has ended: its figures, and whether its seed is written back. -/
def State.burstEnded (s : State) (f : Nat) (x : BurstPath) (a : Accepted) (resid cd : Int) (snr : Nat) (final : Equalised) : State :=
  let s1 := (s.setPath f (x.take none)).set Reg.LF_LAST_SNR snr a.leaf
  let s2 := if a.type = 1 then s1 else (s1.correctFreq a.leaf resid).measureBurst a final.levels
  let s3 := s2.setPath f { s2.path f with tails := x.leave a a.cw (some (final.taps, cd)) }
  if a.left = 0 && !a.bad then s3.writeBack a final.taps cd else s3

/-- What the figures of an ended burst leave of the state beside registers. -/
structure Measured (s t : State) : Prop where
  paths : t.burst.paths = s.burst.paths
  dev : t.devNs = s.devNs
  touch : Touch freqPatches s t

theorem measured_of (s : State) (a : Accepted) (resid : Int) (levels : List (Fin 65536 × Fin 65536)) :
    Measured s (if a.type = 1 then s else (s.correctFreq a.leaf resid).measureBurst a levels) := by
  split
  · exact ⟨rfl, rfl, .refl _ s⟩
  · obtain ⟨x, hx⟩ := measureBurst_tx (s.correctFreq a.leaf resid) a levels
    have hr := correctFreq_rest s a.leaf resid
    rw [hx]
    exact ⟨hr.paths, hr.keeps State.devNs fun _ _ _ _ _ _ _ _ => rfl, (correctFreq_touch s a.leaf resid).same rfl⟩

theorem writeBack_path (s : State) (a : Accepted) (taps : List Byte) (cd : Int) (f : Nat) : (s.writeBack a taps cd).path f = s.path f :=
  path_congr ((((LeafRest.refl s).leaf _ _).set _ _ _ _).set _ _ _ _).paths f

theorem writeBack_info (s : State) (a : Accepted) (taps : List Byte) (cd : Int) :
    (s.writeBack a taps cd).leafInfo a.leaf = { s.leafInfo a.leaf with seed := some ((List.range 144).map (fun i => taps.getD i 0)), seedAt := s.devNs } :=
  tget_tput_self ({} : LeafInfo) s.burst.leaves a.leaf _

theorem burstEnded_path (s : State) (f : Nat) (x : BurstPath) (a : Accepted) (resid cd : Int) (snr : Nat) (final : Equalised) :
    (s.burstEnded f x a resid cd snr final).path f = { x.take none with tails := x.leave a a.cw (some (final.taps, cd)) } := by
  have hm := measured_of ((s.setPath f (x.take none)).set Reg.LF_LAST_SNR snr a.leaf) a resid final.levels
  unfold State.burstEnded
  dsimp only
  generalize (if a.type = 1 then (s.setPath f (x.take none)).set Reg.LF_LAST_SNR snr a.leaf
    else (((s.setPath f (x.take none)).set Reg.LF_LAST_SNR snr a.leaf).correctFreq a.leaf resid).measureBurst a final.levels) = s2 at hm
  have hpath : s2.path f = x.take none := (path_congr hm.paths f).trans (path_setPath_self s f _)
  split
  · rw [writeBack_path, path_setPath_self, hpath]
  · rw [path_setPath_self, hpath]

theorem burstEnded_snr (s : State) (f : Nat) (x : BurstPath) (a : Accepted) (resid cd : Int) (snr : Nat) (final : Equalised) :
    (s.burstEnded f x a resid cd snr final).get Reg.LF_LAST_SNR a.leaf = snr % 2 ^ 16 := by
  have hm := measured_of ((s.setPath f (x.take none)).set Reg.LF_LAST_SNR snr a.leaf) a resid final.levels
  have hset : ((s.setPath f (x.take none)).set Reg.LF_LAST_SNR snr a.leaf).get Reg.LF_LAST_SNR a.leaf = snr % 2 ^ 16 := get_set_self _ _ _ _ _ (by decide)
  unfold State.burstEnded
  dsimp only
  generalize (s.setPath f (x.take none)).set Reg.LF_LAST_SNR snr a.leaf = s1 at hm hset
  generalize (if a.type = 1 then s1 else (s1.correctFreq a.leaf resid).measureBurst a final.levels) = s2 at hm
  have hpath : ∀ y, Touch (freqPatches ++ burstCodewordPatches) s1 (s2.setPath f y) := fun y => (hm.touch.mono (by decide)).trans (setPath_touch _ s2 f y)
  have hlast : ∀ v, Touch (freqPatches ++ burstCodewordPatches) s1 v → v.get Reg.LF_LAST_SNR a.leaf = snr % 2 ^ 16 := fun v hv =>
    (hv.get _ a.leaf 0 0 1 (by decide) (by decide) (.inl rfl) Nat.one_pos).trans hset
  refine hlast _ (.ite (fun _ => (hpath _).andThen (writeBack_touch _ a _ _) (by decide)) fun _ => hpath _)

theorem burstEnded_seed (s : State) (f : Nat) (x : BurstPath) (a : Accepted) (resid cd : Int) (snr : Nat) (final : Equalised) (hbad : a.bad = false) (hleft : a.left = 0) :
    ((s.burstEnded f x a resid cd snr final).leafInfo a.leaf).seed = some ((List.range 144).map (fun i => final.taps.getD i 0)) ∧
      ((s.burstEnded f x a resid cd snr final).leafInfo a.leaf).seedAt = s.devNs := by
  have hm := measured_of ((s.setPath f (x.take none)).set Reg.LF_LAST_SNR snr a.leaf) a resid final.levels
  have hcond : (decide (a.left = 0) && !a.bad) = true := by simp [hbad, hleft]
  unfold State.burstEnded
  dsimp only
  rw [if_pos hcond, writeBack_info]
  exact ⟨rfl, hm.dev⟩

theorem burst_end (f : Fin 32) (resid cd : Int) (snr : Fin 65536) (taps : List Byte) (levels : List (Fin 65536 × Fin 65536)) (s : State) (hmain : (s.path f.val).main ≠ none)
    (hj : (s.path f.val).judged = true) :
    ∃ t, exec (.burstEnd f resid cd snr ⟨taps, levels⟩) s = .next t ∧ (t.path f.val).main = (none : Option Detection) ∧ (t.path f.val).judged = false ∧ (t.path f.val).acc = none ∧
      (∀ a : Accepted, (s.path f.val).acc = some a → a.leaf < 1024 → t.get Reg.LF_LAST_SNR a.leaf = snr.val ∧
        (t.path f.val).tails = (s.path f.val).leave a a.cw (some (taps, cd)) ∧
        (a.bad = false → a.left = 0 → (t.leafInfo a.leaf).seed = some ((List.range 144).map (fun i => taps.getD i 0)) ∧ (t.leafInfo a.leaf).seedAt = s.devNs)) := by
  have hgo : ¬((s.path f.val).main.isNone || !(s.path f.val).judged) = true := by
    rw [hj]
    cases h : (s.path f.val).main with
    | none => exact absurd h hmain
    | some d => simp
  show ∃ t, execBurstEnd f resid cd snr ⟨taps, levels⟩ s = _ ∧ _
  unfold execBurstEnd
  dsimp only
  rw [if_neg hgo]
  cases hacc : (s.path f.val).acc with
  | none =>
    refine done_then fun t he _ => ?_
    rw [he.path, path_setPath_self]
    exact ⟨rfl, rfl, rfl, nofun⟩
  | some a =>
    dsimp only
    by_cases hleaf : a.leaf = 0xFFFF
    · rw [if_pos hleaf]
      refine done_then fun t he _ => ?_
      rw [he.path, path_setPath_self]
      refine ⟨rfl, rfl, rfl, fun b hb hlt => ?_⟩
      cases hb
      rw [hleaf] at hlt
      exact absurd hlt (by decide)
    · rw [if_neg hleaf]
      show ∃ t, done s (s.burstEnded f.val (s.path f.val) a resid cd snr.val ⟨taps, levels⟩) = _ ∧ _
      refine done_then fun t he _ => ?_
      rw [he.path, burstEnded_path]
      refine ⟨rfl, rfl, rfl, fun b hb hlt => ?_⟩
      cases hb
      have hinfo : t.leafInfo a.leaf = (s.burstEnded f.val (s.path f.val) a resid cd snr.val ⟨taps, levels⟩).leafInfo a.leaf :=
        leafInfo_congr (he.keeps (fun v => v.burst.leaves) fun _ _ _ _ _ _ _ => rfl) _
      refine ⟨?_, rfl, fun hbad hleft => hinfo ▸ burstEnded_seed s f.val _ a resid cd snr.val ⟨taps, levels⟩ hbad hleft⟩
      rw [he.touch.getRow _ hlt (by decide), burstEnded_snr]
      exact Nat.mod_eq_of_lt snr.isLt

theorem grant_missed (leaf : Fin 1024) (g : Grant) (s : State) (hg : s.burst.grants.find? (fun g => g.leaf == leaf.val && g.type ≠ 1) = some g)
    (hdue : s.grantDeadline g ≤ s.clock) :
    ∃ t, exec (.grantMissed leaf) s = .next t ∧ g ∉ t.burst.grants ∧
      (s.leafState g.leaf ≠ 3 ∨ s.flag Reg.LF_STATUS_STANDBY g.leaf = false → Counted Cnt.MISSED_GRANTS g.leaf 0 1 s t) := by
  have hfound := List.find?_some hg
  simp only [Bool.and_eq_true, beq_iff_eq, decide_eq_true_eq] at hfound
  obtain ⟨hleaf, htype⟩ := hfound
  have hl : g.leaf < 1024 := hleaf ▸ leaf.isLt
  show ∃ t, execGrantMissed leaf s = _ ∧ _
  unfold execGrantMissed
  rw [hg]
  dsimp only
  refine (if_pos (c := s.grantDeadline g ≤ Int.ofNat s.clock) hdue) ▸ done_then fun t he _ => ⟨?_, fun h => ?_⟩
  · rw [he.keeps (fun v => v.burst.grants) fun _ _ _ _ _ _ _ => rfl]
    exact missGrant_grants s g
  · exact he.touch.counted (missGrant_counted s g hl htype h) hl (by decide)

/-! ### The grant map (R213–R215, R352, R537) -/

theorem deferGrants_rest (s : State) (gs : List Grant) : LeafRest s (s.deferGrants gs) := by
  have h1 : LeafRest s { s with burst := { s.burst with deferred := gs.map (·.leaf) } } :=
    ⟨s.regs, s.logs, s.sys, s.burst.leaves, s.burst.mgmt, gs.map (·.leaf), s.self.sent, rfl⟩
  unfold State.deferGrants
  exact .ite h1 ((h1.bump _ _ _ _).set _ _ _ _)

theorem rangedGrants_rest (mf : Nat) (gs : List Grant) (s : State) : LeafRest s (gs.foldl (fun s g => if g.type = 2 && s.leafState g.leaf = 2 then
    s.setLeafInfo g.leaf { s.leafInfo g.leaf with lastRange := some mf } else s) s) :=
  foldl_inv (P := fun v => LeafRest s v) (fun _ _ _ hv => .ite (hv.leaf _ _) hv) (.refl s)

theorem grant_map_build (starts : List (Fin 4194304)) (gs : List Grant) (s : State) (hmode : s.mode = 1) (hcoh : s.coherent = true) (hbuilt : s.burst.built = none)
    (hgs : gs = (s.wholeMap ((s.frm.mfn + 3) % 2 ^ 32)).1.zipIdx.map (fun e => { e.1 with start := ((starts.map (·.val)).getD e.2 0) })) (hplaced : s.placed gs = true) :
    ∃ t, exec (.grantMapBuild starts) s = .next t ∧ t.burst.built = some gs := by
  have hcond : ¬(decide (s.mode ≠ 1) || !s.coherent || s.burst.built.isSome || !s.placed gs) = true := by simp [hmode, hcoh, hbuilt, hplaced]
  show ∃ t, execGrantMapBuild starts s = _ ∧ _
  unfold execGrantMapBuild
  dsimp only
  rw [← hgs, if_neg hcond]
  refine done_then fun t he _ => ?_
  rw [he.keeps (fun v => v.burst.built) fun _ _ _ _ _ _ _ => rfl, (deferGrants_rest _ _).keeps (fun v => v.burst.built) fun _ _ _ _ _ _ _ _ => rfl,
    (rangedGrants_rest _ gs _).keeps (fun v => v.burst.built) fun _ _ _ _ _ _ _ _ => rfl]

/-- The grants of a map wait for their bursts, its windows open (R353). -/
def State.mapSent (s : State) (gs : List Grant) : State :=
  { s with burst := { s.burst with
    sent := gs
    mapFor := some s.frm.mfn
    grants := s.burst.grants ++ gs.filter (fun g => g.type ≠ 1)
    windows := s.burst.windows ++ gs.filter (fun g => g.type = 1)
    sinceSurvey := if (gs.filter (fun g => g.type = 1)).isEmpty then s.burst.sinceSurvey else 0 } }

/-- SURVEY_PARAMS of a window. -/
def State.announce (s : State) (w : Grant) : State :=
  s.pushMgmt (w.furrow / 4) (msgSurvey (s.get Reg.BR_CFG_GUARD_NS) (s.get Reg.BR_TIMING_EQD_TOTAL_US) (s.get Reg.BR_TIMING_RTD_MIN_US))

theorem sendMap_eq (s : State) (all : List Grant) :
    s.sendMap all = ((all.filter s.stillGranted).filter (fun g => g.type = 1)).foldl State.announce (s.mapSent (all.filter s.stillGranted)) := rfl

theorem sendMap_rest (s : State) (all : List Grant) : LeafRest (s.mapSent (all.filter s.stillGranted)) (s.sendMap all) := by
  rw [sendMap_eq]
  exact foldl_inv (P := fun v => LeafRest _ v) (fun _ _ _ hv => hv.push _ _) (.refl _)

theorem sendMap_mapFor (s : State) (all : List Grant) : (s.sendMap all).burst.mapFor = some s.frm.mfn :=
  (sendMap_rest s all).keeps (fun v => v.burst.mapFor) fun _ _ _ _ _ _ _ _ => rfl

theorem sendMap_regs (s : State) (all : List Grant) : (s.sendMap all).regs = s.regs := by
  rw [sendMap_eq]
  exact foldl_keeps State.regs (g := State.announce) (fun _ _ => rfl) _ (s.mapSent _)

theorem gmap_late (s : State) (hmode : s.mode = 1) (hcoh : s.coherent = true) (hstart : s.frm.started = true) (hfor : s.burst.mapFor ≠ some s.frm.mfn) :
    ∃ t, exec .gmapLate s = .next t ∧ t.burst.mapFor = some s.frm.mfn ∧ Counted Cnt.GMAP_LATE 0 0 1 s t ∧ t.flag Reg.ENG_EVENTS_GMAP_LATE = true := by
  have hcond : ¬(decide (s.mode ≠ 1) || !s.coherent || !s.frm.started || s.burst.mapFor == some s.frm.mfn) = true := by simp [hmode, hcoh, hstart, hfor]
  show ∃ t, execGmapLate s = _ ∧ _
  unfold execGmapLate
  dsimp only
  rw [if_neg hcond]
  have hsent := sendMap_mapFor s ((s.burst.sent.filter (fun g => g.type ≠ 2)).map (fun g => { g with mf := (s.frm.mfn + 2) % 2 ^ 32 }))
  have hregs := sendMap_regs s ((s.burst.sent.filter (fun g => g.type ≠ 2)).map (fun g => { g with mf := (s.frm.mfn + 2) % 2 ^ 32 }))
  generalize s.sendMap ((s.burst.sent.filter (fun g => g.type ≠ 2)).map (fun g => { g with mf := (s.frm.mfn + 2) % 2 ^ 32 })) = v at hsent hregs
  generalize ((s.wholeMap ((s.frm.mfn + 2) % 2 ^ 32)).1.filter (fun g => g.type = 2)) = two
  have hdefer := deferGrants_rest v two
  have htouch : Touch (Reg.PROT_EVENTS_GRANT_DEFER.patch :: Cnt.GRANT_DEFERRALS.patches) s (v.deferGrants two) := by
    have h1 : Touch (Reg.PROT_EVENTS_GRANT_DEFER.patch :: Cnt.GRANT_DEFERRALS.patches) s { v with burst := { v.burst with deferred := two.map (·.leaf) } } := .of_regs hregs
    unfold State.deferGrants
    exact .ite (fun _ => h1) fun _ => (h1.bump0 (by decide)).set0 (by decide)
  have hset : Touch [Reg.ENG_EVENTS_GMAP_LATE.patch] ((v.deferGrants two).bump Cnt.GMAP_LATE) (((v.deferGrants two).bump Cnt.GMAP_LATE).set Reg.ENG_EVENTS_GMAP_LATE 1) :=
    (Touch.refl _ _).set0 (by decide)
  refine done_then fun t he _ => ⟨?_, ?_, (he.touch.flag0 _ (by decide)).trans (flag_set_self _ _ _ _ _ (by decide))⟩
  · rw [he.keeps (fun v => v.burst.mapFor) fun _ _ _ _ _ _ _ => rfl, (((LeafRest.refl (v.deferGrants two)).bump _ _ _ _).set _ _ _ _).keeps (fun v => v.burst.mapFor)
      fun _ _ _ _ _ _ _ _ => rfl, hdefer.keeps (fun v => v.burst.mapFor) fun _ _ _ _ _ _ _ _ => rfl]
    exact hsent
  · have hb : Counted Cnt.GMAP_LATE 0 0 1 (v.deferGrants two) ((v.deferGrants two).bump Cnt.GMAP_LATE) := counted_bump _ _ _ _ _ (.inl rfl)
    exact he.touch.counted (hset.counted (htouch.counted_of hb (by decide) (by decide)) (by decide) (by decide)) (by decide) (by decide)

/-! ### Registration (R231, R234, R235, R238) -/

/-- EVICTIONS with its event. -/
def State.evictNoted (s : State) : State := (s.bump Cnt.EVICTIONS).set Reg.BR_EVENTS_EVICTION 1

theorem evict_eq (s : State) (l reason : Nat) (disable : Bool) : s.evict l reason disable =
    (if disable then ((s.toLeafState l 6 reason).startQuench 5 l).evictNoted.pushMgmt (s.leafInfo l).group (msgDisable (s.leafSerial l) l)
      else ((s.toLeafState l 6 reason).startQuench 5 l).evictNoted).refreshLeaves := rfl

/-- An evicted leaf reads EVICTED, is counted and shown (R235). -/
theorem evict_shown (s : State) (l reason : Nat) (disable : Bool) (hl : l < 1024) : (s.evict l reason disable).leafState l = 6 ∧
    Counted Cnt.EVICTIONS 0 0 1 s (s.evict l reason disable) ∧ (s.evict l reason disable).flag Reg.BR_EVENTS_EVICTION = true := by
  have hstate : Touch [Reg.BR_EVENTS_LEAF_STATE.patch] (s.set Reg.LF_STATUS_STATE 6 l) (s.toLeafState l 6 reason) := ((Touch.refl _ _).log _ _ _).set0 (by decide)
  have hq : Touch [Reg.LF_STATUS_Q_STATE.patch 0] (s.toLeafState l 6 reason) ((s.toLeafState l 6 reason).startQuench 5 l) := by
    unfold State.startQuench
    split
    · exact ((Touch.refl _ _).setAny (f := Reg.LF_STATUS_Q_STATE) (by decide)).same (setQuench_regs _ _ _ _)
    · exact .of_regs (setQuench_regs _ _ _ _)
    · exact .of_regs (setQuench_regs _ _ _ _)
  have hbefore : Touch [Reg.LF_STATUS_STATE.patch 0, Reg.BR_EVENTS_LEAF_STATE.patch, Reg.LF_STATUS_Q_STATE.patch 0] s ((s.toLeafState l 6 reason).startQuench 5 l) :=
    ((((Touch.refl _ s).setAny (by decide)).log _ _ _).set0 (by decide)).andThen hq (by decide)
  have hsix : ((s.toLeafState l 6 reason).startQuench 5 l).leafState l = 6 := by
    unfold State.leafState
    rw [hq.getRow _ hl (by decide), hstate.getRow _ hl (by decide)]
    exact get_set_self _ _ _ _ _ (by decide)
  rw [evict_eq]
  generalize (s.toLeafState l 6 reason).startQuench 5 l = v at hbefore hsix
  have hev : Touch [Reg.BR_EVENTS_EVICTION.patch] (v.bump Cnt.EVICTIONS) v.evictNoted := (Touch.refl _ _).set0 (by decide)
  have hnoted : Touch (Reg.BR_EVENTS_EVICTION.patch :: Cnt.EVICTIONS.patches) v v.evictNoted := ((Touch.refl _ v).bump0 (by decide)).set0 (by decide)
  have hshown : v.evictNoted.flag Reg.BR_EVENTS_EVICTION = true := flag_set_self _ _ _ _ _ (by decide)
  have hafter : ∀ m : List Byte, Touch [Reg.BR_STATUS_ADMITTED.patch, Reg.BR_STATUS_REGISTERED.patch] v.evictNoted
      (if disable then v.evictNoted.pushMgmt (s.leafInfo l).group m else v.evictNoted).refreshLeaves := fun m =>
    ((Touch.ite (fun _ => pushMgmt_touch _ _ _ _) fun _ => .refl _ _).set0 (by decide)).set0 (by decide)
  have hcount : Counted Cnt.EVICTIONS 0 0 1 v (v.bump Cnt.EVICTIONS) := counted_bump _ _ _ _ _ (.inl rfl)
  refine ⟨?_, ?_, ?_⟩
  · exact ((hafter _).getRow _ hl (by decide)).trans ((hnoted.getRow _ hl (by decide)).trans hsix)
  · exact (hafter _).counted (hev.counted (hbefore.counted_of hcount (by decide) (by decide)) (by decide) (by decide)) (by decide) (by decide)
  · exact ((hafter _).flag0 _ (by decide)).trans hshown

theorem leaf_evict (mb : Fin 8) (p : List Byte) (s : State) (hreq : s.request mb.val 0x0503 = some p) (hon : s.blocksOff = false) (hl : u16 p 0 < 1024)
    (h0 : s.leafState (u16 p 0) ≠ 0) (h6 : s.leafState (u16 p 0) ≠ 6) :
    ∃ t, exec (.leafEvict mb) s = .next t ∧ Answered mb.val ok s t ∧ t.leafState (u16 p 0) = 6 ∧ Counted Cnt.EVICTIONS 0 0 1 s t ∧ t.flag Reg.BR_EVENTS_EVICTION = true := by
  have hcond : ¬(decide (s.leafState (u16 p 0) = 0) || decide (s.leafState (u16 p 0) = 6)) = true := by simp [h0, h6]
  obtain ⟨hsix, hcount, hev⟩ := evict_shown (s.serving mb.val) (u16 p 0) 7 (bitsOf (u8 p 2) 0 1 == 1) hl
  have hserving : Counted Cnt.EVICTIONS 0 0 1 s ((s.serving mb.val).evict (u16 p 0) 7 (bitsOf (u8 p 2) 0 1 == 1)) := hcount
  show ∃ t, execLeafEvict mb s = _ ∧ _
  refine actOn_then (r := ok) (u := (s.serving mb.val).evict (u16 p 0) 7 (bitsOf (u8 p 2) 0 1 == 1)) hreq hon (if_neg hcond) fun t he hans => ⟨?_, ?_, ?_, ?_⟩
  · exact hans.of_mbs (evict_rest _ _ _ _).mbs
  · exact (he.answer_touch.getRow _ hl (by decide)).trans hsix
  · exact he.answer_touch.counted hserving (by decide) (by decide)
  · exact (he.answer_touch.flag0 _ (by decide)).trans hev

theorem leaf_grant_timeout (s : State) (hmode : s.mode = 2) (hstate : s.selfState = 3 ∨ s.selfState = 4) (hdue : s.self.lastNamed + 416000000 ≤ s.clock) :
    ∃ t, exec .leafGrantTimeout s = .next t ∧ t.selfState = 2 ∧ { t.self with sent := s.self.sent } = { s.self with grants := [], surveyedAt := none } := by
  have hcond : (decide (s.mode = 2) && (decide (s.selfState = 3) || decide (s.selfState = 4)) && decide (s.self.lastNamed + 256 * usT 125 ≤ s.clock)) = true := by
    have : 256 * usT 125 = 416000000 := rfl
    rcases hstate with h | h <;> simp [hmode, h, this, hdue]
  show ∃ t, execLeafGrantTimeout s = _ ∧ _
  unfold execLeafGrantTimeout
  rw [if_pos hcond]
  refine done_then fun t he _ => ⟨?_, he.keeps (fun v => { v.self with sent := s.self.sent }) fun _ _ _ _ _ _ _ => rfl⟩
  have hself : ∀ (v : State) x, ({ v with self := x } : State).get Reg.SELF_STATUS_STATE = v.get Reg.SELF_STATUS_STATE := fun _ _ => rfl
  unfold State.selfState
  rw [he.touch.get0 _ (by decide), hself]
  exact get_set_self _ _ _ _ _ (by decide)

theorem survey_retry_wait (t0 : Nat) (s : State) (hsurv : s.self.surveyedAt = some t0) (hmode : s.mode = 2) (hstate : s.selfState = 2) (hdue : t0 + 6500000 ≤ s.clock) :
    ∃ t, exec .surveyRetryWait s = .next t ∧ t.self.surveyedAt = none ∧ 1 ≤ t.self.waitWindows ∧ t.self.waitWindows ≤ 8 ∧ RegsKept [] s t := by
  have hcond : (decide (s.mode = 2) && decide (s.selfState = 2) && decide (t0 + 4 * usT 125 ≤ s.clock)) = true := by
    have : 4 * usT 125 = 6500000 := rfl
    simp [hmode, hstate, this, hdue]
  show ∃ t, execSurveyRetryWait s = _ ∧ _
  unfold execSurveyRetryWait
  rw [hsurv]
  dsimp only
  rw [if_pos hcond]
  refine done_then fun t he _ => ?_
  have hself : ∀ {β : Type} (π : LeafSelf → β), (∀ (x : LeafSelf) b, π { x with sent := b } = π x) →
      π t.self = π { s.self with surveyedAt := none, waitWindows := 1 + (s.free 231).1 % 8 } := fun π hπ =>
    he.keeps (fun v => π v.self) fun z _ _ _ b _ _ => hπ z.self b
  rw [hself LeafSelf.surveyedAt fun _ _ => rfl, hself LeafSelf.waitWindows fun _ _ => rfl]
  have hlt : (s.free 231).1 % 8 < 8 := Nat.mod_lt _ (by decide)
  exact ⟨rfl, Nat.le_add_right _ _, by dsimp only; omega, fun a ha hq => he.kept a ha hq⟩

/-! ### The header of a burst (R220, R224–R234) -/

theorem rogueBurst_rest (s : State) : LeafRest s s.rogueBurst := ((LeafRest.refl s).bump _ _ _ _).set _ _ _ _

theorem enableObj_rest (s : State) (kind idx : Nat) : LeafRest s (s.enableObj kind idx) := .of_sys (enableObj_only s kind idx)

theorem rogueLeaf_rest (s : State) (l : Nat) : LeafRest s (s.rogueLeaf l) := by
  have h1 : ∀ x, LeafRest s ((s.bump Cnt.ROGUE l).setLeafInfo l x) := fun x => ((LeafRest.refl s).bump _ _ _ _).leaf l x
  unfold State.rogueLeaf
  exact .ite (.ite (((h1 _).trans (evict_rest _ _ _ _)).set _ _ _ _) (.ite ((h1 _).set _ _ _ _) (h1 _))) (h1 _)

theorem correctEqd_rest (s : State) (l : Nat) (e : Int) : LeafRest s (s.correctEqd l e) := ((LeafRest.refl s).set _ _ _ _).push _ _

theorem surveyed_rest (s : State) (l rtd group : Nat) (afc : Int) : LeafRest s (s.surveyed l rtd group afc) := by
  have h1 : ∀ x, LeafRest s ((((s.setLeafInfo l x).toLeafState l 1 1).set Reg.LF_RTD_RTD rtd l)) := fun x =>
    (((LeafRest.refl s).leaf l x).trans (toLeafState_rest _ _ _ _)).set _ _ _ _
  unfold State.surveyed
  exact ((((((((h1 _).set _ _ _ _).set _ _ _ _).set _ _ _ _).set _ _ _ _).bump _ _ _ _).push _ _)).trans (refreshLeaves_rest _)

/-- A survey burst of a serial that holds an entry, within its range (R227, R228). -/
def State.surveyOf (s s0 : State) (f serial l rtd : Nat) (afc : Int) : State :=
  if s.flag Reg.LF_STATUS_BLOCKED l then s0.pushMgmt (f / 4) (msgDisable serial l)
  else if s.leafState l = 0 || s.leafState l = 6 then s0.surveyed l rtd (f / 4) afc
  else if s.leafState l = 5 then (s0.bump Cnt.DUP_SERIALS).surveyed l rtd (f / 4) afc
  else if s.leafState l = 1 then s0.surveyed l rtd (f / 4) afc
  else s0.bump Cnt.DUP_SERIALS

theorem surveyOf_rest (s s0 : State) (f serial l rtd : Nat) (afc : Int) : LeafRest s0 (s.surveyOf s0 f serial l rtd afc) := by
  unfold State.surveyOf
  exact .ite ((LeafRest.refl s0).push _ _) (.ite (surveyed_rest _ _ _ _ _) (.ite (((LeafRest.refl s0).bump _ _ _ _).trans (surveyed_rest _ _ _ _ _))
    (.ite (surveyed_rest _ _ _ _ _) ((LeafRest.refl s0).bump _ _ _ _))))

/-- A survey burst of a serial without an entry (R227, R231). -/
def State.surveyNew (s0 : State) (f serial rtd : Nat) (afc : Int) (free : Option Nat) : State :=
  match free with
  | some l => ((s0.setSerial l serial).setLeafInfo l {}).surveyed l rtd (f / 4) afc
  | none => ((s0.bump Cnt.UNKNOWN_SERIALS).set Reg.BR_EVENTS_UNKNOWN_SERIAL 1).log wbBurst 0x22 ([BitVec.ofNat 8 f, 0, 0, 0] ++ bytes 8 serial)

theorem surveyNew_rest (s0 : State) (f serial rtd : Nat) (afc : Int) (free : Option Nat) : LeafRest s0 (s0.surveyNew f serial rtd afc free) := by
  unfold State.surveyNew
  split
  · exact ((setSerial_rest s0 _ _).leaf _ _).trans (surveyed_rest _ _ _ _ _)
  · exact (((LeafRest.refl s0).bump _ _ _ _).set _ _ _ _).log _ _ _

/-- The round trip that a survey burst measures (R227). -/
def State.surveyRtd (s : State) (b : Nat) (w : Grant) (arrival : Int) : Int :=
  Int.ofNat (8000 * s.get Reg.BR_TIMING_EQD_TOTAL_US) +
    (1000 * (arrival - 16 * Int.ofNat (w.start + b * (240 + s.hubGuard))) + Int.ofNat s.furRate) / (2 * Int.ofNat s.furRate)

theorem surveyBurst_cases (s : State) (f serial b : Nat) (w : Grant) (arrival afc : Int) : ∃ (k : Bool) (rtd : Int) (l : Nat) (free : Option Nat), s.surveyBurst f serial b w arrival afc =
    (if k then (s.bump Cnt.SURVEY_BURSTS).rangeFail ((s.holder serial).getD 0xFFFF) (twos 32 rtd)
      else if (s.holder serial).isSome then s.surveyOf (s.bump Cnt.SURVEY_BURSTS) f serial l rtd.toNat afc
      else (s.bump Cnt.SURVEY_BURSTS).surveyNew f serial rtd.toNat afc free) := by
  refine ⟨decide (s.surveyRtd b w arrival < Int.ofNat (8000 * s.get Reg.BR_TIMING_RTD_MIN_US)) ||
    decide (Int.ofNat (8000 * s.get Reg.BR_TIMING_EQD_TOTAL_US) < s.surveyRtd b w arrival), s.surveyRtd b w arrival, (s.holder serial).getD 0,
    (if s.flag Reg.LEAF_CFG_AUTO_ALLOC then (List.range 1024).find? (fun l => !s.registered l) else none), ?_⟩
  unfold State.surveyBurst
  cases hh : s.holder serial with
  | some l => rfl
  | none =>
    cases hfree : (if s.flag Reg.LEAF_CFG_AUTO_ALLOC then (List.range 1024).find? (fun l => !s.registered l) else none) with
    | some l => rfl
    | none => rfl

theorem surveyBurst_rest (s : State) (f serial b : Nat) (w : Grant) (arrival afc : Int) : LeafRest s (s.surveyBurst f serial b w arrival afc) := by
  obtain ⟨k, rtd, l, free, h⟩ := surveyBurst_cases s f serial b w arrival afc
  have h0 : LeafRest s (s.bump Cnt.SURVEY_BURSTS) := (LeafRest.refl s).bump _ _ _ _
  rw [h]
  exact .ite (h0.trans (rangeFail_rest _ _ _)) (.ite (h0.trans (surveyOf_rest _ _ _ _ _ _ _)) (h0.trans (surveyNew_rest _ _ _ _ _ _)))

/-- What an accepted burst counts and shows for its leaf, before its transition (R224, R233). -/
def State.burstCounted (s : State) (l : Nat) (e : Int) : State :=
  let s1 := ((s.set Reg.LF_STATUS_MISS_RUN 0 l).bump Cnt.BURSTS_OK l).set Reg.LF_LAST_E (twos 16 e) l
  if 64 < e.natAbs then s1.bump Cnt.MISRANGED l else s1

/-- The transition of a leaf whose burst is accepted (R230, R234). -/
def State.acceptFollows (s s2 : State) (l type : Nat) (e : Int) : State :=
  let x := s.leafInfo l
  match s.leafState l with
  | 1 =>
    if type = 2 then
      if e.natAbs ≤ 64 then
        let t := s2.setLeafInfo l { x with rangeMisses := 0, assignLeft := 0 }
        if s.flag Reg.LF_STATUS_PROFILE_SET l then (t.toLeafState l 3 3).enableObj 5 l else (t.toLeafState l 2 2).enableObj 5 l
      else s2.rangingMiss l
    else s2
  | 3 =>
    if x.awaiting && type = 2 then
      if e.natAbs ≤ 64 then s2.setLeafInfo l { x with rangeMisses := 0, awaiting := false, assignLeft := 0 } else s2.rangingMiss l
    else if type = 0 then s2.toLeafState l 4 4 else s2
  | 5 => s2.toLeafState l 4 6
  | _ => s2

theorem acceptBurst_eq (s : State) (l type : Nat) (e : Int) : s.acceptBurst l type e = s.acceptFollows (s.burstCounted l e) l type e := rfl

theorem acceptFollows_rest (s v : State) (l type : Nat) (e : Int) : LeafRest v (s.acceptFollows v l type e) := by
  have hready : ∀ x n r, LeafRest v (((v.setLeafInfo l x).toLeafState l n r).enableObj 5 l) := fun x n r =>
    (((LeafRest.refl v).leaf l x).trans (toLeafState_rest _ _ _ _)).trans (enableObj_rest _ _ _)
  unfold State.acceptFollows
  dsimp only
  split
  · exact .ite (.ite (.ite (hready _ _ _) (hready _ _ _)) (rangingMiss_rest v l)) (.refl v)
  · exact .ite (.ite ((LeafRest.refl v).leaf l _) (rangingMiss_rest v l)) (.ite (toLeafState_rest v _ _ _) (.refl v))
  · exact toLeafState_rest v _ _ _
  · exact .refl v

theorem acceptFollows_touch (s v : State) (l type : Nat) (e : Int) : Touch leafPatches v (s.acceptFollows v l type e) := by
  have hready : ∀ x n r, Touch leafPatches v (((v.setLeafInfo l x).toLeafState l n r).enableObj 5 l) := fun x n r =>
    ((setLeafInfo_touch _ v l x).trans (toLeafState_touch _ _ _ _)).trans (enableLeaf_touch _ _)
  unfold State.acceptFollows
  dsimp only
  split
  · exact .ite (fun _ => .ite (fun _ => .ite (fun _ => hready _ _ _) fun _ => hready _ _ _) fun _ => rangingMiss_touch v l) fun _ => .refl _ v
  · exact .ite (fun _ => .ite (fun _ => setLeafInfo_touch _ v l _) fun _ => rangingMiss_touch v l) fun _ => .ite (fun _ => toLeafState_touch v _ _ _) fun _ => .refl _ v
  · exact toLeafState_touch v _ _ _
  · exact .refl _ v

theorem burstCounted_rest (s : State) (l : Nat) (e : Int) : LeafRest s (s.burstCounted l e) := by
  have h1 : LeafRest s (((s.set Reg.LF_STATUS_MISS_RUN 0 l).bump Cnt.BURSTS_OK l).set Reg.LF_LAST_E (twos 16 e) l) :=
    (((LeafRest.refl s).set _ _ _ _).bump _ _ _ _).set _ _ _ _
  exact .ite (h1.bump _ _ _ _) h1

theorem acceptBurst_rest (s : State) (l type : Nat) (e : Int) : LeafRest s (s.acceptBurst l type e) :=
  (burstCounted_rest s l e).trans (acceptFollows_rest s _ l type e)

theorem acceptBurst_counted (s : State) (l type : Nat) (e : Int) (hl : l < 1024) : Counted Cnt.BURSTS_OK l 0 1 s (s.acceptBurst l type e) := by
  have hbefore : Touch [Reg.LF_STATUS_MISS_RUN.patch 0] s (s.set Reg.LF_STATUS_MISS_RUN 0 l) := (Touch.refl _ s).setAny (by decide)
  generalize hv : s.set Reg.LF_STATUS_MISS_RUN 0 l = v at hbefore
  have hset : Touch (Reg.LF_LAST_E.patch 0 :: Ctr.patches { Cnt.MISRANGED with n := 0 }) (v.bump Cnt.BURSTS_OK l) ((v.bump Cnt.BURSTS_OK l).set Reg.LF_LAST_E (twos 16 e) l) :=
    (Touch.refl _ _).setAny (by decide)
  have hcounted : Touch (Reg.LF_LAST_E.patch 0 :: Ctr.patches { Cnt.MISRANGED with n := 0 }) (v.bump Cnt.BURSTS_OK l) (s.burstCounted l e) := by
    unfold State.burstCounted
    rw [hv]
    exact .ite (fun _ => hset.bumpAny (by decide)) fun _ => hset
  have hb : Counted Cnt.BURSTS_OK l 0 1 v (v.bump Cnt.BURSTS_OK l) := counted_bump _ _ _ _ _ (.inr rfl)
  exact (acceptFollows_touch s _ l type e).counted (hcounted.counted (hbefore.counted_of hb hl (by decide)) hl (by decide)) hl (by decide)

theorem correctEqd_touch (s : State) (l : Nat) (e : Int) : Touch [Reg.LF_EQD_EQD.patch 0] s (s.correctEqd l e) :=
  ((Touch.refl _ s).setAny (by decide)).trans (pushMgmt_touch _ _ _ _)

/-- The accepted burst of a grant that a data header matches (R220, R221). -/
def State.acceptedOf (s : State) (h : Nat) (g : Grant) (arrival rssi : Int) : Accepted :=
  { type := bitsOf h 126 2, leaf := bitsOf h 116 10, cw := bitsOf h 100 8, left := bitsOf h 100 8, e := arrival - 16 * Int.ofNat g.start, rssi := rssi,
    seed := (s.leafInfo (bitsOf h 116 10)).seed.getD identityTaps, cd := s.getInt Reg.LF_LEVEL_CD (bitsOf h 116 10) }

/-- The leaf's figures after its burst has been accepted, an arrival error of a symbol or more corrected (R232, R233). -/
def State.acceptFor (s : State) (h : Nat) (g : Grant) (arrival : Int) : State :=
  let e := arrival - 16 * Int.ofNat g.start
  let s1 := (s.dropGrant g).acceptBurst (bitsOf h 116 10) (bitsOf h 126 2) e
  if 16 ≤ e.natAbs then s1.correctEqd (bitsOf h 116 10) e else s1

/-- What a data header without acceptance leads to keeps the furrow's path. -/
theorem judgeData_cases (s : State) (f : Nat) (d : Detection) (h : Nat) (arrival rssi : Int) :
    (s.judgeData f d h arrival rssi).burst.paths = s.burst.paths ∨ ∃ (v : State) (g : Grant), v.burst.paths = s.burst.paths ∧
      s.judgeData f d h arrival rssi = v.setPath f { v.path f with acc := some (s.acceptedOf h g arrival rssi) } := by
  unfold State.judgeData
  dsimp only
  split
  · next g hg =>
    split
    · exact .inl ((missGrant_rest _ g).paths.trans (((rogueBurst_rest s).trans (rogueLeaf_rest _ _)).log _ _ _).paths)
    · by_cases hc : (decide (bitsOf h 108 8 ≠ g.mf % 256) || decide (bitsOf h 100 8 ≠ (if g.type = 0 then g.len else 0))) = true
      · rw [if_pos hc]
        exact .inl (missGrant_rest s g).paths
      · rw [if_neg hc]
        have hacc := acceptBurst_rest (s.dropGrant g) (bitsOf h 116 10) (bitsOf h 126 2) (arrival - 16 * Int.ofNat g.start)
        exact .inr ⟨_, g, (LeafRest.ite (hacc.trans (correctEqd_rest _ _ _)) hacc).paths, rfl⟩
  · split
    · next g hg =>
      have hmiss : ((s.rogueBurst.bump Cnt.MISRANGED (bitsOf h 116 10)).missGrant g).burst.paths = s.burst.paths :=
        (missGrant_rest _ g).paths.trans ((rogueBurst_rest s).bump _ _ _ _).paths
      split
      · exact .inl ((correctEqd_rest _ _ _).paths.trans hmiss)
      · exact .inl hmiss
    · split
      · exact .inl rfl
      · exact .inl (((rogueBurst_rest s).trans (rogueLeaf_rest _ _)).log _ _ _).paths

theorem judgeData_path (s : State) (f : Nat) (d : Detection) (h : Nat) (arrival rssi : Int) :
    ((s.judgeData f d h arrival rssi).path f).judged = (s.path f).judged ∧ ((s.judgeData f d h arrival rssi).path f).shadow = (s.path f).shadow := by
  rcases judgeData_cases s f d h arrival rssi with hp | ⟨v, g, hp, hv⟩
  · rw [path_congr hp]
    exact ⟨rfl, rfl⟩
  · rw [hv, path_setPath_self, path_congr hp]
    exact ⟨rfl, rfl⟩

/-- A data header that matches its grant is accepted (R220). -/
theorem judgeData_accepts {s : State} {f : Nat} {d : Detection} {h : Nat} {arrival rssi : Int} {g : Grant} (hg : s.grantAt f d.mf arrival = some g)
    (hleaf : bitsOf h 116 10 = g.leaf) (hmf : bitsOf h 108 8 = g.mf % 256) (hcw : bitsOf h 100 8 = (if g.type = 0 then g.len else 0)) :
    s.judgeData f d h arrival rssi = (s.acceptFor h g arrival).setPath f { (s.acceptFor h g arrival).path f with acc := some (s.acceptedOf h g arrival rssi) } := by
  have h2 : ¬(decide (bitsOf h 108 8 ≠ g.mf % 256) || decide (bitsOf h 100 8 ≠ (if g.type = 0 then g.len else 0))) = true := by simp [hmf, hcw]
  unfold State.judgeData
  dsimp only
  rw [hg]
  dsimp only
  rw [if_neg (not_not_intro hleaf.symm), if_neg h2]
  rfl

theorem acceptFor_rest (s : State) (h : Nat) (g : Grant) (arrival : Int) : LeafRest (s.dropGrant g) (s.acceptFor h g arrival) := by
  have hacc := acceptBurst_rest (s.dropGrant g) (bitsOf h 116 10) (bitsOf h 126 2) (arrival - 16 * Int.ofNat g.start)
  exact .ite (hacc.trans (correctEqd_rest _ _ _)) hacc

theorem acceptFor_counted (s : State) (h : Nat) (g : Grant) (arrival : Int) (hl : bitsOf h 116 10 < 1024) :
    Counted Cnt.BURSTS_OK (bitsOf h 116 10) 0 1 s (s.acceptFor h g arrival) := by
  have hacc := acceptBurst_counted (s.dropGrant g) (bitsOf h 116 10) (bitsOf h 126 2) (arrival - 16 * Int.ofNat g.start) hl
  have hdrop : Touch [] s (s.dropGrant g) := .of_regs rfl
  have heqd : Touch [Reg.LF_EQD_EQD.patch 0] ((s.dropGrant g).acceptBurst (bitsOf h 116 10) (bitsOf h 126 2) (arrival - 16 * Int.ofNat g.start)) (s.acceptFor h g arrival) :=
    .ite (fun _ => correctEqd_touch _ _ _) fun _ => .refl _ _
  exact heqd.counted (hdrop.counted_of hacc hl (by decide)) hl (by decide)

/-- BURST_HEADER once the shadow's burst is dealt with, which leaves `s2`. -/
def headerJudged (s s2 : State) (f : Nat) (d : Detection) (header : BitVec 128) (arrival rssi : Int) : Out :=
  let h := header.toNat
  if !burstHeaderOk header then
    match s2.grantAt f d.mf arrival with
    | some g => done s (((s2.bump Cnt.HDR_CRC_FAILS).bump Cnt.BAD_BURSTS g.leaf).missGrant g)
    | none => done s (if (s2.windowAt f d.mf arrival).isSome then s2.bump Cnt.HDR_CRC_FAILS else (s2.bump Cnt.HDR_CRC_FAILS).rogueBurst)
  else if bitsOf h 126 2 = 1 then
    match s2.windowAt f d.mf arrival with
    | some w =>
      let serial := bitsOf h 62 64
      let s3 := s2.surveyBurst f serial (bitsOf h 53 9) w arrival d.afc
      let cd := match s2.holder serial with | some k => (s2.leafInfo k).cdHint | none => 0
      let acc : Accepted := { type := 1, leaf := (s3.surveyedLeaf serial).getD 0xFFFF, cw := 0, left := 0, e := 0, rssi := rssi, seed := identityTaps, cd := cd }
      done s (s3.setPath f { s3.path f with acc := some acc })
    | none =>
      match s2.grantAt f d.mf arrival with
      | some g => done s (s2.rogueBurst.missGrant g)
      | none => done s s2.rogueBurst
  else if bitsOf h 126 2 = 3 then
    match s2.grantAt f d.mf arrival with
    | some g => done s (s2.missGrant g)
    | none => done s s2.rogueBurst
  else done s (s2.judgeData f d h arrival rssi)

/-- The path of a burst whose header is being judged (R216, R219, R223). -/
def BurstPath.judging (x : BurstPath) (d : Detection) (rssi : Int) : BurstPath := { main := some d, rssi := some rssi, judged := true, tails := x.tails }

theorem execBurstHeader_eq {f : Fin 32} {h : BitVec 128} {arrival rssi : Int} {d : Detection} {s : State} (hd : (s.path f.val).main = some d)
    (hj : (s.path f.val).judged = false) : ∃ s2, execBurstHeader f h arrival rssi s = headerJudged s s2 f.val d h arrival rssi ∧
      s2.path f.val = (s.path f.val).judging d rssi ∧ ((s.path f.val).shadow = none → s2 = s.setPath f.val ((s.path f.val).judging d rssi)) ∧
      Touch (Reg.BR_EVENTS_COLLISION.patch :: Cnt.COLLISIONS.patches ++ missPatches) s s2 := by
  have hset : ∀ l, Touch l s (s.setPath f.val ((s.path f.val).judging d rssi)) := fun l => .of_regs rfl
  unfold execBurstHeader
  dsimp only
  rw [hd]
  dsimp only
  rw [hj, if_neg Bool.false_ne_true]
  cases hsh : (s.path f.val).shadow with
  | none =>
    refine ⟨s.setPath f.val ((s.path f.val).judging d rssi), ?_, path_setPath_self _ _ _, fun _ => rfl, hset _⟩
    unfold headerJudged BurstPath.judging
    rfl
  | some b =>
    refine ⟨(s.setPath f.val ((s.path f.val).judging d rssi)).weakerLost f.val
      (if burstHeaderOk h && bitsOf h.toNat 126 2 ≠ 1 then bitsOf h.toNat 116 10 else s.grantedLeaf f.val d) b, rfl, ?_, nofun, ?_⟩
    · rw [weakerLost_path, path_setPath_self]
    · exact (((hset _).bump0 (by decide)).andThen (collision_touch _ _ _ _ _) (by decide)).andThen (weakerLost_after _ _ _ _) (by decide)

/-- What the judgement of a header shows: the path judged without a shadow, and a failed CRC counted. -/
structure HeaderShown (s2 u : State) (f : Nat) (ok : Bool) : Prop where
  judged : (u.path f).judged = true
  shadow : (u.path f).shadow = none
  failed : ok = false → Counted Cnt.HDR_CRC_FAILS 0 0 1 s2 u ∧ (u.path f).acc = none

theorem HeaderShown.of_path {s2 u : State} {f : Nat} {x : BurstPath} {d : Detection} {rssi : Int} (hs : s2.path f = x.judging d rssi) (hu : u.path f = s2.path f) :
    HeaderShown s2 u f true := by
  have : u.path f = x.judging d rssi := hu.trans hs
  exact ⟨this ▸ rfl, this ▸ rfl, nofun⟩

theorem headerJudged_shows (s s2 : State) {f : Nat} (d : Detection) (h : BitVec 128) (arrival rssi : Int) {x : BurstPath} (hs : s2.path f = x.judging d rssi) :
    ∃ u, headerJudged s s2 f d h arrival rssi = done s u ∧ HeaderShown s2 u f (burstHeaderOk h) ∧
      (burstHeaderOk h = true → bitsOf h.toNat 126 2 = 0 ∨ bitsOf h.toNat 126 2 = 2 → u = s2.judgeData f d h.toNat arrival rssi) := by
  unfold headerJudged
  cases hok : burstHeaderOk h with
  | false =>
    have hb : Counted Cnt.HDR_CRC_FAILS 0 0 1 s2 (s2.bump Cnt.HDR_CRC_FAILS) := counted_bump _ _ _ _ _ (.inl rfl)
    have hfail : ∀ u : State, u.burst.paths = s2.burst.paths → Counted Cnt.HDR_CRC_FAILS 0 0 1 s2 u → HeaderShown s2 u f false := fun u hp hc => by
      have hu : u.path f = x.judging d rssi := (path_congr hp f).trans hs
      exact ⟨hu ▸ rfl, hu ▸ rfl, fun _ => ⟨hc, hu ▸ rfl⟩⟩
    have hpaths : (s2.bump Cnt.HDR_CRC_FAILS).burst.paths = s2.burst.paths := ((LeafRest.refl s2).bump _ _ _ _).paths
    dsimp only
    rw [if_pos (by rfl)]
    cases s2.grantAt f d.mf arrival with
    | some g =>
      refine ⟨_, rfl, hfail _ ((missGrant_rest _ g).paths.trans (((LeafRest.refl _).bump _ _ _ _).paths.trans hpaths)) ?_, nofun⟩
      have hafter : Touch (Ctr.patches { Cnt.BAD_BURSTS with n := 0 } ++ missPatches) (s2.bump Cnt.HDR_CRC_FAILS)
          (((s2.bump Cnt.HDR_CRC_FAILS).bump Cnt.BAD_BURSTS g.leaf).missGrant g) := ((Touch.refl _ _).bumpAny (by decide)).andThen (missGrant_touch _ g) (by decide)
      exact hafter.counted hb (by decide) (by decide)
    | none =>
      refine ⟨_, rfl, ?_, nofun⟩
      split
      · exact hfail _ hpaths hb
      · have hafter : Touch (Reg.BR_EVENTS_ROGUE.patch :: Cnt.ROGUE_BURSTS.patches) (s2.bump Cnt.HDR_CRC_FAILS) (s2.bump Cnt.HDR_CRC_FAILS).rogueBurst :=
          ((Touch.refl _ _).bump0 (by decide)).set0 (by decide)
        exact hfail _ ((rogueBurst_rest _).paths.trans hpaths) (hafter.counted hb (by decide) (by decide))
  | true =>
    dsimp only
    rw [if_neg (by decide)]
    by_cases h1 : bitsOf h.toNat 126 2 = 1
    · have hnot : ∀ {p : Prop}, bitsOf h.toNat 126 2 = 0 ∨ bitsOf h.toNat 126 2 = 2 → p := fun hor => by omega
      rw [if_pos h1]
      cases s2.windowAt f d.mf arrival with
      | some w =>
        refine ⟨_, rfl, ?_, fun _ => hnot⟩
        have hp : (s2.surveyBurst f (bitsOf h.toNat 62 64) (bitsOf h.toNat 53 9) w arrival d.afc).path f = x.judging d rssi :=
          (path_congr (surveyBurst_rest _ _ _ _ _ _ _).paths f).trans hs
        refine ⟨?_, ?_, nofun⟩
        · rw [path_setPath_self, hp]
          rfl
        · rw [path_setPath_self, hp]
          rfl
      | none =>
        cases s2.grantAt f d.mf arrival with
        | some g => exact ⟨_, rfl, .of_path hs ((missGrant_path _ g f).trans (path_congr (rogueBurst_rest s2).paths f)), fun _ => hnot⟩
        | none => exact ⟨_, rfl, .of_path hs (path_congr (rogueBurst_rest s2).paths f), fun _ => hnot⟩
    · rw [if_neg h1]
      by_cases h3 : bitsOf h.toNat 126 2 = 3
      · have hnot : ∀ {p : Prop}, bitsOf h.toNat 126 2 = 0 ∨ bitsOf h.toNat 126 2 = 2 → p := fun hor => by omega
        rw [if_pos h3]
        cases s2.grantAt f d.mf arrival with
        | some g => exact ⟨_, rfl, .of_path hs (missGrant_path s2 g f), fun _ => hnot⟩
        | none => exact ⟨_, rfl, .of_path hs (path_congr (rogueBurst_rest s2).paths f), fun _ => hnot⟩
      · rw [if_neg h3]
        obtain ⟨hjd, hsd⟩ := judgeData_path s2 f d h.toNat arrival rssi
        refine ⟨_, rfl, ⟨hjd.trans (hs ▸ rfl), hsd.trans (hs ▸ rfl), nofun⟩, fun _ _ => rfl⟩

theorem burst_header (f : Fin 32) (h : BitVec 128) (arrival rssi : Int) (d : Detection) (s : State) (hd : (s.path f.val).main = some d) (hj : (s.path f.val).judged = false) :
    ∃ t, exec (.burstHeader f h arrival rssi) s = .next t ∧ (t.path f.val).judged = true ∧ (t.path f.val).shadow = none ∧
      (burstHeaderOk h = false → Counted Cnt.HDR_CRC_FAILS 0 0 1 s t ∧ (t.path f.val).acc = none) ∧
      (∀ g : Grant, burstHeaderOk h = true → (s.path f.val).shadow = none → bitsOf h.toNat 126 2 = g.type → g.type = 0 ∨ g.type = 2 → s.grantAt f.val d.mf arrival = some g →
        bitsOf h.toNat 116 10 = g.leaf → bitsOf h.toNat 108 8 = g.mf % 256 → bitsOf h.toNat 100 8 = (if g.type = 0 then g.len else 0) →
        Counted Cnt.BURSTS_OK g.leaf 0 1 s t ∧ (t.path f.val).rssi = some rssi ∧
        (t.path f.val).acc = some { type := g.type, leaf := g.leaf, cw := bitsOf h.toNat 100 8, left := bitsOf h.toNat 100 8, e := arrival - 16 * g.start, rssi := rssi, seed := (s.leafInfo g.leaf).seed.getD identityTaps, cd := s.getInt Reg.LF_LEVEL_CD g.leaf }) := by
  show ∃ t, execBurstHeader f h arrival rssi s = _ ∧ _
  obtain ⟨s2, heq, hpath, hquiet, hs2⟩ := execBurstHeader_eq (h := h) (arrival := arrival) (rssi := rssi) hd hj
  obtain ⟨u, hu, hshown, hdata⟩ := headerJudged_shows s s2 d h arrival rssi hpath
  rw [heq, hu]
  refine done_then fun t he _ => ⟨?_, ?_, fun hbad => ?_, fun g hok hsh htype hor hg hleaf hmf hcw => ?_⟩
  · rw [he.path]
    exact hshown.judged
  · rw [he.path]
    exact hshown.shadow
  · obtain ⟨hcount, hacc⟩ := hshown.failed hbad
    rw [he.path]
    exact ⟨he.touch.counted (hs2.counted_of hcount (by decide) (by decide)) (by decide) (by decide), hacc⟩
  · have hs2' := hquiet hsh
    have hg2 : s2.grantAt f.val d.mf arrival = some g := by rw [hs2']; exact hg
    have hl : bitsOf h.toNat 116 10 < 1024 := bitsOf_lt _ _ _
    have hju := (hdata hok (htype ▸ hor)).trans (judgeData_accepts (rssi := rssi) hg2 hleaf hmf hcw)
    have hcount := acceptFor_counted s2 h.toNat g arrival hl
    have hp : (s2.acceptFor h.toNat g arrival).path f.val = (s.path f.val).judging d rssi :=
      (path_congr (acceptFor_rest s2 h.toNat g arrival).paths f.val).trans hpath
    have hacc : s2.acceptedOf h.toNat g arrival rssi = s.acceptedOf h.toNat g arrival rssi := by rw [hs2']; rfl
    have hset : Touch [] (s2.acceptFor h.toNat g arrival) u := by rw [hju]; exact .of_regs rfl
    refine ⟨?_, ?_, ?_⟩
    · rw [← hleaf]
      exact he.touch.counted (hset.counted (hs2.counted_of hcount hl (by decide)) hl (by decide)) hl (by decide)
    · rw [he.path, hju, path_setPath_self, hp]
      rfl
    · rw [he.path, hju, path_setPath_self, hacc, State.acceptedOf, htype, hleaf]
      rfl

/-! ### A leaf's burst (R226, R275–R279) -/

theorem setCount_self (s : State) (c : Ctr) (v i j : Nat) : (s.setCount c v i j).self = s.self := by
  have hset : ∀ (v : State) (a : Nat) (w : Word), (v.setReg a w).self = v.self := fun _ _ _ => rfl
  unfold State.setCount
  exact ite_keeps State.self (hset _ _ _) (ite_keeps State.self ((hset _ _ _).trans (hset _ _ _)) ((hset _ _ _).trans (hset _ _ _)))

theorem bump_self (s : State) (c : Ctr) (i j n : Nat) : (s.bump c i j n).self = s.self := by
  unfold State.bump
  exact ite_keeps State.self (setCount_self _ _ _ _ _) (ite_keeps State.self (setCount_self _ _ _ _ _) (setCount_self _ _ _ _ _))

theorem log_self (s : State) (wb type : Nat) (d : List Byte) : (s.log wb type d).self = s.self := by
  have hset : ∀ (v : State) (f : Field) (n : Nat), (v.set f n).self = v.self := fun _ _ _ => rfl
  unfold State.log
  exact ite_keeps State.self rfl ((hset _ _ _).trans (bump_self _ _ _ _ _))

/-- The burst last sent is still `x`, but that its gate may have been cut. -/
def SentAs (x : SentBurst) (o : Option SentBurst) : Prop := ∃ y, o = some y ∧ { y with gate := x.gate } = x

theorem SentAs.refl (x : SentBurst) : SentAs x (some x) := ⟨x, rfl, rfl⟩

theorem SentAs.cut {x : SentBurst} {s : State} (h : SentAs x s.self.sent) : SentAs x s.cutBurst.self.sent := by
  obtain ⟨y, hy, hx⟩ := h
  refine ⟨{ y with gate := (y.gate.1, min y.gate.2 (Int.ofNat s.clock - 1)) }, ?_, hx⟩
  show s.self.sent.map _ = _
  rw [hy]
  rfl

theorem refreshSquelch_sent {x : SentBurst} {s : State} (h : SentAs x s.self.sent) : SentAs x s.refreshSquelch.self.sent := by
  have hset : ∀ (v : State) (f : Field) (n : Nat), (v.set f n).self = v.self := fun _ _ _ => rfl
  have hreason : s.reasonShown.self = s.self := ite_keeps State.self rfl (hset _ _ _)
  have hgate : ∀ v : State, v.gateShown.self = v.self := fun v => ite_keeps State.self rfl (hset _ _ _)
  have hcut : ∀ (v : State) (r : Nat), ((((v.cutBurst.set Reg.TXS_STATUS_SQUELCHED 1).set Reg.TXS_EVENTS_SQUELCH 1).bump Cnt.SQUELCH_EVENTS).log wbTx 0x25
      [BitVec.ofNat 8 r]).self = v.cutBurst.self := fun v r => by
    rw [log_self, bump_self, hset, hset]
  rw [refreshSquelch_eq]
  by_cases hg : s.sys.gated = true
  · rw [if_pos hg]
    exact h
  · rw [if_neg hg, hgate]
    unfold State.squelchedFor
    by_cases hc : (decide (s.squelchReasons = 0) || s.reasonShown.flag Reg.TXS_STATUS_SQUELCHED) = true
    · rw [if_pos hc, hreason]
      exact h
    · rw [if_neg hc, hcut]
      exact SentAs.cut (hreason ▸ h)

/-- A command that sends a burst: what its end leaves of it. -/
theorem done_sent_then {s u : State} {P : State → Prop} (x : SentBurst) (hx : u.self.sent = some x) (h : ∀ t, Ended [] s u t → SentAs x t.self.sent → P t) :
    ∃ t, done s u = .next t ∧ P t := by
  obtain ⟨t, ht, he⟩ := done_then (s := s) (u := u) (P := fun t => Ended [] s u t) fun t he _ => he
  refine ⟨t, ht, h t he ?_⟩
  obtain ⟨m, hm⟩ := settle_eq s u.refreshSquelch
  have hself : t.self = u.refreshSquelch.self := by
    unfold done at ht
    rw [hm] at ht
    injection ht with ht
    rw [← ht]
  rw [hself]
  exact refreshSquelch_sent (hx ▸ SentAs.refl x)

/-- What a leaf's updates leave: its registers and the updates that wait. -/
structure Updated (s t : State) : Prop where
  rest : ∃ r u, t = { s with regs := r, self := { s.self with updates := u } }
  touch : Touch [Reg.SELF_EQD_EQD.patch, Reg.SELF_FREQ_CORR_F.patch] s t

/-- One update that takes effect (R229). -/
def State.takeUpdate (s : State) (u : Nat × Option Nat × Option Int) : State :=
  let t := match u.2.1 with | some e => s.set Reg.SELF_EQD_EQD e | none => s
  match u.2.2 with | some f => t.set Reg.SELF_FREQ_CORR_F (twos 16 f) | none => t

theorem takeUpdate_regs (s : State) (u : Nat × Option Nat × Option Int) :
    (∃ r, s.takeUpdate u = { s with regs := r }) ∧ Touch [Reg.SELF_EQD_EQD.patch, Reg.SELF_FREQ_CORR_F.patch] s (s.takeUpdate u) := by
  unfold State.takeUpdate
  cases u.2.1 with
  | none =>
    cases u.2.2 with
    | none => exact ⟨⟨s.regs, rfl⟩, .refl _ s⟩
    | some f => exact ⟨⟨_, rfl⟩, (Touch.refl _ s).set0 (by decide)⟩
  | some e =>
    cases u.2.2 with
    | none => exact ⟨⟨_, rfl⟩, (Touch.refl _ s).set0 (by decide)⟩
    | some f => exact ⟨⟨_, rfl⟩, ((Touch.refl _ s).set0 (by decide)).set0 (by decide)⟩

theorem takeUpdate_fresh (s : State) (u : Nat × Option Nat × Option Int) (n : Nat) :
    ({ s with fresh := n } : State).takeUpdate u = { s.takeUpdate u with fresh := n } := by
  unfold State.takeUpdate
  cases u.2.1 <;> cases u.2.2 <;> rfl

theorem leafUpdates_eq (s : State) (now : Nat) : s.leafUpdates now =
    let s1 := (s.self.updates.filter (fun u => decide (0 ≤ mfDiff now u.1))).foldl State.takeUpdate s
    { s1 with self := { s1.self with updates := s1.self.updates.filter (fun u => !decide (0 ≤ mfDiff now u.1)) } } := rfl

theorem takeUpdates_regs (l : List (Nat × Option Nat × Option Int)) (s : State) :
    (∃ r, l.foldl State.takeUpdate s = { s with regs := r }) ∧ Touch [Reg.SELF_EQD_EQD.patch, Reg.SELF_FREQ_CORR_F.patch] s (l.foldl State.takeUpdate s) := by
  induction l generalizing s with
  | nil => exact ⟨⟨s.regs, rfl⟩, .refl _ s⟩
  | cons u l ih =>
    obtain ⟨⟨r, hr⟩, ht⟩ := takeUpdate_regs s u
    obtain ⟨⟨r', hr'⟩, ht'⟩ := ih (s.takeUpdate u)
    refine ⟨⟨r', hr'.trans ?_⟩, ht.trans ht'⟩
    rw [hr]

theorem takeUpdates_fresh (l : List (Nat × Option Nat × Option Int)) (s : State) (n : Nat) :
    l.foldl State.takeUpdate ({ s with fresh := n } : State) = { l.foldl State.takeUpdate s with fresh := n } := by
  induction l generalizing s with
  | nil => rfl
  | cons u l ih => exact (congrArg (List.foldl State.takeUpdate · l) (takeUpdate_fresh s u n)).trans (ih (s.takeUpdate u))

theorem leafUpdates_updated (s : State) (now : Nat) : Updated s (s.leafUpdates now) := by
  obtain ⟨⟨r, hr⟩, ht⟩ := takeUpdates_regs (s.self.updates.filter (fun u => decide (0 ≤ mfDiff now u.1))) s
  rw [leafUpdates_eq]
  dsimp only
  refine ⟨⟨r, s.self.updates.filter (fun u => !decide (0 ≤ mfDiff now u.1)), ?_⟩, ht.same rfl⟩
  rw [hr]

theorem leafUpdates_fresh (s : State) (now n : Nat) : ({ s with fresh := n } : State).leafUpdates now = { s.leafUpdates now with fresh := n } := by
  rw [leafUpdates_eq, leafUpdates_eq]
  dsimp only
  rw [takeUpdates_fresh]

/-- The payload of a burst is taken from the leaf's own turnout alone. -/
theorem ownPayload_keeps (s : State) (g : Grant) : (s.ownPayload g).2.self = s.self ∧ (s.ownPayload g).2.regs = s.regs := by
  have hcip : ∀ t x, (s.setCipherTn t x).self = s.self ∧ (s.setCipherTn t x).regs = s.regs := fun _ _ => ⟨rfl, rfl⟩
  have htake : ∀ t n, (s.takeBlocks t n).2.self = s.self ∧ (s.takeBlocks t n).2.regs = s.regs := fun _ _ => ⟨rfl, rfl⟩
  unfold State.ownPayload
  dsimp only
  split
  · exact ⟨rfl, rfl⟩
  · split
    · exact ⟨rfl, rfl⟩
    · split
      · exact hcip _ _
      · exact htake _ _

/-- A survey burst carries no payload. -/
theorem ownPayload_survey (s : State) {g : Grant} (h : g.type = 1) : (s.ownPayload g).1 = [] := by
  have hn : (if g.type = 0 then g.len else 0) * burstBytes (s.get Reg.TXS_LEAF_CFG_BURST_RATE_SEL) = 0 := by
    rw [if_neg (by omega), Nat.zero_mul]
  unfold State.ownPayload
  dsimp only
  rw [hn]
  split
  · rfl
  · rw [if_pos (by simp [h])]
    rfl

/-- The leaf's own state once a burst has gone out (R226, R276, R279). -/
def State.burstNoted (s : State) (g : Grant) (start : Nat) (burst : SentBurst) : State :=
  let rest := s.self.grants.filter (· ≠ g)
  let hit := rest.filter (fun h => s.eligible h && h.type ≠ 1 && decide ((s.gateSpan h h.start).1 < (s.gateSpan g start).2) &&
    decide ((s.gateSpan g start).1 < (s.gateSpan h h.start).2))
  { s with self := { s.self with
    grants := rest.filter (fun h => !hit.contains h)
    sent := some burst
    seq := (s.self.seq + 1) % 65536
    surveyedAt := if g.type = 1 then some (s.self.surveyedAt.getD s.clock) else s.self.surveyedAt } }

/-- The grants that a burst overlaps are counted (R279). -/
def State.overlapsNoted (s : State) (k : Nat) : State := if k = 0 then s else (s.bump Cnt.GRANT_OVERLAPS 0 0 k).set Reg.TXS_EVENTS_GRANT_OVERLAP 1

theorem burstSent_eq (s : State) (g : Grant) (start : Nat) (burst : SentBurst) : ∃ k, s.burstSent g start burst =
    (State.overlapsNoted (if g.type = 1 then (s.burstNoted g start burst).bump Cnt.SURVEY_TRIES else s.burstNoted g start burst) k).bump Cnt.BURSTS_SENT := by
  refine ⟨((s.self.grants.filter (· ≠ g)).filter (fun h => s.eligible h && h.type ≠ 1 && decide ((s.gateSpan h h.start).1 < (s.gateSpan g start).2) &&
    decide ((s.gateSpan g start).1 < (s.gateSpan h h.start).2))).length, ?_⟩
  unfold State.burstSent State.overlapsNoted State.burstNoted
  dsimp only
  generalize (s.self.grants.filter (· ≠ g)).filter (fun h => s.eligible h && h.type ≠ 1 && decide ((s.gateSpan h h.start).1 < (s.gateSpan g start).2) &&
    decide ((s.gateSpan g start).1 < (s.gateSpan h h.start).2)) = hit
  cases hit <;> rfl

theorem burstSent_self (s : State) (g : Grant) (start : Nat) (burst : SentBurst) : (s.burstSent g start burst).self = (s.burstNoted g start burst).self := by
  obtain ⟨k, hk⟩ := burstSent_eq s g start burst
  have hset : ∀ (v : State) (f : Field) (n : Nat), (v.set f n).self = v.self := fun _ _ _ => rfl
  rw [hk, bump_self]
  unfold State.overlapsNoted
  refine (ite_keeps State.self rfl ?_).trans (ite_keeps State.self (bump_self _ _ _ _ _) rfl)
  rw [hset, bump_self]

theorem burstSent_counted (s : State) (g : Grant) (start : Nat) (burst : SentBurst) : Counted Cnt.BURSTS_SENT 0 0 1 s (s.burstSent g start burst) ∧
    (g.type = 1 → Counted Cnt.SURVEY_TRIES 0 0 1 s (s.burstSent g start burst)) := by
  obtain ⟨k, hk⟩ := burstSent_eq s g start burst
  have hnoted : ∀ l, Touch l s (s.burstNoted g start burst) := fun l => .of_regs rfl
  have hover : ∀ v : State, Touch (Reg.TXS_EVENTS_GRANT_OVERLAP.patch :: Cnt.GRANT_OVERLAPS.patches) v (v.overlapsNoted k) := fun v =>
    .ite (fun _ => .refl _ v) fun _ => ((Touch.refl _ v).bump0 (by decide)).set0 (by decide)
  have htries : ∀ l, l = Cnt.SURVEY_TRIES.patches → Touch l s (if g.type = 1 then (s.burstNoted g start burst).bump Cnt.SURVEY_TRIES else s.burstNoted g start burst) := by
    rintro l rfl
    exact .ite (fun _ => (hnoted _).bump0 (by decide)) fun _ => hnoted _
  rw [hk]
  refine ⟨?_, fun htype => ?_⟩
  · have hbefore := ((htries _ rfl).mono (l' := Cnt.SURVEY_TRIES.patches ++ Reg.TXS_EVENTS_GRANT_OVERLAP.patch :: Cnt.GRANT_OVERLAPS.patches) (by decide)).andThen (hover _) (by decide)
    exact hbefore.counted_of (counted_bump _ _ _ _ _ (.inr rfl)) (by decide) (by decide)
  · rw [if_pos htype]
    have hb : Counted Cnt.SURVEY_TRIES 0 0 1 (s.burstNoted g start burst) ((s.burstNoted g start burst).bump Cnt.SURVEY_TRIES) := counted_bump _ _ _ _ _ (.inl rfl)
    have hafter := ((hover ((s.burstNoted g start burst).bump Cnt.SURVEY_TRIES)).mono
      (l' := Reg.TXS_EVENTS_GRANT_OVERLAP.patch :: Cnt.GRANT_OVERLAPS.patches ++ Cnt.BURSTS_SENT.patches) (by decide)).bump0 (c := Cnt.BURSTS_SENT) (k := 1) (by decide)
    exact hafter.counted ((hnoted []).counted_of hb (by decide) (by decide)) (by decide) (by decide)

theorem execLeafBurstTx_go {f : Fin 32} {g : Grant} {s : State} (hmode : s.mode = 2) (hsq : s.flag Reg.TXS_STATUS_SQUELCHED = false) (hlock : s.leafLocked = true)
    (hg : s.firstGrant (s.self.grants.filter s.eligible) = some g) (hf : g.furrow = f.val) {draw : Nat × State} (hdraw : draw = if g.type = 1 then s.free 226 else (0, s))
    {b start : Nat} (hb : b = if g.len = 0 then 0 else draw.1 % g.len) (hstart : start = if g.type = 1 then g.start + b * (240 + s.leafGuard) else g.start)
    (hgate : ((draw.2.leafUpdates g.mf).ownBurst g b start ((draw.2.leafUpdates g.mf).ownPayload g).1).gate.1 ≤ s.clock) :
    execLeafBurstTx f s = done s (((draw.2.leafUpdates g.mf).ownPayload g).2.burstSent g start
      ((draw.2.leafUpdates g.mf).ownBurst g b start ((draw.2.leafUpdates g.mf).ownPayload g).1)) := by
  have hgo : ¬(decide (s.mode ≠ 2) || s.flag Reg.TXS_STATUS_SQUELCHED || !s.leafLocked) = true := by simp [hmode, hsq, hlock]
  have hfilter : (some g).filter (fun g => g.furrow == f.val) = some g := by simp [hf]
  unfold execLeafBurstTx
  rw [if_neg hgo, hg, hfilter]
  dsimp only
  rw [← hdraw, ← hb, ← hstart]
  exact if_neg (not_lt.mpr hgate)

/-- What a leaf's burst leaves once it has gone out of a state with `draw`. -/
theorem burstSent_shown {s v : State} {g : Grant} {start : Nat} {burst : SentBurst} (hv : Touch [Reg.SELF_EQD_EQD.patch, Reg.SELF_FREQ_CORR_F.patch] s v)
    (hseq : v.self.seq = s.self.seq) :
    ∃ t, done s (v.burstSent g start burst) = .next t ∧ SentAs burst t.self.sent ∧ g ∉ t.self.grants ∧ t.self.seq = (s.self.seq + 1) % 65536 ∧
      Counted Cnt.BURSTS_SENT 0 0 1 s t ∧ (g.type = 1 → Counted Cnt.SURVEY_TRIES 0 0 1 s t) := by
  obtain ⟨hsent, htries⟩ := burstSent_counted v g start burst
  have hself := burstSent_self v g start burst
  have hkeep : ∀ {β : Type} (π : LeafSelf → β), (∀ (x : LeafSelf) b, π { x with sent := b } = π x) → ∀ {t}, Ended [] s (v.burstSent g start burst) t →
      π t.self = π (v.burstNoted g start burst).self := fun π hπ t he => by
    rw [← hself]
    exact he.keeps (fun z => π z.self) fun z _ _ _ b _ _ => hπ z.self b
  refine done_sent_then burst (hself ▸ rfl) fun t he hs => ⟨hs, ?_, ?_, ?_, fun htype => ?_⟩
  · rw [hkeep LeafSelf.grants (fun _ _ => rfl) he]
    intro hm
    have : g ∈ v.self.grants.filter (· ≠ g) := (List.mem_filter.mp hm).1
    simpa using (List.mem_filter.mp this).2
  · rw [hkeep LeafSelf.seq (fun _ _ => rfl) he, ← hseq]
    rfl
  · exact he.touch.counted (hv.counted_of hsent (by decide) (by decide)) (by decide) (by decide)
  · exact he.touch.counted (hv.counted_of (htries htype) (by decide) (by decide)) (by decide) (by decide)

/-- The state that a burst is taken from: the updates in force, the payload taken. -/
theorem ownPayload_touch (s : State) (g : Grant) (now : Nat) : Touch [Reg.SELF_EQD_EQD.patch, Reg.SELF_FREQ_CORR_F.patch] s ((s.leafUpdates now).ownPayload g).2 ∧
    ((s.leafUpdates now).ownPayload g).2.self.seq = s.self.seq := by
  obtain ⟨hs, hr⟩ := ownPayload_keeps (s.leafUpdates now) g
  obtain ⟨⟨r, u, hu⟩, ht⟩ := leafUpdates_updated s now
  refine ⟨ht.same hr, ?_⟩
  rw [hs, hu]

theorem ownBurst_fresh (s : State) (n : Nat) (g : Grant) (b start : Nat) (p : List Byte) :
    ({ s with fresh := n } : State).ownBurst g b start p = s.ownBurst g b start p := rfl

theorem leaf_burst_tx (f : Fin 32) (g : Grant) (s : State) (hmode : s.mode = 2) (hsq : s.flag Reg.TXS_STATUS_SQUELCHED = false) (hlock : s.leafLocked = true)
    (hg : s.firstGrant (s.self.grants.filter s.eligible) = some g) (hf : g.furrow = f.val) :
    (∀ x, g.type ≠ 1 → x = (s.leafUpdates g.mf).ownBurst g 0 g.start ((s.leafUpdates g.mf).ownPayload g).1 → x.gate.1 ≤ s.clock →
      ∃ t y, exec (.leafBurstTx f) s = .next t ∧ t.self.sent = some y ∧ { y with gate := x.gate } = x ∧ g ∉ t.self.grants ∧ t.self.seq = (s.self.seq + 1) % 65536 ∧
        Counted Cnt.BURSTS_SENT 0 0 1 s t) ∧
    (g.type = 1 → (∀ b, b < max 1 g.len → ((s.leafUpdates g.mf).ownBurst g b (g.start + b * (240 + s.leafGuard)) []).gate.1 ≤ s.clock) →
      ∃ t y b, exec (.leafBurstTx f) s = .next t ∧ t.self.sent = some y ∧ b < max 1 g.len ∧
        { y with gate := (0, 0) } = { (s.leafUpdates g.mf).ownBurst g b (g.start + b * (240 + s.leafGuard)) [] with gate := (0, 0) } ∧ g ∉ t.self.grants ∧
        t.self.seq = (s.self.seq + 1) % 65536 ∧ Counted Cnt.SURVEY_TRIES 0 0 1 s t ∧ Counted Cnt.BURSTS_SENT 0 0 1 s t) := by
  refine ⟨fun x htype hx hgate => ?_, fun htype hgate => ?_⟩
  · have hexec := execLeafBurstTx_go hmode hsq hlock hg hf (draw := (0, s)) (if_neg htype).symm (b := 0) (start := g.start)
      (by rw [Nat.zero_mod, ite_self]) (if_neg htype).symm (hx ▸ hgate)
    obtain ⟨ht, hseq⟩ := ownPayload_touch s g g.mf
    obtain ⟨t, hdone, ⟨y, hy, hyx⟩, hmem, hs, hcount, -⟩ := burstSent_shown (g := g) (start := g.start) (burst := x) ht hseq
    refine ⟨t, y, ?_, hy, hyx, hmem, hs, hcount⟩
    show execLeafBurstTx f s = _
    rw [hexec, ← hx]
    exact hdone
  · generalize hdraw : s.free 226 = draw
    have hfree : draw.2 = { s with fresh := s.fresh + 1 } := by rw [← hdraw]; rfl
    generalize hb : (if g.len = 0 then 0 else draw.1 % g.len) = b
    have hlt : b < max 1 g.len := by
      rw [← hb]
      split
      · omega
      · next hl =>
        have := Nat.mod_lt draw.1 (Nat.pos_of_ne_zero hl)
        omega
    have hup : draw.2.leafUpdates g.mf = { s.leafUpdates g.mf with fresh := s.fresh + 1 } := by rw [hfree, leafUpdates_fresh]
    have hburst : (draw.2.leafUpdates g.mf).ownBurst g b (g.start + b * (240 + s.leafGuard)) ((draw.2.leafUpdates g.mf).ownPayload g).1 =
        (s.leafUpdates g.mf).ownBurst g b (g.start + b * (240 + s.leafGuard)) [] := by
      rw [ownPayload_survey _ htype, hup, ownBurst_fresh]
    have hexec := execLeafBurstTx_go hmode hsq hlock hg hf (draw := draw) (hdraw.symm.trans (if_pos htype).symm) hb.symm (start := g.start + b * (240 + s.leafGuard))
      (if_pos htype).symm (by rw [hburst]; exact hgate b hlt)
    rw [hburst] at hexec
    obtain ⟨ht, hseq⟩ := ownPayload_touch draw.2 g g.mf
    have hdrawn : Touch [Reg.SELF_EQD_EQD.patch, Reg.SELF_FREQ_CORR_F.patch] s draw.2 := .of_regs (by rw [hfree])
    obtain ⟨t, hdone, ⟨y, hy, hyx⟩, hmem, hs, hcount, htries⟩ := burstSent_shown (g := g) (start := g.start + b * (240 + s.leafGuard))
      (burst := (s.leafUpdates g.mf).ownBurst g b (g.start + b * (240 + s.leafGuard)) []) (hdrawn.trans ht) (hseq.trans (by rw [hfree]))
    refine ⟨t, y, b, hexec.trans hdone, hy, hlt, ?_, hmem, hs, htries htype, hcount⟩
    rw [← hyx]

/-- Settles O45. -/
theorem burstsAndLeafRegistration : Obligations.BurstsAndLeafRegistration :=
  ⟨burst_detect, burst_sync_timeout, burst_capture, burst_header, burst_end, grant_missed, grant_map_build, gmap_late, leaf_evict, leaf_grant_timeout, survey_retry_wait,
    leaf_burst_tx⟩

end Sys2Proof.Machine
end

section
/-! SUPPORT. References, the DPLL, device time and frame pulses (R627–R651): the lemmas that the obligation on timing rests on, and its proof. -/

namespace Sys2Proof.Machine

/-! ### What a selection of the reference writes (R632–R640) -/

/-- The words of the DPLL and of what follows it. -/
def selectPatches : List Patch :=
  [Reg.REF_STATUS_SELECTED.patch 7, Reg.DPLL_STATUS_STATE.patch, Reg.DPLL_STATUS_REF.patch, Reg.DPLL_STATUS_SWITCHING.patch, Reg.DPLL_STATUS_QL_OUT.patch,
    Reg.TCLK_STATUS_SQUELCHED.patch 2, Reg.HO_ELAPSED_SECONDS.patch, Reg.HO_OFS_OFS.patch, Reg.DPLL_OFS_OFS.patch, Reg.LAST_STEP_PS_STEP.patch,
    Reg.TIM_EVENTS_STATE_CHANGE.patch, Reg.TIM_EVENTS_REF_SWITCH.patch, Reg.TIM_EVENTS_LOST.patch] ++ Cnt.REF_SWITCHES.patches ++ Cnt.PHASE_STEPS.patches ++
    Cnt.HOLDOVER_ENTRIES.patches ++ Cnt.LOST_ENTRIES.patches

/-- The words that follow the DPLL's state (R640, R646, R648). -/
def followPatches : List Patch := [Reg.REF_STATUS_SELECTED.patch 7, Reg.DPLL_STATUS_QL_OUT.patch, Reg.TCLK_STATUS_SQUELCHED.patch 2]

theorem refreshTiming_follows (s : State) : Touch followPatches s s.refreshTiming := by
  unfold State.refreshTiming
  have hsel := Touch.foldl (l := followPatches) (s := s) (xs := List.range 7) (f := fun s r => s.set Reg.REF_STATUS_SELECTED (b2n (s.selRef = r)) r)
    (fun r hr v => (Touch.refl _ v).setRow (n := 7) (List.mem_range.mp hr) (by decide)) (.refl _ s)
  exact ((hsel.set0 (by decide)).setRow (n := 2) (by decide) (by decide)).setRow (n := 2) (by decide) (by decide)

def statePatches : List Patch := [Reg.DPLL_STATUS_STATE.patch, Reg.TIM_EVENTS_STATE_CHANGE.patch]

theorem toDpll_moves (s : State) (new : Nat) : Touch statePatches s (s.toDpll new) :=
  .ite (fun _ => .refl _ s) fun _ => (((Touch.refl _ s).set0 (by decide)).set0 (by decide)).log _ _ _

theorem gather_regs (s : State) : s.gather.regs = s.regs := by
  unfold State.gather
  split
  · rfl
  · rfl

theorem withTim_touch (l : List Patch) (s : State) (x : TimState) : Touch l s { s with tim := x } := .of_regs rfl

theorem leaveDpll_moves (s : State) : Touch [Reg.HO_ELAPSED_SECONDS.patch] s s.leaveDpll :=
  ((Touch.of_regs (gather_regs s)).set0 (by decide)).trans (withTim_touch _ _ _)

theorem loseRefs_selects (s : State) : Touch selectPatches s s.loseRefs := by
  have h1 : Touch selectPatches s ((s.leaveDpll.set Reg.DPLL_STATUS_SWITCHING 0).set Reg.DPLL_STATUS_REF 7) :=
    (((leaveDpll_moves s).mono (by decide)).set0 (by decide)).set0 (by decide)
  have h3 : ∀ (u : State) (v w : Nat), Touch selectPatches u
      ((((((u.set Reg.HO_OFS_OFS v).set Reg.DPLL_OFS_OFS w).toDpll 3).bump Cnt.HOLDOVER_ENTRIES).set Reg.HO_ELAPSED_SECONDS 0)) := fun u v w =>
    (((((Touch.refl _ u).set0 (by decide)).set0 (by decide)).andThen (toDpll_moves _ 3) (by decide)).bump0 (by decide)).set0 (by decide)
  unfold State.loseRefs
  refine .ite (fun _ => .ite (fun _ => ?_) fun _ => ?_) fun _ => ?_
  · exact ((((h1.trans (h3 _ _ _)).andThen (toDpll_moves _ _) (by decide)).bump0 (by decide)).set0 (by decide)).andThen (refreshTiming_follows _) (by decide)
  · exact ((h1.trans (h3 _ _ _)).trans (withTim_touch _ _ _)).andThen (refreshTiming_follows _) (by decide)
  · exact (((h1.set0 (by decide)).andThen (toDpll_moves _ _) (by decide)).trans (withTim_touch _ _ _)).andThen (refreshTiming_follows _) (by decide)

theorem switchTo_selects (s : State) (b reason : Nat) : Touch selectPatches s (s.switchTo b reason) := by
  have hfree : Touch selectPatches s (s.free 638).2 := .of_regs rfl
  have hmove : ∀ (v : State) (d : Int), Touch selectPatches v (v.moveTime d) := fun _ _ => .of_regs rfl
  have h4 : ∀ (c : Prop) [Decidable c] (v : State), Touch selectPatches v (if c then v.bump Cnt.PHASE_STEPS else v) := fun c _ v =>
    .ite (fun _ => (Touch.refl _ v).bump0 (by decide)) fun _ => .refl _ v
  unfold State.switchTo
  exact (((((((((((hfree.andThen (leaveDpll_moves _) (by decide)).set0 (by decide)).set0 (by decide)).andThen (toDpll_moves _ _) (by decide)).set0 (by decide)).trans (hmove _ _)).trans
    (h4 _ _)).bump0 (by decide)).set0 (by decide)).log _ _ _).trans (withTim_touch _ _ _)).andThen (refreshTiming_follows _) (by decide)

theorem reselect_selects (s : State) (commit : Bool) : Touch selectPatches s (s.reselect commit) := by
  unfold State.reselect
  dsimp only
  split
  · exact .ite (fun _ => loseRefs_selects s) fun _ => .refl _ s
  · exact .ite (fun _ => .refl _ s) fun _ => .ite (fun _ => .refl _ s) fun _ => switchTo_selects _ _ _

/-- The monitors of the references are as they were. -/
def RefsKept (s t : State) : Prop := t.tim.refs = s.tim.refs

namespace RefsKept

variable {s t u : State}

theorem refl (s : State) : RefsKept s s := Eq.refl s.tim.refs

theorem trans (h : RefsKept s t) (k : RefsKept t u) : RefsKept s u := Eq.trans k h

theorem of_regsLogs (h : RegsLogs s t) : RefsKept s t := h.keeps (fun v => v.tim.refs) fun _ _ _ => rfl

theorem set (h : RefsKept s t) (f : Field) (v i j : Nat) : RefsKept s (t.set f v i j) := h.trans (of_regsLogs (regsLogs_set _ _ _ _ _))

theorem bump (h : RefsKept s t) (c : Ctr) (i j n : Nat) : RefsKept s (t.bump c i j n) := h.trans (of_regsLogs (regsLogs_bump _ _ _ _ _))

theorem log (h : RefsKept s t) (wb type : Nat) (d : List Byte) : RefsKept s (t.log wb type d) := h.trans (of_regsLogs (regsLogs_log _ _ _ _))

theorem ite {c : Prop} [Decidable c] (h : RefsKept s t) (k : RefsKept s u) : RefsKept s (if c then t else u) := by
  split
  · exact h
  · exact k

theorem foldl {α : Type} {f : State → α → State} (h : ∀ x v, RefsKept v (f v x)) (l : List α) (s : State) : RefsKept s (l.foldl f s) :=
  foldl_inv (P := RefsKept s) (fun x _ v hv => hv.trans (h x v)) (refl s)

end RefsKept

theorem refreshTiming_refs (s : State) : RefsKept s s.refreshTiming := by
  unfold State.refreshTiming
  exact (((RefsKept.foldl (fun _ v => (RefsKept.refl v).set _ _ _ _) _ s).set _ _ _ _).set _ _ _ _).set _ _ _ _

theorem toDpll_refs (s : State) (new : Nat) : RefsKept s (s.toDpll new) := .ite (.refl s) ((((RefsKept.refl s).set _ _ _ _).set _ _ _ _).log _ _ _)

theorem gather_refs (s : State) : RefsKept s s.gather := by
  unfold State.gather
  split
  · exact .refl s
  · exact Eq.refl s.tim.refs

theorem leaveDpll_refs (s : State) : RefsKept s s.leaveDpll := by
  have htim : ∀ v : State, RefsKept v { v with tim := { v.tim with lockedAt := none, hoStart := none } } := fun v => Eq.refl v.tim.refs
  unfold State.leaveDpll
  exact ((gather_refs s).set _ _ _ _).trans (htim _)

theorem loseRefs_refs (s : State) : RefsKept s s.loseRefs := by
  have h1 : RefsKept s ((s.leaveDpll.set Reg.DPLL_STATUS_SWITCHING 0).set Reg.DPLL_STATUS_REF 7) := ((leaveDpll_refs s).set _ _ _ _).set _ _ _ _
  have h3 : ∀ (u : State) (v w : Nat), RefsKept u ((((((u.set Reg.HO_OFS_OFS v).set Reg.DPLL_OFS_OFS w).toDpll 3).bump Cnt.HOLDOVER_ENTRIES).set Reg.HO_ELAPSED_SECONDS 0)) :=
    fun u v w => (((((RefsKept.refl u).set _ _ _ _).set _ _ _ _).trans (toDpll_refs _ 3)).bump _ _ _ _).set _ _ _ _
  have hho : ∀ (v : State) x, RefsKept v { v with tim := { v.tim with hoStart := x } } := fun v _ => Eq.refl v.tim.refs
  have hhist : ∀ v : State, RefsKept v { v with tim := { v.tim with gathered := 0, hist := [] } } := fun v => Eq.refl v.tim.refs
  unfold State.loseRefs
  refine .ite (.ite ?_ ?_) ?_
  · exact ((((h1.trans (h3 _ _ _)).trans (toDpll_refs _ _)).bump _ _ _ _).set _ _ _ _).trans (refreshTiming_refs _)
  · exact ((h1.trans (h3 _ _ _)).trans (hho _ _)).trans (refreshTiming_refs _)
  · exact (((h1.set _ _ _ _).trans (toDpll_refs _ _)).trans (hhist _)).trans (refreshTiming_refs _)

theorem switchTo_refs (s : State) (b reason : Nat) : RefsKept s (s.switchTo b reason) := by
  have hfree : RefsKept s (s.free 638).2 := Eq.refl s.tim.refs
  have hmove : ∀ (v : State) (d : Int), RefsKept v (v.moveTime d) := fun v _ => Eq.refl v.tim.refs
  have h4 : ∀ (c : Prop) [Decidable c] (v : State), RefsKept v (if c then v.bump Cnt.PHASE_STEPS else v) := fun c _ v => .ite ((RefsKept.refl v).bump _ _ _ _) (.refl v)
  have hacq : ∀ (v : State) x, RefsKept v { v with tim := { v.tim with acqAt := x } } := fun v _ => Eq.refl v.tim.refs
  unfold State.switchTo
  exact (((((((((((hfree.trans (leaveDpll_refs _)).set _ _ _ _).set _ _ _ _).trans (toDpll_refs _ _)).set _ _ _ _).trans (hmove _ _)).trans (h4 _ _)).bump _ _ _ _).set _ _ _ _).log _ _ _).trans
    (hacq _ _)).trans (refreshTiming_refs _)

theorem reselect_refs (s : State) (commit : Bool) : RefsKept s (s.reselect commit) := by
  unfold State.reselect
  dsimp only
  split
  · exact .ite (loseRefs_refs s) (.refl s)
  · exact .ite (.refl s) (.ite (.refl s) (switchTo_refs _ _ _))

/-! ### Monitors (R627–R631) -/

theorem Ended.tim {but : List Nat} {s u t : State} (he : Ended but s u t) : t.tim = u.tim := he.keeps State.tim fun _ _ _ _ _ _ _ => rfl

theorem refMon_congr {s t : State} (h : t.tim.refs = s.tim.refs) (r : Nat) : t.refMon r = s.refMon r := congrArg (fun x => tget ({} : RefMon) x r) h

theorem refMon_setRefMon (s : State) (r : Nat) (m : RefMon) : (s.setRefMon r m).refMon r = m := tget_tput_self ({} : RefMon) s.tim.refs r m

theorem Ended.refMon {but : List Nat} {s u t : State} (he : Ended but s u t) (r : Nat) : t.refMon r = u.refMon r := refMon_congr (congrArg TimState.refs he.tim) r

def disqualPatches : List Patch := [Reg.REF_STATUS_QUALIFIED.patch 7, Reg.TIM_EVENTS_DISQUAL.patch] ++ Cnt.DISQUALS.patches ++ selectPatches

theorem disqualify_moves (s : State) {r : Nat} (hr : r < 7) (cause : Nat) : Touch disqualPatches s (s.disqualify r cause) := by
  unfold State.disqualify
  exact .ite (fun _ => .refl _ s) fun _ => (((((Touch.refl _ s).setRow hr (by decide)).bumpRow hr (by decide)).set0 (by decide)).log _ _ _).andThen (reselect_selects _ _) (by decide)

theorem disqualify_refs (s : State) (r cause : Nat) : RefsKept s (s.disqualify r cause) := by
  unfold State.disqualify
  exact .ite (.refl s) (((((RefsKept.refl s).set _ _ _ _).bump _ _ _ _).set _ _ _ _).log _ _ _ |>.trans (reselect_refs _ _))

/-- A qualified reference is disqualified and counted (R631). -/
theorem disqualify_shows (s : State) {r : Nat} (hr : r < 7) (cause : Nat) : (s.disqualify r cause).flag Reg.REF_STATUS_QUALIFIED r = false ∧
    (s.flag Reg.REF_STATUS_QUALIFIED r = true → Counted Cnt.DISQUALS r 0 1 s (s.disqualify r cause)) := by
  unfold State.disqualify
  cases hq : s.flag Reg.REF_STATUS_QUALIFIED r with
  | false => exact ⟨hq, nofun⟩
  | true =>
    rw [if_neg (by decide)]
    have hset : Touch [Reg.REF_STATUS_QUALIFIED.patch 7] s (s.set Reg.REF_STATUS_QUALIFIED 0 r) := (Touch.refl _ s).setRow hr (by decide)
    have hoff : (s.set Reg.REF_STATUS_QUALIFIED 0 r).flag Reg.REF_STATUS_QUALIFIED r = false := by
      rw [flag_set_self _ _ _ _ _ (by decide)]
      rfl
    generalize s.set Reg.REF_STATUS_QUALIFIED 0 r = v at hset hoff
    have hnoted : Touch [Reg.TIM_EVENTS_DISQUAL.patch] (v.bump Cnt.DISQUALS r) (((v.bump Cnt.DISQUALS r).set Reg.TIM_EVENTS_DISQUAL 1).log wbTiming 0x70
        [BitVec.ofNat 8 r, BitVec.ofNat 8 cause]) := ((Touch.refl _ _).set0 (by decide)).log _ _ _
    have hall : Touch (Reg.TIM_EVENTS_DISQUAL.patch :: Cnt.DISQUALS.patches) v (((v.bump Cnt.DISQUALS r).set Reg.TIM_EVENTS_DISQUAL 1).log wbTiming 0x70
        [BitVec.ofNat 8 r, BitVec.ofNat 8 cause]) := (((Touch.refl _ v).bumpRow hr (by decide)).set0 (by decide)).log _ _ _
    have hb : Counted Cnt.DISQUALS r 0 1 v (v.bump Cnt.DISQUALS r) := counted_bump _ _ _ _ _ (.inl rfl)
    exact ⟨((reselect_selects _ _).flagRow _ hr (by decide)).trans ((hall.flagRow _ hr (by decide)).trans hoff),
      fun _ => (reselect_selects _ _).counted (hnoted.counted (hset.counted_of hb hr (by decide)) hr (by decide)) hr (by decide)⟩

theorem ref_activity (ref : Fin 4) (s : State) :
    (s.flag Reg.REF_STATUS_ACTIVE ref.val = true → ∃ t, exec (.refActivityLoss ref) s = .next t ∧ t.flag Reg.REF_STATUS_ACTIVE ref.val = false ∧
      t.get Reg.REF_OFS_OFS ref.val = 0x80000000 ∧ t.flag Reg.REF_STATUS_QUALIFIED ref.val = false ∧
      (s.flag Reg.REF_STATUS_QUALIFIED ref.val = true → Counted Cnt.DISQUALS ref.val 0 1 s t)) ∧
    (s.flag Reg.REF_STATUS_ACTIVE ref.val = false → ∃ t, exec (.refActivityReturn ref) s = .next t ∧ t.flag Reg.REF_STATUS_ACTIVE ref.val = true ∧
      t.refMon ref.val = { gateAt := s.clock, from_ := s.clock } ∧ RegsKept [Reg.REF_STATUS_ACTIVE.addr ref.val 0] s t) := by
  have hr : ref.val < 7 := Nat.lt_trans ref.isLt (by decide)
  refine ⟨fun hact => ?_, fun hact => ?_⟩
  · show ∃ t, execRefActivityLoss ref s = _ ∧ _
    unfold execRefActivityLoss State.refInactive
    rw [if_pos hact]
    have hactive : Touch [Reg.REF_STATUS_ACTIVE.patch 7] s (s.set Reg.REF_STATUS_ACTIVE 0 ref.val) := (Touch.refl _ s).setRow hr (by decide)
    have hoff : (s.set Reg.REF_STATUS_ACTIVE 0 ref.val).flag Reg.REF_STATUS_ACTIVE ref.val = false := by
      rw [flag_set_self _ _ _ _ _ (by decide)]
      rfl
    generalize s.set Reg.REF_STATUS_ACTIVE 0 ref.val = v1 at hactive hoff
    have hofs : Touch [Reg.REF_OFS_OFS.patch 7] v1 (v1.set Reg.REF_OFS_OFS 0x80000000 ref.val) := (Touch.refl _ _).setRow hr (by decide)
    have hval : (v1.set Reg.REF_OFS_OFS 0x80000000 ref.val).get Reg.REF_OFS_OFS ref.val = 0x80000000 := get_set_self _ _ _ _ _ (by decide)
    generalize v1.set Reg.REF_OFS_OFS 0x80000000 ref.val = v2 at hofs hval
    have hleft : Touch [Reg.REF_STATUS_QUAL_LEFT.patch 7] v2 ((v2.set Reg.REF_STATUS_QUAL_LEFT 0 ref.val).setRefMon ref.val {}) :=
      ((Touch.refl _ _).setRow hr (by decide)).same rfl
    generalize (v2.set Reg.REF_STATUS_QUAL_LEFT 0 ref.val).setRefMon ref.val {} = v3 at hleft
    have hbefore : Touch [Reg.REF_STATUS_ACTIVE.patch 7, Reg.REF_OFS_OFS.patch 7, Reg.REF_STATUS_QUAL_LEFT.patch 7] s v3 :=
      ((hactive.mono (by decide)).andThen hofs (by decide)).andThen hleft (by decide)
    have hdis := disqualify_moves v3 hr 1
    obtain ⟨hq, hcount⟩ := disqualify_shows v3 hr 1
    refine done_then fun t he _ => ⟨?_, ?_, ?_, fun hqual => ?_⟩
    · rw [he.touch.flagRow _ hr (by decide), hdis.flagRow _ hr (by decide), hleft.flagRow _ hr (by decide), hofs.flagRow _ hr (by decide)]
      exact hoff
    · rw [he.touch.getRow _ hr (by decide), hdis.getRow _ hr (by decide), hleft.getRow _ hr (by decide)]
      exact hval
    · exact (he.touch.flagRow _ hr (by decide)).trans hq
    · have : v3.flag Reg.REF_STATUS_QUALIFIED ref.val = true := (hbefore.flagRow _ hr (by decide)).trans hqual
      exact he.touch.counted (hbefore.counted_of (hcount this) hr (by decide)) hr (by decide)
  · show ∃ t, execRefActivityReturn ref s = _ ∧ _
    unfold execRefActivityReturn State.refActive
    rw [hact, if_neg Bool.false_ne_true]
    have hleft : ∀ (v : State) (n : Nat), Touch [Reg.REF_STATUS_QUAL_LEFT.patch 7] v ((v.set Reg.REF_STATUS_QUAL_LEFT n ref.val).setRefMon ref.val
        { gateAt := s.clock, from_ := s.clock }) := fun v n => ((Touch.refl _ _).setRow hr (by decide)).same rfl
    refine done_then fun t he _ => ⟨?_, (he.refMon _).trans (refMon_setRefMon _ _ _), fun a ha hq => ?_⟩
    · rw [he.touch.flagRow _ hr (by decide), (hleft _ _).flagRow _ hr (by decide)]
      exact flag_set_self _ _ _ _ _ (by decide)
    · rw [List.mem_singleton] at ha
      have haddr : Reg.REF_STATUS_QUAL_LEFT.addr ref.val 0 = Reg.REF_STATUS_ACTIVE.addr ref.val 0 := rfl
      refine (he.kept a List.not_mem_nil hq).trans ?_
      exact (reg_setReg_ne _ _ (fun h => ha (h.trans haddr))).trans (reg_setReg_ne _ _ ha)

theorem twos_sint (x : Int) : twos 32 (sint 32 (twos 32 x)) = twos 32 x := by
  unfold twos sint
  rw [BitVec.ofNat_toNat, BitVec.setWidth_eq, BitVec.ofInt_toInt]

theorem twos_lt (x : Int) : twos 32 x < 2 ^ 32 := (BitVec.ofInt 32 x).isLt

/-- The DPLL follows a result of its own reference while LOCKED (R636). -/
def State.followRef (s1 : State) (r : Nat) : State :=
  if s1.dpll = 2 && s1.selRef = r then (s1.gather.set Reg.DPLL_OFS_OFS (twos 32 (s1.refPpb r))).showHold else s1

def gatePatches : List Patch := [Reg.DPLL_OFS_OFS.patch, Reg.HO_OFS_OFS.patch]

theorem followRef_touch (s : State) (r : Nat) : Touch gatePatches s (s.followRef r) := by
  have hofs : Touch gatePatches s (s.gather.set Reg.DPLL_OFS_OFS (twos 32 (s.refPpb r))) := (Touch.of_regs (gather_regs s)).set0 (by decide)
  exact .ite (fun _ => hofs.trans (.ite (fun _ => (Touch.refl _ _).set0 (by decide)) fun _ => .refl _ _)) fun _ => .refl _ s

theorem followRef_refs (s : State) (r : Nat) : RefsKept s (s.followRef r) := by
  have hofs : RefsKept s (s.gather.set Reg.DPLL_OFS_OFS (twos 32 (s.refPpb r))) := (gather_refs s).set _ _ _ _
  exact .ite (hofs.trans (.ite ((RefsKept.refl _).set _ _ _ _) (.refl _))) (.refl s)

/-- A gate's result is shown, its monitor's next gate begun (R630). -/
def State.gateNoted (s : State) (r : Nat) (ofs : Int) (dev : Nat) : State :=
  (s.set Reg.REF_OFS_OFS (twos 32 ofs) r).setRefMon r
    { gateAt := s.clock
      from_ := if decide (dev ≤ 10 * s.get Reg.DPLL_LIMITS_ACCEPT) || s.flag Reg.REF_STATUS_QUALIFIED r then (s.refMon r).from_ else s.clock
      ok := decide (dev ≤ 10 * s.get Reg.DPLL_LIMITS_ACCEPT) }

/-- The DPLL follows a gate's result (R636). -/
def State.gateFollowed (s : State) (r : Nat) (ofs : Int) (dev : Nat) : State := (s.gateNoted r ofs dev).followRef r

theorem gateNoted_get (s : State) (r : Nat) (ofs : Int) (dev : Nat) : (s.gateNoted r ofs dev).get Reg.REF_OFS_OFS r = twos 32 ofs :=
  (get_set_self s Reg.REF_OFS_OFS (twos 32 ofs) r 0 (by decide)).trans (Nat.mod_eq_of_lt (twos_lt ofs))

theorem gateNoted_gate (s : State) (r : Nat) (ofs : Int) (dev : Nat) : ((s.gateNoted r ofs dev).refMon r).gateAt = s.clock := by
  unfold State.gateNoted
  rw [refMon_setRefMon]

theorem gateNoted_touch (s : State) {r : Nat} (hr : r < 7) (ofs : Int) (dev : Nat) : Touch [Reg.REF_OFS_OFS.patch 7] s (s.gateNoted r ofs dev) :=
  ((Touch.refl _ s).setRow hr (by decide)).same rfl

theorem gateFollowed_shows (s : State) {r : Nat} (hr : r < 7) (ofs : Int) (dev : Nat) :
    (s.gateFollowed r ofs dev).get Reg.REF_OFS_OFS r = twos 32 ofs ∧ ((s.gateFollowed r ofs dev).refMon r).gateAt = s.clock := by
  unfold State.gateFollowed
  rw [(followRef_touch (s.gateNoted r ofs dev) r).getRow _ hr (by decide), refMon_congr (followRef_refs (s.gateNoted r ofs dev) r) r]
  exact ⟨gateNoted_get s r ofs dev, gateNoted_gate s r ofs dev⟩

theorem gateFollowed_touch (s : State) {r : Nat} (hr : r < 7) (ofs : Int) (dev : Nat) : Touch (Reg.REF_OFS_OFS.patch 7 :: gatePatches) s (s.gateFollowed r ofs dev) :=
  ((gateNoted_touch s hr ofs dev).mono (by decide)).andThen (followRef_touch _ r) (by decide)

theorem freq_gate_end (ref : Fin 7) (ofs : Int) (s : State) (hact : s.flag Reg.REF_STATUS_ACTIVE ref.val = true) (hdue : (s.refMon ref.val).gateAt + s.gateLen ref.val ≤ s.clock) :
    ∃ t, exec (.freqGateEnd ref ofs) s = .next t ∧ t.get Reg.REF_OFS_OFS ref.val = twos 32 ofs ∧ (t.refMon ref.val).gateAt = s.clock ∧
      (s.flag Reg.REF_STATUS_QUALIFIED ref.val = true → 10 * s.get Reg.DPLL_LIMITS_REJECT < (sint 32 (twos 32 ofs)).natAbs →
        t.flag Reg.REF_STATUS_QUALIFIED ref.val = false ∧ Counted Cnt.DISQUALS ref.val 0 1 s t) ∧
      ((sint 32 (twos 32 ofs)).natAbs ≤ 10 * s.get Reg.DPLL_LIMITS_REJECT → t.flag Reg.REF_STATUS_QUALIFIED ref.val = s.flag Reg.REF_STATUS_QUALIFIED ref.val) := by
  have hr : ref.val < 7 := ref.isLt
  have hcond : ¬(!s.flag Reg.REF_STATUS_ACTIVE ref.val || decide (s.clock < (s.refMon ref.val).gateAt + s.gateLen ref.val)) = true := by simp [hact, hdue]
  show ∃ t, execFreqGateEnd ref ofs s = _ ∧ _
  unfold execFreqGateEnd
  dsimp only
  rw [if_neg hcond, twos_sint]
  generalize (sint 32 (twos 32 ofs)).natAbs = dev
  obtain ⟨hofs, hgate⟩ := gateFollowed_shows s hr ofs dev
  have hv := gateFollowed_touch s hr ofs dev
  show ∃ t, (if s.flag Reg.REF_STATUS_QUALIFIED ref.val = true then if 10 * s.get Reg.DPLL_LIMITS_REJECT < dev
      then done s ((((s.gateFollowed ref.val ofs dev).setRefMon ref.val { gateAt := s.clock, from_ := s.clock }).set Reg.REF_STATUS_QUAL_LEFT
        (s.get Reg.REF_CFG_QUAL_S ref.val) ref.val).disqualify ref.val 2) else done s (s.gateFollowed ref.val ofs dev)
    else done s ((s.gateFollowed ref.val ofs dev).set Reg.REF_STATUS_QUAL_LEFT ((s.gateFollowed ref.val ofs dev).qualLeft ref.val) ref.val)) = _ ∧ _
  generalize s.gateFollowed ref.val ofs dev = v at hofs hgate hv
  cases hq : s.flag Reg.REF_STATUS_QUALIFIED ref.val with
  | false =>
    rw [if_neg Bool.false_ne_true]
    have hleft : Touch [Reg.REF_STATUS_QUAL_LEFT.patch 7] v (v.set Reg.REF_STATUS_QUAL_LEFT (v.qualLeft ref.val) ref.val) := (Touch.refl _ v).setRow hr (by decide)
    refine done_then fun t he _ => ⟨?_, ?_, nofun, fun _ => ?_⟩
    · exact (he.touch.getRow _ hr (by decide)).trans ((hleft.getRow _ hr (by decide)).trans hofs)
    · rw [he.refMon, refMon_congr ((RefsKept.refl v).set _ _ _ _)]
      exact hgate
    · rw [he.touch.flagRow _ hr (by decide), hleft.flagRow _ hr (by decide), hv.flagRow _ hr (by decide)]
      exact hq
  | true =>
    rw [if_pos rfl]
    by_cases hrej : 10 * s.get Reg.DPLL_LIMITS_REJECT < dev
    · rw [if_pos hrej]
      have hmon := refMon_setRefMon v ref.val { gateAt := s.clock, from_ := s.clock }
      have hset : Touch [] v (v.setRefMon ref.val { gateAt := s.clock, from_ := s.clock }) := .of_regs rfl
      generalize v.setRefMon ref.val { gateAt := s.clock, from_ := s.clock } = w at hmon hset
      have hleft : Touch [Reg.REF_STATUS_QUAL_LEFT.patch 7] v (w.set Reg.REF_STATUS_QUAL_LEFT (s.get Reg.REF_CFG_QUAL_S ref.val) ref.val) :=
        (hset.mono (by decide)).setRow hr (by decide)
      have hwmon := refMon_congr ((RefsKept.refl w).set Reg.REF_STATUS_QUAL_LEFT (s.get Reg.REF_CFG_QUAL_S ref.val) ref.val 0) ref.val
      generalize w.set Reg.REF_STATUS_QUAL_LEFT (s.get Reg.REF_CFG_QUAL_S ref.val) ref.val = x at hleft hwmon
      have hdis := disqualify_moves x hr 2
      obtain ⟨hoff, hcount⟩ := disqualify_shows x hr 2
      have hxq : x.flag Reg.REF_STATUS_QUALIFIED ref.val = true := (hleft.flagRow _ hr (by decide)).trans ((hv.flagRow _ hr (by decide)).trans hq)
      have hbefore : Touch (Reg.REF_OFS_OFS.patch 7 :: Reg.REF_STATUS_QUAL_LEFT.patch 7 :: gatePatches) s x := (hv.mono (by decide)).andThen hleft (by decide)
      refine done_then fun t he _ => ⟨?_, ?_, fun _ _ => ⟨?_, ?_⟩, fun h => absurd hrej (Nat.not_lt.mpr h)⟩
      · exact (he.touch.getRow _ hr (by decide)).trans ((hdis.getRow _ hr (by decide)).trans ((hleft.getRow _ hr (by decide)).trans hofs))
      · rw [he.refMon, refMon_congr (disqualify_refs x ref.val 2), hwmon, hmon]
      · exact (he.touch.flagRow _ hr (by decide)).trans hoff
      · exact he.touch.counted (hbefore.counted_of (hcount hxq) hr (by decide)) hr (by decide)
    · rw [if_neg hrej]
      refine done_then fun t he _ => ⟨(he.touch.getRow _ hr (by decide)).trans hofs, ?_, fun _ h => absurd h hrej, fun _ => ?_⟩
      · rw [he.refMon]
        exact hgate
      · rw [he.touch.flagRow _ hr (by decide), hv.flagRow _ hr (by decide)]
        exact hq

theorem ref_qualify (ref : Fin 7) (s : State) (hact : s.flag Reg.REF_STATUS_ACTIVE ref.val = true) (hq : s.flag Reg.REF_STATUS_QUALIFIED ref.val = false)
    (hok : (s.refMon ref.val).ok = true) (hdue : (s.refMon ref.val).from_ + 13000000000 * s.get Reg.REF_CFG_QUAL_S ref.val ≤ s.clock) :
    ∃ t, exec (.refQualify ref) s = .next t ∧ t.flag Reg.REF_STATUS_QUALIFIED ref.val = true ∧ t.get Reg.REF_STATUS_QUAL_LEFT ref.val = 0 := by
  have hr : ref.val < 7 := ref.isLt
  have hcond : ¬(!s.flag Reg.REF_STATUS_ACTIVE ref.val || s.flag Reg.REF_STATUS_QUALIFIED ref.val || !(s.refMon ref.val).ok ||
      decide (s.clock < (s.refMon ref.val).from_ + secT (s.get Reg.REF_CFG_QUAL_S ref.val))) = true := by
    have : secT (s.get Reg.REF_CFG_QUAL_S ref.val) = 13000000000 * s.get Reg.REF_CFG_QUAL_S ref.val := rfl
    simp [hact, hq, hok, this, hdue]
  show ∃ t, execRefQualify ref s = _ ∧ _
  unfold execRefQualify
  dsimp only
  rw [if_neg hcond]
  have hset : (s.set Reg.REF_STATUS_QUALIFIED 1 ref.val).flag Reg.REF_STATUS_QUALIFIED ref.val = true := flag_set_self _ _ _ _ _ (by decide)
  generalize s.set Reg.REF_STATUS_QUALIFIED 1 ref.val = v at hset
  have hleft : Touch [Reg.REF_STATUS_QUAL_LEFT.patch 7] v (v.set Reg.REF_STATUS_QUAL_LEFT 0 ref.val) := (Touch.refl _ v).setRow hr (by decide)
  have hsel := reselect_selects (v.set Reg.REF_STATUS_QUAL_LEFT 0 ref.val) false
  refine done_then fun t he _ => ⟨?_, ?_⟩
  · rw [he.touch.flagRow _ hr (by decide), hsel.flagRow _ hr (by decide), hleft.flagRow _ hr (by decide)]
    exact hset
  · rw [he.touch.getRow _ hr (by decide), hsel.getRow _ hr (by decide)]
    exact get_set_self _ _ _ _ _ (by decide)

/-! ### The DPLL's own events (R633, R635–R637) -/

/-- A DPLL state below 8 is entered: the state reads so, and a change shows. -/
theorem toDpll_state (s : State) {new : Nat} (hn : new < 8) : (s.toDpll new).dpll = new ∧ (s.dpll ≠ new → (s.toDpll new).flag Reg.TIM_EVENTS_STATE_CHANGE = true) := by
  unfold State.toDpll
  by_cases h : s.dpll = new
  · rw [if_pos h]
    exact ⟨h, fun hne => absurd h hne⟩
  · rw [if_neg h]
    have hev : ∀ d, Touch [Reg.TIM_EVENTS_STATE_CHANGE.patch] (s.set Reg.DPLL_STATUS_STATE new) (((s.set Reg.DPLL_STATUS_STATE new).set Reg.TIM_EVENTS_STATE_CHANGE 1).log wbTiming 0x72 d) :=
      fun d => ((Touch.refl _ _).set0 (by decide)).log _ _ _
    have hlog : ∀ (v : State) d, Touch [] v (v.log wbTiming 0x72 d) := fun v d => (Touch.refl _ _).log _ _ _
    refine ⟨?_, fun _ => ?_⟩
    · exact ((hev _).get0 _ (by decide)).trans ((get_set_self _ _ _ _ _ (by decide)).trans (Nat.mod_eq_of_lt hn))
    · exact ((hlog _ _).flag0 _ (by decide)).trans (flag_set_self _ _ _ _ _ (by decide))

def dpllLockPatches : List Patch := Reg.DPLL_STATUS_SWITCHING.patch :: Reg.DPLL_OFS_OFS.patch :: statePatches ++ followPatches

/-- The better of a candidate chosen so far and reference `r`. -/
def State.betterRef (s : State) (b : Option Nat) (r : Nat) : Option Nat :=
  if !s.candidate r then b
  else match b with
    | none => some r
    | some q => if s.get Reg.REF_CFG_PRIO r < s.get Reg.REF_CFG_PRIO q then some r else b

theorem bestAuto_eq (s : State) : s.bestAuto = (List.range 7).foldl s.betterRef none := rfl

/-- A reference chosen so far is one of the seven. -/
def RefChosen (b : Option Nat) : Prop := ∀ q, b = some q → q < 7

theorem betterRef_lt (s : State) {b : Option Nat} (hb : RefChosen b) {r : Nat} (hr : r < 7) : RefChosen (s.betterRef b r) := by
  have hself : RefChosen (some r) := fun q hq => Option.some.inj hq ▸ hr
  unfold State.betterRef
  split
  · exact hb
  · split
    · exact hself
    · split
      · exact hself
      · exact hb

theorem betterRef_lock {s t : State} (h : Touch dpllLockPatches s t) {b : Option Nat} (hb : RefChosen b) {r : Nat} (hr : r < 7) : t.betterRef b r = s.betterRef b r := by
  have hcand : t.candidate r = s.candidate r := by
    unfold State.candidate
    rw [h.flagRow _ hr (by decide), h.getRow _ hr (by decide)]
  unfold State.betterRef
  rw [hcand]
  cases b with
  | none => rfl
  | some q =>
    dsimp only
    rw [h.getRow Reg.REF_CFG_PRIO hr (by decide), h.getRow Reg.REF_CFG_PRIO (hb q rfl) (by decide)]

theorem bestRefs_lock {s t : State} (h : Touch dpllLockPatches s t) (l : List Nat) (hl : ∀ r ∈ l, r < 7) {b : Option Nat} (hb : RefChosen b) :
    l.foldl t.betterRef b = l.foldl s.betterRef b := by
  induction l generalizing b with
  | nil => rfl
  | cons r l ih =>
    have hr := hl r List.mem_cons_self
    rw [List.foldl_cons, List.foldl_cons, betterRef_lock h hb hr]
    exact ih (fun x hx => hl x (List.mem_cons_of_mem _ hx)) (betterRef_lt s hb hr)

/-- The best reference does not depend on what entering LOCKED writes. -/
theorem bestRef_lock {s t : State} (h : Touch dpllLockPatches s t) : t.bestRef = s.bestRef := by
  have hm : s.get Reg.DPLL_CFG_MANUAL_REF < 8 := get_lt s _ _ _
  unfold State.bestRef
  dsimp only
  rw [bestAuto_eq, bestAuto_eq, bestRefs_lock h _ (fun r hr => List.mem_range.mp hr) (fun q hq => by cases hq), h.get0 _ (by decide), h.flag0 _ (by decide), h.flagRow (n := 8) _ hm (by decide)]

theorem refreshTiming_tim (s : State) : s.refreshTiming.tim = s.tim := by
  have hset : ∀ (v : State) (f : Field) (n i : Nat), (v.set f n i).tim = v.tim := fun _ _ _ _ => rfl
  unfold State.refreshTiming
  dsimp only
  rw [hset, hset, hset]
  exact foldl_keeps State.tim (g := fun s r => s.set Reg.REF_STATUS_SELECTED (b2n (s.selRef = r)) r) (fun _ _ => rfl) _ s

theorem refreshTiming_dpll (s : State) : s.refreshTiming.dpll = s.dpll := (refreshTiming_follows s).get0 _ (by decide)

theorem dpll_lock (s : State) (hst : s.dpll = 1) (hdue : s.tim.acqAt + 26000000000 ≤ s.clock) (hbest : s.bestRef = some s.selRef) :
    ∃ t, exec .dpllLock s = .next t ∧ t.dpll = 2 ∧ t.flag Reg.DPLL_STATUS_SWITCHING = false ∧ t.tim.lockedAt = some s.clock ∧ t.flag Reg.TIM_EVENTS_STATE_CHANGE = true := by
  have hcond : ¬(decide (s.dpll ≠ 1) || decide (s.clock < s.tim.acqAt + secT 2)) = true := by
    have : secT 2 = 26000000000 := rfl
    simp [hst, this, hdue]
  show ∃ t, execDpllLock s = _ ∧ _
  unfold execDpllLock
  dsimp only
  rw [if_neg hcond]
  have hsw : Touch dpllLockPatches s (s.set Reg.DPLL_STATUS_SWITCHING 0) := (Touch.refl _ s).set0 (by decide)
  have hoff : (s.set Reg.DPLL_STATUS_SWITCHING 0).flag Reg.DPLL_STATUS_SWITCHING = false := by
    rw [flag_set_self _ _ _ _ _ (by decide)]
    rfl
  have hone : (s.set Reg.DPLL_STATUS_SWITCHING 0).dpll = 1 := (get_set_ne _ _ _ _ _ _ _ _ (by decide) (.inr (by decide))).trans hst
  generalize s.set Reg.DPLL_STATUS_SWITCHING 0 = v1 at hsw hoff hone
  have hto := toDpll_moves v1 2
  obtain ⟨htwo, hchange⟩ := toDpll_state v1 (new := 2) (by decide)
  have hchange := hchange (by rw [hone]; decide)
  generalize v1.toDpll 2 = v2 at hto htwo hchange
  have hofs : Touch [Reg.DPLL_OFS_OFS.patch] v2 (v2.set Reg.DPLL_OFS_OFS (twos 32 (s.refPpb s.selRef))) := (Touch.refl _ _).set0 (by decide)
  generalize v2.set Reg.DPLL_OFS_OFS (twos 32 (s.refPpb s.selRef)) = v3 at hofs
  generalize hv4 : ({ v3 with tim := { v3.tim with lockedAt := some s.clock } } : State) = v4
  have h34 : Touch [] v3 v4 := by rw [← hv4]; exact .of_regs rfl
  have hfollow := (h34.mono (l' := followPatches) (by decide)).andThen (refreshTiming_follows v4) (by decide)
  have hall : Touch dpllLockPatches s v4.refreshTiming := ((hsw.andThen hto (by decide)).andThen hofs (by decide)).andThen hfollow (by decide)
  have hsel : v4.refreshTiming.selRef = s.selRef := hall.get0 _ (by decide)
  have hkeep : v4.refreshTiming.reselect false = v4.refreshTiming := by
    unfold State.reselect
    dsimp only
    rw [bestRef_lock hall, hbest, hsel]
    exact if_pos rfl
  rw [hkeep]
  refine done_then fun t he _ => ⟨?_, ?_, ?_, ?_⟩
  · exact (he.touch.get0 _ (by decide)).trans ((hfollow.get0 _ (by decide)).trans ((hofs.get0 _ (by decide)).trans htwo))
  · rw [he.touch.flag0 _ (by decide), hfollow.flag0 _ (by decide), hofs.flag0 _ (by decide), hto.flag0 _ (by decide)]
    exact hoff
  · rw [he.tim, refreshTiming_tim, ← hv4]
  · rw [he.touch.flag0 _ (by decide), hfollow.flag0 _ (by decide), hofs.flag0 _ (by decide)]
    exact hchange

theorem history_ok (s : State) (hno : s.flag Reg.DPLL_STATUS_HISTORY_OK = false) (hlong : 780000000000 ≤ s.gather.tim.gathered) :
    ∃ t, exec .historyOk s = .next t ∧ t.flag Reg.DPLL_STATUS_HISTORY_OK = true ∧ t.get Reg.HO_OFS_OFS = twos 32 s.gather.holdFreq := by
  have hcond : ¬(s.flag Reg.DPLL_STATUS_HISTORY_OK || decide (s.gather.tim.gathered < secT 60)) = true := by
    have : secT 60 = 780000000000 := rfl
    simp [hno, this, hlong]
  show ∃ t, execHistoryOk s = _ ∧ _
  unfold execHistoryOk
  dsimp only
  rw [if_neg hcond]
  have hset : Touch [Reg.HO_OFS_OFS.patch] (s.gather.set Reg.DPLL_STATUS_HISTORY_OK 1) ((s.gather.set Reg.DPLL_STATUS_HISTORY_OK 1).set Reg.HO_OFS_OFS (twos 32 s.gather.holdFreq)) :=
    (Touch.refl _ _).set0 (by decide)
  refine done_then fun t he _ => ⟨?_, ?_⟩
  · exact (he.touch.flag0 _ (by decide)).trans ((hset.flag0 _ (by decide)).trans (flag_set_self _ _ _ _ _ (by decide)))
  · exact (he.touch.get0 _ (by decide)).trans ((get_set_self _ _ _ _ _ (by decide)).trans (Nat.mod_eq_of_lt (twos_lt _)))

theorem toDpll_tim (s : State) (new : Nat) : (s.toDpll new).tim = s.tim := by
  have h : RegsLogs (s.set Reg.DPLL_STATUS_STATE new) (((s.set Reg.DPLL_STATUS_STATE new).set Reg.TIM_EVENTS_STATE_CHANGE 1).log wbTiming 0x72
      [BitVec.ofNat 8 s.dpll, BitVec.ofNat 8 new, BitVec.ofNat 8 s.selRef]) := ((RegsLogs.refl _).set _ _ _ _).log _ _ _
  exact ite_keeps State.tim rfl (h.keeps State.tim fun _ _ _ => rfl)

theorem holdover_expire (t0 : Nat) (s : State) (hho : s.tim.hoStart = some t0) (hst : s.dpll = 3) (hdue : t0 + 13000000000 * s.get Reg.HO_CFG_HO_SPEC_S ≤ s.clock) :
    ∃ t, exec .holdoverExpire s = .next t ∧ t.dpll = 4 ∧ Counted Cnt.LOST_ENTRIES 0 0 1 s t ∧ t.flag Reg.TIM_EVENTS_LOST = true ∧ t.tim.hoStart = none := by
  have hcond : ¬(decide (s.dpll ≠ 3) || decide (s.clock < t0 + secT (s.get Reg.HO_CFG_HO_SPEC_S))) = true := by
    have : secT (s.get Reg.HO_CFG_HO_SPEC_S) = 13000000000 * s.get Reg.HO_CFG_HO_SPEC_S := rfl
    simp [hst, this, hdue]
  show ∃ t, execHoldoverExpire s = _ ∧ _
  unfold execHoldoverExpire
  rw [hho]
  dsimp only
  rw [if_neg hcond]
  have hto : Touch (Reg.HO_ELAPSED_SECONDS.patch :: statePatches) s (s.leaveDpll.toDpll 4) := ((leaveDpll_moves s).mono (by decide)).andThen (toDpll_moves _ 4) (by decide)
  have hfour := (toDpll_state s.leaveDpll (new := 4) (by decide)).1
  have hnone : (s.leaveDpll.toDpll 4).tim.hoStart = none := (congrArg TimState.hoStart (toDpll_tim _ 4)).trans rfl
  generalize s.leaveDpll.toDpll 4 = v at hto hfour hnone
  have hset : Touch [Reg.TIM_EVENTS_LOST.patch] (v.bump Cnt.LOST_ENTRIES) ((v.bump Cnt.LOST_ENTRIES).set Reg.TIM_EVENTS_LOST 1) := (Touch.refl _ _).set0 (by decide)
  have hboth : Touch (Reg.TIM_EVENTS_LOST.patch :: Cnt.LOST_ENTRIES.patches) v ((v.bump Cnt.LOST_ENTRIES).set Reg.TIM_EVENTS_LOST 1) :=
    ((Touch.refl _ v).bump0 (by decide)).set0 (by decide)
  have hev : ((v.bump Cnt.LOST_ENTRIES).set Reg.TIM_EVENTS_LOST 1).flag Reg.TIM_EVENTS_LOST = true := flag_set_self _ _ _ _ _ (by decide)
  have hb : Counted Cnt.LOST_ENTRIES 0 0 1 v (v.bump Cnt.LOST_ENTRIES) := counted_bump _ _ _ _ _ (.inl rfl)
  have htim : ((v.bump Cnt.LOST_ENTRIES).set Reg.TIM_EVENTS_LOST 1).tim = v.tim := (((RegsLogs.refl v).bump _ _ _ _).set _ _ _ _).keeps State.tim fun _ _ _ => rfl
  generalize (v.bump Cnt.LOST_ENTRIES).set Reg.TIM_EVENTS_LOST 1 = w at hset hboth hev htim
  have hfollow := refreshTiming_follows w
  refine done_then fun t he _ => ⟨?_, ?_, ?_, ?_⟩
  · exact (he.touch.get0 _ (by decide)).trans ((hfollow.get0 _ (by decide)).trans ((hboth.get0 _ (by decide)).trans hfour))
  · exact he.touch.counted (hfollow.counted (hset.counted (hto.counted_of hb (by decide) (by decide)) (by decide) (by decide)) (by decide) (by decide)) (by decide) (by decide)
  · exact (he.touch.flag0 _ (by decide)).trans ((hfollow.flag0 _ (by decide)).trans hev)
  · rw [he.tim, refreshTiming_tim, htim]
    exact hnone

/-! ### Steps and corrections of device time (R599, R642, R643) -/

/-- Device time stepped, before the seconds that it takes back are to be served anew. -/
def State.timeStepped (s : State) (d : Int) (source : Nat) : State :=
  ((((s.moveTime d).tlShift ((1000 * d) / 13)).bump Cnt.TIME_STEPS).set Reg.TIM_EVENTS_TIME_STEP 1).log wbTiming 0x73
    ([BitVec.ofNat 8 source, 0, 0, 0] ++ bytes 8 (twos 64 ((2 * d + 13) / 26)))

theorem stepTime_eq (s : State) (d : Int) (source : Nat) : s.stepTime d source =
    { s.timeStepped d source with tim := { (s.timeStepped d source).tim with second := min (s.timeStepped d source).tim.second ((s.timeStepped d source).devTime / secT 1) } } := rfl

theorem tlShift_keeps {β : Type} (π : State → β) (hln : ∀ v x, π { v with ln := x } = π v) (s : State) (ps : Int) : π (s.tlShift ps) = π s :=
  foldl_keeps π (fun _ _ => hln _ _) _ s

/-- What a step of device time leaves, beside the time that it moves. -/
theorem stepTime_keeps {β : Type} (π : State → β) (hln : ∀ v x, π { v with ln := x } = π v) (hlog : ∀ v r l b, π { v with regs := r, logs := l, self := { v.self with sent := b } } = π v)
    (hsec : ∀ v x, π { v with tim := { v.tim with second := x } } = π v) (s : State) (d : Int) (source : Nat) : π (s.stepTime d source) = π (s.moveTime d) := by
  have hlogs : RegsLogs ((s.moveTime d).tlShift ((1000 * d) / 13)) (s.timeStepped d source) := (((RegsLogs.refl _).bump _ _ _ _).set _ _ _ _).log _ _ _
  rw [stepTime_eq, hsec, hlogs.keeps π (hlog _), tlShift_keeps π hln]

def stepPatches : List Patch := Reg.TIM_EVENTS_TIME_STEP.patch :: Cnt.TIME_STEPS.patches

theorem tlShift_touch (s : State) (ps : Int) : Touch [] s (s.tlShift ps) := .of_regs (tlShift_keeps State.regs (fun _ _ => rfl) s ps)

theorem stepTime_touch (s : State) (d : Int) (source : Nat) : Touch stepPatches s (s.stepTime d source) := by
  have hmove : Touch [] s ((s.moveTime d).tlShift ((1000 * d) / 13)) := Touch.trans (.of_regs rfl) (tlShift_touch _ _)
  have hsec : Touch stepPatches (s.timeStepped d source) (s.stepTime d source) := by
    rw [stepTime_eq]
    exact .of_regs rfl
  refine Touch.trans ?_ hsec
  unfold State.timeStepped
  generalize (s.moveTime d).tlShift ((1000 * d) / 13) = v at hmove
  exact (((hmove.mono (by decide)).bump0 (by decide)).set0 (by decide)).log _ _ _

theorem stepTime_counts (s : State) (d : Int) (source : Nat) : Counted Cnt.TIME_STEPS 0 0 1 s (s.stepTime d source) ∧ (s.stepTime d source).flag Reg.TIM_EVENTS_TIME_STEP = true := by
  have hmove : Touch [] s ((s.moveTime d).tlShift ((1000 * d) / 13)) := Touch.trans (.of_regs rfl) (tlShift_touch _ _)
  rw [stepTime_eq]
  unfold State.timeStepped
  generalize (s.moveTime d).tlShift ((1000 * d) / 13) = v at hmove
  have hlog := (Touch.refl [] ((v.bump Cnt.TIME_STEPS).set Reg.TIM_EVENTS_TIME_STEP 1)).log wbTiming 0x73 ([BitVec.ofNat 8 source, 0, 0, 0] ++ bytes 8 (twos 64 ((2 * d + 13) / 26)))
  have hflag : ((v.bump Cnt.TIME_STEPS).set Reg.TIM_EVENTS_TIME_STEP 1).flag Reg.TIM_EVENTS_TIME_STEP = true := flag_set_self _ _ _ _ _ (by decide)
  have hcount : Counted Cnt.TIME_STEPS 0 0 1 v (((v.bump Cnt.TIME_STEPS).set Reg.TIM_EVENTS_TIME_STEP 1).log wbTiming 0x73 ([BitVec.ofNat 8 source, 0, 0, 0] ++ bytes 8 (twos 64 ((2 * d + 13) / 26)))) :=
    counted_set rfl (by decide) hlog (by decide) (by decide)
  generalize (v.bump Cnt.TIME_STEPS).set Reg.TIM_EVENTS_TIME_STEP 1 = w at hlog hflag hcount
  generalize w.log wbTiming 0x73 ([BitVec.ofNat 8 source, 0, 0, 0] ++ bytes 8 (twos 64 ((2 * d + 13) / 26))) = x at hlog hcount
  have hsame : Touch [] x { x with tim := { x.tim with second := min x.tim.second (x.devTime / secT 1) } } := .of_regs rfl
  exact ⟨hsame.counted (hmove.counted_of hcount (by decide) (by decide)) (by decide) (by decide), (hsame.flag0 _ (by decide)).trans ((hlog.flag0 _ (by decide)).trans hflag)⟩

def timeErrorPatches : List Patch := Reg.LAST_TIME_ERR_E.patch :: stepPatches

theorem timeError_touch (s : State) (e : Int) (source : Nat) : Touch timeErrorPatches s (s.timeError e source) := by
  have hset : Touch timeErrorPatches s ((s.stopSlew).set Reg.LAST_TIME_ERR_E (sat32 ((2 * e + 13) / 26))) :=
    Touch.set0 (Touch.of_regs (t := s.stopSlew) rfl) (by decide)
  unfold State.timeError
  dsimp only
  generalize (s.stopSlew).set Reg.LAST_TIME_ERR_E (sat32 ((2 * e + 13) / 26)) = v at hset
  exact .ite (fun _ => hset.andThen (stepTime_touch v _ _) (by decide)) fun _ => hset.same rfl

theorem fpiTime_touch (s : State) (i : Nat) : Touch timeErrorPatches s (s.fpiTime i) := by
  unfold State.fpiTime
  exact .ite (fun _ => timeError_touch s _ _) fun _ => .refl _ s

theorem timeError_fpis (s : State) (e : Int) (source : Nat) : (s.timeError e source).tim.fpis = s.tim.fpis := by
  have hset : ((s.stopSlew).set Reg.LAST_TIME_ERR_E (sat32 ((2 * e + 13) / 26))).tim.fpis = s.tim.fpis :=
    ((RegsLogs.refl s.stopSlew).set _ _ _ _).keeps (fun v => v.tim.fpis) fun _ _ _ => rfl
  unfold State.timeError
  dsimp only
  generalize (s.stopSlew).set Reg.LAST_TIME_ERR_E (sat32 ((2 * e + 13) / 26)) = v at hset
  rw [← hset]
  split
  · exact stepTime_keeps (fun v => v.tim.fpis) (fun _ _ => rfl) (fun _ _ _ _ => rfl) (fun _ _ => rfl) v _ _
  · rfl

/-- The pulse inputs do not depend on the time that they give. -/
theorem fpiTime_fpi (s : State) (i j : Nat) : (s.fpiTime i).fpi j = s.fpi j := by
  have h : (s.fpiTime i).tim.fpis = s.tim.fpis := by
    unfold State.fpiTime
    by_cases hc : (decide (s.get Reg.TIME_CFG_TIME_SRC = 3 + i) && decide (s.get Reg.FPI_CFG_PERIOD i = 2)) = true
    · rw [if_pos hc]
      exact timeError_fpis s _ _
    · rw [if_neg hc]
  exact congrArg (fun l => tget {} l j) h

/-! ### Frame pulse inputs (R644) -/

theorem fpi_setFpi_self (s : State) (i : Nat) (x : Fpi) : (s.setFpi i x).fpi i = x := tget_tput_self _ s.tim.fpis i x

theorem Ended.fpi {but : List Nat} {s u t : State} (he : Ended but s u t) (i : Nat) : t.fpi i = u.fpi i := congrArg (fun x : TimState => tget ({} : Fpi) x.fpis i) he.tim

theorem fpi_set (s : State) (i : Nat) (f : Field) (v j k : Nat) : (s.set f v j k).fpi i = s.fpi i := rfl

theorem fpi_bump (s : State) (i : Nat) (c : Ctr) (j k n : Nat) : (s.bump c j k n).fpi i = s.fpi i :=
  ((RegsLogs.refl s).bump _ _ _ _).keeps (fun v => v.fpi i) fun _ _ _ => rfl

theorem execFpiEdge_absent (i : Fin 2) (s : State) (hen : s.flag Reg.FPI_CFG_EN i.val = true) (hoff : s.flag Reg.FPI_STATUS_PRESENT i.val = false) : execFpiEdge i s =
    if (s.fpi i.val).edges.any (fun t => onePeriod (pulsePeriod (s.get Reg.FPI_CFG_PERIOD i.val)) t s.clock)
      then done s ((s.setFpi i.val { fly := some s.clock }).set Reg.FPI_STATUS_PRESENT 1 i.val)
    else done s (s.setFpi i.val { s.fpi i.val with edges := recent (pulsePeriod (s.get Reg.FPI_CFG_PERIOD i.val)) 1 s.clock (s.fpi i.val).edges ++ [s.clock] }) := by
  unfold execFpiEdge
  simp [hen, hoff]

theorem execFpiEdge_present (i : Fin 2) (s : State) (hen : s.flag Reg.FPI_CFG_EN i.val = true) (hon : s.flag Reg.FPI_STATUS_PRESENT i.val = true) {f : Nat}
    (hfly : (s.fpi i.val).fly = some f) : execFpiEdge i s =
    if onePeriod (pulsePeriod (s.get Reg.FPI_CFG_PERIOD i.val)) f s.clock then done s ((s.setFpi i.val { fly := some s.clock }).fpiTime i.val)
    else if (s.fpi i.val).outs.any (fun b => onePeriod (pulsePeriod (s.get Reg.FPI_CFG_PERIOD i.val)) b s.clock &&
        (s.fpi i.val).outs.any (fun a => onePeriod (pulsePeriod (s.get Reg.FPI_CFG_PERIOD i.val)) a b)) then
      done s (((s.setFpi i.val { fly := some s.clock }).bump Cnt.FPI_REALIGNS i.val).fpiTime i.val)
    else done s (s.setFpi i.val { s.fpi i.val with outs := recent (pulsePeriod (s.get Reg.FPI_CFG_PERIOD i.val)) 2 s.clock (s.fpi i.val).outs ++ [s.clock] }) := by
  unfold execFpiEdge
  simp [hen, hon, hfly]

/-- An edge in the window, or the third of three in a row, sets the input's flywheel anew and gives device time its error. -/
theorem recentred (i : Fin 2) {s v : State} (hv : v.fpi i.val = { fly := some s.clock }) {l : List Patch} (h : Touch l s v) (hl : l.all (·.inList (Cnt.FPI_REALIGNS.patches)) = true)
    (hon : s.flag Reg.FPI_STATUS_PRESENT i.val = true) :
    ∃ t, done s (v.fpiTime i.val) = .next t ∧ t.fpi i.val = { fly := some s.clock } ∧ t.flag Reg.FPI_STATUS_PRESENT i.val = true ∧ Touch timeErrorPatches v t := by
  have htime := fpiTime_touch v i.val
  refine done_then fun t he _ => ⟨?_, ?_, ?_⟩
  · rw [he.fpi, fpiTime_fpi, hv]
  · have hmono := h.mono hl
    rw [he.touch.flagRow (n := 2) _ i.isLt (by decide), htime.flagRow (n := 2) _ i.isLt (by decide), hmono.flagRow (n := 2) _ i.isLt (by decide)]
    exact hon
  · exact htime.andThen he.touch (by decide)

theorem fpi_edge (i : Fin 2) (s : State) (hen : s.flag Reg.FPI_CFG_EN i.val = true) {p : Nat} (hp : p = pulsePeriod (s.get Reg.FPI_CFG_PERIOD i.val)) :
    (s.flag Reg.FPI_STATUS_PRESENT i.val = false → (s.fpi i.val).edges.any (fun a => onePeriod p a s.clock) = true →
      ∃ t, exec (.fpiEdge i) s = .next t ∧ t.flag Reg.FPI_STATUS_PRESENT i.val = true ∧ t.fpi i.val = { fly := some s.clock }) ∧
    (s.flag Reg.FPI_STATUS_PRESENT i.val = false → (s.fpi i.val).edges.any (fun a => onePeriod p a s.clock) = false →
      ∃ t, exec (.fpiEdge i) s = .next t ∧ t.fpi i.val = { s.fpi i.val with edges := recent p 1 s.clock (s.fpi i.val).edges ++ [s.clock] } ∧ RegsKept [] s t) ∧
    (∀ f, s.flag Reg.FPI_STATUS_PRESENT i.val = true → (s.fpi i.val).fly = some f → onePeriod p f s.clock = true →
      ∃ t, exec (.fpiEdge i) s = .next t ∧ t.fpi i.val = { fly := some s.clock } ∧ t.flag Reg.FPI_STATUS_PRESENT i.val = true) ∧
    (∀ f, s.flag Reg.FPI_STATUS_PRESENT i.val = true → (s.fpi i.val).fly = some f → onePeriod p f s.clock = false →
      ∃ t, exec (.fpiEdge i) s = .next t ∧ t.flag Reg.FPI_STATUS_PRESENT i.val = true ∧
        ((s.fpi i.val).outs.any (fun b => onePeriod p b s.clock && (s.fpi i.val).outs.any (fun a => onePeriod p a b)) = true →
          t.fpi i.val = { fly := some s.clock } ∧ Counted Cnt.FPI_REALIGNS i.val 0 1 s t) ∧
        ((s.fpi i.val).outs.any (fun b => onePeriod p b s.clock && (s.fpi i.val).outs.any (fun a => onePeriod p a b)) = false →
          t.fpi i.val = { s.fpi i.val with outs := recent p 2 s.clock (s.fpi i.val).outs ++ [s.clock] } ∧ RegsKept [] s t)) := by
  subst hp
  refine ⟨fun hoff hany => ?_, fun hoff hnone => ?_, fun f hon hfly hin => ?_, fun f hon hfly hout => ?_⟩
  · show ∃ t, execFpiEdge i s = _ ∧ _
    rw [execFpiEdge_absent i s hen hoff, if_pos hany]
    refine done_then fun t he _ => ⟨?_, ?_⟩
    · exact (he.touch.flagRow (n := 2) _ i.isLt (by decide)).trans (flag_set_self _ _ _ _ _ (by decide))
    · rw [he.fpi, fpi_set, fpi_setFpi_self]
  · show ∃ t, execFpiEdge i s = _ ∧ _
    rw [execFpiEdge_absent i s hen hoff, if_neg (ne_true_of_eq_false hnone)]
    refine done_then fun t he _ => ⟨?_, fun a ha hq => he.kept a ha hq⟩
    rw [he.fpi, fpi_setFpi_self]
  · show ∃ t, execFpiEdge i s = _ ∧ _
    rw [execFpiEdge_present i s hen hon hfly, if_pos hin]
    obtain ⟨t, ht, hfpi, hpres, _⟩ := recentred i (s := s) (fpi_setFpi_self _ _ _) (Touch.of_regs (l := []) rfl) (by decide) hon
    exact ⟨t, ht, hfpi, hpres⟩
  · show ∃ t, execFpiEdge i s = _ ∧ _
    rw [execFpiEdge_present i s hen hon hfly, if_neg (ne_true_of_eq_false hout)]
    by_cases hany : (s.fpi i.val).outs.any (fun b => onePeriod (pulsePeriod (s.get Reg.FPI_CFG_PERIOD i.val)) b s.clock &&
        (s.fpi i.val).outs.any (fun a => onePeriod (pulsePeriod (s.get Reg.FPI_CFG_PERIOD i.val)) a b)) = true
    · rw [if_pos hany]
      have hset : Touch Cnt.FPI_REALIGNS.patches s (s.setFpi i.val { fly := some s.clock }) := .of_regs rfl
      have hcount : Counted Cnt.FPI_REALIGNS i.val 0 1 (s.setFpi i.val { fly := some s.clock }) ((s.setFpi i.val { fly := some s.clock }).bump Cnt.FPI_REALIGNS i.val) := counted_bump _ _ _ _ _ (.inl rfl)
      obtain ⟨t, ht, hfpi, hpres, hkept⟩ := recentred i (s := s) (v := (s.setFpi i.val { fly := some s.clock }).bump Cnt.FPI_REALIGNS i.val) ((fpi_bump _ _ _ _ _ _).trans (fpi_setFpi_self _ _ _))
        (hset.bumpRow i.isLt (by decide)) (by decide) hon
      exact ⟨t, ht, hpres, fun _ => ⟨hfpi, hkept.counted (counted_of_count hcount rfl rfl) i.isLt (by decide)⟩, fun hno => absurd hany (ne_true_of_eq_false hno)⟩
    · rw [if_neg hany]
      refine done_then fun t he _ => ⟨?_, fun hyes => absurd hyes hany, fun _ => ⟨?_, fun a ha hq => he.kept a ha hq⟩⟩
      · exact (he.touch.flagRow (n := 2) _ i.isLt (by decide)).trans hon
      · rw [he.fpi, fpi_setFpi_self]

theorem fpi_miss (i : Fin 2) (p f : Nat) (s : State) (hp : p = pulsePeriod (s.get Reg.FPI_CFG_PERIOD i.val)) (hfly : (s.fpi i.val).fly = some f) (hon : s.flag Reg.FPI_STATUS_PRESENT i.val = true)
    (hlate : f + p + pulseWindow p < s.clock) :
    ∃ t, exec (.fpiMiss i) s = .next t ∧ t.fpi i.val = { s.fpi i.val with fly := some (f + p), run := (s.fpi i.val).run + 1 } ∧ Counted Cnt.FPI_MISSES i.val 0 1 s t ∧
      (2 ≤ (s.fpi i.val).run → t.flag Reg.FPI_STATUS_PRESENT i.val = false ∧ t.flag Reg.TIM_EVENTS_FPI_LOSS = true) ∧
      ((s.fpi i.val).run < 2 → t.flag Reg.FPI_STATUS_PRESENT i.val = true) := by
  subst hp
  have hcond : ¬(!s.flag Reg.FPI_STATUS_PRESENT i.val || decide (s.clock ≤ f + pulsePeriod (s.get Reg.FPI_CFG_PERIOD i.val) + pulseWindow (pulsePeriod (s.get Reg.FPI_CFG_PERIOD i.val)))) = true := by
    simp [hon, hlate]
  show ∃ t, execFpiMiss i s = _ ∧ _
  unfold execFpiMiss
  dsimp only
  rw [hfly]
  dsimp only
  rw [if_neg hcond]
  generalize hx : ({ s.fpi i.val with fly := some (f + pulsePeriod (s.get Reg.FPI_CFG_PERIOD i.val)), run := (s.fpi i.val).run + 1 } : Fpi) = x
  have hset : Touch [] s (s.setFpi i.val x) := .of_regs rfl
  have hcount : Counted Cnt.FPI_MISSES i.val 0 1 s ((s.setFpi i.val x).bump Cnt.FPI_MISSES i.val) := hset.counted_of (counted_bump _ _ _ _ _ (.inl rfl)) i.isLt (by decide)
  have hkept : Touch Cnt.FPI_MISSES.patches s ((s.setFpi i.val x).bump Cnt.FPI_MISSES i.val) := (hset.mono (by decide)).bumpRow i.isLt (by decide)
  have hfpi : ((s.setFpi i.val x).bump Cnt.FPI_MISSES i.val).fpi i.val = x := (fpi_bump _ _ _ _ _ _).trans (fpi_setFpi_self _ _ _)
  generalize (s.setFpi i.val x).bump Cnt.FPI_MISSES i.val = v at hcount hkept hfpi
  by_cases hthird : 3 ≤ (s.fpi i.val).run + 1
  · rw [if_pos hthird]
    have hoff : (v.set Reg.FPI_STATUS_PRESENT 0 i.val).flag Reg.FPI_STATUS_PRESENT i.val = false := by
      rw [flag_set_self _ _ _ _ _ (by decide)]
      rfl
    have hpres : Touch [Reg.FPI_STATUS_PRESENT.patch 2] v (v.set Reg.FPI_STATUS_PRESENT 0 i.val) := (Touch.refl _ v).setRow i.isLt (by decide)
    have hev : Touch [Reg.TIM_EVENTS_FPI_LOSS.patch] (v.set Reg.FPI_STATUS_PRESENT 0 i.val) ((v.set Reg.FPI_STATUS_PRESENT 0 i.val).set Reg.TIM_EVENTS_FPI_LOSS 1) := (Touch.refl _ _).set0 (by decide)
    refine done_then fun t he _ => ⟨?_, ?_, fun _ => ⟨?_, ?_⟩, fun hlt => absurd hthird (by omega)⟩
    · rw [he.fpi, fpi_set, fpi_set, hfpi]
    · exact he.touch.counted (hev.counted (hpres.counted hcount i.isLt (by decide)) i.isLt (by decide)) i.isLt (by decide)
    · rw [he.touch.flagRow (n := 2) _ i.isLt (by decide), hev.flagRow (n := 2) _ i.isLt (by decide), hoff]
    · exact (he.touch.flag0 _ (by decide)).trans (flag_set_self _ _ _ _ _ (by decide))
  · rw [if_neg hthird]
    refine done_then fun t he _ => ⟨?_, ?_, fun hle => absurd (Nat.succ_le_succ hle) hthird, fun _ => ?_⟩
    · rw [he.fpi, hfpi]
    · exact he.touch.counted hcount i.isLt (by decide)
    · rw [he.touch.flagRow (n := 2) _ i.isLt (by decide), hkept.flagRow (n := 2) _ i.isLt (by decide), hon]

/-! ### TIME_STEP, TIME_SET and the seconds (R641, R643) -/

theorem time_step (mb : Fin 8) (p : List Byte) (s : State) (hreq : s.request mb.val 0x0807 = some p) :
    (s.get Reg.TIME_CFG_TIME_SRC = 0 → ∃ t, exec (.timeStep mb) s = .next t ∧ Answered mb.val ok s t ∧ t.timeOff = s.timeOff + 13 * sint 64 (u64 p 0) ∧
      Counted Cnt.TIME_STEPS 0 0 1 s t ∧ t.flag Reg.TIM_EVENTS_TIME_STEP = true) ∧
    (s.get Reg.TIME_CFG_TIME_SRC ≠ 0 → ∃ t, exec (.timeStep mb) s = .next t ∧ OnlyAnswered mb.val (err cDENIED) s t) := by
  show (_ → ∃ t, execTimeStep mb s = _ ∧ _) ∧ (_ → ∃ t, execTimeStep mb s = _ ∧ _)
  unfold execTimeStep
  refine ⟨fun hsrc => act_then (u := (s.serving mb.val).stepTime (13 * sint 64 (u64 p 0)) 0) (r := ok) hreq (if_neg (not_not_intro hsrc)) fun t he hans => ⟨hans.of_mbs ?_, ?_, ?_, ?_⟩,
    fun hsrc => act_only hreq (if_pos hsrc)⟩
  · exact stepTime_keeps State.mbs (fun _ _ => rfl) (fun _ _ _ _ => rfl) (fun _ _ => rfl) _ _ _
  · exact (he.keeps State.timeOff fun _ _ _ _ _ _ _ => rfl).trans (stepTime_keeps State.timeOff (fun _ _ => rfl) (fun _ _ _ _ => rfl) (fun _ _ => rfl) _ _ _)
  · exact he.answer_touch.counted (stepTime_counts (s.serving mb.val) _ _).1 (by decide) (by decide)
  · exact (he.answer_touch.flag0 _ (by decide)).trans (stepTime_counts (s.serving mb.val) _ _).2

theorem time_set (mb : Fin 8) (p : List Byte) (s : State) (hreq : s.request mb.val 0x0808 = some p) :
    (s.get Reg.TIME_CFG_TIME_SRC = 0 → ∃ t, exec (.timeSet mb) s = .next t ∧ RunsOn mb.val s t ∧ t.tim.sets = s.tim.sets ++ [(mb.val, le 6 p 0)] ∧ RegsKept [] s t) ∧
    (s.get Reg.TIME_CFG_TIME_SRC ≠ 0 → ∃ t, exec (.timeSet mb) s = .next t ∧ OnlyAnswered mb.val (err cDENIED) s t) := by
  show (_ → ∃ t, execTimeSet mb s = _ ∧ _) ∧ (_ → ∃ t, execTimeSet mb s = _ ∧ _)
  unfold execTimeSet
  refine ⟨fun hsrc => actLong_runs_then (u := { s.serving mb.val with tim := { (s.serving mb.val).tim with sets := s.tim.sets ++ [(mb.val, le 6 p 0)] } }) hreq
    (if_neg (not_not_intro hsrc)) fun t he hrun => ⟨hrun.of_mbs rfl, ?_, fun a ha hq => he.kept a ha hq⟩, fun hsrc => actLong_only hreq (if_pos hsrc)⟩
  rw [he.tim]

/-- The value of a counter at the start of a telemetry period. -/
def State.telemBased (s : State) (c : Ctr) (i : Nat) : State := { s with logs := { s.logs with telemBase := tput 0 s.logs.telemBase (c.addr i 0) (Int.ofNat (s.count c i)) } }

theorem telemRestart_eq (s : State) : s.telemRestart =
    ((((List.range 32).foldl (fun v f => v.telemBased Cnt.CW_UNCORR f) s).telemBased Cnt.SWITCHES 0).telemBased Cnt.REF_SWITCHES 0).withGauge
      { ((((List.range 32).foldl (fun v f => v.telemBased Cnt.CW_UNCORR f) s).telemBased Cnt.SWITCHES 0).telemBased Cnt.REF_SWITCHES 0).gau with hot := 0 } := rfl

theorem telemRestart_keeps {β : Type} (π : State → β) (hlogs : ∀ v x, π { v with logs := x } = π v) (hgau : ∀ v x, π { v with gau := x } = π v) (s : State) : π s.telemRestart = π s := by
  have hbase : ∀ v c i, π (State.telemBased v c i) = π v := fun v _ _ => hlogs v _
  have hg : ∀ v x, π (State.withGauge v x) = π v := hgau
  have hfold := foldl_keeps π (g := fun v f => v.telemBased Cnt.CW_UNCORR f) (fun _ _ => hbase _ _ _) (List.range 32) s
  rw [telemRestart_eq, hg, hbase, hbase, hfold]

/-- The record of State.telemetry. -/
theorem telemetry_eq (s : State) : ∃ d, s.telemetry = (s.log wbLog 0xA0 d).telemRestart := ⟨_, rfl⟩

theorem telemetry_touch (s : State) : Touch [] s s.telemetry := by
  obtain ⟨d, hd⟩ := telemetry_eq s
  rw [hd]
  exact ((Touch.refl [] s).log _ _ _).same (telemRestart_keeps State.regs (fun _ _ => rfl) (fun _ _ => rfl) _)

theorem telemetry_keeps {β : Type} (π : State → β) (hlog : ∀ v r l b, π { v with regs := r, logs := l, self := { v.self with sent := b } } = π v) (hgau : ∀ v x, π { v with gau := x } = π v)
    (s : State) : π s.telemetry = π s := by
  obtain ⟨d, hd⟩ := telemetry_eq s
  rw [hd, telemRestart_keeps π (fun v x => hlog v v.regs x v.self.sent) hgau]
  exact ((RegsLogs.refl s).log _ _ _).keeps π (hlog _)

def setPatches : List Patch := wordPatch 0x12014 :: stepPatches

theorem finish_touch (s : State) (mb : Nat) (r : Reply) : Touch [wordPatch 0x12014] s (s.finish mb r) := by
  unfold State.finish
  refine .ite (fun _ => ?_) fun _ => .refl _ s
  exact Touch.of_words (but := [0x12014]) fun a ha hq => answer_reg s mb r (by simpa using ha)

/-- The TIME_SET of mailbox `x.1` replaces the seconds by `x.2` and is answered. -/
def State.applySet (s : State) (x : Nat × Nat) : State := (s.stepTime (Int.ofNat (secT 1) * (Int.ofNat x.2 - Int.ofNat s.devSec)) 0).finish x.1 ok

theorem applySets_eq (s : State) : s.applySets = s.tim.sets.foldl State.applySet { s with tim := { s.tim with sets := [] } } := rfl

theorem applySet_touch (s : State) (x : Nat × Nat) : Touch setPatches s (s.applySet x) :=
  ((stepTime_touch s _ 0).mono (by decide)).andThen (finish_touch _ _ _) (by decide)

theorem finish_keeps {β : Type} (π : State → β) (hπ : ∀ v r m, π { v with regs := r, mbs := m } = π v) (s : State) (mb : Nat) (r : Reply) : π (s.finish mb r) = π s := by
  unfold State.finish
  split
  · obtain ⟨g, m, h⟩ := answer_eq s mb r
    rw [h, hπ]
  · rfl

theorem applySet_sets (s : State) (x : Nat × Nat) : (s.applySet x).tim.sets = s.tim.sets := by
  unfold State.applySet
  rw [finish_keeps (fun v => v.tim.sets) fun _ _ _ => rfl]
  exact stepTime_keeps (fun v => v.tim.sets) (fun _ _ => rfl) (fun _ _ _ _ => rfl) (fun _ _ => rfl) _ _ _

theorem applySets_touch (s : State) : Touch setPatches s s.applySets := by
  rw [applySets_eq]
  exact Touch.foldl (fun x _ v => applySet_touch v x) (.of_regs rfl)

theorem applySets_sets (s : State) : s.applySets.tim.sets = [] := by
  rw [applySets_eq]
  exact foldl_keeps (fun v => v.tim.sets) (g := State.applySet) applySet_sets _ _

theorem applySet_timeOff (s : State) (x : Nat × Nat) : (s.applySet x).timeOff = s.timeOff + 13000000000 * (Int.ofNat x.2 - Int.ofNat s.devSec) := by
  unfold State.applySet
  rw [finish_keeps State.timeOff fun _ _ _ => rfl]
  exact stepTime_keeps State.timeOff (fun _ _ => rfl) (fun _ _ _ _ => rfl) (fun _ _ => rfl) _ _ _

theorem applySet_answered (s : State) (x : Nat × Nat) (hrun : (s.mbox x.1).phase = .running) : Answered x.1 ok s (s.applySet x) := by
  have hmbs : (s.stepTime (Int.ofNat (secT 1) * (Int.ofNat x.2 - Int.ofNat s.devSec)) 0).mbs = s.mbs :=
    stepTime_keeps State.mbs (fun _ _ => rfl) (fun _ _ _ _ => rfl) (fun _ _ => rfl) _ _ _
  unfold State.applySet
  generalize s.stepTime (Int.ofNat (secT 1) * (Int.ofNat x.2 - Int.ofNat s.devSec)) 0 = v at hmbs
  unfold State.finish
  rw [if_pos (mbox_congr hmbs x.1 ▸ hrun)]
  exact Answered.of_mbs (u := v) ⟨answer_mbox v x.1 ok, fun k hk => answer_mbox_ne v ok hk⟩ hmbs

/-- The second counted at a second boundary, after its TIME_SET commands. -/
def State.secondServed (s : State) : State := { s.applySets with tim := { s.applySets.tim with second := s.applySets.devSec } }

/-- A timing lane's mark. -/
def State.markSent (s : State) (k : Nat) : State := if s.flag Reg.TL_CFG_TX_EN k then s.bump Cnt.MARKS_TX k else s

theorem execTimeSecondBoundary_eq (s : State) : execTimeSecondBoundary s = if s.devSec ≤ s.tim.second then .next s else
    done s (if s.get Reg.LOG_TELEM_PERIOD_S ≠ 0 && ((List.range 2).foldl State.markSent s.secondServed).devSec % s.get Reg.LOG_TELEM_PERIOD_S = 0
      then ((List.range 2).foldl State.markSent s.secondServed).telemetry else (List.range 2).foldl State.markSent s.secondServed) := rfl

theorem markSent_touch (s : State) {k : Nat} (hk : k < 2) : Touch Cnt.MARKS_TX.patches s (s.markSent k) := by
  unfold State.markSent
  exact .ite (fun _ => (Touch.refl _ s).bumpRow hk (by decide)) fun _ => .refl _ s

theorem markSent_regsLogs (s : State) (k : Nat) : RegsLogs s (s.markSent k) := by
  unfold State.markSent
  exact .ite ((RegsLogs.refl s).bump _ _ _ _) (.refl s)

theorem markSent_counts (s : State) (k : Nat) (h : s.flag Reg.TL_CFG_TX_EN k = true) : Counted Cnt.MARKS_TX k 0 1 s (s.markSent k) := by
  unfold State.markSent
  rw [if_pos h]
  exact counted_bump _ _ _ _ _ (.inl rfl)

theorem markSent_flag (s : State) {k : Nat} (hk : k < 2) {j : Nat} (hj : j < 2) : (s.markSent k).flag Reg.TL_CFG_TX_EN j = s.flag Reg.TL_CFG_TX_EN j :=
  (markSent_touch s hk).flagRow (n := 2) _ hj (by decide)

theorem markSent_other (s : State) {k j : Nat} (hjk : Cnt.MARKS_TX.addr j 0 ∉ Cnt.MARKS_TX.wordsOf k 0) : (s.markSent k).count Cnt.MARKS_TX j = s.count Cnt.MARKS_TX j := by
  unfold State.markSent
  split
  · refine count_eq_of_reg _ _ _ _ _ fun a ha => reg_bump_ne _ _ _ _ _ ?_
    rw [List.mem_singleton.mp (show a ∈ [Cnt.MARKS_TX.addr j 0] from ha)]
    exact hjk
  · rfl

/-- Both lanes' marks count, each in its own counter. -/
theorem marks_counted (s : State) (k : Fin 2) (h : s.flag Reg.TL_CFG_TX_EN k.val = true) : Counted Cnt.MARKS_TX k.val 0 1 s ((List.range 2).foldl State.markSent s) := by
  show Counted Cnt.MARKS_TX k.val 0 1 s ((s.markSent 0).markSent 1)
  match k with
  | 0 => exact counted_of_count (markSent_counts s 0 h) rfl (markSent_other _ (by decide))
  | 1 => exact counted_of_count (markSent_counts (s.markSent 0) 1 ((markSent_flag s (by decide) (by decide)).trans h)) (markSent_other s (by decide)) rfl

theorem marks_touch (s : State) : Touch Cnt.MARKS_TX.patches s ((List.range 2).foldl State.markSent s) :=
  Touch.foldl (fun _ hk v => markSent_touch v (List.mem_range.mp hk)) (.refl _ s)

theorem marks_keeps {β : Type} (π : State → β) (hlog : ∀ v r l b, π { v with regs := r, logs := l, self := { v.self with sent := b } } = π v) (s : State) :
    π ((List.range 2).foldl State.markSent s) = π s := foldl_keeps π (g := State.markSent) (fun v k => (markSent_regsLogs v k).keeps π (hlog v)) _ s

/-- What the end of a second boundary keeps of the state after its TIME_SET commands. -/
theorem second_boundary_ends (s : State) (hnew : s.tim.second < s.devSec) : ∃ t, exec .timeSecondBoundary s = .next t ∧ t.tim = s.secondServed.tim ∧ t.timeOff = s.secondServed.timeOff ∧
    t.mbs = s.secondServed.mbs ∧ (∀ k : Fin 2, s.flag Reg.TL_CFG_TX_EN k.val = true → Counted Cnt.MARKS_TX k.val 0 1 s t) := by
  have hserved : Touch setPatches s s.secondServed := (applySets_touch s).same rfl
  have hmarks := marks_touch s.secondServed
  have hcount := marks_counted s.secondServed
  have htim := marks_keeps State.tim (fun _ _ _ _ => rfl) s.secondServed
  have hoff := marks_keeps State.timeOff (fun _ _ _ _ => rfl) s.secondServed
  have hmbs := marks_keeps State.mbs (fun _ _ _ _ => rfl) s.secondServed
  show ∃ t, execTimeSecondBoundary s = _ ∧ _
  rw [execTimeSecondBoundary_eq, if_neg (Nat.not_le.mpr hnew)]
  generalize s.secondServed = v at hserved hmarks hcount htim hoff hmbs
  generalize (List.range 2).foldl State.markSent v = w at hmarks hcount htim hoff hmbs
  have hcounted : ∀ k : Fin 2, s.flag Reg.TL_CFG_TX_EN k.val = true → Counted Cnt.MARKS_TX k.val 0 1 s w := fun k hk =>
    hserved.counted_of (hcount k ((hserved.flagRow (n := 2) _ k.isLt (by decide)).trans hk)) k.isLt (by decide)
  by_cases hc : (decide (s.get Reg.LOG_TELEM_PERIOD_S ≠ 0) && decide (w.devSec % s.get Reg.LOG_TELEM_PERIOD_S = 0)) = true
  · rw [if_pos hc]
    have htel := telemetry_touch w
    refine done_then fun t he hm => ⟨?_, ?_, ?_, fun k hk => ?_⟩
    · exact he.tim.trans ((telemetry_keeps State.tim (fun _ _ _ _ => rfl) (fun _ _ => rfl) w).trans htim)
    · exact (he.keeps State.timeOff fun _ _ _ _ _ _ _ => rfl).trans ((telemetry_keeps State.timeOff (fun _ _ _ _ => rfl) (fun _ _ => rfl) w).trans hoff)
    · exact hm.trans ((telemetry_keeps State.mbs (fun _ _ _ _ => rfl) (fun _ _ => rfl) w).trans hmbs)
    · exact he.touch.counted (htel.counted (hcounted k hk) k.isLt (by decide)) k.isLt (by decide)
  · rw [if_neg hc]
    refine done_then fun t he hm => ⟨he.tim.trans htim, (he.keeps State.timeOff fun _ _ _ _ _ _ _ => rfl).trans hoff, hm.trans hmbs, fun k hk => ?_⟩
    exact he.touch.counted (hcounted k hk) k.isLt (by decide)

theorem second_boundary (s : State) (hnew : s.tim.second < s.devSec) :
    ∃ t, exec .timeSecondBoundary s = .next t ∧ t.tim.sets = [] ∧ (∀ k : Fin 2, s.flag Reg.TL_CFG_TX_EN k.val = true → Counted Cnt.MARKS_TX k.val 0 1 s t) ∧
      (s.tim.sets = [] → t.tim.second = s.devSec ∧ t.timeOff = s.timeOff) ∧
      (∀ mb v, s.tim.sets = [(mb, v)] → (s.mbox mb).phase = .running → Answered mb ok s t ∧
        t.timeOff = s.timeOff + 13000000000 * (Int.ofNat v - Int.ofNat s.devSec)) := by
  obtain ⟨t, ht, htim, hoff, hmbs, hmarks⟩ := second_boundary_ends s hnew
  refine ⟨t, ht, ?_, hmarks, fun hnone => ⟨?_, ?_⟩, fun mb v hone hrun => ⟨?_, ?_⟩⟩
  · rw [htim]
    exact applySets_sets s
  · rw [htim]
    unfold State.secondServed
    rw [applySets_eq, hnone]
    rfl
  · rw [hoff]
    unfold State.secondServed
    rw [applySets_eq, hnone]
    rfl
  · have hans := applySet_answered { s with tim := { s.tim with sets := [] } } (mb, v) hrun
    have hserved : t.mbs = (State.applySet { s with tim := { s.tim with sets := [] } } (mb, v)).mbs := by
      rw [hmbs]
      unfold State.secondServed
      rw [applySets_eq, hone]
      rfl
    obtain ⟨hself, hothers⟩ := hans
    exact ⟨(mbox_congr hserved mb).trans hself, fun k hk => (mbox_congr hserved k).trans (hothers k hk)⟩
  · have hstep := applySet_timeOff { s with tim := { s.tim with sets := [] } } (mb, v)
    rw [hoff]
    unfold State.secondServed
    rw [applySets_eq, hone]
    exact hstep

/-- Settles O58. -/
theorem referencesDpllAndDeviceTime : Obligations.ReferencesDpllAndDeviceTime := by
  unfold Obligations.ReferencesDpllAndDeviceTime
  exact ⟨fun r s => ref_activity r s, freq_gate_end, ref_qualify, dpll_lock, history_ok, holdover_expire, fun i p s hen hp => fpi_edge i s hen hp, fpi_miss, time_step, time_set, second_boundary⟩

end Sys2Proof.Machine
end

section
/-! SUPPORT. Timing lanes, module transmitters and level measurements (O57) -/

namespace Sys2Proof.Machine

/-! ### Characters of a timing lane (R601, R605) -/

theorem Ended.ln {but : List Nat} {s u t : State} (he : Ended but s u t) : t.ln = u.ln := he.keeps State.ln fun _ _ _ _ _ _ _ => rfl

theorem tlane_congr {s t : State} (h : t.ln = s.ln) (k : Nat) : t.tlane k = s.tlane k := congrArg (fun x : LaneState => tget ({} : TLane) x.tls k) h

theorem tlane_setTlane_self (s : State) (k : Nat) (x : TLane) : (s.setTlane k x).tlane k = x := tget_tput_self _ s.ln.tls k x

theorem Ended.tlane {but : List Nat} {s u t : State} (he : Ended but s u t) (k : Nat) : t.tlane k = u.tlane k := tlane_congr he.ln k

theorem setTlane_touch (l : List Patch) (s : State) (k : Nat) (x : TLane) : Touch l s (s.setTlane k x) := .of_regs rfl

/-- The disparity by which a code is decoded. -/
def runningDisparity (o : Option Bool) (v : Nat) : Bool := match o with
  | some r => r
  | none => (decode10 false v).isNone

/-- A timing lane that has taken a code. -/
def TLane.heard (x : TLane) (rd : Bool) (v : Nat) : TLane :=
  { x with rxRd := some (rdAfter rd v), chars := x.chars + 1, bad := x.bad.filter (fun k => x.chars + 1 < k + 256) }

/-- A timing lane whose code was none. -/
def State.codeWrong (s : State) (k : Nat) (y : TLane) (other : Bool) : State :=
  (s.setTlane k { y with bad := y.bad ++ [y.chars], commas := 0 }).bump (if other then Cnt.DISP_ERRS else Cnt.CODE_ERRS) k

/-- The end of TL_CHARACTER_RX by what the code `v` is in the disparity `rd`. -/
def State.characterOut (s : State) (k : Nat) (same rd : Bool) (v : Nat) : Out := match decode10 rd v with
  | some c =>
    if !c.isComma then done s (s.setTlane k ((s.tlane k).heard rd v))
    else if same then done s (s.setTlane k { (s.tlane k).heard rd v with commas := (s.tlane k).commas + 1 })
    else if s.flag Reg.TL_STATUS_SYNC k then done s (s.setTlane k { (s.tlane k).heard rd v with moved := true })
    else done s (s.setTlane k { (s.tlane k).heard rd v with commas := 1 })
  | none => done s (s.codeWrong k ((s.tlane k).heard rd v) (decode10 (!rd) v).isSome)

/-- The code that the lane takes, inverted where RX_INV says so. -/
def State.lineCode (s : State) (k : Nat) (code : BitVec 10) : Nat := if s.flag Reg.TL_CFG_RX_INV k then 1023 - code.toNat else code.toNat

theorem execTlCharacterRx_eq (k : Fin 2) (code : BitVec 10) (same : Bool) (s : State) : execTlCharacterRx k ⟨code, same⟩ s = if !s.flag Reg.TL_CFG_RX_EN k.val then .next s
    else s.characterOut k.val same (runningDisparity (if same then (s.tlane k.val).rxRd else none) (s.lineCode k.val code)) (s.lineCode k.val code) := rfl

/-- A state in which only the lane `k` has moved. -/
theorem setTlane_then {s : State} {k : Nat} {x : TLane} {P : State → Prop} (h : ∀ t, t.tlane k = x → RegsKept [] s t → P t) : ∃ t, done s (s.setTlane k x) = .next t ∧ P t :=
  done_then fun t he _ => h t ((he.tlane k).trans (tlane_setTlane_self s k x)) fun a ha hq => he.kept a ha hq

/-- What a valid code makes of a timing lane. -/
def CharacterHeard (k : Nat) (same : Bool) (s t : State) (c : Char10) : Prop :=
  RegsKept [] s t ∧ (t.tlane k).bad = (s.tlane k).bad.filter (fun n => (s.tlane k).chars + 1 < n + 256) ∧
    (c.isComma = false → (t.tlane k).commas = (s.tlane k).commas ∧ (t.tlane k).moved = (s.tlane k).moved) ∧
    (c.isComma = true → same = true → (t.tlane k).commas = (s.tlane k).commas + 1 ∧ (t.tlane k).moved = (s.tlane k).moved) ∧
    (c.isComma = true → same = false → s.flag Reg.TL_STATUS_SYNC k = false → (t.tlane k).commas = 1) ∧
    (c.isComma = true → same = false → s.flag Reg.TL_STATUS_SYNC k = true → (t.tlane k).moved = true)

theorem character_heard (k : Nat) (same rd : Bool) (v : Nat) (s : State) {c : Char10} (hc : decode10 rd v = some c) :
    ∃ t, s.characterOut k same rd v = .next t ∧ (t.tlane k).chars = (s.tlane k).chars + 1 ∧ (t.tlane k).rxRd = some (rdAfter rd v) ∧ CharacterHeard k same s t c := by
  unfold State.characterOut
  rw [hc]
  dsimp only
  by_cases hcomma : c.isComma = true
  · rw [if_neg (by simp [hcomma])]
    by_cases hsame : same = true
    · rw [if_pos hsame]
      exact setTlane_then fun t ht hk => by simp [CharacterHeard, ht, hk, hcomma, hsame, TLane.heard]
    · rw [if_neg hsame]
      by_cases hsync : s.flag Reg.TL_STATUS_SYNC k = true
      · rw [if_pos hsync]
        exact setTlane_then fun t ht hk => by simp [CharacterHeard, ht, hk, hcomma, hsame, hsync, TLane.heard]
      · rw [if_neg hsync]
        exact setTlane_then fun t ht hk => by simp [CharacterHeard, ht, hk, hcomma, hsame, hsync, TLane.heard]
  · rw [if_pos (by simp [hcomma])]
    exact setTlane_then fun t ht hk => by simp [CharacterHeard, ht, hk, hcomma, TLane.heard]

theorem character_wrong {k : Nat} (hk : k < 2) (same rd : Bool) (v : Nat) (s : State) (hc : decode10 rd v = none) :
    ∃ t, s.characterOut k same rd v = .next t ∧ (t.tlane k).chars = (s.tlane k).chars + 1 ∧ (t.tlane k).rxRd = some (rdAfter rd v) ∧
      (t.tlane k).commas = 0 ∧ (s.tlane k).chars + 1 ∈ (t.tlane k).bad ∧
      ((decode10 (!rd) v).isSome = false → Counted Cnt.CODE_ERRS k 0 1 s t) ∧ ((decode10 (!rd) v).isSome = true → Counted Cnt.DISP_ERRS k 0 1 s t) := by
  unfold State.characterOut
  rw [hc]
  dsimp only
  generalize (decode10 (!rd) v).isSome = other
  unfold State.codeWrong
  generalize hy : ({ (s.tlane k).heard rd v with bad := ((s.tlane k).heard rd v).bad ++ [((s.tlane k).heard rd v).chars], commas := 0 } : TLane) = y
  have hlane : ∀ c : Ctr, ((s.setTlane k y).bump c k).tlane k = y := fun c =>
    (tlane_congr (((RegsLogs.refl _).bump c k 0 1).keeps State.ln fun _ _ _ => rfl) k).trans (tlane_setTlane_self s k y)
  have hset := setTlane_touch [] s k y
  refine done_then fun t he _ => ?_
  have ht : t.tlane k = y := (he.tlane k).trans (hlane _)
  refine ⟨?_, ?_, ?_, ?_, fun hother => ?_, fun hother => ?_⟩
  · rw [ht, ← hy]
    rfl
  · rw [ht, ← hy]
    rfl
  · rw [ht, ← hy]
  · rw [ht, ← hy]
    exact List.mem_append_right _ (List.mem_singleton.mpr rfl)
  · rw [hother, if_neg (by decide)] at he
    exact he.touch.counted (hset.counted_of (counted_bump _ _ _ _ _ (.inl rfl)) hk (by decide)) hk (by decide)
  · rw [hother, if_pos rfl] at he
    exact he.touch.counted (hset.counted_of (counted_bump _ _ _ _ _ (.inl rfl)) hk (by decide)) hk (by decide)

theorem tl_character (k : Fin 2) (code : BitVec 10) (same rd : Bool) (v : Nat) (s : State) (hrx : s.flag Reg.TL_CFG_RX_EN k.val = true)
    (hv : v = s.lineCode k.val code) (hrd : rd = runningDisparity (if same then (s.tlane k.val).rxRd else none) v) :
    ∃ t, exec (.tlCharacterRx k ⟨code, same⟩) s = .next t ∧ (t.tlane k.val).chars = (s.tlane k.val).chars + 1 ∧ (t.tlane k.val).rxRd = some (rdAfter rd v) ∧
      (∀ c, decode10 rd v = some c → CharacterHeard k.val same s t c) ∧
      (decode10 rd v = none → (t.tlane k.val).commas = 0 ∧ (s.tlane k.val).chars + 1 ∈ (t.tlane k.val).bad ∧
        ((decode10 (!rd) v).isSome = false → Counted Cnt.CODE_ERRS k.val 0 1 s t) ∧ ((decode10 (!rd) v).isSome = true → Counted Cnt.DISP_ERRS k.val 0 1 s t)) := by
  show ∃ t, execTlCharacterRx k ⟨code, same⟩ s = _ ∧ _
  rw [execTlCharacterRx_eq, if_neg (by simp [hrx]), ← hv, ← hrd]
  cases hc : decode10 rd v with
  | some c =>
    obtain ⟨t, ht, hchars, hdisp, hheard⟩ := character_heard k.val same rd v s hc
    exact ⟨t, ht, hchars, hdisp, fun d hd => Option.some.inj hd ▸ hheard, nofun⟩
  | none =>
    obtain ⟨t, ht, hchars, hdisp, hwrong⟩ := character_wrong k.isLt same rd v s hc
    exact ⟨t, ht, hchars, hdisp, nofun, fun _ => hwrong⟩

/-! ### SYNC, marks and messages of a timing lane (R601–R603) -/

theorem refreshRefs_ln (s : State) : s.refreshRefs.ln = s.ln := (refreshRefs_only s).keeps State.ln fun _ _ _ _ _ _ => rfl

theorem tl_sync_gain (k : Fin 2) (s : State) (hrx : s.flag Reg.TL_CFG_RX_EN k.val = true) (hno : s.flag Reg.TL_STATUS_SYNC k.val = false) (hcommas : 3 ≤ (s.tlane k.val).commas) :
    ∃ t, exec (.tlSyncGain k) s = .next t ∧ t.flag Reg.TL_STATUS_SYNC k.val = true ∧ t.tlane k.val = { s.tlane k.val with bad := [], moved := false } := by
  have hcond : ¬(!s.flag Reg.TL_CFG_RX_EN k.val || s.flag Reg.TL_STATUS_SYNC k.val || decide ((s.tlane k.val).commas < 3)) = true := by simp [hrx, hno, hcommas]
  show ∃ t, execTlSyncGain k s = _ ∧ _
  unfold execTlSyncGain
  dsimp only
  rw [if_neg hcond]
  have hsync : (s.set Reg.TL_STATUS_SYNC 1 k.val).flag Reg.TL_STATUS_SYNC k.val = true := flag_set_self _ _ _ _ _ (by decide)
  generalize s.set Reg.TL_STATUS_SYNC 1 k.val = v at hsync
  have hset : Touch [Reg.TL_STATUS_CDR_LOCK.patch 2, Reg.TL_STATUS_SIG_DET.patch 2] v ((v.set Reg.TL_STATUS_CDR_LOCK 1 k.val).set Reg.TL_STATUS_SIG_DET 1 k.val) :=
    ((Touch.refl _ v).setRow k.isLt (by decide)).setRow k.isLt (by decide)
  generalize (v.set Reg.TL_STATUS_CDR_LOCK 1 k.val).set Reg.TL_STATUS_SIG_DET 1 k.val = v2 at hset
  have hlane := tlane_setTlane_self v2 k.val { s.tlane k.val with bad := [], moved := false }
  have hmove := setTlane_touch [] v2 k.val { s.tlane k.val with bad := [], moved := false }
  generalize v2.setTlane k.val { s.tlane k.val with bad := [], moved := false } = w at hlane hmove
  refine done_then fun t he _ => ⟨?_, ?_⟩
  · rw [he.touch.flagRow (n := 2) _ k.isLt (by decide), (refreshRefs_touch w).flagRow (n := 2) _ k.isLt (by decide), hmove.flagRow (n := 2) _ k.isLt (by decide), hset.flagRow (n := 2) _ k.isLt (by decide), hsync]
  · rw [he.tlane, tlane_congr (refreshRefs_ln w), hlane]

theorem tl_sync_loss (k : Fin 2) (sig : Bool) (s : State) (hsync : s.flag Reg.TL_STATUS_SYNC k.val = true) (hbad : 8 ≤ (s.tlane k.val).bad.length) :
    ∃ t, exec (.tlSyncLoss k sig) s = .next t ∧ t.flag Reg.TL_STATUS_SYNC k.val = false ∧ t.flag Reg.TL_STATUS_SIG_DET k.val = sig ∧
      Counted Cnt.SYNC_LOSSES k.val 0 1 s t ∧ t.flag Reg.TL_EVENTS_SYNC_LOST k.val = true := by
  have hcond : ¬(!s.flag Reg.TL_STATUS_SYNC k.val || decide ((s.tlane k.val).bad.length < 8)) = true := by simp [hsync, hbad]
  show ∃ t, execTlSyncLoss k sig s = _ ∧ _
  unfold execTlSyncLoss
  dsimp only
  rw [if_neg hcond]
  have h1 : Touch [Reg.TL_STATUS_SYNC.patch 2] s (s.set Reg.TL_STATUS_SYNC 0 k.val) := (Touch.refl _ s).setRow k.isLt (by decide)
  have hoff : (s.set Reg.TL_STATUS_SYNC 0 k.val).flag Reg.TL_STATUS_SYNC k.val = false := by
    rw [flag_set_self _ _ _ _ _ (by decide)]
    rfl
  generalize s.set Reg.TL_STATUS_SYNC 0 k.val = v1 at h1 hoff
  have h2 : Touch [Reg.TL_STATUS_CDR_LOCK.patch 2, Reg.TL_STATUS_SIG_DET.patch 2] v1 ((v1.set Reg.TL_STATUS_CDR_LOCK (b2n sig) k.val).set Reg.TL_STATUS_SIG_DET (b2n sig) k.val) :=
    ((Touch.refl _ v1).setRow k.isLt (by decide)).setRow k.isLt (by decide)
  have hsig : ((v1.set Reg.TL_STATUS_CDR_LOCK (b2n sig) k.val).set Reg.TL_STATUS_SIG_DET (b2n sig) k.val).flag Reg.TL_STATUS_SIG_DET k.val = sig := by
    rw [flag_set_self _ _ _ _ _ (by decide)]
    cases sig <;> rfl
  generalize (v1.set Reg.TL_STATUS_CDR_LOCK (b2n sig) k.val).set Reg.TL_STATUS_SIG_DET (b2n sig) k.val = v2 at h2 hsig
  have h3 : Touch [Reg.TL_EVENTS_SYNC_LOST.patch 2] v2 (v2.set Reg.TL_EVENTS_SYNC_LOST 1 k.val) := (Touch.refl _ v2).setRow k.isLt (by decide)
  have hev : (v2.set Reg.TL_EVENTS_SYNC_LOST 1 k.val).flag Reg.TL_EVENTS_SYNC_LOST k.val = true := flag_set_self _ _ _ _ _ (by decide)
  generalize v2.set Reg.TL_EVENTS_SYNC_LOST 1 k.val = v3 at h3 hev
  have hbump : Touch Cnt.SYNC_LOSSES.patches v3 (v3.bump Cnt.SYNC_LOSSES k.val) := (Touch.refl _ v3).bumpRow k.isLt (by decide)
  have hcounted : Counted Cnt.SYNC_LOSSES k.val 0 1 v3 (v3.bump Cnt.SYNC_LOSSES k.val) := counted_bump _ _ _ _ _ (.inl rfl)
  generalize v3.bump Cnt.SYNC_LOSSES k.val = w at hbump hcounted
  have hlane := setTlane_touch [] w k.val { s.tlane k.val with commas := 0, bad := [], moved := false }
  generalize w.setTlane k.val { s.tlane k.val with commas := 0, bad := [], moved := false } = v4 at hlane
  have h4 := hbump.andThen hlane (by decide)
  have hcount := hlane.counted hcounted k.isLt (by decide)
  have h5 := refreshRefs_touch v4
  refine done_then fun t he _ => ⟨?_, ?_, ?_, ?_⟩
  · rw [he.touch.flagRow (n := 2) _ k.isLt (by decide), h5.flagRow (n := 2) _ k.isLt (by decide), h4.flagRow (n := 2) _ k.isLt (by decide), h3.flagRow (n := 2) _ k.isLt (by decide),
      h2.flagRow (n := 2) _ k.isLt (by decide), hoff]
  · rw [he.touch.flagRow (n := 2) _ k.isLt (by decide), h5.flagRow (n := 2) _ k.isLt (by decide), h4.flagRow (n := 2) _ k.isLt (by decide), h3.flagRow (n := 2) _ k.isLt (by decide), hsig]
  · exact he.touch.counted (h5.counted (h1.counted_of (h2.counted_of (h3.counted_of hcount k.isLt (by decide)) k.isLt (by decide)) k.isLt (by decide)) k.isLt (by decide)) k.isLt (by decide)
  · rw [he.touch.flagRow (n := 2) _ k.isLt (by decide), h5.flagRow (n := 2) _ k.isLt (by decide), h4.flagRow (n := 2) _ k.isLt (by decide), hev]

theorem tl_realign (k : Fin 2) (s : State) (hsync : s.flag Reg.TL_STATUS_SYNC k.val = true) (hmoved : (s.tlane k.val).moved = true) :
    ∃ t, exec (.tlRealign k) s = .next t ∧ (t.tlane k.val).moved = false ∧ Counted Cnt.REALIGNS k.val 0 1 s t ∧ t.flag Reg.TL_EVENTS_REALIGN k.val = true := by
  have hcond : ¬(!s.flag Reg.TL_STATUS_SYNC k.val || !(s.tlane k.val).moved) = true := by simp [hsync, hmoved]
  show ∃ t, execTlRealign k s = _ ∧ _
  unfold execTlRealign
  dsimp only
  rw [if_neg hcond]
  have hset := setTlane_touch [] s k.val { s.tlane k.val with moved := false }
  have hlane := tlane_setTlane_self s k.val { s.tlane k.val with moved := false }
  generalize s.setTlane k.val { s.tlane k.val with moved := false } = v at hset hlane
  refine done_then fun t he _ => ⟨?_, ?_, ?_⟩
  · rw [he.tlane, tlane_congr ((((RegsLogs.refl v).bump _ _ _ _).set _ _ _ _).keeps State.ln fun _ _ _ => rfl), hlane]
  · refine he.touch.counted (hset.counted_of ?_ k.isLt (by decide)) k.isLt (by decide)
    exact ((Touch.refl [Reg.TL_EVENTS_REALIGN.patch 2] _).setRow k.isLt (by decide)).counted (counted_bump v _ _ _ _ (.inl rfl)) k.isLt (by decide)
  · exact (he.touch.flagRow (n := 2) _ k.isLt (by decide)).trans (flag_set_self _ _ _ _ _ (by decide))

/-- The clock's time of a mark is valid after a message since the last one (R602). -/
def State.markValid (s : State) (k : Nat) : Bool := match (s.tlane k).todAt with
  | some a => decide (a + msT 1 ≤ s.clock) && (match (s.tlane k).markAt with | some m => decide (m ≤ a) | none => true)
  | none => false

/-- A mark's time `ps` latched, before it counts. -/
def State.markLatched (s : State) (k ps : Nat) : State :=
  ((s.set Reg.TL_MARK_TIME_T (ps / 1000) k 0).set Reg.TL_MARK_TIME_T (ps / 1000 / 2 ^ 32) k 1).set Reg.TL_MARK_FRAC_FRAC (ps % 1000 * 65536 / 1000) k

def State.markShown (s : State) (k : Nat) (valid : Bool) : State :=
  (((s.bump Cnt.MARKS_RX k).set Reg.TL_EVENTS_MARK 1 k).set Reg.TL_STATUS_MARK_SEEN 1 k).set Reg.TL_STATUS_TOD_VALID (b2n valid) k

/-- A mark received. -/
def State.marked (s : State) (k ps : Nat) : State :=
  ((s.markLatched k ps).markShown k (s.markValid k)).setTlane k { s.tlane k with prevMark := (s.tlane k).markAt, markAt := some s.clock }

theorem execTlMarkRx_eq (k : Fin 2) (e : Fin 401) (s : State) : execTlMarkRx k e s = if !s.flag Reg.TL_STATUS_SYNC k.val then .next s
    else if s.markValid k.val && s.get Reg.TIME_CFG_TIME_SRC = 1 + k.val then
      done s ((s.marked k.val (s.devTime * 1000 / 13 + e.val - 200)).timeError ((s.marked k.val (s.devTime * 1000 / 13 + e.val - 200)).markError k.val (s.devTime * 1000 / 13 + e.val - 200)) (1 + k.val))
    else done s (s.marked k.val (s.devTime * 1000 / 13 + e.val - 200)) := rfl

def shownPatches : List Patch := [Reg.TL_EVENTS_MARK.patch 2, Reg.TL_STATUS_MARK_SEEN.patch 2, Reg.TL_STATUS_TOD_VALID.patch 2]

theorem markLatched_touch (s : State) {k : Nat} (hk : k < 2) (ps : Nat) : Touch [Reg.TL_MARK_TIME_T.patch 2 2, Reg.TL_MARK_FRAC_FRAC.patch 2] s (s.markLatched k ps) :=
  (((Touch.refl _ s).set 2 2 (by decide) (.inr hk) (by decide)).set 2 2 (by decide) (.inr hk) (by decide)).setRow hk (by decide)

theorem markShown_shows (s : State) {k : Nat} (hk : k < 2) (valid : Bool) : Counted Cnt.MARKS_RX k 0 1 s (s.markShown k valid) ∧ (s.markShown k valid).flag Reg.TL_EVENTS_MARK k = true ∧
    (s.markShown k valid).flag Reg.TL_STATUS_MARK_SEEN k = true ∧ (s.markShown k valid).flag Reg.TL_STATUS_TOD_VALID k = valid := by
  unfold State.markShown
  have hcount : Counted Cnt.MARKS_RX k 0 1 s (s.bump Cnt.MARKS_RX k) := counted_bump _ _ _ _ _ (.inl rfl)
  generalize s.bump Cnt.MARKS_RX k = v at hcount
  have h1 : Touch [Reg.TL_EVENTS_MARK.patch 2] v (v.set Reg.TL_EVENTS_MARK 1 k) := (Touch.refl _ v).setRow hk (by decide)
  have hev : (v.set Reg.TL_EVENTS_MARK 1 k).flag Reg.TL_EVENTS_MARK k = true := flag_set_self _ _ _ _ _ (by decide)
  generalize v.set Reg.TL_EVENTS_MARK 1 k = v1 at h1 hev
  have h2 : Touch [Reg.TL_STATUS_MARK_SEEN.patch 2] v1 (v1.set Reg.TL_STATUS_MARK_SEEN 1 k) := (Touch.refl _ v1).setRow hk (by decide)
  have hseen : (v1.set Reg.TL_STATUS_MARK_SEEN 1 k).flag Reg.TL_STATUS_MARK_SEEN k = true := flag_set_self _ _ _ _ _ (by decide)
  generalize v1.set Reg.TL_STATUS_MARK_SEEN 1 k = v2 at h2 hseen
  have h3 : Touch [Reg.TL_STATUS_TOD_VALID.patch 2] v2 (v2.set Reg.TL_STATUS_TOD_VALID (b2n valid) k) := (Touch.refl _ v2).setRow hk (by decide)
  refine ⟨?_, ?_, ?_, ?_⟩
  · exact h3.counted (h2.counted (h1.counted hcount hk (by decide)) hk (by decide)) hk (by decide)
  · rw [h3.flagRow (n := 2) _ hk (by decide), h2.flagRow (n := 2) _ hk (by decide), hev]
  · rw [h3.flagRow (n := 2) _ hk (by decide), hseen]
  · rw [flag_set_self _ _ _ _ _ (by decide)]
    cases valid <;> rfl

/-- What a mark shows. -/
def MarkShown (k : Nat) (s t : State) : Prop :=
  Counted Cnt.MARKS_RX k 0 1 s t ∧ t.flag Reg.TL_EVENTS_MARK k = true ∧ t.flag Reg.TL_STATUS_MARK_SEEN k = true ∧ (t.tlane k).markAt = some s.clock ∧ t.flag Reg.TL_STATUS_TOD_VALID k = s.markValid k

theorem MarkShown.after {k : Nat} {s t u : State} (h : MarkShown k s t) (hk : k < 2) (ht : Touch timeErrorPatches t u) (hm : (u.tlane k).markAt = (t.tlane k).markAt) : MarkShown k s u := by
  obtain ⟨hcount, hev, hseen, hat, hvalid⟩ := h
  refine ⟨ht.counted hcount hk (by decide), ?_, ?_, hm.trans hat, ?_⟩
  · rw [ht.flagRow (n := 2) _ hk (by decide), hev]
  · rw [ht.flagRow (n := 2) _ hk (by decide), hseen]
  · rw [ht.flagRow (n := 2) _ hk (by decide), hvalid]

theorem marked_shows (s : State) {k : Nat} (hk : k < 2) (ps : Nat) : MarkShown k s (s.marked k ps) := by
  have hlatch := markLatched_touch s hk ps
  unfold State.marked
  generalize s.markLatched k ps = v at hlatch
  obtain ⟨hcount, hev, hseen, hvalid⟩ := markShown_shows v hk (s.markValid k)
  generalize v.markShown k (s.markValid k) = w at hcount hev hseen hvalid
  have hmove := setTlane_touch [] w k { s.tlane k with prevMark := (s.tlane k).markAt, markAt := some s.clock }
  have hlane := tlane_setTlane_self w k { s.tlane k with prevMark := (s.tlane k).markAt, markAt := some s.clock }
  generalize w.setTlane k { s.tlane k with prevMark := (s.tlane k).markAt, markAt := some s.clock } = u at hmove hlane
  refine ⟨hmove.counted (hlatch.counted_of hcount hk (by decide)) hk (by decide), ?_, ?_, ?_, ?_⟩
  · rw [hmove.flagRow (n := 2) _ hk (by decide), hev]
  · rw [hmove.flagRow (n := 2) _ hk (by decide), hseen]
  · rw [hlane]
  · rw [hmove.flagRow (n := 2) _ hk (by decide), hvalid]

/-- A lane whose characters a step of `ps` shifts. -/
def TLane.shifted (x : TLane) (ps : Int) (next : Nat) : TLane :=
  { x with frac := x.frac + ps - (x.frac + ps + 200) / 400 * 400, phase := ((x.phase + (x.frac + ps + 200) / 400) % 10).toNat, next := next }

theorem tlShift_eq (s : State) (ps : Int) : s.tlShift ps = [0, 1].foldl (fun v t => v.setTlane t ((v.tlane t).shifted ps (v.devTime / 104 * 2))) s := rfl

/-- A step of device time shifts the lanes' characters and leaves when their marks came. -/
theorem tlShift_markAt (s : State) (ps : Int) (k : Nat) : ((s.tlShift ps).tlane k).markAt = (s.tlane k).markAt := by
  rw [tlShift_eq]
  refine foldl_keeps (fun v => (v.tlane k).markAt) (fun v t => ?_) [0, 1] s
  generalize hx : (v.tlane t).shifted ps (v.devTime / 104 * 2) = x
  by_cases h : t = k
  · subst h
    have hsame : x.markAt = (v.tlane t).markAt := by
      rw [← hx]
      rfl
    exact (congrArg TLane.markAt (tlane_setTlane_self v t x)).trans hsame
  · exact congrArg TLane.markAt (tget_tput_ne _ _ v.ln.tls x (Ne.symm h))

theorem stepTime_markAt (s : State) (d : Int) (source k : Nat) : ((s.stepTime d source).tlane k).markAt = (s.tlane k).markAt := by
  have hlogs : RegsLogs ((s.moveTime d).tlShift ((1000 * d) / 13)) (s.timeStepped d source) := (((RegsLogs.refl _).bump _ _ _ _).set _ _ _ _).log _ _ _
  have hln : (s.stepTime d source).ln = ((s.moveTime d).tlShift ((1000 * d) / 13)).ln := by
    rw [stepTime_eq]
    exact hlogs.keeps State.ln fun _ _ _ => rfl
  rw [tlane_congr hln, tlShift_markAt]
  rfl

theorem timeError_markAt (s : State) (e : Int) (source k : Nat) : ((s.timeError e source).tlane k).markAt = (s.tlane k).markAt := by
  have hset : ((s.stopSlew).set Reg.LAST_TIME_ERR_E (sat32 ((2 * e + 13) / 26))).ln = s.ln :=
    ((RegsLogs.refl s.stopSlew).set _ _ _ _).keeps State.ln fun _ _ _ => rfl
  unfold State.timeError
  dsimp only
  generalize (s.stopSlew).set Reg.LAST_TIME_ERR_E (sat32 ((2 * e + 13) / 26)) = v at hset
  rw [← tlane_congr hset k]
  split
  · exact stepTime_markAt v _ _ _
  · rfl

theorem tl_mark (k : Fin 2) (e : Fin 401) (s : State) (hsync : s.flag Reg.TL_STATUS_SYNC k.val = true) : ∃ t, exec (.tlMarkRx k e) s = .next t ∧ MarkShown k.val s t := by
  show ∃ t, execTlMarkRx k e s = _ ∧ _
  rw [execTlMarkRx_eq, if_neg (by simp [hsync])]
  generalize s.devTime * 1000 / 13 + e.val - 200 = ps
  have hmark := marked_shows s k.isLt ps
  generalize s.marked k.val ps = v at hmark
  by_cases hsrc : (s.markValid k.val && decide (s.get Reg.TIME_CFG_TIME_SRC = 1 + k.val)) = true
  · rw [if_pos hsrc]
    refine done_then fun t he _ => (hmark.after k.isLt (timeError_touch v _ _) (timeError_markAt v _ _ _)).after k.isLt (he.touch.mono (by decide)) ?_
    rw [he.tlane]
  · rw [if_neg hsrc]
    refine done_then fun t he _ => hmark.after k.isLt (he.touch.mono (by decide)) ?_
    rw [he.tlane]

theorem markValid_none (s : State) (k : Nat) (h : (s.tlane k).todAt = none) : s.markValid k = false := by
  unfold State.markValid
  rw [h]

theorem markValid_some (s : State) (k : Nat) {a : Nat} (h : (s.tlane k).todAt = some a) (hold : a + 13000000 ≤ s.clock) (hsince : ∀ m, (s.tlane k).markAt = some m → m ≤ a) :
    s.markValid k = true := by
  have hms : msT 1 = 13000000 := rfl
  unfold State.markValid
  rw [h]
  dsimp only
  rw [hms]
  cases hm : (s.tlane k).markAt with
  | none => simp [hold]
  | some m => simp [hold, hsince m hm]

/-- The words of a message. -/
def State.todShown (s : State) (k : Nat) (data : List Byte) (w : Nat) : State := s.set Reg.TOD_RX_BYTES (u32 data (4 * w)) k w

theorem todShown_word (s : State) (k : Nat) (data : List Byte) {w : Nat} (hw : w < 4) : ((List.range 4).foldl (fun v w => v.todShown k data w) s).get Reg.TOD_RX_BYTES k w = u32 data (4 * w) := by
  refine foldl_reaches (P := fun _ => True) (Q := fun v => v.get Reg.TOD_RX_BYTES k w = u32 data (4 * w)) (List.mem_range.mpr hw) List.nodup_range (fun _ _ _ _ _ => trivial)
    (fun v _ => ?_) (fun x _ hx v hv => ?_) trivial
  · exact (get_set_self _ _ _ _ _ (by decide)).trans (Nat.mod_eq_of_lt (le_lt 4 data (4 * w)))
  · refine (get_set_ne _ _ _ _ _ _ _ _ (by decide) (.inl ?_)).trans hv
    unfold Field.addr
    show 0x320050 + 0x1000 * k + 4 * w ≠ 0x320050 + 0x1000 * k + 4 * x
    omega

theorem todShown_touch (s : State) {k : Nat} (hk : k < 2) (data : List Byte) : Touch [Reg.TOD_RX_BYTES.patch 2 4] s ((List.range 4).foldl (fun v w => v.todShown k data w) s) :=
  Touch.foldl (fun _ hw v => (Touch.refl _ v).set 2 4 (by decide) (.inr hk) (List.mem_range.mp hw)) (.refl _ s)

theorem tod_message (k : Fin 2) (data : List Byte) (closed : Bool) (s : State) (hsync : s.flag Reg.TL_STATUS_SYNC k.val = true) :
    (closed = true → data.length = 16 → todCrc data = be 2 data 14 → ∃ t, exec (.todMessageRx k data closed) s = .next t ∧ Counted Cnt.TOD_RX_OK k.val 0 1 s t ∧
      t.flag Reg.TL_EVENTS_TOD_RX k.val = true ∧ (t.tlane k.val).todAt = some s.clock ∧ ∀ w, w < 4 → t.get Reg.TOD_RX_BYTES k.val w = u32 data (4 * w)) ∧
    (closed = false ∨ data.length ≠ 16 ∨ todCrc data ≠ be 2 data 14 → ∃ t, exec (.todMessageRx k data closed) s = .next t ∧ Counted Cnt.TOD_ERRS k.val 0 1 s t ∧
      t.flag Reg.TL_EVENTS_TOD_ERR k.val = true ∧ t.ln = s.ln) := by
  refine ⟨fun hclosed hlen hcrc => ?_, fun hbad => ?_⟩
  · have hgood : (closed && decide (data.length = 16) && decide (todCrc data = be 2 data 14)) = true := by simp [hclosed, hlen, hcrc]
    show ∃ t, execTodMessageRx k data closed s = _ ∧ _
    unfold execTodMessageRx
    dsimp only
    rw [if_neg (by simp [hsync]), if_pos hgood]
    have hwords : ∀ w, w < 4 → ((List.range 4).foldl (fun v w => v.set Reg.TOD_RX_BYTES (u32 data (4 * w)) k.val w) s).get Reg.TOD_RX_BYTES k.val w = u32 data (4 * w) :=
      fun w hw => todShown_word s k.val data hw
    have htouch := todShown_touch s k.isLt data
    unfold State.todShown at htouch
    generalize (List.range 4).foldl (fun v w => v.set Reg.TOD_RX_BYTES (u32 data (4 * w)) k.val w) s = v at hwords htouch
    have hb : Touch Cnt.TOD_RX_OK.patches v (v.bump Cnt.TOD_RX_OK k.val) := (Touch.refl _ v).bumpRow k.isLt (by decide)
    have hcount : Counted Cnt.TOD_RX_OK k.val 0 1 v (v.bump Cnt.TOD_RX_OK k.val) := counted_bump _ _ _ _ _ (.inl rfl)
    generalize v.bump Cnt.TOD_RX_OK k.val = v1 at hb hcount
    have h1 : Touch [Reg.TL_EVENTS_TOD_RX.patch 2] v1 (v1.set Reg.TL_EVENTS_TOD_RX 1 k.val) := (Touch.refl _ v1).setRow k.isLt (by decide)
    have hev : (v1.set Reg.TL_EVENTS_TOD_RX 1 k.val).flag Reg.TL_EVENTS_TOD_RX k.val = true := flag_set_self _ _ _ _ _ (by decide)
    generalize v1.set Reg.TL_EVENTS_TOD_RX 1 k.val = v2 at h1 hev
    have h2 : Touch [Reg.TL_STATUS_TOD_VALID.patch 2] v2 (v2.set Reg.TL_STATUS_TOD_VALID 0 k.val) := (Touch.refl _ v2).setRow k.isLt (by decide)
    generalize v2.set Reg.TL_STATUS_TOD_VALID 0 k.val = v3 at h2
    have hlane := tlane_setTlane_self v3 k.val { s.tlane k.val with todAt := some s.clock }
    have h3 := setTlane_touch [] v3 k.val { s.tlane k.val with todAt := some s.clock }
    generalize v3.setTlane k.val { s.tlane k.val with todAt := some s.clock } = u at hlane h3
    refine done_then fun t he _ => ⟨?_, ?_, ?_, fun w hw => ?_⟩
    · exact he.touch.counted (h3.counted (h2.counted (h1.counted (htouch.counted_of hcount k.isLt (by decide)) k.isLt (by decide)) k.isLt (by decide)) k.isLt (by decide)) k.isLt (by decide)
    · rw [he.touch.flagRow (n := 2) _ k.isLt (by decide), h3.flagRow (n := 2) _ k.isLt (by decide), h2.flagRow (n := 2) _ k.isLt (by decide), hev]
    · rw [he.tlane, hlane]
    · have hget : ∀ {l : List Patch} {x y : State}, Touch l x y → (sharedPatches ++ l).all (·.apart (Reg.TOD_RX_BYTES.patch 2 4)) = true → y.get Reg.TOD_RX_BYTES k.val w = x.get Reg.TOD_RX_BYTES k.val w :=
        fun h hd => h.get _ _ _ 2 4 hd (by decide) (.inr k.isLt) hw
      rw [hget he.touch (by decide), hget h3 (by decide), hget h2 (by decide), hget h1 (by decide), hget hb (by decide), hwords w hw]
  · have hcond : ¬(closed && decide (data.length = 16) && decide (todCrc data = be 2 data 14)) = true := by
      rcases hbad with h | h | h <;> simp [h]
    show ∃ t, execTodMessageRx k data closed s = _ ∧ _
    unfold execTodMessageRx
    dsimp only
    rw [if_neg (by simp [hsync]), if_neg hcond]
    refine done_then fun t he _ => ⟨?_, ?_, ?_⟩
    · exact he.touch.counted (((Touch.refl [Reg.TL_EVENTS_TOD_ERR.patch 2] _).setRow k.isLt (by decide)).counted (counted_bump s _ _ _ _ (.inl rfl)) k.isLt (by decide)) k.isLt (by decide)
    · exact (he.touch.flagRow (n := 2) _ k.isLt (by decide)).trans (flag_set_self _ _ _ _ _ (by decide))
    · exact he.ln.trans ((((RegsLogs.refl s).bump _ _ _ _).set _ _ _ _).keeps State.ln fun _ _ _ => rfl)

theorem tod_send (k : Fin 2) (m : List Byte) (s : State) (hen : s.flag Reg.TL_CFG_TX_EN k.val = true) (htod : s.flag Reg.TL_CFG_TOD_TX_EN k.val = true) (hnew : (s.tlane k.val).sentFor ≠ some s.devSec)
    (hhalf : 6500000000 ≤ s.devTime % 13000000000)
    (hm : m = bytesBe 6 (s.devSec + 1) ++ bytesBe 2 (twos 16 (-(s.tlane k.val).frac)) ++ [BitVec.ofNat 8 s.dpll, BitVec.ofNat 8 s.qlOut, 0, 0] ++ bytesBe 2 (s.tlane k.val).seq) :
    ∃ t, exec (.todMessageTx k) s = .next t ∧ (t.tlane k.val).sent = m ++ bytesBe 2 (todCrc m) ∧ (t.tlane k.val).seq = ((s.tlane k.val).seq + 1) % 65536 ∧
      (t.tlane k.val).sentFor = some s.devSec ∧ RegsKept [] s t := by
  have hcond : ¬(!s.flag Reg.TL_CFG_TX_EN k.val || !s.flag Reg.TL_CFG_TOD_TX_EN k.val || decide ((s.tlane k.val).sentFor = some s.devSec) || decide (s.devTime % secT 1 < msT 500)) = true := by
    have h1 : secT 1 = 13000000000 := rfl
    have h2 : msT 500 = 6500000000 := rfl
    simp [hen, htod, hnew, h1, h2, hhalf]
  show ∃ t, execTodMessageTx k s = _ ∧ _
  unfold execTodMessageTx
  dsimp only
  rw [if_neg hcond, ← hm]
  refine setTlane_then fun t ht hkept => ⟨?_, ?_, ?_, hkept⟩
  · rw [ht]
  · rw [ht]
  · rw [ht]

theorem mark_seen_timeout (k : Fin 2) (m : Nat) (s : State) (hat : (s.tlane k.val).markAt = some m) (hseen : s.flag Reg.TL_STATUS_MARK_SEEN k.val = true) (hlate : m + 14300000000 ≤ s.clock) :
    ∃ t, exec (.markSeenTimeout k) s = .next t ∧ t.flag Reg.TL_STATUS_MARK_SEEN k.val = false ∧ RegsKept [Reg.TL_STATUS_MARK_SEEN.addr k.val 0] s t := by
  have hcond : (s.flag Reg.TL_STATUS_MARK_SEEN k.val && decide (m + msT 1100 ≤ s.clock)) = true := by
    have h1 : msT 1100 = 14300000000 := rfl
    simp [hseen, h1, hlate]
  show ∃ t, execMarkSeenTimeout k s = _ ∧ _
  unfold execMarkSeenTimeout
  dsimp only
  rw [hat]
  dsimp only
  rw [if_pos hcond]
  refine done_then fun t he _ => ⟨?_, fun a ha hq => ?_⟩
  · rw [he.touch.flagRow (n := 2) _ k.isLt (by decide), flag_set_self _ _ _ _ _ (by decide)]
    rfl
  · rw [he.kept a List.not_mem_nil hq]
    exact reg_set_ne s _ _ _ _ (by simpa using ha)

/-! ### Module transmitters and inner lock (R611, R614) -/

theorem module_fallback (m : Fin 8) (host : Bool) (s : State) :
    (s.modLane m.val = true → s.flag (fallbackBit host) (16 + m.val) = false → s.sourceFailed m.val host = true →
      ∃ t, exec (.moduleFallback m host) s = .next t ∧ t.flag (fallbackBit host) (16 + m.val) = true ∧ Counted Cnt.TX_FALLBACKS (16 + m.val) 0 1 s t ∧
        t.flag Reg.MOD_EVENTS_FALLBACK (16 + m.val) = true) ∧
    (s.flag (fallbackBit host) (16 + m.val) = true → s.sourceFailed m.val host = false → s.sourceGood m.val host + 130000 ≤ s.clock →
      ∃ t, exec (.moduleFallbackEnd m host) s = .next t ∧ t.flag (fallbackBit host) (16 + m.val) = false ∧ RegsKept [(fallbackBit host).addr (16 + m.val) 0] s t) := by
  have hl : 16 + m.val < 24 := by omega
  have hwide : (fallbackBit host).lo + (fallbackBit host).width ≤ 32 := by cases host <;> decide
  have hone : (fallbackBit host).width = 1 := by cases host <;> rfl
  refine ⟨fun hmod hoff hfailed => ?_, fun hon hgood hlong => ?_⟩
  · have hcond : ¬(!s.modLane m.val || s.flag (fallbackBit host) (16 + m.val) || !s.sourceFailed m.val host) = true := by simp [hmod, hoff, hfailed]
    show ∃ t, execModuleFallback m host s = _ ∧ _
    unfold execModuleFallback
    dsimp only
    rw [if_neg hcond]
    unfold State.fallBack
    have hbit : (s.set (fallbackBit host) 1 (16 + m.val)).flag (fallbackBit host) (16 + m.val) = true := by
      rw [flag_set_self _ _ _ _ _ hwide, hone]
      rfl
    have hset : Touch [(fallbackBit host).patch 24] s (s.set (fallbackBit host) 1 (16 + m.val)) := (Touch.refl _ s).setRow hl (by cases host <;> decide)
    generalize s.set (fallbackBit host) 1 (16 + m.val) = v at hbit hset
    have hcount : Counted Cnt.TX_FALLBACKS (16 + m.val) 0 1 v (v.bump Cnt.TX_FALLBACKS (16 + m.val)) := counted_bump _ _ _ _ _ (.inl rfl)
    have hbump : Touch Cnt.TX_FALLBACKS.patches v (v.bump Cnt.TX_FALLBACKS (16 + m.val)) := (Touch.refl _ v).bumpRow hl (by decide)
    generalize v.bump Cnt.TX_FALLBACKS (16 + m.val) = v1 at hcount hbump
    have hevent : Touch [Reg.MOD_EVENTS_FALLBACK.patch 24] v1 (v1.set Reg.MOD_EVENTS_FALLBACK 1 (16 + m.val)) := (Touch.refl _ v1).setRow hl (by decide)
    refine done_then fun t he _ => ⟨?_, ?_, ?_⟩
    · rw [he.touch.flagRow (n := 24) _ hl (by cases host <;> decide), hevent.flagRow (n := 24) _ hl (by cases host <;> decide), hbump.flagRow (n := 24) _ hl (by cases host <;> decide), hbit]
    · exact he.touch.counted (hevent.counted (hset.counted_of hcount hl (by cases host <;> decide)) hl (by decide)) hl (by decide)
    · exact (he.touch.flagRow (n := 24) _ hl (by decide)).trans (flag_set_self _ _ _ _ _ (by decide))
  · have hcond : ¬(!s.flag (fallbackBit host) (16 + m.val) || s.sourceFailed m.val host || decide (s.clock < s.sourceGood m.val host + usT 10)) = true := by
      have h1 : usT 10 = 130000 := rfl
      simp [hon, hgood, h1, hlong]
    show ∃ t, execModuleFallbackEnd m host s = _ ∧ _
    unfold execModuleFallbackEnd
    dsimp only
    rw [if_neg hcond]
    refine done_then fun t he _ => ⟨?_, fun a ha hq => ?_⟩
    · rw [he.touch.flagRow (n := 24) _ hl (by cases host <;> decide), flag_set_self _ _ _ _ _ hwide, hone]
      rfl
    · rw [he.kept a List.not_mem_nil hq]
      exact reg_set_ne s _ _ _ _ (by simpa using ha)

theorem inner_lock (m : Fin 8) (s : State) :
    (s.flag Reg.MOD_STATUS_INNER_LOCK (16 + m.val) = true → ∃ t, exec (.innerLockLoss m) s = .next t ∧ t.flag Reg.MOD_STATUS_INNER_LOCK (16 + m.val) = false ∧
      Counted Cnt.INNER_LOCK_LOSSES (16 + m.val) 0 1 s t ∧ t.flag Reg.MOD_EVENTS_INNER_LOCK_LOST (16 + m.val) = true) ∧
    (s.flag Reg.MOD_STATUS_INNER_LOCK (16 + m.val) = false → s.modLane m.val = true → s.laneRate (16 + m.val) = 9 → s.rxState (16 + m.val) = 3 →
      ∃ t, exec (.innerLockGain m) s = .next t ∧ t.flag Reg.MOD_STATUS_INNER_LOCK (16 + m.val) = true ∧ (t.lane (16 + m.val)).goodAt = s.clock) := by
  have hl : 16 + m.val < 24 := by omega
  refine ⟨fun hon => ?_, fun hoff hmod hrate hlocked => ?_⟩
  · show ∃ t, execInnerLockLoss m s = _ ∧ _
    unfold execInnerLockLoss
    dsimp only
    rw [if_neg (by simp [hon])]
    have hset : Touch [Reg.MOD_STATUS_INNER_LOCK.patch 24] s (s.set Reg.MOD_STATUS_INNER_LOCK 0 (16 + m.val)) := (Touch.refl _ s).setRow hl (by decide)
    have hbit : (s.set Reg.MOD_STATUS_INNER_LOCK 0 (16 + m.val)).flag Reg.MOD_STATUS_INNER_LOCK (16 + m.val) = false := by
      rw [flag_set_self _ _ _ _ _ (by decide)]
      rfl
    generalize s.set Reg.MOD_STATUS_INNER_LOCK 0 (16 + m.val) = v at hset hbit
    have hcount : Counted Cnt.INNER_LOCK_LOSSES (16 + m.val) 0 1 v (v.bump Cnt.INNER_LOCK_LOSSES (16 + m.val)) := counted_bump _ _ _ _ _ (.inl rfl)
    have hbump : Touch Cnt.INNER_LOCK_LOSSES.patches v (v.bump Cnt.INNER_LOCK_LOSSES (16 + m.val)) := (Touch.refl _ v).bumpRow hl (by decide)
    generalize v.bump Cnt.INNER_LOCK_LOSSES (16 + m.val) = v1 at hcount hbump
    have hevent : Touch [Reg.MOD_EVENTS_INNER_LOCK_LOST.patch 24] v1 (v1.set Reg.MOD_EVENTS_INNER_LOCK_LOST 1 (16 + m.val)) := (Touch.refl _ v1).setRow hl (by decide)
    refine done_then fun t he _ => ⟨?_, ?_, ?_⟩
    · rw [he.touch.flagRow (n := 24) _ hl (by decide), hevent.flagRow (n := 24) _ hl (by decide), hbump.flagRow (n := 24) _ hl (by decide), hbit]
    · exact he.touch.counted (hevent.counted (hset.counted_of hcount hl (by decide)) hl (by decide)) hl (by decide)
    · exact (he.touch.flagRow (n := 24) _ hl (by decide)).trans (flag_set_self _ _ _ _ _ (by decide))
  · have hcond : ¬(!s.modLane m.val || decide (s.laneRate (16 + m.val) ≠ 9) || decide (s.rxState (16 + m.val) ≠ 3) || s.flag Reg.MOD_STATUS_INNER_LOCK (16 + m.val)) = true := by
      simp [hoff, hmod, hrate, hlocked]
    show ∃ t, execInnerLockGain m s = _ ∧ _
    unfold execInnerLockGain
    dsimp only
    rw [if_neg hcond]
    have hbit : (s.set Reg.MOD_STATUS_INNER_LOCK 1 (16 + m.val)).flag Reg.MOD_STATUS_INNER_LOCK (16 + m.val) = true := flag_set_self _ _ _ _ _ (by decide)
    generalize s.set Reg.MOD_STATUS_INNER_LOCK 1 (16 + m.val) = v at hbit
    refine done_then fun t he _ => ⟨?_, ?_⟩
    · exact (he.touch.flagRow (n := 24) _ hl (by decide)).trans hbit
    · have hlane : (t.lane (16 + m.val)) = { s.lane (16 + m.val) with goodAt := s.clock } :=
        (congrArg (fun x : LaneState => tget ({} : Lane) x.lanes (16 + m.val)) he.ln).trans (tget_tput_self _ v.ln.lanes _ _)
      rw [hlane]

/-! ### Level measurement of a module lane (R616) -/

theorem mod_level_measure (mb : Fin 8) (p : List Byte) (s : State) (hreq : s.request mb.val 0x0362 = some p) (hidle : s.ln.measure = none) (hmod : s.modLane (u8 p 0) = true)
    (hlocked : s.rxState (16 + u8 p 0) = 3) :
    ∃ t, exec (.modLevelMeasure mb) s = .next t ∧ RunsOn mb.val s t ∧ t.ln.measure = some { mb := mb.val, lane := 16 + u8 p 0, n := u8 p 1, start := s.clock } ∧ RegsKept [] s t := by
  have hbusy : ¬(s.serving mb.val).ln.measure.isSome = true := by
    show ¬s.ln.measure.isSome = true
    simp [hidle]
  have hfree : ¬(!(s.serving mb.val).modLane (u8 p 0) || decide ((s.serving mb.val).rxState (16 + u8 p 0) ≠ 3)) = true := by
    show ¬(!s.modLane (u8 p 0) || decide (s.rxState (16 + u8 p 0) ≠ 3)) = true
    simp [hmod, hlocked]
  show ∃ t, execModLevelMeasure mb s = _ ∧ _
  unfold execModLevelMeasure
  refine actLong_runs_then (u := { s.serving mb.val with ln := { s.ln with measure := some { mb := mb.val, lane := 16 + u8 p 0, n := u8 p 1, start := s.clock } } }) hreq
    ((if_neg hbusy).trans (if_neg hfree)) fun t he hrun => ⟨hrun.of_mbs rfl, ?_, fun a ha hq => he.kept a ha hq⟩
  rw [he.ln]

/-- A level measurement ended. -/
def State.measureEnded (s : State) (lane : Nat) : State := State.set { s with ln := { s.ln with measure := none } } Reg.MOD_EVENTS_MEASURE_DONE 1 lane

theorem execModMeasureDone_eq (m : Fin 65536 × Fin 65536) {x : ModMeasure} {s : State} (hx : s.ln.measure = some x) : execModMeasureDone m s =
    if x.lost then done s ((s.measureEnded x.lane).finish x.mb (err cTIMEOUT))
    else if s.clock < x.start + s.measureTime x then .next s
    else done s ((s.measureEnded x.lane).finish x.mb (okD (bytes 2 (levelRho (m.1.val, m.2.val)) ++ [0, 0]))) := by
  unfold execModMeasureDone
  rw [hx]
  rfl

theorem measure_answered {s : State} {x : ModMeasure} (r : Reply) (hrun : (s.mbox x.mb).phase = .running) :
    ∃ t, done s ((s.measureEnded x.lane).finish x.mb r) = .next t ∧ t.ln.measure = none ∧ Answered x.mb r s t ∧ t.flag Reg.MOD_EVENTS_MEASURE_DONE x.lane = true := by
  have hbit : (s.measureEnded x.lane).flag Reg.MOD_EVENTS_MEASURE_DONE x.lane = true := flag_set_self _ _ _ _ _ (by decide)
  have hln : (s.measureEnded x.lane).ln.measure = none := rfl
  have hmbs : (s.measureEnded x.lane).mbs = s.mbs := rfl
  generalize s.measureEnded x.lane = v at hbit hln hmbs
  refine done_finish_then (mbox_congr hmbs x.mb ▸ hrun) fun t he hans => ⟨?_, hans.of_mbs hmbs, ?_⟩
  · rw [he.ln, hln]
  · exact (he.answer_touch.flag _ x.lane 0 0 1 (by decide) (by decide) (.inl rfl) (by decide)).trans hbit

theorem mod_measure_done (m0 m1 : Fin 65536) (x : ModMeasure) (s : State) (hx : s.ln.measure = some x) (hrun : (s.mbox x.mb).phase = .running) :
    (x.lost = false → x.start + s.measureTime x ≤ s.clock →
      ∃ t, exec (.modMeasureDone (m0, m1)) s = .next t ∧ t.ln.measure = none ∧ Answered x.mb (okD (bytes 2 (levelRho (m0.val, m1.val)) ++ [0, 0])) s t ∧
        t.flag Reg.MOD_EVENTS_MEASURE_DONE x.lane = true) ∧
    (x.lost = true → ∃ t, exec (.modMeasureDone (m0, m1)) s = .next t ∧ t.ln.measure = none ∧ Answered x.mb (err cTIMEOUT) s t ∧ t.flag Reg.MOD_EVENTS_MEASURE_DONE x.lane = true) := by
  refine ⟨fun hkept hdue => ?_, fun hlost => ?_⟩
  · show ∃ t, execModMeasureDone (m0, m1) s = _ ∧ _
    rw [execModMeasureDone_eq _ hx, if_neg (ne_true_of_eq_false hkept), if_neg (Nat.not_lt.mpr hdue)]
    exact measure_answered _ hrun
  · show ∃ t, execModMeasureDone (m0, m1) s = _ ∧ _
    rw [execModMeasureDone_eq _ hx, if_pos hlost]
    exact measure_answered _ hrun

/-- Settles O57. -/
theorem timingLanesAndModuleMode : Obligations.TimingLanesAndModuleMode := by
  unfold Obligations.TimingLanesAndModuleMode
  refine ⟨fun k code same rd v s hrx hv hrd => ?_, tl_sync_gain, fun k sig s hsync => ⟨tl_sync_loss k sig s hsync, tl_realign k s hsync⟩, fun k e s hsync => ?_, tod_message, tod_send,
    mark_seen_timeout, module_fallback, inner_lock, mod_level_measure, mod_measure_done⟩
  · have hdisp : rd = runningDisparity (if same then (s.tlane k.val).rxRd else none) v := by
      rw [hrd]
      cases (if same then (s.tlane k.val).rxRd else none) <;> rfl
    exact tl_character k code same rd v s hrx hv hdisp
  · obtain ⟨t, ht, hcount, hev, hseen, hat, hvalid⟩ := tl_mark k e s hsync
    exact ⟨t, ht, hcount, hev, hseen, hat, fun h => hvalid.trans (markValid_none s _ h), fun a h hold hsince => hvalid.trans (markValid_some s _ h hold hsince)⟩

end Sys2Proof.Machine
end

section
/-! SUPPORT. Lane receivers and ports (O55) -/

namespace Sys2Proof.Machine

/-! ### What a lane's receiver writes (R574–R581) -/

theorem Ended.lane {but : List Nat} {s u t : State} (he : Ended but s u t) (l : Nat) : t.lane l = u.lane l := congrArg (fun x : LaneState => tget ({} : Lane) x.lanes l) he.ln

/-- The words of PORT_STATUS. -/
def portWord : Patch := ⟨⟨0x300040, 0x1000, 16, 0, 1⟩, 0, 32⟩

def portPatches : List Patch := portWord :: Reg.LN_EVENTS_ALIGN_LOST.patch 24 :: Cnt.ALIGN_LOSSES.patches

theorem alignLost_touch (s : State) {l : Nat} (hl : l < 16) : Touch portPatches s (s.alignLost l) := by
  have h24 : l < 24 := Nat.lt_trans hl (by decide)
  exact ((((Touch.refl _ s).setRow hl (by decide)).setRow h24 (by decide)).bumpRow h24 (by decide))

/-- What becomes of a port at lane `l` when lanes have left LOCKED. -/
def State.checkPort (s : State) (l : Nat) : State :=
  if !s.flag Reg.PORT_STATUS_ALIGNED l then s
  else match s.portAt l with
    | some p => if s.portLocked p then s else s.alignLost l
    | none => s.setReg (0x300040 + 0x1000 * l) 0

theorem checkPorts_eq (s : State) : s.checkPorts = (List.range 16).foldl State.checkPort s := rfl

theorem checkPort_touch (s : State) {l : Nat} (hl : l < 16) : Touch portPatches s (s.checkPort l) := by
  unfold State.checkPort
  refine .ite (fun _ => .refl _ s) fun _ => ?_
  cases s.portAt l with
  | some p => exact .ite (fun _ => .refl _ s) fun _ => alignLost_touch s hl
  | none => exact (Touch.refl _ s).setReg portWord (by decide) ⟨l, 0, .inr hl, Nat.one_pos, by simp [portWord]⟩ rfl rfl

theorem checkPorts_touch (s : State) : Touch portPatches s s.checkPorts := by
  rw [checkPorts_eq]
  exact Touch.foldl (fun l hl v => checkPort_touch v (List.mem_range.mp hl)) (.refl _ s)

theorem dropMarkers_touch (s : State) (l : Nat) : Touch [portWord] s (s.dropMarkers l) := by
  unfold State.dropMarkers
  refine Touch.foldl (fun p _ v => .ite (fun hp => ?_) fun _ => .refl _ v) (.refl _ s)
  have hlt : p.1 < 16 := of_decide_eq_true (Bool.and_eq_true_iff.mp hp).2
  exact (Touch.refl _ v).setRow hlt (by decide)

def eyePatches : List Patch := [Reg.LN_EYE_EYE_LO.patch 24, Reg.LN_EYE_EYE_MID.patch 24, Reg.LN_EYE_EYE_HI.patch 24, Reg.XQ_STATUS_HOST_LOCK.patch, Reg.XQ_STATUS_MEDIA_LOCK.patch,
  Reg.LN_STATUS_BLOCK_LOCK.patch 24]

theorem setXqLock_touch {m : List Patch} (s : State) (l : Nat) (on : Bool) (h : Reg.XQ_STATUS_HOST_LOCK.patch.inList m = true ∧ Reg.XQ_STATUS_MEDIA_LOCK.patch.inList m = true) :
    Touch m s (s.setXqLock l on) := by
  unfold State.setXqLock
  exact .ite (fun _ => (Touch.refl _ s).set0 h.1) fun _ => (Touch.refl _ s).set0 h.2

/-- The figures of an unlocked lane behind its SNR. -/
def State.unlockedEyes (s : State) (l : Nat) : State :=
  let s1 := ((s.set Reg.LN_EYE_EYE_LO 0x3FF l).set Reg.LN_EYE_EYE_MID 0x3FF l).set Reg.LN_EYE_EYE_HI 0x3FF l
  ((s1.setXqLock l false).set Reg.LN_STATUS_BLOCK_LOCK 0 l).setLane l { s1.lane l with offset := 0, good := 0, bad := 0, window := 0 }

theorem unlockedFigures_eq (s : State) (l : Nat) : s.unlockedFigures l = (s.set Reg.LN_FOM_SNR 0xFFFF l).unlockedEyes l := rfl

theorem unlockedEyes_touch (s : State) {l : Nat} (hl : l < 24) : Touch eyePatches s (s.unlockedEyes l) := by
  have h1 : Touch eyePatches s (((s.set Reg.LN_EYE_EYE_LO 0x3FF l).set Reg.LN_EYE_EYE_MID 0x3FF l).set Reg.LN_EYE_EYE_HI 0x3FF l) :=
    ((((Touch.refl _ s).setRow hl (by decide)).setRow hl (by decide)).setRow hl (by decide))
  unfold State.unlockedEyes
  dsimp only
  generalize ((s.set Reg.LN_EYE_EYE_LO 0x3FF l).set Reg.LN_EYE_EYE_MID 0x3FF l).set Reg.LN_EYE_EYE_HI 0x3FF l = v at h1
  have h2 := h1.trans (setXqLock_touch v l false (by decide))
  generalize v.setXqLock l false = w at h2
  have h3 : Touch eyePatches s (w.set Reg.LN_STATUS_BLOCK_LOCK 0 l) := h2.setRow hl (by decide)
  exact h3.trans (setLane_touch _ _ _ _)

theorem unlockedFigures_shows (s : State) {l : Nat} (hl : l < 24) : Touch (Reg.LN_FOM_SNR.patch 24 :: eyePatches) s (s.unlockedFigures l) ∧ (s.unlockedFigures l).get Reg.LN_FOM_SNR l = 0xFFFF := by
  have hset : Touch (Reg.LN_FOM_SNR.patch 24 :: eyePatches) s (s.set Reg.LN_FOM_SNR 0xFFFF l) := (Touch.refl _ s).setRow hl (by decide)
  have hsnr : (s.set Reg.LN_FOM_SNR 0xFFFF l).get Reg.LN_FOM_SNR l = 0xFFFF := get_set_self _ _ _ _ _ (by decide)
  rw [unlockedFigures_eq]
  generalize s.set Reg.LN_FOM_SNR 0xFFFF l = v at hset hsnr
  have heyes := unlockedEyes_touch v hl
  exact ⟨hset.andThen heyes (by decide), (heyes.getRow (n := 24) _ hl (by decide)).trans hsnr⟩

theorem measureLost_touch (m : List Patch) (s : State) (l : Nat) : Touch m s (s.measureLost l) := by
  unfold State.measureLost
  split
  · exact .ite (fun _ => .of_regs rfl) fun _ => .refl _ s
  · exact .refl _ s

/-- What a receiver that leaves LOCKED writes. -/
def unlockPatches : List Patch := Reg.LN_STATUS_RX_STATE.patch 24 :: Reg.LN_FOM_SNR.patch 24 :: Reg.LN_EVENTS_LOCK_LOST.patch 24 :: (eyePatches ++ portPatches ++ Cnt.LN_LOCK_LOSSES.patches)

/-- A departure from LOCKED counted. -/
def State.lockLost (s : State) (l : Nat) (loss : Bool) : State := if loss then (s.bump Cnt.LN_LOCK_LOSSES l).set Reg.LN_EVENTS_LOCK_LOST 1 l else s

theorem leaveLocked_eq (s : State) (l new : Nat) (loss : Bool) : s.leaveLocked l new loss = (((((s.unlockedFigures l).measureLost l).dropMarkers l).lockLost l loss).set Reg.LN_STATUS_RX_STATE new l).checkPorts := rfl

def lockLostPatches : List Patch := Reg.LN_EVENTS_LOCK_LOST.patch 24 :: Cnt.LN_LOCK_LOSSES.patches

theorem lockLost_touch (s : State) {l : Nat} (hl : l < 24) (loss : Bool) : Touch lockLostPatches s (s.lockLost l loss) := by
  unfold State.lockLost
  exact .ite (fun _ => ((Touch.refl _ s).bumpRow hl (by decide)).setRow hl (by decide)) fun _ => .refl _ s

theorem lockLost_counts (s : State) {l : Nat} (hl : l < 24) : Counted Cnt.LN_LOCK_LOSSES l 0 1 s (s.lockLost l true) ∧ (s.lockLost l true).flag Reg.LN_EVENTS_LOCK_LOST l = true :=
  ⟨((Touch.refl [Reg.LN_EVENTS_LOCK_LOST.patch 24] _).setRow hl (by decide)).counted (counted_bump s _ _ _ _ (.inl rfl)) hl (by decide), flag_set_self _ _ _ _ _ (by decide)⟩

/-- What a LOCKED receiver shows once it has gone to the state `new`. -/
structure Unlocked (s t : State) (l new : Nat) (loss : Bool) : Prop where
  touch : Touch unlockPatches s t
  state : t.rxState l = new
  snr : t.get Reg.LN_FOM_SNR l = 0xFFFF
  counted : loss = true → Counted Cnt.LN_LOCK_LOSSES l 0 1 s t
  event : loss = true → t.flag Reg.LN_EVENTS_LOCK_LOST l = true

theorem leaveLocked_shows (s : State) {l : Nat} (hl : l < 24) {new : Nat} (hnew : new < 8) (loss : Bool) : Unlocked s (s.leaveLocked l new loss) l new loss := by
  rw [leaveLocked_eq]
  obtain ⟨hfig, hsnr⟩ := unlockedFigures_shows s hl
  generalize s.unlockedFigures l = v1 at hfig hsnr
  have h2 : Touch [portWord] v1 ((v1.measureLost l).dropMarkers l) := (measureLost_touch _ v1 l).trans (dropMarkers_touch _ l)
  generalize (v1.measureLost l).dropMarkers l = v2 at h2
  have h3 := lockLost_touch v2 hl loss
  have hcount : loss = true → Counted Cnt.LN_LOCK_LOSSES l 0 1 v2 (v2.lockLost l loss) ∧ (v2.lockLost l loss).flag Reg.LN_EVENTS_LOCK_LOST l = true := fun h => by
    rw [h]
    exact lockLost_counts v2 hl
  generalize v2.lockLost l loss = v3 at h3 hcount
  have h4 : Touch [Reg.LN_STATUS_RX_STATE.patch 24] v3 (v3.set Reg.LN_STATUS_RX_STATE new l) := (Touch.refl _ v3).setRow hl (by decide)
  have hstate : (v3.set Reg.LN_STATUS_RX_STATE new l).get Reg.LN_STATUS_RX_STATE l = new := (get_set_self _ _ _ _ _ (by decide)).trans (Nat.mod_eq_of_lt hnew)
  generalize v3.set Reg.LN_STATUS_RX_STATE new l = v4 at h4 hstate
  have h5 := checkPorts_touch v4
  exact {
    touch := (((((hfig.mono (by decide)).andThen h2 (by decide)).andThen h3 (by decide)).andThen h4 (by decide)).andThen h5 (by decide))
    state := (h5.getRow (n := 24) _ hl (by decide)).trans hstate
    snr := by rw [h5.getRow (n := 24) _ hl (by decide), h4.getRow (n := 24) _ hl (by decide), h3.getRow (n := 24) _ hl (by decide), h2.getRow (n := 24) _ hl (by decide), hsnr]
    counted := fun h => h5.counted (h4.counted (hfig.counted_of (h2.counted_of (hcount h).1 hl (by decide)) hl (by decide)) hl (by decide)) hl (by decide)
    event := fun h => by rw [h5.flagRow (n := 24) _ hl (by decide), h4.flagRow (n := 24) _ hl (by decide), (hcount h).2] }

theorem Unlocked.after {s t u : State} {l new : Nat} {loss : Bool} (h : Unlocked s t l new loss) (hl : l < 24) (k : Touch [] t u) : Unlocked s u l new loss where
  touch := h.touch.andThen k (by decide)
  state := (k.getRow (n := 24) _ hl (by decide)).trans h.state
  snr := (k.getRow (n := 24) _ hl (by decide)).trans h.snr
  counted := fun hloss => k.counted (h.counted hloss) hl (by decide)
  event := fun hloss => (k.flagRow (n := 24) _ hl (by decide)).trans (h.event hloss)

/-- A receiver that begins to adapt notes the time. -/
def State.adapting (s : State) (l new at_ : Nat) : State := if new = 2 then s.setLane l { s.lane l with adaptAt := at_ } else s

theorem toRx_eq (s : State) (l new : Nat) (loss : Bool) :
    s.toRx l new loss = (if s.rxState l = 3 && new ≠ 3 then s.leaveLocked l new loss else s.set Reg.LN_STATUS_RX_STATE new l).adapting l new s.clock := rfl

theorem adapting_touch (m : List Patch) (s : State) (l new at_ : Nat) : Touch m s (s.adapting l new at_) := by
  unfold State.adapting
  exact .ite (fun _ => .of_regs rfl) fun _ => .refl _ s

/-- A receiver that is LOCKED goes to another state. -/
theorem toRx_locked (s : State) {l : Nat} (hl : l < 24) {new : Nat} (hnew : new < 8) (hne : new ≠ 3) (loss : Bool) (hlocked : s.rxState l = 3) : Unlocked s (s.toRx l new loss) l new loss := by
  rw [toRx_eq, if_pos (by simp [hlocked, hne])]
  exact (leaveLocked_shows s hl hnew loss).after hl (adapting_touch _ _ _ _ _)

/-- A receiver that is not LOCKED goes to another state. -/
theorem toRx_free (s : State) {l : Nat} (hl : l < 24) {new : Nat} (hnew : new < 8) (loss : Bool) (hfree : s.rxState l ≠ 3) :
    Touch [Reg.LN_STATUS_RX_STATE.patch 24] s (s.toRx l new loss) ∧ (s.toRx l new loss).rxState l = new := by
  rw [toRx_eq, if_neg (by simp [hfree])]
  have hset : Touch [Reg.LN_STATUS_RX_STATE.patch 24] s (s.set Reg.LN_STATUS_RX_STATE new l) := (Touch.refl _ s).setRow hl (by decide)
  have hstate : (s.set Reg.LN_STATUS_RX_STATE new l).get Reg.LN_STATUS_RX_STATE l = new := (get_set_self _ _ _ _ _ (by decide)).trans (Nat.mod_eq_of_lt hnew)
  generalize s.set Reg.LN_STATUS_RX_STATE new l = v at hset hstate
  have hadapt := adapting_touch [] v l new s.clock
  exact ⟨hset.andThen hadapt (by decide), (hadapt.getRow (n := 24) _ hl (by decide)).trans hstate⟩

theorem toRx_touch (s : State) {l : Nat} (hl : l < 24) {new : Nat} (hnew : new < 8) (hne : new ≠ 3) (loss : Bool) : Touch unlockPatches s (s.toRx l new loss) := by
  by_cases hlocked : s.rxState l = 3
  · exact (toRx_locked s hl hnew hne loss hlocked).touch
  · exact (toRx_free s hl hnew loss hlocked).1.mono (by decide)

theorem toRx_adaptAt (s : State) (l : Nat) (loss : Bool) : ((s.toRx l 2 loss).lane l).adaptAt = s.clock := by
  rw [toRx_eq]
  generalize (if s.rxState l = 3 && 2 ≠ 3 then s.leaveLocked l 2 loss else s.set Reg.LN_STATUS_RX_STATE 2 l) = v
  exact congrArg Lane.adaptAt (lane_setLane v l _)

/-! ### A lane's receiver (R576–R578, R803) -/

/-- Two changes of one word only. -/
theorem regsKept_word {s t u : State} {a : Nat} (h : ∀ b, b ≠ a → t.reg b = s.reg b) (k : ∀ b, b ≠ a → u.reg b = t.reg b) : RegsKept [a] s u := fun b hb _ =>
  (k b (by simpa using hb)).trans (h b (by simpa using hb))

/-- A receiver that is not LOCKED changes one word. -/
theorem toRx_word (s : State) (l new : Nat) (loss : Bool) (hfree : s.rxState l ≠ 3) {a : Nat} (ha : a ≠ Reg.LN_STATUS_RX_STATE.addr l 0) : (s.toRx l new loss).reg a = s.reg a := by
  have hadapt : ∀ v : State, (v.adapting l new s.clock).regs = v.regs := fun v => by
    unfold State.adapting
    split <;> rfl
  rw [toRx_eq, if_neg (by simp [hfree])]
  exact (congrFun (congrArg (fun r => State.reg { s with regs := r }) (hadapt _)) a).trans (reg_set_ne s _ _ _ _ ha)

theorem lane_signal_detect (l : Fin 24) (s : State) (hlive : s.laneLive l.val = true) (hst : s.rxState l.val = 1) :
    ∃ t, exec (.laneSignalDetect l) s = .next t ∧ t.rxState l.val = 2 ∧ t.flag Reg.LN_STATUS_SIG_DET l.val = true ∧
      (t.lane l.val).adaptAt = s.clock ∧ RegsKept [Reg.LN_STATUS_RX_STATE.addr l.val 0] s t := by
  show ∃ t, execLaneSignalDetect l s = _ ∧ _
  unfold execLaneSignalDetect
  dsimp only
  rw [if_pos (by simp [hlive, hst])]
  have hsig : (s.set Reg.LN_STATUS_SIG_DET 1 l.val).flag Reg.LN_STATUS_SIG_DET l.val = true := flag_set_self _ _ _ _ _ (by decide)
  have hword : ∀ a, a ≠ Reg.LN_STATUS_RX_STATE.addr l.val 0 → (s.set Reg.LN_STATUS_SIG_DET 1 l.val).reg a = s.reg a := fun a ha => reg_set_ne s _ _ _ _ ha
  have hstate : (s.set Reg.LN_STATUS_SIG_DET 1 l.val).rxState l.val ≠ 3 := by
    have h : (s.set Reg.LN_STATUS_SIG_DET 1 l.val).rxState l.val = s.rxState l.val := get_set_ne _ _ _ _ _ _ _ _ (by decide) (.inr (by decide))
    rw [h, hst]
    decide
  have hclock : (s.set Reg.LN_STATUS_SIG_DET 1 l.val).clock = s.clock := rfl
  generalize s.set Reg.LN_STATUS_SIG_DET 1 l.val = v at hsig hword hstate hclock
  obtain ⟨hto, htwo⟩ := toRx_free v l.isLt (new := 2) (by decide) false hstate
  refine done_then fun t he _ => ⟨?_, ?_, ?_, fun a ha hq => ?_⟩
  · exact (he.touch.getRow (n := 24) _ l.isLt (by decide)).trans htwo
  · rw [he.touch.flagRow (n := 24) _ l.isLt (by decide), hto.flagRow (n := 24) _ l.isLt (by decide), hsig]
  · rw [he.lane, toRx_adaptAt, hclock]
  · have hne : a ≠ Reg.LN_STATUS_RX_STATE.addr l.val 0 := by simpa using ha
    rw [he.kept a List.not_mem_nil hq, toRx_word v _ _ _ hstate hne, hword a hne]

theorem lane_signal_lost (l : Fin 24) (s : State) (hlive : s.laneLive l.val = true) (hlocked : s.rxState l.val = 3) (hloop : s.looped l.val = false) :
    ∃ t, exec (.laneSignalLoss l) s = .next t ∧ t.rxState l.val = 1 ∧ t.flag Reg.LN_STATUS_SIG_DET l.val = false ∧
      Counted Cnt.LN_LOCK_LOSSES l.val 0 1 s t ∧ t.flag Reg.LN_EVENTS_LOCK_LOST l.val = true ∧ t.get Reg.LN_FOM_SNR l.val = 0xFFFF := by
  show ∃ t, execLaneSignalLoss l s = _ ∧ _
  unfold execLaneSignalLoss
  dsimp only
  rw [if_pos (by simp [hlive, hlocked, hloop])]
  have hset : Touch [Reg.LN_STATUS_SIG_DET.patch 24] s (s.set Reg.LN_STATUS_SIG_DET 0 l.val) := (Touch.refl _ s).setRow l.isLt (by decide)
  have hsig : (s.set Reg.LN_STATUS_SIG_DET 0 l.val).flag Reg.LN_STATUS_SIG_DET l.val = false := by
    rw [flag_set_self _ _ _ _ _ (by decide)]
    rfl
  generalize s.set Reg.LN_STATUS_SIG_DET 0 l.val = v at hset hsig
  have hv := toRx_locked v l.isLt (new := 1) (by decide) (by decide) true ((hset.getRow (n := 24) _ l.isLt (by decide)).trans hlocked)
  refine done_then fun t he _ => ?_
  have ht := hv.after l.isLt he.touch
  refine ⟨ht.state, ?_, hset.counted_of (ht.counted rfl) l.isLt (by decide), ht.event rfl, ht.snr⟩
  rw [ht.touch.flagRow (n := 24) _ l.isLt (by decide), hsig]

theorem lane_signal_lost_adapting (l : Fin 24) (s : State) (hlive : s.laneLive l.val = true) (hst : s.rxState l.val = 2) (hloop : s.looped l.val = false) :
    ∃ t, exec (.laneSignalLoss l) s = .next t ∧ t.rxState l.val = 1 ∧ t.flag Reg.LN_STATUS_SIG_DET l.val = false ∧ RegsKept [Reg.LN_STATUS_RX_STATE.addr l.val 0] s t := by
  show ∃ t, execLaneSignalLoss l s = _ ∧ _
  unfold execLaneSignalLoss
  dsimp only
  rw [if_pos (by simp [hlive, hst, hloop])]
  have hset : Touch [Reg.LN_STATUS_SIG_DET.patch 24] s (s.set Reg.LN_STATUS_SIG_DET 0 l.val) := (Touch.refl _ s).setRow l.isLt (by decide)
  have hsig : (s.set Reg.LN_STATUS_SIG_DET 0 l.val).flag Reg.LN_STATUS_SIG_DET l.val = false := by
    rw [flag_set_self _ _ _ _ _ (by decide)]
    rfl
  have hword : ∀ a, a ≠ Reg.LN_STATUS_RX_STATE.addr l.val 0 → (s.set Reg.LN_STATUS_SIG_DET 0 l.val).reg a = s.reg a := fun a ha => reg_set_ne s _ _ _ _ ha
  generalize s.set Reg.LN_STATUS_SIG_DET 0 l.val = v at hset hsig hword
  have hfree : v.rxState l.val ≠ 3 := by
    have h : v.rxState l.val = s.rxState l.val := hset.getRow (n := 24) _ l.isLt (by decide)
    rw [h, hst]
    decide
  obtain ⟨hto, hone⟩ := toRx_free v l.isLt (new := 1) (by decide) true hfree
  refine done_then fun t he _ => ⟨?_, ?_, fun a ha hq => ?_⟩
  · exact (he.touch.getRow (n := 24) _ l.isLt (by decide)).trans hone
  · rw [he.touch.flagRow (n := 24) _ l.isLt (by decide), hto.flagRow (n := 24) _ l.isLt (by decide), hsig]
  · have hne : a ≠ Reg.LN_STATUS_RX_STATE.addr l.val 0 := by simpa using ha
    rw [he.kept a List.not_mem_nil hq, toRx_word v _ _ _ hfree hne, hword a hne]

theorem lane_lock_loss (l : Fin 24) (s : State) (hlive : s.laneLive l.val = true) (hlocked : s.rxState l.val = 3) :
    ∃ t, exec (.laneLockLoss l) s = .next t ∧ t.rxState l.val = 2 ∧ Counted Cnt.LN_LOCK_LOSSES l.val 0 1 s t ∧
      t.flag Reg.LN_EVENTS_LOCK_LOST l.val = true ∧ t.get Reg.LN_FOM_SNR l.val = 0xFFFF ∧ (t.lane l.val).adaptAt = s.clock := by
  show ∃ t, execLaneLockLoss l s = _ ∧ _
  unfold execLaneLockLoss
  dsimp only
  rw [if_pos (by simp [hlive, hlocked])]
  refine done_then fun t he _ => ?_
  have ht := (toRx_locked s l.isLt (new := 2) (by decide) (by decide) true hlocked).after l.isLt he.touch
  exact ⟨ht.state, ht.counted rfl, ht.event rfl, ht.snr, by rw [he.lane, toRx_adaptAt]⟩

theorem lane_adapt_fail (l : Fin 24) (s : State) (hlive : s.laneLive l.val = true) (hst : s.rxState l.val = 2) (hlong : (s.lane l.val).adaptAt + 299000000 ≤ s.clock) :
    ∃ t, exec (.laneAdaptFail l) s = .next t ∧ t.rxState l.val = 2 ∧ Counted Cnt.ADAPT_FAILS l.val 0 1 s t ∧ t.lane l.val = { s.lane l.val with adaptAt := s.clock, taps := none } := by
  have hcond : ¬(!s.laneLive l.val || decide (s.rxState l.val ≠ 2) || decide (s.clock < (s.lane l.val).adaptAt + msT 23)) = true := by
    have h : msT 23 = 299000000 := rfl
    simp [hlive, hst, h, hlong]
  show ∃ t, execLaneAdaptFail l s = _ ∧ _
  unfold execLaneAdaptFail
  dsimp only
  rw [if_neg hcond]
  have hb : Touch Cnt.ADAPT_FAILS.patches s (s.bump Cnt.ADAPT_FAILS l.val) := (Touch.refl _ s).bumpRow l.isLt (by decide)
  have hcount : Counted Cnt.ADAPT_FAILS l.val 0 1 s (s.bump Cnt.ADAPT_FAILS l.val) := counted_bump _ _ _ _ _ (.inl rfl)
  generalize s.bump Cnt.ADAPT_FAILS l.val = v at hb hcount
  have hset := setLane_touch [] v l.val { s.lane l.val with adaptAt := s.clock, taps := none }
  refine done_then fun t he _ => ⟨?_, he.touch.counted (hset.counted hcount l.isLt (by decide)) l.isLt (by decide), ?_⟩
  · exact (he.touch.getRow (n := 24) _ l.isLt (by decide)).trans ((hset.getRow (n := 24) _ l.isLt (by decide)).trans ((hb.getRow (n := 24) _ l.isLt (by decide)).trans hst))
  · rw [he.lane, lane_setLane]

/-- The eyes of a lane that has locked. -/
def State.eyesShown (s : State) (l : Nat) (pam : Bool) (low mid high : Nat) : State :=
  if pam then ((s.set Reg.LN_EYE_EYE_MID mid l).set Reg.LN_EYE_EYE_LO low l).set Reg.LN_EYE_EYE_HI high l else s.set Reg.LN_EYE_EYE_MID mid l

def eyeOnlyPatches : List Patch := [Reg.LN_EYE_EYE_LO.patch 24, Reg.LN_EYE_EYE_MID.patch 24, Reg.LN_EYE_EYE_HI.patch 24]

theorem eyesShown_shows (s : State) {l : Nat} (hl : l < 24) (pam : Bool) {low mid high : Nat} (hlow : low < 1024) (hmid : mid < 1024) (hhigh : high < 1024) :
    Touch eyeOnlyPatches s (s.eyesShown l pam low mid high) ∧ (s.eyesShown l pam low mid high).get Reg.LN_EYE_EYE_MID l = mid ∧
      (pam = true → (s.eyesShown l pam low mid high).get Reg.LN_EYE_EYE_LO l = low ∧ (s.eyesShown l pam low mid high).get Reg.LN_EYE_EYE_HI l = high) := by
  have h1 : Touch eyeOnlyPatches s (s.set Reg.LN_EYE_EYE_MID mid l) := (Touch.refl _ s).setRow hl (by decide)
  have hm : (s.set Reg.LN_EYE_EYE_MID mid l).get Reg.LN_EYE_EYE_MID l = mid := (get_set_self _ _ _ _ _ (by decide)).trans (Nat.mod_eq_of_lt hmid)
  unfold State.eyesShown
  generalize s.set Reg.LN_EYE_EYE_MID mid l = v at h1 hm
  cases pam with
  | false => exact ⟨h1, hm, nofun⟩
  | true =>
    rw [if_pos rfl]
    have h2 : Touch [Reg.LN_EYE_EYE_LO.patch 24] v (v.set Reg.LN_EYE_EYE_LO low l) := (Touch.refl _ v).setRow hl (by decide)
    have hlo : (v.set Reg.LN_EYE_EYE_LO low l).get Reg.LN_EYE_EYE_LO l = low := (get_set_self _ _ _ _ _ (by decide)).trans (Nat.mod_eq_of_lt hlow)
    generalize v.set Reg.LN_EYE_EYE_LO low l = v2 at h2 hlo
    have h3 : Touch [Reg.LN_EYE_EYE_HI.patch 24] v2 (v2.set Reg.LN_EYE_EYE_HI high l) := (Touch.refl _ v2).setRow hl (by decide)
    refine ⟨(h1.andThen h2 (by decide)).andThen h3 (by decide), ?_, fun _ => ⟨?_, ?_⟩⟩
    · rw [h3.getRow (n := 24) _ hl (by decide), h2.getRow (n := 24) _ hl (by decide), hm]
    · rw [h3.getRow (n := 24) _ hl (by decide), hlo]
    · exact (get_set_self _ _ _ _ _ (by decide)).trans (Nat.mod_eq_of_lt hhigh)

/-- A lane that has just locked. -/
def State.lockGained (s : State) (l now : Nat) : State := ((s.setXqLock l true).free 574).2.setLane l { ((s.setXqLock l true).free 574).2.lane l with goodAt := now, ctleAt := now, taps := some ((s.setXqLock l true).free 574).1 }

theorem lockGained_touch (s : State) (l now : Nat) : Touch [Reg.XQ_STATUS_HOST_LOCK.patch, Reg.XQ_STATUS_MEDIA_LOCK.patch] s (s.lockGained l now) := by
  have h := setXqLock_touch (m := [Reg.XQ_STATUS_HOST_LOCK.patch, Reg.XQ_STATUS_MEDIA_LOCK.patch]) s l true (by decide)
  unfold State.lockGained
  generalize s.setXqLock l true = v at h
  exact h.same rfl

theorem lockGained_taps (s : State) (l now : Nat) : ((s.lockGained l now).lane l).taps.isSome = true := by
  unfold State.lockGained
  rw [lane_setLane]
  rfl

theorem execLaneAdaptLock_eq (l : Fin 24) (snr : Fin 65536) (low mid high : Fin 1024) (s : State) : execLaneAdaptLock l snr low mid high s =
    if !s.laneLive l.val || s.rxState l.val ≠ 2 || snr.val < (if !nrz (s.laneRate l.val) then 1400 else 1000) then .next s
    else done s (((((s.set Reg.LN_STATUS_RX_STATE 3 l.val).set Reg.LN_EVENTS_LOCK_GAINED 1 l.val).set Reg.LN_FOM_SNR snr.val l.val).eyesShown l.val (!nrz (s.laneRate l.val)) low.val mid.val high.val).lockGained l.val s.clock) := rfl

theorem lane_adapt_lock (l : Fin 24) (snr : Fin 65536) (low mid high : Fin 1024) (s : State) (hlive : s.laneLive l.val = true) (hst : s.rxState l.val = 2)
    (henough : (if nrz (s.laneRate l.val) then 1000 else 1400) ≤ snr.val) :
    ∃ t, exec (.laneAdaptLock l snr low mid high) s = .next t ∧ t.rxState l.val = 3 ∧ t.flag Reg.LN_EVENTS_LOCK_GAINED l.val = true ∧ (t.lane l.val).taps.isSome = true ∧
      t.get Reg.LN_FOM_SNR l.val = snr.val ∧ t.get Reg.LN_EYE_EYE_MID l.val = mid.val ∧
      (nrz (s.laneRate l.val) = false → t.get Reg.LN_EYE_EYE_LO l.val = low.val ∧ t.get Reg.LN_EYE_EYE_HI l.val = high.val) := by
  have hcond : ¬(!s.laneLive l.val || decide (s.rxState l.val ≠ 2) || decide (snr.val < (if !nrz (s.laneRate l.val) then 1400 else 1000))) = true := by
    cases hn : nrz (s.laneRate l.val) <;> simpa [hn, hlive, hst] using henough
  show ∃ t, execLaneAdaptLock l snr low mid high s = _ ∧ _
  rw [execLaneAdaptLock_eq, if_neg hcond]
  have hthree : (s.set Reg.LN_STATUS_RX_STATE 3 l.val).rxState l.val = 3 := get_set_self _ _ _ _ _ (by decide)
  generalize s.set Reg.LN_STATUS_RX_STATE 3 l.val = v1 at hthree
  have h2 : Touch [Reg.LN_EVENTS_LOCK_GAINED.patch 24] v1 (v1.set Reg.LN_EVENTS_LOCK_GAINED 1 l.val) := (Touch.refl _ v1).setRow l.isLt (by decide)
  have hev : (v1.set Reg.LN_EVENTS_LOCK_GAINED 1 l.val).flag Reg.LN_EVENTS_LOCK_GAINED l.val = true := flag_set_self _ _ _ _ _ (by decide)
  generalize v1.set Reg.LN_EVENTS_LOCK_GAINED 1 l.val = v2 at h2 hev
  have h3 : Touch [Reg.LN_FOM_SNR.patch 24] v2 (v2.set Reg.LN_FOM_SNR snr.val l.val) := (Touch.refl _ v2).setRow l.isLt (by decide)
  have hsnr : (v2.set Reg.LN_FOM_SNR snr.val l.val).get Reg.LN_FOM_SNR l.val = snr.val := (get_set_self _ _ _ _ _ (by decide)).trans (Nat.mod_eq_of_lt snr.isLt)
  generalize v2.set Reg.LN_FOM_SNR snr.val l.val = v3 at h3 hsnr
  obtain ⟨h4, hmid, hpam⟩ := eyesShown_shows v3 l.isLt (!nrz (s.laneRate l.val)) low.isLt mid.isLt high.isLt
  generalize v3.eyesShown l.val (!nrz (s.laneRate l.val)) low.val mid.val high.val = v4 at h4 hmid hpam
  have h5 := lockGained_touch v4 l.val s.clock
  have htaps := lockGained_taps v4 l.val s.clock
  generalize v4.lockGained l.val s.clock = v5 at h5 htaps
  refine done_then fun t he _ => ⟨?_, ?_, ?_, ?_, ?_, fun hn => ⟨?_, ?_⟩⟩
  · exact (he.touch.getRow (n := 24) _ l.isLt (by decide)).trans ((h5.getRow (n := 24) _ l.isLt (by decide)).trans ((h4.getRow (n := 24) _ l.isLt (by decide)).trans
      ((h3.getRow (n := 24) _ l.isLt (by decide)).trans ((h2.getRow (n := 24) _ l.isLt (by decide)).trans hthree))))
  · rw [he.touch.flagRow (n := 24) _ l.isLt (by decide), h5.flagRow (n := 24) _ l.isLt (by decide), h4.flagRow (n := 24) _ l.isLt (by decide), h3.flagRow (n := 24) _ l.isLt (by decide), hev]
  · rw [he.lane]
    exact htaps
  · rw [he.touch.getRow (n := 24) _ l.isLt (by decide), h5.getRow (n := 24) _ l.isLt (by decide), h4.getRow (n := 24) _ l.isLt (by decide), hsnr]
  · rw [he.touch.getRow (n := 24) _ l.isLt (by decide), h5.getRow (n := 24) _ l.isLt (by decide), hmid]
  · rw [he.touch.getRow (n := 24) _ l.isLt (by decide), h5.getRow (n := 24) _ l.isLt (by decide)]
    exact (hpam (by simp [hn])).1
  · rw [he.touch.getRow (n := 24) _ l.isLt (by decide), h5.getRow (n := 24) _ l.isLt (by decide)]
    exact (hpam (by simp [hn])).2

theorem clampTo_nat (lo hi x : Nat) (h : lo ≤ hi) : (clampTo (Int.ofNat lo, Int.ofNat hi) (Int.ofNat x)).toNat = max lo (min hi x) := by
  unfold clampTo
  simp
  omega

theorem ctle_adapting (l : Fin 24) (best : Fin 256) (lo hi : Nat) (s : State) (hlive : s.laneLive l.val = true) (hb : s.bounds 3 l.val = (Int.ofNat lo, Int.ofNat hi)) (hle : lo ≤ hi) (hhi : hi < 256)
    (hst : s.rxState l.val = 2) : ∃ t, exec (.ctleStep l best) s = .next t ∧ t.get Reg.LN_FOM_CTLE l.val = max lo (min hi best.val) := by
  have hgoal : (clampTo (s.bounds 3 l.val) (Int.ofNat best.val)).toNat = max lo (min hi best.val) := by rw [hb, clampTo_nat _ _ _ hle]
  show ∃ t, execCtleStep l best s = _ ∧ _
  unfold execCtleStep
  dsimp only
  rw [if_neg (by simp [hlive]), if_pos hst, hgoal]
  refine done_then fun t he _ => ?_
  rw [he.touch.getRow (n := 24) _ l.isLt (by decide), get_set_self _ _ _ _ _ (by decide)]
  exact Nat.mod_eq_of_lt (show max lo (min hi best.val) < 256 by omega)

theorem ctle_locked (l : Fin 24) (best : Fin 256) (lo hi : Nat) (s : State) (hlive : s.laneLive l.val = true) (hb : s.bounds 3 l.val = (Int.ofNat lo, Int.ofNat hi)) (hle : lo ≤ hi) (hhi : hi < 256)
    (hst : s.rxState l.val = 3) (hdue : (s.lane l.val).ctleAt + 1300000 ≤ s.clock) : ∃ t, exec (.ctleStep l best) s = .next t ∧ (t.lane l.val).ctleAt = s.clock ∧
      (s.get Reg.LN_FOM_CTLE l.val < max lo (min hi best.val) → t.get Reg.LN_FOM_CTLE l.val = s.get Reg.LN_FOM_CTLE l.val + 1) ∧
      (max lo (min hi best.val) < s.get Reg.LN_FOM_CTLE l.val → t.get Reg.LN_FOM_CTLE l.val + 1 = s.get Reg.LN_FOM_CTLE l.val) := by
  have hgoal : (clampTo (s.bounds 3 l.val) (Int.ofNat best.val)).toNat = max lo (min hi best.val) := by rw [hb, clampTo_nat _ _ _ hle]
  have hcond : (decide (s.rxState l.val = 3) && decide ((s.lane l.val).ctleAt + usT 100 ≤ s.clock)) = true := by
    have h : usT 100 = 1300000 := rfl
    simp [hst, h, hdue]
  have hlt : s.get Reg.LN_FOM_CTLE l.val < 256 := get_lt s _ _ _
  show ∃ t, execCtleStep l best s = _ ∧ _
  unfold execCtleStep
  dsimp only
  rw [if_neg (by simp [hlive]), if_neg (by rw [hst]; decide), if_pos hcond, hgoal]
  generalize hw : (if s.get Reg.LN_FOM_CTLE l.val < max lo (min hi best.val) then s.get Reg.LN_FOM_CTLE l.val + 1
    else if max lo (min hi best.val) < s.get Reg.LN_FOM_CTLE l.val then s.get Reg.LN_FOM_CTLE l.val - 1 else s.get Reg.LN_FOM_CTLE l.val) = w
  have hw256 : w < 256 := by split at hw <;> [skip; split at hw] <;> omega
  have hctle : ((s.clampCheck 3 l.val (Int.ofNat best.val)).set Reg.LN_FOM_CTLE w l.val).get Reg.LN_FOM_CTLE l.val = w :=
    (get_set_self _ _ _ _ _ (by decide)).trans (Nat.mod_eq_of_lt hw256)
  generalize (s.clampCheck 3 l.val (Int.ofNat best.val)).set Reg.LN_FOM_CTLE w l.val = v at hctle
  have hset := setLane_touch [] v l.val { s.lane l.val with ctleAt := s.clock }
  have hlane := lane_setLane v l.val { s.lane l.val with ctleAt := s.clock }
  generalize v.setLane l.val { s.lane l.val with ctleAt := s.clock } = u at hset hlane
  refine done_then fun t he _ => ?_
  have ht : t.get Reg.LN_FOM_CTLE l.val = w := (he.touch.getRow (n := 24) _ l.isLt (by decide)).trans ((hset.getRow (n := 24) _ l.isLt (by decide)).trans hctle)
  refine ⟨by rw [he.lane, hlane], fun hup => ?_, fun hdown => ?_⟩
  · rw [ht, ← hw, if_pos hup]
  · rw [ht, ← hw, if_neg (Nat.lt_asymm hdown), if_pos hdown]
    omega

/-! ### Ports and codewords (R581–R583) -/

theorem port_align (l : Fin 16) (skew : Fin 256) (p : Nat × List Nat) (s : State) (hp : s.portAt l.val = some p) (hno : s.flag Reg.PORT_STATUS_ALIGNED l.val = false)
    (hlocked : s.portLocked p = true) (hskew : skew.val ≤ 250) :
    ∃ t, exec (.portAlign l skew) s = .next t ∧ t.flag Reg.PORT_STATUS_ALIGNED l.val = true ∧ t.get Reg.PORT_STATUS_SKEW l.val = skew.val ∧
      RegsKept [Reg.PORT_STATUS_ALIGNED.addr l.val 0] s t := by
  have hcond : ¬(s.flag Reg.PORT_STATUS_ALIGNED l.val || !s.portLocked p || decide (250 < skew.val)) = true := by simp [hno, hlocked, hskew]
  show ∃ t, execPortAlign l skew s = _ ∧ _
  unfold execPortAlign
  dsimp only
  rw [hp]
  dsimp only
  rw [if_neg hcond]
  have hon : (s.set Reg.PORT_STATUS_ALIGNED 1 l.val).flag Reg.PORT_STATUS_ALIGNED l.val = true := flag_set_self _ _ _ _ _ (by decide)
  have hword : ∀ a, a ≠ Reg.PORT_STATUS_ALIGNED.addr l.val 0 → (s.set Reg.PORT_STATUS_ALIGNED 1 l.val).reg a = s.reg a := fun a ha => reg_set_ne s _ _ _ _ ha
  generalize s.set Reg.PORT_STATUS_ALIGNED 1 l.val = v at hon hword
  have hrestw : ∀ a, a ≠ Reg.PORT_STATUS_ALIGNED.addr l.val 0 → ((v.set Reg.PORT_STATUS_AM_LOCK (2 ^ p.2.length - 1) l.val).set Reg.PORT_STATUS_SKEW skew.val l.val).reg a = v.reg a :=
    fun a ha => (reg_set_ne (v.set Reg.PORT_STATUS_AM_LOCK (2 ^ p.2.length - 1) l.val) Reg.PORT_STATUS_SKEW skew.val l.val 0 ha).trans (reg_set_ne v Reg.PORT_STATUS_AM_LOCK _ _ _ ha)
  have hrest : Touch [Reg.PORT_STATUS_AM_LOCK.patch 16, Reg.PORT_STATUS_SKEW.patch 16] v ((v.set Reg.PORT_STATUS_AM_LOCK (2 ^ p.2.length - 1) l.val).set Reg.PORT_STATUS_SKEW skew.val l.val) :=
    ((Touch.refl _ v).setRow l.isLt (by decide)).setRow l.isLt (by decide)
  have hshown : ((v.set Reg.PORT_STATUS_AM_LOCK (2 ^ p.2.length - 1) l.val).set Reg.PORT_STATUS_SKEW skew.val l.val).get Reg.PORT_STATUS_SKEW l.val = skew.val :=
    (get_set_self _ _ _ _ _ (by decide)).trans (Nat.mod_eq_of_lt skew.isLt)
  generalize (v.set Reg.PORT_STATUS_AM_LOCK (2 ^ p.2.length - 1) l.val).set Reg.PORT_STATUS_SKEW skew.val l.val = w at hrest hrestw hshown
  refine done_then fun t he _ => ⟨?_, ?_, fun a ha hq => ?_⟩
  · rw [he.touch.flagRow (n := 16) _ l.isLt (by decide), hrest.flagRow (n := 16) _ l.isLt (by decide), hon]
  · rw [he.touch.getRow (n := 16) _ l.isLt (by decide), hshown]
  · have hne : a ≠ Reg.PORT_STATUS_ALIGNED.addr l.val 0 := by simpa using ha
    rw [he.kept a List.not_mem_nil hq, hrestw a hne, hword a hne]

theorem port_align_loss (l : Fin 16) (markers : BitVec 8) (skew : Fin 256) (p : Nat × List Nat) (s : State) (hp : s.portAt l.val = some p) (hon : s.flag Reg.PORT_STATUS_ALIGNED l.val = true)
    (hbad : markers.toNat % 2 ^ p.2.length + 1 ≠ 2 ^ p.2.length ∨ 250 < skew.val) :
    ∃ t, exec (.portAlignLoss l markers skew) s = .next t ∧ t.flag Reg.PORT_STATUS_ALIGNED l.val = false ∧ t.flag Reg.LN_EVENTS_ALIGN_LOST l.val = true ∧
      Counted Cnt.ALIGN_LOSSES l.val 0 1 s t := by
  have h24 : l.val < 24 := Nat.lt_trans l.isLt (by decide)
  have hcond : ¬(!s.flag Reg.PORT_STATUS_ALIGNED l.val || (decide (markers.toNat % 2 ^ p.2.length + 1 = 2 ^ p.2.length) && decide (skew.val ≤ 250))) = true := by
    rcases hbad with h | h
    · simp [hon, h]
    · simp [hon, Nat.not_le.mpr h]
  show ∃ t, execPortAlignLoss l markers skew s = _ ∧ _
  unfold execPortAlignLoss
  dsimp only
  rw [hp]
  dsimp only
  rw [if_neg hcond]
  generalize markers.toNat % 2 ^ p.2.length = m
  have h1 : Touch [Reg.PORT_STATUS_AM_LOCK.patch 16, Reg.PORT_STATUS_SKEW.patch 16] s ((s.set Reg.PORT_STATUS_AM_LOCK m l.val).set Reg.PORT_STATUS_SKEW skew.val l.val) :=
    ((Touch.refl _ s).setRow l.isLt (by decide)).setRow l.isLt (by decide)
  generalize (s.set Reg.PORT_STATUS_AM_LOCK m l.val).set Reg.PORT_STATUS_SKEW skew.val l.val = v at h1
  unfold State.alignLost
  have hoff : (v.set Reg.PORT_STATUS_ALIGNED 0 l.val).flag Reg.PORT_STATUS_ALIGNED l.val = false := by
    rw [flag_set_self _ _ _ _ _ (by decide)]
    rfl
  have h2 : Touch [Reg.PORT_STATUS_ALIGNED.patch 16] v (v.set Reg.PORT_STATUS_ALIGNED 0 l.val) := (Touch.refl _ v).setRow l.isLt (by decide)
  generalize v.set Reg.PORT_STATUS_ALIGNED 0 l.val = v2 at hoff h2
  have h3 : Touch [Reg.LN_EVENTS_ALIGN_LOST.patch 24] v2 (v2.set Reg.LN_EVENTS_ALIGN_LOST 1 l.val) := (Touch.refl _ v2).setRow h24 (by decide)
  have hev : (v2.set Reg.LN_EVENTS_ALIGN_LOST 1 l.val).flag Reg.LN_EVENTS_ALIGN_LOST l.val = true := flag_set_self _ _ _ _ _ (by decide)
  generalize v2.set Reg.LN_EVENTS_ALIGN_LOST 1 l.val = v3 at h3 hev
  have h4 : Touch Cnt.ALIGN_LOSSES.patches v3 (v3.bump Cnt.ALIGN_LOSSES l.val) := (Touch.refl _ v3).bumpRow h24 (by decide)
  have hcount : Counted Cnt.ALIGN_LOSSES l.val 0 1 v3 (v3.bump Cnt.ALIGN_LOSSES l.val) := counted_bump _ _ _ _ _ (.inl rfl)
  refine done_then fun t he _ => ⟨?_, ?_, ?_⟩
  · rw [he.touch.flagRow (n := 16) _ l.isLt (by decide), h4.flagRow (n := 16) _ l.isLt (by decide), h3.flagRow (n := 16) _ l.isLt (by decide), hoff]
  · rw [he.touch.flagRow (n := 24) _ h24 (by decide), h4.flagRow (n := 24) _ h24 (by decide), hev]
  · exact he.touch.counted (h1.counted_of (h2.counted_of (h3.counted_of hcount h24 (by decide)) h24 (by decide)) h24 (by decide)) h24 (by decide)

/-- What an outcome of a codeword counts behind RS_CW. -/
def State.countOutcome (s : State) (l : Nat) (x : Lane) (fixed : Option Nat) : State := match fixed with
  | none => (s.bump Cnt.RS_UNCORR l).setLane l { x with cws := x.cws + 1 }
  | some 0 => s.setLane l { x with cws := x.cws + 1 }
  | some n => ((s.bump Cnt.RS_CW_CORR l).bump Cnt.RS_SYMB_CORR l 0 n).setLane l { x with cws := x.cws + 1, symbs := x.symbs + n }

theorem countCodeword_eq (s : State) (l : Nat) (fixed : Option Nat) : s.countCodeword l fixed = (s.bump Cnt.RS_CW l).countOutcome l (s.lane l) fixed := by
  match fixed with
  | none => rfl
  | some 0 => rfl
  | some (n + 1) => rfl

def outcomePatches : List Patch := Cnt.RS_UNCORR.patches ++ Cnt.RS_CW_CORR.patches ++ Cnt.RS_SYMB_CORR.patches

/-- What a codeword of the outcome `fixed` counts. -/
structure CodewordCounted (s t : State) (l : Nat) (fixed : Option Nat) : Prop where
  all : Counted Cnt.RS_CW l 0 1 s t
  uncorr : fixed = none → Counted Cnt.RS_UNCORR l 0 1 s t
  corr : ∀ n, fixed = some n → 0 < n → Counted Cnt.RS_CW_CORR l 0 1 s t ∧ Counted Cnt.RS_SYMB_CORR l 0 n s t

theorem CodewordCounted.after {s t u : State} {l : Nat} {fixed : Option Nat} (h : CodewordCounted s t l fixed) (hl : l < 24) (k : Touch Cnt.LN_QUENCH_DISCARDS.patches t u) : CodewordCounted s u l fixed where
  all := k.counted h.all hl (by decide)
  uncorr := fun hf => k.counted (h.uncorr hf) hl (by decide)
  corr := fun n hf hn => ⟨k.counted (h.corr n hf hn).1 hl (by decide), k.counted (h.corr n hf hn).2 hl (by decide)⟩

theorem countCodeword_counts (s : State) {l : Nat} (hl : l < 24) (fixed : Option Nat) : CodewordCounted s (s.countCodeword l fixed) l fixed ∧ Touch (Cnt.RS_CW.patches ++ outcomePatches) s (s.countCodeword l fixed) := by
  have hb : Touch Cnt.RS_CW.patches s (s.bump Cnt.RS_CW l) := (Touch.refl _ s).bumpRow hl (by decide)
  have hcw : Counted Cnt.RS_CW l 0 1 s (s.bump Cnt.RS_CW l) := counted_bump _ _ _ _ _ (.inr rfl)
  rw [countCodeword_eq]
  generalize s.bump Cnt.RS_CW l = v at hb hcw
  match fixed with
  | none =>
    have h1 : Touch Cnt.RS_UNCORR.patches v (v.bump Cnt.RS_UNCORR l) := (Touch.refl _ v).bumpRow hl (by decide)
    have hun : Counted Cnt.RS_UNCORR l 0 1 v (v.bump Cnt.RS_UNCORR l) := counted_bump _ _ _ _ _ (.inl rfl)
    show CodewordCounted s ((v.bump Cnt.RS_UNCORR l).setLane l _) l none ∧ Touch _ s ((v.bump Cnt.RS_UNCORR l).setLane l _)
    generalize v.bump Cnt.RS_UNCORR l = w at h1 hun
    have h2 := setLane_touch [] w l { s.lane l with cws := (s.lane l).cws + 1 }
    exact ⟨⟨h2.counted (h1.counted hcw hl (by decide)) hl (by decide), fun _ => h2.counted (hb.counted_of hun hl (by decide)) hl (by decide), nofun⟩,
      ((hb.mono (by decide)).andThen h1 (by decide)).andThen h2 (by decide)⟩
  | some 0 =>
    have h2 := setLane_touch [] v l { s.lane l with cws := (s.lane l).cws + 1 }
    exact ⟨⟨h2.counted hcw hl (by decide), nofun, fun n hn hpos => absurd hpos (by rw [← Option.some.inj hn]; decide)⟩, (hb.mono (by decide)).andThen h2 (by decide)⟩
  | some (n + 1) =>
    have h1 : Touch Cnt.RS_CW_CORR.patches v (v.bump Cnt.RS_CW_CORR l) := (Touch.refl _ v).bumpRow hl (by decide)
    have hcorr : Counted Cnt.RS_CW_CORR l 0 1 v (v.bump Cnt.RS_CW_CORR l) := counted_bump _ _ _ _ _ (.inr rfl)
    show CodewordCounted s (((v.bump Cnt.RS_CW_CORR l).bump Cnt.RS_SYMB_CORR l 0 (n + 1)).setLane l _) l (some (n + 1)) ∧ Touch _ s (((v.bump Cnt.RS_CW_CORR l).bump Cnt.RS_SYMB_CORR l 0 (n + 1)).setLane l _)
    generalize v.bump Cnt.RS_CW_CORR l = v2 at h1 hcorr
    have h2 : Touch Cnt.RS_SYMB_CORR.patches v2 (v2.bump Cnt.RS_SYMB_CORR l 0 (n + 1)) := (Touch.refl _ v2).bumpRow hl (by decide)
    have hsym : Counted Cnt.RS_SYMB_CORR l 0 (n + 1) v2 (v2.bump Cnt.RS_SYMB_CORR l 0 (n + 1)) := counted_bump _ _ _ _ _ (.inr rfl)
    generalize v2.bump Cnt.RS_SYMB_CORR l 0 (n + 1) = w at h2 hsym
    have h3 := setLane_touch [] w l { s.lane l with cws := (s.lane l).cws + 1, symbs := (s.lane l).symbs + (n + 1) }
    refine ⟨⟨h3.counted (h2.counted (h1.counted hcw hl (by decide)) hl (by decide)) hl (by decide), nofun, fun m hm _ => ?_⟩,
      (((hb.mono (by decide)).andThen h1 (by decide)).andThen h2 (by decide)).andThen h3 (by decide)⟩
    rw [← Option.some.inj hm]
    exact ⟨h3.counted (h2.counted (hb.counted_of hcorr hl (by decide)) hl (by decide)) hl (by decide), h3.counted (hb.counted_of (h1.counted_of hsym hl (by decide)) hl (by decide)) hl (by decide)⟩

theorem countCodeword_lane (s : State) (l : Nat) (fixed : Option Nat) : (s.countCodeword l fixed).lane l = { s.lane l with cws := (s.lane l).cws + 1, symbs := (s.lane l).symbs + fixed.getD 0 } := by
  rw [countCodeword_eq]
  match fixed with
  | none => exact lane_setLane _ l _
  | some 0 => exact lane_setLane _ l _
  | some (n + 1) => exact lane_setLane _ l _

theorem execRsCodewordRx_eq (l : Fin 16) (fixed : Option (Fin 16)) {s : State} (hfi : s.fiAt 3 l.val = none) : execRsCodewordRx l fixed s =
    if !(if s.orphanLane l.val then s.rxState l.val == 3 else s.flag Reg.PORT_STATUS_ALIGNED l.val && (s.portAt l.val).isSome) || 8192 ≤ (s.lane l.val).cws then .next s
    else done s (if s.running 4 l.val || !(List.range 256).any (fun t => s.get Reg.TN_CLIENT_KIND t == 1 && (s.clientLanesOf t).contains l.val) then s.countCodeword l.val (fixed.map Fin.val)
      else (s.countCodeword l.val (fixed.map Fin.val)).quenchDiscards 4 l.val 80) := by
  unfold execRsCodewordRx
  dsimp only
  rw [fiUnit_pass hfi]

theorem rs_codeword (l : Fin 16) (fixed : Option (Fin 16)) (s : State)
    (hready : if s.orphanLane l.val then s.rxState l.val = 3 else s.flag Reg.PORT_STATUS_ALIGNED l.val = true ∧ (s.portAt l.val).isSome = true)
    (hfi : s.fiAt 3 l.val = none) (hcws : (s.lane l.val).cws < 8192) :
    ∃ t, exec (.rsCodewordRx l fixed) s = .next t ∧ Counted Cnt.RS_CW l.val 0 1 s t ∧ (t.lane l.val).cws = (s.lane l.val).cws + 1 ∧
      (fixed = none → Counted Cnt.RS_UNCORR l.val 0 1 s t) ∧
      (s.running 4 l.val = false → ∀ tn, tn < 256 → s.get Reg.TN_CLIENT_KIND tn = 1 → l.val ∈ s.clientLanesOf tn → Counted Cnt.LN_QUENCH_DISCARDS l.val 0 80 s t) ∧
      (∀ n : Fin 16, fixed = some n → 0 < n.val → Counted Cnt.RS_CW_CORR l.val 0 1 s t ∧ Counted Cnt.RS_SYMB_CORR l.val 0 n.val s t ∧
        (t.lane l.val).symbs = (s.lane l.val).symbs + n.val) := by
  have h24 : l.val < 24 := Nat.lt_trans l.isLt (by decide)
  have hcond : ¬(!(if s.orphanLane l.val then s.rxState l.val == 3 else s.flag Reg.PORT_STATUS_ALIGNED l.val && (s.portAt l.val).isSome) || decide (8192 ≤ (s.lane l.val).cws)) = true := by
    have hlt : decide (8192 ≤ (s.lane l.val).cws) = false := by simp [hcws]
    rw [hlt, Bool.or_false]
    by_cases ho : s.orphanLane l.val = true
    · rw [if_pos ho] at hready
      rw [if_pos ho, hready]
      decide
    · rw [if_neg ho] at hready
      rw [if_neg ho, hready.1, hready.2]
      decide
  obtain ⟨hcounts, htouch⟩ := countCodeword_counts s h24 (fixed.map Fin.val)
  have hlane := countCodeword_lane s l.val (fixed.map Fin.val)
  show ∃ t, execRsCodewordRx l fixed s = _ ∧ _
  rw [execRsCodewordRx_eq l fixed hfi, if_neg hcond]
  generalize s.countCodeword l.val (fixed.map Fin.val) = v at hcounts htouch hlane
  have hshows : ∀ t : State, CodewordCounted s t l.val (fixed.map Fin.val) → t.lane l.val = v.lane l.val → Counted Cnt.RS_CW l.val 0 1 s t ∧ (t.lane l.val).cws = (s.lane l.val).cws + 1 ∧
      (fixed = none → Counted Cnt.RS_UNCORR l.val 0 1 s t) ∧
      (∀ n : Fin 16, fixed = some n → 0 < n.val → Counted Cnt.RS_CW_CORR l.val 0 1 s t ∧ Counted Cnt.RS_SYMB_CORR l.val 0 n.val s t ∧ (t.lane l.val).symbs = (s.lane l.val).symbs + n.val) :=
    fun t hc hl => by
      rw [hl, hlane]
      refine ⟨hc.all, rfl, fun hn => hc.uncorr (by rw [hn]; rfl), fun n hn hpos => ?_⟩
      obtain ⟨hcorr, hsym⟩ := hc.corr n.val (by rw [hn]; rfl) hpos
      exact ⟨hcorr, hsym, by rw [hn]; rfl⟩
  by_cases hstop : (s.running 4 l.val || !(List.range 256).any (fun t => s.get Reg.TN_CLIENT_KIND t == 1 && (s.clientLanesOf t).contains l.val)) = true
  · rw [if_pos hstop]
    refine done_then fun t he _ => ?_
    obtain ⟨hall, hcw, hun, hcorr⟩ := hshows t (hcounts.after h24 (he.touch.mono (by decide))) (he.lane _)
    refine ⟨hall, hcw, hun, fun hrun tn htn hkind hmem => absurd hstop ?_, hcorr⟩
    have hany : (List.range 256).any (fun t => s.get Reg.TN_CLIENT_KIND t == 1 && (s.clientLanesOf t).contains l.val) = true :=
      List.any_eq_true.mpr ⟨tn, List.mem_range.mpr htn, by simp [hkind, hmem]⟩
    rw [hrun, hany]
    decide
  · rw [if_neg hstop, quenchDiscardsLane_regs]
    have hb : Touch Cnt.LN_QUENCH_DISCARDS.patches v (v.bump Cnt.LN_QUENCH_DISCARDS l.val 0 80) := (Touch.refl _ v).bumpRow h24 (by decide)
    have hdiscard : Counted Cnt.LN_QUENCH_DISCARDS l.val 0 80 v (v.bump Cnt.LN_QUENCH_DISCARDS l.val 0 80) := counted_bump _ _ _ _ _ (.inl rfl)
    have hsame : (v.bump Cnt.LN_QUENCH_DISCARDS l.val 0 80).lane l.val = v.lane l.val := ((RegsLogs.refl v).bump _ _ _ _).keeps (fun z => z.lane l.val) fun _ _ _ => rfl
    generalize v.bump Cnt.LN_QUENCH_DISCARDS l.val 0 80 = w at hb hdiscard hsame
    refine done_then fun t he _ => ?_
    obtain ⟨hall, hcw, hun, hcorr⟩ := hshows t ((hcounts.after h24 hb).after h24 (he.touch.mono (by decide))) ((he.lane _).trans hsame)
    exact ⟨hall, hcw, hun, fun _ _ _ _ _ => he.touch.counted (htouch.counted_of hdiscard h24 (by decide)) h24 (by decide), hcorr⟩

theorem hi_ser_window (l : Fin 16) (s : State) (hfull : 8192 ≤ (s.lane l.val).cws) :
    ∃ t, exec (.hiSerWindow l) s = .next t ∧ t.lane l.val = { s.lane l.val with cws := 0, symbs := 0 } ∧
      ((s.lane l.val).symbs ≤ s.get Reg.PORT_CFG_SER_THR l.val → t.flag Reg.PORT_STATUS_HI_SER l.val = false) ∧
      (s.get Reg.PORT_CFG_SER_THR l.val < (s.lane l.val).symbs → t.flag Reg.PORT_STATUS_HI_SER l.val = true ∧
        (s.flag Reg.PORT_STATUS_HI_SER l.val = false → Counted Cnt.HI_SER_EVENTS l.val 0 1 s t)) := by
  have h24 : l.val < 24 := Nat.lt_trans l.isLt (by decide)
  show ∃ t, execHiSerWindow l s = _ ∧ _
  unfold execHiSerWindow
  dsimp only
  rw [if_neg (Nat.not_lt.mpr hfull)]
  have hset := setLane_touch [] s l.val { s.lane l.val with cws := 0, symbs := 0 }
  have hlane := lane_setLane s l.val { s.lane l.val with cws := 0, symbs := 0 }
  generalize s.setLane l.val { s.lane l.val with cws := 0, symbs := 0 } = v at hset hlane
  by_cases hgood : (s.lane l.val).symbs ≤ s.get Reg.PORT_CFG_SER_THR l.val
  · rw [if_pos hgood]
    refine done_then fun t he _ => ⟨(he.lane _).trans hlane, fun _ => ?_, fun hbad => absurd hgood (Nat.not_le.mpr hbad)⟩
    rw [he.touch.flagRow (n := 16) _ l.isLt (by decide), flag_set_self _ _ _ _ _ (by decide)]
    rfl
  · rw [if_neg hgood]
    by_cases hon : s.flag Reg.PORT_STATUS_HI_SER l.val = true
    · rw [if_pos hon]
      refine done_then fun t he _ => ⟨(he.lane _).trans hlane, fun h => absurd h hgood, fun _ => ⟨?_, fun hoff => absurd hon (ne_true_of_eq_false hoff)⟩⟩
      rw [he.touch.flagRow (n := 16) _ l.isLt (by decide), hset.flagRow (n := 16) _ l.isLt (by decide), hon]
    · rw [if_neg hon]
      have hbit : (v.set Reg.PORT_STATUS_HI_SER 1 l.val).flag Reg.PORT_STATUS_HI_SER l.val = true := flag_set_self _ _ _ _ _ (by decide)
      have h1 : Touch [Reg.PORT_STATUS_HI_SER.patch 16] v (v.set Reg.PORT_STATUS_HI_SER 1 l.val) := (Touch.refl _ v).setRow l.isLt (by decide)
      have hl1 : (v.set Reg.PORT_STATUS_HI_SER 1 l.val).lane l.val = v.lane l.val := rfl
      generalize v.set Reg.PORT_STATUS_HI_SER 1 l.val = v1 at hbit h1 hl1
      have h2 : Touch Cnt.HI_SER_EVENTS.patches v1 (v1.bump Cnt.HI_SER_EVENTS l.val) := (Touch.refl _ v1).bumpRow h24 (by decide)
      have hcount : Counted Cnt.HI_SER_EVENTS l.val 0 1 v1 (v1.bump Cnt.HI_SER_EVENTS l.val) := counted_bump _ _ _ _ _ (.inl rfl)
      have hl2 : (v1.bump Cnt.HI_SER_EVENTS l.val).lane l.val = v1.lane l.val := ((RegsLogs.refl v1).bump _ _ _ _).keeps (fun z => z.lane l.val) fun _ _ _ => rfl
      generalize v1.bump Cnt.HI_SER_EVENTS l.val = v2 at h2 hcount hl2
      have h3 : Touch [Reg.LN_EVENTS_HI_SER.patch 24] v2 (v2.set Reg.LN_EVENTS_HI_SER 1 l.val) := (Touch.refl _ v2).setRow h24 (by decide)
      have hl3 : (v2.set Reg.LN_EVENTS_HI_SER 1 l.val).lane l.val = v2.lane l.val := rfl
      generalize v2.set Reg.LN_EVENTS_HI_SER 1 l.val = v3 at h3 hl3
      refine done_then fun t he _ => ⟨?_, fun h => absurd h hgood, fun _ => ⟨?_, fun _ => ?_⟩⟩
      · rw [he.lane, hl3, hl2, hl1, hlane]
      · rw [he.touch.flagRow (n := 16) _ l.isLt (by decide), h3.flagRow (n := 16) _ l.isLt (by decide), h2.flagRow (n := 16) _ l.isLt (by decide), hbit]
      · exact he.touch.counted (h3.counted (hset.counted_of (h1.counted_of hcount h24 (by decide)) h24 (by decide)) h24 (by decide)) h24 (by decide)

/-- Settles O55. -/
theorem lanesLockAndPortsAlign : Obligations.LanesLockAndPortsAlign := by
  unfold Obligations.LanesLockAndPortsAlign
  exact ⟨fun l s hlive => ⟨lane_signal_detect l s hlive, lane_signal_lost l s hlive, lane_signal_lost_adapting l s hlive, lane_lock_loss l s hlive, lane_adapt_fail l s hlive⟩, lane_adapt_lock,
    fun l best lo hi s hlive hb hle hhi => ⟨ctle_adapting l best lo hi s hlive hb hle hhi, ctle_locked l best lo hi s hlive hb hle hhi⟩, port_align, port_align_loss, rs_codeword, hi_ser_window⟩

end Sys2Proof.Machine
end

section
/-! SUPPORT. Lane power states and lane tests (O56) -/

namespace Sys2Proof.Machine

/-! ### What leaves the moves of lanes (R591–R593) -/

/-- The same moves of lanes under way, for the same mailboxes, at the same time. -/
structure MovesKept (s t : State) : Prop where
  mbs : t.mbs = s.mbs
  reqs : t.ln.reqs = s.ln.reqs
  moves : ∀ l, (t.lane l).move = (s.lane l).move
  clock : t.clock = s.clock

namespace MovesKept
variable {s t u : State}

theorem of_ln (hmbs : t.mbs = s.mbs) (hln : t.ln = s.ln) (hclock : t.clock = s.clock) : MovesKept s t where
  mbs := hmbs
  reqs := congrArg LaneState.reqs hln
  moves := fun l => congrArg (fun x : LaneState => (tget ({} : Lane) x.lanes l).move) hln
  clock := hclock

theorem refl (s : State) : MovesKept s s := of_ln rfl rfl rfl

theorem trans (h : MovesKept s t) (k : MovesKept t u) : MovesKept s u where
  mbs := k.mbs.trans h.mbs
  reqs := k.reqs.trans h.reqs
  moves := fun l => (k.moves l).trans (h.moves l)
  clock := k.clock.trans h.clock

theorem of_regsLogs (h : RegsLogs s t) : MovesKept s t :=
  of_ln (h.keeps State.mbs fun _ _ _ => rfl) (h.keeps State.ln fun _ _ _ => rfl) (h.keeps State.clock fun _ _ _ => rfl)

theorem of_banks (h : BanksRead s t) : MovesKept s t :=
  of_ln (h.keeps State.mbs fun _ _ _ _ _ _ => rfl) (h.keeps State.ln fun _ _ _ _ _ _ => rfl) (h.keeps State.clock fun _ _ _ _ _ _ => rfl)

theorem of_offPackets (h : t.offPackets = s.offPackets) : MovesKept s t := of_ln (congrArg State.mbs h :) (congrArg State.ln h :) (congrArg State.clock h :)

theorem set (h : MovesKept s t) (f : Field) (v i j : Nat) : MovesKept s (t.set f v i j) := h.trans (of_regsLogs (regsLogs_set _ _ _ _ _))

theorem bump (h : MovesKept s t) (c : Ctr) (i j n : Nat) : MovesKept s (t.bump c i j n) := h.trans (of_regsLogs (regsLogs_bump _ _ _ _ _))

theorem setLane (h : MovesKept s t) {l : Nat} {x : Lane} (hx : x.move = (t.lane l).move) : MovesKept s (t.setLane l x) := h.trans {
  mbs := rfl
  reqs := rfl
  moves := fun k => by
    by_cases hk : k = l
    · subst hk
      rw [lane_setLane, hx]
    · exact congrArg Lane.move (tget_tput_ne _ _ t.ln.lanes x hk)
  clock := rfl }

theorem ite {c : Prop} [Decidable c] (h : c → MovesKept s t) (k : ¬c → MovesKept s u) : MovesKept s (if c then t else u) := by
  split
  · next hc => exact h hc
  · next hc => exact k hc

theorem foldl {α : Type} {f : State → α → State} (h : ∀ x v, MovesKept v (f v x)) (xs : List α) (s : State) : MovesKept s (xs.foldl f s) := by
  induction xs generalizing s with
  | nil => exact .refl s
  | cons x xs ih => exact (h x s).trans (ih _)

end MovesKept

theorem setXqLock_moves (s : State) (l : Nat) (on : Bool) : MovesKept s (s.setXqLock l on) := by
  unfold State.setXqLock
  exact .ite (fun _ => (MovesKept.refl s).set _ _ _ _) fun _ => (MovesKept.refl s).set _ _ _ _

theorem unlockedEyes_moves (s : State) (l : Nat) : MovesKept s (s.unlockedEyes l) := by
  have h1 : MovesKept s (((s.set Reg.LN_EYE_EYE_LO 0x3FF l).set Reg.LN_EYE_EYE_MID 0x3FF l).set Reg.LN_EYE_EYE_HI 0x3FF l) := (((MovesKept.refl s).set _ _ _ _).set _ _ _ _).set _ _ _ _
  unfold State.unlockedEyes
  dsimp only
  generalize ((s.set Reg.LN_EYE_EYE_LO 0x3FF l).set Reg.LN_EYE_EYE_MID 0x3FF l).set Reg.LN_EYE_EYE_HI 0x3FF l = v at h1
  have h2 : MovesKept v ((v.setXqLock l false).set Reg.LN_STATUS_BLOCK_LOCK 0 l) := (setXqLock_moves v l false).set _ _ _ _
  generalize (v.setXqLock l false).set Reg.LN_STATUS_BLOCK_LOCK 0 l = w at h2
  exact h1.trans (h2.setLane (h2.moves l).symm)

theorem measureLost_moves (s : State) (l : Nat) : MovesKept s (s.measureLost l) := by
  unfold State.measureLost
  split
  · exact .ite (fun _ => ⟨rfl, rfl, fun _ => rfl, rfl⟩) fun _ => .refl s
  · exact .refl s

theorem dropMarkers_moves (s : State) (l : Nat) : MovesKept s (s.dropMarkers l) :=
  MovesKept.foldl (fun _ v => .ite (fun _ => (MovesKept.refl v).set _ _ _ _) fun _ => .refl v) _ s

theorem checkPorts_moves (s : State) : MovesKept s s.checkPorts := by
  rw [checkPorts_eq]
  refine MovesKept.foldl (fun l v => ?_) _ s
  unfold State.checkPort
  refine .ite (fun _ => .refl v) fun _ => ?_
  cases v.portAt l with
  | some p => exact .ite (fun _ => .refl v) fun _ => (((MovesKept.refl v).set _ _ _ _).set _ _ _ _).bump _ _ _ _
  | none => exact .of_regsLogs (regsLogs_setReg _ _ _)

theorem leaveLocked_moves (s : State) (l new : Nat) (loss : Bool) : MovesKept s (s.leaveLocked l new loss) := by
  rw [leaveLocked_eq, unlockedFigures_eq]
  have h1 := (((MovesKept.refl s).set Reg.LN_FOM_SNR 0xFFFF l 0).trans (unlockedEyes_moves _ l)).trans (measureLost_moves _ l)
  generalize ((s.set Reg.LN_FOM_SNR 0xFFFF l).unlockedEyes l).measureLost l = v at h1
  have h2 : MovesKept v ((v.dropMarkers l).lockLost l loss) := by
    refine (dropMarkers_moves v l).trans ?_
    unfold State.lockLost
    exact .ite (fun _ => ((MovesKept.refl _).bump _ _ _ _).set _ _ _ _) fun _ => .refl _
  generalize (v.dropMarkers l).lockLost l loss = w at h2
  exact ((h1.trans h2).set Reg.LN_STATUS_RX_STATE new l 0).trans (checkPorts_moves _)

theorem toRx_moves (s : State) (l new : Nat) (loss : Bool) : MovesKept s (s.toRx l new loss) := by
  rw [toRx_eq]
  have h : MovesKept s (if s.rxState l = 3 && new ≠ 3 then s.leaveLocked l new loss else s.set Reg.LN_STATUS_RX_STATE new l) :=
    .ite (fun _ => leaveLocked_moves s l new loss) fun _ => (MovesKept.refl s).set _ _ _ _
  generalize (if s.rxState l = 3 && new ≠ 3 then s.leaveLocked l new loss else s.set Reg.LN_STATUS_RX_STATE new l) = v at h
  unfold State.adapting
  exact .ite (fun _ => h.setLane rfl) fun _ => h

/-! ### Injectors that stop (R740, R741) -/

theorem rlDeliver_moves (s : State) (l : Nat) (b : BitVec 66) : MovesKept s (s.rlDeliver l b) := by
  unfold State.rlDeliver
  refine .ite (fun _ => (MovesKept.refl s).setLane rfl) fun _ => .ite (fun _ => ?_) fun _ => (MovesKept.refl s).setLane rfl
  rw [quenchDiscardsLane_regs]
  exact (MovesKept.refl s).bump _ _ _ _

theorem rlSync_moves (s : State) (l header : Nat) : MovesKept s (s.rlSync l header) := by
  unfold State.rlSync
  dsimp only
  generalize hv : (if (decide (header = 1) || decide (header = 2)) = true then s else s.bump Cnt.SH_ERRS l) = v
  have h1 : MovesKept s v := by
    rw [← hv]
    exact .ite (fun _ => .refl s) fun _ => (MovesKept.refl s).bump _ _ _ _
  have hmove := h1.moves l
  generalize hw : (if s.flag Reg.LN_STATUS_BLOCK_LOCK l = true then v else v.set Reg.LN_STATUS_BLOCK_LOCK 1 l) = w
  have h2 : MovesKept s w := by
    rw [← hw]
    exact .ite (fun _ => h1) fun _ => h1.set _ _ _ _
  generalize hx : (if s.flag Reg.LN_STATUS_BLOCK_LOCK l = true then s.lane l else { s.lane l with good := 64, bad := 0, window := 0 }) = x
  have hxm : x.move = (s.lane l).move := by
    rw [← hx]
    split <;> rfl
  refine .ite (fun _ => h1.setLane hmove.symm) fun _ => .ite (fun _ => h1.setLane hmove.symm) fun _ => .ite (fun _ => ?_) fun _ => .ite (fun _ => ?_) fun _ => ?_
  · have h3 := (h2.set Reg.LN_STATUS_BLOCK_LOCK 0 l 0).set Reg.LN_EVENTS_BLOCK_LOCK_LOST 1 l 0
    exact h3.setLane (hxm.trans (h3.moves l).symm)
  · exact h2.setLane (hxm.trans (h2.moves l).symm)
  · exact h2.setLane (hxm.trans (h2.moves l).symm)

theorem frameOut_moves (u : State) (line host looped : Bool) (t : Nat) (frame : List Byte) : MovesKept u (u.frameOut line host looped t frame) := by
  unfold State.frameOut
  cases line
  · cases host
    · exact .of_ln rfl rfl rfl
    · cases looped
      · exact .of_ln rfl rfl rfl
      · exact .of_ln rfl rfl rfl
  · exact .of_ln rfl rfl rfl

theorem sendFrame_moves (s : State) (t : Nat) (frame : List Byte) : MovesKept s (s.sendFrame t frame) := by
  rw [sendFrame_eq]
  exact (MovesKept.of_regsLogs (sentCounted_rest s t frame.length)).trans (frameOut_moves _ _ _ _ _ _)

theorem egressOut_moves (s : State) (t id : Nat) : MovesKept s (s.egressOut t id) := by
  cases hp : s.pkt id with
  | none =>
    unfold State.egressOut
    rw [hp]
    exact .refl s
  | some p =>
    rw [egressOut_eq hp]
    exact ((MovesKept.of_banks (packetRead_rest s t p)).trans (sendFrame_moves _ _ _)).trans (.of_offPackets (offPackets_dropPkt _ _))

theorem startParse_moves (s : State) (id : Nat) : MovesKept s (s.startParse id) := by
  unfold State.startParse
  split
  · exact .refl s
  · next p _ =>
    exact (MovesKept.of_offPackets ((offPackets_perfDev _ 2 1).trans (offPackets_setPkt s id (some (s.inspect p))))).trans (.of_ln rfl rfl rfl)

theorem fiEnd_moves (s : State) (i : Nat) : MovesKept s (s.fiEnd i) := by
  have h : MovesKept s (s.setInjector i none) := .of_ln rfl rfl rfl
  unfold State.fiEnd State.refreshFi
  generalize s.setInjector i none = v at h
  exact ((h.set _ _ _ _).set _ _ _ _).set _ _ _ _

theorem fiSend_moves (s : State) (x : Injector) (h : FiHeld) : MovesKept s (s.fiSend x h) := by
  unfold State.fiSend
  split
  · exact .ite (fun _ => egressOut_moves _ _ _) fun _ => startParse_moves _ _
  · refine .ite (fun _ => .refl s) fun _ => ?_
    unfold State.rlBlock
    exact (rlSync_moves _ _ _).trans (rlDeliver_moves _ _ _)

theorem fiStop_moves (s : State) (i : Nat) : MovesKept s (s.fiStop i) := by
  unfold State.fiStop
  split
  · exact .refl s
  · dsimp only
    split
    · exact (fiEnd_moves s i).trans (fiSend_moves _ _ _)
    · exact fiEnd_moves s i

theorem fiQuenched_moves (s : State) : MovesKept s s.fiQuenched := by
  unfold State.fiQuenched
  refine MovesKept.foldl (fun i v => ?_) _ s
  split
  · exact .ite (fun _ => .refl v) fun _ => fiStop_moves v i
  · exact .refl v

/-! ### LANE_PSTATE (R591–R593) -/

theorem lane_setLane_ne (s : State) {l k : Nat} (x : Lane) (h : k ≠ l) : (s.setLane l x).lane k = s.lane k := tget_tput_ne _ _ s.ln.lanes x h

/-- What a lane that begins a move may write beside what a receiver writes. -/
def movePatches : List Patch := Reg.LN_STATUS_Q_STATE.patch 24 :: Reg.LN_STATUS_SIG_DET.patch 24 :: unlockPatches

/-- The move of a lane noted. -/
def State.moving (s : State) (target l : Nat) : State := s.setLane l { s.lane l with move := some ⟨s.pstate l, target, s.clock⟩ }

/-- A receiver whose configuration has changed adapts anew. -/
def State.restarted (s : State) (x : Lane) (l : Nat) (detected : Bool) (now : Nat) : State :=
  (if detected then s else s.toRx l 2 false).setLane l { x with restart := false, adaptAt := now, taps := none }

theorem startMove_eq (s : State) (target l : Nat) : s.startMove target l =
    if s.pstate l = 0 then (s.moving target l).startQuench 4 l
    else if target ≠ 0 then s.moving target l
    else if s.pstate l = 2 || s.rxState l = 0 then (s.moving target l).laneOn l
    else if (s.lane l).restart then (s.moving target l).restarted ((s.moving target l).lane l) l (s.rxState l = 1) s.clock
    else s.moving target l := by
  unfold State.startMove State.restarted
  dsimp only
  simp only [decide_eq_true_eq]
  rfl

theorem startQuenchLane_touch (s : State) {l : Nat} (hl : l < 24) : Touch movePatches s (s.startQuench 4 l) := by
  unfold State.startQuench
  split
  · exact Touch.same (Touch.setRow (f := Reg.LN_STATUS_Q_STATE) (v := 1) (.refl _ s) hl (by decide)) (setQuench_regs _ _ _ _)
  · exact .of_regs (setQuench_regs _ _ _ _)
  · exact .of_regs (setQuench_regs _ _ _ _)

theorem startQuench_moves (s : State) (kind idx : Nat) : MovesKept s (s.startQuench kind idx) := by
  obtain ⟨r, y, h⟩ := startQuench_only s kind idx
  rw [h]
  exact .of_ln rfl rfl rfl

theorem moving_touch (m : List Patch) (s : State) (target l : Nat) : Touch m s (s.moving target l) := .of_regs rfl

theorem laneOn_touch (s : State) {l : Nat} (hl : l < 24) : Touch movePatches s (s.laneOn l) := ((Touch.refl _ s).setRow hl (by decide)).setRow hl (by decide)

theorem restarted_touch (s : State) (x : Lane) {l : Nat} (hl : l < 24) (detected : Bool) (now : Nat) : Touch movePatches s (s.restarted x l detected now) := by
  have h : Touch movePatches s (if detected then s else s.toRx l 2 false) := .ite (fun _ => .refl _ s) fun _ => (toRx_touch s hl (by decide) (by decide) false).mono (by decide)
  unfold State.restarted
  generalize (if detected then s else s.toRx l 2 false) = v at h
  exact h.trans (setLane_touch _ _ _ _)

theorem startMove_touch (s : State) (target : Nat) {l : Nat} (hl : l < 24) : Touch movePatches s (s.startMove target l) := by
  rw [startMove_eq]
  have hm := moving_touch movePatches s target l
  generalize s.moving target l = v at hm
  exact .ite (fun _ => hm.trans (startQuenchLane_touch v hl)) fun _ => .ite (fun _ => hm) fun _ => .ite (fun _ => hm.trans (laneOn_touch v hl)) fun _ =>
    .ite (fun _ => hm.trans (restarted_touch v _ hl _ _)) fun _ => hm

/-- After the note of its move a lane keeps it. -/
theorem startMove_moves (s : State) (target l : Nat) : MovesKept (s.moving target l) (s.startMove target l) := by
  rw [startMove_eq]
  generalize s.moving target l = v
  refine .ite (fun _ => startQuench_moves _ _ _) fun _ => .ite (fun _ => .refl v) fun _ => .ite (fun _ => ?_) fun _ => .ite (fun _ => ?_) fun _ => .refl v
  · exact ((MovesKept.refl v).set _ _ _ _).set _ _ _ _
  · have h : MovesKept v (if decide (s.rxState l = 1) then v else v.toRx l 2 false) := .ite (fun _ => .refl v) fun _ => toRx_moves v l 2 false
    unfold State.restarted
    generalize (if decide (s.rxState l = 1) then v else v.toRx l 2 false) = w at h
    exact h.setLane (h.moves l).symm

theorem startMove_own (s : State) (target l : Nat) : ((s.startMove target l).lane l).move = some ⟨s.pstate l, target, s.clock⟩ := by
  rw [(startMove_moves s target l).moves l]
  exact congrArg Lane.move (lane_setLane s l _)

theorem startMove_other (s : State) (target : Nat) {l k : Nat} (h : k ≠ l) : ((s.startMove target l).lane k).move = (s.lane k).move := by
  rw [(startMove_moves s target l).moves k]
  exact congrArg Lane.move (lane_setLane_ne s _ h)

theorem startMove_pstate (s : State) (target : Nat) {l k : Nat} (hl : l < 24) (hk : k < 24) : (s.startMove target l).pstate k = s.pstate k :=
  (startMove_touch s target hl).getRow (n := 24) _ hk (by decide)

/-- Lanes that begin to move. -/
def State.startMoves (s : State) (target : Nat) (ls : List Nat) : State := ls.foldl (fun v l => v.startMove target l) s

theorem startMoves_move (s : State) (target : Nat) {ls : List Nat} (hnd : ls.Nodup) (hlt : ∀ l ∈ ls, l < 24) {l : Nat} (hl : l ∈ ls) :
    ((s.startMoves target ls).lane l).move = some ⟨s.pstate l, target, s.clock⟩ := by
  refine foldl_reaches (g := fun v l => v.startMove target l) (P := fun v => v.pstate l = s.pstate l ∧ v.clock = s.clock) (Q := fun v => (v.lane l).move = some ⟨s.pstate l, target, s.clock⟩) hl hnd
    (fun x hx _ v hv => ?_) (fun v hv => ?_) (fun x _ hne v hv => ?_) ⟨rfl, rfl⟩
  · obtain ⟨hp, hc⟩ := hv
    exact ⟨(startMove_pstate v target (hlt x hx) (hlt l hl)).trans hp, (startMove_moves v target x).clock.trans hc⟩
  · obtain ⟨hp, hc⟩ := hv
    rw [startMove_own, hp, hc]
  · exact (startMove_other v target (Ne.symm hne)).trans hv

theorem startMoves_mbs (s : State) (target : Nat) (ls : List Nat) : (s.startMoves target ls).mbs = s.mbs :=
  foldl_keeps State.mbs (g := fun v l => v.startMove target l) (fun v l => (startMove_moves v target l).mbs) ls s

theorem startMoves_reqs (s : State) (target : Nat) (ls : List Nat) : (s.startMoves target ls).ln.reqs = s.ln.reqs :=
  foldl_keeps (fun v => v.ln.reqs) (g := fun v l => v.startMove target l) (fun v l => (startMove_moves v target l).reqs) ls s

/-- The lanes that LANE_PSTATE moves, noted with its mailbox. -/
def State.pstateAsked (s : State) (mb target : Nat) (moving : List Nat) : State :=
  { (s.startMoves target moving).fiQuenched with ln := { (s.startMoves target moving).fiQuenched.ln with reqs := (s.startMoves target moving).fiQuenched.ln.reqs ++ [{ mb := mb, left := moving }] } }

theorem pstateAsked_shows (s : State) (mb target : Nat) {moving : List Nat} (hnd : moving.Nodup) (hlt : ∀ l ∈ moving, l < 24) : (s.pstateAsked mb target moving).mbs = s.mbs ∧
    (s.pstateAsked mb target moving).ln.reqs = s.ln.reqs ++ [{ mb := mb, left := moving }] ∧ ∀ l ∈ moving, ((s.pstateAsked mb target moving).lane l).move = some ⟨s.pstate l, target, s.clock⟩ := by
  have hmbs := startMoves_mbs s target moving
  have hreqs := startMoves_reqs s target moving
  have hmove := fun l hl => startMoves_move s target hnd hlt (l := l) hl
  unfold State.pstateAsked
  generalize s.startMoves target moving = v at hmbs hreqs hmove
  have hq := fiQuenched_moves v
  generalize v.fiQuenched = w at hq
  refine ⟨hq.mbs.trans hmbs, ?_, fun l hl => (hq.moves l).trans (hmove l hl)⟩
  show w.ln.reqs ++ _ = _
  rw [hq.reqs, hreqs]

theorem lane_pstate (mb : Fin 8) (p : List Byte) (ls moving : List Nat) (s : State) (hreq : s.request mb.val 0x0352 = some p) (hls : ls = maskList (u32 p 0) 24) (hport : s.splitsPort ls = false)
    (hfree : ∀ l ∈ ls, s.laneFormat l ≠ 0 ∧ s.qState 4 l ≠ 1 ∧ (s.lane l).move = none) (hmoving : moving = ls.filter (fun l => s.pstate l != u8 p 4)) :
    (moving = [] → ∃ t, exec (.lanePstate mb) s = .next t ∧ OnlyAnswered mb.val ok s t) ∧
    (moving ≠ [] → ∃ t, exec (.lanePstate mb) s = .next t ∧ RunsOn mb.val s t ∧ t.ln.reqs = s.ln.reqs ++ [{ mb := mb.val, left := moving }] ∧
      ∀ l ∈ moving, (t.lane l).move = some ⟨s.pstate l, u8 p 4, s.clock⟩) := by
  have h1 : ¬(s.serving mb.val).splitsPort (maskList (u32 p 0) 24) = true := by
    rw [← hls]
    exact ne_true_of_eq_false hport
  have h2 : ¬(maskList (u32 p 0) 24).any (fun l => (s.serving mb.val).laneFormat l == 0) = true := by
    rw [← hls, List.any_eq_true]
    rintro ⟨l, hl, hzero⟩
    exact (hfree l hl).1 (beq_iff_eq.mp hzero)
  have h3 : ¬(maskList (u32 p 0) 24).any (fun l => (s.serving mb.val).qState 4 l == 1 || ((s.serving mb.val).lane l).move.isSome) = true := by
    rw [← hls, List.any_eq_true]
    rintro ⟨l, hl, hbusy⟩
    obtain ⟨_, hq, hm⟩ := hfree l hl
    rcases Bool.or_eq_true_iff.mp hbusy with h | h
    · exact hq (beq_iff_eq.mp h)
    · exact Option.isSome_iff_ne_none.mp h hm
  have hnd : moving.Nodup := by
    rw [hmoving, hls]
    exact (nodup_maskList _ _).filter _
  have hlt : ∀ l ∈ moving, l < 24 := fun l hl => by
    rw [hmoving, hls] at hl
    exact List.mem_range.mp (List.mem_filter.mp (List.mem_filter.mp hl).1).1
  show (_ → ∃ t, execLanePstate mb s = _ ∧ _) ∧ (_ → ∃ t, execLanePstate mb s = _ ∧ _)
  unfold execLanePstate
  refine ⟨fun hnone => ?_, fun hsome => ?_⟩
  · have h4 : ((maskList (u32 p 0) 24).filter (fun l => (s.serving mb.val).pstate l != u8 p 4)).isEmpty = true := by
      rw [← hls]
      exact List.isEmpty_iff.mpr (hmoving ▸ hnone)
    exact actLong_only hreq ((if_neg h1).trans ((if_neg h2).trans ((if_neg h3).trans (if_pos h4))))
  · have h4 : ¬((maskList (u32 p 0) 24).filter (fun l => (s.serving mb.val).pstate l != u8 p 4)).isEmpty = true := by
      rw [← hls]
      exact fun h => hsome (hmoving ▸ List.isEmpty_iff.mp h)
    have hmv : (maskList (u32 p 0) 24).filter (fun l => (s.serving mb.val).pstate l != u8 p 4) = moving := by
      rw [hmoving, hls]
      rfl
    obtain ⟨hmbs, hreqs, hmove⟩ := pstateAsked_shows (s.serving mb.val) mb.val (u8 p 4) hnd hlt
    refine actLong_runs_then (u := (s.serving mb.val).pstateAsked mb.val (u8 p 4) moving) hreq ((if_neg h1).trans ((if_neg h2).trans ((if_neg h3).trans ((if_neg h4).trans ?_)))) fun t he hrun => ?_
    · unfold State.pstateAsked State.startMoves
      rw [hmv]
    · generalize (s.serving mb.val).pstateAsked mb.val (u8 p 4) moving = u at hmbs hreqs hmove he hrun
      exact ⟨hrun.of_mbs hmbs, by rw [he.ln, hreqs]; rfl, fun l hl => by rw [he.lane, hmove l hl]; rfl⟩

/-! ### The end of a move (R591, R592) -/

/-- A new power state in force. -/
structure PstateEntered (s t : State) (l target : Nat) : Prop where
  state : t.pstate l = target
  counted : Counted Cnt.PSTATE_CHANGES l 0 1 s t

theorem PstateEntered.after {s t u : State} {l target : Nat} (h : PstateEntered s t l target) (hl : l < 24) {m : List Patch} (k : Touch m t u)
    (hd : (sharedPatches ++ m).all (·.apart (Reg.LN_STATUS_PSTATE.patch 24)) = true ∧ Cnt.PSTATE_CHANGES.unwritten m 0) : PstateEntered s u l target where
  state := (k.getRow (n := 24) _ hl ⟨hd.1, by decide⟩).trans h.state
  counted := k.counted h.counted hl hd.2

theorem PstateEntered.before {s t u : State} {l target : Nat} (h : PstateEntered t u l target) (hl : l < 24) {m : List Patch} (k : Touch m s t) (hd : Cnt.PSTATE_CHANGES.unwritten m 0) :
    PstateEntered s u l target where
  state := h.state
  counted := k.counted_of h.counted hl hd

theorem enterPstate_enters (s : State) {l : Nat} (hl : l < 24) {target : Nat} (ht : target < 4) : PstateEntered s (s.enterPstate l target) l target := by
  have hset : Touch [Reg.LN_STATUS_PSTATE.patch 24] s (s.set Reg.LN_STATUS_PSTATE target l) := (Touch.refl _ s).setRow hl (by decide)
  have hst : (s.set Reg.LN_STATUS_PSTATE target l).pstate l = target := (get_set_self _ _ _ _ _ (by decide)).trans (Nat.mod_eq_of_lt ht)
  unfold State.enterPstate
  dsimp only
  generalize s.set Reg.LN_STATUS_PSTATE target l = v at hset hst
  have hb : Touch Cnt.PSTATE_CHANGES.patches v (v.bump Cnt.PSTATE_CHANGES l) := (Touch.refl _ v).bumpRow hl (by decide)
  have hcount : Counted Cnt.PSTATE_CHANGES l 0 1 v (v.bump Cnt.PSTATE_CHANGES l) := counted_bump _ _ _ _ _ (.inl rfl)
  generalize v.bump Cnt.PSTATE_CHANGES l = w at hb hcount
  have hlane : Touch [] w (if target = 0 then w.setLane l { w.lane l with goodAt := s.clock } else w) := .ite (fun _ => .of_regs rfl) fun _ => .refl _ w
  exact PstateEntered.after ⟨(hb.getRow (n := 24) _ hl (by decide)).trans hst, hset.counted_of hcount hl (by decide)⟩ hl hlane (by decide)

theorem enableLane_touch (s : State) {l : Nat} (hl : l < 24) : Touch [Reg.LN_STATUS_Q_STATE.patch 24] s (s.enableObj 4 l) := by
  unfold State.enableObj
  split
  · exact .of_regs (setQuench_regs _ _ _ _)
  · exact ((Touch.refl _ s).setRow (f := Reg.LN_STATUS_Q_STATE) hl (by decide)).same (setQuench_regs _ _ _ _)

/-- The LANE_PSTATE commands that wait, after lane `l` has ended its move. -/
def reqsAfter (reqs : List PsReq) (l : Nat) (late : Bool) : List PsReq :=
  reqs.map (fun r => if r.left.contains l then { r with left := r.left.filter (· != l), late := r.late || late } else r)

/-- Lane `l` without a move. -/
def State.moveDone (s : State) (l : Nat) : State := s.setLane l { s.lane l with move := none }

/-- The commands that still wait are kept. -/
def State.withReqs (s : State) (reqs : List PsReq) : State := { s with ln := { s.ln with reqs := reqs } }

theorem moveEnds_eq (s : State) (l : Nat) (late : Bool) : s.moveEnds l late =
    ((reqsAfter (s.moveDone l).ln.reqs l late).filter (fun r => r.left.isEmpty)).foldl (fun v r => v.finish r.mb (if r.late then err cTIMEOUT else ok))
      ((s.moveDone l).withReqs ((reqsAfter (s.moveDone l).ln.reqs l late).filter (fun r => !r.left.isEmpty))) := rfl

theorem moveEnds_touch (s : State) (l : Nat) (late : Bool) : Touch [wordPatch 0x12014] s (s.moveEnds l late) := by
  rw [moveEnds_eq]
  exact Touch.foldl (fun r _ v => finish_touch v _ _) (.of_regs rfl)

theorem moveEnds_move (s : State) (l : Nat) (late : Bool) : ((s.moveEnds l late).lane l).move = none := by
  have hln : (s.moveEnds l late).ln = ((s.moveDone l).withReqs ((reqsAfter (s.moveDone l).ln.reqs l late).filter (fun r => !r.left.isEmpty))).ln := by
    rw [moveEnds_eq]
    exact foldl_keeps State.ln (g := fun v (r : PsReq) => v.finish r.mb (if r.late then err cTIMEOUT else ok)) (fun v r => finish_keeps State.ln (fun _ _ _ => rfl) v _ _) _ _
  exact (congrArg (fun x : LaneState => (tget ({} : Lane) x.lanes l).move) hln).trans (congrArg Lane.move (lane_setLane s l _))

/-- The end of a command that ends a lane's move. -/
theorem move_ended {s u v : State} {l target : Nat} (hl : l < 24) (late : Bool) (h : PstateEntered s v l target) {P : State → Prop}
    (hP : ∀ t, Touch [wordPatch 0x12014] v t → t.pstate l = target → (t.lane l).move = none → Counted Cnt.PSTATE_CHANGES l 0 1 s t → P t) : ∃ t, done u (v.moveEnds l late) = .next t ∧ P t := by
  have hend := moveEnds_touch v l late
  have hmove := moveEnds_move v l late
  generalize v.moveEnds l late = w at hend hmove
  refine done_then fun t he _ => ?_
  have htouch := hend.andThen he.touch (by decide)
  have hst := h.after hl htouch (by decide)
  exact hP t htouch hst.state (by rw [he.lane, hmove]) hst.counted

theorem pstate_done_active (l : Fin 24) (m : LaneMove) (s : State) (hm : (s.lane l.val).move = some m) (htarget : m.target = 0) (hlocked : s.rxState l.val = 3) :
    ∃ t, exec (.lanePstateDone l) s = .next t ∧ t.pstate l.val = 0 ∧ (t.lane l.val).move = none ∧
      Counted Cnt.PSTATE_CHANGES l.val 0 1 s t ∧ t.flag Reg.LN_EVENTS_PSTATE_DONE l.val = true := by
  show ∃ t, execLanePstateDone l s = _ ∧ _
  unfold execLanePstateDone
  dsimp only
  rw [hm]
  dsimp only
  rw [if_pos htarget, if_neg (not_not_intro hlocked)]
  have henter := enterPstate_enters s l.isLt (target := 0) (by decide)
  generalize s.enterPstate l.val 0 = v at henter
  have hev : (v.set Reg.LN_EVENTS_PSTATE_DONE 1 l.val).flag Reg.LN_EVENTS_PSTATE_DONE l.val = true := flag_set_self _ _ _ _ _ (by decide)
  have hset : Touch [Reg.LN_EVENTS_PSTATE_DONE.patch 24] v (v.set Reg.LN_EVENTS_PSTATE_DONE 1 l.val) := (Touch.refl _ v).setRow l.isLt (by decide)
  generalize v.set Reg.LN_EVENTS_PSTATE_DONE 1 l.val = v2 at hev hset
  have hon := enableLane_touch v2 l.isLt
  refine move_ended l.isLt false ((henter.after l.isLt hset (by decide)).after l.isLt hon (by decide)) fun t ht hst hmove hcount => ⟨hst, hmove, hcount, ?_⟩
  rw [ht.flagRow (n := 24) _ l.isLt (by decide), hon.flagRow (n := 24) _ l.isLt (by decide), hev]

theorem pstate_done_low (l : Fin 24) (m : LaneMove) (s : State) (hm : (s.lane l.val).move = some m) (htarget : m.target = 1 ∨ m.target = 2)
    (hdue : if m.old = 0 then s.qState 4 l.val = 2 ∧ (s.lane l.val).quietAt + 13000 ≤ s.clock else m.t0 + 13000 ≤ s.clock) :
    ∃ t, exec (.lanePstateDone l) s = .next t ∧ t.pstate l.val = m.target ∧
      (t.lane l.val).move = none ∧ Counted Cnt.PSTATE_CHANGES l.val 0 1 s t ∧ t.flag Reg.LN_EVENTS_PSTATE_DONE l.val = true := by
  have hus : usT 1 = 13000 := rfl
  have hcond : ¬((decide (m.old = 0) && (decide (s.qState 4 l.val ≠ 2) || decide (s.clock < (s.lane l.val).quietAt + usT 1))) || (decide (m.old ≠ 0) && decide (s.clock < m.t0 + usT 1))) = true := by
    by_cases ho : m.old = 0
    · rw [if_pos ho] at hdue
      simp [ho, hdue, hus]
    · rw [if_neg ho] at hdue
      simp [ho, hdue, hus]
  show ∃ t, execLanePstateDone l s = _ ∧ _
  unfold execLanePstateDone
  dsimp only
  rw [hm]
  dsimp only
  rw [if_neg (show m.target ≠ 0 by omega), if_neg hcond]
  have henter := enterPstate_enters s l.isLt (target := m.target) (by omega)
  generalize s.enterPstate l.val m.target = v at henter
  have hev : (v.set Reg.LN_EVENTS_PSTATE_DONE 1 l.val).flag Reg.LN_EVENTS_PSTATE_DONE l.val = true := flag_set_self _ _ _ _ _ (by decide)
  have hset : Touch [Reg.LN_EVENTS_PSTATE_DONE.patch 24] v (v.set Reg.LN_EVENTS_PSTATE_DONE 1 l.val) := (Touch.refl _ v).setRow l.isLt (by decide)
  generalize v.set Reg.LN_EVENTS_PSTATE_DONE 1 l.val = v2 at hev hset
  have hoff : Touch (Reg.LN_STATUS_SIG_DET.patch 24 :: unlockPatches) v2 (if m.target = 2 then (v2.toRx l.val 0 false).set Reg.LN_STATUS_SIG_DET 0 l.val else v2) :=
    .ite (fun _ => ((toRx_touch v2 l.isLt (by decide) (by decide) false).mono (by decide)).setRow l.isLt (by decide)) fun _ => .refl _ v2
  generalize (if m.target = 2 then (v2.toRx l.val 0 false).set Reg.LN_STATUS_SIG_DET 0 l.val else v2) = v3 at hoff
  refine move_ended l.isLt false ((henter.after l.isLt hset (by decide)).after l.isLt hoff (by decide)) fun t ht hst hmove hcount => ⟨hst, hmove, hcount, ?_⟩
  rw [ht.flagRow (n := 24) _ l.isLt (by decide), hoff.flagRow (n := 24) _ l.isLt (by decide), hev]

theorem lane_exit_timeout (l : Fin 24) (m : LaneMove) (s : State) (hm : (s.lane l.val).move = some m) (htarget : m.target = 0) (hfrom : m.old ≠ 2 ∨ s.rxState l.val ≠ 3)
    (hlate : m.t0 + (if m.old = 1 then 26000 else 325000000) ≤ s.clock) :
    ∃ t, exec (.laneExitTimeout l) s = .next t ∧ t.pstate l.val = 0 ∧ (t.lane l.val).move = none ∧ Counted Cnt.PSTATE_CHANGES l.val 0 1 s t := by
  have h1 : usT 2 = 26000 := rfl
  have h2 : msT 25 = 325000000 := rfl
  have hcond : ¬((decide (m.target ≠ 0) || decide (s.clock < m.t0 + (if m.old = 1 then usT 2 else msT 25))) || (decide (m.old = 2) && decide (s.rxState l.val = 3))) = true := by
    rcases hfrom with h | h <;> simp [htarget, h1, h2, hlate, h]
  show ∃ t, execLaneExitTimeout l s = _ ∧ _
  unfold execLaneExitTimeout
  dsimp only
  rw [hm]
  dsimp only
  rw [if_neg hcond]
  have hdrop : Touch unlockPatches s (if s.rxState l.val = 3 then s.toRx l.val 2 true else s) := .ite (fun _ => toRx_touch s l.isLt (by decide) (by decide) true) fun _ => .refl _ s
  generalize (if s.rxState l.val = 3 then s.toRx l.val 2 true else s) = v at hdrop
  have henter := (enterPstate_enters v l.isLt (target := 0) (by decide)).before l.isLt hdrop (by decide)
  generalize v.enterPstate l.val 0 = w at henter
  exact move_ended l.isLt true (henter.after l.isLt (enableLane_touch w l.isLt) (by decide)) fun t _ hst hmove hcount => ⟨hst, hmove, hcount⟩

/-! ### Pattern checker and error injection (R595, R596) -/

theorem pat_lock (l : Fin 24) (s : State) (hfmt : s.laneFormat l.val = 3) (hpat : s.get Reg.LN_TEST_CHK_PAT l.val ≠ 0) (hlive : s.laneLive l.val = true) :
    (s.flag Reg.LN_STATUS_PAT_LOCK l.val = false → s.rxState l.val = 3 → ∃ t, exec (.patLock l true) s = .next t ∧ t.flag Reg.LN_STATUS_PAT_LOCK l.val = true ∧
      RegsKept [Reg.LN_STATUS_PAT_LOCK.addr l.val 0] s t) ∧
    (s.flag Reg.LN_STATUS_PAT_LOCK l.val = true → ∃ t, exec (.patLock l false) s = .next t ∧ t.flag Reg.LN_STATUS_PAT_LOCK l.val = false ∧
      t.flag Reg.LN_EVENTS_PAT_LOCK_LOST l.val = true) := by
  have hcond : ¬(decide (s.laneFormat l.val ≠ 3) || decide (s.get Reg.LN_TEST_CHK_PAT l.val = 0) || !s.laneLive l.val) = true := by simp [hfmt, hpat, hlive]
  refine ⟨fun hoff hlocked => ?_, fun hon => ?_⟩
  · show ∃ t, execPatLock l true s = _ ∧ _
    unfold execPatLock
    dsimp only
    rw [if_neg hcond, if_pos (by simp [hoff, hlocked])]
    refine done_then fun t he _ => ⟨?_, fun a ha hq => ?_⟩
    · exact (he.touch.flagRow (n := 24) _ l.isLt (by decide)).trans (flag_set_self _ _ _ _ _ (by decide))
    · rw [he.kept a List.not_mem_nil hq]
      exact reg_set_ne s _ _ _ _ (by simpa using ha)
  · show ∃ t, execPatLock l false s = _ ∧ _
    unfold execPatLock
    dsimp only
    rw [if_neg hcond, if_neg (by simp), if_pos (by simp [hon])]
    have hbit : (s.set Reg.LN_STATUS_PAT_LOCK 0 l.val).flag Reg.LN_STATUS_PAT_LOCK l.val = false := by
      rw [flag_set_self _ _ _ _ _ (by decide)]
      rfl
    generalize s.set Reg.LN_STATUS_PAT_LOCK 0 l.val = v at hbit
    have hset : Touch [Reg.LN_EVENTS_PAT_LOCK_LOST.patch 24] v (v.set Reg.LN_EVENTS_PAT_LOCK_LOST 1 l.val) := (Touch.refl _ v).setRow l.isLt (by decide)
    refine done_then fun t he _ => ⟨?_, ?_⟩
    · rw [he.touch.flagRow (n := 24) _ l.isLt (by decide), hset.flagRow (n := 24) _ l.isLt (by decide), hbit]
    · exact (he.touch.flagRow (n := 24) _ l.isLt (by decide)).trans (flag_set_self _ _ _ _ _ (by decide))

/-- Continuous error injection on lane `l` is switched. -/
def State.injecting (s : State) (l on : Nat) (x : Lane) : State := (s.set Reg.LN_STATUS_INJECTING on l).setLane l x

theorem injecting_mbs (s : State) (l on : Nat) (x : Lane) : (s.injecting l on x).mbs = s.mbs := set_mbs s Reg.LN_STATUS_INJECTING on l 0

theorem injecting_lane (s : State) (l on : Nat) (x : Lane) : (s.injecting l on x).lane l = x := lane_setLane _ l x

theorem injecting_flag (s : State) (l on : Nat) (x : Lane) : (s.injecting l on x).flag Reg.LN_STATUS_INJECTING l = (on % 2 == 1) := flag_set_self s _ _ _ _ (by decide)

theorem lane_err_inject (mb : Fin 8) (p : List Byte) (s : State) (hreq : s.request mb.val 0x0353 = some p) (hl : u8 p 0 < 24) :
    (s.laneFormat (u8 p 0) ≠ 3 → ∃ t, exec (.laneErrInject mb) s = .next t ∧ OnlyAnswered mb.val (err cDENIED) s t) ∧
    (s.laneFormat (u8 p 0) = 3 → ∃ t, exec (.laneErrInject mb) s = .next t ∧ Answered mb.val ok s t ∧
      (u8 p 1 = 1 → t.lane (u8 p 0) = { s.lane (u8 p 0) with inverted := (s.lane (u8 p 0)).inverted + 1 } ∧ RegsKept [0x12014] s t) ∧
      (u8 p 1 = 2 → t.flag Reg.LN_STATUS_INJECTING (u8 p 0) = true ∧ (t.lane (u8 p 0)).inject = some (u8 p 2) ∧ (t.lane (u8 p 0)).injAt = 0) ∧
      (u8 p 1 = 0 → t.flag Reg.LN_STATUS_INJECTING (u8 p 0) = false ∧ (t.lane (u8 p 0)).inject = none)) := by
  show (_ → ∃ t, execLaneErrInject mb s = _ ∧ _) ∧ (_ → ∃ t, execLaneErrInject mb s = _ ∧ _)
  unfold execLaneErrInject
  refine ⟨fun hfmt => act_only hreq (if_pos hfmt), fun hfmt => ?_⟩
  by_cases hone : u8 p 1 = 1
  · refine act_then (u := (s.serving mb.val).setLane (u8 p 0) { s.lane (u8 p 0) with inverted := (s.lane (u8 p 0)).inverted + 1 }) (r := ok) hreq
      ((if_neg (not_not_intro hfmt)).trans (if_pos hone)) fun t he hans => ⟨hans.of_mbs rfl, fun _ => ⟨?_, fun a ha hq => he.kept a ha hq⟩, fun h => by omega, fun h => by omega⟩
    rw [he.lane, lane_setLane]
  · by_cases htwo : u8 p 1 = 2
    · refine act_then (u := (s.serving mb.val).injecting (u8 p 0) 1 { s.lane (u8 p 0) with inject := some (u8 p 2), injAt := 0 }) (r := ok) hreq
        ((if_neg (not_not_intro hfmt)).trans ((if_neg hone).trans (if_pos htwo))) fun t he hans => ⟨hans.of_mbs (injecting_mbs _ _ _ _), fun h => absurd h hone, fun _ => ⟨?_, ?_, ?_⟩, fun h => by omega⟩
      · exact (he.answer_touch.flagRow (n := 24) _ hl (by decide)).trans (injecting_flag _ _ _ _)
      · rw [he.lane, injecting_lane]
      · rw [he.lane, injecting_lane]
    · refine act_then (u := (s.serving mb.val).injecting (u8 p 0) 0 { s.lane (u8 p 0) with inject := none }) (r := ok) hreq
        ((if_neg (not_not_intro hfmt)).trans ((if_neg hone).trans (if_neg htwo))) fun t he hans => ⟨hans.of_mbs (injecting_mbs _ _ _ _), fun h => absurd h hone, fun h => absurd h htwo, fun _ => ⟨?_, ?_⟩⟩
      · exact (he.answer_touch.flagRow (n := 24) _ hl (by decide)).trans (injecting_flag _ _ _ _)
      · rw [he.lane, injecting_lane]

/-- Settles O56. -/
theorem lanePowerStatesAndLaneTests : Obligations.LanePowerStatesAndLaneTests := by
  unfold Obligations.LanePowerStatesAndLaneTests
  exact ⟨lane_pstate, fun l m s hm => ⟨pstate_done_active l m s hm, pstate_done_low l m s hm, lane_exit_timeout l m s hm⟩, pat_lock, lane_err_inject⟩

end Sys2Proof.Machine
end

section
/-! SUPPORT. Frame and multiframe boundaries, squelch and level measurements (O44) -/

namespace Sys2Proof.Machine

/-! ### What boundaries leave (R42, R106, R344)

The parts of a boundary enter the registers and the state of the blocks. None enters the count of frames and multiframes, the mailboxes, the interfaces, the power state
or the change of mode: the core of the state. -/

/-- A state without what the blocks enter at a boundary. -/
def State.core (s : State) : State :=
  { s with regs := [], logs := {}, conv := {}, rx := {}, burst := {}, self := {}, tx := {}, fec := [], tsi := {}, cip := {}, ln := {}, tim := {}, timeOff := 0, fresh := 0, gau := {}, tap := {}, mem := {}, test := {}, eng := {}, perf := {}, pk := {}, hg := {}, frm := { s.frm with furrows := [], groups := [], prot := {}, streams := [], stuff := [] }, sys := { s.sys with clamps := [], quench := [] } }

/-- The same core. -/
def CoreKept (s t : State) : Prop := t.core = s.core

namespace CoreKept
variable {s t u : State}

theorem refl (s : State) : CoreKept s s := Eq.refl s.core

theorem trans (h : CoreKept s t) (k : CoreKept t u) : CoreKept s u := Eq.trans k h

theorem same (h : CoreKept s t) (k : u.core = t.core) : CoreKept s u := Eq.trans k h

theorem of_regsLogs (h : RegsLogs s t) : CoreKept s t := h.keeps State.core fun _ _ _ => rfl

theorem of_tim (h : TimOnly s t) : CoreKept s t := h.keeps State.core fun _ _ _ _ _ _ => rfl

theorem of_mem (h : MemRest s t) : CoreKept s t := h.keeps State.core fun _ _ _ _ => rfl

theorem set (h : CoreKept s t) (f : Field) (v i j : Nat) : CoreKept s (t.set f v i j) := h.trans (of_regsLogs (regsLogs_set _ _ _ _ _))

theorem bump (h : CoreKept s t) (c : Ctr) (i j n : Nat) : CoreKept s (t.bump c i j n) := h.trans (of_regsLogs (regsLogs_bump _ _ _ _ _))

theorem log (h : CoreKept s t) (wb type : Nat) (d : List Byte) : CoreKept s (t.log wb type d) := h.trans (of_regsLogs (regsLogs_log _ _ _ _))

theorem setLane (h : CoreKept s t) (l : Nat) (x : Lane) : CoreKept s (t.setLane l x) := h.same rfl

theorem ite {c : Prop} [Decidable c] (h : c → CoreKept s t) (k : ¬c → CoreKept s u) : CoreKept s (if c then t else u) := by
  split
  · next hc => exact h hc
  · next hc => exact k hc

theorem foldl {α : Type} {f : State → α → State} (h : ∀ x v, CoreKept v (f v x)) (xs : List α) (s : State) : CoreKept s (xs.foldl f s) := by
  induction xs generalizing s with
  | nil => exact .refl s
  | cons x xs ih => exact (h x s).trans (ih _)

/-- A fold that also collects. -/
theorem collects {α β : Type} {f : β × State → α → β × State} (h : ∀ x b v, CoreKept v (f (b, v) x).2) (xs : List α) (b : β) (s : State) : CoreKept s (xs.foldl f (b, s)).2 := by
  induction xs generalizing s b with
  | nil => exact .refl s
  | cons x xs ih => exact (h x b s).trans (ih _ _)

theorem mbs (h : CoreKept s t) : t.mbs = s.mbs := (congrArg State.mbs (h : t.core = s.core) :)

theorem clock (h : CoreKept s t) : t.clock = s.clock := (congrArg State.clock (h : t.core = s.core) :)

theorem fn (h : CoreKept s t) : t.frm.fn = s.frm.fn := (congrArg (fun v => v.frm.fn) (h : t.core = s.core) :)

theorem mfn (h : CoreKept s t) : t.frm.mfn = s.frm.mfn := (congrArg (fun v => v.frm.mfn) (h : t.core = s.core) :)

theorem lastFrame (h : CoreKept s t) : t.frm.lastFrame = s.frm.lastFrame := (congrArg (fun v => v.frm.lastFrame) (h : t.core = s.core) :)

theorem lastMf (h : CoreKept s t) : t.frm.lastMf = s.frm.lastMf := (congrArg (fun v => v.frm.lastMf) (h : t.core = s.core) :)

end CoreKept

/-! ### The converters at a boundary (R143–R155) -/

theorem setSliceByte_core (s : State) (a k v : Nat) : CoreKept s (s.setSliceByte a k v) := (CoreKept.refl s).set _ _ _ _

theorem setAdc_core (s : State) (a : Nat) (x : AdcState) : CoreKept s (s.setAdc a x) := (CoreKept.refl s).same rfl

theorem startStep_core (s : State) (a : Nat) : CoreKept s (s.startStep a) := setAdc_core _ _ _

theorem startQueued_core (s : State) (a : Nat) : CoreKept s (s.startQueued a) := by
  have h := ((setAdc_core s a { s.adc a with rotLeft := some s.adcPositions }).set Reg.ADC_STATUS_REQ_QUEUED 0 a 0).set Reg.ADC_STATUS_REQ_RUNNING 1 a 0
  unfold State.startQueued
  dsimp only
  generalize ((s.setAdc a { s.adc a with rotLeft := some s.adcPositions }).set Reg.ADC_STATUS_REQ_QUEUED 0 a).set Reg.ADC_STATUS_REQ_RUNNING 1 a = v at h
  exact .ite (fun _ => h.trans (startStep_core v a)) fun _ => h

theorem endStep_core (s : State) (a : Nat) : CoreKept s (s.endStep a) := by
  have h := setAdc_core s a { s.adc a with step := none }
  unfold State.endStep
  dsimp only
  generalize s.setAdc a { s.adc a with step := none } = v at h
  exact .ite (fun _ => h.trans (startQueued_core v a)) fun _ => h

theorem endRotation_core (s : State) (a : Nat) : CoreKept s (s.endRotation a) := by
  have h := (setAdc_core s a { s.adc a with rotLeft := none }).set Reg.ADC_STATUS_REQ_RUNNING 0 a 0
  unfold State.endRotation
  dsimp only
  generalize (s.setAdc a { s.adc a with rotLeft := none }).set Reg.ADC_STATUS_REQ_RUNNING 0 a = v at h
  exact .ite (fun _ => h.trans (startQueued_core v a)) fun _ => h

theorem deferStep_core (s : State) (a : Nat) : CoreKept s (s.deferStep a) := ((CoreKept.refl s).bump _ _ _ _).trans (endStep_core _ a)

theorem calSwap_core (s : State) (a : Nat) (st : CalStep) (cal : SliceCal) : CoreKept s (s.calSwap a st cal) := by
  unfold State.calSwap
  dsimp only
  generalize s.get Reg.ADC_STATUS_SPARE a = spare
  generalize (s.sliceAt a st.pos).getD 0x7F = old
  have h1 := (setSliceByte_core s a spare st.pos).trans (setSliceByte_core _ a old 0x40)
  generalize (s.setSliceByte a spare st.pos).setSliceByte a old 0x40 = v1 at h1
  have h2 := ((h1.set Reg.ADC_STATUS_SPARE old a 0).set Reg.ADC_STATUS_POS ((st.pos + 1) % max 1 s.adcPositions) a 0).bump Cnt.CAL_COUNT a 0 1
  generalize ((v1.set Reg.ADC_STATUS_SPARE old a).set Reg.ADC_STATUS_POS ((st.pos + 1) % max 1 s.adcPositions) a).bump Cnt.CAL_COUNT a = v2 at h2
  have h3 := (h2.set Reg.CAL_TIME_T s.devNs a 0).set Reg.CAL_TIME_T (s.devNs / 2 ^ 32) a 1
  generalize (v2.set Reg.CAL_TIME_T s.devNs a 0).set Reg.CAL_TIME_T (s.devNs / 2 ^ 32) a 1 = v3 at h3
  generalize hv4 : v3.setAdc a _ = v4
  have h4 : CoreKept s v4 := h3.trans (hv4 ▸ setAdc_core _ _ _)
  exact .ite (fun _ => h4.trans (endRotation_core v4 a)) fun _ => h4.trans (endStep_core v4 a)

theorem stepFrame_core (m : FrameMeas) (s : State) (a : Nat) : CoreKept s (State.stepFrame m s a) := by
  unfold State.stepFrame
  split
  · exact .refl s
  · refine .ite (fun _ => .ite (fun _ => deferStep_core s a) fun _ => .refl s) fun _ => ?_
    split
    · exact calSwap_core _ _ _ _
    · exact .refl s

theorem loseSpare_core (s : State) (a : Nat) : CoreKept s (s.loseSpare a) := by
  have h := ((((CoreKept.refl s).set Reg.ADC_STATUS_SPARE_LOST 1 a 0).set Reg.ADC_EVENTS_SPARE_LOST 1 a 0).set Reg.ADC_STATUS_REQ_RUNNING 0 a 0).set Reg.ADC_STATUS_REQ_QUEUED 0 a 0
  unfold State.loseSpare
  dsimp only
  generalize (((s.set Reg.ADC_STATUS_SPARE_LOST 1 a).set Reg.ADC_EVENTS_SPARE_LOST 1 a).set Reg.ADC_STATUS_REQ_RUNNING 0 a).set Reg.ADC_STATUS_REQ_QUEUED 0 a = v at h
  exact (h.trans (setAdc_core _ _ _)).log _ _ _

theorem putMap_core (s : State) (a : Nat) (m : List Nat) (spare : Option Nat) : CoreKept s (s.putMap a m spare) := by
  have h := CoreKept.foldl (f := fun s k => s.setSliceByte a k (m.getD k 0x80)) (fun k v => setSliceByte_core v a k _) (List.range 65) s
  unfold State.putMap
  dsimp only
  generalize (List.range 65).foldl (fun s k => s.setSliceByte a k (m.getD k 0x80)) s = v at h
  exact (h.set _ _ _ _).set _ _ _ _

theorem takeChange_core (s : State) (a : Nat) : CoreKept s (s.takeChange a) := by
  unfold State.takeChange
  split
  · exact .refl s
  · next c _ =>
    dsimp only
    generalize hv : State.putMap _ a c.map c.spare = v
    have h1 : CoreKept s v := by
      rw [← hv]
      exact (setAdc_core _ _ _).trans (putMap_core _ _ _ _)
    have h2 : CoreKept s (if c.found.isSome then v.set Reg.ADC_STATUS_POS 0 a else v) := .ite (fun _ => h1.set _ _ _ _) fun _ => h1
    generalize (if c.found.isSome then v.set Reg.ADC_STATUS_POS 0 a else v) = w at h2
    exact .ite (fun _ => h2.set _ _ _ _) fun _ => h2.trans (loseSpare_core w a)

theorem clipFrame_core (m : FrameMeas) (s : State) (a : Nat) : CoreKept s (State.clipFrame m s a) := by
  have h := (CoreKept.refl s).bump Cnt.CLIP_CYCLES a 0 (m.clipCycles.getD a 0)
  unfold State.clipFrame
  dsimp only
  generalize s.bump Cnt.CLIP_CYCLES a 0 (m.clipCycles.getD a 0) = v at h
  refine .ite (fun _ => ?_) fun _ => ?_
  · have h1 := ((h.bump Cnt.OVL_FRAMES a 0 1).trans (setAdc_core _ a { v.adc a with cleanFrames := 0 })).set Reg.ADC_STATUS_OVL 1 a 0
    generalize ((v.bump Cnt.OVL_FRAMES a).setAdc a { v.adc a with cleanFrames := 0 }).set Reg.ADC_STATUS_OVL 1 a = w at h1
    exact .ite (fun _ => h1) fun _ => (h1.set _ _ _ _).log _ _ _
  · have h1 := h.trans (setAdc_core v a { v.adc a with cleanFrames := (v.adc a).cleanFrames + 1 })
    generalize v.setAdc a { v.adc a with cleanFrames := (v.adc a).cleanFrames + 1 } = w at h1
    exact .ite (fun _ => h1.set _ _ _ _) fun _ => h1

theorem adcFrame_core (m : FrameMeas) (s : State) (a : Nat) : CoreKept s (State.adcFrame m s a) :=
  .ite (fun _ => .refl s) fun _ => ((clipFrame_core m s a).trans (takeChange_core _ a)).trans (stepFrame_core m _ a)

theorem dacFrame_core (m : FrameMeas) (s : State) (d : Nat) : CoreKept s (State.dacFrame m s d) := by
  unfold State.dacFrame
  refine .ite (fun _ => .refl s) fun _ => .ite (fun _ => ((CoreKept.refl s).set _ _ _ _).set _ _ _ _) fun _ => ?_
  have h := (CoreKept.refl s).set Reg.DAC_STATUS_MUX_ERR (min (m.muxErr.getD d 0) 255) d 0
  dsimp only
  generalize s.set Reg.DAC_STATUS_MUX_ERR (min (m.muxErr.getD d 0) 255) d = v at h
  exact .ite (fun _ => ((h.set _ _ _ _).set _ _ _ _).bump _ _ _ _) fun _ => h

theorem convFrame_core (m : FrameMeas) (s : State) : CoreKept s (s.convFrame m) :=
  (CoreKept.foldl (f := State.adcFrame m) (fun a v => adcFrame_core m v a) _ s).trans (CoreKept.foldl (f := State.dacFrame m) (fun d v => dacFrame_core m v d) _ _)

/-! ### The receiver at a boundary (R156–R162, R334–R336) -/

theorem setFur_core (s : State) (f : Nat) (x : FurrowRx) : CoreKept s (s.setFur f x) := (CoreKept.refl s).same rfl

theorem setFrmFur_core (s : State) (f : Nat) (x : FrmFurrow) : CoreKept s (s.setFrmFur f x) := (CoreKept.refl s).same rfl

theorem setFecFur_core (s : State) (f : Nat) (x : FecFurrow) : CoreKept s (s.setFecFur f x) := (CoreKept.refl s).same rfl

theorem refreshLineLock_core (s : State) : CoreKept s s.refreshLineLock := by
  unfold State.refreshLineLock
  exact .ite (fun _ => ((CoreKept.refl s).set _ _ _ _).set _ _ _ _) fun _ => (CoreKept.refl s).set _ _ _ _

theorem leafLockChange_core (s : State) : CoreKept s s.leafLockChange := by
  have hself : ∀ (v : State) (x : LeafSelf), CoreKept v { v with self := x } := fun v _ => (CoreKept.refl v).same rfl
  unfold State.leafLockChange
  refine .ite (fun _ => .refl s) fun _ => .ite (fun _ => .ite (fun _ => (CoreKept.refl s).set _ _ _ _) fun _ => .refl s) fun _ => .ite (fun _ => .refl s) fun _ => ?_
  exact ((CoreKept.refl s).set _ _ _ _).trans (hself _ _)

theorem outOfFrame_core (s : State) (f : Nat) : CoreKept s (s.outOfFrame f) := by
  unfold State.outOfFrame
  dsimp only
  generalize hv : State.setFrmFur _ f _ = v
  have h1 : CoreKept s v := by
    rw [← hv]
    exact (((CoreKept.refl s).set _ _ _ _).set _ _ _ _).trans (setFrmFur_core _ _ _)
  have h2 : CoreKept s (if s.flag Reg.FRM_FR_STATUS_OOF f then v else ((v.set Reg.FRM_FR_STATUS_OOF 1 f).bump Cnt.OOF_EVENTS f).set Reg.FRM_FR_EVENTS_OOF 1 f) :=
    .ite (fun _ => h1) fun _ => ((h1.set _ _ _ _).bump _ _ _ _).set _ _ _ _
  generalize (if s.flag Reg.FRM_FR_STATUS_OOF f then v else ((v.set Reg.FRM_FR_STATUS_OOF 1 f).bump Cnt.OOF_EVENTS f).set Reg.FRM_FR_EVENTS_OOF 1 f) = w at h2
  exact (h2.trans (leafLockChange_core w)).trans (refreshLineLock_core _)

theorem refreshDefects_core (s : State) (f : Nat) : CoreKept s (s.refreshDefects f) := ((CoreKept.refl s).set _ _ _ _).set _ _ _ _

theorem setAcqState_core (s : State) (v : Nat) : CoreKept s (s.setAcqState v) := ((CoreKept.refl s).set _ _ _ _).trans (refreshLineLock_core _)

theorem withRx_core (s : State) (x : RxState) : CoreKept s { s with rx := x } := (CoreKept.refl s).same rfl

theorem enterLineLos_core (s : State) : CoreKept s s.enterLineLos := by
  have h1 := (((CoreKept.refl s).set Reg.RX_STATUS_LINE_LOS 1 0 0).set Reg.RX_EVENTS_LINE_LOS 1 0 0).bump Cnt.LINE_LOS_EVENTS 0 0 1
  unfold State.enterLineLos
  dsimp only
  generalize ((s.set Reg.RX_STATUS_LINE_LOS 1).set Reg.RX_EVENTS_LINE_LOS 1).bump Cnt.LINE_LOS_EVENTS = v at h1
  have h2 := h1.trans (CoreKept.foldl (f := fun (s : State) (f : Nat) => ((((s.setFur f { s.fur f with step := 0 }).set Reg.FR_STATUS_ACQ 0 f).outOfFrame f).refreshDefects f))
    (fun f v => (((setFur_core v f _).set _ _ _ _).trans (outOfFrame_core _ f)).trans (refreshDefects_core _ f)) v.lineFurrows v)
  generalize v.lineFurrows.foldl (fun (s : State) (f : Nat) => ((((s.setFur f { s.fur f with step := 0 }).set Reg.FR_STATUS_ACQ 0 f).outOfFrame f).refreshDefects f)) v = w at h2
  exact (h2.trans (withRx_core w _)).trans (setAcqState_core _ 0)

theorem withdraw_core (s : State) (f : Nat) : CoreKept s (s.withdraw f) := (setFur_core s f _).set _ _ _ _

theorem withdrawLost_core (s : State) (f : Nat) : CoreKept s (s.withdrawLost f) := .ite (fun _ => (withdraw_core s f).bump _ _ _ _) fun _ => .refl s

theorem startHunt_core (s : State) (f : Nat) : CoreKept s (s.startHunt f) := .ite (fun _ => .refl s) fun _ => ((CoreKept.refl s).set _ _ _ _).trans (setFecFur_core _ _ _)

theorem setMaskBit_core (s : State) (m : Field) (f v : Nat) : CoreKept s (s.setMaskBit m f v) := (CoreKept.refl s).set _ _ _ _

theorem cwLoss_core (s : State) (f reason : Nat) : CoreKept s (s.cwLoss f reason) := by
  unfold State.cwLoss
  dsimp only
  generalize hv : (if s.flag Reg.FEC_FR_STATUS_CW_LOCK f = true then State.logCw _ f reason else s) = v
  have h1 : CoreKept s v := by
    rw [← hv]
    exact .ite (fun _ => ((((((CoreKept.refl s).set _ _ _ _).trans (setMaskBit_core _ _ _ _)).bump _ _ _ _).set _ _ _ _).log _ _ _)) fun _ => .refl s
  have h2 := h1.trans (setFecFur_core v f { v.fecFur f with broken := true, badRun := 0 })
  generalize v.setFecFur f { v.fecFur f with broken := true, badRun := 0 } = w at h2
  have h3 : CoreKept s (if w.flag Reg.FR_STATUS_CAR_LOCK f then w.startHunt f else w.set Reg.FEC_FR_STATUS_HUNT 0 f) := .ite (fun _ => h2.trans (startHunt_core w f)) fun _ => h2.set _ _ _ _
  exact h3.trans (outOfFrame_core _ f)

theorem invalidFigures_core (s : State) (f : Nat) : CoreKept s (s.invalidFigures f) :=
  (((((((((CoreKept.refl s).set _ _ _ _).set _ _ _ _).set _ _ _ _).set _ _ _ _).set _ _ _ _).set _ _ _ _).set _ _ _ _).set _ _ _ _).set _ _ _ _

theorem refreshRefs_core (s : State) : CoreKept s s.refreshRefs := .of_tim (refreshRefs_only s)

theorem dropLocks_core (s : State) (f : Nat) (clk eq : Bool) (cw : Nat) : CoreKept s (s.dropLocks f clk eq cw) := by
  unfold State.dropLocks
  dsimp only
  have h1 : CoreKept s (if clk then s.set Reg.FR_STATUS_CLK_LOCK 0 f else s) := .ite (fun _ => (CoreKept.refl s).set _ _ _ _) fun _ => .refl s
  generalize (if clk then s.set Reg.FR_STATUS_CLK_LOCK 0 f else s) = v at h1
  have h2 : CoreKept s (if eq then v.set Reg.FR_STATUS_EQ_LOCK 0 f else v) := .ite (fun _ => h1.set _ _ _ _) fun _ => h1
  generalize (if eq then v.set Reg.FR_STATUS_EQ_LOCK 0 f else v) = w at h2
  refine .ite (fun _ => h2.trans (refreshRefs_core w)) fun _ => ?_
  have h3 := (((h2.set Reg.FR_STATUS_CAR_LOCK 0 f 0).trans (setFur_core _ f { s.fur f with upSince := none })).trans (cwLoss_core _ f cw))
  generalize ((w.set Reg.FR_STATUS_CAR_LOCK 0 f).setFur f { s.fur f with upSince := none }).cwLoss f cw = x at h3
  exact ((h3.trans (refreshDefects_core x f)).trans (invalidFigures_core _ f)).trans (refreshRefs_core _)

theorem leaveLock_core (s : State) (f : Nat) (clk eq : Bool) : CoreKept s (s.leaveLock f clk eq) := (withdrawLost_core s f).trans (dropLocks_core _ _ _ _ _)

theorem beginFurrow_core (s : State) (f step : Nat) (fast : Bool) : CoreKept s (s.beginFurrow f step fast) := (setFur_core s f _).set _ _ _ _

theorem startFullFurrow_core (s : State) (f : Nat) : CoreKept s (s.startFullFurrow f) := ((leaveLock_core s f true true).trans (beginFurrow_core _ _ _ _)).trans (refreshLineLock_core _)

theorem startFull_core (s : State) : CoreKept s s.startFull := by
  have h1 := withRx_core s { s.rx with step := 1, stepAt := s.clock, t0 := s.clock, full := true }
  unfold State.startFull
  dsimp only
  generalize hv : ({ s with rx := { s.rx with step := 1, stepAt := s.clock, t0 := s.clock, full := true } } : State) = v at h1
  exact (h1.trans (CoreKept.foldl (f := fun (s : State) (f : Nat) => (s.leaveLock f true true).beginFurrow f 1 false)
    (fun f v => (leaveLock_core v f true true).trans (beginFurrow_core _ _ _ _)) v.lineFurrows v)).trans (setAcqState_core _ 1)

theorem acquire_core (s : State) : CoreKept s s.acquire := by
  unfold State.acquire
  refine .ite (fun _ => .refl s) fun _ => .ite (fun _ => ?_) fun _ => startFull_core s
  exact CoreKept.foldl (fun f v => .ite (fun _ => startFullFurrow_core v f) fun _ => .refl v) _ s

theorem leaveLineLos_core (s : State) : CoreKept s s.leaveLineLos := by
  have h1 := (CoreKept.refl s).set Reg.RX_STATUS_LINE_LOS 0 0 0
  unfold State.leaveLineLos
  dsimp only
  generalize s.set Reg.RX_STATUS_LINE_LOS 0 = v at h1
  exact (h1.trans (CoreKept.foldl (f := State.refreshDefects) (fun f v => refreshDefects_core v f) v.lineFurrows v)).trans (acquire_core _)

theorem lineLosFrame_core (m : FrameMeas) (s : State) : CoreKept s (s.lineLosFrame m) := by
  unfold State.lineLosFrame
  dsimp only
  refine .ite (fun _ => ?_) fun _ => ?_
  · have h := withRx_core s { s.rx with aboveRun := 0 }
    exact .ite (fun _ => h) fun _ => h.trans (enterLineLos_core _)
  · have h := withRx_core s { s.rx with aboveRun := s.rx.aboveRun + 1 }
    exact .ite (fun _ => h.trans (leaveLineLos_core _)) fun _ => h

theorem txFrame_core (m : FrameMeas) (s : State) : CoreKept s (s.txFrame m) := by
  have htx : ∀ x : TxState, CoreKept s { s with tx := x } := fun _ => (CoreKept.refl s).same rfl
  unfold State.txFrame
  dsimp only
  generalize hv : ({ s with tx := { s.tx with words := _, scale := _ } } : State) = v
  have h1 : CoreKept s v := hv ▸ htx _
  generalize s.clipsIn _ = cycles
  have h2 : CoreKept s (if cycles.isEmpty then v else v.bump Cnt.TX_CLIP_CYCLES 0 0 cycles.length) := .ite (fun _ => h1) fun _ => h1.bump _ _ _ _
  exact .ite (fun _ => h2.set _ _ _ _) fun _ => h2

theorem squelchResume_core (s : State) : CoreKept s s.squelchResume := .ite (fun _ => (CoreKept.refl s).set _ _ _ _) fun _ => .refl s

theorem chooseJ_core (s : State) : CoreKept s s.chooseJ := (CoreKept.refl s).same rfl

theorem lineFrame_core (m : FrameMeas) (s : State) : CoreKept s (s.lineFrame m) := by
  unfold State.lineFrame
  exact .ite (fun _ => .refl s) fun _ => ((((convFrame_core m s).trans (lineLosFrame_core m _)).trans (txFrame_core m _)).trans (squelchResume_core _)).trans (chooseJ_core _)

/-! ### Connections, slip buffers and injectors at a boundary (R395–R410, R739–R741) -/

theorem CoreKept.of_written {s t : State} (h : MemWritten s t) : CoreKept s t := .of_mem (by obtain ⟨-, r, l, m, b, h⟩ := h; exact ⟨r, l, m, b, h⟩)

theorem free_core (s : State) (tag : Nat) : CoreKept s (s.free tag).2 := (CoreKept.refl s).same rfl

theorem setWordState_core (s : State) (mem inst word v : Nat) : CoreKept s (s.setWordState mem inst word v) := (CoreKept.refl s).same rfl

theorem readPage_core (s : State) : CoreKept s s.readPage := CoreKept.foldl (fun _ v => .of_mem (memRead_rest v _ _ _ _)) _ s

theorem streamWords_core (s : State) (mem inst : Nat) : CoreKept s (s.streamWords mem inst) := by
  have h1 := CoreKept.foldl (f := fun s (e : Nat × Nat) => (s.memRead mem inst (e.1 - wordKey mem inst 0) 9).2.setWordState mem inst (e.1 - wordKey mem inst 0) 0)
    (fun _ v => (CoreKept.of_mem (memRead_rest v _ _ _ _)).trans (setWordState_core _ _ _ _ _)) (s.mem.words.filter (fun e => wordKey mem inst 0 ≤ e.1 && e.1 < wordKey mem inst 0 + 2 ^ 23)) s
  unfold State.streamWords
  dsimp only
  generalize (s.mem.words.filter (fun e => wordKey mem inst 0 ≤ e.1 && e.1 < wordKey mem inst 0 + 2 ^ 23)).foldl
    (fun s (e : Nat × Nat) => (s.memRead mem inst (e.1 - wordKey mem inst 0) 9).2.setWordState mem inst (e.1 - wordKey mem inst 0) 0) s = v at h1
  refine .ite (fun _ => ?_) fun _ => h1
  exact (h1.trans (free_core v 564)).trans (.of_written (memWritten_memWrite _ _ _ _ _))

theorem setSlip_core (s : State) (t : Nat) (out : Bool) (x : SlipBuf) : CoreKept s (s.setSlip t out x) := (CoreKept.refl s).same rfl

theorem slipOutbound_core (m : FrameMeas) (s : State) (t : Nat) : CoreKept s (s.slipOutbound m t) := .ite (fun _ => .refl s) fun _ => setSlip_core _ _ _ _

theorem tsiFrame_core (m : FrameMeas) (s : State) : CoreKept s (s.tsiFrame m) := by
  unfold State.tsiFrame
  refine .ite (fun _ => .refl s) fun _ => ?_
  dsimp only
  have h1 := ((readPage_core s).trans (streamWords_core _ 10 2)).trans (streamWords_core _ 11 0)
  generalize (s.readPage.streamWords 10 2).streamWords 11 0 = v at h1
  have h2 : CoreKept s (if s.timed.isEmpty then v else v.streamWords 11 1) := .ite (fun _ => h1) fun _ => h1.trans (streamWords_core v 11 1)
  generalize (if s.timed.isEmpty then v else v.streamWords 11 1) = w at h2
  have h3 := h2.trans (CoreKept.foldl (f := State.slipOutbound m) (fun t v => slipOutbound_core m v t) s.timed w)
  generalize s.timed.foldl (State.slipOutbound m) w = x at h3
  generalize hy : (List.range 256).foldl _ x = y
  have h4 : CoreKept s y := by
    rw [← hy]
    refine h3.trans (CoreKept.foldl (fun t v => .ite (fun _ => .refl v) fun _ => ?_) _ x)
    have h := (CoreKept.refl v).set Reg.TN_STATUS_RILLS_LIVE ((v.feeds t).length - (v.lostMembers t).length) t 0
    generalize v.set Reg.TN_STATUS_RILLS_LIVE ((v.feeds t).length - (v.lostMembers t).length) t = u at h
    exact .ite (fun _ => h.bump _ _ _ _) fun _ => h
  generalize hz : m.waits.foldl _ y = z
  have h5 : CoreKept s z := by
    rw [← hz]
    exact h4.trans (CoreKept.foldl (fun w v => ((CoreKept.refl v).set _ _ _ _).set _ _ _ _) _ y)
  exact .ite (fun _ => h5) fun _ => h5.bump _ _ _ _

theorem setInjector_core (s : State) (i : Nat) (x : Option Injector) : CoreKept s (s.setInjector i x) := (CoreKept.refl s).same rfl

theorem fiEnd_core (s : State) (i : Nat) : CoreKept s (s.fiEnd i) := by
  have h := setInjector_core s i none
  unfold State.fiEnd State.refreshFi
  generalize s.setInjector i none = v at h
  exact ((h.set _ _ _ _).set _ _ _ _).set _ _ _ _

/-- What an injector makes of a unit that it has chosen. -/
def State.fiHit (s : State) (x : Injector) (i bits : Nat) : State × FiVerdict :=
  let s1 := if x.spent && x.action ≠ 3 then s.fiEnd i else s
  if x.action = 1 then (s1, .drop)
  else if x.action = 2 then let b := s1.free 741; (b.2, .corrupt (b.1 % max 1 bits))
  else (s1, .hold)

theorem fiHit_core (s : State) (x : Injector) (i bits : Nat) : CoreKept s (s.fiHit x i bits).1 := by
  unfold State.fiHit
  dsimp only
  have h1 : CoreKept s (if x.spent && x.action ≠ 3 then s.fiEnd i else s) := .ite (fun _ => fiEnd_core s i) fun _ => .refl s
  generalize (if x.spent && x.action ≠ 3 then s.fiEnd i else s) = v at h1
  split
  · exact h1
  · split
    · exact h1.trans (free_core v 741)
    · exact h1

theorem fiUnit_core (s : State) (point target bits : Nat) : CoreKept s (s.fiUnit point target bits).1 := by
  unfold State.fiUnit
  split
  · exact .refl s
  · next i x _ =>
    dsimp only
    generalize hr : (if x.periodic = true then (x.seen + 1, s) else s.free 740) = r
    have h1 : CoreKept s r.2 := by
      rw [← hr]
      split
      · exact .refl s
      · exact free_core s 740
    generalize hc : (!x.spent && x.held.isNone && r.1 % 2 ^ x.n == 0) = chosen
    cases chosen with
    | false => exact h1.trans (setInjector_core _ _ _)
    | true =>
      rw [if_neg (by decide)]
      exact ((h1.trans (setInjector_core r.2 i _)).bump _ _ _ _).trans (fiHit_core _ { x with seen := x.seen + 1, hits := x.hits + 1 } i bits)

theorem fiPassed_core (s : State) (point target : Nat) : CoreKept s (s.fiPassed point target).1 := by
  unfold State.fiPassed
  split
  · exact .refl s
  · next i x _ =>
    split
    · exact .refl s
    · next h _ =>
      split
      · exact setInjector_core _ _ _
      · dsimp only
        have h1 := setInjector_core s i (some { x with held := none })
        generalize s.setInjector i (some { x with held := none }) = v at h1
        exact .ite (fun _ => h1.trans (fiEnd_core v i)) fun _ => h1

theorem fiHold_core (s : State) (point target : Nat) (h : FiHeld) : CoreKept s (s.fiHold point target h) := by
  unfold State.fiHold
  split
  · exact setInjector_core _ _ _
  · exact .refl s

/-! ### Lanes at a boundary (R570–R599) -/

theorem setLaneData_core (s : State) (l : Nat) (x : LaneData) : CoreKept s (s.setLaneData l x) := (CoreKept.refl s).setLane _ _

theorem setTlane_core (s : State) (t : Nat) (x : TLane) : CoreKept s (s.setTlane t x) := (CoreKept.refl s).same rfl

theorem generate_core (s : State) (l n : Nat) : CoreKept s (s.generate l n) := (CoreKept.refl s).setLane _ _

theorem toward_core (s : State) (m : FrameMeas) (l : Nat) : CoreKept s (s.toward m l) := by
  unfold State.toward
  dsimp only
  split
  · exact setLaneData_core _ _ _
  · exact setLaneData_core _ _ _
  · exact generate_core _ _ _
  · exact .refl s

theorem farLoop_core (s : State) (m : FrameMeas) (l : Nat) : CoreKept s (s.farLoop m l) := by
  unfold State.farLoop
  refine .ite (fun _ => .refl s) fun _ => ?_
  dsimp only
  generalize hv : s.setLaneData l _ = v
  have h : CoreKept s v := hv ▸ setLaneData_core _ _ _
  refine .ite (fun _ => h) fun _ => ?_
  rw [quenchDiscardsLane_regs]
  exact h.bump _ _ _ _

theorem transmit_core (s : State) (l : Nat) : CoreKept s (s.transmit l) := setLaneData_core _ _ _

theorem laneSends_core (m : FrameMeas) (s : State) (l : Nat) : CoreKept s (s.laneSends m l) :=
  .ite (fun _ => setLaneData_core _ _ _) fun _ => ((toward_core s m l).trans (farLoop_core _ m l)).trans (transmit_core _ l)

theorem fiCodewords_core (s : State) (l : Nat) (cws : List (List Nat)) : CoreKept s (s.fiCodewords l cws).2 := by
  unfold State.fiCodewords
  exact CoreKept.collects (fun _ _ v => fiUnit_core v 2 l 5440) cws [] s

theorem withTsi_core (s : State) (x : TsiState) : CoreKept s { s with tsi := x } := (CoreKept.refl s).same rfl

theorem auiOut_core (s : State) (t : Nat) (bs : List (BitVec 66)) : CoreKept s (s.auiOut t bs) := by
  unfold State.auiOut
  dsimp only
  generalize hls : (if s.flag Reg.TN_PKT_HOST_PORT t = true then s.hostLanesOf t else s.clientLanesOf t) = ls
  generalize hr : s.fiCodewords (ls.headD 0) _ = r
  have h1 : CoreKept s r.2 := hr ▸ fiCodewords_core _ _ _
  generalize hv : ({ r.2 with tsi := _ } : State) = v
  have h2 : CoreKept s v := h1.trans (hv ▸ withTsi_core _ _)
  exact h2.trans (CoreKept.foldl (fun e u => setLaneData_core u _ _) _ v)

theorem ethFrame_core (s : State) (e : EthFrame) : CoreKept s (s.ethFrame e) := by
  unfold State.ethFrame
  refine .ite (fun _ => .refl s) fun _ => ?_
  dsimp only
  exact (withTsi_core s _).trans (auiOut_core _ _ _)

theorem ethFrames_core (m : FrameMeas) (s : State) : CoreKept s (s.ethFrames m) := by
  unfold State.ethFrames
  refine .ite (fun _ => ?_) fun _ => .refl s
  exact (CoreKept.foldl (fun l v => setLaneData_core v l _) (List.range 16) s).trans (CoreKept.foldl (f := State.ethFrame) (fun e v => ethFrame_core v e) _ _)

theorem rlSend_core (s : State) (l : Nat) (bs : List (Nat × Nat)) : CoreKept s (s.rlSend l bs) := by
  unfold State.rlSend
  refine (setLaneData_core s l _).trans (CoreKept.foldl (fun b v => ?_) bs _)
  have hafter : ∀ (u : State) (y : LaneData), CoreKept v u → CoreKept v ((u.setLaneData l y).fiPassed 2 l).1 := fun u y h => (h.trans (setLaneData_core u l y)).trans (fiPassed_core _ 2 l)
  have h1 := fiUnit_core v 2 l 66
  generalize v.fiUnit 2 l 66 = r at h1
  dsimp only
  split
  · split
    · exact (hafter _ _ h1).trans (setLaneData_core _ _ _)
    · exact hafter _ _ h1
  · split
    · exact (hafter _ _ h1).trans (setLaneData_core _ _ _)
    · exact hafter _ _ h1
  · split
    · exact (hafter _ _ h1).trans (setLaneData_core _ _ _)
    · exact hafter _ _ h1
  · exact h1.trans (fiHold_core _ _ _ _)

theorem rillLinkOut_core (s : State) (m : FrameMeas) (h : Nat) : CoreKept s (s.rillLinkOut m h) := by
  unfold State.rillLinkOut
  exact .ite (fun _ => .refl s) fun _ => (withTsi_core s _).trans (rlSend_core _ _ _)

theorem rillLinksOut_core (m : FrameMeas) (s : State) : CoreKept s (s.rillLinksOut m) := by
  unfold State.rillLinksOut
  exact .ite (fun _ => CoreKept.foldl (fun h v => rillLinkOut_core v m h) _ s) fun _ => .refl s

theorem moduleSend_core (s : State) (m : FrameMeas) (l src : Nat) (fallback prbs : Bool) (enc : List Bool → List Bool) : CoreKept s (s.moduleSend m l src fallback prbs enc) := by
  unfold State.moduleSend
  exact .ite (fun _ => setLaneData_core _ _ _) fun _ => .ite (fun _ => setLaneData_core _ _ _) fun _ => setLaneData_core _ _ _

theorem crossed_core (s : State) (m : FrameMeas) (l : Nat) : CoreKept s (s.crossed m l) := setLaneData_core _ _ _

theorem modulePair_core (m : FrameMeas) (s : State) (k : Nat) : CoreKept s (s.modulePair m k) := by
  unfold State.modulePair
  refine .ite (fun _ => .refl s) fun _ => ?_
  dsimp only
  generalize hv : s.moduleSend m (16 + k) _ _ _ _ = v
  have h1 : CoreKept s v := hv ▸ moduleSend_core _ _ _ _ _ _ _
  exact ((h1.trans (moduleSend_core v _ _ _ _ _ _)).trans (crossed_core _ _ _)).trans (crossed_core _ _ _)

theorem modulePath_core (m : FrameMeas) (s : State) : CoreKept s (s.modulePath m) := CoreKept.foldl (f := State.modulePair m) (fun k v => modulePair_core m v k) _ s

theorem tlaneSends_core (s : State) (t : Nat) : CoreKept s (s.tlaneSends t) := by
  unfold State.tlaneSends
  exact .ite (fun _ => setTlane_core _ _ _) fun _ => setTlane_core _ _ _

theorem lanesOut_core (m : FrameMeas) (s : State) : CoreKept s (s.lanesOut m) := by
  have h1 := ((ethFrames_core m s).trans (rillLinksOut_core m _)).trans (modulePath_core m _)
  have h2 := h1.trans (CoreKept.foldl (f := State.laneSends m) (fun l v => laneSends_core m v l) (List.range 24) _)
  exact (h2.trans (tlaneSends_core _ 0)).trans (tlaneSends_core _ 1)

/-- What a lane shows of the signal that it measured. -/
def State.snrShown (s : State) (x : LaneMeas) : State := match x.snr with
  | none => s
  | some v =>
    if nrz (s.laneRate x.lane) then (s.set Reg.LN_FOM_SNR v x.lane).set Reg.LN_EYE_EYE_MID x.eyes.2.1 x.lane
    else (((s.set Reg.LN_FOM_SNR v x.lane).set Reg.LN_EYE_EYE_MID x.eyes.2.1 x.lane).set Reg.LN_EYE_EYE_LO x.eyes.1 x.lane).set Reg.LN_EYE_EYE_HI x.eyes.2.2 x.lane

/-- What a media lane shows of its branch metrics. -/
def State.alphaShown (s : State) (x : LaneMeas) (fixed : Bool) : State := match x.alpha with
  | some v => if fixed then s else s.set Reg.MOD_STATUS_ALPHA_NOW (min v 48) x.lane
  | none => s

/-- What a lane measured in a local frame, pattern and inner code included. -/
def State.laneMeasured (s : State) (x : LaneMeas) : State :=
  if 24 ≤ x.lane || !s.laneLive x.lane || s.rxState x.lane ≠ 3 then s
  else
    let b := if s.flag Reg.LN_STATUS_PAT_LOCK x.lane then ((s.snrShown x).bump Cnt.PAT_BITS x.lane 0 x.patBits).bump Cnt.PAT_ERRS x.lane 0 x.patErrs else s.snrShown x
    if x.lane < 16 || s.mode ≠ 3 || s.laneFormat x.lane ≠ 4 then b
    else
      (if s.flag Reg.MOD_STATUS_INNER_LOCK x.lane then
        ((b.bump Cnt.INNER_CW x.lane 0 x.innerCw).bump Cnt.INNER_BITS_CORR x.lane 0 x.innerBits).bump Cnt.INNER_UNCORR x.lane 0 x.innerUncorr else b).alphaShown x
        (s.flag Reg.MOD_CFG_ALPHA_FIX x.lane || s.get Reg.MOD_CFG_SD_MODE x.lane = 0)

/-- What a port measured in a local frame. -/
def State.portMeasured (s : State) (p : PortMeas) : State :=
  if p.lane < 16 && (s.portAt p.lane).isSome then
    ((s.set Reg.PORT_STATUS_LF_RX (b2n p.lf) p.lane).set Reg.PORT_STATUS_RF_RX (b2n p.rf) p.lane).set Reg.PORT_STATUS_SKEW (min p.skew 255) p.lane
  else s

theorem laneFrame_eq (m : FrameMeas) (s : State) : s.laneFrame m = m.ports.foldl State.portMeasured (m.lanes.foldl State.laneMeasured s) := rfl

theorem snrShown_core (s : State) (x : LaneMeas) : CoreKept s (s.snrShown x) := by
  unfold State.snrShown
  split
  · exact .refl s
  · exact .ite (fun _ => ((CoreKept.refl s).set _ _ _ _).set _ _ _ _) fun _ => ((((CoreKept.refl s).set _ _ _ _).set _ _ _ _).set _ _ _ _).set _ _ _ _

theorem alphaShown_core (s : State) (x : LaneMeas) (fixed : Bool) : CoreKept s (s.alphaShown x fixed) := by
  unfold State.alphaShown
  split
  · exact .ite (fun _ => .refl s) fun _ => (CoreKept.refl s).set _ _ _ _
  · exact .refl s

theorem laneMeasured_core (s : State) (x : LaneMeas) : CoreKept s (s.laneMeasured x) := by
  have h1 := snrShown_core s x
  unfold State.laneMeasured
  refine .ite (fun _ => .refl s) fun _ => ?_
  generalize s.snrShown x = a at h1
  have h2 : CoreKept s (if s.flag Reg.LN_STATUS_PAT_LOCK x.lane then (a.bump Cnt.PAT_BITS x.lane 0 x.patBits).bump Cnt.PAT_ERRS x.lane 0 x.patErrs else a) :=
    .ite (fun _ => (h1.bump _ _ _ _).bump _ _ _ _) fun _ => h1
  dsimp only
  generalize (if s.flag Reg.LN_STATUS_PAT_LOCK x.lane then (a.bump Cnt.PAT_BITS x.lane 0 x.patBits).bump Cnt.PAT_ERRS x.lane 0 x.patErrs else a) = b at h2
  refine .ite (fun _ => h2) fun _ => CoreKept.trans ?_ (alphaShown_core _ _ _)
  exact .ite (fun _ => ((h2.bump _ _ _ _).bump _ _ _ _).bump _ _ _ _) fun _ => h2

theorem laneFrame_core (m : FrameMeas) (s : State) : CoreKept s (s.laneFrame m) := by
  rw [laneFrame_eq]
  exact (CoreKept.foldl (f := State.laneMeasured) (fun x v => laneMeasured_core v x) m.lanes s).trans
    (CoreKept.foldl (f := State.portMeasured) (fun p v => .ite (fun _ => (((CoreKept.refl v).set _ _ _ _).set _ _ _ _).set _ _ _ _) fun _ => .refl v) m.ports _)

theorem setProt_core (s : State) (p : ProtState) : CoreKept s (s.setProt p) := (CoreKept.refl s).same rfl

theorem pqFrame_core (s : State) (pq : Option (Byte × Byte)) : CoreKept s (s.pqFrame pq) := by
  unfold State.pqFrame
  dsimp only
  split
  · exact (setProt_core s _).bump _ _ _ _
  · exact .ite (fun _ => ((((setProt_core s _).set _ _ _ _).set _ _ _ _).set _ _ _ _).set _ _ _ _) fun _ => setProt_core s _

theorem pqLocal_core (s : State) : CoreKept s s.pqLocal := .ite (fun _ => pqFrame_core s none) fun _ => .refl s

theorem setHoldoff_core (s : State) (i : Nat) (h : Option (Nat × Nat)) : CoreKept s (s.setHoldoff i h) := setProt_core _ _

theorem defectFrame_core (s : State) (i : Nat) : CoreKept s (s.defectFrame i) := by
  unfold State.defectFrame
  dsimp only
  have h1 := (CoreKept.refl s).set (defectField i) (b2n (s.protDefect i)) 0 0
  generalize s.set (defectField i) (b2n (s.protDefect i)) = v at h1
  refine .ite (fun _ => .ite (fun _ => h1.trans (setProt_core v _)) fun _ => h1.trans (setHoldoff_core v _ _)) fun _ => .ite (fun _ => ?_) fun _ => h1
  have h2 := h1.trans (setProt_core v { v.prot with raised := putBits v.prot.raised i 1 0 })
  generalize v.setProt { v.prot with raised := putBits v.prot.raised i 1 0 } = w at h2
  exact .ite (fun _ => ((h2.trans (setHoldoff_core w i none)).bump _ _ _ _).set _ _ _ _) fun _ => h2

theorem protEvaluate_core (s : State) : CoreKept s s.protEvaluate := by
  unfold State.protEvaluate
  dsimp only
  generalize hv : s.setProt _ = v
  have h1 : CoreKept s v := hv ▸ setProt_core _ _
  generalize hc : (s.prot.wtr.isSome && decide (5 < s.topRequest.1)) = cancel
  have h2 : CoreKept s (if cancel then v.bump Cnt.WTR_CANCELS else v) := .ite (fun _ => h1.bump _ _ _ _) fun _ => h1
  exact (((h2.set _ _ _ _).set _ _ _ _).set _ _ _ _).set _ _ _ _

theorem protLeft_core (s : State) : CoreKept s s.protLeft := (((CoreKept.refl s).set _ _ _ _).set _ _ _ _).set _ _ _ _

theorem protFrame_core (s : State) : CoreKept s s.protFrame :=
  .ite (fun _ => ((CoreKept.foldl (f := State.defectFrame) (fun i v => defectFrame_core v i) _ s).trans (protEvaluate_core _)).trans (protLeft_core _)) fun _ => .refl s

theorem groupBits_core (s : State) (m : FrameMeas) (t : Nat) : CoreKept s (s.groupBits m t).2 := by
  unfold State.groupBits
  dsimp only
  split
  · exact .refl s
  · split
    · exact (CoreKept.refl s).same rfl
    · split
      · exact .refl s
      · exact .refl s
      · exact withTsi_core s _
      · exact .refl s

theorem groupsOut_core (s : State) (m : FrameMeas) : CoreKept s (s.groupsOut m).2 := by
  unfold State.groupsOut
  exact CoreKept.collects (fun t _ v => groupBits_core v m t) _ [] s

theorem sendFrames_core (m : FrameMeas) (s : State) : CoreKept s (s.sendFrames m) := by
  unfold State.sendFrames
  refine .ite (fun _ => .refl s) fun _ => ?_
  have h := groupsOut_core s m
  dsimp only
  generalize s.groupsOut m = g at h
  exact h.same rfl

/-! ### What a multiframe boundary leaves (R171, R344, R348) -/

theorem setQuench_core (s : State) (kind idx : Nat) (q : Option Quench) : CoreKept s (s.setQuench kind idx q) := (CoreKept.refl s).same rfl

theorem setQState_core (s : State) (kind idx v : Nat) : CoreKept s (s.setQState kind idx v) := (CoreKept.refl s).set _ _ _ _

theorem enableObj_core (s : State) (kind idx : Nat) : CoreKept s (s.enableObj kind idx) := by
  unfold State.enableObj
  split
  · exact setQuench_core _ _ _ _
  · exact (setQState_core _ _ _ _).trans (setQuench_core _ _ _ _)

theorem startQuench_core (s : State) (kind idx : Nat) : CoreKept s (s.startQuench kind idx) := by
  unfold State.startQuench
  split
  · exact (setQState_core _ _ _ _).trans (setQuench_core _ _ _ _)
  · exact setQuench_core _ _ _ _
  · exact setQuench_core _ _ _ _

theorem latReturn_core (s : State) (lat : Nat) : CoreKept s (s.latReturn lat) := .ite (fun _ => .refl s) fun _ => (CoreKept.refl s).same rfl

theorem switchEnd_core (s : State) : CoreKept s s.switchEnd := .ite (fun _ => (((CoreKept.refl s).set _ _ _ _).set _ _ _ _).set _ _ _ _ |>.log _ _ _) fun _ => .refl s

theorem refreshEng_core (s : State) : CoreKept s s.refreshEng := (((CoreKept.refl s).set _ _ _ _).set _ _ _ _).trans (switchEnd_core _)

theorem laneOn_core (s : State) (l : Nat) : CoreKept s (s.laneOn l) := ((CoreKept.refl s).set _ _ _ _).set _ _ _ _

theorem applyPending_core (s : State) : CoreKept s s.applyPending := by
  unfold State.applyPending
  refine CoreKept.foldl (fun o v => ?_) _ s
  dsimp only
  have h := enableObj_core v o.1 o.2
  generalize v.enableObj o.1 o.2 = w at h
  split
  · exact (h.trans (latReturn_core w _)).trans (refreshEng_core _)
  · exact .ite (fun _ => h.trans (laneOn_core w _)) fun _ => h
  · exact h

theorem logDefect_core (s : State) (f defect dir : Nat) : CoreKept s (s.logDefect f defect dir) := (CoreKept.refl s).log _ _ _

theorem setFail_core (s : State) (f : Nat) (on : Bool) : CoreKept s (s.setFail f on) := by
  have h1 := (((CoreKept.refl s).set Reg.FEC_FR_STATUS_FEC_FAIL (b2n on) f 0).trans (setMaskBit_core _ Reg.FAIL_MASK_MASK f (b2n on))).trans (logDefect_core _ f 1 (b2n on))
  unfold State.setFail
  dsimp only
  generalize ((s.set Reg.FEC_FR_STATUS_FEC_FAIL (b2n on) f).setMaskBit Reg.FAIL_MASK_MASK f (b2n on)).logDefect f 1 (b2n on) = v at h1
  have h2 : CoreKept s (if on then (v.bump Cnt.FEC_FAIL_EVENTS f).set Reg.FEC_FR_EVENTS_FEC_FAIL 1 f else v) := .ite (fun _ => (h1.bump _ _ _ _).set _ _ _ _) fun _ => h1
  exact h2.trans (refreshDefects_core _ f)

theorem setDeg_core (s : State) (f : Nat) (on : Bool) : CoreKept s (s.setDeg f on) := by
  have h1 := (((CoreKept.refl s).set Reg.FEC_FR_STATUS_FEC_DEG (b2n on) f 0).trans (setMaskBit_core _ Reg.DEG_MASK_MASK f (b2n on))).trans (logDefect_core _ f 2 (b2n on))
  unfold State.setDeg
  dsimp only
  generalize ((s.set Reg.FEC_FR_STATUS_FEC_DEG (b2n on) f).setMaskBit Reg.DEG_MASK_MASK f (b2n on)).logDefect f 2 (b2n on) = v at h1
  have h2 : CoreKept s (if on then v.set Reg.FEC_FR_EVENTS_FEC_DEG 1 f else v) := .ite (fun _ => h1.set _ _ _ _) fun _ => h1
  exact h2.trans (refreshDefects_core _ f)

theorem fecMultiframe_core (s : State) (f : Nat) : CoreKept s (s.fecMultiframe f) := by
  unfold State.fecMultiframe
  dsimp only
  generalize hv : s.setFecFur f _ = v
  have h1 : CoreKept s v := hv ▸ setFecFur_core _ _ _
  exact .ite (fun _ => h1.trans (setFail_core v f true)) fun _ => .ite (fun _ => h1.trans (setFail_core v f false)) fun _ => h1

theorem fecPeriod_core (s : State) (f : Nat) : CoreKept s (s.fecPeriod f) := by
  unfold State.fecPeriod
  dsimp only
  generalize hv : s.setFecFur f _ = v
  have h1 : CoreKept s v := hv ▸ setFecFur_core _ _ _
  exact .ite (fun _ => h1.trans (setDeg_core v f true)) fun _ => .ite (fun _ => h1.trans (setDeg_core v f false)) fun _ => h1

theorem applyEntropy_core (s : State) (f h : Nat) : CoreKept s (s.applyEntropy f h) := by
  unfold State.applyEntropy
  dsimp only
  generalize hv : (s.set Reg.FR_STATUS_H_NOW h f).set Reg.FR_STATUS_RILLS_CARRIED _ f = v
  have h1 : CoreKept s v := hv ▸ ((CoreKept.refl s).set _ _ _ _).set _ _ _ _
  exact .ite (fun _ => (h1.bump _ _ _ _).set _ _ _ _) fun _ => h1

theorem entropySwitch_core (s : State) (f : Nat) : CoreKept s (s.entropySwitch f) := by
  unfold State.entropySwitch
  split
  · next q _ =>
    refine .ite (fun _ => ?_) fun _ => .refl s
    dsimp only
    have h1 := ((withdraw_core s f).bump Cnt.ADAPT_CHANGES f 0 1).set Reg.FR_EVENTS_ADAPT_CHANGE 1 f 0
    generalize ((s.withdraw f).bump Cnt.ADAPT_CHANGES f).set Reg.FR_EVENTS_ADAPT_CHANGE 1 f = v at h1
    exact ((h1.trans (setFur_core v f _)).log _ _ _).trans (applyEntropy_core _ f _)
  · exact .refl s

theorem withTx_core (s : State) (x : TxState) : CoreKept s { s with tx := x } := (CoreKept.refl s).same rfl

theorem dropSwitch_core (s : State) (f : Nat) : CoreKept s (s.dropSwitch f) := (withTx_core s _).set _ _ _ _

theorem txEntropySwitch_core (s : State) (f : Nat) : CoreKept s (s.txEntropySwitch f) := by
  unfold State.txEntropySwitch
  split
  · exact .ite (fun _ => (((dropSwitch_core s f).set _ _ _ _).bump _ _ _ _).set _ _ _ _) fun _ => .refl s
  · exact .refl s

theorem switchEntropies_core (s : State) : CoreKept s s.switchEntropies :=
  CoreKept.foldl (f := fun (s : State) (f : Nat) => (s.entropySwitch f).txEntropySwitch f) (fun f v => (entropySwitch_core v f).trans (txEntropySwitch_core _ f)) _ s

theorem setClamp_core (s : State) (loop inst : Nat) (c : Option Clamp) : CoreKept s (s.setClamp loop inst c) := (CoreKept.refl s).same rfl

theorem startClamp_core (s : State) (loop inst dir : Nat) (bound target : Int) : CoreKept s (s.startClamp loop inst dir bound target) :=
  (((setClamp_core s loop inst _).log _ _ _).bump _ _ _ _).set _ _ _ _

theorem clampCheck_core (s : State) (loop inst : Nat) (target : Int) : CoreKept s (s.clampCheck loop inst target) := by
  unfold State.clampCheck
  refine .ite (fun _ => ?_) fun _ => ?_
  · dsimp only
    split
    · exact .ite (fun _ => setClamp_core _ _ _ _) fun _ => startClamp_core _ _ _ _ _ _
    · exact startClamp_core _ _ _ _ _ _
  · split
    · exact setClamp_core _ _ _ _
    · exact .refl s

theorem adaptDecide_core (s : State) (f snr : Nat) : CoreKept s (s.adaptDecide f snr) := by
  unfold State.adaptDecide
  dsimp only
  have h1 := (setFur_core s f { s.fur f with upSince := (s.entropyTarget f snr).2 }).trans (clampCheck_core _ 1 f (Int.ofNat (s.entropyTarget f snr).1))
  generalize (s.setFur f { s.fur f with upSince := (s.entropyTarget f snr).2 }).clampCheck 1 f (Int.ofNat (s.entropyTarget f snr).1) = v at h1
  exact .ite (fun _ => h1.trans ((setFur_core v f _).set _ _ _ _)) fun _ => h1

theorem furrowFigures_core (s : State) (f : Nat) (g : Figures) (ber : Option Nat) : CoreKept s (s.furrowFigures f g ber) := by
  unfold State.furrowFigures
  dsimp only
  generalize hv : (s.setFur f { s.fur f with updatedAt := s.devNs }).set Reg.FR_NOISE_FLOOR_NF _ f = v
  have h1 : CoreKept s v := hv ▸ (setFur_core s f _).set _ _ _ _
  refine .ite (fun _ => h1.trans (invalidFigures_core v f)) fun _ => ?_
  exact ((((((((h1.set _ _ _ _).set _ _ _ _).set _ _ _ _).set _ _ _ _).set _ _ _ _).set _ _ _ _).set _ _ _ _).set _ _ _ _).set _ _ _ _

theorem updateFurrow_core (s : State) (f : Nat) (g : Option Figures) : CoreKept s (s.updateFurrow f g) := by
  unfold State.updateFurrow
  dsimp only
  split
  · next g _ =>
    have h1 := furrowFigures_core s f g (s.periodBer f)
    generalize s.furrowFigures f g (s.periodBer f) = v at h1
    exact .ite (fun _ => h1.trans (adaptDecide_core v f _)) fun _ => h1
  · exact (invalidFigures_core s f).set _ _ _ _

theorem lineFigures_core (s : State) : CoreKept s s.lineFigures := (((CoreKept.refl s).set _ _ _ _).set _ _ _ _).set _ _ _ _

theorem updatePeriod_core (figs : List Figures) (s : State) : CoreKept s (s.updatePeriod figs) := by
  have h1 := CoreKept.foldl (f := fun (s : State) (f : Nat) => (s.updateFurrow f figs[f]?).fecPeriod f) (fun f v => (updateFurrow_core v f _).trans (fecPeriod_core _ f)) (List.range 32) s
  unfold State.updatePeriod
  dsimp only
  generalize (List.range 32).foldl (fun (s : State) (f : Nat) => (s.updateFurrow f figs[f]?).fecPeriod f) s = v at h1
  exact (h1.trans (withRx_core v _)).trans (lineFigures_core _)

theorem countPeriod_core (figs : List Figures) (s : State) : CoreKept s (s.countPeriod figs) := .ite (fun _ => updatePeriod_core figs s) fun _ => withRx_core s _

theorem withSelf_core (s : State) (x : LeafSelf) : CoreKept s { s with self := x } := (CoreKept.refl s).same rfl

theorem leafUpdates_core (s : State) (now : Nat) : CoreKept s (s.leafUpdates now) := by
  unfold State.leafUpdates
  dsimp only
  generalize hv : List.foldl _ s _ = v
  have h1 : CoreKept s v := by
    rw [← hv]
    refine CoreKept.foldl (fun u w => ?_) _ s
    obtain ⟨due, eqd, freq⟩ := u
    cases eqd with
    | none =>
      cases freq with
      | none => exact .refl w
      | some f => exact (CoreKept.refl w).set _ _ _ _
    | some e =>
      cases freq with
      | none => exact (CoreKept.refl w).set _ _ _ _
      | some f => exact ((CoreKept.refl w).set _ _ _ _).set _ _ _ _
  exact h1.trans (withSelf_core v _)

theorem leafBoundary_core (s : State) : CoreKept s s.leafBoundary := .ite (fun _ => leafUpdates_core s _) fun _ => .refl s

theorem lineMultiframe_core (figs : List Figures) (s : State) : CoreKept s (s.lineMultiframe figs) :=
  .ite (fun _ => .refl s) fun _ => (((CoreKept.foldl (f := State.fecMultiframe) (fun f v => fecMultiframe_core v f) _ s).trans (switchEntropies_core _)).trans (countPeriod_core figs _)).trans (leafBoundary_core _)

theorem tapHit_core (s : State) : CoreKept s s.tapHit := .ite (fun _ => (CoreKept.refl s).same rfl) fun _ => .refl s

theorem logSwitch_core (s : State) (target old new code source : Nat) : CoreKept s (s.logSwitch target old new code source) := (((CoreKept.refl s).bump _ _ _ _).set _ _ _ _).log _ _ _

theorem protMove_core (s : State) (side code source : Nat) : CoreKept s (s.protMove side code source) := by
  unfold State.protMove
  dsimp only
  generalize hv : (((s.logSwitch 0xFFFF _ side code source).set Reg.PROT_STATUS_SEL side).set Reg.PROT_STATUS_SRC source).set Reg.PROT_STATUS_SETTLING 1 = v
  have h1 : CoreKept s v := hv ▸ (((logSwitch_core s _ _ _ _ _).set _ _ _ _).set _ _ _ _).set _ _ _ _
  exact h1.trans (setProt_core v _)

theorem protBoundary_core (s : State) : CoreKept s s.protBoundary := by
  unfold State.protBoundary
  split
  · exact .ite (fun _ => protMove_core _ _ _ _) fun _ => .refl s
  · exact .refl s

theorem setLeafInfo_core (s : State) (l : Nat) (x : LeafInfo) : CoreKept s (s.setLeafInfo l x) := (CoreKept.refl s).same rfl

theorem toLeafState_core (s : State) (l new reason : Nat) : CoreKept s (s.toLeafState l new reason) := (((CoreKept.refl s).set _ _ _ _).log _ _ _).set _ _ _ _

theorem switchIn_core (s : State) (l : Nat) : CoreKept s (s.switchIn l) :=
  ((((CoreKept.refl s).set _ _ _ _).trans (toLeafState_core _ l 3 11)).trans (setLeafInfo_core _ l _)).trans (enableObj_core _ 5 l)

theorem switchOut_core (s : State) (l : Nat) : CoreKept s (s.switchOut l) :=
  ((((CoreKept.refl s).set _ _ _ _).trans (toLeafState_core _ l 3 12)).trans (setLeafInfo_core _ l _)).trans (startQuench_core _ 5 l)

theorem leafSwitches_core (s : State) : CoreKept s s.leafSwitches := by
  unfold State.leafSwitches
  refine CoreKept.foldl (fun e v => ?_) _ s
  dsimp only
  have h := setLeafInfo_core v e.1 { v.leafInfo e.1 with switch_ := 0 }
  generalize v.setLeafInfo e.1 { v.leafInfo e.1 with switch_ := 0 } = w at h
  exact .ite (fun _ => (h.trans (switchIn_core w _)).trans (logSwitch_core _ _ _ _ _ _)) fun _ => .ite (fun _ => (h.trans (switchOut_core w _)).trans (logSwitch_core _ _ _ _ _ _)) fun _ =>
    .ite (fun _ => h) fun _ => .refl v

theorem withBurst_core (s : State) (x : BurstState) : CoreKept s { s with burst := x } := (CoreKept.refl s).same rfl

theorem pushMgmt_core (s : State) (k : Nat) (m : List Byte) : CoreKept s (s.pushMgmt k m) := withBurst_core s _

theorem sendMap_core (s : State) (all : List Grant) : CoreKept s (s.sendMap all) := by
  unfold State.sendMap
  dsimp only
  exact (withBurst_core s _).trans (CoreKept.foldl (fun w v => pushMgmt_core v _ _) _ _)

/-- The state after the map that was built for the multiframe is sent (R348). -/
def State.builtMapSent (s : State) : State := match s.burst.built with | some gs => State.sendMap { s with burst := { s.burst with built := none } } gs | none => s

theorem builtMapSent_core (s : State) : CoreKept s s.builtMapSent := by
  unfold State.builtMapSent
  split
  · exact (withBurst_core s _).trans (sendMap_core _ _)
  · exact .refl s

/-- The state after the LEAF_ASSIGN messages that a multiframe repeats (R371). -/
def State.assignsSent (s : State) : State := s.burst.leaves.foldl (fun s e => if (s.leafInfo e.1).assignLeft = 0 then s else (s.setLeafInfo e.1 { s.leafInfo e.1 with assignLeft := (s.leafInfo e.1).assignLeft - 1 }).pushMgmt (s.leafInfo e.1).group (s.msgAssign e.1)) s

/-- The state after the survey windows that have passed are forgotten. -/
def State.windowsPassed (s : State) : State := { s with burst := { s.burst with sinceSurvey := s.burst.sinceSurvey + 1, windows := s.burst.windows.filter (fun w => decide (mfDiff s.frm.mfn w.mf < 20)) } }

/-- The state after the management messages that fit are taken into the streams. -/
def State.mgmtTaken (s : State) : State :=
  (List.range 8).foldl (fun s k =>
    let n := (s.burst.sent.filter (fun g => g.furrow / 4 = k)).length
    let r := fitMgmt (s.streamBytes k - 23 - 6 * n) (tget [] s.burst.mgmt k)
    { s with burst := { s.burst with mgmt := tput [] s.burst.mgmt k r.2, mgmtSent := tput [] s.burst.mgmtSent k r.1 } }) s

theorem hubBoundary_eq (s : State) : s.hubBoundary = if s.mode ≠ 1 then s else s.assignsSent.windowsPassed.builtMapSent.mgmtTaken := by
  unfold State.hubBoundary
  refine if_congr Iff.rfl rfl ?_
  rfl

theorem assignsSent_core (s : State) : CoreKept s s.assignsSent :=
  CoreKept.foldl (fun _ w => .ite (fun _ => .refl w) fun _ => (setLeafInfo_core w _ _).trans (pushMgmt_core _ _ _)) _ s

theorem mgmtTaken_core (s : State) : CoreKept s s.mgmtTaken := CoreKept.foldl (fun _ u => withBurst_core u _) (List.range 8) s

theorem hubBoundary_core (s : State) : CoreKept s s.hubBoundary := by
  rw [hubBoundary_eq]
  exact .ite (fun _ => .refl s) fun _ => (((assignsSent_core s).trans (withBurst_core _ _)).trans (builtMapSent_core _)).trans (mgmtTaken_core _)

theorem switchBoundary_core (s : State) : CoreKept s s.switchBoundary := .ite (fun _ => (protBoundary_core s).trans (leafSwitches_core _)) fun _ => .refl s

theorem sendStreams_core (s : State) : CoreKept s s.sendStreams := .ite (fun _ => .refl s) fun _ => (CoreKept.refl s).same rfl

theorem beginMultiframe_core (s : State) : CoreKept s s.beginMultiframe :=
  .ite (fun _ => ((switchBoundary_core s).trans (hubBoundary_core _)).trans (sendStreams_core _)) fun _ => .refl s

/-! ### The squelch reasons at the end of a command (R280, R281) -/

/-- The eight reasons as the bits of one number. -/
theorem reasons_testBit (a b c d e f g h : Bool) :
    (b2n a + 2 * b2n b + 4 * b2n c + 8 * b2n d + 16 * b2n e + 32 * b2n f + 64 * b2n g + 128 * b2n h).testBit 0 = a ∧
      (b2n a + 2 * b2n b + 4 * b2n c + 8 * b2n d + 16 * b2n e + 32 * b2n f + 64 * b2n g + 128 * b2n h).testBit 4 = e := by
  revert a b c d e f g h
  decide

theorem squelchReasons_host (s : State) : s.squelchReasons.testBit 0 = s.tx.hostSquelch := (reasons_testBit _ _ _ _ _ _ _ _).1

theorem squelchReasons_pll (s : State) : s.squelchReasons.testBit 4 = s.tx.pllLost := (reasons_testBit _ _ _ _ _ _ _ _).2

theorem Settled.reasons {s : State} (h : Settled s) (hg : s.sys.gated = false) : s.get Reg.TXS_STATUS_SQ_REASON = s.squelchReasons :=
  (h.1.resolve_left (by rw [hg]; exact Bool.false_ne_true)).1

/-- A reason that holds squelches the line. -/
theorem Settled.squelched {s : State} (h : Settled s) (hg : s.sys.gated = false) {i : Nat} (hi : s.squelchReasons.testBit i = true) :
    s.flag Reg.TXS_STATUS_SQUELCHED = true :=
  (h.1.resolve_left (by rw [hg]; exact Bool.false_ne_true)).2 fun h0 => by
    rw [h0, Nat.zero_testBit] at hi
    exact Bool.false_ne_true hi

theorem done_settled_then {s u : State} {P : State → Prop} (h : ∀ t, Ended [] s u t → Settled t → P t) : ∃ t, done s u = .next t ∧ P t := by
  obtain ⟨t, hdone, he⟩ : ∃ t, done s u = .next t ∧ Ended [] s u t := done_then fun t he _ => he
  exact ⟨t, hdone, h t he (settled_of_done hdone)⟩

theorem linePllLockLoss_squelches (s : State) (hrun : s.frm.started = true) (hg : s.sys.gated = false) :
    ∃ t, exec .linePllLockLoss s = .next t ∧ t.tx.pllLost = true ∧ t.flag Reg.TXS_STATUS_SQUELCHED = true ∧ (t.get Reg.TXS_STATUS_SQ_REASON).testBit 4 = true ∧ RegsKept [] s t := by
  show ∃ t, execLinePllLockLoss s = _ ∧ _
  unfold execLinePllLockLoss
  rw [if_pos hrun]
  refine done_settled_then fun t he hs => ?_
  have htx : t.tx.pllLost = true := he.keeps (fun v => v.tx.pllLost) fun _ _ _ _ _ _ _ => rfl
  have hgt : t.sys.gated = false := (he.keeps (fun v => v.sys.gated) fun _ _ _ _ _ _ _ => rfl).trans hg
  have hbit : t.squelchReasons.testBit 4 = true := (squelchReasons_pll t).trans htx
  exact ⟨htx, hs.squelched hgt hbit, (congrArg (·.testBit 4) (hs.reasons hgt)).trans hbit, he.kept⟩

theorem linePllRelock_releases (s : State) :
    ∃ t, exec .linePllRelock s = .next t ∧ t.tx.pllLost = false ∧ (s.sys.gated = false → (t.get Reg.TXS_STATUS_SQ_REASON).testBit 4 = false) ∧ RegsKept [] s t := by
  show ∃ t, execLinePllRelock s = _ ∧ _
  unfold execLinePllRelock
  refine done_settled_then fun t he hs => ?_
  have htx : t.tx.pllLost = false := he.keeps (fun v => v.tx.pllLost) fun _ _ _ _ _ _ _ => rfl
  have hgt : t.sys.gated = s.sys.gated := he.keeps (fun v => v.sys.gated) fun _ _ _ _ _ _ _ => rfl
  exact ⟨htx, fun hg => (congrArg (·.testBit 4) (hs.reasons (hgt.trans hg))).trans ((squelchReasons_pll t).trans htx), he.kept⟩

/-- What LINE_TX_SQUELCH does with its payload. -/
def hostSquelched (p : List Byte) (s : State) : State × Reply :=
  if s.mode = 3 then (s, err cDENIED) else ({ s with tx := { s.tx with hostSquelch := u8 p 0 == 1 } }, ok)

theorem lineTxSquelch_squelches (mb : Fin 8) (p : List Byte) (s : State) (hreq : s.request mb.val 0x0311 = some p) (hon : s.blocksOff = false) (hmode : s.mode ≠ 3)
    (hg : s.sys.gated = false) :
    ∃ t, exec (.lineTxSquelch mb) s = .next t ∧ Answered mb.val ok s t ∧ t.tx.hostSquelch = (u8 p 0 == 1) ∧
      (t.get Reg.TXS_STATUS_SQ_REASON).testBit 0 = (u8 p 0 == 1) ∧ (u8 p 0 = 1 → t.flag Reg.TXS_STATUS_SQUELCHED = true) ∧ RegsKept [0x12014] s t := by
  show ∃ t, actOn mb.val 0x0311 s hostSquelched = .next t ∧ _
  obtain ⟨u, hu⟩ : ∃ u : State, u = { s.serving mb.val with tx := { s.tx with hostSquelch := u8 p 0 == 1 } } := ⟨_, rfl⟩
  have hf : hostSquelched p (s.serving mb.val) = (u, ok) := by
    rw [hu]
    exact if_neg hmode
  have hux : u.tx.hostSquelch = (u8 p 0 == 1) := by rw [hu]
  have hug : u.sys.gated = s.sys.gated := by rw [hu]; rfl
  have hur : RegsKept [0x12014] s u := by rw [hu]; exact fun _ _ _ => rfl
  have hum : u.mbs = s.mbs := by rw [hu]; rfl
  obtain ⟨t, hexec, he, hans⟩ : ∃ t, actOn mb.val 0x0311 s hostSquelched = .next t ∧ Ended [0x12014] s u t ∧ Answered mb.val ok u t := actOn_then hreq hon hf fun t he hans => ⟨he, hans⟩
  refine ⟨t, hexec, hans.of_mbs hum, ?_⟩
  rw [actOn_eq _ _ _ _ _ hreq hon, hf] at hexec
  have hs : Settled t := settled_of_done hexec
  have htx : t.tx.hostSquelch = (u8 p 0 == 1) := (he.keeps (fun v => v.tx.hostSquelch) fun _ _ _ _ _ _ _ => rfl).trans hux
  have hgt : t.sys.gated = false := ((he.keeps (fun v => v.sys.gated) fun _ _ _ _ _ _ _ => rfl).trans hug).trans hg
  have hbit : t.squelchReasons.testBit 0 = (u8 p 0 == 1) := (squelchReasons_host t).trans htx
  exact ⟨htx, (congrArg (·.testBit 0) (hs.reasons hgt)).trans hbit, fun h1 => hs.squelched hgt (hbit.trans (by rw [h1]; rfl)), fun a ha hq => (he.kept a ha hq).trans (hur a ha hq)⟩

/-! ### The first multiframe and the boundaries (R344, R639) -/

theorem linePllFirstLock_starts (s : State) (hrun : s.frm.started = false) :
    ∃ t, exec .linePllFirstLock s = .next t ∧ t.frm.started = true ∧ t.frm.mfn = 0 ∧ t.frm.fn = 0 ∧ t.frm.lastMf = s.clock ∧
      t.get Reg.MF_PHASE_NS = s.devNs % 125000 ∧ RegsKept [Reg.MF_PHASE_NS.addr 0 0] s t := by
  show ∃ t, execLinePllFirstLock s = _ ∧ _
  unfold execLinePllFirstLock
  rw [if_neg (ne_true_of_eq_false hrun)]
  dsimp only
  generalize hv : ({ s with frm := { s.frm with started := true, mfn := 0, fn := 0, lastFrame := s.clock, lastMf := s.clock } } : State) = v
  have hvf : v.frm = { s.frm with started := true, mfn := 0, fn := 0, lastFrame := s.clock, lastMf := s.clock } := hv ▸ rfl
  have hvr : v.regs = s.regs := hv ▸ rfl
  have hget : (v.set Reg.MF_PHASE_NS (s.devNs % 125000)).get Reg.MF_PHASE_NS = s.devNs % 125000 := by
    rw [get_set_self _ _ _ _ _ (by decide)]
    exact Nat.mod_eq_of_lt (lt_of_lt_of_le (Nat.mod_lt _ (by decide)) (by decide))
  have hkept : ∀ a, a ≠ Reg.MF_PHASE_NS.addr 0 0 → (v.set Reg.MF_PHASE_NS (s.devNs % 125000)).reg a = s.reg a := fun a ha =>
    (reg_setReg_ne _ _ ha).trans (by unfold State.reg; rw [hvr])
  have hfrm : (v.set Reg.MF_PHASE_NS (s.devNs % 125000)).frm = v.frm := rfl
  generalize v.set Reg.MF_PHASE_NS (s.devNs % 125000) = u at hget hkept hfrm
  refine done_then fun t he _ => ?_
  have ht : t.frm = { s.frm with started := true, mfn := 0, fn := 0, lastFrame := s.clock, lastMf := s.clock } := ((he.keeps State.frm fun _ _ _ _ _ _ _ => rfl).trans hfrm).trans hvf
  refine ⟨by rw [ht], by rw [ht], by rw [ht], by rw [ht], ?_, fun a ha hq => ?_⟩
  · exact (he.touch.get0 Reg.MF_PHASE_NS (by decide)).trans hget
  · exact (he.kept a (by simp) hq).trans (hkept a (fun h => ha (List.mem_singleton.2 h)))

theorem localFrameBoundary_counts (m : FrameMeas) (s : State) (hrun : s.frm.started = true) (hspan : s.frm.lastFrame + 65000 - 6 ≤ s.clock)
    (hlast : s.frm.fn = 24 → s.frm.lastMf = s.clock) (hdue : s.commitsDue = []) :
    ∃ t, exec (.localFrameBoundary m) s = .next t ∧ t.frm.fn = (if s.frm.lastMf = s.clock then 0 else (s.frm.fn + 1) % 25) ∧ t.frm.lastFrame = s.clock ∧ t.frm.mfn = s.frm.mfn := by
  show ∃ t, execLocalFrameBoundary m s = _ ∧ _
  unfold execLocalFrameBoundary
  have hends : s.frameEnds = true := by
    have hs : s.since s.frm.lastFrame (usT 5) = true := decide_eq_true hspan
    have hl : (s.frm.fn != 24 || s.frm.lastMf == s.clock) = true := by
      rcases eq_or_ne s.frm.fn 24 with h | h
      · simp [hlast h]
      · simp [h]
    unfold State.frameEnds
    rw [hrun, hs, hl, hdue]
    rfl
  rw [hends, if_neg (by decide)]
  have hcore : CoreKept s.countFrame (((((((s.countFrame.lineFrame m).tsiFrame m).lanesOut m).laneFrame m).pqLocal).protFrame).sendFrames m) :=
    ((((((lineFrame_core m _).trans (tsiFrame_core m _)).trans (lanesOut_core m _)).trans (laneFrame_core m _)).trans (pqLocal_core _)).trans (protFrame_core _)).trans (sendFrames_core m _)
  generalize ((((((s.countFrame.lineFrame m).tsiFrame m).lanesOut m).laneFrame m).pqLocal).protFrame).sendFrames m = u at hcore
  refine done_then fun t he _ => ?_
  have hfrm : t.frm = u.frm := he.keeps State.frm fun _ _ _ _ _ _ _ => rfl
  rw [hfrm]
  exact ⟨hcore.fn, hcore.lastFrame, hcore.mfn⟩

theorem multiframeBoundary_counts (figs : List Figures) (s : State) (hrun : s.frm.started = true) (hfn : s.frm.fn = 24) (hspan : s.frm.lastFrame + 65000 - 6 ≤ s.clock)
    (hmf : s.frm.lastMf + 1625000 - 162 ≤ s.clock) :
    ∃ t, exec (.multiframeBoundary figs) s = .next t ∧ t.frm.mfn = (s.frm.mfn + 1) % 2 ^ 32 ∧ t.frm.fn = 0 ∧ t.frm.lastMf = s.clock := by
  show ∃ t, execMultiframeBoundary figs s = _ ∧ _
  unfold execMultiframeBoundary
  have hends : s.multiframeEnds = true := by
    have h1 : s.since s.frm.lastFrame (usT 5) = true := decide_eq_true hspan
    have h2 : s.since s.frm.lastMf (usT 125) = true := decide_eq_true hmf
    unfold State.multiframeEnds
    rw [hrun, hfn, h1, h2]
    rfl
  rw [hends, if_neg (by decide)]
  dsimp only
  have h1 : CoreKept s.countMultiframe (s.countMultiframe.applyPending.lineMultiframe figs) := (applyPending_core _).trans (lineMultiframe_core figs _)
  generalize s.countMultiframe.applyPending.lineMultiframe figs = v at h1
  have h2 : CoreKept v (if v.get Reg.TAP_CFG_TRIG = 1 then v.tapHit else v) := .ite (fun _ => tapHit_core v) fun _ => .refl v
  generalize (if v.get Reg.TAP_CFG_TRIG = 1 then v.tapHit else v) = w at h2
  have h3 : CoreKept w (if w.commitsDue.isEmpty then w.beginMultiframe else w) := .ite (fun _ => beginMultiframe_core w) fun _ => .refl w
  generalize (if w.commitsDue.isEmpty then w.beginMultiframe else w) = u at h3
  have hcore := (h1.trans h2).trans h3
  refine done_then fun t he _ => ?_
  have hfrm : t.frm = u.frm := he.keeps State.frm fun _ _ _ _ _ _ _ => rfl
  rw [hfrm]
  exact ⟨hcore.mfn, hcore.fn, hcore.lastMf⟩

/-! ### Level measurements (R270, R283) -/

theorem leafLevelMeasure_runs (mb : Fin 8) (p : List Byte) (s : State) (hreq : s.request mb.val 0x050B = some p) (hidle : s.tx.measure = none) (hmode : s.mode = 1)
    (hstate : s.get Reg.LF_STATUS_STATE (u16 p 0) = 4) (hmod : s.flag Reg.LF_PROFILE_BURST_MOD (u16 p 0) = true) :
    ∃ t, exec (.leafLevelMeasure mb) s = .next t ∧ RunsOn mb.val s t ∧ t.tx.measure = some { mb := mb.val, leaf := u16 p 0, n := u8 p 2, start := s.clock } := by
  show ∃ t, execLeafLevelMeasure mb s = _ ∧ _
  unfold execLeafLevelMeasure
  refine actLong_runs_then (u := { s.serving mb.val with tx := { s.tx with measure := some { mb := mb.val, leaf := u16 p 0, n := u8 p 2, start := s.clock } } }) hreq ?_
    fun t he hrun => ⟨hrun.of_mbs rfl, he.keeps (fun v => v.tx.measure) fun _ _ _ _ _ _ _ => rfl⟩
  have h1 : ¬(s.serving mb.val).tx.measure.isSome = true := by rw [show (s.serving mb.val).tx.measure = none from hidle]; decide
  have h2 : ¬(((s.serving mb.val).mode ≠ 1 || (s.serving mb.val).get Reg.LF_STATUS_STATE (u16 p 0) ≠ 4 || !(s.serving mb.val).flag Reg.LF_PROFILE_BURST_MOD (u16 p 0)) = true) := by
    rw [show (s.serving mb.val).mode = 1 from hmode, show (s.serving mb.val).get Reg.LF_STATUS_STATE (u16 p 0) = 4 from hstate,
      show (s.serving mb.val).flag Reg.LF_PROFILE_BURST_MOD (u16 p 0) = true from hmod]
    decide
  exact (if_neg h1).trans (if_neg h2)

theorem leafMeasureDone_answers (l : Fin 1024) (m : LevelMeasure) (s : State) (hm : s.tx.measure = some m) (hleaf : m.leaf = l.val) (hphase : (s.mbox m.mb).phase = .running) :
    (m.n ≤ m.used → ∃ t, exec (.leafMeasureDone l) s = .next t ∧ t.tx.measure = none ∧
      Answered m.mb (okD (bytes 2 m.used ++ [0, 0] ++ m.sums.flatMap (fun x => bytes 2 (min 65535 ((2 * 16384 * x.2 + 3 * x.1) / (6 * x.1)))) ++ [0, 0, 0, 0])) s t) ∧
    (m.used < m.n → m.start + 13000000000 ≤ s.clock → ∃ t, exec (.leafMeasureDone l) s = .next t ∧ t.tx.measure = none ∧ Answered m.mb (err cTIMEOUT) s t) := by
  show (_ → ∃ t, execLeafMeasureDone l s = _ ∧ _) ∧ (_ → _ → ∃ t, execLeafMeasureDone l s = _ ∧ _)
  have hfilter : s.tx.measure.filter (fun m => m.leaf == l.val) = some m := by simp [hm, hleaf, Option.filter]
  unfold execLeafMeasureDone
  rw [hfilter]
  dsimp only
  refine ⟨fun hn => ?_, fun hn hlate => ?_⟩
  · rw [if_pos hn]
    exact done_finish_then hphase fun t he hans => ⟨he.keeps (fun v => v.tx.measure) fun _ _ _ _ _ _ _ => rfl, hans.of_mbs rfl⟩
  · rw [if_neg (Nat.not_le.2 hn), if_pos (show m.start + secT 1 ≤ s.clock from hlate)]
    exact done_finish_then hphase fun t he hans => ⟨he.keeps (fun v => v.tx.measure) fun _ _ _ _ _ _ _ => rfl, hans.of_mbs rfl⟩

/-- Settles O44. -/
theorem lineFramesSquelchAndLevelMeasurement : Obligations.LineFramesSquelchAndLevelMeasurement :=
  ⟨linePllFirstLock_starts, localFrameBoundary_counts, multiframeBoundary_counts, linePllLockLoss_squelches, linePllRelock_releases, lineTxSquelch_squelches, leafLevelMeasure_runs,
    leafMeasureDone_answers⟩

end Sys2Proof.Machine
end

section
/-! SUPPORT. A quench timeout that counts a stray block of an injector (O39). -/

namespace Sys2Proof.Machine

/-! ### A quench that counts a stray block (O39) -/

/-- An injector that holds a block of lane 384, which no device has: the word where that lane would count a wrong header counts the discards of leaf 0. -/
def strayInjector : Injector :=
  { point := 2, target := 384, action := 0, n := 0, periodic := false, count := 0, depth := 0, timeoutS := 0, start := 0, held := some { bits := [0], left := 0, last := 0 } }

/-- Leaf 0 is stopping, its timeout over, none of its grants is due, and the word that lane 384 would have for its state is not RUNNING. -/
def strayQuench : State :=
  { State.reset with regs := [(0x480000, 64), (0x480010, 32)], sys := { quench := [(20480, some { start := 0, timeout := 0 })] }, test := { injectors := [(0, some strayInjector)] } }


/-- What QUENCH_TIMEOUT of leaf 0 makes of that state before its shared end. -/
def strayEnd : State := (((strayQuench.fiQuenched.quenchDiscard 5 0 0).1.finishQuench 5 0 (strayQuench.fiQuenched.quenchDiscard 5 0 0).2).quiesced 5 0)

theorem strayQuench_stopping : strayQuench.qState 5 0 = 1 := by decide

theorem strayEnd_count : strayEnd.count Cnt.LF_QUENCH_DISCARDS 0 = 1 := by decide

theorem quenchTimeout_stray : ∃ t, exec (.quenchTimeout 5 0 0) strayQuench = .next t ∧ t.count Cnt.LF_QUENCH_DISCARDS 0 = 1 := by
  show ∃ t, done strayQuench strayEnd = _ ∧ _
  exact done_then fun t he _ => (he.touch.countRow Cnt.LF_QUENCH_DISCARDS (i := 0) (by decide) (by decide)).trans strayEnd_count

/-- Refutes O39: QUENCH_TIMEOUT first stops the injectors of quenched lanes and sends what they hold; an injector whose target is no lane of the device
counts its block in a word of a leaf, so that the leaf's discards rise by one more than its grants. -/
theorem not_modeChangeQuenchAndClampSteps : ¬Obligations.ModeChangeQuenchAndClampSteps := by
  rintro ⟨-, -, hquench, -⟩
  obtain ⟨-, htimeout⟩ := hquench 5 0 strayQuench (by decide) strayQuench_stopping (by decide) (by decide)
  obtain ⟨t, hexec, -, -, hleaf⟩ := htimeout 0 { start := 0, timeout := 0 } rfl (Nat.zero_le _)
  obtain ⟨u, hu, hcount⟩ := quenchTimeout_stray
  obtain rfl : t = u := Host.Outcome.next.inj (hexec.symm.trans hu)
  have hc : t.count Cnt.LF_QUENCH_DISCARDS 0 = 0 := (hleaf rfl).1
  exact absurd (hcount.symm.trans hc) (by decide)

end Sys2Proof.Machine
end

section
/-! SUPPORT. Release from reset, boot and the flash (O33). -/

namespace Sys2Proof.Machine

/-! ### Mailboxes that wait to be served -/

/-- No mailbox waits in `t` that did not wait in `s`. -/
def NoNewWait (s t : State) : Prop := ∀ k, (t.mbox k).phase = .waiting → (s.mbox k).phase = .waiting

namespace NoNewWait
variable {s t u : State}

theorem refl (s : State) : NoNewWait s s := fun _ h => h

theorem trans (h : NoNewWait s t) (k : NoNewWait t u) : NoNewWait s u := fun m hm => h m (k m hm)

theorem of_mbs (h : t.mbs = s.mbs) : NoNewWait s t := fun k hk => (mbox_congr h k) ▸ hk

theorem answer (h : NoNewWait s t) (mb : Nat) (r : Reply) : NoNewWait s (t.answer mb r) := fun k hk => by
  rcases eq_or_ne k mb with rfl | hne
  · rw [answer_mbox, phase_answered] at hk
    exact absurd hk (by decide)
  · exact h k (answer_mbox_ne t r hne ▸ hk)

theorem finish (h : NoNewWait s t) (mb : Nat) (r : Reply) : NoNewWait s (t.finish mb r) := by
  unfold State.finish
  split
  · exact h.answer mb r
  · exact h

theorem ite {c : Prop} [Decidable c] (ht : c → NoNewWait s t) (hu : ¬c → NoNewWait s u) : NoNewWait s (if c then t else u) := by
  split
  · exact ht ‹_›
  · exact hu ‹_›

theorem foldl {α : Type} {f : State → α → State} (h : ∀ x v, NoNewWait v (f v x)) (xs : List α) : ∀ s : State, NoNewWait s (xs.foldl f s) := by
  induction xs with
  | nil => exact fun s => .refl s
  | cons x xs ih => exact fun s => (h x s).trans (ih _)

end NoNewWait

theorem abandonCal_core (s : State) (a : Nat) : CoreKept s (s.abandonCal a) := ((setAdc_core s a _).set _ _ _ _).set _ _ _ _

theorem adcOff_core (s : State) (a : Nat) : CoreKept s (s.adcOff a) := by
  have h := (abandonCal_core s a).trans (putMap_core _ a (mapOf 0 [] ((List.range 65).filter (fun k => s.sliceByte a k / 64 == 3))) none)
  unfold State.adcOff
  dsimp only
  generalize (s.abandonCal a).putMap a (mapOf 0 [] ((List.range 65).filter (fun k => s.sliceByte a k / 64 == 3))) none = v at h
  exact ((h.trans (setAdc_core v a _)).set _ _ _ _).set _ _ _ _

theorem convOff_waits (s : State) : NoNewWait s s.convOff := by
  have h : CoreKept s ((List.range 4).foldl (fun s a => (s.adcOff a).set Reg.DAC_STATUS_STATE 0 a) s) := CoreKept.foldl (fun a v => (adcOff_core v a).set _ _ _ _) _ s
  unfold State.convOff
  dsimp only
  generalize (List.range 4).foldl (fun (s : State) a => (s.adcOff a).set Reg.DAC_STATUS_STATE 0 a) s = v at h
  have hv : NoNewWait s v := .of_mbs h.mbs
  have hfg : ∀ x : ConvState, NoNewWait s { v with conv := x } := fun _ => hv.trans (.of_mbs rfl)
  split
  · exact hv
  · split
    · exact (hfg _).finish _ _
    · exact hfg _

theorem endHold_waits (s : State) : NoNewWait s s.endHold := by
  unfold State.endHold
  split
  · exact (NoNewWait.refl s).finish _ _
  · exact .refl s

theorem countFaulty_core (s : State) : CoreKept s s.countFaulty := CoreKept.foldl (fun _ v => (CoreKept.refl v).set _ _ _ _) _ s

theorem gatePlane_waits (s : State) : NoNewWait s s.gatePlane := by
  have hoff := (convOff_waits s).trans (endHold_waits _)
  unfold State.gatePlane
  refine .ite (fun _ => .refl s) fun _ => ?_
  dsimp only
  generalize s.convOff.endHold = v at hoff
  generalize v.holdRegs _ = r
  have hclear : NoNewWait s ({ v with regs := r } : State).clearPlane := hoff.trans (.of_mbs rfl)
  generalize ({ v with regs := r } : State).clearPlane = w at hclear
  have hfaulty := hclear.trans (.of_mbs (countFaulty_core w).mbs)
  generalize w.countFaulty = x at hfaulty
  exact hfaulty.trans (.of_mbs rfl)

theorem holdLanes_waits (s : State) : NoNewWait s s.holdLanes := by
  have h := NoNewWait.foldl (f := fun (s : State) (r : PsReq) => s.finish r.mb (err cDENIED)) (fun r v => (NoNewWait.refl v).finish _ _) s.ln.reqs s
  unfold State.holdLanes
  dsimp only
  generalize List.foldl (fun (s : State) (r : PsReq) => s.finish r.mb (err cDENIED)) s s.ln.reqs = v at h
  generalize List.filter _ (List.map _ v.regs) = regs
  have hw : NoNewWait v { v with regs := regs, ln := { measure := v.ln.measure.map (fun m => { m with lost := true }) }, sys := { v.sys with quench := v.sys.quench.filter (fun e => e.1 / 4096 != 4) } } := .of_mbs rfl
  exact (h.trans hw).trans (.of_mbs ((set_mbs _ _ _ _ _).trans (set_mbs _ _ _ _ _)))

theorem thermalShutdown_waits (s : State) : NoNewWait s s.thermalShutdown := by
  rw [thermalShutdown_eq]
  have h1 : ((s.set Reg.PWR_STATUS_SHUTDOWN 1).set Reg.PWR_EVENTS_SHUTDOWN 1).mbs = s.mbs := (set_mbs _ _ _ _ _).trans (set_mbs _ _ _ _ _)
  generalize (s.set Reg.PWR_STATUS_SHUTDOWN 1).set Reg.PWR_EVENTS_SHUTDOWN 1 = v at h1
  have h2 : v.refreshSquelch.mbs = s.mbs := ((regsLogs_refreshSquelch v).keeps State.mbs fun _ _ _ => rfl).trans h1
  exact (((NoNewWait.of_mbs h2).trans (gatePlane_waits _)).trans (holdLanes_waits _)).trans (.of_mbs (refreshRefs_core _).mbs)

/-- A ring that is taken waits no more. -/
theorem takeRing_phase (s : State) (mb : Nat) : ((s.takeRing mb).mbox mb).phase ≠ .waiting := by
  unfold State.takeRing
  dsimp only
  split
  · rw [answer_mbox, phase_answered]
    decide
  · rw [mbox_setMbox_self]
    exact fun h => MbPhase.noConfusion h

theorem takeRing_mbox_ne (s : State) {mb k : Nat} (h : k ≠ mb) : (s.takeRing mb).mbox k = s.mbox k := by
  unfold State.takeRing
  dsimp only
  split
  · rw [answer_mbox_ne _ _ h, mbox_setMbox_ne _ _ h]
  · exact mbox_setMbox_ne _ _ h

theorem takeWaiting_phase (s : State) {mb : Nat} (hmb : mb < 8) : ((s.takeWaiting).mbox mb).phase ≠ .waiting := by
  have hstep : ∀ (v : State) (k : Nat), NoNewWait v (if (v.mbox k).phase = .waiting then v.takeRing k else v) := fun v k => .ite (fun _ j hj => by
    rcases eq_or_ne j k with rfl | hne
    · exact absurd hj (takeRing_phase v j)
    · exact takeRing_mbox_ne v hne ▸ hj) fun _ => .refl v
  unfold State.takeWaiting
  exact foldl_reaches (P := fun _ => True) (Q := fun v => (v.mbox mb).phase ≠ .waiting) (List.mem_range.2 hmb) List.nodup_range (fun _ _ _ _ _ => trivial)
    (fun v _ => by
      split
      · exact takeRing_phase v mb
      · assumption)
    (fun k _ _ v hv hw => hv (hstep v k mb hw)) trivial

/-! ### The words of the firmware's status while it starts (R755) -/

section
variable {a : Nat} {w : Word} {s : State}

theorem shows_enableLateral (h : Shows a w s) (ha : a < 0x100000) (k : Nat) : Shows a w (s.enableObj 2 k) := by
  have hq : ∀ (v : State) (x : Option Quench), Shows a w v → Shows a w (v.setQuench 2 k x) := fun _ _ hv => hv.of_regs rfl
  unfold State.enableObj
  split
  · exact hq _ _ h
  · exact hq _ _ (Shows.setAbove (f := Reg.LAT_STATUS_Q_STATE) (i := k) h ha (by decide))

theorem shows_latReturn (h : Shows a w s) (k : Nat) : Shows a w (s.latReturn k) := .ite (fun _ => h) fun _ => h.of_regs rfl

theorem shows_refreshEng (h : Shows a w s) (ha : a < 0x100000) (hlog : a ≠ 0x40014 ∧ a ≠ 0x40020) : Shows a w s.refreshEng := by
  unfold State.refreshEng
  generalize hv : (s.set Reg.ENG_STATUS_ACTION_IN (s.latsIn 0).length).set Reg.ENG_STATUS_FW_IN _ = v
  have hv' : Shows a w v := hv ▸ Shows.setAbove (Shows.setAbove h ha (by decide)) ha (by decide)
  unfold State.switchEnd
  exact .ite (fun _ => (Shows.setAbove (Shows.setAbove (Shows.setAbove hv' ha (by decide)) ha (by decide)) ha (by decide)).log hlog _ _ _) fun _ => hv'

/-- The laterals that a mode powers. -/
theorem shows_applyPowered (h : Shows a w s) (ha : a < 0x100000) (hlog : a ≠ 0x40014 ∧ a ≠ 0x40020) (mode prof : Nat) : Shows a w (s.applyPowered mode prof) := by
  have hsampler : ∀ (v : State) (k : Nat) (x : Sampler), Shows a w v → Shows a w (v.setSampler k x) := fun _ _ _ hv => hv.of_regs rfl
  unfold State.applyPowered
  dsimp only
  generalize hv : List.foldl _ s (List.range 32) = v
  have hpow : Shows a w v := by
    rw [← hv]
    refine Shows.foldl (fun k _ x hx => ?_) h
    generalize hy : (if (!decide (k < poweredLats mode prof) && (x.sampler k).tag.isSome) = true then x.setSampler k { x.sampler k with tag := none } else x) = y
    have hy' : Shows a w y := hy ▸ .ite (fun _ => hsampler x k _ hx) fun _ => hx
    have hz := Shows.setAbove (f := Reg.LAT_STATUS_POWERED) (v := b2n (decide (k < poweredLats mode prof))) (i := k) (j := 0) hy' ha (by decide)
    generalize y.set Reg.LAT_STATUS_POWERED (b2n (decide (k < poweredLats mode prof))) k = z at hz
    exact .ite (fun _ => shows_latReturn (shows_enableLateral hz ha k) k) fun _ => hz
  have htotal := Shows.setAbove (f := Reg.HG_PARCELS_TOTAL_TOTAL) (v := 32768 * poweredBanks mode prof) (i := 0) (j := 0) hpow ha (by decide)
  generalize v.set Reg.HG_PARCELS_TOTAL_TOTAL (32768 * poweredBanks mode prof) = x at htotal
  have hhg : Shows a w x.refreshHg := Shows.setAbove (Shows.setAbove htotal ha (by decide)) ha (by decide)
  exact Shows.setAbove (shows_refreshEng hhg ha hlog) ha (by decide)

theorem shows_takeWaiting (h : Shows a w s) (hmb : a ≠ 0x12014) : Shows a w s.takeWaiting := by
  have hset : ∀ (v : State) (k : Nat) (m : Mailbox), Shows a w v → Shows a w (v.setMbox k m) := fun _ _ _ hv => hv.of_regs rfl
  unfold State.takeWaiting
  refine Shows.foldl (fun k _ v hv => .ite (fun _ => ?_) fun _ => hv) h
  unfold State.takeRing
  dsimp only
  split
  · exact (hset v k _ hv).answer hmb _ _
  · exact hset v k _ hv

/-- The loader's and the firmware's status words. -/
def FirmwareField (f : Field) : Prop :=
  (f.addr 0 0 = 0x60044 ∨ f.addr 0 0 = 0x60048 ∨ f.addr 0 0 = 0x6004C) ∧ (sharedPatches ++ timingPage).all (·.apart f.patch) = true ∧ f.lo + f.width ≤ 32

theorem FirmwareField.apart {f : Field} (hf : FirmwareField f) : f.addr 0 0 < 0x100000 ∧ f.addr 0 0 ≠ 0x12014 ∧ (f.addr 0 0 ≠ 0x40014 ∧ f.addr 0 0 ≠ 0x40020) ∧ f.addr 0 0 ≠ 0x110 ∧
    f.addr 0 0 ≠ 0x60010 ∧ f.addr 0 0 ≠ 0x60014 := by
  have h := hf.1
  omega

theorem get_of_shows {f : Field} {s : State} {w : Word} (h : Shows (f.addr 0 0) w s) : s.get f = bitsOf w.toNat f.lo f.width := by
  unfold State.get
  rw [h.reg]

theorem thermalShutdown_get {f : Field} (hf : FirmwareField f) (h : Shows (f.addr 0 0) w s) : s.thermalShutdown.get f = bitsOf w.toNat f.lo f.width := by
  obtain ⟨hlt, hmb, hlog, hxq, hst, hev⟩ := hf.apart
  have hset : Shows (f.addr 0 0) w ((s.set Reg.PWR_STATUS_SHUTDOWN 1).set Reg.PWR_EVENTS_SHUTDOWN 1) := 
    (h.set (f := Reg.PWR_STATUS_SHUTDOWN) (i := 0) (j := 0) hst).set (f := Reg.PWR_EVENTS_SHUTDOWN) (i := 0) (j := 0) hev
  rw [thermalShutdown_eq]
  generalize (s.set Reg.PWR_STATUS_SHUTDOWN 1).set Reg.PWR_EVENTS_SHUTDOWN 1 = v at hset
  have hheld := shows_holdLanes (shows_gatePlane (shows_refreshSquelch hset hlt hlog) hlt hmb) (by omega) hmb hxq
  generalize v.refreshSquelch.gatePlane.holdLanes = x at hheld
  exact ((refreshRefs_touch x).get0 f hf.2).trans (get_of_shows hheld)

end

/-! ### Reset release and the loader (R750, R752, R754) -/

/-- Writing a field of the firmware's status leaves every other word. -/
theorem regsKept_fwStatus {s u t : State} (he : Ended [] s u t) (hu : ∀ a, a ≠ 0x60044 → u.reg a = s.reg a) : RegsKept [0x60044] s t := fun a ha hq =>
  (he.kept a (List.not_mem_nil) hq).trans (hu a fun h => ha (List.mem_singleton.2 h))

theorem resetRelease_starts (b : Fin 4) (m : Fin 32) (i : Fin 4) (h : Bool) (s : State) (hreset : s.get Reg.FW_STATUS_STATE = 0) (hheld : s.power.rstHeld = false) :
    ∃ t, exec (.resetRelease b m i h) s = .next t ∧ t.power = { s.power with straps := ⟨m.val, 0x48 + i.val, h⟩ } ∧ t.get Reg.FW_STATUS_STATE = 1 ∧
      t.get Reg.FW_STATUS_BOOT_SEL = b.val ∧ t.clock = 0 ∧ RegsKept [0x60044] s t := by
  show ∃ t, execResetRelease b m i h s = _ ∧ _
  unfold execResetRelease
  rw [if_neg (by simp [hreset, hheld])]
  generalize hv : ({ s with clock := 0, power := { s.power with straps := ⟨m.val, 0x48 + i.val, h⟩ } } : State) = v
  have hvp : v.power = { s.power with straps := ⟨m.val, 0x48 + i.val, h⟩ } := hv ▸ rfl
  have hvc : v.clock = 0 := hv ▸ rfl
  have hvr : ∀ a, v.reg a = s.reg a := hv ▸ fun _ => rfl
  have hu : ((v.set Reg.FW_STATUS_STATE 1).set Reg.FW_STATUS_BOOT_SEL b.val).get Reg.FW_STATUS_STATE = 1 := by
    rw [get_set_ne _ _ _ _ _ _ _ _ (by decide) (by decide), get_set_self _ _ _ _ _ (by decide)]
    rfl
  have hsel : ((v.set Reg.FW_STATUS_STATE 1).set Reg.FW_STATUS_BOOT_SEL b.val).get Reg.FW_STATUS_BOOT_SEL = b.val := by
    rw [get_set_self _ _ _ _ _ (by decide)]
    exact Nat.mod_eq_of_lt b.isLt
  have hne : ∀ a, a ≠ 0x60044 → ((v.set Reg.FW_STATUS_STATE 1).set Reg.FW_STATUS_BOOT_SEL b.val).reg a = s.reg a := fun a ha =>
    ((reg_set_ne _ _ _ _ _ ha).trans (reg_set_ne _ _ _ _ _ ha)).trans (hvr a)
  have hup : ((v.set Reg.FW_STATUS_STATE 1).set Reg.FW_STATUS_BOOT_SEL b.val).power = v.power := rfl
  have huc : ((v.set Reg.FW_STATUS_STATE 1).set Reg.FW_STATUS_BOOT_SEL b.val).clock = v.clock := rfl
  generalize (v.set Reg.FW_STATUS_STATE 1).set Reg.FW_STATUS_BOOT_SEL b.val = u at hu hsel hne hup huc
  refine done_then fun t he _ => ⟨?_, (he.touch.get0 _ (by decide)).trans hu, (he.touch.get0 _ (by decide)).trans hsel, ?_, regsKept_fwStatus he hne⟩
  · exact ((he.keeps State.power fun _ _ _ _ _ _ _ => rfl).trans hup).trans hvp
  · exact ((he.keeps State.clock fun _ _ _ _ _ _ _ => rfl).trans huc).trans hvc

/-- The state of the firmware is shown. -/
theorem done_fwState_then {s u : State} {v : Nat} {P : State → Prop} (hv : v < 8) (hu : ∀ a, u.reg a = s.reg a)
    (h : ∀ t, Ended [] s (u.set Reg.FW_STATUS_STATE v) t → t.get Reg.FW_STATUS_STATE = v → RegsKept [0x60044] s t → P t) :
    ∃ t, done s (u.set Reg.FW_STATUS_STATE v) = .next t ∧ P t :=
  done_then fun t he _ => h t he (((he.touch.get0 _ (by decide)).trans (get_set_self _ _ _ _ _ (by decide))).trans (Nat.mod_eq_of_lt hv))
    (regsKept_fwStatus he fun a ha => (reg_set_ne _ _ _ _ _ ha).trans (hu a))

theorem rstNRelease_starts (s : State) (hheld : s.power.rstHeld = true) :
    ∃ t, exec .rstNRelease s = .next t ∧ t.get Reg.FW_STATUS_STATE = 1 ∧ t.power.rstHeld = false ∧ RegsKept [0x60044] s t := by
  show ∃ t, execRstNRelease s = _ ∧ _
  unfold execRstNRelease
  rw [if_pos hheld]
  exact done_fwState_then (by decide) (fun _ => rfl) fun t he hget hkept => ⟨hget, he.keeps (fun v => v.power.rstHeld) fun _ _ _ _ _ _ _ => rfl, hkept⟩

theorem pcieLinkUp_trains (s : State) : ∃ t, exec .pcieLinkUp s = .next t ∧ t.power = { s.power with linkUp := true } ∧ RegsKept [] s t := by
  show ∃ t, execPcieLinkUp s = _ ∧ _
  exact done_then fun t he _ => ⟨he.keeps State.power fun _ _ _ _ _ _ _ => rfl, he.kept⟩

theorem bootFailed_shows (s : State) (hstate : s.get Reg.FW_STATUS_STATE = 1) (hsel : s.get Reg.FW_STATUS_BOOT_SEL = 0) (hflash : s.flashBoot = none) :
    ∃ t, exec .bootFailed s = .next t ∧ t.get Reg.FW_STATUS_STATE = 3 ∧ RegsKept [0x60044] s t := by
  show ∃ t, execBootFailed s = _ ∧ _
  unfold execBootFailed
  rw [if_pos (by simp [hstate, hsel, hflash])]
  exact done_fwState_then (by decide) (fun _ => rfl) fun t _ hget hkept => ⟨hget, hkept⟩

/-! ### Downloads and the flash (R756, R767, R768) -/

/-- A chunk of a download that is received. -/
def State.chunkTaken (b : List Byte) (last : Bool) (s : State) : State × Reply :=
  if !last then ({ s with power := { s.power with download := some b } }, ok)
  else if imagePasses b then ({ s with power := { s.power with download := none, image := some b } }, ok)
  else ({ s with power := { s.power with download := none } }, err cINVALID)

theorem chunkTaken_mbs (b : List Byte) (last : Bool) (s : State) : (s.chunkTaken b last).1.mbs = s.mbs := by
  unfold State.chunkTaken
  split
  · rfl
  · split <;> rfl

section
variable {k : Nat} (b : List Byte)

theorem chunkTaken_more (hk : k = 0) (s : State) : s.chunkTaken b (decide (k = 1)) = ({ s with power := { s.power with download := some b } }, ok) := by
  rw [hk]
  rfl

theorem chunkTaken_passes (hk : k = 1) (himg : imagePasses b = true) (s : State) :
    s.chunkTaken b (decide (k = 1)) = ({ s with power := { s.power with download := none, image := some b } }, ok) := by
  rw [hk]
  exact if_pos himg

theorem chunkTaken_fails (hk : k = 1) (himg : imagePasses b = false) (s : State) :
    s.chunkTaken b (decide (k = 1)) = ({ s with power := { s.power with download := none } }, err cINVALID) := by
  rw [hk]
  exact if_neg (ne_true_of_eq_false himg)

end

/-- What FW_DOWNLOAD does with its payload while the loader serves the host. -/
theorem fwDownload_eq {mb : Nat} {p buf : List Byte} {s : State} (hserve : s.hostDownload = true)
    (hbuf : (if bitsOf (u8 p 6) 0 1 = 1 then some [] else s.power.download) = some buf) :
    ∃ f, execFwDownload = (fun mb : Fin 8 => fun s => act mb.val 0x0C01 s f) ∧
      f p (s.serving mb) = (s.serving mb).chunkTaken (placeChunk buf (u32 p 0) (p.drop 8)) (decide (bitsOf (u8 p 6) 1 1 = 1)) := by
  refine ⟨_, rfl, ?_⟩
  dsimp only
  rw [show (s.serving mb).hostDownload = true from hserve, if_neg (by decide), show (s.serving mb).power.download = s.power.download from rfl, hbuf]
  rfl

theorem fwDownload_takes (mb : Fin 8) (p buf : List Byte) (s : State) (hreq : s.request mb.val 0x0C01 = some p) (hserve : s.hostDownload = true)
    (hbuf : (if bitsOf (u8 p 6) 0 1 = 1 then some [] else s.power.download) = some buf) :
    ∃ t, exec (.fwDownload mb) s = .next t ∧
      (bitsOf (u8 p 6) 1 1 = 0 → Answered mb.val ok s t ∧ t.power = { s.power with download := some (placeChunk buf (u32 p 0) (p.drop 8)) }) ∧
      (bitsOf (u8 p 6) 1 1 = 1 → imagePasses (placeChunk buf (u32 p 0) (p.drop 8)) = true →
        Answered mb.val ok s t ∧ t.power = { s.power with download := none, image := some (placeChunk buf (u32 p 0) (p.drop 8)) }) ∧
      (bitsOf (u8 p 6) 1 1 = 1 → imagePasses (placeChunk buf (u32 p 0) (p.drop 8)) = false → Answered mb.val (err cINVALID) s t) := by
  show ∃ t, execFwDownload mb s = _ ∧ _
  obtain ⟨f, hexec, hf⟩ := fwDownload_eq (mb := mb.val) hserve hbuf
  rw [hexec]
  generalize placeChunk buf (u32 p 0) (p.drop 8) = b at hf ⊢
  obtain ⟨u, r, hur⟩ : ∃ u r, (s.serving mb.val).chunkTaken b (decide (bitsOf (u8 p 6) 1 1 = 1)) = (u, r) := ⟨_, _, rfl⟩
  have hum : u.mbs = s.mbs := (congrArg (fun x => x.1.mbs) hur).symm.trans (chunkTaken_mbs b _ _)
  refine act_then hreq (hf.trans hur) fun t he hans => ?_
  have hpow : t.power = u.power := he.keeps State.power fun _ _ _ _ _ _ _ => rfl
  rw [hpow]
  have hans' := hans.of_mbs hum
  refine ⟨fun hlast => ?_, fun hlast himg => ?_, fun hlast himg => ?_⟩
  · obtain ⟨rfl, rfl⟩ := Prod.mk.inj (hur.symm.trans (chunkTaken_more b hlast _))
    exact ⟨hans', rfl⟩
  · obtain ⟨rfl, rfl⟩ := Prod.mk.inj (hur.symm.trans (chunkTaken_passes b hlast himg _))
    exact ⟨hans', rfl⟩
  · obtain ⟨-, rfl⟩ := Prod.mk.inj (hur.symm.trans (chunkTaken_fails b hlast himg _))
    exact hans'

/-- The flash while a chunk for the slot not booted is written. -/
def PowerState.chunkPlaced (x : PowerState) (slot : Nat) (b : List Byte) (mb : Nat) (last : Bool) : PowerState :=
  if slot = 0 then { x with flash := some b, flashMb := some (mb, last), slotB := [] } else { x with flash := some b, flashMb := some (mb, last), slotA := [] }

theorem fwFlashWrite_runs (mb : Fin 8) (p buf : List Byte) (s : State) (hreq : s.request mb.val 0x0C03 = some p) (hidle : s.power.shutdown = none)
    (hbuf : (if bitsOf (u8 p 6) 0 1 = 1 then some [] else s.power.flash) = some buf) :
    ∃ t, exec (.fwFlashWrite mb) s = .next t ∧ RunsOn mb.val s t ∧ t.power.flash = some (placeChunk buf (u32 p 0) (p.drop 8)) ∧
      t.power.flashMb = some (mb.val, bitsOf (u8 p 6) 1 1 == 1) ∧
      (s.get Reg.FW_STATUS_SLOT = 0 → t.power.slotB = [] ∧ t.power.slotA = s.power.slotA) ∧
      (s.get Reg.FW_STATUS_SLOT ≠ 0 → t.power.slotA = [] ∧ t.power.slotB = s.power.slotB) := by
  show ∃ t, execFwFlashWrite mb s = _ ∧ _
  unfold execFwFlashWrite
  refine actLong_runs_then (u := { s.serving mb.val with power := s.power.chunkPlaced (s.get Reg.FW_STATUS_SLOT) (placeChunk buf (u32 p 0) (p.drop 8)) mb.val (bitsOf (u8 p 6) 1 1 == 1) })
    hreq ?_ fun t he hrun => ?_
  · dsimp only
    have hrun : ¬(s.serving mb.val).power.shutdown.isSome = true := by
      rw [show (s.serving mb.val).power.shutdown = none from hidle]
      decide
    rw [if_neg hrun, show (s.serving mb.val).power.flash = s.power.flash from rfl, hbuf]
    dsimp only
    rw [show (s.serving mb.val).get Reg.FW_STATUS_SLOT = s.get Reg.FW_STATUS_SLOT from rfl]
    unfold PowerState.chunkPlaced
    by_cases hslot : s.get Reg.FW_STATUS_SLOT = 0
    · rw [if_pos hslot, if_pos hslot]
      rfl
    · rw [if_neg hslot, if_neg hslot]
      rfl
  · have hpow : t.power = s.power.chunkPlaced (s.get Reg.FW_STATUS_SLOT) (placeChunk buf (u32 p 0) (p.drop 8)) mb.val (bitsOf (u8 p 6) 1 1 == 1) := he.keeps State.power fun _ _ _ _ _ _ _ => rfl
    rw [hpow]
    unfold PowerState.chunkPlaced
    refine ⟨hrun.of_mbs rfl, ?_⟩
    by_cases hslot : s.get Reg.FW_STATUS_SLOT = 0
    · rw [if_pos hslot]
      exact ⟨rfl, rfl, fun _ => ⟨rfl, rfl⟩, fun h => absurd hslot h⟩
    · rw [if_neg hslot]
      exact ⟨rfl, rfl, fun h => absurd h hslot, fun _ => ⟨rfl, rfl⟩⟩

/-- The flash after the last chunk. -/
def PowerState.slotWritten (x : PowerState) (slot : Nat) (img : List Byte) : PowerState :=
  if slot = 0 then { x with flashMb := none, flash := none, slotB := img } else { x with flashMb := none, flash := none, slotA := img }

theorem slotWritten_shows (x : PowerState) (slot : Nat) (img : List Byte) : (x.slotWritten slot img).flashMb = none ∧ (x.slotWritten slot img).flash = none ∧
    (if slot = 0 then (x.slotWritten slot img).slotB else (x.slotWritten slot img).slotA) = img := by
  unfold PowerState.slotWritten
  split
  · exact ⟨rfl, rfl, rfl⟩
  · exact ⟨rfl, rfl, rfl⟩

theorem fwFlashWriteDone_answers (mb : Nat) (last : Bool) (img : List Byte) (s : State) (hmb : s.power.flashMb = some (mb, last)) (hflash : s.power.flash = some img)
    (hrun : (s.mbox mb).phase = .running) :
    ∃ t, exec .fwFlashWriteDone s = .next t ∧ t.power.flashMb = none ∧
      (last = false → Answered mb ok s t ∧ t.power.flash = some img) ∧
      (last = true → Answered mb (if imagePasses img then ok else err cINVALID) s t ∧ t.power.flash = none ∧
        (if s.get Reg.FW_STATUS_SLOT = 0 then t.power.slotB else t.power.slotA) = img) := by
  show ∃ t, execFwFlashWriteDone s = _ ∧ _
  unfold execFwFlashWriteDone
  rw [hmb, hflash]
  dsimp only
  cases last with
  | false =>
    rw [if_pos (by decide)]
    refine done_finish_then hrun fun t he hans => ?_
    have hpow : t.power = { s.power with flashMb := none } := he.keeps State.power fun _ _ _ _ _ _ _ => rfl
    rw [hpow]
    exact ⟨rfl, fun _ => ⟨hans.of_mbs rfl, hflash⟩, nofun⟩
  | true =>
    rw [if_neg (by decide)]
    generalize hv : (if s.get Reg.FW_STATUS_SLOT = 0 then _ else _ : State) = v
    have hv' : v = { s with power := s.power.slotWritten (s.get Reg.FW_STATUS_SLOT) img } := by
      rw [← hv]
      unfold PowerState.slotWritten
      split
      · rfl
      · rfl
    have hvm : v.mbs = s.mbs := hv' ▸ rfl
    have hvp : v.power = s.power.slotWritten (s.get Reg.FW_STATUS_SLOT) img := hv' ▸ rfl
    refine done_finish_then ((congrArg Mailbox.phase (mbox_congr hvm mb)).trans hrun) fun t he hans => ?_
    have hpow : t.power = _ := (he.keeps State.power fun _ _ _ _ _ _ _ => rfl).trans hvp
    obtain ⟨h1, h2, h3⟩ := slotWritten_shows s.power (s.get Reg.FW_STATUS_SLOT) img
    rw [hpow]
    exact ⟨h1, nofun, fun _ => ⟨hans.of_mbs hvm, h2, h3⟩⟩

/-! ### Firmware ready (R755, R762) -/

/-- What the image that starts shows. -/
structure ImageShown (slot : Nat) (fb : Bool) (img : List Byte) (now : Nat) (t : State) : Prop where
  state : t.get Reg.FW_STATUS_STATE = 2
  slot : t.get Reg.FW_STATUS_SLOT = slot % 2
  fallback : t.get Reg.FW_STATUS_FALLBACK = b2n fb
  version : t.get Reg.FW_VERSION_VERSION = u32 img 4
  ready : t.get Reg.FW_READY_MS_MS = min (now / 13000000) 0xFFFF

/-- The words that the image shows are written last for each. -/
structure StatusWords (s t : State) : Prop where
  status : Shows 0x60044 (s.reg 0x60044) t
  version : Shows 0x60048 (s.reg 0x60048) t
  ready : Shows 0x6004C (s.reg 0x6004C) t

theorem showImage_words (s : State) (slot : Nat) (fb : Bool) (img : List Byte) : StatusWords (s.showImage slot fb img) (s.showImage slot fb img) := by
  unfold State.showImage
  dsimp only
  generalize (s.set Reg.FW_STATUS_STATE 2).set Reg.FW_STATUS_SLOT slot = v
  have h1 := shows_set v Reg.FW_STATUS_FALLBACK (b2n fb) 0 0
  generalize v.set Reg.FW_STATUS_FALLBACK (b2n fb) = v1 at h1
  have h2 := shows_set v1 Reg.FW_VERSION_VERSION (u32 img 4) 0 0
  have h12 := h1.set (f := Reg.FW_VERSION_VERSION) (v := u32 img 4) (i := 0) (j := 0) (by decide)
  generalize v1.set Reg.FW_VERSION_VERSION (u32 img 4) = v2 at h2 h12
  have h3 := shows_set v2 Reg.FW_READY_MS_MS (min (s.clock / msT 1) 0xFFFF) 0 0
  have h13 := h12.set (f := Reg.FW_READY_MS_MS) (v := min (s.clock / msT 1) 0xFFFF) (i := 0) (j := 0) (by decide)
  have h23 := h2.set (f := Reg.FW_READY_MS_MS) (v := min (s.clock / msT 1) 0xFFFF) (i := 0) (j := 0) (by decide)
  generalize v2.set Reg.FW_READY_MS_MS (min (s.clock / msT 1) 0xFFFF) = v3 at h3 h13 h23
  exact ⟨h13.reg ▸ h13, h23.reg ▸ h23, h3⟩

theorem showImage_shows (s : State) (slot : Nat) (fb : Bool) (img : List Byte) : ImageShown slot fb img s.clock (s.showImage slot fb img) := by
  unfold State.showImage
  dsimp only
  have a1 : (s.set Reg.FW_STATUS_STATE 2).get Reg.FW_STATUS_STATE = 2 := get_set_self _ _ _ _ _ (by decide)
  generalize s.set Reg.FW_STATUS_STATE 2 = v1 at a1
  have b1 : (v1.set Reg.FW_STATUS_SLOT slot).get Reg.FW_STATUS_STATE = 2 := (get_set_ne _ _ _ _ _ _ _ _ (by decide) (by decide)).trans a1
  have b2 : (v1.set Reg.FW_STATUS_SLOT slot).get Reg.FW_STATUS_SLOT = slot % 2 := get_set_self _ _ _ _ _ (by decide)
  generalize v1.set Reg.FW_STATUS_SLOT slot = v2 at b1 b2
  have c1 : (v2.set Reg.FW_STATUS_FALLBACK (b2n fb)).get Reg.FW_STATUS_STATE = 2 := (get_set_ne _ _ _ _ _ _ _ _ (by decide) (by decide)).trans b1
  have c2 : (v2.set Reg.FW_STATUS_FALLBACK (b2n fb)).get Reg.FW_STATUS_SLOT = slot % 2 := (get_set_ne _ _ _ _ _ _ _ _ (by decide) (by decide)).trans b2
  have c3 : (v2.set Reg.FW_STATUS_FALLBACK (b2n fb)).get Reg.FW_STATUS_FALLBACK = b2n fb := (get_set_self _ _ _ _ _ (by decide)).trans (by cases fb <;> rfl)
  generalize v2.set Reg.FW_STATUS_FALLBACK (b2n fb) = v3 at c1 c2 c3
  have hlast : Touch [Reg.FW_VERSION_VERSION.patch, Reg.FW_READY_MS_MS.patch] v3 ((v3.set Reg.FW_VERSION_VERSION (u32 img 4)).set Reg.FW_READY_MS_MS (min (s.clock / msT 1) 0xFFFF)) :=
    ((Touch.refl _ v3).set0 (by decide)).set0 (by decide)
  have hver : ((v3.set Reg.FW_VERSION_VERSION (u32 img 4)).set Reg.FW_READY_MS_MS (min (s.clock / msT 1) 0xFFFF)).get Reg.FW_VERSION_VERSION = u32 img 4 :=
    (get_set_ne _ _ _ _ _ _ _ _ (by decide) (by decide)).trans ((get_set_self _ _ _ _ _ (by decide)).trans (Nat.mod_eq_of_lt (le_lt _ _ 4)))
  have hms : ((v3.set Reg.FW_VERSION_VERSION (u32 img 4)).set Reg.FW_READY_MS_MS (min (s.clock / msT 1) 0xFFFF)).get Reg.FW_READY_MS_MS = min (s.clock / 13000000) 0xFFFF :=
    (get_set_self _ _ _ _ _ (by decide)).trans (Nat.mod_eq_of_lt (lt_of_le_of_lt (min_le_right _ _) (by decide)))
  generalize (v3.set Reg.FW_VERSION_VERSION (u32 img 4)).set Reg.FW_READY_MS_MS (min (s.clock / msT 1) 0xFFFF) = v at hlast hver hms
  exact ⟨(hlast.get0 _ (by decide)).trans c1, (hlast.get0 _ (by decide)).trans c2, (hlast.get0 _ (by decide)).trans c3, hver, hms⟩

/-- A state whose status words read as those of another shows the same image. -/
theorem ImageShown.congr {slot now : Nat} {fb : Bool} {img : List Byte} {s t : State} (h : ImageShown slot fb img now s) (hget : ∀ f, FirmwareField f → t.get f = s.get f) :
    ImageShown slot fb img now t where
  state := (hget _ ⟨by decide, by decide⟩).trans h.state
  slot := (hget _ ⟨by decide, by decide⟩).trans h.slot
  fallback := (hget _ ⟨by decide, by decide⟩).trans h.fallback
  version := (hget _ ⟨by decide, by decide⟩).trans h.version
  ready := (hget _ ⟨by decide, by decide⟩).trans h.ready

theorem StatusWords.shows {s t : State} (h : StatusWords s t) {f : Field} (hf : FirmwareField f) : Shows (f.addr 0 0) (s.reg (f.addr 0 0)) t := by
  rcases hf.1 with ha | ha | ha
  · exact ha ▸ h.status
  · exact ha ▸ h.version
  · exact ha ▸ h.ready

theorem StatusWords.map {s t u : State} (h : StatusWords s t) (hu : ∀ a w, a = 0x60044 ∨ a = 0x60048 ∨ a = 0x6004C → Shows a w t → Shows a w u) : StatusWords s u where
  status := hu _ _ (.inl rfl) h.status
  version := hu _ _ (.inr (.inl rfl)) h.version
  ready := hu _ _ (.inr (.inr rfl)) h.ready

/-- The image shown, the laterals powered and the waiting rings taken. -/
def State.booted (s : State) (hottest : Int) (slot : Nat) (fb : Bool) (img : List Byte) : State :=
  let s1 := s.showImage slot fb img
  let s2 := { s1 with power := { s1.power with image := none, download := none, hottest := hottest } }
  (s2.applyPowered s2.mode s2.profile).takeWaiting

theorem booted_words (s : State) (hottest : Int) (slot : Nat) (fb : Bool) (img : List Byte) : StatusWords (s.showImage slot fb img) (s.booted hottest slot fb img) := by
  have h := showImage_words s slot fb img
  unfold State.booted
  dsimp only
  generalize s.showImage slot fb img = v at h ⊢
  generalize hw : ({ v with power := { v.power with image := none, download := none, hottest := hottest } } : State) = w
  have h1 : StatusWords v w := h.map fun a x _ hx => hx.of_regs (hw ▸ rfl)
  refine (h1.map (u := w.applyPowered w.mode w.profile) fun a x ha hx => shows_applyPowered hx (by omega) (by omega) _ _).map fun a x ha hx => shows_takeWaiting hx (by omega)

/-- What a state whose words are those of the image shows after the boot, with a thermal shutdown or without. -/
theorem bootEnd_shows {slot now : Nat} {fb : Bool} {img : List Byte} {s t : State} {hot : Bool} (h : ImageShown slot fb img now s) (hw : StatusWords s t) :
    ImageShown slot fb img now (if hot then t.thermalShutdown else t) := h.congr fun f hf => by
  have hs := hw.shows hf
  split
  · exact thermalShutdown_get hf hs
  · exact get_of_shows hs

theorem firmwareReady_shows (hottest : Int) (slot : Nat) (fb : Bool) (img : List Byte) (s : State) (hboot : s.bootImage = some (slot, fb, img)) :
    ∃ t, exec (.firmwareReady hottest) s = .next t ∧ t.get Reg.FW_STATUS_STATE = 2 ∧ t.get Reg.FW_STATUS_SLOT = slot % 2 ∧
      t.flag Reg.FW_STATUS_FALLBACK = fb ∧ t.get Reg.FW_VERSION_VERSION = u32 img 4 ∧ t.get Reg.FW_READY_MS_MS = min (s.clock / 13000000) 0xFFFF ∧
      (∀ mb, mb < 8 → (t.mbox mb).phase ≠ .waiting) := by
  show ∃ t, execFirmwareReady hottest s = _ ∧ _
  unfold execFirmwareReady
  rw [hboot]
  show ∃ t, done s (if (_ : Bool) then (s.booted hottest slot fb img).thermalShutdown else s.booted hottest slot fb img) = _ ∧ _
  generalize (s.power.wasHot && decide (1000 * (Int.ofNat (s.get Reg.PWR_CFG_SHUT_C) - 10) ≤ hottest)) = hot
  have hshow := bootEnd_shows (hot := hot) (showImage_shows s slot fb img) (booted_words s hottest slot fb img)
  have hwait : ∀ mb, mb < 8 → ((s.booted hottest slot fb img).mbox mb).phase ≠ .waiting := fun mb hmb => takeWaiting_phase _ hmb
  generalize s.booted hottest slot fb img = v at hshow hwait
  have hend : NoNewWait v (if hot then v.thermalShutdown else v) := .ite (fun _ => thermalShutdown_waits v) fun _ => .refl v
  generalize (if hot then v.thermalShutdown else v) = u at hshow hend
  refine done_then fun t he hmbs => ?_
  have ht := hshow.congr (t := t) fun f hf => he.touch.get0 f (by
    obtain ⟨-, hd, hlo⟩ := hf
    exact ⟨by rw [List.append_nil]; exact List.all_eq_true.2 fun p hp => List.all_eq_true.1 hd p (List.mem_append_left _ hp), hlo⟩)
  refine ⟨ht.state, ht.slot, ?_, ht.version, ht.ready, fun mb hmb hphase => hwait mb hmb (hend mb (mbox_congr hmbs mb ▸ hphase))⟩
  rw [flag_eq, ht.fallback]
  cases fb <;> rfl

/-- Settles O33. -/
theorem bootReachesFirmwareReady : Obligations.BootReachesFirmwareReady :=
  ⟨resetRelease_starts, rstNRelease_starts, pcieLinkUp_trains, bootFailed_shows, fwDownload_takes, firmwareReady_shows, fwFlashWrite_runs, fwFlashWriteDone_answers⟩

end Sys2Proof.Machine
end

section
/-! SUPPORT. Dispatch, commit, images, holds and state words of the engines (O40). -/

namespace Sys2Proof.Machine

/-! ### Starting a task (R518, R519) -/

theorem eng_of_issueKept {banks : Bool} {but : List Nat} {s t : State} (h : IssueKept banks but s t) : t.eng = s.eng :=
  (congrArg State.eng (offPackets_of_issueKept h) :)

theorem eng_of_memWritten {s t : State} (h : MemWritten s t) : t.eng = s.eng := (congrArg State.eng (offPackets_of_memWritten h) :)

theorem clock_of_issueKept {banks : Bool} {but : List Nat} {s t : State} (h : IssueKept banks but s t) : t.clock = s.clock :=
  (congrArg State.clock (offPackets_of_issueKept h) :)

/-- The task that starts on a thread. -/
def State.firstTask (s : State) (e id : Nat) (p : Pkt) (entry : Nat) : Task :=
  let data := p.data.take (p.data.length - 4)
  let b := bitsOf entry 16 16
  { pkt := id, prog := actProgram p.action, pc := bitsOf entry 0 12
    budget := if b = 0 then (match s.confOf p with | some c => c.maxInsns | none => s.get Reg.ENG_CFG_MAX_INSNS) else b
    cntRead := bitsOf entry 13 1 == 1, data := data
    poison := ((s.readWords p 0 (min 16 (wordsFor p.data.length)) 2).2.flatMap (fun w => (List.range 32).map (fun i => 32 * w + i))).filter (fun o => o < data.length)
    home := e / 16, start := s.latNow (e / 16), fetchAt := s.latNow (e / 16) + 8 }

/-- The packet's first bytes in the thread's buffer. -/
def State.buffered (s : State) (e t : Nat) (p : Pkt) (marks : List Nat) : State :=
  (List.range (min 64 ((p.data.length + 7) / 8))).foldl (fun s x => s.memWrite 4 e (64 * t + x) (marks.any (fun o => o / 8 == x))) s

theorem startTask_eq (s : State) (e t id : Nat) (p : Pkt) (entry : Nat) :
    s.startTask e t id p entry =
      ((((s.readWords p 0 (min 16 (wordsFor p.data.length)) 2).1.buffered e t p (s.firstTask e id p entry).poison).zeroRegion e t).putTask e t
        (some (s.firstTask e id p entry))).refreshBusy (e / 16) := rfl

theorem buffered_written (s : State) (e t : Nat) (p : Pkt) (marks : List Nat) : MemWritten s (s.buffered e t p marks) := by
  unfold State.buffered
  generalize List.range (min 64 ((p.data.length + 7) / 8)) = l
  induction l generalizing s with
  | nil => exact .refl s
  | cons x l ih => exact (memWritten_memWrite s 4 e _ _).trans (ih _)

/-- Starting a task puts it on its thread and leaves the rest of the engines. -/
theorem startTask_eng (s : State) (e t id : Nat) (p : Pkt) (entry : Nat) :
    (s.startTask e t id p entry).eng = { s.eng with tasks := tput none s.eng.tasks (8 * e + t) (some (s.firstTask e id p entry)) } := by
  have hread : (s.readWords p 0 (min 16 (wordsFor p.data.length)) 2).1.eng = s.eng := eng_of_issueKept (readWords_marks s p 0 _ 2).1
  rw [startTask_eq]
  generalize s.firstTask e id p entry = k
  generalize (s.readWords p 0 (min 16 (wordsFor p.data.length)) 2).1 = v at hread
  have hbuf := (eng_of_memWritten (buffered_written v e t p k.poison)).trans hread
  generalize v.buffered e t p k.poison = w at hbuf
  exact congrArg (fun g : EngState => { g with tasks := tput none g.tasks (8 * e + t) (some k) }) hbuf

/-- The queue's head leaves for a thread of lateral `lat`. -/
def State.dispatchTaken (s : State) (rest : List Nat) (lat now : Nat) : State :=
  { s with eng := { s.eng with taskQ := rest, rr := (lat + 1) % 32, dispCycle := s.cycle + 1, dispatched := now + 1 } }

/-- A dispatch is counted. -/
def State.dispatchCounted (s : State) (lat turnout : Nat) : State := (((s.bump Cnt.DISPATCHED).bump Cnt.LAT_TASKS lat).bump Cnt.TN_TASKS turnout).perfDev 3 1

theorem dispatchCounted_kept (s : State) (lat turnout : Nat) : (s.dispatchCounted lat turnout).eng = s.eng ∧ (s.dispatchCounted lat turnout).mem.words = s.mem.words ∧
    (s.dispatchCounted lat turnout).clock = s.clock := by
  have hb : RegsLogs s (((s.bump Cnt.DISPATCHED).bump Cnt.LAT_TASKS lat).bump Cnt.TN_TASKS turnout) := ((regsLogs_bump _ _ _ _ _).trans (regsLogs_bump _ _ _ _ _)).trans (regsLogs_bump _ _ _ _ _)
  unfold State.dispatchCounted
  generalize ((s.bump Cnt.DISPATCHED).bump Cnt.LAT_TASKS lat).bump Cnt.TN_TASKS turnout = v at hb
  have hp := issueKept_perfDev v 3 1
  exact ⟨(eng_of_issueKept hp).trans (hb.keeps State.eng fun _ _ _ => rfl), (hp.words List.not_mem_nil).trans (hb.keeps (fun v => v.mem.words) fun _ _ _ => rfl),
    (clock_of_issueKept hp).trans (hb.keeps State.clock fun _ _ _ => rfl)⟩

/-- What becomes of the queue's head once a thread is picked; `s` is the state before. -/
def State.dispatchTo (s v : State) (e t id : Nat) (p : Pkt) : Out :=
  if (v.readDesc id).1 then done s (if p.ordered then (((v.readDesc id).2.leak id).bite 10 none).leave p.turnout p.num else ((v.readDesc id).2.leak id).bite 10 none)
  else
    let m := ((v.readDesc id).2.dispatchCounted (e / 16) p.turnout).memRead 6 (e / 16) (actProgram p.action) 3
    if m.1 then done s (m.2.raiseAtDispatch e t id p 6)
    else if bitsOf (imgEntry (s.latImage (e / 16)) (actProgram p.action)) 12 1 = 0 then done s (m.2.raiseAtDispatch e t id p 13)
    else done s (m.2.startTask e t id p (imgEntry (s.latImage (e / 16)) (actProgram p.action)))

/-- The tasks started in this cycle (R518). -/
def State.startedNow (s : State) : Nat := if s.eng.dispCycle = s.cycle + 1 then s.eng.dispatched else 0

theorem taskDispatch_picked {id e t : Nat} {rest : List Nat} {p : Pkt} {s : State} (hq : s.eng.taskQ = id :: rest) (hlt : ¬4 ≤ s.startedNow) (hp : s.pkt id = some p)
    (hpick : s.pickThread p.gen = some (e, t)) : exec .taskDispatch s = s.dispatchTo (s.dispatchTaken rest (e / 16) s.startedNow) e t id p := by
  show execTaskDispatch s = _
  unfold execTaskDispatch
  rw [hq]
  refine (if_neg hlt).trans ?_
  rw [hp]
  dsimp only
  rw [hpick]
  rfl

theorem taskDispatch_eq {id e t : Nat} {rest : List Nat} {p : Pkt} {s : State} (hq : s.eng.taskQ = id :: rest) (hcycle : ¬(s.eng.dispCycle = s.cycle + 1 ∧ 4 ≤ s.eng.dispatched))
    (hp : s.pkt id = some p) (hpick : s.pickThread p.gen = some (e, t)) (hdesc : (s.readDesc id).1 = false) (hclean : Clean 6 (e / 16) (actProgram p.action) s)
    (hentry : bitsOf (imgEntry (s.latImage (e / 16)) (actProgram p.action)) 12 1 = 1) :
    exec .taskDispatch s = done s (((((s.dispatchTaken rest (e / 16) s.startedNow).readDesc id).2.dispatchCounted (e / 16) p.turnout).memRead 6 (e / 16) (actProgram p.action) 3).2.startTask e t id p
      (imgEntry (s.latImage (e / 16)) (actProgram p.action))) := by
  have hlt : ¬4 ≤ s.startedNow := by
    unfold State.startedNow
    split
    · next hc => exact fun h4 => hcycle ⟨hc, h4⟩
    · decide
  have hpk : (s.dispatchTaken rest (e / 16) s.startedNow).pk.pkts = s.pk.pkts := rfl
  have hmem : (s.dispatchTaken rest (e / 16) s.startedNow).mem.words = s.mem.words := rfl
  have hd : ((s.dispatchTaken rest (e / 16) s.startedNow).readDesc id).1 = false := (readDesc_fst_congr hpk hmem id).trans hdesc
  have hwords : (((s.dispatchTaken rest (e / 16) s.startedNow).readDesc id).2.dispatchCounted (e / 16) p.turnout).mem.words = s.mem.words :=
    ((dispatchCounted_kept _ _ _).2.1.trans (readDesc_words _ id)).trans hmem
  have hm : ((((s.dispatchTaken rest (e / 16) s.startedNow).readDesc id).2.dispatchCounted (e / 16) p.turnout).memRead 6 (e / 16) (actProgram p.action) 3).1 = false :=
    (memRead_fst_congr hwords _ _ _ _ 3).trans (memRead_clean hclean 3)
  have hent : ¬bitsOf (imgEntry (s.latImage (e / 16)) (actProgram p.action)) 12 1 = 0 := by rw [hentry]; decide
  rw [taskDispatch_picked hq hlt hp hpick]
  generalize s.dispatchTaken rest (e / 16) s.startedNow = v at hd hm ⊢
  unfold State.dispatchTo
  rw [if_neg (ne_true_of_eq_false hd)]
  exact (if_neg (ne_true_of_eq_false hm)).trans (if_neg hent)

theorem taskDispatch_starts (id e t : Nat) (rest : List Nat) (p : Pkt) (s : State) (hq : s.eng.taskQ = id :: rest) (hcycle : ¬(s.eng.dispCycle = s.cycle + 1 ∧ 4 ≤ s.eng.dispatched))
    (hp : s.pkt id = some p) (hpick : s.pickThread p.gen = some (e, t)) (hdesc : (s.readDesc id).1 = false) (hclean : Clean 6 (e / 16) (actProgram p.action) s)
    (hentry : bitsOf (imgEntry (s.latImage (e / 16)) (actProgram p.action)) 12 1 = 1) :
    ∃ u k, exec .taskDispatch s = .next u ∧ u.task e t = some k ∧ k.pkt = id ∧ k.prog = actProgram p.action ∧ k.issued = 0 ∧ k.regs = [] ∧ k.dmem = [] ∧
      k.pc = bitsOf (imgEntry (s.latImage (e / 16)) (actProgram p.action)) 0 12 ∧ k.data = p.data.take (p.data.length - 4) ∧ k.home = e / 16 ∧
      k.start = s.latNow (e / 16) ∧ k.fetchAt = s.latNow (e / 16) + 8 ∧
      u.eng.taskQ = rest ∧ (∀ n, n ≠ 8 * e + t → tget none u.eng.tasks n = tget none s.eng.tasks n) := by
  have hexec := taskDispatch_eq hq hcycle hp hpick hdesc hclean hentry
  generalize imgEntry (s.latImage (e / 16)) (actProgram p.action) = entry at hexec ⊢
  have htaken : (s.dispatchTaken rest (e / 16) s.startedNow).clock = s.clock ∧ (s.dispatchTaken rest (e / 16) s.startedNow).eng.held = s.eng.held ∧
      (s.dispatchTaken rest (e / 16) s.startedNow).eng.tasks = s.eng.tasks ∧ (s.dispatchTaken rest (e / 16) s.startedNow).eng.taskQ = rest := ⟨rfl, rfl, rfl, rfl⟩
  generalize s.dispatchTaken rest (e / 16) s.startedNow = v0 at hexec htaken
  obtain ⟨hclk0, hheld0, htasks0, hq0⟩ := htaken
  have hread1 := (readDesc_read v0 id).2
  generalize (v0.readDesc id).2 = v1 at hexec hread1
  obtain ⟨heng2, -, hclk2⟩ := dispatchCounted_kept v1 (e / 16) p.turnout
  generalize v1.dispatchCounted (e / 16) p.turnout = v2 at hexec heng2 hclk2
  have hread3 := issueKept_memRead v2 (mem := 6) (by decide) (e / 16) (actProgram p.action) 3
  have heng3 := eng_of_issueKept hread3
  have hclk3 := clock_of_issueKept hread3
  clear hread3
  generalize (v2.memRead 6 (e / 16) (actProgram p.action) 3).2 = v at hexec heng3 hclk3
  have heng : v.eng = v0.eng := heng3.trans (heng2.trans (hread1.keeps State.eng fun _ _ _ _ => rfl))
  have hclk : v.clock = s.clock := (hclk3.trans (hclk2.trans (hread1.keeps State.clock fun _ _ _ _ => rfl))).trans hclk0
  have hnow : v.latNow (e / 16) = s.latNow (e / 16) := by
    unfold State.latNow State.cycle
    rw [hclk, heng, hheld0]
  obtain ⟨u, hu, he⟩ := done_eng s (v.startTask e t id p entry)
  have hue : u.eng = { v0.eng with tasks := tput none v0.eng.tasks (8 * e + t) (some (v.firstTask e id p entry)) } := by rw [he, startTask_eng, heng]
  have htasks : u.eng.tasks = tput none s.eng.tasks (8 * e + t) (some (v.firstTask e id p entry)) := by rw [hue, htasks0]
  have htaskQ : u.eng.taskQ = rest := by rw [hue, hq0]
  refine ⟨u, v.firstTask e id p entry, hexec.trans hu, ?_, rfl, rfl, rfl, rfl, rfl, rfl, rfl, rfl, hnow, congrArg (· + 8) hnow, htaskQ, fun n hn => ?_⟩
  · unfold State.task
    rw [htasks]
    exact tget_tput_self _ _ _ _
  · rw [htasks]
    exact tget_tput_ne _ _ _ _ hn

/-! ### Committing a task (R520, R530) -/

theorem domains_newPkt (s : State) (p : Pkt) : (s.newPkt p).1.pk.domains = s.pk.domains := rfl

/-- One emit of an ended task passes to admission. -/
def State.emitPassed (p : Pkt) (s : State) (x : Emit) : State := ((s.newPkt (x.packet p)).1.dispose (s.newPkt (x.packet p)).2 (x.packet p)).perfDev 13 1

theorem commitEmits_eq (s : State) (id : Nat) (p : Pkt) (es : List Emit) : s.commitEmits id p es = (es.foldl (State.emitPassed p) s).dropPkt id := rfl

theorem domains_emitPassed (p : Pkt) (s : State) (x : Emit) : (s.emitPassed p x).pk.domains = s.pk.domains := by
  unfold State.emitPassed
  rw [perfDev_same_pk, domains_dispose, domains_newPkt]

theorem domains_commitEmits (s : State) (id : Nat) (p : Pkt) (es : List Emit) : (s.commitEmits id p es).pk.domains = s.pk.domains := by
  rw [commitEmits_eq, domains_dropPkt]
  exact foldl_keeps (fun v : State => v.pk.domains) (domains_emitPassed p) es s

/-- Passing over the numbers that have left never goes back. -/
theorem le_advance (n left : Nat) (gone : List Nat) : left ≤ (advance n left gone).1 := by
  induction n generalizing left gone with
  | zero => exact le_refl _
  | succ n ih =>
    unfold advance
    split
    · exact (Nat.le_succ left).trans (ih _ _)
    · exact le_refl _

/-- A domain whose turn is `n` moves on when `n` leaves. -/
theorem leave_moves (s : State) (t : Nat) : (s.domain t).left < ((s.leave t (s.domain t).left).domain t).left := by
  unfold State.leave
  dsimp only
  rw [domain_setDomain]
  dsimp only
  rw [List.length_append]
  show _ < (advance ((s.domain t).gone.length + 1) (s.domain t).left ((s.domain t).gone ++ [(s.domain t).left])).1
  unfold advance
  rw [if_pos (by simp)]
  exact le_advance _ _ _

/-- An ended task whose packet is next in the order of its turnout. -/
def State.nextIn (s : State) (t : Nat) (x : Nat × List Emit) : Bool :=
  match s.pkt x.1 with
  | some p => p.turnout == t && p.num == (s.domain t).left
  | none => false

theorem nextIn_true {s : State} {t : Nat} {x : Nat × List Emit} {p : Pkt} (hp : s.pkt x.1 = some p) (ht : p.turnout = t) (hn : p.num = (s.domain t).left) : s.nextIn t x = true := by
  unfold State.nextIn
  rw [hp]
  simp [ht, hn]

theorem nextIn_false {s : State} {t : Nat} {x : Nat × List Emit} (h : ∀ q, s.pkt x.1 = some q → ¬(q.turnout = t ∧ q.num = (s.domain t).left)) : s.nextIn t x = false := by
  unfold State.nextIn
  split
  · next q hq => simpa using h q hq
  · rfl

theorem taskCommit_eq {turnout : Fin 256} {x : Nat × List Emit} {pre rest : List (Nat × List Emit)} {p : Pkt} {s : State} (hended : s.eng.ended = pre ++ x :: rest)
    (hp : s.pkt x.1 = some p) (hx : s.nextIn turnout.val x = true) (hpre : ∀ y ∈ pre, s.nextIn turnout.val y = false) :
    exec (.taskCommit turnout) s = done s ((({ s with eng := { s.eng with ended := pre ++ rest } } : State).commitEmits x.1 p x.2).leave turnout.val p.num) := by
  have hfind : s.eng.ended.find? (s.nextIn turnout.val) = some x := by
    rw [hended, List.find?_append, List.find?_eq_none.2 fun y hy => by rw [hpre y hy]; decide, List.find?_cons_of_pos hx]
    rfl
  have hnot : x ∉ pre := fun hmem => by
    rw [hpre x hmem] at hx
    exact Bool.false_ne_true hx
  have herase : s.eng.ended.erase x = pre ++ rest := by rw [hended, List.erase_append_right _ hnot, List.erase_cons_head]
  show execTaskCommit turnout s = _
  unfold execTaskCommit
  dsimp only
  generalize hm : List.find? _ s.eng.ended = mine
  obtain rfl : mine = some x := hm.symm.trans hfind
  dsimp only
  rw [hp]
  dsimp only
  rw [herase]

theorem taskCommit_commits (turnout : Fin 256) (x : Nat × List Emit) (pre rest : List (Nat × List Emit)) (p : Pkt) (s : State) (hended : s.eng.ended = pre ++ x :: rest)
    (hp : s.pkt x.1 = some p) (ht : p.turnout = turnout.val) (hn : p.num = (s.domain turnout.val).left)
    (hpre : ∀ y ∈ pre, ∀ q, s.pkt y.1 = some q → ¬(q.turnout = turnout.val ∧ q.num = (s.domain turnout.val).left)) :
    ∃ u, exec (.taskCommit turnout) s = .next u ∧ u.eng.ended = pre ++ rest ∧ u.pkt x.1 = none ∧ p.num < (u.domain turnout.val).left := by
  have hexec := taskCommit_eq hended hp (nextIn_true hp ht hn) fun y hy => nextIn_false (hpre y hy)
  generalize hv : ({ s with eng := { s.eng with ended := pre ++ rest } } : State) = v at hexec
  have hve : v.eng.ended = pre ++ rest := hv ▸ rfl
  have hvd : v.pk.domains = s.pk.domains := hv ▸ rfl
  have hwe : (v.commitEmits x.1 p x.2).eng = v.eng := (congrArg State.eng (offPackets_commitEmits v x.1 p x.2) :)
  have hwd : (v.commitEmits x.1 p x.2).pk.domains = s.pk.domains := (domains_commitEmits v x.1 p x.2).trans hvd
  have hgone : (v.commitEmits x.1 p x.2).pkt x.1 = none := by
    rw [commitEmits_eq]
    exact dropPkt_gone _ _
  generalize v.commitEmits x.1 p x.2 = w at hexec hwe hwd hgone
  have hdom : w.domain turnout.val = s.domain turnout.val := by
    unfold State.domain
    rw [hwd]
  have hleft : p.num < ((w.leave turnout.val p.num).domain turnout.val).left := by
    have h := leave_moves w turnout.val
    rw [hdom, ← hn] at h
    exact h
  have hle : (w.leave turnout.val p.num).eng = w.eng := rfl
  have hlp : (w.leave turnout.val p.num).pkt x.1 = none := hgone
  generalize w.leave turnout.val p.num = y at hexec hleft hle hlp
  rw [hexec]
  refine done_then fun u he _ => ⟨?_, ?_, ?_⟩
  · exact ((he.keeps (fun v => v.eng.ended) fun _ _ _ _ _ _ _ => rfl).trans (congrArg EngState.ended (hle.trans hwe))).trans hve
  · exact (he.keeps (fun v => v.pkt x.1) fun _ _ _ _ _ _ _ => rfl).trans hlp
  · exact (he.keeps (fun v => (v.domain turnout.val).left) fun _ _ _ _ _ _ _ => rfl).symm ▸ hleft

/-! ### Images (R539, R540) -/

theorem loadLateral_written (s : State) (lat : Nat) : ∃ m, MemWritten { s with mem := m } (s.loadLateral lat) := by
  unfold State.loadLateral
  dsimp only
  generalize List.filter _ s.mem.words = ws
  refine ⟨{ s.mem with words := ws }, .trans ?_ (memWritten_memWrite _ _ _ _ _)⟩
  generalize ({ s with mem := { s.mem with words := ws } } : State) = v
  generalize List.range 16 = l
  induction l generalizing v with
  | nil => exact .refl v
  | cons x l ih => exact (memWritten_memWrite v _ _ _ _).trans (ih _)

theorem refreshEng_eng (s : State) : s.refreshEng.eng = s.eng := by
  have h : RegsLogs s s.refreshEng := by
    unfold State.refreshEng
    generalize hv : (s.set Reg.ENG_STATUS_ACTION_IN (s.latsIn 0).length).set Reg.ENG_STATUS_FW_IN _ = v
    have hv' : RegsLogs s v := hv ▸ ((RegsLogs.refl s).set _ _ _ _).set _ _ _ _
    unfold State.switchEnd
    exact .ite ((((hv'.set _ _ _ _).set _ _ _ _).set _ _ _ _).log _ _ _) hv'
  exact h.keeps State.eng fun _ _ _ => rfl

theorem lateralConvert_converts (lat : Nat) (rest : List Nat) (s : State) (hun : s.unconverted = lat :: rest) (hidle : s.latTasks lat = []) (hlast : rest = [] → s.oldLeft = false)
    (hdue : max (tget 0 s.eng.latLast lat) (tget 0 s.eng.convFrom lat) + 1024 ≤ s.latNow lat) :
    ∃ u, exec .lateralConvert s = .next u ∧ u.latGenOf lat = s.eng.gen ∧ u.eng.gen = s.eng.gen ∧ (∀ k, k ≠ lat → u.latGenOf k = s.latGenOf k) := by
  show ∃ u, execLateralConvert s = _ ∧ _
  unfold execLateralConvert
  rw [hun]
  dsimp only
  have hgo : ¬((!(s.latTasks lat).isEmpty || (rest.isEmpty && s.oldLeft) || decide (s.latNow lat < max (tget 0 s.eng.latLast lat) (tget 0 s.eng.convFrom lat) + 1024)) = true) := by
    have hold : (rest.isEmpty && s.oldLeft) = false := by
      cases rest with
      | nil => rw [hlast rfl]; rfl
      | cons _ _ => rfl
    rw [hidle, hold, decide_eq_false (Nat.not_lt.2 hdue)]
    decide
  rw [if_neg hgo]
  obtain ⟨m, hload⟩ := loadLateral_written s lat
  have heng : (s.loadLateral lat).eng = s.eng := (eng_of_memWritten hload).trans rfl
  generalize s.loadLateral lat = v at heng
  generalize hw : ({ v with eng := { v.eng with latGen := tput 0 v.eng.latGen lat s.eng.gen, convFrom := s.latNows } } : State) = w
  have hwe : w.eng = { s.eng with latGen := tput 0 s.eng.latGen lat s.eng.gen, convFrom := s.latNows } := by rw [← hw, heng]
  obtain ⟨u, hu, he⟩ := done_eng s w.refreshEng
  have hue := he.trans ((refreshEng_eng w).trans hwe)
  have hgen : u.eng.latGen = tput 0 s.eng.latGen lat s.eng.gen := congrArg EngState.latGen hue
  refine ⟨u, hu, ?_, (congrArg EngState.gen hue :), fun k hk => ?_⟩
  · unfold State.latGenOf
    rw [hgen]
    exact tget_tput_self _ _ _ _
  · unfold State.latGenOf
    rw [hgen]
    exact tget_tput_ne _ _ _ _ hk

/-! ### Reading and writing state words (R543) -/

/-- One word of ENG_STATE_READ from word `w` on. -/
def stateReadStep (w : Nat) (r : State × List Byte × Nat) (i : Nat) : State × List Byte × Nat :=
  let m := r.1.memRead 5 0 (w + i) 5
  (m.2, r.2.1 ++ bytes 8 (if m.1 then 0 else (tget 0 m.2.eng.words (w + i)).toNat), r.2.2 + (if m.1 then 2 ^ i else 0))

theorem clean_congr {s t : State} (h : t.mem.words = s.mem.words) {mem inst word : Nat} (hc : Clean mem inst word s) : Clean mem inst word t := by
  unfold Clean State.wordBits State.wordFlag at hc ⊢
  rwa [h]

/-- Sound state words are returned, and no mark is set. -/
theorem stateReads_clean {s : State} {w : Nat} {l : List Nat} (hc : ∀ i ∈ l, Clean 5 0 (w + i) s) {v : State} (hv : IssueKept false [] s v) (d : List Byte) (map : Nat) :
    ∃ u, l.foldl (stateReadStep w) (v, d, map) = (u, d ++ l.flatMap (fun i => bytes 8 (tget 0 s.eng.words (w + i)).toNat), map) ∧ IssueKept false [] s u := by
  induction l generalizing v d with
  | nil => exact ⟨v, by simp, hv⟩
  | cons i l ih =>
    have hread := issueKept_memRead v (mem := 5) (by decide) 0 (w + i) 5
    have hone : (v.memRead 5 0 (w + i) 5).1 = false := memRead_clean (clean_congr (hv.words List.not_mem_nil) (hc i List.mem_cons_self)) 5
    have hstep : stateReadStep w (v, d, map) i = ((v.memRead 5 0 (w + i) 5).2, d ++ bytes 8 (tget 0 s.eng.words (w + i)).toNat, map) := by
      have heng : (v.memRead 5 0 (w + i) 5).2.eng = s.eng := (eng_of_issueKept hread).trans (eng_of_issueKept hv)
      unfold stateReadStep
      dsimp only
      rw [hone, heng]
      rfl
    obtain ⟨u, hu, hk⟩ := ih (fun j hj => hc j (List.mem_cons_of_mem _ hj)) (hv.trans hread) (d ++ bytes 8 (tget 0 s.eng.words (w + i)).toNat)
    refine ⟨u, ?_, hk⟩
    rw [List.foldl_cons, hstep, hu, List.flatMap_cons, List.append_assoc]

theorem engStateRead_returns (mb : Fin 8) (p : List Byte) (s : State) (hreq : s.request mb.val 0x0636 = some p) (hon : s.blocksOff = false) (hrange : u32 p 0 + u16 p 4 ≤ 524288)
    (hc : ∀ i, i < u16 p 4 → Clean 5 0 (u32 p 0 + i) s) :
    ∃ u, exec (.engStateRead mb) s = .next u ∧ u.eng = s.eng ∧
      Answered mb.val (okD ((List.range (u16 p 4)).flatMap (fun i => bytes 8 (tget 0 s.eng.words (u32 p 0 + i)).toNat) ++ bytes 16 0)) s u := by
  show ∃ u, execEngStateRead mb s = _ ∧ _
  unfold execEngStateRead
  obtain ⟨v, hv, hk⟩ := stateReads_clean (s := s.serving mb.val) (w := u32 p 0) (l := List.range (u16 p 4)) (fun i hi => hc i (List.mem_range.1 hi)) (.refl _) [] 0
  have heng : v.eng = s.eng := (eng_of_issueKept hk).trans rfl
  have hmbs : v.mbs = s.mbs := (congrArg State.mbs (offPackets_of_issueKept hk) :)
  refine actOn_then (u := v) (r := okD ((List.range (u16 p 4)).flatMap (fun i => bytes 8 (tget 0 s.eng.words (u32 p 0 + i)).toNat) ++ bytes 16 0)) hreq hon ?_ fun t he hans => ⟨?_, hans.of_mbs hmbs⟩
  · show (if 524288 < u32 p 0 + u16 p 4 then (s.serving mb.val, stateRange)
      else (((List.range (u16 p 4)).foldl (stateReadStep (u32 p 0)) (s.serving mb.val, [], 0)).1,
        okD (((List.range (u16 p 4)).foldl (stateReadStep (u32 p 0)) (s.serving mb.val, [], 0)).2.1 ++ bytes 16 ((List.range (u16 p 4)).foldl (stateReadStep (u32 p 0)) (s.serving mb.val, [], 0)).2.2))) = _
    rw [if_neg (Nat.not_lt.2 hrange), hv]
    rfl
  · exact (he.keeps State.eng fun _ _ _ _ _ _ _ => rfl).trans heng

/-- Word `i` of ENG_STATE_WRITE from word `w` on. -/
def State.stateWord (w : Nat) (p : List Byte) (s : State) (i : Nat) : State :=
  ({ s with eng := { s.eng with words := tput 0 s.eng.words (w + i) (BitVec.ofNat 64 (u64 p (8 + 8 * i))) } }).memWrite 5 0 (w + i)

theorem stateWord_words (w : Nat) (p : List Byte) (s : State) (i : Nat) : (s.stateWord w p i).eng.words = tput 0 s.eng.words (w + i) (BitVec.ofNat 64 (u64 p (8 + 8 * i))) := by
  unfold State.stateWord
  rw [eng_of_memWritten (memWritten_memWrite _ _ _ _ _)]

theorem stateWord_mbs (w : Nat) (p : List Byte) (s : State) (i : Nat) : (s.stateWord w p i).mbs = s.mbs :=
  (memWritten_memWrite _ _ _ _ _).mbs

/-- The words that ENG_STATE_WRITE leaves. -/
theorem stateWords_written (w n : Nat) (p : List Byte) (s : State) :
    (∀ i, i < n → tget 0 ((List.range n).foldl (State.stateWord w p) s).eng.words (w + i) = BitVec.ofNat 64 (u64 p (8 + 8 * i))) ∧
      (∀ j, j < w ∨ w + n ≤ j → tget 0 ((List.range n).foldl (State.stateWord w p) s).eng.words j = tget 0 s.eng.words j) := by
  induction n with
  | zero => exact ⟨fun i hi => absurd hi (Nat.not_lt_zero i), fun _ _ => rfl⟩
  | succ n ih =>
    obtain ⟨hin, hout⟩ := ih
    rw [List.range_succ, List.foldl_append, List.foldl_cons, List.foldl_nil]
    generalize (List.range n).foldl (State.stateWord w p) s = v at hin hout
    rw [stateWord_words]
    refine ⟨fun i hi => ?_, fun j hj => ?_⟩
    · rcases Nat.lt_succ_iff_lt_or_eq.1 hi with hlt | rfl
      · rw [tget_tput_ne _ _ _ _ (by omega)]
        exact hin i hlt
      · exact tget_tput_self _ _ _ _
    · rw [tget_tput_ne _ _ _ _ (by omega)]
      exact hout j (by omega)

theorem engStateWrite_writes (mb : Fin 8) (p : List Byte) (s : State) (hreq : s.request mb.val 0x0637 = some p) (hon : s.blocksOff = false) (hrange : u32 p 0 + u16 p 4 ≤ 524288) :
    ∃ u, exec (.engStateWrite mb) s = .next u ∧ Answered mb.val ok s u ∧
      (∀ i, i < u16 p 4 → tget 0 u.eng.words (u32 p 0 + i) = BitVec.ofNat 64 (u64 p (8 + 8 * i))) ∧
      (∀ j, j < u32 p 0 ∨ u32 p 0 + u16 p 4 ≤ j → tget 0 u.eng.words j = tget 0 s.eng.words j) := by
  show ∃ u, execEngStateWrite mb s = _ ∧ _
  unfold execEngStateWrite
  have hw := stateWords_written (u32 p 0) (u16 p 4) p (s.serving mb.val)
  have hmbs : ((List.range (u16 p 4)).foldl (State.stateWord (u32 p 0) p) (s.serving mb.val)).mbs = s.mbs :=
    foldl_keeps State.mbs (stateWord_mbs (u32 p 0) p) (List.range (u16 p 4)) (s.serving mb.val)
  refine actOn_then (u := (List.range (u16 p 4)).foldl (State.stateWord (u32 p 0) p) (s.serving mb.val)) (r := ok) hreq hon (if_neg (Nat.not_lt.2 hrange)) fun t he hans => ?_
  have heng := he.keeps State.eng fun _ _ _ _ _ _ _ => rfl
  rw [heng]
  exact ⟨hans.of_mbs hmbs, hw⟩

/-! ### Loading an image (R539) -/

/-- The image after a chunk of ENG_IMAGE_LOAD. -/
def State.chunkStaged (s : State) (img : List Byte) : State := ({ s with eng := { s.eng with staging := some img, passed := false } }).set Reg.ENG_STAGED_STAGED_ID 0

/-- What ENG_IMAGE_LOAD does with an image after a chunk. -/
def State.imageTaken (s : State) (img : List Byte) (last : Bool) : State × Reply :=
  if !last then (s.chunkStaged img, okD (bytes 4 0))
  else if imagePass img then
    (({ s.chunkStaged img with eng := { (s.chunkStaged img).eng with passed := true } }).set Reg.ENG_STAGED_STAGED_ID (imgId img), okD (bytes 4 (imgId img)))
  else ({ s.chunkStaged img with eng := { (s.chunkStaged img).eng with staging := none } }, err cINVALID)

/-- The function of ENG_IMAGE_LOAD. -/
def State.imageLoaded (p : List Byte) (s : State) : State × Reply :=
  if s.flag Reg.ENG_STATUS_SWITCHING then (s, err cBUSY)
  else if 32784 < u32 p 0 + u16 p 4 ∨ (¬ u8 p 6 % 2 = 1 ∧ (s.eng.staging.isNone ∨ s.eng.passed)) then (s, err cINVALID)
  else s.imageTaken (putAt (if u8 p 6 % 2 = 1 then [] else s.eng.staging.getD []) (u32 p 0) (p.drop 8)) (u8 p 6 / 2 = 1)

theorem engImageLoad_eq (mb : Fin 8) (s : State) : exec (.engImageLoad mb) s = actOn mb.val 0x0630 s State.imageLoaded := rfl

theorem chunkStaged_eng (s : State) (img : List Byte) : (s.chunkStaged img).eng = { s.eng with staging := some img, passed := false } := rfl

theorem chunkStaged_mbs (s : State) (img : List Byte) : (s.chunkStaged img).mbs = s.mbs := rfl

theorem chunkStaged_id (s : State) (img : List Byte) : (s.chunkStaged img).get Reg.ENG_STAGED_STAGED_ID = 0 := get_set_self _ _ _ _ _ (by decide)

/-- A chunk that fits and continues what is staged is taken. -/
theorem imageLoaded_takes {p : List Byte} {s : State} (hsw : s.flag Reg.ENG_STATUS_SWITCHING = false) (hfit : u32 p 0 + u16 p 4 ≤ 32784)
    (hcont : u8 p 6 % 2 = 1 ∨ (s.eng.staging ≠ none ∧ s.eng.passed = false)) :
    s.imageLoaded p = s.imageTaken (putAt (if u8 p 6 % 2 = 1 then [] else s.eng.staging.getD []) (u32 p 0) (p.drop 8)) (u8 p 6 / 2 = 1) := by
  have hok : ¬(32784 < u32 p 0 + u16 p 4 ∨ (¬u8 p 6 % 2 = 1 ∧ (s.eng.staging.isNone = true ∨ s.eng.passed = true))) := by
    rintro (hlt | ⟨hodd, hbad⟩)
    · exact absurd hfit (Nat.not_le.2 hlt)
    · obtain ⟨hst, hpass⟩ := hcont.resolve_left hodd
      rcases hbad with hnone | hp
      · exact hst (Option.isNone_iff_eq_none.1 hnone)
      · rw [hpass] at hp
        exact Bool.false_ne_true hp
  unfold State.imageLoaded
  rw [if_neg (ne_true_of_eq_false hsw), if_neg hok]

theorem engImageLoad_stages (mb : Fin 8) (p : List Byte) (s : State) (hreq : s.request mb.val 0x0630 = some p) (hon : s.blocksOff = false)
    (hsw : s.flag Reg.ENG_STATUS_SWITCHING = false) (hkind : u8 p 6 = 0 ∨ u8 p 6 = 1) (hfit : u32 p 0 + u16 p 4 ≤ 32784)
    (hcont : u8 p 6 = 0 → s.eng.staging ≠ none ∧ s.eng.passed = false) :
    ∃ u, exec (.engImageLoad mb) s = .next u ∧ Answered mb.val (okD [0, 0, 0, 0]) s u ∧
      u.eng.staging = some (putAt (if u8 p 6 = 1 then [] else s.eng.staging.getD []) (u32 p 0) (p.drop 8)) ∧ u.get Reg.ENG_STAGED_STAGED_ID = 0 := by
  have hfirst : (u8 p 6 % 2 = 1) = (u8 p 6 = 1) := propext (by omega)
  have hlast : ¬u8 p 6 / 2 = 1 := by omega
  have hload := imageLoaded_takes (s := s.serving mb.val) hsw hfit (by
    rcases hkind with h | h
    · exact .inr (hcont h)
    · exact .inl (by omega))
  rw [engImageLoad_eq]
  simp only [hfirst] at hload
  generalize hi : putAt (if u8 p 6 = 1 then [] else s.eng.staging.getD []) (u32 p 0) (p.drop 8) = img
  have htaken : (s.serving mb.val).imageLoaded p = ((s.serving mb.val).chunkStaged img, okD [0, 0, 0, 0]) := by
    rw [hload, show putAt (if u8 p 6 = 1 then [] else (s.serving mb.val).eng.staging.getD []) (u32 p 0) (p.drop 8) = img from hi, decide_eq_false hlast]
    rfl
  have heng := chunkStaged_eng (s.serving mb.val) img
  have hid := chunkStaged_id (s.serving mb.val) img
  have hmbs : ((s.serving mb.val).chunkStaged img).mbs = s.mbs := chunkStaged_mbs _ _
  generalize (s.serving mb.val).chunkStaged img = v at htaken heng hid hmbs
  refine actOn_then hreq hon htaken fun t he hans => ⟨hans.of_mbs hmbs, ?_, (he.answer_touch.get0 _ (by decide)).trans hid⟩
  exact (he.keeps (fun v => v.eng.staging) fun _ _ _ _ _ _ _ => rfl).trans (congrArg EngState.staging heng)

theorem engImageLoad_ends (mb : Fin 8) (p img : List Byte) (s : State) (hreq : s.request mb.val 0x0630 = some p) (hon : s.blocksOff = false)
    (hsw : s.flag Reg.ENG_STATUS_SWITCHING = false) (hkind : u8 p 6 = 2 ∨ u8 p 6 = 3) (hfit : u32 p 0 + u16 p 4 ≤ 32784)
    (hcont : u8 p 6 = 2 → s.eng.staging ≠ none ∧ s.eng.passed = false) (himg : img = putAt (if u8 p 6 = 3 then [] else s.eng.staging.getD []) (u32 p 0) (p.drop 8)) :
    ∃ u, exec (.engImageLoad mb) s = .next u ∧
      (imagePass img = true → Answered mb.val (okD (bytes 4 (imgId img))) s u ∧ u.eng.passed = true ∧ u.eng.staging = some img) ∧
      (imagePass img = false → Answered mb.val (err cINVALID) s u ∧ u.eng.staging = none) := by
  have hfirst : (u8 p 6 % 2 = 1) = (u8 p 6 = 3) := propext (by omega)
  have hlast : u8 p 6 / 2 = 1 := by omega
  have hload := imageLoaded_takes (s := s.serving mb.val) hsw hfit (by
    rcases hkind with h | h
    · exact .inr (hcont h)
    · exact .inl (by omega))
  rw [engImageLoad_eq]
  simp only [hfirst] at hload
  have htaken : (s.serving mb.val).imageLoaded p = (s.serving mb.val).imageTaken img true := by
    rw [hload, show putAt (if u8 p 6 = 3 then [] else (s.serving mb.val).eng.staging.getD []) (u32 p 0) (p.drop 8) = img from himg.symm, decide_eq_true hlast]
  unfold State.imageTaken at htaken
  rw [if_neg (by decide)] at htaken
  have heng := chunkStaged_eng (s.serving mb.val) img
  have hmbs : ((s.serving mb.val).chunkStaged img).mbs = s.mbs := chunkStaged_mbs _ _
  generalize (s.serving mb.val).chunkStaged img = v at htaken heng hmbs
  cases hpass : imagePass img with
  | true =>
    rw [if_pos hpass] at htaken
    have hstag : v.eng.staging = some img := congrArg EngState.staging heng
    refine actOn_then hreq hon htaken fun t he hans => ⟨fun _ => ⟨hans.of_mbs hmbs, ?_, ?_⟩, nofun⟩
    · exact he.keeps (fun v => v.eng.passed) fun _ _ _ _ _ _ _ => rfl
    · exact (he.keeps (fun v => v.eng.staging) fun _ _ _ _ _ _ _ => rfl).trans hstag
  | false =>
    rw [if_neg (ne_true_of_eq_false hpass)] at htaken
    exact actOn_then hreq hon htaken fun t he hans => ⟨nofun, fun _ => ⟨hans.of_mbs hmbs, he.keeps (fun v => v.eng.staging) fun _ _ _ _ _ _ _ => rfl⟩⟩

/-! ### Holding a lateral (R541, R542) -/

/-- The state after a hold ends. -/
def State.holdReleased (s : State) (k : Nat) : State :=
  let s1 := s.set Reg.LAT_STATUS_HELD 0 k
  (if s1.flag Reg.LAT_CTRL_EN k then (s1.enableObj 2 k).latReturn k else s1).refreshEng

/-- The state in which a hold waits for its lateral's quench. -/
def State.holdBegun (s : State) (mb k : Nat) : State :=
  let s1 := (s.set Reg.LAT_STATUS_HELD 1 k).startQuench 2 k
  ({ s1 with eng := { s1.eng with holdMb := some (mb, k) } }).refreshEng

/-- The function of ENG_LAT_HOLD. -/
def State.latHold (mb : Nat) (p : List Byte) (s : State) : State × Option Reply :=
  if s.blocksOff then (s, some (err cDENIED))
  else if u8 p 1 = 0 then (if !s.flag Reg.LAT_STATUS_HELD (u8 p 0) then (s, some ok) else (s.holdReleased (u8 p 0), some ok))
  else if (List.range 32).any (fun j => j ≠ u8 p 0 && s.flag Reg.LAT_STATUS_HELD j) then (s, some (err cBUSY))
  else if s.flag Reg.LAT_STATUS_HELD (u8 p 0) then (s, some ok)
  else if ((s.latsIn 0).filter (fun j => j ≠ u8 p 0)).isEmpty || decide (((s.latsIn 1).filter (fun j => j ≠ u8 p 0)).length < fwNeed s.mode) then (s, some (err cDENIED))
  else if s.qState 2 (u8 p 0) = 1 then (s, some (err cBUSY))
  else if s.qState 2 (u8 p 0) = 2 then (s.set Reg.LAT_STATUS_HELD 1 (u8 p 0), some ok)
  else (s.holdBegun mb (u8 p 0), none)

theorem engLatHold_eq (mb : Fin 8) (s : State) : exec (.engLatHold mb) s = actLong mb.val 0x0635 s (State.latHold mb.val) := rfl

/-- The fields that show which laterals run which image. -/
def engPatches : List Patch :=
  [Reg.ENG_STATUS_ACTION_IN.patch, Reg.ENG_STATUS_FW_IN.patch, Reg.ENG_STATUS_SWITCHING.patch, Reg.ENG_IMAGE_ACTIVE_ID.patch, Reg.ENG_EVENTS_IMAGE_DONE.patch]

theorem refreshEng_touch (s : State) : Touch engPatches s s.refreshEng := by
  unfold State.refreshEng
  generalize hv : (s.set Reg.ENG_STATUS_ACTION_IN (s.latsIn 0).length).set Reg.ENG_STATUS_FW_IN _ = v
  have hv' : Touch engPatches s v := hv ▸ ((Touch.refl _ s).set0 (by decide)).set0 (by decide)
  unfold State.switchEnd
  exact .ite (fun _ => (((hv'.set0 (f := Reg.ENG_STATUS_SWITCHING) (by decide)).set0 (f := Reg.ENG_IMAGE_ACTIVE_ID) (by decide)).set0 (f := Reg.ENG_EVENTS_IMAGE_DONE) (by decide)).log _ _ _) fun _ => hv'

theorem lateral_qState (s : State) (k : Nat) : s.qState 2 k = s.get Reg.LAT_STATUS_Q_STATE k := rfl

theorem lateral_setQState (s : State) (k v : Nat) : s.setQState 2 k v = s.set Reg.LAT_STATUS_Q_STATE v k := rfl

/-- Setting a lateral's hold shows it and leaves its state of a quench. -/
theorem setHeld_shows (s : State) (k : Nat) (on : Bool) :
    (s.set Reg.LAT_STATUS_HELD (b2n on) k).flag Reg.LAT_STATUS_HELD k = on ∧ (s.set Reg.LAT_STATUS_HELD (b2n on) k).get Reg.LAT_STATUS_Q_STATE k = s.get Reg.LAT_STATUS_Q_STATE k :=
  ⟨by rw [flag_set_self _ _ _ _ _ (by decide)]; cases on <;> rfl, get_set_ne _ _ _ _ _ _ _ _ (by decide) (.inr (by decide))⟩

theorem setLateralQ_shows (s : State) (k v : Nat) (hv : v < 4) :
    (s.set Reg.LAT_STATUS_Q_STATE v k).get Reg.LAT_STATUS_Q_STATE k = v ∧ (s.set Reg.LAT_STATUS_Q_STATE v k).flag Reg.LAT_STATUS_HELD k = s.flag Reg.LAT_STATUS_HELD k :=
  ⟨(get_set_self _ _ _ _ _ (by decide)).trans (Nat.mod_eq_of_lt hv), flag_set_ne _ _ _ _ _ _ _ _ (by decide) (.inr (by decide))⟩

theorem holdBegun_shows {s : State} {k : Nat} (hk : k < 32) (hq : s.qState 2 k = 0) (mb : Nat) :
    (s.holdBegun mb k).flag Reg.LAT_STATUS_HELD k = true ∧ (s.holdBegun mb k).qState 2 k = 1 ∧ (s.holdBegun mb k).eng.holdMb = some (mb, k) ∧ (s.holdBegun mb k).mbs = s.mbs := by
  unfold State.holdBegun
  dsimp only
  obtain ⟨hheld, hq1⟩ := setHeld_shows s k true
  have hm1 : (s.set Reg.LAT_STATUS_HELD 1 k).mbs = s.mbs := set_mbs _ _ _ _ _
  rw [show b2n true = 1 from rfl] at hheld hq1
  generalize s.set Reg.LAT_STATUS_HELD 1 k = v1 at hheld hq1 hm1
  have hq0 : v1.qState 2 k = 0 := hq1.trans hq
  unfold State.startQuench
  rw [hq0, lateral_setQState]
  obtain ⟨hq2, hheld2⟩ := setLateralQ_shows v1 k 1 (by decide)
  have hm2 : (v1.set Reg.LAT_STATUS_Q_STATE 1 k).mbs = s.mbs := (set_mbs _ _ _ _ _).trans hm1
  generalize v1.set Reg.LAT_STATUS_Q_STATE 1 k = v2 at hheld2 hq2 hm2
  generalize hx : v2.setQuench 2 k (some { start := v1.clock, timeout := v1.quenchTimeout }) = x
  have hxr : x.regs = v2.regs := hx ▸ rfl
  have hxm : x.mbs = v2.mbs := hx ▸ rfl
  generalize hw : ({ x with eng := { x.eng with holdMb := some (mb, k) } } : State) = w
  have hwr : w.regs = v2.regs := (hw ▸ rfl : w.regs = x.regs).trans hxr
  have hwm : w.mbs = s.mbs := ((hw ▸ rfl : w.mbs = x.mbs).trans hxm).trans hm2
  have hwe : w.eng.holdMb = some (mb, k) := hw ▸ rfl
  have ht : Touch engPatches v2 w.refreshEng := .trans (.of_regs hwr) (refreshEng_touch w)
  rw [lateral_qState, refreshEng_eng]
  exact ⟨(ht.flagRow _ hk (by decide)).trans (hheld2.trans hheld), (ht.getRow Reg.LAT_STATUS_Q_STATE hk (by decide)).trans hq2, hwe, (refreshEng_core w).mbs.trans hwm⟩

theorem get_of_regs {s t : State} (h : t.regs = s.regs) (f : Field) (i j : Nat) : t.get f i j = s.get f i j := by
  unfold State.get State.reg
  rw [h]

/-- A quiesced lateral that is enabled runs again. -/
theorem enableLateral_runs {s : State} {k : Nat} (hq : s.qState 2 k = 2) : ((s.enableObj 2 k).latReturn k).get Reg.LAT_STATUS_Q_STATE k = 0 := by
  have hret : ∀ v : State, (v.latReturn k).regs = v.regs := fun v => by
    unfold State.latReturn
    split
    · rfl
    · rfl
  have hobj : (s.enableObj 2 k).regs = (s.set Reg.LAT_STATUS_Q_STATE 0 k).regs := by
    unfold State.enableObj
    rw [hq]
    rfl
  exact (get_of_regs (hret _) _ k 0).trans ((get_of_regs hobj _ k 0).trans (setLateralQ_shows s k 0 (by decide)).1)

/-- Enabling a lateral writes its state of a quench at most. -/
theorem enableLateral_touch (s : State) {k : Nat} (hk : k < 32) : Touch [Reg.LAT_STATUS_Q_STATE.patch 32] s ((s.enableObj 2 k).latReturn k) := by
  have hret : ∀ v : State, Touch [Reg.LAT_STATUS_Q_STATE.patch 32] v (v.latReturn k) := fun v => .ite (fun _ => .refl _ v) fun _ => .of_regs rfl
  refine .trans ?_ (hret _)
  unfold State.enableObj
  split
  · exact .of_regs rfl
  · exact .trans ((Touch.refl _ s).setRow (f := Reg.LAT_STATUS_Q_STATE) hk (by decide)) (.of_regs rfl)

theorem holdReleased_shows {s : State} {k : Nat} (hk : k < 32) :
    (s.holdReleased k).flag Reg.LAT_STATUS_HELD k = false ∧ (s.holdReleased k).mbs = s.mbs ∧ (s.flag Reg.LAT_CTRL_EN k = true → s.qState 2 k = 2 → (s.holdReleased k).qState 2 k = 0) := by
  unfold State.holdReleased
  dsimp only
  obtain ⟨hheld, hq1⟩ := setHeld_shows s k false
  have ht1 : Touch [Reg.LAT_STATUS_HELD.patch 32] s (s.set Reg.LAT_STATUS_HELD 0 k) := (Touch.refl _ s).setRow hk (by decide)
  have hen1 : (s.set Reg.LAT_STATUS_HELD 0 k).flag Reg.LAT_CTRL_EN k = s.flag Reg.LAT_CTRL_EN k := ht1.flagRow _ hk (by decide)
  have hm1 : (s.set Reg.LAT_STATUS_HELD 0 k).mbs = s.mbs := set_mbs _ _ _ _ _
  rw [show b2n false = 0 from rfl] at hheld hq1
  generalize s.set Reg.LAT_STATUS_HELD 0 k = v at hheld hq1 hen1 hm1
  have ht2 : Touch [Reg.LAT_STATUS_Q_STATE.patch 32] v (if v.flag Reg.LAT_CTRL_EN k then (v.enableObj 2 k).latReturn k else v) := .ite (fun _ => enableLateral_touch v hk) fun _ => .refl _ v
  have hm2 : (if v.flag Reg.LAT_CTRL_EN k then (v.enableObj 2 k).latReturn k else v).mbs = s.mbs :=
    (CoreKept.ite (fun _ => (enableObj_core v 2 k).trans (latReturn_core _ k)) fun _ => .refl v : CoreKept v _).mbs.trans hm1
  have hq2 : s.flag Reg.LAT_CTRL_EN k = true → s.qState 2 k = 2 → (if v.flag Reg.LAT_CTRL_EN k then (v.enableObj 2 k).latReturn k else v).get Reg.LAT_STATUS_Q_STATE k = 0 := fun hen hq => by
    rw [if_pos (hen1.trans hen)]
    exact enableLateral_runs (hq1.trans hq)
  generalize (if v.flag Reg.LAT_CTRL_EN k then (v.enableObj 2 k).latReturn k else v) = w at ht2 hm2 hq2
  have ht3 := refreshEng_touch w
  exact ⟨(ht3.flagRow _ hk (by decide)).trans ((ht2.flagRow _ hk (by decide)).trans hheld), (refreshEng_core w).mbs.trans hm2,
    fun hen hq => (ht3.getRow Reg.LAT_STATUS_Q_STATE hk (by decide)).trans (hq2 hen hq)⟩

theorem engLatHold_holds (mb : Fin 8) (p : List Byte) (s : State) (hreq : s.request mb.val 0x0635 = some p) (hon : s.blocksOff = false) (hk : u8 p 0 < 32) (hhold : u8 p 1 ≠ 0)
    (hfree : ∀ j, j < 32 → s.flag Reg.LAT_STATUS_HELD j = false) (hact : ∃ j, j ∈ s.latsIn 0 ∧ j ≠ u8 p 0)
    (hfw : fwNeed s.mode ≤ ((s.latsIn 1).filter (fun j => j ≠ u8 p 0)).length) :
    (s.qState 2 (u8 p 0) = 0 → ∃ u, exec (.engLatHold mb) s = .next u ∧ RunsOn mb.val s u ∧ u.flag Reg.LAT_STATUS_HELD (u8 p 0) = true ∧ u.qState 2 (u8 p 0) = 1 ∧
      u.eng.holdMb = some (mb.val, u8 p 0)) ∧
    (s.qState 2 (u8 p 0) = 2 → ∃ u, exec (.engLatHold mb) s = .next u ∧ Answered mb.val ok s u ∧ u.flag Reg.LAT_STATUS_HELD (u8 p 0) = true ∧ u.eng = s.eng) := by
  have hothers : ¬((List.range 32).any (fun j => j ≠ u8 p 0 && s.flag Reg.LAT_STATUS_HELD j) = true) := by
    rw [List.any_eq_true]
    rintro ⟨j, hj, hbad⟩
    rw [hfree j (List.mem_range.1 hj), Bool.and_false] at hbad
    exact Bool.false_ne_true hbad
  have henough : ¬((((s.latsIn 0).filter (fun j => j ≠ u8 p 0)).isEmpty || decide (((s.latsIn 1).filter (fun j => j ≠ u8 p 0)).length < fwNeed s.mode)) = true) := by
    obtain ⟨j, hj, hne⟩ := hact
    have hmem : j ∈ (s.latsIn 0).filter (fun j => j ≠ u8 p 0) := List.mem_filter.2 ⟨hj, decide_eq_true hne⟩
    rw [List.isEmpty_eq_false_iff_exists_mem.2 ⟨j, hmem⟩, decide_eq_false (Nat.not_lt.2 hfw)]
    decide
  have hcmd : s.qState 2 (u8 p 0) ≠ 1 → (s.serving mb.val).latHold mb.val p =
      if s.qState 2 (u8 p 0) = 2 then ((s.serving mb.val).set Reg.LAT_STATUS_HELD 1 (u8 p 0), some ok) else ((s.serving mb.val).holdBegun mb.val (u8 p 0), none) := fun hq => by
    unfold State.latHold
    exact (if_neg (ne_true_of_eq_false hon)).trans ((if_neg hhold).trans ((if_neg hothers).trans ((if_neg (ne_true_of_eq_false (hfree _ hk))).trans ((if_neg henough).trans (if_neg hq)))))
  rw [engLatHold_eq]
  refine ⟨fun hq => ?_, fun hq => ?_⟩
  · obtain ⟨hheld, hq1, hmb, hmbs⟩ := holdBegun_shows (s := s.serving mb.val) hk hq mb.val
    have hc := (hcmd (by omega)).trans (if_neg (by omega))
    generalize (s.serving mb.val).holdBegun mb.val (u8 p 0) = v at hheld hq1 hmb hmbs hc
    refine actLong_runs_then hreq hc fun t he hrun => ⟨hrun.of_mbs hmbs, (he.touch.flagRow _ hk (by decide)).trans hheld, ?_, ?_⟩
    · exact (he.touch.getRow Reg.LAT_STATUS_Q_STATE hk (by decide)).trans hq1
    · exact (he.keeps (fun v => v.eng.holdMb) fun _ _ _ _ _ _ _ => rfl).trans hmb
  · obtain ⟨hheld, -⟩ := setHeld_shows (s.serving mb.val) (u8 p 0) true
    have hc := (hcmd (by omega)).trans (if_pos hq)
    have hmbs : ((s.serving mb.val).set Reg.LAT_STATUS_HELD 1 (u8 p 0)).mbs = s.mbs := set_mbs _ _ _ _ _
    have heng : ((s.serving mb.val).set Reg.LAT_STATUS_HELD 1 (u8 p 0)).eng = s.eng := rfl
    rw [show b2n true = 1 from rfl] at hheld
    generalize (s.serving mb.val).set Reg.LAT_STATUS_HELD 1 (u8 p 0) = v at hheld hmbs heng hc
    exact actLong_then hreq hc fun t he hans => ⟨hans.of_mbs hmbs, (he.answer_touch.flagRow _ hk (by decide)).trans hheld, (he.keeps State.eng fun _ _ _ _ _ _ _ => rfl).trans heng⟩

theorem engLatHold_releases (mb : Fin 8) (p : List Byte) (s : State) (hreq : s.request mb.val 0x0635 = some p) (hon : s.blocksOff = false) (hhold : u8 p 1 = 0) (hk : u8 p 0 < 32) :
    (s.flag Reg.LAT_STATUS_HELD (u8 p 0) = false → ∃ u, exec (.engLatHold mb) s = .next u ∧ OnlyAnswered mb.val ok s u) ∧
    (s.flag Reg.LAT_STATUS_HELD (u8 p 0) = true → ∃ u, exec (.engLatHold mb) s = .next u ∧ Answered mb.val ok s u ∧ u.flag Reg.LAT_STATUS_HELD (u8 p 0) = false ∧
      (s.flag Reg.LAT_CTRL_EN (u8 p 0) = true → s.qState 2 (u8 p 0) = 2 → u.qState 2 (u8 p 0) = 0)) := by
  have hcmd : (s.serving mb.val).latHold mb.val p =
      if !s.flag Reg.LAT_STATUS_HELD (u8 p 0) then (s.serving mb.val, some ok) else ((s.serving mb.val).holdReleased (u8 p 0), some ok) := by
    unfold State.latHold
    exact (if_neg (ne_true_of_eq_false hon)).trans (if_pos hhold)
  rw [engLatHold_eq]
  refine ⟨fun hheld => ?_, fun hheld => ?_⟩
  · rw [hheld] at hcmd
    exact actLong_only hreq hcmd
  · rw [hheld] at hcmd
    obtain ⟨hoff, hmbs, hruns⟩ := holdReleased_shows (s := s.serving mb.val) hk
    have hc := hcmd.trans (if_neg (by decide))
    generalize (s.serving mb.val).holdReleased (u8 p 0) = v at hoff hmbs hruns hc
    refine actLong_then hreq hc fun t he hans => ⟨hans.of_mbs hmbs, (he.answer_touch.flagRow _ hk (by decide)).trans hoff, fun hen hq => ?_⟩
    exact (he.answer_touch.getRow Reg.LAT_STATUS_Q_STATE hk (by decide)).trans (hruns hen hq)

theorem engLatHoldDone_answers (mb k : Nat) (s : State) (hmb : s.eng.holdMb = some (mb, k)) (hq : s.qState 2 k = 2) (hrun : (s.mbox mb).phase = .running) :
    ∃ u, exec .engLatHoldDone s = .next u ∧ Answered mb ok s u ∧ u.eng = { s.eng with holdMb := none } := by
  show ∃ u, execEngLatHoldDone s = _ ∧ _
  unfold execEngLatHoldDone
  rw [hmb]
  dsimp only
  rw [if_neg (not_not.2 hq)]
  exact done_finish_then hrun fun t he hans => ⟨hans.of_mbs rfl, he.keeps State.eng fun _ _ _ _ _ _ _ => rfl⟩

/-- Settles O40. -/
theorem engineControlDispatchAndState : Obligations.EngineControlDispatchAndState :=
  ⟨taskDispatch_starts, taskCommit_commits, lateralConvert_converts, engImageLoad_stages, engImageLoad_ends, engLatHold_holds, engLatHold_releases, engLatHoldDone_answers,
    engStateRead_returns, engStateWrite_writes⟩

end Sys2Proof.Machine
end

section
/-! SUPPORT. Transactions open, commit and end (O37). -/

namespace Sys2Proof.Machine

/-! ### The checks do not look at which mailbox was served last -/

/-- A check that looks at the states as mailbox `m` is served. -/
def Check.served (m : Nat) (c : Check) : Check := { c with bad := fun own s t => c.bad own (s.serving m) (t.serving m) }

section
variable (m : Nat)

theorem ctlChecks_served : ctlChecks.map (Check.served m) = ctlChecks := by
  unfold ctlChecks
  simp only [List.map_append, List.map_flatMap, List.map_map, List.map_cons, List.map_nil]
  rfl

theorem modeChecks_served : modeChecks.map (Check.served m) = modeChecks := by
  unfold modeChecks
  simp only [List.map_cons, List.map_nil]
  rfl

theorem convChecks_served : convChecks.map (Check.served m) = convChecks := by
  unfold convChecks
  simp only [List.map_cons, List.map_nil]
  rfl

theorem rxChecks_served : rxChecks.map (Check.served m) = rxChecks := by
  unfold rxChecks
  simp only [List.map_append, List.map_flatMap, List.map_cons, List.map_nil]
  rfl

theorem txChecks_served : txChecks.map (Check.served m) = txChecks := by
  unfold txChecks
  simp only [List.map_append, List.map_flatMap, List.map_map, List.map_cons, List.map_nil]
  rfl

theorem serving_profiles (s : State) : (s.serving m).profiles = s.profiles := rfl

theorem burstChecks_served : burstChecks.map (Check.served m) = burstChecks := by
  unfold burstChecks
  simp only [List.map_cons, List.map_nil, Check.served, serving_profiles]
  rfl

theorem fecChecks_served : fecChecks.map (Check.served m) = fecChecks := by
  unfold fecChecks
  simp only [List.map_cons, List.map_nil]
  rfl

theorem frmChecks_served : frmChecks.map (Check.served m) = frmChecks := by
  unfold frmChecks
  simp only [List.map_cons, List.map_nil]
  rfl

theorem tsiChecks_served : tsiChecks.map (Check.served m) = tsiChecks := by
  unfold tsiChecks
  simp only [List.map_cons, List.map_nil]
  rfl

theorem cipherChecks_served : cipherChecks.map (Check.served m) = cipherChecks := by
  unfold cipherChecks
  simp only [List.map_cons, List.map_nil]
  rfl

theorem intakeChecks_served : intakeChecks.map (Check.served m) = intakeChecks := by
  unfold intakeChecks
  simp only [List.map_cons, List.map_nil]
  rfl

theorem headgateChecks_served : headgateChecks.map (Check.served m) = headgateChecks := by
  unfold headgateChecks
  simp only [List.map_cons, List.map_nil]
  rfl

theorem engChecks_served : engChecks.map (Check.served m) = engChecks := by
  unfold engChecks
  simp only [List.map_cons, List.map_nil]
  rfl

theorem lanesChecks_served : lanesChecks.map (Check.served m) = lanesChecks := by
  unfold lanesChecks
  simp only [List.map_append, List.map_flatMap, List.map_map, List.map_cons, List.map_nil]
  rfl

theorem moduleChecks_served : moduleChecks.map (Check.served m) = moduleChecks := by
  unfold moduleChecks
  simp only [List.map_append, List.map_flatMap, List.map_cons, List.map_nil]
  rfl

theorem timingChecks_served : timingChecks.map (Check.served m) = timingChecks := by
  unfold timingChecks
  simp only [List.map_append, List.map_cons, List.map_nil]
  rfl

theorem monitorChecks_served : monitorChecks.map (Check.served m) = monitorChecks := by
  unfold monitorChecks
  simp only [List.map_append, List.map_map, List.map_cons, List.map_nil]
  rfl

theorem perfChecks_served : perfChecks.map (Check.served m) = perfChecks := by
  unfold perfChecks
  simp only [List.map_cons, List.map_nil]
  rfl

theorem powerChecks_served : powerChecks.map (Check.served m) = powerChecks := by
  unfold powerChecks
  simp only [List.map_cons, List.map_nil]
  rfl

theorem allChecks_served : allChecks.map (Check.served m) = allChecks := by
  unfold allChecks
  simp only [List.map_append, ctlChecks_served, modeChecks_served, convChecks_served, rxChecks_served, txChecks_served, burstChecks_served, fecChecks_served, frmChecks_served,
    tsiChecks_served, cipherChecks_served, intakeChecks_served, headgateChecks_served, engChecks_served, lanesChecks_served, moduleChecks_served, timingChecks_served,
    monitorChecks_served, perfChecks_served, powerChecks_served]

end

/-! ### Commands that are staged do not look at which mailbox was served last -/

section
variable (m : Nat) (s : State)

theorem serving_set (f : Field) (v i j : Nat) : (s.serving m).set f v i j = (s.set f v i j).serving m := id rfl

theorem serving_setReg (a : Nat) (w : Word) : (s.serving m).setReg a w = (s.setReg a w).serving m := id rfl

theorem serving_setWord (a k v : Nat) : setWord (s.serving m) a k v = (setWord s a k v).serving m := id rfl

theorem get_served (f : Field) (i j : Nat) : (s.serving m).get f i j = s.get f i j := id rfl

theorem flag_served (f : Field) (i j : Nat) : (s.serving m).flag f i j = s.flag f i j := id rfl

theorem serving_ite {c : Prop} [Decidable c] (t : State) : (if c then s.serving m else t.serving m) = (if c then s else t).serving m :=
  (apply_ite (fun v : State => v.serving m) c s t).symm

theorem serving_foldl {α : Type} {f : State → α → State} (h : ∀ (v : State) x, f (v.serving m) x = (f v x).serving m) (l : List α) : l.foldl f (s.serving m) = (l.foldl f s).serving m := by
  induction l generalizing s with
  | nil => rfl
  | cons x l ih => rw [List.foldl_cons, List.foldl_cons, h, ih]

theorem serving_setCount (c : Ctr) (v i j : Nat) : (s.serving m).setCount c v i j = (s.setCount c v i j).serving m := by
  unfold State.setCount
  simp only [serving_setReg, serving_ite]

theorem serving_count (c : Ctr) (i j : Nat) : (s.serving m).count c i j = s.count c i j := id rfl

theorem serving_bump (c : Ctr) (i j n : Nat) : (s.serving m).bump c i j n = (s.bump c i j n).serving m := by
  unfold State.bump
  simp only [serving_setCount, serving_count, serving_ite]

theorem serving_log (wb type : Nat) (d : List Byte) : (s.serving m).log wb type d = (s.log wb type d).serving m := by
  unfold State.log
  dsimp only
  rw [show (s.serving m).logs = s.logs from rfl]
  split
  · rfl
  · rw [serving_bump, serving_set]

theorem serving_setWordState (mem inst word v : Nat) : (s.serving m).setWordState mem inst word v = (s.setWordState mem inst word v).serving m := id rfl

theorem serving_fireFlip (mem inst word : Nat) : (s.serving m).fireFlip mem inst word = (s.fireFlip mem inst word).serving m := by
  have hmem : ∀ (v : State) (x : MemState), ({ v.serving m with mem := x } : State) = ({ v with mem := x } : State).serving m := fun _ _ => id rfl
  have hget : ∀ v : State, (v.serving m).mem = v.mem := fun _ => id rfl
  unfold State.fireFlip
  simp only [serving_setWordState, hget, hmem, serving_set, get_served, serving_ite, serving_log]

theorem serving_memWrite (mem inst word : Nat) (poison : Bool) : (s.serving m).memWrite mem inst word poison = (s.memWrite mem inst word poison).serving m := by
  unfold State.memWrite
  simp only [serving_setWordState, flag_served, get_served, serving_fireFlip, serving_ite]

theorem serving_memWrites2 (mem word n : Nat) : (s.serving m).memWrites2 mem word n = (s.memWrites2 mem word n).serving m := by
  unfold State.memWrites2
  simp only [serving_foldl, serving_setWordState, serving_memWrite, eq_self, implies_true]

theorem applyConv_serving (c : Staged) : applyConv c (s.serving m) = (applyConv c s).serving m := by
  unfold applyConv
  simp only [serving_set, serving_ite, serving_foldl, eq_self, implies_true]

theorem applyRx_serving (c : Staged) : applyRx c (s.serving m) = (applyRx c s).serving m := by
  unfold applyRx
  simp only [serving_set, serving_ite, serving_foldl, eq_self, implies_true]

theorem applyCtl_serving (c : Staged) : applyCtl c (s.serving m) = (applyCtl c s).serving m := by
  have hsys : ∀ (v : State) (x : SysState), ({ v.serving m with sys := x } : State) = ({ v with sys := x } : State).serving m := fun _ _ => id rfl
  have hget : ∀ v : State, (v.serving m).sys = v.sys := fun _ => id rfl
  unfold applyCtl
  simp only [serving_set, serving_setReg, serving_setWord, serving_ite, serving_foldl, hsys, hget, eq_self, implies_true]

theorem applyFrm_serving (c : Staged) : applyFrm c (s.serving m) = (applyFrm c s).serving m := by
  unfold applyFrm
  simp only [serving_setReg, serving_setWord, serving_ite]

theorem applyFec_serving (c : Staged) : applyFec c (s.serving m) = (applyFec c s).serving m := by
  unfold applyFec
  simp only [serving_set, serving_ite]

theorem serving_putCurve (base : Nat) (p : List Byte) (off : Nat) : (s.serving m).putCurve base p off = (s.putCurve base p off).serving m := by
  unfold State.putCurve
  simp only [serving_foldl, serving_setWord, eq_self, implies_true]

theorem applyTx_serving (c : Staged) : applyTx c (s.serving m) = (applyTx c s).serving m := by
  unfold applyTx
  simp only [serving_set, serving_setReg, serving_setWord, serving_ite, serving_foldl, serving_putCurve, eq_self, implies_true]

theorem applyHeadgate_serving (c : Staged) : applyHeadgate c (s.serving m) = (applyHeadgate c s).serving m := by
  have hset : ∀ (v : State) (i : Nat) (x : Policer), (v.serving m).setPolicer i x = (v.setPolicer i x).serving m := fun _ _ _ => id rfl
  have hget : ∀ (v : State) (i : Nat), (v.serving m).policer i = v.policer i := fun _ _ => id rfl
  have hclock : ∀ v : State, (v.serving m).clock = v.clock := fun _ => id rfl
  unfold applyHeadgate
  simp only [serving_set, serving_setWord, serving_ite, serving_foldl, hset, hget, hclock, eq_self, implies_true]

theorem applyIntake_serving (c : Staged) : applyIntake c (s.serving m) = (applyIntake c s).serving m := by
  have hset : ∀ (v : State) (x : PktState), ({ v.serving m with pk := x } : State) = ({ v with pk := x } : State).serving m := fun _ _ => id rfl
  have hget : ∀ v : State, (v.serving m).pk = v.pk := fun _ => id rfl
  have hused : ∀ v : State, (v.serving m).ternUsed = v.ternUsed := fun _ => id rfl
  have hsys : ∀ v : State, (v.serving m).sys = v.sys := fun _ => id rfl
  unfold applyIntake
  simp only [serving_set, serving_setReg, serving_setWord, serving_foldl, serving_memWrite, hset, hget, hused, eq_self, implies_true]
  simp only [hsys, serving_ite]

theorem applyTsi_serving (c : Staged) : applyTsi c (s.serving m) = (applyTsi c s).serving m := by
  have hset : ∀ x : TsiState, ({ s.serving m with tsi := x } : State) = ({ s with tsi := x } : State).serving m := fun _ => id rfl
  have hget : (s.serving m).tsi = s.tsi := id rfl
  unfold applyTsi
  simp only [serving_setWord, serving_ite, hset, hget]

theorem applyModule_serving (c : Staged) : applyModule c (s.serving m) = (applyModule c s).serving m := by
  unfold applyModule
  simp only [serving_setWord, serving_ite, serving_foldl, serving_putCurve, eq_self, implies_true]

theorem applyLanes_serving (c : Staged) : applyLanes c (s.serving m) = (applyLanes c s).serving m := by
  unfold applyLanes
  simp only [serving_setWord, serving_ite]

theorem applyMem_serving (c : Staged) : applyMem c (s.serving m) = (applyMem c s).serving m := by
  unfold applyMem
  rw [serving_setWord, serving_ite]

theorem applyEng_serving (c : Staged) : applyEng c (s.serving m) = (applyEng c s).serving m := by
  unfold applyEng
  simp only [serving_set, serving_setWord, serving_ite, serving_foldl, eq_self, implies_true]

theorem applyPower_serving (c : Staged) : applyPower c (s.serving m) = (applyPower c s).serving m := by
  unfold applyPower
  rw [serving_setWord, serving_ite]

theorem applyPerf_serving (c : Staged) : applyPerf c (s.serving m) = (applyPerf c s).serving m := by
  unfold applyPerf
  simp only [serving_set, serving_setWord, serving_ite, serving_foldl, eq_self, implies_true]

theorem applyMonitor_serving (c : Staged) : applyMonitor c (s.serving m) = (applyMonitor c s).serving m := by
  unfold applyMonitor
  simp only [serving_set, serving_setReg, serving_setWord, serving_ite]

theorem applyTiming_serving (c : Staged) : applyTiming c (s.serving m) = (applyTiming c s).serving m := by
  unfold applyTiming
  simp only [serving_setWord, serving_ite]

/-! #### Leaves -/

theorem serving_setSerial (l v : Nat) : (s.serving m).setSerial l v = (s.setSerial l v).serving m := by
  unfold State.setSerial
  simp only [serving_set]

theorem serving_setLeafInfo (l : Nat) (x : LeafInfo) : (s.serving m).setLeafInfo l x = (s.setLeafInfo l x).serving m := id rfl

theorem leafInfo_served (l : Nat) : (s.serving m).leafInfo l = s.leafInfo l := id rfl

theorem leafState_served (l : Nat) : (s.serving m).leafState l = s.leafState l := id rfl

theorem serving_toLeafState (l new reason : Nat) : (s.serving m).toLeafState l new reason = (s.toLeafState l new reason).serving m := by
  unfold State.toLeafState
  simp only [serving_set, serving_log, leafState_served]

theorem serving_setQuench (kind idx : Nat) (q : Option Quench) : (s.serving m).setQuench kind idx q = (s.setQuench kind idx q).serving m := id rfl

theorem serving_enableObj (kind idx : Nat) : (s.serving m).enableObj kind idx = (s.enableObj kind idx).serving m := by
  unfold State.enableObj
  rw [show (s.serving m).qState kind idx = s.qState kind idx from rfl]
  split
  · exact serving_setQuench m s kind idx _
  · unfold State.setQState
    rw [serving_set, serving_setQuench]

theorem serving_startQuench (kind idx : Nat) : (s.serving m).startQuench kind idx = (s.startQuench kind idx).serving m := by
  unfold State.startQuench
  rw [show (s.serving m).qState kind idx = s.qState kind idx from rfl]
  split
  · unfold State.setQState
    rw [serving_set, serving_setQuench]
    rfl
  · exact serving_setQuench m s kind idx _
  · exact serving_setQuench m s kind idx _

theorem serving_switchIn (l : Nat) : (s.serving m).switchIn l = (s.switchIn l).serving m := by
  unfold State.switchIn
  simp only [serving_set, serving_toLeafState, leafInfo_served, serving_setLeafInfo, serving_enableObj]

theorem serving_switchOut (l : Nat) : (s.serving m).switchOut l = (s.switchOut l).serving m := by
  unfold State.switchOut
  simp only [serving_set, serving_toLeafState, leafInfo_served, serving_setLeafInfo, serving_startQuench]

theorem serving_refreshLeaves : (s.serving m).refreshLeaves = s.refreshLeaves.serving m := by
  have hreg : (s.serving m).registered = s.registered := id rfl
  unfold State.refreshLeaves
  simp only [flag_served, hreg, serving_set]

theorem serving_admitLeaf (p : List Byte) : (s.serving m).admitLeaf p = (s.admitLeaf p).serving m := by
  unfold State.admitLeaf
  simp only [leafState_served, flag_served, serving_set, serving_setReg, serving_log, serving_toLeafState, serving_enableObj, serving_switchIn, serving_switchOut, serving_ite,
    serving_refreshLeaves]

theorem applyBurst_serving (c : Staged) : applyBurst c (s.serving m) = (applyBurst c s).serving m := by
  unfold applyBurst
  simp only [serving_setWord, serving_foldl, serving_setSerial, leafInfo_served, serving_setLeafInfo, leafState_served, serving_toLeafState, serving_set, serving_setReg, serving_admitLeaf,
    serving_ite, eq_self, implies_true]

/-! #### The cipher -/

theorem serving_refKey (k : Nat) (up : Bool) : (s.serving m).refKey k up = (s.refKey k up).serving m := by
  unfold State.refKey
  simp only [get_served, serving_set]

theorem serving_dropKey (c : Nat) : (s.serving m).dropKey c = (s.dropKey c).serving m := by
  unfold State.dropKey
  simp only [flag_served, get_served, serving_refKey, serving_set, serving_ite]

theorem serving_setSalt (c : Nat) (v : BitVec 56) : (s.serving m).setSalt c v = (s.setSalt c v).serving m := id rfl

theorem serving_setTxCtr (c v : Nat) : (s.serving m).setTxCtr c v = (s.setTxCtr c v).serving m := by
  unfold State.setTxCtr
  simp only [serving_set]

theorem serving_setRxLast (c v : Nat) : (s.serving m).setRxLast c v = (s.setRxLast c v).serving m := by
  unfold State.setRxLast
  simp only [serving_set]

theorem serving_setCtxState (c v : Nat) : (s.serving m).setCtxState c v = (s.setCtxState c v).serving m := serving_set m s _ _ _ _

theorem serving_raiseCtr (c : Nat) : (s.serving m).raiseCtr c = (s.raiseCtr c).serving m := by
  have hslot : ∀ k, (s.serving m).keySlot k = s.keySlot k := fun _ => id rfl
  have htx : (s.serving m).txCtr c = s.txCtr c := id rfl
  unfold State.raiseCtr
  simp only [get_served, flag_served, hslot, htx, serving_setTxCtr, serving_bump, serving_set, serving_ite]

theorem serving_writeCtx (c key : Nat) (salt : BitVec 56) (dir : Bool) (tx rx : Nat) : (s.serving m).writeCtx c key salt dir tx rx = (s.writeCtx c key salt dir tx rx).serving m := by
  unfold State.writeCtx
  simp only [serving_dropKey, serving_setSalt, serving_refKey, serving_set, serving_setTxCtr, serving_setRxLast, serving_setCtxState, serving_memWrites2, serving_raiseCtr]

theorem serving_clearCtx (c : Nat) : (s.serving m).clearCtx c = (s.clearCtx c).serving m := by
  unfold State.clearCtx
  simp only [serving_dropKey, serving_setSalt, serving_set, serving_setTxCtr, serving_setRxLast, serving_setCtxState, serving_memWrites2]

theorem serving_placeKey (k use : Nat) (key : List Byte) (hw : Nat) : (s.serving m).placeKey k use key hw = (s.placeKey k use key hw).serving m := by
  have hslot : ∀ (v : State) (x : KeySlot), (v.serving m).setKeySlot k x = (v.setKeySlot k x).serving m := fun _ _ => id rfl
  unfold State.placeKey
  simp only [get_served, serving_set, serving_ite, hslot, serving_memWrites2]

theorem applyCipher_serving (c : Staged) : applyCipher c (s.serving m) = (applyCipher c s).serving m := by
  unfold applyCipher
  simp only [serving_set, serving_setWord, serving_writeCtx, serving_clearCtx, serving_placeKey, serving_ite]

/-! #### Validation -/

theorem applyStaged_serving (c : Staged) : applyStaged (s.serving m) c = (applyStaged s c).serving m := by
  unfold applyStaged
  simp only [applyCtl_serving, applyConv_serving, applyRx_serving, applyTx_serving, applyBurst_serving, applyFec_serving, applyFrm_serving, applyTsi_serving, applyCipher_serving,
    applyIntake_serving, applyHeadgate_serving, applyEng_serving, applyMem_serving, applyLanes_serving, applyModule_serving, applyTiming_serving, applyMonitor_serving, applyPerf_serving,
    applyPower_serving]

theorem serving_byAcceptance (mb : Nat) (l : List Nat) : (s.serving m).byAcceptance mb l = s.byAcceptance mb l := by
  induction l with
  | nil => rfl
  | cons a l ih =>
    unfold State.byAcceptance
    rw [ih]
    rfl

theorem serving_acceptedCmds : (s.serving m).acceptedCmds = s.acceptedCmds := by
  unfold State.acceptedCmds State.accepted
  simp only [serving_byAcceptance]
  rfl

theorem afterCommit_serving (own : List Staged) : (s.serving m).afterCommit own = (s.afterCommit own).serving m := by
  unfold State.afterCommit
  rw [serving_acceptedCmds]
  exact serving_foldl m s (applyStaged_serving m) _

end

/-- The failures of a list of checks, each with its code and its place. -/
def failures (cs : List Check) (own : List Staged) (old new : State) : List (Nat × Nat) := (cs.filter (fun c => c.bad own old new)).map (fun c => (c.code, c.place own))

theorem failures_serving (m : Nat) (own : List Staged) (old new : State) : failures allChecks own (old.serving m) (new.serving m) = failures allChecks own old new := by
  conv_rhs => rw [← allChecks_served m]
  unfold failures
  rw [List.filter_map, List.map_map]
  rfl

/-- Validation does not look at which mailbox was served last. -/
theorem firstFailure_serving (m : Nat) (own : List Staged) (s : State) : firstFailure own (s.serving m) ((s.serving m).afterCommit own) = firstFailure own s (s.afterCommit own) := by
  rw [afterCommit_serving]
  unfold firstFailure
  dsimp only
  rw [show (allChecks.filter (fun c => c.bad own (s.serving m) ((s.afterCommit own).serving m))).map (fun c => (c.code, c.place own)) = failures allChecks own s (s.afterCommit own) from
    failures_serving m own s (s.afterCommit own)]
  rfl

/-! ### Transactions (R663, R667–R672) -/

def rollbackPatches : List Patch := Reg.TSI_STATUS_STAGED.patch :: Cnt.ROLLBACKS.patches

theorem rollbackTxn_touch (s : State) (mb reason index : Nat) : Touch rollbackPatches s (s.rollbackTxn mb reason index) := by
  have htsi : Touch rollbackPatches s (s.tsiRelease (s.mbox mb).txn.staged) := .ite (fun _ => (Touch.refl _ s).set0 (by decide)) fun _ => .refl _ s
  unfold State.rollbackTxn
  dsimp only
  generalize s.tsiRelease (s.mbox mb).txn.staged = v at htsi
  generalize hw : v.setMbox mb _ = w
  have hw' : Touch rollbackPatches v w := .of_regs (hw ▸ rfl)
  exact ((htsi.trans hw').bump0 (by decide)).log _ _ _

/-- What TXN_BEGIN does. -/
def State.txnBegun (mb : Nat) (_ : List Byte) (s : State) : State × Reply :=
  if (s.mbox mb).txn.state = 1 || s.get Reg.FW_STATUS_STATE = 4 then (s, err cDENIED)
  else ({ s.setMbox mb { s.mbox mb with txn := { (s.mbox mb).txn with state := 1, id := s.nextTxn, staged := [], locks := [], boundary := none } } with nextTxn := s.nextTxn + 1 },
    okD (bytes 4 s.nextTxn.toNat))

theorem txnBegin_opens (mb : Fin 8) (p : List Byte) (s : State) (hreq : s.request mb.val 0x0201 = some p) (hidle : (s.mbox mb.val).txn.state ≠ 1) (hfw : s.get Reg.FW_STATUS_STATE ≠ 4) :
    ∃ t, exec (.txnBegin mb) s = .next t ∧ t.nextTxn = s.nextTxn + 1 ∧ (∀ k, k ≠ mb.val → t.mbox k = s.mbox k) ∧ RegsKept [0x12014] s t ∧
      t.mbox mb.val = ({ s.mbox mb.val with txn := { (s.mbox mb.val).txn with state := 1, id := s.nextTxn, staged := [], locks := [], boundary := none } } : Mailbox).answered
        (okD (bytes 4 s.nextTxn.toNat)) := by
  show ∃ t, act mb.val 0x0201 s (State.txnBegun mb.val) = .next t ∧ _
  have hgo : ¬(((s.mbox mb.val).txn.state = 1 || s.get Reg.FW_STATUS_STATE = 4) = true) := by simp [hidle, hfw]
  generalize hm : ({ s.mbox mb.val with txn := { (s.mbox mb.val).txn with state := 1, id := s.nextTxn, staged := [], locks := [], boundary := none } } : Mailbox) = m
  have hf : State.txnBegun mb.val p (s.serving mb.val) = ({ (s.serving mb.val).setMbox mb.val m with nextTxn := s.nextTxn + 1 }, okD (bytes 4 s.nextTxn.toNat)) := by
    rw [← hm]
    exact if_neg hgo
  generalize hu : ({ (s.serving mb.val).setMbox mb.val m with nextTxn := s.nextTxn + 1 } : State) = u at hf
  have hun : u.nextTxn = s.nextTxn + 1 := hu ▸ rfl
  have hum : u.mbs = ((s.serving mb.val).setMbox mb.val m).mbs := hu ▸ rfl
  have hur : ∀ a, u.reg a = s.reg a := hu ▸ fun _ => rfl
  refine act_then hreq hf fun t he hans => ⟨(he.keeps State.nextTxn fun _ _ _ _ _ _ _ => rfl).trans hun, fun k hk => ?_, fun a ha hq => (he.kept a ha hq).trans (hur a), ?_⟩
  · rw [hans.2 k hk, mbox_congr hum, mbox_setMbox_ne _ _ hk]
    rfl
  · rw [hans.1, mbox_congr hum, mbox_setMbox_self]

/-- The function of TXN_COMMIT. -/
def State.txnCommitted (mb : Nat) (_ : List Byte) (s : State) : State × Option Reply :=
  if (s.mbox mb).txn.state ≠ 1 then (s, some (err cNO_TXN))
  else if s.commitBusy (s.mbox mb).txn.staged then (s, some (err cBUSY))
  else if (s.mbox mb).txn.staged.isEmpty then s.emptyCommit mb
  else
    match firstFailure (s.mbox mb).txn.staged s (s.afterCommit (s.mbox mb).txn.staged) with
    | some (code, idx) => ((s.bump Cnt.VALIDATION_FAILS).rollbackTxn mb code idx, some { code := cROLLED_BACK, reason := code, index := idx })
    | none => (s.acceptCommit mb (s.afterCommit (s.mbox mb).txn.staged), none)

theorem execTxnCommit_eq (mb : Fin 8) (s : State) : exec (.txnCommit mb) s = actLong mb.val 0x0202 s (State.txnCommitted mb.val) := by
  show execTxnCommit mb s = _
  unfold execTxnCommit
  rfl

section
variable {mb : Nat} {p : List Byte} {s : State}

theorem txnCommitted_empty (hopen : (s.mbox mb).txn.state = 1) (hfree : s.commitBusy (s.mbox mb).txn.staged = false) (h : (s.mbox mb).txn.staged = []) :
    State.txnCommitted mb p (s.serving mb) = (s.serving mb).emptyCommit mb := by
  have hemp : (s.mbox mb).txn.staged.isEmpty = true := by rw [h]; rfl
  unfold State.txnCommitted
  exact (if_neg (not_not.2 hopen)).trans ((if_neg (ne_true_of_eq_false hfree)).trans (if_pos hemp))

theorem txnCommitted_staged (hopen : (s.mbox mb).txn.state = 1) (hfree : s.commitBusy (s.mbox mb).txn.staged = false) (h : (s.mbox mb).txn.staged ≠ []) :
    (∀ code idx, firstFailure (s.mbox mb).txn.staged s (s.afterCommit (s.mbox mb).txn.staged) = some (code, idx) →
      State.txnCommitted mb p (s.serving mb) = (((s.serving mb).bump Cnt.VALIDATION_FAILS).rollbackTxn mb code idx, some { code := cROLLED_BACK, reason := code, index := idx })) ∧
    (firstFailure (s.mbox mb).txn.staged s (s.afterCommit (s.mbox mb).txn.staged) = none →
      State.txnCommitted mb p (s.serving mb) = ((s.serving mb).acceptCommit mb ((s.serving mb).afterCommit (s.mbox mb).txn.staged), none)) := by
  have hemp : ¬(s.mbox mb).txn.staged.isEmpty = true := by simpa using h
  have hbox : (s.serving mb).mbox mb = s.mbox mb := rfl
  unfold State.txnCommitted
  rw [hbox, if_neg (not_not.2 hopen), show (s.serving mb).commitBusy (s.mbox mb).txn.staged = false from hfree, if_neg (by decide), if_neg hemp, firstFailure_serving]
  refine ⟨fun code idx hfail => ?_, fun hnone => ?_⟩
  · rw [hfail]
  · rw [hnone]

end

/-- An empty commit ends its transaction at once. -/
theorem emptyCommit_ends (s : State) (mb : Nat) :
    ∃ u m r, s.emptyCommit mb = (u, some r) ∧ u.mbox mb = m ∧ m.txn.state = 3 ∧ m.txn.locks = [] ∧ (∀ k, k ≠ mb → u.mbox k = s.mbox k) ∧
      u.count Cnt.COMMITS = min (s.count Cnt.COMMITS + 1) 0xFFFFFFFF := by
  unfold State.emptyCommit
  dsimp only
  generalize hm : ({ s.mbox mb with txn := { (s.mbox mb).txn with state := 3, locks := [], lastMfn := 0xFFFFFFFF } } : Mailbox) = m
  have hst : m.txn.state = 3 := hm ▸ rfl
  have hlk : m.txn.locks = [] := hm ▸ rfl
  have hself : (s.setMbox mb m).mbox mb = m := mbox_setMbox_self _ _ _
  have hne : ∀ k, k ≠ mb → (s.setMbox mb m).mbox k = s.mbox k := fun k hk => mbox_setMbox_ne _ _ hk
  have hcount : (s.setMbox mb m).count Cnt.COMMITS = s.count Cnt.COMMITS := rfl
  generalize s.setMbox mb m = v at hself hne hcount
  have hmbs : (v.bump Cnt.COMMITS).mbs = v.mbs := (regsLogs_bump _ _ _ _ _).keeps State.mbs fun _ _ _ => rfl
  refine ⟨v.bump Cnt.COMMITS, m, _, rfl, (mbox_congr hmbs mb).trans hself, hst, hlk, fun k hk => (mbox_congr hmbs k).trans (hne k hk), ?_⟩
  rw [count_bump_one _ _ _ _ _ rfl, hcount]

theorem acceptCommit_mbox (s : State) (mb : Nat) (new : State) :
    (s.acceptCommit mb new).mbs = (s.setMbox mb { s.mbox mb with txn := { (s.mbox mb).txn with state := 2, acceptedAt := s.clock, order := s.nextOrder } }).mbs := by
  have heng : ∀ (v : State) (cs : List Staged), (State.engAccept cs v).mbs = v.mbs := fun v cs => by
    unfold State.engAccept
    split
    · rfl
    · rfl
  have hload : ∀ (v n o : State) (cs : List Staged), (v.queueLoads cs o n).mbs = v.mbs := fun v n o cs => by
    unfold State.queueLoads
    exact foldl_keeps State.mbs (g := fun s _ => s.busPush { activation := true }) (fun _ _ => rfl) _ v
  unfold State.acceptCommit
  dsimp only
  rw [heng, hload]

theorem txnCommit_ends (mb : Fin 8) (p : List Byte) (s : State) (hreq : s.request mb.val 0x0202 = some p) (hopen : (s.mbox mb.val).txn.state = 1)
    (hfree : s.commitBusy (s.mbox mb.val).txn.staged = false) :
    ∃ t, exec (.txnCommit mb) s = .next t ∧ (∀ k, k ≠ mb.val → (t.mbox k).txn = (s.mbox k).txn) ∧
      ((s.mbox mb.val).txn.staged = [] → (t.mbox mb.val).txn.state = 3 ∧ (t.mbox mb.val).txn.locks = [] ∧ (t.mbox mb.val).phase = .idle ∧
        t.count Cnt.COMMITS = min (s.count Cnt.COMMITS + 1) 0xFFFFFFFF) ∧
      ((s.mbox mb.val).txn.staged ≠ [] → firstFailure (s.mbox mb.val).txn.staged s (s.afterCommit (s.mbox mb.val).txn.staged) = none →
        t.mbox mb.val = { s.mbox mb.val with phase := .running, txn := { (s.mbox mb.val).txn with state := 2, acceptedAt := s.clock, order := s.nextOrder } }) ∧
      (∀ code idx, (s.mbox mb.val).txn.staged ≠ [] → firstFailure (s.mbox mb.val).txn.staged s (s.afterCommit (s.mbox mb.val).txn.staged) = some (code, idx) →
        (t.mbox mb.val).txn.state = 4 ∧ (t.mbox mb.val).txn.staged = [] ∧ (t.mbox mb.val).txn.locks = [] ∧ (t.mbox mb.val).txn.reason = code ∧
        (t.mbox mb.val).txn.index = idx ∧ (t.mbox mb.val).phase = .idle ∧ t.count Cnt.VALIDATION_FAILS = min (s.count Cnt.VALIDATION_FAILS + 1) 0xFFFFFFFF) := by
  rw [execTxnCommit_eq]
  by_cases hemp : (s.mbox mb.val).txn.staged = []
  · obtain ⟨u, m, r, hu, hm, hst, hlk, hne, hcount⟩ := emptyCommit_ends (s.serving mb.val) mb.val
    refine actLong_then hreq ((txnCommitted_empty hopen hfree hemp).trans hu) fun t he hans => ⟨fun k hk => ?_, fun _ => ?_, fun h => absurd hemp h, fun _ _ h => absurd hemp h⟩
    · rw [hans.2 k hk, hne k hk]
      rfl
    · rw [hans.1, hm, txn_answered]
      exact ⟨hst, hlk, rfl, (he.answer_touch.count0 Cnt.COMMITS (by decide)).trans hcount⟩
  · obtain ⟨hfails, hpasses⟩ := txnCommitted_staged (p := p) hopen hfree hemp
    cases hfail : firstFailure (s.mbox mb.val).txn.staged s (s.afterCommit (s.mbox mb.val).txn.staged) with
    | none =>
      have hmbs := acceptCommit_mbox (s.serving mb.val) mb.val ((s.serving mb.val).afterCommit (s.mbox mb.val).txn.staged)
      have hf := hpasses hfail
      generalize (s.serving mb.val).acceptCommit mb.val ((s.serving mb.val).afterCommit (s.mbox mb.val).txn.staged) = u at hmbs hf
      refine actLong_runs_then hreq hf fun t he hrun => ⟨fun k hk => ?_, fun h => absurd h hemp, fun _ _ => ?_, fun _ _ _ h => nomatch h⟩
      · rw [hrun.2 k hk, mbox_congr hmbs, mbox_setMbox_ne _ _ hk]
        rfl
      · rw [hrun.1, mbox_congr hmbs, mbox_setMbox_self]
        rfl
    | some f =>
      obtain ⟨code, idx⟩ := f
      have hf := hfails code idx hfail
      have hcount : ((s.serving mb.val).bump Cnt.VALIDATION_FAILS).count Cnt.VALIDATION_FAILS = min (s.count Cnt.VALIDATION_FAILS + 1) 0xFFFFFFFF := count_bump_one _ _ _ _ _ rfl
      have hmbs : ((s.serving mb.val).bump Cnt.VALIDATION_FAILS).mbs = s.mbs := (regsLogs_bump _ _ _ _ _).keeps State.mbs fun _ _ _ => rfl
      generalize (s.serving mb.val).bump Cnt.VALIDATION_FAILS = v at hf hcount hmbs
      have hbox := rollbackTxn_mbox v mb.val code idx
      have hreg := (rollbackTxn_touch v mb.val code idx).count0 Cnt.VALIDATION_FAILS (by decide)
      generalize v.rollbackTxn mb.val code idx = u at hf hbox hreg
      refine actLong_then hreq hf fun t he hans => ⟨fun k hk => ?_, fun h => absurd h hemp, fun _ h => (nomatch h), fun c i _ h => ?_⟩
      · rw [hans.2 k hk, hbox, if_neg hk, mbox_congr hmbs]
      · obtain ⟨rfl, rfl⟩ := Prod.mk.inj (Option.some.inj h)
        rw [hans.1, hbox, if_pos rfl, txn_answered]
        exact ⟨rfl, rfl, rfl, rfl, rfl, rfl, (he.answer_touch.count0 Cnt.VALIDATION_FAILS (by decide)).trans (hreg.trans hcount)⟩

theorem txnRollback_rolls (mb : Fin 8) (p : List Byte) (s : State) (hreq : s.request mb.val 0x0203 = some p) (hopen : (s.mbox mb.val).txn.state = 1) :
    ∃ t, exec (.txnRollback mb) s = .next t ∧ (t.mbox mb.val).txn.state = 4 ∧ (t.mbox mb.val).txn.reason = cROLLED_BACK ∧ (t.mbox mb.val).txn.staged = [] ∧
      (t.mbox mb.val).txn.locks = [] ∧ (t.mbox mb.val).phase = .idle := by
  show ∃ t, execTxnRollback mb s = _ ∧ _
  unfold execTxnRollback
  refine act_then (u := (s.serving mb.val).rollbackTxn mb.val cROLLED_BACK 0) (r := ok) hreq (if_neg (not_not.2 hopen)) fun t _ hans => ?_
  rw [hans.1, rollbackTxn_mbox, if_pos rfl, txn_answered]
  exact ⟨rfl, rfl, rfl, rfl, rfl⟩

/-- TXN_END of a mailbox shows. -/
theorem txnEnd_shows (s : State) {mb : Nat} (hmb : mb < 8) : ((s.txnEnd mb).get Reg.MB_EVENTS_TXN_END).testBit mb = true := by
  unfold State.txnEnd
  rw [get_set_self _ _ _ _ _ (by decide), Nat.testBit_mod_two_pow]
  simp [Reg.MB_EVENTS_TXN_END, hmb, Nat.testBit_or, Nat.testBit_two_pow_self]

theorem txnIdleTimeout_ends (mb : Fin 8) (s : State) (hopen : (s.mbox mb.val).txn.state = 1) (hidle : (s.mbox mb.val).phase = .idle ∨ (s.mbox mb.val).opcode ≠ 0x0202)
    (hlate : (s.mbox mb.val).txn.lastCmd + 130000000000 ≤ s.clock) :
    ∃ t, exec (.txnIdleTimeout mb) s = .next t ∧ (t.mbox mb.val).txn.state = 4 ∧ (t.mbox mb.val).txn.reason = cTIMEOUT ∧ (t.mbox mb.val).txn.locks = [] ∧
      t.count Cnt.TXN_TIMEOUTS = min (s.count Cnt.TXN_TIMEOUTS + 1) 0xFFFFFFFF ∧ (t.get Reg.MB_EVENTS_TXN_END).testBit mb.val = true := by
  show ∃ t, execTxnIdleTimeout mb s = _ ∧ _
  unfold execTxnIdleTimeout
  have hdue : ¬s.clock < (s.mbox mb.val).txn.lastCmd + secT 10 := Nat.not_lt.2 hlate
  have hgo : ¬(((s.mbox mb.val).txn.state ≠ 1 || ((s.mbox mb.val).phase ≠ .idle && (s.mbox mb.val).opcode = 0x0202) || s.clock < (s.mbox mb.val).txn.lastCmd + secT 10) = true) := by
    rw [decide_eq_false hdue]
    rcases hidle with h | h
    · simp [hopen, h]
    · simp [hopen, h]
  dsimp only
  rw [if_neg hgo]
  have hbox := rollbackTxn_mbox s mb.val cTIMEOUT 0 mb.val
  rw [if_pos rfl] at hbox
  have hcount := (rollbackTxn_touch s mb.val cTIMEOUT 0).count0 Cnt.TXN_TIMEOUTS (by decide)
  generalize s.rollbackTxn mb.val cTIMEOUT 0 = v at hbox hcount
  have hone : (v.bump Cnt.TXN_TIMEOUTS).count Cnt.TXN_TIMEOUTS = min (s.count Cnt.TXN_TIMEOUTS + 1) 0xFFFFFFFF := by rw [count_bump_one _ _ _ _ _ rfl, hcount]
  have hmbs : (v.bump Cnt.TXN_TIMEOUTS).mbs = v.mbs := (regsLogs_bump _ _ _ _ _).keeps State.mbs fun _ _ _ => rfl
  generalize v.bump Cnt.TXN_TIMEOUTS = w at hone hmbs
  have hend := txnEnd_shows w mb.isLt
  have htouch : Touch [Reg.MB_EVENTS_TXN_END.patch] w (w.txnEnd mb.val) := (Touch.refl _ w).set0 (by decide)
  have hwm : (w.txnEnd mb.val).mbs = w.mbs := set_mbs _ _ _ _ _
  generalize w.txnEnd mb.val = u at hend htouch hwm
  refine done_then fun t he hm => ?_
  rw [mbox_congr (hm.trans (hwm.trans hmbs)), hbox]
  exact ⟨rfl, rfl, rfl, (he.touch.count0 Cnt.TXN_TIMEOUTS (by decide)).trans ((htouch.count0 _ (by decide)).trans hone), (congrArg (·.testBit mb.val) (he.touch.get0 Reg.MB_EVENTS_TXN_END (by decide))).trans hend⟩

/-- The boundary of a mailbox's commit: its staging space is free and the others stay. -/
theorem passBoundary_mbox (s : State) (mb k : Nat) :
    (k = mb → ((s.passBoundary mb).mbox k).txn.staged = [] ∧ ((s.passBoundary mb).mbox k).txn.boundary.isSome = true) ∧ (k ≠ mb → (s.passBoundary mb).mbox k = s.mbox k) := by
  unfold State.passBoundary
  dsimp only
  refine ⟨fun hk => ?_, fun hk => mbox_setMbox_ne _ _ hk⟩
  rw [hk, mbox_setMbox_self]
  exact ⟨rfl, rfl⟩

theorem passBoundaries_mbox {l : List Nat} {mb : Nat} (h : mb ∈ l) (s : State) :
    ((l.foldl State.passBoundary s).mbox mb).txn.staged = [] ∧ ((l.foldl State.passBoundary s).mbox mb).txn.boundary.isSome = true := by
  have hstep : ∀ (v : State) (k : Nat), ((v.mbox mb).txn.staged = [] ∧ (v.mbox mb).txn.boundary.isSome = true) ∨ k = mb →
      ((v.passBoundary k).mbox mb).txn.staged = [] ∧ ((v.passBoundary k).mbox mb).txn.boundary.isSome = true := fun v k hv => by
    by_cases hk : mb = k
    · exact (passBoundary_mbox v k mb).1 hk
    · rw [(passBoundary_mbox v k mb).2 hk]
      exact hv.resolve_right fun e => hk e.symm
  induction l generalizing s with
  | nil => exact absurd h List.not_mem_nil
  | cons k l ih =>
    rw [List.foldl_cons]
    by_cases hl : mb ∈ l
    · exact ih hl _
    · have hk : k = mb := ((List.mem_cons.1 h).resolve_right hl).symm
      have hrest : ∀ (l : List Nat) (v : State), (v.mbox mb).txn.staged = [] ∧ (v.mbox mb).txn.boundary.isSome = true →
          ((l.foldl State.passBoundary v).mbox mb).txn.staged = [] ∧ ((l.foldl State.passBoundary v).mbox mb).txn.boundary.isSome = true := fun l => by
        induction l with
        | nil => exact fun _ hv => hv
        | cons j l ihl => exact fun v hv => ihl _ (hstep v j (.inl hv))
      exact hrest l _ (hstep s k (.inr hk))

theorem commitBoundary_passes (mb : Nat) (s : State) (hdue : mb ∈ s.commitsDue) :
    ∃ t, exec .commitBoundary s = .next t ∧ (t.mbox mb).txn.staged = [] ∧ (t.mbox mb).txn.boundary.isSome = true ∧
      (∀ a, a ∉ squelchWords → t.reg a = ((s.commitsDue.foldl State.passBoundary (s.swapIn (s.commitsDue.flatMap (fun k => (s.mbox k).txn.staged)))).beginMultiframe).reg a) := by
  show ∃ t, execCommitBoundary s = _ ∧ _
  have hrun : execCommitBoundary s = done s (s.commitsDue.foldl State.passBoundary (s.swapIn (s.commitsDue.flatMap (fun k => (s.mbox k).txn.staged)))).beginMultiframe := by
    unfold execCommitBoundary
    split
    · next hnil =>
      rw [hnil] at hdue
      exact absurd hdue List.not_mem_nil
    · rfl
  rw [hrun]
  have hpass := passBoundaries_mbox hdue (s.swapIn (s.commitsDue.flatMap (fun k => (s.mbox k).txn.staged)))
  generalize s.commitsDue.foldl State.passBoundary (s.swapIn (s.commitsDue.flatMap (fun k => (s.mbox k).txn.staged))) = v at hpass ⊢
  have hmbs := (beginMultiframe_core v).mbs
  generalize v.beginMultiframe = u at hmbs ⊢
  refine done_then fun t he hm => ?_
  rw [mbox_congr (hm.trans hmbs)]
  exact ⟨hpass.1, hpass.2, fun a ha => he.kept a List.not_mem_nil ha⟩

theorem txnCommitDone_answers (mb : Fin 8) (b : Word × Nat × Nat) (s : State) (hstate : (s.mbox mb.val).txn.state = 2) (hb : (s.mbox mb.val).txn.boundary = some b)
    (hrun : (s.mbox mb.val).phase = .running) :
    ∃ t, exec (.txnCommitDone mb) s = .next t ∧ t.count Cnt.COMMITS = min (s.count Cnt.COMMITS + 1) 0xFFFFFFFF ∧ (∀ k, k ≠ mb.val → t.mbox k = s.mbox k) ∧
      t.mbox mb.val = ({ s.mbox mb.val with txn := { (s.mbox mb.val).txn with state := 3, locks := [], lastMfn := b.1, boundary := none } } : Mailbox).answered
        (okD (bytes 4 (s.mbox mb.val).txn.id.toNat ++ bytes 4 b.1.toNat ++ bytes 8 b.2.1)) := by
  show ∃ t, execTxnCommitDone mb s = _ ∧ _
  unfold execTxnCommitDone
  dsimp only
  rw [hb]
  dsimp only
  rw [if_neg (not_not.2 hstate)]
  generalize hm : ({ s.mbox mb.val with txn := { (s.mbox mb.val).txn with state := 3, locks := [], lastMfn := b.1, boundary := none } } : Mailbox) = m
  have hmr : m.phase = .running := (hm ▸ rfl : m.phase = (s.mbox mb.val).phase).trans hrun
  have hself : (s.setMbox mb.val m).mbox mb.val = m := mbox_setMbox_self _ _ _
  have hne : ∀ k, k ≠ mb.val → (s.setMbox mb.val m).mbox k = s.mbox k := fun k hk => mbox_setMbox_ne _ _ hk
  have hcount : (s.setMbox mb.val m).count Cnt.COMMITS = s.count Cnt.COMMITS := rfl
  generalize s.setMbox mb.val m = v at hself hne hcount
  have hmbs : (v.bump Cnt.COMMITS).mbs = v.mbs := (regsLogs_bump _ _ _ _ _).keeps State.mbs fun _ _ _ => rfl
  have hone : (v.bump Cnt.COMMITS).count Cnt.COMMITS = min (s.count Cnt.COMMITS + 1) 0xFFFFFFFF := by rw [count_bump_one _ _ _ _ _ rfl, hcount]
  generalize v.bump Cnt.COMMITS = u at hmbs hone
  have hbox : ∀ k, u.mbox k = v.mbox k := mbox_congr hmbs
  refine done_finish_then (by rw [hbox, hself, hmr]) fun t he hans => ⟨(he.answer_touch.count0 Cnt.COMMITS (by decide)).trans hone, fun k hk => ?_, ?_⟩
  · rw [hans.2 k hk, hbox, hne k hk]
  · rw [hans.1, hbox, hself]
    rfl

/-! ### A restart of the firmware (R662, R674) -/

/-- What a restart leaves of mailbox `k`. -/
structure Restarted (s t : State) (k : Nat) : Prop where
  rolled : (s.mbox k).txn.state = 1 → (t.mbox k).txn.state = 4 ∧ (t.mbox k).txn.reason = cBUSY ∧ (t.mbox k).txn.locks = []
  idle : (s.mbox k).txn.state ≠ 2 → (t.mbox k).phase = .idle

/-- A pending command is answered BUSY and what runs for it answers nobody. -/
def State.busyAnswered (s : State) (mb : Nat) : State := if (s.mbox mb).phase = .idle then s else (s.answer mb (err cBUSY)).disown mb

/-- A transaction rolled back by a restart, with TXN_END. -/
def State.restartRolled (s : State) (mb : Nat) : State := ((s.rollbackTxn mb cBUSY 0).txnEnd mb).busyAnswered mb

theorem restartMailbox_eq (s : State) (mb : Nat) :
    s.restartMailbox mb = if (s.mbox mb).txn.state = 2 then (if (s.shadowsWritten mb).1 then (s.shadowsWritten mb).2 else (s.shadowsWritten mb).2.restartRolled mb)
      else if (s.mbox mb).txn.state = 1 then s.restartRolled mb
      else s.busyAnswered mb := rfl

def restartPatches : List Patch := rollbackPatches ++ [wordPatch 0x12014]

theorem answer_touch (s : State) (mb : Nat) (r : Reply) : Touch restartPatches s (s.answer mb r) :=
  .mono (Touch.of_words (but := [0x12014]) fun a ha _ => answer_reg s mb r (by simpa using ha)) (by decide)

section
variable (s : State) (mb : Nat)

theorem busyAnswered_touch : Touch restartPatches s (s.busyAnswered mb) :=
  .ite (fun _ => .refl _ s) fun _ => .trans (answer_touch s mb _) (.of_regs rfl)

theorem busyAnswered_mbox : ((s.busyAnswered mb).mbox mb).phase = .idle ∧ ((s.busyAnswered mb).mbox mb).txn = (s.mbox mb).txn ∧ ∀ k, k ≠ mb → (s.busyAnswered mb).mbox k = s.mbox k := by
  have hdis : ∀ (v : State) (k : Nat), (v.disown mb).mbox k = v.mbox k := fun _ _ => rfl
  unfold State.busyAnswered
  split
  · next h => exact ⟨h, rfl, fun _ _ => rfl⟩
  · refine ⟨?_, ?_, fun k hk => ?_⟩
    · rw [hdis, answer_mbox, phase_answered]
    · rw [hdis, answer_mbox, txn_answered]
    · rw [hdis, answer_mbox_ne _ _ hk]

theorem shadowsWritten_kept : (s.shadowsWritten mb).2.regs = s.regs ∧ (s.shadowsWritten mb).2.mbs = s.mbs := by
  unfold State.shadowsWritten
  dsimp only
  split
  · exact ⟨rfl, rfl⟩
  · exact ⟨rfl, rfl⟩

theorem restartRolled_touch : Touch restartPatches s (s.restartRolled mb) := by
  have h1 : Touch restartPatches s (s.rollbackTxn mb cBUSY 0) := (rollbackTxn_touch s mb cBUSY 0).mono (by decide)
  unfold State.restartRolled
  generalize s.rollbackTxn mb cBUSY 0 = v at h1
  have h2 : Touch restartPatches v (v.txnEnd mb) := (Touch.refl _ v).set0 (by decide)
  exact (h1.trans h2).trans (busyAnswered_touch _ mb)

theorem restartRolled_mbox : ((s.restartRolled mb).mbox mb).phase = .idle ∧ ((s.restartRolled mb).mbox mb).txn.state = 4 ∧ ((s.restartRolled mb).mbox mb).txn.reason = cBUSY ∧
    ((s.restartRolled mb).mbox mb).txn.locks = [] ∧ ∀ k, k ≠ mb → (s.restartRolled mb).mbox k = s.mbox k := by
  have hbox := rollbackTxn_mbox s mb cBUSY 0
  have hself := hbox mb
  rw [if_pos rfl] at hself
  unfold State.restartRolled
  generalize s.rollbackTxn mb cBUSY 0 = v at hbox hself
  have hm : (v.txnEnd mb).mbs = v.mbs := set_mbs _ _ _ _ _
  generalize v.txnEnd mb = w at hm
  obtain ⟨hidle, htxn, hne⟩ := busyAnswered_mbox w mb
  rw [htxn, mbox_congr hm, hself]
  exact ⟨hidle, rfl, rfl, rfl, fun k hk => by rw [hne k hk, mbox_congr hm, hbox, if_neg hk]⟩

theorem restartMailbox_touch : Touch restartPatches s (s.restartMailbox mb) := by
  have hw : Touch restartPatches s (s.shadowsWritten mb).2 := .of_regs (shadowsWritten_kept s mb).1
  rw [restartMailbox_eq]
  exact .ite (fun _ => .ite (fun _ => hw) fun _ => hw.trans (restartRolled_touch _ mb)) fun _ => .ite (fun _ => restartRolled_touch s mb) fun _ => busyAnswered_touch s mb

theorem restartMailbox_mbox_ne {k : Nat} (hk : k ≠ mb) : (s.restartMailbox mb).mbox k = s.mbox k := by
  have hw : (s.shadowsWritten mb).2.mbox k = s.mbox k := mbox_congr (shadowsWritten_kept s mb).2 k
  rw [restartMailbox_eq]
  split
  · split
    · exact hw
    · exact ((restartRolled_mbox _ mb).2.2.2.2 k hk).trans hw
  · split
    · exact (restartRolled_mbox s mb).2.2.2.2 k hk
    · exact (busyAnswered_mbox s mb).2.2 k hk

theorem restartMailbox_self : Restarted s (s.restartMailbox mb) mb := by
  rw [restartMailbox_eq]
  by_cases h2 : (s.mbox mb).txn.state = 2
  · rw [if_pos h2]
    refine ⟨fun h => ?_, fun h => absurd h2 h⟩
    rw [h2] at h
    exact absurd h (by decide)
  · rw [if_neg h2]
    by_cases h1 : (s.mbox mb).txn.state = 1
    · rw [if_pos h1]
      obtain ⟨hidle, hst, hreason, hlocks, -⟩ := restartRolled_mbox s mb
      exact ⟨fun _ => ⟨hst, hreason, hlocks⟩, fun _ => hidle⟩
    · rw [if_neg h1]
      exact ⟨fun h => absurd h h1, fun _ => (busyAnswered_mbox s mb).1⟩

end

theorem Restarted.congr {s s' t t' : State} {k : Nat} (h : Restarted s t k) (hs : s'.mbox k = s.mbox k) (ht : t'.mbox k = t.mbox k) : Restarted s' t' k :=
  ⟨by rw [hs, ht]; exact h.rolled, by rw [hs, ht]; exact h.idle⟩

theorem restartMailboxes_restarted (s : State) {k : Nat} (hk : k < 8) : Restarted s ((List.range 8).foldl State.restartMailbox s) k :=
  foldl_reaches (P := fun v => v.mbox k = s.mbox k) (Q := fun v => Restarted s v k) (List.mem_range.2 hk) List.nodup_range
    (fun x _ hx v hv => (restartMailbox_mbox_ne v x hx.symm).trans hv) (fun v hv => (restartMailbox_self v k).congr hv.symm rfl)
    (fun x _ hx v hv => hv.congr rfl (restartMailbox_mbox_ne v x hx.symm)) rfl

theorem omrekRestart_restarts (word : Nat) (s : State) (hup : s.get Reg.FW_STATUS_STATE = 2 ∨ s.get Reg.FW_STATUS_STATE = 4) :
    ∃ t, exec (.omrekRestart word) s = .next t ∧ t.count Cnt.FW_RESTARTS = min (s.count Cnt.FW_RESTARTS + 1) 0xFFFFFFFF ∧ t.flag Reg.MEM_EVENTS_POISON_BITE = true ∧
      (∀ k, k < 8 → (s.mbox k).txn.state = 1 → (t.mbox k).txn.state = 4 ∧ (t.mbox k).txn.reason = cBUSY ∧ (t.mbox k).txn.locks = []) ∧
      (∀ k, k < 8 → (s.mbox k).txn.state ≠ 2 → (t.mbox k).phase = .idle) := by
  show ∃ t, execOmrekRestart word s = _ ∧ _
  unfold execOmrekRestart
  rw [if_neg (by rcases hup with h | h <;> simp [h])]
  dsimp only
  have hread : Touch memReadPatches s (s.uncorrectable 13 0 (word % 262144) 12) := uncorrectable_touch s (by decide) _ _ _
  have hm1 : (s.uncorrectable 13 0 (word % 262144) 12).mbs = s.mbs := (uncorrectable_rest s 13 0 (word % 262144) 12).keeps State.mbs fun _ _ _ _ => rfl
  have hc1 := hread.count0 Cnt.FW_RESTARTS (by decide)
  generalize s.uncorrectable 13 0 (word % 262144) 12 = v1 at hm1 hc1
  have hbite : (v1.set Reg.MEM_EVENTS_POISON_BITE 1).flag Reg.MEM_EVENTS_POISON_BITE = true := flag_set_self _ _ _ _ _ (by decide)
  have hc2 : (v1.set Reg.MEM_EVENTS_POISON_BITE 1).count Cnt.FW_RESTARTS = s.count Cnt.FW_RESTARTS :=
    (Touch.count0 ((Touch.refl [Reg.MEM_EVENTS_POISON_BITE.patch] v1).set0 (by decide)) Cnt.FW_RESTARTS (by decide)).trans hc1
  have hm2 : (v1.set Reg.MEM_EVENTS_POISON_BITE 1).mbs = s.mbs := (set_mbs _ _ _ _ _).trans hm1
  generalize v1.set Reg.MEM_EVENTS_POISON_BITE 1 = v2 at hbite hc2 hm2
  have hc3 : (v2.bump Cnt.FW_RESTARTS).count Cnt.FW_RESTARTS = min (s.count Cnt.FW_RESTARTS + 1) 0xFFFFFFFF := by rw [count_bump_one _ _ _ _ _ rfl, hc2]
  have hb3 : (v2.bump Cnt.FW_RESTARTS).flag Reg.MEM_EVENTS_POISON_BITE = true := (flag_bump_ne _ _ _ _ _ _ _ _ (by decide)).trans hbite
  have hm3 : (v2.bump Cnt.FW_RESTARTS).mbs = s.mbs := ((regsLogs_bump _ _ _ _ _).keeps State.mbs fun _ _ _ => rfl).trans hm2
  generalize v2.bump Cnt.FW_RESTARTS = v at hc3 hb3 hm3
  have htouch : Touch restartPatches v ((List.range 8).foldl State.restartMailbox v) := .foldl (fun k _ w => restartMailbox_touch w k) (.refl _ v)
  have hall : ∀ k, k < 8 → Restarted s ((List.range 8).foldl State.restartMailbox v) k := fun k hk => (restartMailboxes_restarted v hk).congr (mbox_congr hm3 k).symm rfl
  generalize (List.range 8).foldl State.restartMailbox v = u at htouch hall
  refine done_then fun t he hm => ⟨(he.touch.count0 Cnt.FW_RESTARTS (by decide)).trans ((htouch.count0 Cnt.FW_RESTARTS (by decide)).trans hc3), ?_, fun k hk => ?_, fun k hk => ?_⟩
  · exact (he.touch.flag0 Reg.MEM_EVENTS_POISON_BITE (by decide)).trans ((htouch.flag0 Reg.MEM_EVENTS_POISON_BITE (by decide)).trans hb3)
  · rw [mbox_congr hm]
    exact (hall k hk).rolled
  · rw [mbox_congr hm]
    exact (hall k hk).idle

/-- Settles O37. -/
theorem transactionsOpenCommitAndEnd : Obligations.TransactionsOpenCommitAndEnd :=
  ⟨txnBegin_opens, txnCommit_ends, txnRollback_rolls, txnIdleTimeout_ends, commitBoundary_passes, txnCommitDone_answers, omrekRestart_restarts⟩

end Sys2Proof.Machine
end
